-- ==== Sys2Proof/Word.lean ====
section
/-! DEFINITION. The word types of the Noene: bytes, register words and the 64-bit values that 64-bit registers and
device physical addresses take (00_scope.md R2; 01_node_processor_overview.md R11). -/

namespace Sys2Proof

/-- One byte of a byte-addressed space. -/
abbrev Byte := BitVec 8

/-- One half-word: a Syncen status code, an opcode or an index field. -/
abbrev W16 := BitVec 16

/-- One register word (R2: every register is 32 bits wide unless its table states otherwise). -/
abbrev W32 := BitVec 32

/-- The value of a 64-bit register or a 64-bit scratchpad word. -/
abbrev W64 := BitVec 64

end Sys2Proof
end

