-- ==== Sys2Proof/Syntax.lean ====
section
/-! DEFINITION. The commands of the Noene, one constructor per row of the opcode table, and the operand types they
carry. The table names no operand fields of its own: each command carries what its rule says arrives with it. -/

namespace Sys2Proof

/-- Who makes a register access: the host through BAR0 or BAR4, one of the 33 control cores (32 is TS), a requester
inside the device that is no control core, or the JTAG port (R4, R318, R377). -/
inductive Requester where
  | host
  | core (c : Fin 33)
  | engine
  | jtag
deriving DecidableEq, Repr

/-- The address space of a register access: the register range R3, the instance pages of BAR4 (R347), or PCIe
configuration space (R324). -/
inductive RegSpace where
  | bar0 | bar4 | config
deriving DecidableEq, Repr

/-- Where a Syncen request came from: a mailbox of the MBX block (R365) or an instance page (R347). -/
inductive SynPort where
  | mailbox (m : Fin 8)
  | page (i : Fin 2048)
deriving DecidableEq, Repr

/-- An indirect descriptor (R368), with the outcome of the host read of its payload. -/
structure SynInd where
  rspAddr : BitVec 64
  rspLen : BitVec 32
  readOk : Bool
deriving DecidableEq, Repr

/-- The header of a Syncen request (R366). `short` says that LENGTH is below the opcode's required fields (R367).
(Log entry 10: DESIGN CHOICE, unsafe.) -/
structure SynReq where
  port : SynPort
  major : BitVec 8
  minor : BitVec 8
  tag : BitVec 16
  inst : BitVec 16
  short : Bool
  ind : Option SynInd
deriving DecidableEq, Repr

/-- A fault source report: SOURCE, UNIT and DETAIL of R423. -/
structure FaultRep where
  source : BitVec 8
  unit : BitVec 16
  detail : BitVec 32
deriving DecidableEq, Repr


/-- What starts a wake from Overcast (R62): a doorbell naming a tail, or a TARGET write. -/
inductive WakeCause where
  | doorbell (tail : BitVec 16)
  | target (t : BitVec 2)
deriving DecidableEq, Repr


/-- How a flag is named: a physical flag, or a virtual identifier in a context through one of the nine translation
caches (8: the I/O die's), with the fabric's REMOTE right needed or not (R67 to R69). -/
inductive FlagName where
  | phys (p : Fin 262144)
  | virt (cache : Fin 9) (ctx : BitVec 12) (vflag : BitVec 24) (fabric : Bool)
deriving DecidableEq, Repr

/-- The other operations on the same flag that flag storage accepts in the same cycle (R74): how many sets, whether a
clear and a clear-OVERSET, who waits, who competes to consume, and the arbitration cycles since the group's lottery last
drew. (Log entry 41: DESIGN CHOICE, safe.) -/
structure FlagMeet where
  sets : Nat
  clear : Bool
  clearOver : Bool
  waits : List (BitVec 16)
  takes : List (BitVec 16)
  gap : Nat
deriving DecidableEq, Repr


/-- The sampler fields of SYN_ELAND_ATTACH and SYN_ELAND_SET (R156, R162); FP32 values as their bits. -/
structure SamplerSpec where
  temp : BitVec 32
  topp : BitVec 32
  repPen : BitVec 32
  presPen : BitVec 32
  freqPen : BitVec 32
  repWin : BitVec 16
  topk : BitVec 8
  dlen : BitVec 8
  logprob : Bool
deriving DecidableEq, Repr

/-- What SYN_ELAND_ATTACH names beside the stream and sampler fields (R162). `either` is cohort 2. -/
structure AttachSpec where
  either : Bool
  cohort : Bool
  maxTokens : BitVec 32
  stops : List (BitVec 32)
  clientId : BitVec 64
  outChan : BitVec 12
  listAddr : BitVec 64
  nt : Nat
  pf : Nat
deriving DecidableEq, Repr

/-- What SYN_ELAND_CONFIG names; LAUNCH_LEAD_NS and TAIL_LIMIT_NS may be left at their defaults (R162). -/
structure ElandConfigSpec where
  period : BitVec 32
  t0 : BitVec 64
  lead : Option (BitVec 32)
  limit : Option (BitVec 32)
  vocab : BitVec 32
  dBase : BitVec 52
  dCount : Nat
  hBase : BitVec 52
  hCount : Nat
deriving DecidableEq, Repr

/-- Where an HBM request comes from (R177): a cluster's descriptor of a CLASS, which ARB_CLASSMAP maps to a line, or an
engine of one of the eight arbiter lines. -/
inductive HbmSource where
  | cluster (cls : BitVec 6)
  | line (l : Fin 8)
deriving DecidableEq, Repr


/-- A received transport packet: the fields of the transport header of R214 and its payload. `roce` marks a packet of an
Ethernet port, whose BTH, RETH and AETH fields stand in the same places, and `ce` its ECN-CE mark (R234). -/
structure TrnPkt where
  port : Fin 32
  roce : Bool
  tc : Fin 8
  sig : Bool
  poison : Bool
  path : BitVec 16
  dstAddr : BitVec 32
  srcAddr : BitVec 32
  dstConn : BitVec 20
  psn : BitVec 32
  msn : BitVec 32
  offset : BitVec 32
  total : BitVec 32
  mkey : BitVec 32
  signal : BitVec 24
  raddr : BitVec 64
  chdr : Option (List (BitVec 8))
  data : List (BitVec 8)
  ce : Bool
deriving DecidableEq, Repr

/-- Where the transport engine takes a message request from (R215): its firmware ring, an instance's transport request
ring, or an internal requester handing it the 64 bytes. -/
inductive MsgSource where
  | ring
  | queue (q : Fin 4096)
  | internal (who : Fin 8) (req : List (BitVec 8))
deriving DecidableEq, Repr


/-- What SYN_TRN_CONN_CREATE gives a connection (R238). TYPE: false Damoa, true RoCEv2. -/
structure ConnSpec where
  roce : Bool
  consumer : Nat
  tc : Nat
  pmtu : Nat
  domain : BitVec 16
  fctx : Nat
  portmask : BitVec 32
  peerAddr : BitVec 32
  addrRec : List (BitVec 8)
  rxq : Nat
deriving DecidableEq, Repr

/-- One window of SYN_TRN_PWIN_SET: its number and staged values (R229, R238). -/
structure PeerWinSpec where
  win : Fin 64
  target : BitVec 40
  en : Bool
  log2 : BitVec 6
  rights : BitVec 2
deriving DecidableEq, Repr

/-- A gate list entry as a request carries it (R251). -/
structure GateSpec where
  interval : BitVec 32
  gates : BitVec 8
deriving DecidableEq, Repr

/-- What SYN_TG_QUERY names (R261). -/
inductive TgQuery where
  | port (p : Fin 32)
  | shaper (i : Fin 4096)
  | policer (i : Fin 1024)
deriving DecidableEq, Repr


/-- What SYN_PKT_MACSEC_SA_SET names (R277, R281). -/
structure MsecSpec where
  port : Fin 8
  tx : Bool
  sci : BitVec 64
  an : Fin 4
  slot : BitVec 12
  ssci : BitVec 32
  salt : List (BitVec 8)
  pn : BitVec 64
deriving DecidableEq, Repr

/-- How a block's access to host memory ends: done, address not translated for the PASID, data marked poisoned, or
host mastering lost while it was outstanding. (Log entry 156: DESIGN CHOICE, safe.) -/
inductive DmaOut where
  | ok | untranslated | poisoned | mastering
deriving DecidableEq, Repr

/-- Parameters of SYN_STO_QUEUE_CREATE (R299). -/
structure StoQueueSpec where
  queue : Option (Fin 4096)
  sq : BitVec 64
  cq : BitVec 64
  log2n : BitVec 8
  vector : BitVec 16
  coalCount : BitVec 8
  coalUs : BitVec 8
  tickets : BitVec 16
  maxinfl : BitVec 16
deriving DecidableEq, Repr

/-- What SYN_STO_QUERY names (R299). -/
inductive StoQuery where
  | queue (n : Fin 4096)
  | drive (d : Fin 4)
  | controller (c : Fin 64)
deriving DecidableEq, Repr

/-- How a remote target answers Fabrics Connect (R297, R299): with its controller's properties and namespaces
(volatile write cache, largest transfer in blocks, each namespace's NSID, size and whether R283's format holds), with
a refusal, or not yet. -/
inductive StoConnect where
  | accepted (vwc : Bool) (mdts : Nat) (nss : List (Nat × Nat × Bool))
  | refused
  | none
deriving DecidableEq, Repr


/-- Where a message of the message engine comes from (R313): the firmware request ring, or the checkpoint engine. -/
inductive SecSource where
  | ring
  | internal (desc : List (BitVec 8))
deriving DecidableEq, Repr


/-- The queue kinds of R349 other than storage. -/
inductive QKind where
  | receive | transmit | transport
deriving DecidableEq, Repr

/-- Parameters of SYN_INST_QUEUE_CREATE (R357). -/
structure InstQueueSpec where
  ring : BitVec 64
  cplRing : BitVec 64
  log2n : BitVec 8
  vector : BitVec 16
  buflen : BitVec 16
  channel : BitVec 16
  qshaper : BitVec 16
  qshEn : Bool
deriving DecidableEq, Repr


/-- One AVSBus reading of an adaptive rail (R406): mV, current in 0.1 A, whether the regulator answered, whether Status
reports a fault, and the Status byte. -/
structure RailRead where
  mv : BitVec 16
  da : BitVec 16
  answered : Bool
  fault : Bool
  status : BitVec 8
deriving DecidableEq, Repr

/-- Work that is runnable in a governor window, in deadline order (R411 to R413): its CLASS, KiB touched, 10^6 matrix
MAC, and its compute die, none for an engine's work. -/
structure PwrWork where
  cls : Fin 64
  kib : Nat
  mmac : Nat
  die : Option (Fin 8)
deriving DecidableEq, Repr

/-- Parameters of SYN_TEL_EXPORT_SET (R418, R421). -/
structure ExportSpec where
  enable : Bool
  channel : BitVec 16
  domain : BitVec 32
  pen : BitVec 32
  periodMs : Option Nat
  templateS : Option Nat
  mtu : Option Nat
deriving DecidableEq, Repr


/-- A PROPOSE (R460, R461): one this node makes as the surviving member of lowest rank, naming the failed rank and its
place in the spare list, or one that reaches it as a witness. -/
inductive CkpProposal where
  | make (rank : BitVec 16) (spare : Nat)
  | receive (conn : BitVec 20) (msn : BitVec 32)
deriving DecidableEq, Repr


/-- A root port whose link has come up: an accelerator port, or a drive port with what its controller reports (width,
volatile write cache, largest transfer in blocks, namespaces as in StoConnect). -/
inductive RootLink where
  | accel (p : Fin 8)
  | drive (d : Fin 4) (width : BitVec 4) (vwc : Bool) (mdts : Nat) (nss : List (Nat × Nat × Bool))
deriving DecidableEq, Repr

/-- An operation of the test access port (R318, R319, R435; 17 R361 for the BOOT_HOLD command). -/
inductive JtagOp where
  /-- Boundary scan: the pins are sampled. -/
  | boundary
  /-- The challenge data register. -/
  | challenge
  /-- The token data register. -/
  | token (t : List (BitVec 8))
  /-- A debug command to the ROM that waits with BOOT_HOLD set. -/
  | bootHold (command : BitVec 32)
  /-- FLT_INJ_ADDR and FLT_INJ. -/
  | inject (addr : BitVec 64) (v : BitVec 32)
  /-- A read or write of the device address space. -/
  | read (addr : BitVec 52) (len : BitVec 8)
  | write (addr : BitVec 52) (data : List (BitVec 8))
deriving DecidableEq, Repr


/-- The commands of the block: one constructor per row of the opcode table, with the row's operands. -/
inductive Instr where
  /-- R4: A write to a register that has no row of its own stores, discards or refuses the access by the access rules and the register's access type. -/
  | registerWrite (q : Requester) (space : RegSpace) (off : BitVec 26) (data : List (BitVec 8))
  /-- R338: Assertion and release of PERST_N performs a full device reset and restarts the endpoint, boot ROM and clocks. -/
  | perstN (high : Bool) (straps : BitVec 8)
  /-- R338: A hot reset from the host is a full device reset. -/
  | hotReset
  /-- R338: Loss of the host link is handled as a hot reset. -/
  | dlDown
  /-- R338: A write of the key value to DEV_RESET causes a full device reset 1 µs later. -/
  | devReset (q : Requester) (v : BitVec 32)
  /-- R481: VDD_AON and VIO_AON come into range, the crystal starts and the always-on island leaves reset. -/
  | alwaysOnPowerUp
  /-- R481: A main rail below its minimum for 1 µs after PERST_N release reports fault source 0x0E and forces the safe state. -/
  | mainRailUndervoltage (rail : BitVec 16) (mv : BitVec 32)
  /-- R404: A reference clock missing or more than 1,000 ppm off for 10 µs is reported as a fatal fault. -/
  | referenceClockLoss (unit : Fin 3) (ppm : BitVec 32)
  /-- R42: A write to either half of CLU_CMD_BASE while CMD_EN is zero sets the command-ring indices to zero. -/
  | cluCmdBaseWrite (q : Requester) (c : Fin 1024) (hi : Bool) (v : BitVec 32)
  /-- R42: A write to either half of CLU_CMPL_BASE while CMPL_EN is zero sets the completion-ring indices to zero and starts the first PHASE pass. -/
  | cluCmplBaseWrite (q : Requester) (c : Fin 1024) (hi : Bool) (v : BitVec 32)
  /-- R42: Setting a cluster's CMD_EN runs the configuration-consistency check and starts issue. -/
  | cmdEnSet (q : Requester) (c : Fin 1024) (v : BitVec 32)
  /-- R42: Clearing a cluster's CMD_EN stops issue while issued descriptors complete. -/
  | cmdEnClear (q : Requester) (c : Fin 1024) (v : BitVec 32)
  /-- R42: Setting a cluster's CMPL_EN runs the configuration-consistency check. -/
  | cmplEnSet (q : Requester) (c : Fin 1024) (v : BitVec 32)
  /-- R42: Clearing CMPL_EN takes effect only when CMD_EN is zero and no issued descriptor is outstanding. -/
  | cmplEnClear (q : Requester) (c : Fin 1024) (v : BitVec 32)
  /-- R43: A doorbell write records CMD_TAIL, or sets OVERRUN and HALTED when it names more descriptors than the ring holds. -/
  | cluDb (q : Requester) (c : Fin 1024) (v : BitVec 32)
  /-- R47: Firmware advances the completion-ring consumer index, freeing room for delayed completion records. -/
  | cluCmplHeadWrite (q : Requester) (c : Fin 1024) (v : BitVec 32)
  /-- R46: Writing one to CLU_ERR.HALTED resumes issue, refetching a descriptor whose fetch failed. -/
  | haltedResume (q : Requester) (c : Fin 1024) (v : BitVec 32)
  /-- R491: The front end completes a 64-byte descriptor fetch from the command ring, or halts on a fetch error. -/
  | descriptorFetch (c : Fin 1024)
  /-- R44: A fetched descriptor issues once its unit has a queue slot, its WAIT_OP holds and its ORDER condition is met, after the issue checks. -/
  | descriptorIssue (c : Fin 1024)
  /-- R45: A descriptor completes, translates SET_FLAG, writes its completion record when room exists, performs SET_OP and advances CMD_HEAD. -/
  | descriptorComplete (c : Fin 1024) (ix : BitVec 16)
  /-- R49: The front end completes a NOP descriptor. -/
  | nop (c : Fin 1024)
  /-- R75: A cluster makes one entry on a barrier unit. -/
  | barEnter (c : Fin 1024)
  /-- R50: The matrix unit multiplies A and B block records into the FP32 C matrix, optionally accumulating. -/
  | mma (c : Fin 1024)
  /-- R51: The vector unit computes an element-wise binary function of X and Y into Z. -/
  | vecBin (c : Fin 1024)
  /-- R51: The vector unit computes a fused multiply-add with Z as addend. -/
  | vecFma (c : Fin 1024)
  /-- R51: The vector unit computes a unary function of X into Z. -/
  | vecUn (c : Fin 1024)
  /-- R51: The vector unit reduces X to a sum, maximum or index of the maximum. -/
  | vecRed (c : Fin 1024)
  /-- R51: The vector unit writes the K largest elements of X with their indices. -/
  | vecTopk (c : Fin 1024)
  /-- R53: The vector unit writes uniform FP32 values from its own generator bank. -/
  | vecRand (c : Fin 1024)
  /-- R52: The special-function unit evaluates a transcendental or reciprocal function. -/
  | sfu (c : Fin 1024)
  /-- R54: The vector unit converts elements between formats with optional residual input and output and stochastic rounding. -/
  | cvt (c : Fin 1024)
  /-- R55: A mover copies LENGTH bytes between device physical addresses. -/
  | dmaCopy (c : Fin 1024) (mover : Fin 2)
  /-- R55: A mover copies ROWS strided rows. -/
  | dma2d (c : Fin 1024) (mover : Fin 2)
  /-- R55: A mover reads listed items and writes them contiguously. -/
  | dmaGather (c : Fin 1024) (mover : Fin 2)
  /-- R55: A mover reads contiguously and writes each item to its listed address. -/
  | dmaScatter (c : Fin 1024) (mover : Fin 2)
  /-- R55: A mover writes a 32-bit pattern repeatedly over LENGTH bytes. -/
  | dmaFill (c : Fin 1024) (mover : Fin 2)
  /-- R62: A write of CLU_PCTL.TARGET requests Clear, Haze or Overcast, or is held pending while MOVING is one. -/
  | targetWrite (q : Requester) (c : Fin 1024) (v : BitVec 32)
  /-- R61: A cluster idle for IDLE_HAZE × 64 cycles, or idle with TARGET 1, enters Haze. -/
  | hazeEntry (c : Fin 1024)
  /-- R62: A cluster with TARGET 2 that has become IDLE starts entry to Overcast. -/
  | overcastEntry (c : Fin 1024)
  /-- R62: Power switches open, STATE becomes 2, RETAINED is set and any pending request takes effect. -/
  | overcastEntryDone (c : Fin 1024)
  /-- R62: A doorbell with AUTOWAKE or a TARGET write starts a wake from Overcast. -/
  | overcastWake (q : Requester) (c : Fin 1024) (cause : WakeCause)
  /-- R62: The wake completes with banks zeroed, generators loaded, STATE 0 and descriptor fetch starting. -/
  | overcastWakeDone (c : Fin 1024)
  /-- R336: Clearing Bus Master Enable stops new host requests within 1 µs and completes host-dependent operations with 0x0011. -/
  | busMasterEnableClear
  /-- R336: Setting Bus Master Enable again releases records, completions and vectors owed to the host. -/
  | busMasterEnableSet
  /-- R65: A set operation reaches flag storage, making VALUE one and OVERSET one if already set. -/
  | flagSet (f : FlagName) (m : FlagMeet)
  /-- R65: A clear operation reaches flag storage. -/
  | flagClear (f : FlagName) (m : FlagMeet)
  /-- R65: A wait passes when VALUE is one, or holds its requester. -/
  | flagWait (who : BitVec 16) (f : FlagName) (m : FlagMeet)
  /-- R74: A wait-and-clear passes and consumes the flag, with one lottery draw among competitors. -/
  | flagWaitAndClear (who : BitVec 16) (f : FlagName) (m : FlagMeet)
  /-- R65: A clear-OVERSET operation reaches flag storage. -/
  | flagClearOverset (f : FlagName) (m : FlagMeet)
  /-- R69: A translation cache miss fetch returns a context record or group entry from HBM, or fails the translation. -/
  | flagTranslationFetch (cache : Fin 9) (ctx : BitVec 12) (vgroup : BitVec 18)
  /-- R70: Setting FLG_CTL.EN runs the configuration-consistency check. -/
  | flgEnSet (q : Requester) (v : BitVec 32)
  /-- R70: Clearing FLG_CTL.EN takes effect only when no barrier or command ring is enabled. -/
  | flgEnClear (q : Requester) (v : BitVec 32)
  /-- R69: A write to FLG_INVAL starts invalidation of a context or all contexts in the nine caches. -/
  | flgInval (q : Requester) (v : BitVec 32)
  /-- R69: Invalidation ends and BUSY clears once caches have dropped entries and old operations have been performed. -/
  | flgInvalDone
  /-- R493: A Tahr core's FLG_SIGNAL write with OP 0 sets a physical flag. -/
  | flgSignalSet (q : Requester) (p : BitVec 18)
  /-- R70: A Tahr core's FLG_SIGNAL write with OP 1 clears a physical flag. -/
  | flgSignalClear (q : Requester) (p : BitVec 18)
  /-- R70: A Tahr core's FLG_SIGNAL write with OP 2 clears a flag's OVERSET. -/
  | flgSignalClearOverset (q : Requester) (p : BitVec 18)
  /-- R76: A barrier unit takes one waiting entry per cycle by lottery and counts it toward the current or next round. -/
  | barrierEntry (b : Fin 4096) (gap : Nat)
  /-- R76: In the cycle after COUNT reaches EXPECT the round closes, entries complete and the close flag is set. -/
  | roundClose (b : Fin 4096)
  /-- R78: Setting BAR_CFG.EN zeroes ROUND, PARITY and counts and runs the configuration-consistency check. -/
  | barEnSet (q : Requester) (b : Fin 4096) (v : BitVec 32)
  /-- R77: Clearing BAR_CFG.EN completes outstanding entries with 0x0015 and zeroes both counts. -/
  | barEnClear (q : Requester) (b : Fin 4096) (v : BitVec 32)
  /-- R84: Setting COL_CTL.EN runs the configuration-consistency check. -/
  | colEnSet (q : Requester) (v : BitVec 32)
  /-- R84: Clearing COL_CTL.EN takes effect only when no queue's CMD_EN is one. -/
  | colEnClear (q : Requester) (v : BitVec 32)
  /-- R82: COL_GRP_LOAD with OP 0 copies a group record and member list on die and checks it. -/
  | colGrpLoad (q : Requester) (v : BitVec 32)
  /-- R84: COL_GRP_LOAD with OP 1 unloads a group. -/
  | colGrpUnload (q : Requester) (v : BitVec 32)
  /-- R84: COL_GRP_LOAD with OP 2 zeroes the LIVE bitmap and both halves of every residual buffer. -/
  | colGrpZeroResiduals (q : Requester) (v : BitVec 32)
  /-- R82: A load, unload or zeroing finishes and BUSY clears. -/
  | colGrpLoadDone
  /-- R83: A collective queue doorbell records the new tail or sets OVERRUN. -/
  | colDb (q : Requester) (n : Fin 32) (v : BitVec 32)
  /-- R83: A write to COL_CMD_BASE sets the queue's command indices to zero. -/
  | colCmdBaseWrite (q : Requester) (n : Fin 32) (hi : Bool) (v : BitVec 32)
  /-- R83: A write to COL_CMPL_BASE sets the queue's completion indices to zero. -/
  | colCmplBaseWrite (q : Requester) (n : Fin 32) (hi : Bool) (v : BitVec 32)
  /-- R83: Setting a collective queue's CMD_EN runs the configuration-consistency check. -/
  | colCmdEnSet (q : Requester) (n : Fin 32) (v : BitVec 32)
  /-- R83: Clearing a collective queue's CMD_EN stops activation. -/
  | colCmdEnClear (q : Requester) (n : Fin 32) (v : BitVec 32)
  /-- R83: Setting a collective queue's CMPL_EN runs the configuration-consistency check. -/
  | colCmplEnSet (q : Requester) (n : Fin 32) (v : BitVec 32)
  /-- R83: Firmware advances a collective queue's completion consumer index. -/
  | colCmplHeadWrite (q : Requester) (n : Fin 32) (v : BitVec 32)
  /-- R88: Writing one to COL_QERR.HALTED resumes activation. -/
  | colHaltedResume (q : Requester) (n : Fin 32) (v : BitVec 32)
  /-- R86: A collective descriptor activates once limits, WAIT_OP, ORDER and group idleness allow, after the activation checks, and sends READY. -/
  | collectiveActivate (n : Fin 32)
  /-- R86: A collective descriptor with opcode NOP completes. -/
  | collectiveNop (n : Fin 32)
  /-- R89: A reduce-scatter operation of a fabric or hub group. -/
  | reduceScatter (g : BitVec 12)
  /-- R89: An all-gather operation of a fabric or hub group. -/
  | allGather (g : BitVec 12)
  /-- R89: An all-reduce operation run as reduce-scatter then all-gather. -/
  | allReduce (g : BitVec 12)
  /-- R96: Expert dispatch sends each routed row to its destination up to CAP. -/
  | dispatch (g : BitVec 12)
  /-- R98: Expert combine returns each row record to its source rank. -/
  | combine (g : BitVec 12)
  /-- R91: The engine sends a chunk once it has consumed its E or G flag and holds READY from the member. The arbiter of
  `port` has counted `gap` cycles since its last draw, and those of other ports the cycles that `others` gives. -/
  | chunkSend (g : BitVec 12) (port : Fin 32) (others : List (Fin 32 × Nat)) (gap : Nat)
  /-- R95: A received collective data packet is checked and written at its staging or destination position. -/
  | collectiveData (conn : BitVec 20) (msn : BitVec 32)
  /-- R94: A received READY is checked and held for the active or next SEQ. -/
  | ready (conn : BitVec 20) (msn : BitVec 32)
  /-- R110: A received ABORT aborts the active operation with 0x0025. -/
  | abort (conn : BitVec 20) (msn : BitVec 32)
  /-- R110: An operation not complete within LIMIT_US of activation aborts with 0x0024. -/
  | collectiveTimeout (g : BitVec 12)
  /-- R110: The abort drain ends and the completion is written, or 0x0028 after LIMIT_US. -/
  | abortDrainDone (g : BitVec 12)
  /-- R88: An operation completes, commits its residual, writes its record, performs SET_OP and its barrier entry. -/
  | collectiveComplete (n : Fin 32) (ix : BitVec 16)
  /-- R107: COL_SLOT_CTL.COMMIT checks and copies the admin slot list and computes its takeover time. -/
  | slotCommit (q : Requester) (v : BitVec 32)
  /-- R107: COL_SLOT_CTL.CANCEL discards a pending slot list. -/
  | slotCancel (q : Requester) (v : BitVec 32)
  /-- R107: At time T the pending slot list becomes active at slot 0. -/
  | slotListTakeover
  /-- R105: The time counter reaches a multiple of 20,000 ns and the slot in force changes. -/
  | slotBoundary
  /-- R112: Loads a group from a supplied record and member list. -/
  | synColGroupCreate (r : SynReq) (g : BitVec 12) (rec_ : Vector (BitVec 8) 64) (members : List (BitVec 32))
  /-- R112: Unloads a group. -/
  | synColGroupDestroy (r : SynReq) (g : BitVec 12)
  /-- R111: Replaces a member, increments EPOCH, discards READYs, zeroes residuals and reloads the group. -/
  | synColGroupRebind (r : SynReq) (g : BitVec 12) (rank : BitVec 8) (entry : BitVec 32) (epoch : BitVec 16)
  /-- R112: Loads and commits a slot list. -/
  | synColSchedLoad (r : SynReq) (basetime : BitVec 64) (entries : List (BitVec 64))
  /-- R110: Aborts a group's active operation with 0x0027. -/
  | synColAbort (r : SynReq) (g : BitVec 12)
  /-- R112: Returns a group's active SEQ, EPOCH, LIVE bit and COL_DISCARD. -/
  | synColQuery (r : SynReq) (g : BitVec 12) (buffer : BitVec 15)
  /-- R138: Setting KV_CTL.EN runs the configuration-consistency check. -/
  | kvEnSet (q : Requester) (v : BitVec 32)
  /-- R138: Clearing KV_CTL.EN takes effect only when both rings are disabled. -/
  | kvEnClear (q : Requester) (v : BitVec 32)
  /-- R138: Setting JOB_EN runs the configuration-consistency check. -/
  | kvJobEnSet (q : Requester) (v : BitVec 32)
  /-- R138: Setting DONE_EN runs the configuration-consistency check. -/
  | kvDoneEnSet (q : Requester) (v : BitVec 32)
  /-- R138: A write to a job or done ring base sets that ring's indices to zero. -/
  | kvRingBaseWrite (q : Requester) (done : Bool) (hi : Bool) (v : BitVec 32)
  /-- R127: Firmware advances the job consumer index, freeing room for held jobs. -/
  | kvJobHeadWrite (q : Requester) (v : BitVec 32)
  /-- R128: Firmware names new done records, or the write is ignored and counted when it overruns. -/
  | kvDoneDb (q : Requester) (v : BitVec 32)
  /-- R127: The engine writes a held job record once the job ring has room. -/
  | jobPost
  /-- R128: A done record of TYPE 0 ends a job, updating TIER_ROWS, READY, map entries and stream state. -/
  | jobDone
  /-- R129: A done record of TYPE 1 sets TOKENS and posts PULL jobs and set descriptors as needed. -/
  | tokenAdvance
  /-- R122: A stream context missing from the on-die cache arrives from HBM. -/
  | kvContextFetch (stream : BitVec 20)
  /-- R134: A layer not ready on every port by its deadline plus LEAD_NS increments KV_LATE and sets PF_LATE. -/
  | pushDeadlineMiss (stream : BitVec 20) (layer : BitVec 8)
  /-- R124: An accelerator's 4-byte write to its completion-flag page sets the named virtual flag. -/
  | completionFlagWrite (port : Fin 8) (off : BitVec 12) (len : BitVec 13)
  /-- R124: An accelerator's upstream request is translated through an inbound window or discarded and counted. -/
  | upstreamRequest (port : Fin 8) (addr : BitVec 64) (wr : Bool) (len : BitVec 13) (data : List (BitVec 8))
  /-- R121: Opens a stream in a class, taking FREE to PARKED and posting SET_NEEDED. -/
  | synStreamOpen (r : SynReq) (cls : BitVec 6) (stream : Option (BitVec 20)) (pick : BitVec 20) (table : Fin 37748736)
  /-- R135: Moves a stream to CLOSING and then FREE once jobs drain. -/
  | synStreamClose (r : SynReq) (stream : BitVec 20) (gen : BitVec 16)
  /-- R131: Allocates an ASI and slots and posts MOVE and PUSH jobs for a resume targeting T0. -/
  | synStreamResume (r : SynReq) (stream : BitVec 20) (gen : BitVec 16) (t0 : BitVec 64) (k0 : BitVec 12)
  /-- R135: Stops pushes, pulls remaining rows and releases slots and the ASI. -/
  | synStreamPark (r : SynReq) (stream : BitVec 20) (gen : BitVec 16)
  /-- R136: Posts MOVE jobs for named sets. -/
  | synStreamMove (r : SynReq) (stream : BitVec 20) (gen : BitVec 16) (first : BitVec 9) (count : BitVec 10) (tier : Fin 3)
  /-- R139: Returns context bytes 0 to 127. -/
  | synStreamQuery (r : SynReq) (stream : BitVec 20) (gen : BitVec 16)
  /-- R139: Reposts failed jobs and returns an ERROR stream to PRIOR. -/
  | synStreamRetry (r : SynReq) (stream : BitVec 20) (gen : BitVec 16)
  /-- R115: Writes a stream class record after its checks. -/
  | synKvClassSet (r : SynReq) (cls : BitVec 6) (rec : List (BitVec 8))
  /-- R123: Loads an accelerator port profile, letting the port train. -/
  | synKvProfileLoad (r : SynReq) (port : Fin 8) (rec : List (BitVec 8))
  /-- R124: Unloads a port profile and returns the port to link-disable. -/
  | synKvProfileUnload (r : SynReq) (port : Fin 8)
  /-- R142: Eland writes a cohort's launch block to every Eland port and rings each doorbell. -/
  | launch (cohort : Fin 2) (prefill : Bool)
  /-- R145: A tail-done flag passes and Eland reads and validates that port's tails. -/
  | tailDone (cohort : Fin 2) (port : Fin 8)
  /-- R145: TAIL_LIMIT_NS passes with a port's flag not passed, making every position of the launch invalid. -/
  | tailLimitExpiry (cohort : Fin 2)
  /-- R146: Eland samples every valid position, runs acceptance and commits each stream. -/
  | sampling (cohort : Fin 2)
  /-- R149: One step of the draft model proposes a draft token for each stream of the cohort, for those in `order` first. -/
  | draftStep (cohort : Fin 2) (j : Fin 9) (order : List (BitVec 20))
  /-- R152: Staged token records are released to the packet pipeline once the step is committed and the lease held. -/
  | tokenRecordRelease
  /-- R161: After 10 ms with no stream attached, firmware sets RETAIN and TARGET 2 on the draft clusters. -/
  | elandIdleTimeout
  /-- R162: Sets period, base time, lead, tail limit, vocabulary and pools. -/
  | synElandConfig (r : SynReq) (c : ElandConfigSpec)
  /-- R141: Loads an Eland port record after its checks. -/
  | synElandPortSet (r : SynReq) (port : Fin 8) (rec : List (BitVec 8))
  /-- R160: Reads, measures and places a draft model image. -/
  | synElandDraftLoad (r : SynReq) (addr : BitVec 64) (len : Nat)
  /-- R163: Attaches a stream to a cohort, filling history, building the draft cache and queuing prefill. -/
  | synElandAttach (r : SynReq) (stream : BitVec 20) (gen : BitVec 16) (f : SamplerSpec) (a : AttachSpec)
  /-- R155: Detaches a stream after its current step commits. -/
  | synElandDetach (r : SynReq) (stream : BitVec 20) (gen : BitVec 16)
  /-- R150: Changes a stream's sampler controls from the next draft start. -/
  | synElandSet (r : SynReq) (stream : BitVec 20) (gen : BitVec 16) (f : SamplerSpec) (maxTokens : BitVec 32) (stops : List (BitVec 32))
  /-- R162: Returns context bytes 128 to 255. -/
  | synElandQuery (r : SynReq) (stream : BitVec 20) (gen : BitVec 16)
  /-- R162: Returns Eland counters. -/
  | synElandStats (r : SynReq)
  /-- R168: A requester's line read is served by a channel, correcting or poisoning on ECC errors. -/
  | hbmRead (src : HbmSource) (addr : BitVec 38) (more : Bool) (gap : Nat)
  /-- R166: A whole-line write replaces the line, or a partial write reads, merges and writes it back. -/
  | hbmWrite (src : HbmSource) (addr : BitVec 38) (data : List (BitVec 8)) (poison : Bool) (more : Bool) (gap : Nat)
  /-- R169: A channel controller reads a line in its scrub period and writes back a corrected or poisoned line. -/
  | scrubRead (g : Fin 192) (more : Bool) (gap : Nat)
  /-- R170: A refresh interval elapses and the debt grows, with a per-bank refresh in a gap. -/
  | refreshDue (g : Fin 192) (inGap : Bool)
  /-- R171: Refresh debt reaches four and the refresh requester takes the channel at a burst boundary. -/
  | allBankRefresh (g : Fin 192)
  /-- R172: Stack temperatures update every 100 µs and the 85, 95 and 105 °C thresholds are applied. -/
  | hbmTempUpdate (stack : Fin 6) (celsius : BitVec 8)
  /-- R173: With SR_REQ one, a stack idle for 1 µs enters self-refresh. -/
  | selfRefreshEntry (stack : Fin 6)
  /-- R173: Clearing SR_REQ brings every stack out of self-refresh within 2 µs. -/
  | srReqClear (q : Requester) (v : BitVec 32)
  /-- R174: A stack finishes training and TRAINED sets, or fails and reports fault source 0x08. -/
  | hbmTrainingDone (stack : Fin 6) (failed : Option (Fin 8))
  /-- R174: The zero fill completes, READY sets and held requests are served. -/
  | hbmReady
  /-- R178: A channel's 1,024-cycle window starts, quota counts return to zero and a committed set is taken. -/
  | arbWindowStart (g : Fin 192)
  /-- R180: ARB_COMMIT.COMMIT checks the staged tickets, quotas and class map and sets PENDING. -/
  | arbCommit (q : Requester) (v : BitVec 32)
  /-- R182: ARB_MODE.LOAD copies the defaults of MODE into ARB_LINE0–7. -/
  | arbModeLoad (q : Requester) (v : BitVec 32)
  /-- R179: ARB_FREEZE with OP 1 freezes a channel or all channels. -/
  | arbFreeze (q : Requester) (v : BitVec 32)
  /-- R179: ARB_FREEZE with OP 2 unfreezes a channel or all channels. -/
  | arbUnfreeze (q : Requester) (v : BitVec 32)
  /-- R179: A frozen channel has no access in use and an empty queue, and DRAINED sets. -/
  | arbChannelDrained (g : Fin 192)
  /-- R207: Setting FAB_CTL.EN runs the configuration-consistency check. -/
  | fabEnSet (q : Requester) (v : BitVec 32)
  /-- R207: Clearing FAB_CTL.EN takes effect only when no port is enabled. -/
  | fabEnClear (q : Requester) (v : BitVec 32)
  /-- R195: Setting FAB_PORT_CTL.EN checks the port and starts training every lane and the spare. -/
  | portEnable (q : Requester) (p : Fin 32) (v : BitVec 32)
  /-- R195: Equalisation, lock, deskew and CAPS exchange complete and the port becomes UP. -/
  | portUp (p : Fin 32) (spare : Bool)
  /-- R195: A port not UP within 500 ms becomes TRAIN_FAIL and retrains every 1 s. -/
  | trainFail (p : Fin 32)
  /-- R206: Clearing a port's EN returns queued frames to the transport engine and disables the port. -/
  | portDisable (q : Requester) (p : Fin 32) (v : BitVec 32)
  /-- R198: FAB_PORT_CTL.RETRAIN retrains failed lanes one at a time while the port carries traffic. -/
  | retrain (q : Requester) (p : Fin 32) (v : BitVec 32)
  /-- R197: A lane losing lock for 1 µs or exceeding FAIL_UCW fails and a new lane map is sent. -/
  | laneFailed (lane : Fin 144)
  /-- R197: LANE_MAP is repeated every 1 µs until echoed, and positions are closed up alone after 10 µs. -/
  | laneMapRepeat (p : Fin 32)
  /-- R197: At codeword group SWITCH_SEQ both ends adopt the new lane map. -/
  | laneMapSwitch (p : Fin 32)
  /-- R198: A DOWN port retrains after 1 s while EN is one. -/
  | portDownRetrain (p : Fin 32)
  /-- R186: A lane receives a codeword, gaining or losing codeword lock and delivering its cells. -/
  | codeword (lane : Fin 144) (ccw : BitVec 20) (uncorrectable : Bool) (corrected : Fin 16) (cells : List (List (BitVec 8)))
  /-- R190: A complete frame of cells is received, checked, decrypted and delivered or discarded. -/
  | frame (p : Fin 32) (tc : Fin 8) (enc : Bool) (bytes : List (BitVec 8)) (lost : Bool)
  /-- R193: A received CREDIT control cell updates the granted counts for each class. -/
  | credit (p : Fin 32) (counts : Vector (BitVec 32) 8)
  /-- R197: A received LANE_MAP control cell marks a lane failed or counts as an echo. -/
  | laneMap (p : Fin 32) (mapId : BitVec 8) (lanes : Vector (BitVec 8) 8) (switchSeq : BitVec 8)
  /-- R202: A received KEY_SWITCH control cell announces the peer's new transmit AN. -/
  | keySwitch (p : Fin 32) (an : BitVec 2)
  /-- R196: A received CAPS control cell is compared with this end's form and encryption setting. -/
  | caps (p : Fin 32) (form : BitVec 8) (enc : Bool) (node : BitVec 64) (port : BitVec 8)
  /-- R193: The receiver sends CREDIT at least every 256 ns or when a class has freed an eighth of its allocation. -/
  | creditSend (p : Fin 32)
  /-- R202: FAB_PORT_ENC.SWITCH sends KEY_SWITCH and moves the transmitter to the next AN. -/
  | encSwitch (q : Requester) (p : Fin 32) (v : BitVec 32)
  /-- R204: A received PFC frame pauses a priority for its quanta. -/
  | pfcFrame (p : Fin 32) (enable : BitVec 8) (quanta : Vector (BitVec 16) 8)
  /-- R204: A PFC frame is repeated every 40 µs while free space stays below HEADROOM. -/
  | pfcRepeat (p : Fin 32)
  /-- R204: A priority's pause time ends and its frames may start. -/
  | pauseExpiry (p : Fin 32) (c : Fin 8)
  /-- R204: A priority paused for more than 100 ms sets PAUSE_STUCK. -/
  | pauseStuck (p : Fin 32) (c : Fin 8)
  /-- R208: Configures and enables a port. -/
  | synLinkPortSet (r : SynReq) (p : Fin 32) (mode : BitVec 2) (enc : Bool) (alloc : BitVec 64) (headroom : BitVec 16) (keys : Vector (BitVec 12) 4)
  /-- R208: Disables a port. -/
  | synLinkPortDisable (r : SynReq) (p : Fin 32)
  /-- R208: Switches a port's link key to the next AN. -/
  | synLinkKeySwitch (r : SynReq) (p : Fin 32) (slot : BitVec 12)
  /-- R208: Starts retraining a port's failed lanes. -/
  | synLinkRetrain (r : SynReq) (p : Fin 32)
  /-- R208: Returns port and lane status and the peer's CAPS. -/
  | synLinkQuery (r : SynReq) (p : Fin 32)
  /-- R215: A message request with OP WRITE is taken for a connection. -/
  | write (src : MsgSource)
  /-- R225: A message request with OP READ is taken for a connection. -/
  | read (src : MsgSource)
  /-- R215: A message request with OP SEND is taken for a connection. -/
  | send (src : MsgSource)
  /-- R222: A queued message starts once it holds credit, its fence is met and fewer than eight messages are outstanding. -/
  | messageStart (conn : BitVec 20)
  /-- R227: A received WRITE packet is placed by PSN window, checked by its memory key and written. -/
  | writePacket (pkt : TrnPkt)
  /-- R219: A received SEND packet is placed by PSN window and written to its reserved buffer or slot. -/
  | sendPacket (pkt : TrnPkt)
  /-- R225: A received READ_REQ is checked and answered with READ_RESP packets. -/
  | readReq (pkt : TrnPkt)
  /-- R225: A received READ_RESP packet is placed at LOCAL plus OFFSET and counted. -/
  | readResp (pkt : TrnPkt)
  /-- R221: A received ACK advances SND_UNA, updates CREDIT_MSN and reports done messages. -/
  | ack (pkt : TrnPkt) (done : Bool)
  /-- R221: A received NAK triggers go-back, retry or the error state by its code. -/
  | nak (pkt : TrnPkt)
  /-- R219: An inbound message with all bytes received and visible applies its signal, notifies its consumer and sends an ACK with DONE. -/
  | messageComplete (conn : BitVec 20) (msn : BitVec 32)
  /-- R221: The retransmit timer expires and the sender goes back to SND_UNA, or enters FLUSHING at RETRY_LIMIT. -/
  | retransmitTimeout (conn : BitVec 20)
  /-- R220: A hole timer reaches HOLE_US and the receiver sends NAK code 0. -/
  | holeTimerExpiry (conn : BitVec 20)
  /-- R220: 2 µs pass with accepted packets unacknowledged and an ACK is sent. -/
  | ackTimerExpiry (conn : BitVec 20)
  /-- R214: 20 µs after NAK code 4 the sender goes back to ACK_PSN. -/
  | rnrRetry (conn : BitVec 20)
  /-- R213: A connection context fetch ends and queued frames proceed, or they are discarded on failure. -/
  | connectionContextFetch (conn : BitVec 20) (readError : Bool)
  /-- R237: Setting TRN_CTL.EN runs the configuration-consistency check. -/
  | trnEnSet (q : Requester) (v : BitVec 32)
  /-- R237: Clearing TRN_CTL.EN takes effect only when every connection is FREE. -/
  | trnEnClear (q : Requester) (v : BitVec 32)
  /-- R228: A write to TRN_KEY_INVAL starts invalidation of a memory key entry or all entries. -/
  | trnKeyInval (q : Requester) (v : BitVec 32)
  /-- R228: Memory key invalidation ends and BUSY clears. -/
  | trnKeyInvalDone
  /-- R230: PEER_WIN_COMMIT.COMMIT checks the staged peer windows and sets PENDING. -/
  | peerWinCommit (q : Requester) (v : BitVec 32)
  /-- R230: At the next packet boundary the active peer window set takes the staged set and PENDING clears. -/
  | peerWinActivate
  /-- R215: A request ring doorbell records the new tail or sets OVERRUN. -/
  | trnReqDb (q : Requester) (v : BitVec 32)
  /-- R237: A write to the request or completion ring base sets its indices to zero. -/
  | trnReqBaseWrite (q : Requester) (cmpl : Bool) (hi : Bool) (v : BitVec 32)
  /-- R237: Setting the request ring's CMD_EN runs the configuration-consistency check. -/
  | trnCmdEnSet (q : Requester) (v : BitVec 32)
  /-- R237: Clearing the request ring's CMD_EN stops taking requests. -/
  | trnCmdEnClear (q : Requester) (v : BitVec 32)
  /-- R237: Setting the request ring's CMPL_EN runs the configuration-consistency check. -/
  | trnCmplEnSet (q : Requester) (v : BitVec 32)
  /-- R237: Firmware advances the request ring's completion consumer index. -/
  | trnCmplHeadWrite (q : Requester) (v : BitVec 32)
  /-- R237: Writing one to TRN_RERR.HALTED resumes the request ring. -/
  | trnHaltedResume (q : Requester) (v : BitVec 32)
  /-- R223: Setting TRN_FWRX_CTL.EN checks the firmware receive ring. -/
  | trnFwrxEnSet (q : Requester) (v : BitVec 32)
  /-- R223: Firmware frees receive slots, letting the engine grant more credit. -/
  | trnFwrxHeadWrite (q : Requester) (v : BitVec 32)
  /-- R211: Creates a connection in INIT. -/
  | synTrnConnCreate (r : SynReq) (conn : Option (BitVec 32)) (spec : ConnSpec)
  /-- R211: Moves a connection from INIT to READY with its starting PSNs and MSNs. -/
  | synTrnConnReady (r : SynReq) (conn : BitVec 20) (peerConn : BitVec 24) (sndPsn rcvPsn sndMsn rcvMsn : BitVec 32)
  /-- R231: Puts a connection into FLUSHING. -/
  | synTrnConnFlush (r : SynReq) (conn : BitVec 20)
  /-- R211: Returns a connection to INIT, discarding inbound state and completing requests with 0x0034. -/
  | synTrnConnReset (r : SynReq) (conn : BitVec 20)
  /-- R211: Moves a connection to CLOSING and then FREE once drained. -/
  | synTrnConnDestroy (r : SynReq) (conn : BitVec 20)
  /-- R238: Returns context bytes 0 to 63. -/
  | synTrnConnQuery (r : SynReq) (conn : BitVec 20)
  /-- R228: Writes and invalidates a memory key entry. -/
  | synTrnKeySet (r : SynReq) (index : BitVec 32) (entry : Vector (BitVec 8) 32)
  /-- R230: Stages and commits a peer window set. -/
  | synTrnPwinSet (r : SynReq) (wins : List PeerWinSpec)
  /-- R238: Returns the active peer window set. -/
  | synTrnPwinQuery (r : SynReq)
  /-- R242: A rising edge on PPS_IN is timestamped, accepted or rejected, and steers, steps or sets the counter. -/
  | ppsEdge (phase : Fin 8)
  /-- R243: LOCKED with no accepted pulse for 1.5 s moves to HOLDOVER and sets LOST. -/
  | ppsLoss
  /-- R248: The error bound grows past 250 ns and QUALIFIED clears. -/
  | qualificationLost
  /-- R250: The counter reaches a whole second while qualified and PPS_OUT rises. -/
  | ppsOut
  /-- R250: PPSOUT_WIDTH ms after its rise, PPS_OUT falls. -/
  | ppsOutEnd
  /-- R240: A read of the lower word of TIME_NOW latches the upper word. -/
  | timeNowRead (q : Requester)
  /-- R245: A write of one to TIME_CTL.ARM arms TIME_SET for the next accepted pulse, unless LOCKED. -/
  | arm (q : Requester) (v : BitVec 32)
  /-- R243: Setting PPS_EN moves the time unit from FREE to ACQUIRE. -/
  | ppsEnSet (q : Requester) (v : BitVec 32)
  /-- R243: Clearing PPS_EN sets STATE to FREE and clears QUALIFIED. -/
  | ppsEnClear (q : Requester) (v : BitVec 32)
  /-- R252: TG_ADMIN_CTL.COMMIT checks and copies a port's admin gate list and computes its takeover time. -/
  | tgCommit (q : Requester) (v : BitVec 32)
  /-- R252: TG_ADMIN_CTL.CANCEL discards a port's pending gate list. -/
  | tgCancel (q : Requester) (v : BitVec 32)
  /-- R252: At time T a port's pending gate list becomes active. -/
  | gateListTakeover (p : Fin 32)
  /-- R252: A gate entry's interval ends and the next entry's gates take effect. -/
  | gateEntryChange (p : Fin 32)
  /-- R256: TG_SHP_SEL.APPLY checks a staged shaper or policer configuration and marks it pending. -/
  | apply (q : Requester) (v : BitVec 32)
  /-- R256: The counter crosses a multiple of a bucket's period, adding RATE tokens and applying a pending configuration. -/
  | refill (policer : Bool) (ix : BitVec 12)
  /-- R261: Sets the pulse parameters and arms TIME_SET. -/
  | synTimeSet (r : SynReq) (second : BitVec 64) (delay : Int) (unc : Nat) (hold : Nat)
  /-- R261: Returns the time registers. -/
  | synTimeQuery (r : SynReq)
  /-- R261: Loads and commits a port's gate list. -/
  | synTgGateLoad (r : SynReq) (port : Nat) (basetime : BitVec 64) (entries : List GateSpec)
  /-- R261: Discards a port's pending gate list. -/
  | synTgGateCancel (r : SynReq) (port : Fin 32)
  /-- R261: Configures a shaper through APPLY. -/
  | synTgShaperSet (r : SynReq) (ix : Nat) (en : Bool) (rate : BitVec 16) (burst : BitVec 16) (period : Nat)
  /-- R261: Configures a policer through APPLY. -/
  | synTgPolicerSet (r : SynReq) (ix : Nat) (en : Bool) (rate : BitVec 16) (burst : BitVec 16) (period : Nat) (action : Bool) (exceedTc : BitVec 3)
  /-- R261: Returns a port's gate status or a bucket's tokens and counters. -/
  | synTgQuery (r : SynReq) (what : TgQuery)
  /-- R262: An Ethernet frame is verified, parsed, classified, acted on and delivered or dropped. -/
  | ethernetFrameReceive (port : Fin 8) (frame : List (BitVec 8))
  /-- R276: A source frame on a transmit channel receives its template and fixups. -/
  | transmitChannelFrame (chan : BitVec 12)
  /-- R253: A transmit frame that holds its shaper token starts when its gate stays open for its serialization. -/
  | frameStart (chan : BitVec 12)
  /-- R273: A frame waiting for a full receive queue for RXWAIT is dropped and counted. -/
  | rxwaitExpiry (port : Fin 8) (prio : Fin 8)
  /-- R275: A fragment held for 2 ms without its first fragment is dropped. -/
  | earlyFrag
  /-- R275: A fragment table entry unmatched for IDLE_MS is freed. -/
  | fragmentIdle
  /-- R270: An exact-table cache miss returns its bucket from HBM and the held lookup continues. -/
  | exactEntryFetch (port : Fin 8) (prio : Fin 8)
  /-- R280: Setting PKT_CTL.EN runs the configuration-consistency check. -/
  | pktEnSet (q : Requester) (v : BitVec 32)
  /-- R264: PKT_SWAP.SWAP checks the inactive bank and starts its copy on die. -/
  | swap (q : Requester) (v : BitVec 32)
  /-- R264: The bank copy ends, ACTIVE names the new bank and PENDING clears. -/
  | swapDone
  /-- R265: A write to PKT_EXACT_INVAL invalidates a cached exact entry or all entries. -/
  | pktExactInval (q : Requester) (v : BitVec 32)
  /-- R280: Setting a port's MACsec EN or PROTECT runs the configuration-consistency check. -/
  | macsecEnable (q : Requester) (port : Fin 8) (v : BitVec 32)
  /-- R281: Commits a bank image through a swap. -/
  | synPktBankCommit (r : SynReq) (addr : BitVec 52)
  /-- R281: Writes and invalidates an exact entry. -/
  | synPktExactSet (r : SynReq) (bank : Fin 2) (table : BitVec 8) (key : List (BitVec 8)) (list : BitVec 12)
  /-- R281: Removes an exact entry. -/
  | synPktExactDel (r : SynReq) (bank : Fin 2) (table : BitVec 8) (key : List (BitVec 8))
  /-- R281: Returns packet and byte counters. -/
  | synPktCounterRead (r : SynReq) (first : BitVec 16) (count : Fin 257)
  /-- R277: Loads a MACsec SA with a key slot. -/
  | synPktMacsecSaSet (r : SynReq) (m : MsecSpec)
  /-- R278: Moves a port's MACsec transmitter to the next AN. -/
  | synPktMacsecTxSwitch (r : SynReq) (port : Fin 8)
  /-- R281: Returns pipeline status and counters. -/
  | synPktQuery (r : SynReq)
  /-- R284: A storage submission doorbell records the tail, or freezes the queue on an overrun. -/
  | submissionDoorbell (i : Fin 2048) (ix : Fin 64) (v : BitVec 32)
  /-- R284: A storage completion doorbell records the new head, freeing completion entries. -/
  | completionDoorbell (i : Fin 2048) (ix : Fin 64) (v : BitVec 32)
  /-- R285: The storage block fetches one command per cycle by lottery and takes its range lock. -/
  | commandFetch (gap : Nat) (out : DmaOut)
  /-- R288: A FLUSH command waits for earlier writes of its queue and issues NVMe Flush to the namespaces written. -/
  | flush (id : Nat)
  /-- R283: A WRITE command moves data through staging, XTS and the backing. -/
  | storageWrite (id : Nat) (out : DmaOut)
  /-- R283: A READ command moves data from the backing through staging to host memory. -/
  | storageRead (id : Nat) (out : DmaOut)
  /-- R283: A WRITE_ZEROES command writes zeros, encrypted on XTS volumes. -/
  | writeZeroes (id : Nat)
  /-- R297: A DEALLOCATE command passes to the backing as Dataset Management. -/
  | deallocate (id : Nat)
  /-- R287: A range-lock entry is released when data movement ends, and waiting conflicting commands may start. -/
  | lockRelease (id : Nat)
  /-- R285: A drive or remote target completes a command part and the storage command completes when all parts have. -/
  | backingCompletion (id : Nat) (part : Nat) (status : BitVec 16) (data : List (BitVec 8)) (out : DmaOut)
  /-- R285: A completion entry waiting for room is written to the completion queue. -/
  | storageCompletionWrite (q : Fin 4096) (out : DmaOut)
  /-- R285: COAL_US passes since the first pending completion and the queue's interrupt is sent. -/
  | coalescingTimeout (q : Fin 4096)
  /-- R297: Every 5 s the device sends Keep Alive to each remote controller. -/
  | keepAlive (c : Fin 64)
  /-- R298: Setting STO_CTL.EN runs the configuration-consistency check. -/
  | stoEnSet (q : Requester) (v : BitVec 32)
  /-- R284: Creates and enables a storage queue pair. -/
  | synStoQueueCreate (r : SynReq) (spec : StoQueueSpec)
  /-- R299: Deletes a queue once fetched commands complete. -/
  | synStoQueueDelete (r : SynReq) (q : Fin 4096)
  /-- R290: Returns a FROZEN queue to ACTIVE. -/
  | synStoQueueRestart (r : SynReq) (q : Fin 4096)
  /-- R290: Returns a queue's error log entries. -/
  | synStoErrlogRead (r : SynReq) (q : Fin 4096)
  /-- R283: Sets a volume record once fetched commands on it complete. -/
  | synStoVolumeSet (r : SynReq) (vol : Fin 1024) (record : List (BitVec 8))
  /-- R299: Invalidates a volume once its commands complete. -/
  | synStoVolumeDelete (r : SynReq) (vol : Fin 1024)
  /-- R299: Creates, formats and attaches a namespace on a drive. -/
  | synStoNsCreate (r : SynReq) (d : Fin 4) (blocks : BitVec 64) (nsid : Option (BitVec 32))
  /-- R299: Detaches and deletes a namespace. -/
  | synStoNsDelete (r : SynReq) (d : Fin 4) (nsid : BitVec 32)
  /-- R297: Connects a remote NVMe-over-Fabrics controller. -/
  | synStoTargetConnect (r : SynReq) (c : Fin 64) (conns : List (BitVec 20)) (subnqn : List (BitVec 8)) (hostnqn : List (BitVec 8)) (answer : StoConnect)
  /-- R299: Disconnects a remote controller, completing its commands with 0x0053. -/
  | synStoTargetDisconnect (r : SynReq) (c : Fin 64)
  /-- R299: Resets a drive controller, completing its commands with 0x0053. -/
  | synStoDriveReset (r : SynReq) (d : Fin 4) (back : Bool)
  /-- R299: Returns queue, drive or controller state. -/
  | synStoQuery (r : SynReq) (what : StoQuery) (identify : List (BitVec 8)) (smart : List (BitVec 8))
  /-- R304: A noise source fails a health test, setting ENT_FAIL and reporting uncorrected-contained. -/
  | entropyHealthFail (source : Fin 4) (proportion : Bool)
  /-- R304: The generator reseeds after 1 MiB of output or 10 ms. -/
  | reseed
  /-- R309: A pending slot's references reach zero and the load or clear takes effect, releasing stalled uses. -/
  | keyRefsZero (k : Fin 4096)
  /-- R309: WAIT_MS passes with references held and the load or clear is withdrawn with 0x0402. -/
  | keyLoadWithdrawn (k : Fin 4096)
  /-- R313: The message engine encrypts with AES-256-GCM and writes the tag. -/
  | gcmEnc (src : SecSource)
  /-- R313: The message engine decrypts with AES-256-GCM, zeroing output on a tag failure. -/
  | gcmDec (src : SecSource)
  /-- R313: The message engine encrypts 4,096-byte data units with AES-256-XTS. -/
  | xtsEnc (src : SecSource)
  /-- R313: The message engine decrypts 4,096-byte data units with AES-256-XTS. -/
  | xtsDec (src : SecSource)
  /-- R313: The message engine writes a SHAKE256 digest of OUTLEN bytes. -/
  | shake256 (src : SecSource)
  /-- R314: An urgent message suspends the current message at a block boundary and runs first. -/
  | urgentSuspend
  /-- R313: A message finishes and its completion record is written. -/
  | messageEngineComplete
  /-- R322: Setting SEC_CTL.MSG_EN runs the configuration-consistency check. -/
  | secMsgEnSet (q : Requester) (v : BitVec 32)
  /-- R322: A security request ring doorbell records the new tail. -/
  | secReqDb (q : Requester) (v : BitVec 32)
  /-- R322: Setting the security ring's CMD_EN runs the configuration-consistency check. -/
  | secCmdEnSet (q : Requester) (v : BitVec 32)
  /-- R322: Firmware advances the security ring's completion consumer index. -/
  | secCmplHeadWrite (q : Requester) (v : BitVec 32)
  /-- R317: TS finishes signing an attestation report and starts the next waiting request. -/
  | attestSigned
  /-- R306: Loads a key in plain form into a slot. -/
  | synKeyLoad (r : SynReq) (k : Fin 4096) (type : BitVec 8) (owner : BitVec 16) (wrappable : Bool) (key : List (BitVec 8)) (waitMs : Option Nat)
  /-- R306: Unwraps a blob with a WRAP slot into a slot. -/
  | synKeyUnwrap (r : SynReq) (k : Fin 4096) (wrap : Fin 4096) (owner : BitVec 16) (wrappable : Bool) (blob : List (BitVec 8)) (waitMs : Option Nat)
  /-- R306: Exports a wrappable key as a blob. -/
  | synKeyWrap (r : SynReq) (k : Fin 4096) (wrap : Fin 4096)
  /-- R306: Empties a slot. -/
  | synKeyClear (r : SynReq) (k : Fin 4096) (waitMs : Option Nat)
  /-- R323: Returns a slot's attributes. -/
  | synKeyQuery (r : SynReq) (k : Fin 4096)
  /-- R317: Queues a signed attestation report. -/
  | synSecAttest (r : SynReq) (nonce : List (BitVec 8)) (userdata : List (BitVec 8))
  /-- R316: Extends MR8 to MR15 with a supplied digest. -/
  | synSecExtend (r : SynReq) (ix : BitVec 8) (tag : BitVec 32) (digest : List (BitVec 8))
  /-- R323: Returns event log records. -/
  | synSecLogRead (r : SynReq) (first : Nat) (count : Nat)
  /-- R303: Draws new helper data, erases the certificate and reports the new identity. -/
  | synSecEnrol (r : SynReq)
  /-- R303: Stores a certificate that names the identity. -/
  | synSecCertSet (r : SynReq) (cert : List (BitVec 8))
  /-- R318: Returns a fresh debug challenge. -/
  | synSecDebugChallenge (r : SynReq)
  /-- R319: Verifies a debug token and adds its scope. -/
  | synSecDebugUnlock (r : SynReq) (token : List (BitVec 8))
  /-- R327: A host access to BAR2 is translated through an aperture window to HBM or refused. -/
  | apertureAccess (off : BitVec 36) (len : Fin 4097) (data : Option (List (BitVec 8))) (poison : Bool)
  /-- R328: WIN_COMMIT.COMMIT checks the staged aperture windows and sets PENDING. -/
  | winCommit (q : Requester) (v : BitVec 32)
  /-- R328: At the next TLP boundary the active aperture set takes the staged set. -/
  | winActivate
  /-- R330: HWIN_COMMIT.COMMIT checks the host window table and starts its copy. -/
  | hwinCommit (q : Requester) (v : BitVec 32)
  /-- R330: The host window table copy ends and PENDING clears. -/
  | hwinCopyDone
  /-- R331: An ATS translation completion fills the address translation cache. -/
  | translationCompletion (pasid : Option (BitVec 20)) (page : BitVec 52) (bus : Option (BitVec 52)) (raced : Bool)
  /-- R332: An ATS Invalidation Request removes matching translations. -/
  | invalidationRequest (pasid : Option (BitVec 20)) (page : BitVec 52) (pages : BitVec 52) (itag : Fin 32)
  /-- R332: Once no request uses the removed translations, the device sends the Invalidation Completion. -/
  | invalidationCompletion (itag : Fin 32)
  /-- R334: A read's completion not arriving in time delivers poisoned bytes and logs Completion Timeout. -/
  | completionTimeout (tag : BitVec 10)
  /-- R333: A due vector whose blocking conditions have ended is sent and its PBA bit cleared. -/
  | msixSend (v : Fin 2048)
  /-- R337: A write of Initiate Function Level Reset stops host TLPs, retires tags, resets instances and returns the function to reset values. -/
  | initiateFunctionLevelReset
  /-- R337: The function-level reset completes and configuration requests complete normally. -/
  | functionLevelResetDone
  /-- R339: A power state write to D3hot stops host mastering and takes the link to L1. -/
  | d3hot
  /-- R339: A power state write returns the function to D0 with its configuration kept. -/
  | d0
  /-- R339: PME_Turn_Off is answered with PME_TO_Ack and the link enters L2. -/
  | pmeTurnOff
  /-- R340: With ASPM L1 enabled, 32 µs without traffic takes the link into L1. -/
  | l1Entry
  /-- R342: Writes host window entries and commits the table. -/
  | synHostWinSet (r : SynReq) (first : Nat) (entries : List (List (BitVec 8)))
  /-- R342: Returns active host window entries. -/
  | synHostWinQuery (r : SynReq) (first : Nat) (count : Nat)
  /-- R342: Returns link, power, AER and translation cache state. -/
  | synHostQuery (r : SynReq)
  /-- R348: A receive queue doorbell posts buffers. -/
  | bufferTail (i : Fin 2048) (ix : Fin 64) (v : BitVec 32)
  /-- R348: A transmit queue doorbell names new transmit descriptors. -/
  | descriptorTail (i : Fin 2048) (ix : Fin 64) (v : BitVec 32)
  /-- R348: A transport request ring doorbell of an instance names new message requests. -/
  | requestTail (i : Fin 2048) (ix : Fin 64) (v : BitVec 32)
  /-- R348: A completion head doorbell of a receive, transmit or transport queue frees completion entries. -/
  | completionHead (i : Fin 2048) (kind : QKind) (ix : Fin 64) (v : BitVec 32)
  /-- R357: INSTP_MBX.GO takes an instance mailbox request, accepting only the permitted query opcodes. -/
  | instpMbxGo (i : Fin 2048)
  /-- R351: A transmit descriptor's frame is read from host memory and completed. -/
  | transmitDescriptorFetch (q : Fin 8192) (out : DmaOut)
  /-- R357: Creates an instance in CONFIGURED. -/
  | synInstCreate (r : SynReq) (inst : Option (Fin 2048)) (pasid : BitVec 32) (vecFirst : BitVec 16) (vecCount : BitVec 16) (maxSto : BitVec 8) (maxRx : BitVec 8) (maxTx : BitVec 8) (maxTrn : BitVec 8)
  /-- R346: Checks an instance and makes it ENABLED. -/
  | synInstEnable (r : SynReq)
  /-- R346: Returns an instance with no queue to CONFIGURED. -/
  | synInstDisable (r : SynReq)
  /-- R354: Resets an instance. -/
  | synInstReset (r : SynReq)
  /-- R346: Frees a CONFIGURED instance and its assignments. -/
  | synInstDestroy (r : SynReq)
  /-- R349: Creates a receive, transmit or transport queue of an instance. -/
  | synInstQueueCreate (r : SynReq) (kind : QKind) (spec : InstQueueSpec)
  /-- R357: Deletes a queue once fetched work completes. -/
  | synInstQueueDelete (r : SynReq) (kind : QKind) (q : Fin 8192)
  /-- R348: Resumes fetching on a frozen queue. -/
  | synInstQueueRestart (r : SynReq) (kind : QKind) (q : Fin 8192)
  /-- R357: Assigns or releases connections of an instance. -/
  | synInstResAssign (r : SynReq) (conns : List (BitVec 20)) (assign : Bool)
  /-- R357: Returns instance attributes, queues and LATE count. -/
  | synInstQuery (r : SynReq)
  /-- R364: Setting DEV_ENABLE.EN runs the configuration-consistency check. -/
  | devEnableSet (q : Requester) (v : BitVec 32)
  /-- R364: Clearing DEV_ENABLE.EN stops new Syncen requests outside the firmware range. -/
  | devEnableClear (q : Requester) (v : BitVec 32)
  /-- R362: DEV_LOAD_CTL.GO in STAGE 4 starts copying and verifying the firmware package. -/
  | go (q : Requester) (v : BitVec 32)
  /-- R362: A firmware load succeeds with STAGE 6 or fails with BOOT_ERR, and BUSY clears. -/
  | loadDone (readOk : Bool)
  /-- R373: A write of a session identifier renews that session. -/
  | devHeartbeat (q : Requester) (v : BitVec 32)
  /-- R373: A session not renewed for 2 s is lost and its instances enter QUIESCED. -/
  | sessionLost (m : Fin 8)
  /-- R365: MBX_CTL.GO copies a mailbox request and processes one Syncen message. -/
  | mbxGo (q : Requester) (m : Fin 8)
  /-- R365: The device writes a mailbox response, clears BUSY, sets DONE and sends the vector. -/
  | mbxResponse (port : SynPort)
  /-- R378: A core's watchdog expires, resetting that core alone, or taking it out of service on a second expiry within 10 s. -/
  | watchdogExpiry (c : Fin 33)
  /-- R378: A restarted core has rebuilt its domains and resumes. -/
  | coreRestartDone (c : Fin 33)
  /-- R377: CORE_WDG.KICK from the core itself renews its watchdog. -/
  | kick (q : Requester) (c : Fin 33)
  /-- R377: Setting CORE_WDG.EN enables a core's watchdog until full reset. -/
  | watchdogEnable (q : Requester) (c : Fin 33) (v : BitVec 32)
  /-- R381: A domain reaches its switch point during activation and continues in the new image. -/
  | domainSwitch (d : Fin 30)
  /-- R384: Returns versions, STAGE and load status. -/
  | synFwVersion (r : SynReq)
  /-- R372: Opens a session on a mailbox, or reclaims a lost session's mailbox. -/
  | synFwSessionOpen (r : SynReq) (reclaim : Bool)
  /-- R373: Binds a lost session to a mailbox and returns its instances. -/
  | synFwSessionAttach (r : SynReq) (id : BitVec 32)
  /-- R373: Closes a session that owns no instance. -/
  | synFwSessionClose (r : SynReq)
  /-- R375: Gives a session an event ring. -/
  | synFwEventRingSet (r : SynReq) (addr : BitVec 64) (log2n : BitVec 8) (vector : BitVec 16)
  /-- R380: Verifies and stages a firmware package. -/
  | synFwUpdate (r : SynReq) (package : List (BitVec 8))
  /-- R381: Activates a staged package domain by domain. -/
  | synFwActivate (r : SynReq)
  /-- R384: Returns the domain-to-core table. -/
  | synFwDomainQuery (r : SynReq)
  /-- R384: Returns a core's status. -/
  | synFwCoreQuery (r : SynReq) (c : Fin 33)
  /-- R384: Sets the pinned host spill buffers. -/
  | synFwSpillSet (r : SynReq) (buffers : List (BitVec 64 × BitVec 64))
  /-- R384: Returns the configuration in force. -/
  | synFwConfigQuery (r : SynReq)
  /-- R360: Verifies a configuration image and writes it to the copy not in use. -/
  | synFwConfigWrite (r : SynReq) (image : List (BitVec 8))
  /-- R386: A Tahr core starts at address 0 with cleared registers and memory. -/
  | coreStart (c : Fin 32)
  /-- R390: g(d) gets g(a) + g(b). -/
  | add (c : Fin 32) (d a b sh : BitVec 5)
  /-- R390: g(d) gets g(a) − g(b). -/
  | sub (c : Fin 32) (d a b sh : BitVec 5)
  /-- R390: g(d) gets the bitwise AND. -/
  | and (c : Fin 32) (d a b sh : BitVec 5)
  /-- R390: g(d) gets the bitwise OR. -/
  | or (c : Fin 32) (d a b sh : BitVec 5)
  /-- R390: g(d) gets the bitwise XOR. -/
  | xor (c : Fin 32) (d a b sh : BitVec 5)
  /-- R390: Shift left by g(b)[4:0]. -/
  | shl (c : Fin 32) (d a b sh : BitVec 5)
  /-- R390: Logical shift right by g(b)[4:0]. -/
  | shr (c : Fin 32) (d a b sh : BitVec 5)
  /-- R390: Arithmetic shift right by g(b)[4:0]. -/
  | sar (c : Fin 32) (d a b sh : BitVec 5)
  /-- R390: Shift left by sh. -/
  | shli (c : Fin 32) (d a b sh : BitVec 5)
  /-- R390: Logical shift right by sh. -/
  | shri (c : Fin 32) (d a b sh : BitVec 5)
  /-- R390: Arithmetic shift right by sh. -/
  | sari (c : Fin 32) (d a b sh : BitVec 5)
  /-- R390: Signed less-than comparison. -/
  | cmplt (c : Fin 32) (d a b sh : BitVec 5)
  /-- R390: Unsigned less-than comparison. -/
  | cmpltu (c : Fin 32) (d a b sh : BitVec 5)
  /-- R390: Low 32 bits of the product. -/
  | mul (c : Fin 32) (d a b sh : BitVec 5)
  /-- R390: High 32 bits of the unsigned product. -/
  | mulhu (c : Fin 32) (d a b sh : BitVec 5)
  /-- R390: High 32 bits of the signed product. -/
  | mulhs (c : Fin 32) (d a b sh : BitVec 5)
  /-- R390: Unsigned quotient. -/
  | divu (c : Fin 32) (d a b sh : BitVec 5)
  /-- R390: Unsigned remainder. -/
  | remu (c : Fin 32) (d a b sh : BitVec 5)
  /-- R390: Signed quotient truncated toward zero. -/
  | div (c : Fin 32) (d a b sh : BitVec 5)
  /-- R390: Signed remainder with the sign of g(a). -/
  | rem (c : Fin 32) (d a b sh : BitVec 5)
  /-- R390: Count of leading zero bits. -/
  | clz (c : Fin 32) (d a b sh : BitVec 5)
  /-- R390: Count of set bits. -/
  | popc (c : Fin 32) (d a b sh : BitVec 5)
  /-- R390: Jumps to the address in g(a). -/
  | brr (c : Fin 32) (d a b sh : BitVec 5)
  /-- R390: Jumps to g(a) and writes the return address to g(d). -/
  | callr (c : Fin 32) (d a b sh : BitVec 5)
  /-- R395: Atomic add to a word. -/
  | aadd (c : Fin 32) (d a b sh : BitVec 5)
  /-- R395: Atomic AND to a word. -/
  | aand (c : Fin 32) (d a b sh : BitVec 5)
  /-- R395: Atomic OR to a word. -/
  | aor (c : Fin 32) (d a b sh : BitVec 5)
  /-- R395: Atomic compare-and-swap of a word. -/
  | cas (c : Fin 32) (d a b sh : BitVec 5)
  /-- R391: Adds a sign-extended immediate. -/
  | addi (c : Fin 32) (d a : BitVec 5) (imm : BitVec 16)
  /-- R391: ANDs a zero-extended immediate. -/
  | andi (c : Fin 32) (d a : BitVec 5) (imm : BitVec 16)
  /-- R391: ORs a zero-extended immediate. -/
  | ori (c : Fin 32) (d a : BitVec 5) (imm : BitVec 16)
  /-- R391: XORs a zero-extended immediate. -/
  | xori (c : Fin 32) (d a : BitVec 5) (imm : BitVec 16)
  /-- R391: Signed comparison with an immediate. -/
  | cmplti (c : Fin 32) (d a : BitVec 5) (imm : BitVec 16)
  /-- R391: Unsigned comparison with a sign-extended immediate. -/
  | cmpltiu (c : Fin 32) (d a : BitVec 5) (imm : BitVec 16)
  /-- R391: Writes imm16 × 2^16. -/
  | immh (c : Fin 32) (d a : BitVec 5) (imm : BitVec 16)
  /-- R392: Loads a zero-extended byte. -/
  | ldb (c : Fin 32) (t a : BitVec 5) (mode : BitVec 3) (f : BitVec 13)
  /-- R392: Loads a sign-extended byte. -/
  | ldbs (c : Fin 32) (t a : BitVec 5) (mode : BitVec 3) (f : BitVec 13)
  /-- R392: Loads a zero-extended half-word. -/
  | ldh (c : Fin 32) (t a : BitVec 5) (mode : BitVec 3) (f : BitVec 13)
  /-- R392: Loads a sign-extended half-word. -/
  | ldhs (c : Fin 32) (t a : BitVec 5) (mode : BitVec 3) (f : BitVec 13)
  /-- R392: Loads a word. -/
  | ldw (c : Fin 32) (t a : BitVec 5) (mode : BitVec 3) (f : BitVec 13)
  /-- R392: Stores a byte. -/
  | stb (c : Fin 32) (t a : BitVec 5) (mode : BitVec 3) (f : BitVec 13)
  /-- R392: Stores a half-word. -/
  | sth (c : Fin 32) (t a : BitVec 5) (mode : BitVec 3) (f : BitVec 13)
  /-- R394: Stores a word, ordered behind earlier stores when it targets the register window. -/
  | stw (c : Fin 32) (t a : BitVec 5) (mode : BitVec 3) (f : BitVec 13)
  /-- R396: Branches when equal. -/
  | breq (c : Fin 32) (a b : BitVec 5) (off : BitVec 16)
  /-- R396: Branches when not equal. -/
  | brne (c : Fin 32) (a b : BitVec 5) (off : BitVec 16)
  /-- R396: Branches when less, signed. -/
  | brlt (c : Fin 32) (a b : BitVec 5) (off : BitVec 16)
  /-- R396: Branches when greater or equal, signed. -/
  | brge (c : Fin 32) (a b : BitVec 5) (off : BitVec 16)
  /-- R396: Branches when less, unsigned. -/
  | brltu (c : Fin 32) (a b : BitVec 5) (off : BitVec 16)
  /-- R396: Branches when greater or equal, unsigned. -/
  | brgeu (c : Fin 32) (a b : BitVec 5) (off : BitVec 16)
  /-- R396: Jumps by a signed word offset. -/
  | jmp (c : Fin 32) (off : BitVec 26)
  /-- R396: Jumps by a signed word offset and writes the return address to g28. -/
  | call (c : Fin 32) (off : BitVec 26)
  /-- R397: Reads a system register, latching CYCLE_HI on a CYCLE_LO read. -/
  | sread (c : Fin 32) (d a : BitVec 5) (n : BitVec 12)
  /-- R397: Writes a system register. -/
  | swrite (c : Fin 32) (d a : BitVec 5) (n : BitVec 12)
  /-- R397: Returns from an exception, restoring PC and CSTATE. -/
  | resume (c : Fin 32) (d a : BitVec 5) (n : BitVec 12)
  /-- R397: Waits until an enabled event is pending. -/
  | wfe (c : Fin 32) (d a : BitVec 5) (n : BitVec 12)
  /-- R397: Waits until earlier loads complete and earlier stores are acknowledged. -/
  | fence (c : Fin 32) (d a : BitVec 5) (n : BitVec 12)
  /-- R397: Raises exception 0x07 with n in XADDR. -/
  | trap (c : Fin 32) (d a : BitVec 5) (n : BitVec 12)
  /-- R397: Raises a breakpoint exception or halts for the debugger. -/
  | brk (c : Fin 32) (d a : BitVec 5) (n : BitVec 12)
  /-- R401: Between two instructions, an enabled pending event raises exception 0x09. -/
  | eventException (c : Fin 32)
  /-- R401: TIMER reaches zero, sets EVENTS bit 0 and stops. -/
  | timerExpiry (c : Fin 32)
  /-- R401: A write to CORE_EVT sets EVENTS bits of a core. -/
  | coreEvt (q : Requester) (c : Fin 33) (v : BitVec 32)
  /-- R406: Every 10 µs the device reads rail currents and integrates package energy, applying the fast current protection. -/
  | currentRead (rails : List RailRead) (fixedNj : Nat)
  /-- R408: A write of PWR_LEVELS starts clock and voltage changes of compute dies. -/
  | pwrLevelsWrite (q : Requester) (v : BitVec 32)
  /-- R408: A level change's voltage settles and the new clock is in force. -/
  | levelChangeDone (die : Fin 8)
  /-- R409: A supply 40 mV below its level voltage stretches that die's clock until it recovers. -/
  | droop (die : Fin 8) (low : Bool)
  /-- R409: PWR_BUDGET unwritten for 1 ms with energy above the limit lowers every die one level per millisecond. -/
  | budgetSilence
  /-- R412: At each 100 µs window the governor computes the budget, admits work, sets levels and pacing. -/
  | governorWindow (work : List PwrWork)
  /-- R415: Every 100 µs the hottest sensor of each die is reported and thermal thresholds are applied. -/
  | dieTempUpdate (dies : List (BitVec 8)) (io : BitVec 8)
  /-- R417: Setting PWR_CTL.EN runs the configuration-consistency check. -/
  | pwrEnSet (q : Requester) (v : BitVec 32)
  /-- R418: Each PERIOD_MS the device sends IPFIX data records on its transmit channel. -/
  | ipfixExport (takes : Bool)
  /-- R418: Every TEMPLATE_S seconds the template set is sent. -/
  | ipfixTemplate (takes : Bool)
  /-- R419: MCTP control Set Endpoint ID. -/
  | setEndpointId (op : Fin 4) (eid : BitVec 8)
  /-- R419: MCTP control Get Endpoint ID. -/
  | getEndpointId
  /-- R419: MCTP control Get MCTP Version Support. -/
  | getMctpVersionSupport (type : BitVec 8)
  /-- R419: MCTP control Get Message Type Support. -/
  | getMessageTypeSupport
  /-- R419: MCTP control Get Endpoint UUID. -/
  | getEndpointUuid
  /-- R419: PLDM GetTID. -/
  | gettid
  /-- R419: PLDM SetTID. -/
  | settid (tid : BitVec 8)
  /-- R419: PLDM GetPLDMVersion. -/
  | getpldmversion (type : BitVec 8)
  /-- R419: PLDM GetPLDMTypes. -/
  | getpldmtypes
  /-- R419: PLDM GetPLDMCommands. -/
  | getpldmcommands (type : BitVec 8)
  /-- R419: PLDM GetPDRRepositoryInfo. -/
  | getpdrrepositoryinfo
  /-- R419: PLDM GetPDR. -/
  | getpdr (handle : BitVec 32)
  /-- R419: PLDM GetSensorReading. -/
  | getsensorreading (sensor : BitVec 16)
  /-- R419: PLDM GetSensorThresholds. -/
  | getsensorthresholds (sensor : BitVec 16)
  /-- R420: A vendor-defined MCTP wake request drives WAKE_N low in D3cold with PME_En set. -/
  | wakeRequest
  /-- R414: Sets the package limit from the next window. -/
  | synPwrLimitSet (r : SynReq) (limit : BitVec 16)
  /-- R421: Returns power registers, deferred classes and debt. -/
  | synPwrQuery (r : SynReq)
  /-- R411: Sets a descriptor class record. -/
  | synPwrClassSet (r : SynReq) (cls : Fin 64) (record : List (BitVec 8))
  /-- R421: Sets FLOOR. -/
  | synPwrFloorSet (r : SynReq) (level : BitVec 8)
  /-- R418: Configures and enables IPFIX export. -/
  | synTelExportSet (r : SynReq) (spec : ExportSpec)
  /-- R421: Returns export settings and counters. -/
  | synTelQuery (r : SynReq)
  /-- R426: A fault reaches the collector, is latched or overflows, counted and notified. -/
  | faultReport (reps : List FaultRep)
  /-- R424: A report rail pair reading equal values for two cycles reports source 0x1B. -/
  | railBreak (source : BitVec 8) (runit : BitVec 16)
  /-- R425: A block's parity error line latches in FLT_BLOCKS and reports source 0x1C. -/
  | blockLine (b : Fin 22) (raised : Bool)
  /-- R431: Writing one to VALID or OVERFLOW of FLT_FIRST acknowledges or clears it. -/
  | fltAck (q : Requester) (c : Fin 3) (valid : Bool) (overflow : Bool)
  /-- R430: A write of FLT_CTL.MODE changes the mode, or is refused while a latch is VALID. -/
  | fltModeWrite (q : Requester) (v : BitVec 32)
  /-- R425: Writing one to an FLT_BLOCKS bit lets the block take work again. -/
  | fltBlocksClear (q : Requester) (v : BitVec 32)
  /-- R436: FLT_INJ.ARM arms an injection, injects at once in factory mode, or sets DENIED. -/
  | fltInjArm (q : Requester) (v : BitVec 32)
  /-- R436: The next write to an armed target carries inverted check bits and BUSY clears. -/
  | injectionTargetWrite (checker : Fin 6) (unit : BitVec 16) (addr : BitVec 64)
  /-- R432: The 10 ms rate limit for a source passes and domain 16 writes EVT_FAULT for its class 0 faults. -/
  | ceEventDue (source : BitVec 8)
  /-- R439: Returns collector status. -/
  | synFltQuery (r : SynReq)
  /-- R431: Acknowledges classes and clears OVERFLOW bits. -/
  | synFltAck (r : SynReq) (classes : BitVec 3) (overflows : BitVec 3)
  /-- R430: Sets native or compatibility mode. -/
  | synFltModeSet (r : SynReq) (mode : BitVec 32)
  /-- R436: Arms a fault injection. -/
  | synFltInject (r : SynReq) (checker : BitVec 4) (flip : BitVec 2) (unit : BitVec 16) (addr : BitVec 64)
  /-- R439: Forces the safe state with source 0x1E. -/
  | synFltForceSafe (r : SynReq)
  /-- R425: Rewrites a block's configuration and clears its FLT_BLOCKS bit. -/
  | synFltBlockClear (r : SynReq) (b : Fin 22)
  /-- R466: Setting CKP_CTL.EN runs the configuration-consistency check. -/
  | ckpEnSet (q : Requester) (v : BitVec 32)
  /-- R440: CKP_MARK.MARK takes a checkpoint mark and sends the step's journal entries and JOURNAL_COMMIT to the buddy. -/
  | mark (q : Requester) (v : BitVec 32)
  /-- R451: MARK with SNAP pins the mark for a snapshot. -/
  | snap (q : Requester) (v : BitVec 32)
  /-- R450: CKP_MARK.ROLLBACK restores pre-images back to CKP_REPLICA. -/
  | rollback (q : Requester) (v : BitVec 32)
  /-- R450: The rollback finishes and ROLLBACK_BUSY clears. -/
  | rollbackDone
  /-- R451: CKP_MARK.UNPIN ends or abandons the snapshot pin. -/
  | unpin (q : Requester) (v : BitVec 32)
  /-- R445: A write to an append region, once visible, is copied to the buddy's mirror. -/
  | appendCopy
  /-- R447: A mark's journal and append copies are done at the buddy, CKP_LOCAL is set and CFLAG is set. -/
  | locallyCommitted
  /-- R448: Firmware raises CKP_REPLICA, committing steps and freeing pre-images. -/
  | ckpReplicaWrite (q : Requester) (v : BitVec 64)
  /-- R452: Once CKP_REPLICA reaches the pinned mark, the node writes its shard copy and sends SNAP_DONE. -/
  | snapshotWrite (buddy : Bool) (lba : BitVec 64)
  /-- R454: The manifest writer writes a generation when all copies report or 120 s pass. -/
  | manifestWrite (lba : BitVec 64)
  /-- R459: Every 50 ms each member sends LEASE_REQ to all five witnesses. -/
  | leaseRenewal
  /-- R462: The lease end passes or the counter steps, freezing streams and holding token records. -/
  | leaseLapse
  /-- R448: A received LOCAL_COMMIT updates the member's committed mark. -/
  | localCommit (conn : BitVec 20) (msn : BitVec 32)
  /-- R446: The buddy receives a step's JOURNAL_COMMIT and applies journal entries up to its replica commit. -/
  | journalCommit (conn : BitVec 20) (msn : BitVec 32) (ring : BitVec 52) (pages : BitVec 16)
  /-- R460: A witness answers a LEASE_REQ with a grant or a refusal. -/
  | leaseReq (conn : BitVec 20) (msn : BitVec 32)
  /-- R459: A member counts a grant and writes CKP_LEASE when three grant the same SEQ. -/
  | leaseGrant (conn : BitVec 20) (msn : BitVec 32)
  /-- R461: A member learns of another view and requests leases under it. -/
  | leaseRefuse (conn : BitVec 20) (msn : BitVec 32)
  /-- R460: A witness stops granting and accepts a proposed view once prior grants have ended. -/
  | propose (p : CkpProposal)
  /-- R461: A proposer counts an ACCEPT and sends VIEW_INSTALL on the third. -/
  | accept (conn : BitVec 20) (msn : BitVec 32)
  /-- R461: A member installs a new view. -/
  | viewInstall (conn : BitVec 20) (msn : BitVec 32)
  /-- R455: A restoring node records another rank's verification result and decides the restore step. -/
  | verified (conn : BitVec 20) (msn : BitVec 32)
  /-- R454: The manifest writer records a completed shard copy. -/
  | snapDone (conn : BitVec 20) (msn : BitVec 32)
  /-- R467: Configures and enables checkpointing. -/
  | synCkpConfig (r : SynReq) (record : List (BitVec 8)) (view : BitVec 32) (members witnesses spares : List (BitVec 32))
  /-- R467: Returns checkpoint state. -/
  | synCkpQuery (r : SynReq)
  /-- R451: Pins a mark for a snapshot. -/
  | synCkpSnapshot (r : SynReq) (volume : Fin 1024) (retain : BitVec 8) (base : BitVec 64)
  /-- R455: Verifies the manifest and shards and restores the replica to step S. -/
  | synCkpRestore (r : SynReq) (volume : Fin 1024) (lba : BitVec 64) (trusted : List (List (BitVec 8))) (rank : BitVec 16) (members : List (BitVec 32)) (manifests shards : List (List (BitVec 8)))
  /-- R457: A spare takes over a failed rank from its buddy's mirror. -/
  | synCkpTakeover (r : SynReq) (rank : BitVec 16) (conn : BitVec 20) (view : BitVec 32)
  /-- R462: Discards frozen records and closes the streams of a lapsed node. -/
  | synCkpDrain (r : SynReq)
  /-- R460: Sets a witness to serve a replica's view. -/
  | synCkpWitnessSet (r : SynReq) (replica view : BitVec 32) (members : List (BitVec 32))
  /-- R395: The atomic operation with fn 0x01 stores g(b) into the aligned word and returns the old value in g(d). -/
  | atomicSwap (c : Fin 32) (d a b sh : BitVec 5)
  /-- R6: A read of a register with RC fields returns the value and clears the field, keeping a same-cycle event for the next read. -/
  | registerRead (q : Requester) (space : RegSpace) (off : BitVec 26) (len : Fin 4097)
  /-- R481: When every main rail has come into range, the always-on island releases the internal reset it held and the straps latch. -/
  | mainRailInRange (straps : BitVec 8)
  /-- R296: An accelerator or drive root port completes link training, and for a drive port the NVMe controller is enumerated and made READY. -/
  | rootPortLinkUp (port : RootLink)
  /-- R423: An accelerator or drive root port loses its link, reports fault source 0x1A and holds the port in link-disable. -/
  | rootPortLinkLost (port : Fin 12) (ltssm : BitVec 32)
  /-- R318: An IEEE 1149.1 operation on TCK, TMS and TDI shifts a data register: boundary scan, the debug challenge and token, a BOOT_HOLD debug command or FLT_INJ. -/
  | jtagAccess (op : JtagOp)
  /-- R299: A remote target that has not answered Fabrics Connect within 10 s ends SYN_STO_TARGET_CONNECT with 0x0553. -/
  | connectTimeout (c : Fin 64)
  /-- R460: A witness holding an accepted proposal sends ACCEPT once TIME_NOW passes every grant end × 1.0004 + 1 ms. -/
  | grantEndPassed (replica : BitVec 32)
deriving DecidableEq, Repr

end Sys2Proof
end

