-- ==== Sys2Proof/Config.lean ====
section
/-! DEFINITION. What an implementation fixes and the values the manual leaves open: uninterpreted constants, and the
published cipher, hash and signature functions the manual refers to by name, left uninterpreted. -/

namespace Sys2Proof.Config

/-- A free value of `w` bits: the counter of State makes each use a fresh one. Nothing constrains it. (Log entry 5:
DESIGN CHOICE, safe.) -/
opaque freeValue (w : Nat) : Nat → BitVec w

/-- A non-zero 32-bit value from the entropy source, less one (R30, R53, R304). (Log entry 5: DESIGN CHOICE, safe.) -/
opaque freeNonzero32 : Nat → Fin 4294967295

/-- A special-function result for an FP32 operand, by FUNC, as Eland's sampler uses it, where the manual states an error
bound and no value (R51, R144). (Log entry 39: DESIGN CHOICE, safe.) -/
opaque sfuValue : Nat → BitVec 32 → BitVec 32

/-- Cosine and sine of the rotary encoding's angle as FP32 codes, by ROPE_BASE, head length, pair and position: the units
have no such function and the manual gives no rounding (R157). (Log entry 71: DESIGN CHOICE, safe.) -/
opaque ropeTurn : BitVec 32 → Nat → Nat → Nat → BitVec 32 × BitVec 32

/-- The pairs of the rotary encoding: the two halves of a head, or adjacent elements (R157 does not say). (Log entry
71: DESIGN CHOICE, safe.) -/
opaque ropeHalves : Bool

/-- The non-zero value the entropy source loads into the LFSR of an arbiter at a full device reset, less one (R175): the
argument numbers the arbiter and the reset. (Log entry 14: DESIGN CHOICE, safe.) -/
opaque lfsrSeed : Nat → Fin 65535

/-- SHAKE256 of a byte string with the given number of output bytes (FIPS 202; R310). (Log entry 11: DESIGN CHOICE,
safe.) -/
opaque shake256 : List Byte → Nat → List Byte

/-- SLH-DSA verification: parameter set (0: SHAKE-256s, 1: SHAKE-256f), public key, message, signature (FIPS 205;
R315, R317). (Log entry 11: DESIGN CHOICE, safe.) -/
opaque slhDsaVerify : Nat → List Byte → List Byte → List Byte → Bool

/-- SLH-DSA signing: parameter set, secret seed, message, hedging randomness (FIPS 205; R317). -/
opaque slhDsaSign : Nat → List Byte → List Byte → List Byte → List Byte

/-- SLH-DSA key generation from SK.seed, SK.prf and PK.seed (96 bytes): the 64-byte public key (R302). -/
opaque slhDsaPublic : List Byte → List Byte

/-- The four image-signing key digests of the boot ROM (R315). -/
opaque romImageDigest : Nat → List Byte

/-- The Colkied debug key digests of the boot ROM, by SIGNER (R318). -/
opaque romDebugDigest : Nat → List Byte

/-- The two manufacturing key digests of the boot ROM (R303). -/
opaque romMfgDigest : Nat → List Byte

/-- The PUF: the seed that helper data reconstructs (R301). (Log entry 11: DESIGN CHOICE, safe.) -/
opaque pufSeed : List Byte → List Byte

/-- The 32-byte check value that the helper data carries (R301 gives no place for it). -/
opaque helperCheck : List Byte → List Byte

/-- The endpoint UUID that Get Endpoint UUID gives from SEC_DSN (R419 states no layout). (Log entry 195: DESIGN
CHOICE, safe.) -/
opaque endpointUuid : Nat → BitVec 128

/-- AES-256-GCM: key, IV, additional data and text give the output text and the tag (SP 800-38D; R310). (Log entry
11: DESIGN CHOICE, safe.) -/
opaque gcmEncrypt : List Byte → List Byte → List Byte → List Byte → List Byte × List Byte

/-- AES-256-GCM decryption of a text, without its tag check. -/
opaque gcmDecrypt : List Byte → List Byte → List Byte → List Byte → List Byte

/-- The GCM tag of a ciphertext: key, IV, additional data, ciphertext. -/
opaque gcmTag : List Byte → List Byte → List Byte → List Byte → List Byte

/-- AES-256-XTS of one 4,096-byte data unit: key (data key, tweak key), unit number, text (IEEE 1619; R310). (Log
entry 11: DESIGN CHOICE, safe.) -/
opaque xtsEncrypt : List Byte → Nat → List Byte → List Byte

/-- The inverse of `xtsEncrypt`. -/
opaque xtsDecrypt : List Byte → Nat → List Byte → List Byte

/-- The MAC address of an Ethernet port: the spec gives the ports none. (Log entry 348: DESIGN CHOICE, safe.) -/
opaque portMac (port : Nat) : BitVec 48

/-- Where in HBM the boot ROM puts the firmware package (R362 names the firmware region and gives no address). (Log
entry 173: DESIGN CHOICE, safe.) -/
opaque firmwareRegion : Nat

end Sys2Proof.Config
end

