-- ==== Sys2Proof/Machine/Bits.lean ====
section
/-! DEFINITION. Bit fields, sign extension, byte order and saturating counts, each written once. -/

namespace Sys2Proof.Machine

/-- A bit field [lo + n - 1 : lo] of a register or record. -/
structure Fd where
  lo : Nat
  n : Nat
deriving DecidableEq, Repr

/-- The field [lo + n - 1 : lo] of a number. -/
def bitsOf (v lo n : Nat) : Nat := (v >>> lo) % 2 ^ n

/-- The number `v` with its field [lo + n - 1 : lo] replaced by `x` (truncated to the field). -/
def bitsPut (v lo n x : Nat) : Nat :=
  (v >>> (lo + n)) <<< (lo + n) + ((x % 2 ^ n) <<< lo) + v % 2 ^ lo

/-- A field of a 32-bit word. -/
def Fd.get (f : Fd) (w : W32) : Nat := bitsOf w.toNat f.lo f.n

/-- A 32-bit word with one field replaced. -/
def Fd.put (f : Fd) (w : W32) (x : Nat) : W32 := BitVec.ofNat 32 (bitsPut w.toNat f.lo f.n x)

/-- Bit `i` of a number. -/
def bitAt (v i : Nat) : Bool := (v >>> i) % 2 == 1

/-- One for true, zero for false, as a field value. -/
def b2n (b : Bool) : Nat := if b then 1 else 0

/-- Little-endian bytes of a number, `n` of them (R2). -/
def leBytes : Nat → Nat → List Byte
  | 0, _ => []
  | n + 1, v => BitVec.ofNat 8 v :: leBytes n (v / 256)

/-- The number that a little-endian byte list spells (R2). -/
def leNat : List Byte → Nat
  | [] => 0
  | b :: bs => b.toNat + 256 * leNat bs

/-- Network (big-endian) byte order, for fabric and Ethernet wire headers (R2). -/
def beNat (bs : List Byte) : Nat := leNat bs.reverse

/-- Big-endian bytes of a number. -/
def beBytes (n v : Nat) : List Byte := (leBytes n v).reverse

/-- Bytes [off, off + n) of a byte list, read little-endian; absent bytes read as zero. -/
def fieldLE (bs : List Byte) (off n : Nat) : Nat := leNat ((bs.drop off).take n)

/-- A byte list with bytes [off, off + n) replaced by the little-endian spelling of `v`. -/
def putLE (bs : List Byte) (off n v : Nat) : List Byte :=
  bs.take off ++ leBytes n v ++ bs.drop (off + n)

/-- A bit field of a little-endian record whose word `w` (32 bits) holds it. -/
def wordFd (bs : List Byte) (w lo n : Nat) : Nat := bitsOf (fieldLE bs (4 * w) 4) lo n

/-- A field of a little-endian record by its bit position from the record's start; no field crosses 8 aligned bytes. -/
def Fd.read (f : Fd) (bs : List Byte) : Nat := bitsOf (fieldLE bs (f.lo / 64 * 8) 8) (f.lo % 64) f.n

/-- A record with one field replaced. -/
def Fd.write (f : Fd) (bs : List Byte) (x : Nat) : List Byte :=
  putLE bs (f.lo / 64 * 8) 8 (bitsPut (fieldLE bs (f.lo / 64 * 8) 8) (f.lo % 64) f.n x)

/-- An unsigned sum that stops at `max`, for counters that saturate. -/
def satAdd (max v x : Nat) : Nat := min max (v + x)

/-- Two's complement reading of an `n`-bit number. -/
def sext (n v : Nat) : Int := if v % 2 ^ n < 2 ^ (n - 1) then (v % 2 ^ n : Nat) else (v % 2 ^ n : Nat) - (2 ^ n : Nat)

/-- The `n`-bit two's complement spelling of an integer. -/
def toU (n : Nat) (x : Int) : Nat := (x % (2 ^ n : Nat)).toNat

/-- A choice by an optional value. -/
def onSome {α β : Type} (o : Option α) (none_ : β) (some_ : α → β) : β :=
  match o with
  | some x => some_ x
  | none => none_

/-- A choice by the error of an access that answers bytes and a state. -/
def onLoad {ε σ β : Type} (r : Option ε × List Byte × σ) (good : List Byte → σ → β) (bad : ε → σ → β) : β :=
  match r.1 with
  | none => good r.2.1 r.2.2
  | some e => bad e r.2.2

/-- A number shifted left. -/
def shl (v n : Nat) : Nat := v <<< n

/-- `v` is a multiple of `k`. -/
def aligned (k v : Nat) : Bool := v % k == 0

/-- The byte range [a, a + n) meets [b, b + m). -/
def overlaps (a n b m : Nat) : Bool := decide (a < b + m) && decide (b < a + n)

end Sys2Proof.Machine
end

