-- ==== Sys2Proof/Machine/Formats.lean ====
section
/-! DEFINITION. Number formats and rounding (02_number_formats.md R16 to R34): exact dyadic values, scalar and element
encodings, rounding by R28, block records by R21 to R27, and binary32 arithmetic. -/

namespace Sys2Proof.Machine

/-- An exact value: a NaN, a signed infinity, or (−1)^neg × m × 2^e. -/
inductive Num where
  | nan
  | inf (neg : Bool)
  | fin (neg : Bool) (m : Nat) (e : Int)
deriving DecidableEq, Repr

/-- A floating-point encoding: exponent bits, mantissa bits, bias, and its special values: `ieee` has infinities and
NaNs under an all-ones exponent, `topNan` a NaN only as the all-ones magnitude, neither has none (R17). -/
structure FloatFmt where
  eb : Nat
  mb : Nat
  bias : Nat
  ieee : Bool
  topNan : Bool
deriving DecidableEq, Repr

def fp32 : FloatFmt := ⟨8, 23, 127, true, false⟩
def bf16 : FloatFmt := ⟨8, 7, 127, true, false⟩
def e5m2 : FloatFmt := ⟨5, 2, 15, true, false⟩
def e4m3 : FloatFmt := ⟨4, 3, 7, false, true⟩
def e3m2 : FloatFmt := ⟨3, 2, 3, false, false⟩
def e2m3 : FloatFmt := ⟨2, 3, 1, false, false⟩
def e2m1 : FloatFmt := ⟨2, 1, 1, false, false⟩

/-- Bits of an encoding. -/
def FloatFmt.width (f : FloatFmt) : Nat := 1 + f.eb + f.mb

/-- The largest finite magnitude field (R17). -/
def FloatFmt.maxField (f : FloatFmt) : Nat :=
  if f.ieee then (2 ^ f.eb - 1) * 2 ^ f.mb - 1
  else if f.topNan then 2 ^ (f.eb + f.mb) - 2
  else 2 ^ (f.eb + f.mb) - 1

/-- Decode an encoding (R17). -/
def FloatFmt.decode (f : FloatFmt) (v : Nat) : Num :=
  let neg := bitAt v (f.eb + f.mb)
  let mag := v % 2 ^ (f.eb + f.mb)
  let e := mag >>> f.mb
  let m := mag % 2 ^ f.mb
  if f.ieee && e == 2 ^ f.eb - 1 then (if m = 0 then .inf neg else .nan)
  else if f.topNan && mag == 2 ^ (f.eb + f.mb) - 1 then .nan
  else if e = 0 then .fin neg m (1 - (f.bias : Int) - f.mb)
  else .fin neg (2 ^ f.mb + m) ((e : Int) - f.bias - f.mb)

/-- The canonical NaN of a format (R20). -/
def FloatFmt.nanCode (f : FloatFmt) : Nat :=
  if f.ieee then (2 ^ f.eb - 1) * 2 ^ f.mb + 2 ^ (f.mb - 1) else 2 ^ (f.eb + f.mb) - 1

/-- Rounding select: to nearest even, or stochastic with a 16-bit draw (R28). -/
inductive Rounding where
  | nearest
  | stochastic (r : Nat)
deriving DecidableEq, Repr

/-- Round m × 2^e to an integer multiple of 2^g: the multiple (R28). -/
def roundTo (rnd : Rounding) (m : Nat) (e g : Int) : Nat :=
  if g ≤ e then m <<< (e - g).toNat
  else
    let sh := (g - e).toNat
    let n := m >>> sh
    let rem := m % 2 ^ sh
    match rnd with
    | .nearest => if 2 * rem > 2 ^ sh ∨ (2 * rem = 2 ^ sh ∧ n % 2 = 1) then n + 1 else n
    | .stochastic r => if (rem <<< 16) >>> sh + r ≥ 2 ^ 16 then n + 1 else n

/-- floor(log2) of a non-zero m × 2^e. -/
def expOf (m : Nat) (e : Int) : Int := (Nat.log2 m : Int) + e

/-- The magnitude field of a finite value rounded onto the format's grid, before saturation: it may exceed
`maxField`. -/
def FloatFmt.magnitude (f : FloatFmt) (rnd : Rounding) (m : Nat) (e : Int) : Nat :=
  if m = 0 then 0
  else
    let emin : Int := 1 - f.bias
    let g := max (expOf m e) emin - f.mb
    let n := roundTo rnd m e g
    if g = emin - f.mb ∧ n < 2 ^ f.mb then n
    else ((g + f.mb + f.bias).toNat <<< f.mb) + n - 2 ^ f.mb

/-- Convert to a scalar format (R28, R31, R32): `sat` chooses the largest finite value on overflow. -/
def FloatFmt.encode (f : FloatFmt) (rnd : Rounding) (sat : Bool) (x : Num) : Nat :=
  let sign (neg : Bool) := b2n neg <<< (f.eb + f.mb)
  let infCode := (2 ^ f.eb - 1) * 2 ^ f.mb
  match x with
  | .nan => f.nanCode
  | .inf neg => if f.ieee then sign neg + infCode else f.nanCode
  | .fin neg m e =>
    let mag := f.magnitude rnd m e
    if mag ≤ f.maxField then sign neg + mag
    else if sat then sign neg + f.maxField
    else if f.ieee then sign neg + infCode
    else f.nanCode

/-- Add exactly. The zero of opposite zeros is positive, as binary32 gives under round to nearest. (Log entry 20:
DEDUCED, unsafe.) -/
def Num.add : Num → Num → Num
  | .nan, _ => .nan
  | _, .nan => .nan
  | .inf a, .inf b => if a = b then .inf a else .nan
  | .inf a, _ => .inf a
  | _, .inf b => .inf b
  | .fin na ma ea, .fin nb mb eb =>
    let g := min ea eb
    let a : Int := (ma <<< (ea - g).toNat : Nat)
    let b : Int := (mb <<< (eb - g).toNat : Nat)
    let s := (if na then -a else a) + (if nb then -b else b)
    if s = 0 then .fin (na && nb && decide (a = 0 ∧ b = 0) || (na && nb)) 0 g
    else .fin (decide (s < 0)) s.natAbs g

/-- Multiply exactly. -/
def Num.mul : Num → Num → Num
  | .nan, _ => .nan
  | _, .nan => .nan
  | .inf a, .inf b => .inf (a != b)
  | .inf a, .fin nb m _ => if m = 0 then .nan else .inf (a != nb)
  | .fin na m _, .inf b => if m = 0 then .nan else .inf (na != b)
  | .fin na ma ea, .fin nb mb eb => .fin (na != nb) (ma * mb) (ea + eb)

def Num.neg : Num → Num
  | .nan => .nan
  | .inf a => .inf (!a)
  | .fin n m e => .fin (!n) m e

def Num.abs : Num → Num
  | .nan => .nan
  | .inf _ => .inf false
  | .fin _ m e => .fin false m e

/-- Scale by 2^k. -/
def Num.scale (x : Num) (k : Int) : Num :=
  match x with
  | .fin n m e => .fin n m (e + k)
  | y => y

/-- Total order key on values other than NaN with −0 below +0 (R51): strictly less. -/
def Num.lt : Num → Num → Bool
  | .nan, _ => false
  | _, .nan => false
  | .inf a, .inf b => a && !b
  | .inf a, _ => a
  | _, .inf b => !b
  | .fin na ma ea, .fin nb mb eb =>
    let g := min ea eb
    let a : Int := (ma <<< (ea - g).toNat : Nat)
    let b : Int := (mb <<< (eb - g).toNat : Nat)
    let x := if na then -a else a
    let y := if nb then -b else b
    decide (x < y) || (decide (x = y) && decide (a = 0) && na && !nb)

def Num.isNan : Num → Bool
  | .nan => true
  | _ => false

def Num.isFinite : Num → Bool
  | .fin _ _ _ => true
  | _ => false

/-- Binary32 rounding of an exact value (R34), and its decoding back. -/
def toF32 (x : Num) : Nat := fp32.encode .nearest false x
def rnd32 (x : Num) : Num := fp32.decode (toF32 x)

/-! ### Format codes (R16, R22, R23) -/

/-- Element format of a block code; none for INT8. -/
def elemFmt (code : Nat) : Option FloatFmt :=
  match code with
  | 0x0 => some fp32 | 0x1 => some bf16 | 0x2 => some e4m3 | 0x3 => some e5m2
  | 0x4 => some e4m3 | 0x5 => some e5m2 | 0x6 => some e3m2 | 0x7 => some e2m3
  | 0x8 => some e2m1 | 0xA => some e3m2 | 0xB => some e2m3 | 0xC => some e2m1
  | _ => none

def isScalar (code : Nat) : Bool := decide (code ≤ 3)
def isBlock (code : Nat) : Bool := decide (4 ≤ code) && decide (code ≤ 0xC)
def isNested (code : Nat) : Bool := decide (0xA ≤ code) && decide (code ≤ 0xC)
def isReserved (code : Nat) : Bool := decide (0xC < code)

/-- Bits of one stored element. -/
def elemBits (code : Nat) : Nat :=
  match code with
  | 0x0 => 32 | 0x1 => 16 | 0x2 => 8 | 0x3 => 8 | 0x4 => 8 | 0x5 => 8 | 0x6 => 6 | 0x7 => 6 | 0x8 => 4
  | 0x9 => 8 | 0xA => 6 | 0xB => 6 | _ => 4

/-- Header bytes of a block record (R22). -/
def headBytes (code : Nat) : Nat := if isNested code then 2 else if isBlock code then 1 else 0

/-- Bytes of a block record (R22). -/
def recordBytes (code : Nat) : Nat := headBytes code + 4 * elemBits code

/-- Bytes that `count` elements take in memory: whole blocks for a block format (R24). (Log entry 21: DEDUCED, safe.) -/
def storedBytes (code count : Nat) : Nat :=
  if isScalar code then count * (elemBits code / 8) else (count + 31) / 32 * recordBytes code

/-- emax of R25: the exponent of the largest normal value of the element format. -/
def emaxOf (code : Nat) : Int :=
  match code with
  | 0x4 => 8 | 0x5 => 15 | 0x6 => 4 | 0x7 => 2 | 0x8 => 2 | 0x9 => 0 | 0xA => 4 | 0xB => 2 | _ => 2

/-- Element `i` of a packed little-endian field list (R23). -/
def elemAt (code : Nat) (bs : List Byte) (i : Nat) : Nat := bitsOf (leNat bs) (i * elemBits code) (elemBits code)

/-- Value of an element encoding (R17, R19). -/
def elemValue (code v : Nat) : Num :=
  match elemFmt code with
  | some f => f.decode v
  | none => let n := sext 8 v; .fin (decide (n < 0)) n.natAbs (-6)

/-- Decode one block record to its 32 values (R21). -/
def decodeBlock (code : Nat) (bs : List Byte) : List Num :=
  let x := fieldLE bs 0 1
  let rel := fieldLE bs 1 1
  let els := bs.drop (headBytes code)
  let packed := leNat els
  (List.range 32).map (fun i =>
    if x = 0xFF then .nan
    else
      let d : Int := if isNested code then (if i < 16 then rel % 16 else rel / 16 : Nat) else 0
      (elemValue code (bitsOf packed (i * elemBits code) (elemBits code))).scale ((x : Int) - 127 - d))

/-- The largest floor(log2) among finite non-zero values; none when all are zero. -/
def maxExp : List Num → Option Int
  | [] => none
  | .fin _ m e :: xs =>
    let r := maxExp xs
    if m = 0 then r
    else match r with
      | none => some (expOf m e)
      | some k => some (max k (expOf m e))
  | _ :: xs => maxExp xs

/-- Encode an element onto the element grid, saturating (R28, R31). -/
def encodeElem (code : Nat) (rnd : Rounding) (x : Num) : Nat :=
  match elemFmt code, x with
  | some f, .fin neg m e => b2n neg <<< (f.eb + f.mb) + min (f.magnitude rnd m e) f.maxField
  | none, .fin neg m e =>
    let n := if m = 0 then 0 else min 127 (roundTo rnd m e (-6))
    if neg then (256 - n) % 256 else n
  | _, _ => 0

/-- Pack field values into bytes, least significant first (R23). -/
def packElems (code : Nat) (vs : List Nat) : List Byte :=
  leBytes (4 * elemBits code) (vs.foldr (fun v acc => v + acc <<< elemBits code) 0)

/-- Encode 32 values as one block record (R25 to R27): the record and whether it was written by the non-finite rule.
`rnds` gives the rounding of each element. -/
def encodeBlock (code : Nat) (rnds : List Rounding) (vs : List Num) : List Byte × Bool :=
  if vs.any (fun v => !v.isFinite) then
    (0xFF#8 :: List.replicate (recordBytes code - 1) 0, true)
  else
    let (scale, rel0, rel1) : Nat × Nat × Nat :=
      match maxExp vs with
      | none => (0, 0, 0)
      | some ea =>
        let s := max (-127) (ea - emaxOf code)
        let rel (h : List Num) : Nat :=
          match maxExp h with
          | none => 0
          | some eh => (min 15 (max 0 (s - (eh - emaxOf code)))).toNat
        ((s + 127).toNat, if isNested code then rel (vs.take 16) else 0, if isNested code then rel (vs.drop 16) else 0)
    let els := (List.range 32).map (fun i =>
      let d := if isNested code then (if i < 16 then rel0 else rel1) else 0
      let k : Int := 127 - (scale : Int) + d
      encodeElem code (rnds.getD i .nearest) ((vs.getD i (.fin false 0 0)).scale k))
    let head := if isNested code then [BitVec.ofNat 8 scale, BitVec.ofNat 8 (rel0 + 16 * rel1)] else [BitVec.ofNat 8 scale]
    (head ++ packElems code els, false)

/-- Values of `count` elements stored in a format from the first byte of `bs`: scalars one after another, blocks as
whole records (R22, R24). (Log entry 21: DEDUCED, safe.) -/
def decodeElems (code count : Nat) (bs : List Byte) : List Num :=
  if isScalar code then
    let w := elemBits code / 8
    (List.range count).map (fun i => elemValue code (fieldLE bs (i * w) w))
  else
    let rec go : Nat → List Byte → List Num
      | 0, _ => []
      | n + 1, bs => decodeBlock code bs ++ go n (bs.drop (recordBytes code))
    (go ((count + 31) / 32) bs).take count

end Sys2Proof.Machine
end

