-- ==== Sys2Proof/Machine/RegMap.lean ====
section
/-! DEFINITION. The register maps of the manual: the offset of every register, its fields, and the one table of
descriptors (offset, copies, stride, field accesses and reset values) that the register rules R2 to R7 work from.
BAR4 (the instance pages, R347) is addressed here as 0x1000_0000 plus its BAR4 offset. -/

namespace Sys2Proof.Machine

/-- Access types of R6. -/
inductive Acc where
  | ro | rw | rw1c | wo | rc | rws
deriving DecidableEq, Repr

/-- Who may write a block's registers. -/
inductive Writer where
  | host | core | either
deriving DecidableEq, Repr

/-- One field of a register map. -/
structure FieldDesc where
  lo : Nat
  n : Nat
  acc : Acc
  reset : Nat
deriving DecidableEq, Repr

/-- One register of the manual: `count` copies `stride` bytes apart, each of `words` consecutive 32-bit words with the
same fields (a 64-bit register is `wide`: its fields run over two words). -/
structure RegDesc where
  off : Nat
  count : Nat
  stride : Nat
  words : Nat
  wide : Bool
  writer : Writer
  fields : List FieldDesc
deriving DecidableEq, Repr

/-- Where this model puts BAR4 offsets among register offsets. -/
def bar4Base : Nat := 0x10000000

/-- DEV_ID, 15_host_endpoint.md R338. -/
def DEV_ID : Nat := 0x0
def DEV_ID_REV : Fd := ⟨56, 8⟩
def DEV_ID_SERIES : Fd := ⟨48, 8⟩
def DEV_ID_NUMBER : Fd := ⟨32, 16⟩
def DEV_ID_SUFFIX : Fd := ⟨8, 24⟩
/-- DEV_STATUS, 17_firmware_and_syncen.md R363. -/
def DEV_STATUS : Nat := 0x10
def DEV_STATUS_BOOT_ERR : Fd := ⟨24, 8⟩
def DEV_STATUS_CFG_SLOT : Fd := ⟨9, 1⟩
def DEV_STATUS_CFG_VALID : Fd := ⟨8, 1⟩
def DEV_STATUS_STAGE : Fd := ⟨0, 4⟩
/-- DEV_ENABLE, 17_firmware_and_syncen.md R363. -/
def DEV_ENABLE : Nat := 0x14
def DEV_ENABLE_REFUSAL : Fd := ⟨16, 16⟩
def DEV_ENABLE_EN : Fd := ⟨0, 1⟩
/-- DEV_STRAPS, 17_firmware_and_syncen.md R363. -/
def DEV_STRAPS : Nat := 0x18
def DEV_STRAPS_BOARD_ID : Fd := ⟨4, 4⟩
def DEV_STRAPS_SPI_CLK : Fd := ⟨2, 2⟩
def DEV_STRAPS_BOOT_HOLD : Fd := ⟨1, 1⟩
def DEV_STRAPS_FACTORY : Fd := ⟨0, 1⟩
/-- DEV_LOAD_ADDR, 17_firmware_and_syncen.md R363. -/
def DEV_LOAD_ADDR : Nat := 0x20
def DEV_LOAD_ADDR_ADDR : Fd := ⟨12, 52⟩
/-- DEV_LOAD_CTL, 17_firmware_and_syncen.md R363. -/
def DEV_LOAD_CTL : Nat := 0x28
def DEV_LOAD_CTL_GO : Fd := ⟨31, 1⟩
def DEV_LOAD_CTL_BUSY : Fd := ⟨30, 1⟩
def DEV_LOAD_CTL_LENGTH : Fd := ⟨0, 27⟩
/-- DEV_HEARTBEAT, 17_firmware_and_syncen.md R363. -/
def DEV_HEARTBEAT : Nat := 0x30
def DEV_HEARTBEAT_SESSION : Fd := ⟨0, 32⟩
/-- DEV_FW_VERSION, 17_firmware_and_syncen.md R363. -/
def DEV_FW_VERSION : Nat := 0x38
def DEV_FW_VERSION_VERSION : Fd := ⟨0, 64⟩
/-- DEV_RESET, 15_host_endpoint.md R338. -/
def DEV_RESET : Nat := 0xf0
def DEV_RESET_KEY : Fd := ⟨0, 32⟩
/-- The DEV block. -/
def regsDEV : List RegDesc := [
  ⟨0x0, 1, 0x0, 1, true, .host, [⟨56, 8, .ro, 0xb0⟩, ⟨48, 8, .ro, 0x4e⟩, ⟨32, 16, .ro, 0x1024⟩, ⟨8, 24, .ro, 0x48364c⟩]⟩,
  ⟨0x10, 1, 0x0, 1, false, .host, [⟨24, 8, .ro, 0x0⟩, ⟨9, 1, .ro, 0x0⟩, ⟨8, 1, .ro, 0x0⟩, ⟨0, 4, .ro, 0x0⟩]⟩,
  ⟨0x14, 1, 0x0, 1, false, .host, [⟨16, 16, .ro, 0x0⟩, ⟨0, 1, .rw, 0x0⟩]⟩,
  ⟨0x18, 1, 0x0, 1, false, .host, [⟨4, 4, .ro, 0x0⟩, ⟨2, 2, .ro, 0x0⟩, ⟨1, 1, .ro, 0x0⟩, ⟨0, 1, .ro, 0x0⟩]⟩,
  ⟨0x20, 1, 0x0, 1, true, .host, [⟨12, 52, .rw, 0x0⟩]⟩,
  ⟨0x28, 1, 0x0, 1, false, .host, [⟨31, 1, .wo, 0x0⟩, ⟨30, 1, .ro, 0x0⟩, ⟨0, 27, .rw, 0x0⟩]⟩,
  ⟨0x30, 1, 0x0, 1, false, .host, [⟨0, 32, .wo, 0x0⟩]⟩,
  ⟨0x38, 1, 0x0, 1, true, .host, [⟨0, 64, .ro, 0x0⟩]⟩,
  ⟨0xf0, 1, 0x0, 1, false, .host, [⟨0, 32, .wo, 0x0⟩]⟩]

/-- MBX_REQ, 17_firmware_and_syncen.md R365. -/
def MBX_REQ (i : Nat) (w : Nat := 0) : Nat := 0x10000 + i * 0x1000 + w * 4
/-- MBX_RSP, 17_firmware_and_syncen.md R365. -/
def MBX_RSP (i : Nat) (w : Nat := 0) : Nat := 0x10800 + i * 0x1000 + w * 4
/-- MBX_CTL, 17_firmware_and_syncen.md R365. -/
def MBX_CTL (i : Nat) : Nat := 0x10f80 + i * 0x1000
def MBX_CTL_GO : Fd := ⟨31, 1⟩
def MBX_CTL_BUSY : Fd := ⟨30, 1⟩
def MBX_CTL_DONE : Fd := ⟨29, 1⟩
/-- MBX_VEC, 17_firmware_and_syncen.md R365. -/
def MBX_VEC (i : Nat) : Nat := 0x10f84 + i * 0x1000
def MBX_VEC_VEC_EN : Fd := ⟨31, 1⟩
def MBX_VEC_VECTOR : Fd := ⟨0, 11⟩
/-- MBX_EVT_HEAD, 17_firmware_and_syncen.md R365. -/
def MBX_EVT_HEAD (i : Nat) : Nat := 0x10f88 + i * 0x1000
def MBX_EVT_HEAD_HEAD : Fd := ⟨0, 16⟩
/-- The MBX block. -/
def regsMBX : List RegDesc := [
  ⟨0x10000, 8, 0x1000, 512, false, .host, [⟨0, 32, .rw, 0x0⟩]⟩,
  ⟨0x10800, 8, 0x1000, 480, false, .host, [⟨0, 32, .ro, 0x0⟩]⟩,
  ⟨0x10f80, 8, 0x1000, 1, false, .host, [⟨31, 1, .wo, 0x0⟩, ⟨30, 1, .ro, 0x0⟩, ⟨29, 1, .rw1c, 0x0⟩]⟩,
  ⟨0x10f84, 8, 0x1000, 1, false, .host, [⟨31, 1, .rw, 0x0⟩, ⟨0, 11, .rw, 0x0⟩]⟩,
  ⟨0x10f88, 8, 0x1000, 1, false, .host, [⟨0, 16, .rw, 0x0⟩]⟩]

/-- FLT_CTL, 20_fault_collection.md R437. -/
def FLT_CTL : Nat := 0x20000
def FLT_CTL_REFUSAL : Fd := ⟨16, 16⟩
def FLT_CTL_VEC_EN : Fd := ⟨15, 1⟩
def FLT_CTL_VECTOR : Fd := ⟨4, 11⟩
def FLT_CTL_CE_EVT : Fd := ⟨3, 1⟩
def FLT_CTL_MODE : Fd := ⟨0, 1⟩
/-- FLT_STATUS, 20_fault_collection.md R437. -/
def FLT_STATUS : Nat := 0x20004
def FLT_STATUS_SAFE : Fd := ⟨31, 1⟩
def FLT_STATUS_PEND : Fd := ⟨0, 3⟩
/-- FLT_FIRST, 20_fault_collection.md R437. -/
def FLT_FIRST (i : Nat) : Nat := 0x20010 + i * 0x8
def FLT_FIRST_VALID : Fd := ⟨63, 1⟩
def FLT_FIRST_OVERFLOW : Fd := ⟨62, 1⟩
def FLT_FIRST_ESCALATED : Fd := ⟨61, 1⟩
def FLT_FIRST_INJ : Fd := ⟨60, 1⟩
def FLT_FIRST_SOURCE : Fd := ⟨48, 8⟩
def FLT_FIRST_UNIT : Fd := ⟨32, 16⟩
def FLT_FIRST_DETAIL : Fd := ⟨0, 32⟩
/-- FLT_FIRST_TIME, 20_fault_collection.md R437. -/
def FLT_FIRST_TIME (i : Nat) : Nat := 0x20030 + i * 0x8
def FLT_FIRST_TIME_TIME : Fd := ⟨0, 64⟩
/-- FLT_COUNT, 20_fault_collection.md R437. -/
def FLT_COUNT (i : Nat) : Nat := 0x20048 + i * 0x4
def FLT_COUNT_COUNT : Fd := ⟨0, 32⟩
/-- FLT_BLOCKS, 20_fault_collection.md R437. -/
def FLT_BLOCKS : Nat := 0x20058
def FLT_BLOCKS_LINE : Fd := ⟨0, 22⟩
/-- FLT_INJ, 20_fault_collection.md R437. -/
def FLT_INJ : Nat := 0x20060
def FLT_INJ_ARM : Fd := ⟨31, 1⟩
def FLT_INJ_BUSY : Fd := ⟨30, 1⟩
def FLT_INJ_DENIED : Fd := ⟨29, 1⟩
def FLT_INJ_FLIP : Fd := ⟨27, 2⟩
def FLT_INJ_CHECKER : Fd := ⟨23, 4⟩
def FLT_INJ_UNIT : Fd := ⟨0, 16⟩
/-- FLT_INJ_ADDR, 20_fault_collection.md R437. -/
def FLT_INJ_ADDR : Nat := 0x20068
def FLT_INJ_ADDR_ADDR : Fd := ⟨0, 64⟩
/-- The FLT block. -/
def regsFLT : List RegDesc := [
  ⟨0x20000, 1, 0x0, 1, false, .either, [⟨16, 16, .ro, 0x0⟩, ⟨15, 1, .rw, 0x0⟩, ⟨4, 11, .rw, 0x0⟩, ⟨3, 1, .rw, 0x1⟩, ⟨0, 1, .rws, 0x0⟩]⟩,
  ⟨0x20004, 1, 0x0, 1, false, .either, [⟨31, 1, .ro, 0x0⟩, ⟨0, 3, .ro, 0x0⟩]⟩,
  ⟨0x20010, 3, 0x8, 1, true, .either, [⟨63, 1, .rw1c, 0x0⟩, ⟨62, 1, .rw1c, 0x0⟩, ⟨61, 1, .ro, 0x0⟩, ⟨60, 1, .ro, 0x0⟩, ⟨48, 8, .ro, 0x0⟩, ⟨32, 16, .ro, 0x0⟩, ⟨0, 32, .ro, 0x0⟩]⟩,
  ⟨0x20030, 3, 0x8, 1, true, .either, [⟨0, 64, .ro, 0x0⟩]⟩,
  ⟨0x20048, 3, 0x4, 1, false, .either, [⟨0, 32, .rc, 0x0⟩]⟩,
  ⟨0x20058, 1, 0x0, 1, false, .either, [⟨0, 22, .rw1c, 0x0⟩]⟩,
  ⟨0x20060, 1, 0x0, 1, false, .core, [⟨31, 1, .wo, 0x0⟩, ⟨30, 1, .ro, 0x0⟩, ⟨29, 1, .rw1c, 0x0⟩, ⟨27, 2, .rw, 0x0⟩, ⟨23, 4, .rw, 0x0⟩, ⟨0, 16, .rw, 0x0⟩]⟩,
  ⟨0x20068, 1, 0x0, 1, true, .core, [⟨0, 64, .rw, 0x0⟩]⟩]

/-- TIME_NOW, 11_time_gates_and_shaping.md R260. -/
def TIME_NOW : Nat := 0x30000
def TIME_NOW_NOW : Fd := ⟨0, 64⟩
/-- TIME_CTL, 11_time_gates_and_shaping.md R260. -/
def TIME_CTL : Nat := 0x30008
def TIME_CTL_ARM : Fd := ⟨31, 1⟩
def TIME_CTL_PPSOUT_EN : Fd := ⟨30, 1⟩
def TIME_CTL_PPS_EN : Fd := ⟨29, 1⟩
def TIME_CTL_PPSOUT_WIDTH : Fd := ⟨16, 8⟩
/-- TIME_CFG, 11_time_gates_and_shaping.md R260. -/
def TIME_CFG : Nat := 0x3000c
def TIME_CFG_PPS_DELAY : Fd := ⟨16, 16⟩
def TIME_CFG_PPS_UNC : Fd := ⟨8, 8⟩
def TIME_CFG_HOLD_PPB : Fd := ⟨0, 8⟩
/-- TIME_STATUS, 11_time_gates_and_shaping.md R260. -/
def TIME_STATUS : Nat := 0x30010
def TIME_STATUS_STATE : Fd := ⟨30, 2⟩
def TIME_STATUS_QUALIFIED : Fd := ⟨29, 1⟩
def TIME_STATUS_SET : Fd := ⟨28, 1⟩
def TIME_STATUS_LOST : Fd := ⟨27, 1⟩
def TIME_STATUS_STEPPED : Fd := ⟨26, 1⟩
def TIME_STATUS_REJECTS : Fd := ⟨0, 16⟩
/-- TIME_SET, 11_time_gates_and_shaping.md R260. -/
def TIME_SET : Nat := 0x30018
def TIME_SET_VALUE : Fd := ⟨0, 64⟩
/-- TIME_PHASE, 11_time_gates_and_shaping.md R260. -/
def TIME_PHASE : Nat := 0x30020
def TIME_PHASE_EB : Fd := ⟨32, 32⟩
def TIME_PHASE_ERR : Fd := ⟨0, 32⟩
/-- TIME_FREQ, 11_time_gates_and_shaping.md R260. -/
def TIME_FREQ : Nat := 0x30028
def TIME_FREQ_F : Fd := ⟨0, 32⟩
/-- The TIME block. -/
def regsTIME : List RegDesc := [
  ⟨0x30000, 1, 0x0, 1, true, .core, [⟨0, 64, .ro, 0x0⟩]⟩,
  ⟨0x30008, 1, 0x0, 1, false, .core, [⟨31, 1, .rw, 0x0⟩, ⟨30, 1, .rw, 0x0⟩, ⟨29, 1, .rw, 0x0⟩, ⟨16, 8, .rw, 0x64⟩]⟩,
  ⟨0x3000c, 1, 0x0, 1, false, .core, [⟨16, 16, .rw, 0x0⟩, ⟨8, 8, .rw, 0x14⟩, ⟨0, 8, .rw, 0xa⟩]⟩,
  ⟨0x30010, 1, 0x0, 1, false, .core, [⟨30, 2, .ro, 0x0⟩, ⟨29, 1, .ro, 0x0⟩, ⟨28, 1, .ro, 0x0⟩, ⟨27, 1, .rw1c, 0x0⟩, ⟨26, 1, .rw1c, 0x0⟩, ⟨0, 16, .rc, 0x0⟩]⟩,
  ⟨0x30018, 1, 0x0, 1, true, .core, [⟨0, 64, .rw, 0x0⟩]⟩,
  ⟨0x30020, 1, 0x0, 1, true, .core, [⟨32, 32, .ro, 0xffffffff⟩, ⟨0, 32, .ro, 0x0⟩]⟩,
  ⟨0x30028, 1, 0x0, 1, false, .core, [⟨0, 32, .rw, 0x0⟩]⟩]

/-- PWR_CTL, 19_power_clocks_telemetry.md R417. -/
def PWR_CTL : Nat := 0x40000
def PWR_CTL_REFUSAL : Fd := ⟨16, 16⟩
def PWR_CTL_LIMIT_W : Fd := ⟨6, 10⟩
def PWR_CTL_FLOOR : Fd := ⟨3, 3⟩
def PWR_CTL_EN : Fd := ⟨0, 1⟩
/-- PWR_STATUS, 19_power_clocks_telemetry.md R417. -/
def PWR_STATUS : Nat := 0x40004
def PWR_STATUS_FAST_EVENT : Fd := ⟨31, 1⟩
def PWR_STATUS_FLOOR_BREACH : Fd := ⟨30, 1⟩
def PWR_STATUS_THERM_FORCED : Fd := ⟨29, 1⟩
def PWR_STATUS_AVS_FAULT : Fd := ⟨28, 1⟩
def PWR_STATUS_PACED : Fd := ⟨27, 1⟩
def PWR_STATUS_WINDOW : Fd := ⟨0, 16⟩
/-- PWR_LEVELS, 19_power_clocks_telemetry.md R417. -/
def PWR_LEVELS : Nat := 0x40008
def PWR_LEVELS_LEVEL0 : Fd := ⟨0, 3⟩
def PWR_LEVELS_LEVEL1 : Fd := ⟨4, 3⟩
def PWR_LEVELS_LEVEL2 : Fd := ⟨8, 3⟩
def PWR_LEVELS_LEVEL3 : Fd := ⟨12, 3⟩
def PWR_LEVELS_LEVEL4 : Fd := ⟨16, 3⟩
def PWR_LEVELS_LEVEL5 : Fd := ⟨20, 3⟩
def PWR_LEVELS_LEVEL6 : Fd := ⟨24, 3⟩
def PWR_LEVELS_LEVEL7 : Fd := ⟨28, 3⟩
/-- PWR_FAST, 19_power_clocks_telemetry.md R417. -/
def PWR_FAST : Nat := 0x4000c
def PWR_FAST_ICC_FAST : Fd := ⟨0, 16⟩
/-- PWR_ENERGY, 19_power_clocks_telemetry.md R417. -/
def PWR_ENERGY : Nat := 0x40010
def PWR_ENERGY_ENERGY : Fd := ⟨0, 64⟩
/-- PWR_BUDGET, 19_power_clocks_telemetry.md R417. -/
def PWR_BUDGET : Nat := 0x40018
def PWR_BUDGET_BUDGET : Fd := ⟨0, 32⟩
/-- PWR_TEMP0, 19_power_clocks_telemetry.md R417. -/
def PWR_TEMP0 : Nat := 0x40020
def PWR_TEMP0_DIE0 : Fd := ⟨0, 8⟩
def PWR_TEMP0_DIE1 : Fd := ⟨8, 8⟩
def PWR_TEMP0_DIE2 : Fd := ⟨16, 8⟩
def PWR_TEMP0_DIE3 : Fd := ⟨24, 8⟩
/-- PWR_TEMP1, 19_power_clocks_telemetry.md R417. -/
def PWR_TEMP1 : Nat := 0x40024
def PWR_TEMP1_DIE0 : Fd := ⟨0, 8⟩
def PWR_TEMP1_DIE1 : Fd := ⟨8, 8⟩
def PWR_TEMP1_DIE2 : Fd := ⟨16, 8⟩
def PWR_TEMP1_DIE3 : Fd := ⟨24, 8⟩
/-- PWR_TEMP2, 19_power_clocks_telemetry.md R417. -/
def PWR_TEMP2 : Nat := 0x40028
def PWR_TEMP2_IO : Fd := ⟨0, 8⟩
/-- PWR_THERM, 19_power_clocks_telemetry.md R417. -/
def PWR_THERM : Nat := 0x4002c
def PWR_THERM_THROTTLE_C : Fd := ⟨0, 8⟩
/-- PWR_PACE, 19_power_clocks_telemetry.md R417. -/
def PWR_PACE : Nat := 0x40030
def PWR_PACE_PACE : Fd := ⟨0, 4⟩
/-- The PWR block. -/
def regsPWR : List RegDesc := [
  ⟨0x40000, 1, 0x0, 1, false, .core, [⟨16, 16, .ro, 0x0⟩, ⟨6, 10, .rw, 0x190⟩, ⟨3, 3, .rw, 0x3⟩, ⟨0, 1, .rw, 0x0⟩]⟩,
  ⟨0x40004, 1, 0x0, 1, false, .core, [⟨31, 1, .rw1c, 0x0⟩, ⟨30, 1, .rw1c, 0x0⟩, ⟨29, 1, .rw1c, 0x0⟩, ⟨28, 1, .rw1c, 0x0⟩, ⟨27, 1, .rw1c, 0x0⟩, ⟨0, 16, .ro, 0x0⟩]⟩,
  ⟨0x40008, 1, 0x0, 1, false, .core, [⟨0, 3, .rw, 0x5⟩, ⟨4, 3, .rw, 0x5⟩, ⟨8, 3, .rw, 0x5⟩, ⟨12, 3, .rw, 0x5⟩, ⟨16, 3, .rw, 0x5⟩, ⟨20, 3, .rw, 0x5⟩, ⟨24, 3, .rw, 0x5⟩, ⟨28, 3, .rw, 0x5⟩]⟩,
  ⟨0x4000c, 1, 0x0, 1, false, .core, [⟨0, 16, .rw, 0x960⟩]⟩,
  ⟨0x40010, 1, 0x0, 1, true, .core, [⟨0, 64, .ro, 0x0⟩]⟩,
  ⟨0x40018, 1, 0x0, 1, false, .core, [⟨0, 32, .rw, 0x0⟩]⟩,
  ⟨0x40020, 1, 0x0, 1, false, .core, [⟨0, 8, .ro, 0x0⟩, ⟨8, 8, .ro, 0x0⟩, ⟨16, 8, .ro, 0x0⟩, ⟨24, 8, .ro, 0x0⟩]⟩,
  ⟨0x40024, 1, 0x0, 1, false, .core, [⟨0, 8, .ro, 0x0⟩, ⟨8, 8, .ro, 0x0⟩, ⟨16, 8, .ro, 0x0⟩, ⟨24, 8, .ro, 0x0⟩]⟩,
  ⟨0x40028, 1, 0x0, 1, false, .core, [⟨0, 8, .ro, 0x0⟩]⟩,
  ⟨0x4002c, 1, 0x0, 1, false, .core, [⟨0, 8, .rw, 0x64⟩]⟩,
  ⟨0x40030, 1, 0x0, 1, false, .core, [⟨0, 4, .rw, 0x0⟩]⟩]

/-- WIN_TARGET, 15_host_endpoint.md R328. -/
def WIN_TARGET (i : Nat) : Nat := 0x50000 + i * 0x10
def WIN_TARGET_TARGET : Fd := ⟨12, 40⟩
/-- WIN_CFG, 15_host_endpoint.md R328. -/
def WIN_CFG (i : Nat) : Nat := 0x50008 + i * 0x10
def WIN_CFG_EN : Fd := ⟨31, 1⟩
def WIN_CFG_RIGHTS : Fd := ⟨8, 2⟩
def WIN_CFG_LOG2SIZE : Fd := ⟨0, 6⟩
/-- WIN_COMMIT, 15_host_endpoint.md R328. -/
def WIN_COMMIT : Nat := 0x50100
def WIN_COMMIT_COMMIT : Fd := ⟨31, 1⟩
def WIN_COMMIT_PENDING : Fd := ⟨30, 1⟩
def WIN_COMMIT_REFUSAL : Fd := ⟨0, 16⟩
/-- WIN_MISS, 15_host_endpoint.md R328. -/
def WIN_MISS : Nat := 0x50104
def WIN_MISS_READS : Fd := ⟨16, 16⟩
def WIN_MISS_WRITES : Fd := ⟨0, 16⟩
/-- The WIN block. -/
def regsWIN : List RegDesc := [
  ⟨0x50000, 16, 0x10, 1, true, .either, [⟨12, 40, .rw, 0x0⟩]⟩,
  ⟨0x50008, 16, 0x10, 1, false, .either, [⟨31, 1, .rw, 0x0⟩, ⟨8, 2, .rw, 0x0⟩, ⟨0, 6, .rw, 0xc⟩]⟩,
  ⟨0x50100, 1, 0x0, 1, false, .either, [⟨31, 1, .wo, 0x0⟩, ⟨30, 1, .ro, 0x0⟩, ⟨0, 16, .ro, 0x0⟩]⟩,
  ⟨0x50104, 1, 0x0, 1, false, .either, [⟨16, 16, .rc, 0x0⟩, ⟨0, 16, .rc, 0x0⟩]⟩]

/-- TG_CTL, 11_time_gates_and_shaping.md R260. -/
def TG_CTL : Nat := 0x60000
def TG_CTL_REFUSAL : Fd := ⟨16, 16⟩
def TG_CTL_EN : Fd := ⟨0, 1⟩
/-- TG_ADMIN_BASE, 11_time_gates_and_shaping.md R260. -/
def TG_ADMIN_BASE : Nat := 0x60008
def TG_ADMIN_BASE_BASE : Fd := ⟨6, 46⟩
/-- TG_ADMIN_BASETIME, 11_time_gates_and_shaping.md R260. -/
def TG_ADMIN_BASETIME : Nat := 0x60010
def TG_ADMIN_BASETIME_BASETIME : Fd := ⟨0, 64⟩
/-- TG_ADMIN_CTL, 11_time_gates_and_shaping.md R260. -/
def TG_ADMIN_CTL : Nat := 0x60018
def TG_ADMIN_CTL_COMMIT : Fd := ⟨31, 1⟩
def TG_ADMIN_CTL_CANCEL : Fd := ⟨30, 1⟩
def TG_ADMIN_CTL_PORT : Fd := ⟨16, 5⟩
def TG_ADMIN_CTL_NENTRIES : Fd := ⟨0, 9⟩
/-- TG_LATE, 11_time_gates_and_shaping.md R260. -/
def TG_LATE : Nat := 0x60020
def TG_LATE_COL : Fd := ⟨32, 1⟩
def TG_LATE_PORT : Fd := ⟨0, 32⟩
/-- TG_SHP_SEL, 11_time_gates_and_shaping.md R260. -/
def TG_SHP_SEL : Nat := 0x60030
def TG_SHP_SEL_APPLY : Fd := ⟨31, 1⟩
def TG_SHP_SEL_POLICER : Fd := ⟨30, 1⟩
def TG_SHP_SEL_INDEX : Fd := ⟨0, 12⟩
/-- TG_SHP_RATE, 11_time_gates_and_shaping.md R260. -/
def TG_SHP_RATE : Nat := 0x60034
def TG_SHP_RATE_BURST : Fd := ⟨16, 16⟩
def TG_SHP_RATE_RATE : Fd := ⟨0, 16⟩
/-- TG_SHP_CTL, 11_time_gates_and_shaping.md R260. -/
def TG_SHP_CTL : Nat := 0x60038
def TG_SHP_CTL_EN : Fd := ⟨31, 1⟩
def TG_SHP_CTL_ACTION : Fd := ⟨30, 1⟩
def TG_SHP_CTL_EXCEED_TC : Fd := ⟨24, 3⟩
def TG_SHP_CTL_PERIOD : Fd := ⟨16, 5⟩
/-- TG_SHP_STATE, 11_time_gates_and_shaping.md R260. -/
def TG_SHP_STATE : Nat := 0x6003c
def TG_SHP_STATE_TOKENS : Fd := ⟨16, 16⟩
def TG_SHP_STATE_PENDING : Fd := ⟨15, 1⟩
/-- TG_POL_EXCEED, 11_time_gates_and_shaping.md R260. -/
def TG_POL_EXCEED : Nat := 0x60040
def TG_POL_EXCEED_COUNT : Fd := ⟨0, 32⟩
/-- TG_PORT_STATUS, 11_time_gates_and_shaping.md R260. -/
def TG_PORT_STATUS (i : Nat) : Nat := 0x60100 + i * 0x4
def TG_PORT_STATUS_ACTIVE_VALID : Fd := ⟨31, 1⟩
def TG_PORT_STATUS_PENDING : Fd := ⟨30, 1⟩
def TG_PORT_STATUS_GATES : Fd := ⟨8, 8⟩
def TG_PORT_STATUS_ENTRY : Fd := ⟨0, 8⟩
/-- The TG block. -/
def regsTG : List RegDesc := [
  ⟨0x60000, 1, 0x0, 1, false, .core, [⟨16, 16, .ro, 0x0⟩, ⟨0, 1, .rw, 0x0⟩]⟩,
  ⟨0x60008, 1, 0x0, 1, true, .core, [⟨6, 46, .rw, 0x0⟩]⟩,
  ⟨0x60010, 1, 0x0, 1, true, .core, [⟨0, 64, .rw, 0x0⟩]⟩,
  ⟨0x60018, 1, 0x0, 1, false, .core, [⟨31, 1, .wo, 0x0⟩, ⟨30, 1, .wo, 0x0⟩, ⟨16, 5, .rw, 0x0⟩, ⟨0, 9, .rw, 0x0⟩]⟩,
  ⟨0x60020, 1, 0x0, 1, true, .core, [⟨32, 1, .rw1c, 0x0⟩, ⟨0, 32, .rw1c, 0x0⟩]⟩,
  ⟨0x60030, 1, 0x0, 1, false, .core, [⟨31, 1, .wo, 0x0⟩, ⟨30, 1, .rw, 0x0⟩, ⟨0, 12, .rw, 0x0⟩]⟩,
  ⟨0x60034, 1, 0x0, 1, false, .core, [⟨16, 16, .rw, 0x1⟩, ⟨0, 16, .rw, 0x0⟩]⟩,
  ⟨0x60038, 1, 0x0, 1, false, .core, [⟨31, 1, .rw, 0x0⟩, ⟨30, 1, .rw, 0x0⟩, ⟨24, 3, .rw, 0x0⟩, ⟨16, 5, .rw, 0x0⟩]⟩,
  ⟨0x6003c, 1, 0x0, 1, false, .core, [⟨16, 16, .ro, 0x0⟩, ⟨15, 1, .ro, 0x0⟩]⟩,
  ⟨0x60040, 1, 0x0, 1, false, .core, [⟨0, 32, .rc, 0x0⟩]⟩,
  ⟨0x60100, 32, 0x4, 1, false, .core, [⟨31, 1, .ro, 0x0⟩, ⟨30, 1, .ro, 0x0⟩, ⟨8, 8, .ro, 0xff⟩, ⟨0, 8, .ro, 0x0⟩]⟩]

/-- MSIX_ADDR_LO, 15_host_endpoint.md R333. -/
def MSIX_ADDR_LO (i : Nat) : Nat := 0x100000 + i * 0x10
def MSIX_ADDR_LO_ADDR : Fd := ⟨2, 30⟩
/-- MSIX_ADDR_HI, 15_host_endpoint.md R333. -/
def MSIX_ADDR_HI (i : Nat) : Nat := 0x100004 + i * 0x10
/-- MSIX_DATA, 15_host_endpoint.md R333. -/
def MSIX_DATA (i : Nat) : Nat := 0x100008 + i * 0x10
/-- MSIX_CTRL, 15_host_endpoint.md R333. -/
def MSIX_CTRL (i : Nat) : Nat := 0x10000c + i * 0x10
def MSIX_CTRL_MASK : Fd := ⟨0, 1⟩
/-- MSIX_PBA, 15_host_endpoint.md R333. -/
def MSIX_PBA (i : Nat) : Nat := 0x180000 + i * 0x4
def MSIX_PBA_PENDING : Fd := ⟨0, 32⟩
/-- The MSIX block. -/
def regsMSIX : List RegDesc := [
  ⟨0x100000, 2048, 0x10, 1, false, .host, [⟨2, 30, .rw, 0x0⟩]⟩,
  ⟨0x100004, 2048, 0x10, 1, false, .host, [⟨0, 32, .rw, 0x0⟩]⟩,
  ⟨0x100008, 2048, 0x10, 1, false, .host, [⟨0, 32, .rw, 0x0⟩]⟩,
  ⟨0x10000c, 2048, 0x10, 1, false, .host, [⟨0, 1, .rw, 0x1⟩]⟩,
  ⟨0x180000, 64, 0x4, 1, false, .host, [⟨0, 32, .ro, 0x0⟩]⟩]

/-- CLU_CMD_BASE, 03_compute_clusters.md R41. -/
def CLU_CMD_BASE (i : Nat) : Nat := 0x200000 + i * 0x40
def CLU_CMD_BASE_BASE : Fd := ⟨12, 40⟩
def CLU_CMD_BASE_LOG2N : Fd := ⟨0, 5⟩
/-- CLU_CMPL_BASE, 03_compute_clusters.md R41. -/
def CLU_CMPL_BASE (i : Nat) : Nat := 0x200008 + i * 0x40
def CLU_CMPL_BASE_BASE : Fd := ⟨12, 40⟩
def CLU_CMPL_BASE_LOG2N : Fd := ⟨0, 5⟩
/-- CLU_CTL, 03_compute_clusters.md R41. -/
def CLU_CTL (i : Nat) : Nat := 0x200010 + i * 0x40
def CLU_CTL_FCTX : Fd := ⟨16, 12⟩
def CLU_CTL_CMPL_EN : Fd := ⟨1, 1⟩
def CLU_CTL_CMD_EN : Fd := ⟨0, 1⟩
/-- CLU_DB, 03_compute_clusters.md R41. -/
def CLU_DB (i : Nat) : Nat := 0x200014 + i * 0x40
def CLU_DB_CMD_TAIL : Fd := ⟨0, 16⟩
/-- CLU_CMPL_HEAD, 03_compute_clusters.md R41. -/
def CLU_CMPL_HEAD (i : Nat) : Nat := 0x200018 + i * 0x40
def CLU_CMPL_HEAD_HEAD : Fd := ⟨0, 16⟩
/-- CLU_STATUS, 03_compute_clusters.md R41. -/
def CLU_STATUS (i : Nat) : Nat := 0x20001c + i * 0x40
def CLU_STATUS_CMPL_TAIL : Fd := ⟨16, 16⟩
def CLU_STATUS_CMD_HEAD : Fd := ⟨0, 16⟩
/-- CLU_PCTL, 03_compute_clusters.md R41. -/
def CLU_PCTL (i : Nat) : Nat := 0x200020 + i * 0x40
def CLU_PCTL_RETAIN : Fd := ⟨16, 16⟩
def CLU_PCTL_IDLE_HAZE : Fd := ⟨8, 8⟩
def CLU_PCTL_AUTOWAKE : Fd := ⟨2, 1⟩
def CLU_PCTL_TARGET : Fd := ⟨0, 2⟩
/-- CLU_PSTAT, 03_compute_clusters.md R41. -/
def CLU_PSTAT (i : Nat) : Nat := 0x200024 + i * 0x40
def CLU_PSTAT_RETAINED : Fd := ⟨16, 16⟩
def CLU_PSTAT_IDLE : Fd := ⟨3, 1⟩
def CLU_PSTAT_MOVING : Fd := ⟨2, 1⟩
def CLU_PSTAT_STATE : Fd := ⟨0, 2⟩
/-- CLU_ERR, 03_compute_clusters.md R41. -/
def CLU_ERR (i : Nat) : Nat := 0x200028 + i * 0x40
def CLU_ERR_REFUSAL : Fd := ⟨16, 16⟩
def CLU_ERR_ECC_UE : Fd := ⟨4, 1⟩
def CLU_ERR_ECC_CE : Fd := ⟨3, 1⟩
def CLU_ERR_FETCH_ERR : Fd := ⟨2, 1⟩
def CLU_ERR_OVERRUN : Fd := ⟨1, 1⟩
def CLU_ERR_HALTED : Fd := ⟨0, 1⟩
/-- The CLU block. -/
def regsCLU : List RegDesc := [
  ⟨0x200000, 1024, 0x40, 1, true, .core, [⟨12, 40, .rw, 0x0⟩, ⟨0, 5, .rw, 0x0⟩]⟩,
  ⟨0x200008, 1024, 0x40, 1, true, .core, [⟨12, 40, .rw, 0x0⟩, ⟨0, 5, .rw, 0x0⟩]⟩,
  ⟨0x200010, 1024, 0x40, 1, false, .core, [⟨16, 12, .rw, 0x0⟩, ⟨1, 1, .rw, 0x0⟩, ⟨0, 1, .rw, 0x0⟩]⟩,
  ⟨0x200014, 1024, 0x40, 1, false, .core, [⟨0, 16, .wo, 0x0⟩]⟩,
  ⟨0x200018, 1024, 0x40, 1, false, .core, [⟨0, 16, .rw, 0x0⟩]⟩,
  ⟨0x20001c, 1024, 0x40, 1, false, .core, [⟨16, 16, .ro, 0x0⟩, ⟨0, 16, .ro, 0x0⟩]⟩,
  ⟨0x200020, 1024, 0x40, 1, false, .core, [⟨16, 16, .rw, 0x0⟩, ⟨8, 8, .rw, 0x10⟩, ⟨2, 1, .rw, 0x1⟩, ⟨0, 2, .rw, 0x2⟩]⟩,
  ⟨0x200024, 1024, 0x40, 1, false, .core, [⟨16, 16, .ro, 0x0⟩, ⟨3, 1, .ro, 0x1⟩, ⟨2, 1, .ro, 0x0⟩, ⟨0, 2, .ro, 0x2⟩]⟩,
  ⟨0x200028, 1024, 0x40, 1, false, .core, [⟨16, 16, .ro, 0x0⟩, ⟨4, 1, .rw1c, 0x0⟩, ⟨3, 1, .rw1c, 0x0⟩, ⟨2, 1, .rw1c, 0x0⟩, ⟨1, 1, .rw1c, 0x0⟩, ⟨0, 1, .rw1c, 0x0⟩]⟩]

/-- FLG_CTX_BASE, 04_flags_and_barriers.md R69. -/
def FLG_CTX_BASE : Nat := 0x210000
def FLG_CTX_BASE_BASE : Fd := ⟨16, 36⟩
/-- FLG_CTL, 04_flags_and_barriers.md R69. -/
def FLG_CTL : Nat := 0x210008
def FLG_CTL_REFUSAL : Fd := ⟨16, 16⟩
def FLG_CTL_EN : Fd := ⟨0, 1⟩
/-- FLG_INVAL, 04_flags_and_barriers.md R69. -/
def FLG_INVAL : Nat := 0x21000c
def FLG_INVAL_BUSY : Fd := ⟨31, 1⟩
def FLG_INVAL_ALL : Fd := ⟨30, 1⟩
def FLG_INVAL_CTX : Fd := ⟨0, 12⟩
/-- FLG_SIGNAL, 04_flags_and_barriers.md R69. -/
def FLG_SIGNAL : Nat := 0x210010
def FLG_SIGNAL_OP : Fd := ⟨30, 2⟩
def FLG_SIGNAL_PFLAG : Fd := ⟨0, 18⟩
/-- FLG_PEEK, 04_flags_and_barriers.md R69. -/
def FLG_PEEK : Nat := 0x210014
def FLG_PEEK_OVERSET : Fd := ⟨31, 1⟩
def FLG_PEEK_VALUE : Fd := ⟨30, 1⟩
def FLG_PEEK_PFLAG : Fd := ⟨0, 18⟩
/-- FLG_OVERSET_CNT, 04_flags_and_barriers.md R69. -/
def FLG_OVERSET_CNT : Nat := 0x210018
def FLG_OVERSET_CNT_COUNT : Fd := ⟨0, 32⟩
/-- FLG_OVERSET_FIRST, 04_flags_and_barriers.md R69. -/
def FLG_OVERSET_FIRST : Nat := 0x21001c
def FLG_OVERSET_FIRST_VALID : Fd := ⟨31, 1⟩
def FLG_OVERSET_FIRST_PFLAG : Fd := ⟨0, 18⟩
/-- The FLG block. -/
def regsFLG : List RegDesc := [
  ⟨0x210000, 1, 0x0, 1, true, .core, [⟨16, 36, .rw, 0x0⟩]⟩,
  ⟨0x210008, 1, 0x0, 1, false, .core, [⟨16, 16, .ro, 0x0⟩, ⟨0, 1, .rw, 0x0⟩]⟩,
  ⟨0x21000c, 1, 0x0, 1, false, .core, [⟨31, 1, .ro, 0x0⟩, ⟨30, 1, .wo, 0x0⟩, ⟨0, 12, .rw, 0x0⟩]⟩,
  ⟨0x210010, 1, 0x0, 1, false, .core, [⟨30, 2, .wo, 0x0⟩, ⟨0, 18, .wo, 0x0⟩]⟩,
  ⟨0x210014, 1, 0x0, 1, false, .core, [⟨31, 1, .ro, 0x0⟩, ⟨30, 1, .ro, 0x0⟩, ⟨0, 18, .rw, 0x0⟩]⟩,
  ⟨0x210018, 1, 0x0, 1, false, .core, [⟨0, 32, .rc, 0x0⟩]⟩,
  ⟨0x21001c, 1, 0x0, 1, false, .core, [⟨31, 1, .rw1c, 0x0⟩, ⟨0, 18, .ro, 0x0⟩]⟩]

/-- BAR_CFG, 04_flags_and_barriers.md R77. -/
def BAR_CFG (i : Nat) : Nat := 0x220000 + i * 0x10
def BAR_CFG_EN : Fd := ⟨31, 1⟩
def BAR_CFG_CTX : Fd := ⟨16, 12⟩
def BAR_CFG_EXPECT : Fd := ⟨0, 11⟩
/-- BAR_CLOSE, 04_flags_and_barriers.md R77. -/
def BAR_CLOSE (i : Nat) : Nat := 0x220004 + i * 0x10
def BAR_CLOSE_CLOSE_EN : Fd := ⟨31, 1⟩
def BAR_CLOSE_CLOSE_VFLAG : Fd := ⟨0, 24⟩
/-- BAR_STATE, 04_flags_and_barriers.md R77. -/
def BAR_STATE (i : Nat) : Nat := 0x220008 + i * 0x10
def BAR_STATE_PARITY : Fd := ⟨31, 1⟩
def BAR_STATE_CLOSE_FAIL : Fd := ⟨30, 1⟩
def BAR_STATE_COUNT1 : Fd := ⟨16, 11⟩
def BAR_STATE_COUNT0 : Fd := ⟨0, 11⟩
/-- BAR_ROUND, 04_flags_and_barriers.md R77. -/
def BAR_ROUND (i : Nat) : Nat := 0x22000c + i * 0x10
def BAR_ROUND_ROUND : Fd := ⟨0, 32⟩
/-- The BAR block. -/
def regsBAR : List RegDesc := [
  ⟨0x220000, 4096, 0x10, 1, false, .core, [⟨31, 1, .rw, 0x0⟩, ⟨16, 12, .rw, 0x0⟩, ⟨0, 11, .rw, 0x0⟩]⟩,
  ⟨0x220004, 4096, 0x10, 1, false, .core, [⟨31, 1, .rw, 0x0⟩, ⟨0, 24, .rw, 0x0⟩]⟩,
  ⟨0x220008, 4096, 0x10, 1, false, .core, [⟨31, 1, .ro, 0x0⟩, ⟨30, 1, .rw1c, 0x0⟩, ⟨16, 11, .ro, 0x0⟩, ⟨0, 11, .ro, 0x0⟩]⟩,
  ⟨0x22000c, 4096, 0x10, 1, false, .core, [⟨0, 32, .ro, 0x0⟩]⟩]

/-- COL_CMD_BASE, 05_collectives.md R83. -/
def COL_CMD_BASE (i : Nat) : Nat := 0x230000 + i * 0x40
def COL_CMD_BASE_BASE : Fd := ⟨12, 40⟩
def COL_CMD_BASE_LOG2N : Fd := ⟨0, 5⟩
/-- COL_CMPL_BASE, 05_collectives.md R83. -/
def COL_CMPL_BASE (i : Nat) : Nat := 0x230008 + i * 0x40
def COL_CMPL_BASE_BASE : Fd := ⟨12, 40⟩
def COL_CMPL_BASE_LOG2N : Fd := ⟨0, 5⟩
/-- COL_QCTL, 05_collectives.md R83. -/
def COL_QCTL (i : Nat) : Nat := 0x230010 + i * 0x40
def COL_QCTL_FCTX : Fd := ⟨16, 12⟩
def COL_QCTL_CMPL_EN : Fd := ⟨1, 1⟩
def COL_QCTL_CMD_EN : Fd := ⟨0, 1⟩
/-- COL_DB, 05_collectives.md R83. -/
def COL_DB (i : Nat) : Nat := 0x230014 + i * 0x40
def COL_DB_CMD_TAIL : Fd := ⟨0, 16⟩
/-- COL_CMPL_HEAD, 05_collectives.md R83. -/
def COL_CMPL_HEAD (i : Nat) : Nat := 0x230018 + i * 0x40
def COL_CMPL_HEAD_HEAD : Fd := ⟨0, 16⟩
/-- COL_QSTATUS, 05_collectives.md R83. -/
def COL_QSTATUS (i : Nat) : Nat := 0x23001c + i * 0x40
def COL_QSTATUS_CMPL_TAIL : Fd := ⟨16, 16⟩
def COL_QSTATUS_CMD_HEAD : Fd := ⟨0, 16⟩
/-- COL_QERR, 05_collectives.md R83. -/
def COL_QERR (i : Nat) : Nat := 0x230020 + i * 0x40
def COL_QERR_REFUSAL : Fd := ⟨16, 16⟩
def COL_QERR_FETCH_ERR : Fd := ⟨2, 1⟩
def COL_QERR_OVERRUN : Fd := ⟨1, 1⟩
def COL_QERR_HALTED : Fd := ⟨0, 1⟩
/-- COL_CTL, 05_collectives.md R83. -/
def COL_CTL : Nat := 0x230800
def COL_CTL_REFUSAL : Fd := ⟨16, 16⟩
def COL_CTL_EN : Fd := ⟨0, 1⟩
/-- COL_GRP_BASE, 05_collectives.md R83. -/
def COL_GRP_BASE : Nat := 0x230808
def COL_GRP_BASE_BASE : Fd := ⟨12, 40⟩
/-- COL_GRP_LOAD, 05_collectives.md R83. -/
def COL_GRP_LOAD : Nat := 0x230810
def COL_GRP_LOAD_BUSY : Fd := ⟨31, 1⟩
def COL_GRP_LOAD_LOADED : Fd := ⟨30, 1⟩
def COL_GRP_LOAD_OP : Fd := ⟨12, 2⟩
def COL_GRP_LOAD_GROUP : Fd := ⟨0, 12⟩
/-- COL_TIMEOUT, 05_collectives.md R83. -/
def COL_TIMEOUT : Nat := 0x230814
def COL_TIMEOUT_LIMIT_US : Fd := ⟨0, 20⟩
/-- COL_DISCARD, 05_collectives.md R83. -/
def COL_DISCARD : Nat := 0x230818
def COL_DISCARD_COUNT : Fd := ⟨0, 32⟩
/-- COL_SLOT_ADMIN, 05_collectives.md R109. -/
def COL_SLOT_ADMIN : Nat := 0x230820
def COL_SLOT_ADMIN_BASE : Fd := ⟨12, 40⟩
/-- COL_SLOT_BASETIME, 05_collectives.md R109. -/
def COL_SLOT_BASETIME : Nat := 0x230828
def COL_SLOT_BASETIME_BASETIME : Fd := ⟨0, 64⟩
/-- COL_SLOT_CTL, 05_collectives.md R109. -/
def COL_SLOT_CTL : Nat := 0x230830
def COL_SLOT_CTL_COMMIT : Fd := ⟨31, 1⟩
def COL_SLOT_CTL_CANCEL : Fd := ⟨30, 1⟩
def COL_SLOT_CTL_NSLOTS : Fd := ⟨0, 13⟩
/-- COL_SLOT_STATUS, 05_collectives.md R109. -/
def COL_SLOT_STATUS : Nat := 0x230834
def COL_SLOT_STATUS_ACTIVE_VALID : Fd := ⟨31, 1⟩
def COL_SLOT_STATUS_PENDING : Fd := ⟨30, 1⟩
def COL_SLOT_STATUS_QUALIFIED : Fd := ⟨29, 1⟩
def COL_SLOT_STATUS_LATE : Fd := ⟨28, 1⟩
def COL_SLOT_STATUS_SLOT : Fd := ⟨0, 12⟩
/-- COL_SLOT_TAKEOVER, 05_collectives.md R109. -/
def COL_SLOT_TAKEOVER : Nat := 0x230838
def COL_SLOT_TAKEOVER_TIME : Fd := ⟨0, 64⟩
/-- The COL block. -/
def regsCOL : List RegDesc := [
  ⟨0x230000, 32, 0x40, 1, true, .core, [⟨12, 40, .rw, 0x0⟩, ⟨0, 5, .rw, 0x0⟩]⟩,
  ⟨0x230008, 32, 0x40, 1, true, .core, [⟨12, 40, .rw, 0x0⟩, ⟨0, 5, .rw, 0x0⟩]⟩,
  ⟨0x230010, 32, 0x40, 1, false, .core, [⟨16, 12, .rw, 0x0⟩, ⟨1, 1, .rw, 0x0⟩, ⟨0, 1, .rw, 0x0⟩]⟩,
  ⟨0x230014, 32, 0x40, 1, false, .core, [⟨0, 16, .wo, 0x0⟩]⟩,
  ⟨0x230018, 32, 0x40, 1, false, .core, [⟨0, 16, .rw, 0x0⟩]⟩,
  ⟨0x23001c, 32, 0x40, 1, false, .core, [⟨16, 16, .ro, 0x0⟩, ⟨0, 16, .ro, 0x0⟩]⟩,
  ⟨0x230020, 32, 0x40, 1, false, .core, [⟨16, 16, .ro, 0x0⟩, ⟨2, 1, .rw1c, 0x0⟩, ⟨1, 1, .rw1c, 0x0⟩, ⟨0, 1, .rw1c, 0x0⟩]⟩,
  ⟨0x230800, 1, 0x0, 1, false, .core, [⟨16, 16, .ro, 0x0⟩, ⟨0, 1, .rw, 0x0⟩]⟩,
  ⟨0x230808, 1, 0x0, 1, true, .core, [⟨12, 40, .rw, 0x0⟩]⟩,
  ⟨0x230810, 1, 0x0, 1, false, .core, [⟨31, 1, .ro, 0x0⟩, ⟨30, 1, .ro, 0x0⟩, ⟨12, 2, .wo, 0x0⟩, ⟨0, 12, .rw, 0x0⟩]⟩,
  ⟨0x230814, 1, 0x0, 1, false, .core, [⟨0, 20, .rw, 0x3e8⟩]⟩,
  ⟨0x230818, 1, 0x0, 1, false, .core, [⟨0, 32, .rc, 0x0⟩]⟩,
  ⟨0x230820, 1, 0x0, 1, true, .core, [⟨12, 40, .rw, 0x0⟩]⟩,
  ⟨0x230828, 1, 0x0, 1, true, .core, [⟨0, 64, .rw, 0x0⟩]⟩,
  ⟨0x230830, 1, 0x0, 1, false, .core, [⟨31, 1, .wo, 0x0⟩, ⟨30, 1, .wo, 0x0⟩, ⟨0, 13, .rw, 0x0⟩]⟩,
  ⟨0x230834, 1, 0x0, 1, false, .core, [⟨31, 1, .ro, 0x0⟩, ⟨30, 1, .ro, 0x0⟩, ⟨29, 1, .ro, 0x0⟩, ⟨28, 1, .rw1c, 0x0⟩, ⟨0, 12, .ro, 0x0⟩]⟩,
  ⟨0x230838, 1, 0x0, 1, true, .core, [⟨0, 64, .ro, 0x0⟩]⟩]

/-- KV_CTL, 06_key_value_tier.md R137. -/
def KV_CTL : Nat := 0x240000
def KV_CTL_REFUSAL : Fd := ⟨16, 16⟩
def KV_CTL_PF_LIMIT : Fd := ⟨8, 8⟩
def KV_CTL_DONE_EN : Fd := ⟨2, 1⟩
def KV_CTL_JOB_EN : Fd := ⟨1, 1⟩
def KV_CTL_EN : Fd := ⟨0, 1⟩
/-- KV_CTX_BASE, 06_key_value_tier.md R137. -/
def KV_CTX_BASE : Nat := 0x240008
def KV_CTX_BASE_BASE : Fd := ⟨16, 36⟩
/-- KV_CLASS_BASE, 06_key_value_tier.md R137. -/
def KV_CLASS_BASE : Nat := 0x240010
def KV_CLASS_BASE_BASE : Fd := ⟨12, 40⟩
/-- KV_FRAME_BASE, 06_key_value_tier.md R137. -/
def KV_FRAME_BASE : Nat := 0x240018
def KV_FRAME_BASE_BASE : Fd := ⟨16, 36⟩
/-- KV_FRAME_COUNT, 06_key_value_tier.md R137. -/
def KV_FRAME_COUNT : Nat := 0x240020
def KV_FRAME_COUNT_COUNT : Fd := ⟨0, 22⟩
/-- KV_JOB_BASE, 06_key_value_tier.md R137. -/
def KV_JOB_BASE : Nat := 0x240028
def KV_JOB_BASE_BASE : Fd := ⟨12, 40⟩
def KV_JOB_BASE_LOG2N : Fd := ⟨0, 5⟩
/-- KV_JOB_HEAD, 06_key_value_tier.md R137. -/
def KV_JOB_HEAD : Nat := 0x240030
def KV_JOB_HEAD_HEAD : Fd := ⟨0, 16⟩
/-- KV_RING_STATUS, 06_key_value_tier.md R137. -/
def KV_RING_STATUS : Nat := 0x240034
def KV_RING_STATUS_DONE_HEAD : Fd := ⟨16, 16⟩
def KV_RING_STATUS_JOB_TAIL : Fd := ⟨0, 16⟩
/-- KV_DONE_BASE, 06_key_value_tier.md R137. -/
def KV_DONE_BASE : Nat := 0x240038
def KV_DONE_BASE_BASE : Fd := ⟨12, 40⟩
def KV_DONE_BASE_LOG2N : Fd := ⟨0, 5⟩
/-- KV_DONE_DB, 06_key_value_tier.md R137. -/
def KV_DONE_DB : Nat := 0x240040
def KV_DONE_DB_CMD_TAIL : Fd := ⟨0, 16⟩
/-- KV_LATE, 06_key_value_tier.md R137. -/
def KV_LATE : Nat := 0x240044
def KV_LATE_COUNT : Fd := ⟨0, 32⟩
/-- KV_DISCARD, 06_key_value_tier.md R137. -/
def KV_DISCARD : Nat := 0x240048
def KV_DISCARD_COUNT : Fd := ⟨0, 32⟩
/-- The KV block. -/
def regsKV : List RegDesc := [
  ⟨0x240000, 1, 0x0, 1, false, .core, [⟨16, 16, .ro, 0x0⟩, ⟨8, 8, .rw, 0x40⟩, ⟨2, 1, .rw, 0x0⟩, ⟨1, 1, .rw, 0x0⟩, ⟨0, 1, .rw, 0x0⟩]⟩,
  ⟨0x240008, 1, 0x0, 1, true, .core, [⟨16, 36, .rw, 0x0⟩]⟩,
  ⟨0x240010, 1, 0x0, 1, true, .core, [⟨12, 40, .rw, 0x0⟩]⟩,
  ⟨0x240018, 1, 0x0, 1, true, .core, [⟨16, 36, .rw, 0x0⟩]⟩,
  ⟨0x240020, 1, 0x0, 1, false, .core, [⟨0, 22, .rw, 0x0⟩]⟩,
  ⟨0x240028, 1, 0x0, 1, true, .core, [⟨12, 40, .rw, 0x0⟩, ⟨0, 5, .rw, 0x0⟩]⟩,
  ⟨0x240030, 1, 0x0, 1, false, .core, [⟨0, 16, .rw, 0x0⟩]⟩,
  ⟨0x240034, 1, 0x0, 1, false, .core, [⟨16, 16, .ro, 0x0⟩, ⟨0, 16, .ro, 0x0⟩]⟩,
  ⟨0x240038, 1, 0x0, 1, true, .core, [⟨12, 40, .rw, 0x0⟩, ⟨0, 5, .rw, 0x0⟩]⟩,
  ⟨0x240040, 1, 0x0, 1, false, .core, [⟨0, 16, .wo, 0x0⟩]⟩,
  ⟨0x240044, 1, 0x0, 1, false, .core, [⟨0, 32, .rc, 0x0⟩]⟩,
  ⟨0x240048, 1, 0x0, 1, false, .core, [⟨0, 32, .rc, 0x0⟩]⟩]

/-- HBM_CTL, 08_hbm_and_arbiters.md R183. -/
def HBM_CTL : Nat := 0x250000
def HBM_CTL_SCRUB_HOURS : Fd := ⟨8, 8⟩
def HBM_CTL_SR_REQ : Fd := ⟨0, 1⟩
/-- HBM_STATUS, 08_hbm_and_arbiters.md R183. -/
def HBM_STATUS : Nat := 0x250004
def HBM_STATUS_SR : Fd := ⟨24, 6⟩
def HBM_STATUS_HOT : Fd := ⟨16, 6⟩
def HBM_STATUS_TRAINED : Fd := ⟨8, 6⟩
def HBM_STATUS_READY : Fd := ⟨0, 1⟩
/-- HBM_TEMP0, 08_hbm_and_arbiters.md R183. -/
def HBM_TEMP0 : Nat := 0x250008
def HBM_TEMP0_H3 : Fd := ⟨24, 8⟩
def HBM_TEMP0_H2 : Fd := ⟨16, 8⟩
def HBM_TEMP0_H1 : Fd := ⟨8, 8⟩
def HBM_TEMP0_H0 : Fd := ⟨0, 8⟩
/-- HBM_TEMP1, 08_hbm_and_arbiters.md R183. -/
def HBM_TEMP1 : Nat := 0x25000c
def HBM_TEMP1_H4 : Fd := ⟨0, 8⟩
def HBM_TEMP1_H5 : Fd := ⟨8, 8⟩
/-- HBM_ERR_CNT, 08_hbm_and_arbiters.md R183. -/
def HBM_ERR_CNT : Nat := 0x250010
def HBM_ERR_CNT_CE : Fd := ⟨16, 16⟩
def HBM_ERR_CNT_UE : Fd := ⟨0, 16⟩
/-- HBM_ERR_FIRST, 08_hbm_and_arbiters.md R183. -/
def HBM_ERR_FIRST : Nat := 0x250018
def HBM_ERR_FIRST_VALID : Fd := ⟨63, 1⟩
def HBM_ERR_FIRST_SCRUB : Fd := ⟨62, 1⟩
def HBM_ERR_FIRST_CHANNEL : Fd := ⟨52, 8⟩
def HBM_ERR_FIRST_LINE : Fd := ⟨6, 32⟩
/-- The HBM block. -/
def regsHBM : List RegDesc := [
  ⟨0x250000, 1, 0x0, 1, false, .core, [⟨8, 8, .rw, 0x18⟩, ⟨0, 1, .rw, 0x0⟩]⟩,
  ⟨0x250004, 1, 0x0, 1, false, .core, [⟨24, 6, .ro, 0x0⟩, ⟨16, 6, .ro, 0x0⟩, ⟨8, 6, .ro, 0x0⟩, ⟨0, 1, .ro, 0x0⟩]⟩,
  ⟨0x250008, 1, 0x0, 1, false, .core, [⟨24, 8, .ro, 0x0⟩, ⟨16, 8, .ro, 0x0⟩, ⟨8, 8, .ro, 0x0⟩, ⟨0, 8, .ro, 0x0⟩]⟩,
  ⟨0x25000c, 1, 0x0, 1, false, .core, [⟨0, 8, .ro, 0x0⟩, ⟨8, 8, .ro, 0x0⟩]⟩,
  ⟨0x250010, 1, 0x0, 1, false, .core, [⟨16, 16, .rc, 0x0⟩, ⟨0, 16, .rc, 0x0⟩]⟩,
  ⟨0x250018, 1, 0x0, 1, true, .core, [⟨63, 1, .rw1c, 0x0⟩, ⟨62, 1, .ro, 0x0⟩, ⟨52, 8, .ro, 0x0⟩, ⟨6, 32, .ro, 0x0⟩]⟩]

/-- ARB_LINE, 08_hbm_and_arbiters.md R183. -/
def ARB_LINE (i : Nat) : Nat := 0x260000 + i * 0x4
def ARB_LINE_QUOTA : Fd := ⟨16, 10⟩
def ARB_LINE_TICKETS : Fd := ⟨0, 8⟩
/-- ARB_MODE, 08_hbm_and_arbiters.md R183. -/
def ARB_MODE : Nat := 0x260020
def ARB_MODE_LOAD : Fd := ⟨31, 1⟩
def ARB_MODE_MODE : Fd := ⟨0, 2⟩
/-- ARB_COMMIT, 08_hbm_and_arbiters.md R183. -/
def ARB_COMMIT : Nat := 0x260024
def ARB_COMMIT_COMMIT : Fd := ⟨31, 1⟩
def ARB_COMMIT_PENDING : Fd := ⟨30, 1⟩
def ARB_COMMIT_REFUSAL : Fd := ⟨0, 16⟩
/-- ARB_FREEZE, 08_hbm_and_arbiters.md R183. -/
def ARB_FREEZE : Nat := 0x260028
def ARB_FREEZE_OP : Fd := ⟨30, 2⟩
def ARB_FREEZE_ALL : Fd := ⟨29, 1⟩
def ARB_FREEZE_CHANNEL : Fd := ⟨0, 8⟩
/-- ARB_FREEZE_STATUS, 08_hbm_and_arbiters.md R183. -/
def ARB_FREEZE_STATUS : Nat := 0x26002c
def ARB_FREEZE_STATUS_FROZEN : Fd := ⟨31, 1⟩
def ARB_FREEZE_STATUS_DRAINED : Fd := ⟨30, 1⟩
def ARB_FREEZE_STATUS_ANY_FROZEN : Fd := ⟨29, 1⟩
/-- ARB_CLASSMAP, 08_hbm_and_arbiters.md R183. -/
def ARB_CLASSMAP (i : Nat) : Nat := 0x260040 + i * 0x4
def ARB_CLASSMAP_CLASS0 : Fd := ⟨0, 3⟩
def ARB_CLASSMAP_CLASS1 : Fd := ⟨4, 3⟩
def ARB_CLASSMAP_CLASS2 : Fd := ⟨8, 3⟩
def ARB_CLASSMAP_CLASS3 : Fd := ⟨12, 3⟩
def ARB_CLASSMAP_CLASS4 : Fd := ⟨16, 3⟩
def ARB_CLASSMAP_CLASS5 : Fd := ⟨20, 3⟩
def ARB_CLASSMAP_CLASS6 : Fd := ⟨24, 3⟩
def ARB_CLASSMAP_CLASS7 : Fd := ⟨28, 3⟩
/-- ARB_GRANTS, 08_hbm_and_arbiters.md R183. -/
def ARB_GRANTS (i : Nat) : Nat := 0x260060 + i * 0x4
def ARB_GRANTS_COUNT : Fd := ⟨0, 32⟩
/-- The ARB block. -/
def regsARB : List RegDesc := [
  ⟨0x260000, 7, 0x4, 1, false, .core, [⟨16, 10, .rw, 0x0⟩, ⟨0, 8, .rw, 0x20⟩]⟩,
  ⟨0x26001c, 1, 0x0, 1, false, .core, [⟨16, 10, .rw, 0x40⟩, ⟨0, 8, .rw, 0x20⟩]⟩,
  ⟨0x260020, 1, 0x0, 1, false, .core, [⟨31, 1, .wo, 0x0⟩, ⟨0, 2, .rw, 0x3⟩]⟩,
  ⟨0x260024, 1, 0x0, 1, false, .core, [⟨31, 1, .wo, 0x0⟩, ⟨30, 1, .ro, 0x0⟩, ⟨0, 16, .ro, 0x0⟩]⟩,
  ⟨0x260028, 1, 0x0, 1, false, .core, [⟨30, 2, .wo, 0x0⟩, ⟨29, 1, .wo, 0x0⟩, ⟨0, 8, .rw, 0x0⟩]⟩,
  ⟨0x26002c, 1, 0x0, 1, false, .core, [⟨31, 1, .ro, 0x0⟩, ⟨30, 1, .ro, 0x0⟩, ⟨29, 1, .ro, 0x0⟩]⟩,
  ⟨0x260040, 8, 0x4, 1, false, .core, [⟨0, 3, .rw, 0x5⟩, ⟨4, 3, .rw, 0x5⟩, ⟨8, 3, .rw, 0x5⟩, ⟨12, 3, .rw, 0x5⟩, ⟨16, 3, .rw, 0x5⟩, ⟨20, 3, .rw, 0x5⟩, ⟨24, 3, .rw, 0x5⟩, ⟨28, 3, .rw, 0x5⟩]⟩,
  ⟨0x260060, 8, 0x4, 1, false, .core, [⟨0, 32, .ro, 0x0⟩]⟩]

/-- FAB_CTL, 09_damoa_links.md R207. -/
def FAB_CTL : Nat := 0x270000
def FAB_CTL_REFUSAL : Fd := ⟨16, 16⟩
def FAB_CTL_FAIL_UCW : Fd := ⟨8, 8⟩
def FAB_CTL_FORM : Fd := ⟨1, 1⟩
def FAB_CTL_EN : Fd := ⟨0, 1⟩
/-- FAB_NODE_ID, 09_damoa_links.md R207. -/
def FAB_NODE_ID : Nat := 0x270008
def FAB_NODE_ID_NODE_ID : Fd := ⟨0, 64⟩
/-- FAB_PORT_CTL, 09_damoa_links.md R207. -/
def FAB_PORT_CTL (i : Nat) : Nat := 0x270100 + i * 0x40
def FAB_PORT_CTL_REFUSAL : Fd := ⟨16, 16⟩
def FAB_PORT_CTL_MODE : Fd := ⟨8, 2⟩
def FAB_PORT_CTL_RETRAIN : Fd := ⟨1, 1⟩
def FAB_PORT_CTL_EN : Fd := ⟨0, 1⟩
/-- FAB_PORT_STATUS, 09_damoa_links.md R207. -/
def FAB_PORT_STATUS (i : Nat) : Nat := 0x270104 + i * 0x40
def FAB_PORT_STATUS_STATE : Fd := ⟨28, 4⟩
def FAB_PORT_STATUS_WIDTH : Fd := ⟨24, 4⟩
def FAB_PORT_STATUS_SPARE_IN_USE : Fd := ⟨23, 1⟩
def FAB_PORT_STATUS_SPARE_READY : Fd := ⟨22, 1⟩
def FAB_PORT_STATUS_PAUSE_STUCK : Fd := ⟨21, 1⟩
def FAB_PORT_STATUS_PEER_CHANGED : Fd := ⟨20, 1⟩
def FAB_PORT_STATUS_FAILED : Fd := ⟨8, 9⟩
def FAB_PORT_STATUS_MAP_ID : Fd := ⟨0, 8⟩
/-- FAB_PORT_ALLOC, 09_damoa_links.md R207. -/
def FAB_PORT_ALLOC (i : Nat) : Nat := 0x270108 + i * 0x40
def FAB_PORT_ALLOC_ALLOC0 : Fd := ⟨0, 8⟩
def FAB_PORT_ALLOC_ALLOC1 : Fd := ⟨8, 8⟩
def FAB_PORT_ALLOC_ALLOC2 : Fd := ⟨16, 8⟩
def FAB_PORT_ALLOC_ALLOC3 : Fd := ⟨24, 8⟩
def FAB_PORT_ALLOC_ALLOC4 : Fd := ⟨32, 8⟩
def FAB_PORT_ALLOC_ALLOC5 : Fd := ⟨40, 8⟩
def FAB_PORT_ALLOC_ALLOC6 : Fd := ⟨48, 8⟩
def FAB_PORT_ALLOC_ALLOC7 : Fd := ⟨56, 8⟩
/-- FAB_PORT_PFC, 09_damoa_links.md R207. -/
def FAB_PORT_PFC (i : Nat) : Nat := 0x270110 + i * 0x40
def FAB_PORT_PFC_HEADROOM : Fd := ⟨0, 16⟩
/-- FAB_PORT_ENC, 09_damoa_links.md R207. -/
def FAB_PORT_ENC (i : Nat) : Nat := 0x270114 + i * 0x40
def FAB_PORT_ENC_SWITCH : Fd := ⟨31, 1⟩
def FAB_PORT_ENC_EN : Fd := ⟨30, 1⟩
def FAB_PORT_ENC_TX_AN : Fd := ⟨28, 2⟩
def FAB_PORT_ENC_RX_AN : Fd := ⟨26, 2⟩
def FAB_PORT_ENC_REKEY : Fd := ⟨25, 1⟩
def FAB_PORT_ENC_EXHAUSTED : Fd := ⟨24, 1⟩
/-- FAB_PORT_KEYS, 09_damoa_links.md R207. -/
def FAB_PORT_KEYS (i : Nat) : Nat := 0x270118 + i * 0x40
def FAB_PORT_KEYS_KEY0 : Fd := ⟨0, 12⟩
def FAB_PORT_KEYS_KEY1 : Fd := ⟨16, 12⟩
def FAB_PORT_KEYS_KEY2 : Fd := ⟨32, 12⟩
def FAB_PORT_KEYS_KEY3 : Fd := ⟨48, 12⟩
/-- FAB_PORT_DISCARD, 09_damoa_links.md R207. -/
def FAB_PORT_DISCARD (i : Nat) : Nat := 0x270120 + i * 0x40
def FAB_PORT_DISCARD_AUTH : Fd := ⟨16, 16⟩
def FAB_PORT_DISCARD_FRAME : Fd := ⟨0, 16⟩
/-- FAB_LANE_STATUS, 09_damoa_links.md R207. -/
def FAB_LANE_STATUS (i : Nat) : Nat := 0x271000 + i * 0x10
def FAB_LANE_STATUS_TRAINED : Fd := ⟨31, 1⟩
def FAB_LANE_STATUS_LOCK : Fd := ⟨30, 1⟩
def FAB_LANE_STATUS_FAILED : Fd := ⟨29, 1⟩
def FAB_LANE_STATUS_PORT : Fd := ⟨16, 8⟩
def FAB_LANE_STATUS_LPOS : Fd := ⟨12, 4⟩
/-- FAB_LANE_FEC, 09_damoa_links.md R207. -/
def FAB_LANE_FEC (i : Nat) : Nat := 0x271008 + i * 0x10
def FAB_LANE_FEC_CORR : Fd := ⟨32, 32⟩
def FAB_LANE_FEC_UCW : Fd := ⟨0, 32⟩
/-- The FAB block. -/
def regsFAB : List RegDesc := [
  ⟨0x270000, 1, 0x0, 1, false, .core, [⟨16, 16, .ro, 0x0⟩, ⟨8, 8, .rw, 0x40⟩, ⟨1, 1, .rw, 0x0⟩, ⟨0, 1, .rw, 0x0⟩]⟩,
  ⟨0x270008, 1, 0x0, 1, true, .core, [⟨0, 64, .rw, 0x0⟩]⟩,
  ⟨0x270100, 32, 0x40, 1, false, .core, [⟨16, 16, .ro, 0x0⟩, ⟨8, 2, .rw, 0x0⟩, ⟨1, 1, .wo, 0x0⟩, ⟨0, 1, .rw, 0x0⟩]⟩,
  ⟨0x270104, 32, 0x40, 1, false, .core, [⟨28, 4, .ro, 0x0⟩, ⟨24, 4, .ro, 0x0⟩, ⟨23, 1, .ro, 0x0⟩, ⟨22, 1, .ro, 0x0⟩, ⟨21, 1, .rw1c, 0x0⟩, ⟨20, 1, .rw1c, 0x0⟩, ⟨8, 9, .ro, 0x0⟩, ⟨0, 8, .ro, 0x0⟩]⟩,
  ⟨0x270108, 32, 0x40, 1, true, .core, [⟨0, 8, .rw, 0x10⟩, ⟨8, 8, .rw, 0x10⟩, ⟨16, 8, .rw, 0x10⟩, ⟨24, 8, .rw, 0x10⟩, ⟨32, 8, .rw, 0x10⟩, ⟨40, 8, .rw, 0x10⟩, ⟨48, 8, .rw, 0x10⟩, ⟨56, 8, .rw, 0x10⟩]⟩,
  ⟨0x270110, 32, 0x40, 1, false, .core, [⟨0, 16, .rw, 0x200⟩]⟩,
  ⟨0x270114, 32, 0x40, 1, false, .core, [⟨31, 1, .wo, 0x0⟩, ⟨30, 1, .rw, 0x0⟩, ⟨28, 2, .ro, 0x0⟩, ⟨26, 2, .ro, 0x0⟩, ⟨25, 1, .rw1c, 0x0⟩, ⟨24, 1, .ro, 0x0⟩]⟩,
  ⟨0x270118, 32, 0x40, 1, true, .core, [⟨0, 12, .rw, 0x0⟩, ⟨16, 12, .rw, 0x0⟩, ⟨32, 12, .rw, 0x0⟩, ⟨48, 12, .rw, 0x0⟩]⟩,
  ⟨0x270120, 32, 0x40, 1, false, .core, [⟨16, 16, .rc, 0x0⟩, ⟨0, 16, .rc, 0x0⟩]⟩,
  ⟨0x271000, 144, 0x10, 1, false, .core, [⟨31, 1, .ro, 0x0⟩, ⟨30, 1, .ro, 0x0⟩, ⟨29, 1, .ro, 0x0⟩, ⟨16, 8, .ro, 0xff⟩, ⟨12, 4, .ro, 0xf⟩]⟩,
  ⟨0x271008, 144, 0x10, 1, true, .core, [⟨32, 32, .rc, 0x0⟩, ⟨0, 32, .rc, 0x0⟩]⟩]

/-- TRN_CTL, 10_fabric_transport.md R237. -/
def TRN_CTL : Nat := 0x280000
def TRN_CTL_REFUSAL : Fd := ⟨16, 16⟩
def TRN_CTL_EN : Fd := ⟨0, 1⟩
/-- TRN_ADDR, 10_fabric_transport.md R237. -/
def TRN_ADDR : Nat := 0x280004
def TRN_ADDR_ADDR : Fd := ⟨0, 32⟩
/-- TRN_CTX_BASE, 10_fabric_transport.md R237. -/
def TRN_CTX_BASE : Nat := 0x280008
def TRN_CTX_BASE_BASE : Fd := ⟨16, 36⟩
/-- TRN_CTX_HOST_BASE, 10_fabric_transport.md R237. -/
def TRN_CTX_HOST_BASE : Nat := 0x280010
def TRN_CTX_HOST_BASE_BASE : Fd := ⟨12, 40⟩
/-- TRN_CTX_HBM_COUNT, 10_fabric_transport.md R237. -/
def TRN_CTX_HBM_COUNT : Nat := 0x280018
def TRN_CTX_HBM_COUNT_COUNT : Fd := ⟨0, 21⟩
/-- TRN_KEY_BASE, 10_fabric_transport.md R237. -/
def TRN_KEY_BASE : Nat := 0x280020
def TRN_KEY_BASE_BASE : Fd := ⟨12, 40⟩
/-- TRN_KEY_COUNT, 10_fabric_transport.md R237. -/
def TRN_KEY_COUNT : Nat := 0x280028
def TRN_KEY_COUNT_COUNT : Fd := ⟨0, 25⟩
/-- TRN_KEY_INVAL, 10_fabric_transport.md R237. -/
def TRN_KEY_INVAL : Nat := 0x28002c
def TRN_KEY_INVAL_BUSY : Fd := ⟨31, 1⟩
def TRN_KEY_INVAL_ALL : Fd := ⟨30, 1⟩
def TRN_KEY_INVAL_INDEX : Fd := ⟨0, 24⟩
/-- TRN_TIMER, 10_fabric_transport.md R237. -/
def TRN_TIMER : Nat := 0x280030
def TRN_TIMER_HOLE_US : Fd := ⟨24, 8⟩
def TRN_TIMER_RETRY_LIMIT : Fd := ⟨20, 4⟩
def TRN_TIMER_RTO_US : Fd := ⟨0, 16⟩
/-- TRN_MISS_STATUS, 10_fabric_transport.md R237. -/
def TRN_MISS_STATUS : Nat := 0x280034
def TRN_MISS_STATUS_FULL : Fd := ⟨0, 32⟩
/-- TRN_DISCARD, 10_fabric_transport.md R237. -/
def TRN_DISCARD : Nat := 0x280038
def TRN_DISCARD_ECN : Fd := ⟨16, 16⟩
def TRN_DISCARD_FRAME : Fd := ⟨0, 16⟩
/-- TRN_RETX, 10_fabric_transport.md R237. -/
def TRN_RETX : Nat := 0x28003c
def TRN_RETX_COUNT : Fd := ⟨0, 32⟩
/-- TRN_REQ_BASE, 10_fabric_transport.md R237. -/
def TRN_REQ_BASE : Nat := 0x280100
def TRN_REQ_BASE_BASE : Fd := ⟨12, 40⟩
def TRN_REQ_BASE_LOG2N : Fd := ⟨0, 5⟩
/-- TRN_CMPL_BASE, 10_fabric_transport.md R237. -/
def TRN_CMPL_BASE : Nat := 0x280108
def TRN_CMPL_BASE_BASE : Fd := ⟨12, 40⟩
def TRN_CMPL_BASE_LOG2N : Fd := ⟨0, 5⟩
/-- TRN_RCTL, 10_fabric_transport.md R237. -/
def TRN_RCTL : Nat := 0x280110
def TRN_RCTL_CMPL_EN : Fd := ⟨1, 1⟩
def TRN_RCTL_CMD_EN : Fd := ⟨0, 1⟩
/-- TRN_REQ_DB, 10_fabric_transport.md R237. -/
def TRN_REQ_DB : Nat := 0x280114
def TRN_REQ_DB_CMD_TAIL : Fd := ⟨0, 16⟩
/-- TRN_CMPL_HEAD, 10_fabric_transport.md R237. -/
def TRN_CMPL_HEAD : Nat := 0x280118
def TRN_CMPL_HEAD_HEAD : Fd := ⟨0, 16⟩
/-- TRN_RSTATUS, 10_fabric_transport.md R237. -/
def TRN_RSTATUS : Nat := 0x28011c
def TRN_RSTATUS_CMPL_TAIL : Fd := ⟨16, 16⟩
def TRN_RSTATUS_CMD_HEAD : Fd := ⟨0, 16⟩
/-- TRN_RERR, 10_fabric_transport.md R237. -/
def TRN_RERR : Nat := 0x280120
def TRN_RERR_REFUSAL : Fd := ⟨16, 16⟩
def TRN_RERR_FETCH_ERR : Fd := ⟨2, 1⟩
def TRN_RERR_OVERRUN : Fd := ⟨1, 1⟩
def TRN_RERR_HALTED : Fd := ⟨0, 1⟩
/-- TRN_FWRX_BASE, 10_fabric_transport.md R237. -/
def TRN_FWRX_BASE : Nat := 0x280140
def TRN_FWRX_BASE_BASE : Fd := ⟨12, 40⟩
def TRN_FWRX_BASE_LOG2N : Fd := ⟨0, 5⟩
/-- TRN_FWRX_CTL, 10_fabric_transport.md R237. -/
def TRN_FWRX_CTL : Nat := 0x280148
def TRN_FWRX_CTL_EN : Fd := ⟨31, 1⟩
def TRN_FWRX_CTL_EVT_BIT : Fd := ⟨16, 4⟩
def TRN_FWRX_CTL_EVT_CORE : Fd := ⟨8, 5⟩
/-- TRN_FWRX_HEAD, 10_fabric_transport.md R237. -/
def TRN_FWRX_HEAD : Nat := 0x28014c
def TRN_FWRX_HEAD_HEAD : Fd := ⟨0, 16⟩
/-- TRN_FWRX_STATUS, 10_fabric_transport.md R237. -/
def TRN_FWRX_STATUS : Nat := 0x280150
def TRN_FWRX_STATUS_TAIL : Fd := ⟨0, 16⟩
/-- The TRN block. -/
def regsTRN : List RegDesc := [
  ⟨0x280000, 1, 0x0, 1, false, .core, [⟨16, 16, .ro, 0x0⟩, ⟨0, 1, .rw, 0x0⟩]⟩,
  ⟨0x280004, 1, 0x0, 1, false, .core, [⟨0, 32, .rw, 0x0⟩]⟩,
  ⟨0x280008, 1, 0x0, 1, true, .core, [⟨16, 36, .rw, 0x0⟩]⟩,
  ⟨0x280010, 1, 0x0, 1, true, .core, [⟨12, 40, .rw, 0x0⟩]⟩,
  ⟨0x280018, 1, 0x0, 1, false, .core, [⟨0, 21, .rw, 0x100000⟩]⟩,
  ⟨0x280020, 1, 0x0, 1, true, .core, [⟨12, 40, .rw, 0x0⟩]⟩,
  ⟨0x280028, 1, 0x0, 1, false, .core, [⟨0, 25, .rw, 0x0⟩]⟩,
  ⟨0x28002c, 1, 0x0, 1, false, .core, [⟨31, 1, .ro, 0x0⟩, ⟨30, 1, .wo, 0x0⟩, ⟨0, 24, .rw, 0x0⟩]⟩,
  ⟨0x280030, 1, 0x0, 1, false, .core, [⟨24, 8, .rw, 0x8⟩, ⟨20, 4, .rw, 0x7⟩, ⟨0, 16, .rw, 0x64⟩]⟩,
  ⟨0x280034, 1, 0x0, 1, false, .core, [⟨0, 32, .ro, 0x0⟩]⟩,
  ⟨0x280038, 1, 0x0, 1, false, .core, [⟨16, 16, .rc, 0x0⟩, ⟨0, 16, .rc, 0x0⟩]⟩,
  ⟨0x28003c, 1, 0x0, 1, false, .core, [⟨0, 32, .rc, 0x0⟩]⟩,
  ⟨0x280100, 1, 0x0, 1, true, .core, [⟨12, 40, .rw, 0x0⟩, ⟨0, 5, .rw, 0x0⟩]⟩,
  ⟨0x280108, 1, 0x0, 1, true, .core, [⟨12, 40, .rw, 0x0⟩, ⟨0, 5, .rw, 0x0⟩]⟩,
  ⟨0x280110, 1, 0x0, 1, false, .core, [⟨1, 1, .rw, 0x0⟩, ⟨0, 1, .rw, 0x0⟩]⟩,
  ⟨0x280114, 1, 0x0, 1, false, .core, [⟨0, 16, .wo, 0x0⟩]⟩,
  ⟨0x280118, 1, 0x0, 1, false, .core, [⟨0, 16, .rw, 0x0⟩]⟩,
  ⟨0x28011c, 1, 0x0, 1, false, .core, [⟨16, 16, .ro, 0x0⟩, ⟨0, 16, .ro, 0x0⟩]⟩,
  ⟨0x280120, 1, 0x0, 1, false, .core, [⟨16, 16, .ro, 0x0⟩, ⟨2, 1, .rw1c, 0x0⟩, ⟨1, 1, .rw1c, 0x0⟩, ⟨0, 1, .rw1c, 0x0⟩]⟩,
  ⟨0x280140, 1, 0x0, 1, true, .core, [⟨12, 40, .rw, 0x0⟩, ⟨0, 5, .rw, 0x0⟩]⟩,
  ⟨0x280148, 1, 0x0, 1, false, .core, [⟨31, 1, .rw, 0x0⟩, ⟨16, 4, .rw, 0x0⟩, ⟨8, 5, .rw, 0x0⟩]⟩,
  ⟨0x28014c, 1, 0x0, 1, false, .core, [⟨0, 16, .rw, 0x0⟩]⟩,
  ⟨0x280150, 1, 0x0, 1, false, .core, [⟨0, 16, .ro, 0x0⟩]⟩]

/-- PEER_WIN_TARGET, 10_fabric_transport.md R237. -/
def PEER_WIN_TARGET (i : Nat) : Nat := 0x290000 + i * 0x10
def PEER_WIN_TARGET_TARGET : Fd := ⟨12, 40⟩
/-- PEER_WIN_CFG, 10_fabric_transport.md R237. -/
def PEER_WIN_CFG (i : Nat) : Nat := 0x290008 + i * 0x10
def PEER_WIN_CFG_EN : Fd := ⟨31, 1⟩
def PEER_WIN_CFG_LOG2SIZE : Fd := ⟨8, 6⟩
def PEER_WIN_CFG_RIGHTS : Fd := ⟨0, 2⟩
/-- PEER_WIN_COMMIT, 10_fabric_transport.md R237. -/
def PEER_WIN_COMMIT : Nat := 0x290800
def PEER_WIN_COMMIT_COMMIT : Fd := ⟨31, 1⟩
def PEER_WIN_COMMIT_PENDING : Fd := ⟨30, 1⟩
def PEER_WIN_COMMIT_REFUSAL : Fd := ⟨0, 16⟩
/-- The PEER block. -/
def regsPEER : List RegDesc := [
  ⟨0x290000, 128, 0x10, 1, true, .core, [⟨12, 40, .rw, 0x0⟩]⟩,
  ⟨0x290008, 128, 0x10, 1, false, .core, [⟨31, 1, .rw, 0x0⟩, ⟨8, 6, .rw, 0xc⟩, ⟨0, 2, .rw, 0x0⟩]⟩,
  ⟨0x290800, 1, 0x0, 1, false, .core, [⟨31, 1, .wo, 0x0⟩, ⟨30, 1, .ro, 0x0⟩, ⟨0, 16, .ro, 0x0⟩]⟩]

/-- PKT_CTL, 12_packet_pipeline.md R280. -/
def PKT_CTL : Nat := 0x2a0000
def PKT_CTL_REFUSAL : Fd := ⟨16, 16⟩
def PKT_CTL_RXWAIT : Fd := ⟨8, 8⟩
def PKT_CTL_EN : Fd := ⟨0, 1⟩
/-- PKT_SWAP, 12_packet_pipeline.md R280. -/
def PKT_SWAP : Nat := 0x2a0004
def PKT_SWAP_SWAP : Fd := ⟨31, 1⟩
def PKT_SWAP_PENDING : Fd := ⟨30, 1⟩
def PKT_SWAP_ACTIVE : Fd := ⟨0, 1⟩
/-- PKT_BANK_BASE, 12_packet_pipeline.md R280. -/
def PKT_BANK_BASE (i : Nat) : Nat := 0x2a0008 + i * 0x8
def PKT_BANK_BASE_BASE : Fd := ⟨12, 40⟩
/-- PKT_CNT_BASE, 12_packet_pipeline.md R280. -/
def PKT_CNT_BASE : Nat := 0x2a0018
def PKT_CNT_BASE_BASE : Fd := ⟨20, 32⟩
/-- PKT_EXACT_INVAL, 12_packet_pipeline.md R280. -/
def PKT_EXACT_INVAL : Nat := 0x2a0020
def PKT_EXACT_INVAL_BUSY : Fd := ⟨31, 1⟩
def PKT_EXACT_INVAL_ALL : Fd := ⟨30, 1⟩
def PKT_EXACT_INVAL_BANK : Fd := ⟨29, 1⟩
def PKT_EXACT_INVAL_TABLE : Fd := ⟨26, 3⟩
def PKT_EXACT_INVAL_ENTRY : Fd := ⟨0, 23⟩
/-- PKT_FRAG_CTL, 12_packet_pipeline.md R280. -/
def PKT_FRAG_CTL : Nat := 0x2a0024
def PKT_FRAG_CTL_ENTRIES : Fd := ⟨16, 14⟩
def PKT_FRAG_CTL_IDLE_MS : Fd := ⟨0, 8⟩
/-- PKT_EVENTS, 12_packet_pipeline.md R280. -/
def PKT_EVENTS : Nat := 0x2a0028
def PKT_EVENTS_EARLY_FRAG : Fd := ⟨48, 16⟩
def PKT_EVENTS_HOLD_FULL : Fd := ⟨32, 16⟩
def PKT_EVENTS_QUEUE_DROP : Fd := ⟨16, 16⟩
def PKT_EVENTS_TX_INVALID : Fd := ⟨0, 16⟩
/-- PKT_EVENTS2, 12_packet_pipeline.md R280. -/
def PKT_EVENTS2 : Nat := 0x2a0030
def PKT_EVENTS2_PARSE_EXC : Fd := ⟨20, 12⟩
def PKT_EVENTS2_FRAG_FULL : Fd := ⟨10, 10⟩
def PKT_EVENTS2_OVERSIZE : Fd := ⟨0, 10⟩
/-- PKT_MSEC_CTL, 12_packet_pipeline.md R280. -/
def PKT_MSEC_CTL (i : Nat) : Nat := 0x2a0100 + i * 0x10
def PKT_MSEC_CTL_EN : Fd := ⟨31, 1⟩
def PKT_MSEC_CTL_PROTECT : Fd := ⟨30, 1⟩
def PKT_MSEC_CTL_VALIDATE : Fd := ⟨28, 2⟩
def PKT_MSEC_CTL_TX_AN : Fd := ⟨26, 2⟩
def PKT_MSEC_CTL_REKEY : Fd := ⟨25, 1⟩
def PKT_MSEC_CTL_EXHAUSTED : Fd := ⟨24, 1⟩
/-- PKT_MSEC_REPLAY, 12_packet_pipeline.md R280. -/
def PKT_MSEC_REPLAY (i : Nat) : Nat := 0x2a0104 + i * 0x10
def PKT_MSEC_REPLAY_WINDOW : Fd := ⟨0, 32⟩
/-- PKT_MSEC_DISCARD, 12_packet_pipeline.md R280. -/
def PKT_MSEC_DISCARD (i : Nat) : Nat := 0x2a0108 + i * 0x10
def PKT_MSEC_DISCARD_AUTH : Fd := ⟨16, 16⟩
def PKT_MSEC_DISCARD_OTHER : Fd := ⟨0, 16⟩
/-- The PKT block. -/
def regsPKT : List RegDesc := [
  ⟨0x2a0000, 1, 0x0, 1, false, .core, [⟨16, 16, .ro, 0x0⟩, ⟨8, 8, .rw, 0xa⟩, ⟨0, 1, .rw, 0x0⟩]⟩,
  ⟨0x2a0004, 1, 0x0, 1, false, .core, [⟨31, 1, .wo, 0x0⟩, ⟨30, 1, .ro, 0x0⟩, ⟨0, 1, .ro, 0x0⟩]⟩,
  ⟨0x2a0008, 2, 0x8, 1, true, .core, [⟨12, 40, .rw, 0x0⟩]⟩,
  ⟨0x2a0018, 1, 0x0, 1, true, .core, [⟨20, 32, .rw, 0x0⟩]⟩,
  ⟨0x2a0020, 1, 0x0, 1, false, .core, [⟨31, 1, .ro, 0x0⟩, ⟨30, 1, .wo, 0x0⟩, ⟨29, 1, .rw, 0x0⟩, ⟨26, 3, .rw, 0x0⟩, ⟨0, 23, .rw, 0x0⟩]⟩,
  ⟨0x2a0024, 1, 0x0, 1, false, .core, [⟨16, 14, .ro, 0x0⟩, ⟨0, 8, .rw, 0x1e⟩]⟩,
  ⟨0x2a0028, 1, 0x0, 1, true, .core, [⟨48, 16, .rc, 0x0⟩, ⟨32, 16, .rc, 0x0⟩, ⟨16, 16, .rc, 0x0⟩, ⟨0, 16, .rc, 0x0⟩]⟩,
  ⟨0x2a0030, 1, 0x0, 1, false, .core, [⟨20, 12, .rc, 0x0⟩, ⟨10, 10, .rc, 0x0⟩, ⟨0, 10, .rc, 0x0⟩]⟩,
  ⟨0x2a0100, 8, 0x10, 1, false, .core, [⟨31, 1, .rw, 0x0⟩, ⟨30, 1, .rw, 0x0⟩, ⟨28, 2, .rw, 0x2⟩, ⟨26, 2, .ro, 0x0⟩, ⟨25, 1, .rw1c, 0x0⟩, ⟨24, 1, .ro, 0x0⟩]⟩,
  ⟨0x2a0104, 8, 0x10, 1, false, .core, [⟨0, 32, .rw, 0x0⟩]⟩,
  ⟨0x2a0108, 8, 0x10, 1, false, .core, [⟨16, 16, .rc, 0x0⟩, ⟨0, 16, .rc, 0x0⟩]⟩]

/-- STO_CTL, 13_storage_queues.md R298. -/
def STO_CTL : Nat := 0x2b0000
def STO_CTL_REFUSAL : Fd := ⟨16, 16⟩
def STO_CTL_EN : Fd := ⟨0, 1⟩
/-- STO_STAGE_BASE, 13_storage_queues.md R298. -/
def STO_STAGE_BASE : Nat := 0x2b0008
def STO_STAGE_BASE_BASE : Fd := ⟨16, 36⟩
/-- STO_STAGE_SIZE, 13_storage_queues.md R298. -/
def STO_STAGE_SIZE : Nat := 0x2b0010
def STO_STAGE_SIZE_MIB : Fd := ⟨0, 13⟩
/-- STO_VOL_BASE, 13_storage_queues.md R298. -/
def STO_VOL_BASE : Nat := 0x2b0018
def STO_VOL_BASE_BASE : Fd := ⟨12, 40⟩
/-- STO_LOCKS, 13_storage_queues.md R298. -/
def STO_LOCKS : Nat := 0x2b0020
def STO_LOCKS_HIGH : Fd := ⟨16, 13⟩
def STO_LOCKS_IN_USE : Fd := ⟨0, 13⟩
/-- STO_EVENTS, 13_storage_queues.md R298. -/
def STO_EVENTS : Nat := 0x2b0024
def STO_EVENTS_FREEZES : Fd := ⟨16, 16⟩
def STO_EVENTS_LATE : Fd := ⟨0, 16⟩
/-- STO_DRIVE_STATUS, 13_storage_queues.md R298. -/
def STO_DRIVE_STATUS (i : Nat) : Nat := 0x2b0040 + i * 0x4
def STO_DRIVE_STATUS_PRESENT : Fd := ⟨31, 1⟩
def STO_DRIVE_STATUS_READY : Fd := ⟨30, 1⟩
def STO_DRIVE_STATUS_VWC : Fd := ⟨29, 1⟩
def STO_DRIVE_STATUS_WIDTH : Fd := ⟨16, 4⟩
def STO_DRIVE_STATUS_OUTSTANDING : Fd := ⟨0, 16⟩
/-- The STO block. -/
def regsSTO : List RegDesc := [
  ⟨0x2b0000, 1, 0x0, 1, false, .core, [⟨16, 16, .ro, 0x0⟩, ⟨0, 1, .rw, 0x0⟩]⟩,
  ⟨0x2b0008, 1, 0x0, 1, true, .core, [⟨16, 36, .rw, 0x0⟩]⟩,
  ⟨0x2b0010, 1, 0x0, 1, false, .core, [⟨0, 13, .rw, 0x100⟩]⟩,
  ⟨0x2b0018, 1, 0x0, 1, true, .core, [⟨12, 40, .rw, 0x0⟩]⟩,
  ⟨0x2b0020, 1, 0x0, 1, false, .core, [⟨16, 13, .rc, 0x0⟩, ⟨0, 13, .ro, 0x0⟩]⟩,
  ⟨0x2b0024, 1, 0x0, 1, false, .core, [⟨16, 16, .rc, 0x0⟩, ⟨0, 16, .rc, 0x0⟩]⟩,
  ⟨0x2b0040, 4, 0x4, 1, false, .core, [⟨31, 1, .ro, 0x0⟩, ⟨30, 1, .ro, 0x0⟩, ⟨29, 1, .ro, 0x0⟩, ⟨16, 4, .ro, 0x0⟩, ⟨0, 16, .ro, 0x0⟩]⟩]

/-- SEC_CTL, 14_security_and_keys.md R322. -/
def SEC_CTL : Nat := 0x2c0000
def SEC_CTL_REFUSAL : Fd := ⟨16, 16⟩
def SEC_CTL_MSG_EN : Fd := ⟨0, 1⟩
/-- SEC_STATUS, 14_security_and_keys.md R322. -/
def SEC_STATUS : Nat := 0x2c0004
def SEC_STATUS_ID_VALID : Fd := ⟨31, 1⟩
def SEC_STATUS_ID_FAIL : Fd := ⟨30, 1⟩
def SEC_STATUS_CERT : Fd := ⟨29, 1⟩
def SEC_STATUS_ENT_FAIL : Fd := ⟨28, 1⟩
def SEC_STATUS_FACTORY : Fd := ⟨27, 1⟩
def SEC_STATUS_DEBUG : Fd := ⟨23, 4⟩
def SEC_STATUS_MFG_CERT : Fd := ⟨22, 1⟩
def SEC_STATUS_LOADED : Fd := ⟨0, 13⟩
/-- SEC_DSN, 14_security_and_keys.md R322. -/
def SEC_DSN : Nat := 0x2c0008
def SEC_DSN_DSN : Fd := ⟨0, 64⟩
/-- SEC_EVENTS, 14_security_and_keys.md R322. -/
def SEC_EVENTS : Nat := 0x2c0010
def SEC_EVENTS_AUTH_FAIL : Fd := ⟨16, 16⟩
def SEC_EVENTS_UNWRAP_FAIL : Fd := ⟨8, 8⟩
def SEC_EVENTS_WITHDRAWN : Fd := ⟨0, 8⟩
/-- SEC_REQ_BASE, 14_security_and_keys.md R322. -/
def SEC_REQ_BASE : Nat := 0x2c0100
def SEC_REQ_BASE_BASE : Fd := ⟨12, 40⟩
def SEC_REQ_BASE_LOG2N : Fd := ⟨0, 5⟩
/-- SEC_CMPL_BASE, 14_security_and_keys.md R322. -/
def SEC_CMPL_BASE : Nat := 0x2c0108
def SEC_CMPL_BASE_BASE : Fd := ⟨12, 40⟩
def SEC_CMPL_BASE_LOG2N : Fd := ⟨0, 5⟩
/-- SEC_RCTL, 14_security_and_keys.md R322. -/
def SEC_RCTL : Nat := 0x2c0110
def SEC_RCTL_CMPL_EN : Fd := ⟨1, 1⟩
def SEC_RCTL_CMD_EN : Fd := ⟨0, 1⟩
/-- SEC_REQ_DB, 14_security_and_keys.md R322. -/
def SEC_REQ_DB : Nat := 0x2c0114
def SEC_REQ_DB_CMD_TAIL : Fd := ⟨0, 16⟩
/-- SEC_CMPL_HEAD, 14_security_and_keys.md R322. -/
def SEC_CMPL_HEAD : Nat := 0x2c0118
def SEC_CMPL_HEAD_HEAD : Fd := ⟨0, 16⟩
/-- SEC_RSTATUS, 14_security_and_keys.md R322. -/
def SEC_RSTATUS : Nat := 0x2c011c
def SEC_RSTATUS_CMPL_TAIL : Fd := ⟨16, 16⟩
def SEC_RSTATUS_CMD_HEAD : Fd := ⟨0, 16⟩
/-- SEC_RERR, 14_security_and_keys.md R322. -/
def SEC_RERR : Nat := 0x2c0120
def SEC_RERR_REFUSAL : Fd := ⟨16, 16⟩
def SEC_RERR_FETCH_ERR : Fd := ⟨2, 1⟩
def SEC_RERR_OVERRUN : Fd := ⟨1, 1⟩
def SEC_RERR_HALTED : Fd := ⟨0, 1⟩
/-- The SEC block. -/
def regsSEC : List RegDesc := [
  ⟨0x2c0000, 1, 0x0, 1, false, .core, [⟨16, 16, .ro, 0x0⟩, ⟨0, 1, .rw, 0x0⟩]⟩,
  ⟨0x2c0004, 1, 0x0, 1, false, .core, [⟨31, 1, .ro, 0x0⟩, ⟨30, 1, .ro, 0x0⟩, ⟨29, 1, .ro, 0x0⟩, ⟨28, 1, .ro, 0x0⟩, ⟨27, 1, .ro, 0x0⟩, ⟨23, 4, .ro, 0x0⟩, ⟨22, 1, .ro, 0x0⟩, ⟨0, 13, .ro, 0x0⟩]⟩,
  ⟨0x2c0008, 1, 0x0, 1, true, .core, [⟨0, 64, .ro, 0x0⟩]⟩,
  ⟨0x2c0010, 1, 0x0, 1, false, .core, [⟨16, 16, .rc, 0x0⟩, ⟨8, 8, .rc, 0x0⟩, ⟨0, 8, .rc, 0x0⟩]⟩,
  ⟨0x2c0100, 1, 0x0, 1, true, .core, [⟨12, 40, .rw, 0x0⟩, ⟨0, 5, .rw, 0x0⟩]⟩,
  ⟨0x2c0108, 1, 0x0, 1, true, .core, [⟨12, 40, .rw, 0x0⟩, ⟨0, 5, .rw, 0x0⟩]⟩,
  ⟨0x2c0110, 1, 0x0, 1, false, .core, [⟨1, 1, .rw, 0x0⟩, ⟨0, 1, .rw, 0x0⟩]⟩,
  ⟨0x2c0114, 1, 0x0, 1, false, .core, [⟨0, 16, .wo, 0x0⟩]⟩,
  ⟨0x2c0118, 1, 0x0, 1, false, .core, [⟨0, 16, .rw, 0x0⟩]⟩,
  ⟨0x2c011c, 1, 0x0, 1, false, .core, [⟨16, 16, .ro, 0x0⟩, ⟨0, 16, .ro, 0x0⟩]⟩,
  ⟨0x2c0120, 1, 0x0, 1, false, .core, [⟨16, 16, .ro, 0x0⟩, ⟨2, 1, .rw1c, 0x0⟩, ⟨1, 1, .rw1c, 0x0⟩, ⟨0, 1, .rw1c, 0x0⟩]⟩]

/-- HWIN_BASE, 15_host_endpoint.md R330. -/
def HWIN_BASE : Nat := 0x2d0000
def HWIN_BASE_BASE : Fd := ⟨12, 40⟩
/-- HWIN_COMMIT, 15_host_endpoint.md R330. -/
def HWIN_COMMIT : Nat := 0x2d0008
def HWIN_COMMIT_COMMIT : Fd := ⟨31, 1⟩
def HWIN_COMMIT_PENDING : Fd := ⟨30, 1⟩
def HWIN_COMMIT_REFUSAL : Fd := ⟨0, 16⟩
/-- The HWIN block. -/
def regsHWIN : List RegDesc := [
  ⟨0x2d0000, 1, 0x0, 1, true, .core, [⟨12, 40, .rw, 0x0⟩]⟩,
  ⟨0x2d0008, 1, 0x0, 1, false, .core, [⟨31, 1, .wo, 0x0⟩, ⟨30, 1, .ro, 0x0⟩, ⟨0, 16, .ro, 0x0⟩]⟩]

/-- CORE_WDG, 17_firmware_and_syncen.md R377. -/
def CORE_WDG (i : Nat) : Nat := 0x2e0000 + i * 0x10
def CORE_WDG_EN : Fd := ⟨31, 1⟩
def CORE_WDG_KICK : Fd := ⟨30, 1⟩
def CORE_WDG_TIMEOUT_MS : Fd := ⟨0, 10⟩
/-- CORE_STATUS, 17_firmware_and_syncen.md R377. -/
def CORE_STATUS (i : Nat) : Nat := 0x2e0004 + i * 0x10
def CORE_STATUS_STATE : Fd := ⟨30, 2⟩
def CORE_STATUS_HOST_CORE : Fd := ⟨16, 8⟩
def CORE_STATUS_RESTARTS : Fd := ⟨0, 16⟩
/-- CORE_EVT, 18_tahr_instruction_set.md R401. -/
def CORE_EVT (i : Nat) : Nat := 0x2e0008 + i * 0x10
def CORE_EVT_SET : Fd := ⟨16, 16⟩
/-- The CORE block. -/
def regsCORE : List RegDesc := [
  ⟨0x2e0000, 33, 0x10, 1, false, .core, [⟨31, 1, .rw, 0x0⟩, ⟨30, 1, .wo, 0x0⟩, ⟨0, 10, .rw, 0x14⟩]⟩,
  ⟨0x2e0004, 33, 0x10, 1, false, .core, [⟨30, 2, .ro, 0x0⟩, ⟨16, 8, .ro, 0xff⟩, ⟨0, 16, .ro, 0x0⟩]⟩,
  ⟨0x2e0008, 33, 0x10, 1, false, .core, [⟨16, 16, .wo, 0x0⟩]⟩]

/-- CKP_CTL, 21_checkpoint_and_recovery.md R466. -/
def CKP_CTL : Nat := 0x2f0000
def CKP_CTL_REFUSAL : Fd := ⟨16, 16⟩
def CKP_CTL_LEASE_EN : Fd := ⟨1, 1⟩
def CKP_CTL_EN : Fd := ⟨0, 1⟩
/-- CKP_CFG_BASE, 21_checkpoint_and_recovery.md R466. -/
def CKP_CFG_BASE : Nat := 0x2f0008
def CKP_CFG_BASE_BASE : Fd := ⟨12, 40⟩
/-- CKP_STAGE, 21_checkpoint_and_recovery.md R466. -/
def CKP_STAGE : Nat := 0x2f0010
def CKP_STAGE_BASE : Fd := ⟨20, 32⟩
def CKP_STAGE_MIB : Fd := ⟨0, 13⟩
/-- CKP_MARK, 21_checkpoint_and_recovery.md R466. -/
def CKP_MARK : Nat := 0x2f0018
def CKP_MARK_MARK : Fd := ⟨31, 1⟩
def CKP_MARK_SNAP : Fd := ⟨30, 1⟩
def CKP_MARK_ROLLBACK : Fd := ⟨29, 1⟩
def CKP_MARK_UNPIN : Fd := ⟨28, 1⟩
/-- CKP_MARKED, 21_checkpoint_and_recovery.md R466. -/
def CKP_MARKED : Nat := 0x2f0020
def CKP_MARKED_CSTEP : Fd := ⟨0, 64⟩
/-- CKP_LOCAL, 21_checkpoint_and_recovery.md R466. -/
def CKP_LOCAL : Nat := 0x2f0028
def CKP_LOCAL_CSTEP : Fd := ⟨0, 64⟩
/-- CKP_REPLICA, 21_checkpoint_and_recovery.md R466. -/
def CKP_REPLICA : Nat := 0x2f0030
def CKP_REPLICA_CSTEP : Fd := ⟨0, 64⟩
/-- CKP_LEASE, 21_checkpoint_and_recovery.md R466. -/
def CKP_LEASE : Nat := 0x2f0038
def CKP_LEASE_EXPIRY : Fd := ⟨0, 64⟩
/-- CKP_STATUS, 21_checkpoint_and_recovery.md R466. -/
def CKP_STATUS : Nat := 0x2f0040
def CKP_STATUS_ROLLBACK_BUSY : Fd := ⟨31, 1⟩
def CKP_STATUS_LAPSED : Fd := ⟨30, 1⟩
def CKP_STATUS_MARK_REFUSED : Fd := ⟨29, 1⟩
def CKP_STATUS_SNAP_ABORT : Fd := ⟨28, 1⟩
def CKP_STATUS_PIN : Fd := ⟨27, 1⟩
def CKP_STATUS_GATED : Fd := ⟨16, 8⟩
def CKP_STATUS_STALLS : Fd := ⟨0, 16⟩
/-- The CKP block. -/
def regsCKP : List RegDesc := [
  ⟨0x2f0000, 1, 0x0, 1, false, .core, [⟨16, 16, .ro, 0x0⟩, ⟨1, 1, .rw, 0x0⟩, ⟨0, 1, .rw, 0x0⟩]⟩,
  ⟨0x2f0008, 1, 0x0, 1, true, .core, [⟨12, 40, .rw, 0x0⟩]⟩,
  ⟨0x2f0010, 1, 0x0, 1, true, .core, [⟨20, 32, .rw, 0x0⟩, ⟨0, 13, .rw, 0x200⟩]⟩,
  ⟨0x2f0018, 1, 0x0, 1, false, .core, [⟨31, 1, .wo, 0x0⟩, ⟨30, 1, .wo, 0x0⟩, ⟨29, 1, .wo, 0x0⟩, ⟨28, 1, .wo, 0x0⟩]⟩,
  ⟨0x2f0020, 1, 0x0, 1, true, .core, [⟨0, 64, .rw, 0x0⟩]⟩,
  ⟨0x2f0028, 1, 0x0, 1, true, .core, [⟨0, 64, .ro, 0x0⟩]⟩,
  ⟨0x2f0030, 1, 0x0, 1, true, .core, [⟨0, 64, .rw, 0x0⟩]⟩,
  ⟨0x2f0038, 1, 0x0, 1, true, .core, [⟨0, 64, .rw, 0x0⟩]⟩,
  ⟨0x2f0040, 1, 0x0, 1, false, .core, [⟨31, 1, .ro, 0x0⟩, ⟨30, 1, .ro, 0x0⟩, ⟨29, 1, .rw1c, 0x0⟩, ⟨28, 1, .rw1c, 0x0⟩, ⟨27, 1, .ro, 0x0⟩, ⟨16, 8, .rc, 0x0⟩, ⟨0, 16, .rc, 0x0⟩]⟩]

/-- INSTP_REQ, 16_virtual_instances.md R347. -/
def INSTP_REQ (i : Nat) (w : Nat := 0) : Nat := 0x10002000 + i * 0x4000 + w * 4
/-- INSTP_RSP, 16_virtual_instances.md R347. -/
def INSTP_RSP (i : Nat) (w : Nat := 0) : Nat := 0x10002800 + i * 0x4000 + w * 4
/-- INSTP_STATUS, 16_virtual_instances.md R348. -/
def INSTP_STATUS (i : Nat) : Nat := 0x10003000 + i * 0x4000
def INSTP_STATUS_STATE : Fd := ⟨29, 3⟩
def INSTP_STATUS_EVENT : Fd := ⟨28, 1⟩
def INSTP_STATUS_STRAY : Fd := ⟨24, 4⟩
def INSTP_STATUS_GEN : Fd := ⟨0, 16⟩
/-- INSTP_MBX, 16_virtual_instances.md R348. -/
def INSTP_MBX (i : Nat) : Nat := 0x10003004 + i * 0x4000
def INSTP_MBX_GO : Fd := ⟨31, 1⟩
def INSTP_MBX_BUSY : Fd := ⟨30, 1⟩
def INSTP_MBX_DONE : Fd := ⟨29, 1⟩
/-- The INSTP block. -/
def regsINSTP : List RegDesc := [
  ⟨0x10002000, 2048, 0x4000, 512, false, .host, [⟨0, 32, .rw, 0x0⟩]⟩,
  ⟨0x10002800, 2048, 0x4000, 512, false, .host, [⟨0, 32, .ro, 0x0⟩]⟩,
  ⟨0x10003000, 2048, 0x4000, 1, false, .host, [⟨29, 3, .ro, 0x0⟩, ⟨28, 1, .rw1c, 0x0⟩, ⟨24, 4, .rc, 0x0⟩, ⟨0, 16, .ro, 0x0⟩]⟩,
  ⟨0x10003004, 2048, 0x4000, 1, false, .host, [⟨31, 1, .wo, 0x0⟩, ⟨30, 1, .ro, 0x0⟩, ⟨29, 1, .rw1c, 0x0⟩]⟩]

/-- The registers of the block an offset lies in (an offset of no block: none, R326). -/
def blockRegs (off : Nat) : List RegDesc :=
  if 0x0 ≤ off ∧ off < 0x10000 then regsDEV else
  if 0x10000 ≤ off ∧ off < 0x20000 then regsMBX else
  if 0x20000 ≤ off ∧ off < 0x30000 then regsFLT else
  if 0x30000 ≤ off ∧ off < 0x40000 then regsTIME else
  if 0x40000 ≤ off ∧ off < 0x50000 then regsPWR else
  if 0x50000 ≤ off ∧ off < 0x60000 then regsWIN else
  if 0x60000 ≤ off ∧ off < 0x70000 then regsTG else
  if 0x100000 ≤ off ∧ off < 0x190000 then regsMSIX else
  if 0x200000 ≤ off ∧ off < 0x210000 then regsCLU else
  if 0x210000 ≤ off ∧ off < 0x220000 then regsFLG else
  if 0x220000 ≤ off ∧ off < 0x230000 then regsBAR else
  if 0x230000 ≤ off ∧ off < 0x240000 then regsCOL else
  if 0x240000 ≤ off ∧ off < 0x250000 then regsKV else
  if 0x250000 ≤ off ∧ off < 0x260000 then regsHBM else
  if 0x260000 ≤ off ∧ off < 0x270000 then regsARB else
  if 0x270000 ≤ off ∧ off < 0x280000 then regsFAB else
  if 0x280000 ≤ off ∧ off < 0x290000 then regsTRN else
  if 0x290000 ≤ off ∧ off < 0x2a0000 then regsPEER else
  if 0x2a0000 ≤ off ∧ off < 0x2b0000 then regsPKT else
  if 0x2b0000 ≤ off ∧ off < 0x2c0000 then regsSTO else
  if 0x2c0000 ≤ off ∧ off < 0x2d0000 then regsSEC else
  if 0x2d0000 ≤ off ∧ off < 0x2e0000 then regsHWIN else
  if 0x2e0000 ≤ off ∧ off < 0x2f0000 then regsCORE else
  if 0x2f0000 ≤ off ∧ off < 0x300000 then regsCKP else
  if 0x10000000 ≤ off ∧ off < 0x12000000 then regsINSTP else
  []

/-- Word `off` (a multiple of four) belongs to this register: the index of the word within one copy. -/
def RegDesc.wordAt (r : RegDesc) (off : Nat) : Option Nat :=
  if off < r.off then none
  else
    let d := off - r.off
    let span := 4 * (if r.wide then 2 else r.words)
    let c := if r.count ≤ 1 then 0 else d / r.stride
    let e := d - c * r.stride
    if c < (if r.count ≤ 1 then 1 else r.count) ∧ e < span then some (e / 4) else none

/-- The descriptor of the register a word belongs to, with the word's index in it. -/
def findReg (off : Nat) : Option (RegDesc × Nat) :=
  (blockRegs off).findSome? (fun r => (r.wordAt off).map (fun w => (r, w)))

/-- The part of a field that lies in word `w` of its register: its place in the word, its width there, and the first
bit of the field it holds. -/
def FieldDesc.inWord (f : FieldDesc) (wide : Bool) (w : Nat) : Option (Nat × Nat × Nat) :=
  if wide then
    let lo := max f.lo (32 * w)
    let hi := min (f.lo + f.n) (32 * w + 32)
    if lo < hi then some (lo - 32 * w, hi - lo, lo - f.lo) else none
  else some (f.lo, f.n, 0)

/-- The reset value of a word: each field's reset value in its place, reserved bits zero (R5). -/
def RegDesc.resetWord (r : RegDesc) (w : Nat) : W32 :=
  BitVec.ofNat 32 (r.fields.foldl (fun v f =>
    match f.inWord r.wide w with
    | some (p, n, k) => bitsPut v p n (f.reset >>> k)
    | none => v) 0)

/-- The reset value of the word at an offset; a word of no register reads as zero (R326). -/
def regReset (off : Nat) : W32 :=
  match findReg off with
  | some (r, w) => r.resetWord w
  | none => 0

end Sys2Proof.Machine
end

