-- ==== Sys2Proof/Machine/Tab.lean ====
section
/-! DEFINITION. Sparse tables: a list of (key, value) pairs in one canonical form, keys strictly rising and no entry
equal to what an unlisted key reads as. The default may depend on the key (a register's reset value does). -/

namespace Sys2Proof.Machine

/-- A sparse table. -/
abbrev Tab (α : Type) := List (Nat × α)

/-- The value at a key; an unlisted key reads as the default of that key. -/
def Tab.get {α : Type} (d : Nat → α) : Tab α → Nat → α
  | [], k => d k
  | (k', v) :: t, k => if k' = k then v else Tab.get d t k

/-- Put a value in key order, replacing an entry of the same key. -/
def Tab.insert {α : Type} : Tab α → Nat → α → Tab α
  | [], k, v => [(k, v)]
  | (k', v') :: t, k, v =>
    if k < k' then (k, v) :: (k', v') :: t
    else if k = k' then (k, v) :: t
    else (k', v') :: Tab.insert t k v

/-- Drop every entry of a key. -/
def Tab.erase {α : Type} (t : Tab α) (k : Nat) : Tab α := t.filter (fun e => e.1 != k)

/-- Write a value: the entry goes away when the value is the default. -/
def Tab.set {α : Type} [DecidableEq α] (d : Nat → α) (t : Tab α) (k : Nat) (v : α) : Tab α :=
  if v = d k then Tab.erase t k else Tab.insert t k v

/-- Keys strictly rising, all above `lo`. -/
def Tab.rising {α : Type} : Nat → Tab α → Bool
  | _, [] => true
  | lo, (k, _) :: t => decide (lo ≤ k) && Tab.rising (k + 1) t

/-- The canonical form. -/
def Tab.wf {α : Type} [DecidableEq α] (d : Nat → α) (t : Tab α) : Bool :=
  Tab.rising 0 t && t.all (fun e => decide (e.2 ≠ d e.1))

/-- Keys present in the table (those whose value is not the default). -/
def Tab.keys {α : Type} (t : Tab α) : List Nat := t.map (·.1)

/-- Put a number in a rising list without repeats. -/
def insertKey (l : List Nat) (k : Nat) : List Nat :=
  match l with
  | [] => [k]
  | x :: xs => if k < x then k :: x :: xs else if k = x then x :: xs else x :: insertKey xs k

/-- Take a number out of a list. -/
def eraseKey (l : List Nat) (k : Nat) : List Nat := l.filter (fun x => x != k)

end Sys2Proof.Machine
end

