-- ==== Sys2Proof/Machine/State.lean ====
section
/-! DEFINITION. The machine state: registers, memories, queues, modes and pins, as plain data, and the reasons a step
can stop. -/

namespace Sys2Proof.Machine

/-- Why the machine stops with a fault. No command of this model does: the manual reports every error through a
completion, a status code, a register or the fault collector, and the machine goes on. The type has no constructor.
(Log entry 3: DESIGN CHOICE, safe.) -/
inductive Fault where
deriving DecidableEq, Repr

/-- Why a command has no meaning. (Log entry 3: DESIGN CHOICE, safe.) -/
inductive Refusal where
  /-- Raised by the dispatch for a row that is not modelled; safe: the machine stops where the hardware goes on. -/
  | notModelled (mnemonic : String)
deriving DecidableEq, Repr

/-- An access error a memory access can meet: none, an address error (R12), poisoned or uncorrected data (R59, R167),
or host memory that cannot be reached because Bus Master Enable is clear (R336). -/
inductive MemErr where
  | address | poison | uncorrected | hostDown
deriving DecidableEq, Repr

/-- The mark of one 64-bit word of scratchpad or HBM (R39, R59, R168). -/
inductive Mark where
  | clean | poisoned | corrected | uncorrected
deriving DecidableEq, Repr

/-- Something the block has sent to the outside: the model's own record of its outputs, oldest first. -/
inductive Output where
  /-- An MSI-X message: vector, message address, message data (R333). -/
  | msix (vector : Nat) (addr data : Nat)
  /-- A frame on a fabric or Ethernet port: class or priority, whether its cells carry ENC, bytes with the CRC. -/
  | frame (port tc : Nat) (enc : Bool) (bytes : List Byte)
  /-- A Damoa control cell on a port: kind and content (R191). -/
  | control (port kind : Nat) (content : Nat)
  /-- A transport packet or collective control message: connection or member, kind, fields. -/
  | packet (conn kind : Nat) (fields : List Nat) (data : List Byte)
  /-- A posted write to an accelerator or host address: address and bytes. -/
  | write (addr : Nat) (bytes : List Byte)
  /-- An NVMe command: backing (0 to 3 a drive port, 0x10 to 0x4F a remote controller), namespace, command (0 Flush,
  1 Write, 2 Read, 8 Write Zeroes, 9 Dataset Management, 0x18 Keep Alive), fields (first block, blocks, FUA), data. -/
  | nvme (backing nsid op : Nat) (fields : List Nat) (data : List Byte)
  /-- A PCIe or management message: kind and fields. -/
  | message (kind : Nat) (fields : List Nat)
  /-- What an HBM channel returns to a requester of a line: the arbiter line, the address, the data and its mark (R166). -/
  | data (line addr : Nat) (bytes : List Byte) (poison : Bool)
deriving DecidableEq, Repr


/-- The record of one event ring's owner-visible settings and indices (R375). -/
structure EventRing where
  addr : Nat
  log2n : Nat
  vector : Nat
  wr : Nat
  seq : Nat
  dropped : Nat
  held : List (List Byte)
deriving DecidableEq, Repr

/-- A session (R372, R373). -/
structure Session where
  id : W32
  lost : Bool
  renewed : Nat
  ring : Option EventRing
deriving DecidableEq, Repr

/-- An answer that waits to be written into a response area (R365, R366). -/
structure SynAns where
  opcode : Nat
  major : Nat
  minor : Nat
  tag : Nat
  inst : Nat
  status : Nat
  payload : List Byte
  ind : Option SynInd
deriving DecidableEq, Repr

/-- One mailbox: the request taken at GO, the answer to be written, and the session bound to it. -/
structure Mailbox where
  taken : List W32
  ans : Option SynAns
  session : Option Session
deriving DecidableEq, Repr

def Mailbox.reset : Mailbox := ⟨[], none, none⟩
/-- A descriptor issued and not yet completed (R44, R45): its ring index, the ring epoch it was fetched in, its 64
bytes, the unit queue it holds a slot of (0 front end, 1 matrix, 2 vector, 3 special-function, 4 and 5 movers), and,
once its operation has run or a check has failed, its status and its count of non-finite blocks. -/
structure Issued where
  ix : Nat
  epoch : Nat
  desc : List Byte
  unit : Nat
  entered : Bool
  result : Option (Nat × Nat)
deriving DecidableEq, Repr

/-- A command ring's hardware indices and fetched work (R42, R43, R491): `tail` is the tail named by the last doorbell,
`fetchIx` the oldest descriptor not yet fetched, `done` the completed indices not yet at the front. -/
structure Ring where
  tail : Nat
  fetchIx : Nat
  fetched : List (Nat × List Byte)
  fetchFail : Bool
  epoch : Nat
  issued : List Issued
  done : List Nat
deriving DecidableEq, Repr

def Ring.reset : Ring := ⟨0, 0, [], false, 0, [], []⟩

/-- One cluster's state beyond its registers (R53, R62): the VEC_RAND and conversion generator banks (64 lanes), and
the request held while MOVING is one (the TARGET it asks for). -/
structure Clu where
  randBank : Tab W32
  convBank : Tab W32
  held : Option Nat
deriving DecidableEq, Repr

def Clu.reset : Clu := ⟨[], [], none⟩
/-- One group of 64 physical flags: VALUE and OVERSET bits (R64, R65). -/
structure FlagGroup where
  value : W64
  overset : W64
deriving DecidableEq, Repr

def FlagGroup.zero : FlagGroup := ⟨0, 0⟩

/-- A cached translation: context, virtual group, and the entry's right bits and group (R67, R69). -/
structure FlagXlat where
  ctx : Nat
  vgroup : Nat
  wr : Bool
  sr : Bool
  remote : Bool
  pgroup : Nat
deriving DecidableEq, Repr

/-- A wait or wait-and-clear held at flag storage (R65, R74): who waits, the flag, whether it consumes, draws lost. -/
structure FlagWaiter where
  who : Nat
  pflag : Nat
  consume : Bool
  lost : Nat
deriving DecidableEq, Repr

/-- A barrier entry (R75, R76): the participant (clusters 0 to 1,023, engines from 1,024), the parity it was counted
for once taken, and the draws it has lost. -/
structure BarEntry where
  who : Nat
  parity : Option Nat
  lost : Nat
  desc : Nat
deriving DecidableEq, Repr

/-- Flag translation and storage state beyond the registers (04_flags_and_barriers.md): groups of flags, their check
bits, the nine caches, held waits, barrier entries, the waits that have passed, the invalidation in progress, and the
WAIT_FLAGs translated at the head of issue as (cluster, ring index, ring epoch, physical flag) (R44, R69). -/
structure Flags where
  groups : Tab FlagGroup
  ecc : Tab Mark
  caches : Tab (List FlagXlat)
  waiters : List FlagWaiter
  entries : Tab (List BarEntry)
  passed : List (Nat × Nat)
  inval : Option (Option Nat)
  xlated : List (Nat × Nat × Nat × Nat)
deriving DecidableEq, Repr

def Flags.reset : Flags := ⟨[], [], [], [], [], [], none, []⟩
/-- A slot list on die with its takeover time T (R107). Entries are the 8-byte words of R104. -/
structure SlotList where
  entries : List Nat
  t : Nat
deriving DecidableEq, Repr

/-- An active collective operation (R86 to R98, R110): its queue, ring index and ring epoch, the 64-byte descriptor, the
activation time, window positions consumed and set, sends started and reported as (phase, rank), arrivals as (phase,
rank), results written (hub), rows sent and dropped, local work done, and, once aborted, the status and the time the
drain began. -/
structure ColOp where
  queue : Nat
  ix : Nat
  epoch : Nat
  desc : List Byte
  at_ : Nat
  consumed : List Nat
  set_ : List Nat
  sent : List (Nat × Nat)
  done : List (Nat × Nat)
  arrived : List (Nat × Nat)
  dropped : Nat
  localDone : Bool
  turn : Nat
  abort : Option (Nat × Nat)
deriving DecidableEq, Repr

/-- A loaded group (R80, R82): record and member entries on die, the queue it is bound to (R86), READYs held as (rank,
SEQ), the SEQ of the active or last operation, and the active operation. -/
structure ColGroup where
  rec_ : List Byte
  members : List Nat
  bound : Option Nat
  readys : List (Nat × Nat)
  seq : Option Nat
  op : Option ColOp
deriving DecidableEq, Repr

/-- The collectives engine beyond its registers (R80 to R112): slot lists, loaded groups by number, the group
operation in progress (OP, GROUP), the slot list that the active one replaced, the slot boundary at which sending resumes after
a loss of qualification (R109), and the activation times of the descriptors not yet complete (queue, index, epoch, time). -/
structure Col where
  slotActive : Option SlotList
  slotPending : Option SlotList
  groups : List (Nat × ColGroup)
  loading : Option (Nat × Nat)
  slotPrior : Option SlotList
  resumeAt : Nat
  begun : List (Nat × Nat × Nat × Nat)
deriving DecidableEq, Repr

def Col.reset : Col := ⟨none, none, [], none, none, 0, []⟩
/-- A job of the key/value tier engine (R127): its record's fields, whether it fills a set for a resume, the decoded bytes
of a push, and whether it stands in the job ring or has failed. -/
structure KvJob where
  id : Nat
  kind : Nat
  shard : Nat
  port : Nat
  stream : Nat
  gen : Nat
  cls : Nat
  dcls : Nat
  set_ : Nat
  setIx : Nat
  first : Nat
  count : Nat
  slot : Nat
  slotRow : Nat
  deadline : Nat
  from_ : Nat
  to_ : Nat
  fill : Bool
  bytes : Nat
  posted : Bool
  failed : Bool
deriving DecidableEq, Repr

/-- The key/value tier engine beyond its registers (R114 to R139): cached stream contexts, the classes of the streams that
are not FREE, jobs not yet done (oldest first), loaded port profiles, slot maps by (port, ASI, group), ASIs in use by
(port, ASI), streams short of slots, streams whose RELEASE jobs are posted, layer deadlines of the resumes, and the
layers counted late. -/
structure Kv where
  cache : Tab (List Byte)
  opened : List (Nat × Nat)
  jobs : List KvJob
  nextId : Nat
  profiles : List (Nat × List Byte)
  map : List (Nat × Nat)
  asis : List (Nat × Nat)
  short : List Nat
  releasing : List Nat
  deadlines : List (Nat × List Nat)
  late : List (Nat × Nat)
deriving DecidableEq, Repr

def Kv.reset : Kv := ⟨[], [], [], 0, [], [], [], [], [], [], []⟩
/-- The controls of a stream that a draft latches (R150), and a candidate list with FP32 weights as bits. -/
structure ElCtl where
  temp : Nat
  topk : Nat
  topp : Nat
  repPen : Nat
  presPen : Nat
  freqPen : Nat
  repWin : Nat
  greedy : Bool
deriving DecidableEq, Repr

/-- An attached stream (R140 to R163): cohort, pool places, the first position its draft cache holds, the prefill inputs it
waits to launch, whether it leaves after its step, the latched controls, the draft tokens and their distributions. -/
structure ElStream where
  stream : Nat
  cohort : Nat
  dslot : Nat
  hslot : Nat
  dfirst : Nat
  prefill : List Nat
  leaving : Bool
  ctl : Option ElCtl
  drafts : List Nat
  qs : List (List (Nat × Nat))
deriving DecidableEq, Repr

/-- One launch entry (R141): `plen` is zero for a decode entry. -/
structure ElEntry where
  stream : Nat
  gen : Nat
  asi : Nat
  pos : Nat
  tokens : List Nat
  plen : Nat
  ctl : ElCtl
  qs : List (List (Nat × Nat))
deriving DecidableEq, Repr

/-- A validated tail: its pairs (token, logit) and LOGNORM, none when it is invalid (R145). -/
structure ElTail where
  pairs : List (Nat × Nat)
  lognorm : Nat
deriving DecidableEq, Repr

/-- A launch (R142 to R145): the tails read, per Eland port, by entry and position. -/
structure ElLaunch where
  step : Nat
  prefill : Bool
  start : Nat
  entries : List ElEntry
  tails : List (Nat × List (List (Option ElTail)))
  expired : Bool
  sampled : Bool
deriving DecidableEq, Repr

/-- A staged token record (R152): its checkpoint step, stream, channel and bytes, and how the stream ends with it; and
what a rollback of the step brings back: the context and the history ring before it, and the inputs of a prefill
entry. -/
structure ElRecord where
  cstep : Nat
  stream : Nat
  chan : Nat
  bytes : List Byte
  endReason : Nat
  before : List Byte
  ring : List Byte
  inputs : List Nat
deriving DecidableEq, Repr

/-- Eland (07_eland_draft_and_sampling.md): configuration, port records, the loaded draft header and D, attached streams
in order of attachment, the next step and the launch of each cohort, staged records, the counters of SYN_ELAND_STATS,
since when no stream has been attached, the step from which each cohort may prefill again, and token advances that wait
for room in the done ring (stream, tokens, GEN). -/
structure Eland where
  configured : Bool
  period : Nat
  t0 : Nat
  lead : Nat
  limit : Nat
  vocab : Nat
  dBase : Nat
  dCount : Nat
  hBase : Nat
  hCount : Nat
  ports : List (Nat × List Byte)
  draft : Option (List Byte × Nat)
  streams : List ElStream
  steps : List Nat
  launches : List (Nat × ElLaunch)
  staged : List ElRecord
  stats : List Nat
  idleSince : Nat
  prefillFrom : List Nat
  advances : List (Nat × Nat × Nat)
deriving DecidableEq, Repr

/-- The first step of each cohort is the one whose CSTEP follows the marks of reset: 1 for O, 2 for E. (Log entry
302: DESIGN CHOICE, unsafe.) -/
def Eland.reset : Eland :=
  ⟨false, 0, 0, 200000, 1000000, 0, 0, 0, 0, 0, [], none, [], [1, 0], [], [], [0, 0, 0, 0, 0, 0, 0, 0], 0, [0, 0], []⟩

/-- A set of arbiter tickets, quotas and the class map (R178, R180): (tickets, quota) of lines 0 to 7, and the line of
each of the 64 classes. -/
structure ArbSet where
  lines : List (Nat × Nat)
  classes : List Nat
deriving DecidableEq, Repr

/-- One channel and its arbiter (R169, R170, R178, R179): grants per line in this window, frozen, drained, refresh debt,
arbitration cycles of this window, the next line to scrub and when the scrub period began (fabric-clock cycles). -/
structure Chan where
  used : Tab Nat
  frozen : Bool
  drained : Bool
  debt : Nat
  cycles : Nat
  scrub : Nat
  scrubAt : Nat
deriving DecidableEq, Repr

def Chan.reset : Chan := ⟨[], false, false, 0, 0, 0, 0⟩

/-- A request that waits at its channel's arbiter (R177): its line, its address, the bytes to write, none for a read of
`len` bytes of a line, whether they are poisoned, and whether it is a scrub read. -/
structure HbmReq where
  line : Nat
  addr : Nat
  len : Nat
  data : Option (List Byte)
  poison : Bool
  scrub : Bool
deriving DecidableEq, Repr

/-- The default ticket sets of R182. -/
def modeSet : Nat → List (Nat × Nat)
  | 0 => [(128, 0), (64, 0), (96, 0), (48, 0), (64, 128), (32, 0), (32, 0), (32, 64)]
  | 1 => [(96, 0), (64, 0), (160, 0), (32, 0), (64, 128), (32, 0), (32, 0), (32, 64)]
  | 2 => [(64, 0), (128, 0), (64, 0), (128, 0), (64, 64), (32, 0), (32, 0), (32, 128)]
  | _ => [(32, 0), (32, 0), (32, 0), (32, 0), (32, 0), (32, 0), (32, 0), (32, 64)]

def ArbSet.reset : ArbSet := ⟨modeSet 3, List.replicate 64 5⟩

/-- HBM and its arbiters beyond their registers (R164 to R182): the active set, a committed set and the channels that
have not yet taken it, grants by line, stacks that have reported 105 °C or stand at 95 °C for the governor, when the
last stack trained (fabric-clock cycles), the requests that wait at the arbiters in order of arrival, the stacks in
self-refresh by bit, and the product mode firmware has selected and the one it wants (none before the first). -/
structure Hbm where
  active : ArbSet
  next : Option ArbSet
  waiting : List Nat
  chans : Tab Chan
  grants : Tab Nat
  hot105 : List Nat
  hot95 : List Nat
  trainedAt : Nat
  queue : List HbmReq
  sr : Nat
  mode : Option Nat
  want : Option Nat
deriving DecidableEq, Repr

def Hbm.reset : Hbm := ⟨ArbSet.reset, none, [], [], [], [], [], 0, [], 0, none, none⟩

/-- What the peer's CAPS says (R192, R196). -/
structure Caps where
  eightLane : Bool
  enc : Bool
  node : Nat
  port : Nat
deriving DecidableEq, Repr

/-- A frame in progress on reception: its bytes so far, its cells, and whether it is already to be discarded. -/
structure RxFrame where
  enc : Bool
  bytes : List Byte
  cells : Nat
  bad : Bool
deriving DecidableEq, Repr

/-- A lane map announced and not yet in force (R197). -/
structure NewMap where
  mapId : Nat
  lanes : List Nat
  switchSeq : Nat
  sentAt : Nat
  echoed : Bool
deriving DecidableEq, Repr

/-- One lane's codeword lock counters (R186, R197): correct codewords in a row, bad ones in a row, the most uncorrectable
ones that any 1 ms has shown, the times of those in the last millisecond, and when lock was lost. -/
structure LaneRx where
  good : Nat
  bad : Nat
  ucw : Nat
  ucwTimes : List Nat
  lostAt : Nat
deriving DecidableEq, Repr

def LaneRx.reset : LaneRx := ⟨0, 0, 0, [], 0⟩

/-- The transmitter of a Damoa port (R186 to R191): control cells due, the cells not yet sent of the frame in progress of
each class, the class of 0 to 6 served last, and what has gone out on the lanes: (lane, CCW, ten cells) per codeword. -/
structure TxStream where
  due : List (List Byte)
  frames : List (Nat × List (List Byte))
  turn : Nat
  line : List (Nat × Nat × List (List Byte))
deriving DecidableEq, Repr

def TxStream.reset : TxStream := ⟨[], [], 6, []⟩

/-- One fabric port beyond its registers (R187 to R206). Class lists run from class 0 to 7. `map` gives the physical lane
(0 to 7, 8 the spare) of each working position; `granted` the peer's grants, `sent` cells sent, `grants` the cumulative
grants given, `freed` cells freed since the last CREDIT; `rx` frames in progress;
`rxq` frames received and not yet taken (class, content, cells), `stalled` frames that wait for a key slot's pending load; `skew` codewords waiting for their group (SEQ, position, cells,
uncorrectable); `txPn` the next PN; `rxPn` the last PN accepted per AN; `paused` and `pausedSince` per priority, in
fabric-clock cycles; `pfc` priorities PFC is asserted for; `retrain` failed lanes still to be retrained; `trainAt` when
training began; `rr` the connection served last (R217); `tx` the transmitter. -/
structure FPort where
  lastPeer : Option (Nat × Nat)
  caps : Option Caps
  mismatches : Nat
  map : List Nat
  newMap : Option NewMap
  granted : List Nat
  sent : List Nat
  grants : List Nat
  freed : List Nat
  creditAt : Nat
  rx : List (Nat × RxFrame)
  rxq : List (Nat × List Byte × Nat)
  stalled : List (Nat × List Byte × Nat)
  skew : List (Nat × Nat × List (List Byte) × Bool)
  txPn : Nat
  rxPn : List Nat
  paused : List Nat
  pausedSince : List Nat
  pfc : List Nat
  pfcAt : Nat
  retrain : List Nat
  downAt : Nat
  trainAt : Nat
  rr : Nat
  tx : TxStream
deriving DecidableEq, Repr

def FPort.reset : FPort :=
  ⟨none, none, 0, [], none, List.replicate 8 0, List.replicate 8 0, List.replicate 8 0,
    List.replicate 8 0, 0, [], [], [], [], 1, [0, 0, 0, 0], List.replicate 8 0, List.replicate 8 0, [], 0, [], 0, 0, 0,
    TxStream.reset⟩
/-- Who asked for a transport message (R215): the firmware ring at an index and epoch, an instance's transport queue at
an index and instance generation, or an internal requester by its CONSUMER number (1 collectives, 2 storage, 3 checkpoint, 6 Eland). -/
inductive MsgOwner where
  | ring (ix epoch : Nat)
  | queue (q ix gen : Nat)
  | internal (who : Nat)
deriving DecidableEq, Repr

/-- A message request as taken (R215), with what the sender keeps of it; `inl` is data that an internal
requester hands over with the request in place of LOCAL. -/
structure Msg where
  owner : MsgOwner
  req : List Byte
  msn : Nat
  got : Nat
  poison : Bool
  inl : List Byte
deriving DecidableEq, Repr

/-- Something that holds PSNs of a connection until acknowledged: a message's packets, or a READ's response packets
served for the peer (R225): kind 0 WRITE, 1 READ_REQ, 2 READ_RESP, 3 SEND. `src` is the address its data is read from, `req` the
message request, `skip` the packets of the message that other items before it hold, `inst` the instance whose memory the data
is read from. -/
structure TxItem where
  kind : Nat
  psn : Nat
  count : Nat
  msn : Nat
  src : Nat
  total : Nat
  req : List Byte
  inl : List Byte
  skip : Nat
  inst : Option Nat
deriving DecidableEq, Repr

/-- An inbound message entry (R210), with the operation and the consumer header of a SEND. -/
structure RxMsg where
  msn : Nat
  total : Nat
  received : Nat
  signal : Nat
  sig : Bool
  poison : Bool
  failed : Bool
  send : Bool
  chdr : Option (List Byte)
deriving DecidableEq, Repr

/-- A packet the engine sends: the fields of the transport header (R214), the consumer header and the data. -/
structure OutPkt where
  opc : Nat
  flags : Nat
  psn : Nat
  msn : Nat
  offset : Nat
  total : Nat
  mkey : Nat
  signal : Nat
  raddr : Nat
  chdr : List Byte
  data : List Byte
deriving DecidableEq, Repr

/-- A connection context (R210), with the request queue, outstanding messages and timers the engine keeps beside it. A
reserved buffer is (MSN, BUF_ID or slot, address). `ctl` holds ACKs and NAKs to be sent, `rr` the port last used, `sndTop` the
PSN after the highest ever sent, `sndTable` and `roceAt` where the engine keeps SND_TABLE and the address record.
Times are fabric-clock cycles. -/
structure Conn where
  state : Nat
  roce : Bool
  consumer : Nat
  tc : Nat
  pmtu : Nat
  retry : Nat
  fctx : Nat
  domain : Nat
  status0 : Nat
  peerConn : Nat
  portmask : Nat
  peerAddr : Nat
  sndNxt : Nat
  sndUna : Nat
  sndMsn : Nat
  sndDone : Nat
  creditMsn : Nat
  rcvEpsn : Nat
  rcvMsn : Nat
  lastUse : Nat
  rcvMap : Nat
  rx : List RxMsg
  rxDone : List Nat
  roceAddr : List Byte
  rxq : Nat
  inst : Option Nat
  waiting : List Msg
  active : List Msg
  tx : List TxItem
  reserved : List (Nat × Nat × Nat)
  path : Nat
  rtoAt : Nat
  holeAt : Option Nat
  unacked : Nat
  ackAt : Option Nat
  rnrAt : Option (Nat × Nat)
  ctl : List OutPkt
  rr : Nat
  sndTop : Nat
  sndTable : Nat
  roceAt : Nat
deriving DecidableEq, Repr

def Conn.reset : Conn :=
  ⟨0, false, 0, 0, 0, 0, 0, 0, 0, 0, 0, 0, 0, 0, 0, 0, 0, 0, 0, 0, 0, [], [], [], 0, none, [], [], [], [], 0, 0, none, 0,
    none, none, [], 0, 0, 0, 0⟩

/-- One active peer window (R229). -/
structure PeerWin where
  target : Nat
  en : Bool
  log2 : Nat
  rights : Nat
deriving DecidableEq, Repr

def PeerWin.off : PeerWin := ⟨0, false, 0, 0⟩

/-- A SEND message for a consumer inside the device: its parts as (offset, bytes), whether it is complete, and, part by part,
the consumer header and the poison mark of the packet that brought it. -/
structure Inbound where
  consumer : Nat
  conn : Nat
  msn : Nat
  chdr : Option (List Byte)
  total : Nat
  parts : List (Nat × List Byte)
  poison : Bool
  complete : Bool
  heads : List (Option (List Byte) × Bool)
deriving DecidableEq, Repr

/-- The transport engine beyond its registers (R209 to R238): connections, the order of use of the cached contexts (most
recent first), packets in the miss queues (OPC, DONE, packet), active peer windows, cached memory keys (INDEX, entry), data
handed to internal consumers, results of internal requests (who, TAG, status, bytes, connection), the firmware receive ring's slots (index, complete), request-ring
completions that wait for room (connection, owner, TAG, STATUS, BYTES), a memory key invalidation in progress, the (port,
class) pairs whose receive buffer has stopped draining (R213), and buffers or slots that a connection reserved and gave back
(receive queue + 1 or zero for the firmware ring, BUF_ID or slot, address). -/
structure Trn where
  conns : Tab Conn
  cached : List Nat
  miss : List (Nat × Bool × TrnPkt)
  peer : Tab PeerWin
  keys : List (Nat × List Byte)
  inbox : List Inbound
  results : List (Nat × Nat × Nat × Nat × Nat)
  slots : List (Nat × Bool)
  owed : List (Nat × MsgOwner × Nat × Nat × Nat)
  keyInval : Option (Option Nat)
  stopped : List (Nat × Nat)
  unused : List (Nat × Nat × Nat)
deriving DecidableEq, Repr

def Trn.reset : Trn := ⟨[], [], [], [], [], [], [], [], [], none, [], []⟩
/-- One gate entry (R251): interval in ns, open gates. -/
structure GateEntry where
  interval : Nat
  gates : Nat
deriving DecidableEq, Repr

/-- A gate list on die with its takeover time T (R252). -/
structure GateList where
  entries : List GateEntry
  t : Nat
deriving DecidableEq, Repr

/-- A shaper or policer configuration (R255, R256, R258). -/
structure BucketCfg where
  en : Bool
  rate : Nat
  burst : Nat
  period : Nat
  action : Nat
  exceedTc : Nat
deriving DecidableEq, Repr

/-- A token bucket: configuration in force, tokens, and the configuration that waits for its next refill. -/
structure Bucket where
  cfg : BucketCfg
  tokens : Nat
  next : Option BucketCfg
  lastAt : Nat
deriving DecidableEq, Repr

def BucketCfg.reset : BucketCfg := ⟨false, 0, 1, 0, 0, 0⟩
def Bucket.reset : Bucket := ⟨BucketCfg.reset, 0, none, 0⟩

/-- The time unit (R239 to R250) beyond its registers. `acc` is the 96-bit accumulator, `freq8` is F in eighths of a
ppb; `errs` are |e| of the last accepted pulses, newest first; times are in fabric-clock cycles. -/
structure TimeUnit where
  acc : Nat
  incr : Nat
  latchHi : W32
  freq8 : Int
  lastAccept : Option Nat
  errs : List Nat
  good : Nat
  rejRun : Nat
  pulseEnd : Option Nat
  gateActive : Tab (Option GateList)
  gatePending : Tab (Option GateList)
  shapers : Tab Bucket
  policers : Tab Bucket
deriving DecidableEq, Repr

/-- The nominal INCR of R239: 6.4 ns in units of 2^-32 ns. -/
def nominalIncr : Nat := 0x666666666

def TimeUnit.reset : TimeUnit := ⟨0, nominalIncr, 0, 0, none, [], 0, 0, none, [], [], [], []⟩
/-- A bank on die (R263, R264): header and the records of its sections. -/
structure PktBank where
  head : List Byte
  nodes : List (List Byte)
  tables : List (List Byte)
  pats : List (List Byte)
  tern : List (List Byte)
  lists : List (List Byte)
  chans : List (List Byte)
  temps : List (List Byte)
deriving DecidableEq, Repr

/-- A received frame in the pipeline: content without FCS and MACsec, received bytes, metadata FLAGS, the bank it was
parsed under, and since when it waits for its receive queue (fabric-clock cycles). -/
structure PktFrame where
  port : Nat
  prio : Nat
  bytes : List Byte
  len : Nat
  flags : Nat
  bank : Nat
  waiting : Option Nat
deriving DecidableEq, Repr

/-- A fragment table entry (R274, R275): its datagram key, the stored outcome (words, DEST word, priority, policer,
counters), bytes received, end offset once known, time of the last match. -/
structure FragEntry where
  key : List Byte
  words : List Nat
  dest : Nat
  prio : Option Nat
  police : Option Nat
  counts : List Nat
  got : Nat
  fin : Option Nat
  last : Nat
deriving DecidableEq, Repr

/-- A source's frame for a transmit channel; `record` marks an Eland token record (R276, R459). -/
structure SrcFrame where
  chan : Nat
  record : Bool
  bytes : List Byte
deriving DecidableEq, Repr

/-- A frame past the channel stage: port, priority, its shaper, whether it holds its token (R255, R276). -/
structure TxFrame where
  src : SrcFrame
  port : Nat
  prio : Nat
  shaper : Option Nat
  token : Bool
  bytes : List Byte
deriving DecidableEq, Repr

/-- A MACsec SA (R277): key slot, SSCI, salt, next PN and lowest acceptable PN. -/
structure MsecSa where
  slot : Nat
  ssci : Nat
  salt : List Byte
  next : Nat
  low : Nat
deriving DecidableEq, Repr

/-- The SecY of a port (R277): receive SAs by (SCI, AN), the transmit SCI, transmit SAs by AN. -/
structure MsecPort where
  rx : List (Nat × Nat × MsecSa)
  sci : Nat
  tx : List (Nat × MsecSa)
deriving DecidableEq, Repr

def MsecPort.reset : MsecPort := ⟨[], 0, []⟩

/-- The packet pipeline beyond its registers: the two banks, the bank image being copied, cached exact entries by (bank,
table, entry), received frames in order, the fragment table, held fragments with the time they came, and frames past
the channel stage. -/
structure Pkt where
  banks : List (Option PktBank)
  swap : Option PktBank
  cache : List ((Nat × Nat × Nat) × List Byte)
  queue : List PktFrame
  frags : List FragEntry
  held : List (Nat × PktFrame)
  tx : List TxFrame
  msec : Tab MsecPort
deriving DecidableEq, Repr

def Pkt.reset : Pkt := ⟨[none, none], none, [], [], [], [], [], []⟩
/-- State of a storage queue pair that exists (R290); a DISABLED pair is not listed. -/
inductive StoState where
  | active | frozen | quiesced | paused
deriving DecidableEq, Repr

/-- One error log entry (R290). -/
structure StoErr where
  seq : Nat
  cid : Nat
  status : Nat
  volume : Nat
  lba : Nat
  blocks : Nat
  backing : Nat
  nvme : Nat
  time : Nat
deriving DecidableEq, Repr

/-- A storage queue pair (R284, R285, R288, R290). Indices are 16 bits; `prior` is the state a QUIESCED queue returns
to; `wrote` lists the namespaces (backing, NSID) the queue wrote, with the stamp of the latest write; `pend` and
`pendAt` count the completion entries not yet signalled and hold when the first was written. -/
structure StoQ where
  inst : Nat
  localIx : Nat
  sq : Nat
  cq : Nat
  log2n : Nat
  vector : Nat
  coalCount : Nat
  coalUs : Nat
  tickets : Nat
  maxinfl : Nat
  state : StoState
  prior : StoState
  deleting : Option SynReq
  tail : Nat
  head : Nat
  cqTail : Nat
  cqHead : Nat
  pend : Nat
  pendAt : Nat
  owed : List (List Byte)
  errSeq : Nat
  errs : List StoErr
  wrote : List (Nat × Nat × Nat)
deriving DecidableEq, Repr

/-- Where a fetched storage command stands. -/
inductive StoPhase where
  | waiting | running | moved
deriving DecidableEq, Repr

/-- One part of a command on a backing: part number, backing, NSID, first block of the command's range, blocks. -/
structure StoPart where
  n : Nat
  backing : Nat
  nsid : Nat
  off : Nat
  blocks : Nat
deriving DecidableEq, Repr

/-- A fetched storage command: its number in fetch order, its queue with the instance and generation it was fetched
under, the entry's fields, whether its range-lock entry is held, its parts outstanding, the writes a FLUSH waits for,
whether one of them or of its Flushes failed, and the key slot it holds a reference on. -/
structure StoCmd where
  id : Nat
  q : Nat
  inst : Nat
  gen : Nat
  sqhd : Nat
  cid : Nat
  op : Nat
  fua : Bool
  dlist : Bool
  volume : Nat
  lba : Nat
  blocks : Nat
  dptr : Nat
  nseg : Nat
  lock : Bool
  phase : StoPhase
  status : Nat
  nvme : Nat
  backing : Nat
  parts : List StoPart
  segs : List (Nat × Nat)
  waits : List Nat
  bad : Bool
  stamp : Nat
  hostDown : Bool
  slot : Option Nat
deriving DecidableEq, Repr

/-- A backing (R296, R297): ready, volatile write cache, largest transfer in blocks, its namespaces (NSID, blocks,
formatted by R283 and attached), connections of a remote controller, when the last Keep Alive went, and the
SYN_STO_TARGET_CONNECT request that waits with the time it started. -/
structure Backing where
  ready : Bool
  vwc : Bool
  mdts : Nat
  nss : List (Nat × Nat × Bool)
  conns : List Nat
  kaAt : Nat
  connecting : Option (SynReq × Nat)
deriving DecidableEq, Repr

def Backing.reset : Backing := ⟨false, false, 1, [], [], 0, none⟩

/-- A volume change that waits (R283): the volume, its new record, the number of the first command it does not wait
for, the request and its opcode. -/
structure VolChange where
  volume : Nat
  record : List Byte
  barrier : Nat
  req : SynReq
  opcode : Nat
deriving DecidableEq, Repr

/-- The storage block beyond its registers (13_storage_queues.md). -/
structure Sto where
  queues : List (Nat × StoQ)
  cmds : List StoCmd
  nextCmd : Nat
  stamp : Nat
  backings : Tab Backing
  changes : List VolChange
deriving DecidableEq, Repr

def Sto.reset : Sto := ⟨[], [], 0, 0, [], []⟩
/-- One key slot (R305). TYPE 0 is EMPTY. -/
structure KeySlot where
  type : Nat
  owner : Nat
  wrappable : Bool
  gen : Nat
  key : List Byte
deriving DecidableEq, Repr

def KeySlot.reset : KeySlot := ⟨0, 0x7FF, false, 0, []⟩

/-- A load or clear that waits for a slot's references (R309): the slot it will write, and the request that waits. -/
structure PendingKey where
  slot : Nat
  load : KeySlot
  req : SynReq
  opcode : Nat
  waitMs : Nat
  since : Nat
deriving DecidableEq, Repr

/-- A SYN_KEY_UNWRAP or SYN_KEY_WRAP that stalls because its WRAP slot has a load pending (R309). -/
structure KeyUse where
  unwrap : Bool
  slot : Nat
  wrap : Nat
  owner : Nat
  wrappable : Bool
  blob : List Byte
  waitMs : Nat
  req : SynReq
deriving DecidableEq, Repr

/-- One event log record (R316). -/
structure LogRec where
  index : Nat
  tag : Nat
  digest : List Byte
  time : Nat
deriving DecidableEq, Repr

/-- A waiting attestation request (R317): NONCE, USERDATA and the request that waits. -/
structure AttestReq where
  nonce : List Byte
  userdata : List Byte
  req : SynReq
deriving DecidableEq, Repr

/-- A message that runs in the message engine (R313, R314): its ring index and epoch (none for an internal message),
its descriptor, how often it was suspended, its status as its input gave it, its output blocks with their poison marks,
and whether a function-level reset silenced it. -/
structure SecMsg where
  index : Option (Nat × Nat)
  desc : List Byte
  suspends : Nat
  status : Nat
  out : List (List Byte × Bool)
  silent : Bool
deriving DecidableEq, Repr

/-- The security subsystem's state beyond its registers (14_security_and_keys.md). -/
structure Sec where
  slots : Tab KeySlot
  pendingKeys : List PendingKey
  keyUses : List KeyUse
  seed : List Byte
  identity : List Byte
  mr : Tab (List Byte)
  log : List LogRec
  logTrunc : Bool
  attest : List AttestReq
  signing : Option (List Byte × SynReq)
  seq : Nat
  bootId : List Byte
  challenge : Option (List Byte)
  current : Option SecMsg
  suspended : Option SecMsg
  reseedAt : Nat
deriving DecidableEq, Repr

def Sec.reset : Sec :=
  ⟨[], [], [], [], [], [], [], false, [], none, 0, [], none, none, none, 0⟩

/-- A measurement register at full reset: 64 zero bytes (R316). -/
def mrZero : Nat → List Byte := fun _ => List.replicate 64 0
/-- One active aperture window (R327, R328). -/
structure Aperture where
  target : Nat
  en : Bool
  rights : Nat
  log2 : Nat
deriving DecidableEq, Repr

def Aperture.off : Aperture := ⟨0, false, 0, 0⟩

/-- One entry of the active host window table (R329). -/
structure HWin where
  hostAddr : Nat
  pasid : Nat
  pv : Bool
  ns : Bool
  en : Bool
  rd : Bool
  wr : Bool
  log2 : Nat
deriving DecidableEq, Repr

def HWin.off : HWin := ⟨0, 0, false, false, false, false, false, 0⟩

/-- Link states of the host link. -/
inductive LinkState where
  | detect | l0 | l1 | l2
deriving DecidableEq, Repr

/-- A queued Invalidation Request whose entries are removed and whose completion is owed (R332): PASID key (PASID + 1,
0 for none), first page, pages, requester tag. -/
structure Inval where
  pasidKey : Nat
  page : Nat
  pages : Nat
  itag : Nat
deriving DecidableEq, Repr

/-- The host endpoint's own state (R324 to R341). `cfg` holds the configuration space words; `hwinNext` the host window
table being copied; `atc` the cached translations (PASID key, page, bus page); `retired` the retired read tags with the
time they were retired; `vecDue` the vectors whose message may be sent. -/
structure HostIf where
  cfg : Tab W32
  cfgReady : Bool
  linkUp : Bool
  link : LinkState
  winActive : Tab Aperture
  hwin : Tab HWin
  hwinNext : Option (Tab HWin)
  atc : List (Nat × Nat × Nat)
  invalidations : Nat
  inval : List Inval
  retired : List (Nat × Nat)
  vecDue : List Nat
  flrBusy : Bool
deriving DecidableEq, Repr

def HostIf.reset : HostIf :=
  ⟨[], false, false, .detect, [], [], none, [], 0, [], [], [], false⟩
/-- Instance states (R346). -/
inductive InstState where
  | free | configured | enabled | quiesced | resetting
deriving DecidableEq, Repr

/-- A completion the device holds for a queue (R355), or one waiting for room: its bytes and the vector to send. -/
structure HeldCpl where
  bytes : List Byte
deriving DecidableEq, Repr

/-- A receive, transmit or transport queue of an instance (R349 to R352). Indices are 16 bits. A `frozen`
queue fetches nothing; a `mute` one (frozen by an overrun) completes nothing either; `deleting` is a delete that waits;
`qtoken` is a token of the queue's shaper that its next frame holds. -/
structure IQueue where
  kind : QKind
  inst : Nat
  localIx : Nat
  ring : Nat
  cplRing : Nat
  log2n : Nat
  vector : Nat
  buflen : Nat
  channel : Nat
  qshaper : Nat
  qshEn : Bool
  qtoken : Bool
  tail : Nat
  head : Nat
  cplTail : Nat
  cplHead : Nat
  frozen : Bool
  mute : Bool
  deleting : Option SynReq
  outstanding : Nat
  owed : List HeldCpl
deriving DecidableEq, Repr

/-- One virtual instance (R343). STATE, GEN, EVENT and STRAY are kept here; INSTP_STATUS shows them. -/
structure Inst where
  state : InstState
  session : W32
  pasid : Nat
  gen : Nat
  vecFirst : Nat
  vecCount : Nat
  maxq : List Nat
  event : Bool
  stray : Nat
  late : Nat
  vecPending : List Nat
deriving DecidableEq, Repr

def Inst.reset : Inst := ⟨.free, 0, 0, 0, 0, 0, [], false, 0, 0, []⟩
/-- A configuration image body (R359) with its version; the digest is SHAKE256 of header and body. -/
structure CfgImage where
  version : Nat
  mode : Nat
  subsys : Nat
  withdraw : Nat
  ndebug : Nat
  spillMib : Nat
  debugDigests : List (List Byte)
  digest : List Byte
deriving DecidableEq, Repr

/-- The flash (R358): the two configuration copies as stored bytes, helper data and certificate area. -/
structure Flash where
  cfgA : List Byte
  cfgB : List Byte
  helper : List Byte
  cert : List Byte
deriving DecidableEq, Repr

/-- A verified firmware package (R359): the header fields that later rules use, and the digests measured. -/
structure FwPackage where
  version : Nat
  syncen : Nat
  handoffMin : Nat
  handoffMax : Nat
  handoffVer : Nat
  tsDigest : List Byte
  imgDigest : List Byte
deriving DecidableEq, Repr

/-- Firmware load and update state (R362, R380, R381): `half` is the control memory half of the running image. -/
structure Fw where
  cfg : CfgImage
  running : Option FwPackage
  staged : Option FwPackage
  activating : Bool
  activateAt : Nat
  switched : List Nat
  half : Nat
  spill : List (Nat × Nat)
deriving DecidableEq, Repr

/-- Watchdog and service state of a core beyond its CORE registers (R377 to R379). -/
structure CoreSvc where
  lastKick : Nat
  lastExpiry : Option Nat
  recent : List Nat
deriving DecidableEq, Repr

def CoreSvc.reset : CoreSvc := ⟨0, none, []⟩

/-- The defaults of R360. -/
def CfgImage.default : CfgImage := ⟨0, 3, 1, 0, 0, 1, [], []⟩
/-- A Tahr core's architectural state (R385 to R401). General registers g1 to g31 are listed, g0 reads zero; `timer`
holds TIMER at the fabric-clock cycle `timerAt`; `half` is the control memory half it runs in; `started` says it has started at
address 0 since it was last held in reset (R386), `startedAt` when; `waiting` is in WFE, `stopped` after a double fault, `halted` for the debugger. -/
structure Tahr where
  g : Tab W32
  pc : W32
  xpc : W32
  xcause : W32
  xaddr : W32
  xstate : W32
  cstate : W32
  vbase : W32
  cycleHi : W32
  timer : W32
  timerAt : Nat
  events : W32
  evmask : W32
  seg : Tab W32
  localMem : List Host.Cell
  half : Nat
  started : Bool
  startedAt : Nat
  waiting : Bool
  stopped : Bool
  halted : Bool
deriving DecidableEq, Repr

def Tahr.reset : Tahr :=
  ⟨[], 0, 0, 0, 0, 0, 0, 0, 0, 0, 0, 0, 0, [], [], 0, false, 0, false, false, false⟩
/-- IPFIX export settings and counters (R418): periods counted, data records sent (the sequence number), messages sent,
records dropped, and the records that wait (template, bytes). -/
structure TelExport where
  channel : Nat
  domain : Nat
  pen : Nat
  periodMs : Nat
  templateS : Nat
  mtu : Nat
  periods : Nat
  lastAt : Nat
  templateAt : Nat
  seq : Nat
  messages : Nat
  dropped : Nat
  queue : List (Nat × List Byte)
deriving DecidableEq, Repr

/-- Power state beyond the PWR registers (19_power_clocks_telemetry.md): debt and window energy in µJ and the energy in
nJ; the last readings of the five adaptive rails in mV and 0.1 A, unanswered frames in a row, failed rails; dies forced
to level 5 by temperature, rails whose fast drop stands until the next window, dies that stretch their clocks; level
clocks in force; when PWR_BUDGET was last written and the last silent millisecond was judged; the last energies per
10 µs, newest first; the window's start and the energy then; LIMIT_W of the window in force; thermal_factor in tenths
and thermal levels of the dies; class records, deferred and demoted classes as bit masks, windows each class has been
deferred in a row and in all, admitted energy by class; fast events; export. -/
structure Pwr where
  debt : Nat
  energy : Nat
  mv : List Nat
  da : List Nat
  miss : List Nat
  failed : List Nat
  forced : List Nat
  fastHeld : List Nat
  droop : List Nat
  inForce : List Nat
  budgetAt : Nat
  silenceAt : Nat
  hist : List Nat
  winAt : Nat
  winEnergy : Nat
  limit : Nat
  factor : Nat
  thermal : List Nat
  classes : Tab (List Byte)
  deferred : Nat
  demoted : Nat
  waiting : Tab Nat
  deferWins : Tab Nat
  admitted : Tab Nat
  fastEvents : Nat
  export_ : Option TelExport
deriving DecidableEq, Repr

/-- (Log entry 192: DESIGN CHOICE, unsafe.) -/
def Pwr.reset : Pwr :=
  { debt := 0, energy := 0, mv := [800, 800, 800, 800, 800], da := [0, 0, 0, 0, 0], miss := [0, 0, 0, 0, 0], failed := []
    forced := [], fastHeld := [], droop := [], inForce := [5, 5, 5, 5, 5, 5, 5, 5], budgetAt := 0, silenceAt := 0
    hist := [], winAt := 0, winEnergy := 0, limit := 400, factor := 10, thermal := [0, 0, 0, 0, 0, 0, 0, 0], classes := []
    deferred := 0, demoted := 0, waiting := [], deferWins := [], admitted := [], fastEvents := 0, export_ := none }

/-- The always-on island's endpoint (R419, R420): MCTP endpoint ID, PLDM terminus ID, whether the part is in D3cold
and whether PME_En was set as it entered. -/
structure Aon where
  eid : Nat
  tid : Nat
  d3cold : Bool
  pmeEn : Bool
deriving DecidableEq, Repr

def Aon.reset : Aon := ⟨0, 0, false, false⟩
/-- An armed injection that waits for the next write to its target (R436). -/
structure Injection where
  checker : Nat
  flip : Nat
  unit : Nat
  addr : Nat
deriving DecidableEq, Repr

/-- One source's EVT_FAULT bookkeeping (R432): when its last class 0 event was written, its faults since its previous
event, and a class 0 fault that waits for the 10 ms to pass. -/
structure CeLimit where
  last : Option Nat
  count : Nat
  waiting : Option FaultRep
deriving DecidableEq, Repr

/-- The fault collector's state beyond its registers (R424 to R436): block lines still raised, broken rails as (SOURCE,
RUNIT), the armed injections, the event bookkeeping by source, EVT_FAULT owed by domain 16 (class, report, time), the
marks of engine buffers by engine × 2^32 + buffer, of key slots, and of core memory words by core × 2^32 + address, and the targets whose error was injected (CHECKER, UNIT, address). -/
structure Flt where
  lines : List Nat
  broken : List (Nat × Nat)
  injections : List Injection
  ceLimit : Tab CeLimit
  evtOwed : List (Nat × FaultRep × Nat)
  bufMarks : Tab Mark
  slotMarks : Tab Mark
  coreMarks : Tab Mark
  injected : List (Nat × Nat × Nat)
deriving DecidableEq, Repr

def CeLimit.reset : CeLimit := ⟨none, 0, none⟩
def Flt.reset : Flt := ⟨[], [], [], [], [], [], [], [], []⟩
/-- A protected region (R441). -/
structure CkpRegion where
  ix : Nat
  kind : Nat
  snap : Bool
  base : Nat
  pages : Nat
  mkey : Nat
  moff : Nat
  pregion : Nat
  nfmt : Nat
  sfmt : Nat
  nbytes : Nat
deriving DecidableEq, Repr

/-- A pre-image in the staging ring (R443): page of a region, the mark it is tagged with, its content, and whether a line of
it was poisoned. -/
structure PreImage where
  region : Nat
  page : Nat
  tag : Nat
  data : List Byte
  poison : Bool
deriving DecidableEq, Repr

/-- A first write that waits for room in the staging ring (R443). -/
structure HeldWrite where
  addr : Nat
  data : List Byte
  poison : Bool
deriving DecidableEq, Repr

/-- A capture (R444, R447): its mark, the pages still to send, journal entries sent and not done, its JOURNAL_COMMIT
(0 to send, 1 sent, 2 done), and the number of the first append copy after the mark. -/
structure CkpCapture where
  mark : Nat
  left : List (Nat × Nat)
  outstanding : Nat
  commit : Nat
  appendIx : Nat
deriving DecidableEq, Repr

/-- A KIND 1 copy (R445): its number, region, offset in the region, bytes, and whether it has been sent. -/
structure CkpAppend where
  n : Nat
  region : Nat
  off : Nat
  data : List Byte
  sent : Bool
deriving DecidableEq, Repr

/-- Journal entries of a partner's mark that wait to be applied (R446): the mark, the number of its first entry, how
many, and the ring that holds them. -/
structure CkpJournal where
  mark : Nat
  first : Nat
  count : Nat
  ring : Nat
  pages : Nat
deriving DecidableEq, Repr

/-- A replica this node is a witness for (R460): view, member addresses, ends of the last grants by member, and the
proposal it has accepted (view, members) whose ACCEPT may still wait, with the proposer's connection and SEQ. -/
structure CkpServed where
  replica : Nat
  view : Nat
  members : List Nat
  grants : List (Nat × Nat)
  proposal : Option (Nat × List Nat × Nat × Nat)
deriving DecidableEq, Repr

/-- A restore in progress (R455): its request, this node's rank, the ranks, the candidate steps still to try, newest
first, the newest one, the steps this rank has a verified copy of, and the shards read. -/
structure CkpRestore where
  req : SynReq
  rank : Nat
  nranks : Nat
  cands : List Nat
  newest : Nat
  good : List Nat
  shards : List (List Byte)
deriving DecidableEq, Repr

/-- A shard this node has written (R452): its mark, its copy, and the digest of each chunk by region and page. -/
structure CkpShard where
  mark : Nat
  copy : Nat
  chunks : List (Nat × Nat × List Byte)
deriving DecidableEq, Repr

/-- The checkpoint engine and the firmware state that its rules name (21_checkpoint_and_recovery.md): configuration,
pages written since the last mark, pre-images, held writes, captures, entries sent by mark, append copies, the snapshot
pin (mark, time, copies written, volume, RETAIN and base), the view, leases, the witness tables, the proposal being made
(view, members, witnesses that accepted), the mark whose manifest is owed, the chunk digests of shards
written (mark, copy, then region, page, digest), the partner's rank and journal, recovery in progress, and the snapshot manifest. -/
structure Ckp where
  replica : Nat
  rank : Nat
  nranks : Nat
  conn : Nat
  jkey : Nat
  jpages : Nat
  cflag : Option Nat
  regions : List CkpRegion
  touched : List (Nat × Nat)
  pre : List PreImage
  held : List HeldWrite
  captures : List CkpCapture
  entryNo : Nat
  sent : List (Nat × Nat)
  appends : List CkpAppend
  appendNo : Nat
  pin : Option Nat
  pinAt : Nat
  pinDone : List Nat
  pinMark : Option Nat
  snaps : List CkpShard
  partner : Option Nat
  snapVolume : Option (Nat × Nat × Nat)
  stepped : Bool
  view : Nat
  members : List Nat
  witnesses : List Nat
  spares : List Nat
  locals : List (Nat × Nat)
  leaseSeq : Nat
  leaseSent : Option (Nat × Nat)
  grants : List Nat
  served : List CkpServed
  proposing : Option (Nat × List Nat × List Nat)
  journal : List CkpJournal
  jNext : Nat
  takeover : Bool
  viewAt : Option Nat
  restoring : Option CkpRestore
  verified : List (Nat × Nat × Bool)
  snapDone : List (Nat × List Byte)
  manGen : Nat
  unprotected : Bool
deriving DecidableEq, Repr

def Ckp.reset : Ckp :=
  { replica := 0, rank := 0, nranks := 0, conn := 0, jkey := 0, jpages := 0, cflag := none, regions := [], touched := []
    pre := [], held := [], captures := [], entryNo := 0, sent := [], appends := [], appendNo := 0, pin := none
    pinAt := 0, pinDone := [], pinMark := none, snaps := [], partner := none, snapVolume := none, stepped := false, view := 0, members := [], witnesses := []
    spares := [], locals := [], leaseSeq := 0, leaseSent := none, grants := [], served := [], proposing := none
    journal := [], jNext := 0, takeover := false, viewAt := none, restoring := none, verified := [], snapDone := [], manGen := 0
    unprotected := false }
/-- Pins and supplies the manual names (22_package_and_pins.md), true for a high level: supplies in range, reset and strap
pins, root ports whose link is up or held in link-disable (0 to 7 accelerators, 8 to 11 drives), the TAP data register. -/
structure Pins where
  aonInRange : Bool
  mainInRange : Bool
  perstN : Bool
  straps : Nat
  wakeN : Bool
  aperst : List Nat
  dperst : List Nat
  ppsOut : Bool
  ppsOutHiZ : Bool
  rootUp : List Nat
  rootHeld : List Nat
  tapDr : List Byte
deriving DecidableEq, Repr

/-- (Log entries 4: DESIGN CHOICE, unsafe; 222: DEDUCED, unsafe.) -/
def Pins.reset : Pins :=
  ⟨true, true, true, 0, true, [], [], false, false, [], [], []⟩

/-- The machine's state: every register, memory, queue, mode and pin the manual gives the Noene, as plain data. -/
structure State where
  /-- the commands that wait, first in, first out -/
  pending : List Instr
  /-- every register word by its BAR0 offset (BAR4 pages at bar4Base); an unlisted word reads as its reset value -/
  regs : Tab W32
  /-- device physical memory (HBM, scratchpads, accelerator memory), byte cells; an unlisted byte reads zero -/
  mem : List Host.Cell
  /-- marks of scratchpad words, keyed by device physical address / 8 -/
  marks : Tab Mark
  /-- marks of 64-byte HBM lines, keyed by device physical address / 64 -/
  lineMarks : Tab Mark
  /-- host memory by bus address, the PASID + 1 of the access above bit 64 -/
  hostMem : List Host.Cell
  /-- the LFSR of each lottery arbiter once it has drawn; an unlisted arbiter holds its entropy seed -/
  lfsr : Tab W16
  /-- draws lost in a row, by arbiter and requester -/
  guards : Tab Nat
  /-- the model's own counter: how many free values have been taken -/
  free : Nat
  /-- the model's own count of 156.25 MHz fabric-clock cycles since reset -/
  clock : Nat
  /-- the model's own record of what the block has sent -/
  out : List Output
  /-- the eight mailboxes and the instance pages' mailboxes (8 + instance) -/
  mbx : Tab Mailbox
  /-- per accelerator port, the ranges (offset, bytes) of its memory that its loaded profile maps (R11, R123) -/
  accelWin : Tab (List (Nat × Nat))
  /-- the bytes the last read returned to its requester -/
  answer32 : List Byte
  /-- how the last access was answered: none for a normal completion -/
  answerErr : Option MemErr
  /-- the model's own count of full device resets: each gives the arbiters new seeds (R175) -/
  boots : Nat
  /-- the command rings by the offset of their CMD_BASE register (clusters, collective queues, transport, security) -/
  rings : Tab Ring
  /-- the 1,024 compute clusters -/
  clu : Tab Clu
  /-- physical flags, the nine translation caches, held waits, barrier entries -/
  flags : Flags
  /-- the collectives engine -/
  col : Col
  /-- the key/value tier engine -/
  kv : Kv
  /-- draft, sampling and acceptance -/
  eland : Eland
  /-- HBM channels, arbiters and stacks -/
  hbm : Hbm
  /-- the 32 fabric ports -/
  fport : Tab FPort
  /-- codeword lock of the 144 lanes -/
  laneRx : Tab LaneRx
  /-- the transport engine -/
  trn : Trn
  /-- the time counter, steering law, gate lists, shapers and policers -/
  time : TimeUnit
  /-- the packet pipeline -/
  pkt : Pkt
  /-- source frames of the transmit channels, oldest first (R276) -/
  chanQ : List SrcFrame
  /-- storage queues, fetched commands with their range locks, backings, waiting volume changes -/
  sto : Sto
  /-- key store, identity, measurement, attestation, debug and message engine -/
  sec : Sec
  /-- the host endpoint (15_host_endpoint.md) -/
  host : HostIf
  /-- the 2,048 virtual instances (16_virtual_instances.md) -/
  inst : Tab Inst
  /-- the receive, transmit and transport queues of the instances, by device-wide queue number -/
  iq : List (Nat × IQueue)
  /-- the Quad SPI flash (R358); blank in the model's reset state -/
  flash : Flash
  /-- configuration in force, running and staged firmware (17_firmware_and_syncen.md) -/
  fw : Fw
  /-- watchdog bookkeeping of the 33 cores -/
  coreSvc : Tab CoreSvc
  /-- the core that carries each of the 30 scheduling domains (255: paused); an unlisted domain d is on its own core of R376 -/
  domainCore : Tab Nat
  /-- domains paused while their core restarts or no standby is free -/
  paused : List Nat
  /-- the cores T0 to T31 -/
  tahr : Tab Tahr
  /-- control memory: image half 0 at 0, half 1 at 0x20_0000 -/
  ctrl : List Host.Cell
  /-- governor, adaptive rails, thermal state, telemetry (19_power_clocks_telemetry.md) -/
  pwr : Pwr
  /-- the always-on island's endpoint state -/
  aon : Aon
  /-- the fault collector: raised lines, broken rails, armed injections, event bookkeeping, EVT_FAULT owed by domain 16, engine buffer marks -/
  flt : Flt
  /-- the FAULT_N pin (true: high, released) -/
  faultN : Bool
  /-- checkpoint, recovery and leases -/
  ckp : Ckp
  /-- supplies in range, reset pins, strap pins, root-port links, JTAG -/
  pins : Pins
deriving DecidableEq, Repr

/-- The machine right after a full device reset: every register word at its reset value (nothing listed), memory
with nothing listed, and every other piece of state at the value its rule or its assumption-log row gives. (Log
entries 4: DESIGN CHOICE, unsafe; 6: DESIGN CHOICE, unsafe.) -/
def State.reset : State where
  pending := []
  regs := []
  mem := []
  marks := []
  lineMarks := []
  hostMem := []
  lfsr := []
  guards := []
  free := 0
  clock := 0
  out := []
  mbx := []
  accelWin := []
  answer32 := []
  answerErr := none
  boots := 0
  rings := []
  clu := []
  flags := Flags.reset
  col := Col.reset
  kv := Kv.reset
  eland := Eland.reset
  hbm := Hbm.reset
  fport := []
  laneRx := []
  trn := Trn.reset
  time := TimeUnit.reset
  pkt := Pkt.reset
  chanQ := []
  sto := Sto.reset
  sec := Sec.reset
  host := HostIf.reset
  inst := []
  iq := []
  flash := ⟨[], [], [], []⟩
  fw := ⟨CfgImage.default, none, none, false, 0, [], 0, []⟩
  coreSvc := []
  domainCore := []
  paused := []
  tahr := []
  ctrl := []
  pwr := Pwr.reset
  aon := Aon.reset
  flt := Flt.reset
  faultN := true
  ckp := Ckp.reset
  pins := Pins.reset

end Sys2Proof.Machine
end

