-- ==== Sys2Proof/Machine/Ops.lean ====
section
/-! DEFINITION. The named operations every command family shares: registers, lottery draws, device physical memory,
host memory, interrupt vectors, events and the fault collector's report. -/

namespace Sys2Proof.Machine

/-- The outcome of a command. -/
abbrev Res := Host.Outcome State Fault Refusal

/-- A command that completes. -/
abbrev ok (s : State) : Res := .next s

/-! ### Registers -/

/-- The register word at an offset. -/
def State.rd (s : State) (off : Nat) : W32 := Tab.get regReset s.regs off

/-- The state with one register word replaced. -/
def State.wr (s : State) (off : Nat) (v : W32) : State := { s with regs := Tab.set regReset s.regs off v }

/-- A 64-bit register's value. -/
def State.rd64 (s : State) (off : Nat) : Nat := (s.rd off).toNat + (s.rd (off + 4)).toNat * 2 ^ 32

/-- The state with a 64-bit register replaced. -/
def State.wr64 (s : State) (off v : Nat) : State :=
  (s.wr off (BitVec.ofNat 32 v)).wr (off + 4) (BitVec.ofNat 32 (v >>> 32))

/-- A register field; a field that lies above bit 31 or crosses it belongs to a 64-bit register. -/
def State.gf (s : State) (off : Nat) (f : Fd) : Nat :=
  if f.lo + f.n ≤ 32 then f.get (s.rd off) else bitsOf (s.rd64 off) f.lo f.n

/-- The state with a register field replaced. -/
def State.sf (s : State) (off : Nat) (f : Fd) (x : Nat) : State :=
  if f.lo + f.n ≤ 32 then s.wr off (f.put (s.rd off) x) else s.wr64 off (bitsPut (s.rd64 off) f.lo f.n x)

/-- A one-bit register field read as a Bool. -/
def State.bit (s : State) (off : Nat) (f : Fd) : Bool := s.gf off f == 1

/-- A counter field that saturates at its width. -/
def State.cnt (s : State) (off : Nat) (f : Fd) (x : Nat) : State :=
  s.sf off f (satAdd (2 ^ f.n - 1) (s.gf off f) x)

/-- Eight-lane form (R187). -/
def State.eightLane (s : State) : Bool := s.bit FAB_CTL FAB_CTL_FORM

/-! ### Time -/

/-- TIME_NOW (R239): bits [95:32] of the accumulator. -/
def State.now (s : State) : Nat := s.time.acc >>> 32

/-- Fabric-clock cycles in a number of ns, rounded down (6.4 ns a cycle, R239). -/
def nsCycles (ns : Nat) : Nat := ns * 10 / 64

/-! ### Free values -/

/-- The number of a fresh free value. (Log entry 5: DESIGN CHOICE, safe.) -/
def State.tick (s : State) : State := { s with free := s.free + 1 }

/-- A fresh free value of `w` bits. (Log entry 5: DESIGN CHOICE, safe.) -/
def State.fresh (s : State) (w : Nat) : BitVec w := Config.freeValue w s.free

/-- Bytes of a fresh free value. -/
def State.freeBytes (s : State) (n : Nat) : List Byte := leBytes n (s.fresh (8 * n)).toNat

/-- A list made to have exactly `n` bytes. -/
def fit (n : Nat) (bs : List Byte) : List Byte := (bs ++ List.replicate n 0).take n

/-- SHAKE256 with `n` bytes of output. -/
def shake (bs : List Byte) (n : Nat) : List Byte := fit n (Config.shake256 bs n)

/-- `n` fresh bytes from the entropy source (R304). (Log entry 5: DESIGN CHOICE, safe.) -/
def State.entropy (s : State) (n : Nat) : List Byte := leBytes n (s.fresh (8 * n)).toNat

/-! ### Lottery arbiters -/

/-- The advance of a 16-bit LFSR (R175). -/
def lfsrStep (x : Nat) : Nat :=
  let b := (x ^^^ (x >>> 2) ^^^ (x >>> 3) ^^^ (x >>> 5)) % 2
  (x >>> 1) ||| (b <<< 15)

/-- `n` advances. -/
def lfsrRun : Nat → Nat → Nat
  | 0, x => x
  | n + 1, x => lfsrRun n (lfsrStep x)

/-- Arbiter numbers: a kind and an index in it. -/
def arbId (kind ix : Nat) : Nat := kind * 2 ^ 32 + ix

/-- The LFSR of an arbiter: what it last held, or its entropy seed (R175). (Log entry 14: DESIGN CHOICE, safe.) -/
def State.lfsrOf (s : State) (a : Nat) : Nat :=
  match s.lfsr.find? (fun e => e.1 == a) with
  | some (_, x) => x.toNat
  | none => (Config.lfsrSeed (s.boots * 2 ^ 64 + a)).val + 1

/-- The arbiter's LFSR advanced by `n` arbitration cycles. -/
def State.lfsrAdvance (s : State) (a n : Nat) : State :=
  { s with lfsr := Tab.insert s.lfsr a (BitVec.ofNat 16 (lfsrRun n (s.lfsrOf a))) }

/-- The walk of R176: the first requester at which the running total of tickets exceeds `w`. -/
def lotteryWalk : List (Nat × Nat) → Nat → Nat → Option Nat
  | [], _, _ => none
  | (r, t) :: rest, acc, w => if acc + t > w then some r else lotteryWalk rest (acc + t) w

/-- The winner of a draw among eligible requesters (index, tickets), in increasing requester index, with the LFSR
value after the cycle's advance (R176). When every ticket count is zero each requester holds one. -/
def drawWith (x : Nat) (reqs : List (Nat × Nat)) : Option Nat :=
  let total := reqs.foldl (fun a r => a + r.2) 0
  let reqs' := if total = 0 then reqs.map (fun r => (r.1, 1)) else reqs
  let t := if total = 0 then reqs.length else total
  lotteryWalk reqs' 0 ((x * t) >>> 16)

/-- Draws a requester has lost in a row at an arbiter. -/
def State.lost (s : State) (a r : Nat) : Nat := Tab.get (fun _ => 0) s.guards (a * 2 ^ 24 + r)

/-- One draw at arbiter `a` among requesters with tickets, `gap` arbitration cycles after its last one: the LFSR
advances, requesters that hold tickets and have lost `guard` draws compete alone (R176), the winner's losses return to
zero and every other competitor's losses grow by one. (Log entry 14: DESIGN CHOICE, safe.) -/
def State.draw (s : State) (a guard gap : Nat) (reqs : List (Nat × Nat)) : Option Nat × State :=
  let s := s.lfsrAdvance a (gap + 1)
  let atGuard := reqs.filter (fun r => r.2 > 0 && s.lost a r.1 ≥ guard)
  let pool := if atGuard.isEmpty then reqs else atGuard
  let win := match pool with
    | [r] => some r.1
    | _ => drawWith (s.lfsrOf a) pool
  let g := reqs.foldl (fun g r =>
    Tab.set (fun _ => 0) g (a * 2 ^ 24 + r.1)
      (if some r.1 = win then 0 else min 255 (Tab.get (fun _ => 0) g (a * 2 ^ 24 + r.1) + 1))) s.guards
  (win, { s with guards := g })

/-- A draw whose distance in arbitration cycles from the arbiter's last draw is open. (Log entry 14: DESIGN CHOICE,
safe.) -/
def State.drawNow (s : State) (a guard : Nat) (reqs : List (Nat × Nat)) : Option Nat × State :=
  s.tick.draw a guard (s.fresh 16).toNat reqs

/-! ### Outputs -/

/-- Record something the block sends. -/
def State.emit (s : State) (o : Output) : State := { s with out := s.out ++ [o] }

/-! ### Configuration space and vectors (R324, R333) -/

/-- The safe state is in force. -/
def State.safe (s : State) : Bool := s.bit FLT_STATUS FLT_STATUS_SAFE

/-- Reset value of a configuration space word (R324, R325; the bit places are the PCIe specification's). (Log entry
8: PRESUMED, unsafe.) -/
def cfgReset (off : Nat) : W32 :=
  if off = 0x00 then 0x4E101D7C else if off = 0x04 then 0x00100000 else if off = 0x08 then 0x120000B0
  else if off = 0x10 then 0x4 else if off = 0x18 then 0xC else if off = 0x20 then 0x4
  else if off = 0x2C then 0x00011D7C else if off = 0x34 then 0x40
  else if off = 0x40 then 0xC8035001 else if off = 0x44 then 0x00000008
  else if off = 0x50 then 0x07FF6011 else if off = 0x54 then 0x00100000 else if off = 0x58 then 0x00180000
  else if off = 0x60 then 0x00020010 else if off = 0x64 then 0x10008022 else if off = 0x68 then 0x00002810
  else if off = 0x6C then 0x00400906 else if off = 0x70 then 0x00000000 else if off = 0x84 then 0x0003001E
  else if off = 0x10C then 0x00062010 else if off = 0x114 then 0x00002000
  else if off = 0x100 then 0x15010001 else if off = 0x150 then 0x16010003 else if off = 0x160 then 0x1701001B
  else if off = 0x164 then 0x00001400 else if off = 0x170 then 0x1801000F else if off = 0x174 then 0x00000020
  else if off = 0x180 then 0x1B010019 else if off = 0x1B0 then 0x1C010025 else if off = 0x1B4 then 0x80000001
  else if off = 0x1C0 then 0x1F010026 else if off = 0x1F0 then 0x2201002A else if off = 0x220 then 0x24010031
  else if off = 0x240 then 0x00010027
  else 0

/-- A configuration space word. -/
def State.cfgRd (s : State) (off : Nat) : W32 := Tab.get cfgReset s.host.cfg off

/-- The state with a configuration space word replaced. -/
def State.cfgWr (s : State) (off : Nat) (v : W32) : State :=
  { s with host := { s.host with cfg := Tab.set cfgReset s.host.cfg off v } }

/-- One bit of a configuration space word. -/
def State.cfgBit (s : State) (off b : Nat) : Bool := bitAt (s.cfgRd off).toNat b

/-- Memory Space Enable, and Bus Master Enable (R324). (Log entry 8: PRESUMED, unsafe.) -/
def State.mse (s : State) : Bool := s.cfgBit 0x04 1 && (s.cfgRd 0x44).toNat % 4 == 0
/-- (Log entry 8: PRESUMED, unsafe.) -/
def State.bme (s : State) : Bool := s.cfgBit 0x04 2 && (s.cfgRd 0x44).toNat % 4 == 0

/-- The device may start requests toward the host: Bus Master Enable is one, no function-level reset runs, and the
safe state is not in force (R336, R337, R433). -/
def State.hostUp (s : State) : Bool := s.bme && !s.host.flrBusy && !s.safe

/-- A vector's message must wait: it is masked, the Function Mask is set, MSI-X Enable is clear, or Bus Master Enable
is clear (R333). -/
def State.vecBlocked (s : State) (v : Nat) : Bool :=
  bitAt (s.rd (MSIX_CTRL v)).toNat 0 || s.cfgBit 0x50 30 || !s.cfgBit 0x50 31 || !s.bme

/-- Set or clear a vector's PBA bit; a vector number has 11 bits (R333). -/
def State.pba (s : State) (v : Nat) (b : Bool) : State :=
  let w := MSIX_PBA (v % 2048 / 32)
  s.wr w (BitVec.ofNat 32 (bitsPut (s.rd w).toNat (v % 32) 1 (b2n b)))

/-- A vector is due (R333): one that may not be sent sets its PBA bit, any other waits to be sent. Repeated events
make one message. -/
def State.raise (s : State) (v : Nat) : State :=
  if s.vecBlocked v then s.pba v true
  else { s with host := { s.host with vecDue := insertKey s.host.vecDue v } }

/-! ### Host memory -/

/-- Key of a host memory byte: bus address, with the PASID of the access (R329, R344). -/
def hostKey (pasid : Option Nat) (bus : Nat) : Nat :=
  (match pasid with | none => 0 | some p => p + 1) * 2 ^ 64 + bus

/-- What an unlisted byte of memory reads as: HBM is zeroed before READY (R174) and a woken scratchpad is zeroed
(R62); accelerator and host memory read zero by the model's choice. (Log entry 7: DESIGN CHOICE, unsafe.) -/
def memZero : Nat → Byte := fun _ => 0

/-- A host memory byte by PASID and bus address. (Log entry 7: DESIGN CHOICE, unsafe.) -/
def State.hostByte (s : State) (pasid : Option Nat) (bus : Nat) : Byte := Tab.get memZero s.hostMem (hostKey pasid bus)

/-- `n` bytes of host memory by PASID and bus address. -/
def State.hostBytes (s : State) (pasid : Option Nat) (bus : Nat) : Nat → List Byte
  | 0 => []
  | n + 1 => s.hostByte pasid bus :: State.hostBytes s pasid (bus + 1) n

/-- Write host memory by PASID and bus address. -/
def State.hostPut (s : State) (pasid : Option Nat) (bus : Nat) : List Byte → State
  | [] => s
  | b :: bs =>
    State.hostPut { s with hostMem := Tab.set memZero s.hostMem (hostKey pasid bus) b } pasid (bus + 1) bs

/-! ### Events (R375) -/

/-- The default mailbox. -/
def mbxReset : Nat → Mailbox := fun _ => Mailbox.reset

def State.mb (s : State) (m : Nat) : Mailbox := Tab.get mbxReset s.mbx m
def State.setMb (s : State) (m : Nat) (b : Mailbox) : State := { s with mbx := Tab.set mbxReset s.mbx m b }

/-- Event ring entry (R375): header with EVENT set, payload, sequence number and PHASE. -/
def eventEntry (opcode inst : Nat) (payload : List Byte) (seq phase : Nat) : List Byte :=
  leBytes 4 (3 + 2 * 256 + opcode * 65536) ++ leBytes 4 (2 * 65536) ++ leBytes 4 payload.length
    ++ leBytes 4 (inst % 65536) ++ fit 232 payload ++ leBytes 4 seq ++ leBytes 4 phase

/-- A firmware event queued for the host in D3hot with PME_En set: PM_PME (R339). -/
def State.pmPme (s : State) : State :=
  if (s.cfgRd 0x44).toNat % 4 = 3 ∧ s.cfgBit 0x44 8 then (s.cfgWr 0x44 (s.cfgRd 0x44 ||| 0x8000#32)).emit (.message 0x18 [])
  else s

/-- Write an entry into a mailbox's event ring, or drop and count it when the ring is full; entries are held while the
device may not write to the host (R374, R375). When space has returned after drops, EVT_OVERFLOW goes first. -/
def State.pushEvent (s : State) (m opcode inst : Nat) (payload : List Byte) : State :=
  match (s.mb m).session with
  | none => s
  | some se =>
    match se.ring with
    | none => s
    | some r =>
      let setRing (s : State) (r : EventRing) : State :=
        s.setMb m { s.mb m with session := some { se with ring := some r } }
      let head := s.gf (MBX_EVT_HEAD m) MBX_EVT_HEAD_HEAD
      let used := (r.wr + 2 ^ 16 - head) % 2 ^ 16
      let size := 2 ^ r.log2n
      let entryAt (r : EventRing) (op ins : Nat) (pl : List Byte) : List Byte :=
        eventEntry op ins pl r.seq (if (r.wr / size) % 2 = 0 then 1 else 0)
      let write (s : State) (r : EventRing) (op ins : Nat) (pl : List Byte) : State × EventRing :=
        (s.hostPut none (r.addr + r.wr % size * 256) (entryAt r op ins pl),
          { r with wr := (r.wr + 1) % 2 ^ 16, seq := (r.seq + 1) % 2 ^ 32 })
      if !s.hostUp then
        (setRing s { r with held := r.held ++ [leBytes 2 opcode ++ leBytes 2 inst ++ payload] }).pmPme
      else if r.dropped > 0 ∧ used + 2 ≤ size then
        let (s, r) := write s r 0x0088 0xFFFF (leBytes 4 r.dropped)
        let (s, r) := write s { r with dropped := 0 } opcode inst payload
        (setRing s r).raise r.vector
      else if r.dropped > 0 ∨ used ≥ size then setRing s { r with dropped := r.dropped + 1 }
      else
        let (s, r) := write s r opcode inst payload
        (setRing s r).raise r.vector

/-- Events held while the device could not write to the host are written, oldest first (R336). -/
def State.flushEvents (s : State) : State :=
  (List.range 8).foldl (fun (s : State) m =>
    match (s.mb m).session with
    | some se =>
      match se.ring with
      | some r =>
        let s := s.setMb m { s.mb m with session := some { se with ring := some { r with held := [] } } }
        r.held.foldl (fun (s : State) h => s.pushEvent m (fieldLE h 0 2) (fieldLE h 2 2) (h.drop 4)) s
      | none => s
    | none => s) s

/-- A device-wide event goes to every session with a ring (R375). -/
def State.event (s : State) (opcode : Nat) (payload : List Byte) : State :=
  (List.range 8).foldl (fun s m => s.pushEvent m opcode 0xFFFF payload) s

/-- The default instance. -/
def instReset : Nat → Inst := fun _ => Inst.reset

def State.instOf (s : State) (i : Nat) : Inst := Tab.get instReset s.inst i
def State.setInst (s : State) (i : Nat) (v : Inst) : State := { s with inst := Tab.set instReset s.inst i v }

/-- An event about an instance goes to the owning session (R375). -/
def State.instEvent (s : State) (i opcode : Nat) (payload : List Byte) : State :=
  (List.range 8).foldl (fun s m =>
    match (s.mb m).session with
    | some se => if se.id = (s.instOf i).session then s.pushEvent m opcode i payload else s
    | none => s) s

/-- Bring an instance page's INSTP_STATUS in line with the instance (R348). -/
def instStateCode : InstState → Nat
  | .free => 0 | .configured => 1 | .enabled => 2 | .quiesced => 3 | .resetting => 4

/-! ### Fault collector report (R424 to R433) -/

/-- Class of each SOURCE (R423); those of 0x1B, 0x1C and 0x1D depend on the report (`State.classOf`). -/
def sourceClass (src : Nat) : Nat :=
  if src ∈ [0x01, 0x03, 0x05, 0x09, 0x0B, 0x11, 0x13, 0x17] then 0
  else if src ∈ [0x07, 0x08, 0x0D, 0x0E, 0x0F, 0x1E] then 2
  else 1

/-- Class of a block line (FLT_BLOCKS table). -/
def blockClass (b : Nat) : Nat := if b = 0 ∨ b = 3 ∨ b = 20 ∨ b = 21 then 2 else 1

/-- Class of a report (R423, R424, R425, R428, R429). -/
def State.classOf (s : State) (r : FaultRep) : Nat :=
  if r.source = 0x1B then max 1 (sourceClass r.detail.toNat)
  else if r.source = 0x1C then blockClass r.unit.toNat
  else if r.source = 0x1D then (if s.gf FLT_CTL FLT_CTL_MODE = 1 then 1 else 2)
  else sourceClass r.source.toNat

/-- Base of a class's first-fault latch, time and count registers. -/
def fltFirst (c : Nat) : Nat := FLT_FIRST c

/-- The class's latch is VALID. -/
def State.fltValid (s : State) (c : Nat) : Bool := bitAt (s.rd64 (fltFirst c)) 63

/-- Bring FLT_STATUS.PEND in line with the latches. -/
def State.fltPend (s : State) : State :=
  s.sf FLT_STATUS FLT_STATUS_PEND (b2n (s.fltValid 0) + 2 * b2n (s.fltValid 1) + 4 * b2n (s.fltValid 2))

/-- Latch a fault of class `c` (R426): fill the class's latch or set its OVERFLOW, and count it. -/
def State.fltLatch (s : State) (c : Nat) (esc inj : Bool) (r : FaultRep) : State :=
  let base := fltFirst c
  let s := s.cnt (FLT_COUNT c) FLT_COUNT_COUNT 1
  if s.fltValid c then s.wr64 base (bitsPut (s.rd64 base) 62 1 1)
  else
    let v := 2 ^ 63 + (s.rd64 base / 2 ^ 62 % 2) * 2 ^ 62 + b2n esc * 2 ^ 61 + b2n inj * 2 ^ 60
      + r.source.toNat * 2 ^ 48 + r.unit.toNat * 2 ^ 32 + r.detail.toNat
    let s := (s.wr64 base v).wr64 (FLT_FIRST_TIME c) s.now
    let s := s.fltPend
    if s.bit FLT_CTL FLT_CTL_VEC_EN then s.raise (s.gf FLT_CTL FLT_CTL_VECTOR) else s

/-- Entry to the safe state (R433): FLT_STATUS.SAFE, FAULT_N low, every port STATE SAFE (6, R205), the cores held in
reset, every compute die at level 5, STAGE 9 (8 during boot, R362), HBM in self-refresh, root ports in link-disable.
(Log entry 205: DEDUCED, unsafe.) -/
def State.enterSafe (s : State) : State :=
  if s.safe then s
  else
    let s := s.sf FLT_STATUS FLT_STATUS_SAFE 1
    let s := { s with faultN := false }
    let s := (List.range 32).foldl (fun s p => s.sf (FAB_PORT_STATUS p) FAB_PORT_STATUS_STATE 6) s
    let s := (List.range 33).foldl (fun s c => s.sf (CORE_STATUS c) CORE_STATUS_STATE 0) s
    let s := { s.wr PWR_LEVELS 0x55555555 with pins := { s.pins with rootUp := [] } }
    let s := s.sf DEV_STATUS DEV_STATUS_STAGE (if s.gf DEV_STATUS DEV_STATUS_STAGE < 6 then 8 else 9)
    { s with hbm := { s.hbm with sr := 63 } }

/-- Firmware is running: STAGE 6 or 7 (R361, R365, R381). -/
def State.fwRunning (s : State) : Bool :=
  s.gf DEV_STATUS DEV_STATUS_STAGE == 6 || s.gf DEV_STATUS DEV_STATUS_STAGE == 7

/-- The core that carries a domain; 255 when none does (R376, R379). -/
def State.coreOfDomain (s : State) (d : Nat) : Nat := Tab.get (fun d => d) s.domainCore d

/-- A domain does its work: firmware runs, and its core is in service and not restarting (R376 to R379). -/
def State.domainRuns (s : State) (d : Nat) : Bool :=
  s.fwRunning && !s.paused.contains d && s.gf (CORE_STATUS (s.coreOfDomain d)) CORE_STATUS_STATE == 1

def ceReset : Nat → CeLimit := fun _ => CeLimit.reset
def State.ceOf (s : State) (src : Nat) : CeLimit := Tab.get ceReset s.flt.ceLimit src
def State.setCe (s : State) (src : Nat) (l : CeLimit) : State :=
  { s with flt := { s.flt with ceLimit := Tab.set ceReset s.flt.ceLimit src l } }

/-- Domain 16 writes one EVT_FAULT (R432): class, SOURCE, UNIT, DETAIL, time, and the faults of the source since its
previous event. -/
def State.writeFltEvent (s : State) (c : Nat) (r : FaultRep) (time : Nat) : State :=
  let l := s.ceOf r.source.toNat
  let s := s.setCe r.source.toNat ⟨if c = 0 then some s.clock else l.last, 0, if c = 0 then none else l.waiting⟩
  s.event 0x1180 (leBytes 1 c ++ leBytes 1 r.source.toNat ++ leBytes 2 r.unit.toNat ++ leBytes 4 r.detail.toNat
    ++ leBytes 8 time ++ leBytes 4 l.count)

/-- Ten milliseconds of the fabric clock. (Log entry 204: DEDUCED, unsafe.) -/
def tenMs : Nat := 1562500

/-- The host is told of a class 0 or 1 fault (R432): every class 1 fault has its EVT_FAULT; a class 0 fault only while
CE_EVT is one and 10 ms after its source's last. What domain 16 cannot write now stays owed. (Log entry 204: DEDUCED,
unsafe.) -/
def State.fltNotify (s : State) (c : Nat) (esc : Bool) (r : FaultRep) : State :=
  let l := s.ceOf r.source.toNat
  let s := if esc then s else s.setCe r.source.toNat { l with count := l.count + 1 }
  let now := s.now
  let give (s : State) : State :=
    if s.domainRuns 16 then s.writeFltEvent c r now
    else if s.fwRunning then { s with flt := { s.flt with evtOwed := s.flt.evtOwed ++ [(c, r, now)] } }
    else s
  if c = 1 then give s
  else if c = 0 ∧ s.bit FLT_CTL FLT_CTL_CE_EVT then
    let due := match l.last with
      | some t => decide (s.clock - t ≥ tenMs)
      | none => true
    if due && l.waiting.isNone && s.domainRuns 16 then s.writeFltEvent 0 r now
    else s.setCe r.source.toNat { s.ceOf r.source.toNat with waiting := some r }
  else s

/-- Domain 16 writes what it owes once its core runs again (R438). (Log entry 204: DEDUCED, unsafe.) -/
def State.flushFltEvents (s : State) : State :=
  if s.domainRuns 16 then
    let l := s.flt.evtOwed
    l.foldl (fun s e => s.writeFltEvent e.1 e.2.1 e.2.2) { s with flt := { s.flt with evtOwed := [] } }
  else s

/-- A fault of class `c` reaches the collector (R426 to R433): it is latched or overflows, counted and notified; in
compatibility mode a fault of class 0 or 1 that finds its latch VALID is reported once more in class c + 1 (R429); a
class 2 fault forces the safe state. -/
def State.report (s : State) (c : Nat) (inj : Bool) (r : FaultRep) : State :=
  let escal := s.gf FLT_CTL FLT_CTL_MODE == 1 && decide (c < 2) && s.fltValid c
  let s := (s.fltLatch c false inj r).fltNotify c false r
  let s := if escal then (s.fltLatch (c + 1) true inj r).fltNotify (c + 1) true r else s
  if c = 2 ∨ (escal ∧ c = 1) then s.enterSafe else s

/-- Sources carried on report rails (R424). -/
def railed (src : Nat) : Bool := [0x01, 0x02, 0x03, 0x04, 0x05, 0x06, 0x07, 0x08, 0x09, 0x0A, 0x0B, 0x0C, 0x13, 0x14, 0x17, 0x18].contains src

/-- RUNIT of a report (R424): the UNIT, or zero for the key store. -/
def runitOf (r : FaultRep) : Nat := if r.source = 0x17 ∨ r.source = 0x18 then 0 else r.unit.toNat

/-- One fault arrives (R424, R426): a fault on a broken rail is lost and counts only as overflow of its class. (Log
entry 206: DEDUCED, unsafe.) -/
def State.faultRep (s : State) (inj : Bool) (r : FaultRep) : State :=
  let c := s.classOf r
  if railed r.source.toNat && s.flt.broken.contains (r.source.toNat, runitOf r) then
    (s.cnt (FLT_COUNT c) FLT_COUNT_COUNT 1).wr64 (fltFirst c) (bitsPut (s.rd64 (fltFirst c)) 62 1 1)
  else s.report c inj r

/-- A report by its SOURCE, UNIT and DETAIL. -/
def State.fault (s : State) (src unit detail : Nat) (inj : Bool := false) : State :=
  s.faultRep inj ⟨BitVec.ofNat 8 src, BitVec.ofNat 16 unit, BitVec.ofNat 32 detail⟩

/-- A block of class 1 whose FLT_BLOCKS line is latched takes no new work (R425). -/
def State.blockDown (s : State) (b : Nat) : Bool := bitAt (s.rd FLT_BLOCKS).toNat b && blockClass b == 1

/-- The requester may write a block that only the Tahr cores write (R41): a core, or the JTAG port where its debug
scope gives it the device address space (R318). (Log entry 13: DEDUCED, unsafe.) -/
def coreWrites : Requester → Bool
  | .core _ => true
  | .jtag => true
  | _ => false

/-- In the safe state a BAR0 write has no effect, but for DEV_RESET and the acknowledgements of FLT_FIRST (R434). -/
def State.hostDiscards (s : State) (q : Requester) : Bool := s.safe && q == .host

/-! ### Device physical memory (R11, R12) -/

/-- Where a device physical address lies. -/
inductive Region where
  | hbm | scratch | regs | host | accel | none
deriving DecidableEq, Repr

def hbmBytes : Nat := 0x24_0000_0000
def scratchBase : Nat := 0x40_0000_0000
def regsBase : Nat := 0xF0_0000_0000
def hostBase : Nat := 0x100_0000_0000
def accelBase : Nat := 0x200_0000_0000
def accelSpan : Nat := 0x100_0000_0000

/-- The region of one address (R11, R12). -/
def regionOf (a : Nat) : Region :=
  if a < hbmBytes then .hbm
  else if scratchBase ≤ a ∧ a < scratchBase + 0x4000_0000 then
    if (a - scratchBase) % 0x10_0000 < 0x8_0000 then .scratch else .none
  else if regsBase ≤ a ∧ a < regsBase + 0x200_0000 then .regs
  else if hostBase ≤ a ∧ a < hostBase + 0x100_0000_0000 then .host
  else if accelBase ≤ a ∧ a < accelBase + 8 * accelSpan then .accel
  else .none

/-- Scratchpad address of an offset in cluster `c` (R11). -/
def scratchAddr (c off : Nat) : Nat := scratchBase + c * 0x10_0000 + off

/-- The range lies wholly in HBM. -/
def inHbm (a n : Nat) : Bool := decide (a + n ≤ hbmBytes)

/-- A request from outside to HBM that arrives before READY is held (R174). (Log entry 80: DESIGN CHOICE, safe.) -/
def State.hbmHeld (s : State) (a : Nat) : Bool := decide (a < hbmBytes) && !s.bit HBM_STATUS HBM_STATUS_READY

/-- The entry of the active host window table that serves a device physical address. -/
def State.hwinOf (s : State) (a : Nat) : HWin := Tab.get (fun _ => HWin.off) s.host.hwin ((a - hostBase) / 0x8000_0000)

/-- An access of `n` bytes that lie in one host window (R329): enabled, inside the window, with the right. -/
def State.hwinOne (s : State) (a n : Nat) (wr : Bool) : Bool :=
  let e := s.hwinOf a
  let o := (a - hostBase) % 0x8000_0000
  e.en && decide (o + n ≤ 2 ^ e.log2) && (if wr then e.wr else e.rd)

/-- Units of `k` bytes that [a, a + n) touches. -/
def spans (k a n : Nat) : Nat := if n = 0 then 0 else (a + n - 1) / k + 1 - a / k

/-- An access of `n` bytes through the host windows its bytes lie in (R12, R329), all of them in the host range. -/
def State.hwinOk (s : State) (a n : Nat) (wr : Bool) : Bool :=
  decide (a + n ≤ hostBase + 0x100_0000_0000) &&
  (List.range (spans 0x8000_0000 (a - hostBase) n)).all (fun k =>
    let base := hostBase + ((a - hostBase) / 0x8000_0000 + k) * 0x8000_0000
    let lo := max a base
    s.hwinOne lo (min (a + n) (base + 0x8000_0000) - lo) wr)

/-- Windows (offset, bytes) that together map the bytes [o, o + n), at most `k` of them. -/
def covered (ws : List (Nat × Nat)) : Nat → Nat → Nat → Bool
  | 0, _, n => n == 0
  | k + 1, o, n =>
    n == 0 || match ws.find? (fun w => decide (w.1 ≤ o) && decide (o < w.1 + w.2)) with
      | some w => covered ws k (w.1 + w.2) (n - (w.1 + w.2 - o))
      | none => false

/-- An access of `n` bytes to an accelerator port's memory through the windows its loaded profile maps (R11, R12, R123). -/
def State.accelOk (s : State) (a n : Nat) : Bool :=
  let p := (a - accelBase) / accelSpan
  let o := (a - accelBase) % accelSpan
  let ws := Tab.get (fun _ => []) s.accelWin p
  decide (o + n ≤ accelSpan) && covered ws ws.length o n

/-- A cluster's scratchpad answers accesses: the cluster is in Clear or Haze and not moving (R40). -/
def State.cluReached (s : State) (c : Nat) : Bool :=
  s.gf (CLU_PSTAT c) CLU_PSTAT_STATE != 2 && !s.bit (CLU_PSTAT c) CLU_PSTAT_MOVING

/-- Why an access of `n` bytes to plain memory is refused as a whole (R12), or cannot be made now (R336). -/
def State.memErr (s : State) (a n : Nat) (wr : Bool) : Option MemErr :=
  if n = 0 then none
  else match regionOf a with
  | .hbm => if inHbm a n then none else some .address
  | .scratch =>
    if (a - scratchBase) % 0x10_0000 + n ≤ 0x8_0000 ∧ s.cluReached ((a - scratchBase) / 0x10_0000) then none
    else some .address
  | .regs => some .address
  | .host => if !s.hwinOk a n wr then some .address else if !s.hostUp then some .hostDown else none
  | .accel => if s.accelOk a n then none else some .address
  | .none => some .address

/-- The host memory key a device physical address in the host range maps to. -/
def State.hostKeyOf (s : State) (a : Nat) : Nat :=
  let e := s.hwinOf a
  hostKey (if e.pv then some e.pasid else none) (e.hostAddr + (a - hostBase) % 0x8000_0000)

/-- The byte a held write (R443) will put at an address, by the newest of them. -/
def State.heldByte (s : State) (a : Nat) : Option Byte :=
  s.ckp.held.foldl (fun b h => if h.addr ≤ a then h.data[a - h.addr]? <|> b else b) none

/-- One byte as it stands in memory, whatever writes are held. (Log entry 7: DESIGN CHOICE, unsafe.) -/
def State.memByte (s : State) (a : Nat) : Byte := Tab.get memZero s.mem a

/-- `n` bytes as they stand in memory. -/
def State.memBytes (s : State) (a : Nat) : Nat → List Byte
  | 0 => []
  | n + 1 => s.memByte a :: State.memBytes s (a + 1) n

/-- One byte of device physical memory as a requester reads it: a read of a byte that a held write covers waits for
that write (R166, R443), so it returns that write's byte. (Log entries 7: DESIGN CHOICE, unsafe; 210: DEDUCED,
unsafe.) -/
def State.byte (s : State) (a : Nat) : Byte :=
  match regionOf a with
  | .host => Tab.get memZero s.hostMem (s.hostKeyOf a)
  | .hbm => (s.heldByte a).getD (s.memByte a)
  | _ => s.memByte a

/-- `n` bytes of device physical memory. -/
def State.bytes (s : State) (a : Nat) : Nat → List Byte
  | 0 => []
  | n + 1 => s.byte a :: State.bytes s (a + 1) n

/-- Write one byte of device physical memory. -/
def State.putByte (s : State) (a : Nat) (b : Byte) : State :=
  match regionOf a with
  | .host => { s with hostMem := Tab.set memZero s.hostMem (s.hostKeyOf a) b }
  | _ => { s with mem := Tab.set memZero s.mem a b }

/-- Write bytes of device physical memory, lowest address first. -/
def State.putBytes (s : State) (a : Nat) : List Byte → State
  | [] => s
  | b :: bs => State.putBytes (s.putByte a b) (a + 1) bs

/-- Marks: a scratchpad word's, and an HBM line's. -/
def markClean : Nat → Mark := fun _ => .clean
def State.wordMark (s : State) (a : Nat) : Mark := Tab.get markClean s.marks (a / 8)
def State.lineMark (s : State) (a : Nat) : Mark := Tab.get markClean s.lineMarks (a / 64)
def State.setWordMark (s : State) (a : Nat) (m : Mark) : State := { s with marks := Tab.set markClean s.marks (a / 8) m }
def State.setLineMark (s : State) (a : Nat) (m : Mark) : State :=
  { s with lineMarks := Tab.set markClean s.lineMarks (a / 64) m }

/-- The channel of an HBM address, and its offset in the channel (R164). -/
def hbmChannel (a : Nat) : Nat := (a / 256) % 192
def chanOffset (a : Nat) : Nat := a / 256 / 192 * 256 + a % 256
/-- The address that a channel holds at an offset (R164). -/
def chanAddr (g c : Nat) : Nat := (c / 256 * 192 + g) * 256 + c % 256
/-- The stack of a channel, and its pseudo-channel there: channel H(g mod 6).(g div 6) (R164). -/
def stackOf (g : Nat) : Nat := g % 6
def pseudoChannel (g : Nat) : Nat := g / 6

/-- The stored bits at an injection target are new: an error injected there earlier is gone. -/
def State.dropInjected (s : State) (checker unit addr : Nat) : State :=
  { s with flt := { s.flt with injected := s.flt.injected.filter (fun e => e != (checker, unit, addr)) } }

/-- The error found at a target was injected (FLT_FIRST.INJ). -/
def State.wasInjected (s : State) (checker unit addr : Nat) : Bool := s.flt.injected.contains (checker, unit, addr)

/-- The injection armed at a target, taken when a write to it occurs (R436): the target is marked, and BUSY clears when
no other injection waits. (Log entry 203: DEDUCED, unsafe.) -/
def State.takeInjection (s : State) (checker unit addr : Nat) : Option Nat × State :=
  let s := s.dropInjected checker unit addr
  let here (i : Injection) : Bool := i.checker == checker && i.unit == unit && i.addr == addr
  match s.flt.injections.find? here with
  | some i =>
    let rest := s.flt.injections.filter (fun i => !here i)
    (some i.flip, { (if rest.isEmpty then s.sf FLT_INJ FLT_INJ_BUSY 0 else s) with
      flt := { s.flt with injections := rest, injected := (checker, unit, addr) :: s.flt.injected } })
  | none => (none, s)

/-- Count an HBM error and report it (R168): corrected or uncorrected, `scrub` telling which read found it. -/
def State.hbmError (s : State) (a : Nat) (unc scrub : Bool) : State :=
  let g := hbmChannel a
  if unc then
    let s := s.cnt HBM_ERR_CNT HBM_ERR_CNT_UE 1
    let s := if s.bit HBM_ERR_FIRST HBM_ERR_FIRST_VALID then s
      else s.wr64 HBM_ERR_FIRST (2 ^ 63 + b2n scrub * 2 ^ 62 + g * 2 ^ 52 + (a / 64) % 2 ^ 32 * 64)
    s.fault 0x06 g (a / 64) (s.wasInjected 2 g (a / 64 * 64))
  else (s.cnt HBM_ERR_CNT HBM_ERR_CNT_CE 1).fault 0x05 g (a / 64) (s.wasInjected 2 g (a / 64 * 64))

/-- A request to a stack in self-refresh makes it leave (R173); in the safe state every stack stays in it (R434). -/
def State.wakeStack (s : State) (g : Nat) : State :=
  if bitAt s.hbm.sr (stackOf g) && !s.safe then { s with hbm := { s.hbm with sr := bitsPut s.hbm.sr (stackOf g) 1 0 } } else s

/-- One line read of HBM (R168): a corrected error is counted, reported and written back; an uncorrected one is
counted, latched, reported and written back poisoned. The answer says whether the data is poisoned. -/
def State.readLine (s : State) (a : Nat) : Bool × State :=
  let s := s.wakeStack (hbmChannel a)
  match s.lineMark a with
  | .clean => (false, s)
  | .poisoned => (true, s)
  | .corrected =>
    (false, ((s.hbmError (a / 64 * 64) false false).setLineMark a .clean).dropInjected 2 (hbmChannel a) (a / 64 * 64))
  | .uncorrected =>
    (true, ((s.hbmError (a / 64 * 64) true false).setLineMark a .poisoned).dropInjected 2 (hbmChannel a) (a / 64 * 64))

/-- Every line of a range read once. -/
def State.readLines (s : State) (a : Nat) : Nat → Bool × State
  | 0 => (false, s)
  | n + 1 =>
    let (p, s) := s.readLine a
    let (q, s) := State.readLines s (a + 64) n
    (p || q, s)

/-- One scratchpad word read (R39): a corrected error is reported and corrected; an uncorrected one is reported and the
word written back poisoned. The answer says whether the word is poisoned or uncorrected. -/
def State.readWord (s : State) (a : Nat) : Option MemErr × State :=
  let c := (a - scratchBase) / 0x10_0000
  let o := (a - scratchBase) % 0x10_0000 / 8 * 8
  let inj := s.wasInjected 0 c o
  match s.wordMark a with
  | .clean => (none, s)
  | .poisoned => (some .poison, s)
  | .corrected =>
    (none, (((s.sf (CLU_ERR c) CLU_ERR_ECC_CE 1).fault 0x01 c o inj).setWordMark a .clean).dropInjected 0 c o)
  | .uncorrected =>
    (some .uncorrected,
      (((s.sf (CLU_ERR c) CLU_ERR_ECC_UE 1).fault 0x02 c o inj).setWordMark a .poisoned).dropInjected 0 c o)

def State.readWords (s : State) (a : Nat) : Nat → Option MemErr × State
  | 0 => (none, s)
  | n + 1 =>
    let (p, s) := s.readWord a
    let (q, s) := State.readWords s (a + 8) n
    (p <|> q, s)

/-! Poison toward the host and the accelerators (R59, R334): the mark of a poisoned TLP stays with the words it wrote, and
a read of them returns poisoned data, until a store of the whole word. -/

/-- The key of the mark of a word of host memory, and of the word of accelerator memory that holds an address. -/
def hostMarkKey (key : Nat) : Nat := 2 ^ 100 + key / 8
def State.extMarkKey (s : State) (a : Nat) : Nat :=
  if regionOf a = .host then hostMarkKey (s.hostKeyOf a) else a / 8

/-- A read of [a, a + n) of host or accelerator memory returns poisoned data. -/
def State.extPoison (s : State) (a n : Nat) : Bool :=
  (List.range (spans 8 a n)).any (fun k => Tab.get markClean s.marks (s.extMarkKey (a / 8 * 8 + 8 * k)) == .poisoned)

/-- The marks of the words of [a, a + n) after a store with data poisoned or not. -/
def State.extMarks (s : State) (a n : Nat) (poison : Bool) : State :=
  (List.range (spans 8 a n)).foldl (fun (s : State) k =>
    let w := a / 8 * 8 + 8 * k
    if poison then { s with marks := Tab.set markClean s.marks (s.extMarkKey w) .poisoned }
    else if a ≤ w ∧ w + 8 ≤ a + n then { s with marks := Tab.set markClean s.marks (s.extMarkKey w) .clean }
    else s) s

/-- A write that waits for its pre-image (R443) covers part of [a, a + n) with poisoned data. -/
def State.heldPoison (s : State) (a n : Nat) : Bool :=
  s.ckp.held.any (fun h => h.poison && overlaps h.addr h.data.length a n)

/-- Read `n` bytes of memory: the error met if any (a refused access reads nothing), the bytes, and the state after
the checkers have counted and reported what the read found. (Log entry 81: DEDUCED, unsafe.) -/
def State.load (s : State) (a n : Nat) : Option MemErr × List Byte × State :=
  match s.memErr a n false with
  | some e => (some e, [], s)
  | none =>
    match regionOf a with
    | .hbm =>
      let (p, s) := s.readLines (a / 64 * 64) (spans 64 a n)
      (if p || s.heldPoison a n then some .poison else none, s.bytes a n, s)
    | .scratch =>
      let (e, s) := s.readWords (a / 8 * 8) (spans 8 a n)
      (e, s.bytes a n, s)
    | _ => (if s.extPoison a n then some .poison else none, s.bytes a n, s)

/-- The mark an injection of FLIP check bits leaves (R436). -/
def flipMark (flip : Nat) : Mark := if flip = 2 then .uncorrected else .corrected

/-- The mark of a line after a write of its bytes [lo, hi) with data poisoned or not (R168, R436). Inverted bits leave a
poisoned line within two symbols of its codeword, so it stays poisoned (R167). -/
def State.writeLine (s : State) (line lo hi : Nat) (poison : Bool) : State :=
  let whole := lo = 0 ∧ hi = 64
  let (p, s) := if whole then (false, s.wakeStack (hbmChannel line)) else s.readLine line
  let s := s.setLineMark line (if poison || p then .poisoned else .clean)
  match s.takeInjection 2 (hbmChannel line) line with
  | (some f, s) => if poison || p then s else s.setLineMark line (flipMark f)
  | (none, s) => s

def State.writeLines (s : State) (a n : Nat) (poison : Bool) : Nat → State
  | 0 => s
  | k + 1 =>
    if n = 0 then s
    else
      let m := min n (64 - a % 64)
      State.writeLines (s.writeLine (a / 64 * 64) (a % 64) (a % 64 + m) poison) (a + m) (n - m) poison k

/-- The mark of a scratchpad word after a write of some of its bytes (R39, R59): a write of all eight bytes leaves the
mark of its data; a partial write reads the word first, and an error that read meets leaves the merged word poisoned. -/
def State.writeWord (s : State) (w lo hi : Nat) (poison : Bool) : State :=
  let (e, s) := if lo = 0 ∧ hi = 8 then (none, s) else s.readWord w
  let s := s.setWordMark w (if poison || e.isSome then .poisoned else .clean)
  match s.takeInjection 0 ((w - scratchBase) / 0x10_0000) ((w - scratchBase) % 0x10_0000) with
  | (some f, s) => if poison || e.isSome then s else s.setWordMark w (flipMark f)
  | (none, s) => s

def State.writeWords (s : State) (a n : Nat) (poison : Bool) : Nat → State
  | 0 => s
  | k + 1 =>
    if n = 0 then s
    else
      let m := min n (8 - a % 8)
      State.writeWords (s.writeWord (a / 8 * 8) (a % 8) (a % 8 + m) poison) (a + m) (n - m) poison k

/-! ### Copy-on-write of the protected regions (R443, R445) -/

/-- The protected region of a kind that holds an address. -/
def State.ckpRegionOf (s : State) (kind a : Nat) : Option CkpRegion :=
  if s.bit CKP_CTL CKP_CTL_EN then
    s.ckp.regions.find? (fun r => r.kind == kind && decide (r.base ≤ a) && decide (a < r.base + r.pages * 4096))
  else none

/-- Room for one more pre-image in the staging ring. -/
def State.stageRoom (s : State) : Bool :=
  decide ((s.ckp.pre.length + 1) * 4096 ≤ s.gf CKP_STAGE CKP_STAGE_MIB * 2 ^ 20)

/-- The snapshot pin keeps a pre-image (R451): of a page of a SNAP region, the earliest one tagged with the pinned mark or
later, which is the page's content at the mark. -/
def State.pinKeeps (s : State) (p : PreImage) : Bool :=
  match s.ckp.pin with
  | some m => decide (m ≤ p.tag) && s.ckp.regions.any (fun r => r.ix == p.region && r.snap)
      && !s.ckp.pre.any (fun x => x.region == p.region && x.page == p.page && decide (m ≤ x.tag) && decide (x.tag < p.tag))
  | none => false

/-- A pre-image that only a snapshot pin keeps (R448, R451). -/
def State.onlyPinned (s : State) (p : PreImage) : Bool :=
  s.pinKeeps p && decide (s.rd64 CKP_REPLICA > p.tag) && !s.ckp.captures.any (fun c => c.mark == p.tag)

/-- The snapshot is abandoned (R451). -/
def State.abandonPin (s : State) : State :=
  let s := { s with ckp := { s.ckp with pre := s.ckp.pre.filter (fun p => !s.onlyPinned p), pin := none, pinDone := [] } }
  (s.sf CKP_STATUS CKP_STATUS_SNAP_ABORT 1).sf CKP_STATUS CKP_STATUS_PIN 0

/-- The checkpoint engine reads a page through its channels' checkers (R168): whether a line is poisoned, the page as it
stands in memory, and the state after the reads. -/
def State.readPage (s : State) (a : Nat) : Bool × List Byte × State :=
  let (p, s) := s.readLines a 64
  (p, s.memBytes a 4096, s)

/-- A pin that leaves no room in the staging ring is abandoned (R451). -/
def State.makeRoom (s : State) : State := if s.stageRoom || s.ckp.pin.isNone then s else s.abandonPin

/-- A page's content is kept under a mark (R443, R451). -/
def State.takeImage (s : State) (r : CkpRegion) (page mark : Nat) : State :=
  let q := s.readPage (r.base + page * 4096)
  { q.2.2 with ckp := { q.2.2.ckp with pre := q.2.2.ckp.pre ++ [⟨r.ix, page, mark, q.2.1, q.1⟩] } }

/-- A page has been written since the last mark. -/
def State.touchPage (s : State) (r : CkpRegion) (page : Nat) : State :=
  { s with ckp := { s.ckp with touched := (r.ix, page) :: s.ckp.touched } }

/-- The pre-image of one page before its first write since the last mark; none when the staging ring has no room. -/
def State.capturePage (s : State) (r : CkpRegion) (page : Nat) : Option State :=
  if s.ckp.touched.contains (r.ix, page) then some s
  else if s.makeRoom.stageRoom then some ((s.makeRoom.takeImage r page (s.rd64 CKP_MARKED)).touchPage r page)
  else none

/-- Pre-images of the KIND 0 pages that [a, a + n) touches; none when a first write must wait. (Log entry 210:
DEDUCED, unsafe.) -/
def State.capture (s : State) (a n : Nat) : Option State :=
  (List.range (spans 4096 a n)).foldl (fun (acc : Option State) k =>
    match acc with
    | none => none
    | some s =>
      match s.ckpRegionOf 0 ((a / 4096 + k) * 4096) with
      | some r => s.capturePage r (a / 4096 + k - r.base / 4096)
      | none => some s) (some s)

/-- A write to a KIND 1 page is copied once it is visible (R445). -/
def State.noteAppend (s : State) (a : Nat) (bs : List Byte) : State :=
  match s.ckpRegionOf 1 a with
  | some r => { s with ckp := { s.ckp with
      appends := s.ckp.appends ++ [⟨s.ckp.appendNo, r.ix, a - r.base, bs, false⟩], appendNo := s.ckp.appendNo + 1 } }
  | none => s

/-- The bytes of a write to HBM reach the lines. -/
def State.landHbm (s : State) (a : Nat) (bs : List Byte) (poison : Bool) : State :=
  ((s.putBytes a bs).writeLines a bs.length poison (spans 64 a bs.length)).noteAppend a bs

/-- A write to a line that a held write covers waits behind it, so writes of one line land in order (R166). (Log
entry 210: DEDUCED, unsafe.) -/
def State.behindHeld (s : State) (a n : Nat) : Bool :=
  s.ckp.held.any (fun h => overlaps (h.addr / 64 * 64) (spans 64 h.addr h.data.length * 64) (a / 64 * 64) (spans 64 a n * 64))

/-- A write to HBM (R443): it waits, and is counted in STALLS, when a first write finds no room for its pre-image; a
write of a line that such a write covers waits behind it. (Log entry 210: DEDUCED, unsafe.) -/
def State.writeHbm (s : State) (a : Nat) (bs : List Byte) (poison : Bool) : State :=
  if bs.isEmpty then s
  else if s.behindHeld a bs.length then { s with ckp := { s.ckp with held := s.ckp.held ++ [⟨a, bs, poison⟩] } }
  else match s.capture a bs.length with
    | some s => s.landHbm a bs poison
    | none =>
      let s := s.cnt CKP_STATUS CKP_STATUS_STALLS 1
      { s with ckp := { s.ckp with held := s.ckp.held ++ [⟨a, bs, poison⟩] } }

/-- Store bytes (with their poison mark) to memory: refused as a whole on an error, else written and marked. (Log
entry 81: DEDUCED, unsafe.) -/
def State.store (s : State) (a : Nat) (bs : List Byte) (poison : Bool := false) : Option MemErr × State :=
  match s.memErr a bs.length true with
  | some e => (some e, s)
  | none =>
    match regionOf a with
    | .hbm => (none, s.writeHbm a bs poison)
    | .scratch => (none, (s.putBytes a bs).writeWords a bs.length poison (spans 8 a bs.length))
    | _ => (none, (s.putBytes a bs).extMarks a bs.length poison)

/-- A store whose error is dropped (the writer has no completion to report it in). -/
def State.poke (s : State) (a : Nat) (bs : List Byte) : State := (s.store a bs).2

/-- A little-endian number read without regard to marks, for tables the device reads. -/
def State.le (s : State) (a n : Nat) : Nat := leNat (s.bytes a n)

/-! ### Measurement registers (R316) -/

/-- Extend a measurement register: MR = SHAKE256(MR, tag as 4 bytes, D), and append the log record. -/
def State.extendMR (s : State) (i tag : Nat) (d : List Byte) : State :=
  let mr := Tab.get mrZero s.sec.mr i
  let mr' := shake (mr ++ leBytes 4 tag ++ d) 64
  let room := s.sec.log.length < 4096
  { s with sec := { s.sec with
      mr := Tab.set mrZero s.sec.mr i mr'
      log := if room then s.sec.log ++ [⟨i, tag, d, s.now⟩] else s.sec.log
      logTrunc := s.sec.logTrunc || !room } }

end Sys2Proof.Machine
end

