-- ==== Sys2Proof/Machine/Flags.lean ====
section
/-! DEFINITION. Synchronisation flags (04_flags_and_barriers.md): the five operations, translation of virtual
identifiers through the nine caches, and the flag form of a completion. -/

namespace Sys2Proof.Machine

def flagZero : Nat → FlagGroup := fun _ => FlagGroup.zero

/-- One group of physical flags. -/
def State.flagGroup (s : State) (g : Nat) : FlagGroup := Tab.get flagZero s.flags.groups g

/-- VALUE and OVERSET of a physical flag (R64). -/
def State.flagVal (s : State) (p : Nat) : Bool := (s.flagGroup (p / 64)).value.getLsbD (p % 64)
def State.flagOver (s : State) (p : Nat) : Bool := (s.flagGroup (p / 64)).overset.getLsbD (p % 64)

/-- Write one bit of a 64-bit group word. -/
def putBit64 (w : W64) (i : Nat) (b : Bool) : W64 :=
  if b then w ||| (1#64 <<< i) else w &&& ~~~(1#64 <<< i)

/-- Replace VALUE and OVERSET of a physical flag. -/
def State.putFlag (s : State) (p : Nat) (v o : Bool) : State :=
  let g := s.flagGroup (p / 64)
  let g' : FlagGroup := ⟨putBit64 g.value (p % 64) v, putBit64 g.overset (p % 64) o⟩
  { s with flags := { s.flags with groups := Tab.set flagZero s.flags.groups (p / 64) g' } }

/-- Count a transition of OVERSET from zero to one, and latch the first (04_flags_and_barriers.md FLG_OVERSET_CNT,
FLG_OVERSET_FIRST). -/
def State.oversetEvent (s : State) (p : Nat) : State :=
  let s := s.cnt FLG_OVERSET_CNT FLG_OVERSET_CNT_COUNT 1
  if s.bit FLG_OVERSET_FIRST FLG_OVERSET_FIRST_VALID then s
  else s.wr FLG_OVERSET_FIRST (BitVec.ofNat 32 (2 ^ 31 + p))

/-- A group lost to an uncorrected error (R66): every VALUE is zeroed and every OVERSET set; each OVERSET that was zero
counts as a transition, and FLG_OVERSET_FIRST takes the lowest of them. -/
def State.groupLost (s : State) (g : Nat) : State :=
  let old := (s.flagGroup g).overset
  let news := (List.range 64).filter (fun i => !old.getLsbD i)
  let s := { s with flags := { s.flags with groups := Tab.set flagZero s.flags.groups g ⟨0, BitVec.allOnes 64⟩ } }
  news.foldl (fun (s : State) i => s.oversetEvent (g * 64 + i)) s

/-- The read that every operation on a flag makes of its group (R66): a corrected error is reported as corrected; an
uncorrected one is reported with the group number, zeroes every VALUE of the group and sets every OVERSET. -/
def State.flagRead (s : State) (p : Nat) : State :=
  let g := p / 64
  let inj := s.wasInjected 1 (g / 512) g
  let clean (s : State) : State :=
    ({ s with flags := { s.flags with ecc := Tab.set markClean s.flags.ecc g .clean } }).dropInjected 1 (g / 512) g
  match Tab.get markClean s.flags.ecc g with
  | .corrected => (clean s).fault 0x03 (g / 512) g inj
  | .uncorrected =>
    (clean (s.groupLost g)).fault 0x04 (g / 512) g inj
  | _ => s

/-- The group's stored state has changed: an injection armed at it goes with this write (R436). -/
def State.flagWritten (s : State) (p : Nat) : State :=
  match s.takeInjection 1 (p / 64 / 512) (p / 64) with
  | (some f, s) => { s with flags := { s.flags with ecc := Tab.set markClean s.flags.ecc (p / 64) (flipMark f) } }
  | (none, s) => s

/-- A set as flag storage performs it (R65), the waits held there not yet looked at. -/
def State.flagRaise (s : State) (p : Nat) : State :=
  let s := s.flagRead p
  let s := if s.flagVal p && !s.flagOver p then s.oversetEvent p else s
  (s.putFlag p true (s.flagOver p || s.flagVal p)).flagWritten p

/-- Clear (R65). -/
def State.flagClear (s : State) (p : Nat) : State :=
  let s := s.flagRead p
  (s.putFlag p false (s.flagOver p)).flagWritten p

/-- Clear-OVERSET (R65). -/
def State.flagClearOver (s : State) (p : Nat) : State :=
  let s := s.flagRead p
  (s.putFlag p (s.flagVal p) false).flagWritten p

/-- A wait passes when VALUE is one; a wait-and-clear that passes consumes the flag (R65). -/
def State.flagTake (s : State) (p : Nat) (consume : Bool) : Bool × State :=
  let s := s.flagRead p
  if s.flagVal p then (true, if consume then (s.putFlag p false (s.flagOver p)).flagWritten p else s) else (false, s)

/-- Take a held wait off, or put one in (R65). -/
def State.dropWaiter (s : State) (who p : Nat) : State :=
  { s with flags := { s.flags with waiters := s.flags.waiters.filter (fun w => !(w.who == who && w.pflag == p)) } }

def State.holdWaiter (s : State) (who p : Nat) (consume : Bool) : State :=
  let s := s.dropWaiter who p
  { s with flags := { s.flags with waiters := s.flags.waiters ++ [⟨who, p, consume, 0⟩] } }

/-- A wait has passed: its requester goes on. -/
def State.passWaiter (s : State) (who p : Nat) : State :=
  let s := s.dropWaiter who p
  { s with flags := { s.flags with passed := s.flags.passed ++ [(who, p)] } }

/-- The arbiter kind of a flag group's lottery (R74). -/
def arbFlagGroup : Nat := 2

/-- The waits held at a flag are evaluated in the cycle after VALUE became one (R65, R74): every wait passes; of the
wait-and-clears one passes and consumes the flag, the only one or the winner of the group's lottery. (Log entry 40:
DEDUCED, unsafe.) -/
def State.serveWaiters (s : State) (p : Nat) : State :=
  if !s.flagVal p then s
  else
    let here := s.flags.waiters.filter (fun w => w.pflag == p)
    let s := (here.filter (fun w => !w.consume)).foldl (fun (s : State) w => s.passWaiter w.who p) s
    let takes := ((here.filter (fun w => w.consume)).foldl (fun l w => insertKey l w.who) []).map (fun w => (w, 1))
    let (win, s) := match takes with
      | [] => (none, s)
      | [w] => (some w.1, s)
      | _ => s.drawNow (arbId arbFlagGroup (p / 64)) 15 takes
    match win with
    | some who => ((s.passWaiter who p).putFlag p false (s.flagOver p)).flagWritten p
    | none => s

/-- Translation caches: 0 to 7 the compute dies', 8 the I/O die's (R69). -/
def State.xlatCache (s : State) (k : Nat) : List FlagXlat := Tab.get (fun _ => []) s.flags.caches k

def State.setXlatCache (s : State) (k : Nat) (l : List FlagXlat) : State :=
  { s with flags := { s.flags with caches := Tab.set (fun _ => []) s.flags.caches k l } }

/-- The group table entry of a virtual group as HBM holds it now (R67); none when the context record is not VALID,
VGROUP is not below NGROUPS, the entry is not VALID, or a fetch meets poison or an error (R68, R69). The state carries
what the HBM controller reported. -/
def State.fetchXlat (s : State) (ctx vgroup : Nat) : Option FlagXlat × State :=
  let base := s.gf FLG_CTX_BASE FLG_CTX_BASE_BASE <<< 16
  onLoad (s.load (base + ctx * 16) 16)
    (fun rec s =>
      let w := fieldLE rec 0 8
      let ngroups := fieldLE rec 8 4 % 2 ^ 19
      if w % 2 = 0 ∨ vgroup ≥ ngroups then (none, s)
      else
        let tbase := bitsOf w 6 46 <<< 6
        onLoad (s.load (tbase + vgroup * 4) 4)
          (fun e s =>
            let e := leNat e
            if bitAt e 31 then (some ⟨ctx, vgroup, bitAt e 30, bitAt e 29, bitAt e 28, e % 4096⟩, s) else (none, s))
          (fun _ s => (none, s)))
    (fun _ s => (none, s))

/-- The translation of (context, virtual group) through cache `k`: a hit moves to the front, a miss fetches and caches,
replacing the least recently used of 2,048 entries (R69). -/
def State.lookupXlat (s : State) (k ctx vgroup : Nat) : Option FlagXlat × State :=
  let l := s.xlatCache k
  match l.find? (fun x => x.ctx == ctx && x.vgroup == vgroup) with
  | some x => (some x, s.setXlatCache k (x :: l.filter (fun y => !(y.ctx == ctx && y.vgroup == vgroup))))
  | none =>
    let r := s.fetchXlat ctx vgroup
    onSome r.1 (none, r.2) (fun x => (some x, r.2.setXlatCache k ((x :: l).take 2048)))

/-- Rights an operation needs (R68). -/
structure FlagNeed where
  wr : Bool
  sr : Bool
  remote : Bool
deriving DecidableEq, Repr

def needSet : FlagNeed := ⟨false, true, false⟩
def needWait : FlagNeed := ⟨true, false, false⟩
def needConsume : FlagNeed := ⟨true, true, false⟩
def needRemoteSet : FlagNeed := ⟨false, true, true⟩

/-- Translate a virtual flag identifier: the physical flag, or none when translation fails (R67, R68, R70). -/
def State.translate (s : State) (k ctx vflag : Nat) (need : FlagNeed) : Option Nat × State :=
  if s.gf FLG_CTL FLG_CTL_EN = 0 then (none, s)
  else
    match s.lookupXlat k ctx (vflag / 64 % 2 ^ 18) with
    | (none, s) => (none, s)
    | (some x, s) =>
      if (need.wr && !x.wr) || (need.sr && !x.sr) || (need.remote && !x.remote) then (none, s)
      else (some (x.pgroup * 64 + vflag % 64), s)

/-- The compute die's cache that serves a cluster (R69). -/
def dieOf (c : Nat) : Nat := c / 128

end Sys2Proof.Machine
end

