-- ==== Sys2Proof/Machine/Rings.lean ====
section
/-! DEFINITION. Command and completion rings (03_compute_clusters.md R42 to R47, R491): the register layout that
clusters, collective queues and the transport and security request rings share, written once. A ring is named by the
offset of its CMD_BASE register; its ERR register's offset travels beside it. -/

namespace Sys2Proof.Machine

def ringReset : Nat → Ring := fun _ => Ring.reset

def State.ring (s : State) (b : Nat) : Ring := Tab.get ringReset s.rings b
def State.setRing (s : State) (b : Nat) (r : Ring) : State := { s with rings := Tab.set ringReset s.rings b r }

/-- Register offsets of a ring's block (R41, R83, R237, R322). -/
def rCmpl (b : Nat) : Nat := b + 8
def rCtl (b : Nat) : Nat := b + 0x10
def rHead (b : Nat) : Nat := b + 0x18
def rStatus (b : Nat) : Nat := b + 0x1C

def State.cmdEn (s : State) (b : Nat) : Bool := s.bit (rCtl b) CLU_CTL_CMD_EN
def State.cmplEn (s : State) (b : Nat) : Bool := s.bit (rCtl b) CLU_CTL_CMPL_EN
def State.cmdBase (s : State) (b : Nat) : Nat := s.gf b CLU_CMD_BASE_BASE <<< 12
def State.cmdLog (s : State) (b : Nat) : Nat := s.gf b CLU_CMD_BASE_LOG2N
def State.cmplBase (s : State) (b : Nat) : Nat := s.gf (rCmpl b) CLU_CMPL_BASE_BASE <<< 12
def State.cmplLog (s : State) (b : Nat) : Nat := s.gf (rCmpl b) CLU_CMPL_BASE_LOG2N
def State.cmdHead (s : State) (b : Nat) : Nat := s.gf (rStatus b) CLU_STATUS_CMD_HEAD
def State.cmplTail (s : State) (b : Nat) : Nat := s.gf (rStatus b) CLU_STATUS_CMPL_TAIL
def State.fctx (s : State) (b : Nat) : Nat := s.gf (rCtl b) CLU_CTL_FCTX

/-- Free-running 16-bit index arithmetic. -/
def ix16 (n : Nat) : Nat := n % 2 ^ 16
def ixDiff (a b : Nat) : Nat := (a + 2 ^ 16 - b) % 2 ^ 16

/-- A ring of 2^log2n entries of `sz` bytes is valid: LOG2N in range and the ring wholly in HBM (R42). -/
def ringValid (base log2n sz : Nat) : Bool :=
  decide (6 ≤ log2n) && decide (log2n ≤ 15) && inHbm base (sz * 2 ^ log2n)

/-- The consistency code of setting CMD_EN, none when it is accepted (R42); `cmplOn` is CMPL_EN as written. -/
def State.cmdEnCheck (s : State) (b : Nat) (cmplOn : Bool) : Option Nat :=
  if !ringValid (s.cmdBase b) (s.cmdLog b) 64 then some 0x0640
  else if overlaps (s.cmdBase b) (64 * 2 ^ s.cmdLog b) (s.cmplBase b) (16 * 2 ^ s.cmplLog b) then some 0x0642
  else if !cmplOn then some 0x0643
  else none

/-- The consistency code of setting CMPL_EN; an unconfigured command ring overlaps nothing (R42). -/
def State.cmplEnCheck (s : State) (b : Nat) : Option Nat :=
  if !ringValid (s.cmplBase b) (s.cmplLog b) 16 then some 0x0641
  else if ringValid (s.cmdBase b) (s.cmdLog b) 64
      && overlaps (s.cmdBase b) (64 * 2 ^ s.cmdLog b) (s.cmplBase b) (16 * 2 ^ s.cmplLog b) then some 0x0642
  else none

/-- Write REFUSAL: a code, or zero after an accepted enable. -/
def State.refusal (s : State) (err code : Nat) : State := s.sf err CLU_ERR_REFUSAL code

/-- A write of one half of CMD_BASE (R42): no effect while CMD_EN is one; otherwise the half is stored and the
command-ring indices go to zero. Descriptors already issued go on; they belong to the old epoch. (Log entry 35:
DEDUCED, unsafe.) -/
def State.writeCmdBase (s : State) (b : Nat) (hi : Bool) (v : W32) : State :=
  if s.cmdEn b then s
  else
    let keep := if hi then v.toNat % 2 ^ 20 else v.toNat / 4096 * 4096 + v.toNat % 32
    let s := s.wr (if hi then b + 4 else b) (BitVec.ofNat 32 keep)
    let s := s.sf (rStatus b) CLU_STATUS_CMD_HEAD 0
    let r := s.ring b
    s.setRing b { r with tail := 0, fetchIx := 0, fetched := [], fetchFail := false, epoch := r.epoch + 1, done := [] }

/-- A write of one half of CMPL_BASE (R42): no effect while CMPL_EN is one; otherwise the half is stored, the
completion-ring indices go to zero and the first pass of PHASE starts. -/
def State.writeCmplBase (s : State) (b : Nat) (hi : Bool) (v : W32) : State :=
  if s.cmplEn b then s
  else
    let keep := if hi then v.toNat % 2 ^ 20 else v.toNat / 4096 * 4096 + v.toNat % 32
    let s := s.wr (if hi then rCmpl b + 4 else rCmpl b) (BitVec.ofNat 32 keep)
    (s.sf (rStatus b) CLU_STATUS_CMPL_TAIL 0).sf (rHead b) CLU_CMPL_HEAD_HEAD 0

/-- A write of a ring's CTL register (R42, R490). Each enable bit is judged by its change: a set runs the check (with
`extra`, a further check of the owning block on CMD_EN) and a refusal leaves the bit clear and writes its code; FCTX
changes only while CMD_EN was zero; clearing CMPL_EN takes effect only when CMD_EN is zero and nothing issued is
outstanding. (Log entry 34: DEDUCED, unsafe.) -/
def State.writeRingCtl (s : State) (b err : Nat) (hasFctx : Bool) (extra : Option Nat) (v : W32) : State :=
  let cmd := s.cmdEn b
  let cmpl := s.cmplEn b
  let wCmd := bitAt v.toNat 0
  let wCmpl := bitAt v.toNat 1
  let s := if hasFctx && !cmd then s.sf (rCtl b) CLU_CTL_FCTX (bitsOf v.toNat 16 12) else s
  let s := if wCmpl && !cmpl then
      match s.cmplEnCheck b with
      | none => (s.sf (rCtl b) CLU_CTL_CMPL_EN 1).refusal err 0
      | some c => s.refusal err c
    else s
  let s := if wCmd && !cmd then
      match (s.cmdEnCheck b (s.cmplEn b)) <|> extra with
      | none => (s.sf (rCtl b) CLU_CTL_CMD_EN 1).refusal err 0
      | some c => s.refusal err c
    else if !wCmd && cmd then s.sf (rCtl b) CLU_CTL_CMD_EN 0
    else s
  if !wCmpl && cmpl && !s.cmdEn b && (s.ring b).issued.isEmpty then s.sf (rCtl b) CLU_CTL_CMPL_EN 0 else s

/-- A write of `v` to a ring's CTL register sets an enable bit that was zero (R490). -/
def State.setsEnable (s : State) (b : Nat) (v : W32) : Bool :=
  (bitAt v.toNat 0 && !s.cmdEn b) || (bitAt v.toNat 1 && !s.cmplEn b)

/-- A doorbell write (R43): a tail that names more descriptors than the ring holds is ignored and sets OVERRUN and
HALTED; any other is recorded. -/
def State.writeDoorbell (s : State) (b err tail : Nat) : State :=
  if ixDiff tail (s.cmdHead b) > 2 ^ s.cmdLog b then
    (s.sf err CLU_ERR_OVERRUN 1).sf err CLU_ERR_HALTED 1
  else s.setRing b { s.ring b with tail := ix16 tail }

/-- A completion-ring consumer index write (R47). -/
def State.writeCmplHead (s : State) (b : Nat) (v : W32) : State := s.sf (rHead b) CLU_CMPL_HEAD_HEAD (v.toNat % 2 ^ 16)

/-- The completion ring has room for a record (R47). -/
def State.cmplRoom (s : State) (b : Nat) : Bool :=
  decide (ixDiff (s.cmplTail b) (s.gf (rHead b) CLU_CMPL_HEAD_HEAD) < 2 ^ s.cmplLog b)

/-- Write a 16-byte completion record with its PHASE in byte 14 (R47) and advance CMPL_TAIL: bytes 0 to 13 are given. -/
def State.writeCmplRecord (s : State) (b : Nat) (bytes14 : List Byte) : State :=
  let t := s.cmplTail b
  let size := 2 ^ s.cmplLog b
  let phase := if (t / size) % 2 = 0 then 1 else 0
  let s := s.poke (s.cmplBase b + t % size * 16) (fit 14 bytes14 ++ [BitVec.ofNat 8 phase, 0])
  s.sf (rStatus b) CLU_STATUS_CMPL_TAIL (ix16 (t + 1))

/-- The completion record of R47: TAG, STATUS, a 32-bit count, CYCLES and INDEX. CYCLES is a free value: the model
carries no latencies. (Log entry 30: DESIGN CHOICE, safe.) -/
def State.ringRecord (s : State) (b tag status count ix : Nat) : State :=
  let cyc := (s.fresh 32).toNat
  s.tick.writeCmplRecord b (leBytes 2 tag ++ leBytes 2 status ++ leBytes 4 count ++ leBytes 4 cyc ++ leBytes 2 ix)

/-- CMD_HEAD past every completed descriptor at its front (R45), `n` at most. -/
def advanceHead : Nat → Nat → List Nat → Nat × List Nat
  | 0, h, done => (h, done)
  | n + 1, h, done => if done.contains h then advanceHead n (ix16 (h + 1)) (done.filter (· != h)) else (h, done)

/-- Count a descriptor of the ring as completed (R45): one of an earlier epoch does not move the new ring's head.
(Log entry 35: DEDUCED, unsafe.) -/
def State.retire (s : State) (b ix epoch : Nat) : State :=
  let r := s.ring b
  let r := { r with issued := r.issued.filter (fun d => !(d.ix == ix && d.epoch == epoch)) }
  if r.epoch = epoch then
    let (h, done) := advanceHead (2 ^ 16) (s.cmdHead b) (r.done ++ [ix])
    (s.setRing b { r with done := done }).sf (rStatus b) CLU_STATUS_CMD_HEAD h
  else s.setRing b r

/-- The 64-byte entry `ix` of a command ring: its bytes, or a fetch that failed (R491). -/
def State.fetchEntry (s : State) (b ix : Nat) : Option (List Byte) × State :=
  onLoad (s.load (s.cmdBase b + ix % 2 ^ s.cmdLog b * 64) 64) (fun bs s => (some bs, s)) (fun _ s => (none, s))

/-- Header fields of a descriptor. -/
def dOpcode (d : List Byte) : Nat := wordFd d 0 0 8
def dOrder (d : List Byte) : Bool := wordFd d 0 14 1 == 1
def dCmpl (d : List Byte) : Bool := wordFd d 0 15 1 == 1
def dWaitFlag (d : List Byte) : Nat := wordFd d 1 0 24
def dWaitOp (d : List Byte) : Nat := wordFd d 1 24 2
def dSetFlag (d : List Byte) : Nat := wordFd d 2 0 24
def dSetOp (d : List Byte) : Nat := wordFd d 2 24 2
def dTag (d : List Byte) : Nat := wordFd d 3 0 16

end Sys2Proof.Machine
end

