-- ==== Sys2Proof/Machine/Descriptors.lean ====
section
/-! DEFINITION. Operand forms of the cluster descriptors (03_compute_clusters.md R49 to R56, R492): the unit of each
opcode, the fields of each body, the operands an operation uses, and the checks at issue in the order of R492. -/

namespace Sys2Proof.Machine

/-- Unit queue of a descriptor's opcode (R49): 0 front end, 1 matrix, 2 vector, 3 special-function, 4 movers; none for
an opcode of no operation. -/
def unitOf (op : Nat) : Option Nat :=
  if op = 0x00 ∨ op = 0x02 then some 0
  else if op = 0x10 then some 1
  else if op = 0x28 then some 3
  else if (0x20 ≤ op ∧ op ≤ 0x25) ∨ op = 0x30 then some 2
  else if 0x40 ≤ op ∧ op ≤ 0x44 then some 4
  else none

/-! ### Fields -/

/-- A scratchpad offset and a format code of word `w`. -/
def dOff (d : List Byte) (w : Nat) : Nat := wordFd d w 0 19
def dFmt (d : List Byte) (w : Nat) : Nat := wordFd d w 20 4

def dFunc (d : List Byte) : Nat := wordFd d 8 0 8
def dK (d : List Byte) : Nat := wordFd d 8 8 8
def dImm (d : List Byte) : Nat := wordFd d 9 0 32
def dYImm (d : List Byte) : Bool := wordFd d 5 24 1 == 1
def vecCount (d : List Byte) : Nat := wordFd d 7 0 24
def cvtCount (d : List Byte) : Nat := wordFd d 8 0 24
def cvtRin (d : List Byte) : Bool := wordFd d 6 24 1 == 1
def cvtRout (d : List Byte) : Bool := wordFd d 7 24 1 == 1
def cvtRnd (d : List Byte) : Bool := wordFd d 8 24 1 == 1
def cvtSat (d : List Byte) : Bool := wordFd d 8 25 1 == 1
def mmaMT (d : List Byte) : Nat := wordFd d 7 0 8
def mmaNT (d : List Byte) : Nat := wordFd d 7 8 8
def mmaKT (d : List Byte) : Nat := wordFd d 7 16 8
def mmaAcc (d : List Byte) : Bool := wordFd d 6 20 1 == 1
def dmaSrc (d : List Byte) : Nat := fieldLE d 16 8 % 2 ^ 52
def dmaDst (d : List Byte) : Nat := fieldLE d 24 8 % 2 ^ 52
def dmaLen (d : List Byte) : Nat := wordFd d 8 0 32
def dmaMover (d : List Byte) : Nat := wordFd d 9 0 2
def dmaRows (d : List Byte) : Nat := wordFd d 10 0 16
def dmaSrcStride (d : List Byte) : Nat := wordFd d 11 0 32
def dmaDstStride (d : List Byte) : Nat := wordFd d 12 0 32
def dmaList (d : List Byte) : Nat := wordFd d 11 0 19
def barNo (d : List Byte) : Nat := wordFd d 4 0 12

/-! ### Operands in scratchpad -/

/-- A range of the cluster's own scratchpad: `rows` pieces of `len` bytes, `stride` apart. -/
structure SpadRange where
  off : Nat
  len : Nat
  rows : Nat
  stride : Nat
deriving DecidableEq, Repr

/-- The range ends at or below offset 0x7_FFFF. -/
def SpadRange.fits (r : SpadRange) : Bool :=
  r.rows == 0 || r.len == 0 || decide (r.off + (r.rows - 1) * r.stride + r.len ≤ 0x8_0000)

/-- One contiguous operand. -/
def spadOne (off len : Nat) : SpadRange := ⟨off, len, 1, 0⟩

/-- Bytes of one matrix record: a block record, or 32 scalars with an implied scale (R50). -/
def mmaRecord (fmt : Nat) : Nat := if isBlock fmt then recordBytes fmt else 32 * (elemBits fmt / 8)

def mmaA (d : List Byte) : SpadRange := ⟨dOff d 4, mmaKT d * mmaRecord (dFmt d 4), 32 * mmaMT d, wordFd d 8 0 19⟩
def mmaB (d : List Byte) : SpadRange := ⟨dOff d 5, mmaKT d * mmaRecord (dFmt d 5), 32 * mmaNT d, wordFd d 9 0 19⟩
def mmaC (d : List Byte) : SpadRange := ⟨dOff d 6, 32 * mmaNT d * 4, 32 * mmaMT d, wordFd d 10 0 19⟩

/-- Bytes of a vector element. -/
def vecWidth (fmt : Nat) : Nat := if fmt = 1 then 2 else 4

/-- X, Y and Z are used (R51). -/
def usesX (op : Nat) : Bool := op != 0x25
def usesY (d : List Byte) : Bool := dOpcode d == 0x20 && !dYImm d || dOpcode d == 0x21 && !dYImm d
def usesZFmt (op : Nat) : Bool := op != 0x23 && op != 0x24

/-- Bytes a vector operation writes at Z. -/
def vecZLen (d : List Byte) : Nat :=
  if dOpcode d = 0x23 then 4 else if dOpcode d = 0x24 then dK d * 8 else vecCount d * vecWidth (dFmt d 6)

/-- Formats of the operands an operation uses. -/
def usedFormats (d : List Byte) : List Nat :=
  let op := dOpcode d
  if op = 0x10 then [dFmt d 4, dFmt d 5]
  else if op = 0x30 then [dFmt d 4, dFmt d 5]
  else if (0x20 ≤ op ∧ op ≤ 0x25) ∨ op = 0x28 then
    (if usesX op then [dFmt d 4] else []) ++ (if usesY d then [dFmt d 5] else []) ++ (if usesZFmt op then [dFmt d 6] else [])
  else []

/-- Scratchpad operands an operation uses. -/
def usedRanges (d : List Byte) : List SpadRange :=
  let op := dOpcode d
  if op = 0x10 then [mmaA d, mmaB d, mmaC d]
  else if op = 0x30 then
    [spadOne (dOff d 4) (storedBytes (dFmt d 4) (cvtCount d)), spadOne (dOff d 5) (storedBytes (dFmt d 5) (cvtCount d))]
      ++ (if cvtRin d then [spadOne (dOff d 6) (4 * cvtCount d)] else [])
      ++ (if cvtRout d then [spadOne (dOff d 7) (4 * cvtCount d)] else [])
  else if (0x20 ≤ op ∧ op ≤ 0x25) ∨ op = 0x28 then
    (if usesX op then [spadOne (dOff d 4) (vecCount d * vecWidth (dFmt d 4))] else [])
      ++ (if usesY d then [spadOne (dOff d 5) (vecCount d * vecWidth (dFmt d 5))] else [])
      ++ [spadOne (dOff d 6) (vecZLen d)]
  else if op = 0x42 ∨ op = 0x43 then [spadOne (dmaList d) (8 * dmaRows d)]
  else []

/-! ### The checks at issue (R492) -/

/-- FUNC values of an opcode (R51). -/
def funcs (op : Nat) : Nat :=
  if op = 0x20 then 5 else if op = 0x21 then 2 else if op = 0x22 then 4 else if op = 0x23 then 3
  else if op = 0x28 then 9 else 1

/-- Counts, sizes, K, FUNC and MOVER in range (0x0002). -/
def fieldsOk (d : List Byte) : Bool :=
  let op := dOpcode d
  let count (n : Nat) : Bool := decide (1 ≤ n) && decide (n ≤ 131072)
  if op = 0x10 then decide (1 ≤ mmaMT d) && decide (1 ≤ mmaNT d) && decide (1 ≤ mmaKT d)
  else if op = 0x30 then count (cvtCount d)
  else if (0x20 ≤ op ∧ op ≤ 0x25) ∨ op = 0x28 then
    count (vecCount d) && decide (dFunc d < funcs op)
      && (op != 0x24 || decide (1 ≤ dK d) && decide (dK d ≤ 128) && decide (vecCount d ≤ 65536))
  else if 0x40 ≤ op ∧ op ≤ 0x44 then
    decide (1 ≤ dmaLen d) && decide (dmaLen d ≤ 0x1000_0000) && decide (dmaMover d ≠ 3)
      && (op == 0x40 || op == 0x44 || decide (1 ≤ dmaRows d))
  else true

/-- The format combination is accepted (0x0004). -/
def combosOk (d : List Byte) : Bool :=
  let op := dOpcode d
  if op = 0x10 then
    let a := dFmt d 4
    let b := dFmt d 5
    a != 0 && b != 0 && (a == 1) == (b == 1)
  else if op = 0x30 then !(cvtRin d || cvtRout d) || decide (dFmt d 4 ≤ 1)
  else
    (usedFormats d).all (fun f => decide (f ≤ 1))
      && (op != 0x24 || dFmt d 4 == 0) && (op != 0x25 || dFmt d 6 == 0)

/-- Source rows and destination rows of a copy whose addresses the descriptor itself gives. -/
def dmaCopyRows (d : List Byte) : List (Nat × Nat) :=
  if dOpcode d = 0x41 then
    (List.range (dmaRows d)).map (fun i => (dmaSrc d + i * dmaSrcStride d, dmaDst d + i * dmaDstStride d))
  else [(dmaSrc d, dmaDst d)]

/-- The device physical ranges that a descriptor of cluster `c` writes, given the bytes of its address list. -/
def destRanges (c : Nat) (d list : List Byte) : List (Nat × Nat) :=
  let op := dOpcode d
  let rows (r : SpadRange) : List (Nat × Nat) :=
    (List.range r.rows).map (fun k => (scratchAddr c (r.off + k * r.stride), r.len))
  if op = 0x10 then rows (mmaC d)
  else if op = 0x30 then
    rows (spadOne (dOff d 5) (storedBytes (dFmt d 5) (cvtCount d)))
      ++ (if cvtRout d then rows (spadOne (dOff d 7) (4 * cvtCount d)) else [])
  else if (0x20 ≤ op ∧ op ≤ 0x25) ∨ op = 0x28 then rows (spadOne (dOff d 6) (vecZLen d))
  else if op = 0x40 ∨ op = 0x41 then (dmaCopyRows d).map (fun p => (p.2, dmaLen d))
  else if op = 0x42 then [(dmaDst d, dmaRows d * dmaLen d)]
  else if op = 0x43 then (List.range (dmaRows d)).map (fun i => (fieldLE list (8 * i) 8, dmaLen d))
  else if op = 0x44 then [(dmaDst d, dmaLen d)]
  else []

/-- The parts that two ranges share. -/
def sharedRange (p q : Nat × Nat) : Option (Nat × Nat) :=
  let lo := max p.1 q.1
  let hi := min (p.1 + p.2) (q.1 + q.2)
  if lo < hi then some (lo, hi - lo) else none

/-- The parts that two lists of ranges share. -/
def sharedRanges (ps qs : List (Nat × Nat)) : List (Nat × Nat) := ps.flatMap (fun p => qs.filterMap (sharedRange p))

/-- Some source range meets some destination range (R56). -/
def rowsOverlap (n : Nat) (rows : List (Nat × Nat)) : Bool :=
  rows.any (fun a => rows.any (fun b => overlaps a.1 n b.2 n))

/-- The checks that need no access (R492, steps 1 to 6): the status of the first that fails, or zero. The overlap of a
gather or scatter is checked once its list is read (R39). -/
def checkDesc (d : List Byte) : Nat :=
  let op := dOpcode d
  if (unitOf op).isNone then 0x01
  else if dWaitOp d = 3 ∨ dSetOp d ≥ 2 ∨ !fieldsOk d then 0x02
  else if (usedFormats d).any isReserved then 0x03
  else if !combosOk d then 0x04
  else if !(usedRanges d).all SpadRange.fits then 0x05
  else if (op = 0x40 ∨ op = 0x41) ∧ rowsOverlap (dmaLen d) (dmaCopyRows d) then 0x06
  else 0

end Sys2Proof.Machine
end

