-- ==== Sys2Proof/Machine/Arith.lean ====
section
/-! DEFINITION. What the matrix, vector and special-function units compute on values (03_compute_clusters.md R50 to R54,
02_number_formats.md R28 to R35). -/

namespace Sys2Proof.Machine

/-! ### Encoding of results -/

/-- Bytes of an FP32 result. -/
def f32Bytes (x : Num) : List Byte := leBytes 4 (toF32 x)

/-- Bytes of a vector result: FP32, or computed in FP32 and rounded to BF16 (R34). -/
def vecBytes (fmt : Nat) (x : Num) : List Byte :=
  if fmt = 1 then leBytes 2 (bf16.encode .nearest false (rnd32 x)) else f32Bytes x

def posZero : Num := .fin false 0 0
def negInf : Num := .inf true

/-! ### Matrix (R33, R50) -/

/-- BF16 operands that are subnormal count as zero. -/
def bf16Operand (x : Num) : Num :=
  match x with
  | .fin neg m e => if m < 128 then .fin neg 0 e else x
  | _ => x

/-- The 32 operand values of one matrix record. -/
def mmaValues (fmt : Nat) (bs : List Byte) : List Num :=
  if isBlock fmt then decodeBlock fmt bs
  else if fmt = 1 then (decodeElems 1 32 bs).map bf16Operand
  else decodeElems fmt 32 bs

/-- The records of a row or column, in order of k. -/
def mmaRecords (fmt kt : Nat) (bs : List Byte) : List (List Num) :=
  (List.range kt).map (fun k => mmaValues fmt ((bs.drop (k * mmaRecord fmt)).take (mmaRecord fmt)))

/-- The exact sum of the products of two blocks. -/
def blockSum (a b : List Num) : Num :=
  match (a.zip b).map (fun p => p.1.mul p.2) with
  | [] => posZero
  | x :: xs => xs.foldl Num.add x

/-- An accumulator result below 2^−126 becomes zero with its sign (R33). -/
def accFlush (x : Num) : Num :=
  match x with
  | .fin neg m e => if m < 2 ^ 23 then .fin neg 0 e else x
  | _ => x

/-- One output element: its block sums added in increasing order of k. -/
def mmaElement (c0 : Num) (a b : List (List Num)) : Num :=
  (a.zip b).foldl (fun acc p => accFlush (rnd32 (acc.add (blockSum p.1 p.2)))) c0

/-! ### Vector (R34, R51) -/

def numMax (x y : Num) : Num := if x.isNan then y else if y.isNan then x else if x.lt y then y else x
def numMin (x y : Num) : Num := if x.isNan then y else if y.isNan then x else if y.lt x then y else x

def vecBinF (f : Nat) (x y : Num) : Num :=
  match f with
  | 0 => x.add y
  | 1 => x.add y.neg
  | 2 => x.mul y
  | 3 => numMax x y
  | _ => numMin x y

def vecFmaF (f : Nat) (x y z : Num) : Num := (x.mul y).add (if f = 0 then z else z.neg)

def vecUnF (f : Nat) (imm x : Num) : Num :=
  match f with
  | 0 => x
  | 1 => x.abs
  | 2 => x.neg
  | _ => x.mul imm

/-- `x` ranks above `y`: NaN ranks below −∞ (R51). -/
def ranksAbove (x y : Num) : Bool := if x.isNan then false else if y.isNan then true else y.lt x

/-- The maximum, a NaN when any element is one. -/
def vecMax : List Num → Num
  | [] => negInf
  | x :: xs => if (x :: xs).any Num.isNan then .nan else xs.foldl numMax x

/-- Index of the first largest element. -/
def vecArgMax (xs : List Num) : Nat :=
  match xs with
  | [] => 0
  | x :: _ => (((List.range xs.length).zip xs).foldl (fun b p => if ranksAbove p.2 b.2 then p else b) (0, x)).1

/-- Put an element before the first that does not rank above it. -/
def rankInsert (p : Nat × Num) : List (Nat × Num) → List (Nat × Num)
  | [] => [p]
  | e :: es => if ranksAbove e.2 p.2 then e :: rankInsert p es else p :: e :: es

/-- Elements with their indices, largest first, equal values in increasing index order. -/
def vecRanked (xs : List Num) : List (Nat × Num) := ((List.range xs.length).zip xs).foldr rankInsert []

/-- The K pairs of VEC_TOPK. -/
def topkBytes (k : Nat) (xs : List Num) : List Byte :=
  let r := vecRanked xs
  ((List.range k).map (fun i =>
    match r[i]? with
    | some (ix, v) => leBytes 4 ix ++ f32Bytes v
    | none => leBytes 4 0xFFFF_FFFF ++ f32Bytes negInf)).flatten

/-! ### Lane generators (R29, R30, R53) -/

/-- One advance of a lane generator. -/
def xorshift (x : W32) : W32 :=
  let x := x ^^^ (x <<< 13)
  let x := x ^^^ (x >>> 17)
  x ^^^ (x <<< 5)

/-- The 16-bit draw of a generator state. -/
def draw16 (x : W32) : Nat := x.toNat / 2 ^ 16

/-- The state that a seed loads into lane `l`. -/
def laneSeed (seed : W32) (l : Nat) : W32 :=
  let x := seed ^^^ BitVec.ofNat 32 ((l + 1) * 0x9E37_79B9)
  if x = 0 then 0x6D2B79F5#32 else x

/-- The value of two draws (R53). -/
def randValue (r1 r2 : Nat) : Num := .fin false ((r1 * 2 ^ 16 + r2) / 2 ^ 8) (-24)

/-! ### Special functions (R51, R52) -/

/-- The largest FP32 magnitude code for which a predicate that holds downward holds; zero holds by convention. -/
def floorCode (p : Nat → Bool) : Nat :=
  (List.range 31).foldl (fun acc k =>
    let c := acc + 2 ^ (30 - k)
    if c < 0x7F800000 && p c then c else acc) 0

/-- The exact value m × 2^e of a positive FP32 code. -/
def codeVal (c : Nat) : Nat × Int :=
  match fp32.decode c with
  | .fin _ m e => (m, e)
  | _ => (0, 0)

/-- m × 2^e compared with 1: less or equal, equal. -/
def le1 (m : Nat) (e : Int) : Bool := if 0 ≤ e then m <<< e.toNat ≤ 1 else m ≤ 2 ^ (-e).toNat
def eq1 (m : Nat) (e : Int) : Bool := if 0 ≤ e then m <<< e.toNat == 1 else m == 2 ^ (-e).toNat

/-- m × 2^e against n × 2^f: less or equal, equal. -/
def leD (m : Nat) (e : Int) (n : Nat) (f : Int) : Bool :=
  m <<< (e - min e f).toNat ≤ n <<< (f - min e f).toNat
def eqD (m : Nat) (e : Int) (n : Nat) (f : Int) : Bool :=
  m <<< (e - min e f).toNat == n <<< (f - min e f).toNat

/-- A magnitude code within `k` ulp of the exact result whose floor is `q` (R51): the free value `r` chooses. -/
def withinUlps (k q : Nat) (exact : Bool) (r : Nat) : Nat :=
  min 0x7F800000 (if exact then q + r % (2 * k + 1) - k else q + 1 + r % (2 * k) - k)

/-- 1 ÷ x, 1 ÷ √x and √x of a positive finite x = m × 2^e, within 1 ulp; overflow gives ∞ (R52). -/
def sfuRoot (f m : Nat) (e : Int) (r : Nat) : Nat :=
  let below (c : Nat) : Bool :=
    let n := (codeVal c).1
    let g := (codeVal c).2
    if f = 4 then le1 (n * m) (g + e)
    else if f = 5 then le1 (n * n * m) (2 * g + e)
    else leD (n * n) (2 * g) m e
  let q := floorCode below
  let n := (codeVal q).1
  let g := (codeVal q).2
  let exact :=
    if f = 4 then eq1 (n * m) (g + e)
    else if f = 5 then eq1 (n * n * m) (2 * g + e)
    else eqD (n * n) (2 * g) m e
  if f = 4 ∧ le1 m (e + 128) then 0x7F800000 else withinUlps 1 q exact r

/-! Fixed-point evaluation of the exponential and the logarithm, `fixP` bits after the point: the error stays far below
the bounds of R51, which the free value then spends. -/

/-- Bits after the point. -/
def fixP : Nat := 256

/-- ln 2: the sum of 1 ÷ (k × 2^k). -/
def ln2Fix : Nat := (List.range 272).foldl (fun a k => a + 2 ^ fixP / ((k + 1) * 2 ^ (k + 1))) 0

/-- e^r for 0 ≤ r < 1, by its power series. -/
def expFix (r : Nat) : Nat :=
  ((List.range 80).foldl (fun (p : Nat × Nat) k =>
    (p.1 + p.2 * r / 2 ^ fixP / (k + 1), p.2 * r / 2 ^ fixP / (k + 1))) (2 ^ fixP, 2 ^ fixP)).1

/-- A finite value in fixed point. -/
def toFix (neg : Bool) (m : Nat) (e : Int) : Int :=
  let x : Int := if 0 ≤ e + fixP then (m <<< (e + fixP).toNat : Nat) else (m >>> (-(e + fixP)).toNat : Nat)
  if neg then -x else x

/-- e^x of a fixed-point x as m × 2^e. -/
def expNum (x : Int) : Nat × Int :=
  let n := x / (ln2Fix : Int)
  (expFix (x - n * ln2Fix).toNat, n - fixP)

/-- ln of m × 2^e, m not zero, in fixed point: k ln 2 + 2 artanh((y − 1) ÷ (y + 1)) for m × 2^e = y × 2^k, 1 ≤ y < 2. -/
def lnFix (m : Nat) (e : Int) : Int :=
  let k := Nat.log2 m
  let y := (m <<< fixP) >>> k
  let z := ((y - 2 ^ fixP) <<< fixP) / (y + 2 ^ fixP)
  let z2 := z * z / 2 ^ fixP
  let s := ((List.range 90).foldl (fun (p : Nat × Nat) j => (p.1 + p.2 / (2 * j + 1), p.2 * z2 / 2 ^ fixP)) (0, z)).1
  ((k : Int) + e) * (ln2Fix : Int) + 2 * (s : Int)

/-- The magnitude code of an exact m × 2^e, within `k` ulp; a result of 2^128 or more is infinite (R52). -/
def nearCode (k m : Nat) (e : Int) (exact : Bool) (r : Nat) : Nat :=
  if leD 1 128 m e then 0x7F800000
  else withinUlps k (floorCode (fun c => leD (codeVal c).1 (codeVal c).2 m e)) exact r

/-- A signed fixed-point result as a code, within `k` ulp; a result of zero leaves its sign open. -/
def fixCode (k : Nat) (v : Int) (exact : Bool) (r : Nat) : Nat :=
  if v = 0 then b2n (bitAt r 31) * 2 ^ 31 + r % (k + 1)
  else b2n (decide (v < 0)) * 2 ^ 31 + nearCode k v.natAbs (-(fixP : Int)) exact r

/-- e^x of a finite x within 2 ulp: past the range of FP32 it overflows to infinity or underflows (R52). -/
def sfuExp (neg : Bool) (m : Nat) (e : Int) (r : Nat) : Nat :=
  if leD 90 0 m e then (if neg then 0 + r % 3 else 0x7F800000) else
  if neg ∧ leD 110 0 m e then r % 3 else
  let (y, g) := expNum (toFix neg m e)
  nearCode 2 y g (decide (m = 0)) r

/-- 2^x of a finite x within 2 ulp; a whole x gives an exact power. -/
def sfuExp2 (neg : Bool) (m : Nat) (e : Int) (r : Nat) : Nat :=
  if leD 160 0 m e then (if neg then r % 3 else 0x7F800000)
  else
    let x := toFix neg m e
    let n := x / (2 ^ fixP : Int)
    let f := (x % (2 ^ fixP : Int)).toNat
    nearCode 2 (expFix (f * ln2Fix / 2 ^ fixP)) (n - fixP) (decide (f = 0)) r

/-- ln x and log2 x of a positive finite x within 2 ulp; log2 of a power of two is exact. -/
def sfuLog (two : Bool) (m : Nat) (e : Int) (r : Nat) : Nat :=
  let power := m == 2 ^ Nat.log2 m
  if two then
    if power then fixCode 2 (((Nat.log2 m : Int) + e) * (2 ^ fixP : Int)) true r
    else fixCode 2 (lnFix m e * (2 ^ fixP : Int) / (ln2Fix : Int)) false r
  else fixCode 2 (lnFix m e) (eq1 m e) r

/-- tanh of a finite magnitude within 4 ulp. -/
def sfuTanh (m : Nat) (e : Int) (r : Nat) : Nat :=
  if m = 0 then r % 5
  else if leD 60 0 m e then withinUlps 4 0x3F7FFFFF false r
  else
    let (y, g) := expNum (2 * toFix false m e)
    let E := y <<< (g + fixP).toNat
    nearCode 4 (((E - 2 ^ fixP) <<< fixP) / (E + 2 ^ fixP)) (-(fixP : Int)) false r

/-- 1 ÷ (1 + e^−x) of a finite x within 4 ulp. -/
def sfuLogistic (neg : Bool) (m : Nat) (e : Int) (r : Nat) : Nat :=
  if leD 120 0 m e then (if neg then r % 5 else withinUlps 4 0x3F7FFFFF false r)
  else
    let (y, g) := expNum (toFix false m e)
    let E := y <<< (g + fixP).toNat
    let num := if neg then 2 ^ fixP else E
    nearCode 4 ((num <<< fixP) / (E + 2 ^ fixP)) (-(fixP : Int)) (decide (m = 0)) r

/-- A special-function result as an FP32 code (R51, R52); `r` is a free value that stands for what the error bound
leaves open. The sign is that of the exact result; e^x, 2^x and the logistic function are positive. (Log entry 39:
DESIGN CHOICE, safe.) -/
def sfuCode (f : Nat) (x : Num) (r : Nat) : Nat :=
  let neg (b : Bool) : Nat := b2n b * 2 ^ 31
  let nan := fp32.nanCode
  let inf := 0x7F800000
  match x with
  | .nan => nan
  | .inf n =>
    match f with
    | 0 => if n then 0 else inf
    | 1 => if n then 0 else inf
    | 2 => if n then nan else inf
    | 3 => if n then nan else inf
    | 4 => neg n
    | 5 => if n then nan else 0
    | 6 => if n then nan else inf
    | 7 => neg n + withinUlps 4 0x3F800000 true r
    | _ => if n then r % 5 else withinUlps 4 0x3F800000 true r
  | .fin n m e =>
    match f with
    | 0 => sfuExp n m e r
    | 1 => sfuExp2 n m e r
    | 2 => if m = 0 then 2 ^ 31 + inf else if n then nan else sfuLog false m e r
    | 3 => if m = 0 then 2 ^ 31 + inf else if n then nan else sfuLog true m e r
    | 4 => if m = 0 then neg n + inf else neg n + sfuRoot 4 m e r
    | 5 => if m = 0 then neg n + inf else if n then nan else sfuRoot 5 m e r
    | 6 => if m = 0 then neg n else if n then nan else sfuRoot 6 m e r
    | 7 => neg n + sfuTanh m e r
    | _ => sfuLogistic n m e r

/-! ### Sums of open grouping (R34, R35, R51) -/

/-- The sum of FP32 values, added two at a time with round to nearest even in an order and grouping that the manual leaves
open: the free values from number `n` on choose which two are added next. (Log entry 39: DESIGN CHOICE, safe.) -/
def sumAny : Nat → Nat → List Num → Num
  | 0, _, xs => xs.headD posZero
  | k + 1, n, xs =>
    match xs with
    | [] => posZero
    | [x] => x
    | [x, y] => rnd32 (x.add y)
    | _ =>
      let i := (Config.freeValue 32 n).toNat % xs.length
      let rest := xs.eraseIdx i
      let j := (Config.freeValue 32 (n + 1)).toNat % rest.length
      sumAny k (n + 2) (rnd32 ((xs.getD i posZero).add (rest.getD j posZero)) :: rest.eraseIdx j)

/-! ### Conversion (R54) -/

/-- Consecutive groups of `k`. -/
def groupsOf {α : Type} (k : Nat) (xs : List α) : List (List α) :=
  (List.range ((xs.length + k - 1) / k)).map (fun i => (xs.drop (i * k)).take k)

/-- Source values as FP32: a block source is decoded and rounded. -/
def cvtSource (fmt count : Nat) (bs : List Byte) : List Num :=
  if isBlock fmt then (decodeElems fmt count bs).map rnd32 else decodeElems fmt count bs

/-- One group converted with the rounding of each element: its bytes, the values they decode to in FP32, and whether it
was written by R27. -/
def cvtGroup (fmt : Nat) (sat : Bool) (rnds : List Rounding) (xs : List Num) : List Byte × List Num × Bool :=
  if isBlock fmt then
    let (bs, bad) := encodeBlock fmt rnds xs
    (bs, ((decodeBlock fmt bs).map rnd32).take xs.length, bad)
  else
    match elemFmt fmt with
    | some f =>
      let cs := ((List.range xs.length).zip xs).map (fun p => f.encode (rnds.getD p.1 .nearest) sat p.2)
      ((cs.map (leBytes (f.width / 8))).flatten, cs.map f.decode, false)
    | none => ([], [], false)

end Sys2Proof.Machine
end

