-- ==== Sys2Proof/Machine/Clusters.lean ====
section
/-! DEFINITION. Compute clusters, register side (03_compute_clusters.md): the CLU register writes, descriptor fields,
the IDLE bit and the power states. -/

namespace Sys2Proof.Machine

/-- Ring and ERR offsets of a cluster. -/
def cluB (c : Nat) : Nat := CLU_CMD_BASE c
def cluErr (c : Nat) : Nat := CLU_ERR c

def cluReset : Nat → Clu := fun _ => Clu.reset
def State.cluOf (s : State) (c : Nat) : Clu := Tab.get cluReset s.clu c
def State.setClu (s : State) (c : Nat) (v : Clu) : State := { s with clu := Tab.set cluReset s.clu c v }

def State.cluState (s : State) (c : Nat) : Nat := s.gf (CLU_PSTAT c) CLU_PSTAT_STATE
def State.cluMoving (s : State) (c : Nat) : Bool := s.bit (CLU_PSTAT c) CLU_PSTAT_MOVING
def State.cluTarget (s : State) (c : Nat) : Nat := s.gf (CLU_PCTL c) CLU_PCTL_TARGET
def State.cluHalted (s : State) (c : Nat) : Bool := s.bit (CLU_ERR c) CLU_ERR_HALTED

/-- Issue is stopped (R61): CMD_EN zero, HALTED one, TARGET 2, or the block's line latched (R425). -/
def State.issueStopped (s : State) (c : Nat) : Bool :=
  !s.cmdEn (cluB c) || s.cluHalted c || s.cluTarget c == 2 || s.blockDown 6 || s.safe

/-- The mover a DMA descriptor goes to (R55): the one it names, or for MOVER 0 the one with fewer queued descriptors,
mover 0 when the counts are equal. -/
def moverOf (issued : List Issued) (d : List Byte) : Nat :=
  let m := wordFd d 9 0 2
  let n (u : Nat) := (issued.filter (fun i => i.unit == u)).length
  if m = 1 then 4 else if m = 2 then 5 else if n 5 < n 4 then 5 else 4

/-- The unit queue a descriptor takes a slot of. -/
def queueOf (issued : List Issued) (d : List Byte) : Nat :=
  match unitOf (dOpcode d) with
  | some 4 => moverOf issued d
  | some u => u
  | none => 0

/-- The right that a descriptor's WAIT_OP needs (R68). -/
def waitNeed (d : List Byte) : FlagNeed := if dWaitOp d = 2 then needConsume else needWait

/-- The flag a WAIT_FLAG was translated to when its descriptor reached the head of issue (R44, R69). -/
def State.waitXlat (s : State) (c ix epoch : Nat) : Option Nat :=
  (s.flags.xlated.find? (fun x => x.1 == c && x.2.1 == ix && x.2.2.1 == epoch)).map (fun x => x.2.2.2)

/-- The translation of a cluster's WAIT_FLAG is kept, or dropped once the descriptor has left the head of issue. -/
def State.keepXlat (s : State) (c ix epoch p : Nat) : State :=
  { s with flags := { s.flags with xlated := (c, ix, epoch, p) :: s.flags.xlated.filter (fun x => x.1 != c) } }
def State.dropXlat (s : State) (c : Nat) : State :=
  { s with flags := { s.flags with xlated := s.flags.xlated.filter (fun x => x.1 != c) } }

/-- The barrier takes entries of a context (R77). -/
def State.barAssigned (s : State) (b ctx : Nat) : Bool :=
  s.bit (BAR_CFG b) BAR_CFG_EN && s.gf (BAR_CFG b) BAR_CFG_CTX == ctx && !s.blockDown 7

/-- BAR_ENTER descriptors of a cluster on a barrier that have issued and not completed (R75). -/
def State.barEnters (s : State) (c b : Nat) : Nat :=
  ((s.ring (cluB c)).issued.filter (fun i => dOpcode i.desc == 0x02 && i.result.isNone && barNo i.desc == b)).length

/-- The first fetched descriptor is held only by its WAIT_OP (R61, R73): it passes the checks of R492, a slot is free,
its ORDER condition is met and, for a BAR_ENTER, it is no third entry, but its flag is zero. -/
def State.heldByWait (s : State) (c : Nat) : Bool :=
  let r := s.ring (cluB c)
  match r.fetched with
  | [] => false
  | (ix, d) :: _ =>
    let slots := (r.issued.filter (fun i => i.unit == queueOf r.issued d)).length
    let orderOk := !dOrder d || !r.issued.any (fun i => i.epoch == r.epoch)
    let barOk := dOpcode d != 0x02
      || (s.barAssigned (barNo d) (s.fctx (cluB c)) && decide (s.barEnters c (barNo d) < 2))
    (dWaitOp d == 1 || dWaitOp d == 2) && decide (slots < 4) && orderOk && checkDesc d == 0 && barOk &&
      (match s.waitXlat c ix r.epoch <|> (s.translate (dieOf c) (s.fctx (cluB c)) (dWaitFlag d) (waitNeed d)).1 with
       | some p => !s.flagVal p
       | none => false)

/-- CLU_PSTAT.IDLE (R61). -/
def State.cluIdle (s : State) (c : Nat) : Bool :=
  let r := s.ring (cluB c)
  r.issued.isEmpty &&
    ((r.fetched.isEmpty && r.fetchIx == r.tail) || s.issueStopped c || s.heldByWait c)

/-- Bring IDLE in line, and return a cluster in Haze to Clear when a descriptor is ready to issue (R61). -/
def State.cluRefresh (s : State) (c : Nat) : State :=
  let idle := s.cluIdle c
  let s := s.sf (CLU_PSTAT c) CLU_PSTAT_IDLE (b2n idle)
  if !idle && s.cluState c == 1 then s.sf (CLU_PSTAT c) CLU_PSTAT_STATE 0 else s

/-- The next descriptor of a cluster's ring carries a wait (R73). -/
def State.nextWaits (s : State) (c : Nat) : Bool :=
  match (s.ring (cluB c)).fetched with
  | (_, d) :: _ => dWaitOp d == 1 || dWaitOp d == 2
  | [] => false

/-- After a flag changed: IDLE of every cluster whose next descriptor waits is brought in line, and one in Haze whose
descriptor became ready goes to Clear (R61, R73). (Log entry 42: DEDUCED, unsafe.) -/
def State.waitsSeen (s : State) : State :=
  (s.rings.map (fun e => (e.1 - cluB 0) / 0x40)).foldl
    (fun (s : State) c => if decide (c < 1024) && s.nextWaits c then s.cluRefresh c else s) s

/-- Set (R65): the flag is raised, the waits held on it pass, and a cluster whose descriptor waits for it is woken (R73). -/
def State.flagSet (s : State) (p : Nat) : State := ((s.flagRaise p).serveWaiters p).waitsSeen

/-- Set a virtual flag: whether it translated, and the state. -/
def State.setVirtual (s : State) (k ctx vflag : Nat) (need : FlagNeed := needSet) : Bool × State :=
  match s.translate k ctx vflag need with
  | (some p, s) => (true, s.flagSet p)
  | (none, s) => (false, s)

/-- A TARGET request takes effect outside a transition (R61, R62): from Overcast, 0 and 1 start the wake; from Haze, 0
returns the cluster to Clear. (Log entry 33: DEDUCED, unsafe.) -/
def State.applyTarget (s : State) (c t : Nat) : State :=
  let s := s.sf (CLU_PCTL c) CLU_PCTL_TARGET t
  let s :=
    if s.cluState c = 2 ∧ t < 2 then s.sf (CLU_PSTAT c) CLU_PSTAT_MOVING 1
    else if s.cluState c = 1 ∧ t = 0 then s.sf (CLU_PSTAT c) CLU_PSTAT_STATE 0
    else s
  s.cluRefresh c

/-- A TARGET request: held while MOVING is one, the latest replacing the earlier (R62); a request of 3 has no effect.
(Log entry 334: DESIGN CHOICE, unsafe.) -/
def State.requestTarget (s : State) (c t : Nat) : State :=
  if t = 3 then s
  else if s.cluMoving c then s.setClu c { s.cluOf c with held := some t }
  else s.applyTarget c t

/-- The held request takes effect when a transition ends (R62). -/
def State.takeHeld (s : State) (c : Nat) : State :=
  match (s.cluOf c).held with
  | some t => (s.setClu c { s.cluOf c with held := none }).applyTarget c t
  | none => s.cluRefresh c

/-- A doorbell (R43, R61, R62): one that overruns is ignored; any other records its tail at once; with AUTOWAKE it wakes a cluster in Overcast, or is held
as a request of TARGET 0 while MOVING is one; it returns a cluster in Haze to Clear. -/
def State.doorbell (s : State) (c tail : Nat) : State :=
  let past := decide (ixDiff tail (s.cmdHead (cluB c)) > 2 ^ s.cmdLog (cluB c))
  let s := s.writeDoorbell (cluB c) (cluErr c) tail
  let auto := s.bit (CLU_PCTL c) CLU_PCTL_AUTOWAKE
  if past then s.cluRefresh c
  else if s.cluMoving c then (if auto then s.setClu c { s.cluOf c with held := some 0 } else s).cluRefresh c
  else if s.cluState c = 2 then (if auto then s.applyTarget c 0 else s.cluRefresh c)
  else if s.cluState c = 1 then (s.sf (CLU_PSTAT c) CLU_PSTAT_STATE 0).cluRefresh c
  else s.cluRefresh c

/-! ### Writes of the CLU registers -/

def writeCluCmdBase (q : Requester) (c : Nat) (hi : Bool) (v : W32) (s : State) : State :=
  if coreWrites q then (s.writeCmdBase (cluB c) hi v).cluRefresh c else s

def writeCluCmplBase (q : Requester) (c : Nat) (hi : Bool) (v : W32) (s : State) : State :=
  if coreWrites q then s.writeCmplBase (cluB c) hi v else s

def writeCluCtl (q : Requester) (c : Nat) (v : W32) (s : State) : State :=
  if coreWrites q then (s.writeRingCtl (cluB c) (cluErr c) true none v).cluRefresh c else s

def writeCluDb (q : Requester) (c : Nat) (v : W32) (s : State) : State :=
  if coreWrites q then s.doorbell c (v.toNat % 2 ^ 16) else s

def writeCluCmplHead (q : Requester) (c : Nat) (v : W32) (s : State) : State :=
  if coreWrites q then s.writeCmplHead (cluB c) v else s

/-- CLU_ERR (R46, R491): ones clear their bits; HALTED written with one resumes issue, and a failed descriptor is
fetched again. -/
def writeCluErr (q : Requester) (c : Nat) (v : W32) (s : State) : State :=
  if coreWrites q then
    let s := s.wr (CLU_ERR c) ((s.rd (CLU_ERR c)) &&& ~~~(v &&& 0x1F#32))
    let s := if bitAt v.toNat 0 then s.setRing (cluB c) { s.ring (cluB c) with fetchFail := false } else s
    s.cluRefresh c
  else s

/-- CLU_PCTL (R61, R62): RETAIN, IDLE_HAZE and AUTOWAKE are stored; TARGET is a request. -/
def writeCluPctl (q : Requester) (c : Nat) (v : W32) (s : State) : State :=
  if coreWrites q then
    let s := s.sf (CLU_PCTL c) CLU_PCTL_RETAIN (bitsOf v.toNat 16 16)
    let s := s.sf (CLU_PCTL c) CLU_PCTL_IDLE_HAZE (bitsOf v.toNat 8 8)
    let s := s.sf (CLU_PCTL c) CLU_PCTL_AUTOWAKE (bitsOf v.toNat 2 1)
    s.requestTarget c (v.toNat % 4)
  else s

/-! ### The commands -/

/-- R42. -/
def execCluCmdBaseWrite (q : Requester) (c : Fin 1024) (hi : Bool) (v : W32) (s : State) : Res :=
  ok (writeCluCmdBase q c hi v s)

/-- R42. -/
def execCluCmplBaseWrite (q : Requester) (c : Fin 1024) (hi : Bool) (v : W32) (s : State) : Res :=
  ok (writeCluCmplBase q c hi v s)

/-- R42: a write of CLU_CTL with CMD_EN one. -/
def execCmdEnSet (q : Requester) (c : Fin 1024) (v : W32) (s : State) : Res := ok (writeCluCtl q c (v ||| 1) s)

/-- R42: a write of CLU_CTL with CMD_EN zero. -/
def execCmdEnClear (q : Requester) (c : Fin 1024) (v : W32) (s : State) : Res := ok (writeCluCtl q c (v &&& ~~~1#32) s)

/-- R42: a write of CLU_CTL with CMPL_EN one. -/
def execCmplEnSet (q : Requester) (c : Fin 1024) (v : W32) (s : State) : Res := ok (writeCluCtl q c (v ||| 2) s)

/-- R42: a write of CLU_CTL with CMPL_EN zero. -/
def execCmplEnClear (q : Requester) (c : Fin 1024) (v : W32) (s : State) : Res :=
  ok (writeCluCtl q c (v &&& ~~~2#32) s)

/-- R43. -/
def execCluDb (q : Requester) (c : Fin 1024) (v : W32) (s : State) : Res := ok (writeCluDb q c v s)

/-- R47. -/
def execCluCmplHeadWrite (q : Requester) (c : Fin 1024) (v : W32) (s : State) : Res := ok (writeCluCmplHead q c v s)

/-- R46, R491: a write of CLU_ERR with HALTED one. -/
def execHaltedResume (q : Requester) (c : Fin 1024) (v : W32) (s : State) : Res := ok (writeCluErr q c (v ||| 1) s)

/-- R62. -/
def execTargetWrite (q : Requester) (c : Fin 1024) (v : W32) (s : State) : Res := ok (writeCluPctl q c v s)

/-- R61: a cluster in Clear that is idle enters Haze, by TARGET 1 at once or by TARGET 0 after IDLE_HAZE × 64 cycles
of idling (the command says that they have passed; IDLE_HAZE 0 disables). (Log entry 37: DESIGN CHOICE, safe.) -/
def execHazeEntry (c : Fin 1024) (s : State) : Res :=
  let t := s.cluTarget c
  if s.cluState c = 0 ∧ !s.cluMoving c ∧ s.cluIdle c
      ∧ (t = 1 ∨ (t = 0 ∧ s.gf (CLU_PCTL c) CLU_PCTL_IDLE_HAZE ≠ 0)) then
    ok (s.sf (CLU_PSTAT c) CLU_PSTAT_STATE 1)
  else ok s

/-- R62, entry step 1: MOVING sets. -/
def execOvercastEntry (c : Fin 1024) (s : State) : Res :=
  if s.cluTarget c = 2 ∧ s.cluState c ≠ 2 ∧ !s.cluMoving c ∧ s.cluIdle c then
    ok (s.sf (CLU_PSTAT c) CLU_PSTAT_MOVING 1)
  else ok s

/-- Descriptors fetched and not issued when a cluster enters Overcast are fetched again after the wake: its logic is
reset there (R62, R63). (Log entry 36: DEDUCED, unsafe.) -/
def State.refetch (s : State) (c : Nat) : State :=
  let r := s.ring (cluB c)
  match r.fetched with
  | (ix, _) :: _ => (s.setRing (cluB c) { r with fetchIx := ix, fetched := [], fetchFail := false }).dropXlat c
  | [] => s

/-- R62, entry step 3: STATE 2, RETAINED = RETAIN, MOVING clears, and the held request takes effect. (Log entry 37:
DESIGN CHOICE, safe.) -/
def execOvercastEntryDone (c : Fin 1024) (s : State) : Res :=
  if s.cluMoving c ∧ s.cluState c ≠ 2 then
    let s := s.sf (CLU_PSTAT c) CLU_PSTAT_RETAINED (s.gf (CLU_PCTL c) CLU_PCTL_RETAIN)
    let s := (s.sf (CLU_PSTAT c) CLU_PSTAT_STATE 2).sf (CLU_PSTAT c) CLU_PSTAT_MOVING 0
    ok ((s.refetch c).takeHeld c)
  else ok s

/-- R62: what starts a wake, on a cluster in whatever state it is: the doorbell or the TARGET write. -/
def execOvercastWake (q : Requester) (c : Fin 1024) (cause : WakeCause) (s : State) : Res :=
  if coreWrites q then
    match cause with
    | .doorbell t => ok (s.doorbell c t.toNat)
    | .target t => ok (s.requestTarget c t.toNat)
  else ok s

/-- The bytes of a scratchpad that lie in banks of a mask stay; the others read zero again (R36, R62). -/
def State.zeroBanks (s : State) (c keep : Nat) : State :=
  let lo := scratchAddr c 0
  let inCluster (a : Nat) : Bool := decide (lo ≤ a) && decide (a < lo + 0x8_0000)
  let kept (a : Nat) : Bool := !inCluster a || bitAt keep (bitsOf (a - lo) 6 4)
  { s with mem := s.mem.filter (fun e => kept e.1), marks := s.marks.filter (fun e => kept (e.1 * 8)) }

/-- The two generator banks of a cluster loaded from the entropy source (R30, R53). -/
def State.loadBanks (s : State) (c : Nat) : State :=
  let lane (k l : Nat) : Nat × W32 := (l, BitVec.ofNat 32 ((Config.freeNonzero32 (s.free + k * 64 + l)).val + 1))
  let s' := s.setClu c { s.cluOf c with
    randBank := (List.range 64).map (lane 0), convBank := (List.range 64).map (lane 1) }
  { s' with free := s.free + 128 }

/-- R62, wake steps 4 to 6: generator banks loaded, every bank not in RETAINED zeroed, STATE 0, MOVING clears, the
held request takes effect. -/
def State.wakeDone (s : State) (c : Nat) : State :=
  let s := (s.zeroBanks c (s.gf (CLU_PSTAT c) CLU_PSTAT_RETAINED)).loadBanks c
  let s := (s.sf (CLU_PSTAT c) CLU_PSTAT_STATE 0).sf (CLU_PSTAT c) CLU_PSTAT_MOVING 0
  s.takeHeld c

/-- The end of a wake. (Log entry 37: DESIGN CHOICE, safe.) -/
def execOvercastWakeDone (c : Fin 1024) (s : State) : Res :=
  if s.cluMoving c ∧ s.cluState c = 2 then ok (s.wakeDone c) else ok s

/-! ### Lane generators (R30) -/

/-- Lane states before a bank was written since the full reset: non-zero values of the entropy source (R30). -/
def State.randReset (s : State) (c k : Nat) : Nat → W32 :=
  fun l => BitVec.ofNat 32 ((Config.freeNonzero32 (2 ^ 200 + s.boots * 2 ^ 20 + c * 128 + k * 64 + l)).val + 1)

/-- The VEC_RAND bank (k = 0) and the conversion bank (k = 1). -/
def State.bankLane (s : State) (c k l : Nat) : W32 :=
  Tab.get (s.randReset c k) (if k = 0 then (s.cluOf c).randBank else (s.cluOf c).convBank) l
def State.setBankLane (s : State) (c k l : Nat) (v : W32) : State :=
  let b := Tab.insert (if k = 0 then (s.cluOf c).randBank else (s.cluOf c).convBank) l v
  s.setClu c (if k = 0 then { s.cluOf c with randBank := b } else { s.cluOf c with convBank := b })

/-- A non-zero seed loads every lane of a bank (R30). -/
def State.seedBank (s : State) (c k seed : Nat) : State :=
  if seed = 0 then s
  else (List.range 64).foldl (fun (s : State) l => s.setBankLane c k l (laneSeed (BitVec.ofNat 32 seed) l)) s

/-- One draw from a lane. -/
def State.drawLane (s : State) (c k l : Nat) : Nat × State :=
  let x := xorshift (s.bankLane c k l)
  (draw16 x, s.setBankLane c k l x)

end Sys2Proof.Machine
end

