-- ==== Sys2Proof/Machine/Barriers.lean ====
section
/-! DEFINITION. Flag operations at flag storage, the FLG and BAR registers, and barrier rounds
(04_flags_and_barriers.md R64 to R79, R493). -/

namespace Sys2Proof.Machine

/-- Arbiter kinds of the flag storage ports and of the barrier units (R74, R76). -/
def arbFlagPort : Nat := 6
def arbBarrier : Nat := 3

/-- The port of flag storage a requester's operation comes through (R74): clusters by their die, engines through P2. -/
def flagPort (who p : Nat) : Nat := if who < 1024 then (if dieOf who = p / 2 ^ 15 then 0 else 1) else 2

/-- The waits and wait-and-clears (requester, consumes) that the ports accept in one cycle, one of each port, drawn by
the arbiter of the port and group when several compete (R74). (Log entry 41: DESIGN CHOICE, safe.) -/
def State.flagAccept (s : State) (p gap : Nat) (reqs : List (Nat × Bool)) : List (Nat × Bool) × State :=
  (List.range 3).foldl (fun (r : List (Nat × Bool) × State) port =>
    match reqs.filter (fun q => flagPort q.1 p == port) with
    | [] => r
    | [q] => (r.1 ++ [q], r.2)
    | mine =>
      match r.2.draw (arbId arbFlagPort (p / 64 * 4 + port)) 15 gap ((mine.foldl (fun l q => insertKey l q.1) []).map (fun w => (w, 1))) with
      | (some w, s) => (r.1 ++ (mine.filter (fun q => q.1 == w)).take 1, s)
      | (none, s) => (r.1, s)) ([], s)

/-- The operations that flag storage accepts on one flag in one cycle (R74): waits against VALUE at the start; one draw
among the wait-and-clears when VALUE was one; VALUE one if any set arrived, else zero if a clear arrived or a
wait-and-clear passed; OVERSET set when the sets, plus one if VALUE was one and not consumed, are two or more, and a
clear-OVERSET does not prevent that. What did not pass, or was not accepted, is held and looked at again in the next
cycle. (Log entry 44: DEDUCED, unsafe.) -/
def State.flagCycle (s : State) (p : Nat) (m : FlagMeet) : State :=
  let s := s.flagRead p
  let v0 := s.flagVal p
  let all := m.waits.map (fun w => (w.toNat, false)) ++ m.takes.map (fun w => (w.toNat, true))
  let (reqs, s) := s.flagAccept p m.gap all
  let takes := (reqs.filter (fun q => q.2)).map (fun q => (q.1, 1))
  let (win, s) :=
    if v0 && !takes.isEmpty then
      (if takes.length = 1 then ((takes.head?).map (·.1), s)
       else s.draw (arbId arbFlagGroup (p / 64)) 15 m.gap ((takes.foldl (fun l q => insertKey l q.1) []).map (fun w => (w, 1))))
    else (none, s)
  let consumed := win.isSome
  let n := m.sets + (if v0 && !consumed then 1 else 0)
  let sawOver := s.flagOver p
  let sawOver' := if m.sets > 0 ∧ n ≥ 2 then true else if m.clearOver then false else sawOver
  let v' := if m.sets > 0 then true else if m.clear || consumed then false else v0
  let s := if sawOver' && !sawOver then s.oversetEvent p else s
  let s := (s.putFlag p v' sawOver').flagWritten p
  let passes (q : Nat × Bool) : Bool := reqs.contains q && (if q.2 then some q.1 == win else v0)
  let s := all.foldl (fun (s : State) q => if passes q then s.passWaiter q.1 p else s.holdWaiter q.1 p q.2) s
  s.serveWaiters p

/-- The physical flag a command names, none when its translation fails (R68). -/
def State.named (s : State) (f : FlagName) (need : FlagNeed) : Option Nat × State :=
  match f with
  | .phys p => (some p.val, s)
  | .virt k ctx v fabric => s.translate k.val ctx.toNat v.toNat { need with remote := need.remote || fabric }

/-- A command on a named flag: a failed translation performs no operation (R68). -/
def State.onFlag (s : State) (f : FlagName) (need : FlagNeed) (m : FlagMeet) : State :=
  match s.named f need with
  | (some p, s) => s.flagCycle p m
  | (none, s) => s

/-- R65, R74; a descriptor that the set readies ends its cluster's Haze (R61). (Log entry 41: DESIGN CHOICE, safe.) -/
def execFlagSet (f : FlagName) (m : FlagMeet) (s : State) : Res :=
  ok (s.onFlag f needSet { m with sets := m.sets + 1 }).waitsSeen

/-- R65, R74. -/
def execFlagClear (f : FlagName) (m : FlagMeet) (s : State) : Res :=
  ok (s.onFlag f needSet { m with clear := true }).waitsSeen

/-- R65, R74. (Log entry 40: DEDUCED, unsafe.) -/
def execFlagWait (who : W16) (f : FlagName) (m : FlagMeet) (s : State) : Res :=
  ok (s.onFlag f needWait { m with waits := who :: m.waits })

/-- R65, R74. (Log entries 40: DEDUCED, unsafe; 41: DESIGN CHOICE, safe.) -/
def execFlagWaitAndClear (who : W16) (f : FlagName) (m : FlagMeet) (s : State) : Res :=
  ok (s.onFlag f needConsume { m with takes := who :: m.takes }).waitsSeen

/-- R65, R74. -/
def execFlagClearOverset (f : FlagName) (m : FlagMeet) (s : State) : Res :=
  ok (s.onFlag f needSet { m with clearOver := true })

/-- R69: a translation cache miss fetches a context record and group entry; a failed fetch caches nothing. -/
def execFlagTranslationFetch (cache : Fin 9) (ctx : BitVec 12) (vgroup : BitVec 18) (s : State) : Res :=
  ok (s.lookupXlat cache.val ctx.toNat vgroup.toNat).2

/-! ### The FLG registers (R70) -/

def anyCmdEn (s : State) : Bool := (List.range 1024).any (fun c => s.cmdEn (cluB c))
def anyBarEn (s : State) : Bool := (List.range 4096).any (fun b => s.bit (BAR_CFG b) BAR_CFG_EN)

/-- FLG_CTX_BASE: no effect while EN is one. -/
def writeFlgCtxBase (q : Requester) (hi : Bool) (v : W32) (s : State) : State :=
  if coreWrites q ∧ s.gf FLG_CTL FLG_CTL_EN = 0 then
    s.wr (if hi then FLG_CTX_BASE + 4 else FLG_CTX_BASE)
      (BitVec.ofNat 32 (if hi then v.toNat % 2 ^ 20 else v.toNat / 65536 * 65536))
  else s

/-- FLG_CTL (R70, R490): setting EN checks that the 64 KiB context table lies wholly in HBM; clearing has no effect
while any barrier or command ring is enabled. -/
def writeFlgCtl (q : Requester) (v : W32) (s : State) : State :=
  let en := s.gf FLG_CTL FLG_CTL_EN == 1
  if !coreWrites q then s
  else if bitAt v.toNat 0 && !en then
    if inHbm (s.gf FLG_CTX_BASE FLG_CTX_BASE_BASE <<< 16) 65536 then
      (s.sf FLG_CTL FLG_CTL_EN 1).sf FLG_CTL FLG_CTL_REFUSAL 0
    else s.sf FLG_CTL FLG_CTL_REFUSAL 0x0648
  else if !bitAt v.toNat 0 && en && !anyBarEn s && !anyCmdEn s then s.sf FLG_CTL FLG_CTL_EN 0
  else s

/-- FLG_INVAL (R69, R70): starts an invalidation; no effect while BUSY is one. -/
def writeFlgInval (q : Requester) (v : W32) (s : State) : State :=
  if coreWrites q ∧ s.gf FLG_INVAL FLG_INVAL_BUSY = 0 then
    let s := (s.sf FLG_INVAL FLG_INVAL_CTX (v.toNat % 4096)).sf FLG_INVAL FLG_INVAL_BUSY 1
    { s with flags := { s.flags with inval := some (if bitAt v.toNat 30 then none else some (v.toNat % 4096)) } }
  else s

/-- FLG_SIGNAL (R70, R493): a Tahr core's operation on a physical flag. -/
def writeFlgSignal (q : Requester) (v : W32) (s : State) : State :=
  if coreWrites q then
    let p := v.toNat % 2 ^ 18
    match bitsOf v.toNat 30 2 with
    | 0 => (s.flagSet p).waitsSeen
    | 1 => (s.flagClear p).waitsSeen
    | 2 => s.flagClearOver p
    | _ => s
  else s

/-- R70: a write of FLG_CTL with EN one. -/
def execFlgEnSet (q : Requester) (v : W32) (s : State) : Res := ok (writeFlgCtl q (v ||| 1) s)

/-- R70: a write of FLG_CTL with EN zero. -/
def execFlgEnClear (q : Requester) (v : W32) (s : State) : Res := ok (writeFlgCtl q (v &&& ~~~1#32) s)

/-- R69, R70. -/
def execFlgInval (q : Requester) (v : W32) (s : State) : Res := ok (writeFlgInval q v s)

/-- R69: every cache has dropped the context's records and entries (or all), and BUSY clears. (Log entry 351:
DEDUCED, unsafe.) -/
def execFlgInvalDone (s : State) : Res :=
  match s.flags.inval with
  | none => ok s
  | some w =>
    let keep (x : FlagXlat) : Bool := match w with | none => false | some c => x.ctx != c
    let s := (List.range 9).foldl (fun s k => s.setXlatCache k ((s.xlatCache k).filter keep)) s
    ok ({ s with flags := { s.flags with inval := none } }.sf FLG_INVAL FLG_INVAL_BUSY 0)

/-- R493, R70: OP 0. (Log entry 43: DEDUCED, safe.) -/
def execFlgSignalSet (q : Requester) (p : BitVec 18) (s : State) : Res :=
  ok (writeFlgSignal q (BitVec.ofNat 32 p.toNat) s)

/-- R70: OP 1. (Log entry 43: DEDUCED, safe.) -/
def execFlgSignalClear (q : Requester) (p : BitVec 18) (s : State) : Res :=
  ok (writeFlgSignal q (BitVec.ofNat 32 (p.toNat + 2 ^ 30)) s)

/-- R70: OP 2. (Log entry 43: DEDUCED, safe.) -/
def execFlgSignalClearOverset (q : Requester) (p : BitVec 18) (s : State) : Res :=
  ok (writeFlgSignal q (BitVec.ofNat 32 (p.toNat + 2 ^ 31)) s)

/-! ### Barrier units (R75 to R78) -/

def State.barEntries (s : State) (b : Nat) : List BarEntry := Tab.get (fun _ => []) s.flags.entries b
def State.setBarEntries (s : State) (b : Nat) (l : List BarEntry) : State :=
  { s with flags := { s.flags with entries := Tab.set (fun _ => []) s.flags.entries b l } }

def State.barCount (s : State) (b parity : Nat) : Nat :=
  if parity = 0 then s.gf (BAR_STATE b) BAR_STATE_COUNT0 else s.gf (BAR_STATE b) BAR_STATE_COUNT1
def State.setBarCount (s : State) (b parity n : Nat) : State :=
  if parity = 0 then s.sf (BAR_STATE b) BAR_STATE_COUNT0 n else s.sf (BAR_STATE b) BAR_STATE_COUNT1 n
def State.barParity (s : State) (b : Nat) : Nat := s.gf (BAR_STATE b) BAR_STATE_PARITY

/-- A participant issues an entry, to be taken by the unit (R75, R76). Participants are clusters by number and engines
from 1,024; `tag` is the descriptor's ring index, with the ring epoch above bit 15. -/
def State.enterBarrier (s : State) (b who tag : Nat) : State :=
  s.setBarEntries b (s.barEntries b ++ [⟨who, none, 0, tag⟩])

/-- Outstanding entries of a participant. -/
def State.barOutstanding (s : State) (b who : Nat) : Nat := ((s.barEntries b).filter (fun e => e.who == who)).length

/-- A cluster's BAR_ENTER descriptor completes with a status: its outstanding result is set (R76, R77). -/
def State.endBarEnter (s : State) (who ix status : Nat) : State :=
  if who < 1024 then
    let r := s.ring (cluB who)
    s.setRing (cluB who) { r with issued := r.issued.map (fun d =>
      if d.epoch * 2 ^ 16 + d.ix = ix ∧ dOpcode d.desc = 0x02 ∧ d.entered ∧ d.result.isNone then { d with result := some (status, 0) }
      else d) }
  else s

/-- The first entry of each participant that waits to be taken: the entries of one participant are taken in issue
order (R75). -/
def firstWaiting : List BarEntry → List Nat → List (Nat × Nat)
  | [], _ => []
  | e :: es, seen =>
    if e.parity.isNone && !seen.contains e.who then (e.who, 1) :: firstWaiting es (e.who :: seen)
    else firstWaiting es seen

/-- Mark the first waiting entry of a participant as taken with a parity. -/
def takeEntry (who parity : Nat) : List BarEntry → List BarEntry
  | [] => []
  | e :: es =>
    if e.who = who ∧ e.parity.isNone then { e with parity := some parity } :: es else e :: takeEntry who parity es

/-- COUNT[PARITY] has reached EXPECT: the round closes in the next cycle (R76). -/
def State.closeDue (s : State) (b : Nat) : Bool :=
  s.bit (BAR_CFG b) BAR_CFG_EN && s.barCount b (s.barParity b) == s.gf (BAR_CFG b) BAR_CFG_EXPECT
    && s.gf (BAR_CFG b) BAR_CFG_EXPECT != 0

/-- The round closes (R76): the count goes to zero, ROUND increments and PARITY inverts, every entry of the round
completes, and the close flag is set if CLOSE_EN is one (CLOSE_FAIL when it no longer translates). -/
def State.closeRound (s : State) (b : Nat) : State :=
  let par := s.barParity b
  let es := s.barEntries b
  let ends := es.filter (fun e => e.parity == some par)
  let s := s.setBarEntries b (es.filter (fun e => e.parity != some par))
  let s := s.setBarCount b par 0
  let s := s.sf (BAR_ROUND b) BAR_ROUND_ROUND ((s.gf (BAR_ROUND b) BAR_ROUND_ROUND + 1) % 2 ^ 32)
  let s := s.sf (BAR_STATE b) BAR_STATE_PARITY (1 - par)
  let s := ends.foldl (fun (s : State) e => s.endBarEnter e.who e.desc 0) s
  if s.bit (BAR_CLOSE b) BAR_CLOSE_CLOSE_EN then
    match s.setVirtual (b / 512) (s.gf (BAR_CFG b) BAR_CFG_CTX) (s.gf (BAR_CLOSE b) BAR_CLOSE_CLOSE_VFLAG) with
    | (true, s) => s
    | (false, s) => s.sf (BAR_STATE b) BAR_STATE_CLOSE_FAIL 1
  else s

/-- R75, R76: the unit takes one waiting entry, drawn among the participants with equal tickets; it counts toward the
current round, or toward the next when the participant has an earlier entry taken and not yet completed. An entry taken
in the cycle in which a round closes is judged after the close. -/
def execBarrierEntry (b : Fin 4096) (gap : Nat) (s : State) : Res :=
  let s := if s.closeDue b then s.closeRound b else s
  let es := s.barEntries b
  let cands := firstWaiting es []
  if cands.isEmpty then ok s
  else
    match s.draw (arbId arbBarrier b) 15 gap cands with
    | (none, s) => ok s
    | (some who, s) =>
      let taken := es.filter (fun e => e.who == who && e.parity.isSome)
      let par := if taken.isEmpty then s.barParity b else 1 - s.barParity b
      ok ((s.setBarEntries b (takeEntry who par es)).setBarCount b par (s.barCount b par + 1))

/-- R76: when COUNT[PARITY] equals EXPECT the round closes. -/
def execRoundClose (b : Fin 4096) (s : State) : Res := ok (if s.closeDue b then s.closeRound b else s)

/-- Clearing EN (R77): every outstanding entry completes with 0x0015, both counts go to zero, ROUND is unchanged. -/
def State.disableBarrier (s : State) (b : Nat) : State :=
  let es := s.barEntries b
  let s := es.foldl (fun s e => s.endBarEnter e.who e.desc 0x15) s
  let s := (s.setBarEntries b []).sf (BAR_CFG b) BAR_CFG_EN 0
  (s.setBarCount b 0 0).setBarCount b 1 0

/-- The code of setting a barrier's EN, with CTX and EXPECT as written (R78). (Log entry 336: DESIGN CHOICE, unsafe.) -/
def State.barCheck (s : State) (b : Nat) : Option Nat × State :=
  if s.gf FLG_CTL FLG_CTL_EN = 0 then (some 0x064B, s)
  else if s.gf (BAR_CFG b) BAR_CFG_EXPECT = 0 then (some 0x0649, s)
  else if s.bit (BAR_CLOSE b) BAR_CLOSE_CLOSE_EN then
    match s.translate (b / 512) (s.gf (BAR_CFG b) BAR_CFG_CTX) (s.gf (BAR_CLOSE b) BAR_CLOSE_CLOSE_VFLAG) needSet with
    | (some _, s) => (none, s)
    | (none, s) => (some 0x064A, s)
  else (none, s)

/-- BAR_CFG (R77, R78, R490). CTX and EXPECT change only while EN was zero. (Log entry 337: DESIGN CHOICE, unsafe.) -/
def writeBarCfg (q : Requester) (b : Nat) (v : W32) (s : State) : State :=
  let en := s.bit (BAR_CFG b) BAR_CFG_EN
  if !coreWrites q then s
  else if en then (if bitAt v.toNat 31 then s else s.disableBarrier b)
  else
    let s := (s.sf (BAR_CFG b) BAR_CFG_CTX (bitsOf v.toNat 16 12)).sf (BAR_CFG b) BAR_CFG_EXPECT (v.toNat % 2048)
    if bitAt v.toNat 31 then
      let s := (s.setBarCount b 0 0).setBarCount b 1 0
      let s := (s.sf (BAR_ROUND b) BAR_ROUND_ROUND 0).sf (BAR_STATE b) BAR_STATE_PARITY 0
      match s.barCheck b with
      | (none, s) => (s.sf (BAR_CFG b) BAR_CFG_EN 1).sf FLG_CTL FLG_CTL_REFUSAL 0
      | (some c, s) => s.sf FLG_CTL FLG_CTL_REFUSAL c
    else s

/-- BAR_CLOSE: no effect while EN is one (R78). -/
def writeBarClose (q : Requester) (b : Nat) (v : W32) (s : State) : State :=
  if coreWrites q ∧ !s.bit (BAR_CFG b) BAR_CFG_EN then s.wr (BAR_CLOSE b) (v &&& 0x80FFFFFF#32) else s

/-- R78: a write of BAR_CFG with EN one. -/
def execBarEnSet (q : Requester) (b : Fin 4096) (v : W32) (s : State) : Res :=
  ok (writeBarCfg q b (v ||| 0x80000000#32) s)

/-- R77: a write of BAR_CFG with EN zero. -/
def execBarEnClear (q : Requester) (b : Fin 4096) (v : W32) (s : State) : Res :=
  ok (writeBarCfg q b (v &&& 0x7FFFFFFF#32) s)

end Sys2Proof.Machine
end

