-- ==== Sys2Proof/Machine/Hbm.lean ====
section
/-! DEFINITION. HBM channels, stacks and arbiters (08_hbm_and_arbiters.md R164 to R183). -/

namespace Sys2Proof.Machine

def arbHbm : Nat := 1

def chanReset : Nat → Chan := fun _ => Chan.reset
def State.chan (s : State) (g : Nat) : Chan := Tab.get chanReset s.hbm.chans g
def State.setChan (s : State) (g : Nat) (c : Chan) : State :=
  { s with hbm := { s.hbm with chans := Tab.set chanReset s.hbm.chans g c } }

/-- The set in force at a channel (R180): the committed one once the channel has taken it. -/
def State.arbSet (s : State) (g : Nat) : ArbSet :=
  match s.hbm.next with
  | some n => if s.hbm.waiting.contains g then s.hbm.active else n
  | none => s.hbm.active

def ArbSet.tickets (a : ArbSet) (l : Nat) : Nat := (a.lines[l]?.getD (0, 0)).1
def ArbSet.quota (a : ArbSet) (l : Nat) : Nat := (a.lines[l]?.getD (0, 0)).2

/-- The arbiter line of a request (R177). -/
def State.lineOf (s : State) (g : Nat) : HbmSource → Nat
  | .cluster c => (s.arbSet g).classes[c.toNat]?.getD 5
  | .line l => l

/-- Count grants to a line (R178; ARB_GRANTS). -/
def State.grant (s : State) (g l n : Nat) : State :=
  let c := s.chan g
  let s := s.setChan g { c with used := Tab.set (fun _ => 0) c.used l (Tab.get (fun _ => 0) c.used l + n) }
  let k := Tab.get (fun _ => 0) s.hbm.grants l + n
  let s := { s with hbm := { s.hbm with grants := Tab.set (fun _ => 0) s.hbm.grants l k } }
  s.wr (ARB_GRANTS l) (BitVec.ofNat 32 (k / 65536))

/-! ### Windows (R178, R180) -/

/-- Firmware's product mode (R182): the defaults of a mode go to the staged lines, and a commit applies them. -/
def State.loadMode (s : State) (m : Nat) : State :=
  let s := s.sf ARB_MODE ARB_MODE_MODE m
  (List.range 8).foldl (fun s l =>
    let d := (modeSet m)[l]?.getD (0, 0)
    s.wr (ARB_LINE l) (BitVec.ofNat 32 (d.2 * 65536 + d.1))) s

def State.arbPending (s : State) : Bool := s.bit ARB_COMMIT ARB_COMMIT_PENDING

/-- The staged set (R180). -/
def State.staged (s : State) : ArbSet :=
  ⟨(List.range 8).map (fun l => (s.gf (ARB_LINE l) ARB_LINE_TICKETS, s.gf (ARB_LINE l) ARB_LINE_QUOTA)),
    (List.range 64).map (fun c => bitsOf (s.rd (ARB_CLASSMAP (c / 8))).toNat (c % 8 * 4) 3)⟩

/-- The consistency code of a commit (R180). -/
def arbCheck (a : ArbSet) : Option Nat :=
  if a.lines.foldl (fun n l => n + l.2) 0 > 768 then some 0x0670
  else if a.quota 7 = 0 ∧ a.tickets 7 = 0 then some 0x0671
  else none

/-- A commit of the staged set (R180). -/
def State.arbCommit (s : State) : State :=
  match arbCheck s.staged with
  | some c => s.sf ARB_COMMIT ARB_COMMIT_REFUSAL c
  | none =>
    let s := { s with hbm := { s.hbm with next := some s.staged, waiting := List.range 192 } }
    (s.sf ARB_COMMIT ARB_COMMIT_REFUSAL 0).sf ARB_COMMIT ARB_COMMIT_PENDING 1

/-- Firmware applies the mode it wants, once no commit is pending (R182). (Log entry 307: DEDUCED, unsafe.) -/
def State.useMode (s : State) : State :=
  match s.hbm.want with
  | none => s
  | some m =>
    if s.hbm.mode = some m ∨ s.arbPending ∨ s.blockDown 10 then s
    else ({ s with hbm := { s.hbm with mode := some m } }.loadMode m).arbCommit

/-- A window of a channel starts (R178, R180): quota counts return to zero and a committed set is taken. -/
def State.windowStart (s : State) (g : Nat) : State :=
  let s := s.setChan g { s.chan g with used := [], cycles := 0 }
  match s.hbm.next with
  | none => s
  | some n =>
    let w := eraseKey s.hbm.waiting g
    if w.isEmpty then
      ({ s with hbm := { s.hbm with active := n, next := none, waiting := [] } }.sf ARB_COMMIT ARB_COMMIT_PENDING 0).useMode
    else { s with hbm := { s.hbm with waiting := w } }

/-- A channel counts arbitration cycles; 1,024 make a window (R178). -/
def State.countCycles (s : State) (g k : Nat) : State :=
  let n := (s.chan g).cycles + k
  if n < 1024 then s.setChan g { s.chan g with cycles := n }
  else
    let s := s.windowStart g
    s.setChan g { s.chan g with cycles := n % 1024 }

/-! ### Requests and grants (R174 to R179) -/

def State.hbmReady (s : State) : Bool := s.bit HBM_STATUS HBM_STATUS_READY

/-- The oldest request of a line at a channel: only it competes (R177). -/
def State.headOf (s : State) (g l : Nat) : Option HbmReq :=
  s.hbm.queue.find? (fun r => hbmChannel r.addr == g && r.line == l)

/-- The lines that compete in this cycle: unmasked high-priority lines first, else the normal ones; with the guard that
covers them (R177, R178). -/
def State.compete (s : State) (g : Nat) : Nat × List Nat :=
  let set := s.arbSet g
  let here := (List.range 8).filter (fun l => (s.headOf g l).isSome)
  let high := here.filter (fun i => decide (set.quota i > 0) && decide (Tab.get (fun _ => 0) (s.chan g).used i < set.quota i))
  if high.isEmpty then (63, here.filter (fun i => set.quota i == 0)) else (256, high)

/-- A granted access (R166, R168, R169): a read returns its data; a partial write costs a second grant; a scrub read writes
back a line it found in error. (Log entry 83: DEDUCED, unsafe.) -/
def State.perform (s : State) (r : HbmReq) : State :=
  let line := r.addr / 64 * 64
  if r.scrub then
    match s.lineMark line with
    | .corrected => ((s.hbmError line false true).setLineMark line .clean).dropInjected 2 (hbmChannel line) line
    | .uncorrected => ((s.hbmError line true true).setLineMark line .poisoned).dropInjected 2 (hbmChannel line) line
    | _ => s
  else match r.data with
    | none =>
      let (p, s) := s.readLine line
      let bs := s.bytes r.addr r.len
      { s.emit (.data r.line r.addr bs p) with answer32 := bs, answerErr := if p then some .poison else none }
    | some bs =>
      let s := if bs.length < 64 then (s.grant (hbmChannel line) r.line 1).countCycles (hbmChannel line) 1 else s
      s.writeHbm r.addr bs r.poison

/-- A channel makes no grant: before READY, frozen, in the safe state, or with block HBM out of service (R174, R179,
R425). -/
def State.chanStopped (s : State) (g : Nat) : Bool :=
  !s.hbmReady || (s.chan g).frozen || s.blockDown 10 || s.safe

/-- Arbitration cycles of a channel, until it has nothing it may grant: with a refresh debt of four the channel is
refreshed first (R170); then the oldest requests of the competing lines draw (R176 to R178), and the winner's access is
performed. `gap` cycles pass without a request before the first. (Log entry 80: DESIGN CHOICE, safe.) -/
def State.serveChan (g : Nat) : Nat → Nat → State → State
  | 0, _, s => s
  | k + 1, gap, s =>
    if s.chanStopped g then s
    else if (s.chan g).debt ≥ 4 then State.serveChan g k gap (s.setChan g { s.chan g with debt := 0 })
    else
      let s := s.countCycles g gap
      match s.compete g with
      | (_, []) => s.lfsrAdvance (arbId arbHbm g) gap
      | (guard, pool) =>
        match s.draw (arbId arbHbm g) guard gap (pool.map (fun i => (i, (s.arbSet g).tickets i))) with
        | (none, s) => s
        | (some w, s) =>
          match s.headOf g w with
          | none => s
          | some r =>
            let s := { s with hbm := { s.hbm with queue := s.hbm.queue.erase r } }
            State.serveChan g k 0 (((s.grant g w 1).countCycles g 1).perform r)

/-- Every request of a channel that may be granted is. -/
def State.serve (s : State) (g gap : Nat) : State := State.serveChan g (s.hbm.queue.length + 2) gap s

/-- The channels where requests wait are served. -/
def State.serveAll (s : State) : State :=
  ((s.hbm.queue.map (fun r => hbmChannel r.addr)).eraseDups).foldl (fun (s : State) g => s.serve g 0) s

/-- A request reaches its channel's arbiter and joins its line (R177); one outside the range reaches no channel (R164). -/
def State.arrive (s : State) (r : HbmReq) : State :=
  if r.addr ≥ hbmBytes then s
  else
    let s := s.wakeStack (hbmChannel r.addr)
    { s with hbm := { s.hbm with queue := s.hbm.queue ++ [r] } }

/-- A request arrives; when `more` reach the channel in the same cycle, the draw waits for them. (Log entry 80:
DESIGN CHOICE, safe.) -/
def State.request (s : State) (r : HbmReq) (more : Bool) (gap : Nat) : State :=
  if r.addr ≥ hbmBytes then s
  else if more then s.arrive r else (s.arrive r).serve (hbmChannel r.addr) gap

/-- An access of a requester of a line, by the lines it covers, waits as requests of those lines (R174). (Log entry
80: DESIGN CHOICE, safe.) -/
def State.holdAccess (s : State) (l a n : Nat) (data : Option (List Byte)) (poison : Bool) : Nat → State
  | 0 => s
  | k + 1 =>
    if n = 0 then s
    else
      let m := min n (64 - a % 64)
      State.holdAccess (s.arrive ⟨l, a, m, data.map (·.take m), poison, false⟩) l (a + m) (n - m) (data.map (·.drop m)) poison k

/-- R166, R168: a line read, on the arbiter line of its source. -/
def execHbmRead (src : HbmSource) (addr : BitVec 38) (more : Bool) (gap : Nat) (s : State) : Res :=
  let a := addr.toNat / 64 * 64
  ok (s.request ⟨s.lineOf (hbmChannel a) src, a, 64, none, false, false⟩ more gap)

/-- R166, R168: a write within one line. -/
def execHbmWrite (src : HbmSource) (addr : BitVec 38) (data : List Byte) (poison : Bool) (more : Bool)
    (gap : Nat) (s : State) : Res :=
  let a := addr.toNat
  let bs := data.take (64 - a % 64)
  if bs.isEmpty then ok s
  else ok (s.request ⟨s.lineOf (hbmChannel a) src, a, bs.length, some bs, poison, false⟩ more gap)

/-- Lines of a channel, 768 MiB. -/
def chanLines : Nat := 0x3000_0000 / 64
/-- SCRUB_HOURS in fabric-clock cycles. -/
def State.scrubPeriod (s : State) : Nat := s.gf HBM_CTL HBM_CTL_SCRUB_HOURS * 3600 * 156250000

/-- R169: the channel's next scrub read, on line 7. A channel whose lines are all read begins again when the period is
over. It pauses in self-refresh, on a frozen channel, and with SCRUB_HOURS zero, and resumes where it stopped. (Log
entry 84: DEDUCED, safe.) -/
def execScrubRead (g : Fin 192) (more : Bool) (gap : Nat) (s : State) : Res :=
  let c := s.chan g
  if s.gf HBM_CTL HBM_CTL_SCRUB_HOURS = 0 ∨ s.chanStopped g ∨ bitAt s.hbm.sr (stackOf g) then ok s
  else if chanLines ≤ c.scrub ∧ s.clock < c.scrubAt + s.scrubPeriod then ok s
  else
    let c := if chanLines ≤ c.scrub then { c with scrub := 0, scrubAt := s.clock } else c
    let s := s.setChan g { c with scrub := c.scrub + 1 }
    ok (s.request ⟨7, chanAddr g (c.scrub * 64), 64, none, false, true⟩ more gap)

/-- R170: a refresh interval elapses; a per-bank refresh in a gap repays it. In self-refresh the stack refreshes
itself. (Log entry 82: DEDUCED, unsafe.) -/
def execRefreshDue (g : Fin 192) (inGap : Bool) (s : State) : Res :=
  if bitAt s.hbm.sr (stackOf g) || inGap then ok s
  else ok (s.setChan g { s.chan g with debt := min 4 ((s.chan g).debt + 1) })

/-- R170, R171: with a debt of four the refresh requester takes the channel for an all-bank refresh, which repays it.
(Log entry 82: DEDUCED, unsafe.) -/
def execAllBankRefresh (g : Fin 192) (s : State) : Res :=
  if (s.chan g).debt ≥ 4 then ok (s.setChan g { s.chan g with debt := 0 }) else ok s

/-- Put one byte into a temperature register. -/
def State.setTemp (s : State) (off i t : Nat) : State :=
  s.wr (off + i / 4 * 4) (BitVec.ofNat 32 (bitsPut (s.rd (off + i / 4 * 4)).toNat (i % 4 * 8) 8 t))

/-- R172: a stack's temperature, and its three thresholds; R415's 90 °C ends what 95 °C began. -/
def execHbmTempUpdate (stack : Fin 6) (celsius : Byte) (s : State) : Res :=
  let t := celsius.toNat
  let k := stack.val
  let s := s.setTemp HBM_TEMP0 k t
  let s := s.sf HBM_STATUS HBM_STATUS_HOT (bitsPut (s.gf HBM_STATUS HBM_STATUS_HOT) k 1 (b2n (decide (t ≥ 85))))
  let s := if t ≥ 95 then { s with hbm := { s.hbm with hot95 := insertKey s.hbm.hot95 k } }
    else if t < 90 then { s with hbm := { s.hbm with hot95 := eraseKey s.hbm.hot95 k } } else s
  if t ≥ 105 ∧ !s.hbm.hot105.contains k then
    ok ({ s with hbm := { s.hbm with hot105 := insertKey s.hbm.hot105 k } }.fault 0x07 k t)
  else ok s

/-- R173: with SR_REQ one, a stack idle for 1 µs enters self-refresh; one with a request at a channel is not idle. -/
def execSelfRefreshEntry (stack : Fin 6) (s : State) : Res :=
  if s.bit HBM_CTL HBM_CTL_SR_REQ && !s.hbm.queue.any (fun r => stackOf (hbmChannel r.addr) == stack.val) then
    ok { s with hbm := { s.hbm with sr := bitsPut s.hbm.sr stack 1 1 } }
  else ok s

/-- HBM_CTL (R169, R173): clearing SR_REQ brings every stack out of self-refresh, but for the safe state (R434). -/
def writeHbmCtl (q : Requester) (v : W32) (s : State) : State :=
  if !coreWrites q then s
  else
    let s := s.wr HBM_CTL (v &&& 0x0000FF01#32)
    if bitAt v.toNat 0 || s.safe then s else { s with hbm := { s.hbm with sr := 0 } }

/-- R173: a write of HBM_CTL with SR_REQ zero. -/
def execSrReqClear (q : Requester) (v : W32) (s : State) : Res := ok (writeHbmCtl q (v &&& 0xFFFFFFFE#32) s)

/-- R174: a stack has trained, or a training step failed. -/
def execHbmTrainingDone (stack : Fin 6) (failed : Option (Fin 8)) (s : State) : Res :=
  match failed with
  | none =>
    let s := s.sf HBM_STATUS HBM_STATUS_TRAINED (bitsPut (s.gf HBM_STATUS HBM_STATUS_TRAINED) stack 1 1)
    ok { s with hbm := { s.hbm with trainedAt := s.clock } }
  | some step => if step.val = 0 then ok s else ok (s.fault 0x08 stack step)

/-- R174: every stack has trained, and the zero fill, no shorter than 31.5 ms after the last, is complete; requests that were
held are served. The boot ROM,
with the identity derived, then waits for the firmware load, and the host link answers (R338, R361 step 6). -/
def execHbmReady (s : State) : Res :=
  if s.gf HBM_STATUS HBM_STATUS_TRAINED = 63 ∧ !s.hbmReady ∧ s.clock - s.hbm.trainedAt ≥ nsCycles 31500000 then
    let s := { s with mem := s.mem.filter (fun e => decide (e.1 ≥ hbmBytes)), lineMarks := [] }
    let s := (s.sf HBM_STATUS HBM_STATUS_READY 1).serveAll
    if s.gf DEV_STATUS DEV_STATUS_STAGE = 3 then
      ok { s.sf DEV_STATUS DEV_STATUS_STAGE 4 with host := { s.host with cfgReady := true, linkUp := true, link := .l0 } }
    else ok s
  else ok s

/-- R178, R180: the cycles that are left of a channel's window pass, its next window starts, and requests of lines that were
masked compete again. -/
def execArbWindowStart (g : Fin 192) (s : State) : Res :=
  ok (((s.lfsrAdvance (arbId arbHbm g) (1024 - (s.chan g).cycles)).windowStart g).serve g 0)

/-! ### Writes of the ARB registers -/

/-- ARB_LINE0 to ARB_LINE7 and ARB_CLASSMAP0 to 7: staged, no effect while PENDING. -/
def writeArbLine (q : Requester) (l : Nat) (v : W32) (s : State) : State :=
  if coreWrites q && !s.arbPending then s.wr (ARB_LINE l) (v &&& 0x03FF00FF#32) else s

def writeArbClassmap (q : Requester) (j : Nat) (v : W32) (s : State) : State :=
  if coreWrites q && !s.arbPending then s.wr (ARB_CLASSMAP j) (v &&& 0x77777777#32) else s

/-- ARB_COMMIT (R180). -/
def writeArbCommit (q : Requester) (v : W32) (s : State) : State :=
  if coreWrites q && bitAt v.toNat 31 && !s.arbPending && !s.blockDown 10 then s.arbCommit else s

/-- R180: a write of ARB_COMMIT with COMMIT one. -/
def execArbCommit (q : Requester) (v : W32) (s : State) : Res := ok (writeArbCommit q (v ||| 0x80000000#32) s)

/-- ARB_MODE (R182): MODE is stored; LOAD copies its defaults unless a commit is pending. -/
def writeArbMode (q : Requester) (v : W32) (s : State) : State :=
  if !coreWrites q then s
  else
    if bitAt v.toNat 31 && !s.arbPending then s.loadMode (v.toNat % 4)
    else s.sf ARB_MODE ARB_MODE_MODE (v.toNat % 4)

/-- R182: a write of ARB_MODE with LOAD one. -/
def execArbModeLoad (q : Requester) (v : W32) (s : State) : Res := ok (writeArbMode q (v ||| 0x80000000#32) s)

/-- ARB_FREEZE_STATUS shows the channel that ARB_FREEZE.CHANNEL selects (R183). -/
def State.freezeShow (s : State) : State :=
  let g := s.gf ARB_FREEZE ARB_FREEZE_CHANNEL
  let c := s.chan g
  let s := s.sf ARB_FREEZE_STATUS ARB_FREEZE_STATUS_FROZEN (b2n (decide (g < 192) && c.frozen))
  let s := s.sf ARB_FREEZE_STATUS ARB_FREEZE_STATUS_DRAINED (b2n (decide (g < 192) && c.frozen && c.drained))
  s.sf ARB_FREEZE_STATUS ARB_FREEZE_STATUS_ANY_FROZEN (b2n (s.hbm.chans.any (fun e => e.2.frozen)))

/-- ARB_FREEZE (R179): CHANNEL is stored; OP 1 freezes and OP 2 unfreezes it, or every channel with ALL one. -/
def writeArbFreeze (q : Requester) (v : W32) (s : State) : State :=
  if !coreWrites q then s
  else
    let w := v.toNat
    let g := w % 256
    let s := s.sf ARB_FREEZE ARB_FREEZE_CHANNEL g
    let chans := if bitAt w 29 then List.range 192 else if g < 192 then [g] else []
    let op := bitsOf w 30 2
    let s := if op = 1 then chans.foldl (fun s g =>
          if (s.chan g).frozen then s else s.setChan g { s.chan g with frozen := true, drained := false }) s
      else if op = 2 then (chans.foldl (fun s g => s.setChan g { s.chan g with frozen := false, drained := false }) s).serveAll
      else s
    s.freezeShow

/-- R179: a write of ARB_FREEZE with OP 1. -/
def execArbFreeze (q : Requester) (v : W32) (s : State) : Res :=
  ok (writeArbFreeze q ((v &&& 0x3FFFFFFF#32) ||| 0x40000000#32) s)

/-- R179: a write of ARB_FREEZE with OP 2. -/
def execArbUnfreeze (q : Requester) (v : W32) (s : State) : Res :=
  ok (writeArbFreeze q ((v &&& 0x3FFFFFFF#32) ||| 0x80000000#32) s)

/-- R179: a frozen channel has no access in use and an empty queue. -/
def execArbChannelDrained (g : Fin 192) (s : State) : Res :=
  if (s.chan g).frozen then ok ((s.setChan g { s.chan g with drained := true }).freezeShow) else ok s

end Sys2Proof.Machine
end

