-- ==== Sys2Proof/Machine/Slots.lean ====
section
/-! DEFINITION. The global slot schedule as the engines read it (05_collectives.md R104 to R109). -/

namespace Sys2Proof.Machine

/-- Fields of a slot entry (R104). -/
def slotMask (e : Nat) : Nat := e % 2 ^ 32
def slotGroup (e : Nat) : Nat := bitsOf e 32 12
def slotAny (e : Nat) : Bool := bitAt e 44
def slotKind (e : Nat) : Nat := bitsOf e 45 2
def slotPhase (e : Nat) : Nat := bitsOf e 48 8

/-- Slot length in ns (R104). -/
def slotNs : Nat := 20000

/-- Index of the slot in force at time `t` ≥ T (R107). -/
def SlotList.index (l : SlotList) (t : Nat) : Nat := ((t - l.t) / slotNs) % l.entries.length

/-- The entry in force at a time; none before the takeover time. -/
def SlotList.entryAt (l : SlotList) (t : Nat) : Option Nat :=
  if l.t ≤ t ∧ l.entries ≠ [] then l.entries[l.index t]? else none

/-- The entry in force at a time (R107): of the pending list from its T on, of the active list, or, before the active list's
T, of the list it replaced. -/
def State.slotAt (s : State) (t : Nat) : Option Nat :=
  [s.col.slotPending, s.col.slotActive, s.col.slotPrior].findSome? (fun l => l.bind (fun l => l.entryAt t))

/-- An entry lets a loaded group's collective data use a port (R105). -/
def slotGrants (e g p : Nat) : Bool :=
  bitAt (slotMask e) p && ((slotKind e == 1 && (slotAny e || slotGroup e == g)) || slotKind e == 2)

/-- The slot schedule is gated on the time unit's qualification (R109). -/
def State.slotQualified (s : State) : Bool := s.bit TIME_STATUS TIME_STATUS_QUALIFIED

/-- A port may start a collective data packet of group `g`, of serialization time `ser`, now (R105): 1,000 ns after the
slot's start and, with that time, 1,000 ns before its end; the guard falls away between slots that grant the same group. After
a loss of qualification sending resumes at the next slot boundary (R109). (Log entry 52: DEDUCED, unsafe.) -/
def State.mayStart (s : State) (g p ser : Nat) : Bool :=
  let t := s.now
  let off := t % slotNs
  let grants (t : Nat) : Bool := match s.slotAt t with
    | some e => slotGrants e g p
    | none => false
  s.slotQualified && decide (s.col.resumeAt ≤ t) && grants t
    && (decide (off ≥ 1000) || (decide (t ≥ slotNs) && grants (t - slotNs)))
    && (decide (off + ser ≤ slotNs - 1000) || grants (t + slotNs))

/-- The slot that holds time `t` lets collective data use a port (R105). -/
def State.slotGranted (s : State) (p t : Nat) : Bool :=
  match s.slotAt t with
  | some e => bitAt (slotMask e) p && (slotKind e == 1 || slotKind e == 2)
  | none => false

/-- A packet that is not collective data may start (R105): it does not reach across 1,000 ns after the start of a
granted slot. -/
def State.mayStartOther (s : State) (p ser : Nat) : Bool :=
  let t := s.now
  let mark (start : Nat) : Bool := s.slotGranted p start && decide (t < start + 1000) && decide (t + ser > start + 1000)
  !(mark (t / slotNs * slotNs) || mark ((t / slotNs + 1) * slotNs))

end Sys2Proof.Machine
end

