-- ==== Sys2Proof/Machine/Syncen.lean ====
section
/-! DEFINITION. What every Syncen request goes through (17_firmware_and_syncen.md R364 to R372; 16_virtual_instances.md
R345, R357): the checks made before an opcode's own rules, and the answer that waits for its response to be written. -/

namespace Sys2Proof.Machine

/-- Mailbox number of a port: 0 to 7, or 8 plus the instance of an instance page. -/
def synBox : SynPort → Nat
  | .mailbox m => m.val
  | .page i => 8 + i.val

/-- INSTANCE as processed: a major-2 request takes 0xFFFF (R367). -/
def synInst (r : SynReq) : Nat := if r.major = 2 then 0xFFFF else r.inst.toNat

/-- The session bound to the request's mailbox. -/
def State.sessionOf (s : State) (r : SynReq) : Option Session := (s.mb (synBox r.port)).session

/-- Status of the checks made before an opcode's own rules, none when the request goes on. `dom` is the scheduling
domain that carries the opcode (none for TS and for mailbox 0x00xx requests, which domain 0 carries). (Log entries
174: DEDUCED, unsafe; 177: DEDUCED, unsafe.) -/
def State.synRefusal (s : State) (opcode : Nat) (dom : Option Nat) (r : SynReq) : Option Nat :=
  let onPage := match r.port with | .page _ => true | .mailbox _ => false
  if !s.fwRunning && opcode != 0 then some 0x02F0
  else if r.major != 2 && r.major != 3 then some 0x01F1
  else if (match r.port with
      | .page i => !([0x0F09, 0x0C03, 0x0C0B].contains opcode) || synInst r != i.val
      | .mailbox _ => false) then some 0x0407
  else if !onPage && (match s.sessionOf r with
      | none => !([0, 1, 2].contains opcode)
      | some se => se.lost && !([0, 1, 2].contains opcode)) then some 0x0407
  else if opcode ≥ 0x100 && s.gf DEV_ENABLE DEV_ENABLE_EN == 0 then some 0x02F0
  else if r.short then some 0x01F2
  else if (match r.ind with | some i => !i.readOk || !s.bme | none => false) then some 0x01F3
  else match dom with
    | some d => if s.coreOfDomain d = 255 then some 0x05F0 else none
    | none => none

/-- Put the answer of a request in its mailbox, to be written by MBX_RESPONSE (R365 to R369). (Log entry 10: DESIGN
CHOICE, unsafe.) -/
def State.answer (s : State) (opcode : Nat) (r : SynReq) (status : Nat) (payload : List Byte) : State :=
  s.setMb (synBox r.port) { s.mb (synBox r.port) with ans := some {
    opcode := opcode, major := if r.major = 2 then 2 else 3, minor := if r.major = 2 then 5 else 2
    tag := r.tag.toNat, inst := synInst r, status := status, payload := payload, ind := r.ind } }

/-- One Syncen request: the common checks, then the opcode's own effect, which gives the new state, the status and the
response payload. -/
def State.syn (s : State) (opcode : Nat) (dom : Option Nat) (r : SynReq)
    (f : State → State × Nat × List Byte) : State :=
  match s.synRefusal opcode dom r with
  | some st => s.answer opcode r st []
  | none =>
    let (s', st, pl) := f s
    s'.answer opcode r st pl

/-- A Syncen request whose response may come later: the opcode's effect gives no answer while the request waits. -/
def State.synLater (s : State) (opcode : Nat) (dom : Option Nat) (r : SynReq)
    (f : State → State × Option (Nat × List Byte)) : State :=
  match s.synRefusal opcode dom r with
  | some st => s.answer opcode r st []
  | none =>
    match f s with
    | (s', some (st, pl)) => s'.answer opcode r st pl
    | (s', none) => s'

/-- A refusal whose code the manual does not state: a free value. (Log entries 160: DESIGN CHOICE, safe; 218: DESIGN
CHOICE, safe.) -/
def refuseFree (s : State) : State × Nat × List Byte := (s.tick, (s.fresh 16).toNat, [])

/-- The request's session owns the instance (R345). -/
def State.ownsInst (s : State) (r : SynReq) (i : Nat) : Bool :=
  match s.sessionOf r with
  | some se => (s.instOf i).state == .free || se.id == (s.instOf i).session
  | none => false

/-- A refusal with no payload. -/
def refuse (s : State) (st : Nat) : State × Nat × List Byte := (s, st, [])

/-- How many opcodes an allocated range defines, from the first on; none for a range that is not allocated (R370, and the
opcode tables of the owning chapters: R112, R139, R162, R208 and the like). -/
def synDefined : Nat → Nat
  | 0x00 => 12 | 0x05 => 6 | 0x06 => 11 | 0x07 => 8 | 0x08 => 5 | 0x09 => 9 | 0x0A => 7 | 0x0B => 7 | 0x0C => 12
  | 0x0D => 12 | 0x0E => 3 | 0x0F => 10 | 0x10 => 6 | 0x11 => 6 | 0x12 => 7 | _ => 0

/-- The opcode is defined; 0x0607 is a gap of its table. -/
def synKnown (op : Nat) : Bool := decide (op % 256 < synDefined (op / 256)) && op != 0x0607

/-- The header of a request as its request area holds it (R366). -/
def synHead (p : SynPort) (words : List W32) : Nat × SynReq :=
  let w (i : Nat) : Nat := (words[i]?.getD 0).toNat
  (bitsOf (w 0) 16 16, ⟨p, BitVec.ofNat 8 (w 0), BitVec.ofNat 8 (w 0 / 256), BitVec.ofNat 16 (w 1), BitVec.ofNat 16 (w 3),
    false, none⟩)

/-- A request whose opcode is not defined in its range, or whose range is not allocated, is refused with 0x01F0 (R369,
R370). (Log entry 349: DEDUCED, safe.) -/
def State.refuseUnknown (s : State) (p : SynPort) (words : List W32) : State :=
  let (op, r) := synHead p words
  if synKnown op then s else s.syn op none r fun s => refuse s 0x01F0

/-- Success with a payload. -/
def success (s : State) (pl : List Byte := []) : State × Nat × List Byte := (s, 0, pl)

/-- A spare takeover, rollback or restore is in progress (R369 code 0x02F1). -/
def State.recovering (s : State) : Bool :=
  s.bit CKP_STATUS CKP_STATUS_ROLLBACK_BUSY || s.ckp.takeover || s.ckp.restoring.isSome

end Sys2Proof.Machine
end

