-- ==== Sys2Proof/Machine/Kv.lean ====
section
/-! DEFINITION. The key/value tier and stream contexts (06_key_value_tier.md R114 to R139). -/

namespace Sys2Proof.Machine

/-! ### Stream contexts (R120 to R122) -/

def cxSTATE : Fd := ⟨0, 3⟩
def cxHOLD : Fd := ⟨3, 1⟩
def cxPF_LATE : Fd := ⟨4, 1⟩
def cxPRIOR : Fd := ⟨8, 3⟩
def cxCLASS : Fd := ⟨16, 6⟩
def cxGEN : Fd := ⟨32, 16⟩
def cxASI : Fd := ⟨48, 16⟩
def cxTOKENS : Fd := ⟨64, 32⟩
def cxTIER_ROWS : Fd := ⟨96, 32⟩
def cxPULLED_TO : Fd := ⟨128, 32⟩
def cxNSETS : Fd := ⟨160, 10⟩
def cxSET_TABLE : Fd := ⟨192, 52⟩
def cxNEXT_SET : Fd := ⟨256, 52⟩
def cxT0 : Fd := ⟨320, 64⟩
def cxK0 : Fd := ⟨384, 12⟩
def cxREADY : Fd := ⟨400, 8⟩
def cxJOBS : Fd := ⟨416, 32⟩
def cxLAST_USE : Fd := ⟨448, 64⟩

/-- Stream states. -/
def stFree : Nat := 0
def stParked : Nat := 1
def stResuming : Nat := 2
def stActive : Nat := 3
def stParking : Nat := 4
def stFrozen : Nat := 5
def stError : Nat := 6
def stClosing : Nat := 7

/-- ASI of a stream that is not resident. -/
def noAsi : Nat := 0xFFFF

def State.kvEn (s : State) : Bool := s.bit KV_CTL KV_CTL_EN && !s.blockDown 9

/-- Address of a context (R120). -/
def State.kvCtxAddr (s : State) (n : Nat) : Nat := (s.gf KV_CTX_BASE KV_CTX_BASE_BASE <<< 16) + n * 256

/-- A stream's context: the cached one, or the one in HBM. -/
def State.ctx (s : State) (n : Nat) : List Byte :=
  match s.kv.cache.find? (fun e => e.1 == n) with
  | some e => e.2
  | none => s.bytes (s.kvCtxAddr n) 256

/-- A context's field. -/
def State.cx (s : State) (n : Nat) (f : Fd) : Nat := f.read (s.ctx n)

/-- The context may be evicted (R122). -/
def ctxEvictable (c : List Byte) : Bool :=
  cxJOBS.read c == 0 && (cxSTATE.read c == stFree || cxSTATE.read c == stParked)

/-- Make room in a full cache: one of the contexts that may be evicted, which one the manual leaves open, is written
back. (Log entry 60: DESIGN CHOICE, safe.) -/
def State.evictCtx (s : State) : State :=
  let cand := (s.kv.cache.filter (fun e => ctxEvictable e.2))
  if s.kv.cache.length < 65536 then s
  else match cand[(s.fresh 16).toNat % cand.length]? with
    | some e =>
      let s := s.tick.poke (s.kvCtxAddr e.1) e.2
      { s with kv := { s.kv with cache := Tab.erase s.kv.cache e.1 } }
    | none => s

/-- The context is on die (R122). While none of 65,536 cached contexts may go, it stays in HBM. (Log entries 69:
DEDUCED, unsafe; 344: DEDUCED, unsafe.) -/
def State.fetchCtx (s : State) (n : Nat) : State :=
  if s.kv.cache.any (fun e => e.1 == n) then s
  else
    let s := s.evictCtx
    if s.kv.cache.length < 65536 then
      let bs := s.bytes (s.kvCtxAddr n) 256
      let s := (s.load (s.kvCtxAddr n) 256).2.2
      { s with kv := { s.kv with cache := Tab.insert s.kv.cache n bs } }
    else s

/-- Replace a context on die; LAST_USE is the time of the change. HBM holds every context's current content too, so that
a mark captures it (R440). (Log entry 61: DEDUCED, unsafe.) -/
def State.setCtx (s : State) (n : Nat) (c : List Byte) : State :=
  let s := s.fetchCtx n
  let c := cxLAST_USE.write c s.now
  let s := if s.kv.cache.any (fun e => e.1 == n) then { s with kv := { s.kv with cache := Tab.insert s.kv.cache n c } } else s
  s.poke (s.kvCtxAddr n) c

/-- Replace one field of a context. -/
def State.setCx (s : State) (n : Nat) (f : Fd) (x : Nat) : State := s.setCtx n (f.write (s.ctx n) x)

/-- KV_CONTEXT_FETCH. -/
def execKvContextFetch (stream : BitVec 20) (s : State) : Res :=
  ok (if s.kvEn then s.fetchCtx stream.toNat else s)

/-! ### Stream classes (R114, R115) -/

def State.classRec (s : State) (c : Nat) : List Byte :=
  s.bytes ((s.gf KV_CLASS_BASE KV_CLASS_BASE_BASE <<< 12) + c * 64) 64

def kcValid (r : List Byte) : Bool := wordFd r 0 0 1 == 1
def kcFmt (r : List Byte) : Nat := wordFd r 0 4 4
def kcAcc (r : List Byte) : Nat := wordFd r 0 8 4
def kcLogGroup (r : List Byte) : Nat := wordFd r 0 12 3
def kcGroup (r : List Byte) : Nat := 2 ^ kcLogGroup r
def kcLayers (r : List Byte) : Nat := fieldLE r 4 1
def kcShards (r : List Byte) : Nat := fieldLE r 6 1 % 16
def kcElems (r : List Byte) : Nat := fieldLE r 8 2 % 2 ^ 14
def kcMaxSets (r : List Byte) : Nat := fieldLE r 10 2 % 1024
def kcPort (r : List Byte) (k : Nat) : Nat := bitsOf (fieldLE r 12 4) (3 * k) 3
def kcLead (r : List Byte) : Nat := fieldLE r 16 4
def kcSpan (r : List Byte) : Nat := fieldLE r 20 1 % 64

/-- Row record size in a format (R115). -/
def kcRowBytes (r : List Byte) (fmt : Nat) : Nat := storedBytes fmt (kcElems r)

/-- Page capacity P (R115). -/
def kcPage (r : List Byte) : Nat := kcGroup r * (65536 / (kcGroup r * kcRowBytes r (kcFmt r)))

/-- The most tokens a stream of the class holds. -/
def kcLimit (r : List Byte) : Nat := kcMaxSets r * kcPage r

/-- Shards of a class with their ports. -/
def kcPorts (r : List Byte) : List (Nat × Nat) := (List.range (kcShards r)).map (fun k => (k, kcPort r k))

/-- The fields of a class are in range (R114, R115, 0x0662). -/
def kcFieldsOk (r : List Byte) : Bool :=
  [0x1, 0x4, 0x5, 0xA, 0xB].contains (kcFmt r) && (kcAcc r == 1 || kcAcc r == kcFmt r)
    && decide (4 ≤ kcLogGroup r) && decide (1 ≤ kcLayers r)
    && decide (1 ≤ kcShards r) && decide (kcShards r ≤ 8)
    && kcElems r % 32 == 0 && decide (32 ≤ kcElems r) && decide (kcElems r ≤ 8192)
    && decide (1 ≤ kcMaxSets r) && decide (kcMaxSets r ≤ 512) && decide (1 ≤ kcSpan r)
    && decide (kcGroup r ≤ kcPage r)

/-! ### Accelerator port profiles (R123, R124) -/

def State.profile (s : State) (p : Nat) : Option (List Byte) := (s.kv.profiles.find? (fun e => e.1 == p)).map (·.2)

def kpMps (r : List Byte) : Nat := wordFd r 0 4 3
def kpFctx (r : List Byte) : Nat := wordFd r 0 8 12
def kpCflagVbase (r : List Byte) : Nat := fieldLE r 4 4 % 2 ^ 24
def kpDoorbell (r : List Byte) : Nat := fieldLE r 8 8 % 2 ^ 40
def kpDb8 (r : List Byte) : Bool := bitAt (fieldLE r 8 8) 62
def kpCflagAddr (r : List Byte) : Nat := fieldLE r 16 8 / 4096 * 4096
def kpSlotBase (r : List Byte) : Nat := fieldLE r 24 8 % 2 ^ 40
def kpSlotBytes (r : List Byte) : Nat := fieldLE r 32 4
def kpNslots (r : List Byte) : Nat := fieldLE r 36 4 % 2 ^ 24
def kpStride (r : List Byte) : Nat := fieldLE r 40 4
def kpMaxActive (r : List Byte) : Nat := fieldLE r 44 2 % 2 ^ 13
def kpMaxGroups (r : List Byte) : Nat := fieldLE r 46 2
def kpSlotMap (r : List Byte) : Nat := fieldLE r 48 8 % 2 ^ 40
def kpReadyMap (r : List Byte) : Nat := fieldLE r 56 8 % 2 ^ 40
def kpResBase (r : List Byte) : Nat := bitsOf (fieldLE r 64 8) 12 40 * 4096
def kpOwinBase (r : List Byte) : Nat := fieldLE r 72 8 % 2 ^ 40
def kpOwinSize (r : List Byte) : Nat := fieldLE r 80 8 % 2 ^ 40
def kpInflight (r : List Byte) : Nat := fieldLE r 120 4 % 2 ^ 16

/-- Accelerator memory of a port (R11). -/
def accelAddr (p off : Nat) : Nat := accelBase + p * accelSpan + off

/-- A range of offsets lies in the outbound window. -/
def inOwin (r : List Byte) (a n : Nat) : Bool :=
  decide (kpOwinBase r ≤ a) && decide (a + n ≤ kpOwinBase r + kpOwinSize r)

/-- The checks of a profile (0x0664). -/
def kpOk (r : List Byte) (p : Nat) : Bool :=
  wordFd r 0 0 3 == p && decide (kpMps r ≤ 5) && decide (kpOwinBase r + kpOwinSize r ≤ 2 ^ 40)
    && inOwin r (kpSlotBase r) (kpNslots r * kpSlotBytes r)
    && inOwin r (kpSlotMap r) (kpMaxActive r * kpMaxGroups r * 4)
    && inOwin r (kpReadyMap r) (kpMaxActive r * 4)

/-- A class fits a profile (R125, 0x0665). -/
def kcFits (c p : List Byte) : Bool :=
  decide (kcLayers c * kpStride p ≤ kpSlotBytes p)
    && decide (kcGroup c * kcRowBytes c (kcAcc c) ≤ kpStride p)
    && decide (kcMaxSets c * kcPage c / kcGroup c + 2 ≤ kpMaxGroups p)

/-- KV_CTL.REFUSAL. -/
def State.kvRefusal (s : State) (c : Nat) : State := s.sf KV_CTL KV_CTL_REFUSAL c

/-- Count a discard. -/
def State.kvDiscard (s : State) : State := s.cnt KV_DISCARD KV_DISCARD_COUNT 1

/-! ### Slots (R125) -/

/-- Keys of the slot map and of the ASI table. -/
def mapKey (p a g : Nat) : Nat := p * 2 ^ 32 + a * 2 ^ 16 + g
def asiKey (p a : Nat) : Nat := p * 2 ^ 16 + a

/-- The slot that maps a group, none when no slot does. -/
def State.slotFor (s : State) (p a g : Nat) : Option Nat :=
  (s.kv.map.find? (fun e => e.1 == mapKey p a g)).map (·.2)

/-- Slots in use on a port, in rising order. -/
def State.usedSlots (s : State) (p : Nat) : List Nat :=
  (s.kv.map.filter (fun e => e.1 / 2 ^ 32 == p)).foldl (fun l e => insertKey l e.2) []

/-- Free slots of a port. -/
def State.freeSlots (s : State) (p : Nat) : Nat :=
  match s.profile p with
  | some r => kpNslots r - (s.usedSlots p).length
  | none => 0

/-- The k-th number that a rising list leaves out. -/
def kthFree (used : List Nat) (k : Nat) : Nat := used.foldl (fun x u => if u ≤ x then x + 1 else x) k

/-- Write a slot map entry in the accelerator and in the engine's copy (R125). -/
def State.writeMapEntry (s : State) (p a g slot : Nat) : State :=
  match s.profile p with
  | some r =>
    if a < kpMaxActive r ∧ g < kpMaxGroups r then
      let o := (a * kpMaxGroups r + g) * 4
      (s.poke (accelAddr p (kpSlotMap r + o)) (leBytes 4 slot)).poke (kpResBase r + o) (leBytes 4 slot)
    else s
  | none => s

/-- Map a group to a free slot, which one the manual leaves open; false when the port has none. (Log entry 60: DESIGN
CHOICE, safe.) -/
def State.mapGroup (s : State) (p a g : Nat) : Bool × State :=
  let n := s.freeSlots p
  if n = 0 then (false, s)
  else
    let slot := kthFree (s.usedSlots p) ((s.fresh 32).toNat % n)
    let s := s.tick
    let s := { s with kv := { s.kv with map := Tab.insert s.kv.map (mapKey p a g) slot } }
    (true, s.writeMapEntry p a g slot)

/-! ### Jobs (R127, R128) -/

/-- A job with every field zero but its stream, kind and descriptor class. -/
def KvJob.blank (kind dcls stream gen cls : Nat) : KvJob :=
  ⟨0, kind, 0, 0, stream, gen, cls, dcls, 0, 0, 0, 0, 0, 0, 0, 0, 0, false, 0, false, false⟩

/-- Job record (R127). -/
def KvJob.record (j : KvJob) : List Byte :=
  fit 64 (leBytes 1 j.kind ++ leBytes 1 j.shard ++ leBytes 1 j.port ++ [0] ++ leBytes 4 j.stream ++ leBytes 4 j.id
    ++ leBytes 2 j.gen ++ leBytes 2 (j.cls + j.dcls * 256) ++ leBytes 8 j.set_ ++ leBytes 4 j.first ++ leBytes 4 j.count
    ++ leBytes 4 j.slot ++ leBytes 4 j.slotRow ++ leBytes 8 j.deadline ++ leBytes 1 j.from_ ++ leBytes 1 j.to_)

def State.jobTail (s : State) : Nat := s.gf KV_RING_STATUS KV_RING_STATUS_JOB_TAIL
def State.doneHead (s : State) : Nat := s.gf KV_RING_STATUS KV_RING_STATUS_DONE_HEAD

/-- The job ring has room (R127). -/
def State.jobRoom (s : State) : Bool :=
  decide (ixDiff s.jobTail (s.gf KV_JOB_HEAD KV_JOB_HEAD_HEAD) < 2 ^ s.gf KV_JOB_BASE KV_JOB_BASE_LOG2N)

/-- Outstanding jobs of a stream: created, and neither done nor failed. -/
def State.streamJobs (s : State) (n : Nat) : List KvJob := s.kv.jobs.filter (fun j => j.stream == n && !j.failed)

/-- Bring JOBS in line with the jobs of the stream. -/
def State.syncJobs (s : State) (n : Nat) : State := s.setCx n cxJOBS (s.streamJobs n).length

/-- Create a job; it is posted once it may be. -/
def State.addJob (s : State) (j : KvJob) : State :=
  let s := { s with kv := { s.kv with jobs := s.kv.jobs ++ [{ j with id := s.kv.nextId }]
                                      nextId := (s.kv.nextId + 1) % 2 ^ 32 } }
  s.syncJobs j.stream

/-- A job waits behind an older one of its set when either is a MOVE (R131, R136). -/
def setBlocked (older : List KvJob) (j : KvJob) : Bool :=
  j.set_ != 0 && older.any (fun k => k.set_ == j.set_ && (k.kind == 3 || j.kind == 3))

/-- The stream's state lets a job of this kind be posted (R120, R121, R135). -/
def State.kindAllowed (s : State) (j : KvJob) : Bool :=
  let st := s.cx j.stream cxSTATE
  st != stError && !(st == stFrozen && (j.kind == 1 || j.kind == 2))

/-- Decoded bytes of the pushes in flight, toward a port or in all (R133). -/
def State.pushBytes (s : State) (p : Option Nat) : Nat :=
  (s.kv.jobs.filter (fun j => j.posted && !j.failed && j.kind == 2 && (match p with | some p => j.port == p | none => true))).foldl
    (fun n j => n + j.bytes) 0

/-- The push fits under the port's limit, and under the tier's. -/
def State.pushFitsPort (s : State) (j : KvJob) : Bool :=
  match s.profile j.port with
  | some r => decide (s.pushBytes (some j.port) + j.bytes ≤ kpInflight r * 1024)
  | none => false
def State.pushFitsTier (s : State) (j : KvJob) : Bool :=
  decide (s.pushBytes none + j.bytes ≤ max 1 (s.gf KV_CTL KV_CTL_PF_LIMIT) * 2 ^ 20)

/-- The first job that may be posted. A push held by a limit holds the pushes behind it that the same limit binds. -/
def State.nextJob (s : State) : List KvJob → List KvJob → List Nat → Bool → Option KvJob
  | [], _, _, _ => none
  | j :: rest, older, ports, all =>
    let go := s.nextJob rest (older ++ [j])
    if j.posted || j.failed || setBlocked older j || !s.kindAllowed j then go ports all
    else if j.kind = 2 then
      if all || !s.pushFitsTier j then go ports true
      else if ports.contains j.port || !s.pushFitsPort j then go (j.port :: ports) all
      else some j
    else some j

/-- Post one job: its record is written and JOB_TAIL advances (R127). (Log entry 67: DESIGN CHOICE, unsafe.) -/
def State.postJob (s : State) : Option State :=
  if !s.kvEn || !s.bit KV_CTL KV_CTL_JOB_EN || !s.jobRoom then none
  else match s.nextJob s.kv.jobs [] [] false with
    | none => none
    | some j =>
      let t := s.jobTail
      let base := s.gf KV_JOB_BASE KV_JOB_BASE_BASE <<< 12
      let s := s.poke (base + t % 2 ^ s.gf KV_JOB_BASE KV_JOB_BASE_LOG2N * 64) j.record
      let s := s.sf KV_RING_STATUS KV_RING_STATUS_JOB_TAIL (ix16 (t + 1))
      some { s with kv := { s.kv with jobs := s.kv.jobs.map (fun (k : KvJob) => if k.id = j.id then { k with posted := true } else k) } }

/-- The product mode that firmware wants (R182): mode 2 for the duration of a spare takeover or a restore, mode 1 while
more than 16 streams are RESUMING, else the mode the configuration image names. (Log entry 307: DEDUCED, unsafe.) -/
def State.modeWanted (s : State) : Nat :=
  if s.ckp.takeover || s.ckp.viewAt.isSome || s.ckp.restoring.isSome then 2
  else if (s.kv.opened.filter (fun e => s.cx e.1 cxSTATE == stResuming)).length > 16 then 1
  else s.fw.cfg.mode

/-- Firmware keeps the arbiters in the mode it wants, once it runs and HBM is ready (R182). -/
def State.modeUpdate (s : State) : State :=
  if s.fwRunning && s.hbmReady then { s with hbm := { s.hbm with want := some s.modeWanted } }.useMode else s

/-- Post every job that may be posted. -/
def State.postJobs : Nat → State → State
  | 0, s => s
  | n + 1, s =>
    match s.postJob with
    | some s => State.postJobs n s
    | none => s
def State.kvPump (s : State) : State := (s.postJobs s.kv.jobs.length).modeUpdate

/-- JOB_POST: a held job is written once the ring has room. -/
def execJobPost (s : State) : Res := ok ((s.postJob).getD s)

/-! ### Mapping groups ahead of the tokens (R125) -/

/-- The last group kept mapped for a token count. -/
def lastGroup (cls : List Byte) (tokens : Nat) : Nat := (tokens + 2 * kcGroup cls - 1) / kcGroup cls

/-- Map the groups of a stream on one port; tells whether a group lacks a slot. -/
def State.mapPort (s : State) (p a gmax : Nat) : Bool × State :=
  match s.profile p with
  | none => (true, s)
  | some r =>
    (List.range (min (gmax + 1) (kpMaxGroups r))).foldl (fun (acc : Bool × State) g =>
      if acc.1 || (acc.2.slotFor p a g).isSome then acc
      else
        let (done, s) := acc.2.mapGroup p a g
        (!done, s)) (false, s)

/-- Keep every group of R125 mapped. A port short of slots sets HOLD and posts SLOT_SHORT. -/
def State.mapStream (s : State) (n : Nat) : State :=
  let st := s.cx n cxSTATE
  if st != stResuming && st != stActive then s
  else
    let c := s.classRec (s.cx n cxCLASS)
    let gmax := lastGroup c (s.cx n cxTOKENS)
    let a := s.cx n cxASI
    let r := (kcPorts c).foldl (fun (acc : Bool × State) kp =>
      let m := acc.2.mapPort kp.2 a gmax
      let s := m.2
      if m.1 then
        let asked := s.kv.jobs.any (fun j => j.stream == n && j.kind == 5 && j.port == kp.2 && !j.failed)
        (true, if asked then s
          else s.addJob { KvJob.blank 5 0 n (s.cx n cxGEN) (s.cx n cxCLASS) with shard := kp.1, port := kp.2 })
      else (acc.1, s)) (false, s)
    let s := r.2
    if r.1 then
      { s.setCx n cxHOLD 1 with kv := { (s.setCx n cxHOLD 1).kv with
        short := if s.kv.short.contains n then s.kv.short else s.kv.short ++ [n] } }
    else if s.kv.short.contains n then
      let s := s.setCx n cxHOLD 0
      { s with kv := { s.kv with short := eraseKey s.kv.short n } }
    else s

/-- Slots were freed: streams that wait for one try again, longest waiting first. -/
def State.retryShort (s : State) : State := s.kv.short.foldl (fun (s : State) n => s.mapStream n) s

/-- Free a stream's slots and its ASI: the map entries are written to 0xFFFF_FFFF (R135). -/
def State.freeStreamSlots (s : State) (n : Nat) : State :=
  let a := s.cx n cxASI
  if a = noAsi then s
  else
    let ports := (kcPorts (s.classRec (s.cx n cxCLASS))).map (·.2)
    let mine := s.kv.map.filter (fun e => ports.contains (e.1 / 2 ^ 32) && e.1 / 2 ^ 16 % 2 ^ 16 == a)
    let s := mine.foldl (fun (s : State) e => s.writeMapEntry (e.1 / 2 ^ 32) a (e.1 % 2 ^ 16) 0xFFFF_FFFF) s
    let s := { s with kv := { s.kv with
      map := s.kv.map.filter (fun e => !mine.contains e)
      asis := s.kv.asis.filter (fun e => e.2 != n)
      short := eraseKey s.kv.short n } }
    ((s.setCx n cxASI noAsi).setCx n cxHOLD 0).retryShort

/-! ### Pulls (R129, R130) -/

/-- Ask for the descriptor of the next set. -/
def State.needSet (s : State) (n : Nat) : State :=
  s.addJob (KvJob.blank 4 0 n (s.cx n cxGEN) (s.cx n cxCLASS))

/-- Address of set i's descriptor, and whether the entry is VALID (R119). -/
def State.setDesc (s : State) (n i : Nat) : Option Nat :=
  let e := s.le (s.cx n cxSET_TABLE / 4096 * 4096 + i * 8) 8
  if bitAt e 0 then some (bitsOf e 6 46 * 64) else none

/-- The set that holds row r has a descriptor, taking NEXT_SET when it needs one; false when none is held (R129). -/
def State.takeSet (s : State) (n i : Nat) (cls : List Byte) : Bool × State :=
  if i < s.cx n cxNSETS then (true, s)
  else
    let d := s.cx n cxNEXT_SET / 64 * 64
    if d = 0 then (false, s)
    else
      let s := s.poke (s.cx n cxSET_TABLE / 4096 * 4096 + i * 8) (leBytes 8 (d + 1))
      let s := (s.setCx n cxNSETS (i + 1)).setCx n cxNEXT_SET 0
      (true, if i + 1 < kcMaxSets cls then s.needSet n else s)

/-- Post PULL jobs for rows PULLED_TO to TOKENS - 1, none crossing a row group, one per shard for each piece (R129).
(Log entry 68: DEDUCED, unsafe.) -/
def State.pullRows (n : Nat) : Nat → State → State
  | 0, s => s
  | k + 1, s =>
    let st := s.cx n cxSTATE
    let r := s.cx n cxPULLED_TO
    let tokens := s.cx n cxTOKENS
    let c := s.classRec (s.cx n cxCLASS)
    if (st != stActive && st != stParking) || r ≥ tokens then s
    else
      let g := r / kcGroup c
      let a := s.cx n cxASI
      if (kcPorts c).any (fun kp => (s.slotFor kp.2 a g).isNone) then s
      else
        let t := s.takeSet n (r / kcPage c) c
        let s := t.2
        if !t.1 then s
        else
          let stop := min tokens ((g + 1) * kcGroup c)
          let i := r / kcPage c
          let s := (kcPorts c).foldl (fun (s : State) kp =>
            s.addJob { KvJob.blank 1 7 n (s.cx n cxGEN) (s.cx n cxCLASS) with
              shard := kp.1, port := kp.2, set_ := (s.setDesc n i).getD 0, setIx := i, first := r % kcPage c
              count := stop - r, slot := (s.slotFor kp.2 a g).getD 0, slotRow := r % kcGroup c }) s
          State.pullRows n k (s.setCx n cxPULLED_TO stop)

/-- TIER_ROWS is the lowest row whose pull job is not yet done; it only rises (R130). -/
def State.raiseTier (s : State) (n : Nat) : State :=
  let p := kcPage (s.classRec (s.cx n cxCLASS))
  let low := (s.kv.jobs.filter (fun j => j.stream == n && j.kind == 1)).foldl
    (fun m j => min m (j.setIx * p + j.first)) (s.cx n cxPULLED_TO)
  if low > s.cx n cxTIER_ROWS then s.setCx n cxTIER_ROWS low else s

/-- Every row below TOKENS has its pull posted. -/
def State.allPulled (s : State) (n : Nat) : Bool := decide (s.cx n cxTOKENS ≤ s.cx n cxPULLED_TO)

/-! ### Resume (R126, R131 to R134) -/

/-- The layers of a stream whose pushes toward a port are all done. -/
def State.readyOn (s : State) (n p layers : Nat) : Nat :=
  (s.kv.jobs.filter (fun j => j.stream == n && j.kind == 2 && j.port == p)).foldl (fun m j => min m j.first) layers

/-- Advance the ready words and READY; at READY = LAYERS the stream is ACTIVE and its rows are the tier's (R126,
R131). -/
def State.advanceReady (s : State) (n : Nat) : State :=
  if s.cx n cxSTATE != stResuming then s
  else
    let c := s.classRec (s.cx n cxCLASS)
    let a := s.cx n cxASI
    let s := (kcPorts c).foldl (fun (s : State) kp =>
      match s.profile kp.2 with
      | some r =>
        let w := accelAddr kp.2 (kpReadyMap r + a * 4)
        let v := s.readyOn n kp.2 (kcLayers c)
        if v > s.le w 4 then s.poke w (leBytes 4 v) else s
      | none => s) s
    let ready := (kcPorts c).foldl (fun m kp => min m (s.readyOn n kp.2 (kcLayers c))) (kcLayers c)
    let s := s.setCx n cxREADY ready
    if ready = kcLayers c then
      let t := s.cx n cxTOKENS
      let s := ((s.setCx n cxSTATE stActive).setCx n cxPULLED_TO t).setCx n cxTIER_ROWS t
      { s with kv := { s.kv with deadlines := Tab.erase s.kv.deadlines n } }
    else s

/-- The layer deadline of R132: `phases` are the PHASE bytes of the active list. -/
def layerSlot (phases : List Nat) (t0 k0 l : Nat) : Nat :=
  ((List.range phases.length).foldl (fun (acc : Nat × Nat × Bool) j =>
    let (d, last, stop) := acc
    let ph := phases[(k0 + j) % phases.length]?.getD 0xFF
    if stop || ph == 0xFF then acc
    else if ph > l || ph < last then (d, last, true)
    else (t0 + j * slotNs, ph, false)) (t0, 0, false)).1
def layerDeadline (phases : List Nat) (t0 k0 lead l : Nat) : Nat := layerSlot phases t0 k0 l - lead

/-- PHASE bytes of the active slot list. -/
def State.phases (s : State) : List Nat :=
  match s.col.slotActive with
  | some l => l.entries.map slotPhase
  | none => []

/-- The layer deadlines of a resume. -/
def State.layerDeadlines (s : State) (n : Nat) : List Nat :=
  let c := s.classRec (s.cx n cxCLASS)
  (List.range (kcLayers c)).map (fun l => layerDeadline s.phases (s.cx n cxT0) (s.cx n cxK0) (kcLead c) l)

/-- Order of push jobs: deadline, then set, then shard (R131). -/
def pushBefore (a b : KvJob) : Bool :=
  decide (a.deadline < b.deadline) || (a.deadline == b.deadline
    && (decide (a.setIx < b.setIx) || (a.setIx == b.setIx && decide (a.shard < b.shard))))
def insertPush (j : KvJob) : List KvJob → List KvJob
  | [] => [j]
  | k :: t => if pushBefore j k then j :: k :: t else k :: insertPush j t
def sortPushes (l : List KvJob) : List KvJob := l.foldr insertPush []

/-- At a takeover of the slot list, the deadlines of jobs not yet posted are recomputed for the resumes whose T0 has not
passed (R132). -/
def State.kvTakeover (s : State) : State :=
  s.kv.deadlines.foldl (fun (s : State) e =>
    let n := e.1
    if s.now ≥ s.cx n cxT0 then s
    else
      let ds := s.layerDeadlines n
      let mine (j : KvJob) : Bool := j.stream == n && j.kind == 2 && !j.posted && !j.failed
      let new := (s.kv.jobs.filter mine).map (fun j => { j with deadline := ds[j.first]?.getD 0 })
      { s with kv := { s.kv with
        deadlines := Tab.insert s.kv.deadlines n ds
        jobs := s.kv.jobs.filter (fun j => !mine j) ++ sortPushes new } }) s

/-- Tier of frame entry e of a set descriptor (R118). -/
def State.frameTier (s : State) (d e : Nat) : Nat := s.le (d + 64 + 4 * e) 4 / 2 ^ 30

/-- A MOVE job for a set (R131, R136); FROM is the tier of its first frame that is not yet in the target. (Log entry
68: DEDUCED, unsafe.) -/
def State.addMove (s : State) (n i target : Nat) (fill : Bool) : State :=
  match s.setDesc n i with
  | none => s
  | some d =>
    let c := s.classRec (s.cx n cxCLASS)
    let tiers := (List.range (kcLayers c * kcShards c)).map (fun e => s.frameTier d e)
    s.addJob { KvJob.blank 3 11 n (s.cx n cxGEN) (s.cx n cxCLASS) with
      set_ := d, setIx := i, from_ := (tiers.find? (· != target)).getD target, to_ := target, fill := fill }

/-- The MOVE and PUSH jobs of a resume (R131). (Log entry 68: DEDUCED, unsafe.) -/
def State.resumeJobs (s : State) (n : Nat) : State :=
  let c := s.classRec (s.cx n cxCLASS)
  let tokens := s.cx n cxTOKENS
  let page := kcPage c
  let sets := (List.range (s.cx n cxNSETS)).filter (fun i => decide (i * page < tokens))
  let inTier (i : Nat) : Bool := match s.setDesc n i with
    | some d => (List.range (kcLayers c * kcShards c)).all (fun e => s.frameTier d e == 0)
    | none => true
  let s := (sets.filter (fun i => !inTier i)).foldl (fun (s : State) i => s.addMove n i 0 true) s
  let ds := s.layerDeadlines n
  let spans := (kcLayers c + kcSpan c - 1) / kcSpan c
  let rowB := kcRowBytes c (kcAcc c)
  let pushes := (List.range spans).flatMap (fun k => sets.flatMap (fun i => (kcPorts c).map (fun kp =>
    let first := k * kcSpan c
    let count := min (kcSpan c) (kcLayers c - first)
    { KvJob.blank 2 6 n (s.cx n cxGEN) (s.cx n cxCLASS) with
      shard := kp.1, port := kp.2, set_ := (s.setDesc n i).getD 0, setIx := i, first := first, count := count
      slot := i * page / kcGroup c, deadline := ds[first]?.getD 0
      bytes := min page (tokens - i * page) * count * rowB })))
  let s := (sortPushes pushes).foldl (fun (s : State) j => s.addJob j) s
  { s with kv := { s.kv with deadlines := Tab.insert s.kv.deadlines n ds, late := s.kv.late.filter (fun e => e.1 != n) } }

/-- PUSH_DEADLINE_MISS (R134): a layer not ready on every port by its deadline plus LEAD_NS, counted once. -/
def execPushDeadlineMiss (stream : BitVec 20) (layer : Byte) (s : State) : Res :=
  let n := stream.toNat
  let l := layer.toNat
  let lead := kcLead (s.classRec (s.cx n cxCLASS))
  match s.kv.deadlines.find? (fun e => e.1 == n) with
  | some (_, ds) =>
    match ds[l]? with
    | some d =>
      if decide (s.cx n cxREADY ≤ l) && decide (d + lead ≤ s.now) && !s.kv.late.contains (n, l) then
        let s := (s.cnt KV_LATE KV_LATE_COUNT 1).setCx n cxPF_LATE 1
        ok { s with kv := { s.kv with late := (n, l) :: s.kv.late } }
      else ok s
    | none => ok s
  | none => ok s

/-! ### What follows a change of a stream's jobs (R121, R135) -/

/-- Drop jobs not yet posted. -/
def State.dropJobs (s : State) (n : Nat) (f : KvJob → Bool) : State :=
  let s := { s with kv := { s.kv with jobs := s.kv.jobs.filter (fun j => !(j.stream == n && !j.posted && f j)) } }
  s.syncJobs n

/-- A stream's state moves on when its jobs have drained (R121, R135): PARKING to PARKED, CLOSING through its RELEASE jobs
to FREE. -/
def State.kvSettle (s : State) (n : Nat) : State :=
  let s := (s.syncJobs n).raiseTier n
  let s := s.advanceReady n
  let st := s.cx n cxSTATE
  if !(s.streamJobs n).isEmpty then s
  else if st = stParking ∧ s.allPulled n then (s.freeStreamSlots n).setCx n cxSTATE stParked
  else if st = stClosing then
    if s.kv.releasing.contains n then
      let s := s.setCx n cxSTATE stFree
      { s with kv := { s.kv with releasing := eraseKey s.kv.releasing n, opened := Tab.erase s.kv.opened n } }
    else
      let sets := s.cx n cxNSETS
      let s := (List.range sets).foldl (fun (s : State) i =>
        s.addJob { KvJob.blank 6 0 n (s.cx n cxGEN) (s.cx n cxCLASS) with
          set_ := (s.setDesc n i).getD 0, setIx := i }) s
      let s := s.freeStreamSlots n
      let s := s.poke (s.cx n cxSET_TABLE / 4096 * 4096) (List.replicate 4096 0)
      let s := (s.setCx n cxGEN ((s.cx n cxGEN + 1) % 2 ^ 16)).setCx n cxNSETS 0
      if sets = 0 then
        let s := s.setCx n cxSTATE stFree
        { s with kv := { s.kv with opened := Tab.erase s.kv.opened n } }
      else { s with kv := { s.kv with releasing := n :: s.kv.releasing } }
  else s

/-- After a rollback the rows above the restored TIER_ROWS are pulled again (R117, R130). -/
def State.pullAgain (s : State) (n : Nat) : State :=
  let s := (s.fetchCtx n).dropJobs n (fun j => j.kind == 1)
  s.setCx n cxPULLED_TO (s.cx n cxTIER_ROWS)

/-- Pull what may be pulled, then settle and post. -/
def State.kvRun (s : State) (n : Nat) : State :=
  ((State.pullRows n (s.cx n cxTOKENS) s).kvSettle n).kvPump

/-! ### The done ring (R128, R129) -/

/-- The done record the engine consumes next. -/
def State.doneRecord (s : State) : Option (List Byte) :=
  let h := s.doneHead
  if !s.kvEn || !s.bit KV_CTL KV_CTL_DONE_EN || h = s.gf KV_DONE_DB KV_DONE_DB_CMD_TAIL then none
  else some (s.bytes ((s.gf KV_DONE_BASE KV_DONE_BASE_BASE <<< 12) + h % 2 ^ s.gf KV_DONE_BASE KV_DONE_BASE_LOG2N * 16) 16)

/-- DONE_HEAD past one record. -/
def State.doneNext (s : State) : State := s.sf KV_RING_STATUS KV_RING_STATUS_DONE_HEAD (ix16 (s.doneHead + 1))

/-- A job ends with a status; one whose data was poisoned counts as successful (R121, R128). -/
def State.jobEnds (s : State) (j : KvJob) (status value : Nat) : State :=
  let n := j.stream
  let st := s.cx n cxSTATE
  let rest := s.kv.jobs.filter (fun k => k.id != j.id)
  let good := status == 0 || status == 0x12
  if good ∨ st = stClosing then
    let s := { s with kv := { s.kv with jobs := rest } }
    let s := if j.kind = 4 ∧ good then s.setCx n cxNEXT_SET (bitsOf value 6 46 * 64) else s
    s.kvRun n
  else
    let s := { s with kv := { s.kv with jobs := s.kv.jobs.map (fun (k : KvJob) => if k.id = j.id then { k with failed := true } else k) } }
    let s := s.syncJobs n
    (if st = stError then s else (s.setCx n cxPRIOR st).setCx n cxSTATE stError).kvPump

/-- JOB_DONE: the next done record, when it is no token advance. (Log entry 66: DEDUCED, unsafe.) -/
def execJobDone (s : State) : Res :=
  match s.doneRecord with
  | none => ok s
  | some r =>
    if fieldLE r 0 1 = 1 then ok s
    else
      match s.kv.jobs.find? (fun j => j.id == fieldLE r 4 4 && j.posted && !j.failed) with
      | some j =>
        if fieldLE r 0 1 = 0 then ok ((s.jobEnds j (fieldLE r 2 2) (fieldLE r 8 8)).doneNext)
        else ok s.kvDiscard.doneNext
      | none => ok s.kvDiscard.doneNext

/-- An advance for a stream (R128, R129): TOKENS rises, and the rows are mapped and pulled. An advance past the class's limit is
discarded and counted (R115). (Log entry 65: DEDUCED, unsafe.) -/
def State.advance (s : State) (n tokens gen : Nat) : State :=
  let s := s.fetchCtx n
  let st := s.cx n cxSTATE
  let c := s.classRec (s.cx n cxCLASS)
  let lives := st == stActive || st == stParking || st == stFrozen || st == stError
  if gen != s.cx n cxGEN || tokens < s.cx n cxTOKENS || tokens > kcLimit c || !lives then s.kvDiscard
  else ((s.setCx n cxTOKENS tokens).mapStream n).kvRun n

/-- TOKEN_ADVANCE: the next done record, when it is a token advance. (Log entry 66: DEDUCED, unsafe.) -/
def execTokenAdvance (s : State) : Res :=
  match s.doneRecord with
  | none => ok s
  | some r =>
    if fieldLE r 0 1 = 1 then
      if fieldLE r 4 4 < 2 ^ 20 then ok (s.advance (fieldLE r 4 4) (fieldLE r 8 4) (fieldLE r 12 2)).doneNext
      else ok s.kvDiscard.doneNext
    else ok s

/-! ### Upstream requests (R124) -/

/-- A virtual flag is set for an accelerator's write into the completion-flag page. -/
def State.completionFlag (s : State) (p off len : Nat) : State :=
  match s.profile p with
  | none => s
  | some r =>
    if len = 4 ∧ off % 4 = 0 then (s.setVirtual 8 (kpFctx r) (kpCflagVbase r + off / 4)).2 else s.kvDiscard

def execCompletionFlagWrite (port : Fin 8) (off : BitVec 12) (len : BitVec 13) (s : State) : Res :=
  ok (s.completionFlag port off.toNat len.toNat)

/-- An enabled inbound window that holds the whole request: its target address and rights. -/
def inboundWindow (r : List Byte) (k a n : Nat) : Option (Nat × Nat) :=
  let w := fieldLE r (88 + 16 * k) 8
  let log2 := w % 64
  let acc := w / 4096 * 4096
  let t := fieldLE r (96 + 16 * k) 8
  if 12 ≤ log2 ∧ log2 ≤ 40 ∧ acc ≤ a ∧ a + n ≤ acc + 2 ^ log2 then some (bitsOf t 12 40 * 4096 + (a - acc), t % 4)
  else none

/-- UPSTREAM_REQUEST: an accelerator's memory request. A read answers its bytes, or an Unsupported Request. -/
def execUpstreamRequest (port : Fin 8) (addr : W64) (wr : Bool) (len : BitVec 13) (data : List Byte) (s : State) : Res :=
  let a := addr.toNat
  let n := if wr then data.length else len.toNat
  let unsupported (s : State) : State :=
    if wr then s.kvDiscard else { s.kvDiscard with answer32 := [], answerErr := some .address }
  match s.profile port with
  | none => ok s
  | some r =>
    if wr ∧ kpCflagAddr r ≤ a ∧ a < kpCflagAddr r + 4096 then ok (s.completionFlag port (a - kpCflagAddr r) n)
    else match inboundWindow r 0 a n <|> inboundWindow r 1 a n with
      | some (t, rights) =>
        if !bitAt rights (b2n wr) then ok (unsupported s)
        else if wr then
          match s.store t data with
          | (none, s) => ok s
          | (some _, s) => ok s.kvDiscard
        else
          match s.load t n with
          | (some .address, _, s) => ok (unsupported s)
          | (e, bs, s) => ok { s with answer32 := bs, answerErr := e }
      | none => ok (unsupported s)

/-! ### Registers (R138) -/

def State.kvIdle (s : State) : Bool := !s.bit KV_CTL KV_CTL_JOB_EN && !s.bit KV_CTL KV_CTL_DONE_EN

/-- The check of EN (0x0660, 0x0661). -/
def State.kvEnCheck (s : State) : Option Nat :=
  let cb := s.gf KV_CTX_BASE KV_CTX_BASE_BASE <<< 16
  let kb := s.gf KV_CLASS_BASE KV_CLASS_BASE_BASE <<< 12
  let fb := s.gf KV_FRAME_BASE KV_FRAME_BASE_BASE <<< 16
  let n := s.gf KV_FRAME_COUNT KV_FRAME_COUNT_COUNT
  if !inHbm cb 0x1000_0000 || !inHbm kb 4096 || !inHbm fb (n * 65536) || overlaps cb 0x1000_0000 kb 4096
      || overlaps cb 0x1000_0000 fb (n * 65536) || overlaps kb 4096 fb (n * 65536) then some 0x0660
  else if n = 0 ∨ n > 2097152 then some 0x0661
  else none

def State.jobBase (s : State) : Nat := s.gf KV_JOB_BASE KV_JOB_BASE_BASE <<< 12
def State.doneBase (s : State) : Nat := s.gf KV_DONE_BASE KV_DONE_BASE_BASE <<< 12
def State.jobLog (s : State) : Nat := s.gf KV_JOB_BASE KV_JOB_BASE_LOG2N
def State.doneLog (s : State) : Nat := s.gf KV_DONE_BASE KV_DONE_BASE_LOG2N

/-- The check of JOB_EN and DONE_EN (0x0666, 0x0667). -/
def State.kvRingCheck (s : State) (done : Bool) : Option Nat :=
  let jobOk := ringValid s.jobBase s.jobLog 64
  let doneOk := ringValid s.doneBase s.doneLog 16
  if !s.bit KV_CTL KV_CTL_EN || !(if done then doneOk else jobOk) then some 0x0666
  else if jobOk && doneOk && overlaps s.jobBase (64 * 2 ^ s.jobLog) s.doneBase (16 * 2 ^ s.doneLog) then some 0x0667
  else none

/-- One enable bit is set: the check runs, and a refusal leaves it clear. -/
def State.kvEnable (s : State) (f : Fd) (c : Option Nat) : State :=
  match c with
  | none => (s.sf KV_CTL f 1).kvRefusal 0
  | some c => s.kvRefusal c

/-- KV_CTL. -/
def writeKvCtl (q : Requester) (v : W32) (s : State) : State :=
  if !coreWrites q then s
  else
    let b (i : Nat) : Bool := bitAt v.toNat i
    let s := s.sf KV_CTL KV_CTL_PF_LIMIT (bitsOf v.toNat 8 8)
    let s := if b 0 && !s.bit KV_CTL KV_CTL_EN then s.kvEnable KV_CTL_EN s.kvEnCheck else s
    let s := if b 1 && !s.bit KV_CTL KV_CTL_JOB_EN then s.kvEnable KV_CTL_JOB_EN (s.kvRingCheck false) else s
    let s := if b 2 && !s.bit KV_CTL KV_CTL_DONE_EN then s.kvEnable KV_CTL_DONE_EN (s.kvRingCheck true) else s
    let s := if b 1 then s else s.sf KV_CTL KV_CTL_JOB_EN 0
    let s := if b 2 then s else s.sf KV_CTL KV_CTL_DONE_EN 0
    let s := if !b 0 && s.kvIdle then s.sf KV_CTL KV_CTL_EN 0 else s
    s.kvPump

def execKvEnSet (q : Requester) (v : W32) (s : State) : Res := ok (writeKvCtl q (v ||| 1#32) s)
def execKvEnClear (q : Requester) (v : W32) (s : State) : Res := ok (writeKvCtl q (v &&& ~~~1#32) s)
def execKvJobEnSet (q : Requester) (v : W32) (s : State) : Res := ok (writeKvCtl q (v ||| 2#32) s)
def execKvDoneEnSet (q : Requester) (v : W32) (s : State) : Res := ok (writeKvCtl q (v ||| 4#32) s)

/-- Context, class and frame registers: no effect while EN is one. `mask` keeps the writable bits. -/
def writeKvBase (q : Requester) (off : Nat) (mask v : W32) (s : State) : State :=
  if !coreWrites q || s.bit KV_CTL KV_CTL_EN then s else s.wr off (v &&& mask)

/-- One half of a ring base: no effect while the ring is enabled; else that ring's indices go to zero. -/
def writeKvRingBase (q : Requester) (done hi : Bool) (v : W32) (s : State) : State :=
  let base := if done then KV_DONE_BASE else KV_JOB_BASE
  if !coreWrites q || s.bit KV_CTL (if done then KV_CTL_DONE_EN else KV_CTL_JOB_EN) then s
  else
    let s := s.wr (if hi then base + 4 else base) (v &&& (if hi then 0x000FFFFF#32 else 0xFFFFF01F#32))
    if done then (s.sf KV_RING_STATUS KV_RING_STATUS_DONE_HEAD 0).sf KV_DONE_DB KV_DONE_DB_CMD_TAIL 0
    else (s.sf KV_RING_STATUS KV_RING_STATUS_JOB_TAIL 0).sf KV_JOB_HEAD KV_JOB_HEAD_HEAD 0

def execKvRingBaseWrite (q : Requester) (done hi : Bool) (v : W32) (s : State) : Res := ok (writeKvRingBase q done hi v s)

def writeKvJobHead (q : Requester) (v : W32) (s : State) : State :=
  if !coreWrites q then s else s.sf KV_JOB_HEAD KV_JOB_HEAD_HEAD (v.toNat % 2 ^ 16)
def execKvJobHeadWrite (q : Requester) (v : W32) (s : State) : Res := ok (writeKvJobHead q v s)

/-- KV_DONE_DB: ignored and counted when it names more records than the ring holds. -/
def writeKvDoneDb (q : Requester) (v : W32) (s : State) : State :=
  let t := v.toNat % 2 ^ 16
  if !coreWrites q then s
  else if ixDiff t s.doneHead > 2 ^ s.doneLog then s.kvDiscard
  else s.sf KV_DONE_DB KV_DONE_DB_CMD_TAIL t
def execKvDoneDb (q : Requester) (v : W32) (s : State) : Res := ok (writeKvDoneDb q v s)

/-! ### Syncen operations (R139) -/

/-- Domain of a stream's requests, and of requests that name none (R376). -/
def domStream (n : Nat) : Option Nat := some (5 + n % 4)

/-- An operation on a stream: the tier must be enabled (the manual gives no code), and GEN must be the context's.
(Log entry 62: DESIGN CHOICE, safe.) -/
def State.onStream (s : State) (n gen : Nat) (f : State → State × Nat × List Byte) : State × Nat × List Byte :=
  if !s.kvEn then refuse s.tick (s.fresh 16).toNat
  else
    let s := s.fetchCtx n
    if gen ≠ s.cx n cxGEN then refuse s 0x0202 else f s

/-- The first FREE stream at or after a number, wrapping. -/
def State.findFree (s : State) : Nat → Nat → Option Nat
  | 0, _ => none
  | k + 1, n => if s.cx (n % 2 ^ 20) cxSTATE = stFree then some (n % 2 ^ 20) else s.findFree k (n + 1)

/-- SYN_STREAM_OPEN: the set table is the page firmware allocates. (Log entries 62: DESIGN CHOICE, safe; 63: DEDUCED,
unsafe.) -/
def execSynStreamOpen (r : SynReq) (cls : BitVec 6) (stream : Option (BitVec 20)) (pick : BitVec 20)
    (table : Fin 37748736) (s : State) : Res :=
  ok (s.syn 0x0600 (domStream ((stream.getD pick).toNat)) r fun s =>
    let c := s.classRec cls.toNat
    let n := match stream with
      | some n => if s.cx n.toNat cxSTATE = stFree then some n.toNat else none
      | none => s.findFree (2 ^ 20) pick.toNat
    if !s.kvEn then refuse s.tick (s.fresh 16).toNat
    else if !kcValid c then refuse s 0x0102
    else match n with
      | none => refuse s (if stream.isSome then 0x0201 else 0x0301)
      | some n =>
        let gen := s.cx n cxGEN
        let a := table.val * 4096
        let x := cxSET_TABLE.write (cxASI.write (cxGEN.write (cxCLASS.write
          (cxSTATE.write (List.replicate 256 0) stParked) cls.toNat) gen) noAsi) a
        let s := (s.poke a (List.replicate 4096 0)).setCtx n x
        let s := { s with kv := { s.kv with opened := Tab.insert s.kv.opened n cls.toNat } }
        success ((s.needSet n).kvPump) (leBytes 4 n ++ leBytes 2 gen))

/-- SYN_STREAM_CLOSE: pulls and other jobs not yet posted are discarded. (Log entry 64: DEDUCED, unsafe.) -/
def execSynStreamClose (r : SynReq) (stream : BitVec 20) (gen : W16) (s : State) : Res :=
  ok (s.syn 0x0601 (domStream stream.toNat) r fun s => s.onStream stream.toNat gen.toNat fun s =>
    let n := stream.toNat
    let st := s.cx n cxSTATE
    if st = stFree then refuse s 0x0201
    else if st = stClosing then success s
    else
      let s := s.setCx n cxSTATE stClosing
      let s := { s with kv := { s.kv with
        jobs := s.kv.jobs.filter (fun j => !(j.stream == n && (!j.posted || j.failed)))
        deadlines := Tab.erase s.kv.deadlines n } }
      success ((s.kvSettle n).kvPump))

/-- T0 is the start of slot K0 of the active slot list, and lies in the future (R131). -/
def State.futureSlot (s : State) (t0 k0 : Nat) : Bool :=
  match s.col.slotActive with
  | some l => decide (s.now < t0) && decide (l.t ≤ t0) && (t0 - l.t) % slotNs == 0 && l.entries != []
      && l.index t0 == k0
  | none => false

/-- An ASI free on every port of a class; which one the manual leaves open. (Log entry 60: DESIGN CHOICE, safe.) -/
def State.freeAsi (s : State) (ports : List Nat) : Option Nat :=
  let lim := ports.foldl (fun m p => match s.profile p with | some r => min m (kpMaxActive r) | none => 0) 4096
  let used := (s.kv.asis.filter (fun e => ports.contains (e.1 / 2 ^ 16))).foldl (fun l e => insertKey l (e.1 % 2 ^ 16)) []
  let used := used.filter (fun a => decide (a < lim))
  if used.length < lim then some (kthFree used ((s.fresh 16).toNat % (lim - used.length))) else none

/-- A port's part of a resumed stream: the READY word of its slot is zero, and the slot is the stream's. -/
def State.resumePort (n a : Nat) (s : State) (p : Nat) : State :=
  onSome (s.profile p) s fun pr =>
    let s := s.poke (accelAddr p (kpReadyMap pr + a * 4)) [0, 0, 0, 0]
    { s with kv := { s.kv with asis := Tab.insert s.kv.asis (asiKey p a) n } }

/-- A parked stream gets stream slot `a` on its ports and its schedule, and its fills start. -/
def State.resumeStream (s : State) (n a t0 k0 : Nat) : State :=
  let s := (kcPorts (s.classRec (s.cx n cxCLASS))).foldl (fun (s : State) p => State.resumePort n a s p.2) s.tick
  let s := (((s.setCx n cxSTATE stResuming).setCx n cxASI a).setCx n cxT0 t0).setCx n cxK0 k0
  let s := ((s.setCx n cxREADY 0).setCx n cxPF_LATE 0).mapStream n
  ((s.resumeJobs n).kvSettle n).kvPump

/-- SYN_STREAM_RESUME. -/
def execSynStreamResume (r : SynReq) (stream : BitVec 20) (gen : W16) (t0 : W64) (k0 : BitVec 12) (s : State) : Res :=
  ok (s.syn 0x0602 (domStream stream.toNat) r fun s => s.onStream stream.toNat gen.toNat fun s =>
    let n := stream.toNat
    let c := s.classRec (s.cx n cxCLASS)
    let ports := (kcPorts c).map (·.2)
    let groups := lastGroup c (s.cx n cxTOKENS) + 1
    if s.cx n cxSTATE ≠ stParked then refuse s 0x0201
    else if !s.futureSlot t0.toNat k0.toNat then refuse s 0x0103
    else match s.freeAsi ports with
      | none => refuse s 0x0302
      | some a =>
        if ports.any (fun p => decide (s.freeSlots p < groups)) then refuse s 0x0302
        else success (s.resumeStream n a t0.toNat k0.toNat) (leBytes 2 a))

/-- SYN_STREAM_PARK: no new fills or pushes; every row below TOKENS is pulled. -/
def execSynStreamPark (r : SynReq) (stream : BitVec 20) (gen : W16) (s : State) : Res :=
  ok (s.syn 0x0603 (domStream stream.toNat) r fun s => s.onStream stream.toNat gen.toNat fun s =>
    let n := stream.toNat
    let st := s.cx n cxSTATE
    if st ≠ stResuming ∧ st ≠ stActive then refuse s 0x0201
    else
      let s := (s.setCx n cxSTATE stParking).dropJobs n (fun j => j.kind == 2 || j.fill)
      let s := { s with kv := { s.kv with deadlines := Tab.erase s.kv.deadlines n } }
      success (s.kvRun n))

/-- SYN_STREAM_MOVE. -/
def execSynStreamMove (r : SynReq) (stream : BitVec 20) (gen : W16) (first : BitVec 9) (count : BitVec 10) (tier : Fin 3)
    (s : State) : Res :=
  ok (s.syn 0x0604 (domStream stream.toNat) r fun s => s.onStream stream.toNat gen.toNat fun s =>
    let n := stream.toNat
    let st := s.cx n cxSTATE
    let i := s.cx n cxTOKENS / kcPage (s.classRec (s.cx n cxCLASS))
    let sets := (List.range count.toNat).map (fun k => first.toNat + k)
    if st = stFree ∨ st = stError ∨ st = stClosing then refuse s 0x0201
    else if (st = stResuming ∨ st = stActive) ∧ sets.contains i then refuse s 0x0203
    else success ((sets.foldl (fun (s : State) i => s.addMove n i tier.val false) s).kvPump))

/-- SYN_STREAM_QUERY: context bytes 0 to 127. -/
def execSynStreamQuery (r : SynReq) (stream : BitVec 20) (gen : W16) (s : State) : Res :=
  ok (s.syn 0x0605 (domStream stream.toNat) r fun s => s.onStream stream.toNat gen.toNat fun s =>
    success s ((s.ctx stream.toNat).take 128))

/-- SYN_STREAM_RETRY: failed jobs are posted again and the state returns to PRIOR. -/
def execSynStreamRetry (r : SynReq) (stream : BitVec 20) (gen : W16) (s : State) : Res :=
  ok (s.syn 0x0606 (domStream stream.toNat) r fun s => s.onStream stream.toNat gen.toNat fun s =>
    let n := stream.toNat
    if s.cx n cxSTATE ≠ stError then refuse s 0x0201
    else
      let s := s.setCx n cxSTATE (s.cx n cxPRIOR)
      let s := { s with kv := { s.kv with jobs := s.kv.jobs.map (fun (j : KvJob) =>
        if j.stream = n ∧ j.failed then { j with failed := false, posted := false } else j) } }
      success (((s.syncJobs n).mapStream n).kvRun n))

/-- A stream is held by the lease rules (R120, R451): no new pulls or pushes. -/
def State.freeze (s : State) (n : Nat) : State :=
  let st := s.cx n cxSTATE
  if st = stFree ∨ st = stFrozen ∨ st = stClosing then s else (s.setCx n cxPRIOR st).setCx n cxSTATE stFrozen

/-- A frozen stream returns to PRIOR, and the pulls that waited are posted. -/
def State.thaw (s : State) (n : Nat) : State :=
  if s.cx n cxSTATE = stFrozen then ((s.setCx n cxSTATE (s.cx n cxPRIOR)).mapStream n).kvRun n else s

/-- The answer of a class or profile operation: REFUSAL holds the code, or zero after an accepted one. -/
def kvAnswer (s : State) (c : Nat) : State × Nat × List Byte := (s.kvRefusal c, c, [])

/-- SYN_KV_CLASS_SET. -/
def execSynKvClassSet (r : SynReq) (cls : BitVec 6) (rec : List Byte) (s : State) : Res :=
  ok (s.syn 0x0608 (domStream 0) r fun s =>
    let c := fit 64 rec
    let ports := (kcPorts c).map (·.2)
    if s.kv.opened.any (fun e => e.2 == cls.toNat) then refuse s 0x0204
    else if !kcFieldsOk c then kvAnswer s 0x0662
    else if ports.any (fun p => (s.profile p).isNone) || ports.eraseDups.length != ports.length then kvAnswer s 0x0663
    else if kcValid c && ports.any (fun p => match s.profile p with | some pr => !kcFits c pr | none => false) then
      kvAnswer s 0x0665
    else kvAnswer (s.poke ((s.gf KV_CLASS_BASE KV_CLASS_BASE_BASE <<< 12) + cls.toNat * 64) c) 0)

/-- An ASI on the port is allocated. -/
def State.asiOn (s : State) (p : Nat) : Bool := s.kv.asis.any (fun e => e.1 / 2 ^ 16 == p)

/-- Every slot map entry of a port names no slot, in the accelerator and in the engine's copy (R125). (Log entry 346:
DEDUCED, unsafe.) -/
def State.clearMap (s : State) (p : Nat) (r : List Byte) : State :=
  let none_ := List.replicate (kpMaxActive r * kpMaxGroups r * 4) (0xFF : Byte)
  (s.poke (accelAddr p (kpSlotMap r)) none_).poke (kpResBase r) none_

/-- SYN_KV_PROFILE_LOAD: the port's reset pin is released and the port trains (R13, R123). -/
def execSynKvProfileLoad (r : SynReq) (port : Fin 8) (rec : List Byte) (s : State) : Res :=
  ok (s.syn 0x0609 (domStream 0) r fun s =>
    let pr := fit 128 rec
    let p := port.val
    let classes := (List.range 64).map (fun c => s.classRec c)
    if s.asiOn p then refuse s 0x0205
    else if !kpOk pr p then kvAnswer s 0x0664
    else if classes.any (fun c => kcValid c && (kcPorts c).any (fun kp => kp.2 == p) && !kcFits c pr) then
      kvAnswer s 0x0665
    else
      let s := { s with
        kv := { s.kv with profiles := Tab.insert s.kv.profiles p pr }
        accelWin := Tab.insert s.accelWin p [(kpOwinBase pr, kpOwinSize pr)]
        pins := { s.pins with
          aperst := insertKey s.pins.aperst p, rootHeld := eraseKey s.pins.rootHeld p, rootUp := eraseKey s.pins.rootUp p } }
      kvAnswer (s.clearMap p pr) 0)

/-- SYN_KV_PROFILE_UNLOAD: the port returns to link-disable. -/
def execSynKvProfileUnload (r : SynReq) (port : Fin 8) (s : State) : Res :=
  ok (s.syn 0x060A (domStream 0) r fun s =>
    let p := port.val
    if s.asiOn p then refuse s 0x0205
    else success { s with
      kv := { s.kv with profiles := Tab.erase s.kv.profiles p }
      accelWin := Tab.erase s.accelWin p
      pins := { s.pins with aperst := eraseKey s.pins.aperst p, rootUp := eraseKey s.pins.rootUp p } })

end Sys2Proof.Machine
end

