-- ==== Sys2Proof/Machine/Time.lean ====
section
/-! DEFINITION. Time, gates and shaping (11_time_gates_and_shaping.md R239 to R261). -/

namespace Sys2Proof.Machine

/-! ### The counter and the steering law -/

def State.setTime (s : State) (t : TimeUnit) : State := { s with time := t }

/-- One cycle of the fabric reference (R239): the accumulator gains INCR; the model's cycle count goes on. (Log entry
2: DESIGN CHOICE, unsafe.) -/
def State.fabricCycle (s : State) : State :=
  { s with clock := s.clock + 1, time := { s.time with acc := (s.time.acc + s.time.incr) % 2 ^ 96 } }

def State.timeState (s : State) : Nat := s.gf TIME_STATUS TIME_STATUS_STATE

/-- INCR for a term y given in eighths of a ppb, truncated toward zero (R244). (Log entry 112: DEDUCED, unsafe.) -/
def incrOf (y8 : Int) : Nat := ((nominalIncr : Int) + ((nominalIncr : Int) * y8).tdiv 8000000000).toNat

/-- Clamp to ±m. -/
def clampInt (x m : Int) : Int := max (-m) (min m x)

/-- The error bound EB (R247), rounded up to a whole ns: 0xFFFF_FFFF in FREE and ACQUIRE and until SET is one. -/
def State.errorBound (s : State) : Nat :=
  let st := s.timeState
  if st < 2 ∨ !s.bit TIME_STATUS TIME_STATUS_SET then 0xFFFF_FFFF
  else
    let e0 := s.time.errs.foldl max 0 + s.gf TIME_CFG TIME_CFG_PPS_UNC
    let hold := max 1 (s.gf TIME_CFG TIME_CFG_HOLD_PPB)
    let cyc := s.clock - s.time.lastAccept.getD 0
    min 0xFFFF_FFFE (e0 + (hold * cyc * 64 + (10 * 10 ^ 9 - 1)) / (10 * 10 ^ 9))

/-- QUALIFIED and its mirror for the collectives engine (R248). When qualification returns, collective data waits for the next
slot boundary (R109). -/
def State.qualify (s : State) : State :=
  let q := b2n (s.bit TIME_STATUS TIME_STATUS_SET && decide (2 ≤ s.timeState) && decide (s.errorBound ≤ 250))
  let back := q == 1 && !s.bit TIME_STATUS TIME_STATUS_QUALIFIED
  let s := if back then { s with col := { s.col with resumeAt := (s.now / 20000 + 1) * 20000 } } else s
  (s.sf TIME_STATUS TIME_STATUS_QUALIFIED q).sf COL_SLOT_STATUS COL_SLOT_STATUS_QUALIFIED q

/-- The counter's value at an edge `phase` eighths of a cycle after the present cycle, in ns (R242: 0.8 ns
resolution). -/
def State.edgeTime (s : State) (phase : Nat) : Nat := (s.time.acc + phase * s.time.incr / 8) >>> 32

/-- The signed distance of a counter value from the nearest whole second (R242). -/
def phaseErr (c : Int) : Int :=
  let r := c % 1000000000
  if r ≤ 500000000 then r else r - 1000000000

/-- Change the time unit's state. -/
def State.setTimeState (s : State) (st : Nat) : State := s.sf TIME_STATUS TIME_STATUS_STATE st

/-- A pulse is rejected (R242, R243): counted, and three in a row in LOCKED or HOLDOVER go back to ACQUIRE. -/
def State.rejectPulse (s : State) : State :=
  let s := s.cnt TIME_STATUS TIME_STATUS_REJECTS 1
  let n := if 2 ≤ s.timeState then s.time.rejRun + 1 else 0
  if n ≥ 3 then ((s.setTime { s.time with rejRun := 0, good := 0 }).setTimeState 1).qualify
  else (s.setTime { s.time with rejRun := n }).qualify

/-- Saturate to a signed 32-bit register value. -/
def sat32 (x : Int) : Nat := toU 32 (max (-2147483648) (min 2147483647 x))

/-- STEPPED is set; a lease written earlier no longer holds (R459). -/
def State.stepped (s : State) : State :=
  { s.sf TIME_STATUS TIME_STATUS_STEPPED 1 with ckp := { s.ckp with stepped := true } }

/-- An accepted pulse that neither sets nor steps the counter steers it (R244), for the phase error `e`. (Log entry
112: DEDUCED, unsafe.) -/
def State.steer (s : State) (e : Int) : State :=
  let f8 := clampInt (s.time.freq8 - e) 800000
  let y8 := clampInt (f8 - 4 * e) 1600000
  (s.setTime { s.time with freq8 := f8, incr := incrOf y8 }).wr TIME_FREQ (BitVec.ofNat 32 (toU 32 (f8.tdiv 8)))

/-- An accepted pulse (R243 to R245, R494): with ARM one it sets the counter, whose value at the true edge, PPS_DELAY
before the edge on the pin (R242), becomes TIME_SET; in ACQUIRE with |e| above 100,000 it
steps; otherwise it steers. Pulses that do not set count toward LOCKED and into E0. (Log entry 341: DEDUCED, unsafe.) -/
def State.acceptPulse (s : State) (phase : Nat) (e : Int) : State :=
  let s := s.sf TIME_PHASE TIME_PHASE_ERR (sat32 e)
  let s := s.setTime { s.time with lastAccept := some s.clock, rejRun := 0 }
  let part := phase * s.time.incr / 8
  if s.bit TIME_CTL TIME_CTL_ARM then
    let target : Int := (s.rd64 TIME_SET : Int) + sext 16 (s.gf TIME_CFG TIME_CFG_PPS_DELAY)
    let s := s.setTime { s.time with acc := toU 96 (target * 2 ^ 32 - (part : Int)) }
    let s := s.sf TIME_CTL TIME_CTL_ARM 0
    ((s.sf TIME_STATUS TIME_STATUS_SET 1).stepped).qualify
  else
    let s := s.setTime { s.time with
      errs := (e.natAbs :: s.time.errs).take 4
      good := if e.natAbs ≤ 100 then s.time.good + 1 else 0 }
    let s :=
      if s.timeState = 1 ∧ e.natAbs > 100000 then
        (s.setTime { s.time with acc := toU 96 ((s.time.acc : Int) - e * 2 ^ 32) }).stepped
      else s.steer e
    (if s.timeState ≠ 2 ∧ s.time.good ≥ 4 then s.setTimeState 2 else s).qualify

/-- R242 to R245: a rising edge on PPS_IN. (Log entries 110: DEDUCED, unsafe; 115: DEDUCED, unsafe.) -/
def execPpsEdge (phase : Fin 8) (s : State) : Res :=
  if !s.bit TIME_CTL TIME_CTL_PPS_EN || s.timeState == 0 then ok s
  else
    let e := phaseErr ((s.edgeTime phase : Int) - sext 16 (s.gf TIME_CFG TIME_CFG_PPS_DELAY))
    let early := match s.time.lastAccept with
      | some t => decide (s.clock - t < nsCycles 500000000)
      | none => false
    if early || (decide (2 ≤ s.timeState) && decide (e.natAbs > 1000)) then ok s.rejectPulse
    else ok (s.acceptPulse phase e)

/-- R243: LOCKED with no accepted pulse for 1.5 s of elapsed time becomes HOLDOVER and sets LOST; P becomes zero.
(Log entry 110: DEDUCED, unsafe.) -/
def execPpsLoss (s : State) : Res :=
  if s.timeState = 2 ∧ s.clock - s.time.lastAccept.getD 0 ≥ nsCycles 1500000000 then
    let s := (s.setTimeState 3).sf TIME_STATUS TIME_STATUS_LOST 1
    ok (s.setTime { s.time with incr := incrOf s.time.freq8, good := 0, rejRun := 0 }).qualify
  else ok s

/-- R248: EB above 250 ns clears QUALIFIED. -/
def execQualificationLost (s : State) : Res := ok s.qualify

/-- The counter has reached a multiple of `period` ns in its last cycle. -/
def State.crossed (s : State) (period : Nat) : Bool :=
  decide (((s.time.acc + 2 ^ 96 - s.time.incr) % 2 ^ 96 >>> 32) / period ≠ s.now / period) || s.now % period == 0

/-- R250: at a whole second, with PPSOUT_EN and QUALIFIED one, PPS_OUT rises for PPSOUT_WIDTH ms. -/
def execPpsOut (s : State) : Res :=
  if s.bit TIME_CTL TIME_CTL_PPSOUT_EN ∧ s.bit TIME_STATUS TIME_STATUS_QUALIFIED ∧ s.crossed 1000000000 then
    let ms := max 1 (s.gf TIME_CTL TIME_CTL_PPSOUT_WIDTH)
    ok { (s.setTime { s.time with pulseEnd := some (s.clock + ms * 156250) }) with
      pins := { s.pins with ppsOut := true } }
  else ok s

/-- R250: PPS_OUT falls after its width, whatever became of qualification or PPSOUT_EN. -/
def execPpsOutEnd (s : State) : Res :=
  match s.time.pulseEnd with
  | some t =>
    if s.clock ≥ t then
      ok { (s.setTime { s.time with pulseEnd := none }) with pins := { s.pins with ppsOut := false } }
    else ok s
  | none => ok s

/-- Reading the lower word of TIME_NOW returns it and latches the upper word (R240). -/
def State.readNowLow (s : State) : W32 × State :=
  (BitVec.ofNat 32 s.now, s.setTime { s.time with latchHi := BitVec.ofNat 32 (s.now >>> 32) })

/-- R240. -/
def execTimeNowRead (_q : Requester) (s : State) : Res :=
  let (w, s) := s.readNowLow
  ok { s with answer32 := leBytes 4 w.toNat }

/-- TIME_CTL (R243, R245): ARM, PPSOUT_EN, PPS_EN and PPSOUT_WIDTH. A one to ARM has no effect while LOCKED; setting
PPS_EN moves FREE to ACQUIRE; clearing it sets FREE, clears QUALIFIED and sets P to zero. -/
def writeTimeCtl (q : Requester) (v : W32) (s : State) : State :=
  if !coreWrites q then s
  else
    let was := s.bit TIME_CTL TIME_CTL_PPS_EN
    let w := v.toNat
    let s := if bitAt w 31 then (if s.timeState = 2 then s else s.sf TIME_CTL TIME_CTL_ARM 1) else s.sf TIME_CTL TIME_CTL_ARM 0
    let s := (s.sf TIME_CTL TIME_CTL_PPSOUT_EN (bitsOf w 30 1)).sf TIME_CTL TIME_CTL_PPSOUT_WIDTH (bitsOf w 16 8)
    let s := s.sf TIME_CTL TIME_CTL_PPS_EN (bitsOf w 29 1)
    if bitAt w 29 && !was then
      ((s.setTimeState 1).setTime { s.time with good := 0, rejRun := 0 }).qualify
    else if !bitAt w 29 && was then
      ((s.setTimeState 0).setTime { s.time with incr := incrOf s.time.freq8, good := 0, rejRun := 0 }).qualify
    else s

/-- TIME_FREQ (R260): effective in FREE or ACQUIRE, clamped to ±100,000; the steering law takes it up. -/
def writeTimeFreq (q : Requester) (v : W32) (s : State) : State :=
  if coreWrites q ∧ s.timeState < 2 then
    let f := clampInt (sext 32 v.toNat) 100000
    (s.setTime { s.time with freq8 := 8 * f, incr := incrOf (8 * f) }).wr TIME_FREQ (BitVec.ofNat 32 (toU 32 f))
  else s

/-- R245: a write of TIME_CTL with ARM one. -/
def execArm (q : Requester) (v : W32) (s : State) : Res := ok (writeTimeCtl q (v ||| 0x80000000#32) s)

/-- R243: a write of TIME_CTL with PPS_EN one. -/
def execPpsEnSet (q : Requester) (v : W32) (s : State) : Res := ok (writeTimeCtl q (v ||| 0x20000000#32) s)

/-- R243: a write of TIME_CTL with PPS_EN zero. -/
def execPpsEnClear (q : Requester) (v : W32) (s : State) : Res := ok (writeTimeCtl q (v &&& 0xDFFFFFFF#32) s)

/-! ### Gate lists (R251 to R254) -/

def gateNone : Nat → Option GateList := fun _ => none
def State.gateActive (s : State) (p : Nat) : Option GateList := Tab.get gateNone s.time.gateActive p
def State.gatePending (s : State) (p : Nat) : Option GateList := Tab.get gateNone s.time.gatePending p
def State.setGateActive (s : State) (p : Nat) (g : Option GateList) : State :=
  s.setTime { s.time with gateActive := Tab.set gateNone s.time.gateActive p g }
def State.setGatePending (s : State) (p : Nat) (g : Option GateList) : State :=
  s.setTime { s.time with gatePending := Tab.set gateNone s.time.gatePending p g }

def gateCycle (es : List GateEntry) : Nat := es.foldl (fun a e => a + e.interval) 0


/-- The consistency code of an admin gate list (R251, R252). -/
def State.gateCheck (s : State) (port n : Nat) (inMem : Bool) (es : List GateEntry) : Option Nat :=
  if n = 0 ∨ n > 256 ∨ !inMem ∨ port > (if s.eightLane then 15 else 31) then some 0x06A0
  else if es.any (fun e => decide (e.interval < 200)) ∨ gateCycle es > 1000000000 then some 0x06A1
  else none

/-- The smallest BASETIME + k × CYCLE at or after `limit`, and whether k is above zero (R252, R107). -/
def takeover (base cycle limit : Nat) : Nat × Bool :=
  if base ≥ limit then (base, false)
  else (base + (limit - base + cycle - 1) / cycle * cycle, true)

/-- Commit a checked list for a port: pending until T, TG_LATE when late (R252). -/
def State.gateCommit (s : State) (port : Nat) (base : Nat) (es : List GateEntry) : State × Nat × Bool :=
  let (t, late) := takeover base (gateCycle es) (s.now + 2000)
  let s := s.setGatePending port (some ⟨es, t⟩)
  let s := s.sf (TG_PORT_STATUS port) TG_PORT_STATUS_PENDING 1
  let s := if late then s.wr TG_LATE (s.rd TG_LATE ||| BitVec.ofNat 32 (2 ^ port)) else s
  (s.sf TG_CTL TG_CTL_REFUSAL 0, t, late)

/-- The entry in force `t` ns into a list (R252): its index and its gates. -/
def gateAt : List GateEntry → Nat → Nat → Nat × Nat
  | [], _, i => (i, 0xFF)
  | e :: es, t, i => if t < e.interval then (i, e.gates) else gateAt es (t - e.interval) (i + 1)

/-- Show the entry in force in TG_PORT_STATUS. -/
def State.gateShow (s : State) (p : Nat) : State :=
  match s.gateActive p with
  | none => s
  | some g =>
    let (i, gates) := gateAt g.entries ((s.now - g.t) % max 1 (gateCycle g.entries)) 0
    let s := s.sf (TG_PORT_STATUS p) TG_PORT_STATUS_ACTIVE_VALID 1
    (s.sf (TG_PORT_STATUS p) TG_PORT_STATUS_ENTRY i).sf (TG_PORT_STATUS p) TG_PORT_STATUS_GATES gates

/-- The entries of a gate list in HBM (R251). -/
def State.readGates (s : State) (a n : Nat) : List GateEntry :=
  (List.range n).map (fun i => ⟨s.le (a + 8 * i) 4, s.le (a + 8 * i + 4) 1⟩)

/-- TG_ADMIN_CTL (R252): PORT and NENTRIES are stored; COMMIT checks and copies the list unless one is pending; CANCEL
discards the pending list. (Log entry 114: DEDUCED, unsafe.) -/
def writeTgAdminCtl (q : Requester) (v : W32) (s : State) : State :=
  if !coreWrites q then s
  else
    let port := bitsOf v.toNat 16 5
    let n := v.toNat % 512
    let s := (s.sf TG_ADMIN_CTL TG_ADMIN_CTL_PORT port).sf TG_ADMIN_CTL TG_ADMIN_CTL_NENTRIES n
    let s := if bitAt v.toNat 31 && (s.gatePending port).isNone then
        let a := s.gf TG_ADMIN_BASE TG_ADMIN_BASE_BASE <<< 6
        let es := s.readGates a n
        let s := (s.load a (8 * n)).2.2
        onSome (s.gateCheck port n (inHbm a (8 * n)) es) (s.gateCommit port (s.rd64 TG_ADMIN_BASETIME) es).1
          (fun c => s.sf TG_CTL TG_CTL_REFUSAL c)
      else s
    if bitAt v.toNat 30 then (s.setGatePending port none).sf (TG_PORT_STATUS port) TG_PORT_STATUS_PENDING 0 else s

/-- R252: a write of TG_ADMIN_CTL with COMMIT one. -/
def execTgCommit (q : Requester) (v : W32) (s : State) : Res :=
  ok (writeTgAdminCtl q ((v ||| 0x80000000#32) &&& 0xBFFFFFFF#32) s)

/-- R252: a write of TG_ADMIN_CTL with CANCEL one. -/
def execTgCancel (q : Requester) (v : W32) (s : State) : Res :=
  ok (writeTgAdminCtl q ((v ||| 0x40000000#32) &&& 0x7FFFFFFF#32) s)

/-- R252: at T the pending list becomes the port's active list. (Log entry 110: DEDUCED, unsafe.) -/
def execGateListTakeover (p : Fin 32) (s : State) : Res :=
  match s.gatePending p with
  | some g =>
    if s.now ≥ g.t then
      let s := (s.setGateActive p (some g)).setGatePending p none
      ok ((s.sf (TG_PORT_STATUS p) TG_PORT_STATUS_PENDING 0).gateShow p)
    else ok s
  | none => ok s

/-- R252: the entry in force changes. -/
def execGateEntryChange (p : Fin 32) (s : State) : Res := ok (s.gateShow p)

/-- Gate `c` of a port is open from `t` for `len` ns, whichever list is in force at each instant (R253, R254): tested
at every ns boundary an entry or a takeover can fall on, by walking the list in force. -/
def State.gateOpenAt (s : State) (p c t : Nat) : Bool :=
  if s.gf TG_CTL TG_CTL_EN = 0 then true
  else
    let inForce := match s.gatePending p with
      | some g => if t ≥ g.t then some g else s.gateActive p
      | none => s.gateActive p
    match inForce with
    | none => true
    | some g => bitAt (gateAt g.entries ((t - g.t) % max 1 (gateCycle g.entries)) 0).2 c

def State.gateOpen (s : State) (p c t len : Nat) : Bool :=
  (List.range (len + 1)).all (fun k => s.gateOpenAt p c (t + k))

/-! ### Shapers and policers (R255 to R258) -/

def bucketReset : Nat → Bucket := fun _ => Bucket.reset

def State.bucket (s : State) (policer : Bool) (i : Nat) : Bucket :=
  Tab.get bucketReset (if policer then s.time.policers else s.time.shapers) i

def State.setBucket (s : State) (policer : Bool) (i : Nat) (b : Bucket) : State :=
  s.setTime (if policer then { s.time with policers := Tab.set bucketReset s.time.policers i b }
    else { s.time with shapers := Tab.set bucketReset s.time.shapers i b })

/-- The refill period in ns (R256). -/
def refillPeriod (c : BucketCfg) : Nat := 2 ^ c.period * 100

/-- The consistency code of APPLY (R260). -/
def bucketCheck (policer : Bool) (ix : Nat) (c : BucketCfg) : Option Nat :=
  if (policer && decide (ix > 1023)) || decide (c.period > 20) || decide (c.burst = 0) then some 0x06A2 else none

/-- One refill (R256): the waiting configuration takes effect first; an enable that changes from zero to one starts at
BURST. -/
def Bucket.refill (b : Bucket) (now : Nat) : Bucket :=
  let cfg := b.next.getD b.cfg
  let tokens :=
    if !cfg.en then 0
    else if cfg.en && !b.cfg.en then cfg.burst
    else min cfg.burst (b.tokens + cfg.rate)
  ⟨cfg, tokens, none, now⟩

/-- A configuration waits for the bucket's next refill (R256): a refill that fell due before the APPLY is made first, so
that the one to come takes the configuration up. -/
def Bucket.apply (b : Bucket) (c : BucketCfg) (now : Nat) : Bucket :=
  let b := if now / refillPeriod b.cfg ≠ b.lastAt / refillPeriod b.cfg then b.refill now else b
  { b with next := some c, lastAt := now }

/-- A packet asks a bucket for a token (R255, R258): whether it passes, and the bucket after. -/
def Bucket.take (b : Bucket) : Bool × Bucket :=
  if !b.cfg.en then (true, b)
  else if b.cfg.rate = 0 ∨ b.tokens = 0 then (false, b)
  else (true, { b with tokens := b.tokens - 1 })

/-- TG_SHP_SEL (R256): POLICER and INDEX are stored; APPLY checks the staged configuration and marks it pending for
the unit's next refill. -/
def writeTgShpSel (q : Requester) (v : W32) (s : State) : State :=
  if !coreWrites q then s
  else
    let pol := bitAt v.toNat 30
    let ix := v.toNat % 4096
    let s := (s.sf TG_SHP_SEL TG_SHP_SEL_POLICER (b2n pol)).sf TG_SHP_SEL TG_SHP_SEL_INDEX ix
    if bitAt v.toNat 31 then
      let c : BucketCfg := ⟨s.bit TG_SHP_CTL TG_SHP_CTL_EN, s.gf TG_SHP_RATE TG_SHP_RATE_RATE,
        s.gf TG_SHP_RATE TG_SHP_RATE_BURST, s.gf TG_SHP_CTL TG_SHP_CTL_PERIOD,
        s.gf TG_SHP_CTL TG_SHP_CTL_ACTION, s.gf TG_SHP_CTL TG_SHP_CTL_EXCEED_TC⟩
      match bucketCheck pol ix c with
      | some code => s.sf TG_CTL TG_CTL_REFUSAL code
      | none => (s.setBucket pol ix ((s.bucket pol ix).apply c s.now)).sf TG_CTL TG_CTL_REFUSAL 0
    else s

/-- R256: a write of TG_SHP_SEL with APPLY one. -/
def execApply (q : Requester) (v : W32) (s : State) : Res := ok (writeTgShpSel q (v ||| 0x80000000#32) s)

/-- R256: the counter has crossed a multiple of the bucket's period since its last refill. (Log entry 110: DEDUCED,
unsafe.) -/
def execRefill (policer : Bool) (ix : BitVec 12) (s : State) : Res :=
  let b := s.bucket policer ix.toNat
  let per := refillPeriod b.cfg
  if s.now / per ≠ b.lastAt / per then ok (s.setBucket policer ix.toNat (b.refill s.now)) else ok s

/-! ### Syncen operations (R261) -/

/-- Domain 17 carries time, links, gates and shapers (R376). -/
def domTime : Option Nat := some 17

/-- R261. (Log entry 115: DEDUCED, unsafe.) -/
def execSynTimeSet (r : SynReq) (second : W64) (delay : Int) (unc hold : Nat) (s : State) : Res :=
  ok (s.syn 0x0A00 domTime r fun s =>
    if second.toNat % 1000000000 ≠ 0 then refuse s 0x0101
    else if delay < -32768 ∨ delay > 32767 ∨ unc > 255 ∨ hold > 255 then refuse s 0x0102
    else if s.timeState = 2 then refuse s 0x0201
    else
      let s := s.wr TIME_CFG (BitVec.ofNat 32 (toU 16 delay * 65536 + unc * 256 + hold))
      success ((s.wr64 TIME_SET second.toNat).sf TIME_CTL TIME_CTL_ARM 1))

/-- R261. (Log entry 111: DESIGN CHOICE, unsafe.) -/
def execSynTimeQuery (r : SynReq) (s : State) : Res :=
  ok (s.syn 0x0A01 domTime r fun s =>
    success s (leBytes 8 s.now ++ leBytes 4 (s.rd TIME_STATUS).toNat
      ++ leBytes 4 (s.rd TIME_PHASE).toNat ++ leBytes 4 s.errorBound ++ leBytes 4 (s.rd TIME_FREQ).toNat))

/-- R261. (Log entries 114: DEDUCED, unsafe; 115: DEDUCED, unsafe.) -/
def execSynTgGateLoad (r : SynReq) (port : Nat) (basetime : W64) (entries : List GateSpec) (s : State) : Res :=
  ok (s.syn 0x0A02 domTime r fun s =>
    if (s.gatePending port).isSome then refuse s 0x0201
    else
      let es := entries.map (fun e => ⟨e.interval.toNat, e.gates.toNat⟩)
      match s.gateCheck port es.length true es with
      | some c => refuse (s.sf TG_CTL TG_CTL_REFUSAL c) c
      | none =>
        let (s, t, late) := s.gateCommit port basetime.toNat es
        success s (leBytes 8 t ++ leBytes 1 (b2n late)))

/-- R261. -/
def execSynTgGateCancel (r : SynReq) (port : Fin 32) (s : State) : Res :=
  ok (s.syn 0x0A03 domTime r fun s =>
    if (s.gatePending port).isNone then refuse s 0x0202
    else success ((s.setGatePending port none).sf (TG_PORT_STATUS port) TG_PORT_STATUS_PENDING 0))

/-- Apply a configuration by request (R261): the counter time of the refill that takes it up. (Log entry 113:
DEDUCED, unsafe.) -/
def State.applyBucket (s : State) (policer : Bool) (ix : Nat) (c : BucketCfg) : State × Nat × List Byte :=
  if ix > (if policer then 1023 else 4095) then refuse (s.sf TG_CTL TG_CTL_REFUSAL 0x06A2) 0x06A2
  else match bucketCheck policer ix c with
  | some code => refuse (s.sf TG_CTL TG_CTL_REFUSAL code) code
  | none =>
    let b := s.bucket policer ix
    let b := b.apply c s.now
    success ((s.setBucket policer ix b).sf TG_CTL TG_CTL_REFUSAL 0)
      (leBytes 8 ((s.now / refillPeriod b.cfg + 1) * refillPeriod b.cfg))

/-- R261. -/
def execSynTgShaperSet (r : SynReq) (ix : Nat) (en : Bool) (rate burst : W16) (period : Nat) (s : State) : Res :=
  ok (s.syn 0x0A04 domTime r fun s =>
    s.applyBucket false ix ⟨en, rate.toNat, burst.toNat, period, 0, 0⟩)

/-- R261. -/
def execSynTgPolicerSet (r : SynReq) (ix : Nat) (en : Bool) (rate burst : W16) (period : Nat) (action : Bool)
    (exceedTc : BitVec 3) (s : State) : Res :=
  ok (s.syn 0x0A05 domTime r fun s =>
    s.applyBucket true ix ⟨en, rate.toNat, burst.toNat, period, b2n action, exceedTc.toNat⟩)

/-- R261. (Log entry 111: DESIGN CHOICE, unsafe.) -/
def execSynTgQuery (r : SynReq) (what : TgQuery) (s : State) : Res :=
  ok (s.syn 0x0A06 domTime r fun s =>
    let head := match what with
      | .port p => leBytes 4 (s.rd (TG_PORT_STATUS p)).toNat
      | .shaper i => leBytes 4 (s.bucket false i).tokens
      | .policer i => leBytes 4 (s.bucket true i).tokens
    success s (head ++ leBytes 8 (s.rd64 TG_LATE) ++ leBytes 4 (s.rd TG_POL_EXCEED).toNat))

end Sys2Proof.Machine
end

