-- ==== Sys2Proof/Machine/Bus.lean ====
section
/-! DEFINITION. What a register word reads as and what a read of it does (00_scope.md R4 to R7), and the accesses of the
device's own engines to the device physical address space, memory and registers alike (R3, R4, R12). -/

namespace Sys2Proof.Machine

/-! ### Reads of a register word -/

/-- A word as its access types show it: WO fields read zero (R6). -/
def RegDesc.shown (r : RegDesc) (w v : Nat) : Nat :=
  r.fields.foldl (fun x f =>
    match f.inWord r.wide w, f.acc with
    | some (p, n, _), .wo => bitsPut x p n 0
    | _, _ => x) v

/-- The word after a read of its bytes [b, b + n): an RC field that they meet is cleared (R6). (Log entry 330: DESIGN
CHOICE, unsafe.) -/
def RegDesc.afterRead (r : RegDesc) (w v b n : Nat) : Nat :=
  r.fields.foldl (fun x f =>
    match f.inWord r.wide w, f.acc with
    | some (p, k, _), .rc => if overlaps p k (8 * b) (8 * n) then bitsPut x p k 0 else x
    | _, _ => x) v

/-- A read of a register with no effect beyond its access types; an offset of no register reads zero (R326). -/
def readPlain (off b n : Nat) (s : State) : W32 × State :=
  match findReg off with
  | some (r, w) =>
    let v := (s.rd off).toNat
    let v' := r.afterRead w v b n
    (BitVec.ofNat 32 (r.shown w v), if v' = v then s else s.wr off (BitVec.ofNat 32 v'))
  | none => (0, s)

/-- FLG_PEEK shows VALUE and OVERSET of the selected flag. -/
def State.peekWord (s : State) : W32 :=
  let p := s.gf FLG_PEEK FLG_PEEK_PFLAG
  BitVec.ofNat 32 (p + b2n (s.flagVal p) * 2 ^ 30 + b2n (s.flagOver p) * 2 ^ 31)

/-- HBM_STATUS shows the stacks that are in self-refresh. -/
def State.hbmWord (s : State) : W32 := HBM_STATUS_SR.put (s.rd HBM_STATUS) s.hbm.sr

/-- TG_SHP_STATE shows the selected unit's tokens and whether a configuration waits. -/
def State.shpWord (s : State) : W32 :=
  let b := s.bucket (s.bit TG_SHP_SEL TG_SHP_SEL_POLICER) (s.gf TG_SHP_SEL TG_SHP_SEL_INDEX)
  BitVec.ofNat 32 (b.tokens * 2 ^ 16 + b2n b.next.isSome * 2 ^ 15)

/-- A port register that the eight-lane form does not have: its reset value (R187). -/
def State.absentPort (s : State) (off : Nat) : Bool :=
  s.eightLane && decide (0x270500 ≤ off) && decide (off < 0x270900)

/-- A read of bytes [b, b + n) of one register word. -/
def regRead (off b n : Nat) (s : State) : W32 × State :=
  if off = TIME_NOW then s.readNowLow
  else if off = TIME_NOW + 4 then (s.time.latchHi, s)
  else if off = FLG_PEEK then (s.peekWord, s)
  else if off = TG_SHP_STATE then (s.shpWord, s)
  else if off = HBM_STATUS then (s.hbmWord, s)
  else if s.absentPort off then (regReset off, s)
  else readPlain off b n s

/-! ### Reads of any size (R4) -/

/-- Which blocks answer the host's BAR0 requests (R361, R434): every block once firmware runs or in the safe state; DEV
and MBX from STAGE 4. (Log entry 9: DESIGN CHOICE, safe.) -/
def State.hostReaches (s : State) (q : Requester) (off : Nat) : Bool :=
  let st := s.gf DEV_STATUS DEV_STATUS_STAGE
  q != .host || s.safe || s.fwRunning || st == 9 || (decide (4 ≤ st) && decide (off < 0x20000))

/-- One word read; a block that does not yet answer the host returns a free value. (Log entry 9: DESIGN CHOICE,
safe.) -/
def wordLoad (q : Requester) (off b n : Nat) (s : State) : W32 × State :=
  if s.hostReaches q off then regRead off b n s else (s.fresh 32, s.tick)

/-- A read of the register range (R4). (Log entry 12: DESIGN CHOICE, unsafe.) -/
def regLoad (q : Requester) (off n : Nat) (s : State) : Option MemErr × List Byte × State :=
  if off % 4 + n ≤ 4 then
    let (v, s) := wordLoad q (off / 4 * 4) (off % 4) n s
    (none, ((leBytes 4 v.toNat).drop (off % 4)).take n, s)
  else if n = 8 ∧ aligned 8 off then
    let (lo, s) := wordLoad q off 0 4 s
    let (hi, s) := wordLoad q (off + 4) 0 4 s
    (none, leBytes 4 lo.toNat ++ leBytes 4 hi.toNat, s)
  else if q = .host then (none, List.replicate n 0, s)
  else (some .address, [], s)

/-! ### Accesses of an engine -/

/-- The register offset of a device physical address. -/
def regOff (a : Nat) : Nat := a - regsBase

/-- The sizes and places of an access inside the device that R4 lets reach the register range. -/
def regSized (a n : Nat) : Bool := decide (a % 4 + n ≤ 4) || (n == 8 && aligned 8 a)

/-- A read of the device address space by an engine, memory and registers alike. -/
def State.engLoad (s : State) (a n : Nat) : Option MemErr × List Byte × State :=
  if regionOf a = .regs ∧ n ≠ 0 then regLoad .engine (regOff a) n s else s.load a n

/-- A write of the device address space by an engine (R4): no register of the part takes a write from an engine (R41 and
the like, R437), so in the register range a write of a size that R4 takes completes and changes nothing. -/
def State.engStore (s : State) (a : Nat) (bs : List Byte) (poison : Bool := false) : Option MemErr × State :=
  if regionOf a = .regs ∧ bs.length ≠ 0 then (if regSized a bs.length then none else some .address, s)
  else s.store a bs poison

/-- Why an access of an engine is refused as a whole; in the register range only the sizes of R4 pass. -/
def State.accessErr (s : State) (a n : Nat) (wr : Bool) : Option MemErr :=
  if regionOf a = .regs then if regSized a n then none else some .address
  else s.memErr a n wr

end Sys2Proof.Machine
end

