-- ==== Sys2Proof/Machine/Queues.lean ====
section
/-! DEFINITION. The receive, transmit and transport queues of the instances as the engines use them
(16_virtual_instances.md R344 to R355), and the EVENTS bits that hardware sets in a core (18_tahr_instruction_set.md
R401). -/

namespace Sys2Proof.Machine

/-- Code of a queue kind in the key of the queue table, and the key: kind, device-wide number. -/
def qkindCode : QKind → Nat
  | .receive => 1 | .transmit => 2 | .transport => 3
def qkey (k : QKind) (n : Nat) : Nat := qkindCode k * 2 ^ 16 + n

def State.iqAt (s : State) (key : Nat) : Option IQueue := (s.iq.find? (fun e => e.1 == key)).map (·.2)
def State.setIq (s : State) (key : Nat) (v : IQueue) : State := { s with iq := Tab.insert s.iq key v }

/-- The PASID that every host request of an instance carries (R344). -/
def State.instPasid (s : State) (i : Nat) : Option Nat := some (s.instOf i).pasid

/-- `n` bytes of an instance's memory; none while the device may not use the host link (R336). -/
def State.instRead (s : State) (i a n : Nat) : Option (List Byte) :=
  if s.hostUp then some (s.hostBytes (s.instPasid i) a n) else none

/-- Write an instance's memory; nothing is written while the device may not use the host link. -/
def State.instWrite (s : State) (i a : Nat) (bs : List Byte) : State :=
  if s.hostUp then s.hostPut (s.instPasid i) a bs else s

/-- One message is due on a vector of an instance: sent by R333 while ENABLED, kept while QUIESCED (R353). -/
def State.instVec (s : State) (i v : Nat) : State :=
  match (s.instOf i).state with
  | .enabled => s.raise v
  | .quiesced => s.setInst i { s.instOf i with vecPending := insertKey (s.instOf i).vecPending v }
  | _ => s

/-- A queue of an instance froze: INSTP_STATUS.EVENT and EVT_QUEUE_FROZEN with instance, kind (0 storage, 1 receive,
2 transmit, 3 transport), queue and status (R348, R375). -/
def State.queueFroze (s : State) (i kind n status : Nat) : State :=
  (s.setInst i { s.instOf i with event := true }).instEvent i 0x0083
    (leBytes 2 i ++ leBytes 1 kind ++ leBytes 2 n ++ leBytes 2 status)

/-- A doorbell of an instance page has effect: the instance is ENABLED or QUIESCED (R348), the page answers memory
requests (R326) and the safe state is not in force (R433). -/
def State.pageOpen (s : State) (i : Nat) : Bool :=
  s.mse && !s.safe && !s.host.flrBusy && ((s.instOf i).state == .enabled || (s.instOf i).state == .quiesced)

/-- A doorbell for a local index with no queue (R348). -/
def State.stray (s : State) (i : Nat) : State := s.setInst i { s.instOf i with stray := min 15 ((s.instOf i).stray + 1) }

/-- A record of an older generation is discarded and counted (R354). -/
def State.late (s : State) (i : Nat) : State := s.setInst i { s.instOf i with late := (s.instOf i).late + 1 }

/-- Byte of a completion entry that holds PHASE: 14 in a transport completion record (R216), 12 in the others (R349). -/
def phaseByte : QKind → Nat
  | .transport => 14
  | _ => 12

/-- The completion ring has room. -/
def IQueue.room (q : IQueue) : Bool := decide ((q.cplTail + 2 ^ 16 - q.cplHead) % 2 ^ 16 < 2 ^ q.log2n)

/-- Completions may be written now: the instance is ENABLED and the host link may be used (R346, R355). -/
def State.mayComplete (s : State) (i : Nat) : Bool := (s.instOf i).state == .enabled && s.hostUp

/-- Write one 16-byte completion with its PHASE and raise the queue's vector. -/
def State.putCompletion (s : State) (key : Nat) (q : IQueue) (bs : List Byte) : State :=
  let size := 2 ^ q.log2n
  let b := phaseByte q.kind
  let phase := if (q.cplTail / size) % 2 = 0 then 1 else 0
  let e := fit 16 bs
  let e := e.set b (BitVec.ofNat 8 (bitsPut (e[b]?.getD 0).toNat 0 1 phase))
  let s := s.instWrite q.inst (q.cplRing + q.cplTail % size * 16) e
  (s.setIq key { q with cplTail := (q.cplTail + 1) % 2 ^ 16 }).instVec q.inst q.vector

/-- Write the completions a queue owes, oldest first, while they may be written and room remains. -/
def State.flushOwed (key : Nat) : Nat → State → State
  | 0, s => s
  | n + 1, s =>
    match s.iqAt key with
    | some q =>
      match q.owed with
      | c :: rest =>
        if s.mayComplete q.inst && q.room && !q.mute then
          State.flushOwed key n (s.putCompletion key { q with owed := rest } c.bytes)
        else s
      | [] => s
    | none => s

/-- A completion of a queue: written at once, or held in order in the device (R355). -/
def State.iqComplete (s : State) (key : Nat) (bs : List Byte) : State :=
  match s.iqAt key with
  | some q =>
    let q := { q with owed := q.owed ++ [⟨bs⟩] }
    State.flushOwed key q.owed.length (s.setIq key q)
  | none => s

/-- Posted entries of a queue not yet taken. -/
def IQueue.posted (q : IQueue) : Nat := (q.tail + 2 ^ 16 - q.head) % 2 ^ 16

/-- The queue fetches: it is not frozen and its instance is ENABLED (R346, R348). -/
def State.iqFetches (s : State) (q : IQueue) : Bool := !q.frozen && q.deleting.isNone && (s.instOf q.inst).state == .enabled && !s.blockDown 18

/-- Take the oldest posted buffer of a receive queue (R350): its address and BUF_ID. -/
def State.takeBuffer (s : State) (n : Nat) : Option (Nat × Nat × State) :=
  match s.iqAt (qkey .receive n) with
  | some q =>
    if s.iqFetches q && decide (q.posted > 0) && s.hostUp then
      let d := s.hostBytes (s.instPasid q.inst) (q.ring + q.head % 2 ^ q.log2n * 16) 16
      some (fieldLE d 0 8, fieldLE d 8 2,
        s.setIq (qkey .receive n) { q with head := (q.head + 1) % 2 ^ 16, outstanding := q.outstanding + 1 })
    else none
  | none => none

/-- A queue that waits to be deleted goes once its fetched work has completed (R357). -/
def State.iqReap (s : State) (key : Nat) : State :=
  match s.iqAt key with
  | some q =>
    match q.deleting with
    | some r =>
      if q.outstanding = 0 ∧ (q.owed = [] ∨ q.mute) then
        { s with iq := s.iq.filter (fun e => e.1 != key) }.answer 0x0F06 r 0 []
      else s
    | none => s
  | none => s

/-- One taken entry of a queue has ended. -/
def State.iqDone (s : State) (key : Nat) : State :=
  match s.iqAt key with
  | some q => (s.setIq key { q with outstanding := q.outstanding - 1 }).iqReap key
  | none => s

/-- A receive completion (R349): length, FLAGS, PORT, PRIO, BUF_ID, and the connection of a SEND. -/
def rxCompletion (len flags port prio bufId conn : Nat) : List Byte :=
  leBytes 8 (len % 2 ^ 16 + flags % 256 * 2 ^ 16 + port % 8 * 2 ^ 24 + prio % 8 * 2 ^ 29)
    ++ leBytes 2 bufId ++ [0, 0, 0] ++ leBytes 3 conn

/-! ### EVENTS of a core (R401) -/

def tahrReset : Nat → Tahr := fun _ => Tahr.reset
def State.tahrOf (s : State) (c : Nat) : Tahr := Tab.get tahrReset s.tahr c
def State.setTahr (s : State) (c : Nat) (t : Tahr) : State := { s with tahr := Tab.set tahrReset s.tahr c t }

/-- Hardware sets EVENTS bits of a core (R401). -/
def State.setEvents (s : State) (c : Nat) (mask : W32) : State :=
  s.setTahr c { s.tahrOf c with events := (s.tahrOf c).events ||| mask }

end Sys2Proof.Machine
end

