-- ==== Sys2Proof/Machine/Keys.lean ====
section
/-! DEFINITION. Key slots and the cipher engines' use of them (14_security_and_keys.md R305 to R310), shared by the
links, MACsec, the storage engine and the message engine. -/

namespace Sys2Proof.Machine

def slotReset : Nat → KeySlot := fun _ => KeySlot.reset
def State.slotOf (s : State) (k : Nat) : KeySlot := Tab.get slotReset s.sec.slots k
def State.setSlot (s : State) (k : Nat) (v : KeySlot) : State :=
  { s with sec := { s.sec with slots := Tab.set slotReset s.sec.slots k v } }

/-- Device-internal work (R305). -/
def ownerInternal : Nat := 0x7FF

/-- The slot is usable for TYPE `ty` on behalf of `owner` (R307). -/
def State.slotUsable (s : State) (k ty owner : Nat) : Bool :=
  (s.slotOf k).type == ty && (s.slotOf k).owner == owner

/-- A load or clear of the slot waits for its references (R309). -/
def State.slotPending (s : State) (k : Nat) : Bool := s.sec.pendingKeys.any (fun p => p.slot == k)

/-- The 256-bit key of a slot. -/
def State.slotKey (s : State) (k : Nat) : List Byte := fit 32 (s.slotOf k).key

/-- A tag that fails in any engine is counted (R312). -/
def State.countAuth (s : State) : State := s.cnt SEC_EVENTS SEC_EVENTS_AUTH_FAIL 1

/-- AES-256-GCM encryption: ciphertext and 16-byte tag. -/
def gcmSeal (key iv aad text : List Byte) : List Byte × List Byte :=
  let r := Config.gcmEncrypt key iv aad text
  (fit text.length r.1, fit 16 r.2)

/-- AES-256-GCM decryption: none when the tag fails. -/
def gcmOpen (key iv aad text tag : List Byte) : Option (List Byte) :=
  if fit 16 (Config.gcmTag key iv aad text) = tag then some (fit text.length (Config.gcmDecrypt key iv aad text)) else none

/-- The IEEE 802.3 frame check sequence (R190): the reflected CRC-32 of the bytes. -/
def crcBits : Nat → Nat → Nat
  | 0, c => c
  | n + 1, c => crcBits n (if c % 2 = 1 then (c >>> 1) ^^^ 0xEDB88320 else c >>> 1)

def crc32 (bs : List Byte) : Nat :=
  bs.foldl (fun c b => crcBits 8 (c ^^^ b.toNat)) 0xFFFFFFFF ^^^ 0xFFFFFFFF

/-- A frame's content with its check sequence, sent least significant byte first. -/
def withCrc (bs : List Byte) : List Byte := bs ++ leBytes 4 (crc32 bs)

/-- The check sequence of a received frame holds, and its content. -/
def checkCrc (bs : List Byte) : Option (List Byte) :=
  if bs.length < 5 then none
  else
    let n := bs.length - 4
    if leNat (bs.drop n) = crc32 (bs.take n) then some (bs.take n) else none

end Sys2Proof.Machine
end

