-- ==== Sys2Proof/Machine/Sto.lean ====
section
/-! DEFINITION. The storage block's shared operations: volumes, queues, range locks, completions, backings
(13_storage_queues.md R282 to R297). -/

namespace Sys2Proof.Machine

/-! ### Volumes (R282, R283) -/

/-- Address of a volume record, and its bytes. -/
def State.volAddr (s : State) (v : Nat) : Nat := s.gf STO_VOL_BASE STO_VOL_BASE_BASE <<< 12 + v * 64
def State.volRec (s : State) (v : Nat) : List Byte := s.bytes (s.volAddr v) 64

def volValid (r : List Byte) : Bool := wordFd r 0 0 1 == 1
def volWr (r : List Byte) : Bool := wordFd r 0 1 1 == 1
def volXts (r : List Byte) : Bool := wordFd r 0 2 1 == 1
def volOwner (r : List Byte) : Nat := wordFd r 0 16 11
def volBacking (r : List Byte) : Nat := wordFd r 1 0 8
def volNsid (r : List Byte) : Nat := wordFd r 2 0 32
def volSlot (r : List Byte) : Nat := wordFd r 3 0 12
def volStart (r : List Byte) : Nat := fieldLE r 16 8
def volBlocks (r : List Byte) : Nat := fieldLE r 24 8
def volTweak (r : List Byte) : Nat := fieldLE r 32 8

/-! ### Backings (R296, R297) -/

def backingReset : Nat → Backing := fun _ => Backing.reset
def State.backing (s : State) (b : Nat) : Backing := Tab.get backingReset s.sto.backings b
def State.setBacking (s : State) (b : Nat) (v : Backing) : State :=
  { s with sto := { s.sto with backings := Tab.set backingReset s.sto.backings b v } }

/-- Commands outstanding on a drive port (STO_DRIVE_STATUS.OUTSTANDING). -/
def State.showDrive (s : State) (b : Nat) : State :=
  if b < 4 then
    s.sf (STO_DRIVE_STATUS b) STO_DRIVE_STATUS_OUTSTANDING
      (s.sto.cmds.foldl (fun n c => n + (c.parts.filter (fun p => p.backing == b)).length) 0)
  else s

def State.showDrives (s : State) : State := (List.range 4).foldl State.showDrive s

/-! ### Queues and commands -/

def State.stoQ (s : State) (n : Nat) : Option StoQ := (s.sto.queues.find? (fun e => e.1 == n)).map (·.2)
def State.setStoQ (s : State) (n : Nat) (q : StoQ) : State :=
  { s with sto := { s.sto with queues := Tab.insert s.sto.queues n q } }
def State.dropStoQ (s : State) (n : Nat) : State :=
  { s with sto := { s.sto with queues := s.sto.queues.filter (fun e => e.1 != n) } }
def State.stoQAt (s : State) (i ix : Nat) : Option (Nat × StoQ) :=
  s.sto.queues.find? (fun e => e.2.inst == i && e.2.localIx == ix)
def State.stoCmd (s : State) (id : Nat) : Option StoCmd := s.sto.cmds.find? (fun c => c.id == id)
def State.setStoCmd (s : State) (c : StoCmd) : State :=
  { s with sto := { s.sto with cmds := s.sto.cmds.map (fun x => if x.id == c.id then c else x) } }

/-- Range-lock entries held (STO_LOCKS). -/
def State.locksHeld (s : State) : Nat := (s.sto.cmds.filter (·.lock)).length

/-- STO_LOCKS shows the entries held and the most held at once. -/
def State.showLocks (s : State) : State :=
  let n := s.locksHeld
  (s.sf STO_LOCKS STO_LOCKS_IN_USE n).sf STO_LOCKS STO_LOCKS_HIGH (max n (s.gf STO_LOCKS STO_LOCKS_HIGH))

/-- Fetched commands of a queue not yet completed. -/
def State.stoOut (s : State) (n : Nat) : Nat :=
  match s.stoQ n with
  | some q => (s.sto.cmds.filter (fun c => c.q == n && c.inst == q.inst && c.gen == (s.instOf q.inst).gen)).length
  | none => 0

/-- A command completes into this queue: same instance and generation (R291). -/
def State.stoLive (s : State) (c : StoCmd) : Bool :=
  match s.stoQ c.q with
  | some q => q.inst == c.inst && (s.instOf c.inst).gen == c.gen
  | none => false

/-- Two commands conflict (R287): same volume, overlapping ranges, at least one exclusive. -/
def stoConflict (a b : StoCmd) : Bool :=
  a.volume == b.volume && decide (a.lba < b.lba + b.blocks) && decide (b.lba < a.lba + a.blocks)
    && (a.op != 2 || b.op != 2)

/-- The command may start: no conflicting entry taken earlier is held (R287), and no volume change it must wait for is
pending (R283). -/
def State.stoMayStart (s : State) (c : StoCmd) : Bool :=
  c.phase == .waiting && !s.sto.cmds.any (fun x => x.lock && decide (x.id < c.id) && stoConflict x c)
    && !s.sto.changes.any (fun v => v.volume == c.volume && decide (v.barrier ≤ c.id))

/-! ### Freeze and error log (R290) -/

/-- Make an error log entry; its sequence number. -/
def State.stoLog (s : State) (n : Nat) (e : StoErr) : Nat × State :=
  match s.stoQ n with
  | some q =>
    let errs := q.errs ++ [{ e with seq := q.errSeq, time := s.now }]
    (q.errSeq, s.setStoQ n { q with errs := errs.drop (errs.length - 8), errSeq := (q.errSeq + 1) % 2 ^ 32 })
  | none => (0, s)

/-- A queue enters FROZEN (a QUIESCED queue returns to FROZEN), counted in FREEZES. (Log entry 139: DEDUCED, unsafe.) -/
def State.stoFreeze (s : State) (n status : Nat) : State :=
  match s.stoQ n with
  | some q =>
    let was := if q.state = .quiesced then q.prior else q.state
    if was = .frozen then s
    else
      let q := if q.state = .quiesced then { q with prior := .frozen } else { q with state := .frozen }
      ((s.setStoQ n q).cnt STO_EVENTS STO_EVENTS_FREEZES 1).queueFroze q.inst 0 n status
  | none => s

/-- A status freezes the queue (R289). -/
def stoFreezes (st : Nat) : Bool := st != 0 && st != 0x12

/-! ### Completions (R284, R285) -/

/-- The completion queue has room. -/
def StoQ.room (q : StoQ) : Bool := decide ((q.cqTail + 2 ^ 16 - q.cqHead) % 2 ^ 16 < 2 ^ q.log2n)

/-- Send the queue's interrupt. -/
def State.stoSignal (s : State) (n : Nat) : State :=
  match s.stoQ n with
  | some q => if q.pend = 0 then s else (s.setStoQ n { q with pend := 0 }).instVec q.inst q.vector
  | none => s

/-- Write the oldest completion a queue owes, with its PHASE, and count it toward COAL_COUNT. -/
def State.stoWrite1 (s : State) (n : Nat) : State :=
  match s.stoQ n with
  | some q =>
    match q.owed with
    | c :: rest =>
      if q.state != .quiesced && s.hostUp && q.room then
        let size := 2 ^ q.log2n
        let e := (fit 16 c).set 12 (if (q.cqTail / size) % 2 = 0 then 1 else 0)
        let s := s.instWrite q.inst (q.cq + q.cqTail % size * 16) e
        let s := s.setStoQ n { q with
          owed := rest, cqTail := (q.cqTail + 1) % 2 ^ 16, pend := q.pend + 1
          pendAt := if q.pend = 0 then s.clock else q.pendAt }
        if q.pend + 1 ≥ max 1 q.coalCount then s.stoSignal n else s
      else s
    | [] => s
  | none => s

/-- Write the completions a queue owes, oldest first. -/
def State.stoWriteAll (n : Nat) : Nat → State → State
  | 0, s => s
  | k + 1, s => State.stoWriteAll n k (s.stoWrite1 n)

/-- The completions every queue owes. -/
def State.stoWriteOwed (s : State) : State :=
  s.sto.queues.foldl (fun (s : State) e => State.stoWriteAll e.1 e.2.owed.length s) s

/-- A queue that waits to be deleted goes once its fetched commands have completed and been written (R299). -/
def State.stoReap (s : State) (n : Nat) : State :=
  match s.stoQ n with
  | some q =>
    match q.deleting with
    | some r =>
      if s.stoOut n = 0 ∧ q.owed = [] then (s.dropStoQ n).answer 0x0C01 r 0 [] else s
    | none => s
  | none => s

/-- Volume changes whose commands have all completed take effect, in request order (R283, R299). -/
def State.stoApply : Nat → State → State
  | 0, s => s
  | k + 1, s =>
    let ready (v : VolChange) : Bool :=
      !s.sto.cmds.any (fun c => c.op != 0 && c.volume == v.volume && decide (c.id < v.barrier))
        && (s.sto.changes.find? (fun w => w.volume == v.volume)) == some v
    match s.sto.changes.find? ready with
    | some v =>
      let s := { s with sto := { s.sto with changes := s.sto.changes.erase v } }
      let s := s.poke (s.volAddr v.volume) (fit 64 v.record)
      State.stoApply k (s.answer v.opcode v.req 0 [])
    | none => s

/-- Mark that a write has ended, for the FLUSH commands that wait for it. -/
def stoEnded (id status : Nat) (c : StoCmd) : StoCmd :=
  if c.waits.contains id then { c with waits := eraseKey c.waits id, bad := c.bad || status != 0 } else c

/-- A command completes (R285, R289, R290, R291): its entry in the command list goes, its completion is owed to its
queue, a freezing status is logged and freezes the queue; one of an older generation is discarded and counted. -/
def State.stoComplete (s : State) (c : StoCmd) : State :=
  let cmds := (s.sto.cmds.filter (fun x => x.id != c.id)).map (stoEnded c.id c.status)
  let live := s.stoLive c
  let s := ({ s with sto := { s.sto with cmds := cmds } }).showLocks
  let s :=
    if !live then (s.late c.inst).cnt STO_EVENTS STO_EVENTS_LATE 1
    else
      let (seq, s) := if stoFreezes c.status then
          s.stoLog c.q ⟨0, c.cid, c.status, c.volume, c.lba, c.blocks, c.backing, c.nvme, 0⟩
        else (0, s)
      let entry := leBytes 4 seq ++ leBytes 2 c.sqhd ++ [0, 0] ++ leBytes 2 c.cid ++ leBytes 2 c.status ++ [0, 0, 0, 0]
      let s := match s.stoQ c.q with
        | some q =>
          let wrote := if c.op = 0 then q.wrote.filter (fun w => decide (w.2.2 > c.stamp)) else q.wrote
          s.setStoQ c.q { q with owed := q.owed ++ [entry], wrote := wrote }
        | none => s
      let s := if stoFreezes c.status then s.stoFreeze c.q c.status else s
      State.stoWriteAll c.q 1 s
  State.stoApply s.sto.changes.length (s.stoReap c.q)

/-- Data movement of a command has finished with a status: the completion follows the release of its lock (R287); a
command that holds no entry completes now. A command that needed host memory and lost it ends with 0x0011 (R292). -/
def State.stoMoved (s : State) (c : StoCmd) (status : Nat) : State :=
  let c := { c with phase := .moved, status := if c.hostDown then 0x11 else status, parts := [], slot := none }
  let s := (s.setStoCmd c).showDrives
  if c.lock then s else s.stoComplete c

/-- Every part of a command has ended: its status (R288, R289). -/
def State.stoPartsDone (s : State) (c : StoCmd) : State :=
  s.stoMoved c (if c.op = 0 then (if c.bad then 0x55 else 0) else c.status)

/-- Parts of the commands on a lost backing end (R286, R295): a FLUSH counts its Flush as failed; any other command
ends with 0x0053. -/
def State.stoBackingLost (s : State) (b : Nat) : State :=
  s.sto.cmds.foldl (fun (s : State) c0 =>
    match s.stoCmd c0.id with
    | some c =>
      if c.phase == .running && c.parts.any (fun p => p.backing == b) then
        let parts := c.parts.filter (fun p => p.backing != b)
        if c.op = 0 then
          let c := { c with parts := parts, bad := true }
          if parts.isEmpty then s.stoPartsDone c else (s.setStoCmd c).showDrives
        else s.stoMoved { c with backing := b } (if c.status = 0 then 0x53 else c.status)
      else s
    | none => s) s

/-- The connection of a remote controller has entered ERROR (R297). -/
def State.stoConnError (s : State) (conn : Nat) : State :=
  s.sto.backings.foldl (fun (s : State) e => if e.2.conns.contains conn then s.stoBackingLost e.1 else s) s

/-- The host may no longer be reached (R292): every READ and WRITE outstanding will complete with 0x0011. -/
def State.stoHostDown (s : State) : State :=
  { s with sto := { s.sto with cmds := s.sto.cmds.map (fun c =>
    if c.phase != .moved && (c.op == 1 || c.op == 2) then { c with hostDown := true } else c) } }

/-- The queues of an instance enter QUIESCED (R293). -/
def State.stoQuiesce (s : State) (i : Nat) : State :=
  { s with sto := { s.sto with queues := s.sto.queues.map (fun e =>
    if e.2.inst == i && e.2.state != .quiesced then (e.1, { e.2 with state := .quiesced, prior := e.2.state }) else e) } }

/-- The queues of an instance return to their previous state, and their held completions are written (R293). -/
def State.stoUnquiesce (s : State) (i : Nat) : State :=
  State.stoWriteOwed { s with sto := { s.sto with queues := s.sto.queues.map (fun e =>
    if e.2.inst == i && e.2.state == .quiesced then (e.1, { e.2 with state := e.2.prior }) else e) } }

/-- At firmware activation every ACTIVE queue enters PAUSED; it returns to ACTIVE afterwards (R294). A QUIESCED queue
keeps its state. -/
def State.stoPause (s : State) : State :=
  { s with sto := { s.sto with queues := s.sto.queues.map (fun e =>
    if e.2.state == .active then (e.1, { e.2 with state := .paused }) else e) } }
def State.stoResume (s : State) : State :=
  { s with sto := { s.sto with queues := s.sto.queues.map (fun e =>
    if e.2.state == .paused then (e.1, { e.2 with state := .active })
    else if e.2.state == .quiesced && e.2.prior == .paused then (e.1, { e.2 with prior := .active }) else e) } }

/-- An instance reset deletes its queues (R291, R354): what they had not fetched is lost; a request that waits for a
queue's deletion is answered. Fetched commands go on and their completions are discarded by generation. -/
def State.stoInstReset (s : State) (i : Nat) : State :=
  s.sto.queues.foldl (fun (s : State) e =>
    if e.2.inst == i then
      let s := s.dropStoQ e.1
      match e.2.deleting with
      | some r => s.answer 0x0C01 r 0 []
      | none => s
    else s) s

end Sys2Proof.Machine
end

