-- ==== Sys2Proof/Machine/Fabric.lean ====
section
/-! DEFINITION. Damoa lanes, ports and links (09_damoa_links.md R184 to R208). -/

namespace Sys2Proof.Machine

def fportReset : Nat → FPort := fun _ => FPort.reset
def State.fp (s : State) (p : Nat) : FPort := Tab.get fportReset s.fport p
def State.setFp (s : State) (p : Nat) (v : FPort) : State := { s with fport := Tab.set fportReset s.fport p v }

def laneReset : Nat → LaneRx := fun _ => LaneRx.reset
def State.laneOf (s : State) (l : Nat) : LaneRx := Tab.get laneReset s.laneRx l
def State.setLane (s : State) (l : Nat) (v : LaneRx) : State := { s with laneRx := Tab.set laneReset s.laneRx l v }

/-! ### Form, state and numbering (R187) -/

def State.portWidth (s : State) : Nat := if s.eightLane then 8 else 4

/-- The port exists in the form chosen (R207). (Log entry 99: DEDUCED, unsafe.) -/
def State.portExists (s : State) (p : Nat) : Bool := decide (p < 16) || !s.eightLane

/-- Device lane number of physical lane `k` of port `p`: 8 names the spare. -/
def State.laneNum (s : State) (p k : Nat) : Nat :=
  if k = 8 then (if s.eightLane then 128 + p else 128 + p / 2) else p * s.portWidth + k

/-- The other port that shares the spare in four-lane form. -/
def State.sharer (s : State) (p : Nat) : Option Nat :=
  if s.eightLane then none else some (if p % 2 = 0 then p + 1 else p - 1)

def State.portState (s : State) (p : Nat) : Nat := s.gf (FAB_PORT_STATUS p) FAB_PORT_STATUS_STATE
def State.portMode (s : State) (p : Nat) : Nat := s.gf (FAB_PORT_CTL p) FAB_PORT_CTL_MODE
def State.portEn (s : State) (p : Nat) : Bool := s.bit (FAB_PORT_CTL p) FAB_PORT_CTL_EN
def State.portEnc (s : State) (p : Nat) : Bool := s.bit (FAB_PORT_ENC p) FAB_PORT_ENC_EN
def State.txAn (s : State) (p : Nat) : Nat := s.gf (FAB_PORT_ENC p) FAB_PORT_ENC_TX_AN
def State.rxAn (s : State) (p : Nat) : Nat := s.gf (FAB_PORT_ENC p) FAB_PORT_ENC_RX_AN
def State.portKey (s : State) (p a : Nat) : Nat := bitsOf (s.rd64 (FAB_PORT_KEYS p)) (16 * a) 12
def State.portAlloc (s : State) (p c : Nat) : Nat := bitsOf (s.rd64 (FAB_PORT_ALLOC p)) (8 * c) 8 * 64
def State.portBuffer (s : State) : Nat := if s.eightLane then 16384 else 8192

/-- The fabric is enabled and its block line is not latched (R425). -/
def State.fabEn (s : State) : Bool := s.bit FAB_CTL FAB_CTL_EN && !s.blockDown 11

/-- The port carries traffic: UP or DEGRADED. -/
def State.portLive (s : State) (p : Nat) : Bool := (s.portState p == 2 || s.portState p == 3) && !s.blockDown 11

def State.isEth (s : State) (p : Nat) : Bool := s.portMode p == 1 || s.portMode p == 2

/-- Cells that `n` frame bytes take (R189). -/
def cellsFor (n : Nat) : Nat := (n + 61) / 62

/-- Cells, or 64-byte units, of a class that stand in the receive buffer. -/
def FPort.used (f : FPort) (c : Nat) : Nat :=
  (f.rxq ++ f.stalled).foldl (fun n e => if e.1 = c then n + e.2.2 else n) 0
    + f.rx.foldl (fun n e => if e.1 = c then n + e.2.cells else n) 0

/-- A frame is discarded and counted (R190). -/
def State.discardFrame (s : State) (p : Nat) : State := s.cnt (FAB_PORT_DISCARD p) FAB_PORT_DISCARD_FRAME 1

/-! ### The transmitter (R186, R188, R189, R191, R193) -/

/-- A cell: its two header bytes, then bytes 2 to 63 (R189). -/
def cellOf (b0 b1 : Nat) (body : List Byte) : List Byte := fit 64 (BitVec.ofNat 8 b0 :: BitVec.ofNat 8 b1 :: body)

/-- An idle cell, and a control cell with its CTYPE and content (R189, R192). -/
def idleCell : List Byte := cellOf 0 0 []
def ctlCell (ctype : Nat) (body : List Byte) : List Byte := cellOf 0x80 ctype body

/-- The frame cells of a frame with its CRC (R189, R190): 62 bytes each, SOF on the first and EOF on the last. -/
def frameCells (tc : Nat) (enc : Bool) (bytes : List Byte) : List (List Byte) :=
  let n := cellsFor bytes.length
  (List.range n).map (fun i =>
    let part := (bytes.drop (62 * i)).take 62
    cellOf (0x40 + b2n (i == 0) * 0x20 + b2n (i + 1 == n) * 0x10 + b2n enc * 8 + tc) part.length part)

/-- The codeword control word of a group's SEQ and a position (R186). -/
def ccwOf (seq lpos : Nat) : Nat :=
  let w := seq % 256 * 2 ^ 12 + lpos % 16 * 2 ^ 8
  w + (bitsOf w 16 4 ^^^ bitsOf w 12 4 ^^^ bitsOf w 8 4 ^^^ bitsOf w 4 4)

/-- Cells of a class that the peer's grants still allow (R193). -/
def FPort.credit (f : FPort) (c : Nat) : Nat :=
  let room := (f.granted[c]?.getD 0 + 2 ^ 32 - f.sent[c]?.getD 0) % 2 ^ 32
  if room < 2 ^ 31 then room else 0

/-- A frame of the class is in progress on transmission. -/
def FPort.sending (f : FPort) (c : Nat) : Bool := f.tx.frames.any (fun e => e.1 == c)

/-- The next cell of class `c` leaves. -/
def FPort.takeCell (f : FPort) (c : Nat) : Option (List Byte × FPort) :=
  match f.tx.frames.find? (fun e => e.1 == c) with
  | some (_, cell :: rest) =>
    let others := f.tx.frames.filter (fun e => e.1 != c)
    some (cell, { f with
      sent := f.sent.set c ((f.sent[c]?.getD 0 + 1) % 2 ^ 32)
      tx := { f.tx with
        frames := if rest.isEmpty then others else others ++ [(c, rest)], turn := if c = 7 then f.tx.turn else c } })
  | _ => none

/-- What the next cell slot carries (R191): a control cell that is due, a class-7 cell that holds credit, or a cell of
classes 0 to 6 that holds credit, in round robin; none when only an idle cell is left. -/
def FPort.nextCell (f : FPort) : Option (List Byte × FPort) :=
  match f.tx.due with
  | cell :: rest => some (cell, { f with tx := { f.tx with due := rest } })
  | [] =>
    match (7 :: (List.range 7).map (fun i => (f.tx.turn + 1 + i) % 7)).find? (fun c => f.sending c && decide (f.credit c > 0)) with
    | some c => f.takeCell c
    | none => none

/-- The cells that leave before the first idle cell. -/
def runCells : Nat → FPort → List (List Byte) × FPort
  | 0, f => ([], f)
  | k + 1, f =>
    match f.nextCell with
    | none => ([], f)
    | some (cell, f) => let (rest, f) := runCells k f; (cell :: rest, f)

/-- Cells that wait at the transmitter. -/
def FPort.backlog (f : FPort) : Nat := f.tx.due.length + (f.tx.frames.map (fun e => e.2.length)).foldl (· + ·) 0

/-- A cell stream in codeword groups (R188): cell k of a group goes to position k mod W, slot k div W; a last group that
is not full ends with idle cells. `lanes` are the lanes of the positions, `seq` the first group's number, `spare` the
standby spare, which sends LPOS 0xF. -/
def striped (lanes : List Nat) (spare : Option Nat) (seq : Nat) (cells : List (List Byte)) : List (Nat × Nat × List (List Byte)) :=
  let w := lanes.length
  let n := if w = 0 then 0 else (cells.length + 10 * w - 1) / (10 * w)
  (List.range n).flatMap (fun g =>
    (lanes.zipIdx).map (fun e => (e.1, ccwOf (seq + g) e.2,
      (List.range 10).map (fun k => cells[g * 10 * w + k * w + e.2]?.getD idleCell)))
    ++ spare.toList.map (fun l => (l, ccwOf (seq + g) 0xF, List.replicate 10 idleCell)))

/-- The group number that a port's lanes have reached: groups of idle cells only are not kept, so the number is a free
value, fresh for each burst of cells. (Log entry 90: DESIGN CHOICE, safe.) -/
def State.groupSeq (s : State) (p : Nat) : Nat :=
  (Config.freeValue 8 (2 ^ 220 + (s.boots * 32 + p) * 2 ^ 64 + (s.fp p).tx.line.length)).toNat

/-- What the port has to send leaves its lanes (R188, R191): the cells up to the first idle one, in codeword groups. Before
a lane map is in force every position is on its own lane. (Log entry 102: DESIGN CHOICE, unsafe.) -/
def State.transmit (s : State) (p : Nat) : State :=
  let (cells, f) := runCells (s.fp p).backlog (s.fp p)
  if s.safe || cells.isEmpty then s
  else
    let ks := if f.map.isEmpty then List.range s.portWidth else f.map
    let spare := if s.bit (FAB_LANE_STATUS (s.laneNum p 8)) FAB_LANE_STATUS_TRAINED && !ks.contains 8 then
      some (s.laneNum p 8) else none
    let out := striped (ks.map (s.laneNum p)) spare (s.groupSeq p) cells
    s.setFp p { f with tx := { f.tx with line := f.tx.line ++ out } }

/-- A control cell goes out (R191, R192). -/
def State.sendCtl (s : State) (p ctype : Nat) (body : List Byte) : State :=
  let f := s.fp p
  ((s.setFp p { f with tx := { f.tx with due := f.tx.due ++ [ctlCell ctype body] } }).emit
    (.control p ctype (leNat body))).transmit p

/-- A change of STATE: EVT_LINK, and a report when the port is DEGRADED, DOWN or TRAIN_FAIL (R205). -/
def State.setPortState (s : State) (p st : Nat) : State :=
  let old := s.portState p
  if old = st then s
  else
    let s := s.sf (FAB_PORT_STATUS p) FAB_PORT_STATUS_STATE st
    let s := s.event 0x0087 (leBytes 1 p ++ leBytes 1 old ++ leBytes 1 st
      ++ leBytes 1 (s.gf (FAB_PORT_STATUS p) FAB_PORT_STATUS_PAUSE_STUCK))
    if st = 3 ∨ st = 4 ∨ st = 5 then s.fault 0x0C p st else s

/-! ### Lane maps and sparing (R195 to R198) -/

/-- FAB_LANE_STATUS of a lane: PORT and LPOS. -/
def State.setLanePos (s : State) (l port lpos : Nat) : State :=
  (s.sf (FAB_LANE_STATUS l) FAB_LANE_STATUS_PORT port).sf (FAB_LANE_STATUS l) FAB_LANE_STATUS_LPOS lpos

/-- Physical lane `k` of the port is marked failed. -/
def State.laneFailed (s : State) (p k : Nat) : Bool := bitAt (s.gf (FAB_PORT_STATUS p) FAB_PORT_STATUS_FAILED) k

/-- Set or clear a lane's FAILED bits. -/
def State.markLane (s : State) (p k : Nat) (b : Bool) : State :=
  let s := s.sf (FAB_PORT_STATUS p) FAB_PORT_STATUS_FAILED
    (bitsPut (s.gf (FAB_PORT_STATUS p) FAB_PORT_STATUS_FAILED) k 1 (b2n b))
  s.sf (FAB_LANE_STATUS (s.laneNum p k)) FAB_LANE_STATUS_FAILED (b2n b)

/-- The port's map, or the one announced for it, holds physical lane `k`. -/
def FPort.holds (f : FPort) (k : Nat) : Bool := f.map.contains k || f.newMap.any (fun m => m.lanes.contains k)

/-- The standby lane available to the port: trained, not failed, in no map and no announced one (R197, R198); an Ethernet
port has no sparing (R203). -/
def State.standby (s : State) (p : Nat) : Option Nat :=
  if s.isEth p then none
  else ((List.range s.portWidth) ++ [8]).find? (fun k =>
    !(s.fp p).holds k && !s.laneFailed p k
      && s.bit (FAB_LANE_STATUS (s.laneNum p k)) FAB_LANE_STATUS_TRAINED
      && (k != 8 || (match s.sharer p with | some o => !(s.fp o).holds 8 | none => true)))

/-- Bring SPARE_IN_USE and SPARE_READY of the port and its sharer in line. -/
def State.showSpare1 (s : State) (p : Nat) : State :=
  let s := s.sf (FAB_PORT_STATUS p) FAB_PORT_STATUS_SPARE_IN_USE (b2n ((s.fp p).map.contains 8))
  s.sf (FAB_PORT_STATUS p) FAB_PORT_STATUS_SPARE_READY (b2n (s.portLive p && (s.standby p).isSome))

def State.showSpare (s : State) (p : Nat) : State :=
  match s.sharer p with
  | some o => (s.showSpare1 p).showSpare1 o
  | none => s.showSpare1 p

/-- Put a map in force: positions, LPOS, width and the STATE that the width gives (R198). A lane that the map brings back
is no longer failed; a lane replaced by a standby is reported (R205). -/
def State.adoptMap (s : State) (p : Nat) (id : Nat) (m : List Nat) : State :=
  let old := (s.fp p).map
  let s := old.foldl (fun s k => s.setLanePos (s.laneNum p k) 0xFF 0xF) s
  let s := m.foldl (fun s k => if s.laneFailed p k then s.markLane p k false else s) s
  let s := (m.zipIdx).foldl (fun s e => s.setLanePos (s.laneNum p e.1) p e.2) s
  let s := s.setFp p { s.fp p with map := m, newMap := none, skew := [] }
  let s := (s.sf (FAB_PORT_STATUS p) FAB_PORT_STATUS_MAP_ID id).sf (FAB_PORT_STATUS p) FAB_PORT_STATUS_WIDTH m.length
  let w := s.portWidth
  let s := match old.find? (fun k => !m.contains k) with
    | some k => if m.any (fun x => !old.contains x) then s.fault 0x0B (s.laneNum p k) p else s
    | none => s
  let st : Nat := if m.length = w then 2 else if 2 * m.length ≥ w then 3 else 4
  let s := if st = 4 then s.setFp p { s.fp p with downAt := s.clock } else s
  (s.setPortState p st).showSpare p

/-- The content of a control cell that carries a map (R192), and the number it makes. -/
def mapBytes (m : NewMap) : List Byte :=
  [BitVec.ofNat 8 m.mapId] ++ (List.range 8).map (fun i => BitVec.ofNat 8 (m.lanes[i]?.getD 0xFF))
    ++ [BitVec.ofNat 8 m.switchSeq]
def mapContent (m : NewMap) : Nat := leNat (mapBytes m)

def State.sendMap (s : State) (p : Nat) (m : NewMap) : State := s.sendCtl p 2 (mapBytes m)

/-- The map that follows from the failed lanes: a standby lane at each failed position where one is ready, else the
positions close up (R197). -/
def State.repairedMap (s : State) (p : Nat) (useSpare : Bool) : List Nat :=
  let m := (s.fp p).map
  match m.find? (fun k => s.laneFailed p k), (if useSpare then s.standby p else none) with
  | some bad, some sp => (m.map (fun k => if k = bad then sp else k)).filter (fun k => !s.laneFailed p k)
  | _, _ => m.filter (fun k => !s.laneFailed p k)

/-- Announce a new map (R197): MAP_ID + 1, SWITCH_SEQ the current SEQ + 64. The current SEQ is a free value: the model
does not run the codeword clock. (Log entry 90: DESIGN CHOICE, safe.) -/
def State.announce (s : State) (p : Nat) (lanes : List Nat) : State :=
  let seq := ((s.fresh 8).toNat + 64) % 256
  let s := s.tick
  let m : NewMap := ⟨(s.gf (FAB_PORT_STATUS p) FAB_PORT_STATUS_MAP_ID + 1) % 256, lanes, seq, s.clock, false⟩
  (s.setFp p { s.fp p with newMap := some m }).sendMap p m

/-- After a switch, lanes that failed meanwhile are closed up by another map (R206), and a lane that became ready
meanwhile joins a port below full width (R198). -/
def State.remap (s : State) (p : Nat) : State :=
  if !s.portLive p || (s.fp p).newMap.isSome then s
  else if (s.fp p).map.any (fun k => s.laneFailed p k) then s.announce p (s.repairedMap p true)
  else if (s.fp p).map.length < s.portWidth then
    match s.standby p with
    | some k => s.announce p ((s.fp p).map ++ [k])
    | none => s
  else s

/-- R197: a lane that has lost lock for 1 µs, or shows more than FAIL_UCW uncorrectable codewords in 1 ms, fails. -/
def State.failLane (s : State) (p k : Nat) : State :=
  let s := s.markLane p k true
  if (s.fp p).map.contains k then s.remap p else s.showSpare p

/-- The ports that a lane may serve, with its physical number there. -/
def State.lanePorts (s : State) (l : Nat) : List (Nat × Nat) :=
  if l < 128 then [(l / s.portWidth, l % s.portWidth)]
  else if s.eightLane then [(l - 128, 8)]
  else [(2 * (l - 128), 8), (2 * (l - 128) + 1, 8)]

def execLaneFailed (lane : Fin 144) (s : State) : Res :=
  let r := s.laneOf lane
  let lost := !s.bit (FAB_LANE_STATUS lane) FAB_LANE_STATUS_LOCK && decide (s.clock - r.lostAt ≥ nsCycles 1000)
  if lost || decide (r.ucw > s.gf FAB_CTL FAB_CTL_FAIL_UCW) then
    ok ((s.lanePorts lane).foldl (fun s e =>
      if s.portLive e.1 && !s.isEth e.1 && !s.laneFailed e.1 e.2 then s.failLane e.1 e.2 else s) s)
  else ok s

/-- R197: the map is repeated every 1 µs until echoed; 10 µs without an echo closes up the positions alone. -/
def execLaneMapRepeat (p : Fin 32) (s : State) : Res :=
  match (s.fp p).newMap with
  | some m =>
    if m.echoed || !s.portLive p then ok s
    else if s.clock - m.sentAt ≥ nsCycles 10000 then ok (s.adoptMap p m.mapId (s.repairedMap p false))
    else ok (s.sendMap p m)
  | none => ok s

/-- R197: codeword group SWITCH_SEQ: the announced and echoed map is adopted. -/
def execLaneMapSwitch (p : Fin 32) (s : State) : Res :=
  match (s.fp p).newMap with
  | some m => if m.echoed && s.portLive p then ok ((s.adoptMap p m.mapId m.lanes).remap p) else ok s
  | none => ok s

/-- The lanes that train with a port: its own, and the spare unless the port that shares it carries traffic. -/
def State.trainLanes (s : State) (p : Nat) : List Nat :=
  List.range s.portWidth ++ (if (s.sharer p).any s.portLive then [] else [8])

/-- A physical lane starts afresh. -/
def State.trainLane (s : State) (l : Nat) : State :=
  (s.wr (FAB_LANE_STATUS l) (regReset (FAB_LANE_STATUS l))).setLane l LaneRx.reset

/-- A port as its training starts. -/
def FPort.training (f : FPort) (clock : Nat) : FPort :=
  { f with caps := none, map := [], newMap := none, rx := [], skew := [], retrain := [], trainAt := clock,
           tx := { f.tx with due := [], frames := [] } }

/-- What this end tells the other in CAPS (R196). -/
def State.capsData (s : State) (p : Nat) : List Byte :=
  leBytes 1 (b2n s.eightLane) ++ leBytes 1 (b2n (s.portEnc p)) ++ beBytes 8 (s.rd64 FAB_NODE_ID) ++ leBytes 1 p

/-- Start training every lane and the spare (R195). CAPS is sent as the lanes come up. (Log entry 98: DESIGN CHOICE,
unsafe.) -/
def State.startTraining (s : State) (p : Nat) : State :=
  let s := (s.trainLanes p).foldl (fun (s : State) k => s.trainLane (s.laneNum p k)) s
  let s := s.setFp p ((s.fp p).training s.clock)
  let s := s.sf (FAB_PORT_STATUS p) FAB_PORT_STATUS_WIDTH 0
  let s := s.sf (FAB_PORT_STATUS p) FAB_PORT_STATUS_FAILED 0
  let s := (s.setPortState p 1).showSpare p
  if s.isEth p then s else s.sendCtl p 4 (s.capsData p)

/-- The CREDIT cell of the port: eight cumulative counts in network byte order (R192). -/
def State.sendCredit (s : State) (p : Nat) : State :=
  let f := s.fp p
  (s.setFp p { f with freed := List.replicate 8 0, creditAt := s.clock }).sendCtl p 1
    (f.grants.flatMap (fun g => beBytes 4 g))

/-- The lanes of a port, and its spare where it has one, are trained and in lock (R195, steps 3 and 4). -/
def State.lanesTrained (s : State) (p : Nat) (spare : Bool) : State :=
  (List.range s.portWidth ++ (if spare && !s.isEth p then [8] else [])).foldl (fun s k =>
    let l := s.laneNum p k
    (s.sf (FAB_LANE_STATUS l) FAB_LANE_STATUS_TRAINED 1).sf (FAB_LANE_STATUS l) FAB_LANE_STATUS_LOCK 1) s

/-- A port as it comes up with `w` lanes: its grants are the first allocations. -/
def FPort.up (f : FPort) (w : Nat) (grants : List Nat) : FPort :=
  { f with lastPeer := f.caps.map (fun c => (c.node, c.port)) <|> f.lastPeer, map := List.range w, newMap := none,
           granted := List.replicate 8 0, sent := List.replicate 8 0, grants := grants, freed := List.replicate 8 0,
           rx := [], skew := [], paused := List.replicate 8 0, pausedSince := List.replicate 8 0, pfc := [],
           tx := { f.tx with due := [], frames := [] } }

/-- The other end is another port than the last time. -/
def FPort.peerChanged (f : FPort) : Bool :=
  match f.lastPeer, f.caps with
  | some a, some c => a != (c.node, c.port)
  | _, _ => false

/-- The port comes up (R195, R196): credit counts, the lane map and MAP_ID start afresh. -/
def State.linkUp (s : State) (p : Nat) : State :=
  let w := s.portWidth
  let changed := (s.fp p).peerChanged
  let s := s.setFp p ((s.fp p).up w ((List.range 8).map (s.portAlloc p)))
  let s := (List.range w).foldl (fun (s : State) k => s.setLanePos (s.laneNum p k) p k) s
  let s := if changed then s.sf (FAB_PORT_STATUS p) FAB_PORT_STATUS_PEER_CHANGED 1 else s
  let s := (s.sf (FAB_PORT_STATUS p) FAB_PORT_STATUS_MAP_ID 0).sf (FAB_PORT_STATUS p) FAB_PORT_STATUS_WIDTH w
  let s := (s.setPortState p 2).showSpare p
  if s.isEth p then s else s.sendCredit p

/-- The peer's CAPS agree with this end (R196). -/
def State.capsAgree (s : State) (p : Nat) (c : Caps) : Bool := c.eightLane == s.eightLane && c.enc == s.portEnc p

/-- A retrained lane rejoins through a new map when the port is below full width, else it becomes the standby (R198). -/
def State.rejoin (s : State) (p k : Nat) : State :=
  let l := s.laneNum p k
  let s := s.markLane p k false
  let s := (s.sf (FAB_LANE_STATUS l) FAB_LANE_STATUS_TRAINED 1).sf (FAB_LANE_STATUS l) FAB_LANE_STATUS_LOCK 1
  let s := (s.setLane l LaneRx.reset).showSpare p
  if (s.fp p).map.length < s.portWidth && (s.fp p).newMap.isNone then s.announce p ((s.fp p).map ++ [k]) else s

/-- R196: a port whose ends agree comes up; one whose ends differ stays in TRAINING. -/
def State.comesUp (s : State) (p : Nat) (agree : Bool) : State := if agree then s.linkUp p else s

/-- R195: equalisation, lock, deskew and CAPS are complete; on a port that carries traffic, the next failed lane has
retrained (R198). (Log entry 98: DESIGN CHOICE, unsafe.) -/
def State.portUp (s : State) (p : Nat) (spare : Bool) : State :=
  let caps := match (s.fp p).caps with
    | some c => s.capsAgree p c
    | none => false
  if s.portState p = 1 ∧ s.portEn p then (s.lanesTrained p spare).comesUp p (s.isEth p || caps)
  else if s.portLive p then
    match (s.fp p).retrain with
    | k :: rest => (s.setFp p { s.fp p with retrain := rest }).rejoin p k
    | [] => s
  else s

/-- R195: not UP within 500 ms. (Log entry 98: DESIGN CHOICE, unsafe.) -/
def execTrainFail (p : Fin 32) (s : State) : Res :=
  if s.portState p = 1 ∧ s.clock - (s.fp p).trainAt ≥ nsCycles 500000000 then ok ((s.setFp p { s.fp p with downAt := s.clock }).setPortState p 5) else ok s

/-- R195, R198: a port that is DOWN, or has failed to train, trains again 1 s later while EN is one. -/
def execPortDownRetrain (p : Fin 32) (s : State) : Res :=
  if s.portEn p ∧ (s.portState p = 4 ∨ s.portState p = 5) ∧ s.clock - (s.fp p).downAt ≥ nsCycles 1000000000 then
    ok (s.startTraining p)
  else ok s

/-! ### PFC (R204) -/

/-- Free space of a priority in 64-byte units. -/
def State.ethFree (s : State) (p c : Nat) : Nat := s.portAlloc p c - (s.fp p).used c

/-- Send a PFC frame for one priority: the enable vector and the quanta (802.1Qbb). -/
def State.sendPfc (s : State) (p c quanta : Nat) : State := s.emit (.control p 0x101 (2 ^ c + quanta * 2 ^ 16))

/-- PFC follows the free space: asserted below HEADROOM, released at twice HEADROOM. -/
def State.pfcUpdate (s : State) (p c : Nat) : State :=
  let h := s.gf (FAB_PORT_PFC p) FAB_PORT_PFC_HEADROOM
  let f := s.fp p
  if !s.isEth p then s
  else if s.ethFree p c < h then
    if f.pfc.contains c then s else (s.setFp p { f with pfc := insertKey f.pfc c, pfcAt := s.clock }).sendPfc p c 0xFFFF
  else if f.pfc.contains c && s.ethFree p c ≥ 2 * h then
    (s.setFp p { f with pfc := eraseKey f.pfc c }).sendPfc p c 0
  else s

/-! ### Credit (R193, R194) -/

/-- A frame leaves the receive buffer: its class is granted its cells again, and a CREDIT goes out when more than one
eighth of the allocation has been freed since the last (R193); an Ethernet port looks at its PFC (R204). -/
def State.freeCells (s : State) (p c n : Nat) : State :=
  let f := s.fp p
  let add (l : List Nat) := l.set c ((l[c]?.getD 0 + n) % 2 ^ 32)
  let s := s.setFp p { f with grants := add f.grants, freed := add f.freed }
  if s.isEth p then s.pfcUpdate p c
  else if s.portLive p && decide ((s.fp p).freed[c]?.getD 0 * 8 > s.portAlloc p c) then s.sendCredit p
  else s

/-- R193: CREDIT is sent. -/
def execCreditSend (p : Fin 32) (s : State) : Res :=
  if s.portLive p && !s.isEth p then ok (s.sendCredit p) else ok s

/-- R193: the peer's cumulative grants. -/
def State.gotCredit (s : State) (p : Nat) (counts : List Nat) : State :=
  (s.setFp p { s.fp p with granted := counts }).transmit p

/-- R204: repeated every 40 µs while the space stays below HEADROOM. -/
def execPfcRepeat (p : Fin 32) (s : State) : Res :=
  if s.portLive p && s.isEth p && decide (s.clock - (s.fp p).pfcAt ≥ nsCycles 40000) then
    let h := s.gf (FAB_PORT_PFC p) FAB_PORT_PFC_HEADROOM
    let l := (s.fp p).pfc.filter (fun c => decide (s.ethFree p c < h))
    ok (l.foldl (fun s c => s.sendPfc p c 0xFFFF) (s.setFp p { s.fp p with pfcAt := s.clock }))
  else ok s

/-- Priority `c` may start a frame: no pause of it runs (R204). -/
def State.ethMayStart (s : State) (p c : Nat) : Bool := decide ((s.fp p).paused[c]?.getD 0 ≤ s.clock)

/-- R204: a received PFC frame; quanta q pause the priority for q × 1.28 ns. -/
def execPfcFrame (p : Fin 32) (enable : Byte) (quanta : Vector W16 8) (s : State) : Res :=
  if s.portLive p && s.isEth p then
    ok ((List.range 8).foldl (fun s c =>
      if bitAt enable.toNat c then
        let q := (quanta[c]?.getD 0).toNat
        let f := s.fp p
        if q = 0 then s.setFp p { f with paused := f.paused.set c 0 }
        else
          let since := if s.ethMayStart p c then s.clock else f.pausedSince[c]?.getD 0
          s.setFp p { f with paused := f.paused.set c (s.clock + (q + 4) / 5 + 1), pausedSince := f.pausedSince.set c since }
      else s) s)
  else ok s

/-- R204: the pause time ends. -/
def execPauseExpiry (p : Fin 32) (c : Fin 8) (s : State) : Res :=
  let t := (s.fp p).paused[c.val]?.getD 0
  if t ≠ 0 ∧ t ≤ s.clock + 1 then ok (s.setFp p { s.fp p with paused := (s.fp p).paused.set c 0 }) else ok s

/-- R204: a priority paused without a break for more than 100 ms. -/
def execPauseStuck (p : Fin 32) (c : Fin 8) (s : State) : Res :=
  if s.isEth p && !s.ethMayStart p c && decide (s.clock - (s.fp p).pausedSince[c.val]?.getD 0 > nsCycles 100000000) then
    let s := s.sf (FAB_PORT_STATUS p) FAB_PORT_STATUS_PAUSE_STUCK 1
    ok (s.event 0x0087 (leBytes 1 p ++ leBytes 1 (s.portState p) ++ leBytes 1 (s.portState p) ++ leBytes 1 1))
  else ok s

/-! ### Frames (R190, R199 to R202) -/

/-- The GCM IV of a transmitting end (R200). (Log entry 92: DEDUCED, unsafe.) -/
def linkIv (node port pn : Nat) : List Byte := leBytes 4 (node % 2 ^ 32) ++ leBytes 1 port ++ [0] ++ beBytes 6 pn

/-- An accepted frame enters the receive buffer. -/
def State.deliver (s : State) (p tc : Nat) (content : List Byte) (cells : Nat) : State :=
  s.setFp p { s.fp p with rxq := (s.fp p).rxq ++ [(tc, content, cells)] }

/-- A frame that leaves the buffer at once, discarded. -/
def State.dropFrame (s : State) (p tc cells : Nat) : State := (s.discardFrame p).freeCells p tc cells

/-- Decrypt a frame by R201. A frame whose slot has a load or clear pending waits (R309). (Log entries 93: DEDUCED,
unsafe; 97: DEDUCED, unsafe.) -/
def State.openFrame (s : State) (p tc : Nat) (content : List Byte) (cells : Nat) : State :=
  let f := s.fp p
  let an := (content[0]?.getD 0).toNat % 4
  let pn := beNat ((content.drop 2).take 6)
  let rx := s.rxAn p
  let k := s.portKey p an
  let n := content.length - 24
  if !(an == rx || an == (rx + 1) % 4) then s.dropFrame p tc cells
  else if pn ≤ f.rxPn[an]?.getD 0 then s.dropFrame p tc cells
  else if s.slotPending k then s.setFp p { f with stalled := f.stalled ++ [(tc, content, cells)] }
  else if !s.slotUsable k 2 ownerInternal then s.dropFrame p tc cells
  else
    let c := f.caps.getD ⟨false, false, 0, 0⟩
    match gcmOpen (s.slotKey k) (linkIv c.node c.port pn) (content.take 8 ++ leBytes 1 tc) ((content.drop 8).take n)
        (content.drop (n + 8)) with
    | none => (s.countAuth.cnt (FAB_PORT_DISCARD p) FAB_PORT_DISCARD_AUTH 1).freeCells p tc cells
    | some text =>
      let s := s.setFp p { f with rxPn := f.rxPn.set an pn }
      let s := if an = rx then s else s.sf (FAB_PORT_ENC p) FAB_PORT_ENC_RX_AN an
      s.deliver p tc text cells

/-- A whole frame with its CRC-32 has arrived in `cells` cells (R190, R201). -/
def State.recvFrame (s : State) (p tc : Nat) (enc : Bool) (bytes : List Byte) (cells : Nat) (bad : Bool) : State :=
  match checkCrc bytes with
  | none => s.dropFrame p tc cells
  | some content =>
    let n := content.length
    let lo := if enc then 25 else 1
    let hi := if enc then 4376 else 4352
    if bad ∨ cells > 71 ∨ n < lo ∨ n > hi then s.dropFrame p tc cells
    else if s.portEnc p then
      if enc then s.openFrame p tc content cells else s.dropFrame p tc cells
    else if enc then s.dropFrame p tc cells
    else s.deliver p tc content cells

/-- Serialization time of a frame of `cells` cells in ns, rounded up (R253). -/
def State.serNs (s : State) (p cells : Nat) : Nat :=
  (cells * 4016 + 1000 * max 1 (s.fp p).map.length - 1) / (1000 * max 1 (s.fp p).map.length)

/-- A frame with its CRC is the frame of its class in progress (R190), and its cells leave as credit allows (R191, R193). -/
def State.putFrame (s : State) (p tc : Nat) (enc : Bool) (bytes : List Byte) : State :=
  let f := s.fp p
  let s := s.setFp p { f with tx := { f.tx with frames := f.tx.frames ++ [(tc, frameCells tc enc bytes)] } }
  (s.emit (.frame p tc enc bytes)).transmit p

/-- Cells of a frame with `n` bytes of content on a port (R190, R199). -/
def State.frameSize (s : State) (p n : Nat) : Nat := cellsFor (n + (if s.portEnc p then 28 else 4))

/-- A port takes a frame of a class with `n` bytes of content (R191, R193, R202, R253): none of the class is in progress and a
cell of it holds credit. `gated` traffic needs its class's gate open for the whole frame. -/
def State.frameReady (s : State) (p tc : Nat) (gated : Bool) (n : Nat) : Bool :=
  let f := s.fp p
  s.portLive p && !s.isEth p && !s.safe && !f.sending tc && decide (f.credit tc ≠ 0)
    && !s.bit (FAB_PORT_ENC p) FAB_PORT_ENC_EXHAUSTED
    && (!gated || s.gateOpen p tc s.now (s.serNs p (s.frameSize p n)))

/-- Send a frame's content on a port (R191, R193, R199 to R202, R253): the answer says whether the port took it. -/
def State.sendFrame (s : State) (p tc : Nat) (gated : Bool) (content : List Byte) : Bool × State :=
  let f := s.fp p
  let enc := s.portEnc p
  if !s.frameReady p tc gated content.length then (false, s)
  else
    if !enc then (true, s.putFrame p tc false (withCrc content))
    else
      let an := s.txAn p
      let pn := f.txPn
      let head := leBytes 2 an ++ beBytes 6 pn
      let (ct, tag) := gcmSeal (s.slotKey (s.portKey p an)) (linkIv (s.rd64 FAB_NODE_ID) p pn)
        (head ++ leBytes 1 tc) content
      let s := s.putFrame p tc true (withCrc (head ++ ct ++ tag))
      let s := s.setFp p { s.fp p with txPn := pn + 1 }
      let s := if pn = 2 ^ 47 then
          (s.sf (FAB_PORT_ENC p) FAB_PORT_ENC_REKEY 1).event 0x0086 (leBytes 1 p ++ leBytes 1 0)
        else s
      (true, if pn = 2 ^ 48 - 1 then s.sf (FAB_PORT_ENC p) FAB_PORT_ENC_EXHAUSTED 1 else s)

/-- Take the oldest frame of a class whose content is as asked out of the receive buffer, if one waits. -/
def State.takeWhere (s : State) (p tc : Nat) (is : List Byte → Bool) : State :=
  let f := s.fp p
  let here (e : Nat × List Byte × Nat) : Bool := e.1 == tc && is e.2.1
  match f.rxq.find? here with
  | none => s
  | some e => (s.setFp p { f with rxq := f.rxq.eraseP here }).freeCells p tc e.2.2

/-- Take a frame with this content out of the receive buffer, if one waits. -/
def State.takeFrame (s : State) (p tc : Nat) (content : List Byte) : State := s.takeWhere p tc (fun c => c == content)

/-- Frames that waited for a slot are taken up again (R309). -/
def State.unstall (s : State) (p : Nat) : State :=
  let l := (s.fp p).stalled
  l.foldl (fun s e => s.openFrame p e.1 e.2.1 e.2.2) (s.setFp p { s.fp p with stalled := [] })

/-! ### Control cells (R192, R196, R197) -/

/-- R196: the peer's CAPS while the port trains; a difference is counted. -/
def State.gotCaps (s : State) (p : Nat) (c : Caps) : State :=
  if s.portState p = 1 then
    let f := s.fp p
    s.setFp p { f with caps := some c, mismatches := if s.capsAgree p c then f.mismatches else f.mismatches + 1 }
  else s

def execCaps (p : Fin 32) (form : Byte) (enc : Bool) (node : W64) (port : Byte) (s : State) : Res :=
  if s.isEth p then ok s else ok (s.gotCaps p ⟨form.toNat == 1, enc, node.toNat, port.toNat⟩)

/-- The peer's map is taken and echoed (R197): the lanes it leaves out have failed. -/
def State.followMap (s : State) (p : Nat) (m : NewMap) : State :=
  let s := (s.fp p).map.foldl (fun s k => if m.lanes.contains k then s else s.markLane p k true) s
  (s.setFp p { s.fp p with newMap := some m }).sendMap p m

/-- R197, R206: a received LANE_MAP is an echo, or the peer's own announcement, which is echoed. -/
def State.gotMap (s : State) (p id : Nat) (lanes : List Nat) (seq : Nat) : State :=
  let f := s.fp p
  let theirs : NewMap := ⟨id, lanes, seq, s.clock, true⟩
  match f.newMap with
  | some m =>
    if m.mapId = id then
      if m.lanes = lanes then s.setFp p { f with newMap := some { m with echoed := true } }
      else if (f.caps.getD ⟨false, false, 0, 0⟩).node < s.rd64 FAB_NODE_ID then
        s.followMap p theirs
      else s
    else s
  | none =>
    if id = s.gf (FAB_PORT_STATUS p) FAB_PORT_STATUS_MAP_ID then s.sendMap p theirs
    else s.followMap p theirs

/-- The positions that a LANE_MAP gives, up to the first 0xFF. -/
def mapLanes (l : List Byte) : List Nat := (l.map (·.toNat)).filter (fun k => decide (k ≤ 8))

def execLaneMap (p : Fin 32) (mapId : Byte) (lanes : Vector Byte 8) (switchSeq : Byte) (s : State) : Res :=
  if s.portLive p && !s.isEth p then ok (s.gotMap p mapId.toNat (mapLanes lanes.toList) switchSeq.toNat) else ok s

/-- R202: the peer announces its next AN; RX_AN advances on the first good frame under it (R201). -/
def execKeySwitch (_p : Fin 32) (_an : BitVec 2) (s : State) : Res := ok s

/-- A control cell by its CTYPE and content; one not listed is ignored. -/
def State.controlCell (s : State) (p ctype : Nat) (body : List Byte) : State :=
  if ctype = 1 then s.gotCredit p ((List.range 8).map (fun i => beNat ((body.drop (4 * i)).take 4)))
  else if ctype = 2 then
    s.gotMap p (body[0]?.getD 0).toNat (mapLanes ((body.drop 1).take 8)) (body[9]?.getD 0).toNat
  else if ctype = 4 then
    s.gotCaps p ⟨(body[0]?.getD 0) == 1, (body[1]?.getD 0).toNat % 2 == 1, beNat ((body.drop 2).take 8),
      (body[10]?.getD 0).toNat⟩
  else s

/-! ### Codewords and cells (R186, R188 to R190) -/

/-- One frame cell of class `tc`. -/
def State.frameCell (s : State) (p : Nat) (cell : List Byte) (lost : Bool) : State :=
  let b0 := (cell[0]?.getD 0).toNat
  let len := (cell[1]?.getD 0).toNat
  let tc := b0 % 8
  let f : FPort := s.fp p
  let cur := (f.rx.find? (fun e => e.1 == tc)).map (·.2)
  let others := f.rx.filter (fun e => e.1 != tc)
  let sof := bitAt b0 5
  let eof := bitAt b0 4
  let s : State := match sof, cur with
    | true, some r => (s.setFp p { f with rx := others }).dropFrame p tc r.cells
    | _, _ => s
  let start : Option RxFrame := if sof then some ⟨bitAt b0 3, [], 0, false⟩ else cur
  match start with
  | none => s.discardFrame p
  | some r =>
    let full : Bool := decide (FPort.used (s.fp p) tc ≥ s.portAlloc p tc)
    let wrong := lost || len == 0 || decide (len > 62) || (!eof && decide (len < 62)) || full || decide (r.cells ≥ 71)
    let r : RxFrame := if wrong || r.bad then { r with bad := true }
      else { r with bytes := r.bytes ++ (cell.drop 2).take len, cells := r.cells + 1 }
    if eof then (s.setFp p { s.fp p with rx := others }).recvFrame p tc r.enc r.bytes r.cells r.bad
    else s.setFp p { s.fp p with rx := others ++ [(tc, r)] }

/-- One cell of the port's cell stream. -/
def State.cellIn (s : State) (p : Nat) (cell : List Byte) (lost : Bool) : State :=
  let kind := (cell[0]?.getD 0).toNat / 64
  if kind = 0 then s
  else if kind = 1 then s.frameCell p cell lost
  else if kind = 2 then
    if lost then s else s.controlCell p (cell[1]?.getD 0).toNat (cell.drop 2)
  else s.discardFrame p

/-- A codeword group whose codewords are all here: its cells in stream order (R188). -/
def State.groupIn (s : State) (p w : Nat) (cws : List (Nat × List (List Byte) × Bool)) : State :=
  (List.range (10 * w)).foldl (fun s k =>
    match cws.find? (fun c => c.1 == k % w) with
    | some c => s.cellIn p (c.2.1[k / w]?.getD []) c.2.2
    | none => s) s

/-- Frames in progress when a codeword never came are lost. -/
def State.spoil (s : State) (p : Nat) : State :=
  s.setFp p { s.fp p with rx := (s.fp p).rx.map (fun e => (e.1, { e.2 with bad := true })) }

/-- A codeword of position `pos` joins its group (R188). Groups more than 8 codewords behind are given up. (Log entry
96: DEDUCED, unsafe.) -/
def State.skewIn (s : State) (p seq pos : Nat) (cells : List (List Byte)) (unc : Bool) : State :=
  let f := s.fp p
  let w := f.map.length
  let all := f.skew ++ [(seq, pos, cells, unc)]
  let late := all.filter (fun e => decide ((seq + 256 - e.1) % 256 > 8) && decide ((seq + 256 - e.1) % 256 < 128))
  let kept := all.filter (fun e => !late.contains e)
  let s := if late.isEmpty then s else
    ((s.setFp p { f with skew := kept }).groupIn p w (late.map (fun e => (e.2.1, e.2.2.1, e.2.2.2)))).spoil p
  let here := kept.filter (fun e => e.1 == seq)
  if (List.range w).all (fun i => here.any (fun e => e.2.1 == i)) then
    (s.setFp p { s.fp p with skew := kept.filter (fun e => e.1 != seq) }).groupIn p w
      (here.map (fun e => (e.2.1, e.2.2.1, e.2.2.2)))
  else s.setFp p { s.fp p with skew := kept }

/-- Lock and error counters of a lane (R186, R197). -/
def State.lockStep (s : State) (l : Nat) (good unc : Bool) : State :=
  let r := s.laneOf l
  let times := (s.clock :: r.ucwTimes.filter (fun t => decide (s.clock - t < nsCycles 1000000))).take 256
  let r := if unc then { r with ucwTimes := times, ucw := max r.ucw times.length } else r
  if good then
    let s := s.setLane l { r with good := min 64 (r.good + 1), bad := 0 }
    if r.good + 1 ≥ 64 then s.sf (FAB_LANE_STATUS l) FAB_LANE_STATUS_LOCK 1 else s
  else
    let was := s.bit (FAB_LANE_STATUS l) FAB_LANE_STATUS_LOCK
    let lose := decide (r.bad + 1 ≥ 8)
    let s := s.setLane l { r with good := 0, bad := min 8 (r.bad + 1), lostAt := if lose && was then s.clock else r.lostAt }
    if lose then s.sf (FAB_LANE_STATUS l) FAB_LANE_STATUS_LOCK 0 else s

/-- R186, R188: a codeword arrives on a lane. (Log entry 96: DEDUCED, unsafe.) -/
def State.codewordIn (s : State) (lane c : Nat) (uncorrectable : Bool) (corrected : Nat) (cells : List (List Byte)) :
    State :=
  let chk := bitsOf c 16 4 ^^^ bitsOf c 12 4 ^^^ bitsOf c 8 4 ^^^ bitsOf c 4 4
  let good := !uncorrectable && chk == c % 16
  let port := s.gf (FAB_LANE_STATUS lane) FAB_LANE_STATUS_PORT
  if s.isEth port && s.portLive port then s
  else
    let s := if uncorrectable then s.cnt (FAB_LANE_FEC lane) FAB_LANE_FEC_UCW 1
      else s.cnt (FAB_LANE_FEC lane) FAB_LANE_FEC_CORR corrected
    let s := s.lockStep lane good uncorrectable
    let pos := s.gf (FAB_LANE_STATUS lane) FAB_LANE_STATUS_LPOS
    let lock := s.bit (FAB_LANE_STATUS lane) FAB_LANE_STATUS_LOCK
    if port = 0xFF ∨ !s.portLive port ∨ pos = 0xF ∨ !lock then s
    else if good && bitsOf c 8 4 != pos then
      let s := s.sf (FAB_LANE_STATUS lane) FAB_LANE_STATUS_LOCK 0
      s.setLane lane { s.laneOf lane with good := 0, lostAt := s.clock }
    else if good || uncorrectable then
      s.skewIn port (bitsOf c 12 8) pos ((List.range 10).map (fun i => fit 64 (cells[i]?.getD []))) uncorrectable
    else s

/-! ### Writes of the FAB registers (R207) -/

/-- FAB_CTL: FORM changes while EN is zero; setting EN runs the check; clearing it needs every port disabled. -/
def writeFabCtl (q : Requester) (v : W32) (s : State) : State :=
  if !coreWrites q then s
  else
    let w := v.toNat
    let s := s.sf FAB_CTL FAB_CTL_FAIL_UCW (bitsOf w 8 8)
    let en := s.bit FAB_CTL FAB_CTL_EN
    let s := if en then s else s.sf FAB_CTL FAB_CTL_FORM (bitsOf w 1 1)
    if bitAt w 0 && !en then
      if s.rd64 FAB_NODE_ID = 0 then s.sf FAB_CTL FAB_CTL_REFUSAL 0x0680
      else (s.sf FAB_CTL FAB_CTL_REFUSAL 0).sf FAB_CTL FAB_CTL_EN 1
    else if !bitAt w 0 && en then
      if (List.range 32).any (fun p => s.portEn p) then s else s.sf FAB_CTL FAB_CTL_EN 0
    else s

def execFabEnSet (q : Requester) (v : W32) (s : State) : Res := ok (writeFabCtl q (v ||| 1) s)
def execFabEnClear (q : Requester) (v : W32) (s : State) : Res := ok (writeFabCtl q (v &&& ~~~1#32) s)

/-- One half of FAB_NODE_ID. -/
def writeFabNodeId (q : Requester) (hi : Bool) (v : W32) (s : State) : State :=
  if coreWrites q && !s.bit FAB_CTL FAB_CTL_EN then s.wr (if hi then FAB_NODE_ID + 4 else FAB_NODE_ID) v else s

/-- The consistency code of a port's EN (R207); MODE 3 is reserved and its code is a free value. (Log entry 91:
DESIGN CHOICE, safe.) -/
def State.portCheck (s : State) (p : Nat) : Option Nat :=
  let eth := s.isEth p
  let allocs := (List.range 8).map (fun c => s.portAlloc p c)
  let h := s.gf (FAB_PORT_PFC p) FAB_PORT_PFC_HEADROOM
  let an := s.txAn p
  if !s.fabEn then some 0x0680
  else if allocs.foldl (· + ·) 0 > s.portBuffer ∨ allocs.any (fun a => decide (a < 128)) then some 0x0681
  else if s.portMode p = 3 then some (s.fresh 16).toNat
  else if eth && (decide (p > 7) || s.eightLane) then some 0x0682
  else if eth && s.portEnc p then some 0x0683
  else if s.portEnc p && !(s.slotUsable (s.portKey p an) 2 ownerInternal
      && s.slotUsable (s.portKey p ((an + 1) % 4)) 2 ownerInternal) then some 0x0684
  else if eth && (h == 0 || allocs.any (fun a => decide (h ≥ a))) then some 0x0685
  else none

/-- Set a port's EN (R195): the check, then training. -/
def State.enablePort (s : State) (p : Nat) : Option Nat × State :=
  match s.portCheck p with
  | some c => (some c, (if s.portMode p = 3 then s.tick else s).sf (FAB_PORT_CTL p) FAB_PORT_CTL_REFUSAL c)
  | none =>
    (none, ((s.sf (FAB_PORT_CTL p) FAB_PORT_CTL_REFUSAL 0).sf (FAB_PORT_CTL p) FAB_PORT_CTL_EN 1).startTraining p)

/-- Clear a port's EN (R206): the lanes go quiet and the port is DISABLED. -/
def State.disablePort (s : State) (p : Nat) : State :=
  let s := s.sf (FAB_PORT_CTL p) FAB_PORT_CTL_EN 0
  let f := s.fp p
  let spare : List Nat := match s.sharer p with
    | some o => if s.portEn o then [] else [8]
    | none => [8]
  let s := (List.range s.portWidth ++ spare ++ (if f.map.contains 8 then [8] else [])).foldl (fun (s : State) k =>
    let l := s.laneNum p k
    (s.wr (FAB_LANE_STATUS l) (regReset (FAB_LANE_STATUS l))).setLane l LaneRx.reset) s
  let s := s.setFp p { f with
    map := [], newMap := none, caps := none, rx := [], skew := [], retrain := [],
    paused := List.replicate 8 0, pfc := [], tx := { f.tx with due := [], frames := [] } }
  let s := s.sf (FAB_PORT_STATUS p) FAB_PORT_STATUS_WIDTH 0
  let s := s.sf (FAB_PORT_STATUS p) FAB_PORT_STATUS_FAILED 0
  (s.setPortState p 0).showSpare p

/-- R198: the failed lanes retrain one at a time while the port carries traffic. (Log entry 99: DEDUCED, unsafe.) -/
def State.retrainPort (s : State) (p : Nat) : State :=
  if s.portLive p && !s.isEth p then
    s.setFp p { s.fp p with retrain := (List.range s.portWidth ++ [8]).filter (fun k => s.laneFailed p k) }
  else s

/-- FAB_PORT_CTL. -/
def writeFabPortCtl (q : Requester) (p : Nat) (v : W32) (s : State) : State :=
  if !coreWrites q || !s.portExists p then s
  else
    let w := v.toNat
    let en := s.portEn p
    let s := if en then s else s.sf (FAB_PORT_CTL p) FAB_PORT_CTL_MODE (bitsOf w 8 2)
    let s := if bitAt w 1 && en then s.retrainPort p else s
    if bitAt w 0 && !en then (if s.safe then s else (s.enablePort p).2)
    else if !bitAt w 0 && en then (if s.safe then s.sf (FAB_PORT_CTL p) FAB_PORT_CTL_EN 0 else s.disablePort p)
    else s

def execPortEnable (q : Requester) (p : Fin 32) (v : W32) (s : State) : Res := ok (writeFabPortCtl q p (v ||| 1) s)
def execPortDisable (q : Requester) (p : Fin 32) (v : W32) (s : State) : Res :=
  ok (writeFabPortCtl q p (v &&& ~~~1#32) s)
def execRetrain (q : Requester) (p : Fin 32) (v : W32) (s : State) : Res := ok (writeFabPortCtl q p (v ||| 2) s)

/-- FAB_PORT_STATUS: its RW1C bits. -/
def writeFabPortStatus (q : Requester) (p : Nat) (v : W32) (s : State) : State :=
  if coreWrites q && s.portExists p then
    s.wr (FAB_PORT_STATUS p) (s.rd (FAB_PORT_STATUS p) &&& ~~~(v &&& 0x00300000#32))
  else s

/-- FAB_PORT_ALLOC, one half. -/
def writeFabPortAlloc (q : Requester) (p : Nat) (hi : Bool) (v : W32) (s : State) : State :=
  if coreWrites q && s.portExists p && !s.portEn p then s.wr (FAB_PORT_ALLOC p + (if hi then 4 else 0)) v else s

/-- FAB_PORT_PFC. -/
def writeFabPortPfc (q : Requester) (p : Nat) (v : W32) (s : State) : State :=
  if coreWrites q && s.portExists p && !s.portEn p then s.wr (FAB_PORT_PFC p) (v &&& 0xFFFF#32) else s

/-- FAB_PORT_KEYS, one half: governed by the port EN, but for the slot of an AN that is neither TX_AN nor RX_AN. -/
def writeFabPortKeys (q : Requester) (p : Nat) (hi : Bool) (v : W32) (s : State) : State :=
  if coreWrites q && s.portExists p then
    [0, 1].foldl (fun s i =>
      let a := (if hi then 2 else 0) + i
      if s.portEn p && (!s.portLive p || a == s.txAn p || a == s.rxAn p) then s
      else s.wr64 (FAB_PORT_KEYS p) (bitsPut (s.rd64 (FAB_PORT_KEYS p)) (16 * a) 12 (bitsOf v.toNat (16 * i) 12))) s
  else s

/-- Move the transmitter to the next AN (R202): KEY_SWITCH, then PN from 1. -/
def State.switchKey (s : State) (p : Nat) : State :=
  let an := (s.txAn p + 1) % 4
  let s := s.sendCtl p 3 (leBytes 1 an)
  let s := s.setFp p { s.fp p with txPn := 1 }
  (s.sf (FAB_PORT_ENC p) FAB_PORT_ENC_TX_AN an).sf (FAB_PORT_ENC p) FAB_PORT_ENC_EXHAUSTED 0

/-- FAB_PORT_ENC: SWITCH acts while the port carries traffic with encryption on; EN changes while the port is disabled.
(Log entry 95: DEDUCED, unsafe.) -/
def writeFabPortEnc (q : Requester) (p : Nat) (v : W32) (s : State) : State :=
  if coreWrites q && s.portExists p then
    let w := v.toNat
    let s := if s.portEn p then s else s.sf (FAB_PORT_ENC p) FAB_PORT_ENC_EN (bitsOf w 30 1)
    let s := if bitAt w 25 then s.sf (FAB_PORT_ENC p) FAB_PORT_ENC_REKEY 0 else s
    if bitAt w 31 && s.portEnc p && s.portLive p then s.switchKey p else s
  else s

def execEncSwitch (q : Requester) (p : Fin 32) (v : W32) (s : State) : Res :=
  ok (writeFabPortEnc q p (v ||| 0x80000000#32) s)

/-! ### Syncen operations (R208); domain 17 carries them (R376) -/

def domLink : Option Nat := some 17

/-- R207, R208. (Log entry 311: DESIGN CHOICE, unsafe.) -/
def execSynLinkPortSet (r : SynReq) (p : Fin 32) (mode : BitVec 2) (enc : Bool) (alloc : W64) (headroom : W16)
    (keys : Vector (BitVec 12) 4) (s : State) : Res :=
  ok (s.syn 0x0800 domLink r fun s =>
    if !s.portExists p then refuse s 0x0102
    else if s.portEn p then refuse s 0x0209
    else
      let s := s.sf (FAB_PORT_CTL p) FAB_PORT_CTL_MODE mode.toNat
      let s := s.sf (FAB_PORT_ENC p) FAB_PORT_ENC_EN (b2n enc)
      let s := s.wr64 (FAB_PORT_ALLOC p) alloc.toNat
      let s := s.sf (FAB_PORT_PFC p) FAB_PORT_PFC_HEADROOM headroom.toNat
      let s := s.wr64 (FAB_PORT_KEYS p)
        ((keys.toList.zipIdx).foldl (fun n e => n + e.1.toNat * 2 ^ (16 * e.2)) 0)
      match s.enablePort p with
      | (some c, s) => refuse s c
      | (none, s) => success s)

/-- R206, R208. -/
def execSynLinkPortDisable (r : SynReq) (p : Fin 32) (s : State) : Res :=
  ok (s.syn 0x0801 domLink r fun s => success (if s.portEn p then s.disablePort p else s))

/-- R202, R208. An Ethernet port has no link encryption (R203). (Log entry 311: DESIGN CHOICE, unsafe.) -/
def execSynLinkKeySwitch (r : SynReq) (p : Fin 32) (slot : BitVec 12) (s : State) : Res :=
  ok (s.syn 0x0802 domLink r fun s =>
    if !s.slotUsable slot.toNat 2 ownerInternal then refuse s 0x0401
    else if !s.portLive p || s.isEth p then refuse s 0x0209
    else
      let a := (s.txAn p + 1) % 4
      success ((s.wr64 (FAB_PORT_KEYS p) (bitsPut (s.rd64 (FAB_PORT_KEYS p)) (16 * a) 12 slot.toNat)).switchKey p))

/-- R198, R208. -/
def execSynLinkRetrain (r : SynReq) (p : Fin 32) (s : State) : Res :=
  ok (s.syn 0x0803 domLink r fun s => success (s.retrainPort p))

/-- R208: status, discards (without clearing them), the lanes' status and error counts, and the peer's CAPS. (Log
entry 94: DESIGN CHOICE, unsafe.) -/
def execSynLinkQuery (r : SynReq) (p : Fin 32) (s : State) : Res :=
  ok (s.syn 0x0804 domLink r fun s =>
    let c := (s.fp p).caps.getD ⟨false, false, 0, 0⟩
    let lanes := ((List.range s.portWidth) ++ [8]).flatMap (fun k =>
      leBytes 4 (s.rd (FAB_LANE_STATUS (s.laneNum p k))).toNat ++ leBytes 8 (s.rd64 (FAB_LANE_FEC (s.laneNum p k))))
    success s (leBytes 4 (s.rd (FAB_PORT_STATUS p)).toNat ++ leBytes 4 (s.rd (FAB_PORT_DISCARD p)).toNat
      ++ leBytes 1 (b2n c.eightLane) ++ leBytes 1 (b2n c.enc) ++ leBytes 8 c.node ++ leBytes 1 c.port ++ lanes))

end Sys2Proof.Machine
end

