-- ==== Sys2Proof/Machine/Wire.lean ====
section
/-! DEFINITION. Ethernet frames on the wire: their bytes and checksums, MACsec (12_packet_pipeline.md R277, R278) and the
encapsulation of RoCEv2 packets (10_fabric_transport.md R234, R235). -/

namespace Sys2Proof.Machine

/-! ### Bytes of a frame -/

/-- Bytes of a frame from an offset, zeros beyond its end. -/
def frameBytes (f : List Byte) (o n : Nat) : List Byte := fit n (f.drop o)

def frameBE (f : List Byte) (o n : Nat) : Nat := beNat (frameBytes f o n)

/-- Ones'-complement sum of big-endian 16-bit words (an odd last byte padded with zero). -/
def onesSum : List Byte → Nat
  | [] => 0
  | [a] => a.toNat * 256
  | a :: b :: t => a.toNat * 256 + b.toNat + onesSum t
def foldOnes (x : Nat) : Nat :=
  let y := x % 65536 + x / 65536
  let y := y % 65536 + y / 65536
  y % 65536 + y / 65536
def checksum (bs : List Byte) : Nat := 65535 - foldOnes (onesSum bs)

/-! ### MACsec (R277, R278) -/

def msecReset : Nat → MsecPort := fun _ => MsecPort.reset
def State.msecOf (s : State) (p : Nat) : MsecPort := Tab.get msecReset s.pkt.msec p
def State.setMsec (s : State) (p : Nat) (m : MsecPort) : State :=
  { s with pkt := { s.pkt with msec := Tab.set msecReset s.pkt.msec p m } }

/-- The XPN IV: salt exclusive-or SSCI and the 64-bit PN. (Log entry 125: PRESUMED, unsafe.) -/
def msecIv (a : MsecSa) (pn : Nat) : List Byte :=
  List.zipWith (fun x y => x ^^^ y) (fit 12 a.salt) (beBytes 4 a.ssci ++ beBytes 8 pn)

/-- The 64-bit PN that a received low half stands for, from the lowest acceptable PN. (Log entry 125: PRESUMED,
unsafe.) -/
def recoverPn (low rx : Nat) : Nat :=
  let hi := low / 2 ^ 32
  if rx < low % 2 ^ 32 ∧ low % 2 ^ 32 - rx ≥ 2 ^ 31 then (hi + 1) * 2 ^ 32 + rx else hi * 2 ^ 32 + rx

def State.msecOther (s : State) (p : Nat) : State := s.cnt (PKT_MSEC_DISCARD p) PKT_MSEC_DISCARD_OTHER 1

/-- MACsec reception of a frame (R277): what goes on to the parser with its verified mark, or none. (Log entry 125:
PRESUMED, unsafe.) -/
def State.msecReceive (s : State) (p : Nat) (f : List Byte) : Option (List Byte × Bool) × State :=
  let v := s.gf (PKT_MSEC_CTL p) PKT_MSEC_CTL_VALIDATE
  if !s.bit (PKT_MSEC_CTL p) PKT_MSEC_CTL_EN || v == 0 then (some (f, false), s)
  else if frameBE f 12 2 ≠ 0x88E5 then
    if v = 1 ∨ frameBE f 12 2 = 0x888E then (some (f, false), s) else (none, s.msecOther p)
  else
    let tci := fieldLE f 14 1
    let an := tci % 4
    let sc := bitAt tci 5
    let sci := if sc then frameBE f 20 8 else frameBE f 6 6 * 65536 + 1
    let hdr := if sc then 28 else 20
    match (s.msecOf p).rx.find? (fun e => e.1 == sci && e.2.1 == an) with
    | none => (none, s.msecOther p)
    | some (_, _, a) =>
      let pn := recoverPn a.low (frameBE f 16 4)
      if bitAt tci 7 || f.length < hdr + 16 || pn < a.low then (none, s.msecOther p)
      else if !s.slotUsable a.slot 3 ownerInternal then (none, s.msecOther p)
      else
        let body := (f.drop hdr).take (f.length - hdr - 16)
        let icv := f.drop (f.length - 16)
        let open_ := if bitAt tci 3 then gcmOpen (s.slotKey a.slot) (msecIv a pn) (f.take hdr) body icv
          else (gcmOpen (s.slotKey a.slot) (msecIv a pn) (f.take hdr ++ body) [] icv).map (fun _ => body)
        match open_ with
        | none => (none, s.countAuth.cnt (PKT_MSEC_DISCARD p) PKT_MSEC_DISCARD_AUTH 1)
        | some text =>
          let next := max a.next (pn + 1)
          let low := max a.low (next - s.gf (PKT_MSEC_REPLAY p) PKT_MSEC_REPLAY_WINDOW)
          let m := s.msecOf p
          let s := s.setMsec p { m with rx := m.rx.map (fun e =>
            if e.1 = sci ∧ e.2.1 = an then (sci, an, { a with next := next, low := low }) else e) }
          (some (f.take 12 ++ text, true), s)

def State.txAnOf (s : State) (p : Nat) : Nat := s.gf (PKT_MSEC_CTL p) PKT_MSEC_CTL_TX_AN
def State.txSa (s : State) (p : Nat) : Option MsecSa := ((s.msecOf p).tx.find? (fun e => e.1 == s.txAnOf p)).map (·.2)

/-- MACsec protection of a frame; none while it must be held. (Log entry 125: PRESUMED, unsafe.) -/
def State.msecProtect (s : State) (p : Nat) (f : List Byte) : Option (List Byte × State) :=
  if !s.bit (PKT_MSEC_CTL p) PKT_MSEC_CTL_PROTECT then some (f, s)
  else if s.bit (PKT_MSEC_CTL p) PKT_MSEC_CTL_EXHAUSTED then none
  else match s.txSa p with
    | none => none
    | some a =>
      let m := s.msecOf p
      let pn := a.next
      let body := f.drop 12
      let sl := if body.length < 48 then body.length else 0
      let hdr := f.take 12 ++ beBytes 2 0x88E5 ++ [BitVec.ofNat 8 (0x2C + s.txAnOf p), BitVec.ofNat 8 sl]
        ++ beBytes 4 pn ++ beBytes 8 m.sci
      let (ct, tag) := gcmSeal (s.slotKey a.slot) (msecIv a pn) hdr body
      let s := s.setMsec p { m with tx := Tab.insert m.tx (s.txAnOf p) { a with next := pn + 1 } }
      let s := if pn = 2 ^ 63 then
          (s.sf (PKT_MSEC_CTL p) PKT_MSEC_CTL_REKEY 1).event 0x0086 (leBytes 1 p ++ leBytes 1 1)
        else s
      let s := if pn = 2 ^ 64 - 1 then s.sf (PKT_MSEC_CTL p) PKT_MSEC_CTL_EXHAUSTED 1 else s
      some (hdr ++ ct ++ tag, s)

/-- The SA that a received MACsec frame names has a slot whose load or clear is pending: the frame waits (R309). -/
def State.msecStalled (s : State) (p : Nat) (f : List Byte) : Bool :=
  if s.bit (PKT_MSEC_CTL p) PKT_MSEC_CTL_EN && s.gf (PKT_MSEC_CTL p) PKT_MSEC_CTL_VALIDATE != 0
      && frameBE f 12 2 == 0x88E5 then
    let tci := fieldLE f 14 1
    let sci := if bitAt tci 5 then frameBE f 20 8 else frameBE f 6 6 * 65536 + 1
    match (s.msecOf p).rx.find? (fun e => e.1 == sci && e.2.1 == tci % 4) with
    | some (_, _, a) => s.slotPending a.slot
    | none => false
  else false

/-! ### RoCEv2 packets (R2, R234, R235) -/

/-- The address record of a RoCEv2 connection: peer MAC, tag control (zero: no tag), IP version, hop limit or TTL, UDP source
port, source and destination IP address. (Log entry 347: DESIGN CHOICE, unsafe.) -/
def recMac (r : List Byte) : List Byte := fit 6 r
def recTag (r : List Byte) : List Byte := fit 2 (r.drop 6)
def recV6 (r : List Byte) : Bool := r[8]? == some 6
def recHops (r : List Byte) : List Byte := fit 1 (r.drop 9)
def recPort (r : List Byte) : List Byte := fit 2 (r.drop 10)
def recSrc (r : List Byte) : List Byte := fit (if recV6 r then 16 else 4) (r.drop 16)
def recDst (r : List Byte) : List Byte := fit (if recV6 r then 16 else 4) (r.drop 32)

/-- The IP header before `n` bytes of UDP; `mask` puts ones in the fields that the ICRC leaves out. (Log entry 104:
PRESUMED, unsafe.) -/
def ipHeader (r : List Byte) (n : Nat) (mask : Bool) : List Byte :=
  let any (l : List Byte) : List Byte := if mask then l.map (fun _ => 0xFF) else l
  if recV6 r then
    (if mask then [0x6F, 0xFF, 0xFF, 0xFF] else [0x60, 0, 0, 0]) ++ beBytes 2 n ++ [17] ++ any (recHops r) ++ recSrc r ++ recDst r
  else
    let head := [0x45] ++ any [0] ++ beBytes 2 (20 + n) ++ [0, 0, 0x40, 0] ++ any (recHops r) ++ [17]
    let ends := recSrc r ++ recDst r
    head ++ (if mask then [0xFF, 0xFF] else beBytes 2 (checksum (head ++ [0, 0] ++ ends))) ++ ends

/-- The BTH opcode of a packet of transport operation `opc` by its place in its message: Reliable Connected (R234).
(Log entry 104: PRESUMED, unsafe.) -/
def bthOpcode (opc : Nat) (first last : Bool) : Nat :=
  let place := match first, last with
    | true, true => 3
    | true, false => 0
    | false, false => 1
    | false, true => 2
  match opc with
  | 0 => [6, 7, 8, 10][place]?.getD 0
  | 1 => 12
  | 2 => 13 + place
  | 3 => [0, 1, 2, 4][place]?.getD 0
  | _ => 17

/-- The AETH syndrome: an acknowledgement with unlimited credit, or the NAK that stands for a NAK code. (Log entry
104: PRESUMED, unsafe.) -/
def aethSyndrome (opc code : Nat) : Nat :=
  if opc ≠ 5 then 0x1F
  else [0x60, 0x62, 0x61, 0x63, 0x22][code]?.getD 0x63

/-- The transport headers after the BTH: RETH of a WRITE's first packet and of a READ_REQ, AETH of responses and
acknowledgements. -/
def rocePlus (p : OutPkt) (first last : Bool) : List Byte :=
  if p.opc = 1 ∨ (p.opc = 0 ∧ first) then beBytes 8 p.raddr ++ beBytes 4 p.mkey ++ beBytes 4 p.total
  else if p.opc ≥ 4 ∨ (p.opc = 2 ∧ (first ∨ last)) then
    beBytes 1 (aethSyndrome p.opc (p.total % 256)) ++ beBytes 3 (p.msn % 2 ^ 24)
  else []

/-- UDP from the source port to port 4791 with `n` bytes after its header. -/
def udpHeader (r : List Byte) (n : Nat) (mask : Bool) : List Byte :=
  recPort r ++ beBytes 2 4791 ++ beBytes 2 (8 + n) ++ (if mask then [0xFF, 0xFF] else [0, 0])

/-- The Ethernet frame, without its FCS, that carries a RoCEv2 packet to the queue pair `qp`. (Log entry 104:
PRESUMED, unsafe.) -/
def roceFrame (r : List Byte) (port qp : Nat) (p : OutPkt) : List Byte :=
  let first := p.offset == 0 || decide (4 ≤ p.opc)
  let last := decide (p.total ≤ p.offset + p.data.length)
  let pad := (4 - p.data.length % 4) % 4
  let bth (resv : Byte) : List Byte :=
    beBytes 1 (bthOpcode p.opc first last) ++ beBytes 1 (0x40 + 16 * pad) ++ [0xFF, 0xFF, resv] ++ beBytes 3 qp
      ++ beBytes 1 (b2n (last && decide (p.opc < 4)) * 128) ++ beBytes 3 p.psn
  let body := rocePlus p first last ++ p.data ++ List.replicate pad 0
  let n := 12 + body.length + 4
  let icrc := crc32 (List.replicate 8 0xFF ++ ipHeader r (8 + n) true ++ udpHeader r n true ++ bth 0xFF ++ body)
  let tag := if recTag r = [0, 0] then [] else [0x81, 0x00] ++ recTag r
  let f := recMac r ++ beBytes 6 (Config.portMac port).toNat ++ tag ++ (if recV6 r then [0x86, 0xDD] else [0x08, 0x00])
    ++ ipHeader r (8 + n) false ++ udpHeader r n false ++ bth 0 ++ body ++ leBytes 4 icrc
  if f.length < 60 then fit 60 f else f

/-- The offset of the BTH in a RoCEv2 frame. -/
def bthAt (f : List Byte) : Nat :=
  let ip := if frameBE f 12 2 = 0x8100 then 18 else 14
  if frameBE f (ip - 2) 2 = 0x86DD then ip + 48 else ip + frameBE f ip 1 % 16 * 4 + 8

/-- The queue pair and the PSN of a received RoCEv2 frame. -/
def roceNames (f : List Byte) (qp psn : Nat) : Bool :=
  frameBE f (bthAt f + 5) 3 == qp && frameBE f (bthAt f + 9) 3 == psn

/-- Serialization time of an Ethernet frame of `n` bytes on a port, its MACsec overhead included, in ns (R253, R277). -/
def State.ethSer (s : State) (port n : Nat) : Nat :=
  (n + 4 + (if s.bit (PKT_MSEC_CTL port) PKT_MSEC_CTL_PROTECT then 32 else 0) + 69) / 50

/-- MACsec protects the port's next frame, or none is asked for (R277, R278). -/
def State.msecReady (s : State) (port : Nat) : Bool :=
  !s.bit (PKT_MSEC_CTL port) PKT_MSEC_CTL_PROTECT
    || (!s.bit (PKT_MSEC_CTL port) PKT_MSEC_CTL_EXHAUSTED && (s.txSa port).isSome)

/-- An Ethernet port takes a frame of a priority with `n` bytes (R204, R254, R277); `gated` frames need the gate open. -/
def State.ethReady (s : State) (port prio : Nat) (gated : Bool) (n : Nat) : Bool :=
  s.portLive port && s.isEth port && !s.safe && s.ethMayStart port prio && s.msecReady port
    && (!gated || s.gateOpen port prio s.now (s.ethSer port n))

/-- A frame starts on an Ethernet port: MACsec, then the MAC adds the FCS (R203, R277); the answer says whether it did. -/
def State.sendEth (s : State) (port prio : Nat) (f : List Byte) : Bool × State :=
  match s.msecProtect port f with
  | none => (false, s)
  | some (g, s) => (true, s.emit (.frame port prio false (withCrc g)))

end Sys2Proof.Machine
end

