-- ==== Sys2Proof/Machine/Transport.lean ====
section
/-! DEFINITION. Fabric transport and remote memory (10_fabric_transport.md R209 to R238). -/

namespace Sys2Proof.Machine

def connReset : Nat → Conn := fun _ => Conn.reset
def State.cn (s : State) (n : Nat) : Conn := Tab.get connReset s.trn.conns n
def State.setCn (s : State) (n : Nat) (c : Conn) : State :=
  { s with trn := { s.trn with conns := Tab.set connReset s.trn.conns n c } }

/-- Connection states (R210). -/
def csFree : Nat := 0
def csInit : Nat := 1
def csReady : Nat := 2
def csError : Nat := 3
def csFlushing : Nat := 4
def csClosing : Nat := 5

/-- The transport takes new work: enabled, and its block line is not latched (R425). -/
def State.trnEn (s : State) : Bool := s.bit TRN_CTL TRN_CTL_EN && !s.blockDown 12

/-- Frames the engine discards and counts (R211, R213, R214). -/
def State.trnDiscard (s : State) : State := s.cnt TRN_DISCARD TRN_DISCARD_FRAME 1

/-! ### Sequence spaces, requests and packets -/

/-- PSN space: 32 bits, 24 on RoCEv2 connections (R234). -/
def Conn.psnMod (c : Conn) : Nat := if c.roce then 2 ^ 24 else 2 ^ 32
def Conn.psnAdd (c : Conn) (p n : Nat) : Nat := (p + n) % c.psnMod
def Conn.psnDiff (c : Conn) (a b : Nat) : Nat := (a + c.psnMod - b) % c.psnMod
def msnDiff (a b : Nat) : Nat := (a + 2 ^ 32 - b) % 2 ^ 32

/-- Data bytes per packet (R210). -/
def Conn.mtu (c : Conn) : Nat := 256 * 2 ^ c.pmtu

/-- Fields of a message request (R215). -/
def reqOp (r : List Byte) : Nat := wordFd r 0 0 4
def reqSig (r : List Byte) : Bool := wordFd r 0 4 1 == 1
def reqFence (r : List Byte) : Bool := wordFd r 0 5 1 == 1
def reqCmpl (r : List Byte) : Bool := wordFd r 0 6 1 == 1
def reqHdr (r : List Byte) : Bool := wordFd r 0 7 1 == 1
def reqConn (r : List Byte) : Nat := wordFd r 0 12 20
def reqTag (r : List Byte) : Nat := wordFd r 1 0 16
def reqLocal (r : List Byte) : Nat := fieldLE r 8 8 % 2 ^ 52
def reqLength (r : List Byte) : Nat := wordFd r 4 0 32
def reqMkey (r : List Byte) : Nat := wordFd r 5 0 32
def reqRaddr (r : List Byte) : Nat := fieldLE r 24 8
def reqSignal (r : List Byte) : Nat := wordFd r 8 0 24
def reqChdr (r : List Byte) : List Byte := fit 16 (r.drop 48)

/-- Build a message request (R215) for an internal requester. -/
def mkReq (op conn tag loc len mkey raddr signal : Nat) (sig fence hdr : Bool) (chdr : List Byte) : List Byte :=
  leBytes 4 (op + b2n sig * 16 + b2n fence * 32 + 64 + b2n hdr * 128 + conn * 4096) ++ leBytes 4 tag
    ++ leBytes 8 loc ++ leBytes 4 len ++ leBytes 4 mkey ++ leBytes 8 raddr ++ leBytes 4 signal
    ++ List.replicate 12 0 ++ fit 16 chdr

/-- The 48-byte Damoa transport header (R214), in network byte order, then the consumer header and the data. -/
def damoaContent (opc flags path dst src conn psn msn offset total mkey signal raddr : Nat)
    (chdr data : List Byte) : List Byte :=
  leBytes 1 (16 + opc % 16) ++ leBytes 1 flags ++ beBytes 2 path ++ beBytes 4 dst ++ beBytes 4 src
    ++ beBytes 4 conn ++ beBytes 4 psn ++ beBytes 4 msn ++ beBytes 4 offset ++ beBytes 4 total
    ++ beBytes 4 mkey ++ beBytes 4 signal ++ beBytes 8 raddr ++ chdr ++ data

/-- FLAGS of a packet (R214). -/
def pktFlags (sig poison hdr done : Bool) : Nat := b2n sig + b2n poison * 4 + b2n hdr * 8 + b2n done * 32

/-- The packet that a frame's content spells on a port, its opcode, DONE and VERSION (R214). -/
def framePkt (port : Fin 32) (tc : Fin 8) (f : List Byte) : TrnPkt :=
  let flags := (frameBE f 1 1)
  let hdr := bitAt flags 3
  ⟨port, false, tc, bitAt flags 0, bitAt flags 2, BitVec.ofNat 16 (frameBE f 2 2), BitVec.ofNat 32 (frameBE f 4 4),
    BitVec.ofNat 32 (frameBE f 8 4), BitVec.ofNat 20 (frameBE f 12 4), BitVec.ofNat 32 (frameBE f 16 4),
    BitVec.ofNat 32 (frameBE f 20 4), BitVec.ofNat 32 (frameBE f 24 4), BitVec.ofNat 32 (frameBE f 28 4),
    BitVec.ofNat 32 (frameBE f 32 4), BitVec.ofNat 24 (frameBE f 36 4), BitVec.ofNat 64 (frameBE f 40 8),
    if hdr then some (frameBytes f 48 16) else none, f.drop (if hdr then 64 else 48), false⟩

def frameOpc (f : List Byte) : Nat := frameBE f 0 1 % 16
def frameVersion (f : List Byte) : Nat := frameBE f 0 1 / 16
def frameDone (f : List Byte) : Bool := bitAt (frameBE f 1 1) 5

/-- A frame's content is a packet of an opcode. -/
def isFrameOf (p : TrnPkt) (opc : Nat) (done : Bool) (f : List Byte) : Bool :=
  frameVersion f == 1 && frameOpc f == opc && frameDone f == done && framePkt p.port p.tc f == p

/-- The PSN after every packet that has been allocated. -/
def Conn.txEnd (c : Conn) : Nat :=
  match c.tx.getLast? with
  | some i => c.psnAdd i.psn i.count
  | none => c.sndNxt

/-- The item that owns a PSN. -/
def Conn.itemAt (c : Conn) (p : Nat) : Option TxItem := c.tx.find? (fun i => decide (c.psnDiff p i.psn < i.count))

/-- How a packet is held to gates and slots: collective data by the slot schedule alone; READY and ABORT by neither; an
ACK or NAK by no gate; the rest by the gates and by R105's rule for other packets (R94, R105, R254). -/
inductive Gating where
  | slots | free | ack | full
deriving DecidableEq, Repr

/-- The message of an item is the collectives engine's. -/
def Conn.ofCol (c : Conn) (i : TxItem) : Bool :=
  c.consumer == 1 && i.kind == 3 && c.active.any (fun m => m.msn == i.msn && m.owner == .internal 1)

def Conn.gating (c : Conn) (it : Option TxItem) : Gating :=
  match it with
  | some i =>
    if c.ofCol i && bitAt (reqTag i.req) 15 then .slots
    else if c.ofCol i && bitAt (reqTag i.req) 14 then .free
    else .full
  | none => .ack

/-- Data bytes of an item's packet at a PSN, from the message's offset (R214, R225). -/
def Conn.pktOffset (c : Conn) (i : TxItem) (p : Nat) : Nat := (i.skip + c.psnDiff p i.psn) * c.mtu
def Conn.pktLen (c : Conn) (i : TxItem) (p : Nat) : Nat :=
  if i.kind = 1 then 0 else min c.mtu (i.total - c.pktOffset i p)

/-- Bytes of the frame's content that carries the connection's next packet (R214, R234). -/
def Conn.nextSize (c : Conn) (it : Option TxItem) : Nat :=
  let data := match it with
    | some i => c.pktLen i c.sndNxt + (if i.kind == 3 && reqHdr i.req then 16 else 0)
    | none => 0
  if c.roce then data + 90 else 48 + data

/-- Contexts held by unacknowledged packets (R212). -/
def State.heldContexts (s : State) : Nat := (s.trn.conns.filter (fun e => e.2.sndUna != e.2.sndNxt)).length

/-- What a connection has to send (R217, R221): an owed ACK or NAK (none), or the item of the packet at SND_NXT, inside the
window and the bound of R212. (Log entry 320: DEDUCED, unsafe.) -/
def State.nextSend (s : State) (n : Nat) : Option (Option TxItem) :=
  let c := s.cn n
  if !c.ctl.isEmpty then some none
  else if c.state ≠ csReady ∨ c.sndNxt = c.txEnd ∨ c.psnDiff c.sndNxt c.sndUna ≥ 256 ∨ c.rnrAt.isSome
      ∨ (c.sndNxt = c.sndUna ∧ s.heldContexts ≥ 24576) then none
  else (c.itemAt c.sndNxt).map some

/-- The group whose collective data is next on a connection and may start on a port now (R105). -/
def State.groupFor (s : State) (n p : Nat) : Option Nat :=
  let c := s.cn n
  match s.nextSend n with
  | some (some i) =>
    let g := reqTag i.req % 4096
    if bitAt c.portmask p && c.gating (some i) == .slots
        && s.mayStart g p (s.serNs p (s.frameSize p (c.nextSize (some i)))) then some g else none
  | _ => none

/-- An eligible group has collective data pending for a port (R105). -/
def State.colWaits (s : State) (p : Nat) : Bool := s.trn.conns.any (fun e => (s.groupFor e.1 p).isSome)

/-- A port takes the connection's next packet now (R94, R105, R106, R193, R204, R217, R254). -/
def State.canSend (s : State) (n p : Nat) (it : Option TxItem) : Bool :=
  let c := s.cn n
  let g := c.gating it
  let size := c.nextSize it
  bitAt c.portmask p &&
    if c.roce then s.ethReady p c.tc (g != .ack) size
    else s.frameReady p c.tc (g == .full) size && (match g with
      | .slots => (s.groupFor n p).isSome
      | .free => true
      | _ => s.mayStartOther p (s.serNs p (s.frameSize p size)) && !s.colWaits p)

/-- The port of a connection's next packet: the next one in round robin after the port last used that takes it (R217). -/
def State.portOf (s : State) (n : Nat) : Option Nat :=
  match s.nextSend n with
  | some it => ((List.range 32).map (fun i => ((s.cn n).rr + 1 + i) % 32)).find? (fun p => s.canSend n p it)
  | none => none

/-- The packet on a port (R214, R234, R235): whether the port took it. PATH goes on by one for each packet (R217). -/
def State.putPacket (s : State) (n port : Nat) (gated : Bool) (p : OutPkt) : Bool × State :=
  let c := s.cn n
  let (sent, s) := if c.roce then s.sendEth port c.tc (roceFrame c.roceAddr port c.peerConn p)
    else s.sendFrame port c.tc gated (damoaContent p.opc p.flags c.path c.peerAddr (s.rd TRN_ADDR).toNat c.peerConn p.psn
      p.msn p.offset p.total p.mkey p.signal p.raddr p.chdr p.data)
  if sent then (true, s.setCn n { s.cn n with path := (c.path + 1) % 2 ^ 16, rr := port, lastUse := s.now })
  else (false, s)

/-! ### Context cache (R209 to R213) -/

/-- Context bytes (R210). (Log entry 100: DESIGN CHOICE, unsafe.) -/
def State.ctxBytes (s : State) (n : Nat) : List Byte :=
  let c := s.cn n
  let w0 := c.state + b2n c.roce * 8 + c.consumer * 16 + c.tc * 256 + c.pmtu * 4096 + c.retry % 16 * 65536
    + c.fctx % 4096 * 2 ^ 20
  let rx (i : Nat) : List Byte :=
    match c.rx.find? (fun e => e.msn % 8 == i) with
    | some e => leBytes 4 e.msn ++ leBytes 4 e.total ++ leBytes 4 e.received
        ++ leBytes 4 (e.signal % 2 ^ 24 + 2 ^ 24 + b2n e.sig * 2 ^ 25 + b2n e.poison * 2 ^ 26 + b2n e.failed * 2 ^ 27)
    | none => List.replicate 16 0
  [leBytes 4 w0, leBytes 2 c.domain, leBytes 2 c.status0, leBytes 4 c.peerConn, leBytes 4 c.portmask,
    leBytes 4 c.peerAddr, leBytes 4 c.sndNxt, leBytes 4 c.sndUna, leBytes 4 c.sndMsn, leBytes 4 c.sndDone,
    leBytes 4 c.creditMsn, leBytes 4 c.rcvEpsn, leBytes 4 c.rcvMsn, leBytes 8 c.lastUse, leBytes 8 c.sndTable,
    leBytes 32 c.rcvMap, (List.range 8).flatMap rx, leBytes 8 c.roceAt, leBytes 4 c.rxq, List.replicate 20 0].flatten

/-- Where a context lies (R209). -/
def State.ctxAddr (s : State) (n : Nat) : Nat :=
  let k := s.gf TRN_CTX_HBM_COUNT TRN_CTX_HBM_COUNT_COUNT
  if n < k then (s.gf TRN_CTX_BASE TRN_CTX_BASE_BASE <<< 16) + n * 256
  else (s.gf TRN_CTX_HOST_BASE TRN_CTX_HOST_BASE_BASE <<< 12) + (n - k) * 256

/-- A context that may not be evicted (R212). -/
def State.pinned (s : State) (n : Nat) : Bool :=
  (s.cn n).sndUna != (s.cn n).sndNxt || s.trn.miss.any (fun e => e.2.2.dstConn.toNat == n)

/-- Make a context the most recently used, evicting and writing back the least recently used evictable one when the
cache is full (R212). False when nothing can be evicted. -/
def State.touch (s : State) (n : Nat) : Bool × State :=
  let rest := eraseKey s.trn.cached n
  if rest.length < 32768 then (true, { s with trn := { s.trn with cached := n :: rest } })
  else
    match rest.reverse.find? (fun k => !s.pinned k) with
    | some k =>
      let s := s.poke (s.ctxAddr k) (s.ctxBytes k)
      (true, { s with trn := { s.trn with cached := n :: eraseKey rest k } })
    | none => (false, s)

def State.isCached (s : State) (n : Nat) : Bool := s.trn.cached.contains n

/-- A context that an operation changes is in the cache (R212). -/
def State.hold (s : State) (n : Nat) : State := (s.touch n).2

/-! ### Completions (R216) -/

/-- The 16-byte transport completion record, bytes 0 to 13. -/
def trnRecord (tag status conn bytes ix : Nat) : List Byte :=
  leBytes 2 tag ++ leBytes 2 status ++ leBytes 4 conn ++ leBytes 4 bytes ++ leBytes 2 ix

/-- Write the request ring's owed records while there is room (R47). -/
def State.drainTrn : Nat → State → State
  | 0, s => s
  | k + 1, s =>
    match s.trn.owed with
    | (conn, .ring ix epoch, tag, status, bytes) :: rest =>
      if s.cmplRoom TRN_REQ_BASE then
        let s := { s with trn := { s.trn with owed := rest } }
        let s := s.writeCmplRecord TRN_REQ_BASE (trnRecord tag status conn bytes ix)
        State.drainTrn k (s.retire TRN_REQ_BASE ix epoch)
      else s
    | _ :: rest => State.drainTrn k { s with trn := { s.trn with owed := rest } }
    | [] => s

/-- A context leaves the cache. -/
def State.uncache (s : State) (n : Nat) : State := { s with trn := { s.trn with cached := eraseKey s.trn.cached n } }

/-- A connection whose affected completions are all written leaves FLUSHING for ERROR, and a CLOSING one with nothing
held becomes FREE (R211). -/
def State.settle (s : State) (n : Nat) : State :=
  let c := s.cn n
  if s.trn.owed.any (fun e => e.1 == n) then s
  else if c.state = csFlushing then ((s.hold n).setCn n { c with state := csError }).stoConnError n
  else if c.state = csClosing && c.ctl.isEmpty && !s.trn.miss.any (fun e => e.2.2.dstConn.toNat == n) then
    (s.setCn n Conn.reset).uncache n
  else s

/-- One request completes: its record by its owner's rule; a status other than 0x0000 and 0x0012 always writes one.
(Log entry 106: DEDUCED, unsafe.) -/
def State.complete (s : State) (n : Nat) (m : Msg) (status bytes : Nat) : State :=
  let must := reqCmpl m.req || (status != 0 && status != 0x12)
  let tag := reqTag m.req
  match m.owner with
  | .ring ix epoch =>
    if must then
      State.drainTrn 65536 { s with trn := { s.trn with owed := s.trn.owed ++ [(n, m.owner, tag, status, bytes)] } }
    else s.retire TRN_REQ_BASE ix epoch
  | .queue q ix gen =>
    let key := qkey .transport q
    match s.iqAt key with
    | some iq =>
      if (s.instOf iq.inst).gen = gen then
        (if must then s.iqComplete key (trnRecord tag status n bytes ix) else s).iqDone key
      else s.late iq.inst
    | none => match (s.cn n).inst with
      | some i => s.late i
      | none => s
  | .internal who =>
    { s with trn := { s.trn with results := s.trn.results ++ [(who, tag, status, bytes, n)] } }

/-- Data bytes delivered of a message that failed: the sender does not know them, a free value. (Log entry 101:
DESIGN CHOICE, safe.) -/
def State.completeFailed (s : State) (n : Nat) (m : Msg) (status : Nat) : State :=
  s.tick.complete n m status (s.fresh 32).toNat

/-- A connection as it enters FLUSHING. -/
def Conn.flushing (c : Conn) (status : Nat) : Conn :=
  { c with state := csFlushing, status0 := status, active := [], waiting := [], tx := [],
           rx := c.rx.map (fun e => { e with sig := false, failed := true }), rnrAt := none, holeAt := none }

/-- What has arrived of the connection's incomplete messages is dropped. -/
def State.dropParts (s : State) (n : Nat) : State :=
  { s with trn := { s.trn with inbox := s.trn.inbox.filter (fun b => !(b.conn == n && !b.complete)) } }

/-- The connection enters FLUSHING (R231): message `cause` completes with its own status, every other with 0x0034 in
request order, and the connection settles in ERROR once those are written. -/
def State.flush (s : State) (n : Nat) (cause : Option Nat) (status : Nat) : State :=
  let c := s.cn n
  if c.state ≠ csReady then s
  else
    let s := (s.hold n).setCn n (c.flushing status)
    let s := c.active.foldl (fun (s : State) m => s.completeFailed n m (if some m.msn = cause then status else 0x34)) s
    let s := c.waiting.foldl (fun (s : State) m => s.complete n m 0x34 0) s
    (s.dropParts n).settle n

/-! ### Receiver grants (R222, R223) -/

/-- Free slots of the firmware receive ring. -/
def State.fwrxFree (s : State) : Nat :=
  2 ^ s.gf TRN_FWRX_BASE TRN_FWRX_BASE_LOG2N
    - (s.gf TRN_FWRX_STATUS TRN_FWRX_STATUS_TAIL + 2 ^ 16 - s.gf TRN_FWRX_HEAD TRN_FWRX_HEAD_HEAD) % 2 ^ 16

def State.fwrxBase (s : State) : Nat := s.gf TRN_FWRX_BASE TRN_FWRX_BASE_BASE <<< 12
def State.fwrxLog (s : State) : Nat := s.gf TRN_FWRX_BASE TRN_FWRX_BASE_LOG2N

/-- The receive queue takes frames and messages (R346, R348, R350). -/
def State.rxTakes (s : State) (q : Nat) : Bool :=
  match s.iqAt (qkey .receive q) with
  | some x => s.iqFetches x
  | none => false

/-- One more, or one fewer, taken buffer of a receive queue. -/
def State.holdBuffer (s : State) (q : Nat) : State :=
  match s.iqAt (qkey .receive q) with
  | some x => s.setIq (qkey .receive q) { x with outstanding := x.outstanding + 1 }
  | none => s

/-- A buffer or slot that a connection reserved and gave back: its address and number. `key` is a receive queue's number + 1,
or zero for the firmware ring. -/
def State.takeUnused (s : State) (key : Nat) : Option (Nat × Nat × State) :=
  match s.trn.unused.find? (fun e => e.1 == key) with
  | some e =>
    let s := { s with trn := { s.trn with unused := s.trn.unused.erase e } }
    some (e.2.2, e.2.1, if key = 0 then s else s.holdBuffer (key - 1))
  | none => none

/-- The next free slot of the firmware receive ring, if there is one (R223). -/
def State.takeSlot (s : State) : Option (Nat × Nat × State) :=
  if s.fwrxFree > 0 then
    let t := s.gf TRN_FWRX_STATUS TRN_FWRX_STATUS_TAIL
    let s := s.sf TRN_FWRX_STATUS TRN_FWRX_STATUS_TAIL (ix16 (t + 1))
    some (s.fwrxBase + t % 2 ^ s.fwrxLog * 4096, t, { s with trn := { s.trn with slots := s.trn.slots ++ [(t, false)] } })
  else none

/-- A buffer for a CONSUMER 4 connection, or a slot for a CONSUMER 5 one; one that a reset or destroyed connection gave
back goes first (R223). (Log entry 321: DEDUCED, unsafe.) -/
def State.takeRx (s : State) (c : Conn) : Option (Nat × Nat × State) :=
  if c.consumer = 4 then
    if s.rxTakes c.rxq then (s.takeUnused (c.rxq + 1)).or (s.takeBuffer c.rxq) else none
  else if s.bit TRN_FWRX_CTL TRN_FWRX_CTL_EN then (s.takeUnused 0).or s.takeSlot
  else none

/-- Reserve a buffer or slot for MSN `m` of a CONSUMER 4 or 5 connection; false when none is to be had. -/
def State.reserve1 (s : State) (n m : Nat) : Bool × State :=
  let c := s.cn n
  if c.reserved.any (fun e => e.1 == m) then (true, s)
  else
    match s.takeRx c with
    | some (addr, id, s) => (true, s.setCn n { s.cn n with reserved := c.reserved ++ [(m, id, addr)] })
    | none => (false, s)

/-- The buffers or slots that a connection reserved and did not use are given back (R223). (Log entry 321: DEDUCED,
unsafe.) -/
def State.giveBack (s : State) (n : Nat) : State :=
  let c := s.cn n
  let key := if c.consumer = 4 then c.rxq + 1 else 0
  let s := if c.consumer = 4 then c.reserved.foldl (fun (s : State) _ => s.iqDone (qkey .receive c.rxq)) s else s
  { s.setCn n { c with reserved := [] } with
    trn := { (s.setCn n { c with reserved := [] }).trn with unused := s.trn.unused ++ c.reserved.map (fun e => (key, e.2)) } }

/-- Reserve for the MSNs from RCV_MSN onward, up to eight. -/
def State.reserveAll (n m : Nat) : Nat → State → State
  | 0, s => s
  | k + 1, s =>
    match s.reserve1 n m with
    | (true, s) => State.reserveAll n ((m + 1) % 2 ^ 32) k s
    | (false, s) => s

def State.reserve (s : State) (n : Nat) : State :=
  let c := s.cn n
  if c.state = csReady ∧ (c.consumer = 4 ∨ c.consumer = 5) then State.reserveAll n c.rcvMsn 8 s else s

/-- The receiver's grant (R222, R223). -/
def Conn.grant (c : Conn) : Nat :=
  if c.consumer = 4 ∨ c.consumer = 5 then
    (c.rcvMsn + ((List.range 8).takeWhile (fun k =>
      c.reserved.any (fun e => e.1 == (c.rcvMsn + k) % 2 ^ 32))).length) % 2 ^ 32
  else (c.rcvMsn + 8) % 2 ^ 32

/-! ### Sending (R217, R221) -/

/-- The words of [a, a + n) in the memory of a PASID carry a poison mark (R59, R233). -/
def State.hostPoison (s : State) (pasid : Option Nat) (a n : Nat) : Bool :=
  (List.range (spans 8 a n)).any (fun k =>
    Tab.get markClean s.marks (hostMarkKey (hostKey pasid (a / 8 * 8 + 8 * k))) == .poisoned)

/-- The marks of those words after data, poisoned or not, is written to [a, a + n) (R59, R233). -/
def State.hostMarks (s : State) (pasid : Option Nat) (a n : Nat) (poison : Bool) : State :=
  (List.range (spans 8 a n)).foldl (fun (s : State) k =>
    let w := a / 8 * 8 + 8 * k
    let key := hostMarkKey (hostKey pasid w)
    if poison then { s with marks := Tab.set markClean s.marks key .poisoned }
    else if a ≤ w ∧ w + 8 ≤ a + n then { s with marks := Tab.set markClean s.marks key .clean }
    else s) s

/-- Message data from an instance's memory: an error or the poison met, and the bytes (R233, R352). -/
def State.instLoad (s : State) (i a n : Nat) : Option MemErr × List Byte :=
  match s.instRead i a n with
  | some bs => (if s.hostPoison (s.instPasid i) a n then some .poison else none, bs)
  | none => (some .hostDown, [])

/-- Message data to an instance's memory with its poison mark (R233, R344). -/
def State.instStore (s : State) (i a : Nat) (bs : List Byte) (poison : Bool) : Option MemErr × State :=
  if s.hostUp then (none, (s.instWrite i a bs).hostMarks (s.instPasid i) a bs.length poison) else (some .hostDown, s)

/-- Read a packet's data from its message's source: an instance's memory for an instance's request (R352), device
physical memory otherwise. -/
def State.readSource (s : State) (i : TxItem) (a len : Nat) : Option MemErr × List Byte × State :=
  match i.inst with
  | some inst => let r := s.instLoad inst a len; (r.1, r.2, s)
  | none => s.engLoad a len

/-- The packet at PSN `p` of an item: the packet, or the status its failed read gives. -/
def State.buildPkt (s : State) (n : Nat) (i : TxItem) (p : Nat) : (Nat ⊕ OutPkt) × State :=
  let c := s.cn n
  let off := c.pktOffset i p
  let len := c.pktLen i p
  let sig := i.kind != 2 && reqSig i.req
  let hdr := i.kind == 3 && reqHdr i.req
  let mk (poison : Bool) (data : List Byte) : OutPkt :=
    ⟨i.kind, pktFlags sig poison hdr false, p, i.msn, off, i.total, if i.kind ≤ 1 then reqMkey i.req else 0,
      if i.kind = 2 then 0 else reqSignal i.req, if i.kind ≤ 1 then reqRaddr i.req else 0,
      if hdr then reqChdr i.req else [], data⟩
  if i.kind = 1 then (.inr (mk false []), s)
  else if i.inl ≠ [] then
    (.inr (mk (c.active.any (fun m => m.msn == i.msn && m.poison)) ((i.inl.drop off).take len)), s)
  else
    match s.readSource i (i.src + off) len with
    | (some .address, _, s) => (.inl 0x10, s)
    | (some .hostDown, _, s) => (.inl 0x11, s)
    | (some _, bs, s) => (.inr (mk true bs), s)
    | (none, bs, s) => (.inr (mk false bs), s)

/-- The packet at SND_NXT was sent: SND_NXT goes on, and the retransmit timer restarts (R221). -/
def Conn.sentOne (c : Conn) (now : Nat) : Conn :=
  let nxt := c.psnAdd c.sndNxt 1
  let ahead := decide (c.psnDiff c.sndTop c.sndUna < c.psnDiff nxt c.sndUna)
  { c with sndNxt := nxt, rtoAt := now, sndTop := if ahead then nxt else c.sndTop }

/-- Send the connection's next packet on a port that takes it: whether it went. A failed read of the connection's own message
ends that message with its status; a failed read for the peer's READ ends none (R225, R231). -/
def State.sendHead (s : State) (n port : Nat) : Bool × State :=
  match s.nextSend n, s.touch n with
  | none, _ => (false, s)
  | _, (false, s) => (false, s)
  | some none, (true, s) =>
    match (s.cn n).ctl with
    | [] => (false, s)
    | p :: rest =>
      match s.putPacket n port false p with
      | (true, s) => (true, s.setCn n { s.cn n with ctl := rest })
      | (false, s) => (false, s)
  | some (some i), (true, s) =>
    match s.buildPkt n i (s.cn n).sndNxt with
    | (.inl st, s) => (true, s.flush n (if i.kind = 2 then none else some i.msn) st)
    | (.inr p, s) =>
      match s.putPacket n port ((s.cn n).gating (some i) == .full) p with
      | (true, s) => (true, s.setCn n ((s.cn n).sentOne s.clock))
      | (false, s) => (false, s)

/-- Send what one connection may send now: owed ACKs and NAKs, then packets in PSN order. -/
def State.pumpConn (n : Nat) : Nat → State → State
  | 0, s => s
  | k + 1, s =>
    match s.portOf n with
    | none => s
    | some p =>
      match s.sendHead n p with
      | (true, s) => State.pumpConn n k s
      | (false, s) => s

/-- (Log entry 102: DESIGN CHOICE, unsafe.) -/
def State.pump (s : State) (n : Nat) : State := State.pumpConn n 320 s

/-- Arbiter kind of the port lotteries (R106). -/
def arbPort : Nat := 4

/-- TICKETS of a loaded group (R80). -/
def State.groupTickets (s : State) (g : Nat) : Nat :=
  ((s.col.groups.find? (fun e => e.1 == g)).map (fun e => wordFd e.2.rec_ 0 8 8)).getD 0

/-- Connections whose next packet goes to a port now, in turn after the one served last (R217). -/
def State.readyAt (s : State) (p : Nat) : List Nat :=
  let l := (s.trn.conns.map (·.1)).filter (fun n => s.portOf n == some p)
  l.filter (fun n => decide ((s.fp p).rr < n)) ++ l.filter (fun n => decide (n ≤ (s.fp p).rr))

/-- The collective groups that compete for a port's next packet. -/
def State.portGroups (s : State) (p : Nat) : List Nat := ((s.readyAt p).filterMap (fun n => s.groupFor n p)).eraseDups

/-- A connection has a control packet, which nothing gates (R94). -/
def State.sendsControl (s : State) (n : Nat) : Bool :=
  match s.nextSend n with
  | some it => (s.cn n).gating it == .free
  | none => false

/-- The connection that a port serves next: one with a READY or ABORT first (R94); among groups with collective data the winner
of the port's lottery (R106); else the next in turn (R217). (Log entry 51: DESIGN CHOICE, safe.) -/
def State.serveAt (s : State) (p : Nat) : Option Nat × State :=
  match (s.readyAt p).find? s.sendsControl with
  | some n => (some n, s)
  | none =>
    if (s.portGroups p).length ≤ 1 then ((s.readyAt p).head?, s)
    else
      let d := s.drawNow (arbId arbPort p) 15
        (((List.range 4096).filter (s.portGroups p).contains).map (fun g => (g, s.groupTickets g)))
      (match d.1 with
        | some g => (s.readyAt p).find? (fun n => s.groupFor n p == some g)
        | none => (s.readyAt p).head?, d.2)

/-- One packet on a port, if a connection has one for it. -/
def State.pumpPort (s : State) (p : Nat) : State :=
  match s.serveAt p with
  | (some n, s) =>
    let s := (s.sendHead n p).2
    s.setFp p { s.fp p with rr := n }
  | (none, s) => s

/-- Some connection can send. -/
def State.anyReady (s : State) : Bool := s.trn.conns.any (fun e => (s.portOf e.1).isSome)

/-- Rounds over the ports, one packet a port, while some connection can send. -/
def State.pumpRounds : Nat → State → State
  | 0, s => s
  | k + 1, s => if s.anyReady then State.pumpRounds k ((List.range 32).foldl (fun s p => s.pumpPort p) s) else s

/-- Every connection with something to send tries again. (Log entry 102: DESIGN CHOICE, unsafe.) -/
def State.pumpAll (s : State) : State := State.pumpRounds (320 * s.trn.conns.length) s

/-- Queue an ACK (R220), with DONE for a message (R219). -/
def State.sendAck (s : State) (n : Nat) (done : Option (Nat × Nat)) : State :=
  let s := s.reserve n
  let c := s.cn n
  let p : OutPkt := ⟨4, pktFlags false false false done.isSome, c.rcvEpsn, c.grant,
    (done.getD (0, 0)).1, (done.getD (0, 0)).2, 0, 0, 0, [], []⟩
  (s.setCn n { c with ctl := c.ctl ++ [p], unacked := 0, ackAt := none }).pump n

/-- Queue a NAK with its code (R214). -/
def State.sendNak (s : State) (n code : Nat) : State :=
  let s := s.reserve n
  let c := s.cn n
  (s.setCn n { c with ctl := c.ctl ++ [⟨5, 0, c.rcvEpsn, c.grant, 0, code, 0, 0, 0, [], []⟩] }).pump n

/-! ### The miss queue (R213) -/

/-- Packets that wait in a port's miss queue, and TRN_MISS_STATUS. -/
def State.missCount (s : State) (port : Nat) : Nat := (s.trn.miss.filter (fun e => e.2.2.port.val == port)).length
def State.showMiss (s : State) : State :=
  s.sf TRN_MISS_STATUS TRN_MISS_STATUS_FULL
    ((List.range 32).foldl (fun m p => if s.missCount p ≥ 256 then m + 2 ^ p else m) 0)

/-! ### Reception (R218 to R227) -/

/-- RCV_EPSN advances past every consecutive set bit of RCV_MAP. -/
def shiftMap : Nat → Nat → Nat → Nat × Nat
  | 0, m, k => (m, k)
  | n + 1, m, k => if m % 2 = 1 then shiftMap n (m / 2) (k + 1) else (m, k)

/-- Record the acceptance of PSN `p` (R218), the hole timer and the acknowledgement count (R220). -/
def State.acceptPsn (s : State) (n p : Nat) : State :=
  let c := s.cn n
  let d := c.psnDiff p c.rcvEpsn
  let (m, k) := shiftMap 256 (bitsPut c.rcvMap d 1 1) 0
  let hole := if m = 0 then none else if k > 0 then some s.clock else (c.holeAt <|> some s.clock)
  let c := { c with
    rcvMap := m, rcvEpsn := c.psnAdd c.rcvEpsn k, holeAt := hole, unacked := c.unacked + 1,
    ackAt := c.ackAt <|> some s.clock }
  let s := s.setCn n c
  if c.unacked ≥ 8 then s.sendAck n none else s

/-- How a PSN is placed (R218). -/
inductive Placing where
  | accept | duplicate | beyond
deriving DecidableEq, Repr

def Conn.place (c : Conn) (p : Nat) : Placing :=
  let d := c.psnDiff p c.rcvEpsn
  if d < 256 then (if bitAt c.rcvMap d then .duplicate else .accept)
  else if d ≥ c.psnMod / 2 then .duplicate else .beyond

/-- An inbound packet is refused: its message entry is marked FAILED, the NAK goes, and the connection enters FLUSHING (R227,
R231). -/
def State.refusePkt (s : State) (n : Nat) (p : TrnPkt) (opc code : Nat) : State :=
  let c := s.cn n
  let m := p.msn.toNat
  let rx := if c.rx.any (fun e => e.msn == m) then c.rx.map (fun e => if e.msn = m then { e with failed := true } else e)
    else if code = 1 then c.rx ++ [⟨m, p.total.toNat, 0, p.signal.toNat, p.sig, false, true, opc == 3, p.chdr⟩]
    else c.rx
  let s := s.setCn n { c with rx := rx }
  (s.sendNak n code).flush n none (if code = 1 then 0x31 else 0x36)

/-- A data packet holds more than PMTU bytes, or bytes past its message's end (R214). -/
def Conn.oversized (c : Conn) (p : TrnPkt) : Bool :=
  decide (p.data.length > c.mtu) || decide (p.offset.toNat + p.data.length > p.total.toNat)

/-- The memory key entry of an index: cached, or read from the table and cached (R226). (Log entry 108: DESIGN
CHOICE, unsafe.) -/
def State.keyEntry (s : State) (ix : Nat) : Option (List Byte) × State :=
  match s.trn.keys.find? (fun e => e.1 == ix) with
  | some e => (some e.2, s)
  | none =>
    onLoad (s.load ((s.gf TRN_KEY_BASE TRN_KEY_BASE_BASE <<< 12) + ix * 32) 32)
      (fun bs s => (some bs, { s with trn := { s.trn with keys := ((ix, bs) :: s.trn.keys).take 8192 } }))
      (fun _ s => (none, s))

def peerOff : Nat → PeerWin := fun _ => PeerWin.off
def State.peerWin (s : State) (w : Nat) : PeerWin := Tab.get peerOff s.trn.peer w

/-- R227: the address that a remote access of `len` bytes at RADDR + OFFSET reaches, none when it is refused. -/
def State.remoteTarget (s : State) (c : Conn) (key a len : Nat) (wr : Bool) : Option Nat × State :=
  let ix := key % 2 ^ 24
  if ix ≥ s.gf TRN_KEY_COUNT TRN_KEY_COUNT_COUNT then (none, s)
  else
    match s.keyEntry ix with
    | (none, s) => (none, s)
    | (some e, s) =>
      let w := wordFd e 0 8 6
      let win := s.peerWin w
      let base := fieldLE e 8 8 % 2 ^ 40
      let right := if wr then bitAt win.rights 1 else bitAt win.rights 0
      if wordFd e 0 0 1 = 1 ∧ wordFd e 0 24 8 = key / 2 ^ 24 ∧ fieldLE e 4 2 = c.domain
          ∧ wordFd e 0 (if wr then 2 else 1) 1 = 1 ∧ a + len ≤ fieldLE e 16 8 % 2 ^ 41
          ∧ win.en ∧ right ∧ base + a + len ≤ 2 ^ win.log2 then
        (some (win.target + base + a), s)
      else (none, s)

/-- An MSN that a packet may name (R219). -/
def Conn.msnOk (c : Conn) (m : Nat) : Bool := decide (msnDiff m c.rcvMsn < 8)

/-- Count a data packet in its message entry, filling the entry on the message's first packet (R219). -/
def State.countRx (s : State) (n : Nat) (p : TrnPkt) (send : Bool) : State :=
  let c := s.cn n
  let m := p.msn.toNat
  let e := (c.rx.find? (fun e => e.msn == m)).getD
    ⟨m, p.total.toNat, 0, p.signal.toNat, p.sig, false, false, send, p.chdr⟩
  let e := { e with received := e.received + p.data.length, poison := e.poison || p.poison }
  s.setCn n { c with rx := c.rx.filter (fun x => x.msn != m) ++ [e] }

/-- A WRITE packet at its PSN (R218, R219, R227, R233). (Log entry 107: DEDUCED, unsafe.) -/
def State.writePkt (s : State) (n : Nat) (p : TrnPkt) : State :=
  let c := s.cn n
  match c.place p.psn.toNat with
  | .duplicate => s.sendAck n none
  | .beyond => s.sendNak n 0
  | .accept =>
    if !c.msnOk p.msn.toNat || c.rxDone.contains p.msn.toNat || c.oversized p then s.refusePkt n p 0 2
    else
      match s.remoteTarget c p.mkey.toNat (p.raddr.toNat + p.offset.toNat) p.data.length true with
      | (none, s) => s.refusePkt n p 0 1
      | (some a, s) =>
        match s.store a p.data p.poison with
        | (some _, s) => s.refusePkt n p 0 1
        | (none, s) => (s.countRx n p false).acceptPsn n p.psn.toNat

/-- Data of a SEND for a consumer inside the device. (Log entry 106: DEDUCED, unsafe.) -/
def State.inboxAdd (s : State) (n consumer : Nat) (p : TrnPkt) : State :=
  let m := p.msn.toNat
  let here (b : Inbound) : Bool := b.conn == n && b.msn == m
  let b := (s.trn.inbox.find? here).getD ⟨consumer, n, m, p.chdr, p.total.toNat, [], false, false, []⟩
  let b := { b with
    parts := b.parts ++ [(p.offset.toNat, p.data)], poison := b.poison || p.poison, heads := b.heads ++ [(p.chdr, p.poison)] }
  { s with trn := { s.trn with inbox := s.trn.inbox.filter (fun b => !here b) ++ [b] } }

/-- A SEND packet at its PSN (R219, R223). -/
def State.sendPktIn (s : State) (n : Nat) (p : TrnPkt) : State :=
  let c := s.cn n
  let m := p.msn.toNat
  match c.place p.psn.toNat with
  | .duplicate => s.sendAck n none
  | .beyond => s.sendNak n 0
  | .accept =>
    if c.consumer = 0 || !c.msnOk m || c.rxDone.contains m || c.oversized p then s.refusePkt n p 3 2
    else if c.consumer = 4 then
      match s.iqAt (qkey .receive c.rxq), c.reserved.find? (fun e => e.1 == m) with
      | some q, some e =>
        let hb := if p.chdr.isSome then 16 else 0
        if p.total.toNat + hb > q.buflen then s.refusePkt n p 3 2
        else if !s.hostUp then s.sendNak n 4
        else
          let s := match p.chdr with
            | some h => s.instWrite q.inst e.2.2 (fit 16 h)
            | none => s
          let s := (s.instStore q.inst (e.2.2 + hb + p.offset.toNat) p.data p.poison).2
          (s.countRx n p true).acceptPsn n p.psn.toNat
      | _, _ => s.sendNak n 4
    else if c.consumer = 5 then
      match c.reserved.find? (fun e => e.1 == m) with
      | some e =>
        if p.total.toNat > 4064 then s.refusePkt n p 3 2
        else
          let s := (s.store (e.2.2 + 32 + p.offset.toNat) p.data p.poison).2
          (s.countRx n p true).acceptPsn n p.psn.toNat
      | none => s.sendNak n 4
    else ((s.inboxAdd n c.consumer p).countRx n p true).acceptPsn n p.psn.toNat

/-- RCV_MSN advances past completed messages (R219). -/
def advanceMsn : Nat → Nat → List Nat → Nat × List Nat
  | 0, m, done => (m, done)
  | k + 1, m, done =>
    if done.contains m then advanceMsn k ((m + 1) % 2 ^ 32) (done.filter (· != m)) else (m, done)

/-- An inbound message ends: its entry is freed. A buffer or slot it did not use goes to a later message. -/
def State.endInbound (s : State) (n m : Nat) (used : Bool) : State :=
  let c := s.cn n
  let (msn, done) := advanceMsn 8 c.rcvMsn (c.rxDone ++ [m])
  let last := c.reserved.foldl (fun x e => if msnDiff e.1 c.rcvMsn > msnDiff x c.rcvMsn then e.1 else x) c.rcvMsn
  let res := if used then c.reserved.filter (fun e => e.1 != m)
    else c.reserved.map (fun e => if e.1 = m then ((last + 1) % 2 ^ 32, e.2) else e)
  s.setCn n { c with rx := c.rx.filter (fun e => e.msn != m), rcvMsn := msn, rxDone := done, reserved := res }

/-- READ_REQs that the connection serves. -/
def Conn.serving (c : Conn) : Nat := (c.tx.filter (fun i => i.kind == 2)).length

/-- An item of a message or of a served READ; its PSNs are given as it joins the connection's packets. -/
def txItem (kind count msn src total : Nat) (req inl : List Byte) (inst : Option Nat) : TxItem :=
  ⟨kind, 0, count, msn, src, total, req, inl, 0, inst⟩

/-- Items laid out from a PSN on. -/
def Conn.layTx (c : Conn) : Nat → List TxItem → List TxItem
  | _, [] => []
  | p, i :: l => { i with psn := p } :: Conn.layTx c (c.psnAdd p i.count) l

/-- The items' packets that have been sent at least once, and the rest of the items (R94, R221). -/
def Conn.sentTx (c : Conn) : List TxItem := c.tx.filterMap (fun i =>
  let k := c.psnDiff c.sndTop i.psn
  if k = 0 ∨ k ≥ c.psnMod / 2 then none else some { i with count := min i.count k })
def Conn.unsentTx (c : Conn) : List TxItem := c.tx.filterMap (fun i =>
  let k := c.psnDiff c.sndTop i.psn
  if k = 0 ∨ k ≥ c.psnMod / 2 then some i
  else if k < i.count then some { i with count := i.count - k, skip := i.skip + k } else none)

/-- Allocate PSNs for an item at the end of the connection's packets. -/
def State.addTx (s : State) (n : Nat) (i : TxItem) : State :=
  let c := s.cn n
  s.setCn n { c with tx := c.tx ++ [{ i with psn := c.txEnd }] }

/-- A READY or ABORT goes before every packet that was not yet sent (R94). -/
def State.addFirst (s : State) (n : Nat) (i : TxItem) : State :=
  let c := s.cn n
  s.setCn n { c with tx := c.sentTx ++ c.layTx c.sndTop (i :: c.unsentTx) }

/-- Packets that `total` data bytes take. -/
def Conn.packets (c : Conn) (total : Nat) : Nat := max 1 ((total + c.mtu - 1) / c.mtu)

/-- A READ_REQ at its PSN (R225, R227). Its MSN counts as complete once it is accepted. (Log entry 107: DEDUCED,
unsafe.) -/
def State.readReqIn (s : State) (n : Nat) (p : TrnPkt) : State :=
  let c := s.cn n
  match c.place p.psn.toNat with
  | .duplicate => s.sendAck n none
  | .beyond => s.sendNak n 0
  | .accept =>
    if !c.msnOk p.msn.toNat || c.rxDone.contains p.msn.toNat then s.refusePkt n p 1 2
    else if c.serving ≥ 8 then s.sendNak n 4
    else
      match s.remoteTarget c p.mkey.toNat (p.raddr.toNat + p.offset.toNat) p.total.toNat false with
      | (none, s) => s.refusePkt n p 1 1
      | (some a, s) =>
        let s := s.endInbound n p.msn.toNat false
        let s := s.addTx n (txItem 2 (c.packets p.total.toNat) p.msn.toNat a p.total.toNat [] [] none)
        (s.acceptPsn n p.psn.toNat).pump n

/-- SND_DONE: the oldest MSN not reported done. -/
def Conn.oldest (c : Conn) : Nat := (c.active.head?.map (·.msn)).getD c.sndMsn

/-- An outstanding message is done (R216). -/
def State.msgDone (s : State) (n m status : Nat) : State :=
  let c := s.cn n
  match c.active.find? (fun x => x.msn == m) with
  | none => s
  | some x =>
    let c := { c with active := c.active.filter (fun y => y.msn != m) }
    (s.setCn n { c with sndDone := c.oldest }).complete n x status (if status = 0 ∨ status = 0x12 ∨ status = 0x32
      then reqLength x.req else 0)

/-- A READ_RESP packet at its PSN (R225): placed at LOCAL + OFFSET and counted. A response of a READ that has ended is
accepted and dropped. (Log entry 105: DEDUCED, unsafe.) -/
def State.readRespIn (s : State) (n : Nat) (p : TrnPkt) : State :=
  let c := s.cn n
  let m := p.msn.toNat
  match c.place p.psn.toNat with
  | .duplicate => s.sendAck n none
  | .beyond => s.sendNak n 0
  | .accept =>
    match c.active.find? (fun x => x.msn == m && reqOp x.req == 1) with
    | none => if msnDiff m c.sndMsn ≥ 2 ^ 31 then s.acceptPsn n p.psn.toNat else s.refusePkt n p 2 2
    | some x =>
      if c.oversized p || decide (p.offset.toNat + p.data.length > reqLength x.req) then s.refusePkt n p 2 2
      else
        let a := reqLocal x.req + p.offset.toNat
        let (e, s) := match x.owner, c.inst with
          | .queue .., some i => s.instStore i a p.data p.poison
          | _, _ => s.engStore a p.data p.poison
        match e with
        | some .hostDown => (s.acceptPsn n p.psn.toNat).flush n (some m) 0x11
        | some _ => (s.acceptPsn n p.psn.toNat).msgDone n m 0x10
        | none =>
          let x' := { x with got := x.got + p.data.length, poison := x.poison || p.poison }
          let s := s.setCn n { s.cn n with active := c.active.map (fun y => if y.msn = m then x' else y) }
          let s := s.acceptPsn n p.psn.toNat
          if x'.got ≥ reqLength x.req then s.msgDone n m (if x'.poison then 0x12 else 0) else s

/-! ### Acknowledgements (R221) -/

/-- CREDIT_MSN and the cumulative acknowledgement of an ACK or NAK. -/
def State.ackIn (s : State) (n ack credit : Nat) : State :=
  let c := s.cn n
  let c := if msnDiff credit c.creditMsn < 2 ^ 31 then { c with creditMsn := credit } else c
  let d := c.psnDiff ack c.sndUna
  if d = 0 ∨ d > c.psnDiff c.txEnd c.sndUna then s.setCn n c
  else
    let behind := c.psnDiff c.sndNxt c.sndUna < d
    let past := c.psnDiff c.sndTop c.sndUna < d
    let c := { c with
      sndUna := ack, retry := 0, rtoAt := s.clock, sndNxt := if behind then ack else c.sndNxt,
      sndTop := if past then ack else c.sndTop,
      tx := c.tx.filter (fun i => decide (c.psnDiff (c.psnAdd i.psn i.count) ack < c.psnMod / 2
        ∧ c.psnAdd i.psn i.count ≠ ack)) }
    s.setCn n c

/-- Go back to SND_UNA (R221): RETRY grows, and at RETRY_LIMIT the connection enters FLUSHING with 0x0033. -/
def State.goBack (s : State) (n : Nat) : State :=
  let c := s.cn n
  let limit := max 1 (s.gf TRN_TIMER TRN_TIMER_RETRY_LIMIT)
  let s := s.cnt TRN_RETX TRN_RETX_COUNT 1
  let s := s.setCn n { c with retry := c.retry + 1, sndNxt := c.sndUna, rtoAt := s.clock }
  if c.retry + 1 ≥ limit then s.flush n (some c.oldest) 0x33 else s.pump n

/-- A received ACK (R221): progress, credit and a done message. -/
def State.ackPkt (s : State) (n : Nat) (p : TrnPkt) (done : Bool) : State :=
  let s := s.ackIn n p.psn.toNat p.msn.toNat
  let s := if done then s.msgDone n p.offset.toNat (p.total.toNat % 2 ^ 16) else s
  s.pump n

/-- The message that a NAK of code 1 or 2 refuses: the one that owns ACK_PSN, else the oldest. (Log entry 103:
DEDUCED, unsafe.) -/
def Conn.refused (c : Conn) (ack : Nat) : Nat := ((c.itemAt ack).map (·.msn)).getD c.oldest

/-- A received NAK by its code (R214, R221). -/
def State.nakPkt (s : State) (n : Nat) (p : TrnPkt) : State :=
  let c := s.cn n
  let ack := p.psn.toNat
  let code := p.total.toNat % 256
  let old := c.psnDiff ack c.sndUna ≥ c.psnMod / 2
  let s := s.ackIn n ack p.msn.toNat
  if code = 0 then (if old then s else if (s.cn n).sndUna = (s.cn n).txEnd then s else s.goBack n)
  else if code = 1 then s.flush n (some (c.refused ack)) 0x31
  else if code = 2 then s.flush n (some (c.refused ack)) 0x36
  else if code = 3 then s.flush n none 0x34
  else if code = 4 then (if old then s else s.setCn n { s.cn n with rnrAt := some (s.clock, ack) })
  else s

/-! ### Packet commands -/

/-- A packet of an opcode that is not defined: NAK code 2 at its PSN (R214, R218). -/
def State.badOpcIn (s : State) (n opc : Nat) (p : TrnPkt) : State :=
  match (s.cn n).place p.psn.toNat with
  | .duplicate => s.sendAck n none
  | .beyond => s.sendNak n 0
  | .accept => s.refusePkt n p opc 2

/-- One packet of a cached connection, by the connection's state (R211, R231). -/
def State.pktByState (s : State) (opc : Nat) (done : Bool) (p : TrnPkt) : State :=
  let n := p.dstConn.toNat
  let c := s.cn n
  if c.state = csError ∨ c.state = csFlushing then s.sendNak n 3
  else if c.state ≠ csReady then s.trnDiscard
  else
    let s := s.setCn n { c with lastUse := s.now }
    if opc = 0 then s.writePkt n p
    else if opc = 1 then s.readReqIn n p
    else if opc = 2 then s.readRespIn n p
    else if opc = 3 then s.sendPktIn n p
    else if opc = 4 then s.ackPkt n p done
    else if opc = 5 then s.nakPkt n p
    else s.badOpcIn n opc p

/-- The receive buffer of a port has stopped draining in a class (R213). -/
def State.stopped (s : State) (p : TrnPkt) : Bool := s.trn.stopped.contains (p.port.val, p.tc.val)

/-- Its connection is not cached, or frames of it wait for its context (R213). -/
def State.misses (s : State) (p : TrnPkt) : Bool :=
  !s.isCached p.dstConn.toNat || s.trn.miss.any (fun e => e.2.2.dstConn == p.dstConn)

/-- The packet is for this node and the engine is enabled (R214, R237). -/
def State.takesPkt (s : State) (p : TrnPkt) : Bool := s.trnEn && (p.roce || p.dstAddr == s.rd TRN_ADDR)

/-- A packet out of the receive buffer (R213, R214, R234): discarded, into its port's miss queue, or to its connection. -/
def State.pktOut (s : State) (opc : Nat) (done : Bool) (p : TrnPkt) : State :=
  let s := if p.roce && p.ce then s.cnt TRN_DISCARD TRN_DISCARD_ECN 1 else s
  if !s.takesPkt p then s.trnDiscard
  else if s.misses p then ({ s with trn := { s.trn with miss := s.trn.miss ++ [(opc, done, p)] } }).showMiss
  else (s.hold p.dstConn.toNat).pktByState opc done p

/-- The packet would miss while its port's miss queue is full: its class stops draining (R213). -/
def State.stops (s : State) (p : TrnPkt) : Bool := s.takesPkt p && s.misses p && decide (s.missCount p.port ≥ 256)

def State.stopClass (s : State) (p : TrnPkt) : State :=
  { s with trn := { s.trn with stopped := s.trn.stopped ++ [(p.port.val, p.tc.val)] } }.showMiss

/-- A received packet (R213, R214, R235): its frame leaves the receive buffer unless its class has stopped draining. -/
def State.pktIn (s : State) (opc : Nat) (done : Bool) (p : TrnPkt) : State :=
  if !s.portLive p.port || (s.isEth p.port != p.roce) || s.stopped p then s
  else if s.stops p then s.stopClass p
  else (s.takeWhere p.port p.tc (if p.roce then (fun f => roceNames f p.dstConn.toNat (p.psn.toNat % 2 ^ 24))
    else isFrameOf p opc done)).pktOut opc done p

/-- Frames of no packet command (R214): an opcode that is not defined is refused with NAK code 2, and a frame of another VERSION
or shorter than the header is discarded and counted. (Log entry 322: DESIGN CHOICE, safe.) -/
def State.oddFrame (s : State) (port : Fin 32) (tc : Fin 8) (f : List Byte) : State :=
  let p := framePkt port tc f
  if f.length < 48 ∨ frameVersion f ≠ 1 then (s.takeFrame port tc f).trnDiscard
  else if frameOpc f ≤ 5 ∨ s.stopped p then s
  else if s.stops p then s.stopClass p
  else (s.takeFrame port tc f).pktOut (frameOpc f) (frameDone f) p

/-- The frames of a port that no packet command takes are handled as they arrive. -/
def State.oddFrames (s : State) (port : Fin 32) : State :=
  if s.isEth port then s
  else (s.fp port).rxq.foldl (fun s e => s.oddFrame port (Fin.ofNat 8 e.1) e.2.1) s

def execWritePacket (pkt : TrnPkt) (s : State) : Res := ok (s.pktIn 0 false pkt)
def execReadReq (pkt : TrnPkt) (s : State) : Res := ok (s.pktIn 1 false pkt)
def execReadResp (pkt : TrnPkt) (s : State) : Res := ok (s.pktIn 2 false pkt)
def execSendPacket (pkt : TrnPkt) (s : State) : Res := ok (s.pktIn 3 false pkt)
def execAck (pkt : TrnPkt) (done : Bool) (s : State) : Res := ok (s.pktIn 4 done pkt)
def execNak (pkt : TrnPkt) (s : State) : Res := ok (s.pktIn 5 false pkt)

/-- The receive buffers of a port drain again once its miss queue has room (R213). -/
def State.drainAgain (s : State) (port : Nat) : State :=
  if s.missCount port < 256 then { s with trn := { s.trn with stopped := s.trn.stopped.filter (fun e => e.1 != port) } } else s

/-- The 256 bytes of a context are read (R209, R213): false when the read from host memory fails. -/
def State.readCtx (s : State) (n : Nat) : Bool × State :=
  let r := s.load (s.ctxAddr n) 256
  let host := decide (n ≥ s.gf TRN_CTX_HBM_COUNT TRN_CTX_HBM_COUNT_COUNT)
  (!(host && r.1.isSome), r.2.2)

/-- R213: a context fetch ends; the queued packets proceed, or are discarded when a fetch from host memory failed. -/
def execConnectionContextFetch (conn : BitVec 20) (readError : Bool) (s : State) : Res :=
  let n := conn.toNat
  let mine := s.trn.miss.filter (fun e => e.2.2.dstConn == conn)
  let rest := s.trn.miss.filter (fun e => e.2.2.dstConn != conn)
  let ports := (mine.map (fun e => e.2.2.port.val)).eraseDups
  if mine.isEmpty then ok s
  else
    let host := decide (n ≥ s.gf TRN_CTX_HBM_COUNT TRN_CTX_HBM_COUNT_COUNT)
    let (good, s) := s.readCtx n
    if !good || (host && readError) then
      let s := mine.foldl (fun s _ => s.trnDiscard) ({ s with trn := { s.trn with miss := rest } }).showMiss
      ok ((ports.foldl (fun s p => s.drainAgain p) s).settle n)
    else
      match s.touch n with
      | (true, s) =>
        let s := mine.foldl (fun s e => s.pktByState e.1 e.2.1 e.2.2) ({ s with trn := { s.trn with miss := rest } }).showMiss
        ok ((ports.foldl (fun s p => s.drainAgain p) s).settle n)
      | (false, s) => ok s

/-! ### Notification of a completed message (R219, R223) -/

/-- Write the records of completed slots at the front of the firmware receive ring: each slot's header, with PHASE, was
written when its message completed; here the slot list drops the leading completed ones. -/
def dropDone : List (Nat × Bool) → List (Nat × Bool)
  | (_, true) :: r => dropDone r
  | l => l

/-- A CONSUMER 5 message: the record header, with PHASE, then the core's EVENTS bit (R223, R401). -/
def State.notifyFirmware (s : State) (n : Nat) (e : RxMsg) (slot addr : Nat) : State :=
  let phase := if (slot / 2 ^ s.fwrxLog) % 2 = 0 then 1 else 0
  let s := s.poke addr (leBytes 4 n ++ leBytes 4 e.msn ++ leBytes 4 e.total
    ++ leBytes 4 (phase + b2n e.chdr.isSome * 2 + b2n e.poison * 4) ++ fit 16 (e.chdr.getD []))
  let slots := s.trn.slots.map (fun x => if x.1 = slot then (slot, true) else x)
  let s := { s with trn := { s.trn with slots := dropDone slots } }
  s.setEvents (s.gf TRN_FWRX_CTL TRN_FWRX_CTL_EVT_CORE)
    (BitVec.ofNat 32 (2 ^ (16 + s.gf TRN_FWRX_CTL TRN_FWRX_CTL_EVT_BIT)))

/-- Step 2 of R219 for a SEND message. -/
def State.notify (s : State) (n : Nat) (e : RxMsg) : State :=
  let c := s.cn n
  if c.consumer = 4 then
    match c.reserved.find? (fun r => r.1 == e.msn) with
    | some r =>
      let len := e.total + (if e.chdr.isSome then 16 else 0)
      (s.iqComplete (qkey .receive c.rxq) (rxCompletion len 0x80 0 c.tc r.2.1 n)).iqDone (qkey .receive c.rxq)
    | none => s
  else if c.consumer = 5 then
    match c.reserved.find? (fun r => r.1 == e.msn) with
    | some r => s.notifyFirmware n e r.2.1 r.2.2
    | none => s
  else
    { s with trn := { s.trn with inbox := s.trn.inbox.map (fun b =>
      if b.conn = n ∧ b.msn = e.msn then { b with complete := true } else b) } }

/-- The inbound message is wholly here. -/
def RxMsg.whole (e : RxMsg) : Bool := decide (e.received = e.total) && !e.failed

/-- R219: an inbound message is complete and visible: signal, notification, entry freed, ACK with DONE. -/
def execMessageComplete (conn : BitVec 20) (msn : W32) (s : State) : Res :=
  let n := conn.toNat
  let c := s.cn n
  match c.rx.find? (fun e => e.msn == msn.toNat) with
  | none => ok s
  | some e =>
    if c.state ≠ csReady ∨ !e.whole then ok s
    else
      let s := s.hold n
      let (sigOk, s) := if e.sig then s.setVirtual 8 c.fctx e.signal needRemoteSet else (true, s)
      let s := if e.send then s.notify n e else s
      let s := s.endInbound n e.msn e.send
      ok (s.sendAck n (some (e.msn, if !sigOk then 0x32 else if e.poison then 0x12 else 0)))

/-! ### Requests and starts (R215, R222, R224) -/

/-- The status that refuses a request as it is taken, none when it is queued (R215, R216, R352). -/
def State.reqCheck (s : State) (r : List Byte) (inst : Option Nat) : Option Nat :=
  let op := reqOp r
  let len := reqLength r
  let c := s.cn (reqConn r)
  if op > 2 ∨ len > 0x40000000 ∨ (op = 1 ∧ len = 0) then some 0x02
  else if inst.isSome ∧ c.inst ≠ inst then some 0x02
  else if c.state ≠ csReady then some 0x30
  else if c.roce ∧ (reqSig r ∨ reqHdr r) then some 0x37
  else none

/-- Queue a request at its connection, or complete it with the status that refuses it. -/
def State.takeReq (s : State) (owner : MsgOwner) (r : List Byte) (inst : Option Nat) (inl : List Byte := [])
    (poison : Bool := false) : State :=
  let n := reqConn r
  let m : Msg := ⟨owner, r, 0, 0, poison, inl⟩
  match s.reqCheck r inst with
  | some st => s.complete n m st 0
  | none => s.setCn n { s.cn n with waiting := (s.cn n).waiting ++ [m] }

/-- The request at the front of the firmware ring (R237, R491): its index, its bytes, or a fetch that failed. -/
def State.nextRing (s : State) : Option (Nat × List Byte) × State :=
  let b := TRN_REQ_BASE
  let r := s.ring b
  if !s.cmdEn b || s.bit TRN_RERR TRN_RERR_HALTED || !s.trnEn || r.fetchIx = r.tail then (none, s)
  else
    match s.fetchEntry b r.fetchIx with
    | (some d, s) => (some (r.fetchIx, d), s)
    | (none, s) => (none, (s.sf TRN_RERR TRN_RERR_FETCH_ERR 1).sf TRN_RERR TRN_RERR_HALTED 1)

/-- Take the next request of operation `op` from its source; a front request of another operation is not this row's. -/
def State.request1 (s : State) (op : Nat) (src : MsgSource) : State :=
  match src with
  | .ring =>
    match s.nextRing with
    | (some (ix, d), s) =>
      if reqOp d = op ∨ (op = 0 ∧ reqOp d > 2) then
        let r := s.ring TRN_REQ_BASE
        let s := s.setRing TRN_REQ_BASE { r with fetchIx := ix16 (ix + 1), issued := r.issued ++ [⟨ix, r.epoch, d, 0, true, none⟩] }
        s.takeReq (.ring ix r.epoch) d none
      else s
    | (none, s) => s
  | .queue q =>
    let key := qkey .transport q.val
    match s.iqAt key with
    | some iq =>
      if s.iqFetches iq && decide (iq.posted > 0) && s.trnEn && s.hostUp then
        let d := s.hostBytes (s.instPasid iq.inst) (iq.ring + iq.head % 2 ^ iq.log2n * 64) 64
        if reqOp d = op ∨ (op = 0 ∧ reqOp d > 2) then
          let s := s.setIq key { iq with head := (iq.head + 1) % 2 ^ 16, outstanding := iq.outstanding + 1 }
          s.takeReq (.queue q iq.head (s.instOf iq.inst).gen) d (some iq.inst)
        else s
      else s
    | none => s
  | .internal who req =>
    if s.trnEn && reqOp req = op then s.takeReq (.internal who) (fit 64 req) none else s

def execWrite (src : MsgSource) (s : State) : Res := ok (s.request1 0 src)
def execRead (src : MsgSource) (s : State) : Res := ok (s.request1 1 src)
def execSend (src : MsgSource) (s : State) : Res := ok (s.request1 2 src)

/-- A message is a READY or ABORT of the collectives engine (R94). -/
def Msg.control (m : Msg) : Bool := m.owner == .internal 1 && bitAt (reqTag m.req) 14

/-- Start the oldest queued message of a connection when R212, R215, R222 and R224 let it. Received credit is ignored on RoCEv2
connections (R234). -/
def State.startMsg (s : State) (n : Nat) : State :=
  let c := s.cn n
  match c.waiting with
  | [] => s
  | m :: rest =>
    let d := msnDiff c.creditMsn c.sndMsn
    if c.state ≠ csReady ∨ c.active.length ≥ 8 ∨ (!c.roce ∧ (d = 0 ∨ d ≥ 2 ^ 31)) ∨ (reqFence m.req ∧ !c.active.isEmpty)
        ∨ !s.trnEn ∨ (!s.isCached n ∧ s.heldContexts ≥ 24576) then s
    else
      match s.touch n with
      | (false, s) => s
      | (true, s) =>
        let op := reqOp m.req
        let len := reqLength m.req
        let kind := if op = 0 then 0 else if op = 1 then 1 else 3
        let inst := match m.owner with
          | .queue .. => c.inst
          | _ => none
        let i := txItem kind (if op = 1 then 1 else c.packets len) c.sndMsn (reqLocal m.req) len m.req m.inl inst
        let s := s.setCn n { s.cn n with
          waiting := rest, active := c.active ++ [{ m with msn := c.sndMsn }], sndMsn := (c.sndMsn + 1) % 2 ^ 32 }
        (if m.control && c.consumer == 1 then s.addFirst n i else s.addTx n i).pump n

def execMessageStart (conn : BitVec 20) (s : State) : Res := ok (s.startMsg conn.toNat)

/-- Messages that an internal requester takes back (R110): those queued, and the last ones started of which no packet was sent;
the MSNs and PSNs behind them close up. (Log entry 59: DEDUCED, unsafe.) -/
def State.withdraw (s : State) (n : Nat) (mine : Msg → Bool) : State :=
  let c := s.cn n
  let own (m : Msg) (l : List TxItem) : Bool := l.any (fun i => i.kind != 2 && i.msn == m.msn)
  let tail := (c.active.reverse.takeWhile (fun m => own m c.unsentTx && !own m c.sentTx)).reverse
  let keep := tail.filter (fun m => !mine m)
  let first := (tail.head?.map (·.msn)).getD c.sndMsn
  let named := keep.zipIdx.map (fun e => (e.1.msn, (first + e.2) % 2 ^ 32))
  let items := c.unsentTx.filterMap (fun i =>
    if i.kind = 2 ∨ !tail.any (fun m => m.msn == i.msn) then some i
    else (named.find? (fun e => e.1 == i.msn)).map (fun e => { i with msn := e.2 }))
  s.setCn n { c with
    waiting := c.waiting.filter (fun m => !mine m)
    active := c.active.take (c.active.length - tail.length)
      ++ keep.zipIdx.map (fun e => { e.1 with msn := (first + e.2) % 2 ^ 32 })
    sndMsn := (first + keep.length) % 2 ^ 32, tx := c.sentTx ++ c.layTx c.sndTop items }

/-- Hand an internal message to the engine and start it where it may start at once. -/
def State.internalMsg (s : State) (who : Nat) (req : List Byte) (inl : List Byte := []) (poison : Bool := false) : State :=
  (s.takeReq (.internal who) req none inl poison).startMsg (reqConn req)

/-- Take the result of an internal request by its requester and TAG. (Log entry 106: DEDUCED, unsafe.) -/
def State.resultOf (s : State) (who tag : Nat) : Option Nat × State :=
  let here (e : Nat × Nat × Nat × Nat × Nat) : Bool := e.1 == who && e.2.1 == tag
  match s.trn.results.find? here with
  | some e => (some e.2.2.1, { s with trn := { s.trn with results := s.trn.results.eraseP here } })
  | none => (none, s)

/-! ### Timers (R214, R220, R221) -/

def usCycles (us : Nat) : Nat := nsCycles (us * 1000)

/-- R221: the retransmit timer, TRN_TIMER.RTO_US × 2^RETRY µs. -/
def execRetransmitTimeout (conn : BitVec 20) (s : State) : Res :=
  let n := conn.toNat
  let c := s.cn n
  let rto := max 10 (s.gf TRN_TIMER TRN_TIMER_RTO_US) * 2 ^ c.retry
  if c.state = csReady ∧ c.sndUna ≠ c.sndNxt ∧ s.clock - c.rtoAt ≥ usCycles rto then ok (s.goBack n) else ok s

/-- R220: the hole timer reaches HOLE_US. -/
def execHoleTimerExpiry (conn : BitVec 20) (s : State) : Res :=
  let n := conn.toNat
  let c := s.cn n
  match c.holeAt with
  | some t =>
    if c.state = csReady ∧ s.clock - t ≥ usCycles (max 1 (s.gf TRN_TIMER TRN_TIMER_HOLE_US)) then
      ok ((s.setCn n { c with holeAt := some s.clock }).sendNak n 0)
    else ok s
  | none => ok s

/-- R220: 2 µs with accepted packets not acknowledged. -/
def execAckTimerExpiry (conn : BitVec 20) (s : State) : Res :=
  let n := conn.toNat
  match (s.cn n).ackAt with
  | some t => if s.clock - t ≥ usCycles 2 ∧ (s.cn n).state = csReady then ok (s.sendAck n none) else ok s
  | none => ok s

/-- R214: 20 µs after NAK code 4 the sender goes back. -/
def execRnrRetry (conn : BitVec 20) (s : State) : Res :=
  let n := conn.toNat
  match (s.cn n).rnrAt with
  | some (t, _) =>
    if s.clock - t ≥ usCycles 20 ∧ (s.cn n).state = csReady then
      ok ((s.setCn n { s.cn n with rnrAt := none }).goBack n)
    else ok s
  | none => ok s

/-! ### Link commands that let packets go -/

/-- R193: a received CREDIT updates the granted counts, and packets that waited for credit are sent. -/
def execCredit (p : Fin 32) (counts : Vector W32 8) (s : State) : Res :=
  if s.portLive p && !s.isEth p then ok (s.gotCredit p (counts.toList.map (·.toNat))).pumpAll else ok s

/-- R190, R194: a complete frame. One whose class has no free buffer exceeded its credit. -/
def execFrame (p : Fin 32) (tc : Fin 8) (enc : Bool) (bytes : List Byte) (lost : Bool) (s : State) : Res :=
  if !s.portLive p || s.isEth p then ok s
  else
    let cells := cellsFor bytes.length
    if (s.fp p).used tc + cells > s.portAlloc p tc then ok (s.discardFrame p)
    else ok ((s.recvFrame p tc enc bytes cells lost).oddFrames p)

/-- R186, R188: a codeword on a lane; its control cells may grant credit. -/
def execCodeword (lane : Fin 144) (ccw : BitVec 20) (uncorrectable : Bool) (corrected : Fin 16)
    (cells : List (List Byte)) (s : State) : Res :=
  let s := s.codewordIn lane ccw.toNat uncorrectable corrected cells
  ok ((List.finRange 32).foldl (fun s p => s.oddFrames p) s).pumpAll

/-- R195: the port comes up, or a retrained lane rejoins. -/
def execPortUp (p : Fin 32) (spare : Bool) (s : State) : Res := ok (s.portUp p spare).pumpAll

/-! ### The host link goes down (R232) -/

/-- LOCAL in the host-memory range. -/
def localInHost (a : Nat) : Bool := decide (hostBase ≤ a) && decide (a < hostBase + 0x10000000000)

/-- Every message not done whose LOCAL lies in host memory completes with 0x0011, and its connection flushes. -/
def State.trnHostDown (s : State) : State :=
  (s.trn.conns.map (·.1)).foldl (fun s n =>
    let c := s.cn n
    let bad (m : Msg) : Bool := (match m.owner with | .queue .. => true | _ => false) || localInHost (reqLocal m.req)
    match (c.active ++ c.waiting).find? bad with
    | some m =>
      let s := s.setCn n { c with waiting := c.waiting.filter (fun x => !bad x) }
      let s := (c.waiting.filter bad).foldl (fun s x => s.complete n x 0x11 0) s
      let hit := c.active.filter bad
      let s := s.setCn n { s.cn n with active := c.active.filter (fun x => !bad x) }
      (hit.foldl (fun s x => s.completeFailed n x 0x11) s).flush n (some m.msn) 0x11
    | none => s) s

/-! ### Register writes (R228 to R230, R237) -/

def State.anyConn (s : State) : Bool := s.trn.conns.any (fun e => e.2.state != csFree)

/-- The consistency code of TRN_CTL.EN. -/
def State.trnCheck (s : State) : Option Nat :=
  let cnt := s.gf TRN_CTX_HBM_COUNT TRN_CTX_HBM_COUNT_COUNT
  let cb := s.gf TRN_CTX_BASE TRN_CTX_BASE_BASE <<< 16
  let kb := s.gf TRN_KEY_BASE TRN_KEY_BASE_BASE <<< 12
  let kn := s.gf TRN_KEY_COUNT TRN_KEY_COUNT_COUNT
  let hb := s.gf TRN_CTX_HOST_BASE TRN_CTX_HOST_BASE_BASE <<< 12
  if !inHbm cb (cnt * 256) || !inHbm kb (kn * 32) || (overlaps cb (cnt * 256) kb (kn * 32) && cnt != 0 && kn != 0) then
    some 0x0690
  else if cnt < 1048576 ∧ !(hostBase ≤ hb ∧ hb + (1048576 - cnt) * 256 ≤ hostBase + 0x10000000000) then some 0x0691
  else if s.rd TRN_ADDR = 0 then some 0x0692
  else none

def writeTrnCtl (q : Requester) (v : W32) (s : State) : State :=
  if !coreWrites q then s
  else
    let en := s.bit TRN_CTL TRN_CTL_EN
    if bitAt v.toNat 0 && !en then
      match s.trnCheck with
      | some c => s.sf TRN_CTL TRN_CTL_REFUSAL c
      | none => (s.sf TRN_CTL TRN_CTL_REFUSAL 0).sf TRN_CTL TRN_CTL_EN 1
    else if !bitAt v.toNat 0 && en && !s.anyConn then s.sf TRN_CTL TRN_CTL_EN 0
    else s

def execTrnEnSet (q : Requester) (v : W32) (s : State) : Res := ok (writeTrnCtl q (v ||| 1) s)
def execTrnEnClear (q : Requester) (v : W32) (s : State) : Res := ok (writeTrnCtl q (v &&& ~~~1#32) s)

/-- A base or count register of the block: ignored while EN is one. -/
def writeTrnBase (q : Requester) (off : Nat) (mask v : W32) (s : State) : State :=
  if coreWrites q && !s.bit TRN_CTL TRN_CTL_EN then s.wr off (v &&& mask) else s

/-- Start an invalidation of the key cache (R228): one entry, or all. -/
def State.keyInval (s : State) (all : Bool) (ix : Nat) : State :=
  { s.sf TRN_KEY_INVAL TRN_KEY_INVAL_BUSY 1 with
    trn := { s.trn with keyInval := some (if all then none else some ix) } }

def writeTrnKeyInval (q : Requester) (v : W32) (s : State) : State :=
  if !coreWrites q || s.bit TRN_KEY_INVAL TRN_KEY_INVAL_BUSY then s
  else (s.sf TRN_KEY_INVAL TRN_KEY_INVAL_INDEX (v.toNat % 2 ^ 24)).keyInval (bitAt v.toNat 30) (v.toNat % 2 ^ 24)

def execTrnKeyInval (q : Requester) (v : W32) (s : State) : Res := ok (writeTrnKeyInval q v s)

/-- R228: the invalidation ends and BUSY clears. -/
def execTrnKeyInvalDone (s : State) : Res :=
  match s.trn.keyInval with
  | none => ok s
  | some w =>
    let keys := match w with
      | none => []
      | some ix => s.trn.keys.filter (fun e => e.1 != ix)
    ok ({ s with trn := { s.trn with keys := keys, keyInval := none } }.sf TRN_KEY_INVAL TRN_KEY_INVAL_BUSY 0)

/-- A staged peer window (R229). -/
def State.stagedWin (s : State) (w : Nat) : PeerWin :=
  ⟨s.gf (PEER_WIN_TARGET w) PEER_WIN_TARGET_TARGET <<< 12, s.bit (PEER_WIN_CFG w) PEER_WIN_CFG_EN,
    s.gf (PEER_WIN_CFG w) PEER_WIN_CFG_LOG2SIZE, s.gf (PEER_WIN_CFG w) PEER_WIN_CFG_RIGHTS⟩

/-- Every byte of a range of the host-memory range lies in an enabled host window (R329). -/
def State.hostMapped (s : State) (a n : Nat) : Bool :=
  decide (a + n ≤ hostBase + 0x100_0000_0000) &&
  (List.range (spans 0x8000_0000 (a - hostBase) n)).all (fun k =>
    let base := hostBase + ((a - hostBase) / 0x8000_0000 + k) * 0x8000_0000
    let e := s.hwinOf (max a base)
    e.en && decide (min (a + n) (base + 0x8000_0000) - base ≤ 2 ^ e.log2))

/-- A window's range lies in HBM, in mapped host memory, or in an accelerator port's outbound window (R124, R229). -/
def State.peerTargetOk (s : State) (w : PeerWin) : Bool :=
  let n := 2 ^ w.log2
  inHbm w.target n
    || (decide (hostBase ≤ w.target) && decide (w.target < accelBase) && s.hostMapped w.target n)
    || (decide (accelBase ≤ w.target) && decide (w.target < accelBase + 8 * accelSpan) && s.accelOk w.target n)

/-- The consistency code of a commit of the staged windows (R230). -/
def State.peerCheck (s : State) (ws : List PeerWin) : Option Nat :=
  let on := ws.filter (·.en)
  let pairs := (on.zipIdx).flatMap (fun a => (on.drop (a.2 + 1)).map (fun b => (a.1, b)))
  if on.any (fun w => decide (w.log2 < 12) || decide (w.log2 > 40) || w.target % 2 ^ w.log2 != 0) then some 0x0698
  else if on.any (fun w => !s.peerTargetOk w) then some 0x0699
  else if pairs.any (fun p => overlaps p.1.target (2 ^ p.1.log2) p.2.target (2 ^ p.2.log2)) then some 0x069A
  else none

def State.peerPending (s : State) : Bool := s.bit PEER_WIN_COMMIT PEER_WIN_COMMIT_PENDING

/-- Commit the staged set: the code that refuses it, or PENDING. -/
def State.peerCommit (s : State) : Option Nat × State :=
  match s.peerCheck ((List.range 64).map s.stagedWin) with
  | some c => (some c, s.sf PEER_WIN_COMMIT PEER_WIN_COMMIT_REFUSAL c)
  | none => (none, (s.sf PEER_WIN_COMMIT PEER_WIN_COMMIT_REFUSAL 0).sf PEER_WIN_COMMIT PEER_WIN_COMMIT_PENDING 1)

def writePeerCommit (q : Requester) (v : W32) (s : State) : State :=
  if coreWrites q && bitAt v.toNat 31 && !s.peerPending then s.peerCommit.2 else s

def execPeerWinCommit (q : Requester) (v : W32) (s : State) : Res := ok (writePeerCommit q (v ||| 0x80000000#32) s)

/-- Staged registers of the windows: no effect while PENDING. -/
def writePeerWin (q : Requester) (off : Nat) (mask v : W32) (s : State) : State :=
  if coreWrites q && !s.peerPending then s.wr off (v &&& mask) else s

/-- R230: the active set takes the whole staged set at a packet boundary. -/
def execPeerWinActivate (s : State) : Res :=
  if s.peerPending then
    let peer := (List.range 64).foldl (fun t w => Tab.set peerOff t w (s.stagedWin w)) []
    ok ({ s with trn := { s.trn with peer := peer } }.sf PEER_WIN_COMMIT PEER_WIN_COMMIT_PENDING 0)
  else ok s

/-- The request ring's registers (R237). A refusal is written to TRN_RERR and to TRN_CTL. -/
def writeTrnRingBase (q : Requester) (cmpl hi : Bool) (v : W32) (s : State) : State :=
  if !coreWrites q then s
  else if cmpl then s.writeCmplBase TRN_REQ_BASE hi v else s.writeCmdBase TRN_REQ_BASE hi v

def writeTrnRctl (q : Requester) (v : W32) (s : State) : State :=
  if !coreWrites q then s
  else
    let t := s.writeRingCtl TRN_REQ_BASE TRN_RERR false (if s.trnEn then none else some 0x0693) v
    if s.setsEnable TRN_REQ_BASE v then t.sf TRN_CTL TRN_CTL_REFUSAL (t.gf TRN_RERR TRN_RERR_REFUSAL) else t

def writeTrnReqDb (q : Requester) (v : W32) (s : State) : State :=
  if coreWrites q then s.writeDoorbell TRN_REQ_BASE TRN_RERR (v.toNat % 2 ^ 16) else s

def writeTrnCmplHead (q : Requester) (v : W32) (s : State) : State :=
  if coreWrites q then
    let s := State.drainTrn 65536 (s.writeCmplHead TRN_REQ_BASE v)
    (s.trn.conns.map (·.1)).foldl (fun s n => s.settle n) s
  else s

/-- TRN_RERR: its RW1C bits; clearing HALTED resumes the ring. -/
def writeTrnRerr (q : Requester) (v : W32) (s : State) : State :=
  if coreWrites q then s.wr TRN_RERR (s.rd TRN_RERR &&& ~~~(v &&& 7#32)) else s

def execTrnReqDb (q : Requester) (v : W32) (s : State) : Res := ok (writeTrnReqDb q v s)
def execTrnReqBaseWrite (q : Requester) (cmpl hi : Bool) (v : W32) (s : State) : Res := ok (writeTrnRingBase q cmpl hi v s)
def execTrnCmdEnSet (q : Requester) (v : W32) (s : State) : Res := ok (writeTrnRctl q (v ||| 1) s)
def execTrnCmdEnClear (q : Requester) (v : W32) (s : State) : Res := ok (writeTrnRctl q (v &&& ~~~1#32) s)
def execTrnCmplEnSet (q : Requester) (v : W32) (s : State) : Res := ok (writeTrnRctl q (v ||| 2) s)
def execTrnCmplHeadWrite (q : Requester) (v : W32) (s : State) : Res := ok (writeTrnCmplHead q v s)
def execTrnHaltedResume (q : Requester) (v : W32) (s : State) : Res := ok (writeTrnRerr q (v ||| 1) s)

/-- A CONSUMER 5 connection is READY: the receive ring's base and control are fixed. -/
def State.fwrxUsed (s : State) : Bool := s.trn.conns.any (fun e => e.2.state == csReady && e.2.consumer == 5)

def writeTrnFwrxBase (q : Requester) (hi : Bool) (v : W32) (s : State) : State :=
  if coreWrites q && !s.fwrxUsed then
    let keep := if hi then v.toNat % 2 ^ 20 else v.toNat / 4096 * 4096 + v.toNat % 32
    let s := s.wr (if hi then TRN_FWRX_BASE + 4 else TRN_FWRX_BASE) (BitVec.ofNat 32 keep)
    let s := (s.sf TRN_FWRX_STATUS TRN_FWRX_STATUS_TAIL 0).sf TRN_FWRX_HEAD TRN_FWRX_HEAD_HEAD 0
    { s with trn := { s.trn with slots := [], unused := s.trn.unused.filter (fun e => e.1 != 0) } }
  else s

/-- TRN_FWRX_CTL (R237): EN runs the check of the ring; a refusal's code goes to TRN_CTL.REFUSAL. -/
def writeTrnFwrxCtl (q : Requester) (v : W32) (s : State) : State :=
  if !coreWrites q || s.fwrxUsed then s
  else
    let w := v.toNat
    let s := (s.sf TRN_FWRX_CTL TRN_FWRX_CTL_EVT_BIT (bitsOf w 16 4)).sf TRN_FWRX_CTL TRN_FWRX_CTL_EVT_CORE (bitsOf w 8 5)
    if bitAt w 31 && !s.bit TRN_FWRX_CTL TRN_FWRX_CTL_EN then
      if ringValid s.fwrxBase s.fwrxLog 4096 then
        (s.sf TRN_FWRX_CTL TRN_FWRX_CTL_EN 1).sf TRN_CTL TRN_CTL_REFUSAL 0
      else s.sf TRN_CTL TRN_CTL_REFUSAL 0x0694
    else s.sf TRN_FWRX_CTL TRN_FWRX_CTL_EN (bitsOf w 31 1)

def execTrnFwrxEnSet (q : Requester) (v : W32) (s : State) : Res := ok (writeTrnFwrxCtl q (v ||| 0x80000000#32) s)

/-- R223: firmware frees slots, and connections may reserve and grant again. -/
def writeTrnFwrxHead (q : Requester) (v : W32) (s : State) : State :=
  if coreWrites q then
    let s := s.sf TRN_FWRX_HEAD TRN_FWRX_HEAD_HEAD (v.toNat % 2 ^ 16)
    (s.trn.conns.map (·.1)).foldl (fun s n => if (s.cn n).consumer = 5 then s.reserve n else s) s
  else s

def execTrnFwrxHeadWrite (q : Requester) (v : W32) (s : State) : Res := ok (writeTrnFwrxHead q v s)

/-! ### Syncen operations (R238); domain 9 carries them (R376) -/

def domTrn : Option Nat := some 9

/-- The lowest free connection number among `k` from `n`. -/
def State.freeConn (s : State) : Nat → Nat → Option Nat
  | 0, _ => none
  | k + 1, n => if (s.cn n).state = csFree then some n else State.freeConn s k (n + 1)

/-- Fields in range (R210, R238). -/
def connSpecOk (c : ConnSpec) : Bool :=
  decide (c.consumer ≤ 5) && decide (c.tc ≤ 7) && decide (c.pmtu ≤ 4) && decide (c.fctx < 4096) && decide (c.rxq < 8192)
    && (!c.roce || (decide (2 ≤ c.pmtu) && (List.range 8).any (fun p => c.portmask.toNat == 2 ^ p)))

/-- R211, R238. (Log entries 100: DESIGN CHOICE, unsafe; 109: DEDUCED, unsafe.) -/
def execSynTrnConnCreate (r : SynReq) (conn : Option W32) (spec : ConnSpec) (s : State) : Res :=
  ok (s.syn 0x0900 domTrn r fun s =>
    let pick := match conn with
      | some n => if n.toNat < 1048576 then some n.toNat else none
      | none => s.freeConn 1048576 0
    match pick with
    | none => refuse s (if conn.isSome then 0x0102 else 0x0301)
    | some n =>
      if !connSpecOk spec then refuse s 0x0102
      else if (s.cn n).state ≠ csFree then refuse s 0x0301
      else
        let s := s.setCn n { Conn.reset with
          state := csInit, roce := spec.roce, consumer := spec.consumer, tc := spec.tc, pmtu := spec.pmtu,
          domain := spec.domain.toNat, fctx := spec.fctx, portmask := spec.portmask.toNat,
          peerAddr := spec.peerAddr.toNat, roceAddr := spec.addrRec, rxq := spec.rxq,
          sndTable := (s.fresh 43).toNat * 512, roceAt := if spec.roce then (s.tick.fresh 46).toNat * 64 else 0 }
        success (s.tick.tick.hold n) (leBytes 4 n))

/-- R211, R223, R238. -/
def execSynTrnConnReady (r : SynReq) (conn : BitVec 20) (peerConn : BitVec 24) (sndPsn rcvPsn sndMsn rcvMsn : W32)
    (s : State) : Res :=
  ok (s.syn 0x0901 domTrn r fun s =>
    let n := conn.toNat
    let c := s.cn n
    let rxOk := match s.iqAt (qkey .receive c.rxq), c.inst with
      | some q, some i => q.inst == i && (s.instOf i).state == .enabled
      | _, _ => false
    if c.state ≠ csInit then refuse s 0x0201
    else if c.consumer = 5 ∧ !s.bit TRN_FWRX_CTL TRN_FWRX_CTL_EN then refuse s 0x0694
    else if c.consumer = 4 ∧ !rxOk then refuse s 0x0695
    else
      let s := s.setCn n { c with
        state := csReady, peerConn := peerConn.toNat, sndNxt := sndPsn.toNat % c.psnMod,
        sndUna := sndPsn.toNat % c.psnMod, sndTop := sndPsn.toNat % c.psnMod, sndMsn := sndMsn.toNat, sndDone := sndMsn.toNat, creditMsn := sndMsn.toNat,
        rcvEpsn := rcvPsn.toNat % c.psnMod, rcvMsn := rcvMsn.toNat, rcvMap := 0, rx := [], rxDone := [], retry := 0,
        status0 := 0, path := 0, unacked := 0, ackAt := none, holeAt := none, rnrAt := none }
      success ((s.hold n).sendAck n none))

/-- R231, R238. (Log entry 109: DEDUCED, unsafe.) -/
def execSynTrnConnFlush (r : SynReq) (conn : BitVec 20) (s : State) : Res :=
  ok (s.syn 0x0902 domTrn r fun s => success (s.flush conn.toNat none 0x34))

/-- Requests that remain complete with 0x0034 (R211). -/
def State.endRequests (s : State) (n : Nat) : State :=
  let c := s.cn n
  let s := s.setCn n { c with active := [], waiting := [], tx := [] }
  let s := c.active.foldl (fun s m => s.completeFailed n m 0x34) s
  c.waiting.foldl (fun s m => s.complete n m 0x34 0) s

/-- R211, R238. (Log entry 109: DEDUCED, unsafe.) -/
def execSynTrnConnReset (r : SynReq) (conn : BitVec 20) (s : State) : Res :=
  ok (s.syn 0x0903 domTrn r fun s =>
    let n := conn.toNat
    let st := (s.cn n).state
    if st = csFree ∨ st = csClosing then refuse s 0x0201
    else
      let s := s.endRequests n
      let gone := s.trn.inbox.filter (fun b => !(b.conn == n && !b.complete))
      let s := ({ s with trn := { s.trn with inbox := gone } }.giveBack n).hold n
      success (s.setCn n { s.cn n with
        state := csInit, rx := [], rxDone := [], rcvMap := 0, ctl := [], retry := 0, reserved := [],
        holeAt := none, ackAt := none, unacked := 0, rnrAt := none }))

/-- R211, R238: CLOSING, and FREE once nothing of the connection is held. -/
def execSynTrnConnDestroy (r : SynReq) (conn : BitVec 20) (s : State) : Res :=
  ok (s.syn 0x0904 domTrn r fun s =>
    let n := conn.toNat
    let s := ((s.endRequests n).giveBack n).hold n
    success ((s.setCn n { s.cn n with state := csClosing, ctl := [] }).settle n))

/-- R238. -/
def execSynTrnConnQuery (r : SynReq) (conn : BitVec 20) (s : State) : Res :=
  ok (s.syn 0x0905 domTrn r fun s => success s ((s.ctxBytes conn.toNat).take 64))

/-- R228, R238: the entry is written to the table and invalidated. -/
def execSynTrnKeySet (r : SynReq) (index : W32) (entry : Vector Byte 32) (s : State) : Res :=
  ok (s.syn 0x0906 domTrn r fun s =>
    if index.toNat ≥ s.gf TRN_KEY_COUNT TRN_KEY_COUNT_COUNT then refuse s 0x0102
    else
      let s := s.poke ((s.gf TRN_KEY_BASE TRN_KEY_BASE_BASE <<< 12) + index.toNat * 32) entry.toList
      success { s with trn := { s.trn with keys := s.trn.keys.filter (fun e => e.1 != index.toNat) } })

/-- R230, R238. -/
def execSynTrnPwinSet (r : SynReq) (wins : List PeerWinSpec) (s : State) : Res :=
  ok (s.syn 0x0907 domTrn r fun s =>
    if s.peerPending then refuse s 0x0201
    else
      let s := wins.foldl (fun s w =>
        let s := s.wr64 (PEER_WIN_TARGET w.win) (w.target.toNat <<< 12)
        s.wr (PEER_WIN_CFG w.win) (BitVec.ofNat 32
          (b2n w.en * 2 ^ 31 + w.log2.toNat * 256 + w.rights.toNat))) s
      match s.peerCommit with
      | (some c, s) => refuse s c
      | (none, s) => success s)

/-- R238: the active set. (Log entry 108: DESIGN CHOICE, unsafe.) -/
def execSynTrnPwinQuery (r : SynReq) (s : State) : Res :=
  ok (s.syn 0x0908 domTrn r fun s =>
    success s ((List.range 64).flatMap (fun w =>
      let p := s.peerWin w
      leBytes 8 p.target ++ leBytes 4 (b2n p.en * 2 ^ 31 + p.log2 * 256 + p.rights))))

end Sys2Proof.Machine
end

