-- ==== Sys2Proof/Machine/Collectives.lean ====
section
/-! DEFINITION. Collectives and expert dispatch (05_collectives.md R80 to R112). -/

namespace Sys2Proof.Machine

/-! ### Groups (R80 to R84) -/

def State.grp (s : State) (g : Nat) : Option ColGroup := (s.col.groups.find? (fun e => e.1 == g)).map (·.2)
def State.setGrp (s : State) (g : Nat) (v : ColGroup) : State :=
  { s with col := { s.col with groups := Tab.insert s.col.groups g v } }
def State.dropGrp (s : State) (g : Nat) : State :=
  { s with col := { s.col with groups := Tab.erase s.col.groups g } }

/-- Fields of a group record (R80). -/
def ColGroup.hub (g : ColGroup) : Bool := wordFd g.rec_ 0 1 1 == 1
def ColGroup.wire (g : ColGroup) : Nat := wordFd g.rec_ 0 4 4
def ColGroup.tickets (g : ColGroup) : Nat := wordFd g.rec_ 0 8 8
def ColGroup.fctx (g : ColGroup) : Nat := wordFd g.rec_ 0 16 12
def ColGroup.n (g : ColGroup) : Nat := wordFd g.rec_ 1 0 9
def ColGroup.me (g : ColGroup) : Nat := wordFd g.rec_ 1 16 8
def recMembers (r : List Byte) : Nat := bitsOf (fieldLE r 8 8) 2 50 <<< 2
def ColGroup.residBase (g : ColGroup) : Nat := bitsOf (fieldLE g.rec_ 16 8) 12 40 <<< 12
def ColGroup.residBytes (g : ColGroup) : Nat := fieldLE g.rec_ 24 4
def ColGroup.epoch (g : ColGroup) : Nat := fieldLE g.rec_ 28 2
def ColGroup.gtag (g : ColGroup) : Nat := fieldLE g.rec_ 32 4

/-- Member entries. -/
def memType (e : Nat) : Nat := bitsOf e 30 2
def memId (e : Nat) : Nat := e % 2 ^ 20
def ColGroup.member (g : ColGroup) (r : Nat) : Nat := g.members[r]?.getD 0

/-- Ranks other than self. -/
def ColGroup.others (g : ColGroup) : List Nat := (List.range g.n).filter (fun r => r != g.me)

/-- Bytes of a residual area (R100). -/
def ColGroup.residArea (g : ColGroup) : Nat := 4096 + 65536 * g.residBytes

/-- The consistency code of a load (R82); 0x0656 is checked before it. A record that is not VALID has no code in the
table: a free value. (Log entries 50: DESIGN CHOICE, safe; 338: DESIGN CHOICE, unsafe.) -/
def State.grpCheck (s : State) (num : Nat) (g : ColGroup) : Option Nat :=
  let n := g.n
  let memOk (r : Nat) (e : Nat) : Bool :=
    if memType e = 0 then !g.hub && r == g.me
    else if memType e = 1 then !g.hub && (s.cn (memId e)).state == csReady
    else memType e == 2 && g.hub && decide (memId e < 8)
      && Tab.get (fun _ => []) s.accelWin (memId e) != []
  if wordFd g.rec_ 0 0 1 = 0 then some (s.fresh 16).toNat
  else if n = 0 ∨ n > (if g.hub then 8 else 256) ∨ (!g.hub ∧ g.me ≥ n) then some 0x0651
  else if !inHbm (recMembers g.rec_) (4 * n) || !((g.members.zipIdx).all (fun e => memOk e.2 e.1))
      || (!g.hub && memType (g.member g.me) != 0)
      || ((g.members.filter (fun e => memType e != 0)).map (fun e => (memType e, memId e))).eraseDups.length
        != (g.members.filter (fun e => memType e != 0)).length
      then some 0x0652
  else if !([0x0, 0x1, 0x4, 0x5, 0xA, 0xB].contains g.wire) then some 0x0653
  else if !inHbm g.residBase g.residArea || g.residBytes % 64 != 0 then some 0x0654
  else if s.col.groups.any (fun e => e.1 != num && e.2.gtag == g.gtag) then some 0x0655
  else none

/-- COL_CTL.REFUSAL. -/
def State.colRefusal (s : State) (c : Nat) : State := s.sf COL_CTL COL_CTL_REFUSAL c

/-- LOADED shows the group that GROUP selects. -/
def State.colLoaded (s : State) : State :=
  s.sf COL_GRP_LOAD COL_GRP_LOAD_LOADED (b2n (s.grp (s.gf COL_GRP_LOAD COL_GRP_LOAD_GROUP)).isSome)

def State.grpActive (s : State) (g : Nat) : Bool :=
  match s.grp g with
  | some v => v.op.isSome
  | none => false

/-- Load a group from HBM (R82): the code that refuses it, if any. (Log entry 50: DESIGN CHOICE, safe.) -/
def State.loadGroup (s : State) (g : Nat) : Option Nat × State :=
  let base := s.gf COL_GRP_BASE COL_GRP_BASE_BASE <<< 12
  let r1 := s.load (base + g * 64) 64
  let n := min 256 (wordFd r1.2.1 1 0 9)
  let r2 := r1.2.2.load (recMembers r1.2.1) (4 * n)
  let grp : ColGroup := ⟨r1.2.1, (List.range n).map (fun k => fieldLE r2.2.1 (4 * k) 4), none, [], none, none⟩
  let s := r2.2.2
  let c := if r1.1.isSome then some (s.fresh 16).toNat else if r2.1.isSome then some 0x0652 else s.grpCheck g grp
  onSome c (none, s.tick.setGrp g grp) (fun c => (some c, s.tick.dropGrp g))

/-- Write zero to a group's LIVE bitmap and residuals (R84). -/
def State.zeroResiduals (s : State) (g : ColGroup) : State :=
  let a := g.residBase
  let n := g.residArea
  { s with
    mem := s.mem.filter (fun e => !(decide (a ≤ e.1) && decide (e.1 < a + n)))
    lineMarks := s.lineMarks.filter (fun e => !(decide (a ≤ e.1 * 64) && decide (e.1 * 64 + 64 ≤ a + n))) }

/-- The group record that stands in HBM, for zeroing a group that is not loaded. -/
def State.grpRecord (s : State) (g : Nat) : ColGroup :=
  (s.grp g).getD ⟨s.bytes ((s.gf COL_GRP_BASE COL_GRP_BASE_BASE <<< 12) + g * 64) 64, [], none, [], none, none⟩

/-- The load, unload or zeroing that COL_GRP_LOAD started ends (R82, R84). -/
def execColGrpLoadDone (s : State) : Res :=
  match s.col.loading with
  | none => ok s
  | some (op, g) =>
    let s := { s with col := { s.col with loading := none } }
    let (c, s) := if s.grpActive g then (some 0x0656, s)
      else if op = 0 then s.loadGroup g
      else if op = 1 then (none, s.dropGrp g)
      else (none, s.zeroResiduals (s.grpRecord g))
    ok ((s.colRefusal (c.getD 0)).sf COL_GRP_LOAD COL_GRP_LOAD_BUSY 0).colLoaded

/-- COL_GRP_LOAD (R84): no effect while BUSY. OP 3 only selects the group. -/
def writeColGrpLoad (q : Requester) (v : W32) (s : State) : State :=
  if !coreWrites q || s.bit COL_GRP_LOAD COL_GRP_LOAD_BUSY then s
  else
    let g := v.toNat % 4096
    let op := bitsOf v.toNat 12 2
    let s := (s.sf COL_GRP_LOAD COL_GRP_LOAD_GROUP g).colLoaded
    if op = 3 || s.blockDown 8 then s
    else { s.sf COL_GRP_LOAD COL_GRP_LOAD_BUSY 1 with col := { s.col with loading := some (op, g) } }

def execColGrpLoad (q : Requester) (v : W32) (s : State) : Res := ok (writeColGrpLoad q (v &&& 0xFFFFCFFF#32) s)
def execColGrpUnload (q : Requester) (v : W32) (s : State) : Res :=
  ok (writeColGrpLoad q ((v &&& 0xFFFFCFFF#32) ||| 0x1000#32) s)
def execColGrpZeroResiduals (q : Requester) (v : W32) (s : State) : Res :=
  ok (writeColGrpLoad q ((v &&& 0xFFFFCFFF#32) ||| 0x2000#32) s)

/-! ### Queues (R83, R84) -/

def colQ (n : Nat) : Nat := COL_CMD_BASE n
def State.colEn (s : State) : Bool := s.bit COL_CTL COL_CTL_EN && !s.blockDown 8

/-- COL_CTL: EN set runs the check; cleared only when no queue's CMD_EN is one. -/
def writeColCtl (q : Requester) (v : W32) (s : State) : State :=
  if !coreWrites q then s
  else
    let en := s.bit COL_CTL COL_CTL_EN
    if bitAt v.toNat 0 && !en then
      if inHbm (s.gf COL_GRP_BASE COL_GRP_BASE_BASE <<< 12) (4096 * 64) then
        (s.colRefusal 0).sf COL_CTL COL_CTL_EN 1
      else s.colRefusal 0x0650
    else if !bitAt v.toNat 0 && en && (List.range 32).all (fun n => !s.cmdEn (colQ n)) then s.sf COL_CTL COL_CTL_EN 0
    else s

def execColEnSet (q : Requester) (v : W32) (s : State) : Res := ok (writeColCtl q (v ||| 1) s)
def execColEnClear (q : Requester) (v : W32) (s : State) : Res := ok (writeColCtl q (v &&& ~~~1#32) s)

def writeColGrpBase (q : Requester) (hi : Bool) (v : W32) (s : State) : State :=
  if coreWrites q && !s.bit COL_CTL COL_CTL_EN then
    if hi then s.wr (COL_GRP_BASE + 4) (v &&& 0x000FFFFF#32) else s.wr COL_GRP_BASE (v &&& 0xFFFFF000#32)
  else s

def writeColCmdBase (q : Requester) (n : Nat) (hi : Bool) (v : W32) (s : State) : State :=
  if coreWrites q then s.writeCmdBase (colQ n) hi v else s
def writeColCmplBase (q : Requester) (n : Nat) (hi : Bool) (v : W32) (s : State) : State :=
  if coreWrites q then s.writeCmplBase (colQ n) hi v else s
def writeColQctl (q : Requester) (n : Nat) (v : W32) (s : State) : State :=
  if coreWrites q then s.writeRingCtl (colQ n) (COL_QERR n) true (if s.colEn then none else some 0x065A) v else s
def writeColDb (q : Requester) (n : Nat) (v : W32) (s : State) : State :=
  if coreWrites q then s.writeDoorbell (colQ n) (COL_QERR n) (v.toNat % 2 ^ 16) else s
def writeColCmplHead (q : Requester) (n : Nat) (v : W32) (s : State) : State :=
  if coreWrites q then s.writeCmplHead (colQ n) v else s
def writeColQerr (q : Requester) (n : Nat) (v : W32) (s : State) : State :=
  if coreWrites q then s.wr (COL_QERR n) (s.rd (COL_QERR n) &&& ~~~(v &&& 7#32)) else s
def writeColTimeout (q : Requester) (v : W32) (s : State) : State :=
  if coreWrites q then s.wr COL_TIMEOUT (v &&& 0x000FFFFF#32) else s

def execColDb (q : Requester) (n : Fin 32) (v : W32) (s : State) : Res := ok (writeColDb q n v s)
def execColCmdBaseWrite (q : Requester) (n : Fin 32) (hi : Bool) (v : W32) (s : State) : Res := ok (writeColCmdBase q n hi v s)
def execColCmplBaseWrite (q : Requester) (n : Fin 32) (hi : Bool) (v : W32) (s : State) : Res :=
  ok (writeColCmplBase q n hi v s)
def execColCmdEnSet (q : Requester) (n : Fin 32) (v : W32) (s : State) : Res := ok (writeColQctl q n (v ||| 1) s)
def execColCmdEnClear (q : Requester) (n : Fin 32) (v : W32) (s : State) : Res := ok (writeColQctl q n (v &&& ~~~1#32) s)
def execColCmplEnSet (q : Requester) (n : Fin 32) (v : W32) (s : State) : Res := ok (writeColQctl q n (v ||| 2) s)
def execColCmplHeadWrite (q : Requester) (n : Fin 32) (v : W32) (s : State) : Res := ok (writeColCmplHead q n v s)
def execColHaltedResume (q : Requester) (n : Fin 32) (v : W32) (s : State) : Res := ok (writeColQerr q n (v ||| 1) s)

/-! ### Descriptors (R84 to R87, R90, R99, R100) -/

def cOp (d : List Byte) : Nat := dOpcode d
def cGroup (d : List Byte) : Nat := wordFd d 0 16 12
def cBarrier (d : List Byte) : Nat := wordFd d 3 16 12
def cBarEn (d : List Byte) : Bool := wordFd d 3 28 1 == 1
def cSrc (d : List Byte) : Nat := fieldLE d 16 8 % 2 ^ 52
def cDst (d : List Byte) : Nat := fieldLE d 24 8 % 2 ^ 52
def cStage (d : List Byte) : Nat := fieldLE d 32 8 % 2 ^ 52
def cCount (d : List Byte) : Nat := wordFd d 10 0 24
def cFmtIn (d : List Byte) : Nat := wordFd d 11 0 4
def cWireF (d : List Byte) : Nat := wordFd d 11 4 4
def cFmtOut (d : List Byte) : Nat := wordFd d 11 8 4
def cEf (d : List Byte) : Bool := wordFd d 11 12 1 == 1
def cRhalf (d : List Byte) : Nat := wordFd d 11 13 1
def cRbuf (d : List Byte) : Nat := wordFd d 11 16 15
def cFlagBase (d : List Byte) : Nat := wordFd d 12 0 24
def cSeq (d : List Byte) : Nat := wordFd d 13 0 32
def cRoute (d : List Byte) : Nat := fieldLE d 56 8 % 2 ^ 52

/-- WIRE with 0xF standing for the group's default. -/
def cWire (g : ColGroup) (d : List Byte) : Nat := if cWireF d = 0xF then g.wire else cWireF d

def round64 (n : Nat) : Nat := (n + 63) / 64 * 64
def cCin (d : List Byte) : Nat := round64 (storedBytes (cFmtIn d) (cCount d))
def cCout (d : List Byte) : Nat := round64 (storedBytes (cFmtOut d) (cCount d))
def cWireBytes (g : ColGroup) (d : List Byte) : Nat := storedBytes (cWire g d) (cCount d)
def cChb (g : ColGroup) (d : List Byte) : Nat := round64 (cWireBytes g d)
def cRecb (d : List Byte) : Nat := round64 (16 + cCin d)

/-- Size of the flag window (R90). -/
def windowSize (g : ColGroup) (d : List Byte) : Nat :=
  let n := g.n
  if g.hub then (if cOp d = 2 then 0 else 2 * n)
  else match cOp d with
    | 1 => 2 * n + 1
    | 2 => n + 2
    | 3 => 3 * n + 2
    | 4 => n
    | _ => n + 1

/-- Window positions: E[r] or G of a send in a phase, A[s] or B[s] of an arrival, D (R90). -/
def sendFlag (g : ColGroup) (d : List Byte) (phase r : Nat) : Option Nat :=
  match cOp d with
  | 1 => some r
  | 2 => some 0
  | 3 => some (if phase = 0 then r else 2 * g.n)
  | _ => none
def arriveFlag (g : ColGroup) (d : List Byte) (phase src : Nat) : Nat :=
  match cOp d with
  | 1 => g.n + src
  | 2 => 1 + src
  | 3 => if phase = 0 then g.n + src else 2 * g.n + 1 + src
  | _ => src
def doneFlag (g : ColGroup) (d : List Byte) : Option Nat :=
  if g.hub then none
  else match cOp d with
    | 1 => some (2 * g.n)
    | 2 => some (g.n + 1)
    | 3 => some (3 * g.n + 1)
    | 5 => some g.n
    | _ => none

/-- Phases of the messages of an operation (R89, R93). -/
def opPhases (d : List Byte) : List Nat :=
  match cOp d with
  | 2 => [1]
  | 3 => [0, 1]
  | _ => [0]

/-- The address a send's data is read from, in a reduction or gather (R90). -/
def sendAddr (g : ColGroup) (d : List Byte) (phase r : Nat) : Nat :=
  match cOp d with
  | 1 => cStage d + r * cChb g d
  | 2 => cStage d
  | _ => cStage d + (if phase = 0 then r else 2 * g.n) * cChb g d

/-- Route list header (R96): ROWS, TOPK, CAP. -/
def routeRows (r : List Byte) : Nat := fieldLE r 0 4
def routeTopk (r : List Byte) : Nat := fieldLE r 4 1
def routeCap (r : List Byte) : Nat := fieldLE r 6 2

/-- Where a message's data lands, and the bytes it may fill (R90, R97, R98). -/
def State.arriveAt (s : State) (g : ColGroup) (d : List Byte) (phase src : Nat) : Nat × Nat :=
  let cap := routeCap (s.bytes (cRoute d) 16)
  match cOp d with
  | 1 => (cStage d + (g.n + src) * cChb g d, cChb g d)
  | 2 => (cStage d + (1 + src) * cChb g d, cChb g d)
  | 3 => (cStage d + (if phase = 0 then g.n + src else 2 * g.n + 1 + src) * cChb g d, cChb g d)
  | 4 => (cDst d + src * cap * cRecb d, cap * cRecb d)
  | _ => (cStage d + src * cap * cRecb d, cap * cRecb d)

/-- FP32 residual values that an operation's half must hold (R100). -/
def residNeed (g : ColGroup) (d : List Byte) : Nat :=
  match cOp d with
  | 1 => g.n * cCount d * 4
  | 2 => cCount d * 4
  | _ => (g.n + 1) * cCount d * 4

/-- LIVE of a buffer (R100). -/
def State.liveBit (s : State) (g : ColGroup) (b : Nat) : Nat :=
  bitsOf (s.byte (g.residBase + b / 8)).toNat (b % 8) 1
def State.setLive (s : State) (g : ColGroup) (b v : Nat) : State :=
  s.poke (g.residBase + b / 8) [BitVec.ofNat 8 (bitsPut (s.byte (g.residBase + b / 8)).toNat (b % 8) 1 v)]

/-- Formats (R16, R99): a reserved code, or a combination not accepted. DISPATCH and COMBINE use FMT_IN, and COMBINE
FMT_OUT FP32 or BF16 (R96, R98). A hub group's data travels in FMT_IN (R92). -/
def fmtCheck (g : ColGroup) (d : List Byte) : Option Nat :=
  let fi := cFmtIn d
  let fo := cFmtOut d
  let w := cWire g d
  let wireList := [0x0, 0x1, 0x4, 0x5, 0xA, 0xB]
  if cOp d = 4 then (if isReserved fi then some 3 else none)
  else if cOp d = 5 then
    if isReserved fi || isReserved fo then some 3 else if decide (fo > 1) then some 4 else none
  else if g.hub then (if isReserved fi || isReserved fo then some 3 else none)
  else if isReserved fi || isReserved fo || isReserved w then some 3
  else
    let enc := decide (fi ≤ 1) && wireList.contains w && decide (fo ≤ 1)
    let verb := cOp d == 2 && w == fi && !cEf d && (decide (fo ≤ 1) || fo == fi)
    if !(enc || verb) then some 4
    else if cEf d && !(isBlock w && wireList.contains w) then some 4
    else none

/-- The route list header is acceptable (R96). -/
def routeOk (r : List Byte) : Bool :=
  decide (1 ≤ routeRows r) && decide (routeRows r ≤ 65536) && decide (1 ≤ routeTopk r) && decide (routeTopk r ≤ 16)
    && decide (1 ≤ routeCap r)

/-- The status of a memory error (R88). -/
def colMemStatus : MemErr → Nat
  | .hostDown => 0x11
  | _ => 0x10

/-- Every flag of the operation's window translates and has VALUE zero (R87): the status that refuses it. (Log entry
340: DESIGN CHOICE, unsafe.) -/
def State.windowCheck (s : State) (g : ColGroup) (base : Nat) : Nat → Option Nat × State
  | 0 => (none, s)
  | k + 1 =>
    let r := s.translate 8 g.fctx ((base + k) % 2 ^ 24) needConsume
    onSome r.1 (some 0x14, r.2) (fun p =>
      let s := r.2.flagRead p
      if s.flagVal p then (some 0x23, s) else State.windowCheck s g base k)

/-- The activation checks (R86, R87): the status of the first that fails. (Log entry 339: DESIGN CHOICE, unsafe.) -/
def State.colCheck (s : State) (q : Nat) (d : List Byte) : Option Nat × State :=
  let op := cOp d
  if op > 5 then (some 1, s)
  else if dWaitOp d = 3 ∨ dSetOp d ≥ 2 then (some 2, s)
  else if op = 0 then (none, s)
  else
    match s.grp (cGroup d) with
    | none => (some 0x20, s)
    | some g =>
      if g.bound.isSome ∧ g.bound ≠ some q then (some 0x21, s)
      else if g.hub ∧ op ≥ 4 then (some 0x29, s)
      else
        let (re, route, s) := if op ≥ 4 then s.load (cRoute d) 16 else (none, [], s)
        if cCount d = 0 ∨ cCount d > 4194304 ∨ (cEf d ∧ (op ≥ 4 ∨ g.hub)) ∨ (cEf d ∧ g.residBytes < residNeed g d) then
          (some 2, s)
        else match re with
        | some e => (some (colMemStatus e), s)
        | none =>
          if op ≥ 4 ∧ !routeOk route then (some 2, s)
          else match fmtCheck g d with
          | some c => (some c, s)
          | none =>
            if cEf d ∧ cRhalf d ≠ s.liveBit g (cRbuf d) then (some 0x22, s)
            else s.windowCheck g (cFlagBase d) (windowSize g d)

/-! ### Flags of the window -/

/-- Set a window flag (R91); one that no longer translates is left. -/
def State.setWindow (s : State) (g : ColGroup) (d : List Byte) (pos : Nat) : State :=
  (s.setVirtual 8 g.fctx ((cFlagBase d + pos) % 2 ^ 24)).2

/-- Consume a window flag by wait-and-clear: whether it was set (R91). -/
def State.takeWindow (s : State) (g : ColGroup) (d : List Byte) (pos : Nat) : Bool × State :=
  match s.translate 8 g.fctx ((cFlagBase d + pos) % 2 ^ 24) needConsume with
  | (some p, s) => s.flagTake p true
  | (none, s) => (false, s)

def State.setOp (s : State) (num : Nat) (o : ColOp) : State :=
  match s.grp num with
  | some g => s.setGrp num { g with op := some o }
  | none => s

/-- The issued descriptor of a queue at an index gets its status and count. -/
def State.colResult (s : State) (q ix epoch status count : Nat) : State :=
  let r := s.ring (colQ q)
  s.setRing (colQ q) { r with issued := r.issued.map (fun d =>
    if d.ix = ix ∧ d.epoch = epoch then { d with result := some (status, count) } else d) }

/-- An operation ends with a status: its descriptor has its result. -/
def State.endOp (s : State) (num status : Nat) : State :=
  match s.grp num with
  | some g =>
    match g.op with
    | some o => (s.colResult o.queue o.ix o.epoch status o.dropped)
    | none => s
  | none => s

/-- The operation has its result and only waits for COLLECTIVE_COMPLETE. -/
def State.opEnded (s : State) (o : ColOp) : Bool :=
  (s.ring (colQ o.queue)).issued.any (fun d => d.ix == o.ix && d.epoch == o.epoch && d.result.isSome)

/-! ### Messages (R93 to R95) -/

/-- The collective header (R93). -/
def colHeader (kind rank phase gtag epoch seq : Nat) : List Byte :=
  [1, BitVec.ofNat 8 kind, BitVec.ofNat 8 rank, BitVec.ofNat 8 phase] ++ beBytes 4 gtag ++ beBytes 2 epoch ++ [0, 0]
    ++ beBytes 4 seq

/-- Send a control message to a member (R94). -/
def State.sendControl (s : State) (num : Nat) (g : ColGroup) (kind seq r : Nat) : State :=
  let e := g.member r
  if memType e = 1 then
    s.internalMsg 1 (mkReq 2 (memId e) (0x4000 + num) 0 0 0 0 0 false false true
      (colHeader kind g.me 0 g.gtag g.epoch seq))
  else s

def State.sendControlAll (s : State) (num : Nat) (g : ColGroup) (kind seq : Nat) : State :=
  g.others.foldl (fun s r => s.sendControl num g kind seq r) s

/-! ### Activation (R86, R87, R94) -/

/-- Operations active in a queue, and in the engine. -/
def State.colActive (s : State) (q : Nat) : Nat := (s.ring (colQ q)).issued.length
def State.colActiveAll (s : State) : Nat := (List.range 32).foldl (fun n q => n + s.colActive q) 0

/-- The WAIT_OP of a descriptor: it holds (and has consumed its flag), it does not, or its flag does not translate. -/
def State.colWait (s : State) (q : Nat) (d : List Byte) : Option Bool × State :=
  if dWaitOp d = 1 ∨ dWaitOp d = 2 then
    let r := s.translate 8 (s.fctx (colQ q)) (dWaitFlag d) (if dWaitOp d = 2 then needConsume else needWait)
    onSome r.1 (none, r.2) fun p => let t := r.2.flagTake p (dWaitOp d == 2); (some t.1, t.2)
  else (some true, s)

/-- Start an activated operation: hold its SEQ, set A[MYRANK] and B[MYRANK], send READY (R86, R91,
R94). (Log entry 54: DEDUCED, unsafe.) -/
def State.beginOp (s : State) (q ix epoch : Nat) (d : List Byte) : State :=
  let num := cGroup d
  match s.grp num with
  | none => s
  | some g =>
    let o : ColOp := ⟨q, ix, epoch, d, s.now, [], [], [], [], [], 0, false, 0, none⟩
    let keep := g.readys.filter (fun r => r.2 == cSeq d || r.2 == (cSeq d + 1) % 2 ^ 32)
    let s := s.setGrp num { g with seq := some (cSeq d), readys := keep, op := some o }
    if g.hub then s
    else
      let own := if cOp d ≤ 3 then (opPhases d).map (fun ph => arriveFlag g d ph g.me) else []
      let s := own.foldl (fun s pos => s.setWindow g d pos) s
      let s := s.setOp num { o with set_ := own }
      s.sendControlAll num g 1 (cSeq d)

/-- The first descriptor that names a loaded group binds it to its queue (R86). -/
def State.colBind (s : State) (q : Nat) (d : List Byte) : State :=
  match s.grp (cGroup d) with
  | some g => if 1 ≤ cOp d ∧ cOp d ≤ 5 ∧ g.bound.isNone then s.setGrp (cGroup d) { g with bound := some q } else s
  | none => s

/-- A descriptor of queue `n` leaves the entries that wait, with its result if it has one already; its activation time is held
for ACTIVE_NS (R88). -/
def State.colIssue (s : State) (n ix : Nat) (d : List Byte) (res : Option (Nat × Nat)) : State :=
  let b := colQ n
  let r := s.ring b
  let s := { s with col := { s.col with begun := s.col.begun ++ [(n, ix, r.epoch, s.now)] } }
  s.setRing b { r with fetchIx := ix16 (ix + 1), issued := r.issued ++ [⟨ix, r.epoch, d, 0, true, res⟩] }

/-- The descriptor of a queue whose wait holds binds its group, is checked and starts (R86, R87). -/
def State.colStart (s : State) (n ix : Nat) (d : List Byte) : State :=
  let b := n
  let epoch := (s.ring (colQ n)).epoch
  let p := (s.colBind n d).colCheck n d
  onSome p.1 (if cOp d = 0 then p.2.colIssue b ix d none else (p.2.colIssue b ix d none).beginOp n ix epoch d)
    fun c => p.2.colIssue b ix d (some (c, 0))

/-- Entries of a queue in a barrier unit: those it made, and those its active operations are to make (R75, R88). -/
def State.colEntries (s : State) (n b : Nat) : Nat :=
  s.barOutstanding b (1024 + n) + ((s.ring (colQ n)).issued.filter (fun d => cBarEn d.desc && cBarrier d.desc == b)).length

/-- A fetched descriptor: it waits for ORDER, its group, its barrier and its flag, and then starts (R86). -/
def State.colTry (s : State) (n ix : Nat) (d : List Byte) : State :=
  if (dOrder d && !(s.ring (colQ n)).issued.isEmpty) || (cOp d != 0 && s.grpActive (cGroup d))
      || (cBarEn d && decide (s.colEntries n (cBarrier d) ≥ 2)) then s
  else
    let w := s.colWait n d
    onSome w.1 (w.2.colIssue n ix d (some (0x14, 0))) fun go => if go then w.2.colStart n ix d else w.2

/-- R86, R87: the queue's next descriptor activates. One whose check or wait fails completes with that status. -/
def execCollectiveActivate (n : Fin 32) (s : State) : Res :=
  let b := colQ n
  let r := s.ring b
  if !s.cmdEn b || s.bit (COL_QERR n) COL_QERR_HALTED || !s.colEn || r.fetchIx == r.tail
      || decide (s.colActive n ≥ 16) || decide (s.colActiveAll ≥ 256) then ok s
  else
    let f := s.fetchEntry b r.fetchIx
    ok (onSome f.1 ((f.2.sf (COL_QERR n) COL_QERR_FETCH_ERR 1).sf (COL_QERR n) COL_QERR_HALTED 1)
      fun d => f.2.colTry n r.fetchIx d)

/-- R86: an activated NOP completes. -/
def execCollectiveNop (n : Fin 32) (s : State) : Res :=
  match (s.ring (colQ n)).issued.find? (fun d => cOp d.desc == 0 && d.result.isNone) with
  | some d => ok (s.colResult n d.ix d.epoch 0 0)
  | none => ok s

/-! ### Progress of the operations -/

/-- Results of the group's data messages: a done message's send is reported; one whose data could not be read ends the operation
with that status, and one that failed for its connection aborts it with 0x0026 (R88, R110). The answer is the status that stops
the operation, zero for none. (Log entry 345: DEDUCED, unsafe.) -/
def State.colReports (s : State) (num : Nat) (g : ColGroup) (o : ColOp) : ColOp × Nat × State :=
  let mine := s.trn.results.filter (fun e => e.1 == 1 && e.2.1 == 0x8000 + num)
  let rest := s.trn.results.filter (fun e => !(e.1 == 1 && (e.2.1 == 0x8000 + num || e.2.1 == 0x4000 + num)))
  let s := { s with trn := { s.trn with results := rest } }
  mine.foldl (fun (acc : ColOp × Nat × State) e =>
    let (o, bad, s) := acc
    let rank := (List.range g.n).find? (fun r => memType (g.member r) == 1 && memId (g.member r) == e.2.2.2.2)
    let status := e.2.2.1
    if status = 0 ∨ status = 0x12 then
      match rank with
      | some r =>
        match o.sent.find? (fun x => x.2 == r && !o.done.contains x) with
        | some x => ({ o with done := o.done ++ [x] }, bad, s)
        | none => (o, bad, s)
      | none => (o, bad, s)
    else (o, if bad ≠ 0 then bad else if status = 0x10 ∨ status = 0x11 then status else 0x26, s)) (o, 0, s)

/-- Positions the engine must consume: every E[r] and G it sends behind, and D (R91). -/
def toConsume (g : ColGroup) (d : List Byte) : List Nat :=
  let sends := (opPhases d).flatMap (fun ph => g.others.filterMap (fun r => sendFlag g d ph r))
  (sends ++ (doneFlag g d).toList).eraseDups

/-- Consume what is set of the positions not yet consumed. -/
def State.consumeSet (s : State) (g : ColGroup) (o : ColOp) : List Nat → ColOp × State
  | [] => (o, s)
  | p :: ps =>
    if o.consumed.contains p then State.consumeSet s g o ps
    else
      match s.takeWindow g o.desc p with
      | (true, s) => State.consumeSet s g { o with consumed := o.consumed ++ [p] } ps
      | (false, s) => State.consumeSet s g o ps

/-- Begin the abort of a group's operation (R110): its data is sent no more, ABORT goes to the other members, and every A[s] and B[s] not yet set is
set; the drain then runs. -/
def State.abortOp (s : State) (num status : Nat) : State :=
  match s.grp num with
  | none => s
  | some g =>
    match g.op with
    | none => s
    | some o =>
      if o.abort.isSome || s.opEnded o then s
      else
        let mine (m : Msg) : Bool := m.owner == .internal 1 && reqTag m.req == 0x8000 + num
        let s := if g.hub then s
          else (g.others.foldl (fun s r => s.withdraw (memId (g.member r)) mine) s).sendControlAll num g 2 (cSeq o.desc)
        let ranks := List.range g.n
        let all := if g.hub then (if cOp o.desc = 2 then [] else ranks)
          else (opPhases o.desc).flatMap (fun ph => ranks.map (fun r => arriveFlag g o.desc ph r))
        let todo := all.filter (fun p => !o.set_.contains p)
        let s := todo.foldl (fun s p => s.setWindow g o.desc p) s
        s.setOp num { o with abort := some (status, s.now), set_ := o.set_ ++ todo }

/-- Every message is sent and reported, every arrival is here, and D is consumed (R88). -/
def opFinished (g : ColGroup) (o : ColOp) : Bool :=
  let all := (opPhases o.desc).flatMap (fun ph => g.others.map (fun r => (ph, r)))
  all.all (fun x => o.done.contains x) && all.all (fun x => o.arrived.contains x)
    && (match doneFlag g o.desc with | some p => o.consumed.contains p | none => true)
    && (decide (cOp o.desc < 4) || o.localDone)

/-- Copy the engine's reads: bytes of a range, or the status that ends the operation. -/
def State.colRead (s : State) (a n : Nat) : (Nat ⊕ List Byte) × State :=
  match s.load a n with
  | (none, bs, s) => (.inr bs, s)
  | (some .poison, bs, s) => (.inr bs, s)
  | (some e, _, s) => (.inl (colMemStatus e), s)

/-- A member accelerator's range (R92). -/
def hubBase (g : ColGroup) (r : Nat) : Nat := accelBase + memId (g.member r) * accelSpan

/-- Copy `n` bytes from one address to another: the status that ends the operation, if any. -/
def State.colCopy (s : State) (src dst n : Nat) : Option Nat × State :=
  match s.load src n with
  | (some .poison, bs, s) =>
    match s.store dst bs true with
    | (some e, s) => (some (colMemStatus e), s)
    | (none, s) => (none, s)
  | (none, bs, s) =>
    match s.store dst bs with
    | (some e, s) => (some (colMemStatus e), s)
    | (none, s) => (none, s)
  | (some e, _, s) => (some (colMemStatus e), s)

/-- Copies in turn until one fails. -/
def State.colCopies (s : State) : List (Nat × Nat × Nat) → Option Nat × State
  | [] => (none, s)
  | (a, b, n) :: rest =>
    match s.colCopy a b n with
    | (none, s) => State.colCopies s rest
    | r => r

/-- A hub group's operation (R92): first every member's chunks go to staging and each A[s] is set; then each result
chunk whose E[r] is consumed is written; ALL_GATHER copies at once. (Log entry 343: DEDUCED, unsafe.) -/
def State.hubStep (s : State) (num : Nat) (g : ColGroup) (o : ColOp) : State :=
  let d := o.desc
  let n := g.n
  let ranks := List.range n
  let cin := cCin d
  let len := storedBytes (cFmtIn d) (cCount d)
  let outLen := storedBytes (cFmtOut d) (cCount d)
  if cOp d = 2 then
    let (e, s) := s.colCopies (ranks.flatMap (fun src => ranks.map (fun r =>
      (hubBase g src + cSrc d, hubBase g r + cDst d + src * cin, len))))
    s.endOp num (e.getD 0)
  else
    let (e, s) := if o.localDone then (none, s) else
      s.colCopies (ranks.flatMap (fun src => ranks.map (fun r =>
        (hubBase g src + cSrc d + r * cin, cStage d + (src * n + r) * cin, len))))
    match e with
    | some st => s.endOp num st
    | none =>
      let s := if o.localDone then s else ranks.foldl (fun s p => s.setWindow g d p) s
      let o := { o with localDone := true, set_ := ranks }
      let (o, s) := s.consumeSet g o (ranks.map (fun r => n + r))
      let todo := ranks.filter (fun r => o.consumed.contains (n + r) && !o.done.contains (0, r))
      let (e, s) := s.colCopies (todo.flatMap (fun r =>
        let from_ := cStage d + (n * n + r) * cCout d
        if cOp d = 1 then [(from_, hubBase g r + cDst d, outLen)]
        else ranks.map (fun k => (from_, hubBase g k + cDst d + r * cCout d, outLen))))
      let o := { o with done := o.done ++ todo.map (fun r => (0, r)) }
      let s := s.setOp num o
      match e with
      | some st => s.endOp num st
      | none => if o.done.length ≥ n then s.endOp num 0 else s

/-- Reads in turn, one after the other: the status that ends the operation if one is refused, whether data was poisoned, and the
bytes (R88, R233). -/
def State.colGather (s : State) : List (Nat × Nat) → (Option Nat × Bool × List Byte) × State
  | [] => ((none, false, []), s)
  | (a, n) :: rest =>
    match s.load a n with
    | (none, bs, s) =>
      let r := State.colGather s rest
      ((r.1.1, r.1.2.1, bs ++ r.1.2.2), r.2)
    | (some .poison, bs, s) =>
      let r := State.colGather s rest
      ((r.1.1, true, bs ++ r.1.2.2), r.2)
    | (some e, _, s) => ((some (colMemStatus e), false, []), s)

/-- Route entries for a destination in taking order: (t, k, expert, gate) (R96), from the bytes of the list. -/
def routeEntries (h es : List Byte) (dest : Nat) : List (Nat × Nat × Nat × Nat) :=
  let topk := routeTopk h
  (List.range (routeRows h * topk)).filterMap (fun i =>
    let e := fieldLE es (i * 4) 4
    if e % 256 = dest ∧ dest ≠ 0xFF then some (i / topk, i % topk, bitsOf e 8 8, bitsOf e 16 16) else none)

/-- The records of some rows: each a 16-byte tag and its row, filled up to RECB (R96). -/
def rowRecords (g : ColGroup) (d : List Byte) (rows : List Byte) : Nat → List (Nat × Nat × Nat × Nat) → List Byte
  | _, [] => []
  | j, e :: es =>
    fit (cRecb d) (leBytes 4 e.1 ++ leBytes 1 e.2.1 ++ leBytes 1 e.2.2.1 ++ leBytes 2 e.2.2.2 ++ leBytes 1 g.me
      ++ List.replicate 7 0 ++ (rows.drop (j * cCin d)).take (cCin d)) ++ rowRecords g d rows (j + 1) es

/-- The records of DISPATCH for a destination, with the status, the poison, and how many entries CAP drops (R96). -/
def State.dispatchRows (s : State) (g : ColGroup) (d : List Byte) (dest : Nat) :
    (Option Nat × Bool × List Byte × Nat) × State :=
  let h := s.bytes (cRoute d) 16
  let cap := routeCap h
  let r := s.colGather [(cRoute d + 16, routeRows h * routeTopk h * 4)]
  match r.1.1 with
  | some e => ((some e, false, [], 0), r.2)
  | none =>
    let es := routeEntries h r.1.2.2 dest
    let x := r.2.colGather ((es.take cap).map (fun e => (cSrc d + e.1 * cCin d, cCin d)))
    ((x.1.1, x.1.2.1, rowRecords g d x.1.2.2 0 (es.take cap), es.length - cap), x.2)

/-- The records COMBINE returns to a member: those that its count word gives for the source (R97, R98). (Log entry
55: DEDUCED, unsafe.) -/
def State.combineRows (s : State) (g : ColGroup) (d : List Byte) (dest : Nat) :
    (Option Nat × Bool × List Byte × Nat) × State :=
  let cap := routeCap (s.bytes (cRoute d) 16)
  let r := s.colGather [(cSrc d + g.n * cap * cRecb d + dest * 4, 4)]
  match r.1.1 with
  | some e => ((some e, false, [], 0), r.2)
  | none =>
    let x := r.2.colGather [(cSrc d + dest * cap * cRecb d, min cap (leNat r.1.2.2) * cRecb d)]
    ((x.1.1, x.1.2.1, x.1.2.2, 0), x.2)

/-- The rows of a DISPATCH or COMBINE message to a member. -/
def State.rowsFor (s : State) (g : ColGroup) (d : List Byte) (dest : Nat) : (Option Nat × Bool × List Byte × Nat) × State :=
  if cOp d = 4 then s.dispatchRows g d dest else s.combineRows g d dest

/-- The row count from a source, written after its rows by DISPATCH (R97): the status that ends the operation, if any. -/
def State.putCount (s : State) (g : ColGroup) (d : List Byte) (src n : Nat) : Option Nat × State :=
  if cOp d ≠ 4 then (none, s)
  else
    let cap := routeCap (s.bytes (cRoute d) 16)
    let r := s.store (cDst d + g.n * cap * cRecb d + src * 4) (leBytes 4 n)
    (r.1.map colMemStatus, r.2)

/-- The local rows of DISPATCH or COMBINE (R97, R98): copied into the member's own region; for DISPATCH the row count
is written; then A[MYRANK] is set. -/
def State.localRows (s : State) (num : Nat) (g : ColGroup) (o : ColOp) : ColOp × State :=
  let d := o.desc
  let cap := routeCap (s.bytes (cRoute d) 16)
  let base := if cOp d = 4 then cDst d else cStage d
  match s.rowsFor g d g.me with
  | ((some e, _), s) => (o, s.endOp num e)
  | ((none, poison, rows, dropped), s) =>
    match s.store (base + g.me * cap * cRecb d) rows poison with
    | (some e, s) => (o, s.endOp num (colMemStatus e))
    | (none, s) =>
      match s.putCount g d g.me (rows.length / cRecb d) with
      | (some e, s) => (o, s.endOp num e)
      | (none, s) =>
        ({ o with localDone := true, dropped := o.dropped + dropped, set_ := insertKey o.set_ g.me }, s.setWindow g d g.me)

/-- One step of a group's active operation of opcode `op`: reports, local work, and the flags now set (R88 to R98,
R110). (Log entry 58: DESIGN CHOICE, safe.) -/
def State.colStep (s : State) (op num : Nat) : State :=
  match s.grp num with
  | none => s
  | some g =>
    match g.op with
    | none => s
    | some o =>
      if cOp o.desc ≠ op || s.opEnded o then s
      else if g.hub then (if o.abort.isSome then
          let (o, s) := s.consumeSet g o ((List.range g.n).map (fun r => g.n + r))
          s.setOp num o
        else s.hubStep num g o)
      else
        let (o, bad, s) := s.colReports num g o
        let lost := g.others.any (fun r => (s.cn (memId (g.member r))).state != csReady)
        let (o, s) := s.consumeSet g o (toConsume g o.desc)
        if decide (bad = 0x10 ∨ bad = 0x11) && o.abort.isNone then (s.setOp num o).endOp num bad
        else if (bad != 0 || lost) && o.abort.isNone then (s.setOp num o).abortOp num 0x26
        else
          let (o, s) := if decide (op ≥ 4) && !o.localDone && o.abort.isNone then s.localRows num g o else (o, s)
          let s := s.setOp num o
          if opFinished g o && o.abort.isNone then s.endOp num 0 else s

def execReduceScatter (g : BitVec 12) (s : State) : Res := ok (s.colStep 1 g.toNat)
def execAllGather (g : BitVec 12) (s : State) : Res := ok (s.colStep 2 g.toNat)
def execAllReduce (g : BitVec 12) (s : State) : Res := ok (s.colStep 3 g.toNat)
def execDispatch (g : BitVec 12) (s : State) : Res := ok (s.colStep 4 g.toNat)
def execCombine (g : BitVec 12) (s : State) : Res := ok (s.colStep 5 g.toNat)

/-! ### Sending (R91, R94, R105, R106) -/

/-- Destinations in turn, starting at rank (MYRANK + 1) mod N (R106). -/
def ranksInTurn (g : ColGroup) (turn : Nat) : List Nat :=
  ((List.range g.n).map (fun i => (g.me + 1 + turn + i) % g.n)).filter (fun r => r != g.me)

/-- The next send that is ready: its flag is consumed, READY for the SEQ is held, and it has not been sent. -/
def nextSend (g : ColGroup) (o : ColOp) : Option (Nat × Nat) :=
  let ready (ph r : Nat) : Bool :=
    !o.sent.contains (ph, r) && g.readys.contains (r, cSeq o.desc)
      && (match sendFlag g o.desc ph r with | some p => o.consumed.contains p | none => true)
  ((ranksInTurn g o.turn).flatMap (fun r => (opPhases o.desc).map (fun ph => (ph, r)))).find? (fun x => ready x.1 x.2)

/-- Serialization time on a port of a group's full data packet, or of a shorter message (R105). (Log entry 52:
DEDUCED, unsafe.) -/
def State.colSer (s : State) (port len : Nat) : Nat := s.serNs port (s.frameSize port (64 + min 4096 len))

/-- The data of a message to member `r` in a phase: the status that ends the operation, or LOCAL, LENGTH and, for rows, the
bytes themselves with their poison and the entries that CAP drops. -/
def State.chunkData (s : State) (g : ColGroup) (d : List Byte) (ph r : Nat) :
    (Option Nat × Nat × Nat × List Byte × Bool × Nat) × State :=
  if cOp d ≥ 4 then
    match s.rowsFor g d r with
    | ((e, poison, rows, dropped), s) => ((e, 0, rows.length, rows, poison, dropped), s)
  else ((none, sendAddr g d ph r, cWireBytes g d, [], false, 0), s)

/-- The lottery arbiters of ports count cycles, each with its own LFSR (R106, R175). -/
def State.portCycles (l : List (Fin 32 × Nat)) (s : State) : State :=
  l.foldl (fun s e => s.lfsrAdvance (arbId arbPort e.1) e.2) s

/-- R91, R94, R106: the group's next message whose flag is consumed and whose READY is held goes to the transport engine, while
`port` may carry its data; each of its packets then waits for its port's draw. (Log entry 51: DESIGN CHOICE, safe.) -/
def execChunkSend (g : BitVec 12) (port : Fin 32) (others : List (Fin 32 × Nat)) (gap : Nat) (s : State) : Res :=
  let num := g.toNat
  match s.grp num with
  | none => ok s
  | some grp =>
    match grp.op with
    | none => ok s
    | some o =>
      match nextSend grp o with
      | none => ok s
      | some (ph, r) =>
        if grp.hub || o.abort.isSome || s.opEnded o || !s.mayStart num port (s.colSer port (cWireBytes grp o.desc)) then ok s
        else
          let d := o.desc
          match s.chunkData grp d ph r with
          | ((some e, _), s) => ok (s.endOp num e)
          | ((none, loc, len, rows, poison, dropped), s) =>
            let o := { o with sent := o.sent ++ [(ph, r)], dropped := o.dropped + dropped, turn := (o.turn + 1) % max 1 grp.n }
            let s := State.portCycles ((port, gap) :: others) (s.setOp num o)
            ok (s.internalMsg 1 (mkReq 2 (memId (grp.member r)) (0x8000 + num) loc len 0 0 0 false false true
              (colHeader 0 grp.me ph grp.gtag grp.epoch (cSeq d))) rows poison)

/-! ### Reception (R93 to R95) -/

/-- Fields of a received header. -/
def hKind (h : List Byte) : Nat := (h[1]?.getD 0).toNat
def hRank (h : List Byte) : Nat := (h[2]?.getD 0).toNat
def hPhase (h : List Byte) : Nat := (h[3]?.getD 0).toNat % 2
def hGtag (h : List Byte) : Nat := beNat ((h.drop 4).take 4)
def hEpoch (h : List Byte) : Nat := beNat ((h.drop 8).take 2)
def hSeq (h : List Byte) : Nat := beNat ((h.drop 12).take 4)

/-- The loaded group that a header names, when its checks hold (R95). (Log entry 54: DEDUCED, unsafe.) -/
def State.colAccept (s : State) (conn : Nat) (h : List Byte) : Option (Nat × ColGroup) :=
  match s.col.groups.find? (fun e => e.2.gtag == hGtag h) with
  | none => none
  | some (num, g) =>
    let e := g.member (hRank h)
    let active := match g.op with
      | some o => some (cSeq o.desc)
      | none => none
    let seqOk := if hKind h = 1 then
        match g.seq with
        | some q => hSeq h == q || hSeq h == (q + 1) % 2 ^ 32
        | none => true
      else active == some (hSeq h)
    if (h[0]?.getD 0) == 1 && decide (hKind h ≤ 2) && memType e == 1 && memId e == conn && decide (hRank h < g.n)
        && hEpoch h == g.epoch && seqOk then some (num, g) else none

def State.colDiscard (s : State) : State := s.cnt COL_DISCARD COL_DISCARD_COUNT 1

/-- Take the engine's inbound message of a connection and MSN out of the inbox. -/
def State.takeInbox (s : State) (conn msn : Nat) : Option Inbound × State :=
  let here (b : Inbound) : Bool := b.consumer == 1 && b.conn == conn && b.msn == msn
  (s.trn.inbox.find? here, { s with trn := { s.trn with inbox := s.trn.inbox.filter (fun b => !here b) } })

/-- The operation that a packet of a data message is for, when the packet passes R95 and the operation goes on. -/
def State.dataFor (s : State) (conn : Nat) (h : List Byte) : Option (Nat × ColGroup × ColOp) :=
  match s.colAccept conn h with
  | none => none
  | some (num, g) =>
    match g.op with
    | none => none
    | some o => if hKind h ≠ 0 || o.abort.isSome || s.opEnded o then none else some (num, g, o)

/-- One packet of a data message (R95): its bytes go to the position of (SRC_RANK, PHASE), plus their offset, or it is discarded
and counted. Whether it was accepted. -/
def State.dataPart (s : State) (conn : Nat) (part : (Nat × List Byte) × Option (List Byte) × Bool) : Bool × State :=
  let h := part.2.1.getD []
  match s.dataFor conn h with
  | none => (false, s.colDiscard)
  | some (num, g, o) =>
    let (a, room) := s.arriveAt g o.desc (hPhase h) (hRank h)
    if part.1.1 + part.1.2.length > room then (true, s)
    else match s.store (a + part.1.1) part.1.2 part.2.2 with
      | (some e, s) => (true, s.endOp num (colMemStatus e))
      | (none, s) => (true, s)

/-- The packets of a message in arrival order: whether all were accepted. -/
def State.dataParts (s : State) (conn : Nat) : List ((Nat × List Byte) × Option (List Byte) × Bool) → Bool × State
  | [] => (true, s)
  | p :: ps =>
    let r := s.dataPart conn p
    let t := State.dataParts r.2 conn ps
    (r.1 && t.1, t.2)

/-- R95: a data message's packets are checked and written; when the message is complete and none of it was discarded, A[s] or
B[s] is set. -/
def execCollectiveData (conn : BitVec 20) (msn : W32) (s : State) : Res :=
  match s.takeInbox conn.toNat msn.toNat with
  | (none, s) => ok s
  | (some b, s) =>
    let r := s.dataParts conn.toNat (b.parts.zip b.heads)
    let whole := r.1 && b.chdr.isSome
    let s := r.2
    if !b.complete then
      ok { s with trn := { s.trn with
        inbox := s.trn.inbox ++ [{ b with parts := [], heads := [], chdr := if whole then b.chdr else none }] } }
    else
      let h := b.chdr.getD []
      match s.dataFor conn.toNat h with
      | none => ok s
      | some (num, g, o) =>
        if !whole then ok s
        else
          match s.putCount g o.desc (hRank h) (b.total / cRecb o.desc) with
          | (some e, s) => ok (s.endOp num e)
          | (none, s) =>
            let pos := arriveFlag g o.desc (hPhase h) (hRank h)
            let s := s.setWindow g o.desc pos
            ok (s.setOp num { o with arrived := o.arrived ++ [(hPhase h, hRank h)], set_ := insertKey o.set_ pos })

/-- R94: a READY is held, up to two per member and group. -/
def execReady (conn : BitVec 20) (msn : W32) (s : State) : Res :=
  match s.takeInbox conn.toNat msn.toNat with
  | (none, s) => ok s
  | (some b, s) =>
    let h := b.chdr.getD []
    match s.colAccept conn.toNat h with
    | none => ok s.colDiscard
    | some (num, g) =>
      let mine := g.readys.filter (fun r => r.1 == hRank h)
      if hKind h ≠ 1 || decide (mine.length ≥ 2) || g.readys.contains (hRank h, hSeq h) then ok s.colDiscard
      else ok (s.setGrp num { g with readys := g.readys ++ [(hRank h, hSeq h)] })

/-- R110: an ABORT for the active operation. -/
def execAbort (conn : BitVec 20) (msn : W32) (s : State) : Res :=
  match s.takeInbox conn.toNat msn.toNat with
  | (none, s) => ok s
  | (some b, s) =>
    let h := b.chdr.getD []
    match s.colAccept conn.toNat h with
    | none => ok s.colDiscard
    | some (num, _) => if hKind h ≠ 2 then ok s.colDiscard else ok (s.abortOp num 0x25)

/-! ### Limits and drains (R110) -/

def State.limitNs (s : State) : Nat := max 10 (s.gf COL_TIMEOUT COL_TIMEOUT_LIMIT_US) * 1000

/-- R110: LIMIT_US has passed since activation. -/
def execCollectiveTimeout (g : BitVec 12) (s : State) : Res :=
  match (s.grp g.toNat).bind (·.op) with
  | some o => if s.now - o.at_ ≥ s.limitNs then ok (s.abortOp g.toNat 0x24) else ok s
  | none => ok s

/-- The transport engine holds no packet of the operation, or the connection is in error. -/
def State.drained (s : State) (num : Nat) (g : ColGroup) : Bool :=
  g.hub || g.others.all (fun r =>
    let c := s.cn (memId (g.member r))
    c.state != csReady
      || !((c.active ++ c.waiting).any (fun m => m.owner == .internal 1 && reqTag m.req % 4096 == num)))

/-- Window flags left in an undefined state (R110): free values. (Log entry 53: DESIGN CHOICE, safe.) -/
def State.freeWindow (s : State) (g : ColGroup) (d : List Byte) : Nat → State
  | 0 => s
  | k + 1 =>
    match s.translate 8 g.fctx ((cFlagBase d + k) % 2 ^ 24) needConsume with
    | (some p, s) =>
      State.freeWindow (s.tick.tick.putFlag p (s.fresh 1 == 1) (s.tick.fresh 1 == 1)) g d k
    | (none, s) => State.freeWindow s g d k

/-- The ranges of DST that an operation writes, at every member of a hub group (R92). -/
def State.dstRanges (s : State) (g : ColGroup) (d : List Byte) : List (Nat × Nat) :=
  let cap := routeCap (s.bytes (cRoute d) 16)
  if g.hub then (List.range g.n).map (fun r =>
    (hubBase g r + cDst d, match cOp d with
      | 1 => cCout d
      | 2 => g.n * cCin d
      | _ => g.n * cCout d))
  else [(cDst d, match cOp d with
    | 1 => cCout d
    | 2 => g.n * cCout d
    | 3 => g.n * cCout d
    | 4 => g.n * cap * cRecb d + 4 * g.n
    | _ => routeRows (s.bytes (cRoute d) 16) * cCout d)]

/-- Undefined contents of ranges: free values. (Log entry 53: DESIGN CHOICE, safe.) -/
def State.freeRanges (s : State) (l : List (Nat × Nat)) : State :=
  l.foldl (fun (s : State) r => s.tick.poke r.1 (s.entropy r.2)) s

/-- R110: the drain ends, DST holding undefined contents; or it has not ended within LIMIT_US and the window's state is
undefined. (Log entry 53: DESIGN CHOICE, safe.) -/
def execAbortDrainDone (g : BitVec 12) (s : State) : Res :=
  let num := g.toNat
  match s.grp num with
  | none => ok s
  | some grp =>
    match grp.op with
    | none => ok s
    | some o =>
      match o.abort with
      | none => ok s
      | some (status, since) =>
        if s.opEnded o then ok s
        else
          let all := if grp.hub then (if cOp o.desc = 2 then [] else (List.range grp.n).map (fun r => grp.n + r))
            else toConsume grp o.desc
          if all.all (fun p => o.consumed.contains p) && s.drained num grp then
            ok ((s.freeRanges (s.dstRanges grp o.desc)).endOp num status)
          else if s.now - since ≥ s.limitNs then
            ok ((s.freeWindow grp o.desc (windowSize grp o.desc)).endOp num 0x28)
          else ok s

/-! ### Completion (R88) -/

/-- The completion record: TAG, STATUS, DROPPED, ACTIVE_NS, INDEX. -/
def State.colRecord (s : State) (q : Nat) (d : Issued) (status dropped active : Nat) : State :=
  s.writeCmplRecord (colQ q) (leBytes 2 (dTag d.desc) ++ leBytes 2 status ++ leBytes 4 dropped
    ++ leBytes 4 (min active 0xFFFFFFFF) ++ leBytes 2 d.ix)

/-- The operation of a descriptor's group is the descriptor's. -/
def State.colMine (s : State) (n : Nat) (d : Issued) : Option ColOp :=
  ((s.grp (cGroup d.desc)).bind (·.op)).filter (fun o => o.queue == n && o.ix == d.ix && o.epoch == d.epoch)

/-- A completed operation leaves its group; one that ended with success makes the half it wrote the live one. -/
def State.colLive (s : State) (d : Issued) (st : Nat) (mine : Bool) : State :=
  onSome (s.grp (cGroup d.desc)) s fun g =>
    if st = 0 ∧ mine ∧ cEf d.desc then s.setLive g (cRbuf d.desc) (1 - cRhalf d.desc) else s

def State.colUnbind (s : State) (d : Issued) (mine : Bool) : State :=
  onSome (s.grp (cGroup d.desc)) s fun g =>
    if mine then s.setGrp (cGroup d.desc) { g with op := none, readys := g.readys.filter (fun r => r.2 != cSeq d.desc) }
    else s

/-- Nanoseconds since a descriptor activated (R88), and the state without its activation time. -/
def State.activeNs (s : State) (n : Nat) (d : Issued) : Nat :=
  ((s.col.begun.find? (fun e => e.1 == n && e.2.1 == d.ix && e.2.2.1 == d.epoch)).map (fun e => s.now - e.2.2.2)).getD 0
def State.dropBegun (s : State) (n : Nat) (d : Issued) : State :=
  { s with col := { s.col with begun := s.col.begun.filter (fun e => !(e.1 == n && e.2.1 == d.ix && e.2.2.1 == d.epoch)) } }

/-- The completion's effects with its status, in order: record, flag, barrier, halt, the group is free, the entry leaves. -/
def State.colFinish (s : State) (n : Nat) (d : Issued) (st dropped : Nat) (flag : Option Nat) : State :=
  let op := s.colMine n d
  let s := s.colLive d st op.isSome
  let s := if dCmpl d.desc || st != 0 then
    s.colRecord n d st dropped (s.activeNs n d) else s
  let s := onSome flag s fun p => if st = 0 then s.flagSet p else s
  let s := if st = 0 ∧ cBarEn d.desc then s.enterBarrier (cBarrier d.desc) (1024 + n) d.ix else s
  let s := if st ≠ 0 then s.sf (COL_QERR n) COL_QERR_HALTED 1 else s
  ((s.colUnbind d op.isSome).dropBegun n d).retire (colQ n) d.ix d.epoch

/-- R88: residual, record, SET_OP, barrier entry, CMD_HEAD, in this order. A record that is owed waits for room. -/
def execCollectiveComplete (n : Fin 32) (ix : W16) (s : State) : Res :=
  let b := colQ n
  match (s.ring b).issued.find? (fun d => d.ix == ix.toNat && d.result.isSome) with
  | none => ok s
  | some d =>
    let r := d.result.getD (0, 0)
    let ctx := s.fctx b
    let f := if r.1 = 0 ∧ dSetOp d.desc ≠ 0 then s.translate 8 ctx (dSetFlag d.desc) needSet else (none, s)
    let st := if r.1 ≠ 0 then r.1
      else if dSetOp d.desc ≠ 0 ∧ f.1.isNone then 0x14
      else if cBarEn d.desc ∧ !f.2.barAssigned (cBarrier d.desc) ctx then 0x15
      else 0
    if (dCmpl d.desc || st != 0) && !f.2.cmplRoom b then ok f.2 else ok (f.2.colFinish n d st r.2 f.1)

/-! ### The slot schedule (R104 to R109) -/

/-- COL_SLOT_STATUS follows the active list and the time unit. -/
def State.showSlots (s : State) : State :=
  let act := match s.col.slotActive with
    | some l => decide (l.t ≤ s.now)
    | none => false
  let s := s.sf COL_SLOT_STATUS COL_SLOT_STATUS_ACTIVE_VALID (b2n act)
  let s := s.sf COL_SLOT_STATUS COL_SLOT_STATUS_PENDING (b2n s.col.slotPending.isSome)
  let s := s.sf COL_SLOT_STATUS COL_SLOT_STATUS_QUALIFIED (b2n s.slotQualified)
  match s.col.slotActive with
  | some l => s.sf COL_SLOT_STATUS COL_SLOT_STATUS_SLOT (if l.t ≤ s.now then l.index s.now else 0)
  | none => s

/-- The consistency code of an admin slot list (R82). -/
def State.slotCheck (s : State) (n base : Nat) (inMem : Bool) (es : List Nat) : Option Nat :=
  let mask := es.foldl (fun m e => if slotKind e = 1 ∨ slotKind e = 2 then Nat.lor m (slotMask e) else m) 0
  let anyMask := es.foldl (fun m e => Nat.lor m (slotMask e)) 0
  if n = 0 ∨ n > 4096 ∨ !inMem ∨ base % slotNs ≠ 0 then some 0x0657
  else if (es.filter (fun e => slotKind e == 2)).length < n / 16 then some 0x0658
  else if (List.range 8).any (fun p => bitAt mask p && s.isEth p) || (s.eightLane && decide (anyMask ≥ 2 ^ 16)) then
    some 0x0659
  else none

/-- Commit a checked slot list: pending until T, LATE and TG_LATE when late (R107). -/
def State.slotCommit (s : State) (base : Nat) (es : List Nat) : State × Nat × Bool :=
  let (t, late) := takeover base (es.length * slotNs) (s.now + 2000)
  let s := { s with col := { s.col with slotPending := some ⟨es, t⟩ } }
  let s := if late then (s.sf COL_SLOT_STATUS COL_SLOT_STATUS_LATE 1).sf TG_LATE TG_LATE_COL 1 else s
  (((s.wr64 COL_SLOT_TAKEOVER t).colRefusal 0).showSlots, t, late)

/-- COL_SLOT_CTL (R107). -/
def writeColSlotCtl (q : Requester) (v : W32) (s : State) : State :=
  if !coreWrites q then s
  else if s.col.slotPending.isSome then
    if bitAt v.toNat 30 then
      let s := { s with col := { s.col with slotPending := none } }
      (s.wr64 COL_SLOT_TAKEOVER ((s.col.slotActive.map (·.t)).getD 0)).showSlots
    else s
  else
    let n := v.toNat % 8192
    let s := s.sf COL_SLOT_CTL COL_SLOT_CTL_NSLOTS n
    if bitAt v.toNat 31 && !s.blockDown 8 then
      let a := s.gf COL_SLOT_ADMIN COL_SLOT_ADMIN_BASE <<< 12
      let es := (List.range (min n 4096)).map (fun k => s.le (a + 8 * k) 8)
      let s := (s.load a (8 * n)).2.2
      onSome (s.slotCheck n (s.rd64 COL_SLOT_BASETIME) (inHbm a (8 * n)) es)
        (s.slotCommit (s.rd64 COL_SLOT_BASETIME) es).1 (fun c => s.colRefusal c)
    else s

def execSlotCommit (q : Requester) (v : W32) (s : State) : Res := ok (writeColSlotCtl q (v ||| 0x80000000#32) s)
def execSlotCancel (q : Requester) (v : W32) (s : State) : Res :=
  ok (writeColSlotCtl q ((v &&& 0x7FFFFFFF#32) ||| 0x40000000#32) s)

def writeColSlotAdmin (q : Requester) (off : Nat) (mask v : W32) (s : State) : State :=
  if coreWrites q && s.col.slotPending.isNone then s.wr off (v &&& mask) else s

def writeColSlotStatus (q : Requester) (v : W32) (s : State) : State :=
  if coreWrites q && bitAt v.toNat 28 then s.sf COL_SLOT_STATUS COL_SLOT_STATUS_LATE 0 else s

/-- R107: the pending list takes over at T. (Log entry 344: DEDUCED, unsafe.) -/
def execSlotListTakeover (s : State) : Res :=
  match s.col.slotPending with
  | some l =>
    if s.now ≥ l.t then
      ok (({ s with col := { s.col with slotActive := some l, slotPending := none, slotPrior := s.col.slotActive } }.showSlots.kvTakeover).pumpAll)
    else ok s
  | none => ok s

/-- R105, R109: a slot boundary; the slot in force changes and messages that waited for a window go on. -/
def execSlotBoundary (s : State) : Res := ok s.showSlots.pumpAll

/-! ### Syncen operations (R112); domains 3 and 4 carry them (R376) -/

/-- The domain of a group's requests: its queue's, and domain 3 for a group bound to no queue. -/
def State.domGroup (s : State) (g : Nat) : Option Nat :=
  match (s.grp g).bind (·.bound) with
  | some q => some (if q < 16 then 3 else 4)
  | none => some 3

/-- R112: the record and the member list are written to HBM and the group is loaded. (Log entry 57: DEDUCED, unsafe.) -/
def execSynColGroupCreate (r : SynReq) (g : BitVec 12) (rec_ : Vector Byte 64) (members : List W32) (s : State) : Res :=
  ok (s.syn 0x0500 (s.domGroup g.toNat) r fun s =>
    if (s.grp g.toNat).isSome then refuse s 0x0301
    else
      let s := s.poke ((s.gf COL_GRP_BASE COL_GRP_BASE_BASE <<< 12) + g.toNat * 64) rec_.toList
      let s := s.poke (recMembers rec_.toList) (members.flatMap (fun m => leBytes 4 m.toNat))
      match s.loadGroup g.toNat with
      | (some c, s) => refuse (s.colRefusal c) c
      | (none, s) => success (s.colRefusal 0).colLoaded)

def execSynColGroupDestroy (r : SynReq) (g : BitVec 12) (s : State) : Res :=
  ok (s.syn 0x0501 (s.domGroup g.toNat) r fun s =>
    if s.grpActive g.toNat then refuse (s.colRefusal 0x0656) 0x0656
    else success ((s.dropGrp g.toNat).colRefusal 0).colLoaded)

/-- R111, R112. -/
def execSynColGroupRebind (r : SynReq) (g : BitVec 12) (rank : Byte) (entry : W32) (epoch : W16) (s : State) : Res :=
  ok (s.syn 0x0502 (s.domGroup g.toNat) r fun s =>
    if s.grpActive g.toNat then refuse (s.colRefusal 0x0656) 0x0656
    else
      let base := (s.gf COL_GRP_BASE COL_GRP_BASE_BASE <<< 12) + g.toNat * 64
      let old := s.grpRecord g.toNat
      let s := s.zeroResiduals old
      let s := s.poke (base + 28) (leBytes 2 epoch.toNat)
      let s := s.poke (recMembers old.rec_ + 4 * rank.toNat) (leBytes 4 entry.toNat)
      match (s.dropGrp g.toNat).loadGroup g.toNat with
      | (some c, s) => refuse (s.colRefusal c) c
      | (none, s) => success (s.colRefusal 0).colLoaded)

/-- R107, R112. -/
def execSynColSchedLoad (r : SynReq) (basetime : W64) (entries : List W64) (s : State) : Res :=
  ok (s.syn 0x0503 (some 3) r fun s =>
    if s.col.slotPending.isSome then refuse s 0x0201
    else
      let es := entries.map (·.toNat)
      match s.slotCheck es.length basetime.toNat true es with
      | some c => refuse (s.colRefusal c) c
      | none =>
        let (s, t, late) := s.slotCommit basetime.toNat es
        success s (leBytes 8 t ++ leBytes 1 (b2n late)))

/-- R110, R112. -/
def execSynColAbort (r : SynReq) (g : BitVec 12) (s : State) : Res :=
  ok (s.syn 0x0504 (s.domGroup g.toNat) r fun s =>
    if !s.grpActive g.toNat then refuse s 0x0202 else success (s.abortOp g.toNat 0x27))

/-- R112: the active SEQ (a free value when none is active), EPOCH, LIVE and COL_DISCARD, which the query leaves.
(Log entry 56: DESIGN CHOICE, safe.) -/
def execSynColQuery (r : SynReq) (g : BitVec 12) (buffer : BitVec 15) (s : State) : Res :=
  ok (s.syn 0x0505 (s.domGroup g.toNat) r fun s =>
    let grp := s.grpRecord g.toNat
    let seq := match (s.grp g.toNat).bind (·.op) with
      | some o => cSeq o.desc
      | none => (s.fresh 32).toNat
    success s.tick (leBytes 4 seq ++ leBytes 2 grp.epoch ++ leBytes 1 (s.liveBit grp buffer.toNat)
      ++ leBytes 4 (s.rd COL_DISCARD).toNat))

end Sys2Proof.Machine
end

