-- ==== Sys2Proof/Machine/Identity.lean ====
section
/-! DEFINITION. The key store's writes, the identity and the certificates (14_security_and_keys.md R300 to R309), as
resets, the boot ROM and the security commands use them. -/

namespace Sys2Proof.Machine

/-- SEC_STATUS.LOADED counts the slots that are not EMPTY. -/
def State.showLoaded (s : State) : State :=
  s.sf SEC_STATUS SEC_STATUS_LOADED (s.sec.slots.filter (fun e => e.2.type != 0)).length

/-- Write a slot: its GEN increments (R305). -/
def State.writeSlot (s : State) (k : Nat) (v : KeySlot) : State :=
  (s.setSlot k { v with gen := ((s.slotOf k).gen + 1) % 2 ^ 16 }).showLoaded

/-- The bytes of an ASCII label. -/
def ascii (t : String) : List Byte := t.toList.map (fun c => BitVec.ofNat 8 c.toNat)

/-- The sealing key in K0 (R302, R306, R319): the debug label while debug scope [0] or [1] is in force and in factory
test mode. -/
def State.sealK0 (s : State) : State :=
  let dbg := s.bit SEC_STATUS SEC_STATUS_FACTORY || s.gf SEC_STATUS SEC_STATUS_DEBUG % 4 != 0
  s.writeSlot 0 ⟨5, ownerInternal, false, 0, shake (s.sec.seed ++ ascii (if dbg then "NE-SEAL-DBG" else "NE-SEAL")) 32⟩

/-- The identity key pair's seed values, and its public key (R302). -/
def identitySeed (seed : List Byte) : List Byte := shake (seed ++ ascii "NE-ID") 96
def identityPublic (seed : List Byte) : List Byte := fit 64 (Config.slhDsaPublic (identitySeed seed))

/-- The serial number: the first 8 bytes of the digest of the identity public key (R302). -/
def identityDsn (pub : List Byte) : Nat := leNat ((shake pub 64).take 8)

/-- The identity takes effect: public key, SEC_DSN, ID_VALID and K0. -/
def State.setIdentity (s : State) (seed : List Byte) : State :=
  let pub := identityPublic seed
  let s := { s with sec := { s.sec with seed := seed, identity := pub } }
  (((s.wr64 SEC_DSN (identityDsn pub)).sf SEC_STATUS SEC_STATUS_ID_VALID 1)).sealK0

/-- The bytes occur consecutively in a string. -/
def occursIn (p : List Byte) : List Byte → Bool
  | [] => p.isEmpty
  | b :: bs => p.isPrefixOf (b :: bs) || occursIn p bs

/-- A certificate names the identity (R303). -/
def State.certOk (s : State) (c : List Byte) : Bool :=
  s.bit SEC_STATUS SEC_STATUS_ID_VALID && occursIn s.sec.identity c

/-- The certificate is a Colkied certificate of this identity (R303). -/
def State.mfgOk (s : State) (c : List Byte) : Bool :=
  let pub := (c.drop 96).take 64
  c.length == 30048 && c.take 4 == ascii "NECT" && fieldLE c 4 4 == 1 && (c.drop 32).take 64 == s.sec.identity
    && fieldLE c 24 4 < 2 && shake pub 64 == fit 64 (Config.romMfgDigest (fieldLE c 24 4))
    && Config.slhDsaVerify 0 pub (c.take 256) (c.drop 256)

/-- CERT and MFG_CERT of the stored certificate (R303). -/
def State.showCert (s : State) : State :=
  let c := s.flash.cert
  let ok := s.certOk c
  (s.sf SEC_STATUS SEC_STATUS_CERT (b2n ok)).sf SEC_STATUS SEC_STATUS_MFG_CERT (b2n (ok && s.mfgOk c))

/-- The helper area is blank. -/
def helperBlank (h : List Byte) : Bool := h.all (fun b => b == 0xFF#8)

/-- Reconstruction at a full device reset (R301): the identity, or ID_FAIL and its report. -/
def State.deriveIdentity (s : State) : State :=
  let h := s.flash.helper
  let seed := fit 32 (Config.pufSeed h)
  if helperBlank h || shake seed 32 != fit 32 (Config.helperCheck h) then
    (s.sf SEC_STATUS SEC_STATUS_ID_FAIL 1).fault 0x15 0 (b2n (helperBlank h))
  else (s.setIdentity seed).showCert

end Sys2Proof.Machine
end

