-- ==== Sys2Proof/Machine/Boot.lean ====
section
/-! DEFINITION. Signed images, the full device reset and the boot ROM (14_security_and_keys.md R301 to R303, R315;
17_firmware_and_syncen.md R358 to R362, R382; 22_package_and_pins.md R476). -/

namespace Sys2Proof.Machine

/-! ### Signed images (R359) -/

def imgVersion (i : List Byte) : Nat := fieldLE i 8 8
def imgBody (i : List Byte) : Nat := fieldLE i 24 8
def imgPub (i : List Byte) : List Byte := (i.drop 64).take 64

/-- Why an image of a kind is not accepted: the load error codes of R362. `withdraw` has bit k set for a ROM key that
the configuration in force has withdrawn. (Log entry 172: DEDUCED, unsafe.) -/
def imgError (kind withdraw : Nat) (i : List Byte) : Option Nat :=
  let maxBody := if kind = 1 then 64 * 2 ^ 20 - 30048 else 512
  let key := fieldLE i 20 4
  if i.length < 256 then some 0x14
  else if i.take 4 ≠ ascii "NEFW" ∨ fieldLE i 4 4 ≠ 1 ∨ fieldLE i 16 4 ≠ kind ∨ imgBody i > maxBody
      ∨ (kind = 1 ∧ fieldLE i 44 4 > 2 ^ 21) then some 0x10
  else if i.length < 256 + imgBody i + 29792 then some 0x14
  else if key > 3 ∨ shake (imgPub i) 64 ≠ fit 64 (Config.romImageDigest key) ∨ bitAt withdraw key then some 0x11
  else if Config.slhDsaVerify 0 (imgPub i) (i.take (256 + imgBody i)) ((i.drop (256 + imgBody i)).take 29792) then none
  else some 0x12

/-- Digest of header and body. -/
def imgDigest (i : List Byte) : List Byte := shake (i.take (256 + imgBody i)) 64

/-- A section of a package's body. -/
def imgSection (i : List Byte) (off n : Nat) : List Byte := ((i.drop (256 + off)).take n)
def imgTs (i : List Byte) : List Byte := imgSection i (fieldLE i 32 4) (fieldLE i 36 4)
def imgTahr (i : List Byte) : List Byte := imgSection i (fieldLE i 40 4) (fieldLE i 44 4)

/-- The header fields of a verified package that later rules use. -/
def fwPackage (i : List Byte) : FwPackage :=
  ⟨imgVersion i, fieldLE i 48 2, fieldLE i 50 2, fieldLE i 52 2, fieldLE i 54 2, shake (imgTs i) 64, imgDigest i⟩

/-- The configuration a verified image body gives (R359, R360). -/
def cfgImage (i : List Byte) : CfgImage :=
  let b := i.drop 256
  let sub := fieldLE b 2 2
  let mib := fieldLE b 6 1
  { version := imgVersion i, mode := fieldLE b 0 1 % 4, subsys := if sub = 0 then 1 else sub
    withdraw := fieldLE b 4 1 % 16, ndebug := min 4 (fieldLE b 5 1), spillMib := if mib = 0 then 1 else mib
    debugDigests := (List.range 4).map (fun k => (b.drop (16 + 64 * k)).take 64), digest := imgDigest i }

/-- The configuration copy in force (R360): 0 copy A, 1 copy B, with its content. -/
def Flash.config (f : Flash) : Option (Nat × List Byte) :=
  let a := (imgError 2 0 f.cfgA).isNone
  let b := (imgError 2 0 f.cfgB).isNone
  if a && b then some (if imgVersion f.cfgA ≥ imgVersion f.cfgB then (0, f.cfgA) else (1, f.cfgB))
  else if a then some (0, f.cfgA)
  else if b then some (1, f.cfgB)
  else none

/-! ### Full device reset and boot (R301, R316, R338, R361, R382, R476) -/

/-- A full device reset: everything the survival table lists as lost, with the flash, the always-on island, host and
accelerator memory and the supplies and pins that the board drives kept. (Log entries 222: DEDUCED, unsafe; 223:
DEDUCED, unsafe.) -/
def State.fullReset (s : State) : State :=
  { State.reset with
    pending := s.pending
    flash := s.flash
    mem := s.mem.filter (fun e => decide (accelBase ≤ e.1))
    marks := s.marks.filter (fun e => decide (accelBase / 8 ≤ e.1))
    hostMem := s.hostMem
    pins := { s.pins with aperst := [], dperst := [], rootUp := [], rootHeld := [], tapDr := [], ppsOut := false, ppsOutHiZ := true, wakeN := true }
    aon := s.aon
    faultN := false
    free := s.free
    boots := s.boots + 1
    out := s.out }

/-- The boot ROM up to the identity (R361 steps 1 to 4): straps latched and measured, the configuration applied and
measured, the identity derived, BOOT_ID drawn. HBM_READY ends the ROM part. (Log entry 220: DEDUCED, unsafe.) -/
def State.bootRom (s : State) : State :=
  let s := { s with faultN := true, pins := { s.pins with ppsOutHiZ := false } }
  let s := (s.wr DEV_STRAPS (BitVec.ofNat 32 s.pins.straps)).sf DEV_STATUS DEV_STATUS_STAGE 1
  let s := (s.sf (CORE_STATUS 32) CORE_STATUS_STATE 1).sf SEC_STATUS SEC_STATUS_FACTORY (s.pins.straps % 2)
  let s := s.tick.extendMR 4 (s.fresh 32).toNat (shake (leBytes 4 s.pins.straps) 64)
  let s := match s.flash.config with
    | some (slot, img) =>
      let c := cfgImage img
      let s := (s.sf DEV_STATUS DEV_STATUS_CFG_VALID 1).sf DEV_STATUS DEV_STATUS_CFG_SLOT slot
      let s := s.tick.extendMR 0 (s.fresh 32).toNat c.digest
      { s with fw := { s.fw with cfg := c } }
    | none => s
  let s := s.cfgWr 0x2C (BitVec.ofNat 32 (s.fw.cfg.subsys * 65536 + 0x1D7C))
  let s := s.sf DEV_STATUS DEV_STATUS_STAGE 2
  let s := { s.tick with sec := { s.tick.sec with bootId := s.entropy 8 } }
  s.deriveIdentity.sf DEV_STATUS DEV_STATUS_STAGE 3

/-- The internal reset is released: PERST_N is high and every main rail is in range (R338, R481). -/
def State.mayBoot (s : State) : Bool := s.pins.perstN && s.pins.mainInRange && s.pins.aonInRange

/-- A full device reset that ends at once when nothing holds it. (Log entry 220: DEDUCED, unsafe.) -/
def State.resetAndBoot (s : State) : State :=
  let s := s.fullReset
  if s.mayBoot then s.bootRom else s

end Sys2Proof.Machine
end

