-- ==== Sys2Proof/Machine/Draft.lean ====
section
/-! DEFINITION. The draft model of Eland: its image, and the transformer it describes, run on one input token
(07_eland_draft_and_sampling.md R149, R157, R159). -/

namespace Sys2Proof.Machine

/-! ### The image header (R157) -/

def edLayers (h : List Byte) : Nat := fieldLE h 4 2
def edHidden (h : List Byte) : Nat := fieldLE h 6 2
def edHeads (h : List Byte) : Nat := fieldLE h 8 2
def edKvHeads (h : List Byte) : Nat := fieldLE h 10 2
def edHeadDim (h : List Byte) : Nat := fieldLE h 12 2
def edFfn (h : List Byte) : Nat := fieldLE h 16 4
def edWindow (h : List Byte) : Nat := fieldLE h 20 4
def edVocab (h : List Byte) : Nat := fieldLE h 24 4
def edWfmt (h : List Byte) : Nat := wordFd h 7 0 4
def edAfmt (h : List Byte) : Nat := wordFd h 7 4 4
def edCfmt (h : List Byte) : Nat := wordFd h 7 8 4
def edRopeBase (h : List Byte) : Nat := fieldLE h 32 4
def edNormEps (h : List Byte) : Nat := fieldLE h 36 4
def edBody (h : List Byte) : Nat := fieldLE h 40 8

/-- Elements of the keys, or of the values, of one layer. -/
def edKvDim (h : List Byte) : Nat := edKvHeads h * edHeadDim h
/-- Their bytes in a draft cache entry. -/
def edKvBytes (h : List Byte) : Nat := storedBytes (edCfmt h) (edKvDim h)

/-- Bytes of one draft cache entry (R159). -/
def edEntry (h : List Byte) : Nat := (edLayers h * 2 * edKvBytes h + 63) / 64 * 64

/-! ### The tensors of the body (R157) -/

/-- Bytes of a matrix: `rows` output rows of `cols` input elements. -/
def edMatrix (h : List Byte) (rows cols : Nat) : Nat := rows * storedBytes (edWfmt h) cols

/-- Bytes of the tensors of a layer: norm 1, Wq, Wk, Wv, Wo, norm 2, Wgate, Wup, Wdown. -/
def edTensors (h : List Byte) : List Nat :=
  let d := edHidden h
  let q := edHeads h * edHeadDim h
  [2 * d, edMatrix h q d, edMatrix h (edKvDim h) d, edMatrix h (edKvDim h) d, edMatrix h d q, 2 * d,
    edMatrix h (edFfn h) d, edMatrix h (edFfn h) d, edMatrix h d (edFfn h)]

/-- Where tensor `i` of layer `l` begins in the body; after the last layer, the final norm. -/
def edTensorAt (h : List Byte) (l i : Nat) : Nat :=
  edMatrix h (edVocab h) (edHidden h) + l * (edTensors h).sum + ((edTensors h).take i).sum

/-- Bytes of the body; past its end, where the manual gives the tensors none, free ones. (Log entry 71: DESIGN
CHOICE, safe.) -/
def bodyBytes (body : List Byte) (off n : Nat) : List Byte :=
  if off + n ≤ body.length then (body.drop off).take n else leBytes n (Config.freeValue (8 * n) (2 ^ 200 + off)).toNat

/-! ### Arithmetic of the units (R34, R50, R51)

`n` numbers the free values that an open grouping or an open rounding uses. -/

/-- A special-function result as a value. -/
def sfuNum (f : Nat) (x : Num) : Num :=
  fp32.decode (sfuCode f x (Config.sfuValue f (BitVec.ofNat 32 (toF32 x))).toNat)

/-- A quotient: the product with the reciprocal of the special-function unit (R51). (Log entry 70: DESIGN CHOICE,
safe.) -/
def numDiv (x y : Num) : Num := rnd32 (x.mul (sfuNum 4 y))
def numAdd (x y : Num) : Num := rnd32 (x.add y)
def numMul (x y : Num) : Num := rnd32 (x.mul y)
def numSum (n : Nat) (xs : List Num) : Num := sumAny xs.length n xs
def numDot (n : Nat) (xs ys : List Num) : Num := numSum n ((xs.zip ys).map (fun p => numMul p.1 p.2))

/-- The rounding of a conversion's elements, which no rule of the draft model chooses: to nearest or stochastic. (Log
entry 71: DESIGN CHOICE, safe.) -/
def anyRounding (n : Nat) : List Rounding :=
  (List.range 32).map (fun i =>
    if Config.freeValue 1 n = 0 then .nearest else .stochastic (Config.freeValue 16 (n + 1 + i)).toNat)

/-- Values converted to a format as consecutive groups of 32. -/
def encodeAll (fmt n : Nat) (xs : List Num) : List Byte :=
  (groupsOf 32 xs).flatMap (fun g => (cvtGroup fmt true (anyRounding n) g).1)

/-- A matrix of the body times a vector: activations in AFMT, one accumulator per output row (R33, R50). -/
def edTimes (h body : List Byte) (n off rows cols : Nat) (x : List Num) : List Num :=
  let a := mmaRecords (edAfmt h) (cols / 32) (encodeAll (edAfmt h) n x)
  let row := storedBytes (edWfmt h) cols
  (List.range rows).map (fun o =>
    mmaElement posZero a (mmaRecords (edWfmt h) (cols / 32) (bodyBytes body (off + o * row) row)))

/-! ### The blocks of the transformer -/

/-- RMS normalisation with a BF16 norm vector. -/
def edRms (h body : List Byte) (n off : Nat) (x : List Num) : List Num :=
  let mean := numDiv (numDot n x x) (.fin false x.length 0)
  let r := sfuNum 5 (numAdd mean (fp32.decode (edNormEps h)))
  let w := decodeElems 1 x.length (bodyBytes body off (2 * x.length))
  (x.zip w).map (fun p => numMul (numMul p.1 r) p.2)

/-- Rotary position encoding of one head; the angle's cosine and sine, and which elements make a pair, are open. (Log
entry 71: DESIGN CHOICE, safe.) -/
def edRotate (h : List Byte) (pos : Nat) (x : List Num) : List Num :=
  let half := x.length / 2
  let mate (i : Nat) : Nat :=
    if Config.ropeHalves then (if i < half then i + half else i - half) else if i % 2 = 0 then i + 1 else i - 1
  let ix (i : Nat) : Nat := if Config.ropeHalves then i % max 1 half else i / 2
  let first (i : Nat) : Bool := if Config.ropeHalves then decide (i < half) else i % 2 == 0
  (List.range x.length).map (fun i =>
    let turn := Config.ropeTurn (BitVec.ofNat 32 (edRopeBase h)) x.length (ix i) pos
    let a := numMul (x.getD i posZero) (fp32.decode turn.1.toNat)
    let b := numMul (x.getD (mate i) posZero) (fp32.decode turn.2.toNat)
    numAdd a (if first i then b.neg else b))

/-- The heads of a row of keys, values or queries. -/
def edSplit (h : List Byte) (x : List Num) : List (List Num) := groupsOf (edHeadDim h) x

/-- Attention of one query head over the keys and values of the positions in the window. -/
def edAttend (n : Nat) (q : List Num) (keys values : List (List Num)) : List Num :=
  let root := sfuNum 6 (.fin false q.length 0)
  let scores := ((List.range keys.length).zip keys).map (fun k => numDiv (numDot (n + 512 * k.1) q k.2) root)
  let top := scores.foldl numMax negInf
  let es := scores.map (fun x => sfuNum 0 (numAdd x top.neg))
  let total := numSum (n + 2 ^ 23) es
  let ps := es.map (fun e => numDiv e total)
  (List.range q.length).map (fun i =>
    numDot (n + 2 ^ 24 + 2 ^ 14 * i) ps (values.map (fun v => v.getD i posZero)))

/-- Keys and values of layer `l` in a draft cache entry. -/
def edKeys (h : List Byte) (l : Nat) (entry : List Byte) : List Num :=
  decodeElems (edCfmt h) (edKvDim h) (entry.drop (2 * l * edKvBytes h))
def edValues (h : List Byte) (l : Nat) (entry : List Byte) : List Num :=
  decodeElems (edCfmt h) (edKvDim h) (entry.drop ((2 * l + 1) * edKvBytes h))

/-- Grouped-query attention over the sliding window: the output rows of all heads. -/
def edAttention (h : List Byte) (n l : Nat) (q : List Num) (window : List (List Byte)) : List Num :=
  let per := edHeads h / max 1 (edKvHeads h)
  let keys := window.map (fun e => edSplit h (edKeys h l e))
  let values := window.map (fun e => edSplit h (edValues h l e))
  ((List.range (edHeads h)).zip (edSplit h q)).flatMap (fun p =>
    edAttend (n + 2 ^ 32 * p.1) p.2 (keys.map (fun k => k.getD (p.1 / per) [])) (values.map (fun v => v.getD (p.1 / per) [])))

/-- The gated feed-forward network with SiLU. -/
def edForward (h body : List Byte) (n l : Nat) (x : List Num) : List Num :=
  let gate := edTimes h body n (edTensorAt h l 6) (edFfn h) (edHidden h) x
  let up := edTimes h body (n + 64) (edTensorAt h l 7) (edFfn h) (edHidden h) x
  let act := (gate.zip up).map (fun p => numMul (numMul p.1 (sfuNum 8 p.1)) p.2)
  edTimes h body (n + 128) (edTensorAt h l 8) (edHidden h) (edFfn h) act

/-- One layer on the entry built so far and the running vector: its keys and values join the entry, then the block's two
parts are added to the vector. `past` holds the entries of the earlier positions in the window. -/
def edLayer (h body : List Byte) (past : List (List Byte)) (pos n l : Nat) (acc : List Byte × List Num) :
    List Byte × List Num :=
  let q := edHeads h * edHeadDim h
  let x := edRms h body n (edTensorAt h l 0) acc.2
  let queries := (edSplit h (edTimes h body (n + 2 ^ 13) (edTensorAt h l 1) q (edHidden h) x)).flatMap (edRotate h pos)
  let keys := (edSplit h (edTimes h body (n + 2 ^ 13) (edTensorAt h l 2) (edKvDim h) (edHidden h) x)).flatMap (edRotate h pos)
  let values := edTimes h body (n + 2 ^ 13) (edTensorAt h l 3) (edKvDim h) (edHidden h) x
  let entry := fit (2 * l * edKvBytes h) acc.1 ++ encodeAll (edCfmt h) (n + 2 ^ 13 + 64) keys
    ++ encodeAll (edCfmt h) (n + 2 ^ 13 + 128) values
  let heads := edAttention h (n + 2 ^ 45) l queries (past ++ [entry])
  let x := (acc.2.zip (edTimes h body (n + 2 ^ 14) (edTensorAt h l 4) (edHidden h) q heads)).map (fun p => numAdd p.1 p.2)
  let y := edForward h body (n + 2 ^ 15) l (edRms h body (n + 2 ^ 16) (edTensorAt h l 5) x)
  (entry, (x.zip y).map (fun p => numAdd p.1 p.2))

/-- The model run on one input token at a position: the cache entry of the position, and the logits of the whole vocabulary
from the embedding it shares with the output projection (R149, R157). Every value that the manual's formats and units fix
is computed; open groupings, roundings and orders take free values. (Log entry 71: DESIGN CHOICE, safe.) -/
def edRun (h body : List Byte) (past : List (List Byte)) (pos tok n : Nat) : List Byte × List Num :=
  let row := storedBytes (edWfmt h) (edHidden h)
  let x0 := (decodeElems (edWfmt h) (edHidden h) (bodyBytes body (tok * row) row)).map rnd32
  let (entry, x) := (List.range (edLayers h)).foldl (fun acc l => edLayer h body past pos (n + 2 ^ 64 * l) l acc) ([], x0)
  let y := edRms h body (n + 2 ^ 17) (edTensorAt h (edLayers h) 0) x
  (fit (edEntry h) entry, edTimes h body (n + 2 ^ 18) 0 (edVocab h) (edHidden h) y)

end Sys2Proof.Machine
end

