-- ==== Sys2Proof/Machine/Eland.lean ====
section
/-! DEFINITION. Eland: draft, sampling, acceptance and delivery (07_eland_draft_and_sampling.md R140 to R163). -/

namespace Sys2Proof.Machine

/-! ### Context bytes 128 to 255 (R156) -/

def exATTACHED : Fd := ⟨1024, 1⟩
def exCOHORT : Fd := ⟨1025, 1⟩
def exGREEDY : Fd := ⟨1026, 1⟩
def exSTOPPED : Fd := ⟨1027, 1⟩
def exLOGPROB : Fd := ⟨1028, 1⟩
def exLAST_VALID : Fd := ⟨1029, 1⟩
def exDLEN : Fd := ⟨1032, 4⟩
def exTOPK : Fd := ⟨1040, 8⟩
def exTEMP : Fd := ⟨1056, 32⟩
def exTOPP : Fd := ⟨1088, 32⟩
def exREP_PEN : Fd := ⟨1120, 32⟩
def exPRES_PEN : Fd := ⟨1152, 32⟩
def exFREQ_PEN : Fd := ⟨1184, 32⟩
def exREP_WIN : Fd := ⟨1216, 9⟩
def exHIST_NEXT : Fd := ⟨1232, 8⟩
def exHIST_FULL : Fd := ⟨1240, 1⟩
def exLAST : Fd := ⟨1248, 32⟩
def exHIST_ADDR : Fd := ⟨1280, 52⟩
def exDCACHE_ADDR : Fd := ⟨1344, 52⟩
def exOUT_SEQ : Fd := ⟨1408, 32⟩
def exMAX_TOKENS : Fd := ⟨1440, 32⟩
def exSTOP (i : Nat) : Fd := ⟨1472 + 32 * i, 32⟩
def exCLIENT_ID : Fd := ⟨1600, 64⟩
def exOUT_CHAN : Fd := ⟨1664, 12⟩
def exATT_BASE : Fd := ⟨1696, 32⟩
def exSTEP : Fd := ⟨1728, 64⟩
def exDRAFTED : Fd := ⟨1792, 32⟩
def exACCEPTED : Fd := ⟨1824, 32⟩
def exPASSES : Fd := ⟨1856, 32⟩

/-! ### FP32 arithmetic of the sampler (R34, R51, R146) -/

def f32 (c : Nat) : Num := fp32.decode c
def f32Add (a b : Nat) : Nat := toF32 ((f32 a).add (f32 b))
def f32Sub (a b : Nat) : Nat := toF32 ((f32 a).add (f32 b).neg)
def f32Mul (a b : Nat) : Nat := toF32 ((f32 a).mul (f32 b))
def f32Lt (a b : Nat) : Bool := (f32 a).lt (f32 b)

/-- (Log entry 70: DESIGN CHOICE, safe.) -/
def f32Div (a b : Nat) : Nat := toF32 (numDiv (f32 a) (f32 b))
/-- (Log entry 70: DESIGN CHOICE, safe.) -/
def f32Exp (a : Nat) : Nat := toF32 (sfuNum 0 (f32 a))

/-- a ≤ b as real numbers: no NaN, and the zeros are equal. -/
def f32Le (a b : Nat) : Bool :=
  !(f32 a).isNan && !(f32 b).isNan && (!f32Lt b a || ((f32 a).abs.lt (f32 1) && (f32 b).abs.lt (f32 1)))

/-- The sum of FP32 values in an open grouping, which the free values from number `n` on choose. (Log entry 70:
DESIGN CHOICE, safe.) -/
def f32Sum (n : Nat) (l : List Nat) : Nat := toF32 (numSum n (l.map f32))

/-- FP32 constants. -/
def f32One : Nat := 0x3F800000
def f32NegInf : Nat := 0xFF800000

/-! ### The sampler (R146 to R148) -/

/-- Order of candidates: decreasing value, ties by increasing token. -/
def candBefore (a b : Nat × Nat) : Bool := f32Lt b.2 a.2 || (!f32Lt a.2 b.2 && decide (a.1 < b.1))
def insertCand (x : Nat × Nat) : List (Nat × Nat) → List (Nat × Nat)
  | [] => [x]
  | y :: t => if candBefore x y then x :: y :: t else y :: insertCand x t
def sortCands (l : List (Nat × Nat)) : List (Nat × Nat) := l.foldl (fun a x => insertCand x a) []

/-- Step 1: the 128 largest logits of the shards' pairs. -/
def mergePairs (l : List (Nat × Nat)) : List (Nat × Nat) := (sortCands l).take 128

/-- Step 2: the repetition controls. -/
def penalise (c : ElCtl) (window : List Nat) (x : Nat × Nat) : Nat × Nat :=
  let k := window.count x.1
  if k = 0 then x
  else
    let z := if f32Lt 0 x.2 && x.2 != 0x80000000 then f32Div x.2 c.repPen else f32Mul x.2 c.repPen
    (x.1, f32Sub (f32Sub z c.presPen) (f32Mul (toF32 (.fin false k 0)) c.freqPen))

/-- The shortest leading run whose cumulative weight reaches `lim`, at least one. `n` names the open grouping of the
sums. -/
def leadingRun (n : Nat) (ps : List (Nat × Nat)) (lim : Nat) : List (Nat × Nat) :=
  match (List.range ps.length).find? (fun i => f32Le lim (f32Sum (n + 256 * i) ((ps.take (i + 1)).map (·.2)))) with
  | some i => ps.take (i + 1)
  | none => ps

/-- The candidate distribution (R146, steps 1 to 6) of pairs under latched controls and a window: (token, weight). -/
def elDist (n : Nat) (c : ElCtl) (window : List Nat) (pairs : List (Nat × Nat)) : List (Nat × Nat) :=
  let zs := (mergePairs pairs).map (penalise c window)
  if c.greedy then ((sortCands zs).take 1).map (fun x => (x.1, f32One))
  else
    let zs := (sortCands (zs.map (fun x => (x.1, f32Div x.2 c.temp)))).take c.topk
    let zmax := ((zs.head?).map (·.2)).getD 0
    let es := zs.map (fun x => (x.1, f32Exp (f32Sub x.2 zmax)))
    let total := f32Sum n (es.map (·.2))
    let ps := es.map (fun x => (x.1, f32Div x.2 total))
    let kept := leadingRun (n + 256) ps c.topp
    let sum := f32Sum (n + 2 ^ 16) (kept.map (·.2))
    kept.map (fun x => (x.1, f32Div x.2 sum))

/-- Fresh free values used by one call of the sampler. -/
def State.ticks (s : State) (k : Nat) : State := { s with free := s.free + k }
/-- Free values of one candidate distribution. -/
def distTicks : Nat := 2 ^ 17

/-- u of VEC_RAND (R53): two draws from a lane of the random bank of one of the clusters that sample, the manual leaving
open which. (Log entry 70: DESIGN CHOICE, safe.) -/
def State.drawU (s : State) : Nat × State :=
  let d := ((s.eland.draft).map (·.2)).getD 1024
  let c := (s.fresh 32).toNat % max 1 d
  let s := s.tick
  let lane := (s.fresh 6).toNat
  let (r1, s) := s.tick.drawLane c 0 lane
  let (r2, s) := s.drawLane c 0 lane
  (toF32 (randValue r1 r2), s)

/-- A draw from weights (R148): the first candidate whose cumulative weight exceeds u × total, else the last. -/
def State.drawFrom (s : State) (ps : List (Nat × Nat)) : Nat × State :=
  let (u, s) := s.drawU
  let lim := f32Mul u (f32Sum s.free (ps.map (·.2)))
  let hit := (List.range ps.length).find? (fun i =>
    f32Lt lim (f32Sum (s.free + 256 * (i + 1)) ((ps.take (i + 1)).map (·.2))))
  let ix := hit.getD (ps.length - 1)
  (((ps[ix]?).map (·.1)).getD 0, s.ticks distTicks)

/-- Weight of a token in a distribution. -/
def weightOf (ps : List (Nat × Nat)) (t : Nat) : Nat := ((ps.find? (fun x => x.1 == t)).map (·.2)).getD 0

/-! ### Small accessors -/

def State.elPort (s : State) (p : Nat) : Option (List Byte) := (s.eland.ports.find? (fun e => e.1 == p)).map (·.2)
def epShard (r : List Byte) : Nat := wordFd r 0 4 3
def epValid (r : List Byte) : Bool := wordFd r 0 3 1 == 1
def epVocabLo (r : List Byte) : Nat := fieldLE r 4 4
def epVocabN (r : List Byte) : Nat := fieldLE r 8 4
def epTailFlag (r : List Byte) : Nat := fieldLE r 12 2 % 1024
def epLaunchOff (r : List Byte) : Nat := fieldLE r 16 8 % 2 ^ 40
def epLaunchBytes (r : List Byte) : Nat := fieldLE r 24 4
def epTailBase (r : List Byte) : Nat := bitsOf (fieldLE r 32 8) 12 40 * 4096

/-- Bytes of one cohort's tail area. -/
def tailArea : Nat := 0x140000

def State.elStreamOf (s : State) (n : Nat) : Option ElStream := s.eland.streams.find? (fun e => e.stream == n)
def State.setElStream (s : State) (e : ElStream) : State :=
  { s with eland := { s.eland with streams := s.eland.streams.map (fun x => if x.stream = e.stream then e else x) } }
def State.elLaunch (s : State) (c : Nat) : Option ElLaunch := (s.eland.launches.find? (fun e => e.1 == c)).map (·.2)
def State.setElLaunch (s : State) (c : Nat) (l : ElLaunch) : State :=
  { s with eland := { s.eland with launches := Tab.insert s.eland.launches c l } }
def State.elStep (s : State) (c : Nat) : Nat := s.eland.steps[c]?.getD 0

/-- Add to a counter of SYN_ELAND_STATS. -/
def State.elCount (s : State) (i x : Nat) : State :=
  { s with eland := { s.eland with stats := s.eland.stats.set i (s.eland.stats[i]?.getD 0 + x) } }

/-- Controls of a stream as its context holds them. -/
def State.elCtl (s : State) (n : Nat) : ElCtl :=
  { temp := s.cx n exTEMP, topk := s.cx n exTOPK, topp := s.cx n exTOPP, repPen := s.cx n exREP_PEN
    presPen := s.cx n exPRES_PEN, freqPen := s.cx n exFREQ_PEN, repWin := s.cx n exREP_WIN
    greedy := s.cx n exGREEDY == 1 }

/-- The last `k` committed tokens, oldest first, from the history ring. -/
def State.history (s : State) (n k : Nat) : List Nat :=
  let next := s.cx n exHIST_NEXT
  let len := if s.cx n exHIST_FULL = 1 then 256 else next
  let a := s.cx n exHIST_ADDR / 1024 * 1024
  let k := min k len
  (List.range k).map (fun i => s.le (a + (next + 256 - k + i) % 256 * 4) 4)

/-- Append tokens to the history ring. -/
def State.appendHistory (s : State) (n : Nat) (toks : List Nat) : State :=
  toks.foldl (fun (s : State) t =>
    let next := s.cx n exHIST_NEXT
    let s := s.poke (s.cx n exHIST_ADDR / 1024 * 1024 + next * 4) (leBytes 4 t)
    let s := if next = 255 then s.setCx n exHIST_FULL 1 else s
    s.setCx n exHIST_NEXT ((next + 1) % 256)) s

/-! ### The draft model (R157 to R161) -/

/-- An FP32 value is positive. -/
def f32Pos (c : Nat) : Bool := f32Lt 0 c && !(f32 c).isNan

/-- The header keeps to its table (0x0105). -/
def State.draftOk (s : State) (h : List Byte) : Bool :=
  fieldLE h 0 4 == 1 && decide (1 ≤ edLayers h) && decide (edLayers h ≤ 64)
    && edHidden h % 128 == 0 && decide (256 ≤ edHidden h) && decide (edHidden h ≤ 4096)
    && edHeads h * edHeadDim h == edHidden h && decide (0 < edKvHeads h) && edHeads h % edKvHeads h == 0
    && (edHeadDim h == 64 || edHeadDim h == 128)
    && edFfn h % 128 == 0 && decide (edFfn h ≤ 16384)
    && [64, 128, 256, 512, 1024, 2048, 4096].contains (edWindow h) && edVocab h == s.eland.vocab
    && [0x4, 0x5, 0xA, 0xB, 0xC].contains (edWfmt h) && decide (4 ≤ edAfmt h) && decide (edAfmt h ≤ 0xB)
    && (edCfmt h == 1 || edCfmt h == 4) && f32Pos (fieldLE h 32 4) && f32Pos (fieldLE h 36 4)

/-- D (R158): the smallest cluster count whose share fits. -/
def draftClusters (body : Nat) : Option Nat := [512, 640, 768, 896, 1024].find? (fun d => decide (body ≤ d * 495616))

/-- The body of the loaded image, as the clusters' scratchpads hold it (R158). -/
def State.draftBody (s : State) (h : List Byte) (d : Nat) : List Byte :=
  let share := (edBody h + d - 1) / max 1 d
  ((List.range d).flatMap (fun k => s.bytes (scratchAddr k 0) share)).take (edBody h)

/-- Where the draft cache of a stream holds the entry of a position (R159). -/
def State.draftAt (s : State) (n pos : Nat) (h : List Byte) : Nat :=
  s.cx n exDCACHE_ADDR / 4096 * 4096 + pos % edWindow h * edEntry h

/-- The draft model runs on one token at a position of a stream: it reads the earlier entries of the window, from position
`first` on, and writes the position's own (R149, R157, R159). The logits of the vocabulary are the result. -/
def State.runDraft (s : State) (n first pos tok : Nat) : List Num × State :=
  match s.eland.draft with
  | none => ([], s)
  | some (h, d) =>
    let lo := max first (pos + 1 - edWindow h)
    let past := (List.range (pos - lo)).map (fun i => s.bytes (s.draftAt n (lo + i) h) (edEntry h))
    let (entry, logits) := edRun h (s.draftBody h d) past pos tok s.free
    (logits, (s.ticks (2 ^ 80)).poke (s.draftAt n pos h) entry)

/-- The draft cache is built by running the model over tokens from a position on (R163). -/
def State.buildDraft (n first : Nat) : Nat → List Nat → State → State
  | _, [], s => s
  | pos, t :: ts, s => State.buildDraft n first (pos + 1) ts (s.runDraft n first pos t).2

/-! ### Launch (R140 to R143) -/

/-- The scheduled start of a cohort's step (R140). -/
def State.schedStart (s : State) (c n : Nat) : Nat :=
  s.eland.t0 + n * s.eland.period + (if c = 1 then s.eland.period / 2 else 0)

/-- START_NS (R143) for a doorbell time, and whether the launch slips. -/
def State.startNs (s : State) (c n t : Nat) : Nat × Bool :=
  let sched := s.schedStart c n
  if t + s.eland.lead ≤ sched then (sched, false)
  else
    let x := t + s.eland.lead
    (if x ≤ s.eland.t0 then s.eland.t0 else s.eland.t0 + (x - s.eland.t0 + slotNs - 1) / slotNs * slotNs, true)

/-- Accelerator-side address of a tail area: through the inbound window that covers it with write rights. -/
def tailAddr (pr rec : List Byte) : Option Nat :=
  let b := epTailBase rec
  ([0, 1].filterMap (fun k =>
    let w := fieldLE pr (88 + 16 * k) 8
    let t := fieldLE pr (96 + 16 * k) 8
    let log2 := w % 64
    let tgt := bitsOf t 12 40 * 4096
    if 12 ≤ log2 ∧ log2 ≤ 40 ∧ bitAt t 1 ∧ tgt ≤ b ∧ b + 2 * tailArea ≤ tgt + 2 ^ log2 then
      some (w / 4096 * 4096 + (b - tgt))
    else none)).head?

/-- The lease has lapsed (R459). -/
def State.leaseLapsed (s : State) : Bool :=
  s.bit CKP_CTL CKP_CTL_LEASE_EN && (decide (s.now ≥ s.rd64 CKP_LEASE) || s.ckp.stepped || s.bit CKP_STATUS CKP_STATUS_LAPSED)

/-- A stream takes part in its cohort's launches (R143); its step is held when the lease has lapsed (R155). -/
def State.elReady (s : State) (e : ElStream) : Bool :=
  s.cx e.stream cxHOLD == 0 && s.cx e.stream cxSTATE == stActive && s.cx e.stream exSTOPPED == 0 && !e.leaving
    && !s.leaseLapsed

/-- A decode entry still waits for draft steps: a draft is never cut short (R143, R149). -/
def State.drafting (s : State) (e : ElStream) : Bool :=
  s.eland.draft.isSome && decide (e.drafts.length < s.cx e.stream exDLEN)

/-- A cohort's step may be a prefill launch when none of its 24 steps before was one. (Log entry 303: DESIGN CHOICE,
safe.) -/
def State.prefillDue (s : State) (c : Nat) : Bool :=
  decide (s.eland.prefillFrom[c]?.getD 0 ≤ s.elStep c)

/-- The entry of a stream: its prefill inputs, or LAST and its drafts. -/
def State.elEntry (s : State) (e : ElStream) : ElEntry :=
  let n := e.stream
  let ctl := e.ctl.getD (s.elCtl n)
  let base : ElEntry := ⟨n, s.cx n cxGEN, s.cx n cxASI, s.cx n cxTOKENS, [], 0, ctl, []⟩
  if e.prefill ≠ [] then { base with tokens := e.prefill, plen := e.prefill.length }
  else { base with tokens := s.cx n exLAST :: e.drafts, qs := e.qs }

/-- 64-byte launch entry (R141); `off` is where the prefill inputs lie. -/
def ElEntry.bytes (e : ElEntry) (off : Nat) : List Byte :=
  let head := leBytes 4 e.stream ++ leBytes 2 e.gen ++ leBytes 2 e.asi ++ leBytes 4 e.pos
  if e.plen > 0 then fit 64 (fit 52 head ++ leBytes 4 e.plen ++ leBytes 4 off)
  else fit 64 (head ++ leBytes 1 e.tokens.length ++ [0, 0, 0] ++ (e.tokens.take 9).flatMap (leBytes 4))

/-- The launch block (R141): header, entries and prompt region. -/
def launchBlock (cohort : Nat) (l : ElLaunch) (tail : Nat) : List Byte :=
  let head := fit 64 (leBytes 8 l.step ++ leBytes 1 cohort ++ leBytes 1 (b2n l.prefill) ++ leBytes 2 l.entries.length
    ++ [0, 0, 0, 0] ++ leBytes 8 l.start ++ leBytes 8 tail)
  let (es, _) := l.entries.foldl (fun (acc : List Byte × Nat) e =>
    (acc.1 ++ e.bytes acc.2, acc.2 + 4 * e.plen)) (([] : List Byte), 8256)
  let prompt := l.entries.flatMap (fun e => if e.plen > 0 then e.tokens.flatMap (leBytes 4) else [])
  head ++ fit (128 * 64) es ++ prompt

/-- Every tail-done flag of the launch is consumed, or its limit has expired (R142). -/
def State.tailsOver (s : State) (l : ElLaunch) : Bool := l.expired || s.eland.ports.all (fun p => l.tails.any (fun t => t.1 == p.1))

/-- Write the launch block and the doorbell of one Eland port (R142). -/
def State.launchPort (s : State) (c : Nat) (l : ElLaunch) (p : Nat) (rec : List Byte) : State :=
  match s.profile p with
  | none => s
  | some pr =>
    let s := s.poke (accelAddr p (epLaunchOff rec + c * epLaunchBytes rec))
      (launchBlock c l ((tailAddr pr rec).getD 0 + c * tailArea))
    let v := l.step * 2 + c
    let bs := if kpDb8 pr then leBytes 8 v else leBytes 4 v
    match s.store (accelAddr p (kpDoorbell pr)) bs with
    | (none, s) => s.emit (.write (accelAddr p (kpDoorbell pr)) bs)
    | (some _, s) => s

/-- LAUNCH: the cohort's next step. (Log entry 79: DEDUCED, unsafe.) -/
def execLaunch (cohort : Fin 2) (prefill : Bool) (s : State) : Res :=
  let c := cohort.val
  let free := match s.elLaunch c with
    | some l => s.tailsOver l && l.sampled
    | none => true
  let n := s.elStep c
  let mine := s.eland.streams.filter (fun e => e.cohort == c && s.elReady e)
  let mine := mine.filter (fun e => if prefill then e.prefill != [] else e.prefill == [] && s.cx e.stream exLAST_VALID == 1)
  if !s.eland.configured || !free || !s.domainRuns (1 + c) || s.leaseLapsed || (prefill && !s.prefillDue c)
      || (!prefill && mine.any s.drafting) then ok s
  else
    let (start, slip) := s.startNs c n s.now
    let l : ElLaunch := ⟨n, prefill, start, (mine.take 128).map s.elEntry, [], false, false⟩
    let s := s.eland.ports.foldl (fun (s : State) p => s.launchPort c l p.1 p.2) s
    let s := s.elCount 0 1
    let s := if slip then s.elCount 1 1 else s
    let s := s.setElLaunch c l
    let streams := s.eland.streams.map (fun e =>
      if e.cohort = c then { e with drafts := [], qs := [], ctl := none } else e)
    ok { s with eland := { s.eland with
      streams := streams, steps := s.eland.steps.set c (n + 1)
      prefillFrom := if prefill then s.eland.prefillFrom.set c (n + 25) else s.eland.prefillFrom } }

/-! ### Tails (R144, R145) -/

/-- Consecutive logits do not increase. -/
def nonIncreasing : List Nat → Bool
  | a :: b :: t => f32Le b a && nonIncreasing (b :: t)
  | _ => true

/-- Parse and check one tail. -/
def checkTail (bs : List Byte) (poison : Bool) (e : ElEntry) (j : Nat) (rec : List Byte) : Option ElTail :=
  let n := fieldLE bs 16 4
  let pairs := (List.range (min n 128)).map (fun i => (fieldLE bs (64 + 8 * i) 4, fieldLE bs (68 + 8 * i) 4))
  let toks := pairs.map (·.1)
  let good := !poison && fieldLE bs 0 4 == e.stream && fieldLE bs 4 2 == e.gen && fieldLE bs 6 1 == j
    && fieldLE bs 7 1 == epShard rec && decide (1 ≤ n) && decide (n ≤ 128)
    && toks.all (fun t => decide (epVocabLo rec ≤ t) && decide (t < epVocabLo rec + epVocabN rec))
    && toks.eraseDups.length == toks.length
    && pairs.all (fun x => !(f32 x.2).isNan && x.2 != 0x7F800000) && nonIncreasing (pairs.map (·.2))
    && (f32 (fieldLE bs 20 4)).isFinite
  if good then some ⟨pairs, fieldLE bs 20 4⟩ else none

/-- Positions an entry returns tails for (R142). -/
def ElEntry.positions (e : ElEntry) : Nat := if e.plen > 0 then 1 else e.tokens.length

/-- Read the tails of one port: their STEP matches, the tails by entry and position, and the state after the reads. -/
def State.readTails (s : State) (c : Nat) (l : ElLaunch) (rec : List Byte) :
    Bool × List (List (Option ElTail)) × State :=
  let base := epTailBase rec + c * tailArea
  (l.entries.zipIdx).foldl (fun (acc : Bool × List (List (Option ElTail)) × State) ei =>
    let r := (List.range ei.1.positions).foldl (fun (a : Bool × List (Option ElTail) × State) j =>
      let d := a.2.2.load (base + (ei.2 * 9 + j) * 1088) 1088
      (a.1 && fieldLE d.2.1 8 8 == l.step, a.2.1 ++ [checkTail d.2.1 d.1.isSome ei.1 j rec], d.2.2)) (acc.1, [], acc.2.2)
    (r.1, acc.2.1 ++ [r.2.1], r.2.2)) (true, [], s)

/-- TAIL_DONE: the cohort's tail-done flag of a port is consumed; a flag left over from an earlier launch makes Eland wait
again. (Log entry 79: DEDUCED, unsafe.) -/
def execTailDone (cohort : Fin 2) (port : Fin 8) (s : State) : Res :=
  let c := cohort.val
  let p := port.val
  match s.elLaunch c, s.elPort p, s.profile p with
  | some l, some rec, some pr =>
    if l.expired || l.sampled || l.tails.any (fun t => t.1 == p) || decide (l.start + s.eland.limit ≤ s.now) then ok s
    else
      match s.translate 8 (kpFctx pr) (kpCflagVbase pr + epTailFlag rec + c) needConsume with
      | (none, s) => ok s
      | (some f, s) =>
        match s.flagTake f true with
        | (false, s) => ok s
        | (true, s) =>
          let (okStep, rows, s) := s.readTails c l rec
          if okStep then ok (s.setElLaunch c { l with tails := l.tails ++ [(p, rows)] }) else ok s
  | _, _, _ => ok s

/-- TAIL_LIMIT_EXPIRY: START_NS + TAIL_LIMIT_NS passes with a port's flag not passed. -/
def execTailLimitExpiry (cohort : Fin 2) (s : State) : Res :=
  match s.elLaunch cohort with
  | some l =>
    if s.tailsOver l || l.sampled || s.now < l.start + s.eland.limit then ok s
    else ok ((s.elCount 2 1).setElLaunch cohort { l with expired := true })
  | none => ok s

/-- The merged tails of a position, none when it is invalid: pairs of every Eland port and their LOGNORMs. -/
def State.position (s : State) (l : ElLaunch) (e j : Nat) : Option (List (Nat × Nat) × List Nat) :=
  if l.expired then none
  else
    s.eland.ports.foldl (fun (acc : Option (List (Nat × Nat) × List Nat)) p =>
      let t := ((l.tails.find? (fun t => t.1 == p.1)).bind (fun t => t.2[e]?)).bind (fun row => row[j]?)
      match acc, t with
      | some (ps, ls), some (some tail) => some (ps ++ tail.pairs, ls ++ [tail.lognorm])
      | _, _ => none) (some ([], []))

/-! ### Acceptance (R151) -/

/-- What acceptance gives: tokens committed with their LOGPROB, draft tokens accepted, and whether it goes on. -/
structure Accept where
  toks : List (Nat × Nat)
  accepted : Nat
  go : Bool

/-- L of a position: the log-sum-exp of the LOGNORMs, with or without the shift by the largest. (Log entry 70: DESIGN
CHOICE, safe.) -/
def posL (n : Nat) (ls : List Nat) : Nat :=
  let xs := ls.map f32
  let top := if Config.freeValue 1 n = 0 then xs.foldl numMax negInf else posZero
  let sum := numSum (n + 1) (xs.map (fun x => sfuNum 0 (numAdd x top.neg)))
  toF32 (numAdd (sfuNum 2 sum) top)

/-- LOGPROB of a token: its reported logit less L, −∞ when it was not reported. -/
def logprob (l : Nat) (pairs : List (Nat × Nat)) (t : Nat) : Nat :=
  match (mergePairs pairs).find? (fun x => x.1 == t) with
  | some x => f32Sub x.2 l
  | none => f32NegInf

/-- One token drawn from the distribution of a position. -/
def State.sampleFrom (s : State) (ctl : ElCtl) (window : List Nat) (pos : List (Nat × Nat) × List Nat) :
    (Nat × Nat) × State :=
  let d := elDist s.free ctl window pos.1
  let l := posL (s.free + distTicks) pos.2
  let (t, s) := (s.ticks (distTicks + 64)).drawFrom d
  ((t, logprob l pos.1 t), s)

/-- The correction distribution (R151): the excess of p over q, or p when there is none. -/
def residual (p q : List (Nat × Nat)) : List (Nat × Nat) :=
  let r := p.map (fun x => (x.1, let d := f32Sub x.2 (weightOf q x.1); if f32Lt 0 d then d else 0))
  if r.all (fun x => f32Le x.2 0) then p else r

/-- The test of draft token j against the distribution of position j - 1. -/
def State.acceptOne (s : State) (l : ElLaunch) (ix : Nat) (e : ElEntry) (hist : List Nat) (j : Nat) (a : Accept) :
    Accept × State :=
  if !a.go then (a, s)
  else match s.position l ix (j - 1) with
    | none => ({ a with go := false }, s)
    | some pos =>
      let d := e.tokens[j]?.getD 0
      let q := e.qs[j - 1]?.getD []
      let window := (hist.drop (hist.length - e.ctl.repWin)) ++ (e.tokens.drop 1).take (j - 1)
      let p := elDist s.free e.ctl window pos.1
      let L := posL (s.free + distTicks) pos.2
      let s := s.ticks (distTicks + 64)
      let (yes, s) :=
        if e.ctl.greedy then (p.any (fun x => x.1 == d), s)
        else
          let (u, s) := s.drawU
          (f32Lt (f32Mul u (weightOf q d)) (weightOf p d), s)
      if yes then ({ a with toks := a.toks ++ [(d, logprob L pos.1 d)], accepted := a.accepted + 1 }, s)
      else
        let (t, s) := if e.ctl.greedy then (((p.head?).map (·.1)).getD 0, s) else s.drawFrom (residual p q)
        ({ a with toks := a.toks ++ [(t, logprob L pos.1 t)], go := false }, s)

/-- Acceptance of one entry, with the bonus token, or the one token of a prefill entry. -/
def State.acceptEntry (s : State) (l : ElLaunch) (ix : Nat) (e : ElEntry) : Accept × State :=
  let hist := s.history e.stream 256
  let k := if e.plen > 0 then 0 else e.tokens.length - 1
  let (a, s) := (List.range k).foldl (fun (acc : Accept × State) i =>
    acc.2.acceptOne l ix e hist (i + 1) acc.1) (⟨[], 0, true⟩, s)
  if !a.go then (a, s)
  else match s.position l ix k with
    | none => (a, s)
    | some pos =>
      let window := (hist.drop (hist.length - e.ctl.repWin)) ++ (if e.plen > 0 then [] else e.tokens.drop 1)
      let (t, s) := s.sampleFrom e.ctl window pos
      ({ a with toks := a.toks ++ [t] }, s)

/-! ### Commit (R152 to R154) -/

/-- Truncate committed tokens at the first that ends the stream; END_REASON of it (R153). -/
def cutAtStop (stops : List Nat) (left : Option Nat) : List (Nat × Nat) → Nat → List (Nat × Nat) × Nat
  | [], _ => ([], 0)
  | t :: ts, i =>
    if stops.contains t.1 then ([t], 1)
    else if left = some (i + 1) then ([t], 2)
    else let (r, e) := cutAtStop stops left ts (i + 1); (t :: r, e)

/-- The token record (R154). -/
def tokenRecord (client seq step endReason : Nat) (lp : Bool) (toks : List (Nat × Nat)) : List Byte :=
  beBytes 8 client ++ beBytes 4 seq ++ beBytes 2 toks.length
    ++ [BitVec.ofNat 8 (b2n (decide (endReason > 0)) + 2 * b2n lp + 4 * endReason), 0] ++ beBytes 8 step
    ++ toks.flatMap (fun t => beBytes 4 t.1) ++ (if lp then toks.flatMap (fun t => beBytes 4 t.2) else [])

/-- Token advance done records that wait for room in the done ring are posted, oldest first (R128, R129). -/
def State.postAdvances : Nat → State → State
  | 0, s => s
  | k + 1, s =>
    match s.eland.advances with
    | [] => s
    | (n, tokens, gen) :: rest =>
      let t := s.gf KV_DONE_DB KV_DONE_DB_CMD_TAIL
      if ixDiff t s.doneHead ≥ 2 ^ s.doneLog then s
      else
        let s := { s with eland := { s.eland with advances := rest } }
        let s := s.poke (s.doneBase + t % 2 ^ s.doneLog * 16)
          (leBytes 4 1 ++ leBytes 4 n ++ leBytes 4 tokens ++ leBytes 2 gen ++ [0, 0])
        State.postAdvances k (writeKvDoneDb (.core 1) (BitVec.ofNat 32 (t + 1)) s)

/-- A token advance done record is posted, or waits for room (R152). (Log entry 304: DEDUCED, unsafe.) -/
def State.postAdvance (s : State) (n tokens gen : Nat) : State :=
  let s := { s with eland := { s.eland with advances := s.eland.advances ++ [(n, tokens, gen)] } }
  State.postAdvances s.eland.advances.length s

/-- Detach a stream: its pool places are free again (R159). -/
def State.elDetach (s : State) (n : Nat) : State :=
  let s := s.setCx n exATTACHED 0
  let streams := s.eland.streams.filter (fun e => e.stream != n)
  { s with eland := { s.eland with
    streams := streams, idleSince := if streams.isEmpty then s.now else s.eland.idleSince } }

/-- Commit one entry. (Log entry 73: DEDUCED, unsafe.) -/
def State.commitEntry (s : State) (c : Nat) (l : ElLaunch) (ix : Nat) (e : ElEntry) : State :=
  let n := e.stream
  if s.cx n cxGEN ≠ e.gen ∨ s.cx n exATTACHED = 0 then s
  else
    let (a, s) := s.acceptEntry l ix e
    let stops := ((List.range 4).map (fun i => s.cx n (exSTOP i))).filter (· != 0xFFFFFFFF)
    let max := s.cx n exMAX_TOKENS
    let seq := s.cx n exOUT_SEQ
    let left := if max = 0 then none else some (max - (seq - s.cx n exATT_BASE))
    let (toks, reason) := cutAtStop stops left a.toks 0
    let leaving := (s.eland.streams.any (fun x => x.stream == n && x.leaving))
    let k := if e.plen > 0 then 0 else e.tokens.length - 1
    let s := (s.elCount 6 k).elCount 7 a.accepted
    if toks.isEmpty then s
    else
      let m := toks.length
      let before := s.ctx n
      let ring := s.bytes (s.cx n exHIST_ADDR / 1024 * 1024) 1024
      let s := s.appendHistory n (toks.map (·.1))
      let s := (s.setCx n exLAST (((toks.getLast?).map (·.1)).getD 0)).setCx n exLAST_VALID 1
      let s := (s.setCx n exOUT_SEQ (seq + m)).setCx n exSTEP l.step
      let s := s.setCx n exDRAFTED (satAdd (2 ^ 32 - 1) (s.cx n exDRAFTED) k)
      let s := s.setCx n exACCEPTED (satAdd (2 ^ 32 - 1) (s.cx n exACCEPTED) a.accepted)
      let s := s.setCx n exPASSES (satAdd (2 ^ 32 - 1) (s.cx n exPASSES) 1)
      let s := if reason > 0 then s.setCx n exSTOPPED 1 else s
      let s := s.elCount 5 m
      let tokens := if e.plen > 0 then e.pos + e.plen else e.pos + 1 + a.accepted
      let s := s.postAdvance n tokens e.gen
      let endReason := if reason > 0 then reason else if leaving then 3 else 0
      let rec_ : ElRecord := ⟨2 * l.step + c, n, s.cx n exOUT_CHAN,
        tokenRecord (s.cx n exCLIENT_ID) (seq + 1) l.step endReason (s.cx n exLOGPROB == 1) toks, endReason, before, ring,
        if e.plen > 0 then e.tokens else []⟩
      { s with eland := { s.eland with
        staged := s.eland.staged ++ [rec_]
        streams := s.eland.streams.map (fun x => if x.stream = n ∧ e.plen > 0 then { x with prefill := [] } else x) } }

/-- Count invalid positions, and positions whose reported mass is below 0.95 (R145, R147). -/
def State.countPositions (s : State) (l : ElLaunch) : State :=
  (l.entries.zipIdx).foldl (fun (s : State) ei =>
    (List.range ei.1.positions).foldl (fun (s : State) j =>
      match s.position l ei.2 j with
      | none => s.elCount 3 1
      | some pos =>
        let L := posL s.free pos.2
        let m := f32Sum (s.free + 64) ((mergePairs pos.1).map (fun x => f32Exp (f32Sub x.2 L)))
        if f32Lt m 0x3F733333 then (s.ticks 512).elCount 4 1 else s.ticks 512) s) s

/-- The sampler works in the scratchpads of the clusters that hold the draft: one position each, in turn. What it leaves
there is open (R158). -/
def State.samplerScratch (s : State) (l : ElLaunch) : State :=
  match s.eland.draft with
  | none => s
  | some (_, d) =>
    let n := l.entries.foldl (fun a e => a + e.positions) 0
    (List.range (min n d)).foldl (fun (s : State) k =>
      s.tick.putBytes (scratchAddr k 0x79000) (leBytes 0x3000 (s.fresh (8 * 0x3000)).toNat)) s

/-- SAMPLING: a launch whose tails are all in, or whose limit has expired, is sampled and committed once. (Log entry
79: DEDUCED, unsafe.) -/
def execSampling (cohort : Fin 2) (s : State) : Res :=
  let c := cohort.val
  match s.elLaunch c with
  | none => ok s
  | some l =>
    if l.sampled || !s.tailsOver l || !s.domainRuns (1 + c) then ok s
    else
      let s := State.postAdvances s.eland.advances.length s
      let s := (s.samplerScratch l).countPositions l
      let s := (l.entries.zipIdx).foldl (fun (s : State) ei => s.commitEntry c l ei.2 ei.1) s
      let s := s.setElLaunch c { l with sampled := true }
      let gone := s.eland.streams.filter (fun e => e.cohort == c && e.leaving && !s.eland.staged.any (fun r => r.stream == e.stream))
      ok (gone.foldl (fun (s : State) e => s.elDetach e.stream) s)

/-- The 128 largest of the logits of the whole vocabulary (R149). -/
def topLogits (xs : List Num) : List (Nat × Nat) := mergePairs (((List.range xs.length).zip xs).map (fun p => (p.1, toF32 p.2)))

/-- A stream takes part in draft step j of its cohort (R149): it decodes, and it has the tokens before. -/
def State.draftsAt (s : State) (e : ElStream) (j : Nat) : Bool :=
  !e.leaving && e.prefill == [] && e.drafts.length + 1 == j && decide (j ≤ s.cx e.stream exDLEN)
    && s.cx e.stream exLAST_VALID == 1 && s.cx e.stream exSTOPPED == 0

/-- One stream's draft step: the model runs on LAST or the draft token before, and d is drawn from q (R149). -/
def State.draftOne (s : State) (e : ElStream) : State :=
  let n := e.stream
  let ctl := e.ctl.getD (s.elCtl n)
  let window := s.history n ctl.repWin ++ e.drafts
  let (logits, s) := s.runDraft n e.dfirst (s.cx n cxTOKENS + e.drafts.length) (e.drafts.getLastD (s.cx n exLAST))
  let q := elDist s.free ctl window (topLogits logits)
  let (d, s) := (s.ticks distTicks).drawFrom q
  s.setElStream { e with ctl := some ctl, drafts := e.drafts ++ [d], qs := e.qs ++ [q] }

/-- The streams of a draft step, those that `order` names first; the manual leaves the order open. (Log entry 70:
DESIGN CHOICE, safe.) -/
def draftOrder (order : List Nat) (l : List ElStream) : List ElStream :=
  order.eraseDups.filterMap (fun n => l.find? (fun e => e.stream == n)) ++ l.filter (fun e => !order.contains e.stream)

/-- DRAFT_STEP (R149, R150): draft step j of a cohort whose last launch is sampled. -/
def execDraftStep (cohort : Fin 2) (j : Fin 9) (order : List (BitVec 20)) (s : State) : Res :=
  let c := cohort.val
  let sampled := match s.elLaunch c with
    | some l => l.sampled
    | none => true
  if j.val = 0 || s.eland.draft.isNone || !s.domainRuns (1 + c) || !sampled then ok s
  else
    let s := State.postAdvances s.eland.advances.length s
    let due := s.eland.streams.filter (fun e => e.cohort == c && s.draftsAt e j)
    ok ((draftOrder (order.map (·.toNat)) due).foldl State.draftOne s)

/-! ### Delivery (R152, R155) -/

/-- A staged record goes to the packet pipeline; a stream that ended with it is detached, and the host is told. -/
def State.releaseRecord (s : State) (r : ElRecord) : State :=
  let s := { s with chanQ := s.chanQ ++ [⟨r.chan, true, r.bytes⟩] }
  if r.endReason = 0 then s
  else
    let gen := s.cx r.stream cxGEN
    let seq := s.cx r.stream exOUT_SEQ
    let s := s.elDetach r.stream
    if r.endReason = 3 then s
    else s.event 0x0082 (leBytes 4 r.stream ++ leBytes 2 gen ++ leBytes 1 r.endReason ++ leBytes 4 seq)

/-- TOKEN_RECORD_RELEASE: records of committed steps, in order, while the lease is held. -/
def execTokenRecordRelease (s : State) : Res :=
  if s.leaseLapsed then ok s
  else
    let due (r : ElRecord) : Bool := decide (r.cstep ≤ s.rd64 CKP_REPLICA)
    let go := s.eland.staged.filter due
    let s := { s with eland := { s.eland with staged := s.eland.staged.filter (fun r => !due r) } }
    ok (go.foldl (fun (s : State) r => s.releaseRecord r) s)

/-- Set a cluster's CLU_PCTL TARGET as firmware does: with RETAIN given, or with IDLE_HAZE at its reset value (R161). -/
def State.fwTarget (s : State) (k target : Nat) (retain : Option Nat) : State :=
  let v := s.rd (CLU_PCTL k)
  let v := match retain with
    | some r => CLU_PCTL_RETAIN.put v r
    | none => CLU_PCTL_IDLE_HAZE.put v (CLU_PCTL_IDLE_HAZE.get (regReset (CLU_PCTL k)))
  writeCluPctl (.core 1) k (CLU_PCTL_TARGET.put v target) s

/-- ELAND_IDLE_TIMEOUT (R161). (Log entry 79: DEDUCED, unsafe.) -/
def execElandIdleTimeout (s : State) : Res :=
  match s.eland.draft with
  | some (_, d) =>
    if !s.eland.streams.isEmpty || s.now < s.eland.idleSince + 10000000 then ok s
    else ok ((List.range d).foldl (fun (s : State) k => s.fwTarget k 2 (some 0xFFFF)) s)
  | none => ok s

/-! ### Syncen operations (R162, R163) -/

/-- Domain of a cohort's requests (R376). -/
def domEland (c : Nat) : Option Nat := some (1 + c % 2)
def State.elCohortOf (s : State) (n : Nat) : Nat := ((s.elStreamOf n).map (·.cohort)).getD 0

/-- SYN_ELAND_CONFIG. -/
def execSynElandConfig (r : SynReq) (c : ElandConfigSpec) (s : State) : Res :=
  ok (s.syn 0x0700 (domEland 0) r fun s =>
    let p := c.period.toNat
    let boundary := match s.col.slotActive with
      | some l => decide (l.t ≤ c.t0.toNat) && (c.t0.toNat - l.t) % slotNs == 0
      | none => false
    if !s.eland.streams.isEmpty then refuse s 0x0206
    else if p = 0 ∨ p % 40000 ≠ 0 ∨ !boundary ∨ c.vocab = 0 ∨ c.dBase.toNat % 4096 ≠ 0
        ∨ c.hBase.toNat % 1024 ≠ 0 ∨ !inHbm c.hBase.toNat (c.hCount * 1024) ∨ !inHbm c.dBase.toNat 0 then refuse s 0x0104
    else success { s with eland := { s.eland with
      configured := true, period := p, t0 := c.t0.toNat, lead := (c.lead.getD 200000#32).toNat, limit := (c.limit.getD 1000000#32).toNat
      vocab := c.vocab.toNat, dBase := c.dBase.toNat, dCount := c.dCount, hBase := c.hBase.toNat, hCount := c.hCount } })

/-- The checks of an Eland port record (0x0106). -/
def State.portRecOk (s : State) (p : Nat) (rec : List Byte) : Bool :=
  match s.profile p with
  | none => false
  | some pr =>
    let others := s.eland.ports.filter (fun e => e.1 != p)
    inOwin pr (epLaunchOff rec) (2 * epLaunchBytes rec) && inHbm (epTailBase rec) (2 * tailArea)
      && (tailAddr pr rec).isSome
      && others.all (fun e => !overlaps (epVocabLo rec) (epVocabN rec) (epVocabLo e.2) (epVocabN e.2)
        && epShard e.2 != epShard rec)

/-- SYN_ELAND_PORT_SET: a record that is not VALID takes the port out of Eland's use. (Log entry 77: DEDUCED,
unsafe.) -/
def execSynElandPortSet (r : SynReq) (port : Fin 8) (rec : List Byte) (s : State) : Res :=
  ok (s.syn 0x0701 (domEland 0) r fun s =>
    let x := fit 64 rec
    if !s.eland.streams.isEmpty then refuse s 0x0206
    else if !epValid x then success { s with eland := { s.eland with ports := Tab.erase s.eland.ports port } }
    else if !s.portRecOk port x then refuse s 0x0106
    else success { s with eland := { s.eland with ports := Tab.insert s.eland.ports port x } })

/-- The loaded port records meet R141. -/
def State.elPortsOk (s : State) : Bool :=
  let ps := s.eland.ports
  let n := ps.length
  let cover (t : Nat) : Bool := ps.any (fun e => decide (epVocabLo e.2 ≤ t) && decide (t < epVocabLo e.2 + epVocabN e.2))
  decide (0 < n) && (List.range n).all (fun k => ps.any (fun e => epShard e.2 == k))
    && cover 0 && cover (s.eland.vocab - 1)
    && ps.all (fun e => decide (epVocabLo e.2 + epVocabN e.2 ≥ s.eland.vocab) || cover (epVocabLo e.2 + epVocabN e.2))

/-- A cluster that is to take a share is in service first: a cluster in Overcast wakes, and its wake completes before the
share is written, so that no bank of it is zeroed afterwards (R62, R161). (Log entry 305: DEDUCED, unsafe.) -/
def State.wakeForDraft (s : State) (k : Nat) : State :=
  let s := s.fwTarget k 0 none
  if s.cluState k = 2 ∧ s.cluMoving k then s.wakeDone k else s

/-- SYN_ELAND_DRAFT_LOAD (R158, R160): read, measured into MR3 and placed in the clusters' scratchpads. (Log entry
74: DESIGN CHOICE, safe.) -/
def execSynElandDraftLoad (r : SynReq) (addr : W64) (len : Nat) (s : State) : Res :=
  ok (s.syn 0x0702 (domEland 0) r fun s =>
    if !s.eland.streams.isEmpty then refuse s 0x0206
    else
      let s := { s with eland := { s.eland with draft := none } }
      let (err, bs, s) := s.load addr.toNat len
      let h := fit 64 bs
      if err.isSome then refuse s.tick (s.fresh 16).toNat
      else if !s.draftOk h || edBody h + 64 != len then refuse s 0x0105
      else match draftClusters (edBody h) with
        | none => refuse s 0x0303
        | some d =>
          let digest := shake bs 64
          let s := s.tick.extendMR 3 (s.fresh 32).toNat digest
          let share := (edBody h + d - 1) / d
          let body := bs.drop 64
          let s := (List.range d).foldl (fun (s : State) k =>
            (s.wakeForDraft k).putBytes (scratchAddr k 0) ((body.drop (k * share)).take share)) s
          let s := { s with eland := { s.eland with draft := some (h, d), idleSince := s.now } }
          success s (digest ++ leBytes 2 d))

/-- The sampler fields are in range (R156, 0x0104). (Log entry 76: DEDUCED, unsafe.) -/
def samplerOk (f : SamplerSpec) : Bool :=
  let rng (lo hi x : Nat) : Bool := f32Le lo x && f32Le x hi
  ((f.temp.toNat % 2 ^ 31 == 0) || rng 0x3D4CCCCD 0x41A00000 f.temp.toNat)
    && f32Pos f.topp.toNat && f32Le f.topp.toNat f32One
    && rng f32One 0x41200000 f.repPen.toNat && rng 0 0x41200000 f.presPen.toNat && rng 0 0x41200000 f.freqPen.toNat
    && decide (f.repWin.toNat ≤ 256) && decide (1 ≤ f.topk.toNat) && decide (f.topk.toNat ≤ 128) && decide (f.dlen.toNat ≤ 8)

/-- Write sampler fields, MAX_TOKENS and STOPs into a context. (Log entry 76: DEDUCED, unsafe.) -/
def State.setSampler (s : State) (n : Nat) (f : SamplerSpec) (maxTokens : Nat) (stops : List (BitVec 32)) : State :=
  let s := ((s.setCx n exTEMP f.temp.toNat).setCx n exTOPP f.topp.toNat).setCx n exREP_PEN f.repPen.toNat
  let s := ((s.setCx n exPRES_PEN f.presPen.toNat).setCx n exFREQ_PEN f.freqPen.toNat).setCx n exREP_WIN f.repWin.toNat
  let s := ((s.setCx n exTOPK f.topk.toNat).setCx n exDLEN f.dlen.toNat).setCx n exLOGPROB (b2n f.logprob)
  let s := (s.setCx n exGREEDY (b2n (f.temp.toNat % 2 ^ 31 == 0))).setCx n exMAX_TOKENS maxTokens
  (List.range 4).foldl (fun (s : State) i => s.setCx n (exSTOP i) ((stops[i]?.getD 0xFFFFFFFF#32).toNat)) s

/-- An operation on a stream's context with its GEN. -/
def State.onElStream (s : State) (n gen : Nat) (f : State → State × Nat × List Byte) : State × Nat × List Byte :=
  let s := s.fetchCtx n
  if gen ≠ s.cx n cxGEN then refuse s 0x0202 else f s

/-- Bytes of the prompt region that a cohort's queued prefills take. -/
def State.promptUsed (s : State) (c : Nat) : Nat :=
  (s.eland.streams.filter (fun e => e.cohort == c)).foldl (fun a e => a + 4 * e.prefill.length) 0

/-- The cohort of an attach: the one named, or for cohort 2 one with room, the manual leaving open which. (Log entry
72: DESIGN CHOICE, safe.) -/
def State.pickCohort (s : State) (a : AttachSpec) : Option Nat :=
  let room (c : Nat) : Bool := decide ((s.eland.streams.filter (fun e => e.cohort == c)).length < 128)
  if a.either then
    if room 0 && room 1 then some (s.fresh 1).toNat else if room 0 then some 0 else if room 1 then some 1 else none
  else if room (b2n a.cohort) then some (b2n a.cohort) else none

/-- SYN_ELAND_ATTACH (R163). (Log entries 72: DESIGN CHOICE, safe; 74: DESIGN CHOICE, safe.) -/
def execSynElandAttach (r : SynReq) (stream : BitVec 20) (gen : W16) (f : SamplerSpec) (a : AttachSpec) (s : State) : Res :=
  ok (s.syn 0x0703 (domEland (b2n a.cohort)) r fun s => s.onElStream stream.toNat gen.toNat fun s =>
    let n := stream.toNat
    let st := s.cx n cxSTATE
    let classPorts := (kcPorts (s.classRec (s.cx n cxCLASS))).map (·.2)
    let elPorts := s.eland.ports.map (·.1)
    let lastValid := s.cx n exLAST_VALID == 1
    let dUsed := s.eland.streams.foldl (fun l e => insertKey l e.dslot) []
    let hUsed := s.eland.streams.foldl (fun l e => insertKey l e.hslot) []
    let (err, bytes, read) := s.load a.listAddr.toNat (4 * a.nt)
    if !samplerOk f || decide (a.nt > 131072) || decide (a.pf > a.nt) then refuse s 0x0104
    else if !(st == stResuming || st == stActive) || !(classPorts.all elPorts.contains && elPorts.all classPorts.contains) then
      refuse s 0x0207
    else if !s.elPortsOk then refuse s 0x0209
    else if a.pf = 0 && !lastValid then refuse s 0x020B
    else if (s.elStreamOf n).isSome then refuse s.tick (s.fresh 16).toNat
    else match s.pickCohort a with
      | none => refuse s 0x0304
      | some c =>
        let list := (List.range a.nt).map (fun i => fieldLE bytes (4 * i) 4)
        let last := if lastValid then [s.cx n exLAST] else []
        let inputs := if a.pf = 0 then [] else last ++ list.drop (a.nt - a.pf)
        let room := s.eland.ports.foldl (fun m e => min m (epLaunchBytes e.2 - 8256)) (2 ^ 24)
        if s.eland.streams.length ≥ s.eland.dCount ∨ s.eland.streams.length ≥ s.eland.hCount then refuse s 0x0305
        else if s.promptUsed c + 4 * inputs.length > room then refuse s 0x0306
        else if err.isSome then refuse s.tick (s.fresh 16).toNat
        else
          let s := read.tick
          let dslot := kthFree dUsed ((s.fresh 16).toNat % (s.eland.dCount - s.eland.streams.length))
          let s := s.tick
          let hslot := kthFree hUsed ((s.fresh 16).toNat % (s.eland.hCount - s.eland.streams.length))
          let s := s.tick
          let size := match s.eland.draft with | some (h, _) => edWindow h * edEntry h | none => 0
          let s := (s.setSampler n f a.maxTokens.toNat a.stops).setCx n exCLIENT_ID a.clientId.toNat
          let s := ((s.setCx n exOUT_CHAN a.outChan.toNat).setCx n exATT_BASE (s.cx n exOUT_SEQ)).setCx n exSTOPPED 0
          let s := (s.setCx n exATTACHED 1).setCx n exCOHORT c
          let s := (s.setCx n exHIST_ADDR (s.eland.hBase + hslot * 1024)).setCx n exDCACHE_ADDR (s.eland.dBase + dslot * size)
          let s := ((s.setCx n exHIST_NEXT 0).setCx n exHIST_FULL 0).appendHistory n (list.drop (a.nt - 256) ++ last)
          let seq := list.take (a.nt - a.pf) ++ (if a.pf = 0 then [] else last) ++ list.drop (a.nt - a.pf)
          let rows := s.cx n cxTOKENS - (a.nt - a.pf)
          let skip := match s.eland.draft with | some (h, _) => seq.length - edWindow h | none => 0
          let s := State.buildDraft n (rows + skip) (rows + skip) (seq.drop skip) s
          let first := s.eland.streams.isEmpty
          let s := { s with eland := { s.eland with
            streams := s.eland.streams ++ [(⟨n, c, dslot, hslot, rows + skip, inputs, false, none, [], []⟩ : ElStream)] } }
          let s := match first, s.eland.draft with
            | true, some (_, d) => (List.range d).foldl (fun (s : State) k => s.fwTarget k 0 none) s
            | _, _ => s
          success s (leBytes 1 c))

/-- A staged record becomes the stream's last, with END_REASON 3, unless it already ends the stream (R155). (Log
entry 78: DEDUCED, unsafe.) -/
def ElRecord.ended (x : ElRecord) : ElRecord :=
  if x.endReason > 0 then x
  else { x with endReason := 3, bytes := x.bytes.set 14 ((x.bytes[14]?.getD 0) ||| 0x0D#8) }

/-- SYN_ELAND_DETACH: a stream in a step leaves when the step commits. (Log entry 78: DEDUCED, unsafe.) -/
def execSynElandDetach (r : SynReq) (stream : BitVec 20) (gen : W16) (s : State) : Res :=
  ok (s.syn 0x0704 (domEland (s.elCohortOf stream.toNat)) r fun s => s.onElStream stream.toNat gen.toNat fun s =>
    let n := stream.toNat
    match s.elStreamOf n with
    | none => refuse s 0x0208
    | some e =>
      let flying := match s.elLaunch e.cohort with
        | some l => !l.sampled && l.entries.any (fun x => x.stream == n)
        | none => false
      let staged := (s.eland.staged.filter (fun x => x.stream == n)).getLast?
      if flying then success (s.setElStream { e with leaving := true })
      else match staged with
        | some x =>
          let s := s.setElStream { e with leaving := true }
          success { s with eland := { s.eland with
            staged := s.eland.staged.map (fun (y : ElRecord) => if y = x then y.ended else y) } }
        | none => success (s.elDetach n))

/-- SYN_ELAND_SET (R150): the context changes; a draft already started keeps what it latched. -/
def execSynElandSet (r : SynReq) (stream : BitVec 20) (gen : W16) (f : SamplerSpec) (maxTokens : BitVec 32)
    (stops : List (BitVec 32)) (s : State) : Res :=
  ok (s.syn 0x0705 (domEland (s.elCohortOf stream.toNat)) r fun s => s.onElStream stream.toNat gen.toNat fun s =>
    let n := stream.toNat
    if (s.elStreamOf n).isNone then refuse s 0x0208
    else if !samplerOk f then refuse s 0x0104
    else success (s.setSampler n f maxTokens.toNat stops))

/-- SYN_ELAND_QUERY: context bytes 128 to 255. -/
def execSynElandQuery (r : SynReq) (stream : BitVec 20) (gen : W16) (s : State) : Res :=
  ok (s.syn 0x0706 (domEland (s.elCohortOf stream.toNat)) r fun s => s.onElStream stream.toNat gen.toNat fun s =>
    success s ((s.ctx stream.toNat).drop 128))

/-- SYN_ELAND_STATS. (Log entry 75: DESIGN CHOICE, unsafe.) -/
def execSynElandStats (r : SynReq) (s : State) : Res :=
  ok (s.syn 0x0707 (domEland 0) r fun s => success s (s.eland.stats.flatMap (leBytes 8)))

end Sys2Proof.Machine
end

