-- ==== Sys2Proof/Machine/Packet.lean ====
section
/-! DEFINITION. Packet parsing, classification and transmit channels (12_packet_pipeline.md R262 to R281). -/

namespace Sys2Proof.Machine

/-! ### Banks (R263, R264) -/

def bhNodes (h : List Byte) : Nat := fieldLE h 4 1
def bhTables (h : List Byte) : Nat := fieldLE h 5 1
def bhIp4 (h : List Byte) : Nat := fieldLE h 6 1
def bhIp6 (h : List Byte) : Nat := fieldLE h 7 1
def bhFrag6 (h : List Byte) : Nat := fieldLE h 8 1
def bhL4 (h : List Byte) : Nat := fieldLE h 9 1
def bhPatterns (h : List Byte) : Nat := fieldLE h 10 2
def bhTernary (h : List Byte) : Nat := fieldLE h 12 2
def bhLists (h : List Byte) : Nat := fieldLE h 14 2
def bhChannels (h : List Byte) : Nat := fieldLE h 16 2
def bhTemplates (h : List Byte) : Nat := fieldLE h 18 2
def bhDefault (h : List Byte) : Nat := fieldLE h 24 8

/-- Record counts and sizes of the sections, in image order. -/
def bankSections (h : List Byte) : List (Nat × Nat) :=
  [(bhNodes h, 64), (bhTables h, 64), (bhPatterns h, 64), (bhTernary h, 96), (bhLists h, 64), (bhChannels h, 256),
    (bhTemplates h, 64)]

/-- Offsets of the sections, and the image's length: each starts at the next 64-byte boundary. -/
def sectionOffsets : List (Nat × Nat) → Nat → List Nat
  | [], o => [o]
  | (n, z) :: t, o => o :: sectionOffsets t ((o + n * z + 63) / 64 * 64)

/-- A section's records read from HBM. -/
def State.readSection (s : State) (a n z : Nat) : List (List Byte) := (List.range n).map (fun i => s.bytes (a + i * z) z)

/-- The image of a bank at an address. -/
def State.readBank (s : State) (a : Nat) : PktBank :=
  let h := s.bytes a 64
  let o := sectionOffsets (bankSections h) 64
  let sec (i : Nat) : List (List Byte) :=
    let nz := (bankSections h)[i]?.getD (0, 64)
    s.readSection (a + o[i]?.getD 0) nz.1 nz.2
  ⟨h, sec 0, sec 1, sec 2, sec 3, sec 4, sec 5, sec 6⟩

/-- Fields of a parse node. -/
def pnValid (n : List Byte) : Bool := wordFd n 0 0 1 == 1
def pnEnd (n : List Byte) : Bool := wordFd n 0 1 1 == 1
def pnLayer (n : List Byte) : Nat := wordFd n 0 2 4
def pnSelOff (n : List Byte) : Nat := wordFd n 0 8 6
def pnSelLen (n : List Byte) : Nat := wordFd n 0 16 2
def pnAdvMode (n : List Byte) : Nat := wordFd n 0 18 1
def pnAdv (n : List Byte) : Nat := wordFd n 1 0 8
def pnLenOff (n : List Byte) : Nat := wordFd n 1 8 6
def pnLenMask (n : List Byte) : Nat := wordFd n 1 16 8
def pnLenShift (n : List Byte) : Nat := wordFd n 1 24 3
def pnLenScale (n : List Byte) : Nat := wordFd n 1 28 2
def pnDefault (n : List Byte) : Nat := wordFd n 2 0 6
def pnDefEnd (n : List Byte) : Bool := wordFd n 2 7 1 == 1
/-- Transition t: value, mask, next node, valid. -/
def pnTrans (n : List Byte) (t : Nat) : Nat × Nat × Nat × Bool :=
  (fieldLE n (16 + 8 * t) 2, fieldLE n (18 + 8 * t) 2, fieldLE n (20 + 8 * t) 1 % 64, bitAt (fieldLE n (20 + 8 * t) 1) 7)

/-- Fields of a table descriptor. -/
def ptValid (t : List Byte) : Bool := wordFd t 0 0 1 == 1
def ptTernary (t : List Byte) : Bool := wordFd t 0 1 1 == 1
def ptKeyBytes (t : List Byte) : Nat := wordFd t 0 8 6
def ptMiss (t : List Byte) : Nat := wordFd t 1 0 12
def ptBase (t : List Byte) : Nat := bitsOf (fieldLE t 8 8) 8 44 * 256
def ptLog (t : List Byte) : Nat := fieldLE t 8 1 % 32
def ptFirst (t : List Byte) : Nat := wordFd t 4 0 12
def ptCount (t : List Byte) : Nat := wordFd t 4 16 13
/-- Selector i: source, layer, offset, length. -/
def ptSel (t : List Byte) (i : Nat) : Nat × Nat × Nat × Nat :=
  (wordFd t (8 + i) 0 2, wordFd t (8 + i) 4 4, wordFd t (8 + i) 8 10, wordFd t (8 + i) 18 6)

/-- Fields of an action word. -/
def awOp (w : Nat) : Nat := w % 16
def awLayer (w : Nat) : Nat := bitsOf w 4 4

/-- The action words of a list, up to its first END. -/
def listWords (l : List Byte) : List Nat :=
  ((List.range 8).map (fun i => fieldLE l (8 * i) 8)).takeWhile (fun w => awOp w != 0)

/-- The check of a bank image (0x06B1 to 0x06B5). -/
def State.bankCheck (s : State) (a : Nat) : Option Nat :=
  let h := s.bytes a 64
  let o := sectionOffsets (bankSections h) 64
  let countsOk := decide (1 ≤ bhNodes h) && decide (bhNodes h ≤ 64) && decide (bhTables h ≤ 8) && decide (bhPatterns h ≤ 256)
    && decide (bhTernary h ≤ 4096) && decide (1 ≤ bhLists h) && decide (bhLists h ≤ 4096) && decide (bhChannels h ≤ 4096)
    && decide (bhTemplates h ≤ 256) && decide (bhIp4 h ≤ 15) && decide (bhIp6 h ≤ 15) && decide (bhFrag6 h ≤ 15)
    && decide (bhL4 h ≤ 15)
  if !inHbm a 64 || fieldLE h 0 4 != 1 || !countsOk || !inHbm a ((o.getLast?).getD 0) then some 0x06B1
  else
    let b := s.readBank a
    let nodeOk (n : List Byte) : Bool :=
      !pnValid n || (decide (pnDefault n < bhNodes h) && decide (pnSelOff n + pnSelLen n ≤ 64)
        && (List.range 6).all (fun t => !(pnTrans n t).2.2.2 || decide ((pnTrans n t).2.2.1 < bhNodes h)))
    let tableOk (t : List Byte) : Bool :=
      !ptValid t || (decide (1 ≤ ptKeyBytes t) && decide (ptKeyBytes t ≤ 32)
        && decide ((List.range 8).foldl (fun n i => if (ptSel t i).1 = 0 then n else n + (ptSel t i).2.2.2) 0 ≤ 32)
        && (if ptTernary t then decide (ptFirst t + ptCount t ≤ bhTernary h)
            else decide (ptLog t ≤ 20) && inHbm (ptBase t) (256 * 2 ^ ptLog t)))
    let wordOk (w : Nat) : Bool :=
      match awOp w with
      | 2 => decide (bitsOf w 8 8 < bhTemplates h)
      | 4 => decide (awLayer w ≤ 2)
      | 8 => decide (bitsOf w 4 3 < bhTables h)
      | op => decide (op ≤ 9)
    let listNo (n : Nat) : Bool := decide (n < bhLists h)
    let chanOk (c : List Byte) : Bool :=
      wordFd c 0 0 1 == 0 || (s.isEth (wordFd c 0 1 3) && decide (fieldLE c 4 1 ≤ 192)
        && (fieldLE c 5 1 == 0xFF || decide (fieldLE c 5 1 < fieldLE c 4 1))
        && (fieldLE c 6 1 == 0xFF || decide (fieldLE c 6 1 < fieldLE c 4 1)))
    if !b.nodes.all nodeOk then some 0x06B2
    else if !b.tables.all tableOk then some 0x06B3
    else if !(b.lists.all (fun l => (listWords l).all wordOk))
        || !(b.tables.all (fun t => !ptValid t || listNo (ptMiss t)))
        || !(b.tern.all (fun e => fieldLE e 64 1 % 2 == 0 || listNo (fieldLE e 68 2 % 4096)))
        || !(wordOk (bhDefault h) && awOp (bhDefault h) == 4) then some 0x06B4
    else if !b.chans.all chanOk then some 0x06B5
    else none

def State.pktRefusal (s : State) (c : Nat) : State := s.sf PKT_CTL PKT_CTL_REFUSAL c
def State.pktEn (s : State) : Bool := s.bit PKT_CTL PKT_CTL_EN && !s.blockDown 13
def State.activeBank (s : State) : Nat := s.gf PKT_SWAP PKT_SWAP_ACTIVE
def State.bankAt (s : State) (i : Nat) : Option PktBank := (s.pkt.banks[i]?).getD none

/-! ### The parse graph (R266, R267) -/

/-- What parsing leaves: layer offsets (0xFFFF absent), payload offset, the last node, and an exception. -/
structure Parsed where
  layers : List Nat
  payload : Nat
  last : Nat
  exc : Bool

/-- A byte of a frame, none beyond its end. -/
def frameByte (f : List Byte) (i : Nat) : Option Nat := (f[i]?).map (·.toNat)

/-- Walk the graph: `k` nodes may still be visited. (Log entry 122: DEDUCED, unsafe.) -/
def parseWalk (b : PktBank) (f : List Byte) : Nat → Nat → Nat → List Nat → Nat → Parsed
  | 0, _, c, ls, last => ⟨ls, c, last, true⟩
  | k + 1, node, c, ls, last =>
    match b.nodes[node]? with
    | none => ⟨ls, c, last, true⟩
    | some n =>
      if !pnValid n then ⟨ls, c, last, true⟩
      else
        let ls := if pnLayer n = 15 then ls else ls.set (pnLayer n) c
        let len := if pnSelLen n = 3 then 0 else pnSelLen n
        if len > 0 ∧ c + pnSelOff n + len > f.length then ⟨ls, c, node, true⟩
        else
          let v := frameBE f (c + pnSelOff n) len
          let hit := if len = 0 then none
            else (List.range 6).find? (fun t => (pnTrans n t).2.2.2 && (v &&& (pnTrans n t).2.1) == (pnTrans n t).1)
          let next := match hit with | some t => (pnTrans n t).2.2.1 | none => pnDefault n
          let stop := pnEnd n || (hit.isNone && pnDefEnd n)
          let adv := if pnAdvMode n = 0 then some (pnAdv n)
            else (frameByte f (c + pnLenOff n)).map (fun x => ((x &&& pnLenMask n) >>> pnLenShift n) * 2 ^ pnLenScale n + pnAdv n)
          match adv with
          | none => ⟨ls, c, node, true⟩
          | some a =>
            if c + a > f.length ∨ c + a > 256 then ⟨ls, c, node, true⟩
            else if stop then ⟨ls, c + a, node, false⟩
            else parseWalk b f k next (c + a) ls node

def parse (b : PktBank) (f : List Byte) : Parsed := parseWalk b f 16 0 0 (List.replicate 15 0xFFFF) 0

/-- Offset of a layer; none when it is absent. -/
def Parsed.layer (p : Parsed) (l : Nat) : Option Nat :=
  match p.layers[l]? with
  | some o => if o = 0xFFFF then none else some o
  | none => none

/-! ### Metadata and patterns (R268, R269) -/

/-- PCP of the first 802.1Q tag. (Log entry 123: DEDUCED, unsafe.) -/
def framePrio (f : List Byte) : Nat := if frameBE f 12 2 = 0x8100 then frameBE f 14 2 / 2 ^ 13 else 0

def metadata (fr : PktFrame) (p : Parsed) : List Byte :=
  fit 64 (leBytes 1 fr.port ++ leBytes 1 fr.prio ++ leBytes 1 (fr.flags ||| b2n p.exc) ++ leBytes 1 p.last
    ++ leBytes 2 fr.bytes.length ++ leBytes 2 p.payload ++ p.layers.flatMap (leBytes 2))

/-- The LEN bytes at an offset match a pattern. -/
def patternAt (f pat : List Byte) (o : Nat) : Bool :=
  let len := fieldLE pat 32 1
  decide (o + len ≤ f.length) && decide (o + len ≤ 512) &&
    (List.range len).all (fun i => (fieldLE f (o + i) 1 &&& fieldLE pat (16 + i) 1) == fieldLE pat i 1)

def patternHit (fr : List Byte) (p : Parsed) (pat : List Byte) : Bool :=
  let base := fieldLE pat 33 1
  let b := if base % 4 = 0 then some 0 else if base % 4 = 1 then some p.payload
    else if base % 4 = 2 then p.layer (base / 16) else none
  match b with
  | none => false
  | some b =>
    let lo := fieldLE pat 36 2
    let hi := min 511 (fieldLE pat 38 2)
    fieldLE pat 34 1 % 2 == 1 && (List.range (hi + 1 - lo)).any (fun i => patternAt fr pat (b + lo + i))

/-- The match vector, bit i for pattern i. -/
def matchVector (b : PktBank) (fr : List Byte) (p : Parsed) : Nat :=
  (b.pats.zipIdx).foldl (fun v e => if patternHit fr p e.1 then v + 2 ^ e.2 else v) 0

/-! ### Lookup (R270, R271) -/

/-- Key of a table. -/
def tableKey (t : List Byte) (fr : PktFrame) (p : Parsed) (vec : Nat) : List Byte :=
  fit (ptKeyBytes t) ((List.range 8).flatMap (fun i =>
    let (src, layer, off, len) := ptSel t i
    if src = 1 then (match p.layer layer with
      | some o => frameBytes fr.bytes (o + off) len
      | none => List.replicate len 0)
    else if src = 2 then frameBytes (metadata fr p) off len
    else if src = 3 then frameBytes (leBytes 32 vec) off len
    else []))

/-- The bucket of a key. -/
def exactBucket (t key : List Byte) : Nat := crc32 key % 2 ^ ptLog t

/-- The cached entries of a bucket; none when one of the four is missing. -/
def State.cachedBucket (s : State) (bank t bkt : Nat) : Option (List (List Byte)) :=
  (List.range 4).foldl (fun (acc : Option (List (List Byte))) i =>
    match acc, s.pkt.cache.find? (fun e => e.1 == (bank, t, bkt * 4 + i)) with
    | some l, some e => some (l ++ [e.2])
    | _, _ => none) (some [])

/-- The list of the entry that holds a key. -/
def exactHit (es : List (List Byte)) (t key : List Byte) : Option Nat :=
  (es.find? (fun e => fieldLE e 32 1 % 2 == 1 && e.take (ptKeyBytes t) == key)).map (fun e => fieldLE e 36 2 % 4096)

def ternHit (b : PktBank) (t key : List Byte) : Option Nat :=
  ((b.tern.drop (ptFirst t)).take (ptCount t)).findSome? (fun e =>
    if fieldLE e 64 1 % 2 = 1 ∧ (List.range (ptKeyBytes t)).all (fun i =>
        (fieldLE key i 1 &&& fieldLE e (32 + i) 1) == (fieldLE e i 1 &&& fieldLE e (32 + i) 1)) then
      some (fieldLE e 68 2 % 4096) else none)

/-- What a lookup comes to: it needs a bucket that is not cached, or it ends with its lists' action words. -/
inductive Lookup where
  | need (table bucket : Nat)
  | done (words : List Nat)

/-- Lookups from table `t`, at most `k` tables. -/
def State.lookupFrom (s : State) (bank : Nat) (b : PktBank) (fr : PktFrame) (p : Parsed) (vec : Nat) :
    Nat → Nat → List Nat → Lookup
  | 0, _, ws => .done ws
  | k + 1, t, ws =>
    match b.tables[t]? with
    | none => .done ws
    | some d =>
      if !ptValid d then .done ws
      else
        let key := tableKey d fr p vec
        let next (l : Nat) : Lookup :=
          let mine := match b.lists[l]? with | some x => listWords x | none => []
          let ws := ws ++ mine
          match mine.find? (fun w => awOp w == 8) with
          | some w => if bitsOf w 4 3 > t then s.lookupFrom bank b fr p vec k (bitsOf w 4 3) ws else .done ws
          | none => .done ws
        if ptTernary d then next ((ternHit b d key).getD (ptMiss d))
        else match s.cachedBucket bank t (exactBucket d key) with
          | none => .need t (exactBucket d key)
          | some es => next ((exactHit es d key).getD (ptMiss d))

/-- Put entries in the cache of 16,384; which entry leaves a full cache the manual leaves open. (Log entry 120:
DESIGN CHOICE, safe.) -/
def State.cacheEntry (s : State) (k : Nat × Nat × Nat) (e : List Byte) : State :=
  let c := s.pkt.cache.filter (fun x => x.1 != k)
  let c' := if c.length < 16384 then c else c.eraseIdx ((s.fresh 16).toNat % c.length)
  let s := if c.length < 16384 then s else s.tick
  { s with pkt := { s.pkt with cache := c' ++ [(k, e)] } }

/-- Read a bucket from HBM into the cache. -/
def State.fetchBucket (s : State) (bank t bkt : Nat) (d : List Byte) : State :=
  (List.range 4).foldl (fun (s : State) i =>
    let r := s.load (ptBase d + (bkt * 4 + i) * 64) 64
    r.2.2.cacheEntry (bank, t, bkt * 4 + i) r.2.1) s

/-! ### Actions (R272) -/

/-- An edited frame: kept bytes with their original offset, inserted ones with none. -/
abbrev Edit := List (Option Nat × Byte)

/-- The range a POP removes. -/
def popRange (p : Parsed) (w : Nat) : Option (Nat × Nat) :=
  (p.layer (awLayer w)).map (fun o =>
    let n := bitsOf w 16 8
    if n > 0 then (o, o + n)
    else (o, (p.layers.filter (fun x => x != 0xFFFF && decide (x > o))).foldl min (max o p.payload)))

/-- Insert bytes before the first kept byte at or after an original offset, behind what stands inserted there. -/
def insertAt (pos : Nat) (new : List Byte) : Edit → Edit
  | [] => new.map (fun b => (none, b))
  | (some i, b) :: t => if i ≥ pos then new.map (fun b => (none, b)) ++ (some i, b) :: t else (some i, b) :: insertAt pos new t
  | (none, b) :: t => (none, b) :: insertAt pos new t

/-- POP, SET_FIELD and PUSH of a word list applied to a frame. (Log entry 122: DEDUCED, unsafe.) -/
def editFrame (b : PktBank) (p : Parsed) (f : List Byte) (ws : List Nat) : Edit :=
  let pops := (ws.filter (fun w => awOp w == 3)).filterMap (popRange p)
  let popped (i : Nat) : Bool := pops.any (fun r => decide (r.1 ≤ i) && decide (i < r.2))
  let set := (ws.filter (fun w => awOp w == 1)).foldl (fun (f : List Byte) w =>
    match p.layer (awLayer w) with
    | none => f
    | some o =>
      if popped o then f
      else
        let n := bitsOf w 16 2 + 1
        (beBytes n (bitsOf w 32 32)).zipIdx.foldl (fun (f : List Byte) e => f.set (o + bitsOf w 8 8 + e.2) e.1) f) f
  let kept : Edit := (set.zipIdx.filter (fun e => !popped e.2)).map (fun e => (some e.2, e.1))
  (ws.filter (fun w => awOp w == 2)).foldl (fun (e : Edit) w =>
    let pos := if awLayer w = 15 then some p.payload else p.layer (awLayer w)
    match pos, b.temps[bitsOf w 8 8]? with
    | some o, some t => insertAt o (t.take (bitsOf w 16 8)) e
    | _, _ => e) kept

/-- Where the byte of an original offset now stands. -/
def newPos (e : Edit) (o : Nat) : Option Nat := (e.zipIdx.find? (fun x => x.1.1 == some o)).map (·.2)

/-- Put a big-endian 16-bit value. -/
def putBE16 (f : List Byte) (o v : Nat) : List Byte := f.take o ++ beBytes 2 v ++ f.drop (o + 2)

/-- A fresh IPv4 header checksum at an offset. -/
def fixIp4 (f : List Byte) (o : Nat) : List Byte :=
  let n := (fieldLE f o 1 % 16) * 4
  let f := putBE16 f (o + 10) 0
  putBE16 f (o + 10) (checksum (frameBytes f o n))

/-- The bytes an incremental L4 checksum covers: the L4 header without its checksum field, and the IP addresses. -/
def l4Cover (f : List Byte) (l4 : Nat) (tcp : Bool) (ip4 ip6 : Option Nat) : List Byte :=
  let hdr := if tcp then frameBytes f l4 16 ++ frameBytes f (l4 + 18) ((fieldLE f (l4 + 12) 1 / 16) * 4 - 18)
    else frameBytes f l4 6
  let addr := match ip4, ip6 with
    | some o, _ => frameBytes f (o + 12) 8
    | none, some o => frameBytes f (o + 8) 32
    | none, none => []
  hdr ++ addr

/-- CSUM (R272): `old` is the frame as parsed, `f` as edited; positions are those of the edited frame. -/
def csum (h : List Byte) (p : Parsed) (w : Nat) (old : List Byte) (e : Edit) : List Byte :=
  let f := e.map (·.2)
  let ip4 := (p.layer (bhIp4 h)).bind (newPos e)
  let ip6 := (p.layer (bhIp6 h)).bind (newPos e)
  let f := match bitAt w 4, ip4 with
    | true, some o => fixIp4 f o
    | _, _ => f
  match bitAt w 5, p.layer (bhL4 h), (p.layer (bhL4 h)).bind (newPos e) with
  | true, some l4, some n4 =>
    let proto := match p.layer (bhIp4 h), p.layer (bhIp6 h) with
      | some o, _ => fieldLE old (o + 9) 1
      | none, some o => fieldLE old (o + 6) 1
      | none, none => 17
    let tcp := proto == 6
    let co := if tcp then 16 else 6
    let prev := frameBE f (n4 + co) 2
    if !tcp && prev == 0 && (p.layer (bhIp4 h)).isSome then f
    else
      let was := foldOnes (onesSum (l4Cover old l4 tcp (p.layer (bhIp4 h)) (p.layer (bhIp6 h))))
      let now := foldOnes (onesSum (l4Cover f n4 tcp ip4 ip6))
      putBE16 f (n4 + co) (65535 - foldOnes ((65535 - prev) + (65535 - was) + now))
  | _, _, _ => f

/-- Count a frame and its bytes as received in one counter. -/
def State.pktCount (s : State) (i len : Nat) : State :=
  let a := (s.gf PKT_CNT_BASE PKT_CNT_BASE_BASE <<< 20) + i * 16
  s.poke a (leBytes 8 (s.le a 8 + 1) ++ leBytes 8 (s.le (a + 8) 8 + len))

/-- The counters of PKT_EVENTS and PKT_EVENTS2. -/
def State.pktEvent (s : State) (f : Fd) : State := s.cnt PKT_EVENTS f 1
def State.pktEvent2 (s : State) (f : Fd) : State := s.cnt PKT_EVENTS2 f 1

/-! ### Destinations (R273) -/

/-- The device-wide receive queue of an instance's queue number. -/
def State.rxQueueOf (s : State) (inst q : Nat) : Option Nat :=
  (s.iq.find? (fun e => e.2.kind == .receive && e.2.inst == inst && e.2.localIx == q)).map (fun e => e.1 % 2 ^ 16)

/-- The frame can be parsed as RoCEv2: UDP destination port 4791 and room for the base transport header and its CRC. -/
def isRoce (h : List Byte) (p : Parsed) (f : List Byte) : Bool :=
  match p.layer (bhL4 h) with
  | some o => frameBE f (o + 2) 2 == 4791 && decide (o + 8 + 12 + 4 ≤ f.length)
  | none => false

/-- What delivery of a frame comes to: done, or its queue is full. -/
inductive Delivery where
  | done (s : State)
  | full

/-- Units of 64 bytes. -/
def units64 (n : Nat) : Nat := (n + 63) / 64

/-- Deliver an edited frame by a DEST word. (Log entry 124: DEDUCED, unsafe.) -/
def State.deliverTo (s : State) (h : List Byte) (p : Parsed) (fr : PktFrame) (f : List Byte) (prio dest : Nat) : Delivery :=
  let kind := awLayer dest
  if kind = 1 then
    let inst := bitsOf dest 16 11
    match s.rxQueueOf inst (bitsOf dest 32 16) with
    | none => .done (s.pktEvent PKT_EVENTS_QUEUE_DROP)
    | some n =>
      match s.iqAt (qkey .receive n) with
      | none => .done (s.pktEvent PKT_EVENTS_QUEUE_DROP)
      | some q =>
        if !s.iqFetches q || s.blockDown 18 || f.length > q.buflen then .done (s.pktEvent PKT_EVENTS_QUEUE_DROP)
        else match s.takeBuffer n with
          | none => .full
          | some (addr, buf, s) =>
            let s := s.instWrite inst addr f
            .done ((s.iqComplete (qkey .receive n)
              (rxCompletion f.length (fr.flags ||| b2n p.exc) fr.port prio buf 0)).iqDone (qkey .receive n))
  else if kind = 2 then
    if isRoce h p f then .done (s.deliver fr.port prio f (units64 f.length)) else .done s.trnDiscard
  else .done s

/-! ### Fragments (R274, R275) -/

/-- A frame as a fragment: its datagram key, offset, length, and whether more follow. -/
def fragmentOf (h : List Byte) (p : Parsed) (fr : PktFrame) : Option (List Byte × Nat × Nat × Bool) :=
  let f := fr.bytes
  match p.layer (bhIp4 h), p.layer (bhFrag6 h), p.layer (bhIp6 h) with
  | some o, none, _ =>
    let x := frameBE f (o + 6) 2
    if bitAt x 13 || x % 2 ^ 13 != 0 then
      some (leBytes 1 fr.port ++ frameBytes f (o + 12) 8 ++ frameBytes f (o + 4) 2 ++ frameBytes f (o + 9) 1,
        x % 2 ^ 13 * 8, frameBE f (o + 2) 2 - (fieldLE f o 1 % 16) * 4, bitAt x 13)
    else none
  | _, some g, some o =>
    let x := frameBE f (g + 2) 2
    some (leBytes 1 fr.port ++ frameBytes f (o + 8) 32 ++ frameBytes f (g + 4) 4 ++ frameBytes f g 1,
      x / 8 * 8, frameBE f (o + 4) 2 + 40 - (g + 8 - o), bitAt x 0)
  | _, _, _ => none

def State.fragAt (s : State) (key : List Byte) : Option FragEntry := s.pkt.frags.find? (fun e => e.key == key)

/-- Replace the fragment table; ENTRIES shows its size. -/
def State.setFrags (s : State) (l : List FragEntry) : State :=
  { s with pkt := { s.pkt with frags := l } }.sf PKT_FRAG_CTL PKT_FRAG_CTL_ENTRIES l.length

/-- A fragment matched an entry: progress is counted, and a complete datagram frees the entry. -/
def State.fragProgress (s : State) (e : FragEntry) (off len : Nat) (more : Bool) : State :=
  let e := { e with got := e.got + len, fin := if more then e.fin else some (off + len), last := s.clock }
  let rest := s.pkt.frags.filter (fun x => x.key != e.key)
  if e.fin = some e.got then s.setFrags rest else s.setFrags (rest ++ [e])

/-- The edits that a first fragment stores: those that touch only layers up to the IP layer. (Log entry 129: DEDUCED,
unsafe.) -/
def storedWords (h : List Byte) (p : Parsed) (ws : List Nat) : List Nat :=
  let ip := ((p.layer (bhIp4 h)) <|> (p.layer (bhIp6 h))).getD 0
  let low (w : Nat) : Bool := match p.layer (awLayer w) with
    | some o => decide (o ≤ ip)
    | none => false
  (ws.filter (fun w => (awOp w == 1 || awOp w == 2 || awOp w == 3) && low w))
    ++ (ws.filter (fun w => awOp w == 9 && !bitAt w 5))

/-! ### One frame through the stages -/

/-- An outcome: edit words, DEST word, priority, policer and counters. -/
structure Outcome where
  words : List Nat
  dest : Nat
  prio : Option Nat
  police : Option Nat
  counts : List Nat

/-- The outcome of collected action words (R272). -/
def outcomeOf (h : List Byte) (ws : List Nat) : Outcome :=
  { words := ws.filter (fun w => [1, 2, 3, 9].contains (awOp w))
    dest := ((ws.filter (fun w => awOp w == 4)).getLast?).getD (bhDefault h)
    prio := ((ws.filter (fun w => awOp w == 7)).getLast?).map (fun w => bitsOf w 4 3)
    police := (ws.find? (fun w => awOp w == 5)).map (fun w => bitsOf w 8 10)
    counts := (ws.filter (fun w => awOp w == 6)).map (fun w => bitsOf w 16 16) }

/-- The policer's answer (R258): passed with a priority, or dropped. -/
def State.police (s : State) (o : Outcome) (prio : Nat) : Option Nat × State :=
  match o.police with
  | none => (some prio, s)
  | some i =>
    let (pass, b) := (s.bucket true i).take
    let s := s.setBucket true i b
    if pass then (some prio, s)
    else
      let s := s.cnt TG_POL_EXCEED TG_POL_EXCEED_COUNT 1
      (if b.cfg.action = 0 then none else some b.cfg.exceedTc, s)

/-- Apply an outcome to a frame: whether its queue had room, and the state, counted and policed, with the frame delivered if
so. (Log entry 126: DEDUCED, unsafe.) -/
def State.applyOutcome (s0 : State) (b : PktBank) (p : Parsed) (fr : PktFrame) (o : Outcome) : Bool × State :=
  let e := editFrame b p fr.bytes o.words
  let sums := o.words.filter (fun w => awOp w == 9)
  let f := if sums = [] then e.map (·.2) else csum b.head p (sums.foldl (fun x w => x ||| w) 0) fr.bytes e
  let s := o.counts.foldl (fun (s : State) i => s.pktCount i fr.len) s0
  if o.words != [] && decide (f.length + 4 > 9216) then (true, s.pktEvent2 PKT_EVENTS2_OVERSIZE)
  else
    let (pr, s) := s.police o (o.prio.getD fr.prio)
    match pr with
    | none => (true, s)
    | some prio =>
      match s.deliverTo b.head p fr f prio o.dest with
      | .done s => (true, s)
      | .full => (false, s)

/-- What a step of the receive stages does with a frame: it is gone, it needs a bucket, its queue is full (with the state
that its drop would leave), or it releases the held fragments of its datagram. -/
inductive RxStep where
  | gone (s : State)
  | need (table bucket : Nat)
  | full (s : State)
  | release (s : State) (key : List Byte)

/-- Parse, fragment table, rule tables, actions and destination of one frame. -/
def State.rxStep (s : State) (fr : PktFrame) : RxStep :=
  match s.bankAt fr.bank with
  | none => .gone s
  | some b =>
    let p := parse b fr.bytes
    let frag := fragmentOf b.head p fr
    let count (s : State) : State := if p.exc then s.pktEvent2 PKT_EVENTS2_PARSE_EXC else s
    let classify (fr : PktFrame) (onDone : State → Outcome → RxStep) : RxStep :=
      match s.lookupFrom fr.bank b fr p (matchVector b fr.bytes p) 8 0 [] with
      | .need t k => .need t k
      | .done ws =>
        let o := outcomeOf b.head ws
        match s.applyOutcome b p fr o with
        | (true, s) => onDone (count s) o
        | (false, s) => .full (count s)
    match frag with
    | none => classify fr (fun s _ => .gone s)
    | some (key, off, len, more) =>
      if off = 0 then
        let fr := { fr with flags := fr.flags ||| 2 }
        classify fr (fun s o =>
          let old := s.fragAt key
          if old.isNone && decide (s.pkt.frags.length ≥ 8192) then .gone (s.pktEvent2 PKT_EVENTS2_FRAG_FULL)
          else
            let e : FragEntry := ⟨key, storedWords b.head p o.words, o.dest, o.prio, o.police, o.counts,
              onSome old 0 (·.got), old.bind (·.fin), s.clock⟩
            .release (s.fragProgress e off len more) key)
      else
        let fr := { fr with flags := fr.flags ||| 4 }
        match s.fragAt key with
        | some e =>
          match s.applyOutcome b p fr ⟨e.words, e.dest, e.prio, e.police, e.counts⟩ with
          | (true, s) => .gone ((count s).fragProgress e off len more)
          | (false, s) => .full (count s)
        | none =>
          let bytes := s.pkt.held.foldl (fun n x => n + x.2.bytes.length) 0
          if s.pkt.held.length ≥ 1024 ∨ bytes + fr.bytes.length > 2 ^ 21 then
            .gone ((count s).pktEvent PKT_EVENTS_HOLD_FULL)
          else .gone { count s with pkt := { (count s).pkt with held := s.pkt.held ++ [(s.clock, fr)] } }

/-- Datagram key of a held fragment. -/
def State.heldKey (s : State) (fr : PktFrame) : Option (List Byte) :=
  (s.bankAt fr.bank).bind (fun b => (fragmentOf b.head (parse b fr.bytes) fr).map (·.1))

/-- A frame leaves the receive queue: its storage in the port is freed. -/
def State.dropRx (s : State) (fr : PktFrame) : State :=
  let s := { s with pkt := { s.pkt with queue := s.pkt.queue.erase fr } }
  s.takeFrame fr.port fr.prio fr.bytes

/-- Take frames of one port and priority through the stages in order, until one must wait: `k` frames at most. -/
def State.rxPump (port prio : Nat) : Nat → State → State
  | 0, s => s
  | k + 1, s =>
    match s.pkt.queue.find? (fun f => f.port == port && f.prio == prio) with
    | none => s
    | some fr =>
      match s.rxStep fr with
      | .need _ _ => s
      | .full _ =>
        if fr.waiting.isSome then s
        else { s with pkt := { s.pkt with queue := s.pkt.queue.map (fun (f : PktFrame) =>
          if f = fr then { f with waiting := some s.clock } else f) } }
      | .gone s => State.rxPump port prio k (s.dropRx fr)
      | .release s key =>
        let s := s.dropRx fr
        let mine := s.pkt.held.filter (fun x => s.heldKey x.2 == some key && decide (s.clock - x.1 < nsCycles 2000000))
        let s := { s with pkt := { s.pkt with
          held := s.pkt.held.filter (fun x => !mine.contains x)
          queue := mine.map (·.2) ++ s.pkt.queue } }
        State.rxPump port prio k s

/-- Every port and priority goes on as far as it can. -/
def State.pktPump (s : State) : State :=
  let n := s.pkt.queue.length + s.pkt.held.length
  (List.range 64).foldl (fun (s : State) i => State.rxPump (i / 8) (i % 8) n s) s

/-! ### Receive commands -/

/-- A frame without its FCS passes MACsec and enters the receive buffer; one that waits for a key holds its buffer. -/
def State.ethIn (s : State) (p : Nat) (f : List Byte) : State :=
  if s.msecStalled p f then
    let prio := framePrio f
    if s.ethFree p prio < units64 f.length then s.discardFrame p
    else (s.setFp p { s.fp p with stalled := (s.fp p).stalled ++ [(prio, f, units64 f.length)] }).pfcUpdate p prio
  else match s.msecReceive p f with
    | (none, s) => s
    | (some (g, verified), s) =>
      let prio := framePrio g
      let fr : PktFrame := ⟨p, prio, g, f.length + 4, 8 * b2n verified, s.activeBank, none⟩
      if s.ethFree p prio < units64 g.length then s.discardFrame p
      else
        let s := (s.deliver p prio g (units64 g.length)).pfcUpdate p prio
        let s := { s with pkt := { s.pkt with queue := s.pkt.queue ++ [fr] } }
        State.rxPump p prio (s.pkt.queue.length + s.pkt.held.length) s

/-- Frames of an Ethernet port that waited for a slot are taken up again (R309). -/
def State.ethUnstall (s : State) (p : Nat) : State :=
  let l := (s.fp p).stalled
  l.foldl (fun (s : State) e => s.ethIn p e.2.1) (s.setFp p { s.fp p with stalled := [] })

/-- ETHERNET_FRAME_RECEIVE: a frame with its FCS on an Ethernet port (R203, R262). -/
def execEthernetFrameReceive (port : Fin 8) (frame : List Byte) (s : State) : Res :=
  let p := port.val
  if !s.portLive p || !s.isEth p then ok s
  else match checkCrc frame with
    | none => ok (s.discardFrame p)
    | some f =>
      if frame.length < 64 ∨ frame.length > 9216 then ok (s.discardFrame p)
      else if frameBE f 12 2 = 0x8808 then ok (if frameBE f 14 2 = 1 then s.discardFrame p else s)
      else if !s.pktEn || s.safe then ok s
      else ok (s.ethIn p f)

/-- The first frame of a port and priority that waits. -/
def State.rxHead (s : State) (port prio : Nat) : Option PktFrame :=
  s.pkt.queue.find? (fun f => f.port == port && f.prio == prio)

/-- RXWAIT_EXPIRY (R273): the first frame that has waited long enough for its full queue is dropped and counted. -/
def execRxwaitExpiry (port prio : Fin 8) (s : State) : Res :=
  match s.rxHead port prio with
  | none => ok s
  | some fr =>
    match fr.waiting with
    | none => ok s
    | some t =>
      if s.clock - t < nsCycles (10000 * max 1 (s.gf PKT_CTL PKT_CTL_RXWAIT)) then ok s
      else
        let s := match s.rxStep fr with
          | .full s => (s.dropRx fr).pktEvent PKT_EVENTS_QUEUE_DROP
          | _ => s
        ok (State.rxPump port prio (s.pkt.queue.length + s.pkt.held.length) s)

/-- EXACT_ENTRY_FETCH: the bucket that the first waiting frame of a port and priority misses (R270). -/
def execExactEntryFetch (port prio : Fin 8) (s : State) : Res :=
  match s.rxHead port prio with
  | none => ok s
  | some fr =>
    match s.rxStep fr, s.bankAt fr.bank with
    | .need t k, some b =>
      let s := s.fetchBucket fr.bank t k (b.tables[t]?.getD [])
      ok (State.rxPump port prio (s.pkt.queue.length + s.pkt.held.length) s)
    | _, _ => ok s

/-- EARLY_FRAG: fragments held for 2 ms are dropped and counted (R275). -/
def execEarlyFrag (s : State) : Res :=
  let old (x : Nat × PktFrame) : Bool := decide (s.clock - x.1 ≥ nsCycles 2000000)
  let n := (s.pkt.held.filter old).length
  let s := { s with pkt := { s.pkt with held := s.pkt.held.filter (fun x => !old x) } }
  ok (s.cnt PKT_EVENTS PKT_EVENTS_EARLY_FRAG n)

/-- FRAGMENT_IDLE: entries unmatched for IDLE_MS are freed (R275). -/
def execFragmentIdle (s : State) : Res :=
  let lim := nsCycles (1000000 * max 1 (s.gf PKT_FRAG_CTL PKT_FRAG_CTL_IDLE_MS))
  ok (s.setFrags (s.pkt.frags.filter (fun e => decide (s.clock - e.last < lim))))

/-! ### Transmit (R276, R253, R255) -/

/-- The fixups of a channel's frame. (Log entry 129: DEDUCED, unsafe.) -/
def txFixups (c f : List Byte) : List Byte :=
  let l3 := fieldLE c 5 1
  let l4 := fieldLE c 6 1
  let v6 := fieldLE c 7 1 % 2 == 1
  let f := if l3 = 0xFF then f
    else if v6 then putBE16 f (l3 + 4) (f.length - l3 - 40)
    else fixIp4 (putBE16 f (l3 + 2) (f.length - l3)) l3
  let f := if l4 = 0xFF then f
    else
      let n := f.length - l4
      let f := putBE16 (putBE16 f (l4 + 4) n) (l4 + 6) 0
      let pseudo := (if l3 = 0xFF then [] else if v6 then frameBytes f (l3 + 8) 32 else frameBytes f (l3 + 12) 8)
        ++ beBytes 2 17 ++ beBytes 2 n
      let x := checksum (pseudo ++ (if n % 2 = 1 then f.drop l4 ++ [0] else f.drop l4))
      putBE16 f (l4 + 6) (if x = 0 then 65535 else x)
  if f.length < 60 then fit 60 f else f

/-- The active bank's record of a channel. -/
def State.channel (s : State) (n : Nat) : Option (List Byte) :=
  (s.bankAt s.activeBank).bind (fun b => (b.chans[n]?).bind (fun c => if wordFd c 0 0 1 = 1 then some c else none))

/-- TRANSMIT_CHANNEL_FRAME: the oldest source frame of a channel reaches the channel stage. -/
def execTransmitChannelFrame (chan : BitVec 12) (s : State) : Res :=
  match s.chanQ.find? (fun x => x.chan == chan.toNat) with
  | none => ok s
  | some x =>
    if !s.pktEn || s.safe || (x.record && s.leaseLapsed) then ok s
    else
      let s' := { s with chanQ := s.chanQ.erase x }
      match s.channel x.chan with
      | none => ok (s'.pktEvent PKT_EVENTS_TX_INVALID)
      | some c =>
        let f := txFixups c ((c.drop 64).take (fieldLE c 4 1) ++ x.bytes)
        let sh := if wordFd c 0 20 1 = 1 then some (wordFd c 0 8 12) else none
        ok { s' with pkt := { s'.pkt with tx := s'.pkt.tx ++ [⟨x, wordFd c 0 1 3, wordFd c 0 4 3, sh, sh.isNone, f⟩] } }

/-- A frame past the channel stage is replaced. -/
def State.keepTx (s : State) (x y : TxFrame) : State :=
  { s with pkt := { s.pkt with tx := s.pkt.tx.map (fun (z : TxFrame) => if z = x then y else z) } }

/-- A frame leaves the frames past the channel stage. -/
def State.dropTx (s : State) (x : TxFrame) : State := { s with pkt := { s.pkt with tx := s.pkt.tx.erase x } }

/-- A token record whose lease has lapsed goes back to the head of its source, counted, and with it the records of its
channel behind it, so that they keep their order (R14, R459). (Log entry 306: DEDUCED, unsafe.) -/
def State.gateTx (s : State) (x : TxFrame) : State :=
  let behind (y : TxFrame) : Bool := y.src.chan == x.src.chan && y.src.record
  let back := s.pkt.tx.filter behind
  { s with
    pkt := { s.pkt with tx := s.pkt.tx.filter (fun y => !behind y) }
    chanQ := back.map (fun (y : TxFrame) => y.src) ++ s.chanQ }.cnt CKP_STATUS CKP_STATUS_GATED back.length

/-! ### Shapers (R255, R257) -/

def arbShaper : Nat := 8

/-- The oldest frame of a channel past the channel stage. -/
def State.txHead (s : State) (chan : Nat) : Option TxFrame := s.pkt.tx.find? (fun x => x.src.chan == chan)

/-- The users that ask a shaper for a token: channel n as user n, a transmit queue as 4,096 plus its number. -/
def State.shaperUsers (s : State) (i : Nat) : List Nat :=
  let asks (c : Nat) : Bool := match s.txHead c with
    | some x => x.shaper == some i && !x.token
    | none => false
  let queued (e : Nat × IQueue) : Bool :=
    e.2.kind == .transmit && e.2.qshEn && e.2.qshaper == i && !e.2.qtoken && decide (0 < e.2.posted) && s.iqFetches e.2
  ((s.pkt.tx.map (·.src.chan)).eraseDups.filter asks) ++ (s.iq.filter queued).map (fun e => 4096 + e.1 % 2 ^ 16)

/-- A user's next frame holds a token. -/
def State.giveToken (s : State) (u : Nat) : State :=
  if u < 4096 then
    match s.txHead u with
    | some x => s.keepTx x { x with token := true }
    | none => s
  else
    let key := qkey .transmit (u - 4096)
    match s.iqAt key with
    | some q => s.setIq key { q with qtoken := true }
    | none => s

/-- Cycles of the I/O-die clock in which user `u` asks: each grants at most one token, to the winner of one draw among all
that ask, with equal tickets, until `u` has one or none is left (R257). A shaper that is not enabled passes every packet.
(Log entry 116: DEDUCED, unsafe.) -/
def State.askShaper (i u : Nat) : Nat → State → State
  | 0, s => s
  | k + 1, s =>
    if !(s.bucket false i).cfg.en then s.giveToken u
    else if !(s.shaperUsers i).contains u || !((s.bucket false i).take).1 then s
    else match s.drawNow (arbId arbShaper i) 256 ((s.shaperUsers i).map (fun v => (v, 1))) with
      | (none, s) => s
      | (some w, s) => State.askShaper i u k ((s.setBucket false i ((s.bucket false i).take).2).giveToken w)

/-- A frame that has its token passes the gate and MACsec and starts on its port. -/
def State.txStart (s : State) (x : TxFrame) : State :=
  if !s.ethReady x.port x.prio true x.bytes.length || !s.mayStartOther x.port (s.ethSer x.port x.bytes.length) then s
  else if x.src.record && s.leaseLapsed then s.gateTx x
  else match s.sendEth x.port x.prio x.bytes with
    | (false, s) => s
    | (true, s) => s.dropTx x

/-- FRAME_START: the oldest frame of a channel past the channel stage takes its token, passes the gate and MACsec, and
starts on its port. A token record whose lease has lapsed goes back to the head of its source (R459). -/
def execFrameStart (chan : BitVec 12) (s : State) : Res :=
  let c := chan.toNat
  let s := match s.txHead c with
    | some x => onSome x.shaper s fun i => State.askShaper i c (s.shaperUsers i).length s
    | none => s
  match s.txHead c with
  | some x => ok (if x.token then s.txStart x else s)
  | none => ok s

/-! ### Registers (R280) -/

/-- PKT_CTL. -/
def writePktCtl (q : Requester) (v : W32) (s : State) : State :=
  if !coreWrites q then s
  else
    let s := s.sf PKT_CTL PKT_CTL_RXWAIT (bitsOf v.toNat 8 8)
    if bitAt v.toNat 0 then
      if s.bit PKT_CTL PKT_CTL_EN then s
      else if inHbm (s.gf PKT_CNT_BASE PKT_CNT_BASE_BASE <<< 20) (65536 * 16) then (s.sf PKT_CTL PKT_CTL_EN 1).pktRefusal 0
      else s.pktRefusal 0x06B0
    else s.sf PKT_CTL PKT_CTL_EN 0
def execPktEnSet (q : Requester) (v : W32) (s : State) : Res := ok (writePktCtl q (v ||| 1#32) s)

def State.bankBase (s : State) (i : Nat) : Nat := s.gf (PKT_BANK_BASE i) PKT_BANK_BASE_BASE <<< 12
def State.swapPending (s : State) : Bool := s.bit PKT_SWAP PKT_SWAP_PENDING

/-- A bank base: writable for the inactive bank while no swap is pending. -/
def writePktBankBase (q : Requester) (i : Nat) (hi : Bool) (v : W32) (s : State) : State :=
  if !coreWrites q || s.swapPending || i == s.activeBank then s
  else s.wr (PKT_BANK_BASE i + (if hi then 4 else 0)) (v &&& (if hi then 0x000FFFFF#32 else 0xFFFFF000#32))

/-- Check the inactive bank's image and start its copy (R264): the refusal code, if any. -/
def State.startSwap (s : State) : Option Nat × State :=
  let i := 1 - s.activeBank
  let img := s.readBank (s.bankBase i)
  let s := (s.load (s.bankBase i) 64).2.2
  let s := (s.load (s.bankBase i) (((sectionOffsets (bankSections img.head) 64).getLast?).getD 64)).2.2
  let s' := (s.pktRefusal 0).sf PKT_SWAP PKT_SWAP_PENDING 1
  onSome (s.bankCheck (s.bankBase i)) (none, { s' with pkt := { s'.pkt with swap := some img } })
    (fun c => (some c, s.pktRefusal c))

def writePktSwap (q : Requester) (v : W32) (s : State) : State :=
  if !coreWrites q || !bitAt v.toNat 31 || s.swapPending || s.blockDown 13 then s else (s.startSwap).2
def execSwap (q : Requester) (v : W32) (s : State) : Res := ok (writePktSwap q (v ||| 0x80000000#32) s)

/-- The copy is on die: ACTIVE names the new bank; its cached exact entries are those of no earlier image. -/
def State.finishSwap (s : State) : State :=
  match s.pkt.swap with
  | none => s
  | some img =>
    let i := 1 - s.activeBank
    let s := { s with pkt := { s.pkt with
      swap := none, banks := s.pkt.banks.set i (some img), cache := s.pkt.cache.filter (fun e => e.1.1 != i) } }
    (s.sf PKT_SWAP PKT_SWAP_ACTIVE i).sf PKT_SWAP PKT_SWAP_PENDING 0
def execSwapDone (s : State) : Res := ok s.finishSwap

/-- PKT_EXACT_INVAL (R265). (Log entry 121: DEDUCED, unsafe.) -/
def writePktExactInval (q : Requester) (v : W32) (s : State) : State :=
  if !coreWrites q || s.bit PKT_EXACT_INVAL PKT_EXACT_INVAL_BUSY then s
  else
    let bank := bitsOf v.toNat 29 1
    let t := bitsOf v.toNat 26 3
    let e := v.toNat % 2 ^ 23
    let s := s.wr PKT_EXACT_INVAL (v &&& 0x3C7FFFFF#32)
    let gone (x : (Nat × Nat × Nat) × List Byte) : Bool := bitAt v.toNat 30 || x.1 == (bank, t, e)
    { s with pkt := { s.pkt with cache := s.pkt.cache.filter (fun x => !gone x) } }
def execPktExactInval (q : Requester) (v : W32) (s : State) : Res := ok (writePktExactInval q v s)

/-- PKT_MSEC_CTL (R280): EN and PROTECT set run the check 0x06B6. -/
def writePktMsecCtl (q : Requester) (p : Nat) (v : W32) (s : State) : State :=
  if !coreWrites q then s
  else
    let o := PKT_MSEC_CTL p
    let s := s.sf o PKT_MSEC_CTL_VALIDATE (bitsOf v.toNat 28 2)
    let s := if bitAt v.toNat 25 then s.sf o PKT_MSEC_CTL_REKEY 0 else s
    let one (f : Fd) (b : Bool) (bad : Bool) (s : State) : State :=
      if !b then s.sf o f 0
      else if s.bit o f then s
      else if bad then s.pktRefusal 0x06B6
      else (s.sf o f 1).pktRefusal 0
    let s := one PKT_MSEC_CTL_EN (bitAt v.toNat 31) (!s.isEth p) s
    one PKT_MSEC_CTL_PROTECT (bitAt v.toNat 30) (!s.isEth p || (s.txSa p).isNone) s
def execMacsecEnable (q : Requester) (port : Fin 8) (v : W32) (s : State) : Res := ok (writePktMsecCtl q port v s)

def writePktCntBase (q : Requester) (hi : Bool) (v : W32) (s : State) : State :=
  if !coreWrites q || s.bit PKT_CTL PKT_CTL_EN then s
  else s.wr (PKT_CNT_BASE + (if hi then 4 else 0)) (v &&& (if hi then 0x000FFFFF#32 else 0xFFF00000#32))

/-! ### Syncen operations (R281) -/

def domPkt : Option Nat := some 12

/-- SYN_PKT_BANK_COMMIT: firmware writes the inactive base and SWAP, and answers when the copy has ended. (Log entry
121: DEDUCED, unsafe.) -/
def execSynPktBankCommit (r : SynReq) (addr : BitVec 52) (s : State) : Res :=
  ok (s.syn 0x0B00 domPkt r fun s =>
    if s.swapPending then refuse s 0x0201
    else
      let i := 1 - s.activeBank
      let s := s.wr64 (PKT_BANK_BASE i) (addr.toNat / 4096 * 4096)
      match s.startSwap with
      | (some c, s) => refuse s c
      | (none, s) =>
        let s := s.finishSwap
        success s (leBytes 1 s.activeBank))

/-- The exact table of a bank that a request names. -/
def State.exactTable (s : State) (bank table : Nat) (key : List Byte) : Option (List Byte) :=
  (s.bankAt bank).bind (fun b => (b.tables[table]?).bind (fun t =>
    if ptValid t && !ptTernary t && decide (key.length ≤ ptKeyBytes t) then some t else none))

/-- Write an exact entry in HBM and invalidate its cached copy (R265). -/
def State.putExact (s : State) (bank table i : Nat) (t e : List Byte) : State :=
  let s := s.poke (ptBase t + i * 64) e
  { s with pkt := { s.pkt with cache := s.pkt.cache.filter (fun x => x.1 != (bank, table, i)) } }

/-- SYN_PKT_EXACT_SET. -/
def execSynPktExactSet (r : SynReq) (bank : Fin 2) (table : Byte) (key : List Byte) (list : BitVec 12) (s : State) : Res :=
  ok (s.syn 0x0B01 domPkt r fun s =>
    match s.exactTable bank table.toNat key with
    | none => refuse s 0x0102
    | some t =>
      let lists := match s.bankAt bank with | some b => b.lists.length | none => 0
      let k := fit (ptKeyBytes t) key
      let bkt := exactBucket t k
      let es := (List.range 4).map (fun i => s.bytes (ptBase t + (bkt * 4 + i) * 64) 64)
      let same := es.findIdx? (fun e => fieldLE e 32 1 % 2 == 1 && e.take (ptKeyBytes t) == k)
      let free := es.findIdx? (fun e => fieldLE e 32 1 % 2 == 0)
      if list.toNat ≥ lists then refuse s 0x0102
      else match same <|> free with
        | none => refuse s 0x0307
        | some i => success (s.putExact bank table.toNat (bkt * 4 + i) t
            (fit 64 (fit 32 k ++ [1, 0, 0, 0] ++ leBytes 2 list.toNat))))

/-- SYN_PKT_EXACT_DEL. (Log entry 127: DESIGN CHOICE, safe.) -/
def execSynPktExactDel (r : SynReq) (bank : Fin 2) (table : Byte) (key : List Byte) (s : State) : Res :=
  ok (s.syn 0x0B02 domPkt r fun s =>
    match s.exactTable bank table.toNat key with
    | none => refuse s.tick (s.fresh 16).toNat
    | some t =>
      let k := fit (ptKeyBytes t) key
      let bkt := exactBucket t k
      let es := (List.range 4).map (fun i => s.bytes (ptBase t + (bkt * 4 + i) * 64) 64)
      match es.findIdx? (fun e => fieldLE e 32 1 % 2 == 1 && e.take (ptKeyBytes t) == k) with
      | none => refuse s 0x0103
      | some i => success (s.putExact bank table.toNat (bkt * 4 + i) t (List.replicate 64 0)))

/-- SYN_PKT_COUNTER_READ. (Log entry 128: DEDUCED, unsafe.) -/
def execSynPktCounterRead (r : SynReq) (first : W16) (count : Fin 257) (s : State) : Res :=
  ok (s.syn 0x0B03 domPkt r fun s =>
    success s (s.bytes ((s.gf PKT_CNT_BASE PKT_CNT_BASE_BASE <<< 20) + first.toNat * 16)
      (16 * min count.val (65536 - first.toNat))))

/-- SYN_PKT_MACSEC_SA_SET. -/
def execSynPktMacsecSaSet (r : SynReq) (m : MsecSpec) (s : State) : Res :=
  ok (s.syn 0x0B04 domPkt r fun s =>
    let p := m.port.val
    let x := s.msecOf p
    let a : MsecSa := ⟨m.slot.toNat, m.ssci.toNat, fit 12 m.salt, m.pn.toNat, m.pn.toNat⟩
    let scs := (x.rx.map (·.1)).eraseDups
    if !s.slotUsable m.slot.toNat 3 ownerInternal then refuse s 0x0401
    else if m.tx then success (s.setMsec p { x with sci := m.sci.toNat, tx := Tab.insert x.tx m.an.val a })
    else if !scs.contains m.sci.toNat && scs.length ≥ 32 then refuse s 0x0308
    else success (s.setMsec p { x with
      rx := x.rx.filter (fun e => !(e.1 == m.sci.toNat && e.2.1 == m.an.val)) ++ [(m.sci.toNat, m.an.val, a)] }))

/-- SYN_PKT_MACSEC_TX_SWITCH. -/
def execSynPktMacsecTxSwitch (r : SynReq) (port : Fin 8) (s : State) : Res :=
  ok (s.syn 0x0B05 domPkt r fun s =>
    let an := (s.txAnOf port + 1) % 4
    if !(s.msecOf port).tx.any (fun e => e.1 == an) then refuse s 0x0209
    else success ((s.sf (PKT_MSEC_CTL port) PKT_MSEC_CTL_TX_AN an).sf (PKT_MSEC_CTL port) PKT_MSEC_CTL_EXHAUSTED 0))

/-- SYN_PKT_QUERY. (Log entry 128: DEDUCED, unsafe.) -/
def execSynPktQuery (r : SynReq) (s : State) : Res :=
  ok (s.syn 0x0B06 domPkt r fun s =>
    success s (leBytes 4 (s.rd PKT_SWAP).toNat ++ leBytes 4 (s.rd PKT_FRAG_CTL).toNat ++ leBytes 8 (s.rd64 PKT_EVENTS)
      ++ leBytes 4 (s.rd PKT_EVENTS2).toNat
      ++ (List.range 8).flatMap (fun p => leBytes 4 (s.rd (PKT_MSEC_CTL p)).toNat)))

end Sys2Proof.Machine
end

