-- ==== Sys2Proof/Machine/Storage.lean ====
section
/-! DEFINITION. The storage commands: doorbells, command fetch, the five command kinds, backings, the STO registers
and Syncen opcodes 0x0C00 to 0x0C0B (13_storage_queues.md R282 to R299). -/

namespace Sys2Proof.Machine

/-! ### Doorbells (R284, R348) -/

/-- The storage block takes work: enabled, and its FLT_BLOCKS line not latched (R425). -/
def State.stoEn (s : State) : Bool := s.bit STO_CTL STO_CTL_EN && !s.blockDown 14

def State.submissionDoorbell (i ix v : Nat) (s : State) : State :=
  if !s.pageOpen i then s
  else match s.stoQAt i ix with
    | none => s.stray i
    | some (n, q) =>
      if (v % 2 ^ 16 + 2 ^ 16 - q.head) % 2 ^ 16 > 2 ^ q.log2n then
        (s.stoLog n ⟨0, 0xFFFF, 2, 0, 0, 0, 0, 0, 0⟩).2.stoFreeze n 2
      else s.setStoQ n { q with tail := v % 2 ^ 16 }

def execSubmissionDoorbell (i : Fin 2048) (ix : Fin 64) (v : W32) (s : State) : Res :=
  ok (s.submissionDoorbell i.val ix.val v.toNat)

def State.completionDoorbell (i ix v : Nat) (s : State) : State :=
  if !s.pageOpen i then s
  else match s.stoQAt i ix with
    | none => s.stray i
    | some (n, q) => s.setStoQ n { q with cqHead := v % 2 ^ 16 }

def execCompletionDoorbell (i : Fin 2048) (ix : Fin 64) (v : W32) (s : State) : Res :=
  ok (s.completionDoorbell i.val ix.val v.toNat)

/-! ### Fetch (R285, R287) -/

/-- A queue may fetch: ACTIVE, of an ENABLED instance, with an unfetched entry and room under MAXINFL. -/
def State.stoEligible (s : State) (n : Nat) (q : StoQ) : Bool :=
  q.state == .active && q.deleting.isNone && (s.instOf q.inst).state == .enabled
    && q.tail != q.head && decide (s.stoOut n < q.maxinfl)

/-- The submission entry's own checks (R289): opcode, BLOCKS and NSEG. -/
def stoEntryStatus (e : List Byte) : Nat :=
  let op := fieldLE e 0 1
  let dlist := bitAt (fieldLE e 1 1) 1
  if !([0, 1, 2, 8, 9].contains op) then 1
  else if op = 0 then 0
  else if fieldLE e 16 4 = 0 ∨ fieldLE e 16 4 > 4096 then 2
  else if (op = 1 ∨ op = 2) ∧ dlist ∧ (wordFd e 8 0 9 = 0 ∨ wordFd e 8 0 9 > 256) then 2
  else 0

/-- The fetched command of an entry, with its range-lock entry; a FLUSH records the writes it waits for. -/
def State.stoTake (s : State) (n : Nat) (q : StoQ) (e : List Byte) : State :=
  let op := fieldLE e 0 1
  let st := stoEntryStatus e
  let head := (q.head + 1) % 2 ^ 16
  let waits := if op = 0 then
      (s.sto.cmds.filter (fun c => c.q == n && c.inst == q.inst && c.gen == (s.instOf q.inst).gen
        && (c.op == 1 || c.op == 8 || c.op == 9))).map (·.id)
    else []
  let c : StoCmd :=
    { id := s.sto.nextCmd, q := n, inst := q.inst, gen := (s.instOf q.inst).gen, sqhd := head, cid := fieldLE e 2 2
      op := op, fua := bitAt (fieldLE e 1 1) 0, dlist := bitAt (fieldLE e 1 1) 1, volume := wordFd e 1 0 10
      lba := fieldLE e 8 8, blocks := fieldLE e 16 4, dptr := fieldLE e 24 8, nseg := wordFd e 8 0 9
      lock := st == 0 && op != 0, phase := .waiting, status := 0, nvme := 0, backing := 0, parts := [], segs := []
      waits := waits, bad := false, stamp := 0, hostDown := false, slot := none }
  let s := s.setStoQ n { q with head := head }
  let s := { s with sto := { s.sto with cmds := s.sto.cmds ++ [c], nextCmd := s.sto.nextCmd + 1 } }
  if st = 0 then s.showLocks else s.stoMoved c st

/-- One command fetched per cycle, by a lottery over TICKETS (R285); none while all 4,096 entries are held. A queue
address not translated freezes the queue. (Log entry 132: DEDUCED, unsafe.) -/
def execCommandFetch (gap : Nat) (out : DmaOut) (s : State) : Res :=
  if !s.stoEn || !s.hostUp || decide (s.locksHeld ≥ 4096) then ok s
  else
    let reqs := (s.sto.queues.filter (fun e => s.stoEligible e.1 e.2)).map (fun e => (e.1, e.2.tickets))
    if reqs.isEmpty then ok s
    else
      let (w, s) := s.draw (arbId 7 0) 256 gap reqs
      match w with
      | none => ok s
      | some n =>
        match s.stoQ n with
        | none => ok s
        | some q =>
          match out with
          | .ok => ok (s.stoTake n q (s.hostBytes (s.instPasid q.inst) (q.sq + q.head % 2 ^ q.log2n * 64) 64))
          | .untranslated => ok ((s.stoLog n ⟨0, 0xFFFF, 0x10, 0, 0, 0, 0, 0, 0⟩).2.stoFreeze n 0x10)
          | .mastering => ok ((s.stoLog n ⟨0, 0xFFFF, 0x11, 0, 0, 0, 0, 0, 0⟩).2.stoFreeze n 0x11)
          | .poisoned => ok ((s.stoLog n ⟨0, 0xFFFF, 0x54, 0, 0, 0, 0, 0, 0⟩).2.stoFreeze n 0x54)

/-! ### Starting a command -/

/-- VOLUME and LBA_RANGE (R289). -/
def State.stoVolStatus (s : State) (c : StoCmd) : Nat :=
  let r := s.volRec c.volume
  if !volValid r || volOwner r != c.inst || (c.op != 2 && !volWr r) then 0x50
  else if c.lba + c.blocks > volBlocks r then 0x51
  else 0

/-- The data buffer's segments (R284): the segment list in host memory, or one range. -/
def State.stoSegs (s : State) (c : StoCmd) : List (Nat × Nat) :=
  if c.dlist then
    (List.range c.nseg).map (fun k =>
      let b := s.hostBytes (s.instPasid c.inst) (c.dptr + k * 16) 16
      (fieldLE b 0 8, fieldLE b 8 4))
  else [(c.dptr, c.blocks * 4096)]

def segBytes (l : List (Nat × Nat)) : Nat := l.foldl (fun n x => n + x.2) 0

/-- The bytes of a segment list, in order. -/
def State.segRead (s : State) (i : Nat) (l : List (Nat × Nat)) : List Byte :=
  (l.map (fun x => s.hostBytes (s.instPasid i) x.1 x.2)).flatten

/-- Write bytes at an offset of the buffer a segment list describes. -/
def State.segWrite (i : Nat) : List (Nat × Nat) → Nat → List Byte → State → State
  | [], _, _, s => s
  | (a, n) :: l, off, bs, s =>
    if off ≥ n then State.segWrite i l (off - n) bs s
    else State.segWrite i l 0 (bs.drop (n - off)) (s.instWrite i (a + off) (bs.take (n - off)))

/-- The parts of a range for a backing's largest transfer (R296). -/
def splitParts (b nsid mdts : Nat) : Nat → Nat → Nat → Nat → List StoPart
  | 0, _, _, _ => []
  | fuel + 1, n, off, left =>
    if left = 0 then []
    else
      let k := min left (max 1 mdts)
      ⟨n, b, nsid, off, k⟩ :: splitParts b nsid mdts fuel (n + 1) (off + k) (left - k)

/-- AES-XTS over consecutive 4,096-byte data units (R283, R313). -/
def xtsUnits (enc : Bool) (key : List Byte) : Nat → Nat → List Byte → List Byte
  | 0, _, _ => []
  | k + 1, unit, bs =>
    let u := fit 4096 (bs.take 4096)
    fit 4096 (if enc then Config.xtsEncrypt key unit u else Config.xtsDecrypt key unit u)
      ++ xtsUnits enc key k (unit + 1) (bs.drop 4096)

/-- Issue a command's parts to its backing: the data of the whole range goes with a write. (Log entries 133: DEDUCED,
unsafe; 138: DEDUCED, unsafe.) -/
def State.stoIssue (s : State) (c : StoCmd) (op : Nat) (split : Bool) (data : List Byte) : State :=
  let r := s.volRec c.volume
  let b := volBacking r
  if !(s.backing b).ready then s.stoMoved { c with backing := b } 0x53
  else
    let parts := if split then splitParts b (volNsid r) (s.backing b).mdts c.blocks 0 0 c.blocks
      else [⟨0, b, volNsid r, 0, c.blocks⟩]
    let s := parts.foldl (fun (s : State) p =>
      s.emit (.nvme b p.nsid op [volStart r + c.lba + p.off, p.blocks, b2n c.fua]
        ((data.drop (p.off * 4096)).take (p.blocks * 4096)))) s
    let s := (s.setStoCmd { c with phase := .running, parts := parts, backing := b }).showDrives
    if c.op = 2 then s
    else
      let s := { s with sto := { s.sto with stamp := s.sto.stamp + 1 } }
      match s.stoQ c.q with
      | some q =>
        if s.stoLive c then
          s.setStoQ c.q { q with wrote :=
            (b, volNsid r, s.sto.stamp) :: q.wrote.filter (fun w => !(w.1 == b && w.2.1 == volNsid r)) }
        else s
      | none => s

/-- The key of an XTS volume (R307, R309): the outer none says the use waits for a pending load, the inner none that
the slot is refused. -/
def State.stoKey (s : State) (r : List Byte) : Option (Option (List Byte)) :=
  if s.slotPending (volSlot r) then none
  else if s.slotUsable (volSlot r) 4 (volOwner r) then some (some (fit 64 (s.slotOf (volSlot r)).key))
  else some none

/-- A command that moves data starts: volume, range, key, then its own transfer. (Log entries 133: DEDUCED, unsafe;
134: DEDUCED, safe.) -/
def State.stoStart (s : State) (id op : Nat) (f : State → StoCmd → Option (List Byte) → State) : State :=
  match s.stoCmd id with
  | some c =>
    if c.op != op || !s.stoMayStart c then s
    else
      let st := s.stoVolStatus c
      let r := s.volRec c.volume
      if st != 0 then s.stoMoved c st
      else if volXts r && op != 9 then
        match s.stoKey r with
        | none => s
        | some none => s.tick.stoMoved c (s.fresh 16).toNat
        | some (some k) => f s { c with slot := some (volSlot r) } (some k)
      else f s c none
  | none => s

/-- The volume block's data unit number (R283). -/
def State.stoUnit (s : State) (c : StoCmd) (off : Nat) : Nat := volTweak (s.volRec c.volume) + c.lba + off

/-- The buffer of a READ or WRITE that starts: host memory reachable and translated, the segment list in order. (Log
entry 133: DEDUCED, unsafe.) -/
def State.stoBuffer (s : State) (c : StoCmd) (out : DmaOut) : Nat ⊕ List (Nat × Nat) :=
  if !s.hostUp || c.hostDown || out = .mastering then .inl 0x11
  else if out = .untranslated then .inl 0x10
  else if segBytes (s.stoSegs c) != c.blocks * 4096 then .inl 2
  else .inr (s.stoSegs c)

def execStorageWrite (id : Nat) (out : DmaOut) (s : State) : Res :=
  ok (s.stoStart id 1 (fun s c key =>
    match s.stoBuffer c out with
    | .inl st => s.stoMoved c st
    | .inr segs =>
      if out = .poisoned then s.stoMoved c 0x54
      else
        let data := s.segRead c.inst segs
        let data := match key with
          | some k => xtsUnits true k c.blocks (s.stoUnit c 0) data
          | none => data
        s.stoIssue c 1 true data))

def execStorageRead (id : Nat) (out : DmaOut) (s : State) : Res :=
  ok (s.stoStart id 2 (fun s c _ =>
    match s.stoBuffer c out with
    | .inl st => s.stoMoved c st
    | .inr segs => s.stoIssue { c with segs := segs } 2 true []))

/-- WRITE_ZEROES on an XTS volume goes to the backing as a write of encrypted zeros (R283). -/
def execWriteZeroes (id : Nat) (s : State) : Res :=
  ok (s.stoStart id 8 (fun s c key =>
    match key with
    | some k => s.stoIssue c 1 true (xtsUnits true k c.blocks (s.stoUnit c 0) [])
    | none => s.stoIssue c 8 false []))

/-- DEALLOCATE passes to the backing as Dataset Management (R297). -/
def execDeallocate (id : Nat) (s : State) : Res := ok (s.stoStart id 9 (fun s c _ => s.stoIssue c 9 false []))

/-- FLUSH (R288): once the writes fetched earlier have completed, an NVMe Flush goes to each namespace the queue wrote
whose controller has a volatile write cache; with none to send it completes. -/
def execFlush (id : Nat) (s : State) : Res :=
  match s.stoCmd id with
  | some c =>
    if c.op != 0 || c.phase != .waiting || !c.waits.isEmpty then ok s
    else
      let wrote := match s.stoQ c.q with
        | some q => if s.stoLive c then q.wrote else []
        | none => []
      let due := wrote.filter (fun w => (s.backing w.1).vwc || !(s.backing w.1).ready)
      let up := due.filter (fun w => (s.backing w.1).ready)
      let parts := (List.range up.length).zip up |>.map (fun x => (⟨x.1, x.2.1, x.2.2.1, 0, 0⟩ : StoPart))
      let c := { c with
        phase := .running, parts := parts, stamp := s.sto.stamp, bad := c.bad || decide (up.length < due.length) }
      let s := parts.foldl (fun (s : State) p => s.emit (.nvme p.backing p.nsid 0 [] [])) s
      if parts.isEmpty then ok (s.stoPartsDone c) else ok (s.setStoCmd c).showDrives
  | none => ok s

/-- A range-lock entry is released when data movement has finished, before the completion is written (R287). -/
def execLockRelease (id : Nat) (s : State) : Res :=
  match s.stoCmd id with
  | some c => if c.phase = .moved ∧ c.lock then ok ((s.setStoCmd { c with lock := false }).stoComplete { c with lock := false }) else ok s
  | none => ok s

/-- A part of a command is done: with the last one its data movement ends. -/
def State.partDone (s : State) (c : StoCmd) : State :=
  if c.parts.isEmpty then s.stoPartsDone c else (s.setStoCmd c).showDrives

/-- A READ's part: the backing's data, decrypted, goes to the segments. (Log entry 138: DEDUCED, unsafe.) -/
def State.partRead (s : State) (c : StoCmd) (p : StoPart) (data : List Byte) (out : DmaOut) : State :=
  if c.hostDown || !s.hostUp || out = .mastering then s.partDone { c with hostDown := true }
  else if !s.stoLive c then s.partDone c
  else if out = .untranslated then s.partDone (if c.status = 0 ∨ c.status = 0x12 then { c with status := 0x10 } else c)
  else
    let bs := fit (p.blocks * 4096) data
    let bs := match c.slot with
      | some k => xtsUnits false (fit 64 (s.slotOf k).key) p.blocks (s.stoUnit c p.off) bs
      | none => bs
    (State.segWrite c.inst c.segs (p.off * 4096) bs s).partDone
      (if out = .poisoned ∧ c.status = 0 then { c with status := 0x12 } else c)

/-- A part of a command ended at its drive with a status. -/
def State.partEnd (s : State) (c : StoCmd) (p : StoPart) (status : W16) (data : List Byte) (out : DmaOut) : State :=
  let c := { c with parts := c.parts.filter (fun x => x.n != p.n) }
  if c.op = 0 then s.partDone { c with bad := c.bad || status != 0 }
  else if status ≠ 0 then
    s.partDone (if c.status = 0 ∨ c.status = 0x12 then { c with status := 0x52, nvme := status.toNat } else c)
  else if c.op ≠ 2 then s.partDone c
  else s.partRead c p data out

/-- A drive or remote target completes one part (R285, R288, R289, R296): the NVMe status (0 for success), and for a
READ the part's data with how its delivery to host memory ended. The first failing part's status is the command's; the
command's data movement ends with its last part. (Log entry 135: DEDUCED, unsafe.) -/
def execBackingCompletion (id part : Nat) (status : W16) (data : List Byte) (out : DmaOut) (s : State) : Res :=
  match s.stoCmd id with
  | some c =>
    match c.parts.find? (fun p => p.n == part) with
    | some p => ok (s.partEnd c p status data out)
    | none => ok s
  | none => ok s

/-- A completion that waits for room is written (R285); one whose queue address is not translated is lost, logged, and
freezes the queue. (Log entry 132: DEDUCED, unsafe.) -/
def execStorageCompletionWrite (q : Fin 4096) (out : DmaOut) (s : State) : Res :=
  match out, s.stoQ q.val with
  | .untranslated, some x =>
    match x.owed with
    | _ :: rest =>
      if x.state != .quiesced && s.hostUp && x.room then
        ok ((((s.setStoQ q.val { x with owed := rest }).stoLog q.val ⟨0, 0xFFFF, 0x10, 0, 0, 0, 0, 0, 0⟩).2.stoFreeze
          q.val 0x10).stoReap q.val)
      else ok s
    | [] => ok s
  | _, _ => ok ((s.stoWrite1 q.val).stoReap q.val)

/-- COAL_US after the first unsignalled entry the queue's message goes (R285); a µs is 156.25 cycles. -/
def execCoalescingTimeout (q : Fin 4096) (s : State) : Res :=
  match s.stoQ q.val with
  | some x => if (s.clock - x.pendAt) * 64 ≥ x.coalUs * 10000 ∧ x.state ≠ .quiesced then ok (s.stoSignal q.val) else ok s
  | none => ok s

/-- Keep Alive to a remote controller every 5 s (R297). (Log entry 139: DEDUCED, unsafe.) -/
def execKeepAlive (c : Fin 64) (s : State) : Res :=
  let b := 0x10 + c.val
  if (s.backing b).ready ∧ s.clock - (s.backing b).kaAt ≥ 781250000 then
    ok ((s.setBacking b { s.backing b with kaAt := s.clock }).emit (.nvme b 0 0x18 [] []))
  else ok s

/-! ### The STO registers (R298) -/

/-- 0x06C0: the staging area and volume table in HBM, apart, and MIB from 16 to 4,096. -/
def State.stoCheck (s : State) : Option Nat :=
  let base := s.gf STO_STAGE_BASE STO_STAGE_BASE_BASE <<< 16
  let n := s.gf STO_STAGE_SIZE STO_STAGE_SIZE_MIB * 2 ^ 20
  let vol := s.volAddr 0
  if n < 16 * 2 ^ 20 || n > 4096 * 2 ^ 20 || !inHbm base n || !inHbm vol 65536 || overlaps base n vol 65536 then some 0x06C0
  else none

/-- Record a configuration-consistency code in STO_CTL.REFUSAL; zero for an accepted one. -/
def State.stoRefusal (s : State) (c : Nat) : State := s.sf STO_CTL STO_CTL_REFUSAL c

def writeStoCtl (q : Requester) (v : W32) (s : State) : State :=
  if !coreWrites q then s
  else if bitAt v.toNat 0 then
    if s.bit STO_CTL STO_CTL_EN then s
    else match s.stoCheck with
      | some c => s.stoRefusal c
      | none => (s.stoRefusal 0).sf STO_CTL STO_CTL_EN 1
  else if s.sto.queues.isEmpty then s.sf STO_CTL STO_CTL_EN 0
  else s

def execStoEnSet (q : Requester) (v : W32) (s : State) : Res := ok (writeStoCtl q (v ||| 1#32) s)

/-- Base and size registers: no effect while EN is one. `mask` keeps the writable bits. -/
def writeStoBase (q : Requester) (off : Nat) (mask v : W32) (s : State) : State :=
  if !coreWrites q || s.bit STO_CTL STO_CTL_EN then s else s.wr off (v &&& mask)

/-! ### Syncen operations (R299) -/

/-- Local indices of an instance's storage queues, and the lowest free one (R347). -/
def lowestFree (used : List Nat) : Option Nat := (List.range 64).find? (fun k => !used.contains k)

def State.stoQueueCheck (s : State) (i : Nat) (p : StoQueueSpec) : Option Nat :=
  let n := 2 ^ p.log2n.toNat
  let mine := (s.sto.queues.filter (fun e => e.2.inst == i)).length
  if p.log2n.toNat < 4 || p.log2n.toNat > 12 || !aligned 4096 p.sq.toNat || !aligned 4096 p.cq.toNat
      || overlaps p.sq.toNat (n * 64) p.cq.toNat (n * 16) then some 0x06C1
  else if (s.instOf i).state != .enabled || decide (p.vector.toNat < (s.instOf i).vecFirst)
      || decide (p.vector.toNat ≥ (s.instOf i).vecFirst + (s.instOf i).vecCount)
      || p.maxinfl.toNat < 1 || p.maxinfl.toNat > 256 || !s.bit STO_CTL STO_CTL_EN then some 0x06C2
  else if mine ≥ ((s.instOf i).maxq[0]?.getD 0) then some 0x06F3
  else none

/-- Domain of a storage request (R376): even queues in 10, odd in 11; volumes, drives and targets in 10. -/
def domSto (q : Nat) : Option Nat := some (10 + q % 2)

/-- (Log entries 130: DESIGN CHOICE, safe; 136: DEDUCED, safe; 137: DEDUCED, unsafe.) -/
def execSynStoQueueCreate (r : SynReq) (spec : StoQueueSpec) (s : State) : Res :=
  let i := synInst r
  ok (s.syn 0x0C00 (domSto 0) r (fun s =>
    if i ≥ 2048 then refuseFree s
    else if !s.ownsInst r i then refuse s 0x0407
    else match s.stoQueueCheck i spec with
      | some c => refuse (s.stoRefusal c) c
      | none =>
        let pick := match spec.queue with
          | some n => if (s.stoQ n.val).isSome then none else some n.val
          | none => (List.range 4096).find? (fun n => (s.stoQ n).isNone)
        match pick, lowestFree ((s.sto.queues.filter (fun e => e.2.inst == i)).map (·.2.localIx)) with
        | some n, some ix =>
          let q : StoQ :=
            { inst := i, localIx := ix, sq := spec.sq.toNat, cq := spec.cq.toNat, log2n := spec.log2n.toNat
              vector := spec.vector.toNat, coalCount := spec.coalCount.toNat, coalUs := spec.coalUs.toNat
              tickets := spec.tickets.toNat, maxinfl := spec.maxinfl.toNat, state := .active, prior := .active
              deleting := none, tail := 0, head := 0, cqTail := 0, cqHead := 0, pend := 0, pendAt := 0, owed := []
              errSeq := (s.fresh 32).toNat, errs := [], wrote := [] }
          success ((s.tick.stoRefusal 0).setStoQ n q) (leBytes 2 n)
        | _, _ => refuse s 0x0301))

/-- The queue exists and the request's session owns its instance. (Log entry 137: DEDUCED, unsafe.) -/
def State.stoOwned (s : State) (r : SynReq) (n : Nat) : Nat ⊕ StoQ :=
  match s.stoQ n with
  | none => .inl 0x0201
  | some q =>
    match r.port with
    | .page i => if q.inst = i.val then .inr q else .inl 0x0407
    | .mailbox _ => if s.ownsInst r q.inst then .inr q else .inl 0x0407

def execSynStoQueueDelete (r : SynReq) (q : Fin 4096) (s : State) : Res :=
  ok (s.synLater 0x0C01 (domSto q.val) r (fun s =>
    match s.stoOwned r q.val with
    | .inl c => (s, some (c, []))
    | .inr x =>
      if x.deleting.isSome then (s, some (0x0201, []))
      else if s.stoOut q.val = 0 ∧ x.owed = [] then (s.dropStoQ q.val, some (0, []))
      else (s.setStoQ q.val { x with deleting := some r }, none)))

def execSynStoQueueRestart (r : SynReq) (q : Fin 4096) (s : State) : Res :=
  ok (s.syn 0x0C02 (domSto q.val) r (fun s =>
    match s.stoOwned r q.val with
    | .inl c => refuse s c
    | .inr x =>
      if x.state != .frozen then refuse s 0x0201
      else if s.stoOut q.val > 0 then refuse s 0x020A
      else success (s.setStoQ q.val { x with state := .active })))

/-- An error log entry as bytes (R290). (Log entry 131: DESIGN CHOICE, unsafe.) -/
def StoErr.bytes (n : Nat) (e : StoErr) : List Byte :=
  leBytes 4 e.seq ++ leBytes 2 n ++ leBytes 2 e.cid ++ leBytes 2 e.status ++ leBytes 2 e.volume ++ leBytes 8 e.lba
    ++ leBytes 4 e.blocks ++ leBytes 1 e.backing ++ leBytes 2 e.nvme ++ leBytes 8 e.time

def execSynStoErrlogRead (r : SynReq) (q : Fin 4096) (s : State) : Res :=
  ok (s.syn 0x0C03 (domSto q.val) r (fun s =>
    match s.stoOwned r q.val with
    | .inl c => refuse s c
    | .inr x => success s (x.errs.map (StoErr.bytes q.val)).flatten))

/-- Volume checks (R283, R298); a record whose change still waits counts as well as the one it replaces. -/
def State.stoVolCheck (s : State) (v : Nat) (rec_ : List Byte) : Option Nat :=
  if !volValid rec_ then none
  else
    let b := s.backing (volBacking rec_)
    let ns := b.nss.find? (fun n => n.1 == volNsid rec_)
    let covers (w : Nat) (o : List Byte) : Bool :=
      w != v && volValid o && volBacking o == volBacking rec_ && volNsid o == volNsid rec_
        && overlaps (volStart o) (volBlocks o) (volStart rec_) (volBlocks rec_) && (volWr o || volWr rec_)
    let knownBacking := volBacking rec_ < 4 || (decide (0x10 ≤ volBacking rec_) && decide (volBacking rec_ < 0x50))
    if !knownBacking || !b.ready || (match ns with
        | some n => !n.2.2 || decide (volStart rec_ + volBlocks rec_ > n.2.1)
        | none => true) then some 0x06C3
    else if volXts rec_ && (s.slotOf (volSlot rec_)).type != 4 then some 0x06C4
    else if (List.range 1024).any (fun w => covers w (s.volRec w))
        || s.sto.changes.any (fun x => covers x.volume (fit 64 x.record)) then some 0x06C5
    else none

/-- A change of a volume: at once on a volume that is not valid and has no earlier change waiting, else once the
commands already fetched for it have completed (R283, R299). -/
def State.stoChange (s : State) (r : SynReq) (opcode v : Nat) (rec_ : List Byte) : State × Option (Nat × List Byte) :=
  let busy := s.sto.changes.any (fun c => c.volume == v)
    || (volValid (s.volRec v) && s.sto.cmds.any (fun c => c.op != 0 && c.volume == v))
  if busy then
    ({ s with sto := { s.sto with changes := s.sto.changes ++ [⟨v, rec_, s.sto.nextCmd, r, opcode⟩] } }, none)
  else (s.poke (s.volAddr v) (fit 64 rec_), some (0, []))

def execSynStoVolumeSet (r : SynReq) (vol : Fin 1024) (record : List Byte) (s : State) : Res :=
  ok (s.synLater 0x0C04 (domSto 0) r (fun s =>
    let rec_ := fit 64 record
    match s.stoVolCheck vol.val rec_ with
    | some c => (s.stoRefusal c, some (c, []))
    | none =>
      if volValid rec_ && volXts rec_ && (s.slotOf (volSlot rec_)).owner != volOwner rec_ then (s, some (0x0401, []))
      else (s.stoRefusal 0).stoChange r 0x0C04 vol.val rec_))

def execSynStoVolumeDelete (r : SynReq) (vol : Fin 1024) (s : State) : Res :=
  ok (s.synLater 0x0C05 (domSto 0) r (fun s =>
    let old := s.volRec vol.val
    s.stoChange r 0x0C05 vol.val (putLE old 0 4 (bitsPut (fieldLE old 0 4) 0 1 0))))

/-- (Log entry 135: DEDUCED, unsafe.) -/
def execSynStoNsCreate (r : SynReq) (d : Fin 4) (blocks : BitVec 64) (nsid : Option W32) (s : State) : Res :=
  ok (s.syn 0x0C06 (domSto 0) r (fun s =>
    let b := s.backing d.val
    if !b.ready then refuseFree s
    else match nsid with
      | none => refuse s 0x0309
      | some n => success (s.setBacking d.val { b with
          nss := (n.toNat, blocks.toNat, true) :: b.nss.filter (fun x => x.1 != n.toNat) }) (leBytes 4 n.toNat)))

/-- (Log entry 136: DEDUCED, safe.) -/
def execSynStoNsDelete (r : SynReq) (d : Fin 4) (nsid : W32) (s : State) : Res :=
  ok (s.syn 0x0C07 (domSto 0) r (fun s =>
    let b := s.backing d.val
    let used := (List.range 1024).any (fun v =>
      volValid (s.volRec v) && volBacking (s.volRec v) == d.val && volNsid (s.volRec v) == nsid.toNat)
    if used then refuse s 0x020A
    else if !b.ready || !b.nss.any (fun x => x.1 == nsid.toNat) then refuseFree s
    else success (s.setBacking d.val { b with nss := b.nss.filter (fun x => x.1 != nsid.toNat) })))

/-- Connect to a remote controller (R297, R299): a target that has not answered leaves the request waiting. (Log
entry 135: DEDUCED, unsafe.) -/
def execSynStoTargetConnect (r : SynReq) (c : Fin 64) (conns : List (BitVec 20)) (subnqn hostnqn : List Byte)
    (answer : StoConnect) (s : State) : Res :=
  let b := 0x10 + c.val
  ok (s.synLater 0x0C08 (domSto 0) r (fun s =>
    if (s.backing b).ready || (s.backing b).connecting.isSome then (s.tick, some ((s.fresh 16).toNat, []))
    else
      let cs := conns.map (·.toNat)
      let s := s.emit (.nvme b 0 0x7F cs (subnqn ++ hostnqn))
      match answer with
      | .accepted vwc mdts nss => (s.setBacking b ⟨true, vwc, mdts, nss, cs, s.clock, none⟩, some (0, []))
      | .refused => (s, some (0x0553, []))
      | .none => (s.setBacking b { s.backing b with conns := cs, connecting := some (r, s.clock) }, none)))

/-- A remote target that has not answered within 10 s (R299). -/
def execConnectTimeout (c : Fin 64) (s : State) : Res :=
  let b := 0x10 + c.val
  match (s.backing b).connecting with
  | some (r, t) =>
    if s.clock - t ≥ 1562500000 then ok ((s.setBacking b Backing.reset).answer 0x0C08 r 0x0553 []) else ok s
  | none => ok s

/-- (Log entry 136: DEDUCED, safe.) -/
def execSynStoTargetDisconnect (r : SynReq) (c : Fin 64) (s : State) : Res :=
  let b := 0x10 + c.val
  ok (s.syn 0x0C09 (domSto 0) r (fun s =>
    if (s.backing b).ready then success ((s.setBacking b Backing.reset).stoBackingLost b) else refuseFree s))

/-- Reset a drive controller: its outstanding commands complete with 0x0053; `back` says it is enabled again. (Log
entry 135: DEDUCED, unsafe.) -/
def execSynStoDriveReset (r : SynReq) (d : Fin 4) (back : Bool) (s : State) : Res :=
  ok (s.syn 0x0C0A (domSto 0) r (fun s =>
    let s := s.stoBackingLost d.val
    let up := back && s.bit (STO_DRIVE_STATUS d.val) STO_DRIVE_STATUS_PRESENT
    success ((s.setBacking d.val { s.backing d.val with ready := up }).sf
      (STO_DRIVE_STATUS d.val) STO_DRIVE_STATUS_READY (b2n up))))

/-- State code of a queue: 0 DISABLED, 1 ACTIVE, 2 FROZEN, 3 QUIESCED, 4 PAUSED. -/
def stoStateCode : StoState → Nat
  | .active => 1 | .frozen => 2 | .quiesced => 3 | .paused => 4

/-- State, counters, Identify data and SMART log; the last two are what the drive or controller reports. (Log entries
131: DESIGN CHOICE, unsafe; 137: DEDUCED, unsafe.) -/
def execSynStoQuery (r : SynReq) (what : StoQuery) (identify smart : List Byte) (s : State) : Res :=
  ok (s.syn 0x0C0B (domSto 0) r (fun s =>
    match what with
    | .queue n =>
      match s.stoQ n.val with
      | none => success s (leBytes 1 0)
      | some q =>
        match s.stoOwned r n.val with
        | .inl c => refuse s c
        | .inr _ => success s (leBytes 1 (stoStateCode q.state) ++ leBytes 2 q.inst ++ leBytes 1 q.localIx
            ++ leBytes 2 q.head ++ leBytes 2 q.tail ++ leBytes 2 q.cqHead ++ leBytes 2 q.cqTail
            ++ leBytes 2 (s.stoOut n.val))
    | .drive d =>
      match r.port with
      | .page _ => refuse s 0x0407
      | .mailbox _ => success s (leBytes 4 (s.rd (STO_DRIVE_STATUS d.val)).toNat ++ identify ++ smart)
    | .controller c =>
      match r.port with
      | .page _ => refuse s 0x0407
      | .mailbox _ => success s (leBytes 1 (b2n (s.backing (0x10 + c.val)).ready)
          ++ leBytes 1 (b2n (s.backing (0x10 + c.val)).vwc) ++ identify ++ smart)))

end Sys2Proof.Machine
end

