-- ==== Sys2Proof/Machine/Instances.lean ====
section
/-! DEFINITION. Virtual instances (16_virtual_instances.md R343 to R357): doorbells of the instance pages, transmit
descriptors, instance states, resets, and Syncen opcodes 0x0F00 to 0x0F09. -/

namespace Sys2Proof.Machine

/-! ### Doorbells (R348) -/

/-- An instance's queue of a kind by local index. -/
def State.iqLocal (s : State) (i : Nat) (k : QKind) (ix : Nat) : Option (Nat × IQueue) :=
  s.iq.find? (fun e => e.2.inst == i && e.2.kind == k && e.2.localIx == ix)

/-- Device-wide number of a queue from its key. -/
def qnum (key : Nat) : Nat := key % 2 ^ 16

/-- A queue freezes: INSTP_STATUS.EVENT and EVT_QUEUE_FROZEN. -/
def State.iqFreeze (s : State) (key : Nat) (q : IQueue) (mute : Bool) (status : Nat) : State :=
  (s.setIq key { q with frozen := true, mute := q.mute || mute }).queueFroze q.inst (qkindCode q.kind) (qnum key) status

/-- A tail doorbell: the new index, or a freeze when it names more entries than the ring holds. (Log entry 160:
DESIGN CHOICE, safe.) -/
def State.tailDoorbell (s : State) (i : Nat) (k : QKind) (ix v : Nat) : State :=
  if !s.pageOpen i then s
  else match s.iqLocal i k ix with
    | none => s.stray i
    | some (key, q) =>
      if (v % 2 ^ 16 + 2 ^ 16 - q.head) % 2 ^ 16 > 2 ^ q.log2n then s.tick.iqFreeze key q true (s.fresh 16).toNat
      else s.setIq key { q with tail := v % 2 ^ 16 }

/-- Waiting SEND messages of the connections that a receive queue serves try again for buffers (R223). -/
def State.bufferTail (i ix v : Nat) (s : State) : State :=
  let s := s.tailDoorbell i .receive ix v
  let s := s.trn.conns.foldl (fun (s : State) e => if e.2.consumer = 4 then s.reserve e.1 else s) s
  s.pktPump

def execBufferTail (i : Fin 2048) (ix : Fin 64) (v : W32) (s : State) : Res := ok (s.bufferTail i.val ix.val v.toNat)
def execDescriptorTail (i : Fin 2048) (ix : Fin 64) (v : W32) (s : State) : Res :=
  ok (s.tailDoorbell i.val .transmit ix.val v.toNat)
def execRequestTail (i : Fin 2048) (ix : Fin 64) (v : W32) (s : State) : Res :=
  ok (s.tailDoorbell i.val .transport ix.val v.toNat)

/-- A completion head: frees entries, so that completions that wait for room are written. -/
def State.completionHead (s : State) (i : Nat) (k : QKind) (ix v : Nat) : State :=
  if !s.pageOpen i then s
  else match s.iqLocal i k ix with
    | none => s.stray i
    | some (key, q) =>
      (State.flushOwed key q.owed.length (s.setIq key { q with cplHead := v % 2 ^ 16 })).iqReap key

def execCompletionHead (i : Fin 2048) (kind : QKind) (ix : Fin 64) (v : W32) (s : State) : Res :=
  ok (s.completionHead i.val kind ix.val v.toNat)

/-! ### Transmit queues (R351) -/

/-- A transmit completion (R349): TAG, STATUS. -/
def txCompletion (tag status : Nat) : List Byte := leBytes 2 tag ++ leBytes 2 status

/-- The oldest descriptor of a transmit queue: its frame takes a token of the queue shaper, is read from host memory and
goes to the channel. A read that fails completes with 0x0010 or 0x0011 and freezes the queue; for a poisoned frame and
for a LEN out of range the manual states no status. (Log entries 160: DESIGN CHOICE, safe; 164: DEDUCED, unsafe.) -/
def execTransmitDescriptorFetch (q : Fin 8192) (out : DmaOut) (s : State) : Res :=
  let key := qkey .transmit q.val
  match s.iqAt key with
  | none => ok s
  | some x =>
    if !s.iqFetches x || x.posted = 0 || !s.hostUp || !s.pktEn then ok s
    else
      let s := if x.qshEn then State.askShaper x.qshaper (4096 + q.val) (s.shaperUsers x.qshaper).length s else s
      let token := !x.qshEn || ((s.iqAt key).map (·.qtoken)).getD false
      if !token then ok s
      else
        let d := s.hostBytes (s.instPasid x.inst) (x.ring + x.head % 2 ^ x.log2n * 16) 16
        let len := fieldLE d 8 4
        let tag := fieldLE d 12 2
        let s := s.setIq key { x with head := (x.head + 1) % 2 ^ 16, outstanding := x.outstanding + 1, qtoken := false }
        let tlen := ((s.channel x.channel).map (fun c => fieldLE c 4 1)).getD 0
        let done (s : State) (st : Nat) (freeze : Bool) : State :=
          let s := (s.iqComplete key (txCompletion tag st)).iqDone key
          match freeze, s.iqAt key with
          | true, some y => s.iqFreeze key y false st
          | _, _ => s
        if out = .untranslated then ok (done s 0x10 true)
        else if out = .mastering then ok (done s 0x11 true)
        else if out = .poisoned then ok (done s.tick (s.fresh 16).toNat true)
        else if len < 1 ∨ len > 9216 - tlen then ok (done s.tick (s.fresh 16).toNat false)
        else
          let f := s.hostBytes (s.instPasid x.inst) (fieldLE d 0 8) len
          ok (done { s with chanQ := s.chanQ ++ [⟨x.channel, false, f⟩] } 0 false)

/-! ### States and resets (R346, R354, R355) -/

/-- Connections assigned to an instance. -/
def State.instConns (s : State) (i : Nat) : List Nat := (s.trn.conns.filter (fun e => e.2.inst == some i)).map (·.1)

/-- Answer the delete requests that wait for an instance's queues. -/
def State.answerDeletes (s : State) (i : Nat) : State :=
  s.iq.foldl (fun (s : State) e =>
    match e.2.inst == i, e.2.deleting with
    | true, some r => s.answer 0x0F06 r 0 []
    | _, _ => s) s

/-- The vectors of an instance that are due and not yet sent: its pending bits in the interrupt message store (R353). -/
def State.instDue (s : State) (i : Nat) : List Nat :=
  let x := s.instOf i
  s.host.vecDue.filter (fun v => decide (x.vecFirst ≤ v) && decide (v < x.vecFirst + x.vecCount))

/-- The pending bits of an instance leave the due vectors: its reset clears them, a QUIESCED instance keeps them (R353). -/
def State.dropDue (s : State) (i : Nat) : State :=
  let mine := s.instDue i
  { s with host := { s.host with vecDue := s.host.vecDue.filter (fun v => !mine.contains v) } }

/-- An instance reset (R354): RESETTING, a new GEN, its connections flushed, its queues deleted and its interrupt store
cleared, then CONFIGURED with PASID, vectors and assignments kept. Work already fetched goes on under the old GEN.
(Log entry 162: DEDUCED, unsafe.) -/
def State.instReset (s : State) (i : Nat) : State :=
  if (s.instOf i).state = .free then s
  else
    let x := s.instOf i
    let s := (s.dropDue i).setInst i { x with state := .resetting, gen := (x.gen + 1) % 2 ^ 16, event := true }
    let s := (s.instConns i).foldl (fun (s : State) n =>
      let s := s.flush n none 0x34
      s.setCn n { s.cn n with reserved := [] }) s
    let s := (s.answerDeletes i).stoInstReset i
    let s := { s with iq := s.iq.filter (fun e => e.2.inst != i) }
    (s.setInst i { s.instOf i with state := .configured, vecPending := [] }).pktPump

/-- An ENABLED instance whose owner's heartbeat is lost enters QUIESCED (R293, R355). -/
def State.instQuiesce (s : State) (i : Nat) : State :=
  if (s.instOf i).state = .enabled then
    let due := s.instDue i
    let x := s.instOf i
    let s := (s.dropDue i).setInst i { x with state := .quiesced, vecPending := due.foldl insertKey x.vecPending }
    (s.stoQuiesce i).pktPump
  else s

/-- A reattach returns a QUIESCED instance to ENABLED: held completions are written in order, then one message goes for
each pending vector (R353, R355). -/
def State.instReattach (s : State) (i : Nat) : State :=
  if (s.instOf i).state = .quiesced then
    let s := s.setInst i { s.instOf i with state := .enabled }
    let s := s.iq.foldl (fun (s : State) e =>
      if e.2.inst = i then (State.flushOwed e.1 e.2.owed.length s).iqReap e.1 else s) s
    let s := s.stoUnquiesce i
    let vs := (s.instOf i).vecPending
    (vs.foldl (fun (s : State) v => s.raise v) (s.setInst i { s.instOf i with vecPending := [] })).pktPump
  else s

/-- The instances of a session. -/
def State.instsOf (s : State) (session : W32) : List Nat :=
  (s.inst.filter (fun e => e.2.state != .free && e.2.session == session)).map (·.1)

/-- Completions held because the host could not be reached are written (R336). -/
def State.instFlushAll (s : State) : State :=
  (s.iq.foldl (fun (s : State) e => (State.flushOwed e.1 e.2.owed.length s).iqReap e.1) s).stoWriteOwed

/-! ### Syncen operations (R357) -/

/-- Vector ranges of the instances and of firmware's device events overlap a range. -/
def State.vecTaken (s : State) (i first n : Nat) : Bool :=
  s.inst.any (fun e => e.1 != i && e.2.state != .free && overlaps e.2.vecFirst e.2.vecCount first n)
    || (List.range 8).any (fun m => match ((s.mb m).session).bind (·.ring) with
      | some r => decide (first ≤ r.vector) && decide (r.vector < first + n)
      | none => false)
    || (s.bit FLT_CTL FLT_CTL_VEC_EN && decide (first ≤ s.gf FLT_CTL FLT_CTL_VECTOR)
      && decide (s.gf FLT_CTL FLT_CTL_VECTOR < first + n))

/-- An opcode of the instance range on behalf of the request's instance: its own checks come after ownership. -/
def State.instOp (s : State) (r : SynReq) (f : State → Nat → State × Nat × List Byte) : State × Nat × List Byte :=
  let i := synInst r
  if i ≥ 2048 then refuseFree s
  else if !s.ownsInst r i then refuse s 0x0407
  else f s i

def execSynInstCreate (r : SynReq) (inst : Option (Fin 2048)) (pasid : W32)
    (vecFirst vecCount : W16) (maxSto maxRx maxTx maxTrn : Byte) (s : State) : Res :=
  ok (s.syn 0x0F00 (some 12) r (fun s =>
    match s.sessionOf r with
    | none => refuse s 0x0407
    | some se =>
      let maxq := [maxSto.toNat, maxRx.toNat, maxTx.toNat, maxTrn.toNat]
      if pasid.toNat > 1048575 ∨ vecFirst.toNat > 2047 ∨ vecCount.toNat < 1 ∨ vecCount.toNat > 256
          ∨ maxq.any (fun m => decide (m > 64)) then refuse s 0x0102
      else
        let pick : Nat ⊕ Nat := match inst with
          | some i => if (s.instOf i.val).state = .free then .inr i.val
            else if s.ownsInst r i.val then .inl 0x0201 else .inl 0x0407
          | none => match (List.range 2048).find? (fun i => (s.instOf i).state == InstState.free) with
            | some i => .inr i
            | none => .inl 0x0301
        match pick with
        | .inl c => refuse s c
        | .inr i =>
          success (s.setInst i { s.instOf i with
            state := .configured, session := se.id, pasid := pasid.toNat, vecFirst := vecFirst.toNat
            vecCount := vecCount.toNat, maxq := maxq, vecPending := [] }) (leBytes 2 i)))

/-- Configuration-consistency check of ENABLE (R346). -/
def State.instCheck (s : State) (i : Nat) : Option Nat :=
  let x := s.instOf i
  if s.inst.any (fun e => e.1 != i && e.2.state != .free && e.2.pasid == x.pasid) then some 0x06F0
  else if x.vecFirst + x.vecCount > 2048 || s.vecTaken i x.vecFirst x.vecCount then some 0x06F1
  else if !s.cfgBit 0x164 16 then some 0x06F2
  else none

def execSynInstEnable (r : SynReq) (s : State) : Res :=
  ok (s.syn 0x0F01 (some 12) r (fun s => s.instOp r (fun s i =>
    if (s.instOf i).state ≠ .configured then refuse s 0x0201
    else match s.instCheck i with
      | some c => refuse s c
      | none => success (s.setInst i { s.instOf i with state := .enabled }))))

/-- The instance holds a queue. -/
def State.instHasQueue (s : State) (i : Nat) : Bool :=
  s.iq.any (fun e => e.2.inst == i) || s.sto.queues.any (fun e => e.2.inst == i)

def execSynInstDisable (r : SynReq) (s : State) : Res :=
  ok (s.syn 0x0F02 (some 12) r (fun s => s.instOp r (fun s i =>
    if (s.instOf i).state ≠ .enabled then refuse s 0x0201
    else if s.instHasQueue i then refuse s 0x020A
    else success (s.setInst i { s.instOf i with state := .configured }))))

def execSynInstReset (r : SynReq) (s : State) : Res :=
  ok (s.syn 0x0F03 (some 12) r (fun s => s.instOp r (fun s i =>
    if (s.instOf i).state = .free then refuse s 0x0201
    else
      let s := s.instReset i
      success s (leBytes 2 (s.instOf i).gen))))

def execSynInstDestroy (r : SynReq) (s : State) : Res :=
  ok (s.syn 0x0F04 (some 12) r (fun s => s.instOp r (fun s i =>
    if (s.instOf i).state ≠ .configured then refuse s 0x0201
    else
      let s := (s.instConns i).foldl (fun (s : State) n => s.setCn n { s.cn n with inst := none }) s
      success (s.setInst i { s.instOf i with
        state := .free, session := 0, pasid := 0, vecFirst := 0, vecCount := 0, maxq := [] }))))

/-- Device-wide limit of a kind, and its place in MAXQ. -/
def kindLimit : QKind → Nat
  | .transport => 4096
  | _ => 8192
def kindMaxq : QKind → Nat
  | .receive => 1 | .transmit => 2 | .transport => 3

/-- Bytes of a ring entry of a kind (R349). -/
def kindEntry : QKind → Nat
  | .transport => 64
  | _ => 16

/-- Queue checks in the order of their codes (R346). (Log entry 163: DEDUCED, unsafe.) -/
def State.instQueueCheck (s : State) (i : Nat) (k : QKind) (p : InstQueueSpec) : Option Nat :=
  let x := s.instOf i
  let n := 2 ^ p.log2n.toNat
  let mine := (s.iq.filter (fun e => e.2.inst == i && e.2.kind == k)).length
  let badLen := k == .receive && (p.buflen.toNat < 2048 || p.buflen.toNat > 16384 || !aligned 64 p.buflen.toNat)
  if x.state != .enabled || decide (mine ≥ (x.maxq[kindMaxq k]?.getD 0)) then some 0x06F3
  else if !aligned 4096 p.ring.toNat || !aligned 4096 p.cplRing.toNat || p.log2n.toNat < 4 || p.log2n.toNat > 12
      || overlaps p.ring.toNat (n * kindEntry k) p.cplRing.toNat (n * 16) || badLen then some 0x06F4
  else if k == .transmit && ((s.channel p.channel.toNat).isNone || decide (p.qshaper.toNat > 4095)) then some 0x06F5
  else if p.vector.toNat < x.vecFirst || decide (p.vector.toNat ≥ x.vecFirst + x.vecCount) then some 0x06F6
  else none

/-- (Log entry 163: DEDUCED, unsafe.) -/
def execSynInstQueueCreate (r : SynReq) (kind : QKind) (spec : InstQueueSpec) (s : State) : Res :=
  ok (s.syn 0x0F05 (some 12) r (fun s => s.instOp r (fun s i =>
    match s.instQueueCheck i kind spec with
    | some c => refuse s c
    | none =>
      let used := (s.iq.filter (fun e => e.2.inst == i && e.2.kind == kind)).map (·.2.localIx)
      match (List.range (kindLimit kind)).find? (fun n => (s.iqAt (qkey kind n)).isNone), lowestFree used with
      | some n, some ix =>
        let q : IQueue :=
          { kind := kind, inst := i, localIx := ix, ring := spec.ring.toNat, cplRing := spec.cplRing.toNat
            log2n := spec.log2n.toNat, vector := spec.vector.toNat, buflen := spec.buflen.toNat
            channel := spec.channel.toNat, qshaper := spec.qshaper.toNat, qshEn := spec.qshEn, qtoken := false, tail := 0, head := 0
            cplTail := 0, cplHead := 0, frozen := false, mute := false, deleting := none, outstanding := 0, owed := [] }
        let s := { s with trn := { s.trn with unused := s.trn.unused.filter (fun e => kind != QKind.receive || e.1 != n + 1) } }
        success (s.setIq (qkey kind n) q) (leBytes 2 n ++ leBytes 1 ix)
      | _, _ => refuse s 0x0301)))

/-- The request's instance holds the queue. -/
def State.iqOwned (s : State) (i : Nat) (k : QKind) (n : Nat) : Option IQueue :=
  (s.iqAt (qkey k n)).bind (fun q => if q.inst = i then some q else none)

def execSynInstQueueDelete (r : SynReq) (kind : QKind) (q : Fin 8192) (s : State) : Res :=
  let i := synInst r
  ok (s.synLater 0x0F06 (some 12) r (fun s =>
    if i ≥ 2048 then (s.tick, some ((s.fresh 16).toNat, []))
    else if !s.ownsInst r i then (s, some (0x0407, []))
    else match s.iqOwned i kind q.val with
      | none => (s.tick, some ((s.fresh 16).toNat, []))
      | some x =>
        if x.deleting.isSome then (s, some (0x0201, []))
        else
          let key := qkey kind q.val
          if x.outstanding = 0 ∧ (x.owed = [] ∨ x.mute) then
            (({ s with iq := s.iq.filter (fun e => e.1 != key) }).pktPump, some (0, []))
          else ((s.setIq key { x with deleting := some r }).pktPump, none)))

def execSynInstQueueRestart (r : SynReq) (kind : QKind) (q : Fin 8192) (s : State) : Res :=
  ok (s.syn 0x0F07 (some 12) r (fun s => s.instOp r (fun s i =>
    match s.iqOwned i kind q.val with
    | none => refuseFree s
    | some x =>
      if !x.frozen then refuse s 0x0201
      else if x.outstanding > 0 then refuse s 0x020A
      else
        let key := qkey kind q.val
        success (State.flushOwed key x.owed.length (s.setIq key { x with frozen := false, mute := false })).pktPump)))

/-- Assign or release connections (R343, R357). -/
def execSynInstResAssign (r : SynReq) (conns : List (BitVec 20)) (assign : Bool) (s : State) : Res :=
  ok (s.syn 0x0F08 (some 12) r (fun s => s.instOp r (fun s i =>
    if (s.instOf i).state = .free then refuse s 0x0201
    else if conns.any (fun n =>
        let c := s.cn n.toNat
        c.state != csInit || (c.inst.isSome && c.inst != some i)) then refuse s 0x0201
    else success (conns.foldl (fun (s : State) n =>
      s.setCn n.toNat { s.cn n.toNat with inst := if assign then some i else none }) s))))

/-- Attributes, queues with local indices, and the LATE count. (Log entry 161: DESIGN CHOICE, unsafe.) -/
def execSynInstQuery (r : SynReq) (s : State) : Res :=
  ok (s.syn 0x0F09 (some 12) r (fun s =>
    let i := synInst r
    let allowed := match r.port with
      | .page p => p.val == i
      | .mailbox _ => s.ownsInst r i
    if i ≥ 2048 then refuseFree s
    else if !allowed then refuse s 0x0407
    else
      let x := s.instOf i
      let qs := (s.sto.queues.filter (fun e => e.2.inst == i)).map (fun e => (0, e.1, e.2.localIx))
        ++ (s.iq.filter (fun e => e.2.inst == i)).map (fun e => (qkindCode e.2.kind, qnum e.1, e.2.localIx))
      success s (leBytes 1 (instStateCode x.state) ++ leBytes 4 x.session.toNat ++ leBytes 4 x.pasid ++ leBytes 2 x.gen
        ++ leBytes 2 x.vecFirst ++ leBytes 2 x.vecCount ++ (x.maxq.map (leBytes 1)).flatten
        ++ leBytes 4 (s.instConns i).length ++ ((s.instConns i).map (leBytes 4)).flatten
        ++ leBytes 2 qs.length ++ (qs.map (fun q => leBytes 1 q.1 ++ leBytes 2 q.2.1 ++ leBytes 1 q.2.2)).flatten
        ++ leBytes 4 x.late)))

end Sys2Proof.Machine
end

