-- ==== Sys2Proof/Machine/Security.lean ====
section
/-! DEFINITION. Key slots, the message engine, attestation, debug unlock and Syncen opcodes 0x0D00 to 0x0D0B
(14_security_and_keys.md R300 to R323). -/

namespace Sys2Proof.Machine

/-! ### Entropy (R304) -/

def execEntropyHealthFail (source : Fin 4) (proportion : Bool) (s : State) : Res :=
  ok ((s.sf SEC_STATUS SEC_STATUS_ENT_FAIL 1).fault 0x16 source.val (b2n proportion))

/-- The generator reseeds: later draws are fresh. (Log entry 148: DESIGN CHOICE, safe.) -/
def execReseed (s : State) : Res := ok { s.tick with sec := { s.tick.sec with reseedAt := s.clock } }

/-! ### References, loads and clears (R308, R309) -/

/-- A message's key slot: none for SHAKE256. -/
def msgSlot (d : List Byte) : Option Nat := if fieldLE d 0 1 = 5 then none else some (wordFd d 1 0 12)

/-- References held on a slot (R308). (Log entry 144: DEDUCED, unsafe.) -/
def State.refsOf (s : State) (k : Nat) : Nat :=
  let links := (List.range 32).foldl (fun n p =>
    if s.portState p == 2 && s.portEnc p && !s.isEth p then
      n + b2n (s.portKey p (s.txAn p) == k) + b2n (s.portKey p (s.rxAn p) == k)
    else n) 0
  let msec := (List.range 8).foldl (fun n p =>
    if s.bit (PKT_MSEC_CTL p) PKT_MSEC_CTL_PROTECT && (s.txSa p).any (fun a => a.slot == k) then n + 1 else n) 0
  let sto := (s.sto.cmds.filter (fun c => c.phase == .running && c.slot == some k)).length
  let msg := ((s.sec.current.toList ++ s.sec.suspended.toList).filter (fun m => msgSlot m.desc == some k)).length
  links + msec + sto + msg

/-- Frames and requests that stalled on a pending slot are taken up again (R309). -/
def State.unstallPorts (s : State) : State :=
  (List.range 32).foldl (fun (s : State) p => if s.isEth p then s.ethUnstall p else s.unstall p) s

/-- A load or clear: at once while REFS is zero, else PENDING; the answer when it is done. -/
def State.keyWrite (s : State) (r : SynReq) (opcode k : Nat) (v : KeySlot) (waitMs : Nat) :
    State × Option (Nat × List Byte) :=
  if s.slotPending k then (s, some (0x0201, []))
  else if s.refsOf k = 0 then
    let s := s.writeSlot k v
    (s, some (0, if opcode = 0x0D03 then [] else leBytes 2 (s.slotOf k).gen))
  else ({ s with sec := { s.sec with pendingKeys := s.sec.pendingKeys ++ [⟨k, v, r, opcode, waitMs, s.clock⟩] } }, none)

/-- WAIT_MS as given: 1 to 10,000, 100 when absent. -/
def waitOf (w : Option Nat) : Option Nat :=
  let n := w.getD 100
  if 1 ≤ n ∧ n ≤ 10000 then some n else none

/-- Key bytes of a type: two AES-256 keys for XTS, one for the others (R305). -/
def keyBytes (type : Nat) : Nat := if type = 4 then 64 else 32

/-- The instance on whose behalf a Syncen request works; a device-wide request is device-internal work (R307). -/
def reqOwner (r : SynReq) : Nat := if synInst r = 0xFFFF then ownerInternal else synInst r

/-- The additional data of a blob, its IV, key field and tag (R306). -/
def blobParts (b : List Byte) : List Byte × List Byte × List Byte × List Byte :=
  (b.take 24, (b.drop 8).take 12, (b.drop 24).take 64, (b.drop 88).take 16)

/-- Unwrap or wrap with a WRAP slot (R306, R307, R323). (Log entries 142: DEDUCED, safe; 143: DEDUCED, unsafe.) -/
def State.keyUse (s : State) (u : KeyUse) : State × Option (Nat × List Byte) :=
  if !s.slotUsable u.wrap 5 (reqOwner u.req) then (s, some (0x0401, []))
  else if u.unwrap then
    let (aad, iv, body, tag) := blobParts (fit 104 u.blob)
    let ty := fieldLE u.blob 4 1
    match gcmOpen (s.slotKey u.wrap) iv aad body tag with
    | none => (s.countAuth.cnt SEC_EVENTS SEC_EVENTS_UNWRAP_FAIL 1, some (0x0403, []))
    | some key =>
      if ty != 4 && (key.drop 32).any (fun b => b != 0#8) then
        (s.cnt SEC_EVENTS SEC_EVENTS_UNWRAP_FAIL 1, some (0x0403, []))
      else if u.blob.length ≠ 104 ∨ fieldLE u.blob 0 4 ≠ 1 ∨ ty < 1 ∨ ty > 5 then (s.tick, some ((s.fresh 16).toNat, []))
      else s.keyWrite u.req 0x0D01 u.slot ⟨ty, u.owner, u.wrappable, 0, key.take (keyBytes ty)⟩ u.waitMs
  else
    let v := s.slotOf u.slot
    if v.type = 0 then (s, some (0x0401, []))
    else if !v.wrappable then (s, some (0x0406, []))
    else
      let iv := s.entropy 12
      let aad := leBytes 4 1 ++ leBytes 1 v.type ++ [0, 0, 0] ++ iv ++ [0, 0, 0, 0]
      let (ct, tag) := gcmSeal (s.slotKey u.wrap) iv aad (fit 64 v.key)
      (s.tick, some (0, aad ++ ct ++ tag))

/-- A key use, which stalls while its WRAP slot, or the slot it reads, is PENDING (R309). -/
def State.keyUseOrStall (s : State) (u : KeyUse) : State × Option (Nat × List Byte) :=
  if s.slotPending u.wrap || (!u.unwrap && s.slotPending u.slot) then
    ({ s with sec := { s.sec with keyUses := s.sec.keyUses ++ [u] } }, none)
  else s.keyUse u

/-- Stalled uses run once no load of their slots is pending. -/
def State.retryUses : Nat → State → State
  | 0, s => s
  | n + 1, s =>
    match s.sec.keyUses.find? (fun u => !(s.slotPending u.wrap || (!u.unwrap && s.slotPending u.slot))) with
    | none => s
    | some u =>
      let s := { s with sec := { s.sec with keyUses := s.sec.keyUses.erase u } }
      State.retryUses n (match s.keyUse u with
        | (s, some (st, pl)) => s.answer (if u.unwrap then 0x0D01 else 0x0D02) u.req st pl
        | (s, none) => s)

/-- The end of a wait: the pending entry goes, the request is answered, and stalled uses go on. -/
def State.endWait (s : State) (p : PendingKey) (st : Nat) (pl : List Byte) : State :=
  let s := { s with sec := { s.sec with pendingKeys := s.sec.pendingKeys.erase p } }
  let s := (s.answer p.opcode p.req st pl).unstallPorts
  State.retryUses s.sec.keyUses.length s

def execKeyRefsZero (k : Fin 4096) (s : State) : Res :=
  match s.sec.pendingKeys.find? (fun p => p.slot == k.val) with
  | some p =>
    if s.refsOf k.val = 0 then
      let s := s.writeSlot k.val p.load
      ok (s.endWait p 0 (if p.opcode = 0x0D03 then [] else leBytes 2 (s.slotOf k.val).gen))
    else ok s
  | none => ok s

def execKeyLoadWithdrawn (k : Fin 4096) (s : State) : Res :=
  match s.sec.pendingKeys.find? (fun p => p.slot == k.val) with
  | some p =>
    if s.clock - p.since ≥ p.waitMs * 156250 then ok ((s.endWait p 0x0402 []).cnt SEC_EVENTS SEC_EVENTS_WITHDRAWN 1)
    else ok s
  | none => ok s

/-- (Log entry 143: DEDUCED, unsafe.) -/
def execSynKeyLoad (r : SynReq) (k : Fin 4096) (type : Byte) (owner : W16) (wrappable : Bool) (key : List Byte)
    (waitMs : Option Nat) (s : State) : Res :=
  ok (s.synLater 0x0D00 none r (fun s =>
    match waitOf waitMs with
    | none => (s, some (0x0102, []))
    | some w =>
      if k.val = 0 then (s, some (0x0406, []))
      else if type.toNat < 1 ∨ type.toNat > 5 ∨ owner.toNat > 2047 ∨ key.length ≠ keyBytes type.toNat then
        (s, some (0x0102, []))
      else s.keyWrite r 0x0D00 k.val ⟨type.toNat, owner.toNat, wrappable, 0, key⟩ w))

/-- (Log entry 142: DEDUCED, safe.) -/
def execSynKeyUnwrap (r : SynReq) (k wrap : Fin 4096) (owner : W16) (wrappable : Bool) (blob : List Byte)
    (waitMs : Option Nat) (s : State) : Res :=
  ok (s.synLater 0x0D01 none r (fun s =>
    if k.val = 0 ∨ k = wrap then (s, some (0x0406, []))
    else match waitOf waitMs with
      | none => (s.tick, some ((s.fresh 16).toNat, []))
      | some w =>
        if s.slotPending k.val then (s, some (0x0201, []))
        else s.keyUseOrStall ⟨true, k.val, wrap.val, owner.toNat % 2048, wrappable, blob, w, r⟩))

def execSynKeyWrap (r : SynReq) (k wrap : Fin 4096) (s : State) : Res :=
  ok (s.synLater 0x0D02 none r (fun s => s.keyUseOrStall ⟨false, k.val, wrap.val, 0, false, [], 100, r⟩))

/-- (Log entry 142: DEDUCED, safe.) -/
def execSynKeyClear (r : SynReq) (k : Fin 4096) (waitMs : Option Nat) (s : State) : Res :=
  ok (s.synLater 0x0D03 none r (fun s =>
    if k.val = 0 then (s, some (0x0406, []))
    else match waitOf waitMs with
      | none => (s.tick, some ((s.fresh 16).toNat, []))
      | some w => s.keyWrite r 0x0D03 k.val KeySlot.reset w))

def execSynKeyQuery (r : SynReq) (k : Fin 4096) (s : State) : Res :=
  ok (s.syn 0x0D04 none r (fun s =>
    let v := s.slotOf k.val
    success s (leBytes 1 v.type ++ leBytes 2 v.owner ++ leBytes 1 (b2n v.wrappable) ++ leBytes 2 v.gen
      ++ leBytes 2 (min 65535 (s.refsOf k.val)) ++ leBytes 1 (b2n (s.slotPending k.val)))))

/-! ### The message engine (R312 to R314) -/

def mOp (d : List Byte) : Nat := fieldLE d 0 1
def mCmpl (d : List Byte) : Bool := wordFd d 0 15 1 == 1
def mUrgent (d : List Byte) : Bool := wordFd d 0 16 1 == 1
def mInst (d : List Byte) : Nat := wordFd d 1 16 11
def mSrc (d : List Byte) : Nat := fieldLE d 8 8 % 2 ^ 52
def mDst (d : List Byte) : Nat := fieldLE d 16 8 % 2 ^ 52
def mLen (d : List Byte) : Nat := fieldLE d 24 4
def mAad (d : List Byte) : Nat := fieldLE d 28 8 % 2 ^ 52
def mAadLen (d : List Byte) : Nat := fieldLE d 36 2
def mIv (d : List Byte) : List Byte := (d.drop 40).take 12
def mUnit (d : List Byte) : Nat := fieldLE d 40 8
def mOutLen (d : List Byte) : Nat := wordFd d 13 0 7
def mTag (d : List Byte) : Nat := wordFd d 14 0 16

/-- Bytes a message writes at DST. -/
def mOutBytes (d : List Byte) : Nat :=
  if mOp d = 1 then mLen d + 16 else if mOp d = 5 then mOutLen d else mLen d

/-- The message uses a host address. -/
def mHost (d : List Byte) : Bool :=
  decide (regionOf (mSrc d) = .host) || decide (regionOf (mDst d) = .host)
    || (decide (mOp d ≤ 2) && mAadLen d > 0 && decide (regionOf (mAad d) = .host))

/-- Field checks of a descriptor (status 0x0002). -/
def mFieldsOk (d : List Byte) : Bool :=
  let n := mLen d
  decide (1 ≤ mOp d) && decide (mOp d ≤ 5) && decide (1 ≤ n) && decide (n ≤ 0x40000000)
    && (!(mOp d == 3 || mOp d == 4) || n % 4096 == 0)
    && (mOp d != 5 || (decide (1 ≤ mOutLen d) && decide (mOutLen d ≤ 64)))

/-- Read a range in 16-byte blocks with their poison marks; the first access error ends it. -/
def State.loadBlocks (a n : Nat) : Nat → State → Option MemErr × List (List Byte × Bool) × State
  | 0, s => (none, [], s)
  | k + 1, s =>
    if n = 0 then (none, [], s)
    else match s.engLoad a (min 16 n) with
      | (none, bs, s) =>
        let (e, l, s) := State.loadBlocks (a + 16) (n - min 16 n) k s
        (e, (bs, false) :: l, s)
      | (some .poison, bs, s) =>
        let (e, l, s) := State.loadBlocks (a + 16) (n - min 16 n) k s
        (e, (bs, true) :: l, s)
      | (some .uncorrected, bs, s) =>
        let (e, l, s) := State.loadBlocks (a + 16) (n - min 16 n) k s
        (e, (bs, true) :: l, s)
      | (some e, _, s) => (some e, [], s)

def blockBytes (l : List (List Byte × Bool)) : List Byte := (l.map (·.1)).flatten

/-- Cut a string into the blocks of a mark list. -/
def reBlock : List Byte → List (List Byte × Bool) → List (List Byte × Bool)
  | _, [] => []
  | bs, (b, p) :: l => (bs.take b.length, p) :: reBlock (bs.drop b.length) l

/-- Status and output of a message whose fields, addresses and key are good (R313). -/
def mResult (d key : List Byte) (src aad : List (List Byte × Bool)) (tag : List Byte) (tagPoison : Bool) :
    Nat × List (List Byte × Bool) :=
  let text := blockBytes src
  let poison := src.any (·.2) || aad.any (·.2)
  let st := if poison then 0x12 else 0
  if mOp d = 1 then
    let (ct, t) := gcmSeal (fit 32 key) (mIv d) (blockBytes aad) text
    (st, reBlock ct src ++ [(t, poison)])
  else if mOp d = 2 then
    match (if poison || tagPoison then none else gcmOpen (fit 32 key) (mIv d) (blockBytes aad) text tag) with
    | some pt => (0, reBlock pt src)
    | none => (0x60, src.map (fun b => (b.1.map (fun _ => 0#8), false)))
  else if mOp d = 5 then (st, [(shake text (mOutLen d), poison)])
  else (st, reBlock (xtsUnits (mOp d == 3) (fit 64 key) (mLen d / 4096) (mUnit d) text) src)

/-- Start a message: its checks, its input, and its destination, which holds undefined contents until the message
completes (R312). (Log entries 140: DEDUCED, unsafe; 147: DEDUCED, unsafe.) -/
def State.msgStart (s : State) (index : Option (Nat × Nat)) (d : List Byte) : State :=
  let begin_ (s : State) (st : Nat) (out : List (List Byte × Bool)) : State :=
    { s with sec := { s.sec with current := some ⟨index, d, 0, st, out, false⟩ } }
  if !mFieldsOk d then begin_ s 2 []
  else if mHost d && !s.hostUp then begin_ s 0x11 []
  else
    let keyOk := match msgSlot d with
      | none => true
      | some k => s.slotUsable k (if mOp d ≤ 2 then 1 else 4) (mInst d)
    if !keyOk then begin_ s 0x61 []
    else
      let (e1, src, s) := State.loadBlocks (mSrc d) (mLen d) (mLen d) s
      let (e2, aad, s) := if mOp d ≤ 2 then State.loadBlocks (mAad d) (mAadLen d) (mAadLen d) s else (none, [], s)
      let (e3, tag, s) := if mOp d = 2 then State.loadBlocks (mSrc d + mLen d) 16 1 s else (none, [], s)
      let code (e : MemErr) : Nat := match e with
        | .hostDown => 0x11
        | _ => 0x10
      match e1 <|> e2 <|> e3 <|> s.accessErr (mDst d) (mOutBytes d) true with
      | some e => begin_ s (code e) []
      | none =>
        let key := match msgSlot d with
          | some k => (s.slotOf k).key
          | none => []
        let (st, out) := mResult d key src aad (blockBytes tag) (tag.any (·.2))
        let junk := leBytes (mOutBytes d) (s.fresh (8 * mOutBytes d)).toNat
        begin_ (s.tick.engStore (mDst d) junk).2 st out

/-- Descriptor indices of the request ring not yet started, oldest first; those started ahead are listed in `fetched`. -/
def State.secWaiting (s : State) : List Nat :=
  let r := s.ring SEC_REQ_BASE
  ((List.range (ixDiff r.tail r.fetchIx)).map (fun k => ix16 (r.fetchIx + k))).filter
    (fun i => !r.fetched.any (fun e => e.1 == i))

/-- The descriptor at an index, read without regard to marks. -/
def State.secPeek (s : State) (ix : Nat) : List Byte :=
  s.bytes (s.cmdBase SEC_REQ_BASE + ix % 2 ^ s.cmdLog SEC_REQ_BASE * 64) 64

/-- The request ring runs. -/
def State.secRuns (s : State) : Bool :=
  s.cmdEn SEC_REQ_BASE && s.bit SEC_CTL SEC_CTL_MSG_EN && !s.bit SEC_RERR SEC_RERR_HALTED && !s.blockDown 15

/-- The oldest urgent message of the ring that waits. -/
def State.secUrgent (s : State) : Option Nat :=
  if s.secRuns then s.secWaiting.find? (fun i => mUrgent (s.secPeek i)) else none

/-- The message that the ring starts next: urgent ones first (R314); none other while a message is suspended. -/
def State.secNext (s : State) : Option Nat :=
  if !s.secRuns then none
  else match s.secUrgent with
    | some i => some i
    | none => if s.sec.suspended.isSome then none else s.secWaiting.head?

/-- Past every descriptor at the front of the ring that was started ahead. -/
def State.secAdvance : Nat → State → State
  | 0, s => s
  | n + 1, s =>
    let r := s.ring SEC_REQ_BASE
    if r.fetched.any (fun e => e.1 == r.fetchIx) then
      State.secAdvance n (s.setRing SEC_REQ_BASE { r with
        fetchIx := ix16 (r.fetchIx + 1), fetched := r.fetched.filter (fun e => e.1 != r.fetchIx) })
    else s

/-- A message of operation `op` starts: from the ring (an opcode outside the table goes with operation 1 and ends with
0x0002), or an internal one. A slot with a load pending stalls it (R309). (Log entry 147: DEDUCED, unsafe.) -/
def State.msgBegin (s : State) (op : Nat) (src : SecSource) : State :=
  if s.sec.current.isSome then s
  else match src with
    | .internal d =>
      let d := fit 64 d
      if mOp d = op ∧ s.sec.suspended.isNone ∧ !(msgSlot d).any (fun k => s.slotPending k) then s.msgStart none d else s
    | .ring =>
      match s.secNext with
      | none => s
      | some ix =>
        let f := s.fetchEntry SEC_REQ_BASE ix
        let s' := f.2
        onSome f.1 ((s'.sf SEC_RERR SEC_RERR_FETCH_ERR 1).sf SEC_RERR SEC_RERR_HALTED 1) (fun d =>
          let mine := mOp d == op || (op == 1 && (mOp d == 0 || decide (mOp d > 5)))
          if !mine || (msgSlot d).any (fun k => s'.slotPending k) then s
          else
            let r := s'.ring SEC_REQ_BASE
            let s' := s'.setRing SEC_REQ_BASE { r with
              fetched := r.fetched ++ [(ix, [])], issued := r.issued ++ [⟨ix, r.epoch, d, 0, true, none⟩] }
            (State.secAdvance (2 ^ 16) s').msgStart (some (ix, r.epoch)) d)

def execGcmEnc (src : SecSource) (s : State) : Res := ok (s.msgBegin 1 src)
def execGcmDec (src : SecSource) (s : State) : Res := ok (s.msgBegin 2 src)
def execXtsEnc (src : SecSource) (s : State) : Res := ok (s.msgBegin 3 src)
def execXtsDec (src : SecSource) (s : State) : Res := ok (s.msgBegin 4 src)
def execShake256 (src : SecSource) (s : State) : Res := ok (s.msgBegin 5 src)

/-- An urgent message waits while a normal one runs: the engine suspends the current one (R314). -/
def execUrgentSuspend (s : State) : Res :=
  match s.sec.current with
  | some m =>
    if s.sec.suspended.isNone && !mUrgent m.desc && s.secUrgent.isSome then
      ok { s with sec := { s.sec with suspended := some { m with suspends := m.suspends + 1 }, current := none } }
    else ok s
  | none => ok s

/-- Write a message's output blocks. -/
def State.writeBlocks (a : Nat) : List (List Byte × Bool) → State → State
  | [], s => s
  | (b, p) :: l, s => State.writeBlocks (a + b.length) l (s.engStore a b p).2

/-- The current message completes: its output, its completion record with the times it was suspended, and the
suspended message goes on unless another urgent one waits (R312 to R314). A record waits for room (R47). (Log entry
140: DEDUCED, unsafe.) -/
def execMessageEngineComplete (s : State) : Res :=
  match s.sec.current with
  | none => ok s
  | some m =>
    let st := if (mHost m.desc && !s.hostUp) || m.silent then 0x11 else m.status
    let record := m.index.isSome && !m.silent && (mCmpl m.desc || (st != 0 && st != 0x12))
    if record && !s.cmplRoom SEC_REQ_BASE then ok s
    else
      let s := if st = 0x11 then s else State.writeBlocks (mDst m.desc) m.out s
      let s := if st = 0x60 then s.countAuth else s
      let s := match m.index with
        | some (ix, epoch) =>
          let s := if record then s.ringRecord SEC_REQ_BASE (mTag m.desc) st m.suspends ix else s
          s.retire SEC_REQ_BASE ix epoch
        | none => s
      let s := { s with sec := { s.sec with current := none } }
      if s.secUrgent.isNone then ok { s with sec := { s.sec with current := s.sec.suspended, suspended := none } }
      else ok s

/-- A function-level reset silences messages with host addresses (R321). -/
def State.secFlr (s : State) : State :=
  let f (m : SecMsg) : SecMsg := if mHost m.desc then { m with silent := true } else m
  { s with sec := { s.sec with current := s.sec.current.map f, suspended := s.sec.suspended.map f } }

/-! ### The SEC registers (R322) -/

def writeSecCtl (q : Requester) (v : W32) (s : State) : State :=
  if !coreWrites q then s
  else if bitAt v.toNat 0 then
    if s.bit SEC_CTL SEC_CTL_MSG_EN then s else (s.sf SEC_CTL SEC_CTL_MSG_EN 1).sf SEC_CTL SEC_CTL_REFUSAL 0
  else if s.cmdEn SEC_REQ_BASE then s
  else s.sf SEC_CTL SEC_CTL_MSG_EN 0

def writeSecRctl (q : Requester) (v : W32) (s : State) : State :=
  if !coreWrites q then s
  else
    let t := s.writeRingCtl SEC_REQ_BASE SEC_RERR false (if s.bit SEC_CTL SEC_CTL_MSG_EN then none else some 0x06D0) v
    if s.setsEnable SEC_REQ_BASE v then t.sf SEC_CTL SEC_CTL_REFUSAL (t.gf SEC_RERR SEC_RERR_REFUSAL) else t

def writeSecReqDb (q : Requester) (v : W32) (s : State) : State :=
  if coreWrites q then s.writeDoorbell SEC_REQ_BASE SEC_RERR (v.toNat % 2 ^ 16) else s

def writeSecCmplHead (q : Requester) (v : W32) (s : State) : State :=
  if coreWrites q then s.writeCmplHead SEC_REQ_BASE v else s

def writeSecRingBase (q : Requester) (cmpl hi : Bool) (v : W32) (s : State) : State :=
  if !coreWrites q then s
  else if cmpl then s.writeCmplBase SEC_REQ_BASE hi v else s.writeCmdBase SEC_REQ_BASE hi v

/-- SEC_RERR: its RW1C bits; clearing HALTED lets the ring run on. -/
def writeSecRerr (q : Requester) (v : W32) (s : State) : State :=
  if coreWrites q then s.wr SEC_RERR (s.rd SEC_RERR &&& ~~~(v &&& 7#32)) else s

def execSecMsgEnSet (q : Requester) (v : W32) (s : State) : Res := ok (writeSecCtl q (v ||| 1#32) s)
def execSecReqDb (q : Requester) (v : W32) (s : State) : Res := ok (writeSecReqDb q v s)
def execSecCmdEnSet (q : Requester) (v : W32) (s : State) : Res := ok (writeSecRctl q (v ||| 1#32) s)
def execSecCmplHeadWrite (q : Requester) (v : W32) (s : State) : Res := ok (writeSecCmplHead q v s)

/-! ### Attestation, measurement and certificates (R303, R316, R317) -/

/-- One event log record as bytes: index, tag, digest, time. (Log entry 145: DEDUCED, unsafe.) -/
def LogRec.bytes (l : LogRec) : List Byte := leBytes 4 l.index ++ leBytes 4 l.tag ++ fit 64 l.digest ++ leBytes 8 l.time

/-- Bytes 0 to 1,319 of a report, sampled as signing starts (R317). (Log entry 145: DEDUCED, unsafe.) -/
def State.reportBytes (s : State) (nonce userdata : List Byte) : List Byte :=
  let b (f : Fd) : Nat := b2n (s.bit SEC_STATUS f)
  let flags := b2n (s.gf SEC_STATUS SEC_STATUS_DEBUG != 0) + 2 * b SEC_STATUS_FACTORY + 4 * b SEC_STATUS_ENT_FAIL
    + 8 * b SEC_STATUS_CERT + 16 * b2n s.sec.logTrunc + 32 * (1 - b SEC_STATUS_MFG_CERT)
  leBytes 4 1 ++ leBytes 4 flags ++ leBytes 8 s.now ++ fit 8 s.sec.bootId ++ leBytes 8 s.sec.seq ++ fit 64 nonce
    ++ fit 64 s.sec.identity ++ leBytes 8 (s.rd64 DEV_ID)
    ++ ((List.range 16).map (fun i => Tab.get mrZero s.sec.mr i)).flatten ++ fit 64 userdata
    ++ shake (s.sec.log.map LogRec.bytes).flatten 64

/-- TS starts signing a request. -/
def State.signStart (s : State) (a : AttestReq) : State :=
  { s with sec := { s.sec with signing := some (s.reportBytes a.nonce a.userdata, a.req) } }

/-- A restart of TS restarts the report being signed (R320). -/
def State.signAgain (s : State) : State :=
  match s.sec.signing with
  | some (body, r) => s.signStart ⟨(body.drop 32).take 64, (body.drop 1192).take 64, r⟩
  | none => s

def execSynSecAttest (r : SynReq) (nonce userdata : List Byte) (s : State) : Res :=
  ok (s.synLater 0x0D05 none r (fun s =>
    if !s.bit SEC_STATUS SEC_STATUS_ID_VALID then (s, some (0x0404, []))
    else if s.sec.signing.isNone then (s.signStart ⟨nonce, userdata, r⟩, none)
    else if s.sec.attest.length < 8 then
      ({ s with sec := { s.sec with attest := s.sec.attest ++ [⟨nonce, userdata, r⟩] } }, none)
    else (s, some (0x0310, []))))

/-- A report is signed: it answers its request, SEQ counts it, and the next request starts. TS signs nothing while it restarts
or is out of service (R320, R379). -/
def execAttestSigned (s : State) : Res :=
  if 2 ≤ s.gf (CORE_STATUS 32) CORE_STATUS_STATE then ok s
  else match s.sec.signing with
  | none => ok s
  | some (body, r) =>
    let sig := fit 49856 (Config.slhDsaSign 1 (identitySeed s.sec.seed) body (s.entropy 32))
    let s := { s.tick with sec := { s.sec with signing := none, seq := s.sec.seq + 1 } }
    let s := s.answer 0x0D05 r 0 (body ++ sig)
    match s.sec.attest with
    | a :: rest => ok ({ s with sec := { s.sec with attest := rest } }.signStart a)
    | [] => ok s

def execSynSecExtend (r : SynReq) (ix : Byte) (tag : W32) (digest : List Byte) (s : State) : Res :=
  ok (s.syn 0x0D06 none r (fun s =>
    if ix.toNat < 8 ∨ ix.toNat > 15 ∨ digest.length ≠ 64 then refuse s 0x0102
    else
      let s := s.extendMR ix.toNat tag.toNat digest
      success s (Tab.get mrZero s.sec.mr ix.toNat)))

def execSynSecLogRead (r : SynReq) (first count : Nat) (s : State) : Res :=
  ok (s.syn 0x0D07 none r (fun s =>
    success s (((s.sec.log.drop first).take (min 256 count)).map LogRec.bytes).flatten))

/-- Enrolment (R303): fresh helper data, the certificate area erased, the new identity in force. (Log entry 146:
DEDUCED, unsafe.) -/
def execSynSecEnrol (r : SynReq) (s : State) : Res :=
  ok (s.syn 0x0D08 none r (fun s =>
    if s.bit SEC_STATUS SEC_STATUS_ID_VALID then refuse s 0x0201
    else
      let h := s.entropy 6144
      let s := { s.tick with flash := { s.flash with helper := h, cert := [] } }
      let s := (s.setIdentity (fit 32 (Config.pufSeed h))).showCert
      success s s.sec.identity))

def execSynSecCertSet (r : SynReq) (cert : List Byte) (s : State) : Res :=
  ok (s.syn 0x0D09 none r (fun s =>
    if cert.length > 57340 ∨ !s.certOk cert then refuse s 0x0102
    else success ({ s with flash := { s.flash with cert := cert } }.showCert)))

/-! ### Debug unlock (R318, R319) -/

/-- A fresh challenge replaces the previous one. -/
def State.newChallenge (s : State) : State :=
  { s.tick with sec := { s.sec with challenge := some (s.entropy 32) } }

def execSynSecDebugChallenge (r : SynReq) (s : State) : Res :=
  ok (s.syn 0x0D0A none r (fun s => let s := s.newChallenge; success s (s.sec.challenge.getD [])))

/-- The token is accepted (R318): it names the current challenge, this identity and a known signer, and verifies.
(Log entry 16: DEDUCED, safe.) -/
def State.tokenOk (s : State) (t : List Byte) : Bool :=
  let pub := (t.drop 29920).take 64
  let dig := shake pub 64
  t.length == 29984 && fieldLE t 0 4 == 1 && s.sec.challenge == some ((t.drop 8).take 32)
    && s.bit SEC_STATUS SEC_STATUS_ID_VALID && (t.drop 40).take 64 == s.sec.identity
    && (dig == fit 64 (Config.romDebugDigest (fieldLE t 104 4)) || (s.fw.cfg.debugDigests.take s.fw.cfg.ndebug).contains dig)
    && Config.slhDsaVerify 0 pub (t.take 128) ((t.drop 128).take 29792)

/-- An accepted token: its scope joins SEC_STATUS.DEBUG, MR4 takes its digest, and scope [0] or [1] derives K0 again.
(Log entry 141: DESIGN CHOICE, safe.) -/
def State.debugUnlock (s : State) (t : List Byte) : State :=
  let scope := fieldLE t 4 4 % 16
  let old := s.gf SEC_STATUS SEC_STATUS_DEBUG
  let s := s.sf SEC_STATUS SEC_STATUS_DEBUG (Nat.lor old scope)
  let s := s.tick.extendMR 4 (s.fresh 32).toNat (shake (t.take 29920) 64)
  if scope % 4 ≠ 0 then s.sealK0 else s

def execSynSecDebugUnlock (r : SynReq) (token : List Byte) (s : State) : Res :=
  ok (s.syn 0x0D0B none r (fun s =>
    if s.tokenOk token then
      let s := s.debugUnlock token
      success s (leBytes 4 (s.gf SEC_STATUS SEC_STATUS_DEBUG))
    else refuse s 0x0405))

end Sys2Proof.Machine
end

