-- ==== Sys2Proof/Machine/Firmware.lean ====
section
/-! DEFINITION. Device enable, firmware load, mailboxes, sessions, watchdogs, scheduling domains, live update, and Syncen
opcodes 0x0000 to 0x000B (17_firmware_and_syncen.md R358 to R384). -/

namespace Sys2Proof.Machine

/-- Cycles of the fabric clock in a millisecond. -/
def msCycles : Nat := 156250

/-- The DEV and MBX blocks are written by the host; JTAG reaches them with debug scope [0] (R318, R363, R365). (Log
entry 13: DEDUCED, unsafe.) -/
def devWrites (q : Requester) : Bool := q == .host || q == .jtag

/-! ### Device enable and load (R361 to R364) -/

/-- Configuration-consistency check of DEV_ENABLE.EN (R364). -/
def State.devCheck (s : State) : Option Nat :=
  let ring := (List.range 8).any (fun m => match (s.mb m).session with
    | some se => se.ring.isSome
    | none => false)
  if s.gf DEV_STATUS DEV_STATUS_STAGE ≠ 6 then some 0x0600
  else if !s.bit HBM_STATUS HBM_STATUS_READY then some 0x0601
  else if !ring then some 0x0602
  else if (List.range 30).any (fun d => s.coreOfDomain d == 255) then some 0x0603
  else none

/-- DEV_ENABLE: setting EN runs the check; clearing it stops new requests only. -/
def writeDevEnable (q : Requester) (v : W32) (s : State) : State :=
  if !devWrites q || s.hostDiscards q then s
  else if !bitAt v.toNat 0 then s.sf DEV_ENABLE DEV_ENABLE_EN 0
  else if s.bit DEV_ENABLE DEV_ENABLE_EN then s
  else match s.devCheck with
    | some c => s.sf DEV_ENABLE DEV_ENABLE_REFUSAL c
    | none => (s.sf DEV_ENABLE DEV_ENABLE_REFUSAL 0).sf DEV_ENABLE DEV_ENABLE_EN 1

def execDevEnableSet (q : Requester) (v : W32) (s : State) : Res := ok (writeDevEnable q (v ||| 1#32) s)
def execDevEnableClear (q : Requester) (v : W32) (s : State) : Res := ok (writeDevEnable q (v &&& ~~~1#32) s)

/-- DEV_LOAD_CTL: LENGTH is stored; GO in STAGE 4 starts a load (R362). -/
def writeLoadCtl (q : Requester) (v : W32) (s : State) : State :=
  if !devWrites q || s.hostDiscards q then s
  else
    let s := s.sf DEV_LOAD_CTL DEV_LOAD_CTL_LENGTH (bitsOf v.toNat 0 27)
    if bitAt v.toNat 31 && s.gf DEV_STATUS DEV_STATUS_STAGE == 4 then
      (s.sf DEV_LOAD_CTL DEV_LOAD_CTL_BUSY 1).sf DEV_STATUS DEV_STATUS_STAGE 5
    else s

def execGo (q : Requester) (v : W32) (s : State) : Res := ok (writeLoadCtl q (v ||| 0x80000000#32) s)

/-- DEV_LOAD_ADDR. -/
def writeLoadAddr (q : Requester) (hi : Bool) (v : W32) (s : State) : State :=
  if !devWrites q || s.hostDiscards q then s
  else if hi then s.wr (DEV_LOAD_ADDR + 4) v else s.wr DEV_LOAD_ADDR (v &&& 0xFFFFF000#32)

/-- Put a Tahr section into a half of control memory, the rest of the half zeroed. -/
def State.loadHalf (s : State) (half : Nat) (bs : List Byte) : State :=
  let lo := half % 2 * 2 ^ 21
  let kept := s.ctrl.filter (fun e => decide (e.1 < lo) || decide (lo + 2 ^ 21 ≤ e.1))
  { s with ctrl := ((List.range (min bs.length (2 ^ 21))).zip bs).foldl (fun m e => Tab.set memZero m (lo + e.1) e.2) kept }

/-- The end of a load (R361, R362): the verified package is measured and runs, or BOOT_ERR says why not. `readOk` is
false when the host read failed. (Log entries 171: DESIGN CHOICE, safe; 173: DESIGN CHOICE, safe.) -/
def execLoadDone (readOk : Bool) (s : State) : Res :=
  if s.gf DEV_STATUS DEV_STATUS_STAGE ≠ 5 then ok s
  else
    let s := s.sf DEV_LOAD_CTL DEV_LOAD_CTL_BUSY 0
    let img := s.hostBytes none (s.gf DEV_LOAD_ADDR DEV_LOAD_ADDR_ADDR <<< 12) (s.gf DEV_LOAD_CTL DEV_LOAD_CTL_LENGTH)
    let err := if !readOk || !s.hostUp then some 0x13 else imgError 1 s.fw.cfg.withdraw img
    match err with
    | some e => ok ((s.sf DEV_STATUS DEV_STATUS_BOOT_ERR e).sf DEV_STATUS DEV_STATUS_STAGE 4)
    | none =>
      let p := fwPackage img
      let s := s.poke Config.firmwareRegion img
      let s := s.tick.extendMR 2 (s.fresh 32).toNat p.tsDigest
      let s := s.tick.extendMR 1 (s.fresh 32).toNat p.imgDigest
      let s := s.loadHalf 0 (imgTahr img)
      let s := { s with fw := { s.fw with running := some p, half := 0 }, pins := { s.pins with dperst := [0, 1, 2, 3] } }
      let s := (List.range 32).foldl (fun (s : State) c => s.sf (CORE_STATUS c) CORE_STATUS_STATE 1) s
      let s := (s.wr64 DEV_FW_VERSION p.version).sf DEV_STATUS DEV_STATUS_BOOT_ERR 0
      ok (s.sf DEV_STATUS DEV_STATUS_STAGE 6).modeUpdate

/-- A Tahr core released from reset starts at address 0 of its image (R361, R378, R386): general registers, CSTATE,
VBASE, EVENTS, EVMASK, TIMER and local memory zero. -/
def execCoreStart (c : Fin 32) (s : State) : Res :=
  let st := s.gf (CORE_STATUS c.val) CORE_STATUS_STATE
  let t := s.tahrOf c.val
  if (st = 1 ∨ st = 2) ∧ !t.started then
    let s := { s with flt := { s.flt with coreMarks := s.flt.coreMarks.filter (fun e =>
      decide (e.1 / 2 ^ 32 ≠ c.val) || decide (e.1 % 2 ^ 32 < 0x1000_0000)) } }
    ok (s.setTahr c.val { Tahr.reset with half := t.half, started := true, startedAt := s.clock, timerAt := s.clock })
  else ok s

/-! ### Sessions (R372, R373) -/

/-- An instance goes to FREE (R346). -/
def State.instFree (s : State) (i : Nat) : State :=
  let s := (s.instConns i).foldl (fun (s : State) n => s.setCn n { s.cn n with inst := none }) s
  s.setInst i { s.instOf i with state := .free, session := 0, pasid := 0, vecFirst := 0, vecCount := 0, maxq := [] }

/-- DEV_HEARTBEAT: renews the session it names, timed in hardware; a lost or unknown one is not renewed. -/
def writeHeartbeat (q : Requester) (v : W32) (s : State) : State :=
  if !devWrites q || s.hostDiscards q then s
  else (List.range 8).foldl (fun (s : State) m =>
    match (s.mb m).session with
    | some se =>
      if se.id = v ∧ !se.lost then s.setMb m { s.mb m with session := some { se with renewed := s.clock } } else s
    | none => s) s

def execDevHeartbeat (q : Requester) (v : W32) (s : State) : Res := ok (writeHeartbeat q v s)

/-- Two seconds without a renewal: the session is lost and its instances enter QUIESCED, or it is closed when it owns
no instance. (Log entry 175: DEDUCED, unsafe.) -/
def execSessionLost (m : Fin 8) (s : State) : Res :=
  match (s.mb m.val).session with
  | some se =>
    if se.lost || decide (s.clock - se.renewed < 312500000) || s.safe then ok s
    else
      let own := s.instsOf se.id
      let s := if own.isEmpty then s.setMb m.val { s.mb m.val with session := none }
        else own.foldl (fun (s : State) i => s.instQuiesce i)
          (s.setMb m.val { s.mb m.val with session := some { se with lost := true } })
      ok (s.event 0x0084 (leBytes 4 se.id.toNat))
  | none => ok s

/-! ### Mailboxes (R365 to R368) -/

/-- Write bytes into consecutive registers. -/
def State.wrBytes (s : State) (off : Nat) : List Byte → State
  | [] => s
  | a :: b :: c :: d :: bs => (s.wr off (d ++ c ++ b ++ a)).wrBytes (off + 4) bs
  | bs => s.wr off (BitVec.ofNat 32 (leNat bs))

/-- Registers of a port: request area, response area, control. -/
def reqArea : SynPort → Nat
  | .mailbox m => MBX_REQ m.val
  | .page i => INSTP_REQ i.val
def rspArea : SynPort → Nat
  | .mailbox m => MBX_RSP m.val
  | .page i => INSTP_RSP i.val
def mbxCtl : SynPort → Nat
  | .mailbox m => MBX_CTL m.val
  | .page i => INSTP_MBX i.val

/-- A host write may reach the port: its block is up, and an instance page answers memory requests. -/
def State.portOpen (s : State) (p : SynPort) : Bool :=
  !s.safe && (match p with
    | .mailbox _ => decide (4 ≤ s.gf DEV_STATUS DEV_STATUS_STAGE) && !s.blockDown 1
    | .page _ => s.mse && !s.host.flrBusy && !s.blockDown 18)

/-- GO: the request area is copied and BUSY sets; later writes to the area do not change the request. EVENTS bit 1 sets on T0,
or on the core that carries its domains (R401). -/
def State.mbxTake (s : State) (p : SynPort) : State :=
  if !s.portOpen p || s.bit (mbxCtl p) MBX_CTL_BUSY then s
  else
    let words := (List.range 512).map (fun w => s.rd (reqArea p + 4 * w))
    let t0 := if s.gf (CORE_STATUS 0) CORE_STATUS_STATE = 3 then s.gf (CORE_STATUS 0) CORE_STATUS_HOST_CORE else 0
    let s := if t0 < 32 then s.setEvents t0 2 else s
    let s := (s.setMb (synBox p) { s.mb (synBox p) with taken := words }).sf (mbxCtl p) MBX_CTL_BUSY 1
    s.refuseUnknown p words

/-- MBX_CTL and INSTP_MBX: DONE clears by a one, GO takes the request. -/
def writeMbxCtl (q : Requester) (p : SynPort) (v : W32) (s : State) : State :=
  if !devWrites q || s.hostDiscards q then s
  else
    let s := if bitAt v.toNat 29 then s.sf (mbxCtl p) MBX_CTL_DONE 0 else s
    if bitAt v.toNat 31 then s.mbxTake p else s

def execMbxGo (q : Requester) (m : Fin 8) (s : State) : Res := ok (writeMbxCtl q (.mailbox m) 0x80000000#32 s)
def execInstpMbxGo (i : Fin 2048) (s : State) : Res := ok (writeMbxCtl .host (.page i) 0x80000000#32 s)

/-- Bytes of a response (R366). -/
def synHeader (a : SynAns) (length status : Nat) : List Byte :=
  leBytes 4 (a.major + a.minor * 2 ^ 8 + a.opcode % 2 ^ 16 * 2 ^ 16) ++ leBytes 4 (a.tag + 2 ^ 16) ++ leBytes 4 length
    ++ leBytes 4 (a.inst % 2 ^ 16 + status * 2 ^ 16)

/-- Payload as it fits a capacity, and the status: 0x01F2 when it is cut. -/
def cutTo (cap : Nat) (a : SynAns) : List Byte × Nat :=
  (a.payload.take cap, if a.payload.length > cap then 0x01F2 else a.status)

/-- The response area, BUSY and DONE; a mailbox with VEC_EN sends its vector. -/
def State.respond (s : State) (p : SynPort) (bs : List Byte) : State :=
  let s := s.setMb (synBox p) { s.mb (synBox p) with ans := none }
  let s := s.wrBytes (rspArea p) bs
  let s := (s.sf (mbxCtl p) MBX_CTL_BUSY 0).sf (mbxCtl p) MBX_CTL_DONE 1
  match p with
  | .mailbox m => if s.bit (MBX_VEC m.val) MBX_VEC_VEC_EN then s.raise (s.gf (MBX_VEC m.val) MBX_VEC_VECTOR) else s
  | .page _ => s

/-- A response that is ready is written (R365, R368): directly, or at RSP_ADDR by bus address without PASID. -/
def execMbxResponse (port : SynPort) (s : State) : Res :=
  match (s.mb (synBox port)).ans with
  | none => ok s
  | some a =>
    if s.safe then ok s
    else match a.ind with
      | none =>
        let (pl, st) := cutTo 1904 a
        ok (s.respond port (synHeader a pl.length st ++ pl))
      | some i =>
        let (pl, st) := cutTo i.rspLen.toNat a
        if pl.isEmpty then ok (s.respond port (synHeader a 0 st))
        else if s.hostUp then ok ((s.hostPut none i.rspAddr.toNat pl).respond port (synHeader a pl.length st))
        else ok s

/-! ### Watchdogs (R377 to R379) -/

def svcReset : Nat → CoreSvc := fun _ => CoreSvc.reset
def State.svc (s : State) (c : Nat) : CoreSvc := Tab.get svcReset s.coreSvc c
def State.setSvc (s : State) (c : Nat) (v : CoreSvc) : State := { s with coreSvc := Tab.set svcReset s.coreSvc c v }

/-- CORE_WDG of core c: only the core itself enables and renews; TIMEOUT_MS changes only while EN is zero. (Log entry
170: DEDUCED, unsafe.) -/
def writeCoreWdg (q : Requester) (c : Fin 33) (v : W32) (s : State) : State :=
  if q != .core c || s.blockDown 17 then s
  else
    let en := s.bit (CORE_WDG c.val) CORE_WDG_EN
    let s := if en then s else s.sf (CORE_WDG c.val) CORE_WDG_TIMEOUT_MS (bitsOf v.toNat 0 10)
    let s := if bitAt v.toNat 31 then s.sf (CORE_WDG c.val) CORE_WDG_EN 1 else s
    if bitAt v.toNat 30 || (bitAt v.toNat 31 && !en) then s.setSvc c.val { s.svc c.val with lastKick := s.clock } else s

/-- (Log entry 170: DEDUCED, unsafe.) -/
def execKick (q : Requester) (c : Fin 33) (s : State) : Res := ok (writeCoreWdg q c 0x40000000#32 s)
def execWatchdogEnable (q : Requester) (c : Fin 33) (v : W32) (s : State) : Res :=
  ok (writeCoreWdg q c (v ||| 0x80000000#32) s)

/-- The domains a core carries. -/
def State.domainsOf (s : State) (c : Nat) : List Nat := (List.range 30).filter (fun d => s.coreOfDomain d == c)

/-- What a rolled-back record of a step brings back: the stream's Eland bytes and TOKENS as its context held them before the
step, with TIER_ROWS and PULLED_TO no higher, its history ring, and the inputs of a prefill entry, which wait for the next
prefill launch again (R152, R155). -/
def State.undoRecord (s : State) (r : ElRecord) : State :=
  let n := r.stream
  if s.cx n cxGEN ≠ cxGEN.read r.before then s
  else
    let tokens := cxTOKENS.read r.before
    let s := s.setCtx n ((s.ctx n).take 128 ++ r.before.drop 128)
    let s := (s.setCx n cxTOKENS tokens).setCx n cxTIER_ROWS (min tokens (s.cx n cxTIER_ROWS))
    let s := (s.setCx n cxPULLED_TO (min tokens (s.cx n cxPULLED_TO))).poke (s.cx n exHIST_ADDR / 1024 * 1024) r.ring
    { s with eland := { s.eland with streams := s.eland.streams.map (fun (e : ElStream) =>
      if e.stream = n then { e with prefill := if r.inputs = [] then e.prefill else r.inputs } else e) } }

/-- Steps of a cohort not yet committed are rolled back with their contexts, newest first: the launch is forgotten, and its
tails fail the STEP check of later launches (R155). (Log entry 350: DEDUCED, unsafe.) -/
def State.elandRestart (s : State) (doms : List Nat) : State :=
  let mine (c : Nat) : Bool := doms.contains (c + 1)
  let gone (r : ElRecord) : Bool := mine (r.cstep % 2) && decide (s.rd64 CKP_REPLICA < r.cstep)
  let undone := s.eland.staged.filter gone
  let s := { s with eland := { s.eland with
    launches := s.eland.launches.filter (fun e => !mine e.1)
    staged := s.eland.staged.filter (fun r => !gone r)
    advances := s.eland.advances.filter (fun a => !undone.any (fun r => r.stream == a.1))
    streams := s.eland.streams.map (fun (e : ElStream) =>
      if mine e.cohort then { e with drafts := [], qs := [], ctl := none } else e) } }
  undone.reverse.foldl State.undoRecord s

/-- A core is held in reset (R378): its registers are lost and it starts again at address 0 of its image. -/
def State.holdCore (s : State) (c : Nat) : State := s.setTahr c { Tahr.reset with half := (s.tahrOf c).half }

/-- The lowest standby core in service that carries no domain. -/
def State.freeStandby (s : State) : Option Nat :=
  [30, 31].find? (fun c => s.gf (CORE_STATUS c) CORE_STATUS_STATE == 1 && (s.domainsOf c).isEmpty)

/-- A watchdog expires: the core restarts alone, or goes out of service on a second expiry within 10 s of its previous
one, and its domains move to a standby core, which starts at address 0 of the image they run (R386), or stay paused.
(Log entries 170: DEDUCED, unsafe; 171: DESIGN CHOICE, safe.) -/
def execWatchdogExpiry (c : Fin 33) (s : State) : Res :=
  let n := c.val
  let v := s.svc n
  let st := s.gf (CORE_STATUS n) CORE_STATUS_STATE
  let limit := max 1 (s.gf (CORE_WDG n) CORE_WDG_TIMEOUT_MS) * msCycles
  if !s.bit (CORE_WDG n) CORE_WDG_EN || (st ≠ 1 ∧ st ≠ 2) || decide (s.clock - v.lastKick < limit) then ok s
  else
    let pc := if n = 32 then (s.fresh 32).toNat else (s.tahrOf n).pc.toNat
    let s := s.tick
    let again := match v.lastExpiry with
      | some t => decide (s.clock - t ≤ 1562500000)
      | none => false
    let doms := s.domainsOf n
    let s := s.setSvc n ⟨s.clock, some s.clock, s.clock :: v.recent.filter (fun t => decide (s.clock - t ≤ 1562500000))⟩
    let s := (s.holdCore n).elandRestart doms
    if again then
      let s := s.sf (CORE_STATUS n) CORE_STATUS_STATE 3
      let standby := s.freeStandby
      let carried := (List.range 33).filter (fun k => k == n || s.gf (CORE_STATUS k) CORE_STATUS_HOST_CORE == n)
      let host := (standby.getD 255)
      let s := { s with
        domainCore := doms.foldl (fun t d => Tab.set (fun d => d) t d host) s.domainCore
        paused := if standby.isSome then s.paused.filter (fun d => !doms.contains d)
          else s.paused ++ doms.filter (fun d => !s.paused.contains d) }
      let s := match standby with
        | some k => if doms.isEmpty then s else s.setTahr k { Tahr.reset with half := (s.tahrOf n).half }
        | none => s
      let s := if doms.isEmpty then s
        else carried.foldl (fun (s : State) k => s.sf (CORE_STATUS k) CORE_STATUS_HOST_CORE host) s
      let s := s.fault 0x12 n pc
      ok ((s.event 0x0081 (leBytes 1 n ++ leBytes 1 host)).flushFltEvents)
    else
      let s := (s.sf (CORE_STATUS n) CORE_STATUS_STATE 2).cnt (CORE_STATUS n) CORE_STATUS_RESTARTS 1
      let s := { s with paused := s.paused ++ doms.filter (fun d => !s.paused.contains d) }
      ok (s.fault 0x11 n pc)

/-- A restarted core has rebuilt its domains: they resume and EVT_CORE_RESTART goes; TS signs its report again (R320). -/
def execCoreRestartDone (c : Fin 33) (s : State) : Res :=
  let n := c.val
  if s.gf (CORE_STATUS n) CORE_STATUS_STATE ≠ 2 ∨ (n < 32 ∧ !(s.tahrOf n).started) then ok s
  else
    let doms := s.domainsOf n
    let s := s.sf (CORE_STATUS n) CORE_STATUS_STATE 1
    let s := { s with paused := s.paused.filter (fun d => !doms.contains d) }
    let s := if n = 32 then s.signAgain else s
    let k := ((s.svc n).recent.filter (fun t => decide (s.clock - t ≤ 1562500000))).length
    ok ((s.event 0x0080 (leBytes 1 n ++ leBytes 4 (doms.foldl (fun a d => a + 2 ^ d) 0) ++ leBytes 2 k)).flushFltEvents)

/-! ### Live update (R380, R381) -/

/-- A domain may switch now: its core runs or it has none, and an Eland domain is at its cohort's commit. -/
def State.maySwitch (s : State) (d : Nat) : Bool :=
  let c := s.coreOfDomain d
  (c == 255 || s.gf (CORE_STATUS c) CORE_STATUS_STATE == 1) &&
    (!(d == 1 || d == 2) || (match s.elLaunch (d - 1) with | some l => l.sampled | none => true))

/-- The last switch: MR1, DEV_FW_VERSION, STAGE 6, EVT_ACTIVATED, and the storage queues return to ACTIVE. -/
def State.activated (s : State) (p : FwPackage) : State :=
  let s := s.extendMR 1 4 p.imgDigest
  let us := (s.clock - s.fw.activateAt) * 64 / 10000
  let s := { s with fw := { s.fw with running := some p, staged := none, activating := false, switched := [], half := 1 - s.fw.half } }
  let s := (s.wr64 DEV_FW_VERSION p.version).sf DEV_STATUS DEV_STATUS_STAGE 6
  (s.stoResume).event 0x0085 (leBytes 8 p.version ++ leBytes 4 us)

def execDomainSwitch (d : Fin 30) (s : State) : Res :=
  if !s.fw.activating || s.fw.switched.contains d.val || !s.maySwitch d.val || s.safe then ok s
  else
    let c := s.coreOfDomain d.val
    let s := if c < 32 then s.setTahr c { s.tahrOf c with half := 1 - s.fw.half } else s
    let s := { s with fw := { s.fw with switched := insertKey s.fw.switched d.val } }
    match s.fw.staged with
    | some p =>
      if s.fw.switched.length = 30 then
        -- the standby cores and those that carry no domain run the new image too
        let s := (List.range 32).foldl (fun (s : State) c =>
          if (s.tahrOf c).half = 1 - s.fw.half then s else s.setTahr c { s.tahrOf c with half := 1 - s.fw.half }) s
        ok (s.activated p)
      else ok s
    | none => ok s

/-! ### Syncen operations (R384); domain 0 carries them -/

def domFw : Option Nat := some 0

/-- Syncen versions accepted (major, minor of each), DEV_FW_VERSION, STAGE, BOOT_ERR, CFG_VALID. -/
def execSynFwVersion (r : SynReq) (s : State) : Res :=
  ok (s.syn 0x0000 none r (fun s =>
    success s ([3, 2, 2, 5] ++ leBytes 8 (s.rd64 DEV_FW_VERSION) ++ leBytes 1 (s.gf DEV_STATUS DEV_STATUS_STAGE)
      ++ leBytes 1 (s.gf DEV_STATUS DEV_STATUS_BOOT_ERR) ++ leBytes 1 (s.gf DEV_STATUS DEV_STATUS_CFG_VALID))))

/-- A session identifier: non-zero, from the entropy source (R372). -/
def State.newSession (s : State) : W32 := BitVec.ofNat 32 ((Config.freeNonzero32 s.free).val + 1)

/-- The instances of a session are reset and freed. -/
def State.reclaimInsts (s : State) (id : W32) : State :=
  (s.instsOf id).foldl (fun (s : State) i => (s.instReset i).instFree i) s

/-- A mailbox gets a new session, whose identifier is the answer. -/
def State.openSession (s : State) (m : Nat) : State × Nat × List Byte :=
  let se : Session := ⟨s.newSession, false, s.clock, none⟩
  success (s.tick.setMb m { s.mb m with session := some se }) (leBytes 4 se.id.toNat)

def execSynFwSessionOpen (r : SynReq) (reclaim : Bool) (s : State) : Res :=
  ok (s.syn 0x0001 domFw r (fun s =>
    let m := synBox r.port
    match (s.mb m).session with
    | none => if reclaim then refuse s 0x0201 else s.openSession m
    | some se =>
      if se.lost && reclaim then (s.reclaimInsts se.id).openSession m else refuse s 0x0201))

/-- The mailbox that a lost session holds. -/
def State.lostBox (s : State) (id : W32) : Option (Nat × Session) :=
  (List.range 8).findSome? (fun m => match (s.mb m).session with
    | some se => if se.id = id ∧ se.lost then some (m, se) else none
    | none => none)

def execSynFwSessionAttach (r : SynReq) (id : BitVec 32) (s : State) : Res :=
  ok (s.syn 0x0002 domFw r (fun s =>
    let m := synBox r.port
    match s.lostBox id with
    | none => refuse s 0x0201
    | some (m', se) =>
      if m' ≠ m ∧ (s.mb m).session.isSome then refuse s 0x0201
      else
        let head := s.rd (MBX_EVT_HEAD m')
        let s := s.setMb m' { s.mb m' with session := none }
        let s := s.setMb m { s.mb m with session := some { se with lost := false, renewed := s.clock } }
        let s := if m' = m then s else s.wr (MBX_EVT_HEAD m) head
        success ((s.instsOf id).foldl (fun (s : State) i => s.instReattach i) s)))

def execSynFwSessionClose (r : SynReq) (s : State) : Res :=
  ok (s.syn 0x0003 domFw r (fun s =>
    match s.sessionOf r with
    | none => refuse s 0x0407
    | some se =>
      if !(s.instsOf se.id).isEmpty then refuse s 0x020A
      else success (s.setMb (synBox r.port) { s.mb (synBox r.port) with session := none })))

def execSynFwEventRingSet (r : SynReq) (addr : BitVec 64) (log2n : Byte) (vector : W16) (s : State) : Res :=
  ok (s.syn 0x0004 domFw r (fun s =>
    let m := synBox r.port
    match s.sessionOf r with
    | none => refuse s 0x0407
    | some se =>
      if log2n.toNat < 4 ∨ log2n.toNat > 12 ∨ vector.toNat > 2047 then refuse s 0x0102
      else
        let ring : EventRing := ⟨addr.toNat, log2n.toNat, vector.toNat, 0, 0, 0, []⟩
        success ((s.setMb m { s.mb m with session := some { se with ring := some ring } }).wr (MBX_EVT_HEAD m) 0)))

/-- The refusal of an image (R380): 0x04F1 for an unknown or withdrawn key, 0x04F0 otherwise. -/
def imgRefusal (e : Nat) : Nat := if e = 0x11 then 0x04F1 else 0x04F0

def execSynFwUpdate (r : SynReq) (package : List (BitVec 8)) (s : State) : Res :=
  ok (s.syn 0x0005 domFw r (fun s =>
    if s.fw.activating then refuse s 0x0201
    else match imgError 1 s.fw.cfg.withdraw package with
      | some e => refuse s (imgRefusal e)
      | none =>
        let p := fwPackage package
        let v := (s.fw.running.map (·.handoffVer)).getD 0
        if v < p.handoffMin ∨ v > p.handoffMax then refuse s 0x02F2
        else success ({ s with fw := { s.fw with staged := some p } }.loadHalf (1 - s.fw.half) (imgTahr package))))

def execSynFwActivate (r : SynReq) (s : State) : Res :=
  ok (s.syn 0x0006 domFw r (fun s =>
    if s.fw.staged.isNone ∨ s.fw.activating then refuse s 0x0201
    else if s.recovering then refuse s 0x02F1
    else
      let s := { s with fw := { s.fw with activating := true, activateAt := s.clock, switched := [] } }
      success ((s.sf DEV_STATUS DEV_STATUS_STAGE 7).stoPause)))

def execSynFwDomainQuery (r : SynReq) (s : State) : Res :=
  ok (s.syn 0x0007 domFw r (fun s =>
    success s ((List.range 30).flatMap (fun d => leBytes 1 (s.coreOfDomain d))
      ++ leBytes 4 (s.paused.foldl (fun a d => a + 2 ^ d) 0))))

/-- CORE_STATUS, and the restart times of the last 10 s in ns of the fabric clock. -/
def execSynFwCoreQuery (r : SynReq) (c : Fin 33) (s : State) : Res :=
  ok (s.syn 0x0008 domFw r (fun s =>
    success s (leBytes 4 (s.rd (CORE_STATUS c.val)).toNat ++ (s.svc c.val).recent.flatMap (fun t => leBytes 8 (t * 64 / 10)))))

/-- Pinned host spill buffers: bus addresses and sizes (R60). A buffer without bytes, or past 64 bits, is out of range. -/
def execSynFwSpillSet (r : SynReq) (buffers : List (BitVec 64 × BitVec 64)) (s : State) : Res :=
  ok (s.syn 0x0009 domFw r (fun s =>
    if buffers.any (fun b => b.2.toNat == 0 || decide (b.1.toNat + b.2.toNat > 2 ^ 64)) then refuse s 0x0102
    else success { s with fw := { s.fw with spill := buffers.map (fun b => (b.1.toNat, b.2.toNat)) } }))

/-- The body fields in force, the copy, and VERSION. -/
def execSynFwConfigQuery (r : SynReq) (s : State) : Res :=
  ok (s.syn 0x000A domFw r (fun s =>
    let c := s.fw.cfg
    success s (leBytes 1 c.mode ++ leBytes 2 c.subsys ++ leBytes 1 c.withdraw ++ leBytes 1 c.ndebug ++ leBytes 1 c.spillMib
      ++ (c.debugDigests.map (fit 64)).flatten ++ leBytes 1 (s.gf DEV_STATUS DEV_STATUS_CFG_SLOT) ++ leBytes 8 c.version)))

/-- The image is verified and written over the copy not in use; it takes effect at the next full device reset (R360).
With no copy in use it is written over copy A. (Log entry 176: DEDUCED, unsafe.) -/
def execSynFwConfigWrite (r : SynReq) (image : List (BitVec 8)) (s : State) : Res :=
  ok (s.syn 0x000B domFw r (fun s =>
    match imgError 2 0 image with
    | some e => refuse s (imgRefusal e)
    | none =>
      let toA := !s.bit DEV_STATUS DEV_STATUS_CFG_VALID || s.bit DEV_STATUS DEV_STATUS_CFG_SLOT
      success { s with flash := if toA then { s.flash with cfgA := image } else { s.flash with cfgB := image } }))

end Sys2Proof.Machine
end

