-- ==== Sys2Proof/Machine/Checkpoint.lean ====
section
/-! DEFINITION. Checkpoints, recovery and leases (21_checkpoint_and_recovery.md R440 to R467). -/

namespace Sys2Proof.Machine

/-! ### Control messages (table after R462) -/

/-- A big-endian field of a message. -/
def ckpBe (bs : List Byte) (off n : Nat) : Nat := beNat ((bs.drop off).take n)
def cmRank (bs : List Byte) : Nat := ckpBe bs 2 2
def cmReplica (bs : List Byte) : Nat := ckpBe bs 4 4
def cmView (bs : List Byte) : Nat := ckpBe bs 8 4
def cmSeq (bs : List Byte) : Nat := ckpBe bs 12 4
def cmStep (bs : List Byte) : Nat := ckpBe bs 16 8
def cmArg (bs : List Byte) : Nat := ckpBe bs 24 4

/-- The addresses in the body of a PROPOSE or VIEW_INSTALL. -/
def cmMembers (bs : List Byte) : List Nat := (List.range ((bs.length - 64) / 4)).map (fun i => ckpBe bs (64 + 4 * i) 4)

/-- A checkpoint control message. -/
def ckpMessage (kind rank replica view seq cstep arg : Nat) (body : List Byte) : List Byte :=
  [1, BitVec.ofNat 8 kind] ++ beBytes 2 rank ++ beBytes 4 replica ++ beBytes 4 view ++ beBytes 4 seq
    ++ beBytes 8 cstep ++ beBytes 4 arg ++ List.replicate 36 0 ++ body

/-- The checkpoint engine's number among the transport's internal requesters. -/
def ckpWho : Nat := 3

/-- This node's fabric address. -/
def State.ckpAddr (s : State) : Nat := (s.rd TRN_ADDR).toNat

/-- The READY connection of CONSUMER 3 to a fabric address. -/
def State.ckpConnTo (s : State) (addr : Nat) : Option Nat :=
  (s.trn.conns.find? (fun e => e.2.state == csReady && e.2.consumer == 3 && e.2.peerAddr == addr)).map (·.1)

/-- Send message bytes on a connection under a tag. -/
def State.ckpSendOn (s : State) (conn tag : Nat) (fence : Bool) (bs : List Byte) : State :=
  s.internalMsg ckpWho (mkReq 2 conn tag 0 bs.length 0 0 0 false fence false []) bs

/-- Send a control message to a fabric address, when a connection to it stands. -/
def State.ckpTell (s : State) (addr : Nat) (bs : List Byte) : State :=
  match s.ckpConnTo addr with
  | some n => s.ckpSendOn n 0xFFFF false bs
  | none => s

/-- A message of this node as a member. -/
def State.ckpSays (s : State) (kind seq cstep arg : Nat) (body : List Byte := []) : List Byte :=
  ckpMessage kind s.ckp.rank s.ckp.replica s.ckp.view seq cstep arg body

/-- The other members of the current view. -/
def State.ckpOthers (s : State) : List Nat := s.ckp.members.filter (· != s.ckpAddr)

/-- Send to every other member of the view. -/
def State.ckpTellAll (s : State) (bs : List Byte) : State := s.ckpOthers.foldl (fun (s : State) a => s.ckpTell a bs) s

/-- Take a complete control message of a kind that a connection delivered, while the checkpoint domains run. -/
def State.ckpTake (s : State) (conn msn kind : Nat) : Option (List Byte) × State :=
  let here (b : Inbound) : Bool := b.consumer == 3 && b.conn == conn && b.msn == msn && b.complete
  match s.trn.inbox.find? here with
  | some b =>
    let bs := b.parts.foldl (fun bs p => bs.take p.1 ++ p.2 ++ bs.drop (p.1 + p.2.length)) (List.replicate b.total (0#8))
    if fieldLE bs 1 1 = kind ∧ s.domainRuns 13 then
      let s := { s with trn := { s.trn with inbox := s.trn.inbox.filter (fun x => !here x) } }
      if fieldLE bs 0 1 = 1 ∧ !b.poison then (some bs, s) else (none, s)
    else (none, s)
  | none => (none, s)

/-- A message to this node as a member: one of another replica is discarded, and so is one of another view unless the
kind is excepted. -/
def State.ckpMember (s : State) (conn msn kind : Nat) (anyView : Bool) (f : List Byte → State → State) : State :=
  match s.ckpTake conn msn kind with
  | (some bs, s) =>
    if cmReplica bs ≠ s.ckp.replica ∨ (!anyView ∧ cmView bs ≠ s.ckp.view) then s else f bs s
  | (none, s) => s

/-! ### The configuration record (R441, R442, R466) -/

def State.ckpEn (s : State) : Bool := s.bit CKP_CTL CKP_CTL_EN

def State.ckpCfg (s : State) : Nat := s.gf CKP_CFG_BASE CKP_CFG_BASE_BASE <<< 12
def State.ckpStage (s : State) : Nat := shl (s.gf CKP_STAGE CKP_STAGE_BASE) 20
def State.ckpStageBytes (s : State) : Nat := s.gf CKP_STAGE CKP_STAGE_MIB * 2 ^ 20

/-- Region record r, when VALID. -/
def ckpRegionRec (cfg : List Byte) (r : Nat) : Option CkpRegion :=
  let b := (cfg.drop (64 + r * 64)).take 64
  let w := fieldLE b 0 8
  if bitAt w 0 then
    some ⟨r, bitsOf w 1 2, bitAt w 3, bitsOf w 12 40 * 4096, fieldLE b 8 4 % 2 ^ 26, fieldLE b 12 4, fieldLE b 16 8,
      fieldLE b 24 1 % 64, fieldLE b 25 1 % 16, fieldLE b 25 1 / 16, fieldLE b 26 2⟩
  else none

/-- The VALID regions of a record. -/
def ckpRegions (cfg : List Byte) : List CkpRegion := (List.range (fieldLE cfg 24 1 % 64)).filterMap (ckpRegionRec cfg)

/-- A region's fields are in range, and it lies in HBM (0x0631). -/
def CkpRegion.ok (r : CkpRegion) : Bool :=
  r.kind != 3 && decide (1 ≤ r.pages) && decide (r.pages ≤ 33554432) && inHbm r.base (r.pages * 4096)
    && (r.nfmt == 0 || ((r.nfmt == 0xA || r.nfmt == 0xB) && isBlock r.sfmt))

/-- The configuration-consistency check that setting EN runs: its code, none when it passes. (Log entry 211: DEDUCED,
unsafe.) -/
def State.ckpCheck (s : State) (leaseEn : Bool) : Option Nat :=
  let cfg := s.bytes s.ckpCfg 4096
  let rs := ckpRegions cfg
  let mib := s.gf CKP_STAGE CKP_STAGE_MIB
  let c := s.cn (fieldLE cfg 8 4 % 2 ^ 20)
  let pages := rs.foldl (fun n r => if r.kind = 0 then n + r.pages else n) 0
  let distinct := s.ckp.witnesses.foldl insertKey []
  if !inHbm s.ckpCfg 4096 || !inHbm s.ckpStage s.ckpStageBytes || overlaps s.ckpCfg 4096 s.ckpStage s.ckpStageBytes
      || decide (mib < 64) || decide (mib > 4096) then some 0x0630
  else if fieldLE cfg 24 1 % 64 = 0 ∨ fieldLE cfg 6 2 = 0 ∨ fieldLE cfg 6 2 > 256 ∨ fieldLE cfg 16 2 < 256
      ∨ !rs.all CkpRegion.ok
      ∨ rs.any (fun r => rs.any (fun q => q.ix != r.ix && overlaps r.base (r.pages * 4096) q.base (q.pages * 4096))) then
    some 0x0631
  else if c.state ≠ csReady ∨ c.consumer ≠ 3 then some 0x0632
  else if s.ckpStageBytes < 16 * 2 ^ 20 + pages then some 0x0633
  else if leaseEn ∧ distinct.length < 5 then some 0x0634
  else none

/-- An accepted enable: the record is loaded, and no page has been written since the last mark. -/
def State.ckpLoad (s : State) : State :=
  let cfg := s.bytes s.ckpCfg 4096
  let f := fieldLE cfg 20 4
  { s with ckp := { s.ckp with
    replica := fieldLE cfg 0 4, rank := fieldLE cfg 4 2, nranks := fieldLE cfg 6 2, conn := fieldLE cfg 8 4 % 2 ^ 20
    jkey := fieldLE cfg 12 4, jpages := fieldLE cfg 16 2, cflag := if bitAt f 31 then some (f % 2 ^ 18) else none
    regions := ckpRegions cfg, touched := [], pre := [], captures := [], entryNo := 0, sent := [], appends := []
    appendNo := 0, journal := [], jNext := 0 } }

/-- CKP_CTL: LEASE_EN is stored; EN going from zero to one runs the check, and a failing check leaves EN zero. (Log
entry 344: DEDUCED, unsafe.) -/
def writeCkpCtl (q : Requester) (v : W32) (s : State) : State :=
  if !coreWrites q then s
  else
    let s := s.sf CKP_CTL CKP_CTL_LEASE_EN (bitsOf v.toNat 1 1)
    if !bitAt v.toNat 0 then s.sf CKP_CTL CKP_CTL_EN 0
    else if s.ckpEn then s
    else
      let s := (s.load s.ckpCfg 4096).2.2
      match s.ckpCheck (s.bit CKP_CTL CKP_CTL_LEASE_EN) with
      | some c => s.sf CKP_CTL CKP_CTL_REFUSAL c
      | none => ((s.sf CKP_CTL CKP_CTL_REFUSAL 0).sf CKP_CTL CKP_CTL_EN 1).ckpLoad

/-- CKP_CFG_BASE: no effect while EN is one. -/
def writeCkpBase (q : Requester) (off : Nat) (mask v : W32) (s : State) : State :=
  if !coreWrites q || s.ckpEn then s else s.wr off (v &&& mask)

/-- CKP_STAGE: the size has no effect while EN is one. -/
def writeCkpStage (q : Requester) (hi : Bool) (v : W32) (s : State) : State :=
  if !coreWrites q then s
  else if hi then s.wr (CKP_STAGE + 4) (v &&& 0xFFFFF#32)
  else
    let w := if s.ckpEn then (v &&& 0xFFF00000#32) ||| (s.rd CKP_STAGE &&& 0x1FFF#32) else v &&& 0xFFF01FFF#32
    s.wr CKP_STAGE w

/-- CKP_MARKED: writable only while EN is zero. -/
def writeCkpMarked (q : Requester) (hi : Bool) (v : W32) (s : State) : State :=
  if !coreWrites q || s.ckpEn then s else s.wr (CKP_MARKED + if hi then 4 else 0) v

def execCkpEnSet (q : Requester) (v : W32) (s : State) : Res := ok (writeCkpCtl q (v ||| 1#32) s)

/-! ### Marks and the buddy copy (R440 to R446) -/

/-- First writes that waited for room are done, oldest first, until one finds none. (Log entry 210: DEDUCED, unsafe.) -/
def State.retryHeld : Nat → State → State
  | 0, s => s
  | k + 1, s =>
    match s.ckp.held with
    | [] => s
    | h :: rest =>
      match s.capture h.addr h.data.length with
      | some s => State.retryHeld k ({ s with ckp := { s.ckp with held := rest } }.landHbm h.addr h.data h.poison)
      | none => s

/-- A page's content at a mark: its earliest pre-image tagged with the mark or later, else the live page (R444). -/
def State.pageAt (s : State) (r : CkpRegion) (page m : Nat) : List Byte :=
  match s.ckp.pre.find? (fun p => p.region == r.ix && p.page == page && decide (m ≤ p.tag)) with
  | some p => p.data
  | none => s.memBytes (r.base + page * 4096) 4096

/-- The same page read for its copy: a live page is read through its channels' checkers (R168). -/
def State.readAt (s : State) (r : CkpRegion) (page m : Nat) : Bool × List Byte × State :=
  match s.ckp.pre.find? (fun p => p.region == r.ix && p.page == page && decide (m ≤ p.tag)) with
  | some p => (p.poison, p.data, s)
  | none => s.readPage (r.base + page * 4096)

/-- Pages in increasing region, then page (R444). -/
def insertPage (x : Nat × Nat) : List (Nat × Nat) → List (Nat × Nat)
  | [] => [x]
  | y :: ys => if x.1 < y.1 ∨ (x.1 = y.1 ∧ x.2 ≤ y.2) then x :: y :: ys else y :: insertPage x ys
def sortPages (l : List (Nat × Nat)) : List (Nat × Nat) := l.foldr insertPage []

/-- A free entry of the buddy's journal ring: entries of replica-committed marks have been applied and freed. -/
def State.journalRoom (s : State) : Bool :=
  decide ((s.ckp.sent.filter (fun e => decide (e.2 > s.rd64 CKP_REPLICA))).length < s.ckp.jpages)

def State.setCapture (s : State) (c : CkpCapture) : State :=
  { s with ckp := { s.ckp with captures := s.ckp.captures.map (fun x => if x.mark = c.mark then c else x) } }

/-- A journal entry (R444). -/
def journalEntry (cstep region page : Nat) (data : List Byte) : List Byte :=
  leBytes 8 cstep ++ leBytes 1 region ++ [0, 0, 0] ++ leBytes 4 page ++ List.replicate 48 0 ++ fit 4096 data

/-- An entry is numbered and kept as sent until its mark is replicated. -/
def State.noteSent (s : State) (mark : Nat) : State :=
  { s with ckp := { s.ckp with
    entryNo := s.ckp.entryNo + 1
    sent := s.ckp.sent.filter (fun (x : Nat × Nat) => decide (x.2 > s.rd64 CKP_REPLICA)) ++ [(s.ckp.entryNo, mark)] } }

/-- The message of entry `n`: a write into the partner's journal (R444). -/
def State.entryReq (s : State) (n mark : Nat) :=
  mkReq 0 s.ckp.conn (mark % 8) 0 4160 s.ckp.jkey (n % s.ckp.jpages * 4160) 0 false false false []

/-- The entry of one page of a capture goes to the partner (R444): numbered, kept as sent, in flight for its capture. -/
def State.sendEntry (s : State) (c : CkpCapture) (rg : CkpRegion) (page : Nat) : State :=
  let q := s.readAt rg page c.mark
  (q.2.2.noteSent c.mark).internalMsg ckpWho (s.entryReq s.ckp.entryNo c.mark) (journalEntry c.mark rg.ix page q.2.1) q.1

/-- The JOURNAL_COMMIT of a capture whose entries have gone (R444). -/
def State.sendCommit (s : State) (c : CkpCapture) : State :=
  let n := (s.ckp.sent.filter (fun x => x.2 == c.mark)).length
  s.ckpSendOn s.ckp.conn (8 + c.mark % 8) true (s.ckpSays 2 0 c.mark n)

/-- Send the next journal entry, or the JOURNAL_COMMIT of a capture whose entries have gone; none when nothing may be
sent. -/
def State.ckpSend1 (s : State) : Option State :=
  match s.ckp.captures.find? (fun c => c.commit == 0) with
  | none => none
  | some c =>
    if !s.ckpEn ∨ (s.cn s.ckp.conn).state ≠ csReady then none
    else match c.left with
      | (r, page) :: rest =>
        match s.ckp.regions.find? (fun x => x.ix == r) with
        | none => some (s.setCapture { c with left := rest })
        | some rg =>
          if !s.journalRoom then none
          else some ((s.setCapture { c with left := rest, outstanding := c.outstanding + 1 }).sendEntry c rg page)
      | [] => some ((s.setCapture { c with commit := 1 }).sendCommit c)

def State.ckpSendAll : Nat → State → State
  | 0, s => s
  | k + 1, s =>
    match s.ckpSend1 with
    | some s => State.ckpSendAll k s
    | none => s

/-- Send what may be sent, oldest capture first. -/
def State.ckpSend (s : State) : State :=
  State.ckpSendAll (s.ckp.captures.foldl (fun n c => n + c.left.length + 1) 0) s

/-- A mark (R440, R444, R448, R451): taken, or ignored while four marks wait for the replica. (Log entry 211:
DEDUCED, unsafe.) -/
def State.ckpMark (s : State) (snap : Bool) : State :=
  if !s.ckpEn then s
  else if s.rd64 CKP_REPLICA + 4 ≤ s.rd64 CKP_MARKED then s.sf CKP_STATUS CKP_STATUS_MARK_REFUSED 1
  else
    let m := s.rd64 CKP_MARKED + 1
    let s := s.wr64 CKP_MARKED m
    let c : CkpCapture := ⟨m, sortPages s.ckp.touched, 0, 0, s.ckp.appendNo⟩
    let s := { s with ckp := { s.ckp with captures := s.ckp.captures ++ [c], touched := [] } }
    let s := if snap ∧ s.ckp.pin.isNone then
        { s.sf CKP_STATUS CKP_STATUS_PIN 1 with
          ckp := { s.ckp with pin := some m, pinAt := s.now, pinDone := [], pinMark := some m } }
      else s
    s.ckpSend

/-! ### Rollback (R450) -/

/-- The earliest pre-image tagged `r` or above of each page. -/
def earliest (r : Nat) (pre : List PreImage) : List PreImage :=
  pre.foldl (fun acc p =>
    if p.tag < r ∨ acc.any (fun x => x.region == p.region && x.page == p.page) then acc else acc ++ [p]) []

/-- CKP_MARK.ROLLBACK: ROLLBACK_BUSY sets, the pages return to their content at R, and what was above R is discarded
on this node. (Log entry 214: DEDUCED, unsafe.) -/
def State.ckpRollback (s : State) : State :=
  let r := s.rd64 CKP_REPLICA
  let s := s.sf CKP_STATUS CKP_STATUS_ROLLBACK_BUSY 1
  let s := (earliest r s.ckp.pre).foldl (fun (s : State) p =>
    match s.ckp.regions.find? (fun x => x.ix == p.region && x.kind == 0) with
    | some rg => s.landHbm (rg.base + p.page * 4096) p.data p.poison
    | none => s) s
  let s := match s.ckp.pin with
    | some m => if r < m then s.abandonPin else s
    | none => s
  let pre := s.ckp.pre.filter (fun p => decide (p.tag ≤ r))
  let cut := s.ckp.sent.filter (fun e => decide (e.2 > r))
  let jcut := s.ckp.journal.filter (fun j => decide (j.mark > r))
  let s := { s with
    kv := { s.kv with cache := [] }
    ckp := { s.ckp with
      pre := pre
      touched := (pre.filter (fun (p : PreImage) => p.tag == r)).map (fun (p : PreImage) => (p.region, p.page))
      captures := s.ckp.captures.filter (fun (c : CkpCapture) => decide (c.mark ≤ r))
      entryNo := (cut.head?.map Prod.fst).getD s.ckp.entryNo
      sent := s.ckp.sent.filter (fun (e : Nat × Nat) => decide (e.2 ≤ r))
      jNext := (jcut.head?.map CkpJournal.first).getD s.ckp.jNext
      journal := s.ckp.journal.filter (fun (j : CkpJournal) => decide (j.mark ≤ r))
      locals := s.ckp.locals.map (fun (e : Nat × Nat) => (e.1, min e.2 r)) } }
  State.retryHeld s.ckp.held.length (s.wr64 CKP_MARKED r)

/-- UNPIN (R451): ends a pin whose copies have been written, and abandons any other. -/
def State.ckpUnpin (s : State) : State :=
  match s.ckp.pin with
  | none => s
  | some _ =>
    let s := if s.ckp.pinDone.contains 0 && s.ckp.pinDone.contains 1 then
        { s.sf CKP_STATUS CKP_STATUS_PIN 0 with
          ckp := { s.ckp with pre := s.ckp.pre.filter (fun p => !s.onlyPinned p), pin := none, pinDone := [] } }
      else s.abandonPin
    State.retryHeld s.ckp.held.length s

/-- CKP_MARK: its bits act in the order ROLLBACK, UNPIN, MARK. (Log entry 211: DEDUCED, unsafe.) -/
def writeCkpMark (q : Requester) (v : W32) (s : State) : State :=
  if !coreWrites q then s
  else
    let s := if bitAt v.toNat 29 && s.ckpEn then s.ckpRollback else s
    let s := if bitAt v.toNat 28 then s.ckpUnpin else s
    if bitAt v.toNat 31 then s.ckpMark (bitAt v.toNat 30) else s

def execMark (q : Requester) (v : W32) (s : State) : Res := ok (writeCkpMark q (v ||| 0x80000000#32) s)
def execSnap (q : Requester) (v : W32) (s : State) : Res := ok (writeCkpMark q (v ||| 0xC0000000#32) s)
def execRollback (q : Requester) (v : W32) (s : State) : Res := ok (writeCkpMark q (v ||| 0x20000000#32) s)
def execUnpin (q : Requester) (v : W32) (s : State) : Res := ok (writeCkpMark q (v ||| 0x10000000#32) s)

/-- ROLLBACK_DONE: firmware discards the staged records above R, pulls again the rows above each restored TIER_ROWS, and
launches again from the restored LAST. (Log entry 214: DEDUCED, unsafe.) -/
def execRollbackDone (s : State) : Res :=
  if !s.bit CKP_STATUS CKP_STATUS_ROLLBACK_BUSY then ok s
  else
    let r := s.rd64 CKP_REPLICA
    let s := s.sf CKP_STATUS CKP_STATUS_ROLLBACK_BUSY 0
    let gone := s.eland.staged.filter (fun (x : ElRecord) => decide (r < x.cstep))
    let again (e : ElStream) : List Nat :=
      ((gone.find? (fun x => x.stream == e.stream && x.inputs != [])).map (·.inputs)).getD e.prefill
    let s := { s with eland := { s.eland with
      staged := s.eland.staged.filter (fun (x : ElRecord) => decide (x.cstep ≤ r)), launches := [], steps := [(r + 2) / 2, (r + 1) / 2]
      advances := [], prefillFrom := s.eland.prefillFrom.map (fun n => if (r + 1) / 2 + 25 ≤ n then (r + 1) / 2 else n)
      streams := s.eland.streams.map (fun (e : ElStream) => { e with prefill := again e, drafts := [], qs := [], ctl := none }) } }
    ok (s.kv.opened.foldl (fun (s : State) e => ((s.pullAgain e.1).mapStream e.1).kvRun e.1) s)

/-! ### Held writes, append copies and local commit (R443, R445, R447) -/

/-- APPEND_COPY: the oldest KIND 1 copy not yet sent goes to the mirror. -/
def execAppendCopy (s : State) : Res :=
  match s.ckp.appends.find? (fun a => !a.sent) with
  | none => ok s
  | some a =>
    match s.ckp.regions.find? (fun r => r.ix == a.region) with
    | none => ok s
    | some r =>
      if !s.ckpEn ∨ (s.cn s.ckp.conn).state ≠ csReady then ok s
      else
        let s := { s with ckp := { s.ckp with
          appends := s.ckp.appends.map (fun (x : CkpAppend) => if x.n = a.n then { x with sent := true } else x) } }
        ok (s.internalMsg ckpWho (mkReq 0 s.ckp.conn (0x8000 + a.n % 0x7FFF) 0 a.data.length r.mkey (r.moff + a.off) 0
          false false false []) a.data)

/-- Results of the engine's messages: a done entry, JOURNAL_COMMIT or append copy is no longer outstanding. -/
def State.ckpCollect (s : State) : State :=
  let mine := s.trn.results.filter (fun e => e.1 == ckpWho)
  let s := { s with trn := { s.trn with results := s.trn.results.filter (fun e => e.1 != ckpWho) } }
  mine.foldl (fun (s : State) e =>
    let tag := e.2.1
    if e.2.2.1 ≠ 0 ∨ tag = 0xFFFF then s
    else if tag < 8 then
      { s with ckp := { s.ckp with captures := s.ckp.captures.map (fun c =>
        if c.mark % 8 = tag then { c with outstanding := c.outstanding - 1 } else c) } }
    else if tag < 16 then
      { s with ckp := { s.ckp with captures := s.ckp.captures.map (fun c =>
        if c.mark % 8 = tag - 8 then { c with commit := 2 } else c) } }
    else if tag ≥ 0x8000 then
      { s with ckp := { s.ckp with appends := s.ckp.appends.filter (fun a => !(a.sent && a.n % 0x7FFF == tag - 0x8000)) } }
    else s) s

/-- The oldest capture is done at the buddy. -/
def State.captureDone (s : State) (c : CkpCapture) : Bool :=
  c.left.isEmpty && c.outstanding == 0 && c.commit == 2 && !s.ckp.appends.any (fun a => decide (a.n < c.appendIx))

/-- Pre-images no longer needed go (R448): REPLICA above the tag, the capture sent, no pin on it. -/
def State.freePre (s : State) : State :=
  let keep (p : PreImage) : Bool :=
    decide (s.rd64 CKP_REPLICA ≤ p.tag) || s.ckp.captures.any (fun c => c.mark == p.tag && c.commit == 0) || s.pinKeeps p
  let s := { s with ckp := { s.ckp with pre := s.ckp.pre.filter keep } }
  State.retryHeld s.ckp.held.length s

/-- A done capture `c`, the oldest, is locally committed (R447): CKP_LOCAL and the flag say so, the domain's master tells the
others, and a run that was unprotected is protected again. -/
def State.commitOne (s : State) (c : CkpCapture) (rest : List CkpCapture) : State :=
  let s := { s with ckp := { s.ckp with captures := rest, takeover := false } }.modeUpdate
  let s := s.wr64 CKP_LOCAL c.mark
  let s := onSome s.ckp.cflag s s.flagSet
  let s := if s.domainRuns 13 then s.ckpTellAll (s.ckpSays 1 0 c.mark 0) else s
  let s := if s.ckp.unprotected then
      { s.event 0x1283 (leBytes 4 s.ckpAddr ++ leBytes 1 2) with ckp := { s.ckp with unprotected := false } }
    else s
  s.freePre

/-- Marks whose copies are done are locally committed, oldest first (R447). -/
def State.localCommit : Nat → State → State
  | 0, s => s
  | k + 1, s =>
    match s.ckp.captures with
    | c :: rest => if s.captureDone c then State.localCommit k (s.commitOne c rest) else s
    | [] => s

/-! ### The journal of the partner (R446, R451) -/

/-- The pinned content of a mirror page is kept before the first entry above the pin changes it. -/
def State.keepMirror (s : State) (r : CkpRegion) (page mark : Nat) : State :=
  match s.ckp.pin with
  | some m =>
    if !r.snap ∨ mark ≤ m ∨ s.ckp.pre.any (fun p => p.region == r.ix && p.page == page && decide (m ≤ p.tag)) then s
    else if s.stageRoom then s.takeImage r page m
    else s.abandonPin
  | none => s

/-- Apply one journal entry to the mirror of its region. -/
def State.applyEntry (s : State) (e : List Byte) (bad : Bool) : State :=
  match s.ckp.regions.find? (fun r => r.kind == 2 && r.pregion == fieldLE e 8 1) with
  | some r =>
    let page := fieldLE e 12 4
    if page < r.pages then
      (s.keepMirror r page (fieldLE e 0 8)).landHbm (r.base + page * 4096) (fit 4096 (e.drop 64)) bad
    else s
  | none => s

/-- Entries of marks up to CKP_REPLICA are applied in CSTEP order and freed. -/
def State.applyJournal (s : State) : State :=
  let r := s.rd64 CKP_REPLICA
  let due := s.ckp.journal.filter (fun j => decide (j.mark ≤ r))
  let s := due.foldl (fun (s : State) j =>
    (List.range j.count).foldl (fun (s : State) k =>
      let (e, bs, s) := s.load (j.ring + (j.first + k) % j.pages * 4160) 4160
      s.applyEntry bs e.isSome) s) s
  { s with ckp := { s.ckp with journal := s.ckp.journal.filter (fun (j : CkpJournal) => decide (j.mark > r)) } }

/-- CKP_REPLICA, written whole (R448): a lower value has no effect while EN is one. -/
def State.setReplica (s : State) (v : Nat) : State :=
  if s.ckpEn && decide (v < s.rd64 CKP_REPLICA) then s
  else
    let s := s.wr64 CKP_REPLICA v
    let s := match s.ckp.viewAt with
      | some r => if r < v then { s with ckp := { s.ckp with viewAt := none } }.modeUpdate else s
      | none => s
    if s.ckpEn then s.applyJournal.freePre.ckpSend else s

def writeCkpReplica (q : Requester) (v : W64) (s : State) : State := if coreWrites q then s.setReplica v.toNat else s

/-- One word of CKP_REPLICA: the value it makes is judged as a whole. -/
def writeCkpReplicaWord (q : Requester) (hi : Bool) (v : W32) (s : State) : State :=
  let old := s.rd64 CKP_REPLICA
  if coreWrites q then s.setReplica (if hi then bitsPut old 32 32 v.toNat else bitsPut old 0 32 v.toNat) else s

def execCkpReplicaWrite (q : Requester) (v : W64) (s : State) : Res := ok (writeCkpReplica q v s)

/-- The latest LOCAL_COMMIT of every member gives CKP_REPLICA (R448). -/
def State.replicaFromLocals (s : State) : State :=
  let mine := s.rd64 CKP_LOCAL
  let of (a : Nat) : Nat := ((s.ckp.locals.find? (fun e => e.1 == a)).map (·.2)).getD 0
  if s.ckp.members.isEmpty then s else s.setReplica (s.ckpOthers.foldl (fun m a => min m (of a)) mine)

/-- LOCALLY_COMMITTED: the oldest captures that are done at the buddy. -/
def execLocallyCommitted (s : State) : Res :=
  let s := s.ckpCollect
  let t := State.localCommit s.ckp.captures.length s
  ok (if t.domainRuns 13 && t.rd64 CKP_LOCAL != s.rd64 CKP_LOCAL then t.replicaFromLocals else t)

/-- LOCAL_COMMIT: the member's latest mark. -/
def execLocalCommit (conn : BitVec 20) (msn : W32) (s : State) : Res :=
  ok (s.ckpMember conn.toNat msn.toNat 1 false fun bs s =>
    let a := s.ckp.members[cmRank bs]?.getD 0
    let old := ((s.ckp.locals.find? (fun e => e.1 == a)).map (·.2)).getD 0
    let s := { s with ckp := { s.ckp with locals := Tab.insert s.ckp.locals a (max old (cmStep bs)) } }
    s.replicaFromLocals)

/-- JOURNAL_COMMIT: a partner's mark is wholly in the journal ring. (Log entry 212: DESIGN CHOICE, unsafe.) -/
def execJournalCommit (conn : BitVec 20) (msn : W32) (ring : BitVec 52) (pages : W16) (s : State) : Res :=
  ok (s.ckpMember conn.toNat msn.toNat 2 false fun bs s =>
    let j : CkpJournal := ⟨cmStep bs, s.ckp.jNext, cmArg bs, ring.toNat, pages.toNat⟩
    { s with ckp := { s.ckp with
      journal := s.ckp.journal ++ [j], jNext := s.ckp.jNext + cmArg bs, partner := some (cmRank bs) } }.applyJournal)

/-! ### Snapshots (R451 to R454) -/

/-- A chunk of a shard as stored (R453): kind, bytes and digest. -/
structure CkpChunk where
  region : Nat
  page : Nat
  kind : Nat
  data : List Byte
  digest : List Byte

/-- Re-encode block records of one format in another, to nearest even (R54, R453). -/
def recode (from_ to_ n : Nat) (bs : List Byte) : List Byte :=
  let blocks := n / recordBytes from_
  (List.range blocks).flatMap (fun i =>
    (encodeBlock to_ [] (decodeBlock from_ ((bs.drop (i * recordBytes from_)).take (recordBytes from_)))).1)

def State.shardChunk (s : State) (r : CkpRegion) (name m : Nat) (base : List (Nat × Nat × List Byte)) (k : Nat) : CkpChunk :=
  let pages := min 16 (r.pages - 16 * k)
  let raw := (List.range pages).flatMap (fun i => s.pageAt r (16 * k + i) m)
  if raw.all (· == 0#8) then ⟨name, 16 * k, 1, [], shake [] 32⟩
  else
    let data := if r.nfmt = 0 then raw else recode r.sfmt r.nfmt r.nbytes raw
    let dig := shake data 32
    if base.contains (name, 16 * k, dig) then ⟨name, 16 * k, 2, [], dig⟩
    else ⟨name, 16 * k, if r.nfmt = 0 then 0 else 3, data, dig⟩

def CkpChunk.entry (c : CkpChunk) : List Byte :=
  leBytes 1 c.region ++ leBytes 1 c.kind ++ [0, 0] ++ leBytes 4 c.page ++ leBytes 4 c.data.length ++ [0, 0, 0, 0]
    ++ fit 32 c.digest

/-- Bytes up to a 4 KiB boundary. -/
def pad4k (bs : List Byte) : List Byte := bs ++ List.replicate ((4096 - bs.length % 4096) % 4096) 0

/-- A shard record (R452): bytes 0 to 255, the tables, and the chunks. (Log entry 217: DEDUCED, unsafe.) -/
def State.shardOf (s : State) (buddy : Bool) (m base : Nat) : List Byte × List Byte × List CkpChunk :=
  let copy := b2n buddy
  let rs := s.ckp.regions.filter (fun r => r.snap && (r.kind == 2) == buddy)
  let old := ((s.ckp.snaps.find? (fun e => e.mark == base && e.copy == copy)).map (·.chunks)).getD []
  let chunks := rs.flatMap (fun r => (List.range ((r.pages + 15) / 16)).map
    (fun k => s.shardChunk r (if buddy then r.pregion else r.ix) m old k))
  let recs := rs.flatMap (fun r => s.bytes (s.ckpCfg + 64 + 64 * r.ix) 64)
  let tables := recs ++ chunks.flatMap CkpChunk.entry
  let rank := if buddy then s.ckp.partner.getD 0 else s.ckp.rank
  let head := ascii "NESH" ++ leBytes 4 1 ++ leBytes 4 s.ckp.replica ++ leBytes 2 rank ++ leBytes 1 copy ++ [0]
    ++ leBytes 8 m ++ leBytes 8 base ++ leBytes 4 rs.length ++ leBytes 4 chunks.length ++ shake tables 64
    ++ fit 64 s.sec.identity
  (fit 256 head, tables, chunks)

/-- Sign with this node's identity key (R317). -/
def State.signBytes (s : State) (bs : List Byte) : List Byte × State :=
  (fit 49856 (Config.slhDsaSign 1 (identitySeed s.sec.seed) bs (s.entropy 32)), s.tick)

/-- Write whole blocks to a volume of device-internal work: the status that refuses it, or zero (R282, R283, R289). -/
def State.ckpWrite (s : State) (vol lba : Nat) (fua : Bool) (bs : List Byte) : Nat × State :=
  let r := s.volRec vol
  let bs := pad4k bs
  let n := bs.length / 4096
  if n = 0 then (0, s)
  else if !s.stoEn || !volValid r || volOwner r != ownerInternal || !volWr r then (0x50, s)
  else if lba + n > volBlocks r then (0x51, s)
  else if !(s.backing (volBacking r)).ready then (0x53, s)
  else
    let key := if volXts r then s.stoKey r else some (some [])
    match key with
    | some (some k) =>
      let data := if volXts r then xtsUnits true k n (volTweak r + lba) bs else bs
      (0, s.emit (.nvme (volBacking r) (volNsid r) 1 [volStart r + lba, n, b2n fua] data))
    | _ => ((s.fresh 16).toNat, s.tick)

/-- A manifest entry (R454). -/
def manifestEntry (rank copy state writer cstep lba blocks vol : Nat) (idkey digest : List Byte) : List Byte :=
  leBytes 2 rank ++ leBytes 1 copy ++ leBytes 1 state ++ leBytes 4 writer ++ leBytes 8 cstep ++ leBytes 8 lba
    ++ leBytes 4 blocks ++ leBytes 2 vol ++ [0, 0] ++ fit 32 idkey ++ fit 64 digest

/-- The manifest writer: the member of lowest rank. -/
def State.manifestWriter (s : State) : Option Nat := s.ckp.members.head?

/-- A copy has reported to the manifest writer. -/
def State.noteSnap (s : State) (cstep : Nat) (entry : List Byte) : State :=
  { s with ckp := { s.ckp with snapDone := s.ckp.snapDone ++ [(cstep, fit 128 entry)] } }

/-- The three writes of a snapshot at logical block `at_`: the chunks, then the tables, then the header and its signature with
FUA; a write follows only a write that ended with status 0. -/
def State.writeShard (vol at_ : Nat) (first mid body : List Byte) (s : State) : Nat × State :=
  let p1 := s.ckpWrite vol (at_ + (first.length + mid.length) / 4096) false body
  let p2 := if p1.1 = 0 then p1.2.ckpWrite vol (at_ + first.length / 4096) false mid else p1
  if p2.1 = 0 then p2.2.ckpWrite vol at_ true first else p2

/-- A copy's entry goes to the manifest writer. -/
def State.reportSnap (m e : Nat) (entry : List Byte) (s : State) : State :=
  onSome s.manifestWriter s fun a =>
    if a = s.ckpAddr then s.noteSnap m entry else s.ckpTell a (s.ckpSays 10 0 m e entry)

/-- The pages of the SNAP regions are read through their channels' checkers (R168, R452). -/
def State.readSnap (s : State) (m : Nat) : State :=
  (s.ckp.regions.filter (·.snap)).foldl (fun (s : State) r =>
    (List.range r.pages).foldl (fun (s : State) page => (s.readAt r page m).2.2) s) s

/-- A copy of a pinned mark is written (R453). -/
def State.writeSnapshot (buddy : Bool) (at_ vol m base : Nat) (s : State) : State :=
  let copy := b2n buddy
  let s := s.readSnap m
  let sh := s.shardOf buddy m base
  let p := s.signBytes sh.1
  let body := sh.2.2.flatMap (fun c => pad4k c.data)
  let first := pad4k (sh.1 ++ p.1)
  let mid := pad4k sh.2.1
  let q := p.2.writeShard vol at_ first mid body
  let e := q.1
  let s := q.2
  let rank := if buddy then s.ckp.partner.getD 0 else s.ckp.rank
  let entry := manifestEntry rank copy (b2n (decide (e ≠ 0))) s.ckpAddr m at_
    ((first.length + mid.length + body.length) / 4096) vol (shake s.sec.identity 32) ((sh.1.drop 40).take 64)
  let s := { s with ckp := { s.ckp with
    pinDone := copy :: s.ckp.pinDone
    snaps := ⟨m, copy, sh.2.2.map (fun (c : CkpChunk) => (c.region, c.page, c.digest))⟩ :: s.ckp.snaps.take 15 } }
  (s.reportSnap m e entry).event 0x1282 (leBytes 8 m ++ leBytes 1 copy ++ leBytes 2 e)

/-- SNAPSHOT_WRITE: chunks, then the tables, then the header and its signature with FUA; the copy's entry then goes to the
manifest writer. (Log entry 212: DESIGN CHOICE, unsafe.) -/
def execSnapshotWrite (buddy : Bool) (lba : W64) (s : State) : Res :=
  match s.ckp.pin, s.ckp.snapVolume with
  | some m, some (vol, _, base) =>
    if s.rd64 CKP_REPLICA < m ∨ s.ckp.pinDone.contains (b2n buddy) ∨ !s.domainRuns 14 ∨ (buddy ∧ s.ckp.partner.isNone) then ok s
    else ok (s.writeSnapshot buddy lba.toNat vol m base)
  | _, _ => ok s

/-- SNAP_DONE: the manifest writer records a copy. -/
def execSnapDone (conn : BitVec 20) (msn : W32) (s : State) : Res :=
  ok (s.ckpMember conn.toNat msn.toNat 10 false fun bs s => s.noteSnap (cmStep bs) (bs.drop 64))

/-- The copies of a mark: every rank's primary and buddy copy, reported or abandoned. -/
def State.manifestMark (s : State) (m : Nat) : List (List Byte) :=
  (List.range s.ckp.nranks).flatMap (fun r => (List.range 2).map (fun c =>
    match s.ckp.snapDone.find? (fun e => e.1 == m && fieldLE e.2 0 2 == r && fieldLE e.2 2 1 == c) with
    | some e => e.2
    | none => manifestEntry r c 1 0 m 0 0 0 [] []))

/-- The newest marks with a report, newest first. -/
def newestMarks (n : Nat) (l : List (Nat × List Byte)) : List Nat :=
  let ms := (l.map (·.1)).foldl insertKey []
  (ms.reverse).take n

/-- The manifest of mark `m` written (R454, R455): the newest `retain` marks with a report, `m` among them. (Log
entry 213: DESIGN CHOICE, unsafe.) -/
def State.writeManifest (lba : W64) (vol retain m : Nat) (s : State) : State :=
  let marks := insertKey (newestMarks retain (s.ckp.snapDone.filter (fun e => decide (e.1 ≤ m)))) m
  let keep := marks.drop (marks.length - retain)
  let es := keep.flatMap s.manifestMark
  let gen := s.ckp.manGen + 1
  let head := ascii "NEMF" ++ leBytes 4 1 ++ leBytes 4 s.ckp.replica ++ leBytes 8 gen ++ leBytes 4 s.ckp.nranks
    ++ leBytes 4 es.length
  let body := fit 64 head ++ fit 64 s.sec.identity ++ es.flatten
  let p := s.signBytes body
  let q := p.2.ckpWrite vol lba.toNat true (body ++ p.1)
  let s := q.2.emit (.packet q.2.ckp.conn 0x1202 [vol, lba.toNat] (body ++ p.1))
  { s with ckp := { s.ckp with
    manGen := gen, pinMark := none, snapDone := s.ckp.snapDone.filter (fun e => keep.contains e.1) } }

/-- MANIFEST_WRITE: once every copy of the mark has reported, or 120 s have passed since it. (Log entry 212: DESIGN
CHOICE, unsafe.) -/
def execManifestWrite (lba : W64) (s : State) : Res :=
  match s.ckp.pinMark, s.ckp.snapVolume with
  | some m, some (vol, retain, _) =>
    let all := (s.ckp.snapDone.filter (fun e => e.1 == m)).length ≥ 2 * s.ckp.nranks
    if s.manifestWriter ≠ some s.ckpAddr ∨ !(all || decide (s.now ≥ s.ckp.pinAt + 120000000000)) ∨ !s.domainRuns 14 then ok s
    else ok (s.writeManifest lba vol retain m)
  | _, _ => ok s

/-! ### Leases (R459 to R462) -/

/-- Close a stream as SYN_STREAM_CLOSE does (R135, R462). -/
def State.ckpClose (s : State) (n : Nat) : State :=
  let s := (s.fetchCtx n).setCx n cxSTATE stClosing
  let s := { s with kv := { s.kv with
    jobs := s.kv.jobs.filter (fun j => !(j.stream == n && (!j.posted || j.failed)))
    deadlines := Tab.erase s.kv.deadlines n } }
  (s.kvSettle n).kvPump

/-- The frozen state is discarded (R462): staged records go, streams close, GEN grows. -/
def State.ckpDrain (s : State) : State :=
  let s := { s with eland := { s.eland with staged := [], launches := [], streams := [], advances := [] } }
  s.kv.opened.foldl (fun (s : State) e => (s.setCx e.1 exATTACHED 0).ckpClose e.1) s

/-- LEASE_RENEWAL: LEASE_REQ to the five witnesses. -/
def execLeaseRenewal (s : State) : Res :=
  if !s.ckpEn || !s.bit CKP_CTL CKP_CTL_LEASE_EN || !s.domainRuns 13
      || (match s.ckp.leaseSent with | some (_, t) => decide (s.now < t + 50000000) | none => false) then ok s
  else
    let q := (s.ckp.leaseSeq + 1) % 2 ^ 32
    let s := { s with ckp := { s.ckp with leaseSeq := q, leaseSent := some (q, s.now), grants := [] } }
    ok (s.ckp.witnesses.foldl (fun (s : State) w => s.ckpTell w (s.ckpSays 3 q (s.rd64 CKP_MARKED) 0)) s)

/-- CKP_LEASE by a write of its register: a whole 64-bit write ends the effect of an earlier step of the counter. -/
def writeCkpLease (q : Requester) (hi : Bool) (v : W32) (s : State) : State :=
  if coreWrites q then
    { s.wr (CKP_LEASE + if hi then 4 else 0) v with ckp := { s.ckp with stepped := false } }
  else s

/-- LEASE_GRANT: the third grant of the same SEQ raises CKP_LEASE to the request's send time plus 200 ms, unless that
has passed (R463); a node that was frozen goes on. -/
def execLeaseGrant (conn : BitVec 20) (msn : W32) (s : State) : Res :=
  ok (s.ckpMember conn.toNat msn.toNat 4 false fun bs s =>
    match s.ckp.leaseSent with
    | none => s
    | some (q, t) =>
      let w := (s.cn conn.toNat).peerAddr
      if cmSeq bs ≠ q ∨ s.ckp.grants.contains w ∨ !s.ckp.witnesses.contains w then s
      else
        let s := { s with ckp := { s.ckp with grants := w :: s.ckp.grants } }
        if s.ckp.grants.length ≠ 3 ∨ s.now ≥ t + 200000000 then s
        else
          let s := { s.wr64 CKP_LEASE (t + 200000000) with ckp := { s.ckp with stepped := false } }
          if !s.bit CKP_STATUS CKP_STATUS_LAPSED then s
          else
            let s := s.sf CKP_STATUS CKP_STATUS_LAPSED 0
            s.kv.opened.foldl (fun (s : State) e => (s.fetchCtx e.1).thaw e.1) s)

/-- LEASE_LAPSE (R462). -/
def execLeaseLapse (s : State) : Res :=
  if !s.leaseLapsed || s.bit CKP_STATUS CKP_STATUS_LAPSED then ok s
  else
    let s := s.sf CKP_STATUS CKP_STATUS_LAPSED 1
    let s := s.kv.opened.foldl (fun (s : State) e => (s.fetchCtx e.1).freeze e.1) s
    ok (s.event 0x1281 (leBytes 8 (s.rd64 CKP_LEASE) ++ leBytes 4 s.kv.opened.length))

/-- LEASE_REFUSE: leases are requested under the view it names (R461); a refusal under this node's own view means that
the view does not list it (R462). -/
def execLeaseRefuse (conn : BitVec 20) (msn : W32) (s : State) : Res :=
  ok (s.ckpMember conn.toNat msn.toNat 5 true fun bs s =>
    match s.ckp.leaseSent with
    | none => s
    | some (q, _) =>
      if cmSeq bs ≠ q then s
      else if cmArg bs ≠ s.ckp.view then { s with ckp := { s.ckp with view := cmArg bs, leaseSent := none, grants := [] } }
      else if s.bit CKP_STATUS CKP_STATUS_LAPSED then s.ckpDrain
      else s)

/-! ### Witnesses (R460) -/

def State.served (s : State) (replica : Nat) : Option CkpServed := s.ckp.served.find? (fun w => w.replica == replica)
def State.setServed (s : State) (w : CkpServed) : State :=
  { s with ckp := { s.ckp with served := s.ckp.served.filter (fun x => x.replica != w.replica) ++ [w] } }

/-- A reply of a witness. -/
def State.witnessSays (s : State) (conn kind replica view seq cstep arg : Nat) : State :=
  s.ckpSendOn conn 0xFFFF false (ckpMessage kind 0xFFFF replica view seq cstep arg [])

/-- LEASE_REQ at a witness. -/
def execLeaseReq (conn : BitVec 20) (msn : W32) (s : State) : Res :=
  match s.ckpTake conn.toNat msn.toNat 3 with
  | (none, s) => ok s
  | (some bs, s) =>
    match s.served (cmReplica bs) with
    | none => ok s
    | some w =>
      let a := (s.cn conn.toNat).peerAddr
      if w.proposal.isSome then ok s
      else if cmView bs = w.view ∧ w.members.contains a then
        let s := s.setServed { w with grants := Tab.insert w.grants a (s.now + 200000000) }
        ok (s.witnessSays conn.toNat 4 w.replica w.view (cmSeq bs) (cmStep bs) 0)
      else ok (s.witnessSays conn.toNat 5 w.replica w.view (cmSeq bs) (cmStep bs) w.view)

/-- A proposal that this node makes (R457, R461): view + 1, with a spare in the failed rank's place. (Log entry 215:
DEDUCED, unsafe.) -/
def State.propose (s : State) (rank spare : Nat) : State :=
  match s.ckp.spares[spare]? with
  | none => s
  | some a =>
    let first := (s.ckp.members.zipIdx.find? (fun e => e.2 != rank)).map (·.1)
    if !s.ckpEn ∨ first ≠ some s.ckpAddr ∨ rank ≥ s.ckp.members.length ∨ !s.domainRuns 13 then s
    else
      let members := s.ckp.members.set rank a
      let v := s.ckp.view + 1
      let s := { s with ckp := { s.ckp with proposing := some (v, members, []) } }
      let msg := ckpMessage 6 s.ckp.rank s.ckp.replica v v (s.rd64 CKP_REPLICA) members.length (members.flatMap (beBytes 4))
      s.ckp.witnesses.foldl (fun (s : State) w => s.ckpTell w msg) s

/-- PROPOSE: made by the surviving member of lowest rank, or received by a witness, which stops granting and answers once
its grants have ended; a different proposal for an accepted view is refused. (Log entry 216: DEDUCED, unsafe.) -/
def execPropose (p : CkpProposal) (s : State) : Res :=
  match p with
  | .make rank spare => ok (s.propose rank.toNat spare)
  | .receive conn msn =>
    match s.ckpTake conn.toNat msn.toNat 6 with
    | (none, s) => ok s
    | (some bs, s) =>
      match s.served (cmReplica bs) with
      | none => ok s
      | some w =>
        if cmView bs = w.view + 1 ∧ w.proposal.isNone then
          ok (s.setServed { w with proposal := some (cmView bs, cmMembers bs, conn.toNat, cmSeq bs) })
        else ok s

/-- GRANT_END_PASSED: TIME_NOW is past every grant end × 1.0004 + 1 ms, the factor taken on the 200 ms of the grant: the
witness accepts and adopts the view. (Log entries 215: DEDUCED, unsafe; 216: DEDUCED, unsafe.) -/
def execGrantEndPassed (replica : BitVec 32) (s : State) : Res :=
  match s.served replica.toNat with
  | some w =>
    match w.proposal with
    | some (v, members, conn, seq) =>
      if w.grants.all (fun e => decide (s.now > e.2 + 80000 + 1000000)) && s.domainRuns 13 then
        let s := s.setServed { w with view := v, members := members, grants := [], proposal := none }
        ok (s.witnessSays conn 7 w.replica w.view seq 0 0)
      else ok s
    | none => ok s
  | none => ok s

/-! ### View changes (R457, R461, R462) -/

/-- A member that stays takes a new view: the change is told, every step after the last full commit is undone, and the
lottery arbiters stay in mode 2 until the replica commits a step again (R182, R457). (Log entry 219: DEDUCED,
unsafe.) -/
def State.enterView (s : State) (v : Nat) (ranks : List Nat) : State :=
  let s := s.event 0x1280 (leBytes 4 v ++ leBytes 2 ranks.length ++ ranks.flatMap (leBytes 2) ++ leBytes 8 (s.rd64 CKP_REPLICA))
  let s := if s.ckpEn then s.ckpRollback else s
  { s with ckp := { s.ckp with viewAt := some (s.rd64 CKP_REPLICA) } }.modeUpdate

/-- A lost buddy leaves the node unprotected. -/
def State.buddyGone (s : State) (gone : List (Nat × Nat)) : State :=
  if gone.any (fun e => e.1 == (s.cn s.ckp.conn).peerAddr) then
    let s := s.event 0x1283 (leBytes 4 s.ckpAddr ++ leBytes 1 0)
    { s with ckp := { s.ckp with unprotected := true } }
  else s

/-- This node takes a view: a member rolls back to CKP_REPLICA, arbiter mode 2 is selected, and a member whose buddy was
replaced is unprotected; a node that the view does not list discards its frozen state. (Log entry 219: DEDUCED,
unsafe.) -/
def State.installView (s : State) (v : Nat) (members : List Nat) : State :=
  let old := s.ckp.members
  let s := { s with ckp := { s.ckp with view := v, members := members, leaseSent := none, grants := [] } }
  if !members.contains s.ckpAddr then s.ckpDrain
  else
    let ranks := (List.range members.length).filter (fun i => old[i]? != members[i]?)
    (s.enterView v ranks).buddyGone ((old.zip members).filter (fun e => e.1 != e.2))

/-- ACCEPT: the third installs the view at every new member (R461). (Log entry 215: DEDUCED, unsafe.) -/
def execAccept (conn : BitVec 20) (msn : W32) (s : State) : Res :=
  match s.ckpTake conn.toNat msn.toNat 7 with
  | (none, s) => ok s
  | (some bs, s) =>
    match s.ckp.proposing with
    | none => ok s
    | some (v, members, got) =>
      let w := (s.cn conn.toNat).peerAddr
      if cmReplica bs ≠ s.ckp.replica ∨ cmView bs ≠ s.ckp.view ∨ cmSeq bs ≠ v ∨ got.contains w ∨ !s.ckp.witnesses.contains w then ok s
      else
        let got := w :: got
        if got.length < 3 then ok { s with ckp := { s.ckp with proposing := some (v, members, got) } }
        else
          let msg := ckpMessage 8 s.ckp.rank s.ckp.replica s.ckp.view v (s.rd64 CKP_REPLICA) members.length (members.flatMap (beBytes 4))
          let s := { s with ckp := { s.ckp with proposing := none } }
          let s := (members.filter (· != s.ckpAddr)).foldl (fun (s : State) a => s.ckpTell a msg) s
          ok (s.installView v members)

/-- VIEW_INSTALL: it carries the view it follows, as the discard rule asks, and installs the next one. (Log entry
215: DEDUCED, unsafe.) -/
def execViewInstall (conn : BitVec 20) (msn : W32) (s : State) : Res :=
  ok (s.ckpMember conn.toNat msn.toNat 8 false fun bs s => s.installView (cmView bs + 1) (cmMembers bs))

/-! ### Restore (R455, R456) -/

def shCopies (man : List Byte) : List (List Byte) :=
  (List.range (fieldLE man 24 4)).map (fun i => (man.drop (128 + 128 * i)).take 128)

/-- A manifest generation verifies under a trusted identity digest. -/
def manifestOk (trusted : List (List Byte)) (man : List Byte) : Bool :=
  let n := 128 + 128 * fieldLE man 24 4
  let pub := (man.drop 64).take 64
  man.take 4 == ascii "NEMF" && fieldLE man 4 4 == 1 && trusted.any (fun t => t == shake pub 32)
    && Config.slhDsaVerify 1 pub (man.take n) ((man.drop n).take 49856)

/-- The verified generation with the highest GEN. -/
def bestManifest (trusted : List (List Byte)) (ms : List (List Byte)) : Option (List Byte) :=
  ms.foldl (fun acc m =>
    if !manifestOk trusted m then acc
    else match acc with
      | some a => if fieldLE m 12 8 > fieldLE a 12 8 then some m else acc
      | none => some m) none

/-- Steps for which a manifest lists a complete copy of every rank, newest first. -/
def restoreSteps (man : List Byte) : List Nat :=
  let es := (shCopies man).filter (fun e => fieldLE e 3 1 == 0)
  let steps := (es.map (fun e => fieldLE e 8 8)).foldl insertKey []
  (steps.filter (fun c => (List.range (fieldLE man 20 4)).all (fun r =>
    es.any (fun e => fieldLE e 8 8 == c && fieldLE e 0 2 == r)))).reverse

/-- Tables of a shard, and its chunks with their stored bytes: (entry, bytes). (Log entry 217: DEDUCED, unsafe.) -/
def shTables (sh : List Byte) : List Byte := (sh.drop 53248).take (fieldLE sh 32 4 * 64 + fieldLE sh 36 4 * 48)
/-- (Log entry 217: DEDUCED, unsafe.) -/
def shChunks (sh : List Byte) : List (List Byte × List Byte) :=
  let es := (List.range (fieldLE sh 36 4)).map (fun i => ((shTables sh).drop (fieldLE sh 32 4 * 64 + 48 * i)).take 48)
  let start := 53248 + ((shTables sh).length + 4095) / 4096 * 4096
  (es.foldl (fun (acc : List (List Byte × List Byte) × Nat) e =>
    let n := fieldLE e 8 4
    (acc.1 ++ [(e, (sh.drop acc.2).take n)], acc.2 + (n + 4095) / 4096 * 4096)) ([], start)).1

/-- The stored bytes of a chunk that is the same as its base's. -/
def shBase (shards : List (List Byte)) (sh e : List Byte) : Option (List Byte × List Byte) :=
  match shards.find? (fun b => fieldLE b 16 8 == fieldLE sh 24 8 && fieldLE b 12 3 == fieldLE sh 12 3) with
  | some b => (shChunks b).find? (fun x => fieldLE x.1 0 1 == fieldLE e 0 1 && fieldLE x.1 4 4 == fieldLE e 4 4)
  | none => none

/-- A shard record is verified: signature under the entry's identity, table digest, and every chunk digest, base chunks
included. -/
def shardOk (shards : List (List Byte)) (entry sh : List Byte) : Bool :=
  let pub := (sh.drop 104).take 64
  let dig := (sh.drop 40).take 64
  sh.take 4 == ascii "NESH" && fieldLE sh 4 4 == 1 && fieldLE sh 16 8 == fieldLE entry 8 8
    && fieldLE sh 12 3 == fieldLE entry 0 3 && shake pub 32 == (entry.drop 32).take 32
    && Config.slhDsaVerify 1 pub (sh.take 256) ((sh.drop 256).take 49856)
    && dig == shake (shTables sh) 64 && dig == (entry.drop 64).take 64
    && (shChunks sh).all (fun x =>
      let want := (x.1.drop 16).take 32
      match fieldLE x.1 1 1 with
      | 1 => true
      | 2 => match shBase shards sh x.1 with
        | some b => want == shake b.2 32
        | none => false
      | _ => want == shake x.2 32)

/-- This rank's verified copy at a step, primary first. -/
def ownShard (man : List Byte) (shards : List (List Byte)) (rank c : Nat) : Option (List Byte) :=
  let es := (shCopies man).filter (fun e => fieldLE e 0 2 == rank && fieldLE e 8 8 == c && fieldLE e 3 1 == 0)
  let ordered := es.filter (fun e => fieldLE e 2 1 == 0) ++ es.filter (fun e => fieldLE e 2 1 == 1)
  ordered.findSome? (fun e => shards.find? (fun sh => shardOk shards e sh))

/-- Write a chunk into its region (R453, R456): a narrow chunk is re-encoded, and the bytes it dropped are free values.
(Log entry 217: DEDUCED, unsafe.) -/
def State.restoreChunk (s : State) (rs : List CkpRegion) (shards : List (List Byte)) (sh : List Byte)
    (x : List Byte × List Byte) : State :=
  match rs.find? (fun r => r.ix == fieldLE x.1 0 1 && r.kind != 2) with
  | none => s
  | some r =>
    let page := fieldLE x.1 4 4
    let n := min 16 (r.pages - page) * 4096
    let kind := fieldLE x.1 1 1
    let stored := if kind = 2 then ((shBase shards sh x.1).map (·.2)).getD [] else x.2
    let narrow := kind = 3 ∨ (kind = 2 ∧ r.nfmt ≠ 0)
    if kind = 1 then s.landHbm (r.base + page * 4096) (List.replicate n 0) false
    else if narrow then
      let wide := recode r.nfmt r.sfmt stored.length stored
      s.tick.landHbm (r.base + page * 4096) ((wide ++ s.freeBytes n).take n) false
    else s.landHbm (r.base + page * 4096) (fit n stored) false

/-- Every open context after a restore: PARKED, ASI 0xFFFF, not attached. -/
def State.parkAll (s : State) : State :=
  let ns := (List.range (2 ^ 20)).filter (fun n => s.cx n cxSTATE != stFree)
  let s := { s with kv := { s.kv with
    opened := ns.map (fun n => (n, s.cx n cxCLASS)), jobs := [], asis := [], map := [], short := [], releasing := []
    deadlines := [] } }
  ns.foldl (fun (s : State) n => ((s.setCx n cxSTATE stParked).setCx n cxASI noAsi).setCx n exATTACHED 0) s

/-- Restore to S (R456). -/
def State.restoreTo (s : State) (x : CkpRestore) (c : Nat) (man : List Byte) : State :=
  let rs := ckpRegions (s.bytes s.ckpCfg 4096)
  let s := match ownShard man x.shards x.rank c with
    | some sh => (shChunks sh).foldl (fun (s : State) ch => s.restoreChunk rs x.shards sh ch) s
    | none => s
  let s := rs.foldl (fun (s : State) r =>
    if r.kind = 0 ∧ !r.snap then
      { s with
        mem := s.mem.filter (fun e => !(decide (r.base ≤ e.1) && decide (e.1 < r.base + r.pages * 4096)))
        lineMarks := s.lineMarks.filter (fun e => !(decide (r.base ≤ e.1 * 64) && decide (e.1 * 64 < r.base + r.pages * 4096))) }
    else s) s
  let s := (s.wr64 CKP_MARKED c).wr64 CKP_REPLICA c
  let s := { s with
    kv := { s.kv with cache := [] }
    eland := { s.eland with
      streams := [], launches := [], staged := [], advances := [], steps := [(c + 2) / 2, (c + 1) / 2], prefillFrom := [0, 0] }
    ckp := { s.ckp with touched := [], pre := [], captures := [], sent := [], journal := [], unprotected := true } }
  let s := s.col.groups.foldl (fun (s : State) g => s.zeroResiduals g.2) s.parkAll
  s.event 0x1283 (leBytes 4 s.ckpAddr ++ leBytes 1 1)

/-- Decide from the reports (R455): restore to the candidate every rank has verified, try the next older one, or fail. -/
def State.restoreDecide : Nat → State → State
  | 0, s => s
  | k + 1, s =>
    match s.ckp.restoring with
    | none => s
    | some x =>
      match x.cands with
      | [] => s
      | c :: rest =>
        let said (r : Nat) : Option Bool := (s.ckp.verified.find? (fun v => v.1 == r && v.2.1 == c)).map (·.2.2)
        let ranks := List.range x.nranks
        if ranks.any (fun r => (said r).isNone) then s
        else if ranks.all (fun r => said r == some true) then
          let man := x.shards.headD []
          let s := s.restoreTo { x with shards := x.shards.tail } c man
          let s := { s with ckp := { s.ckp with restoring := none, verified := [] } }.modeUpdate
          s.answer 0x1203 x.req 0 (leBytes 8 c)
        else match rest with
          | [] =>
            let lost := (ranks.find? (fun r =>
              (s.ckp.verified.find? (fun v => v.1 == r && v.2.1 == x.newest)).map (·.2.2) != some true)).getD 0
            let s := { s with ckp := { s.ckp with restoring := none, verified := [] } }.modeUpdate
            s.answer 0x1203 x.req 0x0501 (leBytes 4 lost)
          | d :: _ =>
            let yes := x.good.contains d
            let s := { s with ckp := { s.ckp with
              restoring := some { x with cands := rest }, verified := s.ckp.verified ++ [(x.rank, d, yes)] } }
            State.restoreDecide k (s.ckpTellAll (ckpMessage 9 x.rank s.ckp.replica s.ckp.view 0 d (b2n yes) []))

/-- VERIFIED: a rank's report on a candidate. -/
def execVerified (conn : BitVec 20) (msn : W32) (s : State) : Res :=
  ok (s.ckpMember conn.toNat msn.toNat 9 false fun bs s =>
    let s := { s with ckp := { s.ckp with verified := s.ckp.verified ++ [(cmRank bs, cmStep bs, cmArg bs == 1)] } }
    State.restoreDecide 4096 s)

/-! ### Syncen operations (R467) -/

def domCkp : Option Nat := some 13
def domSnap : Option Nat := some 14

/-- SYN_CKP_CONFIG: the record is written, the view and the lists are kept, and checkpointing is enabled. -/
def execSynCkpConfig (r : SynReq) (record : List (BitVec 8)) (view : BitVec 32)
    (members witnesses spares : List (BitVec 32)) (s : State) : Res :=
  ok (s.syn 0x1200 domCkp r fun s =>
    if s.recovering then refuse s 0x02F1
    else
      let s := writeCkpCtl (.core 13) 0#32 s
      let s := s.poke s.ckpCfg (fit 4096 record)
      let s := { s with ckp := { s.ckp with
        replica := fieldLE record 0 4, rank := fieldLE record 4 2, view := view.toNat, members := members.map (·.toNat)
        witnesses := witnesses.map (·.toNat), spares := spares.map (·.toNat), locals := [], served := s.ckp.served } }
      let s := writeCkpCtl (.core 13) (if witnesses.isEmpty then 1#32 else 3#32) s
      if s.ckpEn then success s else refuse s (s.gf CKP_CTL CKP_CTL_REFUSAL))

/-- SYN_CKP_QUERY: the registers, the view, the buddy and whether this node is unprotected. -/
def execSynCkpQuery (r : SynReq) (s : State) : Res :=
  ok (s.syn 0x1201 domCkp r fun s =>
    success s (leBytes 4 (s.rd CKP_CTL).toNat ++ leBytes 8 (s.rd64 CKP_CFG_BASE) ++ leBytes 8 (s.rd64 CKP_STAGE)
      ++ leBytes 8 (s.rd64 CKP_MARKED) ++ leBytes 8 (s.rd64 CKP_LOCAL) ++ leBytes 8 (s.rd64 CKP_REPLICA)
      ++ leBytes 8 (s.rd64 CKP_LEASE) ++ leBytes 4 (s.rd CKP_STATUS).toNat ++ leBytes 4 s.ckp.view
      ++ leBytes 4 s.ckp.conn ++ leBytes 1 (b2n s.ckp.unprotected)))

/-- SYN_CKP_SNAPSHOT: a mark with SNAP; a mark that is refused pins nothing. (Log entry 218: DESIGN CHOICE, safe.) -/
def execSynCkpSnapshot (r : SynReq) (volume : Fin 1024) (retain : BitVec 8) (base : BitVec 64) (s : State) : Res :=
  ok (s.syn 0x1202 domSnap r fun s =>
    if retain.toNat < 2 ∨ retain.toNat > 8 then refuseFree s
    else if s.ckp.pin.isSome then refuse s 0x0311
    else if !s.ckpEn || s.bit CKP_STATUS CKP_STATUS_LAPSED then refuseFree s
    else
      let s := s.ckpMark true
      match s.ckp.pin with
      | some m => success { s with ckp := { s.ckp with snapVolume := some (volume.val, retain.toNat, base.toNat) } } (leBytes 8 m)
      | none => refuseFree s)

/-- SYN_CKP_RESTORE: `manifests` are the generations that stand at the location, `shards` what the storage reads of this
rank's copies and their bases give. (Log entry 212: DESIGN CHOICE, unsafe.) -/
def execSynCkpRestore (r : SynReq) (_volume : Fin 1024) (_lba : BitVec 64) (trusted : List (List (BitVec 8)))
    (rank : BitVec 16) (members : List (BitVec 32)) (manifests shards : List (List (BitVec 8))) (s : State) : Res :=
  ok (s.synLater 0x1203 domSnap r fun s =>
    if s.recovering then (s, some (0x02F1, []))
    else match bestManifest trusted manifests with
      | none => (s, some (0x0502, []))
      | some man =>
        let nranks := fieldLE man 20 4
        let me := rank.toNat
        match restoreSteps man with
        | [] =>
          let es := (shCopies man).filter (fun e => fieldLE e 3 1 == 0)
          let newest := (shCopies man).foldl (fun m e => max m (fieldLE e 8 8)) 0
          let lost := ((List.range nranks).find? (fun k =>
            !es.any (fun e => fieldLE e 8 8 == newest && fieldLE e 0 2 == k))).getD 0
          (s, some (0x0501, leBytes 4 lost))
        | c :: rest =>
          let good := (c :: rest).filter (fun d => (ownShard man shards me d).isSome)
          let s := { s with ckp := { s.ckp with
            members := members.map BitVec.toNat, rank := me
            restoring := some ⟨r, me, nranks, c :: rest, c, good, man :: shards⟩
            verified := s.ckp.verified ++ [(me, c, good.contains c)] } }.modeUpdate
          let s := s.ckpTellAll (ckpMessage 9 me s.ckp.replica s.ckp.view 0 c (b2n (good.contains c)) [])
          (State.restoreDecide 4096 s, none))

/-- SYN_CKP_TAKEOVER, on the spare: it takes the rank, and resynchronises until its first local commit. (Log entry
219: DEDUCED, unsafe.) -/
def execSynCkpTakeover (r : SynReq) (rank : BitVec 16) (conn : BitVec 20) (view : BitVec 32) (s : State) : Res :=
  ok (s.syn 0x1204 domCkp r fun s =>
    if s.recovering then refuse s 0x02F1
    else
      let s := { s with ckp := { s.ckp with
        rank := rank.toNat, conn := conn.toNat, view := view.toNat, takeover := true, unprotected := true } }.modeUpdate
      success (s.event 0x1283 (leBytes 4 s.ckpAddr ++ leBytes 1 1)))

/-- SYN_CKP_DRAIN. -/
def execSynCkpDrain (r : SynReq) (s : State) : Res :=
  ok (s.syn 0x1205 domCkp r fun s => if s.bit CKP_STATUS CKP_STATUS_LAPSED then success s.ckpDrain else refuse s 0x0210)

/-- SYN_CKP_WITNESS_SET. -/
def execSynCkpWitnessSet (r : SynReq) (replica view : BitVec 32) (members : List (BitVec 32)) (s : State) : Res :=
  ok (s.syn 0x1206 domCkp r fun s =>
    if (s.served replica.toNat).isNone ∧ s.ckp.served.length ≥ 256 then refuse s 0x0312
    else success (s.setServed ⟨replica.toNat, view.toNat, members.map (·.toNat), [], none⟩))

end Sys2Proof.Machine
end

