-- ==== Sys2Proof/Machine/Operands.lean ====
section
/-! DEFINITION. The reads and writes that the units of a cluster make of their own scratchpad (03_compute_clusters.md
R36 to R39), and the lottery arbiters of its banks. -/

namespace Sys2Proof.Machine

/-! ### A unit's own scratchpad (R39) -/

/-- Bytes of one row, and whether a word of it was uncorrected or poisoned. -/
def State.unitRow (s : State) (c off n : Nat) : Bool × List Byte × State :=
  let a := scratchAddr c off
  let (e, s) := s.readWords (a / 8 * 8) (spans 8 a n)
  (e.isSome, s.bytes a n, s)

/-- All rows of an operand. -/
def State.unitRows (s : State) (c : Nat) (r : SpadRange) : Bool × List (List Byte) × State :=
  let rec go : Nat → Nat → State → Bool × List (List Byte) × State
    | 0, _, s => (false, [], s)
    | n + 1, o, s =>
      let (e, bs, s) := s.unitRow c o r.len
      let (e', rest, s) := go n (o + r.stride) s
      (e || e', bs :: rest, s)
  go r.rows r.off s

/-- A contiguous operand. (Log entry 38: DESIGN CHOICE, unsafe.) -/
def State.unitRead (s : State) (c : Nat) (r : SpadRange) : Bool × List Byte × State := s.unitRow c r.off r.len

/-- A unit writes bytes of its own scratchpad. (Log entries 38: DESIGN CHOICE, unsafe; 332: DESIGN CHOICE, unsafe.) -/
def State.unitWrite (s : State) (c off : Nat) (bs : List Byte) : State :=
  let a := scratchAddr c off
  (s.putBytes a bs).writeWords a bs.length false (spans 8 a bs.length)

/-- What an operation that consumed a bad word leaves at its destination: the manual does not say, so free bytes.
(Log entry 31: DESIGN CHOICE, safe.) -/
def State.unitScramble (s : State) (c : Nat) (r : SpadRange) : State :=
  (List.range r.rows).foldl (fun (s : State) i =>
    s.tick.unitWrite c (r.off + i * r.stride) (leBytes r.len (s.fresh (8 * r.len)).toNat)) s

end Sys2Proof.Machine
end

