-- ==== Sys2Proof/Machine/Faults.lean ====
section
/-! DEFINITION. The fault collector's commands (20_fault_collection.md R422 to R439). -/

namespace Sys2Proof.Machine

/-- A number of units a source of R423 has; none for a source the table does not give. (Log entry 201: DEDUCED,
unsafe.) -/
def unitOk (src unit detail : Nat) : Bool :=
  if src = 0x01 ∨ src = 0x02 then decide (unit < 1024)
  else if src = 0x03 ∨ src = 0x04 then decide (unit < 8)
  else if src = 0x05 ∨ src = 0x06 then decide (unit < 192)
  else if src = 0x07 ∨ src = 0x08 then decide (unit < 6)
  else if src = 0x09 ∨ src = 0x0A then decide (unit < 9)
  else if src = 0x0B then decide (unit < 144)
  else if src = 0x0C then decide (unit < 32)
  else if src = 0x0D then decide (unit < 3)
  else if src = 0x0E then true
  else if src = 0x0F then decide (unit < 9)
  else if src = 0x10 then decide (unit < 5)
  else if src = 0x11 ∨ src = 0x12 ∨ src = 0x13 ∨ src = 0x14 then decide (unit < 33)
  else if src = 0x15 then unit == 0
  else if src = 0x16 then decide (unit < 4)
  else if src = 0x17 ∨ src = 0x18 then decide (unit < 4096)
  else if src = 0x19 then decide (unit < 13)
  else if src = 0x1A then decide (1 ≤ unit) && decide (unit < 13)
  else if src = 0x1B then railed detail
  else if src = 0x1C then decide (unit < 22)
  else if src = 0x1D then unit == 0
  else if src = 0x1E then decide (unit < 8)
  else false

/-- Rail units of a source (R424): (SOURCE, RUNIT) names a pair of the report rail table. (Log entry 201: DEDUCED,
unsafe.) -/
def railOk (src runit : Nat) : Bool :=
  railed src && (if src = 0x17 ∨ src = 0x18 then runit == 0 else unitOk src runit 0)

/-- A report's SOURCE and UNIT are those of the source table. (Log entry 201: DEDUCED, unsafe.) -/
def repOk (r : FaultRep) : Bool :=
  unitOk r.source.toNat r.unit.toNat r.detail.toNat &&
    (r.source.toNat != 0x1B || railOk r.detail.toNat r.unit.toNat)

/-- Taking order of the faults of one collector cycle: increasing SOURCE, then UNIT (R426). -/
def repLe (a b : FaultRep) : Bool :=
  decide (a.source.toNat < b.source.toNat) || (a.source == b.source && decide (a.unit.toNat ≤ b.unit.toNat))

def insertRep (r : FaultRep) : List FaultRep → List FaultRep
  | [] => [r]
  | x :: xs => if repLe r x then r :: x :: xs else x :: insertRep r xs

/-- (Log entry 200: DEDUCED, unsafe.) -/
def sortReps : List FaultRep → List FaultRep
  | [] => []
  | r :: rs => insertRep r (sortReps rs)

/-- A key slot with an uncorrected error becomes EMPTY (R320). -/
def State.keyStoreError (s : State) (r : FaultRep) : State :=
  if r.source = 0x18 then
    let k := r.unit.toNat % 4096
    let v := Tab.get (fun _ => KeySlot.reset) s.sec.slots k
    let slots := Tab.set (fun _ => KeySlot.reset) s.sec.slots k { KeySlot.reset with gen := v.gen }
    { s with sec := { s.sec with slots := slots } }.sf SEC_STATUS SEC_STATUS_LOADED
      (slots.filter (fun (e : Nat × KeySlot) => e.2.type != 0)).length
  else s

/-- The flag group an uncorrected error report names is lost (R66). -/
def State.flagGroupError (s : State) (r : FaultRep) : State :=
  if r.source = 0x04 then s.groupLost (r.detail.toNat % 4096) else s

/-- R426: the faults that reach the collector in one of its cycles. (Log entries 200: DEDUCED, unsafe; 207: DESIGN
CHOICE, unsafe.) -/
def execFaultReport (reps : List FaultRep) (s : State) : Res :=
  ok ((sortReps (reps.filter repOk)).foldl (fun s r => ((s.faultRep false r).keyStoreError r).flagGroupError r) s)

/-- A rail pair is found broken (R424): reported once, and its later faults are lost. -/
def State.breakRail (s : State) (src runit : Nat) (inj : Bool) : State :=
  if railOk src runit && !s.flt.broken.contains (src, runit) then
    let s := s.fault 0x1B runit src inj
    { s with flt := { s.flt with broken := (src, runit) :: s.flt.broken } }
  else s

/-- R424. -/
def execRailBreak (source : Byte) (runit : W16) (s : State) : Res := ok (s.breakRail source.toNat runit.toNat false)

/-- Set FLT_BLOCKS bits, or clear them. -/
def State.latchBlock (s : State) (b : Nat) (v : Bool) : State :=
  s.wr FLT_BLOCKS (BitVec.ofNat 32 (bitsPut (s.rd FLT_BLOCKS).toNat b 1 (b2n v)))

/-- A block's error line rises (R425): latched and reported. -/
def State.raiseLine (s : State) (b : Nat) (held inj : Bool) : State :=
  let s := s.latchBlock b true
  let s := if held then { s with flt := { s.flt with lines := insertKey s.flt.lines b } } else s
  s.fault 0x1C b 0 inj

/-- R425: a line rises, or falls again once the block's configuration has been rewritten. -/
def execBlockLine (b : Fin 22) (raised : Bool) (s : State) : Res :=
  if raised then ok (s.raiseLine b true false)
  else ok { s with flt := { s.flt with lines := eraseKey s.flt.lines b } }

/-- Acknowledge a class, and clear its OVERFLOW (R431). -/
def State.ackFault (s : State) (c : Nat) (valid overflow : Bool) : State :=
  let w := s.rd64 (fltFirst c)
  let w := if valid then bitsPut w 63 1 0 else w
  let w := if overflow then bitsPut w 62 1 0 else w
  (s.wr64 (fltFirst c) w).fltPend

/-- R431: also in the safe state (R434). -/
def execFltAck (_q : Requester) (c : Fin 3) (valid overflow : Bool) (s : State) : Res :=
  ok (s.ackFault c valid overflow)

/-- Vector `v` lies in the range of an instance that is not FREE (R346). -/
def State.vecInInstance (s : State) (v : Nat) : Bool :=
  s.inst.any (fun e => e.2.state != .free && decide (e.2.vecFirst ≤ v) && decide (v < e.2.vecFirst + e.2.vecCount))

/-- FLT_CTL (R430, R437): VECTOR and CE_EVT are stored; a change of MODE is refused while a latch is VALID, and a set
of VEC_EN when VECTOR lies in an instance's range. (Log entry 202: DEDUCED, unsafe.) -/
def writeFltCtl (q : Requester) (v : W32) (s : State) : State :=
  if s.hostDiscards q then s
  else
    let mode := bitsOf v.toNat 0 1
    let vecEn := bitAt v.toNat 15
    let vec := bitsOf v.toNat 4 11
    let modeBad := mode != s.gf FLT_CTL FLT_CTL_MODE && (s.fltValid 0 || s.fltValid 1 || s.fltValid 2)
    let vecBad := vecEn && !s.bit FLT_CTL FLT_CTL_VEC_EN && s.vecInInstance vec
    let s := (s.sf FLT_CTL FLT_CTL_VECTOR vec).sf FLT_CTL FLT_CTL_CE_EVT (bitsOf v.toNat 3 1)
    let s := if modeBad then s else s.sf FLT_CTL FLT_CTL_MODE mode
    let s := if vecBad then s else s.sf FLT_CTL FLT_CTL_VEC_EN (b2n vecEn)
    s.sf FLT_CTL FLT_CTL_REFUSAL (if modeBad then 0x0620 else if vecBad then 0x0621 else 0)

/-- R430: a write of FLT_CTL. -/
def execFltModeWrite (q : Requester) (v : W32) (s : State) : Res := ok (writeFltCtl q v s)

/-- FLT_BLOCKS (R425): ones clear bits; a line still raised sets its bit again (R7). -/
def writeFltBlocks (q : Requester) (v : W32) (s : State) : State :=
  if s.hostDiscards q then s
  else
    let s := s.wr FLT_BLOCKS ((s.rd FLT_BLOCKS) &&& ~~~v)
    s.flt.lines.foldl (fun s b => s.latchBlock b true) s

/-- R425. -/
def execFltBlocksClear (q : Requester) (v : W32) (s : State) : Res := ok (writeFltBlocks q v s)

/-- Factory test mode (R435), and debug scopes in force (R319): every scope in factory test mode. -/
def State.factory (s : State) : Bool := s.bit DEV_STRAPS DEV_STRAPS_FACTORY
def State.scope (s : State) (b : Nat) : Bool := s.factory || bitAt (s.gf SEC_STATUS SEC_STATUS_DEBUG) b

/-- The (UNIT, address) of an injection names a target of its checker (R436). -/
def injTargetOk (checker unit addr : Nat) : Bool :=
  match checker with
  | 0 => decide (unit < 1024) && decide (addr < 0x8_0000) && aligned 8 addr
  | 1 => decide (unit < 8) && addr % 4096 / 512 == unit
  | 2 => decide (unit < 192) && decide (addr < hbmBytes) && aligned 64 addr && hbmChannel addr == unit
  | 3 => decide (unit < 4096) && addr == 0
  | 4 => decide (unit < 32) && aligned 4 addr && (decide (addr < 0x20_0000)
      || (decide (0x1000_0000 ≤ addr) && decide (addr < 0x1004_0000)))
  | 5 => decide (unit < 9)
  | _ => false

/-- Offsets of the FLT registers within the block (R435, CHECKER 11). -/
def fltOffsets : List Nat := [0, 4, 0x10, 0x18, 0x20, 0x30, 0x38, 0x40, 0x48, 0x4C, 0x50, 0x58, 0x60, 0x68]

/-- An address operand as the checker reads it: the physical group of checker 1 in bits [11:0]. -/
def injAddr (checker addr : Nat) : Nat := if checker = 1 then addr % 4096 else addr

/-- An ARM (R435, R436): whether it was accepted, and its effect. (Log entry 203: DEDUCED, unsafe.) -/
def State.armInjection (s : State) (checker flip unit addr : Nat) : Bool × State :=
  let deny (s : State) : Bool × State := (false, s.sf FLT_INJ FLT_INJ_DENIED 1)
  if checker ≤ 5 then
    if s.scope 2 && injTargetOk checker unit addr then
      (true, { (s.sf FLT_INJ FLT_INJ_BUSY 1) with
        flt := { s.flt with injections := s.flt.injections.filter (fun i => i != ⟨checker, i.flip, unit, injAddr checker addr⟩) ++
          [⟨checker, if flip = 2 then 2 else 1, unit, injAddr checker addr⟩] } })
    else deny s
  else if !s.factory then deny s
  else
    match checker with
    | 8 =>
      let src := bitsOf addr 0 8
      let u := bitsOf addr 8 16
      let d := bitsOf addr 24 32
      let r : FaultRep := ⟨BitVec.ofNat 8 src, BitVec.ofNat 16 u, BitVec.ofNat 32 d⟩
      if repOk r then (true, s.faultRep true r) else deny s
    | 9 => if railOk (addr % 256) unit then (true, s.breakRail (addr % 256) unit true) else deny s
    | 10 => if unit < 22 then (true, s.raiseLine unit false true) else deny s
    | 11 => if fltOffsets.contains (addr % 65536) then (true, s.fault 0x1D 0 (addr % 65536) true) else deny s
    | _ => deny s

/-- FLT_INJ (R435 to R437): DENIED clears by a one; FLIP, CHECKER and UNIT are stored; ARM performs the injection. Only
the Tahr cores and JTAG write it. -/
def writeFltInj (q : Requester) (v : W32) (s : State) : State :=
  if !coreWrites q then s
  else
    let w := v.toNat
    let s := if bitAt w 29 then s.sf FLT_INJ FLT_INJ_DENIED 0 else s
    let s := (s.sf FLT_INJ FLT_INJ_FLIP (bitsOf w 27 2)).sf FLT_INJ FLT_INJ_CHECKER (bitsOf w 23 4)
    let s := s.sf FLT_INJ FLT_INJ_UNIT (bitsOf w 0 16)
    if bitAt w 31 then (s.armInjection (bitsOf w 23 4) (bitsOf w 27 2) (bitsOf w 0 16) (s.rd64 FLT_INJ_ADDR)).2 else s

/-- R436: a write of FLT_INJ with ARM one. -/
def execFltInjArm (q : Requester) (v : W32) (s : State) : Res := ok (writeFltInj q (v ||| 0x80000000#32) s)

/-- The stored bits of a target carry inverted check bits (R436). -/
def State.markTarget (s : State) (checker unit addr flip : Nat) : State :=
  let m := flipMark flip
  match checker with
  | 0 => s.setWordMark (scratchAddr unit addr) m
  | 1 => { s with flags := { s.flags with ecc := Tab.set markClean s.flags.ecc addr m } }
  | 2 => s.setLineMark addr m
  | 3 => { s with flt := { s.flt with slotMarks := Tab.set markClean s.flt.slotMarks unit m } }
  | 4 => { s with flt := { s.flt with coreMarks := Tab.set markClean s.flt.coreMarks (unit * 2 ^ 32 + addr) m } }
  | _ => { s with flt := { s.flt with bufMarks := Tab.set markClean s.flt.bufMarks (unit * 2 ^ 32 + addr) m } }

/-- R436: the next write to the armed target. A write to any other place leaves the injection waiting. -/
def execInjectionTargetWrite (checker : Fin 6) (unit : W16) (addr : W64) (s : State) : Res :=
  match s.takeInjection checker unit.toNat (injAddr checker addr.toNat) with
  | (some f, s') => ok (s'.markTarget checker unit.toNat (injAddr checker addr.toNat) f)
  | (none, _) => ok s

/-- R432: 10 ms after a source's last class 0 event, the one that waits is written. (Log entry 204: DEDUCED, unsafe.) -/
def execCeEventDue (source : Byte) (s : State) : Res :=
  let l := s.ceOf source.toNat
  let past := match l.last with
    | some t => decide (s.clock - t ≥ tenMs)
    | none => true
  match l.waiting with
  | some r => if past && s.bit FLT_CTL FLT_CTL_CE_EVT && s.domainRuns 16 then ok (s.writeFltEvent 0 r s.now) else ok s
  | none => ok s

/-! ### Syncen operations (R439); domain 16 carries them (R376) -/

def domFault : Option Nat := some 16

/-- R439. -/
def execSynFltQuery (r : SynReq) (s : State) : Res :=
  ok (s.syn 0x1100 domFault r fun s =>
    let first (c : Nat) := leBytes 8 (s.rd64 (fltFirst c))
    let time (c : Nat) := leBytes 8 (s.rd64 (FLT_FIRST_TIME c))
    let cnt (c : Nat) := leBytes 4 (s.rd (FLT_COUNT c)).toNat
    success s (leBytes 4 (s.rd FLT_STATUS).toNat ++ first 0 ++ first 1 ++ first 2 ++ time 0 ++ time 1 ++ time 2
      ++ cnt 0 ++ cnt 1 ++ cnt 2 ++ leBytes 4 (s.rd FLT_BLOCKS).toNat))

/-- R431, R439. -/
def execSynFltAck (r : SynReq) (classes overflows : BitVec 3) (s : State) : Res :=
  ok (s.syn 0x1101 domFault r fun s =>
    success ((List.range 3).foldl (fun s c => s.ackFault c (classes.getLsbD c) (overflows.getLsbD c)) s))

/-- R430, R439. -/
def execSynFltModeSet (r : SynReq) (mode : W32) (s : State) : Res :=
  ok (s.syn 0x1102 domFault r fun s =>
    if mode.toNat > 1 then refuse s 0x0102
    else if mode.toNat ≠ s.gf FLT_CTL FLT_CTL_MODE ∧ (s.fltValid 0 ∨ s.fltValid 1 ∨ s.fltValid 2) then
      refuse (s.sf FLT_CTL FLT_CTL_REFUSAL 0x0620) 0x0620
    else success ((s.sf FLT_CTL FLT_CTL_MODE mode.toNat).sf FLT_CTL FLT_CTL_REFUSAL 0))

/-- R436, R439: firmware writes the injection registers; an ARM that is denied is refused with 0x0408. -/
def execSynFltInject (r : SynReq) (checker : BitVec 4) (flip : BitVec 2) (unit : W16) (addr : W64) (s : State) : Res :=
  ok (s.syn 0x1103 domFault r fun s =>
    let s := s.wr64 FLT_INJ_ADDR addr.toNat
    let s := (s.sf FLT_INJ FLT_INJ_FLIP flip.toNat).sf FLT_INJ FLT_INJ_CHECKER checker.toNat
    let s := s.sf FLT_INJ FLT_INJ_UNIT unit.toNat
    match s.armInjection checker.toNat flip.toNat unit.toNat addr.toNat with
    | (true, s) => success s
    | (false, s) => refuse s 0x0408)

/-- R439: the safe state with source 0x1E, and no response; a request that the common checks refuse is answered. -/
def execSynFltForceSafe (r : SynReq) (s : State) : Res :=
  match s.synRefusal 0x1104 domFault r with
  | some st => ok (s.answer 0x1104 r st [])
  | none => ok (s.fault 0x1E (synBox r.port) 0)

/-- R425, R439: firmware rewrites the block's configuration, which ends the parity error, and the bit clears. -/
def execSynFltBlockClear (r : SynReq) (b : Fin 22) (s : State) : Res :=
  ok (s.syn 0x1105 domFault r fun s =>
    success ({ s with flt := { s.flt with lines := eraseKey s.flt.lines b } }.latchBlock b false))

end Sys2Proof.Machine
end

