-- ==== Sys2Proof/Machine/HostLink.lean ====
section
/-! DEFINITION. The host endpoint's commands (15_host_endpoint.md R324 to R342): the HBM aperture, host windows,
translations, interrupts, bus mastering, function-level reset, power states, Syncen opcodes 0x0E00 to 0x0E02. -/

namespace Sys2Proof.Machine

/-! ### Errors that AER reports (R335) -/

/-- An uncorrectable non-fatal error is logged in AER and Device Status, and signalled where enabled. (Log entry 150:
PRESUMED, unsafe.) -/
def State.aerNonFatal (s : State) (bit : Nat) : State :=
  let s := s.cfgWr 0x104 (s.cfgRd 0x104 ||| BitVec.ofNat 32 (2 ^ bit))
  let s := s.cfgWr 0x68 (s.cfgRd 0x68 ||| 0x20000#32)
  if !s.cfgBit 0x108 bit && (s.cfgBit 0x68 1 || s.cfgBit 0x04 8) then s.emit (.message 0x31 [bit]) else s

/-- An advisory non-fatal error (R335): a Poisoned TLP received (bit 12) or an Unsupported Request (bit 20), logged with the
correctable status of an advisory error; where its severity is set to fatal it is none, and is logged and signalled as that.
(Log entry 158: PRESUMED, unsafe.) -/
def State.aerAdvisory (s : State) (bit : Nat) : State :=
  let ur : W32 := if bit = 20 then 0x80000 else 0
  let s := s.cfgWr 0x104 (s.cfgRd 0x104 ||| BitVec.ofNat 32 (2 ^ bit))
  if s.cfgBit 0x10C bit then
    let s := s.cfgWr 0x68 (s.cfgRd 0x68 ||| 0x40000#32 ||| ur)
    if !s.cfgBit 0x108 bit && (s.cfgBit 0x68 2 || s.cfgBit 0x04 8) then s.emit (.message 0x33 [bit]) else s
  else
    let s := (s.cfgWr 0x110 (s.cfgRd 0x110 ||| 0x2000#32)).cfgWr 0x68 (s.cfgRd 0x68 ||| 0x10000#32 ||| ur)
    if !s.cfgBit 0x114 13 && !s.cfgBit 0x108 bit && s.cfgBit 0x68 0 then s.emit (.message 0x30 [bit]) else s

/-- A host request that completes as Unsupported Request is logged (R326, R335), unless a function-level reset runs or the safe
state is in force. -/
def State.unsupported (s : State) : State := if s.host.flrBusy || s.safe then s else s.aerAdvisory 20

/-! ### The HBM aperture (R327, R328) -/

def State.aperture (s : State) (w : Nat) : Aperture := Tab.get (fun _ => Aperture.off) s.host.winActive w

/-- The function claims memory requests (R326, R337, R433). -/
def State.claims (s : State) : Bool := s.mse && !s.host.flrBusy && !s.safe

/-- A host access to BAR2: a write with its data and poison mark, or a read of `len` bytes. `answer32` holds what a read
returns, `answerErr` an Unsupported Request or the EP bit; AER logs the first and a poisoned write (R334, R335). A request that comes before READY is held on line 6 and served
after it (R174, R177). (Log entry 152: DEDUCED, unsafe.) -/
def execApertureAccess (off : BitVec 36) (len : Fin 4097) (data : Option (List Byte)) (poison : Bool) (s : State) : Res :=
  let w := off.toNat / 2 ^ 32
  let o := off.toNat % 2 ^ 32
  let a := s.aperture w
  let n := match data with
    | some bs => bs.length
    | none => len.val
  let hit := a.en && decide (o + n ≤ 2 ^ a.log2) && bitAt a.rights (if data.isSome then 1 else 0)
  let s := if poison && data.isSome && s.claims then s.aerAdvisory 12 else s
  if !s.claims then ok { s.unsupported with answer32 := [], answerErr := some .address }
  else if hit && s.hbmHeld (a.target + o) then ok (s.holdAccess 6 (a.target + o) n data poison (n + 1))
  else match data with
    | some bs =>
      if hit then ok (s.store (a.target + o) bs poison).2 else ok (s.cnt WIN_MISS WIN_MISS_WRITES 1)
    | none =>
      if hit then
        match s.load (a.target + o) n with
        | (e, bs, s) => ok { s with answer32 := bs, answerErr := e }
      else ok { (s.cnt WIN_MISS WIN_MISS_READS 1).unsupported with answer32 := [], answerErr := some .address }

/-- The staged window w. -/
def State.winStaged (s : State) (w : Nat) : Aperture :=
  ⟨s.gf (WIN_TARGET w) WIN_TARGET_TARGET <<< 12, s.bit (WIN_CFG w) WIN_CFG_EN, s.gf (WIN_CFG w) WIN_CFG_RIGHTS,
    s.gf (WIN_CFG w) WIN_CFG_LOG2SIZE⟩

/-- 0x06E0 and 0x06E1 over the staged set. (Log entry 152: DEDUCED, unsafe.) -/
def State.winCheck (s : State) : Option Nat :=
  let l := ((List.range 16).map s.winStaged).filter (·.en)
  if l.any (fun a => a.log2 < 12 || a.log2 > 32 || !aligned (2 ^ a.log2) a.target) then some 0x06E0
  else if l.any (fun a => !inHbm a.target (2 ^ a.log2)) then some 0x06E1
  else none

/-- The host driver or firmware may write the WIN block (R328). -/
def winWrites (q : Requester) : Bool := q == .host || coreWrites q

def writeWinCommit (q : Requester) (v : W32) (s : State) : State :=
  if !winWrites q || s.hostDiscards q || !bitAt v.toNat 31 || s.bit WIN_COMMIT WIN_COMMIT_PENDING || s.blockDown 4 then s
  else match s.winCheck with
    | some c => s.sf WIN_COMMIT WIN_COMMIT_REFUSAL c
    | none => (s.sf WIN_COMMIT WIN_COMMIT_REFUSAL 0).sf WIN_COMMIT WIN_COMMIT_PENDING 1

/-- A staged window register: no effect while PENDING is one. `mask` keeps the writable bits. -/
def writeWinStaged (q : Requester) (off : Nat) (mask v : W32) (s : State) : State :=
  if !winWrites q || s.hostDiscards q || s.bit WIN_COMMIT WIN_COMMIT_PENDING then s else s.wr off (v &&& mask)

def execWinCommit (q : Requester) (v : W32) (s : State) : Res := ok (writeWinCommit q (v ||| 0x80000000#32) s)

def execWinActivate (s : State) : Res :=
  if s.bit WIN_COMMIT WIN_COMMIT_PENDING then
    let t := (List.range 16).foldl (fun t w => Tab.set (fun _ => Aperture.off) t w (s.winStaged w)) []
    ok ({ s with host := { s.host with winActive := t } }.sf WIN_COMMIT WIN_COMMIT_PENDING 0)
  else ok s

/-! ### Host windows (R329, R330) -/

/-- A host window entry from its 16 bytes. -/
def hwinEntry (e : List Byte) : HWin :=
  ⟨fieldLE e 0 8 / 4096 * 4096, wordFd e 2 0 20, wordFd e 2 20 1 == 1, wordFd e 2 21 1 == 1, wordFd e 3 0 1 == 1,
    wordFd e 3 1 1 == 1, wordFd e 3 2 1 == 1, wordFd e 3 8 6⟩

def HWin.bytes (e : HWin) : List Byte :=
  leBytes 8 e.hostAddr ++ leBytes 4 (e.pasid + b2n e.pv * 2 ^ 20 + b2n e.ns * 2 ^ 21)
    ++ leBytes 4 (b2n e.en + b2n e.rd * 2 + b2n e.wr * 4 + e.log2 * 256)

def State.hwinBase (s : State) : Nat := s.gf HWIN_BASE HWIN_BASE_BASE <<< 12

/-- 0x06E2 over a table of 512 entries. -/
def State.hwinCheck (s : State) (t : List HWin) : Option Nat :=
  let held (p : Nat) : Bool := s.inst.any (fun e => e.2.state != .free && e.2.pasid == p)
  if !inHbm s.hwinBase 8192 || t.any (fun e => e.en && (e.log2 < 12 || e.log2 > 31 || (e.pv && !held e.pasid))) then
    some 0x06E2
  else none

/-- The 512 entries at HWIN_BASE. -/
def State.hwinTable (s : State) : List HWin :=
  (List.range 512).map (fun h => hwinEntry (s.bytes (s.hwinBase + h * 16) 16))

/-- Commit a table: the check, then its copy starts. -/
def State.hwinCommit (s : State) (t : List HWin) : State :=
  let tab := ((List.range 512).zip t).foldl (fun m e => Tab.set (fun _ => HWin.off) m e.1 e.2) []
  onSome (s.hwinCheck t)
    (({ s with host := { s.host with hwinNext := some tab } }.sf HWIN_COMMIT HWIN_COMMIT_REFUSAL 0).sf
      HWIN_COMMIT HWIN_COMMIT_PENDING 1)
    (fun c => s.sf HWIN_COMMIT HWIN_COMMIT_REFUSAL c)

/-- (Log entry 344: DEDUCED, unsafe.) -/
def writeHwinCommit (q : Requester) (v : W32) (s : State) : State :=
  if !coreWrites q || !bitAt v.toNat 31 || s.bit HWIN_COMMIT HWIN_COMMIT_PENDING || s.blockDown 16 then s
  else (s.load s.hwinBase 8192).2.2.hwinCommit s.hwinTable

def writeHwinBase (q : Requester) (off : Nat) (mask v : W32) (s : State) : State :=
  if !coreWrites q || s.bit HWIN_COMMIT HWIN_COMMIT_PENDING then s else s.wr off (v &&& mask)

def execHwinCommit (q : Requester) (v : W32) (s : State) : Res := ok (writeHwinCommit q (v ||| 0x80000000#32) s)

def execHwinCopyDone (s : State) : Res :=
  match s.host.hwinNext with
  | some t => ok ({ s with host := { s.host with hwin := t, hwinNext := none } }.sf HWIN_COMMIT HWIN_COMMIT_PENDING 0)
  | none => ok s

/-- Entries replace those at `first` in the table at HWIN_BASE, which is committed (R342). (Log entry 154: DEDUCED,
unsafe.) -/
def execSynHostWinSet (r : SynReq) (first : Nat) (entries : List (List Byte)) (s : State) : Res :=
  ok (s.syn 0x0E00 (some 0) r (fun s =>
    if first + entries.length > 512 then refuseFree s
    else if s.bit HWIN_COMMIT HWIN_COMMIT_PENDING then refuse s 0x0201
    else
      let new := entries.map (fun e => hwinEntry (fit 16 e))
      let t := s.hwinTable.take first ++ new ++ s.hwinTable.drop (first + new.length)
      let s := (s.load s.hwinBase 8192).2.2
      match s.hwinCheck t with
      | some c => refuse (s.sf HWIN_COMMIT HWIN_COMMIT_REFUSAL c) c
      | none => success ((s.poke (s.hwinBase + first * 16) (entries.map (fit 16)).flatten).hwinCommit t)))

/-- (Log entry 153: DESIGN CHOICE, unsafe.) -/
def execSynHostWinQuery (r : SynReq) (first count : Nat) (s : State) : Res :=
  ok (s.syn 0x0E01 (some 0) r (fun s =>
    if first + count > 512 then refuseFree s
    else success s ((List.range count).map (fun k =>
      (Tab.get (fun _ => HWin.off) s.host.hwin (first + k)).bytes)).flatten))

/-! ### Translations (R331, R332) -/

def pasidKey (p : Option (BitVec 20)) : Nat := match p with
  | none => 0
  | some x => x.toNat + 1

/-- ATS Enable. -/
def State.atsOn (s : State) : Bool := s.cfgBit 0x174 31

/-- A translation arrives (R331): it is kept in the 4,096-entry cache, in place of a victim the manual does not name
when the cache is full. One whose page was invalidated while it was outstanding is used for nothing and is requested
again (R341); one that denies the access is not kept. (Log entries 150: PRESUMED, unsafe; 151: DESIGN CHOICE, safe;
156: DESIGN CHOICE, safe.) -/
def execTranslationCompletion (pasid : Option (BitVec 20)) (page : BitVec 52) (bus : Option (BitVec 52)) (raced : Bool)
    (s : State) : Res :=
  let k := pasidKey pasid
  if !s.atsOn || s.host.flrBusy then ok s
  else if raced then ok (s.emit (.message 0x01 [k, page.toNat]))
  else match bus with
    | none => ok s
    | some b =>
      let atc := s.host.atc.filter (fun e => !(e.1 == k && e.2.1 == page.toNat))
      let full := decide (atc.length ≥ 4096)
      let atc := if full then atc.eraseIdx ((s.fresh 16).toNat % atc.length) else atc
      let s := if full then s.tick else s
      ok { s with host := { s.host with atc := (k, page.toNat, b.toNat) :: atc } }

/-- An Invalidation Request removes the matching entries at once; its completion is owed (R332). -/
def execInvalidationRequest (pasid : Option (BitVec 20)) (page pages : BitVec 52) (itag : Fin 32) (s : State) : Res :=
  let k := pasidKey pasid
  let hit (e : Nat × Nat × Nat) : Bool :=
    e.1 == k && decide (page.toNat ≤ e.2.1) && decide (e.2.1 < page.toNat + pages.toNat)
  ok { s with host := { s.host with
    atc := s.host.atc.filter (fun e => !hit e)
    inval := s.host.inval ++ [⟨k, page.toNat, pages.toNat, itag.val⟩]
    invalidations := s.host.invalidations + 1 } }

/-- No request uses the removed translations any more: the completion goes. (Log entry 150: PRESUMED, unsafe.) -/
def execInvalidationCompletion (itag : Fin 32) (s : State) : Res :=
  match s.host.inval.find? (fun i => i.itag == itag.val) with
  | some i =>
    if s.host.flrBusy || s.safe then ok s
    else ok ({ s with host := { s.host with inval := s.host.inval.erase i } }.emit (.message 0x02 [itag.val]))
  | none => ok s

/-! ### Errors (R334, R335) -/

/-- A read's completion does not arrive in time: Completion Timeout is logged and the tag retired for 100 ms. The
missing bytes reach their consumer marked poisoned, which that consumer's own command carries. (Log entry 155: DESIGN
CHOICE, safe.) -/
def execCompletionTimeout (tag : BitVec 10) (s : State) : Res :=
  let live := s.host.retired.filter (fun e => decide (s.clock - e.2 < 15625000))
  if live.any (fun e => e.1 == tag.toNat) then ok s
  else ok ({ s with host := { s.host with retired := (tag.toNat, s.clock) :: live } }.aerNonFatal 14)

/-! ### Interrupts (R333) -/

/-- The vector of the fault collector may go in the safe state, as its last message (R433). -/
def State.fltVector (s : State) (v : Nat) : Bool := s.bit FLT_CTL FLT_CTL_VEC_EN && s.gf FLT_CTL FLT_CTL_VECTOR == v

/-- A due vector: its message, with the table entry read as one unit, and its PBA bit cleared; or its PBA bit set while
a blocking condition holds. A message brings the link out of L1 (R340). -/
def execMsixSend (v : Fin 2048) (s : State) : Res :=
  let n := v.val
  let inPba := bitAt (s.rd (MSIX_PBA (n / 32))).toNat (n % 32)
  if !(s.host.vecDue.contains n || inPba) then ok s
  else if s.host.flrBusy || (s.safe && !s.fltVector n) then ok s
  else if s.vecBlocked n then ok { s.pba n true with host := { s.host with vecDue := eraseKey s.host.vecDue n } }
  else
    let addr := (s.rd (MSIX_ADDR_LO n)).toNat + (s.rd (MSIX_ADDR_HI n)).toNat * 2 ^ 32
    let s := { s.pba n false with host := { s.host with
      vecDue := eraseKey s.host.vecDue n, link := if s.host.link == LinkState.l1 then LinkState.l0 else s.host.link } }
    ok (s.emit (.msix n addr (s.rd (MSIX_DATA n)).toNat))

/-! ### Bus mastering, function-level reset, power states (R336 to R340) -/

/-- Host mastering ends: due vectors wait in the PBA, and operations that need host memory complete with 0x0011 by each
engine's rule (R58, R232, R292). -/
def State.hostStops (s : State) : State :=
  let due := s.host.vecDue
  let s := due.foldl (fun (s : State) v => s.pba v true) { s with host := { s.host with vecDue := [] } }
  (s.trnHostDown).stoHostDown

/-- Host mastering returns: what is owed to the host is written. -/
def State.hostReturns (s : State) : State :=
  if s.hostUp then (((s.flushEvents).instFlushAll).pumpAll).kvPump else s

def execBusMasterEnableClear (s : State) : Res :=
  ok (State.hostStops (s.cfgWr 0x04 (s.cfgRd 0x04 &&& ~~~4#32)))
def execBusMasterEnableSet (s : State) : Res := ok (State.hostReturns (s.cfgWr 0x04 (s.cfgRd 0x04 ||| 4#32)))

/-- Sticky configuration words that a function-level reset keeps: AER, and the power management status. (Log entry
157: DEDUCED, unsafe.) -/
def cfgSticky (off : Nat) : Bool := [0x2C, 0x104, 0x108, 0x10C, 0x110, 0x114, 0x118].contains off

/-- Configuration space after a function-level reset: non-sticky fields at their reset values, PME bits kept. -/
def cfgAfterFlr (t : Tab W32) : Tab W32 :=
  let pm := Tab.get cfgReset t 0x44
  Tab.set cfgReset (t.filter (fun e => cfgSticky e.1)) 0x44 (cfgReset 0x44 &&& ~~~0x8100#32 ||| (pm &&& 0x8100#32))

/-- Initiate Function Level Reset (R337). (Log entry 157: DEDUCED, unsafe.) -/
def State.startFlr (s : State) : State :=
  let s := State.hostStops { s with host := { s.host with flrBusy := true } }
  let s := s.secFlr
  let s := (s.inst.map (·.1)).foldl (fun (s : State) i => s.instReset i) s
  let winReg (o : Nat) : Bool := decide (0x50000 ≤ o) && decide (o < 0x50100)
  let msix (o : Nat) : Bool := decide (0x100000 ≤ o) && decide (o < 0x190000)
  let s := { s with
    regs := s.regs.filter (fun e => !winReg e.1 && !msix e.1)
    host := { s.host with winActive := [], atc := [], inval := [], vecDue := [], cfg := cfgAfterFlr s.host.cfg } }
  s.sf WIN_COMMIT WIN_COMMIT_PENDING 0

def execInitiateFunctionLevelReset (s : State) : Res := ok s.startFlr

def execFunctionLevelResetDone (s : State) : Res := ok { s with host := { s.host with flrBusy := false } }

/-- A power state write to D3hot, and back to D0 (R339). -/
def State.toD3hot (s : State) : State :=
  let s := s.cfgWr 0x44 (s.cfgRd 0x44 ||| 3#32)
  State.hostStops { s with host := { s.host with link := .l1 } }
def State.toD0 (s : State) : State :=
  let s := s.cfgWr 0x44 (s.cfgRd 0x44 &&& ~~~3#32)
  State.hostReturns { s with host := { s.host with link := if s.host.link = .l2 then .l2 else .l0 } }
def execD3hot (s : State) : Res := ok s.toD3hot
def execD0 (s : State) : Res := ok s.toD0

/-- PME_Turn_Off: PME_TO_Ack, and the link enters L2 (R339). (Log entry 150: PRESUMED, unsafe.) -/
def execPmeTurnOff (s : State) : Res := ok (State.emit { s with host := { s.host with link := .l2 } } (.message 0x1B []))

/-- 32 µs without traffic with ASPM L1 enabled (R340). -/
def execL1Entry (s : State) : Res :=
  if s.cfgBit 0x70 1 ∧ s.host.link = .l0 then ok { s with host := { s.host with link := .l1 } } else ok s

/-- Link speed and width, power state, AER status copies, translation cache entries and invalidations, WIN_MISS. (Log
entry 153: DESIGN CHOICE, unsafe.) -/
def execSynHostQuery (r : SynReq) (s : State) : Res :=
  ok (s.syn 0x0E02 (some 0) r (fun s =>
    success s (leBytes 4 (s.cfgRd 0x70).toNat ++ leBytes 1 ((s.cfgRd 0x44).toNat % 4) ++ leBytes 4 (s.cfgRd 0x104).toNat
      ++ leBytes 4 (s.cfgRd 0x110).toNat ++ leBytes 4 s.host.atc.length ++ leBytes 4 s.host.invalidations
      ++ leBytes 4 (s.rd WIN_MISS).toNat)))

end Sys2Proof.Machine
end

