-- ==== Sys2Proof/Machine/Package.lean ====
section
/-! DEFINITION. Resets, supplies, reference clocks and root-port links (15_host_endpoint.md R338, R339;
19_power_clocks_telemetry.md R404; 20_fault_collection.md R423; 22_package_and_pins.md R476 to R484, R489). -/

namespace Sys2Proof.Machine

/-- The key that DEV_RESET takes (R338). -/
def devResetKey : W32 := 0x4E455253#32

/-- The device boots when it lies in its reset state and nothing holds it. (Log entry 220: DEDUCED, unsafe.) -/
def State.tryBoot (s : State) : State :=
  if s.gf DEV_STATUS DEV_STATUS_STAGE = 0 ∧ s.mayBoot then s.bootRom else s

/-- PERST_N (R338, R339, R476): low is a full device reset, and D3cold when the link is in L2; high releases WAKE_N and,
with every main rail in range, starts the boot with the straps at their pin levels. -/
def execPerstN (high : Bool) (straps : BitVec 8) (s : State) : Res :=
  if high then
    ok (State.tryBoot { s with
      pins := { s.pins with perstN := true, wakeN := true, straps := straps.toNat }
      aon := { s.aon with d3cold := false } })
  else
    let cold := s.host.link == LinkState.l2
    let pme := s.cfgBit 0x44 8
    let s := { s with aon := { s.aon with d3cold := s.aon.d3cold || cold, pmeEn := if cold then pme else s.aon.pmeEn } }
    let s := s.fullReset
    ok { s with pins := { s.pins with perstN := false, straps := straps.toNat } }

/-- A hot reset and a loss of the host link are full device resets (R338). -/
def execHotReset (s : State) : Res := ok s.resetAndBoot
def execDlDown (s : State) : Res := ok s.resetAndBoot

/-- DEV_RESET: the key causes a full device reset, in the safe state too (R434); any other value has no effect. -/
def writeDevReset (q : Requester) (v : W32) (s : State) : State :=
  if devWrites q && v == devResetKey then s.resetAndBoot else s

def execDevReset (q : Requester) (v : W32) (s : State) : Res := ok (writeDevReset q v s)

/-- VDD_AON and VIO_AON come into range (R481): the always-on island starts, and the device is held in reset until the
main rails follow. -/
def execAlwaysOnPowerUp (s : State) : Res :=
  let s := State.fullReset { s with aon := Aon.reset }
  ok { s with pins := { s.pins with aonInRange := true, mainInRange := false, rootUp := [] } }

/-- A main rail below its minimum for 1 µs (R481, R489): fault source 0x0E once the device has been released; while it
is held in reset, only the hold. (Log entry 221: DEDUCED, unsafe.) -/
def execMainRailUndervoltage (rail : W16) (mv : BitVec 32) (s : State) : Res :=
  let running := s.pins.perstN && s.gf DEV_STATUS DEV_STATUS_STAGE != 0
  let s := { s with pins := { s.pins with mainInRange := false } }
  ok (if running then s.fault 0x0E rail.toNat mv.toNat else s)

/-- Every main rail is in range again: the internal reset is released and the straps latch (R481, R489). -/
def execMainRailInRange (straps : BitVec 8) (s : State) : Res :=
  ok (State.tryBoot { s with pins := { s.pins with mainInRange := true, straps := straps.toNat } })

/-- A reference clock missing or off frequency (R404, R484): a fatal fault. In reset the collector takes none. (Log
entry 221: DEDUCED, unsafe.) -/
def execReferenceClockLoss (unit : Fin 3) (ppm : BitVec 32) (s : State) : Res :=
  ok (if s.gf DEV_STATUS DEV_STATUS_STAGE = 0 then s else s.fault 0x0D unit.val ppm.toNat)

/-- A root port's link is up. -/
def State.rootUp (s : State) (n : Nat) : State :=
  { s with pins := { s.pins with
    rootUp := insertKey s.pins.rootUp n, rootHeld := eraseKey s.pins.rootHeld n } }

/-- A drive's link is up: its controller is READY (R296). -/
def State.driveUp (s : State) (d width mdts : Nat) (nss : List (Nat × Nat × Bool)) (vwc : Bool) : State :=
  let s := (s.rootUp (8 + d)).setBacking d ⟨true, vwc, mdts, nss, [], s.clock, none⟩
  let r := STO_DRIVE_STATUS d
  let s := (s.sf r STO_DRIVE_STATUS_PRESENT 1).sf r STO_DRIVE_STATUS_READY 1
  (s.sf r STO_DRIVE_STATUS_VWC (b2n vwc)).sf r STO_DRIVE_STATUS_WIDTH width

/-- A root port completes link training. An accelerator port trains once its reset pin is high (R13, R478); a drive port
once firmware runs (R477), and its controller is enumerated and made READY (R296). -/
def execRootPortLinkUp (port : RootLink) (s : State) : Res :=
  match port with
  | .accel p =>
    if s.safe || !s.pins.aperst.contains p.val || s.pins.rootHeld.contains p.val then ok s else ok (s.rootUp p.val)
  | .drive d width vwc mdts nss =>
    if s.safe || !s.pins.dperst.contains d.val then ok s
    else ok (s.driveUp d.val width.toNat mdts nss vwc)

/-- A root port loses its link (R423): reported, and held in link-disable until firmware retrains it; a drive's
outstanding commands complete with 0x0053 (R289). -/
def execRootPortLinkLost (port : Fin 12) (ltssm : BitVec 32) (s : State) : Res :=
  let n := port.val
  if !s.pins.rootUp.contains n then ok s
  else
    let s := { s with pins := { s.pins with
      rootUp := eraseKey s.pins.rootUp n, rootHeld := insertKey s.pins.rootHeld n } }
    let s := s.fault 0x1A (n + 1) ltssm.toNat
    if n < 8 then ok s
    else
      let d := n - 8
      let s := s.setBacking d { s.backing d with ready := false }
      let r := STO_DRIVE_STATUS d
      let s := (s.sf r STO_DRIVE_STATUS_PRESENT 0).sf r STO_DRIVE_STATUS_READY 0
      ok (s.stoBackingLost d)

end Sys2Proof.Machine
end

