-- ==== Sys2Proof/Machine/Power.lean ====
section
/-! DEFINITION. Supplies, clock levels, the governor, IPFIX export and the always-on island's MCTP and PLDM services
(19_power_clocks_telemetry.md R403 to R421). -/

namespace Sys2Proof.Machine

/-! ### Levels (R407, R408) -/

/-- VDD_CMP in mV and VSCALE in thousandths, by level. -/
def levelMv (l : Nat) : Nat := [850, 800, 760, 720, 680, 650][l]?.getD 650
def vscale (l : Nat) : Nat := [1000, 886, 799, 718, 640, 585][l]?.getD 585

/-- LIMIT_W, a value outside 400 to 850 acting as the nearer bound (R417). -/
def State.limitW (s : State) : Nat := min 850 (max 400 (s.gf PWR_CTL PWR_CTL_LIMIT_W))

/-- LEVELd of PWR_LEVELS. -/
def levelFd (d : Nat) : Fd := ⟨4 * d, 3⟩
def State.level (s : State) (d : Nat) : Nat := s.gf PWR_LEVELS (levelFd d)

/-- The voltage of rail VDD_CMPk: that of the higher of its dies' levels (R407). -/
def State.railMv (s : State) (k : Nat) : Nat := max (levelMv (s.level (2 * k))) (levelMv (s.level (2 * k + 1)))

/-- A die's level is set: a level already in force changes nothing; a die at level 5 by temperature stays there, and a
raise of a rail whose fast drop stands waits (R409, R415, R416). -/
def State.setLevel (s : State) (d l : Nat) : State :=
  if l > 5 || s.level d == l then s
  else if decide (l < s.level d) && (s.pwr.forced.contains d || s.pwr.fastHeld.contains (d / 2)) then s
  else s.sf PWR_LEVELS (levelFd d) l

/-- EVT_PWR_THROTTLE (R421): cause, die or rail, level, PACE. -/
def State.throttleEvent (s : State) (cause unit level : Nat) : State :=
  s.event 0x1080 (leBytes 1 cause ++ leBytes 1 unit ++ leBytes 1 level ++ leBytes 1 (s.gf PWR_PACE PWR_PACE_PACE))

/-- PWR_LEVELS as written: no effect while the governor is off, since every die then stays at level 5 (R417). (Log
entry 197: DEDUCED, unsafe.) -/
def writePwrLevels (q : Requester) (v : W32) (s : State) : State :=
  if !coreWrites q || !s.bit PWR_CTL PWR_CTL_EN then s
  else (List.range 8).foldl (fun (s : State) d => s.setLevel d (bitsOf v.toNat (4 * d) 3)) s

def execPwrLevelsWrite (q : Requester) (v : W32) (s : State) : Res := ok (writePwrLevels q v s)

/-- The new clock and voltage of a die are in force (R408). -/
def execLevelChangeDone (die : Fin 8) (s : State) : Res :=
  ok { s with pwr := { s.pwr with inForce := s.pwr.inForce.set die.val (s.level die.val) } }

/-! ### Readings and hardware protections (R406, R409) -/

/-- Continuous maximum of a rail in 0.1 A (R480), which a failed rail is counted at. -/
def railMax (k : Nat) : Nat := if k = 0 then 2200 else 1500

/-- A rail fails (R406): AVS_FAULT, a report, an event; a raise of its dies is abandoned (R416). -/
def State.railFail (s : State) (k status : Nat) : State :=
  if s.pwr.failed.contains k then s
  else
    let s := { s with pwr := { s.pwr with failed := insertKey s.pwr.failed k } }
    let s := (s.sf PWR_STATUS PWR_STATUS_AVS_FAULT 1).fault 0x10 k status
    let s := if k = 0 then s
      else [2 * (k - 1), 2 * (k - 1) + 1].foldl (fun (s : State) d =>
        let now := s.pwr.inForce[d]?.getD 5
        if s.level d < now then s.sf PWR_LEVELS (levelFd d) now else s) s
    s.throttleEvent 3 k (if k = 0 then 0 else s.level (2 * (k - 1)))

/-- One rail's reading. -/
def State.readRail (s : State) (k : Nat) (r : RailRead) : State :=
  let miss := if r.answered then 0 else (s.pwr.miss[k]?.getD 0) + 1
  let s := { s with pwr := { s.pwr with
    miss := s.pwr.miss.set k miss
    mv := if r.answered then s.pwr.mv.set k r.mv.toNat else s.pwr.mv
    da := if r.answered then s.pwr.da.set k r.da.toNat else s.pwr.da } }
  if miss ≥ 3 ∨ (r.answered ∧ r.fault) then s.railFail k r.status.toNat else s

/-- The current a rail is counted at. -/
def State.railDa (s : State) (k : Nat) : Nat := if s.pwr.failed.contains k then railMax k else s.pwr.da[k]?.getD 0

/-- The fast current protection of rail VDD_CMPk (R409): both dies drop two levels. -/
def State.fastDrop (s : State) (k : Nat) : State :=
  if s.pwr.da[k + 1]?.getD 0 > s.gf PWR_FAST PWR_FAST_ICC_FAST then
    let s := [2 * k, 2 * k + 1].foldl (fun (s : State) d => s.setLevel d (min 5 (s.level d + 2))) s
    let s := s.sf PWR_STATUS PWR_STATUS_FAST_EVENT 1
    let s := { s with pwr := { s.pwr with
      fastHeld := insertKey s.pwr.fastHeld k, fastEvents := satAdd (2 ^ 32 - 1) s.pwr.fastEvents 1 } }
    s.throttleEvent 0 (2 * k) (s.level (2 * k))
  else s

/-- CURRENT_READ: mV × 0.1 A over 10 µs is nJ; the fixed rails' energy is added (R406). (Log entry 193: DESIGN
CHOICE, safe.) -/
def execCurrentRead (rails : List RailRead) (fixedNj : Nat) (s : State) : Res :=
  let s := ((List.range 5).zip rails).foldl (fun (s : State) e => s.readRail e.1 e.2) s
  let nj := (List.range 5).foldl (fun n k => n + (s.pwr.mv[k]?.getD 0) * s.railDa k) fixedNj
  let s := { s with pwr := { s.pwr with energy := s.pwr.energy + nj, hist := (nj :: s.pwr.hist).take 1000 } }
  let s := s.wr64 PWR_ENERGY (s.pwr.energy / 1000 % 2 ^ 64)
  ok ((List.range 4).foldl (fun (s : State) k =>
    if (rails[k + 1]?.map (·.answered)).getD false then s.fastDrop k else s) s)

/-- A supply 40 mV below its level voltage, and its recovery. (Log entries 193: DESIGN CHOICE, safe; 199: DESIGN
CHOICE, unsafe.) -/
def execDroop (die : Fin 8) (low : Bool) (s : State) : Res :=
  ok { s with pwr := { s.pwr with
    droop := if low then insertKey s.pwr.droop die.val else eraseKey s.pwr.droop die.val } }

/-- A millisecond without a PWR_BUDGET write, with the energy of the last millisecond above the limit in force (R409,
R414). -/
def execBudgetSilence (s : State) : Res :=
  let ms := 156250
  if s.clock - s.pwr.budgetAt < ms ∨ s.clock - s.pwr.silenceAt < ms then ok s
  else
    let s := { s with pwr := { s.pwr with silenceAt := s.clock } }
    let e := (s.pwr.hist.take 100).foldl (· + ·) 0
    if e > s.pwr.limit * 1000000 then ok ((List.range 8).foldl (fun (s : State) d => s.setLevel d (min 5 (s.level d + 1))) s)
    else ok s

/-- PWR_BUDGET as written: it ends budget silence. -/
def writePwrBudget (q : Requester) (v : W32) (s : State) : State :=
  if coreWrites q then { s.wr PWR_BUDGET v with pwr := { s.pwr with budgetAt := s.clock, silenceAt := s.clock } } else s

/-! ### Temperatures (R415) -/

/-- THROTTLE_C, held to its bounds. -/
def State.throttleC (s : State) : Nat := min 105 (max 85 (s.gf PWR_THERM PWR_THERM_THROTTLE_C))

/-- The reported temperature of die d; 8 is the I/O die. -/
def State.dieTemp (s : State) (d : Nat) : Nat :=
  if d = 8 then s.gf PWR_TEMP2 PWR_TEMP2_IO
  else bitsOf (s.rd (if d < 4 then PWR_TEMP0 else PWR_TEMP1)).toNat (8 * (d % 4)) 8

def State.setDieTemp (s : State) (d t : Nat) : State :=
  if d = 8 then s.sf PWR_TEMP2 PWR_TEMP2_IO t
  else s.sf (if d < 4 then PWR_TEMP0 else PWR_TEMP1) ⟨8 * (d % 4), 8⟩ t

/-- One die's hottest sensor: reported, and forced to level 5 at 110 °C until it falls below 105 °C; at 115 °C a fatal
fault. -/
def State.dieUpdate (s : State) (d t : Nat) : State :=
  let s := s.setDieTemp d t
  let s :=
    if d < 8 ∧ t ≥ 110 ∧ !s.pwr.forced.contains d then
      let s := (s.setLevel d 5).sf PWR_STATUS PWR_STATUS_THERM_FORCED 1
      ({ s with pwr := { s.pwr with forced := insertKey s.pwr.forced d } }).throttleEvent 1 d 5
    else if d < 8 ∧ t < 105 then { s with pwr := { s.pwr with forced := eraseKey s.pwr.forced d } }
    else s
  if t ≥ 115 then s.fault 0x0F d t else s

/-- (Log entry 193: DESIGN CHOICE, safe.) -/
def execDieTempUpdate (dies : List Byte) (io : Byte) (s : State) : Res :=
  let s := ((List.range 8).zip dies).foldl (fun (s : State) e => s.dieUpdate e.1 e.2.toNat) s
  ok (s.dieUpdate 8 io.toNat)

/-! ### Class records and estimates (R411) -/

/-- (Log entry 192: DESIGN CHOICE, unsafe.) -/
def pwrClass0 : Nat → List Byte := fun _ => List.replicate 16 0
/-- (Log entry 192: DESIGN CHOICE, unsafe.) -/
def State.pwrClass (s : State) (c : Nat) : List Byte := Tab.get pwrClass0 s.pwr.classes c
def pcRank (r : List Byte) : Nat := wordFd r 3 0 3
def pcDemote (r : List Byte) : Bool := wordFd r 3 3 1 == 1
def pcShare (r : List Byte) : Nat := wordFd r 3 8 7

/-- A work item's estimate in nJ at level `l` of its die (R411). -/
def State.estimate (s : State) (w : PwrWork) (l : Nat) : Nat :=
  let r := s.pwrClass w.cls.val
  (fieldLE r 0 4 + fieldLE r 4 4 * w.kib + fieldLE r 8 4 * w.mmac) * (if w.die.isSome then vscale l else 1000) / 1000

/-! ### The governor window (R412 to R414) -/

/-- Compute dies that hold Eland draft shares: a draft on D clusters uses clusters 0 to D - 1 (R157). -/
def State.draftDie (s : State) (d : Nat) : Bool :=
  match s.eland.draft with
  | some (_, n) => decide (d * 128 < n)
  | none => false

/-- A restriction of admitted work, in the order of R413: lowest rank deferred (8: none), how far dies are lowered, the
lowest rank demoted (5: none), whether draft dies go below FLOOR. -/
structure PwrPlan where
  defer : Nat
  lower : Nat
  demote : Nat
  below : Bool
deriving DecidableEq, Repr

/-- The restrictions in order; the last is the most that comes before pacing. (Log entry 190: DEDUCED, unsafe.) -/
def pwrPlans : List PwrPlan :=
  [⟨8, 0, 5, false⟩, ⟨7, 0, 5, false⟩, ⟨6, 0, 5, false⟩, ⟨5, 0, 5, false⟩]
    ++ [1, 2, 3, 4, 5].map (fun k => ⟨5, k, 5, false⟩)
    ++ [4, 3, 2, 1].map (fun r => ⟨5, 5, r, false⟩)
    ++ [1, 2, 3, 4, 5].map (fun k => ⟨5, k, 1, true⟩)

/-- The level a plan gives a die: no die above its thermal level, forced dies at 5, draft dies held at FLOOR until they
go below it. (Log entries 190: DEDUCED, unsafe; 191: DEDUCED, unsafe.) -/
def State.planLevel (s : State) (p : PwrPlan) (d : Nat) : Nat :=
  let floor := min 5 (s.gf PWR_CTL PWR_CTL_FLOOR)
  let want := if !s.draftDie d then (if p.below then 5 else p.lower)
    else if p.below then max floor p.lower else min p.lower floor
  if s.pwr.forced.contains d then 5 else min 5 (max want (s.pwr.thermal[d]?.getD 0))

/-- A class is deferred by a plan, or because HBM is hot (R415). -/
def State.planDefers (s : State) (p : PwrPlan) (c : Nat) : Bool :=
  let r := pcRank (s.pwrClass c)
  r != 0 && (decide (r ≥ p.defer) || (decide (r ≥ 5) && !s.hbm.hot95.isEmpty))

/-- A class is demoted by a plan. -/
def State.planDemotes (s : State) (p : PwrPlan) (c : Nat) : Bool :=
  let r := pcRank (s.pwrClass c)
  decide (r ≥ p.demote) && decide (r ≤ 4) && r != 0 && pcDemote (s.pwrClass c)

/-- A deferred class is admitted one work item in every 1,000 windows. (Log entry 191: DEDUCED, unsafe.) -/
def State.classTurn (s : State) (c : Nat) : Bool := decide (Tab.get (fun _ => 0) s.pwr.waiting c ≥ 999)

/-- Energy in nJ that a class asks for under a plan's levels. -/
def State.asked (s : State) (p : PwrPlan) (work : List PwrWork) (c : Nat) : Nat :=
  (work.filter (fun w => w.cls.val == c)).foldl (fun n w =>
    n + s.estimate w (match w.die with
      | some d => s.planLevel p d.val
      | none => 0)) 0

/-- Energy in nJ admitted of a class under a plan. -/
def State.admits (s : State) (p : PwrPlan) (work : List PwrWork) (c : Nat) : Nat :=
  if s.planDefers p c then
    match work.find? (fun w => w.cls.val == c) with
    | some w => if s.classTurn c then s.estimate w (match w.die with
        | some d => s.planLevel p d.val
        | none => 0) else 0
    | none => 0
  else if s.planDemotes p c then s.asked p work c * pcShare (s.pwrClass c) / 100
  else s.asked p work c

/-- The admitted energy of a window under a plan, in nJ. -/
def State.planEnergy (s : State) (p : PwrPlan) (work : List PwrWork) : Nat :=
  (List.range 64).foldl (fun n c => n + s.admits p work c) 0

/-- Thermal levels and thermal_factor for the window (R415). (Log entry 191: DEDUCED, unsafe.) -/
def State.thermalStep (s : State) : State :=
  let t := s.throttleC
  let step (d l : Nat) : Nat :=
    if s.dieTemp d ≥ t then min 5 (max l (s.level d) + 1) else if s.dieTemp d < t - 3 then l - 1 else l
  let f := if s.dieTemp 8 ≥ t then max 5 (s.pwr.factor - 1) else if s.dieTemp 8 < t - 3 then min 10 (s.pwr.factor + 1)
    else s.pwr.factor
  { s with pwr := { s.pwr with thermal := (List.range 8).map (fun d => step d (s.pwr.thermal[d]?.getD 0)), factor := f } }

/-- Record what a window admitted and deferred. -/
def State.planRecord (s : State) (p : PwrPlan) (work : List PwrWork) : State :=
  let asks (c : Nat) : Bool := work.any (fun w => w.cls.val == c)
  let def_ := (List.range 64).filter (fun c => s.planDefers p c)
  let dem := (List.range 64).filter (fun c => s.planDemotes p c)
  let mask (l : List Nat) : Nat := l.foldl (fun m c => m + 2 ^ c) 0
  let z : Nat → Nat := fun _ => 0
  let waiting := (List.range 64).foldl (fun t c =>
    Tab.set z t c (if def_.contains c && !(s.classTurn c && asks c) then Tab.get z t c + 1 else 0)) s.pwr.waiting
  let wins := def_.foldl (fun t c => Tab.set z t c (Tab.get z t c + 1)) s.pwr.deferWins
  let adm := (List.range 64).foldl (fun t c => Tab.set z t c (Tab.get z t c + s.admits p work c / 1000)) s.pwr.admitted
  { s with pwr := { s.pwr with
    deferred := mask def_, demoted := mask dem, waiting := waiting, deferWins := wins, admitted := adm } }

/-- The levels of a plan are set; while pacing holds no die is raised. -/
def State.planLevels (s : State) (p : PwrPlan) : State :=
  let noRaise := s.gf PWR_PACE PWR_PACE_PACE != 0
  (List.range 8).foldl (fun (x : State) d =>
    let l := s.planLevel p d
    if noRaise && decide (l < x.level d) then x else x.setLevel d l) s

/-- A draft die below FLOOR is a floor breach. (Log entry 198: DEDUCED, unsafe.) -/
def State.planBreach (s : State) (p : PwrPlan) : State :=
  let floor := min 5 (s.gf PWR_CTL PWR_CTL_FLOOR)
  let breached := (List.range 8).filter (fun d => s.draftDie d && decide (s.level d > floor) && p.below)
  onSome breached.head? s fun d => (s.sf PWR_STATUS PWR_STATUS_FLOOR_BREACH 1).throttleEvent 2 d (s.level d)

/-- Pacing one step further when no restriction fits, one step back when one does. (Log entries 198: DEDUCED, unsafe;
199: DESIGN CHOICE, unsafe.) -/
def State.planPace (s : State) (fits : Bool) : State :=
  let pace := s.gf PWR_PACE PWR_PACE_PACE
  if fits then (if pace = 0 then s else s.sf PWR_PACE PWR_PACE_PACE (if pace = 15 then 0 else pace + 1))
  else ((s.sf PWR_PACE PWR_PACE_PACE (if pace = 0 then 15 else max 1 (pace - 1))).sf PWR_STATUS PWR_STATUS_PACED
    1).throttleEvent 4 0 5

/-- R413: the first plan that fits a budget of `b` mJ/100 µs, or the last one. (Log entry 190: DEDUCED, unsafe.) -/
def State.governPlan (s : State) (b : Nat) (work : List PwrWork) : State :=
  let fits := pwrPlans.find? (fun p => decide (s.planEnergy p work ≤ b * 1000))
  let p := fits.getD ⟨5, 5, 1, true⟩
  (((s.planRecord p work).planLevels p).planBreach p).planPace fits.isSome

/-- R412: the budget of the window that starts, and the plan that fits it. -/
def State.govern (s : State) (used old lim : Nat) (work : List PwrWork) : State :=
  let debt := s.pwr.debt + used - old * 100
  let blim := lim * 100 - debt / 8
  let s := State.thermalStep { s with pwr := { s.pwr with debt := debt } }
  let b := min blim (blim * s.pwr.factor / 10)
  let s := { s.wr PWR_BUDGET (BitVec.ofNat 32 b) with pwr := { s.pwr with budgetAt := s.clock, silenceAt := s.clock } }
  s.governPlan b work

/-- GOVERNOR_WINDOW: the budget of R412, then the first restriction of R413 that fits it; when none does, pacing goes
one step further; when one does, pacing is undone one step before any die is raised. (Log entry 193: DESIGN CHOICE,
safe.) -/
def execGovernorWindow (work : List PwrWork) (s : State) : Res :=
  if s.now / 100000 = s.pwr.winAt / 100000 then ok s
  else
    let e := s.pwr.energy / 1000 - s.pwr.winEnergy
    let old := s.pwr.limit
    let s := s.sf PWR_STATUS PWR_STATUS_WINDOW (s.gf PWR_STATUS PWR_STATUS_WINDOW + 1)
    let lim := s.limitW
    let s := { s with pwr := { s.pwr with
      winAt := s.now, winEnergy := s.pwr.energy / 1000, limit := lim, fastHeld := [] } }
    if !s.bit PWR_CTL PWR_CTL_EN || !s.domainRuns 15 then ok s else ok (s.govern e old lim work)

/-! ### The PWR registers (R417) -/

/-- Checks of setting EN: 0x0610 and 0x0611, with FLOOR as written. (Log entry 198: DEDUCED, unsafe.) -/
def State.pwrCheck (s : State) (floor : Nat) : Option Nat :=
  if !s.pwr.failed.isEmpty || s.pwr.miss.any (· > 0) then some 0x0610 else if floor > 5 then some 0x0611 else none

/-- (Log entry 197: DEDUCED, unsafe.) -/
def writePwrCtl (q : Requester) (v : W32) (s : State) : State :=
  if !coreWrites q then s
  else
    let floor := bitsOf v.toNat 3 3
    let s := (s.sf PWR_CTL PWR_CTL_LIMIT_W (bitsOf v.toNat 6 10)).sf PWR_CTL PWR_CTL_FLOOR floor
    if bitAt v.toNat 0 then
      if s.bit PWR_CTL PWR_CTL_EN then s
      else match s.pwrCheck floor with
        | some c => s.sf PWR_CTL PWR_CTL_REFUSAL c
        | none => (s.sf PWR_CTL PWR_CTL_REFUSAL 0).sf PWR_CTL PWR_CTL_EN 1
    else (s.sf PWR_CTL PWR_CTL_EN 0).wr PWR_LEVELS 0x55555555

def execPwrEnSet (q : Requester) (v : W32) (s : State) : Res := ok (writePwrCtl q (v ||| 1#32) s)

/-- A plain register of the block: `mask` keeps the writable bits. -/
def writePwrPlain (q : Requester) (off : Nat) (mask v : W32) (s : State) : State :=
  if coreWrites q then s.wr off (v &&& mask) else s

/-- PWR_STATUS: its RW1C bits. -/
def writePwrStatus (q : Requester) (v : W32) (s : State) : State :=
  if coreWrites q then s.wr PWR_STATUS (s.rd PWR_STATUS &&& ~~~(v &&& 0xF8000000#32)) else s

/-! ### IPFIX export (R418, RFC 7011) -/

/-- observationTimeNanoseconds as an NTP timestamp: the counter counts from 1970. (Log entry 196: PRESUMED, unsafe.) -/
def ntpTime (ns : Nat) : List Byte :=
  beBytes 4 ((ns / 10 ^ 9 + 2208988800) % 2 ^ 32) ++ beBytes 4 (ns % 10 ^ 9 * 2 ^ 32 / 10 ^ 9)

/-- The temperature of an HBM stack (R183). -/
def State.hbmTemp (s : State) (h : Nat) : Nat :=
  if h < 4 then bitsOf (s.rd HBM_TEMP0).toNat (8 * h) 8 else bitsOf (s.rd HBM_TEMP1).toNat (8 * (h - 4)) 8

/-- A temperature record's die: 0 to 7 compute, 8 I/O, 9 to 14 HBM. -/
def State.telTemp (s : State) (d : Nat) : Nat :=
  10 * (if d < 9 then s.dieTemp d else s.hbmTemp (d - 9))

/-- The records due at a period. -/
def State.telRecords (s : State) (x : TelExport) : List (Nat × List Byte) :=
  let t := ntpTime s.now
  let node := t ++ beBytes 8 (s.rd64 PWR_ENERGY) ++ beBytes 2 s.pwr.limit ++ beBytes 4 (s.rd PWR_BUDGET).toNat
    ++ beBytes 4 (s.rd PWR_LEVELS).toNat ++ beBytes 8 s.pwr.deferred ++ beBytes 4 s.pwr.fastEvents ++ beBytes 4 x.dropped
  let temps := (List.range 15).map (fun d => (257, t ++ beBytes 1 d ++ beBytes 2 (s.telTemp d)))
  let z : Nat → Nat := fun _ => 0
  let classes := (List.range 64).map (fun c => (258, t ++ beBytes 1 c ++ beBytes 8 (Tab.get z s.pwr.admitted c)
    ++ beBytes 4 (Tab.get z s.pwr.deferWins c % 2 ^ 32)))
  (256, node) :: temps ++ (if (x.periods + 1) % 10 = 0 then classes else [])

/-- One IPFIX message of sets. (Log entry 196: PRESUMED, unsafe.) -/
def ipfixMessage (x : TelExport) (ns : Nat) (sets : List Byte) : List Byte :=
  beBytes 2 10 ++ beBytes 2 (16 + sets.length) ++ beBytes 4 (ns / 10 ^ 9 % 2 ^ 32) ++ beBytes 4 (x.seq % 2 ^ 32)
    ++ beBytes 4 x.domain ++ sets

/-- Records that fit one message, one set each, and the rest. (Log entry 196: PRESUMED, unsafe.) -/
def ipfixFill (mtu : Nat) : List (Nat × List Byte) → List Byte → Nat → List Byte × Nat × List (Nat × List Byte)
  | [], acc, n => (acc, n, [])
  | (t, r) :: rest, acc, n =>
    if n > 0 ∧ 16 + acc.length + 4 + r.length > mtu then (acc, n, (t, r) :: rest)
    else ipfixFill mtu rest (acc ++ beBytes 2 t ++ beBytes 2 (4 + r.length) ++ r) (n + 1)

/-- Send the waiting records as messages on the export's channel. -/
def State.telSend : Nat → TelExport → State → TelExport × State
  | 0, x, s => (x, s)
  | k + 1, x, s =>
    match x.queue with
    | [] => (x, s)
    | q =>
      let (sets, n, rest) := ipfixFill x.mtu q [] 0
      let s := { s with chanQ := s.chanQ ++ [⟨x.channel, false, ipfixMessage x s.now sets⟩] }
      State.telSend k { x with queue := rest, seq := (x.seq + n) % 2 ^ 32, messages := x.messages + 1 } s

/-- Records queue up to 64 KiB; those beyond are dropped and counted. -/
def telQueue : List (Nat × List Byte) → TelExport → TelExport
  | [], x => x
  | r :: rest, x =>
    let used := x.queue.foldl (fun n e => n + e.2.length) 0
    telQueue rest (if used + r.2.length ≤ 65536 then { x with queue := x.queue ++ [r] } else { x with dropped := x.dropped + 1 })

/-- Export is deferred like class 10 (R418). -/
def State.telDeferred (s : State) : Bool := bitAt s.pwr.deferred 10

/-- (Log entry 193: DESIGN CHOICE, safe.) -/
def execIpfixExport (takes : Bool) (s : State) : Res :=
  match s.pwr.export_ with
  | none => ok s
  | some x =>
    if s.clock - x.lastAt < x.periodMs * 156250 ∨ !s.domainRuns 16 then ok s
    else
      let x := telQueue (s.telRecords x) { x with lastAt := s.clock, periods := x.periods + 1 }
      let (x, s) := if takes && !s.telDeferred then State.telSend x.queue.length x s else (x, s)
      ok { s with pwr := { s.pwr with export_ := some x } }

/-- A field specifier: an IANA element, or an element of the configured enterprise number. -/
def fieldSpec (pen : Option Nat) (el len : Nat) : List Byte :=
  match pen with
  | none => beBytes 2 el ++ beBytes 2 len
  | some p => beBytes 2 (0x8000 + el) ++ beBytes 2 len ++ beBytes 4 p

/-- The template set, ID 2. (Log entry 196: PRESUMED, unsafe.) -/
def templateSet (pen : Nat) : List Byte :=
  let e := fieldSpec (some pen)
  let t := fieldSpec none 325 8
  let body := beBytes 2 256 ++ beBytes 2 8 ++ t ++ e 1 8 ++ e 2 2 ++ e 3 4 ++ e 4 4 ++ e 5 8 ++ e 6 4 ++ e 7 4
    ++ beBytes 2 257 ++ beBytes 2 3 ++ t ++ e 10 1 ++ e 11 2
    ++ beBytes 2 258 ++ beBytes 2 4 ++ t ++ e 20 1 ++ e 21 8 ++ e 22 4
  beBytes 2 2 ++ beBytes 2 (4 + body.length) ++ body

/-- Send the template set. -/
def State.telTemplate (s : State) (x : TelExport) : State :=
  let s := { s with chanQ := s.chanQ ++ [(⟨x.channel, false, ipfixMessage x s.now (templateSet x.pen)⟩ : SrcFrame)] }
  { s with pwr := { s.pwr with export_ := some { x with templateAt := s.clock, messages := x.messages + 1 } } }

def execIpfixTemplate (takes : Bool) (s : State) : Res :=
  match s.pwr.export_ with
  | none => ok s
  | some x =>
    if s.clock - x.templateAt < x.templateS * 156250000 ∨ !takes ∨ s.telDeferred ∨ !s.domainRuns 16 then ok s
    else ok (s.telTemplate x)

/-! ### MCTP control and PLDM on the always-on island (R419, R420) -/

/-- The island answers; the answer is what the last read returned. -/
def State.islandAnswer (s : State) (bs : List Byte) : State := if s.pins.aonInRange then { s with answer32 := bs } else s

/-- Set Endpoint ID: operations 0 set and 1 force take a unicast ID; 2 reset and 3 set-discovered are refused, since the
endpoint has no static ID. (Log entry 194: PRESUMED, unsafe.) -/
def execSetEndpointId (op : Fin 4) (eid : Byte) (s : State) : Res :=
  if !s.pins.aonInRange then ok s
  else if op.val ≤ 1 ∧ 8 ≤ eid.toNat ∧ eid.toNat ≤ 254 then
    ok (State.islandAnswer { s with aon := { s.aon with eid := eid.toNat } } [0, 0, eid, 0])
  else ok (s.islandAnswer [2])

def execGetEndpointId (s : State) : Res := ok (s.islandAnswer [0, BitVec.ofNat 8 s.aon.eid, 0, 0])

/-- The version numbers are the implementation's: free values. (Log entry 195: DESIGN CHOICE, safe.) -/
def execGetMctpVersionSupport (type : Byte) (s : State) : Res :=
  if [0xFF#8, 0x00#8, 0x01#8, 0x7E#8].contains type then
    ok (s.tick.islandAnswer ([0, 1] ++ leBytes 4 (s.fresh 32).toNat))
  else ok (s.islandAnswer [0x80])

def execGetMessageTypeSupport (s : State) : Res := ok (s.islandAnswer [0, 2, 0x01, 0x7E])

def execGetEndpointUuid (s : State) : Res :=
  ok (s.islandAnswer (0 :: leBytes 16 (Config.endpointUuid (s.rd64 SEC_DSN)).toNat))

def execGettid (s : State) : Res := ok (s.islandAnswer [0, BitVec.ofNat 8 s.aon.tid])

def execSettid (tid : Byte) (s : State) : Res :=
  if !s.pins.aonInRange then ok s
  else if tid = 0x00#8 ∨ tid = 0xFF#8 then ok (s.islandAnswer [2])
  else ok (State.islandAnswer { s with aon := { s.aon with tid := tid.toNat } } [0])

/-- The version numbers are the implementation's: free values. (Log entry 195: DESIGN CHOICE, safe.) -/
def execGetpldmversion (type : Byte) (s : State) : Res :=
  if type = 0 ∨ type = 2 then ok (s.tick.islandAnswer ([0, 0, 0, 0, 0, 5] ++ leBytes 8 (s.fresh 64).toNat))
  else ok (s.islandAnswer [0x83])

/-- PLDM types 0 and 2. -/
def execGetpldmtypes (s : State) : Res := ok (s.islandAnswer (0 :: leBytes 8 0x05))

/-- Commands of a type as a 256-bit map. (Log entry 194: PRESUMED, unsafe.) -/
def pldmCommands (type : Nat) : Option Nat :=
  if type = 0 then some (2 ^ 1 + 2 ^ 2 + 2 ^ 3 + 2 ^ 4 + 2 ^ 5)
  else if type = 2 then some (2 ^ 0x11 + 2 ^ 0x12 + 2 ^ 0x50 + 2 ^ 0x51)
  else none

def execGetpldmcommands (type : Byte) (s : State) : Res :=
  match pldmCommands type.toNat with
  | some m => ok (s.islandAnswer (0 :: leBytes 32 m))
  | none => ok (s.islandAnswer [0x83])

/-- 27 records, one for each sensor; times, sizes and time-out are free values. (Log entry 195: DESIGN CHOICE, safe.) -/
def execGetpdrrepositoryinfo (s : State) : Res :=
  ok (s.tick.islandAnswer ([0, 0] ++ leBytes 26 (s.fresh 208).toNat ++ leBytes 4 27 ++ leBytes 9 (s.fresh 72).toNat))

/-- Unit of a sensor: PLDM codes for watts, degrees C, amperes and volts. (Log entry 194: PRESUMED, unsafe.) -/
def sensorUnit (n : Nat) : Nat := if n ≤ 2 then 7 else if n ≤ 17 then 2 else if n ≤ 22 then 6 else 5

/-- Upper warning, critical and fatal thresholds of a sensor; none where the table has a dash. -/
def State.sensorLimits (s : State) (n : Nat) : Option Nat × Option Nat × Option Nat :=
  if n = 1 then (some s.limitW, none, none)
  else if 3 ≤ n ∧ n ≤ 11 then (some (s.throttleC), some 110, some 115)
  else if 12 ≤ n ∧ n ≤ 17 then (some 85, some 95, some 105)
  else (none, none, none)

def limitBytes (l : Option Nat × Option Nat × Option Nat) : List Byte :=
  (([l.1, l.2.1, l.2.2]).map (fun x => leBytes 1 (b2n x.isSome) ++ leBytes 4 (x.getD 0))).flatten

/-- Numeric sensor PDR n: record handle n, sensor ID, unit and thresholds; next record 0 after the last. (Log entry
194: PRESUMED, unsafe.) -/
def execGetpdr (handle : W32) (s : State) : Res :=
  let n := if handle = 0 then 1 else handle.toNat
  if 27 < n then ok (s.islandAnswer [0x82])
  else
    let rec_ := leBytes 4 n ++ leBytes 2 n ++ leBytes 1 (sensorUnit n) ++ limitBytes (s.sensorLimits n)
    ok (s.islandAnswer ([0] ++ leBytes 4 (if n = 27 then 0 else n + 1) ++ leBytes 2 rec_.length ++ rec_))

/-- A sensor's reading: package power as the mean of the last 10 ms, limits, temperatures, rail currents and voltages. -/
def State.sensor (s : State) (n : Nat) : Nat :=
  if n = 1 then s.pwr.hist.foldl (· + ·) 0 / 10000000
  else if n = 2 then s.limitW
  else if n ≤ 11 then s.dieTemp (n - 3)
  else if n ≤ 17 then s.hbmTemp (n - 12)
  else if n ≤ 22 then (s.pwr.da[n - 18]?.getD 0) / 10
  else (s.pwr.mv[n - 23]?.getD 0) / 1000

/-- A sensor of an unpowered part reports operational state 2, unavailable. (Log entry 194: PRESUMED, unsafe.) -/
def execGetsensorreading (sensor : W16) (s : State) : Res :=
  let n := sensor.toNat
  if n < 1 ∨ n > 27 then ok (s.islandAnswer [0x80])
  else if !s.pins.mainInRange then ok (s.islandAnswer ([0, 4, 2] ++ leBytes 4 0))
  else ok (s.islandAnswer ([0, 4, 0] ++ leBytes 4 (s.sensor n)))

/-- (Log entry 194: PRESUMED, unsafe.) -/
def execGetsensorthresholds (sensor : W16) (s : State) : Res :=
  let n := sensor.toNat
  if n < 1 ∨ n > 27 then ok (s.islandAnswer [0x80]) else ok (s.islandAnswer (0 :: limitBytes (s.sensorLimits n)))

/-- The wake request (R420): WAKE_N goes low only in D3cold with PME_En set; it is always acknowledged. -/
def execWakeRequest (s : State) : Res :=
  if !s.pins.aonInRange then ok s
  else if s.aon.d3cold && s.aon.pmeEn then ok (State.islandAnswer { s with pins := { s.pins with wakeN := false } } [0])
  else ok (s.islandAnswer [0])

/-! ### Syncen operations (R421) -/

/-- LIMIT_W, and the window from which it applies. -/
def execSynPwrLimitSet (r : SynReq) (limit : W16) (s : State) : Res :=
  ok (s.syn 0x1000 (some 15) r (fun s =>
    if limit.toNat < 400 ∨ limit.toNat > 850 then refuse s 0x0101
    else success (s.sf PWR_CTL PWR_CTL_LIMIT_W limit.toNat) (leBytes 2 ((s.gf PWR_STATUS PWR_STATUS_WINDOW + 1) % 2 ^ 16))))

def execSynPwrQuery (r : SynReq) (s : State) : Res :=
  ok (s.syn 0x1001 (some 15) r (fun s =>
    success s (([PWR_CTL, PWR_STATUS, PWR_LEVELS, PWR_FAST, PWR_ENERGY, PWR_ENERGY + 4, PWR_BUDGET, PWR_TEMP0, PWR_TEMP1,
      PWR_TEMP2, PWR_THERM, PWR_PACE].map (fun o => leBytes 4 (s.rd o).toNat)).flatten
      ++ leBytes 8 s.pwr.deferred ++ leBytes 8 s.pwr.demoted ++ leBytes 8 s.pwr.debt)))

def execSynPwrClassSet (r : SynReq) (cls : Fin 64) (record : List Byte) (s : State) : Res :=
  ok (s.syn 0x1002 (some 15) r (fun s =>
    let c := fit 16 record
    if (pcRank c = 0 ∧ pcDemote c) ∨ pcShare c > 100 then refuse (s.sf PWR_CTL PWR_CTL_REFUSAL 0x0613) 0x0613
    else success { s with pwr := { s.pwr with classes := Tab.set pwrClass0 s.pwr.classes cls.val c } }))

def execSynPwrFloorSet (r : SynReq) (level : Byte) (s : State) : Res :=
  ok (s.syn 0x1003 (some 15) r (fun s =>
    if level.toNat > 5 then refuse s 0x0101 else success (s.sf PWR_CTL PWR_CTL_FLOOR level.toNat)))

def execSynTelExportSet (r : SynReq) (spec : ExportSpec) (s : State) : Res :=
  ok (s.syn 0x1004 (some 16) r (fun s =>
    let p := spec.periodMs.getD 100
    let t := spec.templateS.getD 60
    let m := spec.mtu.getD 1400
    if !spec.enable then success { s with pwr := { s.pwr with export_ := none } }
    else if p < 10 ∨ p > 10000 ∨ t < 1 ∨ t > 3600 ∨ m < 512 ∨ m > 9000 then refuse s 0x0101
    else if (s.channel spec.channel.toNat).isNone then refuse (s.sf PWR_CTL PWR_CTL_REFUSAL 0x0612) 0x0612
    else
      let old := s.pwr.export_
      let x : TelExport :=
        { channel := spec.channel.toNat, domain := spec.domain.toNat, pen := spec.pen.toNat, periodMs := p, templateS := t
          mtu := m, periods := 0, lastAt := s.clock, templateAt := s.clock, seq := (old.map (·.seq)).getD 0
          messages := (old.map (·.messages)).getD 0, dropped := (old.map (·.dropped)).getD 0
          queue := (old.map (·.queue)).getD [] }
      success (s.telTemplate x)))

def execSynTelQuery (r : SynReq) (s : State) : Res :=
  ok (s.syn 0x1005 (some 16) r (fun s =>
    match s.pwr.export_ with
    | none => success s (leBytes 1 0)
    | some x => success s (leBytes 1 1 ++ leBytes 2 x.channel ++ leBytes 4 x.domain ++ leBytes 4 x.pen ++ leBytes 2 x.periodMs
        ++ leBytes 2 x.templateS ++ leBytes 2 x.mtu ++ leBytes 8 x.messages ++ leBytes 4 x.seq ++ leBytes 4 x.dropped)))

end Sys2Proof.Machine
end

