-- ==== Sys2Proof/Machine/Registers.lean ====
section
/-! DEFINITION. Register accesses (00_scope.md R2 to R8): one router over every block's register map, the instance pages
of BAR4 (16_virtual_instances.md R347), configuration space (15_host_endpoint.md R324 to R326), and the JTAG port
(14_security_and_keys.md R318, 22_package_and_pins.md). -/

namespace Sys2Proof.Machine

/-! ### Writes by access type (R5, R6) -/

/-- A requester may write a block (R41 and the like): the host is shut out in the safe state (R434). -/
def State.writerOk (s : State) (q : Requester) : Writer → Bool
  | .host => devWrites q && !s.hostDiscards q
  | .core => coreWrites q
  | .either => (q == .host || coreWrites q) && !s.hostDiscards q

/-- A field of a word after a write of `v` (R6). -/
def FieldDesc.written (f : FieldDesc) (place n old v : Nat) : Nat :=
  match f.acc with
  | .rw => bitsPut old place n (bitsOf v place n)
  | .rws => bitsPut old place n (bitsOf v place n)
  | .rw1c => bitsPut old place n (Nat.land (bitsOf old place n) (2 ^ n - 1 - bitsOf v place n))
  | _ => old

/-- A word after a write of `v` by the access types of its fields; reserved bits stay as they are (R5). -/
def RegDesc.written (r : RegDesc) (w old v : Nat) : Nat :=
  r.fields.foldl (fun x f =>
    match f.inWord r.wide w with
    | some (p, n, _) => f.written p n x v
    | none => x) old

/-- A write of a register whose write has no action beyond its access types. -/
def writePlain (q : Requester) (off : Nat) (v : W32) (s : State) : State :=
  match findReg off with
  | some (r, w) => if s.writerOk q r.writer then s.wr off (BitVec.ofNat 32 (r.written w (s.rd off).toNat v.toNat)) else s
  | none => s

/-- The RW bits of a word. -/
def rwMask (off : Nat) : W32 :=
  match findReg off with
  | some (r, w) => BitVec.ofNat 32 (r.fields.foldl (fun x f =>
      match f.inWord r.wide w, f.acc with
      | some (p, n, _), .rw => bitsPut x p n (2 ^ n - 1)
      | some (p, n, _), .rws => bitsPut x p n (2 ^ n - 1)
      | _, _ => x) 0)
  | none => 0

/-- CORE_EVT (R401): sets EVENTS bits 16 to 31 of the core. (Log entry 17: DESIGN CHOICE, unsafe.) -/
def writeCoreEvt (q : Requester) (c : Nat) (v : W32) (s : State) : State :=
  if coreWrites q && decide (c < 32) then s.setEvents c (v &&& 0xFFFF0000#32) else s

def execCoreEvt (q : Requester) (c : Fin 33) (v : W32) (s : State) : Res := ok (writeCoreEvt q c v s)

/-! ### The router: one write of a 32-bit word -/

/-- A write in the MBX block, `m` its mailbox and `o` the offset in the mailbox. -/
def writeMbx (q : Requester) (off : Nat) (v : W32) (s : State) : State :=
  let m := (off - 0x10000) / 0x1000
  if h : m < 8 then
    if (off - 0x10000) % 0x1000 = 0xF80 then writeMbxCtl q (.mailbox ⟨m, h⟩) v s else writePlain q off v s
  else s

def writeDev (q : Requester) (off : Nat) (v : W32) (s : State) : State :=
  match off with
  | 0x14 => writeDevEnable q v s
  | 0x20 => writeLoadAddr q false v s
  | 0x24 => writeLoadAddr q true v s
  | 0x28 => writeLoadCtl q v s
  | 0x30 => writeHeartbeat q v s
  | 0xF0 => writeDevReset q v s
  | _ => s

/-- `writeFlt` by the offset in its block. -/
def writeFltAt (q : Requester) (off : Nat) (v : W32) (s : State) (o : Nat) : State :=
  let ack (c : Fin 3) : State := if q == .engine then s else s.ackFault c (bitAt v.toNat 31) (bitAt v.toNat 30)
  match o with
  | 0x00 => writeFltCtl q v s
  | 0x14 => ack 0
  | 0x1C => ack 1
  | 0x24 => ack 2
  | 0x58 => writeFltBlocks q v s
  | 0x60 => writeFltInj q v s
  | 0x68 => writePlain q off v s
  | 0x6C => writePlain q off v s
  | _ => s

/-- FLT: the VALID and OVERFLOW bits of a latch are cleared by ones, in the safe state too (R431, R434). -/
def writeFlt (q : Requester) (off : Nat) (v : W32) (s : State) : State := writeFltAt q off v s (off - 0x20000)

/-- `writeTime` by the offset in its block. -/
def writeTimeAt (q : Requester) (off : Nat) (v : W32) (s : State) (o : Nat) : State :=
  match o with
  | 0x08 => writeTimeCtl q v s
  | 0x28 => writeTimeFreq q v s
  | _ => writePlain q off v s

def writeTime (q : Requester) (off : Nat) (v : W32) (s : State) : State := writeTimeAt q off v s (off - 0x30000)

/-- `writePwr` by the offset in its block. -/
def writePwrAt (q : Requester) (off : Nat) (v : W32) (s : State) (o : Nat) : State :=
  match o with
  | 0x00 => writePwrCtl q v s
  | 0x04 => writePwrStatus q v s
  | 0x08 => writePwrLevels q v s
  | 0x18 => writePwrBudget q v s
  | _ => writePlain q off v s

def writePwr (q : Requester) (off : Nat) (v : W32) (s : State) : State := writePwrAt q off v s (off - 0x40000)

def writeWin (q : Requester) (off : Nat) (v : W32) (s : State) : State :=
  if off < 0x50100 then writeWinStaged q off (rwMask off) v s
  else if off = 0x50100 then writeWinCommit q v s
  else s

/-- `writeTg` by the offset in its block. -/
def writeTgAt (q : Requester) (off : Nat) (v : W32) (s : State) (o : Nat) : State :=
  match o with
  | 0x18 => writeTgAdminCtl q v s
  | 0x30 => writeTgShpSel q v s
  | _ => writePlain q off v s

def writeTg (q : Requester) (off : Nat) (v : W32) (s : State) : State := writeTgAt q off v s (off - 0x60000)

def writeCluAt (q : Requester) (c : Nat) (v : W32) (s : State) (o : Nat) : State :=
  match o with
  | 0x00 => writeCluCmdBase q c false v s
  | 0x04 => writeCluCmdBase q c true v s
  | 0x08 => writeCluCmplBase q c false v s
  | 0x0C => writeCluCmplBase q c true v s
  | 0x10 => writeCluCtl q c v s
  | 0x14 => writeCluDb q c v s
  | 0x18 => writeCluCmplHead q c v s
  | 0x20 => writeCluPctl q c v s
  | 0x28 => writeCluErr q c v s
  | _ => s

/-- CLU: the registers of cluster `c`. -/
def writeClu (q : Requester) (off : Nat) (v : W32) (s : State) : State :=
  if (off - 0x200000) / 0x40 < 1024 then writeCluAt q ((off - 0x200000) / 0x40) v s ((off - 0x200000) % 0x40) else s

/-- `writeFlg` by the offset in its block. -/
def writeFlgAt (q : Requester) (off : Nat) (v : W32) (s : State) (o : Nat) : State :=
  match o with
  | 0x00 => writeFlgCtxBase q false v s
  | 0x04 => writeFlgCtxBase q true v s
  | 0x08 => writeFlgCtl q v s
  | 0x0C => writeFlgInval q v s
  | 0x10 => writeFlgSignal q v s
  | _ => writePlain q off v s

def writeFlg (q : Requester) (off : Nat) (v : W32) (s : State) : State := writeFlgAt q off v s (off - 0x210000)

def writeBarAt (q : Requester) (off b : Nat) (v : W32) (s : State) (o : Nat) : State :=
  match o with
  | 0x0 => writeBarCfg q b v s
  | 0x4 => writeBarClose q b v s
  | _ => writePlain q off v s

/-- BAR: the registers of barrier `b`. -/
def writeBar (q : Requester) (off : Nat) (v : W32) (s : State) : State :=
  writeBarAt q off ((off - 0x220000) / 0x10) v s ((off - 0x220000) % 0x10)

/-- The COL block: 32 queues of 0x40 bytes, then the engine's own registers. -/
def writeColQueueAt (q : Requester) (n : Nat) (v : W32) (s : State) (o : Nat) : State :=
  match o with
  | 0x00 => writeColCmdBase q n false v s
  | 0x04 => writeColCmdBase q n true v s
  | 0x08 => writeColCmplBase q n false v s
  | 0x0C => writeColCmplBase q n true v s
  | 0x10 => writeColQctl q n v s
  | 0x14 => writeColDb q n v s
  | 0x18 => writeColCmplHead q n v s
  | 0x20 => writeColQerr q n v s
  | _ => s

/-- COL: the registers of the engine, by their offset after the queues'. -/
def writeColAt (q : Requester) (off : Nat) (v : W32) (s : State) (o : Nat) : State :=
  match o with
  | 0x00 => writeColCtl q v s
  | 0x08 => writeColGrpBase q false v s
  | 0x0C => writeColGrpBase q true v s
  | 0x10 => writeColGrpLoad q v s
  | 0x14 => writeColTimeout q v s
  | 0x20 => writeColSlotAdmin q off (rwMask off) v s
  | 0x24 => writeColSlotAdmin q off (rwMask off) v s
  | 0x28 => writeColSlotAdmin q off (rwMask off) v s
  | 0x2C => writeColSlotAdmin q off (rwMask off) v s
  | 0x30 => writeColSlotCtl q v s
  | 0x34 => writeColSlotStatus q v s
  | _ => writePlain q off v s

/-- COL: the 32 queues' registers and the engine's. -/
def writeCol (q : Requester) (off : Nat) (v : W32) (s : State) : State :=
  if (off - 0x230000) / 0x40 < 32 then writeColQueueAt q ((off - 0x230000) / 0x40) v s ((off - 0x230000) % 0x40)
  else writeColAt q off v s (off - 0x230800)

/-- `writeKv` by the offset in its block. -/
def writeKvAt (q : Requester) (off : Nat) (v : W32) (s : State) (o : Nat) : State :=
  match o with
  | 0x00 => writeKvCtl q v s
  | 0x28 => writeKvRingBase q false false v s
  | 0x2C => writeKvRingBase q false true v s
  | 0x30 => writeKvJobHead q v s
  | 0x38 => writeKvRingBase q true false v s
  | 0x3C => writeKvRingBase q true true v s
  | 0x40 => writeKvDoneDb q v s
  | o => if o < 0x24 then writeKvBase q off (rwMask off) v s else writePlain q off v s

def writeKv (q : Requester) (off : Nat) (v : W32) (s : State) : State := writeKvAt q off v s (off - 0x240000)

def writeHbmReg (q : Requester) (off : Nat) (v : W32) (s : State) : State :=
  if off = 0x250000 then writeHbmCtl q v s else writePlain q off v s

/-- `writeArb` by the offset in its block. -/
def writeArbAt (q : Requester) (off : Nat) (v : W32) (s : State) (o : Nat) : State :=
  match o with
  | 0x20 => writeArbMode q v s
  | 0x24 => writeArbCommit q v s
  | 0x28 => writeArbFreeze q v s
  | o =>
    if o < 0x20 then writeArbLine q (o / 4) v s
    else if 0x40 ≤ o ∧ o < 0x60 then writeArbClassmap q ((o - 0x40) / 4) v s
    else writePlain q off v s

def writeArb (q : Requester) (off : Nat) (v : W32) (s : State) : State := writeArbAt q off v s (off - 0x260000)

/-- The registers of fabric port `p`. -/
def writeFabPortAt (q : Requester) (p : Nat) (v : W32) (s : State) (o : Nat) : State :=
  match o with
  | 0x00 => writeFabPortCtl q p v s
  | 0x04 => writeFabPortStatus q p v s
  | 0x08 => writeFabPortAlloc q p false v s
  | 0x0C => writeFabPortAlloc q p true v s
  | 0x10 => writeFabPortPfc q p v s
  | 0x14 => writeFabPortEnc q p v s
  | 0x18 => writeFabPortKeys q p false v s
  | 0x1C => writeFabPortKeys q p true v s
  | _ => s

/-- `writeFab` by the offset in its block. -/
def writeFabAt (q : Requester) (off : Nat) (v : W32) (s : State) (o : Nat) : State :=
  match o with
  | 0x00 => writeFabCtl q v s
  | 0x08 => writeFabNodeId q false v s
  | 0x0C => writeFabNodeId q true v s
  | o =>
    if 0x100 ≤ o ∧ o < 0x900 then writeFabPortAt q ((o - 0x100) / 0x40) v s ((o - 0x100) % 0x40)
    else writePlain q off v s

def writeFab (q : Requester) (off : Nat) (v : W32) (s : State) : State := writeFabAt q off v s (off - 0x270000)

/-- `writeTrn` by the offset in its block. -/
def writeTrnAt (q : Requester) (off : Nat) (v : W32) (s : State) (o : Nat) : State :=
  match o with
  | 0x00 => writeTrnCtl q v s
  | 0x2C => writeTrnKeyInval q v s
  | 0x100 => writeTrnRingBase q false false v s
  | 0x104 => writeTrnRingBase q false true v s
  | 0x108 => writeTrnRingBase q true false v s
  | 0x10C => writeTrnRingBase q true true v s
  | 0x110 => writeTrnRctl q v s
  | 0x114 => writeTrnReqDb q v s
  | 0x118 => writeTrnCmplHead q v s
  | 0x120 => writeTrnRerr q v s
  | 0x140 => writeTrnFwrxBase q false v s
  | 0x144 => writeTrnFwrxBase q true v s
  | 0x148 => writeTrnFwrxCtl q v s
  | 0x14C => writeTrnFwrxHead q v s
  | o => if 8 ≤ o ∧ o < 0x2C then writeTrnBase q off (rwMask off) v s else writePlain q off v s

def writeTrn (q : Requester) (off : Nat) (v : W32) (s : State) : State := writeTrnAt q off v s (off - 0x280000)

def writePeer (q : Requester) (off : Nat) (v : W32) (s : State) : State :=
  if off < 0x290800 then writePeerWin q off (rwMask off) v s
  else if off = 0x290800 then writePeerCommit q v s
  else s

/-- `writePkt` by the offset in its block. -/
def writePktAt (q : Requester) (off : Nat) (v : W32) (s : State) (o : Nat) : State :=
  match o with
  | 0x00 => writePktCtl q v s
  | 0x04 => writePktSwap q v s
  | 0x08 => writePktBankBase q 0 false v s
  | 0x0C => writePktBankBase q 0 true v s
  | 0x10 => writePktBankBase q 1 false v s
  | 0x14 => writePktBankBase q 1 true v s
  | 0x18 => writePktCntBase q false v s
  | 0x1C => writePktCntBase q true v s
  | 0x20 => writePktExactInval q v s
  | o =>
    if 0x100 ≤ o ∧ o < 0x180 ∧ o % 0x10 = 0 then writePktMsecCtl q ((o - 0x100) / 0x10) v s
    else writePlain q off v s

def writePkt (q : Requester) (off : Nat) (v : W32) (s : State) : State := writePktAt q off v s (off - 0x2A0000)

def writeSto (q : Requester) (off : Nat) (v : W32) (s : State) : State :=
  if off = 0x2B0000 then writeStoCtl q v s
  else if 0x2B0008 ≤ off ∧ off < 0x2B0020 then writeStoBase q off (rwMask off) v s
  else writePlain q off v s

/-- `writeSec` by the offset in its block. -/
def writeSecAt (q : Requester) (off : Nat) (v : W32) (s : State) (o : Nat) : State :=
  match o with
  | 0x00 => writeSecCtl q v s
  | 0x100 => writeSecRingBase q false false v s
  | 0x104 => writeSecRingBase q false true v s
  | 0x108 => writeSecRingBase q true false v s
  | 0x10C => writeSecRingBase q true true v s
  | 0x110 => writeSecRctl q v s
  | 0x114 => writeSecReqDb q v s
  | 0x118 => writeSecCmplHead q v s
  | 0x120 => writeSecRerr q v s
  | _ => writePlain q off v s

def writeSec (q : Requester) (off : Nat) (v : W32) (s : State) : State := writeSecAt q off v s (off - 0x2C0000)

def writeHwin (q : Requester) (off : Nat) (v : W32) (s : State) : State :=
  if off < 0x2D0008 then writeHwinBase q off (rwMask off) v s
  else if off = 0x2D0008 then writeHwinCommit q v s
  else s

def writeCoreAt (q : Requester) (c : Fin 33) (v : W32) (s : State) (o : Nat) : State :=
  match o with
  | 0x0 => writeCoreWdg q c v s
  | 0x8 => writeCoreEvt q c.val v s
  | _ => s

/-- CORE: the registers of core `c`; number 32 is TS. -/
def writeCore (q : Requester) (off : Nat) (v : W32) (s : State) : State :=
  if h : (off - 0x2E0000) / 0x10 < 33 then writeCoreAt q ⟨(off - 0x2E0000) / 0x10, h⟩ v s ((off - 0x2E0000) % 0x10)
  else s

/-- `writeCkp` by the offset in its block. -/
def writeCkpAt (q : Requester) (off : Nat) (v : W32) (s : State) (o : Nat) : State :=
  match o with
  | 0x00 => writeCkpCtl q v s
  | 0x08 => writeCkpBase q off (rwMask off) v s
  | 0x0C => writeCkpBase q off (rwMask off) v s
  | 0x10 => writeCkpStage q false v s
  | 0x14 => writeCkpStage q true v s
  | 0x18 => writeCkpMark q v s
  | 0x20 => writeCkpMarked q false v s
  | 0x24 => writeCkpMarked q true v s
  | 0x30 => writeCkpReplicaWord q false v s
  | 0x34 => writeCkpReplicaWord q true v s
  | 0x38 => writeCkpLease q false v s
  | 0x3C => writeCkpLease q true v s
  | _ => writePlain q off v s

def writeCkp (q : Requester) (off : Nat) (v : W32) (s : State) : State := writeCkpAt q off v s (off - 0x2F0000)

/-- One 32-bit word write in register block `b` of 64 KiB. -/
def regWriteAt (q : Requester) (off : Nat) (v : W32) (s : State) (b : Nat) : State :=
  match b with
  | 0x00 => writeDev q off v s
  | 0x01 => writeMbx q off v s
  | 0x02 => writeFlt q off v s
  | 0x03 => writeTime q off v s
  | 0x04 => writePwr q off v s
  | 0x05 => writeWin q off v s
  | 0x06 => writeTg q off v s
  | 0x20 => writeClu q off v s
  | 0x21 => writeFlg q off v s
  | 0x22 => writeBar q off v s
  | 0x23 => writeCol q off v s
  | 0x24 => writeKv q off v s
  | 0x25 => writeHbmReg q off v s
  | 0x26 => writeArb q off v s
  | 0x27 => writeFab q off v s
  | 0x28 => writeTrn q off v s
  | 0x29 => writePeer q off v s
  | 0x2A => writePkt q off v s
  | 0x2B => writeSto q off v s
  | 0x2C => writeSec q off v s
  | 0x2D => writeHwin q off v s
  | 0x2E => writeCore q off v s
  | 0x2F => writeCkp q off v s
  | _ => writePlain q off v s

/-- One 32-bit word write at a register offset that is a multiple of four. -/
def regWrite (q : Requester) (off : Nat) (v : W32) (s : State) : State := regWriteAt q off v s (off / 0x10000)

/-! ### Accesses of any size (R4) -/

/-- One word write, where the block answers. (Log entry 9: DESIGN CHOICE, safe.) -/
def wordStore (q : Requester) (off : Nat) (v : W32) (s : State) : State :=
  if s.hostReaches q off then regWrite q off v s else s

/-- A write of the register range (R4). (Log entry 12: DESIGN CHOICE, unsafe.) -/
def regStore (q : Requester) (off : Nat) (bs : List Byte) (s : State) : Option MemErr × State :=
  let n := bs.length
  if off % 4 + n ≤ 4 then (none, if n = 4 then wordStore q off (BitVec.ofNat 32 (leNat bs)) s else s)
  else if n = 8 ∧ aligned 8 off then
    (none, wordStore q (off + 4) (BitVec.ofNat 32 (leNat (bs.drop 4)))
      (wordStore q off (BitVec.ofNat 32 (leNat (bs.take 4))) s))
  else if q = .host then (none, s)
  else (some .address, s)

/-! ### Instance pages (R347, R348) -/

/-- INSTP_STATUS of an instance. -/
def State.instStatus (s : State) (i : Nat) : W32 :=
  let x := s.instOf i
  BitVec.ofNat 32 (instStateCode x.state * 2 ^ 29 + b2n x.event * 2 ^ 28 + x.stray % 16 * 2 ^ 24 + x.gen % 2 ^ 16)

/-- A doorbell word: queue index `ix`, its first or its second half. -/
def pageDoorbell (i o : Nat) (v : W32) (s : State) : State :=
  let ix := o % 0x400 / 16
  match o / 0x400, o % 16 with
  | 0, 0 => s.submissionDoorbell i ix v.toNat
  | 0, 8 => s.completionDoorbell i ix v.toNat
  | 1, 0 => s.bufferTail i ix v.toNat
  | 1, 8 => s.completionHead i .receive ix v.toNat
  | 2, 0 => s.tailDoorbell i .transmit ix v.toNat
  | 2, 8 => s.completionHead i .transmit ix v.toNat
  | 3, 0 => s.tailDoorbell i .transport ix v.toNat
  | 3, 8 => s.completionHead i .transport ix v.toNat
  | _, _ => s

/-- One word write of an instance page. -/
def pageWrite (off : Nat) (v : W32) (s : State) : State :=
  let i := off / 0x4000
  let o := off % 0x4000
  if h : i < 2048 then
    if o < 0x1000 then pageDoorbell i o v s
    else if o = 0x3000 then
      (if bitAt v.toNat 28 then s.setInst i { s.instOf i with event := false } else s)
    else if o = 0x3004 then writeMbxCtl .host (.page ⟨i, h⟩) v s
    else writePlain .host (bar4Base + off) v s
  else s

/-- One word read of an instance page; STRAY clears when its byte is read. -/
def pageRead (off b n : Nat) (s : State) : W32 × State :=
  let i := off / 0x4000
  if off % 0x4000 = 0x3000 then
    (s.instStatus i, if b + n = 4 then s.setInst i { s.instOf i with stray := 0 } else s)
  else readPlain (bar4Base + off) b n s

/-- A write of BAR4 by the host (R4). -/
def pageStore (off : Nat) (bs : List Byte) (s : State) : State :=
  if bs.length = 4 ∧ aligned 4 off then pageWrite off (BitVec.ofNat 32 (leNat bs)) s
  else if bs.length = 8 ∧ aligned 8 off then
    pageWrite (off + 4) (BitVec.ofNat 32 (leNat (bs.drop 4))) (pageWrite off (BitVec.ofNat 32 (leNat (bs.take 4))) s)
  else s

/-- A read of BAR4 by the host (R4). -/
def pageLoad (off n : Nat) (s : State) : List Byte × State :=
  if off % 4 + n ≤ 4 then
    let (v, s) := pageRead (off / 4 * 4) (off % 4) n s
    (((leBytes 4 v.toNat).drop (off % 4)).take n, s)
  else if n = 8 ∧ aligned 8 off then
    let (lo, s) := pageRead off 0 4 s
    let (hi, s) := pageRead (off + 4) 0 4 s
    (leBytes 4 lo.toNat ++ leBytes 4 hi.toNat, s)
  else (List.replicate n 0, s)

/-! ### Configuration space (R324 to R326, R337, R339) -/

/-- Writable bits of a configuration word: (stored, cleared by ones). The bit places are the PCIe specification's.
(Log entry 8: PRESUMED, unsafe.) -/
def cfgMasks (w : Nat) : Nat × Nat :=
  match w with
  | 0x04 => (0x0546, 0xF9000000)
  | 0x0C => (0xFF, 0)
  | 0x10 => (0xFE000000, 0)
  | 0x14 => (0xFFFFFFFF, 0)
  | 0x1C => (0xFFFFFFF0, 0)
  | 0x20 => (0xFE000000, 0)
  | 0x24 => (0xFFFFFFFF, 0)
  | 0x3C => (0xFF, 0)
  | 0x44 => (0x0100, 0x8000)
  | 0x50 => (0xC0000000, 0)
  | 0x68 => (0x79FF, 0x000F0000)
  | 0x70 => (0x00CA, 0)
  | 0x88 => (0x101F, 0)
  | 0x90 => (0x3F, 0)
  | 0x104 => (0, 0xFFFFFFFF)
  | 0x108 => (0xFFFFFFFF, 0)
  | 0x10C => (0xFFFFFFFF, 0)
  | 0x110 => (0, 0xFFFFFFFF)
  | 0x114 => (0xFFFFFFFF, 0)
  | 0x164 => (0x00010000, 0)
  | 0x174 => (0x801F0000, 0)
  | _ => (0, 0)

/-- A configuration word after a write of the bits in `en` (its enabled bytes). -/
def cfgMerge (w old v en : Nat) : Nat :=
  let (rw, w1c) := cfgMasks w
  let rw := Nat.land rw en
  let clr := Nat.land (Nat.land w1c en) v
  let kept := Nat.lor (Nat.land old (2 ^ 32 - 1 - rw)) (Nat.land v rw)
  Nat.land kept (2 ^ 32 - 1 - clr)

/-- A configuration write of up to four bytes within one word: Bus Master Enable, PowerState and Initiate Function Level
Reset act as R336, R339 and R337 say. -/
def cfgStore (off : Nat) (bs : List Byte) (s : State) : State :=
  let w := off / 4 * 4
  let n := bs.length
  if off % 4 + n > 4 then s
  else
    let v := leNat bs * 2 ^ (8 * (off % 4))
    let en := (2 ^ (8 * n) - 1) * 2 ^ (8 * (off % 4))
    let old := s.cfgRd w
    let s := s.cfgWr w (BitVec.ofNat 32 (cfgMerge w old.toNat v en))
    if w = 0x04 then
      if bitAt old.toNat 2 && !s.cfgBit 0x04 2 then s.hostStops
      else if !bitAt old.toNat 2 && s.cfgBit 0x04 2 then s.hostReturns
      else s
    else if w = 0x44 ∧ en % 4 = 3 then
      if v % 4 = 3 ∧ old.toNat % 4 ≠ 3 then s.toD3hot
      else if v % 4 = 0 ∧ old.toNat % 4 ≠ 0 then s.toD0
      else s
    else if w = 0x68 ∧ bitAt en 15 ∧ bitAt v 15 then s.startFlr
    else s

/-- A configuration word as it reads: the Device Serial Number is SEC_DSN once the identity is valid. -/
def State.cfgShown (s : State) (w : Nat) : Nat :=
  let dsn := if s.bit SEC_STATUS SEC_STATUS_ID_VALID then s.rd64 SEC_DSN else 0
  if w = 0x154 then dsn % 2 ^ 32 else if w = 0x158 then dsn / 2 ^ 32 else (s.cfgRd w).toNat

/-- Configuration requests complete (R324, R337): before that the function answers Configuration Request Retry. -/
def State.cfgAnswers (s : State) : Bool := s.host.cfgReady && !s.host.flrBusy

/-! ### The commands -/

/-- How an access was answered. -/
def State.answered (s : State) (e : Option MemErr) (bs : List Byte) : State :=
  { s with answer32 := bs, answerErr := e }

/-- A request to a BAR that is not claimed: AER logs one of the host. -/
def State.unclaimed (s : State) (q : Requester) : State :=
  (if q = .host then s.unsupported else s).answered (some .address) []

/-- The host's memory requests to BAR0 are claimed: Memory Space Enable is one and no function-level reset runs. -/
def State.bar0Claims (s : State) (q : Requester) (off : Nat) : Bool :=
  decide (off < 0x2000000) && (match q with
    | .host => s.mse && !s.host.flrBusy
    | .jtag => s.scope 1
    | _ => true)

/-- A write of a register, an instance page or configuration space. An access that is not claimed completes as
Unsupported Request (or is refused with an address error); a configuration request that comes too early is retried. -/
def execRegisterWrite (q : Requester) (space : RegSpace) (off : BitVec 26) (data : List Byte) (s : State) : Res :=
  match space with
  | .bar0 =>
    if s.bar0Claims q off.toNat then
      let (e, s) := regStore q off.toNat data s
      ok (s.answered e [])
    else ok (s.unclaimed q)
  | .bar4 =>
    if q == .host && s.claims && decide (off.toNat < 0x2000000) then ok ((pageStore off.toNat data s).answered none [])
    else ok (s.unclaimed q)
  | .config =>
    if q != .host || decide (off.toNat ≥ 4096) then ok (s.answered (some .address) [])
    else if s.cfgAnswers then ok ((cfgStore off.toNat data s).answered none [])
    else ok (s.answered (some .hostDown) [])

/-- A read of a register, an instance page or configuration space. -/
def execRegisterRead (q : Requester) (space : RegSpace) (off : BitVec 26) (len : Fin 4097) (s : State) : Res :=
  match space with
  | .bar0 =>
    if s.bar0Claims q off.toNat then
      let (e, bs, s) := regLoad q off.toNat len.val s
      ok (s.answered e bs)
    else ok (s.unclaimed q)
  | .bar4 =>
    if q == .host && s.claims && decide (off.toNat < 0x2000000) then
      let (bs, s) := pageLoad off.toNat len.val s
      ok (s.answered none bs)
    else ok (s.unclaimed q)
  | .config =>
    if q != .host || decide (off.toNat ≥ 4096) then ok (s.answered (some .address) [])
    else if s.cfgAnswers then
      ok (s.answered none (((leBytes 4 (s.cfgShown (off.toNat / 4 * 4))).drop (off.toNat % 4)).take len.val))
    else ok (s.answered (some .hostDown) [])

/-! ### Device address space from inside: memory and registers alike (R3, R4, R12) -/

/-- A read of the device address space. -/
def State.busLoad (s : State) (q : Requester) (a n : Nat) : Option MemErr × List Byte × State :=
  if regionOf a = .regs then regLoad q (regOff a) n s else s.load a n

/-- A write of the device address space. -/
def State.busStore (s : State) (q : Requester) (a : Nat) (bs : List Byte) (poison : Bool) : Option MemErr × State :=
  if regionOf a = .regs then regStore q (regOff a) bs s else s.store a bs poison

/-- The JTAG port (R318, R436, R479): boundary scan, the challenge and token registers, the debug command of a ROM held
by BOOT_HOLD, injection, and device address space accesses with debug scope [1]. (Log entries 18: DESIGN CHOICE,
unsafe; 19: DESIGN CHOICE, safe.) -/
def execJtagAccess (op : JtagOp) (s : State) : Res :=
  match op with
  | .boundary => ok { s.tick with pins := { s.pins with tapDr := s.entropy 64 } }
  | .challenge =>
    let s := s.newChallenge
    ok { s with pins := { s.pins with tapDr := s.sec.challenge.getD [] } }
  | .token t => ok (if s.tokenOk t then s.debugUnlock t else s)
  | .bootHold _ => ok s
  | .inject addr v => ok (writeFltInj .jtag v (s.wr64 FLT_INJ_ADDR addr.toNat))
  | .read addr len =>
    if s.scope 1 && s.hbmHeld addr.toNat then ok (s.holdAccess 7 addr.toNat len.toNat none false (len.toNat + 1))
    else if s.scope 1 then
      let (e, bs, s) := s.busLoad .jtag addr.toNat len.toNat
      ok (s.answered e bs)
    else ok (s.answered (some .address) [])
  | .write addr data =>
    if s.scope 1 && s.hbmHeld addr.toNat then
      ok (s.holdAccess 7 addr.toNat data.length (some data) false (data.length + 1))
    else if s.scope 1 then
      let (e, s) := s.busStore .jtag addr.toNat data false
      ok (s.answered e [])
    else ok (s.answered (some .address) [])

end Sys2Proof.Machine
end

