-- ==== Sys2Proof/Machine/ClusterOps.lean ====
section
/-! DEFINITION. The clusters at work (03_compute_clusters.md R42 to R59, R491, R492): descriptor fetch, issue and
completion, the front end, the matrix, vector and special-function units, and the movers. -/

namespace Sys2Proof.Machine

/-! ### Fetch and issue (R44, R491, R492) -/

/-- The failed descriptor stands at the front: issue stops there. -/
def State.haltAtFailed (s : State) (c : Nat) : State :=
  let r := s.ring (cluB c)
  if r.fetchFail && r.fetched.isEmpty then s.sf (CLU_ERR c) CLU_ERR_HALTED 1 else s

/-- One descriptor fetch: at most 16 are kept fetched and not issued. -/
def execDescriptorFetch (c : Fin 1024) (s : State) : Res :=
  let b := cluB c.val
  let r := s.ring b
  if s.cluState c.val = 0 ∧ !s.cluMoving c.val ∧ s.cmdEn b ∧ !s.blockDown 6 ∧ !s.safe ∧ !r.fetchFail
      ∧ r.fetched.length < 16 ∧ r.fetchIx ≠ r.tail then
    match s.fetchEntry b r.fetchIx with
    | (some d, s) =>
      let r := s.ring b
      ok ((s.setRing b { r with fetched := r.fetched ++ [(r.fetchIx, d)], fetchIx := ix16 (r.fetchIx + 1) }).cluRefresh c.val)
    | (none, s) =>
      let s := (s.sf (CLU_ERR c.val) CLU_ERR_FETCH_ERR 1).setRing b { s.ring b with fetchFail := true }
      ok ((s.haltAtFailed c.val).cluRefresh c.val)
  else ok s

/-- The WAIT_FLAG of the descriptor at the head of issue is translated when it comes there, and kept (R44, R69): an
FLG_INVAL written later leaves its wait on the old mapping. (Log entry 351: DEDUCED, unsafe.) -/
def State.headXlat (s : State) (c ix : Nat) (d : List Byte) : State :=
  let e := (s.ring (cluB c)).epoch
  if checkDesc d = 0 ∧ (dWaitOp d = 1 ∨ dWaitOp d = 2) ∧ (s.waitXlat c ix e).isNone then
    match s.translate (dieOf c) (s.fctx (cluB c)) (dWaitFlag d) (waitNeed d) with
    | (some p, s) => s.keepXlat c ix e p
    | (none, s) => s
  else s

/-- The WAIT_FLAG of a descriptor at the head of issue (R492): no wait, a physical flag, or a failed translation. -/
def State.waitFlag (s : State) (c ix : Nat) (d : List Byte) : Option (Option Nat) :=
  if dWaitOp d = 1 ∨ dWaitOp d = 2 then (s.waitXlat c ix (s.ring (cluB c)).epoch).map some else some none

/-- The checks of a descriptor at issue, in the order of R492: the status of the first that fails (zero: none), and the
flag it waits for. -/
def State.issueCheck (s : State) (c ix : Nat) (d : List Byte) : Nat × Option Nat :=
  let code := checkDesc d
  if code ≠ 0 then (code, none)
  else match s.waitFlag c ix d with
    | none => (0x14, none)
    | some w => if dOpcode d = 0x02 ∧ !s.barAssigned (barNo d) (s.fctx (cluB c)) then (0x15, none) else (0, w)

/-- A descriptor leaves the fetched ones and takes a queue slot, with a result when a check failed. -/
def State.issueTo (s : State) (c ix : Nat) (d : List Byte) (unit : Nat) (status : Nat) : State :=
  let r := s.ring (cluB c)
  let i : Issued := ⟨ix, r.epoch, d, unit, status != 0, if status = 0 then none else some (status, 0)⟩
  (((s.setRing (cluB c) { r with fetched := r.fetched.drop 1, issued := r.issued ++ [i] }).haltAtFailed c).dropXlat c).cluRefresh c

/-- The descriptor at the head of issue (R44): it issues when its unit has a slot, its ORDER condition is met and its
WAIT_OP holds; one that fails a check issues with that status and waits on nothing; a cluster's third entry on one
barrier does not issue (R75). (Log entries 40: DEDUCED, unsafe; 42: DEDUCED, unsafe.) -/
def execDescriptorIssue (c : Fin 1024) (s : State) : Res :=
  let s := s.cluRefresh c.val
  let r := s.ring (cluB c.val)
  if s.cluState c.val ≠ 0 ∨ s.cluMoving c.val ∨ s.issueStopped c.val then ok s
  else match r.fetched with
  | [] => ok s
  | (ix, d) :: _ =>
    let s := s.headXlat c.val ix d
    let u := queueOf r.issued d
    if (r.issued.filter (fun i => i.unit == u)).length ≥ 4 then ok s
    else if dOrder d && r.issued.any (fun i => i.epoch == r.epoch) then ok s
    else
      let (code, w) := s.issueCheck c.val ix d
      if code ≠ 0 then ok (s.issueTo c.val ix d u code)
      else if dOpcode d = 0x02 ∧ s.barEnters c.val (barNo d) ≥ 2 then ok (s.cluRefresh c.val)
      else match w with
        | none => ok (s.issueTo c.val ix d u 0)
        | some p =>
          match s.flagTake p (dWaitOp d == 2) with
          | (true, s) => ok (s.issueTo c.val ix d u 0)
          | (false, s) => ok (s.cluRefresh c.val)

/-! ### Completion (R45, R46, R47) -/

/-- SET_FLAG as it translates at completion: the status, and the flag to set. -/
def State.setFlagOf (s : State) (c : Nat) (d : List Byte) (status : Nat) : Nat × Option Nat × State :=
  if dSetOp d = 1 ∧ (status = 0 ∨ status = 0x12) then
    match s.translate (dieOf c) (s.fctx (cluB c)) (dSetFlag d) Machine.needSet with
    | (some p, s) => (status, some p, s)
    | (none, s) => (0x14, none, s)
  else (status, none, s)

/-- A descriptor that has its result completes: SET_FLAG translates, the record is written (when there is room for it),
the flag is set, and CMD_HEAD advances; a failure halts the ring. -/
def execDescriptorComplete (c : Fin 1024) (ix : W16) (s : State) : Res :=
  let b := cluB c.val
  match (s.ring b).issued.find? (fun i => i.ix == ix.toNat && i.result.isSome) with
  | none => ok s
  | some i =>
    let (st0, nf) := i.result.getD (0, 0)
    let (st, flag, s') := s.setFlagOf c.val i.desc st0
    let rec_ := dCmpl i.desc || st != 0
    if rec_ && !s'.cmplRoom b then ok s
    else
      let s := if rec_ then s'.ringRecord b (dTag i.desc) st nf i.ix else s'
      let s := match flag with
        | some p => s.flagSet p
        | none => s
      let s := s.retire b i.ix i.epoch
      let s := if st = 0 ∨ st = 0x12 then s else s.sf (CLU_ERR c.val) CLU_ERR_HALTED 1
      ok (s.cluRefresh c.val)

/-! ### A unit runs its next descriptor -/

/-- The oldest descriptor of a unit that has not started. -/
def State.nextOf (s : State) (c u : Nat) : Option Issued :=
  (s.ring (cluB c)).issued.find? (fun i => i.unit == u && !i.entered && i.result.isNone)

/-- Mark a descriptor as started, with its result once it has one. -/
def State.started (s : State) (c : Nat) (i : Issued) (res : Option (Nat × Nat)) : State :=
  let r := s.ring (cluB c)
  s.setRing (cluB c) { r with issued := r.issued.map (fun x =>
    if x.ix = i.ix ∧ x.epoch = i.epoch ∧ x.unit = i.unit ∧ !x.entered then { x with entered := true, result := res } else x) }

/-! ### Scratchpad banks (R37, R38) -/

/-- The requester number at a bank of a unit queue (R37): matrix, vector and special-function unit, mover 0, mover 1; the
external port is requester 5. -/
def bankReq (u : Nat) : Nat := u - 1

/-- Scratchpad bank tickets (R37). -/
def bankTickets (r : Nat) : Nat := if r < 2 then 64 else 32

/-- The arbiter of the bank that holds a line of a scratchpad (R36, R37). -/
def bankArb (a : Nat) : Nat := arbId 5 ((a - scratchBase) / 0x10_0000 * 16 + (a - scratchBase) % 0x10_0000 / 64 % 16)

/-- Two units ask for the bank of a line at once: one draw grants one of them, the other retries in the next cycle and is
granted then (R37). The answer says whether unit `u` was granted first. (Log entry 38: DESIGN CHOICE, unsafe.) -/
def State.bankDraw (s : State) (a u v : Nat) : Bool × State :=
  let reqs := [(bankReq (min u v), bankTickets (bankReq (min u v))), (bankReq (max u v), bankTickets (bankReq (max u v)))]
  let q := s.drawNow (bankArb a) 7 reqs
  let late := bankReq (if q.1 == some (bankReq u) then v else u)
  (q.1 == some (bankReq u), (q.2.draw (bankArb a) 7 0 [(late, bankTickets late)]).2)

/-- Bytes of a scratchpad, and the marks of the whole words among them, put back as they stood in `old`. -/
def State.putBack (old s : State) (a n : Nat) : State :=
  let s := s.putBytes a (old.bytes a n)
  (List.range (spans 8 a n)).foldl (fun (s : State) k =>
    let w := a / 8 * 8 + 8 * k
    if a ≤ w ∧ w + 8 ≤ a + n then s.setWordMark w (old.wordMark w) else s) s

/-- The bytes of one line that two descriptors at units `u` and `v` both write: the line write granted last stays (R38). The
later run, by unit `u`, has just written them over what `old` holds. -/
def State.raceLine (old : State) (u v line : Nat) (both : List (Nat × Nat)) (s : State) : State :=
  match s.bankDraw line u v with
  | (true, s) => (both.filterMap (sharedRange (line, 64))).foldl (fun (s : State) p => old.putBack s p.1 p.2) s
  | (false, s) => s

/-- The lines of the cluster's scratchpad in a list of ranges. -/
def spadLines (c : Nat) (ps : List (Nat × Nat)) : List Nat :=
  ((ps.flatMap (fun p => (List.range (spans 64 p.1 p.2)).map (fun k => p.1 / 64 * 64 + 64 * k))).filter (fun l =>
    decide (scratchAddr c 0 ≤ l) && decide (l < scratchAddr c 0x8_0000))).eraseDups

/-- The ranges an issued descriptor writes. -/
def State.destOf (s : State) (c : Nat) (d : List Byte) : List (Nat × Nat) :=
  destRanges c d (s.bytes (scratchAddr c (dmaList d)) (8 * dmaRows d))

/-- The descriptors of other units that have run, have not completed, and so run at the same time as one of unit `u`
(R38, R44). -/
def State.rivals (s : State) (c u : Nat) : List Issued :=
  (s.ring (cluB c)).issued.filter (fun j => j.unit != u && j.entered && (j.result.any (fun r => decide (r.1 = 0 ∨ r.1 = 0x12))))

/-- The line writes of descriptor `i` against those of the descriptors that run at the same time, line by line (R37, R38).
(Log entry 38: DESIGN CHOICE, unsafe.) -/
def State.raceLines (old : State) (c : Nat) (i : Issued) (s : State) : State :=
  (old.rivals c i.unit).foldl (fun (s : State) j =>
    let both := sharedRanges (old.destOf c i.desc) (old.destOf c j.desc)
    (spadLines c both).foldl (fun (s : State) l => old.raceLine i.unit j.unit l both s) s) s

/-- Unit `u` runs its next descriptor when that one's opcode is `op`: `f` gives its status, its count of non-finite
blocks and the state after; where descriptors that run at the same time write the same lines, the banks' grants decide.
(Log entry 32: DESIGN CHOICE, unsafe.) -/
def runUnit (c u op : Nat) (f : List Byte → State → Nat × Nat × State) (s : State) : Res :=
  match s.nextOf c u with
  | some i =>
    if dOpcode i.desc = op then
      let (st, nf, t) := f i.desc s
      ok ((if st = 0 ∨ st = 0x12 then s.raceLines c i t else t).started c i (some (st, nf)))
    else ok s
  | none => ok s

/-! ### Front end -/

/-- R49. -/
def execNop (c : Fin 1024) (s : State) : Res := runUnit c.val 0 0x00 (fun _ s => (0, 0, s)) s

/-- R75, R77: the cluster makes its entry; the descriptor completes when the round closes. -/
def execBarEnter (c : Fin 1024) (s : State) : Res :=
  match s.nextOf c.val 0 with
  | some i =>
    if dOpcode i.desc = 0x02 then
      if s.barAssigned (barNo i.desc) (s.fctx (cluB c.val)) then
        ok ((s.started c.val i none).enterBarrier (barNo i.desc) c.val (i.epoch * 2 ^ 16 + i.ix))
      else ok (s.started c.val i (some (0x15, 0)))
    else ok s
  | none => ok s

/-! ### Matrix unit -/

/-- R50. (Log entry 31: DESIGN CHOICE, safe.) -/
def mmaRun (c : Nat) (d : List Byte) (s : State) : Nat × Nat × State :=
  let (ea, rowsA, s) := s.unitRows c (mmaA d)
  let (eb, colsB, s) := s.unitRows c (mmaB d)
  let (ec, rowsC, s) := if mmaAcc d then s.unitRows c (mmaC d) else (false, [], s)
  if ea || eb || ec then (0x13, 0, s.unitScramble c (mmaC d))
  else
    let a := rowsA.map (mmaRecords (dFmt d 4) (mmaKT d))
    let b := colsB.map (mmaRecords (dFmt d 5) (mmaKT d))
    let row (r : Nat) : List Byte :=
      ((List.range b.length).map (fun n =>
        let c0 := if mmaAcc d then fp32.decode (fieldLE (rowsC.getD r []) (4 * n) 4) else posZero
        f32Bytes (mmaElement c0 (a.getD r []) (b.getD n [])))).flatten
    (0, 0, (List.range a.length).foldl (fun (s : State) r =>
      s.unitWrite c ((mmaC d).off + r * (mmaC d).stride) (row r)) s)

def execMma (c : Fin 1024) (s : State) : Res := runUnit c.val 1 0x10 (mmaRun c.val) s

/-! ### Vector unit -/

def vecX (d : List Byte) : SpadRange := spadOne (dOff d 4) (vecCount d * vecWidth (dFmt d 4))
def vecY (d : List Byte) : SpadRange := spadOne (dOff d 5) (vecCount d * vecWidth (dFmt d 5))
def vecZ (d : List Byte) : SpadRange := spadOne (dOff d 6) (vecZLen d)

/-- The elements of X, of Y (or IMM in place of each), and of Z, where they are used. -/
def State.readX (s : State) (c : Nat) (d : List Byte) : Bool × List Num × State :=
  let (e, bs, s) := s.unitRead c (vecX d)
  (e, decodeElems (dFmt d 4) (vecCount d) bs, s)
def State.readY (s : State) (c : Nat) (d : List Byte) : Bool × List Num × State :=
  if dYImm d then (false, List.replicate (vecCount d) (fp32.decode (dImm d)), s)
  else
    let (e, bs, s) := s.unitRead c (vecY d)
    (e, decodeElems (dFmt d 5) (vecCount d) bs, s)
def State.readZ (s : State) (c : Nat) (d : List Byte) : Bool × List Num × State :=
  let (e, bs, s) := s.unitRead c (vecZ d)
  (e, decodeElems (dFmt d 6) (vecCount d) bs, s)

/-- Write the elements of Z in its format. -/
def State.writeZ (s : State) (c : Nat) (d : List Byte) (zs : List Num) : State :=
  s.unitWrite c (dOff d 6) (zs.map (vecBytes (dFmt d 6))).flatten

/-- A unit that met a bad word: status 0x0013, Z free (R39). (Log entry 31: DESIGN CHOICE, safe.) -/
def vecBad (c : Nat) (d : List Byte) (s : State) : Nat × Nat × State := (0x13, 0, s.unitScramble c (vecZ d))

def vecBinRun (c : Nat) (d : List Byte) (s : State) : Nat × Nat × State :=
  let (ex, xs, s) := s.readX c d
  let (ey, ys, s) := s.readY c d
  if ex || ey then vecBad c d s
  else (0, 0, s.writeZ c d ((xs.zip ys).map (fun p => vecBinF (dFunc d) p.1 p.2)))
def execVecBin (c : Fin 1024) (s : State) : Res := runUnit c.val 2 0x20 (vecBinRun c.val) s

def vecFmaRun (c : Nat) (d : List Byte) (s : State) : Nat × Nat × State :=
  let (ex, xs, s) := s.readX c d
  let (ey, ys, s) := s.readY c d
  let (ez, zs, s) := s.readZ c d
  if ex || ey || ez then vecBad c d s
  else (0, 0, s.writeZ c d ((xs.zip (ys.zip zs)).map (fun p => vecFmaF (dFunc d) p.1 p.2.1 p.2.2)))
def execVecFma (c : Fin 1024) (s : State) : Res := runUnit c.val 2 0x21 (vecFmaRun c.val) s

def vecUnRun (c : Nat) (d : List Byte) (s : State) : Nat × Nat × State :=
  let (ex, xs, s) := s.readX c d
  if ex then vecBad c d s
  else (0, 0, s.writeZ c d (xs.map (vecUnF (dFunc d) (fp32.decode (dImm d)))))
def execVecUn (c : Fin 1024) (s : State) : Res := runUnit c.val 2 0x22 (vecUnRun c.val) s

/-- The sum of FP32 values, added with round to nearest even: one or two have one grouping, a NaN among them gives a NaN;
otherwise the order and grouping of the additions are left open (R34, R35, R51). (Log entry 39: DESIGN CHOICE, safe.) -/
def State.vecSum (s : State) (xs : List Num) : Num × State :=
  if xs.any Num.isNan then (.nan, s)
  else match xs with
    | [x] => (x, s)
    | [x, y] => (rnd32 (x.add y), s)
    | _ => (sumAny xs.length s.free xs, { s with free := s.free + 2 * xs.length })

def vecRedRun (c : Nat) (d : List Byte) (s : State) : Nat × Nat × State :=
  let (ex, xs, s) := s.readX c d
  if ex then vecBad c d s
  else
    match dFunc d with
    | 0 =>
      let (x, s) := s.vecSum xs
      (0, 0, s.unitWrite c (dOff d 6) (f32Bytes x))
    | 1 => (0, 0, s.unitWrite c (dOff d 6) (f32Bytes (vecMax xs)))
    | _ => (0, 0, s.unitWrite c (dOff d 6) (leBytes 4 (vecArgMax xs)))
def execVecRed (c : Fin 1024) (s : State) : Res := runUnit c.val 2 0x23 (vecRedRun c.val) s

def vecTopkRun (c : Nat) (d : List Byte) (s : State) : Nat × Nat × State :=
  let (ex, xs, s) := s.readX c d
  if ex then vecBad c d s else (0, 0, s.unitWrite c (dOff d 6) (topkBytes (dK d) xs))
def execVecTopk (c : Fin 1024) (s : State) : Res := runUnit c.val 2 0x24 (vecTopkRun c.val) s

/-- `n` values of VEC_RAND from element index `i` on (R53). -/
def State.randList (c : Nat) : Nat → Nat → State → List Num × State
  | 0, _, s => ([], s)
  | n + 1, i, s =>
    let (r1, s) := s.drawLane c 0 (i % 64)
    let (r2, s) := s.drawLane c 0 (i % 64)
    let (rest, s) := State.randList c n (i + 1) s
    (randValue r1 r2 :: rest, s)

def vecRandRun (c : Nat) (d : List Byte) (s : State) : Nat × Nat × State :=
  let (zs, s) := State.randList c (vecCount d) 0 (s.seedBank c 0 (dImm d))
  (0, 0, s.writeZ c d zs)
def execVecRand (c : Fin 1024) (s : State) : Res := runUnit c.val 2 0x25 (vecRandRun c.val) s

/-! ### Special-function unit -/

/-- Results in FP32, each with a fresh free value for what its error bound leaves open (R51, R52). (Log entry 39:
DESIGN CHOICE, safe.) -/
def State.sfuList (s : State) (f : Nat) (xs : List Num) : List Num × State :=
  (((List.range xs.length).zip xs).map (fun p => fp32.decode (sfuCode f p.2 (Config.freeValue 32 (s.free + p.1)).toNat)),
    { s with free := s.free + xs.length })

def sfuRun (c : Nat) (d : List Byte) (s : State) : Nat × Nat × State :=
  let (ex, xs, s) := s.readX c d
  if ex then vecBad c d s
  else
    let (zs, s) := s.sfuList (dFunc d) xs
    (0, 0, s.writeZ c d zs)
def execSfu (c : Fin 1024) (s : State) : Res := runUnit c.val 3 0x28 (sfuRun c.val) s

/-! ### Conversion -/

/-- A stochastic draw of the conversion bank: scheduling decides which lane makes it, so the lane is a free value (R29,
R35). (Log entry 39: DESIGN CHOICE, safe.) -/
def State.drawConv (s : State) (c : Nat) : Nat × State := s.tick.drawLane c 1 (s.fresh 6).toNat

/-- The rounding of each element of a group (R29): with RND one, a draw for each finite element that is encoded; none in
a block that R27 writes. -/
def State.groupRounds (c : Nat) : List Num → State → List Rounding × State
  | [], s => ([], s)
  | x :: xs, s =>
    if x.isFinite then
      let (r, s) := s.drawConv c
      let (rest, s) := State.groupRounds c xs s
      (.stochastic r :: rest, s)
    else
      let (rest, s) := State.groupRounds c xs s
      (.nearest :: rest, s)

/-- Convert the groups of a vector: the bytes, the decoded values, and the count of non-finite blocks. -/
def State.cvtGroups (c fmt : Nat) (rnd sat : Bool) : List (List Num) → State → List Byte × List Num × Nat × State
  | [], s => ([], [], 0, s)
  | g :: gs, s =>
    let quiet := !rnd || (isBlock fmt && g.any (fun x => !x.isFinite))
    let (rnds, s) := if quiet then (g.map (fun _ => Rounding.nearest), s) else State.groupRounds c g s
    let (bs, vs, bad) := cvtGroup fmt sat rnds g
    let (bs', vs', n, s) := State.cvtGroups c fmt rnd sat gs s
    (bs ++ bs', vs ++ vs', b2n bad + n, s)

def cvtDst (d : List Byte) : SpadRange := spadOne (dOff d 5) (storedBytes (dFmt d 5) (cvtCount d))

/-- R54. (Log entries 31: DESIGN CHOICE, safe; 331: DEDUCED, unsafe.) -/
def cvtRun (c : Nat) (d : List Byte) (s : State) : Nat × Nat × State :=
  let n := cvtCount d
  let s := s.seedBank c 1 (dImm d)
  let (e1, src, s) := s.unitRead c (spadOne (dOff d 4) (storedBytes (dFmt d 4) n))
  let (e2, rin, s) := if cvtRin d then s.unitRead c (spadOne (dOff d 6) (4 * n)) else (false, [], s)
  let rout := spadOne (dOff d 7) (4 * n)
  if e1 || e2 then
    let s := s.unitScramble c (cvtDst d)
    (0x13, 0, if cvtRout d then s.unitScramble c rout else s)
  else
    let xs := cvtSource (dFmt d 4) n src
    let xs := if cvtRin d then (xs.zip (decodeElems 0 n rin)).map (fun p => rnd32 (p.1.add p.2)) else xs
    let (bs, vs, nf, s) := State.cvtGroups c (dFmt d 5) (cvtRnd d) (cvtSat d) (groupsOf 32 xs) s
    let s := s.unitWrite c (dOff d 5) bs
    let s := if cvtRout d then s.unitWrite c rout.off ((xs.zip vs).map (fun p => f32Bytes (p.1.add p.2.neg))).flatten else s
    (0, nf, s)
def execCvt (c : Fin 1024) (s : State) : Res := runUnit c.val 2 0x30 (cvtRun c.val) s

/-! ### DMA movers (R55 to R59) -/

/-- Status of an access that is refused as a whole. -/
def moveStatus : MemErr → Nat
  | .hostDown => 0x11
  | _ => 0x10

/-- Bytes of the unit of memory that carries one poison mark at an address (R59): a 64-byte HBM line, a scratchpad word,
and, for host and accelerator memory, a 64-byte piece of the transfer; a register access is one access. (Log entry
301: DESIGN CHOICE, unsafe.) -/
def markedBytes (a n : Nat) : Nat :=
  match regionOf a with
  | .regs => n
  | .scratch => min n (8 - a % 8)
  | _ => min n (64 - a % 64)

/-- Read `n` bytes with their poison marks. -/
def State.loadTagged : Nat → Nat → Nat → State → List (Byte × Bool) × State
  | 0, _, _, s => ([], s)
  | k + 1, a, n, s =>
    if n = 0 then ([], s)
    else
      let m := markedBytes a n
      match s.busLoad .engine a m with
      | (e, bs, s) =>
        let (rest, s) := State.loadTagged k (a + m) (n - m) s
        ((fit m bs).map (fun b => (b, e.isSome)) ++ rest, s)

/-- Write bytes with their poison marks. -/
def State.storeTagged : Nat → Nat → List (Byte × Bool) → State → State
  | 0, _, _, s => s
  | k + 1, a, bs, s =>
    match bs with
    | [] => s
    | _ =>
      let m := markedBytes a bs.length
      let part := bs.take m
      State.storeTagged k (a + m) (bs.drop m) (s.busStore .engine a (part.map (·.1)) (part.any (·.2))).2

/-- One row or item (R56): checked whole at both ends before a byte moves; the status of a refusal, or whether the data
was poisoned. (Log entry 335: DESIGN CHOICE, unsafe.) -/
def State.moveRow (s : State) (src dst n : Nat) : Option Nat × Bool × State :=
  match s.accessErr src n false <|> s.accessErr dst n true with
  | some e => (some (moveStatus e), false, s)
  | none =>
    let (bs, s) := State.loadTagged n src n s
    (none, bs.any (·.2), State.storeTagged n dst bs s)

/-- The rows of a descriptor in order; the first that is refused stops it. -/
def State.moveRows (n : Nat) : List (Nat × Nat) → Bool → State → Nat × State
  | [], p, s => (if p then 0x12 else 0, s)
  | (a, b) :: rest, p, s =>
    match s.moveRow a b n with
    | (some st, _, s) => (st, s)
    | (none, q, s) => State.moveRows n rest (p || q) s

/-- A copy of rows that the descriptor's own addresses give. (Log entries 32: DESIGN CHOICE, unsafe; 333: DESIGN
CHOICE, unsafe.) -/
def copyRun (d : List Byte) (s : State) : Nat × Nat × State :=
  let (st, s) := State.moveRows (dmaLen d) (dmaCopyRows d) false s
  (st, 0, s)

def execDmaCopy (c : Fin 1024) (mover : Fin 2) (s : State) : Res := runUnit c.val (4 + mover.val) 0x40 copyRun s
def execDma2d (c : Fin 1024) (mover : Fin 2) (s : State) : Res := runUnit c.val (4 + mover.val) 0x41 copyRun s

/-- The addresses of a gather or scatter list. -/
def listAddrs (n : Nat) (bs : List Byte) : List Nat := (List.range n).map (fun i => fieldLE bs (8 * i) 8)

/-- A gather (list to contiguous) or scatter (contiguous to list): the whole list is read first, as a unit reads (R39). -/
def listRun (c : Nat) (scatter : Bool) (d : List Byte) (s : State) : Nat × Nat × State :=
  let (e, bs, s) := s.unitRead c (spadOne (dmaList d) (8 * dmaRows d))
  if e then (0x13, 0, s)
  else
    let n := dmaLen d
    let items := ((List.range (dmaRows d)).zip (listAddrs (dmaRows d) bs)).map (fun p =>
      if scatter then (dmaSrc d + p.1 * n, p.2) else (p.2, dmaDst d + p.1 * n))
    if rowsOverlap n items then (0x06, 0, s)
    else
      let (st, s) := State.moveRows n items false s
      (st, 0, s)

def execDmaGather (c : Fin 1024) (mover : Fin 2) (s : State) : Res :=
  runUnit c.val (4 + mover.val) 0x42 (listRun c.val false) s
def execDmaScatter (c : Fin 1024) (mover : Fin 2) (s : State) : Res :=
  runUnit c.val (4 + mover.val) 0x43 (listRun c.val true) s

/-- A fill: one row, the pattern from its byte 0. -/
def fillRun (d : List Byte) (s : State) : Nat × Nat × State :=
  match s.accessErr (dmaDst d) (dmaLen d) true with
  | some e => (moveStatus e, 0, s)
  | none =>
    let bs := (List.range (dmaLen d)).map (fun i => (BitVec.ofNat 8 (wordFd d 4 (8 * (i % 4)) 8), false))
    (0, 0, State.storeTagged (dmaLen d) (dmaDst d) bs s)

def execDmaFill (c : Fin 1024) (mover : Fin 2) (s : State) : Res := runUnit c.val (4 + mover.val) 0x44 fillRun s

end Sys2Proof.Machine
end

