-- ==== Sys2Proof/Machine/Tis.lean ====
section
/-! DEFINITION. The control cores T0 to T31 (18_tahr_instruction_set.md R385 to R402): exceptions, memory accesses and
every TIS-32 instruction. A command names a core and one instruction's fields; the core runs it at its PC. -/

namespace Sys2Proof.Machine

/-! ### Core state -/

/-- A general register; g0 reads zero (R385). -/
def Tahr.reg (t : Tahr) (r : BitVec 5) : W32 := if r = 0 then 0 else Tab.get (fun _ => 0) t.g r.toNat

/-- The core with a general register written; a write of g0 is discarded (R385). -/
def Tahr.put (t : Tahr) (r : BitVec 5) (v : W32) : Tahr :=
  if r = 0 then t else { t with g := Tab.set (fun _ => 0) t.g r.toNat v }

def Tahr.next (t : Tahr) : Tahr := { t with pc := t.pc + 4 }

/-- CSTATE.EVIE and CSTATE.HND. -/
def Tahr.evie (t : Tahr) : Bool := t.cstate.getLsbD 0
def Tahr.hnd (t : Tahr) : Bool := t.cstate.getLsbD 1

/-- Events that wake WFE and raise exception 0x09. -/
def Tahr.pendingEvents (t : Tahr) : W32 := t.events &&& t.evmask

def ctrlBytes : Nat := 0x20_0000
def localBase : Nat := 0x1000_0000
def localEnd : Nat := 0x1004_0000
def regWinBase : Nat := 0x2000_0000
def farBase : Nat := 0x4000_0000

/-- Core cycles at 1.2 GHz in a number of 156.25 MHz fabric-clock cycles. (Log entry 181: DESIGN CHOICE, unsafe.) -/
def coreCycles (n : Nat) : Nat := n * 192 / 25

/-- The core runs instructions: it has started, it is in service, and it has neither stopped after a double fault nor
been halted for the debugger. -/
def State.coreUp (s : State) (c : Nat) : Bool :=
  let st := s.gf (CORE_STATUS c) CORE_STATUS_STATE
  let t := s.tahrOf c
  (st == 1 || st == 2) && t.started && !t.stopped && !t.halted

/-- An event exception is due (R401). -/
def Tahr.eventDue (t : Tahr) : Bool := t.evie && t.pendingEvents != 0

/-- The core takes its next instruction now: it does not wait in WFE, and no event exception goes first. -/
def State.coreRuns (s : State) (c : Nat) : Bool :=
  let t := s.tahrOf c
  s.coreUp c && !t.eventDue && !(t.waiting && t.pendingEvents == 0)

/-! ### Exceptions (R400) -/

/-- Exception entry: XPC, XCAUSE, XADDR and XSTATE are saved, CSTATE becomes HND and PC the vector; any cause but 0x09 in a
handler is a double fault, and the core stops fetching. -/
def Tahr.except (t : Tahr) (cause : Nat) (xaddr : W32) : Tahr :=
  if t.hnd ∧ cause ≠ 9 then { t with stopped := true }
  else { t with
    xpc := t.pc, xcause := BitVec.ofNat 32 cause, xaddr := xaddr, xstate := t.cstate, cstate := 2
    pc := t.vbase + BitVec.ofNat 32 (cause * 0x10), waiting := false }

def State.except (s : State) (c cause : Nat) (xaddr : W32) : State :=
  s.setTahr c ((s.tahrOf c).except cause xaddr)

/-- R401: the event exception, taken between two instructions. -/
def execEventException (c : Fin 32) (s : State) : Res :=
  let t := s.tahrOf c.val
  if s.coreUp c.val && t.eventDue then ok (s.except c.val 9 t.pendingEvents) else ok s

/-- TIMER as it stands now. (Log entry 181: DESIGN CHOICE, unsafe.) -/
def State.timerNow (s : State) (c : Nat) : Nat :=
  let t := s.tahrOf c
  t.timer.toNat - coreCycles (s.clock - t.timerAt)

/-- R401: TIMER has reached zero; it sets EVENTS bit 0 and stops. -/
def execTimerExpiry (c : Fin 32) (s : State) : Res :=
  let t := s.tahrOf c.val
  if s.coreUp c.val && t.timer != 0 && s.timerNow c.val == 0 then
    ok (s.setTahr c.val { t with timer := 0, timerAt := s.clock, events := t.events ||| 1 })
  else ok s

/-! ### ECC of a core's memories (R400, R436) -/

def coreMarkKey (c a : Nat) : Nat := c * 2 ^ 32 + a
def State.coreMark (s : State) (c a : Nat) : Mark := Tab.get markClean s.flt.coreMarks (coreMarkKey c (a / 4 * 4))
def State.setCoreMark (s : State) (c a : Nat) (m : Mark) : State :=
  { s with flt := { s.flt with coreMarks := Tab.set markClean s.flt.coreMarks (coreMarkKey c (a / 4 * 4)) m } }

/-- The check of one word on a read: a corrected error is reported and the access proceeds; an uncorrected one is
reported and the answer is true. -/
def State.coreEcc (s : State) (c a : Nat) : Bool × State :=
  let inj := s.wasInjected 4 c (a / 4 * 4)
  match s.coreMark c a with
  | .corrected => (false, ((s.fault 0x13 c a inj).setCoreMark c a .clean).dropInjected 4 c (a / 4 * 4))
  | .uncorrected => (true, s.fault 0x14 c a inj)
  | _ => (false, s)

/-! ### Memory (R387, R388, R394) -/

def State.ctrlRead (s : State) (c a n : Nat) : List Byte :=
  (List.range n).map (fun i => Tab.get memZero s.ctrl ((s.tahrOf c).half * ctrlBytes + a + i))

def Tahr.localRead (t : Tahr) (o n : Nat) : List Byte := (List.range n).map (fun i => Tab.get memZero t.localMem (o + i))

def Tahr.localPut (t : Tahr) (o : Nat) (bs : List Byte) : Tahr :=
  { t with localMem := ((List.range bs.length).zip bs).foldl (fun m p => Tab.set memZero m (o + p.1) p.2) t.localMem }

/-- A store to local memory gives its word new check bits; an injection armed there goes with it. -/
def State.localWrite (s : State) (c a : Nat) (bs : List Byte) : State :=
  let s := s.setTahr c ((s.tahrOf c).localPut (a - localBase) bs)
  let s := s.setCoreMark c a .clean
  match s.takeInjection 4 c (a / 4 * 4) with
  | (some f, s) => s.setCoreMark c a (flipMark f)
  | (none, s) => s

/-- Where a core address lies (R387). -/
inductive CoreTarget where
  | ctrl | local_ | regs (off : Nat) | far (addr : Nat) | none
deriving DecidableEq, Repr

def Tahr.target (t : Tahr) (a : Nat) : CoreTarget :=
  if a < ctrlBytes then .ctrl
  else if localBase ≤ a ∧ a < localEnd then .local_
  else if regWinBase ≤ a ∧ a < regWinBase + 0x200_0000 then .regs (a - regWinBase)
  else if farBase ≤ a ∧ a < 2 * farBase then
    let g := (Tab.get (fun _ => (0 : W32)) t.seg ((a - farBase) / 2 ^ 26)).toNat
    if bitAt g 31 then .far (g % 2 ^ 26 * 2 ^ 26 + a % 2 ^ 26) else .none
  else .none

/-- Cause of a load's access error: an access fault, or a data error. -/
def loadCause : MemErr → Nat
  | .poison => 0x0A
  | .uncorrected => 0x0A
  | _ => 0x05

/-- A load of `n` aligned bytes: the exception cause it raises, or its bytes. (Log entry 182: DEDUCED, unsafe.) -/
def State.coreLoad (s : State) (c a n : Nat) : Option Nat × List Byte × State :=
  let checked (bs : List Byte) : Option Nat × List Byte × State :=
    let (bad, s) := s.coreEcc c a
    (if bad then some 0x0A else none, bs, s)
  match (s.tahrOf c).target a with
  | .ctrl => checked (s.ctrlRead c a n)
  | .local_ => checked ((s.tahrOf c).localRead (a - localBase) n)
  | .regs off =>
    match regLoad (.core (Fin.ofNat 33 c)) off n s with
    | (e, bs, s) => (e.map loadCause, bs, s)
  | .far d =>
    match s.busLoad (.core (Fin.ofNat 33 c)) d n with
    | (e, bs, s) => (e.map loadCause, bs, s)
  | .none => (some 0x05, [], s)

/-- A store of aligned bytes: whether it raises a store access fault. (Log entry 182: DEDUCED, unsafe.) -/
def State.coreStore (s : State) (c a : Nat) (bs : List Byte) : Bool × State :=
  match (s.tahrOf c).target a with
  | .local_ => (false, s.localWrite c a bs)
  | .regs off =>
    if bs.length = 4 then
      match regStore (.core (Fin.ofNat 33 c)) off bs s with
      | (e, s) => (e.isSome, s)
    else (true, s)
  | .far d =>
    match s.busStore (.core (Fin.ofNat 33 c)) d bs false with
    | (e, s) => (e.isSome, s)
  | _ => (true, s)

/-! ### Running one instruction -/

/-- Words of the formats. (Log entry 180: DESIGN CHOICE, safe.) -/
def wordA (major : Nat) (d a b sh : BitVec 5) (fn : Nat) : W32 :=
  BitVec.ofNat 32 (major + d.toNat * 2 ^ 6 + a.toNat * 2 ^ 11 + b.toNat * 2 ^ 16 + sh.toNat * 2 ^ 21 + fn * 2 ^ 26)
/-- (Log entry 180: DESIGN CHOICE, safe.) -/
def wordI (major : Nat) (d a : BitVec 5) (imm : BitVec 16) : W32 :=
  BitVec.ofNat 32 (major + d.toNat * 2 ^ 6 + a.toNat * 2 ^ 11 + imm.toNat * 2 ^ 16)
/-- (Log entry 180: DESIGN CHOICE, safe.) -/
def wordM (major : Nat) (t a : BitVec 5) (mode : BitVec 3) (f : BitVec 13) : W32 :=
  BitVec.ofNat 32 (major + t.toNat * 2 ^ 6 + a.toNat * 2 ^ 11 + mode.toNat * 2 ^ 16 + f.toNat * 2 ^ 19)
/-- (Log entry 180: DESIGN CHOICE, safe.) -/
def wordS (fn : Nat) (d a : BitVec 5) (n : BitVec 12) : W32 :=
  BitVec.ofNat 32 (0x3F + d.toNat * 2 ^ 6 + a.toNat * 2 ^ 11 + fn * 2 ^ 16 + n.toNat * 2 ^ 20)

/-- Core `c` runs an instruction: it is fetched at PC (a misaligned PC, a PC outside control memory or an uncorrected word
raises the fetch exceptions), a reserved encoding raises exception 0x01 with the word, any other has its effect. (Log
entry 180: DESIGN CHOICE, safe.) -/
def runCore (c : Fin 32) (word : W32) (reserved : Bool) (body : State → State) (s : State) : Res :=
  if !s.coreRuns c.val then ok s
  else
    let s := s.setTahr c.val { s.tahrOf c.val with waiting := false }
    let pc := (s.tahrOf c.val).pc
    if pc.toNat % 4 ≠ 0 then ok (s.except c.val 2 pc)
    else if pc.toNat ≥ ctrlBytes then ok (s.except c.val 3 pc)
    else match s.coreEcc c.val pc.toNat with
      | (true, s) => ok (s.except c.val 3 pc)
      | (false, s) => if reserved then ok (s.except c.val 1 word) else ok (body s)

/-! ### Register and immediate operations (R390, R391) -/

/-- A register operation: g(d) from g(a) and g(b). -/
def regOp (c : Fin 32) (fn : Nat) (d a b sh : BitVec 5) (f : W32 → W32 → W32) (s : State) : Res :=
  runCore c (wordA 0 d a b sh fn) (sh != 0)
    (fun s => let t := s.tahrOf c.val; s.setTahr c.val (t.put d (f (t.reg a) (t.reg b))).next) s

/-- A shift by sh. -/
def shiftOp (c : Fin 32) (fn : Nat) (d a b sh : BitVec 5) (f : W32 → Nat → W32) (s : State) : Res :=
  runCore c (wordA 0 d a b sh fn) false
    (fun s => let t := s.tahrOf c.val; s.setTahr c.val (t.put d (f (t.reg a) sh.toNat)).next) s

/-- 1 or 0. -/
def w1 (b : Bool) : W32 := if b then 1 else 0

def divS (x y : W32) : W32 :=
  if y = 0 then BitVec.allOnes 32 else BitVec.ofInt 32 (Int.tdiv x.toInt y.toInt)
def remS (x y : W32) : W32 := if y = 0 then x else BitVec.ofInt 32 (Int.tmod x.toInt y.toInt)
def divU (x y : W32) : W32 := if y = 0 then BitVec.allOnes 32 else x / y
def remU (x y : W32) : W32 := if y = 0 then x else x % y
def mulHU (x y : W32) : W32 := BitVec.ofNat 32 (x.toNat * y.toNat / 2 ^ 32)
def mulHS (x y : W32) : W32 := BitVec.ofInt 32 (x.toInt * y.toInt / (2 ^ 32 : Int))
def clz32 (x : W32) : W32 := if x = 0 then 32 else BitVec.ofNat 32 (31 - Nat.log2 x.toNat)
def popc32 (x : W32) : W32 := BitVec.ofNat 32 ((List.range 32).countP (fun i => x.getLsbD i))

def execAdd (c : Fin 32) (d a b sh : BitVec 5) (s : State) : Res := regOp c 0x01 d a b sh (fun x y => x + y) s
def execSub (c : Fin 32) (d a b sh : BitVec 5) (s : State) : Res := regOp c 0x02 d a b sh (fun x y => x - y) s
def execAnd (c : Fin 32) (d a b sh : BitVec 5) (s : State) : Res := regOp c 0x03 d a b sh (fun x y => x &&& y) s
def execOr (c : Fin 32) (d a b sh : BitVec 5) (s : State) : Res := regOp c 0x04 d a b sh (fun x y => x ||| y) s
def execXor (c : Fin 32) (d a b sh : BitVec 5) (s : State) : Res := regOp c 0x05 d a b sh (fun x y => x ^^^ y) s
def execShl (c : Fin 32) (d a b sh : BitVec 5) (s : State) : Res :=
  regOp c 0x06 d a b sh (fun x y => x <<< (y.toNat % 32)) s
def execShr (c : Fin 32) (d a b sh : BitVec 5) (s : State) : Res :=
  regOp c 0x07 d a b sh (fun x y => x >>> (y.toNat % 32)) s
def execSar (c : Fin 32) (d a b sh : BitVec 5) (s : State) : Res :=
  regOp c 0x08 d a b sh (fun x y => x.sshiftRight (y.toNat % 32)) s
def execShli (c : Fin 32) (d a b sh : BitVec 5) (s : State) : Res := shiftOp c 0x09 d a b sh (fun x n => x <<< n) s
def execShri (c : Fin 32) (d a b sh : BitVec 5) (s : State) : Res := shiftOp c 0x0A d a b sh (fun x n => x >>> n) s
def execSari (c : Fin 32) (d a b sh : BitVec 5) (s : State) : Res :=
  shiftOp c 0x0B d a b sh (fun x n => x.sshiftRight n) s
def execCmplt (c : Fin 32) (d a b sh : BitVec 5) (s : State) : Res := regOp c 0x0C d a b sh (fun x y => w1 (x.slt y)) s
def execCmpltu (c : Fin 32) (d a b sh : BitVec 5) (s : State) : Res := regOp c 0x0D d a b sh (fun x y => w1 (x.ult y)) s
def execMul (c : Fin 32) (d a b sh : BitVec 5) (s : State) : Res := regOp c 0x0E d a b sh (fun x y => x * y) s
def execMulhu (c : Fin 32) (d a b sh : BitVec 5) (s : State) : Res := regOp c 0x0F d a b sh mulHU s
def execMulhs (c : Fin 32) (d a b sh : BitVec 5) (s : State) : Res := regOp c 0x10 d a b sh mulHS s
def execDivu (c : Fin 32) (d a b sh : BitVec 5) (s : State) : Res := regOp c 0x11 d a b sh divU s
def execRemu (c : Fin 32) (d a b sh : BitVec 5) (s : State) : Res := regOp c 0x12 d a b sh remU s
def execDiv (c : Fin 32) (d a b sh : BitVec 5) (s : State) : Res := regOp c 0x13 d a b sh divS s
def execRem (c : Fin 32) (d a b sh : BitVec 5) (s : State) : Res := regOp c 0x14 d a b sh remS s
def execClz (c : Fin 32) (d a b sh : BitVec 5) (s : State) : Res := regOp c 0x15 d a b sh (fun x _ => clz32 x) s
def execPopc (c : Fin 32) (d a b sh : BitVec 5) (s : State) : Res := regOp c 0x16 d a b sh (fun x _ => popc32 x) s

/-- An immediate operation. -/
def immOp (c : Fin 32) (major : Nat) (d a : BitVec 5) (imm : BitVec 16) (reserved : Bool) (f : W32 → W32) (s : State) : Res :=
  runCore c (wordI major d a imm) reserved
    (fun s => let t := s.tahrOf c.val; s.setTahr c.val (t.put d (f (t.reg a))).next) s

def execAddi (c : Fin 32) (d a : BitVec 5) (imm : BitVec 16) (s : State) : Res :=
  immOp c 0x10 d a imm false (fun x => x + imm.signExtend 32) s
def execAndi (c : Fin 32) (d a : BitVec 5) (imm : BitVec 16) (s : State) : Res :=
  immOp c 0x11 d a imm false (fun x => x &&& imm.zeroExtend 32) s
def execOri (c : Fin 32) (d a : BitVec 5) (imm : BitVec 16) (s : State) : Res :=
  immOp c 0x12 d a imm false (fun x => x ||| imm.zeroExtend 32) s
def execXori (c : Fin 32) (d a : BitVec 5) (imm : BitVec 16) (s : State) : Res :=
  immOp c 0x13 d a imm false (fun x => x ^^^ imm.zeroExtend 32) s
def execCmplti (c : Fin 32) (d a : BitVec 5) (imm : BitVec 16) (s : State) : Res :=
  immOp c 0x14 d a imm false (fun x => w1 (x.slt (imm.signExtend 32))) s
def execCmpltiu (c : Fin 32) (d a : BitVec 5) (imm : BitVec 16) (s : State) : Res :=
  immOp c 0x15 d a imm false (fun x => w1 (x.ult (imm.signExtend 32))) s
def execImmh (c : Fin 32) (d a : BitVec 5) (imm : BitVec 16) (s : State) : Res :=
  immOp c 0x16 d a imm (a != 0) (fun _ => imm.zeroExtend 32 <<< 16) s

/-! ### Branches and jumps (R396) -/

/-- PC goes to a target, with a link register written; a misaligned target or one outside control memory raises its
exception at the jump, which has no effect. (Log entry 183: DEDUCED, unsafe.) -/
def State.jump (s : State) (c : Nat) (target : W32) (link : Option (BitVec 5)) : State :=
  if target.toNat % 4 ≠ 0 then s.except c 2 target
  else if target.toNat ≥ ctrlBytes then s.except c 3 target
  else
    let t := s.tahrOf c
    let t := match link with
      | some r => t.put r (t.pc + 4)
      | none => t
    s.setTahr c { t with pc := target }

def execBrr (c : Fin 32) (d a b sh : BitVec 5) (s : State) : Res :=
  runCore c (wordA 0 d a b sh 0x17) (sh != 0 || d != 0) (fun s => s.jump c.val ((s.tahrOf c.val).reg a) none) s
def execCallr (c : Fin 32) (d a b sh : BitVec 5) (s : State) : Res :=
  runCore c (wordA 0 d a b sh 0x18) (sh != 0) (fun s => s.jump c.val ((s.tahrOf c.val).reg a) (some d)) s

/-- A conditional branch. -/
def branch (c : Fin 32) (major : Nat) (a b : BitVec 5) (off : BitVec 16) (cond : W32 → W32 → Bool) (s : State) : Res :=
  runCore c (wordI major a b off) false
    (fun s =>
      let t := s.tahrOf c.val
      if cond (t.reg a) (t.reg b) then s.jump c.val (t.pc + off.signExtend 32 * 4) none else s.setTahr c.val t.next) s

def execBreq (c : Fin 32) (a b : BitVec 5) (off : BitVec 16) (s : State) : Res := branch c 0x30 a b off (fun x y => x == y) s
def execBrne (c : Fin 32) (a b : BitVec 5) (off : BitVec 16) (s : State) : Res := branch c 0x31 a b off (fun x y => x != y) s
def execBrlt (c : Fin 32) (a b : BitVec 5) (off : BitVec 16) (s : State) : Res := branch c 0x32 a b off (fun x y => x.slt y) s
def execBrge (c : Fin 32) (a b : BitVec 5) (off : BitVec 16) (s : State) : Res := branch c 0x33 a b off (fun x y => !x.slt y) s
def execBrltu (c : Fin 32) (a b : BitVec 5) (off : BitVec 16) (s : State) : Res := branch c 0x34 a b off (fun x y => x.ult y) s
def execBrgeu (c : Fin 32) (a b : BitVec 5) (off : BitVec 16) (s : State) : Res := branch c 0x35 a b off (fun x y => !x.ult y) s

/-- Word of format J. (Log entry 180: DESIGN CHOICE, safe.) -/
def wordJ (major : Nat) (off : BitVec 26) : W32 := BitVec.ofNat 32 (major + off.toNat * 2 ^ 6)

def execJmp (c : Fin 32) (off : BitVec 26) (s : State) : Res :=
  runCore c (wordJ 0x38 off) false (fun s => s.jump c.val ((s.tahrOf c.val).pc + off.signExtend 32 * 4) none) s
def execCall (c : Fin 32) (off : BitVec 26) (s : State) : Res :=
  runCore c (wordJ 0x39 off) false
    (fun s => s.jump c.val ((s.tahrOf c.val).pc + off.signExtend 32 * 4) (some 28)) s

/-! ### Loads and stores (R392 to R394) -/

/-- Effective address, and the base writeback (R393). -/
def Tahr.address (t : Tahr) (a : BitVec 5) (mode : BitVec 3) (f : BitVec 13) : W32 × Option W32 :=
  let base := t.reg a
  match mode.toNat with
  | 0 => (base + f.signExtend 32, none)
  | 1 => (base, some (base + f.signExtend 32))
  | 2 => (base - f.zeroExtend 32, some (base - f.zeroExtend 32))
  | _ => (base + t.reg (f.extractLsb' 8 5) <<< (f.extractLsb' 6 2).toNat, none)

/-- Reserved encodings of a load or store. -/
def memReserved (load : Bool) (t a : BitVec 5) (mode : BitVec 3) (f : BitVec 13) : Bool :=
  decide (mode.toNat > 3) || (mode == 3 && f.extractLsb' 0 6 != 0) || (load && (mode == 1 || mode == 2) && t == a)

/-- The base register after the access, and PC past the instruction. -/
def Tahr.finish (t : Tahr) (a : BitVec 5) (wb : Option W32) : Tahr :=
  (match wb with
    | some v => t.put a v
    | none => t).next

/-- A load of `n` bytes, sign-extended or not. -/
def loadOp (c : Fin 32) (major n : Nat) (signed : Bool) (r a : BitVec 5) (mode : BitVec 3) (f : BitVec 13) (s : State) :
    Res :=
  runCore c (wordM major r a mode f) (memReserved true r a mode f)
    (fun s =>
      let (ea, wb) := (s.tahrOf c.val).address a mode f
      if ea.toNat % n ≠ 0 then s.except c.val 4 ea
      else match s.coreLoad c.val ea.toNat n with
        | (some cause, _, s) => s.except c.val cause ea
        | (none, bs, s) =>
          let v : W32 := if signed then BitVec.ofInt 32 (sext (8 * n) (leNat bs)) else BitVec.ofNat 32 (leNat bs)
          s.setTahr c.val (((s.tahrOf c.val).put r v).finish a wb)) s

/-- A store of the low `n` bytes of g(t), its value taken before the writeback. -/
def storeOp (c : Fin 32) (major n : Nat) (r a : BitVec 5) (mode : BitVec 3) (f : BitVec 13) (s : State) : Res :=
  runCore c (wordM major r a mode f) (memReserved false r a mode f)
    (fun s =>
      let t := s.tahrOf c.val
      let (ea, wb) := t.address a mode f
      if ea.toNat % n ≠ 0 then s.except c.val 4 ea
      else match s.coreStore c.val ea.toNat (leBytes n (t.reg r).toNat) with
        | (true, s) => s.except c.val 6 ea
        | (false, s) => s.setTahr c.val ((s.tahrOf c.val).finish a wb)) s

def execLdb (c : Fin 32) (t a : BitVec 5) (mode : BitVec 3) (f : BitVec 13) (s : State) : Res :=
  loadOp c 0x20 1 false t a mode f s
def execLdbs (c : Fin 32) (t a : BitVec 5) (mode : BitVec 3) (f : BitVec 13) (s : State) : Res :=
  loadOp c 0x21 1 true t a mode f s
def execLdh (c : Fin 32) (t a : BitVec 5) (mode : BitVec 3) (f : BitVec 13) (s : State) : Res :=
  loadOp c 0x22 2 false t a mode f s
def execLdhs (c : Fin 32) (t a : BitVec 5) (mode : BitVec 3) (f : BitVec 13) (s : State) : Res :=
  loadOp c 0x23 2 true t a mode f s
def execLdw (c : Fin 32) (t a : BitVec 5) (mode : BitVec 3) (f : BitVec 13) (s : State) : Res :=
  loadOp c 0x24 4 false t a mode f s
def execStb (c : Fin 32) (t a : BitVec 5) (mode : BitVec 3) (f : BitVec 13) (s : State) : Res :=
  storeOp c 0x25 1 t a mode f s
def execSth (c : Fin 32) (t a : BitVec 5) (mode : BitVec 3) (f : BitVec 13) (s : State) : Res :=
  storeOp c 0x26 2 t a mode f s
def execStw (c : Fin 32) (t a : BitVec 5) (mode : BitVec 3) (f : BitVec 13) (s : State) : Res :=
  storeOp c 0x27 4 t a mode f s

/-! ### Atomic operations (R395) -/

/-- Atomic operations are allowed only on local data memory and on HBM through a segment. -/
def Tahr.atomicOk (t : Tahr) (a : Nat) : Bool :=
  match t.target a with
  | .local_ => true
  | .far d => regionOf d == .hbm
  | _ => false

/-- A read-modify-write of the word at g(a): `f old g(b) g(d)` is the word after, none when it stays unchanged. -/
def atomicOp (c : Fin 32) (fn : Nat) (d a b sh : BitVec 5) (f : W32 → W32 → W32 → Option W32) (s : State) : Res :=
  runCore c (wordA 0x08 d a b sh fn) (sh != 0)
    (fun s =>
      let t := s.tahrOf c.val
      let ea := t.reg a
      if ea.toNat % 4 ≠ 0 then s.except c.val 4 ea
      else if !t.atomicOk ea.toNat then s.except c.val 6 ea
      else match s.coreLoad c.val ea.toNat 4 with
        | (some cause, _, s) => s.except c.val (if cause = 0x0A then 0x0A else 6) ea
        | (none, bs, s) =>
          let old : W32 := BitVec.ofNat 32 (leNat bs)
          let s := match f old (t.reg b) (t.reg d) with
            | some v => (s.coreStore c.val ea.toNat (leBytes 4 v.toNat)).2
            | none => s
          s.setTahr c.val ((s.tahrOf c.val).put d old).next) s

def execAtomicSwap (c : Fin 32) (d a b sh : BitVec 5) (s : State) : Res :=
  atomicOp c 0x01 d a b sh (fun _ x _ => some x) s
def execAadd (c : Fin 32) (d a b sh : BitVec 5) (s : State) : Res :=
  atomicOp c 0x02 d a b sh (fun old x _ => some (old + x)) s
def execAand (c : Fin 32) (d a b sh : BitVec 5) (s : State) : Res :=
  atomicOp c 0x03 d a b sh (fun old x _ => some (old &&& x)) s
def execAor (c : Fin 32) (d a b sh : BitVec 5) (s : State) : Res :=
  atomicOp c 0x04 d a b sh (fun old x _ => some (old ||| x)) s
def execCas (c : Fin 32) (d a b sh : BitVec 5) (s : State) : Res :=
  atomicOp c 0x05 d a b sh (fun old x y => if old = y then some x else none) s

/-! ### System operations (R397, R399) -/

/-- A system register: its value and the core after the read (CYCLE_LO latches CYCLE_HI); none when it is not listed.
(Log entry 181: DESIGN CHOICE, unsafe.) -/
def State.sysRead (s : State) (c n : Nat) : Option (W32 × Tahr) :=
  let t := s.tahrOf c
  let cyc := coreCycles (s.clock - t.startedAt)
  match n with
  | 0x000 => some (BitVec.ofNat 32 c, t)
  | 0x001 => some (t.xpc, t)
  | 0x002 => some (t.xcause, t)
  | 0x003 => some (t.xaddr, t)
  | 0x004 => some (t.xstate, t)
  | 0x005 => some (t.cstate, t)
  | 0x006 => some (t.vbase, t)
  | 0x007 => some (BitVec.ofNat 32 cyc, { t with cycleHi := BitVec.ofNat 32 (cyc / 2 ^ 32) })
  | 0x008 => some (t.cycleHi, t)
  | 0x009 => some (BitVec.ofNat 32 (s.timerNow c), t)
  | 0x00A => some (t.events, t)
  | 0x00B => some (t.evmask, t)
  | n => if 0x10 ≤ n ∧ n < 0x20 then some (Tab.get (fun _ => 0) t.seg (n - 0x10), t) else none

/-- A write of a system register; none when it is read-only or not listed. (Log entry 184: DEDUCED, unsafe.) -/
def State.sysWrite (s : State) (c n : Nat) (v : W32) : Option Tahr :=
  let t := s.tahrOf c
  match n with
  | 0x001 => some { t with xpc := v }
  | 0x002 => some { t with xcause := v &&& 0xFF }
  | 0x003 => some { t with xaddr := v }
  | 0x004 => some { t with xstate := v }
  | 0x005 => some { t with cstate := v &&& 3 }
  | 0x006 => some { t with vbase := v &&& 0xFFFFFF00 }
  | 0x009 => some { t with timer := v, timerAt := s.clock }
  | 0x00A => some { t with events := t.events &&& ~~~v }
  | 0x00B => some { t with evmask := v }
  | n => if 0x10 ≤ n ∧ n < 0x20 then some { t with seg := Tab.set (fun _ => 0) t.seg (n - 0x10) (v &&& 0x83FFFFFF) } else none

def execSread (c : Fin 32) (d a : BitVec 5) (n : BitVec 12) (s : State) : Res :=
  runCore c (wordS 0 d a n) (a != 0)
    (fun s => match s.sysRead c.val n.toNat with
      | some (v, t) => s.setTahr c.val (t.put d v).next
      | none => s.except c.val 0x0B (n.zeroExtend 32)) s

def execSwrite (c : Fin 32) (d a : BitVec 5) (n : BitVec 12) (s : State) : Res :=
  runCore c (wordS 1 d a n) (d != 0)
    (fun s => match s.sysWrite c.val n.toNat ((s.tahrOf c.val).reg a) with
      | some t => s.setTahr c.val t.next
      | none => s.except c.val 0x0B (n.zeroExtend 32)) s

/-- PC ← XPC; CSTATE ← XSTATE. (Log entry 184: DEDUCED, unsafe.) -/
def execResume (c : Fin 32) (d a : BitVec 5) (n : BitVec 12) (s : State) : Res :=
  runCore c (wordS 2 d a n) (d != 0 || a != 0 || n != 0)
    (fun s => let t := s.tahrOf c.val; s.setTahr c.val { t with pc := t.xpc, cstate := t.xstate &&& 3 }) s

/-- WFE passes at once when an event of EVMASK is pending; otherwise the core waits for one. -/
def execWfe (c : Fin 32) (d a : BitVec 5) (n : BitVec 12) (s : State) : Res :=
  runCore c (wordS 3 d a n) (d != 0 || a != 0 || n != 0)
    (fun s => let t := s.tahrOf c.val; s.setTahr c.val { t.next with waiting := t.pendingEvents == 0 }) s

/-- Every access of this model is complete when its command ends: FENCE passes. (Log entry 182: DEDUCED, unsafe.) -/
def execFence (c : Fin 32) (d a : BitVec 5) (n : BitVec 12) (s : State) : Res :=
  runCore c (wordS 4 d a n) (d != 0 || a != 0 || n != 0) (fun s => s.setTahr c.val (s.tahrOf c.val).next) s

def execTrap (c : Fin 32) (d a : BitVec 5) (n : BitVec 12) (s : State) : Res :=
  runCore c (wordS 5 d a n) (d != 0 || a != 0) (fun s => s.except c.val 7 (n.zeroExtend 32)) s

/-- BRK raises exception 0x08, or halts the core while debug scope [0] is in force. (Log entry 184: DEDUCED, unsafe.) -/
def execBrk (c : Fin 32) (d a : BitVec 5) (n : BitVec 12) (s : State) : Res :=
  runCore c (wordS 6 d a n) (d != 0 || a != 0 || n != 0)
    (fun s =>
      let t := s.tahrOf c.val
      if s.scope 0 then s.setTahr c.val { t with halted := true } else s.except c.val 8 t.pc) s

end Sys2Proof.Machine
end

