-- ==== Sys2Proof/Machine/Dispatch.lean ====
section
/-! DEFINITION. The dispatch: one arm per row of the opcode table, each a direct call of that row's meaning. -/

namespace Sys2Proof.Machine

/-- (Log entries 1: DESIGN CHOICE, safe; 3: DESIGN CHOICE, safe.) -/
def exec (i : Instr) (s : State) : Host.Outcome State Fault Refusal :=
  match i with
  | .registerWrite q space off data => Sys2Proof.Machine.execRegisterWrite q space off data s
  | .perstN high straps => Sys2Proof.Machine.execPerstN high straps s
  | .hotReset => Sys2Proof.Machine.execHotReset s
  | .dlDown => Sys2Proof.Machine.execDlDown s
  | .devReset q v => Sys2Proof.Machine.execDevReset q v s
  | .alwaysOnPowerUp => Sys2Proof.Machine.execAlwaysOnPowerUp s
  | .mainRailUndervoltage rail mv => Sys2Proof.Machine.execMainRailUndervoltage rail mv s
  | .referenceClockLoss unit ppm => Sys2Proof.Machine.execReferenceClockLoss unit ppm s
  | .cluCmdBaseWrite q c hi v => Sys2Proof.Machine.execCluCmdBaseWrite q c hi v s
  | .cluCmplBaseWrite q c hi v => Sys2Proof.Machine.execCluCmplBaseWrite q c hi v s
  | .cmdEnSet q c v => Sys2Proof.Machine.execCmdEnSet q c v s
  | .cmdEnClear q c v => Sys2Proof.Machine.execCmdEnClear q c v s
  | .cmplEnSet q c v => Sys2Proof.Machine.execCmplEnSet q c v s
  | .cmplEnClear q c v => Sys2Proof.Machine.execCmplEnClear q c v s
  | .cluDb q c v => Sys2Proof.Machine.execCluDb q c v s
  | .cluCmplHeadWrite q c v => Sys2Proof.Machine.execCluCmplHeadWrite q c v s
  | .haltedResume q c v => Sys2Proof.Machine.execHaltedResume q c v s
  | .descriptorFetch c => Sys2Proof.Machine.execDescriptorFetch c s
  | .descriptorIssue c => Sys2Proof.Machine.execDescriptorIssue c s
  | .descriptorComplete c ix => Sys2Proof.Machine.execDescriptorComplete c ix s
  | .nop c => Sys2Proof.Machine.execNop c s
  | .barEnter c => Sys2Proof.Machine.execBarEnter c s
  | .mma c => Sys2Proof.Machine.execMma c s
  | .vecBin c => Sys2Proof.Machine.execVecBin c s
  | .vecFma c => Sys2Proof.Machine.execVecFma c s
  | .vecUn c => Sys2Proof.Machine.execVecUn c s
  | .vecRed c => Sys2Proof.Machine.execVecRed c s
  | .vecTopk c => Sys2Proof.Machine.execVecTopk c s
  | .vecRand c => Sys2Proof.Machine.execVecRand c s
  | .sfu c => Sys2Proof.Machine.execSfu c s
  | .cvt c => Sys2Proof.Machine.execCvt c s
  | .dmaCopy c mover => Sys2Proof.Machine.execDmaCopy c mover s
  | .dma2d c mover => Sys2Proof.Machine.execDma2d c mover s
  | .dmaGather c mover => Sys2Proof.Machine.execDmaGather c mover s
  | .dmaScatter c mover => Sys2Proof.Machine.execDmaScatter c mover s
  | .dmaFill c mover => Sys2Proof.Machine.execDmaFill c mover s
  | .targetWrite q c v => Sys2Proof.Machine.execTargetWrite q c v s
  | .hazeEntry c => Sys2Proof.Machine.execHazeEntry c s
  | .overcastEntry c => Sys2Proof.Machine.execOvercastEntry c s
  | .overcastEntryDone c => Sys2Proof.Machine.execOvercastEntryDone c s
  | .overcastWake q c cause => Sys2Proof.Machine.execOvercastWake q c cause s
  | .overcastWakeDone c => Sys2Proof.Machine.execOvercastWakeDone c s
  | .busMasterEnableClear => Sys2Proof.Machine.execBusMasterEnableClear s
  | .busMasterEnableSet => Sys2Proof.Machine.execBusMasterEnableSet s
  | .flagSet f m => Sys2Proof.Machine.execFlagSet f m s
  | .flagClear f m => Sys2Proof.Machine.execFlagClear f m s
  | .flagWait who f m => Sys2Proof.Machine.execFlagWait who f m s
  | .flagWaitAndClear who f m => Sys2Proof.Machine.execFlagWaitAndClear who f m s
  | .flagClearOverset f m => Sys2Proof.Machine.execFlagClearOverset f m s
  | .flagTranslationFetch cache ctx vgroup => Sys2Proof.Machine.execFlagTranslationFetch cache ctx vgroup s
  | .flgEnSet q v => Sys2Proof.Machine.execFlgEnSet q v s
  | .flgEnClear q v => Sys2Proof.Machine.execFlgEnClear q v s
  | .flgInval q v => Sys2Proof.Machine.execFlgInval q v s
  | .flgInvalDone => Sys2Proof.Machine.execFlgInvalDone s
  | .flgSignalSet q p => Sys2Proof.Machine.execFlgSignalSet q p s
  | .flgSignalClear q p => Sys2Proof.Machine.execFlgSignalClear q p s
  | .flgSignalClearOverset q p => Sys2Proof.Machine.execFlgSignalClearOverset q p s
  | .barrierEntry b gap => Sys2Proof.Machine.execBarrierEntry b gap s
  | .roundClose b => Sys2Proof.Machine.execRoundClose b s
  | .barEnSet q b v => Sys2Proof.Machine.execBarEnSet q b v s
  | .barEnClear q b v => Sys2Proof.Machine.execBarEnClear q b v s
  | .colEnSet q v => Sys2Proof.Machine.execColEnSet q v s
  | .colEnClear q v => Sys2Proof.Machine.execColEnClear q v s
  | .colGrpLoad q v => Sys2Proof.Machine.execColGrpLoad q v s
  | .colGrpUnload q v => Sys2Proof.Machine.execColGrpUnload q v s
  | .colGrpZeroResiduals q v => Sys2Proof.Machine.execColGrpZeroResiduals q v s
  | .colGrpLoadDone => Sys2Proof.Machine.execColGrpLoadDone s
  | .colDb q n v => Sys2Proof.Machine.execColDb q n v s
  | .colCmdBaseWrite q n hi v => Sys2Proof.Machine.execColCmdBaseWrite q n hi v s
  | .colCmplBaseWrite q n hi v => Sys2Proof.Machine.execColCmplBaseWrite q n hi v s
  | .colCmdEnSet q n v => Sys2Proof.Machine.execColCmdEnSet q n v s
  | .colCmdEnClear q n v => Sys2Proof.Machine.execColCmdEnClear q n v s
  | .colCmplEnSet q n v => Sys2Proof.Machine.execColCmplEnSet q n v s
  | .colCmplHeadWrite q n v => Sys2Proof.Machine.execColCmplHeadWrite q n v s
  | .colHaltedResume q n v => Sys2Proof.Machine.execColHaltedResume q n v s
  | .collectiveActivate n => Sys2Proof.Machine.execCollectiveActivate n s
  | .collectiveNop n => Sys2Proof.Machine.execCollectiveNop n s
  | .reduceScatter g => Sys2Proof.Machine.execReduceScatter g s
  | .allGather g => Sys2Proof.Machine.execAllGather g s
  | .allReduce g => Sys2Proof.Machine.execAllReduce g s
  | .dispatch g => Sys2Proof.Machine.execDispatch g s
  | .combine g => Sys2Proof.Machine.execCombine g s
  | .chunkSend g port others gap => Sys2Proof.Machine.execChunkSend g port others gap s
  | .collectiveData conn msn => Sys2Proof.Machine.execCollectiveData conn msn s
  | .ready conn msn => Sys2Proof.Machine.execReady conn msn s
  | .abort conn msn => Sys2Proof.Machine.execAbort conn msn s
  | .collectiveTimeout g => Sys2Proof.Machine.execCollectiveTimeout g s
  | .abortDrainDone g => Sys2Proof.Machine.execAbortDrainDone g s
  | .collectiveComplete n ix => Sys2Proof.Machine.execCollectiveComplete n ix s
  | .slotCommit q v => Sys2Proof.Machine.execSlotCommit q v s
  | .slotCancel q v => Sys2Proof.Machine.execSlotCancel q v s
  | .slotListTakeover => Sys2Proof.Machine.execSlotListTakeover s
  | .slotBoundary => Sys2Proof.Machine.execSlotBoundary s
  | .synColGroupCreate r g rec_ members => Sys2Proof.Machine.execSynColGroupCreate r g rec_ members s
  | .synColGroupDestroy r g => Sys2Proof.Machine.execSynColGroupDestroy r g s
  | .synColGroupRebind r g rank entry epoch => Sys2Proof.Machine.execSynColGroupRebind r g rank entry epoch s
  | .synColSchedLoad r basetime entries => Sys2Proof.Machine.execSynColSchedLoad r basetime entries s
  | .synColAbort r g => Sys2Proof.Machine.execSynColAbort r g s
  | .synColQuery r g buffer => Sys2Proof.Machine.execSynColQuery r g buffer s
  | .kvEnSet q v => Sys2Proof.Machine.execKvEnSet q v s
  | .kvEnClear q v => Sys2Proof.Machine.execKvEnClear q v s
  | .kvJobEnSet q v => Sys2Proof.Machine.execKvJobEnSet q v s
  | .kvDoneEnSet q v => Sys2Proof.Machine.execKvDoneEnSet q v s
  | .kvRingBaseWrite q done hi v => Sys2Proof.Machine.execKvRingBaseWrite q done hi v s
  | .kvJobHeadWrite q v => Sys2Proof.Machine.execKvJobHeadWrite q v s
  | .kvDoneDb q v => Sys2Proof.Machine.execKvDoneDb q v s
  | .jobPost => Sys2Proof.Machine.execJobPost s
  | .jobDone => Sys2Proof.Machine.execJobDone s
  | .tokenAdvance => Sys2Proof.Machine.execTokenAdvance s
  | .kvContextFetch stream => Sys2Proof.Machine.execKvContextFetch stream s
  | .pushDeadlineMiss stream layer => Sys2Proof.Machine.execPushDeadlineMiss stream layer s
  | .completionFlagWrite port off len => Sys2Proof.Machine.execCompletionFlagWrite port off len s
  | .upstreamRequest port addr wr len data => Sys2Proof.Machine.execUpstreamRequest port addr wr len data s
  | .synStreamOpen r cls stream pick table => Sys2Proof.Machine.execSynStreamOpen r cls stream pick table s
  | .synStreamClose r stream gen => Sys2Proof.Machine.execSynStreamClose r stream gen s
  | .synStreamResume r stream gen t0 k0 => Sys2Proof.Machine.execSynStreamResume r stream gen t0 k0 s
  | .synStreamPark r stream gen => Sys2Proof.Machine.execSynStreamPark r stream gen s
  | .synStreamMove r stream gen first count tier => Sys2Proof.Machine.execSynStreamMove r stream gen first count tier s
  | .synStreamQuery r stream gen => Sys2Proof.Machine.execSynStreamQuery r stream gen s
  | .synStreamRetry r stream gen => Sys2Proof.Machine.execSynStreamRetry r stream gen s
  | .synKvClassSet r cls rec => Sys2Proof.Machine.execSynKvClassSet r cls rec s
  | .synKvProfileLoad r port rec => Sys2Proof.Machine.execSynKvProfileLoad r port rec s
  | .synKvProfileUnload r port => Sys2Proof.Machine.execSynKvProfileUnload r port s
  | .launch cohort prefill => Sys2Proof.Machine.execLaunch cohort prefill s
  | .tailDone cohort port => Sys2Proof.Machine.execTailDone cohort port s
  | .tailLimitExpiry cohort => Sys2Proof.Machine.execTailLimitExpiry cohort s
  | .sampling cohort => Sys2Proof.Machine.execSampling cohort s
  | .draftStep cohort j order => Sys2Proof.Machine.execDraftStep cohort j order s
  | .tokenRecordRelease => Sys2Proof.Machine.execTokenRecordRelease s
  | .elandIdleTimeout => Sys2Proof.Machine.execElandIdleTimeout s
  | .synElandConfig r c => Sys2Proof.Machine.execSynElandConfig r c s
  | .synElandPortSet r port rec => Sys2Proof.Machine.execSynElandPortSet r port rec s
  | .synElandDraftLoad r addr len => Sys2Proof.Machine.execSynElandDraftLoad r addr len s
  | .synElandAttach r stream gen f a => Sys2Proof.Machine.execSynElandAttach r stream gen f a s
  | .synElandDetach r stream gen => Sys2Proof.Machine.execSynElandDetach r stream gen s
  | .synElandSet r stream gen f maxTokens stops => Sys2Proof.Machine.execSynElandSet r stream gen f maxTokens stops s
  | .synElandQuery r stream gen => Sys2Proof.Machine.execSynElandQuery r stream gen s
  | .synElandStats r => Sys2Proof.Machine.execSynElandStats r s
  | .hbmRead src addr more gap => Sys2Proof.Machine.execHbmRead src addr more gap s
  | .hbmWrite src addr data poison more gap => Sys2Proof.Machine.execHbmWrite src addr data poison more gap s
  | .scrubRead g more gap => Sys2Proof.Machine.execScrubRead g more gap s
  | .refreshDue g inGap => Sys2Proof.Machine.execRefreshDue g inGap s
  | .allBankRefresh g => Sys2Proof.Machine.execAllBankRefresh g s
  | .hbmTempUpdate stack celsius => Sys2Proof.Machine.execHbmTempUpdate stack celsius s
  | .selfRefreshEntry stack => Sys2Proof.Machine.execSelfRefreshEntry stack s
  | .srReqClear q v => Sys2Proof.Machine.execSrReqClear q v s
  | .hbmTrainingDone stack failed => Sys2Proof.Machine.execHbmTrainingDone stack failed s
  | .hbmReady => Sys2Proof.Machine.execHbmReady s
  | .arbWindowStart g => Sys2Proof.Machine.execArbWindowStart g s
  | .arbCommit q v => Sys2Proof.Machine.execArbCommit q v s
  | .arbModeLoad q v => Sys2Proof.Machine.execArbModeLoad q v s
  | .arbFreeze q v => Sys2Proof.Machine.execArbFreeze q v s
  | .arbUnfreeze q v => Sys2Proof.Machine.execArbUnfreeze q v s
  | .arbChannelDrained g => Sys2Proof.Machine.execArbChannelDrained g s
  | .fabEnSet q v => Sys2Proof.Machine.execFabEnSet q v s
  | .fabEnClear q v => Sys2Proof.Machine.execFabEnClear q v s
  | .portEnable q p v => Sys2Proof.Machine.execPortEnable q p v s
  | .portUp p spare => Sys2Proof.Machine.execPortUp p spare s
  | .trainFail p => Sys2Proof.Machine.execTrainFail p s
  | .portDisable q p v => Sys2Proof.Machine.execPortDisable q p v s
  | .retrain q p v => Sys2Proof.Machine.execRetrain q p v s
  | .laneFailed lane => Sys2Proof.Machine.execLaneFailed lane s
  | .laneMapRepeat p => Sys2Proof.Machine.execLaneMapRepeat p s
  | .laneMapSwitch p => Sys2Proof.Machine.execLaneMapSwitch p s
  | .portDownRetrain p => Sys2Proof.Machine.execPortDownRetrain p s
  | .codeword lane ccw uncorrectable corrected cells => Sys2Proof.Machine.execCodeword lane ccw uncorrectable corrected cells s
  | .frame p tc enc bytes lost => Sys2Proof.Machine.execFrame p tc enc bytes lost s
  | .credit p counts => Sys2Proof.Machine.execCredit p counts s
  | .laneMap p mapId lanes switchSeq => Sys2Proof.Machine.execLaneMap p mapId lanes switchSeq s
  | .keySwitch p an => Sys2Proof.Machine.execKeySwitch p an s
  | .caps p form enc node port => Sys2Proof.Machine.execCaps p form enc node port s
  | .creditSend p => Sys2Proof.Machine.execCreditSend p s
  | .encSwitch q p v => Sys2Proof.Machine.execEncSwitch q p v s
  | .pfcFrame p enable quanta => Sys2Proof.Machine.execPfcFrame p enable quanta s
  | .pfcRepeat p => Sys2Proof.Machine.execPfcRepeat p s
  | .pauseExpiry p c => Sys2Proof.Machine.execPauseExpiry p c s
  | .pauseStuck p c => Sys2Proof.Machine.execPauseStuck p c s
  | .synLinkPortSet r p mode enc alloc headroom keys => Sys2Proof.Machine.execSynLinkPortSet r p mode enc alloc headroom keys s
  | .synLinkPortDisable r p => Sys2Proof.Machine.execSynLinkPortDisable r p s
  | .synLinkKeySwitch r p slot => Sys2Proof.Machine.execSynLinkKeySwitch r p slot s
  | .synLinkRetrain r p => Sys2Proof.Machine.execSynLinkRetrain r p s
  | .synLinkQuery r p => Sys2Proof.Machine.execSynLinkQuery r p s
  | .write src => Sys2Proof.Machine.execWrite src s
  | .read src => Sys2Proof.Machine.execRead src s
  | .send src => Sys2Proof.Machine.execSend src s
  | .messageStart conn => Sys2Proof.Machine.execMessageStart conn s
  | .writePacket pkt => Sys2Proof.Machine.execWritePacket pkt s
  | .sendPacket pkt => Sys2Proof.Machine.execSendPacket pkt s
  | .readReq pkt => Sys2Proof.Machine.execReadReq pkt s
  | .readResp pkt => Sys2Proof.Machine.execReadResp pkt s
  | .ack pkt done => Sys2Proof.Machine.execAck pkt done s
  | .nak pkt => Sys2Proof.Machine.execNak pkt s
  | .messageComplete conn msn => Sys2Proof.Machine.execMessageComplete conn msn s
  | .retransmitTimeout conn => Sys2Proof.Machine.execRetransmitTimeout conn s
  | .holeTimerExpiry conn => Sys2Proof.Machine.execHoleTimerExpiry conn s
  | .ackTimerExpiry conn => Sys2Proof.Machine.execAckTimerExpiry conn s
  | .rnrRetry conn => Sys2Proof.Machine.execRnrRetry conn s
  | .connectionContextFetch conn readError => Sys2Proof.Machine.execConnectionContextFetch conn readError s
  | .trnEnSet q v => Sys2Proof.Machine.execTrnEnSet q v s
  | .trnEnClear q v => Sys2Proof.Machine.execTrnEnClear q v s
  | .trnKeyInval q v => Sys2Proof.Machine.execTrnKeyInval q v s
  | .trnKeyInvalDone => Sys2Proof.Machine.execTrnKeyInvalDone s
  | .peerWinCommit q v => Sys2Proof.Machine.execPeerWinCommit q v s
  | .peerWinActivate => Sys2Proof.Machine.execPeerWinActivate s
  | .trnReqDb q v => Sys2Proof.Machine.execTrnReqDb q v s
  | .trnReqBaseWrite q cmpl hi v => Sys2Proof.Machine.execTrnReqBaseWrite q cmpl hi v s
  | .trnCmdEnSet q v => Sys2Proof.Machine.execTrnCmdEnSet q v s
  | .trnCmdEnClear q v => Sys2Proof.Machine.execTrnCmdEnClear q v s
  | .trnCmplEnSet q v => Sys2Proof.Machine.execTrnCmplEnSet q v s
  | .trnCmplHeadWrite q v => Sys2Proof.Machine.execTrnCmplHeadWrite q v s
  | .trnHaltedResume q v => Sys2Proof.Machine.execTrnHaltedResume q v s
  | .trnFwrxEnSet q v => Sys2Proof.Machine.execTrnFwrxEnSet q v s
  | .trnFwrxHeadWrite q v => Sys2Proof.Machine.execTrnFwrxHeadWrite q v s
  | .synTrnConnCreate r conn spec => Sys2Proof.Machine.execSynTrnConnCreate r conn spec s
  | .synTrnConnReady r conn peerConn sndPsn rcvPsn sndMsn rcvMsn => Sys2Proof.Machine.execSynTrnConnReady r conn peerConn sndPsn rcvPsn sndMsn rcvMsn s
  | .synTrnConnFlush r conn => Sys2Proof.Machine.execSynTrnConnFlush r conn s
  | .synTrnConnReset r conn => Sys2Proof.Machine.execSynTrnConnReset r conn s
  | .synTrnConnDestroy r conn => Sys2Proof.Machine.execSynTrnConnDestroy r conn s
  | .synTrnConnQuery r conn => Sys2Proof.Machine.execSynTrnConnQuery r conn s
  | .synTrnKeySet r index entry => Sys2Proof.Machine.execSynTrnKeySet r index entry s
  | .synTrnPwinSet r wins => Sys2Proof.Machine.execSynTrnPwinSet r wins s
  | .synTrnPwinQuery r => Sys2Proof.Machine.execSynTrnPwinQuery r s
  | .ppsEdge phase => Sys2Proof.Machine.execPpsEdge phase s
  | .ppsLoss => Sys2Proof.Machine.execPpsLoss s
  | .qualificationLost => Sys2Proof.Machine.execQualificationLost s
  | .ppsOut => Sys2Proof.Machine.execPpsOut s
  | .ppsOutEnd => Sys2Proof.Machine.execPpsOutEnd s
  | .timeNowRead q => Sys2Proof.Machine.execTimeNowRead q s
  | .arm q v => Sys2Proof.Machine.execArm q v s
  | .ppsEnSet q v => Sys2Proof.Machine.execPpsEnSet q v s
  | .ppsEnClear q v => Sys2Proof.Machine.execPpsEnClear q v s
  | .tgCommit q v => Sys2Proof.Machine.execTgCommit q v s
  | .tgCancel q v => Sys2Proof.Machine.execTgCancel q v s
  | .gateListTakeover p => Sys2Proof.Machine.execGateListTakeover p s
  | .gateEntryChange p => Sys2Proof.Machine.execGateEntryChange p s
  | .apply q v => Sys2Proof.Machine.execApply q v s
  | .refill policer ix => Sys2Proof.Machine.execRefill policer ix s
  | .synTimeSet r second delay unc hold => Sys2Proof.Machine.execSynTimeSet r second delay unc hold s
  | .synTimeQuery r => Sys2Proof.Machine.execSynTimeQuery r s
  | .synTgGateLoad r port basetime entries => Sys2Proof.Machine.execSynTgGateLoad r port basetime entries s
  | .synTgGateCancel r port => Sys2Proof.Machine.execSynTgGateCancel r port s
  | .synTgShaperSet r ix en rate burst period => Sys2Proof.Machine.execSynTgShaperSet r ix en rate burst period s
  | .synTgPolicerSet r ix en rate burst period action exceedTc => Sys2Proof.Machine.execSynTgPolicerSet r ix en rate burst period action exceedTc s
  | .synTgQuery r what => Sys2Proof.Machine.execSynTgQuery r what s
  | .ethernetFrameReceive port frame => Sys2Proof.Machine.execEthernetFrameReceive port frame s
  | .transmitChannelFrame chan => Sys2Proof.Machine.execTransmitChannelFrame chan s
  | .frameStart chan => Sys2Proof.Machine.execFrameStart chan s
  | .rxwaitExpiry port prio => Sys2Proof.Machine.execRxwaitExpiry port prio s
  | .earlyFrag => Sys2Proof.Machine.execEarlyFrag s
  | .fragmentIdle => Sys2Proof.Machine.execFragmentIdle s
  | .exactEntryFetch port prio => Sys2Proof.Machine.execExactEntryFetch port prio s
  | .pktEnSet q v => Sys2Proof.Machine.execPktEnSet q v s
  | .swap q v => Sys2Proof.Machine.execSwap q v s
  | .swapDone => Sys2Proof.Machine.execSwapDone s
  | .pktExactInval q v => Sys2Proof.Machine.execPktExactInval q v s
  | .macsecEnable q port v => Sys2Proof.Machine.execMacsecEnable q port v s
  | .synPktBankCommit r addr => Sys2Proof.Machine.execSynPktBankCommit r addr s
  | .synPktExactSet r bank table key list => Sys2Proof.Machine.execSynPktExactSet r bank table key list s
  | .synPktExactDel r bank table key => Sys2Proof.Machine.execSynPktExactDel r bank table key s
  | .synPktCounterRead r first count => Sys2Proof.Machine.execSynPktCounterRead r first count s
  | .synPktMacsecSaSet r m => Sys2Proof.Machine.execSynPktMacsecSaSet r m s
  | .synPktMacsecTxSwitch r port => Sys2Proof.Machine.execSynPktMacsecTxSwitch r port s
  | .synPktQuery r => Sys2Proof.Machine.execSynPktQuery r s
  | .submissionDoorbell ins ix v => Sys2Proof.Machine.execSubmissionDoorbell ins ix v s
  | .completionDoorbell ins ix v => Sys2Proof.Machine.execCompletionDoorbell ins ix v s
  | .commandFetch gap out => Sys2Proof.Machine.execCommandFetch gap out s
  | .flush id => Sys2Proof.Machine.execFlush id s
  | .storageWrite id out => Sys2Proof.Machine.execStorageWrite id out s
  | .storageRead id out => Sys2Proof.Machine.execStorageRead id out s
  | .writeZeroes id => Sys2Proof.Machine.execWriteZeroes id s
  | .deallocate id => Sys2Proof.Machine.execDeallocate id s
  | .lockRelease id => Sys2Proof.Machine.execLockRelease id s
  | .backingCompletion id part status data out => Sys2Proof.Machine.execBackingCompletion id part status data out s
  | .storageCompletionWrite q out => Sys2Proof.Machine.execStorageCompletionWrite q out s
  | .coalescingTimeout q => Sys2Proof.Machine.execCoalescingTimeout q s
  | .keepAlive c => Sys2Proof.Machine.execKeepAlive c s
  | .stoEnSet q v => Sys2Proof.Machine.execStoEnSet q v s
  | .synStoQueueCreate r spec => Sys2Proof.Machine.execSynStoQueueCreate r spec s
  | .synStoQueueDelete r q => Sys2Proof.Machine.execSynStoQueueDelete r q s
  | .synStoQueueRestart r q => Sys2Proof.Machine.execSynStoQueueRestart r q s
  | .synStoErrlogRead r q => Sys2Proof.Machine.execSynStoErrlogRead r q s
  | .synStoVolumeSet r vol record => Sys2Proof.Machine.execSynStoVolumeSet r vol record s
  | .synStoVolumeDelete r vol => Sys2Proof.Machine.execSynStoVolumeDelete r vol s
  | .synStoNsCreate r d blocks nsid => Sys2Proof.Machine.execSynStoNsCreate r d blocks nsid s
  | .synStoNsDelete r d nsid => Sys2Proof.Machine.execSynStoNsDelete r d nsid s
  | .synStoTargetConnect r c conns subnqn hostnqn answer => Sys2Proof.Machine.execSynStoTargetConnect r c conns subnqn hostnqn answer s
  | .synStoTargetDisconnect r c => Sys2Proof.Machine.execSynStoTargetDisconnect r c s
  | .synStoDriveReset r d back => Sys2Proof.Machine.execSynStoDriveReset r d back s
  | .synStoQuery r what identify smart => Sys2Proof.Machine.execSynStoQuery r what identify smart s
  | .entropyHealthFail source proportion => Sys2Proof.Machine.execEntropyHealthFail source proportion s
  | .reseed => Sys2Proof.Machine.execReseed s
  | .keyRefsZero k => Sys2Proof.Machine.execKeyRefsZero k s
  | .keyLoadWithdrawn k => Sys2Proof.Machine.execKeyLoadWithdrawn k s
  | .gcmEnc src => Sys2Proof.Machine.execGcmEnc src s
  | .gcmDec src => Sys2Proof.Machine.execGcmDec src s
  | .xtsEnc src => Sys2Proof.Machine.execXtsEnc src s
  | .xtsDec src => Sys2Proof.Machine.execXtsDec src s
  | .shake256 src => Sys2Proof.Machine.execShake256 src s
  | .urgentSuspend => Sys2Proof.Machine.execUrgentSuspend s
  | .messageEngineComplete => Sys2Proof.Machine.execMessageEngineComplete s
  | .secMsgEnSet q v => Sys2Proof.Machine.execSecMsgEnSet q v s
  | .secReqDb q v => Sys2Proof.Machine.execSecReqDb q v s
  | .secCmdEnSet q v => Sys2Proof.Machine.execSecCmdEnSet q v s
  | .secCmplHeadWrite q v => Sys2Proof.Machine.execSecCmplHeadWrite q v s
  | .attestSigned => Sys2Proof.Machine.execAttestSigned s
  | .synKeyLoad r k type owner wrappable key waitMs => Sys2Proof.Machine.execSynKeyLoad r k type owner wrappable key waitMs s
  | .synKeyUnwrap r k wrap owner wrappable blob waitMs => Sys2Proof.Machine.execSynKeyUnwrap r k wrap owner wrappable blob waitMs s
  | .synKeyWrap r k wrap => Sys2Proof.Machine.execSynKeyWrap r k wrap s
  | .synKeyClear r k waitMs => Sys2Proof.Machine.execSynKeyClear r k waitMs s
  | .synKeyQuery r k => Sys2Proof.Machine.execSynKeyQuery r k s
  | .synSecAttest r nonce userdata => Sys2Proof.Machine.execSynSecAttest r nonce userdata s
  | .synSecExtend r ix tag digest => Sys2Proof.Machine.execSynSecExtend r ix tag digest s
  | .synSecLogRead r first count => Sys2Proof.Machine.execSynSecLogRead r first count s
  | .synSecEnrol r => Sys2Proof.Machine.execSynSecEnrol r s
  | .synSecCertSet r cert => Sys2Proof.Machine.execSynSecCertSet r cert s
  | .synSecDebugChallenge r => Sys2Proof.Machine.execSynSecDebugChallenge r s
  | .synSecDebugUnlock r token => Sys2Proof.Machine.execSynSecDebugUnlock r token s
  | .apertureAccess off len data poison => Sys2Proof.Machine.execApertureAccess off len data poison s
  | .winCommit q v => Sys2Proof.Machine.execWinCommit q v s
  | .winActivate => Sys2Proof.Machine.execWinActivate s
  | .hwinCommit q v => Sys2Proof.Machine.execHwinCommit q v s
  | .hwinCopyDone => Sys2Proof.Machine.execHwinCopyDone s
  | .translationCompletion pasid page bus raced => Sys2Proof.Machine.execTranslationCompletion pasid page bus raced s
  | .invalidationRequest pasid page pages itag => Sys2Proof.Machine.execInvalidationRequest pasid page pages itag s
  | .invalidationCompletion itag => Sys2Proof.Machine.execInvalidationCompletion itag s
  | .completionTimeout tag => Sys2Proof.Machine.execCompletionTimeout tag s
  | .msixSend v => Sys2Proof.Machine.execMsixSend v s
  | .initiateFunctionLevelReset => Sys2Proof.Machine.execInitiateFunctionLevelReset s
  | .functionLevelResetDone => Sys2Proof.Machine.execFunctionLevelResetDone s
  | .d3hot => Sys2Proof.Machine.execD3hot s
  | .d0 => Sys2Proof.Machine.execD0 s
  | .pmeTurnOff => Sys2Proof.Machine.execPmeTurnOff s
  | .l1Entry => Sys2Proof.Machine.execL1Entry s
  | .synHostWinSet r first entries => Sys2Proof.Machine.execSynHostWinSet r first entries s
  | .synHostWinQuery r first count => Sys2Proof.Machine.execSynHostWinQuery r first count s
  | .synHostQuery r => Sys2Proof.Machine.execSynHostQuery r s
  | .bufferTail ins ix v => Sys2Proof.Machine.execBufferTail ins ix v s
  | .descriptorTail ins ix v => Sys2Proof.Machine.execDescriptorTail ins ix v s
  | .requestTail ins ix v => Sys2Proof.Machine.execRequestTail ins ix v s
  | .completionHead ins kind ix v => Sys2Proof.Machine.execCompletionHead ins kind ix v s
  | .instpMbxGo ins => Sys2Proof.Machine.execInstpMbxGo ins s
  | .transmitDescriptorFetch q out => Sys2Proof.Machine.execTransmitDescriptorFetch q out s
  | .synInstCreate r inst pasid vecFirst vecCount maxSto maxRx maxTx maxTrn => Sys2Proof.Machine.execSynInstCreate r inst pasid vecFirst vecCount maxSto maxRx maxTx maxTrn s
  | .synInstEnable r => Sys2Proof.Machine.execSynInstEnable r s
  | .synInstDisable r => Sys2Proof.Machine.execSynInstDisable r s
  | .synInstReset r => Sys2Proof.Machine.execSynInstReset r s
  | .synInstDestroy r => Sys2Proof.Machine.execSynInstDestroy r s
  | .synInstQueueCreate r kind spec => Sys2Proof.Machine.execSynInstQueueCreate r kind spec s
  | .synInstQueueDelete r kind q => Sys2Proof.Machine.execSynInstQueueDelete r kind q s
  | .synInstQueueRestart r kind q => Sys2Proof.Machine.execSynInstQueueRestart r kind q s
  | .synInstResAssign r conns assign => Sys2Proof.Machine.execSynInstResAssign r conns assign s
  | .synInstQuery r => Sys2Proof.Machine.execSynInstQuery r s
  | .devEnableSet q v => Sys2Proof.Machine.execDevEnableSet q v s
  | .devEnableClear q v => Sys2Proof.Machine.execDevEnableClear q v s
  | .go q v => Sys2Proof.Machine.execGo q v s
  | .loadDone readOk => Sys2Proof.Machine.execLoadDone readOk s
  | .devHeartbeat q v => Sys2Proof.Machine.execDevHeartbeat q v s
  | .sessionLost m => Sys2Proof.Machine.execSessionLost m s
  | .mbxGo q m => Sys2Proof.Machine.execMbxGo q m s
  | .mbxResponse port => Sys2Proof.Machine.execMbxResponse port s
  | .watchdogExpiry c => Sys2Proof.Machine.execWatchdogExpiry c s
  | .coreRestartDone c => Sys2Proof.Machine.execCoreRestartDone c s
  | .kick q c => Sys2Proof.Machine.execKick q c s
  | .watchdogEnable q c v => Sys2Proof.Machine.execWatchdogEnable q c v s
  | .domainSwitch d => Sys2Proof.Machine.execDomainSwitch d s
  | .synFwVersion r => Sys2Proof.Machine.execSynFwVersion r s
  | .synFwSessionOpen r reclaim => Sys2Proof.Machine.execSynFwSessionOpen r reclaim s
  | .synFwSessionAttach r id => Sys2Proof.Machine.execSynFwSessionAttach r id s
  | .synFwSessionClose r => Sys2Proof.Machine.execSynFwSessionClose r s
  | .synFwEventRingSet r addr log2n vector => Sys2Proof.Machine.execSynFwEventRingSet r addr log2n vector s
  | .synFwUpdate r package => Sys2Proof.Machine.execSynFwUpdate r package s
  | .synFwActivate r => Sys2Proof.Machine.execSynFwActivate r s
  | .synFwDomainQuery r => Sys2Proof.Machine.execSynFwDomainQuery r s
  | .synFwCoreQuery r c => Sys2Proof.Machine.execSynFwCoreQuery r c s
  | .synFwSpillSet r buffers => Sys2Proof.Machine.execSynFwSpillSet r buffers s
  | .synFwConfigQuery r => Sys2Proof.Machine.execSynFwConfigQuery r s
  | .synFwConfigWrite r image => Sys2Proof.Machine.execSynFwConfigWrite r image s
  | .coreStart c => Sys2Proof.Machine.execCoreStart c s
  | .add c d a b sh => Sys2Proof.Machine.execAdd c d a b sh s
  | .sub c d a b sh => Sys2Proof.Machine.execSub c d a b sh s
  | .and c d a b sh => Sys2Proof.Machine.execAnd c d a b sh s
  | .or c d a b sh => Sys2Proof.Machine.execOr c d a b sh s
  | .xor c d a b sh => Sys2Proof.Machine.execXor c d a b sh s
  | .shl c d a b sh => Sys2Proof.Machine.execShl c d a b sh s
  | .shr c d a b sh => Sys2Proof.Machine.execShr c d a b sh s
  | .sar c d a b sh => Sys2Proof.Machine.execSar c d a b sh s
  | .shli c d a b sh => Sys2Proof.Machine.execShli c d a b sh s
  | .shri c d a b sh => Sys2Proof.Machine.execShri c d a b sh s
  | .sari c d a b sh => Sys2Proof.Machine.execSari c d a b sh s
  | .cmplt c d a b sh => Sys2Proof.Machine.execCmplt c d a b sh s
  | .cmpltu c d a b sh => Sys2Proof.Machine.execCmpltu c d a b sh s
  | .mul c d a b sh => Sys2Proof.Machine.execMul c d a b sh s
  | .mulhu c d a b sh => Sys2Proof.Machine.execMulhu c d a b sh s
  | .mulhs c d a b sh => Sys2Proof.Machine.execMulhs c d a b sh s
  | .divu c d a b sh => Sys2Proof.Machine.execDivu c d a b sh s
  | .remu c d a b sh => Sys2Proof.Machine.execRemu c d a b sh s
  | .div c d a b sh => Sys2Proof.Machine.execDiv c d a b sh s
  | .rem c d a b sh => Sys2Proof.Machine.execRem c d a b sh s
  | .clz c d a b sh => Sys2Proof.Machine.execClz c d a b sh s
  | .popc c d a b sh => Sys2Proof.Machine.execPopc c d a b sh s
  | .brr c d a b sh => Sys2Proof.Machine.execBrr c d a b sh s
  | .callr c d a b sh => Sys2Proof.Machine.execCallr c d a b sh s
  | .aadd c d a b sh => Sys2Proof.Machine.execAadd c d a b sh s
  | .aand c d a b sh => Sys2Proof.Machine.execAand c d a b sh s
  | .aor c d a b sh => Sys2Proof.Machine.execAor c d a b sh s
  | .cas c d a b sh => Sys2Proof.Machine.execCas c d a b sh s
  | .addi c d a imm => Sys2Proof.Machine.execAddi c d a imm s
  | .andi c d a imm => Sys2Proof.Machine.execAndi c d a imm s
  | .ori c d a imm => Sys2Proof.Machine.execOri c d a imm s
  | .xori c d a imm => Sys2Proof.Machine.execXori c d a imm s
  | .cmplti c d a imm => Sys2Proof.Machine.execCmplti c d a imm s
  | .cmpltiu c d a imm => Sys2Proof.Machine.execCmpltiu c d a imm s
  | .immh c d a imm => Sys2Proof.Machine.execImmh c d a imm s
  | .ldb c t a mode f => Sys2Proof.Machine.execLdb c t a mode f s
  | .ldbs c t a mode f => Sys2Proof.Machine.execLdbs c t a mode f s
  | .ldh c t a mode f => Sys2Proof.Machine.execLdh c t a mode f s
  | .ldhs c t a mode f => Sys2Proof.Machine.execLdhs c t a mode f s
  | .ldw c t a mode f => Sys2Proof.Machine.execLdw c t a mode f s
  | .stb c t a mode f => Sys2Proof.Machine.execStb c t a mode f s
  | .sth c t a mode f => Sys2Proof.Machine.execSth c t a mode f s
  | .stw c t a mode f => Sys2Proof.Machine.execStw c t a mode f s
  | .breq c a b off => Sys2Proof.Machine.execBreq c a b off s
  | .brne c a b off => Sys2Proof.Machine.execBrne c a b off s
  | .brlt c a b off => Sys2Proof.Machine.execBrlt c a b off s
  | .brge c a b off => Sys2Proof.Machine.execBrge c a b off s
  | .brltu c a b off => Sys2Proof.Machine.execBrltu c a b off s
  | .brgeu c a b off => Sys2Proof.Machine.execBrgeu c a b off s
  | .jmp c off => Sys2Proof.Machine.execJmp c off s
  | .call c off => Sys2Proof.Machine.execCall c off s
  | .sread c d a n => Sys2Proof.Machine.execSread c d a n s
  | .swrite c d a n => Sys2Proof.Machine.execSwrite c d a n s
  | .resume c d a n => Sys2Proof.Machine.execResume c d a n s
  | .wfe c d a n => Sys2Proof.Machine.execWfe c d a n s
  | .fence c d a n => Sys2Proof.Machine.execFence c d a n s
  | .trap c d a n => Sys2Proof.Machine.execTrap c d a n s
  | .brk c d a n => Sys2Proof.Machine.execBrk c d a n s
  | .eventException c => Sys2Proof.Machine.execEventException c s
  | .timerExpiry c => Sys2Proof.Machine.execTimerExpiry c s
  | .coreEvt q c v => Sys2Proof.Machine.execCoreEvt q c v s
  | .currentRead rails fixedNj => Sys2Proof.Machine.execCurrentRead rails fixedNj s
  | .pwrLevelsWrite q v => Sys2Proof.Machine.execPwrLevelsWrite q v s
  | .levelChangeDone die => Sys2Proof.Machine.execLevelChangeDone die s
  | .droop die low => Sys2Proof.Machine.execDroop die low s
  | .budgetSilence => Sys2Proof.Machine.execBudgetSilence s
  | .governorWindow work => Sys2Proof.Machine.execGovernorWindow work s
  | .dieTempUpdate dies io => Sys2Proof.Machine.execDieTempUpdate dies io s
  | .pwrEnSet q v => Sys2Proof.Machine.execPwrEnSet q v s
  | .ipfixExport takes => Sys2Proof.Machine.execIpfixExport takes s
  | .ipfixTemplate takes => Sys2Proof.Machine.execIpfixTemplate takes s
  | .setEndpointId op eid => Sys2Proof.Machine.execSetEndpointId op eid s
  | .getEndpointId => Sys2Proof.Machine.execGetEndpointId s
  | .getMctpVersionSupport type => Sys2Proof.Machine.execGetMctpVersionSupport type s
  | .getMessageTypeSupport => Sys2Proof.Machine.execGetMessageTypeSupport s
  | .getEndpointUuid => Sys2Proof.Machine.execGetEndpointUuid s
  | .gettid => Sys2Proof.Machine.execGettid s
  | .settid tid => Sys2Proof.Machine.execSettid tid s
  | .getpldmversion type => Sys2Proof.Machine.execGetpldmversion type s
  | .getpldmtypes => Sys2Proof.Machine.execGetpldmtypes s
  | .getpldmcommands type => Sys2Proof.Machine.execGetpldmcommands type s
  | .getpdrrepositoryinfo => Sys2Proof.Machine.execGetpdrrepositoryinfo s
  | .getpdr handle => Sys2Proof.Machine.execGetpdr handle s
  | .getsensorreading sensor => Sys2Proof.Machine.execGetsensorreading sensor s
  | .getsensorthresholds sensor => Sys2Proof.Machine.execGetsensorthresholds sensor s
  | .wakeRequest => Sys2Proof.Machine.execWakeRequest s
  | .synPwrLimitSet r limit => Sys2Proof.Machine.execSynPwrLimitSet r limit s
  | .synPwrQuery r => Sys2Proof.Machine.execSynPwrQuery r s
  | .synPwrClassSet r cls record => Sys2Proof.Machine.execSynPwrClassSet r cls record s
  | .synPwrFloorSet r level => Sys2Proof.Machine.execSynPwrFloorSet r level s
  | .synTelExportSet r spec => Sys2Proof.Machine.execSynTelExportSet r spec s
  | .synTelQuery r => Sys2Proof.Machine.execSynTelQuery r s
  | .faultReport reps => Sys2Proof.Machine.execFaultReport reps s
  | .railBreak source runit => Sys2Proof.Machine.execRailBreak source runit s
  | .blockLine b raised => Sys2Proof.Machine.execBlockLine b raised s
  | .fltAck q c valid overflow => Sys2Proof.Machine.execFltAck q c valid overflow s
  | .fltModeWrite q v => Sys2Proof.Machine.execFltModeWrite q v s
  | .fltBlocksClear q v => Sys2Proof.Machine.execFltBlocksClear q v s
  | .fltInjArm q v => Sys2Proof.Machine.execFltInjArm q v s
  | .injectionTargetWrite checker unit addr => Sys2Proof.Machine.execInjectionTargetWrite checker unit addr s
  | .ceEventDue source => Sys2Proof.Machine.execCeEventDue source s
  | .synFltQuery r => Sys2Proof.Machine.execSynFltQuery r s
  | .synFltAck r classes overflows => Sys2Proof.Machine.execSynFltAck r classes overflows s
  | .synFltModeSet r mode => Sys2Proof.Machine.execSynFltModeSet r mode s
  | .synFltInject r checker flip unit addr => Sys2Proof.Machine.execSynFltInject r checker flip unit addr s
  | .synFltForceSafe r => Sys2Proof.Machine.execSynFltForceSafe r s
  | .synFltBlockClear r b => Sys2Proof.Machine.execSynFltBlockClear r b s
  | .ckpEnSet q v => Sys2Proof.Machine.execCkpEnSet q v s
  | .mark q v => Sys2Proof.Machine.execMark q v s
  | .snap q v => Sys2Proof.Machine.execSnap q v s
  | .rollback q v => Sys2Proof.Machine.execRollback q v s
  | .rollbackDone => Sys2Proof.Machine.execRollbackDone s
  | .unpin q v => Sys2Proof.Machine.execUnpin q v s
  | .appendCopy => Sys2Proof.Machine.execAppendCopy s
  | .locallyCommitted => Sys2Proof.Machine.execLocallyCommitted s
  | .ckpReplicaWrite q v => Sys2Proof.Machine.execCkpReplicaWrite q v s
  | .snapshotWrite buddy lba => Sys2Proof.Machine.execSnapshotWrite buddy lba s
  | .manifestWrite lba => Sys2Proof.Machine.execManifestWrite lba s
  | .leaseRenewal => Sys2Proof.Machine.execLeaseRenewal s
  | .leaseLapse => Sys2Proof.Machine.execLeaseLapse s
  | .localCommit conn msn => Sys2Proof.Machine.execLocalCommit conn msn s
  | .journalCommit conn msn ring pages => Sys2Proof.Machine.execJournalCommit conn msn ring pages s
  | .leaseReq conn msn => Sys2Proof.Machine.execLeaseReq conn msn s
  | .leaseGrant conn msn => Sys2Proof.Machine.execLeaseGrant conn msn s
  | .leaseRefuse conn msn => Sys2Proof.Machine.execLeaseRefuse conn msn s
  | .propose p => Sys2Proof.Machine.execPropose p s
  | .accept conn msn => Sys2Proof.Machine.execAccept conn msn s
  | .viewInstall conn msn => Sys2Proof.Machine.execViewInstall conn msn s
  | .verified conn msn => Sys2Proof.Machine.execVerified conn msn s
  | .snapDone conn msn => Sys2Proof.Machine.execSnapDone conn msn s
  | .synCkpConfig r record view members witnesses spares => Sys2Proof.Machine.execSynCkpConfig r record view members witnesses spares s
  | .synCkpQuery r => Sys2Proof.Machine.execSynCkpQuery r s
  | .synCkpSnapshot r volume retain base => Sys2Proof.Machine.execSynCkpSnapshot r volume retain base s
  | .synCkpRestore r volume lba trusted rank members manifests shards => Sys2Proof.Machine.execSynCkpRestore r volume lba trusted rank members manifests shards s
  | .synCkpTakeover r rank conn view => Sys2Proof.Machine.execSynCkpTakeover r rank conn view s
  | .synCkpDrain r => Sys2Proof.Machine.execSynCkpDrain r s
  | .synCkpWitnessSet r replica view members => Sys2Proof.Machine.execSynCkpWitnessSet r replica view members s
  | .atomicSwap c d a b sh => Sys2Proof.Machine.execAtomicSwap c d a b sh s
  | .registerRead q space off len => Sys2Proof.Machine.execRegisterRead q space off len s
  | .mainRailInRange straps => Sys2Proof.Machine.execMainRailInRange straps s
  | .rootPortLinkUp port => Sys2Proof.Machine.execRootPortLinkUp port s
  | .rootPortLinkLost port ltssm => Sys2Proof.Machine.execRootPortLinkLost port ltssm s
  | .jtagAccess op => Sys2Proof.Machine.execJtagAccess op s
  | .connectTimeout c => Sys2Proof.Machine.execConnectTimeout c s
  | .grantEndPassed replica => Sys2Proof.Machine.execGrantEndPassed replica s

end Sys2Proof.Machine
end

