-- ==== Sys2Proof/Machine/Step.lean ====
section
/-! DEFINITION. One step: the command at the front of the queue runs; on an empty queue one cycle of the fabric clock
passes. -/

namespace Sys2Proof.Machine

/-- The state with its queue replaced. -/
def State.withPending (s : State) (q : List Instr) : State := { s with pending := q }

/-- Take the command at the front of the queue and run it with the queue's rest; on an empty queue the fabric clock
counts one cycle (R239). (Log entries 1: DESIGN CHOICE, safe; 2: DESIGN CHOICE, unsafe.) -/
def step (s : State) : Host.Outcome State Fault Refusal :=
  match s.pending with
  | [] => .next s.fabricCycle
  | c :: rest => exec c (s.withPending rest)

/-- The command that a table word spells, put at the front of the queue; the table spells none. (Log entries 4:
DESIGN CHOICE, unsafe; 15: DESIGN CHOICE, unsafe.) -/
def State.withFetchWord (s : State) (nbits w : Nat) : State :=
  match decodeTableWord nbits w with
  | some c => s.withPending (c :: s.pending)
  | none => s

end Sys2Proof.Machine
end

