-- ==== Sys2Proof/Safety.lean ====
section
/-! DEFINITION. The terms the statements use: the parts of the machine's state, what a command may change of them, the
canonical form of the memories and tables, and a safe step. -/

namespace Sys2Proof.Machine

/-- The parts of the machine's state, one for each field of `State`. -/
inductive Part where
  | pending
  | regs
  | mem
  | marks
  | lineMarks
  | hostMem
  | lfsr
  | guards
  | free
  | clock
  | out
  | mbx
  | accelWin
  | answer32
  | answerErr
  | boots
  | rings
  | clu
  | flags
  | col
  | kv
  | eland
  | hbm
  | fport
  | laneRx
  | trn
  | time
  | pkt
  | chanQ
  | sto
  | sec
  | host
  | inst
  | iq
  | flash
  | fw
  | coreSvc
  | domainCore
  | paused
  | tahr
  | ctrl
  | pwr
  | aon
  | flt
  | faultN
  | ckp
  | pins
deriving DecidableEq, Repr

/-- One part of the state is the same in two states. -/
def Part.same (p : Part) (s t : State) : Prop :=
  match p with
  | .pending => t.pending = s.pending
  | .regs => t.regs = s.regs
  | .mem => t.mem = s.mem
  | .marks => t.marks = s.marks
  | .lineMarks => t.lineMarks = s.lineMarks
  | .hostMem => t.hostMem = s.hostMem
  | .lfsr => t.lfsr = s.lfsr
  | .guards => t.guards = s.guards
  | .free => t.free = s.free
  | .clock => t.clock = s.clock
  | .out => t.out = s.out
  | .mbx => t.mbx = s.mbx
  | .accelWin => t.accelWin = s.accelWin
  | .answer32 => t.answer32 = s.answer32
  | .answerErr => t.answerErr = s.answerErr
  | .boots => t.boots = s.boots
  | .rings => t.rings = s.rings
  | .clu => t.clu = s.clu
  | .flags => t.flags = s.flags
  | .col => t.col = s.col
  | .kv => t.kv = s.kv
  | .eland => t.eland = s.eland
  | .hbm => t.hbm = s.hbm
  | .fport => t.fport = s.fport
  | .laneRx => t.laneRx = s.laneRx
  | .trn => t.trn = s.trn
  | .time => t.time = s.time
  | .pkt => t.pkt = s.pkt
  | .chanQ => t.chanQ = s.chanQ
  | .sto => t.sto = s.sto
  | .sec => t.sec = s.sec
  | .host => t.host = s.host
  | .inst => t.inst = s.inst
  | .iq => t.iq = s.iq
  | .flash => t.flash = s.flash
  | .fw => t.fw = s.fw
  | .coreSvc => t.coreSvc = s.coreSvc
  | .domainCore => t.domainCore = s.domainCore
  | .paused => t.paused = s.paused
  | .tahr => t.tahr = s.tahr
  | .ctrl => t.ctrl = s.ctrl
  | .pwr => t.pwr = s.pwr
  | .aon => t.aon = s.aon
  | .flt => t.flt = s.flt
  | .faultN => t.faultN = s.faultN
  | .ckp => t.ckp = s.ckp
  | .pins => t.pins = s.pins

/-- Every part of the state but the named ones is the same in two states. -/
def SameBut (ps : List Part) (s t : State) : Prop := ∀ p : Part, p ∉ ps → p.same s t

/-- A memory is in its canonical form: addresses strictly rising, no entry equal to what an unlisted address reads as. -/
def Memory.wf (m : List Host.Cell) : Bool := Tab.wf memZero m

/-- Control memory is in its canonical form, and every byte of it stands in one of its two image halves of 2 MiB (R387). -/
def ctrlWf (m : List Host.Cell) : Bool := Memory.wf m && m.all (fun e => decide (e.1 < 2 ^ 22))

/-- The register file, the memories and the tables of the state are in their canonical form. -/
def State.canon (s : State) : Prop :=
  Tab.wf regReset s.regs = true ∧ Memory.wf s.mem = true ∧ Memory.wf s.hostMem = true ∧ ctrlWf s.ctrl = true
    ∧ Tab.wf ringReset s.rings = true ∧ Tab.wf mbxReset s.mbx = true ∧ Tab.wf Machine.instReset s.inst = true

/-- The parts that a report to the fault collector may change: registers, the host's event rings and vectors, and, with a
class 2 fault, what the safe state changes. -/
def Part.reporting : List Part := [.regs, .hostMem, .out, .mbx, .hbm, .host, .flt, .faultN, .pins]

/-- The parts that a checked read of memory may change: what it reports, and the marks of words and lines. -/
def Part.reading : List Part := Part.reporting ++ [.marks, .lineMarks]

/-- The parts that a store to device physical memory may change. -/
def Part.storing : List Part := Part.reading ++ [.mem, .ckp]

/-- The command `i` on state `s` answers a next state; that state differs from `s` in the named parts at most, and `P`
holds of it. -/
def Does (i : Instr) (s : State) (ps : List Part) (P : State → Prop) : Prop :=
  ∃ t, exec i s = .next t ∧ SameBut ps s t ∧ P t

/-- Every register word but those at the named offsets is the same in two states. -/
def RegsBut (os : List Nat) (s t : State) : Prop := ∀ o, o ∉ os → t.rd o = s.rd o

/-- A step is safe: it answers a next state, not a fault and not a refusal. -/
def Safe (s : State) : Prop := ∃ t, step s = .next t

end Sys2Proof.Machine
end

