-- ==== Sys2Proof/Certificates/Slice0/Obligations.lean ====
section
/-! DEFINITION. The statements for the provers, one for each group of commands, with the terms they share. A statement
says `Does c s ps P`: the command `c` on `s` answers a next state that differs from `s` in the parts `ps` at most and of
which `P` holds. -/

namespace Sys2Proof.Machine

/-- Descriptor `i` of cluster `c` has run: it stands among the issued ones with status `st` and the count `nf`. -/
abbrev UnitDone (c : Nat) (i : Issued) (st nf : Nat) (t : State) : Prop :=
  ⟨i.ix, i.epoch, i.desc, i.unit, true, some (st, nf)⟩ ∈ (t.ring (cluB c)).issued

/-- Unit `u` of cluster `c` stands before descriptor `i` with opcode `op`. -/
abbrev UnitNext (c u op : Nat) (i : Issued) (s : State) : Prop := s.nextOf c u = some i ∧ dOpcode i.desc = op

/-- The parts that a unit's run may change. -/
def Part.unitRun : List Part :=
  [.regs, .mem, .marks, .hostMem, .lfsr, .guards, .free, .out, .mbx, .rings, .hbm, .host, .flt, .faultN, .pins]


/-- The parts that a move between unmarked HBM lines may change. -/
def Part.moving : List Part := [.mem, .lineMarks, .rings, .hbm, .flt]

/-- The ranges of the pairs lie in HBM, in lines without marks; no write is held, no region is protected and no injection is
armed. -/
abbrev State.plainRows (s : State) (n : Nat) (rows : List (Nat × Nat)) : Prop :=
  s.ckp.held = [] ∧ s.bit CKP_CTL CKP_CTL_EN = false ∧ s.flt.injections = []
    ∧ ∀ p ∈ rows, p.1 + n ≤ hbmBytes ∧ p.2 + n ≤ hbmBytes
      ∧ ∀ k, k < n → s.lineMark (p.1 + k) = .clean ∧ s.lineMark (p.2 + k) = .clean

/-- The address lies in none of the ranges of `n` bytes. -/
def outside (n : Nat) (ds : List Nat) (a : Nat) : Bool := ds.all (fun d => !overlaps d n a 1)

/-- Every byte of memory outside the ranges of `n` bytes is as it was. -/
def BytesBut (n : Nat) (ds : List Nat) (s t : State) : Prop := ∀ a, outside n ds a = true → t.byte a = s.byte a

/-- The address list of a gather or scatter holds no marked word. -/
abbrev State.listClean (s : State) (c : Nat) (d : List Byte) : Prop :=
  ∀ k, k < 8 * dmaRows d → s.wordMark (scratchAddr c (dmaList d) + k) = .clean

/-- The items of a gather or scatter as (source, destination), by its list in scratchpad (R56). -/
def State.listRows (s : State) (c : Nat) (scatter : Bool) (d : List Byte) : List (Nat × Nat) :=
  ((List.range (dmaRows d)).zip (listAddrs (dmaRows d) (s.bytes (scratchAddr c (dmaList d)) (8 * dmaRows d)))).map (fun p =>
    if scatter then (dmaSrc d + p.1 * dmaLen d, p.2) else (p.2, dmaDst d + p.1 * dmaLen d))

/-- The commands that can make a full device reset: the resets of R8 and R337, and the accesses that can write DEV_RESET. -/
def mayReset : Instr → Bool
  | .perstN .. | .hotReset | .dlDown | .devReset .. | .alwaysOnPowerUp => true
  | .registerWrite .. | .jtagAccess .. => true
  | .dmaCopy .. | .dma2d .. | .dmaGather .. | .dmaScatter .. | .dmaFill .. => true
  | .stb .. | .sth .. | .stw .. | .aadd .. | .aand .. | .aor .. | .cas .. | .atomicSwap .. => true
  | _ => false

/-- The commands that can write the flash: enrolment, a certificate and the configuration image. -/
def mayWriteFlash : Instr → Bool
  | .synSecEnrol .. | .synSecCertSet .. | .synFwConfigWrite .. => true
  | _ => false

/-- The request is answered in its mailbox with this status and payload (R366, R368). -/
abbrev Answered (op : Nat) (r : SynReq) (st : Nat) (pl : List Byte) (t : State) : Prop :=
  (t.mb (synBox r.port)).ans = some ⟨op, if r.major = 2 then 2 else 3, if r.major = 2 then 5 else 2, r.tag.toNat, synInst r,
    st, pl, r.ind⟩

/-- The parts that a message handed to the transport engine may change. -/
def Part.sending : List Part := Part.storing ++ [.free, .rings, .fport, .trn, .time, .pkt, .sto, .inst, .iq]

/-- A field of the active operation of group `g`, none when there is none. -/
def State.opOf (s : State) (g : Nat) : Option ColOp := (s.grp g).bind (·.op)

/-- Firmware has the arbiters in the mode it wants, or does not choose one (R182). -/
abbrev State.modeKept (s : State) : Prop := s.hbm.mode = some s.modeWanted ∨ (s.fwRunning && s.hbmReady) = false

/-- Channel `g` may grant: it is not stopped, owes less than four refreshes, and no window ends within the next accesses. -/
abbrev State.chanGoes (s : State) (g gap : Nat) : Prop :=
  s.chanStopped g = false ∧ (s.chan g).debt < 4 ∧ (s.chan g).cycles + gap + 4 < 1024

/-- Channel `g` may grant, and no request waits at it. -/
abbrev State.chanOpen (s : State) (g gap : Nat) : Prop :=
  s.chanGoes g gap ∧ ∀ r ∈ s.hbm.queue, hbmChannel r.addr ≠ g

/-- No line of HBM and no scratchpad word of [a, a + n) carries a mark. -/
abbrev State.unmarked (s : State) (a n : Nat) : Prop :=
  ∀ k, k < n → s.lineMark (a + k) = .clean ∧ s.wordMark (a + k) = .clean

/-- The context of stream `n` is cached, as 256 bytes (R120, R122). -/
abbrev State.onDie (s : State) (n : Nat) : Prop := s.kv.cache.any (fun e => e.1 == n) = true ∧ (s.ctx n).length = 256

/-- The content is that of a packet of a defined opcode (R214). -/
abbrev plainFrame (f : List Byte) : Prop := 48 ≤ f.length ∧ frameVersion f = 1 ∧ frameOpc f ≤ 5

/-- Every frame in the receive buffers of port `p` is a packet of a defined opcode. -/
abbrev State.noOdd (s : State) (p : Nat) : Prop := ∀ e ∈ (s.fp p).rxq, plainFrame e.2.1

/-- A port's settings as SYN_LINK_PORT_SET writes them, before its enable is checked. -/
abbrev State.portSettings (s : State) (p mode : Nat) (enc : Bool) (alloc headroom : Nat) (keys : List (BitVec 12)) : State :=
  ((((s.sf (FAB_PORT_CTL p) FAB_PORT_CTL_MODE mode).sf (FAB_PORT_ENC p) FAB_PORT_ENC_EN (b2n enc)).wr64 (FAB_PORT_ALLOC p) alloc).sf
    (FAB_PORT_PFC p) FAB_PORT_PFC_HEADROOM headroom).wr64 (FAB_PORT_KEYS p)
      ((keys.zipIdx).foldl (fun n e => n + e.1.toNat * 2 ^ (16 * e.2)) 0)

/-- The packet reaches its cached connection (R213, R214): its port carries its kind of traffic, it is addressed to this
node, and nothing of the connection waits in a miss queue. -/
abbrev State.pktHere (s : State) (p : TrnPkt) : Prop :=
  s.portLive p.port.val = true ∧ s.isEth p.port.val = p.roce ∧ s.trnEn = true ∧ (p.roce = true ∨ p.dstAddr = s.rd TRN_ADDR)
    ∧ s.isCached p.dstConn.toNat = true ∧ s.trn.cached.length ≤ 32768 ∧ s.stopped p = false
    ∧ ∀ e ∈ s.trn.miss, e.2.2.dstConn ≠ p.dstConn

/-- A whole frame `f`, received as `frame` with its FCS, enters the pipeline of Ethernet port `p` (R203, R262). -/
abbrev State.ethHere (s : State) (p : Nat) (frame f : List Byte) : Prop :=
  s.portLive p = true ∧ s.isEth p = true ∧ checkCrc frame = some f ∧ 64 ≤ frame.length ∧ frame.length ≤ 9216
    ∧ frameBE f 12 2 ≠ 0x8808 ∧ s.pktEn = true ∧ s.safe = false

/-- `fr` is the frame `f` as it enters the parser of port `p` without MACsec, and nothing waits before it. -/
abbrev State.ethPlain (s : State) (p : Nat) (f : List Byte) (fr : PktFrame) : Prop :=
  s.bit (PKT_MSEC_CTL p) PKT_MSEC_CTL_EN = false ∧ units64 f.length ≤ s.ethFree p (framePrio f) ∧ s.pkt.queue = []
    ∧ fr = ⟨p, framePrio f, f, f.length + 4, 0, s.activeBank, none⟩

/-- The lookups of a frame collect the action words `ws` (R270, R271). -/
def State.collects (s : State) (b : PktBank) (fr : PktFrame) (ws : List Nat) : Bool :=
  match s.lookupFrom fr.bank b fr (parse b fr.bytes) (matchVector b fr.bytes (parse b fr.bytes)) 8 0 [] with
  | .done w => w == ws
  | .need _ _ => false

/-- The lookups of a frame need bucket `k` of table `x`, which is not cached (R270). -/
def State.missesBucket (s : State) (b : PktBank) (fr : PktFrame) (x k : Nat) : Bool :=
  match s.lookupFrom fr.bank b fr (parse b fr.bytes) (matchVector b fr.bytes (parse b fr.bytes)) 8 0 [] with
  | .done _ => false
  | .need y j => y == x && j == k

/-- Bytes of the bank image at `a`, its header included (R264). -/
def State.bankSize (s : State) (a : Nat) : Nat := ((sectionOffsets (bankSections (s.readBank a).head) 64).getLast?).getD 64

/-- Entry `i` of bucket `k` of the exact table `d` (R270). -/
abbrev State.exactEntry (s : State) (d : List Byte) (k i : Nat) : List Byte := s.bytes (ptBase d + (k * 4 + i) * 64) 64

/-- Queue `q`, as `x`, needs no draw for the token of its next frame: it uses no shaper, its shaper passes every packet, or it
has its token (R257). -/
abbrev State.shaperPasses (s : State) (q : Fin 8192) (x : IQueue) : Prop :=
  x.qshEn = false ∨ (x.kind = .transmit ∧ (s.bucket false x.qshaper).cfg.en = false)
    ∨ (x.qtoken = true ∧ (s.bucket false x.qshaper).cfg.en = true ∧ 4096 + q.val ∉ s.shaperUsers x.qshaper)

/-- Storage command `id` is `c`: it holds its range-lock entry and may start (R287). -/
abbrev State.stoReady (s : State) (id op : Nat) (c : StoCmd) : Prop :=
  s.stoCmd id = some c ∧ c.op = op ∧ c.lock = true ∧ c.hostDown = false ∧ s.stoMayStart c = true

/-- The data movement of the command has ended with this status, and its entry is not yet released. -/
abbrev StoEnded (c : StoCmd) (st : Nat) (t : State) : Prop :=
  t.stoCmd c.id = some { c with phase := .moved, status := st, parts := [], slot := none }

/-- The message engine is free, and the message `d` may start (R309, R314). -/
abbrev State.msgFree (s : State) (op : Nat) (d : List Byte) : Prop :=
  s.sec.current = none ∧ s.sec.suspended = none ∧ d.length = 64 ∧ mOp d = op
    ∧ ((msgSlot d).any (fun k => s.slotPending k)) = false

/-- The message's source, additional data and tag are readable, giving these blocks and then this state (R313). -/
abbrev State.msgInput (s : State) (d : List Byte) (src aad tag : List (List Byte × Bool)) (s1 s2 s3 : State) : Prop :=
  (State.loadBlocks (mSrc d) (mLen d) (mLen d) s).1.isNone = true ∧ (State.loadBlocks (mSrc d) (mLen d) (mLen d) s).2 = (src, s1)
    ∧ (mOp d ≤ 2 → (State.loadBlocks (mAad d) (mAadLen d) (mAadLen d) s1).1.isNone = true
      ∧ (State.loadBlocks (mAad d) (mAadLen d) (mAadLen d) s1).2 = (aad, s2))
    ∧ (2 < mOp d → aad = [] ∧ s2 = s1)
    ∧ (mOp d = 2 → (State.loadBlocks (mSrc d + mLen d) 16 1 s2).1.isNone = true
      ∧ (State.loadBlocks (mSrc d + mLen d) 16 1 s2).2 = (tag, s3))
    ∧ (mOp d ≠ 2 → tag = [] ∧ s3 = s2)
    ∧ (s3.accessErr (mDst d) (mOutBytes d) true).isNone = true

/-- The message runs: its status and output blocks are those of R313. -/
abbrev MsgRuns (d key : List Byte) (src aad tag : List (List Byte × Bool)) (t : State) : Prop :=
  t.sec.current = some ⟨none, d, 0, (mResult d key src aad (blockBytes tag) (tag.any (·.2))).1,
    (mResult d key src aad (blockBytes tag) (tag.any (·.2))).2, false⟩

/-- A general register of core `c` (R385). -/
abbrev State.greg (s : State) (c : Fin 32) (r : BitVec 5) : W32 := (s.tahrOf c.val).reg r

/-- Core `c` takes its next instruction and fetches it without an exception or an ECC error (R396, R400, R401). -/
abbrev State.coreFetches (s : State) (c : Fin 32) : Prop :=
  s.coreRuns c.val = true ∧ (s.tahrOf c.val).pc.toNat % 4 = 0 ∧ (s.tahrOf c.val).pc.toNat < 0x200000
    ∧ s.coreMark c.val (s.tahrOf c.val).pc.toNat = .clean

/-- Core `c` out of WFE, as it runs an instruction. -/
abbrev State.awake (s : State) (c : Fin 32) : State := s.setTahr c.val { s.tahrOf c.val with waiting := false }

/-- The general registers of core `c` with g(d) written; g0 reads zero and is not written (R385). -/
abbrev State.wrote (s : State) (c : Fin 32) (d : BitVec 5) (v : W32) (r : BitVec 5) : W32 :=
  if r = d ∧ d ≠ 0 then v else s.greg c r

/-- The general registers after a load or store: g(t) holds the value when it is a load, and g(a) the base written back. -/
abbrev State.moved (s : State) (c : Fin 32) (x : Option (BitVec 5 × W32)) (a : BitVec 5) (wb : Option W32) (r : BitVec 5) : W32 :=
  if r = 0 then 0 else if wb.isSome ∧ r = a then wb.getD 0
  else if x.map (·.1) = some r then (x.map (·.2)).getD 0 else s.greg c r

/-- Core `c` goes on at `pc` with the general registers `g`; its other state and the other cores are the same. -/
abbrev CoreAt (c : Fin 32) (pc : W32) (g : BitVec 5 → W32) (s t : State) : Prop :=
  t.tahrOf c.val = { s.tahrOf c.val with g := (t.tahrOf c.val).g, pc := pc, waiting := false }
    ∧ (∀ r, r < 32 → t.greg c (BitVec.ofNat 5 r) = g (BitVec.ofNat 5 r))
    ∧ (∀ k, k < 32 → k ≠ c.val → t.tahrOf k = s.tahrOf k)

/-- Core `c` takes an exception (R400). -/
abbrev CoreExcepts (c : Fin 32) (cause : Nat) (xaddr : W32) (s t : State) : Prop :=
  t.tahrOf c.val = { s.tahrOf c.val with
      xpc := (s.tahrOf c.val).pc
      xcause := BitVec.ofNat 32 cause
      xaddr := xaddr
      xstate := (s.tahrOf c.val).cstate
      cstate := 2
      pc := (s.tahrOf c.val).vbase + BitVec.ofNat 32 (cause * 16)
      waiting := false }
    ∧ (∀ k, k < 32 → k ≠ c.val → t.tahrOf k = s.tahrOf k)

/-- Where core `c` goes after this instruction. -/
abbrev State.nextPc (s : State) (c : Fin 32) : W32 := (s.tahrOf c.val).pc + 4

/-- Connection `n` is READY and holds every message it is given, since its peer has granted no further credit (R215). -/
abbrev State.spent (s : State) (n : Nat) : Prop :=
  n < 2 ^ 20 ∧ (s.cn n).state = csReady ∧ (s.cn n).roce = false ∧ (s.cn n).creditMsn = (s.cn n).sndMsn

/-- The checkpoint engine has handed connection `n` these messages, as (request, data). -/
abbrev CkpHands (n : Nat) (ms : List (List Byte × List Byte)) (s t : State) : Prop :=
  (t.cn n).waiting = (s.cn n).waiting ++ ms.map (fun m => (⟨.internal 3, m.1, 0, 0, false, m.2⟩ : Msg))

/-- The request of a checkpoint control message (R462). -/
abbrev ckpSendReq (n tag : Nat) (fence : Bool) (bs : List Byte) : List Byte := mkReq 2 n tag 0 bs.length 0 0 0 false fence false []

/-- A rank's first report on mark `c` among these (R455). -/
abbrev ckpSaid (vs : List (Nat × Nat × Bool)) (r c : Nat) : Option Bool := (vs.find? (fun v => v.1 == r && v.2.1 == c)).map (·.2.2)

end Sys2Proof.Machine

open Sys2Proof Sys2Proof.Machine

/-- A step takes the command at the front of the queue and runs it with the queue's rest. -/
def Obligations.StepRunsTheFrontCommand : Prop :=
  ∀ (s : State) (c : Instr) (rest : List Instr), s.pending = c :: rest → step s = exec c (s.withPending rest)

/-- The model's choice (log entry 2): a step on an empty queue is one cycle of the fabric clock, in which the time
accumulator gains INCR (R239); nothing else changes. -/
def Obligations.EmptyQueueStepCountsOneCycle : Prop :=
  ∀ (s : State), s.pending = [] →
    ∃ t, step s = .next t ∧ SameBut [.clock, .time] s t ∧ t.clock = s.clock + 1
      ∧ t.time = { s.time with acc := (s.time.acc + s.time.incr) % 2 ^ 96 }

/-- Every command answers a next state, which has the queue's rest as its queue; a step is safe in every state. -/
def Obligations.EveryCommandCompletesAndKeepsTheQueue : Prop :=
  (∀ (i : Instr) (s : State), ∃ t, exec i s = .next t ∧ t.pending = s.pending :)
  ∧ (∀ (s : State), Safe s :)
  ∧ (∀ (s t : State) (c : Instr) (rest : List Instr), s.pending = c :: rest → step s = .next t → t.pending = rest :)

/-- The canonical form: after every step from a state whose register file, memories and tables are in their canonical
form, they are again. -/
def Obligations.EveryStepKeepsTheCanonicalForm : Prop :=
  ∀ (s t : State), s.canon → step s = .next t → t.canon

/-- The state after reset has the canonical form, and no command waits. -/
def Obligations.ResetHasTheCanonicalForm : Prop :=
  State.reset.canon ∧ State.reset.pending = [] ∧ State.reset.mem = [] ∧ State.reset.hostMem = []

/-- R8, over all commands: one after which the count of full device resets differs is PERST_N, a hot reset, a loss of the
host link, DEV_RESET, the power-up of the always-on island, or an access that can write DEV_RESET (a register write, the
JTAG port, a mover, a store of a control core). One after which the flash differs is an enrolment, a certificate write or a
configuration write. -/
def Obligations.OnlyTheseCommandsResetTheDeviceOrWriteFlash : Prop :=
  (∀ (i : Instr) (s t : State), exec i s = .next t → t.boots ≠ s.boots → mayReset i = true :)
  ∧ (∀ (i : Instr) (s t : State), exec i s = .next t → t.flash ≠ s.flash → mayWriteFlash i = true :)

/-- R3: the register at an offset appears in the device address space at 0xF0_0000_0000 plus the offset: a read or a write
there by a requester inside the device (the JTAG port, when its debug scope lets it) is the read or write of the register. -/
def Obligations.RegistersAppearInDeviceSpace : Prop :=
  (∀ (s : State) (off : BitVec 26) (addr : BitVec 52) (len : BitVec 8), s.scope 1 = true → off.toNat < 0x2000000 →
    addr.toNat = 0xF000000000 + off.toNat →
    exec (.jtagAccess (.read addr len)) s = exec (.registerRead .jtag .bar0 off ⟨len.toNat, by omega⟩) s :)
  ∧ (∀ (s : State) (off : BitVec 26) (addr : BitVec 52) (data : List Byte), s.scope 1 = true → off.toNat < 0x2000000 →
    addr.toNat = 0xF000000000 + off.toNat →
    exec (.jtagAccess (.write addr data)) s = exec (.registerWrite .jtag .bar0 off data) s :)
  ∧ (∀ (s : State) (q : Requester) (off : Nat) (n : Nat), off < 0x2000000 →
    s.busLoad q (0xF000000000 + off) n = regLoad q off n s :)
  ∧ (∀ (s : State) (q : Requester) (off : Nat) (bs : List Byte) (poison : Bool), off < 0x2000000 →
    s.busStore q (0xF000000000 + off) bs poison = regStore q off bs s :)

/-- R4: accesses by size. A word access reads the addressed bytes or stores all four; a write of fewer has no effect; a
naturally aligned 64-bit access is two word accesses, lower first; any other access of the host has no effect and reads
zero; any other access of a requester inside the device is refused. The same of an instance page. -/
def Obligations.RegisterAccessesFollowTheirSize : Prop :=
  (∀ (s : State) (q : Requester) (off : BitVec 26) (len : Fin 4097), s.bar0Claims q off.toNat = true →
    s.hostReaches q (off.toNat / 4 * 4) = true → off.toNat % 4 + len.val ≤ 4 →
    exec (.registerRead q .bar0 off len) s = .next ((regRead (off.toNat / 4 * 4) (off.toNat % 4) len.val s).2.answered none
      (((leBytes 4 (regRead (off.toNat / 4 * 4) (off.toNat % 4) len.val s).1.toNat).drop (off.toNat % 4)).take len.val)) :)
  ∧ (∀ (s : State) (q : Requester) (off : BitVec 26) (v : W32), s.bar0Claims q off.toNat = true →
    s.hostReaches q off.toNat = true → off.toNat % 4 = 0 →
    exec (.registerWrite q .bar0 off (leBytes 4 v.toNat)) s = .next ((regWrite q off.toNat v s).answered none []) :)
  ∧ (∀ (s : State) (q : Requester) (off : BitVec 26) (data : List Byte), s.bar0Claims q off.toNat = true →
    data.length < 4 → off.toNat % 4 + data.length ≤ 4 →
    exec (.registerWrite q .bar0 off data) s = .next (s.answered none []) :)
  ∧ (∀ (s : State) (q : Requester) (off : BitVec 26), s.bar0Claims q off.toNat = true →
    s.hostReaches q off.toNat = true → off.toNat % 8 = 0 →
    (regRead off.toNat 0 4 s).2.hostReaches q (off.toNat + 4) = true →
    exec (.registerRead q .bar0 off 8) s = .next ((regRead (off.toNat + 4) 0 4 (regRead off.toNat 0 4 s).2).2.answered none
      (leBytes 4 (regRead off.toNat 0 4 s).1.toNat
        ++ leBytes 4 (regRead (off.toNat + 4) 0 4 (regRead off.toNat 0 4 s).2).1.toNat)) :)
  ∧ (∀ (s : State) (q : Requester) (off : BitVec 26) (lo hi : W32), s.bar0Claims q off.toNat = true →
    s.hostReaches q off.toNat = true → off.toNat % 8 = 0 → (regWrite q off.toNat lo s).hostReaches q (off.toNat + 4) = true →
    exec (.registerWrite q .bar0 off (leBytes 4 lo.toNat ++ leBytes 4 hi.toNat)) s
      = .next ((regWrite q (off.toNat + 4) hi (regWrite q off.toNat lo s)).answered none []) :)
  ∧ (∀ (s : State) (off : BitVec 26) (len : Fin 4097), s.bar0Claims .host off.toNat = true →
    4 < off.toNat % 4 + len.val → ¬(len.val = 8 ∧ off.toNat % 8 = 0) →
    exec (.registerRead .host .bar0 off len) s = .next (s.answered none (List.replicate len.val 0)) :)
  ∧ (∀ (s : State) (off : BitVec 26) (data : List Byte), s.bar0Claims .host off.toNat = true →
    4 < off.toNat % 4 + data.length → ¬(data.length = 8 ∧ off.toNat % 8 = 0) →
    exec (.registerWrite .host .bar0 off data) s = .next (s.answered none []) :)
  ∧ (∀ (s : State) (q : Requester) (off : BitVec 26) (len : Fin 4097), q ≠ .host → s.bar0Claims q off.toNat = true →
    4 < off.toNat % 4 + len.val → ¬(len.val = 8 ∧ off.toNat % 8 = 0) →
    exec (.registerRead q .bar0 off len) s = .next (s.answered (some .address) []) :)
  ∧ (∀ (s : State) (q : Requester) (off : BitVec 26) (data : List Byte), q ≠ .host → s.bar0Claims q off.toNat = true →
    4 < off.toNat % 4 + data.length → ¬(data.length = 8 ∧ off.toNat % 8 = 0) →
    exec (.registerWrite q .bar0 off data) s = .next (s.answered (some .address) []) :)
  ∧ (∀ (s : State) (off : BitVec 26) (data : List Byte), s.claims = true → off.toNat < 0x2000000 → data.length ≠ 4 →
    ¬(data.length = 8 ∧ off.toNat % 8 = 0) →
    exec (.registerWrite .host .bar4 off data) s = .next (s.answered none []) :)
  ∧ (∀ (s : State) (off : BitVec 26) (len : Fin 4097), s.claims = true → off.toNat < 0x2000000 →
    4 < off.toNat % 4 + len.val → ¬(len.val = 8 ∧ off.toNat % 8 = 0) →
    exec (.registerRead .host .bar4 off len) s = .next (s.answered none (List.replicate len.val 0)) :)
  ∧ (∀ (s : State) (off : BitVec 26) (v : W32), s.claims = true → off.toNat < 0x2000000 → off.toNat % 4 = 0 →
    exec (.registerWrite .host .bar4 off (leBytes 4 v.toNat)) s = .next ((pageWrite off.toNat v s).answered none []) :)
  ∧ (∀ (s : State) (off : BitVec 26) (lo hi : W32), s.claims = true → off.toNat < 0x2000000 → off.toNat % 8 = 0 →
    exec (.registerWrite .host .bar4 off (leBytes 4 lo.toNat ++ leBytes 4 hi.toNat)) s
      = .next ((pageWrite (off.toNat + 4) hi (pageWrite off.toNat lo s)).answered none []) :)
  ∧ (∀ (s : State) (off : BitVec 26) (len : Fin 4097), s.claims = true → off.toNat < 0x2000000 →
    off.toNat % 4 + len.val ≤ 4 →
    exec (.registerRead .host .bar4 off len) s
      = .next ((pageRead (off.toNat / 4 * 4) (off.toNat % 4) len.val s).2.answered none
        (((leBytes 4 (pageRead (off.toNat / 4 * 4) (off.toNat % 4) len.val s).1.toNat).drop (off.toNat % 4)).take len.val)) :)

/-- R5, R6: what a write stores and a read returns, by the access type of each field, in a register whose write and read
have no other action: an RW field takes the value, an RW1C bit is cleared by a one and kept by a zero, and every other bit,
reserved ones too, stays; a WO field reads zero, an RC field reads its value and is then zero, every other bit reads what it
holds. A write of a requester that the block shuts out, and a write of an offset of no register, change nothing. -/
def Obligations.RegistersFollowTheirAccessTypes : Prop :=
  (∀ (s : State) (q : Requester) (v : W32), coreWrites q = true →
    Does (.registerWrite q .bar0 (BitVec.ofNat 26 FLG_PEEK) (leBytes 4 v.toNat)) s
      [.regs, .answer32, .answerErr] fun t =>
      (s.bar0Claims q FLG_PEEK = true → t.gf FLG_PEEK FLG_PEEK_PFLAG = v.toNat % 2 ^ 18
        ∧ (t.rd FLG_PEEK).toNat / 2 ^ 18 = (s.rd FLG_PEEK).toNat / 2 ^ 18) ∧ RegsBut [FLG_PEEK] s t :)
  ∧ (∀ (s : State) (q : Requester) (v : W32), coreWrites q = true → s.bar0Claims q FLG_OVERSET_FIRST = true →
    Does (.registerWrite q .bar0 (BitVec.ofNat 26 FLG_OVERSET_FIRST) (leBytes 4 v.toNat)) s
      [.regs, .answer32, .answerErr] fun t =>
      t.bit FLG_OVERSET_FIRST FLG_OVERSET_FIRST_VALID = (s.bit FLG_OVERSET_FIRST FLG_OVERSET_FIRST_VALID && !bitAt v.toNat 31)
        ∧ (t.rd FLG_OVERSET_FIRST).toNat % 2 ^ 31 = (s.rd FLG_OVERSET_FIRST).toNat % 2 ^ 31
        ∧ RegsBut [FLG_OVERSET_FIRST] s t :)
  ∧ (∀ (s : State) (q : Requester) (v : W32), s.bar0Claims q FLG_OVERSET_CNT = true →
    Does (.registerWrite q .bar0 (BitVec.ofNat 26 FLG_OVERSET_CNT) (leBytes 4 v.toNat)) s
      [.regs, .answer32, .answerErr] fun t => RegsBut [] s t :)
  ∧ (∀ (s : State) (q : Requester), s.bar0Claims q FLG_OVERSET_CNT = true → s.hostReaches q FLG_OVERSET_CNT = true →
    Does (.registerRead q .bar0 (BitVec.ofNat 26 FLG_OVERSET_CNT) 4) s [.regs, .answer32, .answerErr] fun t =>
      t.answer32 = leBytes 4 (s.rd FLG_OVERSET_CNT).toNat ∧ t.rd FLG_OVERSET_CNT = 0 ∧ RegsBut [FLG_OVERSET_CNT] s t :)
  ∧ (∀ (s : State) (q : Requester), s.bar0Claims q FLG_SIGNAL = true → s.hostReaches q FLG_SIGNAL = true →
    Does (.registerRead q .bar0 (BitVec.ofNat 26 FLG_SIGNAL) 4) s [.answer32, .answerErr] fun t =>
      t.answer32 = [0, 0, 0, 0] ∧ t.answerErr = none :)
  ∧ (∀ (s : State) (v : W32), s.bar0Claims .host FLG_PEEK = true →
    Does (.registerWrite .host .bar0 (BitVec.ofNat 26 FLG_PEEK) (leBytes 4 v.toNat)) s
      [.regs, .answer32, .answerErr] fun t => RegsBut [] s t :)
  ∧ (∀ (s : State) (q : Requester) (off : BitVec 26) (v : W32), findReg off.toNat = none → 0x2F0040 ≤ off.toNat →
    off.toNat % 4 = 0 → s.bar0Claims q off.toNat = true →
    Does (.registerWrite q .bar0 off (leBytes 4 v.toNat)) s [.answer32, .answerErr] fun _ => True :)
  ∧ (∀ (s : State) (q : Requester) (off : BitVec 26), findReg off.toNat = none → off.toNat % 4 = 0 →
    s.bar0Claims q off.toNat = true → s.hostReaches q off.toNat = true → s.absentPort off.toNat = false →
    off.toNat ≠ TIME_NOW + 4 →
    Does (.registerRead q .bar0 off 4) s [.answer32, .answerErr] fun t => t.answer32 = [0, 0, 0, 0] :)
  ∧ (∀ (s : State) (q : Requester) (off : BitVec 26) (data : List Byte), q ≠ .host → s.bar0Claims q off.toNat = false →
    exec (.registerWrite q .bar0 off data) s = .next (s.answered (some .address) []) :)
  ∧ (∀ (s : State) (q : Requester) (off : BitVec 26) (len : Fin 4097), q ≠ .host → s.bar0Claims q off.toNat = false →
    exec (.registerRead q .bar0 off len) s = .next (s.answered (some .address) []) :)
  ∧ (∀ (s : State) (off : BitVec 26) (data : List Byte), s.bar0Claims .host off.toNat = false →
    Does (.registerWrite .host .bar0 off data) s [.out, .host, .answer32, .answerErr] fun t =>
      t.answerErr = some .address ∧ t.answer32 = [] :)
  ∧ (∀ (s : State) (off : BitVec 26) (len : Fin 4097), s.bar0Claims .host off.toNat = false →
    Does (.registerRead .host .bar0 off len) s [.out, .host, .answer32, .answerErr] fun t =>
      t.answerErr = some .address ∧ t.answer32 = [] :)

/-- R318, R401: the JTAG data registers and CORE_EVT. -/
def Obligations.JtagAndCoreEventsAct : Prop :=
  (∀ (s : State), Does (.jtagAccess .challenge) s [.free, .sec, .pins] fun t =>
    t.sec.challenge = some (s.entropy 32) ∧ t.pins.tapDr = s.entropy 32 :)
  ∧ (∀ (s : State), Does (.jtagAccess .boundary) s [.free, .pins] fun t => t.pins.tapDr = s.entropy 64 :)
  ∧ (∀ (s : State) (t0 : List Byte), s.tokenOk t0 = false → Does (.jtagAccess (.token t0)) s [] fun _ => True :)
  ∧ (∀ (s : State) (a : BitVec 52) (len : BitVec 8), s.scope 1 = false →
    Does (.jtagAccess (.read a len)) s [.answer32, .answerErr] fun t => t.answerErr = some .address ∧ t.answer32 = [] :)
  ∧ (∀ (s : State) (q : Requester) (c : Fin 33) (v : W32), coreWrites q = true → c.val < 32 →
    Does (.coreEvt q c v) s [.tahr] fun t =>
      (t.tahrOf c.val).events = (s.tahrOf c.val).events ||| (v &&& 0xFFFF0000#32)
        ∧ { t.tahrOf c.val with events := (s.tahrOf c.val).events } = s.tahrOf c.val
        ∧ ∀ k, k < 32 → k ≠ c.val → t.tahrOf k = s.tahrOf k :)
  ∧ (∀ (s : State) (c : Fin 33) (v : W32), Does (.coreEvt .host c v) s [] fun _ => True :)

/-- R42, the CLU base registers: a write of either half of CLU_CMD_BASE while CMD_EN is zero stores the half, zeroes the
command-ring indices, drops what was fetched and leaves what was issued; while CMD_EN is one it has no effect. A write of
either half of CLU_CMPL_BASE zeroes the completion-ring indices, and has no effect while CMPL_EN is one. -/
def Obligations.ClusterBaseWritesZeroTheIndices : Prop :=
  (∀ (s : State) (q : Requester) (c : Fin 1024) (hi : Bool) (v : W32), coreWrites q = true → s.cmdEn (cluB c.val) = false →
    Does (.cluCmdBaseWrite q c hi v) s [.regs, .rings] fun t =>
      t.rd (if hi then cluB c.val + 4 else cluB c.val)
          = BitVec.ofNat 32 (if hi then v.toNat % 2 ^ 20 else v.toNat / 4096 * 4096 + v.toNat % 32)
        ∧ t.cmdHead (cluB c.val) = 0 ∧ (t.ring (cluB c.val)).tail = 0 ∧ (t.ring (cluB c.val)).fetchIx = 0
        ∧ (t.ring (cluB c.val)).fetched = [] ∧ (t.ring (cluB c.val)).issued = (s.ring (cluB c.val)).issued
        ∧ RegsBut [if hi then cluB c.val + 4 else cluB c.val, CLU_STATUS c.val, CLU_PSTAT c.val] s t :)
  ∧ (∀ (s : State) (q : Requester) (c : Fin 1024) (hi : Bool) (v : W32), coreWrites q = true → s.cmdEn (cluB c.val) = true →
    Does (.cluCmdBaseWrite q c hi v) s [.regs] fun t => RegsBut [CLU_PSTAT c.val] s t :)
  ∧ (∀ (s : State) (q : Requester) (c : Fin 1024) (hi : Bool) (v : W32), coreWrites q = true → s.cmplEn (cluB c.val) = false →
    Does (.cluCmplBaseWrite q c hi v) s [.regs] fun t =>
      t.rd (if hi then CLU_CMPL_BASE c.val + 4 else CLU_CMPL_BASE c.val)
          = BitVec.ofNat 32 (if hi then v.toNat % 2 ^ 20 else v.toNat / 4096 * 4096 + v.toNat % 32)
        ∧ t.cmplTail (cluB c.val) = 0 ∧ t.gf (CLU_CMPL_HEAD c.val) CLU_CMPL_HEAD_HEAD = 0
        ∧ RegsBut [if hi then CLU_CMPL_BASE c.val + 4 else CLU_CMPL_BASE c.val, CLU_STATUS c.val, CLU_CMPL_HEAD c.val] s t :)
  ∧ (∀ (s : State) (q : Requester) (c : Fin 1024) (hi : Bool) (v : W32), coreWrites q = true → s.cmplEn (cluB c.val) = true →
    Does (.cluCmplBaseWrite q c hi v) s [] fun _ => True :)

/-- R42, the enables of the CLU rings: setting one runs its consistency check, an accepted set leaves REFUSAL zero and a
refused one leaves the bit clear and its code in REFUSAL; clearing CMD_EN leaves the ring and CMD_HEAD as they are;
clearing CMPL_EN has no effect while CMD_EN is one or an issued descriptor has not completed. FCTX is written while CMD_EN
was zero only. -/
def Obligations.ClusterEnablesAreChecked : Prop :=
  (∀ (s : State) (q : Requester) (c : Fin 1024) (v : W32), coreWrites q = true → s.cmdEn (cluB c.val) = false →
    s.cmplEn (cluB c.val) = true → bitAt v.toNat 1 = true → s.cmdEnCheck (cluB c.val) true = none →
    Does (.cmdEnSet q c v) s [.regs] fun t =>
      t.cmdEn (cluB c.val) = true ∧ t.cmplEn (cluB c.val) = true ∧ t.fctx (cluB c.val) = bitsOf v.toNat 16 12
        ∧ t.gf (CLU_ERR c.val) CLU_ERR_REFUSAL = 0
        ∧ RegsBut [CLU_CTL c.val, CLU_ERR c.val, CLU_PSTAT c.val] s t :)
  ∧ (∀ (s : State) (q : Requester) (c : Fin 1024) (v : W32) (code : Nat), coreWrites q = true → s.cmdEn (cluB c.val) = false →
    s.cmplEn (cluB c.val) = true → bitAt v.toNat 1 = true → s.cmdEnCheck (cluB c.val) true = some code →
    Does (.cmdEnSet q c v) s [.regs] fun t =>
      t.cmdEn (cluB c.val) = false ∧ t.gf (CLU_ERR c.val) CLU_ERR_REFUSAL = code
        ∧ RegsBut [CLU_CTL c.val, CLU_ERR c.val, CLU_PSTAT c.val] s t :)
  ∧ (∀ (s : State) (q : Requester) (c : Fin 1024) (v : W32), coreWrites q = true → s.cmdEn (cluB c.val) = true →
    s.cmplEn (cluB c.val) = true → bitAt v.toNat 1 = true →
    Does (.cmdEnClear q c v) s [.regs] fun t =>
      t.cmdEn (cluB c.val) = false ∧ t.fctx (cluB c.val) = s.fctx (cluB c.val)
        ∧ RegsBut [CLU_CTL c.val, CLU_PSTAT c.val] s t :)
  ∧ (∀ (s : State) (q : Requester) (c : Fin 1024) (v : W32), coreWrites q = true → s.cmdEn (cluB c.val) = false →
    s.cmplEn (cluB c.val) = false → bitAt v.toNat 0 = false → s.cmplEnCheck (cluB c.val) = none →
    Does (.cmplEnSet q c v) s [.regs] fun t =>
      t.cmplEn (cluB c.val) = true ∧ t.gf (CLU_ERR c.val) CLU_ERR_REFUSAL = 0
        ∧ RegsBut [CLU_CTL c.val, CLU_ERR c.val, CLU_PSTAT c.val] s t :)
  ∧ (∀ (s : State) (q : Requester) (c : Fin 1024) (v : W32), coreWrites q = true → s.cmdEn (cluB c.val) = false →
    s.cmplEn (cluB c.val) = true → bitAt v.toNat 0 = false → (s.ring (cluB c.val)).issued = [] →
    Does (.cmplEnClear q c v) s [.regs] fun t =>
      t.cmplEn (cluB c.val) = false ∧ RegsBut [CLU_CTL c.val, CLU_PSTAT c.val] s t :)
  ∧ (∀ (s : State) (q : Requester) (c : Fin 1024) (v : W32), coreWrites q = true → s.cmplEn (cluB c.val) = true →
    (s.cmdEn (cluB c.val) = true ∧ bitAt v.toNat 0 = true ∨ (s.ring (cluB c.val)).issued ≠ []) →
    Does (.cmplEnClear q c v) s [.regs] fun t => t.cmplEn (cluB c.val) = true :)

/-- R43, R46, R47, R491, R61: a CLU_DB write records its tail at once, or sets OVERRUN and HALTED and records nothing when
it names more descriptors than the ring holds; a write of CLU_CMPL_HEAD stores HEAD; a one written to HALTED resumes issue
and lets a failed descriptor be fetched again. -/
def Obligations.ClusterDoorbellAndResume : Prop :=
  (∀ (s : State) (q : Requester) (c : Fin 1024) (v : W32), coreWrites q = true →
    ixDiff (v.toNat % 2 ^ 16) (s.cmdHead (cluB c.val)) ≤ 2 ^ s.cmdLog (cluB c.val) →
    Does (.cluDb q c v) s [.regs, .rings, .clu] fun t =>
      t.ring (cluB c.val) = { s.ring (cluB c.val) with tail := v.toNat % 2 ^ 16 }
        ∧ RegsBut [CLU_PSTAT c.val, CLU_PCTL c.val] s t :)
  ∧ (∀ (s : State) (q : Requester) (c : Fin 1024) (v : W32), coreWrites q = true →
    ixDiff (v.toNat % 2 ^ 16) (s.cmdHead (cluB c.val)) > 2 ^ s.cmdLog (cluB c.val) →
    Does (.cluDb q c v) s [.regs] fun t =>
      t.gf (CLU_ERR c.val) CLU_ERR_OVERRUN = 1 ∧ t.gf (CLU_ERR c.val) CLU_ERR_HALTED = 1
        ∧ RegsBut [CLU_ERR c.val, CLU_PSTAT c.val] s t :)
  ∧ (∀ (s : State) (q : Requester) (c : Fin 1024) (v : W32), coreWrites q = true →
    Does (.cluCmplHeadWrite q c v) s [.regs] fun t =>
      t.gf (CLU_CMPL_HEAD c.val) CLU_CMPL_HEAD_HEAD = v.toNat % 2 ^ 16 ∧ RegsBut [CLU_CMPL_HEAD c.val] s t :)
  ∧ (∀ (s : State) (q : Requester) (c : Fin 1024) (v : W32), coreWrites q = true →
    Does (.haltedResume q c v) s [.regs, .rings] fun t =>
      t.gf (CLU_ERR c.val) CLU_ERR_HALTED = 0 ∧ t.ring (cluB c.val) = { s.ring (cluB c.val) with fetchFail := false }
        ∧ RegsBut [CLU_ERR c.val, CLU_PSTAT c.val] s t :)

/-- R61, R62: a TARGET write outside a transition stores TARGET and, from Overcast, starts the wake; during a transition
it is held; an idle cluster in Clear enters Haze; TARGET 2 starts the entry into Overcast, whose end shows RETAINED equal to RETAIN;
a doorbell with AUTOWAKE or a TARGET write starts the wake, whose end zeroes every scratchpad byte of a bank that was not
retained and leaves every other byte. -/
def Obligations.ClusterPowerStatesFollowTarget : Prop :=
  (∀ (s : State) (q : Requester) (c : Fin 1024) (v : W32), coreWrites q = true → v.toNat % 4 ≠ 3 → s.cluMoving c.val = false →
    Does (.targetWrite q c v) s [.regs] fun t =>
      t.cluTarget c.val = v.toNat % 4 ∧ t.gf (CLU_PCTL c.val) CLU_PCTL_RETAIN = bitsOf v.toNat 16 16
        ∧ t.gf (CLU_PCTL c.val) CLU_PCTL_IDLE_HAZE = bitsOf v.toNat 8 8
        ∧ t.gf (CLU_PCTL c.val) CLU_PCTL_AUTOWAKE = bitsOf v.toNat 2 1
        ∧ t.cluMoving c.val = (decide (s.cluState c.val = 2) && decide (v.toNat % 4 < 2))
        ∧ RegsBut [CLU_PCTL c.val, CLU_PSTAT c.val] s t :)
  ∧ (∀ (s : State) (q : Requester) (c : Fin 1024) (v : W32), coreWrites q = true → v.toNat % 4 ≠ 3 → s.cluMoving c.val = true →
    Does (.targetWrite q c v) s [.regs, .clu] fun t =>
      (t.cluOf c.val).held = some (v.toNat % 4) ∧ RegsBut [CLU_PCTL c.val] s t :)
  ∧ (∀ (s : State) (c : Fin 1024), s.cluState c.val = 0 → s.cluMoving c.val = false → s.cluIdle c.val = true →
    (s.cluTarget c.val = 1 ∨ s.cluTarget c.val = 0 ∧ s.gf (CLU_PCTL c.val) CLU_PCTL_IDLE_HAZE ≠ 0) →
    Does (.hazeEntry c) s [.regs] fun t => t.cluState c.val = 1 ∧ RegsBut [CLU_PSTAT c.val] s t :)
  ∧ (∀ (s : State) (c : Fin 1024), s.cluTarget c.val = 2 → s.cluState c.val ≠ 2 → s.cluMoving c.val = false →
    s.cluIdle c.val = true →
    Does (.overcastEntry c) s [.regs] fun t => t.cluMoving c.val = true ∧ RegsBut [CLU_PSTAT c.val] s t :)
  ∧ (∀ (s : State) (c : Fin 1024), s.cluMoving c.val = true → s.cluState c.val ≠ 2 → (s.cluOf c.val).held = none →
    Does (.overcastEntryDone c) s [.regs, .rings, .flags] fun t =>
      t.cluState c.val = 2 ∧ t.cluMoving c.val = false
        ∧ t.gf (CLU_PSTAT c.val) CLU_PSTAT_RETAINED = s.gf (CLU_PCTL c.val) CLU_PCTL_RETAIN
        ∧ RegsBut [CLU_PSTAT c.val] s t :)
  ∧ (∀ (s : State) (q : Requester) (c : Fin 1024) (tail : BitVec 16), coreWrites q = true → s.cluState c.val = 2 →
    s.cluMoving c.val = false → s.gf (CLU_PCTL c.val) CLU_PCTL_AUTOWAKE = 1 →
    ixDiff tail.toNat (s.cmdHead (cluB c.val)) ≤ 2 ^ s.cmdLog (cluB c.val) →
    Does (.overcastWake q c (.doorbell tail)) s [.regs, .rings] fun t =>
      t.cluTarget c.val = 0 ∧ t.cluMoving c.val = true ∧ (t.ring (cluB c.val)).tail = tail.toNat
        ∧ RegsBut [CLU_PCTL c.val, CLU_PSTAT c.val] s t :)
  ∧ (∀ (s : State) (q : Requester) (c : Fin 1024) (target : BitVec 2), coreWrites q = true → s.cluState c.val = 2 →
    s.cluMoving c.val = false → target.toNat < 2 →
    Does (.overcastWake q c (.target target)) s [.regs] fun t =>
      t.cluTarget c.val = target.toNat ∧ t.cluMoving c.val = true ∧ RegsBut [CLU_PCTL c.val, CLU_PSTAT c.val] s t :)
  ∧ (∀ (s : State) (c : Fin 1024), s.cluMoving c.val = true → s.cluState c.val = 2 → (s.cluOf c.val).held = none →
    Does (.overcastWakeDone c) s [.regs, .mem, .marks, .free, .clu] fun t =>
      t.cluState c.val = 0 ∧ t.cluMoving c.val = false ∧ RegsBut [CLU_PSTAT c.val] s t
        ∧ ∀ off, off < 0x80000 → t.byte (scratchAddr c.val off) =
            if bitAt (s.gf (CLU_PSTAT c.val) CLU_PSTAT_RETAINED) (off / 64 % 16) then s.byte (scratchAddr c.val off) else 0 :)

/-- R44, R45, R46, R491, R492: the front end fetches the oldest descriptor not yet fetched, or records the error of the
fetch and stops there; the descriptor at the head of issue takes a slot of its unit, with its status when a check of R492
fails; a descriptor that has its result completes, and a status other than DONE and POISON_PASSED halts the ring. -/
def Obligations.DescriptorsAreFetchedIssuedAndCompleted : Prop :=
  (∀ (s : State) (c : Fin 1024) (d : List Byte), s.cluState c.val = 0 → s.cluMoving c.val = false → s.cmdEn (cluB c.val) = true →
    s.blockDown 6 = false → s.safe = false → (s.ring (cluB c.val)).fetchFail = false →
    (s.ring (cluB c.val)).fetched.length < 16 → (s.ring (cluB c.val)).fetchIx ≠ (s.ring (cluB c.val)).tail →
    (s.fetchEntry (cluB c.val) (s.ring (cluB c.val)).fetchIx).1 = some d →
    Does (.descriptorFetch c) s (Part.reading ++ [.rings]) fun t =>
      (t.ring (cluB c.val)).fetched = (s.ring (cluB c.val)).fetched ++ [((s.ring (cluB c.val)).fetchIx, d)]
        ∧ (t.ring (cluB c.val)).fetchIx = ix16 ((s.ring (cluB c.val)).fetchIx + 1) :)
  ∧ (∀ (s : State) (c : Fin 1024), s.cluState c.val = 0 → s.cluMoving c.val = false → s.cmdEn (cluB c.val) = true →
    s.blockDown 6 = false → s.safe = false → (s.ring (cluB c.val)).fetchFail = false →
    (s.ring (cluB c.val)).fetched.length < 16 → (s.ring (cluB c.val)).fetchIx ≠ (s.ring (cluB c.val)).tail →
    (s.fetchEntry (cluB c.val) (s.ring (cluB c.val)).fetchIx).1 = none →
    Does (.descriptorFetch c) s (Part.reading ++ [.rings]) fun t =>
      t.gf (CLU_ERR c.val) CLU_ERR_FETCH_ERR = 1 ∧ (t.ring (cluB c.val)).fetchFail = true
        ∧ (t.ring (cluB c.val)).fetched = (s.ring (cluB c.val)).fetched :)
  ∧ (∀ (s : State) (c : Fin 1024) (ix : Nat) (d : List Byte) (rest : List (Nat × List Byte)), s.cluState c.val = 0 →
    s.cluMoving c.val = false → s.issueStopped c.val = false → (s.ring (cluB c.val)).fetched = (ix, d) :: rest →
    ((s.ring (cluB c.val)).issued.filter (fun i => i.unit == queueOf (s.ring (cluB c.val)).issued d)).length < 4 →
    dOrder d = false → checkDesc d = 0 → dWaitOp d = 0 → dOpcode d ≠ 0x02 →
    Does (.descriptorIssue c) s [.regs, .rings, .flags] fun t =>
      (t.ring (cluB c.val)).fetched = rest
        ∧ (t.ring (cluB c.val)).issued = (s.ring (cluB c.val)).issued
            ++ [⟨ix, (s.ring (cluB c.val)).epoch, d, queueOf (s.ring (cluB c.val)).issued d, false, none⟩] :)
  ∧ (∀ (s : State) (c : Fin 1024) (ix : Nat) (d : List Byte) (rest : List (Nat × List Byte)), s.cluState c.val = 0 →
    s.cluMoving c.val = false → s.issueStopped c.val = false → (s.ring (cluB c.val)).fetched = (ix, d) :: rest →
    ((s.ring (cluB c.val)).issued.filter (fun i => i.unit == queueOf (s.ring (cluB c.val)).issued d)).length < 4 →
    dOrder d = false → checkDesc d ≠ 0 →
    Does (.descriptorIssue c) s [.regs, .rings, .flags] fun t =>
      (t.ring (cluB c.val)).fetched = rest
        ∧ (t.ring (cluB c.val)).issued = (s.ring (cluB c.val)).issued
            ++ [⟨ix, (s.ring (cluB c.val)).epoch, d, queueOf (s.ring (cluB c.val)).issued d, true, some (checkDesc d, 0)⟩] :)
  ∧ (∀ (s : State) (c : Fin 1024) (ix p : Nat) (d : List Byte) (rest : List (Nat × List Byte)), s.cluState c.val = 0 →
    s.cluMoving c.val = false → s.issueStopped c.val = false → (s.ring (cluB c.val)).fetched = (ix, d) :: rest →
    ((s.ring (cluB c.val)).issued.filter (fun i => i.unit == queueOf (s.ring (cluB c.val)).issued d)).length < 4 →
    dOrder d = false → checkDesc d = 0 → dOpcode d ≠ 0x02 → (dWaitOp d = 1 ∨ dWaitOp d = 2) →
    s.waitXlat c.val ix (s.ring (cluB c.val)).epoch = some p → Tab.get markClean s.flags.ecc (p / 64) = .clean →
    s.flt.injections = [] →
    Does (.descriptorIssue c) s [.regs, .rings, .flags, .flt] fun t =>
      (s.flagVal p = false → (t.ring (cluB c.val)) = s.ring (cluB c.val) ∧ t.flagVal p = false
        ∧ t.waitXlat c.val ix (s.ring (cluB c.val)).epoch = some p)
      ∧ (s.flagVal p = true → (t.ring (cluB c.val)).fetched = rest ∧ t.flagVal p = decide (dWaitOp d = 1)
        ∧ (t.ring (cluB c.val)).issued = (s.ring (cluB c.val)).issued
            ++ [⟨ix, (s.ring (cluB c.val)).epoch, d, queueOf (s.ring (cluB c.val)).issued d, false, none⟩])
      ∧ RegsBut [CLU_PSTAT c.val, CLU_ERR c.val] s t :)
  ∧ (∀ (s : State) (c : Fin 1024) (ix : W16) (i : Issued) (nf : Nat),
    (s.ring (cluB c.val)).issued.find? (fun i => i.ix == ix.toNat && i.result.isSome) = some i → dSetOp i.desc = 0 →
    i.result = some (0, nf) → dCmpl i.desc = false →
    Does (.descriptorComplete c ix) s [.regs, .rings] fun t =>
      (t.ring (cluB c.val)).issued
          = (s.ring (cluB c.val)).issued.filter (fun d => !(d.ix == i.ix && d.epoch == i.epoch))
        ∧ (i.epoch = (s.ring (cluB c.val)).epoch → t.cmdHead (cluB c.val) =
            (advanceHead (2 ^ 16) (s.cmdHead (cluB c.val)) ((s.ring (cluB c.val)).done ++ [i.ix])).1 % 2 ^ 16)
        ∧ RegsBut [CLU_STATUS c.val, CLU_PSTAT c.val] s t :)
  ∧ (∀ (s : State) (c : Fin 1024) (ix : W16) (i : Issued) (st nf : Nat),
    (s.ring (cluB c.val)).issued.find? (fun i => i.ix == ix.toNat && i.result.isSome) = some i → dSetOp i.desc = 0 →
    i.result = some (st, nf) → st ≠ 0 → st ≠ 0x12 → s.cmplRoom (cluB c.val) = true →
    Does (.descriptorComplete c ix) s (Part.storing ++ [.rings, .free]) fun t =>
      t.gf (CLU_ERR c.val) CLU_ERR_HALTED = 1
        ∧ (t.ring (cluB c.val)).issued
            = (s.ring (cluB c.val)).issued.filter (fun d => !(d.ix == i.ix && d.epoch == i.epoch)) :)
  ∧ (∀ (s : State) (c : Fin 1024) (ix : W16) (i : Issued) (st nf : Nat),
    (s.ring (cluB c.val)).issued.find? (fun i => i.ix == ix.toNat && i.result.isSome) = some i → dSetOp i.desc = 0 →
    i.result = some (st, nf) → (st ≠ 0 ∨ dCmpl i.desc = true) → s.cmplRoom (cluB c.val) = false →
    Does (.descriptorComplete c ix) s [] fun _ => True :)

/-- R39, R49 to R55: each unit runs its next descriptor to a result: DONE when no word it reads is bad, 0x0013 when a unit
consumed a bad word. The element-wise vector operations leave at Z the results of their function on the elements of X and Y. -/
def Obligations.UnitsRunTheirDescriptors : Prop :=
  (∀ (s : State) (c : Fin 1024) (i : Issued), UnitNext c.val 0 0x00 i s →
    Does (.nop c) s [.rings] fun t => UnitDone c.val i 0 0 t :)
  ∧ (∀ (s : State) (c : Fin 1024) (i : Issued), UnitNext c.val 1 0x10 i s →
    (s.unitRows c.val (mmaA i.desc)).1 = false →
    ((s.unitRows c.val (mmaA i.desc)).2.2.unitRows c.val (mmaB i.desc)).1 = false → mmaAcc i.desc = false →
    Does (.mma c) s Part.unitRun fun t => UnitDone c.val i 0 0 t :)
  ∧ (∀ (s : State) (c : Fin 1024) (i : Issued), UnitNext c.val 2 0x20 i s → s.rivals c.val 2 = [] → checkDesc i.desc = 0 → dYImm i.desc = true →
    (s.unitRead c.val (vecX i.desc)).1 = false →
    Does (.vecBin c) s Part.unitRun fun t => UnitDone c.val i 0 0 t ∧
      t.bytes (scratchAddr c.val (dOff i.desc 6)) (vecZLen i.desc) =
        ((decodeElems (dFmt i.desc 4) (vecCount i.desc) (s.unitRead c.val (vecX i.desc)).2.1).map (fun x =>
          vecBytes (dFmt i.desc 6) (vecBinF (dFunc i.desc) x (fp32.decode (dImm i.desc))))).flatten :)
  ∧ (∀ (s : State) (c : Fin 1024) (i : Issued), UnitNext c.val 2 0x21 i s → dYImm i.desc = true →
    (s.unitRead c.val (vecX i.desc)).1 = false →
    ((s.unitRead c.val (vecX i.desc)).2.2.unitRead c.val (vecZ i.desc)).1 = false →
    Does (.vecFma c) s Part.unitRun fun t => UnitDone c.val i 0 0 t :)
  ∧ (∀ (s : State) (c : Fin 1024) (i : Issued), UnitNext c.val 2 0x22 i s → s.rivals c.val 2 = [] → checkDesc i.desc = 0 →
    (s.unitRead c.val (vecX i.desc)).1 = false →
    Does (.vecUn c) s Part.unitRun fun t => UnitDone c.val i 0 0 t ∧
      t.bytes (scratchAddr c.val (dOff i.desc 6)) (vecZLen i.desc) =
        ((decodeElems (dFmt i.desc 4) (vecCount i.desc) (s.unitRead c.val (vecX i.desc)).2.1).map (fun x =>
          vecBytes (dFmt i.desc 6) (vecUnF (dFunc i.desc) (fp32.decode (dImm i.desc)) x))).flatten :)
  ∧ (∀ (s : State) (c : Fin 1024) (i : Issued), UnitNext c.val 2 0x22 i s → (s.unitRead c.val (vecX i.desc)).1 = true →
    Does (.vecUn c) s Part.unitRun fun t => UnitDone c.val i 0x13 0 t :)
  ∧ (∀ (s : State) (c : Fin 1024) (i : Issued), UnitNext c.val 2 0x23 i s → (s.unitRead c.val (vecX i.desc)).1 = false →
    Does (.vecRed c) s Part.unitRun fun t => UnitDone c.val i 0 0 t :)
  ∧ (∀ (s : State) (c : Fin 1024) (i : Issued), UnitNext c.val 2 0x24 i s → (s.unitRead c.val (vecX i.desc)).1 = false →
    Does (.vecTopk c) s Part.unitRun fun t => UnitDone c.val i 0 0 t :)
  ∧ (∀ (s : State) (c : Fin 1024) (i : Issued), UnitNext c.val 2 0x25 i s →
    Does (.vecRand c) s (Part.unitRun ++ [.clu]) fun t => UnitDone c.val i 0 0 t :)
  ∧ (∀ (s : State) (c : Fin 1024) (i : Issued), UnitNext c.val 3 0x28 i s → (s.unitRead c.val (vecX i.desc)).1 = false →
    Does (.sfu c) s Part.unitRun fun t => UnitDone c.val i 0 0 t :)
  ∧ (∀ (s : State) (c : Fin 1024) (i : Issued), UnitNext c.val 2 0x30 i s → cvtRin i.desc = false →
    ((s.seedBank c.val 1 (dImm i.desc)).unitRead c.val (spadOne (dOff i.desc 4) (storedBytes (dFmt i.desc 4) (cvtCount i.desc)))).1 = false →
    Does (.cvt c) s (Part.unitRun ++ [.clu]) fun t => ∃ nf ∈ List.range (cvtCount i.desc + 1), UnitDone c.val i 0 nf t :)

/-- R39, R55, R56, R59: the movers run their next descriptor. Rows that lie in HBM, in lines without marks, which nothing
protects, holds back or has armed, complete with DONE: a copy, a gather and a scatter leave the source bytes of each row at
its destination, a fill its pattern, and every byte of memory outside the destination is as it was. A copy of a poisoned line
completes with 0x0012; one whose source is refused, or a fill whose destination is, moves nothing and completes with 0x0010
or 0x0011; a list whose ranges meet completes with OVERLAP, one with a bad word with 0x0013. -/
def Obligations.MoversRunTheirDescriptors : Prop :=
  (∀ (s : State) (c : Fin 1024) (m : Fin 2) (i : Issued), UnitNext c.val (4 + m.val) 0x40 i s → s.rivals c.val (4 + m.val) = [] →
    s.plainRows (dmaLen i.desc) [(dmaSrc i.desc, dmaDst i.desc)] → rowsOverlap (dmaLen i.desc) [(dmaSrc i.desc, dmaDst i.desc)] = false →
    Does (.dmaCopy c m) s Part.moving fun t => UnitDone c.val i 0 0 t ∧
      t.bytes (dmaDst i.desc) (dmaLen i.desc) = s.bytes (dmaSrc i.desc) (dmaLen i.desc)
        ∧ BytesBut (dmaLen i.desc) [dmaDst i.desc] s t :)
  ∧ (∀ (s : State) (c : Fin 1024) (m : Fin 2) (i : Issued) (e : MemErr), UnitNext c.val (4 + m.val) 0x40 i s →
    s.accessErr (dmaSrc i.desc) (dmaLen i.desc) false = some e →
    Does (.dmaCopy c m) s [.rings] fun t => UnitDone c.val i (if e = .hostDown then 0x11 else 0x10) 0 t :)
  ∧ (∀ (s : State) (c : Fin 1024) (m : Fin 2) (i : Issued) (k : Nat), UnitNext c.val (4 + m.val) 0x40 i s →
    s.rivals c.val (4 + m.val) = [] → k < dmaLen i.desc → s.lineMark (dmaSrc i.desc + k) = .poisoned →
    s.plainRows (dmaLen i.desc) [(dmaDst i.desc, dmaDst i.desc)] → dmaSrc i.desc + dmaLen i.desc ≤ hbmBytes →
    Does (.dmaCopy c m) s (Part.reading ++ Part.moving) fun t => UnitDone c.val i 0x12 0 t :)
  ∧ (∀ (s : State) (c : Fin 1024) (m : Fin 2) (i : Issued), UnitNext c.val (4 + m.val) 0x41 i s → s.rivals c.val (4 + m.val) = [] →
    s.plainRows (dmaLen i.desc) (dmaCopyRows i.desc) → rowsOverlap (dmaLen i.desc) (dmaCopyRows i.desc) = false →
    dmaLen i.desc ≤ dmaDstStride i.desc →
    Does (.dma2d c m) s Part.moving fun t => UnitDone c.val i 0 0 t
      ∧ (∀ p ∈ dmaCopyRows i.desc, t.bytes p.2 (dmaLen i.desc) = s.bytes p.1 (dmaLen i.desc))
      ∧ BytesBut (dmaLen i.desc) ((dmaCopyRows i.desc).map (·.2)) s t :)
  ∧ (∀ (s : State) (c : Fin 1024) (m : Fin 2) (i : Issued) (p : Nat × Nat) (rest : List (Nat × Nat)) (e : MemErr),
    UnitNext c.val (4 + m.val) 0x41 i s → dmaCopyRows i.desc = p :: rest → s.accessErr p.1 (dmaLen i.desc) false = some e →
    Does (.dma2d c m) s [.rings] fun t => UnitDone c.val i (if e = .hostDown then 0x11 else 0x10) 0 t :)
  ∧ (∀ (s : State) (c : Fin 1024) (m : Fin 2) (i : Issued), UnitNext c.val (4 + m.val) 0x42 i s → s.rivals c.val (4 + m.val) = [] →
    s.listClean c.val i.desc → s.plainRows (dmaLen i.desc) (s.listRows c.val false i.desc) →
    rowsOverlap (dmaLen i.desc) (s.listRows c.val false i.desc) = false →
    Does (.dmaGather c m) s Part.moving fun t => UnitDone c.val i 0 0 t
      ∧ (∀ p ∈ s.listRows c.val false i.desc, t.bytes p.2 (dmaLen i.desc) = s.bytes p.1 (dmaLen i.desc))
      ∧ BytesBut (dmaRows i.desc * dmaLen i.desc) [dmaDst i.desc] s t :)
  ∧ (∀ (s : State) (c : Fin 1024) (m : Fin 2) (i : Issued), UnitNext c.val (4 + m.val) 0x42 i s → s.listClean c.val i.desc →
    rowsOverlap (dmaLen i.desc) (s.listRows c.val false i.desc) = true →
    Does (.dmaGather c m) s [.rings] fun t => UnitDone c.val i 0x06 0 t :)
  ∧ (∀ (s : State) (c : Fin 1024) (m : Fin 2) (i : Issued) (p : Nat × Nat) (rest : List (Nat × Nat)) (e : MemErr),
    UnitNext c.val (4 + m.val) 0x42 i s → s.listClean c.val i.desc →
    rowsOverlap (dmaLen i.desc) (s.listRows c.val false i.desc) = false → s.listRows c.val false i.desc = p :: rest →
    s.accessErr p.1 (dmaLen i.desc) false = some e →
    Does (.dmaGather c m) s [.rings] fun t => UnitDone c.val i (if e = .hostDown then 0x11 else 0x10) 0 t :)
  ∧ (∀ (s : State) (c : Fin 1024) (m : Fin 2) (i : Issued), UnitNext c.val (4 + m.val) 0x42 i s →
    (s.unitRead c.val (spadOne (dmaList i.desc) (8 * dmaRows i.desc))).1 = true →
    Does (.dmaGather c m) s (Part.reading ++ [.rings]) fun t => UnitDone c.val i 0x13 0 t :)
  ∧ (∀ (s : State) (c : Fin 1024) (m : Fin 2) (i : Issued), UnitNext c.val (4 + m.val) 0x43 i s → s.rivals c.val (4 + m.val) = [] →
    s.listClean c.val i.desc → s.plainRows (dmaLen i.desc) (s.listRows c.val true i.desc) →
    rowsOverlap (dmaLen i.desc) (s.listRows c.val true i.desc) = false →
    Does (.dmaScatter c m) s Part.moving fun t => UnitDone c.val i 0 0 t
      ∧ ((s.listRows c.val true i.desc).Pairwise (fun p q => overlaps p.2 (dmaLen i.desc) q.2 (dmaLen i.desc) = false) →
        ∀ p ∈ s.listRows c.val true i.desc, t.bytes p.2 (dmaLen i.desc) = s.bytes p.1 (dmaLen i.desc))
      ∧ BytesBut (dmaLen i.desc) ((s.listRows c.val true i.desc).map (·.2)) s t :)
  ∧ (∀ (s : State) (c : Fin 1024) (m : Fin 2) (i : Issued), UnitNext c.val (4 + m.val) 0x43 i s → s.listClean c.val i.desc →
    rowsOverlap (dmaLen i.desc) (s.listRows c.val true i.desc) = true →
    Does (.dmaScatter c m) s [.rings] fun t => UnitDone c.val i 0x06 0 t :)
  ∧ (∀ (s : State) (c : Fin 1024) (m : Fin 2) (i : Issued) (p : Nat × Nat) (rest : List (Nat × Nat)) (e : MemErr),
    UnitNext c.val (4 + m.val) 0x43 i s → s.listClean c.val i.desc →
    rowsOverlap (dmaLen i.desc) (s.listRows c.val true i.desc) = false → s.listRows c.val true i.desc = p :: rest →
    s.accessErr p.1 (dmaLen i.desc) false = some e →
    Does (.dmaScatter c m) s [.rings] fun t => UnitDone c.val i (if e = .hostDown then 0x11 else 0x10) 0 t :)
  ∧ (∀ (s : State) (c : Fin 1024) (m : Fin 2) (i : Issued), UnitNext c.val (4 + m.val) 0x43 i s →
    (s.unitRead c.val (spadOne (dmaList i.desc) (8 * dmaRows i.desc))).1 = true →
    Does (.dmaScatter c m) s (Part.reading ++ [.rings]) fun t => UnitDone c.val i 0x13 0 t :)
  ∧ (∀ (s : State) (c : Fin 1024) (m : Fin 2) (i : Issued), UnitNext c.val (4 + m.val) 0x44 i s → s.rivals c.val (4 + m.val) = [] →
    s.plainRows (dmaLen i.desc) [(dmaDst i.desc, dmaDst i.desc)] →
    Does (.dmaFill c m) s Part.moving fun t => UnitDone c.val i 0 0 t
      ∧ (∀ k, k < dmaLen i.desc → t.byte (dmaDst i.desc + k) = BitVec.ofNat 8 (wordFd i.desc 4 (8 * (k % 4)) 8))
      ∧ BytesBut (dmaLen i.desc) [dmaDst i.desc] s t :)
  ∧ (∀ (s : State) (c : Fin 1024) (m : Fin 2) (i : Issued) (e : MemErr), UnitNext c.val (4 + m.val) 0x44 i s →
    s.accessErr (dmaDst i.desc) (dmaLen i.desc) true = some e →
    Does (.dmaFill c m) s [.rings] fun t => UnitDone c.val i (if e = .hostDown then 0x11 else 0x10) 0 t :)

/-- R65, R74: the operations on one flag in one cycle. The group's stored bits hold no error and no injection waits. A set,
whatever else arrives with it but a wait-and-clear, leaves VALUE one, and OVERSET one when the sets, with one more where VALUE was one, are two or
more; a clear leaves VALUE zero and OVERSET as it was; a wait passes when VALUE is one and holds its requester otherwise; a
wait-and-clear that passes makes VALUE zero; of two that meet, one passes; a set that readies the next descriptor of a cluster in Haze returns it to Clear (R61); a
clear-OVERSET makes OVERSET zero. A set makes the waits held at its flag pass, or one wait-and-clear. No other flag changes. -/
def Obligations.FlagOperationsCombineByTheirRule : Prop :=
  (∀ (s : State) (p : Fin 262144) (m : FlagMeet), Tab.get markClean s.flags.ecc (p.val / 64) = .clean → s.flt.injections = [] →
    m.takes = [] → (∀ w ∈ s.flags.waiters, w.pflag = p.val → w.consume = false) →
    Does (.flagSet (.phys p) m) s [.regs, .lfsr, .guards, .flags, .flt] fun t =>
      t.flagVal p.val = true
        ∧ (∀ w ∈ s.flags.waiters, w.pflag = p.val → (w.who, p.val) ∈ t.flags.passed) ∧ (∀ w ∈ t.flags.waiters, w.pflag ≠ p.val)
        ∧ t.flagOver p.val = (decide (m.sets + 1 + b2n (s.flagVal p.val) ≥ 2) || s.flagOver p.val && !m.clearOver)
        ∧ RegsBut ([FLG_OVERSET_CNT, FLG_OVERSET_FIRST] ++ (List.range 1024).map CLU_PSTAT) s t
        ∧ ∀ p' : Fin 262144, p' ≠ p → t.flagVal p'.val = s.flagVal p'.val ∧ t.flagOver p'.val = s.flagOver p'.val :)
  ∧ (∀ (s : State) (p : Fin 262144) (w : FlagWaiter), Tab.get markClean s.flags.ecc (p.val / 64) = .clean → s.flt.injections = [] →
    s.flagVal p.val = false → s.flags.waiters = [w] → w.pflag = p.val → w.consume = true →
    Does (.flagSet (.phys p) ⟨0, false, false, [], [], 0⟩) s [.regs, .flags, .flt] fun t =>
      t.flagVal p.val = false ∧ t.flagOver p.val = s.flagOver p.val ∧ t.flags.waiters = []
        ∧ t.flags.passed = s.flags.passed ++ [(w.who, p.val)] :)
  ∧ (∀ (s : State) (p : Fin 262144), Tab.get markClean s.flags.ecc (p.val / 64) = .clean → s.flt.injections = [] →
    Does (.flagClear (.phys p) ⟨0, false, false, [], [], 0⟩) s [.regs, .flags, .flt] fun t =>
      RegsBut ((List.range 1024).map CLU_PSTAT) s t ∧
      t.flagVal p.val = false ∧ t.flagOver p.val = s.flagOver p.val
        ∧ ∀ p' : Fin 262144, p' ≠ p → t.flagVal p'.val = s.flagVal p'.val ∧ t.flagOver p'.val = s.flagOver p'.val :)
  ∧ (∀ (s : State) (p : Fin 262144) (who : W16), Tab.get markClean s.flags.ecc (p.val / 64) = .clean → s.flt.injections = [] →
    s.flagVal p.val = true → (∀ w ∈ s.flags.waiters, w.pflag ≠ p.val) →
    Does (.flagWait who (.phys p) ⟨0, false, false, [], [], 0⟩) s [.flags, .flt] fun t =>
      t.flagVal p.val = true ∧ t.flagOver p.val = s.flagOver p.val ∧ t.flags.passed = s.flags.passed ++ [(who.toNat, p.val)]
        ∧ t.flags.waiters = s.flags.waiters.filter (fun w => !(w.who == who.toNat && w.pflag == p.val)) :)
  ∧ (∀ (s : State) (p : Fin 262144) (who : W16), Tab.get markClean s.flags.ecc (p.val / 64) = .clean → s.flt.injections = [] →
    s.flagVal p.val = false →
    Does (.flagWait who (.phys p) ⟨0, false, false, [], [], 0⟩) s [.flags, .flt] fun t =>
      t.flagVal p.val = false ∧ t.flags.passed = s.flags.passed ∧ ⟨who.toNat, p.val, false, 0⟩ ∈ t.flags.waiters :)
  ∧ (∀ (s : State) (p : Fin 262144) (who : W16) (m : FlagMeet), Tab.get markClean s.flags.ecc (p.val / 64) = .clean →
    s.flt.injections = [] → s.flagVal p.val = true → m.takes = [] → m.waits = [] → m.clearOver = false →
    (∀ w ∈ s.flags.waiters, w.pflag ≠ p.val) →
    Does (.flagWaitAndClear who (.phys p) m) s [.regs, .flags, .flt] fun t =>
      t.flagVal p.val = decide (m.sets > 0) ∧ t.flagOver p.val = (decide (m.sets ≥ 2) || s.flagOver p.val)
        ∧ t.flags.passed = s.flags.passed ++ [(who.toNat, p.val)] :)
  ∧ (∀ (s : State) (p : Fin 262144) (who rival : W16) (gap : Nat), Tab.get markClean s.flags.ecc (p.val / 64) = .clean →
    s.flt.injections = [] → s.flagVal p.val = true → who ≠ rival →
    Does (.flagWaitAndClear who (.phys p) ⟨0, false, false, [], [rival], gap⟩) s [.regs, .lfsr, .guards, .flags, .flt] fun t =>
      t.flagVal p.val = false
        ∧ (t.flags.passed = s.flags.passed ++ [(who.toNat, p.val)] ∨ t.flags.passed = s.flags.passed ++ [(rival.toNat, p.val)]) :)
  ∧ (∀ (s : State) (p : Fin 262144) (m : FlagMeet) (c : Fin 1024) (ix : Nat) (d : List Byte) (rest : List (Nat × List Byte)),
    Tab.get markClean s.flags.ecc (p.val / 64) = .clean → s.flt.injections = [] → m.takes = [] →
    (∀ w ∈ s.flags.waiters, w.pflag = p.val → w.consume = false) → s.cluState c = 1 →
    s.issueStopped c = false → (s.ring (cluB c)).issued = [] → (s.ring (cluB c)).fetched = (ix, d) :: rest →
    (dWaitOp d = 1 ∨ dWaitOp d = 2) →
    (s.waitXlat c ix (s.ring (cluB c)).epoch <|> (s.translate (dieOf c) (s.fctx (cluB c)) (dWaitFlag d) (waitNeed d)).1) = some p.val →
    Does (.flagSet (.phys p) m) s [.regs, .lfsr, .guards, .flags, .flt] fun t =>
      t.cluState c = 0 ∧ t.gf (CLU_PSTAT c) CLU_PSTAT_IDLE = 0 :)
  ∧ (∀ (s : State) (p : Fin 262144), Tab.get markClean s.flags.ecc (p.val / 64) = .clean → s.flt.injections = [] →
    (∀ w ∈ s.flags.waiters, w.pflag ≠ p.val) →
    Does (.flagClearOverset (.phys p) ⟨0, false, false, [], [], 0⟩) s [.flags, .flt] fun t =>
      t.flagVal p.val = s.flagVal p.val ∧ t.flagOver p.val = false :)

/-- R68, R69: an operation on a virtual identifier whose translation fails performs nothing on any flag; a miss that is
answered puts the entry in front of the cache, and one that is not caches nothing. -/
def Obligations.FailedTranslationPerformsNothing : Prop :=
  (∀ (s : State) (k : Fin 9) (ctx : BitVec 12) (v : BitVec 24) (fab : Bool) (m : FlagMeet),
    (s.translate k.val ctx.toNat v.toNat ⟨false, true, fab⟩).1 = none →
    Does (.flagSet (.virt k ctx v fab) m) s (Part.reading ++ [.flags]) fun t =>
      t.flags.groups = s.flags.groups ∧ t.flags.waiters = s.flags.waiters ∧ t.flags.passed = s.flags.passed :)
  ∧ (∀ (s : State) (k : Fin 9) (ctx : BitVec 12) (g : BitVec 18) (x : FlagXlat),
    (s.xlatCache k.val).find? (fun x => x.ctx == ctx.toNat && x.vgroup == g.toNat) = none →
    (s.fetchXlat ctx.toNat g.toNat).1 = some x →
    Does (.flagTranslationFetch k ctx g) s (Part.reading ++ [.flags]) fun t =>
      t.xlatCache k.val = (x :: s.xlatCache k.val).take 2048 ∧ t.flags.groups = s.flags.groups :)
  ∧ (∀ (s : State) (k : Fin 9) (ctx : BitVec 12) (g : BitVec 18),
    (s.xlatCache k.val).find? (fun x => x.ctx == ctx.toNat && x.vgroup == g.toNat) = none →
    (s.fetchXlat ctx.toNat g.toNat).1 = none →
    Does (.flagTranslationFetch k ctx g) s Part.reading fun _ => True :)

/-- R69, R70, R493: the FLG registers. EN is set when the context table lies wholly in HBM and refused with 0x0648
otherwise, and its clearing has no effect while a barrier or a command ring is enabled; FLG_INVAL starts an invalidation and
has no effect while one runs, and its end leaves no entry of the context in any cache; FLG_SIGNAL of a core sets, clears
and clears OVERSET. -/
def Obligations.FlagRegistersBehave : Prop :=
  (∀ (s : State) (q : Requester) (v : W32), coreWrites q = true → s.gf FLG_CTL FLG_CTL_EN = 0 →
    s.gf FLG_CTX_BASE FLG_CTX_BASE_BASE * 2 ^ 16 + 65536 ≤ hbmBytes →
    Does (.flgEnSet q v) s [.regs] fun t =>
      t.gf FLG_CTL FLG_CTL_EN = 1 ∧ t.gf FLG_CTL FLG_CTL_REFUSAL = 0 ∧ RegsBut [FLG_CTL] s t :)
  ∧ (∀ (s : State) (q : Requester) (v : W32), coreWrites q = true → s.gf FLG_CTL FLG_CTL_EN = 0 →
    hbmBytes < s.gf FLG_CTX_BASE FLG_CTX_BASE_BASE * 2 ^ 16 + 65536 →
    Does (.flgEnSet q v) s [.regs] fun t =>
      t.gf FLG_CTL FLG_CTL_EN = 0 ∧ t.gf FLG_CTL FLG_CTL_REFUSAL = 0x0648 ∧ RegsBut [FLG_CTL] s t :)
  ∧ (∀ (s : State) (q : Requester) (v : W32), coreWrites q = true → anyBarEn s = false → anyCmdEn s = false →
    Does (.flgEnClear q v) s [.regs] fun t => t.gf FLG_CTL FLG_CTL_EN = 0 ∧ RegsBut [FLG_CTL] s t :)
  ∧ (∀ (s : State) (q : Requester) (v : W32), (anyBarEn s = true ∨ anyCmdEn s = true) →
    Does (.flgEnClear q v) s [] fun _ => True :)
  ∧ (∀ (s : State) (q : Requester) (v : W32), coreWrites q = true → s.gf FLG_INVAL FLG_INVAL_BUSY = 0 →
    Does (.flgInval q v) s [.regs, .flags] fun t =>
      t.gf FLG_INVAL FLG_INVAL_BUSY = 1 ∧ t.gf FLG_INVAL FLG_INVAL_CTX = v.toNat % 4096
        ∧ t.flags.inval = some (if bitAt v.toNat 30 then none else some (v.toNat % 4096)) ∧ RegsBut [FLG_INVAL] s t :)
  ∧ (∀ (s : State) (q : Requester) (v : W32), s.gf FLG_INVAL FLG_INVAL_BUSY = 1 → Does (.flgInval q v) s [] fun _ => True :)
  ∧ (∀ (s : State) (c : Nat), s.flags.inval = some (some c) →
    Does .flgInvalDone s [.regs, .flags] fun t =>
      t.gf FLG_INVAL FLG_INVAL_BUSY = 0 ∧ t.flags.inval = none ∧ RegsBut [FLG_INVAL] s t
        ∧ t.flags.xlated = s.flags.xlated ∧ ∀ k, k < 9 → t.xlatCache k = (s.xlatCache k).filter (fun x => x.ctx != c) :)
  ∧ (∀ (s : State), s.flags.inval = some none →
    Does .flgInvalDone s [.regs, .flags] fun t =>
      t.gf FLG_INVAL FLG_INVAL_BUSY = 0 ∧ ∀ k, k < 9 → t.xlatCache k = [] :)
  ∧ (∀ (s : State) (q : Requester) (p : BitVec 18), coreWrites q = true →
    Tab.get markClean s.flags.ecc (p.toNat / 64) = .clean → s.flt.injections = [] →
    (∀ w ∈ s.flags.waiters, w.pflag = p.toNat → w.consume = false) →
    Does (.flgSignalSet q p) s [.regs, .flags, .flt] fun t =>
      t.flagVal p.toNat = true ∧ t.flagOver p.toNat = (s.flagOver p.toNat || s.flagVal p.toNat)
        ∧ RegsBut ([FLG_OVERSET_CNT, FLG_OVERSET_FIRST] ++ (List.range 1024).map CLU_PSTAT) s t :)
  ∧ (∀ (s : State) (q : Requester) (p : BitVec 18), coreWrites q = true →
    Tab.get markClean s.flags.ecc (p.toNat / 64) = .clean → s.flt.injections = [] →
    Does (.flgSignalClear q p) s [.regs, .flags, .flt] fun t => RegsBut ((List.range 1024).map CLU_PSTAT) s t ∧
      t.flagVal p.toNat = false ∧ t.flagOver p.toNat = s.flagOver p.toNat :)
  ∧ (∀ (s : State) (q : Requester) (p : BitVec 18), coreWrites q = true →
    Tab.get markClean s.flags.ecc (p.toNat / 64) = .clean → s.flt.injections = [] →
    Does (.flgSignalClearOverset q p) s [.flags, .flt] fun t =>
      t.flagVal p.toNat = s.flagVal p.toNat ∧ t.flagOver p.toNat = false :)
  ∧ (∀ (s : State) (p : BitVec 18), Does (.flgSignalSet .host p) s [] fun _ => True :)

/-- R75 to R78: barrier rounds. A BAR_ENTER makes its cluster's entry, or completes with 0x0015 where the barrier is not
its context's; an entry taken counts toward the current round, or toward the next when its participant has one taken
before; a round closes when its count equals EXPECT: the count goes to zero, PARITY inverts, ROUND grows by one, the
round's entries and their descriptors complete; EN set zeroes ROUND, PARITY and the counts; EN cleared ends every entry
with 0x0015 and leaves ROUND. -/
def Obligations.BarrierRoundsCloseAtExpect : Prop :=
  (∀ (s : State) (c : Fin 1024) (i : Issued), UnitNext c.val 0 0x02 i s →
    s.barAssigned (barNo i.desc) (s.fctx (cluB c.val)) = true →
    Does (.barEnter c) s [.rings, .flags] fun t =>
      t.barEntries (barNo i.desc) = s.barEntries (barNo i.desc) ++ [⟨c.val, none, 0, i.epoch * 2 ^ 16 + i.ix⟩]
        ∧ ⟨i.ix, i.epoch, i.desc, i.unit, true, none⟩ ∈ (t.ring (cluB c.val)).issued :)
  ∧ (∀ (s : State) (c : Fin 1024) (i : Issued), UnitNext c.val 0 0x02 i s →
    s.barAssigned (barNo i.desc) (s.fctx (cluB c.val)) = false →
    Does (.barEnter c) s [.rings] fun t => UnitDone c.val i 0x15 0 t :)
  ∧ (∀ (s : State) (b : Fin 4096) (gap who : Nat), s.closeDue b.val = false →
    firstWaiting (s.barEntries b.val) [] = [(who, 1)] →
    (s.barEntries b.val).all (fun e => !(e.who == who && e.parity.isSome)) = true →
    s.barCount b.val (s.barParity b.val) < 2047 →
    Does (.barrierEntry b gap) s [.regs, .lfsr, .guards, .flags] fun t =>
      t.barCount b.val (s.barParity b.val) = s.barCount b.val (s.barParity b.val) + 1
        ∧ t.barEntries b.val = takeEntry who (s.barParity b.val) (s.barEntries b.val) ∧ RegsBut [BAR_STATE b.val] s t :)
  ∧ (∀ (s : State) (b : Fin 4096) (gap who : Nat), s.closeDue b.val = false →
    firstWaiting (s.barEntries b.val) [] = [(who, 1)] →
    (s.barEntries b.val).any (fun e => e.who == who && e.parity.isSome) = true →
    s.barCount b.val (1 - s.barParity b.val) < 2047 →
    Does (.barrierEntry b gap) s [.regs, .lfsr, .guards, .flags] fun t =>
      t.barCount b.val (1 - s.barParity b.val) = s.barCount b.val (1 - s.barParity b.val) + 1
        ∧ t.barCount b.val (s.barParity b.val) = s.barCount b.val (s.barParity b.val) ∧ RegsBut [BAR_STATE b.val] s t :)
  ∧ (∀ (s : State) (b : Fin 4096) (gap who : Nat), s.closeDue b.val = true →
    s.bit (BAR_CLOSE b.val) BAR_CLOSE_CLOSE_EN = false → firstWaiting (s.barEntries b.val) [] = [(who, 1)] →
    (∀ e ∈ s.barEntries b.val, e.who = who → e.parity ≠ some (1 - s.barParity b.val)) →
    s.barCount b.val (1 - s.barParity b.val) < 2047 →
    Does (.barrierEntry b gap) s [.regs, .lfsr, .guards, .rings, .flags] fun t =>
      t.barParity b.val = 1 - s.barParity b.val ∧ t.barCount b.val (s.barParity b.val) = 0
        ∧ t.barCount b.val (1 - s.barParity b.val) = s.barCount b.val (1 - s.barParity b.val) + 1
        ∧ t.gf (BAR_ROUND b.val) BAR_ROUND_ROUND = (s.gf (BAR_ROUND b.val) BAR_ROUND_ROUND + 1) % 2 ^ 32
        ∧ RegsBut [BAR_STATE b.val, BAR_ROUND b.val] s t :)
  ∧ (∀ (s : State) (b : Fin 4096), s.bit (BAR_CFG b.val) BAR_CFG_EN = true → s.gf (BAR_CFG b.val) BAR_CFG_EXPECT ≠ 0 →
    s.barCount b.val (s.barParity b.val) = s.gf (BAR_CFG b.val) BAR_CFG_EXPECT →
    s.bit (BAR_CLOSE b.val) BAR_CLOSE_CLOSE_EN = false →
    Does (.roundClose b) s [.regs, .rings, .flags] fun t =>
      t.barParity b.val = 1 - s.barParity b.val ∧ t.barCount b.val (s.barParity b.val) = 0
        ∧ t.barCount b.val (1 - s.barParity b.val) = s.barCount b.val (1 - s.barParity b.val)
        ∧ t.gf (BAR_ROUND b.val) BAR_ROUND_ROUND = (s.gf (BAR_ROUND b.val) BAR_ROUND_ROUND + 1) % 2 ^ 32
        ∧ t.barEntries b.val = (s.barEntries b.val).filter (fun e => e.parity != some (s.barParity b.val))
        ∧ RegsBut [BAR_STATE b.val, BAR_ROUND b.val] s t
        ∧ ∀ e ∈ s.barEntries b.val, e.parity = some (s.barParity b.val) → e.who < 1024 →
            ∀ d ∈ (t.ring (cluB e.who)).issued, d.epoch * 2 ^ 16 + d.ix = e.desc → dOpcode d.desc = 0x02 → d.entered = true →
              d.result.isSome = true :)
  ∧ (∀ (s : State) (b : Fin 4096), s.bit (BAR_CFG b.val) BAR_CFG_EN = true →
    s.barCount b.val (s.barParity b.val) ≠ s.gf (BAR_CFG b.val) BAR_CFG_EXPECT →
    Does (.roundClose b) s [] fun _ => True :)
  ∧ (∀ (s : State) (q : Requester) (b : Fin 4096) (v : W32), coreWrites q = true → s.bit (BAR_CFG b.val) BAR_CFG_EN = false →
    s.gf FLG_CTL FLG_CTL_EN = 1 → v.toNat % 2048 ≠ 0 → s.bit (BAR_CLOSE b.val) BAR_CLOSE_CLOSE_EN = false →
    Does (.barEnSet q b v) s [.regs] fun t =>
      t.bit (BAR_CFG b.val) BAR_CFG_EN = true ∧ t.gf (BAR_CFG b.val) BAR_CFG_EXPECT = v.toNat % 2048
        ∧ t.gf (BAR_CFG b.val) BAR_CFG_CTX = bitsOf v.toNat 16 12 ∧ t.gf (BAR_ROUND b.val) BAR_ROUND_ROUND = 0
        ∧ t.barParity b.val = 0 ∧ t.barCount b.val 0 = 0 ∧ t.barCount b.val 1 = 0 ∧ t.gf FLG_CTL FLG_CTL_REFUSAL = 0
        ∧ RegsBut [BAR_CFG b.val, BAR_STATE b.val, BAR_ROUND b.val, FLG_CTL] s t :)
  ∧ (∀ (s : State) (q : Requester) (b : Fin 4096) (v : W32), coreWrites q = true → s.bit (BAR_CFG b.val) BAR_CFG_EN = false →
    s.gf FLG_CTL FLG_CTL_EN = 0 →
    Does (.barEnSet q b v) s [.regs] fun t =>
      t.bit (BAR_CFG b.val) BAR_CFG_EN = false ∧ t.gf FLG_CTL FLG_CTL_REFUSAL = 0x064B :)
  ∧ (∀ (s : State) (q : Requester) (b : Fin 4096) (v : W32), coreWrites q = true → s.bit (BAR_CFG b.val) BAR_CFG_EN = true →
    Does (.barEnSet q b v) s [] fun _ => True :)
  ∧ (∀ (s : State) (q : Requester) (b : Fin 4096) (v : W32), coreWrites q = true → s.bit (BAR_CFG b.val) BAR_CFG_EN = true →
    Does (.barEnClear q b v) s [.regs, .rings, .flags] fun t =>
      t.bit (BAR_CFG b.val) BAR_CFG_EN = false ∧ t.barCount b.val 0 = 0 ∧ t.barCount b.val 1 = 0 ∧ t.barEntries b.val = []
        ∧ RegsBut [BAR_CFG b.val, BAR_STATE b.val] s t :)

/-- R82 to R84, R490: the engine enable, group loads and the registers of the queues. -/
def Obligations.CollectiveQueuesAndGroupLoads : Prop :=
  (∀ (s : State) (q : Requester) (v : W32), coreWrites q = true → s.bit COL_CTL COL_CTL_EN = false →
    s.gf COL_GRP_BASE COL_GRP_BASE_BASE * 2 ^ 12 + 4096 * 64 ≤ hbmBytes →
    Does (.colEnSet q v) s [.regs] fun t =>
      t.bit COL_CTL COL_CTL_EN = true ∧ t.gf COL_CTL COL_CTL_REFUSAL = 0 ∧ RegsBut [COL_CTL] s t :)
  ∧ (∀ (s : State) (q : Requester) (v : W32), coreWrites q = true → s.bit COL_CTL COL_CTL_EN = false →
    hbmBytes < s.gf COL_GRP_BASE COL_GRP_BASE_BASE * 2 ^ 12 + 4096 * 64 →
    Does (.colEnSet q v) s [.regs] fun t =>
      t.bit COL_CTL COL_CTL_EN = false ∧ t.gf COL_CTL COL_CTL_REFUSAL = 0x0650 ∧ RegsBut [COL_CTL] s t :)
  ∧ (∀ (s : State) (q : Requester) (v : W32), coreWrites q = true → (∀ n, n < 32 → s.cmdEn (colQ n) = false) →
    Does (.colEnClear q v) s [.regs] fun t => t.bit COL_CTL COL_CTL_EN = false ∧ RegsBut [COL_CTL] s t :)
  ∧ (∀ (s : State) (q : Requester) (v : W32) (n : Fin 32), s.cmdEn (colQ n.val) = true →
    Does (.colEnClear q v) s [] fun _ => True :)
  ∧ (∀ (s : State) (q : Requester) (v : W32), coreWrites q = true → s.bit COL_GRP_LOAD COL_GRP_LOAD_BUSY = false →
    s.blockDown 8 = false →
    Does (.colGrpLoad q v) s [.regs, .col] fun t =>
      t.col = { s.col with loading := some (0, v.toNat % 4096) } ∧ t.bit COL_GRP_LOAD COL_GRP_LOAD_BUSY = true
        ∧ t.gf COL_GRP_LOAD COL_GRP_LOAD_GROUP = v.toNat % 4096 ∧ RegsBut [COL_GRP_LOAD] s t :)
  ∧ (∀ (s : State) (q : Requester) (v : W32), coreWrites q = true → s.bit COL_GRP_LOAD COL_GRP_LOAD_BUSY = false →
    s.blockDown 8 = false →
    Does (.colGrpUnload q v) s [.regs, .col] fun t =>
      t.col = { s.col with loading := some (1, v.toNat % 4096) } ∧ t.bit COL_GRP_LOAD COL_GRP_LOAD_BUSY = true
        ∧ RegsBut [COL_GRP_LOAD] s t :)
  ∧ (∀ (s : State) (q : Requester) (v : W32), coreWrites q = true → s.bit COL_GRP_LOAD COL_GRP_LOAD_BUSY = false →
    s.blockDown 8 = false →
    Does (.colGrpZeroResiduals q v) s [.regs, .col] fun t =>
      t.col = { s.col with loading := some (2, v.toNat % 4096) } ∧ t.bit COL_GRP_LOAD COL_GRP_LOAD_BUSY = true
        ∧ RegsBut [COL_GRP_LOAD] s t :)
  ∧ (∀ (s : State) (q : Requester) (v : W32), s.bit COL_GRP_LOAD COL_GRP_LOAD_BUSY = true →
    Does (.colGrpLoad q v) s [] fun _ => True :)
  ∧ (∀ (s : State) (op g : Nat), s.col.loading = some (op, g) → s.grpActive g = true →
    Does .colGrpLoadDone s [.regs, .col] fun t =>
      t.gf COL_CTL COL_CTL_REFUSAL = 0x0656 ∧ t.bit COL_GRP_LOAD COL_GRP_LOAD_BUSY = false
        ∧ t.col = { s.col with loading := none } ∧ RegsBut [COL_CTL, COL_GRP_LOAD] s t :)
  ∧ (∀ (s : State) (g : Nat), s.col.loading = some (1, g) → s.grpActive g = false →
    Does .colGrpLoadDone s [.regs, .col] fun t =>
      t.gf COL_CTL COL_CTL_REFUSAL = 0 ∧ t.bit COL_GRP_LOAD COL_GRP_LOAD_BUSY = false ∧ t.grp g = none
        ∧ t.col.loading = none ∧ RegsBut [COL_CTL, COL_GRP_LOAD] s t :)
  ∧ (∀ (s : State) (g : Nat) (v : ColGroup), s.col.loading = some (2, g) → s.grp g = some v → v.op = none →
    Does .colGrpLoadDone s [.regs, .mem, .lineMarks, .col] fun t =>
      t.grp g = some v ∧ t.bit COL_GRP_LOAD COL_GRP_LOAD_BUSY = false
        ∧ t.mem = s.mem.filter (fun e => !(decide (v.residBase ≤ e.1) && decide (e.1 < v.residBase + v.residArea))) :)
  ∧ (∀ (s : State) (q : Requester) (n : Fin 32) (v : W32), coreWrites q = true →
    ixDiff (v.toNat % 2 ^ 16) (s.cmdHead (colQ n.val)) ≤ 2 ^ s.cmdLog (colQ n.val) →
    Does (.colDb q n v) s [.rings] fun t =>
      t.ring (colQ n.val) = { s.ring (colQ n.val) with tail := v.toNat % 2 ^ 16 } :)
  ∧ (∀ (s : State) (q : Requester) (n : Fin 32) (v : W32), coreWrites q = true →
    2 ^ s.cmdLog (colQ n.val) < ixDiff (v.toNat % 2 ^ 16) (s.cmdHead (colQ n.val)) →
    Does (.colDb q n v) s [.regs] fun t =>
      t.bit (COL_QERR n.val) COL_QERR_OVERRUN = true ∧ t.bit (COL_QERR n.val) COL_QERR_HALTED = true
        ∧ RegsBut [COL_QERR n.val] s t :)
  ∧ (∀ (s : State) (q : Requester) (n : Fin 32) (v : W32), coreWrites q = true → s.cmdEn (colQ n.val) = false →
    Does (.colCmdBaseWrite q n false v) s [.regs, .rings] fun t =>
      (t.rd (colQ n.val)).toNat = v.toNat / 4096 * 4096 + v.toNat % 32 ∧ t.cmdHead (colQ n.val) = 0
        ∧ (t.ring (colQ n.val)).tail = 0 ∧ (t.ring (colQ n.val)).fetchIx = 0
        ∧ (t.ring (colQ n.val)).issued = (s.ring (colQ n.val)).issued ∧ RegsBut [colQ n.val, rStatus (colQ n.val)] s t :)
  ∧ (∀ (s : State) (q : Requester) (n : Fin 32) (hi : Bool) (v : W32), s.cmdEn (colQ n.val) = true →
    Does (.colCmdBaseWrite q n hi v) s [] fun _ => True :)
  ∧ (∀ (s : State) (q : Requester) (n : Fin 32) (v : W32), coreWrites q = true → s.cmplEn (colQ n.val) = false →
    Does (.colCmplBaseWrite q n false v) s [.regs] fun t =>
      (t.rd (rCmpl (colQ n.val))).toNat = v.toNat / 4096 * 4096 + v.toNat % 32 ∧ t.cmplTail (colQ n.val) = 0
        ∧ t.gf (rHead (colQ n.val)) CLU_CMPL_HEAD_HEAD = 0
        ∧ RegsBut [rCmpl (colQ n.val), rStatus (colQ n.val), rHead (colQ n.val)] s t :)
  ∧ (∀ (s : State) (q : Requester) (n : Fin 32) (v : W32), coreWrites q = true → s.cmdEn (colQ n.val) = false →
    s.cmplEn (colQ n.val) = true → bitAt v.toNat 1 = true → s.cmdEnCheck (colQ n.val) true = none → s.colEn = true →
    Does (.colCmdEnSet q n v) s [.regs] fun t =>
      t.cmdEn (colQ n.val) = true ∧ t.fctx (colQ n.val) = bitsOf v.toNat 16 12 ∧ t.gf (COL_QERR n.val) COL_QERR_REFUSAL = 0
        ∧ RegsBut [rCtl (colQ n.val), COL_QERR n.val] s t :)
  ∧ (∀ (s : State) (q : Requester) (n : Fin 32) (v : W32), coreWrites q = true → s.cmdEn (colQ n.val) = false →
    s.cmplEn (colQ n.val) = true → bitAt v.toNat 1 = true → s.cmdEnCheck (colQ n.val) true = none → s.colEn = false →
    Does (.colCmdEnSet q n v) s [.regs] fun t =>
      t.cmdEn (colQ n.val) = false ∧ t.gf (COL_QERR n.val) COL_QERR_REFUSAL = 0x065A :)
  ∧ (∀ (s : State) (q : Requester) (n : Fin 32) (v : W32), coreWrites q = true → s.cmdEn (colQ n.val) = true →
    bitAt v.toNat 1 = s.cmplEn (colQ n.val) →
    Does (.colCmdEnClear q n v) s [.regs] fun t =>
      t.cmdEn (colQ n.val) = false ∧ t.cmplEn (colQ n.val) = s.cmplEn (colQ n.val) ∧ t.fctx (colQ n.val) = s.fctx (colQ n.val)
        ∧ RegsBut [rCtl (colQ n.val)] s t :)
  ∧ (∀ (s : State) (q : Requester) (n : Fin 32) (v : W32), coreWrites q = true → s.cmplEn (colQ n.val) = false →
    s.cmdEn (colQ n.val) = false → bitAt v.toNat 0 = false → s.cmplEnCheck (colQ n.val) = none →
    Does (.colCmplEnSet q n v) s [.regs] fun t =>
      t.cmplEn (colQ n.val) = true ∧ t.gf (COL_QERR n.val) COL_QERR_REFUSAL = 0
        ∧ RegsBut [rCtl (colQ n.val), COL_QERR n.val] s t :)
  ∧ (∀ (s : State) (q : Requester) (n : Fin 32) (v : W32), coreWrites q = true →
    Does (.colCmplHeadWrite q n v) s [.regs] fun t =>
      t.gf (rHead (colQ n.val)) CLU_CMPL_HEAD_HEAD = v.toNat % 2 ^ 16 ∧ RegsBut [rHead (colQ n.val)] s t :)
  ∧ (∀ (s : State) (q : Requester) (n : Fin 32) (v : W32), coreWrites q = true →
    Does (.colHaltedResume q n v) s [.regs] fun t =>
      t.bit (COL_QERR n.val) COL_QERR_HALTED = false
        ∧ t.gf (COL_QERR n.val) COL_QERR_REFUSAL = s.gf (COL_QERR n.val) COL_QERR_REFUSAL ∧ RegsBut [COL_QERR n.val] s t :)

/-- R86 to R95, R110: activation, the messages of an operation, its end, its abort and its completion. -/
def Obligations.CollectiveOperationsRun : Prop :=
  (∀ (s : State) (n : Fin 32) (d : List Byte), s.cmdEn (colQ n.val) = true → s.bit (COL_QERR n.val) COL_QERR_HALTED = false →
    s.colEn = true → (s.ring (colQ n.val)).fetchIx ≠ (s.ring (colQ n.val)).tail → (s.ring (colQ n.val)).issued = [] →
    s.colActiveAll < 256 → (s.fetchEntry (colQ n.val) (s.ring (colQ n.val)).fetchIx).1 = some d → dWaitOp d = 0 →
    dSetOp d < 2 → cBarEn d = false → cOp d = 0 →
    Does (.collectiveActivate n) s (Part.reading ++ [.rings, .col]) fun t =>
      (t.ring (colQ n.val)).issued
          = [⟨(s.ring (colQ n.val)).fetchIx, (s.ring (colQ n.val)).epoch, d, 0, true, none⟩]
        ∧ (t.ring (colQ n.val)).fetchIx = ix16 ((s.ring (colQ n.val)).fetchIx + 1) :)
  ∧ (∀ (s : State) (n : Fin 32) (d : List Byte), s.cmdEn (colQ n.val) = true → s.bit (COL_QERR n.val) COL_QERR_HALTED = false →
    s.colEn = true → (s.ring (colQ n.val)).fetchIx ≠ (s.ring (colQ n.val)).tail → (s.ring (colQ n.val)).issued = [] →
    s.colActiveAll < 256 → (s.fetchEntry (colQ n.val) (s.ring (colQ n.val)).fetchIx).1 = some d → dWaitOp d = 0 →
    dSetOp d < 2 → cBarEn d = false → 1 ≤ cOp d → cOp d ≤ 5 → s.grp (cGroup d) = none →
    Does (.collectiveActivate n) s (Part.reading ++ [.rings, .col]) fun t =>
      (t.ring (colQ n.val)).issued
          = [⟨(s.ring (colQ n.val)).fetchIx, (s.ring (colQ n.val)).epoch, d, 0, true, some (0x20, 0)⟩] :)
  ∧ (∀ (s : State) (n : Fin 32) (d : List Byte) (grp : ColGroup), s.cmdEn (colQ n.val) = true →
    s.bit (COL_QERR n.val) COL_QERR_HALTED = false →
    s.colEn = true → (s.ring (colQ n.val)).fetchIx ≠ (s.ring (colQ n.val)).tail → (s.ring (colQ n.val)).issued = [] →
    s.colActiveAll < 256 → (s.fetchEntry (colQ n.val) (s.ring (colQ n.val)).fetchIx).1 = some d → dWaitOp d = 0 →
    cBarEn d = false → 1 ≤ cOp d → cOp d ≤ 5 → s.grp (cGroup d) = some grp → grp.op = none →
    (((s.fetchEntry (colQ n.val) (s.ring (colQ n.val)).fetchIx).2.colBind n.val d).colCheck n.val d).1 = none →
    Does (.collectiveActivate n) s (Part.sending ++ [.flags, .lfsr, .guards, .col]) fun t =>
      (t.opOf (cGroup d)).map (·.desc) = some d ∧ (t.opOf (cGroup d)).map (·.queue) = some n.val
        ∧ (t.grp (cGroup d)).map (·.seq) = some (some (cSeq d)) ∧ (t.grp (cGroup d)).map (·.bound) = some (some n.val) :)
  ∧ (∀ (s : State) (n : Fin 32) (d : Issued), (s.ring (colQ n.val)).issued = [d] → cOp d.desc = 0 → d.result = none →
    Does (.collectiveNop n) s [.rings] fun t =>
      (t.ring (colQ n.val)).issued = [⟨d.ix, d.epoch, d.desc, d.unit, d.entered, some (0, 0)⟩] :)
  ∧ (∀ (s : State) (g : BitVec 12) (grp : ColGroup) (o : ColOp), s.grp g.toNat = some grp → grp.op = some o → cOp o.desc = 1 →
    s.opEnded o = false → grp.hub = false → o.abort = none → s.trn.results = [] →
    (∀ r ∈ grp.others, (s.cn (memId (grp.member r))).state = csReady) →
    opFinished grp (s.consumeSet grp o (toConsume grp o.desc)).1 = true →
    Does (.reduceScatter g) s (Part.reading ++ [.rings, .flags, .col, .trn]) fun t =>
      ∀ x ∈ (t.ring (colQ o.queue)).issued, x.ix = o.ix → x.epoch = o.epoch → x.result = some (0, o.dropped) :)
  ∧ (∀ (s : State) (g : BitVec 12) (grp : ColGroup) (o : ColOp), s.grp g.toNat = some grp → grp.op = some o → cOp o.desc = 2 →
    s.opEnded o = false → grp.hub = false → o.abort = none → s.trn.results = [] →
    (∀ r ∈ grp.others, (s.cn (memId (grp.member r))).state = csReady) →
    opFinished grp (s.consumeSet grp o (toConsume grp o.desc)).1 = true →
    Does (.allGather g) s (Part.reading ++ [.rings, .flags, .col, .trn]) fun t =>
      ∀ x ∈ (t.ring (colQ o.queue)).issued, x.ix = o.ix → x.epoch = o.epoch → x.result = some (0, o.dropped) :)
  ∧ (∀ (s : State) (g : BitVec 12) (grp : ColGroup) (o : ColOp), s.grp g.toNat = some grp → grp.op = some o → cOp o.desc = 3 →
    s.opEnded o = false → grp.hub = false → o.abort = none → s.trn.results = [] →
    (∀ r ∈ grp.others, (s.cn (memId (grp.member r))).state = csReady) →
    opFinished grp (s.consumeSet grp o (toConsume grp o.desc)).1 = true →
    Does (.allReduce g) s (Part.reading ++ [.rings, .flags, .col, .trn]) fun t =>
      ∀ x ∈ (t.ring (colQ o.queue)).issued, x.ix = o.ix → x.epoch = o.epoch → x.result = some (0, o.dropped) :)
  ∧ (∀ (s : State) (g : BitVec 12) (grp : ColGroup) (o : ColOp), s.grp g.toNat = some grp → grp.op = some o → cOp o.desc = 4 →
    s.opEnded o = false → grp.hub = false → o.abort = none → s.trn.results = [] → o.localDone = true →
    (∀ r ∈ grp.others, (s.cn (memId (grp.member r))).state = csReady) →
    opFinished grp (s.consumeSet grp o (toConsume grp o.desc)).1 = true →
    Does (.dispatch g) s (Part.reading ++ [.rings, .flags, .col, .trn]) fun t =>
      ∀ x ∈ (t.ring (colQ o.queue)).issued, x.ix = o.ix → x.epoch = o.epoch → x.result = some (0, o.dropped) :)
  ∧ (∀ (s : State) (g : BitVec 12) (grp : ColGroup) (o : ColOp), s.grp g.toNat = some grp → grp.op = some o → cOp o.desc = 5 →
    s.opEnded o = false → grp.hub = false → o.abort = none → s.trn.results = [] → o.localDone = true →
    (∀ r ∈ grp.others, (s.cn (memId (grp.member r))).state = csReady) →
    opFinished grp (s.consumeSet grp o (toConsume grp o.desc)).1 = true →
    Does (.combine g) s (Part.reading ++ [.rings, .flags, .col, .trn]) fun t =>
      ∀ x ∈ (t.ring (colQ o.queue)).issued, x.ix = o.ix → x.epoch = o.epoch → x.result = some (0, o.dropped) :)
  ∧ (∀ (s : State) (g : BitVec 12) (grp : ColGroup) (o : ColOp) (r : Nat), s.grp g.toNat = some grp → grp.op = some o →
    cOp o.desc = 1 → s.opEnded o = false → grp.hub = false → o.abort = none → r ∈ grp.others →
    (s.cn (memId (grp.member r))).state ≠ csReady → s.trn.results = [] →
    Does (.reduceScatter g) s
      (Part.sending ++ [.flags, .lfsr, .guards, .col]) fun t =>
      (t.opOf g.toNat).map (·.abort) = some (some (0x26, s.now)) :)
  ∧ (∀ (s : State) (g : BitVec 12) (grp : ColGroup) (o : ColOp) (port : Fin 32) (ph r loc len dropped : Nat)
      (rows : List Byte) (poison : Bool) (others : List (Fin 32 × Nat)) (gap : Nat),
    s.grp g.toNat = some grp → grp.op = some o → nextSend grp o = some (ph, r) → grp.hub = false → o.abort = none →
    s.opEnded o = false → s.mayStart g.toNat port.val (s.colSer port.val (cWireBytes grp o.desc)) = true →
    (s.chunkData grp o.desc ph r).1 = (none, loc, len, rows, poison, dropped) →
    Does (.chunkSend g port others gap) s (Part.sending ++ [.lfsr, .guards, .col]) fun t =>
      (t.opOf g.toNat).map (·.sent) = some (o.sent ++ [(ph, r)]) ∧ (t.opOf g.toNat).map (·.dropped) = some (o.dropped + dropped) :)
  ∧ (∀ (s : State) (g : BitVec 12) (grp : ColGroup) (o : ColOp) (port : Fin 32) (ph r e : Nat)
      (z : Nat × Nat × List Byte × Bool × Nat) (others : List (Fin 32 × Nat)) (gap : Nat),
    s.grp g.toNat = some grp → grp.op = some o → nextSend grp o = some (ph, r) → grp.hub = false → o.abort = none →
    s.opEnded o = false → s.mayStart g.toNat port.val (s.colSer port.val (cWireBytes grp o.desc)) = true →
    (s.chunkData grp o.desc ph r).1 = (some e, z) →
    Does (.chunkSend g port others gap) s (Part.reading ++ [.rings]) fun t =>
      ∀ x ∈ (t.ring (colQ o.queue)).issued, x.ix = o.ix → x.epoch = o.epoch → x.result = some (e, o.dropped) :)
  ∧ (∀ (s : State) (g : BitVec 12) (grp : ColGroup) (o : ColOp) (port : Fin 32)
      (others : List (Fin 32 × Nat)) (gap : Nat), s.grp g.toNat = some grp → grp.op = some o →
    s.mayStart g.toNat port.val (s.colSer port.val (cWireBytes grp o.desc)) = false →
    Does (.chunkSend g port others gap) s [] fun _ => True :)
  ∧ (∀ (s s1 s2 : State) (conn : BitVec 20) (msn : W32) (b : Inbound) (num : Nat) (grp : ColGroup) (o : ColOp),
    s.takeInbox conn.toNat msn.toNat = (some b, s1) → s1.dataParts conn.toNat (b.parts.zip b.heads) = (true, s2) →
    b.chdr.isSome = true → b.complete = true → s2.dataFor conn.toNat (b.chdr.getD []) = some (num, grp, o) →
    s2.grp num = some grp → (s2.putCount grp o.desc (hRank (b.chdr.getD [])) (b.total / cRecb o.desc)).1 = none →
    Does (.collectiveData conn msn) s (Part.storing ++ [.free, .lfsr, .guards, .rings, .flags, .col, .trn]) fun t =>
      (t.opOf num).map (·.arrived) = some (o.arrived ++ [(hPhase (b.chdr.getD []), hRank (b.chdr.getD []))])
        ∧ t.trn = s1.trn :)
  ∧ (∀ (s s1 s2 : State) (conn : BitVec 20) (msn : W32) (b : Inbound), s.takeInbox conn.toNat msn.toNat = (some b, s1) →
    s1.dataParts conn.toNat (b.parts.zip b.heads) = (true, s2) → b.chdr.isSome = true → b.complete = false →
    Does (.collectiveData conn msn) s (Part.storing ++ [.rings, .trn]) fun t =>
      t.trn = { s1.trn with inbox := s1.trn.inbox ++ [{ b with parts := [], heads := [] }] } :)
  ∧ (∀ (s s1 : State) (conn : BitVec 20) (msn : W32) (b : Inbound) (a : Nat) (bs : List Byte) (h : Option (List Byte)) (p : Bool),
    s.takeInbox conn.toNat msn.toNat = (some b, s1) → b.parts = [(a, bs)] → b.heads = [(h, p)] →
    s1.dataFor conn.toNat (h.getD []) = none →
    Does (.collectiveData conn msn) s [.regs, .trn] fun t =>
      t.gf COL_DISCARD COL_DISCARD_COUNT = min (2 ^ 32 - 1) (s.gf COL_DISCARD COL_DISCARD_COUNT + 1)
        ∧ RegsBut [COL_DISCARD] s t :)
  ∧ (∀ (s : State) (conn : BitVec 20) (msn : W32) (b : Inbound) (num : Nat) (grp : ColGroup),
    (s.takeInbox conn.toNat msn.toNat).1 = some b → s.colAccept conn.toNat (b.chdr.getD []) = some (num, grp) →
    hKind (b.chdr.getD []) = 1 → (grp.readys.filter (fun r => r.1 == hRank (b.chdr.getD []))).length < 2 →
    (hRank (b.chdr.getD []), hSeq (b.chdr.getD [])) ∉ grp.readys →
    Does (.ready conn msn) s [.col, .trn] fun t =>
      t.grp num = some { grp with readys := grp.readys ++ [(hRank (b.chdr.getD []), hSeq (b.chdr.getD []))] } :)
  ∧ (∀ (s : State) (conn : BitVec 20) (msn : W32) (b : Inbound) (num : Nat) (grp : ColGroup) (o : ColOp),
    (s.takeInbox conn.toNat msn.toNat).1 = some b → s.colAccept conn.toNat (b.chdr.getD []) = some (num, grp) →
    s.grp num = some grp → grp.op = some o → o.abort = none → s.opEnded o = false → hKind (b.chdr.getD []) = 2 →
    Does (.abort conn msn) s (Part.sending ++ [.flags, .lfsr, .guards, .col]) fun t =>
      (t.opOf num).map (·.abort) = some (some (0x25, s.now)) :)
  ∧ (∀ (s : State) (g : BitVec 12) (o : ColOp), s.opOf g.toNat = some o → o.abort = none → s.opEnded o = false →
    max 10 (s.gf COL_TIMEOUT COL_TIMEOUT_LIMIT_US) * 1000 ≤ s.now - o.at_ →
    Does (.collectiveTimeout g) s (Part.sending ++ [.flags, .lfsr, .guards, .col]) fun t =>
      (t.opOf g.toNat).map (·.abort) = some (some (0x24, s.now)) :)
  ∧ (∀ (s : State) (g : BitVec 12) (o : ColOp), s.opOf g.toNat = some o →
    s.now - o.at_ < max 10 (s.gf COL_TIMEOUT COL_TIMEOUT_LIMIT_US) * 1000 →
    Does (.collectiveTimeout g) s [] fun _ => True :)
  ∧ (∀ (s : State) (g : BitVec 12) (grp : ColGroup) (o : ColOp) (status since : Nat), s.grp g.toNat = some grp →
    grp.op = some o → o.abort = some (status, since) → s.opEnded o = false → grp.hub = false →
    (∀ p ∈ toConsume grp o.desc, p ∈ o.consumed) → s.drained g.toNat grp = true →
    Does (.abortDrainDone g) s (Part.storing ++ [.free, .rings]) fun t =>
      ∀ x ∈ (t.ring (colQ o.queue)).issued, x.ix = o.ix → x.epoch = o.epoch → x.result = some (status, o.dropped) :)
  ∧ (∀ (s : State) (n : Fin 32) (ix : W16) (d : Issued), (s.ring (colQ n.val)).issued = [d] → d.ix = ix.toNat →
    d.result = some (0, 0) → dCmpl d.desc = false → dSetOp d.desc = 0 → cBarEn d.desc = false →
    cEf d.desc = false → d.epoch = (s.ring (colQ n.val)).epoch → d.ix = s.cmdHead (colQ n.val) →
    (s.ring (colQ n.val)).done = [] →
    Does (.collectiveComplete n ix) s [.regs, .rings, .col] fun t =>
      (t.ring (colQ n.val)).issued = [] ∧ t.cmdHead (colQ n.val) = ix16 (d.ix + 1)
        ∧ t.cmplTail (colQ n.val) = s.cmplTail (colQ n.val) ∧ RegsBut [rStatus (colQ n.val)] s t :)
  ∧ (∀ (s : State) (n : Fin 32) (ix : W16) (d : Issued) (st : Nat), (s.ring (colQ n.val)).issued = [d] → d.ix = ix.toNat →
    d.result = some (st, 0) → st ≠ 0 → s.cmplRoom (colQ n.val) = true →
    Does (.collectiveComplete n ix) s (Part.storing ++ [.rings, .col]) fun t =>
      (t.ring (colQ n.val)).issued = [] ∧ t.bit (COL_QERR n.val) COL_QERR_HALTED = true
        ∧ t.cmplTail (colQ n.val) = ix16 (s.cmplTail (colQ n.val) + 1) :)

/-- R107, R109, R112: the slot schedule and the Syncen operations of the engine. Payload layouts are the model's (log entry 10). -/
def Obligations.SlotListsAndCollectiveRequests : Prop :=
  (∀ (s s1 : State) (q : Requester) (v : W32) (a : Nat) (es : List Nat), coreWrites q = true → s.col.slotPending = none →
    s.blockDown 8 = false → a = s.gf COL_SLOT_ADMIN COL_SLOT_ADMIN_BASE <<< 12 →
    es = (List.range (min (v.toNat % 8192) 4096)).map (fun k => s.le (a + 8 * k) 8) →
    s1 = ((s.sf COL_SLOT_CTL COL_SLOT_CTL_NSLOTS (v.toNat % 8192)).load a (8 * (v.toNat % 8192))).2.2 →
    s1.slotCheck (v.toNat % 8192) (s1.rd64 COL_SLOT_BASETIME) (inHbm a (8 * (v.toNat % 8192))) es = none →
    Does (.slotCommit q v) s (Part.reading ++ [.col]) fun t =>
      t.gf COL_SLOT_CTL COL_SLOT_CTL_NSLOTS = v.toNat % 8192 ∧ t.gf COL_CTL COL_CTL_REFUSAL = 0
        ∧ t.col.slotPending.map (·.entries) = some es
        ∧ t.col.slotPending.map (·.t)
          = some (takeover (s1.rd64 COL_SLOT_BASETIME) (v.toNat % 8192 * 20000) (s.now + 2000)).1
        ∧ t.bit COL_SLOT_STATUS COL_SLOT_STATUS_PENDING = true ∧ t.col.slotActive = s.col.slotActive
        ∧ (s1.rd64 COL_SLOT_BASETIME < s.now + 2000 → t.bit COL_SLOT_STATUS COL_SLOT_STATUS_LATE = true
          ∧ t.bit TG_LATE TG_LATE_COL = true) :)
  ∧ (∀ (s s1 : State) (q : Requester) (v : W32) (a c : Nat), coreWrites q = true → s.col.slotPending = none →
    s.blockDown 8 = false → a = s.gf COL_SLOT_ADMIN COL_SLOT_ADMIN_BASE <<< 12 →
    s1 = ((s.sf COL_SLOT_CTL COL_SLOT_CTL_NSLOTS (v.toNat % 8192)).load a (8 * (v.toNat % 8192))).2.2 →
    s1.slotCheck (v.toNat % 8192) (s1.rd64 COL_SLOT_BASETIME) (inHbm a (8 * (v.toNat % 8192)))
      ((List.range (min (v.toNat % 8192) 4096)).map (fun k => s.le (a + 8 * k) 8)) = some c → c < 2 ^ 16 →
    Does (.slotCommit q v) s Part.reading fun t => t.gf COL_CTL COL_CTL_REFUSAL = c :)
  ∧ (∀ (s : State) (q : Requester) (v : W32) (l : SlotList), coreWrites q = true → s.col.slotPending = some l →
    Does (.slotCancel q v) s [.regs, .col] fun t =>
      t.col = { s.col with slotPending := none } ∧ t.bit COL_SLOT_STATUS COL_SLOT_STATUS_PENDING = false
        ∧ RegsBut [COL_SLOT_STATUS, COL_SLOT_TAKEOVER, COL_SLOT_TAKEOVER + 4] s t :)
  ∧ (∀ (s : State) (l : SlotList), s.col.slotPending = some l → l.t ≤ s.now →
    Does .slotListTakeover s (Part.sending ++ [.lfsr, .guards, .col, .kv]) fun t =>
      t.col = { s.col with slotActive := some l, slotPending := none, slotPrior := s.col.slotActive } :)
  ∧ (∀ (s : State) (l : SlotList), s.col.slotPending = some l → s.now < l.t → Does .slotListTakeover s [] fun _ => True :)
  ∧ (∀ (s : State) (l : SlotList), s.col.slotActive = some l → l.t ≤ s.now → l.entries.length ≤ 4096 →
    l.entries ≠ [] → s.trn.conns = [] →
    Does .slotBoundary s Part.sending fun t =>
      t.gf COL_SLOT_STATUS COL_SLOT_STATUS_SLOT = ((s.now - l.t) / 20000) % l.entries.length
        ∧ t.bit COL_SLOT_STATUS COL_SLOT_STATUS_ACTIVE_VALID = true :)
  ∧ (∀ (s : State) (r : SynReq) (g : BitVec 12) (rec_ : Vector Byte 64) (members : List W32),
    s.synRefusal 0x0500 (s.domGroup g.toNat) r = none → (s.grp g.toNat).isSome = true →
    Does (.synColGroupCreate r g rec_ members) s [.mbx] fun t => Answered 0x0500 r 0x0301 [] t :)
  ∧ (∀ (s s1 s2 : State) (r : SynReq) (g : BitVec 12) (rec_ : Vector Byte 64) (members : List W32),
    s.synRefusal 0x0500 (s.domGroup g.toNat) r = none → s.grp g.toNat = none →
    s1 = (s.poke ((s.gf COL_GRP_BASE COL_GRP_BASE_BASE <<< 12) + g.toNat * 64) rec_.toList).poke (recMembers rec_.toList)
      (members.flatMap (fun m => leBytes 4 m.toNat)) →
    s1.loadGroup g.toNat = (none, s2) →
    Does (.synColGroupCreate r g rec_ members) s (Part.storing ++ [.free, .col]) fun t =>
      t.grp g.toNat = s2.grp g.toNat ∧ (t.grp g.toNat).isSome = true ∧ Answered 0x0500 r 0 [] t
        ∧ t.gf COL_CTL COL_CTL_REFUSAL = 0 :)
  ∧ (∀ (s s1 s2 : State) (r : SynReq) (g : BitVec 12) (rec_ : Vector Byte 64) (members : List W32) (c : Nat),
    s.synRefusal 0x0500 (s.domGroup g.toNat) r = none → s.grp g.toNat = none →
    s1 = (s.poke ((s.gf COL_GRP_BASE COL_GRP_BASE_BASE <<< 12) + g.toNat * 64) rec_.toList).poke (recMembers rec_.toList)
      (members.flatMap (fun m => leBytes 4 m.toNat)) →
    s1.loadGroup g.toNat = (some c, s2) →
    Does (.synColGroupCreate r g rec_ members) s (Part.storing ++ [.free, .col]) fun t =>
      t.grp g.toNat = none ∧ Answered 0x0500 r c [] t ∧ t.gf COL_CTL COL_CTL_REFUSAL = c % 2 ^ 16 :)
  ∧ (∀ (s : State) (r : SynReq) (g : BitVec 12), s.synRefusal 0x0501 (s.domGroup g.toNat) r = none →
    s.grpActive g.toNat = false →
    Does (.synColGroupDestroy r g) s [.regs, .mbx, .col] fun t =>
      t.grp g.toNat = none ∧ Answered 0x0501 r 0 [] t ∧ t.gf COL_CTL COL_CTL_REFUSAL = 0
        ∧ ∀ k, k < 4096 → k ≠ g.toNat → t.grp k = s.grp k :)
  ∧ (∀ (s : State) (r : SynReq) (g : BitVec 12), s.synRefusal 0x0501 (s.domGroup g.toNat) r = none →
    s.grpActive g.toNat = true →
    Does (.synColGroupDestroy r g) s [.regs, .mbx] fun t =>
      Answered 0x0501 r 0x0656 [] t ∧ t.gf COL_CTL COL_CTL_REFUSAL = 0x0656 ∧ RegsBut [COL_CTL] s t :)
  ∧ (∀ (s : State) (r : SynReq) (g : BitVec 12) (rank : Byte) (entry : W32) (epoch : W16),
    s.synRefusal 0x0502 (s.domGroup g.toNat) r = none → s.grpActive g.toNat = true →
    Does (.synColGroupRebind r g rank entry epoch) s [.regs, .mbx] fun t =>
      Answered 0x0502 r 0x0656 [] t ∧ RegsBut [COL_CTL] s t :)
  ∧ (∀ (s s1 s2 : State) (r : SynReq) (g : BitVec 12) (rank : Byte) (entry : W32) (epoch : W16),
    s.synRefusal 0x0502 (s.domGroup g.toNat) r = none → s.grpActive g.toNat = false →
    s1 = (((s.zeroResiduals (s.grpRecord g.toNat)).poke ((s.gf COL_GRP_BASE COL_GRP_BASE_BASE <<< 12) + g.toNat * 64 + 28)
      (leBytes 2 epoch.toNat)).poke (recMembers (s.grpRecord g.toNat).rec_ + 4 * rank.toNat) (leBytes 4 entry.toNat)).dropGrp
        g.toNat →
    s1.loadGroup g.toNat = (none, s2) →
    Does (.synColGroupRebind r g rank entry epoch) s (Part.storing ++ [.free, .col]) fun t =>
      t.grp g.toNat = s2.grp g.toNat ∧ (t.grp g.toNat).map (·.readys) = some [] ∧ (t.grp g.toNat).map (·.bound) = some none
        ∧ Answered 0x0502 r 0 [] t :)
  ∧ (∀ (s s1 s2 : State) (r : SynReq) (g : BitVec 12) (rank : Byte) (entry : W32) (epoch : W16) (c : Nat),
    s.synRefusal 0x0502 (s.domGroup g.toNat) r = none → s.grpActive g.toNat = false →
    s1 = (((s.zeroResiduals (s.grpRecord g.toNat)).poke ((s.gf COL_GRP_BASE COL_GRP_BASE_BASE <<< 12) + g.toNat * 64 + 28)
      (leBytes 2 epoch.toNat)).poke (recMembers (s.grpRecord g.toNat).rec_ + 4 * rank.toNat) (leBytes 4 entry.toNat)).dropGrp
        g.toNat →
    s1.loadGroup g.toNat = (some c, s2) →
    Does (.synColGroupRebind r g rank entry epoch) s (Part.storing ++ [.free, .col]) fun t =>
      t.grp g.toNat = none ∧ Answered 0x0502 r c [] t ∧ t.gf COL_CTL COL_CTL_REFUSAL = c % 2 ^ 16 :)
  ∧ (∀ (s : State) (r : SynReq) (base : W64) (es : List W64), s.synRefusal 0x0503 (some 3) r = none →
    s.col.slotPending = none → s.slotCheck es.length base.toNat true (es.map (·.toNat)) = none →
    Does (.synColSchedLoad r base es) s [.regs, .mbx, .col] fun t =>
      t.col.slotPending.map (·.entries) = some (es.map (·.toNat))
        ∧ Answered 0x0503 r 0 (leBytes 8 (takeover base.toNat (es.length * 20000) (s.now + 2000)).1
          ++ leBytes 1 (b2n (takeover base.toNat (es.length * 20000) (s.now + 2000)).2)) t :)
  ∧ (∀ (s : State) (r : SynReq) (base : W64) (es : List W64) (l : SlotList), s.synRefusal 0x0503 (some 3) r = none →
    s.col.slotPending = some l →
    Does (.synColSchedLoad r base es) s [.mbx] fun t => Answered 0x0503 r 0x0201 [] t :)
  ∧ (∀ (s : State) (r : SynReq) (g : BitVec 12) (o : ColOp), s.synRefusal 0x0504 (s.domGroup g.toNat) r = none →
    s.opOf g.toNat = some o → o.abort = none → s.opEnded o = false →
    Does (.synColAbort r g) s (Part.sending ++ [.flags, .lfsr, .guards, .col]) fun t =>
      (t.opOf g.toNat).map (·.abort) = some (some (0x27, s.now)) ∧ Answered 0x0504 r 0 [] t :)
  ∧ (∀ (s : State) (r : SynReq) (g : BitVec 12), s.synRefusal 0x0504 (s.domGroup g.toNat) r = none →
    s.opOf g.toNat = none →
    Does (.synColAbort r g) s [.mbx] fun t => Answered 0x0504 r 0x0202 [] t :)
  ∧ (∀ (s : State) (r : SynReq) (g : BitVec 12) (b : BitVec 15) (grp : ColGroup) (o : ColOp),
    s.synRefusal 0x0505 (s.domGroup g.toNat) r = none → s.grp g.toNat = some grp → grp.op = some o →
    Does (.synColQuery r g b) s [.free, .mbx] fun t =>
      Answered 0x0505 r 0 (leBytes 4 (cSeq o.desc) ++ leBytes 2 grp.epoch ++ leBytes 1 (s.liveBit grp b.toNat)
        ++ leBytes 4 (s.rd COL_DISCARD).toNat) t :)

/-- R124 to R129, R134, R138: the rings of the tier engine, its registers and what comes from the accelerators. -/
def Obligations.KeyValueRingsAndAccelerators : Prop :=
  (∀ (s : State) (q : Requester) (v : W32), coreWrites q = true → s.modeKept → s.kv.jobs = [] → s.bit KV_CTL KV_CTL_EN = false →
    s.bit KV_CTL KV_CTL_JOB_EN = false → s.bit KV_CTL KV_CTL_DONE_EN = false → bitAt v.toNat 1 = false →
    bitAt v.toNat 2 = false → s.kvEnCheck = none →
    Does (.kvEnSet q v) s [.regs, .hbm] fun t =>
      t.bit KV_CTL KV_CTL_EN = true ∧ t.gf KV_CTL KV_CTL_REFUSAL = 0 ∧ t.gf KV_CTL KV_CTL_PF_LIMIT = bitsOf v.toNat 8 8
        ∧ RegsBut [KV_CTL] s t :)
  ∧ (∀ (s : State) (q : Requester) (v : W32) (c : Nat), coreWrites q = true → s.modeKept → s.kv.jobs = [] →
    s.bit KV_CTL KV_CTL_EN = false → s.bit KV_CTL KV_CTL_JOB_EN = false → s.bit KV_CTL KV_CTL_DONE_EN = false →
    bitAt v.toNat 1 = false → bitAt v.toNat 2 = false → s.kvEnCheck = some c →
    Does (.kvEnSet q v) s [.regs, .hbm] fun t =>
      t.bit KV_CTL KV_CTL_EN = false ∧ t.gf KV_CTL KV_CTL_REFUSAL = c ∧ (c = 0x0660 ∨ c = 0x0661) ∧ RegsBut [KV_CTL] s t :)
  ∧ (∀ (s : State) (q : Requester) (v : W32), coreWrites q = true → s.modeKept → s.kv.jobs = [] →
    s.bit KV_CTL KV_CTL_JOB_EN = false → s.bit KV_CTL KV_CTL_DONE_EN = false → bitAt v.toNat 1 = false →
    bitAt v.toNat 2 = false →
    Does (.kvEnClear q v) s [.regs, .hbm] fun t => t.bit KV_CTL KV_CTL_EN = false ∧ RegsBut [KV_CTL] s t :)
  ∧ (∀ (s : State) (q : Requester) (v : W32), coreWrites q = true → s.modeKept → s.kv.jobs = [] →
    s.bit KV_CTL KV_CTL_JOB_EN = true → bitAt v.toNat 1 = true → s.bit KV_CTL KV_CTL_DONE_EN = bitAt v.toNat 2 →
    Does (.kvEnClear q v) s [.regs, .hbm] fun t =>
      t.bit KV_CTL KV_CTL_EN = s.bit KV_CTL KV_CTL_EN ∧ t.bit KV_CTL KV_CTL_JOB_EN = true ∧ RegsBut [KV_CTL] s t :)
  ∧ (∀ (s : State) (q : Requester) (v : W32), coreWrites q = true → s.modeKept → s.kv.jobs = [] → s.bit KV_CTL KV_CTL_EN = true →
    bitAt v.toNat 0 = true → s.bit KV_CTL KV_CTL_JOB_EN = false → s.bit KV_CTL KV_CTL_DONE_EN = bitAt v.toNat 2 →
    s.kvRingCheck false = none →
    Does (.kvJobEnSet q v) s [.regs, .hbm] fun t =>
      t.bit KV_CTL KV_CTL_JOB_EN = true ∧ t.gf KV_CTL KV_CTL_REFUSAL = 0 ∧ t.bit KV_CTL KV_CTL_EN = true
        ∧ RegsBut [KV_CTL] s t :)
  ∧ (∀ (s : State) (q : Requester) (v : W32), coreWrites q = true → s.modeKept → s.kv.jobs = [] → s.bit KV_CTL KV_CTL_EN = true →
    bitAt v.toNat 0 = true → s.bit KV_CTL KV_CTL_DONE_EN = false → s.bit KV_CTL KV_CTL_JOB_EN = bitAt v.toNat 1 →
    s.kvRingCheck true = none →
    Does (.kvDoneEnSet q v) s [.regs, .hbm] fun t =>
      t.bit KV_CTL KV_CTL_DONE_EN = true ∧ t.gf KV_CTL KV_CTL_REFUSAL = 0 ∧ t.bit KV_CTL KV_CTL_EN = true
        ∧ RegsBut [KV_CTL] s t :)
  ∧ (∀ (s : State) (q : Requester) (v : W32), coreWrites q = true → s.bit KV_CTL KV_CTL_JOB_EN = false →
    Does (.kvRingBaseWrite q false false v) s [.regs] fun t =>
      t.rd KV_JOB_BASE = v &&& 0xFFFFF01F#32 ∧ t.jobTail = 0 ∧ t.gf KV_JOB_HEAD KV_JOB_HEAD_HEAD = 0
        ∧ t.doneHead = s.doneHead ∧ RegsBut [KV_JOB_BASE, KV_RING_STATUS, KV_JOB_HEAD] s t :)
  ∧ (∀ (s : State) (q : Requester) (v : W32), coreWrites q = true → s.bit KV_CTL KV_CTL_DONE_EN = false →
    Does (.kvRingBaseWrite q true true v) s [.regs] fun t =>
      t.rd (KV_DONE_BASE + 4) = v &&& 0x000FFFFF#32 ∧ t.doneHead = 0 ∧ t.gf KV_DONE_DB KV_DONE_DB_CMD_TAIL = 0
        ∧ t.jobTail = s.jobTail ∧ RegsBut [KV_DONE_BASE + 4, KV_RING_STATUS, KV_DONE_DB] s t :)
  ∧ (∀ (s : State) (q : Requester) (hi : Bool) (v : W32), s.bit KV_CTL KV_CTL_JOB_EN = true →
    Does (.kvRingBaseWrite q false hi v) s [] fun _ => True :)
  ∧ (∀ (s : State) (q : Requester) (v : W32), coreWrites q = true →
    Does (.kvJobHeadWrite q v) s [.regs] fun t =>
      t.gf KV_JOB_HEAD KV_JOB_HEAD_HEAD = v.toNat % 2 ^ 16 ∧ RegsBut [KV_JOB_HEAD] s t :)
  ∧ (∀ (s : State) (q : Requester) (v : W32), coreWrites q = true → ixDiff (v.toNat % 2 ^ 16) s.doneHead ≤ 2 ^ s.doneLog →
    Does (.kvDoneDb q v) s [.regs] fun t =>
      t.gf KV_DONE_DB KV_DONE_DB_CMD_TAIL = v.toNat % 2 ^ 16 ∧ RegsBut [KV_DONE_DB] s t :)
  ∧ (∀ (s : State) (q : Requester) (v : W32), coreWrites q = true → 2 ^ s.doneLog < ixDiff (v.toNat % 2 ^ 16) s.doneHead →
    Does (.kvDoneDb q v) s [.regs] fun t =>
      t.gf KV_DISCARD KV_DISCARD_COUNT = min (2 ^ 32 - 1) (s.gf KV_DISCARD KV_DISCARD_COUNT + 1) ∧ RegsBut [KV_DISCARD] s t :)
  ∧ (∀ (s : State) (j : KvJob), s.kvEn = true → s.bit KV_CTL KV_CTL_JOB_EN = true → s.jobRoom = true →
    s.nextJob s.kv.jobs [] [] false = some j → s.bit CKP_CTL CKP_CTL_EN = false →
    inHbm (s.jobBase + s.jobTail % 2 ^ s.jobLog * 64) 64 = true →
    Does .jobPost s (Part.storing ++ [.kv]) fun t =>
      t.jobTail = ix16 (s.jobTail + 1) ∧ t.bytes (s.jobBase + s.jobTail % 2 ^ s.jobLog * 64) 64 = j.record
        ∧ t.kv = { s.kv with jobs := s.kv.jobs.map (fun k => if k.id = j.id then { k with posted := true } else k) } :)
  ∧ (∀ (s : State), s.jobRoom = false → Does .jobPost s [] fun _ => True :)
  ∧ (∀ (s : State) (d : List Byte), s.doneRecord = some d → fieldLE d 0 1 = 0 →
    (∀ j ∈ s.kv.jobs, ¬(j.id = fieldLE d 4 4 ∧ j.posted = true ∧ j.failed = false)) →
    Does .jobDone s [.regs] fun t =>
      t.gf KV_DISCARD KV_DISCARD_COUNT = min (2 ^ 32 - 1) (s.gf KV_DISCARD KV_DISCARD_COUNT + 1)
        ∧ t.doneHead = ix16 (s.doneHead + 1) ∧ RegsBut [KV_DISCARD, KV_RING_STATUS] s t :)
  ∧ (∀ (s : State) (d : List Byte) (j : KvJob), s.doneRecord = some d → fieldLE d 0 1 = 0 →
    s.kv.jobs.find? (fun j => j.id == fieldLE d 4 4 && j.posted && !j.failed) = some j → fieldLE d 2 2 ≠ 0 →
    fieldLE d 2 2 ≠ 0x12 → s.onDie j.stream →
    s.cx j.stream cxSTATE ≠ stClosing → s.cx j.stream cxSTATE ≠ stError →
    Does .jobDone s (Part.storing ++ [.free, .kv]) fun t =>
      t.cx j.stream cxSTATE = stError ∧ t.cx j.stream cxPRIOR = s.cx j.stream cxSTATE
        ∧ t.doneHead = ix16 (s.doneHead + 1) :)
  ∧ (∀ (s : State) (d : List Byte) (j : KvJob), s.doneRecord = some d → fieldLE d 0 1 = 0 →
    s.kv.jobs.find? (fun j => j.id == fieldLE d 4 4 && j.posted && !j.failed) = some j →
    (fieldLE d 2 2 = 0 ∨ fieldLE d 2 2 = 0x12) →
    j.kind = 4 → s.cx j.stream cxSTATE = stParked → s.onDie j.stream →
    Does .jobDone s (Part.storing ++ [.free, .kv]) fun t =>
      t.cx j.stream cxSTATE = stParked ∧ t.cx j.stream cxNEXT_SET = bitsOf (fieldLE d 8 8) 6 46 * 64
        ∧ t.kv.jobs.map (·.id) = (s.kv.jobs.filter (fun k => k.id != j.id)).map (·.id)
        ∧ t.doneHead = ix16 (s.doneHead + 1) :)
  ∧ (∀ (s : State) (d : List Byte) (n : Nat), s.doneRecord = some d → fieldLE d 0 1 = 1 → fieldLE d 4 4 = n → n < 2 ^ 20 →
    s.onDie n →
    (fieldLE d 12 2 ≠ s.cx n cxGEN ∨ fieldLE d 8 4 < s.cx n cxTOKENS
      ∨ kcLimit (s.classRec (s.cx n cxCLASS)) < fieldLE d 8 4) →
    Does .tokenAdvance s [.regs] fun t =>
      t.gf KV_DISCARD KV_DISCARD_COUNT = min (2 ^ 32 - 1) (s.gf KV_DISCARD KV_DISCARD_COUNT + 1)
        ∧ t.doneHead = ix16 (s.doneHead + 1) ∧ RegsBut [KV_DISCARD, KV_RING_STATUS] s t :)
  ∧ (∀ (s : State) (d : List Byte) (n : Nat), s.doneRecord = some d → fieldLE d 0 1 = 1 → fieldLE d 4 4 = n → n < 2 ^ 20 →
    s.onDie n → fieldLE d 12 2 = s.cx n cxGEN → s.cx n cxTOKENS ≤ fieldLE d 8 4 →
    fieldLE d 8 4 ≤ kcLimit (s.classRec (s.cx n cxCLASS)) →
    (s.cx n cxSTATE = stActive ∨ s.cx n cxSTATE = stFrozen) →
    Does .tokenAdvance s (Part.storing ++ [.free, .kv]) fun t =>
      t.cx n cxTOKENS = fieldLE d 8 4 ∧ t.cx n cxSTATE = s.cx n cxSTATE
        ∧ t.doneHead = ix16 (s.doneHead + 1) :)
  ∧ (∀ (s : State) (n : BitVec 20), s.kvEn = true → s.kv.cache.length < 65536 →
    s.kv.cache.any (fun e => e.1 == n.toNat) = false →
    Does (.kvContextFetch n) s (Part.reading ++ [.kv]) fun t =>
      t.kv.cache.find? (fun e => e.1 == n.toNat) = some (n.toNat, s.bytes (s.kvCtxAddr n.toNat) 256) :)
  ∧ (∀ (s : State) (n : BitVec 20) (l : Byte) (ds : List Nat) (d : Nat),
    s.kv.deadlines.find? (fun e => e.1 == n.toNat) = some (n.toNat, ds) → ds[l.toNat]? = some d →
    s.cx n.toNat cxREADY ≤ l.toNat →
    d + kcLead (s.classRec (s.cx n.toNat cxCLASS)) ≤ s.now → (n.toNat, l.toNat) ∉ s.kv.late →
    s.onDie n.toNat →
    Does (.pushDeadlineMiss n l) s (Part.storing ++ [.free, .kv]) fun t =>
      t.gf KV_LATE KV_LATE_COUNT = min (2 ^ 32 - 1) (s.gf KV_LATE KV_LATE_COUNT + 1) ∧ t.cx n.toNat cxPF_LATE = 1
        ∧ t.kv.late = (n.toNat, l.toNat) :: s.kv.late :)
  ∧ (∀ (s : State) (port : Fin 8) (off : BitVec 12) (pr : List Byte) (p : Nat), s.profile port.val = some pr →
    off.toNat % 4 = 0 → (s.translate 8 (kpFctx pr) (kpCflagVbase pr + off.toNat / 4) needSet).1 = some p →
    Tab.get markClean s.flags.ecc (p / 64) = .clean → s.flt.injections = [] →
    (∀ w ∈ s.flags.waiters, w.pflag = p → w.consume = false) →
    Does (.completionFlagWrite port off 4) s (Part.reading ++ [.flags]) fun t => t.flagVal p = true :)
  ∧ (∀ (s : State) (port : Fin 8) (off : BitVec 12) (len : BitVec 13) (pr : List Byte), s.profile port.val = some pr →
    (len.toNat ≠ 4 ∨ off.toNat % 4 ≠ 0) →
    Does (.completionFlagWrite port off len) s [.regs] fun t =>
      t.gf KV_DISCARD KV_DISCARD_COUNT = min (2 ^ 32 - 1) (s.gf KV_DISCARD KV_DISCARD_COUNT + 1) ∧ RegsBut [KV_DISCARD] s t :)
  ∧ (∀ (s : State) (port : Fin 8) (addr : W64) (len : BitVec 13) (pr : List Byte), s.profile port.val = some pr →
    inboundWindow pr 0 addr.toNat len.toNat = none → inboundWindow pr 1 addr.toNat len.toNat = none →
    Does (.upstreamRequest port addr false len []) s [.regs, .answer32, .answerErr] fun t =>
      t.answerErr = some .address ∧ t.answer32 = []
        ∧ t.gf KV_DISCARD KV_DISCARD_COUNT = min (2 ^ 32 - 1) (s.gf KV_DISCARD KV_DISCARD_COUNT + 1) :)
  ∧ (∀ (s : State) (port : Fin 8) (addr : W64) (len : BitVec 13) (pr bs : List Byte) (a rights : Nat),
    s.profile port.val = some pr → inboundWindow pr 0 addr.toNat len.toNat = some (a, rights) → bitAt rights 0 = true →
    (s.load a len.toNat).1 = none → (s.load a len.toNat).2.1 = bs →
    Does (.upstreamRequest port addr false len []) s (Part.reading ++ [.answer32, .answerErr]) fun t =>
      t.answer32 = bs ∧ t.answerErr = none :)
  ∧ (∀ (s : State) (port : Fin 8) (addr : W64) (len : BitVec 13) (pr data : List Byte) (a rights : Nat),
    s.profile port.val = some pr → ¬(kpCflagAddr pr ≤ addr.toNat ∧ addr.toNat < kpCflagAddr pr + 4096) →
    inboundWindow pr 0 addr.toNat data.length = some (a, rights) → bitAt rights 1 = true → (s.store a data).1 = none →
    Does (.upstreamRequest port addr true len data) s Part.storing fun t => t.mem = (s.store a data).2.mem :)

/-- R119 to R125, R130 to R136, R139: the Syncen operations on streams, classes and profiles. Payload layouts are the model's (log entry 10). -/
def Obligations.StreamRequestsFollowTheStates : Prop :=
  (∀ (s : State) (r : SynReq) (cls : BitVec 6) (n pick : BitVec 20) (table : Fin 37748736),
    s.synRefusal 0x0600 (domStream n.toNat) r = none → s.kvEn = true → kcValid (s.classRec cls.toNat) = true →
    s.cx n.toNat cxSTATE = stFree → (s.kv.cache.length < 65536 ∨ s.onDie n.toNat) →
    Does (.synStreamOpen r cls (some n) pick table) s (Part.storing ++ [.free, .kv]) fun t =>
      t.cx n.toNat cxSTATE = stParked ∧ t.cx n.toNat cxCLASS = cls.toNat ∧ t.cx n.toNat cxGEN = s.cx n.toNat cxGEN
        ∧ t.cx n.toNat cxASI = noAsi ∧ t.cx n.toNat cxTOKENS = 0 ∧ t.cx n.toNat cxNSETS = 0
        ∧ t.cx n.toNat cxSET_TABLE = table.val * 4096
        ∧ Answered 0x0600 r 0 (leBytes 4 n.toNat ++ leBytes 2 (s.cx n.toNat cxGEN)) t :)
  ∧ (∀ (s : State) (r : SynReq) (cls : BitVec 6) (st : Option (BitVec 20)) (pick : BitVec 20) (table : Fin 37748736),
    s.synRefusal 0x0600 (domStream (st.getD pick).toNat) r = none → s.kvEn = true → kcValid (s.classRec cls.toNat) = false →
    Does (.synStreamOpen r cls st pick table) s [.mbx] fun t => Answered 0x0600 r 0x0102 [] t :)
  ∧ (∀ (s : State) (r : SynReq) (n : BitVec 20) (gen : W16), s.synRefusal 0x0601 (domStream n.toNat) r = none →
    s.kvEn = true → s.onDie n.toNat → gen.toNat ≠ s.cx n.toNat cxGEN →
    Does (.synStreamClose r n gen) s [.mbx] fun t => Answered 0x0601 r 0x0202 [] t :)
  ∧ (∀ (s : State) (r : SynReq) (n : BitVec 20) (gen : W16), s.synRefusal 0x0601 (domStream n.toNat) r = none →
    s.kvEn = true → s.onDie n.toNat → gen.toNat = s.cx n.toNat cxGEN →
    s.cx n.toNat cxSTATE = stParked → s.cx n.toNat cxNSETS = 0 → s.cx n.toNat cxASI = noAsi → s.kv.jobs = [] →
    n.toNat ∉ s.kv.releasing →
    Does (.synStreamClose r n gen) s (Part.storing ++ [.free, .kv]) fun t =>
      t.cx n.toNat cxSTATE = stFree ∧ t.cx n.toNat cxGEN = (gen.toNat + 1) % 2 ^ 16 ∧ Answered 0x0601 r 0 [] t :)
  ∧ (∀ (s : State) (r : SynReq) (n : BitVec 20) (gen : W16), s.synRefusal 0x0601 (domStream n.toNat) r = none →
    s.kvEn = true → s.onDie n.toNat → gen.toNat = s.cx n.toNat cxGEN →
    s.cx n.toNat cxSTATE ≠ stFree → s.cx n.toNat cxSTATE ≠ stClosing →
    (∃ j ∈ s.kv.jobs, j.stream = n.toNat ∧ j.posted = true ∧ j.failed = false) →
    Does (.synStreamClose r n gen) s (Part.storing ++ [.free, .kv]) fun t =>
      t.cx n.toNat cxSTATE = stClosing ∧ t.cx n.toNat cxGEN = gen.toNat ∧ Answered 0x0601 r 0 [] t :)
  ∧ (∀ (s : State) (r : SynReq) (n : BitVec 20) (gen : W16) (t0 : W64) (k0 : BitVec 12),
    s.synRefusal 0x0602 (domStream n.toNat) r = none → s.kvEn = true → s.onDie n.toNat →
    gen.toNat = s.cx n.toNat cxGEN → s.cx n.toNat cxSTATE ≠ stParked →
    Does (.synStreamResume r n gen t0 k0) s [.mbx] fun t => Answered 0x0602 r 0x0201 [] t :)
  ∧ (∀ (s : State) (r : SynReq) (n : BitVec 20) (gen : W16) (t0 : W64) (k0 : BitVec 12),
    s.synRefusal 0x0602 (domStream n.toNat) r = none → s.kvEn = true → s.onDie n.toNat →
    gen.toNat = s.cx n.toNat cxGEN → s.cx n.toNat cxSTATE = stParked → s.futureSlot t0.toNat k0.toNat = false →
    Does (.synStreamResume r n gen t0 k0) s [.mbx] fun t => Answered 0x0602 r 0x0103 [] t :)
  ∧ (∀ (s : State) (r : SynReq) (n : BitVec 20) (gen : W16) (t0 : W64) (k0 : BitVec 12) (a : Nat),
    s.synRefusal 0x0602 (domStream n.toNat) r = none → s.kvEn = true → s.onDie n.toNat →
    gen.toNat = s.cx n.toNat cxGEN → s.cx n.toNat cxSTATE = stParked → s.futureSlot t0.toNat k0.toNat = true →
    (s.freeAsi ((kcPorts (s.classRec (s.cx n.toNat cxCLASS))).map (·.2))).isSome = true →
    a = (s.freeAsi ((kcPorts (s.classRec (s.cx n.toNat cxCLASS))).map (·.2))).getD 0 →
    (∀ p ∈ (kcPorts (s.classRec (s.cx n.toNat cxCLASS))).map (·.2),
      lastGroup (s.classRec (s.cx n.toNat cxCLASS)) (s.cx n.toNat cxTOKENS) + 1 ≤ s.freeSlots p) →
    Does (.synStreamResume r n gen t0 k0) s (Part.storing ++ [.free, .kv]) fun t =>
      (t.cx n.toNat cxSTATE = stResuming ∨ t.cx n.toNat cxSTATE = stActive) ∧ t.cx n.toNat cxASI = a
        ∧ t.cx n.toNat cxT0 = t0.toNat ∧ t.cx n.toNat cxK0 = k0.toNat ∧ t.cx n.toNat cxTOKENS = s.cx n.toNat cxTOKENS
        ∧ Answered 0x0602 r 0 (leBytes 2 a) t :)
  ∧ (∀ (s : State) (r : SynReq) (n : BitVec 20) (gen : W16), s.synRefusal 0x0603 (domStream n.toNat) r = none →
    s.kvEn = true → s.onDie n.toNat → gen.toNat = s.cx n.toNat cxGEN →
    s.cx n.toNat cxSTATE ≠ stResuming → s.cx n.toNat cxSTATE ≠ stActive →
    Does (.synStreamPark r n gen) s [.mbx] fun t => Answered 0x0603 r 0x0201 [] t :)
  ∧ (∀ (s : State) (r : SynReq) (n : BitVec 20) (gen : W16), s.synRefusal 0x0603 (domStream n.toNat) r = none →
    s.kvEn = true → s.onDie n.toNat → gen.toNat = s.cx n.toNat cxGEN →
    s.cx n.toNat cxSTATE = stActive → s.kv.jobs = [] → s.kv.short = [] → s.cx n.toNat cxTOKENS ≤ s.cx n.toNat cxPULLED_TO →
    Does (.synStreamPark r n gen) s (Part.storing ++ [.free, .kv]) fun t =>
      t.cx n.toNat cxSTATE = stParked ∧ t.cx n.toNat cxASI = noAsi ∧ Answered 0x0603 r 0 [] t :)
  ∧ (∀ (s : State) (r : SynReq) (n : BitVec 20) (gen : W16), s.synRefusal 0x0603 (domStream n.toNat) r = none →
    s.kvEn = true → s.onDie n.toNat → gen.toNat = s.cx n.toNat cxGEN →
    (s.cx n.toNat cxSTATE = stActive ∨ s.cx n.toNat cxSTATE = stResuming) →
    (∃ j ∈ s.kv.jobs, j.stream = n.toNat ∧ j.posted = true ∧ j.failed = false) →
    Does (.synStreamPark r n gen) s (Part.storing ++ [.free, .kv]) fun t =>
      t.cx n.toNat cxSTATE = stParking ∧ t.cx n.toNat cxASI = s.cx n.toNat cxASI ∧ Answered 0x0603 r 0 [] t :)
  ∧ (∀ (s : State) (r : SynReq) (n : BitVec 20) (gen : W16) (first : BitVec 9) (count : BitVec 10) (tier : Fin 3),
    s.synRefusal 0x0604 (domStream n.toNat) r = none → s.kvEn = true → s.onDie n.toNat →
    gen.toNat = s.cx n.toNat cxGEN → s.cx n.toNat cxSTATE = stActive →
    first.toNat ≤ s.cx n.toNat cxTOKENS / kcPage (s.classRec (s.cx n.toNat cxCLASS)) →
    s.cx n.toNat cxTOKENS / kcPage (s.classRec (s.cx n.toNat cxCLASS)) < first.toNat + count.toNat →
    Does (.synStreamMove r n gen first count tier) s [.mbx] fun t => Answered 0x0604 r 0x0203 [] t :)
  ∧ (∀ (s : State) (r : SynReq) (n : BitVec 20) (gen : W16) (first : BitVec 9) (tier : Fin 3) (d : Nat),
    s.synRefusal 0x0604 (domStream n.toNat) r = none → s.kvEn = true → s.onDie n.toNat →
    gen.toNat = s.cx n.toNat cxGEN → s.cx n.toNat cxSTATE = stParked → s.setDesc n.toNat first.toNat = some d →
    Does (.synStreamMove r n gen first 1 tier) s (Part.storing ++ [.free, .kv]) fun t =>
      (∃ j ∈ t.kv.jobs, j.kind = 3 ∧ j.stream = n.toNat ∧ j.set_ = d ∧ j.to_ = tier.val) ∧ Answered 0x0604 r 0 [] t :)
  ∧ (∀ (s : State) (r : SynReq) (n : BitVec 20) (gen : W16), s.synRefusal 0x0605 (domStream n.toNat) r = none →
    s.kvEn = true → s.onDie n.toNat → gen.toNat = s.cx n.toNat cxGEN →
    Does (.synStreamQuery r n gen) s [.mbx] fun t => Answered 0x0605 r 0 ((s.ctx n.toNat).take 128) t :)
  ∧ (∀ (s : State) (r : SynReq) (n : BitVec 20) (gen : W16), s.synRefusal 0x0606 (domStream n.toNat) r = none →
    s.kvEn = true → s.onDie n.toNat → gen.toNat = s.cx n.toNat cxGEN →
    s.cx n.toNat cxSTATE ≠ stError →
    Does (.synStreamRetry r n gen) s [.mbx] fun t => Answered 0x0606 r 0x0201 [] t :)
  ∧ (∀ (s : State) (r : SynReq) (n : BitVec 20) (gen : W16), s.synRefusal 0x0606 (domStream n.toNat) r = none →
    s.kvEn = true → s.onDie n.toNat → gen.toNat = s.cx n.toNat cxGEN →
    s.cx n.toNat cxSTATE = stError → (s.cx n.toNat cxPRIOR = stParked ∨ s.cx n.toNat cxPRIOR = stActive) →
    Does (.synStreamRetry r n gen) s (Part.storing ++ [.free, .kv]) fun t =>
      t.cx n.toNat cxSTATE = s.cx n.toNat cxPRIOR ∧ (∀ j ∈ t.kv.jobs, j.stream = n.toNat → j.failed = false)
        ∧ Answered 0x0606 r 0 [] t :)
  ∧ (∀ (s : State) (r : SynReq) (cls : BitVec 6) (rec_ : List Byte), s.synRefusal 0x0608 (domStream 0) r = none →
    (∃ e ∈ s.kv.opened, e.2 = cls.toNat) →
    Does (.synKvClassSet r cls rec_) s [.mbx] fun t => Answered 0x0608 r 0x0204 [] t :)
  ∧ (∀ (s : State) (r : SynReq) (cls : BitVec 6) (rec_ : List Byte), s.synRefusal 0x0608 (domStream 0) r = none →
    (∀ e ∈ s.kv.opened, e.2 ≠ cls.toNat) → rec_.length = 64 → kcFieldsOk rec_ = false →
    Does (.synKvClassSet r cls rec_) s [.regs, .mbx] fun t =>
      Answered 0x0608 r 0x0662 [] t ∧ t.gf KV_CTL KV_CTL_REFUSAL = 0x0662 ∧ RegsBut [KV_CTL] s t :)
  ∧ (∀ (s : State) (r : SynReq) (cls : BitVec 6) (rec_ : List Byte), s.synRefusal 0x0608 (domStream 0) r = none →
    (∀ e ∈ s.kv.opened, e.2 ≠ cls.toNat) → rec_.length = 64 → kcFieldsOk rec_ = true →
    (∃ kp ∈ kcPorts rec_, s.profile kp.2 = none) →
    Does (.synKvClassSet r cls rec_) s [.regs, .mbx] fun t =>
      Answered 0x0608 r 0x0663 [] t ∧ t.gf KV_CTL KV_CTL_REFUSAL = 0x0663 ∧ RegsBut [KV_CTL] s t :)
  ∧ (∀ (s : State) (r : SynReq) (cls : BitVec 6) (rec_ : List Byte), s.synRefusal 0x0608 (domStream 0) r = none →
    (∀ e ∈ s.kv.opened, e.2 ≠ cls.toNat) → rec_.length = 64 → kcFieldsOk rec_ = true → kcValid rec_ = true →
    ((kcPorts rec_).map (·.2)).Nodup → (∀ kp ∈ kcPorts rec_, (s.profile kp.2).isSome = true) →
    (∃ kp ∈ kcPorts rec_, (s.profile kp.2).any (kcFits rec_) = false) →
    Does (.synKvClassSet r cls rec_) s [.regs, .mbx] fun t =>
      Answered 0x0608 r 0x0665 [] t ∧ t.gf KV_CTL KV_CTL_REFUSAL = 0x0665 ∧ RegsBut [KV_CTL] s t :)
  ∧ (∀ (s : State) (r : SynReq) (cls : BitVec 6) (rec_ : List Byte), s.synRefusal 0x0608 (domStream 0) r = none →
    (∀ e ∈ s.kv.opened, e.2 ≠ cls.toNat) → rec_.length = 64 → kcFieldsOk rec_ = true →
    ((kcPorts rec_).map (·.2)).Nodup → (∀ kp ∈ kcPorts rec_, (s.profile kp.2).isSome = true) →
    (kcValid rec_ = false ∨ ∀ kp ∈ kcPorts rec_, (s.profile kp.2).any (kcFits rec_) = true) →
    s.bit CKP_CTL CKP_CTL_EN = false → inHbm ((s.gf KV_CLASS_BASE KV_CLASS_BASE_BASE <<< 12) + cls.toNat * 64) 64 = true →
    Does (.synKvClassSet r cls rec_) s Part.storing fun t =>
      t.bytes ((s.gf KV_CLASS_BASE KV_CLASS_BASE_BASE <<< 12) + cls.toNat * 64) 64 = rec_ ∧ Answered 0x0608 r 0 [] t :)
  ∧ (∀ (s : State) (r : SynReq) (port : Fin 8) (rec_ : List Byte), s.synRefusal 0x0609 (domStream 0) r = none →
    s.asiOn port.val = true → Does (.synKvProfileLoad r port rec_) s [.mbx] fun t => Answered 0x0609 r 0x0205 [] t :)
  ∧ (∀ (s : State) (r : SynReq) (port : Fin 8) (rec_ : List Byte), s.synRefusal 0x0609 (domStream 0) r = none →
    s.asiOn port.val = false → rec_.length = 128 → kpOk rec_ port.val = false →
    Does (.synKvProfileLoad r port rec_) s [.regs, .mbx] fun t =>
      Answered 0x0609 r 0x0664 [] t ∧ t.gf KV_CTL KV_CTL_REFUSAL = 0x0664 ∧ RegsBut [KV_CTL] s t :)
  ∧ (∀ (s : State) (r : SynReq) (port : Fin 8) (rec_ : List Byte), s.synRefusal 0x0609 (domStream 0) r = none →
    s.asiOn port.val = false → rec_.length = 128 → kpOk rec_ port.val = true →
    (∃ c, c < 64 ∧ kcValid (s.classRec c) = true ∧ (∃ kp ∈ kcPorts (s.classRec c), kp.2 = port.val)
      ∧ kcFits (s.classRec c) rec_ = false) →
    Does (.synKvProfileLoad r port rec_) s [.regs, .mbx] fun t =>
      Answered 0x0609 r 0x0665 [] t ∧ t.gf KV_CTL KV_CTL_REFUSAL = 0x0665 ∧ RegsBut [KV_CTL] s t :)
  ∧ (∀ (s : State) (r : SynReq) (port : Fin 8) (rec_ : List Byte), s.synRefusal 0x0609 (domStream 0) r = none →
    s.asiOn port.val = false → rec_.length = 128 → kpOk rec_ port.val = true →
    (∀ c, c < 64 → kcValid (s.classRec c) = true → (∃ kp ∈ kcPorts (s.classRec c), kp.2 = port.val) →
      kcFits (s.classRec c) rec_ = true) →
    Does (.synKvProfileLoad r port rec_) s (Part.storing ++ [.mbx, .accelWin, .kv, .pins]) fun t =>
      t.profile port.val = some rec_ ∧ t.gf KV_CTL KV_CTL_REFUSAL = 0 ∧ Answered 0x0609 r 0 [] t
        ∧ Tab.get (fun _ => []) t.accelWin port.val = [(kpOwinBase rec_, kpOwinSize rec_)] ∧ port.val ∈ t.pins.aperst
        ∧ t.kv = { s.kv with profiles := Tab.insert s.kv.profiles port.val rec_ } :)
  ∧ (∀ (s : State) (r : SynReq) (port : Fin 8), s.synRefusal 0x060A (domStream 0) r = none → s.asiOn port.val = true →
    Does (.synKvProfileUnload r port) s [.mbx] fun t => Answered 0x060A r 0x0205 [] t :)
  ∧ (∀ (s : State) (r : SynReq) (port : Fin 8), s.synRefusal 0x060A (domStream 0) r = none → s.asiOn port.val = false →
    Does (.synKvProfileUnload r port) s [.mbx, .accelWin, .kv, .pins] fun t =>
      t.profile port.val = none ∧ Tab.get (fun _ => []) t.accelWin port.val = [] ∧ Answered 0x060A r 0 [] t :)

/-- R140 to R151, R152 to R155, R161: launches, tails, sampling, drafts and the release of records. -/
def Obligations.ElandStepsFollowTheLaunch : Prop :=
  (∀ (s : State) (c : Fin 2) (pf : Bool), s.eland.configured = true →
    (∀ l, s.elLaunch c.val = some l → s.tailsOver l = true ∧ l.sampled = true) → s.domainRuns (1 + c.val) = true →
    s.leaseLapsed = false → (s.startNs c.val (s.elStep c.val) s.now).2 = false → (pf = true → s.prefillDue c.val = true) →
    (pf = false → ∀ e ∈ s.eland.streams, e.cohort = c.val → e.prefill = [] → s.drafting e = false) →
    Does (.launch c pf) s (Part.storing ++ [.eland]) fun t =>
      t.eland = { s.eland with
        stats := s.eland.stats.set 0 (s.eland.stats[0]?.getD 0 + 1)
        steps := s.eland.steps.set c.val (s.elStep c.val + 1)
        launches := Tab.insert s.eland.launches c.val ⟨s.elStep c.val, pf, s.schedStart c.val (s.elStep c.val),
          ((s.eland.streams.filter (fun e => e.cohort == c.val && s.elReady e && (if pf then e.prefill != []
            else e.prefill == [] && s.cx e.stream exLAST_VALID == 1))).take 128).map s.elEntry, [], false, false⟩
        streams := s.eland.streams.map (fun e =>
          if e.cohort = c.val then { e with drafts := [], qs := [], ctl := none } else e)
        prefillFrom := if pf then s.eland.prefillFrom.set c.val (s.elStep c.val + 25) else s.eland.prefillFrom } :)
  ∧ (∀ (s : State) (c : Fin 2) (pf : Bool) (p : Fin 8) (rec pr : List Byte), s.eland.configured = true →
    s.elLaunch c.val = none → s.domainRuns (1 + c.val) = true → s.leaseLapsed = false →
    (pf = true → s.prefillDue c.val = true) →
    (pf = false → ∀ e ∈ s.eland.streams, e.cohort = c.val → e.prefill = [] → s.drafting e = false) →
    s.eland.ports = [(p.val, rec)] → s.profile p.val = some pr →
    ((s.poke (accelAddr p.val (epLaunchOff rec + c.val * epLaunchBytes rec))
      (launchBlock c.val ⟨s.elStep c.val, pf, (s.startNs c.val (s.elStep c.val) s.now).1,
        ((s.eland.streams.filter (fun e => e.cohort == c.val && s.elReady e && (if pf then e.prefill != []
          else e.prefill == [] && s.cx e.stream exLAST_VALID == 1))).take 128).map s.elEntry, [], false, false⟩
        ((tailAddr pr rec).getD 0 + c.val * tailArea))).store (accelAddr p.val (kpDoorbell pr))
      (leBytes (if kpDb8 pr then 8 else 4) (s.elStep c.val * 2 + c.val))).1 = none →
    Does (.launch c pf) s (Part.storing ++ [.eland]) fun t =>
      Output.write (accelAddr p.val (kpDoorbell pr))
        (leBytes (if kpDb8 pr then 8 else 4) (s.elStep c.val * 2 + c.val)) ∈ t.out :)
  ∧ (∀ (s : State) (c : Fin 2) (pf : Bool) (l : ElLaunch), s.elLaunch c.val = some l → s.tailsOver l = false →
    Does (.launch c pf) s [] fun _ => True :)
  ∧ (∀ (s s1 s2 s3 : State) (c : Fin 2) (p : Fin 8) (l : ElLaunch) (rec pr : List Byte) (f : Nat)
    (rows : List (List (Option ElTail))),
    s.elLaunch c.val = some l → s.elPort p.val = some rec → s.profile p.val = some pr → l.expired = false →
    l.sampled = false → (∀ t ∈ l.tails, t.1 ≠ p.val) → s.now < l.start + s.eland.limit →
    s.translate 8 (kpFctx pr) (kpCflagVbase pr + epTailFlag rec + c.val) needConsume = (some f, s1) →
    s1.flagTake f true = (true, s2) → s2.readTails c.val l rec = (true, rows, s3) →
    Does (.tailDone c p) s (Part.reading ++ [.flags, .eland]) fun t =>
      t.eland = { s.eland with launches := Tab.insert s.eland.launches c.val { l with tails := l.tails ++ [(p.val, rows)] } } :)
  ∧ (∀ (s s1 s2 : State) (c : Fin 2) (p : Fin 8) (l : ElLaunch) (rec pr : List Byte) (f : Nat),
    s.elLaunch c.val = some l → s.elPort p.val = some rec → s.profile p.val = some pr → l.expired = false →
    l.sampled = false → (∀ t ∈ l.tails, t.1 ≠ p.val) → s.now < l.start + s.eland.limit →
    s.translate 8 (kpFctx pr) (kpCflagVbase pr + epTailFlag rec + c.val) needConsume = (some f, s1) →
    s1.flagTake f true = (true, s2) → (s2.readTails c.val l rec).1 = false →
    Does (.tailDone c p) s (Part.reading ++ [.flags]) fun _ => True :)
  ∧ (∀ (s : State) (c : Fin 2) (l : ElLaunch), s.elLaunch c.val = some l → s.tailsOver l = false → l.sampled = false →
    l.start + s.eland.limit ≤ s.now →
    Does (.tailLimitExpiry c) s [.eland] fun t =>
      t.eland = { s.eland with
        stats := s.eland.stats.set 2 (s.eland.stats[2]?.getD 0 + 1)
        launches := Tab.insert s.eland.launches c.val { l with expired := true } } :)
  ∧ (∀ (s : State) (c : Fin 2) (l : ElLaunch), s.elLaunch c.val = some l → s.now < l.start + s.eland.limit →
    Does (.tailLimitExpiry c) s [] fun _ => True :)
  ∧ (∀ (s : State) (c : Fin 2) (l : ElLaunch), s.elLaunch c.val = some l → l.sampled = false → l.expired = true →
    s.domainRuns (1 + c.val) = true → (∀ e ∈ s.eland.streams, e.leaving = false) →
    Does (.sampling c) s (Part.storing ++ [.free, .eland]) fun t =>
      t.elLaunch c.val = some { l with sampled := true } ∧ t.eland.staged = s.eland.staged
        ∧ t.eland.streams = s.eland.streams :)
  ∧ (∀ (s : State) (c : Fin 2) (l : ElLaunch) (e : ElEntry) (pos : List (Nat × Nat) × List Nat) (tok : Nat),
    s.elLaunch c.val = some l → l.sampled = false → s.tailsOver l = true → s.domainRuns (1 + c.val) = true →
    s.eland.draft = none → s.eland.advances = [] → l.entries = [e] → 0 < e.plen → e.ctl.greedy = true → s.onDie e.stream → s.cx e.stream cxGEN = e.gen →
    s.cx e.stream exATTACHED = 1 → s.position l 0 0 = some pos → tok < 2 ^ 32 →
    (elDist 0 e.ctl ((s.history e.stream 256).drop ((s.history e.stream 256).length - e.ctl.repWin)) pos.1).map (·.1) = [tok] →
    s.cx e.stream exMAX_TOKENS = 0 → (∀ i, i < 4 → s.cx e.stream (exSTOP i) = 0xFFFFFFFF) →
    (∀ x ∈ s.eland.streams, x.leaving = false) →
    Does (.sampling c) s (Part.storing ++ [.free, .clu, .kv, .eland]) fun t =>
      t.cx e.stream exLAST = tok ∧ t.cx e.stream exLAST_VALID = 1
        ∧ t.cx e.stream exOUT_SEQ = (s.cx e.stream exOUT_SEQ + 1) % 2 ^ 32
        ∧ t.elLaunch c.val = some { l with sampled := true }
        ∧ t.eland.staged.map (fun r => (r.cstep, r.stream, r.chan, r.endReason))
          = s.eland.staged.map (fun r => (r.cstep, r.stream, r.chan, r.endReason))
            ++ [(2 * l.step + c.val, e.stream, s.cx e.stream exOUT_CHAN, 0)] :)
  ∧ (∀ (s : State) (c : Fin 2) (l : ElLaunch) (e : ElEntry) (p0 p1 : List (Nat × Nat) × List Nat) (last d bonus : Nat),
    s.elLaunch c.val = some l → l.sampled = false → s.tailsOver l = true → s.domainRuns (1 + c.val) = true →
    l.entries = [e] → e.plen = 0 → e.tokens = [last, d] → e.ctl.greedy = true → e.ctl.repWin = 0 → s.onDie e.stream →
    s.cx e.stream cxGEN = e.gen → s.cx e.stream exATTACHED = 1 → s.position l 0 0 = some p0 → s.position l 0 1 = some p1 →
    (elDist 0 e.ctl [] p0.1).map (·.1) = [d] → (elDist 0 e.ctl [d] p1.1).map (·.1) = [bonus] → bonus < 2 ^ 32 →
    s.cx e.stream exMAX_TOKENS = 0 → (∀ i, i < 4 → s.cx e.stream (exSTOP i) = 0xFFFFFFFF) →
    (∀ x ∈ s.eland.streams, x.leaving = false) →
    Does (.sampling c) s (Part.storing ++ [.free, .clu, .kv, .eland]) fun t =>
      t.cx e.stream exLAST = bonus ∧ t.cx e.stream exOUT_SEQ = (s.cx e.stream exOUT_SEQ + 2) % 2 ^ 32 :)
  ∧ (∀ (s : State) (c : Fin 2) (l : ElLaunch) (e : ElEntry) (p0 : List (Nat × Nat) × List Nat) (last d x : Nat),
    s.elLaunch c.val = some l → l.sampled = false → s.tailsOver l = true → s.domainRuns (1 + c.val) = true →
    l.entries = [e] → e.plen = 0 → e.tokens = [last, d] → e.ctl.greedy = true → e.ctl.repWin = 0 → s.onDie e.stream →
    s.cx e.stream cxGEN = e.gen → s.cx e.stream exATTACHED = 1 → s.position l 0 0 = some p0 →
    (elDist 0 e.ctl [] p0.1).map (·.1) = [x] → x ≠ d → x < 2 ^ 32 →
    s.cx e.stream exMAX_TOKENS = 0 → (∀ i, i < 4 → s.cx e.stream (exSTOP i) = 0xFFFFFFFF) →
    (∀ y ∈ s.eland.streams, y.leaving = false) →
    Does (.sampling c) s (Part.storing ++ [.free, .clu, .kv, .eland]) fun t =>
      t.cx e.stream exLAST = x ∧ t.cx e.stream exOUT_SEQ = (s.cx e.stream exOUT_SEQ + 1) % 2 ^ 32
        ∧ t.cx e.stream exACCEPTED = s.cx e.stream exACCEPTED :)
  ∧ (∀ (s s1 : State) (c : Fin 2) (j : Fin 9) (e : ElStream) (ls : List Machine.Num) (d w : Nat)
      (order : List (BitVec 20)),
    0 < j.val → s.eland.draft.isSome = true → s.domainRuns (1 + c.val) = true → s.eland.advances = [] →
    (∀ l, s.elLaunch c.val = some l → l.sampled = true) →
    s.eland.streams.filter (fun x => x.cohort == c.val && s.draftsAt x j.val) = [e] →
    s.runDraft e.stream e.dfirst (s.cx e.stream cxTOKENS + e.drafts.length) (e.drafts.getLastD (s.cx e.stream exLAST))
      = (ls, s1) →
    elDist s1.free (e.ctl.getD (s.elCtl e.stream))
      (s.history e.stream (e.ctl.getD (s.elCtl e.stream)).repWin ++ e.drafts) (topLogits ls) = [(d, w)] →
    Does (.draftStep c j order) s (Part.storing ++ [.free, .clu, .eland]) fun t =>
      t.eland = { s.eland with streams := s.eland.streams.map (fun x => if x.stream = e.stream then
        { e with ctl := some (e.ctl.getD (s.elCtl e.stream)), drafts := e.drafts ++ [d], qs := e.qs ++ [[(d, w)]] } else x) } :)
  ∧ (∀ (s : State) (c : Fin 2) (j : Fin 9) (l : ElLaunch) (order : List (BitVec 20)), s.elLaunch c.val = some l →
    l.sampled = false → Does (.draftStep c j order) s [] fun _ => True :)
  ∧ (∀ (s : State) (c : Fin 2) (order : List (BitVec 20)), Does (.draftStep c 0 order) s [] fun _ => True :)
  ∧ (∀ (s : State), s.leaseLapsed = true → Does .tokenRecordRelease s [] fun _ => True :)
  ∧ (∀ (s : State), s.leaseLapsed = false → (∀ r ∈ s.eland.staged, r.cstep ≤ s.rd64 CKP_REPLICA → r.endReason = 0) →
    Does .tokenRecordRelease s [.eland, .chanQ] fun t =>
      t.chanQ = s.chanQ ++ (s.eland.staged.filter (fun r => r.cstep ≤ s.rd64 CKP_REPLICA)).map (fun r => ⟨r.chan, true, r.bytes⟩)
        ∧ t.eland = { s.eland with staged := s.eland.staged.filter (fun r => !decide (r.cstep ≤ s.rd64 CKP_REPLICA)) } :)
  ∧ (∀ (s : State) (r : ElRecord), s.leaseLapsed = false → s.eland.staged = [r] → r.cstep ≤ s.rd64 CKP_REPLICA →
    r.endReason ≠ 0 → s.onDie r.stream →
    Does .tokenRecordRelease s (Part.storing ++ [.free, .kv, .eland, .chanQ]) fun t =>
      t.chanQ = s.chanQ ++ [⟨r.chan, true, r.bytes⟩] ∧ t.eland.staged = [] ∧ t.cx r.stream exATTACHED = 0
        ∧ t.eland.streams = s.eland.streams.filter (fun e => e.stream != r.stream) :)
  ∧ (∀ (s : State) (h : List Byte) (d : Nat), s.eland.draft = some (h, d) → d ≤ 1024 → s.eland.streams = [] →
    s.eland.idleSince + 10000000 ≤ s.now →
    Does .elandIdleTimeout s (Part.reading ++ [.clu, .flags]) fun t =>
      ∀ k, k < d → t.gf (CLU_PCTL k) CLU_PCTL_RETAIN = 0xFFFF :)
  ∧ (∀ (s : State), s.eland.streams ≠ [] → Does .elandIdleTimeout s [] fun _ => True :)

/-- R141, R150, R156, R158, R160 to R163: the Syncen operations of Eland. Payload layouts are the model's (log entry 10). -/
def Obligations.ElandRequestsAreCheckedAndAnswered : Prop :=
  (∀ (s : State) (r : SynReq) (c : ElandConfigSpec), s.synRefusal 0x0700 (domEland 0) r = none → s.eland.streams ≠ [] →
    Does (.synElandConfig r c) s [.mbx] fun t => Answered 0x0700 r 0x0206 [] t :)
  ∧ (∀ (s : State) (r : SynReq) (c : ElandConfigSpec), s.synRefusal 0x0700 (domEland 0) r = none → s.eland.streams = [] →
    c.period.toNat % 40000 ≠ 0 → Does (.synElandConfig r c) s [.mbx] fun t => Answered 0x0700 r 0x0104 [] t :)
  ∧ (∀ (s : State) (r : SynReq) (c : ElandConfigSpec) (a : SlotList), s.synRefusal 0x0700 (domEland 0) r = none →
    s.eland.streams = [] → 0 < c.period.toNat → c.period.toNat % 40000 = 0 → s.col.slotActive = some a →
    a.t ≤ c.t0.toNat → (c.t0.toNat - a.t) % slotNs = 0 → c.vocab ≠ 0 → c.dBase.toNat % 4096 = 0 →
    c.hBase.toNat % 1024 = 0 → inHbm c.hBase.toNat (c.hCount * 1024) = true → inHbm c.dBase.toNat 0 = true →
    Does (.synElandConfig r c) s [.mbx, .eland] fun t =>
      Answered 0x0700 r 0 [] t
        ∧ t.eland = { s.eland with
          configured := true, period := c.period.toNat, t0 := c.t0.toNat, lead := (c.lead.getD 200000#32).toNat, limit := (c.limit.getD 1000000#32).toNat
          vocab := c.vocab.toNat, dBase := c.dBase.toNat, dCount := c.dCount, hBase := c.hBase.toNat, hCount := c.hCount } :)
  ∧ (∀ (s : State) (r : SynReq) (p : Fin 8) (rec : List Byte), s.synRefusal 0x0701 (domEland 0) r = none →
    s.eland.streams ≠ [] → Does (.synElandPortSet r p rec) s [.mbx] fun t => Answered 0x0701 r 0x0206 [] t :)
  ∧ (∀ (s : State) (r : SynReq) (p : Fin 8) (rec : List Byte), s.synRefusal 0x0701 (domEland 0) r = none →
    s.eland.streams = [] → rec.length = 64 → epValid rec = true → s.portRecOk p.val rec = false →
    Does (.synElandPortSet r p rec) s [.mbx] fun t => Answered 0x0701 r 0x0106 [] t :)
  ∧ (∀ (s : State) (r : SynReq) (p : Fin 8) (rec : List Byte), s.synRefusal 0x0701 (domEland 0) r = none →
    s.eland.streams = [] → rec.length = 64 → epValid rec = true → s.portRecOk p.val rec = true →
    Does (.synElandPortSet r p rec) s [.mbx, .eland] fun t => Answered 0x0701 r 0 [] t ∧ t.elPort p.val = some rec :)
  ∧ (∀ (s : State) (r : SynReq) (a : W64) (len : Nat), s.synRefusal 0x0702 (domEland 0) r = none → s.eland.streams ≠ [] →
    Does (.synElandDraftLoad r a len) s [.mbx] fun t => Answered 0x0702 r 0x0206 [] t :)
  ∧ (∀ (s : State) (r : SynReq) (a : W64) (len : Nat), s.synRefusal 0x0702 (domEland 0) r = none → s.eland.streams = [] →
    (s.load a.toNat len).1 = none → s.draftOk (fit 64 (s.load a.toNat len).2.1) = false →
    Does (.synElandDraftLoad r a len) s (Part.reading ++ [.eland]) fun t =>
      Answered 0x0702 r 0x0105 [] t ∧ t.eland.draft = none :)
  ∧ (∀ (s : State) (r : SynReq) (a : W64) (len d : Nat) (bs : List Byte), s.synRefusal 0x0702 (domEland 0) r = none →
    s.eland.streams = [] → (s.load a.toNat len).1 = none → (s.load a.toNat len).2.1 = bs → s.draftOk (fit 64 bs) = true →
    edBody (fit 64 bs) + 64 = len → draftClusters (edBody (fit 64 bs)) = some d →
    Does (.synElandDraftLoad r a len) s (Part.reading ++ [.mem, .free, .clu, .flags, .eland, .sec]) fun t =>
      Answered 0x0702 r 0 (shake bs 64 ++ leBytes 2 d) t ∧ t.eland.draft = some (fit 64 bs, d) :)
  ∧ (∀ (s : State) (r : SynReq) (n : BitVec 20) (gen : W16) (f : SamplerSpec) (a : AttachSpec),
    s.synRefusal 0x0703 (domEland (b2n a.cohort)) r = none → s.onDie n.toNat → gen.toNat ≠ s.cx n.toNat cxGEN →
    Does (.synElandAttach r n gen f a) s [.mbx] fun t => Answered 0x0703 r 0x0202 [] t :)
  ∧ (∀ (s : State) (r : SynReq) (n : BitVec 20) (gen : W16) (f : SamplerSpec) (a : AttachSpec),
    s.synRefusal 0x0703 (domEland (b2n a.cohort)) r = none → s.onDie n.toNat → gen.toNat = s.cx n.toNat cxGEN →
    samplerOk f = true → a.nt ≤ 131072 → a.pf ≤ a.nt → s.cx n.toNat cxSTATE ≠ stResuming → s.cx n.toNat cxSTATE ≠ stActive →
    Does (.synElandAttach r n gen f a) s [.mbx] fun t => Answered 0x0703 r 0x0207 [] t :)
  ∧ (∀ (s : State) (r : SynReq) (n : BitVec 20) (gen : W16) (f : SamplerSpec) (a : AttachSpec),
    s.synRefusal 0x0703 (domEland (b2n a.cohort)) r = none → s.onDie n.toNat → gen.toNat = s.cx n.toNat cxGEN →
    samplerOk f = true → a.nt ≤ 131072 → a.pf = 0 → s.cx n.toNat cxSTATE = stActive →
    (kcPorts (s.classRec (s.cx n.toNat cxCLASS))).map (·.2) = s.eland.ports.map (·.1) → s.elPortsOk = true →
    s.cx n.toNat exLAST_VALID = 0 →
    Does (.synElandAttach r n gen f a) s [.mbx] fun t => Answered 0x0703 r 0x020B [] t :)
  ∧ (∀ (s : State) (r : SynReq) (n : BitVec 20) (gen : W16) (f : SamplerSpec) (a : AttachSpec) (c : Nat)
      (bs : List Byte) (inputs : List Nat),
    s.synRefusal 0x0703 (domEland (b2n a.cohort)) r = none → s.onDie n.toNat → gen.toNat = s.cx n.toNat cxGEN →
    samplerOk f = true → a.nt ≤ 131072 → a.pf ≤ a.nt → (s.cx n.toNat cxSTATE = stActive ∨ s.cx n.toNat cxSTATE = stResuming) →
    (kcPorts (s.classRec (s.cx n.toNat cxCLASS))).map (·.2) = s.eland.ports.map (·.1) → s.elPortsOk = true →
    (a.pf = 0 → s.cx n.toNat exLAST_VALID = 1) → s.elStreamOf n.toNat = none → s.pickCohort a = some c →
    (s.load a.listAddr.toNat (4 * a.nt)).1 = none → (s.load a.listAddr.toNat (4 * a.nt)).2.1 = bs →
    inputs = (if a.pf = 0 then [] else (if s.cx n.toNat exLAST_VALID = 1 then [s.cx n.toNat exLAST] else [])
      ++ ((List.range a.nt).map (fun i => fieldLE bs (4 * i) 4)).drop (a.nt - a.pf)) →
    s.eland.streams.length < s.eland.dCount → s.eland.streams.length < s.eland.hCount →
    s.promptUsed c + 4 * inputs.length ≤ s.eland.ports.foldl (fun m e => min m (epLaunchBytes e.2 - 8256)) (2 ^ 24) →
    Does (.synElandAttach r n gen f a) s (Part.storing ++ [.free, .clu, .flags, .kv, .eland]) fun t =>
      Answered 0x0703 r 0 (leBytes 1 c) t ∧ t.cx n.toNat exATTACHED = 1
        ∧ t.cx n.toNat exCOHORT = c % 2 ∧ t.cx n.toNat exATT_BASE = s.cx n.toNat exOUT_SEQ
        ∧ t.cx n.toNat exSTOPPED = 0 ∧ t.cx n.toNat exCLIENT_ID = a.clientId.toNat
        ∧ t.cx n.toNat exOUT_CHAN = a.outChan.toNat ∧ t.cx n.toNat exTEMP = f.temp.toNat
        ∧ t.eland.streams.map (fun e => (e.stream, e.cohort, e.prefill, e.leaving))
          = s.eland.streams.map (fun e => (e.stream, e.cohort, e.prefill, e.leaving)) ++ [(n.toNat, c, inputs, false)] :)
  ∧ (∀ (s : State) (r : SynReq) (n : BitVec 20) (gen : W16),
    s.synRefusal 0x0704 (domEland (s.elCohortOf n.toNat)) r = none → s.onDie n.toNat → gen.toNat = s.cx n.toNat cxGEN →
    s.elStreamOf n.toNat = none →
    Does (.synElandDetach r n gen) s [.mbx] fun t => Answered 0x0704 r 0x0208 [] t :)
  ∧ (∀ (s : State) (r : SynReq) (n : BitVec 20) (gen : W16) (e : ElStream) (l : ElLaunch),
    s.synRefusal 0x0704 (domEland (s.elCohortOf n.toNat)) r = none → s.onDie n.toNat → gen.toNat = s.cx n.toNat cxGEN →
    s.elStreamOf n.toNat = some e → s.elLaunch e.cohort = some l → l.sampled = false →
    (∃ x ∈ l.entries, x.stream = n.toNat) →
    Does (.synElandDetach r n gen) s [.mbx, .eland] fun t =>
      Answered 0x0704 r 0 [] t ∧ t.elStreamOf n.toNat = some { e with leaving := true } :)
  ∧ (∀ (s : State) (r : SynReq) (n : BitVec 20) (gen : W16) (e : ElStream),
    s.synRefusal 0x0704 (domEland (s.elCohortOf n.toNat)) r = none → s.onDie n.toNat → gen.toNat = s.cx n.toNat cxGEN →
    s.elStreamOf n.toNat = some e → s.elLaunch e.cohort = none → (∀ x ∈ s.eland.staged, x.stream ≠ n.toNat) →
    Does (.synElandDetach r n gen) s (Part.storing ++ [.free, .kv, .eland]) fun t =>
      Answered 0x0704 r 0 [] t ∧ t.elStreamOf n.toNat = none ∧ t.cx n.toNat exATTACHED = 0
        ∧ t.eland.streams = s.eland.streams.filter (fun x => x.stream != n.toNat) :)
  ∧ (∀ (s : State) (r : SynReq) (n : BitVec 20) (gen : W16) (f : SamplerSpec) (m : BitVec 32) (st : List (BitVec 32)),
    s.synRefusal 0x0705 (domEland (s.elCohortOf n.toNat)) r = none → s.onDie n.toNat → gen.toNat = s.cx n.toNat cxGEN →
    (s.elStreamOf n.toNat).isSome = true → samplerOk f = false →
    Does (.synElandSet r n gen f m st) s [.mbx] fun t => Answered 0x0705 r 0x0104 [] t :)
  ∧ (∀ (s : State) (r : SynReq) (n : BitVec 20) (gen : W16) (f : SamplerSpec) (m : BitVec 32) (st : List (BitVec 32)),
    s.synRefusal 0x0705 (domEland (s.elCohortOf n.toNat)) r = none → s.onDie n.toNat → gen.toNat = s.cx n.toNat cxGEN →
    (s.elStreamOf n.toNat).isSome = true → samplerOk f = true →
    Does (.synElandSet r n gen f m st) s (Part.storing ++ [.free, .kv]) fun t =>
      Answered 0x0705 r 0 [] t ∧ t.cx n.toNat exTEMP = f.temp.toNat ∧ t.cx n.toNat exTOPK = f.topk.toNat
        ∧ t.cx n.toNat exTOPP = f.topp.toNat ∧ t.cx n.toNat exREP_PEN = f.repPen.toNat ∧ t.cx n.toNat exDLEN = f.dlen.toNat
        ∧ t.cx n.toNat exMAX_TOKENS = m.toNat ∧ t.cx n.toNat (exSTOP 0) = (st[0]?.getD 0xFFFFFFFF#32).toNat
        ∧ t.cx n.toNat exGREEDY = b2n (f.temp.toNat % 2 ^ 31 == 0) :)
  ∧ (∀ (s : State) (r : SynReq) (n : BitVec 20) (gen : W16),
    s.synRefusal 0x0706 (domEland (s.elCohortOf n.toNat)) r = none → s.onDie n.toNat → gen.toNat = s.cx n.toNat cxGEN →
    Does (.synElandQuery r n gen) s [.mbx] fun t => Answered 0x0706 r 0 ((s.ctx n.toNat).drop 128) t :)
  ∧ (∀ (s : State) (r : SynReq), s.synRefusal 0x0707 (domEland 0) r = none →
    Does (.synElandStats r) s [.mbx] fun t => Answered 0x0707 r 0 (s.eland.stats.flatMap (leBytes 8)) t :)

/-- R164, R166 to R169, R173 to R178: line reads, line writes and scrub reads through the channel lottery. -/
def Obligations.HbmAccessesDrawAtTheirChannel : Prop :=
  (∀ (s : State) (src : HbmSource) (a : BitVec 38) (g l b gap : Nat), g = hbmChannel b → b = a.toNat / 64 * 64 →
    l = s.lineOf g src → l < 8 → a.toNat < hbmBytes → s.chanOpen g gap →
    ((s.arbSet g).quota l = 0 ∨ Tab.get (fun _ => 0) (s.chan g).used l < (s.arbSet g).quota l) → s.lineMark b = .clean →
    Does (.hbmRead src a false gap) s [.regs, .lfsr, .guards, .out, .answer32, .answerErr, .hbm] fun t =>
      t.answer32 = s.bytes b 64 ∧ t.answerErr = none ∧ t.out = s.out ++ [.data l b (s.bytes b 64) false]
        ∧ t.hbm.queue = s.hbm.queue ∧ bitAt t.hbm.sr (stackOf g) = false
        ∧ Tab.get (fun _ => 0) t.hbm.grants l = Tab.get (fun _ => 0) s.hbm.grants l + 1
        ∧ Tab.get (fun _ => 0) (t.chan g).used l = Tab.get (fun _ => 0) (s.chan g).used l + 1
        ∧ (t.chan g).cycles = (s.chan g).cycles + gap + 1 ∧ RegsBut [ARB_GRANTS l] s t :)
  ∧ (∀ (s : State) (l : Fin 8) (a : BitVec 38) (g b gap : Nat), g = hbmChannel b → b = a.toNat / 64 * 64 →
    a.toNat < hbmBytes → s.chanOpen g gap → (s.arbSet g).quota l.val = 0 →
    s.lineMark b = .uncorrected → s.bit HBM_ERR_FIRST HBM_ERR_FIRST_VALID = false →
    Does (.hbmRead (.line l) a false gap) s (Part.reporting ++ [.lineMarks, .lfsr, .guards, .answer32, .answerErr]) fun t =>
      t.answer32 = s.bytes b 64 ∧ t.answerErr = some .poison ∧ t.lineMark b = .poisoned
        ∧ t.gf HBM_ERR_CNT HBM_ERR_CNT_UE = min (2 ^ 16 - 1) (s.gf HBM_ERR_CNT HBM_ERR_CNT_UE + 1) :)
  ∧ (∀ (s : State) (l : Fin 8) (a : BitVec 38) (r : HbmReq) (g b gap : Nat), g = hbmChannel b → b = a.toNat / 64 * 64 →
    a.toNat < hbmBytes → s.chanGoes g gap → s.hbm.queue.filter (fun x => hbmChannel x.addr == g) = [r] →
    (s.arbSet g).quota l.val = 0 → r.line < 8 → 0 < (s.arbSet g).quota r.line →
    Tab.get (fun _ => 0) (s.chan g).used r.line < (s.arbSet g).quota r.line → r.data = none → r.scrub = false →
    s.lineMark r.addr = .clean → s.lineMark b = .clean →
    Does (.hbmRead (.line l) a false gap) s [.regs, .lfsr, .guards, .out, .answer32, .answerErr, .hbm] fun t =>
      t.out = s.out ++ [.data r.line r.addr (s.bytes r.addr r.len) false, .data l.val b (s.bytes b 64) false]
        ∧ t.hbm.queue = s.hbm.queue.erase r
        ∧ Tab.get (fun _ => 0) t.hbm.grants r.line = Tab.get (fun _ => 0) s.hbm.grants r.line + 1 :)
  ∧ (∀ (s : State) (l : Fin 8) (a : BitVec 38) (r : HbmReq) (g b gap x tl tr : Nat), g = hbmChannel b →
    b = a.toNat / 64 * 64 → a.toNat < hbmBytes → s.chanGoes g gap →
    s.hbm.queue.filter (fun x => hbmChannel x.addr == g) = [r] → l.val < r.line → r.line < 8 →
    (s.arbSet g).quota l.val = 0 → (s.arbSet g).quota r.line = 0 → tl = (s.arbSet g).tickets l.val →
    tr = (s.arbSet g).tickets r.line → 0 < tl + tr → s.lost (arbId arbHbm g) l.val < 63 →
    s.lost (arbId arbHbm g) r.line < 63 → x = lfsrRun (gap + 1) (s.lfsrOf (arbId arbHbm g)) % 2 ^ 16 → r.data = none →
    r.scrub = false → s.lineMark r.addr = .clean → s.lineMark b = .clean →
    Does (.hbmRead (.line l) a false gap) s [.regs, .lfsr, .guards, .out, .answer32, .answerErr, .hbm] fun t =>
      t.out = s.out ++ (if tl ≤ x * (tl + tr) / 2 ^ 16
          then [.data r.line r.addr (s.bytes r.addr r.len) false, .data l.val b (s.bytes b 64) false]
          else [.data l.val b (s.bytes b 64) false, .data r.line r.addr (s.bytes r.addr r.len) false])
        ∧ t.lfsrOf (arbId arbHbm g) = lfsrRun 1 x % 2 ^ 16 :)
  ∧ (∀ (s : State) (src : HbmSource) (a : BitVec 38) (more : Bool) (gap : Nat), a.toNat < hbmBytes →
    (more = true ∨ s.chanStopped (hbmChannel (a.toNat / 64 * 64)) = true) →
    Does (.hbmRead src a more gap) s [.hbm] fun t =>
      t.hbm.queue = s.hbm.queue
        ++ [⟨s.lineOf (hbmChannel (a.toNat / 64 * 64)) src, a.toNat / 64 * 64, 64, none, false, false⟩] :)
  ∧ (∀ (s : State) (src : HbmSource) (a : BitVec 38) (g gap : Nat), g = hbmChannel (a.toNat / 64 * 64) → a.toNat < hbmBytes →
    s.chanOpen g gap → 0 < (s.arbSet g).quota (s.lineOf g src) →
    (s.arbSet g).quota (s.lineOf g src) ≤ Tab.get (fun _ => 0) (s.chan g).used (s.lineOf g src) →
    Does (.hbmRead src a false gap) s [.lfsr, .hbm] fun t =>
      t.hbm.queue = s.hbm.queue ++ [⟨s.lineOf g src, a.toNat / 64 * 64, 64, none, false, false⟩] :)
  ∧ (∀ (s : State) (src : HbmSource) (a : BitVec 38) (more : Bool) (gap : Nat), hbmBytes ≤ a.toNat →
    Does (.hbmRead src a more gap) s [] fun _ => True :)
  ∧ (∀ (s : State) (l : Fin 8) (a : BitVec 38) (data : List Byte) (poison : Bool) (gap : Nat), a.toNat + 64 ≤ hbmBytes →
    a.toNat % 64 = 0 → data.length = 64 → s.chanOpen (hbmChannel a.toNat) gap →
    (s.arbSet (hbmChannel a.toNat)).quota l.val = 0 →
    s.bit CKP_CTL CKP_CTL_EN = false → s.ckp.held = [] → s.flt.injections = [] →
    Does (.hbmWrite (.line l) a data poison false gap) s
      (Part.reporting ++ [.mem, .lineMarks, .lfsr, .guards, .ckp]) fun t =>
      t.bytes a.toNat 64 = data ∧ t.lineMark a.toNat = (if poison then .poisoned else .clean)
        ∧ (∀ b, b < hbmBytes → (b < a.toNat ∨ a.toNat + 64 ≤ b) → t.bytes b 1 = s.bytes b 1)
        ∧ Tab.get (fun _ => 0) t.hbm.grants l.val = Tab.get (fun _ => 0) s.hbm.grants l.val + 1 :)
  ∧ (∀ (s : State) (l : Fin 8) (a : BitVec 38) (b : Byte) (gap : Nat), a.toNat < hbmBytes →
    s.chanOpen (hbmChannel a.toNat) gap → (s.arbSet (hbmChannel a.toNat)).quota l.val = 0 →
    s.bit CKP_CTL CKP_CTL_EN = false → s.ckp.held = [] → s.flt.injections = [] →
    s.lineMark (a.toNat / 64 * 64) = .poisoned →
    Does (.hbmWrite (.line l) a [b] false false gap) s (Part.reporting ++ [.mem, .lineMarks, .lfsr, .guards, .ckp]) fun t =>
      t.bytes a.toNat 1 = [b] ∧ t.lineMark (a.toNat / 64 * 64) = .poisoned
        ∧ Tab.get (fun _ => 0) t.hbm.grants l.val = Tab.get (fun _ => 0) s.hbm.grants l.val + 2 :)
  ∧ (∀ (s : State) (l : Fin 8) (a : BitVec 38) (data : List Byte) (poison more : Bool) (gap : Nat), a.toNat < hbmBytes →
    data ≠ [] → (more = true ∨ s.chanStopped (hbmChannel a.toNat) = true) →
    Does (.hbmWrite (.line l) a data poison more gap) s [.hbm] fun t =>
      t.hbm.queue = s.hbm.queue ++ [⟨l.val, a.toNat, (data.take (64 - a.toNat % 64)).length,
        some (data.take (64 - a.toNat % 64)), poison, false⟩] :)
  ∧ (∀ (s : State) (g : Fin 192) (line gap : Nat), s.gf HBM_CTL HBM_CTL_SCRUB_HOURS ≠ 0 → s.chanOpen g.val gap →
    bitAt s.hbm.sr (stackOf g.val) = false → (s.chan g.val).used = [] → (s.chan g.val).scrub < chanLines →
    line = chanAddr g.val ((s.chan g.val).scrub * 64) → s.lineMark line = .corrected →
    Does (.scrubRead g false gap) s (Part.reporting ++ [.lineMarks, .lfsr, .guards]) fun t =>
      t.lineMark line = .clean
        ∧ t.gf HBM_ERR_CNT HBM_ERR_CNT_CE = min (2 ^ 16 - 1) (s.gf HBM_ERR_CNT HBM_ERR_CNT_CE + 1)
        ∧ Tab.get (fun _ => 0) t.hbm.grants 7 = Tab.get (fun _ => 0) s.hbm.grants 7 + 1
        ∧ (t.chan g.val).scrub = (s.chan g.val).scrub + 1 :)
  ∧ (∀ (s : State) (g : Fin 192) (gap : Nat), s.gf HBM_CTL HBM_CTL_SCRUB_HOURS ≠ 0 → s.chanOpen g.val gap →
    bitAt s.hbm.sr (stackOf g.val) = false → (s.chan g.val).used = [] → chanLines ≤ (s.chan g.val).scrub →
    (s.chan g.val).scrubAt + s.scrubPeriod ≤ s.clock → s.lineMark (chanAddr g.val 0) = .clean →
    Does (.scrubRead g false gap) s [.regs, .lfsr, .guards, .hbm] fun t =>
      (t.chan g.val).scrub = 1 ∧ (t.chan g.val).scrubAt = s.clock :)
  ∧ (∀ (s : State) (g : Fin 192) (more : Bool) (gap : Nat),
    (s.gf HBM_CTL HBM_CTL_SCRUB_HOURS = 0 ∨ s.chanStopped g.val = true ∨ bitAt s.hbm.sr (stackOf g.val) = true
      ∨ (chanLines ≤ (s.chan g.val).scrub ∧ s.clock < (s.chan g.val).scrubAt + s.scrubPeriod)) →
    Does (.scrubRead g more gap) s [] fun _ => True :)

/-- R170 to R174, R178 to R183: refresh, temperatures, self-refresh, initialisation and the arbiters' sets and freezes. -/
def Obligations.HbmControllersAndArbiterSets : Prop :=
  (∀ (s : State) (g : Fin 192), bitAt s.hbm.sr (stackOf g.val) = false →
    Does (.refreshDue g false) s [.hbm] fun t => (t.chan g.val).debt = min 4 ((s.chan g.val).debt + 1)
      ∧ ∀ k, k < 192 → k ≠ g.val → t.chan k = s.chan k :)
  ∧ (∀ (s : State) (g : Fin 192) (inGap : Bool), (inGap = true ∨ bitAt s.hbm.sr (stackOf g.val) = true) →
    Does (.refreshDue g inGap) s [] fun _ => True :)
  ∧ (∀ (s : State) (g : Fin 192), 4 ≤ (s.chan g.val).debt →
    Does (.allBankRefresh g) s [.hbm] fun t => t.chan g.val = { s.chan g.val with debt := 0 } :)
  ∧ (∀ (s : State) (k : Fin 6) (c : Byte), c.toNat < 105 →
    Does (.hbmTempUpdate k c) s [.regs, .hbm] fun t =>
      bitsOf (t.rd (HBM_TEMP0 + k.val / 4 * 4)).toNat (k.val % 4 * 8) 8 = c.toNat
        ∧ bitAt (t.gf HBM_STATUS HBM_STATUS_HOT) k.val = decide (85 ≤ c.toNat)
        ∧ (95 ≤ c.toNat → k.val ∈ t.hbm.hot95) ∧ RegsBut [HBM_TEMP0, HBM_TEMP1, HBM_STATUS] s t :)
  ∧ (∀ (s : State) (k : Fin 6) (c : Byte), 105 ≤ c.toNat → k.val ∉ s.hbm.hot105 → s.flt.broken = [] →
    Does (.hbmTempUpdate k c) s (Part.reporting ++ [.hbm]) fun t => t.safe = true ∧ k.val ∈ t.hbm.hot105 :)
  ∧ (∀ (s : State) (k : Fin 6) (c : Byte), 105 ≤ c.toNat → k.val ∈ s.hbm.hot105 →
    Does (.hbmTempUpdate k c) s [.regs, .hbm] fun t => RegsBut [HBM_TEMP0, HBM_TEMP1, HBM_STATUS] s t :)
  ∧ (∀ (s : State) (k : Fin 6), s.bit HBM_CTL HBM_CTL_SR_REQ = true →
    (∀ r ∈ s.hbm.queue, stackOf (hbmChannel r.addr) ≠ k.val) →
    Does (.selfRefreshEntry k) s [.hbm] fun t => t.hbm = { s.hbm with sr := bitsPut s.hbm.sr k.val 1 1 } :)
  ∧ (∀ (s : State) (k : Fin 6) (r : HbmReq), r ∈ s.hbm.queue → stackOf (hbmChannel r.addr) = k.val →
    Does (.selfRefreshEntry k) s [] fun _ => True :)
  ∧ (∀ (s : State) (q : Requester) (v : W32), coreWrites q = true → s.safe = false →
    Does (.srReqClear q v) s [.regs, .hbm] fun t =>
      t.bit HBM_CTL HBM_CTL_SR_REQ = false ∧ t.gf HBM_CTL HBM_CTL_SCRUB_HOURS = bitsOf v.toNat 8 8
        ∧ t.hbm = { s.hbm with sr := 0 } ∧ RegsBut [HBM_CTL] s t :)
  ∧ (∀ (s : State) (k : Fin 6), Does (.hbmTrainingDone k none) s [.regs, .hbm] fun t =>
      bitAt (t.gf HBM_STATUS HBM_STATUS_TRAINED) k.val = true ∧ t.hbm.trainedAt = s.clock ∧ RegsBut [HBM_STATUS] s t :)
  ∧ (∀ (s : State) (k : Fin 6) (f : Fin 8), f.val ≠ 0 → s.flt.broken = [] →
    Does (.hbmTrainingDone k (some f)) s Part.reporting fun t =>
      t.safe = true ∧ t.gf HBM_STATUS HBM_STATUS_READY = s.gf HBM_STATUS HBM_STATUS_READY :)
  ∧ (∀ (s : State), s.gf HBM_STATUS HBM_STATUS_TRAINED = 63 → s.hbmReady = false →
    s.hbm.trainedAt + nsCycles 31500000 ≤ s.clock → s.hbm.queue = [] →
    Does .hbmReady s [.regs, .mem, .lineMarks, .host] fun t =>
      t.hbmReady = true ∧ (∀ a, a < hbmBytes → t.bytes a 1 = [0]) ∧ (∀ a, t.lineMark a = .clean) :)
  ∧ (∀ (s : State) (r : HbmReq) (g : Nat), s.gf HBM_STATUS HBM_STATUS_TRAINED = 63 → s.hbmReady = false →
    s.hbm.trainedAt + nsCycles 31500000 ≤ s.clock → s.hbm.queue = [r] → g = hbmChannel r.addr → r.line < 8 →
    r.addr < hbmBytes → r.addr % 64 = 0 → r.len = 64 → r.data = none → r.scrub = false → (s.chan g).frozen = false →
    (s.chan g).debt < 4 → (s.chan g).cycles < 1000 → s.blockDown 10 = false → s.safe = false →
    (s.arbSet g).quota r.line = 0 →
    Does .hbmReady s [.regs, .mem, .lineMarks, .host, .lfsr, .guards, .out, .answer32, .answerErr, .hbm] fun t =>
      t.hbmReady = true ∧ t.hbm.queue = [] ∧ t.out = s.out ++ [.data r.line r.addr (List.replicate 64 0) false] :)
  ∧ (∀ (s : State), (s.gf HBM_STATUS HBM_STATUS_TRAINED ≠ 63 ∨ s.clock < s.hbm.trainedAt + nsCycles 31500000) →
    Does .hbmReady s [] fun _ => True :)
  ∧ (∀ (s : State) (g : Fin 192), s.hbm.next = none → (s.chan g.val).debt < 4 →
    (∀ r ∈ s.hbm.queue, hbmChannel r.addr ≠ g.val) →
    Does (.arbWindowStart g) s [.lfsr, .hbm] fun t => t.chan g.val = { s.chan g.val with used := [], cycles := 0 }
      ∧ t.lfsrOf (arbId arbHbm g.val)
        = lfsrRun (1024 - (s.chan g.val).cycles) (s.lfsrOf (arbId arbHbm g.val)) % 2 ^ 16 :)
  ∧ (∀ (s : State) (g : Fin 192) (n : ArbSet), s.hbm.next = some n → s.hbm.waiting = [g.val] →
    (s.hbm.want = none ∨ s.hbm.want = s.hbm.mode) → (s.chan g.val).debt < 4 →
    (∀ r ∈ s.hbm.queue, hbmChannel r.addr ≠ g.val) →
    Does (.arbWindowStart g) s [.regs, .lfsr, .hbm] fun t =>
      t.hbm.active = n ∧ t.hbm.next = none ∧ (t.chan g.val).used = [] ∧ t.gf ARB_COMMIT ARB_COMMIT_PENDING = 0
        ∧ RegsBut [ARB_COMMIT] s t :)
  ∧ (∀ (s : State) (q : Requester) (v : W32), coreWrites q = true → s.arbPending = false → s.blockDown 10 = false →
    arbCheck s.staged = none →
    Does (.arbCommit q v) s [.regs, .hbm] fun t =>
      t.hbm.next = some s.staged ∧ t.hbm.active = s.hbm.active ∧ t.gf ARB_COMMIT ARB_COMMIT_REFUSAL = 0
        ∧ t.arbPending = true ∧ RegsBut [ARB_COMMIT] s t :)
  ∧ (∀ (s : State) (q : Requester) (v : W32), coreWrites q = true → s.arbPending = false → s.blockDown 10 = false →
    768 < s.staged.lines.foldl (fun n l => n + l.2) 0 →
    Does (.arbCommit q v) s [.regs] fun t => t.gf ARB_COMMIT ARB_COMMIT_REFUSAL = 0x0670 ∧ RegsBut [ARB_COMMIT] s t :)
  ∧ (∀ (s : State) (q : Requester) (v : W32), s.arbPending = true → Does (.arbCommit q v) s [] fun _ => True :)
  ∧ (∀ (s : State) (q : Requester) (v : W32), coreWrites q = true → s.arbPending = false →
    Does (.arbModeLoad q v) s [.regs] fun t =>
      t.gf ARB_MODE ARB_MODE_MODE = v.toNat % 4
        ∧ (∀ l, l < 8 → some (t.gf (ARB_LINE l) ARB_LINE_TICKETS, t.gf (ARB_LINE l) ARB_LINE_QUOTA) = (modeSet (v.toNat % 4))[l]?)
        ∧ RegsBut (ARB_MODE :: (List.range 8).map ARB_LINE) s t :)
  ∧ (∀ (s : State) (q : Requester) (v : W32), coreWrites q = true → bitAt v.toNat 29 = false → v.toNat % 256 < 192 →
    Does (.arbFreeze q v) s [.regs, .hbm] fun t =>
      (t.chan (v.toNat % 256)).frozen = true ∧ t.bit ARB_FREEZE_STATUS ARB_FREEZE_STATUS_FROZEN = true
        ∧ t.bit ARB_FREEZE_STATUS ARB_FREEZE_STATUS_ANY_FROZEN = true
        ∧ (∀ k, k < 192 → k ≠ v.toNat % 256 → t.chan k = s.chan k) ∧ RegsBut [ARB_FREEZE, ARB_FREEZE_STATUS] s t :)
  ∧ (∀ (s : State) (q : Requester) (v : W32), coreWrites q = true → bitAt v.toNat 29 = true →
    Does (.arbFreeze q v) s [.regs, .hbm] fun t => ∀ k, k < 192 → (t.chan k).frozen = true :)
  ∧ (∀ (s : State) (q : Requester) (v : W32), coreWrites q = true → bitAt v.toNat 29 = true → s.hbm.queue = [] →
    Does (.arbUnfreeze q v) s [.regs, .hbm] fun t =>
      (∀ k, k < 192 → (t.chan k).frozen = false ∧ (t.chan k).used = (s.chan k).used)
        ∧ t.bit ARB_FREEZE_STATUS ARB_FREEZE_STATUS_FROZEN = false :)
  ∧ (∀ (s : State) (g : Fin 192), (s.chan g.val).frozen = true → s.gf ARB_FREEZE ARB_FREEZE_CHANNEL = g.val →
    Does (.arbChannelDrained g) s [.regs, .hbm] fun t =>
      (t.chan g.val).drained = true ∧ t.bit ARB_FREEZE_STATUS ARB_FREEZE_STATUS_DRAINED = true
        ∧ RegsBut [ARB_FREEZE_STATUS] s t :)
  ∧ (∀ (s : State) (q : Requester) (v : W32) (r : HbmReq) (g : Nat), coreWrites q = true → bitAt v.toNat 29 = false →
    g = v.toNat % 256 → g < 192 → s.hbm.queue = [r] → hbmChannel r.addr = g → r.line < 8 → r.data = none → r.scrub = false →
    s.hbmReady = true → s.blockDown 10 = false → s.safe = false → (s.chan g).debt < 4 → (s.chan g).cycles < 1000 →
    (s.arbSet g).quota r.line = 0 → s.lineMark r.addr = .clean →
    Does (.arbUnfreeze q v) s [.regs, .lfsr, .guards, .out, .answer32, .answerErr, .hbm] fun t =>
      (t.chan g).frozen = false ∧ t.hbm.queue = [] ∧ t.out = s.out ++ [.data r.line r.addr (s.bytes r.addr r.len) false] :)

/-- R187, R195 to R198, R205 to R208: enables, training, lane failure and the settings of the ports. Payload layouts are the model's (log entry 10). -/
def Obligations.FabricPortsTrainAndRepair : Prop :=
  (∀ (s : State) (q : Requester) (v : W32), coreWrites q = true → s.bit FAB_CTL FAB_CTL_EN = false → s.rd64 FAB_NODE_ID = 0 →
    Does (.fabEnSet q v) s [.regs] fun t =>
      t.bit FAB_CTL FAB_CTL_EN = false ∧ t.gf FAB_CTL FAB_CTL_REFUSAL = 0x0680 ∧ RegsBut [FAB_CTL] s t :)
  ∧ (∀ (s : State) (q : Requester) (v : W32), coreWrites q = true → s.bit FAB_CTL FAB_CTL_EN = false → s.rd64 FAB_NODE_ID ≠ 0 →
    Does (.fabEnSet q v) s [.regs] fun t =>
      t.bit FAB_CTL FAB_CTL_EN = true ∧ t.gf FAB_CTL FAB_CTL_REFUSAL = 0 ∧ t.eightLane = bitAt v.toNat 1
        ∧ t.gf FAB_CTL FAB_CTL_FAIL_UCW = bitsOf v.toNat 8 8 ∧ RegsBut [FAB_CTL] s t :)
  ∧ (∀ (s : State) (q : Requester) (v : W32), coreWrites q = true → s.bit FAB_CTL FAB_CTL_EN = true →
    (∀ p, p < 32 → s.portEn p = false) →
    Does (.fabEnClear q v) s [.regs] fun t =>
      t.bit FAB_CTL FAB_CTL_EN = false ∧ t.eightLane = s.eightLane ∧ RegsBut [FAB_CTL] s t :)
  ∧ (∀ (s : State) (q : Requester) (v : W32) (p : Fin 32), coreWrites q = true → s.bit FAB_CTL FAB_CTL_EN = true →
    s.portEn p.val = true →
    Does (.fabEnClear q v) s [.regs] fun t => t.bit FAB_CTL FAB_CTL_EN = true ∧ RegsBut [FAB_CTL] s t :)
  ∧ (∀ (s : State) (q : Requester) (p : Fin 32) (v : W32), coreWrites q = true → s.portExists p.val = true →
    s.portEn p.val = false → s.safe = false →
    (s.sf (FAB_PORT_CTL p.val) FAB_PORT_CTL_MODE (bitsOf v.toNat 8 2)).portCheck p.val = none →
    Does (.portEnable q p v) s (Part.reporting ++ [.free, .fport, .laneRx]) fun t =>
      t.portEn p.val = true ∧ t.portState p.val = 1 ∧ t.gf (FAB_PORT_CTL p.val) FAB_PORT_CTL_REFUSAL = 0
        ∧ (t.fp p.val).caps = none ∧ (t.fp p.val).map = [] :)
  ∧ (∀ (s : State) (q : Requester) (p : Fin 32) (v : W32) (c : Nat), coreWrites q = true → s.portExists p.val = true →
    s.portEn p.val = false → s.safe = false → bitsOf v.toNat 8 2 ≠ 3 →
    (s.sf (FAB_PORT_CTL p.val) FAB_PORT_CTL_MODE (bitsOf v.toNat 8 2)).portCheck p.val = some c →
    Does (.portEnable q p v) s [.regs] fun t =>
      t.portEn p.val = false ∧ t.gf (FAB_PORT_CTL p.val) FAB_PORT_CTL_REFUSAL = c ∧ 0x0680 ≤ c ∧ c ≤ 0x0685
        ∧ RegsBut [FAB_PORT_CTL p.val] s t :)
  ∧ (∀ (s : State) (q : Requester) (p : Fin 32) (v : W32), coreWrites q = true → s.portExists p.val = true →
    s.portEn p.val = true → s.safe = false → bitAt v.toNat 1 = false →
    Does (.portDisable q p v) s (Part.reporting ++ [.free, .fport, .laneRx]) fun t =>
      t.portEn p.val = false ∧ t.portState p.val = 0 ∧ (t.fp p.val).map = [] ∧ (t.fp p.val).rxq = (s.fp p.val).rxq :)
  ∧ (∀ (s : State) (q : Requester) (p : Fin 32) (v : W32), coreWrites q = true → s.portExists p.val = true →
    s.portEn p.val = true → bitAt v.toNat 0 = true → s.portLive p.val = true → s.isEth p.val = false →
    Does (.retrain q p v) s [.fport] fun t =>
      t.fp p.val = { s.fp p.val with
        retrain := (List.range s.portWidth ++ [8]).filter (fun k => s.laneFailed p.val k) } :)
  ∧ (∀ (s : State) (p : Fin 32), s.clock < (s.fp p.val).trainAt + nsCycles 500000000 →
    Does (.trainFail p) s [] fun _ => True :)
  ∧ (∀ (s : State) (p : Fin 32), s.portState p.val = 1 → (s.fp p.val).trainAt + nsCycles 500000000 ≤ s.clock →
    s.gf FLT_CTL FLT_CTL_MODE = 0 →
    Does (.trainFail p) s (Part.reporting ++ [.fport]) fun t => t.portState p.val = 5 ∧ (t.fp p.val).downAt = s.clock :)
  ∧ (∀ (s : State) (p : Fin 32), s.portEn p.val = true → (s.portState p.val = 4 ∨ s.portState p.val = 5) →
    (s.fp p.val).downAt + nsCycles 1000000000 ≤ s.clock →
    Does (.portDownRetrain p) s (Part.reporting ++ [.fport, .laneRx]) fun t =>
      t.portState p.val = 1 ∧ t.portEn p.val = true ∧ (t.fp p.val).map = [] :)
  ∧ (∀ (s : State) (p : Fin 32), s.portEn p.val = false → Does (.portDownRetrain p) s [] fun _ => True :)
  ∧ (∀ (s : State) (lane : Fin 144) (p k sp : Nat), s.lanePorts lane.val = [(p, k)] → k < 8 → p < 32 →
    s.gf FAB_CTL FAB_CTL_FAIL_UCW < (s.laneOf lane.val).ucw → s.portLive p = true → s.isEth p = false →
    (∀ j ∈ (s.fp p).map, s.laneFailed p j = false) → s.laneFailed p k = false → k ∈ (s.fp p).map →
    (s.fp p).newMap = none → s.standby p = some sp →
    Does (.laneFailed lane) s [.regs, .free, .out, .fport] fun t =>
      t.laneFailed p k = true
        ∧ (t.fp p).newMap.map (fun m => (m.mapId, m.lanes, m.echoed))
          = some ((s.gf (FAB_PORT_STATUS p) FAB_PORT_STATUS_MAP_ID + 1) % 256,
            (s.fp p).map.map (fun j => if j = k then sp else j), false)
        ∧ t.out.getLast? = (t.fp p).newMap.map (fun m => .control p 2 (mapContent m)) ∧ (t.fp p).map = (s.fp p).map :)
  ∧ (∀ (s : State) (lane : Fin 144) (p k : Nat), s.lanePorts lane.val = [(p, k)] → k < 8 → p < 32 →
    s.gf FAB_CTL FAB_CTL_FAIL_UCW < (s.laneOf lane.val).ucw → s.portLive p = true → s.isEth p = false →
    (∀ j ∈ (s.fp p).map, s.laneFailed p j = false) → s.laneFailed p k = false → k ∈ (s.fp p).map →
    (s.fp p).newMap = none → s.standby p = none →
    Does (.laneFailed lane) s [.regs, .free, .out, .fport] fun t =>
      t.laneFailed p k = true ∧ (t.fp p).newMap.map (·.lanes) = some ((s.fp p).map.filter (fun j => j != k)) :)
  ∧ (∀ (s : State) (p : Fin 32) (m : NewMap), (s.fp p.val).newMap = some m → m.echoed = false → s.portLive p.val = true →
    s.clock < m.sentAt + nsCycles 10000 →
    Does (.laneMapRepeat p) s [.out, .fport] fun t => t.out = s.out ++ [.control p.val 2 (mapContent m)]
      ∧ (t.fp p.val).newMap = some m ∧ (t.fp p.val).map = (s.fp p.val).map :)
  ∧ (∀ (s : State) (p : Fin 32) (m : NewMap), (s.fp p.val).newMap = some m → m.echoed = false → s.portLive p.val = true →
    m.sentAt + nsCycles 10000 ≤ s.clock → s.gf FLT_CTL FLT_CTL_MODE = 0 →
    Does (.laneMapRepeat p) s (Part.reporting ++ [.fport]) fun t =>
      (t.fp p.val).map = (s.fp p.val).map.filter (fun k => !s.laneFailed p.val k) ∧ (t.fp p.val).newMap = none
        ∧ t.gf (FAB_PORT_STATUS p.val) FAB_PORT_STATUS_MAP_ID = m.mapId % 256 :)
  ∧ (∀ (s : State) (p : Fin 32) (m : NewMap), (s.fp p.val).newMap = some m → m.echoed = true → s.portLive p.val = true →
    (∀ k ∈ m.lanes, k ≤ 8 ∧ s.laneFailed p.val k = false) → s.gf FLT_CTL FLT_CTL_MODE = 0 →
    Does (.laneMapSwitch p) s (Part.reporting ++ [.free, .fport]) fun t =>
      (t.fp p.val).map = m.lanes ∧ (s.portWidth ≤ m.lanes.length → (t.fp p.val).newMap = none)
        ∧ t.gf (FAB_PORT_STATUS p.val) FAB_PORT_STATUS_MAP_ID = m.mapId % 256
        ∧ t.portState p.val = (if m.lanes.length = s.portWidth then 2 else if s.portWidth ≤ 2 * m.lanes.length then 3 else 4) :)
  ∧ (∀ (s : State) (r : SynReq) (p : Fin 32) (mode : BitVec 2) (enc : Bool) (al : W64) (h : W16) (ks : Vector (BitVec 12) 4),
    s.synRefusal 0x0800 domLink r = none → s.portExists p.val = false →
    Does (.synLinkPortSet r p mode enc al h ks) s [.mbx] fun t => Answered 0x0800 r 0x0102 [] t :)
  ∧ (∀ (s : State) (r : SynReq) (p : Fin 32) (mode : BitVec 2) (enc : Bool) (al : W64) (h : W16) (ks : Vector (BitVec 12) 4),
    s.synRefusal 0x0800 domLink r = none → s.portExists p.val = true → s.portEn p.val = true →
    Does (.synLinkPortSet r p mode enc al h ks) s [.mbx] fun t => Answered 0x0800 r 0x0209 [] t :)
  ∧ (∀ (s : State) (r : SynReq) (p : Fin 32) (mode : BitVec 2) (enc : Bool) (al : W64) (h : W16) (ks : Vector (BitVec 12) 4),
    s.synRefusal 0x0800 domLink r = none → s.portExists p.val = true → s.portEn p.val = false →
    (s.portSettings p.val mode.toNat enc al.toNat h.toNat ks.toList).portCheck p.val = none →
    Does (.synLinkPortSet r p mode enc al h ks) s (Part.reporting ++ [.fport, .laneRx]) fun t =>
      Answered 0x0800 r 0 [] t ∧ t.portEn p.val = true ∧ t.portState p.val = 1 ∧ t.portMode p.val = mode.toNat
        ∧ t.portEnc p.val = enc :)
  ∧ (∀ (s : State) (r : SynReq) (p : Fin 32) (mode : BitVec 2) (enc : Bool) (al : W64) (h : W16) (ks : Vector (BitVec 12) 4)
    (c : Nat), s.synRefusal 0x0800 domLink r = none → s.portExists p.val = true → s.portEn p.val = false → mode.toNat ≠ 3 →
    (s.portSettings p.val mode.toNat enc al.toNat h.toNat ks.toList).portCheck p.val = some c →
    Does (.synLinkPortSet r p mode enc al h ks) s [.regs, .mbx] fun t => Answered 0x0800 r c [] t ∧ t.portEn p.val = false :)
  ∧ (∀ (s : State) (r : SynReq) (p : Fin 32), s.synRefusal 0x0801 domLink r = none → s.portEn p.val = true →
    Does (.synLinkPortDisable r p) s (Part.reporting ++ [.fport, .laneRx]) fun t =>
      Answered 0x0801 r 0 [] t ∧ t.portEn p.val = false ∧ t.portState p.val = 0 :)
  ∧ (∀ (s : State) (r : SynReq) (p : Fin 32), s.synRefusal 0x0803 domLink r = none → s.portLive p.val = true →
    s.isEth p.val = false →
    Does (.synLinkRetrain r p) s [.mbx, .fport] fun t =>
      Answered 0x0803 r 0 [] t
        ∧ (t.fp p.val).retrain = (List.range s.portWidth ++ [8]).filter (fun k => s.laneFailed p.val k) :)
  ∧ (∀ (s : State) (r : SynReq) (p : Fin 32) (c : Caps), s.synRefusal 0x0804 domLink r = none → (s.fp p.val).caps = some c →
    Does (.synLinkQuery r p) s [.mbx] fun t =>
      Answered 0x0804 r 0 (leBytes 4 (s.rd (FAB_PORT_STATUS p.val)).toNat ++ leBytes 4 (s.rd (FAB_PORT_DISCARD p.val)).toNat
        ++ leBytes 1 (b2n c.eightLane) ++ leBytes 1 (b2n c.enc) ++ leBytes 8 c.node ++ leBytes 1 c.port
        ++ ((List.range s.portWidth) ++ [8]).flatMap (fun k => leBytes 4 (s.rd (FAB_LANE_STATUS (s.laneNum p.val k))).toNat
          ++ leBytes 8 (s.rd64 (FAB_LANE_FEC (s.laneNum p.val k))))) t :)

/-- R190 to R194, R196, R197, R199 to R204: frames, control cells, credit, key switches and priority flow control. Payload layouts are the model's (log entry 10). -/
def Obligations.FramesAndControlCells : Prop :=
  (∀ (s : State) (p : Fin 32) (tc : Fin 8) (bs content : List Byte), s.portLive p.val = true → s.isEth p.val = false →
    (s.fp p.val).used tc.val + cellsFor bs.length ≤ s.portAlloc p.val tc.val → checkCrc bs = some content →
    cellsFor bs.length ≤ 71 → plainFrame content → content.length ≤ 4352 → s.portEnc p.val = false → s.noOdd p.val →
    Does (.frame p tc false bs false) s [.fport] fun t =>
      t.fp p.val = { s.fp p.val with rxq := (s.fp p.val).rxq ++ [(tc.val, content, cellsFor bs.length)] }
        ∧ ∀ k, k < 32 → k ≠ p.val → t.fp k = s.fp k :)
  ∧ (∀ (s : State) (p : Fin 32) (tc : Fin 8) (bs content : List Byte), s.portLive p.val = true → s.isEth p.val = false →
    (s.fp p.val).used tc.val + cellsFor bs.length ≤ s.portAlloc p.val tc.val → checkCrc bs = some content →
    cellsFor bs.length ≤ 71 → 1 ≤ content.length → content.length ≤ 4352 → (content.length < 48 ∨ frameVersion content ≠ 1) →
    s.portEnc p.val = false → s.noOdd p.val →
    Does (.frame p tc false bs false) s [.regs, .out, .fport] fun t =>
      (t.fp p.val).rxq = (s.fp p.val).rxq
        ∧ t.gf TRN_DISCARD TRN_DISCARD_FRAME = min (2 ^ 16 - 1) (s.gf TRN_DISCARD TRN_DISCARD_FRAME + 1)
        ∧ RegsBut [TRN_DISCARD] s t :)
  ∧ (∀ (s : State) (p : Fin 32) (tc : Fin 8) (enc lost : Bool) (bs : List Byte), s.portLive p.val = true →
    s.isEth p.val = false → s.portAlloc p.val tc.val < (s.fp p.val).used tc.val + cellsFor bs.length →
    Does (.frame p tc enc bs lost) s [.regs] fun t =>
      t.gf (FAB_PORT_DISCARD p.val) FAB_PORT_DISCARD_FRAME
        = min (2 ^ 16 - 1) (s.gf (FAB_PORT_DISCARD p.val) FAB_PORT_DISCARD_FRAME + 1)
      ∧ RegsBut [FAB_PORT_DISCARD p.val] s t :)
  ∧ (∀ (s : State) (p : Fin 32) (tc : Fin 8) (enc lost : Bool) (bs : List Byte), s.portLive p.val = true →
    s.isEth p.val = false → (s.fp p.val).used tc.val + cellsFor bs.length ≤ s.portAlloc p.val tc.val →
    (checkCrc bs = none ∨ lost = true ∨ 71 < cellsFor bs.length ∨ enc ≠ s.portEnc p.val) → s.noOdd p.val →
    Does (.frame p tc enc bs lost) s [.regs, .out, .fport] fun t =>
      t.gf (FAB_PORT_DISCARD p.val) FAB_PORT_DISCARD_FRAME
        = min (2 ^ 16 - 1) (s.gf (FAB_PORT_DISCARD p.val) FAB_PORT_DISCARD_FRAME + 1)
      ∧ (t.fp p.val).rxq = (s.fp p.val).rxq ∧ RegsBut [FAB_PORT_DISCARD p.val] s t :)
  ∧ (∀ (s : State) (p : Fin 32) (tc : Fin 8) (bs content text : List Byte) (an pn : Nat) (c : Caps), s.portLive p.val = true →
    s.isEth p.val = false → (s.fp p.val).used tc.val + cellsFor bs.length ≤ s.portAlloc p.val tc.val →
    checkCrc bs = some content → cellsFor bs.length ≤ 71 → 25 ≤ content.length → content.length ≤ 4376 →
    s.portEnc p.val = true → an = (content[0]?.getD 0).toNat % 4 → pn = beNat ((content.drop 2).take 6) →
    (an = s.rxAn p.val ∨ an = (s.rxAn p.val + 1) % 4) → (s.fp p.val).rxPn[an]?.getD 0 < pn →
    s.slotPending (s.portKey p.val an) = false → s.slotUsable (s.portKey p.val an) 2 ownerInternal = true →
    (s.fp p.val).caps = some c → s.noOdd p.val →
    Does (.frame p tc true bs false) s Part.sending fun t =>
      gcmOpen (s.slotKey (s.portKey p.val an)) (linkIv c.node c.port pn) (content.take 8 ++ leBytes 1 tc.val)
        ((content.drop 8).take (content.length - 24)) (content.drop (content.length - 16)) = some text → plainFrame text →
      SameBut [.regs, .fport] s t ∧ (t.fp p.val).rxq = (s.fp p.val).rxq ++ [(tc.val, text, cellsFor bs.length)]
        ∧ (t.fp p.val).rxPn = (s.fp p.val).rxPn.set an pn ∧ t.rxAn p.val = an ∧ RegsBut [FAB_PORT_ENC p.val] s t :)
  ∧ (∀ (s : State) (p : Fin 32) (tc : Fin 8) (bs content : List Byte) (an pn : Nat) (c : Caps), s.portLive p.val = true →
    s.isEth p.val = false → (s.fp p.val).used tc.val + cellsFor bs.length ≤ s.portAlloc p.val tc.val →
    checkCrc bs = some content → cellsFor bs.length ≤ 71 → 25 ≤ content.length → content.length ≤ 4376 →
    s.portEnc p.val = true → an = (content[0]?.getD 0).toNat % 4 → pn = beNat ((content.drop 2).take 6) →
    an = s.rxAn p.val → (s.fp p.val).rxPn[an]?.getD 0 < pn →
    s.slotPending (s.portKey p.val an) = false → s.slotUsable (s.portKey p.val an) 2 ownerInternal = true →
    (s.fp p.val).caps = some c → s.noOdd p.val →
    Does (.frame p tc true bs false) s Part.sending fun t =>
      gcmOpen (s.slotKey (s.portKey p.val an)) (linkIv c.node c.port pn) (content.take 8 ++ leBytes 1 tc.val)
        ((content.drop 8).take (content.length - 24)) (content.drop (content.length - 16)) = none →
      SameBut [.regs, .out, .fport] s t
      ∧ t.gf SEC_EVENTS SEC_EVENTS_AUTH_FAIL = min (2 ^ 32 - 1) (s.gf SEC_EVENTS SEC_EVENTS_AUTH_FAIL + 1)
      ∧ t.gf (FAB_PORT_DISCARD p.val) FAB_PORT_DISCARD_AUTH
        = min (2 ^ 16 - 1) (s.gf (FAB_PORT_DISCARD p.val) FAB_PORT_DISCARD_AUTH + 1)
      ∧ (t.fp p.val).rxq = (s.fp p.val).rxq ∧ RegsBut [FAB_PORT_DISCARD p.val, SEC_EVENTS] s t :)
  ∧ (∀ (s : State) (p : Fin 32) (id sw : Byte) (ls : Vector Byte 8) (m : NewMap), s.portLive p.val = true →
    s.isEth p.val = false → (s.fp p.val).newMap = some m → m.mapId = id.toNat → m.lanes = mapLanes ls.toList →
    Does (.laneMap p id ls sw) s [.fport] fun t =>
      t.fp p.val = { s.fp p.val with newMap := some { m with echoed := true } } :)
  ∧ (∀ (s : State) (p : Fin 32) (id sw : Byte) (ls : Vector Byte 8), s.portLive p.val = true →
    s.isEth p.val = false → (s.fp p.val).newMap = none → id.toNat ≠ s.gf (FAB_PORT_STATUS p.val) FAB_PORT_STATUS_MAP_ID →
    Does (.laneMap p id ls sw) s [.regs, .out, .fport] fun t =>
      (t.fp p.val).newMap = some ⟨id.toNat, mapLanes ls.toList, sw.toNat, s.clock, true⟩
        ∧ t.out = s.out ++ [.control p.val 2 (mapContent ⟨id.toNat, mapLanes ls.toList, sw.toNat, s.clock, true⟩)]
        ∧ ∀ k ∈ (s.fp p.val).map, k < 9 → k ∉ mapLanes ls.toList → t.laneFailed p.val k = true :)
  ∧ (∀ (s : State) (p : Fin 32) (an : BitVec 2), Does (.keySwitch p an) s [] fun t => t = s :)
  ∧ (∀ (s : State) (p : Fin 32) (form port : Byte) (enc : Bool) (node : W64), s.isEth p.val = false → s.portState p.val = 1 →
    Does (.caps p form enc node port) s [.fport] fun t =>
      (t.fp p.val).caps = some ⟨form.toNat == 1, enc, node.toNat, port.toNat⟩
        ∧ (t.fp p.val).mismatches = (s.fp p.val).mismatches
          + (if (form.toNat == 1) = s.eightLane ∧ enc = s.portEnc p.val then 0 else 1) :)
  ∧ (∀ (s : State) (p : Fin 32), s.portLive p.val = true → s.isEth p.val = false →
    Does (.creditSend p) s [.out, .fport] fun t =>
      t.out = s.out ++ [.control p.val 1 (leNat ((s.fp p.val).grants.flatMap (fun g => beBytes 4 g)))]
        ∧ (t.fp p.val).grants = (s.fp p.val).grants ∧ (t.fp p.val).creditAt = s.clock :)
  ∧ (∀ (s : State) (q : Requester) (p : Fin 32) (v : W32), coreWrites q = true → s.portExists p.val = true →
    s.portEn p.val = true → s.portEnc p.val = true → s.portLive p.val = true →
    Does (.encSwitch q p v) s [.regs, .out, .fport] fun t =>
      t.txAn p.val = (s.txAn p.val + 1) % 4 ∧ (t.fp p.val).txPn = 1 ∧ t.rxAn p.val = s.rxAn p.val
        ∧ t.bit (FAB_PORT_ENC p.val) FAB_PORT_ENC_EXHAUSTED = false
        ∧ t.out = s.out ++ [.control p.val 3 ((s.txAn p.val + 1) % 4)] ∧ RegsBut [FAB_PORT_ENC p.val] s t :)
  ∧ (∀ (s : State) (r : SynReq) (p : Fin 32) (slot : BitVec 12), s.synRefusal 0x0802 domLink r = none →
    s.slotUsable slot.toNat 2 ownerInternal = false →
    Does (.synLinkKeySwitch r p slot) s [.mbx] fun t => Answered 0x0802 r 0x0401 [] t :)
  ∧ (∀ (s : State) (r : SynReq) (p : Fin 32) (slot : BitVec 12), s.synRefusal 0x0802 domLink r = none →
    s.slotUsable slot.toNat 2 ownerInternal = true → (s.portLive p.val = false ∨ s.isEth p.val = true) →
    Does (.synLinkKeySwitch r p slot) s [.mbx] fun t => Answered 0x0802 r 0x0209 [] t :)
  ∧ (∀ (s : State) (r : SynReq) (p : Fin 32) (slot : BitVec 12), s.synRefusal 0x0802 domLink r = none →
    s.slotUsable slot.toNat 2 ownerInternal = true → s.portLive p.val = true → s.isEth p.val = false →
    Does (.synLinkKeySwitch r p slot) s [.regs, .out, .mbx, .fport] fun t =>
      Answered 0x0802 r 0 [] t ∧ t.txAn p.val = (s.txAn p.val + 1) % 4
        ∧ t.portKey p.val (t.txAn p.val) = slot.toNat ∧ (t.fp p.val).txPn = 1 :)
  ∧ (∀ (s : State) (p : Fin 32) (en : Byte) (qs : Vector W16 8), s.portLive p.val = true → s.isEth p.val = true →
    (s.fp p.val).paused.length = 8 →
    Does (.pfcFrame p en qs) s [.fport] fun t =>
      ∀ c : Fin 8, (t.fp p.val).paused[c.val]?.getD 0
        = if bitAt en.toNat c.val = false then (s.fp p.val).paused[c.val]?.getD 0
          else if (qs[c.val]).toNat = 0 then 0 else s.clock + ((qs[c.val]).toNat + 4) / 5 + 1 :)
  ∧ (∀ (s : State) (p : Fin 32), s.portLive p.val = true → s.isEth p.val = true →
    (s.fp p.val).pfcAt + nsCycles 40000 ≤ s.clock →
    Does (.pfcRepeat p) s [.out, .fport] fun t =>
      t.out = s.out ++ ((s.fp p.val).pfc.filter (fun c =>
          decide (s.ethFree p.val c < s.gf (FAB_PORT_PFC p.val) FAB_PORT_PFC_HEADROOM))).map
        (fun c => .control p.val 0x101 (2 ^ c + 0xFFFF * 2 ^ 16))
      ∧ t.fp p.val = { s.fp p.val with pfcAt := s.clock } :)
  ∧ (∀ (s : State) (p : Fin 32) (c : Fin 8) (x : Nat), (s.fp p.val).paused[c.val]? = some x → 0 < x → x ≤ s.clock + 1 →
    Does (.pauseExpiry p c) s [.fport] fun t => t.fp p.val = { s.fp p.val with paused := (s.fp p.val).paused.set c.val 0 } :)
  ∧ (∀ (s : State) (p : Fin 32) (c : Fin 8) (x : Nat), (s.fp p.val).paused[c.val]? = some x → s.clock + 1 < x →
    Does (.pauseExpiry p c) s [] fun _ => True :)
  ∧ (∀ (s : State) (p : Fin 32) (c : Fin 8), s.isEth p.val = true → s.ethMayStart p.val c.val = false →
    (s.fp p.val).pausedSince[c.val]?.getD 0 + nsCycles 100000000 < s.clock →
    Does (.pauseStuck p c) s [.regs, .hostMem, .out, .mbx, .host] fun t =>
      t.bit (FAB_PORT_STATUS p.val) FAB_PORT_STATUS_PAUSE_STUCK = true :)

/-- R210 to R214, R218 to R223, R225 to R227, R231, R233: packets received by the transport engine. -/
def Obligations.TransportPacketsAreReceived : Prop :=
  (∀ (s : State) (p : TrnPkt) (a : Nat) (c : Conn), s.pktHere p → s.cn p.dstConn.toNat = c → c.state = csReady → c.tx = [] →
    c.place p.psn.toNat = .accept → c.msnOk p.msn.toNat = true → p.msn.toNat ∉ c.rxDone →
    (s.remoteTarget c p.mkey.toNat (p.raddr.toNat + p.offset.toNat) p.data.length true).1 = some a →
    c.oversized p = false → s.bit CKP_CTL CKP_CTL_EN = false → inHbm a p.data.length = true → c.rx = [] → c.consumer < 4 →
    Does (.writePacket p) s Part.sending fun t =>
      t.bytes a p.data.length = p.data
        ∧ (t.cn p.dstConn.toNat).rx = [⟨p.msn.toNat, p.total.toNat, p.data.length, p.signal.toNat, p.sig, p.poison, false,
          false, p.chdr⟩]
        ∧ (t.cn p.dstConn.toNat).rcvMap = (shiftMap 256 (bitsPut c.rcvMap (c.psnDiff p.psn.toNat c.rcvEpsn) 1 1) 0).1
        ∧ (t.cn p.dstConn.toNat).rcvEpsn
          = c.psnAdd c.rcvEpsn (shiftMap 256 (bitsPut c.rcvMap (c.psnDiff p.psn.toNat c.rcvEpsn) 1 1) 0).2 :)
  ∧ (∀ (s : State) (p : TrnPkt) (c : Conn), s.pktHere p → s.cn p.dstConn.toNat = c → c.state = csReady → c.tx = [] →
    c.place p.psn.toNat = .duplicate → c.consumer < 4 →
    Does (.writePacket p) s Part.sending fun t =>
      t.mem = s.mem ∧ (t.cn p.dstConn.toNat).rx = c.rx ∧ (t.cn p.dstConn.toNat).rcvMap = c.rcvMap
        ∧ (t.cn p.dstConn.toNat).rcvEpsn = c.rcvEpsn ∧ (t.cn p.dstConn.toNat).unacked = 0 :)
  ∧ (∀ (s : State) (p : TrnPkt) (c : Conn), s.pktHere p → s.cn p.dstConn.toNat = c → c.state = csReady → c.tx = [] →
    c.place p.psn.toNat = .accept → c.msnOk p.msn.toNat = true → p.msn.toNat ∉ c.rxDone →
    (s.remoteTarget c p.mkey.toNat (p.raddr.toNat + p.offset.toNat) p.data.length true).1 = none →
    c.oversized p = false → c.active = [] → c.waiting = [] → s.trn.owed = [] →
    Does (.writePacket p) s Part.sending fun t =>
      (t.cn p.dstConn.toNat).state = csError ∧ (t.cn p.dstConn.toNat).status0 = 0x31 :)
  ∧ (∀ (s : State) (p : TrnPkt), s.portLive p.port.val = true → s.isEth p.port.val = p.roce →
    s.stopped p = false → (s.trnEn = false ∨ (p.roce = false ∧ p.dstAddr ≠ s.rd TRN_ADDR)) →
    Does (.writePacket p) s [.regs, .out, .fport] fun t =>
      t.gf TRN_DISCARD TRN_DISCARD_FRAME = min (2 ^ 16 - 1) (s.gf TRN_DISCARD TRN_DISCARD_FRAME + 1)
        ∧ RegsBut [TRN_DISCARD] s t :)
  ∧ (∀ (s : State) (p : TrnPkt), s.portLive p.port.val = true → s.isEth p.port.val = p.roce → s.trnEn = true →
    (p.roce = true ∨ p.dstAddr = s.rd TRN_ADDR) → s.isCached p.dstConn.toNat = false → s.stopped p = false →
    s.missCount p.port.val < 256 →
    Does (.writePacket p) s [.regs, .out, .fport, .trn] fun t =>
      t.trn = { s.trn with miss := s.trn.miss ++ [(0, false, p)] } ∧ RegsBut [TRN_MISS_STATUS, TRN_DISCARD] s t
        ∧ t.gf TRN_DISCARD TRN_DISCARD_FRAME = s.gf TRN_DISCARD TRN_DISCARD_FRAME :)
  ∧ (∀ (s : State) (p : TrnPkt), s.pktHere p →
    (s.cn p.dstConn.toNat).state ∈ [csFree, csInit, csClosing] →
    Does (.sendPacket p) s [.regs, .out, .fport, .trn] fun t =>
      t.gf TRN_DISCARD TRN_DISCARD_FRAME = min (2 ^ 16 - 1) (s.gf TRN_DISCARD TRN_DISCARD_FRAME + 1)
        ∧ RegsBut [TRN_DISCARD] s t :)
  ∧ (∀ (s : State) (p : TrnPkt) (c : Conn), s.pktHere p → s.cn p.dstConn.toNat = c → c.state = csReady → c.tx = [] →
    c.place p.psn.toNat = .accept → c.msnOk p.msn.toNat = true → p.msn.toNat ∉ c.rxDone → c.oversized p = false → 1 ≤ c.consumer → c.consumer ≤ 3 →
    (∀ b ∈ s.trn.inbox, ¬(b.conn = p.dstConn.toNat ∧ b.msn = p.msn.toNat)) →
    Does (.sendPacket p) s Part.sending fun t =>
      t.trn.inbox = s.trn.inbox ++ [⟨c.consumer, p.dstConn.toNat, p.msn.toNat, p.chdr, p.total.toNat,
        [(p.offset.toNat, p.data)], p.poison, false, [(p.chdr, p.poison)]⟩]
        ∧ (t.cn p.dstConn.toNat).rcvEpsn
          = c.psnAdd c.rcvEpsn (shiftMap 256 (bitsPut c.rcvMap (c.psnDiff p.psn.toNat c.rcvEpsn) 1 1) 0).2 :)
  ∧ (∀ (s : State) (p : TrnPkt) (c : Conn), s.pktHere p → s.cn p.dstConn.toNat = c → c.state = csReady → c.tx = [] →
    c.place p.psn.toNat = .accept → c.consumer = 0 → c.active = [] → c.waiting = [] → s.trn.owed = [] →
    Does (.sendPacket p) s Part.sending fun t =>
      (t.cn p.dstConn.toNat).state = csError ∧ (t.cn p.dstConn.toNat).status0 = 0x36 :)
  ∧ (∀ (s : State) (p : TrnPkt) (c : Conn) (a : Nat), s.pktHere p → s.cn p.dstConn.toNat = c → c.state = csReady → c.tx = [] →
    c.place p.psn.toNat = .accept → c.msnOk p.msn.toNat = true → p.msn.toNat ∉ c.rxDone →
    (s.remoteTarget c p.mkey.toNat p.raddr.toNat p.total.toNat false).1 = some a →
    Does (.readReq p) s Part.sending fun t =>
      (t.cn p.dstConn.toNat).state ≠ csReady
        ∨ (t.cn p.dstConn.toNat).tx = [⟨2, c.sndNxt, c.packets p.total.toNat, p.msn.toNat, a, p.total.toNat, [], [], 0, none⟩] :)
  ∧ (∀ (s : State) (p : TrnPkt) (c : Conn) (x : Msg) (who : Nat), s.pktHere p → s.cn p.dstConn.toNat = c → c.state = csReady →
    c.tx = [] → c.place p.psn.toNat = .accept → c.active = [x] → x.msn = p.msn.toNat → reqOp x.req = 1 →
    x.owner = .internal who → x.got + p.data.length = reqLength x.req → x.got = p.offset.toNat → x.poison = false →
    p.poison = false → c.oversized p = false → s.bit CKP_CTL CKP_CTL_EN = false → inHbm (reqLocal x.req + p.offset.toNat) p.data.length = true →
    c.consumer < 4 →
    Does (.readResp p) s Part.sending fun t =>
      t.bytes (reqLocal x.req + p.offset.toNat) p.data.length = p.data ∧ (t.cn p.dstConn.toNat).active = []
        ∧ t.trn.results = s.trn.results ++ [(who, reqTag x.req, 0, reqLength x.req, p.dstConn.toNat)] :)
  ∧ (∀ (s : State) (p : TrnPkt) (c : Conn) (i : TxItem), s.pktHere p → s.cn p.dstConn.toNat = c → c.state = csReady →
    c.tx = [i] → i.psn = c.sndUna → 0 < i.count → i.count ≤ 256 → c.sndUna < c.psnMod →
    c.sndNxt = c.psnAdd c.sndUna i.count → p.psn.toNat = c.sndNxt →
    Does (.ack p false) s Part.sending fun t =>
      (t.cn p.dstConn.toNat).sndUna = c.sndNxt ∧ (t.cn p.dstConn.toNat).retry = 0 ∧ (t.cn p.dstConn.toNat).tx = []
        ∧ (t.cn p.dstConn.toNat).creditMsn
          = (if msnDiff p.msn.toNat c.creditMsn < 2 ^ 31 then p.msn.toNat else c.creditMsn) :)
  ∧ (∀ (s : State) (p : TrnPkt) (c : Conn) (x : Msg) (who : Nat), s.pktHere p → s.cn p.dstConn.toNat = c → c.state = csReady →
    c.tx = [] → p.psn.toNat = c.sndUna → c.sndUna < c.psnMod → c.active = [x] → x.msn = p.offset.toNat →
    x.owner = .internal who → p.total = 0 →
    Does (.ack p true) s Part.sending fun t =>
      (t.cn p.dstConn.toNat).active = [] ∧ (t.cn p.dstConn.toNat).sndDone = c.sndMsn
        ∧ t.trn.results = s.trn.results ++ [(who, reqTag x.req, 0, reqLength x.req, p.dstConn.toNat)] :)
  ∧ (∀ (s : State) (p : TrnPkt) (c : Conn), s.pktHere p → s.cn p.dstConn.toNat = c → c.state = csReady →
    p.total.toNat % 256 ∈ [1, 2, 3] → c.active = [] → c.waiting = [] → s.trn.owed = [] →
    Does (.nak p) s Part.sending fun t =>
      (t.cn p.dstConn.toNat).state = csError
        ∧ (t.cn p.dstConn.toNat).status0
          = (if p.total.toNat % 256 = 1 then 0x31 else if p.total.toNat % 256 = 2 then 0x36 else 0x34) :)
  ∧ (∀ (s : State) (p : TrnPkt) (c : Conn), s.pktHere p → s.cn p.dstConn.toNat = c → c.state = csReady →
    p.total.toNat % 256 = 4 → c.psnDiff p.psn.toNat c.sndUna < c.psnMod / 2 →
    Does (.nak p) s [.regs, .out, .fport, .trn] fun t => (t.cn p.dstConn.toNat).rnrAt = some (s.clock, p.psn.toNat) :)
  ∧ (∀ (s : State) (n : BitVec 20) (m : W32) (c : Conn) (e : RxMsg), s.cn n.toNat = c → c.state = csReady → c.tx = [] →
    c.rx = [e] → e.msn = m.toNat → e.whole = true → e.sig = false → e.send = false → c.rcvMsn = m.toNat → c.rxDone = [] →
    c.consumer < 4 →
    Does (.messageComplete n m) s Part.sending fun t =>
      (t.cn n.toNat).rx = [] ∧ (t.cn n.toNat).rcvMsn = (m.toNat + 1) % 2 ^ 32 ∧ (t.cn n.toNat).rxDone = []
        ∧ (t.cn n.toNat).unacked = 0 :)
  ∧ (∀ (s : State) (n : BitVec 20) (m : W32) (e : RxMsg), (s.cn n.toNat).rx = [e] → e.whole = false →
    Does (.messageComplete n m) s [] fun _ => True :)
  ∧ (∀ (s : State) (n : BitVec 20) (e : Nat × Bool × TrnPkt), s.trn.miss = [e] → e.2.2.dstConn = n →
    s.gf TRN_CTX_HBM_COUNT TRN_CTX_HBM_COUNT_COUNT ≤ n.toNat → regionOf (s.ctxAddr n.toNat) = .host → s.trn.stopped = [] →
    (s.cn n.toNat).state ∉ [csFlushing, csClosing] →
    Does (.connectionContextFetch n true) s [.regs, .trn] fun t =>
      t.trn = { s.trn with miss := [] }
        ∧ t.gf TRN_DISCARD TRN_DISCARD_FRAME = min (2 ^ 16 - 1) (s.gf TRN_DISCARD TRN_DISCARD_FRAME + 1)
        ∧ RegsBut [TRN_DISCARD, TRN_MISS_STATUS] s t :)
  ∧ (∀ (s : State) (n : BitVec 20) (e : Nat × Bool × TrnPkt) (f : Bool), s.trn.miss = [e] → e.2.2.dstConn = n →
    n.toNat < s.gf TRN_CTX_HBM_COUNT TRN_CTX_HBM_COUNT_COUNT → s.trn.cached.length < 32768 →
    (s.cn n.toNat).state ∈ [csFree, csInit] →
    Does (.connectionContextFetch n f) s (Part.reading ++ [.trn]) fun t =>
      t.trn.miss = [] ∧ t.isCached n.toNat = true
        ∧ t.gf TRN_DISCARD TRN_DISCARD_FRAME = min (2 ^ 16 - 1) (s.gf TRN_DISCARD TRN_DISCARD_FRAME + 1) :)
  ∧ (∀ (s : State) (n : BitVec 20) (e : Nat × Bool × TrnPkt) (f : Bool), s.trn.miss = [e] → e.2.2.dstConn = n →
    n.toNat < s.gf TRN_CTX_HBM_COUNT TRN_CTX_HBM_COUNT_COUNT → s.trn.cached.length < 32768 →
    (s.cn n.toNat).state = csClosing → (s.cn n.toNat).ctl = [] → s.trn.owed = [] →
    Does (.connectionContextFetch n f) s (Part.reading ++ [.trn]) fun t =>
      t.trn.miss = [] ∧ t.cn n.toNat = Conn.reset ∧ t.isCached n.toNat = false
        ∧ t.gf TRN_DISCARD TRN_DISCARD_FRAME = min (2 ^ 16 - 1) (s.gf TRN_DISCARD TRN_DISCARD_FRAME + 1) :)
  ∧ (∀ (s : State) (p : TrnPkt), s.portLive p.port.val = true → s.isEth p.port.val = p.roce → s.stopped p = false →
    s.takesPkt p = true → s.misses p = true → 256 ≤ s.missCount p.port.val →
    Does (.writePacket p) s [.regs, .trn] fun t =>
      t.trn = { s.trn with stopped := s.trn.stopped ++ [(p.port.val, p.tc.val)] } ∧ RegsBut [TRN_MISS_STATUS] s t :)
  ∧ (∀ (s : State) (p : TrnPkt), s.portLive p.port.val = true → s.stopped p = true →
    Does (.writePacket p) s [] fun _ => True :)
  ∧ (∀ (s : State) (p : TrnPkt) (c : Conn), s.pktHere p → s.cn p.dstConn.toNat = c → c.state = csReady → c.tx = [] →
    c.place p.psn.toNat = .accept → c.oversized p = true → c.active = [] → c.waiting = [] → s.trn.owed = [] →
    Does (.writePacket p) s Part.sending fun t =>
      (t.cn p.dstConn.toNat).state = csError ∧ (t.cn p.dstConn.toNat).status0 = 0x36 :)
  ∧ (∀ (s : State) (p : TrnPkt), s.pktHere p → (s.cn p.dstConn.toNat).state ∈ [csError, csFlushing] →
    (s.cn p.dstConn.toNat).ctl = [] → (∀ k, k < 32 → bitAt (s.cn p.dstConn.toNat).portmask k = false) →
    Does (.writePacket p) s [.regs, .out, .fport, .trn] fun t =>
      (t.cn p.dstConn.toNat).ctl.map (fun x => (x.opc, x.total)) = [(5, 3)] :)

/-- R214 to R217, R220 to R224, R186, R193, R195: requests, message starts, timers and what lets packets go. -/
def Obligations.TransportMessagesAndTimers : Prop :=
  (∀ (s : State) (who : Fin 8) (req : List Byte), s.trnEn = true → reqOp req = 0 → s.reqCheck (fit 64 req) none = none →
    Does (.write (.internal who req)) s [.trn] fun t =>
      (t.cn (reqConn (fit 64 req))).waiting
        = (s.cn (reqConn (fit 64 req))).waiting ++ [⟨.internal who.val, fit 64 req, 0, 0, false, []⟩]
      ∧ t.trn.results = s.trn.results :)
  ∧ (∀ (s : State) (who : Fin 8) (req : List Byte), s.trnEn = true → reqOp req = 1 → s.reqCheck (fit 64 req) none = none →
    Does (.read (.internal who req)) s [.trn] fun t =>
      (t.cn (reqConn (fit 64 req))).waiting
        = (s.cn (reqConn (fit 64 req))).waiting ++ [⟨.internal who.val, fit 64 req, 0, 0, false, []⟩] :)
  ∧ (∀ (s : State) (who : Fin 8) (req : List Byte), s.trnEn = true → reqOp req = 2 → s.reqCheck (fit 64 req) none = none →
    Does (.send (.internal who req)) s [.trn] fun t =>
      (t.cn (reqConn (fit 64 req))).waiting
        = (s.cn (reqConn (fit 64 req))).waiting ++ [⟨.internal who.val, fit 64 req, 0, 0, false, []⟩] :)
  ∧ (∀ (s : State) (who : Fin 8) (req : List Byte) (st : Nat), s.trnEn = true → reqOp req = 0 →
    s.reqCheck (fit 64 req) none = some st →
    Does (.write (.internal who req)) s [.trn] fun t =>
      t.trn = { s.trn with results := s.trn.results ++ [(who.val, reqTag (fit 64 req), st, 0, reqConn (fit 64 req))] } :)
  ∧ (∀ (s s1 : State) (ix : Nat) (d : List Byte), s.nextRing = (some (ix, d), s1) → reqOp d = 0 → s.reqCheck d none = none →
    Does (.write .ring) s (Part.reading ++ [.rings, .trn]) fun t =>
      (t.ring TRN_REQ_BASE).fetchIx = ix16 (ix + 1)
        ∧ (t.cn (reqConn d)).waiting
          = (s.cn (reqConn d)).waiting ++ [⟨.ring ix (s.ring TRN_REQ_BASE).epoch, d, 0, 0, false, []⟩] :)
  ∧ (∀ (s : State) (n : BitVec 20) (m : Msg) (rest : List Msg) (c : Conn), s.cn n.toNat = c → c.state = csReady →
    c.waiting = m :: rest → c.active.length < 8 →
    (c.roce = true ∨ (0 < msnDiff c.creditMsn c.sndMsn ∧ msnDiff c.creditMsn c.sndMsn < 2 ^ 31)) →
    (reqFence m.req = false ∨ c.active = []) → s.trnEn = true → s.trn.cached.length < 32768 → s.heldContexts < 24576 →
    Does (.messageStart n) s Part.sending fun t =>
      (t.cn n.toNat).sndMsn = (c.sndMsn + 1) % 2 ^ 32
        ∧ ((t.cn n.toNat).state ≠ csReady
          ∨ ((t.cn n.toNat).waiting = rest ∧ (t.cn n.toNat).active = c.active ++ [{ m with msn := c.sndMsn }])) :)
  ∧ (∀ (s : State) (n : BitVec 20), (s.cn n.toNat).creditMsn = (s.cn n.toNat).sndMsn → (s.cn n.toNat).roce = false →
    Does (.messageStart n) s [] fun _ => True :)
  ∧ (∀ (s : State) (n : BitVec 20) (c : Conn), s.cn n.toNat = c → c.state = csReady → c.sndUna ≠ c.sndNxt →
    c.rtoAt + usCycles (max 10 (s.gf TRN_TIMER TRN_TIMER_RTO_US) * 2 ^ c.retry) ≤ s.clock →
    s.gf TRN_TIMER TRN_TIMER_RETRY_LIMIT ≤ c.retry + 1 →
    Does (.retransmitTimeout n) s Part.sending fun t =>
      t.gf TRN_RETX TRN_RETX_COUNT = min (2 ^ 32 - 1) (s.gf TRN_RETX TRN_RETX_COUNT + 1)
        ∧ (t.cn n.toNat).status0 = 0x33 ∧ ((t.cn n.toNat).state = csFlushing ∨ (t.cn n.toNat).state = csError) :)
  ∧ (∀ (s : State) (n : BitVec 20) (c : Conn), s.cn n.toNat = c → c.state = csReady → c.sndUna ≠ c.sndNxt →
    c.rtoAt + usCycles (max 10 (s.gf TRN_TIMER TRN_TIMER_RTO_US) * 2 ^ c.retry) ≤ s.clock →
    c.retry + 1 < s.gf TRN_TIMER TRN_TIMER_RETRY_LIMIT → (∀ i ∈ c.tx, i.src + i.total ≤ regsBase) →
    Does (.retransmitTimeout n) s Part.sending fun t =>
      t.gf TRN_RETX TRN_RETX_COUNT = min (2 ^ 32 - 1) (s.gf TRN_RETX TRN_RETX_COUNT + 1)
        ∧ (t.cn n.toNat).retry = c.retry + 1 ∧ (t.cn n.toNat).sndUna = c.sndUna :)
  ∧ (∀ (s : State) (n : BitVec 20), (s.cn n.toNat).sndUna = (s.cn n.toNat).sndNxt →
    Does (.retransmitTimeout n) s [] fun _ => True :)
  ∧ (∀ (s : State) (n : BitVec 20) (c : Conn) (h : Nat), s.cn n.toNat = c → c.state = csReady → c.tx = [] → c.holeAt = some h →
    h + usCycles (max 1 (s.gf TRN_TIMER TRN_TIMER_HOLE_US)) ≤ s.clock →
    Does (.holeTimerExpiry n) s Part.sending fun t =>
      (t.cn n.toNat).holeAt = some s.clock ∧ (t.cn n.toNat).rcvEpsn = c.rcvEpsn ∧ (t.cn n.toNat).state = csReady :)
  ∧ (∀ (s : State) (n : BitVec 20) (c : Conn) (h : Nat), s.cn n.toNat = c → c.state = csReady → c.ackAt = some h →
    h + usCycles 2 ≤ s.clock →
    Does (.ackTimerExpiry n) s Part.sending fun t =>
      (t.cn n.toNat).ackAt = none ∧ (t.cn n.toNat).unacked = 0 ∧ (t.cn n.toNat).rcvEpsn = c.rcvEpsn :)
  ∧ (∀ (s : State) (n : BitVec 20) (c : Conn) (h a : Nat), s.cn n.toNat = c → c.state = csReady → c.rnrAt = some (h, a) →
    h + usCycles 20 ≤ s.clock → (∀ i ∈ c.tx, i.src + i.total ≤ regsBase) →
    Does (.rnrRetry n) s Part.sending fun t =>
      (t.cn n.toNat).rnrAt = none ∧ t.gf TRN_RETX TRN_RETX_COUNT = min (2 ^ 32 - 1) (s.gf TRN_RETX TRN_RETX_COUNT + 1) :)
  ∧ (∀ (s : State) (p : Fin 32) (counts : Vector W32 8), s.portLive p.val = true → s.isEth p.val = false →
    Does (.credit p counts) s (Part.sending ++ [.lfsr, .guards]) fun t =>
      (t.fp p.val).granted = counts.toList.map (·.toNat) :)
  ∧ (∀ (s : State) (lane : Fin 144) (ccw : BitVec 20) (cor : Fin 16) (cells : List (List Byte)),
    s.gf (FAB_LANE_STATUS lane.val) FAB_LANE_STATUS_PORT = 0xFF →
    (∀ e ∈ s.trn.conns, ∀ i ∈ e.2.tx, i.src + i.total ≤ regsBase) →
    Does (.codeword lane ccw true cor cells) s (Part.sending ++ [.laneRx, .lfsr, .guards]) fun t =>
      t.gf (FAB_LANE_FEC lane.val) FAB_LANE_FEC_UCW
        = min (2 ^ 32 - 1) (s.gf (FAB_LANE_FEC lane.val) FAB_LANE_FEC_UCW + 1) :)
  ∧ (∀ (s : State) (p : Fin 32) (spare : Bool) (c : Caps), s.portState p.val = 1 → s.portEn p.val = true →
    s.isEth p.val = false → (s.fp p.val).caps = some c → s.capsAgree p.val c = true →
    Does (.portUp p spare) s (Part.sending ++ [.laneRx, .lfsr, .guards]) fun t =>
      (s.gf FLT_CTL FLT_CTL_MODE = 0 → t.portState p.val = 2) ∧ (t.fp p.val).map = List.range s.portWidth
        ∧ (t.fp p.val).grants = (List.range 8).map (fun k => s.portAlloc p.val k)
        ∧ t.gf (FAB_PORT_STATUS p.val) FAB_PORT_STATUS_MAP_ID = 0 :)
  ∧ (∀ (s : State) (p : Fin 32) (spare : Bool) (c : Caps), s.portState p.val = 1 → s.isEth p.val = false →
    (s.fp p.val).caps = some c → s.capsAgree p.val c = false → s.portEn p.val = true →
    s.trn.conns = [] →
    Does (.portUp p spare) s (Part.sending ++ [.laneRx, .lfsr, .guards]) fun t =>
      t.portState p.val = 1 ∧ (∀ k, k < s.portWidth →
        t.gf (FAB_LANE_STATUS (s.laneNum p.val k)) FAB_LANE_STATUS_TRAINED = 1) :)

/-- R211, R228 to R231, R237, R238: the registers, rings, keys and windows of the transport engine, and its Syncen operations. Payload layouts are the model's (log entry 10). -/
def Obligations.TransportRegistersAndRequests : Prop :=
  (∀ (s : State) (q : Requester) (v : W32) (c : Nat), coreWrites q = true → s.bit TRN_CTL TRN_CTL_EN = false →
    s.trnCheck = some c →
    Does (.trnEnSet q v) s [.regs] fun t =>
      t.bit TRN_CTL TRN_CTL_EN = false ∧ t.gf TRN_CTL TRN_CTL_REFUSAL = c ∧ 0x0690 ≤ c ∧ c ≤ 0x0692 ∧ RegsBut [TRN_CTL] s t :)
  ∧ (∀ (s : State) (q : Requester) (v : W32), coreWrites q = true → s.bit TRN_CTL TRN_CTL_EN = false → s.trnCheck = none →
    Does (.trnEnSet q v) s [.regs] fun t =>
      t.bit TRN_CTL TRN_CTL_EN = true ∧ t.gf TRN_CTL TRN_CTL_REFUSAL = 0 ∧ RegsBut [TRN_CTL] s t :)
  ∧ (∀ (s : State) (q : Requester) (v : W32), coreWrites q = true → s.anyConn = false →
    Does (.trnEnClear q v) s [.regs] fun t => t.bit TRN_CTL TRN_CTL_EN = false ∧ RegsBut [TRN_CTL] s t :)
  ∧ (∀ (s : State) (q : Requester) (v : W32), s.anyConn = true → Does (.trnEnClear q v) s [] fun _ => True :)
  ∧ (∀ (s : State) (q : Requester) (v : W32), coreWrites q = true → s.bit TRN_KEY_INVAL TRN_KEY_INVAL_BUSY = false →
    Does (.trnKeyInval q v) s [.regs, .trn] fun t =>
      t.bit TRN_KEY_INVAL TRN_KEY_INVAL_BUSY = true
        ∧ t.trn = { s.trn with keyInval := some (if bitAt v.toNat 30 then none else some (v.toNat % 2 ^ 24)) }
        ∧ RegsBut [TRN_KEY_INVAL] s t :)
  ∧ (∀ (s : State) (q : Requester) (v : W32), s.bit TRN_KEY_INVAL TRN_KEY_INVAL_BUSY = true →
    Does (.trnKeyInval q v) s [] fun _ => True :)
  ∧ (∀ (s : State) (w : Option Nat), s.trn.keyInval = some w →
    Does .trnKeyInvalDone s [.regs, .trn] fun t =>
      t.bit TRN_KEY_INVAL TRN_KEY_INVAL_BUSY = false ∧ RegsBut [TRN_KEY_INVAL] s t
        ∧ t.trn = { s.trn with keyInval := none, keys := s.trn.keys.filter (fun e => w.any (fun ix => e.1 != ix)) } :)
  ∧ (∀ (s : State) (q : Requester) (v : W32), coreWrites q = true → s.peerPending = false →
    s.peerCheck ((List.range 64).map s.stagedWin) = none →
    Does (.peerWinCommit q v) s [.regs] fun t =>
      t.peerPending = true ∧ t.gf PEER_WIN_COMMIT PEER_WIN_COMMIT_REFUSAL = 0 ∧ RegsBut [PEER_WIN_COMMIT] s t :)
  ∧ (∀ (s : State) (q : Requester) (v : W32) (c : Nat), coreWrites q = true → s.peerPending = false →
    s.peerCheck ((List.range 64).map s.stagedWin) = some c →
    Does (.peerWinCommit q v) s [.regs] fun t =>
      t.peerPending = false ∧ t.gf PEER_WIN_COMMIT PEER_WIN_COMMIT_REFUSAL = c ∧ 0x0698 ≤ c ∧ c ≤ 0x069A
        ∧ RegsBut [PEER_WIN_COMMIT] s t :)
  ∧ (∀ (s : State), s.peerPending = true →
    Does .peerWinActivate s [.regs, .trn] fun t =>
      t.peerPending = false ∧ (∀ w, w < 64 → t.peerWin w = s.stagedWin w) ∧ t.trn.keys = s.trn.keys
        ∧ RegsBut [PEER_WIN_COMMIT] s t :)
  ∧ (∀ (s : State), s.peerPending = false → Does .peerWinActivate s [] fun _ => True :)
  ∧ (∀ (s : State) (q : Requester) (v : W32), coreWrites q = true →
    ixDiff (v.toNat % 2 ^ 16) (s.cmdHead TRN_REQ_BASE) ≤ 2 ^ s.cmdLog TRN_REQ_BASE →
    Does (.trnReqDb q v) s [.rings] fun t =>
      t.ring TRN_REQ_BASE = { s.ring TRN_REQ_BASE with tail := v.toNat % 2 ^ 16 } :)
  ∧ (∀ (s : State) (q : Requester) (v : W32), coreWrites q = true →
    2 ^ s.cmdLog TRN_REQ_BASE < ixDiff (v.toNat % 2 ^ 16) (s.cmdHead TRN_REQ_BASE) →
    Does (.trnReqDb q v) s [.regs] fun t =>
      t.bit TRN_RERR TRN_RERR_OVERRUN = true ∧ t.bit TRN_RERR TRN_RERR_HALTED = true ∧ RegsBut [TRN_RERR] s t :)
  ∧ (∀ (s : State) (q : Requester) (v : W32), coreWrites q = true → s.cmdEn TRN_REQ_BASE = false →
    Does (.trnReqBaseWrite q false false v) s [.regs, .rings] fun t =>
      (t.rd TRN_REQ_BASE).toNat = v.toNat / 4096 * 4096 + v.toNat % 32 ∧ t.cmdHead TRN_REQ_BASE = 0
        ∧ (t.ring TRN_REQ_BASE).tail = 0 ∧ (t.ring TRN_REQ_BASE).fetchIx = 0
        ∧ RegsBut [TRN_REQ_BASE, rStatus TRN_REQ_BASE] s t :)
  ∧ (∀ (s : State) (q : Requester) (v : W32), coreWrites q = true → s.cmplEn TRN_REQ_BASE = false →
    Does (.trnReqBaseWrite q true false v) s [.regs] fun t =>
      (t.rd (rCmpl TRN_REQ_BASE)).toNat = v.toNat / 4096 * 4096 + v.toNat % 32 ∧ t.cmplTail TRN_REQ_BASE = 0
        ∧ t.gf (rHead TRN_REQ_BASE) CLU_CMPL_HEAD_HEAD = 0 :)
  ∧ (∀ (s : State) (q : Requester) (v : W32), coreWrites q = true → s.cmdEn TRN_REQ_BASE = false →
    s.cmplEn TRN_REQ_BASE = true → bitAt v.toNat 1 = true → s.cmdEnCheck TRN_REQ_BASE true = none → s.trnEn = true →
    Does (.trnCmdEnSet q v) s [.regs] fun t =>
      t.cmdEn TRN_REQ_BASE = true ∧ t.gf TRN_RERR TRN_RERR_REFUSAL = 0 ∧ t.gf TRN_CTL TRN_CTL_REFUSAL = 0
        ∧ RegsBut [rCtl TRN_REQ_BASE, TRN_RERR, TRN_CTL] s t :)
  ∧ (∀ (s : State) (q : Requester) (v : W32), coreWrites q = true → s.cmdEn TRN_REQ_BASE = false →
    s.cmplEn TRN_REQ_BASE = true → bitAt v.toNat 1 = true → s.cmdEnCheck TRN_REQ_BASE true = none → s.trnEn = false →
    Does (.trnCmdEnSet q v) s [.regs] fun t =>
      t.cmdEn TRN_REQ_BASE = false ∧ t.gf TRN_RERR TRN_RERR_REFUSAL = 0x0693 ∧ t.gf TRN_CTL TRN_CTL_REFUSAL = 0x0693 :)
  ∧ (∀ (s : State) (q : Requester) (v : W32), coreWrites q = true → s.cmdEn TRN_REQ_BASE = true →
    bitAt v.toNat 1 = s.cmplEn TRN_REQ_BASE →
    Does (.trnCmdEnClear q v) s [.regs] fun t =>
      t.cmdEn TRN_REQ_BASE = false ∧ t.cmplEn TRN_REQ_BASE = s.cmplEn TRN_REQ_BASE ∧ RegsBut [rCtl TRN_REQ_BASE, TRN_CTL] s t :)
  ∧ (∀ (s : State) (q : Requester) (v : W32), coreWrites q = true → s.cmplEn TRN_REQ_BASE = false →
    s.cmdEn TRN_REQ_BASE = false → bitAt v.toNat 0 = false → s.cmplEnCheck TRN_REQ_BASE = none →
    Does (.trnCmplEnSet q v) s [.regs] fun t =>
      t.cmplEn TRN_REQ_BASE = true ∧ t.gf TRN_RERR TRN_RERR_REFUSAL = 0 ∧ RegsBut [rCtl TRN_REQ_BASE, TRN_RERR, TRN_CTL] s t :)
  ∧ (∀ (s : State) (q : Requester) (v : W32), coreWrites q = true → s.trn.owed = [] → s.trn.conns = [] →
    Does (.trnCmplHeadWrite q v) s [.regs] fun t =>
      t.gf (rHead TRN_REQ_BASE) CLU_CMPL_HEAD_HEAD = v.toNat % 2 ^ 16 ∧ RegsBut [rHead TRN_REQ_BASE] s t :)
  ∧ (∀ (s : State) (q : Requester) (v : W32), coreWrites q = true →
    Does (.trnHaltedResume q v) s [.regs] fun t =>
      t.bit TRN_RERR TRN_RERR_HALTED = false ∧ t.gf TRN_RERR TRN_RERR_REFUSAL = s.gf TRN_RERR TRN_RERR_REFUSAL
        ∧ RegsBut [TRN_RERR] s t :)
  ∧ (∀ (s : State) (q : Requester) (v : W32), coreWrites q = true → s.fwrxUsed = false →
    s.bit TRN_FWRX_CTL TRN_FWRX_CTL_EN = false → ringValid s.fwrxBase s.fwrxLog 4096 = true →
    Does (.trnFwrxEnSet q v) s [.regs] fun t =>
      t.bit TRN_FWRX_CTL TRN_FWRX_CTL_EN = true ∧ t.gf TRN_FWRX_CTL TRN_FWRX_CTL_EVT_CORE = bitsOf v.toNat 8 5
        ∧ t.gf TRN_FWRX_CTL TRN_FWRX_CTL_EVT_BIT = bitsOf v.toNat 16 4 ∧ RegsBut [TRN_FWRX_CTL, TRN_CTL] s t :)
  ∧ (∀ (s : State) (q : Requester) (v : W32), coreWrites q = true → s.fwrxUsed = false →
    s.bit TRN_FWRX_CTL TRN_FWRX_CTL_EN = false → ringValid s.fwrxBase s.fwrxLog 4096 = false →
    Does (.trnFwrxEnSet q v) s [.regs] fun t =>
      t.bit TRN_FWRX_CTL TRN_FWRX_CTL_EN = false ∧ t.gf TRN_CTL TRN_CTL_REFUSAL = 0x0694 :)
  ∧ (∀ (s : State) (q : Requester) (v : W32), s.fwrxUsed = true → Does (.trnFwrxEnSet q v) s [] fun _ => True :)
  ∧ (∀ (s : State) (q : Requester) (v : W32), coreWrites q = true →
    Does (.trnFwrxHeadWrite q v) s [.regs, .trn, .iq] fun t =>
      t.gf TRN_FWRX_HEAD TRN_FWRX_HEAD_HEAD = v.toNat % 2 ^ 16 ∧ RegsBut [TRN_FWRX_HEAD, TRN_FWRX_STATUS] s t :)
  ∧ (∀ (s : State) (r : SynReq) (n : W32) (sp : ConnSpec), s.synRefusal 0x0900 domTrn r = none → n.toNat < 1048576 →
    connSpecOk sp = true → (s.cn n.toNat).state = csFree →
    Does (.synTrnConnCreate r (some n) sp) s (Part.storing ++ [.free, .trn]) fun t =>
      Answered 0x0900 r 0 (leBytes 4 n.toNat) t ∧ (t.cn n.toNat).state = csInit ∧ (t.cn n.toNat).roce = sp.roce
        ∧ (t.cn n.toNat).consumer = sp.consumer ∧ (t.cn n.toNat).portmask = sp.portmask.toNat
        ∧ (t.cn n.toNat).domain = sp.domain.toNat ∧ (t.cn n.toNat).pmtu = sp.pmtu :)
  ∧ (∀ (s : State) (r : SynReq) (n : W32) (sp : ConnSpec), s.synRefusal 0x0900 domTrn r = none →
    (1048576 ≤ n.toNat ∨ connSpecOk sp = false) →
    Does (.synTrnConnCreate r (some n) sp) s [.mbx] fun t => Answered 0x0900 r 0x0102 [] t :)
  ∧ (∀ (s : State) (r : SynReq) (n : BitVec 20) (pc : BitVec 24) (a b c d : W32), s.synRefusal 0x0901 domTrn r = none →
    (s.cn n.toNat).state ≠ csInit →
    Does (.synTrnConnReady r n pc a b c d) s [.mbx] fun t => Answered 0x0901 r 0x0201 [] t :)
  ∧ (∀ (s : State) (r : SynReq) (n : BitVec 20) (pc : BitVec 24) (a b c d : W32), s.synRefusal 0x0901 domTrn r = none →
    (s.cn n.toNat).state = csInit → (s.cn n.toNat).consumer = 5 → s.bit TRN_FWRX_CTL TRN_FWRX_CTL_EN = false →
    Does (.synTrnConnReady r n pc a b c d) s [.mbx] fun t => Answered 0x0901 r 0x0694 [] t :)
  ∧ (∀ (s : State) (r : SynReq) (n : BitVec 20) (pc : BitVec 24) (a b c d : W32), s.synRefusal 0x0901 domTrn r = none →
    (s.cn n.toNat).state = csInit → (s.cn n.toNat).consumer < 4 → (s.cn n.toNat).tx = [] → (s.cn n.toNat).roce = false →
    Does (.synTrnConnReady r n pc a b c d) s Part.sending fun t =>
      Answered 0x0901 r 0 [] t ∧ (t.cn n.toNat).state = csReady ∧ (t.cn n.toNat).peerConn = pc.toNat
        ∧ (t.cn n.toNat).sndUna = a.toNat ∧ (t.cn n.toNat).sndNxt = a.toNat ∧ (t.cn n.toNat).rcvEpsn = b.toNat
        ∧ (t.cn n.toNat).sndMsn = c.toNat ∧ (t.cn n.toNat).rcvMsn = d.toNat :)
  ∧ (∀ (s : State) (r : SynReq) (n : BitVec 20), s.synRefusal 0x0902 domTrn r = none → (s.cn n.toNat).state = csReady →
    (s.cn n.toNat).active = [] → (s.cn n.toNat).waiting = [] → s.trn.owed = [] →
    Does (.synTrnConnFlush r n) s (Part.storing ++ [.free, .rings, .trn, .sto, .inst, .iq]) fun t =>
      Answered 0x0902 r 0 [] t ∧ (t.cn n.toNat).state = csError ∧ (t.cn n.toNat).status0 = 0x34 :)
  ∧ (∀ (s : State) (r : SynReq) (n : BitVec 20), s.synRefusal 0x0903 domTrn r = none →
    ((s.cn n.toNat).state = csFree ∨ (s.cn n.toNat).state = csClosing) →
    Does (.synTrnConnReset r n) s [.mbx] fun t => Answered 0x0903 r 0x0201 [] t :)
  ∧ (∀ (s : State) (r : SynReq) (n : BitVec 20), s.synRefusal 0x0903 domTrn r = none →
    ((s.cn n.toNat).state = csReady ∨ (s.cn n.toNat).state = csError) →
    Does (.synTrnConnReset r n) s (Part.storing ++ [.free, .rings, .trn, .inst, .iq]) fun t =>
      Answered 0x0903 r 0 [] t ∧ (t.cn n.toNat).state = csInit ∧ (t.cn n.toNat).rx = [] ∧ (t.cn n.toNat).rcvMap = 0
        ∧ (t.cn n.toNat).active = [] ∧ (t.cn n.toNat).waiting = [] :)
  ∧ (∀ (s : State) (r : SynReq) (n : BitVec 20), s.synRefusal 0x0904 domTrn r = none →
    (s.cn n.toNat).active = [] → (s.cn n.toNat).waiting = [] → s.trn.owed = [] → s.trn.miss = [] → (s.cn n.toNat).reserved = [] →
    s.trn.cached.length < 32768 →
    Does (.synTrnConnDestroy r n) s [.mbx, .trn] fun t =>
      Answered 0x0904 r 0 [] t ∧ t.cn n.toNat = Conn.reset ∧ t.isCached n.toNat = false :)
  ∧ (∀ (s : State) (r : SynReq) (n : BitVec 20), s.synRefusal 0x0905 domTrn r = none →
    Does (.synTrnConnQuery r n) s [.mbx] fun t => Answered 0x0905 r 0 ((s.ctxBytes n.toNat).take 64) t :)
  ∧ (∀ (s : State) (r : SynReq) (ix : W32) (e : Vector Byte 32), s.synRefusal 0x0906 domTrn r = none →
    s.gf TRN_KEY_COUNT TRN_KEY_COUNT_COUNT ≤ ix.toNat →
    Does (.synTrnKeySet r ix e) s [.mbx] fun t => Answered 0x0906 r 0x0102 [] t :)
  ∧ (∀ (s : State) (r : SynReq) (ix : W32) (e : Vector Byte 32), s.synRefusal 0x0906 domTrn r = none →
    ix.toNat < s.gf TRN_KEY_COUNT TRN_KEY_COUNT_COUNT → s.bit CKP_CTL CKP_CTL_EN = false →
    inHbm ((s.gf TRN_KEY_BASE TRN_KEY_BASE_BASE <<< 12) + ix.toNat * 32) 32 = true →
    Does (.synTrnKeySet r ix e) s (Part.storing ++ [.trn]) fun t =>
      Answered 0x0906 r 0 [] t ∧ t.bytes ((s.gf TRN_KEY_BASE TRN_KEY_BASE_BASE <<< 12) + ix.toNat * 32) 32 = e.toList
        ∧ t.trn = { s.trn with keys := s.trn.keys.filter (fun k => k.1 != ix.toNat) } :)
  ∧ (∀ (s : State) (r : SynReq) (ws : List PeerWinSpec), s.synRefusal 0x0907 domTrn r = none → s.peerPending = true →
    Does (.synTrnPwinSet r ws) s [.mbx] fun t => Answered 0x0907 r 0x0201 [] t :)
  ∧ (∀ (s : State) (r : SynReq) (w : PeerWinSpec), s.synRefusal 0x0907 domTrn r = none → s.peerPending = false →
    (∀ k, k < 64 → (s.stagedWin k).en = false) → w.en = false →
    Does (.synTrnPwinSet r [w]) s [.regs, .mbx] fun t =>
      Answered 0x0907 r 0 [] t ∧ t.peerPending = true
        ∧ t.stagedWin w.win.val = ⟨w.target.toNat * 4096, false, w.log2.toNat, w.rights.toNat⟩
        ∧ RegsBut [PEER_WIN_TARGET w.win.val, PEER_WIN_TARGET w.win.val + 4, PEER_WIN_CFG w.win.val, PEER_WIN_COMMIT] s t :)
  ∧ (∀ (s : State) (r : SynReq), s.synRefusal 0x0908 domTrn r = none →
    Does (.synTrnPwinQuery r) s [.mbx] fun t =>
      Answered 0x0908 r 0 ((List.range 64).flatMap (fun w => leBytes 8 (s.peerWin w).target
        ++ leBytes 4 (b2n (s.peerWin w).en * 2 ^ 31 + (s.peerWin w).log2 * 256 + (s.peerWin w).rights))) t :)

/-- R240 to R245, R247, R248, R250, R494: the counter, the pulses, the steering law, qualification and PPS_OUT. -/
def Obligations.TimeIsSteeredByPulses : Prop :=
  (∀ (s : State) (phase : Fin 8), s.bit TIME_CTL TIME_CTL_PPS_EN = false →
    Does (.ppsEdge phase) s [] fun _ => True :)
  ∧ (∀ (s : State) (phase : Fin 8) (e : Int), s.bit TIME_CTL TIME_CTL_PPS_EN = true → s.timeState ≠ 0 →
    phaseErr ((s.edgeTime phase : Int) - sext 16 (s.gf TIME_CFG TIME_CFG_PPS_DELAY)) = e →
    (∀ a, s.time.lastAccept = some a → 78125000 ≤ s.clock - a) → (s.timeState = 1 ∨ e.natAbs ≤ 1000) →
    s.bit TIME_CTL TIME_CTL_ARM = true →
    Does (.ppsEdge phase) s [.regs, .time, .col, .ckp] fun t =>
      t.time.acc = toU 96 (((s.rd64 TIME_SET : Int) + sext 16 (s.gf TIME_CFG TIME_CFG_PPS_DELAY)) * 2 ^ 32
          - ((phase.val * s.time.incr / 8 : Nat) : Int))
        ∧ t.bit TIME_CTL TIME_CTL_ARM = false ∧ t.bit TIME_STATUS TIME_STATUS_SET = true
        ∧ t.bit TIME_STATUS TIME_STATUS_STEPPED = true ∧ t.gf TIME_PHASE TIME_PHASE_ERR = sat32 e
        ∧ t.time = { s.time with acc := t.time.acc, lastAccept := some s.clock, rejRun := 0 }
        ∧ t.timeState = s.timeState ∧ RegsBut [TIME_CTL, TIME_STATUS, TIME_PHASE, COL_SLOT_STATUS] s t
        ∧ t.col = { s.col with resumeAt := t.col.resumeAt } :)
  ∧ (∀ (s : State) (phase : Fin 8) (e : Int), s.bit TIME_CTL TIME_CTL_PPS_EN = true → s.timeState = 1 →
    phaseErr ((s.edgeTime phase : Int) - sext 16 (s.gf TIME_CFG TIME_CFG_PPS_DELAY)) = e →
    (∀ a, s.time.lastAccept = some a → 78125000 ≤ s.clock - a) → 100000 < e.natAbs → s.bit TIME_CTL TIME_CTL_ARM = false →
    Does (.ppsEdge phase) s [.regs, .time, .ckp] fun t =>
      t.time.acc = toU 96 ((s.time.acc : Int) - e * 2 ^ 32) ∧ t.bit TIME_STATUS TIME_STATUS_STEPPED = true
        ∧ t.time.freq8 = s.time.freq8 ∧ t.time.incr = s.time.incr ∧ t.time.good = 0 ∧ t.timeState = 1
        ∧ RegsBut [TIME_STATUS, TIME_PHASE, COL_SLOT_STATUS] s t :)
  ∧ (∀ (s : State) (phase : Fin 8) (e : Int), s.bit TIME_CTL TIME_CTL_PPS_EN = true → 1 ≤ s.timeState →
    phaseErr ((s.edgeTime phase : Int) - sext 16 (s.gf TIME_CFG TIME_CFG_PPS_DELAY)) = e →
    (∀ a, s.time.lastAccept = some a → 78125000 ≤ s.clock - a) → e.natAbs ≤ 1000 → s.bit TIME_CTL TIME_CTL_ARM = false →
    Does (.ppsEdge phase) s [.regs, .time, .col] fun t =>
      t.time.freq8 = clampInt (s.time.freq8 - e) 800000 ∧ t.time.incr = incrOf (clampInt (t.time.freq8 - 4 * e) 1600000)
        ∧ t.time.acc = s.time.acc ∧ t.time.errs = (e.natAbs :: s.time.errs).take 4
        ∧ t.time.good = (if e.natAbs ≤ 100 then s.time.good + 1 else 0)
        ∧ t.timeState = (if t.time.good ≥ 4 then 2 else s.timeState) ∧ t.time.lastAccept = some s.clock
        ∧ RegsBut [TIME_STATUS, TIME_PHASE, TIME_FREQ, COL_SLOT_STATUS] s t ∧ t.col = { s.col with resumeAt := t.col.resumeAt } :)
  ∧ (∀ (s : State) (phase : Fin 8), s.bit TIME_CTL TIME_CTL_PPS_EN = true → 2 ≤ s.timeState →
    1000 < (phaseErr ((s.edgeTime phase : Int) - sext 16 (s.gf TIME_CFG TIME_CFG_PPS_DELAY))).natAbs →
    Does (.ppsEdge phase) s [.regs, .time, .col] fun t =>
      t.gf TIME_STATUS TIME_STATUS_REJECTS = min (2 ^ 16 - 1) (s.gf TIME_STATUS TIME_STATUS_REJECTS + 1)
        ∧ t.timeState = (if 2 ≤ s.time.rejRun then 1 else s.timeState) ∧ t.time.acc = s.time.acc ∧ t.time.incr = s.time.incr
        ∧ t.time.errs = s.time.errs ∧ RegsBut [TIME_STATUS, COL_SLOT_STATUS] s t ∧ t.col = { s.col with resumeAt := t.col.resumeAt } :)
  ∧ (∀ (s : State) (a : Nat), s.timeState = 2 → s.time.lastAccept = some a → 234375000 ≤ s.clock - a →
    Does (.ppsLoss) s [.regs, .time, .col] fun t =>
      t.timeState = 3 ∧ t.bit TIME_STATUS TIME_STATUS_LOST = true ∧ t.time.incr = incrOf s.time.freq8
        ∧ t.time.freq8 = s.time.freq8 ∧ t.time.acc = s.time.acc ∧ RegsBut [TIME_STATUS, COL_SLOT_STATUS] s t
        ∧ t.col = { s.col with resumeAt := t.col.resumeAt } :)
  ∧ (∀ (s : State), s.timeState ≠ 2 → Does (.ppsLoss) s [] fun _ => True :)
  ∧ (∀ (s : State), Does (.qualificationLost) s [.regs, .col] fun t =>
      t.bit TIME_STATUS TIME_STATUS_QUALIFIED
          = (s.bit TIME_STATUS TIME_STATUS_SET && decide (2 ≤ s.timeState) && decide (s.errorBound ≤ 250))
        ∧ t.bit COL_SLOT_STATUS COL_SLOT_STATUS_QUALIFIED = t.bit TIME_STATUS TIME_STATUS_QUALIFIED
        ∧ RegsBut [TIME_STATUS, COL_SLOT_STATUS] s t ∧ t.col = { s.col with resumeAt :=
          if (t.bit TIME_STATUS TIME_STATUS_QUALIFIED && !s.bit TIME_STATUS TIME_STATUS_QUALIFIED) = true then
            (s.now / 20000 + 1) * 20000 else s.col.resumeAt } :)
  ∧ (∀ (s : State), s.bit TIME_STATUS TIME_STATUS_SET = true → 2 ≤ s.timeState →
      s.errorBound = min 0xFFFF_FFFE (s.time.errs.foldl max 0 + s.gf TIME_CFG TIME_CFG_PPS_UNC
        + (max 1 (s.gf TIME_CFG TIME_CFG_HOLD_PPB) * (s.clock - s.time.lastAccept.getD 0) * 64 + 9999999999) / 10000000000) :)
  ∧ (∀ (s : State), s.bit TIME_CTL TIME_CTL_PPSOUT_EN = true → s.bit TIME_STATUS TIME_STATUS_QUALIFIED = true →
    s.now % 1000000000 = 0 →
    Does (.ppsOut) s [.time, .pins] fun t =>
      t.pins = { s.pins with ppsOut := true }
        ∧ t.time = { s.time with pulseEnd := some (s.clock + max 1 (s.gf TIME_CTL TIME_CTL_PPSOUT_WIDTH) * 156250) } :)
  ∧ (∀ (s : State), (s.bit TIME_CTL TIME_CTL_PPSOUT_EN = false ∨ s.bit TIME_STATUS TIME_STATUS_QUALIFIED = false) →
    Does (.ppsOut) s [] fun _ => True :)
  ∧ (∀ (s : State) (e : Nat), s.time.pulseEnd = some e → e ≤ s.clock →
    Does (.ppsOutEnd) s [.time, .pins] fun t =>
      t.pins = { s.pins with ppsOut := false } ∧ t.time = { s.time with pulseEnd := none } :)
  ∧ (∀ (s : State) (e : Nat), s.time.pulseEnd = some e → s.clock < e → Does (.ppsOutEnd) s [] fun _ => True :)
  ∧ (∀ (s : State) (q : Requester), Does (.timeNowRead q) s [.answer32, .time] fun t =>
      t.answer32 = leBytes 4 (s.now % 2 ^ 32) ∧ t.time = { s.time with latchHi := BitVec.ofNat 32 (s.now / 2 ^ 32) } :)
  ∧ (∀ (s : State) (q : Requester) (v : W32), coreWrites q = true → s.timeState ≠ 2 →
    bitAt v.toNat 29 = s.bit TIME_CTL TIME_CTL_PPS_EN →
    Does (.arm q v) s [.regs] fun t =>
      t.bit TIME_CTL TIME_CTL_ARM = true ∧ t.gf TIME_CTL TIME_CTL_PPSOUT_EN = bitsOf v.toNat 30 1
        ∧ t.gf TIME_CTL TIME_CTL_PPSOUT_WIDTH = bitsOf v.toNat 16 8 ∧ RegsBut [TIME_CTL] s t :)
  ∧ (∀ (s : State) (q : Requester) (v : W32), coreWrites q = true → s.timeState = 2 →
    bitAt v.toNat 29 = s.bit TIME_CTL TIME_CTL_PPS_EN →
    Does (.arm q v) s [.regs] fun t => t.bit TIME_CTL TIME_CTL_ARM = s.bit TIME_CTL TIME_CTL_ARM ∧ RegsBut [TIME_CTL] s t :)
  ∧ (∀ (s : State) (q : Requester) (v : W32), coreWrites q = true → s.bit TIME_CTL TIME_CTL_PPS_EN = false →
    Does (.ppsEnSet q v) s [.regs, .time] fun t =>
      t.bit TIME_CTL TIME_CTL_PPS_EN = true ∧ t.timeState = 1 ∧ t.time = { s.time with good := 0, rejRun := 0 }
        ∧ RegsBut [TIME_CTL, TIME_STATUS, COL_SLOT_STATUS] s t :)
  ∧ (∀ (s : State) (q : Requester) (v : W32), coreWrites q = true → s.bit TIME_CTL TIME_CTL_PPS_EN = true →
    Does (.ppsEnClear q v) s [.regs, .time] fun t =>
      t.bit TIME_CTL TIME_CTL_PPS_EN = false ∧ t.timeState = 0 ∧ t.bit TIME_STATUS TIME_STATUS_QUALIFIED = false
        ∧ t.time = { s.time with incr := incrOf s.time.freq8, good := 0, rejRun := 0 }
        ∧ RegsBut [TIME_CTL, TIME_STATUS, COL_SLOT_STATUS] s t :)

/-- R251, R252, R255, R256, R258, R260, R261: gate lists, shapers, policers and the Syncen operations of the time unit. Payload layouts are the model's (log entry 10). -/
def Obligations.GatesShapersAndTimeRequests : Prop :=
  (∀ (s : State) (q : Requester) (v : W32) (p a n : Nat) (es : List GateEntry), coreWrites q = true →
    p = bitsOf v.toNat 16 5 → n = v.toNat % 512 → a = s.gf TG_ADMIN_BASE TG_ADMIN_BASE_BASE * 64 → s.gatePending p = none →
    s.readGates a n = es → s.gateCheck p n (inHbm a (8 * n)) es = none →
    s.unmarked a (8 * n) →
    Does (.tgCommit q v) s [.regs, .hbm, .time] fun t =>
      t.gatePending p = some ⟨es, (takeover (s.rd64 TG_ADMIN_BASETIME) (gateCycle es) (s.now + 2000)).1⟩
        ∧ t.gateActive p = s.gateActive p ∧ t.gf (TG_PORT_STATUS p) TG_PORT_STATUS_PENDING = 1
        ∧ t.gf TG_CTL TG_CTL_REFUSAL = 0
        ∧ (t.rd TG_LATE).toNat = (s.rd TG_LATE).toNat ||| (if s.rd64 TG_ADMIN_BASETIME < s.now + 2000 then 2 ^ p else 0)
        ∧ RegsBut [TG_ADMIN_CTL, TG_PORT_STATUS p, TG_LATE, TG_CTL] s t :)
  ∧ (∀ (base cycle limit : Nat), 0 < cycle →
      limit ≤ (takeover base cycle limit).1
        ∧ (base < limit → (takeover base cycle limit).1 < limit + cycle ∧ base < (takeover base cycle limit).1)
        ∧ ((takeover base cycle limit).1 - base) % cycle = 0 ∧ base ≤ (takeover base cycle limit).1 :)
  ∧ (∀ (s : State) (q : Requester) (v : W32) (p a n c : Nat), coreWrites q = true →
    p = bitsOf v.toNat 16 5 → n = v.toNat % 512 → a = s.gf TG_ADMIN_BASE TG_ADMIN_BASE_BASE * 64 → s.gatePending p = none →
    s.gateCheck p n (inHbm a (8 * n)) (s.readGates a n) = some c →
    s.unmarked a (8 * n) →
    Does (.tgCommit q v) s [.regs, .hbm] fun t =>
      t.gf TG_CTL TG_CTL_REFUSAL = c ∧ (c = 0x06A0 ∨ c = 0x06A1) ∧ RegsBut [TG_ADMIN_CTL, TG_CTL] s t :)
  ∧ (∀ (s : State) (q : Requester) (v : W32), coreWrites q = true → (s.gatePending (bitsOf v.toNat 16 5)).isSome = true →
    Does (.tgCommit q v) s [.regs] fun t => RegsBut [TG_ADMIN_CTL] s t :)
  ∧ (∀ (s : State) (q : Requester) (v : W32), coreWrites q = true →
    Does (.tgCancel q v) s [.regs, .time] fun t =>
      t.gatePending (bitsOf v.toNat 16 5) = none
        ∧ t.gf (TG_PORT_STATUS (bitsOf v.toNat 16 5)) TG_PORT_STATUS_PENDING = 0
        ∧ t.gateActive (bitsOf v.toNat 16 5) = s.gateActive (bitsOf v.toNat 16 5)
        ∧ RegsBut [TG_ADMIN_CTL, TG_PORT_STATUS (bitsOf v.toNat 16 5)] s t :)
  ∧ (∀ (s : State) (p : Fin 32) (g : GateList), s.gatePending p = some g → g.t ≤ s.now →
    Does (.gateListTakeover p) s [.regs, .time] fun t =>
      t.gateActive p = some g ∧ t.gatePending p = none ∧ t.gf (TG_PORT_STATUS p) TG_PORT_STATUS_PENDING = 0
        ∧ t.gf (TG_PORT_STATUS p) TG_PORT_STATUS_ACTIVE_VALID = 1
        ∧ t.time.shapers = s.time.shapers ∧ t.time.acc = s.time.acc ∧ RegsBut [TG_PORT_STATUS p] s t :)
  ∧ (∀ (s : State) (p : Fin 32), s.gatePending p = none → Does (.gateListTakeover p) s [] fun _ => True :)
  ∧ (∀ (s : State) (p : Fin 32) (g : GateList), s.gateActive p = some g → 0 < gateCycle g.entries → g.entries.length ≤ 256 →
    (∀ e ∈ g.entries, e.gates < 256) →
    Does (.gateEntryChange p) s [.regs] fun t =>
      t.gf (TG_PORT_STATUS p) TG_PORT_STATUS_ACTIVE_VALID = 1
        ∧ (t.gf (TG_PORT_STATUS p) TG_PORT_STATUS_ENTRY, t.gf (TG_PORT_STATUS p) TG_PORT_STATUS_GATES)
          = gateAt g.entries ((s.now - g.t) % gateCycle g.entries) 0
        ∧ RegsBut [TG_PORT_STATUS p] s t :)
  ∧ (∀ (s : State) (q : Requester) (v : W32) (pol : Bool) (ix : Nat) (c : BucketCfg), coreWrites q = true →
    pol = bitAt v.toNat 30 → ix = v.toNat % 4096 → c = ⟨s.bit TG_SHP_CTL TG_SHP_CTL_EN, s.gf TG_SHP_RATE TG_SHP_RATE_RATE,
      s.gf TG_SHP_RATE TG_SHP_RATE_BURST, s.gf TG_SHP_CTL TG_SHP_CTL_PERIOD, s.gf TG_SHP_CTL TG_SHP_CTL_ACTION,
      s.gf TG_SHP_CTL TG_SHP_CTL_EXCEED_TC⟩ → c.period ≤ 20 → c.burst ≠ 0 → (pol = true → ix ≤ 1023) →
    Does (.apply q v) s [.regs, .time] fun t =>
      t.bucket pol ix = (s.bucket pol ix).apply c s.now ∧ t.gf TG_CTL TG_CTL_REFUSAL = 0
        ∧ RegsBut [TG_SHP_SEL, TG_CTL] s t :)
  ∧ (∀ (s : State) (q : Requester) (v : W32), coreWrites q = true →
    ((bitAt v.toNat 30 = true ∧ 1023 < v.toNat % 4096) ∨ 20 < s.gf TG_SHP_CTL TG_SHP_CTL_PERIOD
      ∨ s.gf TG_SHP_RATE TG_SHP_RATE_BURST = 0) →
    Does (.apply q v) s [.regs] fun t => t.gf TG_CTL TG_CTL_REFUSAL = 0x06A2 ∧ RegsBut [TG_SHP_SEL, TG_CTL] s t :)
  ∧ (∀ (s : State) (pol : Bool) (ix : BitVec 12) (b : Bucket), s.bucket pol ix.toNat = b → b.cfg.en = true → b.next = none →
    s.now / (2 ^ b.cfg.period * 100) ≠ b.lastAt / (2 ^ b.cfg.period * 100) →
    Does (.refill pol ix) s [.time] fun t =>
      t.bucket pol ix.toNat = { b with tokens := min b.cfg.burst (b.tokens + b.cfg.rate), lastAt := s.now } :)
  ∧ (∀ (s : State) (pol : Bool) (ix : BitVec 12) (b : Bucket) (c : BucketCfg), s.bucket pol ix.toNat = b → b.next = some c →
    s.now / (2 ^ b.cfg.period * 100) ≠ b.lastAt / (2 ^ b.cfg.period * 100) →
    Does (.refill pol ix) s [.time] fun t =>
      t.bucket pol ix.toNat = ⟨c, if c.en = false then 0 else if b.cfg.en = false then c.burst
        else min c.burst (b.tokens + c.rate), none, s.now⟩ :)
  ∧ (∀ (s : State) (pol : Bool) (ix : BitVec 12) (b : Bucket), s.bucket pol ix.toNat = b →
    s.now / (2 ^ b.cfg.period * 100) = b.lastAt / (2 ^ b.cfg.period * 100) →
    Does (.refill pol ix) s [] fun _ => True :)
  ∧ (∀ (s : State) (r : SynReq) (sec : W64) (d : Int) (u h : Nat), s.synRefusal 0x0A00 domTime r = none →
    sec.toNat % 1000000000 = 0 → -32768 ≤ d → d ≤ 32767 → u ≤ 255 → h ≤ 255 → s.timeState ≠ 2 →
    Does (.synTimeSet r sec d u h) s [.regs, .mbx] fun t =>
      Answered 0x0A00 r 0 [] t ∧ t.rd64 TIME_SET = sec.toNat ∧ t.bit TIME_CTL TIME_CTL_ARM = true
        ∧ sext 16 (t.gf TIME_CFG TIME_CFG_PPS_DELAY) = d ∧ t.gf TIME_CFG TIME_CFG_PPS_UNC = u
        ∧ t.gf TIME_CFG TIME_CFG_HOLD_PPB = h ∧ RegsBut [TIME_SET, TIME_SET + 4, TIME_CTL, TIME_CFG] s t :)
  ∧ (∀ (s : State) (r : SynReq) (sec : W64) (d : Int) (u h : Nat), s.synRefusal 0x0A00 domTime r = none →
    sec.toNat % 1000000000 ≠ 0 → Does (.synTimeSet r sec d u h) s [.mbx] fun t => Answered 0x0A00 r 0x0101 [] t :)
  ∧ (∀ (s : State) (r : SynReq) (sec : W64) (d : Int) (u h : Nat), s.synRefusal 0x0A00 domTime r = none →
    sec.toNat % 1000000000 = 0 → -32768 ≤ d → d ≤ 32767 → u ≤ 255 → h ≤ 255 → s.timeState = 2 →
    Does (.synTimeSet r sec d u h) s [.mbx] fun t => Answered 0x0A00 r 0x0201 [] t :)
  ∧ (∀ (s : State) (r : SynReq), s.synRefusal 0x0A01 domTime r = none →
    Does (.synTimeQuery r) s [.mbx] fun t => Answered 0x0A01 r 0 (leBytes 8 s.now ++ leBytes 4 (s.rd TIME_STATUS).toNat
      ++ leBytes 4 (s.rd TIME_PHASE).toNat ++ leBytes 4 s.errorBound ++ leBytes 4 (s.rd TIME_FREQ).toNat) t :)
  ∧ (∀ (s : State) (r : SynReq) (p : Nat) (bt : W64) (gs : List GateSpec) (es : List GateEntry) (T : Nat),
    s.synRefusal 0x0A02 domTime r = none → s.gatePending p = none → es = gs.map (fun e => ⟨e.interval.toNat, e.gates.toNat⟩) →
    s.gateCheck p es.length true es = none → T = (takeover bt.toNat (gateCycle es) (s.now + 2000)).1 →
    Does (.synTgGateLoad r p bt gs) s [.regs, .mbx, .time] fun t =>
      Answered 0x0A02 r 0 (leBytes 8 T ++ leBytes 1 (b2n (decide (bt.toNat < s.now + 2000)))) t
        ∧ t.gatePending p = some ⟨es, T⟩ ∧ t.gateActive p = s.gateActive p
        ∧ t.gf (TG_PORT_STATUS p) TG_PORT_STATUS_PENDING = 1 :)
  ∧ (∀ (s : State) (r : SynReq) (p : Nat) (bt : W64) (gs : List GateSpec), s.synRefusal 0x0A02 domTime r = none →
    (s.gatePending p).isSome = true → Does (.synTgGateLoad r p bt gs) s [.mbx] fun t => Answered 0x0A02 r 0x0201 [] t :)
  ∧ (∀ (s : State) (r : SynReq) (p : Nat) (bt : W64) (gs : List GateSpec) (c : Nat), s.synRefusal 0x0A02 domTime r = none →
    s.gatePending p = none → s.gateCheck p gs.length true (gs.map (fun e => ⟨e.interval.toNat, e.gates.toNat⟩)) = some c →
    Does (.synTgGateLoad r p bt gs) s [.regs, .mbx] fun t =>
      Answered 0x0A02 r c [] t ∧ t.gf TG_CTL TG_CTL_REFUSAL = c ∧ RegsBut [TG_CTL] s t :)
  ∧ (∀ (s : State) (r : SynReq) (p : Fin 32), s.synRefusal 0x0A03 domTime r = none → (s.gatePending p).isSome = true →
    Does (.synTgGateCancel r p) s [.regs, .mbx, .time] fun t =>
      Answered 0x0A03 r 0 [] t ∧ t.gatePending p = none ∧ t.gf (TG_PORT_STATUS p) TG_PORT_STATUS_PENDING = 0
        ∧ t.gateActive p = s.gateActive p ∧ RegsBut [TG_PORT_STATUS p] s t :)
  ∧ (∀ (s : State) (r : SynReq) (p : Fin 32), s.synRefusal 0x0A03 domTime r = none → s.gatePending p = none →
    Does (.synTgGateCancel r p) s [.mbx] fun t => Answered 0x0A03 r 0x0202 [] t :)
  ∧ (∀ (s : State) (r : SynReq) (ix : Nat) (en : Bool) (rate burst : W16) (per k : Nat), s.synRefusal 0x0A04 domTime r = none →
    ix ≤ 4095 → per ≤ 20 → burst ≠ 0 →
    k = 2 ^ ((s.bucket false ix).apply ⟨en, rate.toNat, burst.toNat, per, 0, 0⟩ s.now).cfg.period * 100 →
    Does (.synTgShaperSet r ix en rate burst per) s [.regs, .mbx, .time] fun t =>
      Answered 0x0A04 r 0 (leBytes 8 ((s.now / k + 1) * k)) t
        ∧ t.bucket false ix = (s.bucket false ix).apply ⟨en, rate.toNat, burst.toNat, per, 0, 0⟩ s.now
        ∧ t.gf TG_CTL TG_CTL_REFUSAL = 0 ∧ RegsBut [TG_CTL] s t :)
  ∧ (∀ (s : State) (r : SynReq) (ix : Nat) (en : Bool) (rate burst : W16) (per : Nat), s.synRefusal 0x0A04 domTime r = none →
    (20 < per ∨ burst = 0) →
    Does (.synTgShaperSet r ix en rate burst per) s [.regs, .mbx] fun t =>
      Answered 0x0A04 r 0x06A2 [] t ∧ t.gf TG_CTL TG_CTL_REFUSAL = 0x06A2 ∧ RegsBut [TG_CTL] s t :)
  ∧ (∀ (s : State) (r : SynReq) (ix : Nat) (en : Bool) (rate burst : W16) (per k : Nat) (a : Bool) (tc : BitVec 3),
    s.synRefusal 0x0A05 domTime r = none → ix ≤ 1023 → per ≤ 20 → burst ≠ 0 →
    k = 2 ^ ((s.bucket true ix).apply ⟨en, rate.toNat, burst.toNat, per, b2n a, tc.toNat⟩ s.now).cfg.period * 100 →
    Does (.synTgPolicerSet r ix en rate burst per a tc) s [.regs, .mbx, .time] fun t =>
      Answered 0x0A05 r 0 (leBytes 8 ((s.now / k + 1) * k)) t
        ∧ t.bucket true ix = (s.bucket true ix).apply ⟨en, rate.toNat, burst.toNat, per, b2n a, tc.toNat⟩ s.now
        ∧ t.gf TG_CTL TG_CTL_REFUSAL = 0 ∧ RegsBut [TG_CTL] s t :)
  ∧ (∀ (s : State) (r : SynReq) (ix : Nat) (en : Bool) (rate burst : W16) (per : Nat) (a : Bool) (tc : BitVec 3),
    s.synRefusal 0x0A05 domTime r = none → (1023 < ix ∨ 20 < per ∨ burst = 0) →
    Does (.synTgPolicerSet r ix en rate burst per a tc) s [.regs, .mbx] fun t =>
      Answered 0x0A05 r 0x06A2 [] t ∧ t.gf TG_CTL TG_CTL_REFUSAL = 0x06A2 ∧ RegsBut [TG_CTL] s t :)
  ∧ (∀ (s : State) (r : SynReq) (p : Fin 32), s.synRefusal 0x0A06 domTime r = none →
    Does (.synTgQuery r (.port p)) s [.mbx] fun t => Answered 0x0A06 r 0 (leBytes 4 (s.rd (TG_PORT_STATUS p)).toNat
      ++ leBytes 8 (s.rd64 TG_LATE) ++ leBytes 4 (s.rd TG_POL_EXCEED).toNat) t :)
  ∧ (∀ (s : State) (r : SynReq) (i : Fin 4096), s.synRefusal 0x0A06 domTime r = none →
    Does (.synTgQuery r (.shaper i)) s [.mbx] fun t => Answered 0x0A06 r 0 (leBytes 4 (s.bucket false i).tokens
      ++ leBytes 8 (s.rd64 TG_LATE) ++ leBytes 4 (s.rd TG_POL_EXCEED).toNat) t :)
  ∧ (∀ (s : State) (r : SynReq) (i : Fin 1024), s.synRefusal 0x0A06 domTime r = none →
    Does (.synTgQuery r (.policer i)) s [.mbx] fun t => Answered 0x0A06 r 0 (leBytes 4 (s.bucket true i).tokens
      ++ leBytes 8 (s.rd64 TG_LATE) ++ leBytes 4 (s.rd TG_POL_EXCEED).toNat) t :)
  ∧ (∀ (b : Bucket) (c : BucketCfg) (now : Nat), now / (2 ^ b.cfg.period * 100) = b.lastAt / (2 ^ b.cfg.period * 100) →
      b.apply c now = { b with next := some c, lastAt := now } :)
  ∧ (∀ (b : Bucket) (c d : BucketCfg) (now : Nat), now / (2 ^ b.cfg.period * 100) ≠ b.lastAt / (2 ^ b.cfg.period * 100) →
      b.next = some d →
      b.apply c now = ⟨d, if d.en = false then 0 else if b.cfg.en = false then d.burst else min d.burst (b.tokens + d.rate),
        some c, now⟩ :)

/-- R262, R266 to R277: received frames, fragments, and frames on transmit channels. -/
def Obligations.PacketFramesPassTheStages : Prop :=
  (∀ (s : State) (p : Fin 8) (frame : List Byte), (s.portLive p = false ∨ s.isEth p = false) →
    Does (.ethernetFrameReceive p frame) s [] fun _ => True :)
  ∧ (∀ (s : State) (p : Fin 8) (frame : List Byte), s.portLive p = true → s.isEth p = true →
    (checkCrc frame = none ∨ frame.length < 64 ∨ 9216 < frame.length) →
    Does (.ethernetFrameReceive p frame) s [.regs] fun t =>
      t.gf (FAB_PORT_DISCARD p) FAB_PORT_DISCARD_FRAME
        = min (2 ^ 16 - 1) (s.gf (FAB_PORT_DISCARD p) FAB_PORT_DISCARD_FRAME + 1) ∧ RegsBut [FAB_PORT_DISCARD p] s t :)
  ∧ (∀ (s : State) (p : Fin 8) (frame f : List Byte), checkCrc frame = some f → 64 ≤ frame.length → frame.length ≤ 9216 →
    frameBE f 12 2 ≠ 0x8808 → s.pktEn = false →
    Does (.ethernetFrameReceive p frame) s [] fun _ => True :)
  ∧ (∀ (s : State) (p : Fin 8) (frame f : List Byte), s.ethHere p frame f → s.bit (PKT_MSEC_CTL p) PKT_MSEC_CTL_EN = true →
    2 ≤ s.gf (PKT_MSEC_CTL p) PKT_MSEC_CTL_VALIDATE → frameBE f 12 2 ≠ 0x88E5 → frameBE f 12 2 ≠ 0x888E →
    Does (.ethernetFrameReceive p frame) s [.regs] fun t =>
      t.gf (PKT_MSEC_DISCARD p) PKT_MSEC_DISCARD_OTHER
        = min (2 ^ 16 - 1) (s.gf (PKT_MSEC_DISCARD p) PKT_MSEC_DISCARD_OTHER + 1) ∧ RegsBut [PKT_MSEC_DISCARD p] s t :)
  ∧ (∀ (s : State) (p : Fin 8) (frame f : List Byte) (fr : PktFrame) (b : PktBank) (ws : List Nat), s.ethHere p frame f →
    s.ethPlain p f fr → s.bankAt s.activeBank = some b → fragmentOf b.head (parse b f) fr = none → s.collects b fr ws = true →
    (outcomeOf b.head ws).words = [] → (outcomeOf b.head ws).police = none → (outcomeOf b.head ws).counts = [] →
    awLayer (outcomeOf b.head ws).dest = 0 →
    Does (.ethernetFrameReceive p frame) s (Part.storing ++ [.fport]) fun t =>
      t.mem = s.mem ∧ t.gf PKT_EVENTS2 PKT_EVENTS2_PARSE_EXC
        = min (2 ^ 12 - 1) (s.gf PKT_EVENTS2 PKT_EVENTS2_PARSE_EXC + b2n (parse b f).exc) :)
  ∧ (∀ (s : State) (p : Fin 8) (frame f : List Byte) (fr : PktFrame) (b : PktBank) (ws : List Nat) (i a : Nat),
    s.ethHere p frame f → s.ethPlain p f fr → s.bankAt s.activeBank = some b → fragmentOf b.head (parse b f) fr = none →
    s.collects b fr ws = true → (outcomeOf b.head ws).words = [] → (outcomeOf b.head ws).police = none →
    (outcomeOf b.head ws).counts = [i] → awLayer (outcomeOf b.head ws).dest = 0 →
    a = s.gf PKT_CNT_BASE PKT_CNT_BASE_BASE * 2 ^ 20 + i * 16 → s.bit CKP_CTL CKP_CTL_EN = false → inHbm a 16 = true →
    Does (.ethernetFrameReceive p frame) s (Part.storing ++ [.fport]) fun t =>
      t.le a 8 = (s.le a 8 + 1) % 2 ^ 64 ∧ t.le (a + 8) 8 = (s.le (a + 8) 8 + frame.length) % 2 ^ 64
        ∧ BytesBut 16 [a] s t :)
  ∧ (∀ (s : State) (p : Fin 8) (frame f : List Byte) (fr : PktFrame) (b : PktBank) (ws : List Nat) (d : Nat),
    s.ethHere p frame f → s.ethPlain p f fr → s.bankAt s.activeBank = some b → fragmentOf b.head (parse b f) fr = none →
    s.collects b fr ws = true → (outcomeOf b.head ws).words = [] → (outcomeOf b.head ws).police = none →
    (outcomeOf b.head ws).counts = [] → (outcomeOf b.head ws).dest = d → awLayer d = 1 →
    s.rxQueueOf (bitsOf d 16 11) (bitsOf d 32 16) = none →
    Does (.ethernetFrameReceive p frame) s (Part.storing ++ [.fport]) fun t =>
      t.gf PKT_EVENTS PKT_EVENTS_QUEUE_DROP = min (2 ^ 16 - 1) (s.gf PKT_EVENTS PKT_EVENTS_QUEUE_DROP + 1) :)
  ∧ (∀ (s : State) (p : Fin 8) (frame f : List Byte) (fr : PktFrame) (b : PktBank) (ws : List Nat) (d n : Nat) (q : IQueue),
    s.ethHere p frame f → s.ethPlain p f fr → s.bankAt s.activeBank = some b → fragmentOf b.head (parse b f) fr = none →
    s.collects b fr ws = true → (outcomeOf b.head ws).words = [] → (outcomeOf b.head ws).police = none →
    (outcomeOf b.head ws).dest = d → awLayer d = 1 →
    s.rxQueueOf (bitsOf d 16 11) (bitsOf d 32 16) = some n → s.iqAt (qkey .receive n) = some q → s.iqFetches q = true →
    f.length ≤ q.buflen → 0 < q.posted → s.hostUp = true → s.blockDown 18 = false → s.pkt.held = [] →
    Does (.ethernetFrameReceive p frame) s (Part.storing ++ [.fport, .pkt, .inst, .iq]) fun t =>
      t.pkt = s.pkt ∧ (t.iqAt (qkey .receive n)).map (fun x => x.head) = some ((q.head + 1) % 2 ^ 16) :)
  ∧ (∀ (s : State) (p : Fin 8) (frame f : List Byte) (fr : PktFrame) (b : PktBank) (ws : List Nat) (d n : Nat) (q : IQueue),
    s.ethHere p frame f → s.ethPlain p f fr → s.bankAt s.activeBank = some b → fragmentOf b.head (parse b f) fr = none →
    s.collects b fr ws = true → (outcomeOf b.head ws).words = [] → (outcomeOf b.head ws).police = none →
    (outcomeOf b.head ws).dest = d → awLayer d = 1 →
    s.rxQueueOf (bitsOf d 16 11) (bitsOf d 32 16) = some n → s.iqAt (qkey .receive n) = some q → s.iqFetches q = true →
    f.length ≤ q.buflen → q.posted = 0 → s.blockDown 18 = false →
    Does (.ethernetFrameReceive p frame) s (Part.storing ++ [.fport, .pkt]) fun t =>
      t.pkt = { s.pkt with queue := [{ fr with waiting := some s.clock }] } ∧ t.mem = s.mem :)
  ∧ (∀ (s : State) (p : Fin 8) (frame f : List Byte) (fr : PktFrame) (b : PktBank) (ws : List Nat) (o : Outcome),
    s.ethHere p frame f → s.ethPlain p f fr → s.bankAt s.activeBank = some b → fragmentOf b.head (parse b f) fr = none →
    s.collects b fr ws = true → outcomeOf b.head ws = o → o.words = [] → o.police = none → awLayer o.dest = 2 →
    isRoce b.head (parse b f) f = true →
    Does (.ethernetFrameReceive p frame) s (Part.storing ++ [.fport]) fun t =>
      (o.prio.getD (framePrio f), f, units64 f.length) ∈ (t.fp p).rxq :)
  ∧ (∀ (s : State) (p : Fin 8) (frame f : List Byte) (fr : PktFrame) (b : PktBank) (ws : List Nat) (o : Outcome),
    s.ethHere p frame f → s.ethPlain p f fr → s.bankAt s.activeBank = some b → fragmentOf b.head (parse b f) fr = none →
    s.collects b fr ws = true → outcomeOf b.head ws = o → o.words = [] → o.police = none → awLayer o.dest = 2 →
    isRoce b.head (parse b f) f = false →
    Does (.ethernetFrameReceive p frame) s (Part.storing ++ [.fport]) fun t =>
      t.gf TRN_DISCARD TRN_DISCARD_FRAME = min (2 ^ 16 - 1) (s.gf TRN_DISCARD TRN_DISCARD_FRAME + 1) :)
  ∧ (∀ (s : State) (p : Fin 8) (frame f : List Byte) (fr : PktFrame) (b : PktBank) (x k : Nat),
    s.ethHere p frame f → s.ethPlain p f fr → s.bankAt s.activeBank = some b → fragmentOf b.head (parse b f) fr = none →
    s.missesBucket b fr x k = true →
    Does (.ethernetFrameReceive p frame) s (Part.storing ++ [.fport, .pkt]) fun t =>
      t.pkt = { s.pkt with queue := [fr] } ∧ t.mem = s.mem :)
  ∧ (∀ (s : State) (p : Fin 8) (frame f key : List Byte) (fr : PktFrame) (b : PktBank) (off len : Nat) (more : Bool),
    s.ethHere p frame f → s.ethPlain p f fr → s.bankAt s.activeBank = some b →
    fragmentOf b.head (parse b f) fr = some (key, off, len, more) → off ≠ 0 → s.fragAt key = none → s.pkt.held.length < 1024 →
    s.pkt.held.foldl (fun n x => n + x.2.bytes.length) 0 + f.length ≤ 2097152 →
    Does (.ethernetFrameReceive p frame) s (Part.storing ++ [.fport, .pkt]) fun t =>
      t.pkt = { s.pkt with held := s.pkt.held ++ [(s.clock, { fr with flags := 4 })] } ∧ t.mem = s.mem :)
  ∧ (∀ (s : State) (ch : BitVec 12), s.chanQ.find? (fun x => x.chan == ch.toNat) = none →
    Does (.transmitChannelFrame ch) s [] fun _ => True :)
  ∧ (∀ (s : State) (ch : BitVec 12) (x : SrcFrame) (rest : List SrcFrame), s.chanQ = x :: rest → x.chan = ch.toNat →
    s.pktEn = true → s.safe = false → (x.record = false ∨ s.leaseLapsed = false) → s.channel ch.toNat = none →
    Does (.transmitChannelFrame ch) s [.regs, .chanQ] fun t =>
      t.chanQ = rest ∧ t.gf PKT_EVENTS PKT_EVENTS_TX_INVALID = min (2 ^ 16 - 1) (s.gf PKT_EVENTS PKT_EVENTS_TX_INVALID + 1)
        ∧ RegsBut [PKT_EVENTS] s t :)
  ∧ (∀ (s : State) (ch : BitVec 12) (x : SrcFrame) (rest : List SrcFrame) (c : List Byte), s.chanQ = x :: rest →
    x.chan = ch.toNat → s.pktEn = true → s.safe = false → (x.record = false ∨ s.leaseLapsed = false) →
    s.channel ch.toNat = some c →
    Does (.transmitChannelFrame ch) s [.pkt, .chanQ] fun t =>
      t.chanQ = rest ∧ t.pkt = { s.pkt with tx := s.pkt.tx ++ [⟨x, wordFd c 0 1 3, wordFd c 0 4 3,
        if wordFd c 0 20 1 = 1 then some (wordFd c 0 8 12) else none, wordFd c 0 20 1 != 1,
        txFixups c ((c.drop 64).take (fieldLE c 4 1) ++ x.bytes)⟩] } :)
  ∧ (∀ (s : State) (ch : BitVec 12), s.pkt.tx = [] → Does (.frameStart ch) s [] fun _ => True :)
  ∧ (∀ (s : State) (ch : BitVec 12) (x : TxFrame) (rest : List TxFrame), s.pkt.tx = x :: rest → x.src.chan = ch.toNat →
    x.token = true → s.portLive x.port = true → s.isEth x.port = true → s.ethMayStart x.port x.prio = true →
    s.gateOpen x.port x.prio s.now ((x.bytes.length + 73) / 50) = true →
    s.mayStartOther x.port ((x.bytes.length + 73) / 50) = true → s.safe = false →
    s.bit (PKT_MSEC_CTL x.port) PKT_MSEC_CTL_PROTECT = false → (x.src.record = false ∨ s.leaseLapsed = false) → x ∉ rest →
    Does (.frameStart ch) s [.out, .pkt] fun t =>
      t.out = s.out ++ [.frame x.port x.prio false (withCrc x.bytes)] ∧ t.pkt = { s.pkt with tx := rest } :)
  ∧ (∀ (s : State) (ch : BitVec 12) (x : TxFrame) (rest : List TxFrame) (i : Nat), s.pkt.tx = x :: rest →
    x.src.chan = ch.toNat → x.token = false → x.shaper = some i → (s.bucket false i).cfg.en = true →
    (s.bucket false i).tokens = 0 →
    Does (.frameStart ch) s [] fun t => t.bucket false i = s.bucket false i :)
  ∧ (∀ (s : State) (ch : BitVec 12) (x : TxFrame) (rest : List TxFrame) (i : Nat), s.pkt.tx = x :: rest →
    x.src.chan = ch.toNat → x.token = false → x.shaper = some i → (s.bucket false i).cfg.en = true →
    (s.bucket false i).cfg.rate ≠ 0 → (s.bucket false i).tokens ≠ 0 → s.portLive x.port = false → x ∉ rest →
    s.shaperUsers i = [ch.toNat] →
    Does (.frameStart ch) s [.lfsr, .guards, .free, .time, .pkt] fun t =>
      t.bucket false i = { s.bucket false i with tokens := (s.bucket false i).tokens - 1 }
        ∧ t.pkt = { s.pkt with tx := { x with token := true } :: rest } :)
  ∧ (∀ (s : State) (ch : BitVec 12) (x y : TxFrame) (d i : Nat), s.txHead ch.toNat = some x → x.token = false →
    x.shaper = some i → (s.bucket false i).cfg.en = true → (s.bucket false i).cfg.rate ≠ 0 → (s.bucket false i).tokens = 1 →
    s.shaperUsers i = [ch.toNat, d] → d < 4096 → d ≠ ch.toNat → s.txHead d = some y →
    Does (.frameStart ch) s [.lfsr, .guards, .free, .out, .time, .pkt, .regs, .chanQ, .mbx, .inst, .iq, .fport, .host, .hostMem, .pins]
      fun t => (s.drawNow (arbId arbShaper i) 256 [(ch.toNat, 1), (d, 1)]).1 = some d →
        SameBut [.lfsr, .guards, .free, .time, .pkt] s t ∧ t.bucket false i = { s.bucket false i with tokens := 0 }
          ∧ t.pkt = (s.keepTx y { y with token := true }).pkt :)
  ∧ (∀ (s : State) (p pr : Fin 8) (fr : PktFrame) (b : PktBank) (ws : List Nat) (t0 d n : Nat) (q : IQueue),
    s.pkt.queue = [fr] → s.pkt.held = [] → fr.port = p →
    fr.prio = pr → fr.waiting = some t0 → nsCycles (10000 * max 1 (s.gf PKT_CTL PKT_CTL_RXWAIT)) ≤ s.clock - t0 →
    s.bankAt fr.bank = some b → fragmentOf b.head (parse b fr.bytes) fr = none → s.collects b fr ws = true →
    (outcomeOf b.head ws).words = [] → (outcomeOf b.head ws).police = none → (outcomeOf b.head ws).counts = [] →
    (outcomeOf b.head ws).dest = d → awLayer d = 1 → s.rxQueueOf (bitsOf d 16 11) (bitsOf d 32 16) = some n →
    s.iqAt (qkey .receive n) = some q → s.iqFetches q = true → fr.bytes.length ≤ q.buflen → q.posted = 0 →
    s.blockDown 18 = false →
    Does (.rxwaitExpiry p pr) s (Part.storing ++ [.fport, .pkt]) fun t =>
      t.pkt = { s.pkt with queue := [] } ∧ t.mem = s.mem
        ∧ t.gf PKT_EVENTS PKT_EVENTS_QUEUE_DROP = min (2 ^ 16 - 1) (s.gf PKT_EVENTS PKT_EVENTS_QUEUE_DROP + 1) :)
  ∧ (∀ (s : State) (p pr : Fin 8), s.pkt.queue = [] → Does (.rxwaitExpiry p pr) s [] fun _ => True :)
  ∧ (∀ (s : State) (p pr : Fin 8) (fr : PktFrame) (t0 : Nat), s.pkt.queue = [fr] → fr.port = p → fr.prio = pr →
    fr.waiting = some t0 → s.clock - t0 < nsCycles (10000 * max 1 (s.gf PKT_CTL PKT_CTL_RXWAIT)) →
    Does (.rxwaitExpiry p pr) s [] fun _ => True :)
  ∧ (∀ (s : State), Does (.earlyFrag) s [.regs, .pkt] fun t =>
      t.pkt = { s.pkt with held := s.pkt.held.filter (fun x => decide (s.clock - x.1 < 312500)) }
        ∧ t.gf PKT_EVENTS PKT_EVENTS_EARLY_FRAG = min (2 ^ 16 - 1) (s.gf PKT_EVENTS PKT_EVENTS_EARLY_FRAG
          + (s.pkt.held.length - t.pkt.held.length)) ∧ RegsBut [PKT_EVENTS, PKT_EVENTS + 4] s t :)
  ∧ (∀ (s : State), s.pkt.frags.length ≤ 8192 →
    Does (.fragmentIdle) s [.regs, .pkt] fun t =>
      t.pkt = { s.pkt with frags := s.pkt.frags.filter (fun e => decide (s.clock - e.last
          < max 1 (s.gf PKT_FRAG_CTL PKT_FRAG_CTL_IDLE_MS) * 156250)) }
        ∧ t.gf PKT_FRAG_CTL PKT_FRAG_CTL_ENTRIES = t.pkt.frags.length ∧ RegsBut [PKT_FRAG_CTL] s t :)
  ∧ (∀ (s : State) (p pr : Fin 8), s.pkt.queue = [] → Does (.exactEntryFetch p pr) s [] fun _ => True :)
  ∧ (∀ (s : State) (p pr : Fin 8) (fr : PktFrame) (b : PktBank) (x k : Nat) (d : List Byte), s.pkt.queue = [fr] →
    s.pkt.held = [] → fr.port = p → fr.prio = pr → s.bankAt fr.bank = some b → fragmentOf b.head (parse b fr.bytes) fr = none →
    s.missesBucket b fr x k = true → b.tables[x]? = some d → s.pkt.cache.length + 4 ≤ 16384 →
    inHbm (ptBase d + k * 256) 256 = true →
    Does (.exactEntryFetch p pr) s (Part.storing ++ [.fport, .time, .pkt, .inst, .iq]) fun t =>
      t.cachedBucket fr.bank x k = some ((List.range 4).map (fun i => s.exactEntry d k i)) :)

/-- R264, R265, R277, R278, R280, R281: the registers of the pipeline and its Syncen operations. Payload layouts are the model's (log entry 10). -/
def Obligations.PacketRegistersAndRequests : Prop :=
  (∀ (s : State) (q : Requester) (v : W32), coreWrites q = true → s.bit PKT_CTL PKT_CTL_EN = false →
    inHbm (s.gf PKT_CNT_BASE PKT_CNT_BASE_BASE * 2 ^ 20) (2 ^ 20) = true →
    Does (.pktEnSet q v) s [.regs] fun t =>
      t.bit PKT_CTL PKT_CTL_EN = true ∧ t.gf PKT_CTL PKT_CTL_REFUSAL = 0 ∧ t.gf PKT_CTL PKT_CTL_RXWAIT = bitsOf v.toNat 8 8
        ∧ RegsBut [PKT_CTL] s t :)
  ∧ (∀ (s : State) (q : Requester) (v : W32), coreWrites q = true → s.bit PKT_CTL PKT_CTL_EN = false →
    inHbm (s.gf PKT_CNT_BASE PKT_CNT_BASE_BASE * 2 ^ 20) (2 ^ 20) = false →
    Does (.pktEnSet q v) s [.regs] fun t =>
      t.bit PKT_CTL PKT_CTL_EN = false ∧ t.gf PKT_CTL PKT_CTL_REFUSAL = 0x06B0 ∧ RegsBut [PKT_CTL] s t :)
  ∧ (∀ (s : State) (q : Requester) (v : W32), coreWrites q = false → Does (.pktEnSet q v) s [] fun _ => True :)
  ∧ (∀ (s : State) (q : Requester) (v : W32), coreWrites q = true → s.swapPending = false → s.blockDown 13 = false →
    s.bankCheck (s.bankBase (1 - s.activeBank)) = none →
    s.unmarked (s.bankBase (1 - s.activeBank)) (max 64 (s.bankSize (s.bankBase (1 - s.activeBank)))) →
    Does (.swap q v) s [.regs, .hbm, .pkt] fun t =>
      t.pkt = { s.pkt with swap := some (s.readBank (s.bankBase (1 - s.activeBank))) } ∧ t.swapPending = true
        ∧ t.activeBank = s.activeBank ∧ t.gf PKT_CTL PKT_CTL_REFUSAL = 0 ∧ RegsBut [PKT_CTL, PKT_SWAP] s t :)
  ∧ (∀ (s : State) (q : Requester) (v : W32) (c : Nat), coreWrites q = true → s.swapPending = false → s.blockDown 13 = false →
    s.bankCheck (s.bankBase (1 - s.activeBank)) = some c →
    s.unmarked (s.bankBase (1 - s.activeBank)) (max 64 (s.bankSize (s.bankBase (1 - s.activeBank)))) →
    Does (.swap q v) s [.regs, .hbm] fun t =>
      t.gf PKT_CTL PKT_CTL_REFUSAL = c ∧ 0x06B1 ≤ c ∧ c ≤ 0x06B5 ∧ RegsBut [PKT_CTL] s t :)
  ∧ (∀ (s : State) (q : Requester) (v : W32), s.swapPending = true → Does (.swap q v) s [] fun _ => True :)
  ∧ (∀ (s : State) (img : PktBank), s.pkt.swap = some img → s.pkt.banks.length = 2 →
    Does (.swapDone) s [.regs, .pkt] fun t =>
      t.activeBank = 1 - s.activeBank ∧ t.bankAt (1 - s.activeBank) = some img ∧ t.bankAt s.activeBank = s.bankAt s.activeBank
        ∧ t.swapPending = false ∧ t.pkt.swap = none ∧ RegsBut [PKT_SWAP] s t :)
  ∧ (∀ (s : State), s.pkt.swap = none → Does (.swapDone) s [] fun _ => True :)
  ∧ (∀ (s : State) (q : Requester) (v : W32), coreWrites q = true → s.bit PKT_EXACT_INVAL PKT_EXACT_INVAL_BUSY = false →
    bitAt v.toNat 30 = true →
    Does (.pktExactInval q v) s [.regs, .pkt] fun t =>
      t.pkt = { s.pkt with cache := [] } ∧ t.bit PKT_EXACT_INVAL PKT_EXACT_INVAL_BUSY = false ∧ RegsBut [PKT_EXACT_INVAL] s t :)
  ∧ (∀ (s : State) (q : Requester) (v : W32), coreWrites q = true → s.bit PKT_EXACT_INVAL PKT_EXACT_INVAL_BUSY = false →
    bitAt v.toNat 30 = false →
    Does (.pktExactInval q v) s [.regs, .pkt] fun t =>
      t.pkt = { s.pkt with cache := s.pkt.cache.filter (fun e =>
          e.1 != (bitsOf v.toNat 29 1, bitsOf v.toNat 26 3, v.toNat % 2 ^ 23)) } ∧ RegsBut [PKT_EXACT_INVAL] s t :)
  ∧ (∀ (s : State) (q : Requester) (p : Fin 8) (v : W32), coreWrites q = true → s.isEth p = true → bitAt v.toNat 31 = true →
    bitAt v.toNat 30 = true → (s.txSa p).isSome = true → s.bit (PKT_MSEC_CTL p) PKT_MSEC_CTL_PROTECT = false →
    Does (.macsecEnable q p v) s [.regs] fun t =>
      t.bit (PKT_MSEC_CTL p) PKT_MSEC_CTL_EN = true ∧ t.bit (PKT_MSEC_CTL p) PKT_MSEC_CTL_PROTECT = true
        ∧ t.gf (PKT_MSEC_CTL p) PKT_MSEC_CTL_VALIDATE = bitsOf v.toNat 28 2 ∧ t.gf PKT_CTL PKT_CTL_REFUSAL = 0
        ∧ RegsBut [PKT_MSEC_CTL p, PKT_CTL] s t :)
  ∧ (∀ (s : State) (q : Requester) (p : Fin 8) (v : W32), coreWrites q = true → s.isEth p = false → bitAt v.toNat 31 = true →
    s.bit (PKT_MSEC_CTL p) PKT_MSEC_CTL_EN = false → bitAt v.toNat 30 = false →
    Does (.macsecEnable q p v) s [.regs] fun t =>
      t.bit (PKT_MSEC_CTL p) PKT_MSEC_CTL_EN = false ∧ t.gf PKT_CTL PKT_CTL_REFUSAL = 0x06B6
        ∧ RegsBut [PKT_MSEC_CTL p, PKT_CTL] s t :)
  ∧ (∀ (s : State) (r : SynReq) (a : BitVec 52), s.synRefusal 0x0B00 domPkt r = none → s.swapPending = true →
    Does (.synPktBankCommit r a) s [.mbx] fun t => Answered 0x0B00 r 0x0201 [] t :)
  ∧ (∀ (s : State) (r : SynReq) (a : BitVec 52), s.synRefusal 0x0B00 domPkt r = none → s.swapPending = false →
    s.activeBank = 0 → s.pkt.banks.length = 2 → s.bankCheck (a.toNat / 4096 * 4096) = none →
    Does (.synPktBankCommit r a) s (Part.reading ++ [.pkt]) fun t =>
      Answered 0x0B00 r 0 [1] t ∧ t.activeBank = 1 ∧ t.bankAt 1 = some (s.readBank (a.toNat / 4096 * 4096))
        ∧ t.swapPending = false ∧ t.bankAt 0 = s.bankAt 0 :)
  ∧ (∀ (s : State) (r : SynReq) (a : BitVec 52) (c : Nat), s.synRefusal 0x0B00 domPkt r = none → s.swapPending = false →
    s.activeBank = 0 → s.bankCheck (a.toNat / 4096 * 4096) = some c →
    Does (.synPktBankCommit r a) s Part.reading fun t => Answered 0x0B00 r c [] t ∧ t.gf PKT_CTL PKT_CTL_REFUSAL = c :)
  ∧ (∀ (s : State) (r : SynReq) (b : Fin 2) (x : Byte) (key : List Byte) (l : BitVec 12) (d : List Byte) (e k : Nat)
    (img : PktBank), s.synRefusal 0x0B01 domPkt r = none → s.exactTable b x.toNat key = some d → s.bankAt b = some img →
    l.toNat < img.lists.length → k = exactBucket d (fit (ptKeyBytes d) key) →
    (∀ i, i < 4 → fieldLE (s.exactEntry d k i) 32 1 % 2 = 1 → (s.exactEntry d k i).take (ptKeyBytes d) ≠ fit (ptKeyBytes d) key) →
    e < 4 → fieldLE (s.exactEntry d k e) 32 1 % 2 = 0 → (∀ i, i < e → fieldLE (s.exactEntry d k i) 32 1 % 2 = 1) →
    s.bit CKP_CTL CKP_CTL_EN = false → inHbm (ptBase d + (k * 4 + e) * 64) 64 = true →
    Does (.synPktExactSet r b x key l) s (Part.storing ++ [.pkt]) fun t =>
      Answered 0x0B01 r 0 [] t ∧ t.exactEntry d k e
        = fit 64 (fit 32 (fit (ptKeyBytes d) key) ++ [1, 0, 0, 0] ++ leBytes 2 l.toNat)
        ∧ t.pkt = { s.pkt with cache := s.pkt.cache.filter (fun y => y.1 != (b.val, x.toNat, k * 4 + e)) } :)
  ∧ (∀ (s : State) (r : SynReq) (b : Fin 2) (x : Byte) (key : List Byte) (l : BitVec 12), s.synRefusal 0x0B01 domPkt r = none →
    s.exactTable b x.toNat key = none →
    Does (.synPktExactSet r b x key l) s [.mbx] fun t => Answered 0x0B01 r 0x0102 [] t :)
  ∧ (∀ (s : State) (r : SynReq) (b : Fin 2) (x : Byte) (key : List Byte) (l : BitVec 12) (d : List Byte) (k : Nat)
    (img : PktBank), s.synRefusal 0x0B01 domPkt r = none → s.exactTable b x.toNat key = some d → s.bankAt b = some img →
    l.toNat < img.lists.length → k = exactBucket d (fit (ptKeyBytes d) key) →
    (∀ i, i < 4 → fieldLE (s.exactEntry d k i) 32 1 % 2 = 1
      ∧ (s.exactEntry d k i).take (ptKeyBytes d) ≠ fit (ptKeyBytes d) key) →
    Does (.synPktExactSet r b x key l) s [.mbx] fun t => Answered 0x0B01 r 0x0307 [] t :)
  ∧ (∀ (s : State) (r : SynReq) (b : Fin 2) (x : Byte) (key d : List Byte) (k e : Nat), s.synRefusal 0x0B02 domPkt r = none →
    s.exactTable b x.toNat key = some d → k = exactBucket d (fit (ptKeyBytes d) key) → e < 4 →
    fieldLE (s.exactEntry d k e) 32 1 % 2 = 1 →
    (s.exactEntry d k e).take (ptKeyBytes d) = fit (ptKeyBytes d) key →
    (∀ i, i < e → fieldLE (s.exactEntry d k i) 32 1 % 2 = 0) →
    s.bit CKP_CTL CKP_CTL_EN = false → inHbm (ptBase d + (k * 4 + e) * 64) 64 = true →
    Does (.synPktExactDel r b x key) s (Part.storing ++ [.pkt]) fun t =>
      Answered 0x0B02 r 0 [] t ∧ t.exactEntry d k e = List.replicate 64 0
        ∧ t.pkt = { s.pkt with cache := s.pkt.cache.filter (fun y => y.1 != (b.val, x.toNat, k * 4 + e)) } :)
  ∧ (∀ (s : State) (r : SynReq) (b : Fin 2) (x : Byte) (key d : List Byte) (k : Nat), s.synRefusal 0x0B02 domPkt r = none →
    s.exactTable b x.toNat key = some d → k = exactBucket d (fit (ptKeyBytes d) key) →
    (∀ i, i < 4 → fieldLE (s.exactEntry d k i) 32 1 % 2 = 0) →
    Does (.synPktExactDel r b x key) s [.mbx] fun t => Answered 0x0B02 r 0x0103 [] t :)
  ∧ (∀ (s : State) (r : SynReq) (f : W16) (n : Fin 257), s.synRefusal 0x0B03 domPkt r = none → f.toNat + n.val ≤ 65536 →
    Does (.synPktCounterRead r f n) s [.mbx] fun t =>
      Answered 0x0B03 r 0 (s.bytes (s.gf PKT_CNT_BASE PKT_CNT_BASE_BASE * 2 ^ 20 + f.toNat * 16) (16 * n.val)) t :)
  ∧ (∀ (s : State) (r : SynReq) (m : MsecSpec), s.synRefusal 0x0B04 domPkt r = none →
    s.slotUsable m.slot.toNat 3 ownerInternal = true → m.tx = true →
    Does (.synPktMacsecSaSet r m) s [.mbx, .pkt] fun t =>
      Answered 0x0B04 r 0 [] t ∧ (t.msecOf m.port).sci = m.sci.toNat ∧ (t.msecOf m.port).rx = (s.msecOf m.port).rx
        ∧ (t.msecOf m.port).tx.find? (fun e => e.1 == m.an.val)
          = some (m.an.val, ⟨m.slot.toNat, m.ssci.toNat, fit 12 m.salt, m.pn.toNat, m.pn.toNat⟩) :)
  ∧ (∀ (s : State) (r : SynReq) (m : MsecSpec), s.synRefusal 0x0B04 domPkt r = none →
    s.slotUsable m.slot.toNat 3 ownerInternal = true → m.tx = false →
    ((s.msecOf m.port).rx.map (·.1)).eraseDups.length < 32 →
    Does (.synPktMacsecSaSet r m) s [.mbx, .pkt] fun t =>
      Answered 0x0B04 r 0 [] t ∧ (t.msecOf m.port).tx = (s.msecOf m.port).tx
        ∧ (t.msecOf m.port).rx.find? (fun e => e.1 == m.sci.toNat && e.2.1 == m.an.val) = some (m.sci.toNat, m.an.val,
          ⟨m.slot.toNat, m.ssci.toNat, fit 12 m.salt, m.pn.toNat, m.pn.toNat⟩) :)
  ∧ (∀ (s : State) (r : SynReq) (m : MsecSpec), s.synRefusal 0x0B04 domPkt r = none →
    s.slotUsable m.slot.toNat 3 ownerInternal = false →
    Does (.synPktMacsecSaSet r m) s [.mbx] fun t => Answered 0x0B04 r 0x0401 [] t :)
  ∧ (∀ (s : State) (r : SynReq) (m : MsecSpec), s.synRefusal 0x0B04 domPkt r = none →
    s.slotUsable m.slot.toNat 3 ownerInternal = true → m.tx = false →
    32 ≤ ((s.msecOf m.port).rx.map (·.1)).eraseDups.length → m.sci.toNat ∉ (s.msecOf m.port).rx.map (·.1) →
    Does (.synPktMacsecSaSet r m) s [.mbx] fun t => Answered 0x0B04 r 0x0308 [] t :)
  ∧ (∀ (s : State) (r : SynReq) (p : Fin 8), s.synRefusal 0x0B05 domPkt r = none →
    (s.msecOf p).tx.any (fun e => e.1 == (s.txAnOf p + 1) % 4) = true →
    Does (.synPktMacsecTxSwitch r p) s [.regs, .mbx] fun t =>
      Answered 0x0B05 r 0 [] t ∧ t.txAnOf p = (s.txAnOf p + 1) % 4 ∧ t.bit (PKT_MSEC_CTL p) PKT_MSEC_CTL_EXHAUSTED = false
        ∧ RegsBut [PKT_MSEC_CTL p] s t :)
  ∧ (∀ (s : State) (r : SynReq) (p : Fin 8), s.synRefusal 0x0B05 domPkt r = none →
    (s.msecOf p).tx.any (fun e => e.1 == (s.txAnOf p + 1) % 4) = false →
    Does (.synPktMacsecTxSwitch r p) s [.mbx] fun t => Answered 0x0B05 r 0x0209 [] t :)
  ∧ (∀ (s : State) (r : SynReq), s.synRefusal 0x0B06 domPkt r = none →
    Does (.synPktQuery r) s [.mbx] fun t =>
      Answered 0x0B06 r 0 (leBytes 4 (s.rd PKT_SWAP).toNat ++ leBytes 4 (s.rd PKT_FRAG_CTL).toNat ++ leBytes 8 (s.rd64 PKT_EVENTS)
        ++ leBytes 4 (s.rd PKT_EVENTS2).toNat
        ++ (List.range 8).flatMap (fun p => leBytes 4 (s.rd (PKT_MSEC_CTL p)).toNat)) t :)

/-- R284 to R290, R296, R297: doorbells, fetched commands, range locks, backings and completions. Payload layouts are the model's (log entry 10). -/
def Obligations.StorageCommandsRun : Prop :=
  (∀ (s : State) (i : Fin 2048) (ix : Fin 64) (v : W32) (n : Nat) (q : StoQ), s.pageOpen i = true → s.stoQAt i ix = some (n, q) →
    (v.toNat % 2 ^ 16 + 2 ^ 16 - q.head) % 2 ^ 16 ≤ 2 ^ q.log2n →
    Does (.submissionDoorbell i ix v) s [.sto] fun t => t.stoQ n = some { q with tail := v.toNat % 2 ^ 16 } ∧ t.sto.cmds = s.sto.cmds :)
  ∧ (∀ (s : State) (i : Fin 2048) (ix : Fin 64) (v : W32) (n : Nat) (q : StoQ), s.pageOpen i = true → s.stoQAt i ix = some (n, q) →
    s.stoQ n = some q → q.state = .active → 2 ^ q.log2n < (v.toNat % 2 ^ 16 + 2 ^ 16 - q.head) % 2 ^ 16 →
    Does (.submissionDoorbell i ix v) s [.regs, .hostMem, .out, .mbx, .sto, .host, .inst] fun t =>
      t.stoQ n = some { q with
        state := .frozen, errSeq := (q.errSeq + 1) % 2 ^ 32
        errs := (q.errs ++ [(⟨q.errSeq, 0xFFFF, 2, 0, 0, 0, 0, 0, s.now⟩ : StoErr)]).drop (q.errs.length + 1 - 8) }
        ∧ t.gf STO_EVENTS STO_EVENTS_FREEZES = min (2 ^ 16 - 1) (s.gf STO_EVENTS STO_EVENTS_FREEZES + 1) :)
  ∧ (∀ (s : State) (i : Fin 2048) (ix : Fin 64) (v : W32), s.pageOpen i = true → s.stoQAt i ix = none →
    Does (.submissionDoorbell i ix v) s [.inst] fun t =>
      t.instOf i = { s.instOf i with stray := min 15 ((s.instOf i).stray + 1) } :)
  ∧ (∀ (s : State) (i : Fin 2048) (ix : Fin 64) (v : W32), s.pageOpen i = false →
    Does (.submissionDoorbell i ix v) s [] fun _ => True :)
  ∧ (∀ (s : State) (i : Fin 2048) (ix : Fin 64) (v : W32) (n : Nat) (q : StoQ), s.pageOpen i = true → s.stoQAt i ix = some (n, q) →
    Does (.completionDoorbell i ix v) s [.sto] fun t => t.stoQ n = some { q with cqHead := v.toNat % 2 ^ 16 } ∧ t.sto.cmds = s.sto.cmds :)
  ∧ (∀ (s : State) (i : Fin 2048) (ix : Fin 64) (v : W32), s.pageOpen i = false →
    Does (.completionDoorbell i ix v) s [] fun _ => True :)
  ∧ (∀ (s s1 : State) (gap n : Nat) (q : StoQ) (e : List Byte) (o : DmaOut), s.stoEn = true → s.hostUp = true →
    s.locksHeld < 4096 → o = .ok →
    s.sto.queues.filter (fun e => s.stoEligible e.1 e.2) ≠ [] →
    s.draw (arbId 7 0) 256 gap ((s.sto.queues.filter (fun e => s.stoEligible e.1 e.2)).map (fun e => (e.1, e.2.tickets)))
      = (some n, s1) → s.stoQ n = some q →
    s.hostBytes (s.instPasid q.inst) (q.sq + q.head % 2 ^ q.log2n * 64) 64 = e → stoEntryStatus e = 0 → fieldLE e 0 1 ≠ 0 →
    Does (.commandFetch gap o) s [.regs, .lfsr, .guards, .sto] fun t =>
      t.stoQ n = some { q with head := (q.head + 1) % 2 ^ 16 }
        ∧ t.sto.cmds = s.sto.cmds ++ [⟨s.sto.nextCmd, n, q.inst, (s.instOf q.inst).gen, (q.head + 1) % 2 ^ 16, fieldLE e 2 2,
          fieldLE e 0 1, bitAt (fieldLE e 1 1) 0, bitAt (fieldLE e 1 1) 1, wordFd e 1 0 10, fieldLE e 8 8, fieldLE e 16 4,
          fieldLE e 24 8, wordFd e 8 0 9, true, .waiting, 0, 0, 0, [], [], [], false, 0, false, none⟩]
        ∧ t.sto.nextCmd = s.sto.nextCmd + 1 :)
  ∧ (∀ (s s1 : State) (gap n : Nat) (q : StoQ) (e : List Byte) (o : DmaOut), s.stoEn = true → s.hostUp = true →
    s.locksHeld < 4096 → o = .ok → s.sto.queues.filter (fun e => s.stoEligible e.1 e.2) ≠ [] →
    s.draw (arbId 7 0) 256 gap ((s.sto.queues.filter (fun e => s.stoEligible e.1 e.2)).map (fun e => (e.1, e.2.tickets)))
      = (some n, s1) → s.stoQ n = some q → q.state = .active → q.deleting = none →
    s.hostBytes (s.instPasid q.inst) (q.sq + q.head % 2 ^ q.log2n * 64) 64 = e → stoEntryStatus e ≠ 0 →
    Does (.commandFetch gap o) s (Part.storing ++ [.lfsr, .guards, .sto, .inst]) fun t =>
      (t.stoQ n).map (fun x => (x.state, x.head)) = some (.frozen, (q.head + 1) % 2 ^ 16)
        ∧ t.stoCmd s.sto.nextCmd = none :)
  ∧ (∀ (s s1 : State) (gap n : Nat) (q : StoQ) (o : DmaOut), s.stoEn = true → s.hostUp = true → s.locksHeld < 4096 →
    o = .untranslated → s.sto.queues.filter (fun e => s.stoEligible e.1 e.2) ≠ [] →
    s.draw (arbId 7 0) 256 gap ((s.sto.queues.filter (fun e => s.stoEligible e.1 e.2)).map (fun e => (e.1, e.2.tickets)))
      = (some n, s1) → s.stoQ n = some q → q.state = .active →
    Does (.commandFetch gap o) s [.regs, .hostMem, .out, .mbx, .host, .lfsr, .guards, .sto, .inst] fun t =>
      (t.stoQ n).map (fun x => (x.state, x.head)) = some (.frozen, q.head) ∧ t.sto.cmds = s.sto.cmds :)
  ∧ (∀ (s : State) (gap : Nat) (o : DmaOut), (s.stoEn = false ∨ s.hostUp = false ∨ 4096 ≤ s.locksHeld
      ∨ s.sto.queues.filter (fun e => s.stoEligible e.1 e.2) = []) →
    Does (.commandFetch gap o) s [] fun _ => True :)
  ∧ (∀ (s : State) (id : Nat) (c : StoCmd) (o : DmaOut) (segs : List (Nat × Nat)) (b : Nat), s.stoReady id 1 c →
    s.stoVolStatus c = 0 → volXts (s.volRec c.volume) = false → s.stoBuffer c o = .inr segs → o ≠ .poisoned →
    b = volBacking (s.volRec c.volume) → (s.backing b).ready = true →
    Does (.storageWrite id o) s [.regs, .out, .sto] fun t =>
      t.stoCmd id = some { c with
        phase := .running, backing := b, parts := splitParts b (volNsid (s.volRec c.volume)) (s.backing b).mdts c.blocks 0 0 c.blocks }
        ∧ t.out = s.out ++ (splitParts b (volNsid (s.volRec c.volume)) (s.backing b).mdts c.blocks 0 0 c.blocks).map (fun p =>
          .nvme b p.nsid 1 [volStart (s.volRec c.volume) + c.lba + p.off, p.blocks, b2n c.fua]
            (((s.segRead c.inst segs).drop (p.off * 4096)).take (p.blocks * 4096))) :)
  ∧ (∀ (s : State) (id : Nat) (c : StoCmd) (o : DmaOut) (segs : List (Nat × Nat)) (b : Nat) (k : List Byte), s.stoReady id 1 c →
    s.stoVolStatus c = 0 → volXts (s.volRec c.volume) = true → s.stoKey (s.volRec c.volume) = some (some k) →
    s.stoBuffer c o = .inr segs → o ≠ .poisoned → b = volBacking (s.volRec c.volume) → (s.backing b).ready = true →
    c.blocks ≤ (s.backing b).mdts → c.blocks ≠ 0 →
    Does (.storageWrite id o) s [.regs, .out, .sto] fun t =>
      t.out = s.out ++ [.nvme b (volNsid (s.volRec c.volume)) 1 [volStart (s.volRec c.volume) + c.lba, c.blocks, b2n c.fua]
        ((xtsUnits true k c.blocks (volTweak (s.volRec c.volume) + c.lba) (s.segRead c.inst segs)).take (c.blocks * 4096))] :)
  ∧ (∀ (s : State) (id : Nat) (c : StoCmd) (o : DmaOut) (st : Nat), s.stoReady id 1 c → s.stoVolStatus c = 0 →
    volXts (s.volRec c.volume) = false → s.stoBuffer c o = .inl st →
    Does (.storageWrite id o) s [.regs, .sto] fun t => StoEnded c st t :)
  ∧ (∀ (s : State) (id : Nat) (c : StoCmd) (o : DmaOut), s.stoReady id 1 c → s.stoVolStatus c ≠ 0 →
    Does (.storageWrite id o) s [.regs, .sto] fun t => StoEnded c (s.stoVolStatus c) t :)
  ∧ (∀ (s : State) (id : Nat) (c : StoCmd) (o : DmaOut) (segs : List (Nat × Nat)), s.stoReady id 1 c → s.stoVolStatus c = 0 →
    volXts (s.volRec c.volume) = false → s.stoBuffer c o = .inr segs → o ≠ .poisoned →
    (s.backing (volBacking (s.volRec c.volume))).ready = false →
    Does (.storageWrite id o) s [.regs, .sto] fun t =>
      StoEnded { c with backing := volBacking (s.volRec c.volume) } 0x53 t :)
  ∧ (∀ (s : State) (id : Nat) (c : StoCmd) (o : DmaOut), s.stoCmd id = some c → s.stoMayStart c = false →
    Does (.storageWrite id o) s [] fun _ => True :)
  ∧ (∀ (s : State) (id : Nat) (c : StoCmd) (o : DmaOut) (segs : List (Nat × Nat)) (b : Nat), s.stoReady id 2 c →
    s.stoVolStatus c = 0 → volXts (s.volRec c.volume) = false → s.stoBuffer c o = .inr segs →
    b = volBacking (s.volRec c.volume) → (s.backing b).ready = true →
    Does (.storageRead id o) s [.regs, .out, .sto] fun t =>
      t.stoCmd id = some { c with
        phase := .running, backing := b, segs := segs
        parts := splitParts b (volNsid (s.volRec c.volume)) (s.backing b).mdts c.blocks 0 0 c.blocks }
        ∧ t.out = s.out ++ (splitParts b (volNsid (s.volRec c.volume)) (s.backing b).mdts c.blocks 0 0 c.blocks).map (fun p =>
          .nvme b p.nsid 2 [volStart (s.volRec c.volume) + c.lba + p.off, p.blocks, b2n c.fua] []) :)
  ∧ (∀ (s : State) (id : Nat) (c : StoCmd) (o : DmaOut), s.stoCmd id = some c → s.stoMayStart c = false →
    Does (.storageRead id o) s [] fun _ => True :)
  ∧ (∀ (s : State) (id : Nat) (c : StoCmd) (b : Nat), s.stoReady id 8 c → s.stoVolStatus c = 0 →
    volXts (s.volRec c.volume) = false → b = volBacking (s.volRec c.volume) → (s.backing b).ready = true →
    Does (.writeZeroes id) s [.regs, .out, .sto] fun t =>
      t.out = s.out ++ [.nvme b (volNsid (s.volRec c.volume)) 8 [volStart (s.volRec c.volume) + c.lba, c.blocks, b2n c.fua] []]
        ∧ t.stoCmd id = some { c with
          phase := .running, backing := b, parts := [⟨0, b, volNsid (s.volRec c.volume), 0, c.blocks⟩] } :)
  ∧ (∀ (s : State) (id : Nat) (c : StoCmd) (b : Nat) (k : List Byte), s.stoReady id 8 c → s.stoVolStatus c = 0 →
    volXts (s.volRec c.volume) = true → s.stoKey (s.volRec c.volume) = some (some k) → b = volBacking (s.volRec c.volume) →
    (s.backing b).ready = true → c.blocks ≤ (s.backing b).mdts → c.blocks ≠ 0 →
    Does (.writeZeroes id) s [.regs, .out, .sto] fun t =>
      t.out = s.out ++ [.nvme b (volNsid (s.volRec c.volume)) 1 [volStart (s.volRec c.volume) + c.lba, c.blocks, b2n c.fua]
        ((xtsUnits true k c.blocks (volTweak (s.volRec c.volume) + c.lba) []).take (c.blocks * 4096))] :)
  ∧ (∀ (s : State) (id : Nat) (c : StoCmd) (b : Nat), s.stoReady id 9 c → s.stoVolStatus c = 0 →
    b = volBacking (s.volRec c.volume) → (s.backing b).ready = true →
    Does (.deallocate id) s [.regs, .out, .sto] fun t =>
      t.out = s.out ++ [.nvme b (volNsid (s.volRec c.volume)) 9 [volStart (s.volRec c.volume) + c.lba, c.blocks, b2n c.fua] []]
        ∧ t.stoCmd id = some { c with
          phase := .running, backing := b, parts := [⟨0, b, volNsid (s.volRec c.volume), 0, c.blocks⟩] } :)
  ∧ (∀ (s : State) (id : Nat) (c : StoCmd), s.stoCmd id = some c → c.waits ≠ [] → Does (.flush id) s [] fun _ => True :)
  ∧ (∀ (s : State) (id : Nat) (c : StoCmd) (q : StoQ) (b ns w : Nat), s.stoCmd id = some c → c.op = 0 → c.phase = .waiting →
    c.waits = [] → s.stoQ c.q = some q → s.stoLive c = true → q.wrote = [(b, ns, w)] → (s.backing b).vwc = true →
    (s.backing b).ready = true →
    Does (.flush id) s [.regs, .out, .sto] fun t =>
      t.out = s.out ++ [.nvme b ns 0 [] []]
        ∧ t.stoCmd id = some { c with phase := .running, parts := [⟨0, b, ns, 0, 0⟩], stamp := s.sto.stamp } :)
  ∧ (∀ (s : State) (id : Nat) (c : StoCmd) (q : StoQ), s.stoCmd id = some c → c.op = 0 → c.phase = .waiting → c.waits = [] →
    c.lock = false → c.bad = false → c.hostDown = false → s.stoQ c.q = some q → s.stoLive c = true → q.deleting = none →
    (∀ w ∈ q.wrote, (s.backing w.1).vwc = false ∧ (s.backing w.1).ready = true) →
    Does (.flush id) s (Part.storing ++ [.sto, .inst]) fun t =>
      t.stoCmd id = none ∧ (t.stoQ c.q).map (fun x => (x.state, x.errSeq)) = some (q.state, q.errSeq) :)
  ∧ (∀ (s : State) (id : Nat) (c : StoCmd) (q : StoQ), s.stoCmd id = some c → c.op = 0 → c.phase = .waiting → c.waits = [] →
    c.lock = false → c.bad = true → c.hostDown = false → s.stoQ c.q = some q → s.stoLive c = true → q.state = .active →
    q.wrote = [] → q.deleting = none →
    Does (.flush id) s (Part.storing ++ [.sto, .inst]) fun t =>
      t.stoCmd id = none ∧ (t.stoQ c.q).map (fun x => (x.state, (x.errs.getLast?).map (fun e => e.status)))
        = some (.frozen, some 0x55) :)
  ∧ (∀ (s : State) (id : Nat) (c : StoCmd) (q : StoQ), s.stoCmd id = some c → c.phase = .moved → c.lock = true → c.status = 0 →
    s.stoQ c.q = some q → s.stoLive c = true → q.owed = [] → q.state ≠ .quiesced → q.room = true → s.hostUp = true →
    q.deleting = none → c.op ≠ 0 → s.sto.changes = [] →
    Does (.lockRelease id) s (Part.storing ++ [.sto, .inst]) fun t =>
      t.stoCmd id = none ∧ (t.stoQ c.q).map (fun x => (x.owed, x.cqTail, x.state)) = some ([], (q.cqTail + 1) % 2 ^ 16, q.state)
        ∧ t.hostBytes (s.instPasid c.inst) (q.cq + q.cqTail % 2 ^ q.log2n * 16) 16 = leBytes 4 0 ++ leBytes 2 c.sqhd ++ [0, 0]
          ++ leBytes 2 c.cid ++ leBytes 2 0 ++ [if (q.cqTail / 2 ^ q.log2n) % 2 = 0 then 1 else 0, 0, 0, 0] :)
  ∧ (∀ (s : State) (id : Nat) (c : StoCmd) (q : StoQ), s.stoCmd id = some c → c.phase = .moved → c.lock = true →
    c.status ∉ [0, 0x12] → s.stoQ c.q = some q → s.stoLive c = true → q.state = .active → q.deleting = none →
    Does (.lockRelease id) s (Part.storing ++ [.sto, .inst]) fun t =>
      t.stoCmd id = none ∧ (t.stoQ c.q).map (fun x => (x.state, (x.errs.getLast?).map (fun e => (e.seq, e.cid, e.status))))
        = some (.frozen, some (q.errSeq, c.cid, c.status)) :)
  ∧ (∀ (s : State) (id : Nat) (c : StoCmd), s.stoCmd id = some c → c.phase = .moved → c.lock = true → s.stoLive c = false →
    Does (.lockRelease id) s (Part.storing ++ [.sto, .inst]) fun t =>
      t.stoCmd id = none ∧ t.gf STO_EVENTS STO_EVENTS_LATE = min (2 ^ 16 - 1) (s.gf STO_EVENTS STO_EVENTS_LATE + 1) :)
  ∧ (∀ (s : State) (id : Nat) (c : StoCmd), s.stoCmd id = some c → c.phase ≠ .moved → Does (.lockRelease id) s [] fun _ => True :)
  ∧ (∀ (s : State) (id k : Nat) (c : StoCmd) (p : StoPart) (data : List Byte) (o : DmaOut), s.stoCmd id = some c → c.op ≠ 0 →
    c.op ≠ 2 → c.lock = true → c.hostDown = false → c.parts = [p] → p.n = k →
    Does (.backingCompletion id k 0 data o) s [.regs, .sto] fun t => StoEnded c c.status t :)
  ∧ (∀ (s : State) (id k : Nat) (c : StoCmd) (p : StoPart) (st : W16) (data : List Byte) (o : DmaOut), s.stoCmd id = some c →
    c.op ≠ 0 → c.lock = true → c.hostDown = false → c.parts = [p] → p.n = k → st ≠ 0 → c.status = 0 →
    Does (.backingCompletion id k st data o) s [.regs, .sto] fun t => StoEnded { c with nvme := st.toNat } 0x52 t :)
  ∧ (∀ (s : State) (id k : Nat) (c : StoCmd) (p : StoPart) (data : List Byte) (o : DmaOut) (a : Nat), s.stoCmd id = some c →
    c.op = 2 → c.lock = true → c.hostDown = false → c.parts = [p] → p.n = k → s.hostUp = true → o = .ok →
    s.stoLive c = true → c.slot = none → p.off = 0 → c.segs = [(a, p.blocks * 4096)] →
    Does (.backingCompletion id k 0 data o) s [.regs, .hostMem, .sto] fun t =>
      StoEnded c c.status t ∧ t.hostBytes (s.instPasid c.inst) a (p.blocks * 4096) = fit (p.blocks * 4096) data :)
  ∧ (∀ (s : State) (id k : Nat) (c : StoCmd) (st : W16) (data : List Byte) (o : DmaOut), s.stoCmd id = some c →
    (∀ p ∈ c.parts, p.n ≠ k) → Does (.backingCompletion id k st data o) s [] fun _ => True :)
  ∧ (∀ (s : State) (n : Fin 4096) (q : StoQ) (c : List Byte) (rest : List (List Byte)) (o : DmaOut), s.stoQ n = some q →
    q.owed = c :: rest → q.state ≠ .quiesced → s.hostUp = true → q.room = true → o ≠ .untranslated → q.deleting = none →
    Does (.storageCompletionWrite n o) s [.regs, .hostMem, .sto, .host, .inst] fun t =>
      (t.stoQ n).map (fun x => (x.owed, x.cqTail)) = some (rest, (q.cqTail + 1) % 2 ^ 16)
        ∧ t.hostBytes (s.instPasid q.inst) (q.cq + q.cqTail % 2 ^ q.log2n * 16) 16
          = (fit 16 c).set 12 (if (q.cqTail / 2 ^ q.log2n) % 2 = 0 then 1 else 0) :)
  ∧ (∀ (s : State) (n : Fin 4096) (q : StoQ) (c : List Byte) (rest : List (List Byte)) (o : DmaOut), s.stoQ n = some q →
    q.owed = c :: rest → q.state = .active → s.hostUp = true → q.room = true → o = .untranslated → q.deleting = none →
    Does (.storageCompletionWrite n o) s [.regs, .hostMem, .out, .mbx, .sto, .host, .inst] fun t =>
      (t.stoQ n).map (fun x => (x.owed, x.cqTail, x.state)) = some (rest, q.cqTail, .frozen) :)
  ∧ (∀ (s : State) (n : Fin 4096) (q : StoQ) (o : DmaOut), s.stoQ n = some q → q.room = false → q.deleting = none →
    Does (.storageCompletionWrite n o) s [] fun _ => True :)
  ∧ (∀ (s : State) (n : Fin 4096) (q : StoQ), s.stoQ n = some q → q.pend ≠ 0 → q.state ≠ .quiesced →
    q.coalUs * 10000 ≤ (s.clock - q.pendAt) * 64 →
    Does (.coalescingTimeout n) s [.regs, .sto, .host, .inst] fun t => t.stoQ n = some { q with pend := 0 } :)
  ∧ (∀ (s : State) (n : Fin 4096) (q : StoQ), s.stoQ n = some q → (s.clock - q.pendAt) * 64 < q.coalUs * 10000 →
    Does (.coalescingTimeout n) s [] fun _ => True :)
  ∧ (∀ (s : State) (c : Fin 64), (s.backing (16 + c.val)).ready = true → 781250000 ≤ s.clock - (s.backing (16 + c.val)).kaAt →
    Does (.keepAlive c) s [.out, .sto] fun t =>
      t.out = s.out ++ [.nvme (16 + c.val) 0 0x18 [] []]
        ∧ t.backing (16 + c.val) = { s.backing (16 + c.val) with kaAt := s.clock } :)
  ∧ (∀ (s : State) (c : Fin 64), (s.backing (16 + c.val)).ready = false → Does (.keepAlive c) s [] fun _ => True :)
  ∧ (∀ (s : State) (c : Fin 64) (r : SynReq) (a : Nat), (s.backing (16 + c.val)).connecting = some (r, a) →
    1562500000 ≤ s.clock - a →
    Does (.connectTimeout c) s [.mbx, .sto] fun t =>
      Answered 0x0C08 r 0x0553 [] t ∧ t.backing (16 + c.val) = Backing.reset :)
  ∧ (∀ (s : State) (c : Fin 64), (s.backing (16 + c.val)).connecting = none → Does (.connectTimeout c) s [] fun _ => True :)

/-- R282, R283, R286, R290, R295, R297 to R299: the storage registers, queues, volumes, namespaces, targets and drives. Payload layouts are the model's (log entry 10). -/
def Obligations.StorageRegistersAndRequests : Prop :=
  (∀ (s : State) (q : Requester) (v : W32), coreWrites q = true → s.bit STO_CTL STO_CTL_EN = false → s.stoCheck = none →
    Does (.stoEnSet q v) s [.regs] fun t =>
      t.bit STO_CTL STO_CTL_EN = true ∧ t.gf STO_CTL STO_CTL_REFUSAL = 0 ∧ RegsBut [STO_CTL] s t :)
  ∧ (∀ (s : State) (q : Requester) (v : W32), coreWrites q = true → s.bit STO_CTL STO_CTL_EN = false → s.stoCheck ≠ none →
    Does (.stoEnSet q v) s [.regs] fun t =>
      t.bit STO_CTL STO_CTL_EN = false ∧ t.gf STO_CTL STO_CTL_REFUSAL = 0x06C0 ∧ RegsBut [STO_CTL] s t :)
  ∧ (∀ (s : State) (q : Requester) (v : W32), coreWrites q = false → Does (.stoEnSet q v) s [] fun _ => True :)
  ∧ (∀ (s : State) (r : SynReq) (p : StoQueueSpec) (n : Fin 4096) (ix : Nat), s.synRefusal 0x0C00 (domSto 0) r = none →
    synInst r < 2048 → s.ownsInst r (synInst r) = true → s.stoQueueCheck (synInst r) p = none → p.queue = some n →
    s.stoQ n = none → lowestFree ((s.sto.queues.filter (fun e => e.2.inst == synInst r)).map (·.2.localIx)) = some ix →
    Does (.synStoQueueCreate r p) s [.regs, .free, .mbx, .sto] fun t =>
      Answered 0x0C00 r 0 (leBytes 2 n.val) t ∧ t.gf STO_CTL STO_CTL_REFUSAL = 0
        ∧ (t.stoQ n).map (fun q => { q with errSeq := 0 }) = some ⟨synInst r, ix, p.sq.toNat, p.cq.toNat, p.log2n.toNat,
          p.vector.toNat, p.coalCount.toNat, p.coalUs.toNat, p.tickets.toNat, p.maxinfl.toNat, .active, .active, none,
          0, 0, 0, 0, 0, 0, [], 0, [], []⟩ :)
  ∧ (∀ (s : State) (r : SynReq) (p : StoQueueSpec) (c : Nat), s.synRefusal 0x0C00 (domSto 0) r = none → synInst r < 2048 →
    s.ownsInst r (synInst r) = true → s.stoQueueCheck (synInst r) p = some c →
    Does (.synStoQueueCreate r p) s [.regs, .mbx] fun t =>
      Answered 0x0C00 r c [] t ∧ c ∈ [0x06C1, 0x06C2, 0x06F3] ∧ t.gf STO_CTL STO_CTL_REFUSAL = c ∧ RegsBut [STO_CTL] s t :)
  ∧ (∀ (s : State) (r : SynReq) (p : StoQueueSpec) (n : Fin 4096), s.synRefusal 0x0C00 (domSto 0) r = none →
    synInst r < 2048 → s.ownsInst r (synInst r) = true → s.stoQueueCheck (synInst r) p = none → p.queue = some n →
    (s.stoQ n).isSome = true →
    Does (.synStoQueueCreate r p) s [.mbx] fun t => Answered 0x0C00 r 0x0301 [] t :)
  ∧ (∀ (s : State) (r : SynReq) (n : Fin 4096) (q : StoQ), s.synRefusal 0x0C01 (domSto n) r = none →
    s.stoOwned r n = .inr q → q.deleting = none → s.stoOut n = 0 → q.owed = [] →
    Does (.synStoQueueDelete r n) s [.mbx, .sto] fun t => Answered 0x0C01 r 0 [] t ∧ t.stoQ n = none ∧ t.sto.cmds = s.sto.cmds :)
  ∧ (∀ (s : State) (r : SynReq) (n : Fin 4096) (q : StoQ), s.synRefusal 0x0C01 (domSto n) r = none →
    s.stoOwned r n = .inr q → q.deleting = none → s.stoOut n ≠ 0 →
    Does (.synStoQueueDelete r n) s [.sto] fun t => t.stoQ n = some { q with deleting := some r } :)
  ∧ (∀ (s : State) (r : SynReq) (n : Fin 4096) (q : StoQ), s.synRefusal 0x0C02 (domSto n) r = none →
    s.stoOwned r n = .inr q → q.state = .frozen → s.stoOut n = 0 →
    Does (.synStoQueueRestart r n) s [.mbx, .sto] fun t =>
      Answered 0x0C02 r 0 [] t ∧ t.stoQ n = some { q with state := .active } :)
  ∧ (∀ (s : State) (r : SynReq) (n : Fin 4096) (q : StoQ), s.synRefusal 0x0C02 (domSto n) r = none →
    s.stoOwned r n = .inr q → q.state = .frozen → s.stoOut n ≠ 0 →
    Does (.synStoQueueRestart r n) s [.mbx] fun t => Answered 0x0C02 r 0x020A [] t :)
  ∧ (∀ (s : State) (r : SynReq) (n : Fin 4096) (q : StoQ), s.synRefusal 0x0C02 (domSto n) r = none →
    s.stoOwned r n = .inr q → q.state ≠ .frozen →
    Does (.synStoQueueRestart r n) s [.mbx] fun t => Answered 0x0C02 r 0x0201 [] t :)
  ∧ (∀ (s : State) (r : SynReq) (n : Fin 4096) (q : StoQ), s.synRefusal 0x0C03 (domSto n) r = none →
    s.stoOwned r n = .inr q →
    Does (.synStoErrlogRead r n) s [.mbx] fun t => Answered 0x0C03 r 0 (q.errs.map (StoErr.bytes n)).flatten t :)
  ∧ (∀ (s : State) (r : SynReq) (v : Fin 1024) (x : List Byte), s.synRefusal 0x0C04 (domSto 0) r = none → x.length = 64 →
    s.stoVolCheck v x = none → volXts x = false → s.sto.changes = [] → s.sto.cmds = [] → s.bit CKP_CTL CKP_CTL_EN = false →
    inHbm (s.volAddr v) 64 = true →
    Does (.synStoVolumeSet r v x) s Part.storing fun t =>
      Answered 0x0C04 r 0 [] t ∧ t.volRec v = x ∧ t.gf STO_CTL STO_CTL_REFUSAL = 0 :)
  ∧ (∀ (s : State) (r : SynReq) (v : Fin 1024) (x : List Byte), s.synRefusal 0x0C04 (domSto 0) r = none → x.length = 64 →
    s.stoVolCheck v x = none → volXts x = false → volValid (s.volRec v) = true →
    s.sto.cmds.any (fun c => c.op != 0 && c.volume == v.val) = true →
    Does (.synStoVolumeSet r v x) s [.regs, .sto] fun t =>
      t.sto = { s.sto with changes := s.sto.changes ++ [⟨v.val, x, s.sto.nextCmd, r, 0x0C04⟩] } :)
  ∧ (∀ (s : State) (r : SynReq) (v : Fin 1024) (x : List Byte) (c : Nat), s.synRefusal 0x0C04 (domSto 0) r = none →
    x.length = 64 → s.stoVolCheck v x = some c →
    Does (.synStoVolumeSet r v x) s [.regs, .mbx] fun t =>
      Answered 0x0C04 r c [] t ∧ c ∈ [0x06C3, 0x06C4, 0x06C5] ∧ t.gf STO_CTL STO_CTL_REFUSAL = c ∧ RegsBut [STO_CTL] s t :)
  ∧ (∀ (s : State) (r : SynReq) (v : Fin 1024), s.synRefusal 0x0C05 (domSto 0) r = none → s.sto.changes = [] →
    s.sto.cmds = [] → s.bit CKP_CTL CKP_CTL_EN = false → inHbm (s.volAddr v) 64 = true →
    Does (.synStoVolumeDelete r v) s Part.storing fun t =>
      Answered 0x0C05 r 0 [] t ∧ volValid (t.volRec v) = false ∧ (t.volRec v).drop 4 = (s.volRec v).drop 4 :)
  ∧ (∀ (s : State) (r : SynReq) (d : Fin 4) (n : BitVec 64) (k : W32), s.synRefusal 0x0C06 (domSto 0) r = none →
    (s.backing d).ready = true →
    Does (.synStoNsCreate r d n (some k)) s [.mbx, .sto] fun t =>
      Answered 0x0C06 r 0 (leBytes 4 k.toNat) t ∧ (k.toNat, n.toNat, true) ∈ (t.backing d).nss :)
  ∧ (∀ (s : State) (r : SynReq) (d : Fin 4) (n : BitVec 64), s.synRefusal 0x0C06 (domSto 0) r = none →
    (s.backing d).ready = true →
    Does (.synStoNsCreate r d n none) s [.mbx] fun t => Answered 0x0C06 r 0x0309 [] t :)
  ∧ (∀ (s : State) (r : SynReq) (d : Fin 4) (k : W32) (v : Nat), s.synRefusal 0x0C07 (domSto 0) r = none → v < 1024 →
    volValid (s.volRec v) = true → volBacking (s.volRec v) = d → volNsid (s.volRec v) = k.toNat →
    Does (.synStoNsDelete r d k) s [.mbx] fun t => Answered 0x0C07 r 0x020A [] t :)
  ∧ (∀ (s : State) (r : SynReq) (d : Fin 4) (k : W32), s.synRefusal 0x0C07 (domSto 0) r = none →
    (∀ v, v < 1024 → volValid (s.volRec v) = false) → (s.backing d).ready = true →
    (s.backing d).nss.any (fun x => x.1 == k.toNat) = true →
    Does (.synStoNsDelete r d k) s [.mbx, .sto] fun t =>
      Answered 0x0C07 r 0 [] t ∧ t.backing d = { s.backing d with nss := (s.backing d).nss.filter (fun x => x.1 != k.toNat) } :)
  ∧ (∀ (s : State) (r : SynReq) (c : Fin 64) (cs : List (BitVec 20)) (a b : List Byte) (vwc : Bool) (m : Nat)
    (nss : List (Nat × Nat × Bool)), s.synRefusal 0x0C08 (domSto 0) r = none → (s.backing (16 + c.val)).ready = false →
    (s.backing (16 + c.val)).connecting = none →
    Does (.synStoTargetConnect r c cs a b (.accepted vwc m nss)) s [.out, .mbx, .sto] fun t =>
      Answered 0x0C08 r 0 [] t ∧ t.out = s.out ++ [.nvme (16 + c.val) 0 0x7F (cs.map (·.toNat)) (a ++ b)]
        ∧ t.backing (16 + c.val) = ⟨true, vwc, m, nss, cs.map (·.toNat), s.clock, none⟩ :)
  ∧ (∀ (s : State) (r : SynReq) (c : Fin 64) (cs : List (BitVec 20)) (a b : List Byte),
    s.synRefusal 0x0C08 (domSto 0) r = none → (s.backing (16 + c.val)).ready = false →
    (s.backing (16 + c.val)).connecting = none →
    Does (.synStoTargetConnect r c cs a b .refused) s [.out, .mbx] fun t => Answered 0x0C08 r 0x0553 [] t :)
  ∧ (∀ (s : State) (r : SynReq) (c : Fin 64), s.synRefusal 0x0C09 (domSto 0) r = none →
    (s.backing (16 + c.val)).ready = true → (∀ x ∈ s.sto.cmds, ∀ p ∈ x.parts, p.backing ≠ 16 + c.val) →
    Does (.synStoTargetDisconnect r c) s [.mbx, .sto] fun t =>
      Answered 0x0C09 r 0 [] t ∧ t.backing (16 + c.val) = Backing.reset ∧ t.sto.cmds = s.sto.cmds :)
  ∧ (∀ (s : State) (r : SynReq) (c : Fin 64) (x : StoCmd) (p : StoPart), s.synRefusal 0x0C09 (domSto 0) r = none →
    (s.backing (16 + c.val)).ready = true → s.sto.cmds = [x] → x.phase = .running → x.op ≠ 0 → x.lock = true →
    x.hostDown = false → x.status = 0 → x.parts = [p] → p.backing = 16 + c.val →
    Does (.synStoTargetDisconnect r c) s [.regs, .mbx, .sto] fun t =>
      Answered 0x0C09 r 0 [] t ∧ StoEnded { x with backing := 16 + c.val } 0x53 t :)
  ∧ (∀ (s : State) (r : SynReq) (d : Fin 4) (x : StoCmd) (p : StoPart) (back : Bool), s.synRefusal 0x0C0A (domSto 0) r = none →
    s.sto.cmds = [x] → x.phase = .running → x.op ≠ 0 → x.lock = true → x.hostDown = false → x.status = 0 → x.parts = [p] →
    p.backing = d →
    Does (.synStoDriveReset r d back) s [.regs, .mbx, .sto] fun t =>
      Answered 0x0C0A r 0 [] t ∧ StoEnded { x with backing := d.val } 0x53 t
        ∧ (t.backing d).ready = (back && s.bit (STO_DRIVE_STATUS d) STO_DRIVE_STATUS_PRESENT)
        ∧ t.bit (STO_DRIVE_STATUS d) STO_DRIVE_STATUS_READY = (t.backing d).ready :)
  ∧ (∀ (s : State) (r : SynReq) (d : Fin 4) (a b : List Byte) (m : Fin 8), s.synRefusal 0x0C0B (domSto 0) r = none →
    r.port = .mailbox m →
    Does (.synStoQuery r (.drive d) a b) s [.mbx] fun t =>
      Answered 0x0C0B r 0 (leBytes 4 (s.rd (STO_DRIVE_STATUS d)).toNat ++ a ++ b) t :)
  ∧ (∀ (s : State) (r : SynReq) (n : Fin 4096) (a b : List Byte), s.synRefusal 0x0C0B (domSto 0) r = none → s.stoQ n = none →
    Does (.synStoQuery r (.queue n) a b) s [.mbx] fun t => Answered 0x0C0B r 0 [0] t :)
  ∧ (∀ (s : State) (r : SynReq) (n : Fin 4096) (q : StoQ) (a b : List Byte), s.synRefusal 0x0C0B (domSto 0) r = none →
    s.stoQ n = some q → s.stoOwned r n = .inr q →
    Does (.synStoQuery r (.queue n) a b) s [.mbx] fun t =>
      Answered 0x0C0B r 0 (leBytes 1 (stoStateCode q.state) ++ leBytes 2 q.inst ++ leBytes 1 q.localIx ++ leBytes 2 q.head
        ++ leBytes 2 q.tail ++ leBytes 2 q.cqHead ++ leBytes 2 q.cqTail ++ leBytes 2 (s.stoOut n)) t :)

/-- R304, R308, R309, R312 to R314, R322: entropy, waiting loads, the message engine and its registers. Payload layouts are the model's (log entry 10). -/
def Obligations.SecurityEnginesRun : Prop :=
  (∀ (s : State) (k : Fin 4) (b : Bool), Does (.entropyHealthFail k b) s Part.reporting fun t =>
      t.bit SEC_STATUS SEC_STATUS_ENT_FAIL = true :)
  ∧ (∀ (s : State), Does (.reseed) s [.free, .sec] fun t =>
      t.sec = { s.sec with reseedAt := s.clock } ∧ t.free = s.free + 1 :)
  ∧ (∀ (s : State) (k : Fin 4096) (p : PendingKey), s.sec.pendingKeys.find? (fun x => x.slot == k.val) = some p → s.refsOf k ≠ 0 →
    Does (.keyRefsZero k) s [] fun _ => True :)
  ∧ (∀ (s : State) (k : Fin 4096) (p : PendingKey), s.sec.pendingKeys.find? (fun x => x.slot == k.val) = some p → s.refsOf k = 0 →
    s.sec.keyUses = [] → p.opcode = 0x0D00 → (∀ x, x < 32 → (s.fp x).stalled = []) →
    Does (.keyRefsZero k) s (Part.storing ++ [.free, .fport, .time, .pkt, .sec, .inst, .iq]) fun t =>
      t.slotOf k = { p.load with gen := ((s.slotOf k).gen + 1) % 2 ^ 16 } ∧ t.sec.pendingKeys = s.sec.pendingKeys.erase p
        ∧ Answered 0x0D00 p.req 0 (leBytes 2 (((s.slotOf k).gen + 1) % 2 ^ 16)) t :)
  ∧ (∀ (s : State) (k : Fin 4096), s.slotPending k = false → Does (.keyRefsZero k) s [] fun _ => True :)
  ∧ (∀ (s : State) (k : Fin 4096) (p : PendingKey), s.sec.pendingKeys.find? (fun x => x.slot == k.val) = some p →
    p.waitMs * 156250 ≤ s.clock - p.since → s.sec.keyUses = [] → (∀ x, x < 32 → (s.fp x).stalled = []) →
    Does (.keyLoadWithdrawn k) s (Part.storing ++ [.free, .fport, .time, .pkt, .sec, .inst, .iq]) fun t =>
      t.slotOf k = s.slotOf k ∧ t.sec.pendingKeys = s.sec.pendingKeys.erase p ∧ Answered p.opcode p.req 0x0402 [] t
        ∧ t.gf SEC_EVENTS SEC_EVENTS_WITHDRAWN = min (2 ^ 8 - 1) (s.gf SEC_EVENTS SEC_EVENTS_WITHDRAWN + 1) :)
  ∧ (∀ (s : State) (k : Fin 4096) (p : PendingKey), s.sec.pendingKeys.find? (fun x => x.slot == k.val) = some p →
    s.clock - p.since < p.waitMs * 156250 → Does (.keyLoadWithdrawn k) s [] fun _ => True :)
  ∧ (∀ (s s1 s2 s3 : State) (d : List Byte) (src aad tag : List (List Byte × Bool)), s.msgFree 1 d → mFieldsOk d = true →
    mHost d = false → s.slotUsable (wordFd d 1 0 12) 1 (mInst d) = true →
    s.msgInput d src aad tag s1 s2 s3 →
    Does (.gcmEnc (.internal d)) s (Part.storing ++ [.free, .time, .sec]) fun t => MsgRuns d (s3.slotOf (wordFd d 1 0 12)).key src aad tag t :)
  ∧ (∀ (s s1 s2 s3 : State) (d : List Byte) (src aad tag : List (List Byte × Bool)), s.msgFree 2 d → mFieldsOk d = true →
    mHost d = false → s.slotUsable (wordFd d 1 0 12) 1 (mInst d) = true →
    s.msgInput d src aad tag s1 s2 s3 →
    Does (.gcmDec (.internal d)) s (Part.storing ++ [.free, .time, .sec]) fun t => MsgRuns d (s3.slotOf (wordFd d 1 0 12)).key src aad tag t :)
  ∧ (∀ (s s1 s2 s3 : State) (d : List Byte) (src aad tag : List (List Byte × Bool)), s.msgFree 3 d → mFieldsOk d = true →
    mHost d = false → s.slotUsable (wordFd d 1 0 12) 4 (mInst d) = true →
    s.msgInput d src aad tag s1 s2 s3 →
    Does (.xtsEnc (.internal d)) s (Part.storing ++ [.free, .time, .sec]) fun t => MsgRuns d (s3.slotOf (wordFd d 1 0 12)).key src aad tag t :)
  ∧ (∀ (s s1 s2 s3 : State) (d : List Byte) (src aad tag : List (List Byte × Bool)), s.msgFree 4 d → mFieldsOk d = true →
    mHost d = false → s.slotUsable (wordFd d 1 0 12) 4 (mInst d) = true →
    s.msgInput d src aad tag s1 s2 s3 →
    Does (.xtsDec (.internal d)) s (Part.storing ++ [.free, .time, .sec]) fun t => MsgRuns d (s3.slotOf (wordFd d 1 0 12)).key src aad tag t :)
  ∧ (∀ (s s1 s2 s3 : State) (d : List Byte) (src aad tag : List (List Byte × Bool)), s.msgFree 5 d → mFieldsOk d = true →
    mHost d = false → s.msgInput d src aad tag s1 s2 s3 →
    Does (.shake256 (.internal d)) s (Part.storing ++ [.free, .time, .sec]) fun t => MsgRuns d [] src aad tag t :)
  ∧ (∀ (s : State) (d : List Byte), s.msgFree 1 d → mFieldsOk d = true → mHost d = false →
    s.slotUsable (wordFd d 1 0 12) 1 (mInst d) = false →
    Does (.gcmEnc (.internal d)) s [.sec] fun t => t.sec = { s.sec with current := some ⟨none, d, 0, 0x61, [], false⟩ } :)
  ∧ (∀ (s : State) (d : List Byte), s.msgFree 5 d → mFieldsOk d = false →
    Does (.shake256 (.internal d)) s [.sec] fun t => t.sec = { s.sec with current := some ⟨none, d, 0, 2, [], false⟩ } :)
  ∧ (∀ (s : State) (src : SecSource), s.sec.current.isSome = true → Does (.xtsEnc src) s [] fun _ => True :)
  ∧ (∀ (s s1 : State) (d : List Byte) (ix : Nat), s.sec.current = none → s.secNext = some ix →
    s.fetchEntry SEC_REQ_BASE ix = (some d, s1) → mOp d = 5 → mFieldsOk d = false →
    Does (.shake256 .ring) s (Part.reading ++ [.rings, .sec]) fun t =>
      t.sec.current = some ⟨some (ix, (s.ring SEC_REQ_BASE).epoch), d, 0, 2, [], false⟩
        ∧ (t.ring SEC_REQ_BASE).issued = (s.ring SEC_REQ_BASE).issued ++ [⟨ix, (s.ring SEC_REQ_BASE).epoch, d, 0, true, none⟩] :)
  ∧ (∀ (s s1 : State) (ix : Nat), s.sec.current = none → s.secNext = some ix → s.fetchEntry SEC_REQ_BASE ix = (none, s1) →
    Does (.gcmDec .ring) s Part.reading fun t =>
      t.bit SEC_RERR SEC_RERR_FETCH_ERR = true ∧ t.bit SEC_RERR SEC_RERR_HALTED = true :)
  ∧ (∀ (s : State) (m : SecMsg), s.sec.current = some m → s.sec.suspended = none → mUrgent m.desc = false →
    s.secUrgent.isSome = true →
    Does (.urgentSuspend) s [.sec] fun t =>
      t.sec = { s.sec with suspended := some { m with suspends := m.suspends + 1 }, current := none } :)
  ∧ (∀ (s : State), (s.sec.suspended.isSome = true ∨ s.secUrgent = none) → Does (.urgentSuspend) s [] fun _ => True :)
  ∧ (∀ (s : State) (m : SecMsg) (b : List Byte), s.sec.current = some m → m.index = none → m.status = 0 → m.silent = false →
    mHost m.desc = false → m.out = [(b, false)] → s.bit CKP_CTL CKP_CTL_EN = false → inHbm (mDst m.desc) b.length = true →
    Does (.messageEngineComplete) s (Part.storing ++ [.sec]) fun t =>
      t.bytes (mDst m.desc) b.length = b
        ∧ t.sec = (if t.secUrgent.isNone = true then { s.sec with current := s.sec.suspended, suspended := none }
          else { s.sec with current := none }) :)
  ∧ (∀ (s : State) (m : SecMsg) (b : List Byte), s.sec.current = some m → m.index = none → m.status = 0x60 → m.silent = false →
    mHost m.desc = false → m.out = [(b, false)] → s.bit CKP_CTL CKP_CTL_EN = false → inHbm (mDst m.desc) b.length = true →
    Does (.messageEngineComplete) s (Part.storing ++ [.sec]) fun t =>
      t.bytes (mDst m.desc) b.length = b
        ∧ t.gf SEC_EVENTS SEC_EVENTS_AUTH_FAIL = min (2 ^ 16 - 1) (s.gf SEC_EVENTS SEC_EVENTS_AUTH_FAIL + 1) :)
  ∧ (∀ (s : State) (m : SecMsg) (ix ep : Nat), s.sec.current = some m → m.index = some (ix, ep) → m.status = 2 → m.silent = false →
    mHost m.desc = false → m.out = [] → s.cmplRoom SEC_REQ_BASE = true →
    s.bit CKP_CTL CKP_CTL_EN = false → s.cmplBase SEC_REQ_BASE = 0x40000 → s.cmplTail SEC_REQ_BASE = 0 →
    Does (.messageEngineComplete) s (Part.storing ++ [.free, .rings, .sec]) fun t =>
      t.sec = (if t.secUrgent.isNone = true then { s.sec with current := s.sec.suspended, suspended := none }
          else { s.sec with current := none }) ∧ t.cmplTail SEC_REQ_BASE = 1
        ∧ t.bytes 0x40000 8 = leBytes 2 (mTag m.desc) ++ leBytes 2 2 ++ leBytes 4 m.suspends
        ∧ t.bytes 0x4000C 4 = leBytes 2 ix ++ [1, 0] :)
  ∧ (∀ (s : State) (m : SecMsg), s.sec.current = some m → m.index.isSome = true → m.status = 2 → m.silent = false →
    mHost m.desc = false → s.cmplRoom SEC_REQ_BASE = false → Does (.messageEngineComplete) s [] fun _ => True :)
  ∧ (∀ (s : State) (q : Requester) (v : W32), coreWrites q = true → s.bit SEC_CTL SEC_CTL_MSG_EN = false →
    Does (.secMsgEnSet q v) s [.regs] fun t =>
      t.bit SEC_CTL SEC_CTL_MSG_EN = true ∧ t.gf SEC_CTL SEC_CTL_REFUSAL = 0 ∧ RegsBut [SEC_CTL] s t :)
  ∧ (∀ (s : State) (q : Requester) (v : W32), coreWrites q = false → Does (.secMsgEnSet q v) s [] fun _ => True :)
  ∧ (∀ (s : State) (q : Requester) (v : W32), coreWrites q = true →
    ixDiff (v.toNat % 2 ^ 16) (s.cmdHead SEC_REQ_BASE) ≤ 2 ^ s.cmdLog SEC_REQ_BASE →
    Does (.secReqDb q v) s [.rings] fun t =>
      t.ring SEC_REQ_BASE = { s.ring SEC_REQ_BASE with tail := v.toNat % 2 ^ 16 } :)
  ∧ (∀ (s : State) (q : Requester) (v : W32), coreWrites q = true →
    2 ^ s.cmdLog SEC_REQ_BASE < ixDiff (v.toNat % 2 ^ 16) (s.cmdHead SEC_REQ_BASE) →
    Does (.secReqDb q v) s [.regs] fun t =>
      t.gf SEC_RERR CLU_ERR_OVERRUN = 1 ∧ t.bit SEC_RERR SEC_RERR_HALTED = true ∧ RegsBut [SEC_RERR] s t :)
  ∧ (∀ (s : State) (q : Requester) (v : W32), coreWrites q = true → s.cmdEn SEC_REQ_BASE = false →
    s.cmplEn SEC_REQ_BASE = true → bitAt v.toNat 1 = true → s.cmdEnCheck SEC_REQ_BASE true = none →
    s.bit SEC_CTL SEC_CTL_MSG_EN = true →
    Does (.secCmdEnSet q v) s [.regs] fun t =>
      t.cmdEn SEC_REQ_BASE = true ∧ t.cmplEn SEC_REQ_BASE = true ∧ t.gf SEC_CTL SEC_CTL_REFUSAL = 0
        ∧ RegsBut [rCtl SEC_REQ_BASE, SEC_RERR, SEC_CTL] s t :)
  ∧ (∀ (s : State) (q : Requester) (v : W32), coreWrites q = true → s.cmdEn SEC_REQ_BASE = false →
    s.cmplEn SEC_REQ_BASE = true → bitAt v.toNat 1 = true → s.cmdEnCheck SEC_REQ_BASE true = none →
    s.bit SEC_CTL SEC_CTL_MSG_EN = false →
    Does (.secCmdEnSet q v) s [.regs] fun t =>
      t.cmdEn SEC_REQ_BASE = false ∧ t.gf SEC_CTL SEC_CTL_REFUSAL = 0x06D0 :)
  ∧ (∀ (s : State) (q : Requester) (v : W32), coreWrites q = true →
    Does (.secCmplHeadWrite q v) s [.regs] fun t =>
      t.gf (rHead SEC_REQ_BASE) CLU_CMPL_HEAD_HEAD = v.toNat % 2 ^ 16 ∧ RegsBut [rHead SEC_REQ_BASE] s t :)

/-- R301 to R309, R316 to R319, R323: key slots, attestation, measurements, certificates and debug unlock. Payload layouts are the model's (log entry 10). -/
def Obligations.SecurityRequestsAreAnswered : Prop :=
  (∀ (s : State), s.sec.signing = none ∨ 2 ≤ s.gf (CORE_STATUS 32) CORE_STATUS_STATE → Does (.attestSigned) s [] fun _ => True :)
  ∧ (∀ (s : State) (body : List Byte) (r : SynReq), s.sec.signing = some (body, r) → s.sec.attest = [] →
    s.gf (CORE_STATUS 32) CORE_STATUS_STATE < 2 →
    Does (.attestSigned) s [.free, .mbx, .sec] fun t =>
      Answered 0x0D05 r 0 (body ++ fit 49856 (Config.slhDsaSign 1 (identitySeed s.sec.seed) body (s.entropy 32))) t
        ∧ t.sec = { s.sec with signing := none, seq := s.sec.seq + 1 } :)
  ∧ (∀ (s : State) (body : List Byte) (r : SynReq) (x : AttestReq) (rest : List AttestReq), s.sec.signing = some (body, r) →
    s.sec.attest = x :: rest → s.gf (CORE_STATUS 32) CORE_STATUS_STATE < 2 →
    Does (.attestSigned) s [.free, .mbx, .sec] fun t =>
      t.sec.attest = rest ∧ t.sec.seq = s.sec.seq + 1 ∧ (t.sec.signing.map (·.2)) = some x.req :)
  ∧ (∀ (s : State) (r : SynReq) (k : Fin 4096) (ty : Byte) (o : W16) (w : Bool) (key : List Byte) (wait : Option Nat),
    s.synRefusal 0x0D00 none r = none →
    wait = none ∨ wait = some 1 ∨ wait = some 10000 → k ≠ 0 → 1 ≤ ty.toNat → ty.toNat ≤ 5 → o.toNat ≤ 2047 →
    key.length = keyBytes ty.toNat → s.slotPending k = false → s.refsOf k = 0 →
    Does (.synKeyLoad r k ty o w key wait) s [.regs, .mbx, .sec] fun t =>
      Answered 0x0D00 r 0 (leBytes 2 (((s.slotOf k).gen + 1) % 2 ^ 16)) t
        ∧ t.slotOf k = ⟨ty.toNat, o.toNat, w, ((s.slotOf k).gen + 1) % 2 ^ 16, key⟩ ∧ RegsBut [SEC_STATUS] s t :)
  ∧ (∀ (s : State) (r : SynReq) (k : Fin 4096) (ty : Byte) (o : W16) (w : Bool) (key : List Byte) (n : Nat), s.synRefusal 0x0D00 none r = none →
    1 ≤ n → n ≤ 10000 → k ≠ 0 → 1 ≤ ty.toNat → ty.toNat ≤ 5 → o.toNat ≤ 2047 → key.length = keyBytes ty.toNat →
    s.slotPending k = false → s.refsOf k ≠ 0 →
    Does (.synKeyLoad r k ty o w key (some n)) s [.sec] fun t =>
      t.sec = { s.sec with pendingKeys := s.sec.pendingKeys ++ [⟨k, ⟨ty.toNat, o.toNat, w, 0, key⟩, r, 0x0D00, n, s.clock⟩] } :)
  ∧ (∀ (s : State) (r : SynReq) (k : Fin 4096) (ty : Byte) (o : W16) (w : Bool) (key : List Byte) (wait : Option Nat),
    s.synRefusal 0x0D00 none r = none → k = 0 → wait = none →
    Does (.synKeyLoad r k ty o w key wait) s [.mbx] fun t => Answered 0x0D00 r 0x0406 [] t :)
  ∧ (∀ (s : State) (r : SynReq) (k : Fin 4096) (ty : Byte) (o : W16) (w : Bool) (key : List Byte) (wait : Option Nat),
    s.synRefusal 0x0D00 none r = none → k ≠ 0 → wait = none →
    (ty.toNat = 0 ∨ 5 < ty.toNat ∨ 2047 < o.toNat ∨ key.length ≠ keyBytes ty.toNat) →
    Does (.synKeyLoad r k ty o w key wait) s [.mbx] fun t => Answered 0x0D00 r 0x0102 [] t :)
  ∧ (∀ (s : State) (r : SynReq) (k : Fin 4096) (ty : Byte) (o : W16) (w : Bool) (key : List Byte) (wait : Option Nat),
    s.synRefusal 0x0D00 none r = none → k ≠ 0 → wait = none →
    1 ≤ ty.toNat → ty.toNat ≤ 5 → o.toNat ≤ 2047 → key.length = keyBytes ty.toNat → s.slotPending k = true →
    Does (.synKeyLoad r k ty o w key wait) s [.mbx] fun t => Answered 0x0D00 r 0x0201 [] t :)
  ∧ (∀ (s : State) (r : SynReq) (k x : Fin 4096) (o : W16) (w : Bool) (blob key : List Byte), s.synRefusal 0x0D01 none r = none →
    k ≠ 0 → k ≠ x → s.slotPending k = false → s.slotPending x = false →
    s.slotUsable x 5 (reqOwner r) = true → blob.length = 104 → fieldLE blob 0 4 = 1 →
    1 ≤ fieldLE blob 4 1 → fieldLE blob 4 1 ≤ 5 →
    (fieldLE blob 4 1 = 4 ∨ ∀ b ∈ key.drop 32, b = 0) → s.refsOf k = 0 →
    Does (.synKeyUnwrap r k x o w blob none) s [.regs, .free, .mbx, .sec] fun t =>
      gcmOpen (s.slotKey x) ((blob.drop 8).take 12) (blob.take 24) ((blob.drop 24).take 64) ((blob.drop 88).take 16) = some key →
      t.free = s.free ∧ Answered 0x0D01 r 0 (leBytes 2 (((s.slotOf k).gen + 1) % 2 ^ 16)) t
        ∧ t.slotOf k = ⟨fieldLE blob 4 1, o.toNat % 2048, w, ((s.slotOf k).gen + 1) % 2 ^ 16,
          key.take (keyBytes (fieldLE blob 4 1))⟩ :)
  ∧ (∀ (s : State) (r : SynReq) (k x : Fin 4096) (o : W16) (w : Bool) (blob : List Byte), s.synRefusal 0x0D01 none r = none →
    k ≠ 0 → k ≠ x → s.slotPending k = false → s.slotPending x = false →
    s.slotUsable x 5 (reqOwner r) = true → blob.length = 104 →
    Does (.synKeyUnwrap r k x o w blob none) s [.regs, .free, .mbx, .sec] fun t =>
      gcmOpen (s.slotKey x) ((blob.drop 8).take 12) (blob.take 24) ((blob.drop 24).take 64) ((blob.drop 88).take 16) = none →
      Answered 0x0D01 r 0x0403 [] t ∧ t.sec = s.sec ∧ t.free = s.free
        ∧ t.gf SEC_EVENTS SEC_EVENTS_UNWRAP_FAIL = min (2 ^ 8 - 1) (s.gf SEC_EVENTS SEC_EVENTS_UNWRAP_FAIL + 1)
        ∧ t.gf SEC_EVENTS SEC_EVENTS_AUTH_FAIL = min (2 ^ 16 - 1) (s.gf SEC_EVENTS SEC_EVENTS_AUTH_FAIL + 1) :)
  ∧ (∀ (s : State) (r : SynReq) (k x : Fin 4096) (o : W16) (w : Bool) (blob : List Byte) (n : Option Nat), s.synRefusal 0x0D01 none r = none →
    (k = 0 ∨ k = x) → Does (.synKeyUnwrap r k x o w blob n) s [.mbx] fun t => Answered 0x0D01 r 0x0406 [] t :)
  ∧ (∀ (s : State) (r : SynReq) (k x : Fin 4096) (o : W16) (w : Bool) (blob : List Byte), s.synRefusal 0x0D01 none r = none →
    k ≠ 0 → k ≠ x → s.slotPending k = false → s.slotPending x = false →
    s.slotUsable x 5 (reqOwner r) = false →
    Does (.synKeyUnwrap r k x o w blob none) s [.mbx] fun t => Answered 0x0D01 r 0x0401 [] t :)
  ∧ (∀ (s : State) (r : SynReq) (k x : Fin 4096) (v : KeySlot) (aad : List Byte), s.synRefusal 0x0D02 none r = none →
    s.slotPending k = false → s.slotPending x = false → s.slotUsable x 5 (reqOwner r) = true → s.slotOf k = v → v.type ≠ 0 →
    v.wrappable = true → aad = leBytes 4 1 ++ leBytes 1 v.type ++ [0, 0, 0] ++ s.entropy 12 ++ [0, 0, 0, 0] →
    Does (.synKeyWrap r k x) s [.free, .mbx] fun t =>
      Answered 0x0D02 r 0 (aad ++ (gcmSeal (s.slotKey x) (s.entropy 12) aad (fit 64 v.key)).1
        ++ (gcmSeal (s.slotKey x) (s.entropy 12) aad (fit 64 v.key)).2) t :)
  ∧ (∀ (s : State) (r : SynReq) (k x : Fin 4096), s.synRefusal 0x0D02 none r = none → s.slotPending k = false → s.slotPending x = false →
    s.slotUsable x 5 (reqOwner r) = true → (s.slotOf k).type ≠ 0 → (s.slotOf k).wrappable = false →
    Does (.synKeyWrap r k x) s [.mbx] fun t => Answered 0x0D02 r 0x0406 [] t :)
  ∧ (∀ (s : State) (r : SynReq) (k : Fin 4096), s.synRefusal 0x0D03 none r = none → k ≠ 0 → s.slotPending k = false → s.refsOf k = 0 →
    Does (.synKeyClear r k none) s [.regs, .mbx, .sec] fun t =>
      Answered 0x0D03 r 0 [] t ∧ t.slotOf k = ⟨0, 0x7FF, false, ((s.slotOf k).gen + 1) % 2 ^ 16, []⟩
        ∧ RegsBut [SEC_STATUS] s t :)
  ∧ (∀ (s : State) (r : SynReq) (k : Fin 4096) (n : Option Nat), s.synRefusal 0x0D03 none r = none → k = 0 →
    Does (.synKeyClear r k n) s [.mbx] fun t => Answered 0x0D03 r 0x0406 [] t :)
  ∧ (∀ (s : State) (r : SynReq) (k : Fin 4096) (v : KeySlot), s.synRefusal 0x0D04 none r = none → s.slotOf k = v →
    Does (.synKeyQuery r k) s [.mbx] fun t =>
      Answered 0x0D04 r 0 (leBytes 1 v.type ++ leBytes 2 v.owner ++ leBytes 1 (b2n v.wrappable) ++ leBytes 2 v.gen
        ++ leBytes 2 (min 65535 (s.refsOf k)) ++ leBytes 1 (b2n (s.slotPending k))) t :)
  ∧ (∀ (s : State) (r : SynReq) (n u : List Byte), s.synRefusal 0x0D05 none r = none → s.bit SEC_STATUS SEC_STATUS_ID_VALID = false →
    Does (.synSecAttest r n u) s [.mbx] fun t => Answered 0x0D05 r 0x0404 [] t :)
  ∧ (∀ (s : State) (r : SynReq) (n u : List Byte), s.synRefusal 0x0D05 none r = none → s.bit SEC_STATUS SEC_STATUS_ID_VALID = true →
    s.sec.signing = none →
    Does (.synSecAttest r n u) s [.sec] fun t => t.sec = { s.sec with signing := some (s.reportBytes n u, r) } :)
  ∧ (∀ (s : State) (r : SynReq) (n u : List Byte), s.synRefusal 0x0D05 none r = none → s.bit SEC_STATUS SEC_STATUS_ID_VALID = true →
    s.sec.signing.isSome = true → 8 ≤ s.sec.attest.length →
    Does (.synSecAttest r n u) s [.mbx] fun t => Answered 0x0D05 r 0x0310 [] t :)
  ∧ (∀ (s : State) (r : SynReq) (i : Byte) (tag : W32) (d : List Byte), s.synRefusal 0x0D06 none r = none → 8 ≤ i.toNat → i.toNat ≤ 15 →
    d.length = 64 → s.sec.log.length < 4096 →
    Does (.synSecExtend r i tag d) s [.mbx, .sec] fun t =>
      Tab.get mrZero t.sec.mr i.toNat = shake (Tab.get mrZero s.sec.mr i.toNat ++ leBytes 4 tag.toNat ++ d) 64
        ∧ Answered 0x0D06 r 0 (Tab.get mrZero t.sec.mr i.toNat) t
        ∧ t.sec.log = s.sec.log ++ [⟨i.toNat, tag.toNat, d, s.now⟩] ∧ t.sec.logTrunc = s.sec.logTrunc :)
  ∧ (∀ (s : State) (r : SynReq) (i : Byte) (tag : W32) (d : List Byte), s.synRefusal 0x0D06 none r = none → 8 ≤ i.toNat → i.toNat ≤ 15 →
    d.length = 64 → 4096 ≤ s.sec.log.length →
    Does (.synSecExtend r i tag d) s [.mbx, .sec] fun t =>
      Tab.get mrZero t.sec.mr i.toNat = shake (Tab.get mrZero s.sec.mr i.toNat ++ leBytes 4 tag.toNat ++ d) 64
        ∧ t.sec.log = s.sec.log ∧ t.sec.logTrunc = true :)
  ∧ (∀ (s : State) (r : SynReq) (i : Byte) (tag : W32) (d : List Byte), s.synRefusal 0x0D06 none r = none → (i.toNat < 8 ∨ 15 < i.toNat) →
    Does (.synSecExtend r i tag d) s [.mbx] fun t => Answered 0x0D06 r 0x0102 [] t :)
  ∧ (∀ (s : State) (r : SynReq) (f n : Nat), s.synRefusal 0x0D07 none r = none → n ≤ 256 →
    Does (.synSecLogRead r f n) s [.mbx] fun t =>
      Answered 0x0D07 r 0 (((s.sec.log.drop f).take n).map LogRec.bytes).flatten t :)
  ∧ (∀ (s : State) (r : SynReq), s.synRefusal 0x0D08 none r = none → s.bit SEC_STATUS SEC_STATUS_ID_VALID = false →
    Does (.synSecEnrol r) s [.regs, .free, .mbx, .sec, .flash] fun t =>
      t.flash.helper = s.entropy 6144 ∧ t.flash.cert = [] ∧ t.bit SEC_STATUS SEC_STATUS_ID_VALID = true
        ∧ t.bit SEC_STATUS SEC_STATUS_MFG_CERT = false ∧ Answered 0x0D08 r 0 t.sec.identity t
        ∧ t.sec.identity = identityPublic t.sec.seed :)
  ∧ (∀ (s : State) (r : SynReq), s.synRefusal 0x0D08 none r = none → s.bit SEC_STATUS SEC_STATUS_ID_VALID = true →
    Does (.synSecEnrol r) s [.mbx] fun t => Answered 0x0D08 r 0x0201 [] t :)
  ∧ (∀ (s : State) (r : SynReq) (c : List Byte), s.synRefusal 0x0D09 none r = none → c.length ≤ 57340 → s.certOk c = true →
    Does (.synSecCertSet r c) s [.regs, .mbx, .flash] fun t =>
      Answered 0x0D09 r 0 [] t ∧ t.flash = { s.flash with cert := c } ∧ t.bit SEC_STATUS SEC_STATUS_CERT = true
        ∧ t.bit SEC_STATUS SEC_STATUS_MFG_CERT = s.mfgOk c ∧ RegsBut [SEC_STATUS] s t :)
  ∧ (∀ (s : State) (r : SynReq) (c : List Byte), s.synRefusal 0x0D09 none r = none → s.certOk c = false →
    Does (.synSecCertSet r c) s [.mbx] fun t => Answered 0x0D09 r 0x0102 [] t :)
  ∧ (∀ (s : State) (r : SynReq), s.synRefusal 0x0D0A none r = none →
    Does (.synSecDebugChallenge r) s [.free, .mbx, .sec] fun t =>
      t.sec = { s.sec with challenge := some (s.entropy 32) } ∧ Answered 0x0D0A r 0 (s.entropy 32) t :)
  ∧ (∀ (s : State) (r : SynReq) (x : List Byte), s.synRefusal 0x0D0B none r = none →
    Does (.synSecDebugUnlock r x) s [.regs, .free, .mbx, .sec] fun t => s.tokenOk x = true →
      t.gf SEC_STATUS SEC_STATUS_DEBUG = Nat.lor (s.gf SEC_STATUS SEC_STATUS_DEBUG) (fieldLE x 4 4 % 16)
        ∧ Answered 0x0D0B r 0 (leBytes 4 (t.gf SEC_STATUS SEC_STATUS_DEBUG)) t
        ∧ (t.sec.log.getLast?).map (fun e => (e.index, e.digest))
          = (if s.sec.log.length < 4096 then some (4, shake (x.take 29920) 64)
            else (s.sec.log.getLast?).map (fun e => (e.index, e.digest))) :)
  ∧ (∀ (s : State) (r : SynReq) (x : List Byte), s.synRefusal 0x0D0B none r = none → s.tokenOk x = false →
    Does (.synSecDebugUnlock r x) s [.mbx] fun t => Answered 0x0D0B r 0x0405 [] t :)

/-- R324, R327, R328, R331 to R337, R339, R340: the aperture, its windows, translations, interrupts, resets and power
states of the host endpoint. The bit places of configuration space are the PCIe family's (log entry 8). -/
def Obligations.HostEndpointActs : Prop :=
  (∀ (s : State), s.trn.conns = [] → Does (.busMasterEnableClear) s [.regs, .host, .sto] fun t =>
      t.bme = false ∧ t.hostUp = false ∧ t.host.vecDue = []
        ∧ (∀ c ∈ t.sto.cmds, c.phase ≠ .moved → (c.op = 1 ∨ c.op = 2) → c.hostDown = true) :)
  ∧ (∀ (s : State) (v : Nat), v ∈ s.host.vecDue → s.trn.conns = [] →
    Does (.busMasterEnableClear) s [.regs, .host, .sto] fun t =>
      bitAt (t.rd (MSIX_PBA (v / 32))).toNat (v % 32) = true ∧ t.host.vecDue = [] :)
  ∧ (∀ (s : State), s.trn.conns = [] → s.iq = [] → s.sto.queues = [] → s.kv.jobs = [] → (∀ m, m < 8 → (s.mb m).session = none) →
    Does (.busMasterEnableSet) s (Part.storing ++ [.free, .rings, .kv, .fport, .trn, .sto, .inst, .iq]) fun t =>
      t.host = { s.host with cfg := Tab.set cfgReset s.host.cfg 4 (s.cfgRd 4 ||| 4) } :)
  ∧ (∀ (s : State) (off : BitVec 36) (len : Fin 4097) (p : Bool), s.claims = true →
    (s.aperture (off.toNat / 2 ^ 32)).en = true → bitAt (s.aperture (off.toNat / 2 ^ 32)).rights 0 = true →
    s.bit HBM_STATUS HBM_STATUS_READY = true →
    off.toNat % 2 ^ 32 + len.val ≤ 2 ^ (s.aperture (off.toNat / 2 ^ 32)).log2 →
    (s.load ((s.aperture (off.toNat / 2 ^ 32)).target + off.toNat % 2 ^ 32) len.val).1.isNone = true →
    Does (.apertureAccess off len none p) s (Part.reading ++ [.answer32, .answerErr]) fun t =>
      t.answer32 = s.bytes ((s.aperture (off.toNat / 2 ^ 32)).target + off.toNat % 2 ^ 32) len.val ∧ t.answerErr.isNone = true :)
  ∧ (∀ (s : State) (off : BitVec 36) (len : Fin 4097) (p : Bool) (b : List Byte), s.claims = true →
    (s.aperture (off.toNat / 2 ^ 32)).en = true → bitAt (s.aperture (off.toNat / 2 ^ 32)).rights 1 = true →
    s.bit HBM_STATUS HBM_STATUS_READY = true →
    off.toNat % 2 ^ 32 + b.length ≤ 2 ^ (s.aperture (off.toNat / 2 ^ 32)).log2 →
    inHbm ((s.aperture (off.toNat / 2 ^ 32)).target + off.toNat % 2 ^ 32) b.length = true → s.bit CKP_CTL CKP_CTL_EN = false →
    Does (.apertureAccess off len (some b) p) s Part.storing fun t =>
      t.bytes ((s.aperture (off.toNat / 2 ^ 32)).target + off.toNat % 2 ^ 32) b.length = b :)
  ∧ (∀ (s t : State) (off : BitVec 36) (len : Fin 4097) (p : Bool) (b : List Byte), s.bit CKP_CTL CKP_CTL_EN = false →
    exec (.apertureAccess off len (some b) p) s = .next t →
    ∀ a, a < hbmBytes → (a < (s.aperture (off.toNat / 2 ^ 32)).target + off.toNat % 2 ^ 32
      ∨ (s.aperture (off.toNat / 2 ^ 32)).target + off.toNat % 2 ^ 32 + b.length ≤ a) → t.byte a = s.byte a :)
  ∧ (∀ (s : State) (off : BitVec 36) (len : Fin 4097) (p : Bool), s.claims = true →
    ((s.aperture (off.toNat / 2 ^ 32)).en = false ∨ bitAt (s.aperture (off.toNat / 2 ^ 32)).rights 0 = false
      ∨ 2 ^ (s.aperture (off.toNat / 2 ^ 32)).log2 < off.toNat % 2 ^ 32 + len.val) →
    Does (.apertureAccess off len none p) s [.regs, .out, .host, .answer32, .answerErr] fun t =>
      t.answer32 = [] ∧ t.answerErr.isSome = true ∧ t.cfgBit 0x104 20 = true ∧ RegsBut [WIN_MISS] s t
        ∧ t.gf WIN_MISS WIN_MISS_READS = min (2 ^ 16 - 1) (s.gf WIN_MISS WIN_MISS_READS + 1) :)
  ∧ (∀ (s : State) (off : BitVec 36) (len : Fin 4097) (p : Bool) (b : List Byte), s.claims = true →
    ((s.aperture (off.toNat / 2 ^ 32)).en = false ∨ bitAt (s.aperture (off.toNat / 2 ^ 32)).rights 1 = false
      ∨ 2 ^ (s.aperture (off.toNat / 2 ^ 32)).log2 < off.toNat % 2 ^ 32 + b.length) →
    Does (.apertureAccess off len (some b) p) s [.regs, .out, .host] fun t =>
      RegsBut [WIN_MISS] s t ∧ t.gf WIN_MISS WIN_MISS_WRITES = min (2 ^ 16 - 1) (s.gf WIN_MISS WIN_MISS_WRITES + 1)
        ∧ (p = true → t.cfgBit 0x104 12 = true) ∧ (p = false → SameBut [.regs] s t) :)
  ∧ (∀ (s : State) (off : BitVec 36) (len : Fin 4097) (d : Option (List Byte)) (p : Bool), s.claims = false →
    Does (.apertureAccess off len d p) s [.out, .host, .answer32, .answerErr] fun t => t.answer32 = [] ∧ t.answerErr.isSome = true
      ∧ (s.host.flrBusy = false → s.safe = false → t.cfgBit 0x104 20 = true) :)
  ∧ (∀ (s : State) (pasid : Option (BitVec 20)) (page b : BitVec 52), s.atsOn = true → s.host.flrBusy = false →
    Does (.translationCompletion pasid page (some b) false) s [.free, .host] fun t =>
      t.host.atc.find? (fun e => e.1 == pasidKey pasid && e.2.1 == page.toNat) = some (pasidKey pasid, page.toNat, b.toNat)
        ∧ (s.host.atc.length ≤ 4096 → t.host.atc.length ≤ 4096) :)
  ∧ (∀ (s : State) (pasid : Option (BitVec 20)) (page : BitVec 52), s.atsOn = true → s.host.flrBusy = false →
    Does (.translationCompletion pasid page none false) s [] fun _ => True :)
  ∧ (∀ (s : State) (pasid : Option (BitVec 20)) (page : BitVec 52) (b : Option (BitVec 52)), s.atsOn = true →
    s.host.flrBusy = false →
    Does (.translationCompletion pasid page b true) s [.out] fun t =>
      t.out = s.out ++ [.message 0x01 [pasidKey pasid, page.toNat]] :)
  ∧ (∀ (s : State) (pasid : Option (BitVec 20)) (page : BitVec 52) (b : Option (BitVec 52)) (r : Bool), s.atsOn = false →
    Does (.translationCompletion pasid page b r) s [] fun _ => True :)
  ∧ (∀ (s : State) (pasid : Option (BitVec 20)) (page n : BitVec 52) (itag : Fin 32),
    Does (.invalidationRequest pasid page n itag) s [.host] fun t =>
      (∀ e ∈ s.host.atc, e ∈ t.host.atc ∨ (e.1 = pasidKey pasid ∧ page.toNat ≤ e.2.1 ∧ e.2.1 < page.toNat + n.toNat))
        ∧ (∀ e ∈ t.host.atc, e ∈ s.host.atc ∧ ¬(e.1 = pasidKey pasid ∧ page.toNat ≤ e.2.1 ∧ e.2.1 < page.toNat + n.toNat))
        ∧ t.host.invalidations = s.host.invalidations + 1
        ∧ t.host.inval = s.host.inval ++ [⟨pasidKey pasid, page.toNat, n.toNat, itag.val⟩] :)
  ∧ (∀ (s : State) (itag : Fin 32) (i : Inval), s.host.inval.find? (fun x => x.itag == itag.val) = some i →
    s.host.flrBusy = false → s.safe = false →
    Does (.invalidationCompletion itag) s [.out, .host] fun t =>
      t.out = s.out ++ [.message 0x02 [itag.val]] ∧ t.host = { s.host with inval := s.host.inval.erase i } :)
  ∧ (∀ (s : State) (tag : BitVec 10), (∀ e ∈ s.host.retired, e.1 ≠ tag.toNat ∨ 15625000 ≤ s.clock - e.2) →
    Does (.completionTimeout tag) s [.out, .host] fun t =>
      (tag.toNat, s.clock) ∈ t.host.retired ∧ t.cfgBit 0x104 14 = true ∧ t.cfgBit 0x68 17 = true :)
  ∧ (∀ (s : State) (tag : BitVec 10), (tag.toNat, s.clock) ∈ s.host.retired →
    Does (.completionTimeout tag) s [] fun _ => True :)
  ∧ (∀ (s : State) (v : Fin 2048), v.val ∈ s.host.vecDue → s.hostUp = true → s.vecBlocked v.val = false →
    Does (.msixSend v) s [.regs, .out, .host] fun t =>
      t.out = s.out ++ [.msix v.val ((s.rd (MSIX_ADDR_LO v.val)).toNat + (s.rd (MSIX_ADDR_HI v.val)).toNat * 2 ^ 32)
          (s.rd (MSIX_DATA v.val)).toNat]
        ∧ bitAt (t.rd (MSIX_PBA (v.val / 32))).toNat (v.val % 32) = false ∧ RegsBut [MSIX_PBA (v.val / 32)] s t
        ∧ (s.host.link = .l1 → t.host.link = .l0) :)
  ∧ (∀ (s : State) (v : Fin 2048), v.val ∈ s.host.vecDue → s.host.flrBusy = false → s.safe = false → s.vecBlocked v.val = true →
    Does (.msixSend v) s [.regs, .host] fun t =>
      bitAt (t.rd (MSIX_PBA (v.val / 32))).toNat (v.val % 32) = true ∧ RegsBut [MSIX_PBA (v.val / 32)] s t :)
  ∧ (∀ (s : State) (v : Fin 2048), v.val ∉ s.host.vecDue → bitAt (s.rd (MSIX_PBA (v.val / 32))).toNat (v.val % 32) = false →
    Does (.msixSend v) s [] fun _ => True :)
  ∧ (∀ (s : State), s.trn.conns = [] → s.sto.cmds = [] → s.inst = [] → s.iq = [] →
    Does (.initiateFunctionLevelReset) s [.regs, .host, .sto, .sec] fun t =>
      t.host = { s.host with flrBusy := true, winActive := [], atc := [], inval := [], vecDue := [], cfg := cfgAfterFlr s.host.cfg }
        ∧ t.bme = false ∧ t.mse = false ∧ t.rd WIN_MISS = s.rd WIN_MISS
        ∧ (∀ w, w < 16 → t.rd (WIN_CFG w) = regReset (WIN_CFG w)) ∧ t.bit WIN_COMMIT WIN_COMMIT_PENDING = false
        ∧ (∀ v, v < 64 → t.rd (MSIX_PBA v) = 0) :)
  ∧ (∀ (s : State), Does (.functionLevelResetDone) s [.host] fun t => t.host = { s.host with flrBusy := false } :)
  ∧ (∀ (s : State), s.trn.conns = [] → s.sto.cmds = [] → s.host.vecDue = [] →
    Does (.d3hot) s [.host, .sto] fun t =>
      t.bme = false ∧ t.mse = false ∧ t.host.link = .l1 ∧ t.cfgRd 4 = s.cfgRd 4 :)
  ∧ (∀ (s : State), (s.cfgBit 0x04 2 = false ∨ s.safe = true) →
    Does (.d0) s [.host] fun t =>
      t.host = { s.host with cfg := Tab.set cfgReset s.host.cfg 0x44 (s.cfgRd 0x44 &&& ~~~3), link := if s.host.link = .l2 then .l2 else .l0 } :)
  ∧ (∀ (s : State), s.trn.conns = [] → s.iq = [] → s.sto.queues = [] → s.kv.jobs = [] → (∀ m, m < 8 → (s.mb m).session = none) →
    Does (.d0) s (Part.storing ++ [.free, .rings, .kv, .fport, .trn, .sto, .inst, .iq]) fun t =>
      t.mse = s.cfgBit 0x04 1 ∧ t.bme = s.cfgBit 0x04 2 :)
  ∧ (∀ (s : State), Does (.pmeTurnOff) s [.out, .host] fun t =>
      t.out = s.out ++ [.message 0x1B []] ∧ t.host = { s.host with link := .l2 } :)
  ∧ (∀ (s : State), s.cfgBit 0x70 1 = true → s.host.link = .l0 →
    Does (.l1Entry) s [.host] fun t => t.host = { s.host with link := .l1 } :)
  ∧ (∀ (s : State), (s.cfgBit 0x70 1 = false ∨ s.host.link ≠ .l0) → Does (.l1Entry) s [] fun _ => True :)
  ∧ (∀ (s : State) (off : BitVec 36) (len : Fin 4097) (d : Option (List Byte)) (p : Bool), s.claims = true →
    (s.aperture (off.toNat / 2 ^ 32)).en = true →
    bitAt (s.aperture (off.toNat / 2 ^ 32)).rights (if d.isSome then 1 else 0) = true →
    off.toNat % 2 ^ 32 + (match d with | some b => b.length | none => len.val) ≤ 2 ^ (s.aperture (off.toNat / 2 ^ 32)).log2 →
    (s.aperture (off.toNat / 2 ^ 32)).target + off.toNat % 2 ^ 32 < hbmBytes → s.bit HBM_STATUS HBM_STATUS_READY = false →
    Does (.apertureAccess off len d p) s [.out, .hbm, .host] fun t =>
      let a := (s.aperture (off.toNat / 2 ^ 32)).target + off.toNat % 2 ^ 32
      let n := match d with | some b => b.length | none => len.val
      (∀ r ∈ s.hbm.queue, r ∈ t.hbm.queue)
        ∧ (n ≠ 0 → a % 64 + n ≤ 64 → t.hbm.queue = s.hbm.queue ++ [⟨6, a, n, d, p, false⟩]) :)

/-- R328, R330, R342: the commits of the window tables and the requests of the host endpoint. Payload layouts are the model's (log entry 10). -/
def Obligations.HostWindowsAreCommitted : Prop :=
  (∀ (s : State) (q : Requester) (v : W32), winWrites q = true → s.hostDiscards q = false → s.blockDown 4 = false →
    s.bit WIN_COMMIT WIN_COMMIT_PENDING = false → s.winCheck = none →
    Does (.winCommit q v) s [.regs] fun t =>
      t.bit WIN_COMMIT WIN_COMMIT_PENDING = true ∧ t.gf WIN_COMMIT WIN_COMMIT_REFUSAL = 0 ∧ RegsBut [WIN_COMMIT] s t :)
  ∧ (∀ (s : State) (q : Requester) (v : W32) (w : Nat), winWrites q = true → s.hostDiscards q = false → s.blockDown 4 = false →
    s.bit WIN_COMMIT WIN_COMMIT_PENDING = false → w < 16 → s.bit (WIN_CFG w) WIN_CFG_EN = true →
    (s.gf (WIN_CFG w) WIN_CFG_LOG2SIZE < 12 ∨ 32 < s.gf (WIN_CFG w) WIN_CFG_LOG2SIZE
      ∨ s.gf (WIN_TARGET w) WIN_TARGET_TARGET * 4096 % 2 ^ s.gf (WIN_CFG w) WIN_CFG_LOG2SIZE ≠ 0) →
    Does (.winCommit q v) s [.regs] fun t => t.gf WIN_COMMIT WIN_COMMIT_REFUSAL = 0x06E0
      ∧ t.bit WIN_COMMIT WIN_COMMIT_PENDING = false ∧ RegsBut [WIN_COMMIT] s t :)
  ∧ (∀ (s : State) (q : Requester) (v : W32), s.bit WIN_COMMIT WIN_COMMIT_PENDING = true →
    Does (.winCommit q v) s [] fun _ => True :)
  ∧ (∀ (s : State), s.bit WIN_COMMIT WIN_COMMIT_PENDING = true →
    Does (.winActivate) s [.regs, .host] fun t =>
      (∀ w, w < 16 → t.aperture w = s.winStaged w) ∧ t.bit WIN_COMMIT WIN_COMMIT_PENDING = false ∧ RegsBut [WIN_COMMIT] s t :)
  ∧ (∀ (s : State), s.bit WIN_COMMIT WIN_COMMIT_PENDING = false → Does (.winActivate) s [] fun _ => True :)
  ∧ (∀ (s : State) (q : Requester) (v : W32), coreWrites q = true → s.bit HWIN_COMMIT HWIN_COMMIT_PENDING = false →
    s.blockDown 16 = false → s.hwinCheck s.hwinTable = none →
    Does (.hwinCommit q v) s Part.reading fun t =>
      t.bit HWIN_COMMIT HWIN_COMMIT_PENDING = true ∧ t.gf HWIN_COMMIT HWIN_COMMIT_REFUSAL = 0
        ∧ (s.unmarked s.hwinBase 8192 → RegsBut [HWIN_COMMIT] s t ∧ SameBut [.regs, .hbm, .host] s t)
        ∧ t.host.hwin = s.host.hwin
        ∧ (∀ h, h < 512 → t.host.hwinNext.map (fun m => Tab.get (fun _ => HWin.off) m h)
          = some (hwinEntry (s.bytes (s.hwinBase + h * 16) 16))) :)
  ∧ (∀ (s : State) (q : Requester) (v : W32), coreWrites q = true → s.bit HWIN_COMMIT HWIN_COMMIT_PENDING = false →
    s.blockDown 16 = false → inHbm s.hwinBase 8192 = false →
    Does (.hwinCommit q v) s Part.reading fun t => t.gf HWIN_COMMIT HWIN_COMMIT_REFUSAL = 0x06E2
      ∧ (s.unmarked s.hwinBase 8192 → RegsBut [HWIN_COMMIT] s t ∧ SameBut [.regs, .hbm] s t) :)
  ∧ (∀ (s : State) (q : Requester) (v : W32), coreWrites q = false → Does (.hwinCommit q v) s [] fun _ => True :)
  ∧ (∀ (s : State) (m : Tab HWin), s.host.hwinNext = some m →
    Does (.hwinCopyDone) s [.regs, .host] fun t => t.host = { s.host with hwin := m, hwinNext := none }
      ∧ t.bit HWIN_COMMIT HWIN_COMMIT_PENDING = false ∧ RegsBut [HWIN_COMMIT] s t :)
  ∧ (∀ (s : State) (r : SynReq) (first : Nat) (es : List (List Byte)), s.synRefusal 0x0E00 (some 0) r = none →
    first + es.length ≤ 512 → s.bit HWIN_COMMIT HWIN_COMMIT_PENDING = false →
    s.hwinCheck (s.hwinTable.take first ++ es.map (fun e => hwinEntry (fit 16 e)) ++ s.hwinTable.drop (first + es.length)) = none →
    s.bit CKP_CTL CKP_CTL_EN = false →
    Does (.synHostWinSet r first es) s Part.storing fun t => Answered 0x0E00 r 0 [] t
      ∧ t.bytes (s.hwinBase + first * 16) (es.length * 16) = (es.map (fit 16)).flatten
      ∧ t.bit HWIN_COMMIT HWIN_COMMIT_PENDING = true
      ∧ (∀ h, h < es.length → t.host.hwinNext.map (fun m => Tab.get (fun _ => HWin.off) m (first + h))
        = (es[h]?).map (fun e => hwinEntry (fit 16 e))) :)
  ∧ (∀ (s : State) (r : SynReq) (first : Nat) (es : List (List Byte)), s.synRefusal 0x0E00 (some 0) r = none →
    first + es.length ≤ 512 → s.bit HWIN_COMMIT HWIN_COMMIT_PENDING = true →
    Does (.synHostWinSet r first es) s [.mbx] fun t => Answered 0x0E00 r 0x0201 [] t :)
  ∧ (∀ (s : State) (r : SynReq) (first : Nat) (es : List (List Byte)), s.synRefusal 0x0E00 (some 0) r = none →
    first + es.length ≤ 512 → s.bit HWIN_COMMIT HWIN_COMMIT_PENDING = false → inHbm s.hwinBase 8192 = false →
    Does (.synHostWinSet r first es) s Part.reading fun t => Answered 0x0E00 r 0x06E2 [] t
      ∧ t.gf HWIN_COMMIT HWIN_COMMIT_REFUSAL = 0x06E2 :)
  ∧ (∀ (s : State) (r : SynReq) (first n : Nat), s.synRefusal 0x0E01 (some 0) r = none → first + n ≤ 512 →
    Does (.synHostWinQuery r first n) s [.mbx] fun t =>
      Answered 0x0E01 r 0 ((List.range n).map (fun k => (Tab.get (fun _ => HWin.off) s.host.hwin (first + k)).bytes)).flatten t :)
  ∧ (∀ (s : State) (r : SynReq), s.synRefusal 0x0E02 (some 0) r = none →
    Does (.synHostQuery r) s [.mbx] fun t =>
      Answered 0x0E02 r 0 (leBytes 4 (s.cfgRd 0x70).toNat ++ leBytes 1 ((s.cfgRd 0x44).toNat % 4)
        ++ leBytes 4 (s.cfgRd 0x104).toNat ++ leBytes 4 (s.cfgRd 0x110).toNat ++ leBytes 4 s.host.atc.length
        ++ leBytes 4 s.host.invalidations ++ leBytes 4 (s.rd WIN_MISS).toNat) t :)

/-- R346 to R351, R353, R354, R357: doorbells of the instance pages, transmit descriptors, instance states and queues. Payload layouts are the model's (log entry 10). -/
def Obligations.InstancesServeTheirQueues : Prop :=
  (∀ (s : State) (i : Fin 2048) (ix : Fin 64) (v : W32) (key : Nat) (q : IQueue), s.pageOpen i.val = true →
    s.iqLocal i.val .receive ix.val = some (key, q) → (v.toNat % 2 ^ 16 + 2 ^ 16 - q.head) % 2 ^ 16 ≤ 2 ^ q.log2n →
    (∀ e ∈ s.trn.conns, e.2.consumer ≠ 4) → s.pkt.queue = [] → s.pkt.held = [] →
    Does (.bufferTail i ix v) s [.iq] fun t => t.iqAt key = some { q with tail := v.toNat % 2 ^ 16 } :)
  ∧ (∀ (s : State) (i : Fin 2048) (ix : Fin 64) (v : W32) (key : Nat) (q : IQueue), s.pageOpen i.val = true →
    s.iqLocal i.val .transmit ix.val = some (key, q) → (v.toNat % 2 ^ 16 + 2 ^ 16 - q.head) % 2 ^ 16 ≤ 2 ^ q.log2n →
    Does (.descriptorTail i ix v) s [.iq] fun t => t.iqAt key = some { q with tail := v.toNat % 2 ^ 16 } :)
  ∧ (∀ (s : State) (i : Fin 2048) (ix : Fin 64) (v : W32) (key : Nat) (q : IQueue), s.pageOpen i.val = true →
    s.iqLocal i.val .transport ix.val = some (key, q) → (v.toNat % 2 ^ 16 + 2 ^ 16 - q.head) % 2 ^ 16 ≤ 2 ^ q.log2n →
    Does (.requestTail i ix v) s [.iq] fun t => t.iqAt key = some { q with tail := v.toNat % 2 ^ 16 } :)
  ∧ (∀ (s : State) (i : Fin 2048) (ix : Fin 64) (v : W32) (key : Nat) (q : IQueue), s.pageOpen i.val = true →
    s.iqLocal i.val .transport ix.val = some (key, q) → 2 ^ q.log2n < (v.toNat % 2 ^ 16 + 2 ^ 16 - q.head) % 2 ^ 16 →
    Does (.requestTail i ix v) s [.regs, .hostMem, .free, .out, .mbx, .host, .inst, .iq] fun t =>
      t.iqAt key = some { q with frozen := true, mute := true } ∧ t.instOf q.inst = { s.instOf q.inst with event := true } :)
  ∧ (∀ (s : State) (i : Fin 2048) (ix : Fin 64) (v : W32), s.pageOpen i.val = true → s.iqLocal i.val .transmit ix.val = none →
    Does (.descriptorTail i ix v) s [.inst] fun t =>
      t.instOf i.val = { s.instOf i.val with stray := min 15 ((s.instOf i.val).stray + 1) } :)
  ∧ (∀ (s : State) (i : Fin 2048) (ix : Fin 64) (v : W32), s.pageOpen i.val = false →
    Does (.descriptorTail i ix v) s [] fun _ => True :)
  ∧ (∀ (s : State) (i : Fin 2048) (ix : Fin 64) (v : W32), s.pageOpen i.val = false →
    Does (.requestTail i ix v) s [] fun _ => True :)
  ∧ (∀ (s : State) (i : Fin 2048) (k : QKind) (ix : Fin 64) (v : W32) (key : Nat) (q : IQueue), s.pageOpen i.val = true →
    s.iqLocal i.val k ix.val = some (key, q) → q.owed = [] → q.deleting = none →
    Does (.completionHead i k ix v) s [.iq] fun t => t.iqAt key = some { q with cplHead := v.toNat % 2 ^ 16 } :)
  ∧ (∀ (s : State) (i : Fin 2048) (k : QKind) (ix : Fin 64) (v : W32) (key : Nat) (q : IQueue) (c : HeldCpl), s.pageOpen i.val = true →
    s.iqLocal i.val k ix.val = some (key, q) → q.owed = [c] → q.mute = false → q.deleting = none → s.mayComplete q.inst = true →
    (q.cplTail + 2 ^ 16 - v.toNat % 2 ^ 16) % 2 ^ 16 < 2 ^ q.log2n →
    Does (.completionHead i k ix v) s [.regs, .hostMem, .host, .iq] fun t =>
      t.iqAt key = some { q with cplHead := v.toNat % 2 ^ 16, cplTail := (q.cplTail + 1) % 2 ^ 16, owed := [] }
        ∧ t.hostBytes (s.instPasid q.inst) (q.cplRing + q.cplTail % 2 ^ q.log2n * 16) 12 = (fit 16 c.bytes).take 12 :)
  ∧ (∀ (s : State) (i : Fin 2048) (k : QKind) (ix : Fin 64) (v : W32), s.pageOpen i.val = true → s.iqLocal i.val k ix.val = none →
    Does (.completionHead i k ix v) s [.inst] fun t =>
      t.instOf i.val = { s.instOf i.val with stray := min 15 ((s.instOf i.val).stray + 1) } :)
  ∧ (∀ (s : State) (q : Fin 8192) (x : IQueue) (d : List Byte), s.iqAt (qkey .transmit q.val) = some x → s.iqFetches x = true →
    0 < x.posted → s.hostUp = true → s.pktEn = true → s.shaperPasses q x → x.owed = [] → x.room = true → x.mute = false →
    x.kind = .transmit → d = s.hostBytes (s.instPasid x.inst) (x.ring + x.head % 2 ^ x.log2n * 16) 16 → 1 ≤ fieldLE d 8 4 →
    fieldLE d 8 4 ≤ 9216 - ((s.channel x.channel).map (fun c => fieldLE c 4 1)).getD 0 →
    Does (.transmitDescriptorFetch q .ok) s [.regs, .hostMem, .chanQ, .host, .iq] fun t =>
      t.chanQ = s.chanQ ++ [⟨x.channel, false, s.hostBytes (s.instPasid x.inst) (fieldLE d 0 8) (fieldLE d 8 4)⟩]
        ∧ t.iqAt (qkey .transmit q.val)
          = some { x with head := (x.head + 1) % 2 ^ 16, cplTail := (x.cplTail + 1) % 2 ^ 16, qtoken := false }
        ∧ t.hostBytes (s.instPasid x.inst) (x.cplRing + x.cplTail % 2 ^ x.log2n * 16) 4 = leBytes 2 (fieldLE d 12 2) ++ [0, 0] :)
  ∧ (∀ (s : State) (q : Fin 8192) (x : IQueue), s.iqAt (qkey .transmit q.val) = some x → s.iqFetches x = true →
    0 < x.posted → s.hostUp = true → s.pktEn = true → x.qshEn = true →
    (s.bucket false x.qshaper).cfg.en = true → (s.bucket false x.qshaper).tokens = 0 → x.qtoken = false →
    Does (.transmitDescriptorFetch q .ok) s [] fun _ => True :)
  ∧ (∀ (s : State) (q : Fin 8192) (x : IQueue) (d : List Byte), s.iqAt (qkey .transmit q.val) = some x → s.iqFetches x = true →
    0 < x.posted → s.hostUp = true → s.pktEn = true → x.qshEn = true → x.owed = [] → x.room = true → x.mute = false →
    x.kind = .transmit → d = s.hostBytes (s.instPasid x.inst) (x.ring + x.head % 2 ^ x.log2n * 16) 16 → 1 ≤ fieldLE d 8 4 →
    fieldLE d 8 4 ≤ 9216 - ((s.channel x.channel).map (fun c => fieldLE c 4 1)).getD 0 →
    (s.bucket false x.qshaper).cfg.en = true → (s.bucket false x.qshaper).cfg.rate ≠ 0 → 0 < (s.bucket false x.qshaper).tokens →
    s.shaperUsers x.qshaper = [4096 + q.val] →
    Does (.transmitDescriptorFetch q .ok) s [.regs, .hostMem, .lfsr, .guards, .free, .time, .chanQ, .host, .iq] fun t =>
      t.chanQ = s.chanQ ++ [⟨x.channel, false, s.hostBytes (s.instPasid x.inst) (fieldLE d 0 8) (fieldLE d 8 4)⟩]
        ∧ (t.bucket false x.qshaper).tokens = (s.bucket false x.qshaper).tokens - 1 :)
  ∧ (∀ (s : State) (q : Fin 8192) (x : IQueue), s.iqAt (qkey .transmit q.val) = some x → s.iqFetches x = true →
    0 < x.posted → s.hostUp = true → s.pktEn = true → s.shaperPasses q x → x.owed = [] → x.room = true → x.mute = false →
    Does (.transmitDescriptorFetch q .untranslated) s [.regs, .hostMem, .out, .mbx, .host, .inst, .iq] fun t =>
      t.iqAt (qkey .transmit q.val) = some { x with
        head := (x.head + 1) % 2 ^ 16
        cplTail := (x.cplTail + 1) % 2 ^ 16
        qtoken := false
        frozen := true } :)
  ∧ (∀ (s : State) (q : Fin 8192) (out : DmaOut), s.iqAt (qkey .transmit q.val) = none →
    Does (.transmitDescriptorFetch q out) s [] fun _ => True :)
  ∧ (∀ (s : State) (r : SynReq) (i : Fin 2048) (pasid : W32) (vf vc : W16) (a b c d : Byte) (se : Session),
    s.synRefusal 0x0F00 (some 12) r = none → s.sessionOf r = some se → (s.instOf i.val).state = .free → pasid.toNat ≤ 1048575 →
    vf.toNat ≤ 2047 → 1 ≤ vc.toNat → vc.toNat ≤ 256 → a.toNat ≤ 64 → b.toNat ≤ 64 → c.toNat ≤ 64 → d.toNat ≤ 64 →
    Does (.synInstCreate r (some i) pasid vf vc a b c d) s [.mbx, .inst] fun t => Answered 0x0F00 r 0 (leBytes 2 i.val) t
      ∧ t.instOf i.val = { s.instOf i.val with
          state := .configured
          session := se.id
          pasid := pasid.toNat
          vecFirst := vf.toNat
          vecCount := vc.toNat
          maxq := [a.toNat, b.toNat, c.toNat, d.toNat]
          vecPending := [] } :)
  ∧ (∀ (s : State) (r : SynReq) (i : Option (Fin 2048)) (pasid : W32) (vf vc : W16) (a b c d : Byte),
    s.synRefusal 0x0F00 (some 12) r = none → (s.sessionOf r).isSome = true →
    (1048575 < pasid.toNat ∨ 2047 < vf.toNat ∨ vc.toNat = 0 ∨ 256 < vc.toNat ∨ 64 < a.toNat ∨ 64 < d.toNat) →
    Does (.synInstCreate r i pasid vf vc a b c d) s [.mbx] fun t => Answered 0x0F00 r 0x0102 [] t :)
  ∧ (∀ (s : State) (r : SynReq), s.synRefusal 0x0F01 (some 12) r = none → synInst r < 2048 → s.ownsInst r (synInst r) = true →
    (s.instOf (synInst r)).state = .configured → s.instCheck (synInst r) = none →
    Does (.synInstEnable r) s [.mbx, .inst] fun t => Answered 0x0F01 r 0 [] t
      ∧ t.instOf (synInst r) = { s.instOf (synInst r) with state := .enabled } :)
  ∧ (∀ (s : State) (r : SynReq) (c : Nat), s.synRefusal 0x0F01 (some 12) r = none → synInst r < 2048 → s.ownsInst r (synInst r) = true →
    (s.instOf (synInst r)).state = .configured → s.instCheck (synInst r) = some c →
    Does (.synInstEnable r) s [.mbx] fun t => Answered 0x0F01 r c [] t ∧ (c = 0x06F0 ∨ c = 0x06F1 ∨ c = 0x06F2) :)
  ∧ (∀ (s : State) (r : SynReq), s.synRefusal 0x0F01 (some 12) r = none → synInst r < 2048 → s.ownsInst r (synInst r) = false →
    Does (.synInstEnable r) s [.mbx] fun t => Answered 0x0F01 r 0x0407 [] t :)
  ∧ (∀ (s : State) (r : SynReq), s.synRefusal 0x0F02 (some 12) r = none → synInst r < 2048 → s.ownsInst r (synInst r) = true →
    (s.instOf (synInst r)).state = .enabled → s.instHasQueue (synInst r) = false →
    Does (.synInstDisable r) s [.mbx, .inst] fun t => Answered 0x0F02 r 0 [] t
      ∧ t.instOf (synInst r) = { s.instOf (synInst r) with state := .configured } :)
  ∧ (∀ (s : State) (r : SynReq), s.synRefusal 0x0F02 (some 12) r = none → synInst r < 2048 → s.ownsInst r (synInst r) = true →
    (s.instOf (synInst r)).state = .enabled → s.instHasQueue (synInst r) = true →
    Does (.synInstDisable r) s [.mbx] fun t => Answered 0x0F02 r 0x020A [] t :)
  ∧ (∀ (s : State) (r : SynReq), s.synRefusal 0x0F03 (some 12) r = none → synInst r < 2048 → s.ownsInst r (synInst r) = true →
    (s.instOf (synInst r)).state ≠ .free → (∀ e ∈ s.trn.conns, e.2.inst ≠ some (synInst r)) →
    (∀ e ∈ s.iq, e.2.inst = synInst r → e.2.deleting = none) → (∀ e ∈ s.sto.queues, e.2.inst ≠ synInst r) →
    s.pkt.queue = [] → s.pkt.held = [] →
    Does (.synInstReset r) s [.mbx, .host, .inst, .iq] fun t =>
      Answered 0x0F03 r 0 (leBytes 2 (((s.instOf (synInst r)).gen + 1) % 2 ^ 16)) t
        ∧ t.instOf (synInst r) = { s.instOf (synInst r) with
            state := .configured
            gen := ((s.instOf (synInst r)).gen + 1) % 2 ^ 16
            event := true
            vecPending := [] }
        ∧ t.host = { s.host with vecDue := s.host.vecDue.filter (fun v => !(s.instDue (synInst r)).contains v) }
        ∧ (∀ e ∈ t.iq, e ∈ s.iq ∧ e.2.inst ≠ synInst r) :)
  ∧ (∀ (s : State) (r : SynReq), s.synRefusal 0x0F03 (some 12) r = none → synInst r < 2048 → s.ownsInst r (synInst r) = true →
    (s.instOf (synInst r)).state = .free →
    Does (.synInstReset r) s [.mbx] fun t => Answered 0x0F03 r 0x0201 [] t :)
  ∧ (∀ (s : State) (r : SynReq), s.synRefusal 0x0F04 (some 12) r = none → synInst r < 2048 → s.ownsInst r (synInst r) = true →
    (s.instOf (synInst r)).state = .configured →
    Does (.synInstDestroy r) s [.mbx, .trn, .inst] fun t => Answered 0x0F04 r 0 [] t
      ∧ (t.instOf (synInst r)).state = .free ∧ (t.instOf (synInst r)).gen = (s.instOf (synInst r)).gen
      ∧ (∀ e ∈ s.trn.conns, (s.cn e.1).inst = some (synInst r) → e.2.inst = some (synInst r) → (t.cn e.1).inst = none) :)
  ∧ (∀ (s : State) (r : SynReq), s.synRefusal 0x0F04 (some 12) r = none → synInst r < 2048 → s.ownsInst r (synInst r) = true →
    (s.instOf (synInst r)).state ≠ .configured →
    Does (.synInstDestroy r) s [.mbx] fun t => Answered 0x0F04 r 0x0201 [] t :)
  ∧ (∀ (s : State) (r : SynReq) (k : QKind) (p : InstQueueSpec) (n ix : Nat), s.synRefusal 0x0F05 (some 12) r = none →
    synInst r < 2048 → s.ownsInst r (synInst r) = true → s.instQueueCheck (synInst r) k p = none → n < kindLimit k →
    (s.iqAt (qkey k n)).isNone = true → (∀ m, m < n → (s.iqAt (qkey k m)).isSome = true) → ix < 64 →
    (∀ e ∈ s.iq, e.2.inst = synInst r → e.2.kind = k → e.2.localIx ≠ ix) →
    (∀ j, j < ix → ∃ e ∈ s.iq, e.2.inst = synInst r ∧ e.2.kind = k ∧ e.2.localIx = j) →
    Does (.synInstQueueCreate r k p) s [.mbx, .trn, .iq] fun t => Answered 0x0F05 r 0 (leBytes 2 n ++ leBytes 1 ix) t
      ∧ t.iqAt (qkey k n) = some ⟨k, synInst r, ix, p.ring.toNat, p.cplRing.toNat, p.log2n.toNat, p.vector.toNat, p.buflen.toNat,
          p.channel.toNat, p.qshaper.toNat, p.qshEn, false, 0, 0, 0, 0, false, false, none, 0, []⟩ :)
  ∧ (∀ (s : State) (r : SynReq) (k : QKind) (p : InstQueueSpec), s.synRefusal 0x0F05 (some 12) r = none →
    synInst r < 2048 → s.ownsInst r (synInst r) = true → (s.instOf (synInst r)).state ≠ .enabled →
    Does (.synInstQueueCreate r k p) s [.mbx] fun t => Answered 0x0F05 r 0x06F3 [] t :)
  ∧ (∀ (s : State) (r : SynReq) (k : QKind) (q : Fin 8192) (x : IQueue), s.synRefusal 0x0F06 (some 12) r = none →
    synInst r < 2048 → s.ownsInst r (synInst r) = true → s.iqOwned (synInst r) k q.val = some x → x.deleting = none →
    x.outstanding = 0 → x.owed = [] → s.pkt.queue = [] → s.pkt.held = [] →
    Does (.synInstQueueDelete r k q) s [.mbx, .iq] fun t => Answered 0x0F06 r 0 [] t ∧ (t.iqAt (qkey k q.val)).isNone = true :)
  ∧ (∀ (s : State) (r : SynReq) (k : QKind) (q : Fin 8192) (x : IQueue), s.synRefusal 0x0F06 (some 12) r = none →
    synInst r < 2048 → s.ownsInst r (synInst r) = true → s.iqOwned (synInst r) k q.val = some x → x.deleting = none →
    x.outstanding ≠ 0 → s.pkt.queue = [] → s.pkt.held = [] →
    Does (.synInstQueueDelete r k q) s [.iq] fun t => t.iqAt (qkey k q.val) = some { x with deleting := some r } :)
  ∧ (∀ (s : State) (r : SynReq) (k : QKind) (q : Fin 8192) (x : IQueue), s.synRefusal 0x0F07 (some 12) r = none →
    synInst r < 2048 → s.ownsInst r (synInst r) = true → s.iqOwned (synInst r) k q.val = some x → x.frozen = true →
    x.outstanding = 0 → x.owed = [] → s.pkt.queue = [] → s.pkt.held = [] →
    Does (.synInstQueueRestart r k q) s [.mbx, .iq] fun t => Answered 0x0F07 r 0 [] t
      ∧ t.iqAt (qkey k q.val) = some { x with frozen := false, mute := false } :)
  ∧ (∀ (s : State) (r : SynReq) (k : QKind) (q : Fin 8192) (x : IQueue), s.synRefusal 0x0F07 (some 12) r = none →
    synInst r < 2048 → s.ownsInst r (synInst r) = true → s.iqOwned (synInst r) k q.val = some x → x.frozen = false →
    Does (.synInstQueueRestart r k q) s [.mbx] fun t => Answered 0x0F07 r 0x0201 [] t :)
  ∧ (∀ (s : State) (r : SynReq) (ns : List (BitVec 20)) (a : Bool), s.synRefusal 0x0F08 (some 12) r = none →
    synInst r < 2048 → s.ownsInst r (synInst r) = true → (s.instOf (synInst r)).state ≠ .free →
    (∀ n ∈ ns, (s.cn n.toNat).state = csInit ∧ ((s.cn n.toNat).inst = none ∨ (s.cn n.toNat).inst = some (synInst r))) →
    Does (.synInstResAssign r ns a) s [.mbx, .trn] fun t => Answered 0x0F08 r 0 [] t
      ∧ (∀ n ∈ ns, (t.cn n.toNat).inst = if a then some (synInst r) else none) :)
  ∧ (∀ (s : State) (r : SynReq) (n : BitVec 20) (a : Bool), s.synRefusal 0x0F08 (some 12) r = none →
    synInst r < 2048 → s.ownsInst r (synInst r) = true → (s.cn n.toNat).state ≠ csInit →
    Does (.synInstResAssign r [n] a) s [.mbx] fun t => Answered 0x0F08 r 0x0201 [] t :)
  ∧ (∀ (s : State) (r : SynReq) (m : Fin 8), s.synRefusal 0x0F09 (some 12) r = none → r.port = .mailbox m →
    synInst r < 2048 → s.ownsInst r (synInst r) = true → s.iq = [] → s.sto.queues = [] → s.trn.conns = [] →
    Does (.synInstQuery r) s [.mbx] fun t => Answered 0x0F09 r 0
      (leBytes 1 (instStateCode (s.instOf (synInst r)).state) ++ leBytes 4 (s.instOf (synInst r)).session.toNat
        ++ leBytes 4 (s.instOf (synInst r)).pasid ++ leBytes 2 (s.instOf (synInst r)).gen
        ++ leBytes 2 (s.instOf (synInst r)).vecFirst ++ leBytes 2 (s.instOf (synInst r)).vecCount
        ++ ((s.instOf (synInst r)).maxq.map (leBytes 1)).flatten ++ leBytes 4 0 ++ leBytes 2 0
        ++ leBytes 4 (s.instOf (synInst r)).late) t :)

/-- R361 to R368, R372, R373, R375: device enable, the firmware load, mailboxes and sessions. An image's verification is an
uninterpreted function (log entry 11), so a load says what follows when `imgError` accepts the image and when it does not. Payload layouts are the model's (log entry 10). -/
def Obligations.FirmwareLoadsAndAnswers : Prop :=
  (∀ (s : State) (q : Requester) (v : W32), devWrites q = true → s.hostDiscards q = false → s.bit DEV_ENABLE DEV_ENABLE_EN = false →
    s.devCheck = none →
    Does (.devEnableSet q v) s [.regs] fun t => t.bit DEV_ENABLE DEV_ENABLE_EN = true ∧ t.gf DEV_ENABLE DEV_ENABLE_REFUSAL = 0
      ∧ RegsBut [DEV_ENABLE] s t :)
  ∧ (∀ (s : State) (q : Requester) (v : W32), devWrites q = true → s.hostDiscards q = false → s.bit DEV_ENABLE DEV_ENABLE_EN = false →
    s.gf DEV_STATUS DEV_STATUS_STAGE ≠ 6 →
    Does (.devEnableSet q v) s [.regs] fun t => t.bit DEV_ENABLE DEV_ENABLE_EN = false ∧ t.gf DEV_ENABLE DEV_ENABLE_REFUSAL = 0x0600 :)
  ∧ (∀ (s : State) (q : Requester) (v : W32), devWrites q = true → s.hostDiscards q = false → s.bit DEV_ENABLE DEV_ENABLE_EN = false →
    s.gf DEV_STATUS DEV_STATUS_STAGE = 6 → s.bit HBM_STATUS HBM_STATUS_READY = true →
    (∀ m, m < 8 → (s.mb m).session = none) →
    Does (.devEnableSet q v) s [.regs] fun t => t.bit DEV_ENABLE DEV_ENABLE_EN = false ∧ t.gf DEV_ENABLE DEV_ENABLE_REFUSAL = 0x0602 :)
  ∧ (∀ (s : State) (q : Requester) (v : W32), devWrites q = true → s.hostDiscards q = false →
    Does (.devEnableClear q v) s [.regs] fun t => t.bit DEV_ENABLE DEV_ENABLE_EN = false ∧ RegsBut [DEV_ENABLE] s t :)
  ∧ (∀ (s : State) (q : Requester) (v : W32), devWrites q = true → s.hostDiscards q = false →
    s.gf DEV_STATUS DEV_STATUS_STAGE = 4 →
    Does (.go q v) s [.regs] fun t => t.gf DEV_STATUS DEV_STATUS_STAGE = 5 ∧ t.bit DEV_LOAD_CTL DEV_LOAD_CTL_BUSY = true
      ∧ t.gf DEV_LOAD_CTL DEV_LOAD_CTL_LENGTH = v.toNat % 2 ^ 27 ∧ RegsBut [DEV_STATUS, DEV_LOAD_CTL] s t :)
  ∧ (∀ (s : State) (q : Requester) (v : W32), devWrites q = true → s.hostDiscards q = false →
    s.gf DEV_STATUS DEV_STATUS_STAGE ≠ 4 →
    Does (.go q v) s [.regs] fun t => t.gf DEV_LOAD_CTL DEV_LOAD_CTL_LENGTH = v.toNat % 2 ^ 27 ∧ RegsBut [DEV_LOAD_CTL] s t :)
  ∧ (∀ (s : State) (img : List Byte), s.gf DEV_STATUS DEV_STATUS_STAGE = 5 → s.hostUp = true →
    img = s.hostBytes none (s.gf DEV_LOAD_ADDR DEV_LOAD_ADDR_ADDR <<< 12) (s.gf DEV_LOAD_CTL DEV_LOAD_CTL_LENGTH) →
    Does (.loadDone true) s (Part.storing ++ [.free, .sec, .fw, .ctrl]) fun t =>
      t.bit DEV_LOAD_CTL DEV_LOAD_CTL_BUSY = false
        ∧ ((imgError 1 s.fw.cfg.withdraw img).isSome = true → t.gf DEV_STATUS DEV_STATUS_STAGE = 4
          ∧ t.gf DEV_STATUS DEV_STATUS_BOOT_ERR = (imgError 1 s.fw.cfg.withdraw img).getD 0 ∧ t.fw = s.fw ∧ t.ctrl = s.ctrl)
        ∧ ((imgError 1 s.fw.cfg.withdraw img).isSome = false → t.gf DEV_STATUS DEV_STATUS_STAGE = 6
          ∧ t.gf DEV_STATUS DEV_STATUS_BOOT_ERR = 0 ∧ t.fw.running = some (fwPackage img)
          ∧ t.rd64 DEV_FW_VERSION = (fwPackage img).version ∧ ∀ c, c < 32 → t.gf (CORE_STATUS c) CORE_STATUS_STATE = 1) :)
  ∧ (∀ (s : State) (ok : Bool), s.gf DEV_STATUS DEV_STATUS_STAGE = 5 → (ok = false ∨ s.hostUp = false) →
    Does (.loadDone ok) s [.regs] fun t => t.bit DEV_LOAD_CTL DEV_LOAD_CTL_BUSY = false ∧ t.gf DEV_STATUS DEV_STATUS_STAGE = 4
      ∧ t.gf DEV_STATUS DEV_STATUS_BOOT_ERR = 0x13 ∧ RegsBut [DEV_STATUS, DEV_LOAD_CTL] s t :)
  ∧ (∀ (s : State) (ok : Bool), s.gf DEV_STATUS DEV_STATUS_STAGE ≠ 5 → Does (.loadDone ok) s [] fun _ => True :)
  ∧ (∀ (s : State) (c : Fin 32), (s.gf (CORE_STATUS c.val) CORE_STATUS_STATE = 1 ∨ s.gf (CORE_STATUS c.val) CORE_STATUS_STATE = 2) →
    (s.tahrOf c.val).started = false →
    Does (.coreStart c) s [.tahr, .flt] fun t => t.tahrOf c.val = { Tahr.reset with
      half := (s.tahrOf c.val).half
      started := true
      startedAt := s.clock
      timerAt := s.clock } :)
  ∧ (∀ (s : State) (q : Requester) (v : W32) (m : Nat) (se : Session), devWrites q = true → s.hostDiscards q = false → m < 8 →
    (s.mb m).session = some se → se.id = v → se.lost = false →
    Does (.devHeartbeat q v) s [.mbx] fun t => (t.mb m).session = some { se with renewed := s.clock } :)
  ∧ (∀ (s : State) (q : Requester) (v : W32), (∀ m, m < 8 → ∀ se ∈ (s.mb m).session, se.id ≠ v ∨ se.lost = true) →
    Does (.devHeartbeat q v) s [] fun _ => True :)
  ∧ (∀ (s : State) (m : Fin 8) (se : Session), (s.mb m.val).session = some se → se.lost = false → 312500000 ≤ s.clock - se.renewed →
    s.safe = false → s.instsOf se.id ≠ [] → s.pkt.queue = [] → s.pkt.held = [] →
    Does (.sessionLost m) s (Part.storing ++ [.fport, .time, .pkt, .sto, .inst, .iq]) fun t =>
      (t.mb m.val).session.map (fun x => (x.id, x.lost)) = some (se.id, true)
        ∧ (∀ e ∈ s.inst, e.2.session = se.id → (s.instOf e.1).state = .enabled → e.2.state = .enabled → (t.instOf e.1).state = .quiesced) :)
  ∧ (∀ (s : State) (m : Fin 8) (se : Session), (s.mb m.val).session = some se → se.lost = false → 312500000 ≤ s.clock - se.renewed →
    s.safe = false → s.instsOf se.id = [] →
    Does (.sessionLost m) s Part.reporting fun t => (t.mb m.val).session.isNone = true :)
  ∧ (∀ (s : State) (m : Fin 8) (se : Session), (s.mb m.val).session = some se → s.clock - se.renewed < 312500000 →
    Does (.sessionLost m) s [] fun _ => True :)
  ∧ (∀ (s : State) (q : Requester) (m : Fin 8), devWrites q = true → s.hostDiscards q = false → s.portOpen (.mailbox m) = true →
    s.bit (MBX_CTL m.val) MBX_CTL_BUSY = false →
    synKnown (synHead (.mailbox m) ((List.range 512).map (fun w => s.rd (MBX_REQ m.val + 4 * w)))).1 = true →
    Does (.mbxGo q m) s [.regs, .mbx, .tahr] fun t => t.bit (MBX_CTL m.val) MBX_CTL_BUSY = true
      ∧ t.mb m.val = { s.mb m.val with taken := (List.range 512).map (fun w => s.rd (MBX_REQ m.val + 4 * w)) }
      ∧ RegsBut [MBX_CTL m.val] s t :)
  ∧ (∀ (s : State) (q : Requester) (m : Fin 8) (op : Nat) (r : SynReq), devWrites q = true → s.hostDiscards q = false →
    s.portOpen (.mailbox m) = true → s.bit (MBX_CTL m.val) MBX_CTL_BUSY = false → synKnown op = false →
    synHead (.mailbox m) ((List.range 512).map (fun w => s.rd (MBX_REQ m.val + 4 * w))) = (op, r) →
    Does (.mbxGo q m) s [.regs, .mbx, .tahr] fun t => t.bit (MBX_CTL m.val) MBX_CTL_BUSY = true
      ∧ Answered op r ((s.synRefusal op none r).getD 0x01F0) [] t :)
  ∧ (∀ (s : State) (q : Requester) (m : Fin 8), s.bit (MBX_CTL m.val) MBX_CTL_BUSY = true → Does (.mbxGo q m) s [] fun _ => True :)
  ∧ (∀ (s : State) (i : Fin 2048), s.portOpen (.page i) = true → s.bit (INSTP_MBX i.val) MBX_CTL_BUSY = false →
    Does (.instpMbxGo i) s [.regs, .mbx, .tahr] fun t => t.bit (INSTP_MBX i.val) MBX_CTL_BUSY = true
      ∧ (t.mb (8 + i.val)).taken = (List.range 512).map (fun w => s.rd (INSTP_REQ i.val + 4 * w))
      ∧ (let x := synHead (.page i) ((List.range 512).map (fun w => s.rd (INSTP_REQ i.val + 4 * w)))
        synKnown x.1 = false → Answered x.1 x.2 ((s.synRefusal x.1 none x.2).getD 0x01F0) [] t)
      ∧ RegsBut [INSTP_MBX i.val] s t :)
  ∧ (∀ (s : State) (p : SynPort) (a : SynAns) (bs : List Byte), (s.mb (synBox p)).ans = some a → a.ind = none →
    s.safe = false → a.payload.length ≤ 1904 → bs = synHeader a a.payload.length a.status ++ a.payload →
    Does (.mbxResponse p) s [.regs, .mbx, .host] fun t => (t.mb (synBox p)).ans.isNone = true
      ∧ t.bit (mbxCtl p) MBX_CTL_BUSY = false ∧ t.bit (mbxCtl p) MBX_CTL_DONE = true
      ∧ (∀ w, w < bs.length / 4 → (t.rd (rspArea p + 4 * w)).toNat = fieldLE bs (4 * w) 4) :)
  ∧ (∀ (s : State) (p : SynPort) (a : SynAns) (x : SynInd), (s.mb (synBox p)).ans = some a → a.ind = some x →
    s.hostUp = true → a.payload ≠ [] → a.payload.length ≤ x.rspLen.toNat →
    Does (.mbxResponse p) s [.regs, .hostMem, .mbx, .host] fun t => (t.mb (synBox p)).ans.isNone = true
      ∧ t.hostBytes none x.rspAddr.toNat a.payload.length = a.payload
      ∧ (∀ w, w < 4 → (t.rd (rspArea p + 4 * w)).toNat = fieldLE (synHeader a a.payload.length a.status) (4 * w) 4) :)
  ∧ (∀ (s : State) (p : SynPort), (s.mb (synBox p)).ans = none → Does (.mbxResponse p) s [] fun _ => True :)

/-- R377 to R381, R384: watchdogs, live update and the Syncen requests of the firmware range. Payload layouts are the model's (log entry 10). -/
def Obligations.WatchdogsUpdateAndFirmwareRequests : Prop :=
  (∀ (s : State) (c : Fin 33), s.blockDown 17 = false → s.bit (CORE_WDG c.val) CORE_WDG_EN = true →
    Does (.kick (.core c) c) s [.coreSvc] fun t => t.svc c.val = { s.svc c.val with lastKick := s.clock } :)
  ∧ (∀ (s : State) (q : Requester) (c : Fin 33), q ≠ .core c → Does (.kick q c) s [] fun _ => True :)
  ∧ (∀ (s : State) (c : Fin 33) (v : W32), s.blockDown 17 = false → s.bit (CORE_WDG c.val) CORE_WDG_EN = false →
    Does (.watchdogEnable (.core c) c v) s [.regs, .coreSvc] fun t => t.bit (CORE_WDG c.val) CORE_WDG_EN = true
      ∧ t.gf (CORE_WDG c.val) CORE_WDG_TIMEOUT_MS = v.toNat % 2 ^ 10 ∧ (t.svc c.val).lastKick = s.clock
      ∧ RegsBut [CORE_WDG c.val] s t :)
  ∧ (∀ (s : State) (q : Requester) (c : Fin 33) (v : W32), q ≠ .core c → Does (.watchdogEnable q c v) s [] fun _ => True :)
  ∧ (∀ (s : State) (c : Fin 33), s.bit (CORE_WDG c.val) CORE_WDG_EN = true → s.gf (CORE_STATUS c.val) CORE_STATUS_STATE = 1 →
    max 1 (s.gf (CORE_WDG c.val) CORE_WDG_TIMEOUT_MS) * 156250 ≤ s.clock - (s.svc c.val).lastKick →
    (s.svc c.val).lastExpiry = none →
    Does (.watchdogExpiry c) s (Part.storing ++ [.free, .eland, .kv, .coreSvc, .paused, .tahr]) fun t =>
      t.tahrOf c.val = { Tahr.reset with half := (s.tahrOf c.val).half }
        ∧ t.gf (CORE_STATUS c.val) CORE_STATUS_STATE = 2
        ∧ t.gf (CORE_STATUS c.val) CORE_STATUS_RESTARTS = min (2 ^ 16 - 1) (s.gf (CORE_STATUS c.val) CORE_STATUS_RESTARTS + 1)
        ∧ (∀ d ∈ s.domainsOf c.val, d ∈ t.paused) ∧ (t.svc c.val).lastExpiry = some s.clock :)
  ∧ (∀ (s : State) (c : Fin 33) (t0 : Nat), s.bit (CORE_WDG c.val) CORE_WDG_EN = true → s.gf (CORE_STATUS c.val) CORE_STATUS_STATE = 1 →
    max 1 (s.gf (CORE_WDG c.val) CORE_WDG_TIMEOUT_MS) * 156250 ≤ s.clock - (s.svc c.val).lastKick →
    (s.svc c.val).lastExpiry = some t0 → s.clock - t0 ≤ 1562500000 → c.val < 30 → s.gf FLT_CTL FLT_CTL_MODE = 0 →
    Does (.watchdogExpiry c) s (Part.storing ++ [.free, .eland, .kv, .coreSvc, .domainCore, .paused, .tahr]) fun t =>
      t.gf (CORE_STATUS c.val) CORE_STATUS_STATE = 3
        ∧ (∀ d ∈ s.domainsOf c.val, t.coreOfDomain d = s.freeStandby.getD 255)
        ∧ (∀ d ∈ s.domainsOf c.val, s.freeStandby = none → d ∈ t.paused)
        ∧ (∀ d ∈ s.domainsOf c.val, s.freeStandby.isSome = true → d ∉ t.paused)
        ∧ (∀ k, k < 32 → s.freeStandby = some k → s.domainsOf c.val ≠ [] →
          t.tahrOf k = { Tahr.reset with half := (s.tahrOf c.val).half }) :)
  ∧ (∀ (s : State) (c : Fin 33) (t0 : Nat), s.bit (CORE_WDG c.val) CORE_WDG_EN = true → s.gf (CORE_STATUS c.val) CORE_STATUS_STATE = 1 →
    max 1 (s.gf (CORE_WDG c.val) CORE_WDG_TIMEOUT_MS) * 156250 ≤ s.clock - (s.svc c.val).lastKick →
    (s.svc c.val).lastExpiry = some t0 → s.clock - t0 ≤ 1562500000 →
    Does (.watchdogExpiry c) s (Part.storing ++ [.free, .eland, .kv, .coreSvc, .domainCore, .paused, .tahr]) fun t =>
      (t.svc c.val).lastExpiry = some s.clock ∧ (∀ k, k < 33 → k ≠ c.val → t.svc k = s.svc k)
        ∧ (t.safe = false → t.gf (CORE_STATUS c.val) CORE_STATUS_STATE = 3) :)
  ∧ (∀ (s : State) (c : Fin 33), (s.bit (CORE_WDG c.val) CORE_WDG_EN = false
      ∨ s.clock - (s.svc c.val).lastKick < s.gf (CORE_WDG c.val) CORE_WDG_TIMEOUT_MS * 156250) →
    Does (.watchdogExpiry c) s [] fun _ => True :)
  ∧ (∀ (s : State) (c : Fin 33), s.gf (CORE_STATUS c.val) CORE_STATUS_STATE = 2 → (c.val = 32 ∨ (s.tahrOf c.val).started = true) →
    Does (.coreRestartDone c) s [.regs, .hostMem, .out, .mbx, .sec, .host, .paused, .flt] fun t =>
      t.gf (CORE_STATUS c.val) CORE_STATUS_STATE = 1 ∧ (c.val ≠ 32 → t.sec = s.sec)
        ∧ t.sec.signing.map (·.2) = s.sec.signing.map (·.2) ∧ t.paused = s.paused.filter (fun d => !(s.domainsOf c.val).contains d) :)
  ∧ (∀ (s : State) (c : Fin 33), s.gf (CORE_STATUS c.val) CORE_STATUS_STATE ≠ 2 → Does (.coreRestartDone c) s [] fun _ => True :)
  ∧ (∀ (s : State) (d : Fin 30), s.fw.activating = true → d.val ∉ s.fw.switched → s.maySwitch d.val = true → s.safe = false →
    (insertKey s.fw.switched d.val).length < 30 → s.coreOfDomain d.val < 32 →
    Does (.domainSwitch d) s [.fw, .tahr] fun t => t.fw = { s.fw with switched := insertKey s.fw.switched d.val }
      ∧ t.tahrOf (s.coreOfDomain d.val) = { s.tahrOf (s.coreOfDomain d.val) with half := 1 - s.fw.half } :)
  ∧ (∀ (s : State) (d : Fin 30) (p : FwPackage), s.fw.activating = true → d.val ∉ s.fw.switched → s.maySwitch d.val = true →
    s.safe = false → (insertKey s.fw.switched d.val).length = 30 → s.fw.staged = some p → p.version < 2 ^ 64 →
    Does (.domainSwitch d) s [.regs, .hostMem, .out, .mbx, .sto, .sec, .host, .fw, .tahr] fun t =>
      t.gf DEV_STATUS DEV_STATUS_STAGE = 6 ∧ t.rd64 DEV_FW_VERSION = p.version
        ∧ t.fw = { s.fw with
            running := some p
            staged := none
            activating := false
            switched := []
            half := 1 - s.fw.half }
        ∧ Tab.get mrZero t.sec.mr 1 = shake (Tab.get mrZero s.sec.mr 1 ++ leBytes 4 4 ++ p.imgDigest) 64
        ∧ (∀ e ∈ t.sto.queues, e.2.state ≠ .paused) :)
  ∧ (∀ (s : State) (d : Fin 30), s.fw.activating = false → Does (.domainSwitch d) s [] fun _ => True :)
  ∧ (∀ (s : State) (r : SynReq), s.synRefusal 0x0000 none r = none →
    Does (.synFwVersion r) s [.mbx] fun t => Answered 0x0000 r 0 ([3, 2, 2, 5] ++ leBytes 8 (s.rd64 DEV_FW_VERSION)
      ++ leBytes 1 (s.gf DEV_STATUS DEV_STATUS_STAGE) ++ leBytes 1 (s.gf DEV_STATUS DEV_STATUS_BOOT_ERR)
      ++ leBytes 1 (s.gf DEV_STATUS DEV_STATUS_CFG_VALID)) t :)
  ∧ (∀ (s : State) (r : SynReq), s.synRefusal 0x0001 (some 0) r = none → (s.mb (synBox r.port)).session = none →
    Does (.synFwSessionOpen r false) s [.free, .mbx] fun t => Answered 0x0001 r 0 (leBytes 4 s.newSession.toNat) t
      ∧ s.newSession ≠ 0 ∧ (t.mb (synBox r.port)).session = some ⟨s.newSession, false, s.clock, none⟩ :)
  ∧ (∀ (s : State) (r : SynReq), s.synRefusal 0x0001 (some 0) r = none → (s.mb (synBox r.port)).session = none →
    Does (.synFwSessionOpen r true) s [.mbx] fun t => Answered 0x0001 r 0x0201 [] t :)
  ∧ (∀ (s : State) (r : SynReq) (se : Session), s.synRefusal 0x0001 (some 0) r = none →
    (s.mb (synBox r.port)).session = some se → Does (.synFwSessionOpen r false) s [.mbx] fun t => Answered 0x0001 r 0x0201 [] t :)
  ∧ (∀ (s : State) (r : SynReq) (se : Session), s.synRefusal 0x0001 (some 0) r = none →
    (s.mb (synBox r.port)).session = some se → se.lost = true → s.instsOf se.id = [] →
    Does (.synFwSessionOpen r true) s [.free, .mbx] fun t => Answered 0x0001 r 0 (leBytes 4 s.newSession.toNat) t
      ∧ (t.mb (synBox r.port)).session = some ⟨s.newSession, false, s.clock, none⟩ :)
  ∧ (∀ (s : State) (r : SynReq) (se : Session) (i : Nat), s.synRefusal 0x0001 (some 0) r = none →
    (s.mb (synBox r.port)).session = some se → se.lost = true → s.instsOf se.id = [i] →
    s.trn.conns = [] → s.iq = [] → s.sto.queues = [] → s.pkt.queue = [] → s.pkt.held = [] →
    Does (.synFwSessionOpen r true) s [.free, .mbx, .host, .inst] fun t => (t.instOf i).state = .free
      ∧ ((s.instOf i).state ≠ .free → (t.instOf i).gen = ((s.instOf i).gen + 1) % 2 ^ 16) :)
  ∧ (∀ (s : State) (r : SynReq) (id : W32) (se : Session), s.synRefusal 0x0002 (some 0) r = none →
    s.lostBox id = some (synBox r.port, se) → s.instsOf id = [] →
    Does (.synFwSessionAttach r id) s [.mbx] fun t => Answered 0x0002 r 0 [] t
      ∧ (t.mb (synBox r.port)).session = some { se with lost := false, renewed := s.clock } :)
  ∧ (∀ (s : State) (r : SynReq) (id : W32) (se : Session) (m : Nat), s.synRefusal 0x0002 (some 0) r = none →
    s.lostBox id = some (m, se) → m ≠ synBox r.port → m < 8 → synBox r.port < 8 → (s.mb (synBox r.port)).session = none → s.instsOf id = [] →
    Does (.synFwSessionAttach r id) s [.regs, .mbx] fun t => Answered 0x0002 r 0 [] t
      ∧ (t.mb (synBox r.port)).session = some { se with lost := false, renewed := s.clock } ∧ (t.mb m).session.isNone = true
      ∧ t.rd (MBX_EVT_HEAD (synBox r.port)) = s.rd (MBX_EVT_HEAD m) :)
  ∧ (∀ (s : State) (r : SynReq) (id : W32) (se : Session) (i : Nat), s.synRefusal 0x0002 (some 0) r = none →
    s.lostBox id = some (synBox r.port, se) → s.instsOf id = [i] → (s.instOf i).state = .quiesced → (s.instOf i).vecPending = [] →
    s.iq = [] → s.sto.queues = [] → s.pkt.queue = [] → s.pkt.held = [] →
    Does (.synFwSessionAttach r id) s [.mbx, .inst] fun t => t.instOf i = { s.instOf i with state := .enabled } :)
  ∧ (∀ (s : State) (r : SynReq) (id : W32), s.synRefusal 0x0002 (some 0) r = none → s.lostBox id = none →
    Does (.synFwSessionAttach r id) s [.mbx] fun t => Answered 0x0002 r 0x0201 [] t :)
  ∧ (∀ (s : State) (r : SynReq) (se : Session), s.synRefusal 0x0003 (some 0) r = none → s.sessionOf r = some se → s.instsOf se.id = [] →
    Does (.synFwSessionClose r) s [.mbx] fun t => Answered 0x0003 r 0 [] t ∧ (t.mb (synBox r.port)).session.isNone = true :)
  ∧ (∀ (s : State) (r : SynReq) (se : Session), s.synRefusal 0x0003 (some 0) r = none → s.sessionOf r = some se → s.instsOf se.id ≠ [] →
    Does (.synFwSessionClose r) s [.mbx] fun t => Answered 0x0003 r 0x020A [] t :)
  ∧ (∀ (s : State) (r : SynReq) (a : BitVec 64) (n : Byte) (v : W16) (se : Session), s.synRefusal 0x0004 (some 0) r = none →
    s.sessionOf r = some se → 4 ≤ n.toNat → n.toNat ≤ 12 → v.toNat ≤ 2047 →
    Does (.synFwEventRingSet r a n v) s [.regs, .mbx] fun t => Answered 0x0004 r 0 [] t
      ∧ (t.mb (synBox r.port)).session = some { se with ring := some ⟨a.toNat, n.toNat, v.toNat, 0, 0, 0, []⟩ }
      ∧ t.rd (MBX_EVT_HEAD (synBox r.port)) = 0 ∧ RegsBut [MBX_EVT_HEAD (synBox r.port)] s t :)
  ∧ (∀ (s : State) (r : SynReq) (a : BitVec 64) (n : Byte) (v : W16), s.synRefusal 0x0004 (some 0) r = none →
    (s.sessionOf r).isSome = true → (n.toNat < 4 ∨ 12 < n.toNat ∨ 2047 < v.toNat) →
    Does (.synFwEventRingSet r a n v) s [.mbx] fun t => Answered 0x0004 r 0x0102 [] t :)
  ∧ (∀ (s : State) (r : SynReq) (b : List Byte), s.synRefusal 0x0005 (some 0) r = none → s.fw.activating = false →
    Does (.synFwUpdate r b) s [.mbx, .fw, .ctrl] fun t =>
      ((imgError 1 s.fw.cfg.withdraw b).isSome = true → Answered 0x0005 r (imgRefusal ((imgError 1 s.fw.cfg.withdraw b).getD 0)) [] t
          ∧ t.fw = s.fw)
        ∧ ((imgError 1 s.fw.cfg.withdraw b).isSome = false → (fwPackage b).handoffMin ≤ (s.fw.running.map (·.handoffVer)).getD 0 →
          (s.fw.running.map (·.handoffVer)).getD 0 ≤ (fwPackage b).handoffMax →
          Answered 0x0005 r 0 [] t ∧ t.fw = { s.fw with staged := some (fwPackage b) }) :)
  ∧ (∀ (s : State) (r : SynReq) (b : List Byte), s.synRefusal 0x0005 (some 0) r = none → s.fw.activating = false →
    ((s.fw.running.map (·.handoffVer)).getD 0 < (fwPackage b).handoffMin
      ∨ (fwPackage b).handoffMax < (s.fw.running.map (·.handoffVer)).getD 0) →
    Does (.synFwUpdate r b) s [.mbx] fun t =>
      Answered 0x0005 r (match imgError 1 s.fw.cfg.withdraw b with | some e => imgRefusal e | none => 0x02F2) [] t :)
  ∧ (∀ (s : State) (r : SynReq) (b : List Byte), s.synRefusal 0x0005 (some 0) r = none → s.fw.activating = true →
    Does (.synFwUpdate r b) s [.mbx] fun t => Answered 0x0005 r 0x0201 [] t :)
  ∧ (∀ (s : State) (r : SynReq), s.synRefusal 0x0006 (some 0) r = none → s.fw.staged.isSome = true → s.fw.activating = false →
    s.recovering = false →
    Does (.synFwActivate r) s [.regs, .mbx, .sto, .fw] fun t => Answered 0x0006 r 0 [] t
      ∧ t.gf DEV_STATUS DEV_STATUS_STAGE = 7 ∧ RegsBut [DEV_STATUS] s t
      ∧ t.fw = { s.fw with activating := true, activateAt := s.clock, switched := [] }
      ∧ (∀ e ∈ t.sto.queues, e.2.state ≠ .active) :)
  ∧ (∀ (s : State) (r : SynReq), s.synRefusal 0x0006 (some 0) r = none → s.fw.staged = none →
    Does (.synFwActivate r) s [.mbx] fun t => Answered 0x0006 r 0x0201 [] t :)
  ∧ (∀ (s : State) (r : SynReq), s.synRefusal 0x0006 (some 0) r = none → s.fw.staged.isSome = true → s.fw.activating = false →
    s.recovering = true →
    Does (.synFwActivate r) s [.mbx] fun t => Answered 0x0006 r 0x02F1 [] t :)
  ∧ (∀ (s : State) (r : SynReq), s.synRefusal 0x0007 (some 0) r = none → s.paused = [] →
    Does (.synFwDomainQuery r) s [.mbx] fun t =>
      Answered 0x0007 r 0 ((List.range 30).flatMap (fun d => leBytes 1 (s.coreOfDomain d)) ++ leBytes 4 0) t :)
  ∧ (∀ (s : State) (r : SynReq) (c : Fin 33), s.synRefusal 0x0008 (some 0) r = none → (s.svc c.val).recent = [] →
    Does (.synFwCoreQuery r c) s [.mbx] fun t => Answered 0x0008 r 0 (leBytes 4 (s.rd (CORE_STATUS c.val)).toNat) t :)
  ∧ (∀ (s : State) (r : SynReq) (bs : List (BitVec 64 × BitVec 64)), s.synRefusal 0x0009 (some 0) r = none →
    (∀ b ∈ bs, 0 < b.2.toNat ∧ b.1.toNat + b.2.toNat ≤ 2 ^ 64) →
    Does (.synFwSpillSet r bs) s [.mbx, .fw] fun t => Answered 0x0009 r 0 [] t
      ∧ t.fw = { s.fw with spill := bs.map (fun b => (b.1.toNat, b.2.toNat)) } :)
  ∧ (∀ (s : State) (r : SynReq) (b : BitVec 64 × BitVec 64), s.synRefusal 0x0009 (some 0) r = none →
    (b.2 = 0 ∨ 2 ^ 64 < b.1.toNat + b.2.toNat) → Does (.synFwSpillSet r [b]) s [.mbx] fun t => Answered 0x0009 r 0x0102 [] t :)
  ∧ (∀ (s : State) (r : SynReq), s.synRefusal 0x000A (some 0) r = none →
    Does (.synFwConfigQuery r) s [.mbx] fun t => Answered 0x000A r 0 (leBytes 1 s.fw.cfg.mode ++ leBytes 2 s.fw.cfg.subsys
      ++ leBytes 1 s.fw.cfg.withdraw ++ leBytes 1 s.fw.cfg.ndebug ++ leBytes 1 s.fw.cfg.spillMib
      ++ (s.fw.cfg.debugDigests.map (fit 64)).flatten ++ leBytes 1 (s.gf DEV_STATUS DEV_STATUS_CFG_SLOT)
      ++ leBytes 8 s.fw.cfg.version) t :)
  ∧ (∀ (s : State) (r : SynReq) (b : List Byte), s.synRefusal 0x000B (some 0) r = none →
    Does (.synFwConfigWrite r b) s [.mbx, .flash] fun t =>
      ((imgError 2 0 b).isSome = true →
          Answered 0x000B r (imgRefusal ((imgError 2 0 b).getD 0)) [] t ∧ t.flash = s.flash)
        ∧ ((imgError 2 0 b).isSome = false → Answered 0x000B r 0 [] t
          ∧ (s.bit DEV_STATUS DEV_STATUS_CFG_VALID = true → s.bit DEV_STATUS DEV_STATUS_CFG_SLOT = false →
            t.flash = { s.flash with cfgB := b })
          ∧ (s.bit DEV_STATUS DEV_STATUS_CFG_SLOT = true → t.flash = { s.flash with cfgA := b })) :)

/-- R385, R390, R398: the register operations of TIS-32. Each writes its result to g(d), g0 excepted, and goes on at the next
word; a field sh that must be zero and is not is an illegal instruction; a core that does not run changes nothing. A command
stands for the instruction at the core's PC (log entry 180). -/
def Obligations.TahrRegisterOperations : Prop :=
  (∀ (s : State) (c : Fin 32) (d a b : BitVec 5), s.coreFetches c → 
    Does (.add c d a b 0) s [.tahr] (CoreAt c (s.nextPc c) (s.wrote c d (s.greg c a + s.greg c b)) s) :)
  ∧ (∀ (s : State) (c : Fin 32) (d a b : BitVec 5), s.coreFetches c → 
    Does (.sub c d a b 0) s [.tahr] (CoreAt c (s.nextPc c) (s.wrote c d (s.greg c a - s.greg c b)) s) :)
  ∧ (∀ (s : State) (c : Fin 32) (d a b : BitVec 5), s.coreFetches c → 
    Does (.and c d a b 0) s [.tahr] (CoreAt c (s.nextPc c) (s.wrote c d (s.greg c a &&& s.greg c b)) s) :)
  ∧ (∀ (s : State) (c : Fin 32) (d a b : BitVec 5), s.coreFetches c → 
    Does (.or c d a b 0) s [.tahr] (CoreAt c (s.nextPc c) (s.wrote c d (s.greg c a ||| s.greg c b)) s) :)
  ∧ (∀ (s : State) (c : Fin 32) (d a b : BitVec 5), s.coreFetches c → 
    Does (.xor c d a b 0) s [.tahr] (CoreAt c (s.nextPc c) (s.wrote c d (s.greg c a ^^^ s.greg c b)) s) :)
  ∧ (∀ (s : State) (c : Fin 32) (d a b : BitVec 5), s.coreFetches c → 
    Does (.shl c d a b 0) s [.tahr] (CoreAt c (s.nextPc c) (s.wrote c d (s.greg c a <<< ((s.greg c b).toNat % 32))) s) :)
  ∧ (∀ (s : State) (c : Fin 32) (d a b : BitVec 5), s.coreFetches c → 
    Does (.shr c d a b 0) s [.tahr] (CoreAt c (s.nextPc c) (s.wrote c d (s.greg c a >>> ((s.greg c b).toNat % 32))) s) :)
  ∧ (∀ (s : State) (c : Fin 32) (d a b : BitVec 5), s.coreFetches c → 
    Does (.sar c d a b 0) s [.tahr] (CoreAt c (s.nextPc c) (s.wrote c d ((s.greg c a).sshiftRight ((s.greg c b).toNat % 32))) s) :)
  ∧ (∀ (s : State) (c : Fin 32) (d a b sh : BitVec 5), s.coreFetches c → 
    Does (.shli c d a b sh) s [.tahr] (CoreAt c (s.nextPc c) (s.wrote c d (s.greg c a <<< sh.toNat)) s) :)
  ∧ (∀ (s : State) (c : Fin 32) (d a b sh : BitVec 5), s.coreFetches c → 
    Does (.shri c d a b sh) s [.tahr] (CoreAt c (s.nextPc c) (s.wrote c d (s.greg c a >>> sh.toNat)) s) :)
  ∧ (∀ (s : State) (c : Fin 32) (d a b sh : BitVec 5), s.coreFetches c → 
    Does (.sari c d a b sh) s [.tahr] (CoreAt c (s.nextPc c) (s.wrote c d ((s.greg c a).sshiftRight sh.toNat)) s) :)
  ∧ (∀ (s : State) (c : Fin 32) (d a b : BitVec 5), s.coreFetches c → 
    Does (.cmplt c d a b 0) s [.tahr] (CoreAt c (s.nextPc c) (s.wrote c d (if (s.greg c a).toInt < (s.greg c b).toInt then 1 else 0)) s) :)
  ∧ (∀ (s : State) (c : Fin 32) (d a b : BitVec 5), s.coreFetches c → 
    Does (.cmpltu c d a b 0) s [.tahr] (CoreAt c (s.nextPc c) (s.wrote c d (if (s.greg c a).toNat < (s.greg c b).toNat then 1 else 0)) s) :)
  ∧ (∀ (s : State) (c : Fin 32) (d a b : BitVec 5), s.coreFetches c → 
    Does (.mul c d a b 0) s [.tahr] (CoreAt c (s.nextPc c) (s.wrote c d (BitVec.ofNat 32 ((s.greg c a).toNat * (s.greg c b).toNat))) s) :)
  ∧ (∀ (s : State) (c : Fin 32) (d a b : BitVec 5), s.coreFetches c → 
    Does (.mulhu c d a b 0) s [.tahr] (CoreAt c (s.nextPc c) (s.wrote c d (BitVec.ofNat 32 ((s.greg c a).toNat * (s.greg c b).toNat / 2 ^ 32))) s) :)
  ∧ (∀ (s : State) (c : Fin 32) (d a b : BitVec 5), s.coreFetches c → 
    Does (.mulhs c d a b 0) s [.tahr] (CoreAt c (s.nextPc c) (s.wrote c d (BitVec.ofInt 32 ((s.greg c a).toInt * (s.greg c b).toInt / 2 ^ 32))) s) :)
  ∧ (∀ (s : State) (c : Fin 32) (d a b : BitVec 5), s.coreFetches c → 
    Does (.divu c d a b 0) s [.tahr] (CoreAt c (s.nextPc c) (s.wrote c d (if s.greg c b = 0 then 0xFFFFFFFF else BitVec.ofNat 32 ((s.greg c a).toNat / (s.greg c b).toNat))) s) :)
  ∧ (∀ (s : State) (c : Fin 32) (d a b : BitVec 5), s.coreFetches c → 
    Does (.remu c d a b 0) s [.tahr] (CoreAt c (s.nextPc c) (s.wrote c d (if s.greg c b = 0 then s.greg c a else BitVec.ofNat 32 ((s.greg c a).toNat % (s.greg c b).toNat))) s) :)
  ∧ (∀ (s : State) (c : Fin 32) (d a b : BitVec 5), s.coreFetches c → 
    Does (.div c d a b 0) s [.tahr] (CoreAt c (s.nextPc c) (s.wrote c d (if s.greg c b = 0 then 0xFFFFFFFF else BitVec.ofInt 32 (((s.greg c a).toInt).tdiv (s.greg c b).toInt))) s) :)
  ∧ (∀ (s : State) (c : Fin 32) (d a b : BitVec 5), s.coreFetches c → 
    Does (.rem c d a b 0) s [.tahr] (CoreAt c (s.nextPc c) (s.wrote c d (if s.greg c b = 0 then s.greg c a else BitVec.ofInt 32 (((s.greg c a).toInt).tmod (s.greg c b).toInt))) s) :)
  ∧ (∀ (s : State) (c : Fin 32) (d a b : BitVec 5) (k : Nat), s.coreFetches c → k ≤ 32 → (∀ i, i < k → (s.greg c a).getLsbD (31 - i) = false) →
    (k < 32 → (s.greg c a).getLsbD (31 - k) = true) →
    Does (.clz c d a b 0) s [.tahr] (CoreAt c (s.nextPc c) (s.wrote c d (BitVec.ofNat 32 k)) s) :)
  ∧ (∀ (s : State) (c : Fin 32) (d a b : BitVec 5), s.coreFetches c → 
    Does (.popc c d a b 0) s [.tahr] (CoreAt c (s.nextPc c) (s.wrote c d (BitVec.ofNat 32 ((List.range 32).countP (fun i => (s.greg c a).getLsbD i)))) s) :)
  ∧ (∀ (s : State) (c : Fin 32) (d a b sh : BitVec 5), s.coreFetches c → (s.tahrOf c.val).hnd = false → sh ≠ 0 →
    Does (.add c d a b sh) s [.tahr] (CoreExcepts c 1 (wordA 0 d a b sh 1) s)
    ∧ Does (.sub c d a b sh) s [.tahr] (CoreExcepts c 1 (wordA 0 d a b sh 2) s)
    ∧ Does (.and c d a b sh) s [.tahr] (CoreExcepts c 1 (wordA 0 d a b sh 3) s)
    ∧ Does (.or c d a b sh) s [.tahr] (CoreExcepts c 1 (wordA 0 d a b sh 4) s)
    ∧ Does (.xor c d a b sh) s [.tahr] (CoreExcepts c 1 (wordA 0 d a b sh 5) s)
    ∧ Does (.shl c d a b sh) s [.tahr] (CoreExcepts c 1 (wordA 0 d a b sh 6) s)
    ∧ Does (.shr c d a b sh) s [.tahr] (CoreExcepts c 1 (wordA 0 d a b sh 7) s)
    ∧ Does (.sar c d a b sh) s [.tahr] (CoreExcepts c 1 (wordA 0 d a b sh 8) s)
    ∧ Does (.cmplt c d a b sh) s [.tahr] (CoreExcepts c 1 (wordA 0 d a b sh 12) s)
    ∧ Does (.cmpltu c d a b sh) s [.tahr] (CoreExcepts c 1 (wordA 0 d a b sh 13) s)
    ∧ Does (.mul c d a b sh) s [.tahr] (CoreExcepts c 1 (wordA 0 d a b sh 14) s)
    ∧ Does (.mulhu c d a b sh) s [.tahr] (CoreExcepts c 1 (wordA 0 d a b sh 15) s)
    ∧ Does (.mulhs c d a b sh) s [.tahr] (CoreExcepts c 1 (wordA 0 d a b sh 16) s)
    ∧ Does (.divu c d a b sh) s [.tahr] (CoreExcepts c 1 (wordA 0 d a b sh 17) s)
    ∧ Does (.remu c d a b sh) s [.tahr] (CoreExcepts c 1 (wordA 0 d a b sh 18) s)
    ∧ Does (.div c d a b sh) s [.tahr] (CoreExcepts c 1 (wordA 0 d a b sh 19) s)
    ∧ Does (.rem c d a b sh) s [.tahr] (CoreExcepts c 1 (wordA 0 d a b sh 20) s)
    ∧ Does (.clz c d a b sh) s [.tahr] (CoreExcepts c 1 (wordA 0 d a b sh 21) s)
    ∧ Does (.popc c d a b sh) s [.tahr] (CoreExcepts c 1 (wordA 0 d a b sh 22) s) :)
  ∧ (∀ (s : State) (c : Fin 32) (d a b sh : BitVec 5), s.coreRuns c.val = false →
    Does (.add c d a b sh) s [] (fun _ => True)
    ∧ Does (.sub c d a b sh) s [] (fun _ => True)
    ∧ Does (.and c d a b sh) s [] (fun _ => True)
    ∧ Does (.or c d a b sh) s [] (fun _ => True)
    ∧ Does (.xor c d a b sh) s [] (fun _ => True)
    ∧ Does (.shl c d a b sh) s [] (fun _ => True)
    ∧ Does (.shr c d a b sh) s [] (fun _ => True)
    ∧ Does (.sar c d a b sh) s [] (fun _ => True)
    ∧ Does (.shli c d a b sh) s [] (fun _ => True)
    ∧ Does (.shri c d a b sh) s [] (fun _ => True)
    ∧ Does (.sari c d a b sh) s [] (fun _ => True)
    ∧ Does (.cmplt c d a b sh) s [] (fun _ => True)
    ∧ Does (.cmpltu c d a b sh) s [] (fun _ => True)
    ∧ Does (.mul c d a b sh) s [] (fun _ => True)
    ∧ Does (.mulhu c d a b sh) s [] (fun _ => True)
    ∧ Does (.mulhs c d a b sh) s [] (fun _ => True)
    ∧ Does (.divu c d a b sh) s [] (fun _ => True)
    ∧ Does (.remu c d a b sh) s [] (fun _ => True)
    ∧ Does (.div c d a b sh) s [] (fun _ => True)
    ∧ Does (.rem c d a b sh) s [] (fun _ => True)
    ∧ Does (.clz c d a b sh) s [] (fun _ => True)
    ∧ Does (.popc c d a b sh) s [] (fun _ => True) :)

/-- R390, R391, R396, R398: immediate operations, branches, jumps and calls of TIS-32. A target outside control memory or
misaligned raises its exception at the branch itself. -/
def Obligations.TahrImmediatesAndBranches : Prop :=
  (∀ (s : State) (c : Fin 32) (d a : BitVec 5) (imm : BitVec 16), s.coreFetches c → 
    Does (.addi c d a imm) s [.tahr] (CoreAt c (s.nextPc c) (s.wrote c d (s.greg c a + imm.signExtend 32)) s) :)
  ∧ (∀ (s : State) (c : Fin 32) (d a : BitVec 5) (imm : BitVec 16), s.coreFetches c → 
    Does (.andi c d a imm) s [.tahr] (CoreAt c (s.nextPc c) (s.wrote c d (s.greg c a &&& imm.zeroExtend 32)) s) :)
  ∧ (∀ (s : State) (c : Fin 32) (d a : BitVec 5) (imm : BitVec 16), s.coreFetches c → 
    Does (.ori c d a imm) s [.tahr] (CoreAt c (s.nextPc c) (s.wrote c d (s.greg c a ||| imm.zeroExtend 32)) s) :)
  ∧ (∀ (s : State) (c : Fin 32) (d a : BitVec 5) (imm : BitVec 16), s.coreFetches c → 
    Does (.xori c d a imm) s [.tahr] (CoreAt c (s.nextPc c) (s.wrote c d (s.greg c a ^^^ imm.zeroExtend 32)) s) :)
  ∧ (∀ (s : State) (c : Fin 32) (d a : BitVec 5) (imm : BitVec 16), s.coreFetches c → 
    Does (.cmplti c d a imm) s [.tahr] (CoreAt c (s.nextPc c) (s.wrote c d (if (s.greg c a).toInt < imm.toInt then 1 else 0)) s) :)
  ∧ (∀ (s : State) (c : Fin 32) (d a : BitVec 5) (imm : BitVec 16), s.coreFetches c → 
    Does (.cmpltiu c d a imm) s [.tahr] (CoreAt c (s.nextPc c) (s.wrote c d (if (s.greg c a).toNat < (imm.signExtend 32).toNat then 1 else 0)) s) :)
  ∧ (∀ (s : State) (c : Fin 32) (d a : BitVec 5) (imm : BitVec 16), s.coreFetches c → a = 0 → 
    Does (.immh c d a imm) s [.tahr] (CoreAt c (s.nextPc c) (s.wrote c d (BitVec.ofNat 32 (imm.toNat * 2 ^ 16))) s) :)
  ∧ (∀ (s : State) (c : Fin 32) (d a : BitVec 5) (imm : BitVec 16), s.coreFetches c → (s.tahrOf c.val).hnd = false → a ≠ 0 →
    Does (.immh c d a imm) s [.tahr] (CoreExcepts c 1 (wordI 0x16 d a imm) s) :)
  ∧ (∀ (s : State) (c : Fin 32) (a b : BitVec 5) (off : BitVec 16), s.coreFetches c → s.greg c a = s.greg c b → ((s.tahrOf c.val).pc + off.signExtend 32 * 4).toNat < 0x200000 →
    Does (.breq c a b off) s [.tahr] (CoreAt c ((s.tahrOf c.val).pc + off.signExtend 32 * 4) (s.greg c) s) :)
  ∧ (∀ (s : State) (c : Fin 32) (a b : BitVec 5) (off : BitVec 16), s.coreFetches c → ¬(s.greg c a = s.greg c b) →
    Does (.breq c a b off) s [.tahr] (CoreAt c (s.nextPc c) (s.greg c) s) :)
  ∧ (∀ (s : State) (c : Fin 32) (a b : BitVec 5) (off : BitVec 16), s.coreFetches c → (s.tahrOf c.val).hnd = false → s.greg c a = s.greg c b → 0x200000 ≤ ((s.tahrOf c.val).pc + off.signExtend 32 * 4).toNat →
    Does (.breq c a b off) s [.tahr] (CoreExcepts c 3 ((s.tahrOf c.val).pc + off.signExtend 32 * 4) s) :)
  ∧ (∀ (s : State) (c : Fin 32) (a b : BitVec 5) (off : BitVec 16), s.coreFetches c → s.greg c a ≠ s.greg c b → ((s.tahrOf c.val).pc + off.signExtend 32 * 4).toNat < 0x200000 →
    Does (.brne c a b off) s [.tahr] (CoreAt c ((s.tahrOf c.val).pc + off.signExtend 32 * 4) (s.greg c) s) :)
  ∧ (∀ (s : State) (c : Fin 32) (a b : BitVec 5) (off : BitVec 16), s.coreFetches c → ¬(s.greg c a ≠ s.greg c b) →
    Does (.brne c a b off) s [.tahr] (CoreAt c (s.nextPc c) (s.greg c) s) :)
  ∧ (∀ (s : State) (c : Fin 32) (a b : BitVec 5) (off : BitVec 16), s.coreFetches c → (s.tahrOf c.val).hnd = false → s.greg c a ≠ s.greg c b → 0x200000 ≤ ((s.tahrOf c.val).pc + off.signExtend 32 * 4).toNat →
    Does (.brne c a b off) s [.tahr] (CoreExcepts c 3 ((s.tahrOf c.val).pc + off.signExtend 32 * 4) s) :)
  ∧ (∀ (s : State) (c : Fin 32) (a b : BitVec 5) (off : BitVec 16), s.coreFetches c → (s.greg c a).toInt < (s.greg c b).toInt → ((s.tahrOf c.val).pc + off.signExtend 32 * 4).toNat < 0x200000 →
    Does (.brlt c a b off) s [.tahr] (CoreAt c ((s.tahrOf c.val).pc + off.signExtend 32 * 4) (s.greg c) s) :)
  ∧ (∀ (s : State) (c : Fin 32) (a b : BitVec 5) (off : BitVec 16), s.coreFetches c → ¬((s.greg c a).toInt < (s.greg c b).toInt) →
    Does (.brlt c a b off) s [.tahr] (CoreAt c (s.nextPc c) (s.greg c) s) :)
  ∧ (∀ (s : State) (c : Fin 32) (a b : BitVec 5) (off : BitVec 16), s.coreFetches c → (s.tahrOf c.val).hnd = false → (s.greg c a).toInt < (s.greg c b).toInt → 0x200000 ≤ ((s.tahrOf c.val).pc + off.signExtend 32 * 4).toNat →
    Does (.brlt c a b off) s [.tahr] (CoreExcepts c 3 ((s.tahrOf c.val).pc + off.signExtend 32 * 4) s) :)
  ∧ (∀ (s : State) (c : Fin 32) (a b : BitVec 5) (off : BitVec 16), s.coreFetches c → (s.greg c b).toInt ≤ (s.greg c a).toInt → ((s.tahrOf c.val).pc + off.signExtend 32 * 4).toNat < 0x200000 →
    Does (.brge c a b off) s [.tahr] (CoreAt c ((s.tahrOf c.val).pc + off.signExtend 32 * 4) (s.greg c) s) :)
  ∧ (∀ (s : State) (c : Fin 32) (a b : BitVec 5) (off : BitVec 16), s.coreFetches c → ¬((s.greg c b).toInt ≤ (s.greg c a).toInt) →
    Does (.brge c a b off) s [.tahr] (CoreAt c (s.nextPc c) (s.greg c) s) :)
  ∧ (∀ (s : State) (c : Fin 32) (a b : BitVec 5) (off : BitVec 16), s.coreFetches c → (s.tahrOf c.val).hnd = false → (s.greg c b).toInt ≤ (s.greg c a).toInt → 0x200000 ≤ ((s.tahrOf c.val).pc + off.signExtend 32 * 4).toNat →
    Does (.brge c a b off) s [.tahr] (CoreExcepts c 3 ((s.tahrOf c.val).pc + off.signExtend 32 * 4) s) :)
  ∧ (∀ (s : State) (c : Fin 32) (a b : BitVec 5) (off : BitVec 16), s.coreFetches c → (s.greg c a).toNat < (s.greg c b).toNat → ((s.tahrOf c.val).pc + off.signExtend 32 * 4).toNat < 0x200000 →
    Does (.brltu c a b off) s [.tahr] (CoreAt c ((s.tahrOf c.val).pc + off.signExtend 32 * 4) (s.greg c) s) :)
  ∧ (∀ (s : State) (c : Fin 32) (a b : BitVec 5) (off : BitVec 16), s.coreFetches c → ¬((s.greg c a).toNat < (s.greg c b).toNat) →
    Does (.brltu c a b off) s [.tahr] (CoreAt c (s.nextPc c) (s.greg c) s) :)
  ∧ (∀ (s : State) (c : Fin 32) (a b : BitVec 5) (off : BitVec 16), s.coreFetches c → (s.tahrOf c.val).hnd = false → (s.greg c a).toNat < (s.greg c b).toNat → 0x200000 ≤ ((s.tahrOf c.val).pc + off.signExtend 32 * 4).toNat →
    Does (.brltu c a b off) s [.tahr] (CoreExcepts c 3 ((s.tahrOf c.val).pc + off.signExtend 32 * 4) s) :)
  ∧ (∀ (s : State) (c : Fin 32) (a b : BitVec 5) (off : BitVec 16), s.coreFetches c → (s.greg c b).toNat ≤ (s.greg c a).toNat → ((s.tahrOf c.val).pc + off.signExtend 32 * 4).toNat < 0x200000 →
    Does (.brgeu c a b off) s [.tahr] (CoreAt c ((s.tahrOf c.val).pc + off.signExtend 32 * 4) (s.greg c) s) :)
  ∧ (∀ (s : State) (c : Fin 32) (a b : BitVec 5) (off : BitVec 16), s.coreFetches c → ¬((s.greg c b).toNat ≤ (s.greg c a).toNat) →
    Does (.brgeu c a b off) s [.tahr] (CoreAt c (s.nextPc c) (s.greg c) s) :)
  ∧ (∀ (s : State) (c : Fin 32) (a b : BitVec 5) (off : BitVec 16), s.coreFetches c → (s.tahrOf c.val).hnd = false → (s.greg c b).toNat ≤ (s.greg c a).toNat → 0x200000 ≤ ((s.tahrOf c.val).pc + off.signExtend 32 * 4).toNat →
    Does (.brgeu c a b off) s [.tahr] (CoreExcepts c 3 ((s.tahrOf c.val).pc + off.signExtend 32 * 4) s) :)
  ∧ (∀ (s : State) (c : Fin 32) (off : BitVec 26), s.coreFetches c → ((s.tahrOf c.val).pc + off.signExtend 32 * 4).toNat < 0x200000 →
    Does (.jmp c off) s [.tahr] (CoreAt c ((s.tahrOf c.val).pc + off.signExtend 32 * 4) (s.greg c) s) :)
  ∧ (∀ (s : State) (c : Fin 32) (off : BitVec 26), s.coreFetches c → (s.tahrOf c.val).hnd = false → 0x200000 ≤ ((s.tahrOf c.val).pc + off.signExtend 32 * 4).toNat →
    Does (.jmp c off) s [.tahr] (CoreExcepts c 3 ((s.tahrOf c.val).pc + off.signExtend 32 * 4) s) :)
  ∧ (∀ (s : State) (c : Fin 32) (off : BitVec 26), s.coreFetches c → ((s.tahrOf c.val).pc + off.signExtend 32 * 4).toNat < 0x200000 →
    Does (.call c off) s [.tahr] (CoreAt c ((s.tahrOf c.val).pc + off.signExtend 32 * 4) (s.wrote c 28 (s.nextPc c)) s) :)
  ∧ (∀ (s : State) (c : Fin 32) (off : BitVec 26), s.coreFetches c → (s.tahrOf c.val).hnd = false → 0x200000 ≤ ((s.tahrOf c.val).pc + off.signExtend 32 * 4).toNat →
    Does (.call c off) s [.tahr] (CoreExcepts c 3 ((s.tahrOf c.val).pc + off.signExtend 32 * 4) s) :)
  ∧ (∀ (s : State) (c : Fin 32) (a b : BitVec 5), s.coreFetches c → (s.greg c a).toNat % 4 = 0 → (s.greg c a).toNat < 0x200000 →
    Does (.brr c 0 a b 0) s [.tahr] (CoreAt c (s.greg c a) (s.greg c) s) :)
  ∧ (∀ (s : State) (c : Fin 32) (a b : BitVec 5), s.coreFetches c → (s.tahrOf c.val).hnd = false → (s.greg c a).toNat % 4 ≠ 0 →
    Does (.brr c 0 a b 0) s [.tahr] (CoreExcepts c 2 (s.greg c a) s) :)
  ∧ (∀ (s : State) (c : Fin 32) (a b : BitVec 5), s.coreFetches c → (s.tahrOf c.val).hnd = false → (s.greg c a).toNat % 4 = 0 → 0x200000 ≤ (s.greg c a).toNat →
    Does (.brr c 0 a b 0) s [.tahr] (CoreExcepts c 3 (s.greg c a) s) :)
  ∧ (∀ (s : State) (c : Fin 32) (d a b : BitVec 5), s.coreFetches c → (s.greg c a).toNat % 4 = 0 → (s.greg c a).toNat < 0x200000 →
    Does (.callr c d a b 0) s [.tahr] (CoreAt c (s.greg c a) (s.wrote c d (s.nextPc c)) s) :)
  ∧ (∀ (s : State) (c : Fin 32) (d a b : BitVec 5), s.coreFetches c → (s.tahrOf c.val).hnd = false → (s.greg c a).toNat % 4 ≠ 0 →
    Does (.callr c d a b 0) s [.tahr] (CoreExcepts c 2 (s.greg c a) s) :)
  ∧ (∀ (s : State) (c : Fin 32) (d a b : BitVec 5), s.coreFetches c → (s.tahrOf c.val).hnd = false → (s.greg c a).toNat % 4 = 0 → 0x200000 ≤ (s.greg c a).toNat →
    Does (.callr c d a b 0) s [.tahr] (CoreExcepts c 3 (s.greg c a) s) :)
  ∧ (∀ (s : State) (c : Fin 32) (d a b sh : BitVec 5), s.coreFetches c → (s.tahrOf c.val).hnd = false → (d ≠ 0 ∨ sh ≠ 0) →
    Does (.brr c d a b sh) s [.tahr] (CoreExcepts c 1 (wordA 0 d a b sh 0x17) s) :)

/-- R387, R388, R392 to R394, R398: loads and stores of TIS-32 with the four addressing modes, on local data memory, through a
segment and in the register window, with their exceptions. -/
def Obligations.TahrLoadsAndStores : Prop :=
  (∀ (s : State) (c : Fin 32) (t a : BitVec 5) (mode : BitVec 3) (f : BitVec 13) (ea : W32) (wb : Option W32), s.coreFetches c → memReserved true t a mode f = false → (s.tahrOf c.val).address a mode f = (ea, wb) → 
    0x10000000 ≤ ea.toNat → ea.toNat < 0x10040000 → s.coreMark c.val ea.toNat = .clean →
    Does (.ldb c t a mode f) s [.tahr] (CoreAt c (s.nextPc c) (s.moved c (some (t, (BitVec.ofNat 32 (leNat ((s.tahrOf c.val).localRead (ea.toNat - 0x10000000) 1))))) a wb) s) :)
  ∧ (∀ (s : State) (c : Fin 32) (t a : BitVec 5) (mode : BitVec 3) (f : BitVec 13) (ea : W32) (wb : Option W32), s.coreFetches c → memReserved true t a mode f = false → (s.tahrOf c.val).address a mode f = (ea, wb) → 
    ((s.awake c).coreLoad c.val ea.toNat 1).1.isNone = true →
    Does (.ldb c t a mode f) s (Part.reading ++ [.free, .time, .tahr])
      (CoreAt c (s.nextPc c) (s.moved c (some (t, (BitVec.ofNat 32 (leNat ((s.awake c).coreLoad c.val ea.toNat 1).2.1)))) a wb) s) :)
  ∧ (∀ (s : State) (c : Fin 32) (t a : BitVec 5) (mode : BitVec 3) (f : BitVec 13) (ea : W32) (wb : Option W32) (cause : Nat), s.coreFetches c → (s.tahrOf c.val).hnd = false → memReserved true t a mode f = false → (s.tahrOf c.val).address a mode f = (ea, wb) → 
    ((s.awake c).coreLoad c.val ea.toNat 1).1 = some cause →
    Does (.ldb c t a mode f) s (Part.reading ++ [.free, .time, .tahr]) (CoreExcepts c cause ea s) :)
  ∧ (∀ (s : State) (c : Fin 32) (t a : BitVec 5) (mode : BitVec 3) (f : BitVec 13), s.coreFetches c → (s.tahrOf c.val).hnd = false → memReserved true t a mode f = true →
    Does (.ldb c t a mode f) s [.tahr] (CoreExcepts c 1 (wordM 32 t a mode f) s) :)
  ∧ (∀ (s : State) (c : Fin 32) (t a : BitVec 5) (mode : BitVec 3) (f : BitVec 13) (ea : W32) (wb : Option W32), s.coreFetches c → memReserved true t a mode f = false → (s.tahrOf c.val).address a mode f = (ea, wb) → 
    0x10000000 ≤ ea.toNat → ea.toNat < 0x10040000 → s.coreMark c.val ea.toNat = .clean →
    Does (.ldbs c t a mode f) s [.tahr] (CoreAt c (s.nextPc c) (s.moved c (some (t, (BitVec.ofInt 32 (sext 8 (leNat ((s.tahrOf c.val).localRead (ea.toNat - 0x10000000) 1)))))) a wb) s) :)
  ∧ (∀ (s : State) (c : Fin 32) (t a : BitVec 5) (mode : BitVec 3) (f : BitVec 13) (ea : W32) (wb : Option W32), s.coreFetches c → memReserved true t a mode f = false → (s.tahrOf c.val).address a mode f = (ea, wb) → 
    ((s.awake c).coreLoad c.val ea.toNat 1).1.isNone = true →
    Does (.ldbs c t a mode f) s (Part.reading ++ [.free, .time, .tahr])
      (CoreAt c (s.nextPc c) (s.moved c (some (t, (BitVec.ofInt 32 (sext 8 (leNat ((s.awake c).coreLoad c.val ea.toNat 1).2.1))))) a wb) s) :)
  ∧ (∀ (s : State) (c : Fin 32) (t a : BitVec 5) (mode : BitVec 3) (f : BitVec 13) (ea : W32) (wb : Option W32) (cause : Nat), s.coreFetches c → (s.tahrOf c.val).hnd = false → memReserved true t a mode f = false → (s.tahrOf c.val).address a mode f = (ea, wb) → 
    ((s.awake c).coreLoad c.val ea.toNat 1).1 = some cause →
    Does (.ldbs c t a mode f) s (Part.reading ++ [.free, .time, .tahr]) (CoreExcepts c cause ea s) :)
  ∧ (∀ (s : State) (c : Fin 32) (t a : BitVec 5) (mode : BitVec 3) (f : BitVec 13), s.coreFetches c → (s.tahrOf c.val).hnd = false → memReserved true t a mode f = true →
    Does (.ldbs c t a mode f) s [.tahr] (CoreExcepts c 1 (wordM 33 t a mode f) s) :)
  ∧ (∀ (s : State) (c : Fin 32) (t a : BitVec 5) (mode : BitVec 3) (f : BitVec 13) (ea : W32) (wb : Option W32), s.coreFetches c → memReserved true t a mode f = false → (s.tahrOf c.val).address a mode f = (ea, wb) → 
    ea.toNat % 2 = 0 → 0x10000000 ≤ ea.toNat → ea.toNat < 0x10040000 → s.coreMark c.val ea.toNat = .clean →
    Does (.ldh c t a mode f) s [.tahr] (CoreAt c (s.nextPc c) (s.moved c (some (t, (BitVec.ofNat 32 (leNat ((s.tahrOf c.val).localRead (ea.toNat - 0x10000000) 2))))) a wb) s) :)
  ∧ (∀ (s : State) (c : Fin 32) (t a : BitVec 5) (mode : BitVec 3) (f : BitVec 13) (ea : W32) (wb : Option W32), s.coreFetches c → memReserved true t a mode f = false → (s.tahrOf c.val).address a mode f = (ea, wb) → 
    ea.toNat % 2 = 0 → ((s.awake c).coreLoad c.val ea.toNat 2).1.isNone = true →
    Does (.ldh c t a mode f) s (Part.reading ++ [.free, .time, .tahr])
      (CoreAt c (s.nextPc c) (s.moved c (some (t, (BitVec.ofNat 32 (leNat ((s.awake c).coreLoad c.val ea.toNat 2).2.1)))) a wb) s) :)
  ∧ (∀ (s : State) (c : Fin 32) (t a : BitVec 5) (mode : BitVec 3) (f : BitVec 13) (ea : W32) (wb : Option W32) (cause : Nat), s.coreFetches c → (s.tahrOf c.val).hnd = false → memReserved true t a mode f = false → (s.tahrOf c.val).address a mode f = (ea, wb) → 
    ea.toNat % 2 = 0 → ((s.awake c).coreLoad c.val ea.toNat 2).1 = some cause →
    Does (.ldh c t a mode f) s (Part.reading ++ [.free, .time, .tahr]) (CoreExcepts c cause ea s) :)
  ∧ (∀ (s : State) (c : Fin 32) (t a : BitVec 5) (mode : BitVec 3) (f : BitVec 13) (ea : W32) (wb : Option W32), s.coreFetches c → (s.tahrOf c.val).hnd = false → memReserved true t a mode f = false → (s.tahrOf c.val).address a mode f = (ea, wb) → 
    ea.toNat % 2 ≠ 0 → Does (.ldh c t a mode f) s [.tahr] (CoreExcepts c 4 ea s) :)
  ∧ (∀ (s : State) (c : Fin 32) (t a : BitVec 5) (mode : BitVec 3) (f : BitVec 13), s.coreFetches c → (s.tahrOf c.val).hnd = false → memReserved true t a mode f = true →
    Does (.ldh c t a mode f) s [.tahr] (CoreExcepts c 1 (wordM 34 t a mode f) s) :)
  ∧ (∀ (s : State) (c : Fin 32) (t a : BitVec 5) (mode : BitVec 3) (f : BitVec 13) (ea : W32) (wb : Option W32), s.coreFetches c → memReserved true t a mode f = false → (s.tahrOf c.val).address a mode f = (ea, wb) → 
    ea.toNat % 2 = 0 → 0x10000000 ≤ ea.toNat → ea.toNat < 0x10040000 → s.coreMark c.val ea.toNat = .clean →
    Does (.ldhs c t a mode f) s [.tahr] (CoreAt c (s.nextPc c) (s.moved c (some (t, (BitVec.ofInt 32 (sext 16 (leNat ((s.tahrOf c.val).localRead (ea.toNat - 0x10000000) 2)))))) a wb) s) :)
  ∧ (∀ (s : State) (c : Fin 32) (t a : BitVec 5) (mode : BitVec 3) (f : BitVec 13) (ea : W32) (wb : Option W32), s.coreFetches c → memReserved true t a mode f = false → (s.tahrOf c.val).address a mode f = (ea, wb) → 
    ea.toNat % 2 = 0 → ((s.awake c).coreLoad c.val ea.toNat 2).1.isNone = true →
    Does (.ldhs c t a mode f) s (Part.reading ++ [.free, .time, .tahr])
      (CoreAt c (s.nextPc c) (s.moved c (some (t, (BitVec.ofInt 32 (sext 16 (leNat ((s.awake c).coreLoad c.val ea.toNat 2).2.1))))) a wb) s) :)
  ∧ (∀ (s : State) (c : Fin 32) (t a : BitVec 5) (mode : BitVec 3) (f : BitVec 13) (ea : W32) (wb : Option W32) (cause : Nat), s.coreFetches c → (s.tahrOf c.val).hnd = false → memReserved true t a mode f = false → (s.tahrOf c.val).address a mode f = (ea, wb) → 
    ea.toNat % 2 = 0 → ((s.awake c).coreLoad c.val ea.toNat 2).1 = some cause →
    Does (.ldhs c t a mode f) s (Part.reading ++ [.free, .time, .tahr]) (CoreExcepts c cause ea s) :)
  ∧ (∀ (s : State) (c : Fin 32) (t a : BitVec 5) (mode : BitVec 3) (f : BitVec 13) (ea : W32) (wb : Option W32), s.coreFetches c → (s.tahrOf c.val).hnd = false → memReserved true t a mode f = false → (s.tahrOf c.val).address a mode f = (ea, wb) → 
    ea.toNat % 2 ≠ 0 → Does (.ldhs c t a mode f) s [.tahr] (CoreExcepts c 4 ea s) :)
  ∧ (∀ (s : State) (c : Fin 32) (t a : BitVec 5) (mode : BitVec 3) (f : BitVec 13), s.coreFetches c → (s.tahrOf c.val).hnd = false → memReserved true t a mode f = true →
    Does (.ldhs c t a mode f) s [.tahr] (CoreExcepts c 1 (wordM 35 t a mode f) s) :)
  ∧ (∀ (s : State) (c : Fin 32) (t a : BitVec 5) (mode : BitVec 3) (f : BitVec 13) (ea : W32) (wb : Option W32), s.coreFetches c → memReserved true t a mode f = false → (s.tahrOf c.val).address a mode f = (ea, wb) → 
    ea.toNat % 4 = 0 → 0x10000000 ≤ ea.toNat → ea.toNat < 0x10040000 → s.coreMark c.val ea.toNat = .clean →
    Does (.ldw c t a mode f) s [.tahr] (CoreAt c (s.nextPc c) (s.moved c (some (t, (BitVec.ofNat 32 (leNat ((s.tahrOf c.val).localRead (ea.toNat - 0x10000000) 4))))) a wb) s) :)
  ∧ (∀ (s : State) (c : Fin 32) (t a : BitVec 5) (mode : BitVec 3) (f : BitVec 13) (ea : W32) (wb : Option W32), s.coreFetches c → memReserved true t a mode f = false → (s.tahrOf c.val).address a mode f = (ea, wb) → 
    ea.toNat % 4 = 0 → ((s.awake c).coreLoad c.val ea.toNat 4).1.isNone = true →
    Does (.ldw c t a mode f) s (Part.reading ++ [.free, .time, .tahr])
      (CoreAt c (s.nextPc c) (s.moved c (some (t, (BitVec.ofNat 32 (leNat ((s.awake c).coreLoad c.val ea.toNat 4).2.1)))) a wb) s) :)
  ∧ (∀ (s : State) (c : Fin 32) (t a : BitVec 5) (mode : BitVec 3) (f : BitVec 13) (ea : W32) (wb : Option W32) (cause : Nat), s.coreFetches c → (s.tahrOf c.val).hnd = false → memReserved true t a mode f = false → (s.tahrOf c.val).address a mode f = (ea, wb) → 
    ea.toNat % 4 = 0 → ((s.awake c).coreLoad c.val ea.toNat 4).1 = some cause →
    Does (.ldw c t a mode f) s (Part.reading ++ [.free, .time, .tahr]) (CoreExcepts c cause ea s) :)
  ∧ (∀ (s : State) (c : Fin 32) (t a : BitVec 5) (mode : BitVec 3) (f : BitVec 13) (ea : W32) (wb : Option W32), s.coreFetches c → (s.tahrOf c.val).hnd = false → memReserved true t a mode f = false → (s.tahrOf c.val).address a mode f = (ea, wb) → 
    ea.toNat % 4 ≠ 0 → Does (.ldw c t a mode f) s [.tahr] (CoreExcepts c 4 ea s) :)
  ∧ (∀ (s : State) (c : Fin 32) (t a : BitVec 5) (mode : BitVec 3) (f : BitVec 13), s.coreFetches c → (s.tahrOf c.val).hnd = false → memReserved true t a mode f = true →
    Does (.ldw c t a mode f) s [.tahr] (CoreExcepts c 1 (wordM 36 t a mode f) s) :)
  ∧ (∀ (s : State) (c : Fin 32) (ea : W32), (s.tahrOf c.val).target ea.toNat = .none →
    ((s.awake c).coreLoad c.val ea.toNat 4).1 = some 5 :)
  ∧ (∀ (s : State) (c : Fin 32) (t a : BitVec 5) (mode : BitVec 3) (f : BitVec 13) (ea : W32) (wb : Option W32), s.coreFetches c → memReserved false t a mode f = false → (s.tahrOf c.val).address a mode f = (ea, wb) → 
    0x10000000 ≤ ea.toNat → ea.toNat < 0x10040000 →
    Does (.stb c t a mode f) s [.tahr, .flt] fun s' =>
      (∀ r, r < 32 → s'.greg c (BitVec.ofNat 5 r) = s.moved c none a wb (BitVec.ofNat 5 r))
        ∧ (s'.tahrOf c.val).pc = s.nextPc c ∧ (s'.tahrOf c.val).localRead (ea.toNat - 0x10000000) 1 = (leBytes 1 (s.greg c t).toNat) :)
  ∧ (∀ (s : State) (c : Fin 32) (t a : BitVec 5) (mode : BitVec 3) (f : BitVec 13) (ea : W32) (wb : Option W32) (o : Nat), s.coreFetches c → memReserved false t a mode f = false → (s.tahrOf c.val).address a mode f = (ea, wb) → 
    0x10000000 ≤ ea.toNat → ea.toNat < 0x10040000 → (o < ea.toNat - 0x10000000 ∨ ea.toNat - 0x10000000 + 1 ≤ o) →
    Does (.stb c t a mode f) s [.tahr, .flt] fun s' => (s'.tahrOf c.val).localRead o 1 = (s.tahrOf c.val).localRead o 1 :)
  ∧ (∀ (s : State) (c : Fin 32) (t a : BitVec 5) (mode : BitVec 3) (f : BitVec 13) (ea : W32) (wb : Option W32) (dv : Nat), s.coreFetches c → memReserved false t a mode f = false → (s.tahrOf c.val).address a mode f = (ea, wb) → 
    (s.tahrOf c.val).target ea.toNat = .far dv → inHbm dv 1 = true → s.bit CKP_CTL CKP_CTL_EN = false →
    Does (.stb c t a mode f) s (Part.storing ++ [.tahr]) fun s' => CoreAt c (s.nextPc c) (s.moved c none a wb) s s'
      ∧ s'.bytes dv 1 = (leBytes 1 (s.greg c t).toNat) :)
  ∧ (∀ (s : State) (c : Fin 32) (t a : BitVec 5) (mode : BitVec 3) (f : BitVec 13) (ea : W32) (wb : Option W32), s.coreFetches c → (s.tahrOf c.val).hnd = false → memReserved false t a mode f = false → (s.tahrOf c.val).address a mode f = (ea, wb) → 
    ((s.tahrOf c.val).target ea.toNat = .ctrl ∨ (s.tahrOf c.val).target ea.toNat = .none) →
    Does (.stb c t a mode f) s [.tahr] (CoreExcepts c 6 ea s) :)
  ∧ (∀ (s : State) (c : Fin 32) (t a : BitVec 5) (mode : BitVec 3) (f : BitVec 13) (ea : W32) (wb : Option W32) (off : Nat), s.coreFetches c → (s.tahrOf c.val).hnd = false → memReserved false t a mode f = false → (s.tahrOf c.val).address a mode f = (ea, wb) → 
    (s.tahrOf c.val).target ea.toNat = .regs off →
    Does (.stb c t a mode f) s [.tahr] (CoreExcepts c 6 ea s) :)
  ∧ (∀ (s : State) (c : Fin 32) (t a : BitVec 5) (mode : BitVec 3) (f : BitVec 13) (ea : W32) (wb : Option W32), s.coreFetches c → memReserved false t a mode f = false → (s.tahrOf c.val).address a mode f = (ea, wb) → 
    ((s.awake c).coreStore c.val ea.toNat (leBytes 1 (s.greg c t).toNat)).1 = false →
    exec (.stb c t a mode f) s = .next (((s.awake c).coreStore c.val ea.toNat (leBytes 1 (s.greg c t).toNat)).2.setTahr c.val ((((s.awake c).coreStore c.val ea.toNat (leBytes 1 (s.greg c t).toNat)).2.tahrOf c.val).finish a wb)) :)
  ∧ (∀ (s : State) (c : Fin 32) (t a : BitVec 5) (mode : BitVec 3) (f : BitVec 13) (ea : W32) (wb : Option W32), s.coreFetches c → (s.tahrOf c.val).hnd = false → memReserved false t a mode f = false → (s.tahrOf c.val).address a mode f = (ea, wb) → 
    ((s.awake c).coreStore c.val ea.toNat (leBytes 1 (s.greg c t).toNat)).1 = true →
    Does (.stb c t a mode f) s [.tahr] (CoreExcepts c 6 ea s) :)
  ∧ (∀ (s : State) (c : Fin 32) (t a : BitVec 5) (mode : BitVec 3) (f : BitVec 13), s.coreFetches c → (s.tahrOf c.val).hnd = false → memReserved false t a mode f = true →
    Does (.stb c t a mode f) s [.tahr] (CoreExcepts c 1 (wordM 37 t a mode f) s) :)
  ∧ (∀ (s : State) (c : Fin 32) (t a : BitVec 5) (mode : BitVec 3) (f : BitVec 13) (ea : W32) (wb : Option W32), s.coreFetches c → memReserved false t a mode f = false → (s.tahrOf c.val).address a mode f = (ea, wb) → 
    ea.toNat % 2 = 0 → 0x10000000 ≤ ea.toNat → ea.toNat < 0x10040000 →
    Does (.sth c t a mode f) s [.tahr, .flt] fun s' =>
      (∀ r, r < 32 → s'.greg c (BitVec.ofNat 5 r) = s.moved c none a wb (BitVec.ofNat 5 r))
        ∧ (s'.tahrOf c.val).pc = s.nextPc c ∧ (s'.tahrOf c.val).localRead (ea.toNat - 0x10000000) 2 = (leBytes 2 (s.greg c t).toNat) :)
  ∧ (∀ (s : State) (c : Fin 32) (t a : BitVec 5) (mode : BitVec 3) (f : BitVec 13) (ea : W32) (wb : Option W32) (o : Nat), s.coreFetches c → memReserved false t a mode f = false → (s.tahrOf c.val).address a mode f = (ea, wb) → 
    ea.toNat % 2 = 0 → 0x10000000 ≤ ea.toNat → ea.toNat < 0x10040000 → (o < ea.toNat - 0x10000000 ∨ ea.toNat - 0x10000000 + 2 ≤ o) →
    Does (.sth c t a mode f) s [.tahr, .flt] fun s' => (s'.tahrOf c.val).localRead o 1 = (s.tahrOf c.val).localRead o 1 :)
  ∧ (∀ (s : State) (c : Fin 32) (t a : BitVec 5) (mode : BitVec 3) (f : BitVec 13) (ea : W32) (wb : Option W32) (dv : Nat), s.coreFetches c → memReserved false t a mode f = false → (s.tahrOf c.val).address a mode f = (ea, wb) → 
    ea.toNat % 2 = 0 → (s.tahrOf c.val).target ea.toNat = .far dv → inHbm dv 2 = true → s.bit CKP_CTL CKP_CTL_EN = false →
    Does (.sth c t a mode f) s (Part.storing ++ [.tahr]) fun s' => CoreAt c (s.nextPc c) (s.moved c none a wb) s s'
      ∧ s'.bytes dv 2 = (leBytes 2 (s.greg c t).toNat) :)
  ∧ (∀ (s : State) (c : Fin 32) (t a : BitVec 5) (mode : BitVec 3) (f : BitVec 13) (ea : W32) (wb : Option W32), s.coreFetches c → (s.tahrOf c.val).hnd = false → memReserved false t a mode f = false → (s.tahrOf c.val).address a mode f = (ea, wb) → 
    ea.toNat % 2 = 0 → ((s.tahrOf c.val).target ea.toNat = .ctrl ∨ (s.tahrOf c.val).target ea.toNat = .none) →
    Does (.sth c t a mode f) s [.tahr] (CoreExcepts c 6 ea s) :)
  ∧ (∀ (s : State) (c : Fin 32) (t a : BitVec 5) (mode : BitVec 3) (f : BitVec 13) (ea : W32) (wb : Option W32) (off : Nat), s.coreFetches c → (s.tahrOf c.val).hnd = false → memReserved false t a mode f = false → (s.tahrOf c.val).address a mode f = (ea, wb) → 
    ea.toNat % 2 = 0 → (s.tahrOf c.val).target ea.toNat = .regs off →
    Does (.sth c t a mode f) s [.tahr] (CoreExcepts c 6 ea s) :)
  ∧ (∀ (s : State) (c : Fin 32) (t a : BitVec 5) (mode : BitVec 3) (f : BitVec 13) (ea : W32) (wb : Option W32), s.coreFetches c → memReserved false t a mode f = false → (s.tahrOf c.val).address a mode f = (ea, wb) → 
    ea.toNat % 2 = 0 → ((s.awake c).coreStore c.val ea.toNat (leBytes 2 (s.greg c t).toNat)).1 = false →
    exec (.sth c t a mode f) s = .next (((s.awake c).coreStore c.val ea.toNat (leBytes 2 (s.greg c t).toNat)).2.setTahr c.val ((((s.awake c).coreStore c.val ea.toNat (leBytes 2 (s.greg c t).toNat)).2.tahrOf c.val).finish a wb)) :)
  ∧ (∀ (s : State) (c : Fin 32) (t a : BitVec 5) (mode : BitVec 3) (f : BitVec 13) (ea : W32) (wb : Option W32), s.coreFetches c → (s.tahrOf c.val).hnd = false → memReserved false t a mode f = false → (s.tahrOf c.val).address a mode f = (ea, wb) → 
    ea.toNat % 2 = 0 → ((s.awake c).coreStore c.val ea.toNat (leBytes 2 (s.greg c t).toNat)).1 = true →
    Does (.sth c t a mode f) s [.tahr] (CoreExcepts c 6 ea s) :)
  ∧ (∀ (s : State) (c : Fin 32) (t a : BitVec 5) (mode : BitVec 3) (f : BitVec 13) (ea : W32) (wb : Option W32), s.coreFetches c → (s.tahrOf c.val).hnd = false → memReserved false t a mode f = false → (s.tahrOf c.val).address a mode f = (ea, wb) → 
    ea.toNat % 2 ≠ 0 → Does (.sth c t a mode f) s [.tahr] (CoreExcepts c 4 ea s) :)
  ∧ (∀ (s : State) (c : Fin 32) (t a : BitVec 5) (mode : BitVec 3) (f : BitVec 13), s.coreFetches c → (s.tahrOf c.val).hnd = false → memReserved false t a mode f = true →
    Does (.sth c t a mode f) s [.tahr] (CoreExcepts c 1 (wordM 38 t a mode f) s) :)
  ∧ (∀ (s : State) (c : Fin 32) (t a : BitVec 5) (mode : BitVec 3) (f : BitVec 13) (ea : W32) (wb : Option W32), s.coreFetches c → memReserved false t a mode f = false → (s.tahrOf c.val).address a mode f = (ea, wb) → 
    ea.toNat % 4 = 0 → 0x10000000 ≤ ea.toNat → ea.toNat < 0x10040000 →
    Does (.stw c t a mode f) s [.tahr, .flt] fun s' =>
      (∀ r, r < 32 → s'.greg c (BitVec.ofNat 5 r) = s.moved c none a wb (BitVec.ofNat 5 r))
        ∧ (s'.tahrOf c.val).pc = s.nextPc c ∧ (s'.tahrOf c.val).localRead (ea.toNat - 0x10000000) 4 = (leBytes 4 (s.greg c t).toNat) :)
  ∧ (∀ (s : State) (c : Fin 32) (t a : BitVec 5) (mode : BitVec 3) (f : BitVec 13) (ea : W32) (wb : Option W32) (o : Nat), s.coreFetches c → memReserved false t a mode f = false → (s.tahrOf c.val).address a mode f = (ea, wb) → 
    ea.toNat % 4 = 0 → 0x10000000 ≤ ea.toNat → ea.toNat < 0x10040000 → (o < ea.toNat - 0x10000000 ∨ ea.toNat - 0x10000000 + 4 ≤ o) →
    Does (.stw c t a mode f) s [.tahr, .flt] fun s' => (s'.tahrOf c.val).localRead o 1 = (s.tahrOf c.val).localRead o 1 :)
  ∧ (∀ (s : State) (c : Fin 32) (t a : BitVec 5) (mode : BitVec 3) (f : BitVec 13) (ea : W32) (wb : Option W32) (dv : Nat), s.coreFetches c → memReserved false t a mode f = false → (s.tahrOf c.val).address a mode f = (ea, wb) → 
    ea.toNat % 4 = 0 → (s.tahrOf c.val).target ea.toNat = .far dv → inHbm dv 4 = true → s.bit CKP_CTL CKP_CTL_EN = false →
    Does (.stw c t a mode f) s (Part.storing ++ [.tahr]) fun s' => CoreAt c (s.nextPc c) (s.moved c none a wb) s s'
      ∧ s'.bytes dv 4 = (leBytes 4 (s.greg c t).toNat) :)
  ∧ (∀ (s : State) (c : Fin 32) (t a : BitVec 5) (mode : BitVec 3) (f : BitVec 13) (ea : W32) (wb : Option W32), s.coreFetches c → (s.tahrOf c.val).hnd = false → memReserved false t a mode f = false → (s.tahrOf c.val).address a mode f = (ea, wb) → 
    ea.toNat % 4 = 0 → ((s.tahrOf c.val).target ea.toNat = .ctrl ∨ (s.tahrOf c.val).target ea.toNat = .none) →
    Does (.stw c t a mode f) s [.tahr] (CoreExcepts c 6 ea s) :)
  ∧ (∀ (s : State) (c : Fin 32) (t a : BitVec 5) (mode : BitVec 3) (f : BitVec 13) (ea : W32) (wb : Option W32), s.coreFetches c → memReserved false t a mode f = false → (s.tahrOf c.val).address a mode f = (ea, wb) → 
    ea.toNat % 4 = 0 → ((s.awake c).coreStore c.val ea.toNat (leBytes 4 (s.greg c t).toNat)).1 = false →
    exec (.stw c t a mode f) s = .next (((s.awake c).coreStore c.val ea.toNat (leBytes 4 (s.greg c t).toNat)).2.setTahr c.val ((((s.awake c).coreStore c.val ea.toNat (leBytes 4 (s.greg c t).toNat)).2.tahrOf c.val).finish a wb)) :)
  ∧ (∀ (s : State) (c : Fin 32) (t a : BitVec 5) (mode : BitVec 3) (f : BitVec 13) (ea : W32) (wb : Option W32), s.coreFetches c → (s.tahrOf c.val).hnd = false → memReserved false t a mode f = false → (s.tahrOf c.val).address a mode f = (ea, wb) → 
    ea.toNat % 4 = 0 → ((s.awake c).coreStore c.val ea.toNat (leBytes 4 (s.greg c t).toNat)).1 = true →
    Does (.stw c t a mode f) s [.tahr] (CoreExcepts c 6 ea s) :)
  ∧ (∀ (s : State) (c : Fin 32) (t a : BitVec 5) (mode : BitVec 3) (f : BitVec 13) (ea : W32) (wb : Option W32), s.coreFetches c → (s.tahrOf c.val).hnd = false → memReserved false t a mode f = false → (s.tahrOf c.val).address a mode f = (ea, wb) → 
    ea.toNat % 4 ≠ 0 → Does (.stw c t a mode f) s [.tahr] (CoreExcepts c 4 ea s) :)
  ∧ (∀ (s : State) (c : Fin 32) (t a : BitVec 5) (mode : BitVec 3) (f : BitVec 13), s.coreFetches c → (s.tahrOf c.val).hnd = false → memReserved false t a mode f = true →
    Does (.stw c t a mode f) s [.tahr] (CoreExcepts c 1 (wordM 39 t a mode f) s) :)
  ∧ (∀ (t : Tahr) (a : BitVec 5) (f : BitVec 13), t.address a 0 f = (t.reg a + f.signExtend 32, none)
    ∧ t.address a 1 f = (t.reg a, some (t.reg a + f.signExtend 32))
    ∧ t.address a 2 f = (t.reg a - f.zeroExtend 32, some (t.reg a - f.zeroExtend 32))
    ∧ t.address a 3 f = (t.reg a + t.reg (BitVec.ofNat 5 (f.toNat / 256)) * BitVec.ofNat 32 (2 ^ (f.toNat / 64 % 4)), none) :)

/-- R395, R398: the atomic operations of TIS-32 on local data memory and on HBM through a segment, and their exceptions elsewhere. -/
def Obligations.TahrAtomicOperations : Prop :=
  (∀ (s : State) (c : Fin 32) (d a b : BitVec 5), s.coreFetches c → (s.greg c a).toNat % 4 = 0 → 0x10000000 ≤ (s.greg c a).toNat → (s.greg c a).toNat < 0x10040000 →
    s.coreMark c.val (s.greg c a).toNat = .clean →
    Does (.atomicSwap c d a b 0) s [.tahr, .flt] fun t => (t.tahrOf c.val).pc = s.nextPc c
      ∧ (∀ r, r < 32 → t.greg c (BitVec.ofNat 5 r) = s.wrote c d (BitVec.ofNat 32 (leNat ((s.tahrOf c.val).localRead ((s.greg c a).toNat - 0x10000000) 4))) (BitVec.ofNat 5 r))
      ∧ (t.tahrOf c.val).localRead ((s.greg c a).toNat - 0x10000000) 4 = leBytes 4 (s.greg c b : W32).toNat :)
  ∧ (∀ (s : State) (c : Fin 32) (d a b : BitVec 5) (dv : Nat), s.coreFetches c → (s.greg c a).toNat % 4 = 0 → (s.tahrOf c.val).target (s.greg c a).toNat = .far dv →
    inHbm dv 4 = true → s.bit CKP_CTL CKP_CTL_EN = false → ((s.awake c).coreLoad c.val (s.greg c a).toNat 4).1.isNone = true →
    Does (.atomicSwap c d a b 0) s (Part.storing ++ [.tahr]) fun t => CoreAt c (s.nextPc c) (s.wrote c d (BitVec.ofNat 32 (leNat ((s.awake c).coreLoad c.val (s.greg c a).toNat 4).2.1))) s t
      ∧ t.bytes dv 4 = leBytes 4 (s.greg c b : W32).toNat :)
  ∧ (∀ (s : State) (c : Fin 32) (d a b : BitVec 5), s.coreFetches c → (s.tahrOf c.val).hnd = false → (s.greg c a).toNat % 4 ≠ 0 →
    Does (.atomicSwap c d a b 0) s [.tahr] (CoreExcepts c 4 (s.greg c a) s) :)
  ∧ (∀ (s : State) (c : Fin 32) (d a b : BitVec 5), s.coreFetches c → (s.tahrOf c.val).hnd = false → (s.greg c a).toNat % 4 = 0 → (s.tahrOf c.val).atomicOk (s.greg c a).toNat = false →
    Does (.atomicSwap c d a b 0) s [.tahr] (CoreExcepts c 6 (s.greg c a) s) :)
  ∧ (∀ (s : State) (c : Fin 32) (d a b : BitVec 5), s.coreFetches c → (s.tahrOf c.val).hnd = false → (s.greg c a).toNat % 4 = 0 → (s.tahrOf c.val).atomicOk (s.greg c a).toNat = true →
    ((s.awake c).coreLoad c.val (s.greg c a).toNat 4).1 = some 0x0A →
    Does (.atomicSwap c d a b 0) s (Part.reading ++ [.tahr]) (CoreExcepts c 0x0A (s.greg c a) s) :)
  ∧ (∀ (s : State) (c : Fin 32) (d a b : BitVec 5) (sh : BitVec 5), s.coreFetches c → (s.tahrOf c.val).hnd = false → sh ≠ 0 →
    Does (.atomicSwap c d a b sh) s [.tahr] (CoreExcepts c 1 (wordA 8 d a b sh 1) s) :)
  ∧ (∀ (s : State) (c : Fin 32) (d a b : BitVec 5), s.coreFetches c → (s.greg c a).toNat % 4 = 0 → 0x10000000 ≤ (s.greg c a).toNat → (s.greg c a).toNat < 0x10040000 →
    s.coreMark c.val (s.greg c a).toNat = .clean →
    Does (.aadd c d a b 0) s [.tahr, .flt] fun t => (t.tahrOf c.val).pc = s.nextPc c
      ∧ (∀ r, r < 32 → t.greg c (BitVec.ofNat 5 r) = s.wrote c d (BitVec.ofNat 32 (leNat ((s.tahrOf c.val).localRead ((s.greg c a).toNat - 0x10000000) 4))) (BitVec.ofNat 5 r))
      ∧ (t.tahrOf c.val).localRead ((s.greg c a).toNat - 0x10000000) 4 = leBytes 4 (((BitVec.ofNat 32 (leNat ((s.tahrOf c.val).localRead ((s.greg c a).toNat - 0x10000000) 4))) + s.greg c b) : W32).toNat :)
  ∧ (∀ (s : State) (c : Fin 32) (d a b : BitVec 5) (dv : Nat), s.coreFetches c → (s.greg c a).toNat % 4 = 0 → (s.tahrOf c.val).target (s.greg c a).toNat = .far dv →
    inHbm dv 4 = true → s.bit CKP_CTL CKP_CTL_EN = false → ((s.awake c).coreLoad c.val (s.greg c a).toNat 4).1.isNone = true →
    Does (.aadd c d a b 0) s (Part.storing ++ [.tahr]) fun t => CoreAt c (s.nextPc c) (s.wrote c d (BitVec.ofNat 32 (leNat ((s.awake c).coreLoad c.val (s.greg c a).toNat 4).2.1))) s t
      ∧ t.bytes dv 4 = leBytes 4 (((BitVec.ofNat 32 (leNat ((s.awake c).coreLoad c.val (s.greg c a).toNat 4).2.1)) + s.greg c b) : W32).toNat :)
  ∧ (∀ (s : State) (c : Fin 32) (d a b : BitVec 5), s.coreFetches c → (s.tahrOf c.val).hnd = false → (s.greg c a).toNat % 4 ≠ 0 →
    Does (.aadd c d a b 0) s [.tahr] (CoreExcepts c 4 (s.greg c a) s) :)
  ∧ (∀ (s : State) (c : Fin 32) (d a b : BitVec 5), s.coreFetches c → (s.tahrOf c.val).hnd = false → (s.greg c a).toNat % 4 = 0 → (s.tahrOf c.val).atomicOk (s.greg c a).toNat = false →
    Does (.aadd c d a b 0) s [.tahr] (CoreExcepts c 6 (s.greg c a) s) :)
  ∧ (∀ (s : State) (c : Fin 32) (d a b : BitVec 5), s.coreFetches c → (s.tahrOf c.val).hnd = false → (s.greg c a).toNat % 4 = 0 → (s.tahrOf c.val).atomicOk (s.greg c a).toNat = true →
    ((s.awake c).coreLoad c.val (s.greg c a).toNat 4).1 = some 0x0A →
    Does (.aadd c d a b 0) s (Part.reading ++ [.tahr]) (CoreExcepts c 0x0A (s.greg c a) s) :)
  ∧ (∀ (s : State) (c : Fin 32) (d a b : BitVec 5) (sh : BitVec 5), s.coreFetches c → (s.tahrOf c.val).hnd = false → sh ≠ 0 →
    Does (.aadd c d a b sh) s [.tahr] (CoreExcepts c 1 (wordA 8 d a b sh 2) s) :)
  ∧ (∀ (s : State) (c : Fin 32) (d a b : BitVec 5), s.coreFetches c → (s.greg c a).toNat % 4 = 0 → 0x10000000 ≤ (s.greg c a).toNat → (s.greg c a).toNat < 0x10040000 →
    s.coreMark c.val (s.greg c a).toNat = .clean →
    Does (.aand c d a b 0) s [.tahr, .flt] fun t => (t.tahrOf c.val).pc = s.nextPc c
      ∧ (∀ r, r < 32 → t.greg c (BitVec.ofNat 5 r) = s.wrote c d (BitVec.ofNat 32 (leNat ((s.tahrOf c.val).localRead ((s.greg c a).toNat - 0x10000000) 4))) (BitVec.ofNat 5 r))
      ∧ (t.tahrOf c.val).localRead ((s.greg c a).toNat - 0x10000000) 4 = leBytes 4 (((BitVec.ofNat 32 (leNat ((s.tahrOf c.val).localRead ((s.greg c a).toNat - 0x10000000) 4))) &&& s.greg c b) : W32).toNat :)
  ∧ (∀ (s : State) (c : Fin 32) (d a b : BitVec 5) (dv : Nat), s.coreFetches c → (s.greg c a).toNat % 4 = 0 → (s.tahrOf c.val).target (s.greg c a).toNat = .far dv →
    inHbm dv 4 = true → s.bit CKP_CTL CKP_CTL_EN = false → ((s.awake c).coreLoad c.val (s.greg c a).toNat 4).1.isNone = true →
    Does (.aand c d a b 0) s (Part.storing ++ [.tahr]) fun t => CoreAt c (s.nextPc c) (s.wrote c d (BitVec.ofNat 32 (leNat ((s.awake c).coreLoad c.val (s.greg c a).toNat 4).2.1))) s t
      ∧ t.bytes dv 4 = leBytes 4 (((BitVec.ofNat 32 (leNat ((s.awake c).coreLoad c.val (s.greg c a).toNat 4).2.1)) &&& s.greg c b) : W32).toNat :)
  ∧ (∀ (s : State) (c : Fin 32) (d a b : BitVec 5), s.coreFetches c → (s.tahrOf c.val).hnd = false → (s.greg c a).toNat % 4 ≠ 0 →
    Does (.aand c d a b 0) s [.tahr] (CoreExcepts c 4 (s.greg c a) s) :)
  ∧ (∀ (s : State) (c : Fin 32) (d a b : BitVec 5), s.coreFetches c → (s.tahrOf c.val).hnd = false → (s.greg c a).toNat % 4 = 0 → (s.tahrOf c.val).atomicOk (s.greg c a).toNat = false →
    Does (.aand c d a b 0) s [.tahr] (CoreExcepts c 6 (s.greg c a) s) :)
  ∧ (∀ (s : State) (c : Fin 32) (d a b : BitVec 5), s.coreFetches c → (s.tahrOf c.val).hnd = false → (s.greg c a).toNat % 4 = 0 → (s.tahrOf c.val).atomicOk (s.greg c a).toNat = true →
    ((s.awake c).coreLoad c.val (s.greg c a).toNat 4).1 = some 0x0A →
    Does (.aand c d a b 0) s (Part.reading ++ [.tahr]) (CoreExcepts c 0x0A (s.greg c a) s) :)
  ∧ (∀ (s : State) (c : Fin 32) (d a b : BitVec 5) (sh : BitVec 5), s.coreFetches c → (s.tahrOf c.val).hnd = false → sh ≠ 0 →
    Does (.aand c d a b sh) s [.tahr] (CoreExcepts c 1 (wordA 8 d a b sh 3) s) :)
  ∧ (∀ (s : State) (c : Fin 32) (d a b : BitVec 5), s.coreFetches c → (s.greg c a).toNat % 4 = 0 → 0x10000000 ≤ (s.greg c a).toNat → (s.greg c a).toNat < 0x10040000 →
    s.coreMark c.val (s.greg c a).toNat = .clean →
    Does (.aor c d a b 0) s [.tahr, .flt] fun t => (t.tahrOf c.val).pc = s.nextPc c
      ∧ (∀ r, r < 32 → t.greg c (BitVec.ofNat 5 r) = s.wrote c d (BitVec.ofNat 32 (leNat ((s.tahrOf c.val).localRead ((s.greg c a).toNat - 0x10000000) 4))) (BitVec.ofNat 5 r))
      ∧ (t.tahrOf c.val).localRead ((s.greg c a).toNat - 0x10000000) 4 = leBytes 4 (((BitVec.ofNat 32 (leNat ((s.tahrOf c.val).localRead ((s.greg c a).toNat - 0x10000000) 4))) ||| s.greg c b) : W32).toNat :)
  ∧ (∀ (s : State) (c : Fin 32) (d a b : BitVec 5) (dv : Nat), s.coreFetches c → (s.greg c a).toNat % 4 = 0 → (s.tahrOf c.val).target (s.greg c a).toNat = .far dv →
    inHbm dv 4 = true → s.bit CKP_CTL CKP_CTL_EN = false → ((s.awake c).coreLoad c.val (s.greg c a).toNat 4).1.isNone = true →
    Does (.aor c d a b 0) s (Part.storing ++ [.tahr]) fun t => CoreAt c (s.nextPc c) (s.wrote c d (BitVec.ofNat 32 (leNat ((s.awake c).coreLoad c.val (s.greg c a).toNat 4).2.1))) s t
      ∧ t.bytes dv 4 = leBytes 4 (((BitVec.ofNat 32 (leNat ((s.awake c).coreLoad c.val (s.greg c a).toNat 4).2.1)) ||| s.greg c b) : W32).toNat :)
  ∧ (∀ (s : State) (c : Fin 32) (d a b : BitVec 5), s.coreFetches c → (s.tahrOf c.val).hnd = false → (s.greg c a).toNat % 4 ≠ 0 →
    Does (.aor c d a b 0) s [.tahr] (CoreExcepts c 4 (s.greg c a) s) :)
  ∧ (∀ (s : State) (c : Fin 32) (d a b : BitVec 5), s.coreFetches c → (s.tahrOf c.val).hnd = false → (s.greg c a).toNat % 4 = 0 → (s.tahrOf c.val).atomicOk (s.greg c a).toNat = false →
    Does (.aor c d a b 0) s [.tahr] (CoreExcepts c 6 (s.greg c a) s) :)
  ∧ (∀ (s : State) (c : Fin 32) (d a b : BitVec 5), s.coreFetches c → (s.tahrOf c.val).hnd = false → (s.greg c a).toNat % 4 = 0 → (s.tahrOf c.val).atomicOk (s.greg c a).toNat = true →
    ((s.awake c).coreLoad c.val (s.greg c a).toNat 4).1 = some 0x0A →
    Does (.aor c d a b 0) s (Part.reading ++ [.tahr]) (CoreExcepts c 0x0A (s.greg c a) s) :)
  ∧ (∀ (s : State) (c : Fin 32) (d a b : BitVec 5) (sh : BitVec 5), s.coreFetches c → (s.tahrOf c.val).hnd = false → sh ≠ 0 →
    Does (.aor c d a b sh) s [.tahr] (CoreExcepts c 1 (wordA 8 d a b sh 4) s) :)
  ∧ (∀ (s : State) (c : Fin 32) (d a b : BitVec 5), s.coreFetches c → (s.greg c a).toNat % 4 = 0 → 0x10000000 ≤ (s.greg c a).toNat → (s.greg c a).toNat < 0x10040000 →
    s.coreMark c.val (s.greg c a).toNat = .clean →
    Does (.cas c d a b 0) s [.tahr, .flt] fun t => (t.tahrOf c.val).pc = s.nextPc c
      ∧ (∀ r, r < 32 → t.greg c (BitVec.ofNat 5 r) = s.wrote c d (BitVec.ofNat 32 (leNat ((s.tahrOf c.val).localRead ((s.greg c a).toNat - 0x10000000) 4))) (BitVec.ofNat 5 r))
      ∧ (t.tahrOf c.val).localRead ((s.greg c a).toNat - 0x10000000) 4 = leBytes 4 ((if (BitVec.ofNat 32 (leNat ((s.tahrOf c.val).localRead ((s.greg c a).toNat - 0x10000000) 4))) = s.greg c d then s.greg c b else (BitVec.ofNat 32 (leNat ((s.tahrOf c.val).localRead ((s.greg c a).toNat - 0x10000000) 4)))) : W32).toNat :)
  ∧ (∀ (s : State) (c : Fin 32) (d a b : BitVec 5) (dv : Nat), s.coreFetches c → (s.greg c a).toNat % 4 = 0 → (s.tahrOf c.val).target (s.greg c a).toNat = .far dv →
    inHbm dv 4 = true → s.bit CKP_CTL CKP_CTL_EN = false → ((s.awake c).coreLoad c.val (s.greg c a).toNat 4).1.isNone = true →
    Does (.cas c d a b 0) s (Part.storing ++ [.tahr]) fun t => CoreAt c (s.nextPc c) (s.wrote c d (BitVec.ofNat 32 (leNat ((s.awake c).coreLoad c.val (s.greg c a).toNat 4).2.1))) s t
      ∧ t.bytes dv 4 = leBytes 4 ((if (BitVec.ofNat 32 (leNat ((s.awake c).coreLoad c.val (s.greg c a).toNat 4).2.1)) = s.greg c d then s.greg c b else (BitVec.ofNat 32 (leNat ((s.awake c).coreLoad c.val (s.greg c a).toNat 4).2.1))) : W32).toNat :)
  ∧ (∀ (s : State) (c : Fin 32) (d a b : BitVec 5), s.coreFetches c → (s.tahrOf c.val).hnd = false → (s.greg c a).toNat % 4 ≠ 0 →
    Does (.cas c d a b 0) s [.tahr] (CoreExcepts c 4 (s.greg c a) s) :)
  ∧ (∀ (s : State) (c : Fin 32) (d a b : BitVec 5), s.coreFetches c → (s.tahrOf c.val).hnd = false → (s.greg c a).toNat % 4 = 0 → (s.tahrOf c.val).atomicOk (s.greg c a).toNat = false →
    Does (.cas c d a b 0) s [.tahr] (CoreExcepts c 6 (s.greg c a) s) :)
  ∧ (∀ (s : State) (c : Fin 32) (d a b : BitVec 5), s.coreFetches c → (s.tahrOf c.val).hnd = false → (s.greg c a).toNat % 4 = 0 → (s.tahrOf c.val).atomicOk (s.greg c a).toNat = true →
    ((s.awake c).coreLoad c.val (s.greg c a).toNat 4).1 = some 0x0A →
    Does (.cas c d a b 0) s (Part.reading ++ [.tahr]) (CoreExcepts c 0x0A (s.greg c a) s) :)
  ∧ (∀ (s : State) (c : Fin 32) (d a b : BitVec 5) (sh : BitVec 5), s.coreFetches c → (s.tahrOf c.val).hnd = false → sh ≠ 0 →
    Does (.cas c d a b sh) s [.tahr] (CoreExcepts c 1 (wordA 8 d a b sh 5) s) :)

/-- R396, R397, R399 to R401: system registers, RESUME, WFE, FENCE, TRAP and BRK, the exceptions of a fetch, the double fault, the
event exception and the timer. -/
def Obligations.TahrSystemAndExceptions : Prop :=
  (∀ (s : State) (c : Fin 32) (d : BitVec 5), s.coreFetches c → 
    Does (.sread c d 0 0) s [.tahr] (CoreAt c (s.nextPc c) (s.wrote c d (BitVec.ofNat 32 c.val)) s) :)
  ∧ (∀ (s : State) (c : Fin 32) (d : BitVec 5), s.coreFetches c → 
    Does (.sread c d 0 1) s [.tahr] (CoreAt c (s.nextPc c) (s.wrote c d (s.tahrOf c.val).xpc) s) :)
  ∧ (∀ (s : State) (c : Fin 32) (d : BitVec 5), s.coreFetches c → 
    Does (.sread c d 0 2) s [.tahr] (CoreAt c (s.nextPc c) (s.wrote c d (s.tahrOf c.val).xcause) s) :)
  ∧ (∀ (s : State) (c : Fin 32) (d : BitVec 5), s.coreFetches c → 
    Does (.sread c d 0 3) s [.tahr] (CoreAt c (s.nextPc c) (s.wrote c d (s.tahrOf c.val).xaddr) s) :)
  ∧ (∀ (s : State) (c : Fin 32) (d : BitVec 5), s.coreFetches c → 
    Does (.sread c d 0 4) s [.tahr] (CoreAt c (s.nextPc c) (s.wrote c d (s.tahrOf c.val).xstate) s) :)
  ∧ (∀ (s : State) (c : Fin 32) (d : BitVec 5), s.coreFetches c → 
    Does (.sread c d 0 5) s [.tahr] (CoreAt c (s.nextPc c) (s.wrote c d (s.tahrOf c.val).cstate) s) :)
  ∧ (∀ (s : State) (c : Fin 32) (d : BitVec 5), s.coreFetches c → 
    Does (.sread c d 0 6) s [.tahr] (CoreAt c (s.nextPc c) (s.wrote c d (s.tahrOf c.val).vbase) s) :)
  ∧ (∀ (s : State) (c : Fin 32) (d : BitVec 5), s.coreFetches c → 
    Does (.sread c d 0 8) s [.tahr] (CoreAt c (s.nextPc c) (s.wrote c d (s.tahrOf c.val).cycleHi) s) :)
  ∧ (∀ (s : State) (c : Fin 32) (d : BitVec 5), s.coreFetches c → 
    Does (.sread c d 0 9) s [.tahr] (CoreAt c (s.nextPc c) (s.wrote c d (BitVec.ofNat 32 (s.timerNow c.val))) s) :)
  ∧ (∀ (s : State) (c : Fin 32) (d : BitVec 5), s.coreFetches c → 
    Does (.sread c d 0 10) s [.tahr] (CoreAt c (s.nextPc c) (s.wrote c d (s.tahrOf c.val).events) s) :)
  ∧ (∀ (s : State) (c : Fin 32) (d : BitVec 5), s.coreFetches c → 
    Does (.sread c d 0 11) s [.tahr] (CoreAt c (s.nextPc c) (s.wrote c d (s.tahrOf c.val).evmask) s) :)
  ∧ (∀ (s : State) (c : Fin 32) (d : BitVec 5) (k : BitVec 12), s.coreFetches c → 16 ≤ k.toNat → k.toNat < 32 →
    Does (.sread c d 0 k) s [.tahr] (CoreAt c (s.nextPc c) (s.wrote c d (Tab.get (fun _ => 0) (s.tahrOf c.val).seg (k.toNat - 16))) s) :)
  ∧ (∀ (s : State) (c : Fin 32) (d : BitVec 5), s.coreFetches c → 
    Does (.sread c d 0 7) s [.tahr] fun t =>
      (∀ r, r < 32 → t.greg c (BitVec.ofNat 5 r)
        = s.wrote c d (BitVec.ofNat 32 (coreCycles (s.clock - (s.tahrOf c.val).startedAt))) (BitVec.ofNat 5 r))
        ∧ (t.tahrOf c.val).cycleHi = BitVec.ofNat 32 (coreCycles (s.clock - (s.tahrOf c.val).startedAt) / 2 ^ 32)
        ∧ (t.tahrOf c.val).pc = s.nextPc c :)
  ∧ (∀ (s : State) (c : Fin 32) (d : BitVec 5) (k : BitVec 12), s.coreFetches c → (s.tahrOf c.val).hnd = false → (11 < k.toNat ∧ k.toNat < 16 ∨ 32 ≤ k.toNat) →
    Does (.sread c d 0 k) s [.tahr] (CoreExcepts c 0x0B (k.zeroExtend 32) s) :)
  ∧ (∀ (s : State) (c : Fin 32) (a : BitVec 5), s.coreFetches c → 
    Does (.swrite c 0 a 1) s [.tahr] fun t => t.tahrOf c.val
      = { s.tahrOf c.val with xpc := s.greg c a, pc := s.nextPc c, waiting := false } :)
  ∧ (∀ (s : State) (c : Fin 32) (a : BitVec 5), s.coreFetches c → 
    Does (.swrite c 0 a 2) s [.tahr] fun t => t.tahrOf c.val
      = { s.tahrOf c.val with xcause := s.greg c a &&& 0xFF, pc := s.nextPc c, waiting := false } :)
  ∧ (∀ (s : State) (c : Fin 32) (a : BitVec 5), s.coreFetches c → 
    Does (.swrite c 0 a 3) s [.tahr] fun t => t.tahrOf c.val
      = { s.tahrOf c.val with xaddr := s.greg c a, pc := s.nextPc c, waiting := false } :)
  ∧ (∀ (s : State) (c : Fin 32) (a : BitVec 5), s.coreFetches c → 
    Does (.swrite c 0 a 4) s [.tahr] fun t => t.tahrOf c.val
      = { s.tahrOf c.val with xstate := s.greg c a, pc := s.nextPc c, waiting := false } :)
  ∧ (∀ (s : State) (c : Fin 32) (a : BitVec 5), s.coreFetches c → 
    Does (.swrite c 0 a 5) s [.tahr] fun t => t.tahrOf c.val
      = { s.tahrOf c.val with cstate := s.greg c a &&& 3, pc := s.nextPc c, waiting := false } :)
  ∧ (∀ (s : State) (c : Fin 32) (a : BitVec 5), s.coreFetches c → 
    Does (.swrite c 0 a 6) s [.tahr] fun t => t.tahrOf c.val
      = { s.tahrOf c.val with vbase := s.greg c a &&& 0xFFFFFF00, pc := s.nextPc c, waiting := false } :)
  ∧ (∀ (s : State) (c : Fin 32) (a : BitVec 5), s.coreFetches c → 
    Does (.swrite c 0 a 9) s [.tahr] fun t => t.tahrOf c.val
      = { s.tahrOf c.val with timer := s.greg c a, timerAt := s.clock, pc := s.nextPc c, waiting := false } :)
  ∧ (∀ (s : State) (c : Fin 32) (a : BitVec 5), s.coreFetches c → 
    Does (.swrite c 0 a 10) s [.tahr] fun t => t.tahrOf c.val
      = { s.tahrOf c.val with events := (s.tahrOf c.val).events &&& ~~~s.greg c a, pc := s.nextPc c, waiting := false } :)
  ∧ (∀ (s : State) (c : Fin 32) (a : BitVec 5), s.coreFetches c → 
    Does (.swrite c 0 a 11) s [.tahr] fun t => t.tahrOf c.val
      = { s.tahrOf c.val with evmask := s.greg c a, pc := s.nextPc c, waiting := false } :)
  ∧ (∀ (s : State) (c : Fin 32) (a : BitVec 5) (k : BitVec 12), s.coreFetches c → 16 ≤ k.toNat → k.toNat < 32 →
    Does (.swrite c 0 a k) s [.tahr] fun t => Tab.get (fun _ => (0 : W32)) (t.tahrOf c.val).seg (k.toNat - 16) = s.greg c a &&& 0x83FFFFFF
      ∧ { t.tahrOf c.val with seg := [] } = { s.tahrOf c.val with seg := [], pc := s.nextPc c, waiting := false } :)
  ∧ (∀ (s : State) (c : Fin 32) (a : BitVec 5) (k : BitVec 12), s.coreFetches c → (s.tahrOf c.val).hnd = false → 
    (k = 0 ∨ k = 7 ∨ k = 8 ∨ 11 < k.toNat ∧ k.toNat < 16 ∨ 32 ≤ k.toNat) →
    Does (.swrite c 0 a k) s [.tahr] (CoreExcepts c 0x0B (k.zeroExtend 32) s) :)
  ∧ (∀ (s : State) (c : Fin 32), s.coreFetches c → 
    Does (.resume c 0 0 0) s [.tahr] fun t => t.tahrOf c.val
      = { s.tahrOf c.val with pc := (s.tahrOf c.val).xpc, cstate := (s.tahrOf c.val).xstate &&& 3, waiting := false } :)
  ∧ (∀ (s : State) (c : Fin 32), s.coreFetches c → 
    Does (.wfe c 0 0 0) s [.tahr] fun t => t.tahrOf c.val
      = { s.tahrOf c.val with pc := s.nextPc c, waiting := ((s.tahrOf c.val).events &&& (s.tahrOf c.val).evmask) == 0 } :)
  ∧ (∀ (s : State) (c : Fin 32), s.coreFetches c → 
    Does (.fence c 0 0 0) s [.tahr] (CoreAt c (s.nextPc c) (s.greg c) s) :)
  ∧ (∀ (s : State) (c : Fin 32) (n : BitVec 12), s.coreFetches c → (s.tahrOf c.val).hnd = false → 
    Does (.trap c 0 0 n) s [.tahr] (CoreExcepts c 7 (n.zeroExtend 32) s) :)
  ∧ (∀ (s : State) (c : Fin 32), s.coreFetches c → (s.tahrOf c.val).hnd = false → s.scope 0 = false →
    Does (.brk c 0 0 0) s [.tahr] (CoreExcepts c 8 (s.tahrOf c.val).pc s) :)
  ∧ (∀ (s : State) (c : Fin 32), s.coreFetches c → s.scope 0 = true →
    Does (.brk c 0 0 0) s [.tahr] fun t => t.tahrOf c.val = { s.tahrOf c.val with halted := true, waiting := false } :)
  ∧ (∀ (s : State) (c : Fin 32) (d a : BitVec 5) (n : BitVec 12), s.coreFetches c → (s.tahrOf c.val).hnd = false → (d ≠ 0 ∨ a ≠ 0 ∨ n ≠ 0) →
    Does (.resume c d a n) s [.tahr] (CoreExcepts c 1 (wordS 2 d a n) s)
    ∧ Does (.wfe c d a n) s [.tahr] (CoreExcepts c 1 (wordS 3 d a n) s)
    ∧ Does (.fence c d a n) s [.tahr] (CoreExcepts c 1 (wordS 4 d a n) s)
    ∧ Does (.brk c d a n) s [.tahr] (CoreExcepts c 1 (wordS 6 d a n) s) :)
  ∧ (∀ (s : State) (c : Fin 32) (n : BitVec 12), s.coreFetches c → (s.tahrOf c.val).hnd = true →
    Does (.trap c 0 0 n) s [.tahr] fun t => t.tahrOf c.val = { s.tahrOf c.val with stopped := true, waiting := false } :)
  ∧ (∀ (s : State) (c : Fin 32), s.coreUp c.val = true → (s.tahrOf c.val).evie = true → ((s.tahrOf c.val).events &&& (s.tahrOf c.val).evmask) ≠ 0 →
    Does (.eventException c) s [.tahr] (CoreExcepts c 9 ((s.tahrOf c.val).events &&& (s.tahrOf c.val).evmask) s) :)
  ∧ (∀ (s : State) (c : Fin 32), ((s.tahrOf c.val).evie = false ∨ ((s.tahrOf c.val).events &&& (s.tahrOf c.val).evmask) = 0) →
    Does (.eventException c) s [] fun _ => True :)
  ∧ (∀ (s : State) (c : Fin 32), s.coreUp c.val = true → (s.tahrOf c.val).timer ≠ 0 → (s.tahrOf c.val).timer.toNat ≤ coreCycles (s.clock - (s.tahrOf c.val).timerAt) →
    Does (.timerExpiry c) s [.tahr] fun t => t.tahrOf c.val
      = { s.tahrOf c.val with timer := 0, timerAt := s.clock, events := (s.tahrOf c.val).events ||| 1 } :)
  ∧ (∀ (s : State) (c : Fin 32), ((s.tahrOf c.val).timer = 0 ∨ coreCycles (s.clock - (s.tahrOf c.val).timerAt) < (s.tahrOf c.val).timer.toNat) →
    Does (.timerExpiry c) s [] fun _ => True :)
  ∧ (∀ (s : State) (c : Fin 32) (n : BitVec 12), s.coreRuns c.val = true → (s.tahrOf c.val).hnd = false → (s.tahrOf c.val).pc.toNat % 4 ≠ 0 →
    Does (.trap c 0 0 n) s [.tahr] (CoreExcepts c 2 (s.tahrOf c.val).pc s) :)
  ∧ (∀ (s : State) (c : Fin 32) (n : BitVec 12), s.coreRuns c.val = true → (s.tahrOf c.val).hnd = false → (s.tahrOf c.val).pc.toNat % 4 = 0 → 0x200000 ≤ (s.tahrOf c.val).pc.toNat →
    Does (.trap c 0 0 n) s [.tahr] (CoreExcepts c 3 (s.tahrOf c.val).pc s) :)
  ∧ (∀ (s : State) (c : Fin 32) (n : BitVec 12), s.coreRuns c.val = true → (s.tahrOf c.val).hnd = false → (s.tahrOf c.val).pc.toNat % 4 = 0 → (s.tahrOf c.val).pc.toNat < 0x200000 →
    s.coreMark c.val (s.tahrOf c.val).pc.toNat = .uncorrected →
    Does (.trap c 0 0 n) s (Part.reporting ++ [.tahr]) (CoreExcepts c 3 (s.tahrOf c.val).pc s) :)
  ∧ (∀ (s : State) (c : Fin 32) (n : BitVec 12), s.coreRuns c.val = true → (s.tahrOf c.val).hnd = false → (s.tahrOf c.val).pc.toNat % 4 = 0 → (s.tahrOf c.val).pc.toNat < 0x200000 →
    s.coreMark c.val (s.tahrOf c.val).pc.toNat = .corrected →
    Does (.trap c 0 0 n) s (Part.reporting ++ [.tahr]) (CoreExcepts c 7 (n.zeroExtend 32) s) :)

/-- R406 to R409, R412 to R415, R417, R418: rail readings, levels, the hardware protections, the governor's window, temperatures
and the IPFIX export. -/
def Obligations.PowerIsGoverned : Prop :=
  (∀ (s : State) (r0 r1 r2 r3 r4 : RailRead) (x : Nat), s.pwr.failed = [] → s.pwr.mv.length = 5 → s.pwr.da.length = 5 →
    s.pwr.miss.length = 5 → (∀ r ∈ [r0, r1, r2, r3, r4], r.answered = true ∧ r.fault = false) →
    (∀ r ∈ [r1, r2, r3, r4], r.da.toNat ≤ s.gf PWR_FAST PWR_FAST_ICC_FAST) →
    Does (.currentRead [r0, r1, r2, r3, r4] x) s [.regs, .pwr] fun t =>
      t.pwr.energy = s.pwr.energy + x + r0.mv.toNat * r0.da.toNat + r1.mv.toNat * r1.da.toNat + r2.mv.toNat * r2.da.toNat
          + r3.mv.toNat * r3.da.toNat + r4.mv.toNat * r4.da.toNat
        ∧ t.rd64 PWR_ENERGY = t.pwr.energy / 1000 % 2 ^ 64 ∧ RegsBut [PWR_ENERGY, PWR_ENERGY + 4] s t
        ∧ t.pwr.mv = [r0.mv.toNat, r1.mv.toNat, r2.mv.toNat, r3.mv.toNat, r4.mv.toNat] ∧ t.pwr.miss = [0, 0, 0, 0, 0] :)
  ∧ (∀ (s : State) (r0 r1 r2 r3 r4 : RailRead) (x : Nat), s.pwr.failed = [] → s.pwr.da.length = 5 →
    (∀ r ∈ [r0, r1, r2, r3, r4], r.answered = true ∧ r.fault = false) →
    s.gf PWR_FAST PWR_FAST_ICC_FAST < r1.da.toNat → (∀ r ∈ [r2, r3, r4], r.da.toNat ≤ s.gf PWR_FAST PWR_FAST_ICC_FAST) →
    s.level 0 ≤ 5 → s.level 1 ≤ 5 →
    Does (.currentRead [r0, r1, r2, r3, r4] x) s [.regs, .hostMem, .out, .mbx, .host, .pwr] fun t =>
      t.level 0 = min 5 (s.level 0 + 2) ∧ t.level 1 = min 5 (s.level 1 + 2) ∧ (∀ d, d < 8 → 2 ≤ d → t.level d = s.level d)
        ∧ t.bit PWR_STATUS PWR_STATUS_FAST_EVENT = true ∧ 0 ∈ t.pwr.fastHeld :)
  ∧ (∀ (s : State) (r0 r1 r2 r3 r4 : RailRead) (x : Nat), s.pwr.failed = [] → s.pwr.da.length = 5 → s.pwr.miss[2]? = some 2 →
    (∀ r ∈ [r0, r1, r3, r4], r.answered = true ∧ r.fault = false) → r2.answered = false →
    (∀ r ∈ [r1, r3, r4], r.da.toNat ≤ s.gf PWR_FAST PWR_FAST_ICC_FAST) →
    Does (.currentRead [r0, r1, r2, r3, r4] x) s (Part.reporting ++ [.pwr]) fun t =>
      t.bit PWR_STATUS PWR_STATUS_AVS_FAULT = true ∧ t.pwr.failed = [2] ∧ t.railDa 2 = railMax 2 :)
  ∧ (∀ (s : State) (q : Requester) (v : W32), coreWrites q = true → s.bit PWR_CTL PWR_CTL_EN = true → s.pwr.forced = [] →
    s.pwr.fastHeld = [] →
    Does (.pwrLevelsWrite q v) s [.regs] fun t => RegsBut [PWR_LEVELS] s t
      ∧ (∀ d, d < 8 → t.level d = if v.toNat / 2 ^ (4 * d) % 8 ≤ 5 then v.toNat / 2 ^ (4 * d) % 8 else s.level d) :)
  ∧ (∀ (s : State) (q : Requester) (v : W32) (d : Nat), d < 8 → s.level d = 5 → (d ∈ s.pwr.forced ∨ d / 2 ∈ s.pwr.fastHeld) →
    Does (.pwrLevelsWrite q v) s [.regs] fun t => t.level d = 5 :)
  ∧ (∀ (s : State) (q : Requester) (v : W32), s.bit PWR_CTL PWR_CTL_EN = false → Does (.pwrLevelsWrite q v) s [] fun _ => True :)
  ∧ (∀ (s : State) (d : Fin 8), Does (.levelChangeDone d) s [.pwr] fun t =>
      t.pwr = { s.pwr with inForce := s.pwr.inForce.set d.val (s.level d.val) } :)
  ∧ (∀ (s : State) (d : Fin 8), Does (.droop d true) s [.pwr] fun t => d.val ∈ t.pwr.droop ∧ { t.pwr with droop := [] } = { s.pwr with droop := [] } :)
  ∧ (∀ (s : State) (d : Fin 8), Does (.droop d false) s [.pwr] fun t => d.val ∉ t.pwr.droop ∧ { t.pwr with droop := [] } = { s.pwr with droop := [] } :)
  ∧ (∀ (s : State), 156250 ≤ s.clock - s.pwr.budgetAt → 156250 ≤ s.clock - s.pwr.silenceAt →
    s.pwr.limit * 1000000 < (s.pwr.hist.take 100).foldl (· + ·) 0 → (∀ d, d < 8 → s.level d ≤ 5) →
    Does (.budgetSilence) s [.regs, .pwr] fun t => RegsBut [PWR_LEVELS] s t ∧ (∀ d, d < 8 → t.level d = min 5 (s.level d + 1)) :)
  ∧ (∀ (s : State), 156250 ≤ s.clock - s.pwr.budgetAt → 156250 ≤ s.clock - s.pwr.silenceAt →
    (s.pwr.hist.take 100).foldl (· + ·) 0 ≤ s.pwr.limit * 1000000 →
    Does (.budgetSilence) s [.pwr] fun t => t.pwr = { s.pwr with silenceAt := s.clock } :)
  ∧ (∀ (s : State), s.clock - s.pwr.budgetAt < 156250 → Does (.budgetSilence) s [] fun _ => True :)
  ∧ (∀ (s : State) (work : List PwrWork), s.now / 100000 ≠ s.pwr.winAt / 100000 → s.bit PWR_CTL PWR_CTL_EN = true →
    s.domainRuns 15 = true →
    Does (.governorWindow work) s [.regs, .hostMem, .out, .mbx, .host, .pwr] fun t =>
      t.gf PWR_STATUS PWR_STATUS_WINDOW = (s.gf PWR_STATUS PWR_STATUS_WINDOW + 1) % 2 ^ 16
        ∧ t.pwr.limit = min 850 (max 400 (s.gf PWR_CTL PWR_CTL_LIMIT_W))
        ∧ t.pwr.debt = s.pwr.debt + (s.pwr.energy / 1000 - s.pwr.winEnergy) - s.pwr.limit * 100
        ∧ t.rd PWR_BUDGET = BitVec.ofNat 32 (min (t.pwr.limit * 100 - t.pwr.debt / 8)
          ((t.pwr.limit * 100 - t.pwr.debt / 8) * t.pwr.factor / 10))
        ∧ (∀ c, c < 64 → pcRank (s.pwrClass c) = 0 → bitAt t.pwr.deferred c = false) :)
  ∧ (∀ (s : State), s.now / 100000 ≠ s.pwr.winAt / 100000 → s.bit PWR_CTL PWR_CTL_EN = true → s.domainRuns 15 = true →
    Does (.governorWindow []) s [.regs, .hostMem, .out, .mbx, .host, .pwr] fun t =>
      t.gf PWR_PACE PWR_PACE_PACE = if s.gf PWR_PACE PWR_PACE_PACE = 0 then 0 else (s.gf PWR_PACE PWR_PACE_PACE + 1) % 16 :)
  ∧ (∀ (s : State) (work : List PwrWork), s.now / 100000 ≠ s.pwr.winAt / 100000 → s.bit PWR_CTL PWR_CTL_EN = false →
    Does (.governorWindow work) s [.regs, .pwr] fun t => RegsBut [PWR_STATUS] s t
      ∧ t.gf PWR_STATUS PWR_STATUS_WINDOW = (s.gf PWR_STATUS PWR_STATUS_WINDOW + 1) % 2 ^ 16 :)
  ∧ (∀ (s : State) (work : List PwrWork), s.now / 100000 = s.pwr.winAt / 100000 → Does (.governorWindow work) s [] fun _ => True :)
  ∧ (∀ (s : State) (ds : List Byte) (io : Byte), ds.length = 8 → (∀ x ∈ ds, x.toNat < 105) → io.toNat < 115 →
    Does (.dieTempUpdate ds io) s [.regs, .pwr] fun t => RegsBut [PWR_TEMP0, PWR_TEMP1, PWR_TEMP2] s t
      ∧ t.dieTemp 8 = io.toNat ∧ (∀ d, d < 8 → t.dieTemp d = ((ds[d]?).getD 0).toNat ∧ d ∉ t.pwr.forced) :)
  ∧ (∀ (s : State) (ds : List Byte) (io : Byte) (d : Nat), ds.length = 8 → d < 8 → 110 ≤ ((ds[d]?).getD 0).toNat → s.level d ≤ 5 →
    d ∉ s.pwr.forced →
    Does (.dieTempUpdate ds io) s (Part.reporting ++ [.pwr]) fun t => t.level d = 5 ∧ d ∈ t.pwr.forced
      ∧ t.bit PWR_STATUS PWR_STATUS_THERM_FORCED = true :)
  ∧ (∀ (s : State) (ds : List Byte) (io : Byte), 115 ≤ io.toNat →
    Does (.dieTempUpdate ds io) s (Part.reporting ++ [.pwr]) fun t => t.safe = true ∧ t.dieTemp 8 = io.toNat :)
  ∧ (∀ (s : State) (q : Requester) (v : W32), coreWrites q = true → s.bit PWR_CTL PWR_CTL_EN = false →
    s.pwr.failed = [] → (∀ m ∈ s.pwr.miss, m = 0) → v.toNat / 8 % 8 ≤ 5 →
    Does (.pwrEnSet q v) s [.regs] fun t => t.bit PWR_CTL PWR_CTL_EN = true ∧ t.gf PWR_CTL PWR_CTL_REFUSAL = 0
      ∧ t.gf PWR_CTL PWR_CTL_LIMIT_W = v.toNat / 64 % 2 ^ 10 ∧ t.gf PWR_CTL PWR_CTL_FLOOR = v.toNat / 8 % 8 ∧ RegsBut [PWR_CTL] s t :)
  ∧ (∀ (s : State) (q : Requester) (v : W32), coreWrites q = true → s.bit PWR_CTL PWR_CTL_EN = false → s.pwr.failed ≠ [] →
    Does (.pwrEnSet q v) s [.regs] fun t => t.bit PWR_CTL PWR_CTL_EN = false ∧ t.gf PWR_CTL PWR_CTL_REFUSAL = 0x0610 :)
  ∧ (∀ (s : State) (q : Requester) (v : W32), coreWrites q = true → s.bit PWR_CTL PWR_CTL_EN = false →
    s.pwr.failed = [] → (∀ m ∈ s.pwr.miss, m = 0) → 5 < v.toNat / 8 % 8 →
    Does (.pwrEnSet q v) s [.regs] fun t => t.bit PWR_CTL PWR_CTL_EN = false ∧ t.gf PWR_CTL PWR_CTL_REFUSAL = 0x0611 :)
  ∧ (∀ (s : State) (q : Requester) (v : W32), coreWrites q = false → Does (.pwrEnSet q v) s [] fun _ => True :)
  ∧ (∀ (s : State) (x : TelExport), s.pwr.export_ = some x → x.periodMs * 156250 ≤ s.clock - x.lastAt → s.domainRuns 16 = true →
    s.telDeferred = false → x.queue = [] →
    Does (.ipfixExport true) s [.chanQ, .pwr] fun t =>
      s.chanQ.length < t.chanQ.length ∧ t.chanQ.take s.chanQ.length = s.chanQ
        ∧ (∀ m ∈ t.chanQ.drop s.chanQ.length, m.chan = x.channel ∧ m.bytes.take 2 = [0, 10])
        ∧ t.pwr.export_.map (fun y => (y.periods, y.lastAt)) = some (x.periods + 1, s.clock) :)
  ∧ (∀ (s : State) (x : TelExport), s.pwr.export_ = some x → x.periodMs * 156250 ≤ s.clock - x.lastAt → s.domainRuns 16 = true →
    Does (.ipfixExport false) s [.pwr] fun t =>
      t.pwr.export_ = some (telQueue (s.telRecords x) { x with lastAt := s.clock, periods := x.periods + 1 }) :)
  ∧ (∀ (s : State) (x : TelExport) (b : Bool), s.pwr.export_ = some x → s.clock - x.lastAt < x.periodMs * 156250 →
    Does (.ipfixExport b) s [] fun _ => True :)
  ∧ (∀ (s : State) (x : TelExport), s.pwr.export_ = some x → x.templateS * 156250000 ≤ s.clock - x.templateAt →
    s.domainRuns 16 = true → s.telDeferred = false →
    Does (.ipfixTemplate true) s [.chanQ, .pwr] fun t =>
      t.chanQ = s.chanQ ++ [(⟨x.channel, false, ipfixMessage x s.now (templateSet x.pen)⟩ : SrcFrame)]
        ∧ t.pwr.export_ = some { x with templateAt := s.clock, messages := x.messages + 1 } :)
  ∧ (∀ (s : State) (b : Bool), s.pwr.export_ = none → Does (.ipfixTemplate b) s [] fun _ => True :)

/-- R339, R419 to R421: the always-on island's MCTP and PLDM services, and the Syncen operations of power and telemetry. Payload layouts are the model's (log entry 10). -/
def Obligations.IslandAndPowerRequestsAnswer : Prop :=
  (∀ (s : State) (op : Fin 4) (e : Byte), s.pins.aonInRange = true → op.val ≤ 1 → 8 ≤ e.toNat → e.toNat ≤ 254 →
    Does (.setEndpointId op e) s [.answer32, .aon] fun t => t.aon = { s.aon with eid := e.toNat } ∧ t.answer32 = [0, 0, e, 0] :)
  ∧ (∀ (s : State) (op : Fin 4) (e : Byte), s.pins.aonInRange = true → (2 ≤ op.val ∨ e.toNat < 8 ∨ e.toNat = 255) →
    Does (.setEndpointId op e) s [.answer32] fun t => t.answer32 = [2] :)
  ∧ (∀ (s : State) (op : Fin 4) (e : Byte), s.pins.aonInRange = false → Does (.setEndpointId op e) s [] fun _ => True :)
  ∧ (∀ (s : State), s.pins.aonInRange = true →
    Does (.getEndpointId) s [.answer32] fun t => t.answer32 = [0, BitVec.ofNat 8 s.aon.eid, 0, 0] :)
  ∧ (∀ (s : State) (ty : Byte), s.pins.aonInRange = true → (ty = 0xFF ∨ ty = 0 ∨ ty = 1 ∨ ty = 0x7E) →
    Does (.getMctpVersionSupport ty) s [.free, .answer32] fun t => t.answer32.take 2 = [0, 1] ∧ t.answer32.length = 6 ∧ t.free = s.free + 1 :)
  ∧ (∀ (s : State) (ty : Byte), s.pins.aonInRange = true → ty ≠ 0xFF → ty ≠ 0 → ty ≠ 1 → ty ≠ 0x7E →
    Does (.getMctpVersionSupport ty) s [.answer32] fun t => t.answer32 = [0x80] :)
  ∧ (∀ (s : State), s.pins.aonInRange = true → Does (.getMessageTypeSupport) s [.answer32] fun t => t.answer32 = [0, 2, 1, 0x7E] :)
  ∧ (∀ (s : State), s.pins.aonInRange = true →
    Does (.getEndpointUuid) s [.answer32] fun t => t.answer32 = 0 :: leBytes 16 (Config.endpointUuid (s.rd64 SEC_DSN)).toNat :)
  ∧ (∀ (s : State), s.pins.aonInRange = true → Does (.gettid) s [.answer32] fun t => t.answer32 = [0, BitVec.ofNat 8 s.aon.tid] :)
  ∧ (∀ (s : State) (i : Byte), s.pins.aonInRange = true → i ≠ 0 → i ≠ 0xFF →
    Does (.settid i) s [.answer32, .aon] fun t => t.aon = { s.aon with tid := i.toNat } ∧ t.answer32 = [0] :)
  ∧ (∀ (s : State) (i : Byte), s.pins.aonInRange = true → (i = 0 ∨ i = 0xFF) → Does (.settid i) s [.answer32] fun t => t.answer32 = [2] :)
  ∧ (∀ (s : State) (ty : Byte), s.pins.aonInRange = true → (ty = 0 ∨ ty = 2) →
    Does (.getpldmversion ty) s [.free, .answer32] fun t => t.answer32.take 6 = [0, 0, 0, 0, 0, 5] ∧ t.answer32.length = 14 :)
  ∧ (∀ (s : State) (ty : Byte), s.pins.aonInRange = true → ty ≠ 0 → ty ≠ 2 →
    Does (.getpldmversion ty) s [.answer32] fun t => t.answer32 = [0x83] :)
  ∧ (∀ (s : State), s.pins.aonInRange = true → Does (.getpldmtypes) s [.answer32] fun t => t.answer32 = [0, 5, 0, 0, 0, 0, 0, 0, 0] :)
  ∧ (∀ (s : State) (ty : Byte), s.pins.aonInRange = true → ty = 2 →
    Does (.getpldmcommands ty) s [.answer32] fun t => t.answer32.length = 33
      ∧ (∀ k, k < 256 → (bitAt (leNat (t.answer32.drop 1)) k = true ↔ (k = 0x11 ∨ k = 0x12 ∨ k = 0x50 ∨ k = 0x51))) :)
  ∧ (∀ (s : State) (ty : Byte), s.pins.aonInRange = true → ty = 0 →
    Does (.getpldmcommands ty) s [.answer32] fun t => leNat (t.answer32.drop 1) = 0x3E :)
  ∧ (∀ (s : State) (ty : Byte), s.pins.aonInRange = true → ty ≠ 0 → ty ≠ 2 →
    Does (.getpldmcommands ty) s [.answer32] fun t => t.answer32 = [0x83] :)
  ∧ (∀ (s : State), s.pins.aonInRange = true →
    Does (.getpdrrepositoryinfo) s [.free, .answer32] fun t => t.answer32.take 2 = [0, 0] ∧ fieldLE t.answer32 28 4 = 27 :)
  ∧ (∀ (s : State) (h : W32) (n : Nat), s.pins.aonInRange = true → n = (if h = 0 then 1 else h.toNat) → n ≤ 27 →
    Does (.getpdr h) s [.answer32] fun t => fieldLE t.answer32 0 1 = 0 ∧ fieldLE t.answer32 1 4 = (if n = 27 then 0 else n + 1)
      ∧ fieldLE t.answer32 7 4 = n ∧ fieldLE t.answer32 11 2 = n :)
  ∧ (∀ (s : State) (h : W32), s.pins.aonInRange = true → 27 < h.toNat → Does (.getpdr h) s [.answer32] fun t => t.answer32 = [0x82] :)
  ∧ (∀ (s : State) (n : W16), s.pins.aonInRange = true → s.pins.mainInRange = true → 1 ≤ n.toNat → n.toNat ≤ 27 →
    Does (.getsensorreading n) s [.answer32] fun t => t.answer32 = [0, 4, 0] ++ leBytes 4 (s.sensor n.toNat) :)
  ∧ (∀ (s : State) (n : W16), s.pins.aonInRange = true → s.pins.mainInRange = false → 1 ≤ n.toNat → n.toNat ≤ 27 →
    Does (.getsensorreading n) s [.answer32] fun t => t.answer32 = [0, 4, 2, 0, 0, 0, 0] :)
  ∧ (∀ (s : State) (n : W16), s.pins.aonInRange = true → (n = 0 ∨ 27 < n.toNat) →
    Does (.getsensorreading n) s [.answer32] fun t => t.answer32 = [0x80] :)
  ∧ (∀ (s : State) (n : W16), s.pins.aonInRange = true → 3 ≤ n.toNat → n.toNat ≤ 11 →
    Does (.getsensorthresholds n) s [.answer32] fun t =>
      t.answer32 = [0, 1] ++ leBytes 4 s.throttleC ++ [1] ++ leBytes 4 110 ++ [1] ++ leBytes 4 115 :)
  ∧ (∀ (s : State) (n : W16), s.pins.aonInRange = true → 12 ≤ n.toNat → n.toNat ≤ 17 →
    Does (.getsensorthresholds n) s [.answer32] fun t =>
      t.answer32 = [0, 1] ++ leBytes 4 85 ++ [1] ++ leBytes 4 95 ++ [1] ++ leBytes 4 105 :)
  ∧ (∀ (s : State) (n : W16), s.pins.aonInRange = true → (n = 0 ∨ 27 < n.toNat) →
    Does (.getsensorthresholds n) s [.answer32] fun t => t.answer32 = [0x80] :)
  ∧ (∀ (s : State), s.pins.aonInRange = true → s.aon.d3cold = true → s.aon.pmeEn = true →
    Does (.wakeRequest) s [.answer32, .pins] fun t => t.pins = { s.pins with wakeN := false } ∧ t.answer32 = [0] :)
  ∧ (∀ (s : State), s.pins.aonInRange = true → (s.aon.d3cold = false ∨ s.aon.pmeEn = false) →
    Does (.wakeRequest) s [.answer32] fun t => t.answer32 = [0] :)
  ∧ (∀ (s : State) (r : SynReq) (l : W16), s.synRefusal 0x1000 (some 15) r = none → 400 ≤ l.toNat → l.toNat ≤ 850 →
    Does (.synPwrLimitSet r l) s [.regs, .mbx] fun t => t.gf PWR_CTL PWR_CTL_LIMIT_W = l.toNat ∧ RegsBut [PWR_CTL] s t
      ∧ Answered 0x1000 r 0 (leBytes 2 ((s.gf PWR_STATUS PWR_STATUS_WINDOW + 1) % 2 ^ 16)) t :)
  ∧ (∀ (s : State) (r : SynReq) (l : W16), s.synRefusal 0x1000 (some 15) r = none → (l.toNat < 400 ∨ 850 < l.toNat) →
    Does (.synPwrLimitSet r l) s [.mbx] fun t => Answered 0x1000 r 0x0101 [] t :)
  ∧ (∀ (s : State) (r : SynReq), s.synRefusal 0x1001 (some 15) r = none →
    Does (.synPwrQuery r) s [.mbx] fun t => Answered 0x1001 r 0 (([PWR_CTL, PWR_STATUS, PWR_LEVELS, PWR_FAST, PWR_ENERGY,
      PWR_ENERGY + 4, PWR_BUDGET, PWR_TEMP0, PWR_TEMP1, PWR_TEMP2, PWR_THERM, PWR_PACE].map (fun o => leBytes 4 (s.rd o).toNat)).flatten
      ++ leBytes 8 s.pwr.deferred ++ leBytes 8 s.pwr.demoted ++ leBytes 8 s.pwr.debt) t :)
  ∧ (∀ (s : State) (r : SynReq) (c : Fin 64) (b : List Byte), s.synRefusal 0x1002 (some 15) r = none → b.length = 16 →
    (pcRank b ≠ 0 ∨ pcDemote b = false) → pcShare b ≤ 100 →
    Does (.synPwrClassSet r c b) s [.mbx, .pwr] fun t => Answered 0x1002 r 0 [] t ∧ t.pwrClass c.val = b
      ∧ (∀ k, k < 64 → k ≠ c.val → t.pwrClass k = s.pwrClass k) :)
  ∧ (∀ (s : State) (r : SynReq) (c : Fin 64) (b : List Byte), s.synRefusal 0x1002 (some 15) r = none → b.length = 16 →
    (pcRank b = 0 ∧ pcDemote b = true ∨ 100 < pcShare b) →
    Does (.synPwrClassSet r c b) s [.regs, .mbx] fun t => Answered 0x1002 r 0x0613 [] t
      ∧ t.gf PWR_CTL PWR_CTL_REFUSAL = 0x0613 ∧ RegsBut [PWR_CTL] s t :)
  ∧ (∀ (s : State) (r : SynReq) (l : Byte), s.synRefusal 0x1003 (some 15) r = none → l.toNat ≤ 5 →
    Does (.synPwrFloorSet r l) s [.regs, .mbx] fun t => Answered 0x1003 r 0 [] t ∧ t.gf PWR_CTL PWR_CTL_FLOOR = l.toNat
      ∧ RegsBut [PWR_CTL] s t :)
  ∧ (∀ (s : State) (r : SynReq) (l : Byte), s.synRefusal 0x1003 (some 15) r = none → 5 < l.toNat →
    Does (.synPwrFloorSet r l) s [.mbx] fun t => Answered 0x1003 r 0x0101 [] t :)
  ∧ (∀ (s : State) (r : SynReq) (p : ExportSpec), s.synRefusal 0x1004 (some 16) r = none → p.enable = false →
    Does (.synTelExportSet r p) s [.mbx, .pwr] fun t => Answered 0x1004 r 0 [] t ∧ t.pwr.export_ = none :)
  ∧ (∀ (s : State) (r : SynReq) (p : ExportSpec), s.synRefusal 0x1004 (some 16) r = none → p.enable = true →
    10 ≤ p.periodMs.getD 100 → p.periodMs.getD 100 ≤ 10000 → 1 ≤ p.templateS.getD 60 → p.templateS.getD 60 ≤ 3600 →
    512 ≤ p.mtu.getD 1400 → p.mtu.getD 1400 ≤ 9000 → (s.channel p.channel.toNat).isSome = true → s.pwr.export_ = none →
    Does (.synTelExportSet r p) s [.mbx, .chanQ, .pwr] fun t => Answered 0x1004 r 0 [] t
      ∧ t.pwr.export_ = some ⟨p.channel.toNat, p.domain.toNat, p.pen.toNat, p.periodMs.getD 100, p.templateS.getD 60,
        p.mtu.getD 1400, 0, s.clock, s.clock, 0, 1, 0, []⟩
      ∧ t.chanQ.length = s.chanQ.length + 1 :)
  ∧ (∀ (s : State) (r : SynReq) (p : ExportSpec), s.synRefusal 0x1004 (some 16) r = none → p.enable = true →
    (p.periodMs.getD 100 < 10 ∨ 10000 < p.periodMs.getD 100 ∨ p.templateS.getD 60 < 1 ∨ 3600 < p.templateS.getD 60
      ∨ p.mtu.getD 1400 < 512 ∨ 9000 < p.mtu.getD 1400) →
    Does (.synTelExportSet r p) s [.mbx] fun t => Answered 0x1004 r 0x0101 [] t :)
  ∧ (∀ (s : State) (r : SynReq) (p : ExportSpec), s.synRefusal 0x1004 (some 16) r = none → p.enable = true →
    p.periodMs = none → p.templateS = none → p.mtu = none → s.channel p.channel.toNat = none →
    Does (.synTelExportSet r p) s [.regs, .mbx] fun t => Answered 0x1004 r 0x0612 [] t :)
  ∧ (∀ (s : State) (r : SynReq), s.synRefusal 0x1005 (some 16) r = none → s.pwr.export_ = none →
    Does (.synTelQuery r) s [.mbx] fun t => Answered 0x1005 r 0 [0] t :)
  ∧ (∀ (s : State) (r : SynReq) (x : TelExport), s.synRefusal 0x1005 (some 16) r = none → s.pwr.export_ = some x →
    Does (.synTelQuery r) s [.mbx] fun t => Answered 0x1005 r 0 (leBytes 1 1 ++ leBytes 2 x.channel ++ leBytes 4 x.domain
      ++ leBytes 4 x.pen ++ leBytes 2 x.periodMs ++ leBytes 2 x.templateS ++ leBytes 2 x.mtu ++ leBytes 8 x.messages
      ++ leBytes 4 x.seq ++ leBytes 4 x.dropped) t :)

/-- R422 to R438: reports, latches and counts, compatibility mode, the safe state, rails, block lines, acknowledgements,
injections and late class 0 events. -/
def Obligations.FaultsAreCollected : Prop :=
  (∀ (s : State) (r : FaultRep), repOk r = true → s.flt.broken = [] → s.classOf r ≤ 1 → s.fltValid (s.classOf r) = false →
    Does (.faultReport [r]) s (Part.reporting ++ [.flags, .sec]) fun t =>
      t.rd64 (FLT_FIRST (s.classOf r)) = 2 ^ 63 + s.rd64 (FLT_FIRST (s.classOf r)) / 2 ^ 62 % 2 * 2 ^ 62
          + r.source.toNat * 2 ^ 48 + r.unit.toNat * 2 ^ 32 + r.detail.toNat
        ∧ t.rd64 (FLT_FIRST_TIME (s.classOf r)) = s.now
        ∧ (t.rd (FLT_COUNT (s.classOf r))).toNat = min (2 ^ 32 - 1) ((s.rd (FLT_COUNT (s.classOf r))).toNat + 1)
        ∧ t.safe = s.safe ∧ (∀ c, c < 3 → c ≠ s.classOf r → t.rd64 (FLT_FIRST c) = s.rd64 (FLT_FIRST c)
          ∧ t.rd (FLT_COUNT c) = s.rd (FLT_COUNT c)) :)
  ∧ (∀ (s : State) (r : FaultRep), repOk r = true → s.flt.broken = [] → s.gf FLT_CTL FLT_CTL_MODE = 0 → s.classOf r ≤ 1 →
    s.fltValid (s.classOf r) = true →
    Does (.faultReport [r]) s (Part.reporting ++ [.flags, .sec]) fun t =>
      t.rd64 (FLT_FIRST (s.classOf r)) % 2 ^ 62 = s.rd64 (FLT_FIRST (s.classOf r)) % 2 ^ 62
        ∧ t.rd64 (FLT_FIRST (s.classOf r)) / 2 ^ 62 = 3
        ∧ t.rd64 (FLT_FIRST_TIME (s.classOf r)) = s.rd64 (FLT_FIRST_TIME (s.classOf r))
        ∧ (t.rd (FLT_COUNT (s.classOf r))).toNat = min (2 ^ 32 - 1) ((s.rd (FLT_COUNT (s.classOf r))).toNat + 1)
        ∧ t.safe = s.safe ∧ (∀ c, c < 3 → c ≠ s.classOf r → t.rd64 (FLT_FIRST c) = s.rd64 (FLT_FIRST c)) :)
  ∧ (∀ (s : State) (r : FaultRep), repOk r = true → s.flt.broken = [] → s.classOf r = 2 → s.safe = false →
    Does (.faultReport [r]) s (Part.reporting ++ [.flags, .sec]) fun t =>
      t.safe = true ∧ t.faultN = false ∧ t.fltValid 2 = true ∧ t.pins = { s.pins with rootUp := [] }
        ∧ (∀ p, p < 32 → t.gf (FAB_PORT_STATUS p) FAB_PORT_STATUS_STATE = 6)
        ∧ (∀ c, c < 33 → t.gf (CORE_STATUS c) CORE_STATUS_STATE = 0)
        ∧ t.rd PWR_LEVELS = 0x55555555
        ∧ t.gf DEV_STATUS DEV_STATUS_STAGE = (if s.gf DEV_STATUS DEV_STATUS_STAGE < 6 then 8 else 9)
        ∧ t.hbm.sr = 63 :)
  ∧ (∀ (s : State) (r : FaultRep), repOk r = true → s.flt.broken = [] → s.gf FLT_CTL FLT_CTL_MODE = 1 → s.classOf r = 0 →
    s.fltValid 0 = true → s.fltValid 1 = false →
    Does (.faultReport [r]) s (Part.reporting ++ [.flags, .sec]) fun t =>
      t.rd64 (FLT_FIRST 0) / 2 ^ 62 = 3 ∧ t.safe = s.safe
        ∧ t.rd64 (FLT_FIRST 1) / 2 ^ 63 = 1 ∧ t.rd64 (FLT_FIRST 1) / 2 ^ 60 % 4 = 2
        ∧ t.rd64 (FLT_FIRST 1) % 2 ^ 56 = r.source.toNat * 2 ^ 48 + r.unit.toNat * 2 ^ 32 + r.detail.toNat
        ∧ t.rd64 (FLT_FIRST 2) = s.rd64 (FLT_FIRST 2)
        ∧ (∀ c, c < 2 → (t.rd (FLT_COUNT c)).toNat = min (2 ^ 32 - 1) ((s.rd (FLT_COUNT c)).toNat + 1)) :)
  ∧ (∀ (s : State) (r : FaultRep), repOk r = true → s.flt.broken = [] → s.gf FLT_CTL FLT_CTL_MODE = 1 → s.classOf r = 0 →
    s.fltValid 0 = true → s.fltValid 1 = true →
    Does (.faultReport [r]) s (Part.reporting ++ [.flags, .sec]) fun t =>
      t.safe = s.safe ∧ t.rd64 (FLT_FIRST 1) / 2 ^ 62 = 3 ∧ t.rd64 (FLT_FIRST 2) = s.rd64 (FLT_FIRST 2) :)
  ∧ (∀ (s : State) (r : FaultRep), repOk r = true → s.flt.broken = [] → s.gf FLT_CTL FLT_CTL_MODE = 1 → s.classOf r = 1 →
    s.fltValid 1 = true → s.fltValid 2 = false →
    Does (.faultReport [r]) s (Part.reporting ++ [.flags, .sec]) fun t =>
      t.safe = true ∧ t.rd64 (FLT_FIRST 1) / 2 ^ 62 = 3 ∧ t.rd64 (FLT_FIRST 2) / 2 ^ 60 % 4 = 2
        ∧ t.rd64 (FLT_FIRST 2) % 2 ^ 56 = r.source.toNat * 2 ^ 48 + r.unit.toNat * 2 ^ 32 + r.detail.toNat :)
  ∧ (∀ (s : State) (r : FaultRep), repOk r = true → railed r.source.toNat = true → (r.source.toNat, runitOf r) ∈ s.flt.broken →
    r.source ≠ 0x18 → r.source ≠ 0x04 →
    Does (.faultReport [r]) s [.regs] fun t =>
      t.rd64 (FLT_FIRST (s.classOf r)) % 2 ^ 62 = s.rd64 (FLT_FIRST (s.classOf r)) % 2 ^ 62
        ∧ bitAt (t.rd64 (FLT_FIRST (s.classOf r))) 62 = true ∧ t.fltValid (s.classOf r) = s.fltValid (s.classOf r)
        ∧ RegsBut [FLT_FIRST (s.classOf r), FLT_FIRST (s.classOf r) + 4, FLT_COUNT (s.classOf r)] s t :)
  ∧ (∀ (s : State) (r : FaultRep), repOk r = false → Does (.faultReport [r]) s [] fun _ => True :)
  ∧ (∀ (s : State) (a b : FaultRep), repOk a = true → repOk b = true → s.flt.broken = [] → s.gf FLT_CTL FLT_CTL_MODE = 0 →
    s.classOf a = s.classOf b → s.classOf a ≤ 1 → s.fltValid (s.classOf a) = false →
    (a.source.toNat < b.source.toNat ∨ a.source = b.source ∧ a.unit.toNat < b.unit.toNat) →
    Does (.faultReport [b, a]) s (Part.reporting ++ [.flags, .sec]) fun t =>
      t.rd64 (FLT_FIRST (s.classOf a)) = 2 ^ 63 + 2 ^ 62 + a.source.toNat * 2 ^ 48 + a.unit.toNat * 2 ^ 32 + a.detail.toNat :)
  ∧ (∀ (s : State) (r : FaultRep), repOk r = true → r.source = 0x18 →
    Does (.faultReport [r]) s (Part.reporting ++ [.flags, .sec]) fun t =>
      Tab.get (fun _ => KeySlot.reset) t.sec.slots r.unit.toNat
          = { KeySlot.reset with gen := (Tab.get (fun _ => KeySlot.reset) s.sec.slots r.unit.toNat).gen }
        ∧ (∀ k, k < 4096 → k ≠ r.unit.toNat → Tab.get (fun _ => KeySlot.reset) t.sec.slots k
          = Tab.get (fun _ => KeySlot.reset) s.sec.slots k) :)
  ∧ (∀ (s : State) (r : FaultRep), repOk r = true → r.source = 0x04 →
    Does (.faultReport [r]) s (Part.reporting ++ [.flags]) fun t =>
      t.flagGroup (r.detail.toNat % 4096) = ⟨0, BitVec.allOnes 64⟩
        ∧ (∀ g, g < 4096 → g ≠ r.detail.toNat % 4096 → t.flagGroup g = s.flagGroup g) :)
  ∧ (∀ (s : State) (src : Byte) (u : W16), railOk src.toNat u.toNat = true → (src.toNat, u.toNat) ∉ s.flt.broken →
    max 1 (sourceClass src.toNat) = 1 → s.fltValid 1 = false →
    Does (.railBreak src u) s Part.reporting fun t => t.flt.broken = (src.toNat, u.toNat) :: s.flt.broken
      ∧ t.rd64 (FLT_FIRST 1) / 2 ^ 63 = 1
      ∧ t.rd64 (FLT_FIRST 1) % 2 ^ 60 = 0x1B * 2 ^ 48 + u.toNat * 2 ^ 32 + src.toNat ∧ t.safe = s.safe :)
  ∧ (∀ (s : State) (src : Byte) (u : W16), railOk src.toNat u.toNat = true → (src.toNat, u.toNat) ∉ s.flt.broken →
    sourceClass src.toNat = 2 →
    Does (.railBreak src u) s Part.reporting fun t => t.flt.broken = (src.toNat, u.toNat) :: s.flt.broken ∧ t.safe = true :)
  ∧ (∀ (s : State) (src : Byte) (u : W16), (railOk src.toNat u.toNat = false ∨ (src.toNat, u.toNat) ∈ s.flt.broken) →
    Does (.railBreak src u) s [] fun _ => True :)
  ∧ (∀ (s : State) (b : Fin 22), Does (.blockLine b true) s Part.reporting fun t =>
      bitAt (t.rd FLT_BLOCKS).toNat b.val = true ∧ b.val ∈ t.flt.lines ∧ t.fltValid (blockClass b.val) = true
        ∧ (∀ k, k < 32 → k ≠ b.val → bitAt (t.rd FLT_BLOCKS).toNat k = bitAt (s.rd FLT_BLOCKS).toNat k)
        ∧ (blockClass b.val = 2 → t.safe = true) :)
  ∧ (∀ (s : State) (b : Fin 22), Does (.blockLine b false) s [.flt] fun t => t.flt = { s.flt with lines := eraseKey s.flt.lines b.val } :)
  ∧ (∀ (s : State) (q : Requester) (c : Fin 3) (v o : Bool), Does (.fltAck q c v o) s [.regs] fun t =>
      t.fltValid c.val = (s.fltValid c.val && !v)
        ∧ bitAt (t.rd64 (FLT_FIRST c.val)) 62 = (bitAt (s.rd64 (FLT_FIRST c.val)) 62 && !o)
        ∧ t.rd64 (FLT_FIRST c.val) % 2 ^ 62 = s.rd64 (FLT_FIRST c.val) % 2 ^ 62
        ∧ bitAt (t.gf FLT_STATUS FLT_STATUS_PEND) c.val = t.fltValid c.val ∧ t.safe = s.safe
        ∧ RegsBut [FLT_FIRST c.val, FLT_FIRST c.val + 4, FLT_STATUS] s t :)
  ∧ (∀ (s : State) (q : Requester) (v : W32), s.hostDiscards q = false →
    v.toNat % 2 ≠ s.gf FLT_CTL FLT_CTL_MODE → (s.fltValid 0 = true ∨ s.fltValid 1 = true ∨ s.fltValid 2 = true) →
    Does (.fltModeWrite q v) s [.regs] fun t => t.gf FLT_CTL FLT_CTL_MODE = s.gf FLT_CTL FLT_CTL_MODE
      ∧ t.gf FLT_CTL FLT_CTL_REFUSAL = 0x0620 ∧ RegsBut [FLT_CTL] s t :)
  ∧ (∀ (s : State) (q : Requester) (v : W32), s.hostDiscards q = false →
    (v.toNat % 2 = s.gf FLT_CTL FLT_CTL_MODE ∨ s.fltValid 0 = false ∧ s.fltValid 1 = false ∧ s.fltValid 2 = false) →
    (bitAt v.toNat 15 = false ∨ s.bit FLT_CTL FLT_CTL_VEC_EN = true ∨ s.vecInInstance (v.toNat / 16 % 2048) = false) →
    Does (.fltModeWrite q v) s [.regs] fun t => t.gf FLT_CTL FLT_CTL_MODE = v.toNat % 2
      ∧ t.bit FLT_CTL FLT_CTL_VEC_EN = bitAt v.toNat 15 ∧ t.gf FLT_CTL FLT_CTL_VECTOR = v.toNat / 16 % 2048
      ∧ t.bit FLT_CTL FLT_CTL_CE_EVT = bitAt v.toNat 3 ∧ t.gf FLT_CTL FLT_CTL_REFUSAL = 0 ∧ RegsBut [FLT_CTL] s t :)
  ∧ (∀ (s : State) (q : Requester) (v : W32), s.hostDiscards q = false → v.toNat % 2 = s.gf FLT_CTL FLT_CTL_MODE →
    bitAt v.toNat 15 = true → s.bit FLT_CTL FLT_CTL_VEC_EN = false → s.vecInInstance (v.toNat / 16 % 2048) = true →
    Does (.fltModeWrite q v) s [.regs] fun t => t.bit FLT_CTL FLT_CTL_VEC_EN = false ∧ t.gf FLT_CTL FLT_CTL_REFUSAL = 0x0621
      ∧ RegsBut [FLT_CTL] s t :)
  ∧ (∀ (s : State) (v : W32), s.safe = true → Does (.fltModeWrite .host v) s [] fun _ => True :)
  ∧ (∀ (s : State) (q : Requester) (v : W32), s.hostDiscards q = false → (∀ b ∈ s.flt.lines, b < 22) →
    Does (.fltBlocksClear q v) s [.regs] fun t => RegsBut [FLT_BLOCKS] s t
      ∧ (∀ b, b < 32 → bitAt (t.rd FLT_BLOCKS).toNat b
        = (decide (b ∈ s.flt.lines) || (bitAt (s.rd FLT_BLOCKS).toNat b && !bitAt v.toNat b))) :)
  ∧ (∀ (s : State) (v : W32), s.safe = true → Does (.fltBlocksClear .host v) s [] fun _ => True :)
  ∧ (∀ (s : State) (q : Requester) (v : W32), coreWrites q = false → Does (.fltInjArm q v) s [] fun _ => True :)
  ∧ (∀ (s : State) (q : Requester) (v : W32), coreWrites q = true → v.toNat / 2 ^ 23 % 16 ≤ 5 → s.scope 2 = true →
    injTargetOk (v.toNat / 2 ^ 23 % 16) (v.toNat % 2 ^ 16) (s.rd64 FLT_INJ_ADDR) = true → s.flt.injections = [] →
    Does (.fltInjArm q v) s [.regs, .flt] fun t => RegsBut [FLT_INJ] s t ∧ t.bit FLT_INJ FLT_INJ_BUSY = true
      ∧ t.gf FLT_INJ FLT_INJ_UNIT = v.toNat % 2 ^ 16 ∧ t.gf FLT_INJ FLT_INJ_CHECKER = v.toNat / 2 ^ 23 % 16
      ∧ t.flt = { s.flt with injections := [(⟨v.toNat / 2 ^ 23 % 16, if v.toNat / 2 ^ 27 % 4 = 2 then 2 else 1, v.toNat % 2 ^ 16,
          injAddr (v.toNat / 2 ^ 23 % 16) (s.rd64 FLT_INJ_ADDR)⟩ : Injection)] } :)
  ∧ (∀ (s : State) (q : Requester) (v : W32), coreWrites q = true →
    (v.toNat / 2 ^ 23 % 16 ≤ 5 ∧ (s.scope 2 = false
        ∨ injTargetOk (v.toNat / 2 ^ 23 % 16) (v.toNat % 2 ^ 16) (s.rd64 FLT_INJ_ADDR) = false)
      ∨ 5 < v.toNat / 2 ^ 23 % 16 ∧ (s.factory = false ∨ v.toNat / 2 ^ 23 % 16 < 8 ∨ 11 < v.toNat / 2 ^ 23 % 16)) →
    Does (.fltInjArm q v) s [.regs] fun t => RegsBut [FLT_INJ] s t ∧ t.bit FLT_INJ FLT_INJ_DENIED = true
      ∧ t.bit FLT_INJ FLT_INJ_BUSY = s.bit FLT_INJ FLT_INJ_BUSY :)
  ∧ (∀ (s : State) (q : Requester) (v : W32) (r : FaultRep), coreWrites q = true → v.toNat / 2 ^ 23 % 16 = 8 → s.factory = true →
    r = ⟨BitVec.ofNat 8 (s.rd64 FLT_INJ_ADDR), BitVec.ofNat 16 (s.rd64 FLT_INJ_ADDR / 2 ^ 8),
      BitVec.ofNat 32 (s.rd64 FLT_INJ_ADDR / 2 ^ 24)⟩ →
    repOk r = true → s.flt.broken = [] → s.classOf r ≤ 1 → s.fltValid (s.classOf r) = false →
    Does (.fltInjArm q v) s Part.reporting fun t => t.bit FLT_INJ FLT_INJ_BUSY = s.bit FLT_INJ FLT_INJ_BUSY
      ∧ t.rd64 (FLT_FIRST (s.classOf r)) / 2 ^ 63 = 1 ∧ t.rd64 (FLT_FIRST (s.classOf r)) / 2 ^ 56 % 2 ^ 6 = 2 ^ 4
      ∧ t.rd64 (FLT_FIRST (s.classOf r)) % 2 ^ 56 = r.source.toNat * 2 ^ 48 + r.unit.toNat * 2 ^ 32 + r.detail.toNat :)
  ∧ (∀ (s : State) (q : Requester) (v : W32), coreWrites q = true → v.toNat / 2 ^ 23 % 16 = 9 → s.factory = true →
    railOk (s.rd64 FLT_INJ_ADDR % 256) (v.toNat % 2 ^ 16) = true →
    Does (.fltInjArm q v) s Part.reporting fun t => (s.rd64 FLT_INJ_ADDR % 256, v.toNat % 2 ^ 16) ∈ t.flt.broken :)
  ∧ (∀ (s : State) (q : Requester) (v : W32), coreWrites q = true → v.toNat / 2 ^ 23 % 16 = 10 → s.factory = true →
    v.toNat % 2 ^ 16 < 22 →
    Does (.fltInjArm q v) s Part.reporting fun t => bitAt (t.rd FLT_BLOCKS).toNat (v.toNat % 2 ^ 16) = true
      ∧ t.fltValid (blockClass (v.toNat % 2 ^ 16)) = true ∧ t.flt.lines = s.flt.lines :)
  ∧ (∀ (s : State) (q : Requester) (v : W32), coreWrites q = true → v.toNat / 2 ^ 23 % 16 = 11 → s.factory = true →
    fltOffsets.contains (s.rd64 FLT_INJ_ADDR % 65536) = true → s.gf FLT_CTL FLT_CTL_MODE = 0 → s.fltValid 2 = false →
    Does (.fltInjArm q v) s Part.reporting fun t => t.safe = true
      ∧ t.rd64 (FLT_FIRST 2) % 2 ^ 61 = 2 ^ 60 + 0x1D * 2 ^ 48 + s.rd64 FLT_INJ_ADDR % 65536 :)
  ∧ (∀ (s : State) (i : Injection) (u : W16) (a : W64), s.flt.injections = [i] → i.checker = 2 → i.unit = u.toNat → i.addr = a.toNat →
    Does (.injectionTargetWrite 2 u a) s [.regs, .lineMarks, .flt] fun t => RegsBut [FLT_INJ] s t
      ∧ t.bit FLT_INJ FLT_INJ_BUSY = false ∧ t.flt.injections = [] ∧ t.lineMark a.toNat = flipMark i.flip
      ∧ t.wasInjected 2 u.toNat a.toNat = true :)
  ∧ (∀ (s : State) (i : Injection) (u : W16) (a : W64), s.flt.injections = [i] → i.checker = 0 → i.unit = u.toNat → i.addr = a.toNat →
    Does (.injectionTargetWrite 0 u a) s [.regs, .marks, .flt] fun t => RegsBut [FLT_INJ] s t
      ∧ t.bit FLT_INJ FLT_INJ_BUSY = false ∧ t.flt.injections = []
      ∧ t.wordMark (scratchAddr u.toNat a.toNat) = flipMark i.flip :)
  ∧ (∀ (s : State) (i : Injection) (u : W16) (a : W64), s.flt.injections = [i] → i.checker = 3 → i.unit = u.toNat → i.addr = a.toNat →
    Does (.injectionTargetWrite 3 u a) s [.regs, .flt] fun t => RegsBut [FLT_INJ] s t
      ∧ t.bit FLT_INJ FLT_INJ_BUSY = false ∧ t.flt.injections = []
      ∧ Tab.get markClean t.flt.slotMarks u.toNat = flipMark i.flip :)
  ∧ (∀ (s : State) (k : Fin 6) (u : W16) (a : W64),
    (∀ i ∈ s.flt.injections, ¬ (i.checker = k.val ∧ i.unit = u.toNat ∧ i.addr = injAddr k.val a.toNat)) →
    Does (.injectionTargetWrite k u a) s [] fun _ => True :)
  ∧ (∀ (s : State) (src : Byte) (r : FaultRep), (s.ceOf src.toNat).waiting = some r → r.source = src →
    s.bit FLT_CTL FLT_CTL_CE_EVT = true → s.domainRuns 16 = true →
    (∀ x, (s.ceOf src.toNat).last = some x → tenMs ≤ s.clock - x) →
    Does (.ceEventDue src) s [.regs, .hostMem, .out, .mbx, .host, .flt] fun t => t.ceOf src.toNat = ⟨some s.clock, 0, none⟩ :)
  ∧ (∀ (s : State) (src : Byte) (x : Nat), (s.ceOf src.toNat).last = some x → s.clock - x < tenMs →
    Does (.ceEventDue src) s [] fun _ => True :)
  ∧ (∀ (s : State) (src : Byte), (s.ceOf src.toNat).waiting = none → Does (.ceEventDue src) s [] fun _ => True :)

/-- R431, R439: the Syncen operations of the fault collector. Payload layouts are the model's (log entry 10). -/
def Obligations.FaultRequestsAnswer : Prop :=
  (∀ (s : State) (r : SynReq), s.synRefusal 0x1100 (some 16) r = none →
    Does (.synFltQuery r) s [.mbx] fun t => Answered 0x1100 r 0
      (leBytes 4 (s.rd FLT_STATUS).toNat ++ leBytes 8 (s.rd64 (FLT_FIRST 0)) ++ leBytes 8 (s.rd64 (FLT_FIRST 1))
        ++ leBytes 8 (s.rd64 (FLT_FIRST 2)) ++ leBytes 8 (s.rd64 (FLT_FIRST_TIME 0)) ++ leBytes 8 (s.rd64 (FLT_FIRST_TIME 1))
        ++ leBytes 8 (s.rd64 (FLT_FIRST_TIME 2)) ++ leBytes 4 (s.rd (FLT_COUNT 0)).toNat ++ leBytes 4 (s.rd (FLT_COUNT 1)).toNat
        ++ leBytes 4 (s.rd (FLT_COUNT 2)).toNat ++ leBytes 4 (s.rd FLT_BLOCKS).toNat) t :)
  ∧ (∀ (s : State) (r : SynReq) (c o : BitVec 3), s.synRefusal 0x1101 (some 16) r = none →
    Does (.synFltAck r c o) s [.regs, .mbx] fun t => Answered 0x1101 r 0 [] t ∧ t.safe = s.safe
      ∧ (∀ k, k < 3 → t.fltValid k = (s.fltValid k && !c.getLsbD k)
        ∧ bitAt (t.rd64 (FLT_FIRST k)) 62 = (bitAt (s.rd64 (FLT_FIRST k)) 62 && !o.getLsbD k)
        ∧ t.rd64 (FLT_FIRST k) % 2 ^ 62 = s.rd64 (FLT_FIRST k) % 2 ^ 62
        ∧ bitAt (t.gf FLT_STATUS FLT_STATUS_PEND) k = t.fltValid k) :)
  ∧ (∀ (s : State) (r : SynReq) (m : W32), s.synRefusal 0x1102 (some 16) r = none → m.toNat ≤ 1 →
    (m.toNat = s.gf FLT_CTL FLT_CTL_MODE ∨ s.fltValid 0 = false ∧ s.fltValid 1 = false ∧ s.fltValid 2 = false) →
    Does (.synFltModeSet r m) s [.regs, .mbx] fun t => Answered 0x1102 r 0 [] t ∧ t.gf FLT_CTL FLT_CTL_MODE = m.toNat
      ∧ t.gf FLT_CTL FLT_CTL_REFUSAL = 0 ∧ RegsBut [FLT_CTL] s t :)
  ∧ (∀ (s : State) (r : SynReq) (m : W32), s.synRefusal 0x1102 (some 16) r = none → m.toNat ≤ 1 →
    m.toNat ≠ s.gf FLT_CTL FLT_CTL_MODE → (s.fltValid 0 = true ∨ s.fltValid 1 = true ∨ s.fltValid 2 = true) →
    Does (.synFltModeSet r m) s [.regs, .mbx] fun t => Answered 0x1102 r 0x0620 [] t
      ∧ t.gf FLT_CTL FLT_CTL_MODE = s.gf FLT_CTL FLT_CTL_MODE ∧ t.gf FLT_CTL FLT_CTL_REFUSAL = 0x0620 ∧ RegsBut [FLT_CTL] s t :)
  ∧ (∀ (s : State) (r : SynReq) (m : W32), s.synRefusal 0x1102 (some 16) r = none → 1 < m.toNat →
    Does (.synFltModeSet r m) s [.mbx] fun t => Answered 0x1102 r 0x0102 [] t :)
  ∧ (∀ (s : State) (r : SynReq) (k : BitVec 4) (f : BitVec 2) (u : W16) (a : W64), s.synRefusal 0x1103 (some 16) r = none →
    k.toNat ≤ 5 → s.scope 2 = true → injTargetOk k.toNat u.toNat a.toNat = true → s.flt.injections = [] →
    Does (.synFltInject r k f u a) s [.regs, .mbx, .flt] fun t => Answered 0x1103 r 0 [] t ∧ t.bit FLT_INJ FLT_INJ_BUSY = true
      ∧ t.flt = { s.flt with injections :=
          [(⟨k.toNat, if f.toNat = 2 then 2 else 1, u.toNat, injAddr k.toNat a.toNat⟩ : Injection)] }
      ∧ RegsBut [FLT_INJ, FLT_INJ_ADDR, FLT_INJ_ADDR + 4] s t :)
  ∧ (∀ (s : State) (r : SynReq) (k : BitVec 4) (f : BitVec 2) (u : W16) (a : W64), s.synRefusal 0x1103 (some 16) r = none →
    (k.toNat ≤ 5 ∧ (s.scope 2 = false ∨ injTargetOk k.toNat u.toNat a.toNat = false) ∨ 5 < k.toNat ∧ s.factory = false) →
    Does (.synFltInject r k f u a) s [.regs, .mbx] fun t => Answered 0x1103 r 0x0408 [] t ∧ t.bit FLT_INJ FLT_INJ_DENIED = true
      ∧ RegsBut [FLT_INJ, FLT_INJ_ADDR, FLT_INJ_ADDR + 4] s t :)
  ∧ (∀ (s : State) (r : SynReq), s.synRefusal 0x1104 (some 16) r = none →
    Does (.synFltForceSafe r) s Part.reporting fun t => t.safe = true ∧ t.fltValid 2 = true :)
  ∧ (∀ (s : State) (r : SynReq) (st : Nat), s.synRefusal 0x1104 (some 16) r = some st →
    Does (.synFltForceSafe r) s [.mbx] fun t => Answered 0x1104 r st [] t :)
  ∧ (∀ (s : State) (r : SynReq) (b : Fin 22), s.synRefusal 0x1105 (some 16) r = none →
    Does (.synFltBlockClear r b) s [.regs, .mbx, .flt] fun t => Answered 0x1105 r 0 [] t ∧ RegsBut [FLT_BLOCKS] s t
      ∧ bitAt (t.rd FLT_BLOCKS).toNat b.val = false ∧ t.flt = { s.flt with lines := eraseKey s.flt.lines b.val }
      ∧ (∀ k, k < 32 → k ≠ b.val → bitAt (t.rd FLT_BLOCKS).toNat k = bitAt (s.rd FLT_BLOCKS).toNat k) :)

/-- R440, R441, R443 to R448, R450, R451, R466: enabling, marks, rollback, pins, append copies, commit, the partner's
journal, snapshots and manifests. -/
def Obligations.CheckpointsAreTaken : Prop :=
  (∀ (s : State) (q : Requester) (v : W32), coreWrites q = true → s.ckpEn = false → s.ckpCheck (bitAt v.toNat 1) = none →
    Does (.ckpEnSet q v) s (Part.reading ++ [.ckp]) fun t => (s.unmarked s.ckpCfg 4096 → RegsBut [CKP_CTL] s t) ∧ t.ckpEn = true
      ∧ t.bit CKP_CTL CKP_CTL_LEASE_EN = bitAt v.toNat 1 ∧ t.gf CKP_CTL CKP_CTL_REFUSAL = 0
      ∧ t.ckp.replica = fieldLE (s.bytes s.ckpCfg 4096) 0 4 ∧ t.ckp.rank = fieldLE (s.bytes s.ckpCfg 4096) 4 2
      ∧ t.ckp.conn = fieldLE (s.bytes s.ckpCfg 4096) 8 4 % 2 ^ 20 ∧ t.ckp.regions = ckpRegions (s.bytes s.ckpCfg 4096)
      ∧ t.ckp.touched = [] ∧ t.ckp.captures = [] :)
  ∧ (∀ (s : State) (q : Requester) (v : W32) (c : Nat), coreWrites q = true → s.ckpEn = false →
    s.ckpCheck (bitAt v.toNat 1) = some c →
    Does (.ckpEnSet q v) s Part.reading fun t => (s.unmarked s.ckpCfg 4096 → RegsBut [CKP_CTL] s t) ∧ t.ckpEn = false
      ∧ t.gf CKP_CTL CKP_CTL_REFUSAL = c :)
  ∧ (∀ (s : State) (q : Requester) (v : W32), coreWrites q = false → Does (.ckpEnSet q v) s [] fun _ => True :)
  ∧ (∀ (s : State) (q : Requester) (v : W32), coreWrites q = true → s.ckpEn = true → v.toNat / 2 ^ 28 % 4 = 0 →
    s.rd64 CKP_REPLICA + 4 ≤ s.rd64 CKP_MARKED →
    Does (.mark q v) s [.regs] fun t => RegsBut [CKP_STATUS] s t ∧ t.bit CKP_STATUS CKP_STATUS_MARK_REFUSED = true :)
  ∧ (∀ (s : State) (q : Requester) (v : W32), coreWrites q = true → s.ckpEn = true → v.toNat / 2 ^ 28 % 8 = 0 →
    s.rd64 CKP_MARKED < s.rd64 CKP_REPLICA + 4 → s.rd64 CKP_MARKED + 1 < 2 ^ 64 → (s.cn s.ckp.conn).state ≠ csReady →
    Does (.mark q v) s [.regs, .ckp] fun t => RegsBut [CKP_MARKED, CKP_MARKED + 4] s t
      ∧ t.rd64 CKP_MARKED = s.rd64 CKP_MARKED + 1
      ∧ t.ckp = { s.ckp with
        touched := []
        captures := s.ckp.captures ++ [(⟨s.rd64 CKP_MARKED + 1, sortPages s.ckp.touched, 0, 0, s.ckp.appendNo⟩ : CkpCapture)] } :)
  ∧ (∀ (s : State) (q : Requester) (v : W32) (m page : Nat) (r : CkpRegion), coreWrites q = true → s.ckpEn = true →
    v.toNat / 2 ^ 28 % 8 = 0 → s.rd64 CKP_MARKED < s.rd64 CKP_REPLICA + 4 → m = s.rd64 CKP_MARKED + 1 → m < 2 ^ 64 →
    s.ckp.captures = [] → s.ckp.sent = [] → s.ckp.pre = [] → s.ckp.touched = [(r.ix, page)] → s.ckp.regions = [r] →
    0 < s.ckp.jpages → s.rd64 CKP_REPLICA < m → s.spent s.ckp.conn → s.unmarked (r.base + page * 4096) 4096 →
    Does (.mark q v) s [.regs, .trn, .hbm, .ckp] fun t => t.rd64 CKP_MARKED = m
      ∧ t.ckp.captures = [(⟨m, [], 1, 1, s.ckp.appendNo⟩ : CkpCapture)] ∧ t.ckp.entryNo = s.ckp.entryNo + 1
      ∧ CkpHands s.ckp.conn
        [(mkReq 0 s.ckp.conn (m % 8) 0 4160 s.ckp.jkey (s.ckp.entryNo % s.ckp.jpages * 4160) 0 false false false [],
          journalEntry m r.ix page (s.memBytes (r.base + page * 4096) 4096)),
        (ckpSendReq s.ckp.conn (8 + m % 8) true (s.ckpSays 2 0 m 1), s.ckpSays 2 0 m 1)] s t :)
  ∧ (∀ (s : State) (q : Requester) (v : W32), coreWrites q = true → s.ckpEn = false → v.toNat / 2 ^ 28 % 2 = 0 →
    Does (.mark q v) s [] fun _ => True :)
  ∧ (∀ (s : State) (q : Requester) (v : W32), coreWrites q = true → s.ckpEn = true → v.toNat / 2 ^ 28 % 4 = 0 →
    s.ckp.pin = none → s.rd64 CKP_MARKED < s.rd64 CKP_REPLICA + 4 → s.rd64 CKP_MARKED + 1 < 2 ^ 64 →
    (s.cn s.ckp.conn).state ≠ csReady →
    Does (.snap q v) s [.regs, .ckp] fun t => RegsBut [CKP_MARKED, CKP_MARKED + 4, CKP_STATUS] s t
      ∧ t.rd64 CKP_MARKED = s.rd64 CKP_MARKED + 1 ∧ t.bit CKP_STATUS CKP_STATUS_PIN = true
      ∧ t.ckp.pin = some (s.rd64 CKP_MARKED + 1) ∧ t.ckp.pinAt = s.now ∧ t.ckp.pinDone = [] ∧ t.ckp.touched = [] :)
  ∧ (∀ (s : State) (q : Requester) (v : W32), coreWrites q = true → s.ckpEn = true → v.toNat / 2 ^ 28 % 4 = 0 →
    s.rd64 CKP_REPLICA + 4 ≤ s.rd64 CKP_MARKED →
    Does (.snap q v) s [.regs] fun t => RegsBut [CKP_STATUS] s t ∧ t.bit CKP_STATUS CKP_STATUS_MARK_REFUSED = true
      ∧ t.bit CKP_STATUS CKP_STATUS_PIN = s.bit CKP_STATUS CKP_STATUS_PIN :)
  ∧ (∀ (s : State) (q : Requester) (v : W32) (p : PreImage) (r : CkpRegion), coreWrites q = true → s.ckpEn = true →
    v.toNat / 2 ^ 28 % 2 = 0 → v.toNat / 2 ^ 31 = 0 → s.ckp.pre = [p] → s.rd64 CKP_REPLICA ≤ p.tag →
    s.ckp.regions.find? (fun x => x.ix == p.region && x.kind == 0) = some r → p.data.length = 4096 →
    r.base + p.page * 4096 + 4096 ≤ hbmBytes → s.ckp.held = [] →
    Does (.rollback q v) s (Part.storing ++ [.kv]) fun t => t.bytes (r.base + p.page * 4096) 4096 = p.data
      ∧ t.bit CKP_STATUS CKP_STATUS_ROLLBACK_BUSY = true ∧ t.rd64 CKP_MARKED = s.rd64 CKP_REPLICA
      ∧ (∀ x ∈ t.ckp.pre, x.tag ≤ s.rd64 CKP_REPLICA) :)
  ∧ (∀ (s : State) (q : Requester) (v : W32), coreWrites q = true → s.ckpEn = true → v.toNat / 2 ^ 28 % 2 = 0 →
    v.toNat / 2 ^ 31 = 0 → s.ckp.pre = [] → s.ckp.pin = none → s.ckp.held = [] →
    Does (.rollback q v) s [.regs, .kv, .ckp] fun t => RegsBut [CKP_STATUS, CKP_MARKED, CKP_MARKED + 4] s t
      ∧ t.bit CKP_STATUS CKP_STATUS_ROLLBACK_BUSY = true ∧ t.rd64 CKP_MARKED = s.rd64 CKP_REPLICA
      ∧ (∀ j ∈ t.ckp.journal, j.mark ≤ s.rd64 CKP_REPLICA) ∧ (∀ c ∈ t.ckp.captures, c.mark ≤ s.rd64 CKP_REPLICA) :)
  ∧ (∀ (s : State) (q : Requester) (v : W32) (m : Nat), coreWrites q = true → s.ckpEn = true → v.toNat / 2 ^ 28 % 2 = 0 →
    v.toNat / 2 ^ 31 = 0 → s.ckp.pre = [] → s.ckp.pin = some m → s.rd64 CKP_REPLICA < m → s.ckp.held = [] →
    Does (.rollback q v) s [.regs, .kv, .ckp] fun t => t.ckp.pin = none ∧ t.bit CKP_STATUS CKP_STATUS_SNAP_ABORT = true
      ∧ t.bit CKP_STATUS CKP_STATUS_PIN = false :)
  ∧ (∀ (s : State), s.bit CKP_STATUS CKP_STATUS_ROLLBACK_BUSY = true → s.kv.opened = [] →
    Does (.rollbackDone) s [.regs, .eland] fun t => RegsBut [CKP_STATUS] s t
      ∧ t.bit CKP_STATUS CKP_STATUS_ROLLBACK_BUSY = false ∧ t.eland.launches = [] ∧ t.eland.advances = []
      ∧ t.eland.staged = s.eland.staged.filter (fun x => decide (x.cstep ≤ s.rd64 CKP_REPLICA)) :)
  ∧ (∀ (s : State), s.bit CKP_STATUS CKP_STATUS_ROLLBACK_BUSY = false → Does (.rollbackDone) s [] fun _ => True :)
  ∧ (∀ (s : State) (q : Requester) (v : W32) (m : Nat), coreWrites q = true → v.toNat / 2 ^ 29 % 2 = 0 → v.toNat / 2 ^ 31 = 0 →
    s.ckp.pin = some m → 0 ∈ s.ckp.pinDone → 1 ∈ s.ckp.pinDone → s.ckp.held = [] →
    Does (.unpin q v) s [.regs, .ckp] fun t => RegsBut [CKP_STATUS] s t ∧ t.ckp.pin = none
      ∧ t.bit CKP_STATUS CKP_STATUS_PIN = false ∧ t.bit CKP_STATUS CKP_STATUS_SNAP_ABORT = s.bit CKP_STATUS CKP_STATUS_SNAP_ABORT :)
  ∧ (∀ (s : State) (q : Requester) (v : W32) (m : Nat), coreWrites q = true → v.toNat / 2 ^ 29 % 2 = 0 → v.toNat / 2 ^ 31 = 0 →
    s.ckp.pin = some m → (0 ∉ s.ckp.pinDone ∨ 1 ∉ s.ckp.pinDone) → s.ckp.held = [] →
    Does (.unpin q v) s [.regs, .ckp] fun t => RegsBut [CKP_STATUS] s t ∧ t.ckp.pin = none
      ∧ t.bit CKP_STATUS CKP_STATUS_PIN = false ∧ t.bit CKP_STATUS CKP_STATUS_SNAP_ABORT = true :)
  ∧ (∀ (s : State) (q : Requester) (v : W32), v.toNat / 2 ^ 29 % 2 = 0 → v.toNat / 2 ^ 31 = 0 → s.ckp.pin = none →
    Does (.unpin q v) s [] fun _ => True :)
  ∧ (∀ (s : State) (a : CkpAppend) (r : CkpRegion), s.ckp.appends = [a] → a.sent = false → s.ckp.regions = [r] → r.ix = a.region →
    s.ckpEn = true → s.spent s.ckp.conn → a.data.length ≤ 0x40000000 →
    Does (.appendCopy) s [.trn, .ckp] fun t => t.ckp.appends = [{ a with sent := true }]
      ∧ CkpHands s.ckp.conn [(mkReq 0 s.ckp.conn (0x8000 + a.n % 0x7FFF) 0 a.data.length r.mkey (r.moff + a.off) 0 false false false [],
        a.data)] s t :)
  ∧ (∀ (s : State), (s.ckpEn = false ∨ (s.cn s.ckp.conn).state ≠ csReady ∨ ∀ a ∈ s.ckp.appends, a.sent = true) →
    Does (.appendCopy) s [] fun _ => True :)
  ∧ (∀ (s : State) (c : CkpCapture), s.trn.results = [] → s.ckp.captures = [c] → s.captureDone c = true → s.ckp.pre = [] →
    s.ckp.held = [] → s.ckp.cflag = none → s.ckp.unprotected = false → s.ckp.members = [s.ckpAddr] → s.domainRuns 13 = true →
    s.ckpEn = true → s.ckp.journal = [] → c.mark < 2 ^ 64 → s.ckp.viewAt = none →
    { s with ckp := { s.ckp with takeover := false } }.modeKept →
    Does (.locallyCommitted) s [.regs, .hbm, .ckp] fun t => t.ckp.captures = [] ∧ t.rd64 CKP_LOCAL = c.mark
      ∧ t.rd64 CKP_REPLICA = (if s.rd64 CKP_LOCAL = c.mark then s.rd64 CKP_REPLICA else max (s.rd64 CKP_REPLICA) c.mark)
      ∧ RegsBut [CKP_LOCAL, CKP_LOCAL + 4, CKP_REPLICA, CKP_REPLICA + 4] s t :)
  ∧ (∀ (s : State) (c : CkpCapture) (f : Nat), s.trn.results = [] → s.ckp.captures = [c] → s.captureDone c = true →
    s.ckp.pre = [] → s.ckp.held = [] → s.ckp.cflag = some f → s.ckp.unprotected = false → s.domainRuns 13 = false →
    { s with ckp := { s.ckp with takeover := false } }.modeKept →
    Does (.locallyCommitted) s (Part.reporting ++ [.ckp, .flags, .lfsr, .guards]) fun t => t.ckp.captures = [] ∧ t.flags = (s.flagSet f).flags :)
  ∧ (∀ (s : State) (c : CkpCapture) (cs : List CkpCapture), s.trn.results = [] → s.ckp.captures = c :: cs → s.captureDone c = false →
    Does (.locallyCommitted) s [] fun _ => True :)
  ∧ (∀ (s : State) (tag x y : Nat) (c : CkpCapture), s.trn.results = [(3, tag, 0, x, y)] → tag < 8 → s.ckp.captures = [c] →
    c.mark % 8 = tag → 1 < c.outstanding →
    Does (.locallyCommitted) s [.trn, .ckp] fun t => t.trn.results = []
      ∧ t.ckp.captures = [{ c with outstanding := c.outstanding - 1 }] :)
  ∧ (∀ (s : State) (q : Requester) (v : W64), coreWrites q = true → s.ckpEn = true → v.toNat < s.rd64 CKP_REPLICA →
    Does (.ckpReplicaWrite q v) s [] fun _ => True :)
  ∧ (∀ (s : State) (q : Requester) (v : W64), coreWrites q = true → (s.ckpEn = false ∨ s.rd64 CKP_REPLICA ≤ v.toNat) →
    s.ckp.journal = [] → s.ckp.captures = [] → s.ckp.held = [] →
    Does (.ckpReplicaWrite q v) s [.regs, .hbm, .ckp] fun t => t.rd64 CKP_REPLICA = v.toNat
      ∧ (s.ckp.viewAt = none → RegsBut [CKP_REPLICA, CKP_REPLICA + 4] s t ∧ t.hbm = s.hbm)
      ∧ t.ckp.viewAt = s.ckp.viewAt.filter (fun r => decide (v.toNat ≤ r))
      ∧ (s.ckpEn = true → ∀ p ∈ t.ckp.pre, v.toNat ≤ p.tag ∨ s.ckp.pin.isSome = true) :)
  ∧ (∀ (s : State) (q : Requester) (v : W64) (j : CkpJournal) (r : CkpRegion) (e : List Byte), coreWrites q = true →
    s.ckpEn = true → s.rd64 CKP_REPLICA ≤ v.toNat → s.ckp.journal = [j] → j.mark ≤ v.toNat → j.count = 1 → s.ckp.captures = [] →
    s.ckp.held = [] → s.ckp.pin = none → e = s.bytes (j.ring + j.first % j.pages * 4160) 4160 →
    inHbm (j.ring + j.first % j.pages * 4160) 4160 = true →
    s.ckp.regions = [r] → r.kind = 2 → r.pregion = fieldLE e 8 1 → fieldLE e 12 4 < r.pages →
    r.base + r.pages * 4096 ≤ hbmBytes →
    Does (.ckpReplicaWrite q v) s Part.storing fun t => t.ckp.journal = []
      ∧ t.bytes (r.base + fieldLE e 12 4 * 4096) 4096 = e.drop 64 ∧ t.rd64 CKP_REPLICA = v.toNat :)
  ∧ (∀ (s : State) (q : Requester) (v : W64), coreWrites q = false → Does (.ckpReplicaWrite q v) s [] fun _ => True :)
  ∧ (∀ (s u : State) (n : BitVec 20) (msn : W32) (bs : List Byte), s.ckpTake n.toNat msn.toNat 1 = (some bs, u) →
    cmReplica bs = s.ckp.replica → cmView bs = s.ckp.view → s.ckpEn = true → s.ckp.journal = [] → s.ckp.captures = [] →
    s.ckp.held = [] → s.ckp.pre = [] → s.ckp.members ≠ [] →
    Does (.localCommit n msn) s [.regs, .hbm, .trn, .ckp] fun t =>
      (s.ckp.viewAt = none → RegsBut [CKP_REPLICA, CKP_REPLICA + 4] s t ∧ t.hbm = s.hbm)
      ∧ t.rd64 CKP_REPLICA = max (s.rd64 CKP_REPLICA) (s.ckpOthers.foldl (fun m a =>
          min m (((t.ckp.locals.find? (fun e => e.1 == a)).map (·.2)).getD 0)) (s.rd64 CKP_LOCAL))
      ∧ t.ckp.locals = Tab.insert s.ckp.locals (s.ckp.members[cmRank bs]?.getD 0)
          (max (((s.ckp.locals.find? (fun e => e.1 == s.ckp.members[cmRank bs]?.getD 0)).map (·.2)).getD 0) (cmStep bs)) :)
  ∧ (∀ (s u : State) (n : BitVec 20) (msn : W32) (bs : List Byte), s.ckpTake n.toNat msn.toNat 1 = (some bs, u) →
    (cmReplica bs ≠ s.ckp.replica ∨ cmView bs ≠ s.ckp.view) →
    Does (.localCommit n msn) s [.trn] fun t => t.trn.inbox.length < s.trn.inbox.length :)
  ∧ (∀ (s u : State) (n : BitVec 20) (msn : W32) (bs : List Byte) (ring : BitVec 52) (pages : W16),
    s.ckpTake n.toNat msn.toNat 2 = (some bs, u) → cmReplica bs = s.ckp.replica → cmView bs = s.ckp.view →
    s.rd64 CKP_REPLICA < cmStep bs → s.ckp.journal = [] →
    Does (.journalCommit n msn ring pages) s [.trn, .ckp] fun t =>
      t.ckp = { s.ckp with
        journal := [(⟨cmStep bs, s.ckp.jNext, cmArg bs, ring.toNat, pages.toNat⟩ : CkpJournal)]
        jNext := s.ckp.jNext + cmArg bs
        partner := some (cmRank bs) } :)
  ∧ (∀ (s : State) (b : Bool) (lba : W64) (m vol ret base : Nat), s.ckp.pin = some m → s.ckp.snapVolume = some (vol, ret, base) →
    m ≤ s.rd64 CKP_REPLICA → b2n b ∉ s.ckp.pinDone → s.domainRuns 14 = true → (b = true → s.ckp.partner.isSome = true) →
    s.manifestWriter = some s.ckpAddr →
    Does (.snapshotWrite b lba) s (Part.storing ++ [.free, .rings, .fport, .trn, .sto, .inst, .iq]) fun t =>
      t.ckp.pinDone = b2n b :: s.ckp.pinDone ∧ t.ckp.snapDone.map (·.1) = s.ckp.snapDone.map (·.1) ++ [m]
        ∧ t.ckp.pin = some m ∧ t.ckp.snaps.head?.map (fun x => (x.mark, x.copy)) = some (m, b2n b) :)
  ∧ (∀ (s : State) (b : Bool) (lba : W64) (m : Nat), s.ckp.pin = some m → (s.rd64 CKP_REPLICA < m ∨ b2n b ∈ s.ckp.pinDone) →
    Does (.snapshotWrite b lba) s [] fun _ => True :)
  ∧ (∀ (s : State) (b : Bool) (lba : W64), s.ckp.pin = none → Does (.snapshotWrite b lba) s [] fun _ => True :)
  ∧ (∀ (s : State) (lba : W64) (m vol ret base : Nat), s.ckp.pinMark = some m → s.ckp.snapVolume = some (vol, ret, base) →
    s.manifestWriter = some s.ckpAddr → s.ckp.pinAt + 120000000000 ≤ s.now → s.domainRuns 14 = true →
    Does (.manifestWrite lba) s [.free, .out, .ckp] fun t => t.ckp.manGen = s.ckp.manGen + 1 ∧ t.ckp.pinMark = none
      ∧ s.out.length < t.out.length :)
  ∧ (∀ (s : State) (lba : W64) (m vol ret base : Nat), s.ckp.pinMark = some m → s.ckp.snapVolume = some (vol, ret, base) →
    2 * s.ckp.nranks ≤ (s.ckp.snapDone.filter (fun e => e.1 == m)).length → s.manifestWriter = some s.ckpAddr →
    s.domainRuns 14 = true →
    Does (.manifestWrite lba) s [.free, .out, .ckp] fun t => t.ckp.manGen = s.ckp.manGen + 1 ∧ t.ckp.pinMark = none :)
  ∧ (∀ (s : State) (lba : W64) (m : Nat), s.ckp.pinMark = some m →
    (s.ckp.snapDone.filter (fun e => e.1 == m)).length < 2 * s.ckp.nranks → s.now < s.ckp.pinAt + 120000000000 →
    Does (.manifestWrite lba) s [] fun _ => True :)
  ∧ (∀ (s u : State) (n : BitVec 20) (msn : W32) (bs : List Byte), s.ckpTake n.toNat msn.toNat 10 = (some bs, u) →
    cmReplica bs = s.ckp.replica → cmView bs = s.ckp.view →
    Does (.snapDone n msn) s [.trn, .ckp] fun t =>
      t.ckp = { s.ckp with snapDone := s.ckp.snapDone ++ [(cmStep bs, fit 128 (bs.drop 64))] } :)

/-- R455 to R457, R459 to R462, R467: leases, witnesses, view changes, restore, and the Syncen operations of checkpoints. Payload layouts are the model's (log entry 10). -/
def Obligations.LeasesAndRecoveryRun : Prop :=
  (∀ (s : State) (w n : Nat), s.ckpEn = true → s.bit CKP_CTL CKP_CTL_LEASE_EN = true → s.domainRuns 13 = true →
    (∀ x, s.ckp.leaseSent = some x → x.2 + 50000000 ≤ s.now) → s.ckp.witnesses = [w] → s.ckpConnTo w = some n → s.spent n →
    Does (.leaseRenewal) s [.trn, .ckp] fun t =>
      t.ckp = { s.ckp with
        leaseSeq := (s.ckp.leaseSeq + 1) % 2 ^ 32
        leaseSent := some ((s.ckp.leaseSeq + 1) % 2 ^ 32, s.now)
        grants := [] }
        ∧ CkpHands n [(ckpSendReq n 0xFFFF false (t.ckpSays 3 t.ckp.leaseSeq (s.rd64 CKP_MARKED) 0),
          t.ckpSays 3 t.ckp.leaseSeq (s.rd64 CKP_MARKED) 0)] s t :)
  ∧ (∀ (s : State), (s.ckpEn = false ∨ s.bit CKP_CTL CKP_CTL_LEASE_EN = false ∨ s.domainRuns 13 = false
      ∨ s.ckp.leaseSent.any (fun x => decide (s.now < x.2 + 50000000)) = true) →
    Does (.leaseRenewal) s [] fun _ => True :)
  ∧ (∀ (s : State), s.leaseLapsed = true → s.bit CKP_STATUS CKP_STATUS_LAPSED = false → s.kv.opened = [] →
    Does (.leaseLapse) s [.regs, .hostMem, .out, .mbx, .host] fun t => t.bit CKP_STATUS CKP_STATUS_LAPSED = true :)
  ∧ (∀ (s : State) (n c : Nat), s.leaseLapsed = true → s.bit CKP_STATUS CKP_STATUS_LAPSED = false → s.kv.opened = [(n, c)] →
    s.onDie n → s.cx n cxSTATE ≠ stFree → s.cx n cxSTATE ≠ stFrozen → s.cx n cxSTATE ≠ stClosing →
    Does (.leaseLapse) s (Part.storing ++ [.free, .kv]) fun t => t.bit CKP_STATUS CKP_STATUS_LAPSED = true
      ∧ t.cx n cxSTATE = stFrozen ∧ t.cx n cxPRIOR = s.cx n cxSTATE :)
  ∧ (∀ (s : State), (s.leaseLapsed = false ∨ s.bit CKP_STATUS CKP_STATUS_LAPSED = true) → Does (.leaseLapse) s [] fun _ => True :)
  ∧ (∀ (s u : State) (n : BitVec 20) (msn : W32) (bs : List Byte) (w : CkpServed),
    s.ckpTake n.toNat msn.toNat 3 = (some bs, u) → s.served (cmReplica bs) = some w → w.proposal = none →
    cmView bs = w.view → (s.cn n.toNat).peerAddr ∈ w.members → s.spent n.toNat →
    Does (.leaseReq n msn) s [.trn, .ckp] fun t =>
      t.ckp = (s.setServed { w with grants := Tab.insert w.grants (s.cn n.toNat).peerAddr (s.now + 200000000) }).ckp
        ∧ CkpHands n.toNat [(ckpSendReq n.toNat 0xFFFF false (ckpMessage 4 0xFFFF w.replica w.view (cmSeq bs) (cmStep bs) 0 []),
          ckpMessage 4 0xFFFF w.replica w.view (cmSeq bs) (cmStep bs) 0 [])] s t :)
  ∧ (∀ (s u : State) (n : BitVec 20) (msn : W32) (bs : List Byte) (w : CkpServed),
    s.ckpTake n.toNat msn.toNat 3 = (some bs, u) → s.served (cmReplica bs) = some w → w.proposal = none →
    (cmView bs ≠ w.view ∨ (s.cn n.toNat).peerAddr ∉ w.members) → s.spent n.toNat →
    Does (.leaseReq n msn) s [.trn] fun t =>
      CkpHands n.toNat [(ckpSendReq n.toNat 0xFFFF false (ckpMessage 5 0xFFFF w.replica w.view (cmSeq bs) (cmStep bs) w.view []),
        ckpMessage 5 0xFFFF w.replica w.view (cmSeq bs) (cmStep bs) w.view [])] s t :)
  ∧ (∀ (s u : State) (n : BitVec 20) (msn : W32) (bs : List Byte), s.ckpTake n.toNat msn.toNat 3 = (some bs, u) →
    (∀ w, s.served (cmReplica bs) = some w → w.proposal ≠ none) →
    Does (.leaseReq n msn) s [.trn] fun t => t.trn.inbox.length < s.trn.inbox.length ∧ t.trn.conns = s.trn.conns :)
  ∧ (∀ (s u : State) (n : BitVec 20) (msn : W32) (bs : List Byte) (sent : Nat) (a b : Nat),
    s.ckpTake n.toNat msn.toNat 4 = (some bs, u) → cmReplica bs = s.ckp.replica → cmView bs = s.ckp.view →
    s.ckp.leaseSent = some (cmSeq bs, sent) → s.ckp.grants = [a, b] → (s.cn n.toNat).peerAddr ∉ [a, b] →
    (s.cn n.toNat).peerAddr ∈ s.ckp.witnesses → s.now < sent + 200000000 → sent + 200000000 < 2 ^ 64 → s.kv.opened = [] →
    Does (.leaseGrant n msn) s [.regs, .trn, .ckp] fun t => t.rd64 CKP_LEASE = sent + 200000000
      ∧ t.bit CKP_STATUS CKP_STATUS_LAPSED = false ∧ RegsBut [CKP_LEASE, CKP_LEASE + 4, CKP_STATUS] s t
      ∧ t.ckp = { s.ckp with grants := [(s.cn n.toNat).peerAddr, a, b], stepped := false } :)
  ∧ (∀ (s u : State) (n : BitVec 20) (msn : W32) (bs : List Byte) (sent : Nat),
    s.ckpTake n.toNat msn.toNat 4 = (some bs, u) → cmReplica bs = s.ckp.replica → cmView bs = s.ckp.view →
    s.ckp.leaseSent = some (cmSeq bs, sent) → (s.cn n.toNat).peerAddr ∉ s.ckp.grants →
    (s.cn n.toNat).peerAddr ∈ s.ckp.witnesses → (s.ckp.grants.length ≠ 2 ∨ sent + 200000000 ≤ s.now) →
    Does (.leaseGrant n msn) s [.trn, .ckp] fun t => t.ckp = { s.ckp with grants := (s.cn n.toNat).peerAddr :: s.ckp.grants } :)
  ∧ (∀ (s u : State) (n : BitVec 20) (msn : W32) (bs : List Byte) (sent : Nat),
    s.ckpTake n.toNat msn.toNat 5 = (some bs, u) → cmReplica bs = s.ckp.replica → s.ckp.leaseSent = some (cmSeq bs, sent) →
    cmArg bs ≠ s.ckp.view →
    Does (.leaseRefuse n msn) s [.trn, .ckp] fun t => t.ckp = { s.ckp with view := cmArg bs, leaseSent := none, grants := [] } :)
  ∧ (∀ (s u : State) (n : BitVec 20) (msn : W32) (bs : List Byte) (sent : Nat),
    s.ckpTake n.toNat msn.toNat 5 = (some bs, u) → cmReplica bs = s.ckp.replica → s.ckp.leaseSent = some (cmSeq bs, sent) →
    cmArg bs = s.ckp.view → s.bit CKP_STATUS CKP_STATUS_LAPSED = true → s.kv.opened = [] →
    Does (.leaseRefuse n msn) s [.trn, .eland] fun t => t.eland.staged = [] ∧ t.eland.streams = [] ∧ t.eland.launches = [] :)
  ∧ (∀ (s : State) (rank : W16) (spare : Nat) (a w n : Nat) (ms : List Nat) (msg : List Byte), s.ckpEn = true →
    s.domainRuns 13 = true → s.ckp.spares[spare]? = some a → rank.toNat < s.ckp.members.length →
    s.ckp.members[if rank.toNat = 0 then 1 else 0]? = some s.ckpAddr → ms = s.ckp.members.set rank.toNat a → ms.length ≤ 256 →
    msg = ckpMessage 6 s.ckp.rank s.ckp.replica (s.ckp.view + 1) (s.ckp.view + 1) (s.rd64 CKP_REPLICA) ms.length (ms.flatMap (beBytes 4)) →
    s.ckp.witnesses = [w] → s.ckpConnTo w = some n → s.spent n →
    Does (.propose (.make rank spare)) s [.trn, .ckp] fun t => t.ckp = { s.ckp with proposing := some (s.ckp.view + 1, ms, []) }
      ∧ CkpHands n [(ckpSendReq n 0xFFFF false msg, msg)] s t :)
  ∧ (∀ (s : State) (rank : W16) (spare : Nat), (s.ckp.spares[spare]? = none ∨ s.ckpEn = false ∨ s.domainRuns 13 = false) →
    Does (.propose (.make rank spare)) s [] fun _ => True :)
  ∧ (∀ (s u : State) (n : BitVec 20) (msn : W32) (bs : List Byte) (w : CkpServed),
    s.ckpTake n.toNat msn.toNat 6 = (some bs, u) → s.served (cmReplica bs) = some w → w.proposal = none →
    cmView bs = w.view + 1 →
    Does (.propose (.receive n msn)) s [.trn, .ckp] fun t =>
      t.ckp = (s.setServed { w with proposal := some (cmView bs, cmMembers bs, n.toNat, cmSeq bs) }).ckp :)
  ∧ (∀ (s u : State) (n : BitVec 20) (msn : W32) (bs : List Byte) (w : CkpServed),
    s.ckpTake n.toNat msn.toNat 6 = (some bs, u) → s.served (cmReplica bs) = some w →
    (w.proposal ≠ none ∨ cmView bs ≠ w.view + 1) →
    Does (.propose (.receive n msn)) s [.trn] fun t => t.trn.inbox.length < s.trn.inbox.length :)
  ∧ (∀ (s : State) (k : W32) (w : CkpServed) (v n q : Nat) (ms : List Nat), s.served k.toNat = some w →
    w.proposal = some (v, ms, n, q) → (∀ g ∈ w.grants, g.2 + 80000 + 1000000 < s.now) → s.domainRuns 13 = true → s.spent n →
    Does (.grantEndPassed k) s [.trn, .ckp] fun t =>
      t.ckp = (s.setServed { w with view := v, members := ms, grants := [], proposal := none }).ckp
        ∧ CkpHands n [(ckpSendReq n 0xFFFF false (ckpMessage 7 0xFFFF w.replica w.view q 0 0 []),
          ckpMessage 7 0xFFFF w.replica w.view q 0 0 [])] s t :)
  ∧ (∀ (s : State) (k : W32) (w : CkpServed) (g : Nat × Nat), s.served k.toNat = some w → g ∈ w.grants →
    s.now ≤ g.2 + 80000 + 1000000 → Does (.grantEndPassed k) s [] fun _ => True :)
  ∧ (∀ (s u : State) (n : BitVec 20) (msn : W32) (bs : List Byte) (ms got : List Nat),
    s.ckpTake n.toNat msn.toNat 7 = (some bs, u) → s.ckp.proposing = some (cmSeq bs, ms, got) → cmReplica bs = s.ckp.replica →
    cmView bs = s.ckp.view → (s.cn n.toNat).peerAddr ∉ got → (s.cn n.toNat).peerAddr ∈ s.ckp.witnesses → got.length < 2 →
    Does (.accept n msn) s [.trn, .ckp] fun t =>
      t.ckp = { s.ckp with proposing := some (cmSeq bs, ms, (s.cn n.toNat).peerAddr :: got) } :)
  ∧ (∀ (s u : State) (n : BitVec 20) (msn : W32) (bs : List Byte) (ms got : List Nat),
    s.ckpTake n.toNat msn.toNat 7 = (some bs, u) → s.ckp.proposing = some (cmSeq bs, ms, got) → cmReplica bs = s.ckp.replica →
    cmView bs = s.ckp.view → (s.cn n.toNat).peerAddr ∉ got → (s.cn n.toNat).peerAddr ∈ s.ckp.witnesses → 2 ≤ got.length →
    s.ckpAddr ∈ ms → (∀ a ∈ ms, a ≠ s.ckpAddr → s.ckpConnTo a = none) → s.ckpEn = true →
    Does (.accept n msn) s (Part.storing ++ [.kv, .trn]) fun t => t.ckp.view = cmSeq bs ∧ t.ckp.members = ms
      ∧ t.ckp.proposing = none ∧ t.rd64 CKP_MARKED = s.rd64 CKP_REPLICA
      ∧ t.bit CKP_STATUS CKP_STATUS_ROLLBACK_BUSY = true ∧ t.ckp.viewAt = some (s.rd64 CKP_REPLICA)
      ∧ (s.ckp.pre = [] → s.ckp.held = [] → s.fwRunning = true → s.hbmReady = true → t.hbm.want = some 2) :)
  ∧ (∀ (s u : State) (n : BitVec 20) (msn : W32) (bs : List Byte), s.ckpTake n.toNat msn.toNat 8 = (some bs, u) →
    cmReplica bs = s.ckp.replica → cmView bs = s.ckp.view → s.ckpAddr ∈ cmMembers bs → s.ckpEn = true →
    Does (.viewInstall n msn) s (Part.storing ++ [.kv, .trn]) fun t => t.ckp.view = s.ckp.view + 1
      ∧ t.ckp.members = cmMembers bs ∧ t.rd64 CKP_MARKED = s.rd64 CKP_REPLICA
      ∧ t.bit CKP_STATUS CKP_STATUS_ROLLBACK_BUSY = true ∧ t.ckp.viewAt = some (s.rd64 CKP_REPLICA)
      ∧ (s.ckp.pre = [] → s.ckp.held = [] → s.fwRunning = true → s.hbmReady = true → t.hbm.want = some 2) :)
  ∧ (∀ (s u : State) (n : BitVec 20) (msn : W32) (bs : List Byte), s.ckpTake n.toNat msn.toNat 8 = (some bs, u) →
    cmReplica bs = s.ckp.replica → cmView bs = s.ckp.view → s.ckpAddr ∉ cmMembers bs → s.kv.opened = [] →
    Does (.viewInstall n msn) s [.trn, .ckp, .eland] fun t => t.ckp.view = s.ckp.view + 1 ∧ t.eland.staged = [] :)
  ∧ (∀ (s u : State) (n : BitVec 20) (msn : W32) (bs : List Byte), s.ckpTake n.toNat msn.toNat 9 = (some bs, u) →
    cmReplica bs = s.ckp.replica → cmView bs = s.ckp.view → s.ckp.restoring = none →
    Does (.verified n msn) s [.trn, .ckp] fun t =>
      t.ckp = { s.ckp with verified := s.ckp.verified ++ [(cmRank bs, cmStep bs, cmArg bs == 1)] } :)
  ∧ (∀ (s u : State) (n : BitVec 20) (msn : W32) (bs : List Byte) (x : CkpRestore) (c : Nat) (vs : List (Nat × Nat × Bool)),
    s.ckpTake n.toNat msn.toNat 9 = (some bs, u) → cmReplica bs = s.ckp.replica → cmView bs = s.ckp.view →
    s.ckp.restoring = some x → x.cands = [c] → vs = s.ckp.verified ++ [(cmRank bs, cmStep bs, cmArg bs == 1)] →
    (∀ r ∈ List.range x.nranks, (ckpSaid vs r c).isSome = true) → (∃ r ∈ List.range x.nranks, ckpSaid vs r c = some false) →
    Does (.verified n msn) s [.regs, .hbm, .mbx, .trn, .ckp] fun t => t.ckp.restoring = none ∧ t.ckp.verified = []
      ∧ Answered 0x1203 x.req 0x0501
        (leBytes 4 (((List.range x.nranks).find? (fun r => ckpSaid vs r x.newest != some true)).getD 0)) t :)
  ∧ (∀ (s u : State) (n : BitVec 20) (msn : W32) (bs : List Byte) (x : CkpRestore) (c : Nat) (vs : List (Nat × Nat × Bool)),
    s.ckpTake n.toNat msn.toNat 9 = (some bs, u) → cmReplica bs = s.ckp.replica → cmView bs = s.ckp.view →
    s.ckp.restoring = some x → x.cands.head? = some c → c < 2 ^ 64 →
    vs = s.ckp.verified ++ [(cmRank bs, cmStep bs, cmArg bs == 1)] →
    (∀ r ∈ List.range x.nranks, ckpSaid vs r c = some true) →
    Does (.verified n msn) s (Part.storing ++ [.free, .kv, .eland, .trn]) fun t => t.ckp.restoring = none
      ∧ t.rd64 CKP_MARKED = c ∧ t.rd64 CKP_REPLICA = c ∧ Answered 0x1203 x.req 0 (leBytes 8 c) t :)
  ∧ (∀ (s : State) (r : SynReq) (rec_ : List Byte) (v : W32) (ms ws sp : List W32), s.synRefusal 0x1200 (some 13) r = none →
    s.recovering = false →
    Does (.synCkpConfig r rec_ v ms ws sp) s Part.storing fun t => t.ckp.view = v.toNat
      ∧ t.ckp.members = ms.map (·.toNat) ∧ t.ckp.witnesses = ws.map (·.toNat) ∧ t.ckp.spares = sp.map (·.toNat)
      ∧ Answered 0x1200 r (if t.ckpEn then 0 else t.gf CKP_CTL CKP_CTL_REFUSAL) [] t :)
  ∧ (∀ (s : State) (r : SynReq) (rec_ : List Byte) (v : W32) (ms ws sp : List W32), s.synRefusal 0x1200 (some 13) r = none →
    s.recovering = true → Does (.synCkpConfig r rec_ v ms ws sp) s [.mbx] fun t => Answered 0x1200 r 0x02F1 [] t :)
  ∧ (∀ (s : State) (r : SynReq), s.synRefusal 0x1201 (some 13) r = none →
    Does (.synCkpQuery r) s [.mbx] fun t => Answered 0x1201 r 0 (leBytes 4 (s.rd CKP_CTL).toNat ++ leBytes 8 (s.rd64 CKP_CFG_BASE)
      ++ leBytes 8 (s.rd64 CKP_STAGE) ++ leBytes 8 (s.rd64 CKP_MARKED) ++ leBytes 8 (s.rd64 CKP_LOCAL) ++ leBytes 8 (s.rd64 CKP_REPLICA)
      ++ leBytes 8 (s.rd64 CKP_LEASE) ++ leBytes 4 (s.rd CKP_STATUS).toNat ++ leBytes 4 s.ckp.view ++ leBytes 4 s.ckp.conn
      ++ leBytes 1 (b2n s.ckp.unprotected)) t :)
  ∧ (∀ (s : State) (r : SynReq) (vol : Fin 1024) (ret : Byte) (base : W64), s.synRefusal 0x1202 (some 14) r = none →
    2 ≤ ret.toNat → ret.toNat ≤ 8 → s.ckp.pin = none → s.ckpEn = true → s.rd64 CKP_MARKED < s.rd64 CKP_REPLICA + 4 →
    s.rd64 CKP_MARKED + 1 < 2 ^ 64 → (s.cn s.ckp.conn).state ≠ csReady → s.bit CKP_STATUS CKP_STATUS_LAPSED = false →
    Does (.synCkpSnapshot r vol ret base) s [.regs, .mbx, .ckp] fun t => t.ckp.pin = some (s.rd64 CKP_MARKED + 1)
      ∧ t.ckp.snapVolume = some (vol.val, ret.toNat, base.toNat) ∧ t.rd64 CKP_MARKED = s.rd64 CKP_MARKED + 1
      ∧ t.bit CKP_STATUS CKP_STATUS_PIN = true ∧ Answered 0x1202 r 0 (leBytes 8 (s.rd64 CKP_MARKED + 1)) t :)
  ∧ (∀ (s : State) (r : SynReq) (vol : Fin 1024) (ret : Byte) (base : W64), s.synRefusal 0x1202 (some 14) r = none →
    2 ≤ ret.toNat → ret.toNat ≤ 8 → s.ckp.pin.isSome = true →
    Does (.synCkpSnapshot r vol ret base) s [.mbx] fun t => Answered 0x1202 r 0x0311 [] t :)
  ∧ (∀ (s : State) (r : SynReq) (vol : Fin 1024) (lba : W64) (tr : List (List Byte)) (rank : W16) (ms : List W32)
      (mans shards : List (List Byte)), s.synRefusal 0x1203 (some 14) r = none → s.recovering = false →
    bestManifest tr mans = none →
    Does (.synCkpRestore r vol lba tr rank ms mans shards) s [.mbx] fun t => Answered 0x1203 r 0x0502 [] t :)
  ∧ (∀ (s : State) (r : SynReq) (vol : Fin 1024) (lba : W64) (tr : List (List Byte)) (rank : W16) (ms : List W32)
      (mans shards : List (List Byte)), s.synRefusal 0x1203 (some 14) r = none → s.recovering = true →
    Does (.synCkpRestore r vol lba tr rank ms mans shards) s [.mbx] fun t => Answered 0x1203 r 0x02F1 [] t :)
  ∧ (∀ (s : State) (r : SynReq) (rank : W16) (n : BitVec 20) (v : W32), s.synRefusal 0x1204 (some 13) r = none →
    s.recovering = false →
    Does (.synCkpTakeover r rank n v) s [.regs, .hbm, .hostMem, .out, .mbx, .host, .ckp] fun t => Answered 0x1204 r 0 [] t
      ∧ t.ckp = { s.ckp with rank := rank.toNat, conn := n.toNat, view := v.toNat, takeover := true, unprotected := true } :)
  ∧ (∀ (s : State) (r : SynReq) (rank : W16) (n : BitVec 20) (v : W32), s.synRefusal 0x1204 (some 13) r = none →
    s.recovering = true → Does (.synCkpTakeover r rank n v) s [.mbx] fun t => Answered 0x1204 r 0x02F1 [] t :)
  ∧ (∀ (s : State) (r : SynReq), s.synRefusal 0x1205 (some 13) r = none → s.bit CKP_STATUS CKP_STATUS_LAPSED = true →
    s.kv.opened = [] →
    Does (.synCkpDrain r) s [.mbx, .eland] fun t => Answered 0x1205 r 0 [] t ∧ t.eland.staged = [] ∧ t.eland.streams = [] :)
  ∧ (∀ (s : State) (r : SynReq), s.synRefusal 0x1205 (some 13) r = none → s.bit CKP_STATUS CKP_STATUS_LAPSED = false →
    Does (.synCkpDrain r) s [.mbx] fun t => Answered 0x1205 r 0x0210 [] t :)
  ∧ (∀ (s : State) (r : SynReq) (k v : W32) (ms : List W32), s.synRefusal 0x1206 (some 13) r = none →
    ((s.served k.toNat).isSome = true ∨ s.ckp.served.length < 256) →
    Does (.synCkpWitnessSet r k v ms) s [.mbx, .ckp] fun t => Answered 0x1206 r 0 [] t
      ∧ t.served k.toNat = some ⟨k.toNat, v.toNat, ms.map (·.toNat), [], none⟩ :)
  ∧ (∀ (s : State) (r : SynReq) (k v : W32) (ms : List W32), s.synRefusal 0x1206 (some 13) r = none →
    s.served k.toNat = none → 256 ≤ s.ckp.served.length →
    Does (.synCkpWitnessSet r k v ms) s [.mbx] fun t => Answered 0x1206 r 0x0312 [] t :)
  ∧ (∀ (s : State) (r : SynReq) (vol : Fin 1024) (ret : Byte) (base : W64), s.synRefusal 0x1202 (some 14) r = none →
    2 ≤ ret.toNat → ret.toNat ≤ 8 → s.ckp.pin = none → (s.ckpEn = false ∨ s.bit CKP_STATUS CKP_STATUS_LAPSED = true) →
    Does (.synCkpSnapshot r vol ret base) s [.free, .mbx] fun t => ((t.mb (synBox r.port)).ans).isSome = true :)
  ∧ (∀ (s : State) (r : SynReq) (vol : Fin 1024) (lba : W64) (tr : List (List Byte)) (rank : W16) (ms : List W32)
      (mans shards : List (List Byte)), s.synRefusal 0x1203 (some 14) r = none → s.recovering = false →
    Does (.synCkpRestore r vol lba tr rank ms mans shards) s (Part.sending ++ [.kv, .eland]) fun t =>
      match bestManifest tr mans with
      | none => Answered 0x1203 r 0x0502 [] t
      | some man =>
        match restoreSteps man with
        | [] =>
          Answered 0x1203 r 0x0501 (leBytes 4 (((List.range (fieldLE man 20 4)).find? (fun k =>
            !((shCopies man).filter (fun e => fieldLE e 3 1 == 0)).any (fun e =>
              fieldLE e 8 8 == (shCopies man).foldl (fun m x => max m (fieldLE x 8 8)) 0 && fieldLE e 0 2 == k))).getD 0)) t
        | c :: rest =>
          let good := (c :: rest).filter (fun d => (ownShard man shards rank.toNat d).isSome)
          let vs := s.ckp.verified ++ [(rank.toNat, c, good.contains c)]
          (∃ k ∈ List.range (fieldLE man 20 4), ckpSaid vs k c = none) →
            t.ckp.restoring = some ⟨r, rank.toNat, fieldLE man 20 4, c :: rest, c, good, man :: shards⟩
              ∧ t.ckp.verified = vs ∧ t.ckp.members = ms.map BitVec.toNat ∧ t.ckp.rank = rank.toNat :)

/-- R338, R339, R404, R423, R434, R476 to R478, R481, R484, R489: resets, supplies, reference clocks and root-port links. -/
def Obligations.SuppliesAndResetsAct : Prop :=
  (∀ (s : State) (x : Byte), Does (.perstN false x) s (Part.storing ++ [.lfsr, .guards, .free, .clock, .accelWin, .answer32,
      .answerErr, .boots, .rings, .clu, .flags, .col, .kv, .eland, .hbm, .fport, .laneRx, .trn, .time, .pkt, .chanQ, .sto, .sec, .inst,
      .iq, .fw, .coreSvc, .domainCore, .paused, .tahr, .ctrl, .pwr, .aon]) fun t =>
      t.regs = State.reset.regs ∧ t.pwr = Pwr.reset ∧ t.flt = Flt.reset ∧ t.ckp = Ckp.reset ∧ t.kv = Kv.reset
        ∧ t.mem = s.mem.filter (fun e => decide (accelBase ≤ e.1)) ∧ t.hostMem = s.hostMem ∧ t.faultN = false
        ∧ t.marks = s.marks.filter (fun e => decide (accelBase / 8 ≤ e.1)) ∧ t.lineMarks = []
        ∧ t.boots = s.boots + 1 ∧ t.pins.perstN = false ∧ t.pins.straps = x.toNat ∧ t.pins.aperst = [] ∧ t.pins.dperst = []
        ∧ t.pins.ppsOutHiZ = true ∧ t.aon.d3cold = (s.aon.d3cold || s.host.link == LinkState.l2)
        ∧ t.aon.eid = s.aon.eid ∧ t.aon.tid = s.aon.tid :)
  ∧ (∀ (s : State) (x : Byte), s.gf DEV_STATUS DEV_STATUS_STAGE = 0 → s.pins.mainInRange = true → s.pins.aonInRange = true →
    Does (.perstN true x) s (Part.reporting ++ [.free, .sec, .fw, .aon]) fun t => t.gf DEV_STATUS DEV_STATUS_STAGE = 3
      ∧ t.rd DEV_STRAPS = BitVec.ofNat 32 x.toNat ∧ t.faultN = true ∧ t.pins.wakeN = true ∧ t.pins.perstN = true
      ∧ t.aon = { s.aon with d3cold := false } :)
  ∧ (∀ (s : State) (x : Byte), (s.gf DEV_STATUS DEV_STATUS_STAGE ≠ 0 ∨ s.pins.mainInRange = false ∨ s.pins.aonInRange = false) →
    Does (.perstN true x) s [.pins, .aon] fun t => t.aon = { s.aon with d3cold := false }
      ∧ t.pins = { s.pins with perstN := true, wakeN := true, straps := x.toNat } :)
  ∧ (∀ (s : State) (c : Instr), (c = .hotReset ∨ c = .dlDown) → s.pins.perstN = true → s.pins.mainInRange = true →
    s.pins.aonInRange = true →
    Does c s (Part.storing ++ [.lfsr, .guards, .free, .clock, .accelWin, .answer32, .answerErr, .boots, .rings, .clu, .flags, .col,
      .kv, .eland, .hbm, .fport, .laneRx, .trn, .time, .pkt, .chanQ, .sto, .sec, .inst, .iq, .fw, .coreSvc, .domainCore, .paused, .tahr,
      .ctrl, .pwr]) fun t => t.gf DEV_STATUS DEV_STATUS_STAGE = 3 ∧ t.rd DEV_STRAPS = BitVec.ofNat 32 s.pins.straps
        ∧ t.boots = s.boots + 1 ∧ t.pwr = Pwr.reset ∧ t.ckp = Ckp.reset ∧ t.kv = Kv.reset ∧ t.trn = State.reset.trn
        ∧ t.mem = s.mem.filter (fun e => decide (accelBase ≤ e.1)) ∧ t.pins.aperst = [] ∧ t.faultN = true :)
  ∧ (∀ (s : State), s.pins.perstN = true → s.pins.mainInRange = true → s.pins.aonInRange = true →
    Does (.hotReset) s (Part.storing ++ [.lfsr, .guards, .free, .clock, .accelWin, .answer32, .answerErr, .boots, .rings, .clu, .flags,
      .col, .kv, .eland, .hbm, .fport, .laneRx, .trn, .time, .pkt, .chanQ, .sto, .sec, .inst, .iq, .fw, .coreSvc, .domainCore, .paused,
      .tahr, .ctrl, .pwr]) fun t => exec .dlDown s = .next t :)
  ∧ (∀ (s : State), (s.pins.perstN = false ∨ s.pins.mainInRange = false ∨ s.pins.aonInRange = false) →
    Does (.dlDown) s (Part.storing ++ [.lfsr, .guards, .free, .clock, .accelWin, .answer32, .answerErr, .boots, .rings, .clu, .flags,
      .col, .kv, .eland, .hbm, .fport, .laneRx, .trn, .time, .pkt, .chanQ, .sto, .sec, .inst, .iq, .fw, .coreSvc, .domainCore, .paused,
      .tahr, .ctrl, .pwr]) fun t => t.regs = State.reset.regs ∧ t.boots = s.boots + 1 ∧ t.faultN = false :)
  ∧ (∀ (s : State) (q : Requester), devWrites q = true → s.pins.perstN = true → s.pins.mainInRange = true →
    s.pins.aonInRange = true →
    Does (.devReset q devResetKey) s (Part.storing ++ [.lfsr, .guards, .free, .clock, .accelWin, .answer32, .answerErr, .boots, .rings,
      .clu, .flags, .col, .kv, .eland, .hbm, .fport, .laneRx, .trn, .time, .pkt, .chanQ, .sto, .sec, .inst, .iq, .fw, .coreSvc,
      .domainCore, .paused, .tahr, .ctrl, .pwr]) fun t => t.gf DEV_STATUS DEV_STATUS_STAGE = 3 ∧ t.boots = s.boots + 1
        ∧ t.safe = false ∧ t.ckp = Ckp.reset ∧ t.faultN = true :)
  ∧ (∀ (s : State) (q : Requester) (v : W32), (devWrites q = false ∨ v ≠ devResetKey) → Does (.devReset q v) s [] fun _ => True :)
  ∧ (∀ (s : State), Does (.alwaysOnPowerUp) s [.regs, .mem, .marks, .lineMarks, .lfsr, .guards, .clock, .mbx, .accelWin, .answer32,
      .answerErr, .boots, .rings, .clu, .flags, .col, .kv, .eland, .hbm, .fport, .laneRx, .trn, .time, .pkt, .chanQ, .sto, .sec, .host,
      .inst, .iq, .fw, .coreSvc, .domainCore, .paused, .tahr, .ctrl, .pwr, .aon, .flt, .faultN, .ckp, .pins] fun t =>
      t.regs = State.reset.regs ∧ t.aon = Aon.reset ∧ t.pins.aonInRange = true ∧ t.pins.mainInRange = false
        ∧ t.pins.rootUp = [] ∧ t.faultN = false :)
  ∧ (∀ (s : State) (r : W16) (mv : W32), s.pins.perstN = true → s.gf DEV_STATUS DEV_STATUS_STAGE ≠ 0 → s.fltValid 2 = false →
    s.safe = false →
    Does (.mainRailUndervoltage r mv) s Part.reporting fun t => t.pins.mainInRange = false ∧ t.safe = true ∧ t.faultN = false
      ∧ t.rd64 (FLT_FIRST 2) % 2 ^ 60 = 0x0E * 2 ^ 48 + r.toNat * 2 ^ 32 + mv.toNat :)
  ∧ (∀ (s : State) (r : W16) (mv : W32), (s.pins.perstN = false ∨ s.gf DEV_STATUS DEV_STATUS_STAGE = 0) →
    Does (.mainRailUndervoltage r mv) s [.pins] fun t => t.pins = { s.pins with mainInRange := false } :)
  ∧ (∀ (s : State) (x : Byte), s.gf DEV_STATUS DEV_STATUS_STAGE = 0 → s.pins.perstN = true → s.pins.aonInRange = true →
    Does (.mainRailInRange x) s (Part.reporting ++ [.free, .sec, .fw]) fun t => t.gf DEV_STATUS DEV_STATUS_STAGE = 3
      ∧ t.rd DEV_STRAPS = BitVec.ofNat 32 x.toNat ∧ t.faultN = true ∧ t.pins.mainInRange = true :)
  ∧ (∀ (s : State) (x : Byte), (s.gf DEV_STATUS DEV_STATUS_STAGE ≠ 0 ∨ s.pins.perstN = false ∨ s.pins.aonInRange = false) →
    Does (.mainRailInRange x) s [.pins] fun t => t.pins = { s.pins with mainInRange := true, straps := x.toNat } :)
  ∧ (∀ (s : State) (u : Fin 3) (ppm : W32), s.gf DEV_STATUS DEV_STATUS_STAGE ≠ 0 → s.fltValid 2 = false →
    Does (.referenceClockLoss u ppm) s Part.reporting fun t => t.safe = true
      ∧ t.rd64 (FLT_FIRST 2) % 2 ^ 60 = 0x0D * 2 ^ 48 + u.val * 2 ^ 32 + ppm.toNat :)
  ∧ (∀ (s : State) (u : Fin 3) (ppm : W32), s.gf DEV_STATUS DEV_STATUS_STAGE = 0 → Does (.referenceClockLoss u ppm) s [] fun _ => True :)
  ∧ (∀ (s : State) (p : Fin 8), s.safe = false → p.val ∈ s.pins.aperst → p.val ∉ s.pins.rootHeld →
    Does (.rootPortLinkUp (.accel p)) s [.pins] fun t => p.val ∈ t.pins.rootUp ∧ { t.pins with rootUp := [] } = { s.pins with rootUp := [] } :)
  ∧ (∀ (s : State) (p : Fin 8), (s.safe = true ∨ p.val ∉ s.pins.aperst ∨ p.val ∈ s.pins.rootHeld) →
    Does (.rootPortLinkUp (.accel p)) s [] fun _ => True :)
  ∧ (∀ (s : State) (d : Fin 4) (w : BitVec 4) (vwc : Bool) (m : Nat) (nss : List (Nat × Nat × Bool)), s.safe = false →
    d.val ∈ s.pins.dperst →
    Does (.rootPortLinkUp (.drive d w vwc m nss)) s [.regs, .sto, .pins] fun t => RegsBut [STO_DRIVE_STATUS d.val] s t
      ∧ t.bit (STO_DRIVE_STATUS d.val) STO_DRIVE_STATUS_PRESENT = true ∧ t.bit (STO_DRIVE_STATUS d.val) STO_DRIVE_STATUS_READY = true
      ∧ t.bit (STO_DRIVE_STATUS d.val) STO_DRIVE_STATUS_VWC = vwc ∧ t.gf (STO_DRIVE_STATUS d.val) STO_DRIVE_STATUS_WIDTH = w.toNat
      ∧ 8 + d.val ∈ t.pins.rootUp ∧ (t.backing d.val).ready = true :)
  ∧ (∀ (s : State) (d : Fin 4) (w : BitVec 4) (vwc : Bool) (m : Nat) (nss : List (Nat × Nat × Bool)),
    (s.safe = true ∨ d.val ∉ s.pins.dperst) → Does (.rootPortLinkUp (.drive d w vwc m nss)) s [] fun _ => True :)
  ∧ (∀ (s : State) (p : Fin 12) (l : W32), p.val ∈ s.pins.rootUp → p.val < 8 → s.fltValid 1 = false →
    Does (.rootPortLinkLost p l) s Part.reporting fun t => p.val ∈ t.pins.rootHeld
      ∧ t.rd64 (FLT_FIRST 1) / 2 ^ 63 = 1 ∧ t.rd64 (FLT_FIRST 1) % 2 ^ 60 = 0x1A * 2 ^ 48 + (p.val + 1) * 2 ^ 32 + l.toNat :)
  ∧ (∀ (s : State) (p : Fin 12) (l : W32), p.val ∈ s.pins.rootUp → 8 ≤ p.val → s.sto.cmds = [] → s.fltValid 1 = false →
    Does (.rootPortLinkLost p l) s (Part.reporting ++ [.sto]) fun t => p.val ∈ t.pins.rootHeld
      ∧ t.bit (STO_DRIVE_STATUS (p.val - 8)) STO_DRIVE_STATUS_PRESENT = false
      ∧ t.bit (STO_DRIVE_STATUS (p.val - 8)) STO_DRIVE_STATUS_READY = false ∧ (t.backing (p.val - 8)).ready = false
      ∧ t.rd64 (FLT_FIRST 1) % 2 ^ 60 = 0x1A * 2 ^ 48 + (p.val + 1) * 2 ^ 32 + l.toNat :)
  ∧ (∀ (s : State) (p : Fin 12) (l : W32), p.val ∉ s.pins.rootUp → Does (.rootPortLinkLost p l) s [] fun _ => True :)
end

