-- ==== Sys2Proof/Laws/Frame.lean ====
section
/-! SUPPORT. Frames: what a function of the model may change, as a set of parts of the state, and that it keeps the
canonical form. `Fr W s₀ s` is read: `s` comes from `s₀` by changes to the parts of the set `W` only. -/

namespace Sys2Proof.Machine

/-- The number of a part, its bit in a set of parts. -/
def Part.ix : Part → Nat
  | .pending => 0
  | .regs => 1
  | .mem => 2
  | .marks => 3
  | .lineMarks => 4
  | .hostMem => 5
  | .lfsr => 6
  | .guards => 7
  | .free => 8
  | .clock => 9
  | .out => 10
  | .mbx => 11
  | .accelWin => 12
  | .answer32 => 13
  | .answerErr => 14
  | .boots => 15
  | .rings => 16
  | .clu => 17
  | .flags => 18
  | .col => 19
  | .kv => 20
  | .eland => 21
  | .hbm => 22
  | .fport => 23
  | .laneRx => 24
  | .trn => 25
  | .time => 26
  | .pkt => 27
  | .chanQ => 28
  | .sto => 29
  | .sec => 30
  | .host => 31
  | .inst => 32
  | .iq => 33
  | .flash => 34
  | .fw => 35
  | .coreSvc => 36
  | .domainCore => 37
  | .paused => 38
  | .tahr => 39
  | .ctrl => 40
  | .pwr => 41
  | .aon => 42
  | .flt => 43
  | .faultN => 44
  | .ckp => 45
  | .pins => 46

/-- `t` differs from `s` in the parts of the set `W` (bits by `Part.ix`) at most, and is canonical where `s` is. -/
structure Fr (W : Nat) (s t : State) : Prop where
  frame : ∀ p : Part, W.testBit p.ix = false → p.same s t
  canon : s.canon → t.canon

theorem Fr.refl {W : Nat} {s : State} : Fr W s s := ⟨fun p _ => by cases p <;> rfl, id⟩

theorem Part.same_trans {p : Part} {s t u : State} (h : p.same s t) (g : p.same t u) : p.same s u := by
  cases p <;> exact Eq.trans g h

theorem Fr.step {W : Nat} {s₀ s t : State} (h : Fr W s₀ s) (hs : ∀ p : Part, W.testBit p.ix = false → p.same s t)
    (hc : s.canon → t.canon) : Fr W s₀ t :=
  ⟨fun p hp => Part.same_trans (h.frame p hp) (hs p hp), fun h0 => hc (h.canon h0)⟩

/-- A change within a smaller set. -/
theorem Fr.lift {w W : Nat} {s₀ s t : State} (hw : w &&& W = w) (h : Fr W s₀ s) (g : Fr w s t) : Fr W s₀ t :=
  Fr.step h (fun p hp => g.frame p (by rw [← hw, Nat.testBit_and, hp, Bool.and_false])) g.canon

theorem Fr.sub {a b c : Nat} (h : a &&& b = a) (g : b &&& c = b) : a &&& c = a := by
  rw [← h, Nat.and_assoc, g]

theorem Fr.bit {w W i : Nat} (h : w.testBit i = true) (g : w &&& W = w) : W.testBit i = true := by
  rw [← g, Nat.testBit_and] at h; exact (Bool.and_eq_true _ _ ▸ h).2

theorem Fr.ite {W : Nat} {s₀ : State} {c : Prop} {_ : Decidable c} {a b : State} (ha : Fr W s₀ a) (hb : Fr W s₀ b) :
    Fr W s₀ (if c then a else b) := by split <;> assumption

theorem Fr.foldl {α : Type} {W : Nat} {s₀ : State} {f : State → α → State} {l : List α}
    (hf : ∀ s a, Fr W s₀ s → Fr W s₀ (f s a)) : ∀ {s : State}, Fr W s₀ s → Fr W s₀ (l.foldl f s) := by
  induction l with
  | nil => intro s h; exact h
  | cons a l ih => intro s h; exact ih (hf s a h)

theorem Fr.onSome {α : Type} {W : Nat} {s₀ : State} {o : Option α} {d : State} {f : α → State} (hd : Fr W s₀ d)
    (hf : ∀ x, Fr W s₀ (f x)) : Fr W s₀ (Machine.onSome o d f) := by
  cases o
  · exact hd
  · exact hf _

/-- As `Fr` for a function whose answer holds the state beside other results. -/
structure Fr1 {β : Type} (W : Nat) (s₀ : State) (p : State × β) : Prop where
  out : Fr W s₀ p.1

theorem Fr1.pair {β : Type} {W : Nat} {s₀ t : State} {b : β} (h : Fr W s₀ t) : Fr1 W s₀ (t, b) := ⟨h⟩

theorem Fr1.ite {β : Type} {W : Nat} {s₀ : State} {c : Prop} {_ : Decidable c} {x y : State × β} (hx : Fr1 W s₀ x) (hy : Fr1 W s₀ y) :
    Fr1 W s₀ (if c then x else y) := by split <;> assumption

theorem Fr1.foldl {α β : Type} {W : Nat} {s₀ : State} {f : State × β → α → State × β} {l : List α}
    (hf : ∀ s a, Fr1 W s₀ s → Fr1 W s₀ (f s a)) : ∀ {s : State × β}, Fr1 W s₀ s → Fr1 W s₀ (l.foldl f s) := by
  induction l with
  | nil => intro s h; exact h
  | cons a l ih => intro s h; exact ih (hf s a h)

theorem Fr1.lift {β : Type} {w W : Nat} {s₀ s : State} {p : State × β} (hw : w &&& W = w) (h : Fr W s₀ s) (g : Fr1 w s p) : Fr1 W s₀ p :=
  ⟨Fr.lift hw h g.out⟩

theorem Fr1.onSome {α β : Type} {W : Nat} {s₀ : State} {o : Option α} {d : State × β} {f : α → State × β} (hd : Fr1 W s₀ d)
    (hf : ∀ x, Fr1 W s₀ (f x)) : Fr1 W s₀ (Machine.onSome o d f) := by
  cases o
  · exact hd
  · exact hf _

theorem Fr.eq1 {β : Type} {W : Nat} {s₀ t : State} {p : State × β} {b : β} (e : p = (t, b)) (h : Fr1 W s₀ p) : Fr W s₀ t := by
  subst e; exact h.out

/-- As `Fr` for a function whose answer holds the state beside other results. -/
structure Fr2 {β : Type} (W : Nat) (s₀ : State) (p : β × State) : Prop where
  out : Fr W s₀ p.2

theorem Fr2.pair {β : Type} {W : Nat} {s₀ t : State} {b : β} (h : Fr W s₀ t) : Fr2 W s₀ (b, t) := ⟨h⟩

theorem Fr2.ite {β : Type} {W : Nat} {s₀ : State} {c : Prop} {_ : Decidable c} {x y : β × State} (hx : Fr2 W s₀ x) (hy : Fr2 W s₀ y) :
    Fr2 W s₀ (if c then x else y) := by split <;> assumption

theorem Fr2.foldl {α β : Type} {W : Nat} {s₀ : State} {f : β × State → α → β × State} {l : List α}
    (hf : ∀ s a, Fr2 W s₀ s → Fr2 W s₀ (f s a)) : ∀ {s : β × State}, Fr2 W s₀ s → Fr2 W s₀ (l.foldl f s) := by
  induction l with
  | nil => intro s h; exact h
  | cons a l ih => intro s h; exact ih (hf s a h)

theorem Fr2.lift {β : Type} {w W : Nat} {s₀ s : State} {p : β × State} (hw : w &&& W = w) (h : Fr W s₀ s) (g : Fr2 w s p) : Fr2 W s₀ p :=
  ⟨Fr.lift hw h g.out⟩

theorem Fr2.onSome {α β : Type} {W : Nat} {s₀ : State} {o : Option α} {d : β × State} {f : α → β × State} (hd : Fr2 W s₀ d)
    (hf : ∀ x, Fr2 W s₀ (f x)) : Fr2 W s₀ (Machine.onSome o d f) := by
  cases o
  · exact hd
  · exact hf _

theorem Fr.eq2 {β : Type} {W : Nat} {s₀ t : State} {p : β × State} {b : β} (e : p = (b, t)) (h : Fr2 W s₀ p) : Fr W s₀ t := by
  subst e; exact h.out

/-- As `Fr` for a function whose answer holds the state beside other results. -/
structure Fr22 {β γ : Type} (W : Nat) (s₀ : State) (p : β × γ × State) : Prop where
  out : Fr W s₀ p.2.2

theorem Fr22.pair {β γ : Type} {W : Nat} {s₀ t : State} {b : β} {c : γ} (h : Fr W s₀ t) : Fr22 W s₀ (b, c, t) := ⟨h⟩

theorem Fr22.ite {β γ : Type} {W : Nat} {s₀ : State} {c : Prop} {_ : Decidable c} {x y : β × γ × State} (hx : Fr22 W s₀ x) (hy : Fr22 W s₀ y) :
    Fr22 W s₀ (if c then x else y) := by split <;> assumption

theorem Fr22.foldl {α β γ : Type} {W : Nat} {s₀ : State} {f : β × γ × State → α → β × γ × State} {l : List α}
    (hf : ∀ s a, Fr22 W s₀ s → Fr22 W s₀ (f s a)) : ∀ {s : β × γ × State}, Fr22 W s₀ s → Fr22 W s₀ (l.foldl f s) := by
  induction l with
  | nil => intro s h; exact h
  | cons a l ih => intro s h; exact ih (hf s a h)

theorem Fr22.lift {β γ : Type} {w W : Nat} {s₀ s : State} {p : β × γ × State} (hw : w &&& W = w) (h : Fr W s₀ s) (g : Fr22 w s p) : Fr22 W s₀ p :=
  ⟨Fr.lift hw h g.out⟩

theorem Fr22.onSome {α β γ : Type} {W : Nat} {s₀ : State} {o : Option α} {d : β × γ × State} {f : α → β × γ × State} (hd : Fr22 W s₀ d)
    (hf : ∀ x, Fr22 W s₀ (f x)) : Fr22 W s₀ (Machine.onSome o d f) := by
  cases o
  · exact hd
  · exact hf _

theorem Fr.eq22 {β γ : Type} {W : Nat} {s₀ t : State} {p : β × γ × State} {b : β} {c : γ} (e : p = (b, c, t)) (h : Fr22 W s₀ p) : Fr W s₀ t := by
  subst e; exact h.out

/-- As `Fr` for a function whose answer holds the state beside other results. -/
structure Fr222 {β γ δ : Type} (W : Nat) (s₀ : State) (p : β × γ × δ × State) : Prop where
  out : Fr W s₀ p.2.2.2

theorem Fr222.pair {β γ δ : Type} {W : Nat} {s₀ t : State} {b : β} {c : γ} {d : δ} (h : Fr W s₀ t) : Fr222 W s₀ (b, c, d, t) := ⟨h⟩

theorem Fr222.ite {β γ δ : Type} {W : Nat} {s₀ : State} {c : Prop} {_ : Decidable c} {x y : β × γ × δ × State} (hx : Fr222 W s₀ x) (hy : Fr222 W s₀ y) :
    Fr222 W s₀ (if c then x else y) := by split <;> assumption

theorem Fr222.foldl {α β γ δ : Type} {W : Nat} {s₀ : State} {f : β × γ × δ × State → α → β × γ × δ × State} {l : List α}
    (hf : ∀ s a, Fr222 W s₀ s → Fr222 W s₀ (f s a)) : ∀ {s : β × γ × δ × State}, Fr222 W s₀ s → Fr222 W s₀ (l.foldl f s) := by
  induction l with
  | nil => intro s h; exact h
  | cons a l ih => intro s h; exact ih (hf s a h)

theorem Fr222.lift {β γ δ : Type} {w W : Nat} {s₀ s : State} {p : β × γ × δ × State} (hw : w &&& W = w) (h : Fr W s₀ s) (g : Fr222 w s p) : Fr222 W s₀ p :=
  ⟨Fr.lift hw h g.out⟩

theorem Fr222.onSome {α β γ δ : Type} {W : Nat} {s₀ : State} {o : Option α} {d : β × γ × δ × State} {f : α → β × γ × δ × State} (hd : Fr222 W s₀ d)
    (hf : ∀ x, Fr222 W s₀ (f x)) : Fr222 W s₀ (Machine.onSome o d f) := by
  cases o
  · exact hd
  · exact hf _

theorem Fr.eq222 {β γ δ : Type} {W : Nat} {s₀ t : State} {p : β × γ × δ × State} {b : β} {c : γ} {d : δ} (e : p = (b, c, d, t)) (h : Fr222 W s₀ p) : Fr W s₀ t := by
  subst e; exact h.out

theorem Fr.onLoad {α : Type} {W : Nat} {s₀ : State} {r : Option α × List Byte × State} {g : List Byte → State → State} {b : α → State → State}
    (hr : Fr22 W s₀ r) (hg : ∀ bs s, Fr W s₀ s → Fr W s₀ (g bs s)) (hb : ∀ e s, Fr W s₀ s → Fr W s₀ (b e s)) :
    Fr W s₀ (Machine.onLoad r g b) := by
  unfold Machine.onLoad
  cases r.1
  · exact hg _ _ hr.out
  · exact hb _ _ hr.out

theorem Fr1.onLoad {α β : Type} {W : Nat} {s₀ : State} {r : Option α × List Byte × State} {g : List Byte → State → State × β} {b : α → State → State × β}
    (hr : Fr22 W s₀ r) (hg : ∀ bs s, Fr W s₀ s → Fr1 W s₀ (g bs s)) (hb : ∀ e s, Fr W s₀ s → Fr1 W s₀ (b e s)) :
    Fr1 W s₀ (Machine.onLoad r g b) := by
  unfold Machine.onLoad
  cases r.1
  · exact hg _ _ hr.out
  · exact hb _ _ hr.out

theorem Fr2.onLoad {α β : Type} {W : Nat} {s₀ : State} {r : Option α × List Byte × State} {g : List Byte → State → β × State} {b : α → State → β × State}
    (hr : Fr22 W s₀ r) (hg : ∀ bs s, Fr W s₀ s → Fr2 W s₀ (g bs s)) (hb : ∀ e s, Fr W s₀ s → Fr2 W s₀ (b e s)) :
    Fr2 W s₀ (Machine.onLoad r g b) := by
  unfold Machine.onLoad
  cases r.1
  · exact hg _ _ hr.out
  · exact hb _ _ hr.out

theorem Fr22.onLoad {α β γ : Type} {W : Nat} {s₀ : State} {r : Option α × List Byte × State} {g : List Byte → State → β × γ × State} {b : α → State → β × γ × State}
    (hr : Fr22 W s₀ r) (hg : ∀ bs s, Fr W s₀ s → Fr22 W s₀ (g bs s)) (hb : ∀ e s, Fr W s₀ s → Fr22 W s₀ (b e s)) :
    Fr22 W s₀ (Machine.onLoad r g b) := by
  unfold Machine.onLoad
  cases r.1
  · exact hg _ _ hr.out
  · exact hb _ _ hr.out

/-- As `Fr` for a function that may answer no state. -/
def FrO (W : Nat) (s₀ : State) (o : Option State) : Prop := ∀ t, o = some t → Fr W s₀ t

theorem FrO.some {W : Nat} {s₀ t : State} (h : Fr W s₀ t) : FrO W s₀ (some t) := by intro u e; cases e; exact h

theorem FrO.none {W : Nat} {s₀ : State} : FrO W s₀ none := by intro u e; cases e

theorem FrO.get {W : Nat} {s₀ t : State} (h : FrO W s₀ (Option.some t)) : Fr W s₀ t := h t rfl

theorem FrO.foldl {α : Type} {W : Nat} {s₀ : State} {f : Option State → α → Option State} {l : List α}
    (hf : ∀ s a, FrO W s₀ s → FrO W s₀ (f s a)) : ∀ {s : Option State}, FrO W s₀ s → FrO W s₀ (l.foldl f s) := by
  induction l with
  | nil => intro s h; exact h
  | cons a l ih => intro s h; exact ih (hf s a h)

theorem FrO.lift {w W : Nat} {s₀ s : State} {o : Option State} (hw : w &&& W = w) (h : Fr W s₀ s) (g : FrO w s o) : FrO W s₀ o :=
  fun t e => Fr.lift hw h (g t e)

theorem FrO.map_some {α : Type} {W : Nat} {s₀ : State} {f : α → State} {x : α} (h : Fr W s₀ (f x)) :
    FrO W s₀ (Option.map f (Option.some x)) := FrO.some h

theorem FrO.map_none {α : Type} {W : Nat} {s₀ : State} {f : α → State} : FrO W s₀ (Option.map f Option.none) := FrO.none

theorem FrO.map_or {α : Type} {W : Nat} {s₀ : State} {f : α → State} {a b : Option α} (ha : FrO W s₀ (a.map f))
    (hb : FrO W s₀ (b.map f)) : FrO W s₀ ((a.or b).map f) := by
  cases a
  · exact hb
  · exact ha

theorem Fr.getD {W : Nat} {s₀ d : State} {o : Option State} (ho : FrO W s₀ o) (hd : Fr W s₀ d) : Fr W s₀ (o.getD d) := by
  cases o
  · exact hd
  · exact ho _ rfl

theorem Fr.eqo {W : Nat} {s₀ t : State} {o : Option State} (e : o = Option.some t) (h : FrO W s₀ o) : Fr W s₀ t := h t e

theorem Fr.eqo2 {α : Type} {W : Nat} {s₀ t : State} {a : α} {o : Option (α × State)} (e : o = Option.some (a, t))
    (h : FrO W s₀ (o.map (fun p => p.2))) : Fr W s₀ t := h t (by rw [e]; rfl)

theorem Fr.eqo22 {α β : Type} {W : Nat} {s₀ t : State} {a : α} {b : β} {o : Option (α × β × State)}
    (e : o = Option.some (a, b, t)) (h : FrO W s₀ (o.map (fun p => p.2.2))) : Fr W s₀ t := h t (by rw [e]; rfl)

/-- As `Fr` for a meaning: it answers a next state. -/
def FrR (W : Nat) (s₀ : State) (r : Res) : Prop := ∃ t, r = .next t ∧ Fr W s₀ t

theorem FrR.ok {W : Nat} {s₀ t : State} (h : Fr W s₀ t) : FrR W s₀ (ok t) := ⟨t, rfl, h⟩

theorem FrR.next {W : Nat} {s₀ t : State} (h : Fr W s₀ t) : FrR W s₀ (.next t) := ⟨t, rfl, h⟩

theorem FrR.lift {w W : Nat} {s₀ s : State} {o : Res} (hw : w &&& W = w) (h : Fr W s₀ s) (g : FrR w s o) : FrR W s₀ o := by
  obtain ⟨t, e, g⟩ := g
  exact ⟨t, e, Fr.lift hw h g⟩

theorem FrR.ite {W : Nat} {s₀ : State} {c : Prop} {_ : Decidable c} {a b : Res} (ha : FrR W s₀ a) (hb : FrR W s₀ b) :
    FrR W s₀ (if c then a else b) := by split <;> assumption

/-! ### One lemma for each field: an update of the field is a change to that part. -/

theorem Fr.pending {W : Nat} {s₀ s : State} {v : List Instr} (h : Fr W s₀ s) (hw : W.testBit 0 = true) :
    Fr W s₀ { s with pending := v } :=
  Fr.step h (fun p hp => by cases p <;> first | rfl | (exact absurd hw (by simpa [Part.ix] using hp)))
    (fun hs => hs)

theorem Fr.regs {W : Nat} {s₀ s : State} {v : Tab W32} (h : Fr W s₀ s) (hw : W.testBit 1 = true) (hv : s.canon → Tab.wf regReset v = true) :
    Fr W s₀ { s with regs := v } :=
  Fr.step h (fun p hp => by cases p <;> first | rfl | (exact absurd hw (by simpa [Part.ix] using hp)))
    (fun hs => ⟨hv hs, hs.2.1, hs.2.2.1, hs.2.2.2.1, hs.2.2.2.2.1, hs.2.2.2.2.2.1, hs.2.2.2.2.2.2⟩)

theorem Fr.mem {W : Nat} {s₀ s : State} {v : List Host.Cell} (h : Fr W s₀ s) (hw : W.testBit 2 = true) (hv : s.canon → Memory.wf v = true) :
    Fr W s₀ { s with mem := v } :=
  Fr.step h (fun p hp => by cases p <;> first | rfl | (exact absurd hw (by simpa [Part.ix] using hp)))
    (fun hs => ⟨hs.1, hv hs, hs.2.2.1, hs.2.2.2.1, hs.2.2.2.2.1, hs.2.2.2.2.2.1, hs.2.2.2.2.2.2⟩)

theorem Fr.marks {W : Nat} {s₀ s : State} {v : Tab Mark} (h : Fr W s₀ s) (hw : W.testBit 3 = true) :
    Fr W s₀ { s with marks := v } :=
  Fr.step h (fun p hp => by cases p <;> first | rfl | (exact absurd hw (by simpa [Part.ix] using hp)))
    (fun hs => hs)

theorem Fr.lineMarks {W : Nat} {s₀ s : State} {v : Tab Mark} (h : Fr W s₀ s) (hw : W.testBit 4 = true) :
    Fr W s₀ { s with lineMarks := v } :=
  Fr.step h (fun p hp => by cases p <;> first | rfl | (exact absurd hw (by simpa [Part.ix] using hp)))
    (fun hs => hs)

theorem Fr.hostMem {W : Nat} {s₀ s : State} {v : List Host.Cell} (h : Fr W s₀ s) (hw : W.testBit 5 = true) (hv : s.canon → Memory.wf v = true) :
    Fr W s₀ { s with hostMem := v } :=
  Fr.step h (fun p hp => by cases p <;> first | rfl | (exact absurd hw (by simpa [Part.ix] using hp)))
    (fun hs => ⟨hs.1, hs.2.1, hv hs, hs.2.2.2.1, hs.2.2.2.2.1, hs.2.2.2.2.2.1, hs.2.2.2.2.2.2⟩)

theorem Fr.lfsr {W : Nat} {s₀ s : State} {v : Tab W16} (h : Fr W s₀ s) (hw : W.testBit 6 = true) :
    Fr W s₀ { s with lfsr := v } :=
  Fr.step h (fun p hp => by cases p <;> first | rfl | (exact absurd hw (by simpa [Part.ix] using hp)))
    (fun hs => hs)

theorem Fr.guards {W : Nat} {s₀ s : State} {v : Tab Nat} (h : Fr W s₀ s) (hw : W.testBit 7 = true) :
    Fr W s₀ { s with guards := v } :=
  Fr.step h (fun p hp => by cases p <;> first | rfl | (exact absurd hw (by simpa [Part.ix] using hp)))
    (fun hs => hs)

theorem Fr.free {W : Nat} {s₀ s : State} {v : Nat} (h : Fr W s₀ s) (hw : W.testBit 8 = true) :
    Fr W s₀ { s with free := v } :=
  Fr.step h (fun p hp => by cases p <;> first | rfl | (exact absurd hw (by simpa [Part.ix] using hp)))
    (fun hs => hs)

theorem Fr.clock {W : Nat} {s₀ s : State} {v : Nat} (h : Fr W s₀ s) (hw : W.testBit 9 = true) :
    Fr W s₀ { s with clock := v } :=
  Fr.step h (fun p hp => by cases p <;> first | rfl | (exact absurd hw (by simpa [Part.ix] using hp)))
    (fun hs => hs)

theorem Fr.out {W : Nat} {s₀ s : State} {v : List Output} (h : Fr W s₀ s) (hw : W.testBit 10 = true) :
    Fr W s₀ { s with out := v } :=
  Fr.step h (fun p hp => by cases p <;> first | rfl | (exact absurd hw (by simpa [Part.ix] using hp)))
    (fun hs => hs)

theorem Fr.mbx {W : Nat} {s₀ s : State} {v : Tab Mailbox} (h : Fr W s₀ s) (hw : W.testBit 11 = true) (hv : s.canon → Tab.wf mbxReset v = true) :
    Fr W s₀ { s with mbx := v } :=
  Fr.step h (fun p hp => by cases p <;> first | rfl | (exact absurd hw (by simpa [Part.ix] using hp)))
    (fun hs => ⟨hs.1, hs.2.1, hs.2.2.1, hs.2.2.2.1, hs.2.2.2.2.1, hv hs, hs.2.2.2.2.2.2⟩)

theorem Fr.accelWin {W : Nat} {s₀ s : State} {v : Tab (List (Nat × Nat))} (h : Fr W s₀ s) (hw : W.testBit 12 = true) :
    Fr W s₀ { s with accelWin := v } :=
  Fr.step h (fun p hp => by cases p <;> first | rfl | (exact absurd hw (by simpa [Part.ix] using hp)))
    (fun hs => hs)

theorem Fr.answer32 {W : Nat} {s₀ s : State} {v : List Byte} (h : Fr W s₀ s) (hw : W.testBit 13 = true) :
    Fr W s₀ { s with answer32 := v } :=
  Fr.step h (fun p hp => by cases p <;> first | rfl | (exact absurd hw (by simpa [Part.ix] using hp)))
    (fun hs => hs)

theorem Fr.answerErr {W : Nat} {s₀ s : State} {v : Option MemErr} (h : Fr W s₀ s) (hw : W.testBit 14 = true) :
    Fr W s₀ { s with answerErr := v } :=
  Fr.step h (fun p hp => by cases p <;> first | rfl | (exact absurd hw (by simpa [Part.ix] using hp)))
    (fun hs => hs)

theorem Fr.boots {W : Nat} {s₀ s : State} {v : Nat} (h : Fr W s₀ s) (hw : W.testBit 15 = true) :
    Fr W s₀ { s with boots := v } :=
  Fr.step h (fun p hp => by cases p <;> first | rfl | (exact absurd hw (by simpa [Part.ix] using hp)))
    (fun hs => hs)

theorem Fr.rings {W : Nat} {s₀ s : State} {v : Tab Ring} (h : Fr W s₀ s) (hw : W.testBit 16 = true) (hv : s.canon → Tab.wf ringReset v = true) :
    Fr W s₀ { s with rings := v } :=
  Fr.step h (fun p hp => by cases p <;> first | rfl | (exact absurd hw (by simpa [Part.ix] using hp)))
    (fun hs => ⟨hs.1, hs.2.1, hs.2.2.1, hs.2.2.2.1, hv hs, hs.2.2.2.2.2.1, hs.2.2.2.2.2.2⟩)

theorem Fr.clu {W : Nat} {s₀ s : State} {v : Tab Clu} (h : Fr W s₀ s) (hw : W.testBit 17 = true) :
    Fr W s₀ { s with clu := v } :=
  Fr.step h (fun p hp => by cases p <;> first | rfl | (exact absurd hw (by simpa [Part.ix] using hp)))
    (fun hs => hs)

theorem Fr.flags {W : Nat} {s₀ s : State} {v : Flags} (h : Fr W s₀ s) (hw : W.testBit 18 = true) :
    Fr W s₀ { s with flags := v } :=
  Fr.step h (fun p hp => by cases p <;> first | rfl | (exact absurd hw (by simpa [Part.ix] using hp)))
    (fun hs => hs)

theorem Fr.col {W : Nat} {s₀ s : State} {v : Col} (h : Fr W s₀ s) (hw : W.testBit 19 = true) :
    Fr W s₀ { s with col := v } :=
  Fr.step h (fun p hp => by cases p <;> first | rfl | (exact absurd hw (by simpa [Part.ix] using hp)))
    (fun hs => hs)

theorem Fr.kv {W : Nat} {s₀ s : State} {v : Kv} (h : Fr W s₀ s) (hw : W.testBit 20 = true) :
    Fr W s₀ { s with kv := v } :=
  Fr.step h (fun p hp => by cases p <;> first | rfl | (exact absurd hw (by simpa [Part.ix] using hp)))
    (fun hs => hs)

theorem Fr.eland {W : Nat} {s₀ s : State} {v : Eland} (h : Fr W s₀ s) (hw : W.testBit 21 = true) :
    Fr W s₀ { s with eland := v } :=
  Fr.step h (fun p hp => by cases p <;> first | rfl | (exact absurd hw (by simpa [Part.ix] using hp)))
    (fun hs => hs)

theorem Fr.hbm {W : Nat} {s₀ s : State} {v : Hbm} (h : Fr W s₀ s) (hw : W.testBit 22 = true) :
    Fr W s₀ { s with hbm := v } :=
  Fr.step h (fun p hp => by cases p <;> first | rfl | (exact absurd hw (by simpa [Part.ix] using hp)))
    (fun hs => hs)

theorem Fr.fport {W : Nat} {s₀ s : State} {v : Tab FPort} (h : Fr W s₀ s) (hw : W.testBit 23 = true) :
    Fr W s₀ { s with fport := v } :=
  Fr.step h (fun p hp => by cases p <;> first | rfl | (exact absurd hw (by simpa [Part.ix] using hp)))
    (fun hs => hs)

theorem Fr.laneRx {W : Nat} {s₀ s : State} {v : Tab LaneRx} (h : Fr W s₀ s) (hw : W.testBit 24 = true) :
    Fr W s₀ { s with laneRx := v } :=
  Fr.step h (fun p hp => by cases p <;> first | rfl | (exact absurd hw (by simpa [Part.ix] using hp)))
    (fun hs => hs)

theorem Fr.trn {W : Nat} {s₀ s : State} {v : Trn} (h : Fr W s₀ s) (hw : W.testBit 25 = true) :
    Fr W s₀ { s with trn := v } :=
  Fr.step h (fun p hp => by cases p <;> first | rfl | (exact absurd hw (by simpa [Part.ix] using hp)))
    (fun hs => hs)

theorem Fr.time {W : Nat} {s₀ s : State} {v : TimeUnit} (h : Fr W s₀ s) (hw : W.testBit 26 = true) :
    Fr W s₀ { s with time := v } :=
  Fr.step h (fun p hp => by cases p <;> first | rfl | (exact absurd hw (by simpa [Part.ix] using hp)))
    (fun hs => hs)

theorem Fr.pkt {W : Nat} {s₀ s : State} {v : Pkt} (h : Fr W s₀ s) (hw : W.testBit 27 = true) :
    Fr W s₀ { s with pkt := v } :=
  Fr.step h (fun p hp => by cases p <;> first | rfl | (exact absurd hw (by simpa [Part.ix] using hp)))
    (fun hs => hs)

theorem Fr.chanQ {W : Nat} {s₀ s : State} {v : List SrcFrame} (h : Fr W s₀ s) (hw : W.testBit 28 = true) :
    Fr W s₀ { s with chanQ := v } :=
  Fr.step h (fun p hp => by cases p <;> first | rfl | (exact absurd hw (by simpa [Part.ix] using hp)))
    (fun hs => hs)

theorem Fr.sto {W : Nat} {s₀ s : State} {v : Sto} (h : Fr W s₀ s) (hw : W.testBit 29 = true) :
    Fr W s₀ { s with sto := v } :=
  Fr.step h (fun p hp => by cases p <;> first | rfl | (exact absurd hw (by simpa [Part.ix] using hp)))
    (fun hs => hs)

theorem Fr.sec {W : Nat} {s₀ s : State} {v : Sec} (h : Fr W s₀ s) (hw : W.testBit 30 = true) :
    Fr W s₀ { s with sec := v } :=
  Fr.step h (fun p hp => by cases p <;> first | rfl | (exact absurd hw (by simpa [Part.ix] using hp)))
    (fun hs => hs)

theorem Fr.host {W : Nat} {s₀ s : State} {v : HostIf} (h : Fr W s₀ s) (hw : W.testBit 31 = true) :
    Fr W s₀ { s with host := v } :=
  Fr.step h (fun p hp => by cases p <;> first | rfl | (exact absurd hw (by simpa [Part.ix] using hp)))
    (fun hs => hs)

theorem Fr.inst {W : Nat} {s₀ s : State} {v : Tab Inst} (h : Fr W s₀ s) (hw : W.testBit 32 = true) (hv : s.canon → Tab.wf Machine.instReset v = true) :
    Fr W s₀ { s with inst := v } :=
  Fr.step h (fun p hp => by cases p <;> first | rfl | (exact absurd hw (by simpa [Part.ix] using hp)))
    (fun hs => ⟨hs.1, hs.2.1, hs.2.2.1, hs.2.2.2.1, hs.2.2.2.2.1, hs.2.2.2.2.2.1, hv hs⟩)

theorem Fr.iq {W : Nat} {s₀ s : State} {v : List (Nat × IQueue)} (h : Fr W s₀ s) (hw : W.testBit 33 = true) :
    Fr W s₀ { s with iq := v } :=
  Fr.step h (fun p hp => by cases p <;> first | rfl | (exact absurd hw (by simpa [Part.ix] using hp)))
    (fun hs => hs)

theorem Fr.flash {W : Nat} {s₀ s : State} {v : Flash} (h : Fr W s₀ s) (hw : W.testBit 34 = true) :
    Fr W s₀ { s with flash := v } :=
  Fr.step h (fun p hp => by cases p <;> first | rfl | (exact absurd hw (by simpa [Part.ix] using hp)))
    (fun hs => hs)

theorem Fr.fw {W : Nat} {s₀ s : State} {v : Fw} (h : Fr W s₀ s) (hw : W.testBit 35 = true) :
    Fr W s₀ { s with fw := v } :=
  Fr.step h (fun p hp => by cases p <;> first | rfl | (exact absurd hw (by simpa [Part.ix] using hp)))
    (fun hs => hs)

theorem Fr.coreSvc {W : Nat} {s₀ s : State} {v : Tab CoreSvc} (h : Fr W s₀ s) (hw : W.testBit 36 = true) :
    Fr W s₀ { s with coreSvc := v } :=
  Fr.step h (fun p hp => by cases p <;> first | rfl | (exact absurd hw (by simpa [Part.ix] using hp)))
    (fun hs => hs)

theorem Fr.domainCore {W : Nat} {s₀ s : State} {v : Tab Nat} (h : Fr W s₀ s) (hw : W.testBit 37 = true) :
    Fr W s₀ { s with domainCore := v } :=
  Fr.step h (fun p hp => by cases p <;> first | rfl | (exact absurd hw (by simpa [Part.ix] using hp)))
    (fun hs => hs)

theorem Fr.paused {W : Nat} {s₀ s : State} {v : List Nat} (h : Fr W s₀ s) (hw : W.testBit 38 = true) :
    Fr W s₀ { s with paused := v } :=
  Fr.step h (fun p hp => by cases p <;> first | rfl | (exact absurd hw (by simpa [Part.ix] using hp)))
    (fun hs => hs)

theorem Fr.tahr {W : Nat} {s₀ s : State} {v : Tab Tahr} (h : Fr W s₀ s) (hw : W.testBit 39 = true) :
    Fr W s₀ { s with tahr := v } :=
  Fr.step h (fun p hp => by cases p <;> first | rfl | (exact absurd hw (by simpa [Part.ix] using hp)))
    (fun hs => hs)

theorem Fr.ctrl {W : Nat} {s₀ s : State} {v : List Host.Cell} (h : Fr W s₀ s) (hw : W.testBit 40 = true) (hv : s.canon → ctrlWf v = true) :
    Fr W s₀ { s with ctrl := v } :=
  Fr.step h (fun p hp => by cases p <;> first | rfl | (exact absurd hw (by simpa [Part.ix] using hp)))
    (fun hs => ⟨hs.1, hs.2.1, hs.2.2.1, hv hs, hs.2.2.2.2.1, hs.2.2.2.2.2.1, hs.2.2.2.2.2.2⟩)

theorem Fr.pwr {W : Nat} {s₀ s : State} {v : Pwr} (h : Fr W s₀ s) (hw : W.testBit 41 = true) :
    Fr W s₀ { s with pwr := v } :=
  Fr.step h (fun p hp => by cases p <;> first | rfl | (exact absurd hw (by simpa [Part.ix] using hp)))
    (fun hs => hs)

theorem Fr.aon {W : Nat} {s₀ s : State} {v : Aon} (h : Fr W s₀ s) (hw : W.testBit 42 = true) :
    Fr W s₀ { s with aon := v } :=
  Fr.step h (fun p hp => by cases p <;> first | rfl | (exact absurd hw (by simpa [Part.ix] using hp)))
    (fun hs => hs)

theorem Fr.flt {W : Nat} {s₀ s : State} {v : Flt} (h : Fr W s₀ s) (hw : W.testBit 43 = true) :
    Fr W s₀ { s with flt := v } :=
  Fr.step h (fun p hp => by cases p <;> first | rfl | (exact absurd hw (by simpa [Part.ix] using hp)))
    (fun hs => hs)

theorem Fr.faultN {W : Nat} {s₀ s : State} {v : Bool} (h : Fr W s₀ s) (hw : W.testBit 44 = true) :
    Fr W s₀ { s with faultN := v } :=
  Fr.step h (fun p hp => by cases p <;> first | rfl | (exact absurd hw (by simpa [Part.ix] using hp)))
    (fun hs => hs)

theorem Fr.ckp {W : Nat} {s₀ s : State} {v : Ckp} (h : Fr W s₀ s) (hw : W.testBit 45 = true) :
    Fr W s₀ { s with ckp := v } :=
  Fr.step h (fun p hp => by cases p <;> first | rfl | (exact absurd hw (by simpa [Part.ix] using hp)))
    (fun hs => hs)

theorem Fr.pins {W : Nat} {s₀ s : State} {v : Pins} (h : Fr W s₀ s) (hw : W.testBit 46 = true) :
    Fr W s₀ { s with pins := v } :=
  Fr.step h (fun p hp => by cases p <;> first | rfl | (exact absurd hw (by simpa [Part.ix] using hp)))
    (fun hs => hs)

theorem Fr.upd_accelWin_kv_pins {W : Nat} {s₀ s : State} {v0 : Tab (List (Nat × Nat))} {v1 : Kv} {v2 : Pins} (h : Fr W s₀ s) (hw0 : W.testBit 12 = true) (hw1 : W.testBit 20 = true) (hw2 : W.testBit 46 = true)  :
    Fr W s₀ { s with accelWin := v0, kv := v1, pins := v2 } :=
  Fr.pins (s := { s with accelWin := v0, kv := v1 }) (v := v2) (Fr.kv (s := { s with accelWin := v0 }) (v := v1) (Fr.accelWin (s := s) (v := v0) h hw0) hw1) hw2

theorem Fr.upd_answer32_answerErr {W : Nat} {s₀ s : State} {v0 : List Byte} {v1 : Option MemErr} (h : Fr W s₀ s) (hw0 : W.testBit 13 = true) (hw1 : W.testBit 14 = true)  :
    Fr W s₀ { s with answer32 := v0, answerErr := v1 } :=
  Fr.answerErr (s := { s with answer32 := v0 }) (v := v1) (Fr.answer32 (s := s) (v := v0) h hw0) hw1

theorem Fr.upd_aon_pins {W : Nat} {s₀ s : State} {v0 : Aon} {v1 : Pins} (h : Fr W s₀ s) (hw0 : W.testBit 42 = true) (hw1 : W.testBit 46 = true)  :
    Fr W s₀ { s with aon := v0, pins := v1 } :=
  Fr.pins (s := { s with aon := v0 }) (v := v1) (Fr.aon (s := s) (v := v0) h hw0) hw1

theorem Fr.upd_clock_time {W : Nat} {s₀ s : State} {v0 : Nat} {v1 : TimeUnit} (h : Fr W s₀ s) (hw0 : W.testBit 9 = true) (hw1 : W.testBit 26 = true)  :
    Fr W s₀ { s with clock := v0, time := v1 } :=
  Fr.time (s := { s with clock := v0 }) (v := v1) (Fr.clock (s := s) (v := v0) h hw0) hw1

theorem Fr.upd_domainCore_paused {W : Nat} {s₀ s : State} {v0 : Tab Nat} {v1 : List Nat} (h : Fr W s₀ s) (hw0 : W.testBit 37 = true) (hw1 : W.testBit 38 = true)  :
    Fr W s₀ { s with domainCore := v0, paused := v1 } :=
  Fr.paused (s := { s with domainCore := v0 }) (v := v1) (Fr.domainCore (s := s) (v := v0) h hw0) hw1

theorem Fr.upd_faultN_pins {W : Nat} {s₀ s : State} {v0 : Bool} {v1 : Pins} (h : Fr W s₀ s) (hw0 : W.testBit 44 = true) (hw1 : W.testBit 46 = true)  :
    Fr W s₀ { s with faultN := v0, pins := v1 } :=
  Fr.pins (s := { s with faultN := v0 }) (v := v1) (Fr.faultN (s := s) (v := v0) h hw0) hw1

theorem Fr.upd_fw_pins {W : Nat} {s₀ s : State} {v0 : Fw} {v1 : Pins} (h : Fr W s₀ s) (hw0 : W.testBit 35 = true) (hw1 : W.testBit 46 = true)  :
    Fr W s₀ { s with fw := v0, pins := v1 } :=
  Fr.pins (s := { s with fw := v0 }) (v := v1) (Fr.fw (s := s) (v := v0) h hw0) hw1

theorem Fr.upd_kv_ckp {W : Nat} {s₀ s : State} {v0 : Kv} {v1 : Ckp} (h : Fr W s₀ s) (hw0 : W.testBit 20 = true) (hw1 : W.testBit 45 = true)  :
    Fr W s₀ { s with kv := v0, ckp := v1 } :=
  Fr.ckp (s := { s with kv := v0 }) (v := v1) (Fr.kv (s := s) (v := v0) h hw0) hw1

theorem Fr.upd_kv_eland_ckp {W : Nat} {s₀ s : State} {v0 : Kv} {v1 : Eland} {v2 : Ckp} (h : Fr W s₀ s) (hw0 : W.testBit 20 = true) (hw1 : W.testBit 21 = true) (hw2 : W.testBit 45 = true)  :
    Fr W s₀ { s with kv := v0, eland := v1, ckp := v2 } :=
  Fr.ckp (s := { s with kv := v0, eland := v1 }) (v := v2) (Fr.eland (s := { s with kv := v0 }) (v := v1) (Fr.kv (s := s) (v := v0) h hw0) hw1) hw2

theorem Fr.upd_mem_boots_faultN_pins {W : Nat} {s₀ s : State} {v0 : List Host.Cell} {v1 : Nat} {v2 : Bool} {v3 : Pins} (h : Fr W s₀ s) (hw0 : W.testBit 2 = true) (hw1 : W.testBit 15 = true) (hw2 : W.testBit 44 = true) (hw3 : W.testBit 46 = true) (hv0 : s.canon → Memory.wf v0 = true) :
    Fr W s₀ { s with mem := v0, boots := v1, faultN := v2, pins := v3 } :=
  Fr.pins (s := { s with mem := v0, boots := v1, faultN := v2 }) (v := v3) (Fr.faultN (s := { s with mem := v0, boots := v1 }) (v := v2) (Fr.boots (s := { s with mem := v0 }) (v := v1) (Fr.mem (s := s) (v := v0) h hw0 hv0) hw1) hw2) hw3

theorem Fr.upd_mem_lineMarks {W : Nat} {s₀ s : State} {v0 : List Host.Cell} {v1 : Tab Mark} (h : Fr W s₀ s) (hw0 : W.testBit 2 = true) (hw1 : W.testBit 4 = true) (hv0 : s.canon → Memory.wf v0 = true) :
    Fr W s₀ { s with mem := v0, lineMarks := v1 } :=
  Fr.lineMarks (s := { s with mem := v0 }) (v := v1) (Fr.mem (s := s) (v := v0) h hw0 hv0) hw1

theorem Fr.upd_mem_marks {W : Nat} {s₀ s : State} {v0 : List Host.Cell} {v1 : Tab Mark} (h : Fr W s₀ s) (hw0 : W.testBit 2 = true) (hw1 : W.testBit 3 = true) (hv0 : s.canon → Memory.wf v0 = true) :
    Fr W s₀ { s with mem := v0, marks := v1 } :=
  Fr.marks (s := { s with mem := v0 }) (v := v1) (Fr.mem (s := s) (v := v0) h hw0 hv0) hw1

theorem Fr.upd_pkt_chanQ {W : Nat} {s₀ s : State} {v0 : Pkt} {v1 : List SrcFrame} (h : Fr W s₀ s) (hw0 : W.testBit 27 = true) (hw1 : W.testBit 28 = true) :
    Fr W s₀ { s with pkt := v0, chanQ := v1 } :=
  Fr.chanQ (s := { s with pkt := v0 }) (v := v1) (Fr.pkt (s := s) (v := v0) h hw0) hw1

theorem Fr.upd_regs_host {W : Nat} {s₀ s : State} {v0 : Tab W32} {v1 : HostIf} (h : Fr W s₀ s) (hw0 : W.testBit 1 = true) (hw1 : W.testBit 31 = true) (hv0 : s.canon → Tab.wf regReset v0 = true) :
    Fr W s₀ { s with regs := v0, host := v1 } :=
  Fr.host (s := { s with regs := v0 }) (v := v1) (Fr.regs (s := s) (v := v0) h hw0 hv0) hw1

theorem Fr.upd_chanQ_pwr {W : Nat} {s₀ s : State} {v0 : List SrcFrame} {v1 : Pwr} (h : Fr W s₀ s) (hw0 : W.testBit 28 = true) (hw1 : W.testBit 41 = true)  :
    Fr W s₀ { s with chanQ := v0, pwr := v1 } :=
  Fr.pwr (s := { s with chanQ := v0 }) (v := v1) (Fr.chanQ (s := s) (v := v0) h hw0) hw1

end Sys2Proof.Machine
end

