-- ==== Sys2Proof/Laws/Tab.lean ====
section
/-! SUPPORT. Laws of sparse tables: reads after writes, and the canonical form under every operation. -/

namespace Sys2Proof.Machine

variable {α : Type}

theorem Tab.get_insert_self (d : Nat → α) (t : Tab α) (k : Nat) (v : α) : Tab.get d (Tab.insert t k v) k = v := by
  induction t with
  | nil => simp [Tab.insert, Tab.get]
  | cons e t ih =>
    obtain ⟨k', v'⟩ := e
    by_cases h1 : k < k'
    · simp [Tab.insert, Tab.get, h1]
    · by_cases h2 : k = k'
      · simp [Tab.insert, Tab.get, h2]
      · simp [Tab.insert, Tab.get, h1, h2, Ne.symm h2, ih]

theorem Tab.get_insert_ne (d : Nat → α) (t : Tab α) {k j : Nat} (v : α) (h : j ≠ k) :
    Tab.get d (Tab.insert t k v) j = Tab.get d t j := by
  induction t with
  | nil => simp [Tab.insert, Tab.get, Ne.symm h]
  | cons e t ih =>
    obtain ⟨k', v'⟩ := e
    by_cases h1 : k < k'
    · simp [Tab.insert, Tab.get, h1, Ne.symm h]
    · by_cases h2 : k = k'
      · subst h2; simp [Tab.insert, Tab.get, Ne.symm h]
      · simp [Tab.insert, Tab.get, h1, h2, ih]

theorem Tab.get_erase_self (d : Nat → α) (t : Tab α) (k : Nat) : Tab.get d (Tab.erase t k) k = d k := by
  induction t with
  | nil => rfl
  | cons e t ih =>
    obtain ⟨k', v'⟩ := e
    by_cases h : k' = k
    · simpa [Tab.erase, List.filter_cons, h] using ih
    · have : Tab.erase ((k', v') :: t) k = (k', v') :: Tab.erase t k := by simp [Tab.erase, List.filter_cons, h]
      rw [this]; simp [Tab.get, h, ih]

theorem Tab.get_erase_ne (d : Nat → α) (t : Tab α) {k j : Nat} (h : j ≠ k) :
    Tab.get d (Tab.erase t k) j = Tab.get d t j := by
  induction t with
  | nil => rfl
  | cons e t ih =>
    obtain ⟨k', v'⟩ := e
    by_cases hk : k' = k
    · have : Tab.erase ((k', v') :: t) k = Tab.erase t k := by simp [Tab.erase, List.filter_cons, hk]
      rw [this, ih]; subst hk; simp [Tab.get, Ne.symm h]
    · have : Tab.erase ((k', v') :: t) k = (k', v') :: Tab.erase t k := by simp [Tab.erase, List.filter_cons, hk]
      rw [this]; simp only [Tab.get, ih]

/-- A read of the entry just written gives the value written. -/
@[simp] theorem Tab.get_set_self [DecidableEq α] (d : Nat → α) (t : Tab α) (k : Nat) (v : α) :
    Tab.get d (Tab.set d t k v) k = v := by
  unfold Tab.set
  split
  · next h => rw [Tab.get_erase_self, h]
  · exact Tab.get_insert_self d t k v

/-- A write leaves every other entry as it was. -/
theorem Tab.get_set_ne [DecidableEq α] (d : Nat → α) (t : Tab α) {k j : Nat} (v : α) (h : j ≠ k) :
    Tab.get d (Tab.set d t k v) j = Tab.get d t j := by
  unfold Tab.set
  split
  · exact Tab.get_erase_ne d t h
  · exact Tab.get_insert_ne d t v h

theorem Tab.get_set [DecidableEq α] (d : Nat → α) (t : Tab α) (k j : Nat) (v : α) :
    Tab.get d (Tab.set d t k v) j = if j = k then v else Tab.get d t j := by
  split
  · next h => subst h; exact Tab.get_set_self d t j v
  · next h => exact Tab.get_set_ne d t v h

theorem Tab.rising_mono {t : Tab α} {a b : Nat} (h : a ≤ b) (r : Tab.rising b t = true) : Tab.rising a t = true := by
  cases t with
  | nil => rfl
  | cons e t =>
    obtain ⟨k, v⟩ := e
    simp only [Tab.rising, Bool.and_eq_true, decide_eq_true_eq] at r ⊢
    exact ⟨Nat.le_trans h r.1, r.2⟩

theorem Tab.rising_filter (p : Nat × α → Bool) {t : Tab α} : ∀ {a : Nat}, Tab.rising a t = true → Tab.rising a (t.filter p) = true := by
  induction t with
  | nil => intro a _; rfl
  | cons e t ih =>
    obtain ⟨k, v⟩ := e
    intro a r
    simp only [Tab.rising, Bool.and_eq_true, decide_eq_true_eq] at r
    by_cases h : p (k, v) = true
    · simp only [List.filter_cons, h, if_true, Tab.rising, Bool.and_eq_true, decide_eq_true_eq]
      exact ⟨r.1, ih r.2⟩
    · simp only [List.filter_cons, h]
      exact Tab.rising_mono (Nat.le_trans r.1 (Nat.le_succ k)) (ih r.2)

theorem Tab.rising_insert {t : Tab α} {k : Nat} (v : α) : ∀ {a : Nat}, a ≤ k → Tab.rising a t = true →
    Tab.rising a (Tab.insert t k v) = true := by
  induction t with
  | nil => intro a h _; simp [Tab.insert, Tab.rising, h]
  | cons e t ih =>
    obtain ⟨k', v'⟩ := e
    intro a h r
    simp only [Tab.rising, Bool.and_eq_true, decide_eq_true_eq] at r
    unfold Tab.insert
    split
    · next h1 =>
      simp only [Tab.rising, Bool.and_eq_true, decide_eq_true_eq]
      exact ⟨h, h1, r.2⟩
    · next h1 =>
      split
      · next h2 => subst h2; simp only [Tab.rising, Bool.and_eq_true, decide_eq_true_eq]; exact ⟨h, r.2⟩
      · next h2 =>
        simp only [Tab.rising, Bool.and_eq_true, decide_eq_true_eq]
        exact ⟨r.1, ih (by omega) r.2⟩

theorem Tab.mem_insert {t : Tab α} {k : Nat} {v : α} {e : Nat × α} (h : e ∈ Tab.insert t k v) : e = (k, v) ∨ e ∈ t := by
  induction t with
  | nil => simpa [Tab.insert] using h
  | cons x t ih =>
    obtain ⟨k', v'⟩ := x
    unfold Tab.insert at h
    split at h
    · simpa using h
    · split at h
      · rcases List.mem_cons.1 h with h | h
        · exact .inl h
        · exact .inr (List.mem_cons_of_mem _ h)
      · rcases List.mem_cons.1 h with h | h
        · exact .inr (h ▸ List.mem_cons_self)
        · rcases ih h with h | h
          · exact .inl h
          · exact .inr (List.mem_cons_of_mem _ h)

/-- A filter keeps the canonical form. -/
theorem Tab.wf_filter [DecidableEq α] {d : Nat → α} (p : Nat × α → Bool) {t : Tab α} (h : Tab.wf d t = true) :
    Tab.wf d (t.filter p) = true := by
  simp only [Tab.wf, Bool.and_eq_true, List.all_eq_true] at h ⊢
  exact ⟨Tab.rising_filter p h.1, fun e he => h.2 e (List.mem_filter.1 he).1⟩

/-- A write keeps the canonical form. -/
theorem Tab.wf_set [DecidableEq α] {d : Nat → α} {t : Tab α} (k : Nat) (v : α) (h : Tab.wf d t = true) :
    Tab.wf d (Tab.set d t k v) = true := by
  unfold Tab.set
  split
  · exact Tab.wf_filter _ h
  · next hv =>
    simp only [Tab.wf, Bool.and_eq_true, List.all_eq_true] at h ⊢
    refine ⟨Tab.rising_insert v (Nat.zero_le k) h.1, fun e he => ?_⟩
    rcases Tab.mem_insert he with rfl | he
    · simpa using hv
    · exact h.2 e he

end Sys2Proof.Machine
end

