-- ==== Sys2Proof/Laws/FrameOps.lean ====
section
/-! SUPPORT. Frames of the functions of Machine/Ops.lean: which parts of the state each may change. -/

namespace Sys2Proof.Machine

theorem State.wr_frame {off : Nat} {v : W32} {W : Nat} {s₀ s₁ : State} (h₀ : Fr W s₀ s₁) (hw : 2 &&& W = 2) :
    Fr W s₀ (State.wr s₁ off v) := by
  refine Fr.lift hw h₀ ?_
  have h : Fr 2 s₁ s₁ := Fr.refl
  clear h₀ hw
  first | rw [State.wr] | unfold State.wr
  repeat' first
    | with_reducible assumption
    | (refine Fr.regs ?_ rfl (fun hs => by first | exact Tab.wf_set _ _ (hs.1) | exact Tab.wf_filter _ (hs.1)))

theorem State.wr64_frame {off : Nat} {v : Nat} {W : Nat} {s₀ s₁ : State} (h₀ : Fr W s₀ s₁) (hw : 2 &&& W = 2) :
    Fr W s₀ (State.wr64 s₁ off v) := by
  refine Fr.lift hw h₀ ?_
  have h : Fr 2 s₁ s₁ := Fr.refl
  clear h₀ hw
  first | rw [State.wr64] | unfold State.wr64
  repeat' first
    | with_reducible assumption
    | (with_reducible refine State.wr_frame ?_ rfl)

theorem State.sf_frame {off : Nat} {f : Fd} {x : Nat} {W : Nat} {s₀ s₁ : State} (h₀ : Fr W s₀ s₁) (hw : 2 &&& W = 2) :
    Fr W s₀ (State.sf s₁ off f x) := by
  refine Fr.lift hw h₀ ?_
  have h : Fr 2 s₁ s₁ := Fr.refl
  clear h₀ hw
  first | rw [State.sf] | unfold State.sf
  repeat' first
    | with_reducible assumption
    | (with_reducible refine State.wr64_frame ?_ rfl)
    | (with_reducible refine State.wr_frame ?_ rfl)
    | (with_reducible refine Fr.ite ?_ ?_)

theorem State.cnt_frame {off : Nat} {f : Fd} {x : Nat} {W : Nat} {s₀ s₁ : State} (h₀ : Fr W s₀ s₁) (hw : 2 &&& W = 2) :
    Fr W s₀ (State.cnt s₁ off f x) := by
  refine Fr.lift hw h₀ ?_
  have h : Fr 2 s₁ s₁ := Fr.refl
  clear h₀ hw
  first | rw [State.cnt] | unfold State.cnt
  repeat' first
    | with_reducible assumption
    | (with_reducible refine State.sf_frame ?_ rfl)

theorem State.tick_frame {W : Nat} {s₀ s₁ : State} (h₀ : Fr W s₀ s₁) (hw : 256 &&& W = 256) :
    Fr W s₀ (State.tick s₁) := by
  refine Fr.lift hw h₀ ?_
  have h : Fr 256 s₁ s₁ := Fr.refl
  clear h₀ hw
  first | rw [State.tick] | unfold State.tick
  repeat' first
    | with_reducible assumption
    | (with_reducible refine Fr.free ?_ rfl)

theorem State.lfsrAdvance_frame {a : Nat} {n : Nat} {W : Nat} {s₀ s₁ : State} (h₀ : Fr W s₀ s₁) (hw : 64 &&& W = 64) :
    Fr W s₀ (State.lfsrAdvance s₁ a n) := by
  refine Fr.lift hw h₀ ?_
  have h : Fr 64 s₁ s₁ := Fr.refl
  clear h₀ hw
  first | rw [State.lfsrAdvance] | unfold State.lfsrAdvance
  repeat' first
    | with_reducible assumption
    | (with_reducible refine Fr.lfsr ?_ rfl)

theorem State.draw_frame {a : Nat} {guard : Nat} {gap : Nat} {reqs : List (Nat × Nat)} {W : Nat} {s₀ s₁ : State} (h₀ : Fr W s₀ s₁) (hw : 192 &&& W = 192) :
    Fr2 W s₀ (State.draw s₁ a guard gap reqs) := by
  refine Fr2.lift hw h₀ ?_
  have h : Fr 192 s₁ s₁ := Fr.refl
  clear h₀ hw
  first | rw [State.draw] | unfold State.draw
  repeat' first
    | with_reducible assumption
    | (with_reducible refine State.lfsrAdvance_frame ?_ rfl)
    | split
    | (with_reducible refine Fr2.pair ?_)
    | (with_reducible refine Fr.guards ?_ rfl)

theorem State.drawNow_frame {a : Nat} {guard : Nat} {reqs : List (Nat × Nat)} {W : Nat} {s₀ s₁ : State} (h₀ : Fr W s₀ s₁) (hw : 448 &&& W = 448) :
    Fr2 W s₀ (State.drawNow s₁ a guard reqs) := by
  refine Fr2.lift hw h₀ ?_
  have h : Fr 448 s₁ s₁ := Fr.refl
  clear h₀ hw
  first | rw [State.drawNow] | unfold State.drawNow
  repeat' first
    | with_reducible assumption
    | (with_reducible refine Fr2.pair ?_)
    | (with_reducible refine Fr2.ite ?_ ?_)
    | (with_reducible refine State.draw_frame ?_ rfl)
    | (with_reducible refine Fr2.out (State.draw_frame ?_ rfl))
    | (with_reducible refine State.tick_frame ?_ rfl)
    | (with_reducible refine Fr.ite ?_ ?_)
    | split

theorem State.emit_frame {o : Output} {W : Nat} {s₀ s₁ : State} (h₀ : Fr W s₀ s₁) (hw : 1024 &&& W = 1024) :
    Fr W s₀ (State.emit s₁ o) := by
  refine Fr.lift hw h₀ ?_
  have h : Fr 1024 s₁ s₁ := Fr.refl
  clear h₀ hw
  first | rw [State.emit] | unfold State.emit
  repeat' first
    | with_reducible assumption
    | (with_reducible refine Fr.out ?_ rfl)

theorem State.cfgWr_frame {off : Nat} {v : W32} {W : Nat} {s₀ s₁ : State} (h₀ : Fr W s₀ s₁) (hw : 2147483648 &&& W = 2147483648) :
    Fr W s₀ (State.cfgWr s₁ off v) := by
  refine Fr.lift hw h₀ ?_
  have h : Fr 2147483648 s₁ s₁ := Fr.refl
  clear h₀ hw
  first | rw [State.cfgWr] | unfold State.cfgWr
  repeat' first
    | with_reducible assumption
    | (lift_lets; intro x; clear_value x)
    | (with_reducible refine Fr.host ?_ rfl)

theorem State.pba_frame {v : Nat} {b : Bool} {W : Nat} {s₀ s₁ : State} (h₀ : Fr W s₀ s₁) (hw : 2 &&& W = 2) :
    Fr W s₀ (State.pba s₁ v b) := by
  refine Fr.lift hw h₀ ?_
  have h : Fr 2 s₁ s₁ := Fr.refl
  clear h₀ hw
  first | rw [State.pba] | unfold State.pba
  repeat' first
    | with_reducible assumption
    | (with_reducible refine State.wr_frame ?_ rfl)

theorem State.raise_frame {v : Nat} {W : Nat} {s₀ s₁ : State} (h₀ : Fr W s₀ s₁) (hw : 2147483650 &&& W = 2147483650) :
    Fr W s₀ (State.raise s₁ v) := by
  refine Fr.lift hw h₀ ?_
  have h : Fr 2147483650 s₁ s₁ := Fr.refl
  clear h₀ hw
  first | rw [State.raise] | unfold State.raise
  repeat' first
    | with_reducible assumption
    | (lift_lets; intro x; clear_value x)
    | (with_reducible refine State.pba_frame ?_ rfl)
    | (with_reducible refine Fr.ite ?_ ?_)
    | (with_reducible refine Fr.host ?_ rfl)

theorem State.hostPut_frame {pasid : Option Nat} {bus : Nat} {x3 : List Byte} {W : Nat} {s₀ s₁ : State} (h₀ : Fr W s₀ s₁) (hw : 32 &&& W = 32) :
    Fr W s₀ (State.hostPut s₁ pasid bus x3) := by
  refine Fr.lift hw h₀ ?_
  clear h₀ hw
  suffices main : ∀ (x3 : List Byte) (pasid : Option Nat) (bus : Nat) (z : State), Fr 32 s₁ z → Fr 32 s₁ (State.hostPut z pasid bus x3) from main x3 pasid bus s₁ Fr.refl
  intro x3
  induction x3 with
  | nil =>
    intro pasid bus z h
    first | rw [State.hostPut] | unfold State.hostPut
    repeat' first
      | with_reducible assumption
      | (with_reducible refine ih _ _ _ ?_)
      | (refine Fr.hostMem ?_ rfl (fun hs => by first | exact Tab.wf_set _ _ (hs.2.2.1) | exact Tab.wf_filter _ (hs.2.2.1)))
  | cons b bs ih =>
    intro pasid bus z h
    first | rw [State.hostPut] | unfold State.hostPut
    repeat' first
      | with_reducible assumption
      | (with_reducible refine ih _ _ _ ?_)
      | (refine Fr.hostMem ?_ rfl (fun hs => by first | exact Tab.wf_set _ _ (hs.2.2.1) | exact Tab.wf_filter _ (hs.2.2.1)))

theorem State.setMb_frame {m : Nat} {b : Mailbox} {W : Nat} {s₀ s₁ : State} (h₀ : Fr W s₀ s₁) (hw : 2048 &&& W = 2048) :
    Fr W s₀ (State.setMb s₁ m b) := by
  refine Fr.lift hw h₀ ?_
  have h : Fr 2048 s₁ s₁ := Fr.refl
  clear h₀ hw
  first | rw [State.setMb] | unfold State.setMb
  repeat' first
    | with_reducible assumption
    | (refine Fr.mbx ?_ rfl (fun hs => by first | exact Tab.wf_set _ _ (hs.2.2.2.2.2.1) | exact Tab.wf_filter _ (hs.2.2.2.2.2.1)))

theorem State.pmPme_frame {W : Nat} {s₀ s₁ : State} (h₀ : Fr W s₀ s₁) (hw : 2147484672 &&& W = 2147484672) :
    Fr W s₀ (State.pmPme s₁) := by
  refine Fr.lift hw h₀ ?_
  have h : Fr 2147484672 s₁ s₁ := Fr.refl
  clear h₀ hw
  first | rw [State.pmPme] | unfold State.pmPme
  repeat' first
    | with_reducible assumption
    | (with_reducible refine State.cfgWr_frame ?_ rfl)
    | (with_reducible refine State.emit_frame ?_ rfl)
    | (with_reducible refine Fr.ite ?_ ?_)

theorem State.pushEvent_frame {m : Nat} {opcode : Nat} {inst : Nat} {payload : List Byte} {W : Nat} {s₀ s₁ : State} (h₀ : Fr W s₀ s₁) (hw : 2147486754 &&& W = 2147486754) :
    Fr W s₀ (State.pushEvent s₁ m opcode inst payload) := by
  refine Fr.lift hw h₀ ?_
  have h : Fr 2147486754 s₁ s₁ := Fr.refl
  clear h₀ hw
  first | rw [State.pushEvent] | unfold State.pushEvent
  repeat' first
    | with_reducible assumption
    | dsimp only
    | (with_reducible refine State.hostPut_frame ?_ rfl)
    | (with_reducible refine State.setMb_frame ?_ rfl)
    | (with_reducible refine State.pmPme_frame ?_ rfl)
    | (with_reducible refine State.raise_frame ?_ rfl)
    | (with_reducible refine Fr.ite ?_ ?_)
    | split
    | dsimp only

theorem State.flushEvents_frame {W : Nat} {s₀ s₁ : State} (h₀ : Fr W s₀ s₁) (hw : 2147486754 &&& W = 2147486754) :
    Fr W s₀ (State.flushEvents s₁) := by
  refine Fr.lift hw h₀ ?_
  have h : Fr 2147486754 s₁ s₁ := Fr.refl
  clear h₀ hw
  first | rw [State.flushEvents] | unfold State.flushEvents
  repeat' first
    | with_reducible assumption
    | (lift_lets; intro x; refine_lift have hb : ∀ y, y = x → Fr 2147486754 s₁ y := ?_; ?_; all_goals first | (have hx := hb x rfl; clear hb; clear_value x) | (intro y hy; unfold x at hy; rw [hy]; clear hy y))
    | (lift_lets; intro x; clear_value x)
    | (with_reducible refine State.pushEvent_frame ?_ rfl)
    | (with_reducible refine State.setMb_frame ?_ rfl)
    | (with_reducible refine Fr.foldl (fun z a h => ?_) ?_)
    | split

theorem State.event_frame {opcode : Nat} {payload : List Byte} {W : Nat} {s₀ s₁ : State} (h₀ : Fr W s₀ s₁) (hw : 2147486754 &&& W = 2147486754) :
    Fr W s₀ (State.event s₁ opcode payload) := by
  refine Fr.lift hw h₀ ?_
  have h : Fr 2147486754 s₁ s₁ := Fr.refl
  clear h₀ hw
  first | rw [State.event] | unfold State.event
  repeat' first
    | with_reducible assumption
    | (with_reducible refine State.pushEvent_frame ?_ rfl)
    | (with_reducible refine Fr.foldl (fun z a h => ?_) ?_)

theorem State.setInst_frame {i : Nat} {v : Inst} {W : Nat} {s₀ s₁ : State} (h₀ : Fr W s₀ s₁) (hw : 4294967296 &&& W = 4294967296) :
    Fr W s₀ (State.setInst s₁ i v) := by
  refine Fr.lift hw h₀ ?_
  have h : Fr 4294967296 s₁ s₁ := Fr.refl
  clear h₀ hw
  first | rw [State.setInst] | unfold State.setInst
  repeat' first
    | with_reducible assumption
    | (refine Fr.inst ?_ rfl (fun hs => by first | exact Tab.wf_set _ _ (hs.2.2.2.2.2.2) | exact Tab.wf_filter _ (hs.2.2.2.2.2.2)))

theorem State.instEvent_frame {i : Nat} {opcode : Nat} {payload : List Byte} {W : Nat} {s₀ s₁ : State} (h₀ : Fr W s₀ s₁) (hw : 2147486754 &&& W = 2147486754) :
    Fr W s₀ (State.instEvent s₁ i opcode payload) := by
  refine Fr.lift hw h₀ ?_
  have h : Fr 2147486754 s₁ s₁ := Fr.refl
  clear h₀ hw
  first | rw [State.instEvent] | unfold State.instEvent
  repeat' first
    | with_reducible assumption
    | (with_reducible refine State.pushEvent_frame ?_ rfl)
    | (with_reducible refine Fr.ite ?_ ?_)
    | (with_reducible refine Fr.foldl (fun z a h => ?_) ?_)
    | split

theorem State.fltPend_frame {W : Nat} {s₀ s₁ : State} (h₀ : Fr W s₀ s₁) (hw : 2 &&& W = 2) :
    Fr W s₀ (State.fltPend s₁) := by
  refine Fr.lift hw h₀ ?_
  have h : Fr 2 s₁ s₁ := Fr.refl
  clear h₀ hw
  first | rw [State.fltPend] | unfold State.fltPend
  repeat' first
    | with_reducible assumption
    | (with_reducible refine State.sf_frame ?_ rfl)

theorem State.fltLatch_frame {c : Nat} {esc : Bool} {inj : Bool} {r : FaultRep} {W : Nat} {s₀ s₁ : State} (h₀ : Fr W s₀ s₁) (hw : 2147483650 &&& W = 2147483650) :
    Fr W s₀ (State.fltLatch s₁ c esc inj r) := by
  refine Fr.lift hw h₀ ?_
  have h : Fr 2147483650 s₁ s₁ := Fr.refl
  clear h₀ hw
  first | rw [State.fltLatch] | unfold State.fltLatch
  repeat' first
    | with_reducible assumption
    | (intro x; refine_lift have hb : ∀ y, y = x → Fr 2147483650 s₁ y := ?_; ?_; all_goals first | (have hx := hb x rfl; clear hb; clear_value x) | (intro y hy; unfold x at hy; rw [hy]; clear hy y))
    | (lift_lets; intro x; clear_value x)
    | (with_reducible refine State.wr64_frame ?_ rfl)
    | (with_reducible refine State.raise_frame ?_ rfl)
    | (with_reducible refine State.fltPend_frame ?_ rfl)
    | (with_reducible refine State.cnt_frame ?_ rfl)
    | (with_reducible refine Fr.ite ?_ ?_)

theorem State.enterSafe_frame {W : Nat} {s₀ s₁ : State} (h₀ : Fr W s₀ s₁) (hw : 87960934416386 &&& W = 87960934416386) :
    Fr W s₀ (State.enterSafe s₁) := by
  refine Fr.lift hw h₀ ?_
  have h : Fr 87960934416386 s₁ s₁ := Fr.refl
  clear h₀ hw
  first | rw [State.enterSafe] | unfold State.enterSafe
  repeat' first
    | with_reducible assumption
    | (intro x; refine_lift have hb : ∀ y, y = x → Fr 87960934416386 s₁ y := ?_; ?_; all_goals first | (have hx := hb x rfl; clear hb; clear_value x) | (intro y hy; unfold x at hy; rw [hy]; clear hy y))
    | (intro x; clear_value x)
    | (lift_lets; intro x; refine_lift have hb : ∀ y, y = x → Fr 87960934416386 s₁ y := ?_; ?_; all_goals first | (have hx := hb x rfl; clear hb; clear_value x) | (intro y hy; unfold x at hy; rw [hy]; clear hy y))
    | (with_reducible refine State.wr_frame ?_ rfl)
    | (with_reducible refine State.sf_frame ?_ rfl)
    | (with_reducible refine Fr.ite ?_ ?_)
    | (with_reducible refine Fr.foldl (fun z a h => ?_) ?_)
    | (with_reducible refine Fr.hbm ?_ rfl)
    | (with_reducible refine Fr.faultN ?_ rfl)
    | (with_reducible refine Fr.pins ?_ rfl)

theorem State.setCe_frame {src : Nat} {l : CeLimit} {W : Nat} {s₀ s₁ : State} (h₀ : Fr W s₀ s₁) (hw : 8796093022208 &&& W = 8796093022208) :
    Fr W s₀ (State.setCe s₁ src l) := by
  refine Fr.lift hw h₀ ?_
  have h : Fr 8796093022208 s₁ s₁ := Fr.refl
  clear h₀ hw
  first | rw [State.setCe] | unfold State.setCe
  repeat' first
    | with_reducible assumption
    | (lift_lets; intro x; clear_value x)
    | (with_reducible refine Fr.flt ?_ rfl)

theorem State.writeFltEvent_frame {c : Nat} {r : FaultRep} {time : Nat} {W : Nat} {s₀ s₁ : State} (h₀ : Fr W s₀ s₁) (hw : 8798240508962 &&& W = 8798240508962) :
    Fr W s₀ (State.writeFltEvent s₁ c r time) := by
  refine Fr.lift hw h₀ ?_
  have h : Fr 8798240508962 s₁ s₁ := Fr.refl
  clear h₀ hw
  first | rw [State.writeFltEvent] | unfold State.writeFltEvent
  repeat' first
    | with_reducible assumption
    | (with_reducible refine State.setCe_frame ?_ rfl)
    | (with_reducible refine State.event_frame ?_ rfl)

theorem State.fltNotify_frame {c : Nat} {esc : Bool} {r : FaultRep} {W : Nat} {s₀ s₁ : State} (h₀ : Fr W s₀ s₁) (hw : 8798240508962 &&& W = 8798240508962) :
    Fr W s₀ (State.fltNotify s₁ c esc r) := by
  refine Fr.lift hw h₀ ?_
  have h : Fr 8798240508962 s₁ s₁ := Fr.refl
  clear h₀ hw
  first | rw [State.fltNotify] | unfold State.fltNotify
  repeat' first
    | with_reducible assumption
    | dsimp only
    | (with_reducible refine State.setCe_frame ?_ rfl)
    | (with_reducible refine State.writeFltEvent_frame ?_ rfl)
    | (with_reducible refine Fr.ite ?_ ?_)
    | split
    | dsimp only
    | (with_reducible refine Fr.flt ?_ rfl)

theorem State.flushFltEvents_frame {W : Nat} {s₀ s₁ : State} (h₀ : Fr W s₀ s₁) (hw : 8798240508962 &&& W = 8798240508962) :
    Fr W s₀ (State.flushFltEvents s₁) := by
  refine Fr.lift hw h₀ ?_
  have h : Fr 8798240508962 s₁ s₁ := Fr.refl
  clear h₀ hw
  first | rw [State.flushFltEvents] | unfold State.flushFltEvents
  repeat' first
    | with_reducible assumption
    | (intro x; clear_value x)
    | (lift_lets; intro x; clear_value x)
    | (with_reducible refine State.writeFltEvent_frame ?_ rfl)
    | (with_reducible refine Fr.ite ?_ ?_)
    | (with_reducible refine Fr.foldl (fun z a h => ?_) ?_)
    | (with_reducible refine Fr.flt ?_ rfl)

theorem State.report_frame {c : Nat} {inj : Bool} {r : FaultRep} {W : Nat} {s₀ s₁ : State} (h₀ : Fr W s₀ s₁) (hw : 96759174925346 &&& W = 96759174925346) :
    Fr W s₀ (State.report s₁ c inj r) := by
  refine Fr.lift hw h₀ ?_
  have h : Fr 96759174925346 s₁ s₁ := Fr.refl
  clear h₀ hw
  first | rw [State.report] | unfold State.report
  repeat' first
    | with_reducible assumption
    | (with_reducible refine State.enterSafe_frame ?_ rfl)
    | (with_reducible refine State.fltNotify_frame ?_ rfl)
    | (with_reducible refine State.fltLatch_frame ?_ rfl)
    | (with_reducible refine Fr.ite ?_ ?_)

theorem State.faultRep_frame {inj : Bool} {r : FaultRep} {W : Nat} {s₀ s₁ : State} (h₀ : Fr W s₀ s₁) (hw : 96759174925346 &&& W = 96759174925346) :
    Fr W s₀ (State.faultRep s₁ inj r) := by
  refine Fr.lift hw h₀ ?_
  have h : Fr 96759174925346 s₁ s₁ := Fr.refl
  clear h₀ hw
  first | rw [State.faultRep] | unfold State.faultRep
  repeat' first
    | with_reducible assumption
    | (with_reducible refine State.wr64_frame ?_ rfl)
    | (with_reducible refine State.report_frame ?_ rfl)
    | (with_reducible refine State.cnt_frame ?_ rfl)
    | (with_reducible refine Fr.ite ?_ ?_)

theorem State.fault_frame {src : Nat} {unit : Nat} {detail : Nat} {inj : Bool} {W : Nat} {s₀ s₁ : State} (h₀ : Fr W s₀ s₁) (hw : 96759174925346 &&& W = 96759174925346) :
    Fr W s₀ (State.fault s₁ src unit detail inj) := by
  refine Fr.lift hw h₀ ?_
  have h : Fr 96759174925346 s₁ s₁ := Fr.refl
  clear h₀ hw
  first | rw [State.fault] | unfold State.fault
  repeat' first
    | with_reducible assumption
    | (with_reducible refine State.faultRep_frame ?_ rfl)

theorem State.putByte_frame {a : Nat} {b : Byte} {W : Nat} {s₀ s₁ : State} (h₀ : Fr W s₀ s₁) (hw : 36 &&& W = 36) :
    Fr W s₀ (State.putByte s₁ a b) := by
  refine Fr.lift hw h₀ ?_
  have h : Fr 36 s₁ s₁ := Fr.refl
  clear h₀ hw
  first | rw [State.putByte] | unfold State.putByte
  repeat' first
    | with_reducible assumption
    | split
    | (refine Fr.hostMem ?_ rfl (fun hs => by first | exact Tab.wf_set _ _ (hs.2.2.1) | exact Tab.wf_filter _ (hs.2.2.1)))
    | (refine Fr.mem ?_ rfl (fun hs => by first | exact Tab.wf_set _ _ (hs.2.1) | exact Tab.wf_filter _ (hs.2.1)))

theorem State.putBytes_frame {a : Nat} {x2 : List Byte} {W : Nat} {s₀ s₁ : State} (h₀ : Fr W s₀ s₁) (hw : 36 &&& W = 36) :
    Fr W s₀ (State.putBytes s₁ a x2) := by
  refine Fr.lift hw h₀ ?_
  clear h₀ hw
  suffices main : ∀ (x2 : List Byte) (a : Nat) (z : State), Fr 36 s₁ z → Fr 36 s₁ (State.putBytes z a x2) from main x2 a s₁ Fr.refl
  intro x2
  induction x2 with
  | nil =>
    intro a z h
    first | rw [State.putBytes] | unfold State.putBytes
    repeat' first
      | with_reducible assumption
      | (with_reducible refine ih _ _ ?_)
      | (with_reducible refine State.putByte_frame ?_ rfl)
  | cons b bs ih =>
    intro a z h
    first | rw [State.putBytes] | unfold State.putBytes
    repeat' first
      | with_reducible assumption
      | (with_reducible refine ih _ _ ?_)
      | (with_reducible refine State.putByte_frame ?_ rfl)

theorem State.setWordMark_frame {a : Nat} {m : Mark} {W : Nat} {s₀ s₁ : State} (h₀ : Fr W s₀ s₁) (hw : 8 &&& W = 8) :
    Fr W s₀ (State.setWordMark s₁ a m) := by
  refine Fr.lift hw h₀ ?_
  have h : Fr 8 s₁ s₁ := Fr.refl
  clear h₀ hw
  first | rw [State.setWordMark] | unfold State.setWordMark
  repeat' first
    | with_reducible assumption
    | (with_reducible refine Fr.marks ?_ rfl)

theorem State.setLineMark_frame {a : Nat} {m : Mark} {W : Nat} {s₀ s₁ : State} (h₀ : Fr W s₀ s₁) (hw : 16 &&& W = 16) :
    Fr W s₀ (State.setLineMark s₁ a m) := by
  refine Fr.lift hw h₀ ?_
  have h : Fr 16 s₁ s₁ := Fr.refl
  clear h₀ hw
  first | rw [State.setLineMark] | unfold State.setLineMark
  repeat' first
    | with_reducible assumption
    | (with_reducible refine Fr.lineMarks ?_ rfl)

theorem State.dropInjected_frame {checker : Nat} {unit : Nat} {addr : Nat} {W : Nat} {s₀ s₁ : State} (h₀ : Fr W s₀ s₁) (hw : 8796093022208 &&& W = 8796093022208) :
    Fr W s₀ (State.dropInjected s₁ checker unit addr) := by
  refine Fr.lift hw h₀ ?_
  have h : Fr 8796093022208 s₁ s₁ := Fr.refl
  clear h₀ hw
  first | rw [State.dropInjected] | unfold State.dropInjected
  repeat' first
    | with_reducible assumption
    | (lift_lets; intro x; clear_value x)
    | (with_reducible refine Fr.flt ?_ rfl)

theorem State.takeInjection_frame {checker : Nat} {unit : Nat} {addr : Nat} {W : Nat} {s₀ s₁ : State} (h₀ : Fr W s₀ s₁) (hw : 8796093022210 &&& W = 8796093022210) :
    Fr2 W s₀ (State.takeInjection s₁ checker unit addr) := by
  refine Fr2.lift hw h₀ ?_
  have h : Fr 8796093022210 s₁ s₁ := Fr.refl
  clear h₀ hw
  first | rw [State.takeInjection] | unfold State.takeInjection
  repeat' first
    | with_reducible assumption
    | (intro x; refine_lift have hb : ∀ y, y = x → Fr 8796093022210 s₁ y := ?_; ?_; all_goals first | (have hx := hb x rfl; clear hb; clear_value x) | (intro y hy; unfold x at hy; rw [hy]; clear hy y))
    | (intro x; clear_value x)
    | (lift_lets; intro x; clear_value x)
    | (with_reducible refine State.sf_frame ?_ rfl)
    | (with_reducible refine State.dropInjected_frame ?_ rfl)
    | (with_reducible refine Fr.ite ?_ ?_)
    | split
    | (with_reducible refine Fr2.pair ?_)
    | (with_reducible refine Fr.flt ?_ rfl)

theorem State.hbmError_frame {a : Nat} {unc : Bool} {scrub : Bool} {W : Nat} {s₀ s₁ : State} (h₀ : Fr W s₀ s₁) (hw : 96759174925346 &&& W = 96759174925346) :
    Fr W s₀ (State.hbmError s₁ a unc scrub) := by
  refine Fr.lift hw h₀ ?_
  have h : Fr 96759174925346 s₁ s₁ := Fr.refl
  clear h₀ hw
  first | rw [State.hbmError] | unfold State.hbmError
  repeat' first
    | with_reducible assumption
    | (intro x; refine_lift have hb : ∀ y, y = x → Fr 96759174925346 s₁ y := ?_; ?_; all_goals first | (have hx := hb x rfl; clear hb; clear_value x) | (intro y hy; unfold x at hy; rw [hy]; clear hy y))
    | (lift_lets; intro x; refine_lift have hb : ∀ y, y = x → Fr 96759174925346 s₁ y := ?_; ?_; all_goals first | (have hx := hb x rfl; clear hb; clear_value x) | (intro y hy; unfold x at hy; rw [hy]; clear hy y))
    | (with_reducible refine State.fault_frame ?_ rfl)
    | (with_reducible refine State.wr64_frame ?_ rfl)
    | (with_reducible refine State.cnt_frame ?_ rfl)
    | (with_reducible refine Fr.ite ?_ ?_)

theorem State.wakeStack_frame {g : Nat} {W : Nat} {s₀ s₁ : State} (h₀ : Fr W s₀ s₁) (hw : 4194304 &&& W = 4194304) :
    Fr W s₀ (State.wakeStack s₁ g) := by
  refine Fr.lift hw h₀ ?_
  have h : Fr 4194304 s₁ s₁ := Fr.refl
  clear h₀ hw
  first | rw [State.wakeStack] | unfold State.wakeStack
  repeat' first
    | with_reducible assumption
    | (with_reducible refine Fr.ite ?_ ?_)
    | split
    | (with_reducible refine Fr.hbm ?_ rfl)

theorem State.readLine_frame {a : Nat} {W : Nat} {s₀ s₁ : State} (h₀ : Fr W s₀ s₁) (hw : 96759174925362 &&& W = 96759174925362) :
    Fr2 W s₀ (State.readLine s₁ a) := by
  refine Fr2.lift hw h₀ ?_
  have h : Fr 96759174925362 s₁ s₁ := Fr.refl
  clear h₀ hw
  first | rw [State.readLine] | unfold State.readLine
  repeat' first
    | with_reducible assumption
    | (with_reducible refine State.wakeStack_frame ?_ rfl)
    | (with_reducible refine State.hbmError_frame ?_ rfl)
    | (with_reducible refine State.setLineMark_frame ?_ rfl)
    | (with_reducible refine State.dropInjected_frame ?_ rfl)
    | split
    | (with_reducible refine Fr2.pair ?_)

theorem State.readLines_frame {a : Nat} {x2 : Nat} {W : Nat} {s₀ s₁ : State} (h₀ : Fr W s₀ s₁) (hw : 96759174925362 &&& W = 96759174925362) :
    Fr2 W s₀ (State.readLines s₁ a x2) := by
  refine Fr2.lift hw h₀ ?_
  clear h₀ hw
  suffices main : ∀ (x2 : Nat) (a : Nat) (z : State), Fr 96759174925362 s₁ z → Fr2 96759174925362 s₁ (State.readLines z a x2) from main x2 a s₁ Fr.refl
  intro x2
  induction x2 with
  | zero =>
    intro a z h
    first | rw [State.readLines] | unfold State.readLines
    repeat' first
      | with_reducible assumption
      | (with_reducible refine ih _ _ ?_)
      | (with_reducible refine State.readLine_frame ?_ rfl)
      | (with_reducible refine Fr.eq2 (by assumption) ?_)
      | split
      | (with_reducible refine Fr2.pair ?_)
  | succ n ih =>
    intro a z h
    first | rw [State.readLines] | unfold State.readLines
    repeat' first
      | with_reducible assumption
      | (with_reducible refine ih _ _ ?_)
      | (with_reducible refine State.readLine_frame ?_ rfl)
      | (with_reducible refine Fr.eq2 (by assumption) ?_)
      | split
      | (with_reducible refine Fr2.pair ?_)

theorem State.readWord_frame {a : Nat} {W : Nat} {s₀ s₁ : State} (h₀ : Fr W s₀ s₁) (hw : 96759174925354 &&& W = 96759174925354) :
    Fr2 W s₀ (State.readWord s₁ a) := by
  refine Fr2.lift hw h₀ ?_
  have h : Fr 96759174925354 s₁ s₁ := Fr.refl
  clear h₀ hw
  first | rw [State.readWord] | unfold State.readWord
  repeat' first
    | with_reducible assumption
    | (with_reducible refine State.fault_frame ?_ rfl)
    | (with_reducible refine State.setWordMark_frame ?_ rfl)
    | (with_reducible refine State.sf_frame ?_ rfl)
    | (with_reducible refine State.dropInjected_frame ?_ rfl)
    | split
    | (with_reducible refine Fr2.pair ?_)

theorem State.readWords_frame {a : Nat} {x2 : Nat} {W : Nat} {s₀ s₁ : State} (h₀ : Fr W s₀ s₁) (hw : 96759174925354 &&& W = 96759174925354) :
    Fr2 W s₀ (State.readWords s₁ a x2) := by
  refine Fr2.lift hw h₀ ?_
  clear h₀ hw
  suffices main : ∀ (x2 : Nat) (a : Nat) (z : State), Fr 96759174925354 s₁ z → Fr2 96759174925354 s₁ (State.readWords z a x2) from main x2 a s₁ Fr.refl
  intro x2
  induction x2 with
  | zero =>
    intro a z h
    first | rw [State.readWords] | unfold State.readWords
    repeat' first
      | with_reducible assumption
      | (with_reducible refine ih _ _ ?_)
      | (with_reducible refine State.readWord_frame ?_ rfl)
      | (with_reducible refine Fr.eq2 (by assumption) ?_)
      | split
      | (with_reducible refine Fr2.pair ?_)
  | succ n ih =>
    intro a z h
    first | rw [State.readWords] | unfold State.readWords
    repeat' first
      | with_reducible assumption
      | (with_reducible refine ih _ _ ?_)
      | (with_reducible refine State.readWord_frame ?_ rfl)
      | (with_reducible refine Fr.eq2 (by assumption) ?_)
      | split
      | (with_reducible refine Fr2.pair ?_)

theorem State.extMarks_frame {a : Nat} {n : Nat} {poison : Bool} {W : Nat} {s₀ s₁ : State} (h₀ : Fr W s₀ s₁) (hw : 8 &&& W = 8) :
    Fr W s₀ (State.extMarks s₁ a n poison) := by
  refine Fr.lift hw h₀ ?_
  have h : Fr 8 s₁ s₁ := Fr.refl
  clear h₀ hw
  unfold State.extMarks
  repeat' first
    | with_reducible assumption
    | (intro x; refine_lift have hb : ∀ y, y = x → Fr 8 s₁ y := ?_; ?_; all_goals first | (have hx := hb x rfl; clear hb; clear_value x) | (intro y hy; unfold x at hy; rw [hy]; clear hy y))
    | (intro x; clear_value x)
    | (lift_lets; intro x; refine_lift have hb : ∀ y, y = x → Fr 8 s₁ y := ?_; ?_; all_goals first | (have hx := hb x rfl; clear hb; clear_value x) | (intro y hy; unfold x at hy; rw [hy]; clear hy y))
    | (lift_lets; intro x; clear_value x)
    | (with_reducible refine Fr.foldl (fun z a h => ?_) ?_)
    | (with_reducible refine Fr.ite ?_ ?_)
    | (with_reducible exact Fr2.out (by assumption))
    | dsimp only
    | split
    | (with_reducible refine Fr.marks ?_ rfl)

theorem State.load_frame {a : Nat} {n : Nat} {W : Nat} {s₀ s₁ : State} (h₀ : Fr W s₀ s₁) (hw : 96759174925370 &&& W = 96759174925370) :
    Fr22 W s₀ (State.load s₁ a n) := by
  refine Fr22.lift hw h₀ ?_
  have h : Fr 96759174925370 s₁ s₁ := Fr.refl
  clear h₀ hw
  first | rw [State.load] | unfold State.load
  repeat' first
    | with_reducible assumption
    | (with_reducible refine State.readWords_frame ?_ rfl)
    | (with_reducible refine State.readLines_frame ?_ rfl)
    | (with_reducible refine Fr.eq2 (by assumption) ?_)
    | split
    | (with_reducible refine Fr22.pair ?_)

theorem State.writeLine_frame {line : Nat} {lo : Nat} {hi : Nat} {poison : Bool} {W : Nat} {s₀ s₁ : State} (h₀ : Fr W s₀ s₁) (hw : 96759174925362 &&& W = 96759174925362) :
    Fr W s₀ (State.writeLine s₁ line lo hi poison) := by
  refine Fr.lift hw h₀ ?_
  have h : Fr 96759174925362 s₁ s₁ := Fr.refl
  clear h₀ hw
  first | rw [State.writeLine] | unfold State.writeLine
  repeat' first
    | with_reducible assumption
    | (with_reducible refine State.wakeStack_frame ?_ rfl)
    | (lift_lets; intro x; refine_lift have hb : ∀ y, y = x → Fr 96759174925362 s₁ y := ?_; ?_; all_goals first | (have hx := hb x rfl; clear hb; clear_value x) | (intro y hy; unfold x at hy; rw [hy]; clear hy y))
    | (with_reducible refine State.takeInjection_frame ?_ rfl)
    | (with_reducible refine State.readLine_frame ?_ rfl)
    | (with_reducible refine State.setLineMark_frame ?_ rfl)
    | (with_reducible refine Fr2.ite ?_ ?_)
    | (with_reducible refine Fr.eq2 (by assumption) ?_)
    | split
    | (with_reducible refine Fr2.pair ?_)

theorem State.writeLines_frame {a : Nat} {n : Nat} {poison : Bool} {x4 : Nat} {W : Nat} {s₀ s₁ : State} (h₀ : Fr W s₀ s₁) (hw : 96759174925362 &&& W = 96759174925362) :
    Fr W s₀ (State.writeLines s₁ a n poison x4) := by
  refine Fr.lift hw h₀ ?_
  clear h₀ hw
  suffices main : ∀ (x4 : Nat) (a : Nat) (n : Nat) (poison : Bool) (z : State), Fr 96759174925362 s₁ z → Fr 96759174925362 s₁ (State.writeLines z a n poison x4) from main x4 a n poison s₁ Fr.refl
  intro x4
  induction x4 with
  | zero =>
    intro a n poison z h
    first | rw [State.writeLines] | unfold State.writeLines
    repeat' first
      | with_reducible assumption
      | (lift_lets; intro x; clear_value x)
      | (with_reducible refine ih _ _ _ _ ?_)
      | (with_reducible refine State.writeLine_frame ?_ rfl)
      | (with_reducible refine Fr.ite ?_ ?_)
  | succ n ih =>
    intro a n poison z h
    first | rw [State.writeLines] | unfold State.writeLines
    repeat' first
      | with_reducible assumption
      | (lift_lets; intro x; clear_value x)
      | (with_reducible refine ih _ _ _ _ ?_)
      | (with_reducible refine State.writeLine_frame ?_ rfl)
      | (with_reducible refine Fr.ite ?_ ?_)

theorem State.writeWord_frame {w : Nat} {lo : Nat} {hi : Nat} {poison : Bool} {W : Nat} {s₀ s₁ : State} (h₀ : Fr W s₀ s₁) (hw : 96759174925354 &&& W = 96759174925354) :
    Fr W s₀ (State.writeWord s₁ w lo hi poison) := by
  refine Fr.lift hw h₀ ?_
  have h : Fr 96759174925354 s₁ s₁ := Fr.refl
  clear h₀ hw
  first | rw [State.writeWord] | unfold State.writeWord
  repeat' first
    | with_reducible assumption
    | (lift_lets; intro x; refine_lift have hb : ∀ y, y = x → Fr 96759174925354 s₁ y := ?_; ?_; all_goals first | (have hx := hb x rfl; clear hb; clear_value x) | (intro y hy; unfold x at hy; rw [hy]; clear hy y))
    | (with_reducible refine State.setWordMark_frame ?_ rfl)
    | (with_reducible refine State.takeInjection_frame ?_ rfl)
    | (with_reducible refine State.readWord_frame ?_ rfl)
    | (with_reducible refine Fr2.ite ?_ ?_)
    | (with_reducible refine Fr.eq2 (by assumption) ?_)
    | split
    | (with_reducible refine Fr2.pair ?_)

theorem State.writeWords_frame {a : Nat} {n : Nat} {poison : Bool} {x4 : Nat} {W : Nat} {s₀ s₁ : State} (h₀ : Fr W s₀ s₁) (hw : 96759174925354 &&& W = 96759174925354) :
    Fr W s₀ (State.writeWords s₁ a n poison x4) := by
  refine Fr.lift hw h₀ ?_
  clear h₀ hw
  suffices main : ∀ (x4 : Nat) (a : Nat) (n : Nat) (poison : Bool) (z : State), Fr 96759174925354 s₁ z → Fr 96759174925354 s₁ (State.writeWords z a n poison x4) from main x4 a n poison s₁ Fr.refl
  intro x4
  induction x4 with
  | zero =>
    intro a n poison z h
    first | rw [State.writeWords] | unfold State.writeWords
    repeat' first
      | with_reducible assumption
      | (lift_lets; intro x; clear_value x)
      | (with_reducible refine ih _ _ _ _ ?_)
      | (with_reducible refine State.writeWord_frame ?_ rfl)
      | (with_reducible refine Fr.ite ?_ ?_)
  | succ n ih =>
    intro a n poison z h
    first | rw [State.writeWords] | unfold State.writeWords
    repeat' first
      | with_reducible assumption
      | (lift_lets; intro x; clear_value x)
      | (with_reducible refine ih _ _ _ _ ?_)
      | (with_reducible refine State.writeWord_frame ?_ rfl)
      | (with_reducible refine Fr.ite ?_ ?_)

theorem State.abandonPin_frame {W : Nat} {s₀ s₁ : State} (h₀ : Fr W s₀ s₁) (hw : 35184372088834 &&& W = 35184372088834) :
    Fr W s₀ (State.abandonPin s₁) := by
  refine Fr.lift hw h₀ ?_
  have h : Fr 35184372088834 s₁ s₁ := Fr.refl
  clear h₀ hw
  first | rw [State.abandonPin] | unfold State.abandonPin
  repeat' first
    | with_reducible assumption
    | (lift_lets; intro x; clear_value x)
    | (with_reducible refine State.sf_frame ?_ rfl)
    | (with_reducible refine Fr.ckp ?_ rfl)

theorem State.readPage_frame {a : Nat} {W : Nat} {s₀ s₁ : State} (h₀ : Fr W s₀ s₁) (hw : 96759174925362 &&& W = 96759174925362) :
    Fr22 W s₀ (State.readPage s₁ a) := by
  refine Fr22.lift hw h₀ ?_
  have h : Fr 96759174925362 s₁ s₁ := Fr.refl
  clear h₀ hw
  first | rw [State.readPage] | unfold State.readPage
  repeat' first
    | with_reducible assumption
    | (with_reducible refine Fr22.pair ?_)
    | (with_reducible refine Fr22.ite ?_ ?_)
    | (intro x; refine_lift have hb : ∀ y, y = x → Fr 96759174925362 s₁ y := ?_; ?_; all_goals first | (have hx := hb x rfl; clear hb; clear_value x) | (intro y hy; unfold x at hy; rw [hy]; clear hy y))
    | (intro x; clear_value x)
    | (lift_lets; intro x; refine_lift have hb : ∀ y, y = x → Fr 96759174925362 s₁ y := ?_; ?_; all_goals first | (have hx := hb x rfl; clear hb; clear_value x) | (intro y hy; unfold x at hy; rw [hy]; clear hy y))
    | (lift_lets; intro x; clear_value x)
    | (with_reducible refine State.readLines_frame ?_ rfl)
    | (with_reducible refine Fr2.out (State.readLines_frame ?_ rfl))
    | (with_reducible refine Fr.ite ?_ ?_)
    | (with_reducible refine Fr.eq2 (by assumption) ?_)
    | (with_reducible refine Fr.eq22 (by assumption) ?_)
    | (with_reducible refine Fr.eq1 (by assumption) ?_)
    | (with_reducible exact Fr2.out (by assumption))
    | dsimp only
    | split

theorem State.makeRoom_frame {W : Nat} {s₀ s₁ : State} (h₀ : Fr W s₀ s₁) (hw : 35184372088834 &&& W = 35184372088834) :
    Fr W s₀ (State.makeRoom s₁) := by
  refine Fr.lift hw h₀ ?_
  have h : Fr 35184372088834 s₁ s₁ := Fr.refl
  clear h₀ hw
  first | rw [State.makeRoom] | unfold State.makeRoom
  repeat' first
    | with_reducible assumption
    | (with_reducible refine State.abandonPin_frame ?_ rfl)
    | (with_reducible refine Fr.ite ?_ ?_)
    | split

theorem State.takeImage_frame {r : CkpRegion} {page : Nat} {mark : Nat} {W : Nat} {s₀ s₁ : State} (h₀ : Fr W s₀ s₁) (hw : 131943547014194 &&& W = 131943547014194) :
    Fr W s₀ (State.takeImage s₁ r page mark) := by
  refine Fr.lift hw h₀ ?_
  have h : Fr 131943547014194 s₁ s₁ := Fr.refl
  clear h₀ hw
  first | rw [State.takeImage] | unfold State.takeImage
  repeat' first
    | with_reducible assumption
    | (intro x; refine_lift have hb : ∀ y, y = x → Fr 131943547014194 s₁ y := ?_; ?_; all_goals first | (have hx := hb x rfl; clear hb; clear_value x) | (intro y hy; unfold x at hy; rw [hy]; clear hy y))
    | (intro x; clear_value x)
    | (lift_lets; intro x; refine_lift have hb : ∀ y, y = x → Fr 131943547014194 s₁ y := ?_; ?_; all_goals first | (have hx := hb x rfl; clear hb; clear_value x) | (intro y hy; unfold x at hy; rw [hy]; clear hy y))
    | (lift_lets; intro x; clear_value x)
    | (with_reducible refine State.readPage_frame ?_ rfl)
    | (with_reducible refine Fr22.out (State.readPage_frame ?_ rfl))
    | (with_reducible refine Fr.ite ?_ ?_)
    | (with_reducible exact Fr2.out (by assumption))
    | dsimp only
    | split
    | (with_reducible refine Fr.ckp ?_ rfl)

theorem State.touchPage_frame {r : CkpRegion} {page : Nat} {W : Nat} {s₀ s₁ : State} (h₀ : Fr W s₀ s₁) (hw : 35184372088832 &&& W = 35184372088832) :
    Fr W s₀ (State.touchPage s₁ r page) := by
  refine Fr.lift hw h₀ ?_
  have h : Fr 35184372088832 s₁ s₁ := Fr.refl
  clear h₀ hw
  first | rw [State.touchPage] | unfold State.touchPage
  repeat' first
    | with_reducible assumption
    | (with_reducible refine Fr.ite ?_ ?_)
    | split
    | (with_reducible refine Fr.ckp ?_ rfl)

theorem State.capturePage_frame {r : CkpRegion} {page : Nat} {W : Nat} {s₀ s₁ : State} (h₀ : Fr W s₀ s₁) (hw : 131943547014194 &&& W = 131943547014194) :
    FrO W s₀ (State.capturePage s₁ r page) := by
  refine FrO.lift hw h₀ ?_
  have h : Fr 131943547014194 s₁ s₁ := Fr.refl
  clear h₀ hw
  first | rw [State.capturePage] | unfold State.capturePage
  repeat' first
    | with_reducible assumption
    | (exact FrO.none)
    | (with_reducible refine FrO.some ?_)
    | (with_reducible exact FrO.map_none)
    | (with_reducible refine FrO.map_some ?_)
    | (with_reducible refine State.makeRoom_frame ?_ rfl)
    | (with_reducible refine State.takeImage_frame ?_ rfl)
    | (with_reducible refine State.touchPage_frame ?_ rfl)
    | (with_reducible refine Fr.ite ?_ ?_)
    | split

theorem State.capture_frame {a : Nat} {n : Nat} {W : Nat} {s₀ s₁ : State} (h₀ : Fr W s₀ s₁) (hw : 131943547014194 &&& W = 131943547014194) :
    FrO W s₀ (State.capture s₁ a n) := by
  refine FrO.lift hw h₀ ?_
  have h : Fr 131943547014194 s₁ s₁ := Fr.refl
  clear h₀ hw
  first | rw [State.capture] | unfold State.capture
  repeat' first
    | with_reducible assumption
    | (with_reducible refine FrO.some ?_)
    | (with_reducible refine State.capturePage_frame ?_ rfl)
    | (with_reducible refine FrO.foldl (fun z a h => ?_) ?_)
    | (exact FrO.get (by assumption))
    | split

theorem State.noteAppend_frame {a : Nat} {bs : List Byte} {W : Nat} {s₀ s₁ : State} (h₀ : Fr W s₀ s₁) (hw : 35184372088832 &&& W = 35184372088832) :
    Fr W s₀ (State.noteAppend s₁ a bs) := by
  refine Fr.lift hw h₀ ?_
  have h : Fr 35184372088832 s₁ s₁ := Fr.refl
  clear h₀ hw
  first | rw [State.noteAppend] | unfold State.noteAppend
  repeat' first
    | with_reducible assumption
    | (lift_lets; intro x; clear_value x)
    | split
    | (with_reducible refine Fr.ckp ?_ rfl)

theorem State.landHbm_frame {a : Nat} {bs : List Byte} {poison : Bool} {W : Nat} {s₀ s₁ : State} (h₀ : Fr W s₀ s₁) (hw : 131943547014198 &&& W = 131943547014198) :
    Fr W s₀ (State.landHbm s₁ a bs poison) := by
  refine Fr.lift hw h₀ ?_
  have h : Fr 131943547014198 s₁ s₁ := Fr.refl
  clear h₀ hw
  first | rw [State.landHbm] | unfold State.landHbm
  repeat' first
    | with_reducible assumption
    | (with_reducible refine State.noteAppend_frame ?_ rfl)
    | (with_reducible refine State.putBytes_frame ?_ rfl)
    | (with_reducible refine State.writeLines_frame ?_ rfl)

theorem State.writeHbm_frame {a : Nat} {bs : List Byte} {poison : Bool} {W : Nat} {s₀ s₁ : State} (h₀ : Fr W s₀ s₁) (hw : 131943547014198 &&& W = 131943547014198) :
    Fr W s₀ (State.writeHbm s₁ a bs poison) := by
  refine Fr.lift hw h₀ ?_
  have h : Fr 131943547014198 s₁ s₁ := Fr.refl
  clear h₀ hw
  first | rw [State.writeHbm] | unfold State.writeHbm
  repeat' first
    | with_reducible assumption
    | (intro x; clear_value x)
    | (lift_lets; intro x; refine_lift have hb : ∀ y, y = x → Fr 131943547014198 s₁ y := ?_; ?_; all_goals first | (have hx := hb x rfl; clear hb; clear_value x) | (intro y hy; unfold x at hy; rw [hy]; clear hy y))
    | (with_reducible refine State.landHbm_frame ?_ rfl)
    | (with_reducible refine State.capture_frame ?_ rfl)
    | (with_reducible refine State.cnt_frame ?_ rfl)
    | (with_reducible refine Fr.ite ?_ ?_)
    | (with_reducible refine Fr.eqo (by assumption) ?_)
    | split
    | (with_reducible refine Fr.ckp ?_ rfl)

theorem State.store_frame {a : Nat} {bs : List Byte} {poison : Bool} {W : Nat} {s₀ s₁ : State} (h₀ : Fr W s₀ s₁) (hw : 131943547014206 &&& W = 131943547014206) :
    Fr2 W s₀ (State.store s₁ a bs poison) := by
  refine Fr2.lift hw h₀ ?_
  have h : Fr 131943547014206 s₁ s₁ := Fr.refl
  clear h₀ hw
  first | rw [State.store] | unfold State.store
  repeat' first
    | with_reducible assumption
    | (with_reducible refine State.extMarks_frame ?_ rfl)
    | (with_reducible refine State.writeWords_frame ?_ rfl)
    | (with_reducible refine State.writeHbm_frame ?_ rfl)
    | (with_reducible refine State.putBytes_frame ?_ rfl)
    | split
    | (with_reducible refine Fr2.pair ?_)

theorem State.poke_frame {a : Nat} {bs : List Byte} {W : Nat} {s₀ s₁ : State} (h₀ : Fr W s₀ s₁) (hw : 131943547014206 &&& W = 131943547014206) :
    Fr W s₀ (State.poke s₁ a bs) := by
  refine Fr.lift hw h₀ ?_
  have h : Fr 131943547014206 s₁ s₁ := Fr.refl
  clear h₀ hw
  first | rw [State.poke] | unfold State.poke
  repeat' first
    | with_reducible assumption
    | (with_reducible refine Fr2.out (State.store_frame ?_ rfl))

theorem State.extendMR_frame {i : Nat} {tag : Nat} {d : List Byte} {W : Nat} {s₀ s₁ : State} (h₀ : Fr W s₀ s₁) (hw : 1073741824 &&& W = 1073741824) :
    Fr W s₀ (State.extendMR s₁ i tag d) := by
  refine Fr.lift hw h₀ ?_
  have h : Fr 1073741824 s₁ s₁ := Fr.refl
  clear h₀ hw
  first | rw [State.extendMR] | unfold State.extendMR
  repeat' first
    | with_reducible assumption
    | (lift_lets; intro x; clear_value x)
    | split
    | (with_reducible refine Fr.sec ?_ rfl)

end Sys2Proof.Machine
end

