-- ==== Sys2Proof/Laws/FrameFlags.lean ====
section
/-! SUPPORT. Frames of the functions of Machine/Flags.lean: which parts of the state each may change. -/

namespace Sys2Proof.Machine

theorem State.putFlag_frame {p : Nat} {v : Bool} {o : Bool} {W : Nat} {s₀ s₁ : State} (h₀ : Fr W s₀ s₁) (hw : 262144 &&& W = 262144) :
    Fr W s₀ (State.putFlag s₁ p v o) := by
  refine Fr.lift hw h₀ ?_
  have h : Fr 262144 s₁ s₁ := Fr.refl
  clear h₀ hw
  first | rw [State.putFlag] | unfold State.putFlag
  repeat' first
    | with_reducible assumption
    | (lift_lets; intro x; clear_value x)
    | (with_reducible refine Fr.flags ?_ rfl)

theorem State.oversetEvent_frame {p : Nat} {W : Nat} {s₀ s₁ : State} (h₀ : Fr W s₀ s₁) (hw : 2 &&& W = 2) :
    Fr W s₀ (State.oversetEvent s₁ p) := by
  refine Fr.lift hw h₀ ?_
  have h : Fr 2 s₁ s₁ := Fr.refl
  clear h₀ hw
  first | rw [State.oversetEvent] | unfold State.oversetEvent
  repeat' first
    | with_reducible assumption
    | (with_reducible refine State.wr_frame ?_ rfl)
    | (with_reducible refine State.cnt_frame ?_ rfl)
    | (with_reducible refine Fr.ite ?_ ?_)

theorem State.groupLost_frame {g : Nat} {W : Nat} {s₀ s₁ : State} (h₀ : Fr W s₀ s₁) (hw : 262146 &&& W = 262146) :
    Fr W s₀ (State.groupLost s₁ g) := by
  refine Fr.lift hw h₀ ?_
  have h : Fr 262146 s₁ s₁ := Fr.refl
  clear h₀ hw
  first | rw [State.groupLost] | unfold State.groupLost
  repeat' first
    | with_reducible assumption
    | (intro x; refine_lift have hb : ∀ y, y = x → Fr 262146 s₁ y := ?_; ?_; all_goals first | (have hx := hb x rfl; clear hb; clear_value x) | (intro y hy; unfold x at hy; rw [hy]; clear hy y))
    | (intro x; clear_value x)
    | (lift_lets; intro x; refine_lift have hb : ∀ y, y = x → Fr 262146 s₁ y := ?_; ?_; all_goals first | (have hx := hb x rfl; clear hb; clear_value x) | (intro y hy; unfold x at hy; rw [hy]; clear hy y))
    | (lift_lets; intro x; clear_value x)
    | (with_reducible refine State.oversetEvent_frame ?_ rfl)
    | (with_reducible refine Fr.foldl (fun z a h => ?_) ?_)
    | (with_reducible refine Fr.ite ?_ ?_)
    | (with_reducible exact Fr2.out (by assumption))
    | dsimp only
    | split
    | (with_reducible refine Fr.flags ?_ rfl)

theorem State.flagRead_frame {p : Nat} {W : Nat} {s₀ s₁ : State} (h₀ : Fr W s₀ s₁) (hw : 96759175187490 &&& W = 96759175187490) :
    Fr W s₀ (State.flagRead s₁ p) := by
  refine Fr.lift hw h₀ ?_
  have h : Fr 96759175187490 s₁ s₁ := Fr.refl
  clear h₀ hw
  first | rw [State.flagRead] | unfold State.flagRead
  repeat' first
    | with_reducible assumption
    | (with_reducible refine State.groupLost_frame ?_ rfl)
    | dsimp only
    | (with_reducible refine State.fault_frame ?_ rfl)
    | (with_reducible refine State.dropInjected_frame ?_ rfl)
    | split
    | dsimp only
    | (with_reducible refine Fr.flags ?_ rfl)

theorem State.flagWritten_frame {p : Nat} {W : Nat} {s₀ s₁ : State} (h₀ : Fr W s₀ s₁) (hw : 8796093284354 &&& W = 8796093284354) :
    Fr W s₀ (State.flagWritten s₁ p) := by
  refine Fr.lift hw h₀ ?_
  have h : Fr 8796093284354 s₁ s₁ := Fr.refl
  clear h₀ hw
  first | rw [State.flagWritten] | unfold State.flagWritten
  repeat' first
    | with_reducible assumption
    | (lift_lets; intro x; clear_value x)
    | (with_reducible refine State.takeInjection_frame ?_ rfl)
    | (with_reducible refine Fr.eq2 (by assumption) ?_)
    | split
    | (with_reducible refine Fr.flags ?_ rfl)

theorem State.flagRaise_frame {p : Nat} {W : Nat} {s₀ s₁ : State} (h₀ : Fr W s₀ s₁) (hw : 96759175187490 &&& W = 96759175187490) :
    Fr W s₀ (State.flagRaise s₁ p) := by
  refine Fr.lift hw h₀ ?_
  have h : Fr 96759175187490 s₁ s₁ := Fr.refl
  clear h₀ hw
  first | rw [State.flagRaise] | unfold State.flagRaise
  repeat' first
    | with_reducible assumption
    | (intro x; refine_lift have hb : ∀ y, y = x → Fr 96759175187490 s₁ y := ?_; ?_; all_goals first | (have hx := hb x rfl; clear hb; clear_value x) | (intro y hy; unfold x at hy; rw [hy]; clear hy y))
    | (intro x; clear_value x)
    | (lift_lets; intro x; refine_lift have hb : ∀ y, y = x → Fr 96759175187490 s₁ y := ?_; ?_; all_goals first | (have hx := hb x rfl; clear hb; clear_value x) | (intro y hy; unfold x at hy; rw [hy]; clear hy y))
    | (lift_lets; intro x; clear_value x)
    | (with_reducible refine State.flagRead_frame ?_ rfl)
    | (with_reducible refine State.oversetEvent_frame ?_ rfl)
    | (with_reducible refine State.putFlag_frame ?_ rfl)
    | (with_reducible refine State.flagWritten_frame ?_ rfl)
    | (with_reducible refine Fr.ite ?_ ?_)
    | (with_reducible exact Fr2.out (by assumption))
    | dsimp only
    | split

theorem State.flagClear_frame {p : Nat} {W : Nat} {s₀ s₁ : State} (h₀ : Fr W s₀ s₁) (hw : 96759175187490 &&& W = 96759175187490) :
    Fr W s₀ (State.flagClear s₁ p) := by
  refine Fr.lift hw h₀ ?_
  have h : Fr 96759175187490 s₁ s₁ := Fr.refl
  clear h₀ hw
  first | rw [State.flagClear] | unfold State.flagClear
  repeat' first
    | with_reducible assumption
    | (with_reducible refine State.flagRead_frame ?_ rfl)
    | (with_reducible refine State.flagWritten_frame ?_ rfl)
    | (with_reducible refine State.putFlag_frame ?_ rfl)

theorem State.flagClearOver_frame {p : Nat} {W : Nat} {s₀ s₁ : State} (h₀ : Fr W s₀ s₁) (hw : 96759175187490 &&& W = 96759175187490) :
    Fr W s₀ (State.flagClearOver s₁ p) := by
  refine Fr.lift hw h₀ ?_
  have h : Fr 96759175187490 s₁ s₁ := Fr.refl
  clear h₀ hw
  first | rw [State.flagClearOver] | unfold State.flagClearOver
  repeat' first
    | with_reducible assumption
    | (with_reducible refine State.flagRead_frame ?_ rfl)
    | (with_reducible refine State.flagWritten_frame ?_ rfl)
    | (with_reducible refine State.putFlag_frame ?_ rfl)

theorem State.flagTake_frame {p : Nat} {consume : Bool} {W : Nat} {s₀ s₁ : State} (h₀ : Fr W s₀ s₁) (hw : 96759175187490 &&& W = 96759175187490) :
    Fr2 W s₀ (State.flagTake s₁ p consume) := by
  refine Fr2.lift hw h₀ ?_
  have h : Fr 96759175187490 s₁ s₁ := Fr.refl
  clear h₀ hw
  first | rw [State.flagTake] | unfold State.flagTake
  repeat' first
    | with_reducible assumption
    | (with_reducible refine State.flagRead_frame ?_ rfl)
    | (with_reducible refine State.flagWritten_frame ?_ rfl)
    | (with_reducible refine State.putFlag_frame ?_ rfl)
    | (with_reducible refine Fr2.ite ?_ ?_)
    | split
    | (with_reducible refine Fr2.pair ?_)

theorem State.dropWaiter_frame {who : Nat} {p : Nat} {W : Nat} {s₀ s₁ : State} (h₀ : Fr W s₀ s₁) (hw : 262144 &&& W = 262144) :
    Fr W s₀ (State.dropWaiter s₁ who p) := by
  refine Fr.lift hw h₀ ?_
  have h : Fr 262144 s₁ s₁ := Fr.refl
  clear h₀ hw
  first | rw [State.dropWaiter] | unfold State.dropWaiter
  repeat' first
    | with_reducible assumption
    | (with_reducible refine Fr.ite ?_ ?_)
    | split
    | (with_reducible refine Fr.flags ?_ rfl)

theorem State.holdWaiter_frame {who : Nat} {p : Nat} {consume : Bool} {W : Nat} {s₀ s₁ : State} (h₀ : Fr W s₀ s₁) (hw : 262144 &&& W = 262144) :
    Fr W s₀ (State.holdWaiter s₁ who p consume) := by
  refine Fr.lift hw h₀ ?_
  have h : Fr 262144 s₁ s₁ := Fr.refl
  clear h₀ hw
  first | rw [State.holdWaiter] | unfold State.holdWaiter
  repeat' first
    | with_reducible assumption
    | (intro x; refine_lift have hb : ∀ y, y = x → Fr 262144 s₁ y := ?_; ?_; all_goals first | (have hx := hb x rfl; clear hb; clear_value x) | (intro y hy; unfold x at hy; rw [hy]; clear hy y))
    | (intro x; clear_value x)
    | (lift_lets; intro x; refine_lift have hb : ∀ y, y = x → Fr 262144 s₁ y := ?_; ?_; all_goals first | (have hx := hb x rfl; clear hb; clear_value x) | (intro y hy; unfold x at hy; rw [hy]; clear hy y))
    | (lift_lets; intro x; clear_value x)
    | (with_reducible refine State.dropWaiter_frame ?_ rfl)
    | (with_reducible refine Fr.ite ?_ ?_)
    | (with_reducible exact Fr2.out (by assumption))
    | dsimp only
    | split
    | (with_reducible refine Fr.flags ?_ rfl)

theorem State.passWaiter_frame {who : Nat} {p : Nat} {W : Nat} {s₀ s₁ : State} (h₀ : Fr W s₀ s₁) (hw : 262144 &&& W = 262144) :
    Fr W s₀ (State.passWaiter s₁ who p) := by
  refine Fr.lift hw h₀ ?_
  have h : Fr 262144 s₁ s₁ := Fr.refl
  clear h₀ hw
  first | rw [State.passWaiter] | unfold State.passWaiter
  repeat' first
    | with_reducible assumption
    | (intro x; refine_lift have hb : ∀ y, y = x → Fr 262144 s₁ y := ?_; ?_; all_goals first | (have hx := hb x rfl; clear hb; clear_value x) | (intro y hy; unfold x at hy; rw [hy]; clear hy y))
    | (intro x; clear_value x)
    | (lift_lets; intro x; refine_lift have hb : ∀ y, y = x → Fr 262144 s₁ y := ?_; ?_; all_goals first | (have hx := hb x rfl; clear hb; clear_value x) | (intro y hy; unfold x at hy; rw [hy]; clear hy y))
    | (lift_lets; intro x; clear_value x)
    | (with_reducible refine State.dropWaiter_frame ?_ rfl)
    | (with_reducible refine Fr.ite ?_ ?_)
    | (with_reducible exact Fr2.out (by assumption))
    | dsimp only
    | split
    | (with_reducible refine Fr.flags ?_ rfl)

theorem State.serveWaiters_frame {p : Nat} {W : Nat} {s₀ s₁ : State} (h₀ : Fr W s₀ s₁) (hw : 8796093284802 &&& W = 8796093284802) :
    Fr W s₀ (State.serveWaiters s₁ p) := by
  refine Fr.lift hw h₀ ?_
  have h : Fr 8796093284802 s₁ s₁ := Fr.refl
  clear h₀ hw
  first | rw [State.serveWaiters] | unfold State.serveWaiters
  repeat' first
    | with_reducible assumption
    | (intro x; refine_lift have hb : ∀ y, y = x → Fr 8796093284802 s₁ y := ?_; ?_; all_goals first | (have hx := hb x rfl; clear hb; clear_value x) | (intro y hy; unfold x at hy; rw [hy]; clear hy y))
    | (intro x; clear_value x)
    | (lift_lets; intro x; refine_lift have hb : ∀ y, y = x → Fr 8796093284802 s₁ y := ?_; ?_; all_goals first | (have hx := hb x rfl; clear hb; clear_value x) | (intro y hy; unfold x at hy; rw [hy]; clear hy y))
    | (lift_lets; intro x; clear_value x)
    | (with_reducible refine State.passWaiter_frame ?_ rfl)
    | (with_reducible refine State.drawNow_frame ?_ rfl)
    | (with_reducible refine Fr2.out (State.drawNow_frame ?_ rfl))
    | (with_reducible refine State.putFlag_frame ?_ rfl)
    | (with_reducible refine State.flagWritten_frame ?_ rfl)
    | (with_reducible refine Fr.foldl (fun z a h => ?_) ?_)
    | (with_reducible refine Fr.ite ?_ ?_)
    | (with_reducible refine Fr.eq2 (by assumption) ?_)
    | (with_reducible refine Fr.eq22 (by assumption) ?_)
    | (with_reducible refine Fr.eq1 (by assumption) ?_)
    | (with_reducible refine Fr.eqo (by assumption) ?_)
    | (with_reducible refine Fr.eqo2 (by assumption) ?_)
    | (with_reducible refine Fr.eqo22 (by assumption) ?_)
    | (with_reducible exact Fr2.out (by assumption))
    | dsimp only
    | split

theorem State.setXlatCache_frame {k : Nat} {l : List FlagXlat} {W : Nat} {s₀ s₁ : State} (h₀ : Fr W s₀ s₁) (hw : 262144 &&& W = 262144) :
    Fr W s₀ (State.setXlatCache s₁ k l) := by
  refine Fr.lift hw h₀ ?_
  have h : Fr 262144 s₁ s₁ := Fr.refl
  clear h₀ hw
  first | rw [State.setXlatCache] | unfold State.setXlatCache
  repeat' first
    | with_reducible assumption
    | (lift_lets; intro x; clear_value x)
    | (with_reducible refine Fr.flags ?_ rfl)

theorem State.fetchXlat_frame {ctx : Nat} {vgroup : Nat} {W : Nat} {s₀ s₁ : State} (h₀ : Fr W s₀ s₁) (hw : 96759174925370 &&& W = 96759174925370) :
    Fr2 W s₀ (State.fetchXlat s₁ ctx vgroup) := by
  refine Fr2.lift hw h₀ ?_
  have h : Fr 96759174925370 s₁ s₁ := Fr.refl
  clear h₀ hw
  first | rw [State.fetchXlat] | unfold State.fetchXlat
  repeat' first
    | with_reducible assumption
    | (intro x; clear_value x)
    | (lift_lets; intro x; clear_value x)
    | (with_reducible refine State.load_frame ?_ rfl)
    | (with_reducible refine Fr2.onLoad ?_ (fun bs z h => ?_) (fun e z h => ?_))
    | (with_reducible refine Fr2.ite ?_ ?_)
    | (with_reducible refine Fr2.pair ?_)

theorem State.lookupXlat_frame {k : Nat} {ctx : Nat} {vgroup : Nat} {W : Nat} {s₀ s₁ : State} (h₀ : Fr W s₀ s₁) (hw : 96759175187514 &&& W = 96759175187514) :
    Fr2 W s₀ (State.lookupXlat s₁ k ctx vgroup) := by
  refine Fr2.lift hw h₀ ?_
  have h : Fr 96759175187514 s₁ s₁ := Fr.refl
  clear h₀ hw
  first | rw [State.lookupXlat] | unfold State.lookupXlat
  repeat' first
    | with_reducible assumption
    | (lift_lets; intro x; refine_lift have hb : ∀ y, y = x → Fr2 96759175187514 s₁ y := ?_; ?_; all_goals first | (have hx := hb x rfl; clear hb; clear_value x) | (intro y hy; unfold x at hy; rw [hy]; clear hy y))
    | (with_reducible refine State.setXlatCache_frame ?_ rfl)
    | (with_reducible refine State.fetchXlat_frame ?_ rfl)
    | (with_reducible refine Fr2.onSome ?_ (fun a => ?_))
    | (with_reducible exact Fr2.out (by assumption))
    | split
    | (with_reducible refine Fr2.pair ?_)

theorem State.translate_frame {k : Nat} {ctx : Nat} {vflag : Nat} {need : FlagNeed} {W : Nat} {s₀ s₁ : State} (h₀ : Fr W s₀ s₁) (hw : 96759175187514 &&& W = 96759175187514) :
    Fr2 W s₀ (State.translate s₁ k ctx vflag need) := by
  refine Fr2.lift hw h₀ ?_
  have h : Fr 96759175187514 s₁ s₁ := Fr.refl
  clear h₀ hw
  first | rw [State.translate] | unfold State.translate
  repeat' first
    | with_reducible assumption
    | (with_reducible refine State.lookupXlat_frame ?_ rfl)
    | (with_reducible refine Fr2.ite ?_ ?_)
    | (with_reducible refine Fr.eq2 (by assumption) ?_)
    | split
    | (with_reducible refine Fr2.pair ?_)

end Sys2Proof.Machine
end

