-- ==== Sys2Proof/Laws/FrameRings.lean ====
section
/-! SUPPORT. Frames of the functions of Machine/Rings.lean: which parts of the state each may change. -/

namespace Sys2Proof.Machine

theorem State.setRing_frame {b : Nat} {r : Ring} {W : Nat} {s₀ s₁ : State} (h₀ : Fr W s₀ s₁) (hw : 65536 &&& W = 65536) :
    Fr W s₀ (State.setRing s₁ b r) := by
  refine Fr.lift hw h₀ ?_
  have h : Fr 65536 s₁ s₁ := Fr.refl
  clear h₀ hw
  first | rw [State.setRing] | unfold State.setRing
  repeat' first
    | with_reducible assumption
    | (refine Fr.rings ?_ rfl (fun hs => by first | exact Tab.wf_set _ _ (hs.2.2.2.2.1) | exact Tab.wf_filter _ (hs.2.2.2.2.1)))

theorem State.refusal_frame {err : Nat} {code : Nat} {W : Nat} {s₀ s₁ : State} (h₀ : Fr W s₀ s₁) (hw : 2 &&& W = 2) :
    Fr W s₀ (State.refusal s₁ err code) := by
  refine Fr.lift hw h₀ ?_
  have h : Fr 2 s₁ s₁ := Fr.refl
  clear h₀ hw
  first | rw [State.refusal] | unfold State.refusal
  repeat' first
    | with_reducible assumption
    | (with_reducible refine State.sf_frame ?_ rfl)

theorem State.writeCmdBase_frame {b : Nat} {hi : Bool} {v : W32} {W : Nat} {s₀ s₁ : State} (h₀ : Fr W s₀ s₁) (hw : 65538 &&& W = 65538) :
    Fr W s₀ (State.writeCmdBase s₁ b hi v) := by
  refine Fr.lift hw h₀ ?_
  have h : Fr 65538 s₁ s₁ := Fr.refl
  clear h₀ hw
  first | rw [State.writeCmdBase] | unfold State.writeCmdBase
  repeat' first
    | with_reducible assumption
    | (intro x; refine_lift have hb : ∀ y, y = x → Fr 65538 s₁ y := ?_; ?_; all_goals first | (have hx := hb x rfl; clear hb; clear_value x) | (intro y hy; unfold x at hy; rw [hy]; clear hy y))
    | (intro x; clear_value x)
    | (lift_lets; intro x; clear_value x)
    | (with_reducible refine State.wr_frame ?_ rfl)
    | (with_reducible refine State.sf_frame ?_ rfl)
    | (with_reducible refine State.setRing_frame ?_ rfl)
    | (with_reducible refine Fr.ite ?_ ?_)

theorem State.writeCmplBase_frame {b : Nat} {hi : Bool} {v : W32} {W : Nat} {s₀ s₁ : State} (h₀ : Fr W s₀ s₁) (hw : 2 &&& W = 2) :
    Fr W s₀ (State.writeCmplBase s₁ b hi v) := by
  refine Fr.lift hw h₀ ?_
  have h : Fr 2 s₁ s₁ := Fr.refl
  clear h₀ hw
  first | rw [State.writeCmplBase] | unfold State.writeCmplBase
  repeat' first
    | with_reducible assumption
    | (intro x; refine_lift have hb : ∀ y, y = x → Fr 2 s₁ y := ?_; ?_; all_goals first | (have hx := hb x rfl; clear hb; clear_value x) | (intro y hy; unfold x at hy; rw [hy]; clear hy y))
    | (lift_lets; intro x; clear_value x)
    | (with_reducible refine State.wr_frame ?_ rfl)
    | (with_reducible refine State.sf_frame ?_ rfl)
    | (with_reducible refine Fr.ite ?_ ?_)

theorem State.writeRingCtl_frame {b : Nat} {err : Nat} {hasFctx : Bool} {extra : Option Nat} {v : W32} {W : Nat} {s₀ s₁ : State} (h₀ : Fr W s₀ s₁) (hw : 2 &&& W = 2) :
    Fr W s₀ (State.writeRingCtl s₁ b err hasFctx extra v) := by
  refine Fr.lift hw h₀ ?_
  have h : Fr 2 s₁ s₁ := Fr.refl
  clear h₀ hw
  first | rw [State.writeRingCtl] | unfold State.writeRingCtl
  repeat' first
    | with_reducible assumption
    | (with_reducible refine State.refusal_frame ?_ rfl)
    | (with_reducible refine State.sf_frame ?_ rfl)
    | (with_reducible refine Fr.ite ?_ ?_)
    | split

theorem State.writeDoorbell_frame {b : Nat} {err : Nat} {tail : Nat} {W : Nat} {s₀ s₁ : State} (h₀ : Fr W s₀ s₁) (hw : 65538 &&& W = 65538) :
    Fr W s₀ (State.writeDoorbell s₁ b err tail) := by
  refine Fr.lift hw h₀ ?_
  have h : Fr 65538 s₁ s₁ := Fr.refl
  clear h₀ hw
  first | rw [State.writeDoorbell] | unfold State.writeDoorbell
  repeat' first
    | with_reducible assumption
    | (lift_lets; intro x; clear_value x)
    | (with_reducible refine State.sf_frame ?_ rfl)
    | (with_reducible refine State.setRing_frame ?_ rfl)
    | (with_reducible refine Fr.ite ?_ ?_)

theorem State.writeCmplHead_frame {b : Nat} {v : W32} {W : Nat} {s₀ s₁ : State} (h₀ : Fr W s₀ s₁) (hw : 2 &&& W = 2) :
    Fr W s₀ (State.writeCmplHead s₁ b v) := by
  refine Fr.lift hw h₀ ?_
  have h : Fr 2 s₁ s₁ := Fr.refl
  clear h₀ hw
  first | rw [State.writeCmplHead] | unfold State.writeCmplHead
  repeat' first
    | with_reducible assumption
    | (with_reducible refine State.sf_frame ?_ rfl)

theorem State.writeCmplRecord_frame {b : Nat} {bytes14 : List Byte} {W : Nat} {s₀ s₁ : State} (h₀ : Fr W s₀ s₁) (hw : 131943547014206 &&& W = 131943547014206) :
    Fr W s₀ (State.writeCmplRecord s₁ b bytes14) := by
  refine Fr.lift hw h₀ ?_
  have h : Fr 131943547014206 s₁ s₁ := Fr.refl
  clear h₀ hw
  first | rw [State.writeCmplRecord] | unfold State.writeCmplRecord
  repeat' first
    | with_reducible assumption
    | (with_reducible refine State.poke_frame ?_ rfl)
    | (with_reducible refine State.sf_frame ?_ rfl)

theorem State.ringRecord_frame {b : Nat} {tag : Nat} {status : Nat} {count : Nat} {ix : Nat} {W : Nat} {s₀ s₁ : State} (h₀ : Fr W s₀ s₁) (hw : 131943547014462 &&& W = 131943547014462) :
    Fr W s₀ (State.ringRecord s₁ b tag status count ix) := by
  refine Fr.lift hw h₀ ?_
  have h : Fr 131943547014462 s₁ s₁ := Fr.refl
  clear h₀ hw
  first | rw [State.ringRecord] | unfold State.ringRecord
  repeat' first
    | with_reducible assumption
    | (with_reducible refine State.writeCmplRecord_frame ?_ rfl)
    | (with_reducible refine State.tick_frame ?_ rfl)

theorem State.retire_frame {b : Nat} {ix : Nat} {epoch : Nat} {W : Nat} {s₀ s₁ : State} (h₀ : Fr W s₀ s₁) (hw : 65538 &&& W = 65538) :
    Fr W s₀ (State.retire s₁ b ix epoch) := by
  refine Fr.lift hw h₀ ?_
  have h : Fr 65538 s₁ s₁ := Fr.refl
  clear h₀ hw
  first | rw [State.retire] | unfold State.retire
  repeat' first
    | with_reducible assumption
    | (with_reducible refine State.sf_frame ?_ rfl)
    | (with_reducible refine State.setRing_frame ?_ rfl)
    | (with_reducible refine Fr.ite ?_ ?_)

theorem State.fetchEntry_frame {b : Nat} {ix : Nat} {W : Nat} {s₀ s₁ : State} (h₀ : Fr W s₀ s₁) (hw : 96759174925370 &&& W = 96759174925370) :
    Fr2 W s₀ (State.fetchEntry s₁ b ix) := by
  refine Fr2.lift hw h₀ ?_
  have h : Fr 96759174925370 s₁ s₁ := Fr.refl
  clear h₀ hw
  first | rw [State.fetchEntry] | unfold State.fetchEntry
  repeat' first
    | with_reducible assumption
    | (with_reducible refine State.load_frame ?_ rfl)
    | (with_reducible refine Fr2.onLoad ?_ (fun bs z h => ?_) (fun e z h => ?_))
    | (with_reducible refine Fr2.pair ?_)

end Sys2Proof.Machine
end

