-- ==== Sys2Proof/Laws/FrameClusters.lean ====
section
/-! SUPPORT. Frames of the functions of Machine/Clusters.lean: which parts of the state each may change. -/

namespace Sys2Proof.Machine

theorem State.setClu_frame {c : Nat} {v : Clu} {W : Nat} {s₀ s₁ : State} (h₀ : Fr W s₀ s₁) (hw : 131072 &&& W = 131072) :
    Fr W s₀ (State.setClu s₁ c v) := by
  refine Fr.lift hw h₀ ?_
  have h : Fr 131072 s₁ s₁ := Fr.refl
  clear h₀ hw
  first | rw [State.setClu] | unfold State.setClu
  repeat' first
    | with_reducible assumption
    | (with_reducible refine Fr.clu ?_ rfl)

theorem State.keepXlat_frame {c : Nat} {ix : Nat} {epoch : Nat} {p : Nat} {W : Nat} {s₀ s₁ : State} (h₀ : Fr W s₀ s₁) (hw : 262144 &&& W = 262144) :
    Fr W s₀ (State.keepXlat s₁ c ix epoch p) := by
  refine Fr.lift hw h₀ ?_
  have h : Fr 262144 s₁ s₁ := Fr.refl
  clear h₀ hw
  first | rw [State.keepXlat] | unfold State.keepXlat
  repeat' first
    | with_reducible assumption
    | (with_reducible refine Fr.ite ?_ ?_)
    | split
    | (with_reducible refine Fr.flags ?_ rfl)

theorem State.dropXlat_frame {c : Nat} {W : Nat} {s₀ s₁ : State} (h₀ : Fr W s₀ s₁) (hw : 262144 &&& W = 262144) :
    Fr W s₀ (State.dropXlat s₁ c) := by
  refine Fr.lift hw h₀ ?_
  have h : Fr 262144 s₁ s₁ := Fr.refl
  clear h₀ hw
  first | rw [State.dropXlat] | unfold State.dropXlat
  repeat' first
    | with_reducible assumption
    | (with_reducible refine Fr.ite ?_ ?_)
    | split
    | (with_reducible refine Fr.flags ?_ rfl)

theorem State.cluRefresh_frame {c : Nat} {W : Nat} {s₀ s₁ : State} (h₀ : Fr W s₀ s₁) (hw : 96759170993210 &&& W = 96759170993210) :
    Fr W s₀ (State.cluRefresh s₁ c) := by
  refine Fr.lift hw h₀ ?_
  have h : Fr 96759170993210 s₁ s₁ := Fr.refl
  clear h₀ hw
  first | rw [State.cluRefresh] | unfold State.cluRefresh
  repeat' first
    | with_reducible assumption
    | (with_reducible refine State.sf_frame ?_ rfl)
    | (with_reducible refine Fr.ite ?_ ?_)

theorem State.waitsSeen_frame {W : Nat} {s₀ s₁ : State} (h₀ : Fr W s₀ s₁) (hw : 96759170993210 &&& W = 96759170993210) :
    Fr W s₀ (State.waitsSeen s₁) := by
  refine Fr.lift hw h₀ ?_
  have h : Fr 96759170993210 s₁ s₁ := Fr.refl
  clear h₀ hw
  first | rw [State.waitsSeen] | unfold State.waitsSeen
  repeat' first
    | with_reducible assumption
    | (with_reducible refine State.cluRefresh_frame ?_ rfl)
    | (with_reducible refine Fr.foldl (fun z a h => ?_) ?_)
    | (with_reducible refine Fr.ite ?_ ?_)
    | split

theorem State.flagSet_frame {p : Nat} {W : Nat} {s₀ s₁ : State} (h₀ : Fr W s₀ s₁) (hw : 96759175187962 &&& W = 96759175187962) :
    Fr W s₀ (State.flagSet s₁ p) := by
  refine Fr.lift hw h₀ ?_
  have h : Fr 96759175187962 s₁ s₁ := Fr.refl
  clear h₀ hw
  first | rw [State.flagSet] | unfold State.flagSet
  repeat' first
    | with_reducible assumption
    | (with_reducible refine State.flagRaise_frame ?_ rfl)
    | (with_reducible refine State.serveWaiters_frame ?_ rfl)
    | (with_reducible refine State.waitsSeen_frame ?_ rfl)
    | (with_reducible refine Fr.ite ?_ ?_)
    | split

theorem State.setVirtual_frame {k : Nat} {ctx : Nat} {vflag : Nat} {need : FlagNeed} {W : Nat} {s₀ s₁ : State} (h₀ : Fr W s₀ s₁) (hw : 96759175187962 &&& W = 96759175187962) :
    Fr2 W s₀ (State.setVirtual s₁ k ctx vflag need) := by
  refine Fr2.lift hw h₀ ?_
  have h : Fr 96759175187962 s₁ s₁ := Fr.refl
  clear h₀ hw
  first | rw [State.setVirtual] | unfold State.setVirtual
  repeat' first
    | with_reducible assumption
    | (with_reducible refine Fr2.pair ?_)
    | (with_reducible refine Fr2.ite ?_ ?_)
    | (with_reducible refine State.translate_frame ?_ rfl)
    | (with_reducible refine Fr2.out (State.translate_frame ?_ rfl))
    | (with_reducible refine State.flagSet_frame ?_ rfl)
    | (with_reducible refine Fr.ite ?_ ?_)
    | (with_reducible refine Fr.eq2 (by assumption) ?_)
    | (with_reducible refine Fr.eq22 (by assumption) ?_)
    | (with_reducible refine Fr.eq1 (by assumption) ?_)
    | (with_reducible refine Fr.eqo (by assumption) ?_)
    | (with_reducible refine Fr.eqo2 (by assumption) ?_)
    | (with_reducible refine Fr.eqo22 (by assumption) ?_)
    | dsimp only
    | split

theorem State.applyTarget_frame {c : Nat} {t : Nat} {W : Nat} {s₀ s₁ : State} (h₀ : Fr W s₀ s₁) (hw : 96759170993210 &&& W = 96759170993210) :
    Fr W s₀ (State.applyTarget s₁ c t) := by
  refine Fr.lift hw h₀ ?_
  have h : Fr 96759170993210 s₁ s₁ := Fr.refl
  clear h₀ hw
  first | rw [State.applyTarget] | unfold State.applyTarget
  repeat' first
    | with_reducible assumption
    | (with_reducible refine State.cluRefresh_frame ?_ rfl)
    | (with_reducible refine State.sf_frame ?_ rfl)
    | (with_reducible refine Fr.ite ?_ ?_)

theorem State.requestTarget_frame {c : Nat} {t : Nat} {W : Nat} {s₀ s₁ : State} (h₀ : Fr W s₀ s₁) (hw : 96759171124282 &&& W = 96759171124282) :
    Fr W s₀ (State.requestTarget s₁ c t) := by
  refine Fr.lift hw h₀ ?_
  have h : Fr 96759171124282 s₁ s₁ := Fr.refl
  clear h₀ hw
  first | rw [State.requestTarget] | unfold State.requestTarget
  repeat' first
    | with_reducible assumption
    | (lift_lets; intro x; clear_value x)
    | (with_reducible refine State.setClu_frame ?_ rfl)
    | (with_reducible refine State.applyTarget_frame ?_ rfl)
    | (with_reducible refine Fr.ite ?_ ?_)

theorem State.takeHeld_frame {c : Nat} {W : Nat} {s₀ s₁ : State} (h₀ : Fr W s₀ s₁) (hw : 96759171124282 &&& W = 96759171124282) :
    Fr W s₀ (State.takeHeld s₁ c) := by
  refine Fr.lift hw h₀ ?_
  have h : Fr 96759171124282 s₁ s₁ := Fr.refl
  clear h₀ hw
  first | rw [State.takeHeld] | unfold State.takeHeld
  repeat' first
    | with_reducible assumption
    | (lift_lets; intro x; clear_value x)
    | (with_reducible refine State.setClu_frame ?_ rfl)
    | (with_reducible refine State.cluRefresh_frame ?_ rfl)
    | (with_reducible refine State.applyTarget_frame ?_ rfl)
    | split

theorem State.doorbell_frame {c : Nat} {tail : Nat} {W : Nat} {s₀ s₁ : State} (h₀ : Fr W s₀ s₁) (hw : 96759171189818 &&& W = 96759171189818) :
    Fr W s₀ (State.doorbell s₁ c tail) := by
  refine Fr.lift hw h₀ ?_
  have h : Fr 96759171189818 s₁ s₁ := Fr.refl
  clear h₀ hw
  first | rw [State.doorbell] | unfold State.doorbell
  repeat' first
    | with_reducible assumption
    | (lift_lets; intro x; clear_value x)
    | (with_reducible refine State.setClu_frame ?_ rfl)
    | (with_reducible refine State.cluRefresh_frame ?_ rfl)
    | (with_reducible refine State.sf_frame ?_ rfl)
    | (with_reducible refine State.applyTarget_frame ?_ rfl)
    | (with_reducible refine State.writeDoorbell_frame ?_ rfl)
    | (with_reducible refine Fr.ite ?_ ?_)

theorem writeCluCmdBase_frame {q : Requester} {c : Nat} {hi : Bool} {v : W32} {W : Nat} {s₀ s₁ : State} (h₀ : Fr W s₀ s₁) (hw : 96759171058746 &&& W = 96759171058746) :
    Fr W s₀ (writeCluCmdBase q c hi v s₁) := by
  refine Fr.lift hw h₀ ?_
  have h : Fr 96759171058746 s₁ s₁ := Fr.refl
  clear h₀ hw
  first | rw [writeCluCmdBase] | unfold writeCluCmdBase
  repeat' first
    | with_reducible assumption
    | (with_reducible refine State.writeCmdBase_frame ?_ rfl)
    | (with_reducible refine State.cluRefresh_frame ?_ rfl)
    | (with_reducible refine Fr.ite ?_ ?_)

theorem writeCluCmplBase_frame {q : Requester} {c : Nat} {hi : Bool} {v : W32} {W : Nat} {s₀ s₁ : State} (h₀ : Fr W s₀ s₁) (hw : 2 &&& W = 2) :
    Fr W s₀ (writeCluCmplBase q c hi v s₁) := by
  refine Fr.lift hw h₀ ?_
  have h : Fr 2 s₁ s₁ := Fr.refl
  clear h₀ hw
  first | rw [writeCluCmplBase] | unfold writeCluCmplBase
  repeat' first
    | with_reducible assumption
    | (with_reducible refine State.writeCmplBase_frame ?_ rfl)
    | (with_reducible refine Fr.ite ?_ ?_)

theorem writeCluCtl_frame {q : Requester} {c : Nat} {v : W32} {W : Nat} {s₀ s₁ : State} (h₀ : Fr W s₀ s₁) (hw : 96759170993210 &&& W = 96759170993210) :
    Fr W s₀ (writeCluCtl q c v s₁) := by
  refine Fr.lift hw h₀ ?_
  have h : Fr 96759170993210 s₁ s₁ := Fr.refl
  clear h₀ hw
  first | rw [writeCluCtl] | unfold writeCluCtl
  repeat' first
    | with_reducible assumption
    | (with_reducible refine State.cluRefresh_frame ?_ rfl)
    | (with_reducible refine State.writeRingCtl_frame ?_ rfl)
    | (with_reducible refine Fr.ite ?_ ?_)

theorem writeCluDb_frame {q : Requester} {c : Nat} {v : W32} {W : Nat} {s₀ s₁ : State} (h₀ : Fr W s₀ s₁) (hw : 96759171189818 &&& W = 96759171189818) :
    Fr W s₀ (writeCluDb q c v s₁) := by
  refine Fr.lift hw h₀ ?_
  have h : Fr 96759171189818 s₁ s₁ := Fr.refl
  clear h₀ hw
  first | rw [writeCluDb] | unfold writeCluDb
  repeat' first
    | with_reducible assumption
    | (with_reducible refine State.doorbell_frame ?_ rfl)
    | (with_reducible refine Fr.ite ?_ ?_)

theorem writeCluCmplHead_frame {q : Requester} {c : Nat} {v : W32} {W : Nat} {s₀ s₁ : State} (h₀ : Fr W s₀ s₁) (hw : 2 &&& W = 2) :
    Fr W s₀ (writeCluCmplHead q c v s₁) := by
  refine Fr.lift hw h₀ ?_
  have h : Fr 2 s₁ s₁ := Fr.refl
  clear h₀ hw
  first | rw [writeCluCmplHead] | unfold writeCluCmplHead
  repeat' first
    | with_reducible assumption
    | (with_reducible refine State.writeCmplHead_frame ?_ rfl)
    | (with_reducible refine Fr.ite ?_ ?_)

theorem writeCluErr_frame {q : Requester} {c : Nat} {v : W32} {W : Nat} {s₀ s₁ : State} (h₀ : Fr W s₀ s₁) (hw : 96759171058746 &&& W = 96759171058746) :
    Fr W s₀ (writeCluErr q c v s₁) := by
  refine Fr.lift hw h₀ ?_
  have h : Fr 96759171058746 s₁ s₁ := Fr.refl
  clear h₀ hw
  first | rw [writeCluErr] | unfold writeCluErr
  repeat' first
    | with_reducible assumption
    | (intro x; refine_lift have hb : ∀ y, y = x → Fr 96759171058746 s₁ y := ?_; ?_; all_goals first | (have hx := hb x rfl; clear hb; clear_value x) | (intro y hy; unfold x at hy; rw [hy]; clear hy y))
    | (intro x; clear_value x)
    | (lift_lets; intro x; refine_lift have hb : ∀ y, y = x → Fr 96759171058746 s₁ y := ?_; ?_; all_goals first | (have hx := hb x rfl; clear hb; clear_value x) | (intro y hy; unfold x at hy; rw [hy]; clear hy y))
    | (with_reducible refine State.wr_frame ?_ rfl)
    | (with_reducible refine State.cluRefresh_frame ?_ rfl)
    | (with_reducible refine State.setRing_frame ?_ rfl)
    | (with_reducible refine Fr.ite ?_ ?_)

theorem writeCluPctl_frame {q : Requester} {c : Nat} {v : W32} {W : Nat} {s₀ s₁ : State} (h₀ : Fr W s₀ s₁) (hw : 96759171124282 &&& W = 96759171124282) :
    Fr W s₀ (writeCluPctl q c v s₁) := by
  refine Fr.lift hw h₀ ?_
  have h : Fr 96759171124282 s₁ s₁ := Fr.refl
  clear h₀ hw
  first | rw [writeCluPctl] | unfold writeCluPctl
  repeat' first
    | with_reducible assumption
    | (intro x; refine_lift have hb : ∀ y, y = x → Fr 96759171124282 s₁ y := ?_; ?_; all_goals first | (have hx := hb x rfl; clear hb; clear_value x) | (intro y hy; unfold x at hy; rw [hy]; clear hy y))
    | (lift_lets; intro x; refine_lift have hb : ∀ y, y = x → Fr 96759171124282 s₁ y := ?_; ?_; all_goals first | (have hx := hb x rfl; clear hb; clear_value x) | (intro y hy; unfold x at hy; rw [hy]; clear hy y))
    | (with_reducible refine State.requestTarget_frame ?_ rfl)
    | (with_reducible refine State.sf_frame ?_ rfl)
    | (with_reducible refine Fr.ite ?_ ?_)

theorem State.refetch_frame {c : Nat} {W : Nat} {s₀ s₁ : State} (h₀ : Fr W s₀ s₁) (hw : 327680 &&& W = 327680) :
    Fr W s₀ (State.refetch s₁ c) := by
  refine Fr.lift hw h₀ ?_
  have h : Fr 327680 s₁ s₁ := Fr.refl
  clear h₀ hw
  first | rw [State.refetch] | unfold State.refetch
  repeat' first
    | with_reducible assumption
    | (with_reducible refine State.dropXlat_frame ?_ rfl)
    | (with_reducible refine State.setRing_frame ?_ rfl)
    | split

theorem State.zeroBanks_frame {c : Nat} {keep : Nat} {W : Nat} {s₀ s₁ : State} (h₀ : Fr W s₀ s₁) (hw : 12 &&& W = 12) :
    Fr W s₀ (State.zeroBanks s₁ c keep) := by
  refine Fr.lift hw h₀ ?_
  have h : Fr 12 s₁ s₁ := Fr.refl
  clear h₀ hw
  first | rw [State.zeroBanks] | unfold State.zeroBanks
  repeat' first
    | with_reducible assumption
    | dsimp only
    | (refine Fr.upd_mem_marks ?_ rfl rfl (fun hs => by first | exact Tab.wf_set _ _ (hs.2.1) | exact Tab.wf_filter _ (hs.2.1)))

theorem State.loadBanks_frame {c : Nat} {W : Nat} {s₀ s₁ : State} (h₀ : Fr W s₀ s₁) (hw : 131328 &&& W = 131328) :
    Fr W s₀ (State.loadBanks s₁ c) := by
  refine Fr.lift hw h₀ ?_
  have h : Fr 131328 s₁ s₁ := Fr.refl
  clear h₀ hw
  first | rw [State.loadBanks] | unfold State.loadBanks
  repeat' first
    | with_reducible assumption
    | (lift_lets; intro x; clear_value x)
    | (with_reducible refine State.setClu_frame ?_ rfl)
    | dsimp only
    | (with_reducible refine Fr.free ?_ rfl)

theorem State.wakeDone_frame {c : Nat} {W : Nat} {s₀ s₁ : State} (h₀ : Fr W s₀ s₁) (hw : 96759171124542 &&& W = 96759171124542) :
    Fr W s₀ (State.wakeDone s₁ c) := by
  refine Fr.lift hw h₀ ?_
  have h : Fr 96759171124542 s₁ s₁ := Fr.refl
  clear h₀ hw
  first | rw [State.wakeDone] | unfold State.wakeDone
  repeat' first
    | with_reducible assumption
    | (intro x; refine_lift have hb : ∀ y, y = x → Fr 96759171124542 s₁ y := ?_; ?_; all_goals first | (have hx := hb x rfl; clear hb; clear_value x) | (intro y hy; unfold x at hy; rw [hy]; clear hy y))
    | (intro x; clear_value x)
    | (lift_lets; intro x; refine_lift have hb : ∀ y, y = x → Fr 96759171124542 s₁ y := ?_; ?_; all_goals first | (have hx := hb x rfl; clear hb; clear_value x) | (intro y hy; unfold x at hy; rw [hy]; clear hy y))
    | (lift_lets; intro x; clear_value x)
    | (with_reducible refine State.zeroBanks_frame ?_ rfl)
    | (with_reducible refine State.loadBanks_frame ?_ rfl)
    | (with_reducible refine State.sf_frame ?_ rfl)
    | (with_reducible refine State.takeHeld_frame ?_ rfl)
    | (with_reducible refine Fr.ite ?_ ?_)
    | (with_reducible exact Fr2.out (by assumption))
    | dsimp only
    | split

theorem State.setBankLane_frame {c : Nat} {k : Nat} {l : Nat} {v : W32} {W : Nat} {s₀ s₁ : State} (h₀ : Fr W s₀ s₁) (hw : 131072 &&& W = 131072) :
    Fr W s₀ (State.setBankLane s₁ c k l v) := by
  refine Fr.lift hw h₀ ?_
  have h : Fr 131072 s₁ s₁ := Fr.refl
  clear h₀ hw
  first | rw [State.setBankLane] | unfold State.setBankLane
  repeat' first
    | with_reducible assumption
    | (intro x; refine_lift have hb : ∀ y, y = x → Fr 131072 s₁ y := ?_; ?_; all_goals first | (have hx := hb x rfl; clear hb; clear_value x) | (intro y hy; unfold x at hy; rw [hy]; clear hy y))
    | (intro x; clear_value x)
    | (lift_lets; intro x; refine_lift have hb : ∀ y, y = x → Fr 131072 s₁ y := ?_; ?_; all_goals first | (have hx := hb x rfl; clear hb; clear_value x) | (intro y hy; unfold x at hy; rw [hy]; clear hy y))
    | (lift_lets; intro x; clear_value x)
    | (with_reducible refine State.setClu_frame ?_ rfl)
    | (with_reducible refine Fr.ite ?_ ?_)
    | (with_reducible exact Fr2.out (by assumption))
    | dsimp only
    | split

theorem State.seedBank_frame {c : Nat} {k : Nat} {seed : Nat} {W : Nat} {s₀ s₁ : State} (h₀ : Fr W s₀ s₁) (hw : 131072 &&& W = 131072) :
    Fr W s₀ (State.seedBank s₁ c k seed) := by
  refine Fr.lift hw h₀ ?_
  have h : Fr 131072 s₁ s₁ := Fr.refl
  clear h₀ hw
  first | rw [State.seedBank] | unfold State.seedBank
  repeat' first
    | with_reducible assumption
    | (with_reducible refine State.setBankLane_frame ?_ rfl)
    | (with_reducible refine Fr.foldl (fun z a h => ?_) ?_)
    | (with_reducible refine Fr.ite ?_ ?_)
    | split

theorem State.drawLane_frame {c : Nat} {k : Nat} {l : Nat} {W : Nat} {s₀ s₁ : State} (h₀ : Fr W s₀ s₁) (hw : 131072 &&& W = 131072) :
    Fr2 W s₀ (State.drawLane s₁ c k l) := by
  refine Fr2.lift hw h₀ ?_
  have h : Fr 131072 s₁ s₁ := Fr.refl
  clear h₀ hw
  first | rw [State.drawLane] | unfold State.drawLane
  repeat' first
    | with_reducible assumption
    | (with_reducible refine Fr2.pair ?_)
    | (with_reducible refine Fr2.ite ?_ ?_)
    | (intro x; refine_lift have hb : ∀ y, y = x → Fr 131072 s₁ y := ?_; ?_; all_goals first | (have hx := hb x rfl; clear hb; clear_value x) | (intro y hy; unfold x at hy; rw [hy]; clear hy y))
    | (intro x; clear_value x)
    | (lift_lets; intro x; refine_lift have hb : ∀ y, y = x → Fr 131072 s₁ y := ?_; ?_; all_goals first | (have hx := hb x rfl; clear hb; clear_value x) | (intro y hy; unfold x at hy; rw [hy]; clear hy y))
    | (lift_lets; intro x; clear_value x)
    | (with_reducible refine State.setBankLane_frame ?_ rfl)
    | (with_reducible refine Fr.ite ?_ ?_)
    | (with_reducible exact Fr2.out (by assumption))
    | dsimp only
    | split

end Sys2Proof.Machine
end

