-- ==== Sys2Proof/Laws/FrameBarriers.lean ====
section
/-! SUPPORT. Frames of the functions of Machine/Barriers.lean: which parts of the state each may change. -/

namespace Sys2Proof.Machine

theorem State.flagAccept_frame {p : Nat} {gap : Nat} {reqs : List (Nat × Bool)} {W : Nat} {s₀ s₁ : State} (h₀ : Fr W s₀ s₁) (hw : 192 &&& W = 192) :
    Fr2 W s₀ (State.flagAccept s₁ p gap reqs) := by
  refine Fr2.lift hw h₀ ?_
  have h : Fr 192 s₁ s₁ := Fr.refl
  clear h₀ hw
  first | rw [State.flagAccept] | unfold State.flagAccept
  repeat' first
    | with_reducible assumption
    | (with_reducible refine Fr2.foldl (fun z a h => ?_) ?_)
    | (with_reducible exact Fr2.out (by assumption))
    | (with_reducible refine Fr2.pair ?_)
    | (with_reducible refine Fr2.ite ?_ ?_)
    | (with_reducible refine State.draw_frame ?_ rfl)
    | (with_reducible refine Fr2.out (State.draw_frame ?_ rfl))
    | (with_reducible refine Fr.foldl (fun z a h => ?_) ?_)
    | (with_reducible refine Fr.ite ?_ ?_)
    | (with_reducible refine Fr.eq2 (by assumption) ?_)
    | (with_reducible refine Fr.eq22 (by assumption) ?_)
    | (with_reducible refine Fr.eq1 (by assumption) ?_)
    | (with_reducible refine Fr.eqo (by assumption) ?_)
    | (with_reducible refine Fr.eqo2 (by assumption) ?_)
    | (with_reducible refine Fr.eqo22 (by assumption) ?_)
    | dsimp only
    | split

theorem State.flagCycle_frame {p : Nat} {m : FlagMeet} {W : Nat} {s₀ s₁ : State} (h₀ : Fr W s₀ s₁) (hw : 96759175187938 &&& W = 96759175187938) :
    Fr W s₀ (State.flagCycle s₁ p m) := by
  refine Fr.lift hw h₀ ?_
  have h : Fr 96759175187938 s₁ s₁ := Fr.refl
  clear h₀ hw
  first | rw [State.flagCycle] | unfold State.flagCycle
  repeat' first
    | with_reducible assumption
    | (with_reducible refine State.flagAccept_frame ?_ rfl)
    | (with_reducible refine Fr2.out (State.flagAccept_frame ?_ rfl))
    | (with_reducible refine State.serveWaiters_frame ?_ rfl)
    | (with_reducible refine State.flagRead_frame ?_ rfl)
    | (with_reducible refine State.oversetEvent_frame ?_ rfl)
    | (with_reducible refine State.draw_frame ?_ rfl)
    | (with_reducible refine State.flagWritten_frame ?_ rfl)
    | (with_reducible refine State.putFlag_frame ?_ rfl)
    | (with_reducible refine State.holdWaiter_frame ?_ rfl)
    | (with_reducible refine State.passWaiter_frame ?_ rfl)
    | (with_reducible refine Fr.ite ?_ ?_)
    | (with_reducible refine Fr.foldl (fun z a h => ?_) ?_)
    | (with_reducible refine Fr2.ite ?_ ?_)
    | (with_reducible refine Fr2.out (Fr2.ite ?_ ?_))
    | (with_reducible refine Fr2.pair ?_)

theorem State.named_frame {f : FlagName} {need : FlagNeed} {W : Nat} {s₀ s₁ : State} (h₀ : Fr W s₀ s₁) (hw : 96759175187514 &&& W = 96759175187514) :
    Fr2 W s₀ (State.named s₁ f need) := by
  refine Fr2.lift hw h₀ ?_
  have h : Fr 96759175187514 s₁ s₁ := Fr.refl
  clear h₀ hw
  first | rw [State.named] | unfold State.named
  repeat' first
    | with_reducible assumption
    | (with_reducible refine State.translate_frame ?_ rfl)
    | split
    | (with_reducible refine Fr2.pair ?_)

theorem State.onFlag_frame {f : FlagName} {need : FlagNeed} {m : FlagMeet} {W : Nat} {s₀ s₁ : State} (h₀ : Fr W s₀ s₁) (hw : 96759175187962 &&& W = 96759175187962) :
    Fr W s₀ (State.onFlag s₁ f need m) := by
  refine Fr.lift hw h₀ ?_
  have h : Fr 96759175187962 s₁ s₁ := Fr.refl
  clear h₀ hw
  first | rw [State.onFlag] | unfold State.onFlag
  repeat' first
    | with_reducible assumption
    | (with_reducible refine State.flagCycle_frame ?_ rfl)
    | (with_reducible refine State.named_frame ?_ rfl)
    | (with_reducible refine Fr.eq2 (by assumption) ?_)
    | split

theorem writeFlgCtxBase_frame {q : Requester} {hi : Bool} {v : W32} {W : Nat} {s₀ s₁ : State} (h₀ : Fr W s₀ s₁) (hw : 2 &&& W = 2) :
    Fr W s₀ (writeFlgCtxBase q hi v s₁) := by
  refine Fr.lift hw h₀ ?_
  have h : Fr 2 s₁ s₁ := Fr.refl
  clear h₀ hw
  first | rw [writeFlgCtxBase] | unfold writeFlgCtxBase
  repeat' first
    | with_reducible assumption
    | (with_reducible refine State.wr_frame ?_ rfl)
    | (with_reducible refine Fr.ite ?_ ?_)

theorem writeFlgCtl_frame {q : Requester} {v : W32} {W : Nat} {s₀ s₁ : State} (h₀ : Fr W s₀ s₁) (hw : 2 &&& W = 2) :
    Fr W s₀ (writeFlgCtl q v s₁) := by
  refine Fr.lift hw h₀ ?_
  have h : Fr 2 s₁ s₁ := Fr.refl
  clear h₀ hw
  first | rw [writeFlgCtl] | unfold writeFlgCtl
  repeat' first
    | with_reducible assumption
    | (with_reducible refine State.sf_frame ?_ rfl)
    | (with_reducible refine Fr.ite ?_ ?_)

theorem writeFlgInval_frame {q : Requester} {v : W32} {W : Nat} {s₀ s₁ : State} (h₀ : Fr W s₀ s₁) (hw : 262146 &&& W = 262146) :
    Fr W s₀ (writeFlgInval q v s₁) := by
  refine Fr.lift hw h₀ ?_
  have h : Fr 262146 s₁ s₁ := Fr.refl
  clear h₀ hw
  first | rw [writeFlgInval] | unfold writeFlgInval
  repeat' first
    | with_reducible assumption
    | (intro x; clear_value x)
    | (lift_lets; intro x; refine_lift have hb : ∀ y, y = x → Fr 262146 s₁ y := ?_; ?_; all_goals first | (have hx := hb x rfl; clear hb; clear_value x) | (intro y hy; unfold x at hy; rw [hy]; clear hy y))
    | (with_reducible refine State.sf_frame ?_ rfl)
    | (with_reducible refine Fr.ite ?_ ?_)
    | split
    | (with_reducible refine Fr.flags ?_ rfl)

theorem writeFlgSignal_frame {q : Requester} {v : W32} {W : Nat} {s₀ s₁ : State} (h₀ : Fr W s₀ s₁) (hw : 96759175187962 &&& W = 96759175187962) :
    Fr W s₀ (writeFlgSignal q v s₁) := by
  refine Fr.lift hw h₀ ?_
  have h : Fr 96759175187962 s₁ s₁ := Fr.refl
  clear h₀ hw
  first | rw [writeFlgSignal] | unfold writeFlgSignal
  repeat' first
    | with_reducible assumption
    | (lift_lets; intro x; clear_value x)
    | (with_reducible refine State.waitsSeen_frame ?_ rfl)
    | (with_reducible refine State.flagClear_frame ?_ rfl)
    | (with_reducible refine State.flagClearOver_frame ?_ rfl)
    | (with_reducible refine State.flagSet_frame ?_ rfl)
    | (with_reducible refine Fr.ite ?_ ?_)
    | split

theorem State.setBarEntries_frame {b : Nat} {l : List BarEntry} {W : Nat} {s₀ s₁ : State} (h₀ : Fr W s₀ s₁) (hw : 262144 &&& W = 262144) :
    Fr W s₀ (State.setBarEntries s₁ b l) := by
  refine Fr.lift hw h₀ ?_
  have h : Fr 262144 s₁ s₁ := Fr.refl
  clear h₀ hw
  first | rw [State.setBarEntries] | unfold State.setBarEntries
  repeat' first
    | with_reducible assumption
    | (lift_lets; intro x; clear_value x)
    | (with_reducible refine Fr.flags ?_ rfl)

theorem State.setBarCount_frame {b : Nat} {parity : Nat} {n : Nat} {W : Nat} {s₀ s₁ : State} (h₀ : Fr W s₀ s₁) (hw : 2 &&& W = 2) :
    Fr W s₀ (State.setBarCount s₁ b parity n) := by
  refine Fr.lift hw h₀ ?_
  have h : Fr 2 s₁ s₁ := Fr.refl
  clear h₀ hw
  first | rw [State.setBarCount] | unfold State.setBarCount
  repeat' first
    | with_reducible assumption
    | (with_reducible refine State.sf_frame ?_ rfl)
    | (with_reducible refine Fr.ite ?_ ?_)

theorem State.enterBarrier_frame {b : Nat} {who : Nat} {tag : Nat} {W : Nat} {s₀ s₁ : State} (h₀ : Fr W s₀ s₁) (hw : 262144 &&& W = 262144) :
    Fr W s₀ (State.enterBarrier s₁ b who tag) := by
  refine Fr.lift hw h₀ ?_
  have h : Fr 262144 s₁ s₁ := Fr.refl
  clear h₀ hw
  first | rw [State.enterBarrier] | unfold State.enterBarrier
  repeat' first
    | with_reducible assumption
    | (with_reducible refine State.setBarEntries_frame ?_ rfl)

theorem State.endBarEnter_frame {who : Nat} {ix : Nat} {status : Nat} {W : Nat} {s₀ s₁ : State} (h₀ : Fr W s₀ s₁) (hw : 65536 &&& W = 65536) :
    Fr W s₀ (State.endBarEnter s₁ who ix status) := by
  refine Fr.lift hw h₀ ?_
  have h : Fr 65536 s₁ s₁ := Fr.refl
  clear h₀ hw
  first | rw [State.endBarEnter] | unfold State.endBarEnter
  repeat' first
    | with_reducible assumption
    | (lift_lets; intro x; clear_value x)
    | (with_reducible refine State.setRing_frame ?_ rfl)
    | (with_reducible refine Fr.ite ?_ ?_)

theorem State.closeRound_frame {b : Nat} {W : Nat} {s₀ s₁ : State} (h₀ : Fr W s₀ s₁) (hw : 96759175253498 &&& W = 96759175253498) :
    Fr W s₀ (State.closeRound s₁ b) := by
  refine Fr.lift hw h₀ ?_
  have h : Fr 96759175253498 s₁ s₁ := Fr.refl
  clear h₀ hw
  first | rw [State.closeRound] | unfold State.closeRound
  repeat' first
    | with_reducible assumption
    | (intro x; refine_lift have hb : ∀ y, y = x → Fr 96759175253498 s₁ y := ?_; ?_; all_goals first | (have hx := hb x rfl; clear hb; clear_value x) | (intro y hy; unfold x at hy; rw [hy]; clear hy y))
    | (intro x; clear_value x)
    | (lift_lets; intro x; refine_lift have hb : ∀ y, y = x → Fr 96759175253498 s₁ y := ?_; ?_; all_goals first | (have hx := hb x rfl; clear hb; clear_value x) | (intro y hy; unfold x at hy; rw [hy]; clear hy y))
    | (lift_lets; intro x; clear_value x)
    | (with_reducible refine State.setBarEntries_frame ?_ rfl)
    | (with_reducible refine State.setBarCount_frame ?_ rfl)
    | (with_reducible refine State.sf_frame ?_ rfl)
    | (with_reducible refine State.endBarEnter_frame ?_ rfl)
    | (with_reducible refine State.setVirtual_frame ?_ rfl)
    | (with_reducible refine Fr2.out (State.setVirtual_frame ?_ rfl))
    | (with_reducible refine Fr.foldl (fun z a h => ?_) ?_)
    | (with_reducible refine Fr.ite ?_ ?_)
    | (with_reducible refine Fr.eq2 (by assumption) ?_)
    | (with_reducible refine Fr.eq22 (by assumption) ?_)
    | (with_reducible refine Fr.eq1 (by assumption) ?_)
    | (with_reducible refine Fr.eqo (by assumption) ?_)
    | (with_reducible refine Fr.eqo2 (by assumption) ?_)
    | (with_reducible refine Fr.eqo22 (by assumption) ?_)
    | (with_reducible exact Fr2.out (by assumption))
    | dsimp only
    | split

theorem State.disableBarrier_frame {b : Nat} {W : Nat} {s₀ s₁ : State} (h₀ : Fr W s₀ s₁) (hw : 327682 &&& W = 327682) :
    Fr W s₀ (State.disableBarrier s₁ b) := by
  refine Fr.lift hw h₀ ?_
  have h : Fr 327682 s₁ s₁ := Fr.refl
  clear h₀ hw
  first | rw [State.disableBarrier] | unfold State.disableBarrier
  repeat' first
    | with_reducible assumption
    | (with_reducible refine State.endBarEnter_frame ?_ rfl)
    | (with_reducible refine State.setBarEntries_frame ?_ rfl)
    | (with_reducible refine State.setBarCount_frame ?_ rfl)
    | (with_reducible refine State.sf_frame ?_ rfl)
    | (with_reducible refine Fr.foldl (fun z a h => ?_) ?_)

theorem State.barCheck_frame {b : Nat} {W : Nat} {s₀ s₁ : State} (h₀ : Fr W s₀ s₁) (hw : 96759175187514 &&& W = 96759175187514) :
    Fr2 W s₀ (State.barCheck s₁ b) := by
  refine Fr2.lift hw h₀ ?_
  have h : Fr 96759175187514 s₁ s₁ := Fr.refl
  clear h₀ hw
  first | rw [State.barCheck] | unfold State.barCheck
  repeat' first
    | with_reducible assumption
    | (with_reducible refine State.translate_frame ?_ rfl)
    | (with_reducible refine Fr2.ite ?_ ?_)
    | (with_reducible refine Fr.eq2 (by assumption) ?_)
    | split
    | (with_reducible refine Fr2.pair ?_)

theorem writeBarCfg_frame {q : Requester} {b : Nat} {v : W32} {W : Nat} {s₀ s₁ : State} (h₀ : Fr W s₀ s₁) (hw : 96759175253050 &&& W = 96759175253050) :
    Fr W s₀ (writeBarCfg q b v s₁) := by
  refine Fr.lift hw h₀ ?_
  have h : Fr 96759175253050 s₁ s₁ := Fr.refl
  clear h₀ hw
  first | rw [writeBarCfg] | unfold writeBarCfg
  repeat' first
    | with_reducible assumption
    | (intro x; refine_lift have hb : ∀ y, y = x → Fr 96759175253050 s₁ y := ?_; ?_; all_goals first | (have hx := hb x rfl; clear hb; clear_value x) | (intro y hy; unfold x at hy; rw [hy]; clear hy y))
    | (lift_lets; intro x; refine_lift have hb : ∀ y, y = x → Fr 96759175253050 s₁ y := ?_; ?_; all_goals first | (have hx := hb x rfl; clear hb; clear_value x) | (intro y hy; unfold x at hy; rw [hy]; clear hy y))
    | (with_reducible refine State.barCheck_frame ?_ rfl)
    | (with_reducible refine State.setBarCount_frame ?_ rfl)
    | (with_reducible refine State.sf_frame ?_ rfl)
    | (with_reducible refine State.disableBarrier_frame ?_ rfl)
    | (with_reducible refine Fr.ite ?_ ?_)
    | (with_reducible refine Fr.eq2 (by assumption) ?_)
    | split

theorem writeBarClose_frame {q : Requester} {b : Nat} {v : W32} {W : Nat} {s₀ s₁ : State} (h₀ : Fr W s₀ s₁) (hw : 2 &&& W = 2) :
    Fr W s₀ (writeBarClose q b v s₁) := by
  refine Fr.lift hw h₀ ?_
  have h : Fr 2 s₁ s₁ := Fr.refl
  clear h₀ hw
  first | rw [writeBarClose] | unfold writeBarClose
  repeat' first
    | with_reducible assumption
    | (with_reducible refine State.wr_frame ?_ rfl)
    | (with_reducible refine Fr.ite ?_ ?_)

end Sys2Proof.Machine
end

