-- ==== Sys2Proof/Laws/FrameKeys.lean ====
section
/-! SUPPORT. Frames of the functions of Machine/Keys.lean: which parts of the state each may change. -/

namespace Sys2Proof.Machine

theorem State.setSlot_frame {k : Nat} {v : KeySlot} {W : Nat} {s₀ s₁ : State} (h₀ : Fr W s₀ s₁) (hw : 1073741824 &&& W = 1073741824) :
    Fr W s₀ (State.setSlot s₁ k v) := by
  refine Fr.lift hw h₀ ?_
  have h : Fr 1073741824 s₁ s₁ := Fr.refl
  clear h₀ hw
  first | rw [State.setSlot] | unfold State.setSlot
  repeat' first
    | with_reducible assumption
    | (lift_lets; intro x; clear_value x)
    | (with_reducible refine Fr.sec ?_ rfl)

theorem State.countAuth_frame {W : Nat} {s₀ s₁ : State} (h₀ : Fr W s₀ s₁) (hw : 2 &&& W = 2) :
    Fr W s₀ (State.countAuth s₁) := by
  refine Fr.lift hw h₀ ?_
  have h : Fr 2 s₁ s₁ := Fr.refl
  clear h₀ hw
  first | rw [State.countAuth] | unfold State.countAuth
  repeat' first
    | with_reducible assumption
    | (with_reducible refine State.cnt_frame ?_ rfl)
    | (with_reducible refine Fr.ite ?_ ?_)
    | split

end Sys2Proof.Machine
end

