-- ==== Sys2Proof/Laws/FrameSyncen.lean ====
section
/-! SUPPORT. Frames of the functions of Machine/Syncen.lean: which parts of the state each may change. -/

namespace Sys2Proof.Machine

theorem State.answer_frame {opcode : Nat} {r : SynReq} {status : Nat} {payload : List Byte} {W : Nat} {s₀ s₁ : State} (h₀ : Fr W s₀ s₁) (hw : 2048 &&& W = 2048) :
    Fr W s₀ (State.answer s₁ opcode r status payload) := by
  refine Fr.lift hw h₀ ?_
  have h : Fr 2048 s₁ s₁ := Fr.refl
  clear h₀ hw
  first | rw [State.answer] | unfold State.answer
  repeat' first
    | with_reducible assumption
    | (lift_lets; intro x; clear_value x)
    | (with_reducible refine State.setMb_frame ?_ rfl)

theorem State.syn_frame {opcode : Nat} {dom : Option Nat} {r : SynReq} {f : State → State × Nat × List Byte} {W : Nat} {s₀ s₁ : State} (h : Fr W s₀ s₁) (hf : ∀ z, Fr W s₀ z → Fr1 W s₀ (f z)) (hw : 2048 &&& W = 2048) :
    Fr W s₀ (State.syn s₁ opcode dom r f) := by
  first | rw [State.syn] | unfold State.syn
  repeat' first
    | with_reducible assumption
    | (with_reducible refine Fr1.out (hf _ ?_))
    | (with_reducible refine State.answer_frame ?_ (Fr.sub rfl hw))
    | split

theorem State.synLater_frame {opcode : Nat} {dom : Option Nat} {r : SynReq} {f : State → State × Option (Nat × List Byte)} {W : Nat} {s₀ s₁ : State} (h : Fr W s₀ s₁) (hf : ∀ z, Fr W s₀ z → Fr1 W s₀ (f z)) (hw : 2048 &&& W = 2048) :
    Fr W s₀ (State.synLater s₁ opcode dom r f) := by
  first | rw [State.synLater] | unfold State.synLater
  repeat' first
    | with_reducible assumption
    | (with_reducible refine hf _ ?_)
    | (with_reducible refine State.answer_frame ?_ (Fr.sub rfl hw))
    | (with_reducible refine Fr.eq1 (by assumption) ?_)
    | split

theorem refuseFree_frame {W : Nat} {s₀ s₁ : State} (h₀ : Fr W s₀ s₁) (hw : 256 &&& W = 256) :
    Fr1 W s₀ (refuseFree s₁) := by
  refine Fr1.lift hw h₀ ?_
  have h : Fr 256 s₁ s₁ := Fr.refl
  clear h₀ hw
  first | rw [refuseFree] | unfold refuseFree
  repeat' first
    | with_reducible assumption
    | (with_reducible refine State.tick_frame ?_ rfl)
    | (with_reducible refine Fr1.pair ?_)

theorem refuse_frame {st : Nat} {W : Nat} {s₀ s₁ : State} (h₀ : Fr W s₀ s₁) (hw : 0 &&& W = 0) :
    Fr1 W s₀ (refuse s₁ st) := by
  refine Fr1.lift hw h₀ ?_
  have h : Fr 0 s₁ s₁ := Fr.refl
  clear h₀ hw
  first | rw [refuse] | unfold refuse
  repeat' first
    | with_reducible assumption
    | (with_reducible refine Fr1.pair ?_)

theorem State.refuseUnknown_frame {p : SynPort} {words : List W32} {W : Nat} {s₀ s₁ : State} (h₀ : Fr W s₀ s₁) (hw : 2048 &&& W = 2048) :
    Fr W s₀ (State.refuseUnknown s₁ p words) := by
  refine Fr.lift hw h₀ ?_
  have h : Fr 2048 s₁ s₁ := Fr.refl
  clear h₀ hw
  first | rw [State.refuseUnknown] | unfold State.refuseUnknown
  repeat' first
    | with_reducible assumption
    | (intro x; refine_lift have hb : ∀ y, y = x → Fr 2048 s₁ y := ?_; ?_; all_goals first | (have hx := hb x rfl; clear hb; clear_value x) | (intro y hy; unfold x at hy; rw [hy]; clear hy y))
    | (intro x; clear_value x)
    | (lift_lets; intro x; refine_lift have hb : ∀ y, y = x → Fr 2048 s₁ y := ?_; ?_; all_goals first | (have hx := hb x rfl; clear hb; clear_value x) | (intro y hy; unfold x at hy; rw [hy]; clear hy y))
    | (lift_lets; intro x; clear_value x)
    | (with_reducible refine State.syn_frame ?_ (fun z h => ?_) rfl)
    | (with_reducible refine refuse_frame ?_ rfl)
    | (with_reducible refine Fr1.out (refuse_frame ?_ rfl))
    | (with_reducible refine Fr.ite ?_ ?_)
    | (with_reducible refine Fr.eq2 (by assumption) ?_)
    | (with_reducible refine Fr.eq22 (by assumption) ?_)
    | (with_reducible refine Fr.eq1 (by assumption) ?_)
    | (with_reducible exact Fr2.out (by assumption))
    | dsimp only
    | split

theorem success_frame {pl : List Byte} {W : Nat} {s₀ s₁ : State} (h₀ : Fr W s₀ s₁) (hw : 0 &&& W = 0) :
    Fr1 W s₀ (success s₁ pl) := by
  refine Fr1.lift hw h₀ ?_
  have h : Fr 0 s₁ s₁ := Fr.refl
  clear h₀ hw
  first | rw [success] | unfold success
  repeat' first
    | with_reducible assumption
    | (with_reducible refine Fr1.pair ?_)

end Sys2Proof.Machine
end

