-- ==== Sys2Proof/Laws/FrameIdentity.lean ====
section
/-! SUPPORT. Frames of the functions of Machine/Identity.lean: which parts of the state each may change. -/

namespace Sys2Proof.Machine

theorem State.showLoaded_frame {W : Nat} {s₀ s₁ : State} (h₀ : Fr W s₀ s₁) (hw : 2 &&& W = 2) :
    Fr W s₀ (State.showLoaded s₁) := by
  refine Fr.lift hw h₀ ?_
  have h : Fr 2 s₁ s₁ := Fr.refl
  clear h₀ hw
  first | rw [State.showLoaded] | unfold State.showLoaded
  repeat' first
    | with_reducible assumption
    | (with_reducible refine State.sf_frame ?_ rfl)

theorem State.writeSlot_frame {k : Nat} {v : KeySlot} {W : Nat} {s₀ s₁ : State} (h₀ : Fr W s₀ s₁) (hw : 1073741826 &&& W = 1073741826) :
    Fr W s₀ (State.writeSlot s₁ k v) := by
  refine Fr.lift hw h₀ ?_
  have h : Fr 1073741826 s₁ s₁ := Fr.refl
  clear h₀ hw
  first | rw [State.writeSlot] | unfold State.writeSlot
  repeat' first
    | with_reducible assumption
    | (with_reducible refine State.setSlot_frame ?_ rfl)
    | (with_reducible refine State.showLoaded_frame ?_ rfl)

theorem State.sealK0_frame {W : Nat} {s₀ s₁ : State} (h₀ : Fr W s₀ s₁) (hw : 1073741826 &&& W = 1073741826) :
    Fr W s₀ (State.sealK0 s₁) := by
  refine Fr.lift hw h₀ ?_
  have h : Fr 1073741826 s₁ s₁ := Fr.refl
  clear h₀ hw
  first | rw [State.sealK0] | unfold State.sealK0
  repeat' first
    | with_reducible assumption
    | (with_reducible refine State.writeSlot_frame ?_ rfl)

theorem State.setIdentity_frame {seed : List Byte} {W : Nat} {s₀ s₁ : State} (h₀ : Fr W s₀ s₁) (hw : 1073741826 &&& W = 1073741826) :
    Fr W s₀ (State.setIdentity s₁ seed) := by
  refine Fr.lift hw h₀ ?_
  have h : Fr 1073741826 s₁ s₁ := Fr.refl
  clear h₀ hw
  first | rw [State.setIdentity] | unfold State.setIdentity
  repeat' first
    | with_reducible assumption
    | (lift_lets; intro x; clear_value x)
    | (with_reducible refine State.sealK0_frame ?_ rfl)
    | (with_reducible refine State.wr64_frame ?_ rfl)
    | (with_reducible refine State.sf_frame ?_ rfl)
    | (with_reducible refine Fr.sec ?_ rfl)

theorem State.showCert_frame {W : Nat} {s₀ s₁ : State} (h₀ : Fr W s₀ s₁) (hw : 2 &&& W = 2) :
    Fr W s₀ (State.showCert s₁) := by
  refine Fr.lift hw h₀ ?_
  have h : Fr 2 s₁ s₁ := Fr.refl
  clear h₀ hw
  first | rw [State.showCert] | unfold State.showCert
  repeat' first
    | with_reducible assumption
    | (with_reducible refine State.sf_frame ?_ rfl)

theorem State.deriveIdentity_frame {W : Nat} {s₀ s₁ : State} (h₀ : Fr W s₀ s₁) (hw : 96760248667170 &&& W = 96760248667170) :
    Fr W s₀ (State.deriveIdentity s₁) := by
  refine Fr.lift hw h₀ ?_
  have h : Fr 96760248667170 s₁ s₁ := Fr.refl
  clear h₀ hw
  first | rw [State.deriveIdentity] | unfold State.deriveIdentity
  repeat' first
    | with_reducible assumption
    | (with_reducible refine State.fault_frame ?_ rfl)
    | (with_reducible refine State.setIdentity_frame ?_ rfl)
    | (with_reducible refine State.sf_frame ?_ rfl)
    | (with_reducible refine State.showCert_frame ?_ rfl)
    | (with_reducible refine Fr.ite ?_ ?_)

end Sys2Proof.Machine
end

