-- ==== Sys2Proof/Laws/FrameHbm.lean ====
section
/-! SUPPORT. Frames of the functions of Machine/Hbm.lean: which parts of the state each may change. -/

namespace Sys2Proof.Machine

theorem State.setChan_frame {g : Nat} {c : Chan} {W : Nat} {s₀ s₁ : State} (h₀ : Fr W s₀ s₁) (hw : 4194304 &&& W = 4194304) :
    Fr W s₀ (State.setChan s₁ g c) := by
  refine Fr.lift hw h₀ ?_
  have h : Fr 4194304 s₁ s₁ := Fr.refl
  clear h₀ hw
  first | rw [State.setChan] | unfold State.setChan
  repeat' first
    | with_reducible assumption
    | (lift_lets; intro x; clear_value x)
    | (with_reducible refine Fr.hbm ?_ rfl)

theorem State.grant_frame {g : Nat} {l : Nat} {n : Nat} {W : Nat} {s₀ s₁ : State} (h₀ : Fr W s₀ s₁) (hw : 4194306 &&& W = 4194306) :
    Fr W s₀ (State.grant s₁ g l n) := by
  refine Fr.lift hw h₀ ?_
  have h : Fr 4194306 s₁ s₁ := Fr.refl
  clear h₀ hw
  first | rw [State.grant] | unfold State.grant
  repeat' first
    | with_reducible assumption
    | (lift_lets; intro x; clear_value x)
    | (with_reducible refine State.setChan_frame ?_ rfl)
    | (with_reducible refine State.wr_frame ?_ rfl)
    | (with_reducible refine Fr.hbm ?_ rfl)

theorem State.loadMode_frame {m : Nat} {W : Nat} {s₀ s₁ : State} (h₀ : Fr W s₀ s₁) (hw : 2 &&& W = 2) :
    Fr W s₀ (State.loadMode s₁ m) := by
  refine Fr.lift hw h₀ ?_
  have h : Fr 2 s₁ s₁ := Fr.refl
  clear h₀ hw
  first | rw [State.loadMode] | unfold State.loadMode
  repeat' first
    | with_reducible assumption
    | (intro x; refine_lift have hb : ∀ y, y = x → Fr 2 s₁ y := ?_; ?_; all_goals first | (have hx := hb x rfl; clear hb; clear_value x) | (intro y hy; unfold x at hy; rw [hy]; clear hy y))
    | (intro x; clear_value x)
    | (lift_lets; intro x; refine_lift have hb : ∀ y, y = x → Fr 2 s₁ y := ?_; ?_; all_goals first | (have hx := hb x rfl; clear hb; clear_value x) | (intro y hy; unfold x at hy; rw [hy]; clear hy y))
    | (lift_lets; intro x; clear_value x)
    | (with_reducible refine State.sf_frame ?_ rfl)
    | (with_reducible refine State.wr_frame ?_ rfl)
    | (with_reducible refine Fr.foldl (fun z a h => ?_) ?_)
    | (with_reducible refine Fr.ite ?_ ?_)
    | (with_reducible exact Fr2.out (by assumption))
    | dsimp only
    | split

theorem State.arbCommit_frame {W : Nat} {s₀ s₁ : State} (h₀ : Fr W s₀ s₁) (hw : 4194306 &&& W = 4194306) :
    Fr W s₀ (State.arbCommit s₁) := by
  refine Fr.lift hw h₀ ?_
  have h : Fr 4194306 s₁ s₁ := Fr.refl
  clear h₀ hw
  first | rw [State.arbCommit] | unfold State.arbCommit
  repeat' first
    | with_reducible assumption
    | (intro x; refine_lift have hb : ∀ y, y = x → Fr 4194306 s₁ y := ?_; ?_; all_goals first | (have hx := hb x rfl; clear hb; clear_value x) | (intro y hy; unfold x at hy; rw [hy]; clear hy y))
    | (intro x; clear_value x)
    | (lift_lets; intro x; refine_lift have hb : ∀ y, y = x → Fr 4194306 s₁ y := ?_; ?_; all_goals first | (have hx := hb x rfl; clear hb; clear_value x) | (intro y hy; unfold x at hy; rw [hy]; clear hy y))
    | (lift_lets; intro x; clear_value x)
    | (with_reducible refine State.sf_frame ?_ rfl)
    | (with_reducible refine Fr.ite ?_ ?_)
    | (with_reducible refine Fr.eq2 (by assumption) ?_)
    | (with_reducible refine Fr.eq22 (by assumption) ?_)
    | (with_reducible refine Fr.eq1 (by assumption) ?_)
    | (with_reducible refine Fr.eqo (by assumption) ?_)
    | (with_reducible refine Fr.eqo2 (by assumption) ?_)
    | (with_reducible refine Fr.eqo22 (by assumption) ?_)
    | (with_reducible exact Fr2.out (by assumption))
    | dsimp only
    | split
    | (with_reducible refine Fr.hbm ?_ rfl)

theorem State.useMode_frame {W : Nat} {s₀ s₁ : State} (h₀ : Fr W s₀ s₁) (hw : 4194306 &&& W = 4194306) :
    Fr W s₀ (State.useMode s₁) := by
  refine Fr.lift hw h₀ ?_
  have h : Fr 4194306 s₁ s₁ := Fr.refl
  clear h₀ hw
  first | rw [State.useMode] | unfold State.useMode
  repeat' first
    | with_reducible assumption
    | (with_reducible refine State.loadMode_frame ?_ rfl)
    | (with_reducible refine State.arbCommit_frame ?_ rfl)
    | (with_reducible refine Fr.ite ?_ ?_)
    | (with_reducible refine Fr.eq2 (by assumption) ?_)
    | (with_reducible refine Fr.eq22 (by assumption) ?_)
    | (with_reducible refine Fr.eq1 (by assumption) ?_)
    | (with_reducible refine Fr.eqo (by assumption) ?_)
    | (with_reducible refine Fr.eqo2 (by assumption) ?_)
    | (with_reducible refine Fr.eqo22 (by assumption) ?_)
    | dsimp only
    | split
    | (with_reducible refine Fr.hbm ?_ rfl)

theorem State.windowStart_frame {g : Nat} {W : Nat} {s₀ s₁ : State} (h₀ : Fr W s₀ s₁) (hw : 4194306 &&& W = 4194306) :
    Fr W s₀ (State.windowStart s₁ g) := by
  refine Fr.lift hw h₀ ?_
  have h : Fr 4194306 s₁ s₁ := Fr.refl
  clear h₀ hw
  first | rw [State.windowStart] | unfold State.windowStart
  repeat' first
    | with_reducible assumption
    | (intro x; refine_lift have hb : ∀ y, y = x → Fr 4194306 s₁ y := ?_; ?_; all_goals first | (have hx := hb x rfl; clear hb; clear_value x) | (intro y hy; unfold x at hy; rw [hy]; clear hy y))
    | (intro x; clear_value x)
    | (lift_lets; intro x; refine_lift have hb : ∀ y, y = x → Fr 4194306 s₁ y := ?_; ?_; all_goals first | (have hx := hb x rfl; clear hb; clear_value x) | (intro y hy; unfold x at hy; rw [hy]; clear hy y))
    | (lift_lets; intro x; clear_value x)
    | (with_reducible refine State.setChan_frame ?_ rfl)
    | (with_reducible refine State.sf_frame ?_ rfl)
    | (with_reducible refine State.useMode_frame ?_ rfl)
    | (with_reducible refine Fr.ite ?_ ?_)
    | (with_reducible refine Fr.eq2 (by assumption) ?_)
    | (with_reducible refine Fr.eq22 (by assumption) ?_)
    | (with_reducible refine Fr.eq1 (by assumption) ?_)
    | (with_reducible refine Fr.eqo (by assumption) ?_)
    | (with_reducible refine Fr.eqo2 (by assumption) ?_)
    | (with_reducible refine Fr.eqo22 (by assumption) ?_)
    | (with_reducible exact Fr2.out (by assumption))
    | dsimp only
    | split
    | (with_reducible refine Fr.hbm ?_ rfl)

theorem State.countCycles_frame {g : Nat} {k : Nat} {W : Nat} {s₀ s₁ : State} (h₀ : Fr W s₀ s₁) (hw : 4194306 &&& W = 4194306) :
    Fr W s₀ (State.countCycles s₁ g k) := by
  refine Fr.lift hw h₀ ?_
  have h : Fr 4194306 s₁ s₁ := Fr.refl
  clear h₀ hw
  first | rw [State.countCycles] | unfold State.countCycles
  repeat' first
    | with_reducible assumption
    | (intro x; refine_lift have hb : ∀ y, y = x → Fr 4194306 s₁ y := ?_; ?_; all_goals first | (have hx := hb x rfl; clear hb; clear_value x) | (intro y hy; unfold x at hy; rw [hy]; clear hy y))
    | (intro x; clear_value x)
    | (lift_lets; intro x; refine_lift have hb : ∀ y, y = x → Fr 4194306 s₁ y := ?_; ?_; all_goals first | (have hx := hb x rfl; clear hb; clear_value x) | (intro y hy; unfold x at hy; rw [hy]; clear hy y))
    | (lift_lets; intro x; clear_value x)
    | (with_reducible refine State.setChan_frame ?_ rfl)
    | (with_reducible refine State.windowStart_frame ?_ rfl)
    | (with_reducible refine Fr.ite ?_ ?_)
    | (with_reducible exact Fr2.out (by assumption))
    | dsimp only
    | split

theorem State.perform_frame {r : HbmReq} {W : Nat} {s₀ s₁ : State} (h₀ : Fr W s₀ s₁) (hw : 131943547038774 &&& W = 131943547038774) :
    Fr W s₀ (State.perform s₁ r) := by
  refine Fr.lift hw h₀ ?_
  have h : Fr 131943547038774 s₁ s₁ := Fr.refl
  clear h₀ hw
  first | rw [State.perform] | unfold State.perform
  repeat' first
    | with_reducible assumption
    | (intro x; refine_lift have hb : ∀ y, y = x → Fr 131943547038774 s₁ y := ?_; ?_; all_goals first | (have hx := hb x rfl; clear hb; clear_value x) | (intro y hy; unfold x at hy; rw [hy]; clear hy y))
    | (intro x; clear_value x)
    | (lift_lets; intro x; refine_lift have hb : ∀ y, y = x → Fr 131943547038774 s₁ y := ?_; ?_; all_goals first | (have hx := hb x rfl; clear hb; clear_value x) | (intro y hy; unfold x at hy; rw [hy]; clear hy y))
    | (lift_lets; intro x; clear_value x)
    | (with_reducible refine State.hbmError_frame ?_ rfl)
    | (with_reducible refine State.setLineMark_frame ?_ rfl)
    | (with_reducible refine State.dropInjected_frame ?_ rfl)
    | (with_reducible refine State.readLine_frame ?_ rfl)
    | (with_reducible refine Fr2.out (State.readLine_frame ?_ rfl))
    | (with_reducible refine State.emit_frame ?_ rfl)
    | (with_reducible refine State.grant_frame ?_ rfl)
    | (with_reducible refine State.countCycles_frame ?_ rfl)
    | (with_reducible refine State.writeHbm_frame ?_ rfl)
    | (with_reducible refine Fr.ite ?_ ?_)
    | (with_reducible refine Fr.eq2 (by assumption) ?_)
    | (with_reducible refine Fr.eq22 (by assumption) ?_)
    | (with_reducible refine Fr.eq1 (by assumption) ?_)
    | (with_reducible refine Fr.eqo (by assumption) ?_)
    | (with_reducible refine Fr.eqo2 (by assumption) ?_)
    | (with_reducible refine Fr.eqo22 (by assumption) ?_)
    | (with_reducible exact Fr2.out (by assumption))
    | dsimp only
    | split
    | (with_reducible refine Fr.upd_answer32_answerErr ?_ rfl rfl)

theorem State.serveChan_frame {g : Nat} {x0 : Nat} {x1 : Nat} {W : Nat} {s₀ s₁ : State} (h₀ : Fr W s₀ s₁) (hw : 131943547038966 &&& W = 131943547038966) :
    Fr W s₀ (State.serveChan g x0 x1 s₁) := by
  refine Fr.lift hw h₀ ?_
  clear h₀ hw
  suffices main : ∀ (x0 : Nat) (g : Nat) (x1 : Nat) (z : State), Fr 131943547038966 s₁ z → Fr 131943547038966 s₁ (State.serveChan g x0 x1 z) from main x0 g x1 s₁ Fr.refl
  intro x0
  induction x0 with
  | zero =>
    intro g x1 z h
    first | rw [State.serveChan] | unfold State.serveChan
    repeat' first
      | with_reducible assumption
      | (intro x; refine_lift have hb : ∀ y, y = x → Fr 131943547038966 s₁ y := ?_; ?_; all_goals first | (have hx := hb x rfl; clear hb; clear_value x) | (intro y hy; unfold x at hy; rw [hy]; clear hy y))
      | (intro x; clear_value x)
      | (lift_lets; intro x; refine_lift have hb : ∀ y, y = x → Fr 131943547038966 s₁ y := ?_; ?_; all_goals first | (have hx := hb x rfl; clear hb; clear_value x) | (intro y hy; unfold x at hy; rw [hy]; clear hy y))
      | (lift_lets; intro x; clear_value x)
      | (with_reducible refine State.setChan_frame ?_ rfl)
      | (with_reducible refine State.countCycles_frame ?_ rfl)
      | (with_reducible refine State.lfsrAdvance_frame ?_ rfl)
      | (with_reducible refine State.draw_frame ?_ rfl)
      | (with_reducible refine Fr2.out (State.draw_frame ?_ rfl))
      | (with_reducible refine State.grant_frame ?_ rfl)
      | (with_reducible refine State.perform_frame ?_ rfl)
      | (with_reducible refine Fr.ite ?_ ?_)
      | (with_reducible refine Fr.eq2 (by assumption) ?_)
      | (with_reducible refine Fr.eq22 (by assumption) ?_)
      | (with_reducible refine Fr.eq1 (by assumption) ?_)
      | (with_reducible refine Fr.eqo (by assumption) ?_)
      | (with_reducible refine Fr.eqo2 (by assumption) ?_)
      | (with_reducible refine Fr.eqo22 (by assumption) ?_)
      | (with_reducible exact Fr2.out (by assumption))
      | dsimp only
      | split
      | (with_reducible refine Fr.hbm ?_ rfl)
  | succ n ih =>
    intro g x1 z h
    first | rw [State.serveChan] | unfold State.serveChan
    repeat' first
      | with_reducible assumption
      | (with_reducible refine ih _ _ _ ?_)
      | (intro x; refine_lift have hb : ∀ y, y = x → Fr 131943547038966 s₁ y := ?_; ?_; all_goals first | (have hx := hb x rfl; clear hb; clear_value x) | (intro y hy; unfold x at hy; rw [hy]; clear hy y))
      | (intro x; clear_value x)
      | (lift_lets; intro x; refine_lift have hb : ∀ y, y = x → Fr 131943547038966 s₁ y := ?_; ?_; all_goals first | (have hx := hb x rfl; clear hb; clear_value x) | (intro y hy; unfold x at hy; rw [hy]; clear hy y))
      | (lift_lets; intro x; clear_value x)
      | (with_reducible refine State.setChan_frame ?_ rfl)
      | (with_reducible refine State.countCycles_frame ?_ rfl)
      | (with_reducible refine State.lfsrAdvance_frame ?_ rfl)
      | (with_reducible refine State.draw_frame ?_ rfl)
      | (with_reducible refine Fr2.out (State.draw_frame ?_ rfl))
      | (with_reducible refine State.grant_frame ?_ rfl)
      | (with_reducible refine State.perform_frame ?_ rfl)
      | (with_reducible refine Fr.ite ?_ ?_)
      | (with_reducible refine Fr.eq2 (by assumption) ?_)
      | (with_reducible refine Fr.eq22 (by assumption) ?_)
      | (with_reducible refine Fr.eq1 (by assumption) ?_)
      | (with_reducible refine Fr.eqo (by assumption) ?_)
      | (with_reducible refine Fr.eqo2 (by assumption) ?_)
      | (with_reducible refine Fr.eqo22 (by assumption) ?_)
      | (with_reducible exact Fr2.out (by assumption))
      | dsimp only
      | split
      | (with_reducible refine Fr.hbm ?_ rfl)

theorem State.serve_frame {g : Nat} {gap : Nat} {W : Nat} {s₀ s₁ : State} (h₀ : Fr W s₀ s₁) (hw : 131943547038966 &&& W = 131943547038966) :
    Fr W s₀ (State.serve s₁ g gap) := by
  refine Fr.lift hw h₀ ?_
  have h : Fr 131943547038966 s₁ s₁ := Fr.refl
  clear h₀ hw
  first | rw [State.serve] | unfold State.serve
  repeat' first
    | with_reducible assumption
    | (with_reducible refine State.serveChan_frame ?_ rfl)
    | (with_reducible refine Fr.ite ?_ ?_)
    | split

theorem State.serveAll_frame {W : Nat} {s₀ s₁ : State} (h₀ : Fr W s₀ s₁) (hw : 131943547038966 &&& W = 131943547038966) :
    Fr W s₀ (State.serveAll s₁) := by
  refine Fr.lift hw h₀ ?_
  have h : Fr 131943547038966 s₁ s₁ := Fr.refl
  clear h₀ hw
  first | rw [State.serveAll] | unfold State.serveAll
  repeat' first
    | with_reducible assumption
    | (with_reducible refine State.serve_frame ?_ rfl)
    | (with_reducible refine Fr.foldl (fun z a h => ?_) ?_)
    | (with_reducible refine Fr.ite ?_ ?_)
    | split

theorem State.arrive_frame {r : HbmReq} {W : Nat} {s₀ s₁ : State} (h₀ : Fr W s₀ s₁) (hw : 4194304 &&& W = 4194304) :
    Fr W s₀ (State.arrive s₁ r) := by
  refine Fr.lift hw h₀ ?_
  have h : Fr 4194304 s₁ s₁ := Fr.refl
  clear h₀ hw
  first | rw [State.arrive] | unfold State.arrive
  repeat' first
    | with_reducible assumption
    | (intro x; refine_lift have hb : ∀ y, y = x → Fr 4194304 s₁ y := ?_; ?_; all_goals first | (have hx := hb x rfl; clear hb; clear_value x) | (intro y hy; unfold x at hy; rw [hy]; clear hy y))
    | (intro x; clear_value x)
    | (lift_lets; intro x; refine_lift have hb : ∀ y, y = x → Fr 4194304 s₁ y := ?_; ?_; all_goals first | (have hx := hb x rfl; clear hb; clear_value x) | (intro y hy; unfold x at hy; rw [hy]; clear hy y))
    | (lift_lets; intro x; clear_value x)
    | (with_reducible refine State.wakeStack_frame ?_ rfl)
    | (with_reducible refine Fr.ite ?_ ?_)
    | (with_reducible exact Fr2.out (by assumption))
    | dsimp only
    | split
    | (with_reducible refine Fr.hbm ?_ rfl)

theorem State.request_frame {r : HbmReq} {more : Bool} {gap : Nat} {W : Nat} {s₀ s₁ : State} (h₀ : Fr W s₀ s₁) (hw : 131943547038966 &&& W = 131943547038966) :
    Fr W s₀ (State.request s₁ r more gap) := by
  refine Fr.lift hw h₀ ?_
  have h : Fr 131943547038966 s₁ s₁ := Fr.refl
  clear h₀ hw
  first | rw [State.request] | unfold State.request
  repeat' first
    | with_reducible assumption
    | (with_reducible refine State.arrive_frame ?_ rfl)
    | (with_reducible refine State.serve_frame ?_ rfl)
    | (with_reducible refine Fr.ite ?_ ?_)
    | split

theorem State.holdAccess_frame {l : Nat} {a : Nat} {n : Nat} {data : Option (List Byte)} {poison : Bool} {x0 : Nat} {W : Nat} {s₀ s₁ : State} (h₀ : Fr W s₀ s₁) (hw : 4194304 &&& W = 4194304) :
    Fr W s₀ (State.holdAccess s₁ l a n data poison x0) := by
  refine Fr.lift hw h₀ ?_
  clear h₀ hw
  suffices main : ∀ (x0 : Nat) (l : Nat) (a : Nat) (n : Nat) (data : Option (List Byte)) (poison : Bool) (z : State), Fr 4194304 s₁ z → Fr 4194304 s₁ (State.holdAccess z l a n data poison x0) from main x0 l a n data poison s₁ Fr.refl
  intro x0
  induction x0 with
  | zero =>
    intro l a n data poison z h
    first | rw [State.holdAccess] | unfold State.holdAccess
    repeat' first
      | with_reducible assumption
      | (intro x; refine_lift have hb : ∀ y, y = x → Fr 4194304 s₁ y := ?_; ?_; all_goals first | (have hx := hb x rfl; clear hb; clear_value x) | (intro y hy; unfold x at hy; rw [hy]; clear hy y))
      | (intro x; clear_value x)
      | (lift_lets; intro x; refine_lift have hb : ∀ y, y = x → Fr 4194304 s₁ y := ?_; ?_; all_goals first | (have hx := hb x rfl; clear hb; clear_value x) | (intro y hy; unfold x at hy; rw [hy]; clear hy y))
      | (lift_lets; intro x; clear_value x)
      | (with_reducible refine State.arrive_frame ?_ rfl)
      | (with_reducible refine Fr.ite ?_ ?_)
      | (with_reducible exact Fr2.out (by assumption))
      | dsimp only
      | split
  | succ n ih =>
    intro l a n data poison z h
    first | rw [State.holdAccess] | unfold State.holdAccess
    repeat' first
      | with_reducible assumption
      | (with_reducible refine ih _ _ _ _ _ _ ?_)
      | (intro x; refine_lift have hb : ∀ y, y = x → Fr 4194304 s₁ y := ?_; ?_; all_goals first | (have hx := hb x rfl; clear hb; clear_value x) | (intro y hy; unfold x at hy; rw [hy]; clear hy y))
      | (intro x; clear_value x)
      | (lift_lets; intro x; refine_lift have hb : ∀ y, y = x → Fr 4194304 s₁ y := ?_; ?_; all_goals first | (have hx := hb x rfl; clear hb; clear_value x) | (intro y hy; unfold x at hy; rw [hy]; clear hy y))
      | (lift_lets; intro x; clear_value x)
      | (with_reducible refine State.arrive_frame ?_ rfl)
      | (with_reducible refine Fr.ite ?_ ?_)
      | (with_reducible exact Fr2.out (by assumption))
      | dsimp only
      | split

theorem State.setTemp_frame {off : Nat} {i : Nat} {t : Nat} {W : Nat} {s₀ s₁ : State} (h₀ : Fr W s₀ s₁) (hw : 2 &&& W = 2) :
    Fr W s₀ (State.setTemp s₁ off i t) := by
  refine Fr.lift hw h₀ ?_
  have h : Fr 2 s₁ s₁ := Fr.refl
  clear h₀ hw
  first | rw [State.setTemp] | unfold State.setTemp
  repeat' first
    | with_reducible assumption
    | (with_reducible refine State.wr_frame ?_ rfl)

theorem writeHbmCtl_frame {q : Requester} {v : W32} {W : Nat} {s₀ s₁ : State} (h₀ : Fr W s₀ s₁) (hw : 4194306 &&& W = 4194306) :
    Fr W s₀ (writeHbmCtl q v s₁) := by
  refine Fr.lift hw h₀ ?_
  have h : Fr 4194306 s₁ s₁ := Fr.refl
  clear h₀ hw
  first | rw [writeHbmCtl] | unfold writeHbmCtl
  repeat' first
    | with_reducible assumption
    | (lift_lets; intro x; refine_lift have hb : ∀ y, y = x → Fr 4194306 s₁ y := ?_; ?_; all_goals first | (have hx := hb x rfl; clear hb; clear_value x) | (intro y hy; unfold x at hy; rw [hy]; clear hy y))
    | (with_reducible refine State.wr_frame ?_ rfl)
    | (with_reducible refine State.sf_frame ?_ rfl)
    | (with_reducible refine Fr.ite ?_ ?_)
    | (with_reducible refine Fr.hbm ?_ rfl)

theorem writeArbLine_frame {q : Requester} {l : Nat} {v : W32} {W : Nat} {s₀ s₁ : State} (h₀ : Fr W s₀ s₁) (hw : 2 &&& W = 2) :
    Fr W s₀ (writeArbLine q l v s₁) := by
  refine Fr.lift hw h₀ ?_
  have h : Fr 2 s₁ s₁ := Fr.refl
  clear h₀ hw
  first | rw [writeArbLine] | unfold writeArbLine
  repeat' first
    | with_reducible assumption
    | (with_reducible refine State.wr_frame ?_ rfl)
    | (with_reducible refine Fr.ite ?_ ?_)

theorem writeArbClassmap_frame {q : Requester} {j : Nat} {v : W32} {W : Nat} {s₀ s₁ : State} (h₀ : Fr W s₀ s₁) (hw : 2 &&& W = 2) :
    Fr W s₀ (writeArbClassmap q j v s₁) := by
  refine Fr.lift hw h₀ ?_
  have h : Fr 2 s₁ s₁ := Fr.refl
  clear h₀ hw
  first | rw [writeArbClassmap] | unfold writeArbClassmap
  repeat' first
    | with_reducible assumption
    | (with_reducible refine State.wr_frame ?_ rfl)
    | (with_reducible refine Fr.ite ?_ ?_)

theorem writeArbCommit_frame {q : Requester} {v : W32} {W : Nat} {s₀ s₁ : State} (h₀ : Fr W s₀ s₁) (hw : 4194306 &&& W = 4194306) :
    Fr W s₀ (writeArbCommit q v s₁) := by
  refine Fr.lift hw h₀ ?_
  have h : Fr 4194306 s₁ s₁ := Fr.refl
  clear h₀ hw
  first | rw [writeArbCommit] | unfold writeArbCommit
  repeat' first
    | with_reducible assumption
    | (with_reducible refine State.arbCommit_frame ?_ rfl)
    | (intro x; refine_lift have hb : ∀ y, y = x → Fr 4194306 s₁ y := ?_; ?_; all_goals first | (have hx := hb x rfl; clear hb; clear_value x) | (intro y hy; unfold x at hy; rw [hy]; clear hy y))
    | (lift_lets; intro x; clear_value x)
    | (with_reducible refine State.sf_frame ?_ rfl)
    | (with_reducible refine Fr.ite ?_ ?_)
    | split
    | (with_reducible refine Fr.hbm ?_ rfl)

theorem writeArbMode_frame {q : Requester} {v : W32} {W : Nat} {s₀ s₁ : State} (h₀ : Fr W s₀ s₁) (hw : 2 &&& W = 2) :
    Fr W s₀ (writeArbMode q v s₁) := by
  refine Fr.lift hw h₀ ?_
  have h : Fr 2 s₁ s₁ := Fr.refl
  clear h₀ hw
  first | rw [writeArbMode] | unfold writeArbMode
  repeat' first
    | with_reducible assumption
    | (with_reducible refine State.loadMode_frame ?_ rfl)
    | (lift_lets; intro x; refine_lift have hb : ∀ y, y = x → Fr 2 s₁ y := ?_; ?_; all_goals first | (have hx := hb x rfl; clear hb; clear_value x) | (intro y hy; unfold x at hy; rw [hy]; clear hy y))
    | (lift_lets; intro x; clear_value x)
    | (with_reducible refine State.wr_frame ?_ rfl)
    | (with_reducible refine State.sf_frame ?_ rfl)
    | (with_reducible refine Fr.ite ?_ ?_)
    | (with_reducible refine Fr.foldl (fun z a h => ?_) ?_)

theorem State.freezeShow_frame {W : Nat} {s₀ s₁ : State} (h₀ : Fr W s₀ s₁) (hw : 2 &&& W = 2) :
    Fr W s₀ (State.freezeShow s₁) := by
  refine Fr.lift hw h₀ ?_
  have h : Fr 2 s₁ s₁ := Fr.refl
  clear h₀ hw
  first | rw [State.freezeShow] | unfold State.freezeShow
  repeat' first
    | with_reducible assumption
    | (with_reducible refine State.sf_frame ?_ rfl)

theorem writeArbFreeze_frame {q : Requester} {v : W32} {W : Nat} {s₀ s₁ : State} (h₀ : Fr W s₀ s₁) (hw : 131943547038966 &&& W = 131943547038966) :
    Fr W s₀ (writeArbFreeze q v s₁) := by
  refine Fr.lift hw h₀ ?_
  have h : Fr 131943547038966 s₁ s₁ := Fr.refl
  clear h₀ hw
  first | rw [writeArbFreeze] | unfold writeArbFreeze
  repeat' first
    | with_reducible assumption
    | (with_reducible refine State.serveAll_frame ?_ rfl)
    | (intro x; refine_lift have hb : ∀ y, y = x → Fr 131943547038966 s₁ y := ?_; ?_; all_goals first | (have hx := hb x rfl; clear hb; clear_value x) | (intro y hy; unfold x at hy; rw [hy]; clear hy y))
    | (intro x; clear_value x)
    | (lift_lets; intro x; clear_value x)
    | (with_reducible refine State.setChan_frame ?_ rfl)
    | (with_reducible refine State.sf_frame ?_ rfl)
    | (with_reducible refine State.freezeShow_frame ?_ rfl)
    | (with_reducible refine Fr.ite ?_ ?_)
    | (with_reducible refine Fr.foldl (fun z a h => ?_) ?_)

end Sys2Proof.Machine
end

