-- ==== Sys2Proof/Laws/FrameBoot.lean ====
section
/-! SUPPORT. Frames of the functions of Machine/Boot.lean: which parts of the state each may change. -/

namespace Sys2Proof.Machine

theorem State.fullReset_frame {W : Nat} {s₀ s₁ : State} (h₀ : Fr W s₀ s₁) (hw : 136322261973726 &&& W = 136322261973726) :
    Fr W s₀ (State.fullReset s₁) := by
  refine Fr.lift hw h₀ ⟨fun p hp => ?_, fun hc => ?_⟩
  · cases p <;> first | rfl | exact absurd hp (by decide)
  · exact ⟨rfl, Tab.wf_filter _ hc.2.1, hc.2.2.1, rfl, rfl, rfl, rfl⟩

theorem State.bootRom_frame {W : Nat} {s₀ s₁ : State} (h₀ : Fr W s₀ s₁) (hw : 96794608405794 &&& W = 96794608405794) :
    Fr W s₀ (State.bootRom s₁) := by
  refine Fr.lift hw h₀ ?_
  have h : Fr 96794608405794 s₁ s₁ := Fr.refl
  clear h₀ hw
  first | rw [State.bootRom] | unfold State.bootRom
  repeat' first
    | with_reducible assumption
    | (intro x; refine_lift have hb : ∀ y, y = x → Fr 96794608405794 s₁ y := ?_; ?_; all_goals first | (have hx := hb x rfl; clear hb; clear_value x) | (intro y hy; unfold x at hy; rw [hy]; clear hy y))
    | (intro x; clear_value x)
    | (lift_lets; intro x; clear_value x)
    | (with_reducible refine State.cfgWr_frame ?_ rfl)
    | (with_reducible refine State.wr_frame ?_ rfl)
    | (with_reducible refine State.extendMR_frame ?_ rfl)
    | (with_reducible refine State.sf_frame ?_ rfl)
    | (with_reducible refine State.deriveIdentity_frame ?_ rfl)
    | (with_reducible refine State.tick_frame ?_ rfl)
    | split
    | dsimp only
    | (with_reducible refine Fr.upd_faultN_pins ?_ rfl rfl)
    | (with_reducible refine Fr.fw ?_ rfl)
    | (with_reducible refine Fr.sec ?_ rfl)

theorem State.resetAndBoot_frame {W : Nat} {s₀ s₁ : State} (h₀ : Fr W s₀ s₁) (hw : 136322261975038 &&& W = 136322261975038) :
    Fr W s₀ (State.resetAndBoot s₁) := by
  refine Fr.lift hw h₀ ?_
  have h : Fr 136322261975038 s₁ s₁ := Fr.refl
  clear h₀ hw
  first | rw [State.resetAndBoot] | unfold State.resetAndBoot
  repeat' first
    | with_reducible assumption
    | (with_reducible refine State.bootRom_frame ?_ rfl)
    | (with_reducible refine State.fullReset_frame ?_ rfl)
    | (with_reducible refine Fr.ite ?_ ?_)

end Sys2Proof.Machine
end

