-- ==== Sys2Proof/Laws/FrameQueues.lean ====
section
/-! SUPPORT. Frames of the functions of Machine/Queues.lean: which parts of the state each may change. -/

namespace Sys2Proof.Machine

theorem State.setIq_frame {key : Nat} {v : IQueue} {W : Nat} {s₀ s₁ : State} (h₀ : Fr W s₀ s₁) (hw : 8589934592 &&& W = 8589934592) :
    Fr W s₀ (State.setIq s₁ key v) := by
  refine Fr.lift hw h₀ ?_
  have h : Fr 8589934592 s₁ s₁ := Fr.refl
  clear h₀ hw
  first | rw [State.setIq] | unfold State.setIq
  repeat' first
    | with_reducible assumption
    | (with_reducible refine Fr.iq ?_ rfl)

theorem State.instWrite_frame {i : Nat} {a : Nat} {bs : List Byte} {W : Nat} {s₀ s₁ : State} (h₀ : Fr W s₀ s₁) (hw : 32 &&& W = 32) :
    Fr W s₀ (State.instWrite s₁ i a bs) := by
  refine Fr.lift hw h₀ ?_
  have h : Fr 32 s₁ s₁ := Fr.refl
  clear h₀ hw
  first | rw [State.instWrite] | unfold State.instWrite
  repeat' first
    | with_reducible assumption
    | (with_reducible refine State.hostPut_frame ?_ rfl)
    | (with_reducible refine Fr.ite ?_ ?_)

theorem State.instVec_frame {i : Nat} {v : Nat} {W : Nat} {s₀ s₁ : State} (h₀ : Fr W s₀ s₁) (hw : 6442450946 &&& W = 6442450946) :
    Fr W s₀ (State.instVec s₁ i v) := by
  refine Fr.lift hw h₀ ?_
  have h : Fr 6442450946 s₁ s₁ := Fr.refl
  clear h₀ hw
  first | rw [State.instVec] | unfold State.instVec
  repeat' first
    | with_reducible assumption
    | (lift_lets; intro x; clear_value x)
    | (with_reducible refine State.setInst_frame ?_ rfl)
    | (with_reducible refine State.raise_frame ?_ rfl)
    | split

theorem State.queueFroze_frame {i : Nat} {kind : Nat} {n : Nat} {status : Nat} {W : Nat} {s₀ s₁ : State} (h₀ : Fr W s₀ s₁) (hw : 6442454050 &&& W = 6442454050) :
    Fr W s₀ (State.queueFroze s₁ i kind n status) := by
  refine Fr.lift hw h₀ ?_
  have h : Fr 6442454050 s₁ s₁ := Fr.refl
  clear h₀ hw
  first | rw [State.queueFroze] | unfold State.queueFroze
  repeat' first
    | with_reducible assumption
    | (lift_lets; intro x; clear_value x)
    | (with_reducible refine State.setInst_frame ?_ rfl)
    | (with_reducible refine State.instEvent_frame ?_ rfl)

theorem State.stray_frame {i : Nat} {W : Nat} {s₀ s₁ : State} (h₀ : Fr W s₀ s₁) (hw : 4294967296 &&& W = 4294967296) :
    Fr W s₀ (State.stray s₁ i) := by
  refine Fr.lift hw h₀ ?_
  have h : Fr 4294967296 s₁ s₁ := Fr.refl
  clear h₀ hw
  first | rw [State.stray] | unfold State.stray
  repeat' first
    | with_reducible assumption
    | (lift_lets; intro x; clear_value x)
    | (with_reducible refine State.setInst_frame ?_ rfl)

theorem State.late_frame {i : Nat} {W : Nat} {s₀ s₁ : State} (h₀ : Fr W s₀ s₁) (hw : 4294967296 &&& W = 4294967296) :
    Fr W s₀ (State.late s₁ i) := by
  refine Fr.lift hw h₀ ?_
  have h : Fr 4294967296 s₁ s₁ := Fr.refl
  clear h₀ hw
  first | rw [State.late] | unfold State.late
  repeat' first
    | with_reducible assumption
    | (lift_lets; intro x; clear_value x)
    | (with_reducible refine State.setInst_frame ?_ rfl)

theorem State.putCompletion_frame {key : Nat} {q : IQueue} {bs : List Byte} {W : Nat} {s₀ s₁ : State} (h₀ : Fr W s₀ s₁) (hw : 15032385570 &&& W = 15032385570) :
    Fr W s₀ (State.putCompletion s₁ key q bs) := by
  refine Fr.lift hw h₀ ?_
  have h : Fr 15032385570 s₁ s₁ := Fr.refl
  clear h₀ hw
  first | rw [State.putCompletion] | unfold State.putCompletion
  repeat' first
    | with_reducible assumption
    | (with_reducible refine State.instWrite_frame ?_ rfl)
    | (with_reducible refine State.instVec_frame ?_ rfl)
    | (with_reducible refine State.setIq_frame ?_ rfl)

theorem State.flushOwed_frame {key : Nat} {x1 : Nat} {W : Nat} {s₀ s₁ : State} (h₀ : Fr W s₀ s₁) (hw : 15032385570 &&& W = 15032385570) :
    Fr W s₀ (State.flushOwed key x1 s₁) := by
  refine Fr.lift hw h₀ ?_
  clear h₀ hw
  suffices main : ∀ (x1 : Nat) (key : Nat) (z : State), Fr 15032385570 s₁ z → Fr 15032385570 s₁ (State.flushOwed key x1 z) from main x1 key s₁ Fr.refl
  intro x1
  induction x1 with
  | zero =>
    intro key z h
    first | rw [State.flushOwed] | unfold State.flushOwed
    repeat' first
      | with_reducible assumption
      | (with_reducible refine ih _ _ ?_)
      | (with_reducible refine State.putCompletion_frame ?_ rfl)
      | (with_reducible refine Fr.ite ?_ ?_)
      | split
  | succ n ih =>
    intro key z h
    first | rw [State.flushOwed] | unfold State.flushOwed
    repeat' first
      | with_reducible assumption
      | (with_reducible refine ih _ _ ?_)
      | (with_reducible refine State.putCompletion_frame ?_ rfl)
      | (with_reducible refine Fr.ite ?_ ?_)
      | split

theorem State.iqComplete_frame {key : Nat} {bs : List Byte} {W : Nat} {s₀ s₁ : State} (h₀ : Fr W s₀ s₁) (hw : 15032385570 &&& W = 15032385570) :
    Fr W s₀ (State.iqComplete s₁ key bs) := by
  refine Fr.lift hw h₀ ?_
  have h : Fr 15032385570 s₁ s₁ := Fr.refl
  clear h₀ hw
  first | rw [State.iqComplete] | unfold State.iqComplete
  repeat' first
    | with_reducible assumption
    | (lift_lets; intro x; clear_value x)
    | (with_reducible refine State.flushOwed_frame ?_ rfl)
    | (with_reducible refine State.setIq_frame ?_ rfl)
    | split

theorem State.takeBuffer_frame {n : Nat} {W : Nat} {s₀ s₁ : State} (h₀ : Fr W s₀ s₁) (hw : 8589934592 &&& W = 8589934592) :
    FrO W s₀ ((State.takeBuffer s₁ n).map (fun p => p.2.2)) := by
  refine FrO.lift hw h₀ ?_
  have h : Fr 8589934592 s₁ s₁ := Fr.refl
  clear h₀ hw
  first | rw [State.takeBuffer] | unfold State.takeBuffer
  repeat' first
    | with_reducible assumption
    | (exact FrO.none)
    | (with_reducible refine FrO.map_some ?_)
    | (lift_lets; intro x; clear_value x)
    | (with_reducible refine State.setIq_frame ?_ rfl)
    | split

theorem State.iqReap_frame {key : Nat} {W : Nat} {s₀ s₁ : State} (h₀ : Fr W s₀ s₁) (hw : 8589936640 &&& W = 8589936640) :
    Fr W s₀ (State.iqReap s₁ key) := by
  refine Fr.lift hw h₀ ?_
  have h : Fr 8589936640 s₁ s₁ := Fr.refl
  clear h₀ hw
  first | rw [State.iqReap] | unfold State.iqReap
  repeat' first
    | with_reducible assumption
    | (with_reducible refine State.answer_frame ?_ rfl)
    | (with_reducible refine Fr.ite ?_ ?_)
    | split
    | (with_reducible refine Fr.iq ?_ rfl)

theorem State.iqDone_frame {key : Nat} {W : Nat} {s₀ s₁ : State} (h₀ : Fr W s₀ s₁) (hw : 8589936640 &&& W = 8589936640) :
    Fr W s₀ (State.iqDone s₁ key) := by
  refine Fr.lift hw h₀ ?_
  have h : Fr 8589936640 s₁ s₁ := Fr.refl
  clear h₀ hw
  first | rw [State.iqDone] | unfold State.iqDone
  repeat' first
    | with_reducible assumption
    | (with_reducible refine State.iqReap_frame ?_ rfl)
    | (with_reducible refine State.setIq_frame ?_ rfl)
    | split

theorem State.setTahr_frame {c : Nat} {t : Tahr} {W : Nat} {s₀ s₁ : State} (h₀ : Fr W s₀ s₁) (hw : 549755813888 &&& W = 549755813888) :
    Fr W s₀ (State.setTahr s₁ c t) := by
  refine Fr.lift hw h₀ ?_
  have h : Fr 549755813888 s₁ s₁ := Fr.refl
  clear h₀ hw
  first | rw [State.setTahr] | unfold State.setTahr
  repeat' first
    | with_reducible assumption
    | (with_reducible refine Fr.tahr ?_ rfl)

theorem State.setEvents_frame {c : Nat} {mask : W32} {W : Nat} {s₀ s₁ : State} (h₀ : Fr W s₀ s₁) (hw : 549755813888 &&& W = 549755813888) :
    Fr W s₀ (State.setEvents s₁ c mask) := by
  refine Fr.lift hw h₀ ?_
  have h : Fr 549755813888 s₁ s₁ := Fr.refl
  clear h₀ hw
  first | rw [State.setEvents] | unfold State.setEvents
  repeat' first
    | with_reducible assumption
    | (lift_lets; intro x; clear_value x)
    | (with_reducible refine State.setTahr_frame ?_ rfl)

end Sys2Proof.Machine
end

