-- ==== Sys2Proof/Laws/FrameSto.lean ====
section
/-! SUPPORT. Frames of the functions of Machine/Sto.lean: which parts of the state each may change. -/

namespace Sys2Proof.Machine

theorem State.setBacking_frame {b : Nat} {v : Backing} {W : Nat} {s₀ s₁ : State} (h₀ : Fr W s₀ s₁) (hw : 536870912 &&& W = 536870912) :
    Fr W s₀ (State.setBacking s₁ b v) := by
  refine Fr.lift hw h₀ ?_
  have h : Fr 536870912 s₁ s₁ := Fr.refl
  clear h₀ hw
  first | rw [State.setBacking] | unfold State.setBacking
  repeat' first
    | with_reducible assumption
    | (lift_lets; intro x; clear_value x)
    | (with_reducible refine Fr.sto ?_ rfl)

theorem State.showDrive_frame {b : Nat} {W : Nat} {s₀ s₁ : State} (h₀ : Fr W s₀ s₁) (hw : 2 &&& W = 2) :
    Fr W s₀ (State.showDrive s₁ b) := by
  refine Fr.lift hw h₀ ?_
  have h : Fr 2 s₁ s₁ := Fr.refl
  clear h₀ hw
  first | rw [State.showDrive] | unfold State.showDrive
  repeat' first
    | with_reducible assumption
    | (with_reducible refine State.sf_frame ?_ rfl)
    | (with_reducible refine Fr.ite ?_ ?_)

theorem State.showDrives_frame {W : Nat} {s₀ s₁ : State} (h₀ : Fr W s₀ s₁) (hw : 2 &&& W = 2) :
    Fr W s₀ (State.showDrives s₁) := by
  refine Fr.lift hw h₀ ?_
  have h : Fr 2 s₁ s₁ := Fr.refl
  clear h₀ hw
  first | rw [State.showDrives] | unfold State.showDrives
  repeat' first
    | with_reducible assumption
    | (with_reducible refine State.showDrive_frame ?_ rfl)
    | (with_reducible refine Fr.foldl (fun z a h => ?_) ?_)

theorem State.setStoQ_frame {n : Nat} {q : StoQ} {W : Nat} {s₀ s₁ : State} (h₀ : Fr W s₀ s₁) (hw : 536870912 &&& W = 536870912) :
    Fr W s₀ (State.setStoQ s₁ n q) := by
  refine Fr.lift hw h₀ ?_
  have h : Fr 536870912 s₁ s₁ := Fr.refl
  clear h₀ hw
  first | rw [State.setStoQ] | unfold State.setStoQ
  repeat' first
    | with_reducible assumption
    | (lift_lets; intro x; clear_value x)
    | (with_reducible refine Fr.sto ?_ rfl)

theorem State.dropStoQ_frame {n : Nat} {W : Nat} {s₀ s₁ : State} (h₀ : Fr W s₀ s₁) (hw : 536870912 &&& W = 536870912) :
    Fr W s₀ (State.dropStoQ s₁ n) := by
  refine Fr.lift hw h₀ ?_
  have h : Fr 536870912 s₁ s₁ := Fr.refl
  clear h₀ hw
  first | rw [State.dropStoQ] | unfold State.dropStoQ
  repeat' first
    | with_reducible assumption
    | (lift_lets; intro x; clear_value x)
    | (with_reducible refine Fr.sto ?_ rfl)

theorem State.setStoCmd_frame {c : StoCmd} {W : Nat} {s₀ s₁ : State} (h₀ : Fr W s₀ s₁) (hw : 536870912 &&& W = 536870912) :
    Fr W s₀ (State.setStoCmd s₁ c) := by
  refine Fr.lift hw h₀ ?_
  have h : Fr 536870912 s₁ s₁ := Fr.refl
  clear h₀ hw
  first | rw [State.setStoCmd] | unfold State.setStoCmd
  repeat' first
    | with_reducible assumption
    | (lift_lets; intro x; clear_value x)
    | (with_reducible refine Fr.sto ?_ rfl)

theorem State.showLocks_frame {W : Nat} {s₀ s₁ : State} (h₀ : Fr W s₀ s₁) (hw : 2 &&& W = 2) :
    Fr W s₀ (State.showLocks s₁) := by
  refine Fr.lift hw h₀ ?_
  have h : Fr 2 s₁ s₁ := Fr.refl
  clear h₀ hw
  first | rw [State.showLocks] | unfold State.showLocks
  repeat' first
    | with_reducible assumption
    | (with_reducible refine State.sf_frame ?_ rfl)

theorem State.stoLog_frame {n : Nat} {e : StoErr} {W : Nat} {s₀ s₁ : State} (h₀ : Fr W s₀ s₁) (hw : 536870912 &&& W = 536870912) :
    Fr2 W s₀ (State.stoLog s₁ n e) := by
  refine Fr2.lift hw h₀ ?_
  have h : Fr 536870912 s₁ s₁ := Fr.refl
  clear h₀ hw
  first | rw [State.stoLog] | unfold State.stoLog
  repeat' first
    | with_reducible assumption
    | (lift_lets; intro x; clear_value x)
    | (with_reducible refine State.setStoQ_frame ?_ rfl)
    | split
    | (with_reducible refine Fr2.pair ?_)

theorem State.stoFreeze_frame {n : Nat} {status : Nat} {W : Nat} {s₀ s₁ : State} (h₀ : Fr W s₀ s₁) (hw : 6979324962 &&& W = 6979324962) :
    Fr W s₀ (State.stoFreeze s₁ n status) := by
  refine Fr.lift hw h₀ ?_
  have h : Fr 6979324962 s₁ s₁ := Fr.refl
  clear h₀ hw
  first | rw [State.stoFreeze] | unfold State.stoFreeze
  repeat' first
    | with_reducible assumption
    | (intro x; clear_value x)
    | (lift_lets; intro x; clear_value x)
    | (with_reducible refine State.setStoQ_frame ?_ rfl)
    | (with_reducible refine State.queueFroze_frame ?_ rfl)
    | (with_reducible refine State.cnt_frame ?_ rfl)
    | (with_reducible refine Fr.ite ?_ ?_)
    | split

theorem State.stoSignal_frame {n : Nat} {W : Nat} {s₀ s₁ : State} (h₀ : Fr W s₀ s₁) (hw : 6979321858 &&& W = 6979321858) :
    Fr W s₀ (State.stoSignal s₁ n) := by
  refine Fr.lift hw h₀ ?_
  have h : Fr 6979321858 s₁ s₁ := Fr.refl
  clear h₀ hw
  first | rw [State.stoSignal] | unfold State.stoSignal
  repeat' first
    | with_reducible assumption
    | (with_reducible refine State.setStoQ_frame ?_ rfl)
    | (with_reducible refine State.instVec_frame ?_ rfl)
    | (with_reducible refine Fr.ite ?_ ?_)
    | split

theorem State.stoWrite1_frame {n : Nat} {W : Nat} {s₀ s₁ : State} (h₀ : Fr W s₀ s₁) (hw : 6979321890 &&& W = 6979321890) :
    Fr W s₀ (State.stoWrite1 s₁ n) := by
  refine Fr.lift hw h₀ ?_
  have h : Fr 6979321890 s₁ s₁ := Fr.refl
  clear h₀ hw
  first | rw [State.stoWrite1] | unfold State.stoWrite1
  repeat' first
    | with_reducible assumption
    | (lift_lets; intro x; clear_value x)
    | (with_reducible refine State.instWrite_frame ?_ rfl)
    | (with_reducible refine State.stoSignal_frame ?_ rfl)
    | (with_reducible refine State.setStoQ_frame ?_ rfl)
    | split
    | dsimp only

theorem State.stoWriteAll_frame {n : Nat} {x1 : Nat} {W : Nat} {s₀ s₁ : State} (h₀ : Fr W s₀ s₁) (hw : 6979321890 &&& W = 6979321890) :
    Fr W s₀ (State.stoWriteAll n x1 s₁) := by
  refine Fr.lift hw h₀ ?_
  clear h₀ hw
  suffices main : ∀ (x1 : Nat) (n : Nat) (z : State), Fr 6979321890 s₁ z → Fr 6979321890 s₁ (State.stoWriteAll n x1 z) from main x1 n s₁ Fr.refl
  intro x1
  induction x1 with
  | zero =>
    intro n z h
    first | rw [State.stoWriteAll] | unfold State.stoWriteAll
    repeat' first
      | with_reducible assumption
      | (with_reducible refine ih _ _ ?_)
      | (with_reducible refine State.stoWrite1_frame ?_ rfl)
  | succ n ih =>
    intro n z h
    first | rw [State.stoWriteAll] | unfold State.stoWriteAll
    repeat' first
      | with_reducible assumption
      | (with_reducible refine ih _ _ ?_)
      | (with_reducible refine State.stoWrite1_frame ?_ rfl)

theorem State.stoWriteOwed_frame {W : Nat} {s₀ s₁ : State} (h₀ : Fr W s₀ s₁) (hw : 6979321890 &&& W = 6979321890) :
    Fr W s₀ (State.stoWriteOwed s₁) := by
  refine Fr.lift hw h₀ ?_
  have h : Fr 6979321890 s₁ s₁ := Fr.refl
  clear h₀ hw
  first | rw [State.stoWriteOwed] | unfold State.stoWriteOwed
  repeat' first
    | with_reducible assumption
    | (with_reducible refine State.stoWriteAll_frame ?_ rfl)
    | (with_reducible refine Fr.foldl (fun z a h => ?_) ?_)

theorem State.stoReap_frame {n : Nat} {W : Nat} {s₀ s₁ : State} (h₀ : Fr W s₀ s₁) (hw : 536872960 &&& W = 536872960) :
    Fr W s₀ (State.stoReap s₁ n) := by
  refine Fr.lift hw h₀ ?_
  have h : Fr 536872960 s₁ s₁ := Fr.refl
  clear h₀ hw
  first | rw [State.stoReap] | unfold State.stoReap
  repeat' first
    | with_reducible assumption
    | (with_reducible refine State.answer_frame ?_ rfl)
    | (with_reducible refine State.dropStoQ_frame ?_ rfl)
    | (with_reducible refine Fr.ite ?_ ?_)
    | split

theorem State.stoApply_frame {x0 : Nat} {W : Nat} {s₀ s₁ : State} (h₀ : Fr W s₀ s₁) (hw : 131944083885118 &&& W = 131944083885118) :
    Fr W s₀ (State.stoApply x0 s₁) := by
  refine Fr.lift hw h₀ ?_
  clear h₀ hw
  suffices main : ∀ (x0 : Nat)  (z : State), Fr 131944083885118 s₁ z → Fr 131944083885118 s₁ (State.stoApply x0 z) from main x0  s₁ Fr.refl
  intro x0
  induction x0 with
  | zero =>
    intro  z h
    first | rw [State.stoApply] | unfold State.stoApply
    repeat' first
      | with_reducible assumption
      | (intro x; refine_lift have hb : ∀ y, y = x → Fr 131944083885118 s₁ y := ?_; ?_; all_goals first | (have hx := hb x rfl; clear hb; clear_value x) | (intro y hy; unfold x at hy; rw [hy]; clear hy y))
      | (lift_lets; intro x; refine_lift have hb : ∀ y, y = x → Fr 131944083885118 s₁ y := ?_; ?_; all_goals first | (have hx := hb x rfl; clear hb; clear_value x) | (intro y hy; unfold x at hy; rw [hy]; clear hy y))
      | (lift_lets; intro x; clear_value x)
      | (with_reducible refine ih _ ?_)
      | (with_reducible refine State.answer_frame ?_ rfl)
      | (with_reducible refine State.poke_frame ?_ rfl)
      | split
      | (with_reducible refine Fr.sto ?_ rfl)
  | succ n ih =>
    intro  z h
    first | rw [State.stoApply] | unfold State.stoApply
    repeat' first
      | with_reducible assumption
      | (intro x; refine_lift have hb : ∀ y, y = x → Fr 131944083885118 s₁ y := ?_; ?_; all_goals first | (have hx := hb x rfl; clear hb; clear_value x) | (intro y hy; unfold x at hy; rw [hy]; clear hy y))
      | (lift_lets; intro x; refine_lift have hb : ∀ y, y = x → Fr 131944083885118 s₁ y := ?_; ?_; all_goals first | (have hx := hb x rfl; clear hb; clear_value x) | (intro y hy; unfold x at hy; rw [hy]; clear hy y))
      | (lift_lets; intro x; clear_value x)
      | (with_reducible refine ih _ ?_)
      | (with_reducible refine State.answer_frame ?_ rfl)
      | (with_reducible refine State.poke_frame ?_ rfl)
      | split
      | (with_reducible refine Fr.sto ?_ rfl)

theorem State.stoComplete_frame {c : StoCmd} {W : Nat} {s₀ s₁ : State} (h₀ : Fr W s₀ s₁) (hw : 131948378852414 &&& W = 131948378852414) :
    Fr W s₀ (State.stoComplete s₁ c) := by
  refine Fr.lift hw h₀ ?_
  have h : Fr 131948378852414 s₁ s₁ := Fr.refl
  clear h₀ hw
  first | rw [State.stoComplete] | unfold State.stoComplete
  repeat' first
    | with_reducible assumption
    | (lift_lets; intro x; clear_value x)
    | (with_reducible refine State.stoReap_frame ?_ rfl)
    | (with_reducible refine State.stoLog_frame ?_ rfl)
    | (with_reducible refine State.late_frame ?_ rfl)
    | (with_reducible refine State.setStoQ_frame ?_ rfl)
    | (with_reducible refine State.showLocks_frame ?_ rfl)
    | (with_reducible refine State.stoWriteAll_frame ?_ rfl)
    | (with_reducible refine State.stoFreeze_frame ?_ rfl)
    | (with_reducible refine State.stoApply_frame ?_ rfl)
    | (with_reducible refine State.cnt_frame ?_ rfl)
    | (with_reducible refine Fr.ite ?_ ?_)
    | (with_reducible refine Fr2.out (Fr2.ite ?_ ?_))
    | split
    | (with_reducible refine Fr2.pair ?_)
    | (with_reducible refine Fr.sto ?_ rfl)

theorem State.stoMoved_frame {c : StoCmd} {status : Nat} {W : Nat} {s₀ s₁ : State} (h₀ : Fr W s₀ s₁) (hw : 131948378852414 &&& W = 131948378852414) :
    Fr W s₀ (State.stoMoved s₁ c status) := by
  refine Fr.lift hw h₀ ?_
  have h : Fr 131948378852414 s₁ s₁ := Fr.refl
  clear h₀ hw
  first | rw [State.stoMoved] | unfold State.stoMoved
  repeat' first
    | with_reducible assumption
    | (with_reducible refine State.stoComplete_frame ?_ rfl)
    | (with_reducible refine State.setStoCmd_frame ?_ rfl)
    | (with_reducible refine State.showDrives_frame ?_ rfl)
    | (with_reducible refine Fr.ite ?_ ?_)

theorem State.stoPartsDone_frame {c : StoCmd} {W : Nat} {s₀ s₁ : State} (h₀ : Fr W s₀ s₁) (hw : 131948378852414 &&& W = 131948378852414) :
    Fr W s₀ (State.stoPartsDone s₁ c) := by
  refine Fr.lift hw h₀ ?_
  have h : Fr 131948378852414 s₁ s₁ := Fr.refl
  clear h₀ hw
  first | rw [State.stoPartsDone] | unfold State.stoPartsDone
  repeat' first
    | with_reducible assumption
    | (with_reducible refine State.stoMoved_frame ?_ rfl)

theorem State.stoBackingLost_frame {b : Nat} {W : Nat} {s₀ s₁ : State} (h₀ : Fr W s₀ s₁) (hw : 131948378852414 &&& W = 131948378852414) :
    Fr W s₀ (State.stoBackingLost s₁ b) := by
  refine Fr.lift hw h₀ ?_
  have h : Fr 131948378852414 s₁ s₁ := Fr.refl
  clear h₀ hw
  first | rw [State.stoBackingLost] | unfold State.stoBackingLost
  repeat' first
    | with_reducible assumption
    | (intro x; clear_value x)
    | (lift_lets; intro x; clear_value x)
    | (with_reducible refine State.stoMoved_frame ?_ rfl)
    | (with_reducible refine State.stoPartsDone_frame ?_ rfl)
    | (with_reducible refine State.setStoCmd_frame ?_ rfl)
    | (with_reducible refine State.showDrives_frame ?_ rfl)
    | (with_reducible refine Fr.ite ?_ ?_)
    | (with_reducible refine Fr.foldl (fun z a h => ?_) ?_)
    | split

theorem State.stoConnError_frame {conn : Nat} {W : Nat} {s₀ s₁ : State} (h₀ : Fr W s₀ s₁) (hw : 131948378852414 &&& W = 131948378852414) :
    Fr W s₀ (State.stoConnError s₁ conn) := by
  refine Fr.lift hw h₀ ?_
  have h : Fr 131948378852414 s₁ s₁ := Fr.refl
  clear h₀ hw
  first | rw [State.stoConnError] | unfold State.stoConnError
  repeat' first
    | with_reducible assumption
    | (with_reducible refine State.stoBackingLost_frame ?_ rfl)
    | (with_reducible refine Fr.ite ?_ ?_)
    | (with_reducible refine Fr.foldl (fun z a h => ?_) ?_)

theorem State.stoHostDown_frame {W : Nat} {s₀ s₁ : State} (h₀ : Fr W s₀ s₁) (hw : 536870912 &&& W = 536870912) :
    Fr W s₀ (State.stoHostDown s₁) := by
  refine Fr.lift hw h₀ ?_
  have h : Fr 536870912 s₁ s₁ := Fr.refl
  clear h₀ hw
  first | rw [State.stoHostDown] | unfold State.stoHostDown
  repeat' first
    | with_reducible assumption
    | (lift_lets; intro x; clear_value x)
    | (with_reducible refine Fr.sto ?_ rfl)

theorem State.stoQuiesce_frame {i : Nat} {W : Nat} {s₀ s₁ : State} (h₀ : Fr W s₀ s₁) (hw : 536870912 &&& W = 536870912) :
    Fr W s₀ (State.stoQuiesce s₁ i) := by
  refine Fr.lift hw h₀ ?_
  have h : Fr 536870912 s₁ s₁ := Fr.refl
  clear h₀ hw
  first | rw [State.stoQuiesce] | unfold State.stoQuiesce
  repeat' first
    | with_reducible assumption
    | (lift_lets; intro x; clear_value x)
    | dsimp only
    | (with_reducible refine Fr.sto ?_ rfl)

theorem State.stoUnquiesce_frame {i : Nat} {W : Nat} {s₀ s₁ : State} (h₀ : Fr W s₀ s₁) (hw : 6979321890 &&& W = 6979321890) :
    Fr W s₀ (State.stoUnquiesce s₁ i) := by
  refine Fr.lift hw h₀ ?_
  have h : Fr 6979321890 s₁ s₁ := Fr.refl
  clear h₀ hw
  first | rw [State.stoUnquiesce] | unfold State.stoUnquiesce
  repeat' first
    | with_reducible assumption
    | (lift_lets; intro x; clear_value x)
    | (with_reducible refine State.stoWriteOwed_frame ?_ rfl)
    | dsimp only
    | (with_reducible refine Fr.sto ?_ rfl)

theorem State.stoPause_frame {W : Nat} {s₀ s₁ : State} (h₀ : Fr W s₀ s₁) (hw : 536870912 &&& W = 536870912) :
    Fr W s₀ (State.stoPause s₁) := by
  refine Fr.lift hw h₀ ?_
  have h : Fr 536870912 s₁ s₁ := Fr.refl
  clear h₀ hw
  first | rw [State.stoPause] | unfold State.stoPause
  repeat' first
    | with_reducible assumption
    | (lift_lets; intro x; clear_value x)
    | dsimp only
    | (with_reducible refine Fr.sto ?_ rfl)

theorem State.stoResume_frame {W : Nat} {s₀ s₁ : State} (h₀ : Fr W s₀ s₁) (hw : 536870912 &&& W = 536870912) :
    Fr W s₀ (State.stoResume s₁) := by
  refine Fr.lift hw h₀ ?_
  have h : Fr 536870912 s₁ s₁ := Fr.refl
  clear h₀ hw
  first | rw [State.stoResume] | unfold State.stoResume
  repeat' first
    | with_reducible assumption
    | (lift_lets; intro x; clear_value x)
    | dsimp only
    | (with_reducible refine Fr.sto ?_ rfl)

theorem State.stoInstReset_frame {i : Nat} {W : Nat} {s₀ s₁ : State} (h₀ : Fr W s₀ s₁) (hw : 536872960 &&& W = 536872960) :
    Fr W s₀ (State.stoInstReset s₁ i) := by
  refine Fr.lift hw h₀ ?_
  have h : Fr 536872960 s₁ s₁ := Fr.refl
  clear h₀ hw
  first | rw [State.stoInstReset] | unfold State.stoInstReset
  repeat' first
    | with_reducible assumption
    | (lift_lets; intro x; refine_lift have hb : ∀ y, y = x → Fr 536872960 s₁ y := ?_; ?_; all_goals first | (have hx := hb x rfl; clear hb; clear_value x) | (intro y hy; unfold x at hy; rw [hy]; clear hy y))
    | (with_reducible refine State.answer_frame ?_ rfl)
    | (with_reducible refine State.dropStoQ_frame ?_ rfl)
    | (with_reducible refine Fr.ite ?_ ?_)
    | (with_reducible refine Fr.foldl (fun z a h => ?_) ?_)
    | split

end Sys2Proof.Machine
end

