-- ==== Sys2Proof/Laws/FrameStorage.lean ====
section
/-! SUPPORT. Frames of the functions of Machine/Storage.lean: which parts of the state each may change. -/

namespace Sys2Proof.Machine

theorem State.submissionDoorbell_frame {i : Nat} {ix : Nat} {v : Nat} {W : Nat} {s₀ s₁ : State} (h₀ : Fr W s₀ s₁) (hw : 6979324962 &&& W = 6979324962) :
    Fr W s₀ (State.submissionDoorbell i ix v s₁) := by
  refine Fr.lift hw h₀ ?_
  have h : Fr 6979324962 s₁ s₁ := Fr.refl
  clear h₀ hw
  first | rw [State.submissionDoorbell] | unfold State.submissionDoorbell
  repeat' first
    | with_reducible assumption
    | (with_reducible refine State.setStoQ_frame ?_ rfl)
    | (with_reducible refine State.stoFreeze_frame ?_ rfl)
    | (with_reducible refine State.stray_frame ?_ rfl)
    | (with_reducible refine Fr.ite ?_ ?_)
    | (with_reducible refine Fr2.out (State.stoLog_frame ?_ rfl))
    | split

theorem State.completionDoorbell_frame {i : Nat} {ix : Nat} {v : Nat} {W : Nat} {s₀ s₁ : State} (h₀ : Fr W s₀ s₁) (hw : 4831838208 &&& W = 4831838208) :
    Fr W s₀ (State.completionDoorbell i ix v s₁) := by
  refine Fr.lift hw h₀ ?_
  have h : Fr 4831838208 s₁ s₁ := Fr.refl
  clear h₀ hw
  first | rw [State.completionDoorbell] | unfold State.completionDoorbell
  repeat' first
    | with_reducible assumption
    | (with_reducible refine State.setStoQ_frame ?_ rfl)
    | (with_reducible refine State.stray_frame ?_ rfl)
    | (with_reducible refine Fr.ite ?_ ?_)
    | split

theorem State.stoTake_frame {n : Nat} {q : StoQ} {e : List Byte} {W : Nat} {s₀ s₁ : State} (h₀ : Fr W s₀ s₁) (hw : 131948378852414 &&& W = 131948378852414) :
    Fr W s₀ (State.stoTake s₁ n q e) := by
  refine Fr.lift hw h₀ ?_
  have h : Fr 131948378852414 s₁ s₁ := Fr.refl
  clear h₀ hw
  first | rw [State.stoTake] | unfold State.stoTake
  repeat' first
    | with_reducible assumption
    | (lift_lets; intro x; clear_value x)
    | (with_reducible refine State.stoMoved_frame ?_ rfl)
    | (with_reducible refine State.setStoQ_frame ?_ rfl)
    | (with_reducible refine State.showLocks_frame ?_ rfl)
    | (with_reducible refine Fr.ite ?_ ?_)
    | split
    | (with_reducible refine Fr.sto ?_ rfl)

theorem State.segWrite_frame {i : Nat} {x1 : List (Nat × Nat)} {x2 : Nat} {x3 : List Byte} {W : Nat} {s₀ s₁ : State} (h₀ : Fr W s₀ s₁) (hw : 32 &&& W = 32) :
    Fr W s₀ (State.segWrite i x1 x2 x3 s₁) := by
  refine Fr.lift hw h₀ ?_
  clear h₀ hw
  suffices main : ∀ (x1 : List (Nat × Nat)) (i : Nat) (x2 : Nat) (x3 : List Byte) (z : State), Fr 32 s₁ z → Fr 32 s₁ (State.segWrite i x1 x2 x3 z) from main x1 i x2 x3 s₁ Fr.refl
  intro x1
  induction x1 with
  | nil =>
    intro i x2 x3 z h
    first | rw [State.segWrite] | unfold State.segWrite
    repeat' first
      | with_reducible assumption
      | (with_reducible refine ih _ _ _ _ ?_)
      | (with_reducible refine State.instWrite_frame ?_ rfl)
      | (with_reducible refine Fr.ite ?_ ?_)
  | cons b bs ih =>
    intro i x2 x3 z h
    first | rw [State.segWrite] | unfold State.segWrite
    repeat' first
      | with_reducible assumption
      | (with_reducible refine ih _ _ _ _ ?_)
      | (with_reducible refine State.instWrite_frame ?_ rfl)
      | (with_reducible refine Fr.ite ?_ ?_)

theorem State.stoIssue_frame {c : StoCmd} {op : Nat} {split : Bool} {data : List Byte} {W : Nat} {s₀ s₁ : State} (h₀ : Fr W s₀ s₁) (hw : 131948378852414 &&& W = 131948378852414) :
    Fr W s₀ (State.stoIssue s₁ c op split data) := by
  refine Fr.lift hw h₀ ?_
  have h : Fr 131948378852414 s₁ s₁ := Fr.refl
  clear h₀ hw
  first | rw [State.stoIssue] | unfold State.stoIssue
  repeat' first
    | with_reducible assumption
    | (intro x; refine_lift have hb : ∀ y, y = x → Fr 131948378852414 s₁ y := ?_; ?_; all_goals first | (have hx := hb x rfl; clear hb; clear_value x) | (intro y hy; unfold x at hy; rw [hy]; clear hy y))
    | (intro x; clear_value x)
    | (lift_lets; intro x; clear_value x)
    | (with_reducible refine State.stoMoved_frame ?_ rfl)
    | (with_reducible refine State.setStoCmd_frame ?_ rfl)
    | (with_reducible refine State.showDrives_frame ?_ rfl)
    | (with_reducible refine State.setStoQ_frame ?_ rfl)
    | (with_reducible refine State.emit_frame ?_ rfl)
    | (with_reducible refine Fr.ite ?_ ?_)
    | (with_reducible refine Fr.foldl (fun z a h => ?_) ?_)
    | split
    | (with_reducible refine Fr.sto ?_ rfl)

theorem State.stoStart_frame {id : Nat} {op : Nat} {f : State → StoCmd → Option (List Byte) → State} {W : Nat} {s₀ s₁ : State} (h : Fr W s₀ s₁) (hf : ∀ z c o, Fr W s₀ z → Fr W s₀ (f z c o)) (hw : 131948378852670 &&& W = 131948378852670) :
    Fr W s₀ (State.stoStart s₁ id op f) := by
  first | rw [State.stoStart] | unfold State.stoStart
  repeat' first
    | with_reducible assumption
    | (intro x; clear_value x)
    | (lift_lets; intro x; clear_value x)
    | (with_reducible refine hf _ _ _ ?_)
    | (with_reducible refine State.stoMoved_frame ?_ (Fr.sub rfl hw))
    | (with_reducible refine State.tick_frame ?_ (Fr.sub rfl hw))
    | (with_reducible refine Fr.ite ?_ ?_)
    | split

theorem State.partDone_frame {c : StoCmd} {W : Nat} {s₀ s₁ : State} (h₀ : Fr W s₀ s₁) (hw : 131948378852414 &&& W = 131948378852414) :
    Fr W s₀ (State.partDone s₁ c) := by
  refine Fr.lift hw h₀ ?_
  have h : Fr 131948378852414 s₁ s₁ := Fr.refl
  clear h₀ hw
  first | rw [State.partDone] | unfold State.partDone
  repeat' first
    | with_reducible assumption
    | (with_reducible refine State.stoPartsDone_frame ?_ rfl)
    | (with_reducible refine State.setStoCmd_frame ?_ rfl)
    | (with_reducible refine State.showDrives_frame ?_ rfl)
    | (with_reducible refine Fr.ite ?_ ?_)

theorem State.partRead_frame {c : StoCmd} {p : StoPart} {data : List Byte} {out : DmaOut} {W : Nat} {s₀ s₁ : State} (h₀ : Fr W s₀ s₁) (hw : 131948378852414 &&& W = 131948378852414) :
    Fr W s₀ (State.partRead s₁ c p data out) := by
  refine Fr.lift hw h₀ ?_
  have h : Fr 131948378852414 s₁ s₁ := Fr.refl
  clear h₀ hw
  first | rw [State.partRead] | unfold State.partRead
  repeat' first
    | with_reducible assumption
    | (intro x; clear_value x)
    | (lift_lets; intro x; clear_value x)
    | (with_reducible refine State.partDone_frame ?_ rfl)
    | (with_reducible refine State.segWrite_frame ?_ rfl)
    | (with_reducible refine Fr.ite ?_ ?_)

theorem State.partEnd_frame {c : StoCmd} {p : StoPart} {status : W16} {data : List Byte} {out : DmaOut} {W : Nat} {s₀ s₁ : State} (h₀ : Fr W s₀ s₁) (hw : 131948378852414 &&& W = 131948378852414) :
    Fr W s₀ (State.partEnd s₁ c p status data out) := by
  refine Fr.lift hw h₀ ?_
  have h : Fr 131948378852414 s₁ s₁ := Fr.refl
  clear h₀ hw
  first | rw [State.partEnd] | unfold State.partEnd
  repeat' first
    | with_reducible assumption
    | (with_reducible refine State.partDone_frame ?_ rfl)
    | (with_reducible refine State.partRead_frame ?_ rfl)
    | (with_reducible refine Fr.ite ?_ ?_)

theorem State.stoRefusal_frame {c : Nat} {W : Nat} {s₀ s₁ : State} (h₀ : Fr W s₀ s₁) (hw : 2 &&& W = 2) :
    Fr W s₀ (State.stoRefusal s₁ c) := by
  refine Fr.lift hw h₀ ?_
  have h : Fr 2 s₁ s₁ := Fr.refl
  clear h₀ hw
  first | rw [State.stoRefusal] | unfold State.stoRefusal
  repeat' first
    | with_reducible assumption
    | (with_reducible refine State.sf_frame ?_ rfl)

theorem writeStoCtl_frame {q : Requester} {v : W32} {W : Nat} {s₀ s₁ : State} (h₀ : Fr W s₀ s₁) (hw : 2 &&& W = 2) :
    Fr W s₀ (writeStoCtl q v s₁) := by
  refine Fr.lift hw h₀ ?_
  have h : Fr 2 s₁ s₁ := Fr.refl
  clear h₀ hw
  first | rw [writeStoCtl] | unfold writeStoCtl
  repeat' first
    | with_reducible assumption
    | (with_reducible refine State.sf_frame ?_ rfl)
    | (with_reducible refine State.stoRefusal_frame ?_ rfl)
    | (with_reducible refine Fr.ite ?_ ?_)
    | split

theorem writeStoBase_frame {q : Requester} {off : Nat} {mask : W32} {v : W32} {W : Nat} {s₀ s₁ : State} (h₀ : Fr W s₀ s₁) (hw : 2 &&& W = 2) :
    Fr W s₀ (writeStoBase q off mask v s₁) := by
  refine Fr.lift hw h₀ ?_
  have h : Fr 2 s₁ s₁ := Fr.refl
  clear h₀ hw
  first | rw [writeStoBase] | unfold writeStoBase
  repeat' first
    | with_reducible assumption
    | (with_reducible refine State.wr_frame ?_ rfl)
    | (with_reducible refine Fr.ite ?_ ?_)

theorem State.stoChange_frame {r : SynReq} {opcode : Nat} {v : Nat} {rec_ : List Byte} {W : Nat} {s₀ s₁ : State} (h₀ : Fr W s₀ s₁) (hw : 131944083885118 &&& W = 131944083885118) :
    Fr1 W s₀ (State.stoChange s₁ r opcode v rec_) := by
  refine Fr1.lift hw h₀ ?_
  have h : Fr 131944083885118 s₁ s₁ := Fr.refl
  clear h₀ hw
  first | rw [State.stoChange] | unfold State.stoChange
  repeat' first
    | with_reducible assumption
    | (lift_lets; intro x; clear_value x)
    | (with_reducible refine State.poke_frame ?_ rfl)
    | (with_reducible refine Fr1.ite ?_ ?_)
    | (with_reducible refine Fr1.pair ?_)
    | (with_reducible refine Fr.sto ?_ rfl)

end Sys2Proof.Machine
end

