-- ==== Sys2Proof/Laws/FrameTime.lean ====
section
/-! SUPPORT. Frames of the functions of Machine/Time.lean: which parts of the state each may change. -/

namespace Sys2Proof.Machine

theorem State.setTime_frame {t : TimeUnit} {W : Nat} {s₀ s₁ : State} (h₀ : Fr W s₀ s₁) (hw : 67108864 &&& W = 67108864) :
    Fr W s₀ (State.setTime s₁ t) := by
  refine Fr.lift hw h₀ ?_
  have h : Fr 67108864 s₁ s₁ := Fr.refl
  clear h₀ hw
  first | rw [State.setTime] | unfold State.setTime
  repeat' first
    | with_reducible assumption
    | (with_reducible refine Fr.time ?_ rfl)

theorem State.fabricCycle_frame {W : Nat} {s₀ s₁ : State} (h₀ : Fr W s₀ s₁) (hw : 67109376 &&& W = 67109376) :
    Fr W s₀ (State.fabricCycle s₁) := by
  refine Fr.lift hw h₀ ?_
  have h : Fr 67109376 s₁ s₁ := Fr.refl
  clear h₀ hw
  first | rw [State.fabricCycle] | unfold State.fabricCycle
  repeat' first
    | with_reducible assumption
    | (lift_lets; intro x; clear_value x)
    | (with_reducible refine Fr.upd_clock_time ?_ rfl rfl)

theorem State.qualify_frame {W : Nat} {s₀ s₁ : State} (h₀ : Fr W s₀ s₁) (hw : 524290 &&& W = 524290) :
    Fr W s₀ (State.qualify s₁) := by
  refine Fr.lift hw h₀ ?_
  have h : Fr 524290 s₁ s₁ := Fr.refl
  clear h₀ hw
  first | rw [State.qualify] | unfold State.qualify
  repeat' first
    | with_reducible assumption
    | (intro x; refine_lift have hb : ∀ y, y = x → Fr 524290 s₁ y := ?_; ?_; all_goals first | (have hx := hb x rfl; clear hb; clear_value x) | (intro y hy; unfold x at hy; rw [hy]; clear hy y))
    | (intro x; clear_value x)
    | (lift_lets; intro x; refine_lift have hb : ∀ y, y = x → Fr 524290 s₁ y := ?_; ?_; all_goals first | (have hx := hb x rfl; clear hb; clear_value x) | (intro y hy; unfold x at hy; rw [hy]; clear hy y))
    | (lift_lets; intro x; clear_value x)
    | (with_reducible refine State.sf_frame ?_ rfl)
    | (with_reducible refine Fr.ite ?_ ?_)
    | (with_reducible exact Fr2.out (by assumption))
    | dsimp only
    | split
    | (with_reducible refine Fr.col ?_ rfl)

theorem State.setTimeState_frame {st : Nat} {W : Nat} {s₀ s₁ : State} (h₀ : Fr W s₀ s₁) (hw : 2 &&& W = 2) :
    Fr W s₀ (State.setTimeState s₁ st) := by
  refine Fr.lift hw h₀ ?_
  have h : Fr 2 s₁ s₁ := Fr.refl
  clear h₀ hw
  first | rw [State.setTimeState] | unfold State.setTimeState
  repeat' first
    | with_reducible assumption
    | (with_reducible refine State.sf_frame ?_ rfl)

theorem State.rejectPulse_frame {W : Nat} {s₀ s₁ : State} (h₀ : Fr W s₀ s₁) (hw : 67633154 &&& W = 67633154) :
    Fr W s₀ (State.rejectPulse s₁) := by
  refine Fr.lift hw h₀ ?_
  have h : Fr 67633154 s₁ s₁ := Fr.refl
  clear h₀ hw
  first | rw [State.rejectPulse] | unfold State.rejectPulse
  repeat' first
    | with_reducible assumption
    | (lift_lets; intro x; clear_value x)
    | (with_reducible refine State.qualify_frame ?_ rfl)
    | (with_reducible refine State.setTime_frame ?_ rfl)
    | (with_reducible refine State.setTimeState_frame ?_ rfl)
    | (with_reducible refine State.cnt_frame ?_ rfl)
    | (with_reducible refine Fr.ite ?_ ?_)

theorem State.stepped_frame {W : Nat} {s₀ s₁ : State} (h₀ : Fr W s₀ s₁) (hw : 35184372088834 &&& W = 35184372088834) :
    Fr W s₀ (State.stepped s₁) := by
  refine Fr.lift hw h₀ ?_
  have h : Fr 35184372088834 s₁ s₁ := Fr.refl
  clear h₀ hw
  first | rw [State.stepped] | unfold State.stepped
  repeat' first
    | with_reducible assumption
    | (lift_lets; intro x; clear_value x)
    | (with_reducible refine State.sf_frame ?_ rfl)
    | (with_reducible refine Fr.ckp ?_ rfl)

theorem State.steer_frame {e : Int} {W : Nat} {s₀ s₁ : State} (h₀ : Fr W s₀ s₁) (hw : 67108866 &&& W = 67108866) :
    Fr W s₀ (State.steer s₁ e) := by
  refine Fr.lift hw h₀ ?_
  have h : Fr 67108866 s₁ s₁ := Fr.refl
  clear h₀ hw
  first | rw [State.steer] | unfold State.steer
  repeat' first
    | with_reducible assumption
    | (lift_lets; intro x; clear_value x)
    | (with_reducible refine State.wr_frame ?_ rfl)
    | (with_reducible refine State.setTime_frame ?_ rfl)

theorem State.acceptPulse_frame {phase : Nat} {e : Int} {W : Nat} {s₀ s₁ : State} (h₀ : Fr W s₀ s₁) (hw : 35184439721986 &&& W = 35184439721986) :
    Fr W s₀ (State.acceptPulse s₁ phase e) := by
  refine Fr.lift hw h₀ ?_
  have h : Fr 35184439721986 s₁ s₁ := Fr.refl
  clear h₀ hw
  first | rw [State.acceptPulse] | unfold State.acceptPulse
  repeat' first
    | with_reducible assumption
    | (intro x; refine_lift have hb : ∀ y, y = x → Fr 35184439721986 s₁ y := ?_; ?_; all_goals first | (have hx := hb x rfl; clear hb; clear_value x) | (intro y hy; unfold x at hy; rw [hy]; clear hy y))
    | (intro x; clear_value x)
    | (lift_lets; intro x; clear_value x)
    | (with_reducible refine State.stepped_frame ?_ rfl)
    | (with_reducible refine State.qualify_frame ?_ rfl)
    | (with_reducible refine State.sf_frame ?_ rfl)
    | (with_reducible refine State.setTime_frame ?_ rfl)
    | (with_reducible refine State.steer_frame ?_ rfl)
    | (with_reducible refine State.setTimeState_frame ?_ rfl)
    | (with_reducible refine Fr.ite ?_ ?_)
    | (refine Fr.ite ?_ ?_)

theorem State.readNowLow_frame {W : Nat} {s₀ s₁ : State} (h₀ : Fr W s₀ s₁) (hw : 67108864 &&& W = 67108864) :
    Fr2 W s₀ (State.readNowLow s₁) := by
  refine Fr2.lift hw h₀ ?_
  have h : Fr 67108864 s₁ s₁ := Fr.refl
  clear h₀ hw
  first | rw [State.readNowLow] | unfold State.readNowLow
  repeat' first
    | with_reducible assumption
    | (lift_lets; intro x; clear_value x)
    | (with_reducible refine State.setTime_frame ?_ rfl)
    | (with_reducible refine Fr2.pair ?_)

theorem writeTimeCtl_frame {q : Requester} {v : W32} {W : Nat} {s₀ s₁ : State} (h₀ : Fr W s₀ s₁) (hw : 67633154 &&& W = 67633154) :
    Fr W s₀ (writeTimeCtl q v s₁) := by
  refine Fr.lift hw h₀ ?_
  have h : Fr 67633154 s₁ s₁ := Fr.refl
  clear h₀ hw
  first | rw [writeTimeCtl] | unfold writeTimeCtl
  repeat' first
    | with_reducible assumption
    | (intro x; refine_lift have hb : ∀ y, y = x → Fr 67633154 s₁ y := ?_; ?_; all_goals first | (have hx := hb x rfl; clear hb; clear_value x) | (intro y hy; unfold x at hy; rw [hy]; clear hy y))
    | (intro x; clear_value x)
    | (lift_lets; intro x; clear_value x)
    | (with_reducible refine State.qualify_frame ?_ rfl)
    | (with_reducible refine State.sf_frame ?_ rfl)
    | (with_reducible refine State.setTime_frame ?_ rfl)
    | (with_reducible refine State.setTimeState_frame ?_ rfl)
    | (with_reducible refine Fr.ite ?_ ?_)

theorem writeTimeFreq_frame {q : Requester} {v : W32} {W : Nat} {s₀ s₁ : State} (h₀ : Fr W s₀ s₁) (hw : 67108866 &&& W = 67108866) :
    Fr W s₀ (writeTimeFreq q v s₁) := by
  refine Fr.lift hw h₀ ?_
  have h : Fr 67108866 s₁ s₁ := Fr.refl
  clear h₀ hw
  first | rw [writeTimeFreq] | unfold writeTimeFreq
  repeat' first
    | with_reducible assumption
    | (intro x; clear_value x)
    | (lift_lets; intro x; clear_value x)
    | (with_reducible refine State.wr_frame ?_ rfl)
    | (with_reducible refine State.setTime_frame ?_ rfl)
    | (with_reducible refine Fr.ite ?_ ?_)

theorem State.setGateActive_frame {p : Nat} {g : Option GateList} {W : Nat} {s₀ s₁ : State} (h₀ : Fr W s₀ s₁) (hw : 67108864 &&& W = 67108864) :
    Fr W s₀ (State.setGateActive s₁ p g) := by
  refine Fr.lift hw h₀ ?_
  have h : Fr 67108864 s₁ s₁ := Fr.refl
  clear h₀ hw
  first | rw [State.setGateActive] | unfold State.setGateActive
  repeat' first
    | with_reducible assumption
    | (lift_lets; intro x; clear_value x)
    | (with_reducible refine State.setTime_frame ?_ rfl)

theorem State.setGatePending_frame {p : Nat} {g : Option GateList} {W : Nat} {s₀ s₁ : State} (h₀ : Fr W s₀ s₁) (hw : 67108864 &&& W = 67108864) :
    Fr W s₀ (State.setGatePending s₁ p g) := by
  refine Fr.lift hw h₀ ?_
  have h : Fr 67108864 s₁ s₁ := Fr.refl
  clear h₀ hw
  first | rw [State.setGatePending] | unfold State.setGatePending
  repeat' first
    | with_reducible assumption
    | (lift_lets; intro x; clear_value x)
    | (with_reducible refine State.setTime_frame ?_ rfl)

theorem State.gateCommit_frame {port : Nat} {base : Nat} {es : List GateEntry} {W : Nat} {s₀ s₁ : State} (h₀ : Fr W s₀ s₁) (hw : 67108866 &&& W = 67108866) :
    Fr1 W s₀ (State.gateCommit s₁ port base es) := by
  refine Fr1.lift hw h₀ ?_
  have h : Fr 67108866 s₁ s₁ := Fr.refl
  clear h₀ hw
  first | rw [State.gateCommit] | unfold State.gateCommit
  repeat' first
    | with_reducible assumption
    | (intro x; refine_lift have hb : ∀ y, y = x → Fr 67108866 s₁ y := ?_; ?_; all_goals first | (have hx := hb x rfl; clear hb; clear_value x) | (intro y hy; unfold x at hy; rw [hy]; clear hy y))
    | (lift_lets; intro x; refine_lift have hb : ∀ y, y = x → Fr 67108866 s₁ y := ?_; ?_; all_goals first | (have hx := hb x rfl; clear hb; clear_value x) | (intro y hy; unfold x at hy; rw [hy]; clear hy y))
    | (with_reducible refine State.setGatePending_frame ?_ rfl)
    | (with_reducible refine State.wr_frame ?_ rfl)
    | (with_reducible refine State.sf_frame ?_ rfl)
    | (with_reducible refine Fr.ite ?_ ?_)
    | split
    | (with_reducible refine Fr1.pair ?_)

theorem State.gateShow_frame {p : Nat} {W : Nat} {s₀ s₁ : State} (h₀ : Fr W s₀ s₁) (hw : 2 &&& W = 2) :
    Fr W s₀ (State.gateShow s₁ p) := by
  refine Fr.lift hw h₀ ?_
  have h : Fr 2 s₁ s₁ := Fr.refl
  clear h₀ hw
  first | rw [State.gateShow] | unfold State.gateShow
  repeat' first
    | with_reducible assumption
    | (lift_lets; intro x; refine_lift have hb : ∀ y, y = x → Fr 2 s₁ y := ?_; ?_; all_goals first | (have hx := hb x rfl; clear hb; clear_value x) | (intro y hy; unfold x at hy; rw [hy]; clear hy y))
    | (with_reducible refine State.sf_frame ?_ rfl)
    | split

theorem writeTgAdminCtl_frame {q : Requester} {v : W32} {W : Nat} {s₀ s₁ : State} (h₀ : Fr W s₀ s₁) (hw : 96759242034234 &&& W = 96759242034234) :
    Fr W s₀ (writeTgAdminCtl q v s₁) := by
  refine Fr.lift hw h₀ ?_
  have h : Fr 96759242034234 s₁ s₁ := Fr.refl
  clear h₀ hw
  first | rw [writeTgAdminCtl] | unfold writeTgAdminCtl
  repeat' first
    | with_reducible assumption
    | (with_reducible refine State.load_frame ?_ rfl)
    | (with_reducible refine Fr22.out (State.load_frame ?_ rfl))
    | (intro x; refine_lift have hb : ∀ y, y = x → Fr 96759242034234 s₁ y := ?_; ?_; all_goals first | (have hx := hb x rfl; clear hb; clear_value x) | (intro y hy; unfold x at hy; rw [hy]; clear hy y))
    | (intro x; clear_value x)
    | (lift_lets; intro x; clear_value x)
    | (with_reducible refine State.setGatePending_frame ?_ rfl)
    | (with_reducible refine State.sf_frame ?_ rfl)
    | (with_reducible refine Fr.ite ?_ ?_)
    | (with_reducible refine Fr.onSome ?_ (fun a => ?_))
    | (with_reducible refine Fr1.out (State.gateCommit_frame ?_ rfl))

theorem State.setBucket_frame {policer : Bool} {i : Nat} {b : Bucket} {W : Nat} {s₀ s₁ : State} (h₀ : Fr W s₀ s₁) (hw : 67108864 &&& W = 67108864) :
    Fr W s₀ (State.setBucket s₁ policer i b) := by
  refine Fr.lift hw h₀ ?_
  have h : Fr 67108864 s₁ s₁ := Fr.refl
  clear h₀ hw
  first | rw [State.setBucket] | unfold State.setBucket
  repeat' first
    | with_reducible assumption
    | (lift_lets; intro x; clear_value x)
    | (with_reducible refine State.setTime_frame ?_ rfl)

theorem writeTgShpSel_frame {q : Requester} {v : W32} {W : Nat} {s₀ s₁ : State} (h₀ : Fr W s₀ s₁) (hw : 67108866 &&& W = 67108866) :
    Fr W s₀ (writeTgShpSel q v s₁) := by
  refine Fr.lift hw h₀ ?_
  have h : Fr 67108866 s₁ s₁ := Fr.refl
  clear h₀ hw
  first | rw [writeTgShpSel] | unfold writeTgShpSel
  repeat' first
    | with_reducible assumption
    | (intro x; refine_lift have hb : ∀ y, y = x → Fr 67108866 s₁ y := ?_; ?_; all_goals first | (have hx := hb x rfl; clear hb; clear_value x) | (intro y hy; unfold x at hy; rw [hy]; clear hy y))
    | (intro x; clear_value x)
    | (lift_lets; intro x; clear_value x)
    | (with_reducible refine State.setBucket_frame ?_ rfl)
    | (with_reducible refine State.sf_frame ?_ rfl)
    | (with_reducible refine Fr.ite ?_ ?_)
    | split

theorem State.applyBucket_frame {policer : Bool} {ix : Nat} {c : BucketCfg} {W : Nat} {s₀ s₁ : State} (h₀ : Fr W s₀ s₁) (hw : 67108866 &&& W = 67108866) :
    Fr1 W s₀ (State.applyBucket s₁ policer ix c) := by
  refine Fr1.lift hw h₀ ?_
  have h : Fr 67108866 s₁ s₁ := Fr.refl
  clear h₀ hw
  first | rw [State.applyBucket] | unfold State.applyBucket
  repeat' first
    | with_reducible assumption
    | (intro x; clear_value x)
    | (lift_lets; intro x; clear_value x)
    | (with_reducible refine State.setBucket_frame ?_ rfl)
    | (with_reducible refine success_frame ?_ rfl)
    | (with_reducible refine State.sf_frame ?_ rfl)
    | (with_reducible refine refuse_frame ?_ rfl)
    | (with_reducible refine Fr1.ite ?_ ?_)
    | split

end Sys2Proof.Machine
end

