-- ==== Sys2Proof/Laws/FrameBus.lean ====
section
/-! SUPPORT. Frame lemmas of Machine/Bus.lean: which fields of State each operation can change. -/

namespace Sys2Proof.Machine

theorem readPlain_frame {off : Nat} {b : Nat} {n : Nat} {W : Nat} {s₀ s₁ : State} (h₀ : Fr W s₀ s₁) (hw : 2 &&& W = 2) :
    Fr2 W s₀ (readPlain off b n s₁) := by
  refine Fr2.lift hw h₀ ?_
  have h : Fr 2 s₁ s₁ := Fr.refl
  clear h₀ hw
  first | rw [readPlain] | unfold readPlain
  repeat' first
    | with_reducible assumption
    | (lift_lets; intro x; clear_value x)
    | (with_reducible refine State.wr_frame ?_ rfl)
    | split
    | (with_reducible refine Fr2.pair ?_)

theorem regRead_frame {off : Nat} {b : Nat} {n : Nat} {W : Nat} {s₀ s₁ : State} (h₀ : Fr W s₀ s₁) (hw : 67108866 &&& W = 67108866) :
    Fr2 W s₀ (regRead off b n s₁) := by
  refine Fr2.lift hw h₀ ?_
  have h : Fr 67108866 s₁ s₁ := Fr.refl
  clear h₀ hw
  first | rw [regRead] | unfold regRead
  repeat' first
    | with_reducible assumption
    | (with_reducible refine State.readNowLow_frame ?_ rfl)
    | (with_reducible refine readPlain_frame ?_ rfl)
    | (with_reducible refine Fr2.ite ?_ ?_)
    | (with_reducible refine Fr2.pair ?_)

theorem wordLoad_frame {q : Requester} {off : Nat} {b : Nat} {n : Nat} {W : Nat} {s₀ s₁ : State} (h₀ : Fr W s₀ s₁) (hw : 67109122 &&& W = 67109122) :
    Fr2 W s₀ (wordLoad q off b n s₁) := by
  refine Fr2.lift hw h₀ ?_
  have h : Fr 67109122 s₁ s₁ := Fr.refl
  clear h₀ hw
  first | rw [wordLoad] | unfold wordLoad
  repeat' first
    | with_reducible assumption
    | (with_reducible refine State.tick_frame ?_ rfl)
    | (with_reducible refine regRead_frame ?_ rfl)
    | (with_reducible refine Fr2.ite ?_ ?_)
    | (with_reducible refine Fr2.pair ?_)

theorem regLoad_frame {q : Requester} {off : Nat} {n : Nat} {W : Nat} {s₀ s₁ : State} (h₀ : Fr W s₀ s₁) (hw : 67109122 &&& W = 67109122) :
    Fr22 W s₀ (regLoad q off n s₁) := by
  refine Fr22.lift hw h₀ ?_
  have h : Fr 67109122 s₁ s₁ := Fr.refl
  clear h₀ hw
  first | rw [regLoad] | unfold regLoad
  repeat' first
    | with_reducible assumption
    | (with_reducible refine wordLoad_frame ?_ rfl)
    | (with_reducible refine Fr22.ite ?_ ?_)
    | (with_reducible refine Fr.eq2 (by assumption) ?_)
    | split
    | (with_reducible refine Fr22.pair ?_)

theorem State.engLoad_frame {a : Nat} {n : Nat} {W : Nat} {s₀ s₁ : State} (h₀ : Fr W s₀ s₁) (hw : 96759242034490 &&& W = 96759242034490) :
    Fr22 W s₀ (State.engLoad s₁ a n) := by
  refine Fr22.lift hw h₀ ?_
  have h : Fr 96759242034490 s₁ s₁ := Fr.refl
  clear h₀ hw
  rw [State.engLoad]
  repeat' first
    | with_reducible assumption
    | (with_reducible refine regLoad_frame ?_ rfl)
    | (with_reducible refine State.load_frame ?_ rfl)
    | (with_reducible refine Fr22.ite ?_ ?_)

theorem State.engStore_frame {a : Nat} {bs : List Byte} {poison : Bool} {W : Nat} {s₀ s₁ : State} (h₀ : Fr W s₀ s₁) (hw : 131943547014206 &&& W = 131943547014206) :
    Fr2 W s₀ (State.engStore s₁ a bs poison) := by
  refine Fr2.lift hw h₀ ?_
  have h : Fr 131943547014206 s₁ s₁ := Fr.refl
  clear h₀ hw
  unfold State.engStore
  repeat' first
    | with_reducible assumption
    | (with_reducible refine Fr2.pair ?_)
    | (with_reducible refine Fr2.ite ?_ ?_)
    | (with_reducible refine State.store_frame ?_ rfl)
    | (with_reducible refine Fr2.out (State.store_frame ?_ rfl))
    | (with_reducible refine Fr.ite ?_ ?_)
    | split

end Sys2Proof.Machine
end

