-- ==== Sys2Proof/Laws/FrameFabric.lean ====
section
/-! SUPPORT. Frames of the functions of Machine/Fabric.lean: which parts of the state each may change. -/

namespace Sys2Proof.Machine

theorem State.setFp_frame {p : Nat} {v : FPort} {W : Nat} {s₀ s₁ : State} (h₀ : Fr W s₀ s₁) (hw : 8388608 &&& W = 8388608) :
    Fr W s₀ (State.setFp s₁ p v) := by
  refine Fr.lift hw h₀ ?_
  have h : Fr 8388608 s₁ s₁ := Fr.refl
  clear h₀ hw
  first | rw [State.setFp] | unfold State.setFp
  repeat' first
    | with_reducible assumption
    | (with_reducible refine Fr.fport ?_ rfl)

theorem State.setLane_frame {l : Nat} {v : LaneRx} {W : Nat} {s₀ s₁ : State} (h₀ : Fr W s₀ s₁) (hw : 16777216 &&& W = 16777216) :
    Fr W s₀ (State.setLane s₁ l v) := by
  refine Fr.lift hw h₀ ?_
  have h : Fr 16777216 s₁ s₁ := Fr.refl
  clear h₀ hw
  first | rw [State.setLane] | unfold State.setLane
  repeat' first
    | with_reducible assumption
    | (with_reducible refine Fr.laneRx ?_ rfl)

theorem State.discardFrame_frame {p : Nat} {W : Nat} {s₀ s₁ : State} (h₀ : Fr W s₀ s₁) (hw : 2 &&& W = 2) :
    Fr W s₀ (State.discardFrame s₁ p) := by
  refine Fr.lift hw h₀ ?_
  have h : Fr 2 s₁ s₁ := Fr.refl
  clear h₀ hw
  first | rw [State.discardFrame] | unfold State.discardFrame
  repeat' first
    | with_reducible assumption
    | (with_reducible refine State.cnt_frame ?_ rfl)

theorem State.transmit_frame {p : Nat} {W : Nat} {s₀ s₁ : State} (h₀ : Fr W s₀ s₁) (hw : 8388608 &&& W = 8388608) :
    Fr W s₀ (State.transmit s₁ p) := by
  refine Fr.lift hw h₀ ?_
  have h : Fr 8388608 s₁ s₁ := Fr.refl
  clear h₀ hw
  first | rw [State.transmit] | unfold State.transmit
  repeat' first
    | with_reducible assumption
    | (intro x; refine_lift have hb : ∀ y, y = x → Fr 8388608 s₁ y := ?_; ?_; all_goals first | (have hx := hb x rfl; clear hb; clear_value x) | (intro y hy; unfold x at hy; rw [hy]; clear hy y))
    | (intro x; clear_value x)
    | (lift_lets; intro x; refine_lift have hb : ∀ y, y = x → Fr 8388608 s₁ y := ?_; ?_; all_goals first | (have hx := hb x rfl; clear hb; clear_value x) | (intro y hy; unfold x at hy; rw [hy]; clear hy y))
    | (lift_lets; intro x; clear_value x)
    | (with_reducible refine State.setFp_frame ?_ rfl)
    | (with_reducible refine Fr.ite ?_ ?_)
    | (with_reducible refine Fr.eq2 (by assumption) ?_)
    | (with_reducible refine Fr.eq22 (by assumption) ?_)
    | (with_reducible refine Fr.eq1 (by assumption) ?_)
    | (with_reducible exact Fr2.out (by assumption))
    | dsimp only
    | split

theorem State.sendCtl_frame {p : Nat} {ctype : Nat} {body : List Byte} {W : Nat} {s₀ s₁ : State} (h₀ : Fr W s₀ s₁) (hw : 8389632 &&& W = 8389632) :
    Fr W s₀ (State.sendCtl s₁ p ctype body) := by
  refine Fr.lift hw h₀ ?_
  have h : Fr 8389632 s₁ s₁ := Fr.refl
  clear h₀ hw
  first | rw [State.sendCtl] | unfold State.sendCtl
  repeat' first
    | with_reducible assumption
    | (intro x; refine_lift have hb : ∀ y, y = x → Fr 8389632 s₁ y := ?_; ?_; all_goals first | (have hx := hb x rfl; clear hb; clear_value x) | (intro y hy; unfold x at hy; rw [hy]; clear hy y))
    | (intro x; clear_value x)
    | (lift_lets; intro x; refine_lift have hb : ∀ y, y = x → Fr 8389632 s₁ y := ?_; ?_; all_goals first | (have hx := hb x rfl; clear hb; clear_value x) | (intro y hy; unfold x at hy; rw [hy]; clear hy y))
    | (lift_lets; intro x; clear_value x)
    | (with_reducible refine State.setFp_frame ?_ rfl)
    | (with_reducible refine State.emit_frame ?_ rfl)
    | (with_reducible refine State.transmit_frame ?_ rfl)
    | (with_reducible refine Fr.ite ?_ ?_)
    | (with_reducible exact Fr2.out (by assumption))
    | dsimp only
    | split

theorem State.setPortState_frame {p : Nat} {st : Nat} {W : Nat} {s₀ s₁ : State} (h₀ : Fr W s₀ s₁) (hw : 96759174925346 &&& W = 96759174925346) :
    Fr W s₀ (State.setPortState s₁ p st) := by
  refine Fr.lift hw h₀ ?_
  have h : Fr 96759174925346 s₁ s₁ := Fr.refl
  clear h₀ hw
  first | rw [State.setPortState] | unfold State.setPortState
  repeat' first
    | with_reducible assumption
    | (intro x; refine_lift have hb : ∀ y, y = x → Fr 96759174925346 s₁ y := ?_; ?_; all_goals first | (have hx := hb x rfl; clear hb; clear_value x) | (intro y hy; unfold x at hy; rw [hy]; clear hy y))
    | (lift_lets; intro x; refine_lift have hb : ∀ y, y = x → Fr 96759174925346 s₁ y := ?_; ?_; all_goals first | (have hx := hb x rfl; clear hb; clear_value x) | (intro y hy; unfold x at hy; rw [hy]; clear hy y))
    | (with_reducible refine State.fault_frame ?_ rfl)
    | (with_reducible refine State.sf_frame ?_ rfl)
    | (with_reducible refine State.event_frame ?_ rfl)
    | (with_reducible refine Fr.ite ?_ ?_)

theorem State.setLanePos_frame {l : Nat} {port : Nat} {lpos : Nat} {W : Nat} {s₀ s₁ : State} (h₀ : Fr W s₀ s₁) (hw : 2 &&& W = 2) :
    Fr W s₀ (State.setLanePos s₁ l port lpos) := by
  refine Fr.lift hw h₀ ?_
  have h : Fr 2 s₁ s₁ := Fr.refl
  clear h₀ hw
  first | rw [State.setLanePos] | unfold State.setLanePos
  repeat' first
    | with_reducible assumption
    | (with_reducible refine State.sf_frame ?_ rfl)

theorem State.markLane_frame {p : Nat} {k : Nat} {b : Bool} {W : Nat} {s₀ s₁ : State} (h₀ : Fr W s₀ s₁) (hw : 2 &&& W = 2) :
    Fr W s₀ (State.markLane s₁ p k b) := by
  refine Fr.lift hw h₀ ?_
  have h : Fr 2 s₁ s₁ := Fr.refl
  clear h₀ hw
  first | rw [State.markLane] | unfold State.markLane
  repeat' first
    | with_reducible assumption
    | (with_reducible refine State.sf_frame ?_ rfl)

theorem State.showSpare1_frame {p : Nat} {W : Nat} {s₀ s₁ : State} (h₀ : Fr W s₀ s₁) (hw : 2 &&& W = 2) :
    Fr W s₀ (State.showSpare1 s₁ p) := by
  refine Fr.lift hw h₀ ?_
  have h : Fr 2 s₁ s₁ := Fr.refl
  clear h₀ hw
  first | rw [State.showSpare1] | unfold State.showSpare1
  repeat' first
    | with_reducible assumption
    | (with_reducible refine State.sf_frame ?_ rfl)

theorem State.showSpare_frame {p : Nat} {W : Nat} {s₀ s₁ : State} (h₀ : Fr W s₀ s₁) (hw : 2 &&& W = 2) :
    Fr W s₀ (State.showSpare s₁ p) := by
  refine Fr.lift hw h₀ ?_
  have h : Fr 2 s₁ s₁ := Fr.refl
  clear h₀ hw
  first | rw [State.showSpare] | unfold State.showSpare
  repeat' first
    | with_reducible assumption
    | (with_reducible refine State.showSpare1_frame ?_ rfl)
    | split

theorem State.adoptMap_frame {p : Nat} {id : Nat} {m : List Nat} {W : Nat} {s₀ s₁ : State} (h₀ : Fr W s₀ s₁) (hw : 96759183313954 &&& W = 96759183313954) :
    Fr W s₀ (State.adoptMap s₁ p id m) := by
  refine Fr.lift hw h₀ ?_
  have h : Fr 96759183313954 s₁ s₁ := Fr.refl
  clear h₀ hw
  first | rw [State.adoptMap] | unfold State.adoptMap
  repeat' first
    | with_reducible assumption
    | (with_reducible refine State.markLane_frame ?_ rfl)
    | (intro x; clear_value x)
    | (lift_lets; intro x; clear_value x)
    | (with_reducible refine State.fault_frame ?_ rfl)
    | (with_reducible refine State.showSpare_frame ?_ rfl)
    | (with_reducible refine State.setPortState_frame ?_ rfl)
    | (with_reducible refine State.setFp_frame ?_ rfl)
    | (with_reducible refine State.setLanePos_frame ?_ rfl)
    | (with_reducible refine State.sf_frame ?_ rfl)
    | (with_reducible refine Fr.ite ?_ ?_)
    | (with_reducible refine Fr.foldl (fun z a h => ?_) ?_)
    | split
    | (refine Fr.ite ?_ ?_)

theorem State.sendMap_frame {p : Nat} {m : NewMap} {W : Nat} {s₀ s₁ : State} (h₀ : Fr W s₀ s₁) (hw : 8389632 &&& W = 8389632) :
    Fr W s₀ (State.sendMap s₁ p m) := by
  refine Fr.lift hw h₀ ?_
  have h : Fr 8389632 s₁ s₁ := Fr.refl
  clear h₀ hw
  first | rw [State.sendMap] | unfold State.sendMap
  repeat' first
    | with_reducible assumption
    | (with_reducible refine State.sendCtl_frame ?_ rfl)
    | (with_reducible refine State.emit_frame ?_ rfl)

theorem State.announce_frame {p : Nat} {lanes : List Nat} {W : Nat} {s₀ s₁ : State} (h₀ : Fr W s₀ s₁) (hw : 8389888 &&& W = 8389888) :
    Fr W s₀ (State.announce s₁ p lanes) := by
  refine Fr.lift hw h₀ ?_
  have h : Fr 8389888 s₁ s₁ := Fr.refl
  clear h₀ hw
  first | rw [State.announce] | unfold State.announce
  repeat' first
    | with_reducible assumption
    | (lift_lets; intro x; clear_value x)
    | (with_reducible refine State.sendMap_frame ?_ rfl)
    | (with_reducible refine State.setFp_frame ?_ rfl)
    | (with_reducible refine State.tick_frame ?_ rfl)

theorem State.remap_frame {p : Nat} {W : Nat} {s₀ s₁ : State} (h₀ : Fr W s₀ s₁) (hw : 8389888 &&& W = 8389888) :
    Fr W s₀ (State.remap s₁ p) := by
  refine Fr.lift hw h₀ ?_
  have h : Fr 8389888 s₁ s₁ := Fr.refl
  clear h₀ hw
  first | rw [State.remap] | unfold State.remap
  repeat' first
    | with_reducible assumption
    | (with_reducible refine State.announce_frame ?_ rfl)
    | (with_reducible refine Fr.ite ?_ ?_)
    | (with_reducible refine Fr.eq2 (by assumption) ?_)
    | (with_reducible refine Fr.eq22 (by assumption) ?_)
    | (with_reducible refine Fr.eq1 (by assumption) ?_)
    | (with_reducible refine Fr.eqo (by assumption) ?_)
    | (with_reducible refine Fr.eqo2 (by assumption) ?_)
    | (with_reducible refine Fr.eqo22 (by assumption) ?_)
    | dsimp only
    | split

theorem State.failLane_frame {p : Nat} {k : Nat} {W : Nat} {s₀ s₁ : State} (h₀ : Fr W s₀ s₁) (hw : 8389890 &&& W = 8389890) :
    Fr W s₀ (State.failLane s₁ p k) := by
  refine Fr.lift hw h₀ ?_
  have h : Fr 8389890 s₁ s₁ := Fr.refl
  clear h₀ hw
  first | rw [State.failLane] | unfold State.failLane
  repeat' first
    | with_reducible assumption
    | (with_reducible refine State.showSpare_frame ?_ rfl)
    | (with_reducible refine State.markLane_frame ?_ rfl)
    | (with_reducible refine State.remap_frame ?_ rfl)
    | (with_reducible refine Fr.ite ?_ ?_)

theorem State.trainLane_frame {l : Nat} {W : Nat} {s₀ s₁ : State} (h₀ : Fr W s₀ s₁) (hw : 16777218 &&& W = 16777218) :
    Fr W s₀ (State.trainLane s₁ l) := by
  refine Fr.lift hw h₀ ?_
  have h : Fr 16777218 s₁ s₁ := Fr.refl
  clear h₀ hw
  first | rw [State.trainLane] | unfold State.trainLane
  repeat' first
    | with_reducible assumption
    | (with_reducible refine State.wr_frame ?_ rfl)
    | (with_reducible refine State.setLane_frame ?_ rfl)
    | (with_reducible refine Fr.ite ?_ ?_)
    | split

theorem State.startTraining_frame {p : Nat} {W : Nat} {s₀ s₁ : State} (h₀ : Fr W s₀ s₁) (hw : 96759200091170 &&& W = 96759200091170) :
    Fr W s₀ (State.startTraining s₁ p) := by
  refine Fr.lift hw h₀ ?_
  have h : Fr 96759200091170 s₁ s₁ := Fr.refl
  clear h₀ hw
  first | rw [State.startTraining] | unfold State.startTraining
  repeat' first
    | with_reducible assumption
    | (intro x; refine_lift have hb : ∀ y, y = x → Fr 96759200091170 s₁ y := ?_; ?_; all_goals first | (have hx := hb x rfl; clear hb; clear_value x) | (intro y hy; unfold x at hy; rw [hy]; clear hy y))
    | (intro x; clear_value x)
    | (lift_lets; intro x; refine_lift have hb : ∀ y, y = x → Fr 96759200091170 s₁ y := ?_; ?_; all_goals first | (have hx := hb x rfl; clear hb; clear_value x) | (intro y hy; unfold x at hy; rw [hy]; clear hy y))
    | (lift_lets; intro x; clear_value x)
    | (with_reducible refine State.trainLane_frame ?_ rfl)
    | (with_reducible refine State.setFp_frame ?_ rfl)
    | (with_reducible refine State.sf_frame ?_ rfl)
    | (with_reducible refine State.setPortState_frame ?_ rfl)
    | (with_reducible refine State.showSpare_frame ?_ rfl)
    | (with_reducible refine State.sendCtl_frame ?_ rfl)
    | (with_reducible refine Fr.foldl (fun z a h => ?_) ?_)
    | (with_reducible refine Fr.ite ?_ ?_)
    | (with_reducible exact Fr2.out (by assumption))
    | dsimp only
    | split

theorem State.sendCredit_frame {p : Nat} {W : Nat} {s₀ s₁ : State} (h₀ : Fr W s₀ s₁) (hw : 8389632 &&& W = 8389632) :
    Fr W s₀ (State.sendCredit s₁ p) := by
  refine Fr.lift hw h₀ ?_
  have h : Fr 8389632 s₁ s₁ := Fr.refl
  clear h₀ hw
  first | rw [State.sendCredit] | unfold State.sendCredit
  repeat' first
    | with_reducible assumption
    | (with_reducible refine State.sendCtl_frame ?_ rfl)
    | (with_reducible refine State.setFp_frame ?_ rfl)
    | (with_reducible refine State.emit_frame ?_ rfl)

theorem State.lanesTrained_frame {p : Nat} {spare : Bool} {W : Nat} {s₀ s₁ : State} (h₀ : Fr W s₀ s₁) (hw : 2 &&& W = 2) :
    Fr W s₀ (State.lanesTrained s₁ p spare) := by
  refine Fr.lift hw h₀ ?_
  have h : Fr 2 s₁ s₁ := Fr.refl
  clear h₀ hw
  first | rw [State.lanesTrained] | unfold State.lanesTrained
  repeat' first
    | with_reducible assumption
    | (intro x; refine_lift have hb : ∀ y, y = x → Fr 2 s₁ y := ?_; ?_; all_goals first | (have hx := hb x rfl; clear hb; clear_value x) | (intro y hy; unfold x at hy; rw [hy]; clear hy y))
    | (intro x; clear_value x)
    | (lift_lets; intro x; refine_lift have hb : ∀ y, y = x → Fr 2 s₁ y := ?_; ?_; all_goals first | (have hx := hb x rfl; clear hb; clear_value x) | (intro y hy; unfold x at hy; rw [hy]; clear hy y))
    | (lift_lets; intro x; clear_value x)
    | (with_reducible refine State.sf_frame ?_ rfl)
    | (with_reducible refine Fr.foldl (fun z a h => ?_) ?_)
    | (with_reducible refine Fr.ite ?_ ?_)
    | (with_reducible exact Fr2.out (by assumption))
    | dsimp only
    | split

theorem State.linkUp_frame {p : Nat} {W : Nat} {s₀ s₁ : State} (h₀ : Fr W s₀ s₁) (hw : 96759183313954 &&& W = 96759183313954) :
    Fr W s₀ (State.linkUp s₁ p) := by
  refine Fr.lift hw h₀ ?_
  have h : Fr 96759183313954 s₁ s₁ := Fr.refl
  clear h₀ hw
  first | rw [State.linkUp] | unfold State.linkUp
  repeat' first
    | with_reducible assumption
    | (intro x; refine_lift have hb : ∀ y, y = x → Fr 96759183313954 s₁ y := ?_; ?_; all_goals first | (have hx := hb x rfl; clear hb; clear_value x) | (intro y hy; unfold x at hy; rw [hy]; clear hy y))
    | (intro x; clear_value x)
    | (lift_lets; intro x; refine_lift have hb : ∀ y, y = x → Fr 96759183313954 s₁ y := ?_; ?_; all_goals first | (have hx := hb x rfl; clear hb; clear_value x) | (intro y hy; unfold x at hy; rw [hy]; clear hy y))
    | (lift_lets; intro x; clear_value x)
    | (with_reducible refine State.setFp_frame ?_ rfl)
    | (with_reducible refine State.setLanePos_frame ?_ rfl)
    | (with_reducible refine State.sf_frame ?_ rfl)
    | (with_reducible refine State.setPortState_frame ?_ rfl)
    | (with_reducible refine State.showSpare_frame ?_ rfl)
    | (with_reducible refine State.sendCredit_frame ?_ rfl)
    | (with_reducible refine Fr.foldl (fun z a h => ?_) ?_)
    | (with_reducible refine Fr.ite ?_ ?_)
    | (with_reducible exact Fr2.out (by assumption))
    | dsimp only
    | split

theorem State.rejoin_frame {p : Nat} {k : Nat} {W : Nat} {s₀ s₁ : State} (h₀ : Fr W s₀ s₁) (hw : 25167106 &&& W = 25167106) :
    Fr W s₀ (State.rejoin s₁ p k) := by
  refine Fr.lift hw h₀ ?_
  have h : Fr 25167106 s₁ s₁ := Fr.refl
  clear h₀ hw
  first | rw [State.rejoin] | unfold State.rejoin
  repeat' first
    | with_reducible assumption
    | (with_reducible refine State.announce_frame ?_ rfl)
    | (with_reducible refine State.showSpare_frame ?_ rfl)
    | (with_reducible refine State.setLane_frame ?_ rfl)
    | (with_reducible refine State.markLane_frame ?_ rfl)
    | (with_reducible refine State.sf_frame ?_ rfl)
    | (with_reducible refine Fr.ite ?_ ?_)

theorem State.comesUp_frame {p : Nat} {agree : Bool} {W : Nat} {s₀ s₁ : State} (h₀ : Fr W s₀ s₁) (hw : 96759183313954 &&& W = 96759183313954) :
    Fr W s₀ (State.comesUp s₁ p agree) := by
  refine Fr.lift hw h₀ ?_
  have h : Fr 96759183313954 s₁ s₁ := Fr.refl
  clear h₀ hw
  first | rw [State.comesUp] | unfold State.comesUp
  repeat' first
    | with_reducible assumption
    | (with_reducible refine State.linkUp_frame ?_ rfl)
    | (with_reducible refine Fr.ite ?_ ?_)
    | split

theorem State.portUp_frame {p : Nat} {spare : Bool} {W : Nat} {s₀ s₁ : State} (h₀ : Fr W s₀ s₁) (hw : 96759200091426 &&& W = 96759200091426) :
    Fr W s₀ (State.portUp s₁ p spare) := by
  refine Fr.lift hw h₀ ?_
  have h : Fr 96759200091426 s₁ s₁ := Fr.refl
  clear h₀ hw
  first | rw [State.portUp] | unfold State.portUp
  repeat' first
    | with_reducible assumption
    | (with_reducible refine State.lanesTrained_frame ?_ rfl)
    | (with_reducible refine State.comesUp_frame ?_ rfl)
    | (lift_lets; intro x; clear_value x)
    | (with_reducible refine State.linkUp_frame ?_ rfl)
    | (with_reducible refine State.setFp_frame ?_ rfl)
    | (with_reducible refine State.rejoin_frame ?_ rfl)
    | (with_reducible refine Fr.ite ?_ ?_)
    | split

theorem State.sendPfc_frame {p : Nat} {c : Nat} {quanta : Nat} {W : Nat} {s₀ s₁ : State} (h₀ : Fr W s₀ s₁) (hw : 1024 &&& W = 1024) :
    Fr W s₀ (State.sendPfc s₁ p c quanta) := by
  refine Fr.lift hw h₀ ?_
  have h : Fr 1024 s₁ s₁ := Fr.refl
  clear h₀ hw
  first | rw [State.sendPfc] | unfold State.sendPfc
  repeat' first
    | with_reducible assumption
    | (with_reducible refine State.emit_frame ?_ rfl)

theorem State.pfcUpdate_frame {p : Nat} {c : Nat} {W : Nat} {s₀ s₁ : State} (h₀ : Fr W s₀ s₁) (hw : 8389632 &&& W = 8389632) :
    Fr W s₀ (State.pfcUpdate s₁ p c) := by
  refine Fr.lift hw h₀ ?_
  have h : Fr 8389632 s₁ s₁ := Fr.refl
  clear h₀ hw
  first | rw [State.pfcUpdate] | unfold State.pfcUpdate
  repeat' first
    | with_reducible assumption
    | (with_reducible refine State.setFp_frame ?_ rfl)
    | (with_reducible refine State.sendPfc_frame ?_ rfl)
    | (with_reducible refine Fr.ite ?_ ?_)

theorem State.freeCells_frame {p : Nat} {c : Nat} {n : Nat} {W : Nat} {s₀ s₁ : State} (h₀ : Fr W s₀ s₁) (hw : 8389632 &&& W = 8389632) :
    Fr W s₀ (State.freeCells s₁ p c n) := by
  refine Fr.lift hw h₀ ?_
  have h : Fr 8389632 s₁ s₁ := Fr.refl
  clear h₀ hw
  first | rw [State.freeCells] | unfold State.freeCells
  repeat' first
    | with_reducible assumption
    | (intro x; refine_lift have hb : ∀ y, y = x → Fr 8389632 s₁ y := ?_; ?_; all_goals first | (have hx := hb x rfl; clear hb; clear_value x) | (intro y hy; unfold x at hy; rw [hy]; clear hy y))
    | (intro x; clear_value x)
    | (lift_lets; intro x; refine_lift have hb : ∀ y, y = x → Fr 8389632 s₁ y := ?_; ?_; all_goals first | (have hx := hb x rfl; clear hb; clear_value x) | (intro y hy; unfold x at hy; rw [hy]; clear hy y))
    | (lift_lets; intro x; clear_value x)
    | (with_reducible refine State.setFp_frame ?_ rfl)
    | (with_reducible refine State.pfcUpdate_frame ?_ rfl)
    | (with_reducible refine State.sendCredit_frame ?_ rfl)
    | (with_reducible refine Fr.ite ?_ ?_)
    | (with_reducible exact Fr2.out (by assumption))
    | dsimp only
    | split

theorem State.gotCredit_frame {p : Nat} {counts : List Nat} {W : Nat} {s₀ s₁ : State} (h₀ : Fr W s₀ s₁) (hw : 8388608 &&& W = 8388608) :
    Fr W s₀ (State.gotCredit s₁ p counts) := by
  refine Fr.lift hw h₀ ?_
  have h : Fr 8388608 s₁ s₁ := Fr.refl
  clear h₀ hw
  first | rw [State.gotCredit] | unfold State.gotCredit
  repeat' first
    | with_reducible assumption
    | (with_reducible refine State.transmit_frame ?_ rfl)
    | (lift_lets; intro x; clear_value x)
    | (with_reducible refine State.setFp_frame ?_ rfl)

theorem State.deliver_frame {p : Nat} {tc : Nat} {content : List Byte} {cells : Nat} {W : Nat} {s₀ s₁ : State} (h₀ : Fr W s₀ s₁) (hw : 8388608 &&& W = 8388608) :
    Fr W s₀ (State.deliver s₁ p tc content cells) := by
  refine Fr.lift hw h₀ ?_
  have h : Fr 8388608 s₁ s₁ := Fr.refl
  clear h₀ hw
  first | rw [State.deliver] | unfold State.deliver
  repeat' first
    | with_reducible assumption
    | (lift_lets; intro x; clear_value x)
    | (with_reducible refine State.setFp_frame ?_ rfl)

theorem State.dropFrame_frame {p : Nat} {tc : Nat} {cells : Nat} {W : Nat} {s₀ s₁ : State} (h₀ : Fr W s₀ s₁) (hw : 8389634 &&& W = 8389634) :
    Fr W s₀ (State.dropFrame s₁ p tc cells) := by
  refine Fr.lift hw h₀ ?_
  have h : Fr 8389634 s₁ s₁ := Fr.refl
  clear h₀ hw
  first | rw [State.dropFrame] | unfold State.dropFrame
  repeat' first
    | with_reducible assumption
    | (with_reducible refine State.freeCells_frame ?_ rfl)
    | (with_reducible refine State.discardFrame_frame ?_ rfl)

theorem State.openFrame_frame {p : Nat} {tc : Nat} {content : List Byte} {cells : Nat} {W : Nat} {s₀ s₁ : State} (h₀ : Fr W s₀ s₁) (hw : 8389634 &&& W = 8389634) :
    Fr W s₀ (State.openFrame s₁ p tc content cells) := by
  refine Fr.lift hw h₀ ?_
  have h : Fr 8389634 s₁ s₁ := Fr.refl
  clear h₀ hw
  first | rw [State.openFrame] | unfold State.openFrame
  repeat' first
    | with_reducible assumption
    | (with_reducible refine State.countAuth_frame ?_ rfl)
    | (intro x; refine_lift have hb : ∀ y, y = x → Fr 8389634 s₁ y := ?_; ?_; all_goals first | (have hx := hb x rfl; clear hb; clear_value x) | (intro y hy; unfold x at hy; rw [hy]; clear hy y))
    | (lift_lets; intro x; clear_value x)
    | (with_reducible refine State.dropFrame_frame ?_ rfl)
    | (with_reducible refine State.freeCells_frame ?_ rfl)
    | (with_reducible refine State.setFp_frame ?_ rfl)
    | (with_reducible refine State.sf_frame ?_ rfl)
    | (with_reducible refine State.deliver_frame ?_ rfl)
    | (with_reducible refine State.cnt_frame ?_ rfl)
    | (with_reducible refine Fr.ite ?_ ?_)
    | split

theorem State.recvFrame_frame {p : Nat} {tc : Nat} {enc : Bool} {bytes : List Byte} {cells : Nat} {bad : Bool} {W : Nat} {s₀ s₁ : State} (h₀ : Fr W s₀ s₁) (hw : 8389634 &&& W = 8389634) :
    Fr W s₀ (State.recvFrame s₁ p tc enc bytes cells bad) := by
  refine Fr.lift hw h₀ ?_
  have h : Fr 8389634 s₁ s₁ := Fr.refl
  clear h₀ hw
  first | rw [State.recvFrame] | unfold State.recvFrame
  repeat' first
    | with_reducible assumption
    | (intro x; clear_value x)
    | (lift_lets; intro x; clear_value x)
    | (with_reducible refine State.dropFrame_frame ?_ rfl)
    | (with_reducible refine State.openFrame_frame ?_ rfl)
    | (with_reducible refine State.deliver_frame ?_ rfl)
    | (with_reducible refine Fr.ite ?_ ?_)
    | split

theorem State.putFrame_frame {p : Nat} {tc : Nat} {enc : Bool} {bytes : List Byte} {W : Nat} {s₀ s₁ : State} (h₀ : Fr W s₀ s₁) (hw : 8389632 &&& W = 8389632) :
    Fr W s₀ (State.putFrame s₁ p tc enc bytes) := by
  refine Fr.lift hw h₀ ?_
  have h : Fr 8389632 s₁ s₁ := Fr.refl
  clear h₀ hw
  first | rw [State.putFrame] | unfold State.putFrame
  repeat' first
    | with_reducible assumption
    | (intro x; refine_lift have hb : ∀ y, y = x → Fr 8389632 s₁ y := ?_; ?_; all_goals first | (have hx := hb x rfl; clear hb; clear_value x) | (intro y hy; unfold x at hy; rw [hy]; clear hy y))
    | (intro x; clear_value x)
    | (lift_lets; intro x; refine_lift have hb : ∀ y, y = x → Fr 8389632 s₁ y := ?_; ?_; all_goals first | (have hx := hb x rfl; clear hb; clear_value x) | (intro y hy; unfold x at hy; rw [hy]; clear hy y))
    | (lift_lets; intro x; clear_value x)
    | (with_reducible refine State.setFp_frame ?_ rfl)
    | (with_reducible refine State.emit_frame ?_ rfl)
    | (with_reducible refine State.transmit_frame ?_ rfl)
    | (with_reducible refine Fr.ite ?_ ?_)
    | (with_reducible exact Fr2.out (by assumption))
    | dsimp only
    | split

theorem State.sendFrame_frame {p : Nat} {tc : Nat} {gated : Bool} {content : List Byte} {W : Nat} {s₀ s₁ : State} (h₀ : Fr W s₀ s₁) (hw : 2155875362 &&& W = 2155875362) :
    Fr2 W s₀ (State.sendFrame s₁ p tc gated content) := by
  refine Fr2.lift hw h₀ ?_
  have h : Fr 2155875362 s₁ s₁ := Fr.refl
  clear h₀ hw
  first | rw [State.sendFrame] | unfold State.sendFrame
  repeat' first
    | with_reducible assumption
    | (with_reducible refine State.putFrame_frame ?_ rfl)
    | (intro x; refine_lift have hb : ∀ y, y = x → Fr 2155875362 s₁ y := ?_; ?_; all_goals first | (have hx := hb x rfl; clear hb; clear_value x) | (intro y hy; unfold x at hy; rw [hy]; clear hy y))
    | (intro x; clear_value x)
    | (lift_lets; intro x; refine_lift have hb : ∀ y, y = x → Fr 2155875362 s₁ y := ?_; ?_; all_goals first | (have hx := hb x rfl; clear hb; clear_value x) | (intro y hy; unfold x at hy; rw [hy]; clear hy y))
    | (with_reducible refine State.setFp_frame ?_ rfl)
    | (with_reducible refine State.sf_frame ?_ rfl)
    | (with_reducible refine State.emit_frame ?_ rfl)
    | (with_reducible refine State.event_frame ?_ rfl)
    | (with_reducible refine Fr.ite ?_ ?_)
    | (with_reducible refine Fr2.ite ?_ ?_)
    | split
    | (with_reducible refine Fr2.pair ?_)

theorem State.takeWhere_frame {p : Nat} {tc : Nat} {is : List Byte → Bool} {W : Nat} {s₀ s₁ : State} (h₀ : Fr W s₀ s₁) (hw : 8389632 &&& W = 8389632) :
    Fr W s₀ (State.takeWhere s₁ p tc is) := by
  refine Fr.lift hw h₀ ?_
  have h : Fr 8389632 s₁ s₁ := Fr.refl
  clear h₀ hw
  first | rw [State.takeWhere] | unfold State.takeWhere
  repeat' first
    | with_reducible assumption
    | (intro x; refine_lift have hb : ∀ y, y = x → Fr 8389632 s₁ y := ?_; ?_; all_goals first | (have hx := hb x rfl; clear hb; clear_value x) | (intro y hy; unfold x at hy; rw [hy]; clear hy y))
    | (intro x; clear_value x)
    | (lift_lets; intro x; refine_lift have hb : ∀ y, y = x → Fr 8389632 s₁ y := ?_; ?_; all_goals first | (have hx := hb x rfl; clear hb; clear_value x) | (intro y hy; unfold x at hy; rw [hy]; clear hy y))
    | (lift_lets; intro x; clear_value x)
    | (with_reducible refine State.setFp_frame ?_ rfl)
    | (with_reducible refine State.freeCells_frame ?_ rfl)
    | (with_reducible refine Fr.ite ?_ ?_)
    | (with_reducible refine Fr.eq2 (by assumption) ?_)
    | (with_reducible refine Fr.eq22 (by assumption) ?_)
    | (with_reducible refine Fr.eq1 (by assumption) ?_)
    | (with_reducible refine Fr.eqo (by assumption) ?_)
    | (with_reducible refine Fr.eqo2 (by assumption) ?_)
    | (with_reducible refine Fr.eqo22 (by assumption) ?_)
    | (with_reducible exact Fr2.out (by assumption))
    | dsimp only
    | split

theorem State.takeFrame_frame {p : Nat} {tc : Nat} {content : List Byte} {W : Nat} {s₀ s₁ : State} (h₀ : Fr W s₀ s₁) (hw : 8389632 &&& W = 8389632) :
    Fr W s₀ (State.takeFrame s₁ p tc content) := by
  refine Fr.lift hw h₀ ?_
  have h : Fr 8389632 s₁ s₁ := Fr.refl
  clear h₀ hw
  first | rw [State.takeFrame] | unfold State.takeFrame
  repeat' first
    | with_reducible assumption
    | (with_reducible refine State.takeWhere_frame ?_ rfl)
    | (with_reducible refine Fr.ite ?_ ?_)
    | split

theorem State.unstall_frame {p : Nat} {W : Nat} {s₀ s₁ : State} (h₀ : Fr W s₀ s₁) (hw : 8389634 &&& W = 8389634) :
    Fr W s₀ (State.unstall s₁ p) := by
  refine Fr.lift hw h₀ ?_
  have h : Fr 8389634 s₁ s₁ := Fr.refl
  clear h₀ hw
  first | rw [State.unstall] | unfold State.unstall
  repeat' first
    | with_reducible assumption
    | (lift_lets; intro x; clear_value x)
    | (with_reducible refine State.openFrame_frame ?_ rfl)
    | (with_reducible refine State.setFp_frame ?_ rfl)
    | (with_reducible refine Fr.foldl (fun z a h => ?_) ?_)

theorem State.gotCaps_frame {p : Nat} {c : Caps} {W : Nat} {s₀ s₁ : State} (h₀ : Fr W s₀ s₁) (hw : 8388608 &&& W = 8388608) :
    Fr W s₀ (State.gotCaps s₁ p c) := by
  refine Fr.lift hw h₀ ?_
  have h : Fr 8388608 s₁ s₁ := Fr.refl
  clear h₀ hw
  first | rw [State.gotCaps] | unfold State.gotCaps
  repeat' first
    | with_reducible assumption
    | (lift_lets; intro x; clear_value x)
    | (with_reducible refine State.setFp_frame ?_ rfl)
    | (with_reducible refine Fr.ite ?_ ?_)

theorem State.followMap_frame {p : Nat} {m : NewMap} {W : Nat} {s₀ s₁ : State} (h₀ : Fr W s₀ s₁) (hw : 8389634 &&& W = 8389634) :
    Fr W s₀ (State.followMap s₁ p m) := by
  refine Fr.lift hw h₀ ?_
  have h : Fr 8389634 s₁ s₁ := Fr.refl
  clear h₀ hw
  first | rw [State.followMap] | unfold State.followMap
  repeat' first
    | with_reducible assumption
    | (intro x; refine_lift have hb : ∀ y, y = x → Fr 8389634 s₁ y := ?_; ?_; all_goals first | (have hx := hb x rfl; clear hb; clear_value x) | (intro y hy; unfold x at hy; rw [hy]; clear hy y))
    | (intro x; clear_value x)
    | (lift_lets; intro x; refine_lift have hb : ∀ y, y = x → Fr 8389634 s₁ y := ?_; ?_; all_goals first | (have hx := hb x rfl; clear hb; clear_value x) | (intro y hy; unfold x at hy; rw [hy]; clear hy y))
    | (lift_lets; intro x; clear_value x)
    | (with_reducible refine State.markLane_frame ?_ rfl)
    | (with_reducible refine State.setFp_frame ?_ rfl)
    | (with_reducible refine State.sendMap_frame ?_ rfl)
    | (with_reducible refine Fr.foldl (fun z a h => ?_) ?_)
    | (with_reducible refine Fr.ite ?_ ?_)
    | (with_reducible exact Fr2.out (by assumption))
    | dsimp only
    | split

theorem State.gotMap_frame {p : Nat} {id : Nat} {lanes : List Nat} {seq : Nat} {W : Nat} {s₀ s₁ : State} (h₀ : Fr W s₀ s₁) (hw : 8389634 &&& W = 8389634) :
    Fr W s₀ (State.gotMap s₁ p id lanes seq) := by
  refine Fr.lift hw h₀ ?_
  have h : Fr 8389634 s₁ s₁ := Fr.refl
  clear h₀ hw
  first | rw [State.gotMap] | unfold State.gotMap
  repeat' first
    | with_reducible assumption
    | (with_reducible refine State.followMap_frame ?_ rfl)
    | (intro x; clear_value x)
    | (lift_lets; intro x; refine_lift have hb : ∀ y, y = x → Fr 8389634 s₁ y := ?_; ?_; all_goals first | (have hx := hb x rfl; clear hb; clear_value x) | (intro y hy; unfold x at hy; rw [hy]; clear hy y))
    | (with_reducible refine State.sendMap_frame ?_ rfl)
    | (with_reducible refine State.setFp_frame ?_ rfl)
    | (with_reducible refine State.markLane_frame ?_ rfl)
    | (with_reducible refine Fr.ite ?_ ?_)
    | (with_reducible refine Fr.foldl (fun z a h => ?_) ?_)
    | split

theorem State.controlCell_frame {p : Nat} {ctype : Nat} {body : List Byte} {W : Nat} {s₀ s₁ : State} (h₀ : Fr W s₀ s₁) (hw : 8389634 &&& W = 8389634) :
    Fr W s₀ (State.controlCell s₁ p ctype body) := by
  refine Fr.lift hw h₀ ?_
  have h : Fr 8389634 s₁ s₁ := Fr.refl
  clear h₀ hw
  first | rw [State.controlCell] | unfold State.controlCell
  repeat' first
    | with_reducible assumption
    | (with_reducible refine State.gotCredit_frame ?_ rfl)
    | (with_reducible refine State.gotCaps_frame ?_ rfl)
    | (with_reducible refine State.gotMap_frame ?_ rfl)
    | (with_reducible refine Fr.ite ?_ ?_)

theorem State.frameCell_frame {p : Nat} {cell : List Byte} {lost : Bool} {W : Nat} {s₀ s₁ : State} (h₀ : Fr W s₀ s₁) (hw : 8389634 &&& W = 8389634) :
    Fr W s₀ (State.frameCell s₁ p cell lost) := by
  refine Fr.lift hw h₀ ?_
  have h : Fr 8389634 s₁ s₁ := Fr.refl
  clear h₀ hw
  first | rw [State.frameCell] | unfold State.frameCell
  repeat' first
    | with_reducible assumption
    | (intro x; clear_value x)
    | (lift_lets; intro x; clear_value x)
    | (with_reducible refine State.recvFrame_frame ?_ rfl)
    | (with_reducible refine State.dropFrame_frame ?_ rfl)
    | (with_reducible refine State.setFp_frame ?_ rfl)
    | (with_reducible refine State.discardFrame_frame ?_ rfl)
    | (with_reducible refine Fr.ite ?_ ?_)
    | split

theorem State.cellIn_frame {p : Nat} {cell : List Byte} {lost : Bool} {W : Nat} {s₀ s₁ : State} (h₀ : Fr W s₀ s₁) (hw : 8389634 &&& W = 8389634) :
    Fr W s₀ (State.cellIn s₁ p cell lost) := by
  refine Fr.lift hw h₀ ?_
  have h : Fr 8389634 s₁ s₁ := Fr.refl
  clear h₀ hw
  first | rw [State.cellIn] | unfold State.cellIn
  repeat' first
    | with_reducible assumption
    | (with_reducible refine State.discardFrame_frame ?_ rfl)
    | (with_reducible refine State.controlCell_frame ?_ rfl)
    | (with_reducible refine State.frameCell_frame ?_ rfl)
    | (with_reducible refine Fr.ite ?_ ?_)

theorem State.groupIn_frame {p : Nat} {w : Nat} {cws : List (Nat × List (List Byte) × Bool)} {W : Nat} {s₀ s₁ : State} (h₀ : Fr W s₀ s₁) (hw : 8389634 &&& W = 8389634) :
    Fr W s₀ (State.groupIn s₁ p w cws) := by
  refine Fr.lift hw h₀ ?_
  have h : Fr 8389634 s₁ s₁ := Fr.refl
  clear h₀ hw
  first | rw [State.groupIn] | unfold State.groupIn
  repeat' first
    | with_reducible assumption
    | (with_reducible refine State.cellIn_frame ?_ rfl)
    | (with_reducible refine Fr.foldl (fun z a h => ?_) ?_)
    | split

theorem State.spoil_frame {p : Nat} {W : Nat} {s₀ s₁ : State} (h₀ : Fr W s₀ s₁) (hw : 8388608 &&& W = 8388608) :
    Fr W s₀ (State.spoil s₁ p) := by
  refine Fr.lift hw h₀ ?_
  have h : Fr 8388608 s₁ s₁ := Fr.refl
  clear h₀ hw
  first | rw [State.spoil] | unfold State.spoil
  repeat' first
    | with_reducible assumption
    | (lift_lets; intro x; clear_value x)
    | (with_reducible refine State.setFp_frame ?_ rfl)

theorem State.skewIn_frame {p : Nat} {seq : Nat} {pos : Nat} {cells : List (List Byte)} {unc : Bool} {W : Nat} {s₀ s₁ : State} (h₀ : Fr W s₀ s₁) (hw : 8389634 &&& W = 8389634) :
    Fr W s₀ (State.skewIn s₁ p seq pos cells unc) := by
  refine Fr.lift hw h₀ ?_
  have h : Fr 8389634 s₁ s₁ := Fr.refl
  clear h₀ hw
  first | rw [State.skewIn] | unfold State.skewIn
  repeat' first
    | with_reducible assumption
    | (lift_lets; intro x; clear_value x)
    | (with_reducible refine State.groupIn_frame ?_ rfl)
    | (with_reducible refine State.setFp_frame ?_ rfl)
    | (with_reducible refine State.spoil_frame ?_ rfl)
    | (with_reducible refine Fr.ite ?_ ?_)

theorem State.lockStep_frame {l : Nat} {good : Bool} {unc : Bool} {W : Nat} {s₀ s₁ : State} (h₀ : Fr W s₀ s₁) (hw : 16777218 &&& W = 16777218) :
    Fr W s₀ (State.lockStep s₁ l good unc) := by
  refine Fr.lift hw h₀ ?_
  have h : Fr 16777218 s₁ s₁ := Fr.refl
  clear h₀ hw
  first | rw [State.lockStep] | unfold State.lockStep
  repeat' first
    | with_reducible assumption
    | (intro x; refine_lift have hb : ∀ y, y = x → Fr 16777218 s₁ y := ?_; ?_; all_goals first | (have hx := hb x rfl; clear hb; clear_value x) | (intro y hy; unfold x at hy; rw [hy]; clear hy y))
    | (intro x; clear_value x)
    | (lift_lets; intro x; refine_lift have hb : ∀ y, y = x → Fr 16777218 s₁ y := ?_; ?_; all_goals first | (have hx := hb x rfl; clear hb; clear_value x) | (intro y hy; unfold x at hy; rw [hy]; clear hy y))
    | (with_reducible refine State.setLane_frame ?_ rfl)
    | (with_reducible refine State.sf_frame ?_ rfl)
    | (with_reducible refine Fr.ite ?_ ?_)

theorem State.codewordIn_frame {lane : Nat} {c : Nat} {uncorrectable : Bool} {corrected : Nat} {cells : List (List Byte)} {W : Nat} {s₀ s₁ : State} (h₀ : Fr W s₀ s₁) (hw : 25166850 &&& W = 25166850) :
    Fr W s₀ (State.codewordIn s₁ lane c uncorrectable corrected cells) := by
  refine Fr.lift hw h₀ ?_
  have h : Fr 25166850 s₁ s₁ := Fr.refl
  clear h₀ hw
  first | rw [State.codewordIn] | unfold State.codewordIn
  repeat' first
    | with_reducible assumption
    | (intro x; refine_lift have hb : ∀ y, y = x → Fr 25166850 s₁ y := ?_; ?_; all_goals first | (have hx := hb x rfl; clear hb; clear_value x) | (intro y hy; unfold x at hy; rw [hy]; clear hy y))
    | (intro x; clear_value x)
    | (lift_lets; intro x; refine_lift have hb : ∀ y, y = x → Fr 25166850 s₁ y := ?_; ?_; all_goals first | (have hx := hb x rfl; clear hb; clear_value x) | (intro y hy; unfold x at hy; rw [hy]; clear hy y))
    | (with_reducible refine State.lockStep_frame ?_ rfl)
    | (with_reducible refine State.setLane_frame ?_ rfl)
    | (with_reducible refine State.skewIn_frame ?_ rfl)
    | (with_reducible refine State.sf_frame ?_ rfl)
    | (with_reducible refine State.cnt_frame ?_ rfl)
    | (with_reducible refine Fr.ite ?_ ?_)

theorem writeFabCtl_frame {q : Requester} {v : W32} {W : Nat} {s₀ s₁ : State} (h₀ : Fr W s₀ s₁) (hw : 2 &&& W = 2) :
    Fr W s₀ (writeFabCtl q v s₁) := by
  refine Fr.lift hw h₀ ?_
  have h : Fr 2 s₁ s₁ := Fr.refl
  clear h₀ hw
  first | rw [writeFabCtl] | unfold writeFabCtl
  repeat' first
    | with_reducible assumption
    | (intro x; refine_lift have hb : ∀ y, y = x → Fr 2 s₁ y := ?_; ?_; all_goals first | (have hx := hb x rfl; clear hb; clear_value x) | (intro y hy; unfold x at hy; rw [hy]; clear hy y))
    | (intro x; clear_value x)
    | (lift_lets; intro x; clear_value x)
    | (with_reducible refine State.sf_frame ?_ rfl)
    | (with_reducible refine Fr.ite ?_ ?_)

theorem writeFabNodeId_frame {q : Requester} {hi : Bool} {v : W32} {W : Nat} {s₀ s₁ : State} (h₀ : Fr W s₀ s₁) (hw : 2 &&& W = 2) :
    Fr W s₀ (writeFabNodeId q hi v s₁) := by
  refine Fr.lift hw h₀ ?_
  have h : Fr 2 s₁ s₁ := Fr.refl
  clear h₀ hw
  first | rw [writeFabNodeId] | unfold writeFabNodeId
  repeat' first
    | with_reducible assumption
    | (with_reducible refine State.wr_frame ?_ rfl)
    | (with_reducible refine Fr.ite ?_ ?_)

theorem State.enablePort_frame {p : Nat} {W : Nat} {s₀ s₁ : State} (h₀ : Fr W s₀ s₁) (hw : 96759200091426 &&& W = 96759200091426) :
    Fr2 W s₀ (State.enablePort s₁ p) := by
  refine Fr2.lift hw h₀ ?_
  have h : Fr 96759200091426 s₁ s₁ := Fr.refl
  clear h₀ hw
  first | rw [State.enablePort] | unfold State.enablePort
  repeat' first
    | with_reducible assumption
    | (with_reducible refine State.startTraining_frame ?_ rfl)
    | (with_reducible refine State.sf_frame ?_ rfl)
    | (with_reducible refine State.tick_frame ?_ rfl)
    | split
    | (with_reducible refine Fr2.pair ?_)

theorem State.disablePort_frame {p : Nat} {W : Nat} {s₀ s₁ : State} (h₀ : Fr W s₀ s₁) (hw : 96759200091170 &&& W = 96759200091170) :
    Fr W s₀ (State.disablePort s₁ p) := by
  refine Fr.lift hw h₀ ?_
  have h : Fr 96759200091170 s₁ s₁ := Fr.refl
  clear h₀ hw
  first | rw [State.disablePort] | unfold State.disablePort
  repeat' first
    | with_reducible assumption
    | (lift_lets; intro x; clear_value x)
    | (with_reducible refine State.showSpare_frame ?_ rfl)
    | (with_reducible refine State.setLane_frame ?_ rfl)
    | (with_reducible refine State.wr_frame ?_ rfl)
    | (with_reducible refine State.setPortState_frame ?_ rfl)
    | (with_reducible refine State.setFp_frame ?_ rfl)
    | (with_reducible refine State.sf_frame ?_ rfl)
    | (with_reducible refine Fr.foldl (fun z a h => ?_) ?_)

theorem State.retrainPort_frame {p : Nat} {W : Nat} {s₀ s₁ : State} (h₀ : Fr W s₀ s₁) (hw : 8388608 &&& W = 8388608) :
    Fr W s₀ (State.retrainPort s₁ p) := by
  refine Fr.lift hw h₀ ?_
  have h : Fr 8388608 s₁ s₁ := Fr.refl
  clear h₀ hw
  first | rw [State.retrainPort] | unfold State.retrainPort
  repeat' first
    | with_reducible assumption
    | (lift_lets; intro x; clear_value x)
    | (with_reducible refine State.setFp_frame ?_ rfl)
    | (with_reducible refine Fr.ite ?_ ?_)

theorem writeFabPortCtl_frame {q : Requester} {p : Nat} {v : W32} {W : Nat} {s₀ s₁ : State} (h₀ : Fr W s₀ s₁) (hw : 96759200091426 &&& W = 96759200091426) :
    Fr W s₀ (writeFabPortCtl q p v s₁) := by
  refine Fr.lift hw h₀ ?_
  have h : Fr 96759200091426 s₁ s₁ := Fr.refl
  clear h₀ hw
  first | rw [writeFabPortCtl] | unfold writeFabPortCtl
  repeat' first
    | with_reducible assumption
    | (intro x; refine_lift have hb : ∀ y, y = x → Fr 96759200091426 s₁ y := ?_; ?_; all_goals first | (have hx := hb x rfl; clear hb; clear_value x) | (intro y hy; unfold x at hy; rw [hy]; clear hy y))
    | (intro x; clear_value x)
    | (lift_lets; intro x; clear_value x)
    | (with_reducible refine State.disablePort_frame ?_ rfl)
    | (with_reducible refine State.sf_frame ?_ rfl)
    | (with_reducible refine State.retrainPort_frame ?_ rfl)
    | (with_reducible refine Fr.ite ?_ ?_)
    | (with_reducible refine Fr2.out (State.enablePort_frame ?_ rfl))

theorem writeFabPortStatus_frame {q : Requester} {p : Nat} {v : W32} {W : Nat} {s₀ s₁ : State} (h₀ : Fr W s₀ s₁) (hw : 2 &&& W = 2) :
    Fr W s₀ (writeFabPortStatus q p v s₁) := by
  refine Fr.lift hw h₀ ?_
  have h : Fr 2 s₁ s₁ := Fr.refl
  clear h₀ hw
  first | rw [writeFabPortStatus] | unfold writeFabPortStatus
  repeat' first
    | with_reducible assumption
    | (with_reducible refine State.wr_frame ?_ rfl)
    | (with_reducible refine Fr.ite ?_ ?_)

theorem writeFabPortAlloc_frame {q : Requester} {p : Nat} {hi : Bool} {v : W32} {W : Nat} {s₀ s₁ : State} (h₀ : Fr W s₀ s₁) (hw : 2 &&& W = 2) :
    Fr W s₀ (writeFabPortAlloc q p hi v s₁) := by
  refine Fr.lift hw h₀ ?_
  have h : Fr 2 s₁ s₁ := Fr.refl
  clear h₀ hw
  first | rw [writeFabPortAlloc] | unfold writeFabPortAlloc
  repeat' first
    | with_reducible assumption
    | (with_reducible refine State.wr_frame ?_ rfl)
    | (with_reducible refine Fr.ite ?_ ?_)

theorem writeFabPortPfc_frame {q : Requester} {p : Nat} {v : W32} {W : Nat} {s₀ s₁ : State} (h₀ : Fr W s₀ s₁) (hw : 2 &&& W = 2) :
    Fr W s₀ (writeFabPortPfc q p v s₁) := by
  refine Fr.lift hw h₀ ?_
  have h : Fr 2 s₁ s₁ := Fr.refl
  clear h₀ hw
  first | rw [writeFabPortPfc] | unfold writeFabPortPfc
  repeat' first
    | with_reducible assumption
    | (with_reducible refine State.wr_frame ?_ rfl)
    | (with_reducible refine Fr.ite ?_ ?_)

theorem writeFabPortKeys_frame {q : Requester} {p : Nat} {hi : Bool} {v : W32} {W : Nat} {s₀ s₁ : State} (h₀ : Fr W s₀ s₁) (hw : 2 &&& W = 2) :
    Fr W s₀ (writeFabPortKeys q p hi v s₁) := by
  refine Fr.lift hw h₀ ?_
  have h : Fr 2 s₁ s₁ := Fr.refl
  clear h₀ hw
  first | rw [writeFabPortKeys] | unfold writeFabPortKeys
  repeat' first
    | with_reducible assumption
    | (lift_lets; intro x; clear_value x)
    | (with_reducible refine State.wr64_frame ?_ rfl)
    | (with_reducible refine Fr.ite ?_ ?_)
    | (with_reducible refine Fr.foldl (fun z a h => ?_) ?_)

theorem State.switchKey_frame {p : Nat} {W : Nat} {s₀ s₁ : State} (h₀ : Fr W s₀ s₁) (hw : 8389634 &&& W = 8389634) :
    Fr W s₀ (State.switchKey s₁ p) := by
  refine Fr.lift hw h₀ ?_
  have h : Fr 8389634 s₁ s₁ := Fr.refl
  clear h₀ hw
  first | rw [State.switchKey] | unfold State.switchKey
  repeat' first
    | with_reducible assumption
    | (with_reducible refine State.sendCtl_frame ?_ rfl)
    | (lift_lets; intro x; clear_value x)
    | (with_reducible refine State.setFp_frame ?_ rfl)
    | (with_reducible refine State.sf_frame ?_ rfl)
    | (with_reducible refine State.emit_frame ?_ rfl)

theorem writeFabPortEnc_frame {q : Requester} {p : Nat} {v : W32} {W : Nat} {s₀ s₁ : State} (h₀ : Fr W s₀ s₁) (hw : 8389634 &&& W = 8389634) :
    Fr W s₀ (writeFabPortEnc q p v s₁) := by
  refine Fr.lift hw h₀ ?_
  have h : Fr 8389634 s₁ s₁ := Fr.refl
  clear h₀ hw
  first | rw [writeFabPortEnc] | unfold writeFabPortEnc
  repeat' first
    | with_reducible assumption
    | (intro x; refine_lift have hb : ∀ y, y = x → Fr 8389634 s₁ y := ?_; ?_; all_goals first | (have hx := hb x rfl; clear hb; clear_value x) | (intro y hy; unfold x at hy; rw [hy]; clear hy y))
    | (lift_lets; intro x; clear_value x)
    | (with_reducible refine State.sf_frame ?_ rfl)
    | (with_reducible refine State.switchKey_frame ?_ rfl)
    | (with_reducible refine Fr.ite ?_ ?_)

end Sys2Proof.Machine
end

