-- ==== Sys2Proof/Laws/FrameWire.lean ====
section
/-! SUPPORT. Frame lemmas of Machine/Wire.lean: which fields of State each operation can change. -/

namespace Sys2Proof.Machine

theorem State.setMsec_frame {p : Nat} {m : MsecPort} {W : Nat} {s₀ s₁ : State} (h₀ : Fr W s₀ s₁) (hw : 134217728 &&& W = 134217728) :
    Fr W s₀ (State.setMsec s₁ p m) := by
  refine Fr.lift hw h₀ ?_
  have h : Fr 134217728 s₁ s₁ := Fr.refl
  clear h₀ hw
  first | rw [State.setMsec] | unfold State.setMsec
  repeat' first
    | with_reducible assumption
    | (with_reducible refine Fr.ite ?_ ?_)
    | split
    | (with_reducible refine Fr.pkt ?_ rfl)

theorem State.msecOther_frame {p : Nat} {W : Nat} {s₀ s₁ : State} (h₀ : Fr W s₀ s₁) (hw : 2 &&& W = 2) :
    Fr W s₀ (State.msecOther s₁ p) := by
  refine Fr.lift hw h₀ ?_
  have h : Fr 2 s₁ s₁ := Fr.refl
  clear h₀ hw
  first | rw [State.msecOther] | unfold State.msecOther
  repeat' first
    | with_reducible assumption
    | (with_reducible refine State.cnt_frame ?_ rfl)
    | (with_reducible refine Fr.ite ?_ ?_)
    | split

theorem State.msecReceive_frame {p : Nat} {f : List Byte} {W : Nat} {s₀ s₁ : State} (h₀ : Fr W s₀ s₁) (hw : 134217730 &&& W = 134217730) :
    Fr2 W s₀ (State.msecReceive s₁ p f) := by
  refine Fr2.lift hw h₀ ?_
  have h : Fr 134217730 s₁ s₁ := Fr.refl
  clear h₀ hw
  first | rw [State.msecReceive] | unfold State.msecReceive
  repeat' first
    | with_reducible assumption
    | (with_reducible refine Fr2.pair ?_)
    | (with_reducible refine Fr2.ite ?_ ?_)
    | (intro x; refine_lift have hb : ∀ y, y = x → Fr 134217730 s₁ y := ?_; ?_; all_goals first | (have hx := hb x rfl; clear hb; clear_value x) | (intro y hy; unfold x at hy; rw [hy]; clear hy y))
    | (intro x; clear_value x)
    | (lift_lets; intro x; refine_lift have hb : ∀ y, y = x → Fr 134217730 s₁ y := ?_; ?_; all_goals first | (have hx := hb x rfl; clear hb; clear_value x) | (intro y hy; unfold x at hy; rw [hy]; clear hy y))
    | (lift_lets; intro x; clear_value x)
    | (with_reducible refine State.msecOther_frame ?_ rfl)
    | (with_reducible refine State.cnt_frame ?_ rfl)
    | (with_reducible refine State.countAuth_frame ?_ rfl)
    | (with_reducible refine State.setMsec_frame ?_ rfl)
    | (with_reducible refine Fr.ite ?_ ?_)
    | (with_reducible refine Fr.eq2 (by assumption) ?_)
    | (with_reducible refine Fr.eq22 (by assumption) ?_)
    | (with_reducible refine Fr.eq1 (by assumption) ?_)
    | (with_reducible refine Fr.eqo (by assumption) ?_)
    | (with_reducible refine Fr.eqo2 (by assumption) ?_)
    | (with_reducible refine Fr.eqo22 (by assumption) ?_)
    | (with_reducible exact Fr2.out (by assumption))
    | dsimp only
    | split

theorem State.msecProtect_frame {p : Nat} {f : List Byte} {W : Nat} {s₀ s₁ : State} (h₀ : Fr W s₀ s₁) (hw : 2281704482 &&& W = 2281704482) :
    FrO W s₀ ((State.msecProtect s₁ p f).map (fun p => p.2)) := by
  refine FrO.lift hw h₀ ?_
  have h : Fr 2281704482 s₁ s₁ := Fr.refl
  clear h₀ hw
  first | rw [State.msecProtect] | unfold State.msecProtect
  repeat' first
    | with_reducible assumption
    | (exact FrO.none)
    | (with_reducible refine FrO.some ?_)
    | (with_reducible exact FrO.map_none)
    | (with_reducible refine FrO.map_some ?_)
    | (intro x; refine_lift have hb : ∀ y, y = x → Fr 2281704482 s₁ y := ?_; ?_; all_goals first | (have hx := hb x rfl; clear hb; clear_value x) | (intro y hy; unfold x at hy; rw [hy]; clear hy y))
    | (intro x; clear_value x)
    | (lift_lets; intro x; refine_lift have hb : ∀ y, y = x → Fr 2281704482 s₁ y := ?_; ?_; all_goals first | (have hx := hb x rfl; clear hb; clear_value x) | (intro y hy; unfold x at hy; rw [hy]; clear hy y))
    | (lift_lets; intro x; clear_value x)
    | (with_reducible refine State.setMsec_frame ?_ rfl)
    | (with_reducible refine State.sf_frame ?_ rfl)
    | (with_reducible refine State.event_frame ?_ rfl)
    | (with_reducible refine Fr.ite ?_ ?_)
    | (with_reducible refine Fr.eq2 (by assumption) ?_)
    | (with_reducible refine Fr.eq22 (by assumption) ?_)
    | (with_reducible refine Fr.eq1 (by assumption) ?_)
    | (with_reducible refine Fr.eqo (by assumption) ?_)
    | (with_reducible refine Fr.eqo2 (by assumption) ?_)
    | (with_reducible refine Fr.eqo22 (by assumption) ?_)
    | (with_reducible exact Fr2.out (by assumption))
    | dsimp only
    | split

theorem State.sendEth_frame {port : Nat} {prio : Nat} {f : List Byte} {W : Nat} {s₀ s₁ : State} (h₀ : Fr W s₀ s₁) (hw : 2281704482 &&& W = 2281704482) :
    Fr2 W s₀ (State.sendEth s₁ port prio f) := by
  refine Fr2.lift hw h₀ ?_
  have h : Fr 2281704482 s₁ s₁ := Fr.refl
  clear h₀ hw
  first | rw [State.sendEth] | unfold State.sendEth
  repeat' first
    | with_reducible assumption
    | (with_reducible refine Fr2.pair ?_)
    | (with_reducible refine Fr2.ite ?_ ?_)
    | (with_reducible refine State.msecProtect_frame ?_ rfl)
    | (with_reducible refine State.emit_frame ?_ rfl)
    | (with_reducible refine Fr.ite ?_ ?_)
    | (with_reducible refine Fr.eq2 (by assumption) ?_)
    | (with_reducible refine Fr.eq22 (by assumption) ?_)
    | (with_reducible refine Fr.eq1 (by assumption) ?_)
    | (with_reducible refine Fr.eqo (by assumption) ?_)
    | (with_reducible refine Fr.eqo2 (by assumption) ?_)
    | (with_reducible refine Fr.eqo22 (by assumption) ?_)
    | dsimp only
    | split

end Sys2Proof.Machine
end

