-- ==== Sys2Proof/Laws/FrameTransport.lean ====
section
/-! SUPPORT. Frames of the functions of Machine/Transport.lean: which parts of the state each may change. -/

namespace Sys2Proof.Machine

theorem State.setCn_frame {n : Nat} {c : Conn} {W : Nat} {s₀ s₁ : State} (h₀ : Fr W s₀ s₁) (hw : 33554432 &&& W = 33554432) :
    Fr W s₀ (State.setCn s₁ n c) := by
  refine Fr.lift hw h₀ ?_
  have h : Fr 33554432 s₁ s₁ := Fr.refl
  clear h₀ hw
  first | rw [State.setCn] | unfold State.setCn
  repeat' first
    | with_reducible assumption
    | (lift_lets; intro x; clear_value x)
    | (with_reducible refine Fr.trn ?_ rfl)

theorem State.trnDiscard_frame {W : Nat} {s₀ s₁ : State} (h₀ : Fr W s₀ s₁) (hw : 2 &&& W = 2) :
    Fr W s₀ (State.trnDiscard s₁) := by
  refine Fr.lift hw h₀ ?_
  have h : Fr 2 s₁ s₁ := Fr.refl
  clear h₀ hw
  first | rw [State.trnDiscard] | unfold State.trnDiscard
  repeat' first
    | with_reducible assumption
    | (with_reducible refine State.cnt_frame ?_ rfl)

theorem State.putPacket_frame {n : Nat} {port : Nat} {gated : Bool} {p : OutPkt} {W : Nat} {s₀ s₁ : State} (h₀ : Fr W s₀ s₁) (hw : 2323647522 &&& W = 2323647522) :
    Fr2 W s₀ (State.putPacket s₁ n port gated p) := by
  refine Fr2.lift hw h₀ ?_
  have h : Fr 2323647522 s₁ s₁ := Fr.refl
  clear h₀ hw
  first | rw [State.putPacket] | unfold State.putPacket
  repeat' first
    | with_reducible assumption
    | (with_reducible refine Fr2.pair ?_)
    | (with_reducible refine Fr2.ite ?_ ?_)
    | (intro x; refine_lift have hb : ∀ y, y = x → Fr 2323647522 s₁ y := ?_; ?_; all_goals first | (have hx := hb x rfl; clear hb; clear_value x) | (intro y hy; unfold x at hy; rw [hy]; clear hy y))
    | (intro x; clear_value x)
    | (lift_lets; intro x; refine_lift have hb : ∀ y, y = x → Fr 2323647522 s₁ y := ?_; ?_; all_goals first | (have hx := hb x rfl; clear hb; clear_value x) | (intro y hy; unfold x at hy; rw [hy]; clear hy y))
    | (lift_lets; intro x; clear_value x)
    | (with_reducible refine State.sendEth_frame ?_ rfl)
    | (with_reducible refine Fr2.out (State.sendEth_frame ?_ rfl))
    | (with_reducible refine State.sendFrame_frame ?_ rfl)
    | (with_reducible refine Fr2.out (State.sendFrame_frame ?_ rfl))
    | (with_reducible refine State.setCn_frame ?_ rfl)
    | (with_reducible refine Fr.ite ?_ ?_)
    | (with_reducible refine Fr.eq2 (by assumption) ?_)
    | (with_reducible refine Fr.eq22 (by assumption) ?_)
    | (with_reducible refine Fr.eq1 (by assumption) ?_)
    | (with_reducible exact Fr2.out (by assumption))
    | dsimp only
    | split

theorem State.touch_frame {n : Nat} {W : Nat} {s₀ s₁ : State} (h₀ : Fr W s₀ s₁) (hw : 131943580568894 &&& W = 131943580568894) :
    Fr2 W s₀ (State.touch s₁ n) := by
  refine Fr2.lift hw h₀ ?_
  have h : Fr 131943580568894 s₁ s₁ := Fr.refl
  clear h₀ hw
  first | rw [State.touch] | unfold State.touch
  repeat' first
    | with_reducible assumption
    | (intro x; clear_value x)
    | (lift_lets; intro x; refine_lift have hb : ∀ y, y = x → Fr 131943580568894 s₁ y := ?_; ?_; all_goals first | (have hx := hb x rfl; clear hb; clear_value x) | (intro y hy; unfold x at hy; rw [hy]; clear hy y))
    | (lift_lets; intro x; clear_value x)
    | (with_reducible refine State.poke_frame ?_ rfl)
    | (with_reducible refine State.tick_frame ?_ rfl)
    | (with_reducible refine Fr2.ite ?_ ?_)
    | split
    | (with_reducible refine Fr2.pair ?_)
    | (with_reducible refine Fr.trn ?_ rfl)

theorem State.hold_frame {n : Nat} {W : Nat} {s₀ s₁ : State} (h₀ : Fr W s₀ s₁) (hw : 131943580568894 &&& W = 131943580568894) :
    Fr W s₀ (State.hold s₁ n) := by
  refine Fr.lift hw h₀ ?_
  have h : Fr 131943580568894 s₁ s₁ := Fr.refl
  clear h₀ hw
  first | rw [State.hold] | unfold State.hold
  repeat' first
    | with_reducible assumption
    | (with_reducible refine State.touch_frame ?_ rfl)
    | (with_reducible refine Fr2.out (State.touch_frame ?_ rfl))
    | (with_reducible refine Fr.ite ?_ ?_)
    | split

theorem State.drainTrn_frame {x0 : Nat} {W : Nat} {s₀ s₁ : State} (h₀ : Fr W s₀ s₁) (hw : 131943580634174 &&& W = 131943580634174) :
    Fr W s₀ (State.drainTrn x0 s₁) := by
  refine Fr.lift hw h₀ ?_
  clear h₀ hw
  suffices main : ∀ (x0 : Nat)  (z : State), Fr 131943580634174 s₁ z → Fr 131943580634174 s₁ (State.drainTrn x0 z) from main x0  s₁ Fr.refl
  intro x0
  induction x0 with
  | zero =>
    intro  z h
    first | rw [State.drainTrn] | unfold State.drainTrn
    repeat' first
      | with_reducible assumption
      | (intro x; refine_lift have hb : ∀ y, y = x → Fr 131943580634174 s₁ y := ?_; ?_; all_goals first | (have hx := hb x rfl; clear hb; clear_value x) | (intro y hy; unfold x at hy; rw [hy]; clear hy y))
      | (lift_lets; intro x; refine_lift have hb : ∀ y, y = x → Fr 131943580634174 s₁ y := ?_; ?_; all_goals first | (have hx := hb x rfl; clear hb; clear_value x) | (intro y hy; unfold x at hy; rw [hy]; clear hy y))
      | (lift_lets; intro x; clear_value x)
      | (with_reducible refine ih _ ?_)
      | (with_reducible refine State.retire_frame ?_ rfl)
      | (with_reducible refine State.writeCmplRecord_frame ?_ rfl)
      | (with_reducible refine Fr.ite ?_ ?_)
      | split
      | (with_reducible refine Fr.trn ?_ rfl)
  | succ n ih =>
    intro  z h
    first | rw [State.drainTrn] | unfold State.drainTrn
    repeat' first
      | with_reducible assumption
      | (intro x; refine_lift have hb : ∀ y, y = x → Fr 131943580634174 s₁ y := ?_; ?_; all_goals first | (have hx := hb x rfl; clear hb; clear_value x) | (intro y hy; unfold x at hy; rw [hy]; clear hy y))
      | (lift_lets; intro x; refine_lift have hb : ∀ y, y = x → Fr 131943580634174 s₁ y := ?_; ?_; all_goals first | (have hx := hb x rfl; clear hb; clear_value x) | (intro y hy; unfold x at hy; rw [hy]; clear hy y))
      | (lift_lets; intro x; clear_value x)
      | (with_reducible refine ih _ ?_)
      | (with_reducible refine State.retire_frame ?_ rfl)
      | (with_reducible refine State.writeCmplRecord_frame ?_ rfl)
      | (with_reducible refine Fr.ite ?_ ?_)
      | split
      | (with_reducible refine Fr.trn ?_ rfl)

theorem State.uncache_frame {n : Nat} {W : Nat} {s₀ s₁ : State} (h₀ : Fr W s₀ s₁) (hw : 33554432 &&& W = 33554432) :
    Fr W s₀ (State.uncache s₁ n) := by
  refine Fr.lift hw h₀ ?_
  have h : Fr 33554432 s₁ s₁ := Fr.refl
  clear h₀ hw
  first | rw [State.uncache] | unfold State.uncache
  repeat' first
    | with_reducible assumption
    | (with_reducible refine Fr.ite ?_ ?_)
    | split
    | (with_reducible refine Fr.trn ?_ rfl)

theorem State.settle_frame {n : Nat} {W : Nat} {s₀ s₁ : State} (h₀ : Fr W s₀ s₁) (hw : 131948412407102 &&& W = 131948412407102) :
    Fr W s₀ (State.settle s₁ n) := by
  refine Fr.lift hw h₀ ?_
  have h : Fr 131948412407102 s₁ s₁ := Fr.refl
  clear h₀ hw
  first | rw [State.settle] | unfold State.settle
  repeat' first
    | with_reducible assumption
    | (intro x; refine_lift have hb : ∀ y, y = x → Fr 131948412407102 s₁ y := ?_; ?_; all_goals first | (have hx := hb x rfl; clear hb; clear_value x) | (intro y hy; unfold x at hy; rw [hy]; clear hy y))
    | (intro x; clear_value x)
    | (lift_lets; intro x; refine_lift have hb : ∀ y, y = x → Fr 131948412407102 s₁ y := ?_; ?_; all_goals first | (have hx := hb x rfl; clear hb; clear_value x) | (intro y hy; unfold x at hy; rw [hy]; clear hy y))
    | (lift_lets; intro x; clear_value x)
    | (with_reducible refine State.hold_frame ?_ rfl)
    | (with_reducible refine State.setCn_frame ?_ rfl)
    | (with_reducible refine State.stoConnError_frame ?_ rfl)
    | (with_reducible refine State.uncache_frame ?_ rfl)
    | (with_reducible refine Fr.ite ?_ ?_)
    | (with_reducible exact Fr2.out (by assumption))
    | dsimp only
    | split

theorem State.complete_frame {n : Nat} {m : Msg} {status : Nat} {bytes : Nat} {W : Nat} {s₀ s₁ : State} (h₀ : Fr W s₀ s₁) (hw : 131956465536062 &&& W = 131956465536062) :
    Fr W s₀ (State.complete s₁ n m status bytes) := by
  refine Fr.lift hw h₀ ?_
  have h : Fr 131956465536062 s₁ s₁ := Fr.refl
  clear h₀ hw
  first | rw [State.complete] | unfold State.complete
  repeat' first
    | with_reducible assumption
    | (lift_lets; intro x; clear_value x)
    | (with_reducible refine State.retire_frame ?_ rfl)
    | (with_reducible refine State.iqDone_frame ?_ rfl)
    | (with_reducible refine State.iqComplete_frame ?_ rfl)
    | (with_reducible refine State.late_frame ?_ rfl)
    | (with_reducible refine State.drainTrn_frame ?_ rfl)
    | (with_reducible refine Fr.ite ?_ ?_)
    | split
    | dsimp only
    | (with_reducible refine Fr.trn ?_ rfl)

theorem State.completeFailed_frame {n : Nat} {m : Msg} {status : Nat} {W : Nat} {s₀ s₁ : State} (h₀ : Fr W s₀ s₁) (hw : 131956465536318 &&& W = 131956465536318) :
    Fr W s₀ (State.completeFailed s₁ n m status) := by
  refine Fr.lift hw h₀ ?_
  have h : Fr 131956465536318 s₁ s₁ := Fr.refl
  clear h₀ hw
  first | rw [State.completeFailed] | unfold State.completeFailed
  repeat' first
    | with_reducible assumption
    | (with_reducible refine State.complete_frame ?_ rfl)
    | (with_reducible refine State.tick_frame ?_ rfl)

theorem State.dropParts_frame {n : Nat} {W : Nat} {s₀ s₁ : State} (h₀ : Fr W s₀ s₁) (hw : 131956465536062 &&& W = 131956465536062) :
    Fr W s₀ (State.dropParts s₁ n) := by
  refine Fr.lift hw h₀ ?_
  have h : Fr 131956465536062 s₁ s₁ := Fr.refl
  clear h₀ hw
  first | rw [State.dropParts] | unfold State.dropParts
  repeat' first
    | with_reducible assumption
    | (with_reducible refine State.complete_frame ?_ rfl)
    | (with_reducible refine Fr.ite ?_ ?_)
    | (with_reducible exact Fr2.out (by assumption))
    | dsimp only
    | split
    | (with_reducible refine Fr.trn ?_ rfl)

theorem State.flush_frame {n : Nat} {cause : Option Nat} {status : Nat} {W : Nat} {s₀ s₁ : State} (h₀ : Fr W s₀ s₁) (hw : 131957002407230 &&& W = 131957002407230) :
    Fr W s₀ (State.flush s₁ n cause status) := by
  refine Fr.lift hw h₀ ?_
  have h : Fr 131957002407230 s₁ s₁ := Fr.refl
  clear h₀ hw
  first | rw [State.flush] | unfold State.flush
  repeat' first
    | with_reducible assumption
    | (intro x; refine_lift have hb : ∀ y, y = x → Fr 131957002407230 s₁ y := ?_; ?_; all_goals first | (have hx := hb x rfl; clear hb; clear_value x) | (intro y hy; unfold x at hy; rw [hy]; clear hy y))
    | (intro x; clear_value x)
    | (lift_lets; intro x; refine_lift have hb : ∀ y, y = x → Fr 131957002407230 s₁ y := ?_; ?_; all_goals first | (have hx := hb x rfl; clear hb; clear_value x) | (intro y hy; unfold x at hy; rw [hy]; clear hy y))
    | (lift_lets; intro x; clear_value x)
    | (with_reducible refine State.hold_frame ?_ rfl)
    | (with_reducible refine State.setCn_frame ?_ rfl)
    | (with_reducible refine State.completeFailed_frame ?_ rfl)
    | (with_reducible refine State.complete_frame ?_ rfl)
    | (with_reducible refine State.dropParts_frame ?_ rfl)
    | (with_reducible refine State.settle_frame ?_ rfl)
    | (with_reducible refine Fr.foldl (fun z a h => ?_) ?_)
    | (with_reducible refine Fr.ite ?_ ?_)
    | (with_reducible exact Fr2.out (by assumption))
    | dsimp only
    | split

theorem State.holdBuffer_frame {q : Nat} {W : Nat} {s₀ s₁ : State} (h₀ : Fr W s₀ s₁) (hw : 8589934592 &&& W = 8589934592) :
    Fr W s₀ (State.holdBuffer s₁ q) := by
  refine Fr.lift hw h₀ ?_
  have h : Fr 8589934592 s₁ s₁ := Fr.refl
  clear h₀ hw
  first | rw [State.holdBuffer] | unfold State.holdBuffer
  repeat' first
    | with_reducible assumption
    | (with_reducible refine State.setIq_frame ?_ rfl)
    | (with_reducible refine Fr.ite ?_ ?_)
    | (with_reducible refine Fr.eq2 (by assumption) ?_)
    | (with_reducible refine Fr.eq22 (by assumption) ?_)
    | (with_reducible refine Fr.eq1 (by assumption) ?_)
    | (with_reducible refine Fr.eqo (by assumption) ?_)
    | (with_reducible refine Fr.eqo2 (by assumption) ?_)
    | (with_reducible refine Fr.eqo22 (by assumption) ?_)
    | dsimp only
    | split

theorem State.takeUnused_frame {key : Nat} {W : Nat} {s₀ s₁ : State} (h₀ : Fr W s₀ s₁) (hw : 8623489024 &&& W = 8623489024) :
    FrO W s₀ ((State.takeUnused s₁ key).map (fun p => p.2.2)) := by
  refine FrO.lift hw h₀ ?_
  have h : Fr 8623489024 s₁ s₁ := Fr.refl
  clear h₀ hw
  first | rw [State.takeUnused] | unfold State.takeUnused
  repeat' first
    | with_reducible assumption
    | (exact FrO.none)
    | (with_reducible refine FrO.some ?_)
    | (with_reducible exact FrO.map_none)
    | (with_reducible refine FrO.map_some ?_)
    | (intro x; refine_lift have hb : ∀ y, y = x → Fr 8623489024 s₁ y := ?_; ?_; all_goals first | (have hx := hb x rfl; clear hb; clear_value x) | (intro y hy; unfold x at hy; rw [hy]; clear hy y))
    | (intro x; clear_value x)
    | (lift_lets; intro x; refine_lift have hb : ∀ y, y = x → Fr 8623489024 s₁ y := ?_; ?_; all_goals first | (have hx := hb x rfl; clear hb; clear_value x) | (intro y hy; unfold x at hy; rw [hy]; clear hy y))
    | (lift_lets; intro x; clear_value x)
    | (with_reducible refine State.holdBuffer_frame ?_ rfl)
    | (with_reducible refine Fr.ite ?_ ?_)
    | (with_reducible refine Fr.eq2 (by assumption) ?_)
    | (with_reducible refine Fr.eq22 (by assumption) ?_)
    | (with_reducible refine Fr.eq1 (by assumption) ?_)
    | (with_reducible refine Fr.eqo (by assumption) ?_)
    | (with_reducible refine Fr.eqo2 (by assumption) ?_)
    | (with_reducible refine Fr.eqo22 (by assumption) ?_)
    | (with_reducible exact Fr2.out (by assumption))
    | dsimp only
    | split
    | (with_reducible refine Fr.trn ?_ rfl)

theorem State.takeSlot_frame {W : Nat} {s₀ s₁ : State} (h₀ : Fr W s₀ s₁) (hw : 33554434 &&& W = 33554434) :
    FrO W s₀ ((State.takeSlot s₁).map (fun p => p.2.2)) := by
  refine FrO.lift hw h₀ ?_
  have h : Fr 33554434 s₁ s₁ := Fr.refl
  clear h₀ hw
  first | rw [State.takeSlot] | unfold State.takeSlot
  repeat' first
    | with_reducible assumption
    | (exact FrO.none)
    | (with_reducible refine FrO.some ?_)
    | (with_reducible exact FrO.map_none)
    | (with_reducible refine FrO.map_some ?_)
    | (intro x; refine_lift have hb : ∀ y, y = x → Fr 33554434 s₁ y := ?_; ?_; all_goals first | (have hx := hb x rfl; clear hb; clear_value x) | (intro y hy; unfold x at hy; rw [hy]; clear hy y))
    | (intro x; clear_value x)
    | (lift_lets; intro x; refine_lift have hb : ∀ y, y = x → Fr 33554434 s₁ y := ?_; ?_; all_goals first | (have hx := hb x rfl; clear hb; clear_value x) | (intro y hy; unfold x at hy; rw [hy]; clear hy y))
    | (lift_lets; intro x; clear_value x)
    | (with_reducible refine State.sf_frame ?_ rfl)
    | (with_reducible refine Fr.ite ?_ ?_)
    | (with_reducible exact Fr2.out (by assumption))
    | dsimp only
    | split
    | (with_reducible refine Fr.trn ?_ rfl)

theorem State.takeRx_frame {c : Conn} {W : Nat} {s₀ s₁ : State} (h₀ : Fr W s₀ s₁) (hw : 8623489026 &&& W = 8623489026) :
    FrO W s₀ ((State.takeRx s₁ c).map (fun p => p.2.2)) := by
  refine FrO.lift hw h₀ ?_
  have h : Fr 8623489026 s₁ s₁ := Fr.refl
  clear h₀ hw
  first | rw [State.takeRx] | unfold State.takeRx
  repeat' first
    | with_reducible assumption
    | (exact FrO.none)
    | (with_reducible refine FrO.some ?_)
    | (with_reducible exact FrO.map_none)
    | (with_reducible refine FrO.map_some ?_)
    | (with_reducible refine FrO.map_or ?_ ?_)
    | (with_reducible refine State.takeUnused_frame ?_ rfl)
    | (with_reducible refine State.takeBuffer_frame ?_ rfl)
    | (with_reducible refine State.takeSlot_frame ?_ rfl)
    | (with_reducible refine Fr.ite ?_ ?_)
    | split

theorem State.reserve1_frame {n : Nat} {m : Nat} {W : Nat} {s₀ s₁ : State} (h₀ : Fr W s₀ s₁) (hw : 8623489026 &&& W = 8623489026) :
    Fr2 W s₀ (State.reserve1 s₁ n m) := by
  refine Fr2.lift hw h₀ ?_
  have h : Fr 8623489026 s₁ s₁ := Fr.refl
  clear h₀ hw
  first | rw [State.reserve1] | unfold State.reserve1
  repeat' first
    | with_reducible assumption
    | (with_reducible refine Fr2.pair ?_)
    | (with_reducible refine Fr2.ite ?_ ?_)
    | (intro x; refine_lift have hb : ∀ y, y = x → Fr 8623489026 s₁ y := ?_; ?_; all_goals first | (have hx := hb x rfl; clear hb; clear_value x) | (intro y hy; unfold x at hy; rw [hy]; clear hy y))
    | (intro x; clear_value x)
    | (lift_lets; intro x; refine_lift have hb : ∀ y, y = x → Fr 8623489026 s₁ y := ?_; ?_; all_goals first | (have hx := hb x rfl; clear hb; clear_value x) | (intro y hy; unfold x at hy; rw [hy]; clear hy y))
    | (lift_lets; intro x; clear_value x)
    | (with_reducible refine State.takeRx_frame ?_ rfl)
    | (with_reducible refine State.setCn_frame ?_ rfl)
    | (with_reducible refine Fr.ite ?_ ?_)
    | (with_reducible refine Fr.eq2 (by assumption) ?_)
    | (with_reducible refine Fr.eq22 (by assumption) ?_)
    | (with_reducible refine Fr.eq1 (by assumption) ?_)
    | (with_reducible refine Fr.eqo (by assumption) ?_)
    | (with_reducible refine Fr.eqo2 (by assumption) ?_)
    | (with_reducible refine Fr.eqo22 (by assumption) ?_)
    | (with_reducible exact Fr2.out (by assumption))
    | dsimp only
    | split

theorem State.giveBack_frame {n : Nat} {W : Nat} {s₀ s₁ : State} (h₀ : Fr W s₀ s₁) (hw : 8623491072 &&& W = 8623491072) :
    Fr W s₀ (State.giveBack s₁ n) := by
  refine Fr.lift hw h₀ ?_
  have h : Fr 8623491072 s₁ s₁ := Fr.refl
  clear h₀ hw
  first | rw [State.giveBack] | unfold State.giveBack
  repeat' first
    | with_reducible assumption
    | (intro x; refine_lift have hb : ∀ y, y = x → Fr 8623491072 s₁ y := ?_; ?_; all_goals first | (have hx := hb x rfl; clear hb; clear_value x) | (intro y hy; unfold x at hy; rw [hy]; clear hy y))
    | (intro x; clear_value x)
    | (lift_lets; intro x; refine_lift have hb : ∀ y, y = x → Fr 8623491072 s₁ y := ?_; ?_; all_goals first | (have hx := hb x rfl; clear hb; clear_value x) | (intro y hy; unfold x at hy; rw [hy]; clear hy y))
    | (lift_lets; intro x; clear_value x)
    | (with_reducible refine State.iqDone_frame ?_ rfl)
    | (with_reducible refine State.setCn_frame ?_ rfl)
    | (with_reducible refine Fr.foldl (fun z a h => ?_) ?_)
    | (with_reducible refine Fr.ite ?_ ?_)
    | (with_reducible exact Fr2.out (by assumption))
    | dsimp only
    | split
    | (with_reducible refine Fr.trn ?_ rfl)

theorem State.reserveAll_frame {n : Nat} {m : Nat} {x2 : Nat} {W : Nat} {s₀ s₁ : State} (h₀ : Fr W s₀ s₁) (hw : 8623489026 &&& W = 8623489026) :
    Fr W s₀ (State.reserveAll n m x2 s₁) := by
  refine Fr.lift hw h₀ ?_
  clear h₀ hw
  suffices main : ∀ (x2 : Nat) (n : Nat) (m : Nat) (z : State), Fr 8623489026 s₁ z → Fr 8623489026 s₁ (State.reserveAll n m x2 z) from main x2 n m s₁ Fr.refl
  intro x2
  induction x2 with
  | zero =>
    intro n m z h
    first | rw [State.reserveAll] | unfold State.reserveAll
    repeat' first
      | with_reducible assumption
      | (with_reducible refine ih _ _ _ ?_)
      | (with_reducible refine State.reserve1_frame ?_ rfl)
      | (with_reducible refine Fr.eq2 (by assumption) ?_)
      | split
  | succ n ih =>
    intro n m z h
    first | rw [State.reserveAll] | unfold State.reserveAll
    repeat' first
      | with_reducible assumption
      | (with_reducible refine ih _ _ _ ?_)
      | (with_reducible refine State.reserve1_frame ?_ rfl)
      | (with_reducible refine Fr.eq2 (by assumption) ?_)
      | split

theorem State.reserve_frame {n : Nat} {W : Nat} {s₀ s₁ : State} (h₀ : Fr W s₀ s₁) (hw : 8623489026 &&& W = 8623489026) :
    Fr W s₀ (State.reserve s₁ n) := by
  refine Fr.lift hw h₀ ?_
  have h : Fr 8623489026 s₁ s₁ := Fr.refl
  clear h₀ hw
  first | rw [State.reserve] | unfold State.reserve
  repeat' first
    | with_reducible assumption
    | (with_reducible refine State.reserveAll_frame ?_ rfl)
    | (with_reducible refine Fr.ite ?_ ?_)

theorem State.hostMarks_frame {pasid : Option Nat} {a : Nat} {n : Nat} {poison : Bool} {W : Nat} {s₀ s₁ : State} (h₀ : Fr W s₀ s₁) (hw : 8 &&& W = 8) :
    Fr W s₀ (State.hostMarks s₁ pasid a n poison) := by
  refine Fr.lift hw h₀ ?_
  have h : Fr 8 s₁ s₁ := Fr.refl
  clear h₀ hw
  first | rw [State.hostMarks] | unfold State.hostMarks
  repeat' first
    | with_reducible assumption
    | (intro x; refine_lift have hb : ∀ y, y = x → Fr 8 s₁ y := ?_; ?_; all_goals first | (have hx := hb x rfl; clear hb; clear_value x) | (intro y hy; unfold x at hy; rw [hy]; clear hy y))
    | (intro x; clear_value x)
    | (lift_lets; intro x; refine_lift have hb : ∀ y, y = x → Fr 8 s₁ y := ?_; ?_; all_goals first | (have hx := hb x rfl; clear hb; clear_value x) | (intro y hy; unfold x at hy; rw [hy]; clear hy y))
    | (lift_lets; intro x; clear_value x)
    | (with_reducible refine Fr.foldl (fun z a h => ?_) ?_)
    | (with_reducible refine Fr.ite ?_ ?_)
    | (with_reducible exact Fr2.out (by assumption))
    | dsimp only
    | split
    | (with_reducible refine Fr.marks ?_ rfl)

theorem State.instStore_frame {i : Nat} {a : Nat} {bs : List Byte} {poison : Bool} {W : Nat} {s₀ s₁ : State} (h₀ : Fr W s₀ s₁) (hw : 40 &&& W = 40) :
    Fr2 W s₀ (State.instStore s₁ i a bs poison) := by
  refine Fr2.lift hw h₀ ?_
  have h : Fr 40 s₁ s₁ := Fr.refl
  clear h₀ hw
  first | rw [State.instStore] | unfold State.instStore
  repeat' first
    | with_reducible assumption
    | (with_reducible refine Fr2.pair ?_)
    | (with_reducible refine Fr2.ite ?_ ?_)
    | (with_reducible refine State.instWrite_frame ?_ rfl)
    | (with_reducible refine State.hostMarks_frame ?_ rfl)
    | (with_reducible refine Fr.ite ?_ ?_)
    | split

theorem State.readSource_frame {i : TxItem} {a : Nat} {len : Nat} {W : Nat} {s₀ s₁ : State} (h₀ : Fr W s₀ s₁) (hw : 96759242034490 &&& W = 96759242034490) :
    Fr22 W s₀ (State.readSource s₁ i a len) := by
  refine Fr22.lift hw h₀ ?_
  have h : Fr 96759242034490 s₁ s₁ := Fr.refl
  clear h₀ hw
  first | rw [State.readSource] | unfold State.readSource
  repeat' first
    | with_reducible assumption
    | (with_reducible refine Fr22.pair ?_)
    | (with_reducible refine Fr22.ite ?_ ?_)
    | (intro x; refine_lift have hb : ∀ y, y = x → Fr 96759242034490 s₁ y := ?_; ?_; all_goals first | (have hx := hb x rfl; clear hb; clear_value x) | (intro y hy; unfold x at hy; rw [hy]; clear hy y))
    | (intro x; clear_value x)
    | (lift_lets; intro x; refine_lift have hb : ∀ y, y = x → Fr 96759242034490 s₁ y := ?_; ?_; all_goals first | (have hx := hb x rfl; clear hb; clear_value x) | (intro y hy; unfold x at hy; rw [hy]; clear hy y))
    | (lift_lets; intro x; clear_value x)
    | (with_reducible refine State.engLoad_frame ?_ rfl)
    | (with_reducible refine Fr22.out (State.engLoad_frame ?_ rfl))
    | (with_reducible refine Fr.ite ?_ ?_)
    | (with_reducible refine Fr.eq2 (by assumption) ?_)
    | (with_reducible refine Fr.eq22 (by assumption) ?_)
    | (with_reducible refine Fr.eq1 (by assumption) ?_)
    | (with_reducible refine Fr.eqo (by assumption) ?_)
    | (with_reducible refine Fr.eqo2 (by assumption) ?_)
    | (with_reducible refine Fr.eqo22 (by assumption) ?_)
    | (with_reducible exact Fr2.out (by assumption))
    | dsimp only
    | split

theorem State.buildPkt_frame {n : Nat} {i : TxItem} {p : Nat} {W : Nat} {s₀ s₁ : State} (h₀ : Fr W s₀ s₁) (hw : 96759242034490 &&& W = 96759242034490) :
    Fr2 W s₀ (State.buildPkt s₁ n i p) := by
  refine Fr2.lift hw h₀ ?_
  have h : Fr 96759242034490 s₁ s₁ := Fr.refl
  clear h₀ hw
  first | rw [State.buildPkt] | unfold State.buildPkt
  repeat' first
    | with_reducible assumption
    | (with_reducible refine State.readSource_frame ?_ rfl)
    | (with_reducible refine Fr2.ite ?_ ?_)
    | (with_reducible refine Fr.eq22 (by assumption) ?_)
    | split
    | (with_reducible refine Fr2.pair ?_)

theorem State.sendHead_frame {n : Nat} {port : Nat} {W : Nat} {s₀ s₁ : State} (h₀ : Fr W s₀ s₁) (hw : 131957212122430 &&& W = 131957212122430) :
    Fr2 W s₀ (State.sendHead s₁ n port) := by
  refine Fr2.lift hw h₀ ?_
  have h : Fr 131957212122430 s₁ s₁ := Fr.refl
  clear h₀ hw
  first | rw [State.sendHead] | unfold State.sendHead
  repeat' first
    | with_reducible assumption
    | (with_reducible refine Fr2.pair ?_)
    | (with_reducible refine Fr2.ite ?_ ?_)
    | (with_reducible refine State.touch_frame ?_ rfl)
    | (with_reducible refine Fr2.out (State.touch_frame ?_ rfl))
    | (with_reducible refine State.putPacket_frame ?_ rfl)
    | (with_reducible refine Fr2.out (State.putPacket_frame ?_ rfl))
    | (with_reducible refine State.setCn_frame ?_ rfl)
    | (with_reducible refine State.buildPkt_frame ?_ rfl)
    | (with_reducible refine Fr2.out (State.buildPkt_frame ?_ rfl))
    | (with_reducible refine State.flush_frame ?_ rfl)
    | (with_reducible refine Fr.ite ?_ ?_)
    | (with_reducible refine Fr.eq2 (by assumption) ?_)
    | (with_reducible refine Fr.eq22 (by assumption) ?_)
    | (with_reducible refine Fr.eq1 (by assumption) ?_)
    | (with_reducible refine Fr.eqo (by assumption) ?_)
    | (with_reducible refine Fr.eqo2 (by assumption) ?_)
    | (with_reducible refine Fr.eqo22 (by assumption) ?_)
    | dsimp only
    | split

theorem State.pumpConn_frame {n : Nat} {x0 : Nat} {W : Nat} {s₀ s₁ : State} (h₀ : Fr W s₀ s₁) (hw : 131957212122430 &&& W = 131957212122430) :
    Fr W s₀ (State.pumpConn n x0 s₁) := by
  refine Fr.lift hw h₀ ?_
  clear h₀ hw
  suffices main : ∀ (x0 : Nat) (n : Nat) (z : State), Fr 131957212122430 s₁ z → Fr 131957212122430 s₁ (State.pumpConn n x0 z) from main x0 n s₁ Fr.refl
  intro x0
  induction x0 with
  | zero =>
    intro n z h
    first | rw [State.pumpConn] | unfold State.pumpConn
    repeat' first
      | with_reducible assumption
      | (with_reducible refine State.sendHead_frame ?_ rfl)
      | (with_reducible refine Fr2.out (State.sendHead_frame ?_ rfl))
      | (with_reducible refine Fr.ite ?_ ?_)
      | (with_reducible refine Fr.eq2 (by assumption) ?_)
      | (with_reducible refine Fr.eq22 (by assumption) ?_)
      | (with_reducible refine Fr.eq1 (by assumption) ?_)
      | (with_reducible refine Fr.eqo (by assumption) ?_)
      | (with_reducible refine Fr.eqo2 (by assumption) ?_)
      | (with_reducible refine Fr.eqo22 (by assumption) ?_)
      | dsimp only
      | split
  | succ n ih =>
    intro n z h
    first | rw [State.pumpConn] | unfold State.pumpConn
    repeat' first
      | with_reducible assumption
      | (with_reducible refine ih _ _ ?_)
      | (with_reducible refine State.sendHead_frame ?_ rfl)
      | (with_reducible refine Fr2.out (State.sendHead_frame ?_ rfl))
      | (with_reducible refine Fr.ite ?_ ?_)
      | (with_reducible refine Fr.eq2 (by assumption) ?_)
      | (with_reducible refine Fr.eq22 (by assumption) ?_)
      | (with_reducible refine Fr.eq1 (by assumption) ?_)
      | (with_reducible refine Fr.eqo (by assumption) ?_)
      | (with_reducible refine Fr.eqo2 (by assumption) ?_)
      | (with_reducible refine Fr.eqo22 (by assumption) ?_)
      | dsimp only
      | split

theorem State.pump_frame {n : Nat} {W : Nat} {s₀ s₁ : State} (h₀ : Fr W s₀ s₁) (hw : 131957212122430 &&& W = 131957212122430) :
    Fr W s₀ (State.pump s₁ n) := by
  refine Fr.lift hw h₀ ?_
  have h : Fr 131957212122430 s₁ s₁ := Fr.refl
  clear h₀ hw
  first | rw [State.pump] | unfold State.pump
  repeat' first
    | with_reducible assumption
    | (with_reducible refine State.pumpConn_frame ?_ rfl)
    | (with_reducible refine State.pumpData_frame ?_ rfl)
    | (with_reducible refine State.pumpCtl_frame ?_ rfl)

theorem State.serveAt_frame {p : Nat} {W : Nat} {s₀ s₁ : State} (h₀ : Fr W s₀ s₁) (hw : 448 &&& W = 448) :
    Fr2 W s₀ (State.serveAt s₁ p) := by
  refine Fr2.lift hw h₀ ?_
  have h : Fr 448 s₁ s₁ := Fr.refl
  clear h₀ hw
  first | rw [State.serveAt] | unfold State.serveAt
  repeat' first
    | with_reducible assumption
    | (with_reducible refine Fr2.pair ?_)
    | (with_reducible refine Fr2.ite ?_ ?_)
    | (intro x; refine_lift have hb : ∀ y, y = x → Fr 448 s₁ y := ?_; ?_; all_goals first | (have hx := hb x rfl; clear hb; clear_value x) | (intro y hy; unfold x at hy; rw [hy]; clear hy y))
    | (intro x; refine_lift have hb : ∀ y, y = x → Fr2 448 s₁ y := ?_; ?_; all_goals first | (have hx := hb x rfl; clear hb; clear_value x) | (intro y hy; unfold x at hy; rw [hy]; clear hy y))
    | (intro x; refine_lift have hb : ∀ y, y = x → Fr22 448 s₁ y := ?_; ?_; all_goals first | (have hx := hb x rfl; clear hb; clear_value x) | (intro y hy; unfold x at hy; rw [hy]; clear hy y))
    | (intro x; refine_lift have hb : ∀ y, y = x → Fr1 448 s₁ y := ?_; ?_; all_goals first | (have hx := hb x rfl; clear hb; clear_value x) | (intro y hy; unfold x at hy; rw [hy]; clear hy y))
    | (intro x; clear_value x)
    | (lift_lets; intro x; refine_lift have hb : ∀ y, y = x → Fr 448 s₁ y := ?_; ?_; all_goals first | (have hx := hb x rfl; clear hb; clear_value x) | (intro y hy; unfold x at hy; rw [hy]; clear hy y))
    | (lift_lets; intro x; refine_lift have hb : ∀ y, y = x → Fr2 448 s₁ y := ?_; ?_; all_goals first | (have hx := hb x rfl; clear hb; clear_value x) | (intro y hy; unfold x at hy; rw [hy]; clear hy y))
    | (lift_lets; intro x; refine_lift have hb : ∀ y, y = x → Fr22 448 s₁ y := ?_; ?_; all_goals first | (have hx := hb x rfl; clear hb; clear_value x) | (intro y hy; unfold x at hy; rw [hy]; clear hy y))
    | (lift_lets; intro x; refine_lift have hb : ∀ y, y = x → Fr1 448 s₁ y := ?_; ?_; all_goals first | (have hx := hb x rfl; clear hb; clear_value x) | (intro y hy; unfold x at hy; rw [hy]; clear hy y))
    | (lift_lets; intro x; clear_value x)
    | (with_reducible exact Fr2.out (by assumption))
    | (with_reducible exact Fr22.out (by assumption))
    | (with_reducible exact Fr1.out (by assumption))
    | (with_reducible refine State.drawNow_frame ?_ rfl)
    | (with_reducible refine Fr2.out (State.drawNow_frame ?_ rfl))
    | (with_reducible refine Fr.ite ?_ ?_)
    | (with_reducible refine Fr.eq2 (by assumption) ?_)
    | (with_reducible refine Fr.eq22 (by assumption) ?_)
    | (with_reducible refine Fr.eq1 (by assumption) ?_)
    | (with_reducible refine Fr.eqo (by assumption) ?_)
    | (with_reducible refine Fr.eqo2 (by assumption) ?_)
    | (with_reducible refine Fr.eqo22 (by assumption) ?_)
    | (with_reducible exact Fr2.out (by assumption))
    | dsimp only
    | split

theorem State.pumpPort_frame {p : Nat} {W : Nat} {s₀ s₁ : State} (h₀ : Fr W s₀ s₁) (hw : 131957212122622 &&& W = 131957212122622) :
    Fr W s₀ (State.pumpPort s₁ p) := by
  refine Fr.lift hw h₀ ?_
  have h : Fr 131957212122622 s₁ s₁ := Fr.refl
  clear h₀ hw
  first | rw [State.pumpPort] | unfold State.pumpPort
  repeat' first
    | with_reducible assumption
    | (intro x; refine_lift have hb : ∀ y, y = x → Fr 131957212122622 s₁ y := ?_; ?_; all_goals first | (have hx := hb x rfl; clear hb; clear_value x) | (intro y hy; unfold x at hy; rw [hy]; clear hy y))
    | (intro x; clear_value x)
    | (lift_lets; intro x; refine_lift have hb : ∀ y, y = x → Fr 131957212122622 s₁ y := ?_; ?_; all_goals first | (have hx := hb x rfl; clear hb; clear_value x) | (intro y hy; unfold x at hy; rw [hy]; clear hy y))
    | (lift_lets; intro x; clear_value x)
    | (with_reducible refine State.serveAt_frame ?_ rfl)
    | (with_reducible refine Fr2.out (State.serveAt_frame ?_ rfl))
    | (with_reducible refine State.sendHead_frame ?_ rfl)
    | (with_reducible refine Fr2.out (State.sendHead_frame ?_ rfl))
    | (with_reducible refine State.setFp_frame ?_ rfl)
    | (with_reducible refine Fr.ite ?_ ?_)
    | (with_reducible refine Fr.eq2 (by assumption) ?_)
    | (with_reducible refine Fr.eq22 (by assumption) ?_)
    | (with_reducible refine Fr.eq1 (by assumption) ?_)
    | (with_reducible refine Fr.eqo (by assumption) ?_)
    | (with_reducible refine Fr.eqo2 (by assumption) ?_)
    | (with_reducible refine Fr.eqo22 (by assumption) ?_)
    | (with_reducible exact Fr2.out (by assumption))
    | dsimp only
    | split

theorem State.pumpRounds_frame {x0 : Nat} {W : Nat} {s₀ s₁ : State} (h₀ : Fr W s₀ s₁) (hw : 131957212122622 &&& W = 131957212122622) :
    Fr W s₀ (State.pumpRounds x0 s₁) := by
  refine Fr.lift hw h₀ ?_
  clear h₀ hw
  suffices main : ∀ (x0 : Nat)  (z : State), Fr 131957212122622 s₁ z → Fr 131957212122622 s₁ (State.pumpRounds x0 z) from main x0  s₁ Fr.refl
  intro x0
  induction x0 with
  | zero =>
    intro  z h
    first | rw [State.pumpRounds] | unfold State.pumpRounds
    repeat' first
      | with_reducible assumption
      | (with_reducible refine State.pumpPort_frame ?_ rfl)
      | (with_reducible refine Fr.foldl (fun z a h => ?_) ?_)
      | (with_reducible refine Fr.ite ?_ ?_)
      | split
  | succ n ih =>
    intro  z h
    first | rw [State.pumpRounds] | unfold State.pumpRounds
    repeat' first
      | with_reducible assumption
      | (with_reducible refine ih _ ?_)
      | (with_reducible refine State.pumpPort_frame ?_ rfl)
      | (with_reducible refine Fr.foldl (fun z a h => ?_) ?_)
      | (with_reducible refine Fr.ite ?_ ?_)
      | split

theorem State.pumpAll_frame {W : Nat} {s₀ s₁ : State} (h₀ : Fr W s₀ s₁) (hw : 131957212122622 &&& W = 131957212122622) :
    Fr W s₀ (State.pumpAll s₁) := by
  refine Fr.lift hw h₀ ?_
  have h : Fr 131957212122622 s₁ s₁ := Fr.refl
  clear h₀ hw
  first | rw [State.pumpAll] | unfold State.pumpAll
  repeat' first
    | with_reducible assumption
    | (with_reducible refine State.pumpRounds_frame ?_ rfl)
    | (with_reducible refine State.pump_frame ?_ rfl)
    | (with_reducible refine Fr.foldl (fun z a h => ?_) ?_)

theorem State.sendAck_frame {n : Nat} {done : Option (Nat × Nat)} {W : Nat} {s₀ s₁ : State} (h₀ : Fr W s₀ s₁) (hw : 131957212122430 &&& W = 131957212122430) :
    Fr W s₀ (State.sendAck s₁ n done) := by
  refine Fr.lift hw h₀ ?_
  have h : Fr 131957212122430 s₁ s₁ := Fr.refl
  clear h₀ hw
  first | rw [State.sendAck] | unfold State.sendAck
  repeat' first
    | with_reducible assumption
    | (with_reducible refine State.pump_frame ?_ rfl)
    | (with_reducible refine State.reserve_frame ?_ rfl)
    | (with_reducible refine State.setCn_frame ?_ rfl)

theorem State.sendNak_frame {n : Nat} {code : Nat} {W : Nat} {s₀ s₁ : State} (h₀ : Fr W s₀ s₁) (hw : 131957212122430 &&& W = 131957212122430) :
    Fr W s₀ (State.sendNak s₁ n code) := by
  refine Fr.lift hw h₀ ?_
  have h : Fr 131957212122430 s₁ s₁ := Fr.refl
  clear h₀ hw
  first | rw [State.sendNak] | unfold State.sendNak
  repeat' first
    | with_reducible assumption
    | (with_reducible refine State.pump_frame ?_ rfl)
    | (with_reducible refine State.reserve_frame ?_ rfl)
    | (with_reducible refine State.setCn_frame ?_ rfl)

theorem State.showMiss_frame {W : Nat} {s₀ s₁ : State} (h₀ : Fr W s₀ s₁) (hw : 2 &&& W = 2) :
    Fr W s₀ (State.showMiss s₁) := by
  refine Fr.lift hw h₀ ?_
  have h : Fr 2 s₁ s₁ := Fr.refl
  clear h₀ hw
  first | rw [State.showMiss] | unfold State.showMiss
  repeat' first
    | with_reducible assumption
    | (with_reducible refine State.sf_frame ?_ rfl)

theorem State.acceptPsn_frame {n : Nat} {p : Nat} {W : Nat} {s₀ s₁ : State} (h₀ : Fr W s₀ s₁) (hw : 131957212122430 &&& W = 131957212122430) :
    Fr W s₀ (State.acceptPsn s₁ n p) := by
  refine Fr.lift hw h₀ ?_
  have h : Fr 131957212122430 s₁ s₁ := Fr.refl
  clear h₀ hw
  first | rw [State.acceptPsn] | unfold State.acceptPsn
  repeat' first
    | with_reducible assumption
    | (with_reducible refine State.setCn_frame ?_ rfl)
    | (with_reducible refine State.sendAck_frame ?_ rfl)
    | (with_reducible refine Fr.ite ?_ ?_)

theorem State.refusePkt_frame {n : Nat} {p : TrnPkt} {opc : Nat} {code : Nat} {W : Nat} {s₀ s₁ : State} (h₀ : Fr W s₀ s₁) (hw : 131957212122430 &&& W = 131957212122430) :
    Fr W s₀ (State.refusePkt s₁ n p opc code) := by
  refine Fr.lift hw h₀ ?_
  have h : Fr 131957212122430 s₁ s₁ := Fr.refl
  clear h₀ hw
  first | rw [State.refusePkt] | unfold State.refusePkt
  repeat' first
    | with_reducible assumption
    | (intro x; refine_lift have hb : ∀ y, y = x → Fr 131957212122430 s₁ y := ?_; ?_; all_goals first | (have hx := hb x rfl; clear hb; clear_value x) | (intro y hy; unfold x at hy; rw [hy]; clear hy y))
    | (intro x; clear_value x)
    | (lift_lets; intro x; refine_lift have hb : ∀ y, y = x → Fr 131957212122430 s₁ y := ?_; ?_; all_goals first | (have hx := hb x rfl; clear hb; clear_value x) | (intro y hy; unfold x at hy; rw [hy]; clear hy y))
    | (lift_lets; intro x; clear_value x)
    | (with_reducible refine State.setCn_frame ?_ rfl)
    | (with_reducible refine State.sendNak_frame ?_ rfl)
    | (with_reducible refine State.flush_frame ?_ rfl)
    | (with_reducible refine Fr.ite ?_ ?_)
    | (with_reducible exact Fr2.out (by assumption))
    | dsimp only
    | split

theorem State.keyEntry_frame {ix : Nat} {W : Nat} {s₀ s₁ : State} (h₀ : Fr W s₀ s₁) (hw : 96759208479802 &&& W = 96759208479802) :
    Fr2 W s₀ (State.keyEntry s₁ ix) := by
  refine Fr2.lift hw h₀ ?_
  have h : Fr 96759208479802 s₁ s₁ := Fr.refl
  clear h₀ hw
  first | rw [State.keyEntry] | unfold State.keyEntry
  repeat' first
    | with_reducible assumption
    | (lift_lets; intro x; clear_value x)
    | (with_reducible refine State.load_frame ?_ rfl)
    | (with_reducible refine Fr2.onLoad ?_ (fun bs z h => ?_) (fun e z h => ?_))
    | split
    | (with_reducible refine Fr2.pair ?_)
    | (with_reducible refine Fr.trn ?_ rfl)

theorem State.remoteTarget_frame {c : Conn} {key : Nat} {a : Nat} {len : Nat} {wr : Bool} {W : Nat} {s₀ s₁ : State} (h₀ : Fr W s₀ s₁) (hw : 96759208479802 &&& W = 96759208479802) :
    Fr2 W s₀ (State.remoteTarget s₁ c key a len wr) := by
  refine Fr2.lift hw h₀ ?_
  have h : Fr 96759208479802 s₁ s₁ := Fr.refl
  clear h₀ hw
  first | rw [State.remoteTarget] | unfold State.remoteTarget
  repeat' first
    | with_reducible assumption
    | (intro x; clear_value x)
    | (lift_lets; intro x; clear_value x)
    | (with_reducible refine State.keyEntry_frame ?_ rfl)
    | (with_reducible refine Fr2.ite ?_ ?_)
    | (with_reducible refine Fr.eq2 (by assumption) ?_)
    | split
    | (with_reducible refine Fr2.pair ?_)

theorem State.countRx_frame {n : Nat} {p : TrnPkt} {send : Bool} {W : Nat} {s₀ s₁ : State} (h₀ : Fr W s₀ s₁) (hw : 33554432 &&& W = 33554432) :
    Fr W s₀ (State.countRx s₁ n p send) := by
  refine Fr.lift hw h₀ ?_
  have h : Fr 33554432 s₁ s₁ := Fr.refl
  clear h₀ hw
  first | rw [State.countRx] | unfold State.countRx
  repeat' first
    | with_reducible assumption
    | (with_reducible refine State.setCn_frame ?_ rfl)

theorem State.writePkt_frame {n : Nat} {p : TrnPkt} {W : Nat} {s₀ s₁ : State} (h₀ : Fr W s₀ s₁) (hw : 131957212122430 &&& W = 131957212122430) :
    Fr W s₀ (State.writePkt s₁ n p) := by
  refine Fr.lift hw h₀ ?_
  have h : Fr 131957212122430 s₁ s₁ := Fr.refl
  clear h₀ hw
  first | rw [State.writePkt] | unfold State.writePkt
  repeat' first
    | with_reducible assumption
    | (with_reducible refine State.countRx_frame ?_ rfl)
    | (with_reducible refine State.sendNak_frame ?_ rfl)
    | (with_reducible refine State.remoteTarget_frame ?_ rfl)
    | (with_reducible refine State.store_frame ?_ rfl)
    | (with_reducible refine State.refusePkt_frame ?_ rfl)
    | (with_reducible refine State.sendAck_frame ?_ rfl)
    | (with_reducible refine State.acceptPsn_frame ?_ rfl)
    | (with_reducible refine Fr.ite ?_ ?_)
    | (with_reducible refine Fr.eq2 (by assumption) ?_)
    | split

theorem State.inboxAdd_frame {n : Nat} {consumer : Nat} {p : TrnPkt} {W : Nat} {s₀ s₁ : State} (h₀ : Fr W s₀ s₁) (hw : 33554432 &&& W = 33554432) :
    Fr W s₀ (State.inboxAdd s₁ n consumer p) := by
  refine Fr.lift hw h₀ ?_
  have h : Fr 33554432 s₁ s₁ := Fr.refl
  clear h₀ hw
  first | rw [State.inboxAdd] | unfold State.inboxAdd
  repeat' first
    | with_reducible assumption
    | (lift_lets; intro x; clear_value x)
    | dsimp only
    | (with_reducible refine Fr.trn ?_ rfl)

theorem State.sendPktIn_frame {n : Nat} {p : TrnPkt} {W : Nat} {s₀ s₁ : State} (h₀ : Fr W s₀ s₁) (hw : 131957212122430 &&& W = 131957212122430) :
    Fr W s₀ (State.sendPktIn s₁ n p) := by
  refine Fr.lift hw h₀ ?_
  have h : Fr 131957212122430 s₁ s₁ := Fr.refl
  clear h₀ hw
  first | rw [State.sendPktIn] | unfold State.sendPktIn
  repeat' first
    | with_reducible assumption
    | (with_reducible refine State.instStore_frame ?_ rfl)
    | (with_reducible refine Fr2.out (State.instStore_frame ?_ rfl))
    | (intro x; refine_lift have hb : ∀ y, y = x → Fr 131957212122430 s₁ y := ?_; ?_; all_goals first | (have hx := hb x rfl; clear hb; clear_value x) | (intro y hy; unfold x at hy; rw [hy]; clear hy y))
    | (lift_lets; intro x; refine_lift have hb : ∀ y, y = x → Fr 131957212122430 s₁ y := ?_; ?_; all_goals first | (have hx := hb x rfl; clear hb; clear_value x) | (intro y hy; unfold x at hy; rw [hy]; clear hy y))
    | (lift_lets; intro x; clear_value x)
    | (with_reducible refine State.countRx_frame ?_ rfl)
    | (with_reducible refine State.sendNak_frame ?_ rfl)
    | (with_reducible refine State.instWrite_frame ?_ rfl)
    | (with_reducible refine State.refusePkt_frame ?_ rfl)
    | (with_reducible refine State.sendAck_frame ?_ rfl)
    | (with_reducible refine State.acceptPsn_frame ?_ rfl)
    | (with_reducible refine State.inboxAdd_frame ?_ rfl)
    | (with_reducible refine Fr.ite ?_ ?_)
    | (with_reducible refine Fr2.out (State.store_frame ?_ rfl))
    | split

theorem State.endInbound_frame {n : Nat} {m : Nat} {used : Bool} {W : Nat} {s₀ s₁ : State} (h₀ : Fr W s₀ s₁) (hw : 33554432 &&& W = 33554432) :
    Fr W s₀ (State.endInbound s₁ n m used) := by
  refine Fr.lift hw h₀ ?_
  have h : Fr 33554432 s₁ s₁ := Fr.refl
  clear h₀ hw
  first | rw [State.endInbound] | unfold State.endInbound
  repeat' first
    | with_reducible assumption
    | (intro x; clear_value x)
    | (lift_lets; intro x; clear_value x)
    | (with_reducible refine State.setCn_frame ?_ rfl)

theorem State.addTx_frame {n : Nat} {i : TxItem} {W : Nat} {s₀ s₁ : State} (h₀ : Fr W s₀ s₁) (hw : 33554432 &&& W = 33554432) :
    Fr W s₀ (State.addTx s₁ n i) := by
  refine Fr.lift hw h₀ ?_
  have h : Fr 33554432 s₁ s₁ := Fr.refl
  clear h₀ hw
  first | rw [State.addTx] | unfold State.addTx
  repeat' first
    | with_reducible assumption
    | (intro x; refine_lift have hb : ∀ y, y = x → Fr 33554432 s₁ y := ?_; ?_; all_goals first | (have hx := hb x rfl; clear hb; clear_value x) | (intro y hy; unfold x at hy; rw [hy]; clear hy y))
    | (intro x; clear_value x)
    | (lift_lets; intro x; refine_lift have hb : ∀ y, y = x → Fr 33554432 s₁ y := ?_; ?_; all_goals first | (have hx := hb x rfl; clear hb; clear_value x) | (intro y hy; unfold x at hy; rw [hy]; clear hy y))
    | (lift_lets; intro x; clear_value x)
    | (with_reducible refine State.setCn_frame ?_ rfl)
    | (with_reducible refine Fr.ite ?_ ?_)
    | (with_reducible exact Fr2.out (by assumption))
    | dsimp only
    | split

theorem State.addFirst_frame {n : Nat} {i : TxItem} {W : Nat} {s₀ s₁ : State} (h₀ : Fr W s₀ s₁) (hw : 33554432 &&& W = 33554432) :
    Fr W s₀ (State.addFirst s₁ n i) := by
  refine Fr.lift hw h₀ ?_
  have h : Fr 33554432 s₁ s₁ := Fr.refl
  clear h₀ hw
  first | rw [State.addFirst] | unfold State.addFirst
  repeat' first
    | with_reducible assumption
    | (intro x; refine_lift have hb : ∀ y, y = x → Fr 33554432 s₁ y := ?_; ?_; all_goals first | (have hx := hb x rfl; clear hb; clear_value x) | (intro y hy; unfold x at hy; rw [hy]; clear hy y))
    | (intro x; clear_value x)
    | (lift_lets; intro x; refine_lift have hb : ∀ y, y = x → Fr 33554432 s₁ y := ?_; ?_; all_goals first | (have hx := hb x rfl; clear hb; clear_value x) | (intro y hy; unfold x at hy; rw [hy]; clear hy y))
    | (lift_lets; intro x; clear_value x)
    | (with_reducible refine State.setCn_frame ?_ rfl)
    | (with_reducible refine Fr.ite ?_ ?_)
    | (with_reducible exact Fr2.out (by assumption))
    | dsimp only
    | split

theorem State.readReqIn_frame {n : Nat} {p : TrnPkt} {W : Nat} {s₀ s₁ : State} (h₀ : Fr W s₀ s₁) (hw : 131957212122430 &&& W = 131957212122430) :
    Fr W s₀ (State.readReqIn s₁ n p) := by
  refine Fr.lift hw h₀ ?_
  have h : Fr 131957212122430 s₁ s₁ := Fr.refl
  clear h₀ hw
  first | rw [State.readReqIn] | unfold State.readReqIn
  repeat' first
    | with_reducible assumption
    | (intro x; refine_lift have hb : ∀ y, y = x → Fr 131957212122430 s₁ y := ?_; ?_; all_goals first | (have hx := hb x rfl; clear hb; clear_value x) | (intro y hy; unfold x at hy; rw [hy]; clear hy y))
    | (lift_lets; intro x; refine_lift have hb : ∀ y, y = x → Fr 131957212122430 s₁ y := ?_; ?_; all_goals first | (have hx := hb x rfl; clear hb; clear_value x) | (intro y hy; unfold x at hy; rw [hy]; clear hy y))
    | (with_reducible refine State.pump_frame ?_ rfl)
    | (with_reducible refine State.sendNak_frame ?_ rfl)
    | (with_reducible refine State.remoteTarget_frame ?_ rfl)
    | (with_reducible refine State.refusePkt_frame ?_ rfl)
    | (with_reducible refine State.addTx_frame ?_ rfl)
    | (with_reducible refine State.sendAck_frame ?_ rfl)
    | (with_reducible refine State.acceptPsn_frame ?_ rfl)
    | (with_reducible refine State.endInbound_frame ?_ rfl)
    | (with_reducible refine Fr.ite ?_ ?_)
    | (with_reducible refine Fr.eq2 (by assumption) ?_)
    | split

theorem State.msgDone_frame {n : Nat} {m : Nat} {status : Nat} {W : Nat} {s₀ s₁ : State} (h₀ : Fr W s₀ s₁) (hw : 131956465536062 &&& W = 131956465536062) :
    Fr W s₀ (State.msgDone s₁ n m status) := by
  refine Fr.lift hw h₀ ?_
  have h : Fr 131956465536062 s₁ s₁ := Fr.refl
  clear h₀ hw
  first | rw [State.msgDone] | unfold State.msgDone
  repeat' first
    | with_reducible assumption
    | (lift_lets; intro x; clear_value x)
    | (with_reducible refine State.complete_frame ?_ rfl)
    | (with_reducible refine State.setCn_frame ?_ rfl)
    | split

theorem State.readRespIn_frame {n : Nat} {p : TrnPkt} {W : Nat} {s₀ s₁ : State} (h₀ : Fr W s₀ s₁) (hw : 131957212122430 &&& W = 131957212122430) :
    Fr W s₀ (State.readRespIn s₁ n p) := by
  refine Fr.lift hw h₀ ?_
  have h : Fr 131957212122430 s₁ s₁ := Fr.refl
  clear h₀ hw
  first | rw [State.readRespIn] | unfold State.readRespIn
  repeat' first
    | with_reducible assumption
    | (with_reducible refine State.instStore_frame ?_ rfl)
    | (with_reducible refine Fr2.out (State.instStore_frame ?_ rfl))
    | (with_reducible refine State.engStore_frame ?_ rfl)
    | (with_reducible refine Fr2.out (State.engStore_frame ?_ rfl))
    | (intro x; refine_lift have hb : ∀ y, y = x → Fr 131957212122430 s₁ y := ?_; ?_; all_goals first | (have hx := hb x rfl; clear hb; clear_value x) | (intro y hy; unfold x at hy; rw [hy]; clear hy y))
    | (intro x; clear_value x)
    | (lift_lets; intro x; clear_value x)
    | (with_reducible refine State.sendNak_frame ?_ rfl)
    | (with_reducible refine State.instWrite_frame ?_ rfl)
    | (with_reducible refine State.msgDone_frame ?_ rfl)
    | (with_reducible refine State.store_frame ?_ rfl)
    | (with_reducible refine State.refusePkt_frame ?_ rfl)
    | (with_reducible refine State.setCn_frame ?_ rfl)
    | (with_reducible refine State.sendAck_frame ?_ rfl)
    | (with_reducible refine State.acceptPsn_frame ?_ rfl)
    | (with_reducible refine State.flush_frame ?_ rfl)
    | (with_reducible refine Fr.ite ?_ ?_)
    | (with_reducible refine Fr2.ite ?_ ?_)
    | (with_reducible refine Fr.eq2 (by assumption) ?_)
    | split
    | (with_reducible refine Fr2.pair ?_)

theorem State.ackIn_frame {n : Nat} {ack : Nat} {credit : Nat} {W : Nat} {s₀ s₁ : State} (h₀ : Fr W s₀ s₁) (hw : 33554432 &&& W = 33554432) :
    Fr W s₀ (State.ackIn s₁ n ack credit) := by
  refine Fr.lift hw h₀ ?_
  have h : Fr 33554432 s₁ s₁ := Fr.refl
  clear h₀ hw
  first | rw [State.ackIn] | unfold State.ackIn
  repeat' first
    | with_reducible assumption
    | (with_reducible refine State.setCn_frame ?_ rfl)
    | (with_reducible refine Fr.ite ?_ ?_)

theorem State.goBack_frame {n : Nat} {W : Nat} {s₀ s₁ : State} (h₀ : Fr W s₀ s₁) (hw : 131957212122430 &&& W = 131957212122430) :
    Fr W s₀ (State.goBack s₁ n) := by
  refine Fr.lift hw h₀ ?_
  have h : Fr 131957212122430 s₁ s₁ := Fr.refl
  clear h₀ hw
  first | rw [State.goBack] | unfold State.goBack
  repeat' first
    | with_reducible assumption
    | (with_reducible refine State.pump_frame ?_ rfl)
    | (with_reducible refine State.setCn_frame ?_ rfl)
    | (with_reducible refine State.flush_frame ?_ rfl)
    | (with_reducible refine State.cnt_frame ?_ rfl)
    | (with_reducible refine Fr.ite ?_ ?_)

theorem State.ackPkt_frame {n : Nat} {p : TrnPkt} {done : Bool} {W : Nat} {s₀ s₁ : State} (h₀ : Fr W s₀ s₁) (hw : 131957212122430 &&& W = 131957212122430) :
    Fr W s₀ (State.ackPkt s₁ n p done) := by
  refine Fr.lift hw h₀ ?_
  have h : Fr 131957212122430 s₁ s₁ := Fr.refl
  clear h₀ hw
  first | rw [State.ackPkt] | unfold State.ackPkt
  repeat' first
    | with_reducible assumption
    | (with_reducible refine State.pump_frame ?_ rfl)
    | (with_reducible refine State.msgDone_frame ?_ rfl)
    | (with_reducible refine State.ackIn_frame ?_ rfl)
    | (with_reducible refine Fr.ite ?_ ?_)

theorem State.nakPkt_frame {n : Nat} {p : TrnPkt} {W : Nat} {s₀ s₁ : State} (h₀ : Fr W s₀ s₁) (hw : 131957212122430 &&& W = 131957212122430) :
    Fr W s₀ (State.nakPkt s₁ n p) := by
  refine Fr.lift hw h₀ ?_
  have h : Fr 131957212122430 s₁ s₁ := Fr.refl
  clear h₀ hw
  first | rw [State.nakPkt] | unfold State.nakPkt
  repeat' first
    | with_reducible assumption
    | (lift_lets; intro x; clear_value x)
    | (with_reducible refine State.setCn_frame ?_ rfl)
    | (with_reducible refine State.goBack_frame ?_ rfl)
    | (with_reducible refine State.flush_frame ?_ rfl)
    | (with_reducible refine State.ackIn_frame ?_ rfl)
    | (with_reducible refine Fr.ite ?_ ?_)

theorem State.badOpcIn_frame {n : Nat} {opc : Nat} {p : TrnPkt} {W : Nat} {s₀ s₁ : State} (h₀ : Fr W s₀ s₁) (hw : 131957212122430 &&& W = 131957212122430) :
    Fr W s₀ (State.badOpcIn s₁ n opc p) := by
  refine Fr.lift hw h₀ ?_
  have h : Fr 131957212122430 s₁ s₁ := Fr.refl
  clear h₀ hw
  first | rw [State.badOpcIn] | unfold State.badOpcIn
  repeat' first
    | with_reducible assumption
    | (with_reducible refine State.sendAck_frame ?_ rfl)
    | (with_reducible refine State.sendNak_frame ?_ rfl)
    | (with_reducible refine State.refusePkt_frame ?_ rfl)
    | (with_reducible refine Fr.ite ?_ ?_)
    | (with_reducible refine Fr.eq2 (by assumption) ?_)
    | (with_reducible refine Fr.eq22 (by assumption) ?_)
    | (with_reducible refine Fr.eq1 (by assumption) ?_)
    | (with_reducible refine Fr.eqo (by assumption) ?_)
    | (with_reducible refine Fr.eqo2 (by assumption) ?_)
    | (with_reducible refine Fr.eqo22 (by assumption) ?_)
    | dsimp only
    | split

theorem State.pktByState_frame {opc : Nat} {done : Bool} {p : TrnPkt} {W : Nat} {s₀ s₁ : State} (h₀ : Fr W s₀ s₁) (hw : 131957212122430 &&& W = 131957212122430) :
    Fr W s₀ (State.pktByState s₁ opc done p) := by
  refine Fr.lift hw h₀ ?_
  have h : Fr 131957212122430 s₁ s₁ := Fr.refl
  clear h₀ hw
  first | rw [State.pktByState] | unfold State.pktByState
  repeat' first
    | with_reducible assumption
    | (with_reducible refine writePkt_frame ?_ rfl)
    | (with_reducible refine State.badOpcIn_frame ?_ rfl)
    | (lift_lets; intro x; refine_lift have hb : ∀ y, y = x → Fr 131957212122430 s₁ y := ?_; ?_; all_goals first | (have hx := hb x rfl; clear hb; clear_value x) | (intro y hy; unfold x at hy; rw [hy]; clear hy y))
    | (with_reducible refine State.sendNak_frame ?_ rfl)
    | (with_reducible refine State.ackPkt_frame ?_ rfl)
    | (with_reducible refine State.trnDiscard_frame ?_ rfl)
    | (with_reducible refine State.readRespIn_frame ?_ rfl)
    | (with_reducible refine State.setCn_frame ?_ rfl)
    | (with_reducible refine State.writePkt_frame ?_ rfl)
    | (with_reducible refine State.readReqIn_frame ?_ rfl)
    | (with_reducible refine State.sendPktIn_frame ?_ rfl)
    | (with_reducible refine State.nakPkt_frame ?_ rfl)
    | (with_reducible refine Fr.ite ?_ ?_)

theorem State.pktOut_frame {opc : Nat} {done : Bool} {p : TrnPkt} {W : Nat} {s₀ s₁ : State} (h₀ : Fr W s₀ s₁) (hw : 131957212122430 &&& W = 131957212122430) :
    Fr W s₀ (State.pktOut s₁ opc done p) := by
  refine Fr.lift hw h₀ ?_
  have h : Fr 131957212122430 s₁ s₁ := Fr.refl
  clear h₀ hw
  first | rw [State.pktOut] | unfold State.pktOut
  repeat' first
    | with_reducible assumption
    | (intro x; refine_lift have hb : ∀ y, y = x → Fr 131957212122430 s₁ y := ?_; ?_; all_goals first | (have hx := hb x rfl; clear hb; clear_value x) | (intro y hy; unfold x at hy; rw [hy]; clear hy y))
    | (intro x; clear_value x)
    | (lift_lets; intro x; refine_lift have hb : ∀ y, y = x → Fr 131957212122430 s₁ y := ?_; ?_; all_goals first | (have hx := hb x rfl; clear hb; clear_value x) | (intro y hy; unfold x at hy; rw [hy]; clear hy y))
    | (lift_lets; intro x; clear_value x)
    | (with_reducible refine State.cnt_frame ?_ rfl)
    | (with_reducible refine State.trnDiscard_frame ?_ rfl)
    | (with_reducible refine State.showMiss_frame ?_ rfl)
    | (with_reducible refine State.hold_frame ?_ rfl)
    | (with_reducible refine State.pktByState_frame ?_ rfl)
    | (with_reducible refine Fr.ite ?_ ?_)
    | (with_reducible exact Fr2.out (by assumption))
    | dsimp only
    | split
    | (with_reducible refine Fr.trn ?_ rfl)

theorem State.stopClass_frame {p : TrnPkt} {W : Nat} {s₀ s₁ : State} (h₀ : Fr W s₀ s₁) (hw : 33554434 &&& W = 33554434) :
    Fr W s₀ (State.stopClass s₁ p) := by
  refine Fr.lift hw h₀ ?_
  have h : Fr 33554434 s₁ s₁ := Fr.refl
  clear h₀ hw
  first | rw [State.stopClass] | unfold State.stopClass
  repeat' first
    | with_reducible assumption
    | (with_reducible refine State.showMiss_frame ?_ rfl)
    | (with_reducible refine Fr.ite ?_ ?_)
    | split
    | (with_reducible refine Fr.trn ?_ rfl)

theorem State.pktIn_frame {opc : Nat} {done : Bool} {p : TrnPkt} {W : Nat} {s₀ s₁ : State} (h₀ : Fr W s₀ s₁) (hw : 131957212122430 &&& W = 131957212122430) :
    Fr W s₀ (State.pktIn s₁ opc done p) := by
  refine Fr.lift hw h₀ ?_
  have h : Fr 131957212122430 s₁ s₁ := Fr.refl
  clear h₀ hw
  first | rw [State.pktIn] | unfold State.pktIn
  repeat' first
    | with_reducible assumption
    | (with_reducible refine State.stopClass_frame ?_ rfl)
    | (with_reducible refine State.takeWhere_frame ?_ rfl)
    | (with_reducible refine State.pktOut_frame ?_ rfl)
    | (lift_lets; intro x; clear_value x)
    | (with_reducible refine State.trnDiscard_frame ?_ rfl)
    | (with_reducible refine State.pktByState_frame ?_ rfl)
    | (with_reducible refine State.showMiss_frame ?_ rfl)
    | (with_reducible refine State.takeFrame_frame ?_ rfl)
    | (with_reducible refine State.takeOldest_frame ?_ rfl)
    | (with_reducible refine Fr.ite ?_ ?_)
    | (with_reducible refine Fr.getD ?_ ?_)
    | (with_reducible refine Fr2.out (State.touch_frame ?_ rfl))
    | split
    | (with_reducible refine Fr.trn ?_ rfl)

theorem State.oddFrame_frame {port : Fin 32} {tc : Fin 8} {f : List Byte} {W : Nat} {s₀ s₁ : State} (h₀ : Fr W s₀ s₁) (hw : 131957212122430 &&& W = 131957212122430) :
    Fr W s₀ (State.oddFrame s₁ port tc f) := by
  refine Fr.lift hw h₀ ?_
  have h : Fr 131957212122430 s₁ s₁ := Fr.refl
  clear h₀ hw
  first | rw [State.oddFrame] | unfold State.oddFrame
  repeat' first
    | with_reducible assumption
    | (intro x; refine_lift have hb : ∀ y, y = x → Fr 131957212122430 s₁ y := ?_; ?_; all_goals first | (have hx := hb x rfl; clear hb; clear_value x) | (intro y hy; unfold x at hy; rw [hy]; clear hy y))
    | (intro x; clear_value x)
    | (lift_lets; intro x; refine_lift have hb : ∀ y, y = x → Fr 131957212122430 s₁ y := ?_; ?_; all_goals first | (have hx := hb x rfl; clear hb; clear_value x) | (intro y hy; unfold x at hy; rw [hy]; clear hy y))
    | (lift_lets; intro x; clear_value x)
    | (with_reducible refine State.takeFrame_frame ?_ rfl)
    | (with_reducible refine State.trnDiscard_frame ?_ rfl)
    | (with_reducible refine State.stopClass_frame ?_ rfl)
    | (with_reducible refine State.pktOut_frame ?_ rfl)
    | (with_reducible refine Fr.ite ?_ ?_)
    | (with_reducible exact Fr2.out (by assumption))
    | dsimp only
    | split

theorem State.oddFrames_frame {port : Fin 32} {W : Nat} {s₀ s₁ : State} (h₀ : Fr W s₀ s₁) (hw : 131957212122430 &&& W = 131957212122430) :
    Fr W s₀ (State.oddFrames s₁ port) := by
  refine Fr.lift hw h₀ ?_
  have h : Fr 131957212122430 s₁ s₁ := Fr.refl
  clear h₀ hw
  first | rw [State.oddFrames] | unfold State.oddFrames
  repeat' first
    | with_reducible assumption
    | (with_reducible refine State.oddFrame_frame ?_ rfl)
    | (with_reducible refine Fr.foldl (fun z a h => ?_) ?_)
    | (with_reducible refine Fr.ite ?_ ?_)
    | split

theorem State.drainAgain_frame {port : Nat} {W : Nat} {s₀ s₁ : State} (h₀ : Fr W s₀ s₁) (hw : 33554432 &&& W = 33554432) :
    Fr W s₀ (State.drainAgain s₁ port) := by
  refine Fr.lift hw h₀ ?_
  have h : Fr 33554432 s₁ s₁ := Fr.refl
  clear h₀ hw
  first | rw [State.drainAgain] | unfold State.drainAgain
  repeat' first
    | with_reducible assumption
    | (with_reducible refine Fr.ite ?_ ?_)
    | split
    | (with_reducible refine Fr.trn ?_ rfl)

theorem State.readCtx_frame {n : Nat} {W : Nat} {s₀ s₁ : State} (h₀ : Fr W s₀ s₁) (hw : 96759174925370 &&& W = 96759174925370) :
    Fr2 W s₀ (State.readCtx s₁ n) := by
  refine Fr2.lift hw h₀ ?_
  have h : Fr 96759174925370 s₁ s₁ := Fr.refl
  clear h₀ hw
  first | rw [State.readCtx] | unfold State.readCtx
  repeat' first
    | with_reducible assumption
    | (with_reducible refine Fr2.pair ?_)
    | (with_reducible refine Fr2.ite ?_ ?_)
    | (intro x; refine_lift have hb : ∀ y, y = x → Fr 96759174925370 s₁ y := ?_; ?_; all_goals first | (have hx := hb x rfl; clear hb; clear_value x) | (intro y hy; unfold x at hy; rw [hy]; clear hy y))
    | (intro x; clear_value x)
    | (lift_lets; intro x; refine_lift have hb : ∀ y, y = x → Fr 96759174925370 s₁ y := ?_; ?_; all_goals first | (have hx := hb x rfl; clear hb; clear_value x) | (intro y hy; unfold x at hy; rw [hy]; clear hy y))
    | (lift_lets; intro x; clear_value x)
    | (with_reducible refine State.load_frame ?_ rfl)
    | (with_reducible refine Fr22.out (State.load_frame ?_ rfl))
    | (with_reducible refine Fr.ite ?_ ?_)
    | (with_reducible exact Fr2.out (by assumption))
    | dsimp only
    | split

theorem State.notifyFirmware_frame {n : Nat} {e : RxMsg} {slot : Nat} {addr : Nat} {W : Nat} {s₀ s₁ : State} (h₀ : Fr W s₀ s₁) (hw : 132493336382526 &&& W = 132493336382526) :
    Fr W s₀ (State.notifyFirmware s₁ n e slot addr) := by
  refine Fr.lift hw h₀ ?_
  have h : Fr 132493336382526 s₁ s₁ := Fr.refl
  clear h₀ hw
  first | rw [State.notifyFirmware] | unfold State.notifyFirmware
  repeat' first
    | with_reducible assumption
    | (lift_lets; intro x; clear_value x)
    | (with_reducible refine State.setEvents_frame ?_ rfl)
    | (with_reducible refine State.poke_frame ?_ rfl)
    | split
    | (with_reducible refine Fr.trn ?_ rfl)

theorem State.notify_frame {n : Nat} {e : RxMsg} {W : Nat} {s₀ s₁ : State} (h₀ : Fr W s₀ s₁) (hw : 132506221284414 &&& W = 132506221284414) :
    Fr W s₀ (State.notify s₁ n e) := by
  refine Fr.lift hw h₀ ?_
  have h : Fr 132506221284414 s₁ s₁ := Fr.refl
  clear h₀ hw
  first | rw [State.notify] | unfold State.notify
  repeat' first
    | with_reducible assumption
    | (intro x; clear_value x)
    | (lift_lets; intro x; clear_value x)
    | (with_reducible refine State.iqDone_frame ?_ rfl)
    | (with_reducible refine State.iqComplete_frame ?_ rfl)
    | (with_reducible refine State.notifyFirmware_frame ?_ rfl)
    | (with_reducible refine Fr.ite ?_ ?_)
    | split
    | (with_reducible refine Fr.trn ?_ rfl)

theorem State.takeReq_frame {owner : MsgOwner} {r : List Byte} {inst : Option Nat} {inl : List Byte} {bad : Bool} {W : Nat} {s₀ s₁ : State} (h₀ : Fr W s₀ s₁) (hw : 131956465536062 &&& W = 131956465536062) :
    Fr W s₀ (State.takeReq s₁ owner r inst inl bad) := by
  refine Fr.lift hw h₀ ?_
  have h : Fr 131956465536062 s₁ s₁ := Fr.refl
  clear h₀ hw
  first | rw [State.takeReq] | unfold State.takeReq
  repeat' first
    | with_reducible assumption
    | (lift_lets; intro x; clear_value x)
    | (with_reducible refine State.complete_frame ?_ rfl)
    | (with_reducible refine State.setCn_frame ?_ rfl)
    | split

theorem State.nextRing_frame {W : Nat} {s₀ s₁ : State} (h₀ : Fr W s₀ s₁) (hw : 96759174925370 &&& W = 96759174925370) :
    Fr2 W s₀ (State.nextRing s₁) := by
  refine Fr2.lift hw h₀ ?_
  have h : Fr 96759174925370 s₁ s₁ := Fr.refl
  clear h₀ hw
  first | rw [State.nextRing] | unfold State.nextRing
  repeat' first
    | with_reducible assumption
    | (with_reducible refine State.fetchEntry_frame ?_ rfl)
    | (with_reducible refine State.sf_frame ?_ rfl)
    | (with_reducible refine Fr2.ite ?_ ?_)
    | (with_reducible refine Fr.eq2 (by assumption) ?_)
    | split
    | (with_reducible refine Fr2.pair ?_)

theorem State.request1_frame {op : Nat} {src : MsgSource} {W : Nat} {s₀ s₁ : State} (h₀ : Fr W s₀ s₁) (hw : 131956465536062 &&& W = 131956465536062) :
    Fr W s₀ (State.request1 s₁ op src) := by
  refine Fr.lift hw h₀ ?_
  have h : Fr 131956465536062 s₁ s₁ := Fr.refl
  clear h₀ hw
  first | rw [State.request1] | unfold State.request1
  repeat' first
    | with_reducible assumption
    | (intro x; refine_lift have hb : ∀ y, y = x → Fr 131956465536062 s₁ y := ?_; ?_; all_goals first | (have hx := hb x rfl; clear hb; clear_value x) | (intro y hy; unfold x at hy; rw [hy]; clear hy y))
    | (lift_lets; intro x; clear_value x)
    | (with_reducible refine State.nextRing_frame ?_ rfl)
    | (with_reducible refine State.setRing_frame ?_ rfl)
    | (with_reducible refine State.setIq_frame ?_ rfl)
    | (with_reducible refine State.takeReq_frame ?_ rfl)
    | (with_reducible refine Fr.ite ?_ ?_)
    | (with_reducible refine Fr.eq2 (by assumption) ?_)
    | split

theorem State.startMsg_frame {n : Nat} {W : Nat} {s₀ s₁ : State} (h₀ : Fr W s₀ s₁) (hw : 131957212122430 &&& W = 131957212122430) :
    Fr W s₀ (State.startMsg s₁ n) := by
  refine Fr.lift hw h₀ ?_
  have h : Fr 131957212122430 s₁ s₁ := Fr.refl
  clear h₀ hw
  first | rw [State.startMsg] | unfold State.startMsg
  repeat' first
    | with_reducible assumption
    | (with_reducible refine State.addFirst_frame ?_ rfl)
    | (lift_lets; intro x; clear_value x)
    | (with_reducible refine State.touch_frame ?_ rfl)
    | (with_reducible refine State.pump_frame ?_ rfl)
    | (with_reducible refine State.addTx_frame ?_ rfl)
    | (with_reducible refine State.setCn_frame ?_ rfl)
    | (with_reducible refine Fr.ite ?_ ?_)
    | (with_reducible refine Fr.eq2 (by assumption) ?_)
    | split
    | dsimp only

theorem State.withdraw_frame {n : Nat} {mine : Msg → Bool} {W : Nat} {s₀ s₁ : State} (h₀ : Fr W s₀ s₁) (hw : 96759208741946 &&& W = 96759208741946) :
    Fr W s₀ (State.withdraw s₁ n mine) := by
  refine Fr.lift hw h₀ ?_
  have h : Fr 96759208741946 s₁ s₁ := Fr.refl
  clear h₀ hw
  first | rw [State.withdraw] | unfold State.withdraw
  repeat' first
    | with_reducible assumption
    | (intro x; refine_lift have hb : ∀ y, y = x → Fr 96759208741946 s₁ y := ?_; ?_; all_goals first | (have hx := hb x rfl; clear hb; clear_value x) | (intro y hy; unfold x at hy; rw [hy]; clear hy y))
    | (intro x; clear_value x)
    | (lift_lets; intro x; refine_lift have hb : ∀ y, y = x → Fr 96759208741946 s₁ y := ?_; ?_; all_goals first | (have hx := hb x rfl; clear hb; clear_value x) | (intro y hy; unfold x at hy; rw [hy]; clear hy y))
    | (lift_lets; intro x; clear_value x)
    | (with_reducible refine State.named_frame ?_ rfl)
    | (with_reducible refine Fr2.out (State.named_frame ?_ rfl))
    | (with_reducible refine State.setCn_frame ?_ rfl)
    | (with_reducible refine Fr.ite ?_ ?_)
    | (with_reducible exact Fr2.out (by assumption))
    | dsimp only
    | split

theorem State.internalMsg_frame {who : Nat} {req : List Byte} {inl : List Byte} {bad : Bool} {W : Nat} {s₀ s₁ : State} (h₀ : Fr W s₀ s₁) (hw : 131957212122430 &&& W = 131957212122430) :
    Fr W s₀ (State.internalMsg s₁ who req inl bad) := by
  refine Fr.lift hw h₀ ?_
  have h : Fr 131957212122430 s₁ s₁ := Fr.refl
  clear h₀ hw
  first | rw [State.internalMsg] | unfold State.internalMsg
  repeat' first
    | with_reducible assumption
    | (with_reducible refine State.startMsg_frame ?_ rfl)
    | (with_reducible refine State.takeReq_frame ?_ rfl)

theorem State.resultOf_frame {who : Nat} {tag : Nat} {W : Nat} {s₀ s₁ : State} (h₀ : Fr W s₀ s₁) (hw : 33554432 &&& W = 33554432) :
    Fr2 W s₀ (State.resultOf s₁ who tag) := by
  refine Fr2.lift hw h₀ ?_
  have h : Fr 33554432 s₁ s₁ := Fr.refl
  clear h₀ hw
  first | rw [State.resultOf] | unfold State.resultOf
  repeat' first
    | with_reducible assumption
    | (lift_lets; intro x; clear_value x)
    | split
    | (with_reducible refine Fr2.pair ?_)
    | (with_reducible refine Fr.trn ?_ rfl)

theorem State.trnHostDown_frame {W : Nat} {s₀ s₁ : State} (h₀ : Fr W s₀ s₁) (hw : 131957002407230 &&& W = 131957002407230) :
    Fr W s₀ (State.trnHostDown s₁) := by
  refine Fr.lift hw h₀ ?_
  have h : Fr 131957002407230 s₁ s₁ := Fr.refl
  clear h₀ hw
  first | rw [State.trnHostDown] | unfold State.trnHostDown
  repeat' first
    | with_reducible assumption
    | (intro x; refine_lift have hb : ∀ y, y = x → Fr 131957002407230 s₁ y := ?_; ?_; all_goals first | (have hx := hb x rfl; clear hb; clear_value x) | (intro y hy; unfold x at hy; rw [hy]; clear hy y))
    | (intro x; clear_value x)
    | (lift_lets; intro x; clear_value x)
    | (with_reducible refine State.completeFailed_frame ?_ rfl)
    | (with_reducible refine State.complete_frame ?_ rfl)
    | (with_reducible refine State.setCn_frame ?_ rfl)
    | (with_reducible refine State.flush_frame ?_ rfl)
    | (with_reducible refine Fr.foldl (fun z a h => ?_) ?_)
    | split

theorem writeTrnCtl_frame {q : Requester} {v : W32} {W : Nat} {s₀ s₁ : State} (h₀ : Fr W s₀ s₁) (hw : 2 &&& W = 2) :
    Fr W s₀ (writeTrnCtl q v s₁) := by
  refine Fr.lift hw h₀ ?_
  have h : Fr 2 s₁ s₁ := Fr.refl
  clear h₀ hw
  first | rw [writeTrnCtl] | unfold writeTrnCtl
  repeat' first
    | with_reducible assumption
    | (lift_lets; intro x; clear_value x)
    | (with_reducible refine State.sf_frame ?_ rfl)
    | (with_reducible refine Fr.ite ?_ ?_)
    | split

theorem writeTrnBase_frame {q : Requester} {off : Nat} {mask : W32} {v : W32} {W : Nat} {s₀ s₁ : State} (h₀ : Fr W s₀ s₁) (hw : 2 &&& W = 2) :
    Fr W s₀ (writeTrnBase q off mask v s₁) := by
  refine Fr.lift hw h₀ ?_
  have h : Fr 2 s₁ s₁ := Fr.refl
  clear h₀ hw
  first | rw [writeTrnBase] | unfold writeTrnBase
  repeat' first
    | with_reducible assumption
    | (with_reducible refine State.wr_frame ?_ rfl)
    | (with_reducible refine Fr.ite ?_ ?_)

theorem State.keyInval_frame {all : Bool} {ix : Nat} {W : Nat} {s₀ s₁ : State} (h₀ : Fr W s₀ s₁) (hw : 33554434 &&& W = 33554434) :
    Fr W s₀ (State.keyInval s₁ all ix) := by
  refine Fr.lift hw h₀ ?_
  have h : Fr 33554434 s₁ s₁ := Fr.refl
  clear h₀ hw
  first | rw [State.keyInval] | unfold State.keyInval
  repeat' first
    | with_reducible assumption
    | (lift_lets; intro x; clear_value x)
    | (with_reducible refine State.sf_frame ?_ rfl)
    | split
    | (with_reducible refine Fr.trn ?_ rfl)

theorem writeTrnKeyInval_frame {q : Requester} {v : W32} {W : Nat} {s₀ s₁ : State} (h₀ : Fr W s₀ s₁) (hw : 33554434 &&& W = 33554434) :
    Fr W s₀ (writeTrnKeyInval q v s₁) := by
  refine Fr.lift hw h₀ ?_
  have h : Fr 33554434 s₁ s₁ := Fr.refl
  clear h₀ hw
  first | rw [writeTrnKeyInval] | unfold writeTrnKeyInval
  repeat' first
    | with_reducible assumption
    | (with_reducible refine State.keyInval_frame ?_ rfl)
    | (with_reducible refine State.sf_frame ?_ rfl)
    | (with_reducible refine Fr.ite ?_ ?_)

theorem State.peerCommit_frame {W : Nat} {s₀ s₁ : State} (h₀ : Fr W s₀ s₁) (hw : 2 &&& W = 2) :
    Fr2 W s₀ (State.peerCommit s₁) := by
  refine Fr2.lift hw h₀ ?_
  have h : Fr 2 s₁ s₁ := Fr.refl
  clear h₀ hw
  first | rw [State.peerCommit] | unfold State.peerCommit
  repeat' first
    | with_reducible assumption
    | (with_reducible refine State.sf_frame ?_ rfl)
    | split
    | (with_reducible refine Fr2.pair ?_)

theorem writePeerCommit_frame {q : Requester} {v : W32} {W : Nat} {s₀ s₁ : State} (h₀ : Fr W s₀ s₁) (hw : 2 &&& W = 2) :
    Fr W s₀ (writePeerCommit q v s₁) := by
  refine Fr.lift hw h₀ ?_
  have h : Fr 2 s₁ s₁ := Fr.refl
  clear h₀ hw
  first | rw [writePeerCommit] | unfold writePeerCommit
  repeat' first
    | with_reducible assumption
    | (with_reducible refine Fr.ite ?_ ?_)
    | (with_reducible refine Fr2.out (State.peerCommit_frame ?_ rfl))

theorem writePeerWin_frame {q : Requester} {off : Nat} {mask : W32} {v : W32} {W : Nat} {s₀ s₁ : State} (h₀ : Fr W s₀ s₁) (hw : 2 &&& W = 2) :
    Fr W s₀ (writePeerWin q off mask v s₁) := by
  refine Fr.lift hw h₀ ?_
  have h : Fr 2 s₁ s₁ := Fr.refl
  clear h₀ hw
  first | rw [writePeerWin] | unfold writePeerWin
  repeat' first
    | with_reducible assumption
    | (with_reducible refine State.wr_frame ?_ rfl)
    | (with_reducible refine Fr.ite ?_ ?_)

theorem writeTrnRingBase_frame {q : Requester} {cmpl : Bool} {hi : Bool} {v : W32} {W : Nat} {s₀ s₁ : State} (h₀ : Fr W s₀ s₁) (hw : 65538 &&& W = 65538) :
    Fr W s₀ (writeTrnRingBase q cmpl hi v s₁) := by
  refine Fr.lift hw h₀ ?_
  have h : Fr 65538 s₁ s₁ := Fr.refl
  clear h₀ hw
  first | rw [writeTrnRingBase] | unfold writeTrnRingBase
  repeat' first
    | with_reducible assumption
    | (with_reducible refine State.writeCmplBase_frame ?_ rfl)
    | (with_reducible refine State.writeCmdBase_frame ?_ rfl)
    | (with_reducible refine Fr.ite ?_ ?_)

theorem writeTrnRctl_frame {q : Requester} {v : W32} {W : Nat} {s₀ s₁ : State} (h₀ : Fr W s₀ s₁) (hw : 2 &&& W = 2) :
    Fr W s₀ (writeTrnRctl q v s₁) := by
  refine Fr.lift hw h₀ ?_
  have h : Fr 2 s₁ s₁ := Fr.refl
  clear h₀ hw
  first | rw [writeTrnRctl] | unfold writeTrnRctl
  repeat' first
    | with_reducible assumption
    | (lift_lets; intro x; refine_lift have hb : ∀ y, y = x → Fr 2 s₁ y := ?_; ?_; all_goals first | (have hx := hb x rfl; clear hb; clear_value x) | (intro y hy; unfold x at hy; rw [hy]; clear hy y))
    | (with_reducible refine State.sf_frame ?_ rfl)
    | (with_reducible refine State.writeRingCtl_frame ?_ rfl)
    | (with_reducible refine Fr.ite ?_ ?_)

theorem writeTrnReqDb_frame {q : Requester} {v : W32} {W : Nat} {s₀ s₁ : State} (h₀ : Fr W s₀ s₁) (hw : 65538 &&& W = 65538) :
    Fr W s₀ (writeTrnReqDb q v s₁) := by
  refine Fr.lift hw h₀ ?_
  have h : Fr 65538 s₁ s₁ := Fr.refl
  clear h₀ hw
  first | rw [writeTrnReqDb] | unfold writeTrnReqDb
  repeat' first
    | with_reducible assumption
    | (with_reducible refine State.writeDoorbell_frame ?_ rfl)
    | (with_reducible refine Fr.ite ?_ ?_)

theorem writeTrnCmplHead_frame {q : Requester} {v : W32} {W : Nat} {s₀ s₁ : State} (h₀ : Fr W s₀ s₁) (hw : 131948412472638 &&& W = 131948412472638) :
    Fr W s₀ (writeTrnCmplHead q v s₁) := by
  refine Fr.lift hw h₀ ?_
  have h : Fr 131948412472638 s₁ s₁ := Fr.refl
  clear h₀ hw
  first | rw [writeTrnCmplHead] | unfold writeTrnCmplHead
  repeat' first
    | with_reducible assumption
    | (lift_lets; intro x; refine_lift have hb : ∀ y, y = x → Fr 131948412472638 s₁ y := ?_; ?_; all_goals first | (have hx := hb x rfl; clear hb; clear_value x) | (intro y hy; unfold x at hy; rw [hy]; clear hy y))
    | (with_reducible refine State.settle_frame ?_ rfl)
    | (with_reducible refine State.writeCmplHead_frame ?_ rfl)
    | (with_reducible refine State.drainTrn_frame ?_ rfl)
    | (with_reducible refine Fr.ite ?_ ?_)
    | (with_reducible refine Fr.foldl (fun z a h => ?_) ?_)

theorem writeTrnRerr_frame {q : Requester} {v : W32} {W : Nat} {s₀ s₁ : State} (h₀ : Fr W s₀ s₁) (hw : 2 &&& W = 2) :
    Fr W s₀ (writeTrnRerr q v s₁) := by
  refine Fr.lift hw h₀ ?_
  have h : Fr 2 s₁ s₁ := Fr.refl
  clear h₀ hw
  first | rw [writeTrnRerr] | unfold writeTrnRerr
  repeat' first
    | with_reducible assumption
    | (with_reducible refine State.wr_frame ?_ rfl)
    | (with_reducible refine Fr.ite ?_ ?_)

theorem writeTrnFwrxBase_frame {q : Requester} {hi : Bool} {v : W32} {W : Nat} {s₀ s₁ : State} (h₀ : Fr W s₀ s₁) (hw : 33554434 &&& W = 33554434) :
    Fr W s₀ (writeTrnFwrxBase q hi v s₁) := by
  refine Fr.lift hw h₀ ?_
  have h : Fr 33554434 s₁ s₁ := Fr.refl
  clear h₀ hw
  first | rw [writeTrnFwrxBase] | unfold writeTrnFwrxBase
  repeat' first
    | with_reducible assumption
    | (intro x; refine_lift have hb : ∀ y, y = x → Fr 33554434 s₁ y := ?_; ?_; all_goals first | (have hx := hb x rfl; clear hb; clear_value x) | (intro y hy; unfold x at hy; rw [hy]; clear hy y))
    | (intro x; clear_value x)
    | (lift_lets; intro x; clear_value x)
    | (with_reducible refine State.wr_frame ?_ rfl)
    | (with_reducible refine State.sf_frame ?_ rfl)
    | (with_reducible refine Fr.ite ?_ ?_)
    | (with_reducible refine Fr.trn ?_ rfl)

theorem writeTrnFwrxCtl_frame {q : Requester} {v : W32} {W : Nat} {s₀ s₁ : State} (h₀ : Fr W s₀ s₁) (hw : 2 &&& W = 2) :
    Fr W s₀ (writeTrnFwrxCtl q v s₁) := by
  refine Fr.lift hw h₀ ?_
  have h : Fr 2 s₁ s₁ := Fr.refl
  clear h₀ hw
  first | rw [writeTrnFwrxCtl] | unfold writeTrnFwrxCtl
  repeat' first
    | with_reducible assumption
    | (intro x; refine_lift have hb : ∀ y, y = x → Fr 2 s₁ y := ?_; ?_; all_goals first | (have hx := hb x rfl; clear hb; clear_value x) | (intro y hy; unfold x at hy; rw [hy]; clear hy y))
    | (lift_lets; intro x; clear_value x)
    | (with_reducible refine State.sf_frame ?_ rfl)
    | (with_reducible refine Fr.ite ?_ ?_)

theorem writeTrnFwrxHead_frame {q : Requester} {v : W32} {W : Nat} {s₀ s₁ : State} (h₀ : Fr W s₀ s₁) (hw : 8623489026 &&& W = 8623489026) :
    Fr W s₀ (writeTrnFwrxHead q v s₁) := by
  refine Fr.lift hw h₀ ?_
  have h : Fr 8623489026 s₁ s₁ := Fr.refl
  clear h₀ hw
  first | rw [writeTrnFwrxHead] | unfold writeTrnFwrxHead
  repeat' first
    | with_reducible assumption
    | (lift_lets; intro x; refine_lift have hb : ∀ y, y = x → Fr 8623489026 s₁ y := ?_; ?_; all_goals first | (have hx := hb x rfl; clear hb; clear_value x) | (intro y hy; unfold x at hy; rw [hy]; clear hy y))
    | (with_reducible refine State.reserve_frame ?_ rfl)
    | (with_reducible refine State.sf_frame ?_ rfl)
    | (with_reducible refine Fr.ite ?_ ?_)
    | (with_reducible refine Fr.foldl (fun z a h => ?_) ?_)

theorem State.endRequests_frame {n : Nat} {W : Nat} {s₀ s₁ : State} (h₀ : Fr W s₀ s₁) (hw : 131956465536318 &&& W = 131956465536318) :
    Fr W s₀ (State.endRequests s₁ n) := by
  refine Fr.lift hw h₀ ?_
  have h : Fr 131956465536318 s₁ s₁ := Fr.refl
  clear h₀ hw
  first | rw [State.endRequests] | unfold State.endRequests
  repeat' first
    | with_reducible assumption
    | (with_reducible refine State.completeFailed_frame ?_ rfl)
    | (with_reducible refine State.complete_frame ?_ rfl)
    | (with_reducible refine State.setCn_frame ?_ rfl)
    | (with_reducible refine Fr.foldl (fun z a h => ?_) ?_)

end Sys2Proof.Machine
end

