-- ==== Sys2Proof/Laws/FrameKv.lean ====
section
/-! SUPPORT. Frames of the functions of Machine/Kv.lean: which parts of the state each may change. -/

namespace Sys2Proof.Machine

theorem State.evictCtx_frame {W : Nat} {s₀ s₁ : State} (h₀ : Fr W s₀ s₁) (hw : 131943548063038 &&& W = 131943548063038) :
    Fr W s₀ (State.evictCtx s₁) := by
  refine Fr.lift hw h₀ ?_
  have h : Fr 131943548063038 s₁ s₁ := Fr.refl
  clear h₀ hw
  first | rw [State.evictCtx] | unfold State.evictCtx
  repeat' first
    | with_reducible assumption
    | (intro x; clear_value x)
    | (lift_lets; intro x; refine_lift have hb : ∀ y, y = x → Fr 131943548063038 s₁ y := ?_; ?_; all_goals first | (have hx := hb x rfl; clear hb; clear_value x) | (intro y hy; unfold x at hy; rw [hy]; clear hy y))
    | (with_reducible refine State.poke_frame ?_ rfl)
    | (with_reducible refine State.tick_frame ?_ rfl)
    | (with_reducible refine Fr.ite ?_ ?_)
    | split
    | (with_reducible refine Fr.kv ?_ rfl)

theorem State.fetchCtx_frame {n : Nat} {W : Nat} {s₀ s₁ : State} (h₀ : Fr W s₀ s₁) (hw : 131943548063038 &&& W = 131943548063038) :
    Fr W s₀ (State.fetchCtx s₁ n) := by
  refine Fr.lift hw h₀ ?_
  have h : Fr 131943548063038 s₁ s₁ := Fr.refl
  clear h₀ hw
  first | rw [State.fetchCtx] | unfold State.fetchCtx
  repeat' first
    | with_reducible assumption
    | (intro x; refine_lift have hb : ∀ y, y = x → Fr 131943548063038 s₁ y := ?_; ?_; all_goals first | (have hx := hb x rfl; clear hb; clear_value x) | (intro y hy; unfold x at hy; rw [hy]; clear hy y))
    | (intro x; refine_lift have hb : ∀ y, y = x → Fr2 131943548063038 s₁ y := ?_; ?_; all_goals first | (have hx := hb x rfl; clear hb; clear_value x) | (intro y hy; unfold x at hy; rw [hy]; clear hy y))
    | (intro x; refine_lift have hb : ∀ y, y = x → Fr22 131943548063038 s₁ y := ?_; ?_; all_goals first | (have hx := hb x rfl; clear hb; clear_value x) | (intro y hy; unfold x at hy; rw [hy]; clear hy y))
    | (intro x; refine_lift have hb : ∀ y, y = x → Fr1 131943548063038 s₁ y := ?_; ?_; all_goals first | (have hx := hb x rfl; clear hb; clear_value x) | (intro y hy; unfold x at hy; rw [hy]; clear hy y))
    | (intro x; clear_value x)
    | (lift_lets; intro x; refine_lift have hb : ∀ y, y = x → Fr 131943548063038 s₁ y := ?_; ?_; all_goals first | (have hx := hb x rfl; clear hb; clear_value x) | (intro y hy; unfold x at hy; rw [hy]; clear hy y))
    | (lift_lets; intro x; refine_lift have hb : ∀ y, y = x → Fr2 131943548063038 s₁ y := ?_; ?_; all_goals first | (have hx := hb x rfl; clear hb; clear_value x) | (intro y hy; unfold x at hy; rw [hy]; clear hy y))
    | (lift_lets; intro x; refine_lift have hb : ∀ y, y = x → Fr22 131943548063038 s₁ y := ?_; ?_; all_goals first | (have hx := hb x rfl; clear hb; clear_value x) | (intro y hy; unfold x at hy; rw [hy]; clear hy y))
    | (lift_lets; intro x; refine_lift have hb : ∀ y, y = x → Fr1 131943548063038 s₁ y := ?_; ?_; all_goals first | (have hx := hb x rfl; clear hb; clear_value x) | (intro y hy; unfold x at hy; rw [hy]; clear hy y))
    | (lift_lets; intro x; clear_value x)
    | (with_reducible exact Fr2.out (by assumption))
    | (with_reducible exact Fr22.out (by assumption))
    | (with_reducible exact Fr1.out (by assumption))
    | (with_reducible refine State.evictCtx_frame ?_ rfl)
    | (with_reducible refine State.load_frame ?_ rfl)
    | (with_reducible refine Fr22.out (State.load_frame ?_ rfl))
    | (with_reducible refine Fr.ite ?_ ?_)
    | (with_reducible exact Fr2.out (by assumption))
    | dsimp only
    | split
    | (with_reducible refine Fr.kv ?_ rfl)

theorem State.setCtx_frame {n : Nat} {c : List Byte} {W : Nat} {s₀ s₁ : State} (h₀ : Fr W s₀ s₁) (hw : 131943548063038 &&& W = 131943548063038) :
    Fr W s₀ (State.setCtx s₁ n c) := by
  refine Fr.lift hw h₀ ?_
  have h : Fr 131943548063038 s₁ s₁ := Fr.refl
  clear h₀ hw
  first | rw [State.setCtx] | unfold State.setCtx
  repeat' first
    | with_reducible assumption
    | (intro x; refine_lift have hb : ∀ y, y = x → Fr 131943548063038 s₁ y := ?_; ?_; all_goals first | (have hx := hb x rfl; clear hb; clear_value x) | (intro y hy; unfold x at hy; rw [hy]; clear hy y))
    | (intro x; refine_lift have hb : ∀ y, y = x → Fr2 131943548063038 s₁ y := ?_; ?_; all_goals first | (have hx := hb x rfl; clear hb; clear_value x) | (intro y hy; unfold x at hy; rw [hy]; clear hy y))
    | (intro x; refine_lift have hb : ∀ y, y = x → Fr22 131943548063038 s₁ y := ?_; ?_; all_goals first | (have hx := hb x rfl; clear hb; clear_value x) | (intro y hy; unfold x at hy; rw [hy]; clear hy y))
    | (intro x; refine_lift have hb : ∀ y, y = x → Fr1 131943548063038 s₁ y := ?_; ?_; all_goals first | (have hx := hb x rfl; clear hb; clear_value x) | (intro y hy; unfold x at hy; rw [hy]; clear hy y))
    | (intro x; clear_value x)
    | (lift_lets; intro x; refine_lift have hb : ∀ y, y = x → Fr 131943548063038 s₁ y := ?_; ?_; all_goals first | (have hx := hb x rfl; clear hb; clear_value x) | (intro y hy; unfold x at hy; rw [hy]; clear hy y))
    | (lift_lets; intro x; refine_lift have hb : ∀ y, y = x → Fr2 131943548063038 s₁ y := ?_; ?_; all_goals first | (have hx := hb x rfl; clear hb; clear_value x) | (intro y hy; unfold x at hy; rw [hy]; clear hy y))
    | (lift_lets; intro x; refine_lift have hb : ∀ y, y = x → Fr22 131943548063038 s₁ y := ?_; ?_; all_goals first | (have hx := hb x rfl; clear hb; clear_value x) | (intro y hy; unfold x at hy; rw [hy]; clear hy y))
    | (lift_lets; intro x; refine_lift have hb : ∀ y, y = x → Fr1 131943548063038 s₁ y := ?_; ?_; all_goals first | (have hx := hb x rfl; clear hb; clear_value x) | (intro y hy; unfold x at hy; rw [hy]; clear hy y))
    | (lift_lets; intro x; clear_value x)
    | (with_reducible exact Fr2.out (by assumption))
    | (with_reducible exact Fr22.out (by assumption))
    | (with_reducible exact Fr1.out (by assumption))
    | (with_reducible refine State.fetchCtx_frame ?_ rfl)
    | (with_reducible refine State.poke_frame ?_ rfl)
    | (with_reducible refine Fr.ite ?_ ?_)
    | (with_reducible exact Fr2.out (by assumption))
    | dsimp only
    | split
    | (with_reducible refine Fr.kv ?_ rfl)

theorem State.setCx_frame {n : Nat} {f : Fd} {x : Nat} {W : Nat} {s₀ s₁ : State} (h₀ : Fr W s₀ s₁) (hw : 131943548063038 &&& W = 131943548063038) :
    Fr W s₀ (State.setCx s₁ n f x) := by
  refine Fr.lift hw h₀ ?_
  have h : Fr 131943548063038 s₁ s₁ := Fr.refl
  clear h₀ hw
  first | rw [State.setCx] | unfold State.setCx
  repeat' first
    | with_reducible assumption
    | (with_reducible refine State.setCtx_frame ?_ rfl)

theorem State.kvRefusal_frame {c : Nat} {W : Nat} {s₀ s₁ : State} (h₀ : Fr W s₀ s₁) (hw : 2 &&& W = 2) :
    Fr W s₀ (State.kvRefusal s₁ c) := by
  refine Fr.lift hw h₀ ?_
  have h : Fr 2 s₁ s₁ := Fr.refl
  clear h₀ hw
  first | rw [State.kvRefusal] | unfold State.kvRefusal
  repeat' first
    | with_reducible assumption
    | (with_reducible refine State.sf_frame ?_ rfl)

theorem State.kvDiscard_frame {W : Nat} {s₀ s₁ : State} (h₀ : Fr W s₀ s₁) (hw : 2 &&& W = 2) :
    Fr W s₀ (State.kvDiscard s₁) := by
  refine Fr.lift hw h₀ ?_
  have h : Fr 2 s₁ s₁ := Fr.refl
  clear h₀ hw
  first | rw [State.kvDiscard] | unfold State.kvDiscard
  repeat' first
    | with_reducible assumption
    | (with_reducible refine State.cnt_frame ?_ rfl)

theorem State.writeMapEntry_frame {p : Nat} {a : Nat} {g : Nat} {slot : Nat} {W : Nat} {s₀ s₁ : State} (h₀ : Fr W s₀ s₁) (hw : 131943547014206 &&& W = 131943547014206) :
    Fr W s₀ (State.writeMapEntry s₁ p a g slot) := by
  refine Fr.lift hw h₀ ?_
  have h : Fr 131943547014206 s₁ s₁ := Fr.refl
  clear h₀ hw
  first | rw [State.writeMapEntry] | unfold State.writeMapEntry
  repeat' first
    | with_reducible assumption
    | (lift_lets; intro x; clear_value x)
    | (with_reducible refine State.poke_frame ?_ rfl)
    | (with_reducible refine Fr.ite ?_ ?_)
    | split

theorem State.mapGroup_frame {p : Nat} {a : Nat} {g : Nat} {W : Nat} {s₀ s₁ : State} (h₀ : Fr W s₀ s₁) (hw : 131943548063038 &&& W = 131943548063038) :
    Fr2 W s₀ (State.mapGroup s₁ p a g) := by
  refine Fr2.lift hw h₀ ?_
  have h : Fr 131943548063038 s₁ s₁ := Fr.refl
  clear h₀ hw
  first | rw [State.mapGroup] | unfold State.mapGroup
  repeat' first
    | with_reducible assumption
    | (intro x; refine_lift have hb : ∀ y, y = x → Fr 131943548063038 s₁ y := ?_; ?_; all_goals first | (have hx := hb x rfl; clear hb; clear_value x) | (intro y hy; unfold x at hy; rw [hy]; clear hy y))
    | (intro x; clear_value x)
    | (lift_lets; intro x; clear_value x)
    | (with_reducible refine State.writeMapEntry_frame ?_ rfl)
    | (with_reducible refine State.tick_frame ?_ rfl)
    | (with_reducible refine Fr2.ite ?_ ?_)
    | (with_reducible refine Fr2.pair ?_)
    | (with_reducible refine Fr.kv ?_ rfl)

theorem State.syncJobs_frame {n : Nat} {W : Nat} {s₀ s₁ : State} (h₀ : Fr W s₀ s₁) (hw : 131943548063038 &&& W = 131943548063038) :
    Fr W s₀ (State.syncJobs s₁ n) := by
  refine Fr.lift hw h₀ ?_
  have h : Fr 131943548063038 s₁ s₁ := Fr.refl
  clear h₀ hw
  first | rw [State.syncJobs] | unfold State.syncJobs
  repeat' first
    | with_reducible assumption
    | (with_reducible refine State.setCx_frame ?_ rfl)

theorem State.addJob_frame {j : KvJob} {W : Nat} {s₀ s₁ : State} (h₀ : Fr W s₀ s₁) (hw : 131943548063038 &&& W = 131943548063038) :
    Fr W s₀ (State.addJob s₁ j) := by
  refine Fr.lift hw h₀ ?_
  have h : Fr 131943548063038 s₁ s₁ := Fr.refl
  clear h₀ hw
  first | rw [State.addJob] | unfold State.addJob
  repeat' first
    | with_reducible assumption
    | (lift_lets; intro x; clear_value x)
    | (with_reducible refine State.syncJobs_frame ?_ rfl)
    | (with_reducible refine Fr.kv ?_ rfl)

theorem State.postJob_frame {W : Nat} {s₀ s₁ : State} (h₀ : Fr W s₀ s₁) (hw : 131943548062782 &&& W = 131943548062782) :
    FrO W s₀ (State.postJob s₁) := by
  refine FrO.lift hw h₀ ?_
  have h : Fr 131943548062782 s₁ s₁ := Fr.refl
  clear h₀ hw
  first | rw [State.postJob] | unfold State.postJob
  repeat' first
    | with_reducible assumption
    | (exact FrO.none)
    | (with_reducible refine FrO.some ?_)
    | (intro x; clear_value x)
    | (lift_lets; intro x; clear_value x)
    | (with_reducible refine State.poke_frame ?_ rfl)
    | (with_reducible refine State.sf_frame ?_ rfl)
    | split
    | (with_reducible refine Fr.kv ?_ rfl)

theorem State.modeUpdate_frame {W : Nat} {s₀ s₁ : State} (h₀ : Fr W s₀ s₁) (hw : 4194306 &&& W = 4194306) :
    Fr W s₀ (State.modeUpdate s₁) := by
  refine Fr.lift hw h₀ ?_
  have h : Fr 4194306 s₁ s₁ := Fr.refl
  clear h₀ hw
  first | rw [State.modeUpdate] | unfold State.modeUpdate
  repeat' first
    | with_reducible assumption
    | (with_reducible refine State.useMode_frame ?_ rfl)
    | (with_reducible refine Fr.ite ?_ ?_)
    | split
    | (with_reducible refine Fr.hbm ?_ rfl)

theorem State.postJobs_frame {x0 : Nat} {W : Nat} {s₀ s₁ : State} (h₀ : Fr W s₀ s₁) (hw : 131943548062782 &&& W = 131943548062782) :
    Fr W s₀ (State.postJobs x0 s₁) := by
  refine Fr.lift hw h₀ ?_
  clear h₀ hw
  suffices main : ∀ (x0 : Nat)  (z : State), Fr 131943548062782 s₁ z → Fr 131943548062782 s₁ (State.postJobs x0 z) from main x0  s₁ Fr.refl
  intro x0
  induction x0 with
  | zero =>
    intro  z h
    first | rw [State.postJobs] | unfold State.postJobs
    repeat' first
      | with_reducible assumption
      | (with_reducible refine ih _ ?_)
      | (with_reducible refine State.postJob_frame ?_ rfl)
      | (with_reducible refine Fr.eqo (by assumption) ?_)
      | split
  | succ n ih =>
    intro  z h
    first | rw [State.postJobs] | unfold State.postJobs
    repeat' first
      | with_reducible assumption
      | (with_reducible refine ih _ ?_)
      | (with_reducible refine State.postJob_frame ?_ rfl)
      | (with_reducible refine Fr.eqo (by assumption) ?_)
      | split

theorem State.kvPump_frame {W : Nat} {s₀ s₁ : State} (h₀ : Fr W s₀ s₁) (hw : 131943548062782 &&& W = 131943548062782) :
    Fr W s₀ (State.kvPump s₁) := by
  refine Fr.lift hw h₀ ?_
  have h : Fr 131943548062782 s₁ s₁ := Fr.refl
  clear h₀ hw
  first | rw [State.kvPump] | unfold State.kvPump
  repeat' first
    | with_reducible assumption
    | (with_reducible refine State.modeUpdate_frame ?_ rfl)
    | (with_reducible refine State.postJobs_frame ?_ rfl)

theorem State.mapPort_frame {p : Nat} {a : Nat} {gmax : Nat} {W : Nat} {s₀ s₁ : State} (h₀ : Fr W s₀ s₁) (hw : 131943548063038 &&& W = 131943548063038) :
    Fr2 W s₀ (State.mapPort s₁ p a gmax) := by
  refine Fr2.lift hw h₀ ?_
  have h : Fr 131943548063038 s₁ s₁ := Fr.refl
  clear h₀ hw
  first | rw [State.mapPort] | unfold State.mapPort
  repeat' first
    | with_reducible assumption
    | (with_reducible refine State.mapGroup_frame ?_ rfl)
    | (with_reducible refine Fr2.foldl (fun z a h => ?_) ?_)
    | (with_reducible refine Fr2.ite ?_ ?_)
    | (with_reducible exact Fr2.out (by assumption))
    | (with_reducible refine Fr.eq2 (by assumption) ?_)
    | split
    | (with_reducible refine Fr2.pair ?_)

theorem State.mapStream_frame {n : Nat} {W : Nat} {s₀ s₁ : State} (h₀ : Fr W s₀ s₁) (hw : 131943548063038 &&& W = 131943548063038) :
    Fr W s₀ (State.mapStream s₁ n) := by
  refine Fr.lift hw h₀ ?_
  have h : Fr 131943548063038 s₁ s₁ := Fr.refl
  clear h₀ hw
  first | rw [State.mapStream] | unfold State.mapStream
  repeat' first
    | with_reducible assumption
    | (intro x; refine_lift have hb : ∀ y, y = x → Fr 131943548063038 s₁ y := ?_; ?_; all_goals first | (have hx := hb x rfl; clear hb; clear_value x) | (intro y hy; unfold x at hy; rw [hy]; clear hy y))
    | (intro x; refine_lift have hb : ∀ y, y = x → Fr2 131943548063038 s₁ y := ?_; ?_; all_goals first | (have hx := hb x rfl; clear hb; clear_value x) | (intro y hy; unfold x at hy; rw [hy]; clear hy y))
    | (intro x; clear_value x)
    | (lift_lets; intro x; refine_lift have hb : ∀ y, y = x → Fr2 131943548063038 s₁ y := ?_; ?_; all_goals first | (have hx := hb x rfl; clear hb; clear_value x) | (intro y hy; unfold x at hy; rw [hy]; clear hy y))
    | (lift_lets; intro x; clear_value x)
    | (with_reducible refine State.mapPort_frame ?_ rfl)
    | (with_reducible refine State.setCx_frame ?_ rfl)
    | (with_reducible refine State.addJob_frame ?_ rfl)
    | (with_reducible refine Fr.ite ?_ ?_)
    | (with_reducible refine Fr2.foldl (fun z a h => ?_) ?_)
    | (with_reducible refine Fr2.ite ?_ ?_)
    | (with_reducible exact Fr2.out (by assumption))
    | split
    | (with_reducible refine Fr2.pair ?_)
    | (with_reducible refine Fr.kv ?_ rfl)

theorem State.retryShort_frame {W : Nat} {s₀ s₁ : State} (h₀ : Fr W s₀ s₁) (hw : 131943548063038 &&& W = 131943548063038) :
    Fr W s₀ (State.retryShort s₁) := by
  refine Fr.lift hw h₀ ?_
  have h : Fr 131943548063038 s₁ s₁ := Fr.refl
  clear h₀ hw
  first | rw [State.retryShort] | unfold State.retryShort
  repeat' first
    | with_reducible assumption
    | (with_reducible refine State.mapStream_frame ?_ rfl)
    | (with_reducible refine Fr.foldl (fun z a h => ?_) ?_)

theorem State.freeStreamSlots_frame {n : Nat} {W : Nat} {s₀ s₁ : State} (h₀ : Fr W s₀ s₁) (hw : 131943548063038 &&& W = 131943548063038) :
    Fr W s₀ (State.freeStreamSlots s₁ n) := by
  refine Fr.lift hw h₀ ?_
  have h : Fr 131943548063038 s₁ s₁ := Fr.refl
  clear h₀ hw
  first | rw [State.freeStreamSlots] | unfold State.freeStreamSlots
  repeat' first
    | with_reducible assumption
    | (intro x; refine_lift have hb : ∀ y, y = x → Fr 131943548063038 s₁ y := ?_; ?_; all_goals first | (have hx := hb x rfl; clear hb; clear_value x) | (intro y hy; unfold x at hy; rw [hy]; clear hy y))
    | (intro x; clear_value x)
    | (lift_lets; intro x; clear_value x)
    | (with_reducible refine State.retryShort_frame ?_ rfl)
    | (with_reducible refine State.writeMapEntry_frame ?_ rfl)
    | (with_reducible refine State.setCx_frame ?_ rfl)
    | (with_reducible refine Fr.ite ?_ ?_)
    | (with_reducible refine Fr.foldl (fun z a h => ?_) ?_)
    | (with_reducible refine Fr.kv ?_ rfl)

theorem State.needSet_frame {n : Nat} {W : Nat} {s₀ s₁ : State} (h₀ : Fr W s₀ s₁) (hw : 131943548063038 &&& W = 131943548063038) :
    Fr W s₀ (State.needSet s₁ n) := by
  refine Fr.lift hw h₀ ?_
  have h : Fr 131943548063038 s₁ s₁ := Fr.refl
  clear h₀ hw
  first | rw [State.needSet] | unfold State.needSet
  repeat' first
    | with_reducible assumption
    | (with_reducible refine State.addJob_frame ?_ rfl)

theorem State.takeSet_frame {n : Nat} {i : Nat} {cls : List Byte} {W : Nat} {s₀ s₁ : State} (h₀ : Fr W s₀ s₁) (hw : 131943548063038 &&& W = 131943548063038) :
    Fr2 W s₀ (State.takeSet s₁ n i cls) := by
  refine Fr2.lift hw h₀ ?_
  have h : Fr 131943548063038 s₁ s₁ := Fr.refl
  clear h₀ hw
  first | rw [State.takeSet] | unfold State.takeSet
  repeat' first
    | with_reducible assumption
    | (intro x; refine_lift have hb : ∀ y, y = x → Fr 131943548063038 s₁ y := ?_; ?_; all_goals first | (have hx := hb x rfl; clear hb; clear_value x) | (intro y hy; unfold x at hy; rw [hy]; clear hy y))
    | (lift_lets; intro x; clear_value x)
    | (with_reducible refine State.poke_frame ?_ rfl)
    | (with_reducible refine State.setCx_frame ?_ rfl)
    | (with_reducible refine State.needSet_frame ?_ rfl)
    | (with_reducible refine Fr2.ite ?_ ?_)
    | split
    | (with_reducible refine Fr2.pair ?_)

theorem State.pullRows_frame {n : Nat} {x1 : Nat} {W : Nat} {s₀ s₁ : State} (h₀ : Fr W s₀ s₁) (hw : 131943548063038 &&& W = 131943548063038) :
    Fr W s₀ (State.pullRows n x1 s₁) := by
  refine Fr.lift hw h₀ ?_
  clear h₀ hw
  suffices main : ∀ (x1 : Nat) (n : Nat) (z : State), Fr 131943548063038 s₁ z → Fr 131943548063038 s₁ (State.pullRows n x1 z) from main x1 n s₁ Fr.refl
  intro x1
  induction x1 with
  | zero =>
    intro n z h
    first | rw [State.pullRows] | unfold State.pullRows
    repeat' first
      | with_reducible assumption
      | (intro x; refine_lift have hb : ∀ y, y = x → Fr 131943548063038 s₁ y := ?_; ?_; all_goals first | (have hx := hb x rfl; clear hb; clear_value x) | (intro y hy; unfold x at hy; rw [hy]; clear hy y))
      | (intro x; refine_lift have hb : ∀ y, y = x → Fr2 131943548063038 s₁ y := ?_; ?_; all_goals first | (have hx := hb x rfl; clear hb; clear_value x) | (intro y hy; unfold x at hy; rw [hy]; clear hy y))
      | (intro x; clear_value x)
      | (lift_lets; intro x; clear_value x)
      | (with_reducible refine ih _ _ ?_)
      | (with_reducible refine State.addJob_frame ?_ rfl)
      | (with_reducible refine State.setCx_frame ?_ rfl)
      | (with_reducible refine State.takeSet_frame ?_ rfl)
      | (with_reducible refine Fr.ite ?_ ?_)
      | (with_reducible refine Fr.foldl (fun z a h => ?_) ?_)
      | (with_reducible exact Fr2.out (by assumption))
  | succ n ih =>
    intro n z h
    first | rw [State.pullRows] | unfold State.pullRows
    repeat' first
      | with_reducible assumption
      | (intro x; refine_lift have hb : ∀ y, y = x → Fr 131943548063038 s₁ y := ?_; ?_; all_goals first | (have hx := hb x rfl; clear hb; clear_value x) | (intro y hy; unfold x at hy; rw [hy]; clear hy y))
      | (intro x; refine_lift have hb : ∀ y, y = x → Fr2 131943548063038 s₁ y := ?_; ?_; all_goals first | (have hx := hb x rfl; clear hb; clear_value x) | (intro y hy; unfold x at hy; rw [hy]; clear hy y))
      | (intro x; clear_value x)
      | (lift_lets; intro x; clear_value x)
      | (with_reducible refine ih _ _ ?_)
      | (with_reducible refine State.addJob_frame ?_ rfl)
      | (with_reducible refine State.setCx_frame ?_ rfl)
      | (with_reducible refine State.takeSet_frame ?_ rfl)
      | (with_reducible refine Fr.ite ?_ ?_)
      | (with_reducible refine Fr.foldl (fun z a h => ?_) ?_)
      | (with_reducible exact Fr2.out (by assumption))

theorem State.raiseTier_frame {n : Nat} {W : Nat} {s₀ s₁ : State} (h₀ : Fr W s₀ s₁) (hw : 131943548063038 &&& W = 131943548063038) :
    Fr W s₀ (State.raiseTier s₁ n) := by
  refine Fr.lift hw h₀ ?_
  have h : Fr 131943548063038 s₁ s₁ := Fr.refl
  clear h₀ hw
  first | rw [State.raiseTier] | unfold State.raiseTier
  repeat' first
    | with_reducible assumption
    | (with_reducible refine State.setCx_frame ?_ rfl)
    | (with_reducible refine Fr.ite ?_ ?_)

theorem State.advanceReady_frame {n : Nat} {W : Nat} {s₀ s₁ : State} (h₀ : Fr W s₀ s₁) (hw : 131943548063038 &&& W = 131943548063038) :
    Fr W s₀ (State.advanceReady s₁ n) := by
  refine Fr.lift hw h₀ ?_
  have h : Fr 131943548063038 s₁ s₁ := Fr.refl
  clear h₀ hw
  first | rw [State.advanceReady] | unfold State.advanceReady
  repeat' first
    | with_reducible assumption
    | (intro x; refine_lift have hb : ∀ y, y = x → Fr 131943548063038 s₁ y := ?_; ?_; all_goals first | (have hx := hb x rfl; clear hb; clear_value x) | (intro y hy; unfold x at hy; rw [hy]; clear hy y))
    | (intro x; clear_value x)
    | (lift_lets; intro x; clear_value x)
    | (with_reducible refine State.poke_frame ?_ rfl)
    | (with_reducible refine State.setCx_frame ?_ rfl)
    | (with_reducible refine Fr.ite ?_ ?_)
    | (with_reducible refine Fr.foldl (fun z a h => ?_) ?_)
    | split
    | (with_reducible refine Fr.kv ?_ rfl)

theorem State.kvTakeover_frame {W : Nat} {s₀ s₁ : State} (h₀ : Fr W s₀ s₁) (hw : 1048576 &&& W = 1048576) :
    Fr W s₀ (State.kvTakeover s₁) := by
  refine Fr.lift hw h₀ ?_
  have h : Fr 1048576 s₁ s₁ := Fr.refl
  clear h₀ hw
  first | rw [State.kvTakeover] | unfold State.kvTakeover
  repeat' first
    | with_reducible assumption
    | (intro x; clear_value x)
    | (lift_lets; intro x; clear_value x)
    | (with_reducible refine Fr.ite ?_ ?_)
    | (with_reducible refine Fr.foldl (fun z a h => ?_) ?_)
    | (with_reducible refine Fr.kv ?_ rfl)

theorem State.addMove_frame {n : Nat} {i : Nat} {target : Nat} {fill : Bool} {W : Nat} {s₀ s₁ : State} (h₀ : Fr W s₀ s₁) (hw : 131943548063038 &&& W = 131943548063038) :
    Fr W s₀ (State.addMove s₁ n i target fill) := by
  refine Fr.lift hw h₀ ?_
  have h : Fr 131943548063038 s₁ s₁ := Fr.refl
  clear h₀ hw
  first | rw [State.addMove] | unfold State.addMove
  repeat' first
    | with_reducible assumption
    | (intro x; clear_value x)
    | (lift_lets; intro x; clear_value x)
    | (with_reducible refine State.addJob_frame ?_ rfl)
    | split

theorem State.resumeJobs_frame {n : Nat} {W : Nat} {s₀ s₁ : State} (h₀ : Fr W s₀ s₁) (hw : 131943548063038 &&& W = 131943548063038) :
    Fr W s₀ (State.resumeJobs s₁ n) := by
  refine Fr.lift hw h₀ ?_
  have h : Fr 131943548063038 s₁ s₁ := Fr.refl
  clear h₀ hw
  first | rw [State.resumeJobs] | unfold State.resumeJobs
  repeat' first
    | with_reducible assumption
    | (intro x; clear_value x)
    | (lift_lets; intro x; clear_value x)
    | (with_reducible refine State.addMove_frame ?_ rfl)
    | (with_reducible refine State.addJob_frame ?_ rfl)
    | (with_reducible refine Fr.foldl (fun z a h => ?_) ?_)
    | dsimp only
    | (with_reducible refine Fr.kv ?_ rfl)

theorem State.dropJobs_frame {n : Nat} {f : KvJob → Bool} {W : Nat} {s₀ s₁ : State} (h₀ : Fr W s₀ s₁) (hw : 131943548063038 &&& W = 131943548063038) :
    Fr W s₀ (State.dropJobs s₁ n f) := by
  refine Fr.lift hw h₀ ?_
  have h : Fr 131943548063038 s₁ s₁ := Fr.refl
  clear h₀ hw
  first | rw [State.dropJobs] | unfold State.dropJobs
  repeat' first
    | with_reducible assumption
    | (lift_lets; intro x; clear_value x)
    | (with_reducible refine State.syncJobs_frame ?_ rfl)
    | (with_reducible refine Fr.kv ?_ rfl)

theorem State.kvSettle_frame {n : Nat} {W : Nat} {s₀ s₁ : State} (h₀ : Fr W s₀ s₁) (hw : 131943548063038 &&& W = 131943548063038) :
    Fr W s₀ (State.kvSettle s₁ n) := by
  refine Fr.lift hw h₀ ?_
  have h : Fr 131943548063038 s₁ s₁ := Fr.refl
  clear h₀ hw
  first | rw [State.kvSettle] | unfold State.kvSettle
  repeat' first
    | with_reducible assumption
    | (intro x; refine_lift have hb : ∀ y, y = x → Fr 131943548063038 s₁ y := ?_; ?_; all_goals first | (have hx := hb x rfl; clear hb; clear_value x) | (intro y hy; unfold x at hy; rw [hy]; clear hy y))
    | (intro x; clear_value x)
    | (lift_lets; intro x; refine_lift have hb : ∀ y, y = x → Fr 131943548063038 s₁ y := ?_; ?_; all_goals first | (have hx := hb x rfl; clear hb; clear_value x) | (intro y hy; unfold x at hy; rw [hy]; clear hy y))
    | (with_reducible refine State.raiseTier_frame ?_ rfl)
    | (with_reducible refine State.freeStreamSlots_frame ?_ rfl)
    | (with_reducible refine State.poke_frame ?_ rfl)
    | (with_reducible refine State.advanceReady_frame ?_ rfl)
    | (with_reducible refine State.syncJobs_frame ?_ rfl)
    | (with_reducible refine State.setCx_frame ?_ rfl)
    | (with_reducible refine State.addJob_frame ?_ rfl)
    | (with_reducible refine Fr.ite ?_ ?_)
    | (with_reducible refine Fr.foldl (fun z a h => ?_) ?_)
    | (with_reducible refine Fr.kv ?_ rfl)

theorem State.pullAgain_frame {n : Nat} {W : Nat} {s₀ s₁ : State} (h₀ : Fr W s₀ s₁) (hw : 131943548063038 &&& W = 131943548063038) :
    Fr W s₀ (State.pullAgain s₁ n) := by
  refine Fr.lift hw h₀ ?_
  have h : Fr 131943548063038 s₁ s₁ := Fr.refl
  clear h₀ hw
  first | rw [State.pullAgain] | unfold State.pullAgain
  repeat' first
    | with_reducible assumption
    | (intro x; refine_lift have hb : ∀ y, y = x → Fr 131943548063038 s₁ y := ?_; ?_; all_goals first | (have hx := hb x rfl; clear hb; clear_value x) | (intro y hy; unfold x at hy; rw [hy]; clear hy y))
    | (intro x; clear_value x)
    | (lift_lets; intro x; refine_lift have hb : ∀ y, y = x → Fr 131943548063038 s₁ y := ?_; ?_; all_goals first | (have hx := hb x rfl; clear hb; clear_value x) | (intro y hy; unfold x at hy; rw [hy]; clear hy y))
    | (lift_lets; intro x; clear_value x)
    | (with_reducible refine State.fetchCtx_frame ?_ rfl)
    | (with_reducible refine State.dropJobs_frame ?_ rfl)
    | (with_reducible refine State.setCx_frame ?_ rfl)
    | (with_reducible refine Fr.ite ?_ ?_)
    | (with_reducible exact Fr2.out (by assumption))
    | dsimp only
    | split

theorem State.kvRun_frame {n : Nat} {W : Nat} {s₀ s₁ : State} (h₀ : Fr W s₀ s₁) (hw : 131943548063038 &&& W = 131943548063038) :
    Fr W s₀ (State.kvRun s₁ n) := by
  refine Fr.lift hw h₀ ?_
  have h : Fr 131943548063038 s₁ s₁ := Fr.refl
  clear h₀ hw
  first | rw [State.kvRun] | unfold State.kvRun
  repeat' first
    | with_reducible assumption
    | (with_reducible refine State.kvSettle_frame ?_ rfl)
    | (with_reducible refine State.pullRows_frame ?_ rfl)
    | (with_reducible refine State.kvPump_frame ?_ rfl)

theorem State.doneNext_frame {W : Nat} {s₀ s₁ : State} (h₀ : Fr W s₀ s₁) (hw : 2 &&& W = 2) :
    Fr W s₀ (State.doneNext s₁) := by
  refine Fr.lift hw h₀ ?_
  have h : Fr 2 s₁ s₁ := Fr.refl
  clear h₀ hw
  first | rw [State.doneNext] | unfold State.doneNext
  repeat' first
    | with_reducible assumption
    | (with_reducible refine State.sf_frame ?_ rfl)

theorem State.jobEnds_frame {j : KvJob} {status : Nat} {value : Nat} {W : Nat} {s₀ s₁ : State} (h₀ : Fr W s₀ s₁) (hw : 131943548063038 &&& W = 131943548063038) :
    Fr W s₀ (State.jobEnds s₁ j status value) := by
  refine Fr.lift hw h₀ ?_
  have h : Fr 131943548063038 s₁ s₁ := Fr.refl
  clear h₀ hw
  first | rw [State.jobEnds] | unfold State.jobEnds
  repeat' first
    | with_reducible assumption
    | (intro x; refine_lift have hb : ∀ y, y = x → Fr 131943548063038 s₁ y := ?_; ?_; all_goals first | (have hx := hb x rfl; clear hb; clear_value x) | (intro y hy; unfold x at hy; rw [hy]; clear hy y))
    | (lift_lets; intro x; clear_value x)
    | (with_reducible refine State.kvRun_frame ?_ rfl)
    | (with_reducible refine State.kvPump_frame ?_ rfl)
    | (with_reducible refine State.syncJobs_frame ?_ rfl)
    | (with_reducible refine State.setCx_frame ?_ rfl)
    | (with_reducible refine Fr.ite ?_ ?_)
    | (with_reducible refine Fr.kv ?_ rfl)

theorem State.advance_frame {n : Nat} {tokens : Nat} {gen : Nat} {W : Nat} {s₀ s₁ : State} (h₀ : Fr W s₀ s₁) (hw : 131943548063038 &&& W = 131943548063038) :
    Fr W s₀ (State.advance s₁ n tokens gen) := by
  refine Fr.lift hw h₀ ?_
  have h : Fr 131943548063038 s₁ s₁ := Fr.refl
  clear h₀ hw
  first | rw [State.advance] | unfold State.advance
  repeat' first
    | with_reducible assumption
    | (lift_lets; intro x; refine_lift have hb : ∀ y, y = x → Fr 131943548063038 s₁ y := ?_; ?_; all_goals first | (have hx := hb x rfl; clear hb; clear_value x) | (intro y hy; unfold x at hy; rw [hy]; clear hy y))
    | (with_reducible refine State.kvRun_frame ?_ rfl)
    | (with_reducible refine State.fetchCtx_frame ?_ rfl)
    | (with_reducible refine State.setCx_frame ?_ rfl)
    | (with_reducible refine State.mapStream_frame ?_ rfl)
    | (with_reducible refine State.kvDiscard_frame ?_ rfl)
    | (with_reducible refine Fr.ite ?_ ?_)

theorem State.completionFlag_frame {p : Nat} {off : Nat} {len : Nat} {W : Nat} {s₀ s₁ : State} (h₀ : Fr W s₀ s₁) (hw : 96759175187962 &&& W = 96759175187962) :
    Fr W s₀ (State.completionFlag s₁ p off len) := by
  refine Fr.lift hw h₀ ?_
  have h : Fr 96759175187962 s₁ s₁ := Fr.refl
  clear h₀ hw
  first | rw [State.completionFlag] | unfold State.completionFlag
  repeat' first
    | with_reducible assumption
    | (with_reducible refine State.kvDiscard_frame ?_ rfl)
    | (with_reducible refine Fr.ite ?_ ?_)
    | (with_reducible refine Fr2.out (State.setVirtual_frame ?_ rfl))
    | split

theorem State.kvEnable_frame {f : Fd} {c : Option Nat} {W : Nat} {s₀ s₁ : State} (h₀ : Fr W s₀ s₁) (hw : 2 &&& W = 2) :
    Fr W s₀ (State.kvEnable s₁ f c) := by
  refine Fr.lift hw h₀ ?_
  have h : Fr 2 s₁ s₁ := Fr.refl
  clear h₀ hw
  first | rw [State.kvEnable] | unfold State.kvEnable
  repeat' first
    | with_reducible assumption
    | (with_reducible refine State.kvRefusal_frame ?_ rfl)
    | (with_reducible refine State.sf_frame ?_ rfl)
    | split

theorem writeKvCtl_frame {q : Requester} {v : W32} {W : Nat} {s₀ s₁ : State} (h₀ : Fr W s₀ s₁) (hw : 131943548062782 &&& W = 131943548062782) :
    Fr W s₀ (writeKvCtl q v s₁) := by
  refine Fr.lift hw h₀ ?_
  have h : Fr 131943548062782 s₁ s₁ := Fr.refl
  clear h₀ hw
  first | rw [writeKvCtl] | unfold writeKvCtl
  repeat' first
    | with_reducible assumption
    | (intro x; refine_lift have hb : ∀ y, y = x → Fr 131943548062782 s₁ y := ?_; ?_; all_goals first | (have hx := hb x rfl; clear hb; clear_value x) | (intro y hy; unfold x at hy; rw [hy]; clear hy y))
    | (lift_lets; intro x; clear_value x)
    | (with_reducible refine State.kvEnable_frame ?_ rfl)
    | (with_reducible refine State.sf_frame ?_ rfl)
    | (with_reducible refine State.kvPump_frame ?_ rfl)
    | (with_reducible refine Fr.ite ?_ ?_)

theorem writeKvBase_frame {q : Requester} {off : Nat} {mask : W32} {v : W32} {W : Nat} {s₀ s₁ : State} (h₀ : Fr W s₀ s₁) (hw : 2 &&& W = 2) :
    Fr W s₀ (writeKvBase q off mask v s₁) := by
  refine Fr.lift hw h₀ ?_
  have h : Fr 2 s₁ s₁ := Fr.refl
  clear h₀ hw
  first | rw [writeKvBase] | unfold writeKvBase
  repeat' first
    | with_reducible assumption
    | (with_reducible refine State.wr_frame ?_ rfl)
    | (with_reducible refine Fr.ite ?_ ?_)

theorem writeKvRingBase_frame {q : Requester} {done : Bool} {hi : Bool} {v : W32} {W : Nat} {s₀ s₁ : State} (h₀ : Fr W s₀ s₁) (hw : 2 &&& W = 2) :
    Fr W s₀ (writeKvRingBase q done hi v s₁) := by
  refine Fr.lift hw h₀ ?_
  have h : Fr 2 s₁ s₁ := Fr.refl
  clear h₀ hw
  first | rw [writeKvRingBase] | unfold writeKvRingBase
  repeat' first
    | with_reducible assumption
    | (lift_lets; intro x; refine_lift have hb : ∀ y, y = x → Fr 2 s₁ y := ?_; ?_; all_goals first | (have hx := hb x rfl; clear hb; clear_value x) | (intro y hy; unfold x at hy; rw [hy]; clear hy y))
    | (with_reducible refine State.wr_frame ?_ rfl)
    | (with_reducible refine State.sf_frame ?_ rfl)
    | (with_reducible refine Fr.ite ?_ ?_)

theorem writeKvJobHead_frame {q : Requester} {v : W32} {W : Nat} {s₀ s₁ : State} (h₀ : Fr W s₀ s₁) (hw : 2 &&& W = 2) :
    Fr W s₀ (writeKvJobHead q v s₁) := by
  refine Fr.lift hw h₀ ?_
  have h : Fr 2 s₁ s₁ := Fr.refl
  clear h₀ hw
  first | rw [writeKvJobHead] | unfold writeKvJobHead
  repeat' first
    | with_reducible assumption
    | (with_reducible refine State.sf_frame ?_ rfl)
    | (with_reducible refine Fr.ite ?_ ?_)

theorem writeKvDoneDb_frame {q : Requester} {v : W32} {W : Nat} {s₀ s₁ : State} (h₀ : Fr W s₀ s₁) (hw : 2 &&& W = 2) :
    Fr W s₀ (writeKvDoneDb q v s₁) := by
  refine Fr.lift hw h₀ ?_
  have h : Fr 2 s₁ s₁ := Fr.refl
  clear h₀ hw
  first | rw [writeKvDoneDb] | unfold writeKvDoneDb
  repeat' first
    | with_reducible assumption
    | (with_reducible refine State.sf_frame ?_ rfl)
    | (with_reducible refine State.kvDiscard_frame ?_ rfl)
    | (with_reducible refine Fr.ite ?_ ?_)

theorem State.onStream_frame {n : Nat} {gen : Nat} {f : State → State × Nat × List Byte} {W : Nat} {s₀ s₁ : State} (h : Fr W s₀ s₁) (hf : ∀ z, Fr W s₀ z → Fr1 W s₀ (f z)) (hw : 131943548063038 &&& W = 131943548063038) :
    Fr1 W s₀ (State.onStream s₁ n gen f) := by
  first | rw [State.onStream] | unfold State.onStream
  repeat' first
    | with_reducible assumption
    | (lift_lets; intro x; refine_lift have hb : ∀ y, y = x → Fr W s₀ y := ?_; ?_; all_goals first | (have hx := hb x rfl; clear hb; clear_value x) | (intro y hy; unfold x at hy; rw [hy]; clear hy y))
    | (with_reducible refine hf _ ?_)
    | (with_reducible refine State.fetchCtx_frame ?_ (Fr.sub rfl hw))
    | (with_reducible refine State.tick_frame ?_ (Fr.sub rfl hw))
    | (with_reducible refine refuse_frame ?_ (Fr.sub rfl hw))
    | (with_reducible refine Fr1.ite ?_ ?_)

theorem State.resumePort_frame {n : Nat} {a : Nat} {p : Nat} {W : Nat} {s₀ s₁ : State} (h₀ : Fr W s₀ s₁) (hw : 131943548062782 &&& W = 131943548062782) :
    Fr W s₀ (State.resumePort n a s₁ p) := by
  refine Fr.lift hw h₀ ?_
  have h : Fr 131943548062782 s₁ s₁ := Fr.refl
  clear h₀ hw
  first | rw [State.resumePort] | unfold State.resumePort
  repeat' first
    | with_reducible assumption
    | (intro x; clear_value x)
    | (lift_lets; intro x; refine_lift have hb : ∀ y, y = x → Fr 131943548062782 s₁ y := ?_; ?_; all_goals first | (have hx := hb x rfl; clear hb; clear_value x) | (intro y hy; unfold x at hy; rw [hy]; clear hy y))
    | (with_reducible refine State.poke_frame ?_ rfl)
    | (with_reducible refine Fr.onSome ?_ (fun a => ?_))
    | (with_reducible refine Fr.kv ?_ rfl)

theorem State.resumeStream_frame {n : Nat} {a : Nat} {t0 : Nat} {k0 : Nat} {W : Nat} {s₀ s₁ : State} (h₀ : Fr W s₀ s₁) (hw : 131943548063038 &&& W = 131943548063038) :
    Fr W s₀ (State.resumeStream s₁ n a t0 k0) := by
  refine Fr.lift hw h₀ ?_
  have h : Fr 131943548063038 s₁ s₁ := Fr.refl
  clear h₀ hw
  first | rw [State.resumeStream] | unfold State.resumeStream
  repeat' first
    | with_reducible assumption
    | (with_reducible refine State.resumePort_frame ?_ rfl)
    | (with_reducible refine State.kvSettle_frame ?_ rfl)
    | (with_reducible refine State.resumeJobs_frame ?_ rfl)
    | (with_reducible refine State.tick_frame ?_ rfl)
    | (with_reducible refine State.kvPump_frame ?_ rfl)
    | (with_reducible refine State.setCx_frame ?_ rfl)
    | (with_reducible refine State.mapStream_frame ?_ rfl)
    | (with_reducible refine Fr.foldl (fun z a h => ?_) ?_)

theorem State.freeze_frame {n : Nat} {W : Nat} {s₀ s₁ : State} (h₀ : Fr W s₀ s₁) (hw : 131943548063038 &&& W = 131943548063038) :
    Fr W s₀ (State.freeze s₁ n) := by
  refine Fr.lift hw h₀ ?_
  have h : Fr 131943548063038 s₁ s₁ := Fr.refl
  clear h₀ hw
  first | rw [State.freeze] | unfold State.freeze
  repeat' first
    | with_reducible assumption
    | (with_reducible refine State.setCx_frame ?_ rfl)
    | (with_reducible refine Fr.ite ?_ ?_)

theorem State.thaw_frame {n : Nat} {W : Nat} {s₀ s₁ : State} (h₀ : Fr W s₀ s₁) (hw : 131943548063038 &&& W = 131943548063038) :
    Fr W s₀ (State.thaw s₁ n) := by
  refine Fr.lift hw h₀ ?_
  have h : Fr 131943548063038 s₁ s₁ := Fr.refl
  clear h₀ hw
  first | rw [State.thaw] | unfold State.thaw
  repeat' first
    | with_reducible assumption
    | (with_reducible refine State.kvRun_frame ?_ rfl)
    | (with_reducible refine State.setCx_frame ?_ rfl)
    | (with_reducible refine State.mapStream_frame ?_ rfl)
    | (with_reducible refine Fr.ite ?_ ?_)

theorem kvAnswer_frame {c : Nat} {W : Nat} {s₀ s₁ : State} (h₀ : Fr W s₀ s₁) (hw : 2 &&& W = 2) :
    Fr1 W s₀ (kvAnswer s₁ c) := by
  refine Fr1.lift hw h₀ ?_
  have h : Fr 2 s₁ s₁ := Fr.refl
  clear h₀ hw
  first | rw [kvAnswer] | unfold kvAnswer
  repeat' first
    | with_reducible assumption
    | (with_reducible refine State.kvRefusal_frame ?_ rfl)
    | (with_reducible refine Fr1.pair ?_)

theorem State.clearMap_frame {p : Nat} {r : List Byte} {W : Nat} {s₀ s₁ : State} (h₀ : Fr W s₀ s₁) (hw : 131943547014206 &&& W = 131943547014206) :
    Fr W s₀ (State.clearMap s₁ p r) := by
  refine Fr.lift hw h₀ ?_
  have h : Fr 131943547014206 s₁ s₁ := Fr.refl
  clear h₀ hw
  first | rw [State.clearMap] | unfold State.clearMap
  repeat' first
    | with_reducible assumption
    | (intro x; refine_lift have hb : ∀ y, y = x → Fr 131943547014206 s₁ y := ?_; ?_; all_goals first | (have hx := hb x rfl; clear hb; clear_value x) | (intro y hy; unfold x at hy; rw [hy]; clear hy y))
    | (intro x; clear_value x)
    | (lift_lets; intro x; refine_lift have hb : ∀ y, y = x → Fr 131943547014206 s₁ y := ?_; ?_; all_goals first | (have hx := hb x rfl; clear hb; clear_value x) | (intro y hy; unfold x at hy; rw [hy]; clear hy y))
    | (lift_lets; intro x; clear_value x)
    | (with_reducible refine State.poke_frame ?_ rfl)
    | (with_reducible refine Fr.ite ?_ ?_)
    | (with_reducible exact Fr2.out (by assumption))
    | dsimp only
    | split

end Sys2Proof.Machine
end

