-- ==== Sys2Proof/Laws/FrameEland.lean ====
section
/-! SUPPORT. Frames of the functions of Machine/Eland.lean: which parts of the state each may change. -/

namespace Sys2Proof.Machine

theorem State.ticks_frame {k : Nat} {W : Nat} {s₀ s₁ : State} (h₀ : Fr W s₀ s₁) (hw : 256 &&& W = 256) :
    Fr W s₀ (State.ticks s₁ k) := by
  refine Fr.lift hw h₀ ?_
  have h : Fr 256 s₁ s₁ := Fr.refl
  clear h₀ hw
  first | rw [State.ticks] | unfold State.ticks
  repeat' first
    | with_reducible assumption
    | (with_reducible refine Fr.free ?_ rfl)

theorem State.drawU_frame {W : Nat} {s₀ s₁ : State} (h₀ : Fr W s₀ s₁) (hw : 131328 &&& W = 131328) :
    Fr2 W s₀ (State.drawU s₁) := by
  refine Fr2.lift hw h₀ ?_
  have h : Fr 131328 s₁ s₁ := Fr.refl
  clear h₀ hw
  first | rw [State.drawU] | unfold State.drawU
  repeat' first
    | with_reducible assumption
    | (with_reducible refine Fr2.pair ?_)
    | (with_reducible refine Fr2.ite ?_ ?_)
    | (intro x; refine_lift have hb : ∀ y, y = x → Fr 131328 s₁ y := ?_; ?_; all_goals first | (have hx := hb x rfl; clear hb; clear_value x) | (intro y hy; unfold x at hy; rw [hy]; clear hy y))
    | (intro x; clear_value x)
    | (lift_lets; intro x; refine_lift have hb : ∀ y, y = x → Fr 131328 s₁ y := ?_; ?_; all_goals first | (have hx := hb x rfl; clear hb; clear_value x) | (intro y hy; unfold x at hy; rw [hy]; clear hy y))
    | (lift_lets; intro x; clear_value x)
    | (with_reducible refine State.tick_frame ?_ rfl)
    | (with_reducible refine State.drawLane_frame ?_ rfl)
    | (with_reducible refine Fr2.out (State.drawLane_frame ?_ rfl))
    | (with_reducible refine Fr.ite ?_ ?_)
    | (with_reducible refine Fr.eq2 (by assumption) ?_)
    | (with_reducible refine Fr.eq22 (by assumption) ?_)
    | (with_reducible refine Fr.eq1 (by assumption) ?_)
    | (with_reducible exact Fr2.out (by assumption))
    | dsimp only
    | split

theorem State.drawFrom_frame {ps : List (Nat × Nat)} {W : Nat} {s₀ s₁ : State} (h₀ : Fr W s₀ s₁) (hw : 131328 &&& W = 131328) :
    Fr2 W s₀ (State.drawFrom s₁ ps) := by
  refine Fr2.lift hw h₀ ?_
  have h : Fr 131328 s₁ s₁ := Fr.refl
  clear h₀ hw
  first | rw [State.drawFrom] | unfold State.drawFrom
  repeat' first
    | with_reducible assumption
    | (with_reducible refine State.drawU_frame ?_ rfl)
    | (with_reducible refine Fr2.out (State.drawU_frame ?_ rfl))
    | (with_reducible refine State.ticks_frame ?_ rfl)
    | (with_reducible refine State.tick_frame ?_ rfl)
    | (with_reducible refine Fr2.pair ?_)

theorem State.setElStream_frame {e : ElStream} {W : Nat} {s₀ s₁ : State} (h₀ : Fr W s₀ s₁) (hw : 2097152 &&& W = 2097152) :
    Fr W s₀ (State.setElStream s₁ e) := by
  refine Fr.lift hw h₀ ?_
  have h : Fr 2097152 s₁ s₁ := Fr.refl
  clear h₀ hw
  first | rw [State.setElStream] | unfold State.setElStream
  repeat' first
    | with_reducible assumption
    | (lift_lets; intro x; clear_value x)
    | (with_reducible refine Fr.eland ?_ rfl)

theorem State.setElLaunch_frame {c : Nat} {l : ElLaunch} {W : Nat} {s₀ s₁ : State} (h₀ : Fr W s₀ s₁) (hw : 2097152 &&& W = 2097152) :
    Fr W s₀ (State.setElLaunch s₁ c l) := by
  refine Fr.lift hw h₀ ?_
  have h : Fr 2097152 s₁ s₁ := Fr.refl
  clear h₀ hw
  first | rw [State.setElLaunch] | unfold State.setElLaunch
  repeat' first
    | with_reducible assumption
    | (lift_lets; intro x; clear_value x)
    | (with_reducible refine Fr.eland ?_ rfl)

theorem State.elCount_frame {i : Nat} {x : Nat} {W : Nat} {s₀ s₁ : State} (h₀ : Fr W s₀ s₁) (hw : 2097152 &&& W = 2097152) :
    Fr W s₀ (State.elCount s₁ i x) := by
  refine Fr.lift hw h₀ ?_
  have h : Fr 2097152 s₁ s₁ := Fr.refl
  clear h₀ hw
  first | rw [State.elCount] | unfold State.elCount
  repeat' first
    | with_reducible assumption
    | (lift_lets; intro x; clear_value x)
    | (with_reducible refine Fr.eland ?_ rfl)

theorem State.appendHistory_frame {n : Nat} {toks : List Nat} {W : Nat} {s₀ s₁ : State} (h₀ : Fr W s₀ s₁) (hw : 131943548063038 &&& W = 131943548063038) :
    Fr W s₀ (State.appendHistory s₁ n toks) := by
  refine Fr.lift hw h₀ ?_
  have h : Fr 131943548063038 s₁ s₁ := Fr.refl
  clear h₀ hw
  first | rw [State.appendHistory] | unfold State.appendHistory
  repeat' first
    | with_reducible assumption
    | (intro x; refine_lift have hb : ∀ y, y = x → Fr 131943548063038 s₁ y := ?_; ?_; all_goals first | (have hx := hb x rfl; clear hb; clear_value x) | (intro y hy; unfold x at hy; rw [hy]; clear hy y))
    | (lift_lets; intro x; clear_value x)
    | (with_reducible refine State.poke_frame ?_ rfl)
    | (with_reducible refine State.setCx_frame ?_ rfl)
    | (with_reducible refine Fr.ite ?_ ?_)
    | (with_reducible refine Fr.foldl (fun z a h => ?_) ?_)

theorem State.runDraft_frame {n : Nat} {first : Nat} {pos : Nat} {tok : Nat} {W : Nat} {s₀ s₁ : State} (h₀ : Fr W s₀ s₁) (hw : 131943547014462 &&& W = 131943547014462) :
    Fr2 W s₀ (State.runDraft s₁ n first pos tok) := by
  refine Fr2.lift hw h₀ ?_
  have h : Fr 131943547014462 s₁ s₁ := Fr.refl
  clear h₀ hw
  first | rw [State.runDraft] | unfold State.runDraft
  repeat' first
    | with_reducible assumption
    | (with_reducible refine Fr2.pair ?_)
    | (with_reducible refine Fr2.ite ?_ ?_)
    | (intro x; refine_lift have hb : ∀ y, y = x → Fr 131943547014462 s₁ y := ?_; ?_; all_goals first | (have hx := hb x rfl; clear hb; clear_value x) | (intro y hy; unfold x at hy; rw [hy]; clear hy y))
    | (intro x; clear_value x)
    | (lift_lets; intro x; refine_lift have hb : ∀ y, y = x → Fr 131943547014462 s₁ y := ?_; ?_; all_goals first | (have hx := hb x rfl; clear hb; clear_value x) | (intro y hy; unfold x at hy; rw [hy]; clear hy y))
    | (lift_lets; intro x; clear_value x)
    | (with_reducible refine State.ticks_frame ?_ rfl)
    | (with_reducible refine State.poke_frame ?_ rfl)
    | (with_reducible refine Fr.ite ?_ ?_)
    | (with_reducible refine Fr.eq2 (by assumption) ?_)
    | (with_reducible refine Fr.eq22 (by assumption) ?_)
    | (with_reducible refine Fr.eq1 (by assumption) ?_)
    | (with_reducible refine Fr.eqo (by assumption) ?_)
    | (with_reducible refine Fr.eqo2 (by assumption) ?_)
    | (with_reducible refine Fr.eqo22 (by assumption) ?_)
    | (with_reducible exact Fr2.out (by assumption))
    | dsimp only
    | split

theorem State.buildDraft_frame {n : Nat} {first : Nat} {x0 : Nat} {x1 : List Nat} {W : Nat} {s₀ s₁ : State} (h₀ : Fr W s₀ s₁) (hw : 131943547014462 &&& W = 131943547014462) :
    Fr W s₀ (State.buildDraft n first x0 x1 s₁) := by
  refine Fr.lift hw h₀ ?_
  clear h₀ hw
  suffices main : ∀ (x1 : List Nat) (n : Nat) (first : Nat) (x0 : Nat) (z : State), Fr 131943547014462 s₁ z → Fr 131943547014462 s₁ (State.buildDraft n first x0 x1 z) from main x1 n first x0 s₁ Fr.refl
  intro x1
  induction x1 with
  | nil =>
    intro n first x0 z h
    first | rw [State.buildDraft] | unfold State.buildDraft
    repeat' first
      | with_reducible assumption
      | (with_reducible refine State.runDraft_frame ?_ rfl)
      | (with_reducible refine Fr2.out (State.runDraft_frame ?_ rfl))
      | (with_reducible refine Fr.ite ?_ ?_)
      | split
  | cons a l ih =>
    intro n first x0 z h
    first | rw [State.buildDraft] | unfold State.buildDraft
    repeat' first
      | with_reducible assumption
      | (with_reducible refine ih _ _ _ _ ?_)
      | (with_reducible refine State.runDraft_frame ?_ rfl)
      | (with_reducible refine Fr2.out (State.runDraft_frame ?_ rfl))
      | (with_reducible refine Fr.ite ?_ ?_)
      | split

theorem State.launchPort_frame {c : Nat} {l : ElLaunch} {p : Nat} {rec : List Byte} {W : Nat} {s₀ s₁ : State} (h₀ : Fr W s₀ s₁) (hw : 131943547014206 &&& W = 131943547014206) :
    Fr W s₀ (State.launchPort s₁ c l p rec) := by
  refine Fr.lift hw h₀ ?_
  have h : Fr 131943547014206 s₁ s₁ := Fr.refl
  clear h₀ hw
  first | rw [State.launchPort] | unfold State.launchPort
  repeat' first
    | with_reducible assumption
    | (intro x; refine_lift have hb : ∀ y, y = x → Fr 131943547014206 s₁ y := ?_; ?_; all_goals first | (have hx := hb x rfl; clear hb; clear_value x) | (intro y hy; unfold x at hy; rw [hy]; clear hy y))
    | (intro x; clear_value x)
    | (lift_lets; intro x; refine_lift have hb : ∀ y, y = x → Fr 131943547014206 s₁ y := ?_; ?_; all_goals first | (have hx := hb x rfl; clear hb; clear_value x) | (intro y hy; unfold x at hy; rw [hy]; clear hy y))
    | (lift_lets; intro x; clear_value x)
    | (with_reducible refine State.poke_frame ?_ rfl)
    | (with_reducible refine State.store_frame ?_ rfl)
    | (with_reducible refine Fr2.out (State.store_frame ?_ rfl))
    | (with_reducible refine State.emit_frame ?_ rfl)
    | (with_reducible refine Fr.ite ?_ ?_)
    | (with_reducible refine Fr.eq2 (by assumption) ?_)
    | (with_reducible refine Fr.eq22 (by assumption) ?_)
    | (with_reducible refine Fr.eq1 (by assumption) ?_)
    | (with_reducible refine Fr.eqo (by assumption) ?_)
    | (with_reducible refine Fr.eqo2 (by assumption) ?_)
    | (with_reducible refine Fr.eqo22 (by assumption) ?_)
    | (with_reducible exact Fr2.out (by assumption))
    | dsimp only
    | split

theorem State.readTails_frame {c : Nat} {l : ElLaunch} {rec : List Byte} {W : Nat} {s₀ s₁ : State} (h₀ : Fr W s₀ s₁) (hw : 96759174925370 &&& W = 96759174925370) :
    Fr22 W s₀ (State.readTails s₁ c l rec) := by
  refine Fr22.lift hw h₀ ?_
  have h : Fr 96759174925370 s₁ s₁ := Fr.refl
  clear h₀ hw
  first | rw [State.readTails] | unfold State.readTails
  repeat' first
    | with_reducible assumption
    | (lift_lets; intro x; refine_lift have hb : ∀ y, y = x → Fr22 96759174925370 s₁ y := ?_; ?_; all_goals first | (have hx := hb x rfl; clear hb; clear_value x) | (intro y hy; unfold x at hy; rw [hy]; clear hy y))
    | (with_reducible refine State.load_frame ?_ rfl)
    | (with_reducible refine Fr22.foldl (fun z a h => ?_) ?_)
    | (with_reducible exact Fr22.out (by assumption))
    | (with_reducible refine Fr22.pair ?_)

theorem State.sampleFrom_frame {ctl : ElCtl} {window : List Nat} {pos : List (Nat × Nat) × List Nat} {W : Nat} {s₀ s₁ : State} (h₀ : Fr W s₀ s₁) (hw : 131328 &&& W = 131328) :
    Fr2 W s₀ (State.sampleFrom s₁ ctl window pos) := by
  refine Fr2.lift hw h₀ ?_
  have h : Fr 131328 s₁ s₁ := Fr.refl
  clear h₀ hw
  first | rw [State.sampleFrom] | unfold State.sampleFrom
  repeat' first
    | with_reducible assumption
    | (with_reducible refine State.ticks_frame ?_ rfl)
    | (with_reducible refine State.drawFrom_frame ?_ rfl)
    | (with_reducible refine Fr.eq2 (by assumption) ?_)
    | split
    | (with_reducible refine Fr2.pair ?_)

theorem State.acceptOne_frame {l : ElLaunch} {ix : Nat} {e : ElEntry} {hist : List Nat} {j : Nat} {a : Accept} {W : Nat} {s₀ s₁ : State} (h₀ : Fr W s₀ s₁) (hw : 131328 &&& W = 131328) :
    Fr2 W s₀ (State.acceptOne s₁ l ix e hist j a) := by
  refine Fr2.lift hw h₀ ?_
  have h : Fr 131328 s₁ s₁ := Fr.refl
  clear h₀ hw
  first | rw [State.acceptOne] | unfold State.acceptOne
  repeat' first
    | with_reducible assumption
    | (with_reducible refine State.drawU_frame ?_ rfl)
    | (with_reducible refine Fr2.out (State.drawU_frame ?_ rfl))
    | (intro x; refine_lift have hb : ∀ y, y = x → Fr 131328 s₁ y := ?_; ?_; all_goals first | (have hx := hb x rfl; clear hb; clear_value x) | (intro y hy; unfold x at hy; rw [hy]; clear hy y))
    | (intro x; clear_value x)
    | (lift_lets; intro x; clear_value x)
    | (with_reducible refine State.ticks_frame ?_ rfl)
    | (with_reducible refine State.drawFrom_frame ?_ rfl)
    | (with_reducible refine State.tick_frame ?_ rfl)
    | (with_reducible refine Fr2.ite ?_ ?_)
    | (with_reducible refine Fr.eq2 (by assumption) ?_)
    | split
    | (with_reducible refine Fr2.pair ?_)

theorem State.acceptEntry_frame {l : ElLaunch} {ix : Nat} {e : ElEntry} {W : Nat} {s₀ s₁ : State} (h₀ : Fr W s₀ s₁) (hw : 131328 &&& W = 131328) :
    Fr2 W s₀ (State.acceptEntry s₁ l ix e) := by
  refine Fr2.lift hw h₀ ?_
  have h : Fr 131328 s₁ s₁ := Fr.refl
  clear h₀ hw
  first | rw [State.acceptEntry] | unfold State.acceptEntry
  repeat' first
    | with_reducible assumption
    | (lift_lets; intro x; clear_value x)
    | (with_reducible refine State.acceptOne_frame ?_ rfl)
    | (with_reducible refine State.sampleFrom_frame ?_ rfl)
    | (with_reducible refine Fr2.foldl (fun z a h => ?_) ?_)
    | (with_reducible refine Fr2.ite ?_ ?_)
    | (with_reducible exact Fr2.out (by assumption))
    | (with_reducible refine Fr2.out (Fr2.foldl (fun z a h => ?_) ?_))
    | (with_reducible refine Fr.eq2 (by assumption) ?_)
    | split
    | (with_reducible refine Fr2.pair ?_)

theorem State.postAdvances_frame {x0 : Nat} {W : Nat} {s₀ s₁ : State} (h₀ : Fr W s₀ s₁) (hw : 131943549111358 &&& W = 131943549111358) :
    Fr W s₀ (State.postAdvances x0 s₁) := by
  refine Fr.lift hw h₀ ?_
  clear h₀ hw
  suffices main : ∀ (x0 : Nat)  (z : State), Fr 131943549111358 s₁ z → Fr 131943549111358 s₁ (State.postAdvances x0 z) from main x0  s₁ Fr.refl
  intro x0
  induction x0 with
  | zero =>
    intro  z h
    first | rw [State.postAdvances] | unfold State.postAdvances
    repeat' first
      | with_reducible assumption
      | (intro x; refine_lift have hb : ∀ y, y = x → Fr 131943549111358 s₁ y := ?_; ?_; all_goals first | (have hx := hb x rfl; clear hb; clear_value x) | (intro y hy; unfold x at hy; rw [hy]; clear hy y))
      | (intro x; clear_value x)
      | (lift_lets; intro x; refine_lift have hb : ∀ y, y = x → Fr 131943549111358 s₁ y := ?_; ?_; all_goals first | (have hx := hb x rfl; clear hb; clear_value x) | (intro y hy; unfold x at hy; rw [hy]; clear hy y))
      | (lift_lets; intro x; clear_value x)
      | (with_reducible refine State.poke_frame ?_ rfl)
      | (with_reducible refine writeKvDoneDb_frame ?_ rfl)
      | (with_reducible refine Fr.ite ?_ ?_)
      | (with_reducible refine Fr.eq2 (by assumption) ?_)
      | (with_reducible refine Fr.eq22 (by assumption) ?_)
      | (with_reducible refine Fr.eq1 (by assumption) ?_)
      | (with_reducible refine Fr.eqo (by assumption) ?_)
      | (with_reducible refine Fr.eqo2 (by assumption) ?_)
      | (with_reducible refine Fr.eqo22 (by assumption) ?_)
      | (with_reducible exact Fr2.out (by assumption))
      | dsimp only
      | split
      | (with_reducible refine Fr.eland ?_ rfl)
  | succ n ih =>
    intro  z h
    first | rw [State.postAdvances] | unfold State.postAdvances
    repeat' first
      | with_reducible assumption
      | (with_reducible refine ih _ ?_)
      | (intro x; refine_lift have hb : ∀ y, y = x → Fr 131943549111358 s₁ y := ?_; ?_; all_goals first | (have hx := hb x rfl; clear hb; clear_value x) | (intro y hy; unfold x at hy; rw [hy]; clear hy y))
      | (intro x; clear_value x)
      | (lift_lets; intro x; refine_lift have hb : ∀ y, y = x → Fr 131943549111358 s₁ y := ?_; ?_; all_goals first | (have hx := hb x rfl; clear hb; clear_value x) | (intro y hy; unfold x at hy; rw [hy]; clear hy y))
      | (lift_lets; intro x; clear_value x)
      | (with_reducible refine State.poke_frame ?_ rfl)
      | (with_reducible refine writeKvDoneDb_frame ?_ rfl)
      | (with_reducible refine Fr.ite ?_ ?_)
      | (with_reducible refine Fr.eq2 (by assumption) ?_)
      | (with_reducible refine Fr.eq22 (by assumption) ?_)
      | (with_reducible refine Fr.eq1 (by assumption) ?_)
      | (with_reducible refine Fr.eqo (by assumption) ?_)
      | (with_reducible refine Fr.eqo2 (by assumption) ?_)
      | (with_reducible refine Fr.eqo22 (by assumption) ?_)
      | (with_reducible exact Fr2.out (by assumption))
      | dsimp only
      | split
      | (with_reducible refine Fr.eland ?_ rfl)

theorem State.postAdvance_frame {n : Nat} {tokens : Nat} {gen : Nat} {W : Nat} {s₀ s₁ : State} (h₀ : Fr W s₀ s₁) (hw : 131943549111358 &&& W = 131943549111358) :
    Fr W s₀ (State.postAdvance s₁ n tokens gen) := by
  refine Fr.lift hw h₀ ?_
  have h : Fr 131943549111358 s₁ s₁ := Fr.refl
  clear h₀ hw
  first | rw [State.postAdvance] | unfold State.postAdvance
  repeat' first
    | with_reducible assumption
    | (with_reducible refine State.postAdvances_frame ?_ rfl)
    | (with_reducible refine State.poke_frame ?_ rfl)
    | (with_reducible refine writeKvDoneDb_frame ?_ rfl)
    | (with_reducible refine Fr.eland ?_ rfl)

theorem State.elDetach_frame {n : Nat} {W : Nat} {s₀ s₁ : State} (h₀ : Fr W s₀ s₁) (hw : 131943550160190 &&& W = 131943550160190) :
    Fr W s₀ (State.elDetach s₁ n) := by
  refine Fr.lift hw h₀ ?_
  have h : Fr 131943550160190 s₁ s₁ := Fr.refl
  clear h₀ hw
  first | rw [State.elDetach] | unfold State.elDetach
  repeat' first
    | with_reducible assumption
    | (lift_lets; intro x; clear_value x)
    | (with_reducible refine State.setCx_frame ?_ rfl)
    | split
    | (with_reducible refine Fr.eland ?_ rfl)

theorem State.commitEntry_frame {c : Nat} {l : ElLaunch} {ix : Nat} {e : ElEntry} {W : Nat} {s₀ s₁ : State} (h₀ : Fr W s₀ s₁) (hw : 131943550291262 &&& W = 131943550291262) :
    Fr W s₀ (State.commitEntry s₁ c l ix e) := by
  refine Fr.lift hw h₀ ?_
  have h : Fr 131943550291262 s₁ s₁ := Fr.refl
  clear h₀ hw
  first | rw [State.commitEntry] | unfold State.commitEntry
  repeat' first
    | with_reducible assumption
    | (lift_lets; intro x; clear_value x)
    | (with_reducible refine State.appendHistory_frame ?_ rfl)
    | (with_reducible refine State.elCount_frame ?_ rfl)
    | (with_reducible refine State.postAdvance_frame ?_ rfl)
    | (with_reducible refine State.setCx_frame ?_ rfl)
    | (with_reducible refine Fr.ite ?_ ?_)
    | (with_reducible refine Fr2.out (State.acceptEntry_frame ?_ rfl))
    | split
    | (with_reducible refine Fr.eland ?_ rfl)

theorem State.countPositions_frame {l : ElLaunch} {W : Nat} {s₀ s₁ : State} (h₀ : Fr W s₀ s₁) (hw : 2097408 &&& W = 2097408) :
    Fr W s₀ (State.countPositions s₁ l) := by
  refine Fr.lift hw h₀ ?_
  have h : Fr 2097408 s₁ s₁ := Fr.refl
  clear h₀ hw
  first | rw [State.countPositions] | unfold State.countPositions
  repeat' first
    | with_reducible assumption
    | (intro x; clear_value x)
    | (lift_lets; intro x; clear_value x)
    | (with_reducible refine State.elCount_frame ?_ rfl)
    | (with_reducible refine State.ticks_frame ?_ rfl)
    | (with_reducible refine Fr.ite ?_ ?_)
    | (with_reducible refine Fr.foldl (fun z a h => ?_) ?_)
    | split

theorem State.samplerScratch_frame {l : ElLaunch} {W : Nat} {s₀ s₁ : State} (h₀ : Fr W s₀ s₁) (hw : 292 &&& W = 292) :
    Fr W s₀ (State.samplerScratch s₁ l) := by
  refine Fr.lift hw h₀ ?_
  have h : Fr 292 s₁ s₁ := Fr.refl
  clear h₀ hw
  first | rw [State.samplerScratch] | unfold State.samplerScratch
  repeat' first
    | with_reducible assumption
    | (intro x; refine_lift have hb : ∀ y, y = x → Fr 292 s₁ y := ?_; ?_; all_goals first | (have hx := hb x rfl; clear hb; clear_value x) | (intro y hy; unfold x at hy; rw [hy]; clear hy y))
    | (intro x; clear_value x)
    | (lift_lets; intro x; refine_lift have hb : ∀ y, y = x → Fr 292 s₁ y := ?_; ?_; all_goals first | (have hx := hb x rfl; clear hb; clear_value x) | (intro y hy; unfold x at hy; rw [hy]; clear hy y))
    | (lift_lets; intro x; clear_value x)
    | (with_reducible refine State.putBytes_frame ?_ rfl)
    | (with_reducible refine State.tick_frame ?_ rfl)
    | (with_reducible refine Fr.foldl (fun z a h => ?_) ?_)
    | (with_reducible refine Fr.ite ?_ ?_)
    | (with_reducible refine Fr.eq2 (by assumption) ?_)
    | (with_reducible refine Fr.eq22 (by assumption) ?_)
    | (with_reducible refine Fr.eq1 (by assumption) ?_)
    | (with_reducible refine Fr.eqo (by assumption) ?_)
    | (with_reducible refine Fr.eqo2 (by assumption) ?_)
    | (with_reducible refine Fr.eqo22 (by assumption) ?_)
    | (with_reducible exact Fr2.out (by assumption))
    | dsimp only
    | split

theorem State.draftOne_frame {e : ElStream} {W : Nat} {s₀ s₁ : State} (h₀ : Fr W s₀ s₁) (hw : 131943549242686 &&& W = 131943549242686) :
    Fr W s₀ (State.draftOne s₁ e) := by
  refine Fr.lift hw h₀ ?_
  have h : Fr 131943549242686 s₁ s₁ := Fr.refl
  clear h₀ hw
  first | rw [State.draftOne] | unfold State.draftOne
  repeat' first
    | with_reducible assumption
    | (intro x; refine_lift have hb : ∀ y, y = x → Fr 131943549242686 s₁ y := ?_; ?_; all_goals first | (have hx := hb x rfl; clear hb; clear_value x) | (intro y hy; unfold x at hy; rw [hy]; clear hy y))
    | (intro x; clear_value x)
    | (lift_lets; intro x; refine_lift have hb : ∀ y, y = x → Fr 131943549242686 s₁ y := ?_; ?_; all_goals first | (have hx := hb x rfl; clear hb; clear_value x) | (intro y hy; unfold x at hy; rw [hy]; clear hy y))
    | (lift_lets; intro x; clear_value x)
    | (with_reducible refine State.runDraft_frame ?_ rfl)
    | (with_reducible refine Fr2.out (State.runDraft_frame ?_ rfl))
    | (with_reducible refine State.ticks_frame ?_ rfl)
    | (with_reducible refine State.drawFrom_frame ?_ rfl)
    | (with_reducible refine Fr2.out (State.drawFrom_frame ?_ rfl))
    | (with_reducible refine State.setElStream_frame ?_ rfl)
    | (with_reducible refine Fr.ite ?_ ?_)
    | (with_reducible refine Fr.eq2 (by assumption) ?_)
    | (with_reducible refine Fr.eq22 (by assumption) ?_)
    | (with_reducible refine Fr.eq1 (by assumption) ?_)
    | (with_reducible exact Fr2.out (by assumption))
    | dsimp only
    | split

theorem State.releaseRecord_frame {r : ElRecord} {W : Nat} {s₀ s₁ : State} (h₀ : Fr W s₀ s₁) (hw : 131943818595646 &&& W = 131943818595646) :
    Fr W s₀ (State.releaseRecord s₁ r) := by
  refine Fr.lift hw h₀ ?_
  have h : Fr 131943818595646 s₁ s₁ := Fr.refl
  clear h₀ hw
  first | rw [State.releaseRecord] | unfold State.releaseRecord
  repeat' first
    | with_reducible assumption
    | (intro x; refine_lift have hb : ∀ y, y = x → Fr 131943818595646 s₁ y := ?_; ?_; all_goals first | (have hx := hb x rfl; clear hb; clear_value x) | (intro y hy; unfold x at hy; rw [hy]; clear hy y))
    | (intro x; clear_value x)
    | (lift_lets; intro x; clear_value x)
    | (with_reducible refine State.elDetach_frame ?_ rfl)
    | (with_reducible refine State.event_frame ?_ rfl)
    | (with_reducible refine Fr.ite ?_ ?_)
    | (with_reducible refine Fr.chanQ ?_ rfl)

theorem State.fwTarget_frame {k : Nat} {target : Nat} {retain : Option Nat} {W : Nat} {s₀ s₁ : State} (h₀ : Fr W s₀ s₁) (hw : 96759171124282 &&& W = 96759171124282) :
    Fr W s₀ (State.fwTarget s₁ k target retain) := by
  refine Fr.lift hw h₀ ?_
  have h : Fr 96759171124282 s₁ s₁ := Fr.refl
  clear h₀ hw
  first | rw [State.fwTarget] | unfold State.fwTarget
  repeat' first
    | with_reducible assumption
    | (intro x; clear_value x)
    | (lift_lets; intro x; clear_value x)
    | (with_reducible refine writeCluPctl_frame ?_ rfl)

theorem State.wakeForDraft_frame {k : Nat} {W : Nat} {s₀ s₁ : State} (h₀ : Fr W s₀ s₁) (hw : 96759171124542 &&& W = 96759171124542) :
    Fr W s₀ (State.wakeForDraft s₁ k) := by
  refine Fr.lift hw h₀ ?_
  have h : Fr 96759171124542 s₁ s₁ := Fr.refl
  clear h₀ hw
  first | rw [State.wakeForDraft] | unfold State.wakeForDraft
  repeat' first
    | with_reducible assumption
    | (intro x; refine_lift have hb : ∀ y, y = x → Fr 96759171124542 s₁ y := ?_; ?_; all_goals first | (have hx := hb x rfl; clear hb; clear_value x) | (intro y hy; unfold x at hy; rw [hy]; clear hy y))
    | (intro x; clear_value x)
    | (lift_lets; intro x; refine_lift have hb : ∀ y, y = x → Fr 96759171124542 s₁ y := ?_; ?_; all_goals first | (have hx := hb x rfl; clear hb; clear_value x) | (intro y hy; unfold x at hy; rw [hy]; clear hy y))
    | (lift_lets; intro x; clear_value x)
    | (with_reducible refine State.fwTarget_frame ?_ rfl)
    | (with_reducible refine State.wakeDone_frame ?_ rfl)
    | (with_reducible refine Fr.ite ?_ ?_)
    | (with_reducible exact Fr2.out (by assumption))
    | dsimp only
    | split

theorem State.setSampler_frame {n : Nat} {f : SamplerSpec} {maxTokens : Nat} {stops : List (BitVec 32)} {W : Nat} {s₀ s₁ : State} (h₀ : Fr W s₀ s₁) (hw : 131943548063038 &&& W = 131943548063038) :
    Fr W s₀ (State.setSampler s₁ n f maxTokens stops) := by
  refine Fr.lift hw h₀ ?_
  have h : Fr 131943548063038 s₁ s₁ := Fr.refl
  clear h₀ hw
  first | rw [State.setSampler] | unfold State.setSampler
  repeat' first
    | with_reducible assumption
    | (with_reducible refine State.setCx_frame ?_ rfl)
    | (with_reducible refine Fr.foldl (fun z a h => ?_) ?_)

theorem State.onElStream_frame {n : Nat} {gen : Nat} {f : State → State × Nat × List Byte} {W : Nat} {s₀ s₁ : State} (h : Fr W s₀ s₁) (hf : ∀ z, Fr W s₀ z → Fr1 W s₀ (f z)) (hw : 131943548063038 &&& W = 131943548063038) :
    Fr1 W s₀ (State.onElStream s₁ n gen f) := by
  first | rw [State.onElStream] | unfold State.onElStream
  repeat' first
    | with_reducible assumption
    | (with_reducible refine hf _ ?_)
    | (with_reducible refine State.fetchCtx_frame ?_ (Fr.sub rfl hw))
    | (with_reducible refine refuse_frame ?_ (Fr.sub rfl hw))
    | (with_reducible refine Fr1.ite ?_ ?_)

end Sys2Proof.Machine
end

