-- ==== Sys2Proof/Laws/FramePacket.lean ====
section
/-! SUPPORT. Frames of the functions of Machine/Packet.lean: which parts of the state each may change. -/

namespace Sys2Proof.Machine

/-- As `Fr` for a step of the receive stages. -/
def FrX (W : Nat) (s₀ : State) : RxStep → Prop
  | .gone t => Fr W s₀ t
  | .full t => Fr W s₀ t
  | .release t _ => Fr W s₀ t
  | .need _ _ => True
theorem FrX.lift {w W : Nat} {s₀ s : State} {d : RxStep} (hw : w &&& W = w) (h : Fr W s₀ s) (g : FrX w s d) : FrX W s₀ d := by
  cases d <;> first | trivial | exact Fr.lift hw h g
theorem FrX.gone {W : Nat} {s₀ t : State} (h : Fr W s₀ t) : FrX W s₀ (.gone t) := h
theorem FrX.release {W : Nat} {s₀ t : State} {k : List Byte} (h : Fr W s₀ t) : FrX W s₀ (.release t k) := h
theorem FrX.full {W : Nat} {s₀ t : State} (h : Fr W s₀ t) : FrX W s₀ (.full t) := h
theorem FrX.need {W a b : Nat} {s₀ : State} : FrX W s₀ (.need a b) := trivial
theorem Fr.ofGone {W : Nat} {s₀ t : State} {d : RxStep} (e : d = .gone t) (h : FrX W s₀ d) : Fr W s₀ t := by subst e; exact h
theorem Fr.ofFull {W : Nat} {s₀ t : State} {d : RxStep} (e : d = .full t) (h : FrX W s₀ d) : Fr W s₀ t := by subst e; exact h
theorem Fr.ofRelease {W : Nat} {s₀ t : State} {k : List Byte} {d : RxStep} (e : d = .release t k) (h : FrX W s₀ d) : Fr W s₀ t := by
  subst e; exact h

theorem State.pktRefusal_frame {c : Nat} {W : Nat} {s₀ s₁ : State} (h₀ : Fr W s₀ s₁) (hw : 2 &&& W = 2) :
    Fr W s₀ (State.pktRefusal s₁ c) := by
  refine Fr.lift hw h₀ ?_
  have h : Fr 2 s₁ s₁ := Fr.refl
  clear h₀ hw
  first | rw [State.pktRefusal] | unfold State.pktRefusal
  repeat' first
    | with_reducible assumption
    | (with_reducible refine State.sf_frame ?_ rfl)

theorem State.cacheEntry_frame {k : Nat × Nat × Nat} {e : List Byte} {W : Nat} {s₀ s₁ : State} (h₀ : Fr W s₀ s₁) (hw : 134217984 &&& W = 134217984) :
    Fr W s₀ (State.cacheEntry s₁ k e) := by
  refine Fr.lift hw h₀ ?_
  have h : Fr 134217984 s₁ s₁ := Fr.refl
  clear h₀ hw
  first | rw [State.cacheEntry] | unfold State.cacheEntry
  repeat' first
    | with_reducible assumption
    | (lift_lets; intro x; clear_value x)
    | (with_reducible refine State.tick_frame ?_ rfl)
    | split
    | (with_reducible refine Fr.pkt ?_ rfl)

theorem State.fetchBucket_frame {bank : Nat} {t : Nat} {bkt : Nat} {d : List Byte} {W : Nat} {s₀ s₁ : State} (h₀ : Fr W s₀ s₁) (hw : 96759309143354 &&& W = 96759309143354) :
    Fr W s₀ (State.fetchBucket s₁ bank t bkt d) := by
  refine Fr.lift hw h₀ ?_
  have h : Fr 96759309143354 s₁ s₁ := Fr.refl
  clear h₀ hw
  first | rw [State.fetchBucket] | unfold State.fetchBucket
  repeat' first
    | with_reducible assumption
    | (with_reducible refine State.load_frame ?_ rfl)
    | (with_reducible refine Fr22.out (State.load_frame ?_ rfl))
    | (with_reducible refine State.cacheEntry_frame ?_ rfl)
    | (with_reducible refine Fr.foldl (fun z a h => ?_) ?_)

theorem State.pktCount_frame {i : Nat} {len : Nat} {W : Nat} {s₀ s₁ : State} (h₀ : Fr W s₀ s₁) (hw : 131943547014206 &&& W = 131943547014206) :
    Fr W s₀ (State.pktCount s₁ i len) := by
  refine Fr.lift hw h₀ ?_
  have h : Fr 131943547014206 s₁ s₁ := Fr.refl
  clear h₀ hw
  first | rw [State.pktCount] | unfold State.pktCount
  repeat' first
    | with_reducible assumption
    | (with_reducible refine State.poke_frame ?_ rfl)

theorem State.pktEvent_frame {f : Fd} {W : Nat} {s₀ s₁ : State} (h₀ : Fr W s₀ s₁) (hw : 2 &&& W = 2) :
    Fr W s₀ (State.pktEvent s₁ f) := by
  refine Fr.lift hw h₀ ?_
  have h : Fr 2 s₁ s₁ := Fr.refl
  clear h₀ hw
  first | rw [State.pktEvent] | unfold State.pktEvent
  repeat' first
    | with_reducible assumption
    | (with_reducible refine State.cnt_frame ?_ rfl)

theorem State.pktEvent2_frame {f : Fd} {W : Nat} {s₀ s₁ : State} (h₀ : Fr W s₀ s₁) (hw : 2 &&& W = 2) :
    Fr W s₀ (State.pktEvent2 s₁ f) := by
  refine Fr.lift hw h₀ ?_
  have h : Fr 2 s₁ s₁ := Fr.refl
  clear h₀ hw
  first | rw [State.pktEvent2] | unfold State.pktEvent2
  repeat' first
    | with_reducible assumption
    | (with_reducible refine State.cnt_frame ?_ rfl)

/-- As `Fr` for a delivery. -/
def FrDel (W : Nat) (s₀ : State) (d : Delivery) : Prop := ∀ t, d = .done t → Fr W s₀ t
theorem FrDel.lift {w W : Nat} {s₀ s : State} {d : Delivery} (hw : w &&& W = w) (h : Fr W s₀ s) (g : FrDel w s d) : FrDel W s₀ d :=
  fun t e => Fr.lift hw h (g t e)
theorem FrDel.done {W : Nat} {s₀ t : State} (h : Fr W s₀ t) : FrDel W s₀ (.done t) := by intro u e; cases e; exact h
theorem FrDel.full {W : Nat} {s₀ : State} : FrDel W s₀ .full := by intro u e; cases e
theorem Fr.ofDel {W : Nat} {s₀ t : State} {d : Delivery} (e : d = .done t) (h : FrDel W s₀ d) : Fr W s₀ t := h t e

theorem State.deliverTo_frame {h : List Byte} {p : Parsed} {fr : PktFrame} {f : List Byte} {prio : Nat} {dest : Nat} {W : Nat} {s₀ s₁ : State} (h₀ : Fr W s₀ s₁) (hw : 15040776226 &&& W = 15040776226) :
    FrDel W s₀ (State.deliverTo s₁ h p fr f prio dest) := by
  refine FrDel.lift hw h₀ ?_
  have h : Fr 15040776226 s₁ s₁ := Fr.refl
  clear h₀ hw
  unfold State.deliverTo
  repeat' first
    | with_reducible assumption
    | (exact FrDel.full)
    | (with_reducible refine FrDel.done ?_)
    | dsimp only
    | (with_reducible refine State.pktEvent_frame ?_ rfl)
    | (with_reducible refine State.iqDone_frame ?_ rfl)
    | (with_reducible refine State.iqComplete_frame ?_ rfl)
    | (with_reducible refine State.takeBuffer_frame ?_ rfl)
    | (with_reducible refine State.instWrite_frame ?_ rfl)
    | (with_reducible refine State.trnDiscard_frame ?_ rfl)
    | (with_reducible refine State.deliver_frame ?_ rfl)
    | (with_reducible refine Fr.ite ?_ ?_)
    | (with_reducible refine Fr.getD ?_ ?_)
    | (with_reducible refine Fr.foldl (fun z a h => ?_) ?_)
    | (with_reducible refine Fr.eqo (by assumption) ?_)
    | (with_reducible refine Fr.eqo2 (by assumption) ?_)
    | (with_reducible refine Fr.eqo22 (by assumption) ?_)
    | (exact FrO.get (by assumption))
    | split
    | dsimp only

theorem State.setFrags_frame {l : List FragEntry} {W : Nat} {s₀ s₁ : State} (h₀ : Fr W s₀ s₁) (hw : 134217730 &&& W = 134217730) :
    Fr W s₀ (State.setFrags s₁ l) := by
  refine Fr.lift hw h₀ ?_
  have h : Fr 134217730 s₁ s₁ := Fr.refl
  clear h₀ hw
  first | rw [State.setFrags] | unfold State.setFrags
  repeat' first
    | with_reducible assumption
    | (lift_lets; intro x; clear_value x)
    | (with_reducible refine State.sf_frame ?_ rfl)
    | (with_reducible refine Fr.pkt ?_ rfl)

theorem State.fragProgress_frame {e : FragEntry} {off : Nat} {len : Nat} {more : Bool} {W : Nat} {s₀ s₁ : State} (h₀ : Fr W s₀ s₁) (hw : 134217730 &&& W = 134217730) :
    Fr W s₀ (State.fragProgress s₁ e off len more) := by
  refine Fr.lift hw h₀ ?_
  have h : Fr 134217730 s₁ s₁ := Fr.refl
  clear h₀ hw
  first | rw [State.fragProgress] | unfold State.fragProgress
  repeat' first
    | with_reducible assumption
    | (with_reducible refine State.setFrags_frame ?_ rfl)
    | (with_reducible refine Fr.ite ?_ ?_)

theorem State.police_frame {o : Outcome} {prio : Nat} {W : Nat} {s₀ s₁ : State} (h₀ : Fr W s₀ s₁) (hw : 67108866 &&& W = 67108866) :
    Fr2 W s₀ (State.police s₁ o prio) := by
  refine Fr2.lift hw h₀ ?_
  have h : Fr 67108866 s₁ s₁ := Fr.refl
  clear h₀ hw
  first | rw [State.police] | unfold State.police
  repeat' first
    | with_reducible assumption
    | (lift_lets; intro x; refine_lift have hb : ∀ y, y = x → Fr 67108866 s₁ y := ?_; ?_; all_goals first | (have hx := hb x rfl; clear hb; clear_value x) | (intro y hy; unfold x at hy; rw [hy]; clear hy y))
    | (with_reducible refine State.setBucket_frame ?_ rfl)
    | (with_reducible refine State.cnt_frame ?_ rfl)
    | (with_reducible refine Fr2.ite ?_ ?_)
    | split
    | (with_reducible refine Fr2.pair ?_)

theorem State.applyOutcome_frame {b : PktBank} {p : Parsed} {fr : PktFrame} {o : Outcome} {W : Nat} {s₀ s₁ : State} (h₀ : Fr W s₀ s₁) (hw : 131956507413566 &&& W = 131956507413566) :
    Fr2 W s₀ (State.applyOutcome s₁ b p fr o) := by
  refine Fr2.lift hw h₀ ?_
  have h : Fr 131956507413566 s₁ s₁ := Fr.refl
  clear h₀ hw
  first | rw [State.applyOutcome] | unfold State.applyOutcome
  repeat' first
    | with_reducible assumption
    | (with_reducible refine Fr.ofDel (by assumption) ?_)
    | (with_reducible refine State.deliverTo_frame ?_ rfl)
    | (with_reducible refine Fr2.pair ?_)
    | (with_reducible refine Fr2.ite ?_ ?_)
    | (with_reducible refine State.pktEvent2_frame ?_ rfl)
    | (with_reducible refine State.police_frame ?_ rfl)
    | (with_reducible refine Fr2.out (State.police_frame ?_ rfl))
    | (with_reducible refine State.pktCount_frame ?_ rfl)
    | (with_reducible refine Fr.foldl (fun z a h => ?_) ?_)
    | (with_reducible refine Fr.eq2 (by assumption) ?_)
    | split

theorem State.rxStep_frame {fr : PktFrame} {W : Nat} {s₀ s₁ : State} (h₀ : Fr W s₀ s₁) (hw : 131956641631294 &&& W = 131956641631294) :
    FrX W s₀ (State.rxStep s₁ fr) := by
  refine FrX.lift hw h₀ ?_
  have h : Fr 131956641631294 s₁ s₁ := Fr.refl
  clear h₀ hw
  unfold State.rxStep
  repeat' first
    | with_reducible assumption
    | (with_reducible refine FrX.full ?_)
    | (with_reducible refine Fr.eq2 (by assumption) ?_)
    | (exact FrX.need)
    | (with_reducible refine FrX.gone ?_)
    | (with_reducible refine FrX.release ?_)
    | dsimp only
    | (with_reducible refine State.pktEvent_frame ?_ rfl)
    | (with_reducible refine State.pktEvent2_frame ?_ rfl)
    | (with_reducible refine State.fragProgress_frame ?_ rfl)
    | (with_reducible refine State.applyOutcome_frame ?_ rfl)
    | (with_reducible refine Fr.ite ?_ ?_)
    | (with_reducible refine Fr.getD ?_ ?_)
    | (with_reducible refine Fr.foldl (fun z a h => ?_) ?_)
    | (with_reducible refine Fr.eqo (by assumption) ?_)
    | (with_reducible refine Fr.eqo2 (by assumption) ?_)
    | (with_reducible refine Fr.eqo22 (by assumption) ?_)
    | (exact FrO.get (by assumption))
    | split
    | dsimp only
    | (with_reducible refine Fr.pkt ?_ rfl)

theorem State.dropRx_frame {fr : PktFrame} {W : Nat} {s₀ s₁ : State} (h₀ : Fr W s₀ s₁) (hw : 142607360 &&& W = 142607360) :
    Fr W s₀ (State.dropRx s₁ fr) := by
  refine Fr.lift hw h₀ ?_
  have h : Fr 142607360 s₁ s₁ := Fr.refl
  clear h₀ hw
  first | rw [State.dropRx] | unfold State.dropRx
  repeat' first
    | with_reducible assumption
    | (lift_lets; intro x; clear_value x)
    | (with_reducible refine State.takeFrame_frame ?_ rfl)
    | (with_reducible refine Fr.getD ?_ ?_)
    | (with_reducible refine Fr.pkt ?_ rfl)

theorem State.rxPump_frame {port : Nat} {prio : Nat} {x2 : Nat} {W : Nat} {s₀ s₁ : State} (h₀ : Fr W s₀ s₁) (hw : 131956641631294 &&& W = 131956641631294) :
    Fr W s₀ (State.rxPump port prio x2 s₁) := by
  refine Fr.lift hw h₀ ?_
  clear h₀ hw
  suffices main : ∀ (x2 : Nat) (port : Nat) (prio : Nat) (z : State), Fr 131956641631294 s₁ z → Fr 131956641631294 s₁ (State.rxPump port prio x2 z) from main x2 port prio s₁ Fr.refl
  intro x2
  induction x2 with
  | zero =>
    intro port prio z h
    first | rw [State.rxPump] | unfold State.rxPump
    repeat' first
      | with_reducible assumption
      | (with_reducible refine Fr.ofGone (by assumption) ?_)
      | (with_reducible refine Fr.ofFull (by assumption) ?_)
      | (with_reducible refine Fr.ofRelease (by assumption) ?_)
      | (with_reducible refine State.rxStep_frame ?_ rfl)
      | (lift_lets; intro x; clear_value x)
      | (with_reducible refine ih _ _ _ ?_)
      | (with_reducible refine State.dropRx_frame ?_ rfl)
      | split
      | dsimp only
      | (with_reducible refine Fr.pkt ?_ rfl)
  | succ n ih =>
    intro port prio z h
    first | rw [State.rxPump] | unfold State.rxPump
    repeat' first
      | with_reducible assumption
      | (with_reducible refine Fr.ofGone (by assumption) ?_)
      | (with_reducible refine Fr.ofFull (by assumption) ?_)
      | (with_reducible refine Fr.ofRelease (by assumption) ?_)
      | (with_reducible refine State.rxStep_frame ?_ rfl)
      | (lift_lets; intro x; clear_value x)
      | (with_reducible refine ih _ _ _ ?_)
      | (with_reducible refine State.dropRx_frame ?_ rfl)
      | split
      | dsimp only
      | (with_reducible refine Fr.pkt ?_ rfl)

theorem State.pktPump_frame {W : Nat} {s₀ s₁ : State} (h₀ : Fr W s₀ s₁) (hw : 131956641631294 &&& W = 131956641631294) :
    Fr W s₀ (State.pktPump s₁) := by
  refine Fr.lift hw h₀ ?_
  have h : Fr 131956641631294 s₁ s₁ := Fr.refl
  clear h₀ hw
  first | rw [State.pktPump] | unfold State.pktPump
  repeat' first
    | with_reducible assumption
    | (with_reducible refine State.rxPump_frame ?_ rfl)
    | (with_reducible refine Fr.foldl (fun z a h => ?_) ?_)

theorem State.ethIn_frame {p : Nat} {f : List Byte} {W : Nat} {s₀ s₁ : State} (h₀ : Fr W s₀ s₁) (hw : 131956641631294 &&& W = 131956641631294) :
    Fr W s₀ (State.ethIn s₁ p f) := by
  refine Fr.lift hw h₀ ?_
  have h : Fr 131956641631294 s₁ s₁ := Fr.refl
  clear h₀ hw
  first | rw [State.ethIn] | unfold State.ethIn
  repeat' first
    | with_reducible assumption
    | (intro x; clear_value x)
    | (lift_lets; intro x; clear_value x)
    | (with_reducible refine State.pfcUpdate_frame ?_ rfl)
    | (with_reducible refine State.setFp_frame ?_ rfl)
    | (with_reducible refine State.discardFrame_frame ?_ rfl)
    | (with_reducible refine State.msecReceive_frame ?_ rfl)
    | (with_reducible refine State.deliver_frame ?_ rfl)
    | (with_reducible refine State.rxPump_frame ?_ rfl)
    | (with_reducible refine Fr.ite ?_ ?_)
    | (with_reducible refine Fr.eq2 (by assumption) ?_)
    | split
    | dsimp only
    | (with_reducible refine Fr.pkt ?_ rfl)

theorem State.ethUnstall_frame {p : Nat} {W : Nat} {s₀ s₁ : State} (h₀ : Fr W s₀ s₁) (hw : 131956641631294 &&& W = 131956641631294) :
    Fr W s₀ (State.ethUnstall s₁ p) := by
  refine Fr.lift hw h₀ ?_
  have h : Fr 131956641631294 s₁ s₁ := Fr.refl
  clear h₀ hw
  first | rw [State.ethUnstall] | unfold State.ethUnstall
  repeat' first
    | with_reducible assumption
    | (lift_lets; intro x; clear_value x)
    | (with_reducible refine State.setFp_frame ?_ rfl)
    | (with_reducible refine State.ethIn_frame ?_ rfl)
    | (with_reducible refine Fr.foldl (fun z a h => ?_) ?_)

theorem State.keepTx_frame {x : TxFrame} {y : TxFrame} {W : Nat} {s₀ s₁ : State} (h₀ : Fr W s₀ s₁) (hw : 134217728 &&& W = 134217728) :
    Fr W s₀ (State.keepTx s₁ x y) := by
  refine Fr.lift hw h₀ ?_
  have h : Fr 134217728 s₁ s₁ := Fr.refl
  clear h₀ hw
  first | rw [State.keepTx] | unfold State.keepTx
  repeat' first
    | with_reducible assumption
    | (lift_lets; intro x; clear_value x)
    | (with_reducible refine Fr.pkt ?_ rfl)

theorem State.dropTx_frame {x : TxFrame} {W : Nat} {s₀ s₁ : State} (h₀ : Fr W s₀ s₁) (hw : 134217728 &&& W = 134217728) :
    Fr W s₀ (State.dropTx s₁ x) := by
  refine Fr.lift hw h₀ ?_
  have h : Fr 134217728 s₁ s₁ := Fr.refl
  clear h₀ hw
  first | rw [State.dropTx] | unfold State.dropTx
  repeat' first
    | with_reducible assumption
    | (lift_lets; intro x; clear_value x)
    | (with_reducible refine Fr.pkt ?_ rfl)

theorem State.gateTx_frame {x : TxFrame} {W : Nat} {s₀ s₁ : State} (h₀ : Fr W s₀ s₁) (hw : 402653186 &&& W = 402653186) :
    Fr W s₀ (State.gateTx s₁ x) := by
  refine Fr.lift hw h₀ ?_
  have h : Fr 402653186 s₁ s₁ := Fr.refl
  clear h₀ hw
  first | rw [State.gateTx] | unfold State.gateTx
  repeat' first
    | with_reducible assumption
    | (lift_lets; intro x; refine_lift have hb : ∀ y, y = x → Fr 402653186 s₁ y := ?_; ?_; all_goals first | (have hx := hb x rfl; clear hb; clear_value x) | (intro y hy; unfold x at hy; rw [hy]; clear hy y))
    | (with_reducible refine State.dropTx_frame ?_ rfl)
    | (with_reducible refine State.cnt_frame ?_ rfl)
    | (with_reducible refine Fr.chanQ ?_ rfl)
    | (with_reducible refine Fr.upd_pkt_chanQ ?_ rfl rfl)

theorem State.giveToken_frame {u : Nat} {W : Nat} {s₀ s₁ : State} (h₀ : Fr W s₀ s₁) (hw : 8732540928 &&& W = 8732540928) :
    Fr W s₀ (State.giveToken s₁ u) := by
  refine Fr.lift hw h₀ ?_
  have h : Fr 8732540928 s₁ s₁ := Fr.refl
  clear h₀ hw
  first | rw [State.giveToken] | unfold State.giveToken
  repeat' first
    | with_reducible assumption
    | (intro x; refine_lift have hb : ∀ y, y = x → Fr 8732540928 s₁ y := ?_; ?_; all_goals first | (have hx := hb x rfl; clear hb; clear_value x) | (intro y hy; unfold x at hy; rw [hy]; clear hy y))
    | (intro x; clear_value x)
    | (lift_lets; intro x; refine_lift have hb : ∀ y, y = x → Fr 8732540928 s₁ y := ?_; ?_; all_goals first | (have hx := hb x rfl; clear hb; clear_value x) | (intro y hy; unfold x at hy; rw [hy]; clear hy y))
    | (lift_lets; intro x; clear_value x)
    | (with_reducible refine State.keepTx_frame ?_ rfl)
    | (with_reducible refine State.transmit_frame ?_ rfl)
    | (with_reducible refine State.setIq_frame ?_ rfl)
    | (with_reducible refine Fr.ite ?_ ?_)
    | (with_reducible refine Fr.eq2 (by assumption) ?_)
    | (with_reducible refine Fr.eq22 (by assumption) ?_)
    | (with_reducible refine Fr.eq1 (by assumption) ?_)
    | (with_reducible refine Fr.eqo (by assumption) ?_)
    | (with_reducible refine Fr.eqo2 (by assumption) ?_)
    | (with_reducible refine Fr.eqo22 (by assumption) ?_)
    | (with_reducible exact Fr2.out (by assumption))
    | dsimp only
    | split

theorem State.askShaper_frame {i : Nat} {u : Nat} {x0 : Nat} {W : Nat} {s₀ s₁ : State} (h₀ : Fr W s₀ s₁) (hw : 8799650240 &&& W = 8799650240) :
    Fr W s₀ (State.askShaper i u x0 s₁) := by
  refine Fr.lift hw h₀ ?_
  clear h₀ hw
  suffices main : ∀ (x0 : Nat) (i : Nat) (u : Nat) (z : State), Fr 8799650240 s₁ z → Fr 8799650240 s₁ (State.askShaper i u x0 z) from main x0 i u s₁ Fr.refl
  intro x0
  induction x0 with
  | zero =>
    intro i u z h
    first | rw [State.askShaper] | unfold State.askShaper
    repeat' first
      | with_reducible assumption
      | (with_reducible refine State.giveToken_frame ?_ rfl)
      | (with_reducible refine State.drawNow_frame ?_ rfl)
      | (with_reducible refine Fr2.out (State.drawNow_frame ?_ rfl))
      | (with_reducible refine State.setBucket_frame ?_ rfl)
      | (with_reducible refine Fr.ite ?_ ?_)
      | (with_reducible refine Fr.eq2 (by assumption) ?_)
      | (with_reducible refine Fr.eq22 (by assumption) ?_)
      | (with_reducible refine Fr.eq1 (by assumption) ?_)
      | (with_reducible refine Fr.eqo (by assumption) ?_)
      | (with_reducible refine Fr.eqo2 (by assumption) ?_)
      | (with_reducible refine Fr.eqo22 (by assumption) ?_)
      | dsimp only
      | split
  | succ n ih =>
    intro i u z h
    first | rw [State.askShaper] | unfold State.askShaper
    repeat' first
      | with_reducible assumption
      | (with_reducible refine ih _ _ _ ?_)
      | (with_reducible refine State.giveToken_frame ?_ rfl)
      | (with_reducible refine State.drawNow_frame ?_ rfl)
      | (with_reducible refine Fr2.out (State.drawNow_frame ?_ rfl))
      | (with_reducible refine State.setBucket_frame ?_ rfl)
      | (with_reducible refine Fr.ite ?_ ?_)
      | (with_reducible refine Fr.eq2 (by assumption) ?_)
      | (with_reducible refine Fr.eq22 (by assumption) ?_)
      | (with_reducible refine Fr.eq1 (by assumption) ?_)
      | (with_reducible refine Fr.eqo (by assumption) ?_)
      | (with_reducible refine Fr.eqo2 (by assumption) ?_)
      | (with_reducible refine Fr.eqo22 (by assumption) ?_)
      | dsimp only
      | split

theorem State.txStart_frame {x : TxFrame} {W : Nat} {s₀ s₁ : State} (h₀ : Fr W s₀ s₁) (hw : 2550139938 &&& W = 2550139938) :
    Fr W s₀ (State.txStart s₁ x) := by
  refine Fr.lift hw h₀ ?_
  have h : Fr 2550139938 s₁ s₁ := Fr.refl
  clear h₀ hw
  first | rw [State.txStart] | unfold State.txStart
  repeat' first
    | with_reducible assumption
    | (with_reducible refine State.gateTx_frame ?_ rfl)
    | (with_reducible refine State.sendEth_frame ?_ rfl)
    | (with_reducible refine Fr2.out (State.sendEth_frame ?_ rfl))
    | (with_reducible refine State.dropTx_frame ?_ rfl)
    | (with_reducible refine Fr.ite ?_ ?_)
    | (with_reducible refine Fr.eq2 (by assumption) ?_)
    | (with_reducible refine Fr.eq22 (by assumption) ?_)
    | (with_reducible refine Fr.eq1 (by assumption) ?_)
    | (with_reducible refine Fr.eqo (by assumption) ?_)
    | (with_reducible refine Fr.eqo2 (by assumption) ?_)
    | (with_reducible refine Fr.eqo22 (by assumption) ?_)
    | dsimp only
    | split

theorem writePktCtl_frame {q : Requester} {v : W32} {W : Nat} {s₀ s₁ : State} (h₀ : Fr W s₀ s₁) (hw : 2 &&& W = 2) :
    Fr W s₀ (writePktCtl q v s₁) := by
  refine Fr.lift hw h₀ ?_
  have h : Fr 2 s₁ s₁ := Fr.refl
  clear h₀ hw
  first | rw [writePktCtl] | unfold writePktCtl
  repeat' first
    | with_reducible assumption
    | (lift_lets; intro x; refine_lift have hb : ∀ y, y = x → Fr 2 s₁ y := ?_; ?_; all_goals first | (have hx := hb x rfl; clear hb; clear_value x) | (intro y hy; unfold x at hy; rw [hy]; clear hy y))
    | (with_reducible refine State.sf_frame ?_ rfl)
    | (with_reducible refine State.pktRefusal_frame ?_ rfl)
    | (with_reducible refine Fr.ite ?_ ?_)

theorem writePktBankBase_frame {q : Requester} {i : Nat} {hi : Bool} {v : W32} {W : Nat} {s₀ s₁ : State} (h₀ : Fr W s₀ s₁) (hw : 2 &&& W = 2) :
    Fr W s₀ (writePktBankBase q i hi v s₁) := by
  refine Fr.lift hw h₀ ?_
  have h : Fr 2 s₁ s₁ := Fr.refl
  clear h₀ hw
  first | rw [writePktBankBase] | unfold writePktBankBase
  repeat' first
    | with_reducible assumption
    | (with_reducible refine State.wr_frame ?_ rfl)
    | (with_reducible refine Fr.ite ?_ ?_)

theorem State.startSwap_frame {W : Nat} {s₀ s₁ : State} (h₀ : Fr W s₀ s₁) (hw : 96759309143098 &&& W = 96759309143098) :
    Fr2 W s₀ (State.startSwap s₁) := by
  refine Fr2.lift hw h₀ ?_
  have h : Fr 96759309143098 s₁ s₁ := Fr.refl
  clear h₀ hw
  first | rw [State.startSwap] | unfold State.startSwap
  repeat' first
    | with_reducible assumption
    | (with_reducible refine State.load_frame ?_ rfl)
    | (with_reducible refine Fr22.out (State.load_frame ?_ rfl))
    | (lift_lets; intro x; clear_value x)
    | (with_reducible refine State.sf_frame ?_ rfl)
    | (with_reducible refine State.pktRefusal_frame ?_ rfl)
    | (with_reducible refine Fr2.onSome ?_ (fun a => ?_))
    | (with_reducible refine Fr2.pair ?_)
    | (with_reducible refine Fr.pkt ?_ rfl)

theorem writePktSwap_frame {q : Requester} {v : W32} {W : Nat} {s₀ s₁ : State} (h₀ : Fr W s₀ s₁) (hw : 96759309143098 &&& W = 96759309143098) :
    Fr W s₀ (writePktSwap q v s₁) := by
  refine Fr.lift hw h₀ ?_
  have h : Fr 96759309143098 s₁ s₁ := Fr.refl
  clear h₀ hw
  first | rw [writePktSwap] | unfold writePktSwap
  repeat' first
    | with_reducible assumption
    | (with_reducible refine Fr.ite ?_ ?_)
    | (with_reducible refine Fr2.out (State.startSwap_frame ?_ rfl))

theorem State.finishSwap_frame {W : Nat} {s₀ s₁ : State} (h₀ : Fr W s₀ s₁) (hw : 134217730 &&& W = 134217730) :
    Fr W s₀ (State.finishSwap s₁) := by
  refine Fr.lift hw h₀ ?_
  have h : Fr 134217730 s₁ s₁ := Fr.refl
  clear h₀ hw
  first | rw [State.finishSwap] | unfold State.finishSwap
  repeat' first
    | with_reducible assumption
    | (intro x; clear_value x)
    | (lift_lets; intro x; refine_lift have hb : ∀ y, y = x → Fr 134217730 s₁ y := ?_; ?_; all_goals first | (have hx := hb x rfl; clear hb; clear_value x) | (intro y hy; unfold x at hy; rw [hy]; clear hy y))
    | (lift_lets; intro x; clear_value x)
    | (with_reducible refine State.sf_frame ?_ rfl)
    | split
    | (with_reducible refine Fr.pkt ?_ rfl)

theorem writePktExactInval_frame {q : Requester} {v : W32} {W : Nat} {s₀ s₁ : State} (h₀ : Fr W s₀ s₁) (hw : 134217730 &&& W = 134217730) :
    Fr W s₀ (writePktExactInval q v s₁) := by
  refine Fr.lift hw h₀ ?_
  have h : Fr 134217730 s₁ s₁ := Fr.refl
  clear h₀ hw
  first | rw [writePktExactInval] | unfold writePktExactInval
  repeat' first
    | with_reducible assumption
    | (intro x; refine_lift have hb : ∀ y, y = x → Fr 134217730 s₁ y := ?_; ?_; all_goals first | (have hx := hb x rfl; clear hb; clear_value x) | (intro y hy; unfold x at hy; rw [hy]; clear hy y))
    | (intro x; clear_value x)
    | (lift_lets; intro x; clear_value x)
    | (with_reducible refine State.wr_frame ?_ rfl)
    | (with_reducible refine Fr.ite ?_ ?_)
    | (with_reducible refine Fr.pkt ?_ rfl)

theorem writePktMsecCtl_frame {q : Requester} {p : Nat} {v : W32} {W : Nat} {s₀ s₁ : State} (h₀ : Fr W s₀ s₁) (hw : 2 &&& W = 2) :
    Fr W s₀ (writePktMsecCtl q p v s₁) := by
  refine Fr.lift hw h₀ ?_
  have h : Fr 2 s₁ s₁ := Fr.refl
  clear h₀ hw
  first | rw [writePktMsecCtl] | unfold writePktMsecCtl
  repeat' first
    | with_reducible assumption
    | dsimp only
    | (with_reducible refine State.sf_frame ?_ rfl)
    | (with_reducible refine State.pktRefusal_frame ?_ rfl)
    | (with_reducible refine Fr.ite ?_ ?_)
    | dsimp only

theorem writePktCntBase_frame {q : Requester} {hi : Bool} {v : W32} {W : Nat} {s₀ s₁ : State} (h₀ : Fr W s₀ s₁) (hw : 2 &&& W = 2) :
    Fr W s₀ (writePktCntBase q hi v s₁) := by
  refine Fr.lift hw h₀ ?_
  have h : Fr 2 s₁ s₁ := Fr.refl
  clear h₀ hw
  first | rw [writePktCntBase] | unfold writePktCntBase
  repeat' first
    | with_reducible assumption
    | (with_reducible refine State.wr_frame ?_ rfl)
    | (with_reducible refine Fr.ite ?_ ?_)

theorem State.putExact_frame {bank : Nat} {table : Nat} {i : Nat} {t : List Byte} {e : List Byte} {W : Nat} {s₀ s₁ : State} (h₀ : Fr W s₀ s₁) (hw : 131943681231934 &&& W = 131943681231934) :
    Fr W s₀ (State.putExact s₁ bank table i t e) := by
  refine Fr.lift hw h₀ ?_
  have h : Fr 131943681231934 s₁ s₁ := Fr.refl
  clear h₀ hw
  first | rw [State.putExact] | unfold State.putExact
  repeat' first
    | with_reducible assumption
    | (lift_lets; intro x; clear_value x)
    | (with_reducible refine State.poke_frame ?_ rfl)
    | (with_reducible refine Fr.pkt ?_ rfl)

end Sys2Proof.Machine
end

