-- ==== Sys2Proof/Laws/FrameInstances.lean ====
section
/-! SUPPORT. Frames of the functions of Machine/Instances.lean: which parts of the state each may change. -/

namespace Sys2Proof.Machine

theorem State.iqFreeze_frame {key : Nat} {q : IQueue} {mute : Bool} {status : Nat} {W : Nat} {s₀ s₁ : State} (h₀ : Fr W s₀ s₁) (hw : 15032388642 &&& W = 15032388642) :
    Fr W s₀ (State.iqFreeze s₁ key q mute status) := by
  refine Fr.lift hw h₀ ?_
  have h : Fr 15032388642 s₁ s₁ := Fr.refl
  clear h₀ hw
  first | rw [State.iqFreeze] | unfold State.iqFreeze
  repeat' first
    | with_reducible assumption
    | (with_reducible refine State.setIq_frame ?_ rfl)
    | (with_reducible refine State.queueFroze_frame ?_ rfl)

theorem State.tailDoorbell_frame {i : Nat} {k : QKind} {ix : Nat} {v : Nat} {W : Nat} {s₀ s₁ : State} (h₀ : Fr W s₀ s₁) (hw : 15032388898 &&& W = 15032388898) :
    Fr W s₀ (State.tailDoorbell s₁ i k ix v) := by
  refine Fr.lift hw h₀ ?_
  have h : Fr 15032388898 s₁ s₁ := Fr.refl
  clear h₀ hw
  first | rw [State.tailDoorbell] | unfold State.tailDoorbell
  repeat' first
    | with_reducible assumption
    | (with_reducible refine State.iqFreeze_frame ?_ rfl)
    | (with_reducible refine State.tick_frame ?_ rfl)
    | (with_reducible refine State.setIq_frame ?_ rfl)
    | (with_reducible refine State.stray_frame ?_ rfl)
    | (with_reducible refine Fr.ite ?_ ?_)
    | split

theorem State.bufferTail_frame {i : Nat} {ix : Nat} {v : Nat} {W : Nat} {s₀ s₁ : State} (h₀ : Fr W s₀ s₁) (hw : 131956675185982 &&& W = 131956675185982) :
    Fr W s₀ (State.bufferTail i ix v s₁) := by
  refine Fr.lift hw h₀ ?_
  have h : Fr 131956675185982 s₁ s₁ := Fr.refl
  clear h₀ hw
  first | rw [State.bufferTail] | unfold State.bufferTail
  repeat' first
    | with_reducible assumption
    | (with_reducible refine State.reserve_frame ?_ rfl)
    | (with_reducible refine State.tailDoorbell_frame ?_ rfl)
    | (with_reducible refine State.pktPump_frame ?_ rfl)
    | (with_reducible refine Fr.ite ?_ ?_)
    | (with_reducible refine Fr.foldl (fun z a h => ?_) ?_)

theorem State.completionHead_frame {i : Nat} {k : QKind} {ix : Nat} {v : Nat} {W : Nat} {s₀ s₁ : State} (h₀ : Fr W s₀ s₁) (hw : 15032387618 &&& W = 15032387618) :
    Fr W s₀ (State.completionHead s₁ i k ix v) := by
  refine Fr.lift hw h₀ ?_
  have h : Fr 15032387618 s₁ s₁ := Fr.refl
  clear h₀ hw
  first | rw [State.completionHead] | unfold State.completionHead
  repeat' first
    | with_reducible assumption
    | (with_reducible refine State.flushOwed_frame ?_ rfl)
    | (with_reducible refine State.iqReap_frame ?_ rfl)
    | (with_reducible refine State.setIq_frame ?_ rfl)
    | (with_reducible refine State.stray_frame ?_ rfl)
    | (with_reducible refine Fr.ite ?_ ?_)
    | split

theorem State.answerDeletes_frame {i : Nat} {W : Nat} {s₀ s₁ : State} (h₀ : Fr W s₀ s₁) (hw : 2048 &&& W = 2048) :
    Fr W s₀ (State.answerDeletes s₁ i) := by
  refine Fr.lift hw h₀ ?_
  have h : Fr 2048 s₁ s₁ := Fr.refl
  clear h₀ hw
  first | rw [State.answerDeletes] | unfold State.answerDeletes
  repeat' first
    | with_reducible assumption
    | (with_reducible refine State.answer_frame ?_ rfl)
    | (with_reducible refine Fr.foldl (fun z a h => ?_) ?_)
    | split

theorem State.dropDue_frame {i : Nat} {W : Nat} {s₀ s₁ : State} (h₀ : Fr W s₀ s₁) (hw : 2147483648 &&& W = 2147483648) :
    Fr W s₀ (State.dropDue s₁ i) := by
  refine Fr.lift hw h₀ ?_
  have h : Fr 2147483648 s₁ s₁ := Fr.refl
  clear h₀ hw
  first | rw [State.dropDue] | unfold State.dropDue
  repeat' first
    | with_reducible assumption
    | (intro x; refine_lift have hb : ∀ y, y = x → Fr 2147483648 s₁ y := ?_; ?_; all_goals first | (have hx := hb x rfl; clear hb; clear_value x) | (intro y hy; unfold x at hy; rw [hy]; clear hy y))
    | (intro x; clear_value x)
    | (lift_lets; intro x; refine_lift have hb : ∀ y, y = x → Fr 2147483648 s₁ y := ?_; ?_; all_goals first | (have hx := hb x rfl; clear hb; clear_value x) | (intro y hy; unfold x at hy; rw [hy]; clear hy y))
    | (lift_lets; intro x; clear_value x)
    | (with_reducible refine Fr.ite ?_ ?_)
    | (with_reducible exact Fr2.out (by assumption))
    | dsimp only
    | split
    | (with_reducible refine Fr.host ?_ rfl)

theorem State.instReset_frame {i : Nat} {W : Nat} {s₀ s₁ : State} (h₀ : Fr W s₀ s₁) (hw : 131957212122430 &&& W = 131957212122430) :
    Fr W s₀ (State.instReset s₁ i) := by
  refine Fr.lift hw h₀ ?_
  have h : Fr 131957212122430 s₁ s₁ := Fr.refl
  clear h₀ hw
  first | rw [State.instReset] | unfold State.instReset
  repeat' first
    | with_reducible assumption
    | (with_reducible refine State.dropDue_frame ?_ rfl)
    | (with_reducible refine State.event_frame ?_ rfl)
    | (with_reducible refine State.setCn_frame ?_ rfl)
    | (intro x; refine_lift have hb : ∀ y, y = x → Fr 131957212122430 s₁ y := ?_; ?_; all_goals first | (have hx := hb x rfl; clear hb; clear_value x) | (intro y hy; unfold x at hy; rw [hy]; clear hy y))
    | (intro x; clear_value x)
    | (lift_lets; intro x; clear_value x)
    | (with_reducible refine State.answerDeletes_frame ?_ rfl)
    | (with_reducible refine State.setInst_frame ?_ rfl)
    | (with_reducible refine State.pktPump_frame ?_ rfl)
    | (with_reducible refine State.flush_frame ?_ rfl)
    | (with_reducible refine State.stoInstReset_frame ?_ rfl)
    | (with_reducible refine Fr.ite ?_ ?_)
    | (with_reducible refine Fr.foldl (fun z a h => ?_) ?_)
    | (with_reducible refine Fr.iq ?_ rfl)

theorem State.instQuiesce_frame {i : Nat} {W : Nat} {s₀ s₁ : State} (h₀ : Fr W s₀ s₁) (hw : 131957178502206 &&& W = 131957178502206) :
    Fr W s₀ (State.instQuiesce s₁ i) := by
  refine Fr.lift hw h₀ ?_
  have h : Fr 131957178502206 s₁ s₁ := Fr.refl
  clear h₀ hw
  first | rw [State.instQuiesce] | unfold State.instQuiesce
  repeat' first
    | with_reducible assumption
    | (with_reducible refine State.dropDue_frame ?_ rfl)
    | (lift_lets; intro x; clear_value x)
    | (with_reducible refine State.stoQuiesce_frame ?_ rfl)
    | (with_reducible refine State.setInst_frame ?_ rfl)
    | (with_reducible refine State.pktPump_frame ?_ rfl)
    | (with_reducible refine Fr.ite ?_ ?_)

theorem State.instReattach_frame {i : Nat} {W : Nat} {s₀ s₁ : State} (h₀ : Fr W s₀ s₁) (hw : 131957178502206 &&& W = 131957178502206) :
    Fr W s₀ (State.instReattach s₁ i) := by
  refine Fr.lift hw h₀ ?_
  have h : Fr 131957178502206 s₁ s₁ := Fr.refl
  clear h₀ hw
  first | rw [State.instReattach] | unfold State.instReattach
  repeat' first
    | with_reducible assumption
    | (intro x; refine_lift have hb : ∀ y, y = x → Fr 131957178502206 s₁ y := ?_; ?_; all_goals first | (have hx := hb x rfl; clear hb; clear_value x) | (intro y hy; unfold x at hy; rw [hy]; clear hy y))
    | (intro x; clear_value x)
    | (lift_lets; intro x; clear_value x)
    | (with_reducible refine State.setInst_frame ?_ rfl)
    | (with_reducible refine State.flushOwed_frame ?_ rfl)
    | (with_reducible refine State.raise_frame ?_ rfl)
    | (with_reducible refine State.pktPump_frame ?_ rfl)
    | (with_reducible refine State.stoUnquiesce_frame ?_ rfl)
    | (with_reducible refine State.iqReap_frame ?_ rfl)
    | (with_reducible refine Fr.ite ?_ ?_)
    | (with_reducible refine Fr.foldl (fun z a h => ?_) ?_)

theorem State.instFlushAll_frame {W : Nat} {s₀ s₁ : State} (h₀ : Fr W s₀ s₁) (hw : 15569258530 &&& W = 15569258530) :
    Fr W s₀ (State.instFlushAll s₁) := by
  refine Fr.lift hw h₀ ?_
  have h : Fr 15569258530 s₁ s₁ := Fr.refl
  clear h₀ hw
  first | rw [State.instFlushAll] | unfold State.instFlushAll
  repeat' first
    | with_reducible assumption
    | (with_reducible refine State.stoWriteOwed_frame ?_ rfl)
    | (with_reducible refine State.flushOwed_frame ?_ rfl)
    | (with_reducible refine State.iqReap_frame ?_ rfl)
    | (with_reducible refine Fr.foldl (fun z a h => ?_) ?_)

theorem State.instOp_frame {r : SynReq} {f : State → Nat → State × Nat × List Byte} {W : Nat} {s₀ s₁ : State} (h : Fr W s₀ s₁) (hf : ∀ z i, Fr W s₀ z → Fr1 W s₀ (f z i)) (hw : 256 &&& W = 256) :
    Fr1 W s₀ (State.instOp s₁ r f) := by
  first | rw [State.instOp] | unfold State.instOp
  repeat' first
    | with_reducible assumption
    | (with_reducible refine hf _ _ ?_)
    | (with_reducible refine refuseFree_frame ?_ (Fr.sub rfl hw))
    | (with_reducible refine refuse_frame ?_ (Fr.sub rfl hw))
    | (with_reducible refine Fr1.ite ?_ ?_)

end Sys2Proof.Machine
end

