-- ==== Sys2Proof/Laws/FrameCollectives.lean ====
section
/-! SUPPORT. Frames of the functions of Machine/Collectives.lean: which parts of the state each may change. -/

namespace Sys2Proof.Machine

theorem State.setGrp_frame {g : Nat} {v : ColGroup} {W : Nat} {s₀ s₁ : State} (h₀ : Fr W s₀ s₁) (hw : 524288 &&& W = 524288) :
    Fr W s₀ (State.setGrp s₁ g v) := by
  refine Fr.lift hw h₀ ?_
  have h : Fr 524288 s₁ s₁ := Fr.refl
  clear h₀ hw
  first | rw [State.setGrp] | unfold State.setGrp
  repeat' first
    | with_reducible assumption
    | (lift_lets; intro x; clear_value x)
    | (with_reducible refine Fr.col ?_ rfl)

theorem State.dropGrp_frame {g : Nat} {W : Nat} {s₀ s₁ : State} (h₀ : Fr W s₀ s₁) (hw : 524288 &&& W = 524288) :
    Fr W s₀ (State.dropGrp s₁ g) := by
  refine Fr.lift hw h₀ ?_
  have h : Fr 524288 s₁ s₁ := Fr.refl
  clear h₀ hw
  first | rw [State.dropGrp] | unfold State.dropGrp
  repeat' first
    | with_reducible assumption
    | (lift_lets; intro x; clear_value x)
    | (with_reducible refine Fr.col ?_ rfl)

theorem State.colRefusal_frame {c : Nat} {W : Nat} {s₀ s₁ : State} (h₀ : Fr W s₀ s₁) (hw : 2 &&& W = 2) :
    Fr W s₀ (State.colRefusal s₁ c) := by
  refine Fr.lift hw h₀ ?_
  have h : Fr 2 s₁ s₁ := Fr.refl
  clear h₀ hw
  first | rw [State.colRefusal] | unfold State.colRefusal
  repeat' first
    | with_reducible assumption
    | (with_reducible refine State.sf_frame ?_ rfl)

theorem State.colLoaded_frame {W : Nat} {s₀ s₁ : State} (h₀ : Fr W s₀ s₁) (hw : 2 &&& W = 2) :
    Fr W s₀ (State.colLoaded s₁) := by
  refine Fr.lift hw h₀ ?_
  have h : Fr 2 s₁ s₁ := Fr.refl
  clear h₀ hw
  first | rw [State.colLoaded] | unfold State.colLoaded
  repeat' first
    | with_reducible assumption
    | (with_reducible refine State.sf_frame ?_ rfl)

theorem State.loadGroup_frame {g : Nat} {W : Nat} {s₀ s₁ : State} (h₀ : Fr W s₀ s₁) (hw : 96759175449914 &&& W = 96759175449914) :
    Fr2 W s₀ (State.loadGroup s₁ g) := by
  refine Fr2.lift hw h₀ ?_
  have h : Fr 96759175449914 s₁ s₁ := Fr.refl
  clear h₀ hw
  first | rw [State.loadGroup] | unfold State.loadGroup
  repeat' first
    | with_reducible assumption
    | (with_reducible refine State.setGrp_frame ?_ rfl)
    | (with_reducible refine State.tick_frame ?_ rfl)
    | (with_reducible refine State.dropGrp_frame ?_ rfl)
    | (with_reducible refine Fr2.onSome ?_ (fun a => ?_))
    | (with_reducible refine Fr22.out (State.load_frame ?_ rfl))
    | (with_reducible refine Fr2.pair ?_)

theorem State.zeroResiduals_frame {g : ColGroup} {W : Nat} {s₀ s₁ : State} (h₀ : Fr W s₀ s₁) (hw : 20 &&& W = 20) :
    Fr W s₀ (State.zeroResiduals s₁ g) := by
  refine Fr.lift hw h₀ ?_
  have h : Fr 20 s₁ s₁ := Fr.refl
  clear h₀ hw
  first | rw [State.zeroResiduals] | unfold State.zeroResiduals
  repeat' first
    | with_reducible assumption
    | (refine Fr.upd_mem_lineMarks ?_ rfl rfl (fun hs => by first | exact Tab.wf_set _ _ (hs.2.1) | exact Tab.wf_filter _ (hs.2.1)))

theorem writeColGrpLoad_frame {q : Requester} {v : W32} {W : Nat} {s₀ s₁ : State} (h₀ : Fr W s₀ s₁) (hw : 524290 &&& W = 524290) :
    Fr W s₀ (writeColGrpLoad q v s₁) := by
  refine Fr.lift hw h₀ ?_
  have h : Fr 524290 s₁ s₁ := Fr.refl
  clear h₀ hw
  first | rw [writeColGrpLoad] | unfold writeColGrpLoad
  repeat' first
    | with_reducible assumption
    | (intro x; refine_lift have hb : ∀ y, y = x → Fr 524290 s₁ y := ?_; ?_; all_goals first | (have hx := hb x rfl; clear hb; clear_value x) | (intro y hy; unfold x at hy; rw [hy]; clear hy y))
    | (intro x; clear_value x)
    | (lift_lets; intro x; clear_value x)
    | (with_reducible refine State.colLoaded_frame ?_ rfl)
    | (with_reducible refine State.sf_frame ?_ rfl)
    | (with_reducible refine Fr.ite ?_ ?_)
    | (with_reducible refine Fr.col ?_ rfl)

theorem writeColCtl_frame {q : Requester} {v : W32} {W : Nat} {s₀ s₁ : State} (h₀ : Fr W s₀ s₁) (hw : 2 &&& W = 2) :
    Fr W s₀ (writeColCtl q v s₁) := by
  refine Fr.lift hw h₀ ?_
  have h : Fr 2 s₁ s₁ := Fr.refl
  clear h₀ hw
  first | rw [writeColCtl] | unfold writeColCtl
  repeat' first
    | with_reducible assumption
    | (lift_lets; intro x; clear_value x)
    | (with_reducible refine State.colRefusal_frame ?_ rfl)
    | (with_reducible refine State.sf_frame ?_ rfl)
    | (with_reducible refine Fr.ite ?_ ?_)

theorem writeColGrpBase_frame {q : Requester} {hi : Bool} {v : W32} {W : Nat} {s₀ s₁ : State} (h₀ : Fr W s₀ s₁) (hw : 2 &&& W = 2) :
    Fr W s₀ (writeColGrpBase q hi v s₁) := by
  refine Fr.lift hw h₀ ?_
  have h : Fr 2 s₁ s₁ := Fr.refl
  clear h₀ hw
  first | rw [writeColGrpBase] | unfold writeColGrpBase
  repeat' first
    | with_reducible assumption
    | (with_reducible refine State.wr_frame ?_ rfl)
    | (with_reducible refine Fr.ite ?_ ?_)

theorem writeColCmdBase_frame {q : Requester} {n : Nat} {hi : Bool} {v : W32} {W : Nat} {s₀ s₁ : State} (h₀ : Fr W s₀ s₁) (hw : 65538 &&& W = 65538) :
    Fr W s₀ (writeColCmdBase q n hi v s₁) := by
  refine Fr.lift hw h₀ ?_
  have h : Fr 65538 s₁ s₁ := Fr.refl
  clear h₀ hw
  first | rw [writeColCmdBase] | unfold writeColCmdBase
  repeat' first
    | with_reducible assumption
    | (with_reducible refine State.writeCmdBase_frame ?_ rfl)
    | (with_reducible refine Fr.ite ?_ ?_)

theorem writeColCmplBase_frame {q : Requester} {n : Nat} {hi : Bool} {v : W32} {W : Nat} {s₀ s₁ : State} (h₀ : Fr W s₀ s₁) (hw : 2 &&& W = 2) :
    Fr W s₀ (writeColCmplBase q n hi v s₁) := by
  refine Fr.lift hw h₀ ?_
  have h : Fr 2 s₁ s₁ := Fr.refl
  clear h₀ hw
  first | rw [writeColCmplBase] | unfold writeColCmplBase
  repeat' first
    | with_reducible assumption
    | (with_reducible refine State.writeCmplBase_frame ?_ rfl)
    | (with_reducible refine Fr.ite ?_ ?_)

theorem writeColQctl_frame {q : Requester} {n : Nat} {v : W32} {W : Nat} {s₀ s₁ : State} (h₀ : Fr W s₀ s₁) (hw : 2 &&& W = 2) :
    Fr W s₀ (writeColQctl q n v s₁) := by
  refine Fr.lift hw h₀ ?_
  have h : Fr 2 s₁ s₁ := Fr.refl
  clear h₀ hw
  first | rw [writeColQctl] | unfold writeColQctl
  repeat' first
    | with_reducible assumption
    | (with_reducible refine State.writeRingCtl_frame ?_ rfl)
    | (with_reducible refine Fr.ite ?_ ?_)

theorem writeColDb_frame {q : Requester} {n : Nat} {v : W32} {W : Nat} {s₀ s₁ : State} (h₀ : Fr W s₀ s₁) (hw : 65538 &&& W = 65538) :
    Fr W s₀ (writeColDb q n v s₁) := by
  refine Fr.lift hw h₀ ?_
  have h : Fr 65538 s₁ s₁ := Fr.refl
  clear h₀ hw
  first | rw [writeColDb] | unfold writeColDb
  repeat' first
    | with_reducible assumption
    | (with_reducible refine State.writeDoorbell_frame ?_ rfl)
    | (with_reducible refine Fr.ite ?_ ?_)

theorem writeColCmplHead_frame {q : Requester} {n : Nat} {v : W32} {W : Nat} {s₀ s₁ : State} (h₀ : Fr W s₀ s₁) (hw : 2 &&& W = 2) :
    Fr W s₀ (writeColCmplHead q n v s₁) := by
  refine Fr.lift hw h₀ ?_
  have h : Fr 2 s₁ s₁ := Fr.refl
  clear h₀ hw
  first | rw [writeColCmplHead] | unfold writeColCmplHead
  repeat' first
    | with_reducible assumption
    | (with_reducible refine State.writeCmplHead_frame ?_ rfl)
    | (with_reducible refine Fr.ite ?_ ?_)

theorem writeColQerr_frame {q : Requester} {n : Nat} {v : W32} {W : Nat} {s₀ s₁ : State} (h₀ : Fr W s₀ s₁) (hw : 2 &&& W = 2) :
    Fr W s₀ (writeColQerr q n v s₁) := by
  refine Fr.lift hw h₀ ?_
  have h : Fr 2 s₁ s₁ := Fr.refl
  clear h₀ hw
  first | rw [writeColQerr] | unfold writeColQerr
  repeat' first
    | with_reducible assumption
    | (with_reducible refine State.wr_frame ?_ rfl)
    | (with_reducible refine Fr.ite ?_ ?_)

theorem writeColTimeout_frame {q : Requester} {v : W32} {W : Nat} {s₀ s₁ : State} (h₀ : Fr W s₀ s₁) (hw : 2 &&& W = 2) :
    Fr W s₀ (writeColTimeout q v s₁) := by
  refine Fr.lift hw h₀ ?_
  have h : Fr 2 s₁ s₁ := Fr.refl
  clear h₀ hw
  first | rw [writeColTimeout] | unfold writeColTimeout
  repeat' first
    | with_reducible assumption
    | (with_reducible refine State.wr_frame ?_ rfl)
    | (with_reducible refine Fr.ite ?_ ?_)

theorem State.setLive_frame {g : ColGroup} {b : Nat} {v : Nat} {W : Nat} {s₀ s₁ : State} (h₀ : Fr W s₀ s₁) (hw : 131943547014206 &&& W = 131943547014206) :
    Fr W s₀ (State.setLive s₁ g b v) := by
  refine Fr.lift hw h₀ ?_
  have h : Fr 131943547014206 s₁ s₁ := Fr.refl
  clear h₀ hw
  first | rw [State.setLive] | unfold State.setLive
  repeat' first
    | with_reducible assumption
    | (with_reducible refine State.poke_frame ?_ rfl)

theorem State.windowCheck_frame {g : ColGroup} {base : Nat} {x3 : Nat} {W : Nat} {s₀ s₁ : State} (h₀ : Fr W s₀ s₁) (hw : 96759175187514 &&& W = 96759175187514) :
    Fr2 W s₀ (State.windowCheck s₁ g base x3) := by
  refine Fr2.lift hw h₀ ?_
  clear h₀ hw
  suffices main : ∀ (x3 : Nat) (g : ColGroup) (base : Nat) (z : State), Fr 96759175187514 s₁ z → Fr2 96759175187514 s₁ (State.windowCheck z g base x3) from main x3 g base s₁ Fr.refl
  intro x3
  induction x3 with
  | zero =>
    intro g base z h
    first | rw [State.windowCheck] | unfold State.windowCheck
    repeat' first
      | with_reducible assumption
      | (lift_lets; intro x; refine_lift have hb : ∀ y, y = x → Fr 96759175187514 s₁ y := ?_; ?_; all_goals first | (have hx := hb x rfl; clear hb; clear_value x) | (intro y hy; unfold x at hy; rw [hy]; clear hy y))
      | (with_reducible refine ih _ _ _ ?_)
      | (with_reducible refine State.flagRead_frame ?_ rfl)
      | (with_reducible refine Fr2.onSome ?_ (fun a => ?_))
      | (with_reducible refine Fr2.ite ?_ ?_)
      | (with_reducible refine Fr2.out (State.translate_frame ?_ rfl))
      | (with_reducible refine Fr2.pair ?_)
  | succ n ih =>
    intro g base z h
    first | rw [State.windowCheck] | unfold State.windowCheck
    repeat' first
      | with_reducible assumption
      | (lift_lets; intro x; refine_lift have hb : ∀ y, y = x → Fr 96759175187514 s₁ y := ?_; ?_; all_goals first | (have hx := hb x rfl; clear hb; clear_value x) | (intro y hy; unfold x at hy; rw [hy]; clear hy y))
      | (with_reducible refine ih _ _ _ ?_)
      | (with_reducible refine State.flagRead_frame ?_ rfl)
      | (with_reducible refine Fr2.onSome ?_ (fun a => ?_))
      | (with_reducible refine Fr2.ite ?_ ?_)
      | (with_reducible refine Fr2.out (State.translate_frame ?_ rfl))
      | (with_reducible refine Fr2.pair ?_)

theorem State.colCheck_frame {q : Nat} {d : List Byte} {W : Nat} {s₀ s₁ : State} (h₀ : Fr W s₀ s₁) (hw : 96759175187514 &&& W = 96759175187514) :
    Fr2 W s₀ (State.colCheck s₁ q d) := by
  refine Fr2.lift hw h₀ ?_
  have h : Fr 96759175187514 s₁ s₁ := Fr.refl
  clear h₀ hw
  first | rw [State.colCheck] | unfold State.colCheck
  repeat' first
    | with_reducible assumption
    | (with_reducible refine State.windowCheck_frame ?_ rfl)
    | (with_reducible refine State.load_frame ?_ rfl)
    | (with_reducible refine Fr2.ite ?_ ?_)
    | (with_reducible refine Fr22.out (State.load_frame ?_ rfl))
    | (with_reducible refine Fr22.out (Fr22.ite ?_ ?_))
    | split
    | (with_reducible refine Fr2.pair ?_)
    | (with_reducible refine Fr22.pair ?_)

theorem State.setWindow_frame {g : ColGroup} {d : List Byte} {pos : Nat} {W : Nat} {s₀ s₁ : State} (h₀ : Fr W s₀ s₁) (hw : 96759175187962 &&& W = 96759175187962) :
    Fr W s₀ (State.setWindow s₁ g d pos) := by
  refine Fr.lift hw h₀ ?_
  have h : Fr 96759175187962 s₁ s₁ := Fr.refl
  clear h₀ hw
  first | rw [State.setWindow] | unfold State.setWindow
  repeat' first
    | with_reducible assumption
    | (with_reducible refine Fr2.out (State.setVirtual_frame ?_ rfl))

theorem State.takeWindow_frame {g : ColGroup} {d : List Byte} {pos : Nat} {W : Nat} {s₀ s₁ : State} (h₀ : Fr W s₀ s₁) (hw : 96759175187514 &&& W = 96759175187514) :
    Fr2 W s₀ (State.takeWindow s₁ g d pos) := by
  refine Fr2.lift hw h₀ ?_
  have h : Fr 96759175187514 s₁ s₁ := Fr.refl
  clear h₀ hw
  first | rw [State.takeWindow] | unfold State.takeWindow
  repeat' first
    | with_reducible assumption
    | (with_reducible refine State.translate_frame ?_ rfl)
    | (with_reducible refine State.flagTake_frame ?_ rfl)
    | (with_reducible refine Fr.eq2 (by assumption) ?_)
    | split
    | (with_reducible refine Fr2.pair ?_)

theorem State.setOp_frame {num : Nat} {o : ColOp} {W : Nat} {s₀ s₁ : State} (h₀ : Fr W s₀ s₁) (hw : 524288 &&& W = 524288) :
    Fr W s₀ (State.setOp s₁ num o) := by
  refine Fr.lift hw h₀ ?_
  have h : Fr 524288 s₁ s₁ := Fr.refl
  clear h₀ hw
  first | rw [State.setOp] | unfold State.setOp
  repeat' first
    | with_reducible assumption
    | (with_reducible refine State.setGrp_frame ?_ rfl)
    | split

theorem State.colResult_frame {q : Nat} {ix : Nat} {epoch : Nat} {status : Nat} {count : Nat} {W : Nat} {s₀ s₁ : State} (h₀ : Fr W s₀ s₁) (hw : 65536 &&& W = 65536) :
    Fr W s₀ (State.colResult s₁ q ix epoch status count) := by
  refine Fr.lift hw h₀ ?_
  have h : Fr 65536 s₁ s₁ := Fr.refl
  clear h₀ hw
  first | rw [State.colResult] | unfold State.colResult
  repeat' first
    | with_reducible assumption
    | (with_reducible refine State.setRing_frame ?_ rfl)

theorem State.endOp_frame {num : Nat} {status : Nat} {W : Nat} {s₀ s₁ : State} (h₀ : Fr W s₀ s₁) (hw : 65536 &&& W = 65536) :
    Fr W s₀ (State.endOp s₁ num status) := by
  refine Fr.lift hw h₀ ?_
  have h : Fr 65536 s₁ s₁ := Fr.refl
  clear h₀ hw
  first | rw [State.endOp] | unfold State.endOp
  repeat' first
    | with_reducible assumption
    | (with_reducible refine State.colResult_frame ?_ rfl)
    | split

theorem State.sendControl_frame {num : Nat} {g : ColGroup} {kind : Nat} {seq : Nat} {r : Nat} {W : Nat} {s₀ s₁ : State} (h₀ : Fr W s₀ s₁) (hw : 131957212122430 &&& W = 131957212122430) :
    Fr W s₀ (State.sendControl s₁ num g kind seq r) := by
  refine Fr.lift hw h₀ ?_
  have h : Fr 131957212122430 s₁ s₁ := Fr.refl
  clear h₀ hw
  first | rw [State.sendControl] | unfold State.sendControl
  repeat' first
    | with_reducible assumption
    | (with_reducible refine State.internalMsg_frame ?_ rfl)
    | (with_reducible refine Fr.ite ?_ ?_)

theorem State.sendControlAll_frame {num : Nat} {g : ColGroup} {kind : Nat} {seq : Nat} {W : Nat} {s₀ s₁ : State} (h₀ : Fr W s₀ s₁) (hw : 131957212122430 &&& W = 131957212122430) :
    Fr W s₀ (State.sendControlAll s₁ num g kind seq) := by
  refine Fr.lift hw h₀ ?_
  have h : Fr 131957212122430 s₁ s₁ := Fr.refl
  clear h₀ hw
  first | rw [State.sendControlAll] | unfold State.sendControlAll
  repeat' first
    | with_reducible assumption
    | (with_reducible refine State.sendControl_frame ?_ rfl)
    | (with_reducible refine Fr.foldl (fun z a h => ?_) ?_)

theorem State.colWait_frame {q : Nat} {d : List Byte} {W : Nat} {s₀ s₁ : State} (h₀ : Fr W s₀ s₁) (hw : 96759175187514 &&& W = 96759175187514) :
    Fr2 W s₀ (State.colWait s₁ q d) := by
  refine Fr2.lift hw h₀ ?_
  have h : Fr 96759175187514 s₁ s₁ := Fr.refl
  clear h₀ hw
  first | rw [State.colWait] | unfold State.colWait
  repeat' first
    | with_reducible assumption
    | (lift_lets; intro x; refine_lift have hb : ∀ y, y = x → Fr2 96759175187514 s₁ y := ?_; ?_; all_goals first | (have hx := hb x rfl; clear hb; clear_value x) | (intro y hy; unfold x at hy; rw [hy]; clear hy y))
    | (with_reducible refine State.translate_frame ?_ rfl)
    | (with_reducible refine State.flagTake_frame ?_ rfl)
    | (with_reducible refine Fr2.onSome ?_ (fun a => ?_))
    | (with_reducible refine Fr2.ite ?_ ?_)
    | (with_reducible exact Fr2.out (by assumption))
    | (with_reducible refine Fr2.pair ?_)

theorem State.beginOp_frame {q : Nat} {ix : Nat} {epoch : Nat} {d : List Byte} {W : Nat} {s₀ s₁ : State} (h₀ : Fr W s₀ s₁) (hw : 131957212909054 &&& W = 131957212909054) :
    Fr W s₀ (State.beginOp s₁ q ix epoch d) := by
  refine Fr.lift hw h₀ ?_
  have h : Fr 131957212909054 s₁ s₁ := Fr.refl
  clear h₀ hw
  first | rw [State.beginOp] | unfold State.beginOp
  repeat' first
    | with_reducible assumption
    | (intro x; refine_lift have hb : ∀ y, y = x → Fr 131957212909054 s₁ y := ?_; ?_; all_goals first | (have hx := hb x rfl; clear hb; clear_value x) | (intro y hy; unfold x at hy; rw [hy]; clear hy y))
    | (intro x; clear_value x)
    | (lift_lets; intro x; clear_value x)
    | (with_reducible refine State.setWindow_frame ?_ rfl)
    | (with_reducible refine State.setOp_frame ?_ rfl)
    | (with_reducible refine State.setGrp_frame ?_ rfl)
    | (with_reducible refine State.sendControlAll_frame ?_ rfl)
    | (with_reducible refine Fr.ite ?_ ?_)
    | (with_reducible refine Fr.foldl (fun z a h => ?_) ?_)
    | split

theorem State.colBind_frame {q : Nat} {d : List Byte} {W : Nat} {s₀ s₁ : State} (h₀ : Fr W s₀ s₁) (hw : 524288 &&& W = 524288) :
    Fr W s₀ (State.colBind s₁ q d) := by
  refine Fr.lift hw h₀ ?_
  have h : Fr 524288 s₁ s₁ := Fr.refl
  clear h₀ hw
  first | rw [State.colBind] | unfold State.colBind
  repeat' first
    | with_reducible assumption
    | (with_reducible refine State.setGrp_frame ?_ rfl)
    | (with_reducible refine Fr.ite ?_ ?_)
    | (with_reducible refine Fr.eq2 (by assumption) ?_)
    | (with_reducible refine Fr.eq22 (by assumption) ?_)
    | (with_reducible refine Fr.eq1 (by assumption) ?_)
    | (with_reducible refine Fr.eqo (by assumption) ?_)
    | (with_reducible refine Fr.eqo2 (by assumption) ?_)
    | (with_reducible refine Fr.eqo22 (by assumption) ?_)
    | dsimp only
    | split

theorem State.colIssue_frame {n : Nat} {ix : Nat} {d : List Byte} {res : Option (Nat × Nat)} {W : Nat} {s₀ s₁ : State} (h₀ : Fr W s₀ s₁) (hw : 589824 &&& W = 589824) :
    Fr W s₀ (State.colIssue s₁ n ix d res) := by
  refine Fr.lift hw h₀ ?_
  have h : Fr 589824 s₁ s₁ := Fr.refl
  clear h₀ hw
  first | rw [State.colIssue] | unfold State.colIssue
  repeat' first
    | with_reducible assumption
    | (intro x; refine_lift have hb : ∀ y, y = x → Fr 589824 s₁ y := ?_; ?_; all_goals first | (have hx := hb x rfl; clear hb; clear_value x) | (intro y hy; unfold x at hy; rw [hy]; clear hy y))
    | (intro x; clear_value x)
    | (lift_lets; intro x; refine_lift have hb : ∀ y, y = x → Fr 589824 s₁ y := ?_; ?_; all_goals first | (have hx := hb x rfl; clear hb; clear_value x) | (intro y hy; unfold x at hy; rw [hy]; clear hy y))
    | (lift_lets; intro x; clear_value x)
    | (with_reducible refine State.setRing_frame ?_ rfl)
    | (with_reducible refine Fr.ite ?_ ?_)
    | (with_reducible exact Fr2.out (by assumption))
    | dsimp only
    | split
    | (with_reducible refine Fr.col ?_ rfl)

theorem State.colStart_frame {n : Nat} {ix : Nat} {d : List Byte} {W : Nat} {s₀ s₁ : State} (h₀ : Fr W s₀ s₁) (hw : 131957212909054 &&& W = 131957212909054) :
    Fr W s₀ (State.colStart s₁ n ix d) := by
  refine Fr.lift hw h₀ ?_
  have h : Fr 131957212909054 s₁ s₁ := Fr.refl
  clear h₀ hw
  first | rw [State.colStart] | unfold State.colStart
  repeat' first
    | with_reducible assumption
    | (with_reducible refine State.colBind_frame ?_ rfl)
    | (with_reducible refine State.beginOp_frame ?_ rfl)
    | (with_reducible refine State.colIssue_frame ?_ rfl)
    | (with_reducible refine Fr.ite ?_ ?_)
    | (with_reducible refine Fr.onSome ?_ (fun a => ?_))
    | (with_reducible refine Fr2.out (State.colCheck_frame ?_ rfl))

theorem State.colTry_frame {n : Nat} {ix : Nat} {d : List Byte} {W : Nat} {s₀ s₁ : State} (h₀ : Fr W s₀ s₁) (hw : 131957212909054 &&& W = 131957212909054) :
    Fr W s₀ (State.colTry s₁ n ix d) := by
  refine Fr.lift hw h₀ ?_
  have h : Fr 131957212909054 s₁ s₁ := Fr.refl
  clear h₀ hw
  first | rw [State.colTry] | unfold State.colTry
  repeat' first
    | with_reducible assumption
    | (lift_lets; intro x; refine_lift have hb : ∀ y, y = x → Fr2 131957212909054 s₁ y := ?_; ?_; all_goals first | (have hx := hb x rfl; clear hb; clear_value x) | (intro y hy; unfold x at hy; rw [hy]; clear hy y))
    | (with_reducible refine State.colStart_frame ?_ rfl)
    | (with_reducible refine State.colWait_frame ?_ rfl)
    | (with_reducible refine State.colIssue_frame ?_ rfl)
    | (with_reducible refine Fr.ite ?_ ?_)
    | (with_reducible refine Fr.onSome ?_ (fun a => ?_))
    | (with_reducible exact Fr2.out (by assumption))

theorem State.colReports_frame {num : Nat} {g : ColGroup} {o : ColOp} {W : Nat} {s₀ s₁ : State} (h₀ : Fr W s₀ s₁) (hw : 33554432 &&& W = 33554432) :
    Fr22 W s₀ (State.colReports s₁ num g o) := by
  refine Fr22.lift hw h₀ ?_
  have h : Fr 33554432 s₁ s₁ := Fr.refl
  clear h₀ hw
  first | rw [State.colReports] | unfold State.colReports
  repeat' first
    | with_reducible assumption
    | (with_reducible refine Fr22.foldl (fun z a h => ?_) ?_)
    | (with_reducible exact Fr22.out (by assumption))
    | (with_reducible refine Fr22.pair ?_)
    | (with_reducible refine Fr22.ite ?_ ?_)
    | (intro x; refine_lift have hb : ∀ y, y = x → Fr 33554432 s₁ y := ?_; ?_; all_goals first | (have hx := hb x rfl; clear hb; clear_value x) | (intro y hy; unfold x at hy; rw [hy]; clear hy y))
    | (intro x; clear_value x)
    | (lift_lets; intro x; refine_lift have hb : ∀ y, y = x → Fr 33554432 s₁ y := ?_; ?_; all_goals first | (have hx := hb x rfl; clear hb; clear_value x) | (intro y hy; unfold x at hy; rw [hy]; clear hy y))
    | (lift_lets; intro x; clear_value x)
    | (with_reducible refine Fr.foldl (fun z a h => ?_) ?_)
    | (with_reducible refine Fr.ite ?_ ?_)
    | (with_reducible refine Fr.eq2 (by assumption) ?_)
    | (with_reducible refine Fr.eq22 (by assumption) ?_)
    | (with_reducible refine Fr.eq1 (by assumption) ?_)
    | (with_reducible refine Fr.eqo (by assumption) ?_)
    | (with_reducible refine Fr.eqo2 (by assumption) ?_)
    | (with_reducible refine Fr.eqo22 (by assumption) ?_)
    | (with_reducible exact Fr2.out (by assumption))
    | dsimp only
    | split
    | (with_reducible refine Fr.trn ?_ rfl)

theorem State.consumeSet_frame {g : ColGroup} {o : ColOp} {x3 : List Nat} {W : Nat} {s₀ s₁ : State} (h₀ : Fr W s₀ s₁) (hw : 96759175187514 &&& W = 96759175187514) :
    Fr2 W s₀ (State.consumeSet s₁ g o x3) := by
  refine Fr2.lift hw h₀ ?_
  clear h₀ hw
  suffices main : ∀ (x3 : List Nat) (g : ColGroup) (o : ColOp) (z : State), Fr 96759175187514 s₁ z → Fr2 96759175187514 s₁ (State.consumeSet z g o x3) from main x3 g o s₁ Fr.refl
  intro x3
  induction x3 with
  | nil =>
    intro g o z h
    first | rw [State.consumeSet] | unfold State.consumeSet
    repeat' first
      | with_reducible assumption
      | (with_reducible refine ih _ _ _ ?_)
      | (with_reducible refine State.takeWindow_frame ?_ rfl)
      | (with_reducible refine Fr2.ite ?_ ?_)
      | (with_reducible refine Fr.eq2 (by assumption) ?_)
      | split
      | (with_reducible refine Fr2.pair ?_)
  | cons b bs ih =>
    intro g o z h
    first | rw [State.consumeSet] | unfold State.consumeSet
    repeat' first
      | with_reducible assumption
      | (with_reducible refine ih _ _ _ ?_)
      | (with_reducible refine State.takeWindow_frame ?_ rfl)
      | (with_reducible refine Fr2.ite ?_ ?_)
      | (with_reducible refine Fr.eq2 (by assumption) ?_)
      | split
      | (with_reducible refine Fr2.pair ?_)

theorem State.abortOp_frame {num : Nat} {status : Nat} {W : Nat} {s₀ s₁ : State} (h₀ : Fr W s₀ s₁) (hw : 131957212909054 &&& W = 131957212909054) :
    Fr W s₀ (State.abortOp s₁ num status) := by
  refine Fr.lift hw h₀ ?_
  have h : Fr 131957212909054 s₁ s₁ := Fr.refl
  clear h₀ hw
  first | rw [State.abortOp] | unfold State.abortOp
  repeat' first
    | with_reducible assumption
    | (with_reducible refine State.withdraw_frame ?_ rfl)
    | (intro x; refine_lift have hb : ∀ y, y = x → Fr 131957212909054 s₁ y := ?_; ?_; all_goals first | (have hx := hb x rfl; clear hb; clear_value x) | (intro y hy; unfold x at hy; rw [hy]; clear hy y))
    | (intro x; clear_value x)
    | (lift_lets; intro x; refine_lift have hb : ∀ y, y = x → Fr 131957212909054 s₁ y := ?_; ?_; all_goals first | (have hx := hb x rfl; clear hb; clear_value x) | (intro y hy; unfold x at hy; rw [hy]; clear hy y))
    | (lift_lets; intro x; clear_value x)
    | (with_reducible refine State.setWindow_frame ?_ rfl)
    | (with_reducible refine State.setOp_frame ?_ rfl)
    | (with_reducible refine State.sendControlAll_frame ?_ rfl)
    | (with_reducible refine Fr.ite ?_ ?_)
    | (with_reducible refine Fr.foldl (fun z a h => ?_) ?_)
    | split

theorem State.colRead_frame {a : Nat} {n : Nat} {W : Nat} {s₀ s₁ : State} (h₀ : Fr W s₀ s₁) (hw : 96759174925370 &&& W = 96759174925370) :
    Fr2 W s₀ (State.colRead s₁ a n) := by
  refine Fr2.lift hw h₀ ?_
  have h : Fr 96759174925370 s₁ s₁ := Fr.refl
  clear h₀ hw
  first | rw [State.colRead] | unfold State.colRead
  repeat' first
    | with_reducible assumption
    | (with_reducible refine State.load_frame ?_ rfl)
    | (with_reducible refine Fr.eq22 (by assumption) ?_)
    | split
    | (with_reducible refine Fr2.pair ?_)

theorem State.colCopy_frame {src : Nat} {dst : Nat} {n : Nat} {W : Nat} {s₀ s₁ : State} (h₀ : Fr W s₀ s₁) (hw : 131943547014206 &&& W = 131943547014206) :
    Fr2 W s₀ (State.colCopy s₁ src dst n) := by
  refine Fr2.lift hw h₀ ?_
  have h : Fr 131943547014206 s₁ s₁ := Fr.refl
  clear h₀ hw
  first | rw [State.colCopy] | unfold State.colCopy
  repeat' first
    | with_reducible assumption
    | (with_reducible refine State.load_frame ?_ rfl)
    | (with_reducible refine State.store_frame ?_ rfl)
    | (with_reducible refine Fr.eq2 (by assumption) ?_)
    | (with_reducible refine Fr.eq22 (by assumption) ?_)
    | split
    | (with_reducible refine Fr2.pair ?_)

theorem State.colCopies_frame {x1 : List (Nat × Nat × Nat)} {W : Nat} {s₀ s₁ : State} (h₀ : Fr W s₀ s₁) (hw : 131943547014206 &&& W = 131943547014206) :
    Fr2 W s₀ (State.colCopies s₁ x1) := by
  refine Fr2.lift hw h₀ ?_
  clear h₀ hw
  suffices main : ∀ (x1 : List (Nat × Nat × Nat))  (z : State), Fr 131943547014206 s₁ z → Fr2 131943547014206 s₁ (State.colCopies z x1) from main x1  s₁ Fr.refl
  intro x1
  induction x1 with
  | nil =>
    intro  z h
    first | rw [State.colCopies] | unfold State.colCopies
    repeat' first
      | with_reducible assumption
      | (with_reducible refine ih _ ?_)
      | (with_reducible refine State.colCopy_frame ?_ rfl)
      | (with_reducible refine Fr.eq2 (by assumption) ?_)
      | split
      | (with_reducible refine Fr2.pair ?_)
  | cons b bs ih =>
    intro  z h
    first | rw [State.colCopies] | unfold State.colCopies
    repeat' first
      | with_reducible assumption
      | (with_reducible refine ih _ ?_)
      | (with_reducible refine State.colCopy_frame ?_ rfl)
      | (with_reducible refine Fr.eq2 (by assumption) ?_)
      | split
      | (with_reducible refine Fr2.pair ?_)

theorem State.hubStep_frame {num : Nat} {g : ColGroup} {o : ColOp} {W : Nat} {s₀ s₁ : State} (h₀ : Fr W s₀ s₁) (hw : 131943547866622 &&& W = 131943547866622) :
    Fr W s₀ (State.hubStep s₁ num g o) := by
  refine Fr.lift hw h₀ ?_
  have h : Fr 131943547866622 s₁ s₁ := Fr.refl
  clear h₀ hw
  first | rw [State.hubStep] | unfold State.hubStep
  repeat' first
    | with_reducible assumption
    | (lift_lets; intro x; refine_lift have hb : ∀ y, y = x → Fr 131943547866622 s₁ y := ?_; ?_; all_goals first | (have hx := hb x rfl; clear hb; clear_value x) | (intro y hy; unfold x at hy; rw [hy]; clear hy y))
    | (lift_lets; intro x; clear_value x)
    | (with_reducible refine State.setWindow_frame ?_ rfl)
    | (with_reducible refine State.colCopies_frame ?_ rfl)
    | (with_reducible refine State.endOp_frame ?_ rfl)
    | (with_reducible refine State.setOp_frame ?_ rfl)
    | (with_reducible refine Fr.ite ?_ ?_)
    | (with_reducible refine Fr.foldl (fun z a h => ?_) ?_)
    | (with_reducible refine Fr2.ite ?_ ?_)
    | (with_reducible refine Fr2.out (State.colCopies_frame ?_ rfl))
    | (with_reducible refine Fr2.out (State.consumeSet_frame ?_ rfl))
    | (with_reducible refine Fr.eq2 (by assumption) ?_)
    | split
    | (with_reducible refine Fr2.pair ?_)
    | dsimp only

theorem State.colGather_frame {x0 : List (Nat × Nat)} {W : Nat} {s₀ s₁ : State} (h₀ : Fr W s₀ s₁) (hw : 96759174925370 &&& W = 96759174925370) :
    Fr2 W s₀ (State.colGather s₁ x0) := by
  refine Fr2.lift hw h₀ ?_
  clear h₀ hw
  suffices main : ∀ (x0 : List (Nat × Nat))  (z : State), Fr 96759174925370 s₁ z → Fr2 96759174925370 s₁ (State.colGather z x0) from main x0  s₁ Fr.refl
  intro x0
  induction x0 with
  | nil =>
    intro  z h
    first | rw [State.colGather] | unfold State.colGather
    repeat' first
      | with_reducible assumption
      | (with_reducible refine Fr2.pair ?_)
      | (with_reducible refine Fr2.ite ?_ ?_)
      | (intro x; refine_lift have hb : ∀ y, y = x → Fr 96759174925370 s₁ y := ?_; ?_; all_goals first | (have hx := hb x rfl; clear hb; clear_value x) | (intro y hy; unfold x at hy; rw [hy]; clear hy y))
      | (intro x; refine_lift have hb : ∀ y, y = x → Fr2 96759174925370 s₁ y := ?_; ?_; all_goals first | (have hx := hb x rfl; clear hb; clear_value x) | (intro y hy; unfold x at hy; rw [hy]; clear hy y))
      | (intro x; refine_lift have hb : ∀ y, y = x → Fr22 96759174925370 s₁ y := ?_; ?_; all_goals first | (have hx := hb x rfl; clear hb; clear_value x) | (intro y hy; unfold x at hy; rw [hy]; clear hy y))
      | (intro x; refine_lift have hb : ∀ y, y = x → Fr1 96759174925370 s₁ y := ?_; ?_; all_goals first | (have hx := hb x rfl; clear hb; clear_value x) | (intro y hy; unfold x at hy; rw [hy]; clear hy y))
      | (intro x; clear_value x)
      | (lift_lets; intro x; refine_lift have hb : ∀ y, y = x → Fr 96759174925370 s₁ y := ?_; ?_; all_goals first | (have hx := hb x rfl; clear hb; clear_value x) | (intro y hy; unfold x at hy; rw [hy]; clear hy y))
      | (lift_lets; intro x; refine_lift have hb : ∀ y, y = x → Fr2 96759174925370 s₁ y := ?_; ?_; all_goals first | (have hx := hb x rfl; clear hb; clear_value x) | (intro y hy; unfold x at hy; rw [hy]; clear hy y))
      | (lift_lets; intro x; refine_lift have hb : ∀ y, y = x → Fr22 96759174925370 s₁ y := ?_; ?_; all_goals first | (have hx := hb x rfl; clear hb; clear_value x) | (intro y hy; unfold x at hy; rw [hy]; clear hy y))
      | (lift_lets; intro x; refine_lift have hb : ∀ y, y = x → Fr1 96759174925370 s₁ y := ?_; ?_; all_goals first | (have hx := hb x rfl; clear hb; clear_value x) | (intro y hy; unfold x at hy; rw [hy]; clear hy y))
      | (lift_lets; intro x; clear_value x)
      | (with_reducible exact Fr2.out (by assumption))
      | (with_reducible exact Fr22.out (by assumption))
      | (with_reducible exact Fr1.out (by assumption))
      | (with_reducible refine State.load_frame ?_ rfl)
      | (with_reducible refine Fr22.out (State.load_frame ?_ rfl))
      | (with_reducible refine Fr.ite ?_ ?_)
      | (with_reducible refine Fr.eq2 (by assumption) ?_)
      | (with_reducible refine Fr.eq22 (by assumption) ?_)
      | (with_reducible refine Fr.eq1 (by assumption) ?_)
      | (with_reducible refine Fr.eqo (by assumption) ?_)
      | (with_reducible refine Fr.eqo2 (by assumption) ?_)
      | (with_reducible refine Fr.eqo22 (by assumption) ?_)
      | (with_reducible exact Fr2.out (by assumption))
      | dsimp only
      | split
  | cons a l ih =>
    intro  z h
    first | rw [State.colGather] | unfold State.colGather
    repeat' first
      | with_reducible assumption
      | (with_reducible refine Fr2.out (ih _ ?_))
      | (with_reducible refine ih _ ?_)
      | (with_reducible refine Fr2.pair ?_)
      | (with_reducible refine Fr2.ite ?_ ?_)
      | (intro x; refine_lift have hb : ∀ y, y = x → Fr 96759174925370 s₁ y := ?_; ?_; all_goals first | (have hx := hb x rfl; clear hb; clear_value x) | (intro y hy; unfold x at hy; rw [hy]; clear hy y))
      | (intro x; refine_lift have hb : ∀ y, y = x → Fr2 96759174925370 s₁ y := ?_; ?_; all_goals first | (have hx := hb x rfl; clear hb; clear_value x) | (intro y hy; unfold x at hy; rw [hy]; clear hy y))
      | (intro x; refine_lift have hb : ∀ y, y = x → Fr22 96759174925370 s₁ y := ?_; ?_; all_goals first | (have hx := hb x rfl; clear hb; clear_value x) | (intro y hy; unfold x at hy; rw [hy]; clear hy y))
      | (intro x; refine_lift have hb : ∀ y, y = x → Fr1 96759174925370 s₁ y := ?_; ?_; all_goals first | (have hx := hb x rfl; clear hb; clear_value x) | (intro y hy; unfold x at hy; rw [hy]; clear hy y))
      | (intro x; clear_value x)
      | (lift_lets; intro x; refine_lift have hb : ∀ y, y = x → Fr 96759174925370 s₁ y := ?_; ?_; all_goals first | (have hx := hb x rfl; clear hb; clear_value x) | (intro y hy; unfold x at hy; rw [hy]; clear hy y))
      | (lift_lets; intro x; refine_lift have hb : ∀ y, y = x → Fr2 96759174925370 s₁ y := ?_; ?_; all_goals first | (have hx := hb x rfl; clear hb; clear_value x) | (intro y hy; unfold x at hy; rw [hy]; clear hy y))
      | (lift_lets; intro x; refine_lift have hb : ∀ y, y = x → Fr22 96759174925370 s₁ y := ?_; ?_; all_goals first | (have hx := hb x rfl; clear hb; clear_value x) | (intro y hy; unfold x at hy; rw [hy]; clear hy y))
      | (lift_lets; intro x; refine_lift have hb : ∀ y, y = x → Fr1 96759174925370 s₁ y := ?_; ?_; all_goals first | (have hx := hb x rfl; clear hb; clear_value x) | (intro y hy; unfold x at hy; rw [hy]; clear hy y))
      | (lift_lets; intro x; clear_value x)
      | (with_reducible exact Fr2.out (by assumption))
      | (with_reducible exact Fr22.out (by assumption))
      | (with_reducible exact Fr1.out (by assumption))
      | (with_reducible refine State.load_frame ?_ rfl)
      | (with_reducible refine Fr22.out (State.load_frame ?_ rfl))
      | (with_reducible refine Fr.ite ?_ ?_)
      | (with_reducible refine Fr.eq2 (by assumption) ?_)
      | (with_reducible refine Fr.eq22 (by assumption) ?_)
      | (with_reducible refine Fr.eq1 (by assumption) ?_)
      | (with_reducible refine Fr.eqo (by assumption) ?_)
      | (with_reducible refine Fr.eqo2 (by assumption) ?_)
      | (with_reducible refine Fr.eqo22 (by assumption) ?_)
      | (with_reducible exact Fr2.out (by assumption))
      | dsimp only
      | split

theorem State.dispatchRows_frame {g : ColGroup} {d : List Byte} {dest : Nat} {W : Nat} {s₀ s₁ : State} (h₀ : Fr W s₀ s₁) (hw : 96759174925370 &&& W = 96759174925370) :
    Fr2 W s₀ (State.dispatchRows s₁ g d dest) := by
  refine Fr2.lift hw h₀ ?_
  have h : Fr 96759174925370 s₁ s₁ := Fr.refl
  clear h₀ hw
  first | rw [State.dispatchRows] | unfold State.dispatchRows
  repeat' first
    | with_reducible assumption
    | (with_reducible refine Fr2.pair ?_)
    | (with_reducible refine Fr2.ite ?_ ?_)
    | (intro x; refine_lift have hb : ∀ y, y = x → Fr 96759174925370 s₁ y := ?_; ?_; all_goals first | (have hx := hb x rfl; clear hb; clear_value x) | (intro y hy; unfold x at hy; rw [hy]; clear hy y))
    | (intro x; refine_lift have hb : ∀ y, y = x → Fr2 96759174925370 s₁ y := ?_; ?_; all_goals first | (have hx := hb x rfl; clear hb; clear_value x) | (intro y hy; unfold x at hy; rw [hy]; clear hy y))
    | (intro x; refine_lift have hb : ∀ y, y = x → Fr22 96759174925370 s₁ y := ?_; ?_; all_goals first | (have hx := hb x rfl; clear hb; clear_value x) | (intro y hy; unfold x at hy; rw [hy]; clear hy y))
    | (intro x; refine_lift have hb : ∀ y, y = x → Fr1 96759174925370 s₁ y := ?_; ?_; all_goals first | (have hx := hb x rfl; clear hb; clear_value x) | (intro y hy; unfold x at hy; rw [hy]; clear hy y))
    | (intro x; clear_value x)
    | (lift_lets; intro x; refine_lift have hb : ∀ y, y = x → Fr 96759174925370 s₁ y := ?_; ?_; all_goals first | (have hx := hb x rfl; clear hb; clear_value x) | (intro y hy; unfold x at hy; rw [hy]; clear hy y))
    | (lift_lets; intro x; refine_lift have hb : ∀ y, y = x → Fr2 96759174925370 s₁ y := ?_; ?_; all_goals first | (have hx := hb x rfl; clear hb; clear_value x) | (intro y hy; unfold x at hy; rw [hy]; clear hy y))
    | (lift_lets; intro x; refine_lift have hb : ∀ y, y = x → Fr22 96759174925370 s₁ y := ?_; ?_; all_goals first | (have hx := hb x rfl; clear hb; clear_value x) | (intro y hy; unfold x at hy; rw [hy]; clear hy y))
    | (lift_lets; intro x; refine_lift have hb : ∀ y, y = x → Fr1 96759174925370 s₁ y := ?_; ?_; all_goals first | (have hx := hb x rfl; clear hb; clear_value x) | (intro y hy; unfold x at hy; rw [hy]; clear hy y))
    | (lift_lets; intro x; clear_value x)
    | (with_reducible exact Fr2.out (by assumption))
    | (with_reducible exact Fr22.out (by assumption))
    | (with_reducible exact Fr1.out (by assumption))
    | (with_reducible refine State.colGather_frame ?_ rfl)
    | (with_reducible refine Fr2.out (State.colGather_frame ?_ rfl))
    | (with_reducible refine Fr.ite ?_ ?_)
    | (with_reducible refine Fr.eq2 (by assumption) ?_)
    | (with_reducible refine Fr.eq22 (by assumption) ?_)
    | (with_reducible refine Fr.eq1 (by assumption) ?_)
    | (with_reducible refine Fr.eqo (by assumption) ?_)
    | (with_reducible refine Fr.eqo2 (by assumption) ?_)
    | (with_reducible refine Fr.eqo22 (by assumption) ?_)
    | (with_reducible exact Fr2.out (by assumption))
    | dsimp only
    | split

theorem State.combineRows_frame {g : ColGroup} {d : List Byte} {dest : Nat} {W : Nat} {s₀ s₁ : State} (h₀ : Fr W s₀ s₁) (hw : 96759174925370 &&& W = 96759174925370) :
    Fr2 W s₀ (State.combineRows s₁ g d dest) := by
  refine Fr2.lift hw h₀ ?_
  have h : Fr 96759174925370 s₁ s₁ := Fr.refl
  clear h₀ hw
  first | rw [State.combineRows] | unfold State.combineRows
  repeat' first
    | with_reducible assumption
    | (with_reducible refine Fr2.pair ?_)
    | (with_reducible refine Fr2.ite ?_ ?_)
    | (intro x; refine_lift have hb : ∀ y, y = x → Fr 96759174925370 s₁ y := ?_; ?_; all_goals first | (have hx := hb x rfl; clear hb; clear_value x) | (intro y hy; unfold x at hy; rw [hy]; clear hy y))
    | (intro x; refine_lift have hb : ∀ y, y = x → Fr2 96759174925370 s₁ y := ?_; ?_; all_goals first | (have hx := hb x rfl; clear hb; clear_value x) | (intro y hy; unfold x at hy; rw [hy]; clear hy y))
    | (intro x; refine_lift have hb : ∀ y, y = x → Fr22 96759174925370 s₁ y := ?_; ?_; all_goals first | (have hx := hb x rfl; clear hb; clear_value x) | (intro y hy; unfold x at hy; rw [hy]; clear hy y))
    | (intro x; refine_lift have hb : ∀ y, y = x → Fr1 96759174925370 s₁ y := ?_; ?_; all_goals first | (have hx := hb x rfl; clear hb; clear_value x) | (intro y hy; unfold x at hy; rw [hy]; clear hy y))
    | (intro x; clear_value x)
    | (lift_lets; intro x; refine_lift have hb : ∀ y, y = x → Fr 96759174925370 s₁ y := ?_; ?_; all_goals first | (have hx := hb x rfl; clear hb; clear_value x) | (intro y hy; unfold x at hy; rw [hy]; clear hy y))
    | (lift_lets; intro x; refine_lift have hb : ∀ y, y = x → Fr2 96759174925370 s₁ y := ?_; ?_; all_goals first | (have hx := hb x rfl; clear hb; clear_value x) | (intro y hy; unfold x at hy; rw [hy]; clear hy y))
    | (lift_lets; intro x; refine_lift have hb : ∀ y, y = x → Fr22 96759174925370 s₁ y := ?_; ?_; all_goals first | (have hx := hb x rfl; clear hb; clear_value x) | (intro y hy; unfold x at hy; rw [hy]; clear hy y))
    | (lift_lets; intro x; refine_lift have hb : ∀ y, y = x → Fr1 96759174925370 s₁ y := ?_; ?_; all_goals first | (have hx := hb x rfl; clear hb; clear_value x) | (intro y hy; unfold x at hy; rw [hy]; clear hy y))
    | (lift_lets; intro x; clear_value x)
    | (with_reducible exact Fr2.out (by assumption))
    | (with_reducible exact Fr22.out (by assumption))
    | (with_reducible exact Fr1.out (by assumption))
    | (with_reducible refine State.colGather_frame ?_ rfl)
    | (with_reducible refine Fr2.out (State.colGather_frame ?_ rfl))
    | (with_reducible refine Fr.ite ?_ ?_)
    | (with_reducible refine Fr.eq2 (by assumption) ?_)
    | (with_reducible refine Fr.eq22 (by assumption) ?_)
    | (with_reducible refine Fr.eq1 (by assumption) ?_)
    | (with_reducible refine Fr.eqo (by assumption) ?_)
    | (with_reducible refine Fr.eqo2 (by assumption) ?_)
    | (with_reducible refine Fr.eqo22 (by assumption) ?_)
    | (with_reducible exact Fr2.out (by assumption))
    | dsimp only
    | split

theorem State.rowsFor_frame {g : ColGroup} {d : List Byte} {dest : Nat} {W : Nat} {s₀ s₁ : State} (h₀ : Fr W s₀ s₁) (hw : 96759174925370 &&& W = 96759174925370) :
    Fr2 W s₀ (State.rowsFor s₁ g d dest) := by
  refine Fr2.lift hw h₀ ?_
  have h : Fr 96759174925370 s₁ s₁ := Fr.refl
  clear h₀ hw
  first | rw [State.rowsFor] | unfold State.rowsFor
  exact Fr2.ite (State.dispatchRows_frame h rfl) (State.combineRows_frame h rfl)

theorem State.putCount_frame {g : ColGroup} {d : List Byte} {src : Nat} {n : Nat} {W : Nat} {s₀ s₁ : State} (h₀ : Fr W s₀ s₁) (hw : 131943547014206 &&& W = 131943547014206) :
    Fr2 W s₀ (State.putCount s₁ g d src n) := by
  refine Fr2.lift hw h₀ ?_
  have h : Fr 131943547014206 s₁ s₁ := Fr.refl
  clear h₀ hw
  first | rw [State.putCount] | unfold State.putCount
  repeat' first
    | with_reducible assumption
    | (with_reducible refine Fr2.pair ?_)
    | (with_reducible refine Fr2.ite ?_ ?_)
    | (intro x; refine_lift have hb : ∀ y, y = x → Fr 131943547014206 s₁ y := ?_; ?_; all_goals first | (have hx := hb x rfl; clear hb; clear_value x) | (intro y hy; unfold x at hy; rw [hy]; clear hy y))
    | (intro x; refine_lift have hb : ∀ y, y = x → Fr2 131943547014206 s₁ y := ?_; ?_; all_goals first | (have hx := hb x rfl; clear hb; clear_value x) | (intro y hy; unfold x at hy; rw [hy]; clear hy y))
    | (intro x; refine_lift have hb : ∀ y, y = x → Fr22 131943547014206 s₁ y := ?_; ?_; all_goals first | (have hx := hb x rfl; clear hb; clear_value x) | (intro y hy; unfold x at hy; rw [hy]; clear hy y))
    | (intro x; refine_lift have hb : ∀ y, y = x → Fr1 131943547014206 s₁ y := ?_; ?_; all_goals first | (have hx := hb x rfl; clear hb; clear_value x) | (intro y hy; unfold x at hy; rw [hy]; clear hy y))
    | (intro x; clear_value x)
    | (lift_lets; intro x; refine_lift have hb : ∀ y, y = x → Fr 131943547014206 s₁ y := ?_; ?_; all_goals first | (have hx := hb x rfl; clear hb; clear_value x) | (intro y hy; unfold x at hy; rw [hy]; clear hy y))
    | (lift_lets; intro x; refine_lift have hb : ∀ y, y = x → Fr2 131943547014206 s₁ y := ?_; ?_; all_goals first | (have hx := hb x rfl; clear hb; clear_value x) | (intro y hy; unfold x at hy; rw [hy]; clear hy y))
    | (lift_lets; intro x; refine_lift have hb : ∀ y, y = x → Fr22 131943547014206 s₁ y := ?_; ?_; all_goals first | (have hx := hb x rfl; clear hb; clear_value x) | (intro y hy; unfold x at hy; rw [hy]; clear hy y))
    | (lift_lets; intro x; refine_lift have hb : ∀ y, y = x → Fr1 131943547014206 s₁ y := ?_; ?_; all_goals first | (have hx := hb x rfl; clear hb; clear_value x) | (intro y hy; unfold x at hy; rw [hy]; clear hy y))
    | (lift_lets; intro x; clear_value x)
    | (with_reducible exact Fr2.out (by assumption))
    | (with_reducible exact Fr22.out (by assumption))
    | (with_reducible exact Fr1.out (by assumption))
    | (with_reducible refine State.store_frame ?_ rfl)
    | (with_reducible refine Fr2.out (State.store_frame ?_ rfl))
    | (with_reducible refine Fr.ite ?_ ?_)
    | (with_reducible exact Fr2.out (by assumption))
    | dsimp only
    | split

theorem State.localRows_frame {num : Nat} {g : ColGroup} {o : ColOp} {W : Nat} {s₀ s₁ : State} (h₀ : Fr W s₀ s₁) (hw : 131943547342334 &&& W = 131943547342334) :
    Fr2 W s₀ (State.localRows s₁ num g o) := by
  refine Fr2.lift hw h₀ ?_
  have h : Fr 131943547342334 s₁ s₁ := Fr.refl
  clear h₀ hw
  first | rw [State.localRows] | unfold State.localRows
  repeat' first
    | with_reducible assumption
    | (with_reducible refine Fr2.pair ?_)
    | (with_reducible refine Fr2.ite ?_ ?_)
    | (intro x; refine_lift have hb : ∀ y, y = x → Fr 131943547342334 s₁ y := ?_; ?_; all_goals first | (have hx := hb x rfl; clear hb; clear_value x) | (intro y hy; unfold x at hy; rw [hy]; clear hy y))
    | (intro x; clear_value x)
    | (lift_lets; intro x; refine_lift have hb : ∀ y, y = x → Fr 131943547342334 s₁ y := ?_; ?_; all_goals first | (have hx := hb x rfl; clear hb; clear_value x) | (intro y hy; unfold x at hy; rw [hy]; clear hy y))
    | (lift_lets; intro x; clear_value x)
    | (with_reducible refine State.rowsFor_frame ?_ rfl)
    | (with_reducible refine Fr2.out (State.rowsFor_frame ?_ rfl))
    | (with_reducible refine State.endOp_frame ?_ rfl)
    | (with_reducible refine State.store_frame ?_ rfl)
    | (with_reducible refine Fr2.out (State.store_frame ?_ rfl))
    | (with_reducible refine State.putCount_frame ?_ rfl)
    | (with_reducible refine Fr2.out (State.putCount_frame ?_ rfl))
    | (with_reducible refine State.setWindow_frame ?_ rfl)
    | (with_reducible refine Fr.ite ?_ ?_)
    | (with_reducible refine Fr.eq2 (by assumption) ?_)
    | (with_reducible refine Fr.eq22 (by assumption) ?_)
    | (with_reducible refine Fr.eq1 (by assumption) ?_)
    | (with_reducible refine Fr.eqo (by assumption) ?_)
    | (with_reducible refine Fr.eqo2 (by assumption) ?_)
    | (with_reducible refine Fr.eqo22 (by assumption) ?_)
    | (with_reducible exact Fr2.out (by assumption))
    | dsimp only
    | split

theorem State.colStep_frame {op : Nat} {num : Nat} {W : Nat} {s₀ s₁ : State} (h₀ : Fr W s₀ s₁) (hw : 131957212909054 &&& W = 131957212909054) :
    Fr W s₀ (State.colStep s₁ op num) := by
  refine Fr.lift hw h₀ ?_
  have h : Fr 131957212909054 s₁ s₁ := Fr.refl
  clear h₀ hw
  first | rw [State.colStep] | unfold State.colStep
  repeat' first
    | with_reducible assumption
    | (with_reducible refine State.localRows_frame ?_ rfl)
    | (with_reducible refine State.endOp_frame ?_ rfl)
    | (with_reducible refine State.hubStep_frame ?_ rfl)
    | (with_reducible refine State.setOp_frame ?_ rfl)
    | (with_reducible refine State.abortOp_frame ?_ rfl)
    | (with_reducible refine State.consumeSet_frame ?_ rfl)
    | (with_reducible refine Fr.ite ?_ ?_)
    | (with_reducible refine Fr2.out (State.consumeSet_frame ?_ rfl))
    | (with_reducible refine Fr2.out (Fr2.ite ?_ ?_))
    | (with_reducible refine Fr22.out (State.colReports_frame ?_ rfl))
    | split

theorem State.chunkData_frame {g : ColGroup} {d : List Byte} {ph : Nat} {r : Nat} {W : Nat} {s₀ s₁ : State} (h₀ : Fr W s₀ s₁) (hw : 96759174925370 &&& W = 96759174925370) :
    Fr2 W s₀ (State.chunkData s₁ g d ph r) := by
  refine Fr2.lift hw h₀ ?_
  have h : Fr 96759174925370 s₁ s₁ := Fr.refl
  clear h₀ hw
  first | rw [State.chunkData] | unfold State.chunkData
  repeat' first
    | with_reducible assumption
    | (with_reducible refine Fr2.pair ?_)
    | (with_reducible refine Fr2.ite ?_ ?_)
    | (with_reducible refine State.rowsFor_frame ?_ rfl)
    | (with_reducible refine Fr2.out (State.rowsFor_frame ?_ rfl))
    | (with_reducible refine Fr.ite ?_ ?_)
    | (with_reducible refine Fr.eq2 (by assumption) ?_)
    | (with_reducible refine Fr.eq22 (by assumption) ?_)
    | (with_reducible refine Fr.eq1 (by assumption) ?_)
    | (with_reducible refine Fr.eqo (by assumption) ?_)
    | (with_reducible refine Fr.eqo2 (by assumption) ?_)
    | (with_reducible refine Fr.eqo22 (by assumption) ?_)
    | dsimp only
    | split

theorem State.portCycles_frame {l : List (Fin 32 × Nat)} {W : Nat} {s₀ s₁ : State} (h₀ : Fr W s₀ s₁) (hw : 64 &&& W = 64) :
    Fr W s₀ (State.portCycles l s₁) := by
  refine Fr.lift hw h₀ ?_
  have h : Fr 64 s₁ s₁ := Fr.refl
  clear h₀ hw
  first | rw [State.portCycles] | unfold State.portCycles
  repeat' first
    | with_reducible assumption
    | (with_reducible refine State.lfsrAdvance_frame ?_ rfl)
    | (with_reducible refine Fr.foldl (fun z a h => ?_) ?_)
    | (with_reducible refine Fr.ite ?_ ?_)
    | split

theorem State.colDiscard_frame {W : Nat} {s₀ s₁ : State} (h₀ : Fr W s₀ s₁) (hw : 2 &&& W = 2) :
    Fr W s₀ (State.colDiscard s₁) := by
  refine Fr.lift hw h₀ ?_
  have h : Fr 2 s₁ s₁ := Fr.refl
  clear h₀ hw
  first | rw [State.colDiscard] | unfold State.colDiscard
  repeat' first
    | with_reducible assumption
    | (with_reducible refine State.cnt_frame ?_ rfl)

theorem State.takeInbox_frame {conn : Nat} {msn : Nat} {W : Nat} {s₀ s₁ : State} (h₀ : Fr W s₀ s₁) (hw : 33554432 &&& W = 33554432) :
    Fr2 W s₀ (State.takeInbox s₁ conn msn) := by
  refine Fr2.lift hw h₀ ?_
  have h : Fr 33554432 s₁ s₁ := Fr.refl
  clear h₀ hw
  first | rw [State.takeInbox] | unfold State.takeInbox
  repeat' first
    | with_reducible assumption
    | (lift_lets; intro x; clear_value x)
    | (with_reducible refine Fr2.pair ?_)
    | dsimp only
    | (with_reducible refine Fr.trn ?_ rfl)

theorem State.dataPart_frame {conn : Nat} {part : (Nat × List Byte) × Option (List Byte) × Bool} {W : Nat} {s₀ s₁ : State} (h₀ : Fr W s₀ s₁) (hw : 131943547079742 &&& W = 131943547079742) :
    Fr2 W s₀ (State.dataPart s₁ conn part) := by
  refine Fr2.lift hw h₀ ?_
  have h : Fr 131943547079742 s₁ s₁ := Fr.refl
  clear h₀ hw
  first | rw [State.dataPart] | unfold State.dataPart
  repeat' first
    | with_reducible assumption
    | (with_reducible refine Fr2.pair ?_)
    | (with_reducible refine Fr2.ite ?_ ?_)
    | (intro x; refine_lift have hb : ∀ y, y = x → Fr 131943547079742 s₁ y := ?_; ?_; all_goals first | (have hx := hb x rfl; clear hb; clear_value x) | (intro y hy; unfold x at hy; rw [hy]; clear hy y))
    | (intro x; clear_value x)
    | (lift_lets; intro x; refine_lift have hb : ∀ y, y = x → Fr 131943547079742 s₁ y := ?_; ?_; all_goals first | (have hx := hb x rfl; clear hb; clear_value x) | (intro y hy; unfold x at hy; rw [hy]; clear hy y))
    | (lift_lets; intro x; clear_value x)
    | (with_reducible refine State.colDiscard_frame ?_ rfl)
    | (with_reducible refine State.store_frame ?_ rfl)
    | (with_reducible refine Fr2.out (State.store_frame ?_ rfl))
    | (with_reducible refine State.endOp_frame ?_ rfl)
    | (with_reducible refine Fr.ite ?_ ?_)
    | (with_reducible refine Fr.eq2 (by assumption) ?_)
    | (with_reducible refine Fr.eq22 (by assumption) ?_)
    | (with_reducible refine Fr.eq1 (by assumption) ?_)
    | (with_reducible refine Fr.eqo (by assumption) ?_)
    | (with_reducible refine Fr.eqo2 (by assumption) ?_)
    | (with_reducible refine Fr.eqo22 (by assumption) ?_)
    | (with_reducible exact Fr2.out (by assumption))
    | dsimp only
    | split

theorem State.dataParts_frame {conn : Nat} {x0 : List ((Nat × List Byte) × Option (List Byte) × Bool)} {W : Nat} {s₀ s₁ : State} (h₀ : Fr W s₀ s₁) (hw : 131943547079742 &&& W = 131943547079742) :
    Fr2 W s₀ (State.dataParts s₁ conn x0) := by
  refine Fr2.lift hw h₀ ?_
  clear h₀ hw
  suffices main : ∀ (x0 : List ((Nat × List Byte) × Option (List Byte) × Bool)) (conn : Nat) (z : State), Fr 131943547079742 s₁ z → Fr2 131943547079742 s₁ (State.dataParts z conn x0) from main x0 conn s₁ Fr.refl
  intro x0
  induction x0 with
  | nil =>
    intro conn z h
    first | rw [State.dataParts] | unfold State.dataParts
    repeat' first
      | with_reducible assumption
      | (with_reducible refine Fr2.pair ?_)
      | (with_reducible refine Fr2.ite ?_ ?_)
      | (intro x; refine_lift have hb : ∀ y, y = x → Fr 131943547079742 s₁ y := ?_; ?_; all_goals first | (have hx := hb x rfl; clear hb; clear_value x) | (intro y hy; unfold x at hy; rw [hy]; clear hy y))
      | (intro x; refine_lift have hb : ∀ y, y = x → Fr2 131943547079742 s₁ y := ?_; ?_; all_goals first | (have hx := hb x rfl; clear hb; clear_value x) | (intro y hy; unfold x at hy; rw [hy]; clear hy y))
      | (intro x; refine_lift have hb : ∀ y, y = x → Fr22 131943547079742 s₁ y := ?_; ?_; all_goals first | (have hx := hb x rfl; clear hb; clear_value x) | (intro y hy; unfold x at hy; rw [hy]; clear hy y))
      | (intro x; refine_lift have hb : ∀ y, y = x → Fr1 131943547079742 s₁ y := ?_; ?_; all_goals first | (have hx := hb x rfl; clear hb; clear_value x) | (intro y hy; unfold x at hy; rw [hy]; clear hy y))
      | (intro x; clear_value x)
      | (lift_lets; intro x; refine_lift have hb : ∀ y, y = x → Fr 131943547079742 s₁ y := ?_; ?_; all_goals first | (have hx := hb x rfl; clear hb; clear_value x) | (intro y hy; unfold x at hy; rw [hy]; clear hy y))
      | (lift_lets; intro x; refine_lift have hb : ∀ y, y = x → Fr2 131943547079742 s₁ y := ?_; ?_; all_goals first | (have hx := hb x rfl; clear hb; clear_value x) | (intro y hy; unfold x at hy; rw [hy]; clear hy y))
      | (lift_lets; intro x; refine_lift have hb : ∀ y, y = x → Fr22 131943547079742 s₁ y := ?_; ?_; all_goals first | (have hx := hb x rfl; clear hb; clear_value x) | (intro y hy; unfold x at hy; rw [hy]; clear hy y))
      | (lift_lets; intro x; refine_lift have hb : ∀ y, y = x → Fr1 131943547079742 s₁ y := ?_; ?_; all_goals first | (have hx := hb x rfl; clear hb; clear_value x) | (intro y hy; unfold x at hy; rw [hy]; clear hy y))
      | (lift_lets; intro x; clear_value x)
      | (with_reducible exact Fr2.out (by assumption))
      | (with_reducible exact Fr22.out (by assumption))
      | (with_reducible exact Fr1.out (by assumption))
      | (with_reducible refine State.dataPart_frame ?_ rfl)
      | (with_reducible refine Fr2.out (State.dataPart_frame ?_ rfl))
      | (with_reducible refine Fr.ite ?_ ?_)
      | (with_reducible exact Fr2.out (by assumption))
      | dsimp only
      | split
  | cons a l ih =>
    intro conn z h
    first | rw [State.dataParts] | unfold State.dataParts
    repeat' first
      | with_reducible assumption
      | (with_reducible refine Fr2.out (ih _ _ ?_))
      | (with_reducible refine ih _ _ ?_)
      | (with_reducible refine Fr2.pair ?_)
      | (with_reducible refine Fr2.ite ?_ ?_)
      | (intro x; refine_lift have hb : ∀ y, y = x → Fr 131943547079742 s₁ y := ?_; ?_; all_goals first | (have hx := hb x rfl; clear hb; clear_value x) | (intro y hy; unfold x at hy; rw [hy]; clear hy y))
      | (intro x; refine_lift have hb : ∀ y, y = x → Fr2 131943547079742 s₁ y := ?_; ?_; all_goals first | (have hx := hb x rfl; clear hb; clear_value x) | (intro y hy; unfold x at hy; rw [hy]; clear hy y))
      | (intro x; refine_lift have hb : ∀ y, y = x → Fr22 131943547079742 s₁ y := ?_; ?_; all_goals first | (have hx := hb x rfl; clear hb; clear_value x) | (intro y hy; unfold x at hy; rw [hy]; clear hy y))
      | (intro x; refine_lift have hb : ∀ y, y = x → Fr1 131943547079742 s₁ y := ?_; ?_; all_goals first | (have hx := hb x rfl; clear hb; clear_value x) | (intro y hy; unfold x at hy; rw [hy]; clear hy y))
      | (intro x; clear_value x)
      | (lift_lets; intro x; refine_lift have hb : ∀ y, y = x → Fr 131943547079742 s₁ y := ?_; ?_; all_goals first | (have hx := hb x rfl; clear hb; clear_value x) | (intro y hy; unfold x at hy; rw [hy]; clear hy y))
      | (lift_lets; intro x; refine_lift have hb : ∀ y, y = x → Fr2 131943547079742 s₁ y := ?_; ?_; all_goals first | (have hx := hb x rfl; clear hb; clear_value x) | (intro y hy; unfold x at hy; rw [hy]; clear hy y))
      | (lift_lets; intro x; refine_lift have hb : ∀ y, y = x → Fr22 131943547079742 s₁ y := ?_; ?_; all_goals first | (have hx := hb x rfl; clear hb; clear_value x) | (intro y hy; unfold x at hy; rw [hy]; clear hy y))
      | (lift_lets; intro x; refine_lift have hb : ∀ y, y = x → Fr1 131943547079742 s₁ y := ?_; ?_; all_goals first | (have hx := hb x rfl; clear hb; clear_value x) | (intro y hy; unfold x at hy; rw [hy]; clear hy y))
      | (lift_lets; intro x; clear_value x)
      | (with_reducible exact Fr2.out (by assumption))
      | (with_reducible exact Fr22.out (by assumption))
      | (with_reducible exact Fr1.out (by assumption))
      | (with_reducible refine State.dataPart_frame ?_ rfl)
      | (with_reducible refine Fr2.out (State.dataPart_frame ?_ rfl))
      | (with_reducible refine Fr.ite ?_ ?_)
      | (with_reducible exact Fr2.out (by assumption))
      | dsimp only
      | split

theorem State.freeWindow_frame {g : ColGroup} {d : List Byte} {x3 : Nat} {W : Nat} {s₀ s₁ : State} (h₀ : Fr W s₀ s₁) (hw : 96759175187770 &&& W = 96759175187770) :
    Fr W s₀ (State.freeWindow s₁ g d x3) := by
  refine Fr.lift hw h₀ ?_
  clear h₀ hw
  suffices main : ∀ (x3 : Nat) (g : ColGroup) (d : List Byte) (z : State), Fr 96759175187770 s₁ z → Fr 96759175187770 s₁ (State.freeWindow z g d x3) from main x3 g d s₁ Fr.refl
  intro x3
  induction x3 with
  | zero =>
    intro g d z h
    first | rw [State.freeWindow] | unfold State.freeWindow
    repeat' first
      | with_reducible assumption
      | (with_reducible refine ih _ _ _ ?_)
      | (with_reducible refine State.putFlag_frame ?_ rfl)
      | (with_reducible refine State.tick_frame ?_ rfl)
      | (with_reducible refine State.translate_frame ?_ rfl)
      | (with_reducible refine Fr.eq2 (by assumption) ?_)
      | split
  | succ n ih =>
    intro g d z h
    first | rw [State.freeWindow] | unfold State.freeWindow
    repeat' first
      | with_reducible assumption
      | (with_reducible refine ih _ _ _ ?_)
      | (with_reducible refine State.putFlag_frame ?_ rfl)
      | (with_reducible refine State.tick_frame ?_ rfl)
      | (with_reducible refine State.translate_frame ?_ rfl)
      | (with_reducible refine Fr.eq2 (by assumption) ?_)
      | split

theorem State.freeRanges_frame {l : List (Nat × Nat)} {W : Nat} {s₀ s₁ : State} (h₀ : Fr W s₀ s₁) (hw : 131943547014462 &&& W = 131943547014462) :
    Fr W s₀ (State.freeRanges s₁ l) := by
  refine Fr.lift hw h₀ ?_
  have h : Fr 131943547014462 s₁ s₁ := Fr.refl
  clear h₀ hw
  first | rw [State.freeRanges] | unfold State.freeRanges
  repeat' first
    | with_reducible assumption
    | (with_reducible refine State.poke_frame ?_ rfl)
    | (with_reducible refine State.tick_frame ?_ rfl)
    | (with_reducible refine Fr.foldl (fun z a h => ?_) ?_)
    | (with_reducible refine Fr.ite ?_ ?_)
    | split

theorem State.colRecord_frame {q : Nat} {d : Issued} {status : Nat} {dropped : Nat} {active : Nat} {W : Nat} {s₀ s₁ : State} (h₀ : Fr W s₀ s₁) (hw : 131943547014206 &&& W = 131943547014206) :
    Fr W s₀ (State.colRecord s₁ q d status dropped active) := by
  refine Fr.lift hw h₀ ?_
  have h : Fr 131943547014206 s₁ s₁ := Fr.refl
  clear h₀ hw
  first | rw [State.colRecord] | unfold State.colRecord
  repeat' first
    | with_reducible assumption
    | (with_reducible refine State.writeCmplRecord_frame ?_ rfl)

theorem State.colLive_frame {d : Issued} {st : Nat} {mine : Bool} {W : Nat} {s₀ s₁ : State} (h₀ : Fr W s₀ s₁) (hw : 131943547014206 &&& W = 131943547014206) :
    Fr W s₀ (State.colLive s₁ d st mine) := by
  refine Fr.lift hw h₀ ?_
  have h : Fr 131943547014206 s₁ s₁ := Fr.refl
  clear h₀ hw
  first | rw [State.colLive] | unfold State.colLive
  repeat' first
    | with_reducible assumption
    | (with_reducible refine State.setLive_frame ?_ rfl)
    | (with_reducible refine Fr.ite ?_ ?_)
    | (with_reducible refine Fr.onSome ?_ (fun a => ?_))

theorem State.colUnbind_frame {d : Issued} {mine : Bool} {W : Nat} {s₀ s₁ : State} (h₀ : Fr W s₀ s₁) (hw : 524288 &&& W = 524288) :
    Fr W s₀ (State.colUnbind s₁ d mine) := by
  refine Fr.lift hw h₀ ?_
  have h : Fr 524288 s₁ s₁ := Fr.refl
  clear h₀ hw
  first | rw [State.colUnbind] | unfold State.colUnbind
  repeat' first
    | with_reducible assumption
    | (with_reducible refine State.setGrp_frame ?_ rfl)
    | (with_reducible refine Fr.ite ?_ ?_)
    | (with_reducible refine Fr.onSome ?_ (fun a => ?_))

theorem State.dropBegun_frame {n : Nat} {d : Issued} {W : Nat} {s₀ s₁ : State} (h₀ : Fr W s₀ s₁) (hw : 524288 &&& W = 524288) :
    Fr W s₀ (State.dropBegun s₁ n d) := by
  refine Fr.lift hw h₀ ?_
  have h : Fr 524288 s₁ s₁ := Fr.refl
  clear h₀ hw
  first | rw [State.dropBegun] | unfold State.dropBegun
  repeat' first
    | with_reducible assumption
    | (with_reducible refine Fr.ite ?_ ?_)
    | split
    | (with_reducible refine Fr.col ?_ rfl)

theorem State.colFinish_frame {n : Nat} {d : Issued} {st : Nat} {dropped : Nat} {flag : Option Nat} {W : Nat} {s₀ s₁ : State} (h₀ : Fr W s₀ s₁) (hw : 131943547866622 &&& W = 131943547866622) :
    Fr W s₀ (State.colFinish s₁ n d st dropped flag) := by
  refine Fr.lift hw h₀ ?_
  have h : Fr 131943547866622 s₁ s₁ := Fr.refl
  clear h₀ hw
  first | rw [State.colFinish] | unfold State.colFinish
  repeat' first
    | with_reducible assumption
    | (with_reducible refine State.dropBegun_frame ?_ rfl)
    | (with_reducible refine State.retire_frame ?_ rfl)
    | (with_reducible refine State.colRecord_frame ?_ rfl)
    | (with_reducible refine State.colUnbind_frame ?_ rfl)
    | (with_reducible refine State.flagSet_frame ?_ rfl)
    | (with_reducible refine State.sf_frame ?_ rfl)
    | (with_reducible refine State.enterBarrier_frame ?_ rfl)
    | (with_reducible refine State.colLive_frame ?_ rfl)
    | (with_reducible refine Fr.ite ?_ ?_)
    | (with_reducible refine Fr.onSome ?_ (fun a => ?_))

theorem State.showSlots_frame {W : Nat} {s₀ s₁ : State} (h₀ : Fr W s₀ s₁) (hw : 2 &&& W = 2) :
    Fr W s₀ (State.showSlots s₁) := by
  refine Fr.lift hw h₀ ?_
  have h : Fr 2 s₁ s₁ := Fr.refl
  clear h₀ hw
  first | rw [State.showSlots] | unfold State.showSlots
  repeat' first
    | with_reducible assumption
    | (with_reducible refine State.sf_frame ?_ rfl)
    | split

theorem State.slotCommit_frame {base : Nat} {es : List Nat} {W : Nat} {s₀ s₁ : State} (h₀ : Fr W s₀ s₁) (hw : 524290 &&& W = 524290) :
    Fr1 W s₀ (State.slotCommit s₁ base es) := by
  refine Fr1.lift hw h₀ ?_
  have h : Fr 524290 s₁ s₁ := Fr.refl
  clear h₀ hw
  first | rw [State.slotCommit] | unfold State.slotCommit
  repeat' first
    | with_reducible assumption
    | (lift_lets; intro x; clear_value x)
    | (with_reducible refine State.wr64_frame ?_ rfl)
    | (with_reducible refine State.showSlots_frame ?_ rfl)
    | (with_reducible refine State.colRefusal_frame ?_ rfl)
    | (with_reducible refine State.sf_frame ?_ rfl)
    | (with_reducible refine Fr.ite ?_ ?_)
    | (with_reducible refine Fr1.pair ?_)
    | (with_reducible refine Fr.col ?_ rfl)

theorem writeColSlotCtl_frame {q : Requester} {v : W32} {W : Nat} {s₀ s₁ : State} (h₀ : Fr W s₀ s₁) (hw : 96759175449658 &&& W = 96759175449658) :
    Fr W s₀ (writeColSlotCtl q v s₁) := by
  refine Fr.lift hw h₀ ?_
  have h : Fr 96759175449658 s₁ s₁ := Fr.refl
  clear h₀ hw
  first | rw [writeColSlotCtl] | unfold writeColSlotCtl
  repeat' first
    | with_reducible assumption
    | (with_reducible refine State.load_frame ?_ rfl)
    | (with_reducible refine Fr22.out (State.load_frame ?_ rfl))
    | (intro x; refine_lift have hb : ∀ y, y = x → Fr 96759175449658 s₁ y := ?_; ?_; all_goals first | (have hx := hb x rfl; clear hb; clear_value x) | (intro y hy; unfold x at hy; rw [hy]; clear hy y))
    | (intro x; clear_value x)
    | (lift_lets; intro x; clear_value x)
    | (with_reducible refine State.wr64_frame ?_ rfl)
    | (with_reducible refine State.showSlots_frame ?_ rfl)
    | (with_reducible refine State.colRefusal_frame ?_ rfl)
    | (with_reducible refine State.sf_frame ?_ rfl)
    | (with_reducible refine Fr.ite ?_ ?_)
    | (with_reducible refine Fr.onSome ?_ (fun a => ?_))
    | (with_reducible refine Fr1.out (State.slotCommit_frame ?_ rfl))
    | (with_reducible refine Fr.col ?_ rfl)

theorem writeColSlotAdmin_frame {q : Requester} {off : Nat} {mask : W32} {v : W32} {W : Nat} {s₀ s₁ : State} (h₀ : Fr W s₀ s₁) (hw : 2 &&& W = 2) :
    Fr W s₀ (writeColSlotAdmin q off mask v s₁) := by
  refine Fr.lift hw h₀ ?_
  have h : Fr 2 s₁ s₁ := Fr.refl
  clear h₀ hw
  first | rw [writeColSlotAdmin] | unfold writeColSlotAdmin
  repeat' first
    | with_reducible assumption
    | (with_reducible refine State.wr_frame ?_ rfl)
    | (with_reducible refine Fr.ite ?_ ?_)

theorem writeColSlotStatus_frame {q : Requester} {v : W32} {W : Nat} {s₀ s₁ : State} (h₀ : Fr W s₀ s₁) (hw : 2 &&& W = 2) :
    Fr W s₀ (writeColSlotStatus q v s₁) := by
  refine Fr.lift hw h₀ ?_
  have h : Fr 2 s₁ s₁ := Fr.refl
  clear h₀ hw
  first | rw [writeColSlotStatus] | unfold writeColSlotStatus
  repeat' first
    | with_reducible assumption
    | (with_reducible refine State.sf_frame ?_ rfl)
    | (with_reducible refine Fr.ite ?_ ?_)

end Sys2Proof.Machine
end

