-- ==== Sys2Proof/Laws/FramePower.lean ====
section
/-! SUPPORT. Frames of the functions of Machine/Power.lean: which parts of the state each may change. -/

namespace Sys2Proof.Machine

theorem State.setLevel_frame {d : Nat} {l : Nat} {W : Nat} {s₀ s₁ : State} (h₀ : Fr W s₀ s₁) (hw : 2 &&& W = 2) :
    Fr W s₀ (State.setLevel s₁ d l) := by
  refine Fr.lift hw h₀ ?_
  have h : Fr 2 s₁ s₁ := Fr.refl
  clear h₀ hw
  first | rw [State.setLevel] | unfold State.setLevel
  repeat' first
    | with_reducible assumption
    | (with_reducible refine State.sf_frame ?_ rfl)
    | (with_reducible refine Fr.ite ?_ ?_)

theorem State.throttleEvent_frame {cause : Nat} {unit : Nat} {level : Nat} {W : Nat} {s₀ s₁ : State} (h₀ : Fr W s₀ s₁) (hw : 2147486754 &&& W = 2147486754) :
    Fr W s₀ (State.throttleEvent s₁ cause unit level) := by
  refine Fr.lift hw h₀ ?_
  have h : Fr 2147486754 s₁ s₁ := Fr.refl
  clear h₀ hw
  first | rw [State.throttleEvent] | unfold State.throttleEvent
  repeat' first
    | with_reducible assumption
    | (with_reducible refine State.event_frame ?_ rfl)

theorem writePwrLevels_frame {q : Requester} {v : W32} {W : Nat} {s₀ s₁ : State} (h₀ : Fr W s₀ s₁) (hw : 2 &&& W = 2) :
    Fr W s₀ (writePwrLevels q v s₁) := by
  refine Fr.lift hw h₀ ?_
  have h : Fr 2 s₁ s₁ := Fr.refl
  clear h₀ hw
  first | rw [writePwrLevels] | unfold writePwrLevels
  repeat' first
    | with_reducible assumption
    | (with_reducible refine State.setLevel_frame ?_ rfl)
    | (with_reducible refine Fr.ite ?_ ?_)
    | (with_reducible refine Fr.foldl (fun z a h => ?_) ?_)

theorem State.railFail_frame {k : Nat} {status : Nat} {W : Nat} {s₀ s₁ : State} (h₀ : Fr W s₀ s₁) (hw : 98958198180898 &&& W = 98958198180898) :
    Fr W s₀ (State.railFail s₁ k status) := by
  refine Fr.lift hw h₀ ?_
  have h : Fr 98958198180898 s₁ s₁ := Fr.refl
  clear h₀ hw
  first | rw [State.railFail] | unfold State.railFail
  repeat' first
    | with_reducible assumption
    | (intro x; refine_lift have hb : ∀ y, y = x → Fr 98958198180898 s₁ y := ?_; ?_; all_goals first | (have hx := hb x rfl; clear hb; clear_value x) | (intro y hy; unfold x at hy; rw [hy]; clear hy y))
    | (lift_lets; intro x; clear_value x)
    | (with_reducible refine State.fault_frame ?_ rfl)
    | (with_reducible refine State.throttleEvent_frame ?_ rfl)
    | (with_reducible refine State.sf_frame ?_ rfl)
    | (with_reducible refine Fr.ite ?_ ?_)
    | (with_reducible refine Fr.foldl (fun z a h => ?_) ?_)
    | (with_reducible refine Fr.pwr ?_ rfl)

theorem State.readRail_frame {k : Nat} {r : RailRead} {W : Nat} {s₀ s₁ : State} (h₀ : Fr W s₀ s₁) (hw : 98958198180898 &&& W = 98958198180898) :
    Fr W s₀ (State.readRail s₁ k r) := by
  refine Fr.lift hw h₀ ?_
  have h : Fr 98958198180898 s₁ s₁ := Fr.refl
  clear h₀ hw
  first | rw [State.readRail] | unfold State.readRail
  repeat' first
    | with_reducible assumption
    | (lift_lets; intro x; clear_value x)
    | (with_reducible refine State.railFail_frame ?_ rfl)
    | (with_reducible refine Fr.ite ?_ ?_)
    | split
    | (with_reducible refine Fr.pwr ?_ rfl)

theorem State.fastDrop_frame {k : Nat} {W : Nat} {s₀ s₁ : State} (h₀ : Fr W s₀ s₁) (hw : 2201170742306 &&& W = 2201170742306) :
    Fr W s₀ (State.fastDrop s₁ k) := by
  refine Fr.lift hw h₀ ?_
  have h : Fr 2201170742306 s₁ s₁ := Fr.refl
  clear h₀ hw
  first | rw [State.fastDrop] | unfold State.fastDrop
  repeat' first
    | with_reducible assumption
    | (intro x; refine_lift have hb : ∀ y, y = x → Fr 2201170742306 s₁ y := ?_; ?_; all_goals first | (have hx := hb x rfl; clear hb; clear_value x) | (intro y hy; unfold x at hy; rw [hy]; clear hy y))
    | (intro x; clear_value x)
    | (lift_lets; intro x; refine_lift have hb : ∀ y, y = x → Fr 2201170742306 s₁ y := ?_; ?_; all_goals first | (have hx := hb x rfl; clear hb; clear_value x) | (intro y hy; unfold x at hy; rw [hy]; clear hy y))
    | (with_reducible refine State.throttleEvent_frame ?_ rfl)
    | (with_reducible refine State.sf_frame ?_ rfl)
    | (with_reducible refine State.setLevel_frame ?_ rfl)
    | (with_reducible refine Fr.ite ?_ ?_)
    | (with_reducible refine Fr.foldl (fun z a h => ?_) ?_)
    | (with_reducible refine Fr.pwr ?_ rfl)

theorem writePwrBudget_frame {q : Requester} {v : W32} {W : Nat} {s₀ s₁ : State} (h₀ : Fr W s₀ s₁) (hw : 2199023255554 &&& W = 2199023255554) :
    Fr W s₀ (writePwrBudget q v s₁) := by
  refine Fr.lift hw h₀ ?_
  have h : Fr 2199023255554 s₁ s₁ := Fr.refl
  clear h₀ hw
  first | rw [writePwrBudget] | unfold writePwrBudget
  repeat' first
    | with_reducible assumption
    | (intro x; clear_value x)
    | (lift_lets; intro x; refine_lift have hb : ∀ y, y = x → Fr 2199023255554 s₁ y := ?_; ?_; all_goals first | (have hx := hb x rfl; clear hb; clear_value x) | (intro y hy; unfold x at hy; rw [hy]; clear hy y))
    | (with_reducible refine State.wr_frame ?_ rfl)
    | (with_reducible refine Fr.ite ?_ ?_)
    | (with_reducible refine Fr.pwr ?_ rfl)

theorem State.setDieTemp_frame {d : Nat} {t : Nat} {W : Nat} {s₀ s₁ : State} (h₀ : Fr W s₀ s₁) (hw : 2 &&& W = 2) :
    Fr W s₀ (State.setDieTemp s₁ d t) := by
  refine Fr.lift hw h₀ ?_
  have h : Fr 2 s₁ s₁ := Fr.refl
  clear h₀ hw
  first | rw [State.setDieTemp] | unfold State.setDieTemp
  repeat' first
    | with_reducible assumption
    | (with_reducible refine State.sf_frame ?_ rfl)
    | (with_reducible refine Fr.ite ?_ ?_)

theorem State.dieUpdate_frame {d : Nat} {t : Nat} {W : Nat} {s₀ s₁ : State} (h₀ : Fr W s₀ s₁) (hw : 98958198180898 &&& W = 98958198180898) :
    Fr W s₀ (State.dieUpdate s₁ d t) := by
  refine Fr.lift hw h₀ ?_
  have h : Fr 98958198180898 s₁ s₁ := Fr.refl
  clear h₀ hw
  first | rw [State.dieUpdate] | unfold State.dieUpdate
  repeat' first
    | with_reducible assumption
    | (intro x; clear_value x)
    | (lift_lets; intro x; refine_lift have hb : ∀ y, y = x → Fr 98958198180898 s₁ y := ?_; ?_; all_goals first | (have hx := hb x rfl; clear hb; clear_value x) | (intro y hy; unfold x at hy; rw [hy]; clear hy y))
    | (with_reducible refine State.fault_frame ?_ rfl)
    | (with_reducible refine State.throttleEvent_frame ?_ rfl)
    | (with_reducible refine State.sf_frame ?_ rfl)
    | (with_reducible refine State.setDieTemp_frame ?_ rfl)
    | (with_reducible refine State.setLevel_frame ?_ rfl)
    | (with_reducible refine Fr.ite ?_ ?_)
    | (with_reducible refine Fr.pwr ?_ rfl)

theorem State.thermalStep_frame {W : Nat} {s₀ s₁ : State} (h₀ : Fr W s₀ s₁) (hw : 2199023255552 &&& W = 2199023255552) :
    Fr W s₀ (State.thermalStep s₁) := by
  refine Fr.lift hw h₀ ?_
  have h : Fr 2199023255552 s₁ s₁ := Fr.refl
  clear h₀ hw
  first | rw [State.thermalStep] | unfold State.thermalStep
  repeat' first
    | with_reducible assumption
    | (lift_lets; intro x; clear_value x)
    | split
    | dsimp only
    | (with_reducible refine Fr.pwr ?_ rfl)

theorem State.planRecord_frame {p : PwrPlan} {work : List PwrWork} {W : Nat} {s₀ s₁ : State} (h₀ : Fr W s₀ s₁) (hw : 2199023255552 &&& W = 2199023255552) :
    Fr W s₀ (State.planRecord s₁ p work) := by
  refine Fr.lift hw h₀ ?_
  have h : Fr 2199023255552 s₁ s₁ := Fr.refl
  clear h₀ hw
  first | rw [State.planRecord] | unfold State.planRecord
  repeat' first
    | with_reducible assumption
    | (lift_lets; intro x; clear_value x)
    | dsimp only
    | (with_reducible refine Fr.pwr ?_ rfl)

theorem State.planLevels_frame {p : PwrPlan} {W : Nat} {s₀ s₁ : State} (h₀ : Fr W s₀ s₁) (hw : 2 &&& W = 2) :
    Fr W s₀ (State.planLevels s₁ p) := by
  refine Fr.lift hw h₀ ?_
  have h : Fr 2 s₁ s₁ := Fr.refl
  clear h₀ hw
  first | rw [State.planLevels] | unfold State.planLevels
  repeat' first
    | with_reducible assumption
    | (lift_lets; intro x; clear_value x)
    | (with_reducible refine State.setLevel_frame ?_ rfl)
    | (with_reducible refine Fr.ite ?_ ?_)
    | (with_reducible refine Fr.foldl (fun z a h => ?_) ?_)

theorem State.planBreach_frame {p : PwrPlan} {W : Nat} {s₀ s₁ : State} (h₀ : Fr W s₀ s₁) (hw : 2147486754 &&& W = 2147486754) :
    Fr W s₀ (State.planBreach s₁ p) := by
  refine Fr.lift hw h₀ ?_
  have h : Fr 2147486754 s₁ s₁ := Fr.refl
  clear h₀ hw
  first | rw [State.planBreach] | unfold State.planBreach
  repeat' first
    | with_reducible assumption
    | (with_reducible refine State.throttleEvent_frame ?_ rfl)
    | (with_reducible refine State.sf_frame ?_ rfl)
    | (with_reducible refine Fr.onSome ?_ (fun a => ?_))

theorem State.planPace_frame {fits : Bool} {W : Nat} {s₀ s₁ : State} (h₀ : Fr W s₀ s₁) (hw : 2147486754 &&& W = 2147486754) :
    Fr W s₀ (State.planPace s₁ fits) := by
  refine Fr.lift hw h₀ ?_
  have h : Fr 2147486754 s₁ s₁ := Fr.refl
  clear h₀ hw
  first | rw [State.planPace] | unfold State.planPace
  repeat' first
    | with_reducible assumption
    | (with_reducible refine State.throttleEvent_frame ?_ rfl)
    | (with_reducible refine State.sf_frame ?_ rfl)
    | (with_reducible refine Fr.ite ?_ ?_)

theorem State.governPlan_frame {b : Nat} {work : List PwrWork} {W : Nat} {s₀ s₁ : State} (h₀ : Fr W s₀ s₁) (hw : 2201170742306 &&& W = 2201170742306) :
    Fr W s₀ (State.governPlan s₁ b work) := by
  refine Fr.lift hw h₀ ?_
  have h : Fr 2201170742306 s₁ s₁ := Fr.refl
  clear h₀ hw
  first | rw [State.governPlan] | unfold State.governPlan
  repeat' first
    | with_reducible assumption
    | (with_reducible refine State.planLevels_frame ?_ rfl)
    | (with_reducible refine State.planPace_frame ?_ rfl)
    | (with_reducible refine State.planRecord_frame ?_ rfl)
    | (with_reducible refine State.planBreach_frame ?_ rfl)

theorem State.govern_frame {used : Nat} {old : Nat} {lim : Nat} {work : List PwrWork} {W : Nat} {s₀ s₁ : State} (h₀ : Fr W s₀ s₁) (hw : 2201170742306 &&& W = 2201170742306) :
    Fr W s₀ (State.govern s₁ used old lim work) := by
  refine Fr.lift hw h₀ ?_
  have h : Fr 2201170742306 s₁ s₁ := Fr.refl
  clear h₀ hw
  first | rw [State.govern] | unfold State.govern
  repeat' first
    | with_reducible assumption
    | (intro x; refine_lift have hb : ∀ y, y = x → Fr 2201170742306 s₁ y := ?_; ?_; all_goals first | (have hx := hb x rfl; clear hb; clear_value x) | (intro y hy; unfold x at hy; rw [hy]; clear hy y))
    | (intro x; clear_value x)
    | (lift_lets; intro x; clear_value x)
    | (with_reducible refine State.governPlan_frame ?_ rfl)
    | (with_reducible refine State.wr_frame ?_ rfl)
    | (with_reducible refine State.thermalStep_frame ?_ rfl)
    | (with_reducible refine Fr.pwr ?_ rfl)

theorem writePwrCtl_frame {q : Requester} {v : W32} {W : Nat} {s₀ s₁ : State} (h₀ : Fr W s₀ s₁) (hw : 2 &&& W = 2) :
    Fr W s₀ (writePwrCtl q v s₁) := by
  refine Fr.lift hw h₀ ?_
  have h : Fr 2 s₁ s₁ := Fr.refl
  clear h₀ hw
  first | rw [writePwrCtl] | unfold writePwrCtl
  repeat' first
    | with_reducible assumption
    | (intro x; refine_lift have hb : ∀ y, y = x → Fr 2 s₁ y := ?_; ?_; all_goals first | (have hx := hb x rfl; clear hb; clear_value x) | (intro y hy; unfold x at hy; rw [hy]; clear hy y))
    | (lift_lets; intro x; clear_value x)
    | (with_reducible refine State.wr_frame ?_ rfl)
    | (with_reducible refine State.sf_frame ?_ rfl)
    | (with_reducible refine Fr.ite ?_ ?_)
    | split

theorem writePwrPlain_frame {q : Requester} {off : Nat} {mask : W32} {v : W32} {W : Nat} {s₀ s₁ : State} (h₀ : Fr W s₀ s₁) (hw : 2 &&& W = 2) :
    Fr W s₀ (writePwrPlain q off mask v s₁) := by
  refine Fr.lift hw h₀ ?_
  have h : Fr 2 s₁ s₁ := Fr.refl
  clear h₀ hw
  first | rw [writePwrPlain] | unfold writePwrPlain
  repeat' first
    | with_reducible assumption
    | (with_reducible refine State.wr_frame ?_ rfl)
    | (with_reducible refine Fr.ite ?_ ?_)

theorem writePwrStatus_frame {q : Requester} {v : W32} {W : Nat} {s₀ s₁ : State} (h₀ : Fr W s₀ s₁) (hw : 2 &&& W = 2) :
    Fr W s₀ (writePwrStatus q v s₁) := by
  refine Fr.lift hw h₀ ?_
  have h : Fr 2 s₁ s₁ := Fr.refl
  clear h₀ hw
  first | rw [writePwrStatus] | unfold writePwrStatus
  repeat' first
    | with_reducible assumption
    | (with_reducible refine State.wr_frame ?_ rfl)
    | (with_reducible refine Fr.ite ?_ ?_)

theorem State.telSend_frame {x0 : Nat} {x1 : TelExport} {W : Nat} {s₀ s₁ : State} (h₀ : Fr W s₀ s₁) (hw : 268435456 &&& W = 268435456) :
    Fr2 W s₀ (State.telSend x0 x1 s₁) := by
  refine Fr2.lift hw h₀ ?_
  clear h₀ hw
  suffices main : ∀ (x0 : Nat) (x1 : TelExport) (z : State), Fr 268435456 s₁ z → Fr2 268435456 s₁ (State.telSend x0 x1 z) from main x0 x1 s₁ Fr.refl
  intro x0
  induction x0 with
  | zero =>
    intro x1 z h
    first | rw [State.telSend] | unfold State.telSend
    repeat' first
      | with_reducible assumption
      | (with_reducible refine ih _ _ ?_)
      | split
      | (with_reducible refine Fr2.pair ?_)
      | (with_reducible refine Fr.chanQ ?_ rfl)
  | succ n ih =>
    intro x1 z h
    first | rw [State.telSend] | unfold State.telSend
    repeat' first
      | with_reducible assumption
      | (with_reducible refine ih _ _ ?_)
      | split
      | (with_reducible refine Fr2.pair ?_)
      | (with_reducible refine Fr.chanQ ?_ rfl)

theorem State.telTemplate_frame {x : TelExport} {W : Nat} {s₀ s₁ : State} (h₀ : Fr W s₀ s₁) (hw : 2199291691008 &&& W = 2199291691008) :
    Fr W s₀ (State.telTemplate s₁ x) := by
  refine Fr.lift hw h₀ ?_
  have h : Fr 2199291691008 s₁ s₁ := Fr.refl
  clear h₀ hw
  first | rw [State.telTemplate] | unfold State.telTemplate
  repeat' first
    | with_reducible assumption
    | (lift_lets; intro x; clear_value x)
    | dsimp only
    | (with_reducible refine Fr.upd_chanQ_pwr ?_ rfl rfl)

theorem State.islandAnswer_frame {bs : List Byte} {W : Nat} {s₀ s₁ : State} (h₀ : Fr W s₀ s₁) (hw : 8192 &&& W = 8192) :
    Fr W s₀ (State.islandAnswer s₁ bs) := by
  refine Fr.lift hw h₀ ?_
  have h : Fr 8192 s₁ s₁ := Fr.refl
  clear h₀ hw
  first | rw [State.islandAnswer] | unfold State.islandAnswer
  repeat' first
    | with_reducible assumption
    | (with_reducible refine Fr.ite ?_ ?_)
    | (with_reducible refine Fr.answer32 ?_ rfl)

end Sys2Proof.Machine
end

