-- ==== Sys2Proof/Laws/FrameSecurity.lean ====
section
/-! SUPPORT. Frames of the functions of Machine/Security.lean: which parts of the state each may change. -/

namespace Sys2Proof.Machine

theorem State.unstallPorts_frame {W : Nat} {s₀ s₁ : State} (h₀ : Fr W s₀ s₁) (hw : 131956641631294 &&& W = 131956641631294) :
    Fr W s₀ (State.unstallPorts s₁) := by
  refine Fr.lift hw h₀ ?_
  have h : Fr 131956641631294 s₁ s₁ := Fr.refl
  clear h₀ hw
  first | rw [State.unstallPorts] | unfold State.unstallPorts
  repeat' first
    | with_reducible assumption
    | (with_reducible refine State.unstall_frame ?_ rfl)
    | (with_reducible refine State.ethUnstall_frame ?_ rfl)
    | (with_reducible refine Fr.ite ?_ ?_)
    | (with_reducible refine Fr.foldl (fun z a h => ?_) ?_)

theorem State.keyWrite_frame {r : SynReq} {opcode : Nat} {k : Nat} {v : KeySlot} {waitMs : Nat} {W : Nat} {s₀ s₁ : State} (h₀ : Fr W s₀ s₁) (hw : 1073741826 &&& W = 1073741826) :
    Fr1 W s₀ (State.keyWrite s₁ r opcode k v waitMs) := by
  refine Fr1.lift hw h₀ ?_
  have h : Fr 1073741826 s₁ s₁ := Fr.refl
  clear h₀ hw
  first | rw [State.keyWrite] | unfold State.keyWrite
  repeat' first
    | with_reducible assumption
    | (intro x; clear_value x)
    | (lift_lets; intro x; refine_lift have hb : ∀ y, y = x → Fr 1073741826 s₁ y := ?_; ?_; all_goals first | (have hx := hb x rfl; clear hb; clear_value x) | (intro y hy; unfold x at hy; rw [hy]; clear hy y))
    | (with_reducible refine State.writeSlot_frame ?_ rfl)
    | (with_reducible refine Fr1.ite ?_ ?_)
    | split
    | (with_reducible refine Fr1.pair ?_)
    | (with_reducible refine Fr.sec ?_ rfl)

theorem State.keyUse_frame {u : KeyUse} {W : Nat} {s₀ s₁ : State} (h₀ : Fr W s₀ s₁) (hw : 1073742082 &&& W = 1073742082) :
    Fr1 W s₀ (State.keyUse s₁ u) := by
  refine Fr1.lift hw h₀ ?_
  have h : Fr 1073742082 s₁ s₁ := Fr.refl
  clear h₀ hw
  first | rw [State.keyUse] | unfold State.keyUse
  repeat' first
    | with_reducible assumption
    | (intro x; clear_value x)
    | (lift_lets; intro x; clear_value x)
    | (with_reducible refine State.keyWrite_frame ?_ rfl)
    | (with_reducible refine State.tick_frame ?_ rfl)
    | (with_reducible refine State.countAuth_frame ?_ rfl)
    | (with_reducible refine State.cnt_frame ?_ rfl)
    | (with_reducible refine Fr1.ite ?_ ?_)
    | split
    | (with_reducible refine Fr1.pair ?_)

theorem State.keyUseOrStall_frame {u : KeyUse} {W : Nat} {s₀ s₁ : State} (h₀ : Fr W s₀ s₁) (hw : 1073742082 &&& W = 1073742082) :
    Fr1 W s₀ (State.keyUseOrStall s₁ u) := by
  refine Fr1.lift hw h₀ ?_
  have h : Fr 1073742082 s₁ s₁ := Fr.refl
  clear h₀ hw
  first | rw [State.keyUseOrStall] | unfold State.keyUseOrStall
  repeat' first
    | with_reducible assumption
    | (lift_lets; intro x; clear_value x)
    | (with_reducible refine State.keyUse_frame ?_ rfl)
    | (with_reducible refine Fr1.ite ?_ ?_)
    | (with_reducible refine Fr1.pair ?_)
    | (with_reducible refine Fr.sec ?_ rfl)

theorem State.retryUses_frame {x0 : Nat} {W : Nat} {s₀ s₁ : State} (h₀ : Fr W s₀ s₁) (hw : 1073744130 &&& W = 1073744130) :
    Fr W s₀ (State.retryUses x0 s₁) := by
  refine Fr.lift hw h₀ ?_
  clear h₀ hw
  suffices main : ∀ (x0 : Nat)  (z : State), Fr 1073744130 s₁ z → Fr 1073744130 s₁ (State.retryUses x0 z) from main x0  s₁ Fr.refl
  intro x0
  induction x0 with
  | zero =>
    intro  z h
    first | rw [State.retryUses] | unfold State.retryUses
    repeat' first
      | with_reducible assumption
      | (lift_lets; intro x; refine_lift have hb : ∀ y, y = x → Fr 1073744130 s₁ y := ?_; ?_; all_goals first | (have hx := hb x rfl; clear hb; clear_value x) | (intro y hy; unfold x at hy; rw [hy]; clear hy y))
      | (lift_lets; intro x; clear_value x)
      | (with_reducible refine ih _ ?_)
      | (with_reducible refine State.answer_frame ?_ rfl)
      | (with_reducible refine State.keyUse_frame ?_ rfl)
      | (with_reducible refine Fr.eq1 (by assumption) ?_)
      | split
      | (with_reducible refine Fr.sec ?_ rfl)
  | succ n ih =>
    intro  z h
    first | rw [State.retryUses] | unfold State.retryUses
    repeat' first
      | with_reducible assumption
      | (lift_lets; intro x; refine_lift have hb : ∀ y, y = x → Fr 1073744130 s₁ y := ?_; ?_; all_goals first | (have hx := hb x rfl; clear hb; clear_value x) | (intro y hy; unfold x at hy; rw [hy]; clear hy y))
      | (lift_lets; intro x; clear_value x)
      | (with_reducible refine ih _ ?_)
      | (with_reducible refine State.answer_frame ?_ rfl)
      | (with_reducible refine State.keyUse_frame ?_ rfl)
      | (with_reducible refine Fr.eq1 (by assumption) ?_)
      | split
      | (with_reducible refine Fr.sec ?_ rfl)

theorem State.endWait_frame {p : PendingKey} {st : Nat} {pl : List Byte} {W : Nat} {s₀ s₁ : State} (h₀ : Fr W s₀ s₁) (hw : 131957715373374 &&& W = 131957715373374) :
    Fr W s₀ (State.endWait s₁ p st pl) := by
  refine Fr.lift hw h₀ ?_
  have h : Fr 131957715373374 s₁ s₁ := Fr.refl
  clear h₀ hw
  first | rw [State.endWait] | unfold State.endWait
  repeat' first
    | with_reducible assumption
    | (lift_lets; intro x; clear_value x)
    | (with_reducible refine State.answer_frame ?_ rfl)
    | (with_reducible refine State.retryUses_frame ?_ rfl)
    | (with_reducible refine State.unstallPorts_frame ?_ rfl)
    | (with_reducible refine Fr.sec ?_ rfl)

theorem State.loadBlocks_frame {a : Nat} {n : Nat} {x0 : Nat} {W : Nat} {s₀ s₁ : State} (h₀ : Fr W s₀ s₁) (hw : 96759242034490 &&& W = 96759242034490) :
    Fr22 W s₀ (State.loadBlocks a n x0 s₁) := by
  refine Fr22.lift hw h₀ ?_
  clear h₀ hw
  suffices main : ∀ (x0 : Nat) (a : Nat) (n : Nat) (z : State), Fr 96759242034490 s₁ z → Fr22 96759242034490 s₁ (State.loadBlocks a n x0 z) from main x0 a n s₁ Fr.refl
  intro x0
  induction x0 with
  | zero =>
    intro a n z h
    first | rw [State.loadBlocks] | unfold State.loadBlocks
    repeat' first
      | with_reducible assumption
      | (with_reducible refine Fr22.out (ih _ _ _ ?_))
      | (with_reducible refine Fr22.pair ?_)
      | (with_reducible refine Fr22.ite ?_ ?_)
      | (intro x; refine_lift have hb : ∀ y, y = x → Fr 96759242034490 s₁ y := ?_; ?_; all_goals first | (have hx := hb x rfl; clear hb; clear_value x) | (intro y hy; unfold x at hy; rw [hy]; clear hy y))
      | (intro x; clear_value x)
      | (lift_lets; intro x; refine_lift have hb : ∀ y, y = x → Fr 96759242034490 s₁ y := ?_; ?_; all_goals first | (have hx := hb x rfl; clear hb; clear_value x) | (intro y hy; unfold x at hy; rw [hy]; clear hy y))
      | (lift_lets; intro x; clear_value x)
      | (with_reducible refine State.engLoad_frame ?_ rfl)
      | (with_reducible refine Fr22.out (State.engLoad_frame ?_ rfl))
      | (with_reducible refine Fr.ite ?_ ?_)
      | (with_reducible refine Fr.eq2 (by assumption) ?_)
      | (with_reducible refine Fr.eq22 (by assumption) ?_)
      | (with_reducible refine Fr.eq1 (by assumption) ?_)
      | (with_reducible refine Fr.eqo (by assumption) ?_)
      | (with_reducible refine Fr.eqo2 (by assumption) ?_)
      | (with_reducible refine Fr.eqo22 (by assumption) ?_)
      | (with_reducible exact Fr2.out (by assumption))
      | dsimp only
      | split
  | succ n ih =>
    intro a n z h
    first | rw [State.loadBlocks] | unfold State.loadBlocks
    repeat' first
      | with_reducible assumption
      | (with_reducible refine ih _ _ _ ?_)
      | (with_reducible refine Fr22.out (ih _ _ _ ?_))
      | (with_reducible refine Fr22.pair ?_)
      | (with_reducible refine Fr22.ite ?_ ?_)
      | (intro x; refine_lift have hb : ∀ y, y = x → Fr 96759242034490 s₁ y := ?_; ?_; all_goals first | (have hx := hb x rfl; clear hb; clear_value x) | (intro y hy; unfold x at hy; rw [hy]; clear hy y))
      | (intro x; clear_value x)
      | (lift_lets; intro x; refine_lift have hb : ∀ y, y = x → Fr 96759242034490 s₁ y := ?_; ?_; all_goals first | (have hx := hb x rfl; clear hb; clear_value x) | (intro y hy; unfold x at hy; rw [hy]; clear hy y))
      | (lift_lets; intro x; clear_value x)
      | (with_reducible refine State.engLoad_frame ?_ rfl)
      | (with_reducible refine Fr22.out (State.engLoad_frame ?_ rfl))
      | (with_reducible refine Fr.ite ?_ ?_)
      | (with_reducible refine Fr.eq2 (by assumption) ?_)
      | (with_reducible refine Fr.eq22 (by assumption) ?_)
      | (with_reducible refine Fr.eq1 (by assumption) ?_)
      | (with_reducible refine Fr.eqo (by assumption) ?_)
      | (with_reducible refine Fr.eqo2 (by assumption) ?_)
      | (with_reducible refine Fr.eqo22 (by assumption) ?_)
      | (with_reducible exact Fr2.out (by assumption))
      | dsimp only
      | split

theorem State.msgStart_frame {index : Option (Nat × Nat)} {d : List Byte} {W : Nat} {s₀ s₁ : State} (h₀ : Fr W s₀ s₁) (hw : 131944687865150 &&& W = 131944687865150) :
    Fr W s₀ (State.msgStart s₁ index d) := by
  refine Fr.lift hw h₀ ?_
  have h : Fr 131944687865150 s₁ s₁ := Fr.refl
  clear h₀ hw
  first | rw [State.msgStart] | unfold State.msgStart
  repeat' first
    | with_reducible assumption
    | (with_reducible refine State.engStore_frame ?_ rfl)
    | (with_reducible refine Fr2.out (State.engStore_frame ?_ rfl))
    | (intro x; clear_value x)
    | (lift_lets; intro x; clear_value x)
    | (with_reducible refine State.loadBlocks_frame ?_ rfl)
    | (with_reducible refine State.poke_frame ?_ rfl)
    | (with_reducible refine State.tick_frame ?_ rfl)
    | (with_reducible refine Fr.ite ?_ ?_)
    | (with_reducible refine Fr22.ite ?_ ?_)
    | (with_reducible refine Fr.eq22 (by assumption) ?_)
    | split
    | (with_reducible refine Fr22.pair ?_)
    | dsimp only
    | (with_reducible refine Fr.sec ?_ rfl)

theorem State.secAdvance_frame {x0 : Nat} {W : Nat} {s₀ s₁ : State} (h₀ : Fr W s₀ s₁) (hw : 65536 &&& W = 65536) :
    Fr W s₀ (State.secAdvance x0 s₁) := by
  refine Fr.lift hw h₀ ?_
  clear h₀ hw
  suffices main : ∀ (x0 : Nat)  (z : State), Fr 65536 s₁ z → Fr 65536 s₁ (State.secAdvance x0 z) from main x0  s₁ Fr.refl
  intro x0
  induction x0 with
  | zero =>
    intro  z h
    first | rw [State.secAdvance] | unfold State.secAdvance
    repeat' first
      | with_reducible assumption
      | (with_reducible refine ih _ ?_)
      | (with_reducible refine State.setRing_frame ?_ rfl)
      | (with_reducible refine Fr.ite ?_ ?_)
  | succ n ih =>
    intro  z h
    first | rw [State.secAdvance] | unfold State.secAdvance
    repeat' first
      | with_reducible assumption
      | (with_reducible refine ih _ ?_)
      | (with_reducible refine State.setRing_frame ?_ rfl)
      | (with_reducible refine Fr.ite ?_ ?_)

theorem State.msgBegin_frame {op : Nat} {src : SecSource} {W : Nat} {s₀ s₁ : State} (h₀ : Fr W s₀ s₁) (hw : 131944687930686 &&& W = 131944687930686) :
    Fr W s₀ (State.msgBegin s₁ op src) := by
  refine Fr.lift hw h₀ ?_
  have h : Fr 131944687930686 s₁ s₁ := Fr.refl
  clear h₀ hw
  first | rw [State.msgBegin] | unfold State.msgBegin
  repeat' first
    | with_reducible assumption
    | (intro x; refine_lift have hb : ∀ y, y = x → Fr 131944687930686 s₁ y := ?_; ?_; all_goals first | (have hx := hb x rfl; clear hb; clear_value x) | (intro y hy; unfold x at hy; rw [hy]; clear hy y))
    | (intro x; clear_value x)
    | (lift_lets; intro x; refine_lift have hb : ∀ y, y = x → Fr2 131944687930686 s₁ y := ?_; ?_; all_goals first | (have hx := hb x rfl; clear hb; clear_value x) | (intro y hy; unfold x at hy; rw [hy]; clear hy y))
    | (lift_lets; intro x; clear_value x)
    | (with_reducible refine State.secAdvance_frame ?_ rfl)
    | (with_reducible refine State.fetchEntry_frame ?_ rfl)
    | (with_reducible refine State.sf_frame ?_ rfl)
    | (with_reducible refine State.setRing_frame ?_ rfl)
    | (with_reducible refine State.msgStart_frame ?_ rfl)
    | (with_reducible refine Fr.ite ?_ ?_)
    | (with_reducible refine Fr.onSome ?_ (fun a => ?_))
    | (with_reducible exact Fr2.out (by assumption))
    | split

theorem State.writeBlocks_frame {a : Nat} {x0 : List (List Byte × Bool)} {W : Nat} {s₀ s₁ : State} (h₀ : Fr W s₀ s₁) (hw : 131943547014206 &&& W = 131943547014206) :
    Fr W s₀ (State.writeBlocks a x0 s₁) := by
  refine Fr.lift hw h₀ ?_
  clear h₀ hw
  suffices main : ∀ (x0 : List (List Byte × Bool)) (a : Nat) (z : State), Fr 131943547014206 s₁ z → Fr 131943547014206 s₁ (State.writeBlocks a x0 z) from main x0 a s₁ Fr.refl
  intro x0
  induction x0 with
  | nil =>
    intro a z h
    first | rw [State.writeBlocks] | unfold State.writeBlocks
    repeat' first
      | with_reducible assumption
      | (with_reducible refine State.engStore_frame ?_ rfl)
      | (with_reducible refine Fr2.out (State.engStore_frame ?_ rfl))
      | (with_reducible refine Fr.ite ?_ ?_)
      | split
  | cons a l ih =>
    intro a z h
    first | rw [State.writeBlocks] | unfold State.writeBlocks
    repeat' first
      | with_reducible assumption
      | (with_reducible refine ih _ _ ?_)
      | (with_reducible refine State.engStore_frame ?_ rfl)
      | (with_reducible refine Fr2.out (State.engStore_frame ?_ rfl))
      | (with_reducible refine Fr.ite ?_ ?_)
      | split

theorem State.secFlr_frame {W : Nat} {s₀ s₁ : State} (h₀ : Fr W s₀ s₁) (hw : 1073741824 &&& W = 1073741824) :
    Fr W s₀ (State.secFlr s₁) := by
  refine Fr.lift hw h₀ ?_
  have h : Fr 1073741824 s₁ s₁ := Fr.refl
  clear h₀ hw
  first | rw [State.secFlr] | unfold State.secFlr
  repeat' first
    | with_reducible assumption
    | (lift_lets; intro x; clear_value x)
    | (with_reducible refine Fr.sec ?_ rfl)

theorem writeSecCtl_frame {q : Requester} {v : W32} {W : Nat} {s₀ s₁ : State} (h₀ : Fr W s₀ s₁) (hw : 2 &&& W = 2) :
    Fr W s₀ (writeSecCtl q v s₁) := by
  refine Fr.lift hw h₀ ?_
  have h : Fr 2 s₁ s₁ := Fr.refl
  clear h₀ hw
  first | rw [writeSecCtl] | unfold writeSecCtl
  repeat' first
    | with_reducible assumption
    | (with_reducible refine State.sf_frame ?_ rfl)
    | (with_reducible refine Fr.ite ?_ ?_)

theorem writeSecRctl_frame {q : Requester} {v : W32} {W : Nat} {s₀ s₁ : State} (h₀ : Fr W s₀ s₁) (hw : 2 &&& W = 2) :
    Fr W s₀ (writeSecRctl q v s₁) := by
  refine Fr.lift hw h₀ ?_
  have h : Fr 2 s₁ s₁ := Fr.refl
  clear h₀ hw
  first | rw [writeSecRctl] | unfold writeSecRctl
  repeat' first
    | with_reducible assumption
    | (lift_lets; intro x; refine_lift have hb : ∀ y, y = x → Fr 2 s₁ y := ?_; ?_; all_goals first | (have hx := hb x rfl; clear hb; clear_value x) | (intro y hy; unfold x at hy; rw [hy]; clear hy y))
    | (with_reducible refine State.sf_frame ?_ rfl)
    | (with_reducible refine State.writeRingCtl_frame ?_ rfl)
    | (with_reducible refine Fr.ite ?_ ?_)

theorem writeSecReqDb_frame {q : Requester} {v : W32} {W : Nat} {s₀ s₁ : State} (h₀ : Fr W s₀ s₁) (hw : 65538 &&& W = 65538) :
    Fr W s₀ (writeSecReqDb q v s₁) := by
  refine Fr.lift hw h₀ ?_
  have h : Fr 65538 s₁ s₁ := Fr.refl
  clear h₀ hw
  first | rw [writeSecReqDb] | unfold writeSecReqDb
  repeat' first
    | with_reducible assumption
    | (with_reducible refine State.writeDoorbell_frame ?_ rfl)
    | (with_reducible refine Fr.ite ?_ ?_)

theorem writeSecCmplHead_frame {q : Requester} {v : W32} {W : Nat} {s₀ s₁ : State} (h₀ : Fr W s₀ s₁) (hw : 2 &&& W = 2) :
    Fr W s₀ (writeSecCmplHead q v s₁) := by
  refine Fr.lift hw h₀ ?_
  have h : Fr 2 s₁ s₁ := Fr.refl
  clear h₀ hw
  first | rw [writeSecCmplHead] | unfold writeSecCmplHead
  repeat' first
    | with_reducible assumption
    | (with_reducible refine State.writeCmplHead_frame ?_ rfl)
    | (with_reducible refine Fr.ite ?_ ?_)

theorem writeSecRingBase_frame {q : Requester} {cmpl : Bool} {hi : Bool} {v : W32} {W : Nat} {s₀ s₁ : State} (h₀ : Fr W s₀ s₁) (hw : 65538 &&& W = 65538) :
    Fr W s₀ (writeSecRingBase q cmpl hi v s₁) := by
  refine Fr.lift hw h₀ ?_
  have h : Fr 65538 s₁ s₁ := Fr.refl
  clear h₀ hw
  first | rw [writeSecRingBase] | unfold writeSecRingBase
  repeat' first
    | with_reducible assumption
    | (with_reducible refine State.writeCmplBase_frame ?_ rfl)
    | (with_reducible refine State.writeCmdBase_frame ?_ rfl)
    | (with_reducible refine Fr.ite ?_ ?_)

theorem writeSecRerr_frame {q : Requester} {v : W32} {W : Nat} {s₀ s₁ : State} (h₀ : Fr W s₀ s₁) (hw : 2 &&& W = 2) :
    Fr W s₀ (writeSecRerr q v s₁) := by
  refine Fr.lift hw h₀ ?_
  have h : Fr 2 s₁ s₁ := Fr.refl
  clear h₀ hw
  first | rw [writeSecRerr] | unfold writeSecRerr
  repeat' first
    | with_reducible assumption
    | (with_reducible refine State.wr_frame ?_ rfl)
    | (with_reducible refine Fr.ite ?_ ?_)

theorem State.signStart_frame {a : AttestReq} {W : Nat} {s₀ s₁ : State} (h₀ : Fr W s₀ s₁) (hw : 1073741824 &&& W = 1073741824) :
    Fr W s₀ (State.signStart s₁ a) := by
  refine Fr.lift hw h₀ ?_
  have h : Fr 1073741824 s₁ s₁ := Fr.refl
  clear h₀ hw
  first | rw [State.signStart] | unfold State.signStart
  repeat' first
    | with_reducible assumption
    | (lift_lets; intro x; clear_value x)
    | (with_reducible refine Fr.sec ?_ rfl)

theorem State.signAgain_frame {W : Nat} {s₀ s₁ : State} (h₀ : Fr W s₀ s₁) (hw : 1073741824 &&& W = 1073741824) :
    Fr W s₀ (State.signAgain s₁) := by
  refine Fr.lift hw h₀ ?_
  have h : Fr 1073741824 s₁ s₁ := Fr.refl
  clear h₀ hw
  first | rw [State.signAgain] | unfold State.signAgain
  repeat' first
    | with_reducible assumption
    | (with_reducible refine State.signStart_frame ?_ rfl)
    | (with_reducible refine Fr.ite ?_ ?_)
    | (with_reducible refine Fr.eq2 (by assumption) ?_)
    | (with_reducible refine Fr.eq22 (by assumption) ?_)
    | (with_reducible refine Fr.eq1 (by assumption) ?_)
    | (with_reducible refine Fr.eqo (by assumption) ?_)
    | (with_reducible refine Fr.eqo2 (by assumption) ?_)
    | (with_reducible refine Fr.eqo22 (by assumption) ?_)
    | dsimp only
    | split

theorem State.newChallenge_frame {W : Nat} {s₀ s₁ : State} (h₀ : Fr W s₀ s₁) (hw : 1073742080 &&& W = 1073742080) :
    Fr W s₀ (State.newChallenge s₁) := by
  refine Fr.lift hw h₀ ?_
  have h : Fr 1073742080 s₁ s₁ := Fr.refl
  clear h₀ hw
  first | rw [State.newChallenge] | unfold State.newChallenge
  repeat' first
    | with_reducible assumption
    | (lift_lets; intro x; clear_value x)
    | (with_reducible refine State.tick_frame ?_ rfl)
    | (with_reducible refine Fr.sec ?_ rfl)

theorem State.debugUnlock_frame {t : List Byte} {W : Nat} {s₀ s₁ : State} (h₀ : Fr W s₀ s₁) (hw : 1073742082 &&& W = 1073742082) :
    Fr W s₀ (State.debugUnlock s₁ t) := by
  refine Fr.lift hw h₀ ?_
  have h : Fr 1073742082 s₁ s₁ := Fr.refl
  clear h₀ hw
  first | rw [State.debugUnlock] | unfold State.debugUnlock
  repeat' first
    | with_reducible assumption
    | (with_reducible refine State.sealK0_frame ?_ rfl)
    | (with_reducible refine State.extendMR_frame ?_ rfl)
    | (with_reducible refine State.sf_frame ?_ rfl)
    | (with_reducible refine State.tick_frame ?_ rfl)
    | (with_reducible refine Fr.ite ?_ ?_)

end Sys2Proof.Machine
end

