-- ==== Sys2Proof/Laws/FrameFirmware.lean ====
section
/-! SUPPORT. Frames of the functions of Machine/Firmware.lean: which parts of the state each may change. -/

namespace Sys2Proof.Machine

theorem writeDevEnable_frame {q : Requester} {v : W32} {W : Nat} {s₀ s₁ : State} (h₀ : Fr W s₀ s₁) (hw : 2 &&& W = 2) :
    Fr W s₀ (writeDevEnable q v s₁) := by
  refine Fr.lift hw h₀ ?_
  have h : Fr 2 s₁ s₁ := Fr.refl
  clear h₀ hw
  first | rw [writeDevEnable] | unfold writeDevEnable
  repeat' first
    | with_reducible assumption
    | (with_reducible refine State.sf_frame ?_ rfl)
    | (with_reducible refine Fr.ite ?_ ?_)
    | split

theorem writeLoadCtl_frame {q : Requester} {v : W32} {W : Nat} {s₀ s₁ : State} (h₀ : Fr W s₀ s₁) (hw : 2 &&& W = 2) :
    Fr W s₀ (writeLoadCtl q v s₁) := by
  refine Fr.lift hw h₀ ?_
  have h : Fr 2 s₁ s₁ := Fr.refl
  clear h₀ hw
  first | rw [writeLoadCtl] | unfold writeLoadCtl
  repeat' first
    | with_reducible assumption
    | (lift_lets; intro x; refine_lift have hb : ∀ y, y = x → Fr 2 s₁ y := ?_; ?_; all_goals first | (have hx := hb x rfl; clear hb; clear_value x) | (intro y hy; unfold x at hy; rw [hy]; clear hy y))
    | (with_reducible refine State.sf_frame ?_ rfl)
    | (with_reducible refine Fr.ite ?_ ?_)

theorem writeLoadAddr_frame {q : Requester} {hi : Bool} {v : W32} {W : Nat} {s₀ s₁ : State} (h₀ : Fr W s₀ s₁) (hw : 2 &&& W = 2) :
    Fr W s₀ (writeLoadAddr q hi v s₁) := by
  refine Fr.lift hw h₀ ?_
  have h : Fr 2 s₁ s₁ := Fr.refl
  clear h₀ hw
  first | rw [writeLoadAddr] | unfold writeLoadAddr
  repeat' first
    | with_reducible assumption
    | (with_reducible refine State.wr_frame ?_ rfl)
    | (with_reducible refine Fr.ite ?_ ?_)

theorem Tab.wf_foldl_set {l : List (Nat × Byte)} {lo : Nat} : ∀ {m : List Host.Cell}, Memory.wf m = true →
    Memory.wf (l.foldl (fun m e => Tab.set memZero m (lo + e.1) e.2) m) = true := by
  induction l with
  | nil => intro m h; exact h
  | cons a l ih => intro m h; exact ih (Tab.wf_set _ _ h)

theorem Tab.mem_foldl_set {l : List (Nat × Byte)} {lo : Nat} {e : Nat × Byte} : ∀ {m : List Host.Cell},
    e ∈ l.foldl (fun m e => Tab.set memZero m (lo + e.1) e.2) m → e ∈ m ∨ ∃ x ∈ l, e.1 = lo + x.1 := by
  induction l with
  | nil => intro m h; exact .inl h
  | cons a l ih =>
    intro m h
    rcases ih h with h | ⟨x, hx, h⟩
    · dsimp only [Tab.set] at h
      split at h
      · exact .inl (List.mem_filter.1 h).1
      · rcases Tab.mem_insert h with h | h
        · exact .inr ⟨a, List.mem_cons_self, congrArg Prod.fst h⟩
        · exact .inl h
    · exact .inr ⟨x, List.mem_cons_of_mem _ hx, h⟩

theorem State.loadHalf_frame {half : Nat} {bs : List Byte} {W : Nat} {s₀ s₁ : State} (h₀ : Fr W s₀ s₁) (hw : 1099511627776 &&& W = 1099511627776) :
    Fr W s₀ (State.loadHalf s₁ half bs) := by
  refine Fr.lift hw h₀ ?_
  rw [State.loadHalf]
  refine Fr.ctrl Fr.refl rfl (fun hs => ?_)
  have hc := hs.2.2.2.1
  unfold ctrlWf at hc ⊢
  rw [Bool.and_eq_true, List.all_eq_true] at hc ⊢
  refine ⟨Tab.wf_foldl_set (Tab.wf_filter _ hc.1), fun e he => decide_eq_true ?_⟩
  rcases Tab.mem_foldl_set he with h | ⟨x, hx, h⟩
  · exact of_decide_eq_true (hc.2 e (List.mem_filter.mp h).1)
  · have := List.mem_range.mp (List.of_mem_zip hx).1
    rw [h]; omega

theorem State.instFree_frame {i : Nat} {W : Nat} {s₀ s₁ : State} (h₀ : Fr W s₀ s₁) (hw : 4328521728 &&& W = 4328521728) :
    Fr W s₀ (State.instFree s₁ i) := by
  refine Fr.lift hw h₀ ?_
  have h : Fr 4328521728 s₁ s₁ := Fr.refl
  clear h₀ hw
  first | rw [State.instFree] | unfold State.instFree
  repeat' first
    | with_reducible assumption
    | (lift_lets; intro x; clear_value x)
    | (with_reducible refine State.setInst_frame ?_ rfl)
    | (with_reducible refine State.setCn_frame ?_ rfl)
    | (with_reducible refine Fr.foldl (fun z a h => ?_) ?_)

theorem writeHeartbeat_frame {q : Requester} {v : W32} {W : Nat} {s₀ s₁ : State} (h₀ : Fr W s₀ s₁) (hw : 2048 &&& W = 2048) :
    Fr W s₀ (writeHeartbeat q v s₁) := by
  refine Fr.lift hw h₀ ?_
  have h : Fr 2048 s₁ s₁ := Fr.refl
  clear h₀ hw
  first | rw [writeHeartbeat] | unfold writeHeartbeat
  repeat' first
    | with_reducible assumption
    | (lift_lets; intro x; clear_value x)
    | (with_reducible refine State.setMb_frame ?_ rfl)
    | (with_reducible refine Fr.ite ?_ ?_)
    | (with_reducible refine Fr.foldl (fun z a h => ?_) ?_)
    | split

theorem State.wrBytes_frame {off : Nat} {bs : List Byte} {W : Nat} {s₀ s₁ : State} (h₀ : Fr W s₀ s₁) (hw : 2 &&& W = 2) :
    Fr W s₀ (State.wrBytes s₁ off bs) := by
  refine Fr.lift hw h₀ ?_
  clear h₀ hw
  suffices main : ∀ (k : Nat) (bs : List Byte) (off : Nat) (z : State), bs.length ≤ k → Fr 2 s₁ z → Fr 2 s₁ (z.wrBytes off bs) from
    main bs.length bs off s₁ (Nat.le_refl _) Fr.refl
  intro k
  induction k with
  | zero =>
    intro bs off z hk h
    obtain rfl : bs = [] := List.length_eq_zero_iff.1 (Nat.le_zero.1 hk)
    unfold State.wrBytes
    exact h
  | succ k ih =>
    intro bs off z hk h
    unfold State.wrBytes
    split
    · exact h
    · exact ih _ _ _ (by simp at hk ⊢; omega) (State.wr_frame h rfl)
    · exact State.wr_frame h rfl

theorem State.mbxTake_frame {p : SynPort} {W : Nat} {s₀ s₁ : State} (h₀ : Fr W s₀ s₁) (hw : 549755815938 &&& W = 549755815938) :
    Fr W s₀ (State.mbxTake s₁ p) := by
  refine Fr.lift hw h₀ ?_
  have h : Fr 549755815938 s₁ s₁ := Fr.refl
  clear h₀ hw
  first | rw [State.mbxTake] | unfold State.mbxTake
  repeat' first
    | with_reducible assumption
    | (with_reducible refine State.refuseUnknown_frame ?_ rfl)
    | (intro x; refine_lift have hb : ∀ y, y = x → Fr 549755815938 s₁ y := ?_; ?_; all_goals first | (have hx := hb x rfl; clear hb; clear_value x) | (intro y hy; unfold x at hy; rw [hy]; clear hy y))
    | (intro x; clear_value x)
    | (lift_lets; intro x; clear_value x)
    | (with_reducible refine State.setEvents_frame ?_ rfl)
    | (with_reducible refine State.setMb_frame ?_ rfl)
    | (with_reducible refine State.sf_frame ?_ rfl)
    | (with_reducible refine Fr.ite ?_ ?_)

theorem writeMbxCtl_frame {q : Requester} {p : SynPort} {v : W32} {W : Nat} {s₀ s₁ : State} (h₀ : Fr W s₀ s₁) (hw : 549755815938 &&& W = 549755815938) :
    Fr W s₀ (writeMbxCtl q p v s₁) := by
  refine Fr.lift hw h₀ ?_
  have h : Fr 549755815938 s₁ s₁ := Fr.refl
  clear h₀ hw
  first | rw [writeMbxCtl] | unfold writeMbxCtl
  repeat' first
    | with_reducible assumption
    | (lift_lets; intro x; refine_lift have hb : ∀ y, y = x → Fr 549755815938 s₁ y := ?_; ?_; all_goals first | (have hx := hb x rfl; clear hb; clear_value x) | (intro y hy; unfold x at hy; rw [hy]; clear hy y))
    | (with_reducible refine State.mbxTake_frame ?_ rfl)
    | (with_reducible refine State.sf_frame ?_ rfl)
    | (with_reducible refine Fr.ite ?_ ?_)

theorem State.respond_frame {p : SynPort} {bs : List Byte} {W : Nat} {s₀ s₁ : State} (h₀ : Fr W s₀ s₁) (hw : 2147485698 &&& W = 2147485698) :
    Fr W s₀ (State.respond s₁ p bs) := by
  refine Fr.lift hw h₀ ?_
  have h : Fr 2147485698 s₁ s₁ := Fr.refl
  clear h₀ hw
  first | rw [State.respond] | unfold State.respond
  repeat' first
    | with_reducible assumption
    | (intro x; refine_lift have hb : ∀ y, y = x → Fr 2147485698 s₁ y := ?_; ?_; all_goals first | (have hx := hb x rfl; clear hb; clear_value x) | (intro y hy; unfold x at hy; rw [hy]; clear hy y))
    | (lift_lets; intro x; clear_value x)
    | (with_reducible refine State.setMb_frame ?_ rfl)
    | (with_reducible refine State.raise_frame ?_ rfl)
    | (with_reducible refine State.sf_frame ?_ rfl)
    | (with_reducible refine State.wrBytes_frame ?_ rfl)
    | (with_reducible refine Fr.ite ?_ ?_)
    | split

theorem State.setSvc_frame {c : Nat} {v : CoreSvc} {W : Nat} {s₀ s₁ : State} (h₀ : Fr W s₀ s₁) (hw : 68719476736 &&& W = 68719476736) :
    Fr W s₀ (State.setSvc s₁ c v) := by
  refine Fr.lift hw h₀ ?_
  have h : Fr 68719476736 s₁ s₁ := Fr.refl
  clear h₀ hw
  first | rw [State.setSvc] | unfold State.setSvc
  repeat' first
    | with_reducible assumption
    | (with_reducible refine Fr.coreSvc ?_ rfl)

theorem writeCoreWdg_frame {q : Requester} {c : Fin 33} {v : W32} {W : Nat} {s₀ s₁ : State} (h₀ : Fr W s₀ s₁) (hw : 68719476738 &&& W = 68719476738) :
    Fr W s₀ (writeCoreWdg q c v s₁) := by
  refine Fr.lift hw h₀ ?_
  have h : Fr 68719476738 s₁ s₁ := Fr.refl
  clear h₀ hw
  first | rw [writeCoreWdg] | unfold writeCoreWdg
  repeat' first
    | with_reducible assumption
    | (intro x; refine_lift have hb : ∀ y, y = x → Fr 68719476738 s₁ y := ?_; ?_; all_goals first | (have hx := hb x rfl; clear hb; clear_value x) | (intro y hy; unfold x at hy; rw [hy]; clear hy y))
    | (intro x; clear_value x)
    | (lift_lets; intro x; clear_value x)
    | (with_reducible refine State.setSvc_frame ?_ rfl)
    | (with_reducible refine State.sf_frame ?_ rfl)
    | (with_reducible refine Fr.ite ?_ ?_)

theorem State.undoRecord_frame {r : ElRecord} {W : Nat} {s₀ s₁ : State} (h₀ : Fr W s₀ s₁) (hw : 131943550160190 &&& W = 131943550160190) :
    Fr W s₀ (State.undoRecord s₁ r) := by
  refine Fr.lift hw h₀ ?_
  have h : Fr 131943550160190 s₁ s₁ := Fr.refl
  clear h₀ hw
  first | rw [State.undoRecord] | unfold State.undoRecord
  repeat' first
    | with_reducible assumption
    | (intro x; refine_lift have hb : ∀ y, y = x → Fr 131943550160190 s₁ y := ?_; ?_; all_goals first | (have hx := hb x rfl; clear hb; clear_value x) | (intro y hy; unfold x at hy; rw [hy]; clear hy y))
    | (intro x; clear_value x)
    | (lift_lets; intro x; refine_lift have hb : ∀ y, y = x → Fr 131943550160190 s₁ y := ?_; ?_; all_goals first | (have hx := hb x rfl; clear hb; clear_value x) | (intro y hy; unfold x at hy; rw [hy]; clear hy y))
    | (lift_lets; intro x; clear_value x)
    | (with_reducible refine State.setCtx_frame ?_ rfl)
    | (with_reducible refine State.setCx_frame ?_ rfl)
    | (with_reducible refine State.poke_frame ?_ rfl)
    | (with_reducible refine Fr.ite ?_ ?_)
    | (with_reducible exact Fr2.out (by assumption))
    | dsimp only
    | split
    | (with_reducible refine Fr.eland ?_ rfl)

theorem State.elandRestart_frame {doms : List Nat} {W : Nat} {s₀ s₁ : State} (h₀ : Fr W s₀ s₁) (hw : 131943550160190 &&& W = 131943550160190) :
    Fr W s₀ (State.elandRestart s₁ doms) := by
  refine Fr.lift hw h₀ ?_
  have h : Fr 131943550160190 s₁ s₁ := Fr.refl
  clear h₀ hw
  first | rw [State.elandRestart] | unfold State.elandRestart
  repeat' first
    | with_reducible assumption
    | (intro x; refine_lift have hb : ∀ y, y = x → Fr 131943550160190 s₁ y := ?_; ?_; all_goals first | (have hx := hb x rfl; clear hb; clear_value x) | (intro y hy; unfold x at hy; rw [hy]; clear hy y))
    | (intro x; refine_lift have hb : ∀ y, y = x → Fr2 131943550160190 s₁ y := ?_; ?_; all_goals first | (have hx := hb x rfl; clear hb; clear_value x) | (intro y hy; unfold x at hy; rw [hy]; clear hy y))
    | (intro x; refine_lift have hb : ∀ y, y = x → Fr22 131943550160190 s₁ y := ?_; ?_; all_goals first | (have hx := hb x rfl; clear hb; clear_value x) | (intro y hy; unfold x at hy; rw [hy]; clear hy y))
    | (intro x; refine_lift have hb : ∀ y, y = x → Fr1 131943550160190 s₁ y := ?_; ?_; all_goals first | (have hx := hb x rfl; clear hb; clear_value x) | (intro y hy; unfold x at hy; rw [hy]; clear hy y))
    | (intro x; clear_value x)
    | (lift_lets; intro x; refine_lift have hb : ∀ y, y = x → Fr 131943550160190 s₁ y := ?_; ?_; all_goals first | (have hx := hb x rfl; clear hb; clear_value x) | (intro y hy; unfold x at hy; rw [hy]; clear hy y))
    | (lift_lets; intro x; refine_lift have hb : ∀ y, y = x → Fr2 131943550160190 s₁ y := ?_; ?_; all_goals first | (have hx := hb x rfl; clear hb; clear_value x) | (intro y hy; unfold x at hy; rw [hy]; clear hy y))
    | (lift_lets; intro x; refine_lift have hb : ∀ y, y = x → Fr22 131943550160190 s₁ y := ?_; ?_; all_goals first | (have hx := hb x rfl; clear hb; clear_value x) | (intro y hy; unfold x at hy; rw [hy]; clear hy y))
    | (lift_lets; intro x; refine_lift have hb : ∀ y, y = x → Fr1 131943550160190 s₁ y := ?_; ?_; all_goals first | (have hx := hb x rfl; clear hb; clear_value x) | (intro y hy; unfold x at hy; rw [hy]; clear hy y))
    | (lift_lets; intro x; clear_value x)
    | (with_reducible exact Fr2.out (by assumption))
    | (with_reducible exact Fr22.out (by assumption))
    | (with_reducible exact Fr1.out (by assumption))
    | (with_reducible refine State.undoRecord_frame ?_ rfl)
    | (with_reducible refine Fr.foldl (fun z a h => ?_) ?_)
    | (with_reducible refine Fr.ite ?_ ?_)
    | (with_reducible exact Fr2.out (by assumption))
    | dsimp only
    | split
    | (with_reducible refine Fr.eland ?_ rfl)

theorem State.holdCore_frame {c : Nat} {W : Nat} {s₀ s₁ : State} (h₀ : Fr W s₀ s₁) (hw : 549755813888 &&& W = 549755813888) :
    Fr W s₀ (State.holdCore s₁ c) := by
  refine Fr.lift hw h₀ ?_
  have h : Fr 549755813888 s₁ s₁ := Fr.refl
  clear h₀ hw
  first | rw [State.holdCore] | unfold State.holdCore
  repeat' first
    | with_reducible assumption
    | (lift_lets; intro x; clear_value x)
    | (with_reducible refine State.setTahr_frame ?_ rfl)

theorem State.activated_frame {p : FwPackage} {W : Nat} {s₀ s₁ : State} (h₀ : Fr W s₀ s₁) (hw : 38117837858 &&& W = 38117837858) :
    Fr W s₀ (State.activated s₁ p) := by
  refine Fr.lift hw h₀ ?_
  have h : Fr 38117837858 s₁ s₁ := Fr.refl
  clear h₀ hw
  first | rw [State.activated] | unfold State.activated
  repeat' first
    | with_reducible assumption
    | (lift_lets; intro x; clear_value x)
    | (with_reducible refine State.stoResume_frame ?_ rfl)
    | (with_reducible refine State.wr64_frame ?_ rfl)
    | (with_reducible refine State.extendMR_frame ?_ rfl)
    | (with_reducible refine State.sf_frame ?_ rfl)
    | (with_reducible refine State.event_frame ?_ rfl)
    | (with_reducible refine Fr.fw ?_ rfl)

theorem State.reclaimInsts_frame {id : W32} {W : Nat} {s₀ s₁ : State} (h₀ : Fr W s₀ s₁) (hw : 131957212122430 &&& W = 131957212122430) :
    Fr W s₀ (State.reclaimInsts s₁ id) := by
  refine Fr.lift hw h₀ ?_
  have h : Fr 131957212122430 s₁ s₁ := Fr.refl
  clear h₀ hw
  first | rw [State.reclaimInsts] | unfold State.reclaimInsts
  repeat' first
    | with_reducible assumption
    | (with_reducible refine State.instReset_frame ?_ rfl)
    | (with_reducible refine State.instFree_frame ?_ rfl)
    | (with_reducible refine Fr.foldl (fun z a h => ?_) ?_)

theorem State.openSession_frame {m : Nat} {W : Nat} {s₀ s₁ : State} (h₀ : Fr W s₀ s₁) (hw : 2304 &&& W = 2304) :
    Fr1 W s₀ (State.openSession s₁ m) := by
  refine Fr1.lift hw h₀ ?_
  have h : Fr 2304 s₁ s₁ := Fr.refl
  clear h₀ hw
  first | rw [State.openSession] | unfold State.openSession
  repeat' first
    | with_reducible assumption
    | (lift_lets; intro x; clear_value x)
    | (with_reducible refine success_frame ?_ rfl)
    | (with_reducible refine State.setMb_frame ?_ rfl)
    | (with_reducible refine State.tick_frame ?_ rfl)

end Sys2Proof.Machine
end

