-- ==== Sys2Proof/Laws/FrameCheckpoint.lean ====
section
/-! SUPPORT. Frames of the functions of Machine/Checkpoint.lean: which parts of the state each may change. -/

namespace Sys2Proof.Machine

theorem State.ckpSendOn_frame {conn : Nat} {tag : Nat} {fence : Bool} {bs : List Byte} {W : Nat} {s₀ s₁ : State} (h₀ : Fr W s₀ s₁) (hw : 131957212122430 &&& W = 131957212122430) :
    Fr W s₀ (State.ckpSendOn s₁ conn tag fence bs) := by
  refine Fr.lift hw h₀ ?_
  have h : Fr 131957212122430 s₁ s₁ := Fr.refl
  clear h₀ hw
  first | rw [State.ckpSendOn] | unfold State.ckpSendOn
  repeat' first
    | with_reducible assumption
    | (with_reducible refine State.internalMsg_frame ?_ rfl)

theorem State.ckpTell_frame {addr : Nat} {bs : List Byte} {W : Nat} {s₀ s₁ : State} (h₀ : Fr W s₀ s₁) (hw : 131957212122430 &&& W = 131957212122430) :
    Fr W s₀ (State.ckpTell s₁ addr bs) := by
  refine Fr.lift hw h₀ ?_
  have h : Fr 131957212122430 s₁ s₁ := Fr.refl
  clear h₀ hw
  first | rw [State.ckpTell] | unfold State.ckpTell
  repeat' first
    | with_reducible assumption
    | (with_reducible refine State.ckpSendOn_frame ?_ rfl)
    | split

theorem State.ckpTellAll_frame {bs : List Byte} {W : Nat} {s₀ s₁ : State} (h₀ : Fr W s₀ s₁) (hw : 131957212122430 &&& W = 131957212122430) :
    Fr W s₀ (State.ckpTellAll s₁ bs) := by
  refine Fr.lift hw h₀ ?_
  have h : Fr 131957212122430 s₁ s₁ := Fr.refl
  clear h₀ hw
  first | rw [State.ckpTellAll] | unfold State.ckpTellAll
  repeat' first
    | with_reducible assumption
    | (with_reducible refine State.ckpTell_frame ?_ rfl)
    | (with_reducible refine Fr.foldl (fun z a h => ?_) ?_)

theorem State.ckpTake_frame {conn : Nat} {msn : Nat} {kind : Nat} {W : Nat} {s₀ s₁ : State} (h₀ : Fr W s₀ s₁) (hw : 33554432 &&& W = 33554432) :
    Fr2 W s₀ (State.ckpTake s₁ conn msn kind) := by
  refine Fr2.lift hw h₀ ?_
  have h : Fr 33554432 s₁ s₁ := Fr.refl
  clear h₀ hw
  first | rw [State.ckpTake] | unfold State.ckpTake
  repeat' first
    | with_reducible assumption
    | (intro x; refine_lift have hb : ∀ y, y = x → Fr 33554432 s₁ y := ?_; ?_; all_goals first | (have hx := hb x rfl; clear hb; clear_value x) | (intro y hy; unfold x at hy; rw [hy]; clear hy y))
    | (lift_lets; intro x; clear_value x)
    | (with_reducible refine Fr2.ite ?_ ?_)
    | split
    | (with_reducible refine Fr2.pair ?_)
    | dsimp only
    | (with_reducible refine Fr.trn ?_ rfl)

theorem State.ckpMember_frame {conn : Nat} {msn : Nat} {kind : Nat} {anyView : Bool} {f : List Byte → State → State} {W : Nat} {s₀ s₁ : State} (h : Fr W s₀ s₁) (hf : ∀ b z, Fr W s₀ z → Fr W s₀ (f b z)) (hw : 33554432 &&& W = 33554432) :
    Fr W s₀ (State.ckpMember s₁ conn msn kind anyView f) := by
  first | rw [State.ckpMember] | unfold State.ckpMember
  repeat' first
    | with_reducible assumption
    | (with_reducible refine hf _ _ ?_)
    | (with_reducible refine State.ckpTake_frame ?_ (Fr.sub rfl hw))
    | (with_reducible refine Fr.ite ?_ ?_)
    | (with_reducible refine Fr.eq2 (by assumption) ?_)
    | split

theorem State.ckpLoad_frame {W : Nat} {s₀ s₁ : State} (h₀ : Fr W s₀ s₁) (hw : 35184372088832 &&& W = 35184372088832) :
    Fr W s₀ (State.ckpLoad s₁) := by
  refine Fr.lift hw h₀ ?_
  have h : Fr 35184372088832 s₁ s₁ := Fr.refl
  clear h₀ hw
  first | rw [State.ckpLoad] | unfold State.ckpLoad
  repeat' first
    | with_reducible assumption
    | (lift_lets; intro x; clear_value x)
    | split
    | (with_reducible refine Fr.ckp ?_ rfl)

theorem writeCkpCtl_frame {q : Requester} {v : W32} {W : Nat} {s₀ s₁ : State} (h₀ : Fr W s₀ s₁) (hw : 131943547014202 &&& W = 131943547014202) :
    Fr W s₀ (writeCkpCtl q v s₁) := by
  refine Fr.lift hw h₀ ?_
  have h : Fr 131943547014202 s₁ s₁ := Fr.refl
  clear h₀ hw
  first | rw [writeCkpCtl] | unfold writeCkpCtl
  repeat' first
    | with_reducible assumption
    | (with_reducible refine State.load_frame ?_ rfl)
    | (with_reducible refine Fr22.out (State.load_frame ?_ rfl))
    | (lift_lets; intro x; refine_lift have hb : ∀ y, y = x → Fr 131943547014202 s₁ y := ?_; ?_; all_goals first | (have hx := hb x rfl; clear hb; clear_value x) | (intro y hy; unfold x at hy; rw [hy]; clear hy y))
    | (with_reducible refine State.sf_frame ?_ rfl)
    | (with_reducible refine State.ckpLoad_frame ?_ rfl)
    | (with_reducible refine Fr.ite ?_ ?_)
    | split

theorem writeCkpBase_frame {q : Requester} {off : Nat} {mask : W32} {v : W32} {W : Nat} {s₀ s₁ : State} (h₀ : Fr W s₀ s₁) (hw : 2 &&& W = 2) :
    Fr W s₀ (writeCkpBase q off mask v s₁) := by
  refine Fr.lift hw h₀ ?_
  have h : Fr 2 s₁ s₁ := Fr.refl
  clear h₀ hw
  first | rw [writeCkpBase] | unfold writeCkpBase
  repeat' first
    | with_reducible assumption
    | (with_reducible refine State.wr_frame ?_ rfl)
    | (with_reducible refine Fr.ite ?_ ?_)

theorem writeCkpStage_frame {q : Requester} {hi : Bool} {v : W32} {W : Nat} {s₀ s₁ : State} (h₀ : Fr W s₀ s₁) (hw : 2 &&& W = 2) :
    Fr W s₀ (writeCkpStage q hi v s₁) := by
  refine Fr.lift hw h₀ ?_
  have h : Fr 2 s₁ s₁ := Fr.refl
  clear h₀ hw
  first | rw [writeCkpStage] | unfold writeCkpStage
  repeat' first
    | with_reducible assumption
    | (lift_lets; intro x; clear_value x)
    | (with_reducible refine State.wr_frame ?_ rfl)
    | (with_reducible refine Fr.ite ?_ ?_)

theorem writeCkpMarked_frame {q : Requester} {hi : Bool} {v : W32} {W : Nat} {s₀ s₁ : State} (h₀ : Fr W s₀ s₁) (hw : 2 &&& W = 2) :
    Fr W s₀ (writeCkpMarked q hi v s₁) := by
  refine Fr.lift hw h₀ ?_
  have h : Fr 2 s₁ s₁ := Fr.refl
  clear h₀ hw
  first | rw [writeCkpMarked] | unfold writeCkpMarked
  repeat' first
    | with_reducible assumption
    | (with_reducible refine State.wr_frame ?_ rfl)
    | (with_reducible refine Fr.ite ?_ ?_)

theorem State.retryHeld_frame {x0 : Nat} {W : Nat} {s₀ s₁ : State} (h₀ : Fr W s₀ s₁) (hw : 131943547014198 &&& W = 131943547014198) :
    Fr W s₀ (State.retryHeld x0 s₁) := by
  refine Fr.lift hw h₀ ?_
  clear h₀ hw
  suffices main : ∀ (x0 : Nat)  (z : State), Fr 131943547014198 s₁ z → Fr 131943547014198 s₁ (State.retryHeld x0 z) from main x0  s₁ Fr.refl
  intro x0
  induction x0 with
  | zero =>
    intro  z h
    first | rw [State.retryHeld] | unfold State.retryHeld
    repeat' first
      | with_reducible assumption
      | (lift_lets; intro x; clear_value x)
      | (with_reducible refine ih _ ?_)
      | (with_reducible refine State.capture_frame ?_ rfl)
      | (with_reducible refine State.landHbm_frame ?_ rfl)
      | (with_reducible refine Fr.eqo (by assumption) ?_)
      | split
      | (with_reducible refine Fr.ckp ?_ rfl)
  | succ n ih =>
    intro  z h
    first | rw [State.retryHeld] | unfold State.retryHeld
    repeat' first
      | with_reducible assumption
      | (lift_lets; intro x; clear_value x)
      | (with_reducible refine ih _ ?_)
      | (with_reducible refine State.capture_frame ?_ rfl)
      | (with_reducible refine State.landHbm_frame ?_ rfl)
      | (with_reducible refine Fr.eqo (by assumption) ?_)
      | split
      | (with_reducible refine Fr.ckp ?_ rfl)

theorem State.readAt_frame {r : CkpRegion} {page : Nat} {m : Nat} {W : Nat} {s₀ s₁ : State} (h₀ : Fr W s₀ s₁) (hw : 96759174925362 &&& W = 96759174925362) :
    Fr22 W s₀ (State.readAt s₁ r page m) := by
  refine Fr22.lift hw h₀ ?_
  have h : Fr 96759174925362 s₁ s₁ := Fr.refl
  clear h₀ hw
  first | rw [State.readAt] | unfold State.readAt
  repeat' first
    | with_reducible assumption
    | (with_reducible refine Fr22.pair ?_)
    | (with_reducible refine Fr22.ite ?_ ?_)
    | (with_reducible refine State.readPage_frame ?_ rfl)
    | (with_reducible refine Fr22.out (State.readPage_frame ?_ rfl))
    | (with_reducible refine Fr.ite ?_ ?_)
    | (with_reducible refine Fr.eq2 (by assumption) ?_)
    | (with_reducible refine Fr.eq22 (by assumption) ?_)
    | (with_reducible refine Fr.eq1 (by assumption) ?_)
    | (with_reducible refine Fr.eqo (by assumption) ?_)
    | (with_reducible refine Fr.eqo2 (by assumption) ?_)
    | (with_reducible refine Fr.eqo22 (by assumption) ?_)
    | dsimp only
    | split

theorem State.setCapture_frame {c : CkpCapture} {W : Nat} {s₀ s₁ : State} (h₀ : Fr W s₀ s₁) (hw : 35184372088832 &&& W = 35184372088832) :
    Fr W s₀ (State.setCapture s₁ c) := by
  refine Fr.lift hw h₀ ?_
  have h : Fr 35184372088832 s₁ s₁ := Fr.refl
  clear h₀ hw
  first | rw [State.setCapture] | unfold State.setCapture
  repeat' first
    | with_reducible assumption
    | (lift_lets; intro x; clear_value x)
    | (with_reducible refine Fr.ckp ?_ rfl)

theorem State.noteSent_frame {mark : Nat} {W : Nat} {s₀ s₁ : State} (h₀ : Fr W s₀ s₁) (hw : 35184372088832 &&& W = 35184372088832) :
    Fr W s₀ (State.noteSent s₁ mark) := by
  refine Fr.lift hw h₀ ?_
  have h : Fr 35184372088832 s₁ s₁ := Fr.refl
  clear h₀ hw
  first | rw [State.noteSent] | unfold State.noteSent
  repeat' first
    | with_reducible assumption
    | (with_reducible refine Fr.ite ?_ ?_)
    | split
    | (with_reducible refine Fr.ckp ?_ rfl)

theorem State.sendEntry_frame {c : CkpCapture} {rg : CkpRegion} {page : Nat} {W : Nat} {s₀ s₁ : State} (h₀ : Fr W s₀ s₁) (hw : 131957212122430 &&& W = 131957212122430) :
    Fr W s₀ (State.sendEntry s₁ c rg page) := by
  refine Fr.lift hw h₀ ?_
  have h : Fr 131957212122430 s₁ s₁ := Fr.refl
  clear h₀ hw
  unfold State.sendEntry
  exact State.internalMsg_frame (State.noteSent_frame (Fr22.out (State.readAt_frame h rfl)) rfl) rfl

theorem State.sendCommit_frame {c : CkpCapture} {W : Nat} {s₀ s₁ : State} (h₀ : Fr W s₀ s₁) (hw : 131957212122430 &&& W = 131957212122430) :
    Fr W s₀ (State.sendCommit s₁ c) := by
  refine Fr.lift hw h₀ ?_
  have h : Fr 131957212122430 s₁ s₁ := Fr.refl
  clear h₀ hw
  first | rw [State.sendCommit] | unfold State.sendCommit
  repeat' first
    | with_reducible assumption
    | (intro x; refine_lift have hb : ∀ y, y = x → Fr 131957212122430 s₁ y := ?_; ?_; all_goals first | (have hx := hb x rfl; clear hb; clear_value x) | (intro y hy; unfold x at hy; rw [hy]; clear hy y))
    | (intro x; refine_lift have hb : ∀ y, y = x → Fr2 131957212122430 s₁ y := ?_; ?_; all_goals first | (have hx := hb x rfl; clear hb; clear_value x) | (intro y hy; unfold x at hy; rw [hy]; clear hy y))
    | (intro x; refine_lift have hb : ∀ y, y = x → Fr22 131957212122430 s₁ y := ?_; ?_; all_goals first | (have hx := hb x rfl; clear hb; clear_value x) | (intro y hy; unfold x at hy; rw [hy]; clear hy y))
    | (intro x; refine_lift have hb : ∀ y, y = x → Fr1 131957212122430 s₁ y := ?_; ?_; all_goals first | (have hx := hb x rfl; clear hb; clear_value x) | (intro y hy; unfold x at hy; rw [hy]; clear hy y))
    | (intro x; clear_value x)
    | (lift_lets; intro x; refine_lift have hb : ∀ y, y = x → Fr 131957212122430 s₁ y := ?_; ?_; all_goals first | (have hx := hb x rfl; clear hb; clear_value x) | (intro y hy; unfold x at hy; rw [hy]; clear hy y))
    | (lift_lets; intro x; refine_lift have hb : ∀ y, y = x → Fr2 131957212122430 s₁ y := ?_; ?_; all_goals first | (have hx := hb x rfl; clear hb; clear_value x) | (intro y hy; unfold x at hy; rw [hy]; clear hy y))
    | (lift_lets; intro x; refine_lift have hb : ∀ y, y = x → Fr22 131957212122430 s₁ y := ?_; ?_; all_goals first | (have hx := hb x rfl; clear hb; clear_value x) | (intro y hy; unfold x at hy; rw [hy]; clear hy y))
    | (lift_lets; intro x; refine_lift have hb : ∀ y, y = x → Fr1 131957212122430 s₁ y := ?_; ?_; all_goals first | (have hx := hb x rfl; clear hb; clear_value x) | (intro y hy; unfold x at hy; rw [hy]; clear hy y))
    | (lift_lets; intro x; clear_value x)
    | (with_reducible exact Fr2.out (by assumption))
    | (with_reducible exact Fr22.out (by assumption))
    | (with_reducible exact Fr1.out (by assumption))
    | (with_reducible refine State.ckpSendOn_frame ?_ rfl)
    | (with_reducible refine Fr.ite ?_ ?_)
    | (with_reducible exact Fr2.out (by assumption))
    | dsimp only
    | split

theorem State.ckpSend1_frame {W : Nat} {s₀ s₁ : State} (h₀ : Fr W s₀ s₁) (hw : 131957212122430 &&& W = 131957212122430) :
    FrO W s₀ (State.ckpSend1 s₁) := by
  refine FrO.lift hw h₀ ?_
  have h : Fr 131957212122430 s₁ s₁ := Fr.refl
  clear h₀ hw
  first | rw [State.ckpSend1] | unfold State.ckpSend1
  repeat' first
    | with_reducible assumption
    | (exact FrO.none)
    | (with_reducible refine FrO.some ?_)
    | (with_reducible exact FrO.map_none)
    | (with_reducible refine FrO.map_some ?_)
    | (with_reducible refine FrO.map_or ?_ ?_)
    | (with_reducible refine State.setCapture_frame ?_ rfl)
    | (with_reducible refine State.sendEntry_frame ?_ rfl)
    | (with_reducible refine State.sendCommit_frame ?_ rfl)
    | (with_reducible refine Fr.ite ?_ ?_)
    | (with_reducible refine Fr.eq2 (by assumption) ?_)
    | (with_reducible refine Fr.eq22 (by assumption) ?_)
    | (with_reducible refine Fr.eq1 (by assumption) ?_)
    | (with_reducible refine Fr.eqo (by assumption) ?_)
    | (with_reducible refine Fr.eqo2 (by assumption) ?_)
    | (with_reducible refine Fr.eqo22 (by assumption) ?_)
    | dsimp only
    | split

theorem State.ckpSendAll_frame {x0 : Nat} {W : Nat} {s₀ s₁ : State} (h₀ : Fr W s₀ s₁) (hw : 131957212122430 &&& W = 131957212122430) :
    Fr W s₀ (State.ckpSendAll x0 s₁) := by
  refine Fr.lift hw h₀ ?_
  clear h₀ hw
  suffices main : ∀ (x0 : Nat)  (z : State), Fr 131957212122430 s₁ z → Fr 131957212122430 s₁ (State.ckpSendAll x0 z) from main x0  s₁ Fr.refl
  intro x0
  induction x0 with
  | zero =>
    intro  z h
    first | rw [State.ckpSendAll] | unfold State.ckpSendAll
    repeat' first
      | with_reducible assumption
      | (with_reducible refine State.ckpSend1_frame ?_ rfl)
      | (with_reducible refine Fr.ite ?_ ?_)
      | (with_reducible refine Fr.eq2 (by assumption) ?_)
      | (with_reducible refine Fr.eq22 (by assumption) ?_)
      | (with_reducible refine Fr.eq1 (by assumption) ?_)
      | (with_reducible refine Fr.eqo (by assumption) ?_)
      | (with_reducible refine Fr.eqo2 (by assumption) ?_)
      | (with_reducible refine Fr.eqo22 (by assumption) ?_)
      | dsimp only
      | split
  | succ n ih =>
    intro  z h
    first | rw [State.ckpSendAll] | unfold State.ckpSendAll
    repeat' first
      | with_reducible assumption
      | (with_reducible refine ih _ ?_)
      | (with_reducible refine State.ckpSend1_frame ?_ rfl)
      | (with_reducible refine Fr.ite ?_ ?_)
      | (with_reducible refine Fr.eq2 (by assumption) ?_)
      | (with_reducible refine Fr.eq22 (by assumption) ?_)
      | (with_reducible refine Fr.eq1 (by assumption) ?_)
      | (with_reducible refine Fr.eqo (by assumption) ?_)
      | (with_reducible refine Fr.eqo2 (by assumption) ?_)
      | (with_reducible refine Fr.eqo22 (by assumption) ?_)
      | dsimp only
      | split

theorem State.ckpSend_frame {W : Nat} {s₀ s₁ : State} (h₀ : Fr W s₀ s₁) (hw : 131957212122430 &&& W = 131957212122430) :
    Fr W s₀ (State.ckpSend s₁) := by
  refine Fr.lift hw h₀ ?_
  have h : Fr 131957212122430 s₁ s₁ := Fr.refl
  clear h₀ hw
  first | rw [State.ckpSend] | unfold State.ckpSend
  repeat' first
    | with_reducible assumption
    | (with_reducible refine State.ckpSendAll_frame ?_ rfl)

theorem State.ckpMark_frame {snap : Bool} {W : Nat} {s₀ s₁ : State} (h₀ : Fr W s₀ s₁) (hw : 131957212122430 &&& W = 131957212122430) :
    Fr W s₀ (State.ckpMark s₁ snap) := by
  refine Fr.lift hw h₀ ?_
  have h : Fr 131957212122430 s₁ s₁ := Fr.refl
  clear h₀ hw
  first | rw [State.ckpMark] | unfold State.ckpMark
  repeat' first
    | with_reducible assumption
    | (intro x; refine_lift have hb : ∀ y, y = x → Fr 131957212122430 s₁ y := ?_; ?_; all_goals first | (have hx := hb x rfl; clear hb; clear_value x) | (intro y hy; unfold x at hy; rw [hy]; clear hy y))
    | (intro x; clear_value x)
    | (lift_lets; intro x; clear_value x)
    | (with_reducible refine State.wr64_frame ?_ rfl)
    | (with_reducible refine State.sf_frame ?_ rfl)
    | (with_reducible refine State.ckpSend_frame ?_ rfl)
    | (with_reducible refine Fr.ite ?_ ?_)
    | (with_reducible refine Fr.ckp ?_ rfl)

theorem State.ckpRollback_frame {W : Nat} {s₀ s₁ : State} (h₀ : Fr W s₀ s₁) (hw : 131943548062774 &&& W = 131943548062774) :
    Fr W s₀ (State.ckpRollback s₁) := by
  refine Fr.lift hw h₀ ?_
  have h : Fr 131943548062774 s₁ s₁ := Fr.refl
  clear h₀ hw
  first | rw [State.ckpRollback] | unfold State.ckpRollback
  repeat' first
    | with_reducible assumption
    | (with_reducible refine State.retryHeld_frame ?_ rfl)
    | (intro x; clear_value x)
    | (lift_lets; intro x; clear_value x)
    | (with_reducible refine State.landHbm_frame ?_ rfl)
    | (with_reducible refine State.wr64_frame ?_ rfl)
    | (with_reducible refine State.sf_frame ?_ rfl)
    | (with_reducible refine State.abandonPin_frame ?_ rfl)
    | (with_reducible refine Fr.foldl (fun z a h => ?_) ?_)
    | split
    | (with_reducible refine Fr.upd_kv_ckp ?_ rfl rfl)

theorem State.ckpUnpin_frame {W : Nat} {s₀ s₁ : State} (h₀ : Fr W s₀ s₁) (hw : 131943547014198 &&& W = 131943547014198) :
    Fr W s₀ (State.ckpUnpin s₁) := by
  refine Fr.lift hw h₀ ?_
  have h : Fr 131943547014198 s₁ s₁ := Fr.refl
  clear h₀ hw
  first | rw [State.ckpUnpin] | unfold State.ckpUnpin
  repeat' first
    | with_reducible assumption
    | (intro x; refine_lift have hb : ∀ y, y = x → Fr 131943547014198 s₁ y := ?_; ?_; all_goals first | (have hx := hb x rfl; clear hb; clear_value x) | (intro y hy; unfold x at hy; rw [hy]; clear hy y))
    | (intro x; clear_value x)
    | (lift_lets; intro x; refine_lift have hb : ∀ y, y = x → Fr 131943547014198 s₁ y := ?_; ?_; all_goals first | (have hx := hb x rfl; clear hb; clear_value x) | (intro y hy; unfold x at hy; rw [hy]; clear hy y))
    | (lift_lets; intro x; clear_value x)
    | (with_reducible refine State.sf_frame ?_ rfl)
    | (with_reducible refine State.abandonPin_frame ?_ rfl)
    | (with_reducible refine State.retryHeld_frame ?_ rfl)
    | (with_reducible refine Fr.ite ?_ ?_)
    | (with_reducible refine Fr.eq2 (by assumption) ?_)
    | (with_reducible refine Fr.eq22 (by assumption) ?_)
    | (with_reducible refine Fr.eq1 (by assumption) ?_)
    | (with_reducible refine Fr.eqo (by assumption) ?_)
    | (with_reducible refine Fr.eqo2 (by assumption) ?_)
    | (with_reducible refine Fr.eqo22 (by assumption) ?_)
    | (with_reducible exact Fr2.out (by assumption))
    | dsimp only
    | split
    | (with_reducible refine Fr.ckp ?_ rfl)

theorem writeCkpMark_frame {q : Requester} {v : W32} {W : Nat} {s₀ s₁ : State} (h₀ : Fr W s₀ s₁) (hw : 131957213171006 &&& W = 131957213171006) :
    Fr W s₀ (writeCkpMark q v s₁) := by
  refine Fr.lift hw h₀ ?_
  have h : Fr 131957213171006 s₁ s₁ := Fr.refl
  clear h₀ hw
  first | rw [writeCkpMark] | unfold writeCkpMark
  repeat' first
    | with_reducible assumption
    | (intro x; refine_lift have hb : ∀ y, y = x → Fr 131957213171006 s₁ y := ?_; ?_; all_goals first | (have hx := hb x rfl; clear hb; clear_value x) | (intro y hy; unfold x at hy; rw [hy]; clear hy y))
    | (lift_lets; intro x; refine_lift have hb : ∀ y, y = x → Fr 131957213171006 s₁ y := ?_; ?_; all_goals first | (have hx := hb x rfl; clear hb; clear_value x) | (intro y hy; unfold x at hy; rw [hy]; clear hy y))
    | (with_reducible refine State.ckpRollback_frame ?_ rfl)
    | (with_reducible refine State.ckpMark_frame ?_ rfl)
    | (with_reducible refine State.ckpUnpin_frame ?_ rfl)
    | (with_reducible refine Fr.ite ?_ ?_)

theorem State.ckpCollect_frame {W : Nat} {s₀ s₁ : State} (h₀ : Fr W s₀ s₁) (hw : 35184405643264 &&& W = 35184405643264) :
    Fr W s₀ (State.ckpCollect s₁) := by
  refine Fr.lift hw h₀ ?_
  have h : Fr 35184405643264 s₁ s₁ := Fr.refl
  clear h₀ hw
  first | rw [State.ckpCollect] | unfold State.ckpCollect
  repeat' first
    | with_reducible assumption
    | (lift_lets; intro x; clear_value x)
    | (with_reducible refine Fr.ite ?_ ?_)
    | (with_reducible refine Fr.foldl (fun z a h => ?_) ?_)
    | (with_reducible refine Fr.ckp ?_ rfl)
    | (with_reducible refine Fr.trn ?_ rfl)

theorem State.freePre_frame {W : Nat} {s₀ s₁ : State} (h₀ : Fr W s₀ s₁) (hw : 131943547014198 &&& W = 131943547014198) :
    Fr W s₀ (State.freePre s₁) := by
  refine Fr.lift hw h₀ ?_
  have h : Fr 131943547014198 s₁ s₁ := Fr.refl
  clear h₀ hw
  first | rw [State.freePre] | unfold State.freePre
  repeat' first
    | with_reducible assumption
    | (lift_lets; intro x; clear_value x)
    | (with_reducible refine State.retryHeld_frame ?_ rfl)
    | (with_reducible refine Fr.ckp ?_ rfl)

theorem State.commitOne_frame {c : CkpCapture} {rest : List CkpCapture} {W : Nat} {s₀ s₁ : State} (h₀ : Fr W s₀ s₁) (hw : 131957212384766 &&& W = 131957212384766) :
    Fr W s₀ (State.commitOne s₁ c rest) := by
  refine Fr.lift hw h₀ ?_
  have h : Fr 131957212384766 s₁ s₁ := Fr.refl
  clear h₀ hw
  first | rw [State.commitOne] | unfold State.commitOne
  repeat' first
    | with_reducible assumption
    | (intro x; refine_lift have hb : ∀ y, y = x → Fr 131957212384766 s₁ y := ?_; ?_; all_goals first | (have hx := hb x rfl; clear hb; clear_value x) | (intro y hy; unfold x at hy; rw [hy]; clear hy y))
    | (intro x; clear_value x)
    | (lift_lets; intro x; refine_lift have hb : ∀ y, y = x → Fr 131957212384766 s₁ y := ?_; ?_; all_goals first | (have hx := hb x rfl; clear hb; clear_value x) | (intro y hy; unfold x at hy; rw [hy]; clear hy y))
    | (lift_lets; intro x; clear_value x)
    | (with_reducible refine State.modeUpdate_frame ?_ rfl)
    | (with_reducible refine State.wr64_frame ?_ rfl)
    | (with_reducible refine State.flagSet_frame ?_ rfl)
    | (with_reducible refine State.ckpTellAll_frame ?_ rfl)
    | (with_reducible refine State.event_frame ?_ rfl)
    | (with_reducible refine State.freePre_frame ?_ rfl)
    | (with_reducible refine Fr.onSome ?_ (fun a => ?_))
    | (with_reducible refine Fr.ite ?_ ?_)
    | (with_reducible exact Fr2.out (by assumption))
    | dsimp only
    | split
    | (with_reducible refine Fr.ckp ?_ rfl)

theorem State.localCommit_frame {x0 : Nat} {W : Nat} {s₀ s₁ : State} (h₀ : Fr W s₀ s₁) (hw : 131957212384766 &&& W = 131957212384766) :
    Fr W s₀ (State.localCommit x0 s₁) := by
  refine Fr.lift hw h₀ ?_
  clear h₀ hw
  suffices main : ∀ (x0 : Nat)  (z : State), Fr 131957212384766 s₁ z → Fr 131957212384766 s₁ (State.localCommit x0 z) from main x0  s₁ Fr.refl
  intro x0
  induction x0 with
  | zero =>
    intro  z h
    first | rw [State.localCommit] | unfold State.localCommit
    repeat' first
      | with_reducible assumption
      | (with_reducible refine State.commitOne_frame ?_ rfl)
      | (with_reducible refine Fr.ite ?_ ?_)
      | (with_reducible refine Fr.eq2 (by assumption) ?_)
      | (with_reducible refine Fr.eq22 (by assumption) ?_)
      | (with_reducible refine Fr.eq1 (by assumption) ?_)
      | (with_reducible refine Fr.eqo (by assumption) ?_)
      | (with_reducible refine Fr.eqo2 (by assumption) ?_)
      | (with_reducible refine Fr.eqo22 (by assumption) ?_)
      | dsimp only
      | split
  | succ n ih =>
    intro  z h
    first | rw [State.localCommit] | unfold State.localCommit
    repeat' first
      | with_reducible assumption
      | (with_reducible refine ih _ ?_)
      | (with_reducible refine State.commitOne_frame ?_ rfl)
      | (with_reducible refine Fr.ite ?_ ?_)
      | (with_reducible refine Fr.eq2 (by assumption) ?_)
      | (with_reducible refine Fr.eq22 (by assumption) ?_)
      | (with_reducible refine Fr.eq1 (by assumption) ?_)
      | (with_reducible refine Fr.eqo (by assumption) ?_)
      | (with_reducible refine Fr.eqo2 (by assumption) ?_)
      | (with_reducible refine Fr.eqo22 (by assumption) ?_)
      | dsimp only
      | split

theorem State.keepMirror_frame {r : CkpRegion} {page : Nat} {mark : Nat} {W : Nat} {s₀ s₁ : State} (h₀ : Fr W s₀ s₁) (hw : 131943547014194 &&& W = 131943547014194) :
    Fr W s₀ (State.keepMirror s₁ r page mark) := by
  refine Fr.lift hw h₀ ?_
  have h : Fr 131943547014194 s₁ s₁ := Fr.refl
  clear h₀ hw
  first | rw [State.keepMirror] | unfold State.keepMirror
  repeat' first
    | with_reducible assumption
    | (with_reducible refine State.takeImage_frame ?_ rfl)
    | (with_reducible refine State.readPage_frame ?_ rfl)
    | (with_reducible refine Fr22.out (State.readPage_frame ?_ rfl))
    | (lift_lets; intro x; clear_value x)
    | (with_reducible refine State.abandonPin_frame ?_ rfl)
    | (with_reducible refine Fr.ite ?_ ?_)
    | split
    | (with_reducible refine Fr.ckp ?_ rfl)

theorem State.applyEntry_frame {e : List Byte} {bad : Bool} {W : Nat} {s₀ s₁ : State} (h₀ : Fr W s₀ s₁) (hw : 131943547014198 &&& W = 131943547014198) :
    Fr W s₀ (State.applyEntry s₁ e bad) := by
  refine Fr.lift hw h₀ ?_
  have h : Fr 131943547014198 s₁ s₁ := Fr.refl
  clear h₀ hw
  first | rw [State.applyEntry] | unfold State.applyEntry
  repeat' first
    | with_reducible assumption
    | (intro x; refine_lift have hb : ∀ y, y = x → Fr 131943547014198 s₁ y := ?_; ?_; all_goals first | (have hx := hb x rfl; clear hb; clear_value x) | (intro y hy; unfold x at hy; rw [hy]; clear hy y))
    | (intro x; clear_value x)
    | (lift_lets; intro x; refine_lift have hb : ∀ y, y = x → Fr 131943547014198 s₁ y := ?_; ?_; all_goals first | (have hx := hb x rfl; clear hb; clear_value x) | (intro y hy; unfold x at hy; rw [hy]; clear hy y))
    | (lift_lets; intro x; clear_value x)
    | (with_reducible refine State.keepMirror_frame ?_ rfl)
    | (with_reducible refine State.landHbm_frame ?_ rfl)
    | (with_reducible refine Fr.ite ?_ ?_)
    | (with_reducible refine Fr.eq2 (by assumption) ?_)
    | (with_reducible refine Fr.eq22 (by assumption) ?_)
    | (with_reducible refine Fr.eq1 (by assumption) ?_)
    | (with_reducible refine Fr.eqo (by assumption) ?_)
    | (with_reducible refine Fr.eqo2 (by assumption) ?_)
    | (with_reducible refine Fr.eqo22 (by assumption) ?_)
    | (with_reducible exact Fr2.out (by assumption))
    | dsimp only
    | split

theorem State.applyJournal_frame {W : Nat} {s₀ s₁ : State} (h₀ : Fr W s₀ s₁) (hw : 131943547014206 &&& W = 131943547014206) :
    Fr W s₀ (State.applyJournal s₁) := by
  refine Fr.lift hw h₀ ?_
  have h : Fr 131943547014206 s₁ s₁ := Fr.refl
  clear h₀ hw
  first | rw [State.applyJournal] | unfold State.applyJournal
  repeat' first
    | with_reducible assumption
    | (with_reducible refine State.load_frame ?_ rfl)
    | (with_reducible refine Fr22.out (State.load_frame ?_ rfl))
    | (lift_lets; intro x; clear_value x)
    | (with_reducible refine State.applyEntry_frame ?_ rfl)
    | (with_reducible refine Fr.foldl (fun z a h => ?_) ?_)
    | (with_reducible refine Fr.ckp ?_ rfl)

theorem State.setReplica_frame {v : Nat} {W : Nat} {s₀ s₁ : State} (h₀ : Fr W s₀ s₁) (hw : 131957212122430 &&& W = 131957212122430) :
    Fr W s₀ (State.setReplica s₁ v) := by
  refine Fr.lift hw h₀ ?_
  have h : Fr 131957212122430 s₁ s₁ := Fr.refl
  clear h₀ hw
  first | rw [State.setReplica] | unfold State.setReplica
  repeat' first
    | with_reducible assumption
    | (intro x; refine_lift have hb : ∀ y, y = x → Fr 131957212122430 s₁ y := ?_; ?_; all_goals first | (have hx := hb x rfl; clear hb; clear_value x) | (intro y hy; unfold x at hy; rw [hy]; clear hy y))
    | (intro x; clear_value x)
    | (lift_lets; intro x; refine_lift have hb : ∀ y, y = x → Fr 131957212122430 s₁ y := ?_; ?_; all_goals first | (have hx := hb x rfl; clear hb; clear_value x) | (intro y hy; unfold x at hy; rw [hy]; clear hy y))
    | (lift_lets; intro x; clear_value x)
    | (with_reducible refine State.wr64_frame ?_ rfl)
    | (with_reducible refine State.modeUpdate_frame ?_ rfl)
    | (with_reducible refine State.ckpSend_frame ?_ rfl)
    | (with_reducible refine State.applyJournal_frame ?_ rfl)
    | (with_reducible refine State.freePre_frame ?_ rfl)
    | (with_reducible refine Fr.ite ?_ ?_)
    | (with_reducible refine Fr.eq2 (by assumption) ?_)
    | (with_reducible refine Fr.eq22 (by assumption) ?_)
    | (with_reducible refine Fr.eq1 (by assumption) ?_)
    | (with_reducible refine Fr.eqo (by assumption) ?_)
    | (with_reducible refine Fr.eqo2 (by assumption) ?_)
    | (with_reducible refine Fr.eqo22 (by assumption) ?_)
    | (with_reducible exact Fr2.out (by assumption))
    | dsimp only
    | split
    | (with_reducible refine Fr.ckp ?_ rfl)

theorem writeCkpReplica_frame {q : Requester} {v : W64} {W : Nat} {s₀ s₁ : State} (h₀ : Fr W s₀ s₁) (hw : 131957212122430 &&& W = 131957212122430) :
    Fr W s₀ (writeCkpReplica q v s₁) := by
  refine Fr.lift hw h₀ ?_
  have h : Fr 131957212122430 s₁ s₁ := Fr.refl
  clear h₀ hw
  first | rw [writeCkpReplica] | unfold writeCkpReplica
  repeat' first
    | with_reducible assumption
    | (with_reducible refine State.setReplica_frame ?_ rfl)
    | (with_reducible refine Fr.ite ?_ ?_)

theorem writeCkpReplicaWord_frame {q : Requester} {hi : Bool} {v : W32} {W : Nat} {s₀ s₁ : State} (h₀ : Fr W s₀ s₁) (hw : 131957212122430 &&& W = 131957212122430) :
    Fr W s₀ (writeCkpReplicaWord q hi v s₁) := by
  refine Fr.lift hw h₀ ?_
  have h : Fr 131957212122430 s₁ s₁ := Fr.refl
  clear h₀ hw
  first | rw [writeCkpReplicaWord] | unfold writeCkpReplicaWord
  repeat' first
    | with_reducible assumption
    | (with_reducible refine State.setReplica_frame ?_ rfl)
    | (with_reducible refine Fr.ite ?_ ?_)

theorem State.replicaFromLocals_frame {W : Nat} {s₀ s₁ : State} (h₀ : Fr W s₀ s₁) (hw : 131957212122430 &&& W = 131957212122430) :
    Fr W s₀ (State.replicaFromLocals s₁) := by
  refine Fr.lift hw h₀ ?_
  have h : Fr 131957212122430 s₁ s₁ := Fr.refl
  clear h₀ hw
  first | rw [State.replicaFromLocals] | unfold State.replicaFromLocals
  repeat' first
    | with_reducible assumption
    | (with_reducible refine State.setReplica_frame ?_ rfl)
    | (with_reducible refine Fr.ite ?_ ?_)

theorem State.signBytes_frame {bs : List Byte} {W : Nat} {s₀ s₁ : State} (h₀ : Fr W s₀ s₁) (hw : 256 &&& W = 256) :
    Fr2 W s₀ (State.signBytes s₁ bs) := by
  refine Fr2.lift hw h₀ ?_
  have h : Fr 256 s₁ s₁ := Fr.refl
  clear h₀ hw
  first | rw [State.signBytes] | unfold State.signBytes
  repeat' first
    | with_reducible assumption
    | (with_reducible refine State.tick_frame ?_ rfl)
    | (with_reducible refine Fr2.pair ?_)

theorem State.ckpWrite_frame {vol : Nat} {lba : Nat} {fua : Bool} {bs : List Byte} {W : Nat} {s₀ s₁ : State} (h₀ : Fr W s₀ s₁) (hw : 1280 &&& W = 1280) :
    Fr2 W s₀ (State.ckpWrite s₁ vol lba fua bs) := by
  refine Fr2.lift hw h₀ ?_
  have h : Fr 1280 s₁ s₁ := Fr.refl
  clear h₀ hw
  first | rw [State.ckpWrite] | unfold State.ckpWrite
  repeat' first
    | with_reducible assumption
    | (lift_lets; intro x; clear_value x)
    | (with_reducible refine State.tick_frame ?_ rfl)
    | (with_reducible refine State.emit_frame ?_ rfl)
    | (with_reducible refine Fr2.ite ?_ ?_)
    | split
    | (with_reducible refine Fr2.pair ?_)

theorem State.noteSnap_frame {cstep : Nat} {entry : List Byte} {W : Nat} {s₀ s₁ : State} (h₀ : Fr W s₀ s₁) (hw : 35184372088832 &&& W = 35184372088832) :
    Fr W s₀ (State.noteSnap s₁ cstep entry) := by
  refine Fr.lift hw h₀ ?_
  have h : Fr 35184372088832 s₁ s₁ := Fr.refl
  clear h₀ hw
  first | rw [State.noteSnap] | unfold State.noteSnap
  repeat' first
    | with_reducible assumption
    | (lift_lets; intro x; clear_value x)
    | (with_reducible refine Fr.ckp ?_ rfl)

theorem State.writeShard_frame {vol : Nat} {at_ : Nat} {first : List Byte} {mid : List Byte} {body : List Byte} {W : Nat} {s₀ s₁ : State} (h₀ : Fr W s₀ s₁) (hw : 1280 &&& W = 1280) :
    Fr2 W s₀ (State.writeShard vol at_ first mid body s₁) := by
  refine Fr2.lift hw h₀ ?_
  have h : Fr 1280 s₁ s₁ := Fr.refl
  clear h₀ hw
  first | rw [State.writeShard] | unfold State.writeShard
  repeat' first
    | with_reducible assumption
    | (with_reducible refine State.ckpWrite_frame ?_ rfl)
    | (with_reducible refine Fr2.ite ?_ ?_)
    | (with_reducible refine Fr2.out (State.ckpWrite_frame ?_ rfl))
    | (with_reducible refine Fr2.out (Fr2.ite ?_ ?_))

theorem State.reportSnap_frame {m : Nat} {e : Nat} {entry : List Byte} {W : Nat} {s₀ s₁ : State} (h₀ : Fr W s₀ s₁) (hw : 131957212122430 &&& W = 131957212122430) :
    Fr W s₀ (State.reportSnap m e entry s₁) := by
  refine Fr.lift hw h₀ ?_
  have h : Fr 131957212122430 s₁ s₁ := Fr.refl
  clear h₀ hw
  first | rw [State.reportSnap] | unfold State.reportSnap
  repeat' first
    | with_reducible assumption
    | (with_reducible refine State.noteSnap_frame ?_ rfl)
    | (with_reducible refine State.ckpTell_frame ?_ rfl)
    | (with_reducible refine Fr.ite ?_ ?_)
    | (with_reducible refine Fr.onSome ?_ (fun a => ?_))

theorem State.readSnap_frame {m : Nat} {W : Nat} {s₀ s₁ : State} (h₀ : Fr W s₀ s₁) (hw : 96759174925362 &&& W = 96759174925362) :
    Fr W s₀ (State.readSnap s₁ m) := by
  refine Fr.lift hw h₀ ?_
  have h : Fr 96759174925362 s₁ s₁ := Fr.refl
  clear h₀ hw
  first | rw [State.readSnap] | unfold State.readSnap
  repeat' first
    | with_reducible assumption
    | (with_reducible refine State.readAt_frame ?_ rfl)
    | (with_reducible refine Fr22.out (State.readAt_frame ?_ rfl))
    | (with_reducible refine Fr.foldl (fun z a h => ?_) ?_)
    | (with_reducible refine Fr.ite ?_ ?_)
    | split

theorem State.writeSnapshot_frame {buddy : Bool} {at_ : Nat} {vol : Nat} {m : Nat} {base : Nat} {W : Nat} {s₀ s₁ : State} (h₀ : Fr W s₀ s₁) (hw : 131957212122430 &&& W = 131957212122430) :
    Fr W s₀ (State.writeSnapshot buddy at_ vol m base s₁) := by
  refine Fr.lift hw h₀ ?_
  have h : Fr 131957212122430 s₁ s₁ := Fr.refl
  clear h₀ hw
  first | rw [State.writeSnapshot] | unfold State.writeSnapshot
  repeat' first
    | with_reducible assumption
    | (with_reducible refine State.readSnap_frame ?_ rfl)
    | (lift_lets; intro x; clear_value x)
    | (with_reducible refine State.reportSnap_frame ?_ rfl)
    | (with_reducible refine State.event_frame ?_ rfl)
    | (with_reducible refine Fr2.out (State.writeShard_frame ?_ rfl))
    | (with_reducible refine Fr2.out (State.signBytes_frame ?_ rfl))
    | (with_reducible refine Fr.ckp ?_ rfl)

theorem State.writeManifest_frame {lba : W64} {vol : Nat} {retain : Nat} {m : Nat} {W : Nat} {s₀ s₁ : State} (h₀ : Fr W s₀ s₁) (hw : 35184372090112 &&& W = 35184372090112) :
    Fr W s₀ (State.writeManifest lba vol retain m s₁) := by
  refine Fr.lift hw h₀ ?_
  have h : Fr 35184372090112 s₁ s₁ := Fr.refl
  clear h₀ hw
  first | rw [State.writeManifest] | unfold State.writeManifest
  repeat' first
    | with_reducible assumption
    | (lift_lets; intro x; clear_value x)
    | (with_reducible refine State.emit_frame ?_ rfl)
    | (with_reducible refine Fr2.out (State.ckpWrite_frame ?_ rfl))
    | (with_reducible refine Fr2.out (State.signBytes_frame ?_ rfl))
    | (with_reducible refine Fr.ckp ?_ rfl)

theorem State.ckpClose_frame {n : Nat} {W : Nat} {s₀ s₁ : State} (h₀ : Fr W s₀ s₁) (hw : 131943548063038 &&& W = 131943548063038) :
    Fr W s₀ (State.ckpClose s₁ n) := by
  refine Fr.lift hw h₀ ?_
  have h : Fr 131943548063038 s₁ s₁ := Fr.refl
  clear h₀ hw
  first | rw [State.ckpClose] | unfold State.ckpClose
  repeat' first
    | with_reducible assumption
    | (lift_lets; intro x; clear_value x)
    | (with_reducible refine State.fetchCtx_frame ?_ rfl)
    | (with_reducible refine State.kvSettle_frame ?_ rfl)
    | (with_reducible refine State.kvPump_frame ?_ rfl)
    | (with_reducible refine State.setCx_frame ?_ rfl)
    | (with_reducible refine Fr.kv ?_ rfl)

theorem State.ckpDrain_frame {W : Nat} {s₀ s₁ : State} (h₀ : Fr W s₀ s₁) (hw : 131943550160190 &&& W = 131943550160190) :
    Fr W s₀ (State.ckpDrain s₁) := by
  refine Fr.lift hw h₀ ?_
  have h : Fr 131943550160190 s₁ s₁ := Fr.refl
  clear h₀ hw
  first | rw [State.ckpDrain] | unfold State.ckpDrain
  repeat' first
    | with_reducible assumption
    | (lift_lets; intro x; clear_value x)
    | (with_reducible refine State.setCx_frame ?_ rfl)
    | (with_reducible refine State.ckpClose_frame ?_ rfl)
    | (with_reducible refine Fr.foldl (fun z a h => ?_) ?_)
    | (with_reducible refine Fr.eland ?_ rfl)

theorem writeCkpLease_frame {q : Requester} {hi : Bool} {v : W32} {W : Nat} {s₀ s₁ : State} (h₀ : Fr W s₀ s₁) (hw : 35184372088834 &&& W = 35184372088834) :
    Fr W s₀ (writeCkpLease q hi v s₁) := by
  refine Fr.lift hw h₀ ?_
  have h : Fr 35184372088834 s₁ s₁ := Fr.refl
  clear h₀ hw
  first | rw [writeCkpLease] | unfold writeCkpLease
  repeat' first
    | with_reducible assumption
    | (intro x; clear_value x)
    | (lift_lets; intro x; refine_lift have hb : ∀ y, y = x → Fr 35184372088834 s₁ y := ?_; ?_; all_goals first | (have hx := hb x rfl; clear hb; clear_value x) | (intro y hy; unfold x at hy; rw [hy]; clear hy y))
    | (with_reducible refine State.wr_frame ?_ rfl)
    | (with_reducible refine Fr.ite ?_ ?_)
    | (with_reducible refine Fr.ckp ?_ rfl)

theorem State.setServed_frame {w : CkpServed} {W : Nat} {s₀ s₁ : State} (h₀ : Fr W s₀ s₁) (hw : 35184372088832 &&& W = 35184372088832) :
    Fr W s₀ (State.setServed s₁ w) := by
  refine Fr.lift hw h₀ ?_
  have h : Fr 35184372088832 s₁ s₁ := Fr.refl
  clear h₀ hw
  first | rw [State.setServed] | unfold State.setServed
  repeat' first
    | with_reducible assumption
    | (lift_lets; intro x; clear_value x)
    | (with_reducible refine Fr.ckp ?_ rfl)

theorem State.witnessSays_frame {conn : Nat} {kind : Nat} {replica : Nat} {view : Nat} {seq : Nat} {cstep : Nat} {arg : Nat} {W : Nat} {s₀ s₁ : State} (h₀ : Fr W s₀ s₁) (hw : 131957212122430 &&& W = 131957212122430) :
    Fr W s₀ (State.witnessSays s₁ conn kind replica view seq cstep arg) := by
  refine Fr.lift hw h₀ ?_
  have h : Fr 131957212122430 s₁ s₁ := Fr.refl
  clear h₀ hw
  first | rw [State.witnessSays] | unfold State.witnessSays
  repeat' first
    | with_reducible assumption
    | (with_reducible refine State.ckpSendOn_frame ?_ rfl)

theorem State.propose_frame {rank : Nat} {spare : Nat} {W : Nat} {s₀ s₁ : State} (h₀ : Fr W s₀ s₁) (hw : 131957212122430 &&& W = 131957212122430) :
    Fr W s₀ (State.propose s₁ rank spare) := by
  refine Fr.lift hw h₀ ?_
  have h : Fr 131957212122430 s₁ s₁ := Fr.refl
  clear h₀ hw
  first | rw [State.propose] | unfold State.propose
  repeat' first
    | with_reducible assumption
    | (intro x; refine_lift have hb : ∀ y, y = x → Fr 131957212122430 s₁ y := ?_; ?_; all_goals first | (have hx := hb x rfl; clear hb; clear_value x) | (intro y hy; unfold x at hy; rw [hy]; clear hy y))
    | (intro x; clear_value x)
    | (lift_lets; intro x; clear_value x)
    | (with_reducible refine State.ckpTell_frame ?_ rfl)
    | (with_reducible refine Fr.ite ?_ ?_)
    | (with_reducible refine Fr.foldl (fun z a h => ?_) ?_)
    | split
    | (with_reducible refine Fr.ckp ?_ rfl)

theorem State.enterView_frame {v : Nat} {ranks : List Nat} {W : Nat} {s₀ s₁ : State} (h₀ : Fr W s₀ s₁) (hw : 131943548062774 &&& W = 131943548062774) :
    Fr W s₀ (State.enterView s₁ v ranks) := by
  refine Fr.lift hw h₀ ?_
  have h : Fr 131943548062774 s₁ s₁ := Fr.refl
  clear h₀ hw
  first | rw [State.enterView] | unfold State.enterView
  repeat' first
    | with_reducible assumption
    | (with_reducible refine State.modeUpdate_frame ?_ rfl)
    | (with_reducible refine State.ckpRollback_frame ?_ rfl)
    | (with_reducible refine writeArbMode_frame ?_ rfl)
    | (with_reducible refine State.event_frame ?_ rfl)
    | (with_reducible refine Fr.ite ?_ ?_)
    | (with_reducible refine Fr.ckp ?_ rfl)

theorem State.buddyGone_frame {gone : List (Nat × Nat)} {W : Nat} {s₀ s₁ : State} (h₀ : Fr W s₀ s₁) (hw : 35186519575586 &&& W = 35186519575586) :
    Fr W s₀ (State.buddyGone s₁ gone) := by
  refine Fr.lift hw h₀ ?_
  have h : Fr 35186519575586 s₁ s₁ := Fr.refl
  clear h₀ hw
  first | rw [State.buddyGone] | unfold State.buddyGone
  repeat' first
    | with_reducible assumption
    | (intro x; clear_value x)
    | (lift_lets; intro x; refine_lift have hb : ∀ y, y = x → Fr 35186519575586 s₁ y := ?_; ?_; all_goals first | (have hx := hb x rfl; clear hb; clear_value x) | (intro y hy; unfold x at hy; rw [hy]; clear hy y))
    | (with_reducible refine State.event_frame ?_ rfl)
    | (with_reducible refine Fr.ite ?_ ?_)
    | (with_reducible refine Fr.ckp ?_ rfl)

theorem State.installView_frame {v : Nat} {members : List Nat} {W : Nat} {s₀ s₁ : State} (h₀ : Fr W s₀ s₁) (hw : 131943550160190 &&& W = 131943550160190) :
    Fr W s₀ (State.installView s₁ v members) := by
  refine Fr.lift hw h₀ ?_
  rw [State.installView]
  have h : Fr 131943550160190 s₁ { s₁ with ckp := { s₁.ckp with view := v, members := members, leaseSent := none, grants := [] } } :=
    Fr.ckp Fr.refl rfl
  generalize ({ s₁ with ckp := { s₁.ckp with view := v, members := members, leaseSent := none, grants := [] } } : State) = z at h
  refine Fr.ite (State.ckpDrain_frame h rfl) ?_
  exact State.buddyGone_frame (State.enterView_frame h rfl) rfl

theorem State.restoreChunk_frame {rs : List CkpRegion} {shards : List (List Byte)} {sh : List Byte} {x : List Byte × List Byte} {W : Nat} {s₀ s₁ : State} (h₀ : Fr W s₀ s₁) (hw : 131943547014454 &&& W = 131943547014454) :
    Fr W s₀ (State.restoreChunk s₁ rs shards sh x) := by
  refine Fr.lift hw h₀ ?_
  have h : Fr 131943547014454 s₁ s₁ := Fr.refl
  clear h₀ hw
  first | rw [State.restoreChunk] | unfold State.restoreChunk
  repeat' first
    | with_reducible assumption
    | (intro x; clear_value x)
    | (lift_lets; intro x; clear_value x)
    | (with_reducible refine State.landHbm_frame ?_ rfl)
    | (with_reducible refine State.tick_frame ?_ rfl)
    | (with_reducible refine Fr.ite ?_ ?_)
    | split

theorem State.parkAll_frame {W : Nat} {s₀ s₁ : State} (h₀ : Fr W s₀ s₁) (hw : 131943548063038 &&& W = 131943548063038) :
    Fr W s₀ (State.parkAll s₁) := by
  refine Fr.lift hw h₀ ?_
  have h : Fr 131943548063038 s₁ s₁ := Fr.refl
  clear h₀ hw
  first | rw [State.parkAll] | unfold State.parkAll
  repeat' first
    | with_reducible assumption
    | (lift_lets; intro x; clear_value x)
    | (with_reducible refine State.setCx_frame ?_ rfl)
    | (with_reducible refine Fr.foldl (fun z a h => ?_) ?_)
    | (with_reducible refine Fr.kv ?_ rfl)

theorem State.restoreTo_frame {x : CkpRestore} {c : Nat} {man : List Byte} {W : Nat} {s₀ s₁ : State} (h₀ : Fr W s₀ s₁) (hw : 131943550160190 &&& W = 131943550160190) :
    Fr W s₀ (State.restoreTo s₁ x c man) := by
  refine Fr.lift hw h₀ ?_
  have h : Fr 131943550160190 s₁ s₁ := Fr.refl
  clear h₀ hw
  first | rw [State.restoreTo] | unfold State.restoreTo
  repeat' first
    | with_reducible assumption
    | (intro x; clear_value x)
    | (lift_lets; intro x; clear_value x)
    | (with_reducible refine State.wr64_frame ?_ rfl)
    | (with_reducible refine State.parkAll_frame ?_ rfl)
    | (with_reducible refine State.zeroResiduals_frame ?_ rfl)
    | (with_reducible refine State.restoreChunk_frame ?_ rfl)
    | (with_reducible refine State.event_frame ?_ rfl)
    | (with_reducible refine Fr.ite ?_ ?_)
    | (with_reducible refine Fr.foldl (fun z a h => ?_) ?_)
    | split
    | (with_reducible refine Fr.upd_kv_eland_ckp ?_ rfl rfl rfl)
    | (refine Fr.upd_mem_lineMarks ?_ rfl rfl (fun hs => by first | exact Tab.wf_set _ _ (hs.2.1) | exact Tab.wf_filter _ (hs.2.1)))

theorem State.restoreDecide_frame {x0 : Nat} {W : Nat} {s₀ s₁ : State} (h₀ : Fr W s₀ s₁) (hw : 131957215268158 &&& W = 131957215268158) :
    Fr W s₀ (State.restoreDecide x0 s₁) := by
  refine Fr.lift hw h₀ ?_
  clear h₀ hw
  suffices main : ∀ (x0 : Nat)  (z : State), Fr 131957215268158 s₁ z → Fr 131957215268158 s₁ (State.restoreDecide x0 z) from main x0  s₁ Fr.refl
  intro x0
  induction x0 with
  | zero =>
    intro  z h
    first | rw [State.restoreDecide] | unfold State.restoreDecide
    repeat' first
      | with_reducible assumption
      | (with_reducible refine State.modeUpdate_frame ?_ rfl)
      | (intro x; refine_lift have hb : ∀ y, y = x → Fr 131957215268158 s₁ y := ?_; ?_; all_goals first | (have hx := hb x rfl; clear hb; clear_value x) | (intro y hy; unfold x at hy; rw [hy]; clear hy y))
      | (intro x; clear_value x)
      | (lift_lets; intro x; clear_value x)
      | (with_reducible refine ih _ ?_)
      | (with_reducible refine State.answer_frame ?_ rfl)
      | (with_reducible refine State.ckpTellAll_frame ?_ rfl)
      | (with_reducible refine State.restoreTo_frame ?_ rfl)
      | (with_reducible refine Fr.ite ?_ ?_)
      | split
      | dsimp only
      | (with_reducible refine Fr.ckp ?_ rfl)
  | succ n ih =>
    intro  z h
    first | rw [State.restoreDecide] | unfold State.restoreDecide
    repeat' first
      | with_reducible assumption
      | (with_reducible refine State.modeUpdate_frame ?_ rfl)
      | (intro x; refine_lift have hb : ∀ y, y = x → Fr 131957215268158 s₁ y := ?_; ?_; all_goals first | (have hx := hb x rfl; clear hb; clear_value x) | (intro y hy; unfold x at hy; rw [hy]; clear hy y))
      | (intro x; clear_value x)
      | (lift_lets; intro x; clear_value x)
      | (with_reducible refine ih _ ?_)
      | (with_reducible refine State.answer_frame ?_ rfl)
      | (with_reducible refine State.ckpTellAll_frame ?_ rfl)
      | (with_reducible refine State.restoreTo_frame ?_ rfl)
      | (with_reducible refine Fr.ite ?_ ?_)
      | split
      | dsimp only
      | (with_reducible refine Fr.ckp ?_ rfl)

end Sys2Proof.Machine
end

