-- ==== Sys2Proof/Laws/FramePackage.lean ====
section
/-! SUPPORT. Frames of the functions of Machine/Package.lean: which parts of the state each may change. -/

namespace Sys2Proof.Machine

theorem State.tryBoot_frame {W : Nat} {s₀ s₁ : State} (h₀ : Fr W s₀ s₁) (hw : 96794608405794 &&& W = 96794608405794) :
    Fr W s₀ (State.tryBoot s₁) := by
  refine Fr.lift hw h₀ ?_
  have h : Fr 96794608405794 s₁ s₁ := Fr.refl
  clear h₀ hw
  first | rw [State.tryBoot] | unfold State.tryBoot
  repeat' first
    | with_reducible assumption
    | (with_reducible refine State.bootRom_frame ?_ rfl)
    | (with_reducible refine Fr.ite ?_ ?_)

theorem writeDevReset_frame {q : Requester} {v : W32} {W : Nat} {s₀ s₁ : State} (h₀ : Fr W s₀ s₁) (hw : 136322261975038 &&& W = 136322261975038) :
    Fr W s₀ (writeDevReset q v s₁) := by
  refine Fr.lift hw h₀ ?_
  have h : Fr 136322261975038 s₁ s₁ := Fr.refl
  clear h₀ hw
  first | rw [writeDevReset] | unfold writeDevReset
  repeat' first
    | with_reducible assumption
    | (with_reducible refine State.resetAndBoot_frame ?_ rfl)
    | (with_reducible refine Fr.ite ?_ ?_)

theorem State.rootUp_frame {n : Nat} {W : Nat} {s₀ s₁ : State} (h₀ : Fr W s₀ s₁) (hw : 70368744177664 &&& W = 70368744177664) :
    Fr W s₀ (State.rootUp s₁ n) := by
  refine Fr.lift hw h₀ ?_
  have h : Fr 70368744177664 s₁ s₁ := Fr.refl
  clear h₀ hw
  first | rw [State.rootUp] | unfold State.rootUp
  repeat' first
    | with_reducible assumption
    | (lift_lets; intro x; clear_value x)
    | (with_reducible refine Fr.pins ?_ rfl)

theorem State.driveUp_frame {d : Nat} {width : Nat} {mdts : Nat} {nss : List (Nat × Nat × Bool)} {vwc : Bool} {W : Nat} {s₀ s₁ : State} (h₀ : Fr W s₀ s₁) (hw : 70369281048578 &&& W = 70369281048578) :
    Fr W s₀ (State.driveUp s₁ d width mdts nss vwc) := by
  refine Fr.lift hw h₀ ?_
  have h : Fr 70369281048578 s₁ s₁ := Fr.refl
  clear h₀ hw
  first | rw [State.driveUp] | unfold State.driveUp
  repeat' first
    | with_reducible assumption
    | (with_reducible refine State.sf_frame ?_ rfl)
    | (with_reducible refine State.setBacking_frame ?_ rfl)
    | (with_reducible refine State.rootUp_frame ?_ rfl)

end Sys2Proof.Machine
end

