-- ==== Sys2Proof/Laws/FrameHostLink.lean ====
section
/-! SUPPORT. Frames of the functions of Machine/HostLink.lean: which parts of the state each may change. -/

namespace Sys2Proof.Machine

theorem State.aerNonFatal_frame {bit : Nat} {W : Nat} {s₀ s₁ : State} (h₀ : Fr W s₀ s₁) (hw : 2147484672 &&& W = 2147484672) :
    Fr W s₀ (State.aerNonFatal s₁ bit) := by
  refine Fr.lift hw h₀ ?_
  have h : Fr 2147484672 s₁ s₁ := Fr.refl
  clear h₀ hw
  first | rw [State.aerNonFatal] | unfold State.aerNonFatal
  repeat' first
    | with_reducible assumption
    | (with_reducible refine State.cfgWr_frame ?_ rfl)
    | (with_reducible refine State.emit_frame ?_ rfl)
    | (with_reducible refine Fr.ite ?_ ?_)

theorem State.aerAdvisory_frame {bit : Nat} {W : Nat} {s₀ s₁ : State} (h₀ : Fr W s₀ s₁) (hw : 2147484672 &&& W = 2147484672) :
    Fr W s₀ (State.aerAdvisory s₁ bit) := by
  refine Fr.lift hw h₀ ?_
  have h : Fr 2147484672 s₁ s₁ := Fr.refl
  clear h₀ hw
  first | rw [State.aerAdvisory] | unfold State.aerAdvisory
  repeat' first
    | with_reducible assumption
    | (intro x; refine_lift have hb : ∀ y, y = x → Fr 2147484672 s₁ y := ?_; ?_; all_goals first | (have hx := hb x rfl; clear hb; clear_value x) | (intro y hy; unfold x at hy; rw [hy]; clear hy y))
    | (intro x; clear_value x)
    | (lift_lets; intro x; refine_lift have hb : ∀ y, y = x → Fr 2147484672 s₁ y := ?_; ?_; all_goals first | (have hx := hb x rfl; clear hb; clear_value x) | (intro y hy; unfold x at hy; rw [hy]; clear hy y))
    | (lift_lets; intro x; clear_value x)
    | (with_reducible refine State.cfgWr_frame ?_ rfl)
    | (with_reducible refine State.emit_frame ?_ rfl)
    | (with_reducible refine Fr.ite ?_ ?_)
    | (with_reducible exact Fr2.out (by assumption))
    | dsimp only
    | split

theorem State.unsupported_frame {W : Nat} {s₀ s₁ : State} (h₀ : Fr W s₀ s₁) (hw : 2147484672 &&& W = 2147484672) :
    Fr W s₀ (State.unsupported s₁) := by
  refine Fr.lift hw h₀ ?_
  have h : Fr 2147484672 s₁ s₁ := Fr.refl
  clear h₀ hw
  first | rw [State.unsupported] | unfold State.unsupported
  repeat' first
    | with_reducible assumption
    | (with_reducible refine State.aerAdvisory_frame ?_ rfl)
    | (with_reducible refine Fr.ite ?_ ?_)
    | split

theorem writeWinCommit_frame {q : Requester} {v : W32} {W : Nat} {s₀ s₁ : State} (h₀ : Fr W s₀ s₁) (hw : 2 &&& W = 2) :
    Fr W s₀ (writeWinCommit q v s₁) := by
  refine Fr.lift hw h₀ ?_
  have h : Fr 2 s₁ s₁ := Fr.refl
  clear h₀ hw
  first | rw [writeWinCommit] | unfold writeWinCommit
  repeat' first
    | with_reducible assumption
    | (with_reducible refine State.sf_frame ?_ rfl)
    | (with_reducible refine Fr.ite ?_ ?_)
    | split

theorem writeWinStaged_frame {q : Requester} {off : Nat} {mask : W32} {v : W32} {W : Nat} {s₀ s₁ : State} (h₀ : Fr W s₀ s₁) (hw : 2 &&& W = 2) :
    Fr W s₀ (writeWinStaged q off mask v s₁) := by
  refine Fr.lift hw h₀ ?_
  have h : Fr 2 s₁ s₁ := Fr.refl
  clear h₀ hw
  first | rw [writeWinStaged] | unfold writeWinStaged
  repeat' first
    | with_reducible assumption
    | (with_reducible refine State.wr_frame ?_ rfl)
    | (with_reducible refine Fr.ite ?_ ?_)

theorem State.hwinCommit_frame {t : List HWin} {W : Nat} {s₀ s₁ : State} (h₀ : Fr W s₀ s₁) (hw : 2147483650 &&& W = 2147483650) :
    Fr W s₀ (State.hwinCommit s₁ t) := by
  refine Fr.lift hw h₀ ?_
  have h : Fr 2147483650 s₁ s₁ := Fr.refl
  clear h₀ hw
  first | rw [State.hwinCommit] | unfold State.hwinCommit
  repeat' first
    | with_reducible assumption
    | (lift_lets; intro x; clear_value x)
    | (with_reducible refine State.sf_frame ?_ rfl)
    | (with_reducible refine Fr.onSome ?_ (fun a => ?_))
    | (with_reducible refine Fr.host ?_ rfl)

theorem writeHwinCommit_frame {q : Requester} {v : W32} {W : Nat} {s₀ s₁ : State} (h₀ : Fr W s₀ s₁) (hw : 96759174925370 &&& W = 96759174925370) :
    Fr W s₀ (writeHwinCommit q v s₁) := by
  refine Fr.lift hw h₀ ?_
  have h : Fr 96759174925370 s₁ s₁ := Fr.refl
  clear h₀ hw
  first | rw [writeHwinCommit] | unfold writeHwinCommit
  repeat' first
    | with_reducible assumption
    | (with_reducible refine State.load_frame ?_ rfl)
    | (with_reducible refine Fr22.out (State.load_frame ?_ rfl))
    | (with_reducible refine State.hwinCommit_frame ?_ rfl)
    | (with_reducible refine Fr.ite ?_ ?_)

theorem writeHwinBase_frame {q : Requester} {off : Nat} {mask : W32} {v : W32} {W : Nat} {s₀ s₁ : State} (h₀ : Fr W s₀ s₁) (hw : 2 &&& W = 2) :
    Fr W s₀ (writeHwinBase q off mask v s₁) := by
  refine Fr.lift hw h₀ ?_
  have h : Fr 2 s₁ s₁ := Fr.refl
  clear h₀ hw
  first | rw [writeHwinBase] | unfold writeHwinBase
  repeat' first
    | with_reducible assumption
    | (with_reducible refine State.wr_frame ?_ rfl)
    | (with_reducible refine Fr.ite ?_ ?_)

theorem State.hostStops_frame {W : Nat} {s₀ s₁ : State} (h₀ : Fr W s₀ s₁) (hw : 131957002407230 &&& W = 131957002407230) :
    Fr W s₀ (State.hostStops s₁) := by
  refine Fr.lift hw h₀ ?_
  have h : Fr 131957002407230 s₁ s₁ := Fr.refl
  clear h₀ hw
  first | rw [State.hostStops] | unfold State.hostStops
  repeat' first
    | with_reducible assumption
    | (lift_lets; intro x; clear_value x)
    | (with_reducible refine State.stoHostDown_frame ?_ rfl)
    | (with_reducible refine State.pba_frame ?_ rfl)
    | (with_reducible refine State.trnHostDown_frame ?_ rfl)
    | (with_reducible refine Fr.foldl (fun z a h => ?_) ?_)
    | (with_reducible refine Fr.host ?_ rfl)

theorem State.hostReturns_frame {W : Nat} {s₀ s₁ : State} (h₀ : Fr W s₀ s₁) (hw : 131957213171198 &&& W = 131957213171198) :
    Fr W s₀ (State.hostReturns s₁) := by
  refine Fr.lift hw h₀ ?_
  have h : Fr 131957213171198 s₁ s₁ := Fr.refl
  clear h₀ hw
  first | rw [State.hostReturns] | unfold State.hostReturns
  repeat' first
    | with_reducible assumption
    | (with_reducible refine State.flushEvents_frame ?_ rfl)
    | (with_reducible refine State.pumpAll_frame ?_ rfl)
    | (with_reducible refine State.instFlushAll_frame ?_ rfl)
    | (with_reducible refine State.kvPump_frame ?_ rfl)
    | (with_reducible refine Fr.ite ?_ ?_)

theorem State.startFlr_frame {W : Nat} {s₀ s₁ : State} (h₀ : Fr W s₀ s₁) (hw : 131958285864254 &&& W = 131958285864254) :
    Fr W s₀ (State.startFlr s₁) := by
  refine Fr.lift hw h₀ ?_
  have h : Fr 131958285864254 s₁ s₁ := Fr.refl
  clear h₀ hw
  first | rw [State.startFlr] | unfold State.startFlr
  repeat' first
    | with_reducible assumption
    | (intro x; clear_value x)
    | (lift_lets; intro x; clear_value x)
    | (with_reducible refine State.secFlr_frame ?_ rfl)
    | (with_reducible refine State.instReset_frame ?_ rfl)
    | (with_reducible refine State.hostStops_frame ?_ rfl)
    | (with_reducible refine State.sf_frame ?_ rfl)
    | (with_reducible refine Fr.foldl (fun z a h => ?_) ?_)
    | dsimp only
    | (with_reducible refine Fr.host ?_ rfl)
    | (refine Fr.upd_regs_host ?_ rfl rfl (fun hs => by first | exact Tab.wf_set _ _ (hs.1) | exact Tab.wf_filter _ (hs.1)))

theorem State.toD3hot_frame {W : Nat} {s₀ s₁ : State} (h₀ : Fr W s₀ s₁) (hw : 131957002407230 &&& W = 131957002407230) :
    Fr W s₀ (State.toD3hot s₁) := by
  refine Fr.lift hw h₀ ?_
  have h : Fr 131957002407230 s₁ s₁ := Fr.refl
  clear h₀ hw
  first | rw [State.toD3hot] | unfold State.toD3hot
  repeat' first
    | with_reducible assumption
    | (lift_lets; intro x; clear_value x)
    | (with_reducible refine State.cfgWr_frame ?_ rfl)
    | (with_reducible refine State.hostStops_frame ?_ rfl)
    | (with_reducible refine Fr.host ?_ rfl)

theorem State.toD0_frame {W : Nat} {s₀ s₁ : State} (h₀ : Fr W s₀ s₁) (hw : 131957213171198 &&& W = 131957213171198) :
    Fr W s₀ (State.toD0 s₁) := by
  refine Fr.lift hw h₀ ?_
  have h : Fr 131957213171198 s₁ s₁ := Fr.refl
  clear h₀ hw
  first | rw [State.toD0] | unfold State.toD0
  repeat' first
    | with_reducible assumption
    | (lift_lets; intro x; clear_value x)
    | (with_reducible refine State.cfgWr_frame ?_ rfl)
    | (with_reducible refine State.hostReturns_frame ?_ rfl)
    | split
    | (with_reducible refine Fr.host ?_ rfl)

end Sys2Proof.Machine
end

