-- ==== Sys2Proof/Laws/FrameFaults.lean ====
section
/-! SUPPORT. Frames of the functions of Machine/Faults.lean: which parts of the state each may change. -/

namespace Sys2Proof.Machine

theorem State.keyStoreError_frame {r : FaultRep} {W : Nat} {s₀ s₁ : State} (h₀ : Fr W s₀ s₁) (hw : 1073741826 &&& W = 1073741826) :
    Fr W s₀ (State.keyStoreError s₁ r) := by
  refine Fr.lift hw h₀ ?_
  have h : Fr 1073741826 s₁ s₁ := Fr.refl
  clear h₀ hw
  first | rw [State.keyStoreError] | unfold State.keyStoreError
  repeat' first
    | with_reducible assumption
    | (intro x; clear_value x)
    | (lift_lets; intro x; clear_value x)
    | (with_reducible refine State.sf_frame ?_ rfl)
    | (with_reducible refine Fr.ite ?_ ?_)
    | (with_reducible refine Fr.sec ?_ rfl)

theorem State.flagGroupError_frame {r : FaultRep} {W : Nat} {s₀ s₁ : State} (h₀ : Fr W s₀ s₁) (hw : 262146 &&& W = 262146) :
    Fr W s₀ (State.flagGroupError s₁ r) := by
  refine Fr.lift hw h₀ ?_
  have h : Fr 262146 s₁ s₁ := Fr.refl
  clear h₀ hw
  first | rw [State.flagGroupError] | unfold State.flagGroupError
  repeat' first
    | with_reducible assumption
    | (with_reducible refine State.groupLost_frame ?_ rfl)
    | (with_reducible refine Fr.ite ?_ ?_)
    | split

theorem State.breakRail_frame {src : Nat} {runit : Nat} {inj : Bool} {W : Nat} {s₀ s₁ : State} (h₀ : Fr W s₀ s₁) (hw : 96759174925346 &&& W = 96759174925346) :
    Fr W s₀ (State.breakRail s₁ src runit inj) := by
  refine Fr.lift hw h₀ ?_
  have h : Fr 96759174925346 s₁ s₁ := Fr.refl
  clear h₀ hw
  first | rw [State.breakRail] | unfold State.breakRail
  repeat' first
    | with_reducible assumption
    | (intro x; clear_value x)
    | (lift_lets; intro x; refine_lift have hb : ∀ y, y = x → Fr 96759174925346 s₁ y := ?_; ?_; all_goals first | (have hx := hb x rfl; clear hb; clear_value x) | (intro y hy; unfold x at hy; rw [hy]; clear hy y))
    | (with_reducible refine State.fault_frame ?_ rfl)
    | (with_reducible refine Fr.ite ?_ ?_)
    | (with_reducible refine Fr.flt ?_ rfl)

theorem State.latchBlock_frame {b : Nat} {v : Bool} {W : Nat} {s₀ s₁ : State} (h₀ : Fr W s₀ s₁) (hw : 2 &&& W = 2) :
    Fr W s₀ (State.latchBlock s₁ b v) := by
  refine Fr.lift hw h₀ ?_
  have h : Fr 2 s₁ s₁ := Fr.refl
  clear h₀ hw
  first | rw [State.latchBlock] | unfold State.latchBlock
  repeat' first
    | with_reducible assumption
    | (with_reducible refine State.wr_frame ?_ rfl)

theorem State.raiseLine_frame {b : Nat} {held : Bool} {inj : Bool} {W : Nat} {s₀ s₁ : State} (h₀ : Fr W s₀ s₁) (hw : 96759174925346 &&& W = 96759174925346) :
    Fr W s₀ (State.raiseLine s₁ b held inj) := by
  refine Fr.lift hw h₀ ?_
  have h : Fr 96759174925346 s₁ s₁ := Fr.refl
  clear h₀ hw
  first | rw [State.raiseLine] | unfold State.raiseLine
  repeat' first
    | with_reducible assumption
    | (lift_lets; intro x; clear_value x)
    | (with_reducible refine State.fault_frame ?_ rfl)
    | (with_reducible refine State.latchBlock_frame ?_ rfl)
    | (with_reducible refine Fr.ite ?_ ?_)
    | (with_reducible refine Fr.flt ?_ rfl)

theorem State.ackFault_frame {c : Nat} {valid : Bool} {overflow : Bool} {W : Nat} {s₀ s₁ : State} (h₀ : Fr W s₀ s₁) (hw : 2 &&& W = 2) :
    Fr W s₀ (State.ackFault s₁ c valid overflow) := by
  refine Fr.lift hw h₀ ?_
  have h : Fr 2 s₁ s₁ := Fr.refl
  clear h₀ hw
  first | rw [State.ackFault] | unfold State.ackFault
  repeat' first
    | with_reducible assumption
    | (with_reducible refine State.wr64_frame ?_ rfl)
    | (with_reducible refine State.fltPend_frame ?_ rfl)

theorem writeFltCtl_frame {q : Requester} {v : W32} {W : Nat} {s₀ s₁ : State} (h₀ : Fr W s₀ s₁) (hw : 2 &&& W = 2) :
    Fr W s₀ (writeFltCtl q v s₁) := by
  refine Fr.lift hw h₀ ?_
  have h : Fr 2 s₁ s₁ := Fr.refl
  clear h₀ hw
  first | rw [writeFltCtl] | unfold writeFltCtl
  repeat' first
    | with_reducible assumption
    | (intro x; refine_lift have hb : ∀ y, y = x → Fr 2 s₁ y := ?_; ?_; all_goals first | (have hx := hb x rfl; clear hb; clear_value x) | (intro y hy; unfold x at hy; rw [hy]; clear hy y))
    | (intro x; clear_value x)
    | (lift_lets; intro x; clear_value x)
    | (with_reducible refine State.sf_frame ?_ rfl)
    | (with_reducible refine Fr.ite ?_ ?_)

theorem writeFltBlocks_frame {q : Requester} {v : W32} {W : Nat} {s₀ s₁ : State} (h₀ : Fr W s₀ s₁) (hw : 2 &&& W = 2) :
    Fr W s₀ (writeFltBlocks q v s₁) := by
  refine Fr.lift hw h₀ ?_
  have h : Fr 2 s₁ s₁ := Fr.refl
  clear h₀ hw
  first | rw [writeFltBlocks] | unfold writeFltBlocks
  repeat' first
    | with_reducible assumption
    | (lift_lets; intro x; refine_lift have hb : ∀ y, y = x → Fr 2 s₁ y := ?_; ?_; all_goals first | (have hx := hb x rfl; clear hb; clear_value x) | (intro y hy; unfold x at hy; rw [hy]; clear hy y))
    | (with_reducible refine State.wr_frame ?_ rfl)
    | (with_reducible refine State.latchBlock_frame ?_ rfl)
    | (with_reducible refine Fr.ite ?_ ?_)
    | (with_reducible refine Fr.foldl (fun z a h => ?_) ?_)

theorem State.armInjection_frame {checker : Nat} {flip : Nat} {unit : Nat} {addr : Nat} {W : Nat} {s₀ s₁ : State} (h₀ : Fr W s₀ s₁) (hw : 96759174925346 &&& W = 96759174925346) :
    Fr2 W s₀ (State.armInjection s₁ checker flip unit addr) := by
  refine Fr2.lift hw h₀ ?_
  have h : Fr 96759174925346 s₁ s₁ := Fr.refl
  clear h₀ hw
  unfold State.armInjection
  repeat' first
    | with_reducible assumption
    | dsimp only
    | (with_reducible refine State.fault_frame ?_ rfl)
    | (with_reducible refine State.raiseLine_frame ?_ rfl)
    | (with_reducible refine State.faultRep_frame ?_ rfl)
    | (with_reducible refine State.sf_frame ?_ rfl)
    | (with_reducible refine State.breakRail_frame ?_ rfl)
    | (with_reducible refine Fr2.ite ?_ ?_)
    | split
    | (with_reducible refine Fr2.pair ?_)
    | dsimp only
    | (with_reducible refine Fr.flt ?_ rfl)

theorem writeFltInj_frame {q : Requester} {v : W32} {W : Nat} {s₀ s₁ : State} (h₀ : Fr W s₀ s₁) (hw : 96759174925346 &&& W = 96759174925346) :
    Fr W s₀ (writeFltInj q v s₁) := by
  refine Fr.lift hw h₀ ?_
  have h : Fr 96759174925346 s₁ s₁ := Fr.refl
  clear h₀ hw
  first | rw [writeFltInj] | unfold writeFltInj
  repeat' first
    | with_reducible assumption
    | (intro x; refine_lift have hb : ∀ y, y = x → Fr 96759174925346 s₁ y := ?_; ?_; all_goals first | (have hx := hb x rfl; clear hb; clear_value x) | (intro y hy; unfold x at hy; rw [hy]; clear hy y))
    | (lift_lets; intro x; clear_value x)
    | (with_reducible refine State.sf_frame ?_ rfl)
    | (with_reducible refine Fr.ite ?_ ?_)
    | (with_reducible refine Fr2.out (State.armInjection_frame ?_ rfl))

theorem State.markTarget_frame {checker : Nat} {unit : Nat} {addr : Nat} {flip : Nat} {W : Nat} {s₀ s₁ : State} (h₀ : Fr W s₀ s₁) (hw : 8796093284376 &&& W = 8796093284376) :
    Fr W s₀ (State.markTarget s₁ checker unit addr flip) := by
  refine Fr.lift hw h₀ ?_
  have h : Fr 8796093284376 s₁ s₁ := Fr.refl
  clear h₀ hw
  unfold State.markTarget
  repeat' first
    | with_reducible assumption
    | (intro x; clear_value x)
    | (lift_lets; intro x; clear_value x)
    | (with_reducible refine State.setWordMark_frame ?_ rfl)
    | (with_reducible refine State.setLineMark_frame ?_ rfl)
    | split
    | (with_reducible refine Fr.flags ?_ rfl)
    | (with_reducible refine Fr.flt ?_ rfl)

end Sys2Proof.Machine
end

