-- ==== Sys2Proof/Laws/FrameRegisters.lean ====
section
/-! SUPPORT. Frames of the functions of Machine/Registers.lean: which parts of the state each may change. -/

namespace Sys2Proof.Machine

theorem writePlain_frame {q : Requester} {off : Nat} {v : W32} {W : Nat} {s₀ s₁ : State} (h₀ : Fr W s₀ s₁) (hw : 2 &&& W = 2) :
    Fr W s₀ (writePlain q off v s₁) := by
  refine Fr.lift hw h₀ ?_
  have h : Fr 2 s₁ s₁ := Fr.refl
  clear h₀ hw
  first | rw [writePlain] | unfold writePlain
  repeat' first
    | with_reducible assumption
    | (with_reducible refine State.wr_frame ?_ rfl)
    | (with_reducible refine Fr.ite ?_ ?_)
    | split

theorem writeCoreEvt_frame {q : Requester} {c : Nat} {v : W32} {W : Nat} {s₀ s₁ : State} (h₀ : Fr W s₀ s₁) (hw : 549755813888 &&& W = 549755813888) :
    Fr W s₀ (writeCoreEvt q c v s₁) := by
  refine Fr.lift hw h₀ ?_
  have h : Fr 549755813888 s₁ s₁ := Fr.refl
  clear h₀ hw
  first | rw [writeCoreEvt] | unfold writeCoreEvt
  repeat' first
    | with_reducible assumption
    | (with_reducible refine State.setEvents_frame ?_ rfl)
    | (with_reducible refine Fr.ite ?_ ?_)

theorem writeMbx_frame {q : Requester} {off : Nat} {v : W32} {W : Nat} {s₀ s₁ : State} (h₀ : Fr W s₀ s₁) (hw : 549755815938 &&& W = 549755815938) :
    Fr W s₀ (writeMbx q off v s₁) := by
  refine Fr.lift hw h₀ ?_
  have h : Fr 549755815938 s₁ s₁ := Fr.refl
  clear h₀ hw
  first | rw [writeMbx] | unfold writeMbx
  repeat' first
    | with_reducible assumption
    | (with_reducible refine writeMbxCtl_frame ?_ rfl)
    | (with_reducible refine writePlain_frame ?_ rfl)
    | (with_reducible refine Fr.ite ?_ ?_)
    | split

theorem writeDev_frame {q : Requester} {off : Nat} {v : W32} {W : Nat} {s₀ s₁ : State} (h₀ : Fr W s₀ s₁) (hw : 136322261975038 &&& W = 136322261975038) :
    Fr W s₀ (writeDev q off v s₁) := by
  refine Fr.lift hw h₀ ?_
  have h : Fr 136322261975038 s₁ s₁ := Fr.refl
  clear h₀ hw
  unfold writeDev
  repeat' first
    | with_reducible assumption
    | (with_reducible refine writeLoadCtl_frame ?_ rfl)
    | (with_reducible refine writeDevReset_frame ?_ rfl)
    | (with_reducible refine writeDevEnable_frame ?_ rfl)
    | (with_reducible refine writeLoadAddr_frame ?_ rfl)
    | (with_reducible refine writeHeartbeat_frame ?_ rfl)
    | split

theorem writeFltAt_frame {q : Requester} {off : Nat} {v : W32} {o : Nat} {W : Nat} {s₀ s₁ : State} (h₀ : Fr W s₀ s₁) (hw : 96759174925346 &&& W = 96759174925346) :
    Fr W s₀ (writeFltAt q off v s₁ o) := by
  refine Fr.lift hw h₀ ?_
  have h : Fr 96759174925346 s₁ s₁ := Fr.refl
  clear h₀ hw
  unfold writeFltAt
  repeat' first
    | with_reducible assumption
    | dsimp only
    | (with_reducible refine writeFltBlocks_frame ?_ rfl)
    | (with_reducible refine writeFltCtl_frame ?_ rfl)
    | (with_reducible refine writeFltInj_frame ?_ rfl)
    | (with_reducible refine State.ackFault_frame ?_ rfl)
    | (with_reducible refine writePlain_frame ?_ rfl)
    | split
    | dsimp only

theorem writeFlt_frame {q : Requester} {off : Nat} {v : W32} {W : Nat} {s₀ s₁ : State} (h₀ : Fr W s₀ s₁) (hw : 96759174925346 &&& W = 96759174925346) :
    Fr W s₀ (writeFlt q off v s₁) := by
  refine Fr.lift hw h₀ ?_
  have h : Fr 96759174925346 s₁ s₁ := Fr.refl
  clear h₀ hw
  first | rw [writeFlt] | unfold writeFlt
  repeat' first
    | with_reducible assumption
    | (with_reducible refine writeFltAt_frame ?_ rfl)

theorem writeTimeAt_frame {q : Requester} {off : Nat} {v : W32} {o : Nat} {W : Nat} {s₀ s₁ : State} (h₀ : Fr W s₀ s₁) (hw : 67633154 &&& W = 67633154) :
    Fr W s₀ (writeTimeAt q off v s₁ o) := by
  refine Fr.lift hw h₀ ?_
  have h : Fr 67633154 s₁ s₁ := Fr.refl
  clear h₀ hw
  unfold writeTimeAt
  repeat' first
    | with_reducible assumption
    | (with_reducible refine writeTimeFreq_frame ?_ rfl)
    | (with_reducible refine writeTimeCtl_frame ?_ rfl)
    | (with_reducible refine writePlain_frame ?_ rfl)
    | split

theorem writeTime_frame {q : Requester} {off : Nat} {v : W32} {W : Nat} {s₀ s₁ : State} (h₀ : Fr W s₀ s₁) (hw : 67633154 &&& W = 67633154) :
    Fr W s₀ (writeTime q off v s₁) := by
  refine Fr.lift hw h₀ ?_
  have h : Fr 67633154 s₁ s₁ := Fr.refl
  clear h₀ hw
  first | rw [writeTime] | unfold writeTime
  repeat' first
    | with_reducible assumption
    | (with_reducible refine writeTimeAt_frame ?_ rfl)

theorem writePwrAt_frame {q : Requester} {off : Nat} {v : W32} {o : Nat} {W : Nat} {s₀ s₁ : State} (h₀ : Fr W s₀ s₁) (hw : 2199023255554 &&& W = 2199023255554) :
    Fr W s₀ (writePwrAt q off v s₁ o) := by
  refine Fr.lift hw h₀ ?_
  have h : Fr 2199023255554 s₁ s₁ := Fr.refl
  clear h₀ hw
  unfold writePwrAt
  repeat' first
    | with_reducible assumption
    | (with_reducible refine writePwrCtl_frame ?_ rfl)
    | (with_reducible refine writePwrStatus_frame ?_ rfl)
    | (with_reducible refine writePwrLevels_frame ?_ rfl)
    | (with_reducible refine writePwrBudget_frame ?_ rfl)
    | (with_reducible refine writePlain_frame ?_ rfl)
    | split

theorem writePwr_frame {q : Requester} {off : Nat} {v : W32} {W : Nat} {s₀ s₁ : State} (h₀ : Fr W s₀ s₁) (hw : 2199023255554 &&& W = 2199023255554) :
    Fr W s₀ (writePwr q off v s₁) := by
  refine Fr.lift hw h₀ ?_
  have h : Fr 2199023255554 s₁ s₁ := Fr.refl
  clear h₀ hw
  first | rw [writePwr] | unfold writePwr
  repeat' first
    | with_reducible assumption
    | (with_reducible refine writePwrAt_frame ?_ rfl)

theorem writeWin_frame {q : Requester} {off : Nat} {v : W32} {W : Nat} {s₀ s₁ : State} (h₀ : Fr W s₀ s₁) (hw : 2 &&& W = 2) :
    Fr W s₀ (writeWin q off v s₁) := by
  refine Fr.lift hw h₀ ?_
  have h : Fr 2 s₁ s₁ := Fr.refl
  clear h₀ hw
  first | rw [writeWin] | unfold writeWin
  repeat' first
    | with_reducible assumption
    | (with_reducible refine writeWinStaged_frame ?_ rfl)
    | (with_reducible refine writeWinCommit_frame ?_ rfl)
    | (with_reducible refine Fr.ite ?_ ?_)

theorem writeTgAt_frame {q : Requester} {off : Nat} {v : W32} {o : Nat} {W : Nat} {s₀ s₁ : State} (h₀ : Fr W s₀ s₁) (hw : 96759242034234 &&& W = 96759242034234) :
    Fr W s₀ (writeTgAt q off v s₁ o) := by
  refine Fr.lift hw h₀ ?_
  have h : Fr 96759242034234 s₁ s₁ := Fr.refl
  clear h₀ hw
  unfold writeTgAt
  repeat' first
    | with_reducible assumption
    | (with_reducible refine writeTgShpSel_frame ?_ rfl)
    | (with_reducible refine writeTgAdminCtl_frame ?_ rfl)
    | (with_reducible refine writePlain_frame ?_ rfl)
    | split

theorem writeTg_frame {q : Requester} {off : Nat} {v : W32} {W : Nat} {s₀ s₁ : State} (h₀ : Fr W s₀ s₁) (hw : 96759242034234 &&& W = 96759242034234) :
    Fr W s₀ (writeTg q off v s₁) := by
  refine Fr.lift hw h₀ ?_
  have h : Fr 96759242034234 s₁ s₁ := Fr.refl
  clear h₀ hw
  first | rw [writeTg] | unfold writeTg
  repeat' first
    | with_reducible assumption
    | (with_reducible refine writeTgAt_frame ?_ rfl)

theorem writeCluAt_frame {q : Requester} {c : Nat} {v : W32} {o : Nat} {W : Nat} {s₀ s₁ : State} (h₀ : Fr W s₀ s₁) (hw : 96759171189818 &&& W = 96759171189818) :
    Fr W s₀ (writeCluAt q c v s₁ o) := by
  refine Fr.lift hw h₀ ?_
  have h : Fr 96759171189818 s₁ s₁ := Fr.refl
  clear h₀ hw
  unfold writeCluAt
  repeat' first
    | with_reducible assumption
    | (with_reducible refine writeCluCmplBase_frame ?_ rfl)
    | (with_reducible refine writeCluCtl_frame ?_ rfl)
    | (with_reducible refine writeCluErr_frame ?_ rfl)
    | (with_reducible refine writeCluDb_frame ?_ rfl)
    | (with_reducible refine writeCluPctl_frame ?_ rfl)
    | (with_reducible refine writeCluCmplHead_frame ?_ rfl)
    | (with_reducible refine writeCluCmdBase_frame ?_ rfl)
    | split

theorem writeClu_frame {q : Requester} {off : Nat} {v : W32} {W : Nat} {s₀ s₁ : State} (h₀ : Fr W s₀ s₁) (hw : 96759171189818 &&& W = 96759171189818) :
    Fr W s₀ (writeClu q off v s₁) := by
  refine Fr.lift hw h₀ ?_
  have h : Fr 96759171189818 s₁ s₁ := Fr.refl
  clear h₀ hw
  first | rw [writeClu] | unfold writeClu
  repeat' first
    | with_reducible assumption
    | (with_reducible refine writeCluAt_frame ?_ rfl)
    | (with_reducible refine Fr.ite ?_ ?_)

theorem writeFlgAt_frame {q : Requester} {off : Nat} {v : W32} {o : Nat} {W : Nat} {s₀ s₁ : State} (h₀ : Fr W s₀ s₁) (hw : 96759175187962 &&& W = 96759175187962) :
    Fr W s₀ (writeFlgAt q off v s₁ o) := by
  refine Fr.lift hw h₀ ?_
  have h : Fr 96759175187962 s₁ s₁ := Fr.refl
  clear h₀ hw
  unfold writeFlgAt
  repeat' first
    | with_reducible assumption
    | (with_reducible refine writeFlgSignal_frame ?_ rfl)
    | (with_reducible refine writeFlgCtxBase_frame ?_ rfl)
    | (with_reducible refine writeFlgInval_frame ?_ rfl)
    | (with_reducible refine writeFlgCtl_frame ?_ rfl)
    | (with_reducible refine writePlain_frame ?_ rfl)
    | split

theorem writeFlg_frame {q : Requester} {off : Nat} {v : W32} {W : Nat} {s₀ s₁ : State} (h₀ : Fr W s₀ s₁) (hw : 96759175187962 &&& W = 96759175187962) :
    Fr W s₀ (writeFlg q off v s₁) := by
  refine Fr.lift hw h₀ ?_
  have h : Fr 96759175187962 s₁ s₁ := Fr.refl
  clear h₀ hw
  first | rw [writeFlg] | unfold writeFlg
  repeat' first
    | with_reducible assumption
    | (with_reducible refine writeFlgAt_frame ?_ rfl)

theorem writeBarAt_frame {q : Requester} {off : Nat} {b : Nat} {v : W32} {o : Nat} {W : Nat} {s₀ s₁ : State} (h₀ : Fr W s₀ s₁) (hw : 96759175253050 &&& W = 96759175253050) :
    Fr W s₀ (writeBarAt q off b v s₁ o) := by
  refine Fr.lift hw h₀ ?_
  have h : Fr 96759175253050 s₁ s₁ := Fr.refl
  clear h₀ hw
  unfold writeBarAt
  repeat' first
    | with_reducible assumption
    | (with_reducible refine writeBarCfg_frame ?_ rfl)
    | (with_reducible refine writeBarClose_frame ?_ rfl)
    | (with_reducible refine writePlain_frame ?_ rfl)
    | split

theorem writeBar_frame {q : Requester} {off : Nat} {v : W32} {W : Nat} {s₀ s₁ : State} (h₀ : Fr W s₀ s₁) (hw : 96759175253050 &&& W = 96759175253050) :
    Fr W s₀ (writeBar q off v s₁) := by
  refine Fr.lift hw h₀ ?_
  have h : Fr 96759175253050 s₁ s₁ := Fr.refl
  clear h₀ hw
  first | rw [writeBar] | unfold writeBar
  repeat' first
    | with_reducible assumption
    | (with_reducible refine writeBarAt_frame ?_ rfl)

theorem writeColQueueAt_frame {q : Requester} {n : Nat} {v : W32} {o : Nat} {W : Nat} {s₀ s₁ : State} (h₀ : Fr W s₀ s₁) (hw : 65538 &&& W = 65538) :
    Fr W s₀ (writeColQueueAt q n v s₁ o) := by
  refine Fr.lift hw h₀ ?_
  have h : Fr 65538 s₁ s₁ := Fr.refl
  clear h₀ hw
  unfold writeColQueueAt
  repeat' first
    | with_reducible assumption
    | (with_reducible refine writeColCmplBase_frame ?_ rfl)
    | (with_reducible refine writeColQerr_frame ?_ rfl)
    | (with_reducible refine writeColCmdBase_frame ?_ rfl)
    | (with_reducible refine writeColQctl_frame ?_ rfl)
    | (with_reducible refine writeColCmplHead_frame ?_ rfl)
    | (with_reducible refine writeColDb_frame ?_ rfl)
    | split

theorem writeColAt_frame {q : Requester} {off : Nat} {v : W32} {o : Nat} {W : Nat} {s₀ s₁ : State} (h₀ : Fr W s₀ s₁) (hw : 96759175449658 &&& W = 96759175449658) :
    Fr W s₀ (writeColAt q off v s₁ o) := by
  refine Fr.lift hw h₀ ?_
  have h : Fr 96759175449658 s₁ s₁ := Fr.refl
  clear h₀ hw
  unfold writeColAt
  repeat' first
    | with_reducible assumption
    | (with_reducible refine writeColSlotAdmin_frame ?_ rfl)
    | (with_reducible refine writeColGrpLoad_frame ?_ rfl)
    | (with_reducible refine writeColSlotCtl_frame ?_ rfl)
    | (with_reducible refine writeColCtl_frame ?_ rfl)
    | (with_reducible refine writeColSlotStatus_frame ?_ rfl)
    | (with_reducible refine writeColGrpBase_frame ?_ rfl)
    | (with_reducible refine writeColTimeout_frame ?_ rfl)
    | (with_reducible refine writePlain_frame ?_ rfl)
    | split

theorem writeCol_frame {q : Requester} {off : Nat} {v : W32} {W : Nat} {s₀ s₁ : State} (h₀ : Fr W s₀ s₁) (hw : 96759175515194 &&& W = 96759175515194) :
    Fr W s₀ (writeCol q off v s₁) := by
  refine Fr.lift hw h₀ ?_
  have h : Fr 96759175515194 s₁ s₁ := Fr.refl
  clear h₀ hw
  first | rw [writeCol] | unfold writeCol
  repeat' first
    | with_reducible assumption
    | (with_reducible refine writeColQueueAt_frame ?_ rfl)
    | (with_reducible refine writeColAt_frame ?_ rfl)
    | (with_reducible refine Fr.ite ?_ ?_)

theorem writeKvAt_frame {q : Requester} {off : Nat} {v : W32} {o : Nat} {W : Nat} {s₀ s₁ : State} (h₀ : Fr W s₀ s₁) (hw : 131943548062782 &&& W = 131943548062782) :
    Fr W s₀ (writeKvAt q off v s₁ o) := by
  refine Fr.lift hw h₀ ?_
  have h : Fr 131943548062782 s₁ s₁ := Fr.refl
  clear h₀ hw
  unfold writeKvAt
  repeat' first
    | with_reducible assumption
    | (with_reducible refine writeKvCtl_frame ?_ rfl)
    | (with_reducible refine writeKvJobHead_frame ?_ rfl)
    | (with_reducible refine writeKvBase_frame ?_ rfl)
    | (with_reducible refine writeKvRingBase_frame ?_ rfl)
    | (with_reducible refine writeKvDoneDb_frame ?_ rfl)
    | (with_reducible refine writePlain_frame ?_ rfl)
    | (with_reducible refine Fr.ite ?_ ?_)
    | split

theorem writeKv_frame {q : Requester} {off : Nat} {v : W32} {W : Nat} {s₀ s₁ : State} (h₀ : Fr W s₀ s₁) (hw : 131943548062782 &&& W = 131943548062782) :
    Fr W s₀ (writeKv q off v s₁) := by
  refine Fr.lift hw h₀ ?_
  have h : Fr 131943548062782 s₁ s₁ := Fr.refl
  clear h₀ hw
  first | rw [writeKv] | unfold writeKv
  repeat' first
    | with_reducible assumption
    | (with_reducible refine writeKvAt_frame ?_ rfl)

theorem writeHbmReg_frame {q : Requester} {off : Nat} {v : W32} {W : Nat} {s₀ s₁ : State} (h₀ : Fr W s₀ s₁) (hw : 4194306 &&& W = 4194306) :
    Fr W s₀ (writeHbmReg q off v s₁) := by
  refine Fr.lift hw h₀ ?_
  have h : Fr 4194306 s₁ s₁ := Fr.refl
  clear h₀ hw
  first | rw [writeHbmReg] | unfold writeHbmReg
  repeat' first
    | with_reducible assumption
    | (with_reducible refine writeHbmCtl_frame ?_ rfl)
    | (with_reducible refine writePlain_frame ?_ rfl)
    | (with_reducible refine Fr.ite ?_ ?_)

theorem writeArbAt_frame {q : Requester} {off : Nat} {v : W32} {o : Nat} {W : Nat} {s₀ s₁ : State} (h₀ : Fr W s₀ s₁) (hw : 131943547038966 &&& W = 131943547038966) :
    Fr W s₀ (writeArbAt q off v s₁ o) := by
  refine Fr.lift hw h₀ ?_
  have h : Fr 131943547038966 s₁ s₁ := Fr.refl
  clear h₀ hw
  unfold writeArbAt
  repeat' first
    | with_reducible assumption
    | (with_reducible refine writeArbCommit_frame ?_ rfl)
    | (with_reducible refine writeArbLine_frame ?_ rfl)
    | (with_reducible refine writeArbClassmap_frame ?_ rfl)
    | (with_reducible refine writeArbFreeze_frame ?_ rfl)
    | (with_reducible refine writeArbMode_frame ?_ rfl)
    | (with_reducible refine writePlain_frame ?_ rfl)
    | (with_reducible refine Fr.ite ?_ ?_)
    | split

theorem writeArb_frame {q : Requester} {off : Nat} {v : W32} {W : Nat} {s₀ s₁ : State} (h₀ : Fr W s₀ s₁) (hw : 131943547038966 &&& W = 131943547038966) :
    Fr W s₀ (writeArb q off v s₁) := by
  refine Fr.lift hw h₀ ?_
  have h : Fr 131943547038966 s₁ s₁ := Fr.refl
  clear h₀ hw
  first | rw [writeArb] | unfold writeArb
  repeat' first
    | with_reducible assumption
    | (with_reducible refine writeArbAt_frame ?_ rfl)

theorem writeFabPortAt_frame {q : Requester} {p : Nat} {v : W32} {o : Nat} {W : Nat} {s₀ s₁ : State} (h₀ : Fr W s₀ s₁) (hw : 96759200091426 &&& W = 96759200091426) :
    Fr W s₀ (writeFabPortAt q p v s₁ o) := by
  refine Fr.lift hw h₀ ?_
  have h : Fr 96759200091426 s₁ s₁ := Fr.refl
  clear h₀ hw
  unfold writeFabPortAt
  repeat' first
    | with_reducible assumption
    | (with_reducible refine writeFabPortAlloc_frame ?_ rfl)
    | (with_reducible refine writeFabPortPfc_frame ?_ rfl)
    | (with_reducible refine writeFabPortKeys_frame ?_ rfl)
    | (with_reducible refine writeFabPortStatus_frame ?_ rfl)
    | (with_reducible refine writeFabPortEnc_frame ?_ rfl)
    | (with_reducible refine writeFabPortCtl_frame ?_ rfl)
    | split

theorem writeFabAt_frame {q : Requester} {off : Nat} {v : W32} {o : Nat} {W : Nat} {s₀ s₁ : State} (h₀ : Fr W s₀ s₁) (hw : 96759200091426 &&& W = 96759200091426) :
    Fr W s₀ (writeFabAt q off v s₁ o) := by
  refine Fr.lift hw h₀ ?_
  have h : Fr 96759200091426 s₁ s₁ := Fr.refl
  clear h₀ hw
  unfold writeFabAt
  repeat' first
    | with_reducible assumption
    | (with_reducible refine writeFabPortAt_frame ?_ rfl)
    | (with_reducible refine writeFabNodeId_frame ?_ rfl)
    | (with_reducible refine writeFabCtl_frame ?_ rfl)
    | (with_reducible refine writePlain_frame ?_ rfl)
    | (with_reducible refine Fr.ite ?_ ?_)
    | split

theorem writeFab_frame {q : Requester} {off : Nat} {v : W32} {W : Nat} {s₀ s₁ : State} (h₀ : Fr W s₀ s₁) (hw : 96759200091426 &&& W = 96759200091426) :
    Fr W s₀ (writeFab q off v s₁) := by
  refine Fr.lift hw h₀ ?_
  have h : Fr 96759200091426 s₁ s₁ := Fr.refl
  clear h₀ hw
  first | rw [writeFab] | unfold writeFab
  repeat' first
    | with_reducible assumption
    | (with_reducible refine writeFabAt_frame ?_ rfl)

theorem writeTrnAt_frame {q : Requester} {off : Nat} {v : W32} {o : Nat} {W : Nat} {s₀ s₁ : State} (h₀ : Fr W s₀ s₁) (hw : 131957002407230 &&& W = 131957002407230) :
    Fr W s₀ (writeTrnAt q off v s₁ o) := by
  refine Fr.lift hw h₀ ?_
  have h : Fr 131957002407230 s₁ s₁ := Fr.refl
  clear h₀ hw
  unfold writeTrnAt
  repeat' first
    | with_reducible assumption
    | (with_reducible refine writeTrnFwrxCtl_frame ?_ rfl)
    | (with_reducible refine writeTrnKeyInval_frame ?_ rfl)
    | (with_reducible refine writeTrnReqDb_frame ?_ rfl)
    | (with_reducible refine writeTrnRingBase_frame ?_ rfl)
    | (with_reducible refine writeTrnRctl_frame ?_ rfl)
    | (with_reducible refine writeTrnCmplHead_frame ?_ rfl)
    | (with_reducible refine writeTrnBase_frame ?_ rfl)
    | (with_reducible refine writeTrnRerr_frame ?_ rfl)
    | (with_reducible refine writeTrnCtl_frame ?_ rfl)
    | (with_reducible refine writeTrnFwrxHead_frame ?_ rfl)
    | (with_reducible refine writeTrnFwrxBase_frame ?_ rfl)
    | (with_reducible refine writePlain_frame ?_ rfl)
    | (with_reducible refine Fr.ite ?_ ?_)
    | split

theorem writeTrn_frame {q : Requester} {off : Nat} {v : W32} {W : Nat} {s₀ s₁ : State} (h₀ : Fr W s₀ s₁) (hw : 131957002407230 &&& W = 131957002407230) :
    Fr W s₀ (writeTrn q off v s₁) := by
  refine Fr.lift hw h₀ ?_
  have h : Fr 131957002407230 s₁ s₁ := Fr.refl
  clear h₀ hw
  first | rw [writeTrn] | unfold writeTrn
  repeat' first
    | with_reducible assumption
    | (with_reducible refine writeTrnAt_frame ?_ rfl)

theorem writePeer_frame {q : Requester} {off : Nat} {v : W32} {W : Nat} {s₀ s₁ : State} (h₀ : Fr W s₀ s₁) (hw : 2 &&& W = 2) :
    Fr W s₀ (writePeer q off v s₁) := by
  refine Fr.lift hw h₀ ?_
  have h : Fr 2 s₁ s₁ := Fr.refl
  clear h₀ hw
  first | rw [writePeer] | unfold writePeer
  repeat' first
    | with_reducible assumption
    | (with_reducible refine writePeerWin_frame ?_ rfl)
    | (with_reducible refine writePeerCommit_frame ?_ rfl)
    | (with_reducible refine Fr.ite ?_ ?_)

theorem writePktAt_frame {q : Requester} {off : Nat} {v : W32} {o : Nat} {W : Nat} {s₀ s₁ : State} (h₀ : Fr W s₀ s₁) (hw : 96759309143098 &&& W = 96759309143098) :
    Fr W s₀ (writePktAt q off v s₁ o) := by
  refine Fr.lift hw h₀ ?_
  have h : Fr 96759309143098 s₁ s₁ := Fr.refl
  clear h₀ hw
  unfold writePktAt
  repeat' first
    | with_reducible assumption
    | (with_reducible refine writePktExactInval_frame ?_ rfl)
    | (with_reducible refine writePktCtl_frame ?_ rfl)
    | (with_reducible refine writePktBankBase_frame ?_ rfl)
    | (with_reducible refine writePktMsecCtl_frame ?_ rfl)
    | (with_reducible refine writePktSwap_frame ?_ rfl)
    | (with_reducible refine writePlain_frame ?_ rfl)
    | (with_reducible refine writePktCntBase_frame ?_ rfl)
    | (with_reducible refine Fr.ite ?_ ?_)
    | split

theorem writePkt_frame {q : Requester} {off : Nat} {v : W32} {W : Nat} {s₀ s₁ : State} (h₀ : Fr W s₀ s₁) (hw : 96759309143098 &&& W = 96759309143098) :
    Fr W s₀ (writePkt q off v s₁) := by
  refine Fr.lift hw h₀ ?_
  have h : Fr 96759309143098 s₁ s₁ := Fr.refl
  clear h₀ hw
  first | rw [writePkt] | unfold writePkt
  repeat' first
    | with_reducible assumption
    | (with_reducible refine writePktAt_frame ?_ rfl)

theorem writeSto_frame {q : Requester} {off : Nat} {v : W32} {W : Nat} {s₀ s₁ : State} (h₀ : Fr W s₀ s₁) (hw : 2 &&& W = 2) :
    Fr W s₀ (writeSto q off v s₁) := by
  refine Fr.lift hw h₀ ?_
  have h : Fr 2 s₁ s₁ := Fr.refl
  clear h₀ hw
  first | rw [writeSto] | unfold writeSto
  repeat' first
    | with_reducible assumption
    | (with_reducible refine writeStoCtl_frame ?_ rfl)
    | (with_reducible refine writeStoBase_frame ?_ rfl)
    | (with_reducible refine writePlain_frame ?_ rfl)
    | (with_reducible refine Fr.ite ?_ ?_)

theorem writeSecAt_frame {q : Requester} {off : Nat} {v : W32} {o : Nat} {W : Nat} {s₀ s₁ : State} (h₀ : Fr W s₀ s₁) (hw : 65538 &&& W = 65538) :
    Fr W s₀ (writeSecAt q off v s₁ o) := by
  refine Fr.lift hw h₀ ?_
  have h : Fr 65538 s₁ s₁ := Fr.refl
  clear h₀ hw
  unfold writeSecAt
  repeat' first
    | with_reducible assumption
    | (with_reducible refine writeSecRerr_frame ?_ rfl)
    | (with_reducible refine writeSecCtl_frame ?_ rfl)
    | (with_reducible refine writeSecRctl_frame ?_ rfl)
    | (with_reducible refine writeSecCmplHead_frame ?_ rfl)
    | (with_reducible refine writeSecRingBase_frame ?_ rfl)
    | (with_reducible refine writeSecReqDb_frame ?_ rfl)
    | (with_reducible refine writePlain_frame ?_ rfl)
    | split

theorem writeSec_frame {q : Requester} {off : Nat} {v : W32} {W : Nat} {s₀ s₁ : State} (h₀ : Fr W s₀ s₁) (hw : 65538 &&& W = 65538) :
    Fr W s₀ (writeSec q off v s₁) := by
  refine Fr.lift hw h₀ ?_
  have h : Fr 65538 s₁ s₁ := Fr.refl
  clear h₀ hw
  first | rw [writeSec] | unfold writeSec
  repeat' first
    | with_reducible assumption
    | (with_reducible refine writeSecAt_frame ?_ rfl)

theorem writeHwin_frame {q : Requester} {off : Nat} {v : W32} {W : Nat} {s₀ s₁ : State} (h₀ : Fr W s₀ s₁) (hw : 96759174925370 &&& W = 96759174925370) :
    Fr W s₀ (writeHwin q off v s₁) := by
  refine Fr.lift hw h₀ ?_
  have h : Fr 96759174925370 s₁ s₁ := Fr.refl
  clear h₀ hw
  first | rw [writeHwin] | unfold writeHwin
  repeat' first
    | with_reducible assumption
    | (with_reducible refine writeHwinCommit_frame ?_ rfl)
    | (with_reducible refine writeHwinBase_frame ?_ rfl)
    | (with_reducible refine Fr.ite ?_ ?_)

theorem writeCoreAt_frame {q : Requester} {c : Fin 33} {v : W32} {o : Nat} {W : Nat} {s₀ s₁ : State} (h₀ : Fr W s₀ s₁) (hw : 618475290626 &&& W = 618475290626) :
    Fr W s₀ (writeCoreAt q c v s₁ o) := by
  refine Fr.lift hw h₀ ?_
  have h : Fr 618475290626 s₁ s₁ := Fr.refl
  clear h₀ hw
  unfold writeCoreAt
  repeat' first
    | with_reducible assumption
    | (with_reducible refine writeCoreWdg_frame ?_ rfl)
    | (with_reducible refine writeCoreEvt_frame ?_ rfl)
    | split

theorem writeCore_frame {q : Requester} {off : Nat} {v : W32} {W : Nat} {s₀ s₁ : State} (h₀ : Fr W s₀ s₁) (hw : 618475290626 &&& W = 618475290626) :
    Fr W s₀ (writeCore q off v s₁) := by
  refine Fr.lift hw h₀ ?_
  have h : Fr 618475290626 s₁ s₁ := Fr.refl
  clear h₀ hw
  first | rw [writeCore] | unfold writeCore
  repeat' first
    | with_reducible assumption
    | (with_reducible refine writeCoreAt_frame ?_ rfl)
    | split

theorem writeCkpAt_frame {q : Requester} {off : Nat} {v : W32} {o : Nat} {W : Nat} {s₀ s₁ : State} (h₀ : Fr W s₀ s₁) (hw : 131957213171006 &&& W = 131957213171006) :
    Fr W s₀ (writeCkpAt q off v s₁ o) := by
  refine Fr.lift hw h₀ ?_
  have h : Fr 131957213171006 s₁ s₁ := Fr.refl
  clear h₀ hw
  unfold writeCkpAt
  repeat' first
    | with_reducible assumption
    | (with_reducible refine writeCkpStage_frame ?_ rfl)
    | (with_reducible refine writeCkpBase_frame ?_ rfl)
    | (with_reducible refine writeCkpMark_frame ?_ rfl)
    | (with_reducible refine writeCkpMarked_frame ?_ rfl)
    | (with_reducible refine writeCkpReplicaWord_frame ?_ rfl)
    | (with_reducible refine writeCkpCtl_frame ?_ rfl)
    | (with_reducible refine writeCkpLease_frame ?_ rfl)
    | (with_reducible refine writePlain_frame ?_ rfl)
    | split

theorem writeCkp_frame {q : Requester} {off : Nat} {v : W32} {W : Nat} {s₀ s₁ : State} (h₀ : Fr W s₀ s₁) (hw : 131957213171006 &&& W = 131957213171006) :
    Fr W s₀ (writeCkp q off v s₁) := by
  refine Fr.lift hw h₀ ?_
  have h : Fr 131957213171006 s₁ s₁ := Fr.refl
  clear h₀ hw
  first | rw [writeCkp] | unfold writeCkp
  repeat' first
    | with_reducible assumption
    | (with_reducible refine writeCkpAt_frame ?_ rfl)

theorem regWriteAt_frame {q : Requester} {off : Nat} {v : W32} {b : Nat} {W : Nat} {s₀ s₁ : State} (h₀ : Fr W s₀ s₁) (hw : 136322261975038 &&& W = 136322261975038) :
    Fr W s₀ (regWriteAt q off v s₁ b) := by
  refine Fr.lift hw h₀ ?_
  have h : Fr 136322261975038 s₁ s₁ := Fr.refl
  clear h₀ hw
  unfold regWriteAt
  repeat' first
    | with_reducible assumption
    | (with_reducible refine writeBar_frame ?_ rfl)
    | (with_reducible refine writeSto_frame ?_ rfl)
    | (with_reducible refine writeFlt_frame ?_ rfl)
    | (with_reducible refine writePeer_frame ?_ rfl)
    | (with_reducible refine writeTrn_frame ?_ rfl)
    | (with_reducible refine writeSec_frame ?_ rfl)
    | (with_reducible refine writeDev_frame ?_ rfl)
    | (with_reducible refine writeCore_frame ?_ rfl)
    | (with_reducible refine writeTg_frame ?_ rfl)
    | (with_reducible refine writeMbx_frame ?_ rfl)
    | (with_reducible refine writeWin_frame ?_ rfl)
    | (with_reducible refine writeFlg_frame ?_ rfl)
    | (with_reducible refine writeArb_frame ?_ rfl)
    | (with_reducible refine writeKv_frame ?_ rfl)
    | (with_reducible refine writePwr_frame ?_ rfl)
    | (with_reducible refine writeHwin_frame ?_ rfl)
    | (with_reducible refine writeHbmReg_frame ?_ rfl)
    | (with_reducible refine writeTime_frame ?_ rfl)
    | (with_reducible refine writeClu_frame ?_ rfl)
    | (with_reducible refine writeCkp_frame ?_ rfl)
    | (with_reducible refine writePkt_frame ?_ rfl)
    | (with_reducible refine writeCol_frame ?_ rfl)
    | (with_reducible refine writeFab_frame ?_ rfl)
    | (with_reducible refine writePlain_frame ?_ rfl)
    | split

theorem regWrite_frame {q : Requester} {off : Nat} {v : W32} {W : Nat} {s₀ s₁ : State} (h₀ : Fr W s₀ s₁) (hw : 136322261975038 &&& W = 136322261975038) :
    Fr W s₀ (regWrite q off v s₁) := by
  refine Fr.lift hw h₀ ?_
  have h : Fr 136322261975038 s₁ s₁ := Fr.refl
  clear h₀ hw
  first | rw [regWrite] | unfold regWrite
  repeat' first
    | with_reducible assumption
    | (with_reducible refine regWriteAt_frame ?_ rfl)

theorem wordStore_frame {q : Requester} {off : Nat} {v : W32} {W : Nat} {s₀ s₁ : State} (h₀ : Fr W s₀ s₁) (hw : 136322261975038 &&& W = 136322261975038) :
    Fr W s₀ (wordStore q off v s₁) := by
  refine Fr.lift hw h₀ ?_
  have h : Fr 136322261975038 s₁ s₁ := Fr.refl
  clear h₀ hw
  first | rw [wordStore] | unfold wordStore
  repeat' first
    | with_reducible assumption
    | (with_reducible refine regWrite_frame ?_ rfl)
    | (with_reducible refine Fr.ite ?_ ?_)

theorem regStore_frame {q : Requester} {off : Nat} {bs : List Byte} {W : Nat} {s₀ s₁ : State} (h₀ : Fr W s₀ s₁) (hw : 136322261975038 &&& W = 136322261975038) :
    Fr2 W s₀ (regStore q off bs s₁) := by
  refine Fr2.lift hw h₀ ?_
  have h : Fr 136322261975038 s₁ s₁ := Fr.refl
  clear h₀ hw
  first | rw [regStore] | unfold regStore
  repeat' first
    | with_reducible assumption
    | (with_reducible refine wordStore_frame ?_ rfl)
    | (with_reducible refine Fr2.ite ?_ ?_)
    | split
    | (with_reducible refine Fr2.pair ?_)

theorem pageDoorbell_frame {i : Nat} {o : Nat} {v : W32} {W : Nat} {s₀ s₁ : State} (h₀ : Fr W s₀ s₁) (hw : 131957212056894 &&& W = 131957212056894) :
    Fr W s₀ (pageDoorbell i o v s₁) := by
  refine Fr.lift hw h₀ ?_
  have h : Fr 131957212056894 s₁ s₁ := Fr.refl
  clear h₀ hw
  first | rw [pageDoorbell] | unfold pageDoorbell
  repeat' first
    | with_reducible assumption
    | (with_reducible refine State.submissionDoorbell_frame ?_ rfl)
    | (with_reducible refine State.tailDoorbell_frame ?_ rfl)
    | (with_reducible refine State.bufferTail_frame ?_ rfl)
    | (with_reducible refine State.completionHead_frame ?_ rfl)
    | (with_reducible refine State.completionDoorbell_frame ?_ rfl)
    | split

theorem pageWrite_frame {off : Nat} {v : W32} {W : Nat} {s₀ s₁ : State} (h₀ : Fr W s₀ s₁) (hw : 132506967870782 &&& W = 132506967870782) :
    Fr W s₀ (pageWrite off v s₁) := by
  refine Fr.lift hw h₀ ?_
  have h : Fr 132506967870782 s₁ s₁ := Fr.refl
  clear h₀ hw
  first | rw [pageWrite] | unfold pageWrite
  repeat' first
    | with_reducible assumption
    | (lift_lets; intro x; clear_value x)
    | (with_reducible refine pageDoorbell_frame ?_ rfl)
    | (with_reducible refine State.setInst_frame ?_ rfl)
    | (with_reducible refine writeMbxCtl_frame ?_ rfl)
    | (with_reducible refine writePlain_frame ?_ rfl)
    | (with_reducible refine Fr.ite ?_ ?_)
    | split

theorem pageRead_frame {off : Nat} {b : Nat} {n : Nat} {W : Nat} {s₀ s₁ : State} (h₀ : Fr W s₀ s₁) (hw : 4294967298 &&& W = 4294967298) :
    Fr2 W s₀ (pageRead off b n s₁) := by
  refine Fr2.lift hw h₀ ?_
  have h : Fr 4294967298 s₁ s₁ := Fr.refl
  clear h₀ hw
  first | rw [pageRead] | unfold pageRead
  repeat' first
    | with_reducible assumption
    | (lift_lets; intro x; clear_value x)
    | (with_reducible refine readPlain_frame ?_ rfl)
    | (with_reducible refine State.setInst_frame ?_ rfl)
    | (with_reducible refine Fr2.ite ?_ ?_)
    | split
    | (with_reducible refine Fr2.pair ?_)

theorem pageStore_frame {off : Nat} {bs : List Byte} {W : Nat} {s₀ s₁ : State} (h₀ : Fr W s₀ s₁) (hw : 132506967870782 &&& W = 132506967870782) :
    Fr W s₀ (pageStore off bs s₁) := by
  refine Fr.lift hw h₀ ?_
  have h : Fr 132506967870782 s₁ s₁ := Fr.refl
  clear h₀ hw
  first | rw [pageStore] | unfold pageStore
  repeat' first
    | with_reducible assumption
    | (with_reducible refine pageWrite_frame ?_ rfl)
    | (with_reducible refine Fr.ite ?_ ?_)

theorem pageLoad_frame {off : Nat} {n : Nat} {W : Nat} {s₀ s₁ : State} (h₀ : Fr W s₀ s₁) (hw : 4294967298 &&& W = 4294967298) :
    Fr2 W s₀ (pageLoad off n s₁) := by
  refine Fr2.lift hw h₀ ?_
  have h : Fr 4294967298 s₁ s₁ := Fr.refl
  clear h₀ hw
  first | rw [pageLoad] | unfold pageLoad
  repeat' first
    | with_reducible assumption
    | (with_reducible refine pageRead_frame ?_ rfl)
    | (with_reducible refine Fr2.ite ?_ ?_)
    | (with_reducible refine Fr.eq2 (by assumption) ?_)
    | split
    | (with_reducible refine Fr2.pair ?_)

theorem cfgStore_frame {off : Nat} {bs : List Byte} {W : Nat} {s₀ s₁ : State} (h₀ : Fr W s₀ s₁) (hw : 131958286913022 &&& W = 131958286913022) :
    Fr W s₀ (cfgStore off bs s₁) := by
  refine Fr.lift hw h₀ ?_
  have h : Fr 131958286913022 s₁ s₁ := Fr.refl
  clear h₀ hw
  first | rw [cfgStore] | unfold cfgStore
  repeat' first
    | with_reducible assumption
    | (intro x; refine_lift have hb : ∀ y, y = x → Fr 131958286913022 s₁ y := ?_; ?_; all_goals first | (have hx := hb x rfl; clear hb; clear_value x) | (intro y hy; unfold x at hy; rw [hy]; clear hy y))
    | (intro x; clear_value x)
    | (lift_lets; intro x; clear_value x)
    | (with_reducible refine State.toD3hot_frame ?_ rfl)
    | (with_reducible refine State.toD0_frame ?_ rfl)
    | (with_reducible refine State.startFlr_frame ?_ rfl)
    | (with_reducible refine State.cfgWr_frame ?_ rfl)
    | (with_reducible refine State.hostStops_frame ?_ rfl)
    | (with_reducible refine State.hostReturns_frame ?_ rfl)
    | (with_reducible refine Fr.ite ?_ ?_)

theorem State.answered_frame {e : Option MemErr} {bs : List Byte} {W : Nat} {s₀ s₁ : State} (h₀ : Fr W s₀ s₁) (hw : 24576 &&& W = 24576) :
    Fr W s₀ (State.answered s₁ e bs) := by
  refine Fr.lift hw h₀ ?_
  have h : Fr 24576 s₁ s₁ := Fr.refl
  clear h₀ hw
  first | rw [State.answered] | unfold State.answered
  repeat' first
    | with_reducible assumption
    | (with_reducible refine Fr.upd_answer32_answerErr ?_ rfl rfl)

theorem State.unclaimed_frame {q : Requester} {W : Nat} {s₀ s₁ : State} (h₀ : Fr W s₀ s₁) (hw : 2147509248 &&& W = 2147509248) :
    Fr W s₀ (State.unclaimed s₁ q) := by
  refine Fr.lift hw h₀ ?_
  have h : Fr 2147509248 s₁ s₁ := Fr.refl
  clear h₀ hw
  first | rw [State.unclaimed] | unfold State.unclaimed
  repeat' first
    | with_reducible assumption
    | (with_reducible refine State.unsupported_frame ?_ rfl)
    | (with_reducible refine State.answered_frame ?_ rfl)
    | (with_reducible refine Fr.ite ?_ ?_)
    | split

theorem State.busLoad_frame {q : Requester} {a : Nat} {n : Nat} {W : Nat} {s₀ s₁ : State} (h₀ : Fr W s₀ s₁) (hw : 96759242034490 &&& W = 96759242034490) :
    Fr22 W s₀ (State.busLoad s₁ q a n) := by
  refine Fr22.lift hw h₀ ?_
  have h : Fr 96759242034490 s₁ s₁ := Fr.refl
  clear h₀ hw
  first | rw [State.busLoad] | unfold State.busLoad
  repeat' first
    | with_reducible assumption
    | (with_reducible refine regLoad_frame ?_ rfl)
    | (with_reducible refine State.load_frame ?_ rfl)
    | (with_reducible refine Fr22.ite ?_ ?_)

theorem State.busStore_frame {q : Requester} {a : Nat} {bs : List Byte} {poison : Bool} {W : Nat} {s₀ s₁ : State} (h₀ : Fr W s₀ s₁) (hw : 136322261975038 &&& W = 136322261975038) :
    Fr2 W s₀ (State.busStore s₁ q a bs poison) := by
  refine Fr2.lift hw h₀ ?_
  have h : Fr 136322261975038 s₁ s₁ := Fr.refl
  clear h₀ hw
  first | rw [State.busStore] | unfold State.busStore
  repeat' first
    | with_reducible assumption
    | (with_reducible refine regStore_frame ?_ rfl)
    | (with_reducible refine State.store_frame ?_ rfl)
    | (with_reducible refine Fr2.ite ?_ ?_)

end Sys2Proof.Machine
end

