-- ==== Sys2Proof/Laws/FrameOperands.lean ====
section
/-! SUPPORT. Frames of the functions of Machine/Operands.lean: which parts of the state each may change. -/

namespace Sys2Proof.Machine

theorem State.unitRow_frame {c : Nat} {off : Nat} {n : Nat} {W : Nat} {s₀ s₁ : State} (h₀ : Fr W s₀ s₁) (hw : 96759174925354 &&& W = 96759174925354) :
    Fr22 W s₀ (State.unitRow s₁ c off n) := by
  refine Fr22.lift hw h₀ ?_
  have h : Fr 96759174925354 s₁ s₁ := Fr.refl
  clear h₀ hw
  first | rw [State.unitRow] | unfold State.unitRow
  repeat' first
    | with_reducible assumption
    | (with_reducible refine State.readWords_frame ?_ rfl)
    | (with_reducible refine Fr.eq2 (by assumption) ?_)
    | split
    | (with_reducible refine Fr22.pair ?_)

theorem State.unitRows.go_frame {c : Nat} {r : SpadRange} {x2 : Nat} {x3 : Nat} {W : Nat} {s₀ s₁ : State} (h₀ : Fr W s₀ s₁) (hw : 96759174925354 &&& W = 96759174925354) :
    Fr22 W s₀ (State.unitRows.go c r x2 x3 s₁) := by
  refine Fr22.lift hw h₀ ?_
  clear h₀ hw
  suffices main : ∀ (x2 : Nat) (c : Nat) (r : SpadRange) (x3 : Nat) (z : State), Fr 96759174925354 s₁ z → Fr22 96759174925354 s₁ (State.unitRows.go c r x2 x3 z) from main x2 c r x3 s₁ Fr.refl
  intro x2
  induction x2 with
  | zero =>
    intro c r x3 z h
    first | rw [State.unitRows.go] | unfold State.unitRows.go
    repeat' first
      | with_reducible assumption
      | (with_reducible refine ih _ _ _ _ ?_)
      | (with_reducible refine State.unitRow_frame ?_ rfl)
      | (with_reducible refine Fr.eq22 (by assumption) ?_)
      | split
      | (with_reducible refine Fr22.pair ?_)
  | succ n ih =>
    intro c r x3 z h
    first | rw [State.unitRows.go] | unfold State.unitRows.go
    repeat' first
      | with_reducible assumption
      | (with_reducible refine ih _ _ _ _ ?_)
      | (with_reducible refine State.unitRow_frame ?_ rfl)
      | (with_reducible refine Fr.eq22 (by assumption) ?_)
      | split
      | (with_reducible refine Fr22.pair ?_)

theorem State.unitRows_frame {c : Nat} {r : SpadRange} {W : Nat} {s₀ s₁ : State} (h₀ : Fr W s₀ s₁) (hw : 96759174925354 &&& W = 96759174925354) :
    Fr22 W s₀ (State.unitRows s₁ c r) := by
  refine Fr22.lift hw h₀ ?_
  have h : Fr 96759174925354 s₁ s₁ := Fr.refl
  clear h₀ hw
  first | rw [State.unitRows] | unfold State.unitRows
  repeat' first
    | with_reducible assumption
    | (with_reducible refine State.unitRows.go_frame ?_ rfl)

theorem State.unitRead_frame {c : Nat} {r : SpadRange} {W : Nat} {s₀ s₁ : State} (h₀ : Fr W s₀ s₁) (hw : 96759174925354 &&& W = 96759174925354) :
    Fr22 W s₀ (State.unitRead s₁ c r) := by
  refine Fr22.lift hw h₀ ?_
  have h : Fr 96759174925354 s₁ s₁ := Fr.refl
  clear h₀ hw
  first | rw [State.unitRead] | unfold State.unitRead
  repeat' first
    | with_reducible assumption
    | (with_reducible refine State.unitRow_frame ?_ rfl)

theorem State.unitWrite_frame {c : Nat} {off : Nat} {bs : List Byte} {W : Nat} {s₀ s₁ : State} (h₀ : Fr W s₀ s₁) (hw : 96759174925358 &&& W = 96759174925358) :
    Fr W s₀ (State.unitWrite s₁ c off bs) := by
  refine Fr.lift hw h₀ ?_
  have h : Fr 96759174925358 s₁ s₁ := Fr.refl
  clear h₀ hw
  first | rw [State.unitWrite] | unfold State.unitWrite
  repeat' first
    | with_reducible assumption
    | (with_reducible refine State.writeWords_frame ?_ rfl)
    | (with_reducible refine State.putBytes_frame ?_ rfl)

theorem State.unitScramble_frame {c : Nat} {r : SpadRange} {W : Nat} {s₀ s₁ : State} (h₀ : Fr W s₀ s₁) (hw : 96759174925614 &&& W = 96759174925614) :
    Fr W s₀ (State.unitScramble s₁ c r) := by
  refine Fr.lift hw h₀ ?_
  have h : Fr 96759174925614 s₁ s₁ := Fr.refl
  clear h₀ hw
  first | rw [State.unitScramble] | unfold State.unitScramble
  repeat' first
    | with_reducible assumption
    | (with_reducible refine State.unitWrite_frame ?_ rfl)
    | (with_reducible refine State.tick_frame ?_ rfl)
    | (with_reducible refine Fr.foldl (fun z a h => ?_) ?_)

end Sys2Proof.Machine
end

