-- ==== Sys2Proof/Laws/FrameClusterOps.lean ====
section
/-! SUPPORT. Frames of the functions of Machine/ClusterOps.lean: which parts of the state each may change. -/

namespace Sys2Proof.Machine

theorem State.haltAtFailed_frame {c : Nat} {W : Nat} {s₀ s₁ : State} (h₀ : Fr W s₀ s₁) (hw : 2 &&& W = 2) :
    Fr W s₀ (State.haltAtFailed s₁ c) := by
  refine Fr.lift hw h₀ ?_
  have h : Fr 2 s₁ s₁ := Fr.refl
  clear h₀ hw
  first | rw [State.haltAtFailed] | unfold State.haltAtFailed
  repeat' first
    | with_reducible assumption
    | (with_reducible refine State.sf_frame ?_ rfl)
    | (with_reducible refine Fr.ite ?_ ?_)

theorem State.headXlat_frame {c : Nat} {ix : Nat} {d : List Byte} {W : Nat} {s₀ s₁ : State} (h₀ : Fr W s₀ s₁) (hw : 96759175187514 &&& W = 96759175187514) :
    Fr W s₀ (State.headXlat s₁ c ix d) := by
  refine Fr.lift hw h₀ ?_
  have h : Fr 96759175187514 s₁ s₁ := Fr.refl
  clear h₀ hw
  first | rw [State.headXlat] | unfold State.headXlat
  repeat' first
    | with_reducible assumption
    | (intro x; refine_lift have hb : ∀ y, y = x → Fr 96759175187514 s₁ y := ?_; ?_; all_goals first | (have hx := hb x rfl; clear hb; clear_value x) | (intro y hy; unfold x at hy; rw [hy]; clear hy y))
    | (intro x; clear_value x)
    | (lift_lets; intro x; refine_lift have hb : ∀ y, y = x → Fr 96759175187514 s₁ y := ?_; ?_; all_goals first | (have hx := hb x rfl; clear hb; clear_value x) | (intro y hy; unfold x at hy; rw [hy]; clear hy y))
    | (lift_lets; intro x; clear_value x)
    | (with_reducible refine State.translate_frame ?_ rfl)
    | (with_reducible refine Fr2.out (State.translate_frame ?_ rfl))
    | (with_reducible refine State.keepXlat_frame ?_ rfl)
    | (with_reducible refine Fr.ite ?_ ?_)
    | (with_reducible refine Fr.eq2 (by assumption) ?_)
    | (with_reducible refine Fr.eq22 (by assumption) ?_)
    | (with_reducible refine Fr.eq1 (by assumption) ?_)
    | (with_reducible refine Fr.eqo (by assumption) ?_)
    | (with_reducible refine Fr.eqo2 (by assumption) ?_)
    | (with_reducible refine Fr.eqo22 (by assumption) ?_)
    | (with_reducible exact Fr2.out (by assumption))
    | dsimp only
    | split

theorem State.issueTo_frame {c : Nat} {ix : Nat} {d : List Byte} {unit : Nat} {status : Nat} {W : Nat} {s₀ s₁ : State} (h₀ : Fr W s₀ s₁) (hw : 96759171058746 &&& W = 96759171058746) :
    Fr W s₀ (State.issueTo s₁ c ix d unit status) := by
  refine Fr.lift hw h₀ ?_
  have h : Fr 96759171058746 s₁ s₁ := Fr.refl
  clear h₀ hw
  first | rw [State.issueTo] | unfold State.issueTo
  repeat' first
    | with_reducible assumption
    | (with_reducible refine State.dropXlat_frame ?_ rfl)
    | (with_reducible refine State.cluRefresh_frame ?_ rfl)
    | (with_reducible refine State.haltAtFailed_frame ?_ rfl)
    | (with_reducible refine State.setRing_frame ?_ rfl)

theorem State.setFlagOf_frame {c : Nat} {d : List Byte} {status : Nat} {W : Nat} {s₀ s₁ : State} (h₀ : Fr W s₀ s₁) (hw : 96759175187514 &&& W = 96759175187514) :
    Fr22 W s₀ (State.setFlagOf s₁ c d status) := by
  refine Fr22.lift hw h₀ ?_
  have h : Fr 96759175187514 s₁ s₁ := Fr.refl
  clear h₀ hw
  first | rw [State.setFlagOf] | unfold State.setFlagOf
  repeat' first
    | with_reducible assumption
    | (with_reducible refine State.translate_frame ?_ rfl)
    | (with_reducible refine Fr22.ite ?_ ?_)
    | (with_reducible refine Fr.eq2 (by assumption) ?_)
    | split
    | (with_reducible refine Fr22.pair ?_)

theorem State.started_frame {c : Nat} {i : Issued} {res : Option (Nat × Nat)} {W : Nat} {s₀ s₁ : State} (h₀ : Fr W s₀ s₁) (hw : 65536 &&& W = 65536) :
    Fr W s₀ (State.started s₁ c i res) := by
  refine Fr.lift hw h₀ ?_
  have h : Fr 65536 s₁ s₁ := Fr.refl
  clear h₀ hw
  first | rw [State.started] | unfold State.started
  repeat' first
    | with_reducible assumption
    | (with_reducible refine State.setRing_frame ?_ rfl)

theorem State.bankDraw_frame {a : Nat} {u : Nat} {v : Nat} {W : Nat} {s₀ s₁ : State} (h₀ : Fr W s₀ s₁) (hw : 4294967744 &&& W = 4294967744) :
    Fr2 W s₀ (State.bankDraw s₁ a u v) := by
  refine Fr2.lift hw h₀ ?_
  have h : Fr 4294967744 s₁ s₁ := Fr.refl
  clear h₀ hw
  unfold State.bankDraw
  exact Fr2.pair (Fr2.out (State.draw_frame (Fr2.out (State.drawNow_frame h rfl)) rfl))

theorem State.putBack_frame {old : State} {a : Nat} {n : Nat} {W : Nat} {s₀ s₁ : State} (h₀ : Fr W s₀ s₁) (hw : 44 &&& W = 44) :
    Fr W s₀ (State.putBack old s₁ a n) := by
  refine Fr.lift hw h₀ ?_
  have h : Fr 44 s₁ s₁ := Fr.refl
  clear h₀ hw
  first | rw [State.putBack] | unfold State.putBack
  repeat' first
    | with_reducible assumption
    | (intro x; refine_lift have hb : ∀ y, y = x → Fr 44 s₁ y := ?_; ?_; all_goals first | (have hx := hb x rfl; clear hb; clear_value x) | (intro y hy; unfold x at hy; rw [hy]; clear hy y))
    | (intro x; clear_value x)
    | (lift_lets; intro x; refine_lift have hb : ∀ y, y = x → Fr 44 s₁ y := ?_; ?_; all_goals first | (have hx := hb x rfl; clear hb; clear_value x) | (intro y hy; unfold x at hy; rw [hy]; clear hy y))
    | (lift_lets; intro x; clear_value x)
    | (with_reducible refine State.putBytes_frame ?_ rfl)
    | (with_reducible refine State.setWordMark_frame ?_ rfl)
    | (with_reducible refine Fr.foldl (fun z a h => ?_) ?_)
    | (with_reducible refine Fr.ite ?_ ?_)
    | (with_reducible exact Fr2.out (by assumption))
    | dsimp only
    | split

theorem State.raceLine_frame {old : State} {u : Nat} {v : Nat} {line : Nat} {both : List (Nat × Nat)} {W : Nat} {s₀ s₁ : State} (h₀ : Fr W s₀ s₁) (hw : 4294967788 &&& W = 4294967788) :
    Fr W s₀ (State.raceLine old u v line both s₁) := by
  refine Fr.lift hw h₀ ?_
  have h : Fr 4294967788 s₁ s₁ := Fr.refl
  clear h₀ hw
  first | rw [State.raceLine] | unfold State.raceLine
  repeat' first
    | with_reducible assumption
    | (with_reducible refine State.bankDraw_frame ?_ rfl)
    | (with_reducible refine Fr2.out (State.bankDraw_frame ?_ rfl))
    | (with_reducible refine State.putBack_frame ?_ rfl)
    | (with_reducible refine Fr.foldl (fun z a h => ?_) ?_)
    | (with_reducible refine Fr.ite ?_ ?_)
    | (with_reducible refine Fr.eq2 (by assumption) ?_)
    | (with_reducible refine Fr.eq22 (by assumption) ?_)
    | (with_reducible refine Fr.eq1 (by assumption) ?_)
    | (with_reducible refine Fr.eqo (by assumption) ?_)
    | (with_reducible refine Fr.eqo2 (by assumption) ?_)
    | (with_reducible refine Fr.eqo22 (by assumption) ?_)
    | dsimp only
    | split

theorem State.raceLines_frame {old : State} {c : Nat} {i : Issued} {W : Nat} {s₀ s₁ : State} (h₀ : Fr W s₀ s₁) (hw : 4294967788 &&& W = 4294967788) :
    Fr W s₀ (State.raceLines old c i s₁) := by
  refine Fr.lift hw h₀ ?_
  have h : Fr 4294967788 s₁ s₁ := Fr.refl
  clear h₀ hw
  first | rw [State.raceLines] | unfold State.raceLines
  repeat' first
    | with_reducible assumption
    | (intro x; refine_lift have hb : ∀ y, y = x → Fr 4294967788 s₁ y := ?_; ?_; all_goals first | (have hx := hb x rfl; clear hb; clear_value x) | (intro y hy; unfold x at hy; rw [hy]; clear hy y))
    | (intro x; clear_value x)
    | (lift_lets; intro x; refine_lift have hb : ∀ y, y = x → Fr 4294967788 s₁ y := ?_; ?_; all_goals first | (have hx := hb x rfl; clear hb; clear_value x) | (intro y hy; unfold x at hy; rw [hy]; clear hy y))
    | (lift_lets; intro x; clear_value x)
    | (with_reducible refine State.raceLine_frame ?_ rfl)
    | (with_reducible refine Fr.foldl (fun z a h => ?_) ?_)
    | (with_reducible refine Fr.ite ?_ ?_)
    | (with_reducible exact Fr2.out (by assumption))
    | dsimp only
    | split

theorem mmaRun_frame {c : Nat} {d : List Byte} {W : Nat} {s₀ s₁ : State} (h₀ : Fr W s₀ s₁) (hw : 96759174925614 &&& W = 96759174925614) :
    Fr22 W s₀ (mmaRun c d s₁) := by
  refine Fr22.lift hw h₀ ?_
  have h : Fr 96759174925614 s₁ s₁ := Fr.refl
  clear h₀ hw
  first | rw [mmaRun] | unfold mmaRun
  repeat' first
    | with_reducible assumption
    | (intro x; clear_value x)
    | (lift_lets; intro x; clear_value x)
    | (with_reducible refine State.unitWrite_frame ?_ rfl)
    | (with_reducible refine State.unitScramble_frame ?_ rfl)
    | (with_reducible refine Fr.foldl (fun z a h => ?_) ?_)
    | (with_reducible refine Fr22.ite ?_ ?_)
    | (with_reducible refine Fr22.out (State.unitRows_frame ?_ rfl))
    | split
    | (with_reducible refine Fr22.pair ?_)

theorem State.readX_frame {c : Nat} {d : List Byte} {W : Nat} {s₀ s₁ : State} (h₀ : Fr W s₀ s₁) (hw : 96759174925354 &&& W = 96759174925354) :
    Fr22 W s₀ (State.readX s₁ c d) := by
  refine Fr22.lift hw h₀ ?_
  have h : Fr 96759174925354 s₁ s₁ := Fr.refl
  clear h₀ hw
  first | rw [State.readX] | unfold State.readX
  repeat' first
    | with_reducible assumption
    | (with_reducible refine State.unitRead_frame ?_ rfl)
    | (with_reducible refine Fr.eq22 (by assumption) ?_)
    | split
    | (with_reducible refine Fr22.pair ?_)

theorem State.readY_frame {c : Nat} {d : List Byte} {W : Nat} {s₀ s₁ : State} (h₀ : Fr W s₀ s₁) (hw : 96759174925354 &&& W = 96759174925354) :
    Fr22 W s₀ (State.readY s₁ c d) := by
  refine Fr22.lift hw h₀ ?_
  have h : Fr 96759174925354 s₁ s₁ := Fr.refl
  clear h₀ hw
  first | rw [State.readY] | unfold State.readY
  repeat' first
    | with_reducible assumption
    | (with_reducible refine State.unitRead_frame ?_ rfl)
    | (with_reducible refine Fr22.ite ?_ ?_)
    | (with_reducible refine Fr.eq22 (by assumption) ?_)
    | split
    | (with_reducible refine Fr22.pair ?_)

theorem State.readZ_frame {c : Nat} {d : List Byte} {W : Nat} {s₀ s₁ : State} (h₀ : Fr W s₀ s₁) (hw : 96759174925354 &&& W = 96759174925354) :
    Fr22 W s₀ (State.readZ s₁ c d) := by
  refine Fr22.lift hw h₀ ?_
  have h : Fr 96759174925354 s₁ s₁ := Fr.refl
  clear h₀ hw
  first | rw [State.readZ] | unfold State.readZ
  repeat' first
    | with_reducible assumption
    | (with_reducible refine State.unitRead_frame ?_ rfl)
    | (with_reducible refine Fr.eq22 (by assumption) ?_)
    | split
    | (with_reducible refine Fr22.pair ?_)

theorem State.writeZ_frame {c : Nat} {d : List Byte} {zs : List Num} {W : Nat} {s₀ s₁ : State} (h₀ : Fr W s₀ s₁) (hw : 96759174925358 &&& W = 96759174925358) :
    Fr W s₀ (State.writeZ s₁ c d zs) := by
  refine Fr.lift hw h₀ ?_
  have h : Fr 96759174925358 s₁ s₁ := Fr.refl
  clear h₀ hw
  first | rw [State.writeZ] | unfold State.writeZ
  repeat' first
    | with_reducible assumption
    | (with_reducible refine State.unitWrite_frame ?_ rfl)

theorem vecBad_frame {c : Nat} {d : List Byte} {W : Nat} {s₀ s₁ : State} (h₀ : Fr W s₀ s₁) (hw : 96759174925614 &&& W = 96759174925614) :
    Fr22 W s₀ (vecBad c d s₁) := by
  refine Fr22.lift hw h₀ ?_
  have h : Fr 96759174925614 s₁ s₁ := Fr.refl
  clear h₀ hw
  first | rw [vecBad] | unfold vecBad
  repeat' first
    | with_reducible assumption
    | (with_reducible refine State.unitScramble_frame ?_ rfl)
    | (with_reducible refine Fr22.pair ?_)

theorem vecBinRun_frame {c : Nat} {d : List Byte} {W : Nat} {s₀ s₁ : State} (h₀ : Fr W s₀ s₁) (hw : 96759174925614 &&& W = 96759174925614) :
    Fr22 W s₀ (vecBinRun c d s₁) := by
  refine Fr22.lift hw h₀ ?_
  have h : Fr 96759174925614 s₁ s₁ := Fr.refl
  clear h₀ hw
  first | rw [vecBinRun] | unfold vecBinRun
  repeat' first
    | with_reducible assumption
    | (with_reducible refine State.writeZ_frame ?_ rfl)
    | (with_reducible refine vecBad_frame ?_ rfl)
    | (with_reducible refine Fr22.ite ?_ ?_)
    | (with_reducible refine Fr22.out (State.readY_frame ?_ rfl))
    | (with_reducible refine Fr22.out (State.readX_frame ?_ rfl))
    | (with_reducible refine Fr22.pair ?_)

theorem vecFmaRun_frame {c : Nat} {d : List Byte} {W : Nat} {s₀ s₁ : State} (h₀ : Fr W s₀ s₁) (hw : 96759174925614 &&& W = 96759174925614) :
    Fr22 W s₀ (vecFmaRun c d s₁) := by
  refine Fr22.lift hw h₀ ⟨?_⟩
  unfold vecFmaRun
  dsimp only
  have hx : Fr22 96759174925614 s₁ (s₁.readX c d) := State.readX_frame Fr.refl rfl
  generalize s₁.readX c d = x at hx
  have hy : Fr22 96759174925614 s₁ (x.2.2.readY c d) := State.readY_frame hx.out rfl
  generalize x.2.2.readY c d = y at hy
  have hz : Fr22 96759174925614 s₁ (y.2.2.readZ c d) := State.readZ_frame hy.out rfl
  generalize y.2.2.readZ c d = z at hz
  split
  · exact (vecBad_frame hz.out rfl).out
  · exact State.writeZ_frame hz.out rfl

theorem vecUnRun_frame {c : Nat} {d : List Byte} {W : Nat} {s₀ s₁ : State} (h₀ : Fr W s₀ s₁) (hw : 96759174925614 &&& W = 96759174925614) :
    Fr22 W s₀ (vecUnRun c d s₁) := by
  refine Fr22.lift hw h₀ ?_
  have h : Fr 96759174925614 s₁ s₁ := Fr.refl
  clear h₀ hw
  first | rw [vecUnRun] | unfold vecUnRun
  repeat' first
    | with_reducible assumption
    | (with_reducible refine State.writeZ_frame ?_ rfl)
    | (with_reducible refine vecBad_frame ?_ rfl)
    | (with_reducible refine Fr22.ite ?_ ?_)
    | (with_reducible refine Fr22.out (State.readX_frame ?_ rfl))
    | (with_reducible refine Fr22.pair ?_)

theorem State.vecSum_frame {xs : List Num} {W : Nat} {s₀ s₁ : State} (h₀ : Fr W s₀ s₁) (hw : 256 &&& W = 256) :
    Fr2 W s₀ (State.vecSum s₁ xs) := by
  refine Fr2.lift hw h₀ ?_
  have h : Fr 256 s₁ s₁ := Fr.refl
  clear h₀ hw
  unfold State.vecSum
  repeat' first
    | with_reducible assumption
    | (with_reducible refine State.tick_frame ?_ rfl)
    | (with_reducible refine Fr2.ite ?_ ?_)
    | split
    | (with_reducible refine Fr2.pair ?_)
    | (with_reducible refine Fr.free ?_ rfl)

theorem vecRedRun_frame {c : Nat} {d : List Byte} {W : Nat} {s₀ s₁ : State} (h₀ : Fr W s₀ s₁) (hw : 96759174925614 &&& W = 96759174925614) :
    Fr22 W s₀ (vecRedRun c d s₁) := by
  refine Fr22.lift hw h₀ ?_
  have h : Fr 96759174925614 s₁ s₁ := Fr.refl
  clear h₀ hw
  first | rw [vecRedRun] | unfold vecRedRun
  repeat' first
    | with_reducible assumption
    | (with_reducible refine State.unitWrite_frame ?_ rfl)
    | (with_reducible refine vecBad_frame ?_ rfl)
    | (with_reducible refine State.vecSum_frame ?_ rfl)
    | (with_reducible refine Fr22.ite ?_ ?_)
    | (with_reducible refine Fr22.out (State.readX_frame ?_ rfl))
    | (with_reducible refine Fr.eq2 (by assumption) ?_)
    | split
    | (with_reducible refine Fr22.pair ?_)

theorem vecTopkRun_frame {c : Nat} {d : List Byte} {W : Nat} {s₀ s₁ : State} (h₀ : Fr W s₀ s₁) (hw : 96759174925614 &&& W = 96759174925614) :
    Fr22 W s₀ (vecTopkRun c d s₁) := by
  refine Fr22.lift hw h₀ ?_
  have h : Fr 96759174925614 s₁ s₁ := Fr.refl
  clear h₀ hw
  first | rw [vecTopkRun] | unfold vecTopkRun
  repeat' first
    | with_reducible assumption
    | (with_reducible refine State.unitWrite_frame ?_ rfl)
    | (with_reducible refine vecBad_frame ?_ rfl)
    | (with_reducible refine Fr22.ite ?_ ?_)
    | (with_reducible refine Fr22.out (State.readX_frame ?_ rfl))
    | (with_reducible refine Fr22.pair ?_)

theorem State.randList_frame {c : Nat} {x1 : Nat} {x2 : Nat} {W : Nat} {s₀ s₁ : State} (h₀ : Fr W s₀ s₁) (hw : 131072 &&& W = 131072) :
    Fr2 W s₀ (State.randList c x1 x2 s₁) := by
  refine Fr2.lift hw h₀ ?_
  clear h₀ hw
  suffices main : ∀ (x1 : Nat) (c : Nat) (x2 : Nat) (z : State), Fr 131072 s₁ z → Fr2 131072 s₁ (State.randList c x1 x2 z) from main x1 c x2 s₁ Fr.refl
  intro x1
  induction x1 with
  | zero =>
    intro c x2 z h
    first | rw [State.randList] | unfold State.randList
    repeat' first
      | with_reducible assumption
      | (with_reducible refine ih _ _ _ ?_)
      | (with_reducible refine State.drawLane_frame ?_ rfl)
      | (with_reducible refine Fr.eq2 (by assumption) ?_)
      | split
      | (with_reducible refine Fr2.pair ?_)
  | succ n ih =>
    intro c x2 z h
    first | rw [State.randList] | unfold State.randList
    repeat' first
      | with_reducible assumption
      | (with_reducible refine ih _ _ _ ?_)
      | (with_reducible refine State.drawLane_frame ?_ rfl)
      | (with_reducible refine Fr.eq2 (by assumption) ?_)
      | split
      | (with_reducible refine Fr2.pair ?_)

theorem vecRandRun_frame {c : Nat} {d : List Byte} {W : Nat} {s₀ s₁ : State} (h₀ : Fr W s₀ s₁) (hw : 96759175056430 &&& W = 96759175056430) :
    Fr22 W s₀ (vecRandRun c d s₁) := by
  refine Fr22.lift hw h₀ ?_
  have h : Fr 96759175056430 s₁ s₁ := Fr.refl
  clear h₀ hw
  first | rw [vecRandRun] | unfold vecRandRun
  repeat' first
    | with_reducible assumption
    | (with_reducible refine State.randList_frame ?_ rfl)
    | (with_reducible refine State.writeZ_frame ?_ rfl)
    | (with_reducible refine State.seedBank_frame ?_ rfl)
    | (with_reducible refine Fr.eq2 (by assumption) ?_)
    | split
    | (with_reducible refine Fr22.pair ?_)

theorem State.sfuList_frame {f : Nat} {xs : List Num} {W : Nat} {s₀ s₁ : State} (h₀ : Fr W s₀ s₁) (hw : 256 &&& W = 256) :
    Fr2 W s₀ (State.sfuList s₁ f xs) := by
  refine Fr2.lift hw h₀ ?_
  have h : Fr 256 s₁ s₁ := Fr.refl
  clear h₀ hw
  first | rw [State.sfuList] | unfold State.sfuList
  repeat' first
    | with_reducible assumption
    | (with_reducible refine Fr2.pair ?_)
    | (with_reducible refine Fr.free ?_ rfl)

theorem sfuRun_frame {c : Nat} {d : List Byte} {W : Nat} {s₀ s₁ : State} (h₀ : Fr W s₀ s₁) (hw : 96759174925614 &&& W = 96759174925614) :
    Fr22 W s₀ (sfuRun c d s₁) := by
  refine Fr22.lift hw h₀ ?_
  have h : Fr 96759174925614 s₁ s₁ := Fr.refl
  clear h₀ hw
  first | rw [sfuRun] | unfold sfuRun
  repeat' first
    | with_reducible assumption
    | (with_reducible refine State.sfuList_frame ?_ rfl)
    | (with_reducible refine State.writeZ_frame ?_ rfl)
    | (with_reducible refine vecBad_frame ?_ rfl)
    | (with_reducible refine Fr22.ite ?_ ?_)
    | (with_reducible refine Fr22.out (State.readX_frame ?_ rfl))
    | (with_reducible refine Fr.eq2 (by assumption) ?_)
    | split
    | (with_reducible refine Fr22.pair ?_)

theorem State.drawConv_frame {c : Nat} {W : Nat} {s₀ s₁ : State} (h₀ : Fr W s₀ s₁) (hw : 131328 &&& W = 131328) :
    Fr2 W s₀ (State.drawConv s₁ c) := by
  refine Fr2.lift hw h₀ ?_
  have h : Fr 131328 s₁ s₁ := Fr.refl
  clear h₀ hw
  first | rw [State.drawConv] | unfold State.drawConv
  repeat' first
    | with_reducible assumption
    | (with_reducible refine State.tick_frame ?_ rfl)
    | (with_reducible refine State.drawLane_frame ?_ rfl)

theorem State.groupRounds_frame {c : Nat} {x1 : List Num} {W : Nat} {s₀ s₁ : State} (h₀ : Fr W s₀ s₁) (hw : 131328 &&& W = 131328) :
    Fr2 W s₀ (State.groupRounds c x1 s₁) := by
  refine Fr2.lift hw h₀ ?_
  clear h₀ hw
  suffices main : ∀ (x1 : List Num) (c : Nat) (z : State), Fr 131328 s₁ z → Fr2 131328 s₁ (State.groupRounds c x1 z) from main x1 c s₁ Fr.refl
  intro x1
  induction x1 with
  | nil =>
    intro c z h
    first | rw [State.groupRounds] | unfold State.groupRounds
    repeat' first
      | with_reducible assumption
      | (with_reducible refine ih _ _ ?_)
      | (with_reducible refine State.drawConv_frame ?_ rfl)
      | (with_reducible refine Fr2.ite ?_ ?_)
      | (with_reducible refine Fr.eq2 (by assumption) ?_)
      | split
      | (with_reducible refine Fr2.pair ?_)
  | cons b bs ih =>
    intro c z h
    first | rw [State.groupRounds] | unfold State.groupRounds
    repeat' first
      | with_reducible assumption
      | (with_reducible refine ih _ _ ?_)
      | (with_reducible refine State.drawConv_frame ?_ rfl)
      | (with_reducible refine Fr2.ite ?_ ?_)
      | (with_reducible refine Fr.eq2 (by assumption) ?_)
      | split
      | (with_reducible refine Fr2.pair ?_)

theorem State.cvtGroups_frame {c : Nat} {fmt : Nat} {rnd : Bool} {sat : Bool} {x4 : List (List Num)} {W : Nat} {s₀ s₁ : State} (h₀ : Fr W s₀ s₁) (hw : 131328 &&& W = 131328) :
    Fr222 W s₀ (State.cvtGroups c fmt rnd sat x4 s₁) := by
  refine Fr222.lift hw h₀ ?_
  clear h₀ hw
  suffices main : ∀ (x4 : List (List Num)) (c : Nat) (fmt : Nat) (rnd : Bool) (sat : Bool) (z : State), Fr 131328 s₁ z → Fr222 131328 s₁ (State.cvtGroups c fmt rnd sat x4 z) from main x4 c fmt rnd sat s₁ Fr.refl
  intro x4
  induction x4 with
  | nil =>
    intro c fmt rnd sat z h
    first | rw [State.cvtGroups] | unfold State.cvtGroups
    repeat' first
      | with_reducible assumption
      | (with_reducible refine ih _ _ _ _ _ ?_)
      | (with_reducible refine State.groupRounds_frame ?_ rfl)
      | (with_reducible refine Fr2.ite ?_ ?_)
      | (with_reducible refine Fr.eq2 (by assumption) ?_)
      | (with_reducible refine Fr.eq222 (by assumption) ?_)
      | split
      | (with_reducible refine Fr2.pair ?_)
      | (with_reducible refine Fr222.pair ?_)
  | cons b bs ih =>
    intro c fmt rnd sat z h
    first | rw [State.cvtGroups] | unfold State.cvtGroups
    repeat' first
      | with_reducible assumption
      | (with_reducible refine ih _ _ _ _ _ ?_)
      | (with_reducible refine State.groupRounds_frame ?_ rfl)
      | (with_reducible refine Fr2.ite ?_ ?_)
      | (with_reducible refine Fr.eq2 (by assumption) ?_)
      | (with_reducible refine Fr.eq222 (by assumption) ?_)
      | split
      | (with_reducible refine Fr2.pair ?_)
      | (with_reducible refine Fr222.pair ?_)

theorem cvtRun_frame {c : Nat} {d : List Byte} {W : Nat} {s₀ s₁ : State} (h₀ : Fr W s₀ s₁) (hw : 96759175056686 &&& W = 96759175056686) :
    Fr22 W s₀ (cvtRun c d s₁) := by
  refine Fr22.lift hw h₀ ?_
  have h : Fr 96759175056686 s₁ s₁ := Fr.refl
  clear h₀ hw
  first | rw [cvtRun] | unfold cvtRun
  repeat' first
    | with_reducible assumption
    | (intro x; refine_lift have hb : ∀ y, y = x → Fr 96759175056686 s₁ y := ?_; ?_; all_goals first | (have hx := hb x rfl; clear hb; clear_value x) | (intro y hy; unfold x at hy; rw [hy]; clear hy y))
    | (lift_lets; intro x; refine_lift have hb : ∀ y, y = x → Fr 96759175056686 s₁ y := ?_; ?_; all_goals first | (have hx := hb x rfl; clear hb; clear_value x) | (intro y hy; unfold x at hy; rw [hy]; clear hy y))
    | (lift_lets; intro x; clear_value x)
    | (with_reducible refine State.unitRead_frame ?_ rfl)
    | (with_reducible refine State.unitWrite_frame ?_ rfl)
    | (with_reducible refine State.cvtGroups_frame ?_ rfl)
    | (with_reducible refine State.seedBank_frame ?_ rfl)
    | (with_reducible refine State.unitScramble_frame ?_ rfl)
    | (with_reducible refine Fr.ite ?_ ?_)
    | (with_reducible refine Fr22.ite ?_ ?_)
    | (with_reducible refine Fr22.out (State.unitRead_frame ?_ rfl))
    | (with_reducible refine Fr22.out (Fr22.ite ?_ ?_))
    | (with_reducible refine Fr.eq222 (by assumption) ?_)
    | split
    | (with_reducible refine Fr22.pair ?_)

theorem State.loadTagged_frame {x0 : Nat} {x1 : Nat} {x2 : Nat} {W : Nat} {s₀ s₁ : State} (h₀ : Fr W s₀ s₁) (hw : 96759242034490 &&& W = 96759242034490) :
    Fr2 W s₀ (State.loadTagged x0 x1 x2 s₁) := by
  refine Fr2.lift hw h₀ ?_
  clear h₀ hw
  suffices main : ∀ (x0 : Nat) (x1 : Nat) (x2 : Nat) (z : State), Fr 96759242034490 s₁ z → Fr2 96759242034490 s₁ (State.loadTagged x0 x1 x2 z) from main x0 x1 x2 s₁ Fr.refl
  intro x0
  induction x0 with
  | zero =>
    intro x1 x2 z h
    first | rw [State.loadTagged] | unfold State.loadTagged
    repeat' first
      | with_reducible assumption
      | (lift_lets; intro x; clear_value x)
      | (with_reducible refine ih _ _ _ ?_)
      | (with_reducible refine State.busLoad_frame ?_ rfl)
      | (with_reducible refine Fr2.ite ?_ ?_)
      | (with_reducible refine Fr.eq2 (by assumption) ?_)
      | (with_reducible refine Fr.eq22 (by assumption) ?_)
      | split
      | (with_reducible refine Fr2.pair ?_)
  | succ n ih =>
    intro x1 x2 z h
    first | rw [State.loadTagged] | unfold State.loadTagged
    repeat' first
      | with_reducible assumption
      | (lift_lets; intro x; clear_value x)
      | (with_reducible refine ih _ _ _ ?_)
      | (with_reducible refine State.busLoad_frame ?_ rfl)
      | (with_reducible refine Fr2.ite ?_ ?_)
      | (with_reducible refine Fr.eq2 (by assumption) ?_)
      | (with_reducible refine Fr.eq22 (by assumption) ?_)
      | split
      | (with_reducible refine Fr2.pair ?_)

theorem State.storeTagged_frame {x0 : Nat} {x1 : Nat} {x2 : List (Byte × Bool)} {W : Nat} {s₀ s₁ : State} (h₀ : Fr W s₀ s₁) (hw : 136322261975038 &&& W = 136322261975038) :
    Fr W s₀ (State.storeTagged x0 x1 x2 s₁) := by
  refine Fr.lift hw h₀ ?_
  clear h₀ hw
  suffices main : ∀ (x0 : Nat) (x1 : Nat) (x2 : List (Byte × Bool)) (z : State), Fr 136322261975038 s₁ z → Fr 136322261975038 s₁ (State.storeTagged x0 x1 x2 z) from main x0 x1 x2 s₁ Fr.refl
  intro x0
  induction x0 with
  | zero =>
    intro x1 x2 z h
    unfold State.storeTagged
    repeat' first
      | with_reducible assumption
      | (intro x; clear_value x)
      | (lift_lets; intro x; clear_value x)
      | (with_reducible refine ih _ _ _ ?_)
      | (with_reducible refine Fr2.out (State.busStore_frame ?_ rfl))
      | split
  | succ n ih =>
    intro x1 x2 z h
    unfold State.storeTagged
    repeat' first
      | with_reducible assumption
      | (intro x; clear_value x)
      | (lift_lets; intro x; clear_value x)
      | (with_reducible refine ih _ _ _ ?_)
      | (with_reducible refine Fr2.out (State.busStore_frame ?_ rfl))
      | split

theorem State.moveRow_frame {src : Nat} {dst : Nat} {n : Nat} {W : Nat} {s₀ s₁ : State} (h₀ : Fr W s₀ s₁) (hw : 136322261975038 &&& W = 136322261975038) :
    Fr22 W s₀ (State.moveRow s₁ src dst n) := by
  refine Fr22.lift hw h₀ ?_
  have h : Fr 136322261975038 s₁ s₁ := Fr.refl
  clear h₀ hw
  first | rw [State.moveRow] | unfold State.moveRow
  repeat' first
    | with_reducible assumption
    | (with_reducible refine State.loadTagged_frame ?_ rfl)
    | (with_reducible refine State.storeTagged_frame ?_ rfl)
    | (with_reducible refine Fr.eq2 (by assumption) ?_)
    | split
    | (with_reducible refine Fr22.pair ?_)

theorem State.moveRows_frame {n : Nat} {x1 : List (Nat × Nat)} {x2 : Bool} {W : Nat} {s₀ s₁ : State} (h₀ : Fr W s₀ s₁) (hw : 136322261975038 &&& W = 136322261975038) :
    Fr2 W s₀ (State.moveRows n x1 x2 s₁) := by
  refine Fr2.lift hw h₀ ?_
  clear h₀ hw
  suffices main : ∀ (x1 : List (Nat × Nat)) (n : Nat) (x2 : Bool) (z : State), Fr 136322261975038 s₁ z → Fr2 136322261975038 s₁ (State.moveRows n x1 x2 z) from main x1 n x2 s₁ Fr.refl
  intro x1
  induction x1 with
  | nil =>
    intro n x2 z h
    first | rw [State.moveRows] | unfold State.moveRows
    repeat' first
      | with_reducible assumption
      | (with_reducible refine ih _ _ _ ?_)
      | (with_reducible refine State.moveRow_frame ?_ rfl)
      | (with_reducible refine Fr.eq22 (by assumption) ?_)
      | split
      | (with_reducible refine Fr2.pair ?_)
  | cons b bs ih =>
    intro n x2 z h
    first | rw [State.moveRows] | unfold State.moveRows
    repeat' first
      | with_reducible assumption
      | (with_reducible refine ih _ _ _ ?_)
      | (with_reducible refine State.moveRow_frame ?_ rfl)
      | (with_reducible refine Fr.eq22 (by assumption) ?_)
      | split
      | (with_reducible refine Fr2.pair ?_)

theorem copyRun_frame {d : List Byte} {W : Nat} {s₀ s₁ : State} (h₀ : Fr W s₀ s₁) (hw : 136322261975038 &&& W = 136322261975038) :
    Fr22 W s₀ (copyRun d s₁) := by
  refine Fr22.lift hw h₀ ?_
  have h : Fr 136322261975038 s₁ s₁ := Fr.refl
  clear h₀ hw
  first | rw [copyRun] | unfold copyRun
  repeat' first
    | with_reducible assumption
    | (with_reducible refine State.moveRows_frame ?_ rfl)
    | (with_reducible refine Fr.eq2 (by assumption) ?_)
    | split
    | (with_reducible refine Fr22.pair ?_)

theorem listRun_frame {c : Nat} {scatter : Bool} {d : List Byte} {W : Nat} {s₀ s₁ : State} (h₀ : Fr W s₀ s₁) (hw : 136322261975038 &&& W = 136322261975038) :
    Fr22 W s₀ (listRun c scatter d s₁) := by
  refine Fr22.lift hw h₀ ?_
  have h : Fr 136322261975038 s₁ s₁ := Fr.refl
  clear h₀ hw
  first | rw [listRun] | unfold listRun
  repeat' first
    | with_reducible assumption
    | (lift_lets; intro x; clear_value x)
    | (with_reducible refine State.moveRows_frame ?_ rfl)
    | (with_reducible refine Fr22.ite ?_ ?_)
    | (with_reducible refine Fr22.out (State.unitRead_frame ?_ rfl))
    | (with_reducible refine Fr.eq2 (by assumption) ?_)
    | split
    | (with_reducible refine Fr22.pair ?_)

theorem fillRun_frame {d : List Byte} {W : Nat} {s₀ s₁ : State} (h₀ : Fr W s₀ s₁) (hw : 136322261975038 &&& W = 136322261975038) :
    Fr22 W s₀ (fillRun d s₁) := by
  refine Fr22.lift hw h₀ ?_
  have h : Fr 136322261975038 s₁ s₁ := Fr.refl
  clear h₀ hw
  first | rw [fillRun] | unfold fillRun
  repeat' first
    | with_reducible assumption
    | (lift_lets; intro x; clear_value x)
    | (with_reducible refine State.storeTagged_frame ?_ rfl)
    | split
    | (with_reducible refine Fr22.pair ?_)

end Sys2Proof.Machine
end

