-- ==== Sys2Proof/Laws/FrameTis.lean ====
section
/-! SUPPORT. Frames of the functions of Machine/Tis.lean: which parts of the state each may change. -/

namespace Sys2Proof.Machine

theorem State.except_frame {c : Nat} {cause : Nat} {xaddr : W32} {W : Nat} {s₀ s₁ : State} (h₀ : Fr W s₀ s₁) (hw : 549755813888 &&& W = 549755813888) :
    Fr W s₀ (State.except s₁ c cause xaddr) := by
  refine Fr.lift hw h₀ ?_
  have h : Fr 549755813888 s₁ s₁ := Fr.refl
  clear h₀ hw
  first | rw [State.except] | unfold State.except
  repeat' first
    | with_reducible assumption
    | (with_reducible refine State.setTahr_frame ?_ rfl)

theorem State.setCoreMark_frame {c : Nat} {a : Nat} {m : Mark} {W : Nat} {s₀ s₁ : State} (h₀ : Fr W s₀ s₁) (hw : 8796093022208 &&& W = 8796093022208) :
    Fr W s₀ (State.setCoreMark s₁ c a m) := by
  refine Fr.lift hw h₀ ?_
  have h : Fr 8796093022208 s₁ s₁ := Fr.refl
  clear h₀ hw
  first | rw [State.setCoreMark] | unfold State.setCoreMark
  repeat' first
    | with_reducible assumption
    | (lift_lets; intro x; clear_value x)
    | (with_reducible refine Fr.flt ?_ rfl)

theorem State.coreEcc_frame {c : Nat} {a : Nat} {W : Nat} {s₀ s₁ : State} (h₀ : Fr W s₀ s₁) (hw : 96759174925346 &&& W = 96759174925346) :
    Fr2 W s₀ (State.coreEcc s₁ c a) := by
  refine Fr2.lift hw h₀ ?_
  have h : Fr 96759174925346 s₁ s₁ := Fr.refl
  clear h₀ hw
  first | rw [State.coreEcc] | unfold State.coreEcc
  repeat' first
    | with_reducible assumption
    | (with_reducible refine State.fault_frame ?_ rfl)
    | (with_reducible refine State.setCoreMark_frame ?_ rfl)
    | (with_reducible refine State.dropInjected_frame ?_ rfl)
    | split
    | (with_reducible refine Fr2.pair ?_)

theorem State.localWrite_frame {c : Nat} {a : Nat} {bs : List Byte} {W : Nat} {s₀ s₁ : State} (h₀ : Fr W s₀ s₁) (hw : 9345848836098 &&& W = 9345848836098) :
    Fr W s₀ (State.localWrite s₁ c a bs) := by
  refine Fr.lift hw h₀ ?_
  have h : Fr 9345848836098 s₁ s₁ := Fr.refl
  clear h₀ hw
  first | rw [State.localWrite] | unfold State.localWrite
  repeat' first
    | with_reducible assumption
    | (with_reducible refine State.takeInjection_frame ?_ rfl)
    | (with_reducible refine State.setCoreMark_frame ?_ rfl)
    | (with_reducible refine State.setTahr_frame ?_ rfl)
    | (with_reducible refine Fr.eq2 (by assumption) ?_)
    | split

theorem State.coreLoad_frame {c : Nat} {a : Nat} {n : Nat} {W : Nat} {s₀ s₁ : State} (h₀ : Fr W s₀ s₁) (hw : 96759242034490 &&& W = 96759242034490) :
    Fr22 W s₀ (State.coreLoad s₁ c a n) := by
  refine Fr22.lift hw h₀ ?_
  have h : Fr 96759242034490 s₁ s₁ := Fr.refl
  clear h₀ hw
  first | rw [State.coreLoad] | unfold State.coreLoad
  repeat' first
    | with_reducible assumption
    | (with_reducible refine regLoad_frame ?_ rfl)
    | (with_reducible refine State.busLoad_frame ?_ rfl)
    | (with_reducible refine State.coreEcc_frame ?_ rfl)
    | (with_reducible refine Fr.eq2 (by assumption) ?_)
    | (with_reducible refine Fr.eq22 (by assumption) ?_)
    | split
    | (with_reducible refine Fr22.pair ?_)

theorem State.coreStore_frame {c : Nat} {a : Nat} {bs : List Byte} {W : Nat} {s₀ s₁ : State} (h₀ : Fr W s₀ s₁) (hw : 136322261975038 &&& W = 136322261975038) :
    Fr2 W s₀ (State.coreStore s₁ c a bs) := by
  refine Fr2.lift hw h₀ ?_
  have h : Fr 136322261975038 s₁ s₁ := Fr.refl
  clear h₀ hw
  first | rw [State.coreStore] | unfold State.coreStore
  repeat' first
    | with_reducible assumption
    | (with_reducible refine regStore_frame ?_ rfl)
    | (with_reducible refine State.busStore_frame ?_ rfl)
    | (with_reducible refine State.localWrite_frame ?_ rfl)
    | (with_reducible refine Fr2.ite ?_ ?_)
    | (with_reducible refine Fr.eq2 (by assumption) ?_)
    | split
    | (with_reducible refine Fr2.pair ?_)

theorem State.jump_frame {c : Nat} {target : W32} {link : Option (BitVec 5)} {W : Nat} {s₀ s₁ : State} (h₀ : Fr W s₀ s₁) (hw : 549755813888 &&& W = 549755813888) :
    Fr W s₀ (State.jump s₁ c target link) := by
  refine Fr.lift hw h₀ ?_
  have h : Fr 549755813888 s₁ s₁ := Fr.refl
  clear h₀ hw
  first | rw [State.jump] | unfold State.jump
  repeat' first
    | with_reducible assumption
    | (intro x; clear_value x)
    | (lift_lets; intro x; clear_value x)
    | (with_reducible refine State.except_frame ?_ rfl)
    | (with_reducible refine State.setTahr_frame ?_ rfl)
    | (with_reducible refine Fr.ite ?_ ?_)

end Sys2Proof.Machine
end

