-- ==== Sys2Proof/Laws/FrameStep.lean ====
section
/-! SUPPORT. Frames of the functions of Machine/Step.lean: which parts of the state each may change. -/

namespace Sys2Proof.Machine

theorem State.withPending_frame {q : List Instr} {W : Nat} {s₀ s₁ : State} (h₀ : Fr W s₀ s₁) (hw : 1 &&& W = 1) :
    Fr W s₀ (State.withPending s₁ q) := by
  refine Fr.lift hw h₀ ?_
  have h : Fr 1 s₁ s₁ := Fr.refl
  clear h₀ hw
  first | rw [State.withPending] | unfold State.withPending
  repeat' first
    | with_reducible assumption
    | (with_reducible refine Fr.pending ?_ rfl)

end Sys2Proof.Machine
end

