-- ==== Sys2Proof/Laws/ExecClusters.lean ====
section
/-! SUPPORT. Frames of the commands of Machine/Clusters.lean: each answers a next state and may change only the parts of its mask. -/

namespace Sys2Proof.Machine

theorem execCluCmdBaseWrite_frame {q : Requester} {c : Fin 1024} {hi : Bool} {v : W32} {s₁ : State} : FrR 96759171058746 s₁ (execCluCmdBaseWrite q c hi v s₁) := by
  have h : Fr 96759171058746 s₁ s₁ := Fr.refl
  first | rw [execCluCmdBaseWrite] | unfold execCluCmdBaseWrite
  repeat' first
    | with_reducible assumption
    | (with_reducible refine FrR.ok ?_)
    | (with_reducible refine writeCluCmdBase_frame ?_ rfl)

theorem execCluCmplBaseWrite_frame {q : Requester} {c : Fin 1024} {hi : Bool} {v : W32} {s₁ : State} : FrR 2 s₁ (execCluCmplBaseWrite q c hi v s₁) := by
  have h : Fr 2 s₁ s₁ := Fr.refl
  first | rw [execCluCmplBaseWrite] | unfold execCluCmplBaseWrite
  repeat' first
    | with_reducible assumption
    | (with_reducible refine FrR.ok ?_)
    | (with_reducible refine writeCluCmplBase_frame ?_ rfl)

theorem execCmdEnSet_frame {q : Requester} {c : Fin 1024} {v : W32} {s₁ : State} : FrR 96759170993210 s₁ (execCmdEnSet q c v s₁) := by
  have h : Fr 96759170993210 s₁ s₁ := Fr.refl
  first | rw [execCmdEnSet] | unfold execCmdEnSet
  repeat' first
    | with_reducible assumption
    | (with_reducible refine FrR.ok ?_)
    | (with_reducible refine writeCluCtl_frame ?_ rfl)

theorem execCmdEnClear_frame {q : Requester} {c : Fin 1024} {v : W32} {s₁ : State} : FrR 96759170993210 s₁ (execCmdEnClear q c v s₁) := by
  have h : Fr 96759170993210 s₁ s₁ := Fr.refl
  first | rw [execCmdEnClear] | unfold execCmdEnClear
  repeat' first
    | with_reducible assumption
    | (with_reducible refine FrR.ok ?_)
    | (with_reducible refine writeCluCtl_frame ?_ rfl)

theorem execCmplEnSet_frame {q : Requester} {c : Fin 1024} {v : W32} {s₁ : State} : FrR 96759170993210 s₁ (execCmplEnSet q c v s₁) := by
  have h : Fr 96759170993210 s₁ s₁ := Fr.refl
  first | rw [execCmplEnSet] | unfold execCmplEnSet
  repeat' first
    | with_reducible assumption
    | (with_reducible refine FrR.ok ?_)
    | (with_reducible refine writeCluCtl_frame ?_ rfl)

theorem execCmplEnClear_frame {q : Requester} {c : Fin 1024} {v : W32} {s₁ : State} : FrR 96759170993210 s₁ (execCmplEnClear q c v s₁) := by
  have h : Fr 96759170993210 s₁ s₁ := Fr.refl
  first | rw [execCmplEnClear] | unfold execCmplEnClear
  repeat' first
    | with_reducible assumption
    | (with_reducible refine FrR.ok ?_)
    | (with_reducible refine writeCluCtl_frame ?_ rfl)

theorem execCluDb_frame {q : Requester} {c : Fin 1024} {v : W32} {s₁ : State} : FrR 96759171189818 s₁ (execCluDb q c v s₁) := by
  have h : Fr 96759171189818 s₁ s₁ := Fr.refl
  first | rw [execCluDb] | unfold execCluDb
  repeat' first
    | with_reducible assumption
    | (with_reducible refine FrR.ok ?_)
    | (with_reducible refine writeCluDb_frame ?_ rfl)

theorem execCluCmplHeadWrite_frame {q : Requester} {c : Fin 1024} {v : W32} {s₁ : State} : FrR 2 s₁ (execCluCmplHeadWrite q c v s₁) := by
  have h : Fr 2 s₁ s₁ := Fr.refl
  first | rw [execCluCmplHeadWrite] | unfold execCluCmplHeadWrite
  repeat' first
    | with_reducible assumption
    | (with_reducible refine FrR.ok ?_)
    | (with_reducible refine writeCluCmplHead_frame ?_ rfl)

theorem execHaltedResume_frame {q : Requester} {c : Fin 1024} {v : W32} {s₁ : State} : FrR 96759171058746 s₁ (execHaltedResume q c v s₁) := by
  have h : Fr 96759171058746 s₁ s₁ := Fr.refl
  first | rw [execHaltedResume] | unfold execHaltedResume
  repeat' first
    | with_reducible assumption
    | (with_reducible refine FrR.ok ?_)
    | (with_reducible refine writeCluErr_frame ?_ rfl)

theorem execTargetWrite_frame {q : Requester} {c : Fin 1024} {v : W32} {s₁ : State} : FrR 96759171124282 s₁ (execTargetWrite q c v s₁) := by
  have h : Fr 96759171124282 s₁ s₁ := Fr.refl
  first | rw [execTargetWrite] | unfold execTargetWrite
  repeat' first
    | with_reducible assumption
    | (with_reducible refine FrR.ok ?_)
    | (with_reducible refine writeCluPctl_frame ?_ rfl)

theorem execHazeEntry_frame {c : Fin 1024} {s₁ : State} : FrR 96759170993210 s₁ (execHazeEntry c s₁) := by
  have h : Fr 96759170993210 s₁ s₁ := Fr.refl
  first | rw [execHazeEntry] | unfold execHazeEntry
  repeat' first
    | with_reducible assumption
    | (with_reducible refine FrR.ok ?_)
    | (with_reducible refine FrR.ite ?_ ?_)
    | (with_reducible refine State.sf_frame ?_ rfl)

theorem execOvercastEntry_frame {c : Fin 1024} {s₁ : State} : FrR 96759170993210 s₁ (execOvercastEntry c s₁) := by
  have h : Fr 96759170993210 s₁ s₁ := Fr.refl
  first | rw [execOvercastEntry] | unfold execOvercastEntry
  repeat' first
    | with_reducible assumption
    | (with_reducible refine FrR.ok ?_)
    | (with_reducible refine FrR.ite ?_ ?_)
    | (with_reducible refine State.sf_frame ?_ rfl)

theorem execOvercastEntryDone_frame {c : Fin 1024} {s₁ : State} : FrR 96759171189818 s₁ (execOvercastEntryDone c s₁) := by
  have h : Fr 96759171189818 s₁ s₁ := Fr.refl
  first | rw [execOvercastEntryDone] | unfold execOvercastEntryDone
  repeat' first
    | with_reducible assumption
    | (with_reducible refine FrR.ok ?_)
    | (with_reducible refine FrR.ite ?_ ?_)
    | (with_reducible refine State.refetch_frame ?_ rfl)
    | (with_reducible refine State.takeHeld_frame ?_ rfl)
    | (with_reducible refine State.sf_frame ?_ rfl)

theorem execOvercastWake_frame {q : Requester} {c : Fin 1024} {cause : WakeCause} {s₁ : State} : FrR 96759171189818 s₁ (execOvercastWake q c cause s₁) := by
  have h : Fr 96759171189818 s₁ s₁ := Fr.refl
  first | rw [execOvercastWake] | unfold execOvercastWake
  repeat' first
    | with_reducible assumption
    | (with_reducible refine FrR.ok ?_)
    | (with_reducible refine FrR.ite ?_ ?_)
    | (with_reducible refine State.doorbell_frame ?_ rfl)
    | (with_reducible refine State.requestTarget_frame ?_ rfl)
    | split

theorem execOvercastWakeDone_frame {c : Fin 1024} {s₁ : State} : FrR 96759171124542 s₁ (execOvercastWakeDone c s₁) := by
  have h : Fr 96759171124542 s₁ s₁ := Fr.refl
  first | rw [execOvercastWakeDone] | unfold execOvercastWakeDone
  repeat' first
    | with_reducible assumption
    | (with_reducible refine State.wakeDone_frame ?_ rfl)
    | (with_reducible refine FrR.ok ?_)
    | (with_reducible refine FrR.ite ?_ ?_)
    | (with_reducible refine State.loadBanks_frame ?_ rfl)
    | (with_reducible refine State.zeroBanks_frame ?_ rfl)
    | (with_reducible refine State.takeHeld_frame ?_ rfl)
    | (with_reducible refine State.sf_frame ?_ rfl)

end Sys2Proof.Machine
end

