-- ==== Sys2Proof/Laws/ExecBarriers.lean ====
section
/-! SUPPORT. Frames of the commands of Machine/Barriers.lean: each answers a next state and may change only the parts of its mask. -/

namespace Sys2Proof.Machine

theorem execFlagSet_frame {f : FlagName} {m : FlagMeet} {s₁ : State} : FrR 96759175187962 s₁ (execFlagSet f m s₁) := by
  have h : Fr 96759175187962 s₁ s₁ := Fr.refl
  first | rw [execFlagSet] | unfold execFlagSet
  repeat' first
    | with_reducible assumption
    | (with_reducible refine FrR.ok ?_)
    | (with_reducible refine State.waitsSeen_frame ?_ rfl)
    | (with_reducible refine State.onFlag_frame ?_ rfl)

theorem execFlagClear_frame {f : FlagName} {m : FlagMeet} {s₁ : State} : FrR 96759175187962 s₁ (execFlagClear f m s₁) := by
  have h : Fr 96759175187962 s₁ s₁ := Fr.refl
  first | rw [execFlagClear] | unfold execFlagClear
  repeat' first
    | with_reducible assumption
    | (with_reducible refine FrR.ok ?_)
    | (with_reducible refine State.waitsSeen_frame ?_ rfl)
    | (with_reducible refine State.onFlag_frame ?_ rfl)

theorem execFlagWait_frame {who : W16} {f : FlagName} {m : FlagMeet} {s₁ : State} : FrR 96759175187962 s₁ (execFlagWait who f m s₁) := by
  have h : Fr 96759175187962 s₁ s₁ := Fr.refl
  first | rw [execFlagWait] | unfold execFlagWait
  repeat' first
    | with_reducible assumption
    | (with_reducible refine FrR.ok ?_)
    | (with_reducible refine State.onFlag_frame ?_ rfl)

theorem execFlagWaitAndClear_frame {who : W16} {f : FlagName} {m : FlagMeet} {s₁ : State} : FrR 96759175187962 s₁ (execFlagWaitAndClear who f m s₁) := by
  have h : Fr 96759175187962 s₁ s₁ := Fr.refl
  first | rw [execFlagWaitAndClear] | unfold execFlagWaitAndClear
  repeat' first
    | with_reducible assumption
    | (with_reducible refine FrR.ok ?_)
    | (with_reducible refine State.waitsSeen_frame ?_ rfl)
    | (with_reducible refine State.onFlag_frame ?_ rfl)

theorem execFlagClearOverset_frame {f : FlagName} {m : FlagMeet} {s₁ : State} : FrR 96759175187962 s₁ (execFlagClearOverset f m s₁) := by
  have h : Fr 96759175187962 s₁ s₁ := Fr.refl
  first | rw [execFlagClearOverset] | unfold execFlagClearOverset
  repeat' first
    | with_reducible assumption
    | (with_reducible refine FrR.ok ?_)
    | (with_reducible refine State.onFlag_frame ?_ rfl)

theorem execFlagTranslationFetch_frame {cache : Fin 9} {ctx : BitVec 12} {vgroup : BitVec 18} {s₁ : State} : FrR 96759175187514 s₁ (execFlagTranslationFetch cache ctx vgroup s₁) := by
  have h : Fr 96759175187514 s₁ s₁ := Fr.refl
  first | rw [execFlagTranslationFetch] | unfold execFlagTranslationFetch
  repeat' first
    | with_reducible assumption
    | (with_reducible refine FrR.ok ?_)
    | (with_reducible refine Fr2.out (State.lookupXlat_frame ?_ rfl))

theorem execFlgEnSet_frame {q : Requester} {v : W32} {s₁ : State} : FrR 2 s₁ (execFlgEnSet q v s₁) := by
  have h : Fr 2 s₁ s₁ := Fr.refl
  first | rw [execFlgEnSet] | unfold execFlgEnSet
  repeat' first
    | with_reducible assumption
    | (with_reducible refine FrR.ok ?_)
    | (with_reducible refine writeFlgCtl_frame ?_ rfl)

theorem execFlgEnClear_frame {q : Requester} {v : W32} {s₁ : State} : FrR 2 s₁ (execFlgEnClear q v s₁) := by
  have h : Fr 2 s₁ s₁ := Fr.refl
  first | rw [execFlgEnClear] | unfold execFlgEnClear
  repeat' first
    | with_reducible assumption
    | (with_reducible refine FrR.ok ?_)
    | (with_reducible refine writeFlgCtl_frame ?_ rfl)

theorem execFlgInval_frame {q : Requester} {v : W32} {s₁ : State} : FrR 262146 s₁ (execFlgInval q v s₁) := by
  have h : Fr 262146 s₁ s₁ := Fr.refl
  first | rw [execFlgInval] | unfold execFlgInval
  repeat' first
    | with_reducible assumption
    | (with_reducible refine FrR.ok ?_)
    | (with_reducible refine writeFlgInval_frame ?_ rfl)

theorem execFlgInvalDone_frame {s₁ : State} : FrR 262146 s₁ (execFlgInvalDone s₁) := by
  have h : Fr 262146 s₁ s₁ := Fr.refl
  first | rw [execFlgInvalDone] | unfold execFlgInvalDone
  repeat' first
    | with_reducible assumption
    | (with_reducible refine FrR.ok ?_)
    | (lift_lets; intro x; clear_value x)
    | (with_reducible refine State.setXlatCache_frame ?_ rfl)
    | (with_reducible refine State.sf_frame ?_ rfl)
    | (with_reducible refine Fr.foldl (fun z a h => ?_) ?_)
    | split
    | (with_reducible refine Fr.flags ?_ rfl)

theorem execFlgSignalSet_frame {q : Requester} {p : BitVec 18} {s₁ : State} : FrR 96759175187962 s₁ (execFlgSignalSet q p s₁) := by
  have h : Fr 96759175187962 s₁ s₁ := Fr.refl
  first | rw [execFlgSignalSet] | unfold execFlgSignalSet
  repeat' first
    | with_reducible assumption
    | (with_reducible refine FrR.ok ?_)
    | (with_reducible refine writeFlgSignal_frame ?_ rfl)

theorem execFlgSignalClear_frame {q : Requester} {p : BitVec 18} {s₁ : State} : FrR 96759175187962 s₁ (execFlgSignalClear q p s₁) := by
  have h : Fr 96759175187962 s₁ s₁ := Fr.refl
  first | rw [execFlgSignalClear] | unfold execFlgSignalClear
  repeat' first
    | with_reducible assumption
    | (with_reducible refine FrR.ok ?_)
    | (with_reducible refine writeFlgSignal_frame ?_ rfl)

theorem execFlgSignalClearOverset_frame {q : Requester} {p : BitVec 18} {s₁ : State} : FrR 96759175187962 s₁ (execFlgSignalClearOverset q p s₁) := by
  have h : Fr 96759175187962 s₁ s₁ := Fr.refl
  first | rw [execFlgSignalClearOverset] | unfold execFlgSignalClearOverset
  repeat' first
    | with_reducible assumption
    | (with_reducible refine FrR.ok ?_)
    | (with_reducible refine writeFlgSignal_frame ?_ rfl)

theorem execBarrierEntry_frame {b : Fin 4096} {gap : Nat} {s₁ : State} : FrR 96759175253498 s₁ (execBarrierEntry b gap s₁) := by
  have h : Fr 96759175253498 s₁ s₁ := Fr.refl
  first | rw [execBarrierEntry] | unfold execBarrierEntry
  repeat' first
    | with_reducible assumption
    | (with_reducible refine State.closeRound_frame ?_ rfl)
    | (with_reducible refine FrR.ok ?_)
    | (with_reducible refine FrR.ite ?_ ?_)
    | (with_reducible refine State.draw_frame ?_ rfl)
    | (with_reducible refine State.setBarEntries_frame ?_ rfl)
    | (with_reducible refine State.setBarCount_frame ?_ rfl)
    | (with_reducible refine Fr.eq2 (by assumption) ?_)
    | split

theorem execRoundClose_frame {b : Fin 4096} {s₁ : State} : FrR 96759175253498 s₁ (execRoundClose b s₁) := by
  have h : Fr 96759175253498 s₁ s₁ := Fr.refl
  first | rw [execRoundClose] | unfold execRoundClose
  repeat' first
    | with_reducible assumption
    | (with_reducible refine State.closeRound_frame ?_ rfl)
    | (with_reducible refine FrR.ok ?_)
    | (with_reducible refine FrR.ite ?_ ?_)
    | (with_reducible refine State.endBarEnter_frame ?_ rfl)
    | (with_reducible refine State.setBarEntries_frame ?_ rfl)
    | (with_reducible refine State.setVirtual_frame ?_ rfl)
    | (with_reducible refine State.setBarCount_frame ?_ rfl)
    | (with_reducible refine State.sf_frame ?_ rfl)
    | (with_reducible refine Fr.foldl (fun z a h => ?_) ?_)
    | (with_reducible refine Fr.eq2 (by assumption) ?_)
    | split

theorem execBarEnSet_frame {q : Requester} {b : Fin 4096} {v : W32} {s₁ : State} : FrR 96759175253050 s₁ (execBarEnSet q b v s₁) := by
  have h : Fr 96759175253050 s₁ s₁ := Fr.refl
  first | rw [execBarEnSet] | unfold execBarEnSet
  repeat' first
    | with_reducible assumption
    | (with_reducible refine FrR.ok ?_)
    | (with_reducible refine writeBarCfg_frame ?_ rfl)

theorem execBarEnClear_frame {q : Requester} {b : Fin 4096} {v : W32} {s₁ : State} : FrR 96759175253050 s₁ (execBarEnClear q b v s₁) := by
  have h : Fr 96759175253050 s₁ s₁ := Fr.refl
  first | rw [execBarEnClear] | unfold execBarEnClear
  repeat' first
    | with_reducible assumption
    | (with_reducible refine FrR.ok ?_)
    | (with_reducible refine writeBarCfg_frame ?_ rfl)

end Sys2Proof.Machine
end

