-- ==== Sys2Proof/Laws/ExecHbm.lean ====
section
/-! SUPPORT. Frames of the commands of Machine/Hbm.lean: each answers a next state and may change only the parts of its mask. -/

namespace Sys2Proof.Machine

theorem execHbmRead_frame {src : HbmSource} {addr : BitVec 38} {more : Bool} {gap : Nat} {s₁ : State} : FrR 131943547038966 s₁ (execHbmRead src addr more gap s₁) := by
  have h : Fr 131943547038966 s₁ s₁ := Fr.refl
  first | rw [execHbmRead] | unfold execHbmRead
  repeat' first
    | with_reducible assumption
    | (with_reducible refine FrR.ok ?_)
    | (with_reducible refine FrR.ite ?_ ?_)
    | (intro x; refine_lift have hb : ∀ y, y = x → Fr 131943547038966 s₁ y := ?_; ?_; all_goals first | (have hx := hb x rfl; clear hb; clear_value x) | (intro y hy; unfold x at hy; rw [hy]; clear hy y))
    | (intro x; clear_value x)
    | (lift_lets; intro x; refine_lift have hb : ∀ y, y = x → Fr 131943547038966 s₁ y := ?_; ?_; all_goals first | (have hx := hb x rfl; clear hb; clear_value x) | (intro y hy; unfold x at hy; rw [hy]; clear hy y))
    | (lift_lets; intro x; clear_value x)
    | (with_reducible refine State.request_frame ?_ rfl)
    | (with_reducible refine Fr.ite ?_ ?_)
    | (with_reducible exact Fr2.out (by assumption))
    | dsimp only
    | split

theorem execHbmWrite_frame {src : HbmSource} {addr : BitVec 38} {data : List Byte} {poison : Bool} {more : Bool} {gap : Nat} {s₁ : State} : FrR 131943547038966 s₁ (execHbmWrite src addr data poison more gap s₁) := by
  have h : Fr 131943547038966 s₁ s₁ := Fr.refl
  first | rw [execHbmWrite] | unfold execHbmWrite
  repeat' first
    | with_reducible assumption
    | (with_reducible refine FrR.ok ?_)
    | (with_reducible refine FrR.ite ?_ ?_)
    | (intro x; refine_lift have hb : ∀ y, y = x → Fr 131943547038966 s₁ y := ?_; ?_; all_goals first | (have hx := hb x rfl; clear hb; clear_value x) | (intro y hy; unfold x at hy; rw [hy]; clear hy y))
    | (intro x; clear_value x)
    | (lift_lets; intro x; refine_lift have hb : ∀ y, y = x → Fr 131943547038966 s₁ y := ?_; ?_; all_goals first | (have hx := hb x rfl; clear hb; clear_value x) | (intro y hy; unfold x at hy; rw [hy]; clear hy y))
    | (lift_lets; intro x; clear_value x)
    | (with_reducible refine State.request_frame ?_ rfl)
    | (with_reducible refine Fr.ite ?_ ?_)
    | (with_reducible exact Fr2.out (by assumption))
    | dsimp only
    | split

theorem execScrubRead_frame {g : Fin 192} {more : Bool} {gap : Nat} {s₁ : State} : FrR 131943547038966 s₁ (execScrubRead g more gap s₁) := by
  have h : Fr 131943547038966 s₁ s₁ := Fr.refl
  first | rw [execScrubRead] | unfold execScrubRead
  repeat' first
    | with_reducible assumption
    | (with_reducible refine FrR.ok ?_)
    | (with_reducible refine FrR.ite ?_ ?_)
    | (intro x; refine_lift have hb : ∀ y, y = x → Fr 131943547038966 s₁ y := ?_; ?_; all_goals first | (have hx := hb x rfl; clear hb; clear_value x) | (intro y hy; unfold x at hy; rw [hy]; clear hy y))
    | (intro x; clear_value x)
    | (lift_lets; intro x; refine_lift have hb : ∀ y, y = x → Fr 131943547038966 s₁ y := ?_; ?_; all_goals first | (have hx := hb x rfl; clear hb; clear_value x) | (intro y hy; unfold x at hy; rw [hy]; clear hy y))
    | (lift_lets; intro x; clear_value x)
    | (with_reducible refine State.setChan_frame ?_ rfl)
    | (with_reducible refine State.request_frame ?_ rfl)
    | (with_reducible refine Fr.ite ?_ ?_)
    | (with_reducible exact Fr2.out (by assumption))
    | dsimp only
    | split

theorem execRefreshDue_frame {g : Fin 192} {inGap : Bool} {s₁ : State} : FrR 4194304 s₁ (execRefreshDue g inGap s₁) := by
  have h : Fr 4194304 s₁ s₁ := Fr.refl
  first | rw [execRefreshDue] | unfold execRefreshDue
  repeat' first
    | with_reducible assumption
    | (with_reducible refine FrR.ok ?_)
    | (with_reducible refine FrR.ite ?_ ?_)
    | (lift_lets; intro x; clear_value x)
    | (with_reducible refine State.setChan_frame ?_ rfl)

theorem execAllBankRefresh_frame {g : Fin 192} {s₁ : State} : FrR 4194304 s₁ (execAllBankRefresh g s₁) := by
  have h : Fr 4194304 s₁ s₁ := Fr.refl
  first | rw [execAllBankRefresh] | unfold execAllBankRefresh
  repeat' first
    | with_reducible assumption
    | (with_reducible refine FrR.ok ?_)
    | (with_reducible refine FrR.ite ?_ ?_)
    | (lift_lets; intro x; clear_value x)
    | (with_reducible refine State.setChan_frame ?_ rfl)

theorem execHbmTempUpdate_frame {stack : Fin 6} {celsius : Byte} {s₁ : State} : FrR 96759174925346 s₁ (execHbmTempUpdate stack celsius s₁) := by
  have h : Fr 96759174925346 s₁ s₁ := Fr.refl
  first | rw [execHbmTempUpdate] | unfold execHbmTempUpdate
  repeat' first
    | with_reducible assumption
    | (with_reducible refine FrR.ok ?_)
    | (with_reducible refine FrR.ite ?_ ?_)
    | (intro x; clear_value x)
    | (lift_lets; intro x; clear_value x)
    | (with_reducible refine State.fault_frame ?_ rfl)
    | (with_reducible refine State.sf_frame ?_ rfl)
    | (with_reducible refine State.setTemp_frame ?_ rfl)
    | (with_reducible refine Fr.ite ?_ ?_)
    | split
    | dsimp only
    | (with_reducible refine Fr.hbm ?_ rfl)

theorem execSelfRefreshEntry_frame {stack : Fin 6} {s₁ : State} : FrR 4194306 s₁ (execSelfRefreshEntry stack s₁) := by
  have h : Fr 4194306 s₁ s₁ := Fr.refl
  first | rw [execSelfRefreshEntry] | unfold execSelfRefreshEntry
  repeat' first
    | with_reducible assumption
    | (with_reducible refine FrR.ok ?_)
    | (with_reducible refine FrR.ite ?_ ?_)
    | (with_reducible refine State.sf_frame ?_ rfl)
    | (with_reducible refine Fr.hbm ?_ rfl)

theorem execSrReqClear_frame {q : Requester} {v : W32} {s₁ : State} : FrR 4194306 s₁ (execSrReqClear q v s₁) := by
  have h : Fr 4194306 s₁ s₁ := Fr.refl
  first | rw [execSrReqClear] | unfold execSrReqClear
  repeat' first
    | with_reducible assumption
    | (with_reducible refine FrR.ok ?_)
    | (with_reducible refine writeHbmCtl_frame ?_ rfl)

theorem execHbmTrainingDone_frame {stack : Fin 6} {failed : Option (Fin 8)} {s₁ : State} : FrR 96759174925346 s₁ (execHbmTrainingDone stack failed s₁) := by
  have h : Fr 96759174925346 s₁ s₁ := Fr.refl
  first | rw [execHbmTrainingDone] | unfold execHbmTrainingDone
  repeat' first
    | with_reducible assumption
    | (with_reducible refine FrR.ok ?_)
    | (with_reducible refine FrR.ite ?_ ?_)
    | (intro x; clear_value x)
    | (lift_lets; intro x; refine_lift have hb : ∀ y, y = x → Fr 96759174925346 s₁ y := ?_; ?_; all_goals first | (have hx := hb x rfl; clear hb; clear_value x) | (intro y hy; unfold x at hy; rw [hy]; clear hy y))
    | (with_reducible refine State.fault_frame ?_ rfl)
    | (with_reducible refine State.sf_frame ?_ rfl)
    | split
    | (with_reducible refine Fr.hbm ?_ rfl)

theorem execHbmReady_frame {s₁ : State} : FrR 131943555427574 s₁ (execHbmReady s₁) := by
  have h : Fr 131943555427574 s₁ s₁ := Fr.refl
  first | rw [execHbmReady] | unfold execHbmReady
  repeat' first
    | with_reducible assumption
    | (with_reducible refine State.serveAll_frame ?_ rfl)
    | (with_reducible refine State.linkUp_frame ?_ rfl)
    | (with_reducible refine FrR.ok ?_)
    | (with_reducible refine FrR.ite ?_ ?_)
    | (intro x; clear_value x)
    | (lift_lets; intro x; refine_lift have hb : ∀ y, y = x → Fr 131943555427574 s₁ y := ?_; ?_; all_goals first | (have hx := hb x rfl; clear hb; clear_value x) | (intro y hy; unfold x at hy; rw [hy]; clear hy y))
    | (with_reducible refine State.sf_frame ?_ rfl)
    | (refine Fr.upd_mem_lineMarks ?_ rfl rfl (fun hs => by first | exact Tab.wf_set _ _ (hs.2.1) | exact Tab.wf_filter _ (hs.2.1)))
    | (with_reducible refine Fr.host ?_ rfl)

theorem execArbWindowStart_frame {g : Fin 192} {s₁ : State} : FrR 131943547038966 s₁ (execArbWindowStart g s₁) := by
  have h : Fr 131943547038966 s₁ s₁ := Fr.refl
  first | rw [execArbWindowStart] | unfold execArbWindowStart
  repeat' first
    | with_reducible assumption
    | (with_reducible refine State.lfsrAdvance_frame ?_ rfl)
    | (with_reducible refine State.windowStart_frame ?_ rfl)
    | (with_reducible refine State.serve_frame ?_ rfl)
    | (with_reducible refine FrR.ok ?_)
    | (with_reducible refine FrR.ite ?_ ?_)
    | (intro x; clear_value x)
    | (lift_lets; intro x; clear_value x)
    | (with_reducible refine State.setChan_frame ?_ rfl)
    | (with_reducible refine State.sf_frame ?_ rfl)
    | split
    | (with_reducible refine Fr.hbm ?_ rfl)

theorem execArbCommit_frame {q : Requester} {v : W32} {s₁ : State} : FrR 4194306 s₁ (execArbCommit q v s₁) := by
  have h : Fr 4194306 s₁ s₁ := Fr.refl
  first | rw [execArbCommit] | unfold execArbCommit
  repeat' first
    | with_reducible assumption
    | (with_reducible refine FrR.ok ?_)
    | (with_reducible refine writeArbCommit_frame ?_ rfl)

theorem execArbModeLoad_frame {q : Requester} {v : W32} {s₁ : State} : FrR 2 s₁ (execArbModeLoad q v s₁) := by
  have h : Fr 2 s₁ s₁ := Fr.refl
  first | rw [execArbModeLoad] | unfold execArbModeLoad
  repeat' first
    | with_reducible assumption
    | (with_reducible refine FrR.ok ?_)
    | (with_reducible refine writeArbMode_frame ?_ rfl)

theorem execArbFreeze_frame {q : Requester} {v : W32} {s₁ : State} : FrR 131943547038966 s₁ (execArbFreeze q v s₁) := by
  have h : Fr 131943547038966 s₁ s₁ := Fr.refl
  first | rw [execArbFreeze] | unfold execArbFreeze
  repeat' first
    | with_reducible assumption
    | (with_reducible refine FrR.ok ?_)
    | (with_reducible refine writeArbFreeze_frame ?_ rfl)

theorem execArbUnfreeze_frame {q : Requester} {v : W32} {s₁ : State} : FrR 131943547038966 s₁ (execArbUnfreeze q v s₁) := by
  have h : Fr 131943547038966 s₁ s₁ := Fr.refl
  first | rw [execArbUnfreeze] | unfold execArbUnfreeze
  repeat' first
    | with_reducible assumption
    | (with_reducible refine FrR.ok ?_)
    | (with_reducible refine writeArbFreeze_frame ?_ rfl)

theorem execArbChannelDrained_frame {g : Fin 192} {s₁ : State} : FrR 4194306 s₁ (execArbChannelDrained g s₁) := by
  have h : Fr 4194306 s₁ s₁ := Fr.refl
  first | rw [execArbChannelDrained] | unfold execArbChannelDrained
  repeat' first
    | with_reducible assumption
    | (with_reducible refine FrR.ok ?_)
    | (with_reducible refine FrR.ite ?_ ?_)
    | (lift_lets; intro x; clear_value x)
    | (with_reducible refine State.setChan_frame ?_ rfl)
    | (with_reducible refine State.freezeShow_frame ?_ rfl)

end Sys2Proof.Machine
end

