-- ==== Sys2Proof/Laws/ExecStorage.lean ====
section
/-! SUPPORT. Frames of the commands of Machine/Storage.lean: each answers a next state and may change only the parts of its mask. -/

namespace Sys2Proof.Machine

theorem execSubmissionDoorbell_frame {i : Fin 2048} {ix : Fin 64} {v : W32} {s₁ : State} : FrR 6979324962 s₁ (execSubmissionDoorbell i ix v s₁) := by
  have h : Fr 6979324962 s₁ s₁ := Fr.refl
  first | rw [execSubmissionDoorbell] | unfold execSubmissionDoorbell
  repeat' first
    | with_reducible assumption
    | (with_reducible refine FrR.ok ?_)
    | (with_reducible refine State.submissionDoorbell_frame ?_ rfl)

theorem execCompletionDoorbell_frame {i : Fin 2048} {ix : Fin 64} {v : W32} {s₁ : State} : FrR 4831838208 s₁ (execCompletionDoorbell i ix v s₁) := by
  have h : Fr 4831838208 s₁ s₁ := Fr.refl
  first | rw [execCompletionDoorbell] | unfold execCompletionDoorbell
  repeat' first
    | with_reducible assumption
    | (with_reducible refine FrR.ok ?_)
    | (with_reducible refine State.completionDoorbell_frame ?_ rfl)

theorem execCommandFetch_frame {gap : Nat} {out : DmaOut} {s₁ : State} : FrR 131948378852606 s₁ (execCommandFetch gap out s₁) := by
  have h : Fr 131948378852606 s₁ s₁ := Fr.refl
  first | rw [execCommandFetch] | unfold execCommandFetch
  repeat' first
    | with_reducible assumption
    | (with_reducible refine FrR.ok ?_)
    | (with_reducible refine FrR.ite ?_ ?_)
    | (with_reducible refine State.stoTake_frame ?_ rfl)
    | (with_reducible refine State.draw_frame ?_ rfl)
    | (with_reducible refine State.stoFreeze_frame ?_ rfl)
    | (with_reducible refine Fr2.out (State.stoLog_frame ?_ rfl))
    | (with_reducible refine Fr.eq2 (by assumption) ?_)
    | split

theorem execStorageWrite_frame {id : Nat} {out : DmaOut} {s₁ : State} : FrR 131948378852670 s₁ (execStorageWrite id out s₁) := by
  have h : Fr 131948378852670 s₁ s₁ := Fr.refl
  first | rw [execStorageWrite] | unfold execStorageWrite
  repeat' first
    | with_reducible assumption
    | (with_reducible refine FrR.ok ?_)
    | (intro x; clear_value x)
    | (lift_lets; intro x; clear_value x)
    | (with_reducible refine State.stoStart_frame ?_ (fun z c o h => ?_) rfl)
    | (with_reducible refine State.stoMoved_frame ?_ rfl)
    | (with_reducible refine State.stoIssue_frame ?_ rfl)
    | (with_reducible refine Fr.ite ?_ ?_)
    | split

theorem execStorageRead_frame {id : Nat} {out : DmaOut} {s₁ : State} : FrR 131948378852670 s₁ (execStorageRead id out s₁) := by
  have h : Fr 131948378852670 s₁ s₁ := Fr.refl
  first | rw [execStorageRead] | unfold execStorageRead
  repeat' first
    | with_reducible assumption
    | (with_reducible refine FrR.ok ?_)
    | (with_reducible refine State.stoStart_frame ?_ (fun z c o h => ?_) rfl)
    | (with_reducible refine State.stoMoved_frame ?_ rfl)
    | (with_reducible refine State.stoIssue_frame ?_ rfl)
    | split

theorem execWriteZeroes_frame {id : Nat} {s₁ : State} : FrR 131948378852670 s₁ (execWriteZeroes id s₁) := by
  have h : Fr 131948378852670 s₁ s₁ := Fr.refl
  first | rw [execWriteZeroes] | unfold execWriteZeroes
  repeat' first
    | with_reducible assumption
    | (with_reducible refine FrR.ok ?_)
    | (with_reducible refine State.stoStart_frame ?_ (fun z c o h => ?_) rfl)
    | (with_reducible refine State.stoIssue_frame ?_ rfl)
    | split

theorem execDeallocate_frame {id : Nat} {s₁ : State} : FrR 131948378852670 s₁ (execDeallocate id s₁) := by
  have h : Fr 131948378852670 s₁ s₁ := Fr.refl
  first | rw [execDeallocate] | unfold execDeallocate
  repeat' first
    | with_reducible assumption
    | (with_reducible refine FrR.ok ?_)
    | (with_reducible refine State.stoStart_frame ?_ (fun z c o h => ?_) rfl)
    | (with_reducible refine State.stoIssue_frame ?_ rfl)

theorem execFlush_frame {id : Nat} {s₁ : State} : FrR 131948378852414 s₁ (execFlush id s₁) := by
  have h : Fr 131948378852414 s₁ s₁ := Fr.refl
  first | rw [execFlush] | unfold execFlush
  repeat' first
    | with_reducible assumption
    | (with_reducible refine FrR.ok ?_)
    | (with_reducible refine FrR.ite ?_ ?_)
    | (with_reducible refine State.stoPartsDone_frame ?_ rfl)
    | (with_reducible refine State.setStoCmd_frame ?_ rfl)
    | (with_reducible refine State.showDrives_frame ?_ rfl)
    | (with_reducible refine State.emit_frame ?_ rfl)
    | (with_reducible refine Fr.foldl (fun z a h => ?_) ?_)
    | split

theorem execLockRelease_frame {id : Nat} {s₁ : State} : FrR 131948378852414 s₁ (execLockRelease id s₁) := by
  have h : Fr 131948378852414 s₁ s₁ := Fr.refl
  first | rw [execLockRelease] | unfold execLockRelease
  repeat' first
    | with_reducible assumption
    | (with_reducible refine FrR.ok ?_)
    | (with_reducible refine FrR.ite ?_ ?_)
    | (with_reducible refine State.stoComplete_frame ?_ rfl)
    | (with_reducible refine State.setStoCmd_frame ?_ rfl)
    | split

theorem execBackingCompletion_frame {id : Nat} {part : Nat} {status : W16} {data : List Byte} {out : DmaOut} {s₁ : State} : FrR 131948378852414 s₁ (execBackingCompletion id part status data out s₁) := by
  have h : Fr 131948378852414 s₁ s₁ := Fr.refl
  first | rw [execBackingCompletion] | unfold execBackingCompletion
  repeat' first
    | with_reducible assumption
    | (with_reducible refine FrR.ok ?_)
    | (with_reducible refine State.partEnd_frame ?_ rfl)
    | split

theorem execStorageCompletionWrite_frame {q : Fin 4096} {out : DmaOut} {s₁ : State} : FrR 6979324962 s₁ (execStorageCompletionWrite q out s₁) := by
  have h : Fr 6979324962 s₁ s₁ := Fr.refl
  unfold execStorageCompletionWrite
  repeat' first
    | with_reducible assumption
    | (with_reducible refine FrR.ok ?_)
    | (with_reducible refine FrR.ite ?_ ?_)
    | (with_reducible refine State.stoReap_frame ?_ rfl)
    | (with_reducible refine State.stoWrite1_frame ?_ rfl)
    | (with_reducible refine State.setStoQ_frame ?_ rfl)
    | (with_reducible refine State.stoFreeze_frame ?_ rfl)
    | (with_reducible refine Fr2.out (State.stoLog_frame ?_ rfl))
    | split

theorem execCoalescingTimeout_frame {q : Fin 4096} {s₁ : State} : FrR 6979321858 s₁ (execCoalescingTimeout q s₁) := by
  have h : Fr 6979321858 s₁ s₁ := Fr.refl
  first | rw [execCoalescingTimeout] | unfold execCoalescingTimeout
  repeat' first
    | with_reducible assumption
    | (with_reducible refine FrR.ok ?_)
    | (with_reducible refine FrR.ite ?_ ?_)
    | (with_reducible refine State.stoSignal_frame ?_ rfl)
    | split

theorem execKeepAlive_frame {c : Fin 64} {s₁ : State} : FrR 536871936 s₁ (execKeepAlive c s₁) := by
  have h : Fr 536871936 s₁ s₁ := Fr.refl
  first | rw [execKeepAlive] | unfold execKeepAlive
  repeat' first
    | with_reducible assumption
    | (with_reducible refine FrR.ok ?_)
    | (with_reducible refine FrR.ite ?_ ?_)
    | (lift_lets; intro x; clear_value x)
    | (with_reducible refine State.setBacking_frame ?_ rfl)
    | (with_reducible refine State.emit_frame ?_ rfl)

theorem execStoEnSet_frame {q : Requester} {v : W32} {s₁ : State} : FrR 2 s₁ (execStoEnSet q v s₁) := by
  have h : Fr 2 s₁ s₁ := Fr.refl
  first | rw [execStoEnSet] | unfold execStoEnSet
  repeat' first
    | with_reducible assumption
    | (with_reducible refine FrR.ok ?_)
    | (with_reducible refine writeStoCtl_frame ?_ rfl)

theorem execSynStoQueueCreate_frame {r : SynReq} {spec : StoQueueSpec} {s₁ : State} : FrR 536873218 s₁ (execSynStoQueueCreate r spec s₁) := by
  have h : Fr 536873218 s₁ s₁ := Fr.refl
  first | rw [execSynStoQueueCreate] | unfold execSynStoQueueCreate
  repeat' first
    | with_reducible assumption
    | (with_reducible refine FrR.ok ?_)
    | (lift_lets; intro x; clear_value x)
    | (with_reducible refine State.syn_frame ?_ (fun z h => ?_) rfl)
    | (with_reducible refine success_frame ?_ rfl)
    | (with_reducible refine refuseFree_frame ?_ rfl)
    | (with_reducible refine State.setStoQ_frame ?_ rfl)
    | (with_reducible refine State.stoRefusal_frame ?_ rfl)
    | (with_reducible refine State.tick_frame ?_ rfl)
    | (with_reducible refine refuse_frame ?_ rfl)
    | (with_reducible refine Fr1.ite ?_ ?_)
    | split

theorem execSynStoQueueDelete_frame {r : SynReq} {q : Fin 4096} {s₁ : State} : FrR 536872960 s₁ (execSynStoQueueDelete r q s₁) := by
  have h : Fr 536872960 s₁ s₁ := Fr.refl
  first | rw [execSynStoQueueDelete] | unfold execSynStoQueueDelete
  repeat' first
    | with_reducible assumption
    | (with_reducible refine FrR.ok ?_)
    | (with_reducible refine State.setStoQ_frame ?_ rfl)
    | (with_reducible refine State.synLater_frame ?_ (fun z h => ?_) rfl)
    | (with_reducible refine State.dropStoQ_frame ?_ rfl)
    | (with_reducible refine Fr1.ite ?_ ?_)
    | split
    | (with_reducible refine Fr1.pair ?_)

theorem execSynStoQueueRestart_frame {r : SynReq} {q : Fin 4096} {s₁ : State} : FrR 536872960 s₁ (execSynStoQueueRestart r q s₁) := by
  have h : Fr 536872960 s₁ s₁ := Fr.refl
  first | rw [execSynStoQueueRestart] | unfold execSynStoQueueRestart
  repeat' first
    | with_reducible assumption
    | (with_reducible refine FrR.ok ?_)
    | (with_reducible refine State.syn_frame ?_ (fun z h => ?_) rfl)
    | (with_reducible refine success_frame ?_ rfl)
    | (with_reducible refine State.setStoQ_frame ?_ rfl)
    | (with_reducible refine refuse_frame ?_ rfl)
    | (with_reducible refine Fr1.ite ?_ ?_)
    | split

theorem execSynStoErrlogRead_frame {r : SynReq} {q : Fin 4096} {s₁ : State} : FrR 2048 s₁ (execSynStoErrlogRead r q s₁) := by
  have h : Fr 2048 s₁ s₁ := Fr.refl
  first | rw [execSynStoErrlogRead] | unfold execSynStoErrlogRead
  repeat' first
    | with_reducible assumption
    | (with_reducible refine FrR.ok ?_)
    | (with_reducible refine State.syn_frame ?_ (fun z h => ?_) rfl)
    | (with_reducible refine success_frame ?_ rfl)
    | (with_reducible refine refuse_frame ?_ rfl)
    | split

theorem execSynStoVolumeSet_frame {r : SynReq} {vol : Fin 1024} {record : List Byte} {s₁ : State} : FrR 131944083885118 s₁ (execSynStoVolumeSet r vol record s₁) := by
  have h : Fr 131944083885118 s₁ s₁ := Fr.refl
  first | rw [execSynStoVolumeSet] | unfold execSynStoVolumeSet
  repeat' first
    | with_reducible assumption
    | (with_reducible refine FrR.ok ?_)
    | (lift_lets; intro x; clear_value x)
    | (with_reducible refine State.stoChange_frame ?_ rfl)
    | (with_reducible refine State.synLater_frame ?_ (fun z h => ?_) rfl)
    | (with_reducible refine State.stoRefusal_frame ?_ rfl)
    | (with_reducible refine Fr1.ite ?_ ?_)
    | split
    | (with_reducible refine Fr1.pair ?_)

theorem execSynStoVolumeDelete_frame {r : SynReq} {vol : Fin 1024} {s₁ : State} : FrR 131944083885118 s₁ (execSynStoVolumeDelete r vol s₁) := by
  have h : Fr 131944083885118 s₁ s₁ := Fr.refl
  first | rw [execSynStoVolumeDelete] | unfold execSynStoVolumeDelete
  repeat' first
    | with_reducible assumption
    | (with_reducible refine FrR.ok ?_)
    | (lift_lets; intro x; clear_value x)
    | (with_reducible refine State.stoChange_frame ?_ rfl)
    | (with_reducible refine State.synLater_frame ?_ (fun z h => ?_) rfl)

theorem execSynStoNsCreate_frame {r : SynReq} {d : Fin 4} {blocks : BitVec 64} {nsid : Option W32} {s₁ : State} : FrR 536873216 s₁ (execSynStoNsCreate r d blocks nsid s₁) := by
  have h : Fr 536873216 s₁ s₁ := Fr.refl
  first | rw [execSynStoNsCreate] | unfold execSynStoNsCreate
  repeat' first
    | with_reducible assumption
    | (with_reducible refine FrR.ok ?_)
    | (lift_lets; intro x; clear_value x)
    | (with_reducible refine State.syn_frame ?_ (fun z h => ?_) rfl)
    | (with_reducible refine success_frame ?_ rfl)
    | (with_reducible refine refuseFree_frame ?_ rfl)
    | (with_reducible refine State.setBacking_frame ?_ rfl)
    | (with_reducible refine refuse_frame ?_ rfl)
    | (with_reducible refine Fr1.ite ?_ ?_)
    | split

theorem execSynStoNsDelete_frame {r : SynReq} {d : Fin 4} {nsid : W32} {s₁ : State} : FrR 536873216 s₁ (execSynStoNsDelete r d nsid s₁) := by
  have h : Fr 536873216 s₁ s₁ := Fr.refl
  first | rw [execSynStoNsDelete] | unfold execSynStoNsDelete
  repeat' first
    | with_reducible assumption
    | (with_reducible refine FrR.ok ?_)
    | (intro x; clear_value x)
    | (lift_lets; intro x; clear_value x)
    | (with_reducible refine State.syn_frame ?_ (fun z h => ?_) rfl)
    | (with_reducible refine success_frame ?_ rfl)
    | (with_reducible refine refuseFree_frame ?_ rfl)
    | (with_reducible refine State.setBacking_frame ?_ rfl)
    | (with_reducible refine refuse_frame ?_ rfl)
    | (with_reducible refine Fr1.ite ?_ ?_)

theorem execSynStoTargetConnect_frame {r : SynReq} {c : Fin 64} {conns : List (BitVec 20)} {subnqn : List Byte} {hostnqn : List Byte} {answer : StoConnect} {s₁ : State} : FrR 536874240 s₁ (execSynStoTargetConnect r c conns subnqn hostnqn answer s₁) := by
  have h : Fr 536874240 s₁ s₁ := Fr.refl
  first | rw [execSynStoTargetConnect] | unfold execSynStoTargetConnect
  repeat' first
    | with_reducible assumption
    | (with_reducible refine FrR.ok ?_)
    | (intro x; clear_value x)
    | (lift_lets; intro x; refine_lift have hb : ∀ y, y = x → Fr 536874240 s₁ y := ?_; ?_; all_goals first | (have hx := hb x rfl; clear hb; clear_value x) | (intro y hy; unfold x at hy; rw [hy]; clear hy y))
    | (lift_lets; intro x; clear_value x)
    | (with_reducible refine State.synLater_frame ?_ (fun z h => ?_) rfl)
    | (with_reducible refine State.tick_frame ?_ rfl)
    | (with_reducible refine State.setBacking_frame ?_ rfl)
    | (with_reducible refine State.emit_frame ?_ rfl)
    | (with_reducible refine Fr1.ite ?_ ?_)
    | split
    | (with_reducible refine Fr1.pair ?_)

theorem execConnectTimeout_frame {c : Fin 64} {s₁ : State} : FrR 536872960 s₁ (execConnectTimeout c s₁) := by
  have h : Fr 536872960 s₁ s₁ := Fr.refl
  first | rw [execConnectTimeout] | unfold execConnectTimeout
  repeat' first
    | with_reducible assumption
    | (with_reducible refine FrR.ok ?_)
    | (with_reducible refine FrR.ite ?_ ?_)
    | (with_reducible refine State.answer_frame ?_ rfl)
    | (with_reducible refine State.setBacking_frame ?_ rfl)
    | split

theorem execSynStoTargetDisconnect_frame {r : SynReq} {c : Fin 64} {s₁ : State} : FrR 131948378852670 s₁ (execSynStoTargetDisconnect r c s₁) := by
  have h : Fr 131948378852670 s₁ s₁ := Fr.refl
  first | rw [execSynStoTargetDisconnect] | unfold execSynStoTargetDisconnect
  repeat' first
    | with_reducible assumption
    | (with_reducible refine FrR.ok ?_)
    | (with_reducible refine State.stoBackingLost_frame ?_ rfl)
    | (with_reducible refine State.syn_frame ?_ (fun z h => ?_) rfl)
    | (with_reducible refine success_frame ?_ rfl)
    | (with_reducible refine refuseFree_frame ?_ rfl)
    | (with_reducible refine State.setBacking_frame ?_ rfl)
    | (with_reducible refine Fr1.ite ?_ ?_)

theorem execSynStoDriveReset_frame {r : SynReq} {d : Fin 4} {back : Bool} {s₁ : State} : FrR 131948378852414 s₁ (execSynStoDriveReset r d back s₁) := by
  have h : Fr 131948378852414 s₁ s₁ := Fr.refl
  first | rw [execSynStoDriveReset] | unfold execSynStoDriveReset
  repeat' first
    | with_reducible assumption
    | (with_reducible refine FrR.ok ?_)
    | (intro x; clear_value x)
    | (lift_lets; intro x; refine_lift have hb : ∀ y, y = x → Fr 131948378852414 s₁ y := ?_; ?_; all_goals first | (have hx := hb x rfl; clear hb; clear_value x) | (intro y hy; unfold x at hy; rw [hy]; clear hy y))
    | (with_reducible refine State.stoBackingLost_frame ?_ rfl)
    | (with_reducible refine State.syn_frame ?_ (fun z h => ?_) rfl)
    | (with_reducible refine success_frame ?_ rfl)
    | (with_reducible refine State.sf_frame ?_ rfl)
    | (with_reducible refine State.setBacking_frame ?_ rfl)

theorem execSynStoQuery_frame {r : SynReq} {what : StoQuery} {identify : List Byte} {smart : List Byte} {s₁ : State} : FrR 2048 s₁ (execSynStoQuery r what identify smart s₁) := by
  have h : Fr 2048 s₁ s₁ := Fr.refl
  first | rw [execSynStoQuery] | unfold execSynStoQuery
  repeat' first
    | with_reducible assumption
    | (with_reducible refine FrR.ok ?_)
    | (with_reducible refine State.syn_frame ?_ (fun z h => ?_) rfl)
    | (with_reducible refine success_frame ?_ rfl)
    | (with_reducible refine refuse_frame ?_ rfl)
    | split

end Sys2Proof.Machine
end

