-- ==== Sys2Proof/Laws/ExecTime.lean ====
section
/-! SUPPORT. Frames of the commands of Machine/Time.lean: each answers a next state and may change only the parts of its mask. -/

namespace Sys2Proof.Machine

theorem execPpsEdge_frame {phase : Fin 8} {s₁ : State} : FrR 35184439721986 s₁ (execPpsEdge phase s₁) := by
  have h : Fr 35184439721986 s₁ s₁ := Fr.refl
  first | rw [execPpsEdge] | unfold execPpsEdge
  repeat' first
    | with_reducible assumption
    | (with_reducible refine FrR.ok ?_)
    | (with_reducible refine FrR.ite ?_ ?_)
    | (with_reducible refine State.acceptPulse_frame ?_ rfl)
    | (with_reducible refine State.rejectPulse_frame ?_ rfl)

theorem execPpsLoss_frame {s₁ : State} : FrR 67633154 s₁ (execPpsLoss s₁) := by
  have h : Fr 67633154 s₁ s₁ := Fr.refl
  first | rw [execPpsLoss] | unfold execPpsLoss
  repeat' first
    | with_reducible assumption
    | (with_reducible refine FrR.ok ?_)
    | (with_reducible refine FrR.ite ?_ ?_)
    | (lift_lets; intro x; clear_value x)
    | (with_reducible refine State.qualify_frame ?_ rfl)
    | (with_reducible refine State.sf_frame ?_ rfl)
    | (with_reducible refine State.setTime_frame ?_ rfl)
    | (with_reducible refine State.setTimeState_frame ?_ rfl)

theorem execQualificationLost_frame {s₁ : State} : FrR 524290 s₁ (execQualificationLost s₁) := by
  have h : Fr 524290 s₁ s₁ := Fr.refl
  first | rw [execQualificationLost] | unfold execQualificationLost
  repeat' first
    | with_reducible assumption
    | (with_reducible refine FrR.ok ?_)
    | (with_reducible refine State.qualify_frame ?_ rfl)

theorem execPpsOut_frame {s₁ : State} : FrR 70368811286528 s₁ (execPpsOut s₁) := by
  have h : Fr 70368811286528 s₁ s₁ := Fr.refl
  first | rw [execPpsOut] | unfold execPpsOut
  repeat' first
    | with_reducible assumption
    | (with_reducible refine FrR.ok ?_)
    | (with_reducible refine FrR.ite ?_ ?_)
    | (intro x; refine_lift have hb : ∀ y, y = x → Fr 70368811286528 s₁ y := ?_; ?_; all_goals first | (have hx := hb x rfl; clear hb; clear_value x) | (intro y hy; unfold x at hy; rw [hy]; clear hy y))
    | (intro x; clear_value x)
    | (lift_lets; intro x; clear_value x)
    | (with_reducible refine State.setTime_frame ?_ rfl)
    | (with_reducible refine Fr.pins ?_ rfl)

theorem execPpsOutEnd_frame {s₁ : State} : FrR 70368811286528 s₁ (execPpsOutEnd s₁) := by
  have h : Fr 70368811286528 s₁ s₁ := Fr.refl
  first | rw [execPpsOutEnd] | unfold execPpsOutEnd
  repeat' first
    | with_reducible assumption
    | (with_reducible refine FrR.ok ?_)
    | (with_reducible refine FrR.ite ?_ ?_)
    | (intro x; refine_lift have hb : ∀ y, y = x → Fr 70368811286528 s₁ y := ?_; ?_; all_goals first | (have hx := hb x rfl; clear hb; clear_value x) | (intro y hy; unfold x at hy; rw [hy]; clear hy y))
    | (intro x; clear_value x)
    | (lift_lets; intro x; clear_value x)
    | (with_reducible refine State.setTime_frame ?_ rfl)
    | split
    | (with_reducible refine Fr.pins ?_ rfl)

theorem execTimeNowRead_frame {_q : Requester} {s₁ : State} : FrR 67117056 s₁ (execTimeNowRead _q s₁) := by
  have h : Fr 67117056 s₁ s₁ := Fr.refl
  first | rw [execTimeNowRead] | unfold execTimeNowRead
  repeat' first
    | with_reducible assumption
    | (with_reducible refine FrR.ok ?_)
    | (with_reducible refine Fr2.out (State.readNowLow_frame ?_ rfl))
    | (with_reducible refine Fr.answer32 ?_ rfl)

theorem execArm_frame {q : Requester} {v : W32} {s₁ : State} : FrR 67633154 s₁ (execArm q v s₁) := by
  have h : Fr 67633154 s₁ s₁ := Fr.refl
  first | rw [execArm] | unfold execArm
  repeat' first
    | with_reducible assumption
    | (with_reducible refine FrR.ok ?_)
    | (with_reducible refine writeTimeCtl_frame ?_ rfl)

theorem execPpsEnSet_frame {q : Requester} {v : W32} {s₁ : State} : FrR 67633154 s₁ (execPpsEnSet q v s₁) := by
  have h : Fr 67633154 s₁ s₁ := Fr.refl
  first | rw [execPpsEnSet] | unfold execPpsEnSet
  repeat' first
    | with_reducible assumption
    | (with_reducible refine FrR.ok ?_)
    | (with_reducible refine writeTimeCtl_frame ?_ rfl)

theorem execPpsEnClear_frame {q : Requester} {v : W32} {s₁ : State} : FrR 67633154 s₁ (execPpsEnClear q v s₁) := by
  have h : Fr 67633154 s₁ s₁ := Fr.refl
  first | rw [execPpsEnClear] | unfold execPpsEnClear
  repeat' first
    | with_reducible assumption
    | (with_reducible refine FrR.ok ?_)
    | (with_reducible refine writeTimeCtl_frame ?_ rfl)

theorem execTgCommit_frame {q : Requester} {v : W32} {s₁ : State} : FrR 96759242034234 s₁ (execTgCommit q v s₁) := by
  have h : Fr 96759242034234 s₁ s₁ := Fr.refl
  first | rw [execTgCommit] | unfold execTgCommit
  repeat' first
    | with_reducible assumption
    | (with_reducible refine FrR.ok ?_)
    | (with_reducible refine writeTgAdminCtl_frame ?_ rfl)

theorem execTgCancel_frame {q : Requester} {v : W32} {s₁ : State} : FrR 96759242034234 s₁ (execTgCancel q v s₁) := by
  have h : Fr 96759242034234 s₁ s₁ := Fr.refl
  first | rw [execTgCancel] | unfold execTgCancel
  repeat' first
    | with_reducible assumption
    | (with_reducible refine FrR.ok ?_)
    | (with_reducible refine writeTgAdminCtl_frame ?_ rfl)

theorem execGateListTakeover_frame {p : Fin 32} {s₁ : State} : FrR 67108866 s₁ (execGateListTakeover p s₁) := by
  have h : Fr 67108866 s₁ s₁ := Fr.refl
  first | rw [execGateListTakeover] | unfold execGateListTakeover
  repeat' first
    | with_reducible assumption
    | (with_reducible refine FrR.ok ?_)
    | (with_reducible refine FrR.ite ?_ ?_)
    | (with_reducible refine State.setGateActive_frame ?_ rfl)
    | (with_reducible refine State.setGatePending_frame ?_ rfl)
    | (with_reducible refine State.gateShow_frame ?_ rfl)
    | (with_reducible refine State.sf_frame ?_ rfl)
    | split

theorem execGateEntryChange_frame {p : Fin 32} {s₁ : State} : FrR 2 s₁ (execGateEntryChange p s₁) := by
  have h : Fr 2 s₁ s₁ := Fr.refl
  first | rw [execGateEntryChange] | unfold execGateEntryChange
  repeat' first
    | with_reducible assumption
    | (with_reducible refine FrR.ok ?_)
    | (with_reducible refine State.gateShow_frame ?_ rfl)

theorem execApply_frame {q : Requester} {v : W32} {s₁ : State} : FrR 67108866 s₁ (execApply q v s₁) := by
  have h : Fr 67108866 s₁ s₁ := Fr.refl
  first | rw [execApply] | unfold execApply
  repeat' first
    | with_reducible assumption
    | (with_reducible refine FrR.ok ?_)
    | (with_reducible refine writeTgShpSel_frame ?_ rfl)

theorem execRefill_frame {policer : Bool} {ix : BitVec 12} {s₁ : State} : FrR 67108864 s₁ (execRefill policer ix s₁) := by
  have h : Fr 67108864 s₁ s₁ := Fr.refl
  first | rw [execRefill] | unfold execRefill
  repeat' first
    | with_reducible assumption
    | (with_reducible refine FrR.ok ?_)
    | (with_reducible refine FrR.ite ?_ ?_)
    | (with_reducible refine State.setBucket_frame ?_ rfl)

theorem execSynTimeSet_frame {r : SynReq} {second : W64} {delay : Int} {unc : Nat} {hold : Nat} {s₁ : State} : FrR 2050 s₁ (execSynTimeSet r second delay unc hold s₁) := by
  have h : Fr 2050 s₁ s₁ := Fr.refl
  first | rw [execSynTimeSet] | unfold execSynTimeSet
  repeat' first
    | with_reducible assumption
    | (with_reducible refine FrR.ok ?_)
    | (lift_lets; intro x; refine_lift have hb : ∀ y, y = x → Fr 2050 s₁ y := ?_; ?_; all_goals first | (have hx := hb x rfl; clear hb; clear_value x) | (intro y hy; unfold x at hy; rw [hy]; clear hy y))
    | (with_reducible refine State.syn_frame ?_ (fun z h => ?_) rfl)
    | (with_reducible refine State.wr64_frame ?_ rfl)
    | (with_reducible refine success_frame ?_ rfl)
    | (with_reducible refine State.wr_frame ?_ rfl)
    | (with_reducible refine State.sf_frame ?_ rfl)
    | (with_reducible refine refuse_frame ?_ rfl)
    | (with_reducible refine Fr1.ite ?_ ?_)

theorem execSynTimeQuery_frame {r : SynReq} {s₁ : State} : FrR 2048 s₁ (execSynTimeQuery r s₁) := by
  have h : Fr 2048 s₁ s₁ := Fr.refl
  first | rw [execSynTimeQuery] | unfold execSynTimeQuery
  repeat' first
    | with_reducible assumption
    | (with_reducible refine FrR.ok ?_)
    | (with_reducible refine State.syn_frame ?_ (fun z h => ?_) rfl)
    | (with_reducible refine success_frame ?_ rfl)

theorem execSynTgGateLoad_frame {r : SynReq} {port : Nat} {basetime : W64} {entries : List GateSpec} {s₁ : State} : FrR 67110914 s₁ (execSynTgGateLoad r port basetime entries s₁) := by
  have h : Fr 67110914 s₁ s₁ := Fr.refl
  first | rw [execSynTgGateLoad] | unfold execSynTgGateLoad
  repeat' first
    | with_reducible assumption
    | (with_reducible refine FrR.ok ?_)
    | (lift_lets; intro x; clear_value x)
    | (with_reducible refine State.syn_frame ?_ (fun z h => ?_) rfl)
    | (with_reducible refine success_frame ?_ rfl)
    | (with_reducible refine State.sf_frame ?_ rfl)
    | (with_reducible refine refuse_frame ?_ rfl)
    | (with_reducible refine Fr1.ite ?_ ?_)
    | (with_reducible refine Fr1.out (State.gateCommit_frame ?_ rfl))
    | split

theorem execSynTgGateCancel_frame {r : SynReq} {port : Fin 32} {s₁ : State} : FrR 67110914 s₁ (execSynTgGateCancel r port s₁) := by
  have h : Fr 67110914 s₁ s₁ := Fr.refl
  first | rw [execSynTgGateCancel] | unfold execSynTgGateCancel
  repeat' first
    | with_reducible assumption
    | (with_reducible refine FrR.ok ?_)
    | (with_reducible refine State.syn_frame ?_ (fun z h => ?_) rfl)
    | (with_reducible refine State.setGatePending_frame ?_ rfl)
    | (with_reducible refine success_frame ?_ rfl)
    | (with_reducible refine State.sf_frame ?_ rfl)
    | (with_reducible refine refuse_frame ?_ rfl)
    | (with_reducible refine Fr1.ite ?_ ?_)

theorem execSynTgShaperSet_frame {r : SynReq} {ix : Nat} {en : Bool} {rate : W16} {burst : W16} {period : Nat} {s₁ : State} : FrR 67110914 s₁ (execSynTgShaperSet r ix en rate burst period s₁) := by
  have h : Fr 67110914 s₁ s₁ := Fr.refl
  first | rw [execSynTgShaperSet] | unfold execSynTgShaperSet
  repeat' first
    | with_reducible assumption
    | (with_reducible refine FrR.ok ?_)
    | (with_reducible refine State.syn_frame ?_ (fun z h => ?_) rfl)
    | (with_reducible refine State.applyBucket_frame ?_ rfl)

theorem execSynTgPolicerSet_frame {r : SynReq} {ix : Nat} {en : Bool} {rate : W16} {burst : W16} {period : Nat} {action : Bool} {exceedTc : BitVec 3} {s₁ : State} : FrR 67110914 s₁ (execSynTgPolicerSet r ix en rate burst period action exceedTc s₁) := by
  have h : Fr 67110914 s₁ s₁ := Fr.refl
  first | rw [execSynTgPolicerSet] | unfold execSynTgPolicerSet
  repeat' first
    | with_reducible assumption
    | (with_reducible refine FrR.ok ?_)
    | (with_reducible refine State.syn_frame ?_ (fun z h => ?_) rfl)
    | (with_reducible refine State.applyBucket_frame ?_ rfl)

theorem execSynTgQuery_frame {r : SynReq} {what : TgQuery} {s₁ : State} : FrR 2048 s₁ (execSynTgQuery r what s₁) := by
  have h : Fr 2048 s₁ s₁ := Fr.refl
  first | rw [execSynTgQuery] | unfold execSynTgQuery
  repeat' first
    | with_reducible assumption
    | (with_reducible refine FrR.ok ?_)
    | (lift_lets; intro x; clear_value x)
    | (with_reducible refine State.syn_frame ?_ (fun z h => ?_) rfl)
    | (with_reducible refine success_frame ?_ rfl)

end Sys2Proof.Machine
end

