-- ==== Sys2Proof/Laws/ExecFabric.lean ====
section
/-! SUPPORT. Frames of the commands of Machine/Fabric.lean: each answers a next state and may change only the parts of its mask. -/

namespace Sys2Proof.Machine

theorem execLaneFailed_frame {lane : Fin 144} {s₁ : State} : FrR 8389890 s₁ (execLaneFailed lane s₁) := by
  have h : Fr 8389890 s₁ s₁ := Fr.refl
  first | rw [execLaneFailed] | unfold execLaneFailed
  repeat' first
    | with_reducible assumption
    | (with_reducible refine FrR.ok ?_)
    | (with_reducible refine FrR.ite ?_ ?_)
    | (with_reducible refine State.failLane_frame ?_ rfl)
    | (with_reducible refine Fr.ite ?_ ?_)
    | (with_reducible refine Fr.foldl (fun z a h => ?_) ?_)

theorem execLaneMapRepeat_frame {p : Fin 32} {s₁ : State} : FrR 96759183313954 s₁ (execLaneMapRepeat p s₁) := by
  have h : Fr 96759183313954 s₁ s₁ := Fr.refl
  first | rw [execLaneMapRepeat] | unfold execLaneMapRepeat
  repeat' first
    | with_reducible assumption
    | (with_reducible refine FrR.ok ?_)
    | (with_reducible refine FrR.ite ?_ ?_)
    | (with_reducible refine State.sendMap_frame ?_ rfl)
    | (with_reducible refine State.adoptMap_frame ?_ rfl)
    | split

theorem execLaneMapSwitch_frame {p : Fin 32} {s₁ : State} : FrR 96759183314210 s₁ (execLaneMapSwitch p s₁) := by
  have h : Fr 96759183314210 s₁ s₁ := Fr.refl
  first | rw [execLaneMapSwitch] | unfold execLaneMapSwitch
  repeat' first
    | with_reducible assumption
    | (with_reducible refine FrR.ok ?_)
    | (with_reducible refine FrR.ite ?_ ?_)
    | (with_reducible refine State.adoptMap_frame ?_ rfl)
    | (with_reducible refine State.remap_frame ?_ rfl)
    | split

theorem execTrainFail_frame {p : Fin 32} {s₁ : State} : FrR 96759183313954 s₁ (execTrainFail p s₁) := by
  have h : Fr 96759183313954 s₁ s₁ := Fr.refl
  first | rw [execTrainFail] | unfold execTrainFail
  repeat' first
    | with_reducible assumption
    | (with_reducible refine FrR.ok ?_)
    | (with_reducible refine FrR.ite ?_ ?_)
    | (lift_lets; intro x; clear_value x)
    | (with_reducible refine State.setPortState_frame ?_ rfl)
    | (with_reducible refine State.setFp_frame ?_ rfl)

theorem execPortDownRetrain_frame {p : Fin 32} {s₁ : State} : FrR 96759200091170 s₁ (execPortDownRetrain p s₁) := by
  have h : Fr 96759200091170 s₁ s₁ := Fr.refl
  first | rw [execPortDownRetrain] | unfold execPortDownRetrain
  repeat' first
    | with_reducible assumption
    | (with_reducible refine FrR.ok ?_)
    | (with_reducible refine FrR.ite ?_ ?_)
    | (with_reducible refine State.startTraining_frame ?_ rfl)

theorem execCreditSend_frame {p : Fin 32} {s₁ : State} : FrR 8389632 s₁ (execCreditSend p s₁) := by
  have h : Fr 8389632 s₁ s₁ := Fr.refl
  first | rw [execCreditSend] | unfold execCreditSend
  repeat' first
    | with_reducible assumption
    | (with_reducible refine FrR.ok ?_)
    | (with_reducible refine FrR.ite ?_ ?_)
    | (with_reducible refine State.sendCredit_frame ?_ rfl)

theorem execPfcRepeat_frame {p : Fin 32} {s₁ : State} : FrR 8389632 s₁ (execPfcRepeat p s₁) := by
  have h : Fr 8389632 s₁ s₁ := Fr.refl
  first | rw [execPfcRepeat] | unfold execPfcRepeat
  repeat' first
    | with_reducible assumption
    | (with_reducible refine FrR.ok ?_)
    | (with_reducible refine FrR.ite ?_ ?_)
    | (lift_lets; intro x; clear_value x)
    | (with_reducible refine State.setFp_frame ?_ rfl)
    | (with_reducible refine State.sendPfc_frame ?_ rfl)
    | (with_reducible refine Fr.foldl (fun z a h => ?_) ?_)

theorem execPfcFrame_frame {p : Fin 32} {enable : Byte} {quanta : Vector W16 8} {s₁ : State} : FrR 274886295552 s₁ (execPfcFrame p enable quanta s₁) := by
  have h : Fr 274886295552 s₁ s₁ := Fr.refl
  first | rw [execPfcFrame] | unfold execPfcFrame
  repeat' first
    | with_reducible assumption
    | (with_reducible refine FrR.ok ?_)
    | (with_reducible refine FrR.ite ?_ ?_)
    | (intro x; clear_value x)
    | (lift_lets; intro x; clear_value x)
    | (with_reducible refine State.setFp_frame ?_ rfl)
    | (with_reducible refine Fr.ite ?_ ?_)
    | (with_reducible refine Fr.foldl (fun z a h => ?_) ?_)
    | (with_reducible refine Fr.paused ?_ rfl)

theorem execPauseExpiry_frame {p : Fin 32} {c : Fin 8} {s₁ : State} : FrR 8388608 s₁ (execPauseExpiry p c s₁) := by
  have h : Fr 8388608 s₁ s₁ := Fr.refl
  first | rw [execPauseExpiry] | unfold execPauseExpiry
  repeat' first
    | with_reducible assumption
    | (with_reducible refine FrR.ok ?_)
    | (with_reducible refine FrR.ite ?_ ?_)
    | (lift_lets; intro x; clear_value x)
    | (with_reducible refine State.setFp_frame ?_ rfl)

theorem execPauseStuck_frame {p : Fin 32} {c : Fin 8} {s₁ : State} : FrR 2147486754 s₁ (execPauseStuck p c s₁) := by
  have h : Fr 2147486754 s₁ s₁ := Fr.refl
  first | rw [execPauseStuck] | unfold execPauseStuck
  repeat' first
    | with_reducible assumption
    | (with_reducible refine FrR.ok ?_)
    | (with_reducible refine FrR.ite ?_ ?_)
    | (with_reducible refine State.sf_frame ?_ rfl)
    | (with_reducible refine State.event_frame ?_ rfl)

theorem execCaps_frame {p : Fin 32} {form : Byte} {enc : Bool} {node : W64} {port : Byte} {s₁ : State} : FrR 8388608 s₁ (execCaps p form enc node port s₁) := by
  have h : Fr 8388608 s₁ s₁ := Fr.refl
  first | rw [execCaps] | unfold execCaps
  repeat' first
    | with_reducible assumption
    | (with_reducible refine FrR.ok ?_)
    | (with_reducible refine FrR.ite ?_ ?_)
    | (with_reducible refine State.gotCaps_frame ?_ rfl)

theorem execLaneMap_frame {p : Fin 32} {mapId : Byte} {lanes : Vector Byte 8} {switchSeq : Byte} {s₁ : State} : FrR 8389634 s₁ (execLaneMap p mapId lanes switchSeq s₁) := by
  have h : Fr 8389634 s₁ s₁ := Fr.refl
  first | rw [execLaneMap] | unfold execLaneMap
  repeat' first
    | with_reducible assumption
    | (with_reducible refine FrR.ok ?_)
    | (with_reducible refine FrR.ite ?_ ?_)
    | (with_reducible refine State.gotMap_frame ?_ rfl)

theorem execKeySwitch_frame {_p : Fin 32} {_an : BitVec 2} {s₁ : State} : FrR 0 s₁ (execKeySwitch _p _an s₁) := by
  have h : Fr 0 s₁ s₁ := Fr.refl
  first | rw [execKeySwitch] | unfold execKeySwitch
  repeat' first
    | with_reducible assumption
    | (with_reducible refine FrR.ok ?_)

theorem execFabEnSet_frame {q : Requester} {v : W32} {s₁ : State} : FrR 2 s₁ (execFabEnSet q v s₁) := by
  have h : Fr 2 s₁ s₁ := Fr.refl
  first | rw [execFabEnSet] | unfold execFabEnSet
  repeat' first
    | with_reducible assumption
    | (with_reducible refine FrR.ok ?_)
    | (with_reducible refine writeFabCtl_frame ?_ rfl)

theorem execFabEnClear_frame {q : Requester} {v : W32} {s₁ : State} : FrR 2 s₁ (execFabEnClear q v s₁) := by
  have h : Fr 2 s₁ s₁ := Fr.refl
  first | rw [execFabEnClear] | unfold execFabEnClear
  repeat' first
    | with_reducible assumption
    | (with_reducible refine FrR.ok ?_)
    | (with_reducible refine writeFabCtl_frame ?_ rfl)

theorem execPortEnable_frame {q : Requester} {p : Fin 32} {v : W32} {s₁ : State} : FrR 96759200091426 s₁ (execPortEnable q p v s₁) := by
  have h : Fr 96759200091426 s₁ s₁ := Fr.refl
  first | rw [execPortEnable] | unfold execPortEnable
  repeat' first
    | with_reducible assumption
    | (with_reducible refine FrR.ok ?_)
    | (with_reducible refine writeFabPortCtl_frame ?_ rfl)

theorem execPortDisable_frame {q : Requester} {p : Fin 32} {v : W32} {s₁ : State} : FrR 96759200091426 s₁ (execPortDisable q p v s₁) := by
  have h : Fr 96759200091426 s₁ s₁ := Fr.refl
  first | rw [execPortDisable] | unfold execPortDisable
  repeat' first
    | with_reducible assumption
    | (with_reducible refine FrR.ok ?_)
    | (with_reducible refine writeFabPortCtl_frame ?_ rfl)

theorem execRetrain_frame {q : Requester} {p : Fin 32} {v : W32} {s₁ : State} : FrR 96759200091426 s₁ (execRetrain q p v s₁) := by
  have h : Fr 96759200091426 s₁ s₁ := Fr.refl
  first | rw [execRetrain] | unfold execRetrain
  repeat' first
    | with_reducible assumption
    | (with_reducible refine FrR.ok ?_)
    | (with_reducible refine writeFabPortCtl_frame ?_ rfl)

theorem execEncSwitch_frame {q : Requester} {p : Fin 32} {v : W32} {s₁ : State} : FrR 8389634 s₁ (execEncSwitch q p v s₁) := by
  have h : Fr 8389634 s₁ s₁ := Fr.refl
  first | rw [execEncSwitch] | unfold execEncSwitch
  repeat' first
    | with_reducible assumption
    | (with_reducible refine FrR.ok ?_)
    | (with_reducible refine writeFabPortEnc_frame ?_ rfl)

theorem execSynLinkPortSet_frame {r : SynReq} {p : Fin 32} {mode : BitVec 2} {enc : Bool} {alloc : W64} {headroom : W16} {keys : Vector (BitVec 12) 4} {s₁ : State} : FrR 96759200091426 s₁ (execSynLinkPortSet r p mode enc alloc headroom keys s₁) := by
  have h : Fr 96759200091426 s₁ s₁ := Fr.refl
  first | rw [execSynLinkPortSet] | unfold execSynLinkPortSet
  repeat' first
    | with_reducible assumption
    | (with_reducible refine FrR.ok ?_)
    | (intro x; refine_lift have hb : ∀ y, y = x → Fr 96759200091426 s₁ y := ?_; ?_; all_goals first | (have hx := hb x rfl; clear hb; clear_value x) | (intro y hy; unfold x at hy; rw [hy]; clear hy y))
    | (lift_lets; intro x; refine_lift have hb : ∀ y, y = x → Fr 96759200091426 s₁ y := ?_; ?_; all_goals first | (have hx := hb x rfl; clear hb; clear_value x) | (intro y hy; unfold x at hy; rw [hy]; clear hy y))
    | (with_reducible refine State.syn_frame ?_ (fun z h => ?_) rfl)
    | (with_reducible refine State.enablePort_frame ?_ rfl)
    | (with_reducible refine State.wr64_frame ?_ rfl)
    | (with_reducible refine success_frame ?_ rfl)
    | (with_reducible refine State.sf_frame ?_ rfl)
    | (with_reducible refine refuse_frame ?_ rfl)
    | (with_reducible refine Fr1.ite ?_ ?_)
    | (with_reducible refine Fr.eq2 (by assumption) ?_)
    | split

theorem execSynLinkPortDisable_frame {r : SynReq} {p : Fin 32} {s₁ : State} : FrR 96759200091170 s₁ (execSynLinkPortDisable r p s₁) := by
  have h : Fr 96759200091170 s₁ s₁ := Fr.refl
  first | rw [execSynLinkPortDisable] | unfold execSynLinkPortDisable
  repeat' first
    | with_reducible assumption
    | (with_reducible refine FrR.ok ?_)
    | (with_reducible refine State.syn_frame ?_ (fun z h => ?_) rfl)
    | (with_reducible refine success_frame ?_ rfl)
    | (with_reducible refine State.disablePort_frame ?_ rfl)
    | (with_reducible refine Fr.ite ?_ ?_)

theorem execSynLinkKeySwitch_frame {r : SynReq} {p : Fin 32} {slot : BitVec 12} {s₁ : State} : FrR 8391682 s₁ (execSynLinkKeySwitch r p slot s₁) := by
  have h : Fr 8391682 s₁ s₁ := Fr.refl
  first | rw [execSynLinkKeySwitch] | unfold execSynLinkKeySwitch
  repeat' first
    | with_reducible assumption
    | (with_reducible refine FrR.ok ?_)
    | (lift_lets; intro x; clear_value x)
    | (with_reducible refine State.syn_frame ?_ (fun z h => ?_) rfl)
    | (with_reducible refine State.wr64_frame ?_ rfl)
    | (with_reducible refine success_frame ?_ rfl)
    | (with_reducible refine State.switchKey_frame ?_ rfl)
    | (with_reducible refine refuse_frame ?_ rfl)
    | (with_reducible refine Fr1.ite ?_ ?_)

theorem execSynLinkRetrain_frame {r : SynReq} {p : Fin 32} {s₁ : State} : FrR 8390656 s₁ (execSynLinkRetrain r p s₁) := by
  have h : Fr 8390656 s₁ s₁ := Fr.refl
  first | rw [execSynLinkRetrain] | unfold execSynLinkRetrain
  repeat' first
    | with_reducible assumption
    | (with_reducible refine FrR.ok ?_)
    | (with_reducible refine State.syn_frame ?_ (fun z h => ?_) rfl)
    | (with_reducible refine success_frame ?_ rfl)
    | (with_reducible refine State.retrainPort_frame ?_ rfl)

theorem execSynLinkQuery_frame {r : SynReq} {p : Fin 32} {s₁ : State} : FrR 2048 s₁ (execSynLinkQuery r p s₁) := by
  have h : Fr 2048 s₁ s₁ := Fr.refl
  first | rw [execSynLinkQuery] | unfold execSynLinkQuery
  repeat' first
    | with_reducible assumption
    | (with_reducible refine FrR.ok ?_)
    | (intro x; clear_value x)
    | (lift_lets; intro x; clear_value x)
    | (with_reducible refine State.syn_frame ?_ (fun z h => ?_) rfl)
    | (with_reducible refine success_frame ?_ rfl)

end Sys2Proof.Machine
end

