-- ==== Sys2Proof/Laws/ExecTransport.lean ====
section
/-! SUPPORT. Frames of the commands of Machine/Transport.lean: each answers a next state and may change only the parts of its mask. -/

namespace Sys2Proof.Machine

theorem execWritePacket_frame {pkt : TrnPkt} {s₁ : State} : FrR 131957212122430 s₁ (execWritePacket pkt s₁) := by
  have h : Fr 131957212122430 s₁ s₁ := Fr.refl
  first | rw [execWritePacket] | unfold execWritePacket
  repeat' first
    | with_reducible assumption
    | (with_reducible refine FrR.ok ?_)
    | (with_reducible refine State.pktIn_frame ?_ rfl)

theorem execReadReq_frame {pkt : TrnPkt} {s₁ : State} : FrR 131957212122430 s₁ (execReadReq pkt s₁) := by
  have h : Fr 131957212122430 s₁ s₁ := Fr.refl
  first | rw [execReadReq] | unfold execReadReq
  repeat' first
    | with_reducible assumption
    | (with_reducible refine FrR.ok ?_)
    | (with_reducible refine State.pktIn_frame ?_ rfl)

theorem execReadResp_frame {pkt : TrnPkt} {s₁ : State} : FrR 131957212122430 s₁ (execReadResp pkt s₁) := by
  have h : Fr 131957212122430 s₁ s₁ := Fr.refl
  first | rw [execReadResp] | unfold execReadResp
  repeat' first
    | with_reducible assumption
    | (with_reducible refine FrR.ok ?_)
    | (with_reducible refine State.pktIn_frame ?_ rfl)

theorem execSendPacket_frame {pkt : TrnPkt} {s₁ : State} : FrR 131957212122430 s₁ (execSendPacket pkt s₁) := by
  have h : Fr 131957212122430 s₁ s₁ := Fr.refl
  first | rw [execSendPacket] | unfold execSendPacket
  repeat' first
    | with_reducible assumption
    | (with_reducible refine FrR.ok ?_)
    | (with_reducible refine State.pktIn_frame ?_ rfl)

theorem execAck_frame {pkt : TrnPkt} {done : Bool} {s₁ : State} : FrR 131957212122430 s₁ (execAck pkt done s₁) := by
  have h : Fr 131957212122430 s₁ s₁ := Fr.refl
  first | rw [execAck] | unfold execAck
  repeat' first
    | with_reducible assumption
    | (with_reducible refine FrR.ok ?_)
    | (with_reducible refine State.pktIn_frame ?_ rfl)

theorem execNak_frame {pkt : TrnPkt} {s₁ : State} : FrR 131957212122430 s₁ (execNak pkt s₁) := by
  have h : Fr 131957212122430 s₁ s₁ := Fr.refl
  first | rw [execNak] | unfold execNak
  repeat' first
    | with_reducible assumption
    | (with_reducible refine FrR.ok ?_)
    | (with_reducible refine State.pktIn_frame ?_ rfl)

theorem execConnectionContextFetch_frame {conn : BitVec 20} {readError : Bool} {s₁ : State} : FrR 131957212122430 s₁ (execConnectionContextFetch conn readError s₁) := by
  have h : Fr 131957212122430 s₁ s₁ := Fr.refl
  first | rw [execConnectionContextFetch] | unfold execConnectionContextFetch
  repeat' first
    | with_reducible assumption
    | (with_reducible refine State.readCtx_frame ?_ rfl)
    | (with_reducible refine Fr2.out (State.readCtx_frame ?_ rfl))
    | (with_reducible refine State.drainAgain_frame ?_ rfl)
    | (with_reducible refine State.settle_frame ?_ rfl)
    | (with_reducible refine FrR.ok ?_)
    | (with_reducible refine FrR.ite ?_ ?_)
    | (lift_lets; intro x; clear_value x)
    | (with_reducible refine State.touch_frame ?_ rfl)
    | (with_reducible refine State.trnDiscard_frame ?_ rfl)
    | (with_reducible refine State.pktByState_frame ?_ rfl)
    | (with_reducible refine State.showMiss_frame ?_ rfl)
    | (with_reducible refine Fr.foldl (fun z a h => ?_) ?_)
    | (with_reducible refine Fr.eq2 (by assumption) ?_)
    | split
    | (with_reducible refine Fr.trn ?_ rfl)

theorem execMessageComplete_frame {conn : BitVec 20} {msn : W32} {s₁ : State} : FrR 132506968198654 s₁ (execMessageComplete conn msn s₁) := by
  have h : Fr 132506968198654 s₁ s₁ := Fr.refl
  first | rw [execMessageComplete] | unfold execMessageComplete
  repeat' first
    | with_reducible assumption
    | (with_reducible refine State.hold_frame ?_ rfl)
    | (with_reducible refine FrR.ok ?_)
    | (with_reducible refine FrR.ite ?_ ?_)
    | (with_reducible refine State.notify_frame ?_ rfl)
    | (with_reducible refine State.setVirtual_frame ?_ rfl)
    | (with_reducible refine State.sendAck_frame ?_ rfl)
    | (with_reducible refine State.endInbound_frame ?_ rfl)
    | (with_reducible refine Fr.ite ?_ ?_)
    | (with_reducible refine Fr2.out (Fr2.ite ?_ ?_))
    | split
    | (with_reducible refine Fr2.pair ?_)

theorem execWrite_frame {src : MsgSource} {s₁ : State} : FrR 131956465536062 s₁ (execWrite src s₁) := by
  have h : Fr 131956465536062 s₁ s₁ := Fr.refl
  first | rw [execWrite] | unfold execWrite
  repeat' first
    | with_reducible assumption
    | (with_reducible refine FrR.ok ?_)
    | (with_reducible refine State.request1_frame ?_ rfl)

theorem execRead_frame {src : MsgSource} {s₁ : State} : FrR 131956465536062 s₁ (execRead src s₁) := by
  have h : Fr 131956465536062 s₁ s₁ := Fr.refl
  first | rw [execRead] | unfold execRead
  repeat' first
    | with_reducible assumption
    | (with_reducible refine FrR.ok ?_)
    | (with_reducible refine State.request1_frame ?_ rfl)

theorem execSend_frame {src : MsgSource} {s₁ : State} : FrR 131956465536062 s₁ (execSend src s₁) := by
  have h : Fr 131956465536062 s₁ s₁ := Fr.refl
  first | rw [execSend] | unfold execSend
  repeat' first
    | with_reducible assumption
    | (with_reducible refine FrR.ok ?_)
    | (with_reducible refine State.request1_frame ?_ rfl)

theorem execMessageStart_frame {conn : BitVec 20} {s₁ : State} : FrR 131957212122430 s₁ (execMessageStart conn s₁) := by
  have h : Fr 131957212122430 s₁ s₁ := Fr.refl
  first | rw [execMessageStart] | unfold execMessageStart
  repeat' first
    | with_reducible assumption
    | (with_reducible refine FrR.ok ?_)
    | (with_reducible refine State.startMsg_frame ?_ rfl)

theorem execRetransmitTimeout_frame {conn : BitVec 20} {s₁ : State} : FrR 131957212122430 s₁ (execRetransmitTimeout conn s₁) := by
  have h : Fr 131957212122430 s₁ s₁ := Fr.refl
  first | rw [execRetransmitTimeout] | unfold execRetransmitTimeout
  repeat' first
    | with_reducible assumption
    | (with_reducible refine FrR.ok ?_)
    | (with_reducible refine FrR.ite ?_ ?_)
    | (with_reducible refine State.goBack_frame ?_ rfl)

theorem execHoleTimerExpiry_frame {conn : BitVec 20} {s₁ : State} : FrR 131957212122430 s₁ (execHoleTimerExpiry conn s₁) := by
  have h : Fr 131957212122430 s₁ s₁ := Fr.refl
  first | rw [execHoleTimerExpiry] | unfold execHoleTimerExpiry
  repeat' first
    | with_reducible assumption
    | (with_reducible refine FrR.ok ?_)
    | (with_reducible refine FrR.ite ?_ ?_)
    | (with_reducible refine State.sendNak_frame ?_ rfl)
    | (with_reducible refine State.setCn_frame ?_ rfl)
    | split

theorem execAckTimerExpiry_frame {conn : BitVec 20} {s₁ : State} : FrR 131957212122430 s₁ (execAckTimerExpiry conn s₁) := by
  have h : Fr 131957212122430 s₁ s₁ := Fr.refl
  first | rw [execAckTimerExpiry] | unfold execAckTimerExpiry
  repeat' first
    | with_reducible assumption
    | (with_reducible refine FrR.ok ?_)
    | (with_reducible refine FrR.ite ?_ ?_)
    | (with_reducible refine State.sendAck_frame ?_ rfl)
    | split

theorem execRnrRetry_frame {conn : BitVec 20} {s₁ : State} : FrR 131957212122430 s₁ (execRnrRetry conn s₁) := by
  have h : Fr 131957212122430 s₁ s₁ := Fr.refl
  first | rw [execRnrRetry] | unfold execRnrRetry
  repeat' first
    | with_reducible assumption
    | (with_reducible refine FrR.ok ?_)
    | (with_reducible refine FrR.ite ?_ ?_)
    | (lift_lets; intro x; clear_value x)
    | (with_reducible refine State.setCn_frame ?_ rfl)
    | (with_reducible refine State.goBack_frame ?_ rfl)
    | split

theorem execCredit_frame {p : Fin 32} {counts : Vector W32 8} {s₁ : State} : FrR 131957212122622 s₁ (execCredit p counts s₁) := by
  have h : Fr 131957212122622 s₁ s₁ := Fr.refl
  first | rw [execCredit] | unfold execCredit
  repeat' first
    | with_reducible assumption
    | (with_reducible refine FrR.ok ?_)
    | (with_reducible refine FrR.ite ?_ ?_)
    | (with_reducible refine State.gotCredit_frame ?_ rfl)
    | (with_reducible refine State.pumpAll_frame ?_ rfl)

theorem execFrame_frame {p : Fin 32} {tc : Fin 8} {enc : Bool} {bytes : List Byte} {lost : Bool} {s₁ : State} : FrR 131957212122430 s₁ (execFrame p tc enc bytes lost s₁) := by
  have h : Fr 131957212122430 s₁ s₁ := Fr.refl
  first | rw [execFrame] | unfold execFrame
  repeat' first
    | with_reducible assumption
    | (with_reducible refine FrR.ok ?_)
    | (with_reducible refine FrR.ite ?_ ?_)
    | (intro x; refine_lift have hb : ∀ y, y = x → Fr 131957212122430 s₁ y := ?_; ?_; all_goals first | (have hx := hb x rfl; clear hb; clear_value x) | (intro y hy; unfold x at hy; rw [hy]; clear hy y))
    | (intro x; clear_value x)
    | (lift_lets; intro x; refine_lift have hb : ∀ y, y = x → Fr 131957212122430 s₁ y := ?_; ?_; all_goals first | (have hx := hb x rfl; clear hb; clear_value x) | (intro y hy; unfold x at hy; rw [hy]; clear hy y))
    | (lift_lets; intro x; clear_value x)
    | (with_reducible refine State.discardFrame_frame ?_ rfl)
    | (with_reducible refine State.recvFrame_frame ?_ rfl)
    | (with_reducible refine State.oddFrames_frame ?_ rfl)
    | (with_reducible refine Fr.ite ?_ ?_)
    | (with_reducible exact Fr2.out (by assumption))
    | dsimp only
    | split

theorem execCodeword_frame {lane : Fin 144} {ccw : BitVec 20} {uncorrectable : Bool} {corrected : Fin 16} {cells : List (List Byte)} {s₁ : State} : FrR 131957228899838 s₁ (execCodeword lane ccw uncorrectable corrected cells s₁) := by
  have h : Fr 131957228899838 s₁ s₁ := Fr.refl
  first | rw [execCodeword] | unfold execCodeword
  repeat' first
    | with_reducible assumption
    | (with_reducible refine FrR.ok ?_)
    | (with_reducible refine FrR.ite ?_ ?_)
    | (intro x; refine_lift have hb : ∀ y, y = x → Fr 131957228899838 s₁ y := ?_; ?_; all_goals first | (have hx := hb x rfl; clear hb; clear_value x) | (intro y hy; unfold x at hy; rw [hy]; clear hy y))
    | (intro x; clear_value x)
    | (lift_lets; intro x; refine_lift have hb : ∀ y, y = x → Fr 131957228899838 s₁ y := ?_; ?_; all_goals first | (have hx := hb x rfl; clear hb; clear_value x) | (intro y hy; unfold x at hy; rw [hy]; clear hy y))
    | (lift_lets; intro x; clear_value x)
    | (with_reducible refine State.codewordIn_frame ?_ rfl)
    | (with_reducible refine State.oddFrames_frame ?_ rfl)
    | (with_reducible refine State.pumpAll_frame ?_ rfl)
    | (with_reducible refine Fr.foldl (fun z a h => ?_) ?_)
    | (with_reducible refine Fr.ite ?_ ?_)
    | (with_reducible exact Fr2.out (by assumption))
    | dsimp only
    | split

theorem execPortUp_frame {p : Fin 32} {spare : Bool} {s₁ : State} : FrR 131957228899838 s₁ (execPortUp p spare s₁) := by
  have h : Fr 131957228899838 s₁ s₁ := Fr.refl
  first | rw [execPortUp] | unfold execPortUp
  repeat' first
    | with_reducible assumption
    | (with_reducible refine FrR.ok ?_)
    | (with_reducible refine State.portUp_frame ?_ rfl)
    | (with_reducible refine State.pumpAll_frame ?_ rfl)

theorem execTrnEnSet_frame {q : Requester} {v : W32} {s₁ : State} : FrR 2 s₁ (execTrnEnSet q v s₁) := by
  have h : Fr 2 s₁ s₁ := Fr.refl
  first | rw [execTrnEnSet] | unfold execTrnEnSet
  repeat' first
    | with_reducible assumption
    | (with_reducible refine FrR.ok ?_)
    | (with_reducible refine writeTrnCtl_frame ?_ rfl)

theorem execTrnEnClear_frame {q : Requester} {v : W32} {s₁ : State} : FrR 2 s₁ (execTrnEnClear q v s₁) := by
  have h : Fr 2 s₁ s₁ := Fr.refl
  first | rw [execTrnEnClear] | unfold execTrnEnClear
  repeat' first
    | with_reducible assumption
    | (with_reducible refine FrR.ok ?_)
    | (with_reducible refine writeTrnCtl_frame ?_ rfl)

theorem execTrnKeyInval_frame {q : Requester} {v : W32} {s₁ : State} : FrR 33554434 s₁ (execTrnKeyInval q v s₁) := by
  have h : Fr 33554434 s₁ s₁ := Fr.refl
  first | rw [execTrnKeyInval] | unfold execTrnKeyInval
  repeat' first
    | with_reducible assumption
    | (with_reducible refine FrR.ok ?_)
    | (with_reducible refine writeTrnKeyInval_frame ?_ rfl)

theorem execTrnKeyInvalDone_frame {s₁ : State} : FrR 33554434 s₁ (execTrnKeyInvalDone s₁) := by
  have h : Fr 33554434 s₁ s₁ := Fr.refl
  first | rw [execTrnKeyInvalDone] | unfold execTrnKeyInvalDone
  repeat' first
    | with_reducible assumption
    | (with_reducible refine FrR.ok ?_)
    | (lift_lets; intro x; clear_value x)
    | (with_reducible refine State.sf_frame ?_ rfl)
    | split
    | (with_reducible refine Fr.trn ?_ rfl)

theorem execPeerWinCommit_frame {q : Requester} {v : W32} {s₁ : State} : FrR 2 s₁ (execPeerWinCommit q v s₁) := by
  have h : Fr 2 s₁ s₁ := Fr.refl
  first | rw [execPeerWinCommit] | unfold execPeerWinCommit
  repeat' first
    | with_reducible assumption
    | (with_reducible refine FrR.ok ?_)
    | (with_reducible refine writePeerCommit_frame ?_ rfl)

theorem execPeerWinActivate_frame {s₁ : State} : FrR 33554434 s₁ (execPeerWinActivate s₁) := by
  have h : Fr 33554434 s₁ s₁ := Fr.refl
  first | rw [execPeerWinActivate] | unfold execPeerWinActivate
  repeat' first
    | with_reducible assumption
    | (with_reducible refine FrR.ok ?_)
    | (with_reducible refine FrR.ite ?_ ?_)
    | (lift_lets; intro x; clear_value x)
    | (with_reducible refine State.sf_frame ?_ rfl)
    | (with_reducible refine Fr.trn ?_ rfl)

theorem execTrnReqDb_frame {q : Requester} {v : W32} {s₁ : State} : FrR 65538 s₁ (execTrnReqDb q v s₁) := by
  have h : Fr 65538 s₁ s₁ := Fr.refl
  first | rw [execTrnReqDb] | unfold execTrnReqDb
  repeat' first
    | with_reducible assumption
    | (with_reducible refine FrR.ok ?_)
    | (with_reducible refine writeTrnReqDb_frame ?_ rfl)

theorem execTrnReqBaseWrite_frame {q : Requester} {cmpl : Bool} {hi : Bool} {v : W32} {s₁ : State} : FrR 65538 s₁ (execTrnReqBaseWrite q cmpl hi v s₁) := by
  have h : Fr 65538 s₁ s₁ := Fr.refl
  first | rw [execTrnReqBaseWrite] | unfold execTrnReqBaseWrite
  repeat' first
    | with_reducible assumption
    | (with_reducible refine FrR.ok ?_)
    | (with_reducible refine writeTrnRingBase_frame ?_ rfl)

theorem execTrnCmdEnSet_frame {q : Requester} {v : W32} {s₁ : State} : FrR 2 s₁ (execTrnCmdEnSet q v s₁) := by
  have h : Fr 2 s₁ s₁ := Fr.refl
  first | rw [execTrnCmdEnSet] | unfold execTrnCmdEnSet
  repeat' first
    | with_reducible assumption
    | (with_reducible refine FrR.ok ?_)
    | (with_reducible refine writeTrnRctl_frame ?_ rfl)

theorem execTrnCmdEnClear_frame {q : Requester} {v : W32} {s₁ : State} : FrR 2 s₁ (execTrnCmdEnClear q v s₁) := by
  have h : Fr 2 s₁ s₁ := Fr.refl
  first | rw [execTrnCmdEnClear] | unfold execTrnCmdEnClear
  repeat' first
    | with_reducible assumption
    | (with_reducible refine FrR.ok ?_)
    | (with_reducible refine writeTrnRctl_frame ?_ rfl)

theorem execTrnCmplEnSet_frame {q : Requester} {v : W32} {s₁ : State} : FrR 2 s₁ (execTrnCmplEnSet q v s₁) := by
  have h : Fr 2 s₁ s₁ := Fr.refl
  first | rw [execTrnCmplEnSet] | unfold execTrnCmplEnSet
  repeat' first
    | with_reducible assumption
    | (with_reducible refine FrR.ok ?_)
    | (with_reducible refine writeTrnRctl_frame ?_ rfl)

theorem execTrnCmplHeadWrite_frame {q : Requester} {v : W32} {s₁ : State} : FrR 131948412472638 s₁ (execTrnCmplHeadWrite q v s₁) := by
  have h : Fr 131948412472638 s₁ s₁ := Fr.refl
  first | rw [execTrnCmplHeadWrite] | unfold execTrnCmplHeadWrite
  repeat' first
    | with_reducible assumption
    | (with_reducible refine FrR.ok ?_)
    | (with_reducible refine writeTrnCmplHead_frame ?_ rfl)

theorem execTrnHaltedResume_frame {q : Requester} {v : W32} {s₁ : State} : FrR 2 s₁ (execTrnHaltedResume q v s₁) := by
  have h : Fr 2 s₁ s₁ := Fr.refl
  first | rw [execTrnHaltedResume] | unfold execTrnHaltedResume
  repeat' first
    | with_reducible assumption
    | (with_reducible refine FrR.ok ?_)
    | (with_reducible refine writeTrnRerr_frame ?_ rfl)

theorem execTrnFwrxEnSet_frame {q : Requester} {v : W32} {s₁ : State} : FrR 2 s₁ (execTrnFwrxEnSet q v s₁) := by
  have h : Fr 2 s₁ s₁ := Fr.refl
  first | rw [execTrnFwrxEnSet] | unfold execTrnFwrxEnSet
  repeat' first
    | with_reducible assumption
    | (with_reducible refine FrR.ok ?_)
    | (with_reducible refine writeTrnFwrxCtl_frame ?_ rfl)

theorem execTrnFwrxHeadWrite_frame {q : Requester} {v : W32} {s₁ : State} : FrR 8623489026 s₁ (execTrnFwrxHeadWrite q v s₁) := by
  have h : Fr 8623489026 s₁ s₁ := Fr.refl
  first | rw [execTrnFwrxHeadWrite] | unfold execTrnFwrxHeadWrite
  repeat' first
    | with_reducible assumption
    | (with_reducible refine FrR.ok ?_)
    | (with_reducible refine writeTrnFwrxHead_frame ?_ rfl)

theorem execSynTrnConnCreate_frame {r : SynReq} {conn : Option W32} {spec : ConnSpec} {s₁ : State} : FrR 131943580568894 s₁ (execSynTrnConnCreate r conn spec s₁) := by
  have h : Fr 131943580568894 s₁ s₁ := Fr.refl
  first | rw [execSynTrnConnCreate] | unfold execSynTrnConnCreate
  repeat' first
    | with_reducible assumption
    | (with_reducible refine State.tick_frame ?_ rfl)
    | (with_reducible refine State.hold_frame ?_ rfl)
    | (with_reducible refine FrR.ok ?_)
    | (lift_lets; intro x; refine_lift have hb : ∀ y, y = x → Fr 131943580568894 s₁ y := ?_; ?_; all_goals first | (have hx := hb x rfl; clear hb; clear_value x) | (intro y hy; unfold x at hy; rw [hy]; clear hy y))
    | (lift_lets; intro x; clear_value x)
    | (with_reducible refine State.syn_frame ?_ (fun z h => ?_) rfl)
    | (with_reducible refine success_frame ?_ rfl)
    | (with_reducible refine State.setCn_frame ?_ rfl)
    | (with_reducible refine refuse_frame ?_ rfl)
    | (with_reducible refine Fr1.ite ?_ ?_)
    | (with_reducible refine Fr2.out (State.touch_frame ?_ rfl))
    | split

theorem execSynTrnConnReady_frame {r : SynReq} {conn : BitVec 20} {peerConn : BitVec 24} {sndPsn : W32} {rcvPsn : W32} {sndMsn : W32} {rcvMsn : W32} {s₁ : State} : FrR 131957212122430 s₁ (execSynTrnConnReady r conn peerConn sndPsn rcvPsn sndMsn rcvMsn s₁) := by
  have h : Fr 131957212122430 s₁ s₁ := Fr.refl
  first | rw [execSynTrnConnReady] | unfold execSynTrnConnReady
  repeat' first
    | with_reducible assumption
    | (with_reducible refine State.hold_frame ?_ rfl)
    | (with_reducible refine FrR.ok ?_)
    | (intro x; refine_lift have hb : ∀ y, y = x → Fr 131957212122430 s₁ y := ?_; ?_; all_goals first | (have hx := hb x rfl; clear hb; clear_value x) | (intro y hy; unfold x at hy; rw [hy]; clear hy y))
    | (intro x; clear_value x)
    | (lift_lets; intro x; clear_value x)
    | (with_reducible refine State.syn_frame ?_ (fun z h => ?_) rfl)
    | (with_reducible refine success_frame ?_ rfl)
    | (with_reducible refine State.setCn_frame ?_ rfl)
    | (with_reducible refine State.sendAck_frame ?_ rfl)
    | (with_reducible refine refuse_frame ?_ rfl)
    | (with_reducible refine Fr1.ite ?_ ?_)

theorem execSynTrnConnFlush_frame {r : SynReq} {conn : BitVec 20} {s₁ : State} : FrR 131957002407230 s₁ (execSynTrnConnFlush r conn s₁) := by
  have h : Fr 131957002407230 s₁ s₁ := Fr.refl
  first | rw [execSynTrnConnFlush] | unfold execSynTrnConnFlush
  repeat' first
    | with_reducible assumption
    | (with_reducible refine FrR.ok ?_)
    | (with_reducible refine State.syn_frame ?_ (fun z h => ?_) rfl)
    | (with_reducible refine success_frame ?_ rfl)
    | (with_reducible refine State.flush_frame ?_ rfl)

theorem execSynTrnConnReset_frame {r : SynReq} {conn : BitVec 20} {s₁ : State} : FrR 131956465536318 s₁ (execSynTrnConnReset r conn s₁) := by
  have h : Fr 131956465536318 s₁ s₁ := Fr.refl
  first | rw [execSynTrnConnReset] | unfold execSynTrnConnReset
  repeat' first
    | with_reducible assumption
    | (with_reducible refine State.complete_frame ?_ rfl)
    | (with_reducible refine State.giveBack_frame ?_ rfl)
    | (with_reducible refine State.hold_frame ?_ rfl)
    | (with_reducible refine FrR.ok ?_)
    | (intro x; refine_lift have hb : ∀ y, y = x → Fr 131956465536318 s₁ y := ?_; ?_; all_goals first | (have hx := hb x rfl; clear hb; clear_value x) | (intro y hy; unfold x at hy; rw [hy]; clear hy y))
    | (intro x; clear_value x)
    | (lift_lets; intro x; clear_value x)
    | (with_reducible refine State.syn_frame ?_ (fun z h => ?_) rfl)
    | (with_reducible refine success_frame ?_ rfl)
    | (with_reducible refine State.endRequests_frame ?_ rfl)
    | (with_reducible refine State.setCn_frame ?_ rfl)
    | (with_reducible refine refuse_frame ?_ rfl)
    | (with_reducible refine Fr1.ite ?_ ?_)
    | (with_reducible refine Fr.trn ?_ rfl)

theorem execSynTrnConnDestroy_frame {r : SynReq} {conn : BitVec 20} {s₁ : State} : FrR 131957002407230 s₁ (execSynTrnConnDestroy r conn s₁) := by
  have h : Fr 131957002407230 s₁ s₁ := Fr.refl
  first | rw [execSynTrnConnDestroy] | unfold execSynTrnConnDestroy
  repeat' first
    | with_reducible assumption
    | (with_reducible refine State.giveBack_frame ?_ rfl)
    | (with_reducible refine State.hold_frame ?_ rfl)
    | (with_reducible refine FrR.ok ?_)
    | (intro x; clear_value x)
    | (lift_lets; intro x; refine_lift have hb : ∀ y, y = x → Fr 131957002407230 s₁ y := ?_; ?_; all_goals first | (have hx := hb x rfl; clear hb; clear_value x) | (intro y hy; unfold x at hy; rw [hy]; clear hy y))
    | (lift_lets; intro x; clear_value x)
    | (with_reducible refine State.syn_frame ?_ (fun z h => ?_) rfl)
    | (with_reducible refine success_frame ?_ rfl)
    | (with_reducible refine State.settle_frame ?_ rfl)
    | (with_reducible refine State.endRequests_frame ?_ rfl)
    | (with_reducible refine State.setCn_frame ?_ rfl)

theorem execSynTrnConnQuery_frame {r : SynReq} {conn : BitVec 20} {s₁ : State} : FrR 2304 s₁ (execSynTrnConnQuery r conn s₁) := by
  have h : Fr 2304 s₁ s₁ := Fr.refl
  first | rw [execSynTrnConnQuery] | unfold execSynTrnConnQuery
  repeat' first
    | with_reducible assumption
    | (with_reducible refine FrR.ok ?_)
    | (with_reducible refine State.syn_frame ?_ (fun z h => ?_) rfl)
    | (with_reducible refine success_frame ?_ rfl)
    | (with_reducible refine State.tick_frame ?_ rfl)

theorem execSynTrnKeySet_frame {r : SynReq} {index : W32} {entry : Vector Byte 32} {s₁ : State} : FrR 131943580568638 s₁ (execSynTrnKeySet r index entry s₁) := by
  have h : Fr 131943580568638 s₁ s₁ := Fr.refl
  first | rw [execSynTrnKeySet] | unfold execSynTrnKeySet
  repeat' first
    | with_reducible assumption
    | (with_reducible refine FrR.ok ?_)
    | (intro x; clear_value x)
    | (lift_lets; intro x; refine_lift have hb : ∀ y, y = x → Fr 131943580568638 s₁ y := ?_; ?_; all_goals first | (have hx := hb x rfl; clear hb; clear_value x) | (intro y hy; unfold x at hy; rw [hy]; clear hy y))
    | (with_reducible refine State.syn_frame ?_ (fun z h => ?_) rfl)
    | (with_reducible refine success_frame ?_ rfl)
    | (with_reducible refine State.poke_frame ?_ rfl)
    | (with_reducible refine refuse_frame ?_ rfl)
    | (with_reducible refine Fr1.ite ?_ ?_)
    | (with_reducible refine Fr.trn ?_ rfl)

theorem execSynTrnPwinSet_frame {r : SynReq} {wins : List PeerWinSpec} {s₁ : State} : FrR 2050 s₁ (execSynTrnPwinSet r wins s₁) := by
  have h : Fr 2050 s₁ s₁ := Fr.refl
  first | rw [execSynTrnPwinSet] | unfold execSynTrnPwinSet
  repeat' first
    | with_reducible assumption
    | (with_reducible refine FrR.ok ?_)
    | (lift_lets; intro x; refine_lift have hb : ∀ y, y = x → Fr 2050 s₁ y := ?_; ?_; all_goals first | (have hx := hb x rfl; clear hb; clear_value x) | (intro y hy; unfold x at hy; rw [hy]; clear hy y))
    | (with_reducible refine State.syn_frame ?_ (fun z h => ?_) rfl)
    | (with_reducible refine State.peerCommit_frame ?_ rfl)
    | (with_reducible refine State.wr64_frame ?_ rfl)
    | (with_reducible refine success_frame ?_ rfl)
    | (with_reducible refine State.wr_frame ?_ rfl)
    | (with_reducible refine refuse_frame ?_ rfl)
    | (with_reducible refine Fr.foldl (fun z a h => ?_) ?_)
    | (with_reducible refine Fr1.ite ?_ ?_)
    | (with_reducible refine Fr.eq2 (by assumption) ?_)
    | split

theorem execSynTrnPwinQuery_frame {r : SynReq} {s₁ : State} : FrR 2048 s₁ (execSynTrnPwinQuery r s₁) := by
  have h : Fr 2048 s₁ s₁ := Fr.refl
  first | rw [execSynTrnPwinQuery] | unfold execSynTrnPwinQuery
  repeat' first
    | with_reducible assumption
    | (with_reducible refine FrR.ok ?_)
    | (with_reducible refine State.syn_frame ?_ (fun z h => ?_) rfl)
    | (with_reducible refine success_frame ?_ rfl)

end Sys2Proof.Machine
end

