-- ==== Sys2Proof/Laws/ExecKv.lean ====
section
/-! SUPPORT. Frames of the commands of Machine/Kv.lean: each answers a next state and may change only the parts of its mask. -/

namespace Sys2Proof.Machine

theorem execKvContextFetch_frame {stream : BitVec 20} {s₁ : State} : FrR 131943548063038 s₁ (execKvContextFetch stream s₁) := by
  have h : Fr 131943548063038 s₁ s₁ := Fr.refl
  first | rw [execKvContextFetch] | unfold execKvContextFetch
  repeat' first
    | with_reducible assumption
    | (with_reducible refine FrR.ok ?_)
    | (with_reducible refine State.fetchCtx_frame ?_ rfl)
    | (with_reducible refine Fr.ite ?_ ?_)

theorem execJobPost_frame {s₁ : State} : FrR 131943548062782 s₁ (execJobPost s₁) := by
  have h : Fr 131943548062782 s₁ s₁ := Fr.refl
  first | rw [execJobPost] | unfold execJobPost
  repeat' first
    | with_reducible assumption
    | (with_reducible refine FrR.ok ?_)
    | (with_reducible refine State.postJob_frame ?_ rfl)
    | (with_reducible refine Fr.getD ?_ ?_)

theorem execPushDeadlineMiss_frame {stream : BitVec 20} {layer : Byte} {s₁ : State} : FrR 131947843030334 s₁ (execPushDeadlineMiss stream layer s₁) := by
  have h : Fr 131947843030334 s₁ s₁ := Fr.refl
  first | rw [execPushDeadlineMiss] | unfold execPushDeadlineMiss
  repeat' first
    | with_reducible assumption
    | (with_reducible refine State.late_frame ?_ rfl)
    | (with_reducible refine FrR.ok ?_)
    | (with_reducible refine FrR.ite ?_ ?_)
    | (intro x; clear_value x)
    | (lift_lets; intro x; refine_lift have hb : ∀ y, y = x → Fr 131947843030334 s₁ y := ?_; ?_; all_goals first | (have hx := hb x rfl; clear hb; clear_value x) | (intro y hy; unfold x at hy; rw [hy]; clear hy y))
    | (with_reducible refine State.setCx_frame ?_ rfl)
    | (with_reducible refine State.cnt_frame ?_ rfl)
    | split
    | (with_reducible refine Fr.kv ?_ rfl)

theorem execJobDone_frame {s₁ : State} : FrR 131943548063038 s₁ (execJobDone s₁) := by
  have h : Fr 131943548063038 s₁ s₁ := Fr.refl
  first | rw [execJobDone] | unfold execJobDone
  repeat' first
    | with_reducible assumption
    | (with_reducible refine FrR.ok ?_)
    | (with_reducible refine FrR.ite ?_ ?_)
    | (with_reducible refine State.doneNext_frame ?_ rfl)
    | (with_reducible refine State.jobEnds_frame ?_ rfl)
    | (with_reducible refine State.kvDiscard_frame ?_ rfl)
    | split

theorem execTokenAdvance_frame {s₁ : State} : FrR 131943548063038 s₁ (execTokenAdvance s₁) := by
  have h : Fr 131943548063038 s₁ s₁ := Fr.refl
  first | rw [execTokenAdvance] | unfold execTokenAdvance
  repeat' first
    | with_reducible assumption
    | (with_reducible refine FrR.ok ?_)
    | (with_reducible refine FrR.ite ?_ ?_)
    | (with_reducible refine State.doneNext_frame ?_ rfl)
    | (with_reducible refine State.kvDiscard_frame ?_ rfl)
    | (with_reducible refine State.advance_frame ?_ rfl)
    | split

theorem execCompletionFlagWrite_frame {port : Fin 8} {off : BitVec 12} {len : BitVec 13} {s₁ : State} : FrR 96759175187962 s₁ (execCompletionFlagWrite port off len s₁) := by
  have h : Fr 96759175187962 s₁ s₁ := Fr.refl
  first | rw [execCompletionFlagWrite] | unfold execCompletionFlagWrite
  repeat' first
    | with_reducible assumption
    | (with_reducible refine FrR.ok ?_)
    | (with_reducible refine State.completionFlag_frame ?_ rfl)

theorem execUpstreamRequest_frame {port : Fin 8} {addr : W64} {wr : Bool} {len : BitVec 13} {data : List Byte} {s₁ : State} : FrR 131943547301374 s₁ (execUpstreamRequest port addr wr len data s₁) := by
  have h : Fr 131943547301374 s₁ s₁ := Fr.refl
  first | rw [execUpstreamRequest] | unfold execUpstreamRequest
  repeat' first
    | with_reducible assumption
    | (with_reducible refine FrR.ok ?_)
    | (with_reducible refine FrR.ite ?_ ?_)
    | (lift_lets; intro x; refine_lift have hb : ∀ y, y = x → Fr 131943547301374 s₁ y := ?_; ?_; all_goals first | (have hx := hb x rfl; clear hb; clear_value x) | (intro y hy; unfold x at hy; rw [hy]; clear hy y))
    | (with_reducible refine State.completionFlag_frame ?_ rfl)
    | (with_reducible refine State.load_frame ?_ rfl)
    | (with_reducible refine State.store_frame ?_ rfl)
    | (with_reducible refine State.kvDiscard_frame ?_ rfl)
    | (with_reducible refine Fr.ite ?_ ?_)
    | (with_reducible refine Fr.eq2 (by assumption) ?_)
    | (with_reducible refine Fr.eq22 (by assumption) ?_)
    | split
    | (with_reducible refine Fr.upd_answer32_answerErr ?_ rfl rfl)

theorem execKvEnSet_frame {q : Requester} {v : W32} {s₁ : State} : FrR 131943548062782 s₁ (execKvEnSet q v s₁) := by
  have h : Fr 131943548062782 s₁ s₁ := Fr.refl
  first | rw [execKvEnSet] | unfold execKvEnSet
  repeat' first
    | with_reducible assumption
    | (with_reducible refine FrR.ok ?_)
    | (with_reducible refine writeKvCtl_frame ?_ rfl)

theorem execKvEnClear_frame {q : Requester} {v : W32} {s₁ : State} : FrR 131943548062782 s₁ (execKvEnClear q v s₁) := by
  have h : Fr 131943548062782 s₁ s₁ := Fr.refl
  first | rw [execKvEnClear] | unfold execKvEnClear
  repeat' first
    | with_reducible assumption
    | (with_reducible refine FrR.ok ?_)
    | (with_reducible refine writeKvCtl_frame ?_ rfl)

theorem execKvJobEnSet_frame {q : Requester} {v : W32} {s₁ : State} : FrR 131943548062782 s₁ (execKvJobEnSet q v s₁) := by
  have h : Fr 131943548062782 s₁ s₁ := Fr.refl
  first | rw [execKvJobEnSet] | unfold execKvJobEnSet
  repeat' first
    | with_reducible assumption
    | (with_reducible refine FrR.ok ?_)
    | (with_reducible refine writeKvCtl_frame ?_ rfl)

theorem execKvDoneEnSet_frame {q : Requester} {v : W32} {s₁ : State} : FrR 131943548062782 s₁ (execKvDoneEnSet q v s₁) := by
  have h : Fr 131943548062782 s₁ s₁ := Fr.refl
  first | rw [execKvDoneEnSet] | unfold execKvDoneEnSet
  repeat' first
    | with_reducible assumption
    | (with_reducible refine FrR.ok ?_)
    | (with_reducible refine writeKvCtl_frame ?_ rfl)

theorem execKvRingBaseWrite_frame {q : Requester} {done : Bool} {hi : Bool} {v : W32} {s₁ : State} : FrR 2 s₁ (execKvRingBaseWrite q done hi v s₁) := by
  have h : Fr 2 s₁ s₁ := Fr.refl
  first | rw [execKvRingBaseWrite] | unfold execKvRingBaseWrite
  repeat' first
    | with_reducible assumption
    | (with_reducible refine FrR.ok ?_)
    | (with_reducible refine writeKvRingBase_frame ?_ rfl)

theorem execKvJobHeadWrite_frame {q : Requester} {v : W32} {s₁ : State} : FrR 2 s₁ (execKvJobHeadWrite q v s₁) := by
  have h : Fr 2 s₁ s₁ := Fr.refl
  first | rw [execKvJobHeadWrite] | unfold execKvJobHeadWrite
  repeat' first
    | with_reducible assumption
    | (with_reducible refine FrR.ok ?_)
    | (with_reducible refine writeKvJobHead_frame ?_ rfl)

theorem execKvDoneDb_frame {q : Requester} {v : W32} {s₁ : State} : FrR 2 s₁ (execKvDoneDb q v s₁) := by
  have h : Fr 2 s₁ s₁ := Fr.refl
  first | rw [execKvDoneDb] | unfold execKvDoneDb
  repeat' first
    | with_reducible assumption
    | (with_reducible refine FrR.ok ?_)
    | (with_reducible refine writeKvDoneDb_frame ?_ rfl)

theorem execSynStreamOpen_frame {r : SynReq} {cls : BitVec 6} {stream : Option (BitVec 20)} {pick : BitVec 20} {table : Fin 37748736} {s₁ : State} : FrR 131943548063038 s₁ (execSynStreamOpen r cls stream pick table s₁) := by
  have h : Fr 131943548063038 s₁ s₁ := Fr.refl
  first | rw [execSynStreamOpen] | unfold execSynStreamOpen
  repeat' first
    | with_reducible assumption
    | (with_reducible refine FrR.ok ?_)
    | (intro x; refine_lift have hb : ∀ y, y = x → Fr 131943548063038 s₁ y := ?_; ?_; all_goals first | (have hx := hb x rfl; clear hb; clear_value x) | (intro y hy; unfold x at hy; rw [hy]; clear hy y))
    | (intro x; clear_value x)
    | (lift_lets; intro x; clear_value x)
    | (with_reducible refine State.syn_frame ?_ (fun z h => ?_) rfl)
    | (with_reducible refine success_frame ?_ rfl)
    | (with_reducible refine State.poke_frame ?_ rfl)
    | (with_reducible refine State.tick_frame ?_ rfl)
    | (with_reducible refine State.kvPump_frame ?_ rfl)
    | (with_reducible refine refuse_frame ?_ rfl)
    | (with_reducible refine State.setCtx_frame ?_ rfl)
    | (with_reducible refine State.needSet_frame ?_ rfl)
    | (with_reducible refine Fr1.ite ?_ ?_)
    | split
    | (with_reducible refine Fr.kv ?_ rfl)

theorem execSynStreamClose_frame {r : SynReq} {stream : BitVec 20} {gen : W16} {s₁ : State} : FrR 131943548063038 s₁ (execSynStreamClose r stream gen s₁) := by
  have h : Fr 131943548063038 s₁ s₁ := Fr.refl
  first | rw [execSynStreamClose] | unfold execSynStreamClose
  repeat' first
    | with_reducible assumption
    | (with_reducible refine FrR.ok ?_)
    | (intro x; refine_lift have hb : ∀ y, y = x → Fr 131943548063038 s₁ y := ?_; ?_; all_goals first | (have hx := hb x rfl; clear hb; clear_value x) | (intro y hy; unfold x at hy; rw [hy]; clear hy y))
    | (intro x; clear_value x)
    | (lift_lets; intro x; clear_value x)
    | (with_reducible refine State.syn_frame ?_ (fun z h => ?_) rfl)
    | (with_reducible refine State.onStream_frame ?_ (fun z h => ?_) rfl)
    | (with_reducible refine State.kvSettle_frame ?_ rfl)
    | (with_reducible refine success_frame ?_ rfl)
    | (with_reducible refine State.kvPump_frame ?_ rfl)
    | (with_reducible refine State.setCx_frame ?_ rfl)
    | (with_reducible refine refuse_frame ?_ rfl)
    | (with_reducible refine Fr1.ite ?_ ?_)
    | (with_reducible refine Fr.kv ?_ rfl)

theorem execSynStreamResume_frame {r : SynReq} {stream : BitVec 20} {gen : W16} {t0 : W64} {k0 : BitVec 12} {s₁ : State} : FrR 131943548063038 s₁ (execSynStreamResume r stream gen t0 k0 s₁) := by
  have h : Fr 131943548063038 s₁ s₁ := Fr.refl
  first | rw [execSynStreamResume] | unfold execSynStreamResume
  repeat' first
    | with_reducible assumption
    | (with_reducible refine FrR.ok ?_)
    | (intro x; clear_value x)
    | (lift_lets; intro x; clear_value x)
    | (with_reducible refine State.syn_frame ?_ (fun z h => ?_) rfl)
    | (with_reducible refine State.onStream_frame ?_ (fun z h => ?_) rfl)
    | (with_reducible refine success_frame ?_ rfl)
    | (with_reducible refine State.resumeStream_frame ?_ rfl)
    | (with_reducible refine refuse_frame ?_ rfl)
    | (with_reducible refine Fr1.ite ?_ ?_)
    | split

theorem execSynStreamPark_frame {r : SynReq} {stream : BitVec 20} {gen : W16} {s₁ : State} : FrR 131943548063038 s₁ (execSynStreamPark r stream gen s₁) := by
  have h : Fr 131943548063038 s₁ s₁ := Fr.refl
  first | rw [execSynStreamPark] | unfold execSynStreamPark
  repeat' first
    | with_reducible assumption
    | (with_reducible refine FrR.ok ?_)
    | (intro x; refine_lift have hb : ∀ y, y = x → Fr 131943548063038 s₁ y := ?_; ?_; all_goals first | (have hx := hb x rfl; clear hb; clear_value x) | (intro y hy; unfold x at hy; rw [hy]; clear hy y))
    | (intro x; clear_value x)
    | (lift_lets; intro x; clear_value x)
    | (with_reducible refine State.syn_frame ?_ (fun z h => ?_) rfl)
    | (with_reducible refine State.dropJobs_frame ?_ rfl)
    | (with_reducible refine State.kvRun_frame ?_ rfl)
    | (with_reducible refine State.onStream_frame ?_ (fun z h => ?_) rfl)
    | (with_reducible refine success_frame ?_ rfl)
    | (with_reducible refine State.setCx_frame ?_ rfl)
    | (with_reducible refine refuse_frame ?_ rfl)
    | (with_reducible refine Fr1.ite ?_ ?_)
    | (with_reducible refine Fr.kv ?_ rfl)

theorem execSynStreamMove_frame {r : SynReq} {stream : BitVec 20} {gen : W16} {first : BitVec 9} {count : BitVec 10} {tier : Fin 3} {s₁ : State} : FrR 131943548063038 s₁ (execSynStreamMove r stream gen first count tier s₁) := by
  have h : Fr 131943548063038 s₁ s₁ := Fr.refl
  first | rw [execSynStreamMove] | unfold execSynStreamMove
  repeat' first
    | with_reducible assumption
    | (with_reducible refine FrR.ok ?_)
    | (intro x; clear_value x)
    | (lift_lets; intro x; clear_value x)
    | (with_reducible refine State.syn_frame ?_ (fun z h => ?_) rfl)
    | (with_reducible refine State.addMove_frame ?_ rfl)
    | (with_reducible refine State.onStream_frame ?_ (fun z h => ?_) rfl)
    | (with_reducible refine success_frame ?_ rfl)
    | (with_reducible refine State.kvPump_frame ?_ rfl)
    | (with_reducible refine refuse_frame ?_ rfl)
    | (with_reducible refine Fr.foldl (fun z a h => ?_) ?_)
    | (with_reducible refine Fr1.ite ?_ ?_)

theorem execSynStreamQuery_frame {r : SynReq} {stream : BitVec 20} {gen : W16} {s₁ : State} : FrR 131943548063038 s₁ (execSynStreamQuery r stream gen s₁) := by
  have h : Fr 131943548063038 s₁ s₁ := Fr.refl
  first | rw [execSynStreamQuery] | unfold execSynStreamQuery
  repeat' first
    | with_reducible assumption
    | (with_reducible refine FrR.ok ?_)
    | (with_reducible refine State.syn_frame ?_ (fun z h => ?_) rfl)
    | (with_reducible refine State.onStream_frame ?_ (fun z h => ?_) rfl)
    | (with_reducible refine success_frame ?_ rfl)

theorem execSynStreamRetry_frame {r : SynReq} {stream : BitVec 20} {gen : W16} {s₁ : State} : FrR 131943548063038 s₁ (execSynStreamRetry r stream gen s₁) := by
  have h : Fr 131943548063038 s₁ s₁ := Fr.refl
  first | rw [execSynStreamRetry] | unfold execSynStreamRetry
  repeat' first
    | with_reducible assumption
    | (with_reducible refine FrR.ok ?_)
    | (intro x; refine_lift have hb : ∀ y, y = x → Fr 131943548063038 s₁ y := ?_; ?_; all_goals first | (have hx := hb x rfl; clear hb; clear_value x) | (intro y hy; unfold x at hy; rw [hy]; clear hy y))
    | (intro x; clear_value x)
    | (lift_lets; intro x; refine_lift have hb : ∀ y, y = x → Fr 131943548063038 s₁ y := ?_; ?_; all_goals first | (have hx := hb x rfl; clear hb; clear_value x) | (intro y hy; unfold x at hy; rw [hy]; clear hy y))
    | (lift_lets; intro x; clear_value x)
    | (with_reducible refine State.syn_frame ?_ (fun z h => ?_) rfl)
    | (with_reducible refine State.kvRun_frame ?_ rfl)
    | (with_reducible refine State.onStream_frame ?_ (fun z h => ?_) rfl)
    | (with_reducible refine success_frame ?_ rfl)
    | (with_reducible refine State.syncJobs_frame ?_ rfl)
    | (with_reducible refine State.setCx_frame ?_ rfl)
    | (with_reducible refine refuse_frame ?_ rfl)
    | (with_reducible refine State.mapStream_frame ?_ rfl)
    | (with_reducible refine Fr1.ite ?_ ?_)
    | (with_reducible refine Fr.kv ?_ rfl)

theorem execSynKvClassSet_frame {r : SynReq} {cls : BitVec 6} {rec : List Byte} {s₁ : State} : FrR 131943547014206 s₁ (execSynKvClassSet r cls rec s₁) := by
  have h : Fr 131943547014206 s₁ s₁ := Fr.refl
  first | rw [execSynKvClassSet] | unfold execSynKvClassSet
  repeat' first
    | with_reducible assumption
    | (with_reducible refine FrR.ok ?_)
    | (intro x; clear_value x)
    | (lift_lets; intro x; clear_value x)
    | (with_reducible refine State.syn_frame ?_ (fun z h => ?_) rfl)
    | (with_reducible refine State.poke_frame ?_ rfl)
    | (with_reducible refine refuse_frame ?_ rfl)
    | (with_reducible refine kvAnswer_frame ?_ rfl)
    | (with_reducible refine Fr1.ite ?_ ?_)

theorem execSynKvProfileLoad_frame {r : SynReq} {port : Fin 8} {rec : List Byte} {s₁ : State} : FrR 131943548066878 s₁ (execSynKvProfileLoad r port rec s₁) := by
  have h : Fr 131943548066878 s₁ s₁ := Fr.refl
  first | rw [execSynKvProfileLoad] | unfold execSynKvProfileLoad
  repeat' first
    | with_reducible assumption
    | (with_reducible refine FrR.ok ?_)
    | (with_reducible refine FrR.ite ?_ ?_)
    | (intro x; refine_lift have hb : ∀ y, y = x → Fr 131943548066878 s₁ y := ?_; ?_; all_goals first | (have hx := hb x rfl; clear hb; clear_value x) | (intro y hy; unfold x at hy; rw [hy]; clear hy y))
    | (intro x; refine_lift have hb : ∀ y, y = x → Fr2 131943548066878 s₁ y := ?_; ?_; all_goals first | (have hx := hb x rfl; clear hb; clear_value x) | (intro y hy; unfold x at hy; rw [hy]; clear hy y))
    | (intro x; refine_lift have hb : ∀ y, y = x → Fr22 131943548066878 s₁ y := ?_; ?_; all_goals first | (have hx := hb x rfl; clear hb; clear_value x) | (intro y hy; unfold x at hy; rw [hy]; clear hy y))
    | (intro x; refine_lift have hb : ∀ y, y = x → Fr1 131943548066878 s₁ y := ?_; ?_; all_goals first | (have hx := hb x rfl; clear hb; clear_value x) | (intro y hy; unfold x at hy; rw [hy]; clear hy y))
    | (intro x; clear_value x)
    | (lift_lets; intro x; refine_lift have hb : ∀ y, y = x → Fr 131943548066878 s₁ y := ?_; ?_; all_goals first | (have hx := hb x rfl; clear hb; clear_value x) | (intro y hy; unfold x at hy; rw [hy]; clear hy y))
    | (lift_lets; intro x; refine_lift have hb : ∀ y, y = x → Fr2 131943548066878 s₁ y := ?_; ?_; all_goals first | (have hx := hb x rfl; clear hb; clear_value x) | (intro y hy; unfold x at hy; rw [hy]; clear hy y))
    | (lift_lets; intro x; refine_lift have hb : ∀ y, y = x → Fr22 131943548066878 s₁ y := ?_; ?_; all_goals first | (have hx := hb x rfl; clear hb; clear_value x) | (intro y hy; unfold x at hy; rw [hy]; clear hy y))
    | (lift_lets; intro x; refine_lift have hb : ∀ y, y = x → Fr1 131943548066878 s₁ y := ?_; ?_; all_goals first | (have hx := hb x rfl; clear hb; clear_value x) | (intro y hy; unfold x at hy; rw [hy]; clear hy y))
    | (lift_lets; intro x; clear_value x)
    | (with_reducible exact Fr2.out (by assumption))
    | (with_reducible exact Fr22.out (by assumption))
    | (with_reducible exact Fr1.out (by assumption))
    | (with_reducible refine State.syn_frame ?_ (fun z h => ?_) rfl)
    | (with_reducible refine refuse_frame ?_ rfl)
    | (with_reducible refine Fr1.out (refuse_frame ?_ rfl))
    | (with_reducible refine kvAnswer_frame ?_ rfl)
    | (with_reducible refine Fr1.out (kvAnswer_frame ?_ rfl))
    | (with_reducible refine State.clearMap_frame ?_ rfl)
    | (with_reducible refine Fr.ite ?_ ?_)
    | (with_reducible exact Fr2.out (by assumption))
    | dsimp only
    | split
    | (with_reducible refine Fr.upd_accelWin_kv_pins ?_ rfl rfl rfl)

theorem execSynKvProfileUnload_frame {r : SynReq} {port : Fin 8} {s₁ : State} : FrR 70368745232384 s₁ (execSynKvProfileUnload r port s₁) := by
  have h : Fr 70368745232384 s₁ s₁ := Fr.refl
  first | rw [execSynKvProfileUnload] | unfold execSynKvProfileUnload
  repeat' first
    | with_reducible assumption
    | (with_reducible refine FrR.ok ?_)
    | (intro x; clear_value x)
    | (lift_lets; intro x; clear_value x)
    | (with_reducible refine State.syn_frame ?_ (fun z h => ?_) rfl)
    | (with_reducible refine success_frame ?_ rfl)
    | (with_reducible refine refuse_frame ?_ rfl)
    | (with_reducible refine Fr1.ite ?_ ?_)
    | (with_reducible refine Fr.upd_accelWin_kv_pins ?_ rfl rfl rfl)

end Sys2Proof.Machine
end

