-- ==== Sys2Proof/Laws/ExecEland.lean ====
section
/-! SUPPORT. Frames of the commands of Machine/Eland.lean: each answers a next state and may change only the parts of its mask. -/

namespace Sys2Proof.Machine

theorem execLaunch_frame {cohort : Fin 2} {prefill : Bool} {s₁ : State} : FrR 131943549111358 s₁ (execLaunch cohort prefill s₁) := by
  have h : Fr 131943549111358 s₁ s₁ := Fr.refl
  first | rw [execLaunch] | unfold execLaunch
  repeat' first
    | with_reducible assumption
    | (with_reducible refine FrR.ok ?_)
    | (with_reducible refine FrR.ite ?_ ?_)
    | (lift_lets; intro x; clear_value x)
    | (with_reducible refine State.elCount_frame ?_ rfl)
    | (with_reducible refine State.setElLaunch_frame ?_ rfl)
    | (with_reducible refine State.launchPort_frame ?_ rfl)
    | (with_reducible refine Fr.foldl (fun z a h => ?_) ?_)
    | split
    | (with_reducible refine Fr.eland ?_ rfl)

theorem execTailDone_frame {cohort : Fin 2} {port : Fin 8} {s₁ : State} : FrR 96759177284666 s₁ (execTailDone cohort port s₁) := by
  have h : Fr 96759177284666 s₁ s₁ := Fr.refl
  first | rw [execTailDone] | unfold execTailDone
  repeat' first
    | with_reducible assumption
    | (with_reducible refine FrR.ok ?_)
    | (with_reducible refine FrR.ite ?_ ?_)
    | (with_reducible refine State.translate_frame ?_ rfl)
    | (with_reducible refine State.setElLaunch_frame ?_ rfl)
    | (with_reducible refine State.flagTake_frame ?_ rfl)
    | (with_reducible refine Fr22.out (State.readTails_frame ?_ rfl))
    | (with_reducible refine Fr.eq2 (by assumption) ?_)
    | split

theorem execTailLimitExpiry_frame {cohort : Fin 2} {s₁ : State} : FrR 2097152 s₁ (execTailLimitExpiry cohort s₁) := by
  have h : Fr 2097152 s₁ s₁ := Fr.refl
  first | rw [execTailLimitExpiry] | unfold execTailLimitExpiry
  repeat' first
    | with_reducible assumption
    | (with_reducible refine FrR.ok ?_)
    | (with_reducible refine FrR.ite ?_ ?_)
    | (with_reducible refine State.elCount_frame ?_ rfl)
    | (with_reducible refine State.setElLaunch_frame ?_ rfl)
    | split

theorem execSampling_frame {cohort : Fin 2} {s₁ : State} : FrR 131943550291262 s₁ (execSampling cohort s₁) := by
  have h : Fr 131943550291262 s₁ s₁ := Fr.refl
  first | rw [execSampling] | unfold execSampling
  repeat' first
    | with_reducible assumption
    | (with_reducible refine State.postAdvances_frame ?_ rfl)
    | (with_reducible refine State.samplerScratch_frame ?_ rfl)
    | (with_reducible refine FrR.ok ?_)
    | (with_reducible refine FrR.ite ?_ ?_)
    | (with_reducible refine State.countPositions_frame ?_ rfl)
    | (with_reducible refine State.setElLaunch_frame ?_ rfl)
    | (with_reducible refine State.commitEntry_frame ?_ rfl)
    | (with_reducible refine State.elDetach_frame ?_ rfl)
    | (with_reducible refine Fr.foldl (fun z a h => ?_) ?_)
    | split

theorem execDraftStep_frame {cohort : Fin 2} {j : Fin 9} {order : List (BitVec 20)} {s₁ : State} :
    FrR 131943549242686 s₁ (execDraftStep cohort j order s₁) := by
  have h : Fr 131943549242686 s₁ s₁ := Fr.refl
  first | rw [execDraftStep] | unfold execDraftStep
  repeat' first
    | with_reducible assumption
    | (with_reducible refine FrR.ok ?_)
    | (with_reducible refine FrR.ite ?_ ?_)
    | (intro x; refine_lift have hb : ∀ y, y = x → Fr 131943549242686 s₁ y := ?_; ?_; all_goals first | (have hx := hb x rfl; clear hb; clear_value x) | (intro y hy; unfold x at hy; rw [hy]; clear hy y))
    | (intro x; clear_value x)
    | (lift_lets; intro x; refine_lift have hb : ∀ y, y = x → Fr 131943549242686 s₁ y := ?_; ?_; all_goals first | (have hx := hb x rfl; clear hb; clear_value x) | (intro y hy; unfold x at hy; rw [hy]; clear hy y))
    | (lift_lets; intro x; clear_value x)
    | (with_reducible refine State.postAdvances_frame ?_ rfl)
    | (with_reducible refine State.draftOne_frame ?_ rfl)
    | (with_reducible refine Fr.foldl (fun z a h => ?_) ?_)
    | (with_reducible refine Fr.ite ?_ ?_)
    | (with_reducible refine Fr.eq2 (by assumption) ?_)
    | (with_reducible refine Fr.eq22 (by assumption) ?_)
    | (with_reducible refine Fr.eq1 (by assumption) ?_)
    | (with_reducible refine Fr.eqo (by assumption) ?_)
    | (with_reducible refine Fr.eqo2 (by assumption) ?_)
    | (with_reducible refine Fr.eqo22 (by assumption) ?_)
    | (with_reducible exact Fr2.out (by assumption))
    | dsimp only
    | split

theorem execTokenRecordRelease_frame {s₁ : State} : FrR 131943818595646 s₁ (execTokenRecordRelease s₁) := by
  have h : Fr 131943818595646 s₁ s₁ := Fr.refl
  first | rw [execTokenRecordRelease] | unfold execTokenRecordRelease
  repeat' first
    | with_reducible assumption
    | (with_reducible refine FrR.ok ?_)
    | (with_reducible refine FrR.ite ?_ ?_)
    | (lift_lets; intro x; clear_value x)
    | (with_reducible refine State.releaseRecord_frame ?_ rfl)
    | (with_reducible refine Fr.foldl (fun z a h => ?_) ?_)
    | dsimp only
    | (with_reducible refine Fr.eland ?_ rfl)

theorem execElandIdleTimeout_frame {s₁ : State} : FrR 96759171124282 s₁ (execElandIdleTimeout s₁) := by
  have h : Fr 96759171124282 s₁ s₁ := Fr.refl
  first | rw [execElandIdleTimeout] | unfold execElandIdleTimeout
  repeat' first
    | with_reducible assumption
    | (with_reducible refine FrR.ok ?_)
    | (with_reducible refine FrR.ite ?_ ?_)
    | (with_reducible refine State.fwTarget_frame ?_ rfl)
    | (with_reducible refine Fr.foldl (fun z a h => ?_) ?_)
    | split

theorem execSynElandConfig_frame {r : SynReq} {c : ElandConfigSpec} {s₁ : State} : FrR 2099200 s₁ (execSynElandConfig r c s₁) := by
  have h : Fr 2099200 s₁ s₁ := Fr.refl
  first | rw [execSynElandConfig] | unfold execSynElandConfig
  repeat' first
    | with_reducible assumption
    | (with_reducible refine FrR.ok ?_)
    | (intro x; clear_value x)
    | (lift_lets; intro x; clear_value x)
    | (with_reducible refine State.syn_frame ?_ (fun z h => ?_) rfl)
    | (with_reducible refine success_frame ?_ rfl)
    | (with_reducible refine refuse_frame ?_ rfl)
    | (with_reducible refine Fr1.ite ?_ ?_)
    | (with_reducible refine Fr.eland ?_ rfl)

theorem execSynElandPortSet_frame {r : SynReq} {port : Fin 8} {rec : List Byte} {s₁ : State} : FrR 2099200 s₁ (execSynElandPortSet r port rec s₁) := by
  have h : Fr 2099200 s₁ s₁ := Fr.refl
  first | rw [execSynElandPortSet] | unfold execSynElandPortSet
  repeat' first
    | with_reducible assumption
    | (with_reducible refine FrR.ok ?_)
    | (lift_lets; intro x; clear_value x)
    | (with_reducible refine State.syn_frame ?_ (fun z h => ?_) rfl)
    | (with_reducible refine success_frame ?_ rfl)
    | (with_reducible refine refuse_frame ?_ rfl)
    | (with_reducible refine Fr1.ite ?_ ?_)
    | (with_reducible refine Fr.eland ?_ rfl)

theorem execSynElandDraftLoad_frame {r : SynReq} {addr : W64} {len : Nat} {s₁ : State} : FrR 96760251157822 s₁ (execSynElandDraftLoad r addr len s₁) := by
  have h : Fr 96760251157822 s₁ s₁ := Fr.refl
  first | rw [execSynElandDraftLoad] | unfold execSynElandDraftLoad
  repeat' first
    | with_reducible assumption
    | (with_reducible refine State.wakeForDraft_frame ?_ rfl)
    | (with_reducible refine FrR.ok ?_)
    | (intro x; refine_lift have hb : ∀ y, y = x → Fr 96760251157822 s₁ y := ?_; ?_; all_goals first | (have hx := hb x rfl; clear hb; clear_value x) | (intro y hy; unfold x at hy; rw [hy]; clear hy y))
    | (intro x; clear_value x)
    | (lift_lets; intro x; clear_value x)
    | (with_reducible refine State.syn_frame ?_ (fun z h => ?_) rfl)
    | (with_reducible refine success_frame ?_ rfl)
    | (with_reducible refine State.extendMR_frame ?_ rfl)
    | (with_reducible refine State.tick_frame ?_ rfl)
    | (with_reducible refine refuse_frame ?_ rfl)
    | (with_reducible refine State.putBytes_frame ?_ rfl)
    | (with_reducible refine Fr.foldl (fun z a h => ?_) ?_)
    | (with_reducible refine Fr1.ite ?_ ?_)
    | (with_reducible refine Fr22.out (State.load_frame ?_ rfl))
    | split
    | (with_reducible refine Fr.eland ?_ rfl)

theorem execSynElandAttach_frame {r : SynReq} {stream : BitVec 20} {gen : W16} {f : SamplerSpec} {a : AttachSpec} {s₁ : State} : FrR 131943550553406 s₁ (execSynElandAttach r stream gen f a s₁) := by
  have h : Fr 131943550553406 s₁ s₁ := Fr.refl
  first | rw [execSynElandAttach] | unfold execSynElandAttach
  repeat' first
    | with_reducible assumption
    | (with_reducible refine State.load_frame ?_ rfl)
    | (with_reducible refine Fr22.out (State.load_frame ?_ rfl))
    | (with_reducible refine State.buildDraft_frame ?_ rfl)
    | (with_reducible refine FrR.ok ?_)
    | (intro x; refine_lift have hb : ∀ y, y = x → Fr 131943550553406 s₁ y := ?_; ?_; all_goals first | (have hx := hb x rfl; clear hb; clear_value x) | (intro y hy; unfold x at hy; rw [hy]; clear hy y))
    | (intro x; clear_value x)
    | (lift_lets; intro x; refine_lift have hb : ∀ y, y = x → Fr 131943550553406 s₁ y := ?_; ?_; all_goals first | (have hx := hb x rfl; clear hb; clear_value x) | (intro y hy; unfold x at hy; rw [hy]; clear hy y))
    | (lift_lets; intro x; clear_value x)
    | (with_reducible refine State.appendHistory_frame ?_ rfl)
    | (with_reducible refine State.syn_frame ?_ (fun z h => ?_) rfl)
    | (with_reducible refine State.setSampler_frame ?_ rfl)
    | (with_reducible refine success_frame ?_ rfl)
    | (with_reducible refine State.writeDraft_frame ?_ rfl)
    | (with_reducible refine State.tick_frame ?_ rfl)
    | (with_reducible refine State.onElStream_frame ?_ (fun z h => ?_) rfl)
    | (with_reducible refine State.fwTarget_frame ?_ rfl)
    | (with_reducible refine State.setCx_frame ?_ rfl)
    | (with_reducible refine refuse_frame ?_ rfl)
    | (with_reducible refine Fr.foldl (fun z a h => ?_) ?_)
    | (with_reducible refine Fr1.ite ?_ ?_)
    | split
    | (with_reducible refine Fr.eland ?_ rfl)

theorem execSynElandDetach_frame {r : SynReq} {stream : BitVec 20} {gen : W16} {s₁ : State} : FrR 131943550160190 s₁ (execSynElandDetach r stream gen s₁) := by
  have h : Fr 131943550160190 s₁ s₁ := Fr.refl
  first | rw [execSynElandDetach] | unfold execSynElandDetach
  repeat' first
    | with_reducible assumption
    | (with_reducible refine FrR.ok ?_)
    | (intro x; refine_lift have hb : ∀ y, y = x → Fr 131943550160190 s₁ y := ?_; ?_; all_goals first | (have hx := hb x rfl; clear hb; clear_value x) | (intro y hy; unfold x at hy; rw [hy]; clear hy y))
    | (intro x; clear_value x)
    | (lift_lets; intro x; clear_value x)
    | (with_reducible refine State.syn_frame ?_ (fun z h => ?_) rfl)
    | (with_reducible refine success_frame ?_ rfl)
    | (with_reducible refine State.onElStream_frame ?_ (fun z h => ?_) rfl)
    | (with_reducible refine refuse_frame ?_ rfl)
    | (with_reducible refine State.setElStream_frame ?_ rfl)
    | (with_reducible refine State.elDetach_frame ?_ rfl)
    | (with_reducible refine Fr1.ite ?_ ?_)
    | split
    | (with_reducible refine Fr.eland ?_ rfl)

theorem execSynElandSet_frame {r : SynReq} {stream : BitVec 20} {gen : W16} {f : SamplerSpec} {maxTokens : BitVec 32} {stops : List (BitVec 32)} {s₁ : State} : FrR 131943548063038 s₁ (execSynElandSet r stream gen f maxTokens stops s₁) := by
  have h : Fr 131943548063038 s₁ s₁ := Fr.refl
  first | rw [execSynElandSet] | unfold execSynElandSet
  repeat' first
    | with_reducible assumption
    | (with_reducible refine FrR.ok ?_)
    | (lift_lets; intro x; clear_value x)
    | (with_reducible refine State.syn_frame ?_ (fun z h => ?_) rfl)
    | (with_reducible refine State.setSampler_frame ?_ rfl)
    | (with_reducible refine success_frame ?_ rfl)
    | (with_reducible refine State.onElStream_frame ?_ (fun z h => ?_) rfl)
    | (with_reducible refine refuse_frame ?_ rfl)
    | (with_reducible refine Fr1.ite ?_ ?_)

theorem execSynElandQuery_frame {r : SynReq} {stream : BitVec 20} {gen : W16} {s₁ : State} : FrR 131943548063038 s₁ (execSynElandQuery r stream gen s₁) := by
  have h : Fr 131943548063038 s₁ s₁ := Fr.refl
  first | rw [execSynElandQuery] | unfold execSynElandQuery
  repeat' first
    | with_reducible assumption
    | (with_reducible refine FrR.ok ?_)
    | (with_reducible refine State.syn_frame ?_ (fun z h => ?_) rfl)
    | (with_reducible refine success_frame ?_ rfl)
    | (with_reducible refine State.onElStream_frame ?_ (fun z h => ?_) rfl)

theorem execSynElandStats_frame {r : SynReq} {s₁ : State} : FrR 2048 s₁ (execSynElandStats r s₁) := by
  have h : Fr 2048 s₁ s₁ := Fr.refl
  first | rw [execSynElandStats] | unfold execSynElandStats
  repeat' first
    | with_reducible assumption
    | (with_reducible refine FrR.ok ?_)
    | (with_reducible refine State.syn_frame ?_ (fun z h => ?_) rfl)
    | (with_reducible refine success_frame ?_ rfl)

end Sys2Proof.Machine
end

