-- ==== Sys2Proof/Laws/ExecPacket.lean ====
section
/-! SUPPORT. Frames of the commands of Machine/Packet.lean: each answers a next state and may change only the parts of its mask. -/

namespace Sys2Proof.Machine

theorem execEthernetFrameReceive_frame {port : Fin 8} {frame : List Byte} {s₁ : State} : FrR 131956641631294 s₁ (execEthernetFrameReceive port frame s₁) := by
  have h : Fr 131956641631294 s₁ s₁ := Fr.refl
  first | rw [execEthernetFrameReceive] | unfold execEthernetFrameReceive
  repeat' first
    | with_reducible assumption
    | (with_reducible refine FrR.ok ?_)
    | (with_reducible refine FrR.ite ?_ ?_)
    | (with_reducible refine State.discardFrame_frame ?_ rfl)
    | (with_reducible refine State.ethIn_frame ?_ rfl)
    | (with_reducible refine Fr.ite ?_ ?_)
    | split

theorem execRxwaitExpiry_frame {port : Fin 8} {prio : Fin 8} {s₁ : State} : FrR 131956641631294 s₁ (execRxwaitExpiry port prio s₁) := by
  have h : Fr 131956641631294 s₁ s₁ := Fr.refl
  first | rw [execRxwaitExpiry] | unfold execRxwaitExpiry
  repeat' first
    | with_reducible assumption
    | (with_reducible refine Fr.ofFull (by assumption) ?_)
    | (with_reducible refine State.rxStep_frame ?_ rfl)
    | (with_reducible refine FrR.ok ?_)
    | (with_reducible refine FrR.ite ?_ ?_)
    | (intro x; refine_lift have hb : ∀ y, y = x → Fr 131956641631294 s₁ y := ?_; ?_; all_goals first | (have hx := hb x rfl; clear hb; clear_value x) | (intro y hy; unfold x at hy; rw [hy]; clear hy y))
    | (intro x; clear_value x)
    | (lift_lets; intro x; refine_lift have hb : ∀ y, y = x → Fr 131956641631294 s₁ y := ?_; ?_; all_goals first | (have hx := hb x rfl; clear hb; clear_value x) | (intro y hy; unfold x at hy; rw [hy]; clear hy y))
    | (lift_lets; intro x; clear_value x)
    | (with_reducible refine State.rxStep_frame ?_ rfl)
    | (with_reducible refine State.dropRx_frame ?_ rfl)
    | (with_reducible refine State.pktEvent_frame ?_ rfl)
    | (with_reducible refine State.rxPump_frame ?_ rfl)
    | (with_reducible refine Fr.ite ?_ ?_)
    | (with_reducible refine Fr.eq2 (by assumption) ?_)
    | (with_reducible refine Fr.eq22 (by assumption) ?_)
    | (with_reducible refine Fr.eq1 (by assumption) ?_)
    | (with_reducible refine Fr.eqo (by assumption) ?_)
    | (with_reducible refine Fr.eqo2 (by assumption) ?_)
    | (with_reducible refine Fr.eqo22 (by assumption) ?_)
    | (with_reducible exact Fr2.out (by assumption))
    | dsimp only
    | split

theorem execExactEntryFetch_frame {port : Fin 8} {prio : Fin 8} {s₁ : State} : FrR 131956641631550 s₁ (execExactEntryFetch port prio s₁) := by
  have h : Fr 131956641631550 s₁ s₁ := Fr.refl
  first | rw [execExactEntryFetch] | unfold execExactEntryFetch
  repeat' first
    | with_reducible assumption
    | (with_reducible refine FrR.ok ?_)
    | (with_reducible refine State.fetchBucket_frame ?_ rfl)
    | (with_reducible refine State.rxPump_frame ?_ rfl)
    | split

theorem execEarlyFrag_frame {s₁ : State} : FrR 134217730 s₁ (execEarlyFrag s₁) := by
  have h : Fr 134217730 s₁ s₁ := Fr.refl
  first | rw [execEarlyFrag] | unfold execEarlyFrag
  repeat' first
    | with_reducible assumption
    | (with_reducible refine FrR.ok ?_)
    | (lift_lets; intro x; clear_value x)
    | (with_reducible refine State.cnt_frame ?_ rfl)
    | dsimp only
    | (with_reducible refine Fr.pkt ?_ rfl)

theorem execFragmentIdle_frame {s₁ : State} : FrR 134217730 s₁ (execFragmentIdle s₁) := by
  have h : Fr 134217730 s₁ s₁ := Fr.refl
  first | rw [execFragmentIdle] | unfold execFragmentIdle
  repeat' first
    | with_reducible assumption
    | (with_reducible refine FrR.ok ?_)
    | (with_reducible refine State.setFrags_frame ?_ rfl)

theorem execTransmitChannelFrame_frame {chan : BitVec 12} {s₁ : State} : FrR 402653186 s₁ (execTransmitChannelFrame chan s₁) := by
  have h : Fr 402653186 s₁ s₁ := Fr.refl
  first | rw [execTransmitChannelFrame] | unfold execTransmitChannelFrame
  repeat' first
    | with_reducible assumption
    | (with_reducible refine FrR.ok ?_)
    | (with_reducible refine FrR.ite ?_ ?_)
    | (intro x; clear_value x)
    | (lift_lets; intro x; refine_lift have hb : ∀ y, y = x → Fr 402653186 s₁ y := ?_; ?_; all_goals first | (have hx := hb x rfl; clear hb; clear_value x) | (intro y hy; unfold x at hy; rw [hy]; clear hy y))
    | (with_reducible refine State.pktEvent_frame ?_ rfl)
    | split
    | (with_reducible refine Fr.chanQ ?_ rfl)
    | (with_reducible refine Fr.pkt ?_ rfl)

theorem execFrameStart_frame {chan : BitVec 12} {s₁ : State} : FrR 11215572450 s₁ (execFrameStart chan s₁) := by
  have h : Fr 11215572450 s₁ s₁ := Fr.refl
  first | rw [execFrameStart] | unfold execFrameStart
  repeat' first
    | with_reducible assumption
    | (with_reducible refine FrR.ok ?_)
    | (with_reducible refine FrR.ite ?_ ?_)
    | (intro x; refine_lift have hb : ∀ y, y = x → Fr 11215572450 s₁ y := ?_; ?_; all_goals first | (have hx := hb x rfl; clear hb; clear_value x) | (intro y hy; unfold x at hy; rw [hy]; clear hy y))
    | (intro x; clear_value x)
    | (lift_lets; intro x; refine_lift have hb : ∀ y, y = x → Fr 11215572450 s₁ y := ?_; ?_; all_goals first | (have hx := hb x rfl; clear hb; clear_value x) | (intro y hy; unfold x at hy; rw [hy]; clear hy y))
    | (lift_lets; intro x; clear_value x)
    | (with_reducible refine State.askShaper_frame ?_ rfl)
    | (with_reducible refine State.txStart_frame ?_ rfl)
    | (with_reducible refine Fr.onSome ?_ (fun a => ?_))
    | (with_reducible refine Fr.ite ?_ ?_)
    | (with_reducible refine Fr.eq2 (by assumption) ?_)
    | (with_reducible refine Fr.eq22 (by assumption) ?_)
    | (with_reducible refine Fr.eq1 (by assumption) ?_)
    | (with_reducible refine Fr.eqo (by assumption) ?_)
    | (with_reducible refine Fr.eqo2 (by assumption) ?_)
    | (with_reducible refine Fr.eqo22 (by assumption) ?_)
    | (with_reducible exact Fr2.out (by assumption))
    | dsimp only
    | split

theorem execPktEnSet_frame {q : Requester} {v : W32} {s₁ : State} : FrR 2 s₁ (execPktEnSet q v s₁) := by
  have h : Fr 2 s₁ s₁ := Fr.refl
  first | rw [execPktEnSet] | unfold execPktEnSet
  repeat' first
    | with_reducible assumption
    | (with_reducible refine FrR.ok ?_)
    | (with_reducible refine writePktCtl_frame ?_ rfl)

theorem execSwap_frame {q : Requester} {v : W32} {s₁ : State} : FrR 96759309143098 s₁ (execSwap q v s₁) := by
  have h : Fr 96759309143098 s₁ s₁ := Fr.refl
  first | rw [execSwap] | unfold execSwap
  repeat' first
    | with_reducible assumption
    | (with_reducible refine FrR.ok ?_)
    | (with_reducible refine writePktSwap_frame ?_ rfl)

theorem execSwapDone_frame {s₁ : State} : FrR 134217730 s₁ (execSwapDone s₁) := by
  have h : Fr 134217730 s₁ s₁ := Fr.refl
  first | rw [execSwapDone] | unfold execSwapDone
  repeat' first
    | with_reducible assumption
    | (with_reducible refine FrR.ok ?_)
    | (with_reducible refine State.finishSwap_frame ?_ rfl)

theorem execPktExactInval_frame {q : Requester} {v : W32} {s₁ : State} : FrR 134217730 s₁ (execPktExactInval q v s₁) := by
  have h : Fr 134217730 s₁ s₁ := Fr.refl
  first | rw [execPktExactInval] | unfold execPktExactInval
  repeat' first
    | with_reducible assumption
    | (with_reducible refine FrR.ok ?_)
    | (with_reducible refine writePktExactInval_frame ?_ rfl)

theorem execMacsecEnable_frame {q : Requester} {port : Fin 8} {v : W32} {s₁ : State} : FrR 2 s₁ (execMacsecEnable q port v s₁) := by
  have h : Fr 2 s₁ s₁ := Fr.refl
  first | rw [execMacsecEnable] | unfold execMacsecEnable
  repeat' first
    | with_reducible assumption
    | (with_reducible refine FrR.ok ?_)
    | (with_reducible refine writePktMsecCtl_frame ?_ rfl)

theorem execSynPktBankCommit_frame {r : SynReq} {addr : BitVec 52} {s₁ : State} : FrR 96759309143098 s₁ (execSynPktBankCommit r addr s₁) := by
  have h : Fr 96759309143098 s₁ s₁ := Fr.refl
  first | rw [execSynPktBankCommit] | unfold execSynPktBankCommit
  repeat' first
    | with_reducible assumption
    | (with_reducible refine FrR.ok ?_)
    | (intro x; refine_lift have hb : ∀ y, y = x → Fr 96759309143098 s₁ y := ?_; ?_; all_goals first | (have hx := hb x rfl; clear hb; clear_value x) | (intro y hy; unfold x at hy; rw [hy]; clear hy y))
    | (lift_lets; intro x; refine_lift have hb : ∀ y, y = x → Fr 96759309143098 s₁ y := ?_; ?_; all_goals first | (have hx := hb x rfl; clear hb; clear_value x) | (intro y hy; unfold x at hy; rw [hy]; clear hy y))
    | (lift_lets; intro x; clear_value x)
    | (with_reducible refine State.syn_frame ?_ (fun z h => ?_) rfl)
    | (with_reducible refine State.finishSwap_frame ?_ rfl)
    | (with_reducible refine State.wr64_frame ?_ rfl)
    | (with_reducible refine success_frame ?_ rfl)
    | (with_reducible refine refuse_frame ?_ rfl)
    | (with_reducible refine State.startSwap_frame ?_ rfl)
    | (with_reducible refine Fr1.ite ?_ ?_)
    | (with_reducible refine Fr.eq2 (by assumption) ?_)
    | split

theorem execSynPktExactSet_frame {r : SynReq} {bank : Fin 2} {table : Byte} {key : List Byte} {list : BitVec 12} {s₁ : State} : FrR 131943681231934 s₁ (execSynPktExactSet r bank table key list s₁) := by
  have h : Fr 131943681231934 s₁ s₁ := Fr.refl
  first | rw [execSynPktExactSet] | unfold execSynPktExactSet
  repeat' first
    | with_reducible assumption
    | (with_reducible refine FrR.ok ?_)
    | (intro x; clear_value x)
    | (lift_lets; intro x; clear_value x)
    | (with_reducible refine State.syn_frame ?_ (fun z h => ?_) rfl)
    | (with_reducible refine State.putExact_frame ?_ rfl)
    | (with_reducible refine success_frame ?_ rfl)
    | (with_reducible refine refuse_frame ?_ rfl)
    | (with_reducible refine Fr1.ite ?_ ?_)
    | split

theorem execSynPktExactDel_frame {r : SynReq} {bank : Fin 2} {table : Byte} {key : List Byte} {s₁ : State} : FrR 131943681232190 s₁ (execSynPktExactDel r bank table key s₁) := by
  have h : Fr 131943681232190 s₁ s₁ := Fr.refl
  first | rw [execSynPktExactDel] | unfold execSynPktExactDel
  repeat' first
    | with_reducible assumption
    | (with_reducible refine FrR.ok ?_)
    | (intro x; clear_value x)
    | (lift_lets; intro x; clear_value x)
    | (with_reducible refine State.syn_frame ?_ (fun z h => ?_) rfl)
    | (with_reducible refine State.putExact_frame ?_ rfl)
    | (with_reducible refine success_frame ?_ rfl)
    | (with_reducible refine State.tick_frame ?_ rfl)
    | (with_reducible refine refuse_frame ?_ rfl)
    | split

theorem execSynPktCounterRead_frame {r : SynReq} {first : W16} {count : Fin 257} {s₁ : State} : FrR 2048 s₁ (execSynPktCounterRead r first count s₁) := by
  have h : Fr 2048 s₁ s₁ := Fr.refl
  first | rw [execSynPktCounterRead] | unfold execSynPktCounterRead
  repeat' first
    | with_reducible assumption
    | (with_reducible refine FrR.ok ?_)
    | (with_reducible refine State.syn_frame ?_ (fun z h => ?_) rfl)
    | (with_reducible refine success_frame ?_ rfl)

theorem execSynPktMacsecSaSet_frame {r : SynReq} {m : MsecSpec} {s₁ : State} : FrR 134219776 s₁ (execSynPktMacsecSaSet r m s₁) := by
  have h : Fr 134219776 s₁ s₁ := Fr.refl
  first | rw [execSynPktMacsecSaSet] | unfold execSynPktMacsecSaSet
  repeat' first
    | with_reducible assumption
    | (with_reducible refine FrR.ok ?_)
    | (intro x; clear_value x)
    | (lift_lets; intro x; clear_value x)
    | (with_reducible refine State.syn_frame ?_ (fun z h => ?_) rfl)
    | (with_reducible refine success_frame ?_ rfl)
    | (with_reducible refine State.setMsec_frame ?_ rfl)
    | (with_reducible refine refuse_frame ?_ rfl)
    | (with_reducible refine Fr1.ite ?_ ?_)

theorem execSynPktMacsecTxSwitch_frame {r : SynReq} {port : Fin 8} {s₁ : State} : FrR 2050 s₁ (execSynPktMacsecTxSwitch r port s₁) := by
  have h : Fr 2050 s₁ s₁ := Fr.refl
  first | rw [execSynPktMacsecTxSwitch] | unfold execSynPktMacsecTxSwitch
  repeat' first
    | with_reducible assumption
    | (with_reducible refine FrR.ok ?_)
    | (lift_lets; intro x; clear_value x)
    | (with_reducible refine State.syn_frame ?_ (fun z h => ?_) rfl)
    | (with_reducible refine success_frame ?_ rfl)
    | (with_reducible refine State.sf_frame ?_ rfl)
    | (with_reducible refine refuse_frame ?_ rfl)
    | (with_reducible refine Fr1.ite ?_ ?_)

theorem execSynPktQuery_frame {r : SynReq} {s₁ : State} : FrR 2048 s₁ (execSynPktQuery r s₁) := by
  have h : Fr 2048 s₁ s₁ := Fr.refl
  first | rw [execSynPktQuery] | unfold execSynPktQuery
  repeat' first
    | with_reducible assumption
    | (with_reducible refine FrR.ok ?_)
    | (with_reducible refine State.syn_frame ?_ (fun z h => ?_) rfl)
    | (with_reducible refine success_frame ?_ rfl)

end Sys2Proof.Machine
end

