-- ==== Sys2Proof/Laws/ExecInstances.lean ====
section
/-! SUPPORT. Frames of the commands of Machine/Instances.lean: each answers a next state and may change only the parts of its mask. -/

namespace Sys2Proof.Machine

theorem execBufferTail_frame {i : Fin 2048} {ix : Fin 64} {v : W32} {s₁ : State} : FrR 131956675185982 s₁ (execBufferTail i ix v s₁) := by
  have h : Fr 131956675185982 s₁ s₁ := Fr.refl
  first | rw [execBufferTail] | unfold execBufferTail
  repeat' first
    | with_reducible assumption
    | (with_reducible refine FrR.ok ?_)
    | (with_reducible refine State.bufferTail_frame ?_ rfl)

theorem execDescriptorTail_frame {i : Fin 2048} {ix : Fin 64} {v : W32} {s₁ : State} : FrR 15032388898 s₁ (execDescriptorTail i ix v s₁) := by
  have h : Fr 15032388898 s₁ s₁ := Fr.refl
  first | rw [execDescriptorTail] | unfold execDescriptorTail
  repeat' first
    | with_reducible assumption
    | (with_reducible refine FrR.ok ?_)
    | (with_reducible refine State.tailDoorbell_frame ?_ rfl)

theorem execRequestTail_frame {i : Fin 2048} {ix : Fin 64} {v : W32} {s₁ : State} : FrR 15032388898 s₁ (execRequestTail i ix v s₁) := by
  have h : Fr 15032388898 s₁ s₁ := Fr.refl
  first | rw [execRequestTail] | unfold execRequestTail
  repeat' first
    | with_reducible assumption
    | (with_reducible refine FrR.ok ?_)
    | (with_reducible refine State.tailDoorbell_frame ?_ rfl)

theorem execCompletionHead_frame {i : Fin 2048} {kind : QKind} {ix : Fin 64} {v : W32} {s₁ : State} : FrR 15032387618 s₁ (execCompletionHead i kind ix v s₁) := by
  have h : Fr 15032387618 s₁ s₁ := Fr.refl
  first | rw [execCompletionHead] | unfold execCompletionHead
  repeat' first
    | with_reducible assumption
    | (with_reducible refine FrR.ok ?_)
    | (with_reducible refine State.completionHead_frame ?_ rfl)

theorem execTransmitDescriptorFetch_frame {q : Fin 8192} {out : DmaOut} {s₁ : State} : FrR 131956911115774 s₁ (execTransmitDescriptorFetch q out s₁) := by
  have h : Fr 131956911115774 s₁ s₁ := Fr.refl
  first | rw [execTransmitDescriptorFetch] | unfold execTransmitDescriptorFetch
  repeat' first
    | with_reducible assumption
    | (with_reducible refine State.transmit_frame ?_ rfl)
    | (with_reducible refine State.askShaper_frame ?_ rfl)
    | (with_reducible refine State.freeze_frame ?_ rfl)
    | (with_reducible refine FrR.ok ?_)
    | (with_reducible refine FrR.ite ?_ ?_)
    | (with_reducible refine State.setBucket_frame ?_ rfl)
    | (with_reducible refine State.iqDone_frame ?_ rfl)
    | (with_reducible refine State.iqComplete_frame ?_ rfl)
    | (with_reducible refine State.iqFreeze_frame ?_ rfl)
    | (with_reducible refine State.tick_frame ?_ rfl)
    | (with_reducible refine State.setIq_frame ?_ rfl)
    | split
    | dsimp only
    | (with_reducible refine Fr.chanQ ?_ rfl)

theorem execSynInstCreate_frame {r : SynReq} {inst : Option (Fin 2048)} {pasid : W32} {vecFirst : W16} {vecCount : W16} {maxSto : Byte} {maxRx : Byte} {maxTx : Byte} {maxTrn : Byte} {s₁ : State} : FrR 4294969344 s₁ (execSynInstCreate r inst pasid vecFirst vecCount maxSto maxRx maxTx maxTrn s₁) := by
  have h : Fr 4294969344 s₁ s₁ := Fr.refl
  first | rw [execSynInstCreate] | unfold execSynInstCreate
  repeat' first
    | with_reducible assumption
    | (with_reducible refine FrR.ok ?_)
    | (lift_lets; intro x; clear_value x)
    | (with_reducible refine State.syn_frame ?_ (fun z h => ?_) rfl)
    | (with_reducible refine success_frame ?_ rfl)
    | (with_reducible refine State.setInst_frame ?_ rfl)
    | (with_reducible refine refuse_frame ?_ rfl)
    | (with_reducible refine Fr1.ite ?_ ?_)
    | split

theorem execSynInstEnable_frame {r : SynReq} {s₁ : State} : FrR 4294969600 s₁ (execSynInstEnable r s₁) := by
  have h : Fr 4294969600 s₁ s₁ := Fr.refl
  first | rw [execSynInstEnable] | unfold execSynInstEnable
  repeat' first
    | with_reducible assumption
    | (with_reducible refine FrR.ok ?_)
    | (lift_lets; intro x; clear_value x)
    | (with_reducible refine State.instOp_frame ?_ (fun z i h => ?_) rfl)
    | (with_reducible refine State.syn_frame ?_ (fun z h => ?_) rfl)
    | (with_reducible refine success_frame ?_ rfl)
    | (with_reducible refine State.setInst_frame ?_ rfl)
    | (with_reducible refine refuse_frame ?_ rfl)
    | (with_reducible refine Fr1.ite ?_ ?_)
    | split

theorem execSynInstDisable_frame {r : SynReq} {s₁ : State} : FrR 4294969600 s₁ (execSynInstDisable r s₁) := by
  have h : Fr 4294969600 s₁ s₁ := Fr.refl
  first | rw [execSynInstDisable] | unfold execSynInstDisable
  repeat' first
    | with_reducible assumption
    | (with_reducible refine FrR.ok ?_)
    | (lift_lets; intro x; clear_value x)
    | (with_reducible refine State.instOp_frame ?_ (fun z i h => ?_) rfl)
    | (with_reducible refine State.syn_frame ?_ (fun z h => ?_) rfl)
    | (with_reducible refine success_frame ?_ rfl)
    | (with_reducible refine State.setInst_frame ?_ rfl)
    | (with_reducible refine refuse_frame ?_ rfl)
    | (with_reducible refine Fr1.ite ?_ ?_)

theorem execSynInstReset_frame {r : SynReq} {s₁ : State} : FrR 131957212122430 s₁ (execSynInstReset r s₁) := by
  have h : Fr 131957212122430 s₁ s₁ := Fr.refl
  first | rw [execSynInstReset] | unfold execSynInstReset
  repeat' first
    | with_reducible assumption
    | (with_reducible refine FrR.ok ?_)
    | (lift_lets; intro x; refine_lift have hb : ∀ y, y = x → Fr 131957212122430 s₁ y := ?_; ?_; all_goals first | (have hx := hb x rfl; clear hb; clear_value x) | (intro y hy; unfold x at hy; rw [hy]; clear hy y))
    | (with_reducible refine State.instOp_frame ?_ (fun z i h => ?_) rfl)
    | (with_reducible refine State.syn_frame ?_ (fun z h => ?_) rfl)
    | (with_reducible refine success_frame ?_ rfl)
    | (with_reducible refine State.instReset_frame ?_ rfl)
    | (with_reducible refine refuse_frame ?_ rfl)
    | (with_reducible refine Fr1.ite ?_ ?_)

theorem execSynInstDestroy_frame {r : SynReq} {s₁ : State} : FrR 4328524032 s₁ (execSynInstDestroy r s₁) := by
  have h : Fr 4328524032 s₁ s₁ := Fr.refl
  first | rw [execSynInstDestroy] | unfold execSynInstDestroy
  repeat' first
    | with_reducible assumption
    | (with_reducible refine FrR.ok ?_)
    | (intro x; clear_value x)
    | (lift_lets; intro x; refine_lift have hb : ∀ y, y = x → Fr 4328524032 s₁ y := ?_; ?_; all_goals first | (have hx := hb x rfl; clear hb; clear_value x) | (intro y hy; unfold x at hy; rw [hy]; clear hy y))
    | (lift_lets; intro x; clear_value x)
    | (with_reducible refine State.instOp_frame ?_ (fun z i h => ?_) rfl)
    | (with_reducible refine State.syn_frame ?_ (fun z h => ?_) rfl)
    | (with_reducible refine success_frame ?_ rfl)
    | (with_reducible refine State.setInst_frame ?_ rfl)
    | (with_reducible refine State.setCn_frame ?_ rfl)
    | (with_reducible refine refuse_frame ?_ rfl)
    | (with_reducible refine Fr.foldl (fun z a h => ?_) ?_)
    | (with_reducible refine Fr1.ite ?_ ?_)

theorem execSynInstQueueCreate_frame {r : SynReq} {kind : QKind} {spec : InstQueueSpec} {s₁ : State} : FrR 8623491328 s₁ (execSynInstQueueCreate r kind spec s₁) := by
  have h : Fr 8623491328 s₁ s₁ := Fr.refl
  first | rw [execSynInstQueueCreate] | unfold execSynInstQueueCreate
  repeat' first
    | with_reducible assumption
    | (with_reducible refine FrR.ok ?_)
    | (with_reducible refine FrR.ite ?_ ?_)
    | (intro x; refine_lift have hb : ∀ y, y = x → Fr 8623491328 s₁ y := ?_; ?_; all_goals first | (have hx := hb x rfl; clear hb; clear_value x) | (intro y hy; unfold x at hy; rw [hy]; clear hy y))
    | (intro x; refine_lift have hb : ∀ y, y = x → Fr2 8623491328 s₁ y := ?_; ?_; all_goals first | (have hx := hb x rfl; clear hb; clear_value x) | (intro y hy; unfold x at hy; rw [hy]; clear hy y))
    | (intro x; refine_lift have hb : ∀ y, y = x → Fr22 8623491328 s₁ y := ?_; ?_; all_goals first | (have hx := hb x rfl; clear hb; clear_value x) | (intro y hy; unfold x at hy; rw [hy]; clear hy y))
    | (intro x; refine_lift have hb : ∀ y, y = x → Fr1 8623491328 s₁ y := ?_; ?_; all_goals first | (have hx := hb x rfl; clear hb; clear_value x) | (intro y hy; unfold x at hy; rw [hy]; clear hy y))
    | (intro x; clear_value x)
    | (lift_lets; intro x; refine_lift have hb : ∀ y, y = x → Fr 8623491328 s₁ y := ?_; ?_; all_goals first | (have hx := hb x rfl; clear hb; clear_value x) | (intro y hy; unfold x at hy; rw [hy]; clear hy y))
    | (lift_lets; intro x; refine_lift have hb : ∀ y, y = x → Fr2 8623491328 s₁ y := ?_; ?_; all_goals first | (have hx := hb x rfl; clear hb; clear_value x) | (intro y hy; unfold x at hy; rw [hy]; clear hy y))
    | (lift_lets; intro x; refine_lift have hb : ∀ y, y = x → Fr22 8623491328 s₁ y := ?_; ?_; all_goals first | (have hx := hb x rfl; clear hb; clear_value x) | (intro y hy; unfold x at hy; rw [hy]; clear hy y))
    | (lift_lets; intro x; refine_lift have hb : ∀ y, y = x → Fr1 8623491328 s₁ y := ?_; ?_; all_goals first | (have hx := hb x rfl; clear hb; clear_value x) | (intro y hy; unfold x at hy; rw [hy]; clear hy y))
    | (lift_lets; intro x; clear_value x)
    | (with_reducible exact Fr2.out (by assumption))
    | (with_reducible exact Fr22.out (by assumption))
    | (with_reducible exact Fr1.out (by assumption))
    | (with_reducible refine State.syn_frame ?_ (fun z h => ?_) rfl)
    | (with_reducible refine State.instOp_frame ?_ (fun z i h => ?_) rfl)
    | (with_reducible refine Fr1.out (State.instOp_frame ?_ (fun z i h => ?_) rfl))
    | (with_reducible refine refuse_frame ?_ rfl)
    | (with_reducible refine Fr1.out (refuse_frame ?_ rfl))
    | (with_reducible refine success_frame ?_ rfl)
    | (with_reducible refine Fr1.out (success_frame ?_ rfl))
    | (with_reducible refine State.setIq_frame ?_ rfl)
    | (with_reducible refine Fr.ite ?_ ?_)
    | (with_reducible refine Fr.eq2 (by assumption) ?_)
    | (with_reducible refine Fr.eq22 (by assumption) ?_)
    | (with_reducible refine Fr.eq1 (by assumption) ?_)
    | (with_reducible refine Fr.eqo (by assumption) ?_)
    | (with_reducible refine Fr.eqo2 (by assumption) ?_)
    | (with_reducible refine Fr.eqo22 (by assumption) ?_)
    | (with_reducible exact Fr2.out (by assumption))
    | dsimp only
    | split
    | (with_reducible refine Fr.trn ?_ rfl)

theorem execSynInstQueueDelete_frame {r : SynReq} {kind : QKind} {q : Fin 8192} {s₁ : State} : FrR 131956641631550 s₁ (execSynInstQueueDelete r kind q s₁) := by
  have h : Fr 131956641631550 s₁ s₁ := Fr.refl
  first | rw [execSynInstQueueDelete] | unfold execSynInstQueueDelete
  repeat' first
    | with_reducible assumption
    | (with_reducible refine FrR.ok ?_)
    | (lift_lets; intro x; clear_value x)
    | (with_reducible refine State.pktPump_frame ?_ rfl)
    | (with_reducible refine State.synLater_frame ?_ (fun z h => ?_) rfl)
    | (with_reducible refine State.tick_frame ?_ rfl)
    | (with_reducible refine State.setIq_frame ?_ rfl)
    | (with_reducible refine Fr1.ite ?_ ?_)
    | split
    | (with_reducible refine Fr1.pair ?_)
    | (with_reducible refine Fr.iq ?_ rfl)

theorem execSynInstQueueRestart_frame {r : SynReq} {kind : QKind} {q : Fin 8192} {s₁ : State} : FrR 131956641631550 s₁ (execSynInstQueueRestart r kind q s₁) := by
  have h : Fr 131956641631550 s₁ s₁ := Fr.refl
  first | rw [execSynInstQueueRestart] | unfold execSynInstQueueRestart
  repeat' first
    | with_reducible assumption
    | (with_reducible refine FrR.ok ?_)
    | (lift_lets; intro x; clear_value x)
    | (with_reducible refine State.instOp_frame ?_ (fun z i h => ?_) rfl)
    | (with_reducible refine State.syn_frame ?_ (fun z h => ?_) rfl)
    | (with_reducible refine success_frame ?_ rfl)
    | (with_reducible refine refuseFree_frame ?_ rfl)
    | (with_reducible refine State.flushOwed_frame ?_ rfl)
    | (with_reducible refine State.pktPump_frame ?_ rfl)
    | (with_reducible refine State.setIq_frame ?_ rfl)
    | (with_reducible refine refuse_frame ?_ rfl)
    | (with_reducible refine Fr1.ite ?_ ?_)
    | split

theorem execSynInstResAssign_frame {r : SynReq} {conns : List (BitVec 20)} {assign : Bool} {s₁ : State} : FrR 33556736 s₁ (execSynInstResAssign r conns assign s₁) := by
  have h : Fr 33556736 s₁ s₁ := Fr.refl
  first | rw [execSynInstResAssign] | unfold execSynInstResAssign
  repeat' first
    | with_reducible assumption
    | (with_reducible refine FrR.ok ?_)
    | (lift_lets; intro x; clear_value x)
    | (with_reducible refine State.instOp_frame ?_ (fun z i h => ?_) rfl)
    | (with_reducible refine State.syn_frame ?_ (fun z h => ?_) rfl)
    | (with_reducible refine success_frame ?_ rfl)
    | (with_reducible refine State.setCn_frame ?_ rfl)
    | (with_reducible refine refuse_frame ?_ rfl)
    | (with_reducible refine Fr.foldl (fun z a h => ?_) ?_)
    | (with_reducible refine Fr1.ite ?_ ?_)

theorem execSynInstQuery_frame {r : SynReq} {s₁ : State} : FrR 2304 s₁ (execSynInstQuery r s₁) := by
  have h : Fr 2304 s₁ s₁ := Fr.refl
  first | rw [execSynInstQuery] | unfold execSynInstQuery
  repeat' first
    | with_reducible assumption
    | (with_reducible refine FrR.ok ?_)
    | (intro x; clear_value x)
    | (lift_lets; intro x; clear_value x)
    | (with_reducible refine State.syn_frame ?_ (fun z h => ?_) rfl)
    | (with_reducible refine success_frame ?_ rfl)
    | (with_reducible refine refuseFree_frame ?_ rfl)
    | (with_reducible refine refuse_frame ?_ rfl)
    | (with_reducible refine Fr1.ite ?_ ?_)

end Sys2Proof.Machine
end

