-- ==== Sys2Proof/Laws/ExecCollectives.lean ====
section
/-! SUPPORT. Frames of the commands of Machine/Collectives.lean: each answers a next state and may change only the parts of its mask. -/

namespace Sys2Proof.Machine

theorem execColGrpLoadDone_frame {s₁ : State} : FrR 96759175449918 s₁ (execColGrpLoadDone s₁) := by
  have h : Fr 96759175449918 s₁ s₁ := Fr.refl
  first | rw [execColGrpLoadDone] | unfold execColGrpLoadDone
  repeat' first
    | with_reducible assumption
    | (with_reducible refine FrR.ok ?_)
    | (intro x; refine_lift have hb : ∀ y, y = x → Fr 96759175449918 s₁ y := ?_; ?_; all_goals first | (have hx := hb x rfl; clear hb; clear_value x) | (intro y hy; unfold x at hy; rw [hy]; clear hy y))
    | (lift_lets; intro x; clear_value x)
    | (with_reducible refine State.zeroResiduals_frame ?_ rfl)
    | (with_reducible refine State.colRefusal_frame ?_ rfl)
    | (with_reducible refine State.loadGroup_frame ?_ rfl)
    | (with_reducible refine State.colLoaded_frame ?_ rfl)
    | (with_reducible refine State.sf_frame ?_ rfl)
    | (with_reducible refine State.dropGrp_frame ?_ rfl)
    | (with_reducible refine Fr2.ite ?_ ?_)
    | (with_reducible refine Fr2.out (Fr2.ite ?_ ?_))
    | split
    | (with_reducible refine Fr2.pair ?_)
    | (with_reducible refine Fr.col ?_ rfl)

theorem execColGrpLoad_frame {q : Requester} {v : W32} {s₁ : State} : FrR 524290 s₁ (execColGrpLoad q v s₁) := by
  have h : Fr 524290 s₁ s₁ := Fr.refl
  first | rw [execColGrpLoad] | unfold execColGrpLoad
  repeat' first
    | with_reducible assumption
    | (with_reducible refine FrR.ok ?_)
    | (with_reducible refine writeColGrpLoad_frame ?_ rfl)

theorem execColGrpUnload_frame {q : Requester} {v : W32} {s₁ : State} : FrR 524290 s₁ (execColGrpUnload q v s₁) := by
  have h : Fr 524290 s₁ s₁ := Fr.refl
  first | rw [execColGrpUnload] | unfold execColGrpUnload
  repeat' first
    | with_reducible assumption
    | (with_reducible refine FrR.ok ?_)
    | (with_reducible refine writeColGrpLoad_frame ?_ rfl)

theorem execColGrpZeroResiduals_frame {q : Requester} {v : W32} {s₁ : State} : FrR 524290 s₁ (execColGrpZeroResiduals q v s₁) := by
  have h : Fr 524290 s₁ s₁ := Fr.refl
  first | rw [execColGrpZeroResiduals] | unfold execColGrpZeroResiduals
  repeat' first
    | with_reducible assumption
    | (with_reducible refine FrR.ok ?_)
    | (with_reducible refine writeColGrpLoad_frame ?_ rfl)

theorem execColEnSet_frame {q : Requester} {v : W32} {s₁ : State} : FrR 2 s₁ (execColEnSet q v s₁) := by
  have h : Fr 2 s₁ s₁ := Fr.refl
  first | rw [execColEnSet] | unfold execColEnSet
  repeat' first
    | with_reducible assumption
    | (with_reducible refine FrR.ok ?_)
    | (with_reducible refine writeColCtl_frame ?_ rfl)

theorem execColEnClear_frame {q : Requester} {v : W32} {s₁ : State} : FrR 2 s₁ (execColEnClear q v s₁) := by
  have h : Fr 2 s₁ s₁ := Fr.refl
  first | rw [execColEnClear] | unfold execColEnClear
  repeat' first
    | with_reducible assumption
    | (with_reducible refine FrR.ok ?_)
    | (with_reducible refine writeColCtl_frame ?_ rfl)

theorem execColDb_frame {q : Requester} {n : Fin 32} {v : W32} {s₁ : State} : FrR 65538 s₁ (execColDb q n v s₁) := by
  have h : Fr 65538 s₁ s₁ := Fr.refl
  first | rw [execColDb] | unfold execColDb
  repeat' first
    | with_reducible assumption
    | (with_reducible refine FrR.ok ?_)
    | (with_reducible refine writeColDb_frame ?_ rfl)

theorem execColCmdBaseWrite_frame {q : Requester} {n : Fin 32} {hi : Bool} {v : W32} {s₁ : State} : FrR 65538 s₁ (execColCmdBaseWrite q n hi v s₁) := by
  have h : Fr 65538 s₁ s₁ := Fr.refl
  first | rw [execColCmdBaseWrite] | unfold execColCmdBaseWrite
  repeat' first
    | with_reducible assumption
    | (with_reducible refine FrR.ok ?_)
    | (with_reducible refine writeColCmdBase_frame ?_ rfl)

theorem execColCmplBaseWrite_frame {q : Requester} {n : Fin 32} {hi : Bool} {v : W32} {s₁ : State} : FrR 2 s₁ (execColCmplBaseWrite q n hi v s₁) := by
  have h : Fr 2 s₁ s₁ := Fr.refl
  first | rw [execColCmplBaseWrite] | unfold execColCmplBaseWrite
  repeat' first
    | with_reducible assumption
    | (with_reducible refine FrR.ok ?_)
    | (with_reducible refine writeColCmplBase_frame ?_ rfl)

theorem execColCmdEnSet_frame {q : Requester} {n : Fin 32} {v : W32} {s₁ : State} : FrR 2 s₁ (execColCmdEnSet q n v s₁) := by
  have h : Fr 2 s₁ s₁ := Fr.refl
  first | rw [execColCmdEnSet] | unfold execColCmdEnSet
  repeat' first
    | with_reducible assumption
    | (with_reducible refine FrR.ok ?_)
    | (with_reducible refine writeColQctl_frame ?_ rfl)

theorem execColCmdEnClear_frame {q : Requester} {n : Fin 32} {v : W32} {s₁ : State} : FrR 2 s₁ (execColCmdEnClear q n v s₁) := by
  have h : Fr 2 s₁ s₁ := Fr.refl
  first | rw [execColCmdEnClear] | unfold execColCmdEnClear
  repeat' first
    | with_reducible assumption
    | (with_reducible refine FrR.ok ?_)
    | (with_reducible refine writeColQctl_frame ?_ rfl)

theorem execColCmplEnSet_frame {q : Requester} {n : Fin 32} {v : W32} {s₁ : State} : FrR 2 s₁ (execColCmplEnSet q n v s₁) := by
  have h : Fr 2 s₁ s₁ := Fr.refl
  first | rw [execColCmplEnSet] | unfold execColCmplEnSet
  repeat' first
    | with_reducible assumption
    | (with_reducible refine FrR.ok ?_)
    | (with_reducible refine writeColQctl_frame ?_ rfl)

theorem execColCmplHeadWrite_frame {q : Requester} {n : Fin 32} {v : W32} {s₁ : State} : FrR 2 s₁ (execColCmplHeadWrite q n v s₁) := by
  have h : Fr 2 s₁ s₁ := Fr.refl
  first | rw [execColCmplHeadWrite] | unfold execColCmplHeadWrite
  repeat' first
    | with_reducible assumption
    | (with_reducible refine FrR.ok ?_)
    | (with_reducible refine writeColCmplHead_frame ?_ rfl)

theorem execColHaltedResume_frame {q : Requester} {n : Fin 32} {v : W32} {s₁ : State} : FrR 2 s₁ (execColHaltedResume q n v s₁) := by
  have h : Fr 2 s₁ s₁ := Fr.refl
  first | rw [execColHaltedResume] | unfold execColHaltedResume
  repeat' first
    | with_reducible assumption
    | (with_reducible refine FrR.ok ?_)
    | (with_reducible refine writeColQerr_frame ?_ rfl)

theorem execCollectiveActivate_frame {n : Fin 32} {s₁ : State} : FrR 131957212909054 s₁ (execCollectiveActivate n s₁) := by
  have h : Fr 131957212909054 s₁ s₁ := Fr.refl
  first | rw [execCollectiveActivate] | unfold execCollectiveActivate
  repeat' first
    | with_reducible assumption
    | (with_reducible refine FrR.ok ?_)
    | (with_reducible refine FrR.ite ?_ ?_)
    | (with_reducible refine State.sf_frame ?_ rfl)
    | (with_reducible refine State.colTry_frame ?_ rfl)
    | (with_reducible refine Fr.onSome ?_ (fun a => ?_))
    | (with_reducible refine Fr2.out (State.fetchEntry_frame ?_ rfl))

theorem execCollectiveNop_frame {n : Fin 32} {s₁ : State} : FrR 65536 s₁ (execCollectiveNop n s₁) := by
  have h : Fr 65536 s₁ s₁ := Fr.refl
  first | rw [execCollectiveNop] | unfold execCollectiveNop
  repeat' first
    | with_reducible assumption
    | (with_reducible refine FrR.ok ?_)
    | (with_reducible refine State.colResult_frame ?_ rfl)
    | split

theorem execReduceScatter_frame {g : BitVec 12} {s₁ : State} : FrR 131957212909054 s₁ (execReduceScatter g s₁) := by
  have h : Fr 131957212909054 s₁ s₁ := Fr.refl
  first | rw [execReduceScatter] | unfold execReduceScatter
  repeat' first
    | with_reducible assumption
    | (with_reducible refine FrR.ok ?_)
    | (with_reducible refine State.colStep_frame ?_ rfl)

theorem execAllGather_frame {g : BitVec 12} {s₁ : State} : FrR 131957212909054 s₁ (execAllGather g s₁) := by
  have h : Fr 131957212909054 s₁ s₁ := Fr.refl
  first | rw [execAllGather] | unfold execAllGather
  repeat' first
    | with_reducible assumption
    | (with_reducible refine FrR.ok ?_)
    | (with_reducible refine State.colStep_frame ?_ rfl)

theorem execAllReduce_frame {g : BitVec 12} {s₁ : State} : FrR 131957212909054 s₁ (execAllReduce g s₁) := by
  have h : Fr 131957212909054 s₁ s₁ := Fr.refl
  first | rw [execAllReduce] | unfold execAllReduce
  repeat' first
    | with_reducible assumption
    | (with_reducible refine FrR.ok ?_)
    | (with_reducible refine State.colStep_frame ?_ rfl)

theorem execDispatch_frame {g : BitVec 12} {s₁ : State} : FrR 131957212909054 s₁ (execDispatch g s₁) := by
  have h : Fr 131957212909054 s₁ s₁ := Fr.refl
  first | rw [execDispatch] | unfold execDispatch
  repeat' first
    | with_reducible assumption
    | (with_reducible refine FrR.ok ?_)
    | (with_reducible refine State.colStep_frame ?_ rfl)

theorem execCombine_frame {g : BitVec 12} {s₁ : State} : FrR 131957212909054 s₁ (execCombine g s₁) := by
  have h : Fr 131957212909054 s₁ s₁ := Fr.refl
  first | rw [execCombine] | unfold execCombine
  repeat' first
    | with_reducible assumption
    | (with_reducible refine FrR.ok ?_)
    | (with_reducible refine State.colStep_frame ?_ rfl)

theorem execChunkSend_frame {g : BitVec 12} {port : Fin 32} {others : List (Fin 32 × Nat)} {gap : Nat} {s₁ : State} :
    FrR 131957212646782 s₁ (execChunkSend g port others gap s₁) := by
  have h : Fr 131957212646782 s₁ s₁ := Fr.refl
  first | rw [execChunkSend] | unfold execChunkSend
  repeat' first
    | with_reducible assumption
    | (with_reducible refine State.portCycles_frame ?_ rfl)
    | (with_reducible refine FrR.ok ?_)
    | (with_reducible refine FrR.ite ?_ ?_)
    | (intro x; refine_lift have hb : ∀ y, y = x → Fr 131957212646782 s₁ y := ?_; ?_; all_goals first | (have hx := hb x rfl; clear hb; clear_value x) | (intro y hy; unfold x at hy; rw [hy]; clear hy y))
    | (intro x; clear_value x)
    | (lift_lets; intro x; refine_lift have hb : ∀ y, y = x → Fr 131957212646782 s₁ y := ?_; ?_; all_goals first | (have hx := hb x rfl; clear hb; clear_value x) | (intro y hy; unfold x at hy; rw [hy]; clear hy y))
    | (lift_lets; intro x; clear_value x)
    | (with_reducible refine State.chunkData_frame ?_ rfl)
    | (with_reducible refine Fr2.out (State.chunkData_frame ?_ rfl))
    | (with_reducible refine State.endOp_frame ?_ rfl)
    | (with_reducible refine State.setOp_frame ?_ rfl)
    | (with_reducible refine State.internalMsg_frame ?_ rfl)
    | (with_reducible refine Fr.ite ?_ ?_)
    | (with_reducible refine Fr.eq2 (by assumption) ?_)
    | (with_reducible refine Fr.eq22 (by assumption) ?_)
    | (with_reducible refine Fr.eq1 (by assumption) ?_)
    | (with_reducible refine Fr.eqo (by assumption) ?_)
    | (with_reducible refine Fr.eqo2 (by assumption) ?_)
    | (with_reducible refine Fr.eqo22 (by assumption) ?_)
    | (with_reducible exact Fr2.out (by assumption))
    | dsimp only
    | split

theorem execCollectiveData_frame {conn : BitVec 20} {msn : W32} {s₁ : State} : FrR 131956466322942 s₁ (execCollectiveData conn msn s₁) := by
  have h : Fr 131956466322942 s₁ s₁ := Fr.refl
  first | rw [execCollectiveData] | unfold execCollectiveData
  repeat' first
    | with_reducible assumption
    | (with_reducible refine State.dataParts_frame ?_ rfl)
    | (with_reducible refine Fr2.out (State.dataParts_frame ?_ rfl))
    | (with_reducible refine State.complete_frame ?_ rfl)
    | (with_reducible refine State.putCount_frame ?_ rfl)
    | (with_reducible refine Fr2.out (State.putCount_frame ?_ rfl))
    | (with_reducible refine State.endOp_frame ?_ rfl)
    | (with_reducible refine FrR.ok ?_)
    | (with_reducible refine FrR.ite ?_ ?_)
    | (lift_lets; intro x; clear_value x)
    | (with_reducible refine State.setWindow_frame ?_ rfl)
    | (with_reducible refine State.setOp_frame ?_ rfl)
    | (with_reducible refine State.poke_frame ?_ rfl)
    | (with_reducible refine State.takeInbox_frame ?_ rfl)
    | (with_reducible refine State.colDiscard_frame ?_ rfl)
    | (with_reducible refine Fr.ite ?_ ?_)
    | (with_reducible refine Fr.foldl (fun z a h => ?_) ?_)
    | (with_reducible refine Fr2.out (State.store_frame ?_ rfl))
    | (with_reducible refine Fr.eq2 (by assumption) ?_)
    | split
    | (with_reducible refine Fr.trn ?_ rfl)

theorem execReady_frame {conn : BitVec 20} {msn : W32} {s₁ : State} : FrR 34078722 s₁ (execReady conn msn s₁) := by
  have h : Fr 34078722 s₁ s₁ := Fr.refl
  first | rw [execReady] | unfold execReady
  repeat' first
    | with_reducible assumption
    | (with_reducible refine FrR.ok ?_)
    | (with_reducible refine FrR.ite ?_ ?_)
    | (lift_lets; intro x; clear_value x)
    | (with_reducible refine State.takeInbox_frame ?_ rfl)
    | (with_reducible refine State.setGrp_frame ?_ rfl)
    | (with_reducible refine State.colDiscard_frame ?_ rfl)
    | (with_reducible refine Fr.eq2 (by assumption) ?_)
    | split

theorem execAbort_frame {conn : BitVec 20} {msn : W32} {s₁ : State} : FrR 131957212909054 s₁ (execAbort conn msn s₁) := by
  have h : Fr 131957212909054 s₁ s₁ := Fr.refl
  first | rw [execAbort] | unfold execAbort
  repeat' first
    | with_reducible assumption
    | (with_reducible refine FrR.ok ?_)
    | (with_reducible refine FrR.ite ?_ ?_)
    | (lift_lets; intro x; clear_value x)
    | (with_reducible refine State.abortOp_frame ?_ rfl)
    | (with_reducible refine State.takeInbox_frame ?_ rfl)
    | (with_reducible refine State.colDiscard_frame ?_ rfl)
    | (with_reducible refine Fr.eq2 (by assumption) ?_)
    | split

theorem execCollectiveTimeout_frame {g : BitVec 12} {s₁ : State} : FrR 131957212909054 s₁ (execCollectiveTimeout g s₁) := by
  have h : Fr 131957212909054 s₁ s₁ := Fr.refl
  first | rw [execCollectiveTimeout] | unfold execCollectiveTimeout
  repeat' first
    | with_reducible assumption
    | (with_reducible refine FrR.ok ?_)
    | (with_reducible refine FrR.ite ?_ ?_)
    | (with_reducible refine State.abortOp_frame ?_ rfl)
    | split

theorem execAbortDrainDone_frame {g : BitVec 12} {s₁ : State} : FrR 131943547342142 s₁ (execAbortDrainDone g s₁) := by
  have h : Fr 131943547342142 s₁ s₁ := Fr.refl
  first | rw [execAbortDrainDone] | unfold execAbortDrainDone
  repeat' first
    | with_reducible assumption
    | (with_reducible refine State.freeRanges_frame ?_ rfl)
    | (with_reducible refine FrR.ok ?_)
    | (with_reducible refine FrR.ite ?_ ?_)
    | (intro x; clear_value x)
    | (lift_lets; intro x; clear_value x)
    | (with_reducible refine State.freeWindow_frame ?_ rfl)
    | (with_reducible refine State.endOp_frame ?_ rfl)
    | (with_reducible refine State.poke_frame ?_ rfl)
    | (with_reducible refine State.tick_frame ?_ rfl)
    | split

theorem execCollectiveComplete_frame {n : Fin 32} {ix : W16} {s₁ : State} : FrR 131943547866622 s₁ (execCollectiveComplete n ix s₁) := by
  have h : Fr 131943547866622 s₁ s₁ := Fr.refl
  first | rw [execCollectiveComplete] | unfold execCollectiveComplete
  repeat' first
    | with_reducible assumption
    | (with_reducible refine FrR.ok ?_)
    | (with_reducible refine FrR.ite ?_ ?_)
    | (lift_lets; intro x; clear_value x)
    | (with_reducible refine State.translate_frame ?_ rfl)
    | (with_reducible refine State.colFinish_frame ?_ rfl)
    | (with_reducible refine Fr2.out (Fr2.ite ?_ ?_))
    | split
    | (with_reducible refine Fr2.pair ?_)

theorem execSlotCommit_frame {q : Requester} {v : W32} {s₁ : State} : FrR 96759175449658 s₁ (execSlotCommit q v s₁) := by
  have h : Fr 96759175449658 s₁ s₁ := Fr.refl
  first | rw [execSlotCommit] | unfold execSlotCommit
  repeat' first
    | with_reducible assumption
    | (with_reducible refine FrR.ok ?_)
    | (with_reducible refine writeColSlotCtl_frame ?_ rfl)

theorem execSlotCancel_frame {q : Requester} {v : W32} {s₁ : State} : FrR 96759175449658 s₁ (execSlotCancel q v s₁) := by
  have h : Fr 96759175449658 s₁ s₁ := Fr.refl
  first | rw [execSlotCancel] | unfold execSlotCancel
  repeat' first
    | with_reducible assumption
    | (with_reducible refine FrR.ok ?_)
    | (with_reducible refine writeColSlotCtl_frame ?_ rfl)

theorem execSlotListTakeover_frame {s₁ : State} : FrR 131957213695486 s₁ (execSlotListTakeover s₁) := by
  have h : Fr 131957213695486 s₁ s₁ := Fr.refl
  first | rw [execSlotListTakeover] | unfold execSlotListTakeover
  repeat' first
    | with_reducible assumption
    | (with_reducible refine FrR.ok ?_)
    | (with_reducible refine FrR.ite ?_ ?_)
    | (lift_lets; intro x; clear_value x)
    | (with_reducible refine State.showSlots_frame ?_ rfl)
    | (with_reducible refine State.pumpAll_frame ?_ rfl)
    | (with_reducible refine State.kvTakeover_frame ?_ rfl)
    | split
    | (with_reducible refine Fr.col ?_ rfl)

theorem execSlotBoundary_frame {s₁ : State} : FrR 131957212122622 s₁ (execSlotBoundary s₁) := by
  have h : Fr 131957212122622 s₁ s₁ := Fr.refl
  first | rw [execSlotBoundary] | unfold execSlotBoundary
  repeat' first
    | with_reducible assumption
    | (with_reducible refine FrR.ok ?_)
    | (with_reducible refine State.showSlots_frame ?_ rfl)
    | (with_reducible refine State.pumpAll_frame ?_ rfl)

theorem execSynColGroupCreate_frame {r : SynReq} {g : BitVec 12} {rec_ : Vector Byte 64} {members : List W32} {s₁ : State} : FrR 131943547538750 s₁ (execSynColGroupCreate r g rec_ members s₁) := by
  have h : Fr 131943547538750 s₁ s₁ := Fr.refl
  first | rw [execSynColGroupCreate] | unfold execSynColGroupCreate
  repeat' first
    | with_reducible assumption
    | (with_reducible refine FrR.ok ?_)
    | (intro x; refine_lift have hb : ∀ y, y = x → Fr 131943547538750 s₁ y := ?_; ?_; all_goals first | (have hx := hb x rfl; clear hb; clear_value x) | (intro y hy; unfold x at hy; rw [hy]; clear hy y))
    | (lift_lets; intro x; refine_lift have hb : ∀ y, y = x → Fr 131943547538750 s₁ y := ?_; ?_; all_goals first | (have hx := hb x rfl; clear hb; clear_value x) | (intro y hy; unfold x at hy; rw [hy]; clear hy y))
    | (with_reducible refine State.syn_frame ?_ (fun z h => ?_) rfl)
    | (with_reducible refine success_frame ?_ rfl)
    | (with_reducible refine State.colRefusal_frame ?_ rfl)
    | (with_reducible refine State.loadGroup_frame ?_ rfl)
    | (with_reducible refine State.poke_frame ?_ rfl)
    | (with_reducible refine State.colLoaded_frame ?_ rfl)
    | (with_reducible refine refuse_frame ?_ rfl)
    | (with_reducible refine Fr1.ite ?_ ?_)
    | (with_reducible refine Fr.eq2 (by assumption) ?_)
    | split

theorem execSynColGroupDestroy_frame {r : SynReq} {g : BitVec 12} {s₁ : State} : FrR 526338 s₁ (execSynColGroupDestroy r g s₁) := by
  have h : Fr 526338 s₁ s₁ := Fr.refl
  first | rw [execSynColGroupDestroy] | unfold execSynColGroupDestroy
  repeat' first
    | with_reducible assumption
    | (with_reducible refine FrR.ok ?_)
    | (with_reducible refine State.syn_frame ?_ (fun z h => ?_) rfl)
    | (with_reducible refine success_frame ?_ rfl)
    | (with_reducible refine State.colRefusal_frame ?_ rfl)
    | (with_reducible refine State.colLoaded_frame ?_ rfl)
    | (with_reducible refine State.dropGrp_frame ?_ rfl)
    | (with_reducible refine refuse_frame ?_ rfl)
    | (with_reducible refine Fr1.ite ?_ ?_)

theorem execSynColGroupRebind_frame {r : SynReq} {g : BitVec 12} {rank : Byte} {entry : W32} {epoch : W16} {s₁ : State} : FrR 131943547538750 s₁ (execSynColGroupRebind r g rank entry epoch s₁) := by
  have h : Fr 131943547538750 s₁ s₁ := Fr.refl
  first | rw [execSynColGroupRebind] | unfold execSynColGroupRebind
  repeat' first
    | with_reducible assumption
    | (with_reducible refine FrR.ok ?_)
    | (intro x; refine_lift have hb : ∀ y, y = x → Fr 131943547538750 s₁ y := ?_; ?_; all_goals first | (have hx := hb x rfl; clear hb; clear_value x) | (intro y hy; unfold x at hy; rw [hy]; clear hy y))
    | (intro x; clear_value x)
    | (lift_lets; intro x; clear_value x)
    | (with_reducible refine State.syn_frame ?_ (fun z h => ?_) rfl)
    | (with_reducible refine success_frame ?_ rfl)
    | (with_reducible refine State.zeroResiduals_frame ?_ rfl)
    | (with_reducible refine State.colRefusal_frame ?_ rfl)
    | (with_reducible refine State.loadGroup_frame ?_ rfl)
    | (with_reducible refine State.poke_frame ?_ rfl)
    | (with_reducible refine State.colLoaded_frame ?_ rfl)
    | (with_reducible refine State.dropGrp_frame ?_ rfl)
    | (with_reducible refine refuse_frame ?_ rfl)
    | (with_reducible refine Fr1.ite ?_ ?_)
    | (with_reducible refine Fr.eq2 (by assumption) ?_)
    | split

theorem execSynColSchedLoad_frame {r : SynReq} {basetime : W64} {entries : List W64} {s₁ : State} : FrR 526338 s₁ (execSynColSchedLoad r basetime entries s₁) := by
  have h : Fr 526338 s₁ s₁ := Fr.refl
  first | rw [execSynColSchedLoad] | unfold execSynColSchedLoad
  repeat' first
    | with_reducible assumption
    | (with_reducible refine FrR.ok ?_)
    | (lift_lets; intro x; clear_value x)
    | (with_reducible refine State.syn_frame ?_ (fun z h => ?_) rfl)
    | (with_reducible refine success_frame ?_ rfl)
    | (with_reducible refine State.colRefusal_frame ?_ rfl)
    | (with_reducible refine refuse_frame ?_ rfl)
    | (with_reducible refine Fr1.ite ?_ ?_)
    | (with_reducible refine Fr1.out (State.slotCommit_frame ?_ rfl))
    | split

theorem execSynColAbort_frame {r : SynReq} {g : BitVec 12} {s₁ : State} : FrR 131957212909054 s₁ (execSynColAbort r g s₁) := by
  have h : Fr 131957212909054 s₁ s₁ := Fr.refl
  first | rw [execSynColAbort] | unfold execSynColAbort
  repeat' first
    | with_reducible assumption
    | (with_reducible refine FrR.ok ?_)
    | (with_reducible refine State.syn_frame ?_ (fun z h => ?_) rfl)
    | (with_reducible refine success_frame ?_ rfl)
    | (with_reducible refine State.abortOp_frame ?_ rfl)
    | (with_reducible refine refuse_frame ?_ rfl)
    | (with_reducible refine Fr1.ite ?_ ?_)

theorem execSynColQuery_frame {r : SynReq} {g : BitVec 12} {buffer : BitVec 15} {s₁ : State} : FrR 2304 s₁ (execSynColQuery r g buffer s₁) := by
  have h : Fr 2304 s₁ s₁ := Fr.refl
  first | rw [execSynColQuery] | unfold execSynColQuery
  repeat' first
    | with_reducible assumption
    | (with_reducible refine FrR.ok ?_)
    | (intro x; clear_value x)
    | (lift_lets; intro x; clear_value x)
    | (with_reducible refine State.syn_frame ?_ (fun z h => ?_) rfl)
    | (with_reducible refine success_frame ?_ rfl)
    | (with_reducible refine State.tick_frame ?_ rfl)

end Sys2Proof.Machine
end

