-- ==== Sys2Proof/Laws/ExecPower.lean ====
section
/-! SUPPORT. Frames of the commands of Machine/Power.lean: each answers a next state and may change only the parts of its mask. -/

namespace Sys2Proof.Machine

theorem execPwrLevelsWrite_frame {q : Requester} {v : W32} {s₁ : State} : FrR 2 s₁ (execPwrLevelsWrite q v s₁) := by
  have h : Fr 2 s₁ s₁ := Fr.refl
  first | rw [execPwrLevelsWrite] | unfold execPwrLevelsWrite
  repeat' first
    | with_reducible assumption
    | (with_reducible refine FrR.ok ?_)
    | (with_reducible refine writePwrLevels_frame ?_ rfl)

theorem execLevelChangeDone_frame {die : Fin 8} {s₁ : State} : FrR 2199023255552 s₁ (execLevelChangeDone die s₁) := by
  have h : Fr 2199023255552 s₁ s₁ := Fr.refl
  first | rw [execLevelChangeDone] | unfold execLevelChangeDone
  repeat' first
    | with_reducible assumption
    | (with_reducible refine FrR.ok ?_)
    | (lift_lets; intro x; clear_value x)
    | (with_reducible refine Fr.pwr ?_ rfl)

theorem execCurrentRead_frame {rails : List RailRead} {fixedNj : Nat} {s₁ : State} : FrR 98958198180898 s₁ (execCurrentRead rails fixedNj s₁) := by
  have h : Fr 98958198180898 s₁ s₁ := Fr.refl
  first | rw [execCurrentRead] | unfold execCurrentRead
  repeat' first
    | with_reducible assumption
    | (with_reducible refine FrR.ok ?_)
    | (lift_lets; intro x; clear_value x)
    | (with_reducible refine State.wr64_frame ?_ rfl)
    | (with_reducible refine State.fastDrop_frame ?_ rfl)
    | (with_reducible refine State.readRail_frame ?_ rfl)
    | (with_reducible refine Fr.ite ?_ ?_)
    | (with_reducible refine Fr.foldl (fun z a h => ?_) ?_)
    | (with_reducible refine Fr.pwr ?_ rfl)

theorem execDroop_frame {die : Fin 8} {low : Bool} {s₁ : State} : FrR 2199023255552 s₁ (execDroop die low s₁) := by
  have h : Fr 2199023255552 s₁ s₁ := Fr.refl
  first | rw [execDroop] | unfold execDroop
  repeat' first
    | with_reducible assumption
    | (with_reducible refine FrR.ok ?_)
    | (lift_lets; intro x; clear_value x)
    | split
    | (with_reducible refine Fr.pwr ?_ rfl)

theorem execBudgetSilence_frame {s₁ : State} : FrR 2199023255554 s₁ (execBudgetSilence s₁) := by
  have h : Fr 2199023255554 s₁ s₁ := Fr.refl
  first | rw [execBudgetSilence] | unfold execBudgetSilence
  repeat' first
    | with_reducible assumption
    | (with_reducible refine FrR.ok ?_)
    | (with_reducible refine FrR.ite ?_ ?_)
    | (lift_lets; intro x; clear_value x)
    | (with_reducible refine State.setLevel_frame ?_ rfl)
    | (with_reducible refine Fr.foldl (fun z a h => ?_) ?_)
    | (with_reducible refine Fr.pwr ?_ rfl)

theorem execDieTempUpdate_frame {dies : List Byte} {io : Byte} {s₁ : State} : FrR 98958198180898 s₁ (execDieTempUpdate dies io s₁) := by
  have h : Fr 98958198180898 s₁ s₁ := Fr.refl
  first | rw [execDieTempUpdate] | unfold execDieTempUpdate
  repeat' first
    | with_reducible assumption
    | (with_reducible refine FrR.ok ?_)
    | (with_reducible refine State.dieUpdate_frame ?_ rfl)
    | (with_reducible refine Fr.foldl (fun z a h => ?_) ?_)

theorem execGovernorWindow_frame {work : List PwrWork} {s₁ : State} : FrR 2201170742306 s₁ (execGovernorWindow work s₁) := by
  have h : Fr 2201170742306 s₁ s₁ := Fr.refl
  first | rw [execGovernorWindow] | unfold execGovernorWindow
  repeat' first
    | with_reducible assumption
    | (with_reducible refine FrR.ok ?_)
    | (with_reducible refine FrR.ite ?_ ?_)
    | (lift_lets; intro x; clear_value x)
    | (with_reducible refine State.govern_frame ?_ rfl)
    | (with_reducible refine State.sf_frame ?_ rfl)
    | (with_reducible refine Fr.pwr ?_ rfl)

theorem execPwrEnSet_frame {q : Requester} {v : W32} {s₁ : State} : FrR 2 s₁ (execPwrEnSet q v s₁) := by
  have h : Fr 2 s₁ s₁ := Fr.refl
  first | rw [execPwrEnSet] | unfold execPwrEnSet
  repeat' first
    | with_reducible assumption
    | (with_reducible refine FrR.ok ?_)
    | (with_reducible refine writePwrCtl_frame ?_ rfl)

theorem execIpfixExport_frame {takes : Bool} {s₁ : State} : FrR 2199291691008 s₁ (execIpfixExport takes s₁) := by
  have h : Fr 2199291691008 s₁ s₁ := Fr.refl
  first | rw [execIpfixExport] | unfold execIpfixExport
  repeat' first
    | with_reducible assumption
    | (with_reducible refine FrR.ok ?_)
    | (with_reducible refine FrR.ite ?_ ?_)
    | (lift_lets; intro x; clear_value x)
    | (with_reducible refine Fr2.out (State.telSend_frame ?_ rfl))
    | split
    | dsimp only
    | (with_reducible refine Fr.pwr ?_ rfl)

theorem execIpfixTemplate_frame {takes : Bool} {s₁ : State} : FrR 2199291691008 s₁ (execIpfixTemplate takes s₁) := by
  have h : Fr 2199291691008 s₁ s₁ := Fr.refl
  first | rw [execIpfixTemplate] | unfold execIpfixTemplate
  repeat' first
    | with_reducible assumption
    | (with_reducible refine FrR.ok ?_)
    | (with_reducible refine FrR.ite ?_ ?_)
    | (with_reducible refine State.telTemplate_frame ?_ rfl)
    | split

theorem execSetEndpointId_frame {op : Fin 4} {eid : Byte} {s₁ : State} : FrR 4398046519296 s₁ (execSetEndpointId op eid s₁) := by
  have h : Fr 4398046519296 s₁ s₁ := Fr.refl
  first | rw [execSetEndpointId] | unfold execSetEndpointId
  repeat' first
    | with_reducible assumption
    | (with_reducible refine FrR.ok ?_)
    | (with_reducible refine FrR.ite ?_ ?_)
    | (lift_lets; intro x; clear_value x)
    | (with_reducible refine State.islandAnswer_frame ?_ rfl)
    | (with_reducible refine Fr.aon ?_ rfl)

theorem execGetEndpointId_frame {s₁ : State} : FrR 8192 s₁ (execGetEndpointId s₁) := by
  have h : Fr 8192 s₁ s₁ := Fr.refl
  first | rw [execGetEndpointId] | unfold execGetEndpointId
  repeat' first
    | with_reducible assumption
    | (with_reducible refine FrR.ok ?_)
    | (with_reducible refine State.islandAnswer_frame ?_ rfl)

theorem execGetMctpVersionSupport_frame {type : Byte} {s₁ : State} : FrR 8448 s₁ (execGetMctpVersionSupport type s₁) := by
  have h : Fr 8448 s₁ s₁ := Fr.refl
  first | rw [execGetMctpVersionSupport] | unfold execGetMctpVersionSupport
  repeat' first
    | with_reducible assumption
    | (with_reducible refine FrR.ok ?_)
    | (with_reducible refine FrR.ite ?_ ?_)
    | (with_reducible refine State.tick_frame ?_ rfl)
    | (with_reducible refine State.islandAnswer_frame ?_ rfl)

theorem execGetMessageTypeSupport_frame {s₁ : State} : FrR 8192 s₁ (execGetMessageTypeSupport s₁) := by
  have h : Fr 8192 s₁ s₁ := Fr.refl
  first | rw [execGetMessageTypeSupport] | unfold execGetMessageTypeSupport
  repeat' first
    | with_reducible assumption
    | (with_reducible refine FrR.ok ?_)
    | (with_reducible refine State.islandAnswer_frame ?_ rfl)

theorem execGetEndpointUuid_frame {s₁ : State} : FrR 8192 s₁ (execGetEndpointUuid s₁) := by
  have h : Fr 8192 s₁ s₁ := Fr.refl
  first | rw [execGetEndpointUuid] | unfold execGetEndpointUuid
  repeat' first
    | with_reducible assumption
    | (with_reducible refine FrR.ok ?_)
    | (with_reducible refine State.islandAnswer_frame ?_ rfl)

theorem execGettid_frame {s₁ : State} : FrR 8192 s₁ (execGettid s₁) := by
  have h : Fr 8192 s₁ s₁ := Fr.refl
  first | rw [execGettid] | unfold execGettid
  repeat' first
    | with_reducible assumption
    | (with_reducible refine FrR.ok ?_)
    | (with_reducible refine State.islandAnswer_frame ?_ rfl)

theorem execSettid_frame {tid : Byte} {s₁ : State} : FrR 4398046519296 s₁ (execSettid tid s₁) := by
  have h : Fr 4398046519296 s₁ s₁ := Fr.refl
  first | rw [execSettid] | unfold execSettid
  repeat' first
    | with_reducible assumption
    | (with_reducible refine FrR.ok ?_)
    | (with_reducible refine FrR.ite ?_ ?_)
    | (lift_lets; intro x; clear_value x)
    | (with_reducible refine State.islandAnswer_frame ?_ rfl)
    | (with_reducible refine Fr.aon ?_ rfl)

theorem execGetpldmversion_frame {type : Byte} {s₁ : State} : FrR 8448 s₁ (execGetpldmversion type s₁) := by
  have h : Fr 8448 s₁ s₁ := Fr.refl
  first | rw [execGetpldmversion] | unfold execGetpldmversion
  repeat' first
    | with_reducible assumption
    | (with_reducible refine FrR.ok ?_)
    | (with_reducible refine FrR.ite ?_ ?_)
    | (with_reducible refine State.tick_frame ?_ rfl)
    | (with_reducible refine State.islandAnswer_frame ?_ rfl)

theorem execGetpldmtypes_frame {s₁ : State} : FrR 8192 s₁ (execGetpldmtypes s₁) := by
  have h : Fr 8192 s₁ s₁ := Fr.refl
  first | rw [execGetpldmtypes] | unfold execGetpldmtypes
  repeat' first
    | with_reducible assumption
    | (with_reducible refine FrR.ok ?_)
    | (with_reducible refine State.islandAnswer_frame ?_ rfl)

theorem execGetpldmcommands_frame {type : Byte} {s₁ : State} : FrR 8192 s₁ (execGetpldmcommands type s₁) := by
  have h : Fr 8192 s₁ s₁ := Fr.refl
  first | rw [execGetpldmcommands] | unfold execGetpldmcommands
  repeat' first
    | with_reducible assumption
    | (with_reducible refine FrR.ok ?_)
    | (with_reducible refine State.islandAnswer_frame ?_ rfl)
    | split

theorem execGetpdrrepositoryinfo_frame {s₁ : State} : FrR 8448 s₁ (execGetpdrrepositoryinfo s₁) := by
  have h : Fr 8448 s₁ s₁ := Fr.refl
  first | rw [execGetpdrrepositoryinfo] | unfold execGetpdrrepositoryinfo
  repeat' first
    | with_reducible assumption
    | (with_reducible refine FrR.ok ?_)
    | (with_reducible refine State.tick_frame ?_ rfl)
    | (with_reducible refine State.islandAnswer_frame ?_ rfl)

theorem execGetpdr_frame {handle : W32} {s₁ : State} : FrR 8192 s₁ (execGetpdr handle s₁) := by
  have h : Fr 8192 s₁ s₁ := Fr.refl
  first | rw [execGetpdr] | unfold execGetpdr
  repeat' first
    | with_reducible assumption
    | (with_reducible refine FrR.ok ?_)
    | (with_reducible refine FrR.ite ?_ ?_)
    | (with_reducible refine State.islandAnswer_frame ?_ rfl)

theorem execGetsensorreading_frame {sensor : W16} {s₁ : State} : FrR 8192 s₁ (execGetsensorreading sensor s₁) := by
  have h : Fr 8192 s₁ s₁ := Fr.refl
  first | rw [execGetsensorreading] | unfold execGetsensorreading
  repeat' first
    | with_reducible assumption
    | (with_reducible refine FrR.ok ?_)
    | (with_reducible refine FrR.ite ?_ ?_)
    | (with_reducible refine State.islandAnswer_frame ?_ rfl)

theorem execGetsensorthresholds_frame {sensor : W16} {s₁ : State} : FrR 8192 s₁ (execGetsensorthresholds sensor s₁) := by
  have h : Fr 8192 s₁ s₁ := Fr.refl
  first | rw [execGetsensorthresholds] | unfold execGetsensorthresholds
  repeat' first
    | with_reducible assumption
    | (with_reducible refine FrR.ok ?_)
    | (with_reducible refine FrR.ite ?_ ?_)
    | (with_reducible refine State.islandAnswer_frame ?_ rfl)

theorem execWakeRequest_frame {s₁ : State} : FrR 70368744185856 s₁ (execWakeRequest s₁) := by
  have h : Fr 70368744185856 s₁ s₁ := Fr.refl
  first | rw [execWakeRequest] | unfold execWakeRequest
  repeat' first
    | with_reducible assumption
    | (with_reducible refine FrR.ok ?_)
    | (with_reducible refine FrR.ite ?_ ?_)
    | (lift_lets; intro x; clear_value x)
    | (with_reducible refine State.islandAnswer_frame ?_ rfl)
    | (with_reducible refine Fr.pins ?_ rfl)

theorem execSynPwrLimitSet_frame {r : SynReq} {limit : W16} {s₁ : State} : FrR 2050 s₁ (execSynPwrLimitSet r limit s₁) := by
  have h : Fr 2050 s₁ s₁ := Fr.refl
  first | rw [execSynPwrLimitSet] | unfold execSynPwrLimitSet
  repeat' first
    | with_reducible assumption
    | (with_reducible refine FrR.ok ?_)
    | (with_reducible refine State.syn_frame ?_ (fun z h => ?_) rfl)
    | (with_reducible refine success_frame ?_ rfl)
    | (with_reducible refine State.sf_frame ?_ rfl)
    | (with_reducible refine refuse_frame ?_ rfl)
    | (with_reducible refine Fr1.ite ?_ ?_)

theorem execSynPwrQuery_frame {r : SynReq} {s₁ : State} : FrR 2048 s₁ (execSynPwrQuery r s₁) := by
  have h : Fr 2048 s₁ s₁ := Fr.refl
  first | rw [execSynPwrQuery] | unfold execSynPwrQuery
  repeat' first
    | with_reducible assumption
    | (with_reducible refine FrR.ok ?_)
    | (with_reducible refine State.syn_frame ?_ (fun z h => ?_) rfl)
    | (with_reducible refine success_frame ?_ rfl)

theorem execSynPwrClassSet_frame {r : SynReq} {cls : Fin 64} {record : List Byte} {s₁ : State} : FrR 2199023257602 s₁ (execSynPwrClassSet r cls record s₁) := by
  have h : Fr 2199023257602 s₁ s₁ := Fr.refl
  first | rw [execSynPwrClassSet] | unfold execSynPwrClassSet
  repeat' first
    | with_reducible assumption
    | (with_reducible refine State.sf_frame ?_ rfl)
    | (with_reducible refine FrR.ok ?_)
    | (lift_lets; intro x; clear_value x)
    | (with_reducible refine State.syn_frame ?_ (fun z h => ?_) rfl)
    | (with_reducible refine success_frame ?_ rfl)
    | (with_reducible refine refuse_frame ?_ rfl)
    | (with_reducible refine Fr1.ite ?_ ?_)
    | (with_reducible refine Fr.pwr ?_ rfl)

theorem execSynPwrFloorSet_frame {r : SynReq} {level : Byte} {s₁ : State} : FrR 2050 s₁ (execSynPwrFloorSet r level s₁) := by
  have h : Fr 2050 s₁ s₁ := Fr.refl
  first | rw [execSynPwrFloorSet] | unfold execSynPwrFloorSet
  repeat' first
    | with_reducible assumption
    | (with_reducible refine FrR.ok ?_)
    | (with_reducible refine State.syn_frame ?_ (fun z h => ?_) rfl)
    | (with_reducible refine success_frame ?_ rfl)
    | (with_reducible refine State.sf_frame ?_ rfl)
    | (with_reducible refine refuse_frame ?_ rfl)
    | (with_reducible refine Fr1.ite ?_ ?_)

theorem execSynTelExportSet_frame {r : SynReq} {spec : ExportSpec} {s₁ : State} : FrR 2199291693058 s₁ (execSynTelExportSet r spec s₁) := by
  have h : Fr 2199291693058 s₁ s₁ := Fr.refl
  first | rw [execSynTelExportSet] | unfold execSynTelExportSet
  repeat' first
    | with_reducible assumption
    | (with_reducible refine FrR.ok ?_)
    | (intro x; clear_value x)
    | (lift_lets; intro x; clear_value x)
    | (with_reducible refine State.syn_frame ?_ (fun z h => ?_) rfl)
    | (with_reducible refine success_frame ?_ rfl)
    | (with_reducible refine State.sf_frame ?_ rfl)
    | (with_reducible refine State.telTemplate_frame ?_ rfl)
    | (with_reducible refine refuse_frame ?_ rfl)
    | (with_reducible refine Fr1.ite ?_ ?_)
    | (with_reducible refine Fr.pwr ?_ rfl)

theorem execSynTelQuery_frame {r : SynReq} {s₁ : State} : FrR 2048 s₁ (execSynTelQuery r s₁) := by
  have h : Fr 2048 s₁ s₁ := Fr.refl
  first | rw [execSynTelQuery] | unfold execSynTelQuery
  repeat' first
    | with_reducible assumption
    | (with_reducible refine FrR.ok ?_)
    | (with_reducible refine State.syn_frame ?_ (fun z h => ?_) rfl)
    | (with_reducible refine success_frame ?_ rfl)
    | split

end Sys2Proof.Machine
end

