-- ==== Sys2Proof/Laws/ExecSecurity.lean ====
section
/-! SUPPORT. Frames of the commands of Machine/Security.lean: each answers a next state and may change only the parts of its mask. -/

namespace Sys2Proof.Machine

theorem execEntropyHealthFail_frame {source : Fin 4} {proportion : Bool} {s₁ : State} : FrR 96759174925346 s₁ (execEntropyHealthFail source proportion s₁) := by
  have h : Fr 96759174925346 s₁ s₁ := Fr.refl
  first | rw [execEntropyHealthFail] | unfold execEntropyHealthFail
  repeat' first
    | with_reducible assumption
    | (with_reducible refine FrR.ok ?_)
    | (with_reducible refine State.fault_frame ?_ rfl)
    | (with_reducible refine State.sf_frame ?_ rfl)

theorem execReseed_frame {s₁ : State} : FrR 1073742080 s₁ (execReseed s₁) := by
  have h : Fr 1073742080 s₁ s₁ := Fr.refl
  first | rw [execReseed] | unfold execReseed
  repeat' first
    | with_reducible assumption
    | (with_reducible refine FrR.ok ?_)
    | (intro x; clear_value x)
    | (lift_lets; intro x; refine_lift have hb : ∀ y, y = x → Fr 1073742080 s₁ y := ?_; ?_; all_goals first | (have hx := hb x rfl; clear hb; clear_value x) | (intro y hy; unfold x at hy; rw [hy]; clear hy y))
    | (with_reducible refine State.tick_frame ?_ rfl)
    | (with_reducible refine Fr.sec ?_ rfl)

theorem execKeyRefsZero_frame {k : Fin 4096} {s₁ : State} : FrR 131957715373374 s₁ (execKeyRefsZero k s₁) := by
  have h : Fr 131957715373374 s₁ s₁ := Fr.refl
  first | rw [execKeyRefsZero] | unfold execKeyRefsZero
  repeat' first
    | with_reducible assumption
    | (with_reducible refine FrR.ok ?_)
    | (with_reducible refine FrR.ite ?_ ?_)
    | (with_reducible refine State.writeSlot_frame ?_ rfl)
    | (with_reducible refine State.endWait_frame ?_ rfl)
    | split

theorem execKeyLoadWithdrawn_frame {k : Fin 4096} {s₁ : State} : FrR 131957715373374 s₁ (execKeyLoadWithdrawn k s₁) := by
  have h : Fr 131957715373374 s₁ s₁ := Fr.refl
  first | rw [execKeyLoadWithdrawn] | unfold execKeyLoadWithdrawn
  repeat' first
    | with_reducible assumption
    | (with_reducible refine FrR.ok ?_)
    | (with_reducible refine FrR.ite ?_ ?_)
    | (with_reducible refine State.endWait_frame ?_ rfl)
    | (with_reducible refine State.cnt_frame ?_ rfl)
    | split

theorem execSynKeyLoad_frame {r : SynReq} {k : Fin 4096} {type : Byte} {owner : W16} {wrappable : Bool} {key : List Byte} {waitMs : Option Nat} {s₁ : State} : FrR 1073743874 s₁ (execSynKeyLoad r k type owner wrappable key waitMs s₁) := by
  have h : Fr 1073743874 s₁ s₁ := Fr.refl
  first | rw [execSynKeyLoad] | unfold execSynKeyLoad
  repeat' first
    | with_reducible assumption
    | (with_reducible refine FrR.ok ?_)
    | (with_reducible refine State.keyWrite_frame ?_ rfl)
    | (with_reducible refine State.synLater_frame ?_ (fun z h => ?_) rfl)
    | (with_reducible refine Fr1.ite ?_ ?_)
    | split
    | (with_reducible refine Fr1.pair ?_)

theorem execSynKeyUnwrap_frame {r : SynReq} {k : Fin 4096} {wrap : Fin 4096} {owner : W16} {wrappable : Bool} {blob : List Byte} {waitMs : Option Nat} {s₁ : State} : FrR 1073744130 s₁ (execSynKeyUnwrap r k wrap owner wrappable blob waitMs s₁) := by
  have h : Fr 1073744130 s₁ s₁ := Fr.refl
  first | rw [execSynKeyUnwrap] | unfold execSynKeyUnwrap
  repeat' first
    | with_reducible assumption
    | (with_reducible refine FrR.ok ?_)
    | (with_reducible refine State.keyUseOrStall_frame ?_ rfl)
    | (with_reducible refine State.synLater_frame ?_ (fun z h => ?_) rfl)
    | (with_reducible refine State.tick_frame ?_ rfl)
    | (with_reducible refine Fr1.ite ?_ ?_)
    | split
    | (with_reducible refine Fr1.pair ?_)

theorem execSynKeyWrap_frame {r : SynReq} {k : Fin 4096} {wrap : Fin 4096} {s₁ : State} : FrR 1073744130 s₁ (execSynKeyWrap r k wrap s₁) := by
  have h : Fr 1073744130 s₁ s₁ := Fr.refl
  first | rw [execSynKeyWrap] | unfold execSynKeyWrap
  repeat' first
    | with_reducible assumption
    | (with_reducible refine FrR.ok ?_)
    | (with_reducible refine State.keyUseOrStall_frame ?_ rfl)
    | (with_reducible refine State.synLater_frame ?_ (fun z h => ?_) rfl)

theorem execSynKeyClear_frame {r : SynReq} {k : Fin 4096} {waitMs : Option Nat} {s₁ : State} : FrR 1073744130 s₁ (execSynKeyClear r k waitMs s₁) := by
  have h : Fr 1073744130 s₁ s₁ := Fr.refl
  first | rw [execSynKeyClear] | unfold execSynKeyClear
  repeat' first
    | with_reducible assumption
    | (with_reducible refine FrR.ok ?_)
    | (with_reducible refine State.keyWrite_frame ?_ rfl)
    | (with_reducible refine State.synLater_frame ?_ (fun z h => ?_) rfl)
    | (with_reducible refine State.tick_frame ?_ rfl)
    | (with_reducible refine Fr1.ite ?_ ?_)
    | split
    | (with_reducible refine Fr1.pair ?_)

theorem execSynKeyQuery_frame {r : SynReq} {k : Fin 4096} {s₁ : State} : FrR 2048 s₁ (execSynKeyQuery r k s₁) := by
  have h : Fr 2048 s₁ s₁ := Fr.refl
  first | rw [execSynKeyQuery] | unfold execSynKeyQuery
  repeat' first
    | with_reducible assumption
    | (with_reducible refine FrR.ok ?_)
    | (lift_lets; intro x; clear_value x)
    | (with_reducible refine State.syn_frame ?_ (fun z h => ?_) rfl)
    | (with_reducible refine success_frame ?_ rfl)

theorem execGcmEnc_frame {src : SecSource} {s₁ : State} : FrR 131944687930686 s₁ (execGcmEnc src s₁) := by
  have h : Fr 131944687930686 s₁ s₁ := Fr.refl
  first | rw [execGcmEnc] | unfold execGcmEnc
  repeat' first
    | with_reducible assumption
    | (with_reducible refine FrR.ok ?_)
    | (with_reducible refine State.msgBegin_frame ?_ rfl)

theorem execGcmDec_frame {src : SecSource} {s₁ : State} : FrR 131944687930686 s₁ (execGcmDec src s₁) := by
  have h : Fr 131944687930686 s₁ s₁ := Fr.refl
  first | rw [execGcmDec] | unfold execGcmDec
  repeat' first
    | with_reducible assumption
    | (with_reducible refine FrR.ok ?_)
    | (with_reducible refine State.msgBegin_frame ?_ rfl)

theorem execXtsEnc_frame {src : SecSource} {s₁ : State} : FrR 131944687930686 s₁ (execXtsEnc src s₁) := by
  have h : Fr 131944687930686 s₁ s₁ := Fr.refl
  first | rw [execXtsEnc] | unfold execXtsEnc
  repeat' first
    | with_reducible assumption
    | (with_reducible refine FrR.ok ?_)
    | (with_reducible refine State.msgBegin_frame ?_ rfl)

theorem execXtsDec_frame {src : SecSource} {s₁ : State} : FrR 131944687930686 s₁ (execXtsDec src s₁) := by
  have h : Fr 131944687930686 s₁ s₁ := Fr.refl
  first | rw [execXtsDec] | unfold execXtsDec
  repeat' first
    | with_reducible assumption
    | (with_reducible refine FrR.ok ?_)
    | (with_reducible refine State.msgBegin_frame ?_ rfl)

theorem execShake256_frame {src : SecSource} {s₁ : State} : FrR 131944687930686 s₁ (execShake256 src s₁) := by
  have h : Fr 131944687930686 s₁ s₁ := Fr.refl
  first | rw [execShake256] | unfold execShake256
  repeat' first
    | with_reducible assumption
    | (with_reducible refine FrR.ok ?_)
    | (with_reducible refine State.msgBegin_frame ?_ rfl)

theorem execUrgentSuspend_frame {s₁ : State} : FrR 1073741824 s₁ (execUrgentSuspend s₁) := by
  have h : Fr 1073741824 s₁ s₁ := Fr.refl
  first | rw [execUrgentSuspend] | unfold execUrgentSuspend
  repeat' first
    | with_reducible assumption
    | (with_reducible refine FrR.ok ?_)
    | (with_reducible refine FrR.ite ?_ ?_)
    | (lift_lets; intro x; clear_value x)
    | split
    | (with_reducible refine Fr.sec ?_ rfl)

theorem execMessageEngineComplete_frame {s₁ : State} : FrR 131944620821822 s₁ (execMessageEngineComplete s₁) := by
  have h : Fr 131944620821822 s₁ s₁ := Fr.refl
  first | rw [execMessageEngineComplete] | unfold execMessageEngineComplete
  repeat' first
    | with_reducible assumption
    | (with_reducible refine FrR.ok ?_)
    | (with_reducible refine FrR.ite ?_ ?_)
    | (intro x; clear_value x)
    | (lift_lets; intro x; refine_lift have hb : ∀ y, y = x → Fr 131944620821822 s₁ y := ?_; ?_; all_goals first | (have hx := hb x rfl; clear hb; clear_value x) | (intro y hy; unfold x at hy; rw [hy]; clear hy y))
    | (lift_lets; intro x; clear_value x)
    | (with_reducible refine State.writeBlocks_frame ?_ rfl)
    | (with_reducible refine State.retire_frame ?_ rfl)
    | (with_reducible refine State.ringRecord_frame ?_ rfl)
    | (with_reducible refine State.countAuth_frame ?_ rfl)
    | (with_reducible refine Fr.ite ?_ ?_)
    | split
    | dsimp only
    | (with_reducible refine Fr.sec ?_ rfl)

theorem execSecMsgEnSet_frame {q : Requester} {v : W32} {s₁ : State} : FrR 2 s₁ (execSecMsgEnSet q v s₁) := by
  have h : Fr 2 s₁ s₁ := Fr.refl
  first | rw [execSecMsgEnSet] | unfold execSecMsgEnSet
  repeat' first
    | with_reducible assumption
    | (with_reducible refine FrR.ok ?_)
    | (with_reducible refine writeSecCtl_frame ?_ rfl)

theorem execSecReqDb_frame {q : Requester} {v : W32} {s₁ : State} : FrR 65538 s₁ (execSecReqDb q v s₁) := by
  have h : Fr 65538 s₁ s₁ := Fr.refl
  first | rw [execSecReqDb] | unfold execSecReqDb
  repeat' first
    | with_reducible assumption
    | (with_reducible refine FrR.ok ?_)
    | (with_reducible refine writeSecReqDb_frame ?_ rfl)

theorem execSecCmdEnSet_frame {q : Requester} {v : W32} {s₁ : State} : FrR 2 s₁ (execSecCmdEnSet q v s₁) := by
  have h : Fr 2 s₁ s₁ := Fr.refl
  first | rw [execSecCmdEnSet] | unfold execSecCmdEnSet
  repeat' first
    | with_reducible assumption
    | (with_reducible refine FrR.ok ?_)
    | (with_reducible refine writeSecRctl_frame ?_ rfl)

theorem execSecCmplHeadWrite_frame {q : Requester} {v : W32} {s₁ : State} : FrR 2 s₁ (execSecCmplHeadWrite q v s₁) := by
  have h : Fr 2 s₁ s₁ := Fr.refl
  first | rw [execSecCmplHeadWrite] | unfold execSecCmplHeadWrite
  repeat' first
    | with_reducible assumption
    | (with_reducible refine FrR.ok ?_)
    | (with_reducible refine writeSecCmplHead_frame ?_ rfl)

theorem execSynSecAttest_frame {r : SynReq} {nonce : List Byte} {userdata : List Byte} {s₁ : State} : FrR 1073743872 s₁ (execSynSecAttest r nonce userdata s₁) := by
  have h : Fr 1073743872 s₁ s₁ := Fr.refl
  first | rw [execSynSecAttest] | unfold execSynSecAttest
  repeat' first
    | with_reducible assumption
    | (with_reducible refine FrR.ok ?_)
    | (lift_lets; intro x; clear_value x)
    | (with_reducible refine State.synLater_frame ?_ (fun z h => ?_) rfl)
    | (with_reducible refine State.signStart_frame ?_ rfl)
    | (with_reducible refine Fr1.ite ?_ ?_)
    | (with_reducible refine Fr1.pair ?_)
    | (with_reducible refine Fr.sec ?_ rfl)

theorem execAttestSigned_frame {s₁ : State} : FrR 1073744128 s₁ (execAttestSigned s₁) := by
  have h : Fr 1073744128 s₁ s₁ := Fr.refl
  first | rw [execAttestSigned] | unfold execAttestSigned
  repeat' first
    | with_reducible assumption
    | (with_reducible refine FrR.ok ?_)
    | (intro x; refine_lift have hb : ∀ y, y = x → Fr 1073744128 s₁ y := ?_; ?_; all_goals first | (have hx := hb x rfl; clear hb; clear_value x) | (intro y hy; unfold x at hy; rw [hy]; clear hy y))
    | (intro x; clear_value x)
    | (lift_lets; intro x; refine_lift have hb : ∀ y, y = x → Fr 1073744128 s₁ y := ?_; ?_; all_goals first | (have hx := hb x rfl; clear hb; clear_value x) | (intro y hy; unfold x at hy; rw [hy]; clear hy y))
    | (with_reducible refine State.answer_frame ?_ rfl)
    | (with_reducible refine State.tick_frame ?_ rfl)
    | (with_reducible refine State.signStart_frame ?_ rfl)
    | split
    | dsimp only
    | (with_reducible refine Fr.sec ?_ rfl)

theorem execSynSecExtend_frame {r : SynReq} {ix : Byte} {tag : W32} {digest : List Byte} {s₁ : State} : FrR 1073743872 s₁ (execSynSecExtend r ix tag digest s₁) := by
  have h : Fr 1073743872 s₁ s₁ := Fr.refl
  first | rw [execSynSecExtend] | unfold execSynSecExtend
  repeat' first
    | with_reducible assumption
    | (with_reducible refine FrR.ok ?_)
    | (lift_lets; intro x; refine_lift have hb : ∀ y, y = x → Fr 1073743872 s₁ y := ?_; ?_; all_goals first | (have hx := hb x rfl; clear hb; clear_value x) | (intro y hy; unfold x at hy; rw [hy]; clear hy y))
    | (with_reducible refine State.syn_frame ?_ (fun z h => ?_) rfl)
    | (with_reducible refine success_frame ?_ rfl)
    | (with_reducible refine State.extendMR_frame ?_ rfl)
    | (with_reducible refine refuse_frame ?_ rfl)
    | (with_reducible refine Fr1.ite ?_ ?_)

theorem execSynSecLogRead_frame {r : SynReq} {first : Nat} {count : Nat} {s₁ : State} : FrR 2048 s₁ (execSynSecLogRead r first count s₁) := by
  have h : Fr 2048 s₁ s₁ := Fr.refl
  first | rw [execSynSecLogRead] | unfold execSynSecLogRead
  repeat' first
    | with_reducible assumption
    | (with_reducible refine FrR.ok ?_)
    | (with_reducible refine State.syn_frame ?_ (fun z h => ?_) rfl)
    | (with_reducible refine success_frame ?_ rfl)

theorem execSynSecEnrol_frame {r : SynReq} {s₁ : State} : FrR 18253613314 s₁ (execSynSecEnrol r s₁) := by
  have h : Fr 18253613314 s₁ s₁ := Fr.refl
  first | rw [execSynSecEnrol] | unfold execSynSecEnrol
  repeat' first
    | with_reducible assumption
    | (with_reducible refine FrR.ok ?_)
    | (intro x; refine_lift have hb : ∀ y, y = x → Fr 18253613314 s₁ y := ?_; ?_; all_goals first | (have hx := hb x rfl; clear hb; clear_value x) | (intro y hy; unfold x at hy; rw [hy]; clear hy y))
    | (intro x; clear_value x)
    | (lift_lets; intro x; clear_value x)
    | (with_reducible refine State.syn_frame ?_ (fun z h => ?_) rfl)
    | (with_reducible refine success_frame ?_ rfl)
    | (with_reducible refine State.setIdentity_frame ?_ rfl)
    | (with_reducible refine State.tick_frame ?_ rfl)
    | (with_reducible refine State.showCert_frame ?_ rfl)
    | (with_reducible refine refuse_frame ?_ rfl)
    | (with_reducible refine Fr1.ite ?_ ?_)
    | (with_reducible refine Fr.flash ?_ rfl)

theorem execSynSecCertSet_frame {r : SynReq} {cert : List Byte} {s₁ : State} : FrR 17179871234 s₁ (execSynSecCertSet r cert s₁) := by
  have h : Fr 17179871234 s₁ s₁ := Fr.refl
  first | rw [execSynSecCertSet] | unfold execSynSecCertSet
  repeat' first
    | with_reducible assumption
    | (with_reducible refine FrR.ok ?_)
    | (lift_lets; intro x; clear_value x)
    | (with_reducible refine State.syn_frame ?_ (fun z h => ?_) rfl)
    | (with_reducible refine success_frame ?_ rfl)
    | (with_reducible refine State.showCert_frame ?_ rfl)
    | (with_reducible refine refuse_frame ?_ rfl)
    | (with_reducible refine Fr1.ite ?_ ?_)
    | (with_reducible refine Fr.flash ?_ rfl)

theorem execSynSecDebugChallenge_frame {r : SynReq} {s₁ : State} : FrR 1073744128 s₁ (execSynSecDebugChallenge r s₁) := by
  have h : Fr 1073744128 s₁ s₁ := Fr.refl
  first | rw [execSynSecDebugChallenge] | unfold execSynSecDebugChallenge
  repeat' first
    | with_reducible assumption
    | (with_reducible refine FrR.ok ?_)
    | (lift_lets; intro x; refine_lift have hb : ∀ y, y = x → Fr 1073744128 s₁ y := ?_; ?_; all_goals first | (have hx := hb x rfl; clear hb; clear_value x) | (intro y hy; unfold x at hy; rw [hy]; clear hy y))
    | (with_reducible refine State.syn_frame ?_ (fun z h => ?_) rfl)
    | (with_reducible refine success_frame ?_ rfl)
    | (with_reducible refine State.newChallenge_frame ?_ rfl)

theorem execSynSecDebugUnlock_frame {r : SynReq} {token : List Byte} {s₁ : State} : FrR 1073744130 s₁ (execSynSecDebugUnlock r token s₁) := by
  have h : Fr 1073744130 s₁ s₁ := Fr.refl
  first | rw [execSynSecDebugUnlock] | unfold execSynSecDebugUnlock
  repeat' first
    | with_reducible assumption
    | (with_reducible refine FrR.ok ?_)
    | (lift_lets; intro x; refine_lift have hb : ∀ y, y = x → Fr 1073744130 s₁ y := ?_; ?_; all_goals first | (have hx := hb x rfl; clear hb; clear_value x) | (intro y hy; unfold x at hy; rw [hy]; clear hy y))
    | (with_reducible refine State.debugUnlock_frame ?_ rfl)
    | (with_reducible refine State.syn_frame ?_ (fun z h => ?_) rfl)
    | (with_reducible refine success_frame ?_ rfl)
    | (with_reducible refine refuse_frame ?_ rfl)
    | (with_reducible refine Fr1.ite ?_ ?_)

end Sys2Proof.Machine
end

