-- ==== Sys2Proof/Laws/ExecFirmware.lean ====
section
/-! SUPPORT. Frames of the commands of Machine/Firmware.lean: each answers a next state and may change only the parts of its mask. -/

namespace Sys2Proof.Machine

theorem execDevEnableSet_frame {q : Requester} {v : W32} {s₁ : State} : FrR 2 s₁ (execDevEnableSet q v s₁) := by
  have h : Fr 2 s₁ s₁ := Fr.refl
  first | rw [execDevEnableSet] | unfold execDevEnableSet
  repeat' first
    | with_reducible assumption
    | (with_reducible refine FrR.ok ?_)
    | (with_reducible refine writeDevEnable_frame ?_ rfl)

theorem execDevEnableClear_frame {q : Requester} {v : W32} {s₁ : State} : FrR 2 s₁ (execDevEnableClear q v s₁) := by
  have h : Fr 2 s₁ s₁ := Fr.refl
  first | rw [execDevEnableClear] | unfold execDevEnableClear
  repeat' first
    | with_reducible assumption
    | (with_reducible refine FrR.ok ?_)
    | (with_reducible refine writeDevEnable_frame ?_ rfl)

theorem execGo_frame {q : Requester} {v : W32} {s₁ : State} : FrR 2 s₁ (execGo q v s₁) := by
  have h : Fr 2 s₁ s₁ := Fr.refl
  first | rw [execGo] | unfold execGo
  repeat' first
    | with_reducible assumption
    | (with_reducible refine FrR.ok ?_)
    | (with_reducible refine writeLoadCtl_frame ?_ rfl)

theorem execLoadDone_frame {readOk : Bool} {s₁ : State} : FrR 133078525939006 s₁ (execLoadDone readOk s₁) := by
  have h : Fr 133078525939006 s₁ s₁ := Fr.refl
  first | rw [execLoadDone] | unfold execLoadDone
  repeat' first
    | with_reducible assumption
    | (with_reducible refine State.withdraw_frame ?_ rfl)
    | (with_reducible refine State.modeUpdate_frame ?_ rfl)
    | (with_reducible refine FrR.ok ?_)
    | (with_reducible refine FrR.ite ?_ ?_)
    | (intro x; refine_lift have hb : ∀ y, y = x → Fr 133078525939006 s₁ y := ?_; ?_; all_goals first | (have hx := hb x rfl; clear hb; clear_value x) | (intro y hy; unfold x at hy; rw [hy]; clear hy y))
    | (intro x; clear_value x)
    | (lift_lets; intro x; refine_lift have hb : ∀ y, y = x → Fr 133078525939006 s₁ y := ?_; ?_; all_goals first | (have hx := hb x rfl; clear hb; clear_value x) | (intro y hy; unfold x at hy; rw [hy]; clear hy y))
    | (with_reducible refine State.wr64_frame ?_ rfl)
    | (with_reducible refine State.poke_frame ?_ rfl)
    | (with_reducible refine State.extendMR_frame ?_ rfl)
    | (with_reducible refine State.sf_frame ?_ rfl)
    | (with_reducible refine State.loadHalf_frame ?_ rfl)
    | (with_reducible refine State.tick_frame ?_ rfl)
    | (with_reducible refine Fr.foldl (fun z a h => ?_) ?_)
    | split
    | (with_reducible refine Fr.upd_fw_pins ?_ rfl rfl)

theorem execCoreStart_frame {c : Fin 32} {s₁ : State} : FrR 9345848836096 s₁ (execCoreStart c s₁) := by
  have h : Fr 9345848836096 s₁ s₁ := Fr.refl
  first | rw [execCoreStart] | unfold execCoreStart
  repeat' first
    | with_reducible assumption
    | (with_reducible refine FrR.ok ?_)
    | (with_reducible refine FrR.ite ?_ ?_)
    | (intro x; clear_value x)
    | (lift_lets; intro x; clear_value x)
    | (with_reducible refine State.setTahr_frame ?_ rfl)
    | (with_reducible refine Fr.flt ?_ rfl)

theorem execDevHeartbeat_frame {q : Requester} {v : W32} {s₁ : State} : FrR 2048 s₁ (execDevHeartbeat q v s₁) := by
  have h : Fr 2048 s₁ s₁ := Fr.refl
  first | rw [execDevHeartbeat] | unfold execDevHeartbeat
  repeat' first
    | with_reducible assumption
    | (with_reducible refine FrR.ok ?_)
    | (with_reducible refine writeHeartbeat_frame ?_ rfl)

theorem execSessionLost_frame {m : Fin 8} {s₁ : State} : FrR 131957178502206 s₁ (execSessionLost m s₁) := by
  have h : Fr 131957178502206 s₁ s₁ := Fr.refl
  first | rw [execSessionLost] | unfold execSessionLost
  repeat' first
    | with_reducible assumption
    | (with_reducible refine FrR.ok ?_)
    | (with_reducible refine FrR.ite ?_ ?_)
    | (lift_lets; intro x; clear_value x)
    | (with_reducible refine State.instQuiesce_frame ?_ rfl)
    | (with_reducible refine State.setMb_frame ?_ rfl)
    | (with_reducible refine State.event_frame ?_ rfl)
    | (with_reducible refine Fr.ite ?_ ?_)
    | (with_reducible refine Fr.foldl (fun z a h => ?_) ?_)
    | split

theorem execMbxGo_frame {q : Requester} {m : Fin 8} {s₁ : State} : FrR 549755815938 s₁ (execMbxGo q m s₁) := by
  have h : Fr 549755815938 s₁ s₁ := Fr.refl
  first | rw [execMbxGo] | unfold execMbxGo
  repeat' first
    | with_reducible assumption
    | (with_reducible refine FrR.ok ?_)
    | (with_reducible refine writeMbxCtl_frame ?_ rfl)

theorem execInstpMbxGo_frame {i : Fin 2048} {s₁ : State} : FrR 549755815938 s₁ (execInstpMbxGo i s₁) := by
  have h : Fr 549755815938 s₁ s₁ := Fr.refl
  first | rw [execInstpMbxGo] | unfold execInstpMbxGo
  repeat' first
    | with_reducible assumption
    | (with_reducible refine FrR.ok ?_)
    | (with_reducible refine writeMbxCtl_frame ?_ rfl)

theorem execMbxResponse_frame {port : SynPort} {s₁ : State} : FrR 2147485730 s₁ (execMbxResponse port s₁) := by
  have h : Fr 2147485730 s₁ s₁ := Fr.refl
  first | rw [execMbxResponse] | unfold execMbxResponse
  repeat' first
    | with_reducible assumption
    | (with_reducible refine FrR.ok ?_)
    | (with_reducible refine FrR.ite ?_ ?_)
    | (with_reducible refine State.hostPut_frame ?_ rfl)
    | (with_reducible refine State.respond_frame ?_ rfl)
    | split

theorem execKick_frame {q : Requester} {c : Fin 33} {s₁ : State} : FrR 68719476738 s₁ (execKick q c s₁) := by
  have h : Fr 68719476738 s₁ s₁ := Fr.refl
  first | rw [execKick] | unfold execKick
  repeat' first
    | with_reducible assumption
    | (with_reducible refine FrR.ok ?_)
    | (with_reducible refine writeCoreWdg_frame ?_ rfl)

theorem execWatchdogEnable_frame {q : Requester} {c : Fin 33} {v : W32} {s₁ : State} : FrR 68719476738 s₁ (execWatchdogEnable q c v s₁) := by
  have h : Fr 68719476738 s₁ s₁ := Fr.refl
  first | rw [execWatchdogEnable] | unfold execWatchdogEnable
  repeat' first
    | with_reducible assumption
    | (with_reducible refine FrR.ok ?_)
    | (with_reducible refine writeCoreWdg_frame ?_ rfl)

theorem execWatchdogExpiry_frame {c : Fin 33} {s₁ : State} : FrR 132974342311230 s₁ (execWatchdogExpiry c s₁) := by
  have h : Fr 132974342311230 s₁ s₁ := Fr.refl
  first | rw [execWatchdogExpiry] | unfold execWatchdogExpiry
  repeat' first
    | with_reducible assumption
    | (with_reducible refine State.setTahr_frame ?_ rfl)
    | (with_reducible refine FrR.ok ?_)
    | (with_reducible refine FrR.ite ?_ ?_)
    | (with_reducible refine State.fault_frame ?_ rfl)
    | (with_reducible refine State.setSvc_frame ?_ rfl)
    | (with_reducible refine State.flushFltEvents_frame ?_ rfl)
    | (with_reducible refine State.holdCore_frame ?_ rfl)
    | (with_reducible refine State.elandRestart_frame ?_ rfl)
    | (with_reducible refine State.sf_frame ?_ rfl)
    | (with_reducible refine State.tick_frame ?_ rfl)
    | (with_reducible refine State.event_frame ?_ rfl)
    | (with_reducible refine State.cnt_frame ?_ rfl)
    | (with_reducible refine Fr.ite ?_ ?_)
    | (with_reducible refine Fr.foldl (fun z a h => ?_) ?_)
    | split
    | (with_reducible refine Fr.upd_domainCore_paused ?_ rfl rfl)
    | (with_reducible refine Fr.paused ?_ rfl)

theorem execCoreRestartDone_frame {c : Fin 33} {s₁ : State} : FrR 9074192223266 s₁ (execCoreRestartDone c s₁) := by
  have h : Fr 9074192223266 s₁ s₁ := Fr.refl
  first | rw [execCoreRestartDone] | unfold execCoreRestartDone
  repeat' first
    | with_reducible assumption
    | (with_reducible refine FrR.ok ?_)
    | (with_reducible refine FrR.ite ?_ ?_)
    | (intro x; refine_lift have hb : ∀ y, y = x → Fr 9074192223266 s₁ y := ?_; ?_; all_goals first | (have hx := hb x rfl; clear hb; clear_value x) | (intro y hy; unfold x at hy; rw [hy]; clear hy y))
    | (intro x; clear_value x)
    | (lift_lets; intro x; refine_lift have hb : ∀ y, y = x → Fr 9074192223266 s₁ y := ?_; ?_; all_goals first | (have hx := hb x rfl; clear hb; clear_value x) | (intro y hy; unfold x at hy; rw [hy]; clear hy y))
    | (lift_lets; intro x; clear_value x)
    | (with_reducible refine State.started_frame ?_ rfl)
    | (with_reducible refine State.sf_frame ?_ rfl)
    | (with_reducible refine State.signAgain_frame ?_ rfl)
    | (with_reducible refine State.event_frame ?_ rfl)
    | (with_reducible refine State.flushFltEvents_frame ?_ rfl)
    | (with_reducible refine Fr.foldl (fun z a h => ?_) ?_)
    | (with_reducible refine Fr.ite ?_ ?_)
    | (with_reducible exact Fr2.out (by assumption))
    | dsimp only
    | split
    | (with_reducible refine Fr.paused ?_ rfl)

theorem execDomainSwitch_frame {d : Fin 30} {s₁ : State} : FrR 587873651746 s₁ (execDomainSwitch d s₁) := by
  have h : Fr 587873651746 s₁ s₁ := Fr.refl
  first | rw [execDomainSwitch] | unfold execDomainSwitch
  repeat' first
    | with_reducible assumption
    | (with_reducible refine FrR.ok ?_)
    | (with_reducible refine FrR.ite ?_ ?_)
    | (intro x; refine_lift have hb : ∀ y, y = x → Fr 587873651746 s₁ y := ?_; ?_; all_goals first | (have hx := hb x rfl; clear hb; clear_value x) | (intro y hy; unfold x at hy; rw [hy]; clear hy y))
    | (intro x; clear_value x)
    | (lift_lets; intro x; clear_value x)
    | (with_reducible refine State.activated_frame ?_ rfl)
    | (with_reducible refine State.setTahr_frame ?_ rfl)
    | (with_reducible refine Fr.ite ?_ ?_)
    | (with_reducible refine Fr.foldl (fun z a h => ?_) ?_)
    | split
    | (with_reducible refine Fr.fw ?_ rfl)

theorem execSynFwVersion_frame {r : SynReq} {s₁ : State} : FrR 2048 s₁ (execSynFwVersion r s₁) := by
  have h : Fr 2048 s₁ s₁ := Fr.refl
  first | rw [execSynFwVersion] | unfold execSynFwVersion
  repeat' first
    | with_reducible assumption
    | (with_reducible refine FrR.ok ?_)
    | (with_reducible refine State.syn_frame ?_ (fun z h => ?_) rfl)
    | (with_reducible refine success_frame ?_ rfl)

theorem execSynFwSessionOpen_frame {r : SynReq} {reclaim : Bool} {s₁ : State} : FrR 131957212122430 s₁ (execSynFwSessionOpen r reclaim s₁) := by
  have h : Fr 131957212122430 s₁ s₁ := Fr.refl
  first | rw [execSynFwSessionOpen] | unfold execSynFwSessionOpen
  repeat' first
    | with_reducible assumption
    | (with_reducible refine FrR.ok ?_)
    | (lift_lets; intro x; clear_value x)
    | (with_reducible refine State.syn_frame ?_ (fun z h => ?_) rfl)
    | (with_reducible refine State.openSession_frame ?_ rfl)
    | (with_reducible refine State.reclaimInsts_frame ?_ rfl)
    | (with_reducible refine refuse_frame ?_ rfl)
    | (with_reducible refine Fr1.ite ?_ ?_)
    | split

theorem execSynFwSessionAttach_frame {r : SynReq} {id : BitVec 32} {s₁ : State} : FrR 131957178502206 s₁ (execSynFwSessionAttach r id s₁) := by
  have h : Fr 131957178502206 s₁ s₁ := Fr.refl
  first | rw [execSynFwSessionAttach] | unfold execSynFwSessionAttach
  repeat' first
    | with_reducible assumption
    | (with_reducible refine FrR.ok ?_)
    | (lift_lets; intro x; clear_value x)
    | (with_reducible refine State.syn_frame ?_ (fun z h => ?_) rfl)
    | (with_reducible refine success_frame ?_ rfl)
    | (with_reducible refine State.wr_frame ?_ rfl)
    | (with_reducible refine State.setMb_frame ?_ rfl)
    | (with_reducible refine State.instReattach_frame ?_ rfl)
    | (with_reducible refine refuse_frame ?_ rfl)
    | (with_reducible refine Fr.ite ?_ ?_)
    | (with_reducible refine Fr.foldl (fun z a h => ?_) ?_)
    | (with_reducible refine Fr1.out (refuse_frame ?_ rfl))
    | (with_reducible refine Fr1.out (Fr1.ite ?_ ?_))
    | split
    | (with_reducible refine Fr1.pair ?_)
    | dsimp only

theorem execSynFwSessionClose_frame {r : SynReq} {s₁ : State} : FrR 2048 s₁ (execSynFwSessionClose r s₁) := by
  have h : Fr 2048 s₁ s₁ := Fr.refl
  first | rw [execSynFwSessionClose] | unfold execSynFwSessionClose
  repeat' first
    | with_reducible assumption
    | (with_reducible refine FrR.ok ?_)
    | (lift_lets; intro x; clear_value x)
    | (with_reducible refine State.syn_frame ?_ (fun z h => ?_) rfl)
    | (with_reducible refine success_frame ?_ rfl)
    | (with_reducible refine State.setMb_frame ?_ rfl)
    | (with_reducible refine refuse_frame ?_ rfl)
    | (with_reducible refine Fr1.ite ?_ ?_)
    | split

theorem execSynFwEventRingSet_frame {r : SynReq} {addr : BitVec 64} {log2n : Byte} {vector : W16} {s₁ : State} : FrR 2050 s₁ (execSynFwEventRingSet r addr log2n vector s₁) := by
  have h : Fr 2050 s₁ s₁ := Fr.refl
  first | rw [execSynFwEventRingSet] | unfold execSynFwEventRingSet
  repeat' first
    | with_reducible assumption
    | (with_reducible refine FrR.ok ?_)
    | (intro x; clear_value x)
    | (lift_lets; intro x; clear_value x)
    | (with_reducible refine State.syn_frame ?_ (fun z h => ?_) rfl)
    | (with_reducible refine success_frame ?_ rfl)
    | (with_reducible refine State.wr_frame ?_ rfl)
    | (with_reducible refine State.setMb_frame ?_ rfl)
    | (with_reducible refine refuse_frame ?_ rfl)
    | (with_reducible refine Fr1.ite ?_ ?_)
    | split

theorem execSynFwUpdate_frame {r : SynReq} {package : List (BitVec 8)} {s₁ : State} : FrR 1133871368192 s₁ (execSynFwUpdate r package s₁) := by
  have h : Fr 1133871368192 s₁ s₁ := Fr.refl
  first | rw [execSynFwUpdate] | unfold execSynFwUpdate
  repeat' first
    | with_reducible assumption
    | (with_reducible refine FrR.ok ?_)
    | (intro x; clear_value x)
    | (lift_lets; intro x; clear_value x)
    | (with_reducible refine State.syn_frame ?_ (fun z h => ?_) rfl)
    | (with_reducible refine success_frame ?_ rfl)
    | (with_reducible refine State.loadHalf_frame ?_ rfl)
    | (with_reducible refine refuse_frame ?_ rfl)
    | (with_reducible refine Fr1.ite ?_ ?_)
    | split
    | (with_reducible refine Fr.fw ?_ rfl)

theorem execSynFwActivate_frame {r : SynReq} {s₁ : State} : FrR 34896611330 s₁ (execSynFwActivate r s₁) := by
  have h : Fr 34896611330 s₁ s₁ := Fr.refl
  first | rw [execSynFwActivate] | unfold execSynFwActivate
  repeat' first
    | with_reducible assumption
    | (with_reducible refine FrR.ok ?_)
    | (intro x; refine_lift have hb : ∀ y, y = x → Fr 34896611330 s₁ y := ?_; ?_; all_goals first | (have hx := hb x rfl; clear hb; clear_value x) | (intro y hy; unfold x at hy; rw [hy]; clear hy y))
    | (lift_lets; intro x; clear_value x)
    | (with_reducible refine State.syn_frame ?_ (fun z h => ?_) rfl)
    | (with_reducible refine success_frame ?_ rfl)
    | (with_reducible refine State.sf_frame ?_ rfl)
    | (with_reducible refine refuse_frame ?_ rfl)
    | (with_reducible refine State.stoPause_frame ?_ rfl)
    | (with_reducible refine Fr1.ite ?_ ?_)
    | (with_reducible refine Fr.fw ?_ rfl)

theorem execSynFwDomainQuery_frame {r : SynReq} {s₁ : State} : FrR 2048 s₁ (execSynFwDomainQuery r s₁) := by
  have h : Fr 2048 s₁ s₁ := Fr.refl
  first | rw [execSynFwDomainQuery] | unfold execSynFwDomainQuery
  repeat' first
    | with_reducible assumption
    | (with_reducible refine FrR.ok ?_)
    | (with_reducible refine State.syn_frame ?_ (fun z h => ?_) rfl)
    | (with_reducible refine success_frame ?_ rfl)

theorem execSynFwCoreQuery_frame {r : SynReq} {c : Fin 33} {s₁ : State} : FrR 2048 s₁ (execSynFwCoreQuery r c s₁) := by
  have h : Fr 2048 s₁ s₁ := Fr.refl
  first | rw [execSynFwCoreQuery] | unfold execSynFwCoreQuery
  repeat' first
    | with_reducible assumption
    | (with_reducible refine FrR.ok ?_)
    | (with_reducible refine State.syn_frame ?_ (fun z h => ?_) rfl)
    | (with_reducible refine success_frame ?_ rfl)

theorem execSynFwSpillSet_frame {r : SynReq} {buffers : List (BitVec 64 × BitVec 64)} {s₁ : State} : FrR 34359740416 s₁ (execSynFwSpillSet r buffers s₁) := by
  have h : Fr 34359740416 s₁ s₁ := Fr.refl
  first | rw [execSynFwSpillSet] | unfold execSynFwSpillSet
  repeat' first
    | with_reducible assumption
    | (with_reducible refine FrR.ok ?_)
    | (lift_lets; intro x; clear_value x)
    | (with_reducible refine State.syn_frame ?_ (fun z h => ?_) rfl)
    | (with_reducible refine success_frame ?_ rfl)
    | (with_reducible refine refuse_frame ?_ rfl)
    | (with_reducible refine Fr1.ite ?_ ?_)
    | (with_reducible refine Fr.fw ?_ rfl)

theorem execSynFwConfigQuery_frame {r : SynReq} {s₁ : State} : FrR 2048 s₁ (execSynFwConfigQuery r s₁) := by
  have h : Fr 2048 s₁ s₁ := Fr.refl
  first | rw [execSynFwConfigQuery] | unfold execSynFwConfigQuery
  repeat' first
    | with_reducible assumption
    | (with_reducible refine FrR.ok ?_)
    | (lift_lets; intro x; clear_value x)
    | (with_reducible refine State.syn_frame ?_ (fun z h => ?_) rfl)
    | (with_reducible refine success_frame ?_ rfl)

theorem execSynFwConfigWrite_frame {r : SynReq} {image : List (BitVec 8)} {s₁ : State} : FrR 17179871232 s₁ (execSynFwConfigWrite r image s₁) := by
  have h : Fr 17179871232 s₁ s₁ := Fr.refl
  first | rw [execSynFwConfigWrite] | unfold execSynFwConfigWrite
  repeat' first
    | with_reducible assumption
    | (with_reducible refine FrR.ok ?_)
    | (intro x; clear_value x)
    | (lift_lets; intro x; clear_value x)
    | (with_reducible refine State.syn_frame ?_ (fun z h => ?_) rfl)
    | (with_reducible refine success_frame ?_ rfl)
    | (with_reducible refine refuse_frame ?_ rfl)
    | split
    | (with_reducible refine Fr.flash ?_ rfl)

end Sys2Proof.Machine
end

