-- ==== Sys2Proof/Laws/ExecCheckpoint.lean ====
section
/-! SUPPORT. Frames of the commands of Machine/Checkpoint.lean: each answers a next state and may change only the parts of its mask. -/

namespace Sys2Proof.Machine

theorem execCkpEnSet_frame {q : Requester} {v : W32} {s₁ : State} : FrR 131943547014202 s₁ (execCkpEnSet q v s₁) := by
  have h : Fr 131943547014202 s₁ s₁ := Fr.refl
  first | rw [execCkpEnSet] | unfold execCkpEnSet
  repeat' first
    | with_reducible assumption
    | (with_reducible refine FrR.ok ?_)
    | (with_reducible refine writeCkpCtl_frame ?_ rfl)

theorem execMark_frame {q : Requester} {v : W32} {s₁ : State} : FrR 131957213171006 s₁ (execMark q v s₁) := by
  have h : Fr 131957213171006 s₁ s₁ := Fr.refl
  first | rw [execMark] | unfold execMark
  repeat' first
    | with_reducible assumption
    | (with_reducible refine FrR.ok ?_)
    | (with_reducible refine writeCkpMark_frame ?_ rfl)

theorem execSnap_frame {q : Requester} {v : W32} {s₁ : State} : FrR 131957213171006 s₁ (execSnap q v s₁) := by
  have h : Fr 131957213171006 s₁ s₁ := Fr.refl
  first | rw [execSnap] | unfold execSnap
  repeat' first
    | with_reducible assumption
    | (with_reducible refine FrR.ok ?_)
    | (with_reducible refine writeCkpMark_frame ?_ rfl)

theorem execRollback_frame {q : Requester} {v : W32} {s₁ : State} : FrR 131957213171006 s₁ (execRollback q v s₁) := by
  have h : Fr 131957213171006 s₁ s₁ := Fr.refl
  first | rw [execRollback] | unfold execRollback
  repeat' first
    | with_reducible assumption
    | (with_reducible refine FrR.ok ?_)
    | (with_reducible refine writeCkpMark_frame ?_ rfl)

theorem execUnpin_frame {q : Requester} {v : W32} {s₁ : State} : FrR 131957213171006 s₁ (execUnpin q v s₁) := by
  have h : Fr 131957213171006 s₁ s₁ := Fr.refl
  first | rw [execUnpin] | unfold execUnpin
  repeat' first
    | with_reducible assumption
    | (with_reducible refine FrR.ok ?_)
    | (with_reducible refine writeCkpMark_frame ?_ rfl)

theorem execRollbackDone_frame {s₁ : State} : FrR 131943550160190 s₁ (execRollbackDone s₁) := by
  have h : Fr 131943550160190 s₁ s₁ := Fr.refl
  first | rw [execRollbackDone] | unfold execRollbackDone
  repeat' first
    | with_reducible assumption
    | (with_reducible refine State.pullAgain_frame ?_ rfl)
    | (with_reducible refine FrR.ok ?_)
    | (with_reducible refine FrR.ite ?_ ?_)
    | (lift_lets; intro x; clear_value x)
    | (with_reducible refine State.kvRun_frame ?_ rfl)
    | (with_reducible refine State.fetchCtx_frame ?_ rfl)
    | (with_reducible refine State.sf_frame ?_ rfl)
    | (with_reducible refine State.mapStream_frame ?_ rfl)
    | (with_reducible refine Fr.foldl (fun z a h => ?_) ?_)
    | (with_reducible refine Fr.eland ?_ rfl)

theorem execAppendCopy_frame {s₁ : State} : FrR 131957212122430 s₁ (execAppendCopy s₁) := by
  have h : Fr 131957212122430 s₁ s₁ := Fr.refl
  first | rw [execAppendCopy] | unfold execAppendCopy
  repeat' first
    | with_reducible assumption
    | (with_reducible refine FrR.ok ?_)
    | (with_reducible refine FrR.ite ?_ ?_)
    | (lift_lets; intro x; refine_lift have hb : ∀ y, y = x → Fr 131957212122430 s₁ y := ?_; ?_; all_goals first | (have hx := hb x rfl; clear hb; clear_value x) | (intro y hy; unfold x at hy; rw [hy]; clear hy y))
    | (lift_lets; intro x; clear_value x)
    | (with_reducible refine State.internalMsg_frame ?_ rfl)
    | split
    | (with_reducible refine Fr.ckp ?_ rfl)

theorem execCkpReplicaWrite_frame {q : Requester} {v : W64} {s₁ : State} : FrR 131957212122430 s₁ (execCkpReplicaWrite q v s₁) := by
  have h : Fr 131957212122430 s₁ s₁ := Fr.refl
  first | rw [execCkpReplicaWrite] | unfold execCkpReplicaWrite
  repeat' first
    | with_reducible assumption
    | (with_reducible refine FrR.ok ?_)
    | (with_reducible refine writeCkpReplica_frame ?_ rfl)

theorem execLocallyCommitted_frame {s₁ : State} : FrR 131957212384766 s₁ (execLocallyCommitted s₁) := by
  have h : Fr 131957212384766 s₁ s₁ := Fr.refl
  first | rw [execLocallyCommitted] | unfold execLocallyCommitted
  repeat' first
    | with_reducible assumption
    | (with_reducible refine FrR.ok ?_)
    | (with_reducible refine State.ckpCollect_frame ?_ rfl)
    | (with_reducible refine State.localCommit_frame ?_ rfl)
    | (with_reducible refine State.replicaFromLocals_frame ?_ rfl)
    | (with_reducible refine Fr.ite ?_ ?_)

theorem execLocalCommit_frame {conn : BitVec 20} {msn : W32} {s₁ : State} : FrR 131957212122430 s₁ (execLocalCommit conn msn s₁) := by
  have h : Fr 131957212122430 s₁ s₁ := Fr.refl
  first | rw [execLocalCommit] | unfold execLocalCommit
  repeat' first
    | with_reducible assumption
    | (with_reducible refine FrR.ok ?_)
    | (intro x; refine_lift have hb : ∀ y, y = x → Fr 131957212122430 s₁ y := ?_; ?_; all_goals first | (have hx := hb x rfl; clear hb; clear_value x) | (intro y hy; unfold x at hy; rw [hy]; clear hy y))
    | (intro x; clear_value x)
    | (lift_lets; intro x; clear_value x)
    | (with_reducible refine State.ckpMember_frame ?_ (fun b z h => ?_) rfl)
    | (with_reducible refine State.replicaFromLocals_frame ?_ rfl)
    | (with_reducible refine Fr.ckp ?_ rfl)

theorem execJournalCommit_frame {conn : BitVec 20} {msn : W32} {ring : BitVec 52} {pages : W16} {s₁ : State} : FrR 131943580568638 s₁ (execJournalCommit conn msn ring pages s₁) := by
  have h : Fr 131943580568638 s₁ s₁ := Fr.refl
  first | rw [execJournalCommit] | unfold execJournalCommit
  repeat' first
    | with_reducible assumption
    | (with_reducible refine FrR.ok ?_)
    | (intro x; clear_value x)
    | (lift_lets; intro x; clear_value x)
    | (with_reducible refine State.applyJournal_frame ?_ rfl)
    | (with_reducible refine State.ckpMember_frame ?_ (fun b z h => ?_) rfl)
    | (with_reducible refine Fr.ckp ?_ rfl)

theorem execSnapshotWrite_frame {buddy : Bool} {lba : W64} {s₁ : State} : FrR 131957212122430 s₁ (execSnapshotWrite buddy lba s₁) := by
  have h : Fr 131957212122430 s₁ s₁ := Fr.refl
  first | rw [execSnapshotWrite] | unfold execSnapshotWrite
  repeat' first
    | with_reducible assumption
    | (with_reducible refine FrR.ok ?_)
    | (with_reducible refine FrR.ite ?_ ?_)
    | (with_reducible refine State.writeSnapshot_frame ?_ rfl)
    | split

theorem execSnapDone_frame {conn : BitVec 20} {msn : W32} {s₁ : State} : FrR 35184405643264 s₁ (execSnapDone conn msn s₁) := by
  have h : Fr 35184405643264 s₁ s₁ := Fr.refl
  first | rw [execSnapDone] | unfold execSnapDone
  repeat' first
    | with_reducible assumption
    | (with_reducible refine FrR.ok ?_)
    | (with_reducible refine State.noteSnap_frame ?_ rfl)
    | (with_reducible refine State.ckpMember_frame ?_ (fun b z h => ?_) rfl)

theorem execManifestWrite_frame {lba : W64} {s₁ : State} : FrR 35184372090112 s₁ (execManifestWrite lba s₁) := by
  have h : Fr 35184372090112 s₁ s₁ := Fr.refl
  first | rw [execManifestWrite] | unfold execManifestWrite
  repeat' first
    | with_reducible assumption
    | (with_reducible refine FrR.ok ?_)
    | (with_reducible refine FrR.ite ?_ ?_)
    | (with_reducible refine State.writeManifest_frame ?_ rfl)
    | split

theorem execLeaseRenewal_frame {s₁ : State} : FrR 131957212122430 s₁ (execLeaseRenewal s₁) := by
  have h : Fr 131957212122430 s₁ s₁ := Fr.refl
  first | rw [execLeaseRenewal] | unfold execLeaseRenewal
  repeat' first
    | with_reducible assumption
    | (with_reducible refine FrR.ok ?_)
    | (with_reducible refine FrR.ite ?_ ?_)
    | (lift_lets; intro x; clear_value x)
    | (with_reducible refine State.ckpTell_frame ?_ rfl)
    | (with_reducible refine Fr.foldl (fun z a h => ?_) ?_)
    | (with_reducible refine Fr.ckp ?_ rfl)

theorem execLeaseGrant_frame {conn : BitVec 20} {msn : W32} {s₁ : State} : FrR 131943581617470 s₁ (execLeaseGrant conn msn s₁) := by
  have h : Fr 131943581617470 s₁ s₁ := Fr.refl
  first | rw [execLeaseGrant] | unfold execLeaseGrant
  repeat' first
    | with_reducible assumption
    | (with_reducible refine FrR.ok ?_)
    | (intro x; refine_lift have hb : ∀ y, y = x → Fr 131943581617470 s₁ y := ?_; ?_; all_goals first | (have hx := hb x rfl; clear hb; clear_value x) | (intro y hy; unfold x at hy; rw [hy]; clear hy y))
    | (intro x; clear_value x)
    | (lift_lets; intro x; refine_lift have hb : ∀ y, y = x → Fr 131943581617470 s₁ y := ?_; ?_; all_goals first | (have hx := hb x rfl; clear hb; clear_value x) | (intro y hy; unfold x at hy; rw [hy]; clear hy y))
    | (lift_lets; intro x; clear_value x)
    | (with_reducible refine State.fetchCtx_frame ?_ rfl)
    | (with_reducible refine State.wr64_frame ?_ rfl)
    | (with_reducible refine State.thaw_frame ?_ rfl)
    | (with_reducible refine State.ckpMember_frame ?_ (fun b z h => ?_) rfl)
    | (with_reducible refine State.sf_frame ?_ rfl)
    | (with_reducible refine Fr.ite ?_ ?_)
    | (with_reducible refine Fr.foldl (fun z a h => ?_) ?_)
    | split
    | (with_reducible refine Fr.ckp ?_ rfl)

theorem execLeaseLapse_frame {s₁ : State} : FrR 131943548063038 s₁ (execLeaseLapse s₁) := by
  have h : Fr 131943548063038 s₁ s₁ := Fr.refl
  first | rw [execLeaseLapse] | unfold execLeaseLapse
  repeat' first
    | with_reducible assumption
    | (with_reducible refine FrR.ok ?_)
    | (with_reducible refine FrR.ite ?_ ?_)
    | (with_reducible refine State.freeze_frame ?_ rfl)
    | (with_reducible refine State.fetchCtx_frame ?_ rfl)
    | (with_reducible refine State.sf_frame ?_ rfl)
    | (with_reducible refine State.event_frame ?_ rfl)
    | (with_reducible refine Fr.foldl (fun z a h => ?_) ?_)

theorem execLeaseRefuse_frame {conn : BitVec 20} {msn : W32} {s₁ : State} : FrR 131943583714622 s₁ (execLeaseRefuse conn msn s₁) := by
  have h : Fr 131943583714622 s₁ s₁ := Fr.refl
  first | rw [execLeaseRefuse] | unfold execLeaseRefuse
  repeat' first
    | with_reducible assumption
    | (with_reducible refine FrR.ok ?_)
    | (lift_lets; intro x; clear_value x)
    | (with_reducible refine State.ckpDrain_frame ?_ rfl)
    | (with_reducible refine State.ckpMember_frame ?_ (fun b z h => ?_) rfl)
    | (with_reducible refine Fr.ite ?_ ?_)
    | split
    | (with_reducible refine Fr.ckp ?_ rfl)

theorem execLeaseReq_frame {conn : BitVec 20} {msn : W32} {s₁ : State} : FrR 131957212122430 s₁ (execLeaseReq conn msn s₁) := by
  have h : Fr 131957212122430 s₁ s₁ := Fr.refl
  first | rw [execLeaseReq] | unfold execLeaseReq
  repeat' first
    | with_reducible assumption
    | (with_reducible refine FrR.ok ?_)
    | (with_reducible refine FrR.ite ?_ ?_)
    | (lift_lets; intro x; clear_value x)
    | (with_reducible refine State.witnessSays_frame ?_ rfl)
    | (with_reducible refine State.ckpTake_frame ?_ rfl)
    | (with_reducible refine State.setServed_frame ?_ rfl)
    | (with_reducible refine Fr.eq2 (by assumption) ?_)
    | split

theorem execPropose_frame {p : CkpProposal} {s₁ : State} : FrR 131957212122430 s₁ (execPropose p s₁) := by
  have h : Fr 131957212122430 s₁ s₁ := Fr.refl
  first | rw [execPropose] | unfold execPropose
  repeat' first
    | with_reducible assumption
    | (with_reducible refine FrR.ok ?_)
    | (with_reducible refine FrR.ite ?_ ?_)
    | (with_reducible refine State.ckpTake_frame ?_ rfl)
    | (with_reducible refine State.propose_frame ?_ rfl)
    | (with_reducible refine State.setServed_frame ?_ rfl)
    | (with_reducible refine Fr.eq2 (by assumption) ?_)
    | split

theorem execGrantEndPassed_frame {replica : BitVec 32} {s₁ : State} : FrR 131957212122430 s₁ (execGrantEndPassed replica s₁) := by
  have h : Fr 131957212122430 s₁ s₁ := Fr.refl
  first | rw [execGrantEndPassed] | unfold execGrantEndPassed
  repeat' first
    | with_reducible assumption
    | (with_reducible refine FrR.ok ?_)
    | (with_reducible refine FrR.ite ?_ ?_)
    | (with_reducible refine State.witnessSays_frame ?_ rfl)
    | (with_reducible refine State.setServed_frame ?_ rfl)
    | split

theorem execAccept_frame {conn : BitVec 20} {msn : W32} {s₁ : State} : FrR 131957215268158 s₁ (execAccept conn msn s₁) := by
  have h : Fr 131957215268158 s₁ s₁ := Fr.refl
  first | rw [execAccept] | unfold execAccept
  repeat' first
    | with_reducible assumption
    | (with_reducible refine FrR.ok ?_)
    | (with_reducible refine FrR.ite ?_ ?_)
    | (intro x; refine_lift have hb : ∀ y, y = x → Fr 131957215268158 s₁ y := ?_; ?_; all_goals first | (have hx := hb x rfl; clear hb; clear_value x) | (intro y hy; unfold x at hy; rw [hy]; clear hy y))
    | (intro x; clear_value x)
    | (lift_lets; intro x; clear_value x)
    | (with_reducible refine State.ckpTake_frame ?_ rfl)
    | (with_reducible refine State.installView_frame ?_ rfl)
    | (with_reducible refine State.ckpTell_frame ?_ rfl)
    | (with_reducible refine Fr.foldl (fun z a h => ?_) ?_)
    | (with_reducible refine Fr.eq2 (by assumption) ?_)
    | split
    | dsimp only
    | (with_reducible refine Fr.ckp ?_ rfl)

theorem execViewInstall_frame {conn : BitVec 20} {msn : W32} {s₁ : State} : FrR 131943583714622 s₁ (execViewInstall conn msn s₁) := by
  have h : Fr 131943583714622 s₁ s₁ := Fr.refl
  first | rw [execViewInstall] | unfold execViewInstall
  repeat' first
    | with_reducible assumption
    | (with_reducible refine FrR.ok ?_)
    | (with_reducible refine State.installView_frame ?_ rfl)
    | (with_reducible refine State.ckpMember_frame ?_ (fun b z h => ?_) rfl)

theorem execVerified_frame {conn : BitVec 20} {msn : W32} {s₁ : State} : FrR 131957215268158 s₁ (execVerified conn msn s₁) := by
  have h : Fr 131957215268158 s₁ s₁ := Fr.refl
  first | rw [execVerified] | unfold execVerified
  repeat' first
    | with_reducible assumption
    | (with_reducible refine FrR.ok ?_)
    | (intro x; refine_lift have hb : ∀ y, y = x → Fr 131957215268158 s₁ y := ?_; ?_; all_goals first | (have hx := hb x rfl; clear hb; clear_value x) | (intro y hy; unfold x at hy; rw [hy]; clear hy y))
    | (lift_lets; intro x; clear_value x)
    | (with_reducible refine State.restoreDecide_frame ?_ rfl)
    | (with_reducible refine State.ckpMember_frame ?_ (fun b z h => ?_) rfl)
    | (with_reducible refine Fr.ckp ?_ rfl)

theorem execSynCkpConfig_frame {r : SynReq} {record : List (BitVec 8)} {view : BitVec 32} {members : List (BitVec 32)} {witnesses : List (BitVec 32)} {spares : List (BitVec 32)} {s₁ : State} : FrR 131943547014206 s₁ (execSynCkpConfig r record view members witnesses spares s₁) := by
  have h : Fr 131943547014206 s₁ s₁ := Fr.refl
  first | rw [execSynCkpConfig] | unfold execSynCkpConfig
  repeat' first
    | with_reducible assumption
    | (with_reducible refine FrR.ok ?_)
    | (intro x; refine_lift have hb : ∀ y, y = x → Fr 131943547014206 s₁ y := ?_; ?_; all_goals first | (have hx := hb x rfl; clear hb; clear_value x) | (intro y hy; unfold x at hy; rw [hy]; clear hy y))
    | (intro x; clear_value x)
    | (lift_lets; intro x; refine_lift have hb : ∀ y, y = x → Fr 131943547014206 s₁ y := ?_; ?_; all_goals first | (have hx := hb x rfl; clear hb; clear_value x) | (intro y hy; unfold x at hy; rw [hy]; clear hy y))
    | (with_reducible refine State.syn_frame ?_ (fun z h => ?_) rfl)
    | (with_reducible refine success_frame ?_ rfl)
    | (with_reducible refine State.poke_frame ?_ rfl)
    | (with_reducible refine writeCkpCtl_frame ?_ rfl)
    | (with_reducible refine refuse_frame ?_ rfl)
    | (with_reducible refine Fr1.ite ?_ ?_)
    | (with_reducible refine Fr.ckp ?_ rfl)

theorem execSynCkpQuery_frame {r : SynReq} {s₁ : State} : FrR 2048 s₁ (execSynCkpQuery r s₁) := by
  have h : Fr 2048 s₁ s₁ := Fr.refl
  first | rw [execSynCkpQuery] | unfold execSynCkpQuery
  repeat' first
    | with_reducible assumption
    | (with_reducible refine FrR.ok ?_)
    | (with_reducible refine State.syn_frame ?_ (fun z h => ?_) rfl)
    | (with_reducible refine success_frame ?_ rfl)

theorem execSynCkpSnapshot_frame {r : SynReq} {volume : Fin 1024} {retain : BitVec 8} {base : BitVec 64} {s₁ : State} : FrR 131957212122430 s₁ (execSynCkpSnapshot r volume retain base s₁) := by
  have h : Fr 131957212122430 s₁ s₁ := Fr.refl
  first | rw [execSynCkpSnapshot] | unfold execSynCkpSnapshot
  repeat' first
    | with_reducible assumption
    | (with_reducible refine FrR.ok ?_)
    | (intro x; clear_value x)
    | (lift_lets; intro x; refine_lift have hb : ∀ y, y = x → Fr 131957212122430 s₁ y := ?_; ?_; all_goals first | (have hx := hb x rfl; clear hb; clear_value x) | (intro y hy; unfold x at hy; rw [hy]; clear hy y))
    | (with_reducible refine State.syn_frame ?_ (fun z h => ?_) rfl)
    | (with_reducible refine success_frame ?_ rfl)
    | (with_reducible refine refuseFree_frame ?_ rfl)
    | (with_reducible refine State.ckpMark_frame ?_ rfl)
    | (with_reducible refine refuse_frame ?_ rfl)
    | (with_reducible refine Fr1.ite ?_ ?_)
    | split
    | (with_reducible refine Fr.ckp ?_ rfl)

theorem execSynCkpRestore_frame {r : SynReq} {_volume : Fin 1024} {_lba : BitVec 64} {trusted : List (List (BitVec 8))} {rank : BitVec 16} {members : List (BitVec 32)} {manifests : List (List (BitVec 8))} {shards : List (List (BitVec 8))} {s₁ : State} : FrR 131957215268158 s₁ (execSynCkpRestore r _volume _lba trusted rank members manifests shards s₁) := by
  have h : Fr 131957215268158 s₁ s₁ := Fr.refl
  first | rw [execSynCkpRestore] | unfold execSynCkpRestore
  repeat' first
    | with_reducible assumption
    | (with_reducible refine State.modeUpdate_frame ?_ rfl)
    | (with_reducible refine FrR.ok ?_)
    | (intro x; refine_lift have hb : ∀ y, y = x → Fr 131957215268158 s₁ y := ?_; ?_; all_goals first | (have hx := hb x rfl; clear hb; clear_value x) | (intro y hy; unfold x at hy; rw [hy]; clear hy y))
    | (intro x; clear_value x)
    | (lift_lets; intro x; clear_value x)
    | (with_reducible refine State.restoreDecide_frame ?_ rfl)
    | (with_reducible refine State.synLater_frame ?_ (fun z h => ?_) rfl)
    | (with_reducible refine State.ckpTellAll_frame ?_ rfl)
    | (with_reducible refine Fr1.ite ?_ ?_)
    | split
    | (with_reducible refine Fr1.pair ?_)
    | (with_reducible refine Fr.ckp ?_ rfl)

theorem execSynCkpTakeover_frame {r : SynReq} {rank : BitVec 16} {conn : BitVec 20} {view : BitVec 32} {s₁ : State} : FrR 35186523769890 s₁ (execSynCkpTakeover r rank conn view s₁) := by
  have h : Fr 35186523769890 s₁ s₁ := Fr.refl
  first | rw [execSynCkpTakeover] | unfold execSynCkpTakeover
  repeat' first
    | with_reducible assumption
    | (with_reducible refine State.modeUpdate_frame ?_ rfl)
    | (with_reducible refine FrR.ok ?_)
    | (intro x; refine_lift have hb : ∀ y, y = x → Fr 35186523769890 s₁ y := ?_; ?_; all_goals first | (have hx := hb x rfl; clear hb; clear_value x) | (intro y hy; unfold x at hy; rw [hy]; clear hy y))
    | (lift_lets; intro x; clear_value x)
    | (with_reducible refine State.syn_frame ?_ (fun z h => ?_) rfl)
    | (with_reducible refine success_frame ?_ rfl)
    | (with_reducible refine refuse_frame ?_ rfl)
    | (with_reducible refine State.event_frame ?_ rfl)
    | (with_reducible refine Fr1.ite ?_ ?_)
    | (with_reducible refine Fr.ckp ?_ rfl)

theorem execSynCkpDrain_frame {r : SynReq} {s₁ : State} : FrR 131943550160190 s₁ (execSynCkpDrain r s₁) := by
  have h : Fr 131943550160190 s₁ s₁ := Fr.refl
  first | rw [execSynCkpDrain] | unfold execSynCkpDrain
  repeat' first
    | with_reducible assumption
    | (with_reducible refine FrR.ok ?_)
    | (with_reducible refine State.syn_frame ?_ (fun z h => ?_) rfl)
    | (with_reducible refine State.ckpDrain_frame ?_ rfl)
    | (with_reducible refine success_frame ?_ rfl)
    | (with_reducible refine refuse_frame ?_ rfl)
    | (with_reducible refine Fr1.ite ?_ ?_)

theorem execSynCkpWitnessSet_frame {r : SynReq} {replica : BitVec 32} {view : BitVec 32} {members : List (BitVec 32)} {s₁ : State} : FrR 35184372090880 s₁ (execSynCkpWitnessSet r replica view members s₁) := by
  have h : Fr 35184372090880 s₁ s₁ := Fr.refl
  first | rw [execSynCkpWitnessSet] | unfold execSynCkpWitnessSet
  repeat' first
    | with_reducible assumption
    | (with_reducible refine FrR.ok ?_)
    | (with_reducible refine State.syn_frame ?_ (fun z h => ?_) rfl)
    | (with_reducible refine success_frame ?_ rfl)
    | (with_reducible refine State.setServed_frame ?_ rfl)
    | (with_reducible refine refuse_frame ?_ rfl)
    | (with_reducible refine Fr1.ite ?_ ?_)

end Sys2Proof.Machine
end

