-- ==== Sys2Proof/Laws/ExecPackage.lean ====
section
/-! SUPPORT. Frames of the commands of Machine/Package.lean: each answers a next state and may change only the parts of its mask. -/

namespace Sys2Proof.Machine

theorem execPerstN_frame {high : Bool} {straps : BitVec 8} {s₁ : State} : FrR 140720308486142 s₁ (execPerstN high straps s₁) := by
  have h : Fr 140720308486142 s₁ s₁ := Fr.refl
  first | rw [execPerstN] | unfold execPerstN
  repeat' first
    | with_reducible assumption
    | (with_reducible refine FrR.ok ?_)
    | (with_reducible refine FrR.ite ?_ ?_)
    | (intro x; clear_value x)
    | (lift_lets; intro x; clear_value x)
    | (with_reducible refine State.tryBoot_frame ?_ rfl)
    | (with_reducible refine State.fullReset_frame ?_ rfl)
    | split
    | (with_reducible refine Fr.aon ?_ rfl)
    | (with_reducible refine Fr.upd_aon_pins ?_ rfl rfl)

theorem execHotReset_frame {s₁ : State} : FrR 136322261975038 s₁ (execHotReset s₁) := by
  have h : Fr 136322261975038 s₁ s₁ := Fr.refl
  first | rw [execHotReset] | unfold execHotReset
  repeat' first
    | with_reducible assumption
    | (with_reducible refine FrR.ok ?_)
    | (with_reducible refine State.resetAndBoot_frame ?_ rfl)

theorem execDlDown_frame {s₁ : State} : FrR 136322261975038 s₁ (execDlDown s₁) := by
  have h : Fr 136322261975038 s₁ s₁ := Fr.refl
  first | rw [execDlDown] | unfold execDlDown
  repeat' first
    | with_reducible assumption
    | (with_reducible refine FrR.ok ?_)
    | (with_reducible refine State.resetAndBoot_frame ?_ rfl)

theorem execDevReset_frame {q : Requester} {v : W32} {s₁ : State} : FrR 136322261975038 s₁ (execDevReset q v s₁) := by
  have h : Fr 136322261975038 s₁ s₁ := Fr.refl
  first | rw [execDevReset] | unfold execDevReset
  repeat' first
    | with_reducible assumption
    | (with_reducible refine FrR.ok ?_)
    | (with_reducible refine writeDevReset_frame ?_ rfl)

theorem execAlwaysOnPowerUp_frame {s₁ : State} : FrR 140720308484830 s₁ (execAlwaysOnPowerUp s₁) := by
  have h : Fr 140720308484830 s₁ s₁ := Fr.refl
  first | rw [execAlwaysOnPowerUp] | unfold execAlwaysOnPowerUp
  repeat' first
    | with_reducible assumption
    | (with_reducible refine FrR.ok ?_)
    | (lift_lets; intro x; clear_value x)
    | (with_reducible refine State.fullReset_frame ?_ rfl)
    | (with_reducible refine Fr.aon ?_ rfl)
    | (with_reducible refine Fr.pins ?_ rfl)

theorem execMainRailUndervoltage_frame {rail : W16} {mv : BitVec 32} {s₁ : State} : FrR 96759174925346 s₁ (execMainRailUndervoltage rail mv s₁) := by
  have h : Fr 96759174925346 s₁ s₁ := Fr.refl
  first | rw [execMainRailUndervoltage] | unfold execMainRailUndervoltage
  repeat' first
    | with_reducible assumption
    | (with_reducible refine FrR.ok ?_)
    | (lift_lets; intro x; clear_value x)
    | (with_reducible refine State.fault_frame ?_ rfl)
    | (with_reducible refine Fr.ite ?_ ?_)
    | (with_reducible refine Fr.pins ?_ rfl)

theorem execMainRailInRange_frame {straps : BitVec 8} {s₁ : State} : FrR 96794608405794 s₁ (execMainRailInRange straps s₁) := by
  have h : Fr 96794608405794 s₁ s₁ := Fr.refl
  first | rw [execMainRailInRange] | unfold execMainRailInRange
  repeat' first
    | with_reducible assumption
    | (with_reducible refine FrR.ok ?_)
    | (lift_lets; intro x; clear_value x)
    | (with_reducible refine State.tryBoot_frame ?_ rfl)
    | (with_reducible refine Fr.pins ?_ rfl)

theorem execReferenceClockLoss_frame {unit : Fin 3} {ppm : BitVec 32} {s₁ : State} : FrR 96759174925346 s₁ (execReferenceClockLoss unit ppm s₁) := by
  have h : Fr 96759174925346 s₁ s₁ := Fr.refl
  first | rw [execReferenceClockLoss] | unfold execReferenceClockLoss
  repeat' first
    | with_reducible assumption
    | (with_reducible refine FrR.ok ?_)
    | (with_reducible refine State.fault_frame ?_ rfl)
    | (with_reducible refine Fr.ite ?_ ?_)

theorem execRootPortLinkUp_frame {port : RootLink} {s₁ : State} : FrR 70369281048578 s₁ (execRootPortLinkUp port s₁) := by
  have h : Fr 70369281048578 s₁ s₁ := Fr.refl
  first | rw [execRootPortLinkUp] | unfold execRootPortLinkUp
  repeat' first
    | with_reducible assumption
    | (with_reducible refine FrR.ok ?_)
    | (with_reducible refine FrR.ite ?_ ?_)
    | (with_reducible refine State.driveUp_frame ?_ rfl)
    | (with_reducible refine State.rootUp_frame ?_ rfl)
    | split

theorem execRootPortLinkLost_frame {port : Fin 12} {ltssm : BitVec 32} {s₁ : State} : FrR 131948378852414 s₁ (execRootPortLinkLost port ltssm s₁) := by
  have h : Fr 131948378852414 s₁ s₁ := Fr.refl
  first | rw [execRootPortLinkLost] | unfold execRootPortLinkLost
  repeat' first
    | with_reducible assumption
    | (with_reducible refine FrR.ok ?_)
    | (with_reducible refine FrR.ite ?_ ?_)
    | (intro x; clear_value x)
    | (lift_lets; intro x; clear_value x)
    | (with_reducible refine State.stoBackingLost_frame ?_ rfl)
    | (with_reducible refine State.fault_frame ?_ rfl)
    | (with_reducible refine State.sf_frame ?_ rfl)
    | (with_reducible refine State.setBacking_frame ?_ rfl)
    | (with_reducible refine Fr.pins ?_ rfl)

end Sys2Proof.Machine
end

