-- ==== Sys2Proof/Laws/ExecHostLink.lean ====
section
/-! SUPPORT. Frames of the commands of Machine/HostLink.lean: each answers a next state and may change only the parts of its mask. -/

namespace Sys2Proof.Machine

theorem execApertureAccess_frame {off : BitVec 36} {len : Fin 4097} {data : Option (List Byte)} {poison : Bool} {s₁ : State} : FrR 131943547038782 s₁ (execApertureAccess off len data poison s₁) := by
  have h : Fr 131943547038782 s₁ s₁ := Fr.refl
  first | rw [execApertureAccess] | unfold execApertureAccess
  repeat' first
    | with_reducible assumption
    | (with_reducible refine State.aerAdvisory_frame ?_ rfl)
    | (with_reducible refine State.unsupported_frame ?_ rfl)
    | (with_reducible refine State.holdAccess_frame ?_ rfl)
    | (with_reducible refine FrR.ok ?_)
    | (with_reducible refine FrR.ite ?_ ?_)
    | (lift_lets; intro x; refine_lift have hb : ∀ y, y = x → Fr 131943547038782 s₁ y := ?_; ?_; all_goals first | (have hx := hb x rfl; clear hb; clear_value x) | (intro y hy; unfold x at hy; rw [hy]; clear hy y))
    | (with_reducible refine State.cnt_frame ?_ rfl)
    | (with_reducible refine Fr2.out (State.store_frame ?_ rfl))
    | (with_reducible refine Fr22.out (State.load_frame ?_ rfl))
    | split
    | (with_reducible refine Fr.upd_answer32_answerErr ?_ rfl rfl)

theorem execWinCommit_frame {q : Requester} {v : W32} {s₁ : State} : FrR 2 s₁ (execWinCommit q v s₁) := by
  have h : Fr 2 s₁ s₁ := Fr.refl
  first | rw [execWinCommit] | unfold execWinCommit
  repeat' first
    | with_reducible assumption
    | (with_reducible refine FrR.ok ?_)
    | (with_reducible refine writeWinCommit_frame ?_ rfl)

theorem execWinActivate_frame {s₁ : State} : FrR 2147483650 s₁ (execWinActivate s₁) := by
  have h : Fr 2147483650 s₁ s₁ := Fr.refl
  first | rw [execWinActivate] | unfold execWinActivate
  repeat' first
    | with_reducible assumption
    | (with_reducible refine FrR.ok ?_)
    | (with_reducible refine FrR.ite ?_ ?_)
    | (lift_lets; intro x; clear_value x)
    | (with_reducible refine State.sf_frame ?_ rfl)
    | (with_reducible refine Fr.host ?_ rfl)

theorem execHwinCommit_frame {q : Requester} {v : W32} {s₁ : State} : FrR 96759174925370 s₁ (execHwinCommit q v s₁) := by
  have h : Fr 96759174925370 s₁ s₁ := Fr.refl
  first | rw [execHwinCommit] | unfold execHwinCommit
  repeat' first
    | with_reducible assumption
    | (with_reducible refine FrR.ok ?_)
    | (with_reducible refine writeHwinCommit_frame ?_ rfl)

theorem execHwinCopyDone_frame {s₁ : State} : FrR 2147483650 s₁ (execHwinCopyDone s₁) := by
  have h : Fr 2147483650 s₁ s₁ := Fr.refl
  first | rw [execHwinCopyDone] | unfold execHwinCopyDone
  repeat' first
    | with_reducible assumption
    | (with_reducible refine FrR.ok ?_)
    | (lift_lets; intro x; clear_value x)
    | (with_reducible refine State.sf_frame ?_ rfl)
    | split
    | (with_reducible refine Fr.host ?_ rfl)

theorem execSynHostWinSet_frame {r : SynReq} {first : Nat} {entries : List (List Byte)} {s₁ : State} : FrR 131943547014462 s₁ (execSynHostWinSet r first entries s₁) := by
  have h : Fr 131943547014462 s₁ s₁ := Fr.refl
  first | rw [execSynHostWinSet] | unfold execSynHostWinSet
  repeat' first
    | with_reducible assumption
    | (with_reducible refine State.load_frame ?_ rfl)
    | (with_reducible refine Fr22.out (State.load_frame ?_ rfl))
    | (with_reducible refine FrR.ok ?_)
    | (lift_lets; intro x; clear_value x)
    | (with_reducible refine State.syn_frame ?_ (fun z h => ?_) rfl)
    | (with_reducible refine success_frame ?_ rfl)
    | (with_reducible refine refuseFree_frame ?_ rfl)
    | (with_reducible refine State.poke_frame ?_ rfl)
    | (with_reducible refine State.hwinCommit_frame ?_ rfl)
    | (with_reducible refine State.sf_frame ?_ rfl)
    | (with_reducible refine refuse_frame ?_ rfl)
    | (with_reducible refine Fr1.ite ?_ ?_)
    | split

theorem execSynHostWinQuery_frame {r : SynReq} {first : Nat} {count : Nat} {s₁ : State} : FrR 2304 s₁ (execSynHostWinQuery r first count s₁) := by
  have h : Fr 2304 s₁ s₁ := Fr.refl
  first | rw [execSynHostWinQuery] | unfold execSynHostWinQuery
  repeat' first
    | with_reducible assumption
    | (with_reducible refine FrR.ok ?_)
    | (with_reducible refine State.syn_frame ?_ (fun z h => ?_) rfl)
    | (with_reducible refine success_frame ?_ rfl)
    | (with_reducible refine refuseFree_frame ?_ rfl)
    | (with_reducible refine Fr1.ite ?_ ?_)

theorem execTranslationCompletion_frame {pasid : Option (BitVec 20)} {page : BitVec 52} {bus : Option (BitVec 52)} {raced : Bool} {s₁ : State} : FrR 2147484928 s₁ (execTranslationCompletion pasid page bus raced s₁) := by
  have h : Fr 2147484928 s₁ s₁ := Fr.refl
  first | rw [execTranslationCompletion] | unfold execTranslationCompletion
  repeat' first
    | with_reducible assumption
    | (with_reducible refine FrR.ok ?_)
    | (with_reducible refine FrR.ite ?_ ?_)
    | (intro x; refine_lift have hb : ∀ y, y = x → Fr 2147484928 s₁ y := ?_; ?_; all_goals first | (have hx := hb x rfl; clear hb; clear_value x) | (intro y hy; unfold x at hy; rw [hy]; clear hy y))
    | (intro x; clear_value x)
    | (lift_lets; intro x; clear_value x)
    | (with_reducible refine State.tick_frame ?_ rfl)
    | (with_reducible refine State.emit_frame ?_ rfl)
    | (with_reducible refine Fr.ite ?_ ?_)
    | split
    | (with_reducible refine Fr.host ?_ rfl)

theorem execInvalidationRequest_frame {pasid : Option (BitVec 20)} {page : BitVec 52} {pages : BitVec 52} {itag : Fin 32} {s₁ : State} : FrR 2147483648 s₁ (execInvalidationRequest pasid page pages itag s₁) := by
  have h : Fr 2147483648 s₁ s₁ := Fr.refl
  first | rw [execInvalidationRequest] | unfold execInvalidationRequest
  repeat' first
    | with_reducible assumption
    | (with_reducible refine FrR.ok ?_)
    | (lift_lets; intro x; clear_value x)
    | dsimp only
    | (with_reducible refine Fr.host ?_ rfl)

theorem execInvalidationCompletion_frame {itag : Fin 32} {s₁ : State} : FrR 2147484672 s₁ (execInvalidationCompletion itag s₁) := by
  have h : Fr 2147484672 s₁ s₁ := Fr.refl
  first | rw [execInvalidationCompletion] | unfold execInvalidationCompletion
  repeat' first
    | with_reducible assumption
    | (with_reducible refine FrR.ok ?_)
    | (with_reducible refine FrR.ite ?_ ?_)
    | (lift_lets; intro x; clear_value x)
    | (with_reducible refine State.emit_frame ?_ rfl)
    | split
    | (with_reducible refine Fr.host ?_ rfl)

theorem execCompletionTimeout_frame {tag : BitVec 10} {s₁ : State} : FrR 2147484672 s₁ (execCompletionTimeout tag s₁) := by
  have h : Fr 2147484672 s₁ s₁ := Fr.refl
  first | rw [execCompletionTimeout] | unfold execCompletionTimeout
  repeat' first
    | with_reducible assumption
    | (with_reducible refine FrR.ok ?_)
    | (with_reducible refine FrR.ite ?_ ?_)
    | (lift_lets; intro x; clear_value x)
    | (with_reducible refine State.aerNonFatal_frame ?_ rfl)
    | (with_reducible refine Fr.host ?_ rfl)

theorem execMsixSend_frame {v : Fin 2048} {s₁ : State} : FrR 2147484674 s₁ (execMsixSend v s₁) := by
  have h : Fr 2147484674 s₁ s₁ := Fr.refl
  first | rw [execMsixSend] | unfold execMsixSend
  repeat' first
    | with_reducible assumption
    | (with_reducible refine FrR.ok ?_)
    | (with_reducible refine FrR.ite ?_ ?_)
    | (intro x; clear_value x)
    | (lift_lets; intro x; refine_lift have hb : ∀ y, y = x → Fr 2147484674 s₁ y := ?_; ?_; all_goals first | (have hx := hb x rfl; clear hb; clear_value x) | (intro y hy; unfold x at hy; rw [hy]; clear hy y))
    | (with_reducible refine State.pba_frame ?_ rfl)
    | (with_reducible refine State.emit_frame ?_ rfl)
    | split
    | (with_reducible refine Fr.host ?_ rfl)

theorem execBusMasterEnableClear_frame {s₁ : State} : FrR 131957002407230 s₁ (execBusMasterEnableClear s₁) := by
  have h : Fr 131957002407230 s₁ s₁ := Fr.refl
  first | rw [execBusMasterEnableClear] | unfold execBusMasterEnableClear
  repeat' first
    | with_reducible assumption
    | (with_reducible refine FrR.ok ?_)
    | (with_reducible refine State.cfgWr_frame ?_ rfl)
    | (with_reducible refine State.hostStops_frame ?_ rfl)

theorem execBusMasterEnableSet_frame {s₁ : State} : FrR 131957213171198 s₁ (execBusMasterEnableSet s₁) := by
  have h : Fr 131957213171198 s₁ s₁ := Fr.refl
  first | rw [execBusMasterEnableSet] | unfold execBusMasterEnableSet
  repeat' first
    | with_reducible assumption
    | (with_reducible refine FrR.ok ?_)
    | (with_reducible refine State.cfgWr_frame ?_ rfl)
    | (with_reducible refine State.hostReturns_frame ?_ rfl)

theorem execInitiateFunctionLevelReset_frame {s₁ : State} : FrR 131958285864254 s₁ (execInitiateFunctionLevelReset s₁) := by
  have h : Fr 131958285864254 s₁ s₁ := Fr.refl
  first | rw [execInitiateFunctionLevelReset] | unfold execInitiateFunctionLevelReset
  repeat' first
    | with_reducible assumption
    | (with_reducible refine FrR.ok ?_)
    | (with_reducible refine State.startFlr_frame ?_ rfl)

theorem execFunctionLevelResetDone_frame {s₁ : State} : FrR 2147483648 s₁ (execFunctionLevelResetDone s₁) := by
  have h : Fr 2147483648 s₁ s₁ := Fr.refl
  first | rw [execFunctionLevelResetDone] | unfold execFunctionLevelResetDone
  repeat' first
    | with_reducible assumption
    | (with_reducible refine FrR.ok ?_)
    | (lift_lets; intro x; clear_value x)
    | (with_reducible refine Fr.host ?_ rfl)

theorem execD3hot_frame {s₁ : State} : FrR 131957002407230 s₁ (execD3hot s₁) := by
  have h : Fr 131957002407230 s₁ s₁ := Fr.refl
  first | rw [execD3hot] | unfold execD3hot
  repeat' first
    | with_reducible assumption
    | (with_reducible refine FrR.ok ?_)
    | (with_reducible refine State.toD3hot_frame ?_ rfl)

theorem execD0_frame {s₁ : State} : FrR 131957213171198 s₁ (execD0 s₁) := by
  have h : Fr 131957213171198 s₁ s₁ := Fr.refl
  first | rw [execD0] | unfold execD0
  repeat' first
    | with_reducible assumption
    | (with_reducible refine FrR.ok ?_)
    | (with_reducible refine State.toD0_frame ?_ rfl)

theorem execPmeTurnOff_frame {s₁ : State} : FrR 2147484672 s₁ (execPmeTurnOff s₁) := by
  have h : Fr 2147484672 s₁ s₁ := Fr.refl
  first | rw [execPmeTurnOff] | unfold execPmeTurnOff
  repeat' first
    | with_reducible assumption
    | (with_reducible refine FrR.ok ?_)
    | (lift_lets; intro x; clear_value x)
    | (with_reducible refine State.emit_frame ?_ rfl)
    | (with_reducible refine Fr.host ?_ rfl)

theorem execL1Entry_frame {s₁ : State} : FrR 2147483648 s₁ (execL1Entry s₁) := by
  have h : Fr 2147483648 s₁ s₁ := Fr.refl
  first | rw [execL1Entry] | unfold execL1Entry
  repeat' first
    | with_reducible assumption
    | (with_reducible refine FrR.ok ?_)
    | (with_reducible refine FrR.ite ?_ ?_)
    | (lift_lets; intro x; clear_value x)
    | (with_reducible refine Fr.host ?_ rfl)

theorem execSynHostQuery_frame {r : SynReq} {s₁ : State} : FrR 2048 s₁ (execSynHostQuery r s₁) := by
  have h : Fr 2048 s₁ s₁ := Fr.refl
  first | rw [execSynHostQuery] | unfold execSynHostQuery
  repeat' first
    | with_reducible assumption
    | (with_reducible refine FrR.ok ?_)
    | (with_reducible refine State.syn_frame ?_ (fun z h => ?_) rfl)
    | (with_reducible refine success_frame ?_ rfl)

end Sys2Proof.Machine
end

