-- ==== Sys2Proof/Laws/ExecFaults.lean ====
section
/-! SUPPORT. Frames of the commands of Machine/Faults.lean: each answers a next state and may change only the parts of its mask. -/

namespace Sys2Proof.Machine

theorem execFaultReport_frame {reps : List FaultRep} {s₁ : State} : FrR 96760248929314 s₁ (execFaultReport reps s₁) := by
  have h : Fr 96760248929314 s₁ s₁ := Fr.refl
  first | rw [execFaultReport] | unfold execFaultReport
  repeat' first
    | with_reducible assumption
    | (with_reducible refine State.flagGroupError_frame ?_ rfl)
    | (with_reducible refine FrR.ok ?_)
    | (with_reducible refine State.faultRep_frame ?_ rfl)
    | (with_reducible refine State.keyStoreError_frame ?_ rfl)
    | (with_reducible refine Fr.foldl (fun z a h => ?_) ?_)

theorem execRailBreak_frame {source : Byte} {runit : W16} {s₁ : State} : FrR 96759174925346 s₁ (execRailBreak source runit s₁) := by
  have h : Fr 96759174925346 s₁ s₁ := Fr.refl
  first | rw [execRailBreak] | unfold execRailBreak
  repeat' first
    | with_reducible assumption
    | (with_reducible refine FrR.ok ?_)
    | (with_reducible refine State.breakRail_frame ?_ rfl)

theorem execBlockLine_frame {b : Fin 22} {raised : Bool} {s₁ : State} : FrR 96759174925346 s₁ (execBlockLine b raised s₁) := by
  have h : Fr 96759174925346 s₁ s₁ := Fr.refl
  first | rw [execBlockLine] | unfold execBlockLine
  repeat' first
    | with_reducible assumption
    | (with_reducible refine FrR.ok ?_)
    | (with_reducible refine FrR.ite ?_ ?_)
    | (lift_lets; intro x; clear_value x)
    | (with_reducible refine State.raiseLine_frame ?_ rfl)
    | (with_reducible refine Fr.flt ?_ rfl)

theorem execFltAck_frame {_q : Requester} {c : Fin 3} {valid : Bool} {overflow : Bool} {s₁ : State} : FrR 2 s₁ (execFltAck _q c valid overflow s₁) := by
  have h : Fr 2 s₁ s₁ := Fr.refl
  first | rw [execFltAck] | unfold execFltAck
  repeat' first
    | with_reducible assumption
    | (with_reducible refine FrR.ok ?_)
    | (with_reducible refine State.ackFault_frame ?_ rfl)

theorem execFltModeWrite_frame {q : Requester} {v : W32} {s₁ : State} : FrR 2 s₁ (execFltModeWrite q v s₁) := by
  have h : Fr 2 s₁ s₁ := Fr.refl
  first | rw [execFltModeWrite] | unfold execFltModeWrite
  repeat' first
    | with_reducible assumption
    | (with_reducible refine FrR.ok ?_)
    | (with_reducible refine writeFltCtl_frame ?_ rfl)

theorem execFltBlocksClear_frame {q : Requester} {v : W32} {s₁ : State} : FrR 2 s₁ (execFltBlocksClear q v s₁) := by
  have h : Fr 2 s₁ s₁ := Fr.refl
  first | rw [execFltBlocksClear] | unfold execFltBlocksClear
  repeat' first
    | with_reducible assumption
    | (with_reducible refine FrR.ok ?_)
    | (with_reducible refine writeFltBlocks_frame ?_ rfl)

theorem execFltInjArm_frame {q : Requester} {v : W32} {s₁ : State} : FrR 96759174925346 s₁ (execFltInjArm q v s₁) := by
  have h : Fr 96759174925346 s₁ s₁ := Fr.refl
  first | rw [execFltInjArm] | unfold execFltInjArm
  repeat' first
    | with_reducible assumption
    | (with_reducible refine FrR.ok ?_)
    | (with_reducible refine writeFltInj_frame ?_ rfl)

theorem execInjectionTargetWrite_frame {checker : Fin 6} {unit : W16} {addr : W64} {s₁ : State} : FrR 8796093284378 s₁ (execInjectionTargetWrite checker unit addr s₁) := by
  have h : Fr 8796093284378 s₁ s₁ := Fr.refl
  first | rw [execInjectionTargetWrite] | unfold execInjectionTargetWrite
  repeat' first
    | with_reducible assumption
    | (with_reducible refine FrR.ok ?_)
    | (with_reducible refine State.takeInjection_frame ?_ rfl)
    | (with_reducible refine State.markTarget_frame ?_ rfl)
    | (with_reducible refine Fr.eq2 (by assumption) ?_)
    | split

theorem execCeEventDue_frame {source : Byte} {s₁ : State} : FrR 8798240508962 s₁ (execCeEventDue source s₁) := by
  have h : Fr 8798240508962 s₁ s₁ := Fr.refl
  first | rw [execCeEventDue] | unfold execCeEventDue
  repeat' first
    | with_reducible assumption
    | (with_reducible refine FrR.ok ?_)
    | (with_reducible refine FrR.ite ?_ ?_)
    | (with_reducible refine State.writeFltEvent_frame ?_ rfl)
    | split

theorem execSynFltQuery_frame {r : SynReq} {s₁ : State} : FrR 2048 s₁ (execSynFltQuery r s₁) := by
  have h : Fr 2048 s₁ s₁ := Fr.refl
  first | rw [execSynFltQuery] | unfold execSynFltQuery
  repeat' first
    | with_reducible assumption
    | (with_reducible refine FrR.ok ?_)
    | (intro x; clear_value x)
    | (lift_lets; intro x; clear_value x)
    | (with_reducible refine State.syn_frame ?_ (fun z h => ?_) rfl)
    | (with_reducible refine success_frame ?_ rfl)

theorem execSynFltAck_frame {r : SynReq} {classes : BitVec 3} {overflows : BitVec 3} {s₁ : State} : FrR 2050 s₁ (execSynFltAck r classes overflows s₁) := by
  have h : Fr 2050 s₁ s₁ := Fr.refl
  first | rw [execSynFltAck] | unfold execSynFltAck
  repeat' first
    | with_reducible assumption
    | (with_reducible refine FrR.ok ?_)
    | (with_reducible refine State.syn_frame ?_ (fun z h => ?_) rfl)
    | (with_reducible refine success_frame ?_ rfl)
    | (with_reducible refine State.ackFault_frame ?_ rfl)
    | (with_reducible refine Fr.foldl (fun z a h => ?_) ?_)

theorem execSynFltModeSet_frame {r : SynReq} {mode : W32} {s₁ : State} : FrR 2050 s₁ (execSynFltModeSet r mode s₁) := by
  have h : Fr 2050 s₁ s₁ := Fr.refl
  first | rw [execSynFltModeSet] | unfold execSynFltModeSet
  repeat' first
    | with_reducible assumption
    | (with_reducible refine FrR.ok ?_)
    | (with_reducible refine State.syn_frame ?_ (fun z h => ?_) rfl)
    | (with_reducible refine success_frame ?_ rfl)
    | (with_reducible refine State.sf_frame ?_ rfl)
    | (with_reducible refine refuse_frame ?_ rfl)
    | (with_reducible refine Fr1.ite ?_ ?_)

theorem execSynFltInject_frame {r : SynReq} {checker : BitVec 4} {flip : BitVec 2} {unit : W16} {addr : W64} {s₁ : State} : FrR 96759174925346 s₁ (execSynFltInject r checker flip unit addr s₁) := by
  have h : Fr 96759174925346 s₁ s₁ := Fr.refl
  first | rw [execSynFltInject] | unfold execSynFltInject
  repeat' first
    | with_reducible assumption
    | (with_reducible refine FrR.ok ?_)
    | (intro x; refine_lift have hb : ∀ y, y = x → Fr 96759174925346 s₁ y := ?_; ?_; all_goals first | (have hx := hb x rfl; clear hb; clear_value x) | (intro y hy; unfold x at hy; rw [hy]; clear hy y))
    | (lift_lets; intro x; refine_lift have hb : ∀ y, y = x → Fr 96759174925346 s₁ y := ?_; ?_; all_goals first | (have hx := hb x rfl; clear hb; clear_value x) | (intro y hy; unfold x at hy; rw [hy]; clear hy y))
    | (with_reducible refine State.syn_frame ?_ (fun z h => ?_) rfl)
    | (with_reducible refine State.armInjection_frame ?_ rfl)
    | (with_reducible refine State.wr64_frame ?_ rfl)
    | (with_reducible refine success_frame ?_ rfl)
    | (with_reducible refine State.sf_frame ?_ rfl)
    | (with_reducible refine refuse_frame ?_ rfl)
    | (with_reducible refine Fr.eq2 (by assumption) ?_)
    | split

theorem execSynFltForceSafe_frame {r : SynReq} {s₁ : State} : FrR 96759174925346 s₁ (execSynFltForceSafe r s₁) := by
  have h : Fr 96759174925346 s₁ s₁ := Fr.refl
  first | rw [execSynFltForceSafe] | unfold execSynFltForceSafe
  repeat' first
    | with_reducible assumption
    | (with_reducible refine FrR.ok ?_)
    | (with_reducible refine State.fault_frame ?_ rfl)
    | (with_reducible refine State.answer_frame ?_ rfl)
    | split

theorem execSynFltBlockClear_frame {r : SynReq} {b : Fin 22} {s₁ : State} : FrR 8796093024258 s₁ (execSynFltBlockClear r b s₁) := by
  have h : Fr 8796093024258 s₁ s₁ := Fr.refl
  first | rw [execSynFltBlockClear] | unfold execSynFltBlockClear
  repeat' first
    | with_reducible assumption
    | (with_reducible refine FrR.ok ?_)
    | (lift_lets; intro x; clear_value x)
    | (with_reducible refine State.syn_frame ?_ (fun z h => ?_) rfl)
    | (with_reducible refine success_frame ?_ rfl)
    | (with_reducible refine State.latchBlock_frame ?_ rfl)
    | (with_reducible refine Fr.flt ?_ rfl)

end Sys2Proof.Machine
end

