-- ==== Sys2Proof/Laws/ExecRegisters.lean ====
section
/-! SUPPORT. Frames of the commands of Machine/Registers.lean: each answers a next state and may change only the parts of its mask. -/

namespace Sys2Proof.Machine

theorem execCoreEvt_frame {q : Requester} {c : Fin 33} {v : W32} {s₁ : State} : FrR 549755813888 s₁ (execCoreEvt q c v s₁) := by
  have h : Fr 549755813888 s₁ s₁ := Fr.refl
  first | rw [execCoreEvt] | unfold execCoreEvt
  repeat' first
    | with_reducible assumption
    | (with_reducible refine FrR.ok ?_)
    | (with_reducible refine writeCoreEvt_frame ?_ rfl)

theorem execRegisterWrite_frame {q : Requester} {space : RegSpace} {off : BitVec 26} {data : List Byte} {s₁ : State} : FrR 136322261975038 s₁ (execRegisterWrite q space off data s₁) := by
  have h : Fr 136322261975038 s₁ s₁ := Fr.refl
  first | rw [execRegisterWrite] | unfold execRegisterWrite
  repeat' first
    | with_reducible assumption
    | (with_reducible refine State.unclaimed_frame ?_ rfl)
    | (with_reducible refine FrR.ok ?_)
    | (with_reducible refine FrR.ite ?_ ?_)
    | (with_reducible refine pageStore_frame ?_ rfl)
    | (with_reducible refine cfgStore_frame ?_ rfl)
    | (with_reducible refine State.answered_frame ?_ rfl)
    | (with_reducible refine Fr2.out (regStore_frame ?_ rfl))
    | split

theorem execRegisterRead_frame {q : Requester} {space : RegSpace} {off : BitVec 26} {len : Fin 4097} {s₁ : State} : FrR 6509585666 s₁ (execRegisterRead q space off len s₁) := by
  have h : Fr 6509585666 s₁ s₁ := Fr.refl
  first | rw [execRegisterRead] | unfold execRegisterRead
  repeat' first
    | with_reducible assumption
    | (with_reducible refine State.unclaimed_frame ?_ rfl)
    | (with_reducible refine FrR.ok ?_)
    | (with_reducible refine FrR.ite ?_ ?_)
    | (with_reducible refine State.answered_frame ?_ rfl)
    | (with_reducible refine Fr2.out (pageLoad_frame ?_ rfl))
    | (with_reducible refine Fr22.out (regLoad_frame ?_ rfl))
    | split

theorem execJtagAccess_frame {op : JtagOp} {s₁ : State} : FrR 136322261975038 s₁ (execJtagAccess op s₁) := by
  have h : Fr 136322261975038 s₁ s₁ := Fr.refl
  first | rw [execJtagAccess] | unfold execJtagAccess
  repeat' first
    | with_reducible assumption
    | (with_reducible refine State.holdAccess_frame ?_ rfl)
    | (with_reducible refine FrR.ok ?_)
    | (with_reducible refine FrR.ite ?_ ?_)
    | (intro x; refine_lift have hb : ∀ y, y = x → Fr 136322261975038 s₁ y := ?_; ?_; all_goals first | (have hx := hb x rfl; clear hb; clear_value x) | (intro y hy; unfold x at hy; rw [hy]; clear hy y))
    | (intro x; clear_value x)
    | (lift_lets; intro x; refine_lift have hb : ∀ y, y = x → Fr 136322261975038 s₁ y := ?_; ?_; all_goals first | (have hx := hb x rfl; clear hb; clear_value x) | (intro y hy; unfold x at hy; rw [hy]; clear hy y))
    | (with_reducible refine State.debugUnlock_frame ?_ rfl)
    | (with_reducible refine State.wr64_frame ?_ rfl)
    | (with_reducible refine writeFltInj_frame ?_ rfl)
    | (with_reducible refine State.answered_frame ?_ rfl)
    | (with_reducible refine State.tick_frame ?_ rfl)
    | (with_reducible refine State.newChallenge_frame ?_ rfl)
    | (with_reducible refine Fr.ite ?_ ?_)
    | (with_reducible refine Fr2.out (State.busStore_frame ?_ rfl))
    | (with_reducible refine Fr22.out (State.busLoad_frame ?_ rfl))
    | split
    | (with_reducible refine Fr.pins ?_ rfl)

end Sys2Proof.Machine
end

