-- ==== Sys2Proof/Laws/ExecClusterOps.lean ====
section
/-! SUPPORT. Frames of the commands of Machine/ClusterOps.lean: each answers a next state and may change only the parts of its mask. -/

namespace Sys2Proof.Machine

theorem execDescriptorFetch_frame {c : Fin 1024} {s₁ : State} : FrR 96759175253050 s₁ (execDescriptorFetch c s₁) := by
  have h : Fr 96759175253050 s₁ s₁ := Fr.refl
  first | rw [execDescriptorFetch] | unfold execDescriptorFetch
  repeat' first
    | with_reducible assumption
    | (with_reducible refine FrR.ok ?_)
    | (with_reducible refine FrR.ite ?_ ?_)
    | (lift_lets; intro x; clear_value x)
    | (with_reducible refine State.cluRefresh_frame ?_ rfl)
    | (with_reducible refine State.fetchEntry_frame ?_ rfl)
    | (with_reducible refine State.sf_frame ?_ rfl)
    | (with_reducible refine State.haltAtFailed_frame ?_ rfl)
    | (with_reducible refine State.setRing_frame ?_ rfl)
    | (with_reducible refine Fr.eq2 (by assumption) ?_)
    | split

theorem execDescriptorIssue_frame {c : Fin 1024} {s₁ : State} : FrR 96759175253050 s₁ (execDescriptorIssue c s₁) := by
  have h : Fr 96759175253050 s₁ s₁ := Fr.refl
  first | rw [execDescriptorIssue] | unfold execDescriptorIssue
  repeat' first
    | with_reducible assumption
    | (with_reducible refine State.headXlat_frame ?_ rfl)
    | (with_reducible refine FrR.ok ?_)
    | (with_reducible refine FrR.ite ?_ ?_)
    | (with_reducible refine State.issueTo_frame ?_ rfl)
    | (with_reducible refine State.cluRefresh_frame ?_ rfl)
    | (with_reducible refine State.flagTake_frame ?_ rfl)
    | (with_reducible refine Fr22.out (State.issueCheck_frame ?_ rfl))
    | (with_reducible refine Fr.eq2 (by assumption) ?_)
    | split

theorem execDescriptorComplete_frame {c : Fin 1024} {ix : W16} {s₁ : State} : FrR 131943547342334 s₁ (execDescriptorComplete c ix s₁) := by
  have h : Fr 131943547342334 s₁ s₁ := Fr.refl
  first | rw [execDescriptorComplete] | unfold execDescriptorComplete
  repeat' first
    | with_reducible assumption
    | (with_reducible refine FrR.ok ?_)
    | (with_reducible refine FrR.ite ?_ ?_)
    | (with_reducible refine State.retire_frame ?_ rfl)
    | (with_reducible refine State.ringRecord_frame ?_ rfl)
    | (with_reducible refine State.cluRefresh_frame ?_ rfl)
    | (with_reducible refine State.flagSet_frame ?_ rfl)
    | (with_reducible refine State.sf_frame ?_ rfl)
    | (with_reducible refine Fr.ite ?_ ?_)
    | (with_reducible refine Fr22.out (State.setFlagOf_frame ?_ rfl))
    | split

theorem runUnit_frameR {c u op : Nat} {f : List Byte → State → Nat × Nat × State} {W : Nat} {s₀ s₁ : State} (h₀ : Fr W s₀ s₁)
    (hf : ∀ d z, Fr W s₀ z → Fr22 W s₀ (f d z)) (hw : 4295033324 &&& W = 4295033324) : FrR W s₀ (runUnit c u op f s₁) := by
  have hr : 4294967788 &&& W = 4294967788 := by
    rw [show (4294967788 : Nat) = 4294967788 &&& 4295033324 from rfl, Nat.and_assoc, hw]
  have hs : 65536 &&& W = 65536 := by rw [show (65536 : Nat) = 65536 &&& 4295033324 from rfl, Nat.and_assoc, hw]
  unfold runUnit
  split
  · rename_i i _
    split
    · have h := hf i.desc s₁ h₀
      exact FrR.ok (State.started_frame (Fr.ite (State.raceLines_frame h.out hr) h.out) hs)
    · exact FrR.ok h₀
  · exact FrR.ok h₀

theorem execNop_frame {c : Fin 1024} {s₁ : State} : FrR 4295033324 s₁ (execNop c s₁) := by
  have h : Fr 4295033324 s₁ s₁ := Fr.refl
  first | rw [execNop] | unfold execNop
  repeat' first
    | with_reducible assumption
    | (with_reducible refine runUnit_frameR ?_ (fun d z h => ?_) rfl)
    | (with_reducible refine Fr22.pair ?_)

theorem execBarEnter_frame {c : Fin 1024} {s₁ : State} : FrR 327680 s₁ (execBarEnter c s₁) := by
  have h : Fr 327680 s₁ s₁ := Fr.refl
  first | rw [execBarEnter] | unfold execBarEnter
  repeat' first
    | with_reducible assumption
    | (with_reducible refine FrR.ok ?_)
    | (with_reducible refine FrR.ite ?_ ?_)
    | (with_reducible refine State.started_frame ?_ rfl)
    | (with_reducible refine State.enterBarrier_frame ?_ rfl)
    | split

theorem execMma_frame {c : Fin 1024} {s₁ : State} : FrR 96763469958638 s₁ (execMma c s₁) := by
  have h : Fr 96763469958638 s₁ s₁ := Fr.refl
  first | rw [execMma] | unfold execMma
  repeat' first
    | with_reducible assumption
    | (with_reducible refine runUnit_frameR ?_ (fun d z h => ?_) rfl)
    | (with_reducible refine mmaRun_frame ?_ rfl)

theorem execVecBin_frame {c : Fin 1024} {s₁ : State} : FrR 96763469958638 s₁ (execVecBin c s₁) := by
  have h : Fr 96763469958638 s₁ s₁ := Fr.refl
  first | rw [execVecBin] | unfold execVecBin
  repeat' first
    | with_reducible assumption
    | (with_reducible refine runUnit_frameR ?_ (fun d z h => ?_) rfl)
    | (with_reducible refine vecBinRun_frame ?_ rfl)

theorem execVecFma_frame {c : Fin 1024} {s₁ : State} : FrR 96763469958638 s₁ (execVecFma c s₁) := by
  have h : Fr 96763469958638 s₁ s₁ := Fr.refl
  first | rw [execVecFma] | unfold execVecFma
  repeat' first
    | with_reducible assumption
    | (with_reducible refine runUnit_frameR ?_ (fun d z h => ?_) rfl)
    | (with_reducible refine vecFmaRun_frame ?_ rfl)

theorem execVecUn_frame {c : Fin 1024} {s₁ : State} : FrR 96763469958638 s₁ (execVecUn c s₁) := by
  have h : Fr 96763469958638 s₁ s₁ := Fr.refl
  first | rw [execVecUn] | unfold execVecUn
  repeat' first
    | with_reducible assumption
    | (with_reducible refine runUnit_frameR ?_ (fun d z h => ?_) rfl)
    | (with_reducible refine vecUnRun_frame ?_ rfl)

theorem execVecRed_frame {c : Fin 1024} {s₁ : State} : FrR 96763469958638 s₁ (execVecRed c s₁) := by
  have h : Fr 96763469958638 s₁ s₁ := Fr.refl
  first | rw [execVecRed] | unfold execVecRed
  repeat' first
    | with_reducible assumption
    | (with_reducible refine runUnit_frameR ?_ (fun d z h => ?_) rfl)
    | (with_reducible refine vecRedRun_frame ?_ rfl)

theorem execVecTopk_frame {c : Fin 1024} {s₁ : State} : FrR 96763469958638 s₁ (execVecTopk c s₁) := by
  have h : Fr 96763469958638 s₁ s₁ := Fr.refl
  first | rw [execVecTopk] | unfold execVecTopk
  repeat' first
    | with_reducible assumption
    | (with_reducible refine runUnit_frameR ?_ (fun d z h => ?_) rfl)
    | (with_reducible refine vecTopkRun_frame ?_ rfl)

theorem execVecRand_frame {c : Fin 1024} {s₁ : State} : FrR 96763470089710 s₁ (execVecRand c s₁) := by
  have h : Fr 96763470089710 s₁ s₁ := Fr.refl
  first | rw [execVecRand] | unfold execVecRand
  repeat' first
    | with_reducible assumption
    | (with_reducible refine runUnit_frameR ?_ (fun d z h => ?_) rfl)
    | (with_reducible refine vecRandRun_frame ?_ rfl)

theorem execSfu_frame {c : Fin 1024} {s₁ : State} : FrR 96763469958638 s₁ (execSfu c s₁) := by
  have h : Fr 96763469958638 s₁ s₁ := Fr.refl
  first | rw [execSfu] | unfold execSfu
  repeat' first
    | with_reducible assumption
    | (with_reducible refine runUnit_frameR ?_ (fun d z h => ?_) rfl)
    | (with_reducible refine sfuRun_frame ?_ rfl)

theorem execCvt_frame {c : Fin 1024} {s₁ : State} : FrR 96763470089710 s₁ (execCvt c s₁) := by
  have h : Fr 96763470089710 s₁ s₁ := Fr.refl
  first | rw [execCvt] | unfold execCvt
  repeat' first
    | with_reducible assumption
    | (with_reducible refine runUnit_frameR ?_ (fun d z h => ?_) rfl)
    | (with_reducible refine cvtRun_frame ?_ rfl)

theorem execDmaCopy_frame {c : Fin 1024} {mover : Fin 2} {s₁ : State} : FrR 136322261975038 s₁ (execDmaCopy c mover s₁) := by
  have h : Fr 136322261975038 s₁ s₁ := Fr.refl
  first | rw [execDmaCopy] | unfold execDmaCopy
  repeat' first
    | with_reducible assumption
    | (with_reducible refine runUnit_frameR ?_ (fun d z h => ?_) rfl)
    | (with_reducible refine copyRun_frame ?_ rfl)

theorem execDma2d_frame {c : Fin 1024} {mover : Fin 2} {s₁ : State} : FrR 136322261975038 s₁ (execDma2d c mover s₁) := by
  have h : Fr 136322261975038 s₁ s₁ := Fr.refl
  first | rw [execDma2d] | unfold execDma2d
  repeat' first
    | with_reducible assumption
    | (with_reducible refine runUnit_frameR ?_ (fun d z h => ?_) rfl)
    | (with_reducible refine copyRun_frame ?_ rfl)

theorem execDmaGather_frame {c : Fin 1024} {mover : Fin 2} {s₁ : State} : FrR 136322261975038 s₁ (execDmaGather c mover s₁) := by
  have h : Fr 136322261975038 s₁ s₁ := Fr.refl
  first | rw [execDmaGather] | unfold execDmaGather
  repeat' first
    | with_reducible assumption
    | (with_reducible refine runUnit_frameR ?_ (fun d z h => ?_) rfl)
    | (with_reducible refine listRun_frame ?_ rfl)

theorem execDmaScatter_frame {c : Fin 1024} {mover : Fin 2} {s₁ : State} : FrR 136322261975038 s₁ (execDmaScatter c mover s₁) := by
  have h : Fr 136322261975038 s₁ s₁ := Fr.refl
  first | rw [execDmaScatter] | unfold execDmaScatter
  repeat' first
    | with_reducible assumption
    | (with_reducible refine runUnit_frameR ?_ (fun d z h => ?_) rfl)
    | (with_reducible refine listRun_frame ?_ rfl)

theorem execDmaFill_frame {c : Fin 1024} {mover : Fin 2} {s₁ : State} : FrR 136322261975038 s₁ (execDmaFill c mover s₁) := by
  have h : Fr 136322261975038 s₁ s₁ := Fr.refl
  first | rw [execDmaFill] | unfold execDmaFill
  repeat' first
    | with_reducible assumption
    | (with_reducible refine runUnit_frameR ?_ (fun d z h => ?_) rfl)
    | (with_reducible refine fillRun_frame ?_ rfl)

end Sys2Proof.Machine
end

