-- ==== Sys2Proof/Laws/ExecTis.lean ====
section
/-! SUPPORT. Frames of the commands of Machine/Tis.lean: each answers a next state and may change only the parts of its mask. -/

namespace Sys2Proof.Machine

theorem execEventException_frame {c : Fin 32} {s₁ : State} : FrR 549755813888 s₁ (execEventException c s₁) := by
  have h : Fr 549755813888 s₁ s₁ := Fr.refl
  first | rw [execEventException] | unfold execEventException
  repeat' first
    | with_reducible assumption
    | (with_reducible refine FrR.ok ?_)
    | (with_reducible refine FrR.ite ?_ ?_)
    | (with_reducible refine State.except_frame ?_ rfl)

theorem execTimerExpiry_frame {c : Fin 32} {s₁ : State} : FrR 549755813888 s₁ (execTimerExpiry c s₁) := by
  have h : Fr 549755813888 s₁ s₁ := Fr.refl
  first | rw [execTimerExpiry] | unfold execTimerExpiry
  repeat' first
    | with_reducible assumption
    | (with_reducible refine FrR.ok ?_)
    | (with_reducible refine FrR.ite ?_ ?_)
    | (with_reducible refine State.setTahr_frame ?_ rfl)

theorem runCore_frameR {c : Fin 32} {word : W32} {reserved : Bool} {body : State → State} {W : Nat} {s₀ s₁ : State} (h₀ : Fr W s₀ s₁)
    (hf : ∀ z, Fr W s₀ z → Fr W s₀ (body z)) (hw : 97308930739234 &&& W = 97308930739234) : FrR W s₀ (runCore c word reserved body s₁) := by
  unfold runCore
  have h1 := State.setTahr_frame (c := c.val) (t := { s₁.tahrOf c.val with waiting := false }) h₀ (Fr.sub rfl hw)
  refine FrR.ite (FrR.ok h₀) ?_
  refine FrR.ite (FrR.ok (State.except_frame h1 (Fr.sub rfl hw))) ?_
  refine FrR.ite (FrR.ok (State.except_frame h1 (Fr.sub rfl hw))) ?_
  have h2 := State.coreEcc_frame (c := c.val) (a := ((s₁.setTahr c.val { s₁.tahrOf c.val with waiting := false }).tahrOf c.val).pc.toNat) h1
    (Fr.sub rfl hw)
  split
  · exact FrR.ok (State.except_frame (Fr.eq2 (by assumption) h2) (Fr.sub rfl hw))
  · have h3 := Fr.eq2 (by assumption) h2
    exact FrR.ite (FrR.ok (State.except_frame h3 (Fr.sub rfl hw))) (FrR.ok (hf _ h3))

theorem regOp_frameR {c : Fin 32} {fn : Nat} {d : BitVec 5} {a : BitVec 5} {b : BitVec 5} {sh : BitVec 5} {f : W32 → W32 → W32} {W : Nat} {s₀ s₁ : State} (h₀ : Fr W s₀ s₁) (hw : 97308930739234 &&& W = 97308930739234) : FrR W s₀ (regOp c fn d a b sh f s₁) := by
  refine FrR.lift hw h₀ ?_
  have h : Fr 97308930739234 s₁ s₁ := Fr.refl
  clear h₀ hw
  first | rw [regOp] | unfold regOp
  repeat' first
    | with_reducible assumption
    | (with_reducible refine runCore_frameR ?_ (fun z h => ?_) rfl)
    | (lift_lets; intro x; clear_value x)
    | (with_reducible refine State.setTahr_frame ?_ rfl)

theorem shiftOp_frameR {c : Fin 32} {fn : Nat} {d : BitVec 5} {a : BitVec 5} {b : BitVec 5} {sh : BitVec 5} {f : W32 → Nat → W32} {W : Nat} {s₀ s₁ : State} (h₀ : Fr W s₀ s₁) (hw : 97308930739234 &&& W = 97308930739234) : FrR W s₀ (shiftOp c fn d a b sh f s₁) := by
  refine FrR.lift hw h₀ ?_
  have h : Fr 97308930739234 s₁ s₁ := Fr.refl
  clear h₀ hw
  first | rw [shiftOp] | unfold shiftOp
  repeat' first
    | with_reducible assumption
    | (with_reducible refine runCore_frameR ?_ (fun z h => ?_) rfl)
    | (lift_lets; intro x; clear_value x)
    | (with_reducible refine State.setTahr_frame ?_ rfl)

theorem execAdd_frame {c : Fin 32} {d : BitVec 5} {a : BitVec 5} {b : BitVec 5} {sh : BitVec 5} {s₁ : State} : FrR 97308930739234 s₁ (execAdd c d a b sh s₁) := by
  have h : Fr 97308930739234 s₁ s₁ := Fr.refl
  first | rw [execAdd] | unfold execAdd
  repeat' first
    | with_reducible assumption
    | (with_reducible refine regOp_frameR ?_ rfl)

theorem execSub_frame {c : Fin 32} {d : BitVec 5} {a : BitVec 5} {b : BitVec 5} {sh : BitVec 5} {s₁ : State} : FrR 97308930739234 s₁ (execSub c d a b sh s₁) := by
  have h : Fr 97308930739234 s₁ s₁ := Fr.refl
  first | rw [execSub] | unfold execSub
  repeat' first
    | with_reducible assumption
    | (with_reducible refine regOp_frameR ?_ rfl)

theorem execAnd_frame {c : Fin 32} {d : BitVec 5} {a : BitVec 5} {b : BitVec 5} {sh : BitVec 5} {s₁ : State} : FrR 97308930739234 s₁ (execAnd c d a b sh s₁) := by
  have h : Fr 97308930739234 s₁ s₁ := Fr.refl
  first | rw [execAnd] | unfold execAnd
  repeat' first
    | with_reducible assumption
    | (with_reducible refine regOp_frameR ?_ rfl)

theorem execOr_frame {c : Fin 32} {d : BitVec 5} {a : BitVec 5} {b : BitVec 5} {sh : BitVec 5} {s₁ : State} : FrR 97308930739234 s₁ (execOr c d a b sh s₁) := by
  have h : Fr 97308930739234 s₁ s₁ := Fr.refl
  first | rw [execOr] | unfold execOr
  repeat' first
    | with_reducible assumption
    | (with_reducible refine regOp_frameR ?_ rfl)

theorem execXor_frame {c : Fin 32} {d : BitVec 5} {a : BitVec 5} {b : BitVec 5} {sh : BitVec 5} {s₁ : State} : FrR 97308930739234 s₁ (execXor c d a b sh s₁) := by
  have h : Fr 97308930739234 s₁ s₁ := Fr.refl
  first | rw [execXor] | unfold execXor
  repeat' first
    | with_reducible assumption
    | (with_reducible refine regOp_frameR ?_ rfl)

theorem execShl_frame {c : Fin 32} {d : BitVec 5} {a : BitVec 5} {b : BitVec 5} {sh : BitVec 5} {s₁ : State} : FrR 97308930739234 s₁ (execShl c d a b sh s₁) := by
  have h : Fr 97308930739234 s₁ s₁ := Fr.refl
  first | rw [execShl] | unfold execShl
  repeat' first
    | with_reducible assumption
    | (with_reducible refine regOp_frameR ?_ rfl)

theorem execShr_frame {c : Fin 32} {d : BitVec 5} {a : BitVec 5} {b : BitVec 5} {sh : BitVec 5} {s₁ : State} : FrR 97308930739234 s₁ (execShr c d a b sh s₁) := by
  have h : Fr 97308930739234 s₁ s₁ := Fr.refl
  first | rw [execShr] | unfold execShr
  repeat' first
    | with_reducible assumption
    | (with_reducible refine regOp_frameR ?_ rfl)

theorem execSar_frame {c : Fin 32} {d : BitVec 5} {a : BitVec 5} {b : BitVec 5} {sh : BitVec 5} {s₁ : State} : FrR 97308930739234 s₁ (execSar c d a b sh s₁) := by
  have h : Fr 97308930739234 s₁ s₁ := Fr.refl
  first | rw [execSar] | unfold execSar
  repeat' first
    | with_reducible assumption
    | (with_reducible refine regOp_frameR ?_ rfl)

theorem execShli_frame {c : Fin 32} {d : BitVec 5} {a : BitVec 5} {b : BitVec 5} {sh : BitVec 5} {s₁ : State} : FrR 97308930739234 s₁ (execShli c d a b sh s₁) := by
  have h : Fr 97308930739234 s₁ s₁ := Fr.refl
  first | rw [execShli] | unfold execShli
  repeat' first
    | with_reducible assumption
    | (with_reducible refine shiftOp_frameR ?_ rfl)

theorem execShri_frame {c : Fin 32} {d : BitVec 5} {a : BitVec 5} {b : BitVec 5} {sh : BitVec 5} {s₁ : State} : FrR 97308930739234 s₁ (execShri c d a b sh s₁) := by
  have h : Fr 97308930739234 s₁ s₁ := Fr.refl
  first | rw [execShri] | unfold execShri
  repeat' first
    | with_reducible assumption
    | (with_reducible refine shiftOp_frameR ?_ rfl)

theorem execSari_frame {c : Fin 32} {d : BitVec 5} {a : BitVec 5} {b : BitVec 5} {sh : BitVec 5} {s₁ : State} : FrR 97308930739234 s₁ (execSari c d a b sh s₁) := by
  have h : Fr 97308930739234 s₁ s₁ := Fr.refl
  first | rw [execSari] | unfold execSari
  repeat' first
    | with_reducible assumption
    | (with_reducible refine shiftOp_frameR ?_ rfl)

theorem execCmplt_frame {c : Fin 32} {d : BitVec 5} {a : BitVec 5} {b : BitVec 5} {sh : BitVec 5} {s₁ : State} : FrR 97308930739234 s₁ (execCmplt c d a b sh s₁) := by
  have h : Fr 97308930739234 s₁ s₁ := Fr.refl
  first | rw [execCmplt] | unfold execCmplt
  repeat' first
    | with_reducible assumption
    | (with_reducible refine regOp_frameR ?_ rfl)

theorem execCmpltu_frame {c : Fin 32} {d : BitVec 5} {a : BitVec 5} {b : BitVec 5} {sh : BitVec 5} {s₁ : State} : FrR 97308930739234 s₁ (execCmpltu c d a b sh s₁) := by
  have h : Fr 97308930739234 s₁ s₁ := Fr.refl
  first | rw [execCmpltu] | unfold execCmpltu
  repeat' first
    | with_reducible assumption
    | (with_reducible refine regOp_frameR ?_ rfl)

theorem execMul_frame {c : Fin 32} {d : BitVec 5} {a : BitVec 5} {b : BitVec 5} {sh : BitVec 5} {s₁ : State} : FrR 97308930739234 s₁ (execMul c d a b sh s₁) := by
  have h : Fr 97308930739234 s₁ s₁ := Fr.refl
  first | rw [execMul] | unfold execMul
  repeat' first
    | with_reducible assumption
    | (with_reducible refine regOp_frameR ?_ rfl)

theorem execMulhu_frame {c : Fin 32} {d : BitVec 5} {a : BitVec 5} {b : BitVec 5} {sh : BitVec 5} {s₁ : State} : FrR 97308930739234 s₁ (execMulhu c d a b sh s₁) := by
  have h : Fr 97308930739234 s₁ s₁ := Fr.refl
  first | rw [execMulhu] | unfold execMulhu
  repeat' first
    | with_reducible assumption
    | (with_reducible refine regOp_frameR ?_ rfl)

theorem execMulhs_frame {c : Fin 32} {d : BitVec 5} {a : BitVec 5} {b : BitVec 5} {sh : BitVec 5} {s₁ : State} : FrR 97308930739234 s₁ (execMulhs c d a b sh s₁) := by
  have h : Fr 97308930739234 s₁ s₁ := Fr.refl
  first | rw [execMulhs] | unfold execMulhs
  repeat' first
    | with_reducible assumption
    | (with_reducible refine regOp_frameR ?_ rfl)

theorem execDivu_frame {c : Fin 32} {d : BitVec 5} {a : BitVec 5} {b : BitVec 5} {sh : BitVec 5} {s₁ : State} : FrR 97308930739234 s₁ (execDivu c d a b sh s₁) := by
  have h : Fr 97308930739234 s₁ s₁ := Fr.refl
  first | rw [execDivu] | unfold execDivu
  repeat' first
    | with_reducible assumption
    | (with_reducible refine regOp_frameR ?_ rfl)

theorem execRemu_frame {c : Fin 32} {d : BitVec 5} {a : BitVec 5} {b : BitVec 5} {sh : BitVec 5} {s₁ : State} : FrR 97308930739234 s₁ (execRemu c d a b sh s₁) := by
  have h : Fr 97308930739234 s₁ s₁ := Fr.refl
  first | rw [execRemu] | unfold execRemu
  repeat' first
    | with_reducible assumption
    | (with_reducible refine regOp_frameR ?_ rfl)

theorem execDiv_frame {c : Fin 32} {d : BitVec 5} {a : BitVec 5} {b : BitVec 5} {sh : BitVec 5} {s₁ : State} : FrR 97308930739234 s₁ (execDiv c d a b sh s₁) := by
  have h : Fr 97308930739234 s₁ s₁ := Fr.refl
  first | rw [execDiv] | unfold execDiv
  repeat' first
    | with_reducible assumption
    | (with_reducible refine regOp_frameR ?_ rfl)

theorem execRem_frame {c : Fin 32} {d : BitVec 5} {a : BitVec 5} {b : BitVec 5} {sh : BitVec 5} {s₁ : State} : FrR 97308930739234 s₁ (execRem c d a b sh s₁) := by
  have h : Fr 97308930739234 s₁ s₁ := Fr.refl
  first | rw [execRem] | unfold execRem
  repeat' first
    | with_reducible assumption
    | (with_reducible refine regOp_frameR ?_ rfl)

theorem execClz_frame {c : Fin 32} {d : BitVec 5} {a : BitVec 5} {b : BitVec 5} {sh : BitVec 5} {s₁ : State} : FrR 97308930739234 s₁ (execClz c d a b sh s₁) := by
  have h : Fr 97308930739234 s₁ s₁ := Fr.refl
  first | rw [execClz] | unfold execClz
  repeat' first
    | with_reducible assumption
    | (with_reducible refine regOp_frameR ?_ rfl)

theorem execPopc_frame {c : Fin 32} {d : BitVec 5} {a : BitVec 5} {b : BitVec 5} {sh : BitVec 5} {s₁ : State} : FrR 97308930739234 s₁ (execPopc c d a b sh s₁) := by
  have h : Fr 97308930739234 s₁ s₁ := Fr.refl
  first | rw [execPopc] | unfold execPopc
  repeat' first
    | with_reducible assumption
    | (with_reducible refine regOp_frameR ?_ rfl)

theorem immOp_frameR {c : Fin 32} {major : Nat} {d : BitVec 5} {a : BitVec 5} {imm : BitVec 16} {reserved : Bool} {f : W32 → W32} {W : Nat} {s₀ s₁ : State} (h₀ : Fr W s₀ s₁) (hw : 97308930739234 &&& W = 97308930739234) : FrR W s₀ (immOp c major d a imm reserved f s₁) := by
  refine FrR.lift hw h₀ ?_
  have h : Fr 97308930739234 s₁ s₁ := Fr.refl
  clear h₀ hw
  first | rw [immOp] | unfold immOp
  repeat' first
    | with_reducible assumption
    | (with_reducible refine runCore_frameR ?_ (fun z h => ?_) rfl)
    | (lift_lets; intro x; clear_value x)
    | (with_reducible refine State.setTahr_frame ?_ rfl)

theorem execAddi_frame {c : Fin 32} {d : BitVec 5} {a : BitVec 5} {imm : BitVec 16} {s₁ : State} : FrR 97308930739234 s₁ (execAddi c d a imm s₁) := by
  have h : Fr 97308930739234 s₁ s₁ := Fr.refl
  first | rw [execAddi] | unfold execAddi
  repeat' first
    | with_reducible assumption
    | (with_reducible refine immOp_frameR ?_ rfl)

theorem execAndi_frame {c : Fin 32} {d : BitVec 5} {a : BitVec 5} {imm : BitVec 16} {s₁ : State} : FrR 97308930739234 s₁ (execAndi c d a imm s₁) := by
  have h : Fr 97308930739234 s₁ s₁ := Fr.refl
  first | rw [execAndi] | unfold execAndi
  repeat' first
    | with_reducible assumption
    | (with_reducible refine immOp_frameR ?_ rfl)

theorem execOri_frame {c : Fin 32} {d : BitVec 5} {a : BitVec 5} {imm : BitVec 16} {s₁ : State} : FrR 97308930739234 s₁ (execOri c d a imm s₁) := by
  have h : Fr 97308930739234 s₁ s₁ := Fr.refl
  first | rw [execOri] | unfold execOri
  repeat' first
    | with_reducible assumption
    | (with_reducible refine immOp_frameR ?_ rfl)

theorem execXori_frame {c : Fin 32} {d : BitVec 5} {a : BitVec 5} {imm : BitVec 16} {s₁ : State} : FrR 97308930739234 s₁ (execXori c d a imm s₁) := by
  have h : Fr 97308930739234 s₁ s₁ := Fr.refl
  first | rw [execXori] | unfold execXori
  repeat' first
    | with_reducible assumption
    | (with_reducible refine immOp_frameR ?_ rfl)

theorem execCmplti_frame {c : Fin 32} {d : BitVec 5} {a : BitVec 5} {imm : BitVec 16} {s₁ : State} : FrR 97308930739234 s₁ (execCmplti c d a imm s₁) := by
  have h : Fr 97308930739234 s₁ s₁ := Fr.refl
  first | rw [execCmplti] | unfold execCmplti
  repeat' first
    | with_reducible assumption
    | (with_reducible refine immOp_frameR ?_ rfl)

theorem execCmpltiu_frame {c : Fin 32} {d : BitVec 5} {a : BitVec 5} {imm : BitVec 16} {s₁ : State} : FrR 97308930739234 s₁ (execCmpltiu c d a imm s₁) := by
  have h : Fr 97308930739234 s₁ s₁ := Fr.refl
  first | rw [execCmpltiu] | unfold execCmpltiu
  repeat' first
    | with_reducible assumption
    | (with_reducible refine immOp_frameR ?_ rfl)

theorem execImmh_frame {c : Fin 32} {d : BitVec 5} {a : BitVec 5} {imm : BitVec 16} {s₁ : State} : FrR 97308930739234 s₁ (execImmh c d a imm s₁) := by
  have h : Fr 97308930739234 s₁ s₁ := Fr.refl
  first | rw [execImmh] | unfold execImmh
  repeat' first
    | with_reducible assumption
    | (with_reducible refine immOp_frameR ?_ rfl)

theorem execBrr_frame {c : Fin 32} {d : BitVec 5} {a : BitVec 5} {b : BitVec 5} {sh : BitVec 5} {s₁ : State} : FrR 97308930739234 s₁ (execBrr c d a b sh s₁) := by
  have h : Fr 97308930739234 s₁ s₁ := Fr.refl
  first | rw [execBrr] | unfold execBrr
  repeat' first
    | with_reducible assumption
    | (with_reducible refine runCore_frameR ?_ (fun z h => ?_) rfl)
    | (with_reducible refine State.jump_frame ?_ rfl)

theorem execCallr_frame {c : Fin 32} {d : BitVec 5} {a : BitVec 5} {b : BitVec 5} {sh : BitVec 5} {s₁ : State} : FrR 97308930739234 s₁ (execCallr c d a b sh s₁) := by
  have h : Fr 97308930739234 s₁ s₁ := Fr.refl
  first | rw [execCallr] | unfold execCallr
  repeat' first
    | with_reducible assumption
    | (with_reducible refine runCore_frameR ?_ (fun z h => ?_) rfl)
    | (with_reducible refine State.jump_frame ?_ rfl)

theorem branch_frameR {c : Fin 32} {major : Nat} {a : BitVec 5} {b : BitVec 5} {off : BitVec 16} {cond : W32 → W32 → Bool} {W : Nat} {s₀ s₁ : State} (h₀ : Fr W s₀ s₁) (hw : 97308930739234 &&& W = 97308930739234) : FrR W s₀ (branch c major a b off cond s₁) := by
  refine FrR.lift hw h₀ ?_
  have h : Fr 97308930739234 s₁ s₁ := Fr.refl
  clear h₀ hw
  first | rw [branch] | unfold branch
  repeat' first
    | with_reducible assumption
    | (with_reducible refine runCore_frameR ?_ (fun z h => ?_) rfl)
    | (lift_lets; intro x; clear_value x)
    | (with_reducible refine State.setTahr_frame ?_ rfl)
    | (with_reducible refine State.jump_frame ?_ rfl)
    | (with_reducible refine Fr.ite ?_ ?_)

theorem execBreq_frame {c : Fin 32} {a : BitVec 5} {b : BitVec 5} {off : BitVec 16} {s₁ : State} : FrR 97308930739234 s₁ (execBreq c a b off s₁) := by
  have h : Fr 97308930739234 s₁ s₁ := Fr.refl
  first | rw [execBreq] | unfold execBreq
  repeat' first
    | with_reducible assumption
    | (with_reducible refine branch_frameR ?_ rfl)

theorem execBrne_frame {c : Fin 32} {a : BitVec 5} {b : BitVec 5} {off : BitVec 16} {s₁ : State} : FrR 97308930739234 s₁ (execBrne c a b off s₁) := by
  have h : Fr 97308930739234 s₁ s₁ := Fr.refl
  first | rw [execBrne] | unfold execBrne
  repeat' first
    | with_reducible assumption
    | (with_reducible refine branch_frameR ?_ rfl)

theorem execBrlt_frame {c : Fin 32} {a : BitVec 5} {b : BitVec 5} {off : BitVec 16} {s₁ : State} : FrR 97308930739234 s₁ (execBrlt c a b off s₁) := by
  have h : Fr 97308930739234 s₁ s₁ := Fr.refl
  first | rw [execBrlt] | unfold execBrlt
  repeat' first
    | with_reducible assumption
    | (with_reducible refine branch_frameR ?_ rfl)

theorem execBrge_frame {c : Fin 32} {a : BitVec 5} {b : BitVec 5} {off : BitVec 16} {s₁ : State} : FrR 97308930739234 s₁ (execBrge c a b off s₁) := by
  have h : Fr 97308930739234 s₁ s₁ := Fr.refl
  first | rw [execBrge] | unfold execBrge
  repeat' first
    | with_reducible assumption
    | (with_reducible refine branch_frameR ?_ rfl)

theorem execBrltu_frame {c : Fin 32} {a : BitVec 5} {b : BitVec 5} {off : BitVec 16} {s₁ : State} : FrR 97308930739234 s₁ (execBrltu c a b off s₁) := by
  have h : Fr 97308930739234 s₁ s₁ := Fr.refl
  first | rw [execBrltu] | unfold execBrltu
  repeat' first
    | with_reducible assumption
    | (with_reducible refine branch_frameR ?_ rfl)

theorem execBrgeu_frame {c : Fin 32} {a : BitVec 5} {b : BitVec 5} {off : BitVec 16} {s₁ : State} : FrR 97308930739234 s₁ (execBrgeu c a b off s₁) := by
  have h : Fr 97308930739234 s₁ s₁ := Fr.refl
  first | rw [execBrgeu] | unfold execBrgeu
  repeat' first
    | with_reducible assumption
    | (with_reducible refine branch_frameR ?_ rfl)

theorem execJmp_frame {c : Fin 32} {off : BitVec 26} {s₁ : State} : FrR 97308930739234 s₁ (execJmp c off s₁) := by
  have h : Fr 97308930739234 s₁ s₁ := Fr.refl
  first | rw [execJmp] | unfold execJmp
  repeat' first
    | with_reducible assumption
    | (with_reducible refine runCore_frameR ?_ (fun z h => ?_) rfl)
    | (with_reducible refine State.jump_frame ?_ rfl)

theorem execCall_frame {c : Fin 32} {off : BitVec 26} {s₁ : State} : FrR 97308930739234 s₁ (execCall c off s₁) := by
  have h : Fr 97308930739234 s₁ s₁ := Fr.refl
  first | rw [execCall] | unfold execCall
  repeat' first
    | with_reducible assumption
    | (with_reducible refine runCore_frameR ?_ (fun z h => ?_) rfl)
    | (with_reducible refine State.jump_frame ?_ rfl)

theorem loadOp_frameR {c : Fin 32} {major : Nat} {n : Nat} {signed : Bool} {r : BitVec 5} {a : BitVec 5} {mode : BitVec 3} {f : BitVec 13} {W : Nat} {s₀ s₁ : State} (h₀ : Fr W s₀ s₁) (hw : 97308997848378 &&& W = 97308997848378) : FrR W s₀ (loadOp c major n signed r a mode f s₁) := by
  refine FrR.lift hw h₀ ?_
  have h : Fr 97308997848378 s₁ s₁ := Fr.refl
  clear h₀ hw
  first | rw [loadOp] | unfold loadOp
  repeat' first
    | with_reducible assumption
    | (with_reducible refine runCore_frameR ?_ (fun z h => ?_) rfl)
    | (lift_lets; intro x; clear_value x)
    | (with_reducible refine State.except_frame ?_ rfl)
    | (with_reducible refine State.setTahr_frame ?_ rfl)
    | (with_reducible refine State.coreLoad_frame ?_ rfl)
    | (with_reducible refine Fr.ite ?_ ?_)
    | (with_reducible refine Fr.eq22 (by assumption) ?_)
    | split

theorem storeOp_frameR {c : Fin 32} {major : Nat} {n : Nat} {r : BitVec 5} {a : BitVec 5} {mode : BitVec 3} {f : BitVec 13} {W : Nat} {s₀ s₁ : State} (h₀ : Fr W s₀ s₁) (hw : 136322261975038 &&& W = 136322261975038) : FrR W s₀ (storeOp c major n r a mode f s₁) := by
  refine FrR.lift hw h₀ ?_
  have h : Fr 136322261975038 s₁ s₁ := Fr.refl
  clear h₀ hw
  first | rw [storeOp] | unfold storeOp
  repeat' first
    | with_reducible assumption
    | (with_reducible refine runCore_frameR ?_ (fun z h => ?_) rfl)
    | (lift_lets; intro x; clear_value x)
    | (with_reducible refine State.except_frame ?_ rfl)
    | (with_reducible refine State.coreStore_frame ?_ rfl)
    | (with_reducible refine State.setTahr_frame ?_ rfl)
    | (with_reducible refine Fr.ite ?_ ?_)
    | (with_reducible refine Fr.eq2 (by assumption) ?_)
    | split

theorem execLdb_frame {c : Fin 32} {t : BitVec 5} {a : BitVec 5} {mode : BitVec 3} {f : BitVec 13} {s₁ : State} : FrR 97308997848378 s₁ (execLdb c t a mode f s₁) := by
  have h : Fr 97308997848378 s₁ s₁ := Fr.refl
  first | rw [execLdb] | unfold execLdb
  repeat' first
    | with_reducible assumption
    | (with_reducible refine loadOp_frameR ?_ rfl)

theorem execLdbs_frame {c : Fin 32} {t : BitVec 5} {a : BitVec 5} {mode : BitVec 3} {f : BitVec 13} {s₁ : State} : FrR 97308997848378 s₁ (execLdbs c t a mode f s₁) := by
  have h : Fr 97308997848378 s₁ s₁ := Fr.refl
  first | rw [execLdbs] | unfold execLdbs
  repeat' first
    | with_reducible assumption
    | (with_reducible refine loadOp_frameR ?_ rfl)

theorem execLdh_frame {c : Fin 32} {t : BitVec 5} {a : BitVec 5} {mode : BitVec 3} {f : BitVec 13} {s₁ : State} : FrR 97308997848378 s₁ (execLdh c t a mode f s₁) := by
  have h : Fr 97308997848378 s₁ s₁ := Fr.refl
  first | rw [execLdh] | unfold execLdh
  repeat' first
    | with_reducible assumption
    | (with_reducible refine loadOp_frameR ?_ rfl)

theorem execLdhs_frame {c : Fin 32} {t : BitVec 5} {a : BitVec 5} {mode : BitVec 3} {f : BitVec 13} {s₁ : State} : FrR 97308997848378 s₁ (execLdhs c t a mode f s₁) := by
  have h : Fr 97308997848378 s₁ s₁ := Fr.refl
  first | rw [execLdhs] | unfold execLdhs
  repeat' first
    | with_reducible assumption
    | (with_reducible refine loadOp_frameR ?_ rfl)

theorem execLdw_frame {c : Fin 32} {t : BitVec 5} {a : BitVec 5} {mode : BitVec 3} {f : BitVec 13} {s₁ : State} : FrR 97308997848378 s₁ (execLdw c t a mode f s₁) := by
  have h : Fr 97308997848378 s₁ s₁ := Fr.refl
  first | rw [execLdw] | unfold execLdw
  repeat' first
    | with_reducible assumption
    | (with_reducible refine loadOp_frameR ?_ rfl)

theorem execStb_frame {c : Fin 32} {t : BitVec 5} {a : BitVec 5} {mode : BitVec 3} {f : BitVec 13} {s₁ : State} : FrR 136322261975038 s₁ (execStb c t a mode f s₁) := by
  have h : Fr 136322261975038 s₁ s₁ := Fr.refl
  first | rw [execStb] | unfold execStb
  repeat' first
    | with_reducible assumption
    | (with_reducible refine storeOp_frameR ?_ rfl)

theorem execSth_frame {c : Fin 32} {t : BitVec 5} {a : BitVec 5} {mode : BitVec 3} {f : BitVec 13} {s₁ : State} : FrR 136322261975038 s₁ (execSth c t a mode f s₁) := by
  have h : Fr 136322261975038 s₁ s₁ := Fr.refl
  first | rw [execSth] | unfold execSth
  repeat' first
    | with_reducible assumption
    | (with_reducible refine storeOp_frameR ?_ rfl)

theorem execStw_frame {c : Fin 32} {t : BitVec 5} {a : BitVec 5} {mode : BitVec 3} {f : BitVec 13} {s₁ : State} : FrR 136322261975038 s₁ (execStw c t a mode f s₁) := by
  have h : Fr 136322261975038 s₁ s₁ := Fr.refl
  first | rw [execStw] | unfold execStw
  repeat' first
    | with_reducible assumption
    | (with_reducible refine storeOp_frameR ?_ rfl)

theorem atomicOp_frameR {c : Fin 32} {fn : Nat} {d : BitVec 5} {a : BitVec 5} {b : BitVec 5} {sh : BitVec 5} {f : W32 → W32 → W32 → Option W32} {W : Nat} {s₀ s₁ : State} (h₀ : Fr W s₀ s₁) (hw : 136322261975038 &&& W = 136322261975038) : FrR W s₀ (atomicOp c fn d a b sh f s₁) := by
  refine FrR.lift hw h₀ ?_
  have h : Fr 136322261975038 s₁ s₁ := Fr.refl
  clear h₀ hw
  first | rw [atomicOp] | unfold atomicOp
  repeat' first
    | with_reducible assumption
    | (with_reducible refine runCore_frameR ?_ (fun z h => ?_) rfl)
    | (intro x; clear_value x)
    | (lift_lets; intro x; clear_value x)
    | (with_reducible refine State.except_frame ?_ rfl)
    | (with_reducible refine State.setTahr_frame ?_ rfl)
    | (with_reducible refine State.coreLoad_frame ?_ rfl)
    | (with_reducible refine Fr.ite ?_ ?_)
    | (with_reducible refine Fr2.out (State.coreStore_frame ?_ rfl))
    | (with_reducible refine Fr.eq22 (by assumption) ?_)
    | split
    | dsimp only

theorem execAtomicSwap_frame {c : Fin 32} {d : BitVec 5} {a : BitVec 5} {b : BitVec 5} {sh : BitVec 5} {s₁ : State} : FrR 136322261975038 s₁ (execAtomicSwap c d a b sh s₁) := by
  have h : Fr 136322261975038 s₁ s₁ := Fr.refl
  first | rw [execAtomicSwap] | unfold execAtomicSwap
  repeat' first
    | with_reducible assumption
    | (with_reducible refine atomicOp_frameR ?_ rfl)

theorem execAadd_frame {c : Fin 32} {d : BitVec 5} {a : BitVec 5} {b : BitVec 5} {sh : BitVec 5} {s₁ : State} : FrR 136322261975038 s₁ (execAadd c d a b sh s₁) := by
  have h : Fr 136322261975038 s₁ s₁ := Fr.refl
  first | rw [execAadd] | unfold execAadd
  repeat' first
    | with_reducible assumption
    | (with_reducible refine atomicOp_frameR ?_ rfl)

theorem execAand_frame {c : Fin 32} {d : BitVec 5} {a : BitVec 5} {b : BitVec 5} {sh : BitVec 5} {s₁ : State} : FrR 136322261975038 s₁ (execAand c d a b sh s₁) := by
  have h : Fr 136322261975038 s₁ s₁ := Fr.refl
  first | rw [execAand] | unfold execAand
  repeat' first
    | with_reducible assumption
    | (with_reducible refine atomicOp_frameR ?_ rfl)

theorem execAor_frame {c : Fin 32} {d : BitVec 5} {a : BitVec 5} {b : BitVec 5} {sh : BitVec 5} {s₁ : State} : FrR 136322261975038 s₁ (execAor c d a b sh s₁) := by
  have h : Fr 136322261975038 s₁ s₁ := Fr.refl
  first | rw [execAor] | unfold execAor
  repeat' first
    | with_reducible assumption
    | (with_reducible refine atomicOp_frameR ?_ rfl)

theorem execCas_frame {c : Fin 32} {d : BitVec 5} {a : BitVec 5} {b : BitVec 5} {sh : BitVec 5} {s₁ : State} : FrR 136322261975038 s₁ (execCas c d a b sh s₁) := by
  have h : Fr 136322261975038 s₁ s₁ := Fr.refl
  first | rw [execCas] | unfold execCas
  repeat' first
    | with_reducible assumption
    | (with_reducible refine atomicOp_frameR ?_ rfl)

theorem execSread_frame {c : Fin 32} {d : BitVec 5} {a : BitVec 5} {n : BitVec 12} {s₁ : State} : FrR 97308930739234 s₁ (execSread c d a n s₁) := by
  have h : Fr 97308930739234 s₁ s₁ := Fr.refl
  first | rw [execSread] | unfold execSread
  repeat' first
    | with_reducible assumption
    | (with_reducible refine runCore_frameR ?_ (fun z h => ?_) rfl)
    | (with_reducible refine State.except_frame ?_ rfl)
    | (with_reducible refine State.setTahr_frame ?_ rfl)
    | split

theorem execSwrite_frame {c : Fin 32} {d : BitVec 5} {a : BitVec 5} {n : BitVec 12} {s₁ : State} : FrR 97308930739234 s₁ (execSwrite c d a n s₁) := by
  have h : Fr 97308930739234 s₁ s₁ := Fr.refl
  first | rw [execSwrite] | unfold execSwrite
  repeat' first
    | with_reducible assumption
    | (with_reducible refine runCore_frameR ?_ (fun z h => ?_) rfl)
    | (with_reducible refine State.except_frame ?_ rfl)
    | (with_reducible refine State.setTahr_frame ?_ rfl)
    | split

theorem execResume_frame {c : Fin 32} {d : BitVec 5} {a : BitVec 5} {n : BitVec 12} {s₁ : State} : FrR 97308930739234 s₁ (execResume c d a n s₁) := by
  have h : Fr 97308930739234 s₁ s₁ := Fr.refl
  first | rw [execResume] | unfold execResume
  repeat' first
    | with_reducible assumption
    | (with_reducible refine runCore_frameR ?_ (fun z h => ?_) rfl)
    | (lift_lets; intro x; clear_value x)
    | (with_reducible refine State.setTahr_frame ?_ rfl)

theorem execWfe_frame {c : Fin 32} {d : BitVec 5} {a : BitVec 5} {n : BitVec 12} {s₁ : State} : FrR 97308930739234 s₁ (execWfe c d a n s₁) := by
  have h : Fr 97308930739234 s₁ s₁ := Fr.refl
  first | rw [execWfe] | unfold execWfe
  repeat' first
    | with_reducible assumption
    | (with_reducible refine runCore_frameR ?_ (fun z h => ?_) rfl)
    | (intro x; clear_value x)
    | (lift_lets; intro x; clear_value x)
    | (with_reducible refine State.setTahr_frame ?_ rfl)

theorem execFence_frame {c : Fin 32} {d : BitVec 5} {a : BitVec 5} {n : BitVec 12} {s₁ : State} : FrR 97308930739234 s₁ (execFence c d a n s₁) := by
  have h : Fr 97308930739234 s₁ s₁ := Fr.refl
  first | rw [execFence] | unfold execFence
  repeat' first
    | with_reducible assumption
    | (with_reducible refine runCore_frameR ?_ (fun z h => ?_) rfl)
    | (with_reducible refine State.setTahr_frame ?_ rfl)

theorem execTrap_frame {c : Fin 32} {d : BitVec 5} {a : BitVec 5} {n : BitVec 12} {s₁ : State} : FrR 97308930739234 s₁ (execTrap c d a n s₁) := by
  have h : Fr 97308930739234 s₁ s₁ := Fr.refl
  first | rw [execTrap] | unfold execTrap
  repeat' first
    | with_reducible assumption
    | (with_reducible refine runCore_frameR ?_ (fun z h => ?_) rfl)
    | (with_reducible refine State.except_frame ?_ rfl)

theorem execBrk_frame {c : Fin 32} {d : BitVec 5} {a : BitVec 5} {n : BitVec 12} {s₁ : State} : FrR 97308930739234 s₁ (execBrk c d a n s₁) := by
  have h : Fr 97308930739234 s₁ s₁ := Fr.refl
  first | rw [execBrk] | unfold execBrk
  repeat' first
    | with_reducible assumption
    | (with_reducible refine runCore_frameR ?_ (fun z h => ?_) rfl)
    | (lift_lets; intro x; clear_value x)
    | (with_reducible refine State.except_frame ?_ rfl)
    | (with_reducible refine State.setTahr_frame ?_ rfl)
    | (with_reducible refine Fr.ite ?_ ?_)

end Sys2Proof.Machine
end

