-- ==== Sys2Proof/Laws/Parts.lean ====
section
/-! SUPPORT. From a frame as a mask to a frame as a list of parts. -/

namespace Sys2Proof.Machine

/-- Every part. -/
def Part.all : List Part := [.pending, .regs, .mem, .marks, .lineMarks, .hostMem, .lfsr, .guards, .free, .clock, .out, .mbx,
  .accelWin, .answer32, .answerErr, .boots, .rings, .clu, .flags, .col, .kv, .eland, .hbm, .fport, .laneRx, .trn, .time, .pkt,
  .chanQ, .sto, .sec, .host, .inst, .iq, .flash, .fw, .coreSvc, .domainCore, .paused, .tahr, .ctrl, .pwr, .aon, .flt, .faultN,
  .ckp, .pins]

theorem Part.mem_all (p : Part) : p ∈ Part.all := by cases p <;> decide

/-- The list covers the mask. -/
def Part.covers (W : Nat) (ps : List Part) : Bool := Part.all.all fun p => ps.contains p || !W.testBit p.ix

theorem Fr.sameBut {W : Nat} {ps : List Part} {s t : State} (h : Fr W s t) (c : Part.covers W ps = true) : SameBut ps s t := by
  intro p hp
  have := List.all_eq_true.mp c p (Part.mem_all p)
  refine h.frame p ?_
  simpa [hp] using this

theorem SameBut.refl {ps : List Part} {s : State} : SameBut ps s s := fun p _ => by cases p <;> rfl

theorem SameBut.mono {ps qs : List Part} {s t : State} (h : SameBut ps s t) (g : ∀ p ∈ ps, p ∈ qs) : SameBut qs s t :=
  fun p hp => h p (fun m => hp (g p m))

theorem SameBut.trans {ps : List Part} {s t u : State} (h : SameBut ps s t) (g : SameBut ps t u) : SameBut ps s u :=
  fun p hp => Part.same_trans (h p hp) (g p hp)

/-- A command with a frame does what holds of every state it can answer. -/
theorem Does.of {i : Instr} {s : State} {W : Nat} {ps : List Part} {P : State → Prop} (h : FrR W s (exec i s))
    (c : Part.covers W ps = true) (p : ∀ t, exec i s = .next t → P t) : Does i s ps P :=
  let ⟨t, e, f⟩ := h; ⟨t, e, f.sameBut c, p t e⟩

end Sys2Proof.Machine
end

