-- ==== Sys2Proof/Laws/ExecAll.lean ====
section
/-! SUPPORT. Every command at once: the set of parts it may write, its frame, and that it answers a next state. -/

namespace Sys2Proof.Machine

/-- The parts a command may write, as a set of bits by `Part.ix`. -/
def writes : Instr → Nat
  | .registerWrite .. => 136322261975038
  | .perstN .. => 140720308486142
  | .hotReset => 136322261975038
  | .dlDown => 136322261975038
  | .devReset .. => 136322261975038
  | .alwaysOnPowerUp => 140720308484830
  | .mainRailUndervoltage .. => 96759174925346
  | .referenceClockLoss .. => 96759174925346
  | .cluCmdBaseWrite .. => 96759171058746
  | .cluCmplBaseWrite .. => 2
  | .cmdEnSet .. => 96759170993210
  | .cmdEnClear .. => 96759170993210
  | .cmplEnSet .. => 96759170993210
  | .cmplEnClear .. => 96759170993210
  | .cluDb .. => 96759171189818
  | .cluCmplHeadWrite .. => 2
  | .haltedResume .. => 96759171058746
  | .descriptorFetch .. => 96759175253050
  | .descriptorIssue .. => 96759175253050
  | .descriptorComplete .. => 131943547342334
  | .nop .. => 4295033324
  | .barEnter .. => 327680
  | .mma .. => 96763469958638
  | .vecBin .. => 96763469958638
  | .vecFma .. => 96763469958638
  | .vecUn .. => 96763469958638
  | .vecRed .. => 96763469958638
  | .vecTopk .. => 96763469958638
  | .vecRand .. => 96763470089710
  | .sfu .. => 96763469958638
  | .cvt .. => 96763470089710
  | .dmaCopy .. => 136322261975038
  | .dma2d .. => 136322261975038
  | .dmaGather .. => 136322261975038
  | .dmaScatter .. => 136322261975038
  | .dmaFill .. => 136322261975038
  | .targetWrite .. => 96759171124282
  | .hazeEntry .. => 96759170993210
  | .overcastEntry .. => 96759170993210
  | .overcastEntryDone .. => 96759171189818
  | .overcastWake .. => 96759171189818
  | .overcastWakeDone .. => 96759171124542
  | .busMasterEnableClear => 131957002407230
  | .busMasterEnableSet => 131957213171198
  | .flagSet .. => 96759175187962
  | .flagClear .. => 96759175187962
  | .flagWait .. => 96759175187962
  | .flagWaitAndClear .. => 96759175187962
  | .flagClearOverset .. => 96759175187962
  | .flagTranslationFetch .. => 96759175187514
  | .flgEnSet .. => 2
  | .flgEnClear .. => 2
  | .flgInval .. => 262146
  | .flgInvalDone => 262146
  | .flgSignalSet .. => 96759175187962
  | .flgSignalClear .. => 96759175187962
  | .flgSignalClearOverset .. => 96759175187962
  | .barrierEntry .. => 96759175253498
  | .roundClose .. => 96759175253498
  | .barEnSet .. => 96759175253050
  | .barEnClear .. => 96759175253050
  | .colEnSet .. => 2
  | .colEnClear .. => 2
  | .colGrpLoad .. => 524290
  | .colGrpUnload .. => 524290
  | .colGrpZeroResiduals .. => 524290
  | .colGrpLoadDone => 96759175449918
  | .colDb .. => 65538
  | .colCmdBaseWrite .. => 65538
  | .colCmplBaseWrite .. => 2
  | .colCmdEnSet .. => 2
  | .colCmdEnClear .. => 2
  | .colCmplEnSet .. => 2
  | .colCmplHeadWrite .. => 2
  | .colHaltedResume .. => 2
  | .collectiveActivate .. => 131957212909054
  | .collectiveNop .. => 65536
  | .reduceScatter .. => 131957212909054
  | .allGather .. => 131957212909054
  | .allReduce .. => 131957212909054
  | .dispatch .. => 131957212909054
  | .combine .. => 131957212909054
  | .chunkSend .. => 131957212646782
  | .collectiveData .. => 131956466322942
  | .ready .. => 34078722
  | .abort .. => 131957212909054
  | .collectiveTimeout .. => 131957212909054
  | .abortDrainDone .. => 131943547342142
  | .collectiveComplete .. => 131943547866622
  | .slotCommit .. => 96759175449658
  | .slotCancel .. => 96759175449658
  | .slotListTakeover => 131957213695486
  | .slotBoundary => 131957212122622
  | .synColGroupCreate .. => 131943547538750
  | .synColGroupDestroy .. => 526338
  | .synColGroupRebind .. => 131943547538750
  | .synColSchedLoad .. => 526338
  | .synColAbort .. => 131957212909054
  | .synColQuery .. => 2304
  | .kvEnSet .. => 131943548062782
  | .kvEnClear .. => 131943548062782
  | .kvJobEnSet .. => 131943548062782
  | .kvDoneEnSet .. => 131943548062782
  | .kvRingBaseWrite .. => 2
  | .kvJobHeadWrite .. => 2
  | .kvDoneDb .. => 2
  | .jobPost => 131943548062782
  | .jobDone => 131943548063038
  | .tokenAdvance => 131943548063038
  | .kvContextFetch .. => 131943548063038
  | .pushDeadlineMiss .. => 131947843030334
  | .completionFlagWrite .. => 96759175187962
  | .upstreamRequest .. => 131943547301374
  | .synStreamOpen .. => 131943548063038
  | .synStreamClose .. => 131943548063038
  | .synStreamResume .. => 131943548063038
  | .synStreamPark .. => 131943548063038
  | .synStreamMove .. => 131943548063038
  | .synStreamQuery .. => 131943548063038
  | .synStreamRetry .. => 131943548063038
  | .synKvClassSet .. => 131943547014206
  | .synKvProfileLoad .. => 131943548066878
  | .synKvProfileUnload .. => 70368745232384
  | .launch .. => 131943549111358
  | .tailDone .. => 96759177284666
  | .tailLimitExpiry .. => 2097152
  | .sampling .. => 131943550291262
  | .draftStep .. => 131943549242686
  | .tokenRecordRelease => 131943818595646
  | .elandIdleTimeout => 96759171124282
  | .synElandConfig .. => 2099200
  | .synElandPortSet .. => 2099200
  | .synElandDraftLoad .. => 96760251157822
  | .synElandAttach .. => 131943550553406
  | .synElandDetach .. => 131943550160190
  | .synElandSet .. => 131943548063038
  | .synElandQuery .. => 131943548063038
  | .synElandStats .. => 2048
  | .hbmRead .. => 131943547038966
  | .hbmWrite .. => 131943547038966
  | .scrubRead .. => 131943547038966
  | .refreshDue .. => 4194304
  | .allBankRefresh .. => 4194304
  | .hbmTempUpdate .. => 96759174925346
  | .selfRefreshEntry .. => 4194306
  | .srReqClear .. => 4194306
  | .hbmTrainingDone .. => 96759174925346
  | .hbmReady => 131943555427574
  | .arbWindowStart .. => 131943547038966
  | .arbCommit .. => 4194306
  | .arbModeLoad .. => 2
  | .arbFreeze .. => 131943547038966
  | .arbUnfreeze .. => 131943547038966
  | .arbChannelDrained .. => 4194306
  | .fabEnSet .. => 2
  | .fabEnClear .. => 2
  | .portEnable .. => 96759200091426
  | .portUp .. => 131957228899838
  | .trainFail .. => 96759183313954
  | .portDisable .. => 96759200091426
  | .retrain .. => 96759200091426
  | .laneFailed .. => 8389890
  | .laneMapRepeat .. => 96759183313954
  | .laneMapSwitch .. => 96759183314210
  | .portDownRetrain .. => 96759200091170
  | .codeword .. => 131957228899838
  | .frame .. => 131957212122430
  | .credit .. => 131957212122622
  | .laneMap .. => 8389634
  | .keySwitch .. => 0
  | .caps .. => 8388608
  | .creditSend .. => 8389632
  | .encSwitch .. => 8389634
  | .pfcFrame .. => 274886295552
  | .pfcRepeat .. => 8389632
  | .pauseExpiry .. => 8388608
  | .pauseStuck .. => 2147486754
  | .synLinkPortSet .. => 96759200091426
  | .synLinkPortDisable .. => 96759200091170
  | .synLinkKeySwitch .. => 8391682
  | .synLinkRetrain .. => 8390656
  | .synLinkQuery .. => 2048
  | .write .. => 131956465536062
  | .read .. => 131956465536062
  | .send .. => 131956465536062
  | .messageStart .. => 131957212122430
  | .writePacket .. => 131957212122430
  | .sendPacket .. => 131957212122430
  | .readReq .. => 131957212122430
  | .readResp .. => 131957212122430
  | .ack .. => 131957212122430
  | .nak .. => 131957212122430
  | .messageComplete .. => 132506968198654
  | .retransmitTimeout .. => 131957212122430
  | .holeTimerExpiry .. => 131957212122430
  | .ackTimerExpiry .. => 131957212122430
  | .rnrRetry .. => 131957212122430
  | .connectionContextFetch .. => 131957212122430
  | .trnEnSet .. => 2
  | .trnEnClear .. => 2
  | .trnKeyInval .. => 33554434
  | .trnKeyInvalDone => 33554434
  | .peerWinCommit .. => 2
  | .peerWinActivate => 33554434
  | .trnReqDb .. => 65538
  | .trnReqBaseWrite .. => 65538
  | .trnCmdEnSet .. => 2
  | .trnCmdEnClear .. => 2
  | .trnCmplEnSet .. => 2
  | .trnCmplHeadWrite .. => 131948412472638
  | .trnHaltedResume .. => 2
  | .trnFwrxEnSet .. => 2
  | .trnFwrxHeadWrite .. => 8623489026
  | .synTrnConnCreate .. => 131943580568894
  | .synTrnConnReady .. => 131957212122430
  | .synTrnConnFlush .. => 131957002407230
  | .synTrnConnReset .. => 131956465536318
  | .synTrnConnDestroy .. => 131957002407230
  | .synTrnConnQuery .. => 2304
  | .synTrnKeySet .. => 131943580568638
  | .synTrnPwinSet .. => 2050
  | .synTrnPwinQuery .. => 2048
  | .ppsEdge .. => 35184439721986
  | .ppsLoss => 67633154
  | .qualificationLost => 524290
  | .ppsOut => 70368811286528
  | .ppsOutEnd => 70368811286528
  | .timeNowRead .. => 67117056
  | .arm .. => 67633154
  | .ppsEnSet .. => 67633154
  | .ppsEnClear .. => 67633154
  | .tgCommit .. => 96759242034234
  | .tgCancel .. => 96759242034234
  | .gateListTakeover .. => 67108866
  | .gateEntryChange .. => 2
  | .apply .. => 67108866
  | .refill .. => 67108864
  | .synTimeSet .. => 2050
  | .synTimeQuery .. => 2048
  | .synTgGateLoad .. => 67110914
  | .synTgGateCancel .. => 67110914
  | .synTgShaperSet .. => 67110914
  | .synTgPolicerSet .. => 67110914
  | .synTgQuery .. => 2048
  | .ethernetFrameReceive .. => 131956641631294
  | .transmitChannelFrame .. => 402653186
  | .frameStart .. => 11215572450
  | .rxwaitExpiry .. => 131956641631294
  | .earlyFrag => 134217730
  | .fragmentIdle => 134217730
  | .exactEntryFetch .. => 131956641631550
  | .pktEnSet .. => 2
  | .swap .. => 96759309143098
  | .swapDone => 134217730
  | .pktExactInval .. => 134217730
  | .macsecEnable .. => 2
  | .synPktBankCommit .. => 96759309143098
  | .synPktExactSet .. => 131943681231934
  | .synPktExactDel .. => 131943681232190
  | .synPktCounterRead .. => 2048
  | .synPktMacsecSaSet .. => 134219776
  | .synPktMacsecTxSwitch .. => 2050
  | .synPktQuery .. => 2048
  | .submissionDoorbell .. => 6979324962
  | .completionDoorbell .. => 4831838208
  | .commandFetch .. => 131948378852606
  | .flush .. => 131948378852414
  | .storageWrite .. => 131948378852670
  | .storageRead .. => 131948378852670
  | .writeZeroes .. => 131948378852670
  | .deallocate .. => 131948378852670
  | .lockRelease .. => 131948378852414
  | .backingCompletion .. => 131948378852414
  | .storageCompletionWrite .. => 6979324962
  | .coalescingTimeout .. => 6979321858
  | .keepAlive .. => 536871936
  | .stoEnSet .. => 2
  | .synStoQueueCreate .. => 536873218
  | .synStoQueueDelete .. => 536872960
  | .synStoQueueRestart .. => 536872960
  | .synStoErrlogRead .. => 2048
  | .synStoVolumeSet .. => 131944083885118
  | .synStoVolumeDelete .. => 131944083885118
  | .synStoNsCreate .. => 536873216
  | .synStoNsDelete .. => 536873216
  | .synStoTargetConnect .. => 536874240
  | .synStoTargetDisconnect .. => 131948378852670
  | .synStoDriveReset .. => 131948378852414
  | .synStoQuery .. => 2048
  | .entropyHealthFail .. => 96759174925346
  | .reseed => 1073742080
  | .keyRefsZero .. => 131957715373374
  | .keyLoadWithdrawn .. => 131957715373374
  | .gcmEnc .. => 131944687930686
  | .gcmDec .. => 131944687930686
  | .xtsEnc .. => 131944687930686
  | .xtsDec .. => 131944687930686
  | .shake256 .. => 131944687930686
  | .urgentSuspend => 1073741824
  | .messageEngineComplete => 131944620821822
  | .secMsgEnSet .. => 2
  | .secReqDb .. => 65538
  | .secCmdEnSet .. => 2
  | .secCmplHeadWrite .. => 2
  | .attestSigned => 1073744128
  | .synKeyLoad .. => 1073743874
  | .synKeyUnwrap .. => 1073744130
  | .synKeyWrap .. => 1073744130
  | .synKeyClear .. => 1073744130
  | .synKeyQuery .. => 2048
  | .synSecAttest .. => 1073743872
  | .synSecExtend .. => 1073743872
  | .synSecLogRead .. => 2048
  | .synSecEnrol .. => 18253613314
  | .synSecCertSet .. => 17179871234
  | .synSecDebugChallenge .. => 1073744128
  | .synSecDebugUnlock .. => 1073744130
  | .apertureAccess .. => 131943547038782
  | .winCommit .. => 2
  | .winActivate => 2147483650
  | .hwinCommit .. => 96759174925370
  | .hwinCopyDone => 2147483650
  | .translationCompletion .. => 2147484928
  | .invalidationRequest .. => 2147483648
  | .invalidationCompletion .. => 2147484672
  | .completionTimeout .. => 2147484672
  | .msixSend .. => 2147484674
  | .initiateFunctionLevelReset => 131958285864254
  | .functionLevelResetDone => 2147483648
  | .d3hot => 131957002407230
  | .d0 => 131957213171198
  | .pmeTurnOff => 2147484672
  | .l1Entry => 2147483648
  | .synHostWinSet .. => 131943547014462
  | .synHostWinQuery .. => 2304
  | .synHostQuery .. => 2048
  | .bufferTail .. => 131956675185982
  | .descriptorTail .. => 15032388898
  | .requestTail .. => 15032388898
  | .completionHead .. => 15032387618
  | .instpMbxGo .. => 549755815938
  | .transmitDescriptorFetch .. => 131956911115774
  | .synInstCreate .. => 4294969344
  | .synInstEnable .. => 4294969600
  | .synInstDisable .. => 4294969600
  | .synInstReset .. => 131957212122430
  | .synInstDestroy .. => 4328524032
  | .synInstQueueCreate .. => 8623491328
  | .synInstQueueDelete .. => 131956641631550
  | .synInstQueueRestart .. => 131956641631550
  | .synInstResAssign .. => 33556736
  | .synInstQuery .. => 2304
  | .devEnableSet .. => 2
  | .devEnableClear .. => 2
  | .go .. => 2
  | .loadDone .. => 133078525939006
  | .devHeartbeat .. => 2048
  | .sessionLost .. => 131957178502206
  | .mbxGo .. => 549755815938
  | .mbxResponse .. => 2147485730
  | .watchdogExpiry .. => 132974342311230
  | .coreRestartDone .. => 9074192223266
  | .kick .. => 68719476738
  | .watchdogEnable .. => 68719476738
  | .domainSwitch .. => 587873651746
  | .synFwVersion .. => 2048
  | .synFwSessionOpen .. => 131957212122430
  | .synFwSessionAttach .. => 131957178502206
  | .synFwSessionClose .. => 2048
  | .synFwEventRingSet .. => 2050
  | .synFwUpdate .. => 1133871368192
  | .synFwActivate .. => 34896611330
  | .synFwDomainQuery .. => 2048
  | .synFwCoreQuery .. => 2048
  | .synFwSpillSet .. => 34359740416
  | .synFwConfigQuery .. => 2048
  | .synFwConfigWrite .. => 17179871232
  | .coreStart .. => 9345848836096
  | .add .. => 97308930739234
  | .sub .. => 97308930739234
  | .and .. => 97308930739234
  | .or .. => 97308930739234
  | .xor .. => 97308930739234
  | .shl .. => 97308930739234
  | .shr .. => 97308930739234
  | .sar .. => 97308930739234
  | .shli .. => 97308930739234
  | .shri .. => 97308930739234
  | .sari .. => 97308930739234
  | .cmplt .. => 97308930739234
  | .cmpltu .. => 97308930739234
  | .mul .. => 97308930739234
  | .mulhu .. => 97308930739234
  | .mulhs .. => 97308930739234
  | .divu .. => 97308930739234
  | .remu .. => 97308930739234
  | .div .. => 97308930739234
  | .rem .. => 97308930739234
  | .clz .. => 97308930739234
  | .popc .. => 97308930739234
  | .brr .. => 97308930739234
  | .callr .. => 97308930739234
  | .aadd .. => 136322261975038
  | .aand .. => 136322261975038
  | .aor .. => 136322261975038
  | .cas .. => 136322261975038
  | .addi .. => 97308930739234
  | .andi .. => 97308930739234
  | .ori .. => 97308930739234
  | .xori .. => 97308930739234
  | .cmplti .. => 97308930739234
  | .cmpltiu .. => 97308930739234
  | .immh .. => 97308930739234
  | .ldb .. => 97308997848378
  | .ldbs .. => 97308997848378
  | .ldh .. => 97308997848378
  | .ldhs .. => 97308997848378
  | .ldw .. => 97308997848378
  | .stb .. => 136322261975038
  | .sth .. => 136322261975038
  | .stw .. => 136322261975038
  | .breq .. => 97308930739234
  | .brne .. => 97308930739234
  | .brlt .. => 97308930739234
  | .brge .. => 97308930739234
  | .brltu .. => 97308930739234
  | .brgeu .. => 97308930739234
  | .jmp .. => 97308930739234
  | .call .. => 97308930739234
  | .sread .. => 97308930739234
  | .swrite .. => 97308930739234
  | .resume .. => 97308930739234
  | .wfe .. => 97308930739234
  | .fence .. => 97308930739234
  | .trap .. => 97308930739234
  | .brk .. => 97308930739234
  | .eventException .. => 549755813888
  | .timerExpiry .. => 549755813888
  | .coreEvt .. => 549755813888
  | .currentRead .. => 98958198180898
  | .pwrLevelsWrite .. => 2
  | .levelChangeDone .. => 2199023255552
  | .droop .. => 2199023255552
  | .budgetSilence => 2199023255554
  | .governorWindow .. => 2201170742306
  | .dieTempUpdate .. => 98958198180898
  | .pwrEnSet .. => 2
  | .ipfixExport .. => 2199291691008
  | .ipfixTemplate .. => 2199291691008
  | .setEndpointId .. => 4398046519296
  | .getEndpointId => 8192
  | .getMctpVersionSupport .. => 8448
  | .getMessageTypeSupport => 8192
  | .getEndpointUuid => 8192
  | .gettid => 8192
  | .settid .. => 4398046519296
  | .getpldmversion .. => 8448
  | .getpldmtypes => 8192
  | .getpldmcommands .. => 8192
  | .getpdrrepositoryinfo => 8448
  | .getpdr .. => 8192
  | .getsensorreading .. => 8192
  | .getsensorthresholds .. => 8192
  | .wakeRequest => 70368744185856
  | .synPwrLimitSet .. => 2050
  | .synPwrQuery .. => 2048
  | .synPwrClassSet .. => 2199023257602
  | .synPwrFloorSet .. => 2050
  | .synTelExportSet .. => 2199291693058
  | .synTelQuery .. => 2048
  | .faultReport .. => 96760248929314
  | .railBreak .. => 96759174925346
  | .blockLine .. => 96759174925346
  | .fltAck .. => 2
  | .fltModeWrite .. => 2
  | .fltBlocksClear .. => 2
  | .fltInjArm .. => 96759174925346
  | .injectionTargetWrite .. => 8796093284378
  | .ceEventDue .. => 8798240508962
  | .synFltQuery .. => 2048
  | .synFltAck .. => 2050
  | .synFltModeSet .. => 2050
  | .synFltInject .. => 96759174925346
  | .synFltForceSafe .. => 96759174925346
  | .synFltBlockClear .. => 8796093024258
  | .ckpEnSet .. => 131943547014202
  | .mark .. => 131957213171006
  | .snap .. => 131957213171006
  | .rollback .. => 131957213171006
  | .rollbackDone => 131943550160190
  | .unpin .. => 131957213171006
  | .appendCopy => 131957212122430
  | .locallyCommitted => 131957212384766
  | .ckpReplicaWrite .. => 131957212122430
  | .snapshotWrite .. => 131957212122430
  | .manifestWrite .. => 35184372090112
  | .leaseRenewal => 131957212122430
  | .leaseLapse => 131943548063038
  | .localCommit .. => 131957212122430
  | .journalCommit .. => 131943580568638
  | .leaseReq .. => 131957212122430
  | .leaseGrant .. => 131943581617470
  | .leaseRefuse .. => 131943583714622
  | .propose .. => 131957212122430
  | .accept .. => 131957215268158
  | .viewInstall .. => 131943583714622
  | .verified .. => 131957215268158
  | .snapDone .. => 35184405643264
  | .synCkpConfig .. => 131943547014206
  | .synCkpQuery .. => 2048
  | .synCkpSnapshot .. => 131957212122430
  | .synCkpRestore .. => 131957215268158
  | .synCkpTakeover .. => 35186523769890
  | .synCkpDrain .. => 131943550160190
  | .synCkpWitnessSet .. => 35184372090880
  | .atomicSwap .. => 136322261975038
  | .registerRead .. => 6509585666
  | .mainRailInRange .. => 96794608405794
  | .rootPortLinkUp .. => 70369281048578
  | .rootPortLinkLost .. => 131948378852414
  | .jtagAccess .. => 136322261975038
  | .connectTimeout .. => 536872960
  | .grantEndPassed .. => 131957212122430

/-- Every command answers a next state, in which only the parts it may write differ, and which is canonical if the state was. -/
theorem exec_frame (i : Instr) (s : State) : FrR (writes i) s (exec i s) :=
  match i with
  | .registerWrite q space off data => @execRegisterWrite_frame q space off data s
  | .perstN high straps => @execPerstN_frame high straps s
  | .hotReset => @execHotReset_frame s
  | .dlDown => @execDlDown_frame s
  | .devReset q v => @execDevReset_frame q v s
  | .alwaysOnPowerUp => @execAlwaysOnPowerUp_frame s
  | .mainRailUndervoltage rail mv => @execMainRailUndervoltage_frame rail mv s
  | .referenceClockLoss unit ppm => @execReferenceClockLoss_frame unit ppm s
  | .cluCmdBaseWrite q c hi v => @execCluCmdBaseWrite_frame q c hi v s
  | .cluCmplBaseWrite q c hi v => @execCluCmplBaseWrite_frame q c hi v s
  | .cmdEnSet q c v => @execCmdEnSet_frame q c v s
  | .cmdEnClear q c v => @execCmdEnClear_frame q c v s
  | .cmplEnSet q c v => @execCmplEnSet_frame q c v s
  | .cmplEnClear q c v => @execCmplEnClear_frame q c v s
  | .cluDb q c v => @execCluDb_frame q c v s
  | .cluCmplHeadWrite q c v => @execCluCmplHeadWrite_frame q c v s
  | .haltedResume q c v => @execHaltedResume_frame q c v s
  | .descriptorFetch c => @execDescriptorFetch_frame c s
  | .descriptorIssue c => @execDescriptorIssue_frame c s
  | .descriptorComplete c ix => @execDescriptorComplete_frame c ix s
  | .nop c => @execNop_frame c s
  | .barEnter c => @execBarEnter_frame c s
  | .mma c => @execMma_frame c s
  | .vecBin c => @execVecBin_frame c s
  | .vecFma c => @execVecFma_frame c s
  | .vecUn c => @execVecUn_frame c s
  | .vecRed c => @execVecRed_frame c s
  | .vecTopk c => @execVecTopk_frame c s
  | .vecRand c => @execVecRand_frame c s
  | .sfu c => @execSfu_frame c s
  | .cvt c => @execCvt_frame c s
  | .dmaCopy c mover => @execDmaCopy_frame c mover s
  | .dma2d c mover => @execDma2d_frame c mover s
  | .dmaGather c mover => @execDmaGather_frame c mover s
  | .dmaScatter c mover => @execDmaScatter_frame c mover s
  | .dmaFill c mover => @execDmaFill_frame c mover s
  | .targetWrite q c v => @execTargetWrite_frame q c v s
  | .hazeEntry c => @execHazeEntry_frame c s
  | .overcastEntry c => @execOvercastEntry_frame c s
  | .overcastEntryDone c => @execOvercastEntryDone_frame c s
  | .overcastWake q c cause => @execOvercastWake_frame q c cause s
  | .overcastWakeDone c => @execOvercastWakeDone_frame c s
  | .busMasterEnableClear => @execBusMasterEnableClear_frame s
  | .busMasterEnableSet => @execBusMasterEnableSet_frame s
  | .flagSet f m => @execFlagSet_frame f m s
  | .flagClear f m => @execFlagClear_frame f m s
  | .flagWait who f m => @execFlagWait_frame who f m s
  | .flagWaitAndClear who f m => @execFlagWaitAndClear_frame who f m s
  | .flagClearOverset f m => @execFlagClearOverset_frame f m s
  | .flagTranslationFetch cache ctx vgroup => @execFlagTranslationFetch_frame cache ctx vgroup s
  | .flgEnSet q v => @execFlgEnSet_frame q v s
  | .flgEnClear q v => @execFlgEnClear_frame q v s
  | .flgInval q v => @execFlgInval_frame q v s
  | .flgInvalDone => @execFlgInvalDone_frame s
  | .flgSignalSet q p => @execFlgSignalSet_frame q p s
  | .flgSignalClear q p => @execFlgSignalClear_frame q p s
  | .flgSignalClearOverset q p => @execFlgSignalClearOverset_frame q p s
  | .barrierEntry b gap => @execBarrierEntry_frame b gap s
  | .roundClose b => @execRoundClose_frame b s
  | .barEnSet q b v => @execBarEnSet_frame q b v s
  | .barEnClear q b v => @execBarEnClear_frame q b v s
  | .colEnSet q v => @execColEnSet_frame q v s
  | .colEnClear q v => @execColEnClear_frame q v s
  | .colGrpLoad q v => @execColGrpLoad_frame q v s
  | .colGrpUnload q v => @execColGrpUnload_frame q v s
  | .colGrpZeroResiduals q v => @execColGrpZeroResiduals_frame q v s
  | .colGrpLoadDone => @execColGrpLoadDone_frame s
  | .colDb q n v => @execColDb_frame q n v s
  | .colCmdBaseWrite q n hi v => @execColCmdBaseWrite_frame q n hi v s
  | .colCmplBaseWrite q n hi v => @execColCmplBaseWrite_frame q n hi v s
  | .colCmdEnSet q n v => @execColCmdEnSet_frame q n v s
  | .colCmdEnClear q n v => @execColCmdEnClear_frame q n v s
  | .colCmplEnSet q n v => @execColCmplEnSet_frame q n v s
  | .colCmplHeadWrite q n v => @execColCmplHeadWrite_frame q n v s
  | .colHaltedResume q n v => @execColHaltedResume_frame q n v s
  | .collectiveActivate n => @execCollectiveActivate_frame n s
  | .collectiveNop n => @execCollectiveNop_frame n s
  | .reduceScatter g => @execReduceScatter_frame g s
  | .allGather g => @execAllGather_frame g s
  | .allReduce g => @execAllReduce_frame g s
  | .dispatch g => @execDispatch_frame g s
  | .combine g => @execCombine_frame g s
  | .chunkSend g port others gap => @execChunkSend_frame g port others gap s
  | .collectiveData conn msn => @execCollectiveData_frame conn msn s
  | .ready conn msn => @execReady_frame conn msn s
  | .abort conn msn => @execAbort_frame conn msn s
  | .collectiveTimeout g => @execCollectiveTimeout_frame g s
  | .abortDrainDone g => @execAbortDrainDone_frame g s
  | .collectiveComplete n ix => @execCollectiveComplete_frame n ix s
  | .slotCommit q v => @execSlotCommit_frame q v s
  | .slotCancel q v => @execSlotCancel_frame q v s
  | .slotListTakeover => @execSlotListTakeover_frame s
  | .slotBoundary => @execSlotBoundary_frame s
  | .synColGroupCreate r g rec_ members => @execSynColGroupCreate_frame r g rec_ members s
  | .synColGroupDestroy r g => @execSynColGroupDestroy_frame r g s
  | .synColGroupRebind r g rank entry epoch => @execSynColGroupRebind_frame r g rank entry epoch s
  | .synColSchedLoad r basetime entries => @execSynColSchedLoad_frame r basetime entries s
  | .synColAbort r g => @execSynColAbort_frame r g s
  | .synColQuery r g buffer => @execSynColQuery_frame r g buffer s
  | .kvEnSet q v => @execKvEnSet_frame q v s
  | .kvEnClear q v => @execKvEnClear_frame q v s
  | .kvJobEnSet q v => @execKvJobEnSet_frame q v s
  | .kvDoneEnSet q v => @execKvDoneEnSet_frame q v s
  | .kvRingBaseWrite q done hi v => @execKvRingBaseWrite_frame q done hi v s
  | .kvJobHeadWrite q v => @execKvJobHeadWrite_frame q v s
  | .kvDoneDb q v => @execKvDoneDb_frame q v s
  | .jobPost => @execJobPost_frame s
  | .jobDone => @execJobDone_frame s
  | .tokenAdvance => @execTokenAdvance_frame s
  | .kvContextFetch stream => @execKvContextFetch_frame stream s
  | .pushDeadlineMiss stream layer => @execPushDeadlineMiss_frame stream layer s
  | .completionFlagWrite port off len => @execCompletionFlagWrite_frame port off len s
  | .upstreamRequest port addr wr len data => @execUpstreamRequest_frame port addr wr len data s
  | .synStreamOpen r cls stream pick table => @execSynStreamOpen_frame r cls stream pick table s
  | .synStreamClose r stream gen => @execSynStreamClose_frame r stream gen s
  | .synStreamResume r stream gen t0 k0 => @execSynStreamResume_frame r stream gen t0 k0 s
  | .synStreamPark r stream gen => @execSynStreamPark_frame r stream gen s
  | .synStreamMove r stream gen first count tier => @execSynStreamMove_frame r stream gen first count tier s
  | .synStreamQuery r stream gen => @execSynStreamQuery_frame r stream gen s
  | .synStreamRetry r stream gen => @execSynStreamRetry_frame r stream gen s
  | .synKvClassSet r cls rec => @execSynKvClassSet_frame r cls rec s
  | .synKvProfileLoad r port rec => @execSynKvProfileLoad_frame r port rec s
  | .synKvProfileUnload r port => @execSynKvProfileUnload_frame r port s
  | .launch cohort prefill => @execLaunch_frame cohort prefill s
  | .tailDone cohort port => @execTailDone_frame cohort port s
  | .tailLimitExpiry cohort => @execTailLimitExpiry_frame cohort s
  | .sampling cohort => @execSampling_frame cohort s
  | .draftStep cohort j order => @execDraftStep_frame cohort j order s
  | .tokenRecordRelease => @execTokenRecordRelease_frame s
  | .elandIdleTimeout => @execElandIdleTimeout_frame s
  | .synElandConfig r c => @execSynElandConfig_frame r c s
  | .synElandPortSet r port rec => @execSynElandPortSet_frame r port rec s
  | .synElandDraftLoad r addr len => @execSynElandDraftLoad_frame r addr len s
  | .synElandAttach r stream gen f a => @execSynElandAttach_frame r stream gen f a s
  | .synElandDetach r stream gen => @execSynElandDetach_frame r stream gen s
  | .synElandSet r stream gen f maxTokens stops => @execSynElandSet_frame r stream gen f maxTokens stops s
  | .synElandQuery r stream gen => @execSynElandQuery_frame r stream gen s
  | .synElandStats r => @execSynElandStats_frame r s
  | .hbmRead src addr more gap => @execHbmRead_frame src addr more gap s
  | .hbmWrite src addr data poison more gap => @execHbmWrite_frame src addr data poison more gap s
  | .scrubRead g more gap => @execScrubRead_frame g more gap s
  | .refreshDue g inGap => @execRefreshDue_frame g inGap s
  | .allBankRefresh g => @execAllBankRefresh_frame g s
  | .hbmTempUpdate stack celsius => @execHbmTempUpdate_frame stack celsius s
  | .selfRefreshEntry stack => @execSelfRefreshEntry_frame stack s
  | .srReqClear q v => @execSrReqClear_frame q v s
  | .hbmTrainingDone stack failed => @execHbmTrainingDone_frame stack failed s
  | .hbmReady => @execHbmReady_frame s
  | .arbWindowStart g => @execArbWindowStart_frame g s
  | .arbCommit q v => @execArbCommit_frame q v s
  | .arbModeLoad q v => @execArbModeLoad_frame q v s
  | .arbFreeze q v => @execArbFreeze_frame q v s
  | .arbUnfreeze q v => @execArbUnfreeze_frame q v s
  | .arbChannelDrained g => @execArbChannelDrained_frame g s
  | .fabEnSet q v => @execFabEnSet_frame q v s
  | .fabEnClear q v => @execFabEnClear_frame q v s
  | .portEnable q p v => @execPortEnable_frame q p v s
  | .portUp p spare => @execPortUp_frame p spare s
  | .trainFail p => @execTrainFail_frame p s
  | .portDisable q p v => @execPortDisable_frame q p v s
  | .retrain q p v => @execRetrain_frame q p v s
  | .laneFailed lane => @execLaneFailed_frame lane s
  | .laneMapRepeat p => @execLaneMapRepeat_frame p s
  | .laneMapSwitch p => @execLaneMapSwitch_frame p s
  | .portDownRetrain p => @execPortDownRetrain_frame p s
  | .codeword lane ccw uncorrectable corrected cells => @execCodeword_frame lane ccw uncorrectable corrected cells s
  | .frame p tc enc bytes lost => @execFrame_frame p tc enc bytes lost s
  | .credit p counts => @execCredit_frame p counts s
  | .laneMap p mapId lanes switchSeq => @execLaneMap_frame p mapId lanes switchSeq s
  | .keySwitch p an => @execKeySwitch_frame p an s
  | .caps p form enc node port => @execCaps_frame p form enc node port s
  | .creditSend p => @execCreditSend_frame p s
  | .encSwitch q p v => @execEncSwitch_frame q p v s
  | .pfcFrame p enable quanta => @execPfcFrame_frame p enable quanta s
  | .pfcRepeat p => @execPfcRepeat_frame p s
  | .pauseExpiry p c => @execPauseExpiry_frame p c s
  | .pauseStuck p c => @execPauseStuck_frame p c s
  | .synLinkPortSet r p mode enc alloc headroom keys => @execSynLinkPortSet_frame r p mode enc alloc headroom keys s
  | .synLinkPortDisable r p => @execSynLinkPortDisable_frame r p s
  | .synLinkKeySwitch r p slot => @execSynLinkKeySwitch_frame r p slot s
  | .synLinkRetrain r p => @execSynLinkRetrain_frame r p s
  | .synLinkQuery r p => @execSynLinkQuery_frame r p s
  | .write src => @execWrite_frame src s
  | .read src => @execRead_frame src s
  | .send src => @execSend_frame src s
  | .messageStart conn => @execMessageStart_frame conn s
  | .writePacket pkt => @execWritePacket_frame pkt s
  | .sendPacket pkt => @execSendPacket_frame pkt s
  | .readReq pkt => @execReadReq_frame pkt s
  | .readResp pkt => @execReadResp_frame pkt s
  | .ack pkt done => @execAck_frame pkt done s
  | .nak pkt => @execNak_frame pkt s
  | .messageComplete conn msn => @execMessageComplete_frame conn msn s
  | .retransmitTimeout conn => @execRetransmitTimeout_frame conn s
  | .holeTimerExpiry conn => @execHoleTimerExpiry_frame conn s
  | .ackTimerExpiry conn => @execAckTimerExpiry_frame conn s
  | .rnrRetry conn => @execRnrRetry_frame conn s
  | .connectionContextFetch conn readError => @execConnectionContextFetch_frame conn readError s
  | .trnEnSet q v => @execTrnEnSet_frame q v s
  | .trnEnClear q v => @execTrnEnClear_frame q v s
  | .trnKeyInval q v => @execTrnKeyInval_frame q v s
  | .trnKeyInvalDone => @execTrnKeyInvalDone_frame s
  | .peerWinCommit q v => @execPeerWinCommit_frame q v s
  | .peerWinActivate => @execPeerWinActivate_frame s
  | .trnReqDb q v => @execTrnReqDb_frame q v s
  | .trnReqBaseWrite q cmpl hi v => @execTrnReqBaseWrite_frame q cmpl hi v s
  | .trnCmdEnSet q v => @execTrnCmdEnSet_frame q v s
  | .trnCmdEnClear q v => @execTrnCmdEnClear_frame q v s
  | .trnCmplEnSet q v => @execTrnCmplEnSet_frame q v s
  | .trnCmplHeadWrite q v => @execTrnCmplHeadWrite_frame q v s
  | .trnHaltedResume q v => @execTrnHaltedResume_frame q v s
  | .trnFwrxEnSet q v => @execTrnFwrxEnSet_frame q v s
  | .trnFwrxHeadWrite q v => @execTrnFwrxHeadWrite_frame q v s
  | .synTrnConnCreate r conn spec => @execSynTrnConnCreate_frame r conn spec s
  | .synTrnConnReady r conn peerConn sndPsn rcvPsn sndMsn rcvMsn => @execSynTrnConnReady_frame r conn peerConn sndPsn rcvPsn sndMsn rcvMsn s
  | .synTrnConnFlush r conn => @execSynTrnConnFlush_frame r conn s
  | .synTrnConnReset r conn => @execSynTrnConnReset_frame r conn s
  | .synTrnConnDestroy r conn => @execSynTrnConnDestroy_frame r conn s
  | .synTrnConnQuery r conn => @execSynTrnConnQuery_frame r conn s
  | .synTrnKeySet r index entry => @execSynTrnKeySet_frame r index entry s
  | .synTrnPwinSet r wins => @execSynTrnPwinSet_frame r wins s
  | .synTrnPwinQuery r => @execSynTrnPwinQuery_frame r s
  | .ppsEdge phase => @execPpsEdge_frame phase s
  | .ppsLoss => @execPpsLoss_frame s
  | .qualificationLost => @execQualificationLost_frame s
  | .ppsOut => @execPpsOut_frame s
  | .ppsOutEnd => @execPpsOutEnd_frame s
  | .timeNowRead q => @execTimeNowRead_frame q s
  | .arm q v => @execArm_frame q v s
  | .ppsEnSet q v => @execPpsEnSet_frame q v s
  | .ppsEnClear q v => @execPpsEnClear_frame q v s
  | .tgCommit q v => @execTgCommit_frame q v s
  | .tgCancel q v => @execTgCancel_frame q v s
  | .gateListTakeover p => @execGateListTakeover_frame p s
  | .gateEntryChange p => @execGateEntryChange_frame p s
  | .apply q v => @execApply_frame q v s
  | .refill policer ix => @execRefill_frame policer ix s
  | .synTimeSet r second delay unc hold => @execSynTimeSet_frame r second delay unc hold s
  | .synTimeQuery r => @execSynTimeQuery_frame r s
  | .synTgGateLoad r port basetime entries => @execSynTgGateLoad_frame r port basetime entries s
  | .synTgGateCancel r port => @execSynTgGateCancel_frame r port s
  | .synTgShaperSet r ix en rate burst period => @execSynTgShaperSet_frame r ix en rate burst period s
  | .synTgPolicerSet r ix en rate burst period action exceedTc => @execSynTgPolicerSet_frame r ix en rate burst period action exceedTc s
  | .synTgQuery r what => @execSynTgQuery_frame r what s
  | .ethernetFrameReceive port frame => @execEthernetFrameReceive_frame port frame s
  | .transmitChannelFrame chan => @execTransmitChannelFrame_frame chan s
  | .frameStart chan => @execFrameStart_frame chan s
  | .rxwaitExpiry port prio => @execRxwaitExpiry_frame port prio s
  | .earlyFrag => @execEarlyFrag_frame s
  | .fragmentIdle => @execFragmentIdle_frame s
  | .exactEntryFetch port prio => @execExactEntryFetch_frame port prio s
  | .pktEnSet q v => @execPktEnSet_frame q v s
  | .swap q v => @execSwap_frame q v s
  | .swapDone => @execSwapDone_frame s
  | .pktExactInval q v => @execPktExactInval_frame q v s
  | .macsecEnable q port v => @execMacsecEnable_frame q port v s
  | .synPktBankCommit r addr => @execSynPktBankCommit_frame r addr s
  | .synPktExactSet r bank table key list => @execSynPktExactSet_frame r bank table key list s
  | .synPktExactDel r bank table key => @execSynPktExactDel_frame r bank table key s
  | .synPktCounterRead r first count => @execSynPktCounterRead_frame r first count s
  | .synPktMacsecSaSet r m => @execSynPktMacsecSaSet_frame r m s
  | .synPktMacsecTxSwitch r port => @execSynPktMacsecTxSwitch_frame r port s
  | .synPktQuery r => @execSynPktQuery_frame r s
  | .submissionDoorbell ins ix v => @execSubmissionDoorbell_frame ins ix v s
  | .completionDoorbell ins ix v => @execCompletionDoorbell_frame ins ix v s
  | .commandFetch gap out => @execCommandFetch_frame gap out s
  | .flush id => @execFlush_frame id s
  | .storageWrite id out => @execStorageWrite_frame id out s
  | .storageRead id out => @execStorageRead_frame id out s
  | .writeZeroes id => @execWriteZeroes_frame id s
  | .deallocate id => @execDeallocate_frame id s
  | .lockRelease id => @execLockRelease_frame id s
  | .backingCompletion id part status data out => @execBackingCompletion_frame id part status data out s
  | .storageCompletionWrite q out => @execStorageCompletionWrite_frame q out s
  | .coalescingTimeout q => @execCoalescingTimeout_frame q s
  | .keepAlive c => @execKeepAlive_frame c s
  | .stoEnSet q v => @execStoEnSet_frame q v s
  | .synStoQueueCreate r spec => @execSynStoQueueCreate_frame r spec s
  | .synStoQueueDelete r q => @execSynStoQueueDelete_frame r q s
  | .synStoQueueRestart r q => @execSynStoQueueRestart_frame r q s
  | .synStoErrlogRead r q => @execSynStoErrlogRead_frame r q s
  | .synStoVolumeSet r vol record => @execSynStoVolumeSet_frame r vol record s
  | .synStoVolumeDelete r vol => @execSynStoVolumeDelete_frame r vol s
  | .synStoNsCreate r d blocks nsid => @execSynStoNsCreate_frame r d blocks nsid s
  | .synStoNsDelete r d nsid => @execSynStoNsDelete_frame r d nsid s
  | .synStoTargetConnect r c conns subnqn hostnqn answer => @execSynStoTargetConnect_frame r c conns subnqn hostnqn answer s
  | .synStoTargetDisconnect r c => @execSynStoTargetDisconnect_frame r c s
  | .synStoDriveReset r d back => @execSynStoDriveReset_frame r d back s
  | .synStoQuery r what identify smart => @execSynStoQuery_frame r what identify smart s
  | .entropyHealthFail source proportion => @execEntropyHealthFail_frame source proportion s
  | .reseed => @execReseed_frame s
  | .keyRefsZero k => @execKeyRefsZero_frame k s
  | .keyLoadWithdrawn k => @execKeyLoadWithdrawn_frame k s
  | .gcmEnc src => @execGcmEnc_frame src s
  | .gcmDec src => @execGcmDec_frame src s
  | .xtsEnc src => @execXtsEnc_frame src s
  | .xtsDec src => @execXtsDec_frame src s
  | .shake256 src => @execShake256_frame src s
  | .urgentSuspend => @execUrgentSuspend_frame s
  | .messageEngineComplete => @execMessageEngineComplete_frame s
  | .secMsgEnSet q v => @execSecMsgEnSet_frame q v s
  | .secReqDb q v => @execSecReqDb_frame q v s
  | .secCmdEnSet q v => @execSecCmdEnSet_frame q v s
  | .secCmplHeadWrite q v => @execSecCmplHeadWrite_frame q v s
  | .attestSigned => @execAttestSigned_frame s
  | .synKeyLoad r k type owner wrappable key waitMs => @execSynKeyLoad_frame r k type owner wrappable key waitMs s
  | .synKeyUnwrap r k wrap owner wrappable blob waitMs => @execSynKeyUnwrap_frame r k wrap owner wrappable blob waitMs s
  | .synKeyWrap r k wrap => @execSynKeyWrap_frame r k wrap s
  | .synKeyClear r k waitMs => @execSynKeyClear_frame r k waitMs s
  | .synKeyQuery r k => @execSynKeyQuery_frame r k s
  | .synSecAttest r nonce userdata => @execSynSecAttest_frame r nonce userdata s
  | .synSecExtend r ix tag digest => @execSynSecExtend_frame r ix tag digest s
  | .synSecLogRead r first count => @execSynSecLogRead_frame r first count s
  | .synSecEnrol r => @execSynSecEnrol_frame r s
  | .synSecCertSet r cert => @execSynSecCertSet_frame r cert s
  | .synSecDebugChallenge r => @execSynSecDebugChallenge_frame r s
  | .synSecDebugUnlock r token => @execSynSecDebugUnlock_frame r token s
  | .apertureAccess off len data poison => @execApertureAccess_frame off len data poison s
  | .winCommit q v => @execWinCommit_frame q v s
  | .winActivate => @execWinActivate_frame s
  | .hwinCommit q v => @execHwinCommit_frame q v s
  | .hwinCopyDone => @execHwinCopyDone_frame s
  | .translationCompletion pasid page bus raced => @execTranslationCompletion_frame pasid page bus raced s
  | .invalidationRequest pasid page pages itag => @execInvalidationRequest_frame pasid page pages itag s
  | .invalidationCompletion itag => @execInvalidationCompletion_frame itag s
  | .completionTimeout tag => @execCompletionTimeout_frame tag s
  | .msixSend v => @execMsixSend_frame v s
  | .initiateFunctionLevelReset => @execInitiateFunctionLevelReset_frame s
  | .functionLevelResetDone => @execFunctionLevelResetDone_frame s
  | .d3hot => @execD3hot_frame s
  | .d0 => @execD0_frame s
  | .pmeTurnOff => @execPmeTurnOff_frame s
  | .l1Entry => @execL1Entry_frame s
  | .synHostWinSet r first entries => @execSynHostWinSet_frame r first entries s
  | .synHostWinQuery r first count => @execSynHostWinQuery_frame r first count s
  | .synHostQuery r => @execSynHostQuery_frame r s
  | .bufferTail ins ix v => @execBufferTail_frame ins ix v s
  | .descriptorTail ins ix v => @execDescriptorTail_frame ins ix v s
  | .requestTail ins ix v => @execRequestTail_frame ins ix v s
  | .completionHead ins kind ix v => @execCompletionHead_frame ins kind ix v s
  | .instpMbxGo ins => @execInstpMbxGo_frame ins s
  | .transmitDescriptorFetch q out => @execTransmitDescriptorFetch_frame q out s
  | .synInstCreate r inst pasid vecFirst vecCount maxSto maxRx maxTx maxTrn => @execSynInstCreate_frame r inst pasid vecFirst vecCount maxSto maxRx maxTx maxTrn s
  | .synInstEnable r => @execSynInstEnable_frame r s
  | .synInstDisable r => @execSynInstDisable_frame r s
  | .synInstReset r => @execSynInstReset_frame r s
  | .synInstDestroy r => @execSynInstDestroy_frame r s
  | .synInstQueueCreate r kind spec => @execSynInstQueueCreate_frame r kind spec s
  | .synInstQueueDelete r kind q => @execSynInstQueueDelete_frame r kind q s
  | .synInstQueueRestart r kind q => @execSynInstQueueRestart_frame r kind q s
  | .synInstResAssign r conns assign => @execSynInstResAssign_frame r conns assign s
  | .synInstQuery r => @execSynInstQuery_frame r s
  | .devEnableSet q v => @execDevEnableSet_frame q v s
  | .devEnableClear q v => @execDevEnableClear_frame q v s
  | .go q v => @execGo_frame q v s
  | .loadDone readOk => @execLoadDone_frame readOk s
  | .devHeartbeat q v => @execDevHeartbeat_frame q v s
  | .sessionLost m => @execSessionLost_frame m s
  | .mbxGo q m => @execMbxGo_frame q m s
  | .mbxResponse port => @execMbxResponse_frame port s
  | .watchdogExpiry c => @execWatchdogExpiry_frame c s
  | .coreRestartDone c => @execCoreRestartDone_frame c s
  | .kick q c => @execKick_frame q c s
  | .watchdogEnable q c v => @execWatchdogEnable_frame q c v s
  | .domainSwitch d => @execDomainSwitch_frame d s
  | .synFwVersion r => @execSynFwVersion_frame r s
  | .synFwSessionOpen r reclaim => @execSynFwSessionOpen_frame r reclaim s
  | .synFwSessionAttach r id => @execSynFwSessionAttach_frame r id s
  | .synFwSessionClose r => @execSynFwSessionClose_frame r s
  | .synFwEventRingSet r addr log2n vector => @execSynFwEventRingSet_frame r addr log2n vector s
  | .synFwUpdate r package => @execSynFwUpdate_frame r package s
  | .synFwActivate r => @execSynFwActivate_frame r s
  | .synFwDomainQuery r => @execSynFwDomainQuery_frame r s
  | .synFwCoreQuery r c => @execSynFwCoreQuery_frame r c s
  | .synFwSpillSet r buffers => @execSynFwSpillSet_frame r buffers s
  | .synFwConfigQuery r => @execSynFwConfigQuery_frame r s
  | .synFwConfigWrite r image => @execSynFwConfigWrite_frame r image s
  | .coreStart c => @execCoreStart_frame c s
  | .add c d a b sh => @execAdd_frame c d a b sh s
  | .sub c d a b sh => @execSub_frame c d a b sh s
  | .and c d a b sh => @execAnd_frame c d a b sh s
  | .or c d a b sh => @execOr_frame c d a b sh s
  | .xor c d a b sh => @execXor_frame c d a b sh s
  | .shl c d a b sh => @execShl_frame c d a b sh s
  | .shr c d a b sh => @execShr_frame c d a b sh s
  | .sar c d a b sh => @execSar_frame c d a b sh s
  | .shli c d a b sh => @execShli_frame c d a b sh s
  | .shri c d a b sh => @execShri_frame c d a b sh s
  | .sari c d a b sh => @execSari_frame c d a b sh s
  | .cmplt c d a b sh => @execCmplt_frame c d a b sh s
  | .cmpltu c d a b sh => @execCmpltu_frame c d a b sh s
  | .mul c d a b sh => @execMul_frame c d a b sh s
  | .mulhu c d a b sh => @execMulhu_frame c d a b sh s
  | .mulhs c d a b sh => @execMulhs_frame c d a b sh s
  | .divu c d a b sh => @execDivu_frame c d a b sh s
  | .remu c d a b sh => @execRemu_frame c d a b sh s
  | .div c d a b sh => @execDiv_frame c d a b sh s
  | .rem c d a b sh => @execRem_frame c d a b sh s
  | .clz c d a b sh => @execClz_frame c d a b sh s
  | .popc c d a b sh => @execPopc_frame c d a b sh s
  | .brr c d a b sh => @execBrr_frame c d a b sh s
  | .callr c d a b sh => @execCallr_frame c d a b sh s
  | .aadd c d a b sh => @execAadd_frame c d a b sh s
  | .aand c d a b sh => @execAand_frame c d a b sh s
  | .aor c d a b sh => @execAor_frame c d a b sh s
  | .cas c d a b sh => @execCas_frame c d a b sh s
  | .addi c d a imm => @execAddi_frame c d a imm s
  | .andi c d a imm => @execAndi_frame c d a imm s
  | .ori c d a imm => @execOri_frame c d a imm s
  | .xori c d a imm => @execXori_frame c d a imm s
  | .cmplti c d a imm => @execCmplti_frame c d a imm s
  | .cmpltiu c d a imm => @execCmpltiu_frame c d a imm s
  | .immh c d a imm => @execImmh_frame c d a imm s
  | .ldb c t a mode f => @execLdb_frame c t a mode f s
  | .ldbs c t a mode f => @execLdbs_frame c t a mode f s
  | .ldh c t a mode f => @execLdh_frame c t a mode f s
  | .ldhs c t a mode f => @execLdhs_frame c t a mode f s
  | .ldw c t a mode f => @execLdw_frame c t a mode f s
  | .stb c t a mode f => @execStb_frame c t a mode f s
  | .sth c t a mode f => @execSth_frame c t a mode f s
  | .stw c t a mode f => @execStw_frame c t a mode f s
  | .breq c a b off => @execBreq_frame c a b off s
  | .brne c a b off => @execBrne_frame c a b off s
  | .brlt c a b off => @execBrlt_frame c a b off s
  | .brge c a b off => @execBrge_frame c a b off s
  | .brltu c a b off => @execBrltu_frame c a b off s
  | .brgeu c a b off => @execBrgeu_frame c a b off s
  | .jmp c off => @execJmp_frame c off s
  | .call c off => @execCall_frame c off s
  | .sread c d a n => @execSread_frame c d a n s
  | .swrite c d a n => @execSwrite_frame c d a n s
  | .resume c d a n => @execResume_frame c d a n s
  | .wfe c d a n => @execWfe_frame c d a n s
  | .fence c d a n => @execFence_frame c d a n s
  | .trap c d a n => @execTrap_frame c d a n s
  | .brk c d a n => @execBrk_frame c d a n s
  | .eventException c => @execEventException_frame c s
  | .timerExpiry c => @execTimerExpiry_frame c s
  | .coreEvt q c v => @execCoreEvt_frame q c v s
  | .currentRead rails fixedNj => @execCurrentRead_frame rails fixedNj s
  | .pwrLevelsWrite q v => @execPwrLevelsWrite_frame q v s
  | .levelChangeDone die => @execLevelChangeDone_frame die s
  | .droop die low => @execDroop_frame die low s
  | .budgetSilence => @execBudgetSilence_frame s
  | .governorWindow work => @execGovernorWindow_frame work s
  | .dieTempUpdate dies io => @execDieTempUpdate_frame dies io s
  | .pwrEnSet q v => @execPwrEnSet_frame q v s
  | .ipfixExport takes => @execIpfixExport_frame takes s
  | .ipfixTemplate takes => @execIpfixTemplate_frame takes s
  | .setEndpointId op eid => @execSetEndpointId_frame op eid s
  | .getEndpointId => @execGetEndpointId_frame s
  | .getMctpVersionSupport type => @execGetMctpVersionSupport_frame type s
  | .getMessageTypeSupport => @execGetMessageTypeSupport_frame s
  | .getEndpointUuid => @execGetEndpointUuid_frame s
  | .gettid => @execGettid_frame s
  | .settid tid => @execSettid_frame tid s
  | .getpldmversion type => @execGetpldmversion_frame type s
  | .getpldmtypes => @execGetpldmtypes_frame s
  | .getpldmcommands type => @execGetpldmcommands_frame type s
  | .getpdrrepositoryinfo => @execGetpdrrepositoryinfo_frame s
  | .getpdr handle => @execGetpdr_frame handle s
  | .getsensorreading sensor => @execGetsensorreading_frame sensor s
  | .getsensorthresholds sensor => @execGetsensorthresholds_frame sensor s
  | .wakeRequest => @execWakeRequest_frame s
  | .synPwrLimitSet r limit => @execSynPwrLimitSet_frame r limit s
  | .synPwrQuery r => @execSynPwrQuery_frame r s
  | .synPwrClassSet r cls record => @execSynPwrClassSet_frame r cls record s
  | .synPwrFloorSet r level => @execSynPwrFloorSet_frame r level s
  | .synTelExportSet r spec => @execSynTelExportSet_frame r spec s
  | .synTelQuery r => @execSynTelQuery_frame r s
  | .faultReport reps => @execFaultReport_frame reps s
  | .railBreak source runit => @execRailBreak_frame source runit s
  | .blockLine b raised => @execBlockLine_frame b raised s
  | .fltAck q c valid overflow => @execFltAck_frame q c valid overflow s
  | .fltModeWrite q v => @execFltModeWrite_frame q v s
  | .fltBlocksClear q v => @execFltBlocksClear_frame q v s
  | .fltInjArm q v => @execFltInjArm_frame q v s
  | .injectionTargetWrite checker unit addr => @execInjectionTargetWrite_frame checker unit addr s
  | .ceEventDue source => @execCeEventDue_frame source s
  | .synFltQuery r => @execSynFltQuery_frame r s
  | .synFltAck r classes overflows => @execSynFltAck_frame r classes overflows s
  | .synFltModeSet r mode => @execSynFltModeSet_frame r mode s
  | .synFltInject r checker flip unit addr => @execSynFltInject_frame r checker flip unit addr s
  | .synFltForceSafe r => @execSynFltForceSafe_frame r s
  | .synFltBlockClear r b => @execSynFltBlockClear_frame r b s
  | .ckpEnSet q v => @execCkpEnSet_frame q v s
  | .mark q v => @execMark_frame q v s
  | .snap q v => @execSnap_frame q v s
  | .rollback q v => @execRollback_frame q v s
  | .rollbackDone => @execRollbackDone_frame s
  | .unpin q v => @execUnpin_frame q v s
  | .appendCopy => @execAppendCopy_frame s
  | .locallyCommitted => @execLocallyCommitted_frame s
  | .ckpReplicaWrite q v => @execCkpReplicaWrite_frame q v s
  | .snapshotWrite buddy lba => @execSnapshotWrite_frame buddy lba s
  | .manifestWrite lba => @execManifestWrite_frame lba s
  | .leaseRenewal => @execLeaseRenewal_frame s
  | .leaseLapse => @execLeaseLapse_frame s
  | .localCommit conn msn => @execLocalCommit_frame conn msn s
  | .journalCommit conn msn ring pages => @execJournalCommit_frame conn msn ring pages s
  | .leaseReq conn msn => @execLeaseReq_frame conn msn s
  | .leaseGrant conn msn => @execLeaseGrant_frame conn msn s
  | .leaseRefuse conn msn => @execLeaseRefuse_frame conn msn s
  | .propose p => @execPropose_frame p s
  | .accept conn msn => @execAccept_frame conn msn s
  | .viewInstall conn msn => @execViewInstall_frame conn msn s
  | .verified conn msn => @execVerified_frame conn msn s
  | .snapDone conn msn => @execSnapDone_frame conn msn s
  | .synCkpConfig r record view members witnesses spares => @execSynCkpConfig_frame r record view members witnesses spares s
  | .synCkpQuery r => @execSynCkpQuery_frame r s
  | .synCkpSnapshot r volume retain base => @execSynCkpSnapshot_frame r volume retain base s
  | .synCkpRestore r volume lba trusted rank members manifests shards => @execSynCkpRestore_frame r volume lba trusted rank members manifests shards s
  | .synCkpTakeover r rank conn view => @execSynCkpTakeover_frame r rank conn view s
  | .synCkpDrain r => @execSynCkpDrain_frame r s
  | .synCkpWitnessSet r replica view members => @execSynCkpWitnessSet_frame r replica view members s
  | .atomicSwap c d a b sh => @execAtomicSwap_frame c d a b sh s
  | .registerRead q space off len => @execRegisterRead_frame q space off len s
  | .mainRailInRange straps => @execMainRailInRange_frame straps s
  | .rootPortLinkUp port => @execRootPortLinkUp_frame port s
  | .rootPortLinkLost port ltssm => @execRootPortLinkLost_frame port ltssm s
  | .jtagAccess op => @execJtagAccess_frame op s
  | .connectTimeout c => @execConnectTimeout_frame c s
  | .grantEndPassed replica => @execGrantEndPassed_frame replica s

end Sys2Proof.Machine
end

