-- ==== Sys2Proof/Laws/Memory.lean ====
section
/-! SUPPORT. Memory: what a byte reads as after a write, and that every memory operation keeps the canonical form. -/

namespace Sys2Proof.Machine

/-- A write of one byte of plain memory (not host memory) changes memory alone. -/
theorem State.putByte_plain (s : State) {a : Nat} (b : Byte) (h : regionOf a ≠ .host) :
    s.putByte a b = { s with mem := Tab.set memZero s.mem a b } := by
  rw [State.putByte]; split
  · exact absurd (by assumption) h
  · rfl

/-- A byte as it stands in memory after a write of one byte of plain memory. -/
theorem State.memByte_putByte (s : State) {a a' : Nat} (b : Byte) (h : regionOf a ≠ .host) :
    (s.putByte a b).memByte a' = if a' = a then b else s.memByte a' := by
  rw [s.putByte_plain b h, State.memByte, State.memByte, Tab.get_set]

/-- What a byte of plain memory reads as depends on memory and on the held writes. -/
theorem State.byte_congr {s t : State} {a : Nat} (h : regionOf a ≠ .host) (m : t.memByte a = s.memByte a) (k : t.ckp = s.ckp) :
    t.byte a = s.byte a := by
  rw [State.byte, State.byte]; split
  · exact absurd (by assumption) h
  · rw [m, State.heldByte, State.heldByte, k]
  · exact m

/-- A byte of plain memory that no held write covers reads as it stands in memory. -/
theorem State.byte_mem {s : State} {a : Nat} (h : regionOf a ≠ .host) (k : s.heldByte a = none) : s.byte a = s.memByte a := by
  rw [State.byte]; split
  · exact absurd (by assumption) h
  · rw [k]; rfl
  · rfl

/-- A write of plain memory leaves the held writes alone. -/
theorem State.putBytes_ckp (bs : List Byte) : ∀ (s : State) (a : Nat), (s.putBytes a bs).ckp = s.ckp := by
  induction bs with
  | nil => intro s a; rfl
  | cons b bs ih => intro s a; rw [State.putBytes, ih, State.putByte]; split <;> rfl

/-- A write leaves every byte of memory outside its range as it stands. -/
theorem State.memByte_putBytes_out (bs : List Byte) : ∀ (s : State) {a a' : Nat},
    (∀ i, i < bs.length → regionOf (a + i) ≠ .host) → (a' < a ∨ a + bs.length ≤ a') →
      (s.putBytes a bs).memByte a' = s.memByte a' := by
  induction bs with
  | nil => intro s a a' _ _; rfl
  | cons b bs ih =>
    intro s a a' h o
    rw [State.putBytes, ih (s.putByte a b) (fun i hi => by
      have := h (i + 1) (by simp; omega)
      rwa [show a + (i + 1) = a + 1 + i by omega] at this) (by simp at o; omega),
      State.memByte_putByte s b (by simpa using h 0 (by simp)), if_neg (by simp at o; omega)]

/-- A write of plain memory stands in memory. -/
theorem State.memByte_putBytes_in (bs : List Byte) : ∀ (s : State) {a i : Nat},
    (∀ i, i < bs.length → regionOf (a + i) ≠ .host) → (h : i < bs.length) → (s.putBytes a bs).memByte (a + i) = bs[i] := by
  induction bs with
  | nil => intro s a i _ h; simp at h
  | cons b bs ih =>
    intro s a i h hi
    have hs : ∀ j, j < bs.length → regionOf (a + 1 + j) ≠ .host := fun j hj => by
      have := h (j + 1) (by simp; omega)
      rwa [show a + (j + 1) = a + 1 + j by omega] at this
    rw [State.putBytes]
    cases i with
    | zero =>
      rw [State.memByte_putBytes_out bs _ hs (by omega), State.memByte_putByte s b (by simpa using h 0 (by simp))]
      simp
    | succ i =>
      have := ih (s.putByte a b) hs (i := i) (by simpa using hi)
      rw [show a + (i + 1) = a + 1 + i by omega, this]; simp

/-- A write leaves every byte of plain memory outside its range alone. -/
theorem State.byte_putBytes_out (bs : List Byte) (s : State) {a a' : Nat} (h : ∀ i, i < bs.length → regionOf (a + i) ≠ .host)
    (h' : regionOf a' ≠ .host) (o : a' < a ∨ a + bs.length ≤ a') : (s.putBytes a bs).byte a' = s.byte a' :=
  State.byte_congr h' (State.memByte_putBytes_out bs s h o) (State.putBytes_ckp bs s a)

/-- A write of plain memory reads back where no held write covers it. -/
theorem State.byte_putBytes_in (bs : List Byte) (s : State) {a i : Nat} (h : ∀ i, i < bs.length → regionOf (a + i) ≠ .host)
    (hi : i < bs.length) (k : s.heldByte (a + i) = none) : (s.putBytes a bs).byte (a + i) = bs[i] := by
  rw [State.byte_mem (h i hi) (by rw [State.heldByte, State.putBytes_ckp, ← State.heldByte, k]),
    State.memByte_putBytes_in bs s h hi]

/-- One byte of host memory after a write of host memory of the same address space. -/
theorem State.hostByte_hostPut (pasid : Option Nat) (bs : List Byte) : ∀ (s : State) (bus : Nat) (p' : Option Nat) (b' : Nat),
    hostKey p' b' < hostKey pasid bus ∨ hostKey pasid bus + bs.length ≤ hostKey p' b' →
      (s.hostPut pasid bus bs).hostByte p' b' = s.hostByte p' b' := by
  induction bs with
  | nil => intro s bus p' b' _; rfl
  | cons b bs ih =>
    intro s bus p' b' h
    have k : hostKey pasid (bus + 1) = hostKey pasid bus + 1 := by simp only [hostKey, Nat.add_assoc]
    rw [State.hostPut, ih _ _ _ _ (by rw [k]; simp at h; omega), State.hostByte, State.hostByte,
      Tab.get_set_ne _ _ _ (by simp at h; omega)]

/-- The canonical form is kept by every memory operation. -/
theorem State.putByte_canon {s : State} (a : Nat) (b : Byte) (h : s.canon) : (s.putByte a b).canon :=
  (State.putByte_frame (W := 0xFFFFFFFFFFFF) Fr.refl rfl).canon h
theorem State.putBytes_canon {s : State} (a : Nat) (bs : List Byte) (h : s.canon) : (s.putBytes a bs).canon :=
  (State.putBytes_frame (W := 0xFFFFFFFFFFFF) Fr.refl rfl).canon h
theorem State.hostPut_canon {s : State} (p : Option Nat) (a : Nat) (bs : List Byte) (h : s.canon) : (s.hostPut p a bs).canon :=
  (State.hostPut_frame (W := 0xFFFFFFFFFFFF) Fr.refl rfl).canon h
theorem State.store_canon {s : State} (a : Nat) (bs : List Byte) (p : Bool) (h : s.canon) : (s.store a bs p).2.canon :=
  (State.store_frame (W := 0xFFFFFFFFFFFF) Fr.refl rfl).out.canon h
theorem State.load_canon {s : State} (a n : Nat) (h : s.canon) : (s.load a n).2.2.canon :=
  (State.load_frame (W := 0xFFFFFFFFFFFF) Fr.refl rfl).out.canon h
theorem State.poke_canon {s : State} (a : Nat) (bs : List Byte) (h : s.canon) : (s.poke a bs).canon :=
  (State.poke_frame (W := 0xFFFFFFFFFFFF) Fr.refl rfl).canon h

end Sys2Proof.Machine
end

