-- ==== Sys2Proof/Laws/Regs.lean ====
section
/-! SUPPORT. Register words and fields: what a read gives after a write of the same or of another word or field. -/

namespace Sys2Proof.Machine

/-- Each bit of a number with one field replaced. -/
theorem bitsPut_testBit (v lo n x i : Nat) :
    (bitsPut v lo n x).testBit i = if i < lo then v.testBit i else if i < lo + n then x.testBit (i - lo) else v.testBit i := by
  have e : bitsPut v lo n x = 2 ^ lo * (2 ^ n * (v / 2 ^ (lo + n)) + x % 2 ^ n) + v % 2 ^ lo := by
    simp only [bitsPut, Nat.shiftRight_eq_div_pow, Nat.shiftLeft_eq, Nat.pow_add]
    generalize 2 ^ lo = a
    generalize 2 ^ n = b
    rw [Nat.mul_add, Nat.mul_comm (v / (a * b)), Nat.mul_comm (x % b) a, Nat.mul_assoc]
  rw [e, Nat.testBit_two_pow_mul_add _ (Nat.mod_lt _ (Nat.two_pow_pos lo)),
    Nat.testBit_two_pow_mul_add _ (Nat.mod_lt _ (Nat.two_pow_pos n)), Nat.testBit_mod_two_pow, Nat.testBit_mod_two_pow,
    Nat.testBit_div_two_pow]
  by_cases h : i < lo
  · simp [h]
  · by_cases g : i < lo + n
    · simp [h, g, show i - lo < n by omega]
    · simp only [h, g, show ¬ (i - lo < n) by omega, if_false]
      congr 1; omega

theorem bitsOf_testBit (v lo n i : Nat) : (bitsOf v lo n).testBit i = (decide (i < n) && v.testBit (lo + i)) := by
  simp [bitsOf, Nat.testBit_mod_two_pow, Nat.testBit_shiftRight]

/-- A field reads back what was put into it. -/
@[simp] theorem bitsOf_bitsPut (v lo n x : Nat) : bitsOf (bitsPut v lo n x) lo n = x % 2 ^ n := by
  apply Nat.eq_of_testBit_eq; intro i
  rw [bitsOf_testBit, bitsPut_testBit, Nat.testBit_mod_two_pow]
  by_cases h : i < n
  · simp [h, show ¬ (lo + i < lo) by omega]
  · simp [h]

/-- A field is unchanged when another field of the word is replaced. -/
theorem bitsOf_bitsPut_ne (v lo n x lo' n' : Nat) (h : lo' + n' ≤ lo ∨ lo + n ≤ lo') :
    bitsOf (bitsPut v lo n x) lo' n' = bitsOf v lo' n' := by
  apply Nat.eq_of_testBit_eq; intro i
  rw [bitsOf_testBit, bitsPut_testBit, bitsOf_testBit]
  by_cases g : i < n'
  · simp only [g, decide_true, Bool.true_and]
    by_cases k : lo' + i < lo
    · simp [k]
    · simp [k, show ¬ (lo' + i < lo + n) by omega]
  · simp [g]

theorem bitsPut_lt {v lo n x k : Nat} (hv : v < 2 ^ k) (h : lo + n ≤ k) : bitsPut v lo n x < 2 ^ k := by
  apply Nat.lt_pow_two_of_testBit; intro i hi
  rw [bitsPut_testBit, if_neg (by omega), if_neg (by omega)]
  exact Nat.testBit_lt_two_pow (Nat.lt_of_lt_of_le hv (Nat.pow_le_pow_right (by omega) hi))

theorem bitsOf_mod {v lo n k : Nat} (h : lo + n ≤ k) : bitsOf (v % 2 ^ k) lo n = bitsOf v lo n := by
  apply Nat.eq_of_testBit_eq; intro i
  rw [bitsOf_testBit, bitsOf_testBit, Nat.testBit_mod_two_pow]
  by_cases g : i < n
  · simp [g, show lo + i < k by omega]
  · simp [g]

theorem bitsOf_lt (v lo n : Nat) : bitsOf v lo n < 2 ^ n := Nat.mod_lt _ (Nat.two_pow_pos n)

/-! ### Words -/

@[simp] theorem State.rd_wr_self (s : State) (o : Nat) (v : W32) : (s.wr o v).rd o = v := by
  simp [State.rd, State.wr]

theorem State.rd_wr_ne (s : State) {o o' : Nat} (v : W32) (h : o' ≠ o) : (s.wr o v).rd o' = s.rd o' := by
  simp [State.rd, State.wr, Tab.get_set_ne _ _ _ h]

theorem State.rd_wr (s : State) (o o' : Nat) (v : W32) : (s.wr o v).rd o' = if o' = o then v else s.rd o' := by
  simp [State.rd, State.wr, Tab.get_set]

/-! ### Fields of 32-bit registers -/

theorem State.rd_sf (s : State) (o o' : Nat) (f : Fd) (x : Nat) (h : f.lo + f.n ≤ 32) :
    (s.sf o f x).rd o' = if o' = o then f.put (s.rd o) x else s.rd o' := by
  rw [State.sf, if_pos h, State.rd_wr]

theorem Fd.get_put (f : Fd) (w : W32) (x : Nat) (h : f.lo + f.n ≤ 32) : f.get (f.put w x) = x % 2 ^ f.n := by
  have : bitsPut w.toNat f.lo f.n x < 2 ^ 32 := bitsPut_lt w.isLt h
  rw [Fd.get, Fd.put, BitVec.toNat_ofNat, Nat.mod_eq_of_lt this]
  simp

theorem Fd.get_put_ne (f g : Fd) (w : W32) (x : Nat) (h : f.lo + f.n ≤ 32) (d : g.lo + g.n ≤ f.lo ∨ f.lo + f.n ≤ g.lo) :
    g.get (f.put w x) = g.get w := by
  have : bitsPut w.toNat f.lo f.n x < 2 ^ 32 := bitsPut_lt w.isLt h
  rw [Fd.get, Fd.put, BitVec.toNat_ofNat, Nat.mod_eq_of_lt this, bitsOf_bitsPut_ne _ _ _ _ _ _ d]
  rfl

/-- A field reads back what was stored in it, to its width. -/
theorem State.gf_sf_self (s : State) (o : Nat) (f : Fd) (x : Nat) (h : f.lo + f.n ≤ 32) :
    (s.sf o f x).gf o f = x % 2 ^ f.n := by
  rw [State.gf, if_pos h, State.rd_sf _ _ _ _ _ h, if_pos rfl, Fd.get_put _ _ _ h]

/-- Another field of the same register is unchanged. -/
theorem State.gf_sf_fd (s : State) (o : Nat) (f g : Fd) (x : Nat) (h : f.lo + f.n ≤ 32) (k : g.lo + g.n ≤ 32)
    (d : g.lo + g.n ≤ f.lo ∨ f.lo + f.n ≤ g.lo) : (s.sf o f x).gf o g = s.gf o g := by
  rw [State.gf, if_pos k, State.rd_sf _ _ _ _ _ h, if_pos rfl, Fd.get_put_ne _ _ _ _ h d, State.gf, if_pos k]

/-- A field of another register is unchanged. -/
theorem State.gf_sf_ne (s : State) {o o' : Nat} (f g : Fd) (x : Nat) (h : f.lo + f.n ≤ 32) (k : g.lo + g.n ≤ 32)
    (d : o' ≠ o) : (s.sf o f x).gf o' g = s.gf o' g := by
  rw [State.gf, if_pos k, State.rd_sf _ _ _ _ _ h, if_neg d, State.gf, if_pos k]

theorem State.gf_wr_ne (s : State) {o o' : Nat} (g : Fd) (v : W32) (k : g.lo + g.n ≤ 32)
    (d : o' ≠ o) : (s.wr o v).gf o' g = s.gf o' g := by
  rw [State.gf, if_pos k, State.rd_wr_ne _ _ d, State.gf, if_pos k]

theorem State.gf_wr_self (s : State) (o : Nat) (g : Fd) (v : W32) (k : g.lo + g.n ≤ 32) :
    (s.wr o v).gf o g = g.get v := by
  rw [State.gf, if_pos k, State.rd_wr_self]

theorem State.bit_sf_self (s : State) (o lo x : Nat) (h : lo + 1 ≤ 32) :
    (s.sf o ⟨lo, 1⟩ x).bit o ⟨lo, 1⟩ = (x % 2 == 1) := by
  rw [State.bit, State.gf_sf_self _ _ _ _ h]; rfl

/-- A 64-bit register reads back what was written, to 64 bits. -/
@[simp] theorem State.rd64_wr64_self (s : State) (o v : Nat) : (s.wr64 o v).rd64 o = v % 2 ^ 64 := by
  simp only [State.rd64, State.wr64]
  rw [State.rd_wr_ne _ _ (by omega), State.rd_wr_self, State.rd_wr_self]
  simp only [BitVec.toNat_ofNat, Nat.shiftRight_eq_div_pow]
  omega

theorem State.rd64_wr_ne (s : State) {o o' : Nat} (v : W32) (h : o' ≠ o) (g : o' + 4 ≠ o) : (s.wr o v).rd64 o' = s.rd64 o' := by
  rw [State.rd64, State.rd_wr_ne _ _ h, State.rd_wr_ne _ _ g, State.rd64]

theorem State.rd_wr64_ne (s : State) {o o' : Nat} (v : Nat) (h : o' ≠ o) (g : o' ≠ o + 4) : (s.wr64 o v).rd o' = s.rd o' := by
  rw [State.wr64, State.rd_wr_ne _ _ g, State.rd_wr_ne _ _ h]

/-- A field of another register, of 32 or 64 bits, is unchanged. -/
theorem State.gf_wr_far (s : State) {o o' : Nat} (g : Fd) (v : W32) (h : o' ≠ o) (k : o' + 4 ≠ o) :
    (s.wr o v).gf o' g = s.gf o' g := by
  rw [State.gf, State.rd_wr_ne _ _ h, State.rd64_wr_ne _ _ h k, State.gf]

theorem State.gf_sf_far (s : State) {o o' : Nat} (f g : Fd) (x : Nat) (e : f.lo + f.n ≤ 32) (h : o' ≠ o) (k : o' + 4 ≠ o) :
    (s.sf o f x).gf o' g = s.gf o' g := by
  rw [State.sf, if_pos e, State.gf_wr_far _ _ _ h k]

end Sys2Proof.Machine
end

