-- ==== Sys2Proof/Laws/State.lean ====
section
/-! SUPPORT. Each field of the state after each named one-field update: every other field is the same. -/

namespace Sys2Proof.Machine

/-! ### withPending -/

@[simp] theorem State.withPending_regs (s : State) (q : List Instr) : (s.withPending q).regs = s.regs := rfl
@[simp] theorem State.withPending_mem (s : State) (q : List Instr) : (s.withPending q).mem = s.mem := rfl
@[simp] theorem State.withPending_marks (s : State) (q : List Instr) : (s.withPending q).marks = s.marks := rfl
@[simp] theorem State.withPending_lineMarks (s : State) (q : List Instr) : (s.withPending q).lineMarks = s.lineMarks := rfl
@[simp] theorem State.withPending_hostMem (s : State) (q : List Instr) : (s.withPending q).hostMem = s.hostMem := rfl
@[simp] theorem State.withPending_lfsr (s : State) (q : List Instr) : (s.withPending q).lfsr = s.lfsr := rfl
@[simp] theorem State.withPending_guards (s : State) (q : List Instr) : (s.withPending q).guards = s.guards := rfl
@[simp] theorem State.withPending_free (s : State) (q : List Instr) : (s.withPending q).free = s.free := rfl
@[simp] theorem State.withPending_clock (s : State) (q : List Instr) : (s.withPending q).clock = s.clock := rfl
@[simp] theorem State.withPending_out (s : State) (q : List Instr) : (s.withPending q).out = s.out := rfl
@[simp] theorem State.withPending_mbx (s : State) (q : List Instr) : (s.withPending q).mbx = s.mbx := rfl
@[simp] theorem State.withPending_accelWin (s : State) (q : List Instr) : (s.withPending q).accelWin = s.accelWin := rfl
@[simp] theorem State.withPending_answer32 (s : State) (q : List Instr) : (s.withPending q).answer32 = s.answer32 := rfl
@[simp] theorem State.withPending_answerErr (s : State) (q : List Instr) : (s.withPending q).answerErr = s.answerErr := rfl
@[simp] theorem State.withPending_boots (s : State) (q : List Instr) : (s.withPending q).boots = s.boots := rfl
@[simp] theorem State.withPending_rings (s : State) (q : List Instr) : (s.withPending q).rings = s.rings := rfl
@[simp] theorem State.withPending_clu (s : State) (q : List Instr) : (s.withPending q).clu = s.clu := rfl
@[simp] theorem State.withPending_flags (s : State) (q : List Instr) : (s.withPending q).flags = s.flags := rfl
@[simp] theorem State.withPending_col (s : State) (q : List Instr) : (s.withPending q).col = s.col := rfl
@[simp] theorem State.withPending_kv (s : State) (q : List Instr) : (s.withPending q).kv = s.kv := rfl
@[simp] theorem State.withPending_eland (s : State) (q : List Instr) : (s.withPending q).eland = s.eland := rfl
@[simp] theorem State.withPending_hbm (s : State) (q : List Instr) : (s.withPending q).hbm = s.hbm := rfl
@[simp] theorem State.withPending_fport (s : State) (q : List Instr) : (s.withPending q).fport = s.fport := rfl
@[simp] theorem State.withPending_laneRx (s : State) (q : List Instr) : (s.withPending q).laneRx = s.laneRx := rfl
@[simp] theorem State.withPending_trn (s : State) (q : List Instr) : (s.withPending q).trn = s.trn := rfl
@[simp] theorem State.withPending_time (s : State) (q : List Instr) : (s.withPending q).time = s.time := rfl
@[simp] theorem State.withPending_pkt (s : State) (q : List Instr) : (s.withPending q).pkt = s.pkt := rfl
@[simp] theorem State.withPending_chanQ (s : State) (q : List Instr) : (s.withPending q).chanQ = s.chanQ := rfl
@[simp] theorem State.withPending_sto (s : State) (q : List Instr) : (s.withPending q).sto = s.sto := rfl
@[simp] theorem State.withPending_sec (s : State) (q : List Instr) : (s.withPending q).sec = s.sec := rfl
@[simp] theorem State.withPending_host (s : State) (q : List Instr) : (s.withPending q).host = s.host := rfl
@[simp] theorem State.withPending_inst (s : State) (q : List Instr) : (s.withPending q).inst = s.inst := rfl
@[simp] theorem State.withPending_iq (s : State) (q : List Instr) : (s.withPending q).iq = s.iq := rfl
@[simp] theorem State.withPending_flash (s : State) (q : List Instr) : (s.withPending q).flash = s.flash := rfl
@[simp] theorem State.withPending_fw (s : State) (q : List Instr) : (s.withPending q).fw = s.fw := rfl
@[simp] theorem State.withPending_coreSvc (s : State) (q : List Instr) : (s.withPending q).coreSvc = s.coreSvc := rfl
@[simp] theorem State.withPending_domainCore (s : State) (q : List Instr) : (s.withPending q).domainCore = s.domainCore := rfl
@[simp] theorem State.withPending_paused (s : State) (q : List Instr) : (s.withPending q).paused = s.paused := rfl
@[simp] theorem State.withPending_tahr (s : State) (q : List Instr) : (s.withPending q).tahr = s.tahr := rfl
@[simp] theorem State.withPending_ctrl (s : State) (q : List Instr) : (s.withPending q).ctrl = s.ctrl := rfl
@[simp] theorem State.withPending_pwr (s : State) (q : List Instr) : (s.withPending q).pwr = s.pwr := rfl
@[simp] theorem State.withPending_aon (s : State) (q : List Instr) : (s.withPending q).aon = s.aon := rfl
@[simp] theorem State.withPending_flt (s : State) (q : List Instr) : (s.withPending q).flt = s.flt := rfl
@[simp] theorem State.withPending_faultN (s : State) (q : List Instr) : (s.withPending q).faultN = s.faultN := rfl
@[simp] theorem State.withPending_ckp (s : State) (q : List Instr) : (s.withPending q).ckp = s.ckp := rfl
@[simp] theorem State.withPending_pins (s : State) (q : List Instr) : (s.withPending q).pins = s.pins := rfl

/-! ### wr -/

@[simp] theorem State.wr_pending (s : State) (o : Nat) (v : W32) : (s.wr o v).pending = s.pending := rfl
@[simp] theorem State.wr_mem (s : State) (o : Nat) (v : W32) : (s.wr o v).mem = s.mem := rfl
@[simp] theorem State.wr_marks (s : State) (o : Nat) (v : W32) : (s.wr o v).marks = s.marks := rfl
@[simp] theorem State.wr_lineMarks (s : State) (o : Nat) (v : W32) : (s.wr o v).lineMarks = s.lineMarks := rfl
@[simp] theorem State.wr_hostMem (s : State) (o : Nat) (v : W32) : (s.wr o v).hostMem = s.hostMem := rfl
@[simp] theorem State.wr_lfsr (s : State) (o : Nat) (v : W32) : (s.wr o v).lfsr = s.lfsr := rfl
@[simp] theorem State.wr_guards (s : State) (o : Nat) (v : W32) : (s.wr o v).guards = s.guards := rfl
@[simp] theorem State.wr_free (s : State) (o : Nat) (v : W32) : (s.wr o v).free = s.free := rfl
@[simp] theorem State.wr_clock (s : State) (o : Nat) (v : W32) : (s.wr o v).clock = s.clock := rfl
@[simp] theorem State.wr_out (s : State) (o : Nat) (v : W32) : (s.wr o v).out = s.out := rfl
@[simp] theorem State.wr_mbx (s : State) (o : Nat) (v : W32) : (s.wr o v).mbx = s.mbx := rfl
@[simp] theorem State.wr_accelWin (s : State) (o : Nat) (v : W32) : (s.wr o v).accelWin = s.accelWin := rfl
@[simp] theorem State.wr_answer32 (s : State) (o : Nat) (v : W32) : (s.wr o v).answer32 = s.answer32 := rfl
@[simp] theorem State.wr_answerErr (s : State) (o : Nat) (v : W32) : (s.wr o v).answerErr = s.answerErr := rfl
@[simp] theorem State.wr_boots (s : State) (o : Nat) (v : W32) : (s.wr o v).boots = s.boots := rfl
@[simp] theorem State.wr_rings (s : State) (o : Nat) (v : W32) : (s.wr o v).rings = s.rings := rfl
@[simp] theorem State.wr_clu (s : State) (o : Nat) (v : W32) : (s.wr o v).clu = s.clu := rfl
@[simp] theorem State.wr_flags (s : State) (o : Nat) (v : W32) : (s.wr o v).flags = s.flags := rfl
@[simp] theorem State.wr_col (s : State) (o : Nat) (v : W32) : (s.wr o v).col = s.col := rfl
@[simp] theorem State.wr_kv (s : State) (o : Nat) (v : W32) : (s.wr o v).kv = s.kv := rfl
@[simp] theorem State.wr_eland (s : State) (o : Nat) (v : W32) : (s.wr o v).eland = s.eland := rfl
@[simp] theorem State.wr_hbm (s : State) (o : Nat) (v : W32) : (s.wr o v).hbm = s.hbm := rfl
@[simp] theorem State.wr_fport (s : State) (o : Nat) (v : W32) : (s.wr o v).fport = s.fport := rfl
@[simp] theorem State.wr_laneRx (s : State) (o : Nat) (v : W32) : (s.wr o v).laneRx = s.laneRx := rfl
@[simp] theorem State.wr_trn (s : State) (o : Nat) (v : W32) : (s.wr o v).trn = s.trn := rfl
@[simp] theorem State.wr_time (s : State) (o : Nat) (v : W32) : (s.wr o v).time = s.time := rfl
@[simp] theorem State.wr_pkt (s : State) (o : Nat) (v : W32) : (s.wr o v).pkt = s.pkt := rfl
@[simp] theorem State.wr_chanQ (s : State) (o : Nat) (v : W32) : (s.wr o v).chanQ = s.chanQ := rfl
@[simp] theorem State.wr_sto (s : State) (o : Nat) (v : W32) : (s.wr o v).sto = s.sto := rfl
@[simp] theorem State.wr_sec (s : State) (o : Nat) (v : W32) : (s.wr o v).sec = s.sec := rfl
@[simp] theorem State.wr_host (s : State) (o : Nat) (v : W32) : (s.wr o v).host = s.host := rfl
@[simp] theorem State.wr_inst (s : State) (o : Nat) (v : W32) : (s.wr o v).inst = s.inst := rfl
@[simp] theorem State.wr_iq (s : State) (o : Nat) (v : W32) : (s.wr o v).iq = s.iq := rfl
@[simp] theorem State.wr_flash (s : State) (o : Nat) (v : W32) : (s.wr o v).flash = s.flash := rfl
@[simp] theorem State.wr_fw (s : State) (o : Nat) (v : W32) : (s.wr o v).fw = s.fw := rfl
@[simp] theorem State.wr_coreSvc (s : State) (o : Nat) (v : W32) : (s.wr o v).coreSvc = s.coreSvc := rfl
@[simp] theorem State.wr_domainCore (s : State) (o : Nat) (v : W32) : (s.wr o v).domainCore = s.domainCore := rfl
@[simp] theorem State.wr_paused (s : State) (o : Nat) (v : W32) : (s.wr o v).paused = s.paused := rfl
@[simp] theorem State.wr_tahr (s : State) (o : Nat) (v : W32) : (s.wr o v).tahr = s.tahr := rfl
@[simp] theorem State.wr_ctrl (s : State) (o : Nat) (v : W32) : (s.wr o v).ctrl = s.ctrl := rfl
@[simp] theorem State.wr_pwr (s : State) (o : Nat) (v : W32) : (s.wr o v).pwr = s.pwr := rfl
@[simp] theorem State.wr_aon (s : State) (o : Nat) (v : W32) : (s.wr o v).aon = s.aon := rfl
@[simp] theorem State.wr_flt (s : State) (o : Nat) (v : W32) : (s.wr o v).flt = s.flt := rfl
@[simp] theorem State.wr_faultN (s : State) (o : Nat) (v : W32) : (s.wr o v).faultN = s.faultN := rfl
@[simp] theorem State.wr_ckp (s : State) (o : Nat) (v : W32) : (s.wr o v).ckp = s.ckp := rfl
@[simp] theorem State.wr_pins (s : State) (o : Nat) (v : W32) : (s.wr o v).pins = s.pins := rfl

/-! ### emit -/

@[simp] theorem State.emit_pending (s : State) (o : Output) : (s.emit o).pending = s.pending := rfl
@[simp] theorem State.emit_regs (s : State) (o : Output) : (s.emit o).regs = s.regs := rfl
@[simp] theorem State.emit_mem (s : State) (o : Output) : (s.emit o).mem = s.mem := rfl
@[simp] theorem State.emit_marks (s : State) (o : Output) : (s.emit o).marks = s.marks := rfl
@[simp] theorem State.emit_lineMarks (s : State) (o : Output) : (s.emit o).lineMarks = s.lineMarks := rfl
@[simp] theorem State.emit_hostMem (s : State) (o : Output) : (s.emit o).hostMem = s.hostMem := rfl
@[simp] theorem State.emit_lfsr (s : State) (o : Output) : (s.emit o).lfsr = s.lfsr := rfl
@[simp] theorem State.emit_guards (s : State) (o : Output) : (s.emit o).guards = s.guards := rfl
@[simp] theorem State.emit_free (s : State) (o : Output) : (s.emit o).free = s.free := rfl
@[simp] theorem State.emit_clock (s : State) (o : Output) : (s.emit o).clock = s.clock := rfl
@[simp] theorem State.emit_mbx (s : State) (o : Output) : (s.emit o).mbx = s.mbx := rfl
@[simp] theorem State.emit_accelWin (s : State) (o : Output) : (s.emit o).accelWin = s.accelWin := rfl
@[simp] theorem State.emit_answer32 (s : State) (o : Output) : (s.emit o).answer32 = s.answer32 := rfl
@[simp] theorem State.emit_answerErr (s : State) (o : Output) : (s.emit o).answerErr = s.answerErr := rfl
@[simp] theorem State.emit_boots (s : State) (o : Output) : (s.emit o).boots = s.boots := rfl
@[simp] theorem State.emit_rings (s : State) (o : Output) : (s.emit o).rings = s.rings := rfl
@[simp] theorem State.emit_clu (s : State) (o : Output) : (s.emit o).clu = s.clu := rfl
@[simp] theorem State.emit_flags (s : State) (o : Output) : (s.emit o).flags = s.flags := rfl
@[simp] theorem State.emit_col (s : State) (o : Output) : (s.emit o).col = s.col := rfl
@[simp] theorem State.emit_kv (s : State) (o : Output) : (s.emit o).kv = s.kv := rfl
@[simp] theorem State.emit_eland (s : State) (o : Output) : (s.emit o).eland = s.eland := rfl
@[simp] theorem State.emit_hbm (s : State) (o : Output) : (s.emit o).hbm = s.hbm := rfl
@[simp] theorem State.emit_fport (s : State) (o : Output) : (s.emit o).fport = s.fport := rfl
@[simp] theorem State.emit_laneRx (s : State) (o : Output) : (s.emit o).laneRx = s.laneRx := rfl
@[simp] theorem State.emit_trn (s : State) (o : Output) : (s.emit o).trn = s.trn := rfl
@[simp] theorem State.emit_time (s : State) (o : Output) : (s.emit o).time = s.time := rfl
@[simp] theorem State.emit_pkt (s : State) (o : Output) : (s.emit o).pkt = s.pkt := rfl
@[simp] theorem State.emit_chanQ (s : State) (o : Output) : (s.emit o).chanQ = s.chanQ := rfl
@[simp] theorem State.emit_sto (s : State) (o : Output) : (s.emit o).sto = s.sto := rfl
@[simp] theorem State.emit_sec (s : State) (o : Output) : (s.emit o).sec = s.sec := rfl
@[simp] theorem State.emit_host (s : State) (o : Output) : (s.emit o).host = s.host := rfl
@[simp] theorem State.emit_inst (s : State) (o : Output) : (s.emit o).inst = s.inst := rfl
@[simp] theorem State.emit_iq (s : State) (o : Output) : (s.emit o).iq = s.iq := rfl
@[simp] theorem State.emit_flash (s : State) (o : Output) : (s.emit o).flash = s.flash := rfl
@[simp] theorem State.emit_fw (s : State) (o : Output) : (s.emit o).fw = s.fw := rfl
@[simp] theorem State.emit_coreSvc (s : State) (o : Output) : (s.emit o).coreSvc = s.coreSvc := rfl
@[simp] theorem State.emit_domainCore (s : State) (o : Output) : (s.emit o).domainCore = s.domainCore := rfl
@[simp] theorem State.emit_paused (s : State) (o : Output) : (s.emit o).paused = s.paused := rfl
@[simp] theorem State.emit_tahr (s : State) (o : Output) : (s.emit o).tahr = s.tahr := rfl
@[simp] theorem State.emit_ctrl (s : State) (o : Output) : (s.emit o).ctrl = s.ctrl := rfl
@[simp] theorem State.emit_pwr (s : State) (o : Output) : (s.emit o).pwr = s.pwr := rfl
@[simp] theorem State.emit_aon (s : State) (o : Output) : (s.emit o).aon = s.aon := rfl
@[simp] theorem State.emit_flt (s : State) (o : Output) : (s.emit o).flt = s.flt := rfl
@[simp] theorem State.emit_faultN (s : State) (o : Output) : (s.emit o).faultN = s.faultN := rfl
@[simp] theorem State.emit_ckp (s : State) (o : Output) : (s.emit o).ckp = s.ckp := rfl
@[simp] theorem State.emit_pins (s : State) (o : Output) : (s.emit o).pins = s.pins := rfl

/-! ### tick -/

@[simp] theorem State.tick_pending (s : State) : (s.tick).pending = s.pending := rfl
@[simp] theorem State.tick_regs (s : State) : (s.tick).regs = s.regs := rfl
@[simp] theorem State.tick_mem (s : State) : (s.tick).mem = s.mem := rfl
@[simp] theorem State.tick_marks (s : State) : (s.tick).marks = s.marks := rfl
@[simp] theorem State.tick_lineMarks (s : State) : (s.tick).lineMarks = s.lineMarks := rfl
@[simp] theorem State.tick_hostMem (s : State) : (s.tick).hostMem = s.hostMem := rfl
@[simp] theorem State.tick_lfsr (s : State) : (s.tick).lfsr = s.lfsr := rfl
@[simp] theorem State.tick_guards (s : State) : (s.tick).guards = s.guards := rfl
@[simp] theorem State.tick_clock (s : State) : (s.tick).clock = s.clock := rfl
@[simp] theorem State.tick_out (s : State) : (s.tick).out = s.out := rfl
@[simp] theorem State.tick_mbx (s : State) : (s.tick).mbx = s.mbx := rfl
@[simp] theorem State.tick_accelWin (s : State) : (s.tick).accelWin = s.accelWin := rfl
@[simp] theorem State.tick_answer32 (s : State) : (s.tick).answer32 = s.answer32 := rfl
@[simp] theorem State.tick_answerErr (s : State) : (s.tick).answerErr = s.answerErr := rfl
@[simp] theorem State.tick_boots (s : State) : (s.tick).boots = s.boots := rfl
@[simp] theorem State.tick_rings (s : State) : (s.tick).rings = s.rings := rfl
@[simp] theorem State.tick_clu (s : State) : (s.tick).clu = s.clu := rfl
@[simp] theorem State.tick_flags (s : State) : (s.tick).flags = s.flags := rfl
@[simp] theorem State.tick_col (s : State) : (s.tick).col = s.col := rfl
@[simp] theorem State.tick_kv (s : State) : (s.tick).kv = s.kv := rfl
@[simp] theorem State.tick_eland (s : State) : (s.tick).eland = s.eland := rfl
@[simp] theorem State.tick_hbm (s : State) : (s.tick).hbm = s.hbm := rfl
@[simp] theorem State.tick_fport (s : State) : (s.tick).fport = s.fport := rfl
@[simp] theorem State.tick_laneRx (s : State) : (s.tick).laneRx = s.laneRx := rfl
@[simp] theorem State.tick_trn (s : State) : (s.tick).trn = s.trn := rfl
@[simp] theorem State.tick_time (s : State) : (s.tick).time = s.time := rfl
@[simp] theorem State.tick_pkt (s : State) : (s.tick).pkt = s.pkt := rfl
@[simp] theorem State.tick_chanQ (s : State) : (s.tick).chanQ = s.chanQ := rfl
@[simp] theorem State.tick_sto (s : State) : (s.tick).sto = s.sto := rfl
@[simp] theorem State.tick_sec (s : State) : (s.tick).sec = s.sec := rfl
@[simp] theorem State.tick_host (s : State) : (s.tick).host = s.host := rfl
@[simp] theorem State.tick_inst (s : State) : (s.tick).inst = s.inst := rfl
@[simp] theorem State.tick_iq (s : State) : (s.tick).iq = s.iq := rfl
@[simp] theorem State.tick_flash (s : State) : (s.tick).flash = s.flash := rfl
@[simp] theorem State.tick_fw (s : State) : (s.tick).fw = s.fw := rfl
@[simp] theorem State.tick_coreSvc (s : State) : (s.tick).coreSvc = s.coreSvc := rfl
@[simp] theorem State.tick_domainCore (s : State) : (s.tick).domainCore = s.domainCore := rfl
@[simp] theorem State.tick_paused (s : State) : (s.tick).paused = s.paused := rfl
@[simp] theorem State.tick_tahr (s : State) : (s.tick).tahr = s.tahr := rfl
@[simp] theorem State.tick_ctrl (s : State) : (s.tick).ctrl = s.ctrl := rfl
@[simp] theorem State.tick_pwr (s : State) : (s.tick).pwr = s.pwr := rfl
@[simp] theorem State.tick_aon (s : State) : (s.tick).aon = s.aon := rfl
@[simp] theorem State.tick_flt (s : State) : (s.tick).flt = s.flt := rfl
@[simp] theorem State.tick_faultN (s : State) : (s.tick).faultN = s.faultN := rfl
@[simp] theorem State.tick_ckp (s : State) : (s.tick).ckp = s.ckp := rfl
@[simp] theorem State.tick_pins (s : State) : (s.tick).pins = s.pins := rfl

/-! ### cfgWr -/

@[simp] theorem State.cfgWr_pending (s : State) (o : Nat) (v : W32) : (s.cfgWr o v).pending = s.pending := rfl
@[simp] theorem State.cfgWr_regs (s : State) (o : Nat) (v : W32) : (s.cfgWr o v).regs = s.regs := rfl
@[simp] theorem State.cfgWr_mem (s : State) (o : Nat) (v : W32) : (s.cfgWr o v).mem = s.mem := rfl
@[simp] theorem State.cfgWr_marks (s : State) (o : Nat) (v : W32) : (s.cfgWr o v).marks = s.marks := rfl
@[simp] theorem State.cfgWr_lineMarks (s : State) (o : Nat) (v : W32) : (s.cfgWr o v).lineMarks = s.lineMarks := rfl
@[simp] theorem State.cfgWr_hostMem (s : State) (o : Nat) (v : W32) : (s.cfgWr o v).hostMem = s.hostMem := rfl
@[simp] theorem State.cfgWr_lfsr (s : State) (o : Nat) (v : W32) : (s.cfgWr o v).lfsr = s.lfsr := rfl
@[simp] theorem State.cfgWr_guards (s : State) (o : Nat) (v : W32) : (s.cfgWr o v).guards = s.guards := rfl
@[simp] theorem State.cfgWr_free (s : State) (o : Nat) (v : W32) : (s.cfgWr o v).free = s.free := rfl
@[simp] theorem State.cfgWr_clock (s : State) (o : Nat) (v : W32) : (s.cfgWr o v).clock = s.clock := rfl
@[simp] theorem State.cfgWr_out (s : State) (o : Nat) (v : W32) : (s.cfgWr o v).out = s.out := rfl
@[simp] theorem State.cfgWr_mbx (s : State) (o : Nat) (v : W32) : (s.cfgWr o v).mbx = s.mbx := rfl
@[simp] theorem State.cfgWr_accelWin (s : State) (o : Nat) (v : W32) : (s.cfgWr o v).accelWin = s.accelWin := rfl
@[simp] theorem State.cfgWr_answer32 (s : State) (o : Nat) (v : W32) : (s.cfgWr o v).answer32 = s.answer32 := rfl
@[simp] theorem State.cfgWr_answerErr (s : State) (o : Nat) (v : W32) : (s.cfgWr o v).answerErr = s.answerErr := rfl
@[simp] theorem State.cfgWr_boots (s : State) (o : Nat) (v : W32) : (s.cfgWr o v).boots = s.boots := rfl
@[simp] theorem State.cfgWr_rings (s : State) (o : Nat) (v : W32) : (s.cfgWr o v).rings = s.rings := rfl
@[simp] theorem State.cfgWr_clu (s : State) (o : Nat) (v : W32) : (s.cfgWr o v).clu = s.clu := rfl
@[simp] theorem State.cfgWr_flags (s : State) (o : Nat) (v : W32) : (s.cfgWr o v).flags = s.flags := rfl
@[simp] theorem State.cfgWr_col (s : State) (o : Nat) (v : W32) : (s.cfgWr o v).col = s.col := rfl
@[simp] theorem State.cfgWr_kv (s : State) (o : Nat) (v : W32) : (s.cfgWr o v).kv = s.kv := rfl
@[simp] theorem State.cfgWr_eland (s : State) (o : Nat) (v : W32) : (s.cfgWr o v).eland = s.eland := rfl
@[simp] theorem State.cfgWr_hbm (s : State) (o : Nat) (v : W32) : (s.cfgWr o v).hbm = s.hbm := rfl
@[simp] theorem State.cfgWr_fport (s : State) (o : Nat) (v : W32) : (s.cfgWr o v).fport = s.fport := rfl
@[simp] theorem State.cfgWr_laneRx (s : State) (o : Nat) (v : W32) : (s.cfgWr o v).laneRx = s.laneRx := rfl
@[simp] theorem State.cfgWr_trn (s : State) (o : Nat) (v : W32) : (s.cfgWr o v).trn = s.trn := rfl
@[simp] theorem State.cfgWr_time (s : State) (o : Nat) (v : W32) : (s.cfgWr o v).time = s.time := rfl
@[simp] theorem State.cfgWr_pkt (s : State) (o : Nat) (v : W32) : (s.cfgWr o v).pkt = s.pkt := rfl
@[simp] theorem State.cfgWr_chanQ (s : State) (o : Nat) (v : W32) : (s.cfgWr o v).chanQ = s.chanQ := rfl
@[simp] theorem State.cfgWr_sto (s : State) (o : Nat) (v : W32) : (s.cfgWr o v).sto = s.sto := rfl
@[simp] theorem State.cfgWr_sec (s : State) (o : Nat) (v : W32) : (s.cfgWr o v).sec = s.sec := rfl
@[simp] theorem State.cfgWr_inst (s : State) (o : Nat) (v : W32) : (s.cfgWr o v).inst = s.inst := rfl
@[simp] theorem State.cfgWr_iq (s : State) (o : Nat) (v : W32) : (s.cfgWr o v).iq = s.iq := rfl
@[simp] theorem State.cfgWr_flash (s : State) (o : Nat) (v : W32) : (s.cfgWr o v).flash = s.flash := rfl
@[simp] theorem State.cfgWr_fw (s : State) (o : Nat) (v : W32) : (s.cfgWr o v).fw = s.fw := rfl
@[simp] theorem State.cfgWr_coreSvc (s : State) (o : Nat) (v : W32) : (s.cfgWr o v).coreSvc = s.coreSvc := rfl
@[simp] theorem State.cfgWr_domainCore (s : State) (o : Nat) (v : W32) : (s.cfgWr o v).domainCore = s.domainCore := rfl
@[simp] theorem State.cfgWr_paused (s : State) (o : Nat) (v : W32) : (s.cfgWr o v).paused = s.paused := rfl
@[simp] theorem State.cfgWr_tahr (s : State) (o : Nat) (v : W32) : (s.cfgWr o v).tahr = s.tahr := rfl
@[simp] theorem State.cfgWr_ctrl (s : State) (o : Nat) (v : W32) : (s.cfgWr o v).ctrl = s.ctrl := rfl
@[simp] theorem State.cfgWr_pwr (s : State) (o : Nat) (v : W32) : (s.cfgWr o v).pwr = s.pwr := rfl
@[simp] theorem State.cfgWr_aon (s : State) (o : Nat) (v : W32) : (s.cfgWr o v).aon = s.aon := rfl
@[simp] theorem State.cfgWr_flt (s : State) (o : Nat) (v : W32) : (s.cfgWr o v).flt = s.flt := rfl
@[simp] theorem State.cfgWr_faultN (s : State) (o : Nat) (v : W32) : (s.cfgWr o v).faultN = s.faultN := rfl
@[simp] theorem State.cfgWr_ckp (s : State) (o : Nat) (v : W32) : (s.cfgWr o v).ckp = s.ckp := rfl
@[simp] theorem State.cfgWr_pins (s : State) (o : Nat) (v : W32) : (s.cfgWr o v).pins = s.pins := rfl

/-! ### setMb -/

@[simp] theorem State.setMb_pending (s : State) (m : Nat) (b : Mailbox) : (s.setMb m b).pending = s.pending := rfl
@[simp] theorem State.setMb_regs (s : State) (m : Nat) (b : Mailbox) : (s.setMb m b).regs = s.regs := rfl
@[simp] theorem State.setMb_mem (s : State) (m : Nat) (b : Mailbox) : (s.setMb m b).mem = s.mem := rfl
@[simp] theorem State.setMb_marks (s : State) (m : Nat) (b : Mailbox) : (s.setMb m b).marks = s.marks := rfl
@[simp] theorem State.setMb_lineMarks (s : State) (m : Nat) (b : Mailbox) : (s.setMb m b).lineMarks = s.lineMarks := rfl
@[simp] theorem State.setMb_hostMem (s : State) (m : Nat) (b : Mailbox) : (s.setMb m b).hostMem = s.hostMem := rfl
@[simp] theorem State.setMb_lfsr (s : State) (m : Nat) (b : Mailbox) : (s.setMb m b).lfsr = s.lfsr := rfl
@[simp] theorem State.setMb_guards (s : State) (m : Nat) (b : Mailbox) : (s.setMb m b).guards = s.guards := rfl
@[simp] theorem State.setMb_free (s : State) (m : Nat) (b : Mailbox) : (s.setMb m b).free = s.free := rfl
@[simp] theorem State.setMb_clock (s : State) (m : Nat) (b : Mailbox) : (s.setMb m b).clock = s.clock := rfl
@[simp] theorem State.setMb_out (s : State) (m : Nat) (b : Mailbox) : (s.setMb m b).out = s.out := rfl
@[simp] theorem State.setMb_accelWin (s : State) (m : Nat) (b : Mailbox) : (s.setMb m b).accelWin = s.accelWin := rfl
@[simp] theorem State.setMb_answer32 (s : State) (m : Nat) (b : Mailbox) : (s.setMb m b).answer32 = s.answer32 := rfl
@[simp] theorem State.setMb_answerErr (s : State) (m : Nat) (b : Mailbox) : (s.setMb m b).answerErr = s.answerErr := rfl
@[simp] theorem State.setMb_boots (s : State) (m : Nat) (b : Mailbox) : (s.setMb m b).boots = s.boots := rfl
@[simp] theorem State.setMb_rings (s : State) (m : Nat) (b : Mailbox) : (s.setMb m b).rings = s.rings := rfl
@[simp] theorem State.setMb_clu (s : State) (m : Nat) (b : Mailbox) : (s.setMb m b).clu = s.clu := rfl
@[simp] theorem State.setMb_flags (s : State) (m : Nat) (b : Mailbox) : (s.setMb m b).flags = s.flags := rfl
@[simp] theorem State.setMb_col (s : State) (m : Nat) (b : Mailbox) : (s.setMb m b).col = s.col := rfl
@[simp] theorem State.setMb_kv (s : State) (m : Nat) (b : Mailbox) : (s.setMb m b).kv = s.kv := rfl
@[simp] theorem State.setMb_eland (s : State) (m : Nat) (b : Mailbox) : (s.setMb m b).eland = s.eland := rfl
@[simp] theorem State.setMb_hbm (s : State) (m : Nat) (b : Mailbox) : (s.setMb m b).hbm = s.hbm := rfl
@[simp] theorem State.setMb_fport (s : State) (m : Nat) (b : Mailbox) : (s.setMb m b).fport = s.fport := rfl
@[simp] theorem State.setMb_laneRx (s : State) (m : Nat) (b : Mailbox) : (s.setMb m b).laneRx = s.laneRx := rfl
@[simp] theorem State.setMb_trn (s : State) (m : Nat) (b : Mailbox) : (s.setMb m b).trn = s.trn := rfl
@[simp] theorem State.setMb_time (s : State) (m : Nat) (b : Mailbox) : (s.setMb m b).time = s.time := rfl
@[simp] theorem State.setMb_pkt (s : State) (m : Nat) (b : Mailbox) : (s.setMb m b).pkt = s.pkt := rfl
@[simp] theorem State.setMb_chanQ (s : State) (m : Nat) (b : Mailbox) : (s.setMb m b).chanQ = s.chanQ := rfl
@[simp] theorem State.setMb_sto (s : State) (m : Nat) (b : Mailbox) : (s.setMb m b).sto = s.sto := rfl
@[simp] theorem State.setMb_sec (s : State) (m : Nat) (b : Mailbox) : (s.setMb m b).sec = s.sec := rfl
@[simp] theorem State.setMb_host (s : State) (m : Nat) (b : Mailbox) : (s.setMb m b).host = s.host := rfl
@[simp] theorem State.setMb_inst (s : State) (m : Nat) (b : Mailbox) : (s.setMb m b).inst = s.inst := rfl
@[simp] theorem State.setMb_iq (s : State) (m : Nat) (b : Mailbox) : (s.setMb m b).iq = s.iq := rfl
@[simp] theorem State.setMb_flash (s : State) (m : Nat) (b : Mailbox) : (s.setMb m b).flash = s.flash := rfl
@[simp] theorem State.setMb_fw (s : State) (m : Nat) (b : Mailbox) : (s.setMb m b).fw = s.fw := rfl
@[simp] theorem State.setMb_coreSvc (s : State) (m : Nat) (b : Mailbox) : (s.setMb m b).coreSvc = s.coreSvc := rfl
@[simp] theorem State.setMb_domainCore (s : State) (m : Nat) (b : Mailbox) : (s.setMb m b).domainCore = s.domainCore := rfl
@[simp] theorem State.setMb_paused (s : State) (m : Nat) (b : Mailbox) : (s.setMb m b).paused = s.paused := rfl
@[simp] theorem State.setMb_tahr (s : State) (m : Nat) (b : Mailbox) : (s.setMb m b).tahr = s.tahr := rfl
@[simp] theorem State.setMb_ctrl (s : State) (m : Nat) (b : Mailbox) : (s.setMb m b).ctrl = s.ctrl := rfl
@[simp] theorem State.setMb_pwr (s : State) (m : Nat) (b : Mailbox) : (s.setMb m b).pwr = s.pwr := rfl
@[simp] theorem State.setMb_aon (s : State) (m : Nat) (b : Mailbox) : (s.setMb m b).aon = s.aon := rfl
@[simp] theorem State.setMb_flt (s : State) (m : Nat) (b : Mailbox) : (s.setMb m b).flt = s.flt := rfl
@[simp] theorem State.setMb_faultN (s : State) (m : Nat) (b : Mailbox) : (s.setMb m b).faultN = s.faultN := rfl
@[simp] theorem State.setMb_ckp (s : State) (m : Nat) (b : Mailbox) : (s.setMb m b).ckp = s.ckp := rfl
@[simp] theorem State.setMb_pins (s : State) (m : Nat) (b : Mailbox) : (s.setMb m b).pins = s.pins := rfl

/-! ### setInst -/

@[simp] theorem State.setInst_pending (s : State) (i : Nat) (v : Inst) : (s.setInst i v).pending = s.pending := rfl
@[simp] theorem State.setInst_regs (s : State) (i : Nat) (v : Inst) : (s.setInst i v).regs = s.regs := rfl
@[simp] theorem State.setInst_mem (s : State) (i : Nat) (v : Inst) : (s.setInst i v).mem = s.mem := rfl
@[simp] theorem State.setInst_marks (s : State) (i : Nat) (v : Inst) : (s.setInst i v).marks = s.marks := rfl
@[simp] theorem State.setInst_lineMarks (s : State) (i : Nat) (v : Inst) : (s.setInst i v).lineMarks = s.lineMarks := rfl
@[simp] theorem State.setInst_hostMem (s : State) (i : Nat) (v : Inst) : (s.setInst i v).hostMem = s.hostMem := rfl
@[simp] theorem State.setInst_lfsr (s : State) (i : Nat) (v : Inst) : (s.setInst i v).lfsr = s.lfsr := rfl
@[simp] theorem State.setInst_guards (s : State) (i : Nat) (v : Inst) : (s.setInst i v).guards = s.guards := rfl
@[simp] theorem State.setInst_free (s : State) (i : Nat) (v : Inst) : (s.setInst i v).free = s.free := rfl
@[simp] theorem State.setInst_clock (s : State) (i : Nat) (v : Inst) : (s.setInst i v).clock = s.clock := rfl
@[simp] theorem State.setInst_out (s : State) (i : Nat) (v : Inst) : (s.setInst i v).out = s.out := rfl
@[simp] theorem State.setInst_mbx (s : State) (i : Nat) (v : Inst) : (s.setInst i v).mbx = s.mbx := rfl
@[simp] theorem State.setInst_accelWin (s : State) (i : Nat) (v : Inst) : (s.setInst i v).accelWin = s.accelWin := rfl
@[simp] theorem State.setInst_answer32 (s : State) (i : Nat) (v : Inst) : (s.setInst i v).answer32 = s.answer32 := rfl
@[simp] theorem State.setInst_answerErr (s : State) (i : Nat) (v : Inst) : (s.setInst i v).answerErr = s.answerErr := rfl
@[simp] theorem State.setInst_boots (s : State) (i : Nat) (v : Inst) : (s.setInst i v).boots = s.boots := rfl
@[simp] theorem State.setInst_rings (s : State) (i : Nat) (v : Inst) : (s.setInst i v).rings = s.rings := rfl
@[simp] theorem State.setInst_clu (s : State) (i : Nat) (v : Inst) : (s.setInst i v).clu = s.clu := rfl
@[simp] theorem State.setInst_flags (s : State) (i : Nat) (v : Inst) : (s.setInst i v).flags = s.flags := rfl
@[simp] theorem State.setInst_col (s : State) (i : Nat) (v : Inst) : (s.setInst i v).col = s.col := rfl
@[simp] theorem State.setInst_kv (s : State) (i : Nat) (v : Inst) : (s.setInst i v).kv = s.kv := rfl
@[simp] theorem State.setInst_eland (s : State) (i : Nat) (v : Inst) : (s.setInst i v).eland = s.eland := rfl
@[simp] theorem State.setInst_hbm (s : State) (i : Nat) (v : Inst) : (s.setInst i v).hbm = s.hbm := rfl
@[simp] theorem State.setInst_fport (s : State) (i : Nat) (v : Inst) : (s.setInst i v).fport = s.fport := rfl
@[simp] theorem State.setInst_laneRx (s : State) (i : Nat) (v : Inst) : (s.setInst i v).laneRx = s.laneRx := rfl
@[simp] theorem State.setInst_trn (s : State) (i : Nat) (v : Inst) : (s.setInst i v).trn = s.trn := rfl
@[simp] theorem State.setInst_time (s : State) (i : Nat) (v : Inst) : (s.setInst i v).time = s.time := rfl
@[simp] theorem State.setInst_pkt (s : State) (i : Nat) (v : Inst) : (s.setInst i v).pkt = s.pkt := rfl
@[simp] theorem State.setInst_chanQ (s : State) (i : Nat) (v : Inst) : (s.setInst i v).chanQ = s.chanQ := rfl
@[simp] theorem State.setInst_sto (s : State) (i : Nat) (v : Inst) : (s.setInst i v).sto = s.sto := rfl
@[simp] theorem State.setInst_sec (s : State) (i : Nat) (v : Inst) : (s.setInst i v).sec = s.sec := rfl
@[simp] theorem State.setInst_host (s : State) (i : Nat) (v : Inst) : (s.setInst i v).host = s.host := rfl
@[simp] theorem State.setInst_iq (s : State) (i : Nat) (v : Inst) : (s.setInst i v).iq = s.iq := rfl
@[simp] theorem State.setInst_flash (s : State) (i : Nat) (v : Inst) : (s.setInst i v).flash = s.flash := rfl
@[simp] theorem State.setInst_fw (s : State) (i : Nat) (v : Inst) : (s.setInst i v).fw = s.fw := rfl
@[simp] theorem State.setInst_coreSvc (s : State) (i : Nat) (v : Inst) : (s.setInst i v).coreSvc = s.coreSvc := rfl
@[simp] theorem State.setInst_domainCore (s : State) (i : Nat) (v : Inst) : (s.setInst i v).domainCore = s.domainCore := rfl
@[simp] theorem State.setInst_paused (s : State) (i : Nat) (v : Inst) : (s.setInst i v).paused = s.paused := rfl
@[simp] theorem State.setInst_tahr (s : State) (i : Nat) (v : Inst) : (s.setInst i v).tahr = s.tahr := rfl
@[simp] theorem State.setInst_ctrl (s : State) (i : Nat) (v : Inst) : (s.setInst i v).ctrl = s.ctrl := rfl
@[simp] theorem State.setInst_pwr (s : State) (i : Nat) (v : Inst) : (s.setInst i v).pwr = s.pwr := rfl
@[simp] theorem State.setInst_aon (s : State) (i : Nat) (v : Inst) : (s.setInst i v).aon = s.aon := rfl
@[simp] theorem State.setInst_flt (s : State) (i : Nat) (v : Inst) : (s.setInst i v).flt = s.flt := rfl
@[simp] theorem State.setInst_faultN (s : State) (i : Nat) (v : Inst) : (s.setInst i v).faultN = s.faultN := rfl
@[simp] theorem State.setInst_ckp (s : State) (i : Nat) (v : Inst) : (s.setInst i v).ckp = s.ckp := rfl
@[simp] theorem State.setInst_pins (s : State) (i : Nat) (v : Inst) : (s.setInst i v).pins = s.pins := rfl

/-! ### setRing -/

@[simp] theorem State.setRing_pending (s : State) (b : Nat) (r : Ring) : (s.setRing b r).pending = s.pending := rfl
@[simp] theorem State.setRing_regs (s : State) (b : Nat) (r : Ring) : (s.setRing b r).regs = s.regs := rfl
@[simp] theorem State.setRing_mem (s : State) (b : Nat) (r : Ring) : (s.setRing b r).mem = s.mem := rfl
@[simp] theorem State.setRing_marks (s : State) (b : Nat) (r : Ring) : (s.setRing b r).marks = s.marks := rfl
@[simp] theorem State.setRing_lineMarks (s : State) (b : Nat) (r : Ring) : (s.setRing b r).lineMarks = s.lineMarks := rfl
@[simp] theorem State.setRing_hostMem (s : State) (b : Nat) (r : Ring) : (s.setRing b r).hostMem = s.hostMem := rfl
@[simp] theorem State.setRing_lfsr (s : State) (b : Nat) (r : Ring) : (s.setRing b r).lfsr = s.lfsr := rfl
@[simp] theorem State.setRing_guards (s : State) (b : Nat) (r : Ring) : (s.setRing b r).guards = s.guards := rfl
@[simp] theorem State.setRing_free (s : State) (b : Nat) (r : Ring) : (s.setRing b r).free = s.free := rfl
@[simp] theorem State.setRing_clock (s : State) (b : Nat) (r : Ring) : (s.setRing b r).clock = s.clock := rfl
@[simp] theorem State.setRing_out (s : State) (b : Nat) (r : Ring) : (s.setRing b r).out = s.out := rfl
@[simp] theorem State.setRing_mbx (s : State) (b : Nat) (r : Ring) : (s.setRing b r).mbx = s.mbx := rfl
@[simp] theorem State.setRing_accelWin (s : State) (b : Nat) (r : Ring) : (s.setRing b r).accelWin = s.accelWin := rfl
@[simp] theorem State.setRing_answer32 (s : State) (b : Nat) (r : Ring) : (s.setRing b r).answer32 = s.answer32 := rfl
@[simp] theorem State.setRing_answerErr (s : State) (b : Nat) (r : Ring) : (s.setRing b r).answerErr = s.answerErr := rfl
@[simp] theorem State.setRing_boots (s : State) (b : Nat) (r : Ring) : (s.setRing b r).boots = s.boots := rfl
@[simp] theorem State.setRing_clu (s : State) (b : Nat) (r : Ring) : (s.setRing b r).clu = s.clu := rfl
@[simp] theorem State.setRing_flags (s : State) (b : Nat) (r : Ring) : (s.setRing b r).flags = s.flags := rfl
@[simp] theorem State.setRing_col (s : State) (b : Nat) (r : Ring) : (s.setRing b r).col = s.col := rfl
@[simp] theorem State.setRing_kv (s : State) (b : Nat) (r : Ring) : (s.setRing b r).kv = s.kv := rfl
@[simp] theorem State.setRing_eland (s : State) (b : Nat) (r : Ring) : (s.setRing b r).eland = s.eland := rfl
@[simp] theorem State.setRing_hbm (s : State) (b : Nat) (r : Ring) : (s.setRing b r).hbm = s.hbm := rfl
@[simp] theorem State.setRing_fport (s : State) (b : Nat) (r : Ring) : (s.setRing b r).fport = s.fport := rfl
@[simp] theorem State.setRing_laneRx (s : State) (b : Nat) (r : Ring) : (s.setRing b r).laneRx = s.laneRx := rfl
@[simp] theorem State.setRing_trn (s : State) (b : Nat) (r : Ring) : (s.setRing b r).trn = s.trn := rfl
@[simp] theorem State.setRing_time (s : State) (b : Nat) (r : Ring) : (s.setRing b r).time = s.time := rfl
@[simp] theorem State.setRing_pkt (s : State) (b : Nat) (r : Ring) : (s.setRing b r).pkt = s.pkt := rfl
@[simp] theorem State.setRing_chanQ (s : State) (b : Nat) (r : Ring) : (s.setRing b r).chanQ = s.chanQ := rfl
@[simp] theorem State.setRing_sto (s : State) (b : Nat) (r : Ring) : (s.setRing b r).sto = s.sto := rfl
@[simp] theorem State.setRing_sec (s : State) (b : Nat) (r : Ring) : (s.setRing b r).sec = s.sec := rfl
@[simp] theorem State.setRing_host (s : State) (b : Nat) (r : Ring) : (s.setRing b r).host = s.host := rfl
@[simp] theorem State.setRing_inst (s : State) (b : Nat) (r : Ring) : (s.setRing b r).inst = s.inst := rfl
@[simp] theorem State.setRing_iq (s : State) (b : Nat) (r : Ring) : (s.setRing b r).iq = s.iq := rfl
@[simp] theorem State.setRing_flash (s : State) (b : Nat) (r : Ring) : (s.setRing b r).flash = s.flash := rfl
@[simp] theorem State.setRing_fw (s : State) (b : Nat) (r : Ring) : (s.setRing b r).fw = s.fw := rfl
@[simp] theorem State.setRing_coreSvc (s : State) (b : Nat) (r : Ring) : (s.setRing b r).coreSvc = s.coreSvc := rfl
@[simp] theorem State.setRing_domainCore (s : State) (b : Nat) (r : Ring) : (s.setRing b r).domainCore = s.domainCore := rfl
@[simp] theorem State.setRing_paused (s : State) (b : Nat) (r : Ring) : (s.setRing b r).paused = s.paused := rfl
@[simp] theorem State.setRing_tahr (s : State) (b : Nat) (r : Ring) : (s.setRing b r).tahr = s.tahr := rfl
@[simp] theorem State.setRing_ctrl (s : State) (b : Nat) (r : Ring) : (s.setRing b r).ctrl = s.ctrl := rfl
@[simp] theorem State.setRing_pwr (s : State) (b : Nat) (r : Ring) : (s.setRing b r).pwr = s.pwr := rfl
@[simp] theorem State.setRing_aon (s : State) (b : Nat) (r : Ring) : (s.setRing b r).aon = s.aon := rfl
@[simp] theorem State.setRing_flt (s : State) (b : Nat) (r : Ring) : (s.setRing b r).flt = s.flt := rfl
@[simp] theorem State.setRing_faultN (s : State) (b : Nat) (r : Ring) : (s.setRing b r).faultN = s.faultN := rfl
@[simp] theorem State.setRing_ckp (s : State) (b : Nat) (r : Ring) : (s.setRing b r).ckp = s.ckp := rfl
@[simp] theorem State.setRing_pins (s : State) (b : Nat) (r : Ring) : (s.setRing b r).pins = s.pins := rfl

/-! ### setClu -/

@[simp] theorem State.setClu_pending (s : State) (c : Nat) (v : Clu) : (s.setClu c v).pending = s.pending := rfl
@[simp] theorem State.setClu_regs (s : State) (c : Nat) (v : Clu) : (s.setClu c v).regs = s.regs := rfl
@[simp] theorem State.setClu_mem (s : State) (c : Nat) (v : Clu) : (s.setClu c v).mem = s.mem := rfl
@[simp] theorem State.setClu_marks (s : State) (c : Nat) (v : Clu) : (s.setClu c v).marks = s.marks := rfl
@[simp] theorem State.setClu_lineMarks (s : State) (c : Nat) (v : Clu) : (s.setClu c v).lineMarks = s.lineMarks := rfl
@[simp] theorem State.setClu_hostMem (s : State) (c : Nat) (v : Clu) : (s.setClu c v).hostMem = s.hostMem := rfl
@[simp] theorem State.setClu_lfsr (s : State) (c : Nat) (v : Clu) : (s.setClu c v).lfsr = s.lfsr := rfl
@[simp] theorem State.setClu_guards (s : State) (c : Nat) (v : Clu) : (s.setClu c v).guards = s.guards := rfl
@[simp] theorem State.setClu_free (s : State) (c : Nat) (v : Clu) : (s.setClu c v).free = s.free := rfl
@[simp] theorem State.setClu_clock (s : State) (c : Nat) (v : Clu) : (s.setClu c v).clock = s.clock := rfl
@[simp] theorem State.setClu_out (s : State) (c : Nat) (v : Clu) : (s.setClu c v).out = s.out := rfl
@[simp] theorem State.setClu_mbx (s : State) (c : Nat) (v : Clu) : (s.setClu c v).mbx = s.mbx := rfl
@[simp] theorem State.setClu_accelWin (s : State) (c : Nat) (v : Clu) : (s.setClu c v).accelWin = s.accelWin := rfl
@[simp] theorem State.setClu_answer32 (s : State) (c : Nat) (v : Clu) : (s.setClu c v).answer32 = s.answer32 := rfl
@[simp] theorem State.setClu_answerErr (s : State) (c : Nat) (v : Clu) : (s.setClu c v).answerErr = s.answerErr := rfl
@[simp] theorem State.setClu_boots (s : State) (c : Nat) (v : Clu) : (s.setClu c v).boots = s.boots := rfl
@[simp] theorem State.setClu_rings (s : State) (c : Nat) (v : Clu) : (s.setClu c v).rings = s.rings := rfl
@[simp] theorem State.setClu_flags (s : State) (c : Nat) (v : Clu) : (s.setClu c v).flags = s.flags := rfl
@[simp] theorem State.setClu_col (s : State) (c : Nat) (v : Clu) : (s.setClu c v).col = s.col := rfl
@[simp] theorem State.setClu_kv (s : State) (c : Nat) (v : Clu) : (s.setClu c v).kv = s.kv := rfl
@[simp] theorem State.setClu_eland (s : State) (c : Nat) (v : Clu) : (s.setClu c v).eland = s.eland := rfl
@[simp] theorem State.setClu_hbm (s : State) (c : Nat) (v : Clu) : (s.setClu c v).hbm = s.hbm := rfl
@[simp] theorem State.setClu_fport (s : State) (c : Nat) (v : Clu) : (s.setClu c v).fport = s.fport := rfl
@[simp] theorem State.setClu_laneRx (s : State) (c : Nat) (v : Clu) : (s.setClu c v).laneRx = s.laneRx := rfl
@[simp] theorem State.setClu_trn (s : State) (c : Nat) (v : Clu) : (s.setClu c v).trn = s.trn := rfl
@[simp] theorem State.setClu_time (s : State) (c : Nat) (v : Clu) : (s.setClu c v).time = s.time := rfl
@[simp] theorem State.setClu_pkt (s : State) (c : Nat) (v : Clu) : (s.setClu c v).pkt = s.pkt := rfl
@[simp] theorem State.setClu_chanQ (s : State) (c : Nat) (v : Clu) : (s.setClu c v).chanQ = s.chanQ := rfl
@[simp] theorem State.setClu_sto (s : State) (c : Nat) (v : Clu) : (s.setClu c v).sto = s.sto := rfl
@[simp] theorem State.setClu_sec (s : State) (c : Nat) (v : Clu) : (s.setClu c v).sec = s.sec := rfl
@[simp] theorem State.setClu_host (s : State) (c : Nat) (v : Clu) : (s.setClu c v).host = s.host := rfl
@[simp] theorem State.setClu_inst (s : State) (c : Nat) (v : Clu) : (s.setClu c v).inst = s.inst := rfl
@[simp] theorem State.setClu_iq (s : State) (c : Nat) (v : Clu) : (s.setClu c v).iq = s.iq := rfl
@[simp] theorem State.setClu_flash (s : State) (c : Nat) (v : Clu) : (s.setClu c v).flash = s.flash := rfl
@[simp] theorem State.setClu_fw (s : State) (c : Nat) (v : Clu) : (s.setClu c v).fw = s.fw := rfl
@[simp] theorem State.setClu_coreSvc (s : State) (c : Nat) (v : Clu) : (s.setClu c v).coreSvc = s.coreSvc := rfl
@[simp] theorem State.setClu_domainCore (s : State) (c : Nat) (v : Clu) : (s.setClu c v).domainCore = s.domainCore := rfl
@[simp] theorem State.setClu_paused (s : State) (c : Nat) (v : Clu) : (s.setClu c v).paused = s.paused := rfl
@[simp] theorem State.setClu_tahr (s : State) (c : Nat) (v : Clu) : (s.setClu c v).tahr = s.tahr := rfl
@[simp] theorem State.setClu_ctrl (s : State) (c : Nat) (v : Clu) : (s.setClu c v).ctrl = s.ctrl := rfl
@[simp] theorem State.setClu_pwr (s : State) (c : Nat) (v : Clu) : (s.setClu c v).pwr = s.pwr := rfl
@[simp] theorem State.setClu_aon (s : State) (c : Nat) (v : Clu) : (s.setClu c v).aon = s.aon := rfl
@[simp] theorem State.setClu_flt (s : State) (c : Nat) (v : Clu) : (s.setClu c v).flt = s.flt := rfl
@[simp] theorem State.setClu_faultN (s : State) (c : Nat) (v : Clu) : (s.setClu c v).faultN = s.faultN := rfl
@[simp] theorem State.setClu_ckp (s : State) (c : Nat) (v : Clu) : (s.setClu c v).ckp = s.ckp := rfl
@[simp] theorem State.setClu_pins (s : State) (c : Nat) (v : Clu) : (s.setClu c v).pins = s.pins := rfl

/-! ### setWordMark -/

@[simp] theorem State.setWordMark_pending (s : State) (a : Nat) (m : Mark) : (s.setWordMark a m).pending = s.pending := rfl
@[simp] theorem State.setWordMark_regs (s : State) (a : Nat) (m : Mark) : (s.setWordMark a m).regs = s.regs := rfl
@[simp] theorem State.setWordMark_mem (s : State) (a : Nat) (m : Mark) : (s.setWordMark a m).mem = s.mem := rfl
@[simp] theorem State.setWordMark_lineMarks (s : State) (a : Nat) (m : Mark) : (s.setWordMark a m).lineMarks = s.lineMarks := rfl
@[simp] theorem State.setWordMark_hostMem (s : State) (a : Nat) (m : Mark) : (s.setWordMark a m).hostMem = s.hostMem := rfl
@[simp] theorem State.setWordMark_lfsr (s : State) (a : Nat) (m : Mark) : (s.setWordMark a m).lfsr = s.lfsr := rfl
@[simp] theorem State.setWordMark_guards (s : State) (a : Nat) (m : Mark) : (s.setWordMark a m).guards = s.guards := rfl
@[simp] theorem State.setWordMark_free (s : State) (a : Nat) (m : Mark) : (s.setWordMark a m).free = s.free := rfl
@[simp] theorem State.setWordMark_clock (s : State) (a : Nat) (m : Mark) : (s.setWordMark a m).clock = s.clock := rfl
@[simp] theorem State.setWordMark_out (s : State) (a : Nat) (m : Mark) : (s.setWordMark a m).out = s.out := rfl
@[simp] theorem State.setWordMark_mbx (s : State) (a : Nat) (m : Mark) : (s.setWordMark a m).mbx = s.mbx := rfl
@[simp] theorem State.setWordMark_accelWin (s : State) (a : Nat) (m : Mark) : (s.setWordMark a m).accelWin = s.accelWin := rfl
@[simp] theorem State.setWordMark_answer32 (s : State) (a : Nat) (m : Mark) : (s.setWordMark a m).answer32 = s.answer32 := rfl
@[simp] theorem State.setWordMark_answerErr (s : State) (a : Nat) (m : Mark) : (s.setWordMark a m).answerErr = s.answerErr := rfl
@[simp] theorem State.setWordMark_boots (s : State) (a : Nat) (m : Mark) : (s.setWordMark a m).boots = s.boots := rfl
@[simp] theorem State.setWordMark_rings (s : State) (a : Nat) (m : Mark) : (s.setWordMark a m).rings = s.rings := rfl
@[simp] theorem State.setWordMark_clu (s : State) (a : Nat) (m : Mark) : (s.setWordMark a m).clu = s.clu := rfl
@[simp] theorem State.setWordMark_flags (s : State) (a : Nat) (m : Mark) : (s.setWordMark a m).flags = s.flags := rfl
@[simp] theorem State.setWordMark_col (s : State) (a : Nat) (m : Mark) : (s.setWordMark a m).col = s.col := rfl
@[simp] theorem State.setWordMark_kv (s : State) (a : Nat) (m : Mark) : (s.setWordMark a m).kv = s.kv := rfl
@[simp] theorem State.setWordMark_eland (s : State) (a : Nat) (m : Mark) : (s.setWordMark a m).eland = s.eland := rfl
@[simp] theorem State.setWordMark_hbm (s : State) (a : Nat) (m : Mark) : (s.setWordMark a m).hbm = s.hbm := rfl
@[simp] theorem State.setWordMark_fport (s : State) (a : Nat) (m : Mark) : (s.setWordMark a m).fport = s.fport := rfl
@[simp] theorem State.setWordMark_laneRx (s : State) (a : Nat) (m : Mark) : (s.setWordMark a m).laneRx = s.laneRx := rfl
@[simp] theorem State.setWordMark_trn (s : State) (a : Nat) (m : Mark) : (s.setWordMark a m).trn = s.trn := rfl
@[simp] theorem State.setWordMark_time (s : State) (a : Nat) (m : Mark) : (s.setWordMark a m).time = s.time := rfl
@[simp] theorem State.setWordMark_pkt (s : State) (a : Nat) (m : Mark) : (s.setWordMark a m).pkt = s.pkt := rfl
@[simp] theorem State.setWordMark_chanQ (s : State) (a : Nat) (m : Mark) : (s.setWordMark a m).chanQ = s.chanQ := rfl
@[simp] theorem State.setWordMark_sto (s : State) (a : Nat) (m : Mark) : (s.setWordMark a m).sto = s.sto := rfl
@[simp] theorem State.setWordMark_sec (s : State) (a : Nat) (m : Mark) : (s.setWordMark a m).sec = s.sec := rfl
@[simp] theorem State.setWordMark_host (s : State) (a : Nat) (m : Mark) : (s.setWordMark a m).host = s.host := rfl
@[simp] theorem State.setWordMark_inst (s : State) (a : Nat) (m : Mark) : (s.setWordMark a m).inst = s.inst := rfl
@[simp] theorem State.setWordMark_iq (s : State) (a : Nat) (m : Mark) : (s.setWordMark a m).iq = s.iq := rfl
@[simp] theorem State.setWordMark_flash (s : State) (a : Nat) (m : Mark) : (s.setWordMark a m).flash = s.flash := rfl
@[simp] theorem State.setWordMark_fw (s : State) (a : Nat) (m : Mark) : (s.setWordMark a m).fw = s.fw := rfl
@[simp] theorem State.setWordMark_coreSvc (s : State) (a : Nat) (m : Mark) : (s.setWordMark a m).coreSvc = s.coreSvc := rfl
@[simp] theorem State.setWordMark_domainCore (s : State) (a : Nat) (m : Mark) : (s.setWordMark a m).domainCore = s.domainCore := rfl
@[simp] theorem State.setWordMark_paused (s : State) (a : Nat) (m : Mark) : (s.setWordMark a m).paused = s.paused := rfl
@[simp] theorem State.setWordMark_tahr (s : State) (a : Nat) (m : Mark) : (s.setWordMark a m).tahr = s.tahr := rfl
@[simp] theorem State.setWordMark_ctrl (s : State) (a : Nat) (m : Mark) : (s.setWordMark a m).ctrl = s.ctrl := rfl
@[simp] theorem State.setWordMark_pwr (s : State) (a : Nat) (m : Mark) : (s.setWordMark a m).pwr = s.pwr := rfl
@[simp] theorem State.setWordMark_aon (s : State) (a : Nat) (m : Mark) : (s.setWordMark a m).aon = s.aon := rfl
@[simp] theorem State.setWordMark_flt (s : State) (a : Nat) (m : Mark) : (s.setWordMark a m).flt = s.flt := rfl
@[simp] theorem State.setWordMark_faultN (s : State) (a : Nat) (m : Mark) : (s.setWordMark a m).faultN = s.faultN := rfl
@[simp] theorem State.setWordMark_ckp (s : State) (a : Nat) (m : Mark) : (s.setWordMark a m).ckp = s.ckp := rfl
@[simp] theorem State.setWordMark_pins (s : State) (a : Nat) (m : Mark) : (s.setWordMark a m).pins = s.pins := rfl

/-! ### setLineMark -/

@[simp] theorem State.setLineMark_pending (s : State) (a : Nat) (m : Mark) : (s.setLineMark a m).pending = s.pending := rfl
@[simp] theorem State.setLineMark_regs (s : State) (a : Nat) (m : Mark) : (s.setLineMark a m).regs = s.regs := rfl
@[simp] theorem State.setLineMark_mem (s : State) (a : Nat) (m : Mark) : (s.setLineMark a m).mem = s.mem := rfl
@[simp] theorem State.setLineMark_marks (s : State) (a : Nat) (m : Mark) : (s.setLineMark a m).marks = s.marks := rfl
@[simp] theorem State.setLineMark_hostMem (s : State) (a : Nat) (m : Mark) : (s.setLineMark a m).hostMem = s.hostMem := rfl
@[simp] theorem State.setLineMark_lfsr (s : State) (a : Nat) (m : Mark) : (s.setLineMark a m).lfsr = s.lfsr := rfl
@[simp] theorem State.setLineMark_guards (s : State) (a : Nat) (m : Mark) : (s.setLineMark a m).guards = s.guards := rfl
@[simp] theorem State.setLineMark_free (s : State) (a : Nat) (m : Mark) : (s.setLineMark a m).free = s.free := rfl
@[simp] theorem State.setLineMark_clock (s : State) (a : Nat) (m : Mark) : (s.setLineMark a m).clock = s.clock := rfl
@[simp] theorem State.setLineMark_out (s : State) (a : Nat) (m : Mark) : (s.setLineMark a m).out = s.out := rfl
@[simp] theorem State.setLineMark_mbx (s : State) (a : Nat) (m : Mark) : (s.setLineMark a m).mbx = s.mbx := rfl
@[simp] theorem State.setLineMark_accelWin (s : State) (a : Nat) (m : Mark) : (s.setLineMark a m).accelWin = s.accelWin := rfl
@[simp] theorem State.setLineMark_answer32 (s : State) (a : Nat) (m : Mark) : (s.setLineMark a m).answer32 = s.answer32 := rfl
@[simp] theorem State.setLineMark_answerErr (s : State) (a : Nat) (m : Mark) : (s.setLineMark a m).answerErr = s.answerErr := rfl
@[simp] theorem State.setLineMark_boots (s : State) (a : Nat) (m : Mark) : (s.setLineMark a m).boots = s.boots := rfl
@[simp] theorem State.setLineMark_rings (s : State) (a : Nat) (m : Mark) : (s.setLineMark a m).rings = s.rings := rfl
@[simp] theorem State.setLineMark_clu (s : State) (a : Nat) (m : Mark) : (s.setLineMark a m).clu = s.clu := rfl
@[simp] theorem State.setLineMark_flags (s : State) (a : Nat) (m : Mark) : (s.setLineMark a m).flags = s.flags := rfl
@[simp] theorem State.setLineMark_col (s : State) (a : Nat) (m : Mark) : (s.setLineMark a m).col = s.col := rfl
@[simp] theorem State.setLineMark_kv (s : State) (a : Nat) (m : Mark) : (s.setLineMark a m).kv = s.kv := rfl
@[simp] theorem State.setLineMark_eland (s : State) (a : Nat) (m : Mark) : (s.setLineMark a m).eland = s.eland := rfl
@[simp] theorem State.setLineMark_hbm (s : State) (a : Nat) (m : Mark) : (s.setLineMark a m).hbm = s.hbm := rfl
@[simp] theorem State.setLineMark_fport (s : State) (a : Nat) (m : Mark) : (s.setLineMark a m).fport = s.fport := rfl
@[simp] theorem State.setLineMark_laneRx (s : State) (a : Nat) (m : Mark) : (s.setLineMark a m).laneRx = s.laneRx := rfl
@[simp] theorem State.setLineMark_trn (s : State) (a : Nat) (m : Mark) : (s.setLineMark a m).trn = s.trn := rfl
@[simp] theorem State.setLineMark_time (s : State) (a : Nat) (m : Mark) : (s.setLineMark a m).time = s.time := rfl
@[simp] theorem State.setLineMark_pkt (s : State) (a : Nat) (m : Mark) : (s.setLineMark a m).pkt = s.pkt := rfl
@[simp] theorem State.setLineMark_chanQ (s : State) (a : Nat) (m : Mark) : (s.setLineMark a m).chanQ = s.chanQ := rfl
@[simp] theorem State.setLineMark_sto (s : State) (a : Nat) (m : Mark) : (s.setLineMark a m).sto = s.sto := rfl
@[simp] theorem State.setLineMark_sec (s : State) (a : Nat) (m : Mark) : (s.setLineMark a m).sec = s.sec := rfl
@[simp] theorem State.setLineMark_host (s : State) (a : Nat) (m : Mark) : (s.setLineMark a m).host = s.host := rfl
@[simp] theorem State.setLineMark_inst (s : State) (a : Nat) (m : Mark) : (s.setLineMark a m).inst = s.inst := rfl
@[simp] theorem State.setLineMark_iq (s : State) (a : Nat) (m : Mark) : (s.setLineMark a m).iq = s.iq := rfl
@[simp] theorem State.setLineMark_flash (s : State) (a : Nat) (m : Mark) : (s.setLineMark a m).flash = s.flash := rfl
@[simp] theorem State.setLineMark_fw (s : State) (a : Nat) (m : Mark) : (s.setLineMark a m).fw = s.fw := rfl
@[simp] theorem State.setLineMark_coreSvc (s : State) (a : Nat) (m : Mark) : (s.setLineMark a m).coreSvc = s.coreSvc := rfl
@[simp] theorem State.setLineMark_domainCore (s : State) (a : Nat) (m : Mark) : (s.setLineMark a m).domainCore = s.domainCore := rfl
@[simp] theorem State.setLineMark_paused (s : State) (a : Nat) (m : Mark) : (s.setLineMark a m).paused = s.paused := rfl
@[simp] theorem State.setLineMark_tahr (s : State) (a : Nat) (m : Mark) : (s.setLineMark a m).tahr = s.tahr := rfl
@[simp] theorem State.setLineMark_ctrl (s : State) (a : Nat) (m : Mark) : (s.setLineMark a m).ctrl = s.ctrl := rfl
@[simp] theorem State.setLineMark_pwr (s : State) (a : Nat) (m : Mark) : (s.setLineMark a m).pwr = s.pwr := rfl
@[simp] theorem State.setLineMark_aon (s : State) (a : Nat) (m : Mark) : (s.setLineMark a m).aon = s.aon := rfl
@[simp] theorem State.setLineMark_flt (s : State) (a : Nat) (m : Mark) : (s.setLineMark a m).flt = s.flt := rfl
@[simp] theorem State.setLineMark_faultN (s : State) (a : Nat) (m : Mark) : (s.setLineMark a m).faultN = s.faultN := rfl
@[simp] theorem State.setLineMark_ckp (s : State) (a : Nat) (m : Mark) : (s.setLineMark a m).ckp = s.ckp := rfl
@[simp] theorem State.setLineMark_pins (s : State) (a : Nat) (m : Mark) : (s.setLineMark a m).pins = s.pins := rfl

/-! ### setTahr -/

@[simp] theorem State.setTahr_pending (s : State) (c : Nat) (v : Tahr) : (s.setTahr c v).pending = s.pending := rfl
@[simp] theorem State.setTahr_regs (s : State) (c : Nat) (v : Tahr) : (s.setTahr c v).regs = s.regs := rfl
@[simp] theorem State.setTahr_mem (s : State) (c : Nat) (v : Tahr) : (s.setTahr c v).mem = s.mem := rfl
@[simp] theorem State.setTahr_marks (s : State) (c : Nat) (v : Tahr) : (s.setTahr c v).marks = s.marks := rfl
@[simp] theorem State.setTahr_lineMarks (s : State) (c : Nat) (v : Tahr) : (s.setTahr c v).lineMarks = s.lineMarks := rfl
@[simp] theorem State.setTahr_hostMem (s : State) (c : Nat) (v : Tahr) : (s.setTahr c v).hostMem = s.hostMem := rfl
@[simp] theorem State.setTahr_lfsr (s : State) (c : Nat) (v : Tahr) : (s.setTahr c v).lfsr = s.lfsr := rfl
@[simp] theorem State.setTahr_guards (s : State) (c : Nat) (v : Tahr) : (s.setTahr c v).guards = s.guards := rfl
@[simp] theorem State.setTahr_free (s : State) (c : Nat) (v : Tahr) : (s.setTahr c v).free = s.free := rfl
@[simp] theorem State.setTahr_clock (s : State) (c : Nat) (v : Tahr) : (s.setTahr c v).clock = s.clock := rfl
@[simp] theorem State.setTahr_out (s : State) (c : Nat) (v : Tahr) : (s.setTahr c v).out = s.out := rfl
@[simp] theorem State.setTahr_mbx (s : State) (c : Nat) (v : Tahr) : (s.setTahr c v).mbx = s.mbx := rfl
@[simp] theorem State.setTahr_accelWin (s : State) (c : Nat) (v : Tahr) : (s.setTahr c v).accelWin = s.accelWin := rfl
@[simp] theorem State.setTahr_answer32 (s : State) (c : Nat) (v : Tahr) : (s.setTahr c v).answer32 = s.answer32 := rfl
@[simp] theorem State.setTahr_answerErr (s : State) (c : Nat) (v : Tahr) : (s.setTahr c v).answerErr = s.answerErr := rfl
@[simp] theorem State.setTahr_boots (s : State) (c : Nat) (v : Tahr) : (s.setTahr c v).boots = s.boots := rfl
@[simp] theorem State.setTahr_rings (s : State) (c : Nat) (v : Tahr) : (s.setTahr c v).rings = s.rings := rfl
@[simp] theorem State.setTahr_clu (s : State) (c : Nat) (v : Tahr) : (s.setTahr c v).clu = s.clu := rfl
@[simp] theorem State.setTahr_flags (s : State) (c : Nat) (v : Tahr) : (s.setTahr c v).flags = s.flags := rfl
@[simp] theorem State.setTahr_col (s : State) (c : Nat) (v : Tahr) : (s.setTahr c v).col = s.col := rfl
@[simp] theorem State.setTahr_kv (s : State) (c : Nat) (v : Tahr) : (s.setTahr c v).kv = s.kv := rfl
@[simp] theorem State.setTahr_eland (s : State) (c : Nat) (v : Tahr) : (s.setTahr c v).eland = s.eland := rfl
@[simp] theorem State.setTahr_hbm (s : State) (c : Nat) (v : Tahr) : (s.setTahr c v).hbm = s.hbm := rfl
@[simp] theorem State.setTahr_fport (s : State) (c : Nat) (v : Tahr) : (s.setTahr c v).fport = s.fport := rfl
@[simp] theorem State.setTahr_laneRx (s : State) (c : Nat) (v : Tahr) : (s.setTahr c v).laneRx = s.laneRx := rfl
@[simp] theorem State.setTahr_trn (s : State) (c : Nat) (v : Tahr) : (s.setTahr c v).trn = s.trn := rfl
@[simp] theorem State.setTahr_time (s : State) (c : Nat) (v : Tahr) : (s.setTahr c v).time = s.time := rfl
@[simp] theorem State.setTahr_pkt (s : State) (c : Nat) (v : Tahr) : (s.setTahr c v).pkt = s.pkt := rfl
@[simp] theorem State.setTahr_chanQ (s : State) (c : Nat) (v : Tahr) : (s.setTahr c v).chanQ = s.chanQ := rfl
@[simp] theorem State.setTahr_sto (s : State) (c : Nat) (v : Tahr) : (s.setTahr c v).sto = s.sto := rfl
@[simp] theorem State.setTahr_sec (s : State) (c : Nat) (v : Tahr) : (s.setTahr c v).sec = s.sec := rfl
@[simp] theorem State.setTahr_host (s : State) (c : Nat) (v : Tahr) : (s.setTahr c v).host = s.host := rfl
@[simp] theorem State.setTahr_inst (s : State) (c : Nat) (v : Tahr) : (s.setTahr c v).inst = s.inst := rfl
@[simp] theorem State.setTahr_iq (s : State) (c : Nat) (v : Tahr) : (s.setTahr c v).iq = s.iq := rfl
@[simp] theorem State.setTahr_flash (s : State) (c : Nat) (v : Tahr) : (s.setTahr c v).flash = s.flash := rfl
@[simp] theorem State.setTahr_fw (s : State) (c : Nat) (v : Tahr) : (s.setTahr c v).fw = s.fw := rfl
@[simp] theorem State.setTahr_coreSvc (s : State) (c : Nat) (v : Tahr) : (s.setTahr c v).coreSvc = s.coreSvc := rfl
@[simp] theorem State.setTahr_domainCore (s : State) (c : Nat) (v : Tahr) : (s.setTahr c v).domainCore = s.domainCore := rfl
@[simp] theorem State.setTahr_paused (s : State) (c : Nat) (v : Tahr) : (s.setTahr c v).paused = s.paused := rfl
@[simp] theorem State.setTahr_ctrl (s : State) (c : Nat) (v : Tahr) : (s.setTahr c v).ctrl = s.ctrl := rfl
@[simp] theorem State.setTahr_pwr (s : State) (c : Nat) (v : Tahr) : (s.setTahr c v).pwr = s.pwr := rfl
@[simp] theorem State.setTahr_aon (s : State) (c : Nat) (v : Tahr) : (s.setTahr c v).aon = s.aon := rfl
@[simp] theorem State.setTahr_flt (s : State) (c : Nat) (v : Tahr) : (s.setTahr c v).flt = s.flt := rfl
@[simp] theorem State.setTahr_faultN (s : State) (c : Nat) (v : Tahr) : (s.setTahr c v).faultN = s.faultN := rfl
@[simp] theorem State.setTahr_ckp (s : State) (c : Nat) (v : Tahr) : (s.setTahr c v).ckp = s.ckp := rfl
@[simp] theorem State.setTahr_pins (s : State) (c : Nat) (v : Tahr) : (s.setTahr c v).pins = s.pins := rfl

/-! ### sf: a register field -/

@[simp] theorem State.sf_pending (s : State) (o : Nat) (f : Fd) (x : Nat) : (s.sf o f x).pending = s.pending := by
  rw [State.sf]; split
  · exact State.wr_pending _ _ _
  · rw [State.wr64, State.wr_pending _ _ _]; exact State.wr_pending _ _ _
@[simp] theorem State.sf_mem (s : State) (o : Nat) (f : Fd) (x : Nat) : (s.sf o f x).mem = s.mem := by
  rw [State.sf]; split
  · exact State.wr_mem _ _ _
  · rw [State.wr64, State.wr_mem _ _ _]; exact State.wr_mem _ _ _
@[simp] theorem State.sf_marks (s : State) (o : Nat) (f : Fd) (x : Nat) : (s.sf o f x).marks = s.marks := by
  rw [State.sf]; split
  · exact State.wr_marks _ _ _
  · rw [State.wr64, State.wr_marks _ _ _]; exact State.wr_marks _ _ _
@[simp] theorem State.sf_lineMarks (s : State) (o : Nat) (f : Fd) (x : Nat) : (s.sf o f x).lineMarks = s.lineMarks := by
  rw [State.sf]; split
  · exact State.wr_lineMarks _ _ _
  · rw [State.wr64, State.wr_lineMarks _ _ _]; exact State.wr_lineMarks _ _ _
@[simp] theorem State.sf_hostMem (s : State) (o : Nat) (f : Fd) (x : Nat) : (s.sf o f x).hostMem = s.hostMem := by
  rw [State.sf]; split
  · exact State.wr_hostMem _ _ _
  · rw [State.wr64, State.wr_hostMem _ _ _]; exact State.wr_hostMem _ _ _
@[simp] theorem State.sf_lfsr (s : State) (o : Nat) (f : Fd) (x : Nat) : (s.sf o f x).lfsr = s.lfsr := by
  rw [State.sf]; split
  · exact State.wr_lfsr _ _ _
  · rw [State.wr64, State.wr_lfsr _ _ _]; exact State.wr_lfsr _ _ _
@[simp] theorem State.sf_guards (s : State) (o : Nat) (f : Fd) (x : Nat) : (s.sf o f x).guards = s.guards := by
  rw [State.sf]; split
  · exact State.wr_guards _ _ _
  · rw [State.wr64, State.wr_guards _ _ _]; exact State.wr_guards _ _ _
@[simp] theorem State.sf_free (s : State) (o : Nat) (f : Fd) (x : Nat) : (s.sf o f x).free = s.free := by
  rw [State.sf]; split
  · exact State.wr_free _ _ _
  · rw [State.wr64, State.wr_free _ _ _]; exact State.wr_free _ _ _
@[simp] theorem State.sf_clock (s : State) (o : Nat) (f : Fd) (x : Nat) : (s.sf o f x).clock = s.clock := by
  rw [State.sf]; split
  · exact State.wr_clock _ _ _
  · rw [State.wr64, State.wr_clock _ _ _]; exact State.wr_clock _ _ _
@[simp] theorem State.sf_out (s : State) (o : Nat) (f : Fd) (x : Nat) : (s.sf o f x).out = s.out := by
  rw [State.sf]; split
  · exact State.wr_out _ _ _
  · rw [State.wr64, State.wr_out _ _ _]; exact State.wr_out _ _ _
@[simp] theorem State.sf_mbx (s : State) (o : Nat) (f : Fd) (x : Nat) : (s.sf o f x).mbx = s.mbx := by
  rw [State.sf]; split
  · exact State.wr_mbx _ _ _
  · rw [State.wr64, State.wr_mbx _ _ _]; exact State.wr_mbx _ _ _
@[simp] theorem State.sf_accelWin (s : State) (o : Nat) (f : Fd) (x : Nat) : (s.sf o f x).accelWin = s.accelWin := by
  rw [State.sf]; split
  · exact State.wr_accelWin _ _ _
  · rw [State.wr64, State.wr_accelWin _ _ _]; exact State.wr_accelWin _ _ _
@[simp] theorem State.sf_answer32 (s : State) (o : Nat) (f : Fd) (x : Nat) : (s.sf o f x).answer32 = s.answer32 := by
  rw [State.sf]; split
  · exact State.wr_answer32 _ _ _
  · rw [State.wr64, State.wr_answer32 _ _ _]; exact State.wr_answer32 _ _ _
@[simp] theorem State.sf_answerErr (s : State) (o : Nat) (f : Fd) (x : Nat) : (s.sf o f x).answerErr = s.answerErr := by
  rw [State.sf]; split
  · exact State.wr_answerErr _ _ _
  · rw [State.wr64, State.wr_answerErr _ _ _]; exact State.wr_answerErr _ _ _
@[simp] theorem State.sf_boots (s : State) (o : Nat) (f : Fd) (x : Nat) : (s.sf o f x).boots = s.boots := by
  rw [State.sf]; split
  · exact State.wr_boots _ _ _
  · rw [State.wr64, State.wr_boots _ _ _]; exact State.wr_boots _ _ _
@[simp] theorem State.sf_rings (s : State) (o : Nat) (f : Fd) (x : Nat) : (s.sf o f x).rings = s.rings := by
  rw [State.sf]; split
  · exact State.wr_rings _ _ _
  · rw [State.wr64, State.wr_rings _ _ _]; exact State.wr_rings _ _ _
@[simp] theorem State.sf_clu (s : State) (o : Nat) (f : Fd) (x : Nat) : (s.sf o f x).clu = s.clu := by
  rw [State.sf]; split
  · exact State.wr_clu _ _ _
  · rw [State.wr64, State.wr_clu _ _ _]; exact State.wr_clu _ _ _
@[simp] theorem State.sf_flags (s : State) (o : Nat) (f : Fd) (x : Nat) : (s.sf o f x).flags = s.flags := by
  rw [State.sf]; split
  · exact State.wr_flags _ _ _
  · rw [State.wr64, State.wr_flags _ _ _]; exact State.wr_flags _ _ _
@[simp] theorem State.sf_col (s : State) (o : Nat) (f : Fd) (x : Nat) : (s.sf o f x).col = s.col := by
  rw [State.sf]; split
  · exact State.wr_col _ _ _
  · rw [State.wr64, State.wr_col _ _ _]; exact State.wr_col _ _ _
@[simp] theorem State.sf_kv (s : State) (o : Nat) (f : Fd) (x : Nat) : (s.sf o f x).kv = s.kv := by
  rw [State.sf]; split
  · exact State.wr_kv _ _ _
  · rw [State.wr64, State.wr_kv _ _ _]; exact State.wr_kv _ _ _
@[simp] theorem State.sf_eland (s : State) (o : Nat) (f : Fd) (x : Nat) : (s.sf o f x).eland = s.eland := by
  rw [State.sf]; split
  · exact State.wr_eland _ _ _
  · rw [State.wr64, State.wr_eland _ _ _]; exact State.wr_eland _ _ _
@[simp] theorem State.sf_hbm (s : State) (o : Nat) (f : Fd) (x : Nat) : (s.sf o f x).hbm = s.hbm := by
  rw [State.sf]; split
  · exact State.wr_hbm _ _ _
  · rw [State.wr64, State.wr_hbm _ _ _]; exact State.wr_hbm _ _ _
@[simp] theorem State.sf_fport (s : State) (o : Nat) (f : Fd) (x : Nat) : (s.sf o f x).fport = s.fport := by
  rw [State.sf]; split
  · exact State.wr_fport _ _ _
  · rw [State.wr64, State.wr_fport _ _ _]; exact State.wr_fport _ _ _
@[simp] theorem State.sf_laneRx (s : State) (o : Nat) (f : Fd) (x : Nat) : (s.sf o f x).laneRx = s.laneRx := by
  rw [State.sf]; split
  · exact State.wr_laneRx _ _ _
  · rw [State.wr64, State.wr_laneRx _ _ _]; exact State.wr_laneRx _ _ _
@[simp] theorem State.sf_trn (s : State) (o : Nat) (f : Fd) (x : Nat) : (s.sf o f x).trn = s.trn := by
  rw [State.sf]; split
  · exact State.wr_trn _ _ _
  · rw [State.wr64, State.wr_trn _ _ _]; exact State.wr_trn _ _ _
@[simp] theorem State.sf_time (s : State) (o : Nat) (f : Fd) (x : Nat) : (s.sf o f x).time = s.time := by
  rw [State.sf]; split
  · exact State.wr_time _ _ _
  · rw [State.wr64, State.wr_time _ _ _]; exact State.wr_time _ _ _
@[simp] theorem State.sf_pkt (s : State) (o : Nat) (f : Fd) (x : Nat) : (s.sf o f x).pkt = s.pkt := by
  rw [State.sf]; split
  · exact State.wr_pkt _ _ _
  · rw [State.wr64, State.wr_pkt _ _ _]; exact State.wr_pkt _ _ _
@[simp] theorem State.sf_chanQ (s : State) (o : Nat) (f : Fd) (x : Nat) : (s.sf o f x).chanQ = s.chanQ := by
  rw [State.sf]; split
  · exact State.wr_chanQ _ _ _
  · rw [State.wr64, State.wr_chanQ _ _ _]; exact State.wr_chanQ _ _ _
@[simp] theorem State.sf_sto (s : State) (o : Nat) (f : Fd) (x : Nat) : (s.sf o f x).sto = s.sto := by
  rw [State.sf]; split
  · exact State.wr_sto _ _ _
  · rw [State.wr64, State.wr_sto _ _ _]; exact State.wr_sto _ _ _
@[simp] theorem State.sf_sec (s : State) (o : Nat) (f : Fd) (x : Nat) : (s.sf o f x).sec = s.sec := by
  rw [State.sf]; split
  · exact State.wr_sec _ _ _
  · rw [State.wr64, State.wr_sec _ _ _]; exact State.wr_sec _ _ _
@[simp] theorem State.sf_host (s : State) (o : Nat) (f : Fd) (x : Nat) : (s.sf o f x).host = s.host := by
  rw [State.sf]; split
  · exact State.wr_host _ _ _
  · rw [State.wr64, State.wr_host _ _ _]; exact State.wr_host _ _ _
@[simp] theorem State.sf_inst (s : State) (o : Nat) (f : Fd) (x : Nat) : (s.sf o f x).inst = s.inst := by
  rw [State.sf]; split
  · exact State.wr_inst _ _ _
  · rw [State.wr64, State.wr_inst _ _ _]; exact State.wr_inst _ _ _
@[simp] theorem State.sf_iq (s : State) (o : Nat) (f : Fd) (x : Nat) : (s.sf o f x).iq = s.iq := by
  rw [State.sf]; split
  · exact State.wr_iq _ _ _
  · rw [State.wr64, State.wr_iq _ _ _]; exact State.wr_iq _ _ _
@[simp] theorem State.sf_flash (s : State) (o : Nat) (f : Fd) (x : Nat) : (s.sf o f x).flash = s.flash := by
  rw [State.sf]; split
  · exact State.wr_flash _ _ _
  · rw [State.wr64, State.wr_flash _ _ _]; exact State.wr_flash _ _ _
@[simp] theorem State.sf_fw (s : State) (o : Nat) (f : Fd) (x : Nat) : (s.sf o f x).fw = s.fw := by
  rw [State.sf]; split
  · exact State.wr_fw _ _ _
  · rw [State.wr64, State.wr_fw _ _ _]; exact State.wr_fw _ _ _
@[simp] theorem State.sf_coreSvc (s : State) (o : Nat) (f : Fd) (x : Nat) : (s.sf o f x).coreSvc = s.coreSvc := by
  rw [State.sf]; split
  · exact State.wr_coreSvc _ _ _
  · rw [State.wr64, State.wr_coreSvc _ _ _]; exact State.wr_coreSvc _ _ _
@[simp] theorem State.sf_domainCore (s : State) (o : Nat) (f : Fd) (x : Nat) : (s.sf o f x).domainCore = s.domainCore := by
  rw [State.sf]; split
  · exact State.wr_domainCore _ _ _
  · rw [State.wr64, State.wr_domainCore _ _ _]; exact State.wr_domainCore _ _ _
@[simp] theorem State.sf_paused (s : State) (o : Nat) (f : Fd) (x : Nat) : (s.sf o f x).paused = s.paused := by
  rw [State.sf]; split
  · exact State.wr_paused _ _ _
  · rw [State.wr64, State.wr_paused _ _ _]; exact State.wr_paused _ _ _
@[simp] theorem State.sf_tahr (s : State) (o : Nat) (f : Fd) (x : Nat) : (s.sf o f x).tahr = s.tahr := by
  rw [State.sf]; split
  · exact State.wr_tahr _ _ _
  · rw [State.wr64, State.wr_tahr _ _ _]; exact State.wr_tahr _ _ _
@[simp] theorem State.sf_ctrl (s : State) (o : Nat) (f : Fd) (x : Nat) : (s.sf o f x).ctrl = s.ctrl := by
  rw [State.sf]; split
  · exact State.wr_ctrl _ _ _
  · rw [State.wr64, State.wr_ctrl _ _ _]; exact State.wr_ctrl _ _ _
@[simp] theorem State.sf_pwr (s : State) (o : Nat) (f : Fd) (x : Nat) : (s.sf o f x).pwr = s.pwr := by
  rw [State.sf]; split
  · exact State.wr_pwr _ _ _
  · rw [State.wr64, State.wr_pwr _ _ _]; exact State.wr_pwr _ _ _
@[simp] theorem State.sf_aon (s : State) (o : Nat) (f : Fd) (x : Nat) : (s.sf o f x).aon = s.aon := by
  rw [State.sf]; split
  · exact State.wr_aon _ _ _
  · rw [State.wr64, State.wr_aon _ _ _]; exact State.wr_aon _ _ _
@[simp] theorem State.sf_flt (s : State) (o : Nat) (f : Fd) (x : Nat) : (s.sf o f x).flt = s.flt := by
  rw [State.sf]; split
  · exact State.wr_flt _ _ _
  · rw [State.wr64, State.wr_flt _ _ _]; exact State.wr_flt _ _ _
@[simp] theorem State.sf_faultN (s : State) (o : Nat) (f : Fd) (x : Nat) : (s.sf o f x).faultN = s.faultN := by
  rw [State.sf]; split
  · exact State.wr_faultN _ _ _
  · rw [State.wr64, State.wr_faultN _ _ _]; exact State.wr_faultN _ _ _
@[simp] theorem State.sf_ckp (s : State) (o : Nat) (f : Fd) (x : Nat) : (s.sf o f x).ckp = s.ckp := by
  rw [State.sf]; split
  · exact State.wr_ckp _ _ _
  · rw [State.wr64, State.wr_ckp _ _ _]; exact State.wr_ckp _ _ _
@[simp] theorem State.sf_pins (s : State) (o : Nat) (f : Fd) (x : Nat) : (s.sf o f x).pins = s.pins := by
  rw [State.sf]; split
  · exact State.wr_pins _ _ _
  · rw [State.wr64, State.wr_pins _ _ _]; exact State.wr_pins _ _ _

@[simp] theorem State.withPending_pending (s : State) (q : List Instr) : (s.withPending q).pending = q := rfl
@[simp] theorem State.emit_out (s : State) (o : Output) : (s.emit o).out = s.out ++ [o] := rfl
@[simp] theorem State.tick_free (s : State) : s.tick.free = s.free + 1 := rfl
@[simp] theorem State.setMb_mbx (s : State) (m : Nat) (b : Mailbox) : (s.setMb m b).mbx = Tab.set mbxReset s.mbx m b := rfl
@[simp] theorem State.setRing_rings (s : State) (b : Nat) (r : Ring) : (s.setRing b r).rings = Tab.set ringReset s.rings b r := rfl

end Sys2Proof.Machine
end

