-- ==== Sys2Proof/WellFormed.lean ====
section
/-! DEFINITION. Well-formed commands: the sizes of the byte strings and lists that a command carries, where its rule fixes
them. Every other operand has a type of its exact width. -/

namespace Sys2Proof

/-- A configuration request stays within one aligned word (R324); any other register access moves at most 4,096 bytes. -/
def accessOk (space : RegSpace) (off : BitVec 26) (n : Nat) : Bool :=
  match space with
  | .config => decide (off.toNat % 4 + n ≤ 4)
  | _ => decide (n ≤ 4096)

/-- A write carries as many bytes as it says, a read none (R123). -/
def upstreamOk (wr : Bool) (len : BitVec 13) (data : List (BitVec 8)) : Bool :=
  if wr then decide (data.length = len.toNat) else data.isEmpty

/-- The sizes a command's rule fixes. -/
def wellFormed : Instr → Bool
  | .registerWrite _ space off data => accessOk space off data.length
  | .registerRead _ space off len => accessOk space off len.val
  | .apertureAccess _ _ (some data) _ => decide (data.length ≤ 4096)
  | .upstreamRequest _ _ wr len data => upstreamOk wr len data
  | .hbmWrite _ addr data _ _ _ => decide (0 < data.length) && decide (addr.toNat % 64 + data.length ≤ 64)
  | .synKvClassSet _ _ rec => decide (rec.length = 64)
  | .synKvProfileLoad _ _ rec => decide (rec.length = 128)
  | .synElandPortSet _ _ rec => decide (rec.length = 64)
  | .synStoVolumeSet _ _ record => decide (record.length = 64)
  | .synPwrClassSet _ _ record => decide (record.length = 16)
  | .synHostWinSet _ _ entries => entries.all (fun e => decide (e.length = 16))
  | .synSecAttest _ nonce userdata => decide (nonce.length = 64) && decide (userdata.length = 64)
  | .currentRead rails _ => decide (rails.length = 5)
  | .dieTempUpdate dies _ => decide (dies.length = 8)
  | .codeword _ _ _ _ cells => cells.all (fun c => decide (c.length ≤ 64))
  | _ => true

end Sys2Proof
end

