-- ==== Sys2Proof/Tests/Slice0.lean ====
section
/-! SUPPORT. Tests: an ill-formed command for each check of `wellFormed`, the worked examples of the spec, and for every
statement of Certificates/Slice0/Obligations.lean one theorem that shows, clause by clause, a state and operands that
meet the clause's hypotheses together (clauses with the same hypotheses share one). -/

set_option Elab.async false

namespace Sys2Proof.Tests

open Sys2Proof Sys2Proof.Machine

/-! ### Helpers -/

def S0 : State := State.reset
def q0 : Requester := .core 0
/-- 64 bytes from 32-bit words. -/
def dsc (ws : List Nat) : List Byte := fit 64 (ws.flatMap (leBytes 4))
def nextOf : Host.Outcome State Fault Refusal → State
  | .next t => t
  | _ => State.reset
theorem exec_nextOf (c : Instr) (s : State) : exec c s = .next (nextOf (exec c s)) := by
  obtain ⟨t, h, -⟩ := exec_frame c s
  rw [h]; rfl
theorem step_nextOf (s : State) : step s = .next (nextOf (step s)) := by
  unfold step; split
  · rfl
  · exact exec_nextOf _ _

def S1 := S0.sf (CLU_CTL 3) CLU_CTL_CMD_EN 1
/-- cluster 3 with its two rings in HBM and CMPL_EN set -/
def Sring := ((S0.wr (cluB 3) 0x10006#32).wr (CLU_CMPL_BASE 3) 0x20006#32).sf (CLU_CTL 3) CLU_CTL_CMPL_EN 1
def Son := Sring.sf (CLU_CTL 3) CLU_CTL_CMD_EN 1
def Sclear := (Son.sf (CLU_PSTAT 3) CLU_PSTAT_STATE 0).sf (CLU_PCTL 3) CLU_PCTL_TARGET 0
/-- the ring with a NOP fetched next -/
def Sfetch (d : List Byte) := ((Sclear.putBytes 0x10000 d).setRing (cluB 3) { Ring.reset with tail := 1 })
def Sissue (d : List Byte) := Sclear.setRing (cluB 3) { Ring.reset with tail := 1, fetchIx := 1, fetched := [(0, d)] }
def Sdone (d : List Byte) (st : Nat) := Sclear.setRing (cluB 3) { Ring.reset with tail := 1, fetchIx := 1, issued := [⟨0, 0, d, 0, true, some (st, 0)⟩] }
def iss (u : Nat) (d : List Byte) : Issued := ⟨0, 0, d, u, false, none⟩
def Srun (u : Nat) (d : List Byte) := ((Sclear.setRing (cluB 3) { Ring.reset with tail := 1, fetchIx := 1, issued := [iss u d] }).putBytes (scratchAddr 3 0) (leBytes 4 0x40000000 ++ leBytes 4 0x3F800000)).putBytes 0x1000 [1,2,3,4,5,6,7]
def nopD := dsc [0]
def vb (op f : Nat) := dsc [op, 0, 0, 0, 0, 0x01000000, 0x100, 2, f + 0x100, 0x40400000]
def mm := dsc [0x10, 0,0,0, 0x200000, 0x200000, 0x1000, 0x010101, 32, 32, 128]
def cv := dsc [0x30, 0,0,0, 0, 0x100100, 0, 0, 2]
def dm (op src dst n rows : Nat) := dsc [op, 0,0,0, src, 0, dst, 0, n, 0, rows, 0x40, 0x40]

def rq0 : SynReq := ⟨.mailbox 0, 3, 2, 7, 7, false, none⟩

/-- Core 3 runs, with every register zero. -/
def sCore : State := (S0.setTahr 3 { Tahr.reset with started := true, pc := 0x100 }).sf (CORE_STATUS 3) CORE_STATUS_STATE 1

/-- Window 2 of the example in 15_host_endpoint.md. -/
def sWin : State :=
  let s := (S0.cfgWr 4 (S0.cfgRd 4 ||| 6)).sf HBM_STATUS HBM_STATUS_READY 1
  { s with host := { s.host with winActive := [(2, ⟨0x1000000000, true, 3, 31⟩)] } }

/-! ### Ill-formed commands, one for each check -/

theorem test_register_write_past_4096 :
    wellFormed (.registerWrite q0 .bar0 0 (List.replicate 4097 0)) = false := by decide +kernel

theorem test_config_write_across_a_word : wellFormed (.registerWrite q0 .config 6 [1, 2, 3]) = false := by decide

theorem test_config_write_in_a_word : wellFormed (.registerWrite q0 .config 6 [1, 2]) = true := by decide

theorem test_config_read_across_a_word : wellFormed (.registerRead q0 .config 7 2) = false := by decide

theorem test_aperture_write_past_4096 :
    wellFormed (.apertureAccess 0 0 (some (List.replicate 4097 0)) false) = false := by decide +kernel

theorem test_upstream_write_short : wellFormed (.upstreamRequest 0 0 true 4 [1, 2, 3]) = false := by decide

theorem test_upstream_read_with_data : wellFormed (.upstreamRequest 0 0 false 4 [1]) = false := by decide

theorem test_hbm_write_across_a_line : wellFormed (.hbmWrite (.line 0) 63 [1, 2] false false 0) = false := by decide

theorem test_hbm_write_of_nothing : wellFormed (.hbmWrite (.line 0) 0 [] false false 0) = false := by decide

theorem test_class_record_short : wellFormed (.synKvClassSet rq0 0 []) = false := by decide

theorem test_profile_record_short : wellFormed (.synKvProfileLoad rq0 0 (List.replicate 64 0)) = false := by decide

theorem test_port_record_short : wellFormed (.synElandPortSet rq0 0 [1]) = false := by decide

theorem test_volume_record_long : wellFormed (.synStoVolumeSet rq0 0 (List.replicate 65 0)) = false := by decide

theorem test_power_class_record_short : wellFormed (.synPwrClassSet rq0 0 (List.replicate 15 0)) = false := by decide

theorem test_window_entry_short :
    wellFormed (.synHostWinSet rq0 0 [List.replicate 16 0, List.replicate 15 0]) = false := by decide

theorem test_attest_nonce_short :
    wellFormed (.synSecAttest rq0 (List.replicate 63 0) (List.replicate 64 0)) = false := by decide

theorem test_attest_userdata_short :
    wellFormed (.synSecAttest rq0 (List.replicate 64 0) (List.replicate 63 0)) = false := by decide

theorem test_four_rails : wellFormed (.currentRead (List.replicate 4 ⟨0, 0, true, false, 0⟩) 0) = false := by decide

theorem test_seven_dies : wellFormed (.dieTempUpdate (List.replicate 7 0) 0) = false := by decide

theorem test_codeword_cell_long : wellFormed (.codeword 0 0 false 0 [List.replicate 65 0]) = false := by decide

theorem test_table_spells_no_command : decodeTableWord 32 0x20200056 = none := by decide

/-! ### Worked examples of the spec (02_number_formats.md, 01, 04, 15, 18) -/

/-- 02: 0x3E99_999A as FP8-E4M3, to nearest even. -/
theorem test_e4m3_nearest : e4m3.encode .nearest true (fp32.decode 0x3E99999A) = 0x2A := by decide +kernel

/-- 02: the same, stochastically: the draw 26,215 rounds up, 26,214 does not. -/
theorem test_e4m3_stochastic :
    e4m3.encode (.stochastic 26215) true (fp32.decode 0x3E99999A) = 0x2A
    ∧ e4m3.encode (.stochastic 26214) true (fp32.decode 0x3E99999A) = 0x29 := by decide +kernel

/-- 02: the NSFP4 block whose record is 7F 40 B6 01, six zeros, C6 02, six zeros. Values are FP32 encodings of 5, -1.3,
0.7, 0.3, -0.11 and 0.05. -/
theorem test_nsfp4_block :
    encodeBlock 0xC [] (([0x40A00000, 0xBFA66666, 0x3F333333] ++ List.replicate 13 0
      ++ [0x3E99999A, 0xBDE147AE, 0x3D4CCCCD] ++ List.replicate 13 0).map fp32.decode)
    = ([0x7F, 0x40, 0xB6, 0x01, 0, 0, 0, 0, 0, 0, 0xC6, 0x02, 0, 0, 0, 0, 0, 0], false) := by decide +kernel

/-- 01: offset 0x2_4000 of the scratchpad of C517 lies at 0x40_2052_4000. -/
theorem test_scratchpad_address : scratchAddr 517 0x24000 = 0x4020524000 := by decide

/-- 18: IMMH g1, 0x2020 then ORI g1, g1, 0x8154 leave the doorbell's address in g1. -/
theorem test_immh_ori :
    ((nextOf (exec (.ori 3 1 1 0x8154) (nextOf (exec (.immh 3 1 0 0x2020) sCore)))).tahrOf 3).g
      = [(1, 0x20208154)] := by decide +kernel

/-- 15: offset 0x4000_1000 of window 2, whose TARGET is 0x10_0000_0000, is HBM at 0x10_4000_1000. -/
theorem test_aperture_write :
    (nextOf (exec (.apertureAccess 0x240001000 4 (some [9, 8, 7, 6]) false) sWin)).bytes 0x1040001000 4
      = [9, 8, 7, 6] := by decide +kernel

/-- 15: offset 0x2_9000_0000 lies beyond the window and adds one to WIN_MISS.READS. -/
theorem test_aperture_miss :
    (nextOf (exec (.apertureAccess 0x290000000 4 none false) sWin)).gf WIN_MISS WIN_MISS_READS = 1 := by decide +kernel

/-- R239: the empty queue counts one cycle. -/
theorem test_idle_counts : (nextOf (step State.reset)).clock = State.reset.clock + 1 := by decide +kernel

/-- A step takes the front command and leaves the rest waiting. -/
theorem test_step_keeps_the_rest :
    (nextOf (step (State.reset.withPending [.hbmReady, .hotReset]))).pending = [.hotReset] := by decide +kernel

/-! ### Witnesses -/

namespace C01

def Sacc : State := (S0.wr FLG_OVERSET_CNT 7#32).wr FLG_OVERSET_FIRST 0x80000012#32
def Smse : State := { S0.sf DEV_STATUS DEV_STATUS_STAGE 9 with host := { (S0.cfgWr 0x04 0x00100006#32).host with cfgReady := true } }
def Sjt : State := S0.sf SEC_STATUS SEC_STATUS_DEBUG 2
def rq01 : SynReq := ⟨.mailbox 0, 3, 2, 7, 0xFFFF, false, none⟩
def sEnrol : State := { ((S0.sf DEV_STATUS DEV_STATUS_STAGE 6).sf DEV_ENABLE DEV_ENABLE_EN 1).setMb 0 { Mailbox.reset with session := some ⟨5, false, 0, none⟩ } with flash := { S0.flash with cert := [1] } }

/-- States and operands that meet the hypotheses of StepRunsTheFrontCommand, clause by clause. -/
theorem witness_StepRunsTheFrontCommand :
    (∃ (s : State) (c : Instr) (rest : List Instr), s.pending = c :: rest) :=
  ⟨({S0 with pending := [.hotReset]}), .hotReset, [], by decide +kernel⟩

/-- States and operands that meet the hypotheses of EmptyQueueStepCountsOneCycle, clause by clause. -/
theorem witness_EmptyQueueStepCountsOneCycle :
    (∃ (s : State), s.pending = []) :=
  ⟨State.reset, by decide +kernel⟩

/-- States and operands that meet the hypotheses of EveryCommandCompletesAndKeepsTheQueue, clause by clause. -/
theorem witness_EveryCommandCompletesAndKeepsTheQueue :
    (∃ (s t : State) (c : Instr) (rest : List Instr), s.pending = c :: rest ∧ step s = .next t) :=
  ⟨(State.reset.withPending [.hotReset, .hbmReady]), (nextOf (step (State.reset.withPending [.hotReset, .hbmReady]))),
    .hotReset, [.hbmReady], by
    (repeat' with_reducible apply And.intro) <;> first | exact exec_nextOf _ _ | exact step_nextOf _ | decide +kernel⟩

/-- States and operands that meet the hypotheses of EveryStepKeepsTheCanonicalForm, clause by clause. -/
theorem witness_EveryStepKeepsTheCanonicalForm :
    (∃ (s t : State), s.canon ∧ step s = .next t) :=
  ⟨(State.reset.withPending [.hbmReady]), (nextOf (step (State.reset.withPending [.hbmReady]))), by
    (repeat' with_reducible apply And.intro) <;> first | exact step_nextOf _ | (unfold State.canon; decide +kernel)⟩

/-- States and operands that meet the hypotheses of OnlyTheseCommandsResetTheDeviceOrWriteFlash, clause by clause. -/
theorem witness_OnlyTheseCommandsResetTheDeviceOrWriteFlash :
    (∃ (i : Instr) (s t : State), exec i s = .next t ∧ t.boots ≠ s.boots)
    ∧ (∃ (i : Instr) (s t : State), exec i s = .next t ∧ t.flash ≠ s.flash) :=
  ⟨⟨.hotReset, S0, (nextOf (exec .hotReset S0)), by
     (repeat' with_reducible apply And.intro) <;> first | exact exec_nextOf _ _ | exact step_nextOf _ | decide +kernel⟩,
   ⟨(.synSecEnrol rq01), sEnrol, (nextOf (exec (.synSecEnrol rq01) sEnrol)), by
     (repeat' with_reducible apply And.intro) <;> first | exact exec_nextOf _ _ | exact fun h => absurd (congrArg Flash.cert h) (by decide +kernel)⟩⟩

/-- States and operands that meet the hypotheses of RegistersAppearInDeviceSpace, clause by clause. -/
theorem witness_RegistersAppearInDeviceSpace :
    (∃ (s : State) (off : BitVec 26) (addr : BitVec 52) (len : BitVec 8), s.scope 1 = true ∧ off.toNat < 0x2000000 ∧
      addr.toNat = 0xF000000000 + off.toNat)
    ∧ (∃ (s : State) (off : BitVec 26) (addr : BitVec 52) (data : List Byte), s.scope 1 = true ∧ off.toNat < 0x2000000 ∧
      addr.toNat = 0xF000000000 + off.toNat)
    ∧ (∃ (s : State) (q : Requester) (off : Nat) (n : Nat), off < 0x2000000)
    ∧ (∃ (s : State) (q : Requester) (off : Nat) (bs : List Byte) (poison : Bool), off < 0x2000000) :=
  ⟨⟨Sjt, 0x210018, 0xF000210018, 4, by decide +kernel⟩,
   ⟨Sjt, 0x210014, 0xF000210014, [1,2,3,4], by decide +kernel⟩,
   ⟨Sacc, q0, 0x210018, 4, by decide +kernel⟩,
   ⟨Sacc, q0, 0x210014, [1,2,3,4], false, by decide +kernel⟩⟩

/-- States and operands that meet the hypotheses of RegisterAccessesFollowTheirSize, clause by clause. -/
theorem witness_RegisterAccessesFollowTheirSize :
    (∃ (s : State) (q : Requester) (off : BitVec 26) (len : Fin 4097), s.bar0Claims q off.toNat = true ∧ s.hostReaches q
      (off.toNat / 4 * 4) = true ∧ off.toNat % 4 + len.val ≤ 4)
    ∧ (∃ (s : State) (q : Requester) (off : BitVec 26) (v : W32), s.bar0Claims q off.toNat = true ∧ s.hostReaches q
      off.toNat = true ∧ off.toNat % 4 = 0)
    ∧ (∃ (s : State) (q : Requester) (off : BitVec 26) (data : List Byte), s.bar0Claims q off.toNat = true ∧ data.length
      < 4 ∧ off.toNat % 4 + data.length ≤ 4)
    ∧ (∃ (s : State) (q : Requester) (off : BitVec 26), s.bar0Claims q off.toNat = true ∧ s.hostReaches q off.toNat =
      true ∧ off.toNat % 8 = 0 ∧ (regRead off.toNat 0 4 s).2.hostReaches q (off.toNat + 4) = true)
    ∧ (∃ (s : State) (q : Requester) (off : BitVec 26) (lo hi : W32), s.bar0Claims q off.toNat = true ∧ s.hostReaches q
      off.toNat = true ∧ off.toNat % 8 = 0 ∧ (regWrite q off.toNat lo s).hostReaches q (off.toNat + 4) = true)
    ∧ (∃ (s : State) (off : BitVec 26) (len : Fin 4097), s.bar0Claims .host off.toNat = true ∧ 4 < off.toNat % 4 +
      len.val ∧ ¬(len.val = 8 ∧ off.toNat % 8 = 0))
    ∧ (∃ (s : State) (off : BitVec 26) (data : List Byte), s.bar0Claims .host off.toNat = true ∧ 4 < off.toNat % 4 +
      data.length ∧ ¬(data.length = 8 ∧ off.toNat % 8 = 0))
    ∧ (∃ (s : State) (q : Requester) (off : BitVec 26) (len : Fin 4097), q ≠ .host ∧ s.bar0Claims q off.toNat = true ∧ 4
      < off.toNat % 4 + len.val ∧ ¬(len.val = 8 ∧ off.toNat % 8 = 0))
    ∧ (∃ (s : State) (q : Requester) (off : BitVec 26) (data : List Byte), q ≠ .host ∧ s.bar0Claims q off.toNat = true ∧
      4 < off.toNat % 4 + data.length ∧ ¬(data.length = 8 ∧ off.toNat % 8 = 0))
    ∧ (∃ (s : State) (off : BitVec 26) (data : List Byte), s.claims = true ∧ off.toNat < 0x2000000 ∧ data.length ≠ 4 ∧
      ¬(data.length = 8 ∧ off.toNat % 8 = 0))
    ∧ (∃ (s : State) (off : BitVec 26) (len : Fin 4097), s.claims = true ∧ off.toNat < 0x2000000 ∧ 4 < off.toNat % 4 +
      len.val ∧ ¬(len.val = 8 ∧ off.toNat % 8 = 0))
    ∧ (∃ (s : State) (off : BitVec 26) (v : W32), s.claims = true ∧ off.toNat < 0x2000000 ∧ off.toNat % 4 = 0)
    ∧ (∃ (s : State) (off : BitVec 26) (lo hi : W32), s.claims = true ∧ off.toNat < 0x2000000 ∧ off.toNat % 8 = 0)
    ∧ (∃ (s : State) (off : BitVec 26) (len : Fin 4097), s.claims = true ∧ off.toNat < 0x2000000 ∧ off.toNat % 4 +
      len.val ≤ 4) :=
  ⟨⟨Sacc, q0, 0x210019, 2, by decide +kernel⟩,
   ⟨Sacc, q0, 0x210014, 5, by decide +kernel⟩,
   ⟨Sacc, q0, 0x210014, [1,2,3], by decide +kernel⟩,
   ⟨Sacc, q0, 0x210018, by decide +kernel⟩,
   ⟨Sacc, q0, 0x210018, 5, 0x80000000, by decide +kernel⟩,
   ⟨Smse, 0x21001A, 4, by decide +kernel⟩,
   ⟨Smse, 0x21001A, [1,2,3,4], by decide +kernel⟩,
   ⟨Sacc, q0, 0x21001A, 4, by decide +kernel⟩,
   ⟨Sacc, q0, 0x21001A, [1,2,3,4], by decide +kernel⟩,
   ⟨Smse, 0x3000, [1,2,3], by decide +kernel⟩,
   ⟨Smse, 0x3002, 4, by decide +kernel⟩,
   ⟨Smse, 0x3000, 5, by decide +kernel⟩,
   ⟨Smse, 0x3000, 5, 6, by decide +kernel⟩,
   ⟨Smse, 0x3001, 2, by decide +kernel⟩⟩

/-- States and operands that meet the hypotheses of RegistersFollowTheirAccessTypes, clause by clause. -/
theorem witness_RegistersFollowTheirAccessTypes :
    (∃ (s : State) (q : Requester) (v : W32), coreWrites q = true)
    ∧ (∃ (s : State) (q : Requester) (v : W32), coreWrites q = true ∧ s.bar0Claims q FLG_OVERSET_FIRST = true)
    ∧ (∃ (s : State) (q : Requester) (v : W32), s.bar0Claims q FLG_OVERSET_CNT = true)
    ∧ (∃ (s : State) (q : Requester), s.bar0Claims q FLG_OVERSET_CNT = true ∧ s.hostReaches q FLG_OVERSET_CNT = true)
    ∧ (∃ (s : State) (q : Requester), s.bar0Claims q FLG_SIGNAL = true ∧ s.hostReaches q FLG_SIGNAL = true)
    ∧ (∃ (s : State) (v : W32), s.bar0Claims .host FLG_PEEK = true)
    ∧ (∃ (s : State) (q : Requester) (off : BitVec 26) (v : W32), findReg off.toNat = none ∧ 0x2F0040 ≤ off.toNat ∧
      off.toNat % 4 = 0 ∧ s.bar0Claims q off.toNat = true)
    ∧ (∃ (s : State) (q : Requester) (off : BitVec 26), findReg off.toNat = none ∧ off.toNat % 4 = 0 ∧ s.bar0Claims q
      off.toNat = true ∧ s.hostReaches q off.toNat = true ∧ s.absentPort off.toNat = false ∧ off.toNat ≠ TIME_NOW + 4)
    ∧ (∃ (s : State) (q : Requester) (off : BitVec 26) (data : List Byte), q ≠ .host ∧ s.bar0Claims q off.toNat = false)
    ∧ (∃ (s : State) (q : Requester) (off : BitVec 26) (len : Fin 4097), q ≠ .host ∧ s.bar0Claims q off.toNat = false)
    ∧ (∃ (s : State) (off : BitVec 26) (data : List Byte), s.bar0Claims .host off.toNat = false)
    ∧ (∃ (s : State) (off : BitVec 26) (len : Fin 4097), s.bar0Claims .host off.toNat = false) :=
  ⟨⟨Sacc, q0, 0xFFFFFFFF, by decide +kernel⟩,
   ⟨Sacc, q0, 0x80000000, by decide +kernel⟩,
   ⟨Sacc, q0, 5, by decide +kernel⟩,
   ⟨Sacc, q0, by decide +kernel⟩,
   ⟨Sacc, q0, by decide +kernel⟩,
   ⟨Smse, 5, by decide +kernel⟩,
   ⟨Sacc, q0, 0x2F0100, 5, by decide +kernel⟩,
   ⟨Sacc, q0, 0x2F0100, by decide +kernel⟩,
   ⟨S0, .jtag, 5, [1,2,3,4], by decide +kernel⟩,
   ⟨S0, .jtag, 5, 4, by decide +kernel⟩,
   ⟨S0, 5, [1,2,3,4], by decide +kernel⟩,
   ⟨S0, 5, 4, by decide +kernel⟩⟩

/-- States and operands that meet the hypotheses of JtagAndCoreEventsAct, clause by clause. -/
theorem witness_JtagAndCoreEventsAct :
    (∃ (s : State) (t0 : List Byte), s.tokenOk t0 = false)
    ∧ (∃ (s : State) (a : BitVec 52) (len : BitVec 8), s.scope 1 = false)
    ∧ (∃ (s : State) (q : Requester) (c : Fin 33) (v : W32), coreWrites q = true ∧ c.val < 32) :=
  ⟨⟨S0, [1], by decide +kernel⟩,
   ⟨S0, 5, 4, by decide +kernel⟩,
   ⟨S0, q0, 5, 0xFFFFFFFF, by decide +kernel⟩⟩

end C01

namespace C03

def S1 := S0.sf (CLU_CTL 3) CLU_CTL_CMD_EN 1
/-- cluster 3 with its two rings in HBM and CMPL_EN set -/
def Sring := ((S0.wr (cluB 3) 0x10006#32).wr (CLU_CMPL_BASE 3) 0x20006#32).sf (CLU_CTL 3) CLU_CTL_CMPL_EN 1
def Son := Sring.sf (CLU_CTL 3) CLU_CTL_CMD_EN 1
def Sclear := (Son.sf (CLU_PSTAT 3) CLU_PSTAT_STATE 0).sf (CLU_PCTL 3) CLU_PCTL_TARGET 0
/-- the ring with a NOP fetched next -/
def Sfetch (d : List Byte) := ((Sclear.putBytes 0x10000 d).setRing (cluB 3) { Ring.reset with tail := 1 })
def Sissue (d : List Byte) := Sclear.setRing (cluB 3) { Ring.reset with tail := 1, fetchIx := 1, fetched := [(0, d)] }
def Sdone (d : List Byte) (st : Nat) := Sclear.setRing (cluB 3) { Ring.reset with tail := 1, fetchIx := 1, issued := [⟨0, 0, d, 0, true, some (st, 0)⟩] }
def iss (u : Nat) (d : List Byte) : Issued := ⟨0, 0, d, u, false, none⟩
def Srun (u : Nat) (d : List Byte) := ((Sclear.setRing (cluB 3) { Ring.reset with tail := 1, fetchIx := 1, issued := [iss u d] }).putBytes (scratchAddr 3 0) (leBytes 4 0x40000000 ++ leBytes 4 0x3F800000)).putBytes 0x1000 [1,2,3,4,5,6,7]
def nopD := dsc [0]
def vb (op f : Nat) := dsc [op, 0, 0, 0, 0, 0x01000000, 0x100, 2, f + 0x100, 0x40400000]
def mm := dsc [0x10, 0,0,0, 0x200000, 0x200000, 0x1000, 0x010101, 32, 32, 128]
def cv := dsc [0x30, 0,0,0, 0, 0x100100, 0, 0, 2]
def dm (op src dst n rows : Nat) := dsc [op, 0,0,0, src, 0, dst, 0, n, 0, rows, 0x40, 0x40]
def dlist (a : Nat) (s : State) : State := s.putBytes (scratchAddr 3 0x40) (leBytes 8 a ++ leBytes 8 (a + 0x400))
def dm2 (op src dst n rows l : Nat) := dsc [op, 0,0,0, src, 0, dst, 0, n, 0, rows, l, 0x40]
def Sxl (op p : Nat) (v : Bool) : State := let s := (Sissue (dsc [0x8000, 9 + op * 2^24])).putFlag p v false; s.keepXlat 3 0 0 p

/-- States and operands that meet the hypotheses of ClusterBaseWritesZeroTheIndices, clause by clause. -/
theorem witness_ClusterBaseWritesZeroTheIndices :
    (∃ (s : State) (q : Requester) (c : Fin 1024) (hi : Bool) (v : W32), coreWrites q = true ∧ s.cmdEn (cluB c.val) =
      false)
    ∧ (∃ (s : State) (q : Requester) (c : Fin 1024) (hi : Bool) (v : W32), coreWrites q = true ∧ s.cmdEn (cluB c.val) =
      true)
    ∧ (∃ (s : State) (q : Requester) (c : Fin 1024) (hi : Bool) (v : W32), coreWrites q = true ∧ s.cmplEn (cluB c.val) =
      false)
    ∧ (∃ (s : State) (q : Requester) (c : Fin 1024) (hi : Bool) (v : W32), coreWrites q = true ∧ s.cmplEn (cluB c.val) =
      true) :=
  ⟨⟨S0, q0, 3, false, 0x12345007, by decide +kernel⟩,
   ⟨S1, q0, 3, true, 0xFFF00007, by decide +kernel⟩,
   ⟨S0, q0, 3, true, 0xFFF00007, by decide +kernel⟩,
   ⟨(S0.sf (CLU_CTL 3) CLU_CTL_CMPL_EN 1), q0, 3, true, 0xFFF00007, by decide +kernel⟩⟩

/-- States and operands that meet the hypotheses of ClusterEnablesAreChecked, clause by clause. -/
theorem witness_ClusterEnablesAreChecked :
    (∃ (s : State) (q : Requester) (c : Fin 1024) (v : W32), coreWrites q = true ∧ s.cmdEn (cluB c.val) = false ∧
      s.cmplEn (cluB c.val) = true ∧ bitAt v.toNat 1 = true ∧ s.cmdEnCheck (cluB c.val) true = none)
    ∧ (∃ (s : State) (q : Requester) (c : Fin 1024) (v : W32) (code : Nat), coreWrites q = true ∧ s.cmdEn (cluB c.val) =
      false ∧ s.cmplEn (cluB c.val) = true ∧ bitAt v.toNat 1 = true ∧ s.cmdEnCheck (cluB c.val) true = some code)
    ∧ (∃ (s : State) (q : Requester) (c : Fin 1024) (v : W32), coreWrites q = true ∧ s.cmdEn (cluB c.val) = true ∧
      s.cmplEn (cluB c.val) = true ∧ bitAt v.toNat 1 = true)
    ∧ (∃ (s : State) (q : Requester) (c : Fin 1024) (v : W32), coreWrites q = true ∧ s.cmdEn (cluB c.val) = false ∧
      s.cmplEn (cluB c.val) = false ∧ bitAt v.toNat 0 = false ∧ s.cmplEnCheck (cluB c.val) = none)
    ∧ (∃ (s : State) (q : Requester) (c : Fin 1024) (v : W32), coreWrites q = true ∧ s.cmdEn (cluB c.val) = false ∧
      s.cmplEn (cluB c.val) = true ∧ bitAt v.toNat 0 = false ∧ (s.ring (cluB c.val)).issued = [])
    ∧ (∃ (s : State) (q : Requester) (c : Fin 1024) (v : W32), coreWrites q = true ∧ s.cmplEn (cluB c.val) = true ∧
      (s.cmdEn (cluB c.val) = true ∧ bitAt v.toNat 0 = true ∨ (s.ring (cluB c.val)).issued ≠ [])) :=
  ⟨⟨Sring, q0, 3, 0x00120003, by decide +kernel⟩,
   ⟨(S0.sf (CLU_CTL 3) CLU_CTL_CMPL_EN 1), q0, 3, 0x00120003, 0x640, by decide +kernel⟩,
   ⟨Son, q0, 3, 0x00120002, by decide +kernel⟩,
   ⟨(S0.wr (CLU_CMPL_BASE 3) 0x20006#32), q0, 3, 0x00120002, by decide +kernel⟩,
   ⟨Sring, q0, 3, 0, by decide +kernel⟩,
   ⟨Son, q0, 3, 1, by decide +kernel⟩⟩

/-- States and operands that meet the hypotheses of ClusterDoorbellAndResume, clause by clause. -/
theorem witness_ClusterDoorbellAndResume :
    (∃ (s : State) (q : Requester) (c : Fin 1024) (v : W32), coreWrites q = true ∧ ixDiff (v.toNat % 2 ^ 16) (s.cmdHead
      (cluB c.val)) ≤ 2 ^ s.cmdLog (cluB c.val))
    ∧ (∃ (s : State) (q : Requester) (c : Fin 1024) (v : W32), coreWrites q = true ∧ ixDiff (v.toNat % 2 ^ 16)
      (s.cmdHead (cluB c.val)) > 2 ^ s.cmdLog (cluB c.val))
    ∧ (∃ (s : State) (q : Requester) (c : Fin 1024) (v : W32), coreWrites q = true) :=
  ⟨⟨Son, q0, 3, 1, by decide +kernel⟩,
   ⟨Son, q0, 3, 65, by decide +kernel⟩,
   ⟨Son, q0, 3, 65, by decide +kernel⟩⟩

/-- States and operands that meet the hypotheses of ClusterPowerStatesFollowTarget, clause by clause. -/
theorem witness_ClusterPowerStatesFollowTarget :
    (∃ (s : State) (q : Requester) (c : Fin 1024) (v : W32), coreWrites q = true ∧ v.toNat % 4 ≠ 3 ∧ s.cluMoving c.val =
      false)
    ∧ (∃ (s : State) (q : Requester) (c : Fin 1024) (v : W32), coreWrites q = true ∧ v.toNat % 4 ≠ 3 ∧ s.cluMoving c.val
      = true)
    ∧ (∃ (s : State) (c : Fin 1024), s.cluState c.val = 0 ∧ s.cluMoving c.val = false ∧ s.cluIdle c.val = true ∧
      (s.cluTarget c.val = 1 ∨ s.cluTarget c.val = 0 ∧ s.gf (CLU_PCTL c.val) CLU_PCTL_IDLE_HAZE ≠ 0))
    ∧ (∃ (s : State) (c : Fin 1024), s.cluTarget c.val = 2 ∧ s.cluState c.val ≠ 2 ∧ s.cluMoving c.val = false ∧
      s.cluIdle c.val = true)
    ∧ (∃ (s : State) (c : Fin 1024), s.cluMoving c.val = true ∧ s.cluState c.val ≠ 2 ∧ (s.cluOf c.val).held = none)
    ∧ (∃ (s : State) (q : Requester) (c : Fin 1024) (tail : BitVec 16), coreWrites q = true ∧ s.cluState c.val = 2 ∧
      s.cluMoving c.val = false ∧ s.gf (CLU_PCTL c.val) CLU_PCTL_AUTOWAKE = 1 ∧ ixDiff tail.toNat (s.cmdHead (cluB
      c.val)) ≤ 2 ^ s.cmdLog (cluB c.val))
    ∧ (∃ (s : State) (q : Requester) (c : Fin 1024) (target : BitVec 2), coreWrites q = true ∧ s.cluState c.val = 2 ∧
      s.cluMoving c.val = false ∧ target.toNat < 2)
    ∧ (∃ (s : State) (c : Fin 1024), s.cluMoving c.val = true ∧ s.cluState c.val = 2 ∧ (s.cluOf c.val).held = none) :=
  ⟨⟨Son, q0, 3, 0xFFFF2201, by decide +kernel⟩,
   ⟨(Son.sf (CLU_PSTAT 3) CLU_PSTAT_MOVING 1), q0, 3, 0xFFFF2202, by decide +kernel⟩,
   ⟨Sclear, 3, by decide +kernel⟩,
   ⟨(Sclear.sf (CLU_PCTL 3) CLU_PCTL_TARGET 2), 3, by decide +kernel⟩,
   ⟨(((Sclear.sf (CLU_PCTL 3) CLU_PCTL_TARGET 2).sf (CLU_PSTAT 3) CLU_PSTAT_MOVING 1).sf (CLU_PCTL 3) CLU_PCTL_RETAIN
     0xF0), 3, by decide +kernel⟩,
   ⟨Son, q0, 3, 2, by decide +kernel⟩,
   ⟨Son, q0, 3, 1, by decide +kernel⟩,
   ⟨(((Son.sf (CLU_PSTAT 3) CLU_PSTAT_MOVING 1).putBytes (scratchAddr 3 60) (List.replicate 200 7)).sf (CLU_PSTAT 3)
     CLU_PSTAT_RETAINED 2), 3, by decide +kernel⟩⟩

/-- States and operands that meet the hypotheses of DescriptorsAreFetchedIssuedAndCompleted, clause by clause. -/
theorem witness_DescriptorsAreFetchedIssuedAndCompleted :
    (∃ (s : State) (c : Fin 1024) (d : List Byte), s.cluState c.val = 0 ∧ s.cluMoving c.val = false ∧ s.cmdEn (cluB
      c.val) = true ∧ s.blockDown 6 = false ∧ s.safe = false ∧ (s.ring (cluB c.val)).fetchFail = false ∧ (s.ring (cluB
      c.val)).fetched.length < 16 ∧ (s.ring (cluB c.val)).fetchIx ≠ (s.ring (cluB c.val)).tail ∧ (s.fetchEntry (cluB
      c.val) (s.ring (cluB c.val)).fetchIx).1 = some d)
    ∧ (∃ (s : State) (c : Fin 1024), s.cluState c.val = 0 ∧ s.cluMoving c.val = false ∧ s.cmdEn (cluB c.val) = true ∧
      s.blockDown 6 = false ∧ s.safe = false ∧ (s.ring (cluB c.val)).fetchFail = false ∧ (s.ring (cluB
      c.val)).fetched.length < 16 ∧ (s.ring (cluB c.val)).fetchIx ≠ (s.ring (cluB c.val)).tail ∧ (s.fetchEntry (cluB
      c.val) (s.ring (cluB c.val)).fetchIx).1 = none)
    ∧ (∃ (s : State) (c : Fin 1024) (ix : Nat) (d : List Byte) (rest : List (Nat × List Byte)), s.cluState c.val = 0 ∧
      s.cluMoving c.val = false ∧ s.issueStopped c.val = false ∧ (s.ring (cluB c.val)).fetched = (ix, d) :: rest ∧
      ((s.ring (cluB c.val)).issued.filter (fun i => i.unit == queueOf (s.ring (cluB c.val)).issued d)).length < 4 ∧
      dOrder d = false ∧ checkDesc d = 0 ∧ dWaitOp d = 0 ∧ dOpcode d ≠ 0x02)
    ∧ (∃ (s : State) (c : Fin 1024) (ix : Nat) (d : List Byte) (rest : List (Nat × List Byte)), s.cluState c.val = 0 ∧
      s.cluMoving c.val = false ∧ s.issueStopped c.val = false ∧ (s.ring (cluB c.val)).fetched = (ix, d) :: rest ∧
      ((s.ring (cluB c.val)).issued.filter (fun i => i.unit == queueOf (s.ring (cluB c.val)).issued d)).length < 4 ∧
      dOrder d = false ∧ checkDesc d ≠ 0)
    ∧ (∃ (s : State) (c : Fin 1024) (ix p : Nat) (d : List Byte) (rest : List (Nat × List Byte)), s.cluState c.val = 0 ∧
      s.cluMoving c.val = false ∧ s.issueStopped c.val = false ∧ (s.ring (cluB c.val)).fetched = (ix, d) :: rest ∧
      ((s.ring (cluB c.val)).issued.filter (fun i => i.unit == queueOf (s.ring (cluB c.val)).issued d)).length < 4 ∧
      dOrder d = false ∧ checkDesc d = 0 ∧ dOpcode d ≠ 0x02 ∧ (dWaitOp d = 1 ∨ dWaitOp d = 2) ∧ s.waitXlat c.val ix
      (s.ring (cluB c.val)).epoch = some p ∧ Tab.get markClean s.flags.ecc (p / 64) = .clean ∧ s.flt.injections = [])
    ∧ (∃ (s : State) (c : Fin 1024) (ix : W16) (i : Issued) (nf : Nat), (s.ring (cluB c.val)).issued.find? (fun i =>
      i.ix == ix.toNat && i.result.isSome) = some i ∧ dSetOp i.desc = 0 ∧ i.result = some (0, nf) ∧ dCmpl i.desc =
      false)
    ∧ (∃ (s : State) (c : Fin 1024) (ix : W16) (i : Issued) (st nf : Nat), (s.ring (cluB c.val)).issued.find? (fun i =>
      i.ix == ix.toNat && i.result.isSome) = some i ∧ dSetOp i.desc = 0 ∧ i.result = some (st, nf) ∧ st ≠ 0 ∧ st ≠ 0x12
      ∧ s.cmplRoom (cluB c.val) = true)
    ∧ (∃ (s : State) (c : Fin 1024) (ix : W16) (i : Issued) (st nf : Nat), (s.ring (cluB c.val)).issued.find? (fun i =>
      i.ix == ix.toNat && i.result.isSome) = some i ∧ dSetOp i.desc = 0 ∧ i.result = some (st, nf) ∧ (st ≠ 0 ∨ dCmpl
      i.desc = true) ∧ s.cmplRoom (cluB c.val) = false) :=
  ⟨⟨(Sfetch (dsc [0x8000])), 3, (dsc [0x8000]), by decide +kernel⟩,
   ⟨((Sfetch (dsc [0x8000])).setLineMark 0x10000 .poisoned), 3, by decide +kernel⟩,
   ⟨(Sissue (dsc [0x8000])), 3, 0, (dsc [0x8000]), [], by decide +kernel⟩,
   ⟨(Sissue (dsc [0x80FF])), 3, 0, (dsc [0x80FF]), [], by decide +kernel⟩,
   ⟨(Sxl 1 100 false), 3, 0, 100, (dsc [0x8000, 9 + 2^24]), [], by decide +kernel⟩,
   ⟨(Sdone (dsc [0]) 0), 3, 0, ⟨0, 0, dsc [0], 0, true, some (0, 0)⟩, 0, by decide +kernel⟩,
   ⟨(Sdone (dsc [0]) 1), 3, 0, ⟨0, 0, dsc [0], 0, true, some (1, 0)⟩, 1, 0, by decide +kernel⟩,
   ⟨((Sdone (dsc [0]) 1).sf (CLU_STATUS 3) CLU_STATUS_CMPL_TAIL 64), 3, 0, ⟨0, 0, dsc [0], 0, true, some (1, 0)⟩, 1, 0,
     by decide +kernel⟩⟩

/-- States and operands that meet the hypotheses of UnitsRunTheirDescriptors, clause by clause. -/
theorem witness_UnitsRunTheirDescriptors :
    (∃ (s : State) (c : Fin 1024) (i : Issued), UnitNext c.val 0 0x00 i s)
    ∧ (∃ (s : State) (c : Fin 1024) (i : Issued), UnitNext c.val 1 0x10 i s ∧ (s.unitRows c.val (mmaA i.desc)).1 = false
      ∧ ((s.unitRows c.val (mmaA i.desc)).2.2.unitRows c.val (mmaB i.desc)).1 = false ∧ mmaAcc i.desc = false)
    ∧ (∃ (s : State) (c : Fin 1024) (i : Issued), UnitNext c.val 2 0x20 i s ∧ s.rivals c.val 2 = [] ∧ checkDesc i.desc =
      0 ∧ dYImm i.desc = true ∧ (s.unitRead c.val (vecX i.desc)).1 = false)
    ∧ (∃ (s : State) (c : Fin 1024) (i : Issued), UnitNext c.val 2 0x21 i s ∧ dYImm i.desc = true ∧ (s.unitRead c.val
      (vecX i.desc)).1 = false ∧ ((s.unitRead c.val (vecX i.desc)).2.2.unitRead c.val (vecZ i.desc)).1 = false)
    ∧ (∃ (s : State) (c : Fin 1024) (i : Issued), UnitNext c.val 2 0x22 i s ∧ s.rivals c.val 2 = [] ∧ checkDesc i.desc =
      0 ∧ (s.unitRead c.val (vecX i.desc)).1 = false)
    ∧ (∃ (s : State) (c : Fin 1024) (i : Issued), UnitNext c.val 2 0x22 i s ∧ (s.unitRead c.val (vecX i.desc)).1 = true)
    ∧ (∃ (s : State) (c : Fin 1024) (i : Issued), UnitNext c.val 2 0x23 i s ∧ (s.unitRead c.val (vecX i.desc)).1 =
      false)
    ∧ (∃ (s : State) (c : Fin 1024) (i : Issued), UnitNext c.val 2 0x24 i s ∧ (s.unitRead c.val (vecX i.desc)).1 =
      false)
    ∧ (∃ (s : State) (c : Fin 1024) (i : Issued), UnitNext c.val 2 0x25 i s)
    ∧ (∃ (s : State) (c : Fin 1024) (i : Issued), UnitNext c.val 3 0x28 i s ∧ (s.unitRead c.val (vecX i.desc)).1 =
      false)
    ∧ (∃ (s : State) (c : Fin 1024) (i : Issued), UnitNext c.val 2 0x30 i s ∧ cvtRin i.desc = false ∧ ((s.seedBank c.val
      1 (dImm i.desc)).unitRead c.val (spadOne (dOff i.desc 4) (storedBytes (dFmt i.desc 4) (cvtCount i.desc)))).1 =
      false) :=
  ⟨⟨(Srun 0 nopD), 3, (iss 0 nopD), by decide +kernel⟩,
   ⟨(Srun 1 mm), 3, (iss 1 mm), by decide +kernel⟩,
   ⟨(Srun 2 (vb 0x20 2)), 3, (iss 2 (vb 0x20 2)), by decide +kernel⟩,
   ⟨(Srun 2 (vb 0x21 0)), 3, (iss 2 (vb 0x21 0)), by decide +kernel⟩,
   ⟨(Srun 2 (vb 0x22 2)), 3, (iss 2 (vb 0x22 2)), by decide +kernel⟩,
   ⟨((Srun 2 (vb 0x22 2)).setWordMark (scratchAddr 3 0) .uncorrected), 3, (iss 2 (vb 0x22 2)), by decide +kernel⟩,
   ⟨(Srun 2 (vb 0x23 1)), 3, (iss 2 (vb 0x23 1)), by decide +kernel⟩,
   ⟨(Srun 2 (vb 0x24 0)), 3, (iss 2 (vb 0x24 0)), by decide +kernel⟩,
   ⟨(Srun 2 (vb 0x25 0)), 3, (iss 2 (vb 0x25 0)), by decide +kernel⟩,
   ⟨(Srun 3 (vb 0x28 4)), 3, (iss 3 (vb 0x28 4)), by decide +kernel⟩,
   ⟨(Srun 2 cv), 3, (iss 2 cv), by decide +kernel⟩⟩

/-- States and operands that meet the hypotheses of MoversRunTheirDescriptors, clause by clause. -/
theorem witness_MoversRunTheirDescriptors :
    (∃ (s : State) (c : Fin 1024) (m : Fin 2) (i : Issued), UnitNext c.val (4 + m.val) 0x40 i s ∧ s.rivals c.val (4 +
      m.val) = [] ∧ s.plainRows (dmaLen i.desc) [(dmaSrc i.desc, dmaDst i.desc)] ∧ rowsOverlap (dmaLen i.desc) [(dmaSrc
      i.desc, dmaDst i.desc)] = false)
    ∧ (∃ (s : State) (c : Fin 1024) (m : Fin 2) (i : Issued) (e : MemErr), UnitNext c.val (4 + m.val) 0x40 i s ∧
      s.accessErr (dmaSrc i.desc) (dmaLen i.desc) false = some e)
    ∧ (∃ (s : State) (c : Fin 1024) (m : Fin 2) (i : Issued) (k : Nat), UnitNext c.val (4 + m.val) 0x40 i s ∧ s.rivals
      c.val (4 + m.val) = [] ∧ k < dmaLen i.desc ∧ s.lineMark (dmaSrc i.desc + k) = .poisoned ∧ s.plainRows (dmaLen
      i.desc) [(dmaDst i.desc, dmaDst i.desc)] ∧ dmaSrc i.desc + dmaLen i.desc ≤ hbmBytes)
    ∧ (∃ (s : State) (c : Fin 1024) (m : Fin 2) (i : Issued), UnitNext c.val (4 + m.val) 0x41 i s ∧ s.rivals c.val (4 +
      m.val) = [] ∧ s.plainRows (dmaLen i.desc) (dmaCopyRows i.desc) ∧ rowsOverlap (dmaLen i.desc) (dmaCopyRows i.desc)
      = false ∧ dmaLen i.desc ≤ dmaDstStride i.desc)
    ∧ (∃ (s : State) (c : Fin 1024) (m : Fin 2) (i : Issued) (p : Nat × Nat) (rest : List (Nat × Nat)) (e : MemErr),
      UnitNext c.val (4 + m.val) 0x41 i s ∧ dmaCopyRows i.desc = p :: rest ∧ s.accessErr p.1 (dmaLen i.desc) false =
      some e)
    ∧ (∃ (s : State) (c : Fin 1024) (m : Fin 2) (i : Issued), UnitNext c.val (4 + m.val) 0x42 i s ∧ s.rivals c.val (4 +
      m.val) = [] ∧ s.listClean c.val i.desc ∧ s.plainRows (dmaLen i.desc) (s.listRows c.val false i.desc) ∧ rowsOverlap
      (dmaLen i.desc) (s.listRows c.val false i.desc) = false)
    ∧ (∃ (s : State) (c : Fin 1024) (m : Fin 2) (i : Issued), UnitNext c.val (4 + m.val) 0x42 i s ∧ s.listClean c.val
      i.desc ∧ rowsOverlap (dmaLen i.desc) (s.listRows c.val false i.desc) = true)
    ∧ (∃ (s : State) (c : Fin 1024) (m : Fin 2) (i : Issued) (p : Nat × Nat) (rest : List (Nat × Nat)) (e : MemErr),
      UnitNext c.val (4 + m.val) 0x42 i s ∧ s.listClean c.val i.desc ∧ rowsOverlap (dmaLen i.desc) (s.listRows c.val
      false i.desc) = false ∧ s.listRows c.val false i.desc = p :: rest ∧ s.accessErr p.1 (dmaLen i.desc) false = some
      e)
    ∧ (∃ (s : State) (c : Fin 1024) (m : Fin 2) (i : Issued), UnitNext c.val (4 + m.val) 0x42 i s ∧ (s.unitRead c.val
      (spadOne (dmaList i.desc) (8 * dmaRows i.desc))).1 = true)
    ∧ (∃ (s : State) (c : Fin 1024) (m : Fin 2) (i : Issued), UnitNext c.val (4 + m.val) 0x43 i s ∧ s.rivals c.val (4 +
      m.val) = [] ∧ s.listClean c.val i.desc ∧ s.plainRows (dmaLen i.desc) (s.listRows c.val true i.desc) ∧ rowsOverlap
      (dmaLen i.desc) (s.listRows c.val true i.desc) = false)
    ∧ (∃ (s : State) (c : Fin 1024) (m : Fin 2) (i : Issued), UnitNext c.val (4 + m.val) 0x43 i s ∧ s.listClean c.val
      i.desc ∧ rowsOverlap (dmaLen i.desc) (s.listRows c.val true i.desc) = true)
    ∧ (∃ (s : State) (c : Fin 1024) (m : Fin 2) (i : Issued) (p : Nat × Nat) (rest : List (Nat × Nat)) (e : MemErr),
      UnitNext c.val (4 + m.val) 0x43 i s ∧ s.listClean c.val i.desc ∧ rowsOverlap (dmaLen i.desc) (s.listRows c.val
      true i.desc) = false ∧ s.listRows c.val true i.desc = p :: rest ∧ s.accessErr p.1 (dmaLen i.desc) false = some e)
    ∧ (∃ (s : State) (c : Fin 1024) (m : Fin 2) (i : Issued), UnitNext c.val (4 + m.val) 0x43 i s ∧ (s.unitRead c.val
      (spadOne (dmaList i.desc) (8 * dmaRows i.desc))).1 = true)
    ∧ (∃ (s : State) (c : Fin 1024) (m : Fin 2) (i : Issued), UnitNext c.val (4 + m.val) 0x44 i s ∧ s.rivals c.val (4 +
      m.val) = [] ∧ s.plainRows (dmaLen i.desc) [(dmaDst i.desc, dmaDst i.desc)])
    ∧ (∃ (s : State) (c : Fin 1024) (m : Fin 2) (i : Issued) (e : MemErr), UnitNext c.val (4 + m.val) 0x44 i s ∧
      s.accessErr (dmaDst i.desc) (dmaLen i.desc) true = some e) :=
  ⟨⟨(Srun 4 (dm 0x40 0x1001 0x2005 100 0)), 3, 0, (iss 4 (dm 0x40 0x1001 0x2005 100 0)), by decide +kernel⟩,
   ⟨(Srun 4 (dm 0x40 0x1001 0x2005 0x10000 0) |>.setRing (cluB 3) { Ring.reset with issued := [iss 4 (dsc
     [0x40,0,0,0,0,0x8000,0,0,1])] }), 3, 0, (iss 4 (dsc [0x40,0,0,0,0,0x8000,0,0,1])), .address, by decide +kernel⟩,
   ⟨((Srun 4 (dm 0x40 0x1001 0x2005 100 0)).setLineMark 0x1040 .poisoned), 3, 0, (iss 4 (dm 0x40 0x1001 0x2005 100 0)),
     0x40, by decide +kernel⟩,
   ⟨(Srun 5 (dm 0x41 0x1001 0x2005 10 3)), 3, 1, (iss 5 (dm 0x41 0x1001 0x2005 10 3)), by decide +kernel⟩,
   ⟨(Srun 5 (dsc [0x41,0,0,0,0,0x8000,0,0,1,0,3])), 3, 1, (iss 5 (dsc [0x41,0,0,0,0,0x8000,0,0,1,0,3])),
     (0x800000000000, 0), [(0x800000000000, 0), (0x800000000000, 0)], .address, by decide +kernel⟩,
   ⟨(dlist 0x1001 (Srun 5 (dm 0x42 0x1001 0x2005 10 2))), 3, 1, (iss 5 (dm 0x42 0x1001 0x2005 10 2)), by decide +kernel⟩,
   ⟨(dlist 0x2000 (Srun 5 (dm 0x42 0x1001 0x2005 10 2))), 3, 1, (iss 5 (dm 0x42 0x1001 0x2005 10 2)), by decide +kernel⟩,
   ⟨(dlist 0x800000000000 (Srun 5 (dm 0x42 0x1001 0x2005 10 1))), 3, 1, (iss 5 (dm 0x42 0x1001 0x2005 10 1)),
     (0x800000000000, 0x2005), [], .address, by decide +kernel⟩,
   ⟨((Srun 5 (dm 0x42 0x1001 0x2005 10 1)).setWordMark (scratchAddr 3 0x40) .poisoned), 3, 1, (iss 5 (dm 0x42 0x1001
     0x2005 10 1)), by decide +kernel⟩,
   ⟨(dlist 0x3001 (Srun 5 (dm 0x43 0x1000 0x2005 10 2))), 3, 1, (iss 5 (dm 0x43 0x1000 0x2005 10 2)), by decide +kernel⟩,
   ⟨(dlist 0x1003 (Srun 5 (dm 0x43 0x1000 0x2005 10 2))), 3, 1, (iss 5 (dm 0x43 0x1000 0x2005 10 2)), by decide +kernel⟩,
   ⟨(dlist 0x3001 (Srun 5 (dsc [0x43,0,0,0,0,0x8000,0,0,1,0,1,0x40]))), 3, 1, (iss 5 (dsc
     [0x43,0,0,0,0,0x8000,0,0,1,0,1,0x40])), (0x800000000000, 0x3001), [], .address, by decide +kernel⟩,
   ⟨((Srun 5 (dm 0x43 0x1001 0x2005 10 1)).setWordMark (scratchAddr 3 0x40) .poisoned), 3, 1, (iss 5 (dm 0x43 0x1001
     0x2005 10 1)), by decide +kernel⟩,
   ⟨(Srun 5 (dm 0x44 0x1001 0x2005 100 1)), 3, 1, (iss 5 (dm 0x44 0x1001 0x2005 100 1)), by decide +kernel⟩,
   ⟨(Srun 5 (dsc [0x44,0,0,0,5,0,0,0x8000,9])), 3, 1, (iss 5 (dsc [0x44,0,0,0,5,0,0,0x8000,9])), .address, by
     decide +kernel⟩⟩

end C03

namespace C04

def Sf := S0.putFlag 100 true false
def dWait (op : Nat) : List Byte := dsc [0x10, 9 + op * 2^24]
def Shz (op : Nat) : State := ((((Sclear.sf FLG_CTL FLG_CTL_EN 1).putBytes 0 (leBytes 8 0x1001 ++ leBytes 8 2)).putBytes 0x1000 (leBytes 4 0xE0000123)).setRing (cluB 3) { Ring.reset with tail := 1, fetchIx := 1, fetched := [(0, dWait op)] }).sf (CLU_PSTAT 3) CLU_PSTAT_STATE 1
def Sx := (((S0.sf FLG_CTL FLG_CTL_EN 1).putBytes 0x10 (leBytes 8 0x1001 ++ leBytes 8 2)).putBytes 0x1004 (leBytes 4 0xE0000123))
def Sinv (w : Option Nat) := let s := (Sx.sf FLG_INVAL FLG_INVAL_BUSY 1).setXlatCache 2 [⟨1, 1, true, true, false, 5⟩, ⟨2, 1, true, true, false, 5⟩]; { s with flags := { s.flags with inval := some w } }
def barD := dsc [2, 0,0,0, 9]
def Sbar := (Srun 0 barD).wr (BAR_CFG 9) 0x80000001#32
def Sclose := ((Sbar.setBarEntries 9 [⟨3, some 0, 0, 0⟩]).sf (BAR_STATE 9) BAR_STATE_COUNT0 1).setRing (cluB 3) { Ring.reset with issued := [⟨0, 0, barD, 0, true, none⟩] }
def Sheld (c : Bool) (v : Bool) : State := let s := S0.putFlag 100 v false; { s with flags := { s.flags with waiters := [⟨7, 100, c, 0⟩] } }

/-- States and operands that meet the hypotheses of FlagOperationsCombineByTheirRule, clause by clause. -/
theorem witness_FlagOperationsCombineByTheirRule :
    (∃ (s : State) (p : Fin 262144) (m : FlagMeet), Tab.get markClean s.flags.ecc (p.val / 64) = .clean ∧
      s.flt.injections = [] ∧ m.takes = [] ∧ (∀ w ∈ s.flags.waiters, w.pflag = p.val → w.consume = false))
    ∧ (∃ (s : State) (p : Fin 262144) (w : FlagWaiter), Tab.get markClean s.flags.ecc (p.val / 64) = .clean ∧
      s.flt.injections = [] ∧ s.flagVal p.val = false ∧ s.flags.waiters = [w] ∧ w.pflag = p.val ∧ w.consume = true)
    ∧ (∃ (s : State) (p : Fin 262144), Tab.get markClean s.flags.ecc (p.val / 64) = .clean ∧ s.flt.injections = [])
    ∧ (∃ (s : State) (p : Fin 262144) (who : W16), Tab.get markClean s.flags.ecc (p.val / 64) = .clean ∧
      s.flt.injections = [] ∧ s.flagVal p.val = true ∧ (∀ w ∈ s.flags.waiters, w.pflag ≠ p.val))
    ∧ (∃ (s : State) (p : Fin 262144) (who : W16), Tab.get markClean s.flags.ecc (p.val / 64) = .clean ∧
      s.flt.injections = [] ∧ s.flagVal p.val = false)
    ∧ (∃ (s : State) (p : Fin 262144) (who : W16) (m : FlagMeet), Tab.get markClean s.flags.ecc (p.val / 64) = .clean ∧
      s.flt.injections = [] ∧ s.flagVal p.val = true ∧ m.takes = [] ∧ m.waits = [] ∧ m.clearOver = false ∧ (∀ w ∈
      s.flags.waiters, w.pflag ≠ p.val))
    ∧ (∃ (s : State) (p : Fin 262144) (who rival : W16) (gap : Nat), Tab.get markClean s.flags.ecc (p.val / 64) = .clean
      ∧ s.flt.injections = [] ∧ s.flagVal p.val = true ∧ who ≠ rival)
    ∧ (∃ (s : State) (p : Fin 262144) (m : FlagMeet) (c : Fin 1024) (ix : Nat) (d : List Byte) (rest : List (Nat × List
      Byte)), Tab.get markClean s.flags.ecc (p.val / 64) = .clean ∧ s.flt.injections = [] ∧ m.takes = [] ∧ (∀ w ∈
      s.flags.waiters, w.pflag = p.val → w.consume = false) ∧ s.cluState c = 1 ∧ s.issueStopped c = false ∧ (s.ring
      (cluB c)).issued = [] ∧ (s.ring (cluB c)).fetched = (ix, d) :: rest ∧ (dWaitOp d = 1 ∨ dWaitOp d = 2) ∧
      (s.waitXlat c ix (s.ring (cluB c)).epoch <|> (s.translate (dieOf c) (s.fctx (cluB c)) (dWaitFlag d) (waitNeed
      d)).1) = some p.val)
    ∧ (∃ (s : State) (p : Fin 262144), Tab.get markClean s.flags.ecc (p.val / 64) = .clean ∧ s.flt.injections = [] ∧ (∀
      w ∈ s.flags.waiters, w.pflag ≠ p.val)) :=
  ⟨⟨S0, 100, ⟨1, true, false, [5], [], 0⟩, by decide +kernel⟩,
   ⟨(Sheld true false), 100, ⟨7, 100, true, 0⟩, by decide +kernel⟩,
   ⟨Sf, 100, by decide +kernel⟩,
   ⟨Sf, 100, 7, by decide +kernel⟩,
   ⟨S0, 100, 7, by decide +kernel⟩,
   ⟨Sf, 100, 7, ⟨2, true, false, [], [], 0⟩, by decide +kernel⟩,
   ⟨Sf, 100, 7, 8, 2, by decide +kernel⟩,
   ⟨(Shz 1), (0x123 * 64 + 9), ⟨0, false, false, [], [], 0⟩, 3, 0, (dWait 1), [], by decide +kernel⟩,
   ⟨(S0.putFlag 100 true true), 100, by decide +kernel⟩⟩

/-- States and operands that meet the hypotheses of FailedTranslationPerformsNothing, clause by clause. -/
theorem witness_FailedTranslationPerformsNothing :
    (∃ (s : State) (k : Fin 9) (ctx : BitVec 12) (v : BitVec 24) (fab : Bool) (m : FlagMeet), (s.translate k.val
      ctx.toNat v.toNat ⟨false, true, fab⟩).1 = none)
    ∧ (∃ (s : State) (k : Fin 9) (ctx : BitVec 12) (g : BitVec 18) (x : FlagXlat), (s.xlatCache k.val).find? (fun x =>
      x.ctx == ctx.toNat && x.vgroup == g.toNat) = none ∧ (s.fetchXlat ctx.toNat g.toNat).1 = some x)
    ∧ (∃ (s : State) (k : Fin 9) (ctx : BitVec 12) (g : BitVec 18), (s.xlatCache k.val).find? (fun x => x.ctx ==
      ctx.toNat && x.vgroup == g.toNat) = none ∧ (s.fetchXlat ctx.toNat g.toNat).1 = none) :=
  ⟨⟨S0, 2, 1, 5, false, ⟨0, false, false, [], [], 0⟩, by decide +kernel⟩,
   ⟨Sx, 2, 1, 1, ⟨1, 1, true, true, false, 0x123⟩, by decide +kernel⟩,
   ⟨Sx, 2, 1, 2, by decide +kernel⟩⟩

/-- States and operands that meet the hypotheses of FlagRegistersBehave, clause by clause. -/
theorem witness_FlagRegistersBehave :
    (∃ (s : State) (q : Requester) (v : W32), coreWrites q = true ∧ s.gf FLG_CTL FLG_CTL_EN = 0 ∧ s.gf FLG_CTX_BASE
      FLG_CTX_BASE_BASE * 2 ^ 16 + 65536 ≤ hbmBytes)
    ∧ (∃ (s : State) (q : Requester) (v : W32), coreWrites q = true ∧ s.gf FLG_CTL FLG_CTL_EN = 0 ∧ hbmBytes < s.gf
      FLG_CTX_BASE FLG_CTX_BASE_BASE * 2 ^ 16 + 65536)
    ∧ (∃ (s : State) (q : Requester) (v : W32), coreWrites q = true ∧ anyBarEn s = false ∧ anyCmdEn s = false)
    ∧ (∃ (s : State) (q : Requester) (v : W32), anyBarEn s = true ∨ anyCmdEn s = true)
    ∧ (∃ (s : State) (q : Requester) (v : W32), coreWrites q = true ∧ s.gf FLG_INVAL FLG_INVAL_BUSY = 0)
    ∧ (∃ (s : State) (q : Requester) (v : W32), s.gf FLG_INVAL FLG_INVAL_BUSY = 1)
    ∧ (∃ (s : State) (c : Nat), s.flags.inval = some (some c))
    ∧ (∃ (s : State), s.flags.inval = some none)
    ∧ (∃ (s : State) (q : Requester) (p : BitVec 18), coreWrites q = true ∧ Tab.get markClean s.flags.ecc (p.toNat / 64)
      = .clean ∧ s.flt.injections = [] ∧ (∀ w ∈ s.flags.waiters, w.pflag = p.toNat → w.consume = false))
    ∧ (∃ (s : State) (q : Requester) (p : BitVec 18), coreWrites q = true ∧ Tab.get markClean s.flags.ecc (p.toNat / 64)
      = .clean ∧ s.flt.injections = []) :=
  ⟨⟨S0, q0, 0, by decide +kernel⟩,
   ⟨(S0.wr (FLG_CTX_BASE + 4) 0xFFFFF#32), q0, 0, by decide +kernel⟩,
   ⟨Sx, q0, 0, by decide +kernel⟩,
   ⟨(Sx.sf (CLU_CTL 3) CLU_CTL_CMD_EN 1), q0, 0, by decide +kernel⟩,
   ⟨Sx, q0, 0x12, by decide +kernel⟩,
   ⟨(Sx.sf FLG_INVAL FLG_INVAL_BUSY 1), q0, 0x12, by decide +kernel⟩,
   ⟨(Sinv (some 1)), 1, by decide +kernel⟩,
   ⟨(Sinv none), by decide +kernel⟩,
   ⟨Sf, q0, 100, by decide +kernel⟩,
   ⟨Sf, q0, 100, by decide +kernel⟩⟩

/-- States and operands that meet the hypotheses of BarrierRoundsCloseAtExpect, clause by clause. -/
theorem witness_BarrierRoundsCloseAtExpect :
    (∃ (s : State) (c : Fin 1024) (i : Issued), UnitNext c.val 0 0x02 i s ∧ s.barAssigned (barNo i.desc) (s.fctx (cluB
      c.val)) = true)
    ∧ (∃ (s : State) (c : Fin 1024) (i : Issued), UnitNext c.val 0 0x02 i s ∧ s.barAssigned (barNo i.desc) (s.fctx (cluB
      c.val)) = false)
    ∧ (∃ (s : State) (b : Fin 4096) (gap who : Nat), s.closeDue b.val = false ∧ firstWaiting (s.barEntries b.val) [] =
      [(who, 1)] ∧ (s.barEntries b.val).all (fun e => !(e.who == who && e.parity.isSome)) = true ∧ s.barCount b.val
      (s.barParity b.val) < 2047)
    ∧ (∃ (s : State) (b : Fin 4096) (gap who : Nat), s.closeDue b.val = false ∧ firstWaiting (s.barEntries b.val) [] =
      [(who, 1)] ∧ (s.barEntries b.val).any (fun e => e.who == who && e.parity.isSome) = true ∧ s.barCount b.val (1 -
      s.barParity b.val) < 2047)
    ∧ (∃ (s : State) (b : Fin 4096) (gap who : Nat), s.closeDue b.val = true ∧ s.bit (BAR_CLOSE b.val)
      BAR_CLOSE_CLOSE_EN = false ∧ firstWaiting (s.barEntries b.val) [] = [(who, 1)] ∧ (∀ e ∈ s.barEntries b.val, e.who
      = who → e.parity ≠ some (1 - s.barParity b.val)) ∧ s.barCount b.val (1 - s.barParity b.val) < 2047)
    ∧ (∃ (s : State) (b : Fin 4096), s.bit (BAR_CFG b.val) BAR_CFG_EN = true ∧ s.gf (BAR_CFG b.val) BAR_CFG_EXPECT ≠ 0 ∧
      s.barCount b.val (s.barParity b.val) = s.gf (BAR_CFG b.val) BAR_CFG_EXPECT ∧ s.bit (BAR_CLOSE b.val)
      BAR_CLOSE_CLOSE_EN = false)
    ∧ (∃ (s : State) (b : Fin 4096), s.bit (BAR_CFG b.val) BAR_CFG_EN = true ∧ s.barCount b.val (s.barParity b.val) ≠
      s.gf (BAR_CFG b.val) BAR_CFG_EXPECT)
    ∧ (∃ (s : State) (q : Requester) (b : Fin 4096) (v : W32), coreWrites q = true ∧ s.bit (BAR_CFG b.val) BAR_CFG_EN =
      false ∧ s.gf FLG_CTL FLG_CTL_EN = 1 ∧ v.toNat % 2048 ≠ 0 ∧ s.bit (BAR_CLOSE b.val) BAR_CLOSE_CLOSE_EN = false)
    ∧ (∃ (s : State) (q : Requester) (b : Fin 4096) (v : W32), coreWrites q = true ∧ s.bit (BAR_CFG b.val) BAR_CFG_EN =
      false ∧ s.gf FLG_CTL FLG_CTL_EN = 0)
    ∧ (∃ (s : State) (q : Requester) (b : Fin 4096) (v : W32), coreWrites q = true ∧ s.bit (BAR_CFG b.val) BAR_CFG_EN =
      true) :=
  ⟨⟨Sbar, 3, (iss 0 barD), by decide +kernel⟩,
   ⟨(Srun 0 barD), 3, (iss 0 barD), by decide +kernel⟩,
   ⟨(Sbar.setBarEntries 9 [⟨3, none, 0, 0⟩]), 9, 2, 3, by decide +kernel⟩,
   ⟨(Sbar.setBarEntries 9 [⟨3, some 0, 0, 0⟩, ⟨3, none, 0, 1⟩]), 9, 2, 3, by decide +kernel⟩,
   ⟨(Sclose.setBarEntries 9 [⟨3, some 0, 0, 0⟩, ⟨3, none, 0, 1⟩]), 9, 2, 3, by decide +kernel⟩,
   ⟨Sclose, 9, by decide +kernel⟩,
   ⟨Sbar, 9, by decide +kernel⟩,
   ⟨Sx, q0, 9, 0x00250005, by decide +kernel⟩,
   ⟨S0, q0, 9, 0x00250005, by decide +kernel⟩,
   ⟨Sclose, q0, 9, 0x00250005, by decide +kernel⟩⟩

end C04

namespace C05

def SC1 := S0.sf COL_CTL COL_CTL_EN 1
def recB : List Byte := dsc [0x2001, 2, 0x4000, 0, 0x100000, 0, 64, 1, 0x77]
def gB : ColGroup := ⟨recB, [0, 0x40000005], none, [], none, none⟩
def opD (op fin wire : Nat) : List Byte := dsc [op + 2^16*9, 0, 0, 0, 0x1000, 0, 0x2000, 0, 0x8000, 0, 16, fin + wire*16, 0, 55, 0x9000]
def opB (op : Nat) : ColOp := ⟨3, 0, 0, opD op 0 0, 0, [], [], [], [], [], 0, true, 0, none⟩
def SG := (SC1.setGrp 9 gB)
def SGa (o : ColOp) := (SC1.setGrp 9 { gB with op := some o, seq := some 55, bound := some 3 }).setRing (colQ 3) { Ring.reset with issued := [⟨0, 0, o.desc, 0, true, none⟩] }
def ld (s : State) (x : Nat × Nat) : State := (s.sf COL_GRP_LOAD COL_GRP_LOAD_BUSY 1 |> fun s => { s with col := { s.col with loading := some x } })
def SQ := ((SC1.wr (colQ 3) 0x10006#32).wr (rCmpl (colQ 3)) 0x20006#32).sf (rCtl (colQ 3)) CLU_CTL_CMPL_EN 1
def SQon := SQ.sf (rCtl (colQ 3)) CLU_CTL_CMD_EN 1
def SQd (d : List Byte) (s : State) := (((s.wr (colQ 3) 0x10006#32).wr (rCmpl (colQ 3)) 0x20006#32).wr (rCtl (colQ 3)) 3#32 |>.putBytes 0x10000 d).setRing (colQ 3) { Ring.reset with tail := 1 }
def SQdf (d : List Byte) (s : State) := SQd d s
def flagsOn (s : State) : State := (((s.sf FLG_CTL FLG_CTL_EN 1).putBytes 0x0 (leBytes 8 0x40000001 ++ leBytes 8 2)).putBytes 0x40000000 (leBytes 4 0xE0000123))
def cn5 (s : State) : State := s.setCn 5 { s.cn 5 with state := csReady }
def opF (op : Nat) : ColOp := { opB op with consumed := [0,1,2,3,4,5,6,7], done := [(0,1),(1,1)], arrived := [(0,1),(1,1)] }
def Stime (s : State) : State := { (s.sf TIME_STATUS TIME_STATUS_QUALIFIED 1) with time := { s.time with acc := 25000 * 2^32 }, col := { s.col with slotActive := some ⟨[0xFFFFFFFF + 2^44 + 2^45], 0⟩ } }
def gS : ColGroup := { gB with op := some (opB 2), readys := [(1, 55)] }
def opS : ColOp := { opB 1 with consumed := [1] }
def gS2 : ColGroup := { gB with op := some opS, readys := [(1, 55)] }
def opS4 : ColOp := { opB 4 with consumed := [1, 3], desc := (opD 4 0 0).take 20 ++ leBytes 4 0x70 ++ (opD 4 0 0).drop 24 }
def gS4 : ColGroup := { gB with op := some opS4, readys := [(1, 55)] }
def SS4 : State := Stime (((cn5 ((SC1.setGrp 9 gS4).setRing (colQ 3) { Ring.reset with issued := [⟨0, 0, opS4.desc, 0, true, none⟩] })).putBytes 0x9000 (leBytes 4 1 ++ leBytes 2 1 ++ leBytes 2 1 ++ leBytes 8 0 ++ leBytes 4 1)))
def hdr (k : Nat) := colHeader k 1 0 0x77 1 55
def inb (k : Nat) : Inbound := ⟨1, 5, 8, some (hdr k), 64, [(0, [1,2,3])], false, true, [(some (hdr k), false)]⟩
def Sin (k : Nat) (o : ColOp) : State := let s := cn5 (SGa o); { s with trn := { s.trn with inbox := [inb k] } }
def gA (o : ColOp) : ColGroup := { gB with op := some o, seq := some 55, bound := some 3 }
def inT (s : State) : State := (s.takeInbox 5 8).2
def inP (s : State) (b : Inbound) : State := ((inT s).dataParts 5 (b.parts.zip b.heads)).2
def inb' : Inbound := { inb 0 with complete := false }
def Sin' : State := let s := Sin 0 (opB 1); { s with trn := { s.trn with inbox := [inb'] } }
def Sdi : State := let s := SC1; { s with trn := { s.trn with inbox := [inb 0] } }
def Slate (s : State) : State := { s with time := { s.time with acc := 2000000 * 2^32 } }
def opA : ColOp := { opF 1 with abort := some (0x24, 0) }
def Sdn (st : Nat) : State := (SQ.setGrp 9 gB).setRing (colQ 3) { Ring.reset with tail := 1, fetchIx := 1, issued := [⟨0, 0, opD 1 0 0, 0, true, some (st, 0)⟩] }
def sl1 (s : State) (v : W32) : State := ((s.sf COL_SLOT_CTL COL_SLOT_CTL_NSLOTS (v.toNat % 8192)).load 0x3000 (8 * (v.toNat % 8192))).2.2
def sla : State := (SC1.wr COL_SLOT_ADMIN 0x3000).wr COL_SLOT_BASETIME 20000
def pnd (s : State) (l : SlotList) : State := { s.sf COL_SLOT_STATUS COL_SLOT_STATUS_PENDING 1 with col := { s.col with slotPending := some l } }
def rq : SynReq := ⟨.mailbox 0, 3, 2, 7, 0xFFFF, false, none⟩
/-- firmware runs, the device is enabled and a session is open -/
def synOn (s : State) : State := ((s.sf DEV_STATUS DEV_STATUS_STAGE 6).sf DEV_ENABLE DEV_ENABLE_EN 1).setMb 0 { Mailbox.reset with session := some ⟨5, false, 0, none⟩ }
def rv : Vector Byte 64 := Vector.ofFn (fun i => recB[i.val]?.getD 0)
def Scr : State := cn5 (synOn SC1)
def cr1 (ms : List W32) : State := (Scr.poke ((Scr.gf COL_GRP_BASE COL_GRP_BASE_BASE <<< 12) + 9 * 64) rv.toList).poke (recMembers rv.toList)
      (ms.flatMap (fun m => leBytes 4 m.toNat))
def Srb : State := cn5 ((synOn SG).putBytes (9*64) recB |>.putBytes 0x4000 (leBytes 4 0 ++ leBytes 4 0x40000006))
def rb1 (s : State) (rank : Byte) (entry : W32) (epoch : W16) : State :=
  (((s.zeroResiduals (s.grpRecord 9)).poke ((s.gf COL_GRP_BASE COL_GRP_BASE_BASE <<< 12) + 9 * 64 + 28)
      (leBytes 2 epoch.toNat)).poke (recMembers (s.grpRecord 9).rec_ + 4 * rank.toNat) (leBytes 4 entry.toNat)).dropGrp 9

/-- States and operands that meet the hypotheses of CollectiveQueuesAndGroupLoads, clause by clause. -/
theorem witness_CollectiveQueuesAndGroupLoads :
    (∃ (s : State) (q : Requester) (v : W32), coreWrites q = true ∧ s.bit COL_CTL COL_CTL_EN = false ∧ s.gf COL_GRP_BASE
      COL_GRP_BASE_BASE * 2 ^ 12 + 4096 * 64 ≤ hbmBytes)
    ∧ (∃ (s : State) (q : Requester) (v : W32), coreWrites q = true ∧ s.bit COL_CTL COL_CTL_EN = false ∧ hbmBytes < s.gf
      COL_GRP_BASE COL_GRP_BASE_BASE * 2 ^ 12 + 4096 * 64)
    ∧ (∃ (s : State) (q : Requester) (v : W32), coreWrites q = true ∧ (∀ n, n < 32 → s.cmdEn (colQ n) = false))
    ∧ (∃ (s : State) (q : Requester) (v : W32) (n : Fin 32), s.cmdEn (colQ n.val) = true)
    ∧ (∃ (s : State) (q : Requester) (v : W32), coreWrites q = true ∧ s.bit COL_GRP_LOAD COL_GRP_LOAD_BUSY = false ∧
      s.blockDown 8 = false)
    ∧ (∃ (s : State) (q : Requester) (v : W32), s.bit COL_GRP_LOAD COL_GRP_LOAD_BUSY = true)
    ∧ (∃ (s : State) (op g : Nat), s.col.loading = some (op, g) ∧ s.grpActive g = true)
    ∧ (∃ (s : State) (g : Nat), s.col.loading = some (1, g) ∧ s.grpActive g = false)
    ∧ (∃ (s : State) (g : Nat) (v : ColGroup), s.col.loading = some (2, g) ∧ s.grp g = some v ∧ v.op = none)
    ∧ (∃ (s : State) (q : Requester) (n : Fin 32) (v : W32), coreWrites q = true ∧ ixDiff (v.toNat % 2 ^ 16) (s.cmdHead
      (colQ n.val)) ≤ 2 ^ s.cmdLog (colQ n.val))
    ∧ (∃ (s : State) (q : Requester) (n : Fin 32) (v : W32), coreWrites q = true ∧ 2 ^ s.cmdLog (colQ n.val) < ixDiff
      (v.toNat % 2 ^ 16) (s.cmdHead (colQ n.val)))
    ∧ (∃ (s : State) (q : Requester) (n : Fin 32) (v : W32), coreWrites q = true ∧ s.cmdEn (colQ n.val) = false)
    ∧ (∃ (s : State) (q : Requester) (n : Fin 32) (hi : Bool) (v : W32), s.cmdEn (colQ n.val) = true)
    ∧ (∃ (s : State) (q : Requester) (n : Fin 32) (v : W32), coreWrites q = true ∧ s.cmplEn (colQ n.val) = false)
    ∧ (∃ (s : State) (q : Requester) (n : Fin 32) (v : W32), coreWrites q = true ∧ s.cmdEn (colQ n.val) = false ∧
      s.cmplEn (colQ n.val) = true ∧ bitAt v.toNat 1 = true ∧ s.cmdEnCheck (colQ n.val) true = none ∧ s.colEn = true)
    ∧ (∃ (s : State) (q : Requester) (n : Fin 32) (v : W32), coreWrites q = true ∧ s.cmdEn (colQ n.val) = false ∧
      s.cmplEn (colQ n.val) = true ∧ bitAt v.toNat 1 = true ∧ s.cmdEnCheck (colQ n.val) true = none ∧ s.colEn = false)
    ∧ (∃ (s : State) (q : Requester) (n : Fin 32) (v : W32), coreWrites q = true ∧ s.cmdEn (colQ n.val) = true ∧ bitAt
      v.toNat 1 = s.cmplEn (colQ n.val))
    ∧ (∃ (s : State) (q : Requester) (n : Fin 32) (v : W32), coreWrites q = true ∧ s.cmplEn (colQ n.val) = false ∧
      s.cmdEn (colQ n.val) = false ∧ bitAt v.toNat 0 = false ∧ s.cmplEnCheck (colQ n.val) = none)
    ∧ (∃ (s : State) (q : Requester) (n : Fin 32) (v : W32), coreWrites q = true) :=
  ⟨⟨S0, q0, 0, by decide +kernel⟩,
   ⟨(S0.wr (COL_GRP_BASE + 4) 0xFFFFF#32), q0, 0, by decide +kernel⟩,
   ⟨SC1, q0, 0, by decide +kernel⟩,
   ⟨(SC1.sf (rCtl (colQ 3)) CLU_CTL_CMD_EN 1), q0, 0, 3, by decide +kernel⟩,
   ⟨SC1, q0, 9, by decide +kernel⟩,
   ⟨(SC1.sf COL_GRP_LOAD COL_GRP_LOAD_BUSY 1), q0, 9, by decide +kernel⟩,
   ⟨(ld (SGa (opB 1)) (0, 9)), 0, 9, by decide +kernel⟩,
   ⟨(ld SG (1, 9)), 9, by decide +kernel⟩,
   ⟨((ld SG (2, 9)).putBytes 0x100100 [1,2,3]), 9, gB, by decide +kernel⟩,
   ⟨SQon, q0, 3, 5, by decide +kernel⟩,
   ⟨SQon, q0, 3, 500, by decide +kernel⟩,
   ⟨SQ, q0, 3, 0x31007, by decide +kernel⟩,
   ⟨SQon, q0, 3, true, 0x31007, by decide +kernel⟩,
   ⟨SC1, q0, 3, 0x31007, by decide +kernel⟩,
   ⟨SQ, q0, 3, 0x250002, by decide +kernel⟩,
   ⟨(SQ.sf COL_CTL COL_CTL_EN 0), q0, 3, 0x250002, by decide +kernel⟩,
   ⟨SQon, q0, 3, 0x250002, by decide +kernel⟩,
   ⟨(SQ.sf (rCtl (colQ 3)) CLU_CTL_CMPL_EN 0), q0, 3, 0x250002, by decide +kernel⟩,
   ⟨SQon, q0, 3, 0x250002, by decide +kernel⟩⟩

/-- States and operands that meet the hypotheses of CollectiveOperationsRun, clause by clause. -/
theorem witness_CollectiveOperationsRun :
    (∃ (s : State) (n : Fin 32) (d : List Byte), s.cmdEn (colQ n.val) = true ∧ s.bit (COL_QERR n.val) COL_QERR_HALTED =
      false ∧ s.colEn = true ∧ (s.ring (colQ n.val)).fetchIx ≠ (s.ring (colQ n.val)).tail ∧ (s.ring (colQ n.val)).issued
      = [] ∧ s.colActiveAll < 256 ∧ (s.fetchEntry (colQ n.val) (s.ring (colQ n.val)).fetchIx).1 = some d ∧ dWaitOp d = 0
      ∧ dSetOp d < 2 ∧ cBarEn d = false ∧ cOp d = 0)
    ∧ (∃ (s : State) (n : Fin 32) (d : List Byte), s.cmdEn (colQ n.val) = true ∧ s.bit (COL_QERR n.val) COL_QERR_HALTED
      = false ∧ s.colEn = true ∧ (s.ring (colQ n.val)).fetchIx ≠ (s.ring (colQ n.val)).tail ∧ (s.ring (colQ
      n.val)).issued = [] ∧ s.colActiveAll < 256 ∧ (s.fetchEntry (colQ n.val) (s.ring (colQ n.val)).fetchIx).1 = some d
      ∧ dWaitOp d = 0 ∧ dSetOp d < 2 ∧ cBarEn d = false ∧ 1 ≤ cOp d ∧ cOp d ≤ 5 ∧ s.grp (cGroup d) = none)
    ∧ (∃ (s : State) (n : Fin 32) (d : List Byte) (grp : ColGroup), s.cmdEn (colQ n.val) = true ∧ s.bit (COL_QERR n.val)
      COL_QERR_HALTED = false ∧ s.colEn = true ∧ (s.ring (colQ n.val)).fetchIx ≠ (s.ring (colQ n.val)).tail ∧ (s.ring
      (colQ n.val)).issued = [] ∧ s.colActiveAll < 256 ∧ (s.fetchEntry (colQ n.val) (s.ring (colQ n.val)).fetchIx).1 =
      some d ∧ dWaitOp d = 0 ∧ cBarEn d = false ∧ 1 ≤ cOp d ∧ cOp d ≤ 5 ∧ s.grp (cGroup d) = some grp ∧ grp.op = none ∧
      (((s.fetchEntry (colQ n.val) (s.ring (colQ n.val)).fetchIx).2.colBind n.val d).colCheck n.val d).1 = none)
    ∧ (∃ (s : State) (n : Fin 32) (d : Issued), (s.ring (colQ n.val)).issued = [d] ∧ cOp d.desc = 0 ∧ d.result = none)
    ∧ (∃ (s : State) (g : BitVec 12) (grp : ColGroup) (o : ColOp), s.grp g.toNat = some grp ∧ grp.op = some o ∧ cOp
      o.desc = 1 ∧ s.opEnded o = false ∧ grp.hub = false ∧ o.abort = none ∧ s.trn.results = [] ∧ (∀ r ∈ grp.others,
      (s.cn (memId (grp.member r))).state = csReady) ∧ opFinished grp (s.consumeSet grp o (toConsume grp o.desc)).1 =
      true)
    ∧ (∃ (s : State) (g : BitVec 12) (grp : ColGroup) (o : ColOp), s.grp g.toNat = some grp ∧ grp.op = some o ∧ cOp
      o.desc = 2 ∧ s.opEnded o = false ∧ grp.hub = false ∧ o.abort = none ∧ s.trn.results = [] ∧ (∀ r ∈ grp.others,
      (s.cn (memId (grp.member r))).state = csReady) ∧ opFinished grp (s.consumeSet grp o (toConsume grp o.desc)).1 =
      true)
    ∧ (∃ (s : State) (g : BitVec 12) (grp : ColGroup) (o : ColOp), s.grp g.toNat = some grp ∧ grp.op = some o ∧ cOp
      o.desc = 3 ∧ s.opEnded o = false ∧ grp.hub = false ∧ o.abort = none ∧ s.trn.results = [] ∧ (∀ r ∈ grp.others,
      (s.cn (memId (grp.member r))).state = csReady) ∧ opFinished grp (s.consumeSet grp o (toConsume grp o.desc)).1 =
      true)
    ∧ (∃ (s : State) (g : BitVec 12) (grp : ColGroup) (o : ColOp), s.grp g.toNat = some grp ∧ grp.op = some o ∧ cOp
      o.desc = 4 ∧ s.opEnded o = false ∧ grp.hub = false ∧ o.abort = none ∧ s.trn.results = [] ∧ o.localDone = true ∧ (∀
      r ∈ grp.others, (s.cn (memId (grp.member r))).state = csReady) ∧ opFinished grp (s.consumeSet grp o (toConsume grp
      o.desc)).1 = true)
    ∧ (∃ (s : State) (g : BitVec 12) (grp : ColGroup) (o : ColOp), s.grp g.toNat = some grp ∧ grp.op = some o ∧ cOp
      o.desc = 5 ∧ s.opEnded o = false ∧ grp.hub = false ∧ o.abort = none ∧ s.trn.results = [] ∧ o.localDone = true ∧ (∀
      r ∈ grp.others, (s.cn (memId (grp.member r))).state = csReady) ∧ opFinished grp (s.consumeSet grp o (toConsume grp
      o.desc)).1 = true)
    ∧ (∃ (s : State) (g : BitVec 12) (grp : ColGroup) (o : ColOp) (r : Nat), s.grp g.toNat = some grp ∧ grp.op = some o
      ∧ cOp o.desc = 1 ∧ s.opEnded o = false ∧ grp.hub = false ∧ o.abort = none ∧ r ∈ grp.others ∧ (s.cn (memId
      (grp.member r))).state ≠ csReady ∧ s.trn.results = [])
    ∧ (∃ (s : State) (g : BitVec 12) (grp : ColGroup) (o : ColOp) (port : Fin 32) (ph r loc len dropped : Nat) (rows :
      List Byte) (poison : Bool) (others : List (Fin 32 × Nat)) (gap : Nat), s.grp g.toNat = some grp ∧ grp.op = some o
      ∧ nextSend grp o = some (ph, r) ∧ grp.hub = false ∧ o.abort = none ∧ s.opEnded o = false ∧ s.mayStart g.toNat
      port.val (s.colSer port.val (cWireBytes grp o.desc)) = true ∧ (s.chunkData grp o.desc ph r).1 = (none, loc, len,
      rows, poison, dropped))
    ∧ (∃ (s : State) (g : BitVec 12) (grp : ColGroup) (o : ColOp) (port : Fin 32) (ph r e : Nat) (z : Nat × Nat × List
      Byte × Bool × Nat) (others : List (Fin 32 × Nat)) (gap : Nat), s.grp g.toNat = some grp ∧ grp.op = some o ∧
      nextSend grp o = some (ph, r) ∧ grp.hub = false ∧ o.abort = none ∧ s.opEnded o = false ∧ s.mayStart g.toNat
      port.val (s.colSer port.val (cWireBytes grp o.desc)) = true ∧ (s.chunkData grp o.desc ph r).1 = (some e, z))
    ∧ (∃ (s : State) (g : BitVec 12) (grp : ColGroup) (o : ColOp) (port : Fin 32) (others : List (Fin 32 × Nat)) (gap :
      Nat), s.grp g.toNat = some grp ∧ grp.op = some o ∧ s.mayStart g.toNat port.val (s.colSer port.val (cWireBytes grp
      o.desc)) = false)
    ∧ (∃ (s s1 s2 : State) (conn : BitVec 20) (msn : W32) (b : Inbound) (num : Nat) (grp : ColGroup) (o : ColOp),
      s.takeInbox conn.toNat msn.toNat = (some b, s1) ∧ s1.dataParts conn.toNat (b.parts.zip b.heads) = (true, s2) ∧
      b.chdr.isSome = true ∧ b.complete = true ∧ s2.dataFor conn.toNat (b.chdr.getD []) = some (num, grp, o) ∧ s2.grp
      num = some grp ∧ (s2.putCount grp o.desc (hRank (b.chdr.getD [])) (b.total / cRecb o.desc)).1 = none)
    ∧ (∃ (s s1 s2 : State) (conn : BitVec 20) (msn : W32) (b : Inbound), s.takeInbox conn.toNat msn.toNat = (some b, s1)
      ∧ s1.dataParts conn.toNat (b.parts.zip b.heads) = (true, s2) ∧ b.chdr.isSome = true ∧ b.complete = false)
    ∧ (∃ (s s1 : State) (conn : BitVec 20) (msn : W32) (b : Inbound) (a : Nat) (bs : List Byte) (h : Option (List Byte))
      (p : Bool), s.takeInbox conn.toNat msn.toNat = (some b, s1) ∧ b.parts = [(a, bs)] ∧ b.heads = [(h, p)] ∧
      s1.dataFor conn.toNat (h.getD []) = none)
    ∧ (∃ (s : State) (conn : BitVec 20) (msn : W32) (b : Inbound) (num : Nat) (grp : ColGroup), (s.takeInbox conn.toNat
      msn.toNat).1 = some b ∧ s.colAccept conn.toNat (b.chdr.getD []) = some (num, grp) ∧ hKind (b.chdr.getD []) = 1 ∧
      (grp.readys.filter (fun r => r.1 == hRank (b.chdr.getD []))).length < 2 ∧ (hRank (b.chdr.getD []), hSeq
      (b.chdr.getD [])) ∉ grp.readys)
    ∧ (∃ (s : State) (conn : BitVec 20) (msn : W32) (b : Inbound) (num : Nat) (grp : ColGroup) (o : ColOp), (s.takeInbox
      conn.toNat msn.toNat).1 = some b ∧ s.colAccept conn.toNat (b.chdr.getD []) = some (num, grp) ∧ s.grp num = some
      grp ∧ grp.op = some o ∧ o.abort = none ∧ s.opEnded o = false ∧ hKind (b.chdr.getD []) = 2)
    ∧ (∃ (s : State) (g : BitVec 12) (o : ColOp), s.opOf g.toNat = some o ∧ o.abort = none ∧ s.opEnded o = false ∧ max
      10 (s.gf COL_TIMEOUT COL_TIMEOUT_LIMIT_US) * 1000 ≤ s.now - o.at_)
    ∧ (∃ (s : State) (g : BitVec 12) (o : ColOp), s.opOf g.toNat = some o ∧ s.now - o.at_ < max 10 (s.gf COL_TIMEOUT
      COL_TIMEOUT_LIMIT_US) * 1000)
    ∧ (∃ (s : State) (g : BitVec 12) (grp : ColGroup) (o : ColOp) (status since : Nat), s.grp g.toNat = some grp ∧
      grp.op = some o ∧ o.abort = some (status, since) ∧ s.opEnded o = false ∧ grp.hub = false ∧ (∀ p ∈ toConsume grp
      o.desc, p ∈ o.consumed) ∧ s.drained g.toNat grp = true)
    ∧ (∃ (s : State) (n : Fin 32) (ix : W16) (d : Issued), (s.ring (colQ n.val)).issued = [d] ∧ d.ix = ix.toNat ∧
      d.result = some (0, 0) ∧ dCmpl d.desc = false ∧ dSetOp d.desc = 0 ∧ cBarEn d.desc = false ∧ cEf d.desc = false ∧
      d.epoch = (s.ring (colQ n.val)).epoch ∧ d.ix = s.cmdHead (colQ n.val) ∧ (s.ring (colQ n.val)).done = [])
    ∧ (∃ (s : State) (n : Fin 32) (ix : W16) (d : Issued) (st : Nat), (s.ring (colQ n.val)).issued = [d] ∧ d.ix =
      ix.toNat ∧ d.result = some (st, 0) ∧ st ≠ 0 ∧ s.cmplRoom (colQ n.val) = true) :=
  ⟨⟨(SQd (dsc [0]) SC1), 3, (dsc [0]), by decide +kernel⟩,
   ⟨(SQd (opD 1 0 0) SC1), 3, (opD 1 0 0), by decide +kernel⟩,
   ⟨(flagsOn (SQd (opD 1 0 0) SG)), 3, (opD 1 0 0), gB, by decide +kernel⟩,
   ⟨((SQd (dsc [0]) SC1).setRing (colQ 3) { Ring.reset with issued := [⟨0, 0, dsc [0], 0, true, none⟩] }), 3, ⟨0, 0, dsc
     [0], 0, true, none⟩, by decide +kernel⟩,
   ⟨(cn5 (SGa (opF 1))), 9, ({ gB with op := some (opF 1), seq := some 55, bound := some 3 }), (opF 1), by
     decide +kernel⟩,
   ⟨(cn5 (SGa (opF 2))), 9, ({ gB with op := some (opF 2), seq := some 55, bound := some 3 }), (opF 2), by
     decide +kernel⟩,
   ⟨(cn5 (SGa (opF 3))), 9, ({ gB with op := some (opF 3), seq := some 55, bound := some 3 }), (opF 3), by
     decide +kernel⟩,
   ⟨(cn5 (SGa (opF 4))), 9, ({ gB with op := some (opF 4), seq := some 55, bound := some 3 }), (opF 4), by
     decide +kernel⟩,
   ⟨(cn5 (SGa (opF 5))), 9, ({ gB with op := some (opF 5), seq := some 55, bound := some 3 }), (opF 5), by
     decide +kernel⟩,
   ⟨(SGa (opF 1)), 9, ({ gB with op := some (opF 1), seq := some 55, bound := some 3 }), (opF 1), 1, by decide +kernel⟩,
   ⟨(Stime (cn5 (SC1.setGrp 9 gS2))), 9, gS2, opS, 4, 0, 1, (sendAddr gS2 opS.desc 0 1), (cWireBytes gS2 opS.desc), 0,
     [], false, [(2, 9)], 5, by decide +kernel⟩,
   ⟨SS4, 9, gS4, opS4, 4, 0, 1, ((SS4.chunkData gS4 opS4.desc 0 1).1.1.getD 0), ((SS4.chunkData gS4 opS4.desc 0 1).1.2),
     [], 0, by decide +kernel⟩,
   ⟨(SC1.setGrp 9 gS2), 9, gS2, opS, 4, [], 7, by decide +kernel⟩,
   ⟨(Sin 0 (opB 1)), (inT (Sin 0 (opB 1))), (inP (Sin 0 (opB 1)) (inb 0)), 5, 8, (inb 0), 9, (gA (opB 1)), (opB 1), by
     decide +kernel⟩,
   ⟨Sin', (inT Sin'), (inP Sin' inb'), 5, 8, inb', by decide +kernel⟩,
   ⟨Sdi, (inT Sdi), 5, 8, (inb 0), 0, [1,2,3], (some (hdr 0)), false, by decide +kernel⟩,
   ⟨(Sin 1 (opB 1)), 5, 8, (inb 1), 9, (gA (opB 1)), by decide +kernel⟩,
   ⟨(Sin 2 (opB 1)), 5, 8, (inb 2), 9, (gA (opB 1)), (opB 1), by decide +kernel⟩,
   ⟨(Slate (SGa (opB 1))), 9, (opB 1), by decide +kernel⟩,
   ⟨(SGa (opB 1)), 9, (opB 1), by decide +kernel⟩,
   ⟨(cn5 (SGa opA)), 9, (gA opA), opA, 0x24, 0, by decide +kernel⟩,
   ⟨(Sdn 0), 3, 0, ⟨0, 0, opD 1 0 0, 0, true, some (0, 0)⟩, by decide +kernel⟩,
   ⟨(Sdn 5), 3, 0, ⟨0, 0, opD 1 0 0, 0, true, some (5, 0)⟩, 5, by decide +kernel⟩⟩

/-- States and operands that meet the hypotheses of SlotListsAndCollectiveRequests, clause by clause. -/
theorem witness_SlotListsAndCollectiveRequests :
    (∃ (s s1 : State) (q : Requester) (v : W32) (a : Nat) (es : List Nat), coreWrites q = true ∧ s.col.slotPending =
      none ∧ s.blockDown 8 = false ∧ a = s.gf COL_SLOT_ADMIN COL_SLOT_ADMIN_BASE <<< 12 ∧ es = (List.range (min (v.toNat
      % 8192) 4096)).map (fun k => s.le (a + 8 * k) 8) ∧ s1 = ((s.sf COL_SLOT_CTL COL_SLOT_CTL_NSLOTS (v.toNat %
      8192)).load a (8 * (v.toNat % 8192))).2.2 ∧ s1.slotCheck (v.toNat % 8192) (s1.rd64 COL_SLOT_BASETIME) (inHbm a (8
      * (v.toNat % 8192))) es = none)
    ∧ (∃ (s s1 : State) (q : Requester) (v : W32) (a c : Nat), coreWrites q = true ∧ s.col.slotPending = none ∧
      s.blockDown 8 = false ∧ a = s.gf COL_SLOT_ADMIN COL_SLOT_ADMIN_BASE <<< 12 ∧ s1 = ((s.sf COL_SLOT_CTL
      COL_SLOT_CTL_NSLOTS (v.toNat % 8192)).load a (8 * (v.toNat % 8192))).2.2 ∧ s1.slotCheck (v.toNat % 8192) (s1.rd64
      COL_SLOT_BASETIME) (inHbm a (8 * (v.toNat % 8192))) ((List.range (min (v.toNat % 8192) 4096)).map (fun k => s.le
      (a + 8 * k) 8)) = some c ∧ c < 2 ^ 16)
    ∧ (∃ (s : State) (q : Requester) (v : W32) (l : SlotList), coreWrites q = true ∧ s.col.slotPending = some l)
    ∧ (∃ (s : State) (l : SlotList), s.col.slotPending = some l ∧ l.t ≤ s.now)
    ∧ (∃ (s : State) (l : SlotList), s.col.slotPending = some l ∧ s.now < l.t)
    ∧ (∃ (s : State) (l : SlotList), s.col.slotActive = some l ∧ l.t ≤ s.now ∧ l.entries.length ≤ 4096 ∧ l.entries ≠ []
      ∧ s.trn.conns = [])
    ∧ (∃ (s : State) (r : SynReq) (g : BitVec 12) (rec_ : Vector Byte 64) (members : List W32), s.synRefusal 0x0500
      (s.domGroup g.toNat) r = none ∧ (s.grp g.toNat).isSome = true)
    ∧ (∃ (s s1 s2 : State) (r : SynReq) (g : BitVec 12) (rec_ : Vector Byte 64) (members : List W32), s.synRefusal
      0x0500 (s.domGroup g.toNat) r = none ∧ s.grp g.toNat = none ∧ s1 = (s.poke ((s.gf COL_GRP_BASE COL_GRP_BASE_BASE
      <<< 12) + g.toNat * 64) rec_.toList).poke (recMembers rec_.toList) (members.flatMap (fun m => leBytes 4 m.toNat))
      ∧ s1.loadGroup g.toNat = (none, s2))
    ∧ (∃ (s s1 s2 : State) (r : SynReq) (g : BitVec 12) (rec_ : Vector Byte 64) (members : List W32) (c : Nat),
      s.synRefusal 0x0500 (s.domGroup g.toNat) r = none ∧ s.grp g.toNat = none ∧ s1 = (s.poke ((s.gf COL_GRP_BASE
      COL_GRP_BASE_BASE <<< 12) + g.toNat * 64) rec_.toList).poke (recMembers rec_.toList) (members.flatMap (fun m =>
      leBytes 4 m.toNat)) ∧ s1.loadGroup g.toNat = (some c, s2))
    ∧ (∃ (s : State) (r : SynReq) (g : BitVec 12), s.synRefusal 0x0501 (s.domGroup g.toNat) r = none ∧ s.grpActive
      g.toNat = false)
    ∧ (∃ (s : State) (r : SynReq) (g : BitVec 12), s.synRefusal 0x0501 (s.domGroup g.toNat) r = none ∧ s.grpActive
      g.toNat = true)
    ∧ (∃ (s : State) (r : SynReq) (g : BitVec 12) (rank : Byte) (entry : W32) (epoch : W16), s.synRefusal 0x0502
      (s.domGroup g.toNat) r = none ∧ s.grpActive g.toNat = true)
    ∧ (∃ (s s1 s2 : State) (r : SynReq) (g : BitVec 12) (rank : Byte) (entry : W32) (epoch : W16), s.synRefusal 0x0502
      (s.domGroup g.toNat) r = none ∧ s.grpActive g.toNat = false ∧ s1 = (((s.zeroResiduals (s.grpRecord g.toNat)).poke
      ((s.gf COL_GRP_BASE COL_GRP_BASE_BASE <<< 12) + g.toNat * 64 + 28) (leBytes 2 epoch.toNat)).poke (recMembers
      (s.grpRecord g.toNat).rec_ + 4 * rank.toNat) (leBytes 4 entry.toNat)).dropGrp g.toNat ∧ s1.loadGroup g.toNat =
      (none, s2))
    ∧ (∃ (s s1 s2 : State) (r : SynReq) (g : BitVec 12) (rank : Byte) (entry : W32) (epoch : W16) (c : Nat),
      s.synRefusal 0x0502 (s.domGroup g.toNat) r = none ∧ s.grpActive g.toNat = false ∧ s1 = (((s.zeroResiduals
      (s.grpRecord g.toNat)).poke ((s.gf COL_GRP_BASE COL_GRP_BASE_BASE <<< 12) + g.toNat * 64 + 28) (leBytes 2
      epoch.toNat)).poke (recMembers (s.grpRecord g.toNat).rec_ + 4 * rank.toNat) (leBytes 4 entry.toNat)).dropGrp
      g.toNat ∧ s1.loadGroup g.toNat = (some c, s2))
    ∧ (∃ (s : State) (r : SynReq) (base : W64) (es : List W64), s.synRefusal 0x0503 (some 3) r = none ∧
      s.col.slotPending = none ∧ s.slotCheck es.length base.toNat true (es.map (·.toNat)) = none)
    ∧ (∃ (s : State) (r : SynReq) (base : W64) (es : List W64) (l : SlotList), s.synRefusal 0x0503 (some 3) r = none ∧
      s.col.slotPending = some l)
    ∧ (∃ (s : State) (r : SynReq) (g : BitVec 12) (o : ColOp), s.synRefusal 0x0504 (s.domGroup g.toNat) r = none ∧
      s.opOf g.toNat = some o ∧ o.abort = none ∧ s.opEnded o = false)
    ∧ (∃ (s : State) (r : SynReq) (g : BitVec 12), s.synRefusal 0x0504 (s.domGroup g.toNat) r = none ∧ s.opOf g.toNat =
      none)
    ∧ (∃ (s : State) (r : SynReq) (g : BitVec 12) (b : BitVec 15) (grp : ColGroup) (o : ColOp), s.synRefusal 0x0505
      (s.domGroup g.toNat) r = none ∧ s.grp g.toNat = some grp ∧ grp.op = some o) :=
  ⟨⟨sla, (sl1 sla 2), q0, 2, 0x3000, [0, 0], by decide +kernel⟩,
   ⟨sla, (sl1 sla 0), q0, 0, 0x3000, 0x0657, by decide +kernel⟩,
   ⟨(pnd (Stime SC1) ⟨[0], 20000⟩), q0, 0, ⟨[0], 20000⟩, by decide +kernel⟩,
   ⟨(pnd (Stime SC1) ⟨[0], 20000⟩), ⟨[0], 20000⟩, by decide +kernel⟩,
   ⟨(pnd (Stime SC1) ⟨[0], 40000⟩), ⟨[0], 40000⟩, by decide +kernel⟩,
   ⟨(Stime SC1), ⟨[0xFFFFFFFF + 2^44 + 2^45], 0⟩, by decide +kernel⟩,
   ⟨(synOn SG), rq, 9, rv, [0, 0x40000005], by decide +kernel⟩,
   ⟨Scr, (cr1 [0, 0x40000005]), (((cr1 [0, 0x40000005]).loadGroup 9).2), rq, 9, rv, [0, 0x40000005], by decide +kernel⟩,
   ⟨Scr, (cr1 [0, 0]), (((cr1 [0, 0]).loadGroup 9).2), rq, 9, rv, [0, 0], (((cr1 [0, 0]).loadGroup 9).1.getD 0), by
     decide +kernel⟩,
   ⟨(synOn SG), rq, 9, by decide +kernel⟩,
   ⟨(synOn (SGa (opB 1))), rq, 9, by decide +kernel⟩,
   ⟨(synOn (SGa (opB 1))), rq, 9, 1, 0x40000005, 3, by decide +kernel⟩,
   ⟨Srb, (rb1 Srb 1 0x40000005 3), (((rb1 Srb 1 0x40000005 3).loadGroup 9).2), rq, 9, 1, 0x40000005, 3, by
     decide +kernel⟩,
   ⟨Srb, (rb1 Srb 1 0x40000000 3), (((rb1 Srb 1 0x40000000 3).loadGroup 9).2), rq, 9, 1, 0x40000000, 3, ((((rb1 Srb 1
     0x40000000 3).loadGroup 9).1).getD 0), by decide +kernel⟩,
   ⟨(synOn SC1), rq, 20000, [0x400000000000], by decide +kernel⟩,
   ⟨(pnd (synOn SC1) ⟨[0], 40000⟩), rq, 20000, [], ⟨[0], 40000⟩, by decide +kernel⟩,
   ⟨(synOn (SGa (opB 1))), rq, 9, (opB 1), by decide +kernel⟩,
   ⟨(synOn SG), rq, 9, by decide +kernel⟩,
   ⟨(synOn (SGa (opB 1))), rq, 9, 4, (gA (opB 1)), (opB 1), by decide +kernel⟩⟩

end C05

namespace C06

def rq : SynReq := ⟨.mailbox 0, 3, 2, 7, 0xFFFF, false, none⟩
def synOn (s : State) : State := ((s.sf DEV_STATUS DEV_STATUS_STAGE 6).sf DEV_ENABLE DEV_ENABLE_EN 1).setMb 0 { Mailbox.reset with session := some ⟨5, false, 0, none⟩ }
/-- context array at 0x1000_0000 (base 0x1000<<16), class table 0x2_0000, frames at 0x2000_0000, 4 frames -/
def Skb : State := ((((S0.wr KV_CTX_BASE 0x10000000).wr KV_CLASS_BASE 0x20000).wr KV_FRAME_BASE 0x20000000).wr KV_FRAME_COUNT 4)
def Sk1 : State := Skb.sf KV_CTL KV_CTL_EN 1
def Skr : State := (Sk1.wr KV_JOB_BASE 0x30006).wr KV_DONE_BASE 0x40006
def Son6 : State := (Skr.sf KV_CTL KV_CTL_JOB_EN 1).sf KV_CTL KV_CTL_DONE_EN 1
def cxb (st : Nat) : List Byte := cxNSETS.write (cxASI.write (cxGEN.write (cxSTATE.write (List.replicate 256 0) st) 3) 0xFFFF) 0
def wc (s : State) (n st : Nat) : State := { s with kv := { s.kv with cache := [(n, cxb st)] } }
def jb (k : Nat) (posted failed : Bool) : KvJob := { KvJob.blank k 0 9 3 0 with id := 77, posted := posted, failed := failed }
def wj (s : State) (j : KvJob) : State := { s with kv := { s.kv with jobs := [j] } }
def rec0 (st id v : Nat) : List Byte := leBytes 2 0 ++ leBytes 2 st ++ leBytes 4 id ++ leBytes 8 v
def rec1 (n tok gen : Nat) : List Byte := leBytes 4 1 ++ leBytes 4 n ++ leBytes 4 tok ++ leBytes 4 gen
def wd (s : State) (r : List Byte) : State := (s.putBytes 0x40000 r).sf KV_DONE_DB KV_DONE_DB_CMD_TAIL 1
def clsR : List Byte := dsc [0x4111, 0x00010002, 0x00040020, 0, 100, 1]
def Scls (s : State) : State := s.putBytes 0x20000 clsR
/-- profile: port 0, owin 0..2^30, slots at 0, 16 slots of 4096, stride 64.. -/
def prR : List Byte := fit 128 (leBytes 4 0x0100 ++ leBytes 4 0x40 ++ leBytes 8 0 ++ leBytes 8 0x5000 ++ leBytes 8 0 ++ leBytes 4 0x10000 ++ leBytes 4 16 ++ leBytes 4 0x8000 ++ leBytes 2 16 ++ leBytes 2 100 ++ leBytes 8 0x200000 ++ leBytes 8 0x300000 ++ leBytes 8 0x50000000 ++ leBytes 8 0 ++ leBytes 8 0x40000000 ++ leBytes 8 (0x100000 + 20) ++ leBytes 8 (0x60000000 + 3) ++ leBytes 8 0 ++ leBytes 8 0 ++ leBytes 4 64)
def Spr (s : State) : State := { s with kv := { s.kv with profiles := [(0, prR)] }, accelWin := [(0, [(0, 0x40000000)])] }
def Sfl (s : State) : State := (((s.sf FLG_CTL FLG_CTL_EN 1).putBytes 0x10 (leBytes 8 0x1001 ++ leBytes 8 9)).putBytes 0x1004 (leBytes 4 0xE0000123))
def Sy : State := synOn (Scls Son6)
def Ssl (s : State) : State := { s with col := { s.col with slotActive := some ⟨[0, 0], 0⟩ } }
def cxs (st : Nat) : List Byte := cxSET_TABLE.write (cxb st) 0x700000
def cxe : List Byte := cxPRIOR.write (cxb 6) 3
def clsV : List Byte := dsc [0x4110, 0x00010002, 0x00040020, 0, 100, 1]
def clsX : List Byte := dsc [0x4111, 0x000100FF, 0x00040020, 0, 100, 1]

/-- States and operands that meet the hypotheses of KeyValueRingsAndAccelerators, clause by clause. -/
theorem witness_KeyValueRingsAndAccelerators :
    (∃ (s : State) (q : Requester) (v : W32), coreWrites q = true ∧ s.modeKept ∧ s.kv.jobs = [] ∧ s.bit KV_CTL KV_CTL_EN
      = false ∧ s.bit KV_CTL KV_CTL_JOB_EN = false ∧ s.bit KV_CTL KV_CTL_DONE_EN = false ∧ bitAt v.toNat 1 = false ∧
      bitAt v.toNat 2 = false ∧ s.kvEnCheck = none)
    ∧ (∃ (s : State) (q : Requester) (v : W32) (c : Nat), coreWrites q = true ∧ s.modeKept ∧ s.kv.jobs = [] ∧ s.bit
      KV_CTL KV_CTL_EN = false ∧ s.bit KV_CTL KV_CTL_JOB_EN = false ∧ s.bit KV_CTL KV_CTL_DONE_EN = false ∧ bitAt
      v.toNat 1 = false ∧ bitAt v.toNat 2 = false ∧ s.kvEnCheck = some c)
    ∧ (∃ (s : State) (q : Requester) (v : W32), coreWrites q = true ∧ s.modeKept ∧ s.kv.jobs = [] ∧ s.bit KV_CTL
      KV_CTL_JOB_EN = false ∧ s.bit KV_CTL KV_CTL_DONE_EN = false ∧ bitAt v.toNat 1 = false ∧ bitAt v.toNat 2 = false)
    ∧ (∃ (s : State) (q : Requester) (v : W32), coreWrites q = true ∧ s.modeKept ∧ s.kv.jobs = [] ∧ s.bit KV_CTL
      KV_CTL_JOB_EN = true ∧ bitAt v.toNat 1 = true ∧ s.bit KV_CTL KV_CTL_DONE_EN = bitAt v.toNat 2)
    ∧ (∃ (s : State) (q : Requester) (v : W32), coreWrites q = true ∧ s.modeKept ∧ s.kv.jobs = [] ∧ s.bit KV_CTL
      KV_CTL_EN = true ∧ bitAt v.toNat 0 = true ∧ s.bit KV_CTL KV_CTL_JOB_EN = false ∧ s.bit KV_CTL KV_CTL_DONE_EN =
      bitAt v.toNat 2 ∧ s.kvRingCheck false = none)
    ∧ (∃ (s : State) (q : Requester) (v : W32), coreWrites q = true ∧ s.modeKept ∧ s.kv.jobs = [] ∧ s.bit KV_CTL
      KV_CTL_EN = true ∧ bitAt v.toNat 0 = true ∧ s.bit KV_CTL KV_CTL_DONE_EN = false ∧ s.bit KV_CTL KV_CTL_JOB_EN =
      bitAt v.toNat 1 ∧ s.kvRingCheck true = none)
    ∧ (∃ (s : State) (q : Requester) (v : W32), coreWrites q = true ∧ s.bit KV_CTL KV_CTL_JOB_EN = false)
    ∧ (∃ (s : State) (q : Requester) (v : W32), coreWrites q = true ∧ s.bit KV_CTL KV_CTL_DONE_EN = false)
    ∧ (∃ (s : State) (q : Requester) (hi : Bool) (v : W32), s.bit KV_CTL KV_CTL_JOB_EN = true)
    ∧ (∃ (s : State) (q : Requester) (v : W32), coreWrites q = true)
    ∧ (∃ (s : State) (q : Requester) (v : W32), coreWrites q = true ∧ ixDiff (v.toNat % 2 ^ 16) s.doneHead ≤ 2 ^
      s.doneLog)
    ∧ (∃ (s : State) (q : Requester) (v : W32), coreWrites q = true ∧ 2 ^ s.doneLog < ixDiff (v.toNat % 2 ^ 16)
      s.doneHead)
    ∧ (∃ (s : State) (j : KvJob), s.kvEn = true ∧ s.bit KV_CTL KV_CTL_JOB_EN = true ∧ s.jobRoom = true ∧ s.nextJob
      s.kv.jobs [] [] false = some j ∧ s.bit CKP_CTL CKP_CTL_EN = false ∧ inHbm (s.jobBase + s.jobTail % 2 ^ s.jobLog *
      64) 64 = true)
    ∧ (∃ (s : State), s.jobRoom = false)
    ∧ (∃ (s : State) (d : List Byte), s.doneRecord = some d ∧ fieldLE d 0 1 = 0 ∧ (∀ j ∈ s.kv.jobs, ¬(j.id = fieldLE d 4
      4 ∧ j.posted = true ∧ j.failed = false)))
    ∧ (∃ (s : State) (d : List Byte) (j : KvJob), s.doneRecord = some d ∧ fieldLE d 0 1 = 0 ∧ s.kv.jobs.find? (fun j =>
      j.id == fieldLE d 4 4 && j.posted && !j.failed) = some j ∧ fieldLE d 2 2 ≠ 0 ∧ fieldLE d 2 2 ≠ 0x12 ∧ s.onDie
      j.stream ∧ s.cx j.stream cxSTATE ≠ stClosing ∧ s.cx j.stream cxSTATE ≠ stError)
    ∧ (∃ (s : State) (d : List Byte) (j : KvJob), s.doneRecord = some d ∧ fieldLE d 0 1 = 0 ∧ s.kv.jobs.find? (fun j =>
      j.id == fieldLE d 4 4 && j.posted && !j.failed) = some j ∧ (fieldLE d 2 2 = 0 ∨ fieldLE d 2 2 = 0x12) ∧ j.kind = 4
      ∧ s.cx j.stream cxSTATE = stParked ∧ s.onDie j.stream)
    ∧ (∃ (s : State) (d : List Byte) (n : Nat), s.doneRecord = some d ∧ fieldLE d 0 1 = 1 ∧ fieldLE d 4 4 = n ∧ n < 2 ^
      20 ∧ s.onDie n ∧ (fieldLE d 12 2 ≠ s.cx n cxGEN ∨ fieldLE d 8 4 < s.cx n cxTOKENS ∨ kcLimit (s.classRec (s.cx n
      cxCLASS)) < fieldLE d 8 4))
    ∧ (∃ (s : State) (d : List Byte) (n : Nat), s.doneRecord = some d ∧ fieldLE d 0 1 = 1 ∧ fieldLE d 4 4 = n ∧ n < 2 ^
      20 ∧ s.onDie n ∧ fieldLE d 12 2 = s.cx n cxGEN ∧ s.cx n cxTOKENS ≤ fieldLE d 8 4 ∧ fieldLE d 8 4 ≤ kcLimit
      (s.classRec (s.cx n cxCLASS)) ∧ (s.cx n cxSTATE = stActive ∨ s.cx n cxSTATE = stFrozen))
    ∧ (∃ (s : State) (n : BitVec 20), s.kvEn = true ∧ s.kv.cache.length < 65536 ∧ s.kv.cache.any (fun e => e.1 ==
      n.toNat) = false)
    ∧ (∃ (s : State) (n : BitVec 20) (l : Byte) (ds : List Nat) (d : Nat), s.kv.deadlines.find? (fun e => e.1 ==
      n.toNat) = some (n.toNat, ds) ∧ ds[l.toNat]? = some d ∧ s.cx n.toNat cxREADY ≤ l.toNat ∧ d + kcLead (s.classRec
      (s.cx n.toNat cxCLASS)) ≤ s.now ∧ (n.toNat, l.toNat) ∉ s.kv.late ∧ s.onDie n.toNat)
    ∧ (∃ (s : State) (port : Fin 8) (off : BitVec 12) (pr : List Byte) (p : Nat), s.profile port.val = some pr ∧
      off.toNat % 4 = 0 ∧ (s.translate 8 (kpFctx pr) (kpCflagVbase pr + off.toNat / 4) needSet).1 = some p ∧ Tab.get
      markClean s.flags.ecc (p / 64) = .clean ∧ s.flt.injections = [] ∧ (∀ w ∈ s.flags.waiters, w.pflag = p → w.consume
      = false))
    ∧ (∃ (s : State) (port : Fin 8) (off : BitVec 12) (len : BitVec 13) (pr : List Byte), s.profile port.val = some pr ∧
      (len.toNat ≠ 4 ∨ off.toNat % 4 ≠ 0))
    ∧ (∃ (s : State) (port : Fin 8) (addr : W64) (len : BitVec 13) (pr : List Byte), s.profile port.val = some pr ∧
      inboundWindow pr 0 addr.toNat len.toNat = none ∧ inboundWindow pr 1 addr.toNat len.toNat = none)
    ∧ (∃ (s : State) (port : Fin 8) (addr : W64) (len : BitVec 13) (pr bs : List Byte) (a rights : Nat), s.profile
      port.val = some pr ∧ inboundWindow pr 0 addr.toNat len.toNat = some (a, rights) ∧ bitAt rights 0 = true ∧ (s.load
      a len.toNat).1 = none ∧ (s.load a len.toNat).2.1 = bs)
    ∧ (∃ (s : State) (port : Fin 8) (addr : W64) (len : BitVec 13) (pr data : List Byte) (a rights : Nat), s.profile
      port.val = some pr ∧ ¬(kpCflagAddr pr ≤ addr.toNat ∧ addr.toNat < kpCflagAddr pr + 4096) ∧ inboundWindow pr 0
      addr.toNat data.length = some (a, rights) ∧ bitAt rights 1 = true ∧ (s.store a data).1 = none) :=
  ⟨⟨Skb, q0, 0x3300, by decide +kernel⟩,
   ⟨S0, q0, 0x3300, 0x0660, by decide +kernel⟩,
   ⟨Sk1, q0, 0, by decide +kernel⟩,
   ⟨(Skr.sf KV_CTL KV_CTL_JOB_EN 1), q0, 2, by decide +kernel⟩,
   ⟨Skr, q0, 1, by decide +kernel⟩,
   ⟨Skr, q0, 1, by decide +kernel⟩,
   ⟨Skr, q0, 0x55555, by decide +kernel⟩,
   ⟨Skr, q0, 0xFFFFFFFF, by decide +kernel⟩,
   ⟨(Skr.sf KV_CTL KV_CTL_JOB_EN 1), q0, true, 0x55555, by decide +kernel⟩,
   ⟨Skr, q0, 0x55555, by decide +kernel⟩,
   ⟨Skr, q0, 5, by decide +kernel⟩,
   ⟨Skr, q0, 500, by decide +kernel⟩,
   ⟨(wj (wc Son6 9 1) (jb 4 false false)), ({ KvJob.blank 4 0 9 3 0 with id := 77 }), by decide +kernel⟩,
   ⟨(wj ((wc Son6 9 1).sf KV_RING_STATUS KV_RING_STATUS_JOB_TAIL 64) (jb 4 false false)), by decide +kernel⟩,
   ⟨(wd Son6 (rec0 0 78 0)), (rec0 0 78 0), by decide +kernel⟩,
   ⟨(wd (wj (wc Son6 9 1) (jb 4 true false)) (rec0 5 77 0)), (rec0 5 77 0), (jb 4 true false), by decide +kernel⟩,
   ⟨(wd (wj (wc Son6 9 1) (jb 4 true false)) (rec0 0 77 0x40)), (rec0 0 77 0x40), (jb 4 true false), by decide +kernel⟩,
   ⟨(wd (wc Son6 9 3) (rec1 9 5 4)), (rec1 9 5 4), 9, by decide +kernel⟩,
   ⟨(wd (wc (Scls Son6) 9 5) (rec1 9 5 3)), (rec1 9 5 3), 9, by decide +kernel⟩,
   ⟨Son6, 9, by decide +kernel⟩,
   ⟨({ wc (Scls Son6) 9 2 with kv := { (wc (Scls Son6) 9 2).kv with deadlines := [(9, [0])] }, time := { S0.time with
     acc := 1000*2^32 } }), 9, 0, [0], 0, by decide +kernel⟩,
   ⟨(Sfl (Spr S0)), 0, 0, prR, 0x123*64, by decide +kernel⟩,
   ⟨(Spr S0), 0, 2, 4, prR, by decide +kernel⟩,
   ⟨(Spr S0), 0, 0x900000, 4, prR, by decide +kernel⟩,
   ⟨((Spr S0).putBytes 0x60000010 [1,2,3]), 0, 0x100010, 4, prR, [1,2,3,0], 0x60000010, 3, by decide +kernel⟩,
   ⟨(Spr S0), 0, 0x100010, 4, prR, [1,2,3,4], 0x60000010, 3, by decide +kernel⟩⟩

/-- States and operands that meet the hypotheses of StreamRequestsFollowTheStates, clause by clause. -/
theorem witness_StreamRequestsFollowTheStates :
    (∃ (s : State) (r : SynReq) (cls : BitVec 6) (n pick : BitVec 20) (table : Fin 37748736), s.synRefusal 0x0600
      (domStream n.toNat) r = none ∧ s.kvEn = true ∧ kcValid (s.classRec cls.toNat) = true ∧ s.cx n.toNat cxSTATE =
      stFree ∧ (s.kv.cache.length < 65536 ∨ s.onDie n.toNat))
    ∧ (∃ (s : State) (r : SynReq) (cls : BitVec 6) (st : Option (BitVec 20)) (pick : BitVec 20) (table : Fin 37748736),
      s.synRefusal 0x0600 (domStream (st.getD pick).toNat) r = none ∧ s.kvEn = true ∧ kcValid (s.classRec cls.toNat) =
      false)
    ∧ (∃ (s : State) (r : SynReq) (n : BitVec 20) (gen : W16), s.synRefusal 0x0601 (domStream n.toNat) r = none ∧ s.kvEn
      = true ∧ s.onDie n.toNat ∧ gen.toNat ≠ s.cx n.toNat cxGEN)
    ∧ (∃ (s : State) (r : SynReq) (n : BitVec 20) (gen : W16), s.synRefusal 0x0601 (domStream n.toNat) r = none ∧ s.kvEn
      = true ∧ s.onDie n.toNat ∧ gen.toNat = s.cx n.toNat cxGEN ∧ s.cx n.toNat cxSTATE = stParked ∧ s.cx n.toNat cxNSETS
      = 0 ∧ s.cx n.toNat cxASI = noAsi ∧ s.kv.jobs = [] ∧ n.toNat ∉ s.kv.releasing)
    ∧ (∃ (s : State) (r : SynReq) (n : BitVec 20) (gen : W16), s.synRefusal 0x0601 (domStream n.toNat) r = none ∧ s.kvEn
      = true ∧ s.onDie n.toNat ∧ gen.toNat = s.cx n.toNat cxGEN ∧ s.cx n.toNat cxSTATE ≠ stFree ∧ s.cx n.toNat cxSTATE ≠
      stClosing ∧ (∃ j ∈ s.kv.jobs, j.stream = n.toNat ∧ j.posted = true ∧ j.failed = false))
    ∧ (∃ (s : State) (r : SynReq) (n : BitVec 20) (gen : W16) (t0 : W64) (k0 : BitVec 12), s.synRefusal 0x0602
      (domStream n.toNat) r = none ∧ s.kvEn = true ∧ s.onDie n.toNat ∧ gen.toNat = s.cx n.toNat cxGEN ∧ s.cx n.toNat
      cxSTATE ≠ stParked)
    ∧ (∃ (s : State) (r : SynReq) (n : BitVec 20) (gen : W16) (t0 : W64) (k0 : BitVec 12), s.synRefusal 0x0602
      (domStream n.toNat) r = none ∧ s.kvEn = true ∧ s.onDie n.toNat ∧ gen.toNat = s.cx n.toNat cxGEN ∧ s.cx n.toNat
      cxSTATE = stParked ∧ s.futureSlot t0.toNat k0.toNat = false)
    ∧ (∃ (s : State) (r : SynReq) (n : BitVec 20) (gen : W16) (t0 : W64) (k0 : BitVec 12) (a : Nat), s.synRefusal 0x0602
      (domStream n.toNat) r = none ∧ s.kvEn = true ∧ s.onDie n.toNat ∧ gen.toNat = s.cx n.toNat cxGEN ∧ s.cx n.toNat
      cxSTATE = stParked ∧ s.futureSlot t0.toNat k0.toNat = true ∧ (s.freeAsi ((kcPorts (s.classRec (s.cx n.toNat
      cxCLASS))).map (·.2))).isSome = true ∧ a = (s.freeAsi ((kcPorts (s.classRec (s.cx n.toNat cxCLASS))).map
      (·.2))).getD 0 ∧ (∀ p ∈ (kcPorts (s.classRec (s.cx n.toNat cxCLASS))).map (·.2), lastGroup (s.classRec (s.cx
      n.toNat cxCLASS)) (s.cx n.toNat cxTOKENS) + 1 ≤ s.freeSlots p))
    ∧ (∃ (s : State) (r : SynReq) (n : BitVec 20) (gen : W16), s.synRefusal 0x0603 (domStream n.toNat) r = none ∧ s.kvEn
      = true ∧ s.onDie n.toNat ∧ gen.toNat = s.cx n.toNat cxGEN ∧ s.cx n.toNat cxSTATE ≠ stResuming ∧ s.cx n.toNat
      cxSTATE ≠ stActive)
    ∧ (∃ (s : State) (r : SynReq) (n : BitVec 20) (gen : W16), s.synRefusal 0x0603 (domStream n.toNat) r = none ∧ s.kvEn
      = true ∧ s.onDie n.toNat ∧ gen.toNat = s.cx n.toNat cxGEN ∧ s.cx n.toNat cxSTATE = stActive ∧ s.kv.jobs = [] ∧
      s.kv.short = [] ∧ s.cx n.toNat cxTOKENS ≤ s.cx n.toNat cxPULLED_TO)
    ∧ (∃ (s : State) (r : SynReq) (n : BitVec 20) (gen : W16), s.synRefusal 0x0603 (domStream n.toNat) r = none ∧ s.kvEn
      = true ∧ s.onDie n.toNat ∧ gen.toNat = s.cx n.toNat cxGEN ∧ (s.cx n.toNat cxSTATE = stActive ∨ s.cx n.toNat
      cxSTATE = stResuming) ∧ (∃ j ∈ s.kv.jobs, j.stream = n.toNat ∧ j.posted = true ∧ j.failed = false))
    ∧ (∃ (s : State) (r : SynReq) (n : BitVec 20) (gen : W16) (first : BitVec 9) (count : BitVec 10) (tier : Fin 3),
      s.synRefusal 0x0604 (domStream n.toNat) r = none ∧ s.kvEn = true ∧ s.onDie n.toNat ∧ gen.toNat = s.cx n.toNat
      cxGEN ∧ s.cx n.toNat cxSTATE = stActive ∧ first.toNat ≤ s.cx n.toNat cxTOKENS / kcPage (s.classRec (s.cx n.toNat
      cxCLASS)) ∧ s.cx n.toNat cxTOKENS / kcPage (s.classRec (s.cx n.toNat cxCLASS)) < first.toNat + count.toNat)
    ∧ (∃ (s : State) (r : SynReq) (n : BitVec 20) (gen : W16) (first : BitVec 9) (tier : Fin 3) (d : Nat), s.synRefusal
      0x0604 (domStream n.toNat) r = none ∧ s.kvEn = true ∧ s.onDie n.toNat ∧ gen.toNat = s.cx n.toNat cxGEN ∧ s.cx
      n.toNat cxSTATE = stParked ∧ s.setDesc n.toNat first.toNat = some d)
    ∧ (∃ (s : State) (r : SynReq) (n : BitVec 20) (gen : W16), s.synRefusal 0x0605 (domStream n.toNat) r = none ∧ s.kvEn
      = true ∧ s.onDie n.toNat ∧ gen.toNat = s.cx n.toNat cxGEN)
    ∧ (∃ (s : State) (r : SynReq) (n : BitVec 20) (gen : W16), s.synRefusal 0x0606 (domStream n.toNat) r = none ∧ s.kvEn
      = true ∧ s.onDie n.toNat ∧ gen.toNat = s.cx n.toNat cxGEN ∧ s.cx n.toNat cxSTATE ≠ stError)
    ∧ (∃ (s : State) (r : SynReq) (n : BitVec 20) (gen : W16), s.synRefusal 0x0606 (domStream n.toNat) r = none ∧ s.kvEn
      = true ∧ s.onDie n.toNat ∧ gen.toNat = s.cx n.toNat cxGEN ∧ s.cx n.toNat cxSTATE = stError ∧ (s.cx n.toNat cxPRIOR
      = stParked ∨ s.cx n.toNat cxPRIOR = stActive))
    ∧ (∃ (s : State) (r : SynReq) (cls : BitVec 6) (rec_ : List Byte), s.synRefusal 0x0608 (domStream 0) r = none ∧ (∃ e
      ∈ s.kv.opened, e.2 = cls.toNat))
    ∧ (∃ (s : State) (r : SynReq) (cls : BitVec 6) (rec_ : List Byte), s.synRefusal 0x0608 (domStream 0) r = none ∧ (∀ e
      ∈ s.kv.opened, e.2 ≠ cls.toNat) ∧ rec_.length = 64 ∧ kcFieldsOk rec_ = false)
    ∧ (∃ (s : State) (r : SynReq) (cls : BitVec 6) (rec_ : List Byte), s.synRefusal 0x0608 (domStream 0) r = none ∧ (∀ e
      ∈ s.kv.opened, e.2 ≠ cls.toNat) ∧ rec_.length = 64 ∧ kcFieldsOk rec_ = true ∧ (∃ kp ∈ kcPorts rec_, s.profile kp.2
      = none))
    ∧ (∃ (s : State) (r : SynReq) (cls : BitVec 6) (rec_ : List Byte), s.synRefusal 0x0608 (domStream 0) r = none ∧ (∀ e
      ∈ s.kv.opened, e.2 ≠ cls.toNat) ∧ rec_.length = 64 ∧ kcFieldsOk rec_ = true ∧ kcValid rec_ = true ∧ ((kcPorts
      rec_).map (·.2)).Nodup ∧ (∀ kp ∈ kcPorts rec_, (s.profile kp.2).isSome = true) ∧ (∃ kp ∈ kcPorts rec_, (s.profile
      kp.2).any (kcFits rec_) = false))
    ∧ (∃ (s : State) (r : SynReq) (cls : BitVec 6) (rec_ : List Byte), s.synRefusal 0x0608 (domStream 0) r = none ∧ (∀ e
      ∈ s.kv.opened, e.2 ≠ cls.toNat) ∧ rec_.length = 64 ∧ kcFieldsOk rec_ = true ∧ ((kcPorts rec_).map (·.2)).Nodup ∧
      (∀ kp ∈ kcPorts rec_, (s.profile kp.2).isSome = true) ∧ (kcValid rec_ = false ∨ ∀ kp ∈ kcPorts rec_, (s.profile
      kp.2).any (kcFits rec_) = true) ∧ s.bit CKP_CTL CKP_CTL_EN = false ∧ inHbm ((s.gf KV_CLASS_BASE KV_CLASS_BASE_BASE
      <<< 12) + cls.toNat * 64) 64 = true)
    ∧ (∃ (s : State) (r : SynReq) (port : Fin 8) (rec_ : List Byte), s.synRefusal 0x0609 (domStream 0) r = none ∧
      s.asiOn port.val = true)
    ∧ (∃ (s : State) (r : SynReq) (port : Fin 8) (rec_ : List Byte), s.synRefusal 0x0609 (domStream 0) r = none ∧
      s.asiOn port.val = false ∧ rec_.length = 128 ∧ kpOk rec_ port.val = false)
    ∧ (∃ (s : State) (r : SynReq) (port : Fin 8) (rec_ : List Byte), s.synRefusal 0x0609 (domStream 0) r = none ∧
      s.asiOn port.val = false ∧ rec_.length = 128 ∧ kpOk rec_ port.val = true ∧ (∃ c, c < 64 ∧ kcValid (s.classRec c) =
      true ∧ (∃ kp ∈ kcPorts (s.classRec c), kp.2 = port.val) ∧ kcFits (s.classRec c) rec_ = false))
    ∧ (∃ (s : State) (r : SynReq) (port : Fin 8) (rec_ : List Byte), s.synRefusal 0x0609 (domStream 0) r = none ∧
      s.asiOn port.val = false ∧ rec_.length = 128 ∧ kpOk rec_ port.val = true ∧ (∀ c, c < 64 → kcValid (s.classRec c) =
      true → (∃ kp ∈ kcPorts (s.classRec c), kp.2 = port.val) → kcFits (s.classRec c) rec_ = true))
    ∧ (∃ (s : State) (r : SynReq) (port : Fin 8), s.synRefusal 0x060A (domStream 0) r = none ∧ s.asiOn port.val = true)
    ∧ (∃ (s : State) (r : SynReq) (port : Fin 8), s.synRefusal 0x060A (domStream 0) r = none ∧ s.asiOn port.val = false) :=
  ⟨⟨Sy, rq, 0, 9, 0, 0x500, by decide +kernel⟩,
   ⟨Sy, rq, 1, none, 0, 0x500, by decide +kernel⟩,
   ⟨(wc Sy 9 1), rq, 9, 4, by decide +kernel⟩,
   ⟨(wc Sy 9 1), rq, 9, 3, by decide +kernel⟩,
   ⟨(wj (wc Sy 9 3) (jb 1 true false)), rq, 9, 3, by decide +kernel⟩,
   ⟨(wc Sy 9 3), rq, 9, 3, 0, 0, by decide +kernel⟩,
   ⟨(wc Sy 9 1), rq, 9, 3, 0, 0, by decide +kernel⟩,
   ⟨(Ssl (wc (Spr Sy) 9 1)), rq, 9, 3, 20000, 1, (((Ssl (wc (Spr Sy) 9 1)).freeAsi ((kcPorts ((Ssl (wc (Spr Sy) 9
     1)).classRec ((Ssl (wc (Spr Sy) 9 1)).cx 9 cxCLASS))).map (·.2))).getD 0), by
     (repeat' with_reducible apply And.intro) <;> first | decide +kernel | exact Prod.ext (by decide +kernel) rfl | rfl⟩,
   ⟨(wc Sy 9 1), rq, 9, 3, by decide +kernel⟩,
   ⟨(wc Sy 9 3), rq, 9, 3, by decide +kernel⟩,
   ⟨(wj (wc Sy 9 3) (jb 1 true false)), rq, 9, 3, by decide +kernel⟩,
   ⟨(wc Sy 9 3), rq, 9, 3, 0, 1, 0, by decide +kernel⟩,
   ⟨(({ Sy with kv := { Sy.kv with cache := [(9, cxs 1)] } } : State).putBytes 0x700000 (leBytes 8 0x710001)), rq, 9, 3,
     0, 1, 0x710000, by decide +kernel⟩,
   ⟨(wc Sy 9 3), rq, 9, 3, by decide +kernel⟩,
   ⟨(wc Sy 9 3), rq, 9, 3, by decide +kernel⟩,
   ⟨(wj { Sy with kv := { Sy.kv with cache := [(9, cxe)] } } (jb 1 true true)), rq, 9, 3, by decide +kernel⟩,
   ⟨({ Sy with kv := { Sy.kv with opened := [(9, 2)] } }), rq, 2, clsR, by decide +kernel⟩,
   ⟨Sy, rq, 2, (dsc [1]), by decide +kernel⟩,
   ⟨Sy, rq, 2, clsV, by decide +kernel⟩,
   ⟨(Spr Sy), rq, 2, clsX, by decide +kernel⟩,
   ⟨(Spr Sy), rq, 2, clsV, by decide +kernel⟩,
   ⟨({ Sy with kv := { Sy.kv with asis := [(5, 9)] } }), rq, 0, prR, by decide +kernel⟩,
   ⟨Sy, rq, 1, prR, by decide +kernel⟩,
   ⟨Sy, rq, 0, prR, by decide +kernel⟩,
   ⟨(Sy.putBytes 0x20000 (List.replicate 64 0)), rq, 0, prR, by decide +kernel⟩,
   ⟨({ Sy with kv := { Sy.kv with asis := [(5, 9)] } }), rq, 0, by decide +kernel⟩,
   ⟨(Spr Sy), rq, 0, by decide +kernel⟩⟩

end C06

namespace C07

def rq : SynReq := ⟨.mailbox 0, 3, 2, 7, 0xFFFF, false, none⟩
def synOn (s : State) : State := ((s.sf DEV_STATUS DEV_STATUS_STAGE 6).sf DEV_ENABLE DEV_ENABLE_EN 1).setMb 0 { Mailbox.reset with session := some ⟨5, false, 0, none⟩ }
def run (s : State) : State := (s.sf (CORE_STATUS (s.coreOfDomain 1)) CORE_STATUS_STATE 1).sf (CORE_STATUS (s.coreOfDomain 2)) CORE_STATUS_STATE 1
def clsR : List Byte := dsc [0x4111, 0x00010002, 0x00040020, 0, 100, 1]
def prR : List Byte := fit 128 (leBytes 4 0x0100 ++ leBytes 4 0x40 ++ leBytes 8 0 ++ leBytes 8 0x5000 ++ leBytes 8 0 ++ leBytes 4 0x10000 ++ leBytes 4 16 ++ leBytes 4 0x8000 ++ leBytes 2 16 ++ leBytes 2 100 ++ leBytes 8 0x200000 ++ leBytes 8 0x300000 ++ leBytes 8 0x50000000 ++ leBytes 8 0 ++ leBytes 8 0x40000000 ++ leBytes 8 (0x100000 + 24) ++ leBytes 8 (0x60000000 + 3) ++ leBytes 8 0 ++ leBytes 8 0 ++ leBytes 4 64)
def epR : List Byte := fit 64 (leBytes 4 8 ++ leBytes 4 0 ++ leBytes 4 1000 ++ leBytes 4 5 ++ leBytes 8 0x100000 ++ leBytes 4 0x4000 ++ leBytes 4 0 ++ leBytes 8 0x60010000)
def Spr (s : State) : State := { s with kv := { s.kv with profiles := [(0, prR)] }, accelWin := [(0, [(0, 0x40000000)])] }
def Sb : State := run (synOn (((((Spr S0).wr KV_CTX_BASE 0x10000000).wr KV_CLASS_BASE 0x20000).sf KV_CTL KV_CTL_EN 1).putBytes 0x20000 clsR))
def Ec : Eland := { Eland.reset with configured := true, period := 80000, t0 := 1000000, vocab := 1000, dBase := 0x30000000, dCount := 4, hBase := 0x3F000000, hCount := 4 }
def Sc : State := { Sb with eland := Ec }
def Sp : State := { Sc with eland := { Ec with ports := [(0, epR)] } }
def cxw (fs : List (Fd × Nat)) : List Byte := fs.foldl (fun b f => f.1.write b f.2) (List.replicate 256 0)
def ctx0 : List Byte := cxw [(cxSTATE, 3), (cxGEN, 3), (cxASI, 7), (exATTACHED, 1), (exGREEDY, 1), (exLAST_VALID, 1), (exLAST, 44), (exDLEN, 4), (exTOPK, 1), (exREP_PEN, 0x3F800000), (exHIST_ADDR, 0x3F000000), (exDCACHE_ADDR, 0x30000000), (exOUT_SEQ, 9), (exSTOP 0, 0xFFFFFFFF), (exSTOP 1, 0xFFFFFFFF), (exSTOP 2, 0xFFFFFFFF), (exSTOP 3, 0xFFFFFFFF), (exOUT_CHAN, 5)]
def wc (s : State) (n : Nat) (c : List Byte) : State := { s with kv := { s.kv with cache := [(n, c)] } }
def st9 : ElStream := ⟨9, 0, 0, 0, 0, [], false, none, [], []⟩
def ws (s : State) (l : List ElStream) : State := { s with eland := { s.eland with streams := l } }
def wl (s : State) (l : ElLaunch) : State := { s with eland := { s.eland with launches := [(0, l)] } }
def Sa : State := ws (wc Sp 9 ctx0) [st9]
def g0 : ElCtl := ⟨0, 1, 0x3F800000, 0x3F800000, 0, 0, 0, true⟩
def en (toks : List Nat) (plen : Nat) : ElEntry := ⟨9, 3, 7, 0, toks, plen, g0, [[(5, 0x3F800000)]]⟩
def l0 (e : ElEntry) : ElLaunch := ⟨6, false, 100, [e], [], false, false⟩
/-- flags: context 0, page -/
def Sfl (s : State) : State := (((s.sf FLG_CTL FLG_CTL_EN 1).putBytes 0x10 (leBytes 8 0x1001 ++ leBytes 8 9)).putBytes 0x1004 (leBytes 4 0xE0000123))
def Sft (s : State) : State := (Sfl s).putFlag (0x123*64+5) true false
def St : State := Sft (wl Sa (l0 (en [3,4] 2)))
def tl (step : Nat) : List Byte := fit 1088 (leBytes 4 9 ++ leBytes 2 3 ++ [0, 0] ++ leBytes 8 step ++ leBytes 4 1 ++ leBytes 4 0 ++ List.replicate 40 0 ++ leBytes 4 5 ++ leBytes 4 0x3F800000)
def tr (s : State) := s.translate 8 (kpFctx prR) (kpCflagVbase prR + epTailFlag epR + 0) needConsume
def ft (s : State) := (tr s).2.flagTake ((tr s).1.getD 0) true
def rt (s : State) := (ft s).2.readTails 0 (l0 (en [3,4] 2)) epR
def St6 : State := St.putBytes 0x60010000 (tl 6)
def St5 : State := St.putBytes 0x60010000 (tl 5)
def late (s : State) : State := { s with time := { s.time with acc := 10000000*2^32 } }
def lx (e : ElEntry) : ElLaunch := { l0 e with expired := true }
def ld (e : ElEntry) (ts : List (Nat × Nat)) : ElLaunch := { l0 e with tails := [(0, [ts.map (fun t => some ⟨[t, (t.1+1, 0x3F000000)], 0⟩)])] }
def l2 (a : Nat) := ld (en [44,5] 0) [(a, 0x3F900000), (80, 0x3F900000)]
def hd : List Byte := fit 64 (leBytes 4 1 ++ leBytes 2 1 ++ leBytes 2 256 ++ leBytes 2 4 ++ leBytes 2 2 ++ leBytes 2 64 ++ [0,0] ++ leBytes 4 128 ++ leBytes 4 64 ++ leBytes 4 1000 ++ [0x54#8, 0x01#8, 0, 0] ++ leBytes 4 0x3F800000 ++ leBytes 4 0x3F800000 ++ leBytes 8 200)
def wdr (s : State) : State := { s with eland := { s.eland with draft := some (hd, 2) } }
def hd0 : List Byte := fit 64 (leBytes 4 1 ++ leBytes 2 0 ++ leBytes 2 32 ++ leBytes 2 1 ++ leBytes 2 1 ++ leBytes 2 32 ++ [0,0] ++ leBytes 4 32 ++ leBytes 4 2 ++ leBytes 4 1 ++ [0x54#8, 0x01#8, 0, 0] ++ leBytes 4 0x3F800000 ++ leBytes 4 0x3F800000 ++ leBytes 8 100)
def wdr0 (s : State) : State := { s with eland := { s.eland with draft := some (hd0, 1) } }
def rd0 : List Machine.Num × State := (wdr0 Sa).runDraft st9.stream st9.dfirst ((wdr0 Sa).cx st9.stream cxTOKENS + st9.drafts.length) (st9.drafts.getLastD ((wdr0 Sa).cx st9.stream exLAST))
def rcd (k e : Nat) : ElRecord := ⟨k, 9, 5, [1,2,3], e, [], [], []⟩
def wst (s : State) (l : List ElRecord) : State := { s with eland := { s.eland with staged := l } }
def cf (p : Nat) : ElandConfigSpec := ⟨BitVec.ofNat 32 p, 80000, none, some 2, 1000, 0x30000000, 4, 0x3F000000, 4⟩
def Sl (s : State) : State := { s with col := { s.col with slotActive := some ⟨[0, 0], 40000⟩ } }
def sm : SamplerSpec := ⟨0x3F800000, 0x3F000000, 0x3F800000, 0, 0, 5, 10, 4, true⟩
def at0 : AttachSpec := ⟨false, true, 100, [5, 6], 0x1234, 8, 0x71000000, 3, 0⟩
def Sl3 : State := ((wc Sp 9 ctx0).putBytes 0x71000000 (leBytes 4 6 ++ leBytes 4 7 ++ leBytes 4 8))

/-- States and operands that meet the hypotheses of ElandStepsFollowTheLaunch, clause by clause. -/
theorem witness_ElandStepsFollowTheLaunch :
    (∃ (s : State) (c : Fin 2) (pf : Bool), s.eland.configured = true ∧ (∀ l, s.elLaunch c.val = some l → s.tailsOver l
      = true ∧ l.sampled = true) ∧ s.domainRuns (1 + c.val) = true ∧ s.leaseLapsed = false ∧ (s.startNs c.val (s.elStep
      c.val) s.now).2 = false ∧ (pf = true → s.prefillDue c.val = true) ∧ (pf = false → ∀ e ∈ s.eland.streams, e.cohort
      = c.val → e.prefill = [] → s.drafting e = false))
    ∧ (∃ (s : State) (c : Fin 2) (pf : Bool) (p : Fin 8) (rec pr : List Byte), s.eland.configured = true ∧ s.elLaunch
      c.val = none ∧ s.domainRuns (1 + c.val) = true ∧ s.leaseLapsed = false ∧ (pf = true → s.prefillDue c.val = true) ∧
      (pf = false → ∀ e ∈ s.eland.streams, e.cohort = c.val → e.prefill = [] → s.drafting e = false) ∧ s.eland.ports =
      [(p.val, rec)] ∧ s.profile p.val = some pr ∧ ((s.poke (accelAddr p.val (epLaunchOff rec + c.val * epLaunchBytes
      rec)) (launchBlock c.val ⟨s.elStep c.val, pf, (s.startNs c.val (s.elStep c.val) s.now).1, ((s.eland.streams.filter
      (fun e => e.cohort == c.val && s.elReady e && (if pf then e.prefill != [] else e.prefill == [] && s.cx e.stream
      exLAST_VALID == 1))).take 128).map s.elEntry, [], false, false⟩ ((tailAddr pr rec).getD 0 + c.val *
      tailArea))).store (accelAddr p.val (kpDoorbell pr)) (leBytes (if kpDb8 pr then 8 else 4) (s.elStep c.val * 2 +
      c.val))).1 = none)
    ∧ (∃ (s : State) (c : Fin 2) (pf : Bool) (l : ElLaunch), s.elLaunch c.val = some l ∧ s.tailsOver l = false)
    ∧ (∃ (s s1 s2 s3 : State) (c : Fin 2) (p : Fin 8) (l : ElLaunch) (rec pr : List Byte) (f : Nat) (rows : List (List
      (Option ElTail))), s.elLaunch c.val = some l ∧ s.elPort p.val = some rec ∧ s.profile p.val = some pr ∧ l.expired =
      false ∧ l.sampled = false ∧ (∀ t ∈ l.tails, t.1 ≠ p.val) ∧ s.now < l.start + s.eland.limit ∧ s.translate 8 (kpFctx
      pr) (kpCflagVbase pr + epTailFlag rec + c.val) needConsume = (some f, s1) ∧ s1.flagTake f true = (true, s2) ∧
      s2.readTails c.val l rec = (true, rows, s3))
    ∧ (∃ (s s1 s2 : State) (c : Fin 2) (p : Fin 8) (l : ElLaunch) (rec pr : List Byte) (f : Nat), s.elLaunch c.val =
      some l ∧ s.elPort p.val = some rec ∧ s.profile p.val = some pr ∧ l.expired = false ∧ l.sampled = false ∧ (∀ t ∈
      l.tails, t.1 ≠ p.val) ∧ s.now < l.start + s.eland.limit ∧ s.translate 8 (kpFctx pr) (kpCflagVbase pr + epTailFlag
      rec + c.val) needConsume = (some f, s1) ∧ s1.flagTake f true = (true, s2) ∧ (s2.readTails c.val l rec).1 = false)
    ∧ (∃ (s : State) (c : Fin 2) (l : ElLaunch), s.elLaunch c.val = some l ∧ s.tailsOver l = false ∧ l.sampled = false ∧
      l.start + s.eland.limit ≤ s.now)
    ∧ (∃ (s : State) (c : Fin 2) (l : ElLaunch), s.elLaunch c.val = some l ∧ s.now < l.start + s.eland.limit)
    ∧ (∃ (s : State) (c : Fin 2) (l : ElLaunch), s.elLaunch c.val = some l ∧ l.sampled = false ∧ l.expired = true ∧
      s.domainRuns (1 + c.val) = true ∧ (∀ e ∈ s.eland.streams, e.leaving = false))
    ∧ (∃ (s : State) (c : Fin 2) (l : ElLaunch) (e : ElEntry) (pos : List (Nat × Nat) × List Nat) (tok : Nat),
      s.elLaunch c.val = some l ∧ l.sampled = false ∧ s.tailsOver l = true ∧ s.domainRuns (1 + c.val) = true ∧
      s.eland.draft = none ∧ s.eland.advances = [] ∧ l.entries = [e] ∧ 0 < e.plen ∧ e.ctl.greedy = true ∧ s.onDie
      e.stream ∧ s.cx e.stream cxGEN = e.gen ∧ s.cx e.stream exATTACHED = 1 ∧ s.position l 0 0 = some pos ∧ tok < 2 ^ 32
      ∧ (elDist 0 e.ctl ((s.history e.stream 256).drop ((s.history e.stream 256).length - e.ctl.repWin)) pos.1).map
      (·.1) = [tok] ∧ s.cx e.stream exMAX_TOKENS = 0 ∧ (∀ i, i < 4 → s.cx e.stream (exSTOP i) = 0xFFFFFFFF) ∧ (∀ x ∈
      s.eland.streams, x.leaving = false))
    ∧ (∃ (s : State) (c : Fin 2) (l : ElLaunch) (e : ElEntry) (p0 p1 : List (Nat × Nat) × List Nat) (last d bonus :
      Nat), s.elLaunch c.val = some l ∧ l.sampled = false ∧ s.tailsOver l = true ∧ s.domainRuns (1 + c.val) = true ∧
      l.entries = [e] ∧ e.plen = 0 ∧ e.tokens = [last, d] ∧ e.ctl.greedy = true ∧ e.ctl.repWin = 0 ∧ s.onDie e.stream ∧
      s.cx e.stream cxGEN = e.gen ∧ s.cx e.stream exATTACHED = 1 ∧ s.position l 0 0 = some p0 ∧ s.position l 0 1 = some
      p1 ∧ (elDist 0 e.ctl [] p0.1).map (·.1) = [d] ∧ (elDist 0 e.ctl [d] p1.1).map (·.1) = [bonus] ∧ bonus < 2 ^ 32 ∧
      s.cx e.stream exMAX_TOKENS = 0 ∧ (∀ i, i < 4 → s.cx e.stream (exSTOP i) = 0xFFFFFFFF) ∧ (∀ x ∈ s.eland.streams,
      x.leaving = false))
    ∧ (∃ (s : State) (c : Fin 2) (l : ElLaunch) (e : ElEntry) (p0 : List (Nat × Nat) × List Nat) (last d x : Nat),
      s.elLaunch c.val = some l ∧ l.sampled = false ∧ s.tailsOver l = true ∧ s.domainRuns (1 + c.val) = true ∧ l.entries
      = [e] ∧ e.plen = 0 ∧ e.tokens = [last, d] ∧ e.ctl.greedy = true ∧ e.ctl.repWin = 0 ∧ s.onDie e.stream ∧ s.cx
      e.stream cxGEN = e.gen ∧ s.cx e.stream exATTACHED = 1 ∧ s.position l 0 0 = some p0 ∧ (elDist 0 e.ctl [] p0.1).map
      (·.1) = [x] ∧ x ≠ d ∧ x < 2 ^ 32 ∧ s.cx e.stream exMAX_TOKENS = 0 ∧ (∀ i, i < 4 → s.cx e.stream (exSTOP i) =
      0xFFFFFFFF) ∧ (∀ y ∈ s.eland.streams, y.leaving = false))
    ∧ (∃ (s s1 : State) (c : Fin 2) (j : Fin 9) (e : ElStream) (ls : List Machine.Num) (d w : Nat) (order : List (BitVec
      20)), 0 < j.val ∧ s.eland.draft.isSome = true ∧ s.domainRuns (1 + c.val) = true ∧ s.eland.advances = [] ∧ (∀ l,
      s.elLaunch c.val = some l → l.sampled = true) ∧ s.eland.streams.filter (fun x => x.cohort == c.val && s.draftsAt x
      j.val) = [e] ∧ s.runDraft e.stream e.dfirst (s.cx e.stream cxTOKENS + e.drafts.length) (e.drafts.getLastD (s.cx
      e.stream exLAST)) = (ls, s1) ∧ elDist s1.free (e.ctl.getD (s.elCtl e.stream)) (s.history e.stream (e.ctl.getD
      (s.elCtl e.stream)).repWin ++ e.drafts) (topLogits ls) = [(d, w)])
    ∧ (∃ (s : State) (c : Fin 2) (j : Fin 9) (l : ElLaunch) (order : List (BitVec 20)), s.elLaunch c.val = some l ∧
      l.sampled = false)
    ∧ (∃ (s : State), s.leaseLapsed = true)
    ∧ (∃ (s : State), s.leaseLapsed = false ∧ (∀ r ∈ s.eland.staged, r.cstep ≤ s.rd64 CKP_REPLICA → r.endReason = 0))
    ∧ (∃ (s : State) (r : ElRecord), s.leaseLapsed = false ∧ s.eland.staged = [r] ∧ r.cstep ≤ s.rd64 CKP_REPLICA ∧
      r.endReason ≠ 0 ∧ s.onDie r.stream)
    ∧ (∃ (s : State) (h : List Byte) (d : Nat), s.eland.draft = some (h, d) ∧ d ≤ 1024 ∧ s.eland.streams = [] ∧
      s.eland.idleSince + 10000000 ≤ s.now)
    ∧ (∃ (s : State), s.eland.streams ≠ []) :=
  ⟨⟨Sa, 0, false, by decide +kernel⟩,
   ⟨Sa, 0, false, 0, epR, prR, by decide +kernel⟩,
   ⟨(wl Sa (l0 (en [44,5] 0))), 0, false, (l0 (en [44,5] 0)), by decide +kernel⟩,
   ⟨St6, ((tr St6).2), ((ft St6).2), ((rt St6).2.2), 0, 0, (l0 (en [3,4] 2)), epR, prR, ((tr St6).1.getD 0), ((rt
     St6).2.1), by decide +kernel⟩,
   ⟨St5, ((tr St5).2), ((ft St5).2), 0, 0, (l0 (en [3,4] 2)), epR, prR, ((tr St5).1.getD 0), by decide +kernel⟩,
   ⟨(late St), 0, (l0 (en [3,4] 2)), by decide +kernel⟩,
   ⟨St, 0, (l0 (en [3,4] 2)), by decide +kernel⟩,
   ⟨(wl Sa (lx (en [44,5] 0))), 0, (lx (en [44,5] 0)), by decide +kernel⟩,
   ⟨(wl Sa (ld (en [44,5] 2) [(77, 0x3F900000)])), 0, (ld (en [44,5] 2) [(77, 0x3F900000)]), (en [44,5] 2), ([(77,
     0x3F900000), (78, 0x3F000000)], [0]), 77, by decide +kernel⟩,
   ⟨(wl Sa (l2 5)), 0, (l2 5), (en [44,5] 0), ([(5, 0x3F900000), (6, 0x3F000000)], [0]), ([(80, 0x3F900000), (81,
     0x3F000000)], [0]), 44, 5, 80, by decide +kernel⟩,
   ⟨(wl Sa (l2 7)), 0, (l2 7), (en [44,5] 0), ([(7, 0x3F900000), (8, 0x3F000000)], [0]), 44, 5, 7, by decide +kernel⟩,
   ⟨(wdr0 Sa), rd0.2, 0, 1, st9, rd0.1, 0, 0x3F800000, [9, 9, 4], by
     (repeat' with_reducible apply And.intro) <;> first | exact Prod.mk.eta.symm | decide +kernel⟩,
   ⟨(wl (wdr0 Sa) (l0 (en [44,5] 0))), 0, 1, (l0 (en [44,5] 0)), [9], by decide +kernel⟩,
   ⟨((late Sa).sf CKP_CTL CKP_CTL_LEASE_EN 1), by decide +kernel⟩,
   ⟨(wst Sa [rcd 0 0, rcd 5 2, rcd 0 0]), by decide +kernel⟩,
   ⟨(wst Sa [rcd 0 1]), (rcd 0 1), by decide +kernel⟩,
   ⟨(late (wdr Sp)), hd, 2, by decide +kernel⟩,
   ⟨Sa, by decide +kernel⟩⟩

/-- States and operands that meet the hypotheses of ElandRequestsAreCheckedAndAnswered, clause by clause. -/
theorem witness_ElandRequestsAreCheckedAndAnswered :
    (∃ (s : State) (r : SynReq) (c : ElandConfigSpec), s.synRefusal 0x0700 (domEland 0) r = none ∧ s.eland.streams ≠ [])
    ∧ (∃ (s : State) (r : SynReq) (c : ElandConfigSpec), s.synRefusal 0x0700 (domEland 0) r = none ∧ s.eland.streams =
      [] ∧ c.period.toNat % 40000 ≠ 0)
    ∧ (∃ (s : State) (r : SynReq) (c : ElandConfigSpec) (a : SlotList), s.synRefusal 0x0700 (domEland 0) r = none ∧
      s.eland.streams = [] ∧ 0 < c.period.toNat ∧ c.period.toNat % 40000 = 0 ∧ s.col.slotActive = some a ∧ a.t ≤
      c.t0.toNat ∧ (c.t0.toNat - a.t) % slotNs = 0 ∧ c.vocab ≠ 0 ∧ c.dBase.toNat % 4096 = 0 ∧ c.hBase.toNat % 1024 = 0 ∧
      inHbm c.hBase.toNat (c.hCount * 1024) = true ∧ inHbm c.dBase.toNat 0 = true)
    ∧ (∃ (s : State) (r : SynReq) (p : Fin 8) (rec : List Byte), s.synRefusal 0x0701 (domEland 0) r = none ∧
      s.eland.streams ≠ [])
    ∧ (∃ (s : State) (r : SynReq) (p : Fin 8) (rec : List Byte), s.synRefusal 0x0701 (domEland 0) r = none ∧
      s.eland.streams = [] ∧ rec.length = 64 ∧ epValid rec = true ∧ s.portRecOk p.val rec = false)
    ∧ (∃ (s : State) (r : SynReq) (p : Fin 8) (rec : List Byte), s.synRefusal 0x0701 (domEland 0) r = none ∧
      s.eland.streams = [] ∧ rec.length = 64 ∧ epValid rec = true ∧ s.portRecOk p.val rec = true)
    ∧ (∃ (s : State) (r : SynReq) (a : W64) (len : Nat), s.synRefusal 0x0702 (domEland 0) r = none ∧ s.eland.streams ≠
      [])
    ∧ (∃ (s : State) (r : SynReq) (a : W64) (len : Nat), s.synRefusal 0x0702 (domEland 0) r = none ∧ s.eland.streams =
      [] ∧ (s.load a.toNat len).1 = none ∧ s.draftOk (fit 64 (s.load a.toNat len).2.1) = false)
    ∧ (∃ (s : State) (r : SynReq) (a : W64) (len d : Nat) (bs : List Byte), s.synRefusal 0x0702 (domEland 0) r = none ∧
      s.eland.streams = [] ∧ (s.load a.toNat len).1 = none ∧ (s.load a.toNat len).2.1 = bs ∧ s.draftOk (fit 64 bs) =
      true ∧ edBody (fit 64 bs) + 64 = len ∧ draftClusters (edBody (fit 64 bs)) = some d)
    ∧ (∃ (s : State) (r : SynReq) (n : BitVec 20) (gen : W16) (f : SamplerSpec) (a : AttachSpec), s.synRefusal 0x0703
      (domEland (b2n a.cohort)) r = none ∧ s.onDie n.toNat ∧ gen.toNat ≠ s.cx n.toNat cxGEN)
    ∧ (∃ (s : State) (r : SynReq) (n : BitVec 20) (gen : W16) (f : SamplerSpec) (a : AttachSpec), s.synRefusal 0x0703
      (domEland (b2n a.cohort)) r = none ∧ s.onDie n.toNat ∧ gen.toNat = s.cx n.toNat cxGEN ∧ samplerOk f = true ∧ a.nt
      ≤ 131072 ∧ a.pf ≤ a.nt ∧ s.cx n.toNat cxSTATE ≠ stResuming ∧ s.cx n.toNat cxSTATE ≠ stActive)
    ∧ (∃ (s : State) (r : SynReq) (n : BitVec 20) (gen : W16) (f : SamplerSpec) (a : AttachSpec), s.synRefusal 0x0703
      (domEland (b2n a.cohort)) r = none ∧ s.onDie n.toNat ∧ gen.toNat = s.cx n.toNat cxGEN ∧ samplerOk f = true ∧ a.nt
      ≤ 131072 ∧ a.pf = 0 ∧ s.cx n.toNat cxSTATE = stActive ∧ (kcPorts (s.classRec (s.cx n.toNat cxCLASS))).map (·.2) =
      s.eland.ports.map (·.1) ∧ s.elPortsOk = true ∧ s.cx n.toNat exLAST_VALID = 0)
    ∧ (∃ (s : State) (r : SynReq) (n : BitVec 20) (gen : W16) (f : SamplerSpec) (a : AttachSpec) (c : Nat) (bs : List
      Byte) (inputs : List Nat), s.synRefusal 0x0703 (domEland (b2n a.cohort)) r = none ∧ s.onDie n.toNat ∧ gen.toNat =
      s.cx n.toNat cxGEN ∧ samplerOk f = true ∧ a.nt ≤ 131072 ∧ a.pf ≤ a.nt ∧ (s.cx n.toNat cxSTATE = stActive ∨ s.cx
      n.toNat cxSTATE = stResuming) ∧ (kcPorts (s.classRec (s.cx n.toNat cxCLASS))).map (·.2) = s.eland.ports.map (·.1)
      ∧ s.elPortsOk = true ∧ (a.pf = 0 → s.cx n.toNat exLAST_VALID = 1) ∧ s.elStreamOf n.toNat = none ∧ s.pickCohort a =
      some c ∧ (s.load a.listAddr.toNat (4 * a.nt)).1 = none ∧ (s.load a.listAddr.toNat (4 * a.nt)).2.1 = bs ∧ inputs =
      (if a.pf = 0 then [] else (if s.cx n.toNat exLAST_VALID = 1 then [s.cx n.toNat exLAST] else []) ++ ((List.range
      a.nt).map (fun i => fieldLE bs (4 * i) 4)).drop (a.nt - a.pf)) ∧ s.eland.streams.length < s.eland.dCount ∧
      s.eland.streams.length < s.eland.hCount ∧ s.promptUsed c + 4 * inputs.length ≤ s.eland.ports.foldl (fun m e => min
      m (epLaunchBytes e.2 - 8256)) (2 ^ 24))
    ∧ (∃ (s : State) (r : SynReq) (n : BitVec 20) (gen : W16), s.synRefusal 0x0704 (domEland (s.elCohortOf n.toNat)) r =
      none ∧ s.onDie n.toNat ∧ gen.toNat = s.cx n.toNat cxGEN ∧ s.elStreamOf n.toNat = none)
    ∧ (∃ (s : State) (r : SynReq) (n : BitVec 20) (gen : W16) (e : ElStream) (l : ElLaunch), s.synRefusal 0x0704
      (domEland (s.elCohortOf n.toNat)) r = none ∧ s.onDie n.toNat ∧ gen.toNat = s.cx n.toNat cxGEN ∧ s.elStreamOf
      n.toNat = some e ∧ s.elLaunch e.cohort = some l ∧ l.sampled = false ∧ (∃ x ∈ l.entries, x.stream = n.toNat))
    ∧ (∃ (s : State) (r : SynReq) (n : BitVec 20) (gen : W16) (e : ElStream), s.synRefusal 0x0704 (domEland
      (s.elCohortOf n.toNat)) r = none ∧ s.onDie n.toNat ∧ gen.toNat = s.cx n.toNat cxGEN ∧ s.elStreamOf n.toNat = some
      e ∧ s.elLaunch e.cohort = none ∧ (∀ x ∈ s.eland.staged, x.stream ≠ n.toNat))
    ∧ (∃ (s : State) (r : SynReq) (n : BitVec 20) (gen : W16) (f : SamplerSpec) (m : BitVec 32) (st : List (BitVec 32)),
      s.synRefusal 0x0705 (domEland (s.elCohortOf n.toNat)) r = none ∧ s.onDie n.toNat ∧ gen.toNat = s.cx n.toNat cxGEN
      ∧ (s.elStreamOf n.toNat).isSome = true ∧ samplerOk f = false)
    ∧ (∃ (s : State) (r : SynReq) (n : BitVec 20) (gen : W16) (f : SamplerSpec) (m : BitVec 32) (st : List (BitVec 32)),
      s.synRefusal 0x0705 (domEland (s.elCohortOf n.toNat)) r = none ∧ s.onDie n.toNat ∧ gen.toNat = s.cx n.toNat cxGEN
      ∧ (s.elStreamOf n.toNat).isSome = true ∧ samplerOk f = true)
    ∧ (∃ (s : State) (r : SynReq) (n : BitVec 20) (gen : W16), s.synRefusal 0x0706 (domEland (s.elCohortOf n.toNat)) r =
      none ∧ s.onDie n.toNat ∧ gen.toNat = s.cx n.toNat cxGEN)
    ∧ (∃ (s : State) (r : SynReq), s.synRefusal 0x0707 (domEland 0) r = none) :=
  ⟨⟨Sa, rq, (cf 80000), by decide +kernel⟩,
   ⟨Sb, rq, (cf 80001), by decide +kernel⟩,
   ⟨(Sl Sb), rq, (cf 80000), ⟨[0, 0], 40000⟩, by decide +kernel⟩,
   ⟨Sa, rq, 0, epR, by decide +kernel⟩,
   ⟨Sc, rq, 1, epR, by decide +kernel⟩,
   ⟨Sc, rq, 0, epR, by decide +kernel⟩,
   ⟨Sa, rq, 0x70000000, 264, by decide +kernel⟩,
   ⟨Sc, rq, 0x70000000, 264, by decide +kernel⟩,
   ⟨(Sc.putBytes 0x70000000 hd), rq, 0x70000000, 264, 512, (hd ++ List.replicate 200 0), by decide +kernel⟩,
   ⟨(wc Sp 9 ctx0), rq, 9, 4, sm, at0, by decide +kernel⟩,
   ⟨(wc Sp 9 (cxw [(cxGEN, 3)])), rq, 9, 3, sm, at0, by decide +kernel⟩,
   ⟨(wc Sp 9 (cxw [(cxGEN, 3), (cxSTATE, 3)])), rq, 9, 3, sm, at0, by decide +kernel⟩,
   ⟨(wc Sp 9 ctx0), rq, 9, 3, sm, at0, 1, (List.replicate 12 0), [], by decide +kernel⟩,
   ⟨(wc Sp 9 ctx0), rq, 9, 3, by decide +kernel⟩,
   ⟨(wl Sa (l0 (en [3,4] 2))), rq, 9, 3, st9, (l0 (en [3,4] 2)), by decide +kernel⟩,
   ⟨Sa, rq, 9, 3, st9, by decide +kernel⟩,
   ⟨Sa, rq, 9, 3, ({ sm with topk := 0 }), 5, [], by decide +kernel⟩,
   ⟨Sa, rq, 9, 3, ({ sm with temp := 0x80000000 }), 5, [], by decide +kernel⟩,
   ⟨Sa, rq, 9, 3, by decide +kernel⟩,
   ⟨Sa, rq, by decide +kernel⟩⟩

end C07

namespace C08

def Sh : State := S0.sf HBM_STATUS HBM_STATUS_READY 1
def SR (s : State) : State := { s with hbm := { s.hbm with sr := 63 } }
def SQ (s : State) (l : List HbmReq) : State := { s with hbm := { s.hbm with queue := l } }
def rqh (l : Nat) : HbmReq := ⟨l, 0x1040, 64, none, false, false⟩
def Sl (x : Nat) : State := { SQ Sh [rqh 1] with lfsr := [(arbId arbHbm 16, BitVec.ofNat 16 x)] }
def d64 : List Byte := (List.range 64).map (BitVec.ofNat 8)
def Sd : State := Sh.setChan 5 ⟨[(1, 3)], false, false, 3, 9, 0, 0⟩
def Sn : State := { Sd with hbm := { Sd.hbm with next := some ⟨[], []⟩, waiting := [5] } }

/-- States and operands that meet the hypotheses of HbmAccessesDrawAtTheirChannel, clause by clause. -/
theorem witness_HbmAccessesDrawAtTheirChannel :
    (∃ (s : State) (src : HbmSource) (a : BitVec 38) (g l b gap : Nat), g = hbmChannel b ∧ b = a.toNat / 64 * 64 ∧ l =
      s.lineOf g src ∧ l < 8 ∧ a.toNat < hbmBytes ∧ s.chanOpen g gap ∧ ((s.arbSet g).quota l = 0 ∨ Tab.get (fun _ => 0)
      (s.chan g).used l < (s.arbSet g).quota l) ∧ s.lineMark b = .clean)
    ∧ (∃ (s : State) (l : Fin 8) (a : BitVec 38) (g b gap : Nat), g = hbmChannel b ∧ b = a.toNat / 64 * 64 ∧ a.toNat <
      hbmBytes ∧ s.chanOpen g gap ∧ (s.arbSet g).quota l.val = 0 ∧ s.lineMark b = .uncorrected ∧ s.bit HBM_ERR_FIRST
      HBM_ERR_FIRST_VALID = false)
    ∧ (∃ (s : State) (l : Fin 8) (a : BitVec 38) (r : HbmReq) (g b gap : Nat), g = hbmChannel b ∧ b = a.toNat / 64 * 64
      ∧ a.toNat < hbmBytes ∧ s.chanGoes g gap ∧ s.hbm.queue.filter (fun x => hbmChannel x.addr == g) = [r] ∧ (s.arbSet
      g).quota l.val = 0 ∧ r.line < 8 ∧ 0 < (s.arbSet g).quota r.line ∧ Tab.get (fun _ => 0) (s.chan g).used r.line <
      (s.arbSet g).quota r.line ∧ r.data = none ∧ r.scrub = false ∧ s.lineMark r.addr = .clean ∧ s.lineMark b = .clean)
    ∧ (∃ (s : State) (l : Fin 8) (a : BitVec 38) (r : HbmReq) (g b gap x tl tr : Nat), g = hbmChannel b ∧ b = a.toNat /
      64 * 64 ∧ a.toNat < hbmBytes ∧ s.chanGoes g gap ∧ s.hbm.queue.filter (fun x => hbmChannel x.addr == g) = [r] ∧
      l.val < r.line ∧ r.line < 8 ∧ (s.arbSet g).quota l.val = 0 ∧ (s.arbSet g).quota r.line = 0 ∧ tl = (s.arbSet
      g).tickets l.val ∧ tr = (s.arbSet g).tickets r.line ∧ 0 < tl + tr ∧ s.lost (arbId arbHbm g) l.val < 63 ∧ s.lost
      (arbId arbHbm g) r.line < 63 ∧ x = lfsrRun (gap + 1) (s.lfsrOf (arbId arbHbm g)) % 2 ^ 16 ∧ r.data = none ∧
      r.scrub = false ∧ s.lineMark r.addr = .clean ∧ s.lineMark b = .clean)
    ∧ (∃ (s : State) (src : HbmSource) (a : BitVec 38) (more : Bool) (gap : Nat), a.toNat < hbmBytes ∧ (more = true ∨
      s.chanStopped (hbmChannel (a.toNat / 64 * 64)) = true))
    ∧ (∃ (s : State) (src : HbmSource) (a : BitVec 38) (g gap : Nat), g = hbmChannel (a.toNat / 64 * 64) ∧ a.toNat <
      hbmBytes ∧ s.chanOpen g gap ∧ 0 < (s.arbSet g).quota (s.lineOf g src) ∧ (s.arbSet g).quota (s.lineOf g src) ≤
      Tab.get (fun _ => 0) (s.chan g).used (s.lineOf g src))
    ∧ (∃ (s : State) (src : HbmSource) (a : BitVec 38) (more : Bool) (gap : Nat), hbmBytes ≤ a.toNat)
    ∧ (∃ (s : State) (l : Fin 8) (a : BitVec 38) (data : List Byte) (poison : Bool) (gap : Nat), a.toNat + 64 ≤ hbmBytes
      ∧ a.toNat % 64 = 0 ∧ data.length = 64 ∧ s.chanOpen (hbmChannel a.toNat) gap ∧ (s.arbSet (hbmChannel
      a.toNat)).quota l.val = 0 ∧ s.bit CKP_CTL CKP_CTL_EN = false ∧ s.ckp.held = [] ∧ s.flt.injections = [])
    ∧ (∃ (s : State) (l : Fin 8) (a : BitVec 38) (b : Byte) (gap : Nat), a.toNat < hbmBytes ∧ s.chanOpen (hbmChannel
      a.toNat) gap ∧ (s.arbSet (hbmChannel a.toNat)).quota l.val = 0 ∧ s.bit CKP_CTL CKP_CTL_EN = false ∧ s.ckp.held =
      [] ∧ s.flt.injections = [] ∧ s.lineMark (a.toNat / 64 * 64) = .poisoned)
    ∧ (∃ (s : State) (l : Fin 8) (a : BitVec 38) (data : List Byte) (poison more : Bool) (gap : Nat), a.toNat < hbmBytes
      ∧ data ≠ [] ∧ (more = true ∨ s.chanStopped (hbmChannel a.toNat) = true))
    ∧ (∃ (s : State) (g : Fin 192) (line gap : Nat), s.gf HBM_CTL HBM_CTL_SCRUB_HOURS ≠ 0 ∧ s.chanOpen g.val gap ∧ bitAt
      s.hbm.sr (stackOf g.val) = false ∧ (s.chan g.val).used = [] ∧ (s.chan g.val).scrub < chanLines ∧ line = chanAddr
      g.val ((s.chan g.val).scrub * 64) ∧ s.lineMark line = .corrected)
    ∧ (∃ (s : State) (g : Fin 192) (gap : Nat), s.gf HBM_CTL HBM_CTL_SCRUB_HOURS ≠ 0 ∧ s.chanOpen g.val gap ∧ bitAt
      s.hbm.sr (stackOf g.val) = false ∧ (s.chan g.val).used = [] ∧ chanLines ≤ (s.chan g.val).scrub ∧ (s.chan
      g.val).scrubAt + s.scrubPeriod ≤ s.clock ∧ s.lineMark (chanAddr g.val 0) = .clean)
    ∧ (∃ (s : State) (g : Fin 192) (more : Bool) (gap : Nat), s.gf HBM_CTL HBM_CTL_SCRUB_HOURS = 0 ∨ s.chanStopped g.val
      = true ∨ bitAt s.hbm.sr (stackOf g.val) = true ∨ (chanLines ≤ (s.chan g.val).scrub ∧ s.clock < (s.chan
      g.val).scrubAt + s.scrubPeriod)) :=
  ⟨⟨(SR (Sh.putBytes 0x1000 [1,2,3])), (.line 0), 0x1007, 16, 0, 0x1000, 3, by decide +kernel⟩,
   ⟨(Sh.setLineMark 0x1000 .uncorrected), 0, 0x1007, 16, 0x1000, 3, by decide +kernel⟩,
   ⟨(SQ Sh [rqh 7]), 0, 0x1007, (rqh 7), 16, 0x1000, 3, by decide +kernel⟩,
   ⟨(Sl 0xFF01), 0, 0x1007, (rqh 1), 16, 0x1000, 0, (lfsrRun 1 0xFF01 % 2^16), 32, 32, by decide +kernel⟩,
   ⟨S0, (.line 0), 0x1007, false, 0, by decide +kernel⟩,
   ⟨(Sh.setChan 16 ⟨[(7, 64)], false, false, 3, 0, 0, 0⟩), (.line 7), 0x1007, 16, 0, by decide +kernel⟩,
   ⟨Sh, (.line 0), 0x2400000000, false, 0, by decide +kernel⟩,
   ⟨Sh, 3, 0x1000, d64, false, 5, by decide +kernel⟩,
   ⟨(Sh.setLineMark 0x1000 .poisoned), 3, 0x1007, 9, 0, by decide +kernel⟩,
   ⟨S0, 3, 0x1007, d64, true, false, 0, by decide +kernel⟩,
   ⟨(Sh.setLineMark 0x1000 .corrected), 16, 0x1000, 0, by decide +kernel⟩,
   ⟨({ (Sh.sf HBM_CTL HBM_CTL_SCRUB_HOURS 1).setChan 5 ⟨[], false, false, 0, 0, chanLines, 7⟩ with clock := 7 + 3600 *
     156250000 }), 5, 0, by decide +kernel⟩,
   ⟨(Sh.sf HBM_CTL HBM_CTL_SCRUB_HOURS 0), 5, false, 0, by decide +kernel⟩⟩

/-- States and operands that meet the hypotheses of HbmControllersAndArbiterSets, clause by clause. -/
theorem witness_HbmControllersAndArbiterSets :
    (∃ (s : State) (g : Fin 192), bitAt s.hbm.sr (stackOf g.val) = false)
    ∧ (∃ (s : State) (g : Fin 192) (inGap : Bool), inGap = true ∨ bitAt s.hbm.sr (stackOf g.val) = true)
    ∧ (∃ (s : State) (g : Fin 192), 4 ≤ (s.chan g.val).debt)
    ∧ (∃ (s : State) (k : Fin 6) (c : Byte), c.toNat < 105)
    ∧ (∃ (s : State) (k : Fin 6) (c : Byte), 105 ≤ c.toNat ∧ k.val ∉ s.hbm.hot105 ∧ s.flt.broken = [])
    ∧ (∃ (s : State) (k : Fin 6) (c : Byte), 105 ≤ c.toNat ∧ k.val ∈ s.hbm.hot105)
    ∧ (∃ (s : State) (k : Fin 6), s.bit HBM_CTL HBM_CTL_SR_REQ = true ∧ (∀ r ∈ s.hbm.queue, stackOf (hbmChannel r.addr)
      ≠ k.val))
    ∧ (∃ (s : State) (k : Fin 6) (r : HbmReq), r ∈ s.hbm.queue ∧ stackOf (hbmChannel r.addr) = k.val)
    ∧ (∃ (s : State) (q : Requester) (v : W32), coreWrites q = true ∧ s.safe = false)
    ∧ (∃ (s : State) (k : Fin 6) (f : Fin 8), f.val ≠ 0 ∧ s.flt.broken = [])
    ∧ (∃ (s : State), s.gf HBM_STATUS HBM_STATUS_TRAINED = 63 ∧ s.hbmReady = false ∧ s.hbm.trainedAt + nsCycles 31500000
      ≤ s.clock ∧ s.hbm.queue = [])
    ∧ (∃ (s : State) (r : HbmReq) (g : Nat), s.gf HBM_STATUS HBM_STATUS_TRAINED = 63 ∧ s.hbmReady = false ∧
      s.hbm.trainedAt + nsCycles 31500000 ≤ s.clock ∧ s.hbm.queue = [r] ∧ g = hbmChannel r.addr ∧ r.line < 8 ∧ r.addr <
      hbmBytes ∧ r.addr % 64 = 0 ∧ r.len = 64 ∧ r.data = none ∧ r.scrub = false ∧ (s.chan g).frozen = false ∧ (s.chan
      g).debt < 4 ∧ (s.chan g).cycles < 1000 ∧ s.blockDown 10 = false ∧ s.safe = false ∧ (s.arbSet g).quota r.line = 0)
    ∧ (∃ (s : State), s.gf HBM_STATUS HBM_STATUS_TRAINED ≠ 63 ∨ s.clock < s.hbm.trainedAt + nsCycles 31500000)
    ∧ (∃ (s : State) (g : Fin 192), s.hbm.next = none ∧ (s.chan g.val).debt < 4 ∧ (∀ r ∈ s.hbm.queue, hbmChannel r.addr
      ≠ g.val))
    ∧ (∃ (s : State) (g : Fin 192) (n : ArbSet), s.hbm.next = some n ∧ s.hbm.waiting = [g.val] ∧ (s.hbm.want = none ∨
      s.hbm.want = s.hbm.mode) ∧ (s.chan g.val).debt < 4 ∧ (∀ r ∈ s.hbm.queue, hbmChannel r.addr ≠ g.val))
    ∧ (∃ (s : State) (q : Requester) (v : W32), coreWrites q = true ∧ s.arbPending = false ∧ s.blockDown 10 = false ∧
      arbCheck s.staged = none)
    ∧ (∃ (s : State) (q : Requester) (v : W32), coreWrites q = true ∧ s.arbPending = false ∧ s.blockDown 10 = false ∧
      768 < s.staged.lines.foldl (fun n l => n + l.2) 0)
    ∧ (∃ (s : State) (q : Requester) (v : W32), s.arbPending = true)
    ∧ (∃ (s : State) (q : Requester) (v : W32), coreWrites q = true ∧ s.arbPending = false)
    ∧ (∃ (s : State) (q : Requester) (v : W32), coreWrites q = true ∧ bitAt v.toNat 29 = false ∧ v.toNat % 256 < 192)
    ∧ (∃ (s : State) (q : Requester) (v : W32), coreWrites q = true ∧ bitAt v.toNat 29 = true)
    ∧ (∃ (s : State) (q : Requester) (v : W32), coreWrites q = true ∧ bitAt v.toNat 29 = true ∧ s.hbm.queue = [])
    ∧ (∃ (s : State) (g : Fin 192), (s.chan g.val).frozen = true ∧ s.gf ARB_FREEZE ARB_FREEZE_CHANNEL = g.val)
    ∧ (∃ (s : State) (q : Requester) (v : W32) (r : HbmReq) (g : Nat), coreWrites q = true ∧ bitAt v.toNat 29 = false ∧
      g = v.toNat % 256 ∧ g < 192 ∧ s.hbm.queue = [r] ∧ hbmChannel r.addr = g ∧ r.line < 8 ∧ r.data = none ∧ r.scrub =
      false ∧ s.hbmReady = true ∧ s.blockDown 10 = false ∧ s.safe = false ∧ (s.chan g).debt < 4 ∧ (s.chan g).cycles <
      1000 ∧ (s.arbSet g).quota r.line = 0 ∧ s.lineMark r.addr = .clean) :=
  ⟨⟨Sd, 5, by decide +kernel⟩,
   ⟨Sd, 5, true, by decide +kernel⟩,
   ⟨(Sh.setChan 5 ⟨[(1, 3)], false, false, 4, 0, 0, 0⟩), 5, by decide +kernel⟩,
   ⟨Sd, 5, 96, by decide +kernel⟩,
   ⟨Sd, 5, 105, by decide +kernel⟩,
   ⟨({ Sd with hbm := { Sd.hbm with hot105 := [5] } }), 5, 205, by decide +kernel⟩,
   ⟨(Sd.sf HBM_CTL HBM_CTL_SR_REQ 1), 5, by decide +kernel⟩,
   ⟨(SQ (Sd.sf HBM_CTL HBM_CTL_SR_REQ 1) [rqh 1]), 4, (rqh 1), by decide +kernel⟩,
   ⟨(SR Sd), q0, 0xFFFFFFFF, by decide +kernel⟩,
   ⟨Sd, 5, 3, by decide +kernel⟩,
   ⟨({ S0.sf HBM_STATUS HBM_STATUS_TRAINED 63 with clock := nsCycles 31500000 }), by decide +kernel⟩,
   ⟨(SQ { S0.sf HBM_STATUS HBM_STATUS_TRAINED 63 with clock := nsCycles 31500000 } [rqh 1]), (rqh 1), 16, by
     decide +kernel⟩,
   ⟨Sd, by decide +kernel⟩,
   ⟨Sd, 5, by decide +kernel⟩,
   ⟨Sn, 5, ⟨[], []⟩, by decide +kernel⟩,
   ⟨Sd, q0, 0, by decide +kernel⟩,
   ⟨(Sd.wr (ARB_LINE 3) 0x03F00000#32), q0, 0, by decide +kernel⟩,
   ⟨(Sd.sf ARB_COMMIT ARB_COMMIT_PENDING 1), q0, 0, by decide +kernel⟩,
   ⟨Sd, q0, 1, by decide +kernel⟩,
   ⟨Sd, q0, 7, by decide +kernel⟩,
   ⟨Sd, q0, 0x200000FF, by decide +kernel⟩,
   ⟨(Sd.setChan 7 ⟨[(1, 3)], true, true, 4, 0, 0, 0⟩), q0, 0x200000FF, by decide +kernel⟩,
   ⟨((Sd.setChan 7 ⟨[(1, 3)], true, false, 4, 0, 0, 0⟩).sf ARB_FREEZE ARB_FREEZE_CHANNEL 7), 7, by decide +kernel⟩,
   ⟨(SQ (Sd.setChan 16 ⟨[(1, 3)], true, true, 2, 0, 0, 0⟩) [rqh 1]), q0, 16, (rqh 1), 16, by decide +kernel⟩⟩

end C08

namespace C09

def rq : SynReq := ⟨.mailbox 0, 3, 2, 7, 0xFFFF, false, none⟩
def synOn (s : State) : State := ((s.sf DEV_STATUS DEV_STATUS_STAGE 6).sf DEV_ENABLE DEV_ENABLE_EN 1).setMb 0 { Mailbox.reset with session := some ⟨5, false, 0, none⟩ }
def Fe : State := (S0.wr FAB_NODE_ID 7).sf FAB_CTL FAB_CTL_EN 1
def up (s : State) (p st : Nat) : State := (s.sf (FAB_PORT_CTL p) FAB_PORT_CTL_EN 1).sf (FAB_PORT_STATUS p) FAB_PORT_STATUS_STATE st
def F8 : State := Fe.sf FAB_CTL FAB_CTL_FORM 1
def mp (s : State) (p : Nat) (m : List Nat) : State := s.setFp p { s.fp p with map := m }
def U : State := mp (up Fe 3 2) 3 [0,1,2,3]
def late (s : State) : State := { s with clock := 10^12 }
def bad (s : State) (l : Nat) : State := s.setLane l ⟨0, 0, 100, [], 0⟩
def sp (s : State) : State := s.sf (FAB_LANE_STATUS 129) FAB_LANE_STATUS_TRAINED 1
def nm (e : Bool) : NewMap := ⟨6, [0, 8, 2, 3], 70, 0, e⟩
def wn (s : State) (e : Bool) : State := s.setFp 3 { s.fp 3 with newMap := some (nm e) }
def Y : State := synOn Fe
def ks : Vector (BitVec 12) 4 := #v[1, 2, 3, 4]
def wcaps (s : State) : State := s.setFp 3 { s.fp 3 with caps := some ⟨false, true, 99, 4⟩ }
def ct : List Byte := 0x13#8 :: List.replicate 50 0
def ct5 : List Byte := [1,2,3,4,5]
def E3 : State := ((wcaps U).sf (FAB_PORT_ENC 3) FAB_PORT_ENC_EN 1).wr64 (FAB_PORT_KEYS 3) 0x0000000000090005
def Ek : State := { E3 with sec := { E3.sec with slots := [(5, { E3.slotOf 5 with type := 2, owner := ownerInternal, key := List.replicate 32 1 }), (9, { E3.slotOf 5 with type := 2, owner := ownerInternal, key := List.replicate 32 1 })] } }
def ef (an : Nat) (tag : Byte) : List Byte := leBytes 2 an ++ beBytes 6 3 ++ [1,2,3] ++ List.replicate 16 tag
def Eth : State := U.sf (FAB_PORT_CTL 3) FAB_PORT_CTL_MODE 1

/-- States and operands that meet the hypotheses of FabricPortsTrainAndRepair, clause by clause. -/
theorem witness_FabricPortsTrainAndRepair :
    (∃ (s : State) (q : Requester) (v : W32), coreWrites q = true ∧ s.bit FAB_CTL FAB_CTL_EN = false ∧ s.rd64
      FAB_NODE_ID = 0)
    ∧ (∃ (s : State) (q : Requester) (v : W32), coreWrites q = true ∧ s.bit FAB_CTL FAB_CTL_EN = false ∧ s.rd64
      FAB_NODE_ID ≠ 0)
    ∧ (∃ (s : State) (q : Requester) (v : W32), coreWrites q = true ∧ s.bit FAB_CTL FAB_CTL_EN = true ∧ (∀ p, p < 32 →
      s.portEn p = false))
    ∧ (∃ (s : State) (q : Requester) (v : W32) (p : Fin 32), coreWrites q = true ∧ s.bit FAB_CTL FAB_CTL_EN = true ∧
      s.portEn p.val = true)
    ∧ (∃ (s : State) (q : Requester) (p : Fin 32) (v : W32), coreWrites q = true ∧ s.portExists p.val = true ∧ s.portEn
      p.val = false ∧ s.safe = false ∧ (s.sf (FAB_PORT_CTL p.val) FAB_PORT_CTL_MODE (bitsOf v.toNat 8 2)).portCheck
      p.val = none)
    ∧ (∃ (s : State) (q : Requester) (p : Fin 32) (v : W32) (c : Nat), coreWrites q = true ∧ s.portExists p.val = true ∧
      s.portEn p.val = false ∧ s.safe = false ∧ bitsOf v.toNat 8 2 ≠ 3 ∧ (s.sf (FAB_PORT_CTL p.val) FAB_PORT_CTL_MODE
      (bitsOf v.toNat 8 2)).portCheck p.val = some c)
    ∧ (∃ (s : State) (q : Requester) (p : Fin 32) (v : W32), coreWrites q = true ∧ s.portExists p.val = true ∧ s.portEn
      p.val = true ∧ s.safe = false ∧ bitAt v.toNat 1 = false)
    ∧ (∃ (s : State) (q : Requester) (p : Fin 32) (v : W32), coreWrites q = true ∧ s.portExists p.val = true ∧ s.portEn
      p.val = true ∧ bitAt v.toNat 0 = true ∧ s.portLive p.val = true ∧ s.isEth p.val = false)
    ∧ (∃ (s : State) (p : Fin 32), s.clock < (s.fp p.val).trainAt + nsCycles 500000000)
    ∧ (∃ (s : State) (p : Fin 32), s.portState p.val = 1 ∧ (s.fp p.val).trainAt + nsCycles 500000000 ≤ s.clock ∧ s.gf
      FLT_CTL FLT_CTL_MODE = 0)
    ∧ (∃ (s : State) (p : Fin 32), s.portEn p.val = true ∧ (s.portState p.val = 4 ∨ s.portState p.val = 5) ∧ (s.fp
      p.val).downAt + nsCycles 1000000000 ≤ s.clock)
    ∧ (∃ (s : State) (p : Fin 32), s.portEn p.val = false)
    ∧ (∃ (s : State) (lane : Fin 144) (p k sp : Nat), s.lanePorts lane.val = [(p, k)] ∧ k < 8 ∧ p < 32 ∧ s.gf FAB_CTL
      FAB_CTL_FAIL_UCW < (s.laneOf lane.val).ucw ∧ s.portLive p = true ∧ s.isEth p = false ∧ (∀ j ∈ (s.fp p).map,
      s.laneFailed p j = false) ∧ s.laneFailed p k = false ∧ k ∈ (s.fp p).map ∧ (s.fp p).newMap = none ∧ s.standby p =
      some sp)
    ∧ (∃ (s : State) (lane : Fin 144) (p k : Nat), s.lanePorts lane.val = [(p, k)] ∧ k < 8 ∧ p < 32 ∧ s.gf FAB_CTL
      FAB_CTL_FAIL_UCW < (s.laneOf lane.val).ucw ∧ s.portLive p = true ∧ s.isEth p = false ∧ (∀ j ∈ (s.fp p).map,
      s.laneFailed p j = false) ∧ s.laneFailed p k = false ∧ k ∈ (s.fp p).map ∧ (s.fp p).newMap = none ∧ s.standby p =
      none)
    ∧ (∃ (s : State) (p : Fin 32) (m : NewMap), (s.fp p.val).newMap = some m ∧ m.echoed = false ∧ s.portLive p.val =
      true ∧ s.clock < m.sentAt + nsCycles 10000)
    ∧ (∃ (s : State) (p : Fin 32) (m : NewMap), (s.fp p.val).newMap = some m ∧ m.echoed = false ∧ s.portLive p.val =
      true ∧ m.sentAt + nsCycles 10000 ≤ s.clock ∧ s.gf FLT_CTL FLT_CTL_MODE = 0)
    ∧ (∃ (s : State) (p : Fin 32) (m : NewMap), (s.fp p.val).newMap = some m ∧ m.echoed = true ∧ s.portLive p.val = true
      ∧ (∀ k ∈ m.lanes, k ≤ 8 ∧ s.laneFailed p.val k = false) ∧ s.gf FLT_CTL FLT_CTL_MODE = 0)
    ∧ (∃ (s : State) (r : SynReq) (p : Fin 32) (mode : BitVec 2) (enc : Bool) (al : W64) (h : W16) (ks : Vector (BitVec
      12) 4), s.synRefusal 0x0800 domLink r = none ∧ s.portExists p.val = false)
    ∧ (∃ (s : State) (r : SynReq) (p : Fin 32) (mode : BitVec 2) (enc : Bool) (al : W64) (h : W16) (ks : Vector (BitVec
      12) 4), s.synRefusal 0x0800 domLink r = none ∧ s.portExists p.val = true ∧ s.portEn p.val = true)
    ∧ (∃ (s : State) (r : SynReq) (p : Fin 32) (mode : BitVec 2) (enc : Bool) (al : W64) (h : W16) (ks : Vector (BitVec
      12) 4), s.synRefusal 0x0800 domLink r = none ∧ s.portExists p.val = true ∧ s.portEn p.val = false ∧
      (s.portSettings p.val mode.toNat enc al.toNat h.toNat ks.toList).portCheck p.val = none)
    ∧ (∃ (s : State) (r : SynReq) (p : Fin 32) (mode : BitVec 2) (enc : Bool) (al : W64) (h : W16) (ks : Vector (BitVec
      12) 4) (c : Nat), s.synRefusal 0x0800 domLink r = none ∧ s.portExists p.val = true ∧ s.portEn p.val = false ∧
      mode.toNat ≠ 3 ∧ (s.portSettings p.val mode.toNat enc al.toNat h.toNat ks.toList).portCheck p.val = some c)
    ∧ (∃ (s : State) (r : SynReq) (p : Fin 32), s.synRefusal 0x0801 domLink r = none ∧ s.portEn p.val = true)
    ∧ (∃ (s : State) (r : SynReq) (p : Fin 32), s.synRefusal 0x0803 domLink r = none ∧ s.portLive p.val = true ∧ s.isEth
      p.val = false)
    ∧ (∃ (s : State) (r : SynReq) (p : Fin 32) (c : Caps), s.synRefusal 0x0804 domLink r = none ∧ (s.fp p.val).caps =
      some c) :=
  ⟨⟨S0, q0, 0x3302, by decide +kernel⟩,
   ⟨(S0.wr (FAB_NODE_ID+4) 7), q0, 0x3302, by decide +kernel⟩,
   ⟨Fe, q0, 0x3302, by decide +kernel⟩,
   ⟨U, q0, 0x3302, 3, by decide +kernel⟩,
   ⟨Fe, q0, 3, 0, by decide +kernel⟩,
   ⟨Fe, q0, 9, 0x100, 0x682, by decide +kernel⟩,
   ⟨U, q0, 3, 0x100, by decide +kernel⟩,
   ⟨(U.sf (FAB_PORT_STATUS 3) FAB_PORT_STATUS_FAILED 5), q0, 3, 0x101, by decide +kernel⟩,
   ⟨(up Fe 3 1), 3, by decide +kernel⟩,
   ⟨({ up Fe 3 1 with clock := 10^12 }), 3, by decide +kernel⟩,
   ⟨(late (up Fe 3 4)), 3, by decide +kernel⟩,
   ⟨(late Fe), 3, by decide +kernel⟩,
   ⟨(sp (bad U 13)), 13, 3, 1, 8, by decide +kernel⟩,
   ⟨(bad U 13), 13, 3, 1, by decide +kernel⟩,
   ⟨(wn U false), 3, (nm false), by decide +kernel⟩,
   ⟨(late ((wn U false).sf (FAB_PORT_STATUS 3) FAB_PORT_STATUS_FAILED 7)), 3, (nm false), by decide +kernel⟩,
   ⟨((wn U true).sf (FAB_PORT_STATUS 3) FAB_PORT_STATUS_FAILED 2), 3, (nm true), by decide +kernel⟩,
   ⟨(synOn F8), rq, 17, 0, false, 0x1010101010101010, 1, ks, by decide +kernel⟩,
   ⟨(synOn U), rq, 3, 0, false, 0x1010101010101010, 1, ks, by decide +kernel⟩,
   ⟨Y, rq, 3, 1, false, 0x1010101010101010, 1, ks, by decide +kernel⟩,
   ⟨Y, rq, 3, 1, true, 0x1010101010101010, 1, ks, 0x683, by decide +kernel⟩,
   ⟨(synOn U), rq, 3, by decide +kernel⟩,
   ⟨((synOn U).sf (FAB_PORT_STATUS 3) FAB_PORT_STATUS_FAILED 2), rq, 3, by decide +kernel⟩,
   ⟨(wcaps (synOn U)), rq, 3, ⟨false, true, 99, 4⟩, by decide +kernel⟩⟩

/-- States and operands that meet the hypotheses of FramesAndControlCells, clause by clause. -/
theorem witness_FramesAndControlCells :
    (∃ (s : State) (p : Fin 32) (tc : Fin 8) (bs content : List Byte), s.portLive p.val = true ∧ s.isEth p.val = false ∧
      (s.fp p.val).used tc.val + cellsFor bs.length ≤ s.portAlloc p.val tc.val ∧ checkCrc bs = some content ∧ cellsFor
      bs.length ≤ 71 ∧ plainFrame content ∧ content.length ≤ 4352 ∧ s.portEnc p.val = false ∧ s.noOdd p.val)
    ∧ (∃ (s : State) (p : Fin 32) (tc : Fin 8) (bs content : List Byte), s.portLive p.val = true ∧ s.isEth p.val = false
      ∧ (s.fp p.val).used tc.val + cellsFor bs.length ≤ s.portAlloc p.val tc.val ∧ checkCrc bs = some content ∧ cellsFor
      bs.length ≤ 71 ∧ 1 ≤ content.length ∧ content.length ≤ 4352 ∧ (content.length < 48 ∨ frameVersion content ≠ 1) ∧
      s.portEnc p.val = false ∧ s.noOdd p.val)
    ∧ (∃ (s : State) (p : Fin 32) (tc : Fin 8) (enc lost : Bool) (bs : List Byte), s.portLive p.val = true ∧ s.isEth
      p.val = false ∧ s.portAlloc p.val tc.val < (s.fp p.val).used tc.val + cellsFor bs.length)
    ∧ (∃ (s : State) (p : Fin 32) (tc : Fin 8) (enc lost : Bool) (bs : List Byte), s.portLive p.val = true ∧ s.isEth
      p.val = false ∧ (s.fp p.val).used tc.val + cellsFor bs.length ≤ s.portAlloc p.val tc.val ∧ (checkCrc bs = none ∨
      lost = true ∨ 71 < cellsFor bs.length ∨ enc ≠ s.portEnc p.val) ∧ s.noOdd p.val)
    ∧ (∃ (s : State) (p : Fin 32) (tc : Fin 8) (bs content text : List Byte) (an pn : Nat) (c : Caps), s.portLive p.val
      = true ∧ s.isEth p.val = false ∧ (s.fp p.val).used tc.val + cellsFor bs.length ≤ s.portAlloc p.val tc.val ∧
      checkCrc bs = some content ∧ cellsFor bs.length ≤ 71 ∧ 25 ≤ content.length ∧ content.length ≤ 4376 ∧ s.portEnc
      p.val = true ∧ an = (content[0]?.getD 0).toNat % 4 ∧ pn = beNat ((content.drop 2).take 6) ∧ (an = s.rxAn p.val ∨
      an = (s.rxAn p.val + 1) % 4) ∧ (s.fp p.val).rxPn[an]?.getD 0 < pn ∧ s.slotPending (s.portKey p.val an) = false ∧
      s.slotUsable (s.portKey p.val an) 2 ownerInternal = true ∧ (s.fp p.val).caps = some c ∧ s.noOdd p.val)
    ∧ (∃ (s : State) (p : Fin 32) (tc : Fin 8) (bs content : List Byte) (an pn : Nat) (c : Caps), s.portLive p.val =
      true ∧ s.isEth p.val = false ∧ (s.fp p.val).used tc.val + cellsFor bs.length ≤ s.portAlloc p.val tc.val ∧ checkCrc
      bs = some content ∧ cellsFor bs.length ≤ 71 ∧ 25 ≤ content.length ∧ content.length ≤ 4376 ∧ s.portEnc p.val = true
      ∧ an = (content[0]?.getD 0).toNat % 4 ∧ pn = beNat ((content.drop 2).take 6) ∧ an = s.rxAn p.val ∧ (s.fp
      p.val).rxPn[an]?.getD 0 < pn ∧ s.slotPending (s.portKey p.val an) = false ∧ s.slotUsable (s.portKey p.val an) 2
      ownerInternal = true ∧ (s.fp p.val).caps = some c ∧ s.noOdd p.val)
    ∧ (∃ (s : State) (p : Fin 32) (id sw : Byte) (ls : Vector Byte 8) (m : NewMap), s.portLive p.val = true ∧ s.isEth
      p.val = false ∧ (s.fp p.val).newMap = some m ∧ m.mapId = id.toNat ∧ m.lanes = mapLanes ls.toList)
    ∧ (∃ (s : State) (p : Fin 32) (id sw : Byte) (ls : Vector Byte 8), s.portLive p.val = true ∧ s.isEth p.val = false ∧
      (s.fp p.val).newMap = none ∧ id.toNat ≠ s.gf (FAB_PORT_STATUS p.val) FAB_PORT_STATUS_MAP_ID)
    ∧ (∃ (s : State) (p : Fin 32) (form port : Byte) (enc : Bool) (node : W64), s.isEth p.val = false ∧ s.portState
      p.val = 1)
    ∧ (∃ (s : State) (p : Fin 32), s.portLive p.val = true ∧ s.isEth p.val = false)
    ∧ (∃ (s : State) (q : Requester) (p : Fin 32) (v : W32), coreWrites q = true ∧ s.portExists p.val = true ∧ s.portEn
      p.val = true ∧ s.portEnc p.val = true ∧ s.portLive p.val = true)
    ∧ (∃ (s : State) (r : SynReq) (p : Fin 32) (slot : BitVec 12), s.synRefusal 0x0802 domLink r = none ∧ s.slotUsable
      slot.toNat 2 ownerInternal = false)
    ∧ (∃ (s : State) (r : SynReq) (p : Fin 32) (slot : BitVec 12), s.synRefusal 0x0802 domLink r = none ∧ s.slotUsable
      slot.toNat 2 ownerInternal = true ∧ (s.portLive p.val = false ∨ s.isEth p.val = true))
    ∧ (∃ (s : State) (r : SynReq) (p : Fin 32) (slot : BitVec 12), s.synRefusal 0x0802 domLink r = none ∧ s.slotUsable
      slot.toNat 2 ownerInternal = true ∧ s.portLive p.val = true ∧ s.isEth p.val = false)
    ∧ (∃ (s : State) (p : Fin 32) (en : Byte) (qs : Vector W16 8), s.portLive p.val = true ∧ s.isEth p.val = true ∧
      (s.fp p.val).paused.length = 8)
    ∧ (∃ (s : State) (p : Fin 32), s.portLive p.val = true ∧ s.isEth p.val = true ∧ (s.fp p.val).pfcAt + nsCycles 40000
      ≤ s.clock)
    ∧ (∃ (s : State) (p : Fin 32) (c : Fin 8) (x : Nat), (s.fp p.val).paused[c.val]? = some x ∧ 0 < x ∧ x ≤ s.clock + 1)
    ∧ (∃ (s : State) (p : Fin 32) (c : Fin 8) (x : Nat), (s.fp p.val).paused[c.val]? = some x ∧ s.clock + 1 < x)
    ∧ (∃ (s : State) (p : Fin 32) (c : Fin 8), s.isEth p.val = true ∧ s.ethMayStart p.val c.val = false ∧ (s.fp
      p.val).pausedSince[c.val]?.getD 0 + nsCycles 100000000 < s.clock) :=
  ⟨⟨U, 3, 2, (withCrc ct), ct, by decide +kernel⟩,
   ⟨U, 3, 2, (withCrc ct5), ct5, by decide +kernel⟩,
   ⟨(U.wr (FAB_PORT_ALLOC 3) 0), 3, 2, false, false, (withCrc ct), by decide +kernel⟩,
   ⟨U, 3, 2, true, false, (withCrc ct), by decide +kernel⟩,
   ⟨Ek, 3, 2, (withCrc (ef 0 0)), (ef 0 0), [0,0,0], 0, 3, ⟨false, true, 99, 4⟩, by decide +kernel⟩,
   ⟨Ek, 3, 2, (withCrc (ef 0 1)), (ef 0 1), 0, 3, ⟨false, true, 99, 4⟩, by decide +kernel⟩,
   ⟨(wn U false), 3, 6, 70, (#v[0, 8, 2, 3, 255, 255, 255, 255]), (nm false), by decide +kernel⟩,
   ⟨U, 3, 6, 70, (#v[0, 8, 2, 3, 255, 255, 255, 255]), by decide +kernel⟩,
   ⟨(up Fe 3 1), 3, 1, 4, false, 99, by decide +kernel⟩,
   ⟨U, 3, by decide +kernel⟩,
   ⟨Ek, q0, 3, 0x40000000, by decide +kernel⟩,
   ⟨(synOn Ek), rq, 3, 6, by decide +kernel⟩,
   ⟨(synOn Ek), rq, 4, 5, by decide +kernel⟩,
   ⟨(synOn Ek), rq, 3, 5, by decide +kernel⟩,
   ⟨Eth, 3, 5, (#v[100, 1, 0, 1, 1, 1, 1, 1]), by decide +kernel⟩,
   ⟨(late ((Eth.setFp 3 { Eth.fp 3 with pfc := [2, 5], rxq := [(2, [], 700)] }))), 3, by decide +kernel⟩,
   ⟨(late ((Eth.setFp 3 { Eth.fp 3 with paused := [0, 5, 0, 0, 0, 0, 0, 0] }))), 3, 1, 5, by decide +kernel⟩,
   ⟨((Eth.setFp 3 { Eth.fp 3 with paused := [0, 5, 0, 0, 0, 0, 0, 0] })), 3, 1, 5, by decide +kernel⟩,
   ⟨(late ((Eth.setFp 3 { Eth.fp 3 with paused := [0, 1000000000009, 0, 0, 0, 0, 0, 0] }))), 3, 1, by decide +kernel⟩⟩

end C09

namespace C10

def rq : SynReq := ⟨.mailbox 0, 3, 2, 7, 0xFFFF, false, none⟩
def synOn (s : State) : State := ((s.sf DEV_STATUS DEV_STATUS_STAGE 6).sf DEV_ENABLE DEV_ENABLE_EN 1).setMb 0 { Mailbox.reset with session := some ⟨5, false, 0, none⟩ }
def Fe : State := ((S0.wr FAB_NODE_ID 7).sf FAB_CTL FAB_CTL_EN 1).wr TRN_ADDR 0x77
def up (s : State) (p st : Nat) : State := (s.sf (FAB_PORT_CTL p) FAB_PORT_CTL_EN 1).sf (FAB_PORT_STATUS p) FAB_PORT_STATUS_STATE st
def U : State := ((up Fe 3 2).setFp 3 { Fe.fp 3 with map := [0,1,2,3], granted := List.replicate 8 1000 }).sf TRN_CTL TRN_CTL_EN 1
def c0 : Conn := { Conn.reset with state := 2, consumer := 0, pmtu := 4, domain := 9, peerConn := 6, portmask := 8, peerAddr := 0x99, sndNxt := 100, sndUna := 100, sndMsn := 5, sndDone := 5, creditMsn := 9, rcvEpsn := 200, rcvMsn := 50 }
def wcn (s : State) (c : Conn) : State := let s := s.setCn 12 c; { s with trn := { s.trn with cached := [12] } }
def ke : List Byte := fit 32 (leBytes 4 (7 + 0x5A000000) ++ leBytes 2 9 ++ leBytes 2 0 ++ leBytes 8 0x1000 ++ leBytes 8 0x10000)
def K (s : State) : State := { (s.sf TRN_KEY_COUNT TRN_KEY_COUNT_COUNT 16) with trn := { s.trn with keys := [(2, ke)], peer := [(0, ⟨0x500000, true, 20, 3⟩)] } }
def C : State := K (wcn U c0)
def pk : TrnPkt := ⟨3, false, 2, false, false, 0, 0x77, 0x99, 12, 201, 51, 0, 5, 0x5A000002, 0, 0x100, none, [1,2,3,4,5], false⟩
def ms (op msn len : Nat) : Msg := ⟨.internal 3, mkReq op 12 77 0x700000 len 0 0 0 false false false [], msn, 0, false, []⟩
def cr (op : Nat) : Conn := { c0 with active := [ms op 51 5] }
def ca : Conn := { c0 with tx := [⟨0, 100, 3, 5, 0, 5, [], [], 0, none⟩], sndNxt := 103 }
def rm (got : Nat) : RxMsg := ⟨50, 5, got, 0, false, false, false, false, none⟩
def wm (s : State) : State := { s with trn := { s.trn with miss := [(0, false, pk)] } }
def pko : TrnPkt := { pk with total := 4, psn := 200 }
def wstop (s : State) : State := { s with trn := { s.trn with stopped := [(3, 2)] } }
def rqb (op len : Nat) : List Byte := mkReq op 12 77 0x700000 len 0 0 0 false false false []
def RR : State := ((((C.wr TRN_REQ_BASE 0x30006).sf (rCtl TRN_REQ_BASE) CLU_CTL_CMD_EN 1).setRing TRN_REQ_BASE { Ring.reset with tail := 1 }).putBytes 0x30000 (rqb 0 5))
def cw : Conn := { c0 with waiting := [ms 0 0 5, ms 0 0 6] }
def late (s : State) : State := { s with clock := 10^9 }
def wcaps (s : State) (e : Bool) : State := s.setFp 3 { s.fp 3 with caps := some ⟨false, e, 99, 4⟩ }
def N0 : State := (Fe.wr TRN_KEY_BASE 0x20000000).sf TRN_KEY_COUNT TRN_KEY_COUNT_COUNT 16
def wki (s : State) (w : Option Nat) : State := { s.sf TRN_KEY_INVAL TRN_KEY_INVAL_BUSY 1 with trn := { s.trn with keyInval := some w, keys := [(2, ke), (3, ke)] } }
def sw (t lg : Nat) : State := (C.wr64 (PEER_WIN_TARGET 5) t).wr (PEER_WIN_CFG 5) (BitVec.ofNat 32 (2^31 + lg * 256 + 3))
def RC (s : State) : State := ((s.wr TRN_REQ_BASE 0x30006).wr (rCmpl TRN_REQ_BASE) 0x50006).sf (rCtl TRN_REQ_BASE) CLU_CTL_CMPL_EN 1
def Y (s : State) : State := synOn s
def spc : ConnSpec := ⟨false, 2, 3, 4, 9, 5, 8, 0x99, [], 0⟩

/-- States and operands that meet the hypotheses of TransportPacketsAreReceived, clause by clause. -/
theorem witness_TransportPacketsAreReceived :
    (∃ (s : State) (p : TrnPkt) (a : Nat) (c : Conn), s.pktHere p ∧ s.cn p.dstConn.toNat = c ∧ c.state = csReady ∧ c.tx
      = [] ∧ c.place p.psn.toNat = .accept ∧ c.msnOk p.msn.toNat = true ∧ p.msn.toNat ∉ c.rxDone ∧ (s.remoteTarget c
      p.mkey.toNat (p.raddr.toNat + p.offset.toNat) p.data.length true).1 = some a ∧ c.oversized p = false ∧ s.bit
      CKP_CTL CKP_CTL_EN = false ∧ inHbm a p.data.length = true ∧ c.rx = [] ∧ c.consumer < 4)
    ∧ (∃ (s : State) (p : TrnPkt) (c : Conn), s.pktHere p ∧ s.cn p.dstConn.toNat = c ∧ c.state = csReady ∧ c.tx = [] ∧
      c.place p.psn.toNat = .duplicate ∧ c.consumer < 4)
    ∧ (∃ (s : State) (p : TrnPkt) (c : Conn), s.pktHere p ∧ s.cn p.dstConn.toNat = c ∧ c.state = csReady ∧ c.tx = [] ∧
      c.place p.psn.toNat = .accept ∧ c.msnOk p.msn.toNat = true ∧ p.msn.toNat ∉ c.rxDone ∧ (s.remoteTarget c
      p.mkey.toNat (p.raddr.toNat + p.offset.toNat) p.data.length true).1 = none ∧ c.oversized p = false ∧ c.active = []
      ∧ c.waiting = [] ∧ s.trn.owed = [])
    ∧ (∃ (s : State) (p : TrnPkt), s.portLive p.port.val = true ∧ s.isEth p.port.val = p.roce ∧ s.stopped p = false ∧
      (s.trnEn = false ∨ (p.roce = false ∧ p.dstAddr ≠ s.rd TRN_ADDR)))
    ∧ (∃ (s : State) (p : TrnPkt), s.portLive p.port.val = true ∧ s.isEth p.port.val = p.roce ∧ s.trnEn = true ∧ (p.roce
      = true ∨ p.dstAddr = s.rd TRN_ADDR) ∧ s.isCached p.dstConn.toNat = false ∧ s.stopped p = false ∧ s.missCount
      p.port.val < 256)
    ∧ (∃ (s : State) (p : TrnPkt), s.pktHere p ∧ (s.cn p.dstConn.toNat).state ∈ [csFree, csInit, csClosing])
    ∧ (∃ (s : State) (p : TrnPkt) (c : Conn), s.pktHere p ∧ s.cn p.dstConn.toNat = c ∧ c.state = csReady ∧ c.tx = [] ∧
      c.place p.psn.toNat = .accept ∧ c.msnOk p.msn.toNat = true ∧ p.msn.toNat ∉ c.rxDone ∧ c.oversized p = false ∧ 1 ≤
      c.consumer ∧ c.consumer ≤ 3 ∧ (∀ b ∈ s.trn.inbox, ¬(b.conn = p.dstConn.toNat ∧ b.msn = p.msn.toNat)))
    ∧ (∃ (s : State) (p : TrnPkt) (c : Conn), s.pktHere p ∧ s.cn p.dstConn.toNat = c ∧ c.state = csReady ∧ c.tx = [] ∧
      c.place p.psn.toNat = .accept ∧ c.consumer = 0 ∧ c.active = [] ∧ c.waiting = [] ∧ s.trn.owed = [])
    ∧ (∃ (s : State) (p : TrnPkt) (c : Conn) (a : Nat), s.pktHere p ∧ s.cn p.dstConn.toNat = c ∧ c.state = csReady ∧
      c.tx = [] ∧ c.place p.psn.toNat = .accept ∧ c.msnOk p.msn.toNat = true ∧ p.msn.toNat ∉ c.rxDone ∧ (s.remoteTarget
      c p.mkey.toNat p.raddr.toNat p.total.toNat false).1 = some a)
    ∧ (∃ (s : State) (p : TrnPkt) (c : Conn) (x : Msg) (who : Nat), s.pktHere p ∧ s.cn p.dstConn.toNat = c ∧ c.state =
      csReady ∧ c.tx = [] ∧ c.place p.psn.toNat = .accept ∧ c.active = [x] ∧ x.msn = p.msn.toNat ∧ reqOp x.req = 1 ∧
      x.owner = .internal who ∧ x.got + p.data.length = reqLength x.req ∧ x.got = p.offset.toNat ∧ x.poison = false ∧
      p.poison = false ∧ c.oversized p = false ∧ s.bit CKP_CTL CKP_CTL_EN = false ∧ inHbm (reqLocal x.req +
      p.offset.toNat) p.data.length = true ∧ c.consumer < 4)
    ∧ (∃ (s : State) (p : TrnPkt) (c : Conn) (i : TxItem), s.pktHere p ∧ s.cn p.dstConn.toNat = c ∧ c.state = csReady ∧
      c.tx = [i] ∧ i.psn = c.sndUna ∧ 0 < i.count ∧ i.count ≤ 256 ∧ c.sndUna < c.psnMod ∧ c.sndNxt = c.psnAdd c.sndUna
      i.count ∧ p.psn.toNat = c.sndNxt)
    ∧ (∃ (s : State) (p : TrnPkt) (c : Conn) (x : Msg) (who : Nat), s.pktHere p ∧ s.cn p.dstConn.toNat = c ∧ c.state =
      csReady ∧ c.tx = [] ∧ p.psn.toNat = c.sndUna ∧ c.sndUna < c.psnMod ∧ c.active = [x] ∧ x.msn = p.offset.toNat ∧
      x.owner = .internal who ∧ p.total = 0)
    ∧ (∃ (s : State) (p : TrnPkt) (c : Conn), s.pktHere p ∧ s.cn p.dstConn.toNat = c ∧ c.state = csReady ∧ p.total.toNat
      % 256 ∈ [1, 2, 3] ∧ c.active = [] ∧ c.waiting = [] ∧ s.trn.owed = [])
    ∧ (∃ (s : State) (p : TrnPkt) (c : Conn), s.pktHere p ∧ s.cn p.dstConn.toNat = c ∧ c.state = csReady ∧ p.total.toNat
      % 256 = 4 ∧ c.psnDiff p.psn.toNat c.sndUna < c.psnMod / 2)
    ∧ (∃ (s : State) (n : BitVec 20) (m : W32) (c : Conn) (e : RxMsg), s.cn n.toNat = c ∧ c.state = csReady ∧ c.tx = []
      ∧ c.rx = [e] ∧ e.msn = m.toNat ∧ e.whole = true ∧ e.sig = false ∧ e.send = false ∧ c.rcvMsn = m.toNat ∧ c.rxDone =
      [] ∧ c.consumer < 4)
    ∧ (∃ (s : State) (n : BitVec 20) (m : W32) (e : RxMsg), (s.cn n.toNat).rx = [e] ∧ e.whole = false)
    ∧ (∃ (s : State) (n : BitVec 20) (e : Nat × Bool × TrnPkt), s.trn.miss = [e] ∧ e.2.2.dstConn = n ∧ s.gf
      TRN_CTX_HBM_COUNT TRN_CTX_HBM_COUNT_COUNT ≤ n.toNat ∧ regionOf (s.ctxAddr n.toNat) = .host ∧ s.trn.stopped = [] ∧
      (s.cn n.toNat).state ∉ [csFlushing, csClosing])
    ∧ (∃ (s : State) (n : BitVec 20) (e : Nat × Bool × TrnPkt) (f : Bool), s.trn.miss = [e] ∧ e.2.2.dstConn = n ∧
      n.toNat < s.gf TRN_CTX_HBM_COUNT TRN_CTX_HBM_COUNT_COUNT ∧ s.trn.cached.length < 32768 ∧ (s.cn n.toNat).state ∈
      [csFree, csInit])
    ∧ (∃ (s : State) (n : BitVec 20) (e : Nat × Bool × TrnPkt) (f : Bool), s.trn.miss = [e] ∧ e.2.2.dstConn = n ∧
      n.toNat < s.gf TRN_CTX_HBM_COUNT TRN_CTX_HBM_COUNT_COUNT ∧ s.trn.cached.length < 32768 ∧ (s.cn n.toNat).state =
      csClosing ∧ (s.cn n.toNat).ctl = [] ∧ s.trn.owed = [])
    ∧ (∃ (s : State) (p : TrnPkt), s.portLive p.port.val = true ∧ s.isEth p.port.val = p.roce ∧ s.stopped p = false ∧
      s.takesPkt p = true ∧ s.misses p = true ∧ 256 ≤ s.missCount p.port.val)
    ∧ (∃ (s : State) (p : TrnPkt), s.portLive p.port.val = true ∧ s.stopped p = true)
    ∧ (∃ (s : State) (p : TrnPkt) (c : Conn), s.pktHere p ∧ s.cn p.dstConn.toNat = c ∧ c.state = csReady ∧ c.tx = [] ∧
      c.place p.psn.toNat = .accept ∧ c.oversized p = true ∧ c.active = [] ∧ c.waiting = [] ∧ s.trn.owed = [])
    ∧ (∃ (s : State) (p : TrnPkt), s.pktHere p ∧ (s.cn p.dstConn.toNat).state ∈ [csError, csFlushing] ∧ (s.cn
      p.dstConn.toNat).ctl = [] ∧ (∀ k, k < 32 → bitAt (s.cn p.dstConn.toNat).portmask k = false)) :=
  ⟨⟨C, pk, 0x501100, c0, by decide +kernel⟩,
   ⟨C, ({ pk with psn := 199 }), c0, by decide +kernel⟩,
   ⟨C, ({ pk with mkey := 0x5B000002 }), c0, by decide +kernel⟩,
   ⟨C, ({ pk with dstAddr := 0x78 }), by decide +kernel⟩,
   ⟨C, ({ pk with dstConn := 13 }), by decide +kernel⟩,
   ⟨(K (wcn U { c0 with state := 1 })), pk, by decide +kernel⟩,
   ⟨(K (wcn U { c0 with consumer := 2 })), pk, ({ c0 with consumer := 2 }), by decide +kernel⟩,
   ⟨C, pk, c0, by decide +kernel⟩,
   ⟨C, ({ pk with data := [] }), c0, 0x501100, by decide +kernel⟩,
   ⟨(K (wcn U (cr 1))), pk, (cr 1), (ms 1 51 5), 3, by decide +kernel⟩,
   ⟨(K (wcn U ca)), ({ pk with psn := 103 }), ca, ⟨0, 100, 3, 5, 0, 5, [], [], 0, none⟩, by decide +kernel⟩,
   ⟨(K (wcn U { cr 0 with active := [ms 0 5 5] })), ({ pk with psn := 100, offset := 5, total := 0 }), ({ cr 0 with
     active := [ms 0 5 5] }), (ms 0 5 5), 3, by decide +kernel⟩,
   ⟨(K (wcn U ca)), ({ pk with psn := 103, total := 1 }), ca, by decide +kernel⟩,
   ⟨(K (wcn U ca)), ({ pk with psn := 100, total := 4 }), ca, by decide +kernel⟩,
   ⟨(K (wcn U { c0 with rx := [rm 5] })), 12, 50, ({ c0 with rx := [rm 5] }), (rm 5), by decide +kernel⟩,
   ⟨(K (wcn U { c0 with rx := [rm 4] })), 12, 50, (rm 4), by decide +kernel⟩,
   ⟨(((wm C).wr64 TRN_CTX_HOST_BASE 0x10000000000).sf TRN_CTX_HBM_COUNT TRN_CTX_HBM_COUNT_COUNT 12), 12, (0, false, pk),
     by decide +kernel⟩,
   ⟨(wm (K (wcn U { c0 with state := 1 }))), 12, (0, false, pk), false, by decide +kernel⟩,
   ⟨((wm (K (wcn U { c0 with state := 5 }))).sf TRN_CTX_HBM_COUNT TRN_CTX_HBM_COUNT_COUNT 13), 12, (0, false, pk),
     false, by decide +kernel⟩,
   ⟨({ C with trn := { C.trn with cached := [], miss := List.replicate 256 (0, false, pk) } }), pk, by decide +kernel⟩,
   ⟨(wstop C), pk, by decide +kernel⟩,
   ⟨C, pko, c0, by decide +kernel⟩,
   ⟨(K (wcn U { c0 with state := 3, portmask := 0 })), pk, by decide +kernel⟩⟩

/-- States and operands that meet the hypotheses of TransportMessagesAndTimers, clause by clause. -/
theorem witness_TransportMessagesAndTimers :
    (∃ (s : State) (who : Fin 8) (req : List Byte), s.trnEn = true ∧ reqOp req = 0 ∧ s.reqCheck (fit 64 req) none =
      none)
    ∧ (∃ (s : State) (who : Fin 8) (req : List Byte), s.trnEn = true ∧ reqOp req = 1 ∧ s.reqCheck (fit 64 req) none =
      none)
    ∧ (∃ (s : State) (who : Fin 8) (req : List Byte), s.trnEn = true ∧ reqOp req = 2 ∧ s.reqCheck (fit 64 req) none =
      none)
    ∧ (∃ (s : State) (who : Fin 8) (req : List Byte) (st : Nat), s.trnEn = true ∧ reqOp req = 0 ∧ s.reqCheck (fit 64
      req) none = some st)
    ∧ (∃ (s s1 : State) (ix : Nat) (d : List Byte), s.nextRing = (some (ix, d), s1) ∧ reqOp d = 0 ∧ s.reqCheck d none =
      none)
    ∧ (∃ (s : State) (n : BitVec 20) (m : Msg) (rest : List Msg) (c : Conn), s.cn n.toNat = c ∧ c.state = csReady ∧
      c.waiting = m :: rest ∧ c.active.length < 8 ∧ (c.roce = true ∨ (0 < msnDiff c.creditMsn c.sndMsn ∧ msnDiff
      c.creditMsn c.sndMsn < 2 ^ 31)) ∧ (reqFence m.req = false ∨ c.active = []) ∧ s.trnEn = true ∧ s.trn.cached.length
      < 32768 ∧ s.heldContexts < 24576)
    ∧ (∃ (s : State) (n : BitVec 20), (s.cn n.toNat).creditMsn = (s.cn n.toNat).sndMsn ∧ (s.cn n.toNat).roce = false)
    ∧ (∃ (s : State) (n : BitVec 20) (c : Conn), s.cn n.toNat = c ∧ c.state = csReady ∧ c.sndUna ≠ c.sndNxt ∧ c.rtoAt +
      usCycles (max 10 (s.gf TRN_TIMER TRN_TIMER_RTO_US) * 2 ^ c.retry) ≤ s.clock ∧ s.gf TRN_TIMER TRN_TIMER_RETRY_LIMIT
      ≤ c.retry + 1)
    ∧ (∃ (s : State) (n : BitVec 20) (c : Conn), s.cn n.toNat = c ∧ c.state = csReady ∧ c.sndUna ≠ c.sndNxt ∧ c.rtoAt +
      usCycles (max 10 (s.gf TRN_TIMER TRN_TIMER_RTO_US) * 2 ^ c.retry) ≤ s.clock ∧ c.retry + 1 < s.gf TRN_TIMER
      TRN_TIMER_RETRY_LIMIT ∧ (∀ i ∈ c.tx, i.src + i.total ≤ regsBase))
    ∧ (∃ (s : State) (n : BitVec 20), (s.cn n.toNat).sndUna = (s.cn n.toNat).sndNxt)
    ∧ (∃ (s : State) (n : BitVec 20) (c : Conn) (h : Nat), s.cn n.toNat = c ∧ c.state = csReady ∧ c.tx = [] ∧ c.holeAt =
      some h ∧ h + usCycles (max 1 (s.gf TRN_TIMER TRN_TIMER_HOLE_US)) ≤ s.clock)
    ∧ (∃ (s : State) (n : BitVec 20) (c : Conn) (h : Nat), s.cn n.toNat = c ∧ c.state = csReady ∧ c.ackAt = some h ∧ h +
      usCycles 2 ≤ s.clock)
    ∧ (∃ (s : State) (n : BitVec 20) (c : Conn) (h a : Nat), s.cn n.toNat = c ∧ c.state = csReady ∧ c.rnrAt = some (h,
      a) ∧ h + usCycles 20 ≤ s.clock ∧ (∀ i ∈ c.tx, i.src + i.total ≤ regsBase))
    ∧ (∃ (s : State) (p : Fin 32) (counts : Vector W32 8), s.portLive p.val = true ∧ s.isEth p.val = false)
    ∧ (∃ (s : State) (lane : Fin 144) (ccw : BitVec 20) (cor : Fin 16) (cells : List (List Byte)), s.gf (FAB_LANE_STATUS
      lane.val) FAB_LANE_STATUS_PORT = 0xFF ∧ (∀ e ∈ s.trn.conns, ∀ i ∈ e.2.tx, i.src + i.total ≤ regsBase))
    ∧ (∃ (s : State) (p : Fin 32) (spare : Bool) (c : Caps), s.portState p.val = 1 ∧ s.portEn p.val = true ∧ s.isEth
      p.val = false ∧ (s.fp p.val).caps = some c ∧ s.capsAgree p.val c = true)
    ∧ (∃ (s : State) (p : Fin 32) (spare : Bool) (c : Caps), s.portState p.val = 1 ∧ s.isEth p.val = false ∧ (s.fp
      p.val).caps = some c ∧ s.capsAgree p.val c = false ∧ s.portEn p.val = true ∧ s.trn.conns = []) :=
  ⟨⟨C, 3, (rqb 0 5), by decide +kernel⟩,
   ⟨C, 3, (rqb 1 5), by decide +kernel⟩,
   ⟨C, 3, (rqb 2 5), by decide +kernel⟩,
   ⟨(Fe.sf TRN_CTL TRN_CTL_EN 1), 3, (rqb 0 5), 0x30, by decide +kernel⟩,
   ⟨RR, RR.nextRing.2, 0, (rqb 0 5), by decide +kernel⟩,
   ⟨(K (wcn U cw)), 12, (ms 0 0 5), [ms 0 0 6], cw, by decide +kernel⟩,
   ⟨(K (wcn U { cw with creditMsn := 5 })), 12, by decide +kernel⟩,
   ⟨(late (K (wcn U { ca with retry := 6 }))), 12, ({ ca with retry := 6 }), by decide +kernel⟩,
   ⟨(late (K (wcn U ca))), 12, ca, by decide +kernel⟩,
   ⟨(late (K (wcn U c0))), 12, by decide +kernel⟩,
   ⟨(late (K (wcn U { c0 with holeAt := some 1 }))), 12, ({ c0 with holeAt := some 1 }), 1, by decide +kernel⟩,
   ⟨(late (K (wcn U { ca with ackAt := some 1 }))), 12, ({ ca with ackAt := some 1 }), 1, by decide +kernel⟩,
   ⟨(late (K (wcn U { ca with rnrAt := some (1, 5) }))), 12, ({ ca with rnrAt := some (1, 5) }), 1, 5, by
     decide +kernel⟩,
   ⟨C, 3, #v[1,2,3,4,5,6,7,8], by decide +kernel⟩,
   ⟨C, 20, 0, 0, [], by decide +kernel⟩,
   ⟨(wcaps (up Fe 3 1) false), 3, true, ⟨false, false, 99, 4⟩, by decide +kernel⟩,
   ⟨(wcaps (up Fe 3 1) true), 3, true, ⟨false, true, 99, 4⟩, by decide +kernel⟩⟩

/-- States and operands that meet the hypotheses of TransportRegistersAndRequests, clause by clause. -/
theorem witness_TransportRegistersAndRequests :
    (∃ (s : State) (q : Requester) (v : W32) (c : Nat), coreWrites q = true ∧ s.bit TRN_CTL TRN_CTL_EN = false ∧
      s.trnCheck = some c)
    ∧ (∃ (s : State) (q : Requester) (v : W32), coreWrites q = true ∧ s.bit TRN_CTL TRN_CTL_EN = false ∧ s.trnCheck =
      none)
    ∧ (∃ (s : State) (q : Requester) (v : W32), coreWrites q = true ∧ s.anyConn = false)
    ∧ (∃ (s : State) (q : Requester) (v : W32), s.anyConn = true)
    ∧ (∃ (s : State) (q : Requester) (v : W32), coreWrites q = true ∧ s.bit TRN_KEY_INVAL TRN_KEY_INVAL_BUSY = false)
    ∧ (∃ (s : State) (q : Requester) (v : W32), s.bit TRN_KEY_INVAL TRN_KEY_INVAL_BUSY = true)
    ∧ (∃ (s : State) (w : Option Nat), s.trn.keyInval = some w)
    ∧ (∃ (s : State) (q : Requester) (v : W32), coreWrites q = true ∧ s.peerPending = false ∧ s.peerCheck ((List.range
      64).map s.stagedWin) = none)
    ∧ (∃ (s : State) (q : Requester) (v : W32) (c : Nat), coreWrites q = true ∧ s.peerPending = false ∧ s.peerCheck
      ((List.range 64).map s.stagedWin) = some c)
    ∧ (∃ (s : State), s.peerPending = true)
    ∧ (∃ (s : State), s.peerPending = false)
    ∧ (∃ (s : State) (q : Requester) (v : W32), coreWrites q = true ∧ ixDiff (v.toNat % 2 ^ 16) (s.cmdHead TRN_REQ_BASE)
      ≤ 2 ^ s.cmdLog TRN_REQ_BASE)
    ∧ (∃ (s : State) (q : Requester) (v : W32), coreWrites q = true ∧ 2 ^ s.cmdLog TRN_REQ_BASE < ixDiff (v.toNat % 2 ^
      16) (s.cmdHead TRN_REQ_BASE))
    ∧ (∃ (s : State) (q : Requester) (v : W32), coreWrites q = true ∧ s.cmdEn TRN_REQ_BASE = false)
    ∧ (∃ (s : State) (q : Requester) (v : W32), coreWrites q = true ∧ s.cmplEn TRN_REQ_BASE = false)
    ∧ (∃ (s : State) (q : Requester) (v : W32), coreWrites q = true ∧ s.cmdEn TRN_REQ_BASE = false ∧ s.cmplEn
      TRN_REQ_BASE = true ∧ bitAt v.toNat 1 = true ∧ s.cmdEnCheck TRN_REQ_BASE true = none ∧ s.trnEn = true)
    ∧ (∃ (s : State) (q : Requester) (v : W32), coreWrites q = true ∧ s.cmdEn TRN_REQ_BASE = false ∧ s.cmplEn
      TRN_REQ_BASE = true ∧ bitAt v.toNat 1 = true ∧ s.cmdEnCheck TRN_REQ_BASE true = none ∧ s.trnEn = false)
    ∧ (∃ (s : State) (q : Requester) (v : W32), coreWrites q = true ∧ s.cmdEn TRN_REQ_BASE = true ∧ bitAt v.toNat 1 =
      s.cmplEn TRN_REQ_BASE)
    ∧ (∃ (s : State) (q : Requester) (v : W32), coreWrites q = true ∧ s.cmplEn TRN_REQ_BASE = false ∧ s.cmdEn
      TRN_REQ_BASE = false ∧ bitAt v.toNat 0 = false ∧ s.cmplEnCheck TRN_REQ_BASE = none)
    ∧ (∃ (s : State) (q : Requester) (v : W32), coreWrites q = true ∧ s.trn.owed = [] ∧ s.trn.conns = [])
    ∧ (∃ (s : State) (q : Requester) (v : W32), coreWrites q = true)
    ∧ (∃ (s : State) (q : Requester) (v : W32), coreWrites q = true ∧ s.fwrxUsed = false ∧ s.bit TRN_FWRX_CTL
      TRN_FWRX_CTL_EN = false ∧ ringValid s.fwrxBase s.fwrxLog 4096 = true)
    ∧ (∃ (s : State) (q : Requester) (v : W32), coreWrites q = true ∧ s.fwrxUsed = false ∧ s.bit TRN_FWRX_CTL
      TRN_FWRX_CTL_EN = false ∧ ringValid s.fwrxBase s.fwrxLog 4096 = false)
    ∧ (∃ (s : State) (q : Requester) (v : W32), s.fwrxUsed = true)
    ∧ (∃ (s : State) (r : SynReq) (n : W32) (sp : ConnSpec), s.synRefusal 0x0900 domTrn r = none ∧ n.toNat < 1048576 ∧
      connSpecOk sp = true ∧ (s.cn n.toNat).state = csFree)
    ∧ (∃ (s : State) (r : SynReq) (n : W32) (sp : ConnSpec), s.synRefusal 0x0900 domTrn r = none ∧ (1048576 ≤ n.toNat ∨
      connSpecOk sp = false))
    ∧ (∃ (s : State) (r : SynReq) (n : BitVec 20) (pc : BitVec 24) (a b c d : W32), s.synRefusal 0x0901 domTrn r = none
      ∧ (s.cn n.toNat).state ≠ csInit)
    ∧ (∃ (s : State) (r : SynReq) (n : BitVec 20) (pc : BitVec 24) (a b c d : W32), s.synRefusal 0x0901 domTrn r = none
      ∧ (s.cn n.toNat).state = csInit ∧ (s.cn n.toNat).consumer = 5 ∧ s.bit TRN_FWRX_CTL TRN_FWRX_CTL_EN = false)
    ∧ (∃ (s : State) (r : SynReq) (n : BitVec 20) (pc : BitVec 24) (a b c d : W32), s.synRefusal 0x0901 domTrn r = none
      ∧ (s.cn n.toNat).state = csInit ∧ (s.cn n.toNat).consumer < 4 ∧ (s.cn n.toNat).tx = [] ∧ (s.cn n.toNat).roce =
      false)
    ∧ (∃ (s : State) (r : SynReq) (n : BitVec 20), s.synRefusal 0x0902 domTrn r = none ∧ (s.cn n.toNat).state = csReady
      ∧ (s.cn n.toNat).active = [] ∧ (s.cn n.toNat).waiting = [] ∧ s.trn.owed = [])
    ∧ (∃ (s : State) (r : SynReq) (n : BitVec 20), s.synRefusal 0x0903 domTrn r = none ∧ ((s.cn n.toNat).state = csFree
      ∨ (s.cn n.toNat).state = csClosing))
    ∧ (∃ (s : State) (r : SynReq) (n : BitVec 20), s.synRefusal 0x0903 domTrn r = none ∧ ((s.cn n.toNat).state = csReady
      ∨ (s.cn n.toNat).state = csError))
    ∧ (∃ (s : State) (r : SynReq) (n : BitVec 20), s.synRefusal 0x0904 domTrn r = none ∧ (s.cn n.toNat).active = [] ∧
      (s.cn n.toNat).waiting = [] ∧ s.trn.owed = [] ∧ s.trn.miss = [] ∧ (s.cn n.toNat).reserved = [] ∧
      s.trn.cached.length < 32768)
    ∧ (∃ (s : State) (r : SynReq) (n : BitVec 20), s.synRefusal 0x0905 domTrn r = none)
    ∧ (∃ (s : State) (r : SynReq) (ix : W32) (e : Vector Byte 32), s.synRefusal 0x0906 domTrn r = none ∧ s.gf
      TRN_KEY_COUNT TRN_KEY_COUNT_COUNT ≤ ix.toNat)
    ∧ (∃ (s : State) (r : SynReq) (ix : W32) (e : Vector Byte 32), s.synRefusal 0x0906 domTrn r = none ∧ ix.toNat < s.gf
      TRN_KEY_COUNT TRN_KEY_COUNT_COUNT ∧ s.bit CKP_CTL CKP_CTL_EN = false ∧ inHbm ((s.gf TRN_KEY_BASE TRN_KEY_BASE_BASE
      <<< 12) + ix.toNat * 32) 32 = true)
    ∧ (∃ (s : State) (r : SynReq) (ws : List PeerWinSpec), s.synRefusal 0x0907 domTrn r = none ∧ s.peerPending = true)
    ∧ (∃ (s : State) (r : SynReq) (w : PeerWinSpec), s.synRefusal 0x0907 domTrn r = none ∧ s.peerPending = false ∧ (∀ k,
      k < 64 → (s.stagedWin k).en = false) ∧ w.en = false)
    ∧ (∃ (s : State) (r : SynReq), s.synRefusal 0x0908 domTrn r = none) :=
  ⟨⟨(N0.wr TRN_ADDR 0), q0, 0, 0x692, by decide +kernel⟩,
   ⟨N0, q0, 0, by decide +kernel⟩,
   ⟨U, q0, 0, by decide +kernel⟩,
   ⟨C, q0, 0, by decide +kernel⟩,
   ⟨C, q0, 0x40000005, by decide +kernel⟩,
   ⟨(C.sf TRN_KEY_INVAL TRN_KEY_INVAL_BUSY 1), q0, 5, by decide +kernel⟩,
   ⟨(wki C (some 2)), (some 2), by decide +kernel⟩,
   ⟨C, q0, 0, by decide +kernel⟩,
   ⟨(sw 0x180000 20), q0, 0, 0x698, by decide +kernel⟩,
   ⟨((sw 0x100000 20).sf PEER_WIN_COMMIT PEER_WIN_COMMIT_PENDING 1), by decide +kernel⟩,
   ⟨C, by decide +kernel⟩,
   ⟨RR, q0, 5, by decide +kernel⟩,
   ⟨RR, q0, 500, by decide +kernel⟩,
   ⟨C, q0, 0x31007, by decide +kernel⟩,
   ⟨C, q0, 0x31007, by decide +kernel⟩,
   ⟨(RC C), q0, 2, by decide +kernel⟩,
   ⟨(RC N0), q0, 2, by decide +kernel⟩,
   ⟨((RC C).sf (rCtl TRN_REQ_BASE) CLU_CTL_CMD_EN 1), q0, 2, by decide +kernel⟩,
   ⟨((RC C).sf (rCtl TRN_REQ_BASE) CLU_CTL_CMPL_EN 0), q0, 0, by decide +kernel⟩,
   ⟨(RC U), q0, 9, by decide +kernel⟩,
   ⟨(C.wr TRN_RERR 0xFFFFFFFF), q0, 0, by decide +kernel⟩,
   ⟨(C.wr TRN_FWRX_BASE 0x60006), q0, 0x000F1F00, by decide +kernel⟩,
   ⟨C, q0, 0x000F1F00, by decide +kernel⟩,
   ⟨(K (wcn U { c0 with consumer := 5 })), q0, 0x000F1F00, by decide +kernel⟩,
   ⟨(Y C), rq, 15, spc, by decide +kernel⟩,
   ⟨(Y C), rq, 0x100000, spc, by decide +kernel⟩,
   ⟨(Y C), rq, 12, 6, 1, 2, 3, 4, by decide +kernel⟩,
   ⟨(Y (K (wcn U { c0 with consumer := 5, state := 1 }))), rq, 12, 6, 1, 2, 3, 4, by decide +kernel⟩,
   ⟨(Y (K (wcn U { c0 with consumer := 2, state := 1 }))), rq, 12, 6, 1, 2, 3, 4, by decide +kernel⟩,
   ⟨(Y C), rq, 12, by decide +kernel⟩,
   ⟨(Y C), rq, 13, by decide +kernel⟩,
   ⟨(Y C), rq, 12, by decide +kernel⟩,
   ⟨(Y C), rq, 12, by decide +kernel⟩,
   ⟨(Y C), rq, 12, by decide +kernel⟩,
   ⟨(Y C), rq, 16, (Vector.replicate 32 7), by decide +kernel⟩,
   ⟨(Y C), rq, 15, (Vector.replicate 32 7), by decide +kernel⟩,
   ⟨((Y C).sf PEER_WIN_COMMIT PEER_WIN_COMMIT_PENDING 1), rq, [], by decide +kernel⟩,
   ⟨(Y C), rq, ⟨5, 0x100, false, 20, 3⟩, by decide +kernel⟩,
   ⟨(Y C), rq, by decide +kernel⟩⟩

end C10

namespace C11

def rq : SynReq := ⟨.mailbox 0, 3, 2, 7, 0xFFFF, false, none⟩
def synOn (s : State) : State := ((s.sf DEV_STATUS DEV_STATUS_STAGE 6).sf DEV_ENABLE DEV_ENABLE_EN 1).setMb 0 { Mailbox.reset with session := some ⟨5, false, 0, none⟩ }
def Ta : State := { (((S0.sf TIME_CTL TIME_CTL_PPS_EN 1).sf TIME_STATUS TIME_STATUS_STATE 1).sf TIME_CFG TIME_CFG_HOLD_PPB 10) with clock := 10^9, time := { TimeUnit.reset with acc := 5000000400 * 2^32, lastAccept := some (10^9 - 156250000), good := 3, errs := [1,2,3,4], freq8 := 44 } }
def arm' (s : State) : State := (s.wr64 TIME_SET 0x500000000000).sf TIME_CTL TIME_CTL_ARM 1
def st (n : Nat) (s : State) : State := s.sf TIME_STATUS TIME_STATUS_STATE n
def accAt (n : Nat) (s : State) : State := { s with time := { s.time with acc := n * 2^32 } }
def qt : Requester := .core 3
def Qd : State := (st 2 Ta).sf TIME_STATUS TIME_STATUS_SET 1
def Po : State := accAt 7000000000 ((Qd.sf TIME_CTL TIME_CTL_PPSOUT_EN 1).sf TIME_STATUS TIME_STATUS_QUALIFIED 1)
def Gl (n : Nat) : State := ((((accAt 7000 S0).sf TG_ADMIN_BASE TG_ADMIN_BASE_BASE (0x30000/64)).wr64 TG_ADMIN_BASETIME n).putBytes 0x30000 (leBytes 4 300 ++ leBytes 4 5 ++ leBytes 4 500 ++ leBytes 4 0xFF))
def gs : List GateEntry := [⟨300, 5⟩, ⟨500, 0xFF⟩]
def Gp : State := (Gl 1000).setGatePending 3 (some ⟨gs, 6000⟩)
def Sh : State := ((((accAt 7000 S0).sf TG_SHP_CTL TG_SHP_CTL_EN 1).sf TG_SHP_RATE TG_SHP_RATE_RATE 4).sf TG_SHP_RATE TG_SHP_RATE_BURST 40).sf TG_SHP_CTL TG_SHP_CTL_PERIOD 3
def bk (n : Option BucketCfg) (l : Nat) : Bucket := ⟨⟨true, 4, 40, 3, 0, 0⟩, 38, n, l⟩
def gsp : List GateSpec := [⟨300, 5⟩, ⟨500, 0xFF⟩]

/-- States and operands that meet the hypotheses of TimeIsSteeredByPulses, clause by clause. -/
theorem witness_TimeIsSteeredByPulses :
    (∃ (s : State) (phase : Fin 8), s.bit TIME_CTL TIME_CTL_PPS_EN = false)
    ∧ (∃ (s : State) (phase : Fin 8) (e : Int), s.bit TIME_CTL TIME_CTL_PPS_EN = true ∧ s.timeState ≠ 0 ∧ phaseErr
      ((s.edgeTime phase : Int) - sext 16 (s.gf TIME_CFG TIME_CFG_PPS_DELAY)) = e ∧ (∀ a, s.time.lastAccept = some a →
      78125000 ≤ s.clock - a) ∧ (s.timeState = 1 ∨ e.natAbs ≤ 1000) ∧ s.bit TIME_CTL TIME_CTL_ARM = true)
    ∧ (∃ (s : State) (phase : Fin 8) (e : Int), s.bit TIME_CTL TIME_CTL_PPS_EN = true ∧ s.timeState = 1 ∧ phaseErr
      ((s.edgeTime phase : Int) - sext 16 (s.gf TIME_CFG TIME_CFG_PPS_DELAY)) = e ∧ (∀ a, s.time.lastAccept = some a →
      78125000 ≤ s.clock - a) ∧ 100000 < e.natAbs ∧ s.bit TIME_CTL TIME_CTL_ARM = false)
    ∧ (∃ (s : State) (phase : Fin 8) (e : Int), s.bit TIME_CTL TIME_CTL_PPS_EN = true ∧ 1 ≤ s.timeState ∧ phaseErr
      ((s.edgeTime phase : Int) - sext 16 (s.gf TIME_CFG TIME_CFG_PPS_DELAY)) = e ∧ (∀ a, s.time.lastAccept = some a →
      78125000 ≤ s.clock - a) ∧ e.natAbs ≤ 1000 ∧ s.bit TIME_CTL TIME_CTL_ARM = false)
    ∧ (∃ (s : State) (phase : Fin 8), s.bit TIME_CTL TIME_CTL_PPS_EN = true ∧ 2 ≤ s.timeState ∧ 1000 < (phaseErr
      ((s.edgeTime phase : Int) - sext 16 (s.gf TIME_CFG TIME_CFG_PPS_DELAY))).natAbs)
    ∧ (∃ (s : State) (a : Nat), s.timeState = 2 ∧ s.time.lastAccept = some a ∧ 234375000 ≤ s.clock - a)
    ∧ (∃ (s : State), s.timeState ≠ 2)
    ∧ (∃ (s : State), s.bit TIME_STATUS TIME_STATUS_SET = true ∧ 2 ≤ s.timeState)
    ∧ (∃ (s : State), s.bit TIME_CTL TIME_CTL_PPSOUT_EN = true ∧ s.bit TIME_STATUS TIME_STATUS_QUALIFIED = true ∧ s.now
      % 1000000000 = 0)
    ∧ (∃ (s : State), s.bit TIME_CTL TIME_CTL_PPSOUT_EN = false ∨ s.bit TIME_STATUS TIME_STATUS_QUALIFIED = false)
    ∧ (∃ (s : State) (e : Nat), s.time.pulseEnd = some e ∧ e ≤ s.clock)
    ∧ (∃ (s : State) (e : Nat), s.time.pulseEnd = some e ∧ s.clock < e)
    ∧ (∃ (s : State) (q : Requester) (v : W32), coreWrites q = true ∧ s.timeState ≠ 2 ∧ bitAt v.toNat 29 = s.bit
      TIME_CTL TIME_CTL_PPS_EN)
    ∧ (∃ (s : State) (q : Requester) (v : W32), coreWrites q = true ∧ s.timeState = 2 ∧ bitAt v.toNat 29 = s.bit
      TIME_CTL TIME_CTL_PPS_EN)
    ∧ (∃ (s : State) (q : Requester) (v : W32), coreWrites q = true ∧ s.bit TIME_CTL TIME_CTL_PPS_EN = false)
    ∧ (∃ (s : State) (q : Requester) (v : W32), coreWrites q = true ∧ s.bit TIME_CTL TIME_CTL_PPS_EN = true) :=
  ⟨⟨S0, 3, by decide +kernel⟩,
   ⟨(arm' Ta), 3, (phaseErr (((arm' Ta).edgeTime 3 : Int))), by decide +kernel⟩,
   ⟨(accAt 7000300000 Ta), 0, 300000, by decide +kernel⟩,
   ⟨Ta, 0, 400, by decide +kernel⟩,
   ⟨(st 2 (accAt 5999990907 Ta)), 0, by decide +kernel⟩,
   ⟨(st 2 { Ta with clock := 2*10^9 }), (10^9 - 156250000), by decide +kernel⟩,
   ⟨Ta, by decide +kernel⟩,
   ⟨Qd, by decide +kernel⟩,
   ⟨Po, by decide +kernel⟩,
   ⟨Qd, by decide +kernel⟩,
   ⟨({ Po with time := { Po.time with pulseEnd := some 5 } }), 5, by decide +kernel⟩,
   ⟨({ Po with time := { Po.time with pulseEnd := some (10^10) } }), 10^10, by decide +kernel⟩,
   ⟨Ta, qt, 0x60330000, by decide +kernel⟩,
   ⟨(st 2 Ta), qt, 0x60330000, by decide +kernel⟩,
   ⟨S0, qt, 0, by decide +kernel⟩,
   ⟨Ta, qt, 0, by decide +kernel⟩⟩

/-- States and operands that meet the hypotheses of GatesShapersAndTimeRequests, clause by clause. -/
theorem witness_GatesShapersAndTimeRequests :
    (∃ (s : State) (q : Requester) (v : W32) (p a n : Nat) (es : List GateEntry), coreWrites q = true ∧ p = bitsOf
      v.toNat 16 5 ∧ n = v.toNat % 512 ∧ a = s.gf TG_ADMIN_BASE TG_ADMIN_BASE_BASE * 64 ∧ s.gatePending p = none ∧
      s.readGates a n = es ∧ s.gateCheck p n (inHbm a (8 * n)) es = none ∧ s.unmarked a (8 * n))
    ∧ (∃ (base cycle limit : Nat), 0 < cycle)
    ∧ (∃ (s : State) (q : Requester) (v : W32) (p a n c : Nat), coreWrites q = true ∧ p = bitsOf v.toNat 16 5 ∧ n =
      v.toNat % 512 ∧ a = s.gf TG_ADMIN_BASE TG_ADMIN_BASE_BASE * 64 ∧ s.gatePending p = none ∧ s.gateCheck p n (inHbm a
      (8 * n)) (s.readGates a n) = some c ∧ s.unmarked a (8 * n))
    ∧ (∃ (s : State) (q : Requester) (v : W32), coreWrites q = true ∧ (s.gatePending (bitsOf v.toNat 16 5)).isSome =
      true)
    ∧ (∃ (s : State) (q : Requester) (v : W32), coreWrites q = true)
    ∧ (∃ (s : State) (p : Fin 32) (g : GateList), s.gatePending p = some g ∧ g.t ≤ s.now)
    ∧ (∃ (s : State) (p : Fin 32), s.gatePending p = none)
    ∧ (∃ (s : State) (p : Fin 32) (g : GateList), s.gateActive p = some g ∧ 0 < gateCycle g.entries ∧ g.entries.length ≤
      256 ∧ (∀ e ∈ g.entries, e.gates < 256))
    ∧ (∃ (s : State) (q : Requester) (v : W32) (pol : Bool) (ix : Nat) (c : BucketCfg), coreWrites q = true ∧ pol =
      bitAt v.toNat 30 ∧ ix = v.toNat % 4096 ∧ c = ⟨s.bit TG_SHP_CTL TG_SHP_CTL_EN, s.gf TG_SHP_RATE TG_SHP_RATE_RATE,
      s.gf TG_SHP_RATE TG_SHP_RATE_BURST, s.gf TG_SHP_CTL TG_SHP_CTL_PERIOD, s.gf TG_SHP_CTL TG_SHP_CTL_ACTION, s.gf
      TG_SHP_CTL TG_SHP_CTL_EXCEED_TC⟩ ∧ c.period ≤ 20 ∧ c.burst ≠ 0 ∧ (pol = true → ix ≤ 1023))
    ∧ (∃ (s : State) (q : Requester) (v : W32), coreWrites q = true ∧ ((bitAt v.toNat 30 = true ∧ 1023 < v.toNat % 4096)
      ∨ 20 < s.gf TG_SHP_CTL TG_SHP_CTL_PERIOD ∨ s.gf TG_SHP_RATE TG_SHP_RATE_BURST = 0))
    ∧ (∃ (s : State) (pol : Bool) (ix : BitVec 12) (b : Bucket), s.bucket pol ix.toNat = b ∧ b.cfg.en = true ∧ b.next =
      none ∧ s.now / (2 ^ b.cfg.period * 100) ≠ b.lastAt / (2 ^ b.cfg.period * 100))
    ∧ (∃ (s : State) (pol : Bool) (ix : BitVec 12) (b : Bucket) (c : BucketCfg), s.bucket pol ix.toNat = b ∧ b.next =
      some c ∧ s.now / (2 ^ b.cfg.period * 100) ≠ b.lastAt / (2 ^ b.cfg.period * 100))
    ∧ (∃ (s : State) (pol : Bool) (ix : BitVec 12) (b : Bucket), s.bucket pol ix.toNat = b ∧ s.now / (2 ^ b.cfg.period *
      100) = b.lastAt / (2 ^ b.cfg.period * 100))
    ∧ (∃ (s : State) (r : SynReq) (sec : W64) (d : Int) (u h : Nat), s.synRefusal 0x0A00 domTime r = none ∧ sec.toNat %
      1000000000 = 0 ∧ -32768 ≤ d ∧ d ≤ 32767 ∧ u ≤ 255 ∧ h ≤ 255 ∧ s.timeState ≠ 2)
    ∧ (∃ (s : State) (r : SynReq) (sec : W64) (d : Int) (u h : Nat), s.synRefusal 0x0A00 domTime r = none ∧ sec.toNat %
      1000000000 ≠ 0)
    ∧ (∃ (s : State) (r : SynReq) (sec : W64) (d : Int) (u h : Nat), s.synRefusal 0x0A00 domTime r = none ∧ sec.toNat %
      1000000000 = 0 ∧ -32768 ≤ d ∧ d ≤ 32767 ∧ u ≤ 255 ∧ h ≤ 255 ∧ s.timeState = 2)
    ∧ (∃ (s : State) (r : SynReq), s.synRefusal 0x0A01 domTime r = none)
    ∧ (∃ (s : State) (r : SynReq) (p : Nat) (bt : W64) (gs : List GateSpec) (es : List GateEntry) (T : Nat),
      s.synRefusal 0x0A02 domTime r = none ∧ s.gatePending p = none ∧ es = gs.map (fun e => ⟨e.interval.toNat,
      e.gates.toNat⟩) ∧ s.gateCheck p es.length true es = none ∧ T = (takeover bt.toNat (gateCycle es) (s.now +
      2000)).1)
    ∧ (∃ (s : State) (r : SynReq) (p : Nat) (bt : W64) (gs : List GateSpec), s.synRefusal 0x0A02 domTime r = none ∧
      (s.gatePending p).isSome = true)
    ∧ (∃ (s : State) (r : SynReq) (p : Nat) (bt : W64) (gs : List GateSpec) (c : Nat), s.synRefusal 0x0A02 domTime r =
      none ∧ s.gatePending p = none ∧ s.gateCheck p gs.length true (gs.map (fun e => ⟨e.interval.toNat, e.gates.toNat⟩))
      = some c)
    ∧ (∃ (s : State) (r : SynReq) (p : Fin 32), s.synRefusal 0x0A03 domTime r = none ∧ (s.gatePending p).isSome = true)
    ∧ (∃ (s : State) (r : SynReq) (p : Fin 32), s.synRefusal 0x0A03 domTime r = none ∧ s.gatePending p = none)
    ∧ (∃ (s : State) (r : SynReq) (ix : Nat) (en : Bool) (rate burst : W16) (per k : Nat), s.synRefusal 0x0A04 domTime r
      = none ∧ ix ≤ 4095 ∧ per ≤ 20 ∧ burst ≠ 0 ∧ k = 2 ^ ((s.bucket false ix).apply ⟨en, rate.toNat, burst.toNat, per,
      0, 0⟩ s.now).cfg.period * 100)
    ∧ (∃ (s : State) (r : SynReq) (ix : Nat) (en : Bool) (rate burst : W16) (per : Nat), s.synRefusal 0x0A04 domTime r =
      none ∧ (20 < per ∨ burst = 0))
    ∧ (∃ (s : State) (r : SynReq) (ix : Nat) (en : Bool) (rate burst : W16) (per k : Nat) (a : Bool) (tc : BitVec 3),
      s.synRefusal 0x0A05 domTime r = none ∧ ix ≤ 1023 ∧ per ≤ 20 ∧ burst ≠ 0 ∧ k = 2 ^ ((s.bucket true ix).apply ⟨en,
      rate.toNat, burst.toNat, per, b2n a, tc.toNat⟩ s.now).cfg.period * 100)
    ∧ (∃ (s : State) (r : SynReq) (ix : Nat) (en : Bool) (rate burst : W16) (per : Nat) (a : Bool) (tc : BitVec 3),
      s.synRefusal 0x0A05 domTime r = none ∧ (1023 < ix ∨ 20 < per ∨ burst = 0))
    ∧ (∃ (s : State) (r : SynReq) (p : Fin 32), s.synRefusal 0x0A06 domTime r = none)
    ∧ (∃ (s : State) (r : SynReq) (i : Fin 4096), s.synRefusal 0x0A06 domTime r = none)
    ∧ (∃ (s : State) (r : SynReq) (i : Fin 1024), s.synRefusal 0x0A06 domTime r = none)
    ∧ (∃ (b : Bucket) (c : BucketCfg) (now : Nat), now / (2 ^ b.cfg.period * 100) = b.lastAt / (2 ^ b.cfg.period * 100))
    ∧ (∃ (b : Bucket) (c d : BucketCfg) (now : Nat), now / (2 ^ b.cfg.period * 100) ≠ b.lastAt / (2 ^ b.cfg.period *
      100) ∧ b.next = some d) :=
  ⟨⟨(Gl 1000), qt, 0x30002, 3, 0x30000, 2, gs, by decide +kernel⟩,
   ⟨1000, 800, 9000, by decide +kernel⟩,
   ⟨(Gl 1000), qt, 0x30000, 3, 0x30000, 0, 0x06A0, by decide +kernel⟩,
   ⟨Gp, qt, 0x30002, by decide +kernel⟩,
   ⟨(Gp.setGateActive 3 (some ⟨gs, 1⟩)), qt, 0x30002, by decide +kernel⟩,
   ⟨Gp, 3, ⟨gs, 6000⟩, by decide +kernel⟩,
   ⟨Gp, 4, by decide +kernel⟩,
   ⟨(Gp.setGateActive 3 (some ⟨gs, 1⟩)), 3, ⟨gs, 1⟩, by decide +kernel⟩,
   ⟨Sh, qt, 0x40000010, true, 16, ⟨true, 4, 40, 3, 0, 0⟩, by decide +kernel⟩,
   ⟨Sh, qt, 0x40000910, by decide +kernel⟩,
   ⟨(Sh.setBucket true 16 (bk none 100)), true, 16, (bk none 100), by decide +kernel⟩,
   ⟨(Sh.setBucket true 16 (bk (some ⟨false, 1,2,3,4,5⟩) 100)), true, 16, (bk (some ⟨false, 1,2,3,4,5⟩) 100), ⟨false,
     1,2,3,4,5⟩, by decide +kernel⟩,
   ⟨(Sh.setBucket true 16 (bk none 6900)), true, 16, (bk none 6900), by decide +kernel⟩,
   ⟨(synOn Sh), rq, 7000000000, -5, 3, 4, by decide +kernel⟩,
   ⟨(synOn Sh), rq, 7000000001, -5, 3, 4, by decide +kernel⟩,
   ⟨(st 2 (synOn Sh)), rq, 7000000000, -5, 3, 4, by decide +kernel⟩,
   ⟨(st 2 (synOn Sh)), rq, by decide +kernel⟩,
   ⟨(synOn Sh), rq, 3, 1000, gsp, gs, ((takeover 1000 800 9000).1), by decide +kernel⟩,
   ⟨(synOn Gp), rq, 3, 10000, gsp, by decide +kernel⟩,
   ⟨(synOn Sh), rq, 33, 10000, gsp, 0x06A0, by decide +kernel⟩,
   ⟨(synOn Gp), rq, 3, by decide +kernel⟩,
   ⟨(synOn Gp), rq, 4, by decide +kernel⟩,
   ⟨(synOn Sh), rq, 9, true, 4, 5, 6, 100, by decide +kernel⟩,
   ⟨(synOn Sh), rq, 9, true, 4, 0, 6, by decide +kernel⟩,
   ⟨(synOn Sh), rq, 9, true, 4, 5, 6, 100, true, 3, by decide +kernel⟩,
   ⟨(synOn Sh), rq, 1024, true, 4, 5, 6, true, 3, by decide +kernel⟩,
   ⟨(synOn Sh), rq, 10, by decide +kernel⟩,
   ⟨(synOn Sh), rq, 10, by decide +kernel⟩,
   ⟨(synOn Sh), rq, 10, by decide +kernel⟩,
   ⟨(bk none 7000), ⟨false, 1,2,3,4,5⟩, 7001, by decide +kernel⟩,
   ⟨(bk (some ⟨true, 1,2,3,4,5⟩) 100), ⟨false, 1,2,3,4,5⟩, ⟨true, 1,2,3,4,5⟩, 7001, by decide +kernel⟩⟩

end C11

namespace C12

def rq : SynReq := ⟨.mailbox 0, 3, 2, 7, 0xFFFF, false, none⟩
def qt : Requester := .core 3
def synOn (s : State) : State := ((s.sf DEV_STATUS DEV_STATUS_STAGE 6).sf DEV_ENABLE DEV_ENABLE_EN 1).setMb 0 { Mailbox.reset with session := some ⟨5, false, 0, none⟩ }
def up (s : State) (p st : Nat) : State := ((s.sf (FAB_PORT_CTL p) FAB_PORT_CTL_EN 1).sf (FAB_PORT_CTL p) FAB_PORT_CTL_MODE 1).sf (FAB_PORT_STATUS p) FAB_PORT_STATUS_STATE st
def al (s : State) : State := (s.wr (FAB_PORT_ALLOC 3) 0x40404040).wr (FAB_PORT_ALLOC 3 + 4) 0x40404040
def nd : List Byte := fit 64 (leBytes 4 3 ++ leBytes 4 14)
def ndL4 : List Byte := fit 64 (leBytes 4 (3 + 4*4) ++ leBytes 4 14)
def ndIp : List Byte := fit 64 (leBytes 4 (3 + 2*4) ++ leBytes 4 14)
def tb (kind : Nat) : List Byte := fit 64 (leBytes 4 (1 + kind * 2 + 256 * 4) ++ leBytes 4 0 ++ leBytes 8 (0x40000 + 2))
def ls (ws : List Nat) : List Byte := fit 64 (ws.flatMap (leBytes 8))
def hd (nt nl nc : Nat) (df : Nat) (ip l4 : Nat) : List Byte := fit 64 (leBytes 4 1 ++ leBytes 1 1 ++ leBytes 1 nt ++ leBytes 1 ip ++ [15,15] ++ leBytes 1 l4 ++ leBytes 2 0 ++ leBytes 2 0 ++ leBytes 2 nl ++ leBytes 2 nc ++ leBytes 2 0 ++ leBytes 4 0 ++ leBytes 8 df)
def bk0 (df : Nat) : PktBank := ⟨hd 0 1 0 df 15 15, [nd], [], [], [], [ls []], [], []⟩
def bkL (ws : List Nat) : PktBank := ⟨hd 1 1 0 4 15 15, [nd], [tb 1], [], [], [ls ws], [], []⟩
def bkE : PktBank := ⟨hd 1 1 0 4 15 15, [nd], [tb 0], [], [], [ls []], [], []⟩
def bkI : PktBank := ⟨hd 0 1 0 4 2 15, [ndIp], [], [], [], [ls []], [], []⟩
def bkU (df : Nat) : PktBank := ⟨hd 0 1 0 df 15 4, [ndL4], [], [], [], [ls []], [], []⟩
def P (b : PktBank) : State := let s := (al (up (S0.sf PKT_CTL PKT_CTL_EN 1) 3 2)); { s with pkt := { s.pkt with banks := [some b, none] }, clock := 10^7 }
def fb (ty : Nat) : List Byte := (List.range 12).map (BitVec.ofNat 8) ++ beBytes 2 ty ++ (List.range 60).map (fun i => BitVec.ofNat 8 (i * 7))
def F (f : List Byte) : List Byte := withCrc f
def mkF (f : List Byte) : PktFrame := ⟨3, 0, f, f.length + 4, 0, 0, none⟩
def dst : Nat := 4 + 16 + 7 * 2^16 + 9 * 2^32
def iq0 : IQueue := ⟨.receive, 7, 9, 0x1000, 0x2000, 4, 3, 2048, 0, 0, false, false, 6, 2, 0, 0, false, false, none, 0, []⟩
def wq (q : IQueue) (s : State) : State := let s := s.setInst 7 { s.instOf 7 with state := .enabled }; s.setIq (qkey .receive 44) q
def hu (s : State) : State := s.cfgWr 4 (s.cfgRd 4 ||| 4)
def fu : List Byte := (fb 0x800).take 14 ++ [1,2] ++ beBytes 2 4791 ++ (fb 0x800).drop 18
def fu0 : List Byte := fb 0x800
def fuF : List Byte := beBytes 2 1 ++ beBytes 2 4791 ++ (fb 0x800).drop 4
def ff : List Byte := (fb 0x800).set 6 0x20 |>.set 7 0x08
def sr : SrcFrame := ⟨0, false, fb 0x800⟩
def chn : List Byte := fit 256 (leBytes 4 (1 + 3 * 2 + 5 * 16 + 256 * 9 + 2^20) ++ [42, 14, 34, 0] ++ List.replicate 56 0 ++ (List.range 42).map (fun i => BitVec.ofNat 8 (if i = 14 then 0x45 else i)))
def Pc (b : Bool) : State := { P { bk0 4 with chans := if b then [chn] else [] } with chanQ := [sr, ⟨4, true, [3]⟩] }
def tf (tok : Bool) : TxFrame := ⟨sr, 3, 5, some 9, tok, fb 0x900⟩
def Pt (tok : Bool) : State := { Pc true with pkt := { (Pc true).pkt with tx := [tf tok, { tf tok with port := 2 }] } }
def tg : TxFrame := { tf false with src := { sr with chan := 6 } }
def Pu : State := let s := (Pt false).setBucket false 9 ⟨⟨true, 4, 40, 3, 0, 0⟩, 1, none, 5⟩; { s with pkt := { s.pkt with tx := [tf false, tg] } }
def wf (t : Nat) : PktFrame := { mkF fu0 with waiting := some t }
def Pq (b : PktBank) (fr : PktFrame) : State := { P b with pkt := { (P b).pkt with queue := [fr] } }
def fe (l : Nat) : FragEntry := ⟨[1], [], 4, none, none, [], 3, none, l⟩
def img (s : State) (a : Nat) : State := s.putBytes a (hd 1 1 0 4 15 15 ++ nd ++ tb 1 ++ ls [])
def Sw : State := img (S0.sf (PKT_BANK_BASE 1) PKT_BANK_BASE_BASE 0x50) 0x50000
def Pca : State := { P bkE with pkt := { (P bkE).pkt with cache := [((1, 2, 3), [7]), ((0, 2, 3), [8])] } }
def Pm : State := (P bkE).setMsec 3 ⟨[], 5, [(0, ⟨4, 5, [], 1, 1⟩)]⟩
def key : List Byte := [1,2,3]
def kk : Nat := exactBucket (tb 0) (fit 4 key)
def fullE (s : State) (n : Nat) : State := (List.range n).foldl (fun s i => s.putBytes (0x40000 + (kk * 4 + i) * 64) (fit 64 (fit 32 [9, BitVec.ofNat 8 i] ++ [1]))) s
def msp (tx : Bool) : MsecSpec := ⟨3, tx, 77, 2, 9, 44, [1,2], 100⟩
def sl (s : State) : State := { s with sec := { s.sec with slots := [(9, { s.slotOf 9 with type := 3, owner := ownerInternal })] } }

/-- States and operands that meet the hypotheses of PacketFramesPassTheStages, clause by clause. -/
theorem witness_PacketFramesPassTheStages :
    (∃ (s : State) (p : Fin 8) (frame : List Byte), s.portLive p = false ∨ s.isEth p = false)
    ∧ (∃ (s : State) (p : Fin 8) (frame : List Byte), s.portLive p = true ∧ s.isEth p = true ∧ (checkCrc frame = none ∨
      frame.length < 64 ∨ 9216 < frame.length))
    ∧ (∃ (s : State) (p : Fin 8) (frame f : List Byte), checkCrc frame = some f ∧ 64 ≤ frame.length ∧ frame.length ≤
      9216 ∧ frameBE f 12 2 ≠ 0x8808 ∧ s.pktEn = false)
    ∧ (∃ (s : State) (p : Fin 8) (frame f : List Byte), s.ethHere p frame f ∧ s.bit (PKT_MSEC_CTL p) PKT_MSEC_CTL_EN =
      true ∧ 2 ≤ s.gf (PKT_MSEC_CTL p) PKT_MSEC_CTL_VALIDATE ∧ frameBE f 12 2 ≠ 0x88E5 ∧ frameBE f 12 2 ≠ 0x888E)
    ∧ (∃ (s : State) (p : Fin 8) (frame f : List Byte) (fr : PktFrame) (b : PktBank) (ws : List Nat), s.ethHere p frame
      f ∧ s.ethPlain p f fr ∧ s.bankAt s.activeBank = some b ∧ fragmentOf b.head (parse b f) fr = none ∧ s.collects b fr
      ws = true ∧ (outcomeOf b.head ws).words = [] ∧ (outcomeOf b.head ws).police = none ∧ (outcomeOf b.head ws).counts
      = [] ∧ awLayer (outcomeOf b.head ws).dest = 0)
    ∧ (∃ (s : State) (p : Fin 8) (frame f : List Byte) (fr : PktFrame) (b : PktBank) (ws : List Nat) (i a : Nat),
      s.ethHere p frame f ∧ s.ethPlain p f fr ∧ s.bankAt s.activeBank = some b ∧ fragmentOf b.head (parse b f) fr = none
      ∧ s.collects b fr ws = true ∧ (outcomeOf b.head ws).words = [] ∧ (outcomeOf b.head ws).police = none ∧ (outcomeOf
      b.head ws).counts = [i] ∧ awLayer (outcomeOf b.head ws).dest = 0 ∧ a = s.gf PKT_CNT_BASE PKT_CNT_BASE_BASE * 2 ^
      20 + i * 16 ∧ s.bit CKP_CTL CKP_CTL_EN = false ∧ inHbm a 16 = true)
    ∧ (∃ (s : State) (p : Fin 8) (frame f : List Byte) (fr : PktFrame) (b : PktBank) (ws : List Nat) (d : Nat),
      s.ethHere p frame f ∧ s.ethPlain p f fr ∧ s.bankAt s.activeBank = some b ∧ fragmentOf b.head (parse b f) fr = none
      ∧ s.collects b fr ws = true ∧ (outcomeOf b.head ws).words = [] ∧ (outcomeOf b.head ws).police = none ∧ (outcomeOf
      b.head ws).counts = [] ∧ (outcomeOf b.head ws).dest = d ∧ awLayer d = 1 ∧ s.rxQueueOf (bitsOf d 16 11) (bitsOf d
      32 16) = none)
    ∧ (∃ (s : State) (p : Fin 8) (frame f : List Byte) (fr : PktFrame) (b : PktBank) (ws : List Nat) (d n : Nat) (q :
      IQueue), s.ethHere p frame f ∧ s.ethPlain p f fr ∧ s.bankAt s.activeBank = some b ∧ fragmentOf b.head (parse b f)
      fr = none ∧ s.collects b fr ws = true ∧ (outcomeOf b.head ws).words = [] ∧ (outcomeOf b.head ws).police = none ∧
      (outcomeOf b.head ws).dest = d ∧ awLayer d = 1 ∧ s.rxQueueOf (bitsOf d 16 11) (bitsOf d 32 16) = some n ∧ s.iqAt
      (qkey .receive n) = some q ∧ s.iqFetches q = true ∧ f.length ≤ q.buflen ∧ 0 < q.posted ∧ s.hostUp = true ∧
      s.blockDown 18 = false ∧ s.pkt.held = [])
    ∧ (∃ (s : State) (p : Fin 8) (frame f : List Byte) (fr : PktFrame) (b : PktBank) (ws : List Nat) (d n : Nat) (q :
      IQueue), s.ethHere p frame f ∧ s.ethPlain p f fr ∧ s.bankAt s.activeBank = some b ∧ fragmentOf b.head (parse b f)
      fr = none ∧ s.collects b fr ws = true ∧ (outcomeOf b.head ws).words = [] ∧ (outcomeOf b.head ws).police = none ∧
      (outcomeOf b.head ws).dest = d ∧ awLayer d = 1 ∧ s.rxQueueOf (bitsOf d 16 11) (bitsOf d 32 16) = some n ∧ s.iqAt
      (qkey .receive n) = some q ∧ s.iqFetches q = true ∧ f.length ≤ q.buflen ∧ q.posted = 0 ∧ s.blockDown 18 = false)
    ∧ (∃ (s : State) (p : Fin 8) (frame f : List Byte) (fr : PktFrame) (b : PktBank) (ws : List Nat) (o : Outcome),
      s.ethHere p frame f ∧ s.ethPlain p f fr ∧ s.bankAt s.activeBank = some b ∧ fragmentOf b.head (parse b f) fr = none
      ∧ s.collects b fr ws = true ∧ outcomeOf b.head ws = o ∧ o.words = [] ∧ o.police = none ∧ awLayer o.dest = 2 ∧
      isRoce b.head (parse b f) f = true)
    ∧ (∃ (s : State) (p : Fin 8) (frame f : List Byte) (fr : PktFrame) (b : PktBank) (ws : List Nat) (o : Outcome),
      s.ethHere p frame f ∧ s.ethPlain p f fr ∧ s.bankAt s.activeBank = some b ∧ fragmentOf b.head (parse b f) fr = none
      ∧ s.collects b fr ws = true ∧ outcomeOf b.head ws = o ∧ o.words = [] ∧ o.police = none ∧ awLayer o.dest = 2 ∧
      isRoce b.head (parse b f) f = false)
    ∧ (∃ (s : State) (p : Fin 8) (frame f : List Byte) (fr : PktFrame) (b : PktBank) (x k : Nat), s.ethHere p frame f ∧
      s.ethPlain p f fr ∧ s.bankAt s.activeBank = some b ∧ fragmentOf b.head (parse b f) fr = none ∧ s.missesBucket b fr
      x k = true)
    ∧ (∃ (s : State) (p : Fin 8) (frame f key : List Byte) (fr : PktFrame) (b : PktBank) (off len : Nat) (more : Bool),
      s.ethHere p frame f ∧ s.ethPlain p f fr ∧ s.bankAt s.activeBank = some b ∧ fragmentOf b.head (parse b f) fr = some
      (key, off, len, more) ∧ off ≠ 0 ∧ s.fragAt key = none ∧ s.pkt.held.length < 1024 ∧ s.pkt.held.foldl (fun n x => n
      + x.2.bytes.length) 0 + f.length ≤ 2097152)
    ∧ (∃ (s : State) (ch : BitVec 12), s.chanQ.find? (fun x => x.chan == ch.toNat) = none)
    ∧ (∃ (s : State) (ch : BitVec 12) (x : SrcFrame) (rest : List SrcFrame), s.chanQ = x :: rest ∧ x.chan = ch.toNat ∧
      s.pktEn = true ∧ s.safe = false ∧ (x.record = false ∨ s.leaseLapsed = false) ∧ s.channel ch.toNat = none)
    ∧ (∃ (s : State) (ch : BitVec 12) (x : SrcFrame) (rest : List SrcFrame) (c : List Byte), s.chanQ = x :: rest ∧
      x.chan = ch.toNat ∧ s.pktEn = true ∧ s.safe = false ∧ (x.record = false ∨ s.leaseLapsed = false) ∧ s.channel
      ch.toNat = some c)
    ∧ (∃ (s : State) (ch : BitVec 12), s.pkt.tx = [])
    ∧ (∃ (s : State) (ch : BitVec 12) (x : TxFrame) (rest : List TxFrame), s.pkt.tx = x :: rest ∧ x.src.chan = ch.toNat
      ∧ x.token = true ∧ s.portLive x.port = true ∧ s.isEth x.port = true ∧ s.ethMayStart x.port x.prio = true ∧
      s.gateOpen x.port x.prio s.now ((x.bytes.length + 73) / 50) = true ∧ s.mayStartOther x.port ((x.bytes.length + 73)
      / 50) = true ∧ s.safe = false ∧ s.bit (PKT_MSEC_CTL x.port) PKT_MSEC_CTL_PROTECT = false ∧ (x.src.record = false ∨
      s.leaseLapsed = false) ∧ x ∉ rest)
    ∧ (∃ (s : State) (ch : BitVec 12) (x : TxFrame) (rest : List TxFrame) (i : Nat), s.pkt.tx = x :: rest ∧ x.src.chan =
      ch.toNat ∧ x.token = false ∧ x.shaper = some i ∧ (s.bucket false i).cfg.en = true ∧ (s.bucket false i).tokens = 0)
    ∧ (∃ (s : State) (ch : BitVec 12) (x : TxFrame) (rest : List TxFrame) (i : Nat), s.pkt.tx = x :: rest ∧ x.src.chan =
      ch.toNat ∧ x.token = false ∧ x.shaper = some i ∧ (s.bucket false i).cfg.en = true ∧ (s.bucket false i).cfg.rate ≠
      0 ∧ (s.bucket false i).tokens ≠ 0 ∧ s.portLive x.port = false ∧ x ∉ rest ∧ s.shaperUsers i = [ch.toNat])
    ∧ (∃ (s : State) (ch : BitVec 12) (x y : TxFrame) (d i : Nat), s.txHead ch.toNat = some x ∧ x.token = false ∧
      x.shaper = some i ∧ (s.bucket false i).cfg.en = true ∧ (s.bucket false i).cfg.rate ≠ 0 ∧ (s.bucket false i).tokens
      = 1 ∧ s.shaperUsers i = [ch.toNat, d] ∧ d < 4096 ∧ d ≠ ch.toNat ∧ s.txHead d = some y)
    ∧ (∃ (s : State) (p pr : Fin 8) (fr : PktFrame) (b : PktBank) (ws : List Nat) (t0 d n : Nat) (q : IQueue),
      s.pkt.queue = [fr] ∧ s.pkt.held = [] ∧ fr.port = p ∧ fr.prio = pr ∧ fr.waiting = some t0 ∧ nsCycles (10000 * max 1
      (s.gf PKT_CTL PKT_CTL_RXWAIT)) ≤ s.clock - t0 ∧ s.bankAt fr.bank = some b ∧ fragmentOf b.head (parse b fr.bytes)
      fr = none ∧ s.collects b fr ws = true ∧ (outcomeOf b.head ws).words = [] ∧ (outcomeOf b.head ws).police = none ∧
      (outcomeOf b.head ws).counts = [] ∧ (outcomeOf b.head ws).dest = d ∧ awLayer d = 1 ∧ s.rxQueueOf (bitsOf d 16 11)
      (bitsOf d 32 16) = some n ∧ s.iqAt (qkey .receive n) = some q ∧ s.iqFetches q = true ∧ fr.bytes.length ≤ q.buflen
      ∧ q.posted = 0 ∧ s.blockDown 18 = false)
    ∧ (∃ (s : State) (p pr : Fin 8), s.pkt.queue = [])
    ∧ (∃ (s : State) (p pr : Fin 8) (fr : PktFrame) (t0 : Nat), s.pkt.queue = [fr] ∧ fr.port = p ∧ fr.prio = pr ∧
      fr.waiting = some t0 ∧ s.clock - t0 < nsCycles (10000 * max 1 (s.gf PKT_CTL PKT_CTL_RXWAIT)))
    ∧ (∃ (s : State), s.pkt.frags.length ≤ 8192)
    ∧ (∃ (s : State) (p pr : Fin 8) (fr : PktFrame) (b : PktBank) (x k : Nat) (d : List Byte), s.pkt.queue = [fr] ∧
      s.pkt.held = [] ∧ fr.port = p ∧ fr.prio = pr ∧ s.bankAt fr.bank = some b ∧ fragmentOf b.head (parse b fr.bytes) fr
      = none ∧ s.missesBucket b fr x k = true ∧ b.tables[x]? = some d ∧ s.pkt.cache.length + 4 ≤ 16384 ∧ inHbm (ptBase d
      + k * 256) 256 = true) :=
  ⟨⟨S0, 3, [], by decide +kernel⟩,
   ⟨(P (bk0 4)), 3, (fb 0x800), by decide +kernel⟩,
   ⟨((P (bk0 4)).sf PKT_CTL PKT_CTL_EN 0), 3, (F (fb 0x800)), (fb 0x800), by decide +kernel⟩,
   ⟨((P (bk0 4)).sf (PKT_MSEC_CTL 3) PKT_MSEC_CTL_EN 1), 3, (F (fb 0x800)), (fb 0x800), by decide +kernel⟩,
   ⟨(P (bk0 4)), 3, (F (fb 0x800)), (fb 0x800), (mkF (fb 0x800)), (bk0 4), [], by decide +kernel⟩,
   ⟨((P (bkL [6 + 0x50000])).sf PKT_CNT_BASE PKT_CNT_BASE_BASE 1), 3, (F (fb 0x800)), (fb 0x800), (mkF (fb 0x800)), (bkL
     [6 + 0x50000]), [6 + 0x50000], 5, 0x100050, by decide +kernel⟩,
   ⟨(P (bk0 dst)), 3, (F (fb 0x800)), (fb 0x800), (mkF (fb 0x800)), (bk0 dst), [], dst, by decide +kernel⟩,
   ⟨(hu (wq iq0 (P (bk0 dst)))), 3, (F (fb 0x800)), (fb 0x800), (mkF (fb 0x800)), (bk0 dst), [], dst, 44, iq0, by
     decide +kernel⟩,
   ⟨(wq { iq0 with tail := 2 } (P (bk0 dst))), 3, (F (fb 0x800)), (fb 0x800), (mkF (fb 0x800)), (bk0 dst), [], dst, 44,
     ({ iq0 with tail := 2 }), by decide +kernel⟩,
   ⟨(P (bkU 0x24)), 3, (F fuF), fuF, (mkF fuF), (bkU 0x24), [], (outcomeOf (bkU 0x24).head []), by
     (repeat' with_reducible apply And.intro) <;> first | decide +kernel | exact Prod.ext (by decide +kernel) rfl | rfl⟩,
   ⟨(P (bkU 0x24)), 3, (F fu0), fu0, (mkF fu0), (bkU 0x24), [], (outcomeOf (bkU 0x24).head []), by
     (repeat' with_reducible apply And.intro) <;> first | decide +kernel | exact Prod.ext (by decide +kernel) rfl | rfl⟩,
   ⟨(P bkE), 3, (F fu0), fu0, (mkF fu0), bkE, 0, (exactBucket (tb 0) [0,0,0,0]), by decide +kernel⟩,
   ⟨(P bkI), 3, (F ff), ff, (((fragmentOf bkI.head (parse bkI ff) (mkF ff)).get!).1), (mkF ff), bkI, (((fragmentOf
     bkI.head (parse bkI ff) (mkF ff)).get!).2.1), (((fragmentOf bkI.head (parse bkI ff) (mkF ff)).get!).2.2.1), true,
     by decide +kernel⟩,
   ⟨S0, 5, by decide +kernel⟩,
   ⟨(Pc false), 0, sr, [⟨4, true, [3]⟩], by decide +kernel⟩,
   ⟨(Pc true), 0, sr, [⟨4, true, [3]⟩], chn, by decide +kernel⟩,
   ⟨S0, 0, by decide +kernel⟩,
   ⟨(Pt true), 0, (tf true), [{ tf true with port := 2 }], by decide +kernel⟩,
   ⟨((Pt false).setBucket false 9 ⟨⟨true, 4, 40, 3, 0, 0⟩, 0, none, 5⟩), 0, (tf false), [{ tf false with port := 2 }],
     9, by decide +kernel⟩,
   ⟨(((Pt false).setBucket false 9 ⟨⟨true, 4, 40, 3, 0, 0⟩, 7, none, 5⟩).sf (FAB_PORT_STATUS 3) FAB_PORT_STATUS_STATE
     1), 0, (tf false), [{ tf false with port := 2 }], 9, by decide +kernel⟩,
   ⟨Pu, 0, (tf false), tg, 6, 9, by decide +kernel⟩,
   ⟨(wq { iq0 with tail := 2 } (Pq (bk0 dst) (wf 5))), 3, 0, (wf 5), (bk0 dst), [], 5, dst, 44, ({ iq0 with tail := 2
     }), by decide +kernel⟩,
   ⟨S0, 3, 0, by decide +kernel⟩,
   ⟨(Pq (bk0 dst) (wf 9999999)), 3, 0, (wf 9999999), 9999999, by decide +kernel⟩,
   ⟨({ S0 with clock := 9000000, pkt := { S0.pkt with frags := [fe 3, fe 8900000] } }), by decide +kernel⟩,
   ⟨((Pq bkE (mkF fu0)).putBytes 0x40040 (fit 64 [1,2,3])), 3, 0, (mkF fu0), bkE, 0, (exactBucket (tb 0) [0,0,0,0]), (tb
     0), by decide +kernel⟩⟩

/-- States and operands that meet the hypotheses of PacketRegistersAndRequests, clause by clause. -/
theorem witness_PacketRegistersAndRequests :
    (∃ (s : State) (q : Requester) (v : W32), coreWrites q = true ∧ s.bit PKT_CTL PKT_CTL_EN = false ∧ inHbm (s.gf
      PKT_CNT_BASE PKT_CNT_BASE_BASE * 2 ^ 20) (2 ^ 20) = true)
    ∧ (∃ (s : State) (q : Requester) (v : W32), coreWrites q = true ∧ s.bit PKT_CTL PKT_CTL_EN = false ∧ inHbm (s.gf
      PKT_CNT_BASE PKT_CNT_BASE_BASE * 2 ^ 20) (2 ^ 20) = false)
    ∧ (∃ (s : State) (q : Requester) (v : W32), coreWrites q = false)
    ∧ (∃ (s : State) (q : Requester) (v : W32), coreWrites q = true ∧ s.swapPending = false ∧ s.blockDown 13 = false ∧
      s.bankCheck (s.bankBase (1 - s.activeBank)) = none ∧ s.unmarked (s.bankBase (1 - s.activeBank)) (max 64
      (s.bankSize (s.bankBase (1 - s.activeBank)))))
    ∧ (∃ (s : State) (q : Requester) (v : W32) (c : Nat), coreWrites q = true ∧ s.swapPending = false ∧ s.blockDown 13 =
      false ∧ s.bankCheck (s.bankBase (1 - s.activeBank)) = some c ∧ s.unmarked (s.bankBase (1 - s.activeBank)) (max 64
      (s.bankSize (s.bankBase (1 - s.activeBank)))))
    ∧ (∃ (s : State) (q : Requester) (v : W32), s.swapPending = true)
    ∧ (∃ (s : State) (img : PktBank), s.pkt.swap = some img ∧ s.pkt.banks.length = 2)
    ∧ (∃ (s : State), s.pkt.swap = none)
    ∧ (∃ (s : State) (q : Requester) (v : W32), coreWrites q = true ∧ s.bit PKT_EXACT_INVAL PKT_EXACT_INVAL_BUSY = false
      ∧ bitAt v.toNat 30 = true)
    ∧ (∃ (s : State) (q : Requester) (v : W32), coreWrites q = true ∧ s.bit PKT_EXACT_INVAL PKT_EXACT_INVAL_BUSY = false
      ∧ bitAt v.toNat 30 = false)
    ∧ (∃ (s : State) (q : Requester) (p : Fin 8) (v : W32), coreWrites q = true ∧ s.isEth p = true ∧ bitAt v.toNat 31 =
      true ∧ bitAt v.toNat 30 = true ∧ (s.txSa p).isSome = true ∧ s.bit (PKT_MSEC_CTL p) PKT_MSEC_CTL_PROTECT = false)
    ∧ (∃ (s : State) (q : Requester) (p : Fin 8) (v : W32), coreWrites q = true ∧ s.isEth p = false ∧ bitAt v.toNat 31 =
      true ∧ s.bit (PKT_MSEC_CTL p) PKT_MSEC_CTL_EN = false ∧ bitAt v.toNat 30 = false)
    ∧ (∃ (s : State) (r : SynReq) (a : BitVec 52), s.synRefusal 0x0B00 domPkt r = none ∧ s.swapPending = true)
    ∧ (∃ (s : State) (r : SynReq) (a : BitVec 52), s.synRefusal 0x0B00 domPkt r = none ∧ s.swapPending = false ∧
      s.activeBank = 0 ∧ s.pkt.banks.length = 2 ∧ s.bankCheck (a.toNat / 4096 * 4096) = none)
    ∧ (∃ (s : State) (r : SynReq) (a : BitVec 52) (c : Nat), s.synRefusal 0x0B00 domPkt r = none ∧ s.swapPending = false
      ∧ s.activeBank = 0 ∧ s.bankCheck (a.toNat / 4096 * 4096) = some c)
    ∧ (∃ (s : State) (r : SynReq) (b : Fin 2) (x : Byte) (key : List Byte) (l : BitVec 12) (d : List Byte) (e k : Nat)
      (img : PktBank), s.synRefusal 0x0B01 domPkt r = none ∧ s.exactTable b x.toNat key = some d ∧ s.bankAt b = some img
      ∧ l.toNat < img.lists.length ∧ k = exactBucket d (fit (ptKeyBytes d) key) ∧ (∀ i, i < 4 → fieldLE (s.exactEntry d
      k i) 32 1 % 2 = 1 → (s.exactEntry d k i).take (ptKeyBytes d) ≠ fit (ptKeyBytes d) key) ∧ e < 4 ∧ fieldLE
      (s.exactEntry d k e) 32 1 % 2 = 0 ∧ (∀ i, i < e → fieldLE (s.exactEntry d k i) 32 1 % 2 = 1) ∧ s.bit CKP_CTL
      CKP_CTL_EN = false ∧ inHbm (ptBase d + (k * 4 + e) * 64) 64 = true)
    ∧ (∃ (s : State) (r : SynReq) (b : Fin 2) (x : Byte) (key : List Byte) (l : BitVec 12), s.synRefusal 0x0B01 domPkt r
      = none ∧ s.exactTable b x.toNat key = none)
    ∧ (∃ (s : State) (r : SynReq) (b : Fin 2) (x : Byte) (key : List Byte) (l : BitVec 12) (d : List Byte) (k : Nat)
      (img : PktBank), s.synRefusal 0x0B01 domPkt r = none ∧ s.exactTable b x.toNat key = some d ∧ s.bankAt b = some img
      ∧ l.toNat < img.lists.length ∧ k = exactBucket d (fit (ptKeyBytes d) key) ∧ (∀ i, i < 4 → fieldLE (s.exactEntry d
      k i) 32 1 % 2 = 1 ∧ (s.exactEntry d k i).take (ptKeyBytes d) ≠ fit (ptKeyBytes d) key))
    ∧ (∃ (s : State) (r : SynReq) (b : Fin 2) (x : Byte) (key d : List Byte) (k e : Nat), s.synRefusal 0x0B02 domPkt r =
      none ∧ s.exactTable b x.toNat key = some d ∧ k = exactBucket d (fit (ptKeyBytes d) key) ∧ e < 4 ∧ fieldLE
      (s.exactEntry d k e) 32 1 % 2 = 1 ∧ (s.exactEntry d k e).take (ptKeyBytes d) = fit (ptKeyBytes d) key ∧ (∀ i, i <
      e → fieldLE (s.exactEntry d k i) 32 1 % 2 = 0) ∧ s.bit CKP_CTL CKP_CTL_EN = false ∧ inHbm (ptBase d + (k * 4 + e)
      * 64) 64 = true)
    ∧ (∃ (s : State) (r : SynReq) (b : Fin 2) (x : Byte) (key d : List Byte) (k : Nat), s.synRefusal 0x0B02 domPkt r =
      none ∧ s.exactTable b x.toNat key = some d ∧ k = exactBucket d (fit (ptKeyBytes d) key) ∧ (∀ i, i < 4 → fieldLE
      (s.exactEntry d k i) 32 1 % 2 = 0))
    ∧ (∃ (s : State) (r : SynReq) (f : W16) (n : Fin 257), s.synRefusal 0x0B03 domPkt r = none ∧ f.toNat + n.val ≤
      65536)
    ∧ (∃ (s : State) (r : SynReq) (m : MsecSpec), s.synRefusal 0x0B04 domPkt r = none ∧ s.slotUsable m.slot.toNat 3
      ownerInternal = true ∧ m.tx = true)
    ∧ (∃ (s : State) (r : SynReq) (m : MsecSpec), s.synRefusal 0x0B04 domPkt r = none ∧ s.slotUsable m.slot.toNat 3
      ownerInternal = true ∧ m.tx = false ∧ ((s.msecOf m.port).rx.map (·.1)).eraseDups.length < 32)
    ∧ (∃ (s : State) (r : SynReq) (m : MsecSpec), s.synRefusal 0x0B04 domPkt r = none ∧ s.slotUsable m.slot.toNat 3
      ownerInternal = false)
    ∧ (∃ (s : State) (r : SynReq) (m : MsecSpec), s.synRefusal 0x0B04 domPkt r = none ∧ s.slotUsable m.slot.toNat 3
      ownerInternal = true ∧ m.tx = false ∧ 32 ≤ ((s.msecOf m.port).rx.map (·.1)).eraseDups.length ∧ m.sci.toNat ∉
      (s.msecOf m.port).rx.map (·.1))
    ∧ (∃ (s : State) (r : SynReq) (p : Fin 8), s.synRefusal 0x0B05 domPkt r = none ∧ (s.msecOf p).tx.any (fun e => e.1
      == (s.txAnOf p + 1) % 4) = true)
    ∧ (∃ (s : State) (r : SynReq) (p : Fin 8), s.synRefusal 0x0B05 domPkt r = none ∧ (s.msecOf p).tx.any (fun e => e.1
      == (s.txAnOf p + 1) % 4) = false)
    ∧ (∃ (s : State) (r : SynReq), s.synRefusal 0x0B06 domPkt r = none) :=
  ⟨⟨(S0.sf PKT_CNT_BASE PKT_CNT_BASE_BASE 1), qt, 0x5500, by decide +kernel⟩,
   ⟨(S0.sf PKT_CNT_BASE PKT_CNT_BASE_BASE 0xFFFFFFFF), qt, 0x5500, by decide +kernel⟩,
   ⟨S0, .host, 0x5500, by decide +kernel⟩,
   ⟨Sw, qt, 0, by decide +kernel⟩,
   ⟨S0, qt, 0, 0x06B1, by decide +kernel⟩,
   ⟨(S0.sf PKT_SWAP PKT_SWAP_PENDING 1), qt, 0, by decide +kernel⟩,
   ⟨({ P bkE with pkt := { (P bkE).pkt with swap := some bkI } }), bkI, by decide +kernel⟩,
   ⟨S0, by decide +kernel⟩,
   ⟨Pca, qt, 0x40000000, by decide +kernel⟩,
   ⟨Pca, qt, 0x28000003, by decide +kernel⟩,
   ⟨Pm, qt, 3, 0xD0000000, by decide +kernel⟩,
   ⟨Pm, qt, 4, 0x90000000, by decide +kernel⟩,
   ⟨(synOn (S0.sf PKT_SWAP PKT_SWAP_PENDING 1)), rq, 0, by decide +kernel⟩,
   ⟨(synOn Sw), rq, 0x50000, by decide +kernel⟩,
   ⟨(synOn Sw), rq, 0x60000, 0x06B1, by decide +kernel⟩,
   ⟨(fullE (synOn (P bkE)) 2), rq, 0, 0, key, 0, (tb 0), 2, kk, bkE, by decide +kernel⟩,
   ⟨(fullE (synOn (P bkE)) 2), rq, 0, 1, key, 0, by decide +kernel⟩,
   ⟨(fullE (synOn (P bkE)) 4), rq, 0, 0, key, 0, (tb 0), kk, bkE, by decide +kernel⟩,
   ⟨((synOn (P bkE)).putBytes (0x40000 + (kk * 4 + 1) * 64) (fit 64 (fit 32 key ++ [1]))), rq, 0, 0, key, (tb 0), kk, 1,
     by decide +kernel⟩,
   ⟨(synOn (P bkE)), rq, 0, 0, key, (tb 0), kk, by decide +kernel⟩,
   ⟨(synOn (P bkE)), rq, 5, 3, by decide +kernel⟩,
   ⟨(sl (synOn (P bkE))), rq, (msp true), by decide +kernel⟩,
   ⟨(sl (synOn (P bkE))), rq, (msp false), by decide +kernel⟩,
   ⟨(synOn (P bkE)), rq, (msp false), by decide +kernel⟩,
   ⟨((sl (synOn (P bkE))).setMsec 3 ⟨(List.range 32).map (fun i => (i, 0, ⟨1,1,[],1,1⟩)), 1, []⟩), rq, (msp false), by
     decide +kernel⟩,
   ⟨(synOn (((P bkE)).setMsec 3 ⟨[], 1, [(1, ⟨1,1,[],1,1⟩)]⟩)), rq, 3, by decide +kernel⟩,
   ⟨(synOn (((P bkE)).setMsec 3 ⟨[], 1, [(2, ⟨1,1,[],1,1⟩)]⟩)), rq, 3, by decide +kernel⟩,
   ⟨(synOn (P bkE)), rq, by decide +kernel⟩⟩

end C12

namespace C13

def rq : SynReq := ⟨.mailbox 0, 3, 2, 7, 7, false, none⟩
def qt : Requester := .core 3
def synOn (s : State) : State := ((s.sf DEV_STATUS DEV_STATUS_STAGE 6).sf DEV_ENABLE DEV_ENABLE_EN 1).setMb 0 { Mailbox.reset with session := some ⟨5, false, 0, none⟩ }
def hu (s : State) : State := s.cfgWr 4 (s.cfgRd 4 ||| 6)
def inst7 (s : State) : State := s.setInst 7 { s.instOf 7 with state := .enabled, session := 5, pasid := 33, vecFirst := 2, vecCount := 4, maxq := [3,3,3,3] }
def Q : StoQ := ⟨7, 9, 0x1000, 0x8000, 4, 3, 0, 5, 10, 16, .active, .active, none, 6, 2, 17, 16, 0, 0, [], 77, [], []⟩
def B : State := { (inst7 (hu S0)).sf STO_CTL STO_CTL_EN 1 with clock := 10^10 }
def wq (q : StoQ) (s : State) : State := s.setStoQ 44 q
def ent (op : Nat) : List Byte := fit 64 (leBytes 1 op ++ [1] ++ leBytes 2 0x1234 ++ leBytes 4 3 ++ leBytes 8 100 ++ leBytes 4 2 ++ leBytes 4 0 ++ leBytes 8 0x90000)
def Fh (op : Nat) : State := (wq Q B).hostPut ((wq Q B).instPasid 7) (0x1000 + 2*64) (ent op)
def rl (s : State) : List (Nat × Nat) := (s.sto.queues.filter (fun e => s.stoEligible e.1 e.2)).map (fun e => (e.1, e.2.tickets))
def vr (x ow bk : Nat) : List Byte := fit 64 (leBytes 4 (3 + 4 * x + ow * 2^16) ++ leBytes 4 bk ++ leBytes 4 88 ++ leBytes 4 9 ++ leBytes 8 1000 ++ leBytes 8 5000 ++ leBytes 8 70)
def V (x : Nat) : State := (((wq Q B).wr64 STO_VOL_BASE 0x40000).putBytes (0x40000 + 3 * 64) (vr x 7 1)).setBacking 1 ⟨true, true, 1, [(88, 100000, true)], [], 0, none⟩
def cm (op : Nat) : StoCmd := ⟨5, 44, 7, ((V 0).instOf 7).gen, 3, 0x1234, op, true, false, 3, 100, 2, 0x90000, 0, op != 0, .waiting, 0, 0, 0, [], [], [], false, 0, false, none⟩
def wc (c : StoCmd) (s : State) : State := { s with sto := { s.sto with cmds := [{ cm 2 with id := 1, volume := 4 }, c, { cm 2 with id := 7 }] } }
def ks (s : State) : State := { s with sec := { s.sec with slots := [(9, { s.slotOf 9 with type := 4, owner := 7, key := [1,2,3] })] } }
def one (s : State) : State := s.setBacking 1 ⟨true, true, 8, [(88, 100000, true)], [], 0, none⟩
def blk (c : StoCmd) : State := wc c { V 0 with sto := { (V 0).sto with changes := [⟨3, [], 2, rq, 0x0C04⟩] } }
def mv (st : Nat) : StoCmd := { cm 1 with phase := .moved, status := st }
def rn (op : Nat) : StoCmd := { cm op with phase := .running, backing := 1, parts := [⟨0, 1, 88, 0, 2⟩], segs := [(0x90000, 8192)] }
def ow : StoQ := { Q with owed := [leBytes 16 77, [1]] }
def Se : State := (S0.wr64 STO_VOL_BASE 0x40000).wr64 STO_STAGE_BASE 0x10000000
def sp : StoQueueSpec := ⟨some 45, 0x1000, 0x8000, 4, 3, 0, 5, 10, 16⟩
def Y : State := synOn (V 0)
def only (b : Nat) (s : State) : State := { s with sto := { s.sto with cmds := [{ rn 1 with parts := [⟨0, b, 88, 0, 2⟩] }] } }

/-- States and operands that meet the hypotheses of StorageCommandsRun, clause by clause. -/
theorem witness_StorageCommandsRun :
    (∃ (s : State) (i : Fin 2048) (ix : Fin 64) (v : W32) (n : Nat) (q : StoQ), s.pageOpen i = true ∧ s.stoQAt i ix =
      some (n, q) ∧ (v.toNat % 2 ^ 16 + 2 ^ 16 - q.head) % 2 ^ 16 ≤ 2 ^ q.log2n)
    ∧ (∃ (s : State) (i : Fin 2048) (ix : Fin 64) (v : W32) (n : Nat) (q : StoQ), s.pageOpen i = true ∧ s.stoQAt i ix =
      some (n, q) ∧ s.stoQ n = some q ∧ q.state = .active ∧ 2 ^ q.log2n < (v.toNat % 2 ^ 16 + 2 ^ 16 - q.head) % 2 ^ 16)
    ∧ (∃ (s : State) (i : Fin 2048) (ix : Fin 64) (v : W32), s.pageOpen i = true ∧ s.stoQAt i ix = none)
    ∧ (∃ (s : State) (i : Fin 2048) (ix : Fin 64) (v : W32), s.pageOpen i = false)
    ∧ (∃ (s : State) (i : Fin 2048) (ix : Fin 64) (v : W32) (n : Nat) (q : StoQ), s.pageOpen i = true ∧ s.stoQAt i ix =
      some (n, q))
    ∧ (∃ (s s1 : State) (gap n : Nat) (q : StoQ) (e : List Byte) (o : DmaOut), s.stoEn = true ∧ s.hostUp = true ∧
      s.locksHeld < 4096 ∧ o = .ok ∧ s.sto.queues.filter (fun e => s.stoEligible e.1 e.2) ≠ [] ∧ s.draw (arbId 7 0) 256
      gap ((s.sto.queues.filter (fun e => s.stoEligible e.1 e.2)).map (fun e => (e.1, e.2.tickets))) = (some n, s1) ∧
      s.stoQ n = some q ∧ s.hostBytes (s.instPasid q.inst) (q.sq + q.head % 2 ^ q.log2n * 64) 64 = e ∧ stoEntryStatus e
      = 0 ∧ fieldLE e 0 1 ≠ 0)
    ∧ (∃ (s s1 : State) (gap n : Nat) (q : StoQ) (e : List Byte) (o : DmaOut), s.stoEn = true ∧ s.hostUp = true ∧
      s.locksHeld < 4096 ∧ o = .ok ∧ s.sto.queues.filter (fun e => s.stoEligible e.1 e.2) ≠ [] ∧ s.draw (arbId 7 0) 256
      gap ((s.sto.queues.filter (fun e => s.stoEligible e.1 e.2)).map (fun e => (e.1, e.2.tickets))) = (some n, s1) ∧
      s.stoQ n = some q ∧ q.state = .active ∧ q.deleting = none ∧ s.hostBytes (s.instPasid q.inst) (q.sq + q.head % 2 ^
      q.log2n * 64) 64 = e ∧ stoEntryStatus e ≠ 0)
    ∧ (∃ (s s1 : State) (gap n : Nat) (q : StoQ) (o : DmaOut), s.stoEn = true ∧ s.hostUp = true ∧ s.locksHeld < 4096 ∧ o
      = .untranslated ∧ s.sto.queues.filter (fun e => s.stoEligible e.1 e.2) ≠ [] ∧ s.draw (arbId 7 0) 256 gap
      ((s.sto.queues.filter (fun e => s.stoEligible e.1 e.2)).map (fun e => (e.1, e.2.tickets))) = (some n, s1) ∧ s.stoQ
      n = some q ∧ q.state = .active)
    ∧ (∃ (s : State) (gap : Nat) (o : DmaOut), s.stoEn = false ∨ s.hostUp = false ∨ 4096 ≤ s.locksHeld ∨
      s.sto.queues.filter (fun e => s.stoEligible e.1 e.2) = [])
    ∧ (∃ (s : State) (id : Nat) (c : StoCmd) (o : DmaOut) (segs : List (Nat × Nat)) (b : Nat), s.stoReady id 1 c ∧
      s.stoVolStatus c = 0 ∧ volXts (s.volRec c.volume) = false ∧ s.stoBuffer c o = .inr segs ∧ o ≠ .poisoned ∧ b =
      volBacking (s.volRec c.volume) ∧ (s.backing b).ready = true)
    ∧ (∃ (s : State) (id : Nat) (c : StoCmd) (o : DmaOut) (segs : List (Nat × Nat)) (b : Nat) (k : List Byte),
      s.stoReady id 1 c ∧ s.stoVolStatus c = 0 ∧ volXts (s.volRec c.volume) = true ∧ s.stoKey (s.volRec c.volume) = some
      (some k) ∧ s.stoBuffer c o = .inr segs ∧ o ≠ .poisoned ∧ b = volBacking (s.volRec c.volume) ∧ (s.backing b).ready
      = true ∧ c.blocks ≤ (s.backing b).mdts ∧ c.blocks ≠ 0)
    ∧ (∃ (s : State) (id : Nat) (c : StoCmd) (o : DmaOut) (st : Nat), s.stoReady id 1 c ∧ s.stoVolStatus c = 0 ∧ volXts
      (s.volRec c.volume) = false ∧ s.stoBuffer c o = .inl st)
    ∧ (∃ (s : State) (id : Nat) (c : StoCmd) (o : DmaOut), s.stoReady id 1 c ∧ s.stoVolStatus c ≠ 0)
    ∧ (∃ (s : State) (id : Nat) (c : StoCmd) (o : DmaOut) (segs : List (Nat × Nat)), s.stoReady id 1 c ∧ s.stoVolStatus
      c = 0 ∧ volXts (s.volRec c.volume) = false ∧ s.stoBuffer c o = .inr segs ∧ o ≠ .poisoned ∧ (s.backing (volBacking
      (s.volRec c.volume))).ready = false)
    ∧ (∃ (s : State) (id : Nat) (c : StoCmd) (o : DmaOut), s.stoCmd id = some c ∧ s.stoMayStart c = false)
    ∧ (∃ (s : State) (id : Nat) (c : StoCmd) (o : DmaOut) (segs : List (Nat × Nat)) (b : Nat), s.stoReady id 2 c ∧
      s.stoVolStatus c = 0 ∧ volXts (s.volRec c.volume) = false ∧ s.stoBuffer c o = .inr segs ∧ b = volBacking (s.volRec
      c.volume) ∧ (s.backing b).ready = true)
    ∧ (∃ (s : State) (id : Nat) (c : StoCmd) (b : Nat), s.stoReady id 8 c ∧ s.stoVolStatus c = 0 ∧ volXts (s.volRec
      c.volume) = false ∧ b = volBacking (s.volRec c.volume) ∧ (s.backing b).ready = true)
    ∧ (∃ (s : State) (id : Nat) (c : StoCmd) (b : Nat) (k : List Byte), s.stoReady id 8 c ∧ s.stoVolStatus c = 0 ∧
      volXts (s.volRec c.volume) = true ∧ s.stoKey (s.volRec c.volume) = some (some k) ∧ b = volBacking (s.volRec
      c.volume) ∧ (s.backing b).ready = true ∧ c.blocks ≤ (s.backing b).mdts ∧ c.blocks ≠ 0)
    ∧ (∃ (s : State) (id : Nat) (c : StoCmd) (b : Nat), s.stoReady id 9 c ∧ s.stoVolStatus c = 0 ∧ b = volBacking
      (s.volRec c.volume) ∧ (s.backing b).ready = true)
    ∧ (∃ (s : State) (id : Nat) (c : StoCmd), s.stoCmd id = some c ∧ c.waits ≠ [])
    ∧ (∃ (s : State) (id : Nat) (c : StoCmd) (q : StoQ) (b ns w : Nat), s.stoCmd id = some c ∧ c.op = 0 ∧ c.phase =
      .waiting ∧ c.waits = [] ∧ s.stoQ c.q = some q ∧ s.stoLive c = true ∧ q.wrote = [(b, ns, w)] ∧ (s.backing b).vwc =
      true ∧ (s.backing b).ready = true)
    ∧ (∃ (s : State) (id : Nat) (c : StoCmd) (q : StoQ), s.stoCmd id = some c ∧ c.op = 0 ∧ c.phase = .waiting ∧ c.waits
      = [] ∧ c.lock = false ∧ c.bad = false ∧ c.hostDown = false ∧ s.stoQ c.q = some q ∧ s.stoLive c = true ∧ q.deleting
      = none ∧ (∀ w ∈ q.wrote, (s.backing w.1).vwc = false ∧ (s.backing w.1).ready = true))
    ∧ (∃ (s : State) (id : Nat) (c : StoCmd) (q : StoQ), s.stoCmd id = some c ∧ c.op = 0 ∧ c.phase = .waiting ∧ c.waits
      = [] ∧ c.lock = false ∧ c.bad = true ∧ c.hostDown = false ∧ s.stoQ c.q = some q ∧ s.stoLive c = true ∧ q.state =
      .active ∧ q.wrote = [] ∧ q.deleting = none)
    ∧ (∃ (s : State) (id : Nat) (c : StoCmd) (q : StoQ), s.stoCmd id = some c ∧ c.phase = .moved ∧ c.lock = true ∧
      c.status = 0 ∧ s.stoQ c.q = some q ∧ s.stoLive c = true ∧ q.owed = [] ∧ q.state ≠ .quiesced ∧ q.room = true ∧
      s.hostUp = true ∧ q.deleting = none ∧ c.op ≠ 0 ∧ s.sto.changes = [])
    ∧ (∃ (s : State) (id : Nat) (c : StoCmd) (q : StoQ), s.stoCmd id = some c ∧ c.phase = .moved ∧ c.lock = true ∧
      c.status ∉ [0, 0x12] ∧ s.stoQ c.q = some q ∧ s.stoLive c = true ∧ q.state = .active ∧ q.deleting = none)
    ∧ (∃ (s : State) (id : Nat) (c : StoCmd), s.stoCmd id = some c ∧ c.phase = .moved ∧ c.lock = true ∧ s.stoLive c =
      false)
    ∧ (∃ (s : State) (id : Nat) (c : StoCmd), s.stoCmd id = some c ∧ c.phase ≠ .moved)
    ∧ (∃ (s : State) (id k : Nat) (c : StoCmd) (p : StoPart) (data : List Byte) (o : DmaOut), s.stoCmd id = some c ∧
      c.op ≠ 0 ∧ c.op ≠ 2 ∧ c.lock = true ∧ c.hostDown = false ∧ c.parts = [p] ∧ p.n = k)
    ∧ (∃ (s : State) (id k : Nat) (c : StoCmd) (p : StoPart) (st : W16) (data : List Byte) (o : DmaOut), s.stoCmd id =
      some c ∧ c.op ≠ 0 ∧ c.lock = true ∧ c.hostDown = false ∧ c.parts = [p] ∧ p.n = k ∧ st ≠ 0 ∧ c.status = 0)
    ∧ (∃ (s : State) (id k : Nat) (c : StoCmd) (p : StoPart) (data : List Byte) (o : DmaOut) (a : Nat), s.stoCmd id =
      some c ∧ c.op = 2 ∧ c.lock = true ∧ c.hostDown = false ∧ c.parts = [p] ∧ p.n = k ∧ s.hostUp = true ∧ o = .ok ∧
      s.stoLive c = true ∧ c.slot = none ∧ p.off = 0 ∧ c.segs = [(a, p.blocks * 4096)])
    ∧ (∃ (s : State) (id k : Nat) (c : StoCmd) (st : W16) (data : List Byte) (o : DmaOut), s.stoCmd id = some c ∧ (∀ p ∈
      c.parts, p.n ≠ k))
    ∧ (∃ (s : State) (n : Fin 4096) (q : StoQ) (c : List Byte) (rest : List (List Byte)) (o : DmaOut), s.stoQ n = some q
      ∧ q.owed = c :: rest ∧ q.state ≠ .quiesced ∧ s.hostUp = true ∧ q.room = true ∧ o ≠ .untranslated ∧ q.deleting =
      none)
    ∧ (∃ (s : State) (n : Fin 4096) (q : StoQ) (c : List Byte) (rest : List (List Byte)) (o : DmaOut), s.stoQ n = some q
      ∧ q.owed = c :: rest ∧ q.state = .active ∧ s.hostUp = true ∧ q.room = true ∧ o = .untranslated ∧ q.deleting =
      none)
    ∧ (∃ (s : State) (n : Fin 4096) (q : StoQ) (o : DmaOut), s.stoQ n = some q ∧ q.room = false ∧ q.deleting = none)
    ∧ (∃ (s : State) (n : Fin 4096) (q : StoQ), s.stoQ n = some q ∧ q.pend ≠ 0 ∧ q.state ≠ .quiesced ∧ q.coalUs * 10000
      ≤ (s.clock - q.pendAt) * 64)
    ∧ (∃ (s : State) (n : Fin 4096) (q : StoQ), s.stoQ n = some q ∧ (s.clock - q.pendAt) * 64 < q.coalUs * 10000)
    ∧ (∃ (s : State) (c : Fin 64), (s.backing (16 + c.val)).ready = true ∧ 781250000 ≤ s.clock - (s.backing (16 +
      c.val)).kaAt)
    ∧ (∃ (s : State) (c : Fin 64), (s.backing (16 + c.val)).ready = false)
    ∧ (∃ (s : State) (c : Fin 64) (r : SynReq) (a : Nat), (s.backing (16 + c.val)).connecting = some (r, a) ∧ 1562500000
      ≤ s.clock - a)
    ∧ (∃ (s : State) (c : Fin 64), (s.backing (16 + c.val)).connecting = none) :=
  ⟨⟨(wq Q B), 7, 9, 18, 44, Q, by decide +kernel⟩,
   ⟨(wq Q B), 7, 9, 19, 44, Q, by decide +kernel⟩,
   ⟨(wq Q B), 7, 8, 19, by decide +kernel⟩,
   ⟨(wq Q B), 6, 8, 19, by decide +kernel⟩,
   ⟨(wq Q B), 7, 9, 18, 44, Q, by decide +kernel⟩,
   ⟨(Fh 1), (((Fh 1).draw (arbId 7 0) 256 3 (rl (Fh 1))).2), 3, 44, Q, (ent 1), .ok, by
     (repeat' with_reducible apply And.intro) <;> first | exact Prod.ext (by decide +kernel) rfl | decide +kernel | rfl⟩,
   ⟨(Fh 5), (((Fh 5).draw (arbId 7 0) 256 3 (rl (Fh 5))).2), 3, 44, Q, (ent 5), .ok, by
     (repeat' with_reducible apply And.intro) <;> first | exact Prod.ext (by decide +kernel) rfl | decide +kernel | rfl⟩,
   ⟨(Fh 5), (((Fh 5).draw (arbId 7 0) 256 3 (rl (Fh 5))).2), 3, 44, Q, .untranslated, by
     (repeat' with_reducible apply And.intro) <;> first | exact Prod.ext (by decide +kernel) rfl | decide +kernel | rfl⟩,
   ⟨B, 3, .ok, by decide +kernel⟩,
   ⟨(wc (cm 1) (V 0)), 5, (cm 1), .ok, [(0x90000, 8192)], 1, by decide +kernel⟩,
   ⟨(ks (wc (cm 1) (one (V 1)))), 5, (cm 1), .ok, [(0x90000, 8192)], 1, (fit 64 [1,2,3]), by decide +kernel⟩,
   ⟨(wc (cm 1) (V 0)), 5, (cm 1), .untranslated, 0x10, by decide +kernel⟩,
   ⟨(wc { cm 1 with lba := 4999 } (V 0)), 5, ({ cm 1 with lba := 4999 }), .ok, by decide +kernel⟩,
   ⟨((wc (cm 1) (V 0)).setBacking 1 Backing.reset), 5, (cm 1), .ok, [(0x90000, 8192)], by decide +kernel⟩,
   ⟨(blk (cm 1)), 5, (cm 1), .ok, by decide +kernel⟩,
   ⟨(wc (cm 2) (V 0)), 5, (cm 2), .ok, [(0x90000, 8192)], 1, by decide +kernel⟩,
   ⟨(wc (cm 8) (V 0)), 5, (cm 8), 1, by decide +kernel⟩,
   ⟨(ks (wc (cm 8) (one (V 1)))), 5, (cm 8), 1, (fit 64 [1,2,3]), by decide +kernel⟩,
   ⟨(wc (cm 9) (V 0)), 5, (cm 9), 1, by decide +kernel⟩,
   ⟨(wc { cm 0 with waits := [1] } (V 0)), 5, ({ cm 0 with waits := [1] }), by decide +kernel⟩,
   ⟨(wc (cm 0) (wq { Q with wrote := [(1, 88, 3)] } (V 0))), 5, (cm 0), ({ Q with wrote := [(1, 88, 3)] }), 1, 88, 3, by
     decide +kernel⟩,
   ⟨(wc (cm 0) (V 0)), 5, (cm 0), Q, by decide +kernel⟩,
   ⟨(wc { cm 0 with bad := true } (V 0)), 5, ({ cm 0 with bad := true }), Q, by decide +kernel⟩,
   ⟨(wc (mv 0) (V 0)), 5, (mv 0), Q, by decide +kernel⟩,
   ⟨(wc (mv 0x52) (V 0)), 5, (mv 0x52), Q, by decide +kernel⟩,
   ⟨(wc { mv 0 with gen := 55 } (V 0)), 5, ({ mv 0 with gen := 55 }), by decide +kernel⟩,
   ⟨(wc (cm 1) (V 0)), 5, (cm 1), by decide +kernel⟩,
   ⟨(wc (rn 1) (V 0)), 5, 0, (rn 1), ⟨0, 1, 88, 0, 2⟩, [], .ok, by decide +kernel⟩,
   ⟨(wc (rn 1) (V 0)), 5, 0, (rn 1), ⟨0, 1, 88, 0, 2⟩, 0x281, [], .ok, by decide +kernel⟩,
   ⟨(wc (rn 2) (V 0)), 5, 0, (rn 2), ⟨0, 1, 88, 0, 2⟩, [1,2,3,4], .ok, 0x90000, by decide +kernel⟩,
   ⟨(wc (rn 2) (V 0)), 5, 1, (rn 2), 0, [1,2,3,4], .ok, by decide +kernel⟩,
   ⟨(wq ow B), 44, ow, (leBytes 16 77), [[1]], .ok, by decide +kernel⟩,
   ⟨(wq ow B), 44, ow, (leBytes 16 77), [[1]], .untranslated, by decide +kernel⟩,
   ⟨(wq { ow with cqHead := 1 } B), 44, ({ ow with cqHead := 1 }), .untranslated, by decide +kernel⟩,
   ⟨(wq { ow with pend := 1 } B), 44, ({ ow with pend := 1 }), by decide +kernel⟩,
   ⟨(wq { ow with pend := 1, pendAt := 10^10 } B), 44, ({ ow with pend := 1, pendAt := 10^10 }), by decide +kernel⟩,
   ⟨(B.setBacking 17 ⟨true, true, 1, [(88, 100000, true)], [], 0, none⟩), 1, by decide +kernel⟩,
   ⟨B, 1, by decide +kernel⟩,
   ⟨(B.setBacking 17 ⟨false, true, 1, [(88, 100000, true)], [], 0, some (rq, 3)⟩), 1, rq, 3, by decide +kernel⟩,
   ⟨B, 1, by decide +kernel⟩⟩

/-- States and operands that meet the hypotheses of StorageRegistersAndRequests, clause by clause. -/
theorem witness_StorageRegistersAndRequests :
    (∃ (s : State) (q : Requester) (v : W32), coreWrites q = true ∧ s.bit STO_CTL STO_CTL_EN = false ∧ s.stoCheck =
      none)
    ∧ (∃ (s : State) (q : Requester) (v : W32), coreWrites q = true ∧ s.bit STO_CTL STO_CTL_EN = false ∧ s.stoCheck ≠
      none)
    ∧ (∃ (s : State) (q : Requester) (v : W32), coreWrites q = false)
    ∧ (∃ (s : State) (r : SynReq) (p : StoQueueSpec) (n : Fin 4096) (ix : Nat), s.synRefusal 0x0C00 (domSto 0) r = none
      ∧ synInst r < 2048 ∧ s.ownsInst r (synInst r) = true ∧ s.stoQueueCheck (synInst r) p = none ∧ p.queue = some n ∧
      s.stoQ n = none ∧ lowestFree ((s.sto.queues.filter (fun e => e.2.inst == synInst r)).map (·.2.localIx)) = some ix)
    ∧ (∃ (s : State) (r : SynReq) (p : StoQueueSpec) (c : Nat), s.synRefusal 0x0C00 (domSto 0) r = none ∧ synInst r <
      2048 ∧ s.ownsInst r (synInst r) = true ∧ s.stoQueueCheck (synInst r) p = some c)
    ∧ (∃ (s : State) (r : SynReq) (p : StoQueueSpec) (n : Fin 4096), s.synRefusal 0x0C00 (domSto 0) r = none ∧ synInst r
      < 2048 ∧ s.ownsInst r (synInst r) = true ∧ s.stoQueueCheck (synInst r) p = none ∧ p.queue = some n ∧ (s.stoQ
      n).isSome = true)
    ∧ (∃ (s : State) (r : SynReq) (n : Fin 4096) (q : StoQ), s.synRefusal 0x0C01 (domSto n) r = none ∧ s.stoOwned r n =
      .inr q ∧ q.deleting = none ∧ s.stoOut n = 0 ∧ q.owed = [])
    ∧ (∃ (s : State) (r : SynReq) (n : Fin 4096) (q : StoQ), s.synRefusal 0x0C01 (domSto n) r = none ∧ s.stoOwned r n =
      .inr q ∧ q.deleting = none ∧ s.stoOut n ≠ 0)
    ∧ (∃ (s : State) (r : SynReq) (n : Fin 4096) (q : StoQ), s.synRefusal 0x0C02 (domSto n) r = none ∧ s.stoOwned r n =
      .inr q ∧ q.state = .frozen ∧ s.stoOut n = 0)
    ∧ (∃ (s : State) (r : SynReq) (n : Fin 4096) (q : StoQ), s.synRefusal 0x0C02 (domSto n) r = none ∧ s.stoOwned r n =
      .inr q ∧ q.state = .frozen ∧ s.stoOut n ≠ 0)
    ∧ (∃ (s : State) (r : SynReq) (n : Fin 4096) (q : StoQ), s.synRefusal 0x0C02 (domSto n) r = none ∧ s.stoOwned r n =
      .inr q ∧ q.state ≠ .frozen)
    ∧ (∃ (s : State) (r : SynReq) (n : Fin 4096) (q : StoQ), s.synRefusal 0x0C03 (domSto n) r = none ∧ s.stoOwned r n =
      .inr q)
    ∧ (∃ (s : State) (r : SynReq) (v : Fin 1024) (x : List Byte), s.synRefusal 0x0C04 (domSto 0) r = none ∧ x.length =
      64 ∧ s.stoVolCheck v x = none ∧ volXts x = false ∧ s.sto.changes = [] ∧ s.sto.cmds = [] ∧ s.bit CKP_CTL CKP_CTL_EN
      = false ∧ inHbm (s.volAddr v) 64 = true)
    ∧ (∃ (s : State) (r : SynReq) (v : Fin 1024) (x : List Byte), s.synRefusal 0x0C04 (domSto 0) r = none ∧ x.length =
      64 ∧ s.stoVolCheck v x = none ∧ volXts x = false ∧ volValid (s.volRec v) = true ∧ s.sto.cmds.any (fun c => c.op !=
      0 && c.volume == v.val) = true)
    ∧ (∃ (s : State) (r : SynReq) (v : Fin 1024) (x : List Byte) (c : Nat), s.synRefusal 0x0C04 (domSto 0) r = none ∧
      x.length = 64 ∧ s.stoVolCheck v x = some c)
    ∧ (∃ (s : State) (r : SynReq) (v : Fin 1024), s.synRefusal 0x0C05 (domSto 0) r = none ∧ s.sto.changes = [] ∧
      s.sto.cmds = [] ∧ s.bit CKP_CTL CKP_CTL_EN = false ∧ inHbm (s.volAddr v) 64 = true)
    ∧ (∃ (s : State) (r : SynReq) (d : Fin 4) (n : BitVec 64) (k : W32), s.synRefusal 0x0C06 (domSto 0) r = none ∧
      (s.backing d).ready = true)
    ∧ (∃ (s : State) (r : SynReq) (d : Fin 4) (n : BitVec 64), s.synRefusal 0x0C06 (domSto 0) r = none ∧ (s.backing
      d).ready = true)
    ∧ (∃ (s : State) (r : SynReq) (d : Fin 4) (k : W32) (v : Nat), s.synRefusal 0x0C07 (domSto 0) r = none ∧ v < 1024 ∧
      volValid (s.volRec v) = true ∧ volBacking (s.volRec v) = d ∧ volNsid (s.volRec v) = k.toNat)
    ∧ (∃ (s : State) (r : SynReq) (d : Fin 4) (k : W32), s.synRefusal 0x0C07 (domSto 0) r = none ∧ (∀ v, v < 1024 →
      volValid (s.volRec v) = false) ∧ (s.backing d).ready = true ∧ (s.backing d).nss.any (fun x => x.1 == k.toNat) =
      true)
    ∧ (∃ (s : State) (r : SynReq) (c : Fin 64) (cs : List (BitVec 20)) (a b : List Byte) (vwc : Bool) (m : Nat) (nss :
      List (Nat × Nat × Bool)), s.synRefusal 0x0C08 (domSto 0) r = none ∧ (s.backing (16 + c.val)).ready = false ∧
      (s.backing (16 + c.val)).connecting = none)
    ∧ (∃ (s : State) (r : SynReq) (c : Fin 64) (cs : List (BitVec 20)) (a b : List Byte), s.synRefusal 0x0C08 (domSto 0)
      r = none ∧ (s.backing (16 + c.val)).ready = false ∧ (s.backing (16 + c.val)).connecting = none)
    ∧ (∃ (s : State) (r : SynReq) (c : Fin 64), s.synRefusal 0x0C09 (domSto 0) r = none ∧ (s.backing (16 + c.val)).ready
      = true ∧ (∀ x ∈ s.sto.cmds, ∀ p ∈ x.parts, p.backing ≠ 16 + c.val))
    ∧ (∃ (s : State) (r : SynReq) (c : Fin 64) (x : StoCmd) (p : StoPart), s.synRefusal 0x0C09 (domSto 0) r = none ∧
      (s.backing (16 + c.val)).ready = true ∧ s.sto.cmds = [x] ∧ x.phase = .running ∧ x.op ≠ 0 ∧ x.lock = true ∧
      x.hostDown = false ∧ x.status = 0 ∧ x.parts = [p] ∧ p.backing = 16 + c.val)
    ∧ (∃ (s : State) (r : SynReq) (d : Fin 4) (x : StoCmd) (p : StoPart) (back : Bool), s.synRefusal 0x0C0A (domSto 0) r
      = none ∧ s.sto.cmds = [x] ∧ x.phase = .running ∧ x.op ≠ 0 ∧ x.lock = true ∧ x.hostDown = false ∧ x.status = 0 ∧
      x.parts = [p] ∧ p.backing = d)
    ∧ (∃ (s : State) (r : SynReq) (d : Fin 4) (a b : List Byte) (m : Fin 8), s.synRefusal 0x0C0B (domSto 0) r = none ∧
      r.port = .mailbox m)
    ∧ (∃ (s : State) (r : SynReq) (n : Fin 4096) (a b : List Byte), s.synRefusal 0x0C0B (domSto 0) r = none ∧ s.stoQ n =
      none)
    ∧ (∃ (s : State) (r : SynReq) (n : Fin 4096) (q : StoQ) (a b : List Byte), s.synRefusal 0x0C0B (domSto 0) r = none ∧
      s.stoQ n = some q ∧ s.stoOwned r n = .inr q) :=
  ⟨⟨Se, qt, 0, by decide +kernel⟩,
   ⟨S0, qt, 0, by decide +kernel⟩,
   ⟨S0, .host, 0, by decide +kernel⟩,
   ⟨Y, rq, sp, 45, 0, by decide +kernel⟩,
   ⟨Y, rq, ({ sp with log2n := 3 }), 0x06C1, by decide +kernel⟩,
   ⟨Y, rq, ({ sp with queue := some 44 }), 44, by decide +kernel⟩,
   ⟨Y, rq, 44, Q, by decide +kernel⟩,
   ⟨(wc (cm 1) Y), rq, 44, Q, by decide +kernel⟩,
   ⟨(wq { Q with state := .frozen } Y), rq, 44, ({ Q with state := .frozen }), by decide +kernel⟩,
   ⟨(wc (cm 1) (wq { Q with state := .frozen } Y)), rq, 44, ({ Q with state := .frozen }), by decide +kernel⟩,
   ⟨Y, rq, 44, Q, by decide +kernel⟩,
   ⟨(wq { Q with errs := [⟨1,2,3,4,5,6,7,8,9⟩] } Y), rq, 44, ({ Q with errs := [⟨1,2,3,4,5,6,7,8,9⟩] }), by
     decide +kernel⟩,
   ⟨Y, rq, 3, (vr 0 7 1), by decide +kernel⟩,
   ⟨(wc (cm 1) Y), rq, 3, (vr 0 7 1), by decide +kernel⟩,
   ⟨Y, rq, 3, (vr 0 7 2), 0x06C3, by decide +kernel⟩,
   ⟨Y, rq, 3, by decide +kernel⟩,
   ⟨Y, rq, 1, 1000, 77, by decide +kernel⟩,
   ⟨Y, rq, 1, 1000, by decide +kernel⟩,
   ⟨Y, rq, 1, 88, 3, by decide +kernel⟩,
   ⟨(Y.putBytes (0x40000 + 3 * 64) [0]), rq, 1, 88, by decide +kernel⟩,
   ⟨Y, rq, 1, [3,4], [5], [6], true, 7, [(1,2,true)], by decide +kernel⟩,
   ⟨Y, rq, 1, [3,4], [5], [6], by decide +kernel⟩,
   ⟨(wc (rn 1) (Y.setBacking 17 ⟨true, true, 1, [(88, 100000, true)], [], 0, none⟩)), rq, 1, by decide +kernel⟩,
   ⟨(only 17 (Y.setBacking 17 ⟨true, true, 1, [(88, 100000, true)], [], 0, none⟩)), rq, 1, ({ rn 1 with parts := [⟨0,
     17, 88, 0, 2⟩] }), ⟨0, 17, 88, 0, 2⟩, by decide +kernel⟩,
   ⟨(only 1 Y), rq, 1, (rn 1), ⟨0, 1, 88, 0, 2⟩, true, by decide +kernel⟩,
   ⟨Y, rq, 1, [1], [2], 0, by decide +kernel⟩,
   ⟨Y, rq, 1, [1], [2], by decide +kernel⟩,
   ⟨Y, rq, 44, Q, [1], [2], by decide +kernel⟩⟩

end C13

namespace C14

def rq : SynReq := ⟨.mailbox 0, 3, 2, 7, 0xFFFF, false, none⟩
def qt : Requester := .core 3
def synOn (s : State) : State := ((s.sf DEV_STATUS DEV_STATUS_STAGE 6).sf DEV_ENABLE DEV_ENABLE_EN 1).setMb 0 { Mailbox.reset with session := some ⟨5, false, 0, none⟩ }
def Y : State := { synOn S0 with clock := 10^10 }
def wsec (f : Sec → Sec) (s : State) : State := { s with sec := f s.sec }
def pk : PendingKey := ⟨9, ⟨1, 7, true, 0, [1,2,3]⟩, rq, 0x0D00, 100, 5⟩
def pend (s : State) : State := wsec (fun x => { x with pendingKeys := [{ pk with slot := 4 }, pk] }) s
def held (s : State) : State := s.sf (PKT_MSEC_CTL 3) PKT_MSEC_CTL_PROTECT 1 |>.setMsec 3 ⟨[], 5, [(0, ⟨9, 5, [], 1, 1⟩)]⟩
def ds (op len : Nat) : List Byte := fit 64 (leBytes 4 op ++ leBytes 4 (9 + 7 * 2^16) ++ leBytes 8 0x50000 ++ leBytes 8 0x60000 ++ leBytes 4 len ++ leBytes 8 0x70000 ++ leBytes 4 5 ++ leBytes 12 77 ++ leBytes 4 20 ++ leBytes 4 0xABCD)
def key (ty : Nat) (s : State) : State := s.setSlot 9 ⟨ty, 7, true, 3, [1,2,3]⟩
def ld (s : State) (a n : Nat) := State.loadBlocks a n n s
def M (ty : Nat) : State := (key ty Y).putBytes 0x50000 [1,2,3,4,5,6,7,8,9,10,11,12,13,14,15,16,17,18,19,20]
def cur (d : List Byte) (ix : Option (Nat × Nat)) (st : Nat) (o : List (List Byte × Bool)) : SecMsg := ⟨ix, d, 3, st, o, false⟩
def Mc (m : SecMsg) : State := wsec (fun x => { x with current := some m }) (M 1)
def Rg (d : List Byte) : State := (((((M 1).sf SEC_CTL SEC_CTL_MSG_EN 1).sf (rCtl SEC_REQ_BASE) CLU_CTL_CMD_EN 1).wr SEC_REQ_BASE 0x30006).setRing SEC_REQ_BASE { Ring.reset with tail := 1 }).putBytes 0x30000 d
def Rb : State := (Rg (ds 5 0)).wr (SEC_REQ_BASE + 4) 0x00FF0000
def urg : List Byte := (ds 5 20).set 2 1
def Ru : State := wsec (fun x => { x with current := some (cur (ds 1 20) none 0 []) }) (Rg urg)
def Rc : State := wsec (fun x => { x with current := some (cur (ds 1 20) (some (0, 0)) 2 []) }) (((Rg urg).wr (rCmpl SEC_REQ_BASE) 0x40006).setRing SEC_REQ_BASE Ring.reset)
def Re : State := (((M 1).wr SEC_REQ_BASE 0x30006).wr (rCmpl SEC_REQ_BASE) 0x40006).sf (rCtl SEC_REQ_BASE) CLU_CTL_CMPL_EN 1
def Sg (l : List AttestReq) : State := wsec (fun x => { x with signing := some ([1,2], rq), attest := l, seed := [9] }) Y
def k32 : List Byte := List.replicate 32 5
def W : State := Y.setSlot 12 ⟨5, 0x7FF, false, 3, k32⟩
def blob : List Byte := fit 104 (leBytes 4 1 ++ [2])
def W2 : State := W.setSlot 9 ⟨1, 7, true, 3, k32⟩
def I : State := wsec (fun x => { x with identity := k32 ++ k32 }) (W2.sf SEC_STATUS SEC_STATUS_ID_VALID 1)
def lr : LogRec := ⟨1,2,[3],4⟩
def If : State := wsec (fun x => { x with log := List.replicate 4096 lr }) I

/-- States and operands that meet the hypotheses of SecurityEnginesRun, clause by clause. -/
theorem witness_SecurityEnginesRun :
    (∃ (s : State) (k : Fin 4096) (p : PendingKey), s.sec.pendingKeys.find? (fun x => x.slot == k.val) = some p ∧
      s.refsOf k ≠ 0)
    ∧ (∃ (s : State) (k : Fin 4096) (p : PendingKey), s.sec.pendingKeys.find? (fun x => x.slot == k.val) = some p ∧
      s.refsOf k = 0 ∧ s.sec.keyUses = [] ∧ p.opcode = 0x0D00 ∧ (∀ x, x < 32 → (s.fp x).stalled = []))
    ∧ (∃ (s : State) (k : Fin 4096), s.slotPending k = false)
    ∧ (∃ (s : State) (k : Fin 4096) (p : PendingKey), s.sec.pendingKeys.find? (fun x => x.slot == k.val) = some p ∧
      p.waitMs * 156250 ≤ s.clock - p.since ∧ s.sec.keyUses = [] ∧ (∀ x, x < 32 → (s.fp x).stalled = []))
    ∧ (∃ (s : State) (k : Fin 4096) (p : PendingKey), s.sec.pendingKeys.find? (fun x => x.slot == k.val) = some p ∧
      s.clock - p.since < p.waitMs * 156250)
    ∧ (∃ (s s1 s2 s3 : State) (d : List Byte) (src aad tag : List (List Byte × Bool)), s.msgFree 1 d ∧ mFieldsOk d =
      true ∧ mHost d = false ∧ s.slotUsable (wordFd d 1 0 12) 1 (mInst d) = true ∧ s.msgInput d src aad tag s1 s2 s3)
    ∧ (∃ (s s1 s2 s3 : State) (d : List Byte) (src aad tag : List (List Byte × Bool)), s.msgFree 2 d ∧ mFieldsOk d =
      true ∧ mHost d = false ∧ s.slotUsable (wordFd d 1 0 12) 1 (mInst d) = true ∧ s.msgInput d src aad tag s1 s2 s3)
    ∧ (∃ (s s1 s2 s3 : State) (d : List Byte) (src aad tag : List (List Byte × Bool)), s.msgFree 3 d ∧ mFieldsOk d =
      true ∧ mHost d = false ∧ s.slotUsable (wordFd d 1 0 12) 4 (mInst d) = true ∧ s.msgInput d src aad tag s1 s2 s3)
    ∧ (∃ (s s1 s2 s3 : State) (d : List Byte) (src aad tag : List (List Byte × Bool)), s.msgFree 4 d ∧ mFieldsOk d =
      true ∧ mHost d = false ∧ s.slotUsable (wordFd d 1 0 12) 4 (mInst d) = true ∧ s.msgInput d src aad tag s1 s2 s3)
    ∧ (∃ (s s1 s2 s3 : State) (d : List Byte) (src aad tag : List (List Byte × Bool)), s.msgFree 5 d ∧ mFieldsOk d =
      true ∧ mHost d = false ∧ s.msgInput d src aad tag s1 s2 s3)
    ∧ (∃ (s : State) (d : List Byte), s.msgFree 1 d ∧ mFieldsOk d = true ∧ mHost d = false ∧ s.slotUsable (wordFd d 1 0
      12) 1 (mInst d) = false)
    ∧ (∃ (s : State) (d : List Byte), s.msgFree 5 d ∧ mFieldsOk d = false)
    ∧ (∃ (s : State) (src : SecSource), s.sec.current.isSome = true)
    ∧ (∃ (s s1 : State) (d : List Byte) (ix : Nat), s.sec.current = none ∧ s.secNext = some ix ∧ s.fetchEntry
      SEC_REQ_BASE ix = (some d, s1) ∧ mOp d = 5 ∧ mFieldsOk d = false)
    ∧ (∃ (s s1 : State) (ix : Nat), s.sec.current = none ∧ s.secNext = some ix ∧ s.fetchEntry SEC_REQ_BASE ix = (none,
      s1))
    ∧ (∃ (s : State) (m : SecMsg), s.sec.current = some m ∧ s.sec.suspended = none ∧ mUrgent m.desc = false ∧
      s.secUrgent.isSome = true)
    ∧ (∃ (s : State), s.sec.suspended.isSome = true ∨ s.secUrgent = none)
    ∧ (∃ (s : State) (m : SecMsg) (b : List Byte), s.sec.current = some m ∧ m.index = none ∧ m.status = 0 ∧ m.silent =
      false ∧ mHost m.desc = false ∧ m.out = [(b, false)] ∧ s.bit CKP_CTL CKP_CTL_EN = false ∧ inHbm (mDst m.desc)
      b.length = true)
    ∧ (∃ (s : State) (m : SecMsg) (b : List Byte), s.sec.current = some m ∧ m.index = none ∧ m.status = 0x60 ∧ m.silent
      = false ∧ mHost m.desc = false ∧ m.out = [(b, false)] ∧ s.bit CKP_CTL CKP_CTL_EN = false ∧ inHbm (mDst m.desc)
      b.length = true)
    ∧ (∃ (s : State) (m : SecMsg) (ix ep : Nat), s.sec.current = some m ∧ m.index = some (ix, ep) ∧ m.status = 2 ∧
      m.silent = false ∧ mHost m.desc = false ∧ m.out = [] ∧ s.cmplRoom SEC_REQ_BASE = true ∧ s.bit CKP_CTL CKP_CTL_EN =
      false ∧ s.cmplBase SEC_REQ_BASE = 0x40000 ∧ s.cmplTail SEC_REQ_BASE = 0)
    ∧ (∃ (s : State) (m : SecMsg), s.sec.current = some m ∧ m.index.isSome = true ∧ m.status = 2 ∧ m.silent = false ∧
      mHost m.desc = false ∧ s.cmplRoom SEC_REQ_BASE = false)
    ∧ (∃ (s : State) (q : Requester) (v : W32), coreWrites q = true ∧ s.bit SEC_CTL SEC_CTL_MSG_EN = false)
    ∧ (∃ (s : State) (q : Requester) (v : W32), coreWrites q = false)
    ∧ (∃ (s : State) (q : Requester) (v : W32), coreWrites q = true ∧ ixDiff (v.toNat % 2 ^ 16) (s.cmdHead SEC_REQ_BASE)
      ≤ 2 ^ s.cmdLog SEC_REQ_BASE)
    ∧ (∃ (s : State) (q : Requester) (v : W32), coreWrites q = true ∧ 2 ^ s.cmdLog SEC_REQ_BASE < ixDiff (v.toNat % 2 ^
      16) (s.cmdHead SEC_REQ_BASE))
    ∧ (∃ (s : State) (q : Requester) (v : W32), coreWrites q = true ∧ s.cmdEn SEC_REQ_BASE = false ∧ s.cmplEn
      SEC_REQ_BASE = true ∧ bitAt v.toNat 1 = true ∧ s.cmdEnCheck SEC_REQ_BASE true = none ∧ s.bit SEC_CTL
      SEC_CTL_MSG_EN = true)
    ∧ (∃ (s : State) (q : Requester) (v : W32), coreWrites q = true ∧ s.cmdEn SEC_REQ_BASE = false ∧ s.cmplEn
      SEC_REQ_BASE = true ∧ bitAt v.toNat 1 = true ∧ s.cmdEnCheck SEC_REQ_BASE true = none ∧ s.bit SEC_CTL
      SEC_CTL_MSG_EN = false)
    ∧ (∃ (s : State) (q : Requester) (v : W32), coreWrites q = true) :=
  ⟨⟨(held (pend Y)), 9, pk, by decide +kernel⟩,
   ⟨(pend Y), 9, pk, by decide +kernel⟩,
   ⟨(pend Y), 10, by decide +kernel⟩,
   ⟨(held (pend Y)), 9, pk, by decide +kernel⟩,
   ⟨({ held (pend Y) with clock := 100 }), 9, pk, by decide +kernel⟩,
   ⟨(M 1), ((ld (M 1) 0x50000 20).2.2), ((ld (M 1) 0x70000 5).2.2), ((ld (M 1) 0x70000 5).2.2), (ds 1 20), ((ld (M 1)
     0x50000 20).2.1), ((ld (M 1) 0x70000 5).2.1), [], by
     (repeat' with_reducible apply And.intro) <;> first | decide +kernel | (refine ⟨?_, ?_, fun h => ?_, fun h => ?_, fun h => ?_, fun h => ?_, ?_⟩ <;> first | exact absurd h (by decide +kernel) | exact ⟨by decide +kernel, Prod.ext (by decide +kernel) rfl⟩ | exact Prod.ext (by decide +kernel) rfl | decide +kernel | exact ⟨rfl, rfl⟩)⟩,
   ⟨(M 1), ((ld (M 1) 0x50000 20).2.2), ((ld (M 1) 0x70000 5).2.2), ((ld (M 1) 0x70000 5).2.2), (ds 2 20), ((ld (M 1)
     0x50000 20).2.1), ((ld (M 1) 0x70000 5).2.1), ((State.loadBlocks 0x50014 16 1 (M 1)).2.1), by
     (repeat' with_reducible apply And.intro) <;> first | decide +kernel | (refine ⟨?_, ?_, fun h => ?_, fun h => ?_, fun h => ?_, fun h => ?_, ?_⟩ <;> first | exact absurd h (by decide +kernel) | exact ⟨by decide +kernel, Prod.ext (by decide +kernel) rfl⟩ | exact Prod.ext (by decide +kernel) rfl | decide +kernel | exact ⟨rfl, rfl⟩)⟩,
   ⟨(M 4), ((State.loadBlocks (mSrc (ds 3 4096)) (mLen (ds 3 4096)) (mLen (ds 3 4096)) (M 4)).2.2), ((State.loadBlocks
     (mSrc (ds 3 4096)) (mLen (ds 3 4096)) (mLen (ds 3 4096)) (M 4)).2.2), ((State.loadBlocks (mSrc (ds 3 4096)) (mLen
     (ds 3 4096)) (mLen (ds 3 4096)) (M 4)).2.2), (ds 3 4096), ((State.loadBlocks (mSrc (ds 3 4096)) (mLen (ds 3 4096))
     (mLen (ds 3 4096)) (M 4)).2.1), [], [], by
     (repeat' with_reducible apply And.intro) <;> first | decide +kernel | exact ⟨by decide +kernel, Prod.mk.eta.symm, fun h => absurd h (by decide +kernel), fun _ => ⟨rfl, rfl⟩, fun h => absurd h (by decide +kernel), fun _ => ⟨rfl, rfl⟩, by decide +kernel⟩⟩,
   ⟨(M 4), ((State.loadBlocks (mSrc (ds 4 4096)) (mLen (ds 4 4096)) (mLen (ds 4 4096)) (M 4)).2.2), ((State.loadBlocks
     (mSrc (ds 4 4096)) (mLen (ds 4 4096)) (mLen (ds 4 4096)) (M 4)).2.2), ((State.loadBlocks (mSrc (ds 4 4096)) (mLen
     (ds 4 4096)) (mLen (ds 4 4096)) (M 4)).2.2), (ds 4 4096), ((State.loadBlocks (mSrc (ds 4 4096)) (mLen (ds 4 4096))
     (mLen (ds 4 4096)) (M 4)).2.1), [], [], by
     (repeat' with_reducible apply And.intro) <;> first | decide +kernel | exact ⟨by decide +kernel, Prod.mk.eta.symm, fun h => absurd h (by decide +kernel), fun _ => ⟨rfl, rfl⟩, fun h => absurd h (by decide +kernel), fun _ => ⟨rfl, rfl⟩, by decide +kernel⟩⟩,
   ⟨(M 4), ((ld (M 4) 0x50000 40).2.2), ((ld (M 4) 0x50000 40).2.2), ((ld (M 4) 0x50000 40).2.2), (ds 5 40), ((ld (M 4)
     0x50000 40).2.1), [], [], by
     (repeat' with_reducible apply And.intro) <;> first | decide +kernel | (refine ⟨?_, ?_, fun h => ?_, fun h => ?_, fun h => ?_, fun h => ?_, ?_⟩ <;> first | exact absurd h (by decide +kernel) | exact ⟨by decide +kernel, Prod.ext (by decide +kernel) rfl⟩ | exact Prod.ext (by decide +kernel) rfl | decide +kernel | exact ⟨rfl, rfl⟩)⟩,
   ⟨(M 4), (ds 1 20), by decide +kernel⟩,
   ⟨(M 4), (ds 5 0), by decide +kernel⟩,
   ⟨(Mc (cur (ds 1 20) none 0 [])), .ring, by decide +kernel⟩,
   ⟨(Rg (ds 5 0)), (((Rg (ds 5 0)).fetchEntry SEC_REQ_BASE 0).2), (ds 5 0), 0, by decide +kernel⟩,
   ⟨Rb, ((Rb.fetchEntry SEC_REQ_BASE 0).2), 0, by decide +kernel⟩,
   ⟨Ru, (cur (ds 1 20) none 0 []), by decide +kernel⟩,
   ⟨(Mc (cur (ds 1 20) none 0 [])), by decide +kernel⟩,
   ⟨(Mc (cur (ds 1 20) none 0 [([1,2,3], false)])), (cur (ds 1 20) none 0 [([1,2,3], false)]), [1,2,3], by
     decide +kernel⟩,
   ⟨(Mc (cur (ds 1 20) none 0x60 [([1,2,3], false)])), (cur (ds 1 20) none 0x60 [([1,2,3], false)]), [1,2,3], by
     decide +kernel⟩,
   ⟨Rc, (cur (ds 1 20) (some (0, 0)) 2 []), 0, 0, by decide +kernel⟩,
   ⟨(Rc.sf (rStatus SEC_REQ_BASE) CLU_STATUS_CMPL_TAIL 64), (cur (ds 1 20) (some (0, 0)) 2 []), by decide +kernel⟩,
   ⟨Y, qt, 0, by decide +kernel⟩,
   ⟨Y, .host, 0, by decide +kernel⟩,
   ⟨(Rg urg), qt, 64, by decide +kernel⟩,
   ⟨(Rg urg), qt, 65, by decide +kernel⟩,
   ⟨(Re.sf SEC_CTL SEC_CTL_MSG_EN 1), qt, 2, by decide +kernel⟩,
   ⟨Re, qt, 2, by decide +kernel⟩,
   ⟨Re, qt, 0x12345, by decide +kernel⟩⟩

/-- States and operands that meet the hypotheses of SecurityRequestsAreAnswered, clause by clause. -/
theorem witness_SecurityRequestsAreAnswered :
    (∃ (s : State), s.sec.signing = none ∨ 2 ≤ s.gf (CORE_STATUS 32) CORE_STATUS_STATE)
    ∧ (∃ (s : State) (body : List Byte) (r : SynReq), s.sec.signing = some (body, r) ∧ s.sec.attest = [] ∧ s.gf
      (CORE_STATUS 32) CORE_STATUS_STATE < 2)
    ∧ (∃ (s : State) (body : List Byte) (r : SynReq) (x : AttestReq) (rest : List AttestReq), s.sec.signing = some
      (body, r) ∧ s.sec.attest = x :: rest ∧ s.gf (CORE_STATUS 32) CORE_STATUS_STATE < 2)
    ∧ (∃ (s : State) (r : SynReq) (k : Fin 4096) (ty : Byte) (o : W16) (w : Bool) (key : List Byte) (wait : Option Nat),
      s.synRefusal 0x0D00 none r = none ∧ (wait = none ∨ wait = some 1 ∨ wait = some 10000) ∧ k ≠ 0 ∧ 1 ≤ ty.toNat ∧
      ty.toNat ≤ 5 ∧ o.toNat ≤ 2047 ∧ key.length = keyBytes ty.toNat ∧ s.slotPending k = false ∧ s.refsOf k = 0)
    ∧ (∃ (s : State) (r : SynReq) (k : Fin 4096) (ty : Byte) (o : W16) (w : Bool) (key : List Byte) (n : Nat),
      s.synRefusal 0x0D00 none r = none ∧ 1 ≤ n ∧ n ≤ 10000 ∧ k ≠ 0 ∧ 1 ≤ ty.toNat ∧ ty.toNat ≤ 5 ∧ o.toNat ≤ 2047 ∧
      key.length = keyBytes ty.toNat ∧ s.slotPending k = false ∧ s.refsOf k ≠ 0)
    ∧ (∃ (s : State) (r : SynReq) (k : Fin 4096) (ty : Byte) (o : W16) (w : Bool) (key : List Byte) (wait : Option Nat),
      s.synRefusal 0x0D00 none r = none ∧ k = 0 ∧ wait = none)
    ∧ (∃ (s : State) (r : SynReq) (k : Fin 4096) (ty : Byte) (o : W16) (w : Bool) (key : List Byte) (wait : Option Nat),
      s.synRefusal 0x0D00 none r = none ∧ k ≠ 0 ∧ wait = none ∧ (ty.toNat = 0 ∨ 5 < ty.toNat ∨ 2047 < o.toNat ∨
      key.length ≠ keyBytes ty.toNat))
    ∧ (∃ (s : State) (r : SynReq) (k : Fin 4096) (ty : Byte) (o : W16) (w : Bool) (key : List Byte) (wait : Option Nat),
      s.synRefusal 0x0D00 none r = none ∧ k ≠ 0 ∧ wait = none ∧ 1 ≤ ty.toNat ∧ ty.toNat ≤ 5 ∧ o.toNat ≤ 2047 ∧
      key.length = keyBytes ty.toNat ∧ s.slotPending k = true)
    ∧ (∃ (s : State) (r : SynReq) (k x : Fin 4096) (o : W16) (w : Bool) (blob key : List Byte), s.synRefusal 0x0D01 none
      r = none ∧ k ≠ 0 ∧ k ≠ x ∧ s.slotPending k = false ∧ s.slotPending x = false ∧ s.slotUsable x 5 (reqOwner r) =
      true ∧ blob.length = 104 ∧ fieldLE blob 0 4 = 1 ∧ 1 ≤ fieldLE blob 4 1 ∧ fieldLE blob 4 1 ≤ 5 ∧ (fieldLE blob 4 1
      = 4 ∨ ∀ b ∈ key.drop 32, b = 0) ∧ s.refsOf k = 0)
    ∧ (∃ (s : State) (r : SynReq) (k x : Fin 4096) (o : W16) (w : Bool) (blob : List Byte), s.synRefusal 0x0D01 none r =
      none ∧ k ≠ 0 ∧ k ≠ x ∧ s.slotPending k = false ∧ s.slotPending x = false ∧ s.slotUsable x 5 (reqOwner r) = true ∧
      blob.length = 104)
    ∧ (∃ (s : State) (r : SynReq) (k x : Fin 4096) (o : W16) (w : Bool) (blob : List Byte) (n : Option Nat),
      s.synRefusal 0x0D01 none r = none ∧ (k = 0 ∨ k = x))
    ∧ (∃ (s : State) (r : SynReq) (k x : Fin 4096) (o : W16) (w : Bool) (blob : List Byte), s.synRefusal 0x0D01 none r =
      none ∧ k ≠ 0 ∧ k ≠ x ∧ s.slotPending k = false ∧ s.slotPending x = false ∧ s.slotUsable x 5 (reqOwner r) = false)
    ∧ (∃ (s : State) (r : SynReq) (k x : Fin 4096) (v : KeySlot) (aad : List Byte), s.synRefusal 0x0D02 none r = none ∧
      s.slotPending k = false ∧ s.slotPending x = false ∧ s.slotUsable x 5 (reqOwner r) = true ∧ s.slotOf k = v ∧ v.type
      ≠ 0 ∧ v.wrappable = true ∧ aad = leBytes 4 1 ++ leBytes 1 v.type ++ [0, 0, 0] ++ s.entropy 12 ++ [0, 0, 0, 0])
    ∧ (∃ (s : State) (r : SynReq) (k x : Fin 4096), s.synRefusal 0x0D02 none r = none ∧ s.slotPending k = false ∧
      s.slotPending x = false ∧ s.slotUsable x 5 (reqOwner r) = true ∧ (s.slotOf k).type ≠ 0 ∧ (s.slotOf k).wrappable =
      false)
    ∧ (∃ (s : State) (r : SynReq) (k : Fin 4096), s.synRefusal 0x0D03 none r = none ∧ k ≠ 0 ∧ s.slotPending k = false ∧
      s.refsOf k = 0)
    ∧ (∃ (s : State) (r : SynReq) (k : Fin 4096) (n : Option Nat), s.synRefusal 0x0D03 none r = none ∧ k = 0)
    ∧ (∃ (s : State) (r : SynReq) (k : Fin 4096) (v : KeySlot), s.synRefusal 0x0D04 none r = none ∧ s.slotOf k = v)
    ∧ (∃ (s : State) (r : SynReq) (n u : List Byte), s.synRefusal 0x0D05 none r = none ∧ s.bit SEC_STATUS
      SEC_STATUS_ID_VALID = false)
    ∧ (∃ (s : State) (r : SynReq) (n u : List Byte), s.synRefusal 0x0D05 none r = none ∧ s.bit SEC_STATUS
      SEC_STATUS_ID_VALID = true ∧ s.sec.signing = none)
    ∧ (∃ (s : State) (r : SynReq) (n u : List Byte), s.synRefusal 0x0D05 none r = none ∧ s.bit SEC_STATUS
      SEC_STATUS_ID_VALID = true ∧ s.sec.signing.isSome = true ∧ 8 ≤ s.sec.attest.length)
    ∧ (∃ (s : State) (r : SynReq) (i : Byte) (tag : W32) (d : List Byte), s.synRefusal 0x0D06 none r = none ∧ 8 ≤
      i.toNat ∧ i.toNat ≤ 15 ∧ d.length = 64 ∧ s.sec.log.length < 4096)
    ∧ (∃ (s : State) (r : SynReq) (i : Byte) (tag : W32) (d : List Byte), s.synRefusal 0x0D06 none r = none ∧ 8 ≤
      i.toNat ∧ i.toNat ≤ 15 ∧ d.length = 64 ∧ 4096 ≤ s.sec.log.length)
    ∧ (∃ (s : State) (r : SynReq) (i : Byte) (tag : W32) (d : List Byte), s.synRefusal 0x0D06 none r = none ∧ (i.toNat <
      8 ∨ 15 < i.toNat))
    ∧ (∃ (s : State) (r : SynReq) (f n : Nat), s.synRefusal 0x0D07 none r = none ∧ n ≤ 256)
    ∧ (∃ (s : State) (r : SynReq), s.synRefusal 0x0D08 none r = none ∧ s.bit SEC_STATUS SEC_STATUS_ID_VALID = false)
    ∧ (∃ (s : State) (r : SynReq), s.synRefusal 0x0D08 none r = none ∧ s.bit SEC_STATUS SEC_STATUS_ID_VALID = true)
    ∧ (∃ (s : State) (r : SynReq) (c : List Byte), s.synRefusal 0x0D09 none r = none ∧ c.length ≤ 57340 ∧ s.certOk c =
      true)
    ∧ (∃ (s : State) (r : SynReq) (c : List Byte), s.synRefusal 0x0D09 none r = none ∧ s.certOk c = false)
    ∧ (∃ (s : State) (r : SynReq), s.synRefusal 0x0D0A none r = none)
    ∧ (∃ (s : State) (r : SynReq) (x : List Byte), s.synRefusal 0x0D0B none r = none)
    ∧ (∃ (s : State) (r : SynReq) (x : List Byte), s.synRefusal 0x0D0B none r = none ∧ s.tokenOk x = false) :=
  ⟨⟨Y, by decide +kernel⟩,
   ⟨(Sg []), [1,2], rq, by decide +kernel⟩,
   ⟨(Sg [⟨[1],[2],{ rq with tag := 9 }⟩]), [1,2], rq, ⟨[1],[2],{ rq with tag := 9 }⟩, [], by decide +kernel⟩,
   ⟨Y, rq, 9, 1, 7, true, k32, none, by decide +kernel⟩,
   ⟨(held Y), rq, 9, 1, 7, true, k32, 10, by decide +kernel⟩,
   ⟨(held Y), rq, 0, 1, 7, true, k32, none, by decide +kernel⟩,
   ⟨(held Y), rq, 5, 4, 7, true, k32, none, by decide +kernel⟩,
   ⟨(pend Y), rq, 9, 1, 7, true, k32, none, by decide +kernel⟩,
   ⟨W, rq, 9, 12, 7, true, blob, (List.replicate 64 0), by decide +kernel⟩,
   ⟨W, rq, 9, 12, 7, true, (blob.set 100 1), by decide +kernel⟩,
   ⟨W, rq, 12, 12, 7, true, blob, none, by decide +kernel⟩,
   ⟨W, rq, 12, 9, 7, true, blob, by decide +kernel⟩,
   ⟨W2, rq, 9, 12, ⟨1, 7, true, 3, k32⟩, (leBytes 4 1 ++ leBytes 1 1 ++ [0, 0, 0] ++ W2.entropy 12 ++ [0, 0, 0, 0]), by
     (repeat' with_reducible apply And.intro) <;> first | rfl | decide +kernel | exact Prod.ext (by decide +kernel) rfl⟩,
   ⟨W2, rq, 12, 12, by decide +kernel⟩,
   ⟨W2, rq, 12, by decide +kernel⟩,
   ⟨W2, rq, 0, (some 3), by decide +kernel⟩,
   ⟨W2, rq, 12, (W2.slotOf 12), by decide +kernel⟩,
   ⟨W2, rq, [1], [2], by decide +kernel⟩,
   ⟨I, rq, [1], [2], by decide +kernel⟩,
   ⟨(wsec (fun x => { x with signing := some ([1,2], rq), attest := List.replicate 8 ⟨[1],[2],rq⟩ }) I), rq, [1], [2],
     by decide +kernel⟩,
   ⟨I, rq, 8, 3, (k32 ++ k32), by decide +kernel⟩,
   ⟨If, rq, 15, 3, (k32 ++ k32), by decide +kernel⟩,
   ⟨If, rq, 16, 3, (k32 ++ k32), by decide +kernel⟩,
   ⟨If, rq, 2, 3, by decide +kernel⟩,
   ⟨W, rq, by decide +kernel⟩,
   ⟨I, rq, by decide +kernel⟩,
   ⟨I, rq, ([1] ++ k32 ++ k32), by decide +kernel⟩,
   ⟨I, rq, ([1] ++ k32), by decide +kernel⟩,
   ⟨I, rq, by decide +kernel⟩,
   ⟨I, rq, [], by decide +kernel⟩,
   ⟨I, rq, [], by decide +kernel⟩⟩

end C14

namespace C15

def rq : SynReq := ⟨.mailbox 0, 3, 2, 7, 0xFFFF, false, none⟩
def qt : Requester := .core 3
def synOn (s : State) : State := ((s.sf DEV_STATUS DEV_STATUS_STAGE 6).sf DEV_ENABLE DEV_ENABLE_EN 1).setMb 0 { Mailbox.reset with session := some ⟨5, false, 0, none⟩ }
def Y : State := { synOn S0 with clock := 10^10 }
def hu (s : State) : State := s.cfgWr 4 (s.cfgRd 4 ||| 6)
def wh (f : HostIf → HostIf) (s : State) : State := { s with host := f s.host }
def mx (s : State) : State := s.cfgWr 0x50 (s.cfgRd 0x50 ||| 0x80000000) |>.wr (MSIX_CTRL 5) 0 |>.wr (MSIX_ADDR_LO 5) 0x1234 |>.wr (MSIX_DATA 5) 77
def D : State := wh (fun h => { h with vecDue := [5], link := .l1 }) (mx (hu Y))
def Wn : State := wh (fun h => { h with winActive := [(2, ⟨0x1000000000, true, 3, 31⟩)] }) (((hu Y).sf HBM_STATUS HBM_STATUS_READY 1).putBytes 0x1040001000 [1,2,3,4])
def At : State := wh (fun h => { h with atc := [(0, 5, 7), (0, 9, 11), (4, 5, 3)] }) ((hu Y).cfgWr 0x174 0x80000000)
def Fl : State := (((D.sf WIN_COMMIT WIN_COMMIT_PENDING 1).wr (WIN_CFG 3) 0x80000305).wr WIN_MISS 5).wr (MSIX_PBA 3) 7
def St : State := ((hu Y).wr (WIN_CFG 3) 0x8000030C).wr (WIN_TARGET 3) 0x5000
def hb (s : State) : State := ((s.wr HWIN_BASE 0x70000).putBytes (0x70000+16*5) (leBytes 8 0x123456000 ++ leBytes 4 0 ++ leBytes 4 0xC07)).setInst 7 { s.instOf 7 with state := .enabled, session := 5, pasid := 33, vecFirst := 2, vecCount := 4, maxq := [3,3,3,3] }

/-- States and operands that meet the hypotheses of HostEndpointActs, clause by clause. -/
theorem witness_HostEndpointActs :
    (∃ (s : State), s.trn.conns = [])
    ∧ (∃ (s : State) (v : Nat), v ∈ s.host.vecDue ∧ s.trn.conns = [])
    ∧ (∃ (s : State), s.trn.conns = [] ∧ s.iq = [] ∧ s.sto.queues = [] ∧ s.kv.jobs = [] ∧ (∀ m, m < 8 → (s.mb m).session
      = none))
    ∧ (∃ (s : State) (off : BitVec 36) (len : Fin 4097) (p : Bool), s.claims = true ∧ (s.aperture (off.toNat / 2 ^
      32)).en = true ∧ bitAt (s.aperture (off.toNat / 2 ^ 32)).rights 0 = true ∧ s.bit HBM_STATUS HBM_STATUS_READY =
      true ∧ off.toNat % 2 ^ 32 + len.val ≤ 2 ^ (s.aperture (off.toNat / 2 ^ 32)).log2 ∧ (s.load ((s.aperture (off.toNat
      / 2 ^ 32)).target + off.toNat % 2 ^ 32) len.val).1.isNone = true)
    ∧ (∃ (s : State) (off : BitVec 36) (len : Fin 4097) (p : Bool) (b : List Byte), s.claims = true ∧ (s.aperture
      (off.toNat / 2 ^ 32)).en = true ∧ bitAt (s.aperture (off.toNat / 2 ^ 32)).rights 1 = true ∧ s.bit HBM_STATUS
      HBM_STATUS_READY = true ∧ off.toNat % 2 ^ 32 + b.length ≤ 2 ^ (s.aperture (off.toNat / 2 ^ 32)).log2 ∧ inHbm
      ((s.aperture (off.toNat / 2 ^ 32)).target + off.toNat % 2 ^ 32) b.length = true ∧ s.bit CKP_CTL CKP_CTL_EN =
      false)
    ∧ (∃ (s t : State) (off : BitVec 36) (len : Fin 4097) (p : Bool) (b : List Byte), s.bit CKP_CTL CKP_CTL_EN = false ∧
      exec (.apertureAccess off len (some b) p) s = .next t)
    ∧ (∃ (s : State) (off : BitVec 36) (len : Fin 4097) (p : Bool), s.claims = true ∧ ((s.aperture (off.toNat / 2 ^
      32)).en = false ∨ bitAt (s.aperture (off.toNat / 2 ^ 32)).rights 0 = false ∨ 2 ^ (s.aperture (off.toNat / 2 ^
      32)).log2 < off.toNat % 2 ^ 32 + len.val))
    ∧ (∃ (s : State) (off : BitVec 36) (len : Fin 4097) (p : Bool) (b : List Byte), s.claims = true ∧ ((s.aperture
      (off.toNat / 2 ^ 32)).en = false ∨ bitAt (s.aperture (off.toNat / 2 ^ 32)).rights 1 = false ∨ 2 ^ (s.aperture
      (off.toNat / 2 ^ 32)).log2 < off.toNat % 2 ^ 32 + b.length))
    ∧ (∃ (s : State) (off : BitVec 36) (len : Fin 4097) (d : Option (List Byte)) (p : Bool), s.claims = false)
    ∧ (∃ (s : State) (pasid : Option (BitVec 20)) (page b : BitVec 52), s.atsOn = true ∧ s.host.flrBusy = false)
    ∧ (∃ (s : State) (pasid : Option (BitVec 20)) (page : BitVec 52), s.atsOn = true ∧ s.host.flrBusy = false)
    ∧ (∃ (s : State) (pasid : Option (BitVec 20)) (page : BitVec 52) (b : Option (BitVec 52)), s.atsOn = true ∧
      s.host.flrBusy = false)
    ∧ (∃ (s : State) (pasid : Option (BitVec 20)) (page : BitVec 52) (b : Option (BitVec 52)) (r : Bool), s.atsOn =
      false)
    ∧ (∃ (s : State) (itag : Fin 32) (i : Inval), s.host.inval.find? (fun x => x.itag == itag.val) = some i ∧
      s.host.flrBusy = false ∧ s.safe = false)
    ∧ (∃ (s : State) (tag : BitVec 10), ∀ e ∈ s.host.retired, e.1 ≠ tag.toNat ∨ 15625000 ≤ s.clock - e.2)
    ∧ (∃ (s : State) (tag : BitVec 10), (tag.toNat, s.clock) ∈ s.host.retired)
    ∧ (∃ (s : State) (v : Fin 2048), v.val ∈ s.host.vecDue ∧ s.hostUp = true ∧ s.vecBlocked v.val = false)
    ∧ (∃ (s : State) (v : Fin 2048), v.val ∈ s.host.vecDue ∧ s.host.flrBusy = false ∧ s.safe = false ∧ s.vecBlocked
      v.val = true)
    ∧ (∃ (s : State) (v : Fin 2048), v.val ∉ s.host.vecDue ∧ bitAt (s.rd (MSIX_PBA (v.val / 32))).toNat (v.val % 32) =
      false)
    ∧ (∃ (s : State), s.trn.conns = [] ∧ s.sto.cmds = [] ∧ s.inst = [] ∧ s.iq = [])
    ∧ (∃ (s : State), s.trn.conns = [] ∧ s.sto.cmds = [] ∧ s.host.vecDue = [])
    ∧ (∃ (s : State), s.cfgBit 0x04 2 = false ∨ s.safe = true)
    ∧ (∃ (s : State), s.cfgBit 0x70 1 = true ∧ s.host.link = .l0)
    ∧ (∃ (s : State), s.cfgBit 0x70 1 = false ∨ s.host.link ≠ .l0)
    ∧ (∃ (s : State) (off : BitVec 36) (len : Fin 4097) (d : Option (List Byte)) (p : Bool), s.claims = true ∧
      (s.aperture (off.toNat / 2 ^ 32)).en = true ∧ bitAt (s.aperture (off.toNat / 2 ^ 32)).rights (if d.isSome then 1
      else 0) = true ∧ off.toNat % 2 ^ 32 + (match d with | some b => b.length | none => len.val) ≤ 2 ^ (s.aperture
      (off.toNat / 2 ^ 32)).log2 ∧ (s.aperture (off.toNat / 2 ^ 32)).target + off.toNat % 2 ^ 32 < hbmBytes ∧ s.bit
      HBM_STATUS HBM_STATUS_READY = false) :=
  ⟨⟨(hu Y), by decide +kernel⟩,
   ⟨D, 5, by decide +kernel⟩,
   ⟨S0, by decide +kernel⟩,
   ⟨Wn, 0x240001000, 4, false, by decide +kernel⟩,
   ⟨Wn, 0x240001002, 4, true, [9,8,7], by decide +kernel⟩,
   ⟨Wn, (nextOf (exec (.apertureAccess 0x240001002 4 (some [9,8,7]) true) Wn)), 0x240001002, 4, true, [9,8,7], by
     (repeat' with_reducible apply And.intro) <;> first | exact exec_nextOf _ _ | exact step_nextOf _ | decide +kernel⟩,
   ⟨Wn, 0x290000000, 4, false, by decide +kernel⟩,
   ⟨Wn, 0x140001002, 4, true, [9,8,7], by decide +kernel⟩,
   ⟨Y, 0x140001002, 4, (some [1]), true, by decide +kernel⟩,
   ⟨At, none, 5, 99, by decide +kernel⟩,
   ⟨At, none, 5, by decide +kernel⟩,
   ⟨At, (some 3), 5, (some 3), by decide +kernel⟩,
   ⟨Y, (some 3), 5, (some 3), false, by decide +kernel⟩,
   ⟨(wh (fun h => { h with inval := [⟨0,4,3,8⟩,⟨0,4,3,9⟩] }) At), 9, ⟨0,4,3,9⟩, by decide +kernel⟩,
   ⟨(wh (fun h => { h with retired := [(5, 0)] }) At), 5, by decide +kernel⟩,
   ⟨(wh (fun h => { h with retired := [(5, 10^10)] }) At), 5, by decide +kernel⟩,
   ⟨D, 5, by decide +kernel⟩,
   ⟨(D.wr (MSIX_CTRL 5) 1), 5, by decide +kernel⟩,
   ⟨D, 6, by decide +kernel⟩,
   ⟨(wh (fun h => { h with winActive := [(2, ⟨0x1000000000, true, 3, 31⟩)], atc := [(1,2,3)] }) Fl), by decide +kernel⟩,
   ⟨(hu Y), by decide +kernel⟩,
   ⟨(Y.cfgWr 0x44 3), by decide +kernel⟩,
   ⟨(wh (fun h => { h with link := .l0 }) (Y.cfgWr 0x70 2)), by decide +kernel⟩,
   ⟨Y, by decide +kernel⟩,
   ⟨(Wn.sf HBM_STATUS HBM_STATUS_READY 0), 0x240001002, 4, (some [9,8,7]), true, by decide +kernel⟩⟩

/-- States and operands that meet the hypotheses of HostWindowsAreCommitted, clause by clause. -/
theorem witness_HostWindowsAreCommitted :
    (∃ (s : State) (q : Requester) (v : W32), winWrites q = true ∧ s.hostDiscards q = false ∧ s.blockDown 4 = false ∧
      s.bit WIN_COMMIT WIN_COMMIT_PENDING = false ∧ s.winCheck = none)
    ∧ (∃ (s : State) (q : Requester) (v : W32) (w : Nat), winWrites q = true ∧ s.hostDiscards q = false ∧ s.blockDown 4
      = false ∧ s.bit WIN_COMMIT WIN_COMMIT_PENDING = false ∧ w < 16 ∧ s.bit (WIN_CFG w) WIN_CFG_EN = true ∧ (s.gf
      (WIN_CFG w) WIN_CFG_LOG2SIZE < 12 ∨ 32 < s.gf (WIN_CFG w) WIN_CFG_LOG2SIZE ∨ s.gf (WIN_TARGET w) WIN_TARGET_TARGET
      * 4096 % 2 ^ s.gf (WIN_CFG w) WIN_CFG_LOG2SIZE ≠ 0))
    ∧ (∃ (s : State) (q : Requester) (v : W32), s.bit WIN_COMMIT WIN_COMMIT_PENDING = true)
    ∧ (∃ (s : State), s.bit WIN_COMMIT WIN_COMMIT_PENDING = true)
    ∧ (∃ (s : State), s.bit WIN_COMMIT WIN_COMMIT_PENDING = false)
    ∧ (∃ (s : State) (q : Requester) (v : W32), coreWrites q = true ∧ s.bit HWIN_COMMIT HWIN_COMMIT_PENDING = false ∧
      s.blockDown 16 = false ∧ s.hwinCheck s.hwinTable = none)
    ∧ (∃ (s : State) (q : Requester) (v : W32), coreWrites q = true ∧ s.bit HWIN_COMMIT HWIN_COMMIT_PENDING = false ∧
      s.blockDown 16 = false ∧ inHbm s.hwinBase 8192 = false)
    ∧ (∃ (s : State) (q : Requester) (v : W32), coreWrites q = false)
    ∧ (∃ (s : State) (m : Tab HWin), s.host.hwinNext = some m)
    ∧ (∃ (s : State) (r : SynReq) (first : Nat) (es : List (List Byte)), s.synRefusal 0x0E00 (some 0) r = none ∧ first +
      es.length ≤ 512 ∧ s.bit HWIN_COMMIT HWIN_COMMIT_PENDING = false ∧ s.hwinCheck (s.hwinTable.take first ++ es.map
      (fun e => hwinEntry (fit 16 e)) ++ s.hwinTable.drop (first + es.length)) = none ∧ s.bit CKP_CTL CKP_CTL_EN =
      false)
    ∧ (∃ (s : State) (r : SynReq) (first : Nat) (es : List (List Byte)), s.synRefusal 0x0E00 (some 0) r = none ∧ first +
      es.length ≤ 512 ∧ s.bit HWIN_COMMIT HWIN_COMMIT_PENDING = true)
    ∧ (∃ (s : State) (r : SynReq) (first : Nat) (es : List (List Byte)), s.synRefusal 0x0E00 (some 0) r = none ∧ first +
      es.length ≤ 512 ∧ s.bit HWIN_COMMIT HWIN_COMMIT_PENDING = false ∧ inHbm s.hwinBase 8192 = false)
    ∧ (∃ (s : State) (r : SynReq) (first n : Nat), s.synRefusal 0x0E01 (some 0) r = none ∧ first + n ≤ 512)
    ∧ (∃ (s : State) (r : SynReq), s.synRefusal 0x0E02 (some 0) r = none) :=
  ⟨⟨St, .host, 0, by decide +kernel⟩,
   ⟨(St.wr (WIN_CFG 3) 0x8000030D), .host, 0, 3, by decide +kernel⟩,
   ⟨Fl, .host, 0, by decide +kernel⟩,
   ⟨Fl, by decide +kernel⟩,
   ⟨Y, by decide +kernel⟩,
   ⟨(hb Y), qt, 0, by decide +kernel⟩,
   ⟨(Y.wr (HWIN_BASE+4) 0x40000), qt, 0, by decide +kernel⟩,
   ⟨Y, .host, 0, by decide +kernel⟩,
   ⟨(wh (fun h => { h with hwinNext := some [(5, ⟨1,2,true,true,true,true,true,13⟩)] }) (Y.sf HWIN_COMMIT
     HWIN_COMMIT_PENDING 1)), [(5, ⟨1,2,true,true,true,true,true,13⟩)], by decide +kernel⟩,
   ⟨(hb Y), rq, 510, [leBytes 8 0x999999000 ++ leBytes 4 0x100021 ++ leBytes 4 0xF07, [1]], by decide +kernel⟩,
   ⟨((hb Y).sf HWIN_COMMIT HWIN_COMMIT_PENDING 1), rq, 510, [[1]], by decide +kernel⟩,
   ⟨(Y.wr (HWIN_BASE+4) 0x40000), rq, 510, [[1]], by decide +kernel⟩,
   ⟨(wh (fun h => { h with hwin := [(5, ⟨4096,2,true,true,true,true,true,13⟩)] }) Y), rq, 4, 3, by decide +kernel⟩,
   ⟨Fl, rq, by decide +kernel⟩⟩

end C15

namespace C16

def rq : SynReq := ⟨.mailbox 0, 3, 2, 7, 7, false, none⟩
def synOn (s : State) : State := ((s.sf DEV_STATUS DEV_STATUS_STAGE 6).sf DEV_ENABLE DEV_ENABLE_EN 1).setMb 0 { Mailbox.reset with session := some ⟨5, false, 0, none⟩ }
def hu (s : State) : State := s.cfgWr 4 (s.cfgRd 4 ||| 6) |>.cfgWr 0x164 0x10000
def inst7 (s : State) (st : InstState := .enabled) : State := s.setInst 7 { s.instOf 7 with state := st, session := 5, pasid := 33, vecFirst := 2, vecCount := 4, maxq := [3,3,3,3], gen := 4 }
def Y : State := { hu (synOn S0) with clock := 10^10 }
def Q (k : QKind) : IQueue := ⟨k, 7, 1, 0x1000, 0x8000, 4, 3, 2048, 5, 9, false, false, 6, 4, 18, 5, false, false, none, 0, []⟩
def A (k : QKind) (q : IQueue) : State := (inst7 Y).setIq (qkey k 12) q
def twoCn : State :=
  ((inst7 Y .configured).setCn 5 { (Y.cn 5) with inst := some 7, state := csInit }).setCn 6
    { (Y.cn 5) with inst := some 8, state := csInit }
def qo (k : QKind) : IQueue := { Q k with owed := [⟨[1,2,3,4,5,6,7,8,9,10,11,12,13]⟩] }
def xq : IQueue := Q .transmit
def dd (len : Nat) : List Byte := leBytes 8 0x55000 ++ leBytes 4 len ++ [9, 8, 0, 0]
def T (len : Nat) (q : IQueue) : State := (((A .transmit q).sf PKT_CTL PKT_CTL_EN 1).hostPut (some 33) (0x1000 + 4*16) (dd len)).hostPut (some 33) 0x55000 [1,2,3,4,5]
def xr : IQueue := { xq with cplHead := 10 }
def tk (s : State) : State := s.setBucket false 9 { s.bucket false 9 with cfg := { (s.bucket false 9).cfg with en := true, rate := 5 }, tokens := 0 }
def sp : InstQueueSpec := ⟨0x1000, 0x9000, 4, 3, 2048, 5, 9, true⟩

/-- States and operands that meet the hypotheses of InstancesServeTheirQueues, clause by clause. -/
theorem witness_InstancesServeTheirQueues :
    (∃ (s : State) (i : Fin 2048) (ix : Fin 64) (v : W32) (key : Nat) (q : IQueue), s.pageOpen i.val = true ∧ s.iqLocal
      i.val .receive ix.val = some (key, q) ∧ (v.toNat % 2 ^ 16 + 2 ^ 16 - q.head) % 2 ^ 16 ≤ 2 ^ q.log2n ∧ (∀ e ∈
      s.trn.conns, e.2.consumer ≠ 4) ∧ s.pkt.queue = [] ∧ s.pkt.held = [])
    ∧ (∃ (s : State) (i : Fin 2048) (ix : Fin 64) (v : W32) (key : Nat) (q : IQueue), s.pageOpen i.val = true ∧
      s.iqLocal i.val .transmit ix.val = some (key, q) ∧ (v.toNat % 2 ^ 16 + 2 ^ 16 - q.head) % 2 ^ 16 ≤ 2 ^ q.log2n)
    ∧ (∃ (s : State) (i : Fin 2048) (ix : Fin 64) (v : W32) (key : Nat) (q : IQueue), s.pageOpen i.val = true ∧
      s.iqLocal i.val .transport ix.val = some (key, q) ∧ (v.toNat % 2 ^ 16 + 2 ^ 16 - q.head) % 2 ^ 16 ≤ 2 ^ q.log2n)
    ∧ (∃ (s : State) (i : Fin 2048) (ix : Fin 64) (v : W32) (key : Nat) (q : IQueue), s.pageOpen i.val = true ∧
      s.iqLocal i.val .transport ix.val = some (key, q) ∧ 2 ^ q.log2n < (v.toNat % 2 ^ 16 + 2 ^ 16 - q.head) % 2 ^ 16)
    ∧ (∃ (s : State) (i : Fin 2048) (ix : Fin 64) (v : W32), s.pageOpen i.val = true ∧ s.iqLocal i.val .transmit ix.val
      = none)
    ∧ (∃ (s : State) (i : Fin 2048) (ix : Fin 64) (v : W32), s.pageOpen i.val = false)
    ∧ (∃ (s : State) (i : Fin 2048) (k : QKind) (ix : Fin 64) (v : W32) (key : Nat) (q : IQueue), s.pageOpen i.val =
      true ∧ s.iqLocal i.val k ix.val = some (key, q) ∧ q.owed = [] ∧ q.deleting = none)
    ∧ (∃ (s : State) (i : Fin 2048) (k : QKind) (ix : Fin 64) (v : W32) (key : Nat) (q : IQueue) (c : HeldCpl),
      s.pageOpen i.val = true ∧ s.iqLocal i.val k ix.val = some (key, q) ∧ q.owed = [c] ∧ q.mute = false ∧ q.deleting =
      none ∧ s.mayComplete q.inst = true ∧ (q.cplTail + 2 ^ 16 - v.toNat % 2 ^ 16) % 2 ^ 16 < 2 ^ q.log2n)
    ∧ (∃ (s : State) (i : Fin 2048) (k : QKind) (ix : Fin 64) (v : W32), s.pageOpen i.val = true ∧ s.iqLocal i.val k
      ix.val = none)
    ∧ (∃ (s : State) (q : Fin 8192) (x : IQueue) (d : List Byte), s.iqAt (qkey .transmit q.val) = some x ∧ s.iqFetches x
      = true ∧ 0 < x.posted ∧ s.hostUp = true ∧ s.pktEn = true ∧ s.shaperPasses q x ∧ x.owed = [] ∧ x.room = true ∧
      x.mute = false ∧ x.kind = .transmit ∧ d = s.hostBytes (s.instPasid x.inst) (x.ring + x.head % 2 ^ x.log2n * 16) 16
      ∧ 1 ≤ fieldLE d 8 4 ∧ fieldLE d 8 4 ≤ 9216 - ((s.channel x.channel).map (fun c => fieldLE c 4 1)).getD 0)
    ∧ (∃ (s : State) (q : Fin 8192) (x : IQueue), s.iqAt (qkey .transmit q.val) = some x ∧ s.iqFetches x = true ∧ 0 <
      x.posted ∧ s.hostUp = true ∧ s.pktEn = true ∧ x.qshEn = true ∧ (s.bucket false x.qshaper).cfg.en = true ∧
      (s.bucket false x.qshaper).tokens = 0 ∧ x.qtoken = false)
    ∧ (∃ (s : State) (q : Fin 8192) (x : IQueue) (d : List Byte), s.iqAt (qkey .transmit q.val) = some x ∧ s.iqFetches x
      = true ∧ 0 < x.posted ∧ s.hostUp = true ∧ s.pktEn = true ∧ x.qshEn = true ∧ x.owed = [] ∧ x.room = true ∧ x.mute =
      false ∧ x.kind = .transmit ∧ d = s.hostBytes (s.instPasid x.inst) (x.ring + x.head % 2 ^ x.log2n * 16) 16 ∧ 1 ≤
      fieldLE d 8 4 ∧ fieldLE d 8 4 ≤ 9216 - ((s.channel x.channel).map (fun c => fieldLE c 4 1)).getD 0 ∧ (s.bucket
      false x.qshaper).cfg.en = true ∧ (s.bucket false x.qshaper).cfg.rate ≠ 0 ∧ 0 < (s.bucket false x.qshaper).tokens ∧
      s.shaperUsers x.qshaper = [4096 + q.val])
    ∧ (∃ (s : State) (q : Fin 8192) (x : IQueue), s.iqAt (qkey .transmit q.val) = some x ∧ s.iqFetches x = true ∧ 0 <
      x.posted ∧ s.hostUp = true ∧ s.pktEn = true ∧ s.shaperPasses q x ∧ x.owed = [] ∧ x.room = true ∧ x.mute = false)
    ∧ (∃ (s : State) (q : Fin 8192) (out : DmaOut), s.iqAt (qkey .transmit q.val) = none)
    ∧ (∃ (s : State) (r : SynReq) (i : Fin 2048) (pasid : W32) (vf vc : W16) (a b c d : Byte) (se : Session),
      s.synRefusal 0x0F00 (some 12) r = none ∧ s.sessionOf r = some se ∧ (s.instOf i.val).state = .free ∧ pasid.toNat ≤
      1048575 ∧ vf.toNat ≤ 2047 ∧ 1 ≤ vc.toNat ∧ vc.toNat ≤ 256 ∧ a.toNat ≤ 64 ∧ b.toNat ≤ 64 ∧ c.toNat ≤ 64 ∧ d.toNat ≤
      64)
    ∧ (∃ (s : State) (r : SynReq) (i : Option (Fin 2048)) (pasid : W32) (vf vc : W16) (a b c d : Byte), s.synRefusal
      0x0F00 (some 12) r = none ∧ (s.sessionOf r).isSome = true ∧ (1048575 < pasid.toNat ∨ 2047 < vf.toNat ∨ vc.toNat =
      0 ∨ 256 < vc.toNat ∨ 64 < a.toNat ∨ 64 < d.toNat))
    ∧ (∃ (s : State) (r : SynReq), s.synRefusal 0x0F01 (some 12) r = none ∧ synInst r < 2048 ∧ s.ownsInst r (synInst r)
      = true ∧ (s.instOf (synInst r)).state = .configured ∧ s.instCheck (synInst r) = none)
    ∧ (∃ (s : State) (r : SynReq) (c : Nat), s.synRefusal 0x0F01 (some 12) r = none ∧ synInst r < 2048 ∧ s.ownsInst r
      (synInst r) = true ∧ (s.instOf (synInst r)).state = .configured ∧ s.instCheck (synInst r) = some c)
    ∧ (∃ (s : State) (r : SynReq), s.synRefusal 0x0F01 (some 12) r = none ∧ synInst r < 2048 ∧ s.ownsInst r (synInst r)
      = false)
    ∧ (∃ (s : State) (r : SynReq), s.synRefusal 0x0F02 (some 12) r = none ∧ synInst r < 2048 ∧ s.ownsInst r (synInst r)
      = true ∧ (s.instOf (synInst r)).state = .enabled ∧ s.instHasQueue (synInst r) = false)
    ∧ (∃ (s : State) (r : SynReq), s.synRefusal 0x0F02 (some 12) r = none ∧ synInst r < 2048 ∧ s.ownsInst r (synInst r)
      = true ∧ (s.instOf (synInst r)).state = .enabled ∧ s.instHasQueue (synInst r) = true)
    ∧ (∃ (s : State) (r : SynReq), s.synRefusal 0x0F03 (some 12) r = none ∧ synInst r < 2048 ∧ s.ownsInst r (synInst r)
      = true ∧ (s.instOf (synInst r)).state ≠ .free ∧ (∀ e ∈ s.trn.conns, e.2.inst ≠ some (synInst r)) ∧ (∀ e ∈ s.iq,
      e.2.inst = synInst r → e.2.deleting = none) ∧ (∀ e ∈ s.sto.queues, e.2.inst ≠ synInst r) ∧ s.pkt.queue = [] ∧
      s.pkt.held = [])
    ∧ (∃ (s : State) (r : SynReq), s.synRefusal 0x0F03 (some 12) r = none ∧ synInst r < 2048 ∧ s.ownsInst r (synInst r)
      = true ∧ (s.instOf (synInst r)).state = .free)
    ∧ (∃ (s : State) (r : SynReq), s.synRefusal 0x0F04 (some 12) r = none ∧ synInst r < 2048 ∧ s.ownsInst r (synInst r)
      = true ∧ (s.instOf (synInst r)).state = .configured)
    ∧ (∃ (s : State) (r : SynReq), s.synRefusal 0x0F04 (some 12) r = none ∧ synInst r < 2048 ∧ s.ownsInst r (synInst r)
      = true ∧ (s.instOf (synInst r)).state ≠ .configured)
    ∧ (∃ (s : State) (r : SynReq) (k : QKind) (p : InstQueueSpec) (n ix : Nat), s.synRefusal 0x0F05 (some 12) r = none ∧
      synInst r < 2048 ∧ s.ownsInst r (synInst r) = true ∧ s.instQueueCheck (synInst r) k p = none ∧ n < kindLimit k ∧
      (s.iqAt (qkey k n)).isNone = true ∧ (∀ m, m < n → (s.iqAt (qkey k m)).isSome = true) ∧ ix < 64 ∧ (∀ e ∈ s.iq,
      e.2.inst = synInst r → e.2.kind = k → e.2.localIx ≠ ix) ∧ (∀ j, j < ix → ∃ e ∈ s.iq, e.2.inst = synInst r ∧
      e.2.kind = k ∧ e.2.localIx = j))
    ∧ (∃ (s : State) (r : SynReq) (k : QKind) (p : InstQueueSpec), s.synRefusal 0x0F05 (some 12) r = none ∧ synInst r <
      2048 ∧ s.ownsInst r (synInst r) = true ∧ (s.instOf (synInst r)).state ≠ .enabled)
    ∧ (∃ (s : State) (r : SynReq) (k : QKind) (q : Fin 8192) (x : IQueue), s.synRefusal 0x0F06 (some 12) r = none ∧
      synInst r < 2048 ∧ s.ownsInst r (synInst r) = true ∧ s.iqOwned (synInst r) k q.val = some x ∧ x.deleting = none ∧
      x.outstanding = 0 ∧ x.owed = [] ∧ s.pkt.queue = [] ∧ s.pkt.held = [])
    ∧ (∃ (s : State) (r : SynReq) (k : QKind) (q : Fin 8192) (x : IQueue), s.synRefusal 0x0F06 (some 12) r = none ∧
      synInst r < 2048 ∧ s.ownsInst r (synInst r) = true ∧ s.iqOwned (synInst r) k q.val = some x ∧ x.deleting = none ∧
      x.outstanding ≠ 0 ∧ s.pkt.queue = [] ∧ s.pkt.held = [])
    ∧ (∃ (s : State) (r : SynReq) (k : QKind) (q : Fin 8192) (x : IQueue), s.synRefusal 0x0F07 (some 12) r = none ∧
      synInst r < 2048 ∧ s.ownsInst r (synInst r) = true ∧ s.iqOwned (synInst r) k q.val = some x ∧ x.frozen = true ∧
      x.outstanding = 0 ∧ x.owed = [] ∧ s.pkt.queue = [] ∧ s.pkt.held = [])
    ∧ (∃ (s : State) (r : SynReq) (k : QKind) (q : Fin 8192) (x : IQueue), s.synRefusal 0x0F07 (some 12) r = none ∧
      synInst r < 2048 ∧ s.ownsInst r (synInst r) = true ∧ s.iqOwned (synInst r) k q.val = some x ∧ x.frozen = false)
    ∧ (∃ (s : State) (r : SynReq) (ns : List (BitVec 20)) (a : Bool), s.synRefusal 0x0F08 (some 12) r = none ∧ synInst r
      < 2048 ∧ s.ownsInst r (synInst r) = true ∧ (s.instOf (synInst r)).state ≠ .free ∧ (∀ n ∈ ns, (s.cn n.toNat).state
      = csInit ∧ ((s.cn n.toNat).inst = none ∨ (s.cn n.toNat).inst = some (synInst r))))
    ∧ (∃ (s : State) (r : SynReq) (n : BitVec 20) (a : Bool), s.synRefusal 0x0F08 (some 12) r = none ∧ synInst r < 2048
      ∧ s.ownsInst r (synInst r) = true ∧ (s.cn n.toNat).state ≠ csInit)
    ∧ (∃ (s : State) (r : SynReq) (m : Fin 8), s.synRefusal 0x0F09 (some 12) r = none ∧ r.port = .mailbox m ∧ synInst r
      < 2048 ∧ s.ownsInst r (synInst r) = true ∧ s.iq = [] ∧ s.sto.queues = [] ∧ s.trn.conns = []) :=
  ⟨⟨(A .receive (Q .receive)), 7, 1, 0x50009, (qkey .receive 12), (Q .receive), by decide +kernel⟩,
   ⟨(A .transmit (Q .transmit)), 7, 1, 0x50009, (qkey .transmit 12), (Q .transmit), by decide +kernel⟩,
   ⟨(A .transport (Q .transport)), 7, 1, 20, (qkey .transport 12), (Q .transport), by decide +kernel⟩,
   ⟨(A .transport (Q .transport)), 7, 1, 21, (qkey .transport 12), (Q .transport), by decide +kernel⟩,
   ⟨(A .transport (Q .transport)), 7, 1, 21, by decide +kernel⟩,
   ⟨(A .transport (Q .transport)), 8, 1, 21, by decide +kernel⟩,
   ⟨(A .transport (Q .transport)), 7, .transport, 1, 9, (qkey .transport 12), (Q .transport), by decide +kernel⟩,
   ⟨(A .receive (qo .receive)), 7, .receive, 1, 9, (qkey .receive 12), (qo .receive), ⟨[1,2,3,4,5,6,7,8,9,10,11,12,13]⟩,
     by decide +kernel⟩,
   ⟨(A .receive (qo .receive)), 7, .receive, 2, 9, by decide +kernel⟩,
   ⟨(T 5 xr), 12, xr, (dd 5), by decide +kernel⟩,
   ⟨(tk (T 5 { xr with qshEn := true })), 12, ({ xr with qshEn := true }), by decide +kernel⟩,
   ⟨((tk (T 5 { xr with qshEn := true })).setBucket false 9 { (tk Y).bucket false 9 with tokens := 3 }), 12, ({ xr with
     qshEn := true }), (dd 5), by decide +kernel⟩,
   ⟨(T 5 xr), 12, xr, by decide +kernel⟩,
   ⟨(T 5 xr), 13, .ok, by decide +kernel⟩,
   ⟨Y, rq, 9, 33, 2, 4, 64, 3, 3, 0, ⟨5, false, 0, none⟩, by decide +kernel⟩,
   ⟨Y, rq, none, 33, 2, 257, 64, 3, 3, 0, by decide +kernel⟩,
   ⟨(inst7 Y .configured), rq, by decide +kernel⟩,
   ⟨((inst7 Y .configured).setInst 9 {(inst7 Y).instOf 7 with vecFirst := 90}), rq, 0x06F0, by decide +kernel⟩,
   ⟨((inst7 Y).setInst 7 {(inst7 Y).instOf 7 with session := 90}), rq, by decide +kernel⟩,
   ⟨(inst7 Y), rq, by decide +kernel⟩,
   ⟨(T 5 xq), rq, by decide +kernel⟩,
   ⟨((T 5 xq).setIq 5 {xq with inst := 6}), rq, by decide +kernel⟩,
   ⟨Y, rq, by decide +kernel⟩,
   ⟨twoCn, rq, by decide +kernel⟩,
   ⟨(inst7 Y), rq, by decide +kernel⟩,
   ⟨((T 5 xq).setIq (qkey .receive 0) { Q .receive with localIx := 0 }), rq, .receive, sp, 1, 1, by decide +kernel⟩,
   ⟨Y, rq, .receive, sp, by decide +kernel⟩,
   ⟨(T 5 xq), rq, .transmit, 12, xq, by decide +kernel⟩,
   ⟨(T 5 {xq with outstanding := 3}), rq, .transmit, 12, ({xq with outstanding := 3}), by decide +kernel⟩,
   ⟨(T 5 {xq with frozen := true, mute := true}), rq, .transmit, 12, ({xq with frozen := true, mute := true}), by
     decide +kernel⟩,
   ⟨(T 5 xq), rq, .transmit, 12, xq, by decide +kernel⟩,
   ⟨((inst7 Y).setCn 5 { (Y.cn 5) with state := csInit }), rq, [5], true, by
     (repeat' with_reducible apply And.intro) <;> first | (rw [List.forall_mem_singleton]; decide +kernel) | decide +kernel⟩,
   ⟨(inst7 Y), rq, 5, true, by decide +kernel⟩,
   ⟨(inst7 Y), rq, 0, by decide +kernel⟩⟩

end C16

namespace C17

def rq : SynReq := ⟨.mailbox 0, 3, 2, 7, 0xFFFF, false, none⟩
def se0 : Session := ⟨5, false, 0, none⟩
def ses (s : Session) (st : State) : State := st.setMb 0 { Mailbox.reset with session := some s }
def synOn (s : State) : State := ses se0 ((s.sf DEV_STATUS DEV_STATUS_STAGE 6).sf DEV_ENABLE DEV_ENABLE_EN 1)
def hu (s : State) : State := s.cfgWr 4 (s.cfgRd 4 ||| 6) |>.cfgWr 0x164 0x10000
def inst7 (s : State) (st : InstState := .enabled) : State := s.setInst 7 { s.instOf 7 with state := st, session := 5, pasid := 33, vecFirst := 2, vecCount := 4, maxq := [3,3,3,3], gen := 4 }
def Y : State := { hu (synOn S0) with clock := 10^10 }
def stg (n : Nat) (s : State) : State := s.sf DEV_STATUS DEV_STATUS_STAGE n
def off (s : State) : State := s.sf DEV_ENABLE DEV_ENABLE_EN 0
def rdy (s : State) : State := s.sf HBM_STATUS HBM_STATUS_READY 1
def Ld : State := ((((stg 5 Y).wr DEV_LOAD_ADDR 0x5000).wr (DEV_LOAD_ADDR+4) 0x7).sf DEV_LOAD_CTL DEV_LOAD_CTL_LENGTH 300).sf DEV_LOAD_CTL DEV_LOAD_CTL_BUSY 1
def an (x : Option SynInd) : SynAns := ⟨0x0D05, 3, 2, 7, 9, 0, [1,2,3,4,5,6,7,8,9], x⟩
def An (x : Option SynInd) : State := Y.setMb 0 { Y.mb 0 with ans := some (an x) }
def wd (c : Nat) (s : State) : State := (s.wr (CORE_WDG c) 0x80000014).sf (CORE_STATUS c) CORE_STATUS_STATE 1
def ag (c : Nat) : State := ((List.range 32).foldl (fun s k => s.sf (CORE_STATUS k) CORE_STATUS_STATE 1) (wd c Y)).setSvc c ⟨0, some (10^10 - 1562500000), []⟩
def pk : FwPackage := ⟨77, 5, 1, 2, 3, [1], [2]⟩
def act (sw : List Nat) : State := { ag 5 with fw := { (ag 5).fw with activating := true, staged := some pk, switched := sw } }
def no : State := Y.setMb 0 Mailbox.reset
def lost : State := ses { se0 with lost := true } Y
def stag (s : State) : State := { s with fw := { s.fw with staged := some pk } }

/-- States and operands that meet the hypotheses of FirmwareLoadsAndAnswers, clause by clause. -/
theorem witness_FirmwareLoadsAndAnswers :
    (∃ (s : State) (q : Requester) (v : W32), devWrites q = true ∧ s.hostDiscards q = false ∧ s.bit DEV_ENABLE
      DEV_ENABLE_EN = false ∧ s.devCheck = none)
    ∧ (∃ (s : State) (q : Requester) (v : W32), devWrites q = true ∧ s.hostDiscards q = false ∧ s.bit DEV_ENABLE
      DEV_ENABLE_EN = false ∧ s.gf DEV_STATUS DEV_STATUS_STAGE ≠ 6)
    ∧ (∃ (s : State) (q : Requester) (v : W32), devWrites q = true ∧ s.hostDiscards q = false ∧ s.bit DEV_ENABLE
      DEV_ENABLE_EN = false ∧ s.gf DEV_STATUS DEV_STATUS_STAGE = 6 ∧ s.bit HBM_STATUS HBM_STATUS_READY = true ∧ (∀ m, m
      < 8 → (s.mb m).session = none))
    ∧ (∃ (s : State) (q : Requester) (v : W32), devWrites q = true ∧ s.hostDiscards q = false)
    ∧ (∃ (s : State) (q : Requester) (v : W32), devWrites q = true ∧ s.hostDiscards q = false ∧ s.gf DEV_STATUS
      DEV_STATUS_STAGE = 4)
    ∧ (∃ (s : State) (q : Requester) (v : W32), devWrites q = true ∧ s.hostDiscards q = false ∧ s.gf DEV_STATUS
      DEV_STATUS_STAGE ≠ 4)
    ∧ (∃ (s : State) (img : List Byte), s.gf DEV_STATUS DEV_STATUS_STAGE = 5 ∧ s.hostUp = true ∧ img = s.hostBytes none
      (s.gf DEV_LOAD_ADDR DEV_LOAD_ADDR_ADDR <<< 12) (s.gf DEV_LOAD_CTL DEV_LOAD_CTL_LENGTH))
    ∧ (∃ (s : State) (ok : Bool), s.gf DEV_STATUS DEV_STATUS_STAGE = 5 ∧ (ok = false ∨ s.hostUp = false))
    ∧ (∃ (s : State) (ok : Bool), s.gf DEV_STATUS DEV_STATUS_STAGE ≠ 5)
    ∧ (∃ (s : State) (c : Fin 32), (s.gf (CORE_STATUS c.val) CORE_STATUS_STATE = 1 ∨ s.gf (CORE_STATUS c.val)
      CORE_STATUS_STATE = 2) ∧ (s.tahrOf c.val).started = false)
    ∧ (∃ (s : State) (q : Requester) (v : W32) (m : Nat) (se : Session), devWrites q = true ∧ s.hostDiscards q = false ∧
      m < 8 ∧ (s.mb m).session = some se ∧ se.id = v ∧ se.lost = false)
    ∧ (∃ (s : State) (q : Requester) (v : W32), ∀ m, m < 8 → ∀ se ∈ (s.mb m).session, se.id ≠ v ∨ se.lost = true)
    ∧ (∃ (s : State) (m : Fin 8) (se : Session), (s.mb m.val).session = some se ∧ se.lost = false ∧ 312500000 ≤ s.clock
      - se.renewed ∧ s.safe = false ∧ s.instsOf se.id ≠ [] ∧ s.pkt.queue = [] ∧ s.pkt.held = [])
    ∧ (∃ (s : State) (m : Fin 8) (se : Session), (s.mb m.val).session = some se ∧ se.lost = false ∧ 312500000 ≤ s.clock
      - se.renewed ∧ s.safe = false ∧ s.instsOf se.id = [])
    ∧ (∃ (s : State) (m : Fin 8) (se : Session), (s.mb m.val).session = some se ∧ s.clock - se.renewed < 312500000)
    ∧ (∃ (s : State) (q : Requester) (m : Fin 8), devWrites q = true ∧ s.hostDiscards q = false ∧ s.portOpen (.mailbox
      m) = true ∧ s.bit (MBX_CTL m.val) MBX_CTL_BUSY = false ∧ synKnown (synHead (.mailbox m) ((List.range 512).map (fun
      w => s.rd (MBX_REQ m.val + 4 * w)))).1 = true)
    ∧ (∃ (s : State) (q : Requester) (m : Fin 8) (op : Nat) (r : SynReq), devWrites q = true ∧ s.hostDiscards q = false
      ∧ s.portOpen (.mailbox m) = true ∧ s.bit (MBX_CTL m.val) MBX_CTL_BUSY = false ∧ synKnown op = false ∧ synHead
      (.mailbox m) ((List.range 512).map (fun w => s.rd (MBX_REQ m.val + 4 * w))) = (op, r))
    ∧ (∃ (s : State) (q : Requester) (m : Fin 8), s.bit (MBX_CTL m.val) MBX_CTL_BUSY = true)
    ∧ (∃ (s : State) (i : Fin 2048), s.portOpen (.page i) = true ∧ s.bit (INSTP_MBX i.val) MBX_CTL_BUSY = false)
    ∧ (∃ (s : State) (p : SynPort) (a : SynAns) (bs : List Byte), (s.mb (synBox p)).ans = some a ∧ a.ind = none ∧ s.safe
      = false ∧ a.payload.length ≤ 1904 ∧ bs = synHeader a a.payload.length a.status ++ a.payload)
    ∧ (∃ (s : State) (p : SynPort) (a : SynAns) (x : SynInd), (s.mb (synBox p)).ans = some a ∧ a.ind = some x ∧ s.hostUp
      = true ∧ a.payload ≠ [] ∧ a.payload.length ≤ x.rspLen.toNat)
    ∧ (∃ (s : State) (p : SynPort), (s.mb (synBox p)).ans = none) :=
  ⟨⟨(ses {se0 with ring := some ⟨1,4,5,0,0,0,[]⟩} (rdy (off Y))), .host, 0, by decide +kernel⟩,
   ⟨(stg 4 (off Y)), .host, 0, by decide +kernel⟩,
   ⟨(rdy (stg 6 S0)), .host, 0, by decide +kernel⟩,
   ⟨Y, .host, 0, by decide +kernel⟩,
   ⟨(stg 4 Y), .host, 0x12345, by decide +kernel⟩,
   ⟨(stg 6 Y), .host, 0x12345, by decide +kernel⟩,
   ⟨Ld, (Ld.hostBytes none 0x700005000 300), by decide +kernel⟩,
   ⟨Ld, false, by decide +kernel⟩,
   ⟨Y, false, by decide +kernel⟩,
   ⟨((Y.setTahr 9 {Tahr.reset with half := 1, pc := 8}).sf (CORE_STATUS 9) CORE_STATUS_STATE 1), 9, by decide +kernel⟩,
   ⟨Y, .host, 5, 0, se0, by decide +kernel⟩,
   ⟨Y, .host, 6, by decide +kernel⟩,
   ⟨(inst7 Y), 0, se0, by decide +kernel⟩,
   ⟨Y, 0, se0, by decide +kernel⟩,
   ⟨({Y with clock := 312499999}), 0, se0, by decide +kernel⟩,
   ⟨(Y.wr (MBX_REQ 0 + 8) 77), .host, 0, by decide +kernel⟩,
   ⟨(Y.wr (MBX_REQ 0) 0x050A0203), .host, 0, 0x050A, ((synHead (.mailbox 0) [0x050A0203]).2), by decide +kernel⟩,
   ⟨(Y.sf (MBX_CTL 0) MBX_CTL_BUSY 1), .host, 0, by decide +kernel⟩,
   ⟨(Y.wr (INSTP_REQ 3 + 8) 77), 3, by decide +kernel⟩,
   ⟨((An none).wr (MBX_VEC 0) 0x80000005), (.mailbox 0), (an none), (synHeader (an none) 9 0 ++ [1,2,3,4,5,6,7,8,9]), by
     decide +kernel⟩,
   ⟨(An (some ⟨0x9999, 9, true⟩)), (.mailbox 0), (an (some ⟨0x9999, 9, true⟩)), ⟨0x9999, 9, true⟩, by decide +kernel⟩,
   ⟨Y, (.mailbox 0), by decide +kernel⟩⟩

/-- States and operands that meet the hypotheses of WatchdogsUpdateAndFirmwareRequests, clause by clause. -/
theorem witness_WatchdogsUpdateAndFirmwareRequests :
    (∃ (s : State) (c : Fin 33), s.blockDown 17 = false ∧ s.bit (CORE_WDG c.val) CORE_WDG_EN = true)
    ∧ (∃ (s : State) (q : Requester) (c : Fin 33), q ≠ .core c)
    ∧ (∃ (s : State) (c : Fin 33) (v : W32), s.blockDown 17 = false ∧ s.bit (CORE_WDG c.val) CORE_WDG_EN = false)
    ∧ (∃ (s : State) (q : Requester) (c : Fin 33) (v : W32), q ≠ .core c)
    ∧ (∃ (s : State) (c : Fin 33), s.bit (CORE_WDG c.val) CORE_WDG_EN = true ∧ s.gf (CORE_STATUS c.val)
      CORE_STATUS_STATE = 1 ∧ max 1 (s.gf (CORE_WDG c.val) CORE_WDG_TIMEOUT_MS) * 156250 ≤ s.clock - (s.svc
      c.val).lastKick ∧ (s.svc c.val).lastExpiry = none)
    ∧ (∃ (s : State) (c : Fin 33) (t0 : Nat), s.bit (CORE_WDG c.val) CORE_WDG_EN = true ∧ s.gf (CORE_STATUS c.val)
      CORE_STATUS_STATE = 1 ∧ max 1 (s.gf (CORE_WDG c.val) CORE_WDG_TIMEOUT_MS) * 156250 ≤ s.clock - (s.svc
      c.val).lastKick ∧ (s.svc c.val).lastExpiry = some t0 ∧ s.clock - t0 ≤ 1562500000 ∧ c.val < 30 ∧ s.gf FLT_CTL
      FLT_CTL_MODE = 0)
    ∧ (∃ (s : State) (c : Fin 33) (t0 : Nat), s.bit (CORE_WDG c.val) CORE_WDG_EN = true ∧ s.gf (CORE_STATUS c.val)
      CORE_STATUS_STATE = 1 ∧ max 1 (s.gf (CORE_WDG c.val) CORE_WDG_TIMEOUT_MS) * 156250 ≤ s.clock - (s.svc
      c.val).lastKick ∧ (s.svc c.val).lastExpiry = some t0 ∧ s.clock - t0 ≤ 1562500000)
    ∧ (∃ (s : State) (c : Fin 33), s.bit (CORE_WDG c.val) CORE_WDG_EN = false ∨ s.clock - (s.svc c.val).lastKick < s.gf
      (CORE_WDG c.val) CORE_WDG_TIMEOUT_MS * 156250)
    ∧ (∃ (s : State) (c : Fin 33), s.gf (CORE_STATUS c.val) CORE_STATUS_STATE = 2 ∧ (c.val = 32 ∨ (s.tahrOf
      c.val).started = true))
    ∧ (∃ (s : State) (c : Fin 33), s.gf (CORE_STATUS c.val) CORE_STATUS_STATE ≠ 2)
    ∧ (∃ (s : State) (d : Fin 30), s.fw.activating = true ∧ d.val ∉ s.fw.switched ∧ s.maySwitch d.val = true ∧ s.safe =
      false ∧ (insertKey s.fw.switched d.val).length < 30 ∧ s.coreOfDomain d.val < 32)
    ∧ (∃ (s : State) (d : Fin 30) (p : FwPackage), s.fw.activating = true ∧ d.val ∉ s.fw.switched ∧ s.maySwitch d.val =
      true ∧ s.safe = false ∧ (insertKey s.fw.switched d.val).length = 30 ∧ s.fw.staged = some p ∧ p.version < 2 ^ 64)
    ∧ (∃ (s : State) (d : Fin 30), s.fw.activating = false)
    ∧ (∃ (s : State) (r : SynReq), s.synRefusal 0x0000 none r = none)
    ∧ (∃ (s : State) (r : SynReq), s.synRefusal 0x0001 (some 0) r = none ∧ (s.mb (synBox r.port)).session = none)
    ∧ (∃ (s : State) (r : SynReq) (se : Session), s.synRefusal 0x0001 (some 0) r = none ∧ (s.mb (synBox r.port)).session
      = some se)
    ∧ (∃ (s : State) (r : SynReq) (se : Session), s.synRefusal 0x0001 (some 0) r = none ∧ (s.mb (synBox r.port)).session
      = some se ∧ se.lost = true ∧ s.instsOf se.id = [])
    ∧ (∃ (s : State) (r : SynReq) (se : Session) (i : Nat), s.synRefusal 0x0001 (some 0) r = none ∧ (s.mb (synBox
      r.port)).session = some se ∧ se.lost = true ∧ s.instsOf se.id = [i] ∧ s.trn.conns = [] ∧ s.iq = [] ∧ s.sto.queues
      = [] ∧ s.pkt.queue = [] ∧ s.pkt.held = [])
    ∧ (∃ (s : State) (r : SynReq) (id : W32) (se : Session), s.synRefusal 0x0002 (some 0) r = none ∧ s.lostBox id = some
      (synBox r.port, se) ∧ s.instsOf id = [])
    ∧ (∃ (s : State) (r : SynReq) (id : W32) (se : Session) (m : Nat), s.synRefusal 0x0002 (some 0) r = none ∧ s.lostBox
      id = some (m, se) ∧ m ≠ synBox r.port ∧ m < 8 ∧ synBox r.port < 8 ∧ (s.mb (synBox r.port)).session = none ∧
      s.instsOf id = [])
    ∧ (∃ (s : State) (r : SynReq) (id : W32) (se : Session) (i : Nat), s.synRefusal 0x0002 (some 0) r = none ∧ s.lostBox
      id = some (synBox r.port, se) ∧ s.instsOf id = [i] ∧ (s.instOf i).state = .quiesced ∧ (s.instOf i).vecPending = []
      ∧ s.iq = [] ∧ s.sto.queues = [] ∧ s.pkt.queue = [] ∧ s.pkt.held = [])
    ∧ (∃ (s : State) (r : SynReq) (id : W32), s.synRefusal 0x0002 (some 0) r = none ∧ s.lostBox id = none)
    ∧ (∃ (s : State) (r : SynReq) (se : Session), s.synRefusal 0x0003 (some 0) r = none ∧ s.sessionOf r = some se ∧
      s.instsOf se.id = [])
    ∧ (∃ (s : State) (r : SynReq) (se : Session), s.synRefusal 0x0003 (some 0) r = none ∧ s.sessionOf r = some se ∧
      s.instsOf se.id ≠ [])
    ∧ (∃ (s : State) (r : SynReq) (a : BitVec 64) (n : Byte) (v : W16) (se : Session), s.synRefusal 0x0004 (some 0) r =
      none ∧ s.sessionOf r = some se ∧ 4 ≤ n.toNat ∧ n.toNat ≤ 12 ∧ v.toNat ≤ 2047)
    ∧ (∃ (s : State) (r : SynReq) (a : BitVec 64) (n : Byte) (v : W16), s.synRefusal 0x0004 (some 0) r = none ∧
      (s.sessionOf r).isSome = true ∧ (n.toNat < 4 ∨ 12 < n.toNat ∨ 2047 < v.toNat))
    ∧ (∃ (s : State) (r : SynReq) (b : List Byte), s.synRefusal 0x0005 (some 0) r = none ∧ s.fw.activating = false)
    ∧ (∃ (s : State) (r : SynReq) (b : List Byte), s.synRefusal 0x0005 (some 0) r = none ∧ s.fw.activating = false ∧
      ((s.fw.running.map (·.handoffVer)).getD 0 < (fwPackage b).handoffMin ∨ (fwPackage b).handoffMax <
      (s.fw.running.map (·.handoffVer)).getD 0))
    ∧ (∃ (s : State) (r : SynReq) (b : List Byte), s.synRefusal 0x0005 (some 0) r = none ∧ s.fw.activating = true)
    ∧ (∃ (s : State) (r : SynReq), s.synRefusal 0x0006 (some 0) r = none ∧ s.fw.staged.isSome = true ∧ s.fw.activating =
      false ∧ s.recovering = false)
    ∧ (∃ (s : State) (r : SynReq), s.synRefusal 0x0006 (some 0) r = none ∧ s.fw.staged = none)
    ∧ (∃ (s : State) (r : SynReq), s.synRefusal 0x0006 (some 0) r = none ∧ s.fw.staged.isSome = true ∧ s.fw.activating =
      false ∧ s.recovering = true)
    ∧ (∃ (s : State) (r : SynReq), s.synRefusal 0x0007 (some 0) r = none ∧ s.paused = [])
    ∧ (∃ (s : State) (r : SynReq) (c : Fin 33), s.synRefusal 0x0008 (some 0) r = none ∧ (s.svc c.val).recent = [])
    ∧ (∃ (s : State) (r : SynReq) (bs : List (BitVec 64 × BitVec 64)), s.synRefusal 0x0009 (some 0) r = none ∧ (∀ b ∈
      bs, 0 < b.2.toNat ∧ b.1.toNat + b.2.toNat ≤ 2 ^ 64))
    ∧ (∃ (s : State) (r : SynReq) (b : BitVec 64 × BitVec 64), s.synRefusal 0x0009 (some 0) r = none ∧ (b.2 = 0 ∨ 2 ^ 64
      < b.1.toNat + b.2.toNat))
    ∧ (∃ (s : State) (r : SynReq), s.synRefusal 0x000A (some 0) r = none)
    ∧ (∃ (s : State) (r : SynReq) (b : List Byte), s.synRefusal 0x000B (some 0) r = none) :=
  ⟨⟨(wd 5 Y), 5, by decide +kernel⟩,
   ⟨(wd 5 Y), (.core 6), 5, by decide +kernel⟩,
   ⟨Y, 5, 99, by decide +kernel⟩,
   ⟨Y, .host, 5, 99, by decide +kernel⟩,
   ⟨(wd 5 Y), 5, by decide +kernel⟩,
   ⟨(ag 5), 5, (10^10 - 1562500000), by decide +kernel⟩,
   ⟨(ag 5), 5, (10^10 - 1562500000), by decide +kernel⟩,
   ⟨Y, 5, by decide +kernel⟩,
   ⟨({ (wd 32 Y).sf (CORE_STATUS 32) CORE_STATUS_STATE 2 with paused := [5] }), 32, by decide +kernel⟩,
   ⟨(wd 32 Y), 32, by decide +kernel⟩,
   ⟨(act []), 7, by decide +kernel⟩,
   ⟨(stg 7 (act ((List.range 30).filter (· != 7)))), 7, pk, by decide +kernel⟩,
   ⟨Y, 7, by decide +kernel⟩,
   ⟨Y, rq, by decide +kernel⟩,
   ⟨no, rq, by decide +kernel⟩,
   ⟨Y, rq, se0, by decide +kernel⟩,
   ⟨lost, rq, ({ se0 with lost := true }), by decide +kernel⟩,
   ⟨(inst7 lost), rq, ({ se0 with lost := true }), 7, by decide +kernel⟩,
   ⟨lost, rq, 5, ({ se0 with lost := true }), by decide +kernel⟩,
   ⟨((no.setMb 3 { Mailbox.reset with session := some { se0 with lost := true } }).wr (MBX_EVT_HEAD 3) 9), rq, 5, ({ se0
     with lost := true }), 3, by decide +kernel⟩,
   ⟨(inst7 lost .quiesced), rq, 5, ({ se0 with lost := true }), 7, by decide +kernel⟩,
   ⟨lost, rq, 6, by decide +kernel⟩,
   ⟨Y, rq, se0, by decide +kernel⟩,
   ⟨(inst7 Y), rq, se0, by decide +kernel⟩,
   ⟨(Y.wr (MBX_EVT_HEAD 0) 7), rq, 0x12345, 12, 2047, se0, by decide +kernel⟩,
   ⟨Y, rq, 0x12345, 13, 2047, by decide +kernel⟩,
   ⟨Y, rq, [1,2,3], by decide +kernel⟩,
   ⟨({ Y with fw := { Y.fw with running := some { pk with handoffVer := 9 } } }), rq, [1,2,3], by decide +kernel⟩,
   ⟨(act []), rq, [1,2,3], by decide +kernel⟩,
   ⟨(stag Y), rq, by decide +kernel⟩,
   ⟨Y, rq, by decide +kernel⟩,
   ⟨(stag (Y.sf CKP_STATUS CKP_STATUS_ROLLBACK_BUSY 1)), rq, by decide +kernel⟩,
   ⟨Y, rq, by decide +kernel⟩,
   ⟨(wd 5 Y), rq, 5, by decide +kernel⟩,
   ⟨Y, rq, [(0x1000, 0xFFFFFFFFFFFFF000)], by
     (repeat' with_reducible apply And.intro) <;> first | (rw [List.forall_mem_singleton]; decide +kernel) | decide +kernel⟩,
   ⟨Y, rq, (0x1000, 0xFFFFFFFFFFFFF001), by decide +kernel⟩,
   ⟨Y, rq, by decide +kernel⟩,
   ⟨Y, rq, [1,2], by decide +kernel⟩⟩

end C17

namespace C18

def cset (s : State) (t : Tahr) : State := (s.setTahr 3 t).sf (CORE_STATUS 3) CORE_STATUS_STATE 1
def T0 : Tahr := { Tahr.reset with started := true, pc := 0x100, g := [(1, 0x80000000), (2, 0xFFFFFFFF), (3, 7), (4, 0x10000010), (5, 0x10000012), (6, 0x44000008), (7, 0x104), (8, 0x20000010),(9,0x400000),(10,0x1000)], seg := [(1, 0x80000000)], vbase := 0x4000, xpc := 0x88, xstate := 7, xcause := 5, xaddr := 9, cstate := 1, evmask := 3, events := 4, cycleHi := 5, timer := 1000, timerAt := 10^10 - 3, startedAt := 9, localMem := [(16, 0x81),(17,0x92),(18,0xA3),(19,0xB4),(20,3)] }
def C : State := cset { S0 with clock := 10^10 } T0
def ex (f : Tahr → Tahr) : State := cset { S0 with clock := 10^10 } (f T0)
def far : State := C.putBytes 8 [1,0xF2,3,4]
def casS : State := ex (fun t => { t with g := t.g ++ [(12, 0xB4A39281)] })

/-- States and operands that meet the hypotheses of TahrRegisterOperations, clause by clause. -/
theorem witness_TahrRegisterOperations :
    (∃ (s : State) (c : Fin 32) (d a b : BitVec 5), s.coreFetches c)
    ∧ (∃ (s : State) (c : Fin 32) (d a b sh : BitVec 5), s.coreFetches c)
    ∧ (∃ (s : State) (c : Fin 32) (d a b : BitVec 5) (k : Nat), s.coreFetches c ∧ k ≤ 32 ∧ (∀ i, i < k → (s.greg c
      a).getLsbD (31 - i) = false) ∧ (k < 32 → (s.greg c a).getLsbD (31 - k) = true))
    ∧ (∃ (s : State) (c : Fin 32) (d a b sh : BitVec 5), s.coreFetches c ∧ (s.tahrOf c.val).hnd = false ∧ sh ≠ 0)
    ∧ (∃ (s : State) (c : Fin 32) (d a b sh : BitVec 5), s.coreRuns c.val = false) :=
  ⟨⟨C, 3, 5, 1, 2, by decide +kernel⟩,
   ⟨C, 3, 5, 1, 2, 31, by decide +kernel⟩,
   ⟨C, 3, 5, 3, 1, 29, by decide +kernel⟩,
   ⟨C, 3, 5, 1, 2, 7, by decide +kernel⟩,
   ⟨C, 4, 5, 1, 2, 7, by decide +kernel⟩⟩

/-- States and operands that meet the hypotheses of TahrImmediatesAndBranches, clause by clause. -/
theorem witness_TahrImmediatesAndBranches :
    (∃ (s : State) (c : Fin 32) (d a : BitVec 5) (imm : BitVec 16), s.coreFetches c)
    ∧ (∃ (s : State) (c : Fin 32) (d a : BitVec 5) (imm : BitVec 16), s.coreFetches c ∧ a = 0)
    ∧ (∃ (s : State) (c : Fin 32) (d a : BitVec 5) (imm : BitVec 16), s.coreFetches c ∧ (s.tahrOf c.val).hnd = false ∧ a
      ≠ 0)
    ∧ (∃ (s : State) (c : Fin 32) (a b : BitVec 5) (off : BitVec 16), s.coreFetches c ∧ s.greg c a = s.greg c b ∧
      ((s.tahrOf c.val).pc + off.signExtend 32 * 4).toNat < 0x200000)
    ∧ (∃ (s : State) (c : Fin 32) (a b : BitVec 5) (off : BitVec 16), s.coreFetches c ∧ ¬(s.greg c a = s.greg c b))
    ∧ (∃ (s : State) (c : Fin 32) (a b : BitVec 5) (off : BitVec 16), s.coreFetches c ∧ (s.tahrOf c.val).hnd = false ∧
      s.greg c a = s.greg c b ∧ 0x200000 ≤ ((s.tahrOf c.val).pc + off.signExtend 32 * 4).toNat)
    ∧ (∃ (s : State) (c : Fin 32) (a b : BitVec 5) (off : BitVec 16), s.coreFetches c ∧ s.greg c a ≠ s.greg c b ∧
      ((s.tahrOf c.val).pc + off.signExtend 32 * 4).toNat < 0x200000)
    ∧ (∃ (s : State) (c : Fin 32) (a b : BitVec 5) (off : BitVec 16), s.coreFetches c ∧ ¬(s.greg c a ≠ s.greg c b))
    ∧ (∃ (s : State) (c : Fin 32) (a b : BitVec 5) (off : BitVec 16), s.coreFetches c ∧ (s.tahrOf c.val).hnd = false ∧
      s.greg c a ≠ s.greg c b ∧ 0x200000 ≤ ((s.tahrOf c.val).pc + off.signExtend 32 * 4).toNat)
    ∧ (∃ (s : State) (c : Fin 32) (a b : BitVec 5) (off : BitVec 16), s.coreFetches c ∧ (s.greg c a).toInt < (s.greg c
      b).toInt ∧ ((s.tahrOf c.val).pc + off.signExtend 32 * 4).toNat < 0x200000)
    ∧ (∃ (s : State) (c : Fin 32) (a b : BitVec 5) (off : BitVec 16), s.coreFetches c ∧ ¬((s.greg c a).toInt < (s.greg c
      b).toInt))
    ∧ (∃ (s : State) (c : Fin 32) (a b : BitVec 5) (off : BitVec 16), s.coreFetches c ∧ (s.tahrOf c.val).hnd = false ∧
      (s.greg c a).toInt < (s.greg c b).toInt ∧ 0x200000 ≤ ((s.tahrOf c.val).pc + off.signExtend 32 * 4).toNat)
    ∧ (∃ (s : State) (c : Fin 32) (a b : BitVec 5) (off : BitVec 16), s.coreFetches c ∧ (s.greg c b).toInt ≤ (s.greg c
      a).toInt ∧ ((s.tahrOf c.val).pc + off.signExtend 32 * 4).toNat < 0x200000)
    ∧ (∃ (s : State) (c : Fin 32) (a b : BitVec 5) (off : BitVec 16), s.coreFetches c ∧ ¬((s.greg c b).toInt ≤ (s.greg c
      a).toInt))
    ∧ (∃ (s : State) (c : Fin 32) (a b : BitVec 5) (off : BitVec 16), s.coreFetches c ∧ (s.tahrOf c.val).hnd = false ∧
      (s.greg c b).toInt ≤ (s.greg c a).toInt ∧ 0x200000 ≤ ((s.tahrOf c.val).pc + off.signExtend 32 * 4).toNat)
    ∧ (∃ (s : State) (c : Fin 32) (a b : BitVec 5) (off : BitVec 16), s.coreFetches c ∧ (s.greg c a).toNat < (s.greg c
      b).toNat ∧ ((s.tahrOf c.val).pc + off.signExtend 32 * 4).toNat < 0x200000)
    ∧ (∃ (s : State) (c : Fin 32) (a b : BitVec 5) (off : BitVec 16), s.coreFetches c ∧ ¬((s.greg c a).toNat < (s.greg c
      b).toNat))
    ∧ (∃ (s : State) (c : Fin 32) (a b : BitVec 5) (off : BitVec 16), s.coreFetches c ∧ (s.tahrOf c.val).hnd = false ∧
      (s.greg c a).toNat < (s.greg c b).toNat ∧ 0x200000 ≤ ((s.tahrOf c.val).pc + off.signExtend 32 * 4).toNat)
    ∧ (∃ (s : State) (c : Fin 32) (a b : BitVec 5) (off : BitVec 16), s.coreFetches c ∧ (s.greg c b).toNat ≤ (s.greg c
      a).toNat ∧ ((s.tahrOf c.val).pc + off.signExtend 32 * 4).toNat < 0x200000)
    ∧ (∃ (s : State) (c : Fin 32) (a b : BitVec 5) (off : BitVec 16), s.coreFetches c ∧ ¬((s.greg c b).toNat ≤ (s.greg c
      a).toNat))
    ∧ (∃ (s : State) (c : Fin 32) (a b : BitVec 5) (off : BitVec 16), s.coreFetches c ∧ (s.tahrOf c.val).hnd = false ∧
      (s.greg c b).toNat ≤ (s.greg c a).toNat ∧ 0x200000 ≤ ((s.tahrOf c.val).pc + off.signExtend 32 * 4).toNat)
    ∧ (∃ (s : State) (c : Fin 32) (off : BitVec 26), s.coreFetches c ∧ ((s.tahrOf c.val).pc + off.signExtend 32 *
      4).toNat < 0x200000)
    ∧ (∃ (s : State) (c : Fin 32) (off : BitVec 26), s.coreFetches c ∧ (s.tahrOf c.val).hnd = false ∧ 0x200000 ≤
      ((s.tahrOf c.val).pc + off.signExtend 32 * 4).toNat)
    ∧ (∃ (s : State) (c : Fin 32) (a b : BitVec 5), s.coreFetches c ∧ (s.greg c a).toNat % 4 = 0 ∧ (s.greg c a).toNat <
      0x200000)
    ∧ (∃ (s : State) (c : Fin 32) (a b : BitVec 5), s.coreFetches c ∧ (s.tahrOf c.val).hnd = false ∧ (s.greg c a).toNat
      % 4 ≠ 0)
    ∧ (∃ (s : State) (c : Fin 32) (a b : BitVec 5), s.coreFetches c ∧ (s.tahrOf c.val).hnd = false ∧ (s.greg c a).toNat
      % 4 = 0 ∧ 0x200000 ≤ (s.greg c a).toNat)
    ∧ (∃ (s : State) (c : Fin 32) (d a b : BitVec 5), s.coreFetches c ∧ (s.greg c a).toNat % 4 = 0 ∧ (s.greg c a).toNat
      < 0x200000)
    ∧ (∃ (s : State) (c : Fin 32) (d a b : BitVec 5), s.coreFetches c ∧ (s.tahrOf c.val).hnd = false ∧ (s.greg c
      a).toNat % 4 ≠ 0)
    ∧ (∃ (s : State) (c : Fin 32) (d a b : BitVec 5), s.coreFetches c ∧ (s.tahrOf c.val).hnd = false ∧ (s.greg c
      a).toNat % 4 = 0 ∧ 0x200000 ≤ (s.greg c a).toNat)
    ∧ (∃ (s : State) (c : Fin 32) (d a b sh : BitVec 5), s.coreFetches c ∧ (s.tahrOf c.val).hnd = false ∧ (d ≠ 0 ∨ sh ≠
      0)) :=
  ⟨⟨C, 3, 5, 1, 0xFFFE, by decide +kernel⟩,
   ⟨C, 3, 5, 0, 0xFFFE, by decide +kernel⟩,
   ⟨C, 3, 5, 1, 0xFFFE, by decide +kernel⟩,
   ⟨C, 3, 3, 3, 0xFFFE, by decide +kernel⟩,
   ⟨C, 3, 3, 1, 0xFFFE, by decide +kernel⟩,
   ⟨C, 3, 3, 3, 0x8000, by decide +kernel⟩,
   ⟨C, 3, 3, 1, 0xFFFE, by decide +kernel⟩,
   ⟨C, 3, 3, 3, 0xFFFE, by decide +kernel⟩,
   ⟨C, 3, 3, 1, 0x8000, by decide +kernel⟩,
   ⟨C, 3, 1, 3, 0xFFFE, by decide +kernel⟩,
   ⟨C, 3, 3, 1, 0xFFFE, by decide +kernel⟩,
   ⟨C, 3, 1, 3, 0x8000, by decide +kernel⟩,
   ⟨C, 3, 3, 1, 0xFFFE, by decide +kernel⟩,
   ⟨C, 3, 1, 3, 0xFFFE, by decide +kernel⟩,
   ⟨C, 3, 3, 1, 0x8000, by decide +kernel⟩,
   ⟨C, 3, 3, 1, 0xFFFE, by decide +kernel⟩,
   ⟨C, 3, 1, 3, 0xFFFE, by decide +kernel⟩,
   ⟨C, 3, 3, 1, 0x8000, by decide +kernel⟩,
   ⟨C, 3, 1, 3, 0xFFFE, by decide +kernel⟩,
   ⟨C, 3, 3, 1, 0xFFFE, by decide +kernel⟩,
   ⟨C, 3, 1, 3, 0x8000, by decide +kernel⟩,
   ⟨C, 3, 5, by decide +kernel⟩,
   ⟨C, 3, 0x2000000, by decide +kernel⟩,
   ⟨C, 3, 7, 0, by decide +kernel⟩,
   ⟨C, 3, 3, 0, by decide +kernel⟩,
   ⟨C, 3, 9, 0, by decide +kernel⟩,
   ⟨C, 3, 7, 7, 0, by decide +kernel⟩,
   ⟨C, 3, 7, 3, 0, by decide +kernel⟩,
   ⟨C, 3, 7, 9, 0, by decide +kernel⟩,
   ⟨C, 3, 1, 7, 0, 0, by decide +kernel⟩⟩

/-- States and operands that meet the hypotheses of TahrLoadsAndStores, clause by clause. -/
theorem witness_TahrLoadsAndStores :
    (∃ (s : State) (c : Fin 32) (t a : BitVec 5) (mode : BitVec 3) (f : BitVec 13) (ea : W32) (wb : Option W32),
      s.coreFetches c ∧ memReserved true t a mode f = false ∧ (s.tahrOf c.val).address a mode f = (ea, wb) ∧ 0x10000000
      ≤ ea.toNat ∧ ea.toNat < 0x10040000 ∧ s.coreMark c.val ea.toNat = .clean)
    ∧ (∃ (s : State) (c : Fin 32) (t a : BitVec 5) (mode : BitVec 3) (f : BitVec 13) (ea : W32) (wb : Option W32),
      s.coreFetches c ∧ memReserved true t a mode f = false ∧ (s.tahrOf c.val).address a mode f = (ea, wb) ∧ ((s.awake
      c).coreLoad c.val ea.toNat 1).1.isNone = true)
    ∧ (∃ (s : State) (c : Fin 32) (t a : BitVec 5) (mode : BitVec 3) (f : BitVec 13) (ea : W32) (wb : Option W32) (cause
      : Nat), s.coreFetches c ∧ (s.tahrOf c.val).hnd = false ∧ memReserved true t a mode f = false ∧ (s.tahrOf
      c.val).address a mode f = (ea, wb) ∧ ((s.awake c).coreLoad c.val ea.toNat 1).1 = some cause)
    ∧ (∃ (s : State) (c : Fin 32) (t a : BitVec 5) (mode : BitVec 3) (f : BitVec 13), s.coreFetches c ∧ (s.tahrOf
      c.val).hnd = false ∧ memReserved true t a mode f = true)
    ∧ (∃ (s : State) (c : Fin 32) (t a : BitVec 5) (mode : BitVec 3) (f : BitVec 13) (ea : W32) (wb : Option W32),
      s.coreFetches c ∧ memReserved true t a mode f = false ∧ (s.tahrOf c.val).address a mode f = (ea, wb) ∧ ea.toNat %
      2 = 0 ∧ 0x10000000 ≤ ea.toNat ∧ ea.toNat < 0x10040000 ∧ s.coreMark c.val ea.toNat = .clean)
    ∧ (∃ (s : State) (c : Fin 32) (t a : BitVec 5) (mode : BitVec 3) (f : BitVec 13) (ea : W32) (wb : Option W32),
      s.coreFetches c ∧ memReserved true t a mode f = false ∧ (s.tahrOf c.val).address a mode f = (ea, wb) ∧ ea.toNat %
      2 = 0 ∧ ((s.awake c).coreLoad c.val ea.toNat 2).1.isNone = true)
    ∧ (∃ (s : State) (c : Fin 32) (t a : BitVec 5) (mode : BitVec 3) (f : BitVec 13) (ea : W32) (wb : Option W32) (cause
      : Nat), s.coreFetches c ∧ (s.tahrOf c.val).hnd = false ∧ memReserved true t a mode f = false ∧ (s.tahrOf
      c.val).address a mode f = (ea, wb) ∧ ea.toNat % 2 = 0 ∧ ((s.awake c).coreLoad c.val ea.toNat 2).1 = some cause)
    ∧ (∃ (s : State) (c : Fin 32) (t a : BitVec 5) (mode : BitVec 3) (f : BitVec 13) (ea : W32) (wb : Option W32),
      s.coreFetches c ∧ (s.tahrOf c.val).hnd = false ∧ memReserved true t a mode f = false ∧ (s.tahrOf c.val).address a
      mode f = (ea, wb) ∧ ea.toNat % 2 ≠ 0)
    ∧ (∃ (s : State) (c : Fin 32) (t a : BitVec 5) (mode : BitVec 3) (f : BitVec 13) (ea : W32) (wb : Option W32),
      s.coreFetches c ∧ memReserved true t a mode f = false ∧ (s.tahrOf c.val).address a mode f = (ea, wb) ∧ ea.toNat %
      4 = 0 ∧ 0x10000000 ≤ ea.toNat ∧ ea.toNat < 0x10040000 ∧ s.coreMark c.val ea.toNat = .clean)
    ∧ (∃ (s : State) (c : Fin 32) (t a : BitVec 5) (mode : BitVec 3) (f : BitVec 13) (ea : W32) (wb : Option W32),
      s.coreFetches c ∧ memReserved true t a mode f = false ∧ (s.tahrOf c.val).address a mode f = (ea, wb) ∧ ea.toNat %
      4 = 0 ∧ ((s.awake c).coreLoad c.val ea.toNat 4).1.isNone = true)
    ∧ (∃ (s : State) (c : Fin 32) (t a : BitVec 5) (mode : BitVec 3) (f : BitVec 13) (ea : W32) (wb : Option W32) (cause
      : Nat), s.coreFetches c ∧ (s.tahrOf c.val).hnd = false ∧ memReserved true t a mode f = false ∧ (s.tahrOf
      c.val).address a mode f = (ea, wb) ∧ ea.toNat % 4 = 0 ∧ ((s.awake c).coreLoad c.val ea.toNat 4).1 = some cause)
    ∧ (∃ (s : State) (c : Fin 32) (t a : BitVec 5) (mode : BitVec 3) (f : BitVec 13) (ea : W32) (wb : Option W32),
      s.coreFetches c ∧ (s.tahrOf c.val).hnd = false ∧ memReserved true t a mode f = false ∧ (s.tahrOf c.val).address a
      mode f = (ea, wb) ∧ ea.toNat % 4 ≠ 0)
    ∧ (∃ (s : State) (c : Fin 32) (ea : W32), (s.tahrOf c.val).target ea.toNat = .none)
    ∧ (∃ (s : State) (c : Fin 32) (t a : BitVec 5) (mode : BitVec 3) (f : BitVec 13) (ea : W32) (wb : Option W32),
      s.coreFetches c ∧ memReserved false t a mode f = false ∧ (s.tahrOf c.val).address a mode f = (ea, wb) ∧ 0x10000000
      ≤ ea.toNat ∧ ea.toNat < 0x10040000)
    ∧ (∃ (s : State) (c : Fin 32) (t a : BitVec 5) (mode : BitVec 3) (f : BitVec 13) (ea : W32) (wb : Option W32) (o :
      Nat), s.coreFetches c ∧ memReserved false t a mode f = false ∧ (s.tahrOf c.val).address a mode f = (ea, wb) ∧
      0x10000000 ≤ ea.toNat ∧ ea.toNat < 0x10040000 ∧ (o < ea.toNat - 0x10000000 ∨ ea.toNat - 0x10000000 + 1 ≤ o))
    ∧ (∃ (s : State) (c : Fin 32) (t a : BitVec 5) (mode : BitVec 3) (f : BitVec 13) (ea : W32) (wb : Option W32) (dv :
      Nat), s.coreFetches c ∧ memReserved false t a mode f = false ∧ (s.tahrOf c.val).address a mode f = (ea, wb) ∧
      (s.tahrOf c.val).target ea.toNat = .far dv ∧ inHbm dv 1 = true ∧ s.bit CKP_CTL CKP_CTL_EN = false)
    ∧ (∃ (s : State) (c : Fin 32) (t a : BitVec 5) (mode : BitVec 3) (f : BitVec 13) (ea : W32) (wb : Option W32),
      s.coreFetches c ∧ (s.tahrOf c.val).hnd = false ∧ memReserved false t a mode f = false ∧ (s.tahrOf c.val).address a
      mode f = (ea, wb) ∧ ((s.tahrOf c.val).target ea.toNat = .ctrl ∨ (s.tahrOf c.val).target ea.toNat = .none))
    ∧ (∃ (s : State) (c : Fin 32) (t a : BitVec 5) (mode : BitVec 3) (f : BitVec 13) (ea : W32) (wb : Option W32) (off :
      Nat), s.coreFetches c ∧ (s.tahrOf c.val).hnd = false ∧ memReserved false t a mode f = false ∧ (s.tahrOf
      c.val).address a mode f = (ea, wb) ∧ (s.tahrOf c.val).target ea.toNat = .regs off)
    ∧ (∃ (s : State) (c : Fin 32) (t a : BitVec 5) (mode : BitVec 3) (f : BitVec 13) (ea : W32) (wb : Option W32),
      s.coreFetches c ∧ memReserved false t a mode f = false ∧ (s.tahrOf c.val).address a mode f = (ea, wb) ∧ ((s.awake
      c).coreStore c.val ea.toNat (leBytes 1 (s.greg c t).toNat)).1 = false)
    ∧ (∃ (s : State) (c : Fin 32) (t a : BitVec 5) (mode : BitVec 3) (f : BitVec 13) (ea : W32) (wb : Option W32),
      s.coreFetches c ∧ (s.tahrOf c.val).hnd = false ∧ memReserved false t a mode f = false ∧ (s.tahrOf c.val).address a
      mode f = (ea, wb) ∧ ((s.awake c).coreStore c.val ea.toNat (leBytes 1 (s.greg c t).toNat)).1 = true)
    ∧ (∃ (s : State) (c : Fin 32) (t a : BitVec 5) (mode : BitVec 3) (f : BitVec 13), s.coreFetches c ∧ (s.tahrOf
      c.val).hnd = false ∧ memReserved false t a mode f = true)
    ∧ (∃ (s : State) (c : Fin 32) (t a : BitVec 5) (mode : BitVec 3) (f : BitVec 13) (ea : W32) (wb : Option W32),
      s.coreFetches c ∧ memReserved false t a mode f = false ∧ (s.tahrOf c.val).address a mode f = (ea, wb) ∧ ea.toNat %
      2 = 0 ∧ 0x10000000 ≤ ea.toNat ∧ ea.toNat < 0x10040000)
    ∧ (∃ (s : State) (c : Fin 32) (t a : BitVec 5) (mode : BitVec 3) (f : BitVec 13) (ea : W32) (wb : Option W32) (o :
      Nat), s.coreFetches c ∧ memReserved false t a mode f = false ∧ (s.tahrOf c.val).address a mode f = (ea, wb) ∧
      ea.toNat % 2 = 0 ∧ 0x10000000 ≤ ea.toNat ∧ ea.toNat < 0x10040000 ∧ (o < ea.toNat - 0x10000000 ∨ ea.toNat -
      0x10000000 + 2 ≤ o))
    ∧ (∃ (s : State) (c : Fin 32) (t a : BitVec 5) (mode : BitVec 3) (f : BitVec 13) (ea : W32) (wb : Option W32) (dv :
      Nat), s.coreFetches c ∧ memReserved false t a mode f = false ∧ (s.tahrOf c.val).address a mode f = (ea, wb) ∧
      ea.toNat % 2 = 0 ∧ (s.tahrOf c.val).target ea.toNat = .far dv ∧ inHbm dv 2 = true ∧ s.bit CKP_CTL CKP_CTL_EN =
      false)
    ∧ (∃ (s : State) (c : Fin 32) (t a : BitVec 5) (mode : BitVec 3) (f : BitVec 13) (ea : W32) (wb : Option W32),
      s.coreFetches c ∧ (s.tahrOf c.val).hnd = false ∧ memReserved false t a mode f = false ∧ (s.tahrOf c.val).address a
      mode f = (ea, wb) ∧ ea.toNat % 2 = 0 ∧ ((s.tahrOf c.val).target ea.toNat = .ctrl ∨ (s.tahrOf c.val).target
      ea.toNat = .none))
    ∧ (∃ (s : State) (c : Fin 32) (t a : BitVec 5) (mode : BitVec 3) (f : BitVec 13) (ea : W32) (wb : Option W32) (off :
      Nat), s.coreFetches c ∧ (s.tahrOf c.val).hnd = false ∧ memReserved false t a mode f = false ∧ (s.tahrOf
      c.val).address a mode f = (ea, wb) ∧ ea.toNat % 2 = 0 ∧ (s.tahrOf c.val).target ea.toNat = .regs off)
    ∧ (∃ (s : State) (c : Fin 32) (t a : BitVec 5) (mode : BitVec 3) (f : BitVec 13) (ea : W32) (wb : Option W32),
      s.coreFetches c ∧ memReserved false t a mode f = false ∧ (s.tahrOf c.val).address a mode f = (ea, wb) ∧ ea.toNat %
      2 = 0 ∧ ((s.awake c).coreStore c.val ea.toNat (leBytes 2 (s.greg c t).toNat)).1 = false)
    ∧ (∃ (s : State) (c : Fin 32) (t a : BitVec 5) (mode : BitVec 3) (f : BitVec 13) (ea : W32) (wb : Option W32),
      s.coreFetches c ∧ (s.tahrOf c.val).hnd = false ∧ memReserved false t a mode f = false ∧ (s.tahrOf c.val).address a
      mode f = (ea, wb) ∧ ea.toNat % 2 = 0 ∧ ((s.awake c).coreStore c.val ea.toNat (leBytes 2 (s.greg c t).toNat)).1 =
      true)
    ∧ (∃ (s : State) (c : Fin 32) (t a : BitVec 5) (mode : BitVec 3) (f : BitVec 13) (ea : W32) (wb : Option W32),
      s.coreFetches c ∧ (s.tahrOf c.val).hnd = false ∧ memReserved false t a mode f = false ∧ (s.tahrOf c.val).address a
      mode f = (ea, wb) ∧ ea.toNat % 2 ≠ 0)
    ∧ (∃ (s : State) (c : Fin 32) (t a : BitVec 5) (mode : BitVec 3) (f : BitVec 13) (ea : W32) (wb : Option W32),
      s.coreFetches c ∧ memReserved false t a mode f = false ∧ (s.tahrOf c.val).address a mode f = (ea, wb) ∧ ea.toNat %
      4 = 0 ∧ 0x10000000 ≤ ea.toNat ∧ ea.toNat < 0x10040000)
    ∧ (∃ (s : State) (c : Fin 32) (t a : BitVec 5) (mode : BitVec 3) (f : BitVec 13) (ea : W32) (wb : Option W32) (o :
      Nat), s.coreFetches c ∧ memReserved false t a mode f = false ∧ (s.tahrOf c.val).address a mode f = (ea, wb) ∧
      ea.toNat % 4 = 0 ∧ 0x10000000 ≤ ea.toNat ∧ ea.toNat < 0x10040000 ∧ (o < ea.toNat - 0x10000000 ∨ ea.toNat -
      0x10000000 + 4 ≤ o))
    ∧ (∃ (s : State) (c : Fin 32) (t a : BitVec 5) (mode : BitVec 3) (f : BitVec 13) (ea : W32) (wb : Option W32) (dv :
      Nat), s.coreFetches c ∧ memReserved false t a mode f = false ∧ (s.tahrOf c.val).address a mode f = (ea, wb) ∧
      ea.toNat % 4 = 0 ∧ (s.tahrOf c.val).target ea.toNat = .far dv ∧ inHbm dv 4 = true ∧ s.bit CKP_CTL CKP_CTL_EN =
      false)
    ∧ (∃ (s : State) (c : Fin 32) (t a : BitVec 5) (mode : BitVec 3) (f : BitVec 13) (ea : W32) (wb : Option W32),
      s.coreFetches c ∧ (s.tahrOf c.val).hnd = false ∧ memReserved false t a mode f = false ∧ (s.tahrOf c.val).address a
      mode f = (ea, wb) ∧ ea.toNat % 4 = 0 ∧ ((s.tahrOf c.val).target ea.toNat = .ctrl ∨ (s.tahrOf c.val).target
      ea.toNat = .none))
    ∧ (∃ (s : State) (c : Fin 32) (t a : BitVec 5) (mode : BitVec 3) (f : BitVec 13) (ea : W32) (wb : Option W32),
      s.coreFetches c ∧ memReserved false t a mode f = false ∧ (s.tahrOf c.val).address a mode f = (ea, wb) ∧ ea.toNat %
      4 = 0 ∧ ((s.awake c).coreStore c.val ea.toNat (leBytes 4 (s.greg c t).toNat)).1 = false)
    ∧ (∃ (s : State) (c : Fin 32) (t a : BitVec 5) (mode : BitVec 3) (f : BitVec 13) (ea : W32) (wb : Option W32),
      s.coreFetches c ∧ (s.tahrOf c.val).hnd = false ∧ memReserved false t a mode f = false ∧ (s.tahrOf c.val).address a
      mode f = (ea, wb) ∧ ea.toNat % 4 = 0 ∧ ((s.awake c).coreStore c.val ea.toNat (leBytes 4 (s.greg c t).toNat)).1 =
      true)
    ∧ (∃ (s : State) (c : Fin 32) (t a : BitVec 5) (mode : BitVec 3) (f : BitVec 13) (ea : W32) (wb : Option W32),
      s.coreFetches c ∧ (s.tahrOf c.val).hnd = false ∧ memReserved false t a mode f = false ∧ (s.tahrOf c.val).address a
      mode f = (ea, wb) ∧ ea.toNat % 4 ≠ 0) :=
  ⟨⟨C, 3, 11, 4, 0, 0, 0x10000010, none, by decide +kernel⟩,
   ⟨far, 3, 11, 6, 1, 4, 0x44000008, (some 0x4400000C), by decide +kernel⟩,
   ⟨C, 3, 11, 9, 0, 0, 0x400000, none, 5, by decide +kernel⟩,
   ⟨C, 3, 4, 4, 1, 4, by decide +kernel⟩,
   ⟨C, 3, 11, 4, 0, 0, 0x10000010, none, by decide +kernel⟩,
   ⟨far, 3, 11, 6, 1, 4, 0x44000008, (some 0x4400000C), by decide +kernel⟩,
   ⟨C, 3, 11, 9, 0, 0, 0x400000, none, 5, by decide +kernel⟩,
   ⟨C, 3, 11, 5, 0, 1, 0x10000013, none, by decide +kernel⟩,
   ⟨C, 3, 11, 4, 0, 0, 0x10000010, none, by decide +kernel⟩,
   ⟨far, 3, 11, 6, 1, 4, 0x44000008, (some 0x4400000C), by decide +kernel⟩,
   ⟨C, 3, 11, 9, 0, 0, 0x400000, none, 5, by decide +kernel⟩,
   ⟨C, 3, 11, 5, 0, 1, 0x10000013, none, by decide +kernel⟩,
   ⟨C, 3, 0x400000, by decide +kernel⟩,
   ⟨C, 3, 1, 4, 2, 4, 0x1000000C, (some 0x1000000C), by decide +kernel⟩,
   ⟨C, 3, 1, 4, 2, 4, 0x1000000C, (some 0x1000000C), 16, by decide +kernel⟩,
   ⟨C, 3, 1, 6, 0, 0, 0x44000008, none, 8, by decide +kernel⟩,
   ⟨C, 3, 1, 10, 0, 0, 0x1000, none, by decide +kernel⟩,
   ⟨C, 3, 1, 8, 0, 0, 0x20000010, none, 0x10, by decide +kernel⟩,
   ⟨far, 3, 1, 6, 1, 4, 0x44000008, (some 0x4400000C), by decide +kernel⟩,
   ⟨C, 3, 1, 9, 0, 0, 0x400000, none, by decide +kernel⟩,
   ⟨C, 3, 1, 4, 5, 0, by decide +kernel⟩,
   ⟨C, 3, 1, 4, 2, 4, 0x1000000C, (some 0x1000000C), by decide +kernel⟩,
   ⟨C, 3, 1, 4, 2, 4, 0x1000000C, (some 0x1000000C), 16, by decide +kernel⟩,
   ⟨C, 3, 1, 6, 0, 0, 0x44000008, none, 8, by decide +kernel⟩,
   ⟨C, 3, 1, 10, 0, 0, 0x1000, none, by decide +kernel⟩,
   ⟨C, 3, 1, 8, 0, 0, 0x20000010, none, 0x10, by decide +kernel⟩,
   ⟨far, 3, 1, 6, 1, 4, 0x44000008, (some 0x4400000C), by decide +kernel⟩,
   ⟨C, 3, 1, 9, 0, 0, 0x400000, none, by decide +kernel⟩,
   ⟨C, 3, 1, 5, 0, 1, 0x10000013, none, by decide +kernel⟩,
   ⟨C, 3, 1, 4, 2, 4, 0x1000000C, (some 0x1000000C), by decide +kernel⟩,
   ⟨C, 3, 1, 4, 2, 4, 0x1000000C, (some 0x1000000C), 16, by decide +kernel⟩,
   ⟨C, 3, 1, 6, 0, 0, 0x44000008, none, 8, by decide +kernel⟩,
   ⟨C, 3, 1, 10, 0, 0, 0x1000, none, by decide +kernel⟩,
   ⟨far, 3, 1, 6, 1, 4, 0x44000008, (some 0x4400000C), by decide +kernel⟩,
   ⟨C, 3, 1, 9, 0, 0, 0x400000, none, by decide +kernel⟩,
   ⟨C, 3, 1, 5, 0, 1, 0x10000013, none, by decide +kernel⟩⟩

/-- States and operands that meet the hypotheses of TahrAtomicOperations, clause by clause. -/
theorem witness_TahrAtomicOperations :
    (∃ (s : State) (c : Fin 32) (d a b : BitVec 5), s.coreFetches c ∧ (s.greg c a).toNat % 4 = 0 ∧ 0x10000000 ≤ (s.greg
      c a).toNat ∧ (s.greg c a).toNat < 0x10040000 ∧ s.coreMark c.val (s.greg c a).toNat = .clean)
    ∧ (∃ (s : State) (c : Fin 32) (d a b : BitVec 5) (dv : Nat), s.coreFetches c ∧ (s.greg c a).toNat % 4 = 0 ∧
      (s.tahrOf c.val).target (s.greg c a).toNat = .far dv ∧ inHbm dv 4 = true ∧ s.bit CKP_CTL CKP_CTL_EN = false ∧
      ((s.awake c).coreLoad c.val (s.greg c a).toNat 4).1.isNone = true)
    ∧ (∃ (s : State) (c : Fin 32) (d a b : BitVec 5), s.coreFetches c ∧ (s.tahrOf c.val).hnd = false ∧ (s.greg c
      a).toNat % 4 ≠ 0)
    ∧ (∃ (s : State) (c : Fin 32) (d a b : BitVec 5), s.coreFetches c ∧ (s.tahrOf c.val).hnd = false ∧ (s.greg c
      a).toNat % 4 = 0 ∧ (s.tahrOf c.val).atomicOk (s.greg c a).toNat = false)
    ∧ (∃ (s : State) (c : Fin 32) (d a b : BitVec 5), s.coreFetches c ∧ (s.tahrOf c.val).hnd = false ∧ (s.greg c
      a).toNat % 4 = 0 ∧ (s.tahrOf c.val).atomicOk (s.greg c a).toNat = true ∧ ((s.awake c).coreLoad c.val (s.greg c
      a).toNat 4).1 = some 0x0A)
    ∧ (∃ (s : State) (c : Fin 32) (d a b : BitVec 5) (sh : BitVec 5), s.coreFetches c ∧ (s.tahrOf c.val).hnd = false ∧
      sh ≠ 0) :=
  ⟨⟨C, 3, 11, 4, 1, by decide +kernel⟩,
   ⟨far, 3, 11, 6, 1, 8, by decide +kernel⟩,
   ⟨C, 3, 11, 5, 1, by decide +kernel⟩,
   ⟨C, 3, 11, 8, 1, by decide +kernel⟩,
   ⟨(C.setCoreMark 3 0x10000010 .uncorrected), 3, 11, 4, 1, by decide +kernel⟩,
   ⟨C, 3, 11, 4, 1, 1, by decide +kernel⟩⟩

/-- States and operands that meet the hypotheses of TahrSystemAndExceptions, clause by clause. -/
theorem witness_TahrSystemAndExceptions :
    (∃ (s : State) (c : Fin 32) (d : BitVec 5), s.coreFetches c)
    ∧ (∃ (s : State) (c : Fin 32) (d : BitVec 5) (k : BitVec 12), s.coreFetches c ∧ 16 ≤ k.toNat ∧ k.toNat < 32)
    ∧ (∃ (s : State) (c : Fin 32) (d : BitVec 5) (k : BitVec 12), s.coreFetches c ∧ (s.tahrOf c.val).hnd = false ∧ (11 <
      k.toNat ∧ k.toNat < 16 ∨ 32 ≤ k.toNat))
    ∧ (∃ (s : State) (c : Fin 32) (a : BitVec 5), s.coreFetches c)
    ∧ (∃ (s : State) (c : Fin 32) (a : BitVec 5) (k : BitVec 12), s.coreFetches c ∧ 16 ≤ k.toNat ∧ k.toNat < 32)
    ∧ (∃ (s : State) (c : Fin 32) (a : BitVec 5) (k : BitVec 12), s.coreFetches c ∧ (s.tahrOf c.val).hnd = false ∧ (k =
      0 ∨ k = 7 ∨ k = 8 ∨ 11 < k.toNat ∧ k.toNat < 16 ∨ 32 ≤ k.toNat))
    ∧ (∃ (s : State) (c : Fin 32), s.coreFetches c)
    ∧ (∃ (s : State) (c : Fin 32) (n : BitVec 12), s.coreFetches c ∧ (s.tahrOf c.val).hnd = false)
    ∧ (∃ (s : State) (c : Fin 32), s.coreFetches c ∧ (s.tahrOf c.val).hnd = false ∧ s.scope 0 = false)
    ∧ (∃ (s : State) (c : Fin 32), s.coreFetches c ∧ s.scope 0 = true)
    ∧ (∃ (s : State) (c : Fin 32) (d a : BitVec 5) (n : BitVec 12), s.coreFetches c ∧ (s.tahrOf c.val).hnd = false ∧ (d
      ≠ 0 ∨ a ≠ 0 ∨ n ≠ 0))
    ∧ (∃ (s : State) (c : Fin 32) (n : BitVec 12), s.coreFetches c ∧ (s.tahrOf c.val).hnd = true)
    ∧ (∃ (s : State) (c : Fin 32), s.coreUp c.val = true ∧ (s.tahrOf c.val).evie = true ∧ ((s.tahrOf c.val).events &&&
      (s.tahrOf c.val).evmask) ≠ 0)
    ∧ (∃ (s : State) (c : Fin 32), (s.tahrOf c.val).evie = false ∨ ((s.tahrOf c.val).events &&& (s.tahrOf c.val).evmask)
      = 0)
    ∧ (∃ (s : State) (c : Fin 32), s.coreUp c.val = true ∧ (s.tahrOf c.val).timer ≠ 0 ∧ (s.tahrOf c.val).timer.toNat ≤
      coreCycles (s.clock - (s.tahrOf c.val).timerAt))
    ∧ (∃ (s : State) (c : Fin 32), (s.tahrOf c.val).timer = 0 ∨ coreCycles (s.clock - (s.tahrOf c.val).timerAt) <
      (s.tahrOf c.val).timer.toNat)
    ∧ (∃ (s : State) (c : Fin 32) (n : BitVec 12), s.coreRuns c.val = true ∧ (s.tahrOf c.val).hnd = false ∧ (s.tahrOf
      c.val).pc.toNat % 4 ≠ 0)
    ∧ (∃ (s : State) (c : Fin 32) (n : BitVec 12), s.coreRuns c.val = true ∧ (s.tahrOf c.val).hnd = false ∧ (s.tahrOf
      c.val).pc.toNat % 4 = 0 ∧ 0x200000 ≤ (s.tahrOf c.val).pc.toNat)
    ∧ (∃ (s : State) (c : Fin 32) (n : BitVec 12), s.coreRuns c.val = true ∧ (s.tahrOf c.val).hnd = false ∧ (s.tahrOf
      c.val).pc.toNat % 4 = 0 ∧ (s.tahrOf c.val).pc.toNat < 0x200000 ∧ s.coreMark c.val (s.tahrOf c.val).pc.toNat =
      .uncorrected)
    ∧ (∃ (s : State) (c : Fin 32) (n : BitVec 12), s.coreRuns c.val = true ∧ (s.tahrOf c.val).hnd = false ∧ (s.tahrOf
      c.val).pc.toNat % 4 = 0 ∧ (s.tahrOf c.val).pc.toNat < 0x200000 ∧ s.coreMark c.val (s.tahrOf c.val).pc.toNat =
      .corrected) :=
  ⟨⟨C, 3, 5, by decide +kernel⟩,
   ⟨C, 3, 5, 17, by decide +kernel⟩,
   ⟨C, 3, 5, 12, by decide +kernel⟩,
   ⟨C, 3, 2, by decide +kernel⟩,
   ⟨C, 3, 2, 31, by decide +kernel⟩,
   ⟨C, 3, 2, 7, by decide +kernel⟩,
   ⟨C, 3, by decide +kernel⟩,
   ⟨C, 3, 99, by decide +kernel⟩,
   ⟨C, 3, by decide +kernel⟩,
   ⟨(C.sf SEC_STATUS SEC_STATUS_DEBUG 1), 3, by decide +kernel⟩,
   ⟨C, 3, 0, 1, 0, by decide +kernel⟩,
   ⟨(ex (fun t => {t with cstate := 3})), 3, 5, by decide +kernel⟩,
   ⟨(ex (fun t => {t with events := 7})), 3, by decide +kernel⟩,
   ⟨C, 3, by decide +kernel⟩,
   ⟨(ex (fun t => {t with timer := 23})), 3, by decide +kernel⟩,
   ⟨(ex (fun t => {t with timer := 24})), 3, by decide +kernel⟩,
   ⟨(ex (fun t => {t with pc := 0x102})), 3, 5, by decide +kernel⟩,
   ⟨(ex (fun t => {t with pc := 0x200000})), 3, 5, by decide +kernel⟩,
   ⟨(C.setCoreMark 3 0x100 .uncorrected), 3, 5, by decide +kernel⟩,
   ⟨(C.setCoreMark 3 0x100 .corrected), 3, 5, by decide +kernel⟩⟩

end C18

namespace C19

def rq : SynReq := ⟨.mailbox 0, 3, 2, 7, 0xFFFF, false, none⟩
def qt : Requester := .core 3
def synOn (s : State) : State := ((s.sf DEV_STATUS DEV_STATUS_STAGE 6).sf DEV_ENABLE DEV_ENABLE_EN 1).setMb 0 { Mailbox.reset with session := some ⟨5, false, 0, none⟩ }
def run (s : State) : State := (List.range 32).foldl (fun s k => s.sf (CORE_STATUS k) CORE_STATUS_STATE 1) s
def Y : State := { run (synOn S0) with clock := 10^10 }
def wp (f : Pwr → Pwr) (s : State) : State := { s with pwr := f s.pwr }
def rr (d : Nat) : RailRead := ⟨800, BitVec.ofNat 16 d, true, false, 3⟩
def en (s : State) : State := s.sf PWR_CTL PWR_CTL_EN 1
def lv (s : State) : State := s.wr PWR_LEVELS 0x01234501
def wk : List PwrWork := [⟨3, 5, 6, some 2⟩, ⟨9, 500, 600000000, some 1⟩, ⟨10, 500, 6000, none⟩]
def cls (s : State) : State := wp (fun p => { p with classes := [(3, leBytes 4 5 ++ leBytes 4 6 ++ leBytes 4 7 ++ [0,0,0,0]), (9, leBytes 4 5000 ++ leBytes 4 6000 ++ leBytes 4 7000 ++ [12,25,0,0]), (10, leBytes 4 5000 ++ leBytes 4 6000 ++ leBytes 4 7000 ++ [5,0,0,0])], energy := 10^11, winAt := 10^18 }) s
def xe : TelExport := ⟨5, 9, 77, 100, 60, 1400, 9, 0, 0, 4, 5, 6, []⟩
def E : State := wp (fun p => { p with export_ := some xe }) { Y with chanQ := [⟨1, true, [3]⟩] }
def N (k : String) := k
def nd : List Byte := fit 64 (leBytes 4 3 ++ leBytes 4 14)
def ls (ws : List Nat) : List Byte := fit 64 (ws.flatMap (leBytes 8))
def hd (nt nl nc : Nat) (df : Nat) (ip l4 : Nat) : List Byte := fit 64 (leBytes 4 1 ++ leBytes 1 1 ++ leBytes 1 nt ++ leBytes 1 ip ++ [15,15] ++ leBytes 1 l4 ++ leBytes 2 0 ++ leBytes 2 0 ++ leBytes 2 nl ++ leBytes 2 nc ++ leBytes 2 0 ++ leBytes 4 0 ++ leBytes 8 df)
def bk0 (df : Nat) : PktBank := ⟨hd 0 1 0 df 15 15, [nd], [], [], [], [ls []], [], []⟩
def chn : List Byte := fit 256 (leBytes 4 (1 + 3 * 2 + 5 * 16 + 256 * 9 + 2^20) ++ [42, 14, 34, 0] ++ List.replicate 56 0 ++ (List.range 42).map (fun i => BitVec.ofNat 8 (if i = 14 then 0x45 else i)))
def Ych : State := { Y with pkt := { Y.pkt with banks := [some { bk0 4 with chans := [chn] }, none] } }

/-- States and operands that meet the hypotheses of PowerIsGoverned, clause by clause. -/
theorem witness_PowerIsGoverned :
    (∃ (s : State) (r0 r1 r2 r3 r4 : RailRead) (x : Nat), s.pwr.failed = [] ∧ s.pwr.mv.length = 5 ∧ s.pwr.da.length = 5
      ∧ s.pwr.miss.length = 5 ∧ (∀ r ∈ [r0, r1, r2, r3, r4], r.answered = true ∧ r.fault = false) ∧ (∀ r ∈ [r1, r2, r3,
      r4], r.da.toNat ≤ s.gf PWR_FAST PWR_FAST_ICC_FAST))
    ∧ (∃ (s : State) (r0 r1 r2 r3 r4 : RailRead) (x : Nat), s.pwr.failed = [] ∧ s.pwr.da.length = 5 ∧ (∀ r ∈ [r0, r1,
      r2, r3, r4], r.answered = true ∧ r.fault = false) ∧ s.gf PWR_FAST PWR_FAST_ICC_FAST < r1.da.toNat ∧ (∀ r ∈ [r2,
      r3, r4], r.da.toNat ≤ s.gf PWR_FAST PWR_FAST_ICC_FAST) ∧ s.level 0 ≤ 5 ∧ s.level 1 ≤ 5)
    ∧ (∃ (s : State) (r0 r1 r2 r3 r4 : RailRead) (x : Nat), s.pwr.failed = [] ∧ s.pwr.da.length = 5 ∧ s.pwr.miss[2]? =
      some 2 ∧ (∀ r ∈ [r0, r1, r3, r4], r.answered = true ∧ r.fault = false) ∧ r2.answered = false ∧ (∀ r ∈ [r1, r3,
      r4], r.da.toNat ≤ s.gf PWR_FAST PWR_FAST_ICC_FAST))
    ∧ (∃ (s : State) (q : Requester) (v : W32), coreWrites q = true ∧ s.bit PWR_CTL PWR_CTL_EN = true ∧ s.pwr.forced =
      [] ∧ s.pwr.fastHeld = [])
    ∧ (∃ (s : State) (q : Requester) (v : W32) (d : Nat), d < 8 ∧ s.level d = 5 ∧ (d ∈ s.pwr.forced ∨ d / 2 ∈
      s.pwr.fastHeld))
    ∧ (∃ (s : State) (q : Requester) (v : W32), s.bit PWR_CTL PWR_CTL_EN = false)
    ∧ (∃ (s : State), 156250 ≤ s.clock - s.pwr.budgetAt ∧ 156250 ≤ s.clock - s.pwr.silenceAt ∧ s.pwr.limit * 1000000 <
      (s.pwr.hist.take 100).foldl (· + ·) 0 ∧ (∀ d, d < 8 → s.level d ≤ 5))
    ∧ (∃ (s : State), 156250 ≤ s.clock - s.pwr.budgetAt ∧ 156250 ≤ s.clock - s.pwr.silenceAt ∧ (s.pwr.hist.take
      100).foldl (· + ·) 0 ≤ s.pwr.limit * 1000000)
    ∧ (∃ (s : State), s.clock - s.pwr.budgetAt < 156250)
    ∧ (∃ (s : State) (work : List PwrWork), s.now / 100000 ≠ s.pwr.winAt / 100000 ∧ s.bit PWR_CTL PWR_CTL_EN = true ∧
      s.domainRuns 15 = true)
    ∧ (∃ (s : State), s.now / 100000 ≠ s.pwr.winAt / 100000 ∧ s.bit PWR_CTL PWR_CTL_EN = true ∧ s.domainRuns 15 = true)
    ∧ (∃ (s : State) (work : List PwrWork), s.now / 100000 ≠ s.pwr.winAt / 100000 ∧ s.bit PWR_CTL PWR_CTL_EN = false)
    ∧ (∃ (s : State) (work : List PwrWork), s.now / 100000 = s.pwr.winAt / 100000)
    ∧ (∃ (s : State) (ds : List Byte) (io : Byte), ds.length = 8 ∧ (∀ x ∈ ds, x.toNat < 105) ∧ io.toNat < 115)
    ∧ (∃ (s : State) (ds : List Byte) (io : Byte) (d : Nat), ds.length = 8 ∧ d < 8 ∧ 110 ≤ ((ds[d]?).getD 0).toNat ∧
      s.level d ≤ 5 ∧ d ∉ s.pwr.forced)
    ∧ (∃ (s : State) (ds : List Byte) (io : Byte), 115 ≤ io.toNat)
    ∧ (∃ (s : State) (q : Requester) (v : W32), coreWrites q = true ∧ s.bit PWR_CTL PWR_CTL_EN = false ∧ s.pwr.failed =
      [] ∧ (∀ m ∈ s.pwr.miss, m = 0) ∧ v.toNat / 8 % 8 ≤ 5)
    ∧ (∃ (s : State) (q : Requester) (v : W32), coreWrites q = true ∧ s.bit PWR_CTL PWR_CTL_EN = false ∧ s.pwr.failed ≠
      [])
    ∧ (∃ (s : State) (q : Requester) (v : W32), coreWrites q = true ∧ s.bit PWR_CTL PWR_CTL_EN = false ∧ s.pwr.failed =
      [] ∧ (∀ m ∈ s.pwr.miss, m = 0) ∧ 5 < v.toNat / 8 % 8)
    ∧ (∃ (s : State) (q : Requester) (v : W32), coreWrites q = false)
    ∧ (∃ (s : State) (x : TelExport), s.pwr.export_ = some x ∧ x.periodMs * 156250 ≤ s.clock - x.lastAt ∧ s.domainRuns
      16 = true ∧ s.telDeferred = false ∧ x.queue = [])
    ∧ (∃ (s : State) (x : TelExport), s.pwr.export_ = some x ∧ x.periodMs * 156250 ≤ s.clock - x.lastAt ∧ s.domainRuns
      16 = true)
    ∧ (∃ (s : State) (x : TelExport) (b : Bool), s.pwr.export_ = some x ∧ s.clock - x.lastAt < x.periodMs * 156250)
    ∧ (∃ (s : State) (x : TelExport), s.pwr.export_ = some x ∧ x.templateS * 156250000 ≤ s.clock - x.templateAt ∧
      s.domainRuns 16 = true ∧ s.telDeferred = false)
    ∧ (∃ (s : State) (b : Bool), s.pwr.export_ = none) :=
  ⟨⟨Y, (rr 5), (rr 6), (rr 7), (rr 8), (rr 9), 77, by decide +kernel⟩,
   ⟨(lv Y), (rr 5), (rr 0x961), (rr 7), (rr 8), (rr 9), 77, by decide +kernel⟩,
   ⟨(wp (fun p => { p with miss := [0,0,2,0,0] }) Y), (rr 5), (rr 6), ⟨1,2,false,true,9⟩, (rr 8), (rr 9), 77, by
     decide +kernel⟩,
   ⟨(en (lv Y)), qt, 0x76543210, by decide +kernel⟩,
   ⟨(wp (fun p => { p with forced := [3], fastHeld := [2] }) (en (Y.wr PWR_LEVELS 0x5555555))), qt, 0, 3, by
     decide +kernel⟩,
   ⟨Y, qt, 0, by decide +kernel⟩,
   ⟨(wp (fun p => { p with hist := List.replicate 200 4000001 }) (lv Y)), by decide +kernel⟩,
   ⟨(wp (fun p => { p with hist := List.replicate 200 4000000 }) (lv Y)), by decide +kernel⟩,
   ⟨({ Y with clock := 156249 }), by decide +kernel⟩,
   ⟨(en (cls (lv Y))), wk, by decide +kernel⟩,
   ⟨((en (cls (lv Y))).sf PWR_PACE PWR_PACE_PACE 3), by decide +kernel⟩,
   ⟨(cls (lv Y)), wk, by decide +kernel⟩,
   ⟨Y, wk, by decide +kernel⟩,
   ⟨(wp (fun p => { p with forced := [3] }) Y), [1,2,3,104,5,6,7,8], 114, by decide +kernel⟩,
   ⟨(lv Y), [1,2,3,110,115,6,7,8], 114, 3, by decide +kernel⟩,
   ⟨Y, [1,2,3,104,5,6,7,8], 115, by decide +kernel⟩,
   ⟨Y, qt, 0x8029, by decide +kernel⟩,
   ⟨(wp (fun p => { p with failed := [3] }) Y), qt, 0x8029, by decide +kernel⟩,
   ⟨Y, qt, 0x8030, by decide +kernel⟩,
   ⟨Y, .host, 0x8030, by decide +kernel⟩,
   ⟨E, xe, by decide +kernel⟩,
   ⟨E, xe, by decide +kernel⟩,
   ⟨({ E with clock := 5 }), xe, true, by decide +kernel⟩,
   ⟨E, xe, by decide +kernel⟩,
   ⟨Y, true, by decide +kernel⟩⟩

/-- States and operands that meet the hypotheses of IslandAndPowerRequestsAnswer, clause by clause. -/
theorem witness_IslandAndPowerRequestsAnswer :
    (∃ (s : State) (op : Fin 4) (e : Byte), s.pins.aonInRange = true ∧ op.val ≤ 1 ∧ 8 ≤ e.toNat ∧ e.toNat ≤ 254)
    ∧ (∃ (s : State) (op : Fin 4) (e : Byte), s.pins.aonInRange = true ∧ (2 ≤ op.val ∨ e.toNat < 8 ∨ e.toNat = 255))
    ∧ (∃ (s : State) (op : Fin 4) (e : Byte), s.pins.aonInRange = false)
    ∧ (∃ (s : State), s.pins.aonInRange = true)
    ∧ (∃ (s : State) (ty : Byte), s.pins.aonInRange = true ∧ (ty = 0xFF ∨ ty = 0 ∨ ty = 1 ∨ ty = 0x7E))
    ∧ (∃ (s : State) (ty : Byte), s.pins.aonInRange = true ∧ ty ≠ 0xFF ∧ ty ≠ 0 ∧ ty ≠ 1 ∧ ty ≠ 0x7E)
    ∧ (∃ (s : State) (i : Byte), s.pins.aonInRange = true ∧ i ≠ 0 ∧ i ≠ 0xFF)
    ∧ (∃ (s : State) (i : Byte), s.pins.aonInRange = true ∧ (i = 0 ∨ i = 0xFF))
    ∧ (∃ (s : State) (ty : Byte), s.pins.aonInRange = true ∧ (ty = 0 ∨ ty = 2))
    ∧ (∃ (s : State) (ty : Byte), s.pins.aonInRange = true ∧ ty ≠ 0 ∧ ty ≠ 2)
    ∧ (∃ (s : State) (ty : Byte), s.pins.aonInRange = true ∧ ty = 2)
    ∧ (∃ (s : State) (ty : Byte), s.pins.aonInRange = true ∧ ty = 0)
    ∧ (∃ (s : State) (h : W32) (n : Nat), s.pins.aonInRange = true ∧ n = (if h = 0 then 1 else h.toNat) ∧ n ≤ 27)
    ∧ (∃ (s : State) (h : W32), s.pins.aonInRange = true ∧ 27 < h.toNat)
    ∧ (∃ (s : State) (n : W16), s.pins.aonInRange = true ∧ s.pins.mainInRange = true ∧ 1 ≤ n.toNat ∧ n.toNat ≤ 27)
    ∧ (∃ (s : State) (n : W16), s.pins.aonInRange = true ∧ s.pins.mainInRange = false ∧ 1 ≤ n.toNat ∧ n.toNat ≤ 27)
    ∧ (∃ (s : State) (n : W16), s.pins.aonInRange = true ∧ (n = 0 ∨ 27 < n.toNat))
    ∧ (∃ (s : State) (n : W16), s.pins.aonInRange = true ∧ 3 ≤ n.toNat ∧ n.toNat ≤ 11)
    ∧ (∃ (s : State) (n : W16), s.pins.aonInRange = true ∧ 12 ≤ n.toNat ∧ n.toNat ≤ 17)
    ∧ (∃ (s : State), s.pins.aonInRange = true ∧ s.aon.d3cold = true ∧ s.aon.pmeEn = true)
    ∧ (∃ (s : State), s.pins.aonInRange = true ∧ (s.aon.d3cold = false ∨ s.aon.pmeEn = false))
    ∧ (∃ (s : State) (r : SynReq) (l : W16), s.synRefusal 0x1000 (some 15) r = none ∧ 400 ≤ l.toNat ∧ l.toNat ≤ 850)
    ∧ (∃ (s : State) (r : SynReq) (l : W16), s.synRefusal 0x1000 (some 15) r = none ∧ (l.toNat < 400 ∨ 850 < l.toNat))
    ∧ (∃ (s : State) (r : SynReq), s.synRefusal 0x1001 (some 15) r = none)
    ∧ (∃ (s : State) (r : SynReq) (c : Fin 64) (b : List Byte), s.synRefusal 0x1002 (some 15) r = none ∧ b.length = 16 ∧
      (pcRank b ≠ 0 ∨ pcDemote b = false) ∧ pcShare b ≤ 100)
    ∧ (∃ (s : State) (r : SynReq) (c : Fin 64) (b : List Byte), s.synRefusal 0x1002 (some 15) r = none ∧ b.length = 16 ∧
      (pcRank b = 0 ∧ pcDemote b = true ∨ 100 < pcShare b))
    ∧ (∃ (s : State) (r : SynReq) (l : Byte), s.synRefusal 0x1003 (some 15) r = none ∧ l.toNat ≤ 5)
    ∧ (∃ (s : State) (r : SynReq) (l : Byte), s.synRefusal 0x1003 (some 15) r = none ∧ 5 < l.toNat)
    ∧ (∃ (s : State) (r : SynReq) (p : ExportSpec), s.synRefusal 0x1004 (some 16) r = none ∧ p.enable = false)
    ∧ (∃ (s : State) (r : SynReq) (p : ExportSpec), s.synRefusal 0x1004 (some 16) r = none ∧ p.enable = true ∧ 10 ≤
      p.periodMs.getD 100 ∧ p.periodMs.getD 100 ≤ 10000 ∧ 1 ≤ p.templateS.getD 60 ∧ p.templateS.getD 60 ≤ 3600 ∧ 512 ≤
      p.mtu.getD 1400 ∧ p.mtu.getD 1400 ≤ 9000 ∧ (s.channel p.channel.toNat).isSome = true ∧ s.pwr.export_ = none)
    ∧ (∃ (s : State) (r : SynReq) (p : ExportSpec), s.synRefusal 0x1004 (some 16) r = none ∧ p.enable = true ∧
      (p.periodMs.getD 100 < 10 ∨ 10000 < p.periodMs.getD 100 ∨ p.templateS.getD 60 < 1 ∨ 3600 < p.templateS.getD 60 ∨
      p.mtu.getD 1400 < 512 ∨ 9000 < p.mtu.getD 1400))
    ∧ (∃ (s : State) (r : SynReq) (p : ExportSpec), s.synRefusal 0x1004 (some 16) r = none ∧ p.enable = true ∧
      p.periodMs = none ∧ p.templateS = none ∧ p.mtu = none ∧ s.channel p.channel.toNat = none)
    ∧ (∃ (s : State) (r : SynReq), s.synRefusal 0x1005 (some 16) r = none ∧ s.pwr.export_ = none)
    ∧ (∃ (s : State) (r : SynReq) (x : TelExport), s.synRefusal 0x1005 (some 16) r = none ∧ s.pwr.export_ = some x) :=
  ⟨⟨Y, 1, 9, by decide +kernel⟩,
   ⟨Y, 1, 255, by decide +kernel⟩,
   ⟨({ Y with pins := { Y.pins with aonInRange := false } }), 1, 255, by decide +kernel⟩,
   ⟨Y, by decide +kernel⟩,
   ⟨Y, 0x7E, by decide +kernel⟩,
   ⟨Y, 0x7D, by decide +kernel⟩,
   ⟨Y, 9, by decide +kernel⟩,
   ⟨Y, 0, by decide +kernel⟩,
   ⟨Y, 2, by decide +kernel⟩,
   ⟨Y, 1, by decide +kernel⟩,
   ⟨Y, 2, by decide +kernel⟩,
   ⟨Y, 0, by decide +kernel⟩,
   ⟨Y, 0, 1, by decide +kernel⟩,
   ⟨Y, 28, by decide +kernel⟩,
   ⟨Y, 23, by decide +kernel⟩,
   ⟨({ Y with pins := { Y.pins with mainInRange := false } }), 23, by decide +kernel⟩,
   ⟨Y, 28, by decide +kernel⟩,
   ⟨Y, 11, by decide +kernel⟩,
   ⟨Y, 12, by decide +kernel⟩,
   ⟨({ Y with aon := ⟨1,2,true,true⟩ }), by decide +kernel⟩,
   ⟨({ Y with aon := ⟨1,2,true,false⟩ }), by decide +kernel⟩,
   ⟨Y, rq, 850, by decide +kernel⟩,
   ⟨Y, rq, 851, by decide +kernel⟩,
   ⟨(cls Y), rq, by decide +kernel⟩,
   ⟨(cls Y), rq, 9, (List.replicate 12 5 ++ [1,100,0,0]), by decide +kernel⟩,
   ⟨(cls Y), rq, 9, (List.replicate 12 5 ++ [8,100,0,0]), by decide +kernel⟩,
   ⟨(cls Y), rq, 5, by decide +kernel⟩,
   ⟨(cls Y), rq, 6, by decide +kernel⟩,
   ⟨E, rq, ⟨false, 5, 1, 2, none, none, none⟩, by decide +kernel⟩,
   ⟨Ych, rq, ⟨true, 0, 1, 2, none, some 1, some 9000⟩, by decide +kernel⟩,
   ⟨Y, rq, ⟨true, 5, 1, 2, some 9, none, none⟩, by decide +kernel⟩,
   ⟨Y, rq, ⟨true, 5, 1, 2, none, none, none⟩, by decide +kernel⟩,
   ⟨Y, rq, by decide +kernel⟩,
   ⟨E, rq, xe, by decide +kernel⟩⟩

end C19

namespace C20

def rq : SynReq := ⟨.mailbox 0, 3, 2, 7, 0xFFFF, false, none⟩
def qt : Requester := .core 3
def synOn (s : State) : State := ((s.sf DEV_STATUS DEV_STATUS_STAGE 6).sf DEV_ENABLE DEV_ENABLE_EN 1).setMb 0 { Mailbox.reset with session := some ⟨5, false, 0, none⟩ }
def run (s : State) : State := (List.range 32).foldl (fun s k => s.sf (CORE_STATUS k) CORE_STATUS_STATE 1) s
def Y : State := { run (synOn S0) with clock := 10^10 }
def Yv : State := (Y.sf FLT_CTL FLT_CTL_VEC_EN 1).sf FLT_CTL FLT_CTL_VECTOR 77
def er : State := Yv.setMb 0 { Mailbox.reset with session := some ⟨5, false, 0, some ⟨0x1000, 4, 9, 0, 0, 0, []⟩⟩ }
def f (a b c : Nat) : FaultRep := ⟨BitVec.ofNat 8 a, BitVec.ofNat 16 b, BitVec.ofNat 32 c⟩
def m1 (s : State) : State := s.sf FLT_CTL FLT_CTL_MODE 1
def v (c : Nat) (s : State) : State := s.wr64 (FLT_FIRST c) (2^63 + 0x020012000034AB)
def o (c : Nat) (s : State) : State := s.wr64 (FLT_FIRST c) (2^62)
def br (s : State) : State := { s with flt := { s.flt with broken := [(5, 3), (0x17, 0)] } }
def ln (s : State) : State := { (s.wr FLT_BLOCKS 0xF) with flt := { s.flt with lines := [2, 5] } }
def ins (s : State) : State := s.setInst 3 { Inst.reset with state := .configured, vecFirst := 10, vecCount := 8 }
def sc (s : State) : State := s.sf SEC_STATUS SEC_STATUS_DEBUG 4
def ia (a : Nat) (s : State) : State := s.wr64 FLT_INJ_ADDR a
def fac (s : State) : State := s.sf DEV_STRAPS DEV_STRAPS_FACTORY 1
def arm (k fl u : Nat) : W32 := BitVec.ofNat 32 (k * 2^23 + fl * 2^27 + u)
def inj (k fl u a : Nat) (s : State) : State := { s.sf FLT_INJ FLT_INJ_BUSY 1 with flt := { s.flt with injections := [⟨k, fl, u, a⟩] } }
def ce (l : Option Nat) (w : Option FaultRep) (s : State) : State := s.setCe 5 ⟨l, 3, w⟩

/-- States and operands that meet the hypotheses of FaultsAreCollected, clause by clause. -/
theorem witness_FaultsAreCollected :
    (∃ (s : State) (r : FaultRep), repOk r = true ∧ s.flt.broken = [] ∧ s.classOf r ≤ 1 ∧ s.fltValid (s.classOf r) =
      false)
    ∧ (∃ (s : State) (r : FaultRep), repOk r = true ∧ s.flt.broken = [] ∧ s.gf FLT_CTL FLT_CTL_MODE = 0 ∧ s.classOf r ≤
      1 ∧ s.fltValid (s.classOf r) = true)
    ∧ (∃ (s : State) (r : FaultRep), repOk r = true ∧ s.flt.broken = [] ∧ s.classOf r = 2 ∧ s.safe = false)
    ∧ (∃ (s : State) (r : FaultRep), repOk r = true ∧ s.flt.broken = [] ∧ s.gf FLT_CTL FLT_CTL_MODE = 1 ∧ s.classOf r =
      0 ∧ s.fltValid 0 = true ∧ s.fltValid 1 = false)
    ∧ (∃ (s : State) (r : FaultRep), repOk r = true ∧ s.flt.broken = [] ∧ s.gf FLT_CTL FLT_CTL_MODE = 1 ∧ s.classOf r =
      0 ∧ s.fltValid 0 = true ∧ s.fltValid 1 = true)
    ∧ (∃ (s : State) (r : FaultRep), repOk r = true ∧ s.flt.broken = [] ∧ s.gf FLT_CTL FLT_CTL_MODE = 1 ∧ s.classOf r =
      1 ∧ s.fltValid 1 = true ∧ s.fltValid 2 = false)
    ∧ (∃ (s : State) (r : FaultRep), repOk r = true ∧ railed r.source.toNat = true ∧ (r.source.toNat, runitOf r) ∈
      s.flt.broken ∧ r.source ≠ 0x18 ∧ r.source ≠ 0x04)
    ∧ (∃ (s : State) (r : FaultRep), repOk r = false)
    ∧ (∃ (s : State) (a b : FaultRep), repOk a = true ∧ repOk b = true ∧ s.flt.broken = [] ∧ s.gf FLT_CTL FLT_CTL_MODE =
      0 ∧ s.classOf a = s.classOf b ∧ s.classOf a ≤ 1 ∧ s.fltValid (s.classOf a) = false ∧ (a.source.toNat <
      b.source.toNat ∨ a.source = b.source ∧ a.unit.toNat < b.unit.toNat))
    ∧ (∃ (s : State) (r : FaultRep), repOk r = true ∧ r.source = 0x18)
    ∧ (∃ (s : State) (r : FaultRep), repOk r = true ∧ r.source = 0x04)
    ∧ (∃ (s : State) (src : Byte) (u : W16), railOk src.toNat u.toNat = true ∧ (src.toNat, u.toNat) ∉ s.flt.broken ∧ max
      1 (sourceClass src.toNat) = 1 ∧ s.fltValid 1 = false)
    ∧ (∃ (s : State) (src : Byte) (u : W16), railOk src.toNat u.toNat = true ∧ (src.toNat, u.toNat) ∉ s.flt.broken ∧
      sourceClass src.toNat = 2)
    ∧ (∃ (s : State) (src : Byte) (u : W16), railOk src.toNat u.toNat = false ∨ (src.toNat, u.toNat) ∈ s.flt.broken)
    ∧ (∃ (s : State) (q : Requester) (v : W32), s.hostDiscards q = false ∧ v.toNat % 2 ≠ s.gf FLT_CTL FLT_CTL_MODE ∧
      (s.fltValid 0 = true ∨ s.fltValid 1 = true ∨ s.fltValid 2 = true))
    ∧ (∃ (s : State) (q : Requester) (v : W32), s.hostDiscards q = false ∧ (v.toNat % 2 = s.gf FLT_CTL FLT_CTL_MODE ∨
      s.fltValid 0 = false ∧ s.fltValid 1 = false ∧ s.fltValid 2 = false) ∧ (bitAt v.toNat 15 = false ∨ s.bit FLT_CTL
      FLT_CTL_VEC_EN = true ∨ s.vecInInstance (v.toNat / 16 % 2048) = false))
    ∧ (∃ (s : State) (q : Requester) (v : W32), s.hostDiscards q = false ∧ v.toNat % 2 = s.gf FLT_CTL FLT_CTL_MODE ∧
      bitAt v.toNat 15 = true ∧ s.bit FLT_CTL FLT_CTL_VEC_EN = false ∧ s.vecInInstance (v.toNat / 16 % 2048) = true)
    ∧ (∃ (s : State) (v : W32), s.safe = true)
    ∧ (∃ (s : State) (q : Requester) (v : W32), s.hostDiscards q = false ∧ (∀ b ∈ s.flt.lines, b < 22))
    ∧ (∃ (s : State) (q : Requester) (v : W32), coreWrites q = false)
    ∧ (∃ (s : State) (q : Requester) (v : W32), coreWrites q = true ∧ v.toNat / 2 ^ 23 % 16 ≤ 5 ∧ s.scope 2 = true ∧
      injTargetOk (v.toNat / 2 ^ 23 % 16) (v.toNat % 2 ^ 16) (s.rd64 FLT_INJ_ADDR) = true ∧ s.flt.injections = [])
    ∧ (∃ (s : State) (q : Requester) (v : W32), coreWrites q = true ∧ (v.toNat / 2 ^ 23 % 16 ≤ 5 ∧ (s.scope 2 = false ∨
      injTargetOk (v.toNat / 2 ^ 23 % 16) (v.toNat % 2 ^ 16) (s.rd64 FLT_INJ_ADDR) = false) ∨ 5 < v.toNat / 2 ^ 23 % 16
      ∧ (s.factory = false ∨ v.toNat / 2 ^ 23 % 16 < 8 ∨ 11 < v.toNat / 2 ^ 23 % 16)))
    ∧ (∃ (s : State) (q : Requester) (v : W32) (r : FaultRep), coreWrites q = true ∧ v.toNat / 2 ^ 23 % 16 = 8 ∧
      s.factory = true ∧ r = ⟨BitVec.ofNat 8 (s.rd64 FLT_INJ_ADDR), BitVec.ofNat 16 (s.rd64 FLT_INJ_ADDR / 2 ^ 8),
      BitVec.ofNat 32 (s.rd64 FLT_INJ_ADDR / 2 ^ 24)⟩ ∧ repOk r = true ∧ s.flt.broken = [] ∧ s.classOf r ≤ 1 ∧
      s.fltValid (s.classOf r) = false)
    ∧ (∃ (s : State) (q : Requester) (v : W32), coreWrites q = true ∧ v.toNat / 2 ^ 23 % 16 = 9 ∧ s.factory = true ∧
      railOk (s.rd64 FLT_INJ_ADDR % 256) (v.toNat % 2 ^ 16) = true)
    ∧ (∃ (s : State) (q : Requester) (v : W32), coreWrites q = true ∧ v.toNat / 2 ^ 23 % 16 = 10 ∧ s.factory = true ∧
      v.toNat % 2 ^ 16 < 22)
    ∧ (∃ (s : State) (q : Requester) (v : W32), coreWrites q = true ∧ v.toNat / 2 ^ 23 % 16 = 11 ∧ s.factory = true ∧
      fltOffsets.contains (s.rd64 FLT_INJ_ADDR % 65536) = true ∧ s.gf FLT_CTL FLT_CTL_MODE = 0 ∧ s.fltValid 2 = false)
    ∧ (∃ (s : State) (i : Injection) (u : W16) (a : W64), s.flt.injections = [i] ∧ i.checker = 2 ∧ i.unit = u.toNat ∧
      i.addr = a.toNat)
    ∧ (∃ (s : State) (i : Injection) (u : W16) (a : W64), s.flt.injections = [i] ∧ i.checker = 0 ∧ i.unit = u.toNat ∧
      i.addr = a.toNat)
    ∧ (∃ (s : State) (i : Injection) (u : W16) (a : W64), s.flt.injections = [i] ∧ i.checker = 3 ∧ i.unit = u.toNat ∧
      i.addr = a.toNat)
    ∧ (∃ (s : State) (k : Fin 6) (u : W16) (a : W64), ∀ i ∈ s.flt.injections, ¬ (i.checker = k.val ∧ i.unit = u.toNat ∧
      i.addr = injAddr k.val a.toNat))
    ∧ (∃ (s : State) (src : Byte) (r : FaultRep), (s.ceOf src.toNat).waiting = some r ∧ r.source = src ∧ s.bit FLT_CTL
      FLT_CTL_CE_EVT = true ∧ s.domainRuns 16 = true ∧ (∀ x, (s.ceOf src.toNat).last = some x → tenMs ≤ s.clock - x))
    ∧ (∃ (s : State) (src : Byte) (x : Nat), (s.ceOf src.toNat).last = some x ∧ s.clock - x < tenMs)
    ∧ (∃ (s : State) (src : Byte), (s.ceOf src.toNat).waiting = none) :=
  ⟨⟨er, (f 5 3 0x12345678), by decide +kernel⟩,
   ⟨(v 1 er), (f 6 3 0x12345678), by decide +kernel⟩,
   ⟨er, (f 7 3 0x12345678), by decide +kernel⟩,
   ⟨(v 0 (m1 er)), (f 5 3 0x12345678), by decide +kernel⟩,
   ⟨(v 1 (v 0 (m1 er))), (f 5 3 0x12345678), by decide +kernel⟩,
   ⟨(v 1 (v 0 (m1 er))), (f 6 3 0x12345678), by decide +kernel⟩,
   ⟨(br (v 0 er)), (f 5 3 1), by decide +kernel⟩,
   ⟨(br er), (f 0x1F 99 1), by decide +kernel⟩,
   ⟨er, (f 2 9 1), (f 6 3 2), by decide +kernel⟩,
   ⟨er, (f 0x18 9 0), by decide +kernel⟩,
   ⟨er, (f 4 3 0x612), by decide +kernel⟩,
   ⟨(br er), 5, 4, by decide +kernel⟩,
   ⟨(br er), 7, 4, by decide +kernel⟩,
   ⟨(br er), 5, 3, by decide +kernel⟩,
   ⟨(v 1 er), .host, 0xFFFF, by decide +kernel⟩,
   ⟨er, .host, 0xFFFF, by decide +kernel⟩,
   ⟨(ins Y), .host, 0x80F8, by decide +kernel⟩,
   ⟨(Y.sf FLT_STATUS FLT_STATUS_SAFE 1), 0x80F8, by decide +kernel⟩,
   ⟨(ln Y), .host, 0x8, by decide +kernel⟩,
   ⟨Y, .host, 0x80F8, by decide +kernel⟩,
   ⟨(ia 0x1000 (sc er)), qt, (arm 0 2 77), by decide +kernel⟩,
   ⟨(ia 0x1000 er), qt, (arm 0 2 77), by decide +kernel⟩,
   ⟨(ia 0xFF1234567800BD06 (fac er)), qt, (arm 8 2 77), (f 6 0xBD 0x12345678), by decide +kernel⟩,
   ⟨(ia 0xFF06 (fac er)), qt, (arm 9 2 77), by decide +kernel⟩,
   ⟨(ia 0xFF06 (fac er)), qt, (arm 10 2 7), by decide +kernel⟩,
   ⟨(ia 0xFF0018 (fac er)), qt, (arm 11 2 7), by decide +kernel⟩,
   ⟨(inj 2 2 3 0x300 er), ⟨2, 2, 3, 0x300⟩, 3, 0x300, by decide +kernel⟩,
   ⟨(inj 0 1 3 0x300 er), ⟨0, 1, 3, 0x300⟩, 3, 0x300, by decide +kernel⟩,
   ⟨(inj 3 1 3 0 er), ⟨3, 1, 3, 0⟩, 3, 0, by decide +kernel⟩,
   ⟨(inj 3 1 3 0 er), 3, 4, 0, by decide +kernel⟩,
   ⟨(ce (some 5) (some (f 5 1 2)) er), 5, (f 5 1 2), by decide +kernel⟩,
   ⟨(ce (some (10^10 - 5)) (some (f 5 1 2)) er), 5, (10^10 - 5), by decide +kernel⟩,
   ⟨(ce (some (10^10 - 5)) none er), 5, by decide +kernel⟩⟩

/-- States and operands that meet the hypotheses of FaultRequestsAnswer, clause by clause. -/
theorem witness_FaultRequestsAnswer :
    (∃ (s : State) (r : SynReq), s.synRefusal 0x1100 (some 16) r = none)
    ∧ (∃ (s : State) (r : SynReq) (c o : BitVec 3), s.synRefusal 0x1101 (some 16) r = none)
    ∧ (∃ (s : State) (r : SynReq) (m : W32), s.synRefusal 0x1102 (some 16) r = none ∧ m.toNat ≤ 1 ∧ (m.toNat = s.gf
      FLT_CTL FLT_CTL_MODE ∨ s.fltValid 0 = false ∧ s.fltValid 1 = false ∧ s.fltValid 2 = false))
    ∧ (∃ (s : State) (r : SynReq) (m : W32), s.synRefusal 0x1102 (some 16) r = none ∧ m.toNat ≤ 1 ∧ m.toNat ≠ s.gf
      FLT_CTL FLT_CTL_MODE ∧ (s.fltValid 0 = true ∨ s.fltValid 1 = true ∨ s.fltValid 2 = true))
    ∧ (∃ (s : State) (r : SynReq) (m : W32), s.synRefusal 0x1102 (some 16) r = none ∧ 1 < m.toNat)
    ∧ (∃ (s : State) (r : SynReq) (k : BitVec 4) (f : BitVec 2) (u : W16) (a : W64), s.synRefusal 0x1103 (some 16) r =
      none ∧ k.toNat ≤ 5 ∧ s.scope 2 = true ∧ injTargetOk k.toNat u.toNat a.toNat = true ∧ s.flt.injections = [])
    ∧ (∃ (s : State) (r : SynReq) (k : BitVec 4) (f : BitVec 2) (u : W16) (a : W64), s.synRefusal 0x1103 (some 16) r =
      none ∧ (k.toNat ≤ 5 ∧ (s.scope 2 = false ∨ injTargetOk k.toNat u.toNat a.toNat = false) ∨ 5 < k.toNat ∧ s.factory
      = false))
    ∧ (∃ (s : State) (r : SynReq), s.synRefusal 0x1104 (some 16) r = none)
    ∧ (∃ (s : State) (r : SynReq) (st : Nat), s.synRefusal 0x1104 (some 16) r = some st)
    ∧ (∃ (s : State) (r : SynReq) (b : Fin 22), s.synRefusal 0x1105 (some 16) r = none) :=
  ⟨⟨(v 1 er), rq, by decide +kernel⟩,
   ⟨(v 2 (v 1 (o 0 er))), rq, 2, 5, by decide +kernel⟩,
   ⟨er, rq, 1, by decide +kernel⟩,
   ⟨(v 1 er), rq, 1, by decide +kernel⟩,
   ⟨(v 1 er), rq, 2, by decide +kernel⟩,
   ⟨(sc er), rq, 0, 2, 77, 0x1000, by decide +kernel⟩,
   ⟨er, rq, 0, 2, 77, 0x1000, by decide +kernel⟩,
   ⟨er, rq, by decide +kernel⟩,
   ⟨S0, rq, ((S0.synRefusal 0x1104 (some 16) rq).getD 0), by decide +kernel⟩,
   ⟨(ln er), rq, 2, by decide +kernel⟩⟩

end C20

namespace C21

def rq : SynReq := ⟨.mailbox 0, 3, 2, 7, 0xFFFF, false, none⟩
def qt : Requester := .core 3
def synOn (s : State) : State := ((s.sf DEV_STATUS DEV_STATUS_STAGE 6).sf DEV_ENABLE DEV_ENABLE_EN 1).setMb 0 { Mailbox.reset with session := some ⟨5, false, 0, none⟩ }
def run (s : State) : State := (List.range 32).foldl (fun s k => s.sf (CORE_STATUS k) CORE_STATUS_STATE 1) s
def Y : State := { run (synOn S0) with clock := 10^10 }
def ck (f : Ckp → Ckp) (s : State) : State := { s with ckp := f s.ckp }
def hdr : List Byte := fit 64 (leBytes 4 77 ++ leBytes 2 1 ++ leBytes 2 3 ++ leBytes 4 9 ++ leBytes 4 0x55 ++ leBytes 2 300 ++ [0,0] ++ leBytes 4 0 ++ [2])
def reg1 (kind base pages : Nat) : List Byte := fit 64 (leBytes 8 (1 + kind * 2 + 8 + base) ++ leBytes 4 pages ++ leBytes 4 0x66 ++ leBytes 8 0x7000)
def cfg : List Byte := hdr ++ reg1 0 0x200000 4 ++ reg1 1 0x300000 8
def cb (s : State) : State := (((s.wr64 CKP_CFG_BASE 0x100000).wr64 CKP_STAGE (0x10000000 + 64)).putBytes 0x100000 cfg)
def con (st snd cr : Nat) (s : State) : State := s.setCn 9 { Conn.reset with state := st, consumer := 3, peerAddr := 0x1234, sndMsn := snd, creditMsn := cr }
def K : State := con 2 5 5 (cb Y)
def en (s : State) : State := s.sf CKP_CTL CKP_CTL_EN 1
def rgn : CkpRegion := ⟨0, 0, true, 0x200000, 4, 0x66, 0x7000, 0, 0, 0, 0⟩
def rgA : CkpRegion := ⟨1, 1, false, 0x300000, 8, 0x66, 0x7000, 0, 0, 0, 0⟩
def E : State := en (ck (fun c => { c with replica := 77, rank := 1, nranks := 2, conn := 9, jkey := 0x55, jpages := 300, regions := [rgn, rgA], view := 4, members := [0x10, 0x1234] }) ((((con 2 5 5 ((Y.wr64 CKP_CFG_BASE 0x100000).wr64 CKP_STAGE (0x10000000 + 64))).wr64 CKP_MARKED 12).wr64 CKP_REPLICA 10).wr TRN_ADDR 0x10))
def pi : PreImage := ⟨0, 2, 11, List.replicate 4096 7, false⟩
def Pn (l : List Nat) : State := ck (fun c => { c with pin := some 11, pinDone := l }) (E.sf CKP_STATUS CKP_STATUS_PIN 1)
def ap : CkpAppend := ⟨5, 1, 0x80, [1,2,3], false⟩
def cap : CkpCapture := ⟨12, [], 0, 2, 0⟩
def rgM : CkpRegion := ⟨2, 2, false, 0x400000, 8, 0x66, 0x7000, 3, 0, 0, 0⟩
def jE : State := ck (fun c => { c with regions := [rgM], journal := [⟨11, 302, 1, 0x500000, 300⟩] }) (E.putBytes (0x500000 + 2 * 4160) ((journalEntry 11 3 6 [5,6,7,8]).take 80))
def msg (k rank rep view seq step arg : Nat) (body : List Byte) : List Byte := ckpMessage k rank rep view seq step arg body
def box (bs : List Byte) (s : State) : State := { s with trn := { s.trn with inbox := [⟨3, 9, 4, none, bs.length, [(0, bs)], false, true, []⟩] } }
def tk (k : Nat) (s : State) : State := (s.ckpTake 9 4 k).2
def m1 := msg 1 1 77 4 0 12 0 []
def m1b := msg 1 1 77 5 0 12 0 []
def m2 := msg 2 1 77 4 0 12 55 []
def Sn : State := ck (fun c => { c with pin := some 11, pinMark := some 11, snapVolume := some (3, 2, 0), regions := [{ rgn with pages := 1 }] }) (E.wr64 CKP_REPLICA 11)
def at_ (ns : Nat) (s : State) : State := { s with time := { s.time with acc := ns * 2 ^ 32 } }
def m10 := msg 10 1 77 4 0 12 55 (List.replicate 128 6)
def L : State := ck (fun c => { c with witnesses := [0x1234], leaseSeq := 3, leaseSent := some (3, 10^9) }) ((at_ (10^9 + 5*10^7) E).sf CKP_CTL CKP_CTL_LEASE_EN 1)
def cxb (st : Nat) : List Byte := cxSTATE.write (List.replicate 256 0) st
def wc (s : State) (n st : Nat) : State := { s with kv := { s.kv with cache := [(n, cxb st)], opened := [(n, 0)] } }
def sv : CkpServed := ⟨88, 6, [0x1234, 0x99], [(0x1234, 5)], none⟩
def Wt (bs : List Byte) : State := box bs (ck (fun c => { c with served := [sv] }) L)
def m3 := msg 3 0 88 6 17 12 0 []
def m3b := msg 3 0 88 5 17 12 0 []
def m3c := msg 3 0 89 5 17 12 0 []
def m4 := msg 4 0xFFFF 77 4 3 12 0 []
def G (l : List Nat) : State := box m4 (ck (fun c => { c with grants := l }) (L.sf CKP_STATUS CKP_STATUS_LAPSED 1))
def m5 := msg 5 0xFFFF 77 4 3 12 8 []
def m5b := msg 5 0xFFFF 77 4 3 12 4 []
def Lp : State := L.sf CKP_STATUS CKP_STATUS_LAPSED 1
def Pr : State := ck (fun c => { c with spares := [0x77] }) L
def m6 := msg 6 0 88 7 7 12 2 ([0x10, 0x77].flatMap (beBytes 4))
def m6b := msg 6 0 88 8 7 12 2 ([0x10, 0x77].flatMap (beBytes 4))
def svp : CkpServed := { sv with proposal := some (7, [1,2], 9, 7) }
def m7 := msg 7 0xFFFF 77 4 5 0 0 []
def Ac (l ms : List Nat) : State := box m7 (ck (fun c => { c with proposing := some (5, ms, l), conn := 9 }) L)
def m8 := msg 8 0 77 4 5 0 2 ([0x10, 0x77].flatMap (beBytes 4))
def m8b := msg 8 0 77 4 5 0 2 ([0x11, 0x77].flatMap (beBytes 4))
def m9 := msg 9 1 77 4 0 12 1 []
def m9b := msg 9 1 77 4 0 12 0 []
def Rs (vs : List (Nat × Nat × Bool)) : State := ck (fun c => { c with restoring := some ⟨rq, 0, 2, [12], 12, [12], []⟩, verified := vs }) L

/-- States and operands that meet the hypotheses of CheckpointsAreTaken, clause by clause. -/
theorem witness_CheckpointsAreTaken :
    (∃ (s : State) (q : Requester) (v : W32), coreWrites q = true ∧ s.ckpEn = false ∧ s.ckpCheck (bitAt v.toNat 1) =
      none)
    ∧ (∃ (s : State) (q : Requester) (v : W32) (c : Nat), coreWrites q = true ∧ s.ckpEn = false ∧ s.ckpCheck (bitAt
      v.toNat 1) = some c)
    ∧ (∃ (s : State) (q : Requester) (v : W32), coreWrites q = false)
    ∧ (∃ (s : State) (q : Requester) (v : W32), coreWrites q = true ∧ s.ckpEn = true ∧ v.toNat / 2 ^ 28 % 4 = 0 ∧ s.rd64
      CKP_REPLICA + 4 ≤ s.rd64 CKP_MARKED)
    ∧ (∃ (s : State) (q : Requester) (v : W32), coreWrites q = true ∧ s.ckpEn = true ∧ v.toNat / 2 ^ 28 % 8 = 0 ∧ s.rd64
      CKP_MARKED < s.rd64 CKP_REPLICA + 4 ∧ s.rd64 CKP_MARKED + 1 < 2 ^ 64 ∧ (s.cn s.ckp.conn).state ≠ csReady)
    ∧ (∃ (s : State) (q : Requester) (v : W32) (m page : Nat) (r : CkpRegion), coreWrites q = true ∧ s.ckpEn = true ∧
      v.toNat / 2 ^ 28 % 8 = 0 ∧ s.rd64 CKP_MARKED < s.rd64 CKP_REPLICA + 4 ∧ m = s.rd64 CKP_MARKED + 1 ∧ m < 2 ^ 64 ∧
      s.ckp.captures = [] ∧ s.ckp.sent = [] ∧ s.ckp.pre = [] ∧ s.ckp.touched = [(r.ix, page)] ∧ s.ckp.regions = [r] ∧ 0
      < s.ckp.jpages ∧ s.rd64 CKP_REPLICA < m ∧ s.spent s.ckp.conn ∧ s.unmarked (r.base + page * 4096) 4096)
    ∧ (∃ (s : State) (q : Requester) (v : W32), coreWrites q = true ∧ s.ckpEn = false ∧ v.toNat / 2 ^ 28 % 2 = 0)
    ∧ (∃ (s : State) (q : Requester) (v : W32), coreWrites q = true ∧ s.ckpEn = true ∧ v.toNat / 2 ^ 28 % 4 = 0 ∧
      s.ckp.pin = none ∧ s.rd64 CKP_MARKED < s.rd64 CKP_REPLICA + 4 ∧ s.rd64 CKP_MARKED + 1 < 2 ^ 64 ∧ (s.cn
      s.ckp.conn).state ≠ csReady)
    ∧ (∃ (s : State) (q : Requester) (v : W32) (p : PreImage) (r : CkpRegion), coreWrites q = true ∧ s.ckpEn = true ∧
      v.toNat / 2 ^ 28 % 2 = 0 ∧ v.toNat / 2 ^ 31 = 0 ∧ s.ckp.pre = [p] ∧ s.rd64 CKP_REPLICA ≤ p.tag ∧
      s.ckp.regions.find? (fun x => x.ix == p.region && x.kind == 0) = some r ∧ p.data.length = 4096 ∧ r.base + p.page *
      4096 + 4096 ≤ hbmBytes ∧ s.ckp.held = [])
    ∧ (∃ (s : State) (q : Requester) (v : W32), coreWrites q = true ∧ s.ckpEn = true ∧ v.toNat / 2 ^ 28 % 2 = 0 ∧
      v.toNat / 2 ^ 31 = 0 ∧ s.ckp.pre = [] ∧ s.ckp.pin = none ∧ s.ckp.held = [])
    ∧ (∃ (s : State) (q : Requester) (v : W32) (m : Nat), coreWrites q = true ∧ s.ckpEn = true ∧ v.toNat / 2 ^ 28 % 2 =
      0 ∧ v.toNat / 2 ^ 31 = 0 ∧ s.ckp.pre = [] ∧ s.ckp.pin = some m ∧ s.rd64 CKP_REPLICA < m ∧ s.ckp.held = [])
    ∧ (∃ (s : State), s.bit CKP_STATUS CKP_STATUS_ROLLBACK_BUSY = true ∧ s.kv.opened = [])
    ∧ (∃ (s : State), s.bit CKP_STATUS CKP_STATUS_ROLLBACK_BUSY = false)
    ∧ (∃ (s : State) (q : Requester) (v : W32) (m : Nat), coreWrites q = true ∧ v.toNat / 2 ^ 29 % 2 = 0 ∧ v.toNat / 2 ^
      31 = 0 ∧ s.ckp.pin = some m ∧ 0 ∈ s.ckp.pinDone ∧ 1 ∈ s.ckp.pinDone ∧ s.ckp.held = [])
    ∧ (∃ (s : State) (q : Requester) (v : W32) (m : Nat), coreWrites q = true ∧ v.toNat / 2 ^ 29 % 2 = 0 ∧ v.toNat / 2 ^
      31 = 0 ∧ s.ckp.pin = some m ∧ (0 ∉ s.ckp.pinDone ∨ 1 ∉ s.ckp.pinDone) ∧ s.ckp.held = [])
    ∧ (∃ (s : State) (q : Requester) (v : W32), v.toNat / 2 ^ 29 % 2 = 0 ∧ v.toNat / 2 ^ 31 = 0 ∧ s.ckp.pin = none)
    ∧ (∃ (s : State) (a : CkpAppend) (r : CkpRegion), s.ckp.appends = [a] ∧ a.sent = false ∧ s.ckp.regions = [r] ∧ r.ix
      = a.region ∧ s.ckpEn = true ∧ s.spent s.ckp.conn ∧ a.data.length ≤ 0x40000000)
    ∧ (∃ (s : State), s.ckpEn = false ∨ (s.cn s.ckp.conn).state ≠ csReady ∨ ∀ a ∈ s.ckp.appends, a.sent = true)
    ∧ (∃ (s : State) (c : CkpCapture), s.trn.results = [] ∧ s.ckp.captures = [c] ∧ s.captureDone c = true ∧ s.ckp.pre =
      [] ∧ s.ckp.held = [] ∧ s.ckp.cflag = none ∧ s.ckp.unprotected = false ∧ s.ckp.members = [s.ckpAddr] ∧ s.domainRuns
      13 = true ∧ s.ckpEn = true ∧ s.ckp.journal = [] ∧ c.mark < 2 ^ 64 ∧ s.ckp.viewAt = none ∧ { s with ckp := { s.ckp
      with takeover := false } }.modeKept)
    ∧ (∃ (s : State) (c : CkpCapture) (f : Nat), s.trn.results = [] ∧ s.ckp.captures = [c] ∧ s.captureDone c = true ∧
      s.ckp.pre = [] ∧ s.ckp.held = [] ∧ s.ckp.cflag = some f ∧ s.ckp.unprotected = false ∧ s.domainRuns 13 = false ∧ {
      s with ckp := { s.ckp with takeover := false } }.modeKept)
    ∧ (∃ (s : State) (c : CkpCapture) (cs : List CkpCapture), s.trn.results = [] ∧ s.ckp.captures = c :: cs ∧
      s.captureDone c = false)
    ∧ (∃ (s : State) (tag x y : Nat) (c : CkpCapture), s.trn.results = [(3, tag, 0, x, y)] ∧ tag < 8 ∧ s.ckp.captures =
      [c] ∧ c.mark % 8 = tag ∧ 1 < c.outstanding)
    ∧ (∃ (s : State) (q : Requester) (v : W64), coreWrites q = true ∧ s.ckpEn = true ∧ v.toNat < s.rd64 CKP_REPLICA)
    ∧ (∃ (s : State) (q : Requester) (v : W64), coreWrites q = true ∧ (s.ckpEn = false ∨ s.rd64 CKP_REPLICA ≤ v.toNat) ∧
      s.ckp.journal = [] ∧ s.ckp.captures = [] ∧ s.ckp.held = [])
    ∧ (∃ (s : State) (q : Requester) (v : W64) (j : CkpJournal) (r : CkpRegion) (e : List Byte), coreWrites q = true ∧
      s.ckpEn = true ∧ s.rd64 CKP_REPLICA ≤ v.toNat ∧ s.ckp.journal = [j] ∧ j.mark ≤ v.toNat ∧ j.count = 1 ∧
      s.ckp.captures = [] ∧ s.ckp.held = [] ∧ s.ckp.pin = none ∧ e = s.bytes (j.ring + j.first % j.pages * 4160) 4160 ∧
      inHbm (j.ring + j.first % j.pages * 4160) 4160 = true ∧ s.ckp.regions = [r] ∧ r.kind = 2 ∧ r.pregion = fieldLE e 8
      1 ∧ fieldLE e 12 4 < r.pages ∧ r.base + r.pages * 4096 ≤ hbmBytes)
    ∧ (∃ (s : State) (q : Requester) (v : W64), coreWrites q = false)
    ∧ (∃ (s u : State) (n : BitVec 20) (msn : W32) (bs : List Byte), s.ckpTake n.toNat msn.toNat 1 = (some bs, u) ∧
      cmReplica bs = s.ckp.replica ∧ cmView bs = s.ckp.view ∧ s.ckpEn = true ∧ s.ckp.journal = [] ∧ s.ckp.captures = []
      ∧ s.ckp.held = [] ∧ s.ckp.pre = [] ∧ s.ckp.members ≠ [])
    ∧ (∃ (s u : State) (n : BitVec 20) (msn : W32) (bs : List Byte), s.ckpTake n.toNat msn.toNat 1 = (some bs, u) ∧
      (cmReplica bs ≠ s.ckp.replica ∨ cmView bs ≠ s.ckp.view))
    ∧ (∃ (s u : State) (n : BitVec 20) (msn : W32) (bs : List Byte) (ring : BitVec 52) (pages : W16), s.ckpTake n.toNat
      msn.toNat 2 = (some bs, u) ∧ cmReplica bs = s.ckp.replica ∧ cmView bs = s.ckp.view ∧ s.rd64 CKP_REPLICA < cmStep
      bs ∧ s.ckp.journal = [])
    ∧ (∃ (s : State) (b : Bool) (lba : W64) (m vol ret base : Nat), s.ckp.pin = some m ∧ s.ckp.snapVolume = some (vol,
      ret, base) ∧ m ≤ s.rd64 CKP_REPLICA ∧ b2n b ∉ s.ckp.pinDone ∧ s.domainRuns 14 = true ∧ (b = true →
      s.ckp.partner.isSome = true) ∧ s.manifestWriter = some s.ckpAddr)
    ∧ (∃ (s : State) (b : Bool) (lba : W64) (m : Nat), s.ckp.pin = some m ∧ (s.rd64 CKP_REPLICA < m ∨ b2n b ∈
      s.ckp.pinDone))
    ∧ (∃ (s : State) (b : Bool) (lba : W64), s.ckp.pin = none)
    ∧ (∃ (s : State) (lba : W64) (m vol ret base : Nat), s.ckp.pinMark = some m ∧ s.ckp.snapVolume = some (vol, ret,
      base) ∧ s.manifestWriter = some s.ckpAddr ∧ s.ckp.pinAt + 120000000000 ≤ s.now ∧ s.domainRuns 14 = true)
    ∧ (∃ (s : State) (lba : W64) (m vol ret base : Nat), s.ckp.pinMark = some m ∧ s.ckp.snapVolume = some (vol, ret,
      base) ∧ 2 * s.ckp.nranks ≤ (s.ckp.snapDone.filter (fun e => e.1 == m)).length ∧ s.manifestWriter = some s.ckpAddr
      ∧ s.domainRuns 14 = true)
    ∧ (∃ (s : State) (lba : W64) (m : Nat), s.ckp.pinMark = some m ∧ (s.ckp.snapDone.filter (fun e => e.1 == m)).length
      < 2 * s.ckp.nranks ∧ s.now < s.ckp.pinAt + 120000000000)
    ∧ (∃ (s u : State) (n : BitVec 20) (msn : W32) (bs : List Byte), s.ckpTake n.toNat msn.toNat 10 = (some bs, u) ∧
      cmReplica bs = s.ckp.replica ∧ cmView bs = s.ckp.view) :=
  ⟨⟨K, qt, 0, by decide +kernel⟩,
   ⟨(con 1 5 5 K), qt, 0, 0x632, by decide +kernel⟩,
   ⟨K, .host, 2, by decide +kernel⟩,
   ⟨(E.wr64 CKP_MARKED 14), qt, 0, by decide +kernel⟩,
   ⟨(ck (fun c => { c with touched := [(0, 3), (0, 1)] }) (con 1 5 5 E)), qt, 0, by decide +kernel⟩,
   ⟨(ck (fun c => { c with regions := [rgn], touched := [(0, 3)] }) (E.putBytes 0x203000 [1,2,3])), qt, 0, 13, 3, rgn,
     by (repeat' with_reducible apply And.intro) <;> first | decide +kernel | exact fun k _ => ⟨rfl, rfl⟩⟩,
   ⟨K, qt, 0, by decide +kernel⟩,
   ⟨(ck (fun c => { c with touched := [(0, 3), (0, 1)] }) (con 1 5 5 E)), qt, 0, by decide +kernel⟩,
   ⟨(ck (fun c => { c with pre := [pi] }) E), qt, 0, pi, rgn, by
     (repeat' with_reducible apply And.intro) <;> first | decide +kernel | exact Eq.refl [pi] | exact (List.length_replicate : (List.replicate 4096 (7 : Byte)).length = 4096)⟩,
   ⟨(ck (fun c => { c with captures := [⟨9, [], 0, 0, 0⟩, ⟨11, [], 0, 0, 0⟩], journal := [⟨10, 0, 1, 0, 300⟩, ⟨11, 1, 1,
     0, 300⟩] }) E), qt, 0, by decide +kernel⟩,
   ⟨(ck (fun c => { c with pin := some 11 }) E), qt, 0, 11, by decide +kernel⟩,
   ⟨(E.sf CKP_STATUS CKP_STATUS_ROLLBACK_BUSY 1), by decide +kernel⟩,
   ⟨E, by decide +kernel⟩,
   ⟨(Pn [1, 0]), qt, 0, 11, by decide +kernel⟩,
   ⟨(Pn [1]), qt, 0, 11, by decide +kernel⟩,
   ⟨E, qt, 0, by decide +kernel⟩,
   ⟨(ck (fun c => { c with regions := [rgA], appends := [ap] }) E), ap, rgA, by decide +kernel⟩,
   ⟨E, by decide +kernel⟩,
   ⟨(ck (fun c => { c with captures := [cap], members := [0x10] }) E), cap, by decide +kernel⟩,
   ⟨(ck (fun c => { c with captures := [cap], cflag := some 0x105 }) (E.sf (CORE_STATUS 13) CORE_STATUS_STATE 2)), cap,
     0x105, by decide +kernel⟩,
   ⟨(ck (fun c => { c with captures := [{ cap with commit := 1 }] }) E), ({ cap with commit := 1 }), [], by
     decide +kernel⟩,
   ⟨({ (ck (fun c => { c with captures := [{ cap with outstanding := 2 }] }) E) with trn := { E.trn with results := [(3,
     4, 0, 1, 2)] } }), 4, 1, 2, ({ cap with outstanding := 2 }), by decide +kernel⟩,
   ⟨E, qt, 9, by decide +kernel⟩,
   ⟨(ck (fun c => { c with pre := [pi, { pi with tag := 12 }] }) E), qt, 12, by decide +kernel⟩,
   ⟨jE, qt, 11, ⟨11, 302, 1, 0x500000, 300⟩, rgM, (jE.bytes (0x500000 + 302 % 300 * 4160) 4160), by
     (repeat' with_reducible apply And.intro) <;> first | decide +kernel | exact Eq.refl (State.bytes _ _ _)⟩,
   ⟨E, .host, 11, by decide +kernel⟩,
   ⟨((box m1 E).wr64 CKP_LOCAL 13), (tk 1 ((box m1 E).wr64 CKP_LOCAL 13)), 9, 4, m1, by decide +kernel⟩,
   ⟨(box m1b E), (tk 1 ((box m1b E))), 9, 4, m1b, by decide +kernel⟩,
   ⟨(box m2 E), (tk 2 ((box m2 E))), 9, 4, m2, 0x500000, 300, by decide +kernel⟩,
   ⟨Sn, false, 100, 11, 3, 2, 0, by decide +kernel⟩,
   ⟨(Pn [1]), true, 100, 11, by decide +kernel⟩,
   ⟨E, true, 100, by decide +kernel⟩,
   ⟨(at_ 200000000000 Sn), 100, 11, 3, 2, 0, by decide +kernel⟩,
   ⟨(ck (fun c => { c with nranks := 1, snapDone := [(11, []), (11, [1])] }) Sn), 100, 11, 3, 2, 0, by decide +kernel⟩,
   ⟨(ck (fun c => { c with pinAt := 10^18 * 5 }) Sn), 100, 11, by decide +kernel⟩,
   ⟨(box m10 E), (tk 10 ((box m10 E))), 9, 4, m10, by decide +kernel⟩⟩

/-- States and operands that meet the hypotheses of LeasesAndRecoveryRun, clause by clause. -/
theorem witness_LeasesAndRecoveryRun :
    (∃ (s : State) (w n : Nat), s.ckpEn = true ∧ s.bit CKP_CTL CKP_CTL_LEASE_EN = true ∧ s.domainRuns 13 = true ∧ (∀ x,
      s.ckp.leaseSent = some x → x.2 + 50000000 ≤ s.now) ∧ s.ckp.witnesses = [w] ∧ s.ckpConnTo w = some n ∧ s.spent n)
    ∧ (∃ (s : State), s.ckpEn = false ∨ s.bit CKP_CTL CKP_CTL_LEASE_EN = false ∨ s.domainRuns 13 = false ∨
      s.ckp.leaseSent.any (fun x => decide (s.now < x.2 + 50000000)) = true)
    ∧ (∃ (s : State), s.leaseLapsed = true ∧ s.bit CKP_STATUS CKP_STATUS_LAPSED = false ∧ s.kv.opened = [])
    ∧ (∃ (s : State) (n c : Nat), s.leaseLapsed = true ∧ s.bit CKP_STATUS CKP_STATUS_LAPSED = false ∧ s.kv.opened = [(n,
      c)] ∧ s.onDie n ∧ s.cx n cxSTATE ≠ stFree ∧ s.cx n cxSTATE ≠ stFrozen ∧ s.cx n cxSTATE ≠ stClosing)
    ∧ (∃ (s : State), s.leaseLapsed = false ∨ s.bit CKP_STATUS CKP_STATUS_LAPSED = true)
    ∧ (∃ (s u : State) (n : BitVec 20) (msn : W32) (bs : List Byte) (w : CkpServed), s.ckpTake n.toNat msn.toNat 3 =
      (some bs, u) ∧ s.served (cmReplica bs) = some w ∧ w.proposal = none ∧ cmView bs = w.view ∧ (s.cn n.toNat).peerAddr
      ∈ w.members ∧ s.spent n.toNat)
    ∧ (∃ (s u : State) (n : BitVec 20) (msn : W32) (bs : List Byte) (w : CkpServed), s.ckpTake n.toNat msn.toNat 3 =
      (some bs, u) ∧ s.served (cmReplica bs) = some w ∧ w.proposal = none ∧ (cmView bs ≠ w.view ∨ (s.cn
      n.toNat).peerAddr ∉ w.members) ∧ s.spent n.toNat)
    ∧ (∃ (s u : State) (n : BitVec 20) (msn : W32) (bs : List Byte), s.ckpTake n.toNat msn.toNat 3 = (some bs, u) ∧ (∀
      w, s.served (cmReplica bs) = some w → w.proposal ≠ none))
    ∧ (∃ (s u : State) (n : BitVec 20) (msn : W32) (bs : List Byte) (sent : Nat) (a b : Nat), s.ckpTake n.toNat
      msn.toNat 4 = (some bs, u) ∧ cmReplica bs = s.ckp.replica ∧ cmView bs = s.ckp.view ∧ s.ckp.leaseSent = some (cmSeq
      bs, sent) ∧ s.ckp.grants = [a, b] ∧ (s.cn n.toNat).peerAddr ∉ [a, b] ∧ (s.cn n.toNat).peerAddr ∈ s.ckp.witnesses ∧
      s.now < sent + 200000000 ∧ sent + 200000000 < 2 ^ 64 ∧ s.kv.opened = [])
    ∧ (∃ (s u : State) (n : BitVec 20) (msn : W32) (bs : List Byte) (sent : Nat), s.ckpTake n.toNat msn.toNat 4 = (some
      bs, u) ∧ cmReplica bs = s.ckp.replica ∧ cmView bs = s.ckp.view ∧ s.ckp.leaseSent = some (cmSeq bs, sent) ∧ (s.cn
      n.toNat).peerAddr ∉ s.ckp.grants ∧ (s.cn n.toNat).peerAddr ∈ s.ckp.witnesses ∧ (s.ckp.grants.length ≠ 2 ∨ sent +
      200000000 ≤ s.now))
    ∧ (∃ (s u : State) (n : BitVec 20) (msn : W32) (bs : List Byte) (sent : Nat), s.ckpTake n.toNat msn.toNat 5 = (some
      bs, u) ∧ cmReplica bs = s.ckp.replica ∧ s.ckp.leaseSent = some (cmSeq bs, sent) ∧ cmArg bs ≠ s.ckp.view)
    ∧ (∃ (s u : State) (n : BitVec 20) (msn : W32) (bs : List Byte) (sent : Nat), s.ckpTake n.toNat msn.toNat 5 = (some
      bs, u) ∧ cmReplica bs = s.ckp.replica ∧ s.ckp.leaseSent = some (cmSeq bs, sent) ∧ cmArg bs = s.ckp.view ∧ s.bit
      CKP_STATUS CKP_STATUS_LAPSED = true ∧ s.kv.opened = [])
    ∧ (∃ (s : State) (rank : W16) (spare : Nat) (a w n : Nat) (ms : List Nat) (msg : List Byte), s.ckpEn = true ∧
      s.domainRuns 13 = true ∧ s.ckp.spares[spare]? = some a ∧ rank.toNat < s.ckp.members.length ∧ s.ckp.members[if
      rank.toNat = 0 then 1 else 0]? = some s.ckpAddr ∧ ms = s.ckp.members.set rank.toNat a ∧ ms.length ≤ 256 ∧ msg =
      ckpMessage 6 s.ckp.rank s.ckp.replica (s.ckp.view + 1) (s.ckp.view + 1) (s.rd64 CKP_REPLICA) ms.length (ms.flatMap
      (beBytes 4)) ∧ s.ckp.witnesses = [w] ∧ s.ckpConnTo w = some n ∧ s.spent n)
    ∧ (∃ (s : State) (rank : W16) (spare : Nat), s.ckp.spares[spare]? = none ∨ s.ckpEn = false ∨ s.domainRuns 13 =
      false)
    ∧ (∃ (s u : State) (n : BitVec 20) (msn : W32) (bs : List Byte) (w : CkpServed), s.ckpTake n.toNat msn.toNat 6 =
      (some bs, u) ∧ s.served (cmReplica bs) = some w ∧ w.proposal = none ∧ cmView bs = w.view + 1)
    ∧ (∃ (s u : State) (n : BitVec 20) (msn : W32) (bs : List Byte) (w : CkpServed), s.ckpTake n.toNat msn.toNat 6 =
      (some bs, u) ∧ s.served (cmReplica bs) = some w ∧ (w.proposal ≠ none ∨ cmView bs ≠ w.view + 1))
    ∧ (∃ (s : State) (k : W32) (w : CkpServed) (v n q : Nat) (ms : List Nat), s.served k.toNat = some w ∧ w.proposal =
      some (v, ms, n, q) ∧ (∀ g ∈ w.grants, g.2 + 80000 + 1000000 < s.now) ∧ s.domainRuns 13 = true ∧ s.spent n)
    ∧ (∃ (s : State) (k : W32) (w : CkpServed) (g : Nat × Nat), s.served k.toNat = some w ∧ g ∈ w.grants ∧ s.now ≤ g.2 +
      80000 + 1000000)
    ∧ (∃ (s u : State) (n : BitVec 20) (msn : W32) (bs : List Byte) (ms got : List Nat), s.ckpTake n.toNat msn.toNat 7 =
      (some bs, u) ∧ s.ckp.proposing = some (cmSeq bs, ms, got) ∧ cmReplica bs = s.ckp.replica ∧ cmView bs = s.ckp.view
      ∧ (s.cn n.toNat).peerAddr ∉ got ∧ (s.cn n.toNat).peerAddr ∈ s.ckp.witnesses ∧ got.length < 2)
    ∧ (∃ (s u : State) (n : BitVec 20) (msn : W32) (bs : List Byte) (ms got : List Nat), s.ckpTake n.toNat msn.toNat 7 =
      (some bs, u) ∧ s.ckp.proposing = some (cmSeq bs, ms, got) ∧ cmReplica bs = s.ckp.replica ∧ cmView bs = s.ckp.view
      ∧ (s.cn n.toNat).peerAddr ∉ got ∧ (s.cn n.toNat).peerAddr ∈ s.ckp.witnesses ∧ 2 ≤ got.length ∧ s.ckpAddr ∈ ms ∧ (∀
      a ∈ ms, a ≠ s.ckpAddr → s.ckpConnTo a = none) ∧ s.ckpEn = true)
    ∧ (∃ (s u : State) (n : BitVec 20) (msn : W32) (bs : List Byte), s.ckpTake n.toNat msn.toNat 8 = (some bs, u) ∧
      cmReplica bs = s.ckp.replica ∧ cmView bs = s.ckp.view ∧ s.ckpAddr ∈ cmMembers bs ∧ s.ckpEn = true)
    ∧ (∃ (s u : State) (n : BitVec 20) (msn : W32) (bs : List Byte), s.ckpTake n.toNat msn.toNat 8 = (some bs, u) ∧
      cmReplica bs = s.ckp.replica ∧ cmView bs = s.ckp.view ∧ s.ckpAddr ∉ cmMembers bs ∧ s.kv.opened = [])
    ∧ (∃ (s u : State) (n : BitVec 20) (msn : W32) (bs : List Byte), s.ckpTake n.toNat msn.toNat 9 = (some bs, u) ∧
      cmReplica bs = s.ckp.replica ∧ cmView bs = s.ckp.view ∧ s.ckp.restoring = none)
    ∧ (∃ (s u : State) (n : BitVec 20) (msn : W32) (bs : List Byte) (x : CkpRestore) (c : Nat) (vs : List (Nat × Nat ×
      Bool)), s.ckpTake n.toNat msn.toNat 9 = (some bs, u) ∧ cmReplica bs = s.ckp.replica ∧ cmView bs = s.ckp.view ∧
      s.ckp.restoring = some x ∧ x.cands = [c] ∧ vs = s.ckp.verified ++ [(cmRank bs, cmStep bs, cmArg bs == 1)] ∧ (∀ r ∈
      List.range x.nranks, (ckpSaid vs r c).isSome = true) ∧ (∃ r ∈ List.range x.nranks, ckpSaid vs r c = some false))
    ∧ (∃ (s u : State) (n : BitVec 20) (msn : W32) (bs : List Byte) (x : CkpRestore) (c : Nat) (vs : List (Nat × Nat ×
      Bool)), s.ckpTake n.toNat msn.toNat 9 = (some bs, u) ∧ cmReplica bs = s.ckp.replica ∧ cmView bs = s.ckp.view ∧
      s.ckp.restoring = some x ∧ x.cands.head? = some c ∧ c < 2 ^ 64 ∧ vs = s.ckp.verified ++ [(cmRank bs, cmStep bs,
      cmArg bs == 1)] ∧ (∀ r ∈ List.range x.nranks, ckpSaid vs r c = some true))
    ∧ (∃ (s : State) (r : SynReq) (rec_ : List Byte) (v : W32) (ms ws sp : List W32), s.synRefusal 0x1200 (some 13) r =
      none ∧ s.recovering = false)
    ∧ (∃ (s : State) (r : SynReq) (rec_ : List Byte) (v : W32) (ms ws sp : List W32), s.synRefusal 0x1200 (some 13) r =
      none ∧ s.recovering = true)
    ∧ (∃ (s : State) (r : SynReq), s.synRefusal 0x1201 (some 13) r = none)
    ∧ (∃ (s : State) (r : SynReq) (vol : Fin 1024) (ret : Byte) (base : W64), s.synRefusal 0x1202 (some 14) r = none ∧ 2
      ≤ ret.toNat ∧ ret.toNat ≤ 8 ∧ s.ckp.pin = none ∧ s.ckpEn = true ∧ s.rd64 CKP_MARKED < s.rd64 CKP_REPLICA + 4 ∧
      s.rd64 CKP_MARKED + 1 < 2 ^ 64 ∧ (s.cn s.ckp.conn).state ≠ csReady ∧ s.bit CKP_STATUS CKP_STATUS_LAPSED = false)
    ∧ (∃ (s : State) (r : SynReq) (vol : Fin 1024) (ret : Byte) (base : W64), s.synRefusal 0x1202 (some 14) r = none ∧ 2
      ≤ ret.toNat ∧ ret.toNat ≤ 8 ∧ s.ckp.pin.isSome = true)
    ∧ (∃ (s : State) (r : SynReq) (vol : Fin 1024) (lba : W64) (tr : List (List Byte)) (rank : W16) (ms : List W32)
      (mans shards : List (List Byte)), s.synRefusal 0x1203 (some 14) r = none ∧ s.recovering = false ∧ bestManifest tr
      mans = none)
    ∧ (∃ (s : State) (r : SynReq) (vol : Fin 1024) (lba : W64) (tr : List (List Byte)) (rank : W16) (ms : List W32)
      (mans shards : List (List Byte)), s.synRefusal 0x1203 (some 14) r = none ∧ s.recovering = true)
    ∧ (∃ (s : State) (r : SynReq) (rank : W16) (n : BitVec 20) (v : W32), s.synRefusal 0x1204 (some 13) r = none ∧
      s.recovering = false)
    ∧ (∃ (s : State) (r : SynReq) (rank : W16) (n : BitVec 20) (v : W32), s.synRefusal 0x1204 (some 13) r = none ∧
      s.recovering = true)
    ∧ (∃ (s : State) (r : SynReq), s.synRefusal 0x1205 (some 13) r = none ∧ s.bit CKP_STATUS CKP_STATUS_LAPSED = true ∧
      s.kv.opened = [])
    ∧ (∃ (s : State) (r : SynReq), s.synRefusal 0x1205 (some 13) r = none ∧ s.bit CKP_STATUS CKP_STATUS_LAPSED = false)
    ∧ (∃ (s : State) (r : SynReq) (k v : W32) (ms : List W32), s.synRefusal 0x1206 (some 13) r = none ∧ ((s.served
      k.toNat).isSome = true ∨ s.ckp.served.length < 256))
    ∧ (∃ (s : State) (r : SynReq) (k v : W32) (ms : List W32), s.synRefusal 0x1206 (some 13) r = none ∧ s.served k.toNat
      = none ∧ 256 ≤ s.ckp.served.length)
    ∧ (∃ (s : State) (r : SynReq) (vol : Fin 1024) (ret : Byte) (base : W64), s.synRefusal 0x1202 (some 14) r = none ∧ 2
      ≤ ret.toNat ∧ ret.toNat ≤ 8 ∧ s.ckp.pin = none ∧ (s.ckpEn = false ∨ s.bit CKP_STATUS CKP_STATUS_LAPSED = true))
    ∧ (∃ (s : State) (r : SynReq) (vol : Fin 1024) (lba : W64) (tr : List (List Byte)) (rank : W16) (ms : List W32)
      (mans shards : List (List Byte)), s.synRefusal 0x1203 (some 14) r = none ∧ s.recovering = false) :=
  ⟨⟨L, 0x1234, 9, by decide +kernel⟩,
   ⟨(at_ (10^9) L), by decide +kernel⟩,
   ⟨L, by decide +kernel⟩,
   ⟨(wc L 5 stParked), 5, 0, by decide +kernel⟩,
   ⟨(L.sf CKP_STATUS CKP_STATUS_LAPSED 1), by decide +kernel⟩,
   ⟨(Wt m3), (tk 3 (Wt m3)), 9, 4, m3, sv, by decide +kernel⟩,
   ⟨(Wt m3b), (tk 3 (Wt m3b)), 9, 4, m3b, sv, by decide +kernel⟩,
   ⟨(Wt m3c), (tk 3 (Wt m3c)), 9, 4, m3c, by decide +kernel⟩,
   ⟨(G [5,6]), (tk 4 (G [5,6])), 9, 4, m4, 10^9, 5, 6, by decide +kernel⟩,
   ⟨(G [6]), (tk 4 (G [6])), 9, 4, m4, 10^9, by decide +kernel⟩,
   ⟨(box m5 L), (tk 5 (box m5 L)), 9, 4, m5, 10^9, by decide +kernel⟩,
   ⟨(box m5b Lp), (tk 5 (box m5b Lp)), 9, 4, m5b, 10^9, by decide +kernel⟩,
   ⟨Pr, 1, 0, 0x77, 0x1234, 9, [0x10, 0x77], (ckpMessage 6 1 77 5 5 10 2 ([0x10, 0x77].flatMap (beBytes 4))), by
     decide +kernel⟩,
   ⟨Pr, 1, 1, by decide +kernel⟩,
   ⟨(Wt m6), (tk 6 (Wt m6)), 9, 4, m6, sv, by decide +kernel⟩,
   ⟨(Wt m6b), (tk 6 (Wt m6b)), 9, 4, m6b, sv, by decide +kernel⟩,
   ⟨(ck (fun c => { c with served := [svp] }) L), 88, svp, 7, 9, 7, [1,2], by decide +kernel⟩,
   ⟨(ck (fun c => { c with served := [{ svp with grants := [(3, 10^9 + 5*10^7 - 1080000)] }] }) L), 88, ({ svp with
     grants := [(3, 10^9 + 5*10^7 - 1080000)] }), (3, 10^9 + 5*10^7 - 1080000), by decide +kernel⟩,
   ⟨(Ac [1] [0x10]), (tk 7 (Ac [1] [0x10])), 9, 4, m7, [0x10], [1], by decide +kernel⟩,
   ⟨(Ac [1,2] [0x10, 0x77]), (tk 7 (Ac [1,2] [0x10, 0x77])), 9, 4, m7, [0x10, 0x77], [1,2], by decide +kernel⟩,
   ⟨(box m8 L), (tk 8 (box m8 L)), 9, 4, m8, by decide +kernel⟩,
   ⟨(box m8b L), (tk 8 (box m8b L)), 9, 4, m8b, by decide +kernel⟩,
   ⟨(box m9 L), (tk 9 (box m9 L)), 9, 4, m9, by decide +kernel⟩,
   ⟨(box m9b (Rs [(0, 12, true)])), (tk 9 (box m9b (Rs [(0, 12, true)]))), 9, 4, m9b, ⟨rq, 0, 2, [12], 12, [12], []⟩,
     12, [(0, 12, true), (1, 12, false)], by decide +kernel⟩,
   ⟨(box m9 (Rs [(0, 12, true)])), (tk 9 (box m9 (Rs [(0, 12, true)]))), 9, 4, m9, ⟨rq, 0, 2, [12], 12, [12], []⟩, 12,
     [(0, 12, true), (1, 12, true)], by decide +kernel⟩,
   ⟨K, rq, cfg, 4, [1,2], [1,2,3,4,5], [7], by decide +kernel⟩,
   ⟨(Rs []), rq, cfg, 4, [1,2], [1,2,3,4], [7], by decide +kernel⟩,
   ⟨L, rq, by decide +kernel⟩,
   ⟨(con 1 5 5 L), rq, 3, 2, 0, by decide +kernel⟩,
   ⟨(Pn []), rq, 3, 2, 0, by decide +kernel⟩,
   ⟨L, rq, 3, 2, [], 1, [], [], [], by decide +kernel⟩,
   ⟨(Rs []), rq, 3, 2, [], 1, [], [], [], by decide +kernel⟩,
   ⟨L, rq, 3, 2, 5, by decide +kernel⟩,
   ⟨(Rs []), rq, 3, 2, 5, by decide +kernel⟩,
   ⟨Lp, rq, by decide +kernel⟩,
   ⟨L, rq, by decide +kernel⟩,
   ⟨L, rq, 3, 2, [5], by decide +kernel⟩,
   ⟨(ck (fun c => { c with served := List.replicate 256 sv }) L), rq, 3, 2, [5], by decide +kernel⟩,
   ⟨(con 1 5 5 Lp), rq, 3, 2, 0, by decide +kernel⟩,
   ⟨L, rq, 3, 2, [], 1, [], [], [], by decide +kernel⟩⟩

end C21

namespace C22

def run (s : State) : State := (List.range 32).foldl (fun s k => s.sf (CORE_STATUS k) CORE_STATUS_STATE 1) s
def Y : State := { run (S0.sf DEV_STATUS DEV_STATUS_STAGE 6) with clock := 10^10, mem := [(5, 1), (accelBase + 4, 7)], hostMem := [(5, 1)], aon := ⟨9, 8, false, true⟩ }
def wp (f : Pins → Pins) (s : State) : State := { s with pins := f s.pins }

/-- States and operands that meet the hypotheses of SuppliesAndResetsAct, clause by clause. -/
theorem witness_SuppliesAndResetsAct :
    (∃ (s : State) (x : Byte), s.gf DEV_STATUS DEV_STATUS_STAGE = 0 ∧ s.pins.mainInRange = true ∧ s.pins.aonInRange =
      true)
    ∧ (∃ (s : State) (x : Byte), s.gf DEV_STATUS DEV_STATUS_STAGE ≠ 0 ∨ s.pins.mainInRange = false ∨ s.pins.aonInRange =
      false)
    ∧ (∃ (s : State) (c : Instr), (c = .hotReset ∨ c = .dlDown) ∧ s.pins.perstN = true ∧ s.pins.mainInRange = true ∧
      s.pins.aonInRange = true)
    ∧ (∃ (s : State), s.pins.perstN = true ∧ s.pins.mainInRange = true ∧ s.pins.aonInRange = true)
    ∧ (∃ (s : State), s.pins.perstN = false ∨ s.pins.mainInRange = false ∨ s.pins.aonInRange = false)
    ∧ (∃ (s : State) (q : Requester), devWrites q = true ∧ s.pins.perstN = true ∧ s.pins.mainInRange = true ∧
      s.pins.aonInRange = true)
    ∧ (∃ (s : State) (q : Requester) (v : W32), devWrites q = false ∨ v ≠ devResetKey)
    ∧ (∃ (s : State) (r : W16) (mv : W32), s.pins.perstN = true ∧ s.gf DEV_STATUS DEV_STATUS_STAGE ≠ 0 ∧ s.fltValid 2 =
      false ∧ s.safe = false)
    ∧ (∃ (s : State) (r : W16) (mv : W32), s.pins.perstN = false ∨ s.gf DEV_STATUS DEV_STATUS_STAGE = 0)
    ∧ (∃ (s : State) (x : Byte), s.gf DEV_STATUS DEV_STATUS_STAGE = 0 ∧ s.pins.perstN = true ∧ s.pins.aonInRange = true)
    ∧ (∃ (s : State) (x : Byte), s.gf DEV_STATUS DEV_STATUS_STAGE ≠ 0 ∨ s.pins.perstN = false ∨ s.pins.aonInRange =
      false)
    ∧ (∃ (s : State) (u : Fin 3) (ppm : W32), s.gf DEV_STATUS DEV_STATUS_STAGE ≠ 0 ∧ s.fltValid 2 = false)
    ∧ (∃ (s : State) (u : Fin 3) (ppm : W32), s.gf DEV_STATUS DEV_STATUS_STAGE = 0)
    ∧ (∃ (s : State) (p : Fin 8), s.safe = false ∧ p.val ∈ s.pins.aperst ∧ p.val ∉ s.pins.rootHeld)
    ∧ (∃ (s : State) (p : Fin 8), s.safe = true ∨ p.val ∉ s.pins.aperst ∨ p.val ∈ s.pins.rootHeld)
    ∧ (∃ (s : State) (d : Fin 4) (w : BitVec 4) (vwc : Bool) (m : Nat) (nss : List (Nat × Nat × Bool)), s.safe = false ∧
      d.val ∈ s.pins.dperst)
    ∧ (∃ (s : State) (d : Fin 4) (w : BitVec 4) (vwc : Bool) (m : Nat) (nss : List (Nat × Nat × Bool)), s.safe = true ∨
      d.val ∉ s.pins.dperst)
    ∧ (∃ (s : State) (p : Fin 12) (l : W32), p.val ∈ s.pins.rootUp ∧ p.val < 8 ∧ s.fltValid 1 = false)
    ∧ (∃ (s : State) (p : Fin 12) (l : W32), p.val ∈ s.pins.rootUp ∧ 8 ≤ p.val ∧ s.sto.cmds = [] ∧ s.fltValid 1 = false)
    ∧ (∃ (s : State) (p : Fin 12) (l : W32), p.val ∉ s.pins.rootUp) :=
  ⟨⟨S0, 5, by decide +kernel⟩,
   ⟨Y, 5, by decide +kernel⟩,
   ⟨Y, .hotReset, by decide +kernel⟩,
   ⟨Y, by decide +kernel⟩,
   ⟨(wp (fun p => { p with mainInRange := false }) Y), by decide +kernel⟩,
   ⟨(Y.sf FLT_STATUS FLT_STATUS_SAFE 1), .host, by decide +kernel⟩,
   ⟨Y, .host, 5, by decide +kernel⟩,
   ⟨Y, 3, 5, by decide +kernel⟩,
   ⟨S0, 3, 5, by decide +kernel⟩,
   ⟨(wp (fun p => { p with mainInRange := false }) S0), 3, by decide +kernel⟩,
   ⟨Y, 3, by decide +kernel⟩,
   ⟨Y, 2, 3, by decide +kernel⟩,
   ⟨S0, 2, 3, by decide +kernel⟩,
   ⟨(wp (fun p => { p with aperst := [3] }) Y), 3, by decide +kernel⟩,
   ⟨(wp (fun p => { p with aperst := [3] }) Y), 4, by decide +kernel⟩,
   ⟨(wp (fun p => { p with dperst := [3] }) Y), 3, 4, true, 5, [(1,2,true)], by decide +kernel⟩,
   ⟨(wp (fun p => { p with dperst := [3] }) Y), 2, 4, true, 5, [(1,2,true)], by decide +kernel⟩,
   ⟨(wp (fun p => { p with rootUp := [3] }) Y), 3, 4, by decide +kernel⟩,
   ⟨(wp (fun p => { p with rootUp := [9] }) Y), 9, 4, by decide +kernel⟩,
   ⟨(wp (fun p => { p with rootUp := [9] }) Y), 8, 4, by decide +kernel⟩⟩

end C22

end Sys2Proof.Tests
end

/-! Register accesses (00_scope.md R3, R4): the register range in the device address space, and what an access of the
register range or of a BAR4 page (R347) does by its size and place. -/

namespace Sys2Proof.Machine

/-! ### Little-endian spellings (R2) -/

@[simp] theorem leBytes_length (n : Nat) : ∀ v, (leBytes n v).length = n := by
  induction n with
  | zero => intro v; rfl
  | succ n ih => intro v; simp [leBytes, ih]

theorem leNat_leBytes (n : Nat) : ∀ v, leNat (leBytes n v) = v % 256 ^ n := by
  induction n with
  | zero => intro v; simp [leBytes, leNat, Nat.mod_one]
  | succ n ih =>
    intro v
    rw [leBytes, leNat, ih, BitVec.toNat_ofNat, Nat.pow_succ' (m := 256), Nat.mod_mul]

/-- The four bytes of a word spell the word. -/
@[simp] theorem ofNat_leNat_leBytes (v : W32) : BitVec.ofNat 32 (leNat (leBytes 4 v.toNat)) = v := by
  rw [leNat_leBytes, ← BitVec.toNat_inj, BitVec.toNat_ofNat]
  have := v.isLt
  omega

/-- The first four bytes of a spelled pair of words are the lower word's, the rest the upper word's. -/
@[simp] theorem take_leBytes_append (v : Nat) (bs : List Byte) : (leBytes 4 v ++ bs).take 4 = leBytes 4 v :=
  List.take_left' (leBytes_length 4 v)
@[simp] theorem drop_leBytes_append (v : Nat) (bs : List Byte) : (leBytes 4 v ++ bs).drop 4 = bs :=
  List.drop_left' (leBytes_length 4 v)

/-! ### The register range of the device address space (R3) -/

theorem regionOf_regs {off : Nat} (h : off < 0x2000000) : regionOf (0xF000000000 + off) = .regs := by
  have hbm : ¬ 0xF000000000 + off < hbmBytes := by simp only [hbmBytes]; omega
  have scratch : ¬ (scratchBase ≤ 0xF000000000 + off ∧ 0xF000000000 + off < scratchBase + 0x40000000) := by
    simp only [scratchBase]; omega
  have regs : regsBase ≤ 0xF000000000 + off ∧ 0xF000000000 + off < regsBase + 0x2000000 := by
    simp only [regsBase]; omega
  rw [regionOf, if_neg hbm, if_neg scratch, if_pos regs]

theorem regOff_regs (off : Nat) : regOff (0xF000000000 + off) = off := by
  simp only [regOff, regsBase]; omega

/-- No access of the register range waits for READY (R174). -/
theorem State.hbmHeld_regs (s : State) (off : Nat) : s.hbmHeld (0xF000000000 + off) = false := by
  have hbm : ¬ 0xF000000000 + off < hbmBytes := by simp only [hbmBytes]; omega
  rw [State.hbmHeld, decide_eq_false hbm, Bool.false_and]

theorem State.busLoad_regs (s : State) (q : Requester) {off : Nat} (n : Nat) (h : off < 0x2000000) :
    s.busLoad q (0xF000000000 + off) n = regLoad q off n s := by
  rw [State.busLoad, if_pos (regionOf_regs h), regOff_regs]

theorem State.busStore_regs (s : State) (q : Requester) {off : Nat} (bs : List Byte) (poison : Bool) (h : off < 0x2000000) :
    s.busStore q (0xF000000000 + off) bs poison = regStore q off bs s := by
  rw [State.busStore, if_pos (regionOf_regs h), regOff_regs]

/-! ### Accesses of the register range by size (R4) -/

section
variable {q : Requester} {off n : Nat} {bs : List Byte} {s : State}

/-- A pair of words does not fit in one word, wherever it starts. -/
theorem not_inWord_of_eight (off : Nat) : ¬ off % 4 + 8 ≤ 4 := by omega

theorem aligned_eq_true {k v : Nat} : aligned k v = true ↔ v % k = 0 := by simp [aligned]

theorem wordLoad_of_reaches (b : Nat) (h : s.hostReaches q off = true) : wordLoad q off b n s = regRead off b n s := by
  rw [wordLoad, if_pos h]

theorem wordStore_of_reaches (v : W32) (h : s.hostReaches q off = true) : wordStore q off v s = regWrite q off v s := by
  rw [wordStore, if_pos h]

theorem regLoad_inWord (hn : off % 4 + n ≤ 4) (h : s.hostReaches q (off / 4 * 4) = true) :
    regLoad q off n s = (none, ((leBytes 4 (regRead (off / 4 * 4) (off % 4) n s).1.toNat).drop (off % 4)).take n,
      (regRead (off / 4 * 4) (off % 4) n s).2) := by
  rw [regLoad, if_pos hn, wordLoad_of_reaches _ h]

theorem regLoad_pair (ha : off % 8 = 0) (h : s.hostReaches q off = true)
    (h' : (regRead off 0 4 s).2.hostReaches q (off + 4) = true) :
    regLoad q off 8 s = (none, leBytes 4 (regRead off 0 4 s).1.toNat
      ++ leBytes 4 (regRead (off + 4) 0 4 (regRead off 0 4 s).2).1.toNat, (regRead (off + 4) 0 4 (regRead off 0 4 s).2).2) := by
  rw [regLoad, if_neg (not_inWord_of_eight off), if_pos ⟨rfl, aligned_eq_true.2 ha⟩, wordLoad_of_reaches _ h]
  simp only [wordLoad_of_reaches _ h']

theorem regLoad_other (hw : 4 < off % 4 + n) (hp : ¬(n = 8 ∧ off % 8 = 0)) :
    regLoad q off n s = if q = .host then (none, List.replicate n 0, s) else (some .address, [], s) := by
  rw [regLoad, if_neg (Nat.not_le.2 hw), if_neg (by rwa [aligned_eq_true])]

theorem regStore_word (v : W32) (ha : off % 4 = 0) (h : s.hostReaches q off = true) :
    regStore q off (leBytes 4 v.toNat) s = (none, regWrite q off v s) := by
  simp [regStore, ha, wordStore_of_reaches _ h]

/-- A write of less than a word completes and has no effect. -/
theorem regStore_short (hl : bs.length < 4) (hw : off % 4 + bs.length ≤ 4) : regStore q off bs s = (none, s) := by
  simp [regStore, hw, Nat.ne_of_lt hl]

theorem regStore_pair (lo hi : W32) (ha : off % 8 = 0) (h : s.hostReaches q off = true)
    (h' : (regWrite q off lo s).hostReaches q (off + 4) = true) :
    regStore q off (leBytes 4 lo.toNat ++ leBytes 4 hi.toNat) s = (none, regWrite q (off + 4) hi (regWrite q off lo s)) := by
  simp [regStore, aligned_eq_true.2 ha, wordStore_of_reaches _ h, wordStore_of_reaches _ h']

theorem regStore_other (hw : 4 < off % 4 + bs.length) (hp : ¬(bs.length = 8 ∧ off % 8 = 0)) :
    regStore q off bs s = if q = .host then (none, s) else (some .address, s) := by
  rw [regStore, if_neg (Nat.not_le.2 hw), if_neg (by rwa [aligned_eq_true])]

/-! ### Accesses of a BAR4 page by size (R4, R347) -/

theorem pageLoad_inWord (hn : off % 4 + n ≤ 4) :
    pageLoad off n s = (((leBytes 4 (pageRead (off / 4 * 4) (off % 4) n s).1.toNat).drop (off % 4)).take n,
      (pageRead (off / 4 * 4) (off % 4) n s).2) := by
  rw [pageLoad, if_pos hn]

theorem pageLoad_other (hw : 4 < off % 4 + n) (hp : ¬(n = 8 ∧ off % 8 = 0)) :
    pageLoad off n s = (List.replicate n 0, s) := by
  rw [pageLoad, if_neg (Nat.not_le.2 hw), if_neg (by rwa [aligned_eq_true])]

theorem pageStore_word (v : W32) (ha : off % 4 = 0) : pageStore off (leBytes 4 v.toNat) s = pageWrite off v s := by
  rw [pageStore, if_pos ⟨leBytes_length 4 _, aligned_eq_true.2 ha⟩, ofNat_leNat_leBytes]

theorem pageStore_pair (lo hi : W32) (ha : off % 8 = 0) :
    pageStore off (leBytes 4 lo.toNat ++ leBytes 4 hi.toNat) s = pageWrite (off + 4) hi (pageWrite off lo s) := by
  simp [pageStore, aligned_eq_true.2 ha]

theorem pageStore_other (hw : bs.length ≠ 4) (hp : ¬(bs.length = 8 ∧ off % 8 = 0)) : pageStore off bs s = s := by
  rw [pageStore, if_neg (fun h => hw h.1), if_neg (by rwa [aligned_eq_true])]

end

/-! ### The commands that access registers -/

theorem exec_registerRead_bar0 {s : State} {q : Requester} {off : BitVec 26} (len : Fin 4097)
    (h : s.bar0Claims q off.toNat = true) :
    exec (.registerRead q .bar0 off len) s = .next ((regLoad q off.toNat len.val s).2.2.answered
      (regLoad q off.toNat len.val s).1 (regLoad q off.toNat len.val s).2.1) :=
  if_pos h

theorem exec_registerWrite_bar0 {s : State} {q : Requester} {off : BitVec 26} (data : List Byte)
    (h : s.bar0Claims q off.toNat = true) :
    exec (.registerWrite q .bar0 off data) s
      = .next ((regStore q off.toNat data s).2.answered (regStore q off.toNat data s).1 []) :=
  if_pos h

/-- The host's accesses of the BAR4 pages are claimed. -/
theorem bar4_claimed {s : State} {off : BitVec 26} (hc : s.claims = true) (ho : off.toNat < 0x2000000) :
    (Requester.host == .host && s.claims && decide (off.toNat < 0x2000000)) = true := by
  rw [hc, decide_eq_true ho]; rfl

theorem exec_registerRead_bar4 {s : State} {off : BitVec 26} (len : Fin 4097) (hc : s.claims = true)
    (ho : off.toNat < 0x2000000) :
    exec (.registerRead .host .bar4 off len) s
      = .next ((pageLoad off.toNat len.val s).2.answered none (pageLoad off.toNat len.val s).1) :=
  if_pos (bar4_claimed hc ho)

theorem exec_registerWrite_bar4 {s : State} {off : BitVec 26} (data : List Byte) (hc : s.claims = true)
    (ho : off.toNat < 0x2000000) :
    exec (.registerWrite .host .bar4 off data) s = .next ((pageStore off.toNat data s).answered none []) :=
  if_pos (bar4_claimed hc ho)

/-- With debug scope [1] the JTAG port's accesses of the register range are claimed (R318). -/
theorem State.bar0Claims_jtag {s : State} {off : Nat} (hs : s.scope 1 = true) (ho : off < 0x2000000) :
    s.bar0Claims .jtag off = true := by
  rw [State.bar0Claims, decide_eq_true ho, hs]; rfl

theorem exec_jtagRead {s : State} {addr : BitVec 52} (len : BitVec 8) (hs : s.scope 1 = true)
    (hh : s.hbmHeld addr.toNat = false) :
    exec (.jtagAccess (.read addr len)) s = .next ((s.busLoad .jtag addr.toNat len.toNat).2.2.answered
      (s.busLoad .jtag addr.toNat len.toNat).1 (s.busLoad .jtag addr.toNat len.toNat).2.1) := by
  have held : ¬ (s.scope 1 && s.hbmHeld addr.toNat) = true := by simp [hh]
  exact (if_neg held).trans (if_pos hs)

theorem exec_jtagWrite {s : State} {addr : BitVec 52} (data : List Byte) (hs : s.scope 1 = true)
    (hh : s.hbmHeld addr.toNat = false) :
    exec (.jtagAccess (.write addr data)) s = .next ((s.busStore .jtag addr.toNat data false).2.answered
      (s.busStore .jtag addr.toNat data false).1 []) := by
  have held : ¬ (s.scope 1 && s.hbmHeld addr.toNat) = true := by simp [hh]
  exact (if_neg held).trans (if_pos hs)

/-! ### The obligations -/

/-- Settles O7: the register range starts at 0xF0_0000_0000, outside HBM, so a bus access there is the register access, and
the JTAG port's command makes it at once. -/
theorem registersAppearInDeviceSpace : Obligations.RegistersAppearInDeviceSpace := by
  unfold Obligations.RegistersAppearInDeviceSpace
  refine ⟨?jtagRead, ?jtagWrite, ?busLoad, ?busStore⟩
  case jtagRead =>
    intro s off addr len hs ho ha
    rw [exec_jtagRead len hs (ha ▸ s.hbmHeld_regs _), ha, s.busLoad_regs _ _ ho,
      exec_registerRead_bar0 _ (State.bar0Claims_jtag hs ho)]
  case jtagWrite =>
    intro s off addr data hs ho ha
    rw [exec_jtagWrite data hs (ha ▸ s.hbmHeld_regs _), ha, s.busStore_regs _ _ _ ho,
      exec_registerWrite_bar0 _ (State.bar0Claims_jtag hs ho)]
  case busLoad => exact fun s q off n ho => s.busLoad_regs q n ho
  case busStore => exact fun s q off bs poison ho => s.busStore_regs q bs poison ho

/-- Settles O8: each clause is one branch of `regLoad` or `regStore` (BAR0), or of `pageLoad` or `pageStore` (BAR4), as the
claimed command answers it. -/
theorem registerAccessesFollowTheirSize : Obligations.RegisterAccessesFollowTheirSize := by
  unfold Obligations.RegisterAccessesFollowTheirSize
  refine ⟨?readInWord, ?writeWord, ?writeShort, ?readPair, ?writePair, ?hostReadOther, ?hostWriteOther, ?readOther,
    ?writeOther, ?pageWriteOther, ?pageReadOther, ?pageWriteWord, ?pageWritePair, ?pageReadInWord⟩
  case readInWord =>
    intro s q off len hc hr hn
    rw [exec_registerRead_bar0 len hc, regLoad_inWord hn hr]
  case writeWord =>
    intro s q off v hc hr ha
    rw [exec_registerWrite_bar0 _ hc, regStore_word v ha hr]
  case writeShort =>
    intro s q off data hc hl hw
    rw [exec_registerWrite_bar0 data hc, regStore_short hl hw]
  case readPair =>
    intro s q off hc hr ha hr'
    rw [exec_registerRead_bar0 8 hc, show (8 : Fin 4097).val = 8 from rfl, regLoad_pair ha hr hr']
  case writePair =>
    intro s q off lo hi hc hr ha hr'
    rw [exec_registerWrite_bar0 _ hc, regStore_pair lo hi ha hr hr']
  case hostReadOther =>
    intro s off len hc hw hp
    rw [exec_registerRead_bar0 len hc, regLoad_other hw hp, if_pos rfl]
  case hostWriteOther =>
    intro s off data hc hw hp
    rw [exec_registerWrite_bar0 data hc, regStore_other hw hp, if_pos rfl]
  case readOther =>
    intro s q off len hq hc hw hp
    rw [exec_registerRead_bar0 len hc, regLoad_other hw hp, if_neg hq]
  case writeOther =>
    intro s q off data hq hc hw hp
    rw [exec_registerWrite_bar0 data hc, regStore_other hw hp, if_neg hq]
  case pageWriteOther =>
    intro s off data hc ho hw hp
    rw [exec_registerWrite_bar4 data hc ho, pageStore_other hw hp]
  case pageReadOther =>
    intro s off len hc ho hw hp
    rw [exec_registerRead_bar4 len hc ho, pageLoad_other hw hp]
  case pageWriteWord =>
    intro s off v hc ho ha
    rw [exec_registerWrite_bar4 _ hc ho, pageStore_word v ha]
  case pageWritePair =>
    intro s off lo hi hc ho ha
    rw [exec_registerWrite_bar4 _ hc ho, pageStore_pair lo hi ha]
  case pageReadInWord =>
    intro s off len hc ho hn
    rw [exec_registerRead_bar4 len hc ho, pageLoad_inWord hn]

end Sys2Proof.Machine
